-- ==== Sys2Proof/Word.lean ====
section
/-! DEFINITION. The word types: what the module reads, writes and computes as bits. -/

namespace Sys2Proof

/-- A byte. -/
abbrev Byte := BitVec 8

/-- A register: 32 bits (R30). -/
abbrev Word := BitVec 32

/-- A 64-bit value: MT, tick, stage and forecast numbers, identities, counters (R54, R55). -/
abbrev Word64 := BitVec 64

end Sys2Proof
end

