-- ==== Sys2Proof/Syntax.lean ====
section
/-! DEFINITION. The commands of the module, one constructor per row of the table of operations, and the types of
their operands. -/

namespace Sys2Proof

/-- The 58 register pages, in page-index order (R45). -/
inductive Page where
  | sys | cfgx | host | rng | irq | time | auth | fwu | thm | pwr | tdm | wit | way | sbx
  | sns (n : Fin 16)
  | mod | chg | est | ost | bal | cth | prot | trip | safe | slay | spt | pwm
  | loop (n : Fin 8)
  | can (n : Fin 4)
  | eth (n : Fin 4)
  deriving DecidableEq, Repr

/-- What a BOOT phase found (R437): the phase's own checks hold; of the image written at manufacture the code 2 or 3
of R412, if it fails that check; whether the settings are readable, need conversion, or are absent; the lanes that failed
their test vectors (R190). -/
structure BootReport where
  ok : Bool
  wrote : Bool
  imageCode : Nat
  settings : Nat
  laneFails : BitVec 32
  deriving DecidableEq, Repr

/-- Where an uncorrectable ECC error lies (R21). -/
inductive EccPlace where
  | lpddr | sram | laneMemory | mramFirmware | mramSettings | mramJournal
  | strongbox (offset : Nat) | waybill (segment frame : Nat)
  deriving DecidableEq, Repr

/-- The output stages of OUT cause [7] (R21). -/
inductive OutStage where
  | pwm (pair : Fin 8) | keep (group : Fin 4) | trip (group : Fin 4) | driveEn | tpo (k : Fin 8) | mclk (g : Fin 2)
  deriving DecidableEq, Repr

/-- Where a network message came from: a UDP datagram on an ETH port with its sender's address and port, or a CAN XL
frame on a controller. -/
inductive NetSource where
  | udp (port : Fin 4) (mac : BitVec 48) (ip : BitVec 128) (udpPort : BitVec 16)
  | canxl (c : Fin 4)
  deriving DecidableEq, Repr

/-- The paths a command message arrives by (R402). -/
inductive CmdPath where
  | ring (n : Fin 4) | mailbox | net (src : NetSource)
  deriving DecidableEq, Repr

/-- The head and the check of a tandem frame (R277): the lane it came by, its LSEQ and its CHECK; the payload stands
beside it. -/
structure TandemHead where
  lane : Fin 2
  lseq : Word64
  check : Word
  deriving DecidableEq, Repr

/-- The head of a command message (R398): the key slot, the target identity, the counter and the 16-byte tag. -/
structure CmdHead where
  slot : Byte
  target : Word64
  counter : Word64
  tag : List Byte
  deriving DecidableEq, Repr

/-- A ring descriptor in host memory (R49): its 32 bytes as the host wrote them, the bytes its buffer holds on an H→M ring,
and whether the link fails an access to that buffer. -/
structure Desc where
  bytes : List Byte
  data : List Byte := []
  busErr : Bool := false
  deriving DecidableEq, Repr

/-- A change of limits as LIMIT_WRITE's PARAMS carry it (R398): kind, first and last channel, and the 24-byte part. -/
structure LimitChange where
  kind : Byte
  first : BitVec 16
  last : BitVec 16
  part : List Byte
  deriving DecidableEq, Repr

/-- What the 10 MHz reads of the safety inputs' pins returned since the reads reported before (R250): of each pin the
runs of equal reads in order, with their lengths. Pins 0 to 15 are SINA0 to SINA15, 16 to 31 SINB0 to SINB15, and 32
is SRST_IN. -/
structure PinReads where
  runs : List (Nat × List (Bool × Nat))
  deriving DecidableEq, Repr
/-- What the pins gave over the tick that ends at a TICK_BOUNDARY: for each modulator input the sum over its sampled
bits (+1 and −1) and their number; the reads of the safety inputs' pins up to the boundary; the first 64 bits of the
lowest-numbered enabled input of each clock group (R109), and the levels of PEER_ALIVE and PEER_DRIVE_EN at the boundary. -/
structure TickInputs where
  sums : List Int
  counts : List Nat
  reads : PinReads
  bits0 : BitVec 64
  bits1 : BitVec 64
  peerAlive : Bool
  peerDriveEn : Bool
  deriving DecidableEq, Repr
/-- What the lanes' rotating cross-checks showed in a step (R184): bit l, the comparison of owner lane l differed. -/
structure LaneObservations where
  differ : BitVec 32
  deriving DecidableEq, Repr
/-- How a third lane's result compares with an owner's and a checker's (R186). -/
inductive ThirdResult where
  | matchesOwner | matchesChecker | neither
  deriving DecidableEq, Repr
/-- The bits of a bitstream up to the last one of a filter's window: bit k of `ones` is the bit k places before the
last, bit k of `sampled` says whether it was sampled (R111, R116). -/
structure BitWindow where
  ones : Nat
  sampled : Nat
  deriving DecidableEq, Repr
/-- Where an Espiton frame came from, and the address it was sent to (R267). -/
structure EspSource where
  net : NetSource
  addr : BitVec 16
  deriving DecidableEq, Repr
/-- The time before DRIVE_EN_RAISE, and for how many ns PEER_DRIVE_EN has read low: 0 where it reads high (R292). -/
structure DriveRise where
  dt : Nat
  low : Nat
  deriving DecidableEq, Repr
/-- A level, and for how many filter cycles of 10 ns a pin has held it (R387). -/
structure HeldLevel where
  level : Bool
  cycles : Nat
  deriving DecidableEq, Repr
/-- The bits of MOD0 to MOD11 up to the last one of each input's latest control output (R116). -/
structure ControlInputs where
  windows : List BitWindow
  deriving DecidableEq, Repr
/-- The pins' reads of a test-pulse window: those up to its offset 200 µs, and those from there to 300 µs (R256). -/
structure WindowReads where
  to200 : PinReads
  to300 : PinReads
  deriving DecidableEq, Repr
/-- A CAN frame, as the frame record of R348 holds it: identifier, FMT code, flags, requested or payload length, the XL
fields and the payload. -/
structure CanFrame where
  id : Nat
  fmt : Nat
  brs : Bool := false
  esi : Bool := false
  rtr : Bool := false
  rrs : Bool := false
  dlc : Nat := 0
  dlen : Nat
  sdt : Nat := 0
  vcid : Nat := 0
  sec : Bool := false
  af : Nat := 0
  data : List Byte
  deriving DecidableEq, Repr
/-- How a transmit attempt ended (R349). -/
inductive CanOutcome where
  | sent | arbLost | bitError | stuffError | formError | ackError | crcError | busOff
  deriving DecidableEq, Repr
/-- What came in on a CAN bus: a frame with its SOF stamp and the receive error counter, an error with both counters and
whether the node went bus-off, or a protocol exception. -/
inductive CanRx where
  | frame (f : CanFrame) (sof : Word) (rec : Byte)
  | error (tec rec : Byte) (off : Bool)
  | exception
  deriving DecidableEq, Repr
/-- A frame as the MAC received it, from the destination address to the last byte before the FCS, and whether its FCS was
right. -/
structure EthFrame where
  bytes : List Byte
  fcsOk : Bool
  deriving DecidableEq, Repr
/-- The address an ARP request or a neighbour solicitation asks for. -/
inductive AskedAddr where
  | ip4 (a : BitVec 32) | ip6 (a : BitVec 128)
  deriving DecidableEq, Repr
/-- An Announce message (R379): its domain, the grandmaster's priority1, clockClass, clockAccuracy,
offsetScaledLogVariance, priority2 and identity, stepsRemoved, and the sender's port identity. -/
structure PtpAnnounce where
  domain : Byte
  prio1 : Byte
  cls : Byte
  accuracy : Byte
  variance : BitVec 16
  prio2 : Byte
  gm : Word64
  steps : BitVec 16
  sender : BitVec 80
  deriving DecidableEq, Repr

/-- The commands the module takes from outside and the events at its pins, links and clocks: one constructor per row
of the table of operations. The operand `dt` of a command is the module time in ns that passed since the command before
it (log entry 2); `mt` never passes a tick boundary on a command that is not itself that boundary. -/
inductive Instr where
  /-- POWER_ON (R434). VAON rises into range, the safety island restarts and the module is held in RESET. -/
  | powerOn
  /-- SUPPLY_OUT_OF_RANGE (R432). VIN12 or VAON leaves its recommended range, so the island forces RESET and drops
  queued MRAM writes. -/
  | supplyOutOfRange (dt : Nat) (vaon : Bool)
  /-- SUPPLY_HOLD_OFF_EXPIRY (R432). 1 ms after both supplies are in range the island stops holding RESET for supply
  reasons. -/
  | supplyHoldOffExpiry
  /-- RESET_N_LOW (R433). A filtered RESET_N low of at least t_rst_min forces the R22 outputs and resets the module,
  except in THERMAL_SHUTDOWN. -/
  | resetNLow (dt : Nat)
  /-- RESET_N_RELEASE (R17). RESET_N is released with supplies in range and the module enters BOOT. -/
  | resetNRelease (strapB : Bool)
  /-- BOOT_PHASE_DONE (R437). A BOOT phase completes and the next one starts; after phase 9 the module enters READY or
  UNCONFIGURED. -/
  | bootPhaseDone (dt : Nat) (r : BootReport)
  /-- BOOT_TIMEOUT (R17). READY or UNCONFIGURED is not reached within t_boot_ready, which counts as a failed boot
  attempt. -/
  | bootTimeout (dt : Nat)
  /-- SYS_RST (R435). A write of SYS.RST with KEY 0xB7 resets the module, except in ACTIVE where it is ignored and
  flagged. -/
  | sysRst (dt : Nat) (key : Byte)
  /-- OUT_RESTART (R436). After the OUT record is durable and t_out_hold has passed, the island resets the module when
  OUTRST allows it. -/
  | outRestart (dt : Nat)
  /-- LOCKSTEP_MISMATCH (R21). A lockstep comparator of the application cluster or the safety island detects a mismatch. -/
  | lockstepMismatch (dt : Nat) (island : Bool)
  /-- UNCORRECTABLE_ECC_ERROR (R21). An uncorrectable ECC error in DRAM, SRAM, lane memory or a protected MRAM region
  is an OUT cause. -/
  | uncorrectableEccError (dt : Nat) (m : EccPlace)
  /-- WATCHDOG_EXPIRY (R21). The safety island watchdog over the application cluster expires, which is an OUT cause. -/
  | watchdogExpiry (dt : Nat)
  /-- OUTPUT_LOOPBACK_FAILURE (R232). An output pad readback mismatches on two consecutive edges, which is OUT cause [7]. -/
  | outputLoopbackFailure (dt : Nat) (pad : OutStage) (confirmed : Bool)
  /-- CLOCK_MONITOR_FAULT (R58). Main PLL loss of lock, or a reference count deviating by more than 2 % over 1 ms, is
  OUT cause [8]. -/
  | clockMonitorFault (dt : Nat)
  /-- VIO_BANK_FAULT (R452). VIO0, VIO1 or VIO2 outside its range for 10 µs is OUT cause [7]. -/
  | vioBankFault (dt : Nat) (bank : Fin 4)
  /-- AON32_LOSS (R440). AON_32K is absent, so SYS.STAT.AON32 is set and the island times from its RC oscillator. -/
  | aon32Loss (dt : Nat)
  /-- DIODE_OVER_LIMIT (R428). A diode reads 125 °C or more; the island forces safe outputs, powers down VIN12 domains
  and writes a THERMAL record. -/
  | diodeOverLimit (dt : Nat) (diode : Fin 16) (reading : Int)
  /-- THERMAL_COOL_EXPIRY (R429). All diodes have stayed below 95 °C for t_thsd_cool and the island releases RESET. -/
  | thermalCoolExpiry (dt : Nat)
  /-- PFW_FALL (R438). PFW_N is taken low after t_pfw_filt; MRAM writes no longer start and interrupt source 196 is
  raised. -/
  | pfwFall (dt : Nat)
  /-- PFW_RISE (R337). PFW_N rises and waiting Strongbox, journal and BOOT writes resume. -/
  | pfwRise (dt : Nat)
  /-- ROLE_FORMATION (R439). A READY module with its signature armed takes a role by itself as SYS.CFG.FORM and the
  peer's state decide. -/
  | roleFormation (dt : Nat)
  /-- FORMATION_WAIT_EXPIRY (R439). Module B's t_form_wait ends without hearing A ACTIVE, and B forms as module A would. -/
  | formationWaitExpiry (dt : Nat)
  /-- FORMATION_JOIN_RETRY (R439). A failed join during formation is retried every 1 s. -/
  | formationJoinRetry (dt : Nat)
  /-- CONTACTOR_RELEASE (R245). An authenticated command that releases the named trip groups at its effect tick. -/
  | contactorRelease (dt : Nat) (path : CmdPath) (h : CmdHead) (groups : BitVec 4)
  /-- DISPATCH_ENABLE (R225). An authenticated command that enables or withdraws the dispatch target. -/
  | dispatchEnable (dt : Nat) (path : CmdPath) (h : CmdHead) (enable : Bool)
  /-- LIMIT_WRITE (R241). An authenticated command that changes a channel range or the string block of the limit set,
  checked against its carried CRC. -/
  | limitWrite (dt : Nat) (path : CmdPath) (h : CmdHead) (change : LimitChange) (newCrc : Word)
  /-- ROLE_ASSIGN (R18). An authenticated command that moves the module to READY or into a role, subject to the join
  and signature conditions. -/
  | roleAssign (dt : Nat) (path : CmdPath) (h : CmdHead) (role : Byte)
  /-- PLANNED_RELAY (R302). An authenticated command that schedules a DRIVE_EN hand-over to the joined standby at a
  TB0 period boundary. -/
  | plannedRelay (dt : Nat) (path : CmdPath) (h : CmdHead)
  /-- STRONGBOX_CLEAR (R340). An authenticated command that writes a CLEAR record and frees locked records with SEQ up
  to X. -/
  | strongboxClear (dt : Nat) (path : CmdPath) (h : CmdHead) (x : Word)
  /-- FW_ACTIVATE (R415). An authenticated command that schedules a reboot into an image slot at a given MT. -/
  | fwActivate (dt : Nat) (path : CmdPath) (h : CmdHead) (slot : Byte) (activateAt : BitVec 64)
  /-- KEY_LOAD (R406). An authenticated command that unwraps and loads a key and permission mask into a slot or the
  pack key. -/
  | keyLoad (dt : Nat) (path : CmdPath) (h : CmdHead) (target : Byte) (perm : BitVec 16) (wrapped : List Byte)
  /-- CONFIG_SIGNATURE_COMMIT (R41). An authenticated command that stores the expected signature and arms the
  signature check when it equals the live one. -/
  | configSignatureCommit (dt : Nat) (path : CmdPath) (h : CmdHead) (sig : Word)
  /-- CALIBRATION_CYCLE (R163). An authenticated command that arms every present channel for a calibration cycle with
  a deadline. -/
  | calibrationCycle (dt : Nat) (path : CmdPath) (h : CmdHead) (hours : BitVec 16)
  /-- EVENT_INPUT_EFFECT (R67). At the start of its effect tick an accepted event input runs its effect-tick checks
  and takes effect in both modules. -/
  | eventInputEffect
  /-- COMPLETION_RECORD_RELEASE (R403). Once the effect tick has begun and the input is acknowledged, the completion
  record goes to the command's path. -/
  | completionRecordRelease (dt : Nat)
  /-- PAGE_ENABLE (R36). A write of CTRL.EN = 1 to a DISABLED page runs the enable check and starts the block or sets
  REFMISS. -/
  | pageEnable (dt : Nat) (page : Page) (value : Word)
  /-- BLOCK_START_DONE (R35). The block start ends and the page goes to RUNNING or FAULT, or on into DISABLING when EN
  was cleared meanwhile. -/
  | blockStartDone (dt : Nat) (page : Page)
  /-- PAGE_DISABLE (R35). A write of CTRL.EN = 0 to a RUNNING or FAULT page starts DISABLING and can disarm the
  signature check. -/
  | pageDisable (dt : Nat) (page : Page) (value : Word)
  /-- BLOCK_STOPPED (R35). The block has stopped and the page enters DISABLED, or ENABLING when EN is 1 again. -/
  | blockStopped (dt : Nat) (page : Page)
  /-- BLOCK_FAULT (R35). A block fault defined in the block chapter takes a RUNNING page to FAULT. -/
  | blockFault (dt : Nat) (page : Page)
  /-- CONFIG_WRITE (R38). A write to a CF field is stored while the page is DISABLED and otherwise ignored, counted
  and flagged. -/
  | configWrite (dt : Nat) (page : Page) (off : Nat) (value : Word)
  /-- FLAGS_CLEAR (R34). A W1C write to FLAGS clears the named bits, and clearing IGNWR also clears IGNORED. -/
  | flagsClear (dt : Nat) (page : Page) (off : Nat) (mask : Word)
  /-- REGISTER_WRITE (R43). A write to a register that has no behaviour of its own stores the whole register. -/
  | registerWrite (dt : Nat) (page : Page) (off : Nat) (value : Word)
  /-- SCRUB_PASS (R39). The scrubber recomputes every RUNNING page's CRC and the live signature, and a mismatch is OUT
  cause [3]. -/
  | scrubPass (dt : Nat)
  /-- BAR_ACCESS_REJECTED (R30). A disallowed BAR0 access or an unmapped BAR2 access returns 0 or is discarded and is
  counted in HOST.REJECT. -/
  | barAccessRejected (dt : Nat) (bar2 : Bool) (off : Nat) (write : Bool)
  /-- LINK_RESET (R31). A function level reset, hot reset, PERST or link-down returns HOST and RNG to DISABLED and
  abandons descriptors in flight. -/
  | linkReset (dt : Nat)
  /-- SPI_WRITE_FRAME (R53). A management SPI write frame commits its words only when its CRC and length are correct. -/
  | spiWriteFrame (dt : Nat) (bytes : List Byte)
  /-- SPI_READ_FRAME (R52). A management SPI read frame returns the data words and a CRC. -/
  | spiReadFrame (dt : Nat) (bytes : List Byte)
  /-- RING_DOORBELL (R48). A write of RNG.HIDXn posts work or buffers on ring n, or stops the ring when occupancy
  exceeds N. -/
  | ringDoorbell (dt : Nat) (ring : Fin 128) (hidx : Word) (descs : List (Option Desc))
  /-- RING_RESTART (R51). A write of RNG.RESTART sets MIDX to HIDX, abandons the descriptors between them and restarts
  a stopped ring. -/
  | ringRestart (dt : Nat) (ring : Fin 128)
  /-- RING_DRAIN_TIMEOUT (R47). An M→H ring without a free descriptor for DRAIN_MS sets its DRAIN bit and
  RNG.FLAGS.DRAIN. -/
  | ringDrainTimeout (dt : Nat) (ring : Fin 128)
  /-- TICK_BOUNDARY (R55). MT reaches a multiple of 500 µs; the integrators latch, the command coaches launch and
  tick-rate work runs. -/
  | tickBoundary (x : TickInputs)
  /-- INPUT_DEADLINE (R63). At offset 350 µs of a tick, compartments not yet accepted become missing and the missing
  bitmap is recorded. -/
  | inputDeadline
  /-- STAGE_BOUNDARY (R68). MT reaches a multiple of 10 ms; the stage charges are computed and the next step is
  scheduled on the lanes. -/
  | stageBoundary
  /-- STAGE_STEP_RUN (R132). The lanes execute each channel's mixing, sigma-point filter and probability update for
  the step. -/
  | stageStepRun (dt : Nat) (x : LaneObservations)
  /-- BIST_DONE (R186). The test vectors end and the owner, the checker or both are retired, or a third lane recomputes. -/
  | bistDone (dt : Nat) (lane : Fin 32) (ownerFails : Bool) (checkerFails : Bool) (third : ThirdResult)
  /-- STEP_PUBLISHED (R148). Every output record and the EST aggregates are written within t_stage_pub and the stage
  digest is sent. -/
  | stepPublished (dt : Nat)
  /-- FORECAST_BOUNDARY (R171). At the end of a forecast period the power capability search starts for every valid
  channel. -/
  | forecastBoundary
  /-- FORECAST_PUBLISHED (R172). String and channel capabilities are published within t_fc_pub and bind from the next
  tick. -/
  | forecastPublished (dt : Nat)
  /-- CALIBRATION_DEADLINE (R163). The calibration deadline passes and channels not done go to failed. -/
  | calibrationDeadline (dt : Nat)
  /-- JOURNAL_WRITE_START (R166). A queued journal image starts its slot write once PFW_N is high and no other write
  is in progress. -/
  | journalWriteStart (dt : Nat)
  /-- JOURNAL_WRITE_DONE (R166). A journal slot write completes within t_jw. -/
  | journalWriteDone (dt : Nat)
  /-- PARAMETER_SET_WRITE (R144). A BAR2 write to a parameter set is stored, or discarded and counted when the set is
  in use. -/
  | parameterSetWrite (dt : Nat) (off : Nat) (bytes : List Byte)
  /-- PARAMETER_SET_SCRUB (R144). The CRC of every set in use is recomputed, and a mismatch is OUT cause [3]. -/
  | parameterSetScrub (dt : Nat)
  /-- LIMIT_TABLE_WRITE (R237). A host write to the channel limits table is discarded and counted in PROT.TBLREJ. -/
  | limitTableWrite (dt : Nat) (off : Nat) (bytes : List Byte)
  /-- COMMAND_COACH_RECEIVED (R94). A port receives a command coach from the other end, and three in a row end B's
  driving and heal the ring. -/
  | commandCoachReceived (dt : Nat) (ring : Fin 16) (lineOk : Bool) (bytes : List Byte)
  /-- DATA_COACH_RECEIVED (R63). A data coach is checked and its compartments are accepted, relayed and applied to
  limits and alerts. -/
  | dataCoachReceived (dt : Nat) (ring : Fin 16) (lineOk : Bool) (bytes : List Byte)
  /-- ALERT_COACH_RECEIVED (R96). An accepted alert coach asserts the ring's front-end alert source and is recorded in
  the Waybill. -/
  | alertCoachReceived (dt : Nat) (ring : Fin 16) (lineOk : Bool) (bytes : List Byte)
  /-- REPEAT_COACH_SEND (R87). At t_repeat_first and then every t_repeat_gap, a repeat coach requests the positions
  still lacking. -/
  | repeatCoachSend (dt : Nat) (ring : Fin 16)
  /-- FAR_WAIT_EXPIRY (R94). Module B has no command coach by t_far_wait and drives the next tick. -/
  | farWaitExpiry (dt : Nat) (ring : Fin 16)
  /-- SYMBOL_LOCK_LOSS (R93). A port loses symbol lock for t_lock_loss, which declares a break. -/
  | symbolLockLoss (dt : Nat) (ring : Fin 16)
  /-- FRONT_END_LOST (R95). A configured front-end missing in both modules for LOSS_TICKS ticks becomes LOST and
  asserts ring loss. -/
  | frontEndLost (dt : Nat) (ring : Fin 16) (pos : Fin 4)
  /-- ENUMERATION_WAIT_EXPIRY (R90). Module B's port receives no A-end coach in the first 20 ticks of ENABLING and
  starts active enumeration. -/
  | enumerationWaitExpiry (dt : Nat) (ring : Fin 16)
  /-- CHALLENGE_DUE (R98). A challenge falls due 86,400 s after the last pass, or 600 s after a failure, and a nonce
  is sent. -/
  | challengeDue (dt : Nat) (ring : Fin 16) (pos : Fin 4)
  /-- CHALLENGE_RETRY (R98). After a failed attempt a fresh attempt is made at least t_chal_gap later. -/
  | challengeRetry (dt : Nat) (ring : Fin 16) (pos : Fin 4)
  /-- CHALLENGE_ALL (R98). A write of SNS.CMD.CHALLENGE_ALL challenges every reached position. -/
  | challengeAll (dt : Nat) (ring : Fin 16)
  /-- REENUM (R91). A write of SNS.CMD.REENUM re-sends ASSIGN for every hop at the driving end. -/
  | reenum (dt : Nat) (ring : Fin 16)
  /-- COMPARTMENT (R88). A relayed compartment from the peer is applied when no in-time direct copy exists and it
  arrives by t_relay_accept. -/
  | relayedCompartment (dt : Nat) (f : TandemHead) (bytes : List Byte)
  /-- VERDICT (R98). A challenge verdict from the peer is taken for a challenge this module did not see. -/
  | verdict (dt : Nat) (f : TandemHead) (bytes : List Byte)
  /-- MCKSEL_CHANGE (R111). MCKSEL changes and the named module becomes clock driver after t_mclk_sw, counting
  unsampled bits. -/
  | mckselChange (dt : Nat) (toB : Bool) (unsampled0 : Nat) (unsampled1 : Nat)
  /-- CLOCK_LOSS (R119). MCKRg shows no edge for t_clk_loss or a bad period, so every input of the group becomes invalid. -/
  | clockLoss (dt : Nat) (group : Fin 2) (unsampled : Nat)
  /-- STUCK_RUN (R119). A run of STUCK × 16 identical bits makes the input invalid and is counted. -/
  | stuckRun (dt : Nat) (input : Fin 12)
  /-- INDEX_LOCK (R109). The driver's bits and latches are matched at offsets −2 to +2 and the follower locks or fails
  the attempt. -/
  | indexLock (dt : Nat) (f : TandemHead) (bytes : List Byte) (own : BitVec 68)
  /-- STAGE_PATH_SAMPLE (R239). The stage filter's tick sample updates the slow over-current counts and the quiet-tick
  test. -/
  | stagePathSample (dt : Nat) (input : Fin 12) (w : BitWindow)
  /-- FAST_FILTER_OUTPUT (R238). A fast filter output updates the fast over-current and over-voltage counts. -/
  | fastFilterOutput (dt : Nat) (input : Fin 12) (ones : Nat) (sampled : Nat)
  /-- RELEASE (R245). A write of TRIP.CMD.RELEASE releases the named host-release groups at the effect tick. -/
  | tripRelease (dt : Nat) (groups : BitVec 4)
  /-- MAN_SET (R464). A write of TRIP.CMD.MAN_SET sets source MANUAL and stores its level in MRAM. -/
  | manSet (dt : Nat)
  /-- MAN_CLR (R464). A write of TRIP.CMD.MAN_CLR clears source MANUAL and stores its level in MRAM. -/
  | manClr (dt : Nat)
  /-- CONTROL_SAMPLE (R219). A slot's sample runs notch, ramp and law and stands the new duty in the shadow register
  within t_ctl. -/
  | controlSample (dt : Nat) (slot : Fin 8) (x : ControlInputs)
  /-- PWM_UPDATE_POINT (R231). At a pair's period start or centre the shadowed on-time loads. -/
  | pwmUpdatePoint (dt : Nat) (pair : Fin 8) (centre : Bool)
  /-- LOOP_STATE_DIGEST (R233). At each MT multiple of 1 ms every slot's state image CRC is formed and a LOOP_DIGEST
  frame sent. -/
  | loopStateDigest
  /-- SP_HOST_WRITE (R222). A write of LOOPn.SP_HOST is accepted and mirrored as an event input by the active only. -/
  | spHostWrite (dt : Nat) (slot : Fin 8) (value : Word)
  /-- MEAS_WRITE (R222). A write of LOOPn.MEAS is accepted and mirrored as an event input by the active only. -/
  | measWrite (dt : Nat) (slot : Fin 8) (value : Word)
  /-- DUTY_WRITE (R222). A write of PWM.DUTYn is accepted and mirrored as an event input by the active only. -/
  | dutyWrite (dt : Nat) (pair : Fin 8) (value : Word)
  /-- DISP_SP_WRITE (R222). A write of SPT.DISP_SP is accepted and mirrored as an event input by the active only. -/
  | dispSpWrite (dt : Nat) (value : Word)
  /-- TCOOL_WRITE (R212). A write of CTH.TCOOLz is accepted and mirrored as an event input by the active only. -/
  | tcoolWrite (dt : Nat) (zone : Fin 4) (value : Word)
  /-- ZONE_STALE (R212). No coolant write has taken effect for STALE seconds, so the zone is stale with demand 1. -/
  | zoneStale (dt : Nat) (zone : Fin 4)
  /-- SPIN_PERIOD (R223). A rising edge closes a SPIN period whose duty or frequency updates the value and the LOS count. -/
  | spinPeriod (dt : Nat) (k : Fin 4) (high : Nat) (period : Nat)
  /-- SPIN_LOS_TIMEOUT (R223). No SPIN rising edge arrives for LOS_MS ms and the input enters LOS. -/
  | spinLosTimeout (dt : Nat) (k : Fin 4)
  /-- SET_POINT_STREAM_FRAME (R224). A stream frame is checked for identity, COUNT and tag and its value accepted or
  the frame rejected. -/
  | setPointStreamFrame (dt : Nat) (k : Fin 8) (bytes : List Byte)
  /-- STREAM_TIMEOUT (R224). No stream frame is accepted for TIMEOUT ms and the stream enters LOS. -/
  | streamTimeout (dt : Nat) (k : Fin 8)
  /-- IMPEDANCE_PUBLISHED (R207). Tone results that meet the window conditions replace the previous values within
  t_z_pub. -/
  | impedancePublished (dt : Nat)
  /-- UNBLOCK (R203). A write of BAL.CMD.UNBLOCK unblocks channel CH. -/
  | unblock (dt : Nat) (ch : Fin 512)
  /-- UNBLOCK_ALL (R203). A write of BAL.CMD.UNBLOCK_ALL unblocks every channel. -/
  | unblockAll (dt : Nat)
  /-- ZSEL_LATCH (R214). A write of BAL.ZSEL latches channel CH's impedance results within t_zsel. -/
  | zselLatch (dt : Nat) (ch : Fin 512)
  /-- SENSOR_RESTORE (R210). A write of CTH.CMD restores a BROKEN sensor to OK and writes a rolling record. -/
  | sensorRestore (dt : Nat) (ch : Fin 512) (s0 : Bool) (s1 : Bool)
  /-- MSEL_LATCH (R214). A write of CTH.MSEL latches channel CH's network nodes into CTH.TMOD. -/
  | mselLatch (dt : Nat) (ch : Fin 512)
  /-- TEST_WINDOW_CLOSE (R256). At a window's close the deferred sample is taken and a verified window judges TPFAIL
  and SHORT. -/
  | testWindowClose (dt : Nat) (tpo : Fin 8) (x : WindowReads)
  /-- STUCK_RESET (R262). SRST_IN active for 6,001 samples enters STUCK_RESET and writes a rolling record. -/
  | stuckReset (dt : Nat)
  /-- STUCK_RESET_END (R262). 2,000 consecutive inactive samples end STUCK_RESET. -/
  | stuckResetEnd (dt : Nat)
  /-- DATA (R268). A received Espiton DATA frame is judged for format, check, age and sequence and accepted or rejected. -/
  | espitonData (dt : Nat) (src : EspSource) (bytes : List Byte)
  /-- ECHO (R271). A received Espiton ECHO frame is judged by a producing connection and accepted or rejected. -/
  | espitonEcho (dt : Nat) (src : EspSource) (bytes : List Byte)
  /-- ESPITON_PERIOD (R271). At each multiple of PERIOD_MS the active sends a consumer's ECHO or a producer's DATA frame. -/
  | espitonPeriod (dt : Nat) (conn : Fin 8)
  /-- HEARTBEAT_SEND (R279). A HEARTBEAT is sent on both tandem links at every multiple of t_hb. -/
  | heartbeatSend (dt : Nat)
  /-- HEARTBEAT (R276). A received heartbeat that passes its check makes the peer heard and updates time, ACKSEQ and
  interlock comparison. -/
  | heartbeat (dt : Nat) (f : TandemHead) (bytes : List Byte)
  /-- PEER_SILENT (R279). No heartbeat has been heard for t_silent; the peer is silent and a standby seeks the lease
  or flags a double fault. -/
  | peerSilent (dt : Nat)
  /-- LINK_DOWN (R278). A link delivers no valid frame for t_silent while the other does, and is declared down. -/
  | linkDown (dt : Nat) (lane : Fin 2)
  /-- LINK_UP (R278). A down link delivers valid frames without a gap for t_link_up and is up again. -/
  | linkUp (dt : Nat) (lane : Fin 2)
  /-- INTERLOCK_AGREEMENT (R294). After 1 s of agreement ILK clears. -/
  | interlockAgreement (dt : Nat)
  /-- PEER_DRIVE_EN_HIGH (R292). PEER_DRIVE_EN reads high while DRIVE_EN is high, so DRIVE_EN drops within t_ilk and a
  record is written. -/
  | peerDriveEnHigh (dt : Nat)
  /-- DRIVE_EN_RAISE (R292). At a permitted TB0 period boundary the module in ACTIVE drives DRIVE_EN high. -/
  | driveEnRaise (x : DriveRise)
  /-- MIRROR (R282). A MIRROR frame's items are queued in the standby for their effect ticks and ACKSEQ advances. -/
  | mirror (dt : Nat) (f : TandemHead) (bytes : List Byte)
  /-- MIRROR_GAP (R284). An MSEQ gap unfilled for t_mir_gap triggers a full repair and is counted. -/
  | mirrorGap (dt : Nat)
  /-- STAGE_DIGEST (R286). The standby compares the active's stage digest with its own and requests repair on a mismatch. -/
  | stageDigest (dt : Nat) (f : TandemHead) (bytes : List Byte)
  /-- LOOP_DIGEST (R286). The standby compares the active's loop digests with its own and requests repair on a mismatch. -/
  | loopDigest (dt : Nat) (f : TandemHead) (bytes : List Byte)
  /-- REPAIR_REQ (R287). The active answers a repair request with harness, slot, journal and mirrored state blocks. -/
  | repairReq (dt : Nat) (f : TandemHead) (bytes : List Byte)
  /-- REPAIR_DATA (R287). The standby installs the repaired channel, slot or journal state and counts the repair. -/
  | repairData (dt : Nat) (f : TandemHead) (bytes : List Byte)
  /-- REPAIR_ALL (R287). A write of TDM.CMD.REPAIR_ALL makes a standby request a full repair. -/
  | repairAll (dt : Nat)
  /-- HEALTH_SEND (R290). At every MT multiple of 1 s a HEALTH record goes to the peer, the event ring and the TDM
  registers. -/
  | healthSend (dt : Nat)
  /-- HEALTH_NOW (R290). A write of TDM.CMD.HEALTH_NOW sends a HEALTH record at once. -/
  | healthNow (dt : Nat)
  /-- HEALTH (R290). A received HEALTH record is stored in TDM.PHEALTH. -/
  | health (dt : Nat) (f : TandemHead) (bytes : List Byte)
  /-- HEALTH_STALE (R290). A heard peer in a role has sent no HEALTH record for 3 s and HSTALE is set. -/
  | healthStale (dt : Nat)
  /-- ABDICATE (R303). A standby accepting ABDICATE with PEER_ALIVE and PEER_DRIVE_EN low takes ACTIVE without the
  witness. -/
  | abdicate (dt : Nat) (f : TandemHead) (bytes : List Byte)
  /-- SERVICE (R278). A SERVICE request is executed as a management SPI frame and answered, or a reply is placed on
  ring 122 or 123. -/
  | tandemService (dt : Nat) (f : TandemHead) (bytes : List Byte)
  /-- RELAY_SWITCH (R302). At the relay period's start the DRIVE_EN hand-over and the role change of a planned relay
  take place. -/
  | relaySwitch (dt : Nat)
  /-- RENEW_TIMER (R298). Every t_renew the active sends RENEW with its term. -/
  | renewTimer (dt : Nat)
  /-- PROBE_TIMER (R298). Every PROBE_MS the standby sends PROBE, and each module probes every enabled entry once per
  second. -/
  | probeTimer (dt : Nat)
  /-- PROBE (R297). A witness answers an accepted PROBE with STATE. -/
  | witnessProbe (dt : Nat) (bytes : List Byte) (src : NetSource)
  /-- RENEW (R297). A witness extends the lease of the holder of the term or refuses not holder. -/
  | witnessRenew (dt : Nat) (bytes : List Byte) (src : NetSource)
  /-- ACQUIRE (R297). A witness grants a newer term when no lease is live, or refuses for a live lease or stale term. -/
  | witnessAcquire (dt : Nat) (bytes : List Byte) (src : NetSource)
  /-- YIELD (R297). A witness ends the holder's lease at once and answers STATE. -/
  | witnessYield (dt : Nat) (bytes : List Byte) (src : NetSource)
  /-- WITNESS_QUIET_END (R296). 2 × FRESH after WIT enters RUNNING the witness stops refusing with reason quiet. -/
  | witnessQuietEnd (dt : Nat)
  /-- GRANTED (R298). A grant extends the module's own lease view, and a standby takes ACTIVE on a grant. -/
  | leaseGranted (dt : Nat) (bytes : List Byte)
  /-- REFUSED (R298). A refusal makes the active reacquire, fences it when the peer holds, or starts a back-off. -/
  | leaseRefused (dt : Nat) (bytes : List Byte)
  /-- STATE (R298). A STATE reply reports the witness's term, holder and remaining lease. -/
  | witnessState (dt : Nat) (bytes : List Byte)
  /-- BACKOFF_EXPIRY (R298). REMAIN has elapsed after a lease-live refusal and ACQUIRE may be sent again. -/
  | backoffExpiry (dt : Nat)
  /-- LEASE_VIEW_EXPIRY (R298). The holder's own lease view ends at its request SEQ plus t_lease − t_guard. -/
  | leaseViewExpiry (dt : Nat)
  /-- WITNESS_LOST (R299). No grant for t_wit_lost, or three unanswered probes, loses the witness and starts a switch
  to the next entry. -/
  | witnessLost (dt : Nat)
  /-- WITNESS_RETURN (R299). An earlier entry that has answered both modules for 60 s is proposed again. -/
  | witnessReturn (dt : Nat) (entry : Fin 4)
  /-- STAGE_FRAME_WRITE (R312). The coder drains a queued step into a coded stage frame in the current segment. -/
  | stageFrameWrite (dt : Nat)
  /-- FREEZE (R321). A write of WAY.CMD.FREEZE triggers freezing of the retained segments of the window. -/
  | wayFreeze (dt : Nat)
  /-- RELEASE_SEGMENT (R322). A write of WAY.CMD.RELEASE releases the frozen segment named in SEGARG. -/
  | releaseSegment (dt : Nat)
  /-- EXPORT (R323). A write of WAY.CMD.EXPORT starts exporting a segment with its checkpoint on ring 112 + o. -/
  | exportSegment (dt : Nat)
  /-- ABORT (R324). A write of WAY.CMD.ABORT ends the running export with status ABORTED. -/
  | abortSegment (dt : Nat)
  /-- EXPORT_CHUNK (R323). A posted export buffer is filled with the next bytes and its descriptor completed. -/
  | exportChunk (dt : Nat)
  /-- AUTO_EXPORT_START (R324). With AUTO set and no host export running, the next closed segment starts exporting. -/
  | autoExportStart (dt : Nat)
  /-- BURST_CAPTURE_STOP (R319). POST outputs after a trigger the burst buffer stops and its copy to a slot begins. -/
  | burstCaptureStop (dt : Nat)
  /-- BURST_COPY_DONE (R319). The burst segment is copied and frozen and the buffer resumes filling. -/
  | burstCopyDone (dt : Nat)
  /-- STRONGBOX_WRITE_START (R336). The next queued record in priority order starts its write while PFW_N is high. -/
  | strongboxWriteStart (dt : Nat)
  /-- STRONGBOX_WRITE_DONE (R337). A record write completes and the record is durable. -/
  | strongboxWriteDone (dt : Nat)
  /-- TOKEN_REFILL (R336). The rolling admission bucket gains 4 tokens per second up to 1,024. -/
  | tokenRefill (dt : Nat)
  /-- SEEK (R341). A write of SBX.CUR_CMD.SEEK latches the first retained record with SEQ ≥ CUR_ARG. -/
  | cursorSeek (dt : Nat)
  /-- NEXT (R341). A write of SBX.CUR_CMD.NEXT latches the next retained record. -/
  | cursorNext (dt : Nat)
  /-- CURSOR_DONE (R341). The cursor search ends with a latched record or END within t_sbx_cur. -/
  | cursorDone (dt : Nat)
  /-- STRONGBOX_EXPORT_CHUNK (R343). Retained records are copied whole into a posted buffer in ascending SEQ. -/
  | strongboxExportChunk (dt : Nat)
  /-- STRONGBOX_EXPORT_FLUSH (R343). With no record pending for t_sbx_flush the current export descriptor completes. -/
  | strongboxExportFlush (dt : Nat)
  /-- CAN_TRANSMIT_ATTEMPT (R350). At arbitration the controller enters the winning FIFO or internal head frame. -/
  | canTransmitAttempt (dt : Nat) (c : Fin 4)
  /-- CAN_ATTEMPT_END (R349). A transmit attempt ends and the descriptor completes or the frame is retried. -/
  | canAttemptEnd (dt : Nat) (c : Fin 4) (outcome : CanOutcome) (tec : Byte)
  /-- CAN_FRAME_RECEIVED (R354). A received CAN frame is consumed by a block or filtered into a receive queue. -/
  | canFrameReceived (dt : Nat) (c : Fin 4) (x : CanRx)
  /-- BUS_OFF_RECOVERY (R362). After 128 occurrences of 11 recessive bits a bus-off controller recovers. -/
  | busOffRecovery (dt : Nat) (c : Fin 4)
  /-- CANCEL (R352). A write of CAN.CMD.CANCEL cancels a FIFO's head before its SOF, or marks it TOO_LATE. -/
  | canCancel (dt : Nat) (c : Fin 4) (fifo : Fin 8)
  /-- CANCEL_ALL (R352). A write of CAN.CMD.CANCEL_ALL cancels a FIFO's head and every prefetched frame. -/
  | canCancelAll (dt : Nat) (c : Fin 4) (fifo : Fin 8)
  /-- RECOVER (R362). A write of CAN.CMD.RECOVER starts bus-off recovery. -/
  | canRecover (dt : Nat) (c : Fin 4)
  /-- RXREL (R358). A write of CAN.CMD.RXREL releases the head of a buffer-mode queue. -/
  | rxrel (dt : Nat) (c : Fin 4) (q : Fin 4)
  /-- RXW_READ (R358). A read of CAN.RXW locks the head on its first word and releases it on its last byte. -/
  | rxwRead (dt : Nat) (c : Fin 4) (word : Fin 256)
  /-- FLTW1_COMMIT (R355). A write of CAN.FLTW1 commits both words to element FLTIDX while the page is DISABLED. -/
  | fltw1Commit (dt : Nat) (c : Fin 4) (value : Word)
  /-- WITNESS_RESEND (R360). A witness request that failed with a bit error is re-sent once after a random delay. -/
  | witnessResend (dt : Nat) (c : Fin 4)
  /-- ETH_TRANSMIT (R367). At a frame boundary the MAC starts the highest eligible queue head or completes it with an
  error status. -/
  | ethTransmit (dt : Nat) (p : Fin 4) (frac : BitVec 16)
  /-- ETH_FRAME_RECEIVED (R369). A received frame passes PRP discard and address filter and is consumed or queued. -/
  | ethFrameReceived (dt : Nat) (p : Fin 4) (f : EthFrame) (frac : BitVec 16)
  /-- ARP_REQUEST (R372). An ARP request or neighbour solicitation for an address the module may answer is answered. -/
  | arpRequest (dt : Nat) (p : Fin 4) (addr : AskedAddr) (who : BitVec 48) (whoIp : BitVec 128)
  /-- PAIR_ANNOUNCE (R372). On becoming ACTIVE, and twice more at 100 ms, a gratuitous announcement for the pair
  address is sent. -/
  | pairAnnounce (dt : Nat)
  /-- PRP_SUPERVISION (R374). While ACTIVE, PRP supervision frames are sent on both ports every 2,000 ms. -/
  | prpSupervision (dt : Nat) (p : Fin 4)
  /-- ETH_LINK_CHANGE (R364). A port's link goes up or down, which is flagged. -/
  | ethLinkChange (dt : Nat) (p : Fin 4) (up : Bool) (rate : Fin 4)
  /-- SYNC (R380). A Sync (with its Follow_Up) from the source port drives the servo and the lock state. -/
  | timeSync (dt : Nat) (p : Fin 4) (t1 : Int) (t2 : Int) (correction : Int)
  /-- ANNOUNCE (R379). A qualified Announce feeds the BMCA, which can change the source port. -/
  | ptpAnnounce (dt : Nat) (p : Fin 4) (a : PtpAnnounce)
  /-- DELAY_RESP (R380). A Delay_Resp or Pdelay response completes the path delay computation. -/
  | delayResp (dt : Nat) (p : Fin 4) (t1 : Int) (t2 : Int) (t3 : Int) (t4 : Int)
  /-- DELAY_REQ (R379). A time transmitter port answers a Delay_Req or Pdelay_Req. -/
  | delayReq (dt : Nat) (p : Fin 4) (peer : Bool) (rx : Int)
  /-- TIME_TRANSMIT_PERIOD (R379). A time transmitter port sends Sync and Announce at their configured intervals. -/
  | timeTransmitPeriod (dt : Nat) (p : Fin 4) (announce : Bool)
  /-- HOLDOVER_ENTRY (R381). No Sync from the source port for LOSS_MS enters HOLDOVER at the frozen rate. -/
  | holdoverEntry (dt : Nat)
  /-- IRQ_SOURCE_ASSERT (R386). A source assertion sets pending and counts one event for its target. -/
  | irqSourceAssert (dt : Nat) (src : Fin 256) (level : Bool)
  /-- EXT_IRQ_PIN (R387). A filtered EXT_IRQ transition or level asserts its source. -/
  | extIrqPin (dt : Nat) (pin : Fin 8) (level : HeldLevel)
  /-- TARGET_FIRE (R389). A target reaching COUNT events or its coalescing time latches its pending sources and sends
  MSI-X. -/
  | targetFire (dt : Nat) (t : Fin 6)
  /-- IRQ_CLAIM (R390). A read of IRQ.TGTt_CLAIM moves the highest-priority latched source into service. -/
  | irqClaim (dt : Nat) (t : Fin 6)
  /-- IRQ_COMPLETE (R390). A write of IRQ.TGTt_COMPLETE ends service and re-pends an asserted level source. -/
  | irqComplete (dt : Nat) (t : Fin 6) (value : Word)
  /-- IRQ_PARK (R393). A write of IRQ.TGTt_PARK parks or unparks a target, with fallback delivery. -/
  | irqPark (dt : Nat) (t : Fin 6) (value : Word)
  /-- IRQ_SOURCE_CONFIG (R392). A write of IRQ.SRCs changes a source's mask, route, priority or offset. -/
  | irqSourceConfig (dt : Nat) (src : Fin 256) (value : Word)
  /-- OPEN (R410). A write of FWU.CMD.OPEN opens an upload into a slot. -/
  | openUpload (dt : Nat) (slot : Bool)
  /-- CLOSE (R411). A write of FWU.CMD.CLOSE checks length and CRC and marks the slot LOADED or EMPTY. -/
  | closeUpload (dt : Nat)
  /-- ABORT_UPLOAD (R411). A write of FWU.CMD.ABORT makes the open slot EMPTY. -/
  | abortUpload (dt : Nat)
  /-- RETRY (R414). A write of FWU.CMD.RETRY in the exhausted state makes a slot preferred and resets. -/
  | bootRetry (dt : Nat) (slot : Bool)
  /-- FIRMWARE_CHUNK (R410). An upload chunk on a submit ring is checked and written. -/
  | firmwareChunk (dt : Nat) (ring : Fin 4)
  /-- WINDOW_CHUNK (R410). A write of FWU.WCMD submits the window chunk for checking and writing. -/
  | windowChunk (dt : Nat) (len : BitVec 11)
  /-- ACTIVATION_REBOOT (R416). From the activation MT, when the role allows, the module reboots into the activated slot. -/
  | activationReboot (dt : Nat)
  /-- ACTIVATION_CANCEL (R416). DEFER_H hours without a reboot cancel the activation. -/
  | activationCancel (dt : Nat)
  /-- TRIAL_END (R413). The image's time in a role reaches TRIAL_MIN and its trial ends. -/
  | trialEnd (dt : Nat)
  /-- SV_COMMIT (R417). COMMIT_H hours after the trial, OTP steps are blown until C equals SV. -/
  | svCommit (dt : Nat)
  /-- DIE_MODEL_UPDATE (R423). At 10 kHz the die network is updated, diodes corrected and the throttle level set. -/
  | dieModelUpdate (dt : Nat) (nodes : List Int) (diodes : List Int)
  /-- POWER_SAMPLE (R422). Domain powers are sampled and averaged and the power alarm is evaluated. -/
  | powerSample (dt : Nat) (domains : List Nat) (total : Nat) (mean1s : Nat) (vaon : Nat) (vin12 : Nat)
  /-- NSEL_LATCH (R430). A write of THM.NSEL latches the named node's temperature into THM.NODE. -/
  | nselLatch (dt : Nat) (node : Fin 64)
  /-- MT_LO_READ (R54). A read of TIME.MT_LO latches MT_HI and MT_FRAC. -/
  | mtLoRead (dt : Nat) (frac : BitVec 16)
  /-- NETWORK_SESSION_STATE_MIRROR (R282). Once per second the active mirrors its time-receiver servo state and
  selected time source to the standby as a KIND 0x0007 item. -/
  | networkSessionStateMirror (dt : Nat)
  /-- DELAY_REQUEST_SEND (R380). The active's time receiver sends Delay_Req (or Pdelay_Req under 802.1AS) on its
  source port to measure the path delay. -/
  | delayRequestSend (dt : Nat)
  /-- CAN_BUS_INTEGRATION (R346). After the page enters RUNNING, or after a protocol exception, the controller sees 11
  consecutive recessive bits and begins to take part in bus traffic. -/
  | canBusIntegration (dt : Nat) (c : Fin 4)
  /-- PEER_ALIVE_LOW (R303). PEER_ALIVE falls within 10 µs after an accepted ABDICATE frame, completing the conditions
  for the standby to take ACTIVE. -/
  | peerAliveLow (dt : Nat) (driveEnLow : Bool)
  /-- JOIN_TIMEOUT (R289). A module that has not joined within t_join of ROLE_ASSIGN leaves the ROLE_ASSIGN rejected
  and stays in READY. -/
  | joinTimeout (dt : Nat)
  /-- ACTIVATION_DUE (R416). The activation MT is reached while the role forbids a reboot, so FWU.STAT.DEFERRED and
  FLAGS.DEFER are set and the deferral limit starts. -/
  | activationDue (dt : Nat)
  /-- MALFORMED_COMMAND_MESSAGE (R399). A command message with an unknown CODE, a wrong VER or PLEN, or a wrong length
  is rejected 0x0104, counted, recorded and answered on its path. -/
  | malformedCommandMessage (dt : Nat) (path : CmdPath) (bytes : List Byte)
  deriving DecidableEq, Repr

end Sys2Proof
end

