-- ==== Sys2Proof/Decode.lean ====
section
/-! DEFINITION. The commands a word spells. The table of operations gives no row any bits: a command is an access to a
register, a message, or an event at a pin, link or clock, and no word spells one. -/

namespace Sys2Proof

/-- The command that a word of `nbits` bits spells by the table's bits: none. -/
def decodeTableWord (_nbits _w : Nat) : Option Instr := none

end Sys2Proof
end

