-- ==== Sys2Proof/Config.lean ====
section
/-! DEFINITION. What an implementation fixes, and the free values: constants without a body, so that no proof can lean
on a value the spec leaves open. -/

namespace Sys2Proof.Config

/-- The module identity, fixed at manufacture (AUTH.MODID). -/
opaque modId : Word64

/-- The key of slot 0, written at manufacture (R405). -/
opaque factoryKey : List Byte

/-- Free bytes: nonces and random delays the module draws, numbered by the state's counter (log entry 3). -/
opaque freeNat : Nat → Nat

/-- The limit set a peer holds under a CRC, as the 12,308 bytes of R241, and its LIM_SEQ: the spec gives the adoption of
R248 no carrier (log entry 6). -/
opaque peerLimitSet : Nat → List Byte
opaque peerLimitSeq : Nat → Nat

/-- The tables of R138: coefficients of the quadratics of exp, ln and asinh by segment and degree, and the first edge
and the ratio of the log-spaced grid of asinh. R138 gives the methods and bounds the errors; the tables are free (log
entry 7). -/
opaque expCoef : Nat → Nat → Rat
opaque lnCoef : Nat → Nat → Rat
opaque asinhCoef : Nat → Nat → Rat
opaque asinhFirst : Rat
opaque asinhRatio : Rat

/-- The logarithm of a value that is not positive, and the root of a negative one, which the spec does not give (log
entry 7). -/
opaque lnOther : Rat → Rat
opaque rootOther : Rat → Rat

/-- The error in LSB that R138 allows a digit-recurrence square root or division; used within −1 to +1 (log entry 7). -/
opaque lsbErr : Rat → Int

/-- The quotient of a division by 0 inside a filter step, which the spec does not give (log entry 7). -/
opaque divByZero : Rat → Rat

/-- How often the lanes go round the implicit equations of R124 and R125 for i_sc and i_pl (log entry 8). -/
opaque loopDepth : Nat

/-- Sines of 2π x for the correlators (R206), whose arithmetic the spec does not give (log entry 12). -/
opaque sinTurns : Rat → Rat

/-- tan(π x) for the notch (R220), whose evaluation the spec gives no further than a 53-bit significand (log entry 13). -/
opaque tanPi : Rat → Rat

/-- The header fields of the image written at manufacture (R409), which the spec does not give (log entry 17). -/
opaque factorySv : Nat
opaque factoryGen : Nat
opaque factoryBuild : Nat
opaque factoryArith : Nat
opaque factoryLen : Nat

/-- The SHA-384 of the manufacturer's public key, fused in OTP (R412), which the spec does not give (log entry 17). -/
opaque otpKeyHash : List Byte

/-- SDT and acceptance field of a command reply on CAN XL, which the spec does not give (log entry 21). -/
opaque replySdt : Nat
opaque replyAf : Nat

/-- How many frames of a transmit FIFO a CAN controller prefetches at most, less 1 (log entry 22). -/
opaque canPrefetch : Nat

/-- The most bytes a ring type takes in a descriptor beyond the sizes its chapter uses, which the spec does not give (log
entry 27). -/
opaque ringMaxLen : Nat → Nat

/-- Link state, width and speed as HOST.LINK shows them, which no operation of the table brings (log entry 28). -/
opaque linkBits : Nat → Nat

/-- The node of the die model that contains a diode (R423), which the spec does not give (log entry 24). -/
opaque diodeNode : Nat → Nat

end Sys2Proof.Config
end

