-- ==== Sys2Proof/Machine/Bits.lean ====
section
/-! DEFINITION. Bit fields, sign extension, byte order and fixed-point rounding: the helpers every block uses. -/

namespace Sys2Proof.Machine

/-- The field [hi:lo] of a number. -/
def bits (n hi lo : Nat) : Nat := n / 2 ^ lo % 2 ^ (hi + 1 - lo)

/-- The field [hi:lo] of a register. -/
def fld (w : Word) (hi lo : Nat) : Nat := bits w.toNat hi lo

/-- Bit `n` of a register. -/
def flg (w : Word) (n : Nat) : Bool := w.toNat.testBit n

/-- A number read as a two's-complement value of `w` bits. -/
def signed (w n : Nat) : Int := if n % 2 ^ w < 2 ^ w / 2 then (n % 2 ^ w : Nat) else (n % 2 ^ w : Nat) - (2 ^ w : Nat)

/-- The field [hi:lo] of a register, as a two's-complement value. -/
def sfld (w : Word) (hi lo : Nat) : Int := signed (hi + 1 - lo) (fld w hi lo)

/-- The two's-complement content of `w` bits of an integer. -/
def unsign (w : Nat) (i : Int) : Nat := (i % (2 ^ w : Nat)).toNat

/-- A number with its field [hi:lo] replaced. -/
def putBits (n hi lo v : Nat) : Nat :=
  n - bits n hi lo * 2 ^ lo + v % 2 ^ (hi + 1 - lo) * 2 ^ lo

/-- A register with its field [hi:lo] replaced. -/
def setFld (w : Word) (hi lo v : Nat) : Word := BitVec.ofNat 32 (putBits w.toNat hi lo v)

/-- The number a little-endian run of bytes holds (R2). -/
def leNat : List Byte → Nat
  | [] => 0
  | b :: t => b.toNat + 256 * leNat t

/-- The low `k` bytes of a number, little-endian (R2). -/
def leBytes : Nat → Nat → List Byte
  | 0, _ => []
  | k + 1, n => BitVec.ofNat 8 n :: leBytes k (n / 256)

/-- The number a big-endian run of bytes holds. -/
def beNat (l : List Byte) : Nat := leNat l.reverse

/-- The low `k` bytes of a number, big-endian. -/
def beBytes (k n : Nat) : List Byte := (leBytes k n).reverse

/-- `k` bytes of 0. -/
def zeros (k : Nat) : List Byte := List.replicate k 0

/-- Bytes `o` to `o + k - 1` of a message. -/
def slice (l : List Byte) (o k : Nat) : List Byte := (l.drop o).take k

/-- The little-endian field of `k` bytes at offset `o` of a message. -/
def leAt (l : List Byte) (o k : Nat) : Nat := leNat (slice l o k)

/-- Byte `o` of a message, 0 beyond its end. -/
def byteAt (l : List Byte) (o : Nat) : Nat := (l.getD o 0).toNat

/-- An integer held within `lo` to `hi`. -/
def clampI (lo hi x : Int) : Int := if x < lo then lo else if hi < x then hi else x

/-- A value saturated to the two's-complement range of `w` bits. -/
def satS (w : Nat) (x : Int) : Int := clampI (-(2 ^ (w - 1) : Nat)) ((2 ^ (w - 1) : Nat) - 1) x

/-- Division towards minus infinity, the rounding of an arithmetic right shift. -/
def floorDiv (a : Int) (b : Nat) : Int := Int.fdiv a b

/-- The nearest integer to a rational, halves rounded to even. -/
def roundEven (q : Rat) : Int :=
  let f := q.floor
  let d := q - f
  if d < 1/2 then f else if 1/2 < d then f + 1 else if f % 2 = 0 then f else f + 1

/-- The nearest integer to a rational, ties away from zero. -/
def roundAway (q : Rat) : Int := if 0 ≤ q then (q + 1/2).floor else -((-q + 1/2).floor)

/-- The value of a Qm.n content (R7). -/
def qv (n : Nat) (x : Int) : Rat := (x : Rat) / ((2 ^ n : Nat) : Rat)

/-- The signed 64-bit difference of two full times (R74). -/
def mtDiff (a b : Nat) : Int := signed 64 (unsign 64 ((a : Int) - b))

/-- The full time a 32-bit field stands for beside a reference (R73). -/
def mtExtend (x r : Nat) : Int := (r : Int) + signed 32 (unsign 32 ((x : Int) - r))

/-- The number whose bit `n` is `f n`, for the bits `0` to `k - 1`. -/
def bitsOf (f : Nat → Bool) : Nat → Nat
  | 0 => 0
  | k + 1 => bitsOf f k + (if f k then 2 ^ k else 0)

/-- The number of bits set among the bits `0` to `k - 1`. -/
def popCount (n : Nat) : Nat → Nat
  | 0 => 0
  | k + 1 => popCount n k + (if n.testBit k then 1 else 0)

/-- A saturating unsigned sum of `w` bits. -/
def satAdd (w a b : Nat) : Nat := min (a + b) (2 ^ w - 1)

/-- An element put into a sorted list, before the first that it does not exceed. -/
def insertBy {α : Type} (le : α → α → Bool) (x : α) : List α → List α
  | [] => [x]
  | y :: l => if le x y then x :: y :: l else y :: insertBy le x l

/-- A list sorted; elements that compare equal keep their order. -/
def sortBy {α : Type} (le : α → α → Bool) : List α → List α
  | [] => []
  | x :: l => insertBy le x (sortBy le l)

/-- 0 or 1. -/
def b2n (b : Bool) : Nat := if b then 1 else 0

end Sys2Proof.Machine
end

