-- ==== Sys2Proof/Machine/Crypto.lean ====
section
/-! DEFINITION. The checks and ciphers the spec names: CRC-32C (R36), the Espiton CRC (R266), SHA-256 and HMAC
(FIPS 180-4, 198-1), SHA-384, AES (FIPS 197), CMAC (SP 800-38B), key unwrap (SP 800-38F) and ECDSA over P-384. -/

namespace Sys2Proof.Machine

/-- One bit of a reflected CRC of 32 bits with the reflected polynomial `poly`. -/
def crcBit (poly c : Nat) : Nat := if c % 2 = 1 then c / 2 ^^^ poly else c / 2

/-- One byte of a reflected CRC. -/
def crcByte (poly c : Nat) (b : Byte) : Nat :=
  let c := c ^^^ b.toNat
  crcBit poly (crcBit poly (crcBit poly (crcBit poly (crcBit poly (crcBit poly (crcBit poly (crcBit poly c)))))))

/-- The CRC register after a run of bytes, from `c`. -/
def crcRun (poly : Nat) : Nat → List Byte → Nat
  | c, [] => c
  | c, b :: t => crcRun poly (crcByte poly c b) t

/-- CRC-32C (R36): polynomial 0x1EDC_6F41, reflected, initial value and final XOR 0xFFFF_FFFF. -/
def crc32c (l : List Byte) : Nat := crcRun 0x82F63B78 0xFFFFFFFF l ^^^ 0xFFFFFFFF

/-- Arithmetic of `w`-bit words. -/
def addW (w a b : Nat) : Nat := (a + b) % 2 ^ w
def rotrW (w n x : Nat) : Nat := x / 2 ^ n + x % 2 ^ n * 2 ^ (w - n)
def notW (w x : Nat) : Nat := 2 ^ w - 1 - x

/-- The shape shared by SHA-256 and SHA-384: word width, rotation amounts, round constants. -/
structure ShaParams where
  w : Nat
  s0 : Nat × Nat × Nat
  s1 : Nat × Nat × Nat
  e0 : Nat × Nat × Nat
  e1 : Nat × Nat × Nat
  k : List Nat
  deriving DecidableEq, Repr

/-- The schedule, newest word first, extended `n` times. -/
def shaExtend (p : ShaParams) : Nat → List Nat → List Nat
  | 0, l => l
  | n + 1, l =>
    let a := l.getD 14 0
    let b := l.getD 1 0
    let f0 := rotrW p.w p.s0.1 a ^^^ rotrW p.w p.s0.2.1 a ^^^ (a / 2 ^ p.s0.2.2)
    let f1 := rotrW p.w p.s1.1 b ^^^ rotrW p.w p.s1.2.1 b ^^^ (b / 2 ^ p.s1.2.2)
    shaExtend p n (addW p.w (addW p.w (l.getD 15 0) f0) (addW p.w (l.getD 6 0) f1) :: l)

/-- The rounds over (constant, word) pairs. -/
def shaRounds (p : ShaParams) : List (Nat × Nat) → List Nat → List Nat
  | (k, x) :: t, [a, b, c, d, e, f, g, h] =>
    let s1 := rotrW p.w p.e1.1 e ^^^ rotrW p.w p.e1.2.1 e ^^^ rotrW p.w p.e1.2.2 e
    let ch := (e &&& f) ^^^ (notW p.w e &&& g)
    let t1 := addW p.w (addW p.w h s1) (addW p.w ch (addW p.w k x))
    let s0 := rotrW p.w p.e0.1 a ^^^ rotrW p.w p.e0.2.1 a ^^^ rotrW p.w p.e0.2.2 a
    let maj := (a &&& b) ^^^ (a &&& c) ^^^ (b &&& c)
    shaRounds p t [addW p.w t1 (addW p.w s0 maj), a, b, c, addW p.w d t1, e, f, g]
  | _, l => l

/-- One block of 16 words. -/
def shaBlock (p : ShaParams) (h : List Nat) (ws : List Nat) : List Nat :=
  let sched := (shaExtend p (p.k.length - 16) ws.reverse).reverse
  List.zipWith (addW p.w) h (shaRounds p (List.zip p.k sched) h)

/-- The big-endian words of a block. -/
def beWords (w : Nat) : Nat → List Byte → List Nat
  | 0, _ => []
  | n + 1, l => beNat (l.take (w / 8)) :: beWords w n (l.drop (w / 8))

/-- The blocks of a padded message. -/
def shaBlocks (p : ShaParams) : Nat → List Byte → List Nat → List Nat
  | 0, _, h => h
  | n + 1, l, h => shaBlocks p n (l.drop (2 * p.w)) (shaBlock p h (beWords p.w 16 l))

/-- The padded message. -/
def shaPad (w : Nat) (l : List Byte) : List Byte :=
  let blk := 2 * w
  let lenB := w / 4
  let z := (blk - (l.length + 1 + lenB) % blk) % blk
  l ++ [0x80] ++ zeros z ++ beBytes lenB (8 * l.length)

def shaRun (p : ShaParams) (h0 : List Nat) (l : List Byte) : List Byte :=
  let m := shaPad p.w l
  (shaBlocks p (m.length / (2 * p.w)) m h0).flatMap (beBytes (p.w / 8))

/-- The first 80 primes, whose roots give the constants of FIPS 180-4. -/
def shaPrimes : List Nat :=
  (List.range 410).filter (fun n => 1 < n && [2, 3, 5, 7, 11, 13, 17, 19].all (fun d => n % d != 0 || n == d))

/-- The greatest number below `lo + 2 ^ n` whose power `e` is at most `x`, where `lo` is one such: bit by bit, from
the top. -/
def rootFrom (e x : Nat) : Nat → Nat → Nat
  | 0, lo => lo
  | n + 1, lo => rootFrom e x n (if (lo + 2 ^ n) ^ e ≤ x then lo + 2 ^ n else lo)

/-- The first `w` bits of the fraction of the root `e` of a prime. The roots taken are below 8. -/
def rootBits (e w p : Nat) : Nat := rootFrom e (p * 2 ^ (e * w)) (w + 3) 0 % 2 ^ w

/-- SHA-256 (FIPS 180-4): its constants come from the cube roots of the first 64 primes, its first value from the
square roots of the first 8. -/
def sha256 (l : List Byte) : List Byte :=
  shaRun ⟨32, (7, 18, 3), (17, 19, 10), (2, 13, 22), (6, 11, 25), (shaPrimes.take 64).map (rootBits 3 32)⟩
    ((shaPrimes.take 8).map (rootBits 2 32)) l

/-- SHA-384 (FIPS 180-4): its constants come from the cube roots of the first 80 primes, its first value from the
square roots of the ninth to the sixteenth. -/
def sha384 (l : List Byte) : List Byte :=
  (shaRun ⟨64, (1, 8, 7), (19, 61, 6), (28, 34, 39), (14, 18, 41), shaPrimes.map (rootBits 3 64)⟩
    (((shaPrimes.drop 8).take 8).map (rootBits 2 64)) l).take 48

/-- HMAC-SHA-256 (FIPS 198-1). -/
def hmac256 (key msg : List Byte) : List Byte :=
  let k := if key.length > 64 then sha256 key else key
  let k := k ++ zeros (64 - k.length)
  sha256 (k.map (· ^^^ 0x5C) ++ sha256 (k.map (· ^^^ 0x36) ++ msg))

def aesSboxA : List Nat := [
  0x63, 0x7c, 0x77, 0x7b, 0xf2, 0x6b, 0x6f, 0xc5, 0x30, 0x01, 0x67, 0x2b, 0xfe, 0xd7, 0xab, 0x76,
  0xca, 0x82, 0xc9, 0x7d, 0xfa, 0x59, 0x47, 0xf0, 0xad, 0xd4, 0xa2, 0xaf, 0x9c, 0xa4, 0x72, 0xc0,
  0xb7, 0xfd, 0x93, 0x26, 0x36, 0x3f, 0xf7, 0xcc, 0x34, 0xa5, 0xe5, 0xf1, 0x71, 0xd8, 0x31, 0x15,
  0x04, 0xc7, 0x23, 0xc3, 0x18, 0x96, 0x05, 0x9a, 0x07, 0x12, 0x80, 0xe2, 0xeb, 0x27, 0xb2, 0x75,
  0x09, 0x83, 0x2c, 0x1a, 0x1b, 0x6e, 0x5a, 0xa0, 0x52, 0x3b, 0xd6, 0xb3, 0x29, 0xe3, 0x2f, 0x84,
  0x53, 0xd1, 0x00, 0xed, 0x20, 0xfc, 0xb1, 0x5b, 0x6a, 0xcb, 0xbe, 0x39, 0x4a, 0x4c, 0x58, 0xcf,
  0xd0, 0xef, 0xaa, 0xfb, 0x43, 0x4d, 0x33, 0x85, 0x45, 0xf9, 0x02, 0x7f, 0x50, 0x3c, 0x9f, 0xa8,
  0x51, 0xa3, 0x40, 0x8f, 0x92, 0x9d, 0x38, 0xf5, 0xbc, 0xb6, 0xda, 0x21, 0x10, 0xff, 0xf3, 0xd2]

def aesSboxB : List Nat := [
  0xcd, 0x0c, 0x13, 0xec, 0x5f, 0x97, 0x44, 0x17, 0xc4, 0xa7, 0x7e, 0x3d, 0x64, 0x5d, 0x19, 0x73,
  0x60, 0x81, 0x4f, 0xdc, 0x22, 0x2a, 0x90, 0x88, 0x46, 0xee, 0xb8, 0x14, 0xde, 0x5e, 0x0b, 0xdb,
  0xe0, 0x32, 0x3a, 0x0a, 0x49, 0x06, 0x24, 0x5c, 0xc2, 0xd3, 0xac, 0x62, 0x91, 0x95, 0xe4, 0x79,
  0xe7, 0xc8, 0x37, 0x6d, 0x8d, 0xd5, 0x4e, 0xa9, 0x6c, 0x56, 0xf4, 0xea, 0x65, 0x7a, 0xae, 0x08,
  0xba, 0x78, 0x25, 0x2e, 0x1c, 0xa6, 0xb4, 0xc6, 0xe8, 0xdd, 0x74, 0x1f, 0x4b, 0xbd, 0x8b, 0x8a,
  0x70, 0x3e, 0xb5, 0x66, 0x48, 0x03, 0xf6, 0x0e, 0x61, 0x35, 0x57, 0xb9, 0x86, 0xc1, 0x1d, 0x9e,
  0xe1, 0xf8, 0x98, 0x11, 0x69, 0xd9, 0x8e, 0x94, 0x9b, 0x1e, 0x87, 0xe9, 0xce, 0x55, 0x28, 0xdf,
  0x8c, 0xa1, 0x89, 0x0d, 0xbf, 0xe6, 0x42, 0x68, 0x41, 0x99, 0x2d, 0x0f, 0xb0, 0x54, 0xbb, 0x16]

def aesSub (x : Nat) : Nat := if x < 128 then aesSboxA.getD x 0 else aesSboxB.getD (x - 128) 0

/-- The byte `aesSub` maps to `y`. -/
def aesInvSub (y : Nat) : Nat := ((List.range 256).find? (fun x => aesSub x = y)).getD 0

/-- Doubling and multiplication in the AES field. -/
def xtime (x : Nat) : Nat := if x < 128 then 2 * x else (2 * x - 256) ^^^ 0x1B
def gmulN : Nat → Nat → Nat → Nat
  | 0, _, _ => 0
  | n + 1, a, b => (if b % 2 = 1 then a else 0) ^^^ gmulN n (xtime a) (b / 2)
def gmul (a b : Nat) : Nat := gmulN 8 a b

/-- The key schedule: words of 4 bytes, newest first. -/
def aesExpand (nk : Nat) : Nat → Nat → Nat → List (List Nat) → List (List Nat)
  | 0, _, _, l => l
  | n + 1, i, rc, l =>
    let prev := l.headD []
    let back := l.getD (nk - 1) []
    let (t, rc') :=
      if i % nk = 0 then
        let r := (prev.drop 1 ++ prev.take 1).map aesSub
        ((r.headD 0 ^^^ rc) :: r.drop 1, xtime rc)
      else if nk > 6 && i % nk = 4 then (prev.map aesSub, rc) else (prev, rc)
    aesExpand nk n (i + 1) rc' (List.zipWith (· ^^^ ·) back t :: l)

def chunks4 : Nat → List Nat → List (List Nat)
  | 0, _ => []
  | n + 1, l => l.take 4 :: chunks4 n (l.drop 4)

/-- The round keys of 16 bytes for a key of 16 or 32 bytes, first to last. -/
def aesRoundKeys (key : List Byte) : List (List Nat) :=
  let nk := key.length / 4
  let nr := nk + 6
  let ws := (aesExpand nk (4 * (nr + 1) - nk) nk 1 (chunks4 nk (key.map (·.toNat))).reverse).reverse
  (List.range (nr + 1)).map (fun r => (ws.drop (4 * r)).take 4 |>.flatten)

def xorL (a b : List Nat) : List Nat := List.zipWith (· ^^^ ·) a b
def shiftRows (s : List Nat) : List Nat := (List.range 16).map (fun i => s.getD ((i + 4 * (i % 4)) % 16) 0)
def invShiftRows (s : List Nat) : List Nat := (List.range 16).map (fun i => s.getD ((i + 12 * (i % 4)) % 16) 0)
def mixCol (m : List Nat) (c : List Nat) : List Nat :=
  (List.range 4).map (fun r => (List.range 4).foldl (fun a k => a ^^^ gmul (m.getD ((k + 4 - r) % 4) 0) (c.getD k 0)) 0)
def mixColumns (m s : List Nat) : List Nat := (chunks4 4 s).flatMap (mixCol m)

/-- AES encryption of one block (FIPS 197). -/
def aesEnc (key block : List Byte) : List Byte :=
  let ks := aesRoundKeys key
  let nr := ks.length - 1
  let s0 := xorL (block.map (·.toNat)) (ks.headD [])
  let s := (List.range (nr - 1)).foldl
    (fun s r => xorL (mixColumns [2, 3, 1, 1] (shiftRows (s.map aesSub))) (ks.getD (r + 1) [])) s0
  (xorL (shiftRows (s.map aesSub)) (ks.getD nr [])).map (BitVec.ofNat 8)

/-- AES decryption of one block (FIPS 197). -/
def aesDec (key block : List Byte) : List Byte :=
  let ks := aesRoundKeys key
  let nr := ks.length - 1
  let s0 := xorL (block.map (·.toNat)) (ks.getD nr [])
  let s := (List.range (nr - 1)).foldl
    (fun s r => mixColumns [14, 11, 13, 9] (xorL ((invShiftRows s).map aesInvSub) (ks.getD (nr - 1 - r) []))) s0
  (xorL ((invShiftRows s).map aesInvSub) (ks.headD [])).map (BitVec.ofNat 8)

/-- Doubling of a CMAC subkey. -/
def cmacDouble (l : List Byte) : List Byte :=
  let n := beNat l
  beBytes 16 (if n < 2 ^ 127 then 2 * n else (2 * n - 2 ^ 128) ^^^ 0x87)

def xorB (a b : List Byte) : List Byte := List.zipWith (· ^^^ ·) a b

def cmacRun (key : List Byte) : Nat → List Byte → List Byte → List Byte
  | 0, _, c => c
  | n + 1, l, c => cmacRun key n (l.drop 16) (aesEnc key (xorB c (l.take 16)))

/-- AES-CMAC (SP 800-38B). -/
def cmac (key msg : List Byte) : List Byte :=
  let k1 := cmacDouble (aesEnc key (zeros 16))
  let n := if msg.length = 0 then 1 else (msg.length + 15) / 16
  let last := msg.drop (16 * (n - 1))
  let lastB := if last.length = 16 then xorB last k1
    else xorB (last ++ [0x80] ++ zeros (15 - last.length)) (cmacDouble k1)
  aesEnc key (xorB (cmacRun key (n - 1) msg (zeros 16)) lastB)

/-- One step of the inverse wrapping of SP 800-38F: `t` counts down. -/
def kwStep (key : List Byte) : Nat → List Byte → List (List Byte) → List Byte × List (List Byte)
  | 0, a, r => (a, r)
  | t + 1, a, r =>
    let n := r.length
    let i := t % n
    let b := aesDec key (xorB a (beBytes 8 (t + 1)) ++ r.getD i [])
    kwStep key t (b.take 8) (r.set i (b.drop 8))

def chunks8 : Nat → List Byte → List (List Byte)
  | 0, _ => []
  | n + 1, l => l.take 8 :: chunks8 n (l.drop 8)

/-- AES key unwrap (SP 800-38F, KW): the key, or none where the integrity value is wrong. -/
def kwUnwrap (key wrapped : List Byte) : Option (List Byte) :=
  let n := wrapped.length / 8 - 1
  let (a, r) := kwStep key (6 * n) (wrapped.take 8) (chunks8 n (wrapped.drop 8))
  if a = List.replicate 8 0xA6 then some r.flatten else none

def p384 : Nat := 0xFFFFFFFFFFFFFFFFFFFFFFFFFFFFFFFFFFFFFFFFFFFFFFFFFFFFFFFFFFFFFFFEFFFFFFFF0000000000000000FFFFFFFF
def n384 : Nat := 0xFFFFFFFFFFFFFFFFFFFFFFFFFFFFFFFFFFFFFFFFFFFFFFFFC7634D81F4372DDF581A0DB248B0A77AECEC196ACCC52973
def gx384 : Nat := 0xAA87CA22BE8B05378EB1C71EF320AD746E1D3B628BA79B9859F741E082542A385502F25DBF55296C3A545E3872760AB7
def gy384 : Nat := 0x3617DE4A96262C6F5D9E98BF9292DC29F8F41DBD289A147CE9DA3113B5F0B8C00A60B1CE1D7E819D7A431D7C90EA0E5F

/-- `a ^ e mod m`, by squaring over the low `n` bits of `e`. -/
def powMod (m : Nat) : Nat → Nat → Nat → Nat
  | 0, _, _ => 1 % m
  | n + 1, a, e => (if e % 2 = 1 then a else 1) * powMod m n (a * a % m) (e / 2) % m

def invMod (m a : Nat) : Nat := powMod m 384 (a % m) (m - 2)

/-- Point addition on P-384 in affine form; none is the point at infinity. -/
def ecAdd (a b : Option (Nat × Nat)) : Option (Nat × Nat) :=
  match a, b with
  | none, q => q
  | p, none => p
  | some (x1, y1), some (x2, y2) =>
    if x1 = x2 ∧ (y1 + y2) % p384 = 0 then none
    else
      let l := if x1 = x2 then (3 * x1 * x1 + (p384 - 3)) * invMod p384 (2 * y1) % p384
        else (y2 + p384 - y1) * invMod p384 (x2 + p384 - x1) % p384
      let x3 := (l * l + 2 * p384 - x1 - x2) % p384
      some (x3, (l * (x1 + p384 - x3) + p384 - y1) % p384)

def ecMul : Nat → Nat → Option (Nat × Nat) → Option (Nat × Nat)
  | 0, _, _ => none
  | n + 1, k, p => ecAdd (if k % 2 = 1 then p else none) (ecMul n (k / 2) (ecAdd p p))

/-- ECDSA verification over P-384 of a 48-byte digest under the public key (x, y). -/
def ecdsaP384Verify (x y r s : Nat) (digest : List Byte) : Bool :=
  if r = 0 || s = 0 || n384 ≤ r || n384 ≤ s then false
  else
    let w := invMod n384 s
    let u1 := beNat digest * w % n384
    let u2 := r * w % n384
    match ecAdd (ecMul 384 u1 (some (gx384, gy384))) (ecMul 384 u2 (some (x, y))) with
    | none => false
    | some (vx, _) => vx % n384 = r

end Sys2Proof.Machine
end

