-- ==== Sys2Proof/Machine/Descs.lean ====
section
/-! DEFINITION. Ring descriptors (R2, R49): the fields of their 32 bytes, little-endian, and what the module writes back. -/

namespace Sys2Proof

open Machine

/-- BUF: the buffer's address. -/
def Desc.buf (d : Desc) : Nat := leAt d.bytes 0x00 8

/-- LEN: the byte count to send, or the capacity of an empty buffer. -/
def Desc.len (d : Desc) : Nat := leAt d.bytes 0x08 3

/-- IRQ, bit 26 of the word at 0x08. -/
def Desc.irq (d : Desc) : Bool := (byteAt d.bytes 0x0B).testBit 2

/-- TFLAGS, bits 31 to 27 of the word at 0x08. -/
def Desc.tflags (d : Desc) : Nat := bits (byteAt d.bytes 0x0B) 7 3

/-- TAG. -/
def Desc.tag (d : Desc) : Nat := leAt d.bytes 0x0C 4

/-- LAUNCH: the launch MT, 0 for none. -/
def Desc.launch (d : Desc) : Nat := leAt d.bytes 0x10 8

/-- A descriptor laid out from its fields, with DONE, ERR, STATUS, TSTAT and STAMP at 0. -/
def descBytes (buf len : Nat) (irq : Bool) (tflags tag launch : Nat) : List Byte :=
  leBytes 8 buf ++ leBytes 3 len ++ [BitVec.ofNat 8 (4 * b2n irq + 8 * tflags)] ++ leBytes 4 tag ++ leBytes 8 launch ++ zeros 8

namespace Machine

/-- M→H rings carry empty buffers that the module fills (R46). -/
def ringIsMH (n : Nat) : Bool :=
  (4 ≤ n && n ≤ 15) || (48 ≤ n && n ≤ 63) || (96 ≤ n && n ≤ 119) || n = 122 || n = 123 || n = 126 || n = 127

end Machine

/-- The 32 bytes of a completed descriptor of ring `n` (R49): LEN takes the bytes filled on an M→H ring alone; DONE is
set, ERR where STATUS is not OK; BUF, IRQ, TFLAGS, TAG and LAUNCH stay. -/
def Desc.done (d : Desc) (n status tstat stamp len : Nat) : List Byte :=
  leBytes 8 d.buf ++ leBytes 3 (if ringIsMH n then len else d.len) ++
  [BitVec.ofNat 8 (1 + 2 * b2n (status != 0) + 4 * b2n d.irq + 8 * d.tflags)] ++
  leBytes 4 d.tag ++ leBytes 8 d.launch ++ leBytes 2 status ++ leBytes 2 tstat ++ leBytes 4 stamp

end Sys2Proof
end

