-- ==== Sys2Proof/Machine/RegMap.lean ====
section
/-! DEFINITION. The register map of BAR0: one row per register of the section files' register tables
(offset, stride, count, the bit masks of each access code of R3, and the reset value of R6). -/

namespace Sys2Proof

/-- The page's place in the page index (R45). -/
def Page.index : Page → Nat
  | .sys => 0 | .cfgx => 1 | .host => 2 | .rng => 3 | .irq => 4 | .time => 5 | .auth => 6 | .fwu => 7 | .thm => 8
  | .pwr => 9 | .tdm => 10 | .wit => 11 | .way => 12 | .sbx => 13 | .sns n => 14 + n.val | .mod => 30 | .chg => 31
  | .est => 32 | .ost => 33 | .bal => 34 | .cth => 35 | .prot => 36 | .trip => 37 | .safe => 38 | .slay => 39
  | .spt => 40 | .pwm => 41 | .loop n => 42 + n.val | .can n => 50 + n.val | .eth n => 54 + n.val

/-- The page's number among the pages of its type (R45). -/
def Page.inst : Page → Nat
  | .sns n => n.val | .loop n => n.val | .can n => n.val | .eth n => n.val | _ => 0

/-- The page's BAR0 offset (R45). -/
def Page.base (p : Page) : Nat :=
  let i := p.index
  if i < 14 then 0x1000 * i
  else if i < 30 then 0x10000 + 0x1000 * (i - 14)
  else if i < 42 then 0x20000 + 0x1000 * (i - 30)
  else 0x30000 + 0x1000 * (i - 42)

/-- The 58 pages in page-index order (R45). -/
def allPages : List Page :=
  [.sys, .cfgx, .host, .rng, .irq, .time, .auth, .fwu, .thm, .pwr, .tdm, .wit, .way, .sbx] ++
  (List.finRange 16).map .sns ++
  [.mod, .chg, .est, .ost, .bal, .cth, .prot, .trip, .safe, .slay, .spt, .pwm] ++
  (List.finRange 8).map .loop ++ (List.finRange 4).map .can ++ (List.finRange 4).map .eth

/-- The page that holds a BAR0 offset, or none (R45). -/
def Page.ofOffset (o : Nat) : Option Page :=
  allPages.find? (fun p => p.base ≤ o && o < p.base + 0x1000)

end Sys2Proof

namespace Sys2Proof.Machine

/-- One row of a register table: `cnt` registers from `off` in steps of `stride`; the masks say which bits carry
the access codes RT, CF, W1C, WO and RO of R3 (a reserved bit is in none, R4); `rst` is the reset value of each
register of the row, or the one value they share (R6; a value the firmware loads during BOOT stands as 0 here). -/
structure RegRow where
  off : Nat
  stride : Nat
  cnt : Nat
  rt : Nat
  cf : Nat
  w1c : Nat
  wo : Nat
  ro : Nat
  rst : List Nat
  deriving DecidableEq, Repr

namespace R.SYS
abbrev CFG : Nat := 0x040
abbrev STAT : Nat := 0x800
abbrev RST : Nat := 0x804
abbrev RSTCAUSE : Nat := 0x808
abbrev OUTCAUSE : Nat := 0x80C
abbrev WAITTO : Nat := 0xF00
abbrev RESETS : Nat := 0xF04
end R.SYS

namespace R.CFGX
abbrev STAT : Nat := 0x800
abbrev SIG_STORED : Nat := 0x804
abbrev SIG_LIVE : Nat := 0x808
abbrev PAGEST (n : Nat) : Nat := 0x810 + 4 * n
abbrev DISARMS : Nat := 0xF00
abbrev SCRUBS : Nat := 0xF04
end R.CFGX

namespace R.HOST
abbrev CFG : Nat := 0x040
abbrev LINK : Nat := 0x800
abbrev REJECT : Nat := 0xF00
abbrev REJ_ADDR : Nat := 0xF04
abbrev SPIERR : Nat := 0xF08
end R.HOST

namespace R.RNG
abbrev BASE_LO (n : Nat) : Nat := 0x040 + 8 * n
abbrev BASE_HI (n : Nat) : Nat := 0x044 + 8 * n
abbrev ATTR (n : Nat) : Nat := 0x440 + 4 * n
abbrev HIDX (n : Nat) : Nat := 0x800 + 8 * n
abbrev MIDX (n : Nat) : Nat := 0x804 + 8 * n
abbrev DROP (n : Nat) : Nat := 0xC00 + 4 * n
abbrev RESTART : Nat := 0xE00
abbrev ERR : Nat := 0xF00
abbrev STOP (n : Nat) : Nat := 0xF10 + 4 * n
abbrev DRAIN (n : Nat) : Nat := 0xF20 + 4 * n
end R.RNG

namespace R.IRQ
abbrev TGT_CFG (n : Nat) : Nat := 0x040 + 8 * n
abbrev TGT_COAL (n : Nat) : Nat := 0x044 + 8 * n
abbrev EXT_CFG (n : Nat) : Nat := 0x080 + 4 * n
abbrev SRC (n : Nat) : Nat := 0x800 + 4 * n
abbrev TGT_CLAIM (n : Nat) : Nat := 0xC00 + 16 * n
abbrev TGT_COMPLETE (n : Nat) : Nat := 0xC04 + 16 * n
abbrev TGT_PARK (n : Nat) : Nat := 0xC08 + 16 * n
abbrev TGT_STAT (n : Nat) : Nat := 0xC0C + 16 * n
abbrev PEND (n : Nat) : Nat := 0xD00 + 4 * n
abbrev LATCH (n : Nat) : Nat := 0xD20 + 4 * n
abbrev INSVC (n : Nat) : Nat := 0xD40 + 4 * n
abbrev LINE (n : Nat) : Nat := 0xD60 + 4 * n
abbrev SPURIOUS : Nat := 0xF00
abbrev MASKDLV : Nat := 0xF04
abbrev FBDLV : Nat := 0xF08
abbrev BADCPL : Nat := 0xF0C
end R.IRQ

namespace R.TIME
abbrev CFG : Nat := 0x040
abbrev SERVO : Nat := 0x044
abbrev LOCK : Nat := 0x048
abbrev HOLD : Nat := 0x04C
abbrev STEP : Nat := 0x050
abbrev TXPARAM : Nat := 0x054
abbrev STAT : Nat := 0x800
abbrev MT_LO : Nat := 0x808
abbrev MT_HI : Nat := 0x80C
abbrev MT_FRAC : Nat := 0x810
abbrev OFFSET : Nat := 0x814
abbrev RATE : Nat := 0x818
abbrev PDELAY : Nat := 0x81C
abbrev GMID_LO : Nat := 0x820
abbrev GMID_HI : Nat := 0x824
abbrev CLKID_LO : Nat := 0x828
abbrev CLKID_HI : Nat := 0x82C
abbrev STEPS : Nat := 0xF00
abbrev HOLDOVERS : Nat := 0xF04
abbrev SRCCHGS : Nat := 0xF08
end R.TIME

namespace R.AUTH
abbrev CFG : Nat := 0x040
abbrev NET : Nat := 0x044
abbrev MODID_LO : Nat := 0x800
abbrev MODID_HI : Nat := 0x804
abbrev SLOT_STAT (n : Nat) : Nat := 0x810 + 4 * n
abbrev SLOT_CNT_LO (n : Nat) : Nat := 0x840 + 8 * n
abbrev SLOT_CNT_HI (n : Nat) : Nat := 0x844 + 8 * n
abbrev MBOX_DATA (n : Nat) : Nat := 0x900 + 4 * n
abbrev MBOX_CTRL : Nat := 0xA00
abbrev MBOX_STAT : Nat := 0xA04
abbrev ACCEPTS : Nat := 0xF00
abbrev REJECTS : Nat := 0xF04
abbrev MBOXREJ : Nat := 0xF08
end R.AUTH

namespace R.FWU
abbrev CFG : Nat := 0x040
abbrev STAT : Nat := 0x800
abbrev SLOT_STAT (n : Nat) : Nat := 0x810 + 4 * n
abbrev SLOT_BLD_LO (n : Nat) : Nat := 0x820 + 16 * n
abbrev SLOT_BLD_HI (n : Nat) : Nat := 0x824 + 16 * n
abbrev SLOT_ARITH (n : Nat) : Nat := 0x828 + 16 * n
abbrev SLOT_LEN (n : Nat) : Nat := 0x82C + 16 * n
abbrev ACT_MT_LO : Nat := 0x840
abbrev ACT_MT_HI : Nat := 0x844
abbrev ACT : Nat := 0x848
abbrev CMD : Nat := 0x850
abbrev CLOSE_LEN : Nat := 0x854
abbrev CLOSE_CRC : Nat := 0x858
abbrev WOFF : Nat := 0x860
abbrev WCRC : Nat := 0x868
abbrev WCMD : Nat := 0x864
abbrev NEXT : Nat := 0x86C
abbrev WSTAT : Nat := 0x870
abbrev WIN (n : Nat) : Nat := 0xA00 + 4 * n
abbrev BOOTS : Nat := 0xF00
abbrev FAILBOOTS : Nat := 0xF04
abbrev FALLBACKS : Nat := 0xF08
abbrev XFERERR : Nat := 0xF0C
end R.FWU

namespace R.THM
abbrev CFG : Nat := 0x040
abbrev HYS : Nat := 0x044
abbrev STAT : Nat := 0x800
abbrev TJ : Nat := 0x804
abbrev DEXCL : Nat := 0x808
abbrev DIODE (n : Nat) : Nat := 0x810 + 4 * n
abbrev NSEL : Nat := 0x850
abbrev NODE : Nat := 0x854
abbrev LASTSD_LO : Nat := 0xF00
abbrev LASTSD_HI : Nat := 0xF04
abbrev LASTSD : Nat := 0xF08
abbrev L1S : Nat := 0xF10
abbrev L2S : Nat := 0xF14
abbrev EXCLS : Nat := 0xF18
abbrev SHUTDOWNS : Nat := 0xF1C
end R.THM

namespace R.PWR
abbrev CFG : Nat := 0x040
abbrev P (n : Nat) : Nat := 0x800 + 4 * n
abbrev TOTAL : Nat := 0x840
abbrev SUPPLY : Nat := 0x844
abbrev PEAK : Nat := 0xF00
abbrev ALARMS : Nat := 0xF04
end R.PWR

namespace R.TDM
abbrev CFG : Nat := 0x040
abbrev PAIR_LO : Nat := 0x044
abbrev PAIR_HI : Nat := 0x048
abbrev WIT : Nat := 0x04C
abbrev WLIST_ID (n : Nat) : Nat := 0x050 + 8 * n
abbrev WLIST_NET (n : Nat) : Nat := 0x054 + 8 * n
abbrev STAT : Nat := 0x800
abbrev TERM : Nat := 0x804
abbrev LVALID : Nat := 0x808
abbrev CMD : Nat := 0x810
abbrev LASTMIS : Nat := 0x814
abbrev LASTMIS_LO : Nat := 0x818
abbrev LASTMIS_HI : Nat := 0x81C
abbrev HEALTH (n : Nat) : Nat := 0x900 + 4 * n
abbrev PHEALTH (n : Nat) : Nat := 0x940 + 4 * n
abbrev LINKDN0 : Nat := 0xF00
abbrev LINKDN1 : Nat := 0xF04
abbrev DIGMIS : Nat := 0xF08
abbrev UNEXPL : Nat := 0xF0C
abbrev REPAIRS : Nat := 0xF10
abbrev RELAYP : Nat := 0xF14
abbrev RELAYA : Nat := 0xF18
abbrev RELAYS : Nat := 0xF1C
abbrev MIRGAPS : Nat := 0xF20
abbrev ILKERR : Nat := 0xF24
abbrev CRCERR : Nat := 0xF28
end R.TDM

namespace R.WIT
abbrev CFG : Nat := 0x040
abbrev WID : Nat := 0x044
abbrev NET : Nat := 0x048
abbrev PAIR_LO (n : Nat) : Nat := 0x080 + 16 * n
abbrev PAIR_HI (n : Nat) : Nat := 0x084 + 16 * n
abbrev PAIR_CFG (n : Nat) : Nat := 0x088 + 16 * n
abbrev P_STAT (n : Nat) : Nat := 0x800 + 16 * n
abbrev P_TERM (n : Nat) : Nat := 0x804 + 16 * n
abbrev P_REMAIN (n : Nat) : Nat := 0x808 + 16 * n
abbrev GRANTS : Nat := 0xF00
abbrev REFUSALS : Nat := 0xF04
abbrev REJECTS : Nat := 0xF08
end R.WIT

namespace R.WAY
abbrev CFG : Nat := 0x040
abbrev TRIG_CLASS : Nat := 0x044
abbrev TRIG : Nat := 0x048
abbrev WIN : Nat := 0x04C
abbrev BURST : Nat := 0x050
abbrev SEGARG : Nat := 0x800
abbrev EXPARG : Nat := 0x804
abbrev CMD : Nat := 0x808
abbrev STAT : Nat := 0x810
abbrev CURSEG : Nat := 0x814
abbrev EXPSEG : Nat := 0x828
abbrev EXPOFF : Nat := 0x82C
abbrev RATE : Nat := 0x830
abbrev RETAIN : Nat := 0x834
abbrev FIRST_LO : Nat := 0x818
abbrev FIRST_HI : Nat := 0x81C
abbrev LASTTRIG : Nat := 0x820
abbrev LASTTRIG_SEG : Nat := 0x824
abbrev FREEZES : Nat := 0xF00
abbrev ESCAPES : Nat := 0xF04
abbrev EXPABORTS : Nat := 0xF08
abbrev BURSTREF : Nat := 0xF0C
abbrev LAGMAX : Nat := 0xF10
end R.WAY

namespace R.SBX
abbrev EXPCFG : Nat := 0x040
abbrev EXP_FROM : Nat := 0x044
abbrev STAT : Nat := 0x800
abbrev NEXTSEQ : Nat := 0x804
abbrev CLEARED : Nat := 0x808
abbrev OLDEST : Nat := 0x80C
abbrev LUSED : Nat := 0x810
abbrev RESUSED : Nat := 0x814
abbrev CLRUSED : Nat := 0x818
abbrev CUR_CMD : Nat := 0x840
abbrev CUR_ARG : Nat := 0x844
abbrev CUR_FILT : Nat := 0x848
abbrev CUR_STAT : Nat := 0x84C
abbrev CUR_SEQ : Nat := 0x850
abbrev CUR_CRC : Nat := 0x854
abbrev SKIPPED : Nat := 0xF00
abbrev DROPPED : Nat := 0xF04
abbrev LDROP : Nat := 0xF08
abbrev DISPLACED : Nat := 0xF0C
abbrev CLRREJ : Nat := 0xF10
end R.SBX

namespace R.SNS
abbrev CFG : Nat := 0x040
abbrev RING : Nat := 0x800
abbrev CMD : Nat := 0x808
abbrev FE (n : Nat) : Nat := 0x810 + 4 * n
abbrev IDLO (n : Nat) : Nat := 0x820 + 8 * n
abbrev IDHI (n : Nat) : Nat := 0x824 + 8 * n
abbrev MISS : Nat := 0xF00
abbrev CRCERR : Nat := 0xF04
abbrev REPEAT : Nat := 0xF08
abbrev BREAKS : Nat := 0xF0C
end R.SNS

namespace R.MOD
abbrev CFG : Nat := 0x040
abbrev IN_CFG (n : Nat) : Nat := 0x080 + 16 * n
abbrev IN_SCALE (n : Nat) : Nat := 0x084 + 16 * n
abbrev IN_OFFS (n : Nat) : Nat := 0x088 + 16 * n
abbrev STAT : Nat := 0x800
abbrev INVALID : Nat := 0x804
abbrev TSMP_TICK_LO : Nat := 0x830
abbrev TSMP_TICK_HI : Nat := 0x834
abbrev TSMP (n : Nat) : Nat := 0x840 + 4 * n
abbrev CSMP (n : Nat) : Nat := 0x880 + 4 * n
abbrev FSMP (n : Nat) : Nat := 0x8C0 + 4 * n
abbrev CLKLOSS : Nat := 0xF00
abbrev UNSAMP0 : Nat := 0xF04
abbrev UNSAMP1 : Nat := 0xF08
abbrev SWITCHES : Nat := 0xF0C
abbrev STUCK (n : Nat) : Nat := 0xF40 + 4 * n
end R.MOD

namespace R.CHG
abbrev CFG : Nat := 0x040
abbrev XTOL_ABS : Nat := 0x044
abbrev XTOL_REL : Nat := 0x048
abbrev LSTAGE_LO : Nat := 0x800
abbrev LSTAGE_HI : Nat := 0x804
abbrev LTICK_LO : Nat := 0x900
abbrev LTICK_HI : Nat := 0x904
abbrev LS_0 (n : Nat) : Nat := 0x810 + 16 * n
abbrev LS_1 (n : Nat) : Nat := 0x814 + 16 * n
abbrev LS_2 (n : Nat) : Nat := 0x818 + 16 * n
abbrev LT_0 (n : Nat) : Nat := 0x910 + 16 * n
abbrev LT_1 (n : Nat) : Nat := 0x914 + 16 * n
abbrev LT_2 (n : Nat) : Nat := 0x918 + 16 * n
abbrev DQ_LO : Nat := 0xA00
abbrev DQ_HI : Nat := 0xA04
abbrev DQ0_LO : Nat := 0xA08
abbrev DQ0_HI : Nat := 0xA0C
abbrev DQ1_LO : Nat := 0xA10
abbrev DQ1_HI : Nat := 0xA14
abbrev DQSTAGE_LO : Nat := 0xA18
abbrev DQSTAGE_HI : Nat := 0xA1C
abbrev XSTAT : Nat := 0xA20
abbrev XFAILS : Nat := 0xF00
abbrev NOCHG : Nat := 0xF04
end R.CHG

namespace R.EST
abbrev CFG : Nat := 0x040
abbrev ISC_THR : Nat := 0x044
abbrev CLOSS : Nat := 0x048
abbrev PS_REF (n : Nat) : Nat := 0x060 + 4 * n
abbrev FEMAP (n : Nat) : Nat := 0x100 + 4 * n
abbrev STAGE_LO : Nat := 0x800
abbrev STAGE_HI : Nat := 0x804
abbrev COUNTS : Nat := 0x808
abbrev COUNTS2 : Nat := 0x80C
abbrev SOC_MIN : Nat := 0x810
abbrev SOC_MAX : Nat := 0x814
abbrev SOC_MEAN : Nat := 0x818
abbrev TCORE_MAX : Nat := 0x81C
abbrev PH3_MAX : Nat := 0x820
abbrev EUSE_LO : Nat := 0x828
abbrev EUSE_HI : Nat := 0x82C
abbrev PCAP (n : Nat) : Nat := 0x840 + 4 * n
abbrev FC_LO : Nat := 0x860
abbrev FC_HI : Nat := 0x864
abbrev PSSTAT : Nat := 0xF00
abbrev PSREJ : Nat := 0xF04
abbrev REINIT : Nat := 0xF08
abbrev SATUR : Nat := 0xF0C
abbrev CHGSUB : Nat := 0xF10
abbrev EOCV_P (n : Nat) : Nat := 0xF40 + 8 * n
abbrev EOCV_N (n : Nat) : Nat := 0xF44 + 8 * n
abbrev REST_DIV : Nat := 0x080
abbrev REST_MA : Nat := 0x084
abbrev ANCHOR : Nat := 0x088
abbrev ANCHOR_SIG : Nat := 0x08C
abbrev DIS : Nat := 0x090
abbrev DIS_EMPTY : Nat := 0x094
abbrev LRN : Nat := 0x098
abbrev LRN2 : Nat := 0x09C
abbrev CAL : Nat := 0x0A0
abbrev CAL2 : Nat := 0x0A4
abbrev SOCWIN : Nat := 0x0A8
abbrev UNK : Nat := 0x0AC
abbrev IMAX_CHG : Nat := 0x0B0
abbrev IMAX_DIS : Nat := 0x0B4
abbrev FCMARGIN : Nat := 0x0B8
abbrev DSTATE : Nat := 0x880
abbrev ANCH_LO : Nat := 0x884
abbrev ANCH_HI : Nat := 0x888
abbrev EPOCH : Nat := 0x88C
abbrev CAL_STAT : Nat := 0x890
abbrev CAL_END_LO : Nat := 0x894
abbrev CAL_END_HI : Nat := 0x898
abbrev DCLAMP : Nat := 0x8A0
abbrev ILIM_CHG : Nat := 0x8A4
abbrev ILIM_DIS : Nat := 0x8A8
abbrev LRN_LAST : Nat := 0x8AC
abbrev LRN_CAP : Nat := 0x8B0
abbrev AEVT : Nat := 0xF80
abbrev ANCHORS : Nat := 0xF84
abbrev LRNACC : Nat := 0xF88
abbrev LRNREJ : Nat := 0xF8C
abbrev JTEAR : Nat := 0xF90
abbrev JDEFER : Nat := 0xF94
abbrev DCLAMPS : Nat := 0xF98
end R.EST

namespace R.OST
abbrev CFG : Nat := 0x040
abbrev LANES : Nat := 0x800
abbrev RETIRED : Nat := 0x804
abbrev GATED : Nat := 0x808
abbrev MAP_LO : Nat := 0x810
abbrev MAP_HI : Nat := 0x814
abbrev XLAST : Nat := 0x818
abbrev LANE (n : Nat) : Nat := 0x840 + 4 * n
abbrev WAYHEAD : Nat := 0x8C0
abbrev WAYOLD : Nat := 0x8C4
abbrev WAYFRZ : Nat := 0x8C8
abbrev HMAP (n : Nat) : Nat := 0xA00 + 4 * n
abbrev SEG (n : Nat) : Nat := 0xC00 + 4 * n
abbrev XMISS : Nat := 0xF00
abbrev MIGFAIL : Nat := 0xF04
abbrev WAYLOSS : Nat := 0xF08
abbrev FRZREF : Nat := 0xF0C
end R.OST

namespace R.BAL
abbrev CFG : Nat := 0x040
abbrev DEADBAND : Nat := 0x044
abbrev LIM : Nat := 0x048
abbrev NET : Nat := 0x04C
abbrev LOSS : Nat := 0x050
abbrev BUDGET : Nat := 0x054
abbrev TLIM : Nat := 0x058
abbrev RBCHK : Nat := 0x05C
abbrev ANCH : Nat := 0x060
abbrev ZCFG : Nat := 0x064
abbrev STAT : Nat := 0x800
abbrev PLAN_LO : Nat := 0x808
abbrev PLAN_HI : Nat := 0x80C
abbrev ZFRAME_LO : Nat := 0x824
abbrev ZFRAME_HI : Nat := 0x828
abbrev TARGET : Nat := 0x810
abbrev ZSEL : Nat := 0x820
abbrev ZRE (n : Nat) : Nat := 0x830 + 8 * n
abbrev ZIM (n : Nat) : Nat := 0x834 + 8 * n
abbrev ZAGE : Nat := 0x850
abbrev CMD : Nat := 0x860
abbrev BLOCK (n : Nat) : Nat := 0x900 + 4 * n
abbrev CMDOUT (n : Nat) : Nat := 0xA00 + 4 * n
abbrev BLOCKS : Nat := 0xF00
abbrev ZSKIPS : Nat := 0xF04
abbrev FEFAULTS : Nat := 0xF08
abbrev ZDEVS : Nat := 0xF0C
end R.BAL

namespace R.CTH
abbrev CFG : Nat := 0x040
abbrev CHK : Nat := 0x044
abbrev PERSIST : Nat := 0x048
abbrev NET : Nat := 0x04C
abbrev BALFRAC : Nat := 0x050
abbrev PACKBRK_LO : Nat := 0x058
abbrev PACKBRK_HI : Nat := 0x05C
abbrev ZONE_RANGE (n : Nat) : Nat := 0x060 + 16 * n
abbrev ZONE_COOL (n : Nat) : Nat := 0x064 + 16 * n
abbrev ZONE_DEM (n : Nat) : Nat := 0x068 + 16 * n
abbrev ZONE_OUT (n : Nat) : Nat := 0x06C + 16 * n
abbrev TCOOL (n : Nat) : Nat := 0x800 + 4 * n
abbrev DEM (n : Nat) : Nat := 0x810 + 4 * n
abbrev SST (n : Nat) : Nat := 0x840 + 4 * n
abbrev COUNTS : Nat := 0x950
abbrev CMD : Nat := 0x954
abbrev STAGE_LO : Nat := 0x958
abbrev STAGE_HI : Nat := 0x95C
abbrev TPROT (n : Nat) : Nat := 0xA00 + 4 * n
abbrev MSEL : Nat := 0xE00
abbrev TMOD : Nat := 0xE04
abbrev BROKENS : Nat := 0xF00
abbrev NOCOOLS : Nat := 0xF04
end R.CTH

namespace R.PROT
abbrev CFG : Nat := 0x040
abbrev HYS : Nat := 0x044
abbrev SLOW : Nat := 0x048
abbrev DERATE_MASK_LO : Nat := 0x04C
abbrev DERATE_MASK_HI : Nat := 0x050
abbrev OCF : Nat := 0x800
abbrev ISTR_CHG : Nat := 0x804
abbrev ISTR_DIS : Nat := 0x808
abbrev VHI : Nat := 0x80C
abbrev DERATE : Nat := 0x810
abbrev SRC_LO : Nat := 0x840
abbrev SRC_HI : Nat := 0x844
abbrev CELLS : Nat := 0x848
abbrev LIM_CRC : Nat := 0x850
abbrev LIM_SEQ : Nat := 0x854
abbrev TBLREJ : Nat := 0xF00
abbrev LIMREJ : Nat := 0xF04
abbrev SEEN_LO : Nat := 0xF10
abbrev SEEN_HI : Nat := 0xF14
end R.PROT

namespace R.TRIP
abbrev MAP_LO (n : Nat) : Nat := 0x040 + 8 * n
abbrev MAP_HI (n : Nat) : Nat := 0x044 + 8 * n
abbrev GRP_CFG (n : Nat) : Nat := 0x060 + 4 * n
abbrev GSTAT : Nat := 0x800
abbrev CMD : Nat := 0x808
abbrev FIRST (n : Nat) : Nat := 0x810 + 4 * n
abbrev TRIPS (n : Nat) : Nat := 0xF00 + 4 * n
abbrev RELREJ : Nat := 0xF10
end R.TRIP

namespace R.SAFE
abbrev CFG : Nat := 0x040
abbrev IN_CFG (n : Nat) : Nat := 0x080 + 8 * n
abbrev IN_DISC (n : Nat) : Nat := 0x084 + 8 * n
abbrev IN_STAT (n : Nat) : Nat := 0x800 + 4 * n
abbrev SUM : Nat := 0x840
abbrev TPST : Nat := 0x844
abbrev RST : Nat := 0x848
abbrev TICK_LO : Nat := 0x850
abbrev TICK_HI : Nat := 0x854
abbrev DISCS : Nat := 0xF00
abbrev TPFAILS : Nat := 0xF04
abbrev SHORTS : Nat := 0xF08
abbrev RESETS : Nat := 0xF0C
abbrev RSTREJ : Nat := 0xF10
abbrev UNVER : Nat := 0xF14
end R.SAFE

namespace R.SLAY
abbrev CFG : Nat := 0x040
abbrev CON_ID (n : Nat) : Nat := 0x080 + 32 * n
abbrev CON_CFG (n : Nat) : Nat := 0x084 + 32 * n
abbrev CON_WD (n : Nat) : Nat := 0x088 + 32 * n
abbrev CON_ADDR (n : Nat) : Nat := 0x08C + 32 * n
abbrev CON_EADDR (n : Nat) : Nat := 0x090 + 32 * n
abbrev CON_STAT (n : Nat) : Nat := 0x800 + 16 * n
abbrev CON_SEQ (n : Nat) : Nat := 0x804 + 16 * n
abbrev CON_ECHO (n : Nat) : Nat := 0x808 + 16 * n
abbrev CON_AGE (n : Nat) : Nat := 0x80C + 16 * n
abbrev REJ (n : Nat) : Nat := 0xF00 + 4 * n
abbrev LOST (n : Nat) : Nat := 0xF20 + 4 * n
abbrev WDEXP : Nat := 0xF40
abbrev FAILS : Nat := 0xF44
abbrev NOCONN : Nat := 0xF48
end R.SLAY

namespace R.SPT
abbrev SPIN_CFG (n : Nat) : Nat := 0x040 + 32 * n
abbrev SPIN_XMIN (n : Nat) : Nat := 0x044 + 32 * n
abbrev SPIN_XMAX (n : Nat) : Nat := 0x048 + 32 * n
abbrev SPIN_X0 (n : Nat) : Nat := 0x04C + 32 * n
abbrev SPIN_GAIN (n : Nat) : Nat := 0x050 + 32 * n
abbrev SPIN_OFFS (n : Nat) : Nat := 0x054 + 32 * n
abbrev SPIN_FALLBACK (n : Nat) : Nat := 0x058 + 32 * n
abbrev STR_ID (n : Nat) : Nat := 0x0C0 + 16 * n
abbrev STR_ADDR (n : Nat) : Nat := 0x0C8 + 16 * n
abbrev STR_CFG (n : Nat) : Nat := 0x0C4 + 16 * n
abbrev STR_FALLBACK (n : Nat) : Nat := 0x0CC + 16 * n
abbrev DISP_CFG : Nat := 0x140
abbrev SPIN_VAL (n : Nat) : Nat := 0x800 + 8 * n
abbrev SPIN_X (n : Nat) : Nat := 0x804 + 8 * n
abbrev STAT : Nat := 0x840
abbrev DISP_SP : Nat := 0x844
abbrev DISP_OUT : Nat := 0x848
abbrev STR_CNT_LO (n : Nat) : Nat := 0x880 + 8 * n
abbrev STR_CNT_HI (n : Nat) : Nat := 0x884 + 8 * n
abbrev STREJ : Nat := 0xF00
abbrev LOSEVT : Nat := 0xF04
end R.SPT

namespace R.PWM
abbrev TB0_CFG : Nat := 0x040
abbrev TB1_CFG : Nat := 0x044
abbrev PAIR_CFG (n : Nat) : Nat := 0x050 + 16 * n
abbrev PAIR_PHASE (n : Nat) : Nat := 0x054 + 16 * n
abbrev PAIR_DT (n : Nat) : Nat := 0x058 + 16 * n
abbrev PAIR_MINPW (n : Nat) : Nat := 0x05C + 16 * n
abbrev DUTY (n : Nat) : Nat := 0x800 + 4 * n
abbrev STAT : Nat := 0x840
abbrev PERNUM_LO : Nat := 0x848
abbrev PERNUM_HI : Nat := 0x84C
abbrev ON (n : Nat) : Nat := 0x860 + 4 * n
abbrev LBK : Nat := 0xF00
end R.PWM

namespace R.LOOP
abbrev SRC : Nat := 0x040
abbrev OUT : Nat := 0x044
abbrev SPSRC : Nat := 0x048
abbrev LAW : Nat := 0x04C
abbrev K (n : Nat) : Nat := 0x050 + 4 * n
abbrev UMAX : Nat := 0x070
abbrev UMIN : Nat := 0x074
abbrev INIT : Nat := 0x078
abbrev NOTCH_F0 : Nat := 0x07C
abbrev NOTCH : Nat := 0x080
abbrev RAMP_RATE : Nat := 0x084
abbrev RAMP_ACC : Nat := 0x088
abbrev PLAUS : Nat := 0x08C
abbrev PLAUS_L : Nat := 0x090
abbrev PLAUS_R : Nat := 0x094
abbrev SP_HOST : Nat := 0x800
abbrev MEAS : Nat := 0x804
abbrev STAT : Nat := 0x808
abbrev SMP : Nat := 0x80C
abbrev TARGET : Nat := 0x810
abbrev RAMP : Nat := 0x814
abbrev Y : Nat := 0x818
abbrev U : Nat := 0x81C
abbrev RESID : Nat := 0x820
abbrev DIGEST : Nat := 0x824
abbrev NB0 : Nat := 0x830
abbrev NB1 : Nat := 0x834
abbrev NB2 : Nat := 0x838
abbrev NA1 : Nat := 0x83C
abbrev NA2 : Nat := 0x840
abbrev SATS : Nat := 0xF00
abbrev SNAPS : Nat := 0xF04
abbrev IMPLS : Nat := 0xF08
abbrev HOLDS : Nat := 0xF0C
end R.LOOP

namespace R.CAN
abbrev CFG : Nat := 0x040
abbrev NBT : Nat := 0x044
abbrev FBT : Nat := 0x048
abbrev XBT : Nat := 0x04C
abbrev XLCFG : Nat := 0x050
abbrev RXCFG : Nat := 0x054
abbrev FLT_REF : Nat := 0x058
abbrev STAT : Nat := 0x800
abbrev CMD : Nat := 0x804
abbrev FLTIDX : Nat := 0x808
abbrev FLTW0 : Nat := 0x80C
abbrev FLTW1 : Nat := 0x810
abbrev RXQ_STAT (n : Nat) : Nat := 0x820 + 4 * n
abbrev RXW_SEL : Nat := 0x830
abbrev TXF_STAT (n : Nat) : Nat := 0x840 + 4 * n
abbrev RXW (n : Nat) : Nat := 0xB00 + 4 * n
abbrev TXOK : Nat := 0xF00
abbrev RXOK : Nat := 0xF04
abbrev RXDROP : Nat := 0xF08
abbrev RXFILT : Nat := 0xF0C
abbrev ARBLOST : Nat := 0xF10
abbrev TXERR : Nat := 0xF14
abbrev RXERR : Nat := 0xF18
abbrev BUSOFFS : Nat := 0xF1C
abbrev TOOLATE : Nat := 0xF20
abbrev PEXCS : Nat := 0xF24
end R.CAN

namespace R.ETH
abbrev CFG : Nat := 0x040
abbrev LAT_TX : Nat := 0x044
abbrev LAT_RX : Nat := 0x048
abbrev ASYM : Nat := 0x04C
abbrev RXCFG : Nat := 0x050
abbrev TXQ : Nat := 0x054
abbrev LATE (n : Nat) : Nat := 0x060 + 4 * n
abbrev MAC_LO : Nat := 0x080
abbrev MAC_HI : Nat := 0x084
abbrev IP4 : Nat := 0x088
abbrev IP6 (n : Nat) : Nat := 0x090 + 4 * n
abbrev PMAC_LO : Nat := 0x0A0
abbrev PMAC_HI : Nat := 0x0A4
abbrev PIP4 : Nat := 0x0A8
abbrev PIP6 (n : Nat) : Nat := 0x0B0 + 4 * n
abbrev AT_0 (n : Nat) : Nat := 0x200 + 32 * n
abbrev AT_1 (n : Nat) : Nat := 0x204 + 32 * n
abbrev AT_2 (n : Nat) : Nat := 0x208 + 32 * n
abbrev AT_3 (n : Nat) : Nat := 0x20C + 32 * n
abbrev AT_4 (n : Nat) : Nat := 0x210 + 32 * n
abbrev AT_5 (n : Nat) : Nat := 0x214 + 32 * n
abbrev AT_6 (n : Nat) : Nat := 0x218 + 32 * n
abbrev AT_7 (n : Nat) : Nat := 0x21C + 32 * n
abbrev LINK : Nat := 0x800
abbrev TXOK : Nat := 0xF00
abbrev RXOK : Nat := 0xF04
abbrev RXDROP : Nat := 0xF08
abbrev RXFILT : Nat := 0xF0C
abbrev CSUMERR : Nat := 0xF10
abbrev LATEDROP : Nat := 0xF14
abbrev LATESENT : Nat := 0xF18
abbrev NOADDR : Nat := 0xF1C
abbrev PRPDUP : Nat := 0xF20
abbrev PRPWRONG : Nat := 0xF24
abbrev PRPSINGLE : Nat := 0xF28
abbrev PAUSERX : Nat := 0xF2C
abbrev FCSERR : Nat := 0xF30
end R.ETH

namespace R.PAGE
abbrev ID : Nat := 0x000
abbrev CAPS : Nat := 0x004
abbrev CTRL : Nat := 0x008
abbrev STATE : Nat := 0x00C
abbrev FLAGS : Nat := 0x010
abbrev FLAG_IE : Nat := 0x014
abbrev IGNORED : Nat := 0x018
abbrev CFG_REF : Nat := 0x01C
abbrev CFG_LIVE : Nat := 0x020
abbrev CFG_END : Nat := 0x024
end R.PAGE

/-- The rows of the SYS page. -/
def rowsSYS : List RegRow := [
  ⟨0x040, 4, 1, 0, 0x7, 0, 0, 0, [0]⟩,
  ⟨0x800, 4, 1, 0, 0, 0, 0, 0xF0F, [0]⟩,
  ⟨0x804, 4, 1, 0, 0, 0, 0xFF00, 0, [0]⟩,
  ⟨0x808, 4, 1, 0, 0, 0, 0, 0xFFF, [0]⟩,
  ⟨0x80C, 4, 1, 0, 0, 0, 0, 0xFFFFFFFF, [0]⟩,
  ⟨0xF00, 4, 1, 0, 0, 0, 0, 0xFFFFFFFF, [0]⟩,
  ⟨0xF04, 4, 1, 0, 0, 0, 0, 0xFFFFFFFF, [0]⟩]

/-- Every row of the SYS page but the common header. -/
def regsSYS : List RegRow := rowsSYS

/-- The rows of the CFGX page. -/
def rowsCFGX : List RegRow := [
  ⟨0x800, 4, 1, 0, 0, 0, 0, 0x1, [0]⟩,
  ⟨0x804, 4, 1, 0, 0, 0, 0, 0xFFFFFFFF, [0]⟩,
  ⟨0x808, 4, 1, 0, 0, 0, 0, 0xFFFFFFFF, [0]⟩,
  ⟨0x810, 4, 2, 0, 0, 0, 0, 0xFFFFFFFF, [0]⟩,
  ⟨0xF00, 4, 1, 0, 0, 0, 0, 0xFFFFFFFF, [0]⟩,
  ⟨0xF04, 4, 1, 0, 0, 0, 0, 0xFFFFFFFF, [0]⟩]

/-- Every row of the CFGX page but the common header. -/
def regsCFGX : List RegRow := rowsCFGX

/-- The rows of the HOST page. -/
def rowsHOST : List RegRow := [
  ⟨0x040, 4, 1, 0, 0x1, 0, 0, 0, [0]⟩,
  ⟨0x800, 4, 1, 0, 0, 0, 0, 0xFFFF01FF, [0]⟩,
  ⟨0xF00, 4, 1, 0, 0, 0, 0, 0xFFFF, [0]⟩,
  ⟨0xF04, 4, 1, 0, 0, 0, 0, 0x8FFFFFFF, [0]⟩,
  ⟨0xF08, 4, 1, 0, 0, 0, 0, 0xFFFFFFFF, [0]⟩]

/-- Every row of the HOST page but the common header. -/
def regsHOST : List RegRow := rowsHOST

/-- The rows of the RNG page. -/
def rowsRNG : List RegRow := [
  ⟨0x040, 8, 128, 0, 0xFFFFF00F, 0, 0, 0, [0]⟩,
  ⟨0x044, 8, 128, 0, 0xFFFFFFFF, 0, 0, 0, [0]⟩,
  ⟨0x440, 4, 128, 0, 0xFFFF0001, 0, 0, 0, [0]⟩,
  ⟨0x800, 8, 128, 0xFFFFFFFF, 0, 0, 0, 0, [0]⟩,
  ⟨0x804, 8, 128, 0, 0, 0, 0, 0xFFFFFFFF, [0]⟩,
  ⟨0xC00, 4, 128, 0, 0, 0, 0, 0xFFFFFFFF, [0]⟩,
  ⟨0xE00, 4, 1, 0, 0, 0, 0x7F, 0, [0]⟩,
  ⟨0xF00, 4, 1, 0, 0, 0, 0, 0xFFFF, [0]⟩,
  ⟨0xF10, 4, 4, 0, 0, 0, 0, 0xFFFFFFFF, [0]⟩,
  ⟨0xF20, 4, 4, 0, 0, 0, 0, 0xFFFFFFFF, [0]⟩]

/-- Every row of the RNG page but the common header. -/
def regsRNG : List RegRow := rowsRNG

/-- The rows of the IRQ page. -/
def rowsIRQ : List RegRow := [
  ⟨0x040, 8, 6, 0, 0x8F00073F, 0, 0, 0, [0]⟩,
  ⟨0x044, 8, 6, 0, 0xFFFF07FF, 0, 0, 0, [0x10001]⟩,
  ⟨0x080, 4, 8, 0, 0xFF07, 0, 0, 0, [0xA00]⟩,
  ⟨0x800, 4, 256, 0x8007071F, 0, 0, 0, 0, [0x80000000]⟩,
  ⟨0xC00, 16, 6, 0, 0, 0, 0, 0x800000FF, [0]⟩,
  ⟨0xC04, 16, 6, 0, 0, 0, 0x800000FF, 0, [0]⟩,
  ⟨0xC08, 16, 6, 0x1, 0, 0, 0, 0, [0]⟩,
  ⟨0xC0C, 16, 6, 0, 0, 0, 0, 0x7FFFF03, [0]⟩,
  ⟨0xD00, 4, 8, 0, 0, 0, 0, 0xFFFFFFFF, [0]⟩,
  ⟨0xD20, 4, 8, 0, 0, 0, 0, 0xFFFFFFFF, [0]⟩,
  ⟨0xD40, 4, 8, 0, 0, 0, 0, 0xFFFFFFFF, [0]⟩,
  ⟨0xD60, 4, 8, 0, 0, 0, 0, 0xFFFFFFFF, [0]⟩,
  ⟨0xF00, 4, 1, 0, 0, 0, 0, 0xFFFFFFFF, [0]⟩,
  ⟨0xF04, 4, 1, 0, 0, 0, 0, 0xFFFFFFFF, [0]⟩,
  ⟨0xF08, 4, 1, 0, 0, 0, 0, 0xFFFFFFFF, [0]⟩,
  ⟨0xF0C, 4, 1, 0, 0, 0, 0, 0xFFFFFFFF, [0]⟩]

/-- Every row of the IRQ page but the common header. -/
def regsIRQ : List RegRow := rowsIRQ

/-- The rows of the TIME page. -/
def rowsTIME : List RegRow := [
  ⟨0x040, 4, 1, 0, 0xFFFF0007, 0, 0, 0, [0]⟩,
  ⟨0x044, 4, 1, 0, 0xFFFFFFFF, 0, 0, 0, [0x20000200]⟩,
  ⟨0x048, 4, 1, 0, 0xFFFF00FF, 0, 0, 0, [0x640010]⟩,
  ⟨0x04C, 4, 1, 0, 0xFFFFFFFF, 0, 0, 0, [0xBB8]⟩,
  ⟨0x050, 4, 1, 0, 0xFFFFFFFF, 0, 0, 0, [0x186A0]⟩,
  ⟨0x054, 4, 1, 0, 0xFFFFFFFF, 0, 0, 0, [0xF8F8FD00]⟩,
  ⟨0x800, 4, 1, 0, 0, 0, 0, 0xFF, [0xF0]⟩,
  ⟨0x808, 4, 1, 0, 0, 0, 0, 0xFFFFFFFF, [0]⟩,
  ⟨0x80C, 4, 1, 0, 0, 0, 0, 0xFFFFFFFF, [0]⟩,
  ⟨0x810, 4, 1, 0, 0, 0, 0, 0xFFFFFFFF, [0]⟩,
  ⟨0x814, 4, 1, 0, 0, 0, 0, 0xFFFFFFFF, [0]⟩,
  ⟨0x818, 4, 1, 0, 0, 0, 0, 0xFFFFFFFF, [0]⟩,
  ⟨0x81C, 4, 1, 0, 0, 0, 0, 0xFFFFFFFF, [0]⟩,
  ⟨0x820, 4, 1, 0, 0, 0, 0, 0xFFFFFFFF, [0]⟩,
  ⟨0x824, 4, 1, 0, 0, 0, 0, 0xFFFFFFFF, [0]⟩,
  ⟨0x828, 4, 1, 0, 0, 0, 0, 0xFFFFFFFF, [0]⟩,
  ⟨0x82C, 4, 1, 0, 0, 0, 0, 0xFFFFFFFF, [0]⟩,
  ⟨0xF00, 4, 1, 0, 0, 0, 0, 0xFFFFFFFF, [0]⟩,
  ⟨0xF04, 4, 1, 0, 0, 0, 0, 0xFFFFFFFF, [0]⟩,
  ⟨0xF08, 4, 1, 0, 0, 0, 0, 0xFFFFFFFF, [0]⟩]

/-- Every row of the TIME page but the common header. -/
def regsTIME : List RegRow := rowsTIME

/-- The rows of the AUTH page. -/
def rowsAUTH : List RegRow := [
  ⟨0x040, 4, 1, 0, 0xFF, 0, 0, 0, [0]⟩,
  ⟨0x044, 4, 1, 0, 0xFFFF07FF, 0, 0, 0, [0xBB410010]⟩,
  ⟨0x800, 4, 1, 0, 0, 0, 0, 0xFFFFFFFF, [0]⟩,
  ⟨0x804, 4, 1, 0, 0, 0, 0, 0xFFFFFFFF, [0]⟩,
  ⟨0x810, 4, 9, 0, 0, 0, 0, 0x8000FFFF, [0]⟩,
  ⟨0x840, 8, 8, 0, 0, 0, 0, 0xFFFFFFFF, [0]⟩,
  ⟨0x844, 8, 8, 0, 0, 0, 0, 0xFFFFFFFF, [0]⟩,
  ⟨0x900, 4, 26, 0xFFFFFFFF, 0, 0, 0, 0, [0]⟩,
  ⟨0xA00, 4, 1, 0, 0, 0, 0x7F, 0, [0]⟩,
  ⟨0xA04, 4, 1, 0, 0, 0, 0, 0xFFFF0003, [0]⟩,
  ⟨0xF00, 4, 1, 0, 0, 0, 0, 0xFFFFFFFF, [0]⟩,
  ⟨0xF04, 4, 1, 0, 0, 0, 0, 0xFFFFFFFF, [0]⟩,
  ⟨0xF08, 4, 1, 0, 0, 0, 0, 0xFFFFFFFF, [0]⟩]

/-- Every row of the AUTH page but the common header. -/
def regsAUTH : List RegRow := rowsAUTH

/-- The rows of the FWU page. -/
def rowsFWU : List RegRow := [
  ⟨0x040, 4, 1, 0, 0xFFFFFFFF, 0, 0, 0, [0x2D03C18]⟩,
  ⟨0x800, 4, 1, 0, 0, 0, 0, 0xFFFF0F0F, [0]⟩,
  ⟨0x810, 4, 2, 0, 0, 0, 0, 0xFFFF0F07, [0]⟩,
  ⟨0x820, 16, 2, 0, 0, 0, 0, 0xFFFFFFFF, [0]⟩,
  ⟨0x824, 16, 2, 0, 0, 0, 0, 0xFFFFFFFF, [0]⟩,
  ⟨0x828, 16, 2, 0, 0, 0, 0, 0xFFFFFFFF, [0]⟩,
  ⟨0x82C, 16, 2, 0, 0, 0, 0, 0xFFFFFFFF, [0]⟩,
  ⟨0x840, 4, 1, 0, 0, 0, 0, 0xFFFFFFFF, [0]⟩,
  ⟨0x844, 4, 1, 0, 0, 0, 0, 0xFFFFFFFF, [0]⟩,
  ⟨0x848, 4, 1, 0, 0, 0, 0, 0x1, [0]⟩,
  ⟨0x850, 4, 1, 0, 0, 0, 0x10F, 0, [0]⟩,
  ⟨0x854, 4, 1, 0xFFFFFFFF, 0, 0, 0, 0, [0]⟩,
  ⟨0x858, 4, 1, 0xFFFFFFFF, 0, 0, 0, 0, [0]⟩,
  ⟨0x860, 4, 1, 0xFFFFFFFF, 0, 0, 0, 0, [0]⟩,
  ⟨0x868, 4, 1, 0xFFFFFFFF, 0, 0, 0, 0, [0]⟩,
  ⟨0x864, 4, 1, 0, 0, 0, 0x7FF, 0, [0]⟩,
  ⟨0x86C, 4, 1, 0, 0, 0, 0, 0xFFFFFFFF, [0]⟩,
  ⟨0x870, 4, 1, 0, 0, 0, 0, 0xFFFFFFFF, [0]⟩,
  ⟨0xA00, 4, 256, 0xFFFFFFFF, 0, 0, 0, 0, [0]⟩,
  ⟨0xF00, 4, 1, 0, 0, 0, 0, 0xFFFFFFFF, [0]⟩,
  ⟨0xF04, 4, 1, 0, 0, 0, 0, 0xFFFFFFFF, [0]⟩,
  ⟨0xF08, 4, 1, 0, 0, 0, 0, 0xFFFFFFFF, [0]⟩,
  ⟨0xF0C, 4, 1, 0, 0, 0, 0, 0xFFFFFFFF, [0]⟩]

/-- Every row of the FWU page but the common header. -/
def regsFWU : List RegRow := rowsFWU

/-- The rows of the THM page. -/
def rowsTHM : List RegRow := [
  ⟨0x040, 4, 1, 0, 0xFFFFFFFF, 0, 0, 0, [0x1406410]⟩,
  ⟨0x044, 4, 1, 0, 0xFFFF, 0, 0, 0, [0x80]⟩,
  ⟨0x800, 4, 1, 0, 0, 0, 0, 0x3F1FFF03, [0x2000]⟩,
  ⟨0x804, 4, 1, 0, 0, 0, 0, 0xFFFFFFFF, [0]⟩,
  ⟨0x808, 4, 1, 0, 0, 0, 0, 0xFFFF, [0]⟩,
  ⟨0x810, 4, 16, 0, 0, 0, 0, 0xFFFFFFFF, [0]⟩,
  ⟨0x850, 4, 1, 0x3F, 0, 0, 0, 0, [0]⟩,
  ⟨0x854, 4, 1, 0, 0, 0, 0, 0xFFFF, [0]⟩,
  ⟨0xF00, 4, 1, 0, 0, 0, 0, 0xFFFFFFFF, [0]⟩,
  ⟨0xF04, 4, 1, 0, 0, 0, 0, 0xFFFFFFFF, [0]⟩,
  ⟨0xF08, 4, 1, 0, 0, 0, 0, 0xFFFFFFFF, [0]⟩,
  ⟨0xF10, 4, 1, 0, 0, 0, 0, 0xFFFFFFFF, [0]⟩,
  ⟨0xF14, 4, 1, 0, 0, 0, 0, 0xFFFFFFFF, [0]⟩,
  ⟨0xF18, 4, 1, 0, 0, 0, 0, 0xFFFFFFFF, [0]⟩,
  ⟨0xF1C, 4, 1, 0, 0, 0, 0, 0xFFFFFFFF, [0]⟩]

/-- Every row of the THM page but the common header. -/
def regsTHM : List RegRow := rowsTHM

/-- The rows of the PWR page. -/
def rowsPWR : List RegRow := [
  ⟨0x040, 4, 1, 0, 0xFFFF, 0, 0, 0, [0x1CC]⟩,
  ⟨0x800, 4, 16, 0, 0, 0, 0, 0xFFFF, [0]⟩,
  ⟨0x840, 4, 1, 0, 0, 0, 0, 0xFFFFFFFF, [0]⟩,
  ⟨0x844, 4, 1, 0, 0, 0, 0, 0xFFFFFFFF, [0]⟩,
  ⟨0xF00, 4, 1, 0, 0, 0, 0, 0xFFFFFFFF, [0]⟩,
  ⟨0xF04, 4, 1, 0, 0, 0, 0, 0xFFFFFFFF, [0]⟩]

/-- Every row of the PWR page but the common header. -/
def regsPWR : List RegRow := rowsPWR

/-- The rows of the TDM page. -/
def rowsTDM : List RegRow := [
  ⟨0x040, 4, 1, 0, 0xFFFFFF0F, 0, 0, 0, [0x17700300]⟩,
  ⟨0x044, 4, 1, 0, 0xFFFFFFFF, 0, 0, 0, [0]⟩,
  ⟨0x048, 4, 1, 0, 0xFFFFFFFF, 0, 0, 0, [0]⟩,
  ⟨0x04C, 4, 1, 0, 0xFFFF00F7, 0, 0, 0, [0x140011]⟩,
  ⟨0x050, 8, 4, 0, 0xFFFFFFFF, 0, 0, 0, [0]⟩,
  ⟨0x054, 8, 4, 0, 0xFF0301, 0, 0, 0, [0]⟩,
  ⟨0x800, 4, 1, 0, 0, 0, 0, 0xFFFF3, [0]⟩,
  ⟨0x804, 4, 1, 0, 0, 0, 0, 0xFFFFFFFF, [0]⟩,
  ⟨0x808, 4, 1, 0, 0, 0, 0, 0xFFFFFFFF, [0]⟩,
  ⟨0x810, 4, 1, 0, 0, 0, 0x3, 0, [0]⟩,
  ⟨0x814, 4, 1, 0, 0, 0, 0, 0xC00001FF, [0]⟩,
  ⟨0x818, 4, 1, 0, 0, 0, 0, 0xFFFFFFFF, [0]⟩,
  ⟨0x81C, 4, 1, 0, 0, 0, 0, 0xFFFFFFFF, [0]⟩,
  ⟨0x900, 4, 16, 0, 0, 0, 0, 0xFFFFFFFF, [0]⟩,
  ⟨0x940, 4, 16, 0, 0, 0, 0, 0xFFFFFFFF, [0]⟩,
  ⟨0xF00, 4, 1, 0, 0, 0, 0, 0xFFFFFFFF, [0]⟩,
  ⟨0xF04, 4, 1, 0, 0, 0, 0, 0xFFFFFFFF, [0]⟩,
  ⟨0xF08, 4, 1, 0, 0, 0, 0, 0xFFFFFFFF, [0]⟩,
  ⟨0xF0C, 4, 1, 0, 0, 0, 0, 0xFFFFFFFF, [0]⟩,
  ⟨0xF10, 4, 1, 0, 0, 0, 0, 0xFFFFFFFF, [0]⟩,
  ⟨0xF14, 4, 1, 0, 0, 0, 0, 0xFFFFFFFF, [0]⟩,
  ⟨0xF18, 4, 1, 0, 0, 0, 0, 0xFFFFFFFF, [0]⟩,
  ⟨0xF1C, 4, 1, 0, 0, 0, 0, 0xFFFFFFFF, [0]⟩,
  ⟨0xF20, 4, 1, 0, 0, 0, 0, 0xFFFFFFFF, [0]⟩]

/-- The rows of the TDM page (continued). -/
def rowsTDMb : List RegRow := [
  ⟨0xF24, 4, 1, 0, 0, 0, 0, 0xFFFFFFFF, [0]⟩,
  ⟨0xF28, 4, 1, 0, 0, 0, 0, 0xFFFFFFFF, [0]⟩]

/-- Every row of the TDM page but the common header. -/
def regsTDM : List RegRow := rowsTDM ++ rowsTDMb

/-- The rows of the WIT page. -/
def rowsWIT : List RegRow := [
  ⟨0x040, 4, 1, 0, 0xFF3B87, 0, 0, 0, [0x320001]⟩,
  ⟨0x044, 4, 1, 0, 0xFFFFFFFF, 0, 0, 0, [0]⟩,
  ⟨0x048, 4, 1, 0, 0xFFFF07FF, 0, 0, 0, [0xBB400020]⟩,
  ⟨0x080, 16, 8, 0, 0xFFFFFFFF, 0, 0, 0, [0]⟩,
  ⟨0x084, 16, 8, 0, 0xFFFFFFFF, 0, 0, 0, [0]⟩,
  ⟨0x088, 16, 8, 0, 0x1, 0, 0, 0, [0]⟩,
  ⟨0x800, 16, 8, 0, 0, 0, 0, 0xF, [0]⟩,
  ⟨0x804, 16, 8, 0, 0, 0, 0, 0xFFFFFFFF, [0]⟩,
  ⟨0x808, 16, 8, 0, 0, 0, 0, 0xFFFFFFFF, [0]⟩,
  ⟨0xF00, 4, 1, 0, 0, 0, 0, 0xFFFFFFFF, [0]⟩,
  ⟨0xF04, 4, 1, 0, 0, 0, 0, 0xFFFFFFFF, [0]⟩,
  ⟨0xF08, 4, 1, 0, 0, 0, 0, 0xFFFFFFFF, [0]⟩]

/-- Every row of the WIT page but the common header. -/
def regsWIT : List RegRow := rowsWIT

/-- The rows of the WAY page. -/
def rowsWAY : List RegRow := [
  ⟨0x040, 4, 1, 0, 0x717, 0, 0, 0, [0]⟩,
  ⟨0x044, 4, 1, 0, 0xFFFFFFFF, 0, 0, 0, [0]⟩,
  ⟨0x048, 4, 1, 0, 0x1F, 0, 0, 0, [0xF]⟩,
  ⟨0x04C, 4, 1, 0, 0xFFFFFFFF, 0, 0, 0, [0x3C0258]⟩,
  ⟨0x050, 4, 1, 0, 0xFFFFFFFF, 0, 0, 0, [0xFFF00000]⟩,
  ⟨0x800, 4, 1, 0xFFFFFFFF, 0, 0, 0, 0, [0]⟩,
  ⟨0x804, 4, 1, 0xFFFFFFFF, 0, 0, 0, 0, [0]⟩,
  ⟨0x808, 4, 1, 0, 0, 0, 0xF, 0, [0]⟩,
  ⟨0x810, 4, 1, 0, 0, 0, 0, 0xFFFF071F, [0]⟩,
  ⟨0x814, 4, 1, 0, 0, 0, 0, 0xFFFFFFFF, [0]⟩,
  ⟨0x828, 4, 1, 0, 0, 0, 0, 0xFFFFFFFF, [0]⟩,
  ⟨0x82C, 4, 1, 0, 0, 0, 0, 0xFFFFFFFF, [0]⟩,
  ⟨0x830, 4, 1, 0, 0, 0, 0, 0xFFFFFFFF, [0]⟩,
  ⟨0x834, 4, 1, 0, 0, 0, 0, 0xFFFFFFFF, [0]⟩,
  ⟨0x818, 4, 1, 0, 0, 0, 0, 0xFFFFFFFF, [0]⟩,
  ⟨0x81C, 4, 1, 0, 0, 0, 0, 0xFFFFFFFF, [0]⟩,
  ⟨0x820, 4, 1, 0, 0, 0, 0, 0xFFFF0000, [0]⟩,
  ⟨0x824, 4, 1, 0, 0, 0, 0, 0xFFFFFFFF, [0]⟩,
  ⟨0xF00, 4, 1, 0, 0, 0, 0, 0xFFFFFFFF, [0]⟩,
  ⟨0xF04, 4, 1, 0, 0, 0, 0, 0xFFFFFFFF, [0]⟩,
  ⟨0xF08, 4, 1, 0, 0, 0, 0, 0xFFFFFFFF, [0]⟩,
  ⟨0xF0C, 4, 1, 0, 0, 0, 0, 0xFFFFFFFF, [0]⟩,
  ⟨0xF10, 4, 1, 0, 0, 0, 0, 0xFFFFFFFF, [0]⟩]

/-- Every row of the WAY page but the common header. -/
def regsWAY : List RegRow := rowsWAY

/-- The rows of the SBX page. -/
def rowsSBX : List RegRow := [
  ⟨0x040, 4, 1, 0, 0x307, 0, 0, 0, [0]⟩,
  ⟨0x044, 4, 1, 0, 0xFFFFFFFF, 0, 0, 0, [0]⟩,
  ⟨0x800, 4, 1, 0, 0, 0, 0, 0xFF000F, [0]⟩,
  ⟨0x804, 4, 1, 0, 0, 0, 0, 0xFFFFFFFF, [0]⟩,
  ⟨0x808, 4, 1, 0, 0, 0, 0, 0xFFFFFFFF, [0]⟩,
  ⟨0x80C, 4, 1, 0, 0, 0, 0, 0xFFFFFFFF, [0]⟩,
  ⟨0x810, 4, 1, 0, 0, 0, 0, 0xFFFFFFFF, [0]⟩,
  ⟨0x814, 4, 1, 0, 0, 0, 0, 0xFFFFFFFF, [0]⟩,
  ⟨0x818, 4, 1, 0, 0, 0, 0, 0xFFFFFFFF, [0]⟩,
  ⟨0x840, 4, 1, 0, 0, 0, 0x3, 0, [0]⟩,
  ⟨0x844, 4, 1, 0xFFFFFFFF, 0, 0, 0, 0, [0]⟩,
  ⟨0x848, 4, 1, 0xFFFFFFFF, 0, 0, 0, 0, [0]⟩,
  ⟨0x84C, 4, 1, 0, 0, 0, 0, 0xFFF5FFF, [0]⟩,
  ⟨0x850, 4, 1, 0, 0, 0, 0, 0xFFFFFFFF, [0]⟩,
  ⟨0x854, 4, 1, 0, 0, 0, 0, 0xFFFFFFFF, [0]⟩,
  ⟨0xF00, 4, 1, 0, 0, 0, 0, 0xFFFFFFFF, [0]⟩,
  ⟨0xF04, 4, 1, 0, 0, 0, 0, 0xFFFFFFFF, [0]⟩,
  ⟨0xF08, 4, 1, 0, 0, 0, 0, 0xFFFFFFFF, [0]⟩,
  ⟨0xF0C, 4, 1, 0, 0, 0, 0, 0xFFFFFFFF, [0]⟩,
  ⟨0xF10, 4, 1, 0, 0, 0, 0, 0xFFFFFFFF, [0]⟩]

/-- Every row of the SBX page but the common header. -/
def regsSBX : List RegRow := rowsSBX

/-- The rows of the SNS page. -/
def rowsSNS : List RegRow := [
  ⟨0x040, 4, 1, 0, 0xFFF0F, 0, 0, 0, [0x41400]⟩,
  ⟨0x800, 4, 1, 0, 0, 0, 0, 0x1FFF, [0]⟩,
  ⟨0x808, 4, 1, 0, 0, 0, 0x3, 0, [0]⟩,
  ⟨0x810, 4, 4, 0, 0, 0, 0, 0xFFFF03FF, [0xFFFF0000]⟩,
  ⟨0x820, 8, 4, 0, 0, 0, 0, 0xFFFFFFFF, [0]⟩,
  ⟨0x824, 8, 4, 0, 0, 0, 0, 0xFFFFFFFF, [0]⟩,
  ⟨0xF00, 4, 1, 0, 0, 0, 0, 0xFFFFFFFF, [0]⟩,
  ⟨0xF04, 4, 1, 0, 0, 0, 0, 0xFFFFFFFF, [0]⟩,
  ⟨0xF08, 4, 1, 0, 0, 0, 0, 0xFFFFFFFF, [0]⟩,
  ⟨0xF0C, 4, 1, 0, 0, 0, 0, 0xFFFFFFFF, [0]⟩]

/-- Every row of the SNS page but the common header. -/
def regsSNS : List RegRow := rowsSNS

/-- The rows of the MOD page. -/
def rowsMOD : List RegRow := [
  ⟨0x040, 4, 1, 0, 0xFF, 0, 0, 0, [0x14]⟩,
  ⟨0x080, 16, 12, 0, 0xFFFF073F, 0, 0, 0, [0x4000200]⟩,
  ⟨0x084, 16, 12, 0, 0xFFFFFFFF, 0, 0, 0, [0]⟩,
  ⟨0x088, 16, 12, 0, 0xFFFFFFFF, 0, 0, 0, [0]⟩,
  ⟨0x800, 4, 1, 0, 0, 0, 0, 0xFFFF1F, [0]⟩,
  ⟨0x804, 4, 1, 0, 0, 0, 0, 0xFFF, [0]⟩,
  ⟨0x830, 4, 1, 0, 0, 0, 0, 0xFFFFFFFF, [0]⟩,
  ⟨0x834, 4, 1, 0, 0, 0, 0, 0xFFFFFFFF, [0]⟩,
  ⟨0x840, 4, 12, 0, 0, 0, 0, 0xFFFFFFFF, [0]⟩,
  ⟨0x880, 4, 12, 0, 0, 0, 0, 0xFFFFFFFF, [0]⟩,
  ⟨0x8C0, 4, 12, 0, 0, 0, 0, 0xFFFFFFFF, [0]⟩,
  ⟨0xF00, 4, 1, 0, 0, 0, 0, 0xFFFFFFFF, [0]⟩,
  ⟨0xF04, 4, 1, 0, 0, 0, 0, 0xFFFFFFFF, [0]⟩,
  ⟨0xF08, 4, 1, 0, 0, 0, 0, 0xFFFFFFFF, [0]⟩,
  ⟨0xF0C, 4, 1, 0, 0, 0, 0, 0xFFFFFFFF, [0]⟩,
  ⟨0xF40, 4, 12, 0, 0, 0, 0, 0xFFFFFFFF, [0]⟩]

/-- Every row of the MOD page but the common header. -/
def regsMOD : List RegRow := rowsMOD

/-- The rows of the CHG page. -/
def rowsCHG : List RegRow := [
  ⟨0x040, 4, 1, 0, 0xFF03, 0, 0, 0, [0x302]⟩,
  ⟨0x044, 4, 1, 0, 0xFFFFFFFF, 0, 0, 0, [0x186A0]⟩,
  ⟨0x048, 4, 1, 0, 0xFFFF, 0, 0, 0, [0x148]⟩,
  ⟨0x800, 4, 1, 0, 0, 0, 0, 0xFFFFFFFF, [0]⟩,
  ⟨0x804, 4, 1, 0, 0, 0, 0, 0xFFFFFFFF, [0]⟩,
  ⟨0x900, 4, 1, 0, 0, 0, 0, 0xFFFFFFFF, [0]⟩,
  ⟨0x904, 4, 1, 0, 0, 0, 0, 0xFFFFFFFF, [0]⟩,
  ⟨0x810, 16, 10, 0, 0, 0, 0, 0xFFFFFFFF, [0]⟩,
  ⟨0x814, 16, 10, 0, 0, 0, 0, 0xFFFFFFFF, [0]⟩,
  ⟨0x818, 16, 10, 0, 0, 0, 0, 0xFFFFFFFF, [0]⟩,
  ⟨0x910, 16, 10, 0, 0, 0, 0, 0xFFFFFFFF, [0]⟩,
  ⟨0x914, 16, 10, 0, 0, 0, 0, 0xFFFFFFFF, [0]⟩,
  ⟨0x918, 16, 10, 0, 0, 0, 0, 0xFFFFFFFF, [0]⟩,
  ⟨0xA00, 4, 1, 0, 0, 0, 0, 0xFFFFFFFF, [0]⟩,
  ⟨0xA04, 4, 1, 0, 0, 0, 0, 0xFFFFFFFF, [0]⟩,
  ⟨0xA08, 4, 1, 0, 0, 0, 0, 0xFFFFFFFF, [0]⟩,
  ⟨0xA0C, 4, 1, 0, 0, 0, 0, 0xFFFFFFFF, [0]⟩,
  ⟨0xA10, 4, 1, 0, 0, 0, 0, 0xFFFFFFFF, [0]⟩,
  ⟨0xA14, 4, 1, 0, 0, 0, 0, 0xFFFFFFFF, [0]⟩,
  ⟨0xA18, 4, 1, 0, 0, 0, 0, 0xFFFFFFFF, [0]⟩,
  ⟨0xA1C, 4, 1, 0, 0, 0, 0, 0xFFFFFFFF, [0]⟩,
  ⟨0xA20, 4, 1, 0, 0, 0, 0, 0xFF1F, [0x3]⟩,
  ⟨0xF00, 4, 1, 0, 0, 0, 0, 0xFFFFFFFF, [0]⟩,
  ⟨0xF04, 4, 1, 0, 0, 0, 0, 0xFFFFFFFF, [0]⟩]

/-- Every row of the CHG page but the common header. -/
def regsCHG : List RegRow := rowsCHG

/-- The rows of the EST page. -/
def rowsEST : List RegRow := [
  ⟨0x040, 4, 1, 0, 0xFFFF00FF, 0, 0, 0, [0x12C0000]⟩,
  ⟨0x044, 4, 1, 0, 0xFFFFFFFF, 0, 0, 0, [0x8000CCCD]⟩,
  ⟨0x048, 4, 1, 0, 0xFFFFFFFF, 0, 0, 0, [0xBEBC20]⟩,
  ⟨0x060, 4, 8, 0, 0xFFFFFFFF, 0, 0, 0, [0]⟩,
  ⟨0x100, 4, 64, 0, 0xF7, 0, 0, 0, [0x10]⟩,
  ⟨0x800, 4, 1, 0, 0, 0, 0, 0xFFFFFFFF, [0]⟩,
  ⟨0x804, 4, 1, 0, 0, 0, 0, 0xFFFFFFFF, [0]⟩,
  ⟨0x808, 4, 1, 0, 0, 0, 0, 0x3FFFFFFF, [0]⟩,
  ⟨0x80C, 4, 1, 0, 0, 0, 0, 0x3FFFFFFF, [0]⟩,
  ⟨0x810, 4, 1, 0, 0, 0, 0, 0x1FFFFFF, [0]⟩,
  ⟨0x814, 4, 1, 0, 0, 0, 0, 0x1FFFFFF, [0]⟩,
  ⟨0x818, 4, 1, 0, 0, 0, 0, 0x1FFFFFF, [0]⟩,
  ⟨0x81C, 4, 1, 0, 0, 0, 0, 0x1FFFFFF, [0]⟩,
  ⟨0x820, 4, 1, 0, 0, 0, 0, 0x1FFFFFF, [0]⟩,
  ⟨0x828, 4, 1, 0, 0, 0, 0, 0xFFFFFFFF, [0]⟩,
  ⟨0x82C, 4, 1, 0, 0, 0, 0, 0xFFFFFFFF, [0]⟩,
  ⟨0x840, 4, 6, 0, 0, 0, 0, 0xFFFFFFFF, [0]⟩,
  ⟨0x860, 4, 1, 0, 0, 0, 0, 0xFFFFFFFF, [0]⟩,
  ⟨0x864, 4, 1, 0, 0, 0, 0, 0xFFFFFFFF, [0]⟩,
  ⟨0xF00, 4, 1, 0, 0, 0, 0, 0xFFFF, [0]⟩,
  ⟨0xF04, 4, 1, 0, 0, 0, 0, 0xFFFFFFFF, [0]⟩,
  ⟨0xF08, 4, 1, 0, 0, 0, 0, 0xFFFFFFFF, [0]⟩,
  ⟨0xF0C, 4, 1, 0, 0, 0, 0, 0xFFFFFFFF, [0]⟩,
  ⟨0xF10, 4, 1, 0, 0, 0, 0, 0xFFFFFFFF, [0]⟩]

/-- The rows of the EST page (continued). -/
def rowsESTb : List RegRow := [
  ⟨0xF40, 8, 8, 0, 0, 0, 0, 0xFFFFFFFF, [0xFFFFFFFF]⟩,
  ⟨0xF44, 8, 8, 0, 0, 0, 0, 0xFFFFFFFF, [0xFFFFFFFF]⟩,
  ⟨0x080, 4, 1, 0, 0xFFFF, 0, 0, 0, [0xC8]⟩,
  ⟨0x084, 4, 1, 0, 0xFFFFFFFF, 0, 0, 0, [0]⟩,
  ⟨0x088, 4, 1, 0, 0xFFFFFFFF, 0, 0, 0, [0x7080258]⟩,
  ⟨0x08C, 4, 1, 0, 0xFFFF, 0, 0, 0, [0x3E8]⟩,
  ⟨0x090, 4, 1, 0, 0xFFFF00FF, 0, 0, 0, [0xCCD001E]⟩,
  ⟨0x094, 4, 1, 0, 0xFFFFFFFF, 0, 0, 0, [0x199A0000]⟩,
  ⟨0x098, 4, 1, 0, 0xFFFFFFFF, 0, 0, 0, [0x4CCD07AE]⟩,
  ⟨0x09C, 4, 1, 0, 0x10FFFFF, 0, 0, 0, [0x1033333]⟩,
  ⟨0x0A0, 4, 1, 0, 0xFFFFFFFF, 0, 0, 0, [0xF3330CCD]⟩,
  ⟨0x0A4, 4, 1, 0, 0xFFFF, 0, 0, 0, [0xCCD]⟩,
  ⟨0x0A8, 4, 1, 0, 0xFFFFFFFF, 0, 0, 0, [0xFFFF0000]⟩,
  ⟨0x0AC, 4, 1, 0, 0xFFFF, 0, 0, 0, [0x3333]⟩,
  ⟨0x0B0, 4, 1, 0, 0xFFFFFFFF, 0, 0, 0, [0]⟩,
  ⟨0x0B4, 4, 1, 0, 0xFFFFFFFF, 0, 0, 0, [0]⟩,
  ⟨0x0B8, 4, 1, 0, 0xFFFFFFFF, 0, 0, 0, [0x800014]⟩,
  ⟨0x880, 4, 1, 0, 0, 0, 0, 0x3FFFFFFF, [0]⟩,
  ⟨0x884, 4, 1, 0, 0, 0, 0, 0xFFFFFFFF, [0]⟩,
  ⟨0x888, 4, 1, 0, 0, 0, 0, 0xFFFFFFFF, [0]⟩,
  ⟨0x88C, 4, 1, 0, 0, 0, 0, 0xFFFFFFFF, [0]⟩,
  ⟨0x890, 4, 1, 0, 0, 0, 0, 0xFFFFF3, [0]⟩,
  ⟨0x894, 4, 1, 0, 0, 0, 0, 0xFFFFFFFF, [0]⟩,
  ⟨0x898, 4, 1, 0, 0, 0, 0, 0xFFFFFFFF, [0]⟩]

/-- The rows of the EST page (continued). -/
def rowsESTc : List RegRow := [
  ⟨0x8A0, 4, 1, 0, 0, 0, 0, 0x7F, [0]⟩,
  ⟨0x8A4, 4, 1, 0, 0, 0, 0, 0xFFFFFFFF, [0]⟩,
  ⟨0x8A8, 4, 1, 0, 0, 0, 0, 0xFFFFFFFF, [0]⟩,
  ⟨0x8AC, 4, 1, 0, 0, 0, 0, 0xF00001FF, [0]⟩,
  ⟨0x8B0, 4, 1, 0, 0, 0, 0, 0xFFFFFFFF, [0]⟩,
  ⟨0xF80, 4, 1, 0, 0, 0x7FF, 0, 0, [0]⟩,
  ⟨0xF84, 4, 1, 0, 0, 0, 0, 0xFFFFFFFF, [0]⟩,
  ⟨0xF88, 4, 1, 0, 0, 0, 0, 0xFFFFFFFF, [0]⟩,
  ⟨0xF8C, 4, 1, 0, 0, 0, 0, 0xFFFFFFFF, [0]⟩,
  ⟨0xF90, 4, 1, 0, 0, 0, 0, 0xFFFFFFFF, [0]⟩,
  ⟨0xF94, 4, 1, 0, 0, 0, 0, 0xFFFFFFFF, [0]⟩,
  ⟨0xF98, 4, 1, 0, 0, 0, 0, 0xFFFFFFFF, [0]⟩]

/-- Every row of the EST page but the common header. -/
def regsEST : List RegRow := rowsEST ++ rowsESTb ++ rowsESTc

/-- The rows of the OST page. -/
def rowsOST : List RegRow := [
  ⟨0x040, 4, 1, 0, 0xFF3F, 0, 0, 0, [0x8010]⟩,
  ⟨0x800, 4, 1, 0, 0, 0, 0, 0x13F3F3F, [0x20]⟩,
  ⟨0x804, 4, 1, 0, 0, 0, 0, 0xFFFFFFFF, [0]⟩,
  ⟨0x808, 4, 1, 0, 0, 0, 0, 0xFFFFFFFF, [0]⟩,
  ⟨0x810, 4, 1, 0, 0, 0, 0, 0xFFFFFFFF, [0]⟩,
  ⟨0x814, 4, 1, 0, 0, 0, 0, 0xFFFFFFFF, [0]⟩,
  ⟨0x818, 4, 1, 0, 0, 0, 0, 0xFFF1F1F, [0]⟩,
  ⟨0x840, 4, 32, 0, 0, 0, 0, 0x3FF1FFF, [0]⟩,
  ⟨0x8C0, 4, 1, 0, 0, 0, 0, 0xFFFFFFFF, [0]⟩,
  ⟨0x8C4, 4, 1, 0, 0, 0, 0, 0xFFFFFFFF, [0]⟩,
  ⟨0x8C8, 4, 1, 0, 0, 0, 0, 0xFFFFFFFF, [0]⟩,
  ⟨0xA00, 4, 128, 0, 0, 0, 0, 0xFFFFFFFF, [0]⟩,
  ⟨0xC00, 4, 128, 0, 0, 0, 0, 0xFFFFFFFF, [0]⟩,
  ⟨0xF00, 4, 1, 0, 0, 0, 0, 0xFFFFFFFF, [0]⟩,
  ⟨0xF04, 4, 1, 0, 0, 0, 0, 0xFFFFFFFF, [0]⟩,
  ⟨0xF08, 4, 1, 0, 0, 0, 0, 0xFFFFFFFF, [0]⟩,
  ⟨0xF0C, 4, 1, 0, 0, 0, 0, 0xFFFFFFFF, [0]⟩]

/-- Every row of the OST page but the common header. -/
def regsOST : List RegRow := rowsOST

/-- The rows of the BAL page. -/
def rowsBAL : List RegRow := [
  ⟨0x040, 4, 1, 0, 0xFFFF0003, 0, 0, 0, [0x1C200003]⟩,
  ⟨0x044, 4, 1, 0, 0xFFFF, 0, 0, 0, [0x83]⟩,
  ⟨0x048, 4, 1, 0, 0xFFF, 0, 0, 0, [0x7CD]⟩,
  ⟨0x04C, 4, 1, 0, 0xFFFFFFFF, 0, 0, 0, [0x13881F40]⟩,
  ⟨0x050, 4, 1, 0, 0xFFFFFFFF, 0, 0, 0, [0x640032]⟩,
  ⟨0x054, 4, 1, 0, 0xFFFFFFFF, 0, 0, 0, [0x7D00190]⟩,
  ⟨0x058, 4, 1, 0, 0xFFFFFFFF, 0, 0, 0, [0xB400DC0]⟩,
  ⟨0x05C, 4, 1, 0, 0xFF0FFF, 0, 0, 0, [0xA0064]⟩,
  ⟨0x060, 4, 1, 0, 0xFFFF, 0, 0, 0, [0x3C]⟩,
  ⟨0x064, 4, 1, 0, 0xFF0FFFFF, 0, 0, 0, [0x800F1000]⟩,
  ⟨0x800, 4, 1, 0, 0, 0, 0, 0x3FFFFF, [0]⟩,
  ⟨0x808, 4, 1, 0, 0, 0, 0, 0xFFFFFFFF, [0]⟩,
  ⟨0x80C, 4, 1, 0, 0, 0, 0, 0xFFFFFFFF, [0]⟩,
  ⟨0x824, 4, 1, 0, 0, 0, 0, 0xFFFFFFFF, [0]⟩,
  ⟨0x828, 4, 1, 0, 0, 0, 0, 0xFFFFFFFF, [0]⟩,
  ⟨0x810, 4, 1, 0, 0, 0, 0, 0xFFFF, [0]⟩,
  ⟨0x820, 4, 1, 0x1FF, 0, 0, 0, 0, [0]⟩,
  ⟨0x830, 8, 4, 0, 0, 0, 0, 0xFFFFFFFF, [0]⟩,
  ⟨0x834, 8, 4, 0, 0, 0, 0, 0xFFFFFFFF, [0]⟩,
  ⟨0x850, 4, 1, 0, 0, 0, 0, 0xFFFFFFFF, [0xFFFFFFFF]⟩,
  ⟨0x860, 4, 1, 0, 0, 0, 0x7FF, 0, [0]⟩,
  ⟨0x900, 4, 16, 0, 0, 0, 0, 0xFFFFFFFF, [0]⟩,
  ⟨0xA00, 4, 256, 0, 0, 0, 0, 0xFFF0FFF, [0]⟩,
  ⟨0xF00, 4, 1, 0, 0, 0, 0, 0xFFFFFFFF, [0]⟩]

/-- The rows of the BAL page (continued). -/
def rowsBALb : List RegRow := [
  ⟨0xF04, 4, 1, 0, 0, 0, 0, 0xFFFFFFFF, [0]⟩,
  ⟨0xF08, 4, 1, 0, 0, 0, 0, 0xFFFFFFFF, [0]⟩,
  ⟨0xF0C, 4, 1, 0, 0, 0, 0, 0xFFFFFFFF, [0]⟩]

/-- Every row of the BAL page but the common header. -/
def regsBAL : List RegRow := rowsBAL ++ rowsBALb

/-- The rows of the CTH page. -/
def rowsCTH : List RegRow := [
  ⟨0x040, 4, 1, 0, 0xFFFF, 0, 0, 0, [0x140]⟩,
  ⟨0x044, 4, 1, 0, 0xFFFFFFFF, 0, 0, 0, [0x1000100]⟩,
  ⟨0x048, 4, 1, 0, 0xFFFFFFFF, 0, 0, 0, [0x1F41770]⟩,
  ⟨0x04C, 4, 1, 0, 0xFFFFFFFF, 0, 0, 0, [0x10001F4]⟩,
  ⟨0x050, 4, 1, 0, 0xFFFF, 0, 0, 0, [0x4000]⟩,
  ⟨0x058, 4, 1, 0, 0xFFFFFFFF, 0, 0, 0, [0]⟩,
  ⟨0x05C, 4, 1, 0, 0xFFFFFFFF, 0, 0, 0, [0]⟩,
  ⟨0x060, 16, 4, 0, 0x81FF01FF, 0, 0, 0, [0]⟩,
  ⟨0x064, 16, 4, 0, 0xFFFFFFFF, 0, 0, 0, [0x3C03E8]⟩,
  ⟨0x068, 16, 4, 0, 0xFFFFFFFF, 0, 0, 0, [0xA000780]⟩,
  ⟨0x06C, 16, 4, 0, 0xFFFF000F, 0, 0, 0, [0x10000000]⟩,
  ⟨0x800, 4, 4, 0xFFFF, 0, 0, 0, 0, [0x640]⟩,
  ⟨0x810, 4, 4, 0, 0, 0, 0, 0x3FFFFFF, [0]⟩,
  ⟨0x840, 4, 64, 0, 0, 0, 0, 0xFFFFFFFF, [0]⟩,
  ⟨0x950, 4, 1, 0, 0, 0, 0, 0x3FFFFF, [0]⟩,
  ⟨0x954, 4, 1, 0, 0, 0, 0x7FF, 0, [0]⟩,
  ⟨0x958, 4, 1, 0, 0, 0, 0, 0xFFFFFFFF, [0]⟩,
  ⟨0x95C, 4, 1, 0, 0, 0, 0, 0xFFFFFFFF, [0]⟩,
  ⟨0xA00, 4, 256, 0, 0, 0, 0, 0xFFFFFFFF, [0]⟩,
  ⟨0xE00, 4, 1, 0x1FF, 0, 0, 0, 0, [0]⟩,
  ⟨0xE04, 4, 1, 0, 0, 0, 0, 0xFFFFFFFF, [0]⟩,
  ⟨0xF00, 4, 1, 0, 0, 0, 0, 0xFFFFFFFF, [0]⟩,
  ⟨0xF04, 4, 1, 0, 0, 0, 0, 0xFFFFFFFF, [0]⟩]

/-- Every row of the CTH page but the common header. -/
def regsCTH : List RegRow := rowsCTH

/-- The rows of the PROT page. -/
def rowsPROT : List RegRow := [
  ⟨0x040, 4, 1, 0, 0x7FFFF, 0, 0, 0, [0x10203]⟩,
  ⟨0x044, 4, 1, 0, 0xFFFFFFFF, 0, 0, 0, [0x4003E8]⟩,
  ⟨0x048, 4, 1, 0, 0xFFFF00FF, 0, 0, 0, [0x7D0001A]⟩,
  ⟨0x04C, 4, 1, 0, 0xFFFFFFFF, 0, 0, 0, [0]⟩,
  ⟨0x050, 4, 1, 0, 0xFFFFFFFF, 0, 0, 0, [0x8000000]⟩,
  ⟨0x800, 4, 1, 0, 0, 0, 0, 0xFFFFFFFF, [0]⟩,
  ⟨0x804, 4, 1, 0, 0, 0, 0, 0xFFFFFFFF, [0]⟩,
  ⟨0x808, 4, 1, 0, 0, 0, 0, 0xFFFFFFFF, [0]⟩,
  ⟨0x80C, 4, 1, 0, 0, 0, 0, 0xFFFFFFFF, [0]⟩,
  ⟨0x810, 4, 1, 0, 0, 0, 0, 0xFFFF, [0]⟩,
  ⟨0x840, 4, 1, 0, 0, 0, 0, 0xFFFFFFFF, [0]⟩,
  ⟨0x844, 4, 1, 0, 0, 0, 0, 0xFFFFFFFF, [0]⟩,
  ⟨0x848, 4, 1, 0, 0, 0, 0, 0x3FF03FF, [0]⟩,
  ⟨0x850, 4, 1, 0, 0, 0, 0, 0xFFFFFFFF, [0]⟩,
  ⟨0x854, 4, 1, 0, 0, 0, 0, 0xFFFFFFFF, [0]⟩,
  ⟨0xF00, 4, 1, 0, 0, 0, 0, 0xFFFFFFFF, [0]⟩,
  ⟨0xF04, 4, 1, 0, 0, 0, 0, 0xFFFFFFFF, [0]⟩,
  ⟨0xF10, 4, 1, 0, 0, 0xFFFFFFFF, 0, 0, [0]⟩,
  ⟨0xF14, 4, 1, 0, 0, 0xFFFFFFFF, 0, 0, [0]⟩]

/-- Every row of the PROT page but the common header. -/
def regsPROT : List RegRow := rowsPROT

/-- The rows of the TRIP page. -/
def rowsTRIP : List RegRow := [
  ⟨0x040, 8, 4, 0, 0xFFFFFFFF, 0, 0, 0, [0xFFFFFFFF, 0xFFFFFFFF, 0xFFFFFFFF, 0]⟩,
  ⟨0x044, 8, 4, 0, 0xFFFFFFFF, 0, 0, 0, [0x61FAFFFF, 0x61FAFFFF, 0x75FAFFFF, 0x8E050000]⟩,
  ⟨0x060, 4, 4, 0, 0x3, 0, 0, 0, [0x2, 0x2, 0x1, 0]⟩,
  ⟨0x800, 4, 1, 0, 0, 0, 0, 0xFFFFF, [0]⟩,
  ⟨0x808, 4, 1, 0, 0, 0, 0x30F, 0, [0]⟩,
  ⟨0x810, 4, 4, 0, 0, 0, 0, 0xFFFFFFBF, [0]⟩,
  ⟨0xF00, 4, 4, 0, 0, 0, 0, 0xFFFFFFFF, [0]⟩,
  ⟨0xF10, 4, 1, 0, 0, 0, 0, 0xFFFFFFFF, [0]⟩]

/-- Every row of the TRIP page but the common header. -/
def regsTRIP : List RegRow := rowsTRIP

/-- The rows of the SAFE page. -/
def rowsSAFE : List RegRow := [
  ⟨0x040, 4, 1, 0, 0xFF3F, 0, 0, 0, [0x14]⟩,
  ⟨0x080, 8, 16, 0, 0xFFF, 0, 0, 0, [0xFF8]⟩,
  ⟨0x084, 8, 16, 0, 0xFF073FFF, 0, 0, 0, [0x28]⟩,
  ⟨0x800, 4, 16, 0, 0, 0, 0, 0xFFFF0F3B, [0]⟩,
  ⟨0x840, 4, 1, 0, 0, 0, 0, 0xFFFFFFFF, [0]⟩,
  ⟨0x844, 4, 1, 0, 0, 0, 0, 0xFFFF, [0]⟩,
  ⟨0x848, 4, 1, 0, 0, 0, 0, 0xFFFF0003, [0]⟩,
  ⟨0x850, 4, 1, 0, 0, 0, 0, 0xFFFFFFFF, [0]⟩,
  ⟨0x854, 4, 1, 0, 0, 0, 0, 0xFFFFFFFF, [0]⟩,
  ⟨0xF00, 4, 1, 0, 0, 0, 0, 0xFFFFFFFF, [0]⟩,
  ⟨0xF04, 4, 1, 0, 0, 0, 0, 0xFFFFFFFF, [0]⟩,
  ⟨0xF08, 4, 1, 0, 0, 0, 0, 0xFFFFFFFF, [0]⟩,
  ⟨0xF0C, 4, 1, 0, 0, 0, 0, 0xFFFFFFFF, [0]⟩,
  ⟨0xF10, 4, 1, 0, 0, 0, 0, 0xFFFFFFFF, [0]⟩,
  ⟨0xF14, 4, 1, 0, 0, 0, 0, 0xFFFFFFFF, [0]⟩]

/-- Every row of the SAFE page but the common header. -/
def regsSAFE : List RegRow := rowsSAFE

/-- The rows of the SLAY page. -/
def rowsSLAY : List RegRow := [
  ⟨0x040, 4, 1, 0, 0xFFFFFFFF, 0, 0, 0, [0x30810]⟩,
  ⟨0x080, 32, 8, 0, 0xFFFFFFFF, 0, 0, 0, [0]⟩,
  ⟨0x084, 32, 8, 0, 0xFFFF7FFB, 0, 0, 0, [0xA1000]⟩,
  ⟨0x088, 32, 8, 0, 0xFFFF, 0, 0, 0, [0x64]⟩,
  ⟨0x08C, 32, 8, 0, 0xFFFFFFFF, 0, 0, 0, [0]⟩,
  ⟨0x090, 32, 8, 0, 0xFFFFFFFF, 0, 0, 0, [0]⟩,
  ⟨0x800, 16, 8, 0, 0, 0, 0, 0xFFFF0003, [0]⟩,
  ⟨0x804, 16, 8, 0, 0, 0, 0, 0xFFFFFFFF, [0]⟩,
  ⟨0x808, 16, 8, 0, 0, 0, 0, 0xFFFFFFFF, [0]⟩,
  ⟨0x80C, 16, 8, 0, 0, 0, 0, 0xFFFFFFFF, [0]⟩,
  ⟨0xF00, 4, 8, 0, 0, 0, 0, 0xFFFFFFFF, [0]⟩,
  ⟨0xF20, 4, 8, 0, 0, 0, 0, 0xFFFFFFFF, [0]⟩,
  ⟨0xF40, 4, 1, 0, 0, 0, 0, 0xFFFFFFFF, [0]⟩,
  ⟨0xF44, 4, 1, 0, 0, 0, 0, 0xFFFFFFFF, [0]⟩,
  ⟨0xF48, 4, 1, 0, 0, 0, 0, 0xFFFFFFFF, [0]⟩]

/-- Every row of the SLAY page but the common header. -/
def regsSLAY : List RegRow := rowsSLAY

/-- The rows of the SPT page. -/
def rowsSPT : List RegRow := [
  ⟨0x040, 32, 4, 0, 0xFFFFFF0F, 0, 0, 0, [0x640400]⟩,
  ⟨0x044, 32, 4, 0, 0xFFFFFFFF, 0, 0, 0, [0]⟩,
  ⟨0x048, 32, 4, 0, 0xFFFFFFFF, 0, 0, 0, [0x10000]⟩,
  ⟨0x04C, 32, 4, 0, 0xFFFFFFFF, 0, 0, 0, [0x8000]⟩,
  ⟨0x050, 32, 4, 0, 0xFFFFFFFF, 0, 0, 0, [0]⟩,
  ⟨0x054, 32, 4, 0, 0xFFFFFFFF, 0, 0, 0, [0]⟩,
  ⟨0x058, 32, 4, 0, 0xFFFFFFFF, 0, 0, 0, [0]⟩,
  ⟨0x0C0, 16, 8, 0, 0xFFFFFFFF, 0, 0, 0, [0]⟩,
  ⟨0x0C8, 16, 8, 0, 0xFFFFFFFF, 0, 0, 0, [0]⟩,
  ⟨0x0C4, 16, 8, 0, 0xFFFF373B, 0, 0, 0, [0x320100]⟩,
  ⟨0x0CC, 16, 8, 0, 0xFFFFFFFF, 0, 0, 0, [0]⟩,
  ⟨0x140, 4, 1, 0, 0x71, 0, 0, 0, [0]⟩,
  ⟨0x800, 8, 4, 0, 0, 0, 0, 0xFFFFFFFF, [0]⟩,
  ⟨0x804, 8, 4, 0, 0, 0, 0, 0xFFFFFFFF, [0]⟩,
  ⟨0x840, 4, 1, 0, 0, 0, 0, 0xFFF, [0]⟩,
  ⟨0x844, 4, 1, 0xFFFFFFFF, 0, 0, 0, 0, [0]⟩,
  ⟨0x848, 4, 1, 0, 0, 0, 0, 0xFFFFFFFF, [0]⟩,
  ⟨0x880, 8, 8, 0, 0, 0, 0, 0xFFFFFFFF, [0]⟩,
  ⟨0x884, 8, 8, 0, 0, 0, 0, 0xFFFFFFFF, [0]⟩,
  ⟨0xF00, 4, 1, 0, 0, 0, 0, 0xFFFFFFFF, [0]⟩,
  ⟨0xF04, 4, 1, 0, 0, 0, 0, 0xFFFFFFFF, [0]⟩]

/-- Every row of the SPT page but the common header. -/
def regsSPT : List RegRow := rowsSPT

/-- The rows of the PWM page. -/
def rowsPWM : List RegRow := [
  ⟨0x040, 4, 1, 0, 0x8007FFFF, 0, 0, 0, [0x5000]⟩,
  ⟨0x044, 4, 1, 0, 0x8007FFFF, 0, 0, 0, [0x5000]⟩,
  ⟨0x050, 16, 8, 0, 0x3F, 0, 0, 0, [0x10]⟩,
  ⟨0x054, 16, 8, 0, 0x7FFFF, 0, 0, 0, [0]⟩,
  ⟨0x058, 16, 8, 0, 0x1FFF1FFF, 0, 0, 0, [0x2800280]⟩,
  ⟨0x05C, 16, 8, 0, 0x7FFFF, 0, 0, 0, [0]⟩,
  ⟨0x800, 4, 8, 0xFFFFFFFF, 0, 0, 0, 0, [0]⟩,
  ⟨0x840, 4, 1, 0, 0, 0, 0, 0x7FFFF, [0]⟩,
  ⟨0x848, 4, 1, 0, 0, 0, 0, 0xFFFFFFFF, [0]⟩,
  ⟨0x84C, 4, 1, 0, 0, 0, 0, 0xFFFFFFFF, [0]⟩,
  ⟨0x860, 4, 8, 0, 0, 0, 0, 0x7FFFF, [0]⟩,
  ⟨0xF00, 4, 1, 0, 0, 0, 0, 0xFFFFFFFF, [0]⟩]

/-- Every row of the PWM page but the common header. -/
def regsPWM : List RegRow := rowsPWM

/-- The rows of the LOOP page. -/
def rowsLOOP : List RegRow := [
  ⟨0x040, 4, 1, 0, 0xFFFFFFFF, 0, 0, 0, [0x10000]⟩,
  ⟨0x044, 4, 1, 0, 0x73, 0, 0, 0, [0]⟩,
  ⟨0x048, 4, 1, 0, 0x77, 0, 0, 0, [0]⟩,
  ⟨0x04C, 4, 1, 0, 0x13, 0, 0, 0, [0x3]⟩,
  ⟨0x050, 4, 8, 0, 0xFFFFFFFF, 0, 0, 0, [0]⟩,
  ⟨0x070, 4, 1, 0, 0xFFFFFFFF, 0, 0, 0, [0x7FFFFF]⟩,
  ⟨0x074, 4, 1, 0, 0xFFFFFFFF, 0, 0, 0, [0]⟩,
  ⟨0x078, 4, 1, 0, 0xFFFFFFFF, 0, 0, 0, [0]⟩,
  ⟨0x07C, 4, 1, 0, 0xFFFFFFFF, 0, 0, 0, [0]⟩,
  ⟨0x080, 4, 1, 0, 0xFFFFFFFF, 0, 0, 0, [0]⟩,
  ⟨0x084, 4, 1, 0, 0xFFFFFFFF, 0, 0, 0, [0]⟩,
  ⟨0x088, 4, 1, 0, 0xFFFFFFFF, 0, 0, 0, [0]⟩,
  ⟨0x08C, 4, 1, 0, 0x80FFFFFF, 0, 0, 0, [0x803E8]⟩,
  ⟨0x090, 4, 1, 0, 0xFFFFFFFF, 0, 0, 0, [0]⟩,
  ⟨0x094, 4, 1, 0, 0xFFFFFFFF, 0, 0, 0, [0]⟩,
  ⟨0x800, 4, 1, 0xFFFFFFFF, 0, 0, 0, 0, [0]⟩,
  ⟨0x804, 4, 1, 0xFFFFFFFF, 0, 0, 0, 0, [0]⟩,
  ⟨0x808, 4, 1, 0, 0, 0, 0, 0xFFFF00FB, [0]⟩,
  ⟨0x80C, 4, 1, 0, 0, 0, 0, 0xFFFFFFFF, [0]⟩,
  ⟨0x810, 4, 1, 0, 0, 0, 0, 0xFFFFFFFF, [0]⟩,
  ⟨0x814, 4, 1, 0, 0, 0, 0, 0xFFFFFFFF, [0]⟩,
  ⟨0x818, 4, 1, 0, 0, 0, 0, 0xFFFFFFFF, [0]⟩,
  ⟨0x81C, 4, 1, 0, 0, 0, 0, 0xFFFFFFFF, [0]⟩,
  ⟨0x820, 4, 1, 0, 0, 0, 0, 0xFFFFFFFF, [0]⟩]

/-- The rows of the LOOP page (continued). -/
def rowsLOOPb : List RegRow := [
  ⟨0x824, 4, 1, 0, 0, 0, 0, 0xFFFFFFFF, [0]⟩,
  ⟨0x830, 4, 1, 0, 0, 0, 0, 0xFFFFFFFF, [0]⟩,
  ⟨0x834, 4, 1, 0, 0, 0, 0, 0xFFFFFFFF, [0]⟩,
  ⟨0x838, 4, 1, 0, 0, 0, 0, 0xFFFFFFFF, [0]⟩,
  ⟨0x83C, 4, 1, 0, 0, 0, 0, 0xFFFFFFFF, [0]⟩,
  ⟨0x840, 4, 1, 0, 0, 0, 0, 0xFFFFFFFF, [0]⟩,
  ⟨0xF00, 4, 1, 0, 0, 0, 0, 0xFFFFFFFF, [0]⟩,
  ⟨0xF04, 4, 1, 0, 0, 0, 0, 0xFFFFFFFF, [0]⟩,
  ⟨0xF08, 4, 1, 0, 0, 0, 0, 0xFFFFFFFF, [0]⟩,
  ⟨0xF0C, 4, 1, 0, 0, 0, 0, 0xFFFFFFFF, [0]⟩]

/-- Every row of the LOOP page but the common header. -/
def regsLOOP : List RegRow := rowsLOOP ++ rowsLOOPb

/-- The rows of the CAN page. -/
def rowsCAN : List RegRow := [
  ⟨0x040, 4, 1, 0, 0xFF00003B, 0, 0, 0, [0x20]⟩,
  ⟨0x044, 4, 1, 0, 0xFFFFFF7F, 0, 0, 0, [0xA060C03]⟩,
  ⟨0x048, 4, 1, 0, 0xFFFFFFFF, 0, 0, 0, [0x10814206]⟩,
  ⟨0x04C, 4, 1, 0, 0xFFFFFFFF, 0, 0, 0, [0x10814206]⟩,
  ⟨0x050, 4, 1, 0, 0x3F3F3F0F, 0, 0, 0, [0xA040007]⟩,
  ⟨0x054, 4, 1, 0, 0x1FF0F07, 0, 0, 0, [0x4]⟩,
  ⟨0x058, 4, 1, 0, 0xFFFFFFFF, 0, 0, 0, [0]⟩,
  ⟨0x800, 4, 1, 0, 0, 0, 0, 0xFFFF000F, [0xC]⟩,
  ⟨0x804, 4, 1, 0, 0, 0, 0x1B37, 0, [0]⟩,
  ⟨0x808, 4, 1, 0, 0xFFFFFFFF, 0, 0, 0, [0]⟩,
  ⟨0x80C, 4, 1, 0, 0xFFFFFFFF, 0, 0, 0, [0]⟩,
  ⟨0x810, 4, 1, 0, 0xFFFFFFFF, 0, 0, 0, [0]⟩,
  ⟨0x820, 4, 4, 0, 0, 0, 0, 0xFFFF0001, [0]⟩,
  ⟨0x830, 4, 1, 0x303, 0, 0, 0, 0, [0]⟩,
  ⟨0x840, 4, 8, 0, 0, 0, 0, 0xFFFF0003, [0]⟩,
  ⟨0xB00, 4, 256, 0, 0, 0, 0, 0xFFFFFFFF, [0]⟩,
  ⟨0xF00, 4, 1, 0, 0, 0, 0, 0xFFFFFFFF, [0]⟩,
  ⟨0xF04, 4, 1, 0, 0, 0, 0, 0xFFFFFFFF, [0]⟩,
  ⟨0xF08, 4, 1, 0, 0, 0, 0, 0xFFFFFFFF, [0]⟩,
  ⟨0xF0C, 4, 1, 0, 0, 0, 0, 0xFFFFFFFF, [0]⟩,
  ⟨0xF10, 4, 1, 0, 0, 0, 0, 0xFFFFFFFF, [0]⟩,
  ⟨0xF14, 4, 1, 0, 0, 0, 0, 0xFFFFFFFF, [0]⟩,
  ⟨0xF18, 4, 1, 0, 0, 0, 0, 0xFFFFFFFF, [0]⟩,
  ⟨0xF1C, 4, 1, 0, 0, 0, 0, 0xFFFFFFFF, [0]⟩]

/-- The rows of the CAN page (continued). -/
def rowsCANb : List RegRow := [
  ⟨0xF20, 4, 1, 0, 0, 0, 0, 0xFFFFFFFF, [0]⟩,
  ⟨0xF24, 4, 1, 0, 0, 0, 0, 0xFFFFFFFF, [0]⟩]

/-- Every row of the CAN page but the common header. -/
def regsCAN : List RegRow := rowsCAN ++ rowsCANb

/-- The rows of the ETH page. -/
def rowsETH : List RegRow := [
  ⟨0x040, 4, 1, 0, 0x3F7, 0, 0, 0, [0x200]⟩,
  ⟨0x044, 4, 1, 0, 0xFFFFFFFF, 0, 0, 0, [0]⟩,
  ⟨0x048, 4, 1, 0, 0xFFFFFFFF, 0, 0, 0, [0]⟩,
  ⟨0x04C, 4, 1, 0, 0xFFFFFFFF, 0, 0, 0, [0]⟩,
  ⟨0x050, 4, 1, 0, 0x3FFFF, 0, 0, 0, [0]⟩,
  ⟨0x054, 4, 1, 0, 0xFF, 0, 0, 0, [0]⟩,
  ⟨0x060, 4, 8, 0, 0xFFFFFFFF, 0, 0, 0, [0x2710]⟩,
  ⟨0x080, 4, 1, 0, 0xFFFFFFFF, 0, 0, 0, [0]⟩,
  ⟨0x084, 4, 1, 0, 0xFFFFFFFF, 0, 0, 0, [0]⟩,
  ⟨0x088, 4, 1, 0, 0xFFFFFFFF, 0, 0, 0, [0]⟩,
  ⟨0x090, 4, 4, 0, 0xFFFFFFFF, 0, 0, 0, [0]⟩,
  ⟨0x0A0, 4, 1, 0, 0xFFFFFFFF, 0, 0, 0, [0]⟩,
  ⟨0x0A4, 4, 1, 0, 0xFFFFFFFF, 0, 0, 0, [0]⟩,
  ⟨0x0A8, 4, 1, 0, 0xFFFFFFFF, 0, 0, 0, [0]⟩,
  ⟨0x0B0, 4, 4, 0, 0xFFFFFFFF, 0, 0, 0, [0]⟩,
  ⟨0x200, 32, 32, 0, 0xFFFFFFFF, 0, 0, 0, [0]⟩,
  ⟨0x204, 32, 32, 0, 0xFFFFFFFF, 0, 0, 0, [0]⟩,
  ⟨0x208, 32, 32, 0, 0xFFFFFFFF, 0, 0, 0, [0]⟩,
  ⟨0x20C, 32, 32, 0, 0xFFFFFFFF, 0, 0, 0, [0]⟩,
  ⟨0x210, 32, 32, 0, 0xFFFFFFFF, 0, 0, 0, [0]⟩,
  ⟨0x214, 32, 32, 0, 0xFFFFFFFF, 0, 0, 0, [0]⟩,
  ⟨0x218, 32, 32, 0, 0xFFFFFFFF, 0, 0, 0, [0]⟩,
  ⟨0x21C, 32, 32, 0, 0xFFFFFFFF, 0, 0, 0, [0]⟩,
  ⟨0x800, 4, 1, 0, 0, 0, 0, 0xF, [0]⟩]

/-- The rows of the ETH page (continued). -/
def rowsETHb : List RegRow := [
  ⟨0xF00, 4, 1, 0, 0, 0, 0, 0xFFFFFFFF, [0]⟩,
  ⟨0xF04, 4, 1, 0, 0, 0, 0, 0xFFFFFFFF, [0]⟩,
  ⟨0xF08, 4, 1, 0, 0, 0, 0, 0xFFFFFFFF, [0]⟩,
  ⟨0xF0C, 4, 1, 0, 0, 0, 0, 0xFFFFFFFF, [0]⟩,
  ⟨0xF10, 4, 1, 0, 0, 0, 0, 0xFFFFFFFF, [0]⟩,
  ⟨0xF14, 4, 1, 0, 0, 0, 0, 0xFFFFFFFF, [0]⟩,
  ⟨0xF18, 4, 1, 0, 0, 0, 0, 0xFFFFFFFF, [0]⟩,
  ⟨0xF1C, 4, 1, 0, 0, 0, 0, 0xFFFFFFFF, [0]⟩,
  ⟨0xF20, 4, 1, 0, 0, 0, 0, 0xFFFFFFFF, [0]⟩,
  ⟨0xF24, 4, 1, 0, 0, 0, 0, 0xFFFFFFFF, [0]⟩,
  ⟨0xF28, 4, 1, 0, 0, 0, 0, 0xFFFFFFFF, [0]⟩,
  ⟨0xF2C, 4, 1, 0, 0, 0, 0, 0xFFFFFFFF, [0]⟩,
  ⟨0xF30, 4, 1, 0, 0, 0, 0, 0xFFFFFFFF, [0]⟩]

/-- Every row of the ETH page but the common header. -/
def regsETH : List RegRow := rowsETH ++ rowsETHb

/-- The type code of each page (R45). -/
def pageType : Page → Nat
  | .sys => 0x0001
  | .cfgx => 0x0002
  | .host => 0x0003
  | .rng => 0x0004
  | .irq => 0x0005
  | .time => 0x0006
  | .auth => 0x0007
  | .fwu => 0x0008
  | .thm => 0x0009
  | .pwr => 0x000A
  | .tdm => 0x000B
  | .wit => 0x000C
  | .way => 0x000D
  | .sbx => 0x000E
  | .sns _ => 0x0010
  | .mod => 0x0011
  | .chg => 0x0012
  | .est => 0x0013
  | .ost => 0x0014
  | .bal => 0x0015
  | .cth => 0x0016
  | .prot => 0x0017
  | .trip => 0x0018
  | .safe => 0x0019
  | .slay => 0x001A
  | .spt => 0x001B
  | .pwm => 0x001C
  | .loop _ => 0x0020
  | .can _ => 0x0021
  | .eth _ => 0x0022

/-- `CFG_END` of each page, the offset of its last configuration word (R33). -/
def pageCfgEnd : Page → Nat
  | .sys => 0x040
  | .cfgx => 0x03C
  | .host => 0x040
  | .rng => 0x63C
  | .irq => 0x09C
  | .time => 0x054
  | .auth => 0x044
  | .fwu => 0x040
  | .thm => 0x044
  | .pwr => 0x040
  | .tdm => 0x06C
  | .wit => 0x0F8
  | .way => 0x050
  | .sbx => 0x044
  | .sns _ => 0x040
  | .mod => 0x138
  | .chg => 0x048
  | .est => 0x1FC
  | .ost => 0x040
  | .bal => 0x064
  | .cth => 0x09C
  | .prot => 0x050
  | .trip => 0x06C
  | .safe => 0x0FC
  | .slay => 0x170
  | .spt => 0x140
  | .pwm => 0x0CC
  | .loop _ => 0x094
  | .can _ => 0x058
  | .eth _ => 0x5FC

/-- The register rows of each page beyond the common header. -/
def pageRows : Page → List RegRow
  | .sys => regsSYS
  | .cfgx => regsCFGX
  | .host => regsHOST
  | .rng => regsRNG
  | .irq => regsIRQ
  | .time => regsTIME
  | .auth => regsAUTH
  | .fwu => regsFWU
  | .thm => regsTHM
  | .pwr => regsPWR
  | .tdm => regsTDM
  | .wit => regsWIT
  | .way => regsWAY
  | .sbx => regsSBX
  | .sns _ => regsSNS
  | .mod => regsMOD
  | .chg => regsCHG
  | .est => regsEST
  | .ost => regsOST
  | .bal => regsBAL
  | .cth => regsCTH
  | .prot => regsPROT
  | .trip => regsTRIP
  | .safe => regsSAFE
  | .slay => regsSLAY
  | .spt => regsSPT
  | .pwm => regsPWM
  | .loop _ => regsLOOP
  | .can _ => regsCAN
  | .eth _ => regsETH

/-- The block-specific bits of each page's FLAGS. -/
def pageBlockFlags : Page → Nat
  | .sys => 0x700
  | .cfgx => 0x300
  | .host => 0x0
  | .rng => 0x300
  | .irq => 0x700
  | .time => 0xF00
  | .auth => 0x700
  | .fwu => 0x7F00
  | .thm => 0x1F00
  | .pwr => 0x100
  | .tdm => 0xFFF00
  | .wit => 0x700
  | .way => 0x3F00
  | .sbx => 0x3F00
  | .sns _ => 0x7F00
  | .mod => 0x1F00
  | .chg => 0x700
  | .est => 0x3F00
  | .ost => 0x1F00
  | .bal => 0xF00
  | .cth => 0x700
  | .prot => 0x3F00
  | .trip => 0x1F00
  | .safe => 0x1F00
  | .slay => 0xF00
  | .spt => 0x700
  | .pwm => 0x100
  | .loop _ => 0x7F00
  | .can _ => 0x1F00
  | .eth _ => 0xF00

/-- Each page's CAPS word, fixed for the part. -/
def pageCaps : Page → Nat
  | .sys => 0x0
  | .cfgx => 0x0
  | .host => 0x0
  | .rng => 0x0
  | .irq => 0x80100
  | .time => 0x0
  | .auth => 0x0
  | .fwu => 0x0
  | .thm => 0x0
  | .pwr => 0x0
  | .tdm => 0x402
  | .wit => 0x8
  | .way => 0xC0100
  | .sbx => 0x1000
  | .sns _ => 0x404
  | .mod => 0x0
  | .chg => 0x0
  | .est => 0x30804
  | .ost => 0x81820
  | .bal => 0x804
  | .cth => 0x0
  | .prot => 0x0
  | .trip => 0x0
  | .safe => 0x0
  | .slay => 0x0
  | .spt => 0x0
  | .pwm => 0x0
  | .loop _ => 0x0
  | .can _ => 0xFF0408
  | .eth _ => 0x0

/-- ID as R45 gives it: TYPE in [31:16], INST in [15:8] and LAYOUT 0x01. -/
def pageIdWord (p : Page) : Nat := pageType p * 0x10000 + p.inst * 0x100 + 0x01

/-- The common header of every page (R33). -/
def headerRows (p : Page) : List RegRow := [
  ⟨0x000, 4, 1, 0, 0, 0, 0, 0xFFFFFFFF, [pageIdWord p]⟩,
  ⟨0x004, 4, 1, 0, 0, 0, 0, 0xFFFFFFFF, [pageCaps p]⟩,
  ⟨0x008, 4, 1, 0x1, 0, 0, 0, 0, [0]⟩,
  ⟨0x00C, 4, 1, 0, 0, 0, 0, 0xF, [0]⟩,
  ⟨0x010, 4, 1, 0, 0, pageBlockFlags p + 0x7, 0, 0, [0]⟩,
  ⟨0x014, 4, 1, 0xFFFFFFFF, 0, 0, 0, 0, [0]⟩,
  ⟨0x018, 4, 1, 0, 0, 0, 0, 0xFFFF0FFF, [0]⟩,
  ⟨0x01C, 4, 1, 0, 0xFFFFFFFF, 0, 0, 0, [0]⟩,
  ⟨0x020, 4, 1, 0, 0, 0, 0, 0xFFFFFFFF, [0]⟩,
  ⟨0x024, 4, 1, 0, 0, 0, 0, 0xFFF, [pageCfgEnd p]⟩]

/-- Does a row hold the register at offset `o`? -/
def RegRow.has (r : RegRow) (o : Nat) : Bool :=
  r.off ≤ o && (o - r.off) % r.stride = 0 && (o - r.off) / r.stride < r.cnt

/-- The row of the register at offset `o` of page `p`, or none where the offset is unused. -/
def findRow (p : Page) (o : Nat) : Option RegRow :=
  (if o < 0x40 then headerRows p else pageRows p).find? (·.has o)

/-- The reset value of the register at offset `o` of a row (R6). -/
def RegRow.reset (r : RegRow) (o : Nat) : Nat :=
  match r.rst with
  | [v] => v
  | l => l.getD ((o - r.off) / r.stride) 0

/-- The reset value of the register at offset `o` of page `p`; an unused offset reads 0 (R4). -/
def resetAt (p : Page) (o : Nat) : Nat :=
  match findRow p o with
  | some r => r.reset o
  | none => 0

/-- The bits of the register that exist; every other bit is reserved and stored 0 (R4). -/
def RegRow.mask (r : RegRow) : Nat := r.rt ||| r.cf ||| r.w1c ||| r.wo ||| r.ro

end Sys2Proof.Machine
end

