-- ==== Sys2Proof/Machine/Sparse.lean ====
section
/-! DEFINITION. Sparse tables: lists of (key, value) pairs in one canonical form, keys strictly rising and no entry
equal to what an unlisted key reads as. Registers, parameter-set memory and the per-channel tables are kept so. -/

namespace Sys2Proof.Machine

/-- The value at key `k`; `d` where the table lists none. -/
def sget {α : Type} (d : α) : List (Nat × α) → Nat → α
  | [], _ => d
  | e :: t, k => if e.1 = k then e.2 else sget d t k

/-- The table without key `k`. -/
def serase {α : Type} (m : List (Nat × α)) (k : Nat) : List (Nat × α) :=
  m.filter (fun e => decide (e.1 ≠ k))

/-- An entry put in its place by key. -/
def sinsert {α : Type} (k : Nat) (v : α) : List (Nat × α) → List (Nat × α)
  | [] => [(k, v)]
  | e :: t => if k < e.1 then (k, v) :: e :: t else e :: sinsert k v t

/-- The table with `v` at key `k`; writing what an unlisted key reads as removes the entry. -/
def sset {α : Type} [DecidableEq α] (d : α) (m : List (Nat × α)) (k : Nat) (v : α) : List (Nat × α) :=
  if v = d then serase m k else sinsert k v (serase m k)

/-- The canonical form: keys strictly rise and no entry equals its default. -/
def swf {α : Type} [DecidableEq α] (d : Nat → α) : List (Nat × α) → Bool
  | [] => true
  | [e] => decide (e.2 ≠ d e.1)
  | e :: f :: t => decide (e.2 ≠ d e.1) && decide (e.1 < f.1) && swf d (f :: t)

/-- An update of the value at key `k`. -/
def smod {α : Type} [DecidableEq α] (d : α) (m : List (Nat × α)) (k : Nat) (f : α → α) : List (Nat × α) :=
  sset d m k (f (sget d m k))

/-! ### Two-slot MRAM words (R166, R168) -/

/-- SEQ `y` is newer than SEQ `x`: greater by signed 32-bit difference. -/
def seqNewer (x y : Nat) : Bool := let d := (y + 2 ^ 32 - x % 2 ^ 32) % 2 ^ 32; decide (0 < d) && decide (d < 2 ^ 31)

end Sys2Proof.Machine
end

