-- ==== Sys2Proof/Machine/State.lean ====
section
/-! DEFINITION. The state of the module, as plain data: everything the spec gives it, block by block, and what it is
right after reset. -/

namespace Sys2Proof.Machine

/-- Why a step stops with a fault: no command of the module does. -/
inductive Fault where
  deriving DecidableEq, Repr

/-- Why a step is refused. -/
inductive Refusal where
  /-- The command has no meaning yet; raised by `exec` alone; safe. -/
  | notModelled (mnemonic : String)
  deriving DecidableEq, Repr


/-- The module states and roles (R16). -/
inductive Mode where
  | reset | boot | unconfigured | ready | active | standby | witnessOnly | out | thermal
  deriving DecidableEq, Repr

/-- A two-slot MRAM word (R166, R168): SEQ and value of each slot; none where the slot is not valid. -/
structure MramWord where
  a : Option (Nat × Nat) := none
  b : Option (Nat × Nat) := none
  deriving DecidableEq, Repr

/-- The state code of R16. -/
def Mode.code : Mode → Nat
  | .reset => 0x0 | .boot => 0x1 | .unconfigured => 0x2 | .ready => 0x3 | .active => 0x4
  | .standby => 0x5 | .witnessOnly => 0x6 | .out => 0x8 | .thermal => 0x9

/-- The states of a page (R35). -/
inductive PageState where
  | disabled | enabling | running | fault | disabling
  deriving DecidableEq, Repr

/-- PAGE.STATE's code. -/
def PageState.code : PageState → Nat
  | .disabled => 0 | .enabling => 1 | .running => 2 | .fault => 3 | .disabling => 4

/-- Supplies, pins, reset and role state of chapters 01 and 22. -/
structure SysSt where
  mode : Mode := .reset
  /-- MT in ns (R54); it counts from 0 at the start of BOOT. -/
  mt : Nat := 0
  vaonOk : Bool := true
  vin12Ok : Bool := false
  holdOff : Bool := true
  rstNLow : Bool := true
  pfwLow : Bool := false
  /-- The position strap: false A, true B (R76). -/
  strapB : Bool := false
  /-- The BOOT phase that is running, 1 to 9; 0 outside BOOT (R437). -/
  bootPhase : Nat := 0
  pfwHold : Bool := false
  /-- State code before the reset and cause code of the reset (R434). -/
  prior : Nat := 0
  rstCause : Nat := 0x01
  /-- MT of the TB0 period boundary at which DRIVE_EN falls (R18, R233, R305). -/
  dropAt : Option Nat := none
  /-- MT at which DRIVE_EN last fell. -/
  driveFell : Option Nat := none
  /-- The test-pulse output driven low, with the MT at which its pulse ends, and the end of the latest pulse driven
  whole; every other output is high (R253). -/
  tpoLow : Option (Nat × Nat) := none
  tpoDone : Option Nat := none
  /-- OUT causes detected since OUT was entered, and whether the record has been queued (R23). -/
  outRecorded : Bool := false
  outMt : Nat := 0
  outPrior : Nat := 0
  outDurable : Bool := false
  outDurMt : Nat := 0
  driveEn : Bool := false
  aon32Lost : Bool := false
  /-- MT of the latest loopback mismatch of each output stage, by its LBK bit of HEALTH (R232, R290). -/
  lbkMis : List (Nat × Nat) := []
  /-- Phase 5 wrote default settings, so phase 9 is skipped (R437). -/
  defaultsWritten : Bool := false
  /-- MT of entry into READY, for t_form_wait (R439). -/
  readyMt : Nat := 0
  /-- MT at the start of BOOT, MT since which BOOT waits on PFW_N, and the time it has waited (R438). -/
  bootMt : Nat := 0
  holdFrom : Nat := 0
  heldNs : Nat := 0
  formWaited : Bool := false
  deriving DecidableEq, Repr

/-- One descriptor waiting on a ring. -/
structure RingSt where
  hidx : Nat := 0
  midx : Nat := 0
  /-- Descriptors between MIDX and HIDX, oldest first. -/
  descs : List Desc := []
  stopped : Bool := false
  /-- MT since which the ring has had no descriptor (R47). -/
  since : Nat := 0
  deriving DecidableEq, Repr

/-- The host port: the MSI-X table's words, by word from BAR0 0xE000 on (an unlisted one is 0, but for a vector's
mask, which is set); a PCI Express reset holds the messages until host software enables MSI-X again (R395), and the
vectors held (log entry 25). -/
structure HostSt where
  msix : List (Nat × Nat) := []
  off : Bool := false
  held : List Nat := []
  deriving DecidableEq, Repr

/-- One interrupt source (R386). -/
structure SrcSt where
  pend : Bool := false
  latch : Bool := false
  insvc : Bool := false
  line : Bool := false
  /-- tgt(s) of R390 and the target whose vectors announce it (R393). -/
  tgt : Nat := 0
  signalled : Bool := false
  deriving DecidableEq, Repr

/-- One delivery target (R389). -/
structure TgtSt where
  events : Nat := 0
  timing : Bool := false
  firstMt : Nat := 0
  held : Bool := false
  deriving DecidableEq, Repr

/-- The interrupt controller. -/
structure IrqSt where
  src : List (Nat × SrcSt) := []
  tgt : List (Nat × TgtSt) := []
  /-- The filtered levels of EXT_IRQ0 to EXT_IRQ7 (R387). -/
  ext : List (Nat × Bool) := []
  deriving DecidableEq, Repr

/-- What a channel's inputs add up to over the current stage or step (R65, R83, R203). -/
structure ChanAcc where
  vsum : Nat := 0
  vcnt : Nat := 0
  rbsum : Int := 0
  rbcnt : Nat := 0
  /-- Σ b_T of R115 so far, and the same sum over the commanded values (R313). -/
  bsum : Int := 0
  dsum : Int := 0
  t0 : Option Int := none
  t1 : Option Int := none
  /-- A coach that carried temperatures was accepted, and its readings, whatever the state of the position (R100). -/
  temps : Bool := false
  s0 : Option Int := none
  s1 : Option Int := none
  deriving DecidableEq, Repr

/-- The timetable's own state (R63 to R72). -/
structure TimebaseSt where
  /-- The input deadline of the current tick has passed. -/
  deadline : Bool := false
  /-- The tick's missing compartments have been judged (R63). -/
  judged : Bool := false
  /-- The missing bitmap of the current tick, and those of the ticks of the current step, newest first (R64). -/
  miss : Nat := 0
  misses : List Nat := []
  /-- Consecutive quiet ticks (R70), the number of the quiet run, and the tick whose samples of MOD0 and MOD1 came
  last, with what came of them: quiet or not quiet. -/
  quiet : Nat := 0
  runNo : Nat := 0
  quietTick : Nat := 0
  quietGot : List (Nat × Bool) := []
  rest : Bool := false
  spanStart : Nat := 0
  /-- A tick that is not quiet occurred in the running rest span (R72). -/
  spanBroken : Bool := false
  deriving DecidableEq, Repr

/-- A front-end's challenge (R98): an attempt is wanted, the failed attempts so far, the open attempt's tick and nonce
and whether this module's own port saw it, MT of the last failure and of the last pass. -/
structure ChalSt where
  want : Bool := false
  failed : Nat := 0
  openAt : Option (Nat × Nat) := none
  /-- Tick and nonce of the latest attempt this module's own port saw, kept after its end. -/
  seenAt : Option (Nat × Nat) := none
  failMt : Nat := 0
  lastPass : Option Nat := none
  deriving DecidableEq, Repr

/-- One position of a ring. -/
structure FeSt where
  chal : ChalSt := {}
  lost : Nat := 0
  present : Nat := 0
  alert : Nat := 0
  /-- Estimation uses its data, it is IN_SERVICE there (R99), and the ALERT word of its latest in-time compartment
  (R198). -/
  use : Bool := false
  serv : Bool := false
  lastAlert : Nat := 0
  deriving DecidableEq, Repr

/-- A compartment accepted for the current tick (R63, R88): its bytes, acceptance MT, whether it came direct, and
whether a differing copy withdrew it from estimation (R89). -/
structure CompIn where
  pos : Nat
  bytes : List Byte
  amt : Nat
  direct : Bool
  conflict : Bool
  deriving DecidableEq, Repr

/-- One sense ring. -/
structure RingSns where
  fe : List (Nat × FeSt) := []
  comps : List CompIn := []
  /-- Module B's port drives the next tick (R94). -/
  driveB : Bool := false
  /-- Tick of the latest command coach from the other end, and the run of consecutive ones. -/
  otherTick : Nat := 0
  otherRun : Nat := 0
  /-- Tick at which the page entered ENABLING; enumeration: active, hops read, ASSIGN hops still to send. -/
  enTick : Nat := 0
  active : Bool := false
  hopsRead : Bool := false
  hopsOwn : Nat := 0
  assign : List Nat := []
  /-- Hops whose position stays missing (R92), the one waiting longest first. -/
  reassign : List Nat := []
  /-- Positions and identities met since ENABLING began, by direct copies and by relay (R91). -/
  near : List (Nat × Nat) := []
  far : List (Nat × Nat) := []
  /-- Excitation codes still to write (R205): 8 × position + channel. -/
  excite : List Nat := []
  badPos : Bool := false
  /-- A complete, healthy upstream coach this tick, and the run of such ticks while SPLIT. -/
  good : Bool := false
  goodRun : Nat := 0
  splitNext : Bool := false
  repeats : Nat := 0
  lastRepeat : Nat := 0
  deriving DecidableEq, Repr

/-- One modulator input: validity (R119), its integrator (R112) and the latest filter outputs (R116). -/
structure ModIn where
  valid : Bool := false
  /-- The tick from which every bit has been valid. -/
  validFrom : Nat := 0
  /-- A clock loss or a qualifying run fell in the current tick. -/
  bad : Bool := false
  /-- Every bit of the current stage so far was valid. -/
  stageOk : Bool := false
  integ : Int := 0
  stageLatch : Int := 0
  /-- Sampled bits of the current stage. -/
  n : Nat := 0
  gap : Bool := false
  /-- The stage that ended last, until its charge is taken (R113): counts D and N, whether every bit was valid, and
  whether some bit was not sampled. -/
  endD : Int := 0
  endN : Nat := 0
  endOk : Bool := false
  endGap : Bool := false
  /-- Index of the last bit of the latest control and fast output (R116). -/
  ctlBit : Nat := 0
  fastBit : Nat := 0
  tsmp : Option (Nat × Int) := none
  csmp : Option Int := none
  fsmp : Option Int := none
  deriving DecidableEq, Repr

/-- The bitstream front end: MCKSEL (false A, true B), the groups whose integrators start at 0 at the next boundary, and
the failed attempts of each group's lock series (R109). -/
structure ModSt where
  mcksel : Bool := false
  fresh : List (Nat × Bool) := []
  /-- Groups that index lock has matched in the running tick, reported locked from the next one (R109). -/
  locking : List (Nat × Bool) := []
  tries : List (Nat × Nat) := []
  ins : List (Nat × ModIn) := []
  /-- Unsampled bits of group 0 in the current stage, and in the stage that ended last (R313). -/
  unsamp : Nat := 0
  endUnsamp : Nat := 0
  deriving DecidableEq, Repr

/-- One stage's charges (R113, R114): the valid charges of MOD0 and MOD1, the string charge and its source code. -/
structure StageChg where
  stage : Nat
  q0 : Option Int
  q1 : Option Int
  src : Nat
  gapped : Nat
  unsamp : Nat
  deriving DecidableEq, Repr

/-- The string charge; none on a charge-lost stage. -/
def StageChg.q (c : StageChg) : Option Int := if c.src = 0 then c.q0 else if c.src = 1 then c.q1 else none

/-- Charges of the stages of the step in the making, newest first, and the comparison's count (R118). -/
structure ChgSt where
  fails : Nat := 0
  stages : List StageChg := []
  deriving DecidableEq, Repr

/-- The learned-data journal: the latest image of each record (empty where the record is empty), the records that wait
to be written, and the slot write in progress: record, slot and its 64 bytes (R164 to R166). -/
structure JrnSt where
  img : List (Nat × List Byte) := []
  queue : List Nat := []
  writing : Option (Nat × Nat × List Byte) := none
  deriving DecidableEq, Repr

/-- A hypothesis of a channel (R129): state means as Q2.62 contents, the lower triangle of the root by rows as Q2.30
contents, and the probability as a UQ1.31 content. -/
structure HypSt where
  x : List Int := []
  s : List (List Int) := []
  mu : Nat := 0
  deriving DecidableEq, Repr

/-- An anchor of a calibration leg (R163): SOC code, charge account and epoch. -/
structure AnchorPt where
  soc : Nat := 0
  acc : Int := 0
  epoch : Nat := 0
  deriving DecidableEq, Repr

/-- A channel of the estimator: its harness state (R177) and what stands beside it. -/
structure ChanEst where
  /-- Its filters hold a state; the FEMAP entry and PSn_REF they were made under (R137). -/
  live : Bool := false
  femap : Nat := 0
  ref : Nat := 0
  hyps : List HypSt := []
  /-- Marked stage of the latest step it took; charges of the stages since, and those the count path has not taken. -/
  last : Nat := 0
  qWait : Int := 0
  qCount : Int := 0
  /-- Substituted stages among those since (R134). -/
  lostWait : Nat := 0
  /-- R135 is due at the next step; identity unknown; front-end in AUTH_FAULT (R136). -/
  want : Bool := false
  unknown : Bool := false
  held : Bool := false
  /-- Count-path SOC, Q2.62 unsaturated (R155). -/
  cnt : Int := 0
  /-- Disagreement (R156, R157): STATE, CNT, DIFF, SEED, CNTLOST, and the stage of the anchor the count started from. -/
  disSt : Nat := 0
  disCnt : Nat := 0
  diff : Int := 0
  seed : Bool := false
  cntLost : Bool := false
  seedStage : Nat := 0
  /-- The quiet run in which it last anchored, and whether the latest step was an anchor step (R152). -/
  anchRun : Option Nat := none
  anchored : Bool := false
  /-- Internal-short indicator (R149). -/
  iscCnt : Nat := 0
  iscWarn : Bool := false
  /-- Calibration phase and its anchors (R163). -/
  calph : Nat := 0
  calFull : AnchorPt := {}
  calEmpty : AnchorPt := {}
  /-- Charge account (R154) and rejected run (R162). -/
  acc : Int := 0
  run : List Nat := []
  /-- Combined SOC at full precision, and the probabilities' UQ0.16 values after the latest step. -/
  soc : Rat := 0
  ph : List Nat := []
  /-- STATUS of the latest step, EST_STAGE, and the record's bytes 0x00 to 0x47 as the step left them. -/
  status : Nat := 0
  estStage : Nat := 0
  body : List Byte := []
  vmean : Nat := 0
  resid : Int := 0
  reinits : Nat := 0
  sats : Nat := 0
  /-- E_USE in mWh, R_TOT in µΩ and LEAK in µA of the latest step. -/
  eUse : Nat := 0
  rTot : Nat := 0
  leak : Int := 0
  /-- Forecast (R171): period and the six capabilities in mW. -/
  fcPeriod : Nat := 0
  pcap : List Nat := [0, 0, 0, 0, 0, 0]
  /-- It took the latest step. -/
  stepped : Bool := false
  deriving DecidableEq, Repr

/-- A step that has been scheduled (R68, R71): its stages, charges oldest first, channel inputs, missing bitmaps oldest
first, quiet count and run at its last tick. -/
structure StepDue where
  sa : Nat
  sb : Nat
  rest : Bool
  chgs : List StageChg
  acc : List (Nat × ChanAcc)
  misses : List Nat
  quiet : Nat
  runNo : Nat
  /-- Non-zero commands that held over all of its ticks (R203). -/
  steady : List (Nat × Int)
  /-- Entries of R313 that fell in it: TYPE and payload. -/
  entries : List (Nat × List Byte)
  /-- As they stood at its end (R66): the ticks since which b_T has stayed calm, the front-ends IN_SERVICE, the ALERT
  word of each front-end's latest in-time compartment, and each zone's coolant temperature with the zones that are
  stale. -/
  calm : List (Nat × Nat)
  serv : List Nat
  alerts : List (Nat × Nat)
  cool : List (Nat × Int)
  stale : List Nat
  deriving DecidableEq, Repr

/-- The estimator. -/
structure EstSt where
  /-- Parameter-set memory: BAR2 0x010_0000 on, by offset from there; an unlisted byte reads 0 (log entry 9). -/
  ps : List (Nat × Byte) := []
  chan : List (Nat × ChanEst) := []
  /-- The channels before the step that ran, and the shadow copies of the harness states after a step of stage S in
  buffer S mod 2 (R181) with the latest such S. -/
  shadow : List (Nat × ChanEst) := []
  bufs : List (Nat × List (Nat × ChanEst)) := []
  bufOf : Nat := 0
  /-- The string charge of the step that ran, with its substituted stages, and the journal before it (R189). -/
  ranStr : Int := 0
  ranLost : Nat := 0
  jrnWas : JrnSt := {}
  /-- The published records (R146), 128 bytes each. -/
  recs : List (Nat × List Byte) := []
  /-- The step that ended with the latest tick and waits for the boundary's charges, the step scheduled at the latest
  boundary, and the step that ran and waits to be published. -/
  closing : Option StepDue := none
  due : Option StepDue := none
  ran : Option StepDue := none
  /-- The last string charge that was not lost (R134), in pC. -/
  lastQ : Int := 0
  /-- What took effect in the running stage and waits for its end (R66), oldest first: a front-end and its verdict
  (R99), or 64 and a calibration's start (R163). -/
  verdicts : List (Nat × Nat) := []
  /-- The first tick since which each channel's b_T has stayed within ±I_rest (R152). -/
  calm : List (Nat × Nat) := []
  /-- Latest g_env and t_env delivered (R209). -/
  env : List (Nat × (Rat × Rat)) := []
  /-- The forecast in the making (R171): the channel states after the step of stage 100 F + 99, and the period whose
  forecast runs. -/
  fcStage : Option Nat := none
  fcChan : List (Nat × ChanEst) := []
  fcEnv : List (Nat × (Rat × Rat)) := []
  /-- SOC_dis, SOC_chg and the capacity in use at the same moment. -/
  fcPair : List (Nat × ((Rat × Rat) × Nat)) := []
  fcRun : Option Nat := none
  /-- A forecast has been published since EST entered RUNNING. -/
  fcDone : Bool := false
  /-- Capabilities of the string before the override of R160. -/
  pcap : List Nat := [0, 0, 0, 0, 0, 0]
  /-- A dispatch clamp episode is on (R175); the DCLAMP bits of the terms that set I_chg_lim and I_dis_lim in force. -/
  clampOn : Bool := false
  limUp : Nat := 0
  limDn : Nat := 0
  deriving DecidableEq, Repr

/-- A comparison of the rotation (R184): owner and checker lanes, the channel and hypothesis compared. -/
structure LaneCheck where
  owner : Nat
  checker : Nat
  ch : Nat
  hyp : Nat
  deriving DecidableEq, Repr

/-- A channel's harness: its lane, whether it migrates this stage, and whether it is stabled (R178, R191). -/
structure Harness where
  lane : Nat
  migrating : Bool := false
  stabled : Bool := false
  deriving DecidableEq, Repr

/-- The Ostler: the map, retired and gated lanes, lanes under a wake test, and comparisons that failed. -/
structure OstSt where
  map : List (Nat × Harness) := []
  retired : List Nat := []
  gated : List Nat := []
  testing : List Nat := []
  checks : List LaneCheck := []
  /-- Comparisons of the running step and its marked stage (R184); those repeated because the checker retired (R186). -/
  pairs : List LaneCheck := []
  stage : Nat := 0
  again : List LaneCheck := []
  /-- Channels whose step a retirement displaced in the current stage, the lane time in ns they take from the reserve,
  and those it could not carry (R189). -/
  displaced : List Nat := []
  used : Nat := 0
  skipped : List Nat := []
  /-- Channels no lane would take, which the next stage boundary re-places (R180). -/
  missed : List Nat := []
  rest : Bool := false
  /-- Lanes wake in this stage: harnesses stay stabled until the next boundary (R192). -/
  waking : Bool := false
  /-- OST.CFG in force (R196). -/
  cfg : Nat := 0x8010
  deriving DecidableEq, Repr

/-- The latest impedance results of a channel (R206, R207): per tone the real and imaginary parts in µΩ and the age. -/
structure ZRes where
  re : Int := 0
  im : Int := 0
  age : Nat := 255
  deriving DecidableEq, Repr

/-- A channel's tick of the impedance window (R206): voltage code where present, readback where available, the command in
force. -/
structure ZTick where
  tick : Nat
  v : Option Nat
  rb : Option Int
  cmd : Int
  deriving DecidableEq, Repr

/-- The balancing planner and the correlators. -/
structure BalSt where
  /-- The command in force of each channel, and the tick since which it has been in force. -/
  cmd : List (Nat × Int) := []
  since : List (Nat × Nat) := []
  /-- Plans that wait for their first tick (R201): tick, marked stage, commands. -/
  plans : List (Nat × Nat × List (Nat × Int)) := []
  /-- The plans that came due at the latest tick that had any, by marked stage (R213). -/
  met : List (Nat × List (Nat × Int)) := []
  /-- The plan of the latest step, for the digest of R285. -/
  plan : List (Nat × Int) := []
  /-- EXC[12] of the latest coach. -/
  exc : Bool := false
  /-- Consecutive steps over tolerance (R203), and the blocked channels. -/
  ovr : List (Nat × Nat) := []
  blocked : List Nat := []
  /-- Front-ends whose ALERT[10] stops balancing. -/
  feStop : List Nat := []
  /-- Ticks of the impedance windows by channel, newest first; string-current samples of the same ticks in mA. -/
  win : List (Nat × List ZTick) := []
  istr : List (Nat × Option Rat) := []
  /-- T_e of the window that awaits its results. -/
  zdue : Option Nat := none
  z : List (Nat × List ZRes) := []
  /-- T_e / 4,000 of the latest published results. -/
  zframe : Nat := 0
  deriving DecidableEq, Repr

/-- A temperature sensor under judgement (R210): OK, SUSPECT or BROKEN, and its counts. -/
structure SensorSt where
  st : Nat := 0
  cnt : Nat := 0
  agree : Nat := 0
  /-- Latest reading and neighbours' median, 1/64 °C. -/
  last : Int := -32768
  med : Int := 0
  deriving DecidableEq, Repr

/-- A channel of the cell thermal network (R208): core and surface in Q10.22 K contents, its sensors, and T_prot. -/
structure ThermSt where
  tc : Int := 0
  ts : Int := 0
  s0 : SensorSt := {}
  s1 : SensorSt := {}
  tprot : Int := 0
  deriving DecidableEq, Repr

/-- The cell thermal model. -/
structure CthSt where
  /-- The nodes have been set since CTH entered RUNNING. -/
  live : Bool := false
  chan : List (Nat × ThermSt) := []
  /-- MT of the latest write of each zone's coolant temperature that took effect. -/
  coolMt : List (Nat × Nat) := []
  stale : List Nat := []
  deriving DecidableEq, Repr

/-- A sample a slot has taken, held for 2 ms (R287): its number and MT, the source sample and target as Q8.40 contents, and
the outcome of the plausibility check where it ran. -/
structure HeldSample where
  smp : Nat
  mt : Nat
  raw : Int
  tgt : Int
  ovr : Option Bool
  deriving DecidableEq, Repr

/-- A loop slot (R215 to R228). Signals, laws and ramp as Q8.40 contents. -/
structure SlotSt where
  /-- 0 STOPPED, 1 HOLD, 2 RUN; its next sample starts afresh (R227). -/
  mode : Nat := 0
  fresh : Bool := true
  i : Int := 0
  d : Int := 0
  e1 : Int := 0
  /-- Histories e[n − 1], e[n − 2], e[n − 3] and the same of u. -/
  eh : List Int := [0, 0, 0]
  uh : List Int := [0, 0, 0]
  /-- Notch states y1, y2, y1', y2'. -/
  nz : List Int := [0, 0, 0, 0]
  p : Int := 0
  v : Int := 0
  pcount : Nat := 0
  impl : Bool := false
  /-- LOOPn.MEAS has been written. -/
  meas : Bool := false
  /-- The latest output. -/
  u : Int := 0
  /-- The dispatch target of the latest tick. -/
  disp : Int := 0
  /-- i, V_b and V_s of the previous sample as Q1.23 contents, and the on-time of the pair during it (R228). -/
  prev : Option (Int × Int × Int × Nat) := none
  /-- Number of the latest sample; RAMP_RATE × Ts and RAMP_ACC × Ts² as Q8.40 contents, set at page enable (R226). -/
  smp : Nat := 0
  rs : Nat := 0
  ra : Nat := 0
  /-- LOOP_DIGEST's bits over the running millisecond: HOLD, a source input invalid, unsampled bits on one (R280). -/
  msHold : Bool := false
  msInv : Bool := false
  msUns : Bool := false
  held : List HeldSample := []
  /-- MT at which the window of the latest sample ended; MT at which its job completes, and the output U that stands
  until then (R217). -/
  ended : Nat := 0
  done : Nat := 0
  uWas : Int := 0
  /-- The multiple of 1 ms that the latest sample's window first reached or passed, with the number of the sample
  before it and the state image then (R233). -/
  img : Option (Nat × Nat × List Byte) := none
  deriving DecidableEq, Repr

/-- A PWM pair: the on-time in its shadow register with the MT since which it stands there, the on-time in force, and
whether an on-time has loaded since its release (R231, R232). -/
structure PairSt where
  shadow : Option (Nat × Nat) := none
  ton : Nat := 0
  live : Bool := false
  forced : Bool := true
  /-- The ideal high interval of its running period (R230). -/
  begins : Nat := 0
  ends : Nat := 0
  /-- MT of the latest update point (R231). -/
  last : Nat := 0
  deriving DecidableEq, Repr

/-- A pulse input (R223): its measured value and loss of signal, the runs of periods in and out of range, the stamp of its
last edge in units of 1.25 ns, and what is in force as an event input. -/
structure SpinSt where
  val : Int := 0
  los : Bool := false
  inRange : Nat := 0
  outRange : Nat := 0
  edge : Nat := 0
  accepted : Option (Int × Bool) := none
  eff : Int := 0
  effLos : Bool := false
  deriving DecidableEq, Repr

/-- A set-point stream (R224): the last accepted COUNT, ahead of the one kept in the MRAM while PFW_N is low, and a
frame that waits for PFW_N to rise (R400, R438); MT of the last accepted frame, loss of signal as this module sees it,
and what is in force. -/
structure StreamSt where
  count : Nat := 0
  wait : Option (List Byte) := none
  lastMt : Nat := 0
  los : Bool := false
  val : Int := 0
  eff : Int := 0
  effLos : Bool := false
  deriving DecidableEq, Repr

/-- The control engine, the PWM pairs and the set-point inputs. -/
structure LoopSt where
  /-- MT of the latest job's issue, the slot it served, and whether that sample came from the stage path (R217). -/
  issued : Nat := 0
  issuedSlot : Nat := 0
  issuedTick : Bool := false
  /-- The multiple of 1 ms whose state digests were formed last (R233). -/
  digestMs : Nat := 0
  slots : List (Nat × SlotSt) := []
  pairs : List (Nat × PairSt) := []
  /-- DISPATCH_ENABLE is in force (R225), and the dispatch target of the latest tick in mA. -/
  dispOn : Bool := false
  disp : Int := 0
  /-- Whether the clamp acts on the target and on the ramp's output, with the DCLAMP bits of the limits that bind (R175). -/
  clampT : Bool := false
  bindT : Nat := 0
  clampR : Bool := false
  bindR : Nat := 0
  /-- Demands of zones in force, and those that wait for their tick (R221). -/
  dem : List (Nat × Nat) := []
  demDue : List (Nat × List Nat) := []
  spin : List (Nat × SpinSt) := []
  stream : List (Nat × StreamSt) := []
  deriving DecidableEq, Repr

/-- The limit part of a channel's entry, and LSEQ (R237). -/
structure LimPart where
  vhTrip : Nat := 0
  vhAlm : Nat := 0
  vlAlm : Nat := 0
  vlTrip : Nat := 0
  thTrip : Int := 0
  thAlm : Int := 0
  tlAlm : Int := 0
  tlTrip : Int := 0
  lseq : Nat := 0
  deriving DecidableEq, Repr

/-- The string block of the limit set: PROT.OCF, ISTR_CHG, ISTR_DIS, VHI, DERATE (R241). -/
structure LimString where
  ocf : Nat := 0
  chg : Nat := 0
  dis : Nat := 0
  vhi : Nat := 0
  derate : Nat := 0
  deriving DecidableEq, Repr

/-- A channel's flags of R237 (bit n of LFLAGS), the persistence count of each of the eight levels, and its status. -/
structure ChanLim where
  flags : Nat := 0
  cnt : List Nat := [0, 0, 0, 0, 0, 0, 0, 0]
  invalid : Bool := false
  vcode : Nat := 0
  vtick : Nat := 0
  tprot : Int := 0
  deriving DecidableEq, Repr

/-- A comparator with its persistence count (R238, R239). -/
structure Comparator where
  level : Bool := true
  cnt : Nat := 0
  deriving DecidableEq, Repr

/-- The states of a trip group (R244). -/
inductive GroupState where
  | withheld | keeping | tripped
  deriving DecidableEq, Repr

/-- Protection and the trip matrix. -/
structure ProtSt where
  /-- The levels of the sources whose own blocks set them: bit s. -/
  raw : Nat := 0
  /-- The levels last seen by the matrix. -/
  eff : Nat := 0
  lim : List (Nat × LimPart) := []
  str : LimString := {}
  chan : List (Nat × ChanLim) := []
  /-- Comparators: 0 OC_FAST0, 1 OC_FAST1, 2 VHI string, 3 VHI bus, 4 OC_SLOW0, 5 OC_SLOW1. -/
  comp : List (Nat × Comparator) := []
  groups : List (Nat × GroupState) := []
  /-- R18 holds the groups WITHHELD: the module was assigned out of ACTIVE. -/
  r18 : Bool := false
  /-- The level of MANUAL that waits for PFW_N to rise before the MRAM takes it (R166, R464). -/
  manWait : Option Bool := none
  /-- Bytes 0x20 to 0x3F of the limits table's entries as rewritten last (R237). -/
  shown : List (Nat × List Byte) := []
  deriving DecidableEq, Repr

/-- One safety input (R250 to R260): the latest tick samples, which channels demanded in the samples before, whether the
input demands, its latched fault with the first code since the last clear, the discrepancy counter, whether a demand has
been recognised since its start-up clear bit was cleared, and whether this tick's sample waits for a window's close. -/
structure SafeIn where
  a : Bool := false
  b : Bool := false
  pa : Bool := false
  pb : Bool := false
  dem : Bool := false
  fault : Bool := false
  fcode : Nat := 0
  dcnt : Nat := 0
  seen : Bool := false
  defer : Bool := false
  deriving DecidableEq, Repr

/-- The window of a test-pulse output (R253, R255): its output and tick, whether this module drives the pulse, whether
it held STANDBY at its start, the filtered levels of the pins at its start, and whether a peer heartbeat in it did not
report the output driven to schedule. -/
structure TpWin where
  k : Nat
  tick : Nat
  l0 : Nat
  drove : Bool
  standby : Bool
  bad : Bool := false
  deriving DecidableEq, Repr

/-- The glitch filter of a pin (R250): its filtered level, the latest read, and how many reads in a row have returned it. -/
structure Filt where
  level : Bool := false
  last : Bool := false
  run : Nat := 0
  deriving DecidableEq, Repr

/-- The safety inputs, the test pulses and the reset input. -/
structure SafeSt where
  filt : List (Nat × Filt) := []
  ins : List (Nat × SafeIn) := []
  /-- Bit n: the start-up clear bit of input n has set since SAFE last entered ENABLING (R260). -/
  sut : Nat := 0
  win : Option TpWin := none
  /-- The outputs driven to schedule since the latest heartbeat (R279). -/
  tpoSince : Nat := 0
  /-- SRST_IN (R262): consecutive active samples, sampled inactive since the page entered RUNNING, STUCK_RESET, and
  consecutive inactive samples while it holds. -/
  rstN : Nat := 0
  rstArmed : Bool := false
  stuck : Bool := false
  inact : Nat := 0
  /-- The tick of a fault reset whose inputs are still being judged, and the inputs it has cleared (R263). -/
  resetTick : Option Nat := none
  cleared : Nat := 0
  deriving DecidableEq, Repr

/-- A connection of the safety layer (R268 to R272). Codes of STATE: 0 IDLE, 1 STARTING, 2 RUNNING, 3 FAILED. -/
structure ConnSt where
  /-- The state in force, and the state as the judging module sees it. -/
  st : Nat := 0
  jst : Nat := 0
  /-- The last accepted SEQ at judgement; SEQ, deadline, data and TECHO in force. -/
  jseq : Nat := 0
  seq : Nat := 0
  deadline : Int := 0
  data : List Byte := []
  echo : Nat := 0
  errrun : Nat := 0
  lastRej : Nat := 0
  failing : Bool := false
  /-- Producer: SEQ and TECHO of the last accepted ECHO frame. -/
  jecho : Option Nat := none
  jtecho : Nat := 0
  /-- SEQ of the last DATA and ECHO frame sent, and the same as mirrored. -/
  txData : Nat := 0
  txEcho : Nat := 0
  mirData : Option Nat := none
  mirEcho : Option Nat := none
  deriving DecidableEq, Repr

/-- The safety layer: its connections, and the latest buffers of rings 124 and 125. -/
structure SlaySt where
  conn : List (Nat × ConnSt) := []
  bufs : List (Nat × List Byte) := []
  deriving DecidableEq, Repr

/-- An item of the mirror (R280, R282), which is also how an event input waits for its effect tick (R67): sequence,
KIND, effect tick and CONTENT bytes. -/
structure EvItem where
  mseq : Nat
  kind : Nat
  effect : Nat
  content : List Byte
  deriving DecidableEq, Repr

/-- A command that awaits its completion record (R403): the item's sequence, the path it came by, its message head and
the status it has reached. -/
structure Completion where
  mseq : Nat
  path : CmdPath
  code : Nat
  slot : Nat
  counter : Nat
  status : Nat
  effect : Nat
  judged : Nat
  decided : Bool
  /-- Its submit descriptor is gone: the ring was restarted or reset (R31, R51). -/
  gone : Bool := false
  deriving DecidableEq, Repr

/-- What the latest heartbeat of the peer said (R279). -/
structure PeerSt where
  state : Nat := 0
  flags : Nat := 0
  tripst : Nat := 0
  tpo : Nat := 0
  sutclr : Nat := 0
  lock : Nat := 0
  widx : Nat := 0
  mt : Nat := 0
  term : Nat := 0
  estRef : Nat := 0
  limCrc : Nat := 0
  sig : Nat := 0
  ackseq : Nat := 0
  arith : Nat := 0
  /-- A heartbeat has been heard since the TDM page last entered RUNNING; the own MT at the latest one. -/
  heard : Bool := false
  heardMt : Nat := 0
  deriving DecidableEq, Repr

/-- One tandem link as the receiver sees it (R278). -/
structure LinkSt where
  up : Bool := false
  down : Bool := false
  lastMt : Nat := 0
  /-- MT of the first valid frame since the latest gap of t_silent. -/
  runMt : Nat := 0
  deriving DecidableEq, Repr

/-- The tandem engine and the pair's side of the witness protocol. -/
structure TdmSt where
  peer : PeerSt := {}
  silent : Bool := false
  lseqSent : Nat := 0
  /-- LSEQ values accepted within the window of R278, and the highest. -/
  lseqSeen : List Nat := []
  lseqHigh : Nat := 0
  links : List (Nat × LinkSt) := []
  /-- MSEQ of the latest item sent; the highest received with no gap before it; those received beyond a gap. -/
  mseqOut : Nat := 0
  mseqIn : Nat := 0
  mseqAhead : List Nat := []
  /-- MT at which the gap before them was found, until it is counted (R284). -/
  gapMt : Option Nat := none
  joined : Bool := false
  /-- A ROLE_ASSIGN or formation to STANDBY is joining (R289). -/
  joining : Bool := false
  joinMt : Nat := 0
  /-- The ROLE_ASSIGN that awaits the join, as the item that carried it. -/
  joinFor : Option (List Byte) := none
  /-- The mirrored items of a full repair have been installed, for R289. -/
  fullRepaired : Bool := false
  limAdopted : Bool := false
  journalTaken : Bool := false
  peerDriveEn : Bool := false
  peerAlive : Bool := false
  /-- Heartbeats in a row that disagree with the interlock levels, and MT since which they agree (R294). -/
  ilkRun : Nat := 0
  ilkAgreeMt : Nat := 0
  /-- MT of the latest heartbeat, HEALTH record and servo mirror sent (R279, R282, R290), and since when the peer has
  been heard in a role. -/
  beatMt : Nat := 0
  healthMt : Nat := 0
  sessionMt : Nat := 0
  peerRoleMt : Nat := 0
  /-- MT at which DRIVE_EN was last driven high (HEALTH's DRIVE_AGE). -/
  lastDrive : Option Nat := none
  /-- Requests: REQ of the latest, whether one is outstanding, its scope, and the parts received. -/
  repairReq : Nat := 0
  repairOut : Bool := false
  repairFull : Bool := false
  repairPart : Nat := 0
  repairBytes : List Byte := []
  /-- The slots, one bit each, and the channels that the outstanding request names. -/
  repairSlots : Nat := 0
  repairChans : List Nat := []
  /-- Channel images received ahead of the own step: marked stage, channel, image. -/
  repairWait : List (Nat × Nat × List Byte) := []
  /-- As active: the channels and slots whose state is to be sent after the next step or millisecond. -/
  askReq : Nat := 0
  askChannels : List Nat := []
  askSlots : List Nat := []
  askFull : Bool := false
  askPart : Nat := 0
  /-- Stages of the unexplained mismatches within FAULT_WIN (R288), and stages in which a gap or a repair fell. -/
  unexpl : List Nat := []
  gapStage : List Nat := []
  repairStage : List Nat := []
  /-- MT of the repairs of the last second (HEALTH's REPAIRS). -/
  repairMts : List Nat := []
  peerHealthMt : Option Nat := none
  /-- Own digests of the latest step and millisecond (R285). -/
  ownDigest : List Byte := []
  ownLoop : List Byte := []
  /-- The peer's, where they came before the own. -/
  peerDigest : List Byte := []
  peerLoop : List Byte := []
  /-- The highest lease term known, the term held, and the end of the own view of the lease (R298). -/
  term : Nat := 0
  held : Bool := false
  viewEnd : Nat := 0
  witSeq : Nat := 0
  /-- KIND and SEQ of the outstanding request to the witness in force, and the outstanding probes by entry and SEQ. -/
  asked : Option (Nat × Nat) := none
  probes : List (Nat × Nat) := []
  probeAllMt : Nat := 0
  /-- MT of the latest RENEW and of the latest probe of the witness in force (R298). -/
  renewMt : Nat := 0
  probeMt : Nat := 0
  backoffUntil : Nat := 0
  widx : Nat := 0
  widxProposed : Nat := 0
  lastGrant : Nat := 0
  unanswered : Nat := 0
  witLost : Bool := false
  /-- MT since which an entry of the list has answered every probe, own and as the peer's index shows. -/
  answering : List (Nat × Nat) := []
  fenced : Bool := false
  double : Bool := false
  /-- Relay (R302): the TB0 period of the planned switch and its cause, 0 none, 1 planned, 2 abdication, 3 silent. -/
  relayAt : Nat := 0
  relayKind : Nat := 0
  relayCause : Nat := 0
  acceptUntil : Nat := 0
  /-- ABDICATE accepted, waiting for PEER_ALIVE low: MT of the frame and its cause (R303). -/
  abdMt : Option Nat := none
  abdCause : Nat := 0
  /-- PEER_ALIVE has read low within 10 µs of that frame. -/
  abdAlive : Bool := false
  /-- May DRIVE_EN rise at the next TB0 boundary that R292 allows. -/
  driveWanted : Bool := false
  /-- MT from which it may (R302, R303). -/
  driveFrom : Nat := 0
  peerLowSince : Nat := 0
  deriving DecidableEq, Repr

/-- One pair a witness serves (R297), with the last accepted SEQ of its positions A and B. -/
structure WitPair where
  term : Nat := 0
  holder : Nat := 0
  expiry : Nat := 0
  seqA : Nat := 0
  seqB : Nat := 0
  deriving DecidableEq, Repr

/-- The witness engine. -/
structure WitSt where
  pairs : List (Nat × WitPair) := []
  quiet : Bool := false
  quietEnd : Nat := 0
  deriving DecidableEq, Repr

/-- The coder's history of one field of one channel within a segment (R315): values coded, the latest and the one
before. -/
structure Hist where
  c : Nat := 0
  h1 : Int := 0
  h2 : Int := 0
  deriving DecidableEq, Repr

/-- The raw inputs of a step that wait to be coded and written (R312, R313, R318): N, V, T0 and T1 by channel, TMISS,
CHARGE, B − D by stepping channel, MISS by tick, the other entries, and the digest. -/
structure StepRec where
  nstg : Nat
  flags : Nat
  stage : Nat
  n : List (Nat × Nat)
  v : List (Nat × Nat)
  t0 : List (Nat × Int)
  t1 : List (Nat × Int)
  tmiss : List Nat
  charge : List Byte
  bal : List Int
  misses : List Nat
  entries : List (Nat × List Byte)
  digest : Nat
  deriving DecidableEq, Repr

/-- A segment in its slot (R310, R193): its number, KIND, MODE; header bytes 0x08 to 0x27, FIRST_STAGE, FIRST_MT, CFG_REFs;
checkpoint; frames newest first, or the blocks of a burst; last stage; whether it is open, frozen, exported, salvaged. -/
structure Seg where
  num : Nat
  slot : Nat
  kind : Nat
  mode : Nat
  info : List Byte
  first : Nat
  firstMt : Nat
  ck : List Byte
  cfg : List Byte
  frames : List (List Byte) := []
  bytes : Nat := 512
  last : Nat
  isOpen : Bool := true
  frozen : Bool := false
  exported : Bool := false
  salvaged : Bool := false
  deriving DecidableEq, Repr

/-- What waits for the coder: a step, or the segment that a stage boundary opened. -/
inductive WayItem where
  | step (r : StepRec)
  | opens (g : Seg)
  deriving DecidableEq, Repr

/-- An export (R323): segment, ring offset, bytes sent, and its total as last seen. -/
structure WayExport where
  num : Nat
  ring : Nat
  off : Nat := 0
  deriving DecidableEq, Repr

/-- The burst buffer of an input (R319): the bit index of the newest sample's last bit, and Q1.15 samples newest first. -/
structure BurstIn where
  bit : Nat := 0
  count : Nat := 0
  samples : List Int := []
  deriving DecidableEq, Repr

/-- Waybill capture. -/
structure WaySt where
  /-- Steps that wait to be coded, oldest first, and the segments to open among them (R318). -/
  queue : List WayItem := []
  /-- Entries of R313 gathered for the step in the making: TYPE and payload. -/
  entries : List (Nat × List Byte) := []
  segs : List Seg := []
  nextNum : Nat := 0
  nextSlot : Nat := 0
  /-- A segment opens at the next stage boundary (R311); the state code and signature of the latest one. -/
  reopen : Bool := false
  openState : Nat := 0
  openSig : Nat := 0
  /-- The coder's histories: 512 × field + channel, fields V, T0, T1, N. -/
  hist : List (Nat × Hist) := []
  /-- Post-trigger windows (R321): their last stage and whether a freeze of theirs was refused. -/
  windows : List (Nat × Bool) := []
  /-- Burst: outputs still to capture before it stops, and whether it is stopped or being copied. -/
  burst : List (Nat × BurstIn) := []
  post : Option Nat := none
  held : Bool := false
  host : Option WayExport := none
  auto : Option WayExport := none
  /-- The highest segment number the automatic export has passed, plus 1. -/
  autoNext : Nat := 0
  /-- Coded bytes of the last 60 s by MT, newest first. -/
  rate : List (Nat × Nat) := []
  /-- Records of the Waybill that read as invalid and have been skipped (R21). -/
  skipped : Nat := 0
  deriving DecidableEq, Repr

/-- The areas of the Strongbox (R330). -/
inductive SbxArea where
  | clearLog | lockedMain | reserve | rolling
  deriving DecidableEq, Repr

/-- A record that waits to be written (R336). -/
structure RecReq where
  cls : Nat
  source : Nat
  mt : Nat
  payload : List Byte
  displaced : Bool := false
  deriving DecidableEq, Repr

/-- A record in the MRAM: its area, first line, and its fields (R332); `valid` is false of a torn or damaged one. -/
structure SbxRec where
  area : SbxArea
  line : Nat
  seq : Nat
  cls : Nat
  source : Nat
  mt : Nat
  payload : List Byte
  valid : Bool := true
  deriving DecidableEq, Repr

/-- The volatile state of the Strongbox. -/
structure SbxSt where
  nextSeq : Nat := 0
  lockedQ : List RecReq := []
  rollQ : List RecReq := []
  thermal : Option RecReq := none
  /-- Accepted clears whose record is still to be written: X, key slot and counter (R340). -/
  clears : List (Nat × Nat × Nat) := []
  /-- The X of a clear whose record stands while SBX.CLEARED waits for PFW_N to rise (R340, R438). -/
  clearDue : Option Nat := none
  tokens : Nat := 1024
  writing : Option SbxRec := none
  /-- The latched record of the cursor (R341) and the command in progress: 0 none, 1 SEEK, 2 NEXT. -/
  latched : Option SbxRec := none
  cursorCmd : Nat := 0
  /-- An invalid record was met before the latch; the latest command found none. -/
  curSkip : Bool := false
  curEnd : Bool := false
  /-- Export (R343): the next sequence to export, and the bytes gathered in the descriptor being filled. -/
  expNext : Nat := 0
  expBytes : List Byte := []
  deriving DecidableEq, Repr

/-- A frame of the module's own in a CAN controller's internal queue (R350): whether it is a witness request that may be
re-sent after a bit error (R360). -/
structure CanOwn where
  frame : CanFrame
  again : Bool := false
  deriving DecidableEq, Repr

/-- The attempt on the bus (R350): the FIFO it came from, or none for the internal queue; the frame; MT at its SOF. -/
structure CanAttempt where
  fifo : Option Nat
  own : CanOwn
  sof : Nat
  deriving DecidableEq, Repr

/-- A transmit FIFO (R351, R352): attempts of its head and the outcome code of the latest, a cancel that waits for the end
of the head's attempt, and the prefetched frames behind the head that a CANCEL_ALL cancelled. -/
structure CanFifo where
  attempts : Nat := 0
  last : Nat := 8
  cancelPend : Bool := false
  behind : Nat := 0
  deriving DecidableEq, Repr

/-- A receive queue (R357, R358): the frame records that wait, each with its FIDX, oldest first, whether the head is
locked, and whether frames were dropped since the previous delivery. -/
structure CanQueue where
  recs : List (List Byte × Nat) := []
  locked : Bool := false
  dropped : Bool := false
  deriving DecidableEq, Repr

/-- A CAN controller: error counters; bus-off, integrating, protocol exception; a RECOVER that waits for the sequence; the
filter elements; what it sends and has received; witness requests to re-send with their MT. -/
structure CanSt where
  tec : Nat := 0
  erc : Nat := 0
  off : Bool := false
  integrating : Bool := true
  pexc : Bool := false
  recovering : Bool := false
  flt : List (Nat × (Nat × Nat)) := []
  internal : List CanOwn := []
  attempt : Option CanAttempt := none
  fifo : List (Nat × CanFifo) := []
  queue : List (Nat × CanQueue) := []
  resend : List (CanOwn × Nat) := []
  deriving DecidableEq, Repr

/-- A frame of the module's own on Ethernet: a UDP datagram with its addresses, port, VLAN tag and payload (R371); the
answer to an ARP request or a neighbour solicitation, and the announcement of the pair address (R372); a PRP
supervision frame (R374); a PTP message of the time engine: its messageType, sequence, and what it carries (R379). -/
inductive EthOwn where
  | udp (srcMac dstMac srcIp dstIp port : Nat) (v6 : Bool) (tag : Option Nat) (data : List Byte)
  | answer (mac : Nat) (addr : AskedAddr) (who whoIp : Nat)
  | pairAnnounce (mac ip : Nat) (v6 : Bool)
  | supervision (mac : Nat)
  | ptp (type seq : Nat) (content : List Byte)
  deriving DecidableEq, Repr

/-- What a port puts on its line: a host frame's bytes, or a frame of its own; on a PRP pair with the sequence and
LanId of its redundancy control trailer (R374), which a host frame's bytes already hold. -/
inductive EthOut where
  | host (bytes : List Byte)
  | own (f : EthOwn) (trailer : Option (Nat × Nat))
  deriving DecidableEq, Repr

/-- An Ethernet port: its link and rate, its own frames that wait, with PRP trailers, the received buffers that wait
per queue (oldest first). -/
structure EthPort where
  up : Bool := false
  rate : Nat := 0
  own : List (EthOwn × Option (Nat × Nat)) := []
  queue : List (Nat × List (List Byte)) := []
  deriving DecidableEq, Repr

/-- The Ethernet ports; per PRP pair the next sequence and the duplicate table: source MAC, sequence, MT of the first copy,
newest first (R374, R375). -/
structure EthSt where
  port : List (Nat × EthPort) := []
  prpSeq : List (Nat × Nat) := []
  prpSeen : List (Nat × List (Nat × Nat × Nat)) := []
  /-- Announcements of the pair address still to send (R372). -/
  announce : Nat := 0
  /-- The MT from which the next of them goes out. -/
  announceMt : Nat := 0
  /-- MT of the latest PRP supervision frames of each pair (R374). -/
  supMt : List (Nat × Nat) := []
  deriving DecidableEq, Repr

/-- What an Announce said, as the comparison of IEEE 1588-2019 clause 9.3 takes it (R379): the order of priority1, class,
accuracy, variance, priority2 and identity as one number, the grandmaster's identity and class, steps removed, and the
sender's port identity; with the MT of its arrival. -/
structure Foreign where
  rank : Nat
  gm : Nat
  cls : Nat
  steps : Nat
  sender : Nat
  mt : Nat
  deriving DecidableEq, Repr

/-- The time engine (R378 to R382). Offsets and delays in units of 2⁻¹⁶ ns, rates in ppb, the integrator as a Q32.32
content. -/
structure TimeSt where
  /-- 0 FREE, 1 ACQUIRING, 2 LOCKED, 3 HOLDOVER, 4 PEER. -/
  st : Nat := 0
  port : Nat := 15
  rate : Int := 0
  integ : Int := 0
  mean : Int := 0
  neigh : Int := 0
  offset : Int := 0
  lockRun : Nat := 0
  lastSync : Nat := 0
  /-- t2 − t1 − correction of the latest Sync (R380). -/
  ms : Int := 0
  /-- The latest two Announces heard on each receiver port, newest first. -/
  heard : List (Nat × List Foreign) := []
  /-- What a read of MT_LO latched: HI and FRAC. -/
  latchHi : Nat := 0
  latchFrac : Nat := 0
  /-- Sequence of the messages the time engine sends. -/
  seqOut : Nat := 0
  /-- MT of the latest Sync and of the latest Announce sent on each transmitter port (R379). -/
  syncMt : List (Nat × Nat) := []
  annMt : List (Nat × Nat) := []
  deriving DecidableEq, Repr

/-- A key slot (R405): its key (empty where the slot holds none), permission mask and last consumed counter (R400). -/
structure KeySlot where
  key : List Byte := []
  perm : Nat := 0
  last : MramWord := {}
  deriving DecidableEq, Repr

/-- An image slot (R408, R409): its state, the two-slot word that keeps the state (R166, R168), the header fields, the
latest R412 failure code, whether MAGIC, HVER, LEN and the reserved bytes are right, and the bytes an upload wrote. -/
structure FwSlot where
  state : Nat := 0
  word : MramWord := {}
  sv : Nat := 0
  gen : Nat := 0
  build : Nat := 0
  arith : Nat := 0
  len : Nat := 0
  rdmin : Nat := 0
  check : Nat := 0
  headOk : Bool := false
  bytes : List Byte := []
  deriving DecidableEq, Repr

/-- A settings slot (R419): the generation that wrote it, each page's configuration words and CFG_REF by page index, the
parameter sets, the stored signature, and the limit set with LIM_SEQ and LIM_CRC. -/
structure Settings where
  gen : Nat := 0
  pages : List (Nat × (List (Nat × Word) × Word)) := []
  psets : List (Nat × Byte) := []
  sig : Option Word := none
  lim : List (Nat × LimPart) := []
  limStr : LimString := {}
  limSeq : Nat := 0
  limCrc : Nat := 0
  deriving DecidableEq, Repr

/-- What the MRAM keeps of firmware and settings: slots A and B, the preferred slot, failed attempts, the trial and the
time in a role it has had, the time in a role since it ended, a pending activation (slot and MT), OTP steps blown, the
counters, and the settings slots. -/
structure FwMram where
  a : FwSlot := {}
  b : FwSlot := {}
  pref : Nat := 0
  attempts : Nat := 0
  trial : Bool := false
  trialNs : Nat := 0
  roleNs : Nat := 0
  pending : Option (Nat × Nat) := none
  otp : Nat := 0
  boots : Nat := 0
  failBoots : Nat := 0
  fallbacks : Nat := 0
  xferErr : Nat := 0
  resets : Nat := 0
  setA : Option Settings := none
  setB : Option Settings := none
  deriving DecidableEq, Repr

/-- The volatile state of the updater: the running slot, the open upload, the next expected offset, MT since which an
activation waits (R416), EXHAUSTED (R414), MT since which the module holds a role, and the settings and
the image slots as they are to be written once PFW_N is high (R438). -/
structure FwuSt where
  run : Nat := 0
  upload : Option Nat := none
  next : Nat := 0
  deferred : Option Nat := none
  exhausted : Bool := false
  roleSince : Option Nat := none
  waiting : Option Settings := none
  waitA : Option FwSlot := none
  waitB : Option FwSlot := none
  deriving DecidableEq, Repr

/-- The die thermal manager: node temperatures after the latest update, consecutive samples towards an exclusion by diode,
throttle level 0 to 3 and the highest model Tj since reset, all temperatures in 1/64 °C (R423 to R425). -/
structure ThmSt where
  nodes : List Int := []
  cnt : List (Nat × Nat) := []
  level : Nat := 0
  maxTj : Int := 0
  deriving DecidableEq, Repr

/-- The latest thermal shutdown, kept in the island's MRAM word (R428): MT, diode, reading, and the number of shutdowns. -/
structure ThmMram where
  mt : Nat := 0
  diode : Nat := 0
  reading : Int := 0
  count : Nat := 0
  deriving DecidableEq, Repr

/-- What the module puts on its wires and into host memory. -/
inductive Msg where
  /-- A descriptor of a ring completed: ring, index, the bytes placed in its buffer, and then its own 32 bytes (R49,
  R50). -/
  | desc (ring index : Nat) (buffer desc : List Byte)
  /-- An MSI-X message on a vector (R390). -/
  | msix (vector : Nat)
  /-- The answer to a management SPI read frame (R52). -/
  | spi (bytes : List Byte)
  /-- A coach launched on a sense ring: its payload and CRC (R78). -/
  | coach (ring : Nat) (bytes : List Byte)
  /-- The levels a PWM pair takes from a period start on: the intervals, in steps from there, in which PWMH and PWML
  are high (R230). -/
  | pwm (pair mt : Nat) (high low : List (Nat × Nat))
  /-- A PWM pair is forced low (R232). -/
  | pwmLow (pair mt : Nat)
  /-- An Espiton safe frame sent on a connection (R265, R267). -/
  | espiton (conn : Nat) (bytes : List Byte)
  /-- A tandem frame, sent on both links with one LSEQ (R277, R278). -/
  | tandem (type lseq : Nat) (payload : List Byte)
  /-- A witness request (R295) to an entry of TDM.WLIST, by CAN XL or UDP as its NET says. -/
  | witnessAsk (entry : Nat) (bytes : List Byte)
  /-- A witness reply (R295) to the sender of a request. -/
  | witnessReply (dest : NetSource) (bytes : List Byte)
  /-- A completion record on its way back to the sender (R403). -/
  | completion (path : CmdPath) (bytes : List Byte)
  /-- A CAN frame at its SOF; `fast`: CANn_MODE is high from its ADS to its DAS field (R346). -/
  | can (c sof : Nat) (f : CanFrame) (fast : Bool)
  /-- The value a read with an effect of its own returned: BAR0 offset and word. -/
  | read (addr value : Nat)
  /-- A frame sent on an Ethernet port, with its transmit timestamp in ns and 2⁻¹⁶ ns (R376). -/
  | eth (p mt frac : Nat) (f : EthOut)
  deriving DecidableEq, Repr


/-- What the MRAM keeps through every reset (R436). -/
structure Mram where
  /-- The journal's slots: slot s of record r at 2 r + s, 64 bytes each (R164). -/
  jslots : List (Nat × List Byte) := []
  /-- The last accepted COUNT of each set-point stream (R224). -/
  streams : List (Nat × MramWord) := []
  /-- The stored limit set, channel parts (R242). -/
  lim : List (Nat × LimPart) := []
  /-- The stored limit set, string block. -/
  limStr : LimString := {}
  /-- Accepted LIMIT_WRITE count (PROT.LIM_SEQ). -/
  limSeq : Nat := 0
  /-- LIM_CRC stored at the last accepted change. -/
  limCrc : Nat := 0
  /-- The level of source MANUAL, 0 or 1 (R464). -/
  manual : MramWord := {}
  /-- The records of the Strongbox areas, in the order written. -/
  sbxRecs : List SbxRec := []
  /-- The high-water mark of SEQ (R333). -/
  sbxHigh : MramWord := {}
  /-- SBX.CLEARED (R340). -/
  sbxCleared : MramWord := {}
  /-- Next free line of the locked main. -/
  sbxLockedHead : Nat := 0
  /-- Next free line of the reserve. -/
  sbxReserveHead : Nat := 0
  /-- Next line of the rolling area. -/
  sbxRollHead : Nat := 0
  /-- Next free line of the clear log. -/
  sbxClearHead : Nat := 0
  /-- Key slots 1 to 7, the counter of slot 0, and the pack key as slot 8 (R405). -/
  keys : List (Nat × KeySlot) := []
  /-- Firmware images, settings and their counters (R408 to R420). -/
  fw : FwMram := {}
  /-- The latest thermal shutdown (R428). -/
  thm : ThmMram := {}
  deriving DecidableEq, Repr

/-- The state of the module. -/
structure State where
  /-- Supplies, pins, mode and module time. -/
  sys : SysSt
  /-- PAGE.STATE of each page, by page index; an unlisted page is DISABLED (R35). -/
  pages : List (Nat × PageState)
  /-- Every register by BAR0 offset; an unlisted one holds its reset value. -/
  regs : List (Nat × Word)
  /-- The 128 rings (R48). -/
  rings : List (Nat × RingSt)
  /-- The host port. -/
  host : HostSt
  /-- The interrupt controller (R386 to R393). -/
  irq : IrqSt
  /-- The model's own counter of free values drawn (log entry 3). -/
  free : Nat
  /-- What the module has put on its wires, newest first (log entry 4). -/
  sent : List Msg
  /-- The commands that wait, first in, first out. -/
  pending : List Instr
  /-- The inputs of each channel in the current stage or rest span. -/
  acc : List (Nat × ChanAcc)
  /-- The timetable. -/
  tb : TimebaseSt
  /-- The sixteen sense rings. -/
  sns : List (Nat × RingSns)
  /-- The bitstream front end. -/
  mod : ModSt
  /-- Charge integration. -/
  chg : ChgSt
  /-- The learned-data journal. -/
  jrn : JrnSt
  /-- The estimator. -/
  est : EstSt
  /-- The Ostler. -/
  ost : OstSt
  /-- The balancing planner. -/
  bal : BalSt
  /-- The cell thermal model. -/
  cth : CthSt
  /-- The control engine, the PWM pairs and the set-point inputs. -/
  loops : LoopSt
  /-- Sources, limits in force, comparators and trip groups. -/
  prot : ProtSt
  /-- Safety inputs, test pulses and reset input. -/
  safe : SafeSt
  /-- The safety layer's connections. -/
  slay : SlaySt
  /-- Event inputs that wait for their effect tick (R67), in order of MSEQ. -/
  events : List EvItem
  /-- Commands whose completion record is still to be released (R403). -/
  completions : List Completion
  /-- The tandem engine. -/
  tdm : TdmSt
  /-- The witness engine. -/
  wit : WitSt
  /-- Waybill capture. -/
  way : WaySt
  /-- The Strongbox's queues, write in progress, cursor and export. -/
  sbx : SbxSt
  /-- The CAN controllers. -/
  can : List (Nat × CanSt)
  /-- The Ethernet ports. -/
  eth : EthSt
  /-- The time engine. -/
  time : TimeSt
  /-- Mirrored counters of key slots that wait for PFW_N to rise before the MRAM takes them (R401, R438). -/
  keyWait : List (Nat × Nat)
  /-- The firmware updater. -/
  fwu : FwuSt
  /-- The die thermal manager. -/
  thm : ThmSt
  /-- The 1 s mean of the input power exceeds the alarm level (PWR.FLAGS.ALARM's condition). -/
  pwrAlarm : Bool
  /-- What the MRAM keeps. -/
  mram : Mram
  deriving DecidableEq, Repr

/-- The image the module leaves the factory with, GOOD in slot A (log entry 17). -/
def factoryImage : FwSlot where
  state := 3
  word := { a := some (1, 3) }
  sv := Config.factorySv % 128
  gen := Config.factoryGen % 255 + 1
  build := Config.factoryBuild % 2 ^ 64
  arith := Config.factoryArith % 2 ^ 32
  len := Config.factoryLen
  rdmin := 1
  headOk := true

/-- The module right after power-on reset: VAON in range, VIN12 not yet, RESET_N low (R431, R432); every register at
its reset value; an MRAM that holds the factory image and is otherwise blank
(log entries 5 and 17). -/
def State.reset : State where
  sys := {}
  pages := []
  regs := []
  rings := []
  host := {}
  irq := {}
  free := 0
  sent := []
  pending := []
  acc := []
  tb := {}
  sns := []
  mod := {}
  chg := {}
  jrn := {}
  est := {}
  ost := {}
  bal := {}
  cth := {}
  loops := {}
  prot := {}
  safe := {}
  slay := {}
  events := []
  completions := []
  tdm := {}
  wit := {}
  way := {}
  sbx := {}
  can := []
  eth := {}
  time := {}
  keyWait := []
  fwu := {}
  thm := {}
  pwrAlarm := false
  mram := { fw := { a := factoryImage } }

end Sys2Proof.Machine
end

