-- ==== Sys2Proof/Machine/Ops.lean ====
section
/-! DEFINITION. The named operations every block uses: registers, flags, interrupts, rings, Strongbox records, module
time, the mirror, and the OUT entry. -/

namespace Sys2Proof.Machine

open Sys2Proof

/-! ### Two-slot MRAM words (R166, R168) -/

/-- The newest valid slot of a word, and whether it is the second. -/
def MramWord.newest (w : MramWord) : Option ((Nat × Nat) × Bool) :=
  match w.a, w.b with
  | some x, some y => if seqNewer x.1 y.1 then some (y, true) else some (x, false)
  | some x, none => some (x, false)
  | none, some y => some (y, true)
  | none, none => none

/-- What a word holds; 0 where neither slot is valid. -/
def MramWord.value (w : MramWord) : Nat :=
  match w.newest with
  | some (x, _) => x.2
  | none => 0

/-- A write goes to the slot that does not hold the newest valid copy, with the next SEQ, or 1 where there is none. -/
def MramWord.write (w : MramWord) (v : Nat) : MramWord :=
  match w.newest with
  | some (x, false) => { w with b := some ((x.1 + 1) % 2 ^ 32, v) }
  | some (x, true) => { w with a := some ((x.1 + 1) % 2 ^ 32, v) }
  | none => { w with a := some (1, v) }

/-! ### Registers -/

/-- What the register at offset `o` of page `p` reads as when nothing is listed: its reset value (R6). -/
def regDefault (p : Page) (o : Nat) : Word := BitVec.ofNat 32 (resetAt p o)

/-- The stored content of a register. -/
def State.rd (s : State) (p : Page) (o : Nat) : Word := sget (regDefault p o) s.regs (p.base + o)

/-- A register stored; reserved bits are stored 0 whatever is written (R4), and an unused offset stores nothing (R33). -/
def State.wr (s : State) (p : Page) (o : Nat) (v : Word) : State :=
  match findRow p o with
  | some r => { s with regs := sset (regDefault p o) s.regs (p.base + o) (v &&& BitVec.ofNat 32 r.mask) }
  | none => s

/-- A register's field [hi:lo], its content as a number, and a store of either. -/
def State.rdf (s : State) (p : Page) (o hi lo : Nat) : Nat := fld (s.rd p o) hi lo
def State.rds (s : State) (p : Page) (o hi lo : Nat) : Int := sfld (s.rd p o) hi lo
def State.rdb (s : State) (p : Page) (o n : Nat) : Bool := flg (s.rd p o) n
def State.rdn (s : State) (p : Page) (o : Nat) : Nat := (s.rd p o).toNat
def State.rdi (s : State) (p : Page) (o : Nat) : Int := signed 32 (s.rd p o).toNat
def State.wrf (s : State) (p : Page) (o hi lo v : Nat) : State := s.wr p o (setFld (s.rd p o) hi lo v)
def State.wrb (s : State) (p : Page) (o n : Nat) (b : Bool) : State := s.wrf p o n n (b2n b)
def State.wrn (s : State) (p : Page) (o v : Nat) : State := s.wr p o (BitVec.ofNat 32 v)
def State.wri (s : State) (p : Page) (o : Nat) (v : Int) : State := s.wrn p o (unsign 32 v)

/-- A 64-bit value in a LO and HI pair of registers. -/
def State.wr64 (s : State) (p : Page) (lo hi v : Nat) : State := (s.wrn p lo v).wrn p hi (v / 2 ^ 32)
def State.rd64 (s : State) (p : Page) (lo hi : Nat) : Nat := s.rdn p lo + 2 ^ 32 * s.rdn p hi

/-- A saturating counter register, and a saturating counter in a field. -/
def State.inc (s : State) (p : Page) (o : Nat) : State := s.wrn p o (satAdd 32 (s.rdn p o) 1)

/-- A write to the MRAM waits on PFW_N: it is counted (R166). -/
def State.writeDeferred (s : State) : State := (s.inc .est R.EST.JDEFER).wrb .est R.EST.AEVT 9 true

def State.incBy (s : State) (p : Page) (o n : Nat) : State := s.wrn p o (satAdd 32 (s.rdn p o) n)
def State.incf (s : State) (p : Page) (o hi lo : Nat) : State :=
  s.wrf p o hi lo (satAdd (hi + 1 - lo) (s.rdf p o hi lo) 1)

/-! ### Pages and module states -/

def State.pageState (s : State) (p : Page) : PageState := sget .disabled s.pages p.index
def State.setPage (s : State) (p : Page) (t : PageState) : State :=
  { s with pages := sset .disabled s.pages p.index t }
def State.running (s : State) (p : Page) : Bool := s.pageState p = .running

def State.mode (s : State) : Mode := s.sys.mode
def State.mt (s : State) : Nat := s.sys.mt
def State.tick (s : State) : Nat := s.sys.mt / 500000
def State.stage (s : State) : Nat := s.sys.mt / 10000000

/-- The state ROLE (R16). -/
def Mode.isRole : Mode → Bool
  | .active | .standby | .witnessOnly => true
  | _ => false

/-- A module that evaluates its string: ACTIVE or STANDBY. -/
def Mode.runsString : Mode → Bool
  | .active | .standby => true
  | _ => false

/-- The states in which the module's functions run (R20): BOOT, UNCONFIGURED, READY and the roles. -/
def Mode.serves : Mode → Bool
  | .boot | .unconfigured | .ready | .active | .standby | .witnessOnly => true
  | _ => false

/-- The states that send heartbeats (R279) and MSI-X messages (R395). -/
def Mode.speaks : Mode → Bool
  | .unconfigured | .ready | .active | .standby | .witnessOnly => true
  | _ => false

/-- The host port serves a page: in BOOT, UNCONFIGURED, READY and the roles (R16, R24); while no image can be started the
boot loader serves the HOST, SYS and FWU pages alone (R414). -/
def State.pageServed (s : State) (p : Page) : Bool :=
  s.mode.serves && (!s.fwu.exhausted || p = .host || p = .sys || p = .fwu)

/-- What a host access does, where the host port serves its page. -/
def State.hostDo (s : State) (p : Page) (f : State → State) : State := if s.pageServed p then f s else s

/-- The module takes a state; a test pulse goes on in ACTIVE alone (R253). -/
def State.setMode (s : State) (m : Mode) : State :=
  { s with sys := { s.sys with mode := m, tpoLow := if m = .active then s.sys.tpoLow else none } }

/-! ### Module time -/

/-- A test pulse ends once MT reaches its end (R253). -/
def SysSt.pulseEnd (y : SysSt) : SysSt :=
  match y.tpoLow with
  | some (_, e) => if e ≤ y.mt then { y with tpoLow := none, tpoDone := some e } else y
  | none => y

/-- DRIVE_EN goes low, and no fall is due any more. -/
def SysSt.driveOff (y : SysSt) (mt : Nat) : SysSt :=
  { y with driveEn := false, dropAt := none, driveFell := if y.driveEn then some mt else y.driveFell }

/-- MT takes a later value; DRIVE_EN falls where its boundary is reached (R233), and a test pulse ends. -/
def SysSt.atMt (y : SysSt) (mt : Nat) : SysSt :=
  SysSt.pulseEnd <|
  match y.dropAt with
  | some d =>
    if d ≤ mt then { y.driveOff d with mt := mt } else { y with mt := mt }
  | none => { y with mt := mt }

/-- MT takes a later value. -/
def State.atMt (s : State) (mt : Nat) : State := { s with sys := s.sys.atMt mt }

/-- DRIVE_EN goes low now. -/
def State.driveLow (s : State) : State := { s with sys := s.sys.driveOff s.mt }

/-- MT advanced by the time a command says has passed. MT does not count in RESET (R54) and never passes the next tick
boundary, which only TICK_BOUNDARY reaches (log entry 2). -/
def State.elapse (s : State) (dt : Nat) : State :=
  if s.mode = .reset then s
  else s.atMt (min (s.mt + dt) (s.mt / 500000 * 500000 + 499999))

/-- The number of the TB0 period that runs at a module time (R229), and the first ns of a period. -/
def State.tb0NumberAt (s : State) (mt : Nat) : Nat := mt * 32 / (5 * s.rdf .pwm R.PWM.TB0_CFG 18 0)
def State.tb0Number (s : State) : Nat := s.tb0NumberAt s.mt
def State.tb0Start (s : State) (n : Nat) : Nat := (n * 5 * s.rdf .pwm R.PWM.TB0_CFG 18 0 + 31) / 32

/-- The first TB0 period that starts at a module time or later. -/
def State.tb0NumberFrom (s : State) (mt : Nat) : Nat :=
  (mt * 32 + 5 * s.rdf .pwm R.PWM.TB0_CFG 18 0 - 1) / (5 * s.rdf .pwm R.PWM.TB0_CFG 18 0)

/-- A TB0 period begins in the ns that ends now. -/
def State.tb0Boundary (s : State) : Bool := s.rdf .pwm R.PWM.TB0_CFG 18 0 != 0 && s.mt = s.tb0Start s.tb0Number

/-- DRIVE_EN falls at the next TB0 period boundary (R18, R233, R305); at once where TB0 has no period (log entry 42). -/
def State.dropDrive (s : State) : State :=
  if !s.sys.driveEn then s
  else if s.rdf .pwm R.PWM.TB0_CFG 18 0 = 0 then s.driveLow
  else { s with sys := { s.sys with dropAt := some (s.tb0Start (s.tb0Number + 1)) } }

/-! ### What goes out, and free values -/

def State.send (s : State) (m : Msg) : State := { s with sent := m :: s.sent }

/-- The stamp of an edge at an MT, in units of 1.25 ns (R61, R223). -/
def edgeStamp (mt : Nat) : Nat := mt * 4 / 5

/-- The value a read returned; RESET and THERMAL_SHUTDOWN answer nothing (R16). -/
def State.answerRead (s : State) (addr v : Nat) : State :=
  if s.mode.serves || s.mode = .out then s.send (.read addr v) else s

/-- The next free value's number, and the state after drawing it (log entry 3). -/
def State.draw (s : State) : Nat × State := (s.free, { s with free := s.free + 1 })

/-! ### Interrupts (R385 to R390) -/

def State.src (s : State) (n : Nat) : SrcSt := sget {} s.irq.src n
def State.setSrc (s : State) (n : Nat) (v : SrcSt) : State :=
  { s with irq := { s.irq with src := sset {} s.irq.src n v } }
def State.tgt (s : State) (t : Nat) : TgtSt := sget {} s.irq.tgt t
def State.setTgt (s : State) (t : Nat) (v : TgtSt) : State :=
  { s with irq := { s.irq with tgt := sset {} s.irq.tgt t v } }

/-- The fallback that serves a parked target (R393): its own is enabled and not parked. -/
def State.irqFallback (s : State) (t : Nat) : Option Nat :=
  let f := s.rdf .irq (R.IRQ.TGT_CFG t) 26 24
  if s.rdb .irq (R.IRQ.TGT_CFG t) 27 && f < 6 && s.rdb .irq (R.IRQ.TGT_CFG f) 31 && !s.rdb .irq (R.IRQ.TGT_PARK f) 0 then some f
  else none

/-- The target that serves sources routed to `t`: itself, or while it is parked its fallback; none where they are held. -/
def State.irqServer (s : State) (t : Nat) : Option Nat :=
  if 6 ≤ t || !s.rdb .irq (R.IRQ.TGT_CFG t) 31 then none
  else if s.rdb .irq (R.IRQ.TGT_PARK t) 0 then s.irqFallback t
  else some t

/-- A target counts an event; the first one since the last firing starts the timer (R389). -/
def State.irqCount (s : State) (t : Nat) : State :=
  let g := s.tgt t
  s.setTgt t { g with
    events := min (g.events + 1) 2047
    timing := true
    firstMt := if g.timing then g.firstMt else s.mt }

/-- A parked target without a fallback holds a source: IRQ.FLAGS.HELD sets, which can make source 132 pending (R393). -/
def State.irqHold (s : State) : State :=
  let s := s.wrb .irq R.PAGE.FLAGS 8 true
  let c := s.src 132
  let line := s.rd .irq R.PAGE.FLAGS &&& s.rd .irq R.PAGE.FLAG_IE != 0
  let new := line && !c.latch && !c.insvc && !c.pend
  let s := s.setSrc 132 { c with line := line, pend := c.pend || new }
  match s.irqServer (s.rdf .irq (R.IRQ.SRC 132) 18 16) with
  | some t => if new then s.irqCount t else s
  | none => s

/-- One event for the target a source is routed to, or for the fallback that serves it (R386, R389, R393). -/
def State.irqEvent (s : State) (n : Nat) : State :=
  let t := s.rdf .irq (R.IRQ.SRC n) 18 16
  match s.irqServer t with
  | some u => s.irqCount u
  | none => if t < 6 && s.rdb .irq (R.IRQ.TGT_CFG t) 31 then s.irqHold else s

/-- An edge source asserts: pending is set and every assertion is an event (R386); 197 to 255 never assert (R385). -/
def State.edgeSource (s : State) (n : Nat) : State :=
  if n < 197 then (s.setSrc n { s.src n with pend := true }).irqEvent n else s

/-- A level source's line takes a level: pending is set while the line is asserted and the source is neither latched
nor in service (R386). -/
def State.levelSource (s : State) (n : Nat) (line : Bool) : State :=
  let c := s.src n
  let s := s.setSrc n { c with line := line }
  if line && !c.latch && !c.insvc && !c.pend then
    (s.setSrc n { c with line := line, pend := true }).irqEvent n
  else s

/-- The page's interrupt line: FLAGS AND FLAG_IE is not zero (R385). -/
def State.pageLine (s : State) (p : Page) : State :=
  s.levelSource (128 + p.index) (s.rd p R.PAGE.FLAGS &&& s.rd p R.PAGE.FLAG_IE != 0)

/-- Hardware sets bit `n` of a page's FLAGS. -/
def State.flag (s : State) (p : Page) (n : Nat) : State := (s.wrb p R.PAGE.FLAGS n true).pageLine p

/-! ### Rings (R46 to R51) -/

def State.ring (s : State) (n : Nat) : RingSt := sget {} s.rings n
def State.setRing (s : State) (n : Nat) (r : RingSt) : State := { s with rings := sset {} s.rings n r }

/-- A ring is unused while its base address is 0 (R48). -/
def State.ringUsed (s : State) (n : Nat) : Bool :=
  s.rdf .rng (R.RNG.BASE_LO n) 31 12 != 0 || s.rdn .rng (R.RNG.BASE_HI n) != 0

/-- A ring is served while RNG is RUNNING, the module is not in OUT or below BOOT, and the ring is not stopped. -/
def State.ringServed (s : State) (n : Nat) : Bool :=
  s.running .rng && s.mode.serves && s.ringUsed n && !(s.ring n).stopped

/-- The oldest descriptor of a served ring. -/
def State.ringHead (s : State) (n : Nat) : Option Desc :=
  if s.ringServed n then (s.ring n).descs.head? else none

/-- The head descriptor completes (R50): the buffer, the status words and DONE, then MIDX, then the interrupt. Of an
M→H ring `len` is the number of bytes filled. -/
def State.ringDone (s : State) (n status tstat len : Nat) (bytes : List Byte) : State :=
  match s.ringHead n with
  | none => s
  | some d =>
    let r := s.ring n
    let s := s.send (.desc n r.midx bytes (d.done n status tstat (s.mt % 2 ^ 32) len))
    let s := s.setRing n { r with
      midx := (r.midx + 1) % 2 ^ 32
      descs := r.descs.drop 1
      since := s.mt }
    let s := s.wrn .rng (R.RNG.MIDX n) ((r.midx + 1) % 2 ^ 32)
    if d.irq && s.rdb .rng (R.RNG.ATTR n) 0 then s.edgeSource n else s

/-- A descriptor's buffer address is a multiple of 4 (R49). -/
def descAligned (d : Desc) : Bool := d.buf % 4 = 0

/-- The status of a descriptor whose buffer cannot be used: BAD_ALIGN, or BUS_ERR where the link fails an access to
it; 0 of one that can (R49, log entry 80). -/
def descFault (d : Desc) : Nat := if !descAligned d then 0x0001 else if d.busErr then 0x0003 else 0

/-- Descriptors at the head whose buffers cannot be used complete with the error, before anything is done for them. -/
def State.ringAlign (s : State) (n : Nat) : Nat → State
  | 0 => s
  | k + 1 =>
    match s.ringHead n with
    | some d => if descFault d = 0 then s else (s.ringDone n (descFault d) 0 0 []).ringAlign n k
    | none => s

/-- The head descriptor completes, and the next one whose buffer can be used is the head. -/
def State.ringComplete (s : State) (n status tstat len : Nat) (bytes : List Byte) : State :=
  (s.ringDone n status tstat len bytes).ringAlign n (s.ring n).descs.length

/-- An item for an M→H ring: placed in the oldest buffer, or dropped and counted when the ring has none (R46); one for
a ring that is unused or stopped is dropped and counted too (log entry 80). A buffer too short for it completes
BAD_LEN. -/
def State.ringPush (s : State) (n tstat : Nat) (bytes : List Byte) : State :=
  match s.ringHead n with
  | some d =>
    if d.len < bytes.length then s.ringComplete n 0x0002 tstat 0 []
    else s.ringComplete n 0 tstat bytes.length bytes
  | none => if s.running .rng && s.mode.serves then s.inc .rng (R.RNG.DROP n) else s

/-- A ring stops on an error (R51): codes 1 occupancy, 2 fetch failed, 3 length. -/
def State.ringStop (s : State) (n code : Nat) : State :=
  let s := s.setRing n { s.ring n with stopped := true }
  let s := s.wrb .rng (R.RNG.STOP (n / 32)) (n % 32) true
  let s := if s.rdb .rng R.RNG.ERR 7 then s else s.wrn .rng R.RNG.ERR (code * 256 + 128 + n)
  s.flag .rng 8

/-! ### Strongbox records (R334 to R336) -/

/-- A record put in its queue: after those queued in earlier cycles, and among those of the same MT by class code, then
SOURCE (R336). -/
def recInsert (r : RecReq) : List RecReq → List RecReq
  | [] => [r]
  | q :: t =>
    if q.mt = r.mt && (r.cls < q.cls || (r.cls = q.cls && r.source < q.source)) then r :: q :: t
    else q :: recInsert r t

/-- A record is admitted to its queue (R336): 16 entries for locked classes, 48 for rolling ones, which also need a
token; one that finds no room is dropped, counted and flagged. -/
def State.record (s : State) (p : Page) (cls : Nat) (payload : List Byte) : State :=
  let r : RecReq := { cls := cls, source := pageType p % 256, mt := s.mt, payload := payload }
  if cls < 0x10 then
    if s.sbx.lockedQ.length < 16 then
      { s with sbx := { s.sbx with lockedQ := recInsert r s.sbx.lockedQ } }
    else (s.inc .sbx R.SBX.LDROP).flag .sbx 11
  else
    if 0 < s.sbx.tokens && s.sbx.rollQ.length < 48 then
      { s with sbx := { s.sbx with tokens := s.sbx.tokens - 1, rollQ := recInsert r s.sbx.rollQ } }
    else (s.inc .sbx R.SBX.DROPPED).flag .sbx 11

/-! ### The tandem link and the mirror (R277, R282) -/

def State.tandemed (s : State) : Bool := s.running .tdm

def State.pairId (s : State) : Nat := s.rd64 .tdm R.TDM.PAIR_LO R.TDM.PAIR_HI

/-- The CHECK of a tandem frame (R277): CRC-32C over the pair identity and the frame's bytes before it. -/
def frameCheck (pair type lseq : Nat) (payload : List Byte) : Nat :=
  crc32c (leBytes 8 pair ++ [BitVec.ofNat 8 type, 0] ++ leBytes 2 payload.length ++ leBytes 8 lseq ++ payload)

/-- A tandem frame sent on both links with the next LSEQ (R278); without a tandem page there is no peer (R276). -/
def State.sendFrame (s : State) (type : Nat) (payload : List Byte) : State :=
  if s.tandemed then
    let q := s.tdm.lseqSent + 1
    { s with tdm := { s.tdm with lseqSent := q } }.send (.tandem type q payload)
  else s

/-- Descriptors on a service ring go to the peer in SERVICE frames, and complete as they are sent (R278). -/
def State.servicePump (s : State) (n : Nat) : Nat → State
  | 0 => s
  | k + 1 =>
    match (if s.tandemed then s.ringHead n else none) with
    | some d =>
      let s := s.sendFrame 0x0B ([1, BitVec.ofNat 8 n, 0, 0] ++ leBytes 4 d.tag ++ d.data)
      (s.ringComplete n 0 0 d.len []).servicePump n k
    | none => s

/-- Both service rings. -/
def State.serviceAll (s : State) : State :=
  let s := s.servicePump 120 (s.ring 120).descs.length
  s.servicePump 121 (s.ring 121).descs.length

/-- One mirror item laid out as R280 says. -/
def EvItem.bytes (e : EvItem) : List Byte :=
  leBytes 8 e.mseq ++ leBytes 2 e.kind ++ leBytes 2 e.content.length ++ zeros 4 ++ leBytes 8 e.effect ++
  e.content ++ zeros ((4 - e.content.length % 4) % 4)

/-- The active mirrors an item with the next MSEQ (R282); the pair's modules share one sequence, which a new active
goes on with (log entry 106). -/
def State.mirrorItem (s : State) (kind effect : Nat) (content : List Byte) : State :=
  let q := max s.tdm.mseqOut s.tdm.mseqIn + 1
  let s := { s with tdm := { s.tdm with mseqOut := q } }
  s.sendFrame 0x02 (EvItem.bytes ⟨q, kind, effect, content⟩)

/-- Does the module accept event inputs? Only an active that is not fenced does (R281, R305). -/
def State.acceptsEvents (s : State) : Bool :=
  (s.mode = .active && !s.tdm.fenced) || (s.mode = .standby && s.tick ≤ s.tdm.acceptUntil && s.tdm.acceptUntil != 0)

/-- An authenticated command that names this module is an event input of this module alone: it waits for its effect
tick, and an active mirrors it (R282, R401). -/
def State.acceptLocal (s : State) (kind : Nat) (content : List Byte) : State :=
  { s with events := s.events ++ [⟨0, kind, s.tick + 2, content⟩] }

/-- An event input accepted during tick T takes effect at the start of tick T + 2 and is mirrored (R67, R282). -/
def State.acceptEvent (s : State) (kind : Nat) (content : List Byte) : State :=
  let s := s.mirrorItem kind (s.tick + 2) content
  { s with events := s.events ++ [⟨s.tdm.mseqOut, kind, s.tick + 2, content⟩] }

/-- A host write of an event-input register (KIND 0x0001): accepted as an event input by an active, discarded by any
other module (R222, R281). -/
def State.hostEvent (s : State) (p : Page) (o : Nat) (v : Word) : State :=
  if s.acceptsEvents then s.acceptEvent 0x0001 (leBytes 4 (p.base + o) ++ leBytes 4 v.toNat) else s

/-! ### Safe outputs and OUT (R21 to R23) -/

/-- Time in a role so far since it was last booked. -/
def State.inRoleNs (s : State) : Nat :=
  match s.fwu.roleSince with
  | some m => s.mt - m
  | none => 0

/-- The time in a role up to now is booked to the image's trial, or after it to the wait for the commit (R413, R417). -/
def State.bookRole (s : State) (stays : Bool) : State :=
  let n := s.inRoleNs
  let m := s.mram.fw
  let m := if m.trial then { m with trialNs := m.trialNs + n } else { m with roleNs := m.roleNs + n }
  { s with mram := { s.mram with fw := m }, fwu := { s.fwu with roleSince := if stays then some s.mt else none } }

/-- The module takes a state or role. -/
def State.takeMode (s : State) (m : Mode) : State := (s.bookRole m.isRole).setMode m

/-- Is ALIVE driven high (R292)? -/
def State.alive (s : State) : Bool :=
  (s.mode = .ready || s.mode = .active || s.mode = .standby) && s.running .mod

/-- A PWM pair goes low, and its shadow register empties (R22, R232). -/
def State.pairLow (s : State) (m : Nat) : State :=
  let v : PairSt := sget {} s.loops.pairs m
  if v.forced then s
  else
    let s := { s with loops := { s.loops with pairs := sset {} s.loops.pairs m {} } }
    (s.wrn .pwm (R.PWM.ON m) 0).send (.pwmLow m s.mt)

/-- The outputs of R22: every PWM pair and DRIVE_EN low, every trip group WITHHELD, so KEEP stopped and TRIP low (R244), and
the test-pulse output driven low at its idle level again. ALIVE follows the module state. -/
def State.forceSafe (s : State) : State :=
  let s := (List.range 8).foldl State.pairLow s
  { s with sys := { s.sys.driveOff s.mt with tpoLow := none },
           safe := { s.safe with win := none },
           tdm := { s.tdm with driveWanted := false }, prot := { s.prot with groups := [] } }

/-- Bit `n` added to the cause bitmap of the OUT record that still waits in its queue (R23). -/
def addOutCause (n : Nat) (q : List RecReq) : List RecReq :=
  q.map (fun r =>
    if r.cls = 7 && r.payload.head? = some 1 then
      { r with payload := r.payload.take 2 ++ leBytes 2 (leAt r.payload 2 2 ||| 2 ^ n) }
    else r)

/-- An OUT cause is detected (R21 to R23). From BOOT, UNCONFIGURED, READY or a role it forces the outputs of R22,
attempts one ABDICATE frame, and queues a locked record with the cause bitmap, the prior state and MT. Causes within
t_out of the first join its record while that waits; later ones advance the repeat counter. -/
def State.outEntry (s : State) (n : Nat) : State :=
  if s.mode.serves then
    let prior := s.mode.code
    let s := (s.bookRole false).forceSafe
    let s := s.sendFrame 0x0A (leBytes 8 s.pairId ++ leBytes 2 (2 ^ n) ++ [BitVec.ofNat 8 prior, 0] ++
      leBytes 4 s.tdm.term ++ leBytes 8 s.mt)
    let s := s.record .sys 0x07 ([1, BitVec.ofNat 8 prior] ++ leBytes 2 (2 ^ n))
    let s := s.wrf .sys R.SYS.OUTCAUSE 15 0 (2 ^ n)
    { s with sys := { s.sys with mode := .out, outRecorded := true, outMt := s.mt, outPrior := prior,
                                 outDurable := false } }
  else if s.mode = .out then
    if s.mt ≤ s.sys.outMt + 1000 && s.sbx.lockedQ.any (fun r => r.cls = 7 && r.payload.head? = some 1) then
      let s := { s with sbx := { s.sbx with lockedQ := addOutCause n s.sbx.lockedQ } }
      s.wrf .sys R.SYS.OUTCAUSE 15 0 (s.rdf .sys R.SYS.OUTCAUSE 15 0 ||| 2 ^ n)
    else s.incf .sys R.SYS.OUTCAUSE 31 16
  else s

/-! ### Waybill triggers (R319 to R321) -/

def State.modSeg (s : State) (num : Nat) (f : Seg → Seg) : State :=
  { s with way := { s.way with segs := s.way.segs.map (fun (g : Seg) => if g.num = num then f g else g) } }

/-- OST.CFG in force: its value at the latest stage boundary, and the reset value while the page is not RUNNING (R196). -/
def State.ostCfgNow (s : State) : Nat := (if s.running .ost then s.rd .ost R.OST.CFG else regDefault .ost R.OST.CFG).toNat
def State.ostCfg (s : State) (hi lo : Nat) : Nat := bits (if s.running .ost then s.ost.cfg else s.ostCfgNow) hi lo

/-- OST.CFG.FROZEN_MAX in force. -/
def State.frozenMax (s : State) : Nat := s.ostCfg 15 8

/-- One segment is frozen, unless that would exceed the cap (R194): whether it is frozen now, and the state. -/
def State.freezeSeg (s : State) (g : Seg) : Bool × State :=
  if g.frozen then (true, s)
  else if (s.way.segs.filter (·.frozen)).length < s.frozenMax then
    (true, s.modSeg g.num (fun g => { g with frozen := true }))
  else (false, (s.inc .ost R.OST.FRZREF).flag .ost 11)

/-- Segments frozen in order; the first refusal refuses the rest (R321): whether any was frozen, whether one was
refused, and the state. -/
def State.freezeSegs (s : State) : List Seg → Bool × Bool × State
  | [] => (false, false, s)
  | g :: t =>
    let (ok, s) := s.freezeSeg g
    if ok then
      let (_, ref, s) := s.freezeSegs t
      (true, ref, s)
    else (false, true, s)

/-- The burst buffer on a trigger (R319): it goes on for POST more outputs of each input, or, while stopped, captures
none. -/
def State.burstTrigger (s : State) : State :=
  if s.rdf .way R.WAY.BURST 31 20 = 0 then s
  else if s.way.held then (s.inc .way R.WAY.BURSTREF).flag .way 11
  else if s.way.post.isSome then s
  else
    let fresh := s.way.burst.map (fun (e : Nat × BurstIn) => (e.1, { e.2 with count := 0 }))
    { s with way := { s.way with post := some (s.rdf .way R.WAY.BURST 19 0), burst := fresh } }

/-- A trigger of the Waybill (R320, R321): its CAUSE and DETAIL codes of WAY.LASTTRIG. Causes 3 to 7 need their bit in
WAY.TRIG. The segments of its window freeze: the one that holds the trigger stage, then earlier ones, newest first. -/
def State.trigger (s : State) (cause detail : Nat) : State :=
  if !s.running .way || (3 ≤ cause && !s.rdb .way R.WAY.TRIG (cause - 3)) then s
  else
    let st := s.stage
    let s := s.wrn .way R.WAY.LASTTRIG (cause * 2 ^ 24 + detail * 65536)
    let covers := fun (g : Seg) => g.kind = 1 && g.first ≤ st &&
      (g.isOpen || st ≤ g.last + 100 * s.rdf .way R.WAY.WIN 15 0)
    let gs := sortBy (fun a b => decide (b.num ≤ a.num)) (s.way.segs.filter covers)
    let s := match gs.head? with
      | some g => s.wrn .way R.WAY.LASTTRIG_SEG g.num
      | none => s
    let (any, refused, s) := s.freezeSegs gs
    let s := if any then (s.inc .way R.WAY.FREEZES).flag .way 8 else s
    let win := (st + 100 * s.rdf .way R.WAY.WIN 31 16, refused)
    { s with way := { s.way with windows := win :: s.way.windows } }.burstTrigger

/-- A control output enters the burst buffer (R319): the latest 625,000, until it stops. -/
def State.burstPush (s : State) (i bit : Nat) (y : Int) : State :=
  let b : BurstIn := sget {} s.way.burst i
  let full := match s.way.post with
    | some n => decide (n ≤ b.count)
    | none => false
  if !s.running .way || !s.rdb .way R.WAY.BURST (20 + i) || s.way.held || full then s
  else
    let b : BurstIn := { bit := bit, count := b.count + 1, samples := (y :: b.samples).take 625000 }
    { s with way := { s.way with burst := sset {} s.way.burst i b } }

/-- An entry of R313 for the step's Waybill frame. -/
def State.wayEntry (s : State) (type : Nat) (payload : List Byte) : State :=
  { s with way := { s.way with entries := s.way.entries ++ [(type, payload)] } }

/-- A block fault: RUNNING to FAULT with FLAGS.FAULT (R35). -/
def State.pageFault (s : State) (p : Page) : State := (s.setPage p .fault).flag p 2

end Sys2Proof.Machine
end

