-- ==== Sys2Proof/Machine/Net.lean ====
section
/-! DEFINITION. The module's own frames on their way to a CAN controller or an Ethernet port: their identifiers,
addresses and PRP trailers (R267, R295, R359, R371 to R374). -/

namespace Sys2Proof.Machine

open Sys2Proof

def canPage (c : Nat) : Page := .can (Fin.ofNat 4 c)
def ethPage (p : Nat) : Page := .eth (Fin.ofNat 4 p)

def State.canSt (s : State) (c : Nat) : CanSt := sget {} s.can c
def State.modCan (s : State) (c : Nat) (f : CanSt → CanSt) : State := { s with can := smod {} s.can c f }

def State.ethPort (s : State) (p : Nat) : EthPort := sget {} s.eth.port p
def State.modEth (s : State) (p : Nat) (f : EthPort → EthPort) : State :=
  { s with eth := { s.eth with port := smod {} s.eth.port p f } }

/-! ### CAN -/

/-- An XL frame of the module's own. -/
def xlFrame (id sdt af : Nat) (data : List Byte) : CanFrame :=
  { id := id % 2 ^ 11, fmt := 4, dlen := data.length, sdt := sdt, af := af, data := data }

/-- A frame put into a controller's internal queue, where its page is RUNNING (R350). -/
def State.canOwn (s : State) (c : Nat) (f : CanFrame) (again : Bool) : State :=
  if s.running (canPage c) then s.modCan c (fun (v : CanSt) => { v with internal := v.internal ++ [⟨f, again⟩] }) else s

/-! ### Ethernet addresses (R371) -/

/-- A MAC address as a number in transmission order, from its LO and HI registers. -/
def State.macAt (s : State) (p lo hi : Nat) : Nat :=
  beNat (leBytes 4 (s.rdn (ethPage p) lo) ++ leBytes 2 (s.rdn (ethPage p) hi))

/-- An IPv4 or IPv6 address from the register of the one or the first of the four of the other. -/
def State.ipAt (s : State) (p ip4 ip6 : Nat) (v6 : Bool) : Nat :=
  if v6 then beNat ((List.range 4).flatMap (fun w => leBytes 4 (s.rdn (ethPage p) (ip6 + 4 * w))))
  else beNat (leBytes 4 (s.rdn (ethPage p) ip4))

def State.ethV6 (s : State) (p : Nat) : Bool := s.rdb (ethPage p) R.ETH.CFG 4
def State.modMac (s : State) (p : Nat) : Nat := s.macAt p R.ETH.MAC_LO R.ETH.MAC_HI
def State.modIp (s : State) (p : Nat) (v6 : Bool) : Nat := s.ipAt p R.ETH.IP4 (R.ETH.IP6 0) v6
def State.pairMac (s : State) (p : Nat) : Nat := s.macAt p R.ETH.PMAC_LO R.ETH.PMAC_HI
def State.pairIp (s : State) (p : Nat) (v6 : Bool) : Nat := s.ipAt p R.ETH.PIP4 (R.ETH.PIP6 0) v6

/-- Entry e of the address table: MAC, IP, and word 7. -/
def State.tableMac (s : State) (p e : Nat) : Nat := s.macAt p (R.ETH.AT_0 e) (R.ETH.AT_1 e)
def State.tableIp (s : State) (p e : Nat) (v6 : Bool) : Nat := s.ipAt p (R.ETH.AT_2 e) (R.ETH.AT_3 e) v6
def State.tableWord (s : State) (p e : Nat) : Word := s.rd (ethPage p) (R.ETH.AT_7 e)

/-- The 802.1Q tag of an entry's datagrams: priority and VLAN. -/
def State.tableTag (s : State) (p e : Nat) : Option Nat :=
  let w := s.tableWord p e
  if flg w 12 then some (fld w 15 13 * 2 ^ 13 + fld w 11 0) else none

/-! ### PRP pairs (R373, R374) -/

/-- Do ports p and p + 1, p even, form a PRP pair? -/
def State.prpPair (s : State) (p : Nat) : Bool := p % 2 = 0 && s.rdb (ethPage p) R.ETH.CFG 5

/-- Frames that arrive on port p reach a block whose PORT is `port`: the port itself, or the even port of the PRP pair
it belongs to (R373 to R375). -/
def State.hearsPort (s : State) (p port : Nat) : Bool := port = p || (s.prpPair (p / 2 * 2) && port = p / 2 * 2)

/-- The next sequence of a pair's trailers, and the state after taking it. -/
def State.takePrpSeq (s : State) (p : Nat) : Nat × State :=
  let n := sget 0 s.eth.prpSeq (p / 2)
  (n, { s with eth := { s.eth with prpSeq := sset 0 s.eth.prpSeq (p / 2) ((n + 1) % 2 ^ 16) } })

/-- A frame put among a port's own frames. -/
def State.ethQueue (s : State) (p : Nat) (f : EthOwn) (t : Option (Nat × Nat)) : State :=
  if s.running (ethPage p) then s.modEth p (fun (v : EthPort) => { v with own := v.own ++ [(f, t)] }) else s

/-- A frame of the module's own: on a PRP pair it goes out on both ports with one trailer, or, while the odd port's
page does not run, on the even one alone (R374). -/
def State.ethOwn (s : State) (p : Nat) (f : EthOwn) : State :=
  if s.prpPair p && s.running (ethPage p) then
    let (n, s) := s.takePrpSeq p
    let s := s.ethQueue p f (some (n, 0xA))
    if s.running (ethPage (p + 1)) then s.ethQueue (p + 1) f (some (n, 0xB))
    else s.inc (ethPage p) R.ETH.PRPSINGLE
  else s.ethQueue p f none

/-- A datagram to an entry of the address table (R371); an entry that is not enabled sends nothing. -/
def State.ethDatagram (s : State) (p e srcMac srcIp port : Nat) (data : List Byte) : State :=
  if !flg (s.tableWord p e) 31 then s.inc (ethPage p) R.ETH.NOADDR
  else
    let v6 := s.ethV6 p
    s.ethOwn p (.udp srcMac (s.tableMac p e) srcIp (s.tableIp p e v6) port v6 (s.tableTag p e) data)

/-! ### Routing -/

/-- May the module send from its pair or module address (R372)? -/
def State.ethActive (s : State) : Bool := s.mode = .active && !s.tdm.fenced

/-- A message of the module's own goes to the network it is bound to. -/
def State.route (s : State) (m : Msg) : State :=
  match m with
  | .espiton k b =>
    let cfg := s.rd .slay (R.SLAY.CON_CFG k)
    let port := fld cfg 5 4
    let addr := if byteAt b 1 = 1 then s.rdn .slay (R.SLAY.CON_ADDR k) else s.rdn .slay (R.SLAY.CON_EADDR k)
    if flg cfg 3 then s.ethDatagram port k (s.pairMac port) (s.pairIp port (s.ethV6 port)) (addr % 2 ^ 16) b
    else s.canOwn port (xlFrame addr (s.rdf .slay R.SLAY.CFG 31 24) (s.rdn .slay (R.SLAY.CON_ID k)) b) false
  | .witnessAsk e b =>
    let net := s.rd .tdm (R.TDM.WLIST_NET e)
    let port := fld net 9 8
    if flg net 0 then
      s.ethDatagram port (fld net 23 16 % 32) (s.modMac port) (s.modIp port (s.ethV6 port)) (s.rdf .wit R.WIT.NET 31 16) b
    else s.canOwn port (xlFrame (s.rdf .wit R.WIT.NET 10 0) 0 (s.rdn .tdm (R.TDM.WLIST_ID e)) b) true
  | .witnessReply (.udp p mac ip port) b =>
    s.ethOwn p.val (.udp (s.modMac p.val) mac.toNat (s.modIp p.val (s.ethV6 p.val)) ip.toNat port.toNat (s.ethV6 p.val)
      none b)
  | .witnessReply (.canxl c) b => s.canOwn c.val (xlFrame (s.rdf .wit R.WIT.NET 10 0 + 1) 0 (leAt b 8 4) b) false
  | .completion (.net (.udp p mac ip port)) b =>
    if s.ethActive then
      s.ethOwn p.val (.udp (s.modMac p.val) mac.toNat (s.modIp p.val (s.ethV6 p.val)) ip.toNat port.toNat
        (s.ethV6 p.val) none b)
    else s
  | .completion (.net (.canxl c)) b =>
    s.canOwn c.val (xlFrame (s.rdf .auth R.AUTH.NET 10 0 + 1) (Config.replySdt % 256) (Config.replyAf % 2 ^ 32) b) false
  | _ => s

/-- A message of the module's own is formed and handed to its network. -/
def State.sendNet (s : State) (m : Msg) : State := (s.send m).route m

end Sys2Proof.Machine
end

