-- ==== Sys2Proof/Machine/Auth.lean ====
section
/-! DEFINITION. Authenticated commands and keys: the command message, its judgement, its completion record (R397 to
R406). -/

namespace Sys2Proof.Machine

open Sys2Proof

/-- The content of a key slot; slot 0 is written at manufacture and permits KEY_LOAD only (R405). -/
def State.keySlot (s : State) (k : Nat) : KeySlot :=
  if k = 0 then { key := Config.factoryKey, perm := 0x0100, last := (sget {} s.mram.keys 0).last }
  else sget {} s.mram.keys k

def State.setKeySlot (s : State) (k : Nat) (v : KeySlot) : State :=
  { s with mram := { s.mram with keys := sset {} s.mram.keys k v } }

/-- The last consumed counter of a key slot: the MRAM's, or a later mirrored one that waits for PFW_N to rise (R400,
R401). -/
def State.lastCounter (s : State) (k : Nat) : Nat := max (s.keySlot k).last.value (sget 0 s.keyWait k)

/-- A consumed counter is committed to the MRAM (R400). -/
def State.commitCounter (s : State) (k n : Nat) : State :=
  let v : KeySlot := sget {} s.mram.keys k
  s.setKeySlot k { v with last := v.last.write n }

/-- A mirrored counter (R401): the greater one stands; no write starts while PFW_N is low (R438). -/
def State.raiseCounter (s : State) (k n : Nat) : State :=
  if n ≤ s.lastCounter k then s
  else if s.sys.pfwLow then { s with keyWait := sset 0 s.keyWait k n }.writeDeferred
  else s.commitCounter k n

/-- PFW_N has risen: the counters that waited are written. -/
def State.countersResume (s : State) : State :=
  s.keyWait.foldl (fun s e => s.commitCounter e.1 e.2) { s with keyWait := [] }

/-- The key a slot holds, or none. -/
def State.keyOf (s : State) (k : Nat) : Option (List Byte) :=
  let v := s.keySlot k
  if v.key = [] then none else some v.key

/-- PLEN of each command code (R398); none where the code names no command. -/
def cmdPlen (code : Nat) : Option Nat :=
  match code with
  | 0x01 => some 4 | 0x02 => some 4 | 0x03 => some 36 | 0x04 => some 4 | 0x05 => some 0
  | 0x06 => some 4 | 0x07 => some 12 | 0x08 => some 44 | 0x09 => some 4 | 0x0A => some 4
  | _ => none

/-- Commands of pair scope (R398); the others name one module. -/
def cmdPairScope (code : Nat) : Bool :=
  code = 0x01 || code = 0x02 || code = 0x03 || code = 0x05 || code = 0x0A

/-- Are the reserved bytes of a command's parameters 0 (R398)? -/
def cmdReservedOk (code : Nat) (p : List Byte) : Bool :=
  match code with
  | 0x01 => bits (byteAt p 0) 7 4 = 0 && leAt p 1 3 = 0
  | 0x02 => leAt p 1 3 = 0
  | 0x03 => byteAt p 1 = 0 && leAt p 6 2 = 0 && (byteAt p 0 != 1 || leAt p 28 4 = 0)
  | 0x04 => leAt p 1 3 = 0
  | 0x07 => leAt p 1 3 = 0
  | 0x08 => byteAt p 1 = 0
  | 0x0A => leAt p 2 2 = 0
  | _ => true

/-- The bytes of a command message before its tag (R397). -/
def cmdBody (code : Nat) (h : CmdHead) (params : List Byte) : List Byte :=
  [0x01, BitVec.ofNat 8 code] ++ leBytes 2 params.length ++ [h.slot] ++ zeros 3 ++ leBytes 8 h.target.toNat ++
  leBytes 8 h.counter.toNat ++ params

/-- A command message whole. -/
def cmdMessage (code : Nat) (h : CmdHead) (params : List Byte) : List Byte := cmdBody code h params ++ h.tag

/-- Is the message's form right (the first check of R399)? -/
def cmdFormOk (m : List Byte) : Bool :=
  match cmdPlen (byteAt m 1) with
  | none => false
  | some n =>
    byteAt m 0 = 0x01 && leAt m 2 2 = n && byteAt m 4 ≤ 7 && leAt m 5 3 = 0 && m.length = 40 + n &&
    cmdReservedOk (byteAt m 1) (slice m 0x18 n)

/-- The parameters of a well-formed message. -/
def cmdParams (m : List Byte) : List Byte := slice m 0x18 (leAt m 2 2)

def cmdPathCode : CmdPath → Nat
  | .ring _ => 0 | .mailbox => 1 | .net (.udp ..) => 2 | .net (.canxl _) => 3

/-- The COMMAND record of a rejection or refusal (R404). -/
def State.commandRecord (s : State) (path : CmdPath) (m : List Byte) (status : Nat) : State :=
  s.record .auth 0x15 ([1, BitVec.ofNat 8 (cmdPathCode path), BitVec.ofNat 8 (byteAt m 1), BitVec.ofNat 8 (byteAt m 4)]
    ++ leBytes 2 status ++ zeros 2 ++ leBytes 8 (leAt m 0x10 8) ++ leBytes 8 (leAt m 0x08 8))

/-- A judged command waits for the release of its completion record (R403). -/
def State.addCompletion (s : State) (path : CmdPath) (m : List Byte) (mseq status effect : Nat) (decided : Bool) :
    State :=
  { s with completions := s.completions ++
      [{ mseq := mseq, path := path, code := byteAt m 1, slot := byteAt m 4, counter := leAt m 0x10 8,
         status := status, effect := effect, judged := s.mt, decided := decided }] }

/-- A rejection or a refusal at judgement (R399, R404). -/
def State.cmdReject (s : State) (path : CmdPath) (m : List Byte) (status : Nat) : State :=
  ((s.inc .auth R.AUTH.REJECTS).flag .auth 9).commandRecord path m status |>.addCompletion path m 0 status 0 true

/-- The wrapped key of a KEY_LOAD, unwrapped under the authorising slot (R406). -/
def keyLoadUnwrap (s : State) (slot : Nat) (p : List Byte) : Option (List Byte) :=
  kwUnwrap (hmac256 (s.keySlot slot).key ([0x56, 0x52, 0x4C, 0x2D, 0x4B, 0x57])) (slice p 4 40)

/-- The judgement-time check of KEY_LOAD fails (R406). -/
def keyLoadRefused (s : State) (slot : Nat) (p : List Byte) : Bool :=
  let target := byteAt p 0
  target = 0 || 8 < target || (target = 8 && leAt p 2 2 != 0) ||
  (match keyLoadUnwrap s slot p with
   | none => true
   | some k => target = 8 && slice k 16 16 != zeros 16)

/-- The judgement of a command message (R399), in the order of its checks; `refuse` is the judgement-time check of the
effect chapter. A consumed counter is committed to the MRAM before anything else happens (R400). -/
def State.judge (s : State) (refuse : State → List Byte → Bool) (path : CmdPath) (m : List Byte) : State :=
  if !cmdFormOk m then s.cmdReject path m 0x0104
  else
    let code := byteAt m 1
    let slot := byteAt m 4
    let pair := cmdPairScope code
    let k := s.keySlot slot
    if leAt m 8 8 != (if pair then s.pairId else Config.modId.toNat) then s.cmdReject path m 0x0102
    else if k.key = [] || !k.perm.testBit code then s.cmdReject path m 0x0106
    else if (hmac256 k.key (m.take (m.length - 16))).take 16 != m.drop (m.length - 16) then
      s.cmdReject path m 0x0100
    else if leAt m 0x10 8 ≤ s.lastCounter slot then s.cmdReject path m 0x0101
    else if s.sys.pfwLow then s.cmdReject path m 0x0107
    else
      let s := s.commitCounter slot (leAt m 0x10 8)
      let item := [BitVec.ofNat 8 (cmdPathCode path), 0, 0, 0] ++ m
      if pair && !s.acceptsEvents then s.cmdReject path m 0x0103
      else if refuse s m then
        let s := if code = 0x03 then (s.inc .prot R.PROT.LIMREJ).flag .prot 12 else s
        (if pair then s.mirrorItem 0x0002 0 item else s).cmdReject path m 0x0105
      else if s.acceptsEvents then
        let s := s.acceptEvent 0x0002 item
        s.addCompletion path m s.tdm.mseqOut 0 (s.tick + 2) false
      else (s.acceptLocal 0x0002 item).addCompletion path m 0 0 (s.tick + 2) false

/-- The commands taken from submit ring `n` whose completion is still to come. -/
def State.inFlight (s : State) (n : Nat) : Nat :=
  (s.completions.filter (fun c => !c.gone && (match c.path with | .ring k => k.val = n | _ => false))).length

/-- Can a command message arrive by this path (R402)? From a ring, the next descriptor there must hold it, with LEN
equal to its length, and its completion ring must have a buffer (R46); the mailbox must not be busy; a network message
is a command only while AUTH is RUNNING and its port's bit is set. -/
def State.pathOpen (s : State) (path : CmdPath) (m : List Byte) : Bool :=
  match path with
  | .ring n =>
    s.ringServed n && s.ringServed (n + 4) &&
    ((s.ring n).descs[s.inFlight n]?).any (fun d => descFault d = 0 && d.len = m.length && d.data = m) &&
    s.inFlight n < (s.ring (n + 4)).descs.length
  | .mailbox => !s.rdb .auth R.AUTH.MBOX_STAT 0
  | .net (.udp p _ _ _) => s.running .auth && (s.rdf .auth R.AUTH.CFG 3 0).testBit p.val
  | .net (.canxl c) => s.running .auth && (s.rdf .auth R.AUTH.CFG 7 4).testBit c.val

/-- A command message arrives by a path and is judged. A module in RESET, BOOT, OUT or THERMAL_SHUTDOWN accepts none
(R400); a mailbox write while BUSY is discarded and counted (R402). -/
def State.command (s : State) (refuse : State → List Byte → Bool) (path : CmdPath) (m : List Byte) : State :=
  if !s.mode.speaks then s
  else if !s.pathOpen path m then
    (if path = .mailbox then s.inc .auth R.AUTH.MBOXREJ else s)
  else
    let s := if path = .mailbox then (s.wrb .auth R.AUTH.MBOX_STAT 0 true).wrb .auth R.AUTH.MBOX_STAT 1 false else s
    s.judge refuse path m

/-- The 32-byte completion record (R403). -/
def Completion.record (c : Completion) : List Byte :=
  [BitVec.ofNat 8 c.code, BitVec.ofNat 8 c.slot] ++ leBytes 2 c.status ++ zeros 4 ++ leBytes 8 c.counter ++
  leBytes 8 c.effect ++ leBytes 8 c.judged

/-- May the record be released (R403)? A rejected or refused command's at once; an accepted one's when its effect tick
has begun, its status is decided and the input is acknowledged under R283. -/
def State.releasable (s : State) (c : Completion) : Bool :=
  c.decided && (c.effect = 0 || (c.effect ≤ s.tick &&
    (c.mseq = 0 || c.mseq ≤ s.tdm.peer.ackseq || !s.tandemed || s.tdm.silent || !s.tdm.peer.heard)))

/-- The words 0 to 7 of the mailbox take the completion record. -/
def mboxWords (s : State) (l : List Byte) : State :=
  (List.range 8).foldl (fun s w => s.wrn .auth (R.AUTH.MBOX_DATA w) (leAt l (4 * w) 4)) s

/-- A completion record goes to the path its command came from (R403). -/
def State.releaseTo (s : State) (c : Completion) : State :=
  let r := c.record
  match c.path with
  | .ring n => if c.gone then s else (s.ringPush (n + 4) 0 r).ringComplete n 0 0 0 []
  | .mailbox =>
    let s := mboxWords s r
    s.wrn .auth R.AUTH.MBOX_STAT (c.status * 65536 + 2)
  | .net _ =>
    match (if c.slot ≤ 7 then s.keyOf c.slot else none) with
    | some k => s.sendNet (.completion c.path (r ++ (hmac256 k r).take 16))
    | none => s

/-- COMPLETION_RECORD_RELEASE (R403): the oldest record that may go is released. -/
def execCompletionRecordRelease (dt : Nat) (s : State) : Host.Outcome State Fault Refusal :=
  let s := s.elapse dt
  match s.completions.find? s.releasable with
  | some c => .next ({ s with completions := s.completions.erase c }.releaseTo c)
  | none => .next s

/-- An accepted KEY_LOAD takes effect (R406): the slot takes the key and the mask and keeps its counter; a result of all
zeros empties it. -/
def State.applyKeyLoad (s : State) (slot : Nat) (m : List Byte) : State :=
  let p := cmdParams m
  match keyLoadUnwrap s slot p with
  | none => s
  | some k =>
    let t := byteAt p 0
    let v := s.keySlot t
    let key := if t = 8 then k.take 16 else k
    let s := if k = zeros 32 then s.setKeySlot t { v with key := [], perm := 0 }
      else s.setKeySlot t { v with key := key, perm := leAt p 2 2 }
    let s := s.record .auth 0x04 ([2, BitVec.ofNat 8 t] ++ leBytes 2 (leAt p 2 2) ++ [BitVec.ofNat 8 slot, 0, 0, 0] ++
      leBytes 8 (leAt m 0x10 8))
    s.flag .auth 10

end Sys2Proof.Machine
end

