-- ==== Sys2Proof/Machine/Coder.lean ====
section
/-! DEFINITION. The Waybill's coding of streams (R315 to R317). -/

namespace Sys2Proof.Machine

open Sys2Proof

/-- The `k` low bits of a number, least significant first. -/
def lowBits (k n : Nat) : List Bool := (List.range k).map n.testBit

/-- A residual mapped to a natural number (R315). -/
def zigzag (r : Int) : Nat := if 0 ≤ r then 2 * r.natAbs else 2 * r.natAbs - 1

/-- One value under parameter k (R316). -/
def riceBits (k u : Nat) : List Bool :=
  if u / 2 ^ k < 16 then List.replicate (u / 2 ^ k) true ++ [false] ++ lowBits k u
  else List.replicate 16 true ++ lowBits 32 u

/-- A block under parameter k: k = 31 holds every value raw. Values are pairs of mapped residual and raw content. -/
def blockBits (width k : Nat) (b : List (Nat × Nat)) : List Bool :=
  lowBits 5 k ++ b.flatMap (fun x => if k = 31 then lowBits width x.2 else riceBits k x.1)

/-- The parameter of the shortest block, the lowest on ties (R316). -/
def bestK (width : Nat) (b : List (Nat × Nat)) : Nat :=
  (List.range 32).foldl (fun m k => if (blockBits width k b).length < (blockBits width m b).length then k else m) 0

/-- Escape values and raw blocks of a block. -/
def blockEscapes (k : Nat) (b : List (Nat × Nat)) : Nat :=
  if k = 31 then 1 else (b.filter (fun x => 16 ≤ x.1 / 2 ^ k)).length

/-- Values cut into blocks of 64, in at most `n` blocks. -/
def cut64 {α : Type} : Nat → List α → List (List α)
  | 0, _ => []
  | _, [] => []
  | n + 1, l => l.take 64 :: cut64 n (l.drop 64)

/-- Bits packed into bytes, bit 0 first, padded with zeros. -/
def packBits : Nat → List Bool → List Byte
  | 0, _ => []
  | _, [] => []
  | n + 1, l => BitVec.ofNat 8 (bitsOf (fun i => l.getD i false) 8) :: packBits n (l.drop 8)

/-- A coded stream and its count of escapes and raw blocks. -/
def codeStream (width : Nat) (v : List (Nat × Nat)) : List Byte × Nat :=
  let blocks := cut64 (v.length / 64 + 1) v
  let ks := blocks.map (fun b => (bestK width b, b))
  let bs := ks.flatMap (fun x => blockBits width x.1 x.2)
  (packBits (bs.length / 8 + 1) bs, (ks.map (fun x => blockEscapes x.1 x.2)).foldl (· + ·) 0)

/-- A stream coded with a prediction of 0 (BAL and PLAN). -/
def codePlain (v : List Int) : List Byte × Nat := codeStream 32 (v.map (fun x => (zigzag x, unsign 32 x)))

def Hist.pred (h : Hist) : Int := if h.c = 0 then 0 else if h.c = 1 then h.h1 else 2 * h.h1 - h.h2
def Hist.push (h : Hist) (x : Int) : Hist := { c := h.c + 1, h1 := x, h2 := h.h1 }

/-- One value of width `w` coded under the history, with E = 0 for lossless coding (R315, R317): mapped residual, raw
content, and the history after it. -/
def codeValue (w e : Nat) (signedField : Bool) (h : Hist) (x : Int) : (Nat × Nat) × Hist :=
  let r := x - h.pred
  if e = 0 then ((zigzag r, unsign w x), h.push x)
  else
    let q : Int := (if r < 0 then -1 else 1) * ((r.natAbs + e) / (2 * e + 1) : Nat)
    let lo : Int := if signedField then -(2 ^ (w - 1) : Nat) else 0
    let hi : Int := if signedField then (2 ^ (w - 1) : Nat) - 1 else (2 ^ w : Nat) - 1
    let x' := clampI lo hi (h.pred + q * (2 * e + 1 : Nat))
    ((zigzag q, unsign w x'), h.push x')

end Sys2Proof.Machine
end

