-- ==== Sys2Proof/Machine/Numeric.lean ====
section
/-! DEFINITION. The lanes' arithmetic: write-backs that round and saturate, square roots and divisions, vectors and
matrices (R129, R130, R138). -/

namespace Sys2Proof.Machine

open Sys2Proof

/-- What a computation leaves behind: its saturated write-backs (R130), and whether a table's range clamped a surface
stoichiometry or SOC (R141). -/
structure Marks where
  sats : Nat := 0
  clamp : Bool := false
  deriving DecidableEq, Repr

/-- A computation on the lanes, with its marks, and its value alone. -/
abbrev Sat := StateM Marks
def valueOf {α : Type} (x : Sat α) : α := (x.run {}).1

/-- One write-back more that saturated; a clamp. -/
def marked (sat clamp : Bool) : Sat Unit :=
  modify (fun m => { sats := m.sats + if sat then 1 else 0, clamp := m.clamp || clamp })

/-- A write-back to a signed format of `w` bits with `n` fraction bits: nearest, ties away from zero, saturating. -/
def wb (n w : Nat) (q : Rat) : Sat Rat := do
  let r := roundAway (q * ((2 ^ n : Nat) : Rat))
  let c := satS w r
  marked (c != r) false
  pure (qv n c)

/-- A write-back to an unsigned format. -/
def wbu (n w : Nat) (q : Rat) : Sat Rat := do
  let r := roundAway (q * ((2 ^ n : Nat) : Rat))
  let c := clampI 0 ((2 ^ w : Nat) - 1) r
  marked (c != r) false
  pure (qv n c)

/-- The content a value holds in a format of `n` fraction bits. -/
def contentOf (n : Nat) (q : Rat) : Int := (q * ((2 ^ n : Nat) : Rat)).floor

/-- The formats of R129. -/
def wbMean : Rat → Sat Rat := wb 62 64
def wbRoot : Rat → Sat Rat := wb 30 32
def wbVolt : Rat → Sat Rat := wb 28 32
def wbProb : Rat → Sat Rat := wbu 31 32
def wbLog : Rat → Sat Rat := wb 16 32
def wbTemp : Rat → Sat Rat := wb 22 32
def wbAmps : Rat → Sat Rat := wb 32 64

/-- The integer square root, by bits from `k` down. -/
def isqrtFrom (q : Nat) : Nat → Nat → Nat
  | 0, r => r
  | k + 1, r => if (r + 2 ^ k) * (r + 2 ^ k) ≤ q then isqrtFrom q k (r + 2 ^ k) else isqrtFrom q k r

/-- The greatest r with r² ≤ q. -/
def isqrt (q : Nat) : Nat := isqrtFrom q (q.log2 / 2 + 1) 0

/-- One LSB of error at most, in units of 2⁻ⁿ (R138). -/
def lsbOf (n : Nat) (q : Rat) : Rat := qv n (clampI (-1) 1 (Config.lsbErr q))

/-- A square root correct to 1 LSB of `n` fraction bits. -/
def sqrtR (n : Nat) (q : Rat) : Rat :=
  if q < 0 then Config.rootOther q else qv n (isqrt (contentOf (2 * n) q).toNat) + lsbOf n q

/-- A division correct to 1 LSB of `n` fraction bits. -/
def divR (n : Nat) (a b : Rat) : Rat :=
  if b = 0 then Config.divByZero a else qv n (roundAway (a / b * ((2 ^ n : Nat) : Rat))) + lsbOf n (a / b)

/-- An exact quotient. -/
def quo (a b : Rat) : Rat := if b = 0 then Config.divByZero a else a / b

/-- Vectors. -/
def dot (a b : List Rat) : Rat := (List.zipWith (· * ·) a b).foldl (· + ·) 0
def vadd (a b : List Rat) : List Rat := List.zipWith (· + ·) a b
def vsub (a b : List Rat) : List Rat := List.zipWith (· - ·) a b
def vscale (k : Rat) (a : List Rat) : List Rat := a.map (k * ·)
def vsum (n : Nat) (l : List (List Rat)) : List Rat := l.foldl vadd (List.replicate n 0)
def rsum (l : List Rat) : Rat := l.foldl (· + ·) 0

/-- Matrices by rows. -/
def matVec (m : List (List Rat)) (v : List Rat) : List Rat := m.map (dot · v)
def column (m : List (List Rat)) (k : Nat) : List Rat := m.map (·.getD k 0)

/-! ### The lanes' products and sums (R129), and roots -/

/-- A lane product, Q4.60 in 64 bits, and a dot product summed in Q20.60 over 80 bits. -/
def lmul (a b : Rat) : Sat Rat := wb 60 64 (a * b)
def ldot (a b : List Rat) : Sat Rat := do wb 60 80 (rsum (← (List.zip a b).mapM (fun x => lmul x.1 x.2)))

/-- A sum of scaled vectors of `n` entries, and a scaled column in the roots' format. -/
def lsum (n : Nat) (ks : List Rat) (vs : List (List Rat)) : Sat (List Rat) :=
  (List.range n).mapM (fun i => ldot ks (vs.map (·.getD i 0)))
def lscale (k : Rat) (v : List Rat) : Sat (List Rat) := v.mapM (fun x => do wbRoot (← lmul k x))

/-- The Gram matrix of a list of columns of `n` entries: Σ c cᵀ. -/
def gram (n : Nat) (cols : List (List Rat)) : Sat (List (List Rat)) :=
  let row := fun (i : Nat) => cols.map (·.getD i 0)
  (List.range n).mapM (fun i => (List.range n).mapM (fun j => ldot (row i) (row j)))

/-- One row of a Cholesky factor under the rows before it; the flag says that its diagonal element is positive. -/
def cholRow (rows : List (List Rat)) (g : List Rat) : Sat (List Rat × Bool) := do
  let off ← rows.foldlM (fun row lj => do
    let j := row.length
    let v ← wbRoot (divR 30 (g.getD j 0 - (← ldot row lj)) (lj.getD j 0))
    pure (row ++ [v])) []
  let p := g.getD rows.length 0 - (← ldot off off)
  let d ← wbRoot (sqrtR 30 (if p < 0 then 0 else p))
  pure (off ++ [d], decide (0 < p) && decide (0 < d))

/-- The lower-triangular factor L with L Lᵀ = G, in Q2.30, and whether every diagonal element is positive. -/
def chol (g : List (List Rat)) : Sat (List (List Rat) × Bool) :=
  g.foldlM (fun (x : List (List Rat) × Bool) row => do
    let (r, ok) ← cholRow x.1 row
    pure (x.1 ++ [r], x.2 && ok)) ([], true)

/-- qr_r of R132: the triangular root of the columns side by side. -/
def qrR (n : Nat) (cols : List (List Rat)) : Sat (List (List Rat)) := do
  let (l, _) ← chol (← gram n cols)
  pure l

/-- A lower-triangular root's columns, padded to `n` entries. -/
def rootCols (n : Nat) (s : List (List Rat)) : List (List Rat) := (List.range n).map (column s)

/-- chol_update and chol_downdate of R132; a downdate that would give a diagonal element ≤ 0 fails. -/
def cholUpdate (n : Nat) (s : List (List Rat)) (u : List Rat) : Sat (List (List Rat)) := qrR n (rootCols n s ++ [u])
def cholDowndate (n : Nat) (s : List (List Rat)) (u : List Rat) : Sat (Option (List (List Rat))) := do
  let g ← gram n (rootCols n s)
  let uu ← gram n [u]
  let (l, ok) ← chol (List.zipWith vsub g uu)
  pure (if ok then some l else none)

/-- Forward substitution: y with L y = b. -/
def solveLower (l : List (List Rat)) (b : List Rat) : List Rat :=
  (List.zip l b).foldl (fun y x => y ++ [divR 30 (x.2 - dot x.1 y) (x.1.getD y.length 0)]) []

/-- Back substitution: y with Lᵀ y = b, for L of `n` rows. -/
def solveUpperT (n : Nat) (l : List (List Rat)) (b : List Rat) : List Rat :=
  (List.range n).reverse.foldl (fun y i =>
    divR 30 (b.getD i 0 - rsum (List.zipWith (· * ·) ((l.drop (i + 1)).map (·.getD i 0)) y))
      ((l.getD i []).getD i 0) :: y) []

/-! ### LU with partial pivoting (R171) -/

/-- The row of greatest magnitude in its first entry, moved to the front. -/
def pivotFirst (rows : List (List Rat)) : List (List Rat) :=
  let mag := fun (r : List Rat) => let x := r.headD 0; if x < 0 then -x else x
  let best := rows.foldl (fun m r => if m < mag r then mag r else m) 0
  match rows.findIdx? (fun r => mag r = best) with
  | some k => (rows.getD k []) :: rows.eraseIdx k
  | none => rows

/-- Gaussian elimination of `n` augmented rows; the solution, first unknown first. -/
def luSolve : Nat → List (List Rat) → List Rat
  | 0, _ => []
  | n + 1, rows =>
    match pivotFirst rows with
    | [] => []
    | p :: rest =>
      let a := p.headD 0
      let rest := rest.map (fun r => (List.zipWith (fun x y => x - (if a = 0 then 0 else r.headD 0 / a) * y) r p).drop 1)
      let y := luSolve n rest
      let b := p.getLastD 0
      (if a = 0 then Config.divByZero b else (b - dot (p.drop 1) y) / a) :: y

/-- x with (1 − h A) x = b. -/
def backwardEuler (h : Rat) (a : List (List Rat)) (b : List Rat) : List Rat :=
  let rows := (List.range a.length).map (fun i =>
    (List.range a.length).map (fun j => (if i = j then 1 else 0) - h * (a.getD i []).getD j 0) ++ [b.getD i 0])
  luSolve a.length rows

end Sys2Proof.Machine
end

