-- ==== Sys2Proof/Machine/Approx.lean ====
section
/-! DEFINITION. The lanes' approximations of exp, asinh and ln: the methods of R138, with the tables left free inside
its bounds (log entry 7). -/

namespace Sys2Proof.Machine

open Sys2Proof

/-! ### Reference values, to far more bits than the bounds ask for -/

/-- A value cut to 2⁻¹²⁰. -/
def cut (q : Rat) : Rat := qv 120 (contentOf 120 q)

/-- The sum of the first `k` terms of a series whose term follows from the one before by `f`. -/
def seriesSum (f : Nat → Rat → Rat) (k : Nat) (first : Rat) : Rat :=
  ((List.range k).foldl (fun (a : Rat × Rat) i => (cut (f i a.1), a.2 + a.1)) (first, 0)).2

/-- 2 artanh z for |z| ≤ 1/3: Σ 2 z^(2k+1) / (2k+1). -/
def artanh2 (z : Rat) : Rat :=
  ((List.range 40).foldl (fun (a : Rat × Rat) k => (cut (a.1 * z * z), a.2 + 2 * a.1 / ((2 * k + 1 : Nat) : Rat))) (z, 0)).2

/-- ln of a value in [1, 2]. -/
def lnUnit (m : Rat) : Rat := artanh2 (cut ((m - 1) / (m + 1)))
def ln2 : Rat := lnUnit 2

def pow2 (e : Int) : Rat := if 0 ≤ e then ((2 ^ e.toNat : Nat) : Rat) else 1 / ((2 ^ (-e).toNat : Nat) : Rat)

/-- The exponent of a positive value: 2^e ≤ x < 2^(e+1). -/
def exponent (x : Rat) : Int :=
  let e : Int := (x.num.natAbs.log2 : Int) - x.den.log2
  if pow2 e ≤ x then e else e - 1

/-- 2^r for r in [0, 1). -/
def exp2Unit (r : Rat) : Rat := seriesSum (fun k t => t * r * ln2 / ((k + 1 : Nat) : Rat)) 40 1

/-- ln of a positive value. -/
def lnRef (x : Rat) : Rat := (exponent x : Rat) * ln2 + lnUnit (cut (x / pow2 (exponent x)))

/-- arsinh of a value that is not negative; near 0 by its series. -/
def asinhRef (x : Rat) : Rat :=
  if x * ((2 ^ 30 : Nat) : Rat) < 1 then x - x * x * x / 6
  else lnRef (x + qv 120 (isqrt (contentOf 240 (x * x + 1)).toNat))

/-! ### The approximations -/

/-- A segment's quadratic at t, held to the bounds. -/
def quadratic (coef : Nat → Nat → Rat) (seg : Nat) (t lo hi : Rat) : Rat :=
  let v := coef seg 0 + coef seg 1 * t + coef seg 2 * t * t
  if v < lo then lo else if hi < v then hi else v

/-- exp: range reduction by 2^k, then 64 segments; relative error ≤ 2⁻²². -/
def expA (x : Rat) : Rat :=
  let y := cut (x / ln2)
  let k := y.floor
  let r := y - k
  let seg := (r * 64).floor.toNat
  let e := exp2Unit r
  pow2 k * quadratic Config.expCoef seg (r * 64 - (seg : Rat)) (e - e / ((2 ^ 22 : Nat) : Rat)) (e + e / ((2 ^ 22 : Nat) : Rat))

/-- ln: exponent extraction, then 64 segments on [1, 2); absolute error ≤ 2⁻²². The spec gives no result for an
argument that is not positive. -/
def lnA (x : Rat) : Rat :=
  if x ≤ 0 then Config.lnOther x
  else
    let e := exponent x
    let m := x / pow2 e
    let seg := ((m - 1) * 64).floor.toNat
    let b : Rat := 1 / ((2 ^ 22 : Nat) : Rat)
    let c := (e : Rat) * ln2
    let v := lnRef x
    c + quadratic Config.lnCoef seg ((m - 1) * 64 - (seg : Rat)) (v - c - b) (v - c + b)

/-- asinh: 64 segments on a log-spaced grid of the argument; relative error ≤ 2⁻²⁰. -/
def asinhA (x : Rat) : Rat :=
  let a := if x < 0 then -x else x
  let edge := fun (k : Nat) => (List.replicate k Config.asinhRatio).foldl (· * ·) Config.asinhFirst
  let seg := ((List.range 63).filter (fun k => edge k ≤ a)).length
  let e := asinhRef a
  let v := quadratic Config.asinhCoef seg a (e - e / ((2 ^ 20 : Nat) : Rat)) (e + e / ((2 ^ 20 : Nat) : Rat))
  if x < 0 then -v else v

end Sys2Proof.Machine
end

