-- ==== Sys2Proof/Machine/CellModel.lean ====
section
/-! DEFINITION. Parameter sets and the two cell models, E40 and C12 (R122 to R128, R138, R140, R141). -/

namespace Sys2Proof.Machine

open Sys2Proof

/-- A parameter set (R140, R141), its contents as values in SI units but where R123 names another. -/
structure PSet where
  format : Nat
  model : Nat
  hyp : Nat
  nSub : Nat
  qName : Nat
  rName : Nat
  tRef : Rat
  muFloor : Rat
  nVerP : Nat
  nVerN : Nat
  pi : List (List Rat)
  base : List Rat
  scale : List Rat
  x0 : List Rat
  s0 : List Rat
  sq : List (List Rat)
  sr : List Rat
  /-- KIN entries as stored. -/
  kin : List Nat
  lshN : List (List Rat)
  lshP : List (List Rat)
  wshN : List Rat
  wshP : List Rat
  elyM : List (List Rat)
  elyV : List Rat
  dudtN : List Rat
  dudtP : List Rat
  ocvP : List (Rat × Rat)
  ocvN : List (Rat × Rat)
  verP : List (Rat × Rat)
  verN : List (Rat × Rat)
  deriving DecidableEq, Repr

namespace PSet

/-- KIN entry k as unsigned or signed content of `n` fraction bits. -/
def ku (p : PSet) (n k : Nat) : Rat := qv n (p.kin.getD k 0 : Nat)
def ks (p : PSet) (n k : Nat) : Rat := qv n (signed 32 (p.kin.getD k 0))

def isC12 (p : PSet) : Bool := p.model = 1
/-- The states a set's model carries (R123, R128). -/
def dim (p : PSet) : Nat := if p.isC12 then 12 else 40

def thN0 (p : PSet) : Rat := p.ku 31 0
def thN100 (p : PSet) : Rat := p.ku 31 1
def thP0 (p : PSet) : Rat := p.ku 31 2
def thP100 (p : PSet) : Rat := p.ku 31 3
/-- Electrode capacities at nameplate in C. -/
def qnSet (p : PSet) : Rat := p.ku 0 4 / 1000
def qpSet (p : PSet) : Rat := p.ku 0 5 / 1000
def rOhmRef (p : PSet) : Rat := p.ks 16 14 / 1000000
def er (p : PSet) : Rat := p.ks 8 15
def cC (p : PSet) : Rat := p.ks 16 18
def cS (p : PSet) : Rat := p.ks 16 19
def rCs (p : PSet) : Rat := p.ks 16 20
def gamH (p : PSet) : Rat := p.ks 16 21
/-- µV. -/
def hMax (p : PSet) : Rat := p.ks 16 22
/-- S. -/
def gSc (p : PSet) : Rat := p.ku 16 28 / 1000
def thPlo (p : PSet) : Rat := p.ku 31 30
def thPhi (p : PSet) : Rat := p.ku 31 31
def thNlo (p : PSet) : Rat := p.ku 31 32
def thNhi (p : PSet) : Rat := p.ku 31 33

end PSet

/-- A set read from its bytes; `b o k` is the little-endian number of `k` bytes at offset `o`. -/
def parsePSet (b : Nat → Nat → Nat) : PSet :=
  let s32 := fun (n o : Nat) => qv n (signed 32 (b o 4))
  let u32 := fun (n o : Nat) => qv n (b o 4 : Nat)
  let vec := fun (n o k : Nat) => (List.range k).map (fun i => s32 n (o + 4 * i))
  let uvec := fun (n o k : Nat) => (List.range k).map (fun i => u32 n (o + 4 * i))
  let mat := fun (n o r c : Nat) => (List.range r).map (fun i => vec n (o + 4 * c * i) c)
  let knots := fun (o : Nat) => (List.range 256).map (fun i => (u32 28 (o + 8 * i), s32 24 (o + 8 * i + 4)))
  let ver := fun (o k : Nat) => (List.range k).map (fun i => (u32 31 (o + 8 * i), u32 28 (o + 8 * i + 4)))
  let nP := b 0x38 2
  let nN := b 0x3A 2
  { format := b 0 4, model := b 4 4, hyp := bits (b 8 4) 3 0, nSub := b 12 4, qName := b 0x28 4, rName := b 0x2C 4,
    tRef := s32 6 0x30, muFloor := u32 31 0x34, nVerP := nP, nVerN := nN,
    pi := (List.range 4).map (fun i => uvec 31 (0x40 + 16 * i) 4),
    base := vec 16 0x80 40, scale := vec 16 0x120 40, x0 := vec 30 0x1C0 40, s0 := vec 30 0x260 40,
    sq := mat 30 0x300 4 40, sr := vec 16 0x580 3, kin := (List.range 64).map (fun i => b (0x600 + 4 * i) 4),
    lshN := mat 30 0x800 16 16, lshP := mat 30 0xC00 16 16, wshN := uvec 31 0x1000 16, wshP := uvec 31 0x1040 16,
    elyM := mat 24 0x1080 4 4, elyV := vec 24 0x10C0 4, dudtN := vec 24 0x1100 32, dudtP := vec 24 0x1180 32,
    ocvP := knots 0x1200, ocvN := knots 0x1A00, verP := ver 0x2200 (min nP 1024), verN := ver 0x4200 (min nN 1024) }

/-! ### Tables (R138) -/

/-- A value clamped to a range; a clamp is marked (R141). -/
def clampR (lo hi x : Rat) : Sat Rat := do
  marked false (decide (x < lo) || decide (hi < x))
  pure (if x < lo then lo else if hi < x then hi else x)

/-- The knot interval of x on a table of `k` intervals over lo to hi: index, position within it, and its width. -/
def knotAt (k : Nat) (lo hi x : Rat) : Nat × Rat × Rat :=
  if hi ≤ lo then (0, 0, 0)
  else
    let t := (x - lo) / (hi - lo) * k
    let i := min t.floor.toNat (k - 1)
    (i, t - i, (hi - lo) / k)

/-- The cubic Hermite interpolant on 256 uniform knots (R138), in Q4.28 V. -/
def hermite (tab : List (Rat × Rat)) (lo hi x : Rat) : Sat Rat :=
  let (i, f, w) := knotAt 255 lo hi x
  let (a, da) := tab.getD i (0, 0)
  let (b, db) := tab.getD (i + 1) (0, 0)
  let v := (1 + 2 * f) * (1 - f) * (1 - f) * a + f * (1 - f) * (1 - f) * w * da + f * f * (3 - 2 * f) * b +
    f * f * (f - 1) * w * db
  wbVolt v

/-- Linear interpolation on 32 points. -/
def linear32 (tab : List Rat) (lo hi x : Rat) : Rat :=
  let (i, f, _) := knotAt 31 lo hi x
  tab.getD i 0 + f * (tab.getD (i + 1) 0 - tab.getD i 0)

namespace PSet

/-- U_p, U_n and the full-cell U of a C12 set. -/
def uP (p : PSet) (th : Rat) : Sat Rat := do hermite p.ocvP p.thPlo p.thPhi (← clampR p.thPlo p.thPhi th)
def uN (p : PSet) (th : Rat) : Sat Rat := do hermite p.ocvN p.thNlo p.thNhi (← clampR p.thNlo p.thNhi th)
def uC (p : PSet) (s : Rat) : Sat Rat := do hermite p.ocvP 0 1 (← clampR 0 1 s)

/-- The full-cell OCV at a SOC (R173). -/
def ocv (p : PSet) (s : Rat) : Rat :=
  if p.isC12 then valueOf (p.uC s)
  else valueOf (p.uP (p.thP0 + s * (p.thP100 - p.thP0))) - valueOf (p.uN (p.thN0 + s * (p.thN100 - p.thN0)))

/-- du_dT in V/K at the surface stoichiometries (R124); a C12 set has none (R208). -/
def dudt (p : PSet) (x : List Rat) : Sat Rat := do
  if p.isC12 then pure 0
  else
    let tp ← clampR p.thPlo p.thPhi (x.getD 31 0)
    let tn ← clampR p.thNlo p.thNhi (x.getD 15 0)
    pure ((linear32 p.dudtP p.thPlo p.thPhi tp - linear32 p.dudtN p.thNlo p.thNhi tn) / 1000)

/-- An Arrhenius factor exp(sign e (1/T − 1/T_REF)). -/
def arrh (p : PSet) (e t : Rat) : Rat := expA (e * (quo 1 t - quo 1 p.tRef))

/-- r_ohm(T) in Ω (R125). -/
def rOhm (p : PSet) (t : Rat) : Rat := p.rOhmRef * p.arrh p.er t

end PSet

/-! ### One evaluation -/

/-- What drives a model over a step: the current in A into the cell, the capacity in mAh, the hypothesis, and the thermal
boundary of R124. -/
structure Drive where
  i : Rat
  cap : Rat
  hyp : Nat
  gEnv : Rat
  tEnv : Rat
  pBal : Rat
  deriving DecidableEq, Repr

/-- What one evaluation of the terminal equations gives (R125). -/
structure Terminal where
  v : Rat
  u : Rat
  isc : Rat
  ipl : Rat
  deriving DecidableEq, Repr

/-- F and R_g of R123. -/
def faraday : Rat := 96485332 / 1000
def gasConst : Rat := 8314462 / 1000000

/-- 2 R_g T / F. -/
def thermalV (t : Rat) : Rat := 2 * gasConst * t / faraday

/-- Exchange currents i0_n and i0_p of the physical states (R125). -/
def exchange (p : PSet) (x : List Rat) (neg : Bool) : Rat :=
  let t := x.getD 36 0
  let th := x.getD (if neg then 15 else 31) 0
  let c := x.getD (if neg then 32 else 35) 0
  p.ks 16 (if neg then 10 else 11) * p.arrh (-(p.ks 8 (if neg then 12 else 13))) t *
    sqrtR 30 (quo c (p.ks 16 17) * th * (1 - th))

def asinhTerm (t j i0 : Rat) : Rat := thermalV t * asinhA (divR 30 j (2 * i0))

/-- The terminal equations of E40 with i_sc and i_pl given (R125); the voltages within are Q4.28 (R129). -/
def e40With (p : PSet) (d : Drive) (x : List Rat) (isc ipl : Rat) : Sat Terminal := do
  let t := x.getD 36 0
  let up ← p.uP (x.getD 31 0)
  let un ← p.uN (x.getD 15 0)
  let iEff := d.i - isc
  let etaP ← wbVolt (asinhTerm t iEff (exchange p x false))
  let etaN ← wbVolt (-(asinhTerm t (iEff - ipl) (exchange p x true)))
  let dphi ← wbVolt (thermalV t * (1 - p.ku 31 16) * lnA (divR 30 (x.getD 35 0) (x.getD 32 0)))
  let v ← wbVolt ((up - un) + etaP - etaN + dphi + d.i * (p.rOhm t + x.getD 39 0 / 1000000) + x.getD 38 0 / 1000000)
  let ovr := p.ks 28 24 - (un + etaN)
  pure { v := v, u := up - un, isc := if d.hyp = 3 then p.gSc * v else 0,
         ipl := if d.hyp = 1 then p.ks 16 23 * (if ovr < 0 then 0 else ovr) else 0 }

/-- The terminal equations of C12 (R128). The spec gives no unit of v_1 to v_3 and u_off: they are taken in µV, as h (log
entry 91). -/
def c12With (p : PSet) (d : Drive) (x : List Rat) : Sat Terminal := do
  let u ← p.uC (x.getD 0 0 + x.getD 4 0)
  let rc := (x.getD 1 0 + x.getD 2 0 + x.getD 3 0 + x.getD 7 0 + x.getD 11 0) / 1000000
  let v ← wbVolt (u + rc + d.i * (p.ks 16 34 / 1000000) * x.getD 8 0)
  pure { v := v, u := u, isc := if d.hyp = 3 then p.gSc * v else 0, ipl := 0 }

/-- The implicit currents of R124 and R125, gone round `k` times from 0 (log entry 8). -/
def e40Loop (p : PSet) (d : Drive) (x : List Rat) : Nat → Sat Terminal
  | 0 => e40With p d x 0 0
  | k + 1 => do
    let y ← e40Loop p d x k
    e40With p d x y.isc y.ipl

/-- Terminal voltage and currents of physical states. -/
def terminal (p : PSet) (d : Drive) (x : List Rat) : Sat Terminal :=
  if p.isC12 then c12With p d x else e40Loop p d x Config.loopDepth

/-- Sign of a rational. -/
def sgnR (x : Rat) : Rat := if x < 0 then -1 else if 0 < x then 1 else 0
def absR (x : Rat) : Rat := if x < 0 then -x else x

/-- dh/dt, and the derivatives of T_c and T_s (R124). -/
def dHyst (p : PSet) (d : Drive) (h : Rat) : Rat := p.gamH * absR d.i * (p.hMax * sgnR d.i - h)
def pGen (p : PSet) (d : Drive) (x : List Rat) (y : Terminal) (tc : Rat) : Sat Rat := do
  pure (d.i * (y.v - y.u) + d.i * tc * (← p.dudt x) + y.isc * y.v + d.pBal)
def dTherm (p : PSet) (d : Drive) (x : List Rat) (y : Terminal) (tc ts : Rat) : Sat (List Rat) := do
  let pg ← pGen p d x y tc
  pure [divR 30 (pg - quo (tc - ts) p.rCs) p.cC, divR 30 (quo (tc - ts) p.rCs - d.gEnv * (ts - d.tEnv)) p.cS]

/-- Electrode capacity q_e in C (R124). -/
def electrodeQ (p : PSet) (d : Drive) (neg : Bool) : Rat :=
  let lam := if d.hyp = 2 then p.ku 31 (if neg then 26 else 27) else 0
  (if neg then p.qnSet else p.qpSet) * divR 30 d.cap p.qName * (1 - lam)

/-- Diffusion rate d_e(T) (R124). -/
def diffusion (p : PSet) (t : Rat) (neg : Bool) : Rat :=
  p.ks 16 (if neg then 6 else 7) * p.arrh (-(p.ks 8 (if neg then 8 else 9))) t

/-- The flux that enters the surface shell of an electrode, per s. -/
def surfaceFlux (p : PSet) (d : Drive) (y : Terminal) (neg : Bool) : Rat :=
  let iEff := d.i - y.isc
  let w := (if neg then p.wshN else p.wshP).getD 15 0
  (if neg then 1 else -1) * divR 60 (if neg then iEff - y.ipl else iEff) (w * electrodeQ p d neg)

/-- The time derivative of an electrode's shells. -/
def dShells (p : PSet) (d : Drive) (x : List Rat) (y : Terminal) (neg : Bool) : List Rat :=
  let th := (x.drop (if neg then 0 else 16)).take 16
  let v := vscale (diffusion p (x.getD 36 0) neg) (matVec (if neg then p.lshN else p.lshP) th)
  v.take 15 ++ [v.getD 15 0 + surfaceFlux p d y neg]

/-- The E40 derivative in physical units (R124). -/
def e40Deriv (p : PSet) (d : Drive) (x : List Rat) : Sat (List Rat) := do
  let y ← terminal p d x
  let th ← dTherm p d x y (x.getD 36 0) (x.getD 37 0)
  pure (dShells p d x y true ++ dShells p d x y false ++
    vadd (matVec p.elyM ((x.drop 32).take 4)) (vscale (d.i - y.isc) p.elyV) ++
    th ++ [dHyst p d (x.getD 38 0), p.ks 16 25 * y.ipl])

/-- The C12 derivative (R128). -/
def c12Deriv (p : PSet) (d : Drive) (x : List Rat) : Sat (List Rat) := do
  let y ← terminal p d x
  let th ← dTherm p d x y (x.getD 5 0) (x.getD 6 0)
  let ds := divR 60 (d.i - y.isc) (d.cap * (36 / 10) * x.getD 10 0)
  let dv := fun k => -(divR 30 (x.getD k 0) (p.ks 16 (37 + k))) + divR 30 (d.i * p.ks 16 (34 + k) * x.getD 9 0) (p.ks 16 (37 + k))
  pure ([ds, dv 1, dv 2, dv 3, ds - divR 60 (x.getD 4 0) (p.ks 16 41)] ++ th ++ [dHyst p d (x.getD 7 0), 0, 0, 0, 0])

def deriv (p : PSet) (d : Drive) (x : List Rat) : Sat (List Rat) := if p.isC12 then c12Deriv p d x else e40Deriv p d x

/-- Index of T_c, T_s and h. -/
def PSet.iTc (p : PSet) : Nat := if p.isC12 then 5 else 36
def PSet.iTs (p : PSet) : Nat := if p.isC12 then 6 else 37
def PSet.iH (p : PSet) : Nat := if p.isC12 then 7 else 38

/-- Physical values of normalised states, the temperatures in Q10.22 (R129), and back (R123). -/
def PSet.physM (p : PSet) (x : List Rat) : Sat (List Rat) :=
  (vadd p.base (List.zipWith (· * ·) p.scale x)).zipIdx.mapM (fun (v, k) => if k = p.iTc || k = p.iTs then wbTemp v else pure v)
def PSet.phys (p : PSet) (x : List Rat) : List Rat := valueOf (p.physM x)
def PSet.rate (p : PSet) (x : List Rat) : List Rat := List.zipWith (fun s v => if s = 0 then 0 else v / s) p.scale x
def PSet.norm (p : PSet) (x : List Rat) : List Rat := p.rate (vsub x p.base)

/-- The series resistance r_ohm(T_c) + R_f of E40, or R0 × f_R0 of C12, in Ω. -/
def PSet.rTot (p : PSet) (x : List Rat) (t : Rat) : Rat :=
  if p.isC12 then p.ks 16 34 / 1000000 * x.getD 8 0 else p.rOhm t + x.getD 39 0 / 1000000

/-- The OCV observation's prediction (R153). -/
def PSet.ocvObs (p : PSet) (x : List Rat) : Sat Rat := do
  if p.isC12 then wbVolt ((← p.uC (x.getD 0 0 + x.getD 4 0)) + (x.getD 7 0 + x.getD 11 0) / 1000000)
  else wbVolt ((← p.uP (x.getD 31 0)) - (← p.uN (x.getD 15 0)) + x.getD 38 0 / 1000000)

/-- Filter SOC of a hypothesis (R126), from its physical states. -/
def PSet.socOf (p : PSet) (x : List Rat) : Rat :=
  if p.isC12 then x.getD 0 0 else quo (dot p.wshN x - p.thN0) (p.thN100 - p.thN0)

/-- One Heun sub-step of length h on normalised states (R131), and the terminal voltage at its end. -/
def heun (p : PSet) (d : Drive) (h : Rat) (x : List Rat) : Sat (List Rat × Rat) := do
  let k1 := p.rate (← deriv p d (← p.physM x))
  let k2 := p.rate (← deriv p d (← p.physM (vadd x (vscale h k1))))
  let x' ← (vadd x (vscale (h / 2) (vadd k1 k2))).mapM wbRoot
  let y ← terminal p d (← p.physM x')
  pure (x', y.v)

/-- `k` sub-steps: the state after them, and the sum of their terminal voltages. -/
def heunRun (p : PSet) (d : Drive) (h : Rat) : Nat → List Rat → Sat (List Rat × Rat)
  | 0, x => pure (x, 0)
  | k + 1, x => do
    let (x, v) ← heunRun p d h k x
    let (x, y) ← heun p d h x
    pure (x, v + y)

/-- integrate_j of R132: the mean of v over the ends of the sub-steps. -/
def integrate (p : PSet) (d : Drive) (dt : Rat) (n : Nat) (x : List Rat) : Sat (List Rat × Rat) := do
  let k := p.nSub * n
  let (x, v) ← heunRun p d (dt / k) k x
  let vm ← wbVolt (v / k)
  pure (x, vm)

/-! ### Initial states (R135) -/

/-- Bisection of a rising or falling table of OCV over SOC: 8 halvings reach a knot interval, 20 more lie within it. -/
def bisectSoc (f : Rat → Rat) (target : Rat) (rising : Bool) : Nat → Rat → Rat → Rat
  | 0, lo, _ => lo
  | k + 1, lo, hi =>
    let mid := (lo + hi) / 2
    if decide (f mid ≤ target) = rising then bisectSoc f target rising k mid hi else bisectSoc f target rising k lo mid

/-- The SOC whose OCV is the voltage less the hysteresis and ohmic terms at X0; 0.5 without a voltage (R135). -/
def PSet.initSoc (p : PSet) (v : Option Rat) (i : Rat) : Rat :=
  match v with
  | none => 1 / 2
  | some v =>
    let x := p.phys p.x0
    let target := v - x.getD p.iH 0 / 1000000 - i * p.rTot x (x.getD p.iTc 0)
    let knot := (List.range 255).findIdx (fun k => target < p.ocv (((k + 1 : Nat) : Rat) / 255))
    let lo := min knot 254
    bisectSoc p.ocv target true 20 ((lo : Rat) / 255) (((lo + 1 : Nat) : Rat) / 255)

/-- X0 with the stoichiometries set to a SOC. -/
def PSet.initState (p : PSet) (soc : Rat) : List Rat :=
  let x := p.phys p.x0
  let x := if p.isC12 then soc :: x.drop 1
    else List.replicate 16 (p.thN0 + soc * (p.thN100 - p.thN0)) ++ List.replicate 16 (p.thP0 + soc * (p.thP100 - p.thP0)) ++ x.drop 32
  p.norm x

/-! ### The checks of R142 and R143 -/

/-- The bound on the diffusion step of R142 for one electrode. -/
def shellBound (p : PSet) (lsh : List (List Rat)) : Rat :=
  let rows := lsh.map (fun r => rsum (r.map absR))
  1 / 100 / (p.nSub : Rat) * p.ks 16 29 * rows.foldl max 0

/-- The monotone Hermite condition on a knot pair (R142): slope ratios α, β ≥ 0 and α² + β² ≤ 9. A flat pair has
slopes 0. -/
def knotOk (w : Rat) (a b : Rat × Rat) : Bool :=
  let s := if w = 0 then 0 else (b.1 - a.1) / w
  if s = 0 then a.2 = 0 && b.2 = 0
  else
    let x := a.2 / s
    let y := b.2 / s
    0 ≤ x && 0 ≤ y && x * x + y * y ≤ 9

def knotsOk (lo hi : Rat) (tab : List (Rat × Rat)) : Bool :=
  (List.zip tab (tab.drop 1)).all (fun (a, b) => knotOk ((hi - lo) / 255) a b)

/-- The rows of π restricted to a mask and renormalised in UQ1.31 (R127). -/
def PSet.piFor (p : PSet) (mask : Nat) : List (List Rat) :=
  p.pi.map (fun row =>
    let row := (List.range 4).map (fun j => if mask.testBit j then row.getD j 0 else 0)
    let t := rsum row
    row.map (fun v => divR 31 v t))

/-- The content checks of R142 that need the set alone, and the masks its front-ends use. -/
def PSet.contentOk (p : PSet) (masks : List Nat) : Bool :=
  p.format = 0x101 && p.model ≤ 1 && 1 ≤ p.nSub && p.nSub ≤ 32 && p.nVerP ≤ 1024 && p.nVerN ≤ 1024 &&
  shellBound p p.lshN ≤ 3 / 2 && shellBound p p.lshP ≤ 3 / 2 &&
  (if p.isC12 then knotsOk 0 1 p.ocvP else knotsOk p.thPlo p.thPhi p.ocvP) && knotsOk p.thNlo p.thNhi p.ocvN &&
  masks.all (fun m => (List.range 4).all (fun i =>
    !m.testBit i || absR (rsum ((p.piFor m).getD i []) - 1) ≤ 1 / ((2 ^ 28 : Nat) : Rat)))

/-- The interpolation error against verification points, in µV rounded up (R143). -/
def eocv (u : Rat → Rat) (pts : List (Rat × Rat)) : Nat :=
  if pts = [] then 0xFFFFFFFF
  else ((pts.map (fun x => absR (u x.1 - x.2))).foldl max 0 * 1000000).ceil.toNat

end Sys2Proof.Machine
end

