-- ==== Sys2Proof/Machine/Filter.lean ====
section
/-! DEFINITION. The multi-hypothesis square-root sigma-point filter: mixing, prediction, update, probabilities (R127 to
R134). -/

namespace Sys2Proof.Machine

open Sys2Proof

/-- A hypothesis while it is computed: mean, root by rows, probability. -/
structure HypV where
  x : List Rat
  s : List (List Rat)
  mu : Rat
  deriving DecidableEq, Repr

/-- What an observation compares with: terminal voltage, OCV at an anchor (R153), or the surface temperature (R125). -/
inductive ObsKind where
  | volt | ocv | temp
  deriving DecidableEq, Repr

/-- An observation: its kind, value and noise root. -/
structure Obs where
  kind : ObsKind
  z : Rat
  root : Rat
  deriving DecidableEq, Repr

/-- The inputs of one step that every hypothesis shares (R131): step current, length in s, stages covered, observations,
and the standard deviation in C of a substituted charge (R134). -/
structure StepIn where
  i : Rat
  dt : Rat
  n : Nat
  obs : List Obs
  sigma : Rat
  cap : Rat
  gEnv : Rat
  tEnv : Rat
  pBal : Rat
  deriving DecidableEq, Repr

/-- γ = √40 and the weights, in Q4.28 (R129). -/
def q428 (q : Rat) : Rat := qv 28 (roundAway (q * ((2 ^ 28 : Nat) : Rat)))
def rt428 (q : Rat) : Rat := qv 28 (isqrt (contentOf 56 q).toNat)
def wGamma : Rat := rt428 40
def wMean : Rat := q428 (1 / 80)
def wRoot2 : Rat := rt428 2
def wRootMean : Rat := rt428 (1 / 80)

/-- The prediction of an observation. -/
def predict (p : PSet) (k : ObsKind) (x : List Rat) (vbar : Rat) : Sat Rat := do
  match k with
  | .volt => pure vbar
  | .ocv => p.ocvObs (← p.physM x)
  | .temp => pure ((← p.physM x).getD p.iTs 0)

/-- A mean prediction in the observation's own format (R129). -/
def wbObs (k : ObsKind) : Rat → Sat Rat := match k with
  | .temp => wbTemp
  | _ => wbVolt

/-- Step 1 of R132 for hypothesis j: cbar, and the mixed mean and root. -/
def mix (p : PSet) (pi : List (List Rat)) (mask : List Nat) (hs : List HypV) (j : Nat) :
    Sat (Rat × List Rat × List (List Rat)) := do
  let h := fun i => hs.getD i ⟨[], [], 0⟩
  let pij := fun i => (pi.getD i []).getD j 0
  let cbar ← wbProb (rsum (mask.map (fun i => pij i * (h i).mu)))
  let w ← mask.mapM (fun i => wbProb (divR 31 (pij i * (h i).mu) cbar))
  let xm ← (← lsum p.dim w (mask.map (fun i => (h i).x))).mapM wbMean
  let cols ← (List.zip w mask).mapM (fun (w, i) =>
    (rootCols p.dim (h i).s ++ [vsub (h i).x xm]).mapM (lscale (sqrtR 30 w)))
  let sm ← qrR p.dim cols.flatten
  pure (cbar, xm, sm)

/-- What step 2 of R132 leaves for one hypothesis: mean, root, log-likelihood, whether its downdate failed (R133), and its
voltage prediction. -/
structure HypOut where
  x : List Rat
  s : List (List Rat)
  ll : Rat
  failed : Bool
  vPred : Rat
  deriving DecidableEq, Repr

/-- The 81 sigma points (R132), in Q2.30. -/
def sigmaPoints (p : PSet) (xm : List Rat) (sm : List (List Rat)) : Sat (List (List Rat)) := do
  let cols ← (List.range 40).mapM (fun k => if k < p.dim then (column sm k).mapM (lmul wGamma) else pure [])
  let plus ← cols.mapM (fun c => (if c = [] then xm else vadd xm c).mapM wbRoot)
  let minus ← cols.mapM (fun c => (if c = [] then xm else vsub xm c).mapM wbRoot)
  let zero ← xm.mapM wbRoot
  pure (zero :: plus ++ minus)

/-- The columns √(1/80) (a − b) over the points 1 to 80, and the update column √2 (a₀ − b). -/
def spread (pts : List (List Rat)) (m : List Rat) : Sat (List (List Rat)) :=
  (pts.drop 1).mapM (fun c => lscale wRootMean (vsub c m))
def spread0 (pts : List (List Rat)) (m : List Rat) : Sat (List Rat) := lscale wRoot2 (vsub (pts.headD []) m)

/-- The mean of the points 1 to 80. -/
def meanOf (n : Nat) (pts : List (List Rat)) : Sat (List Rat) := lsum n ((pts.drop 1).map (fun _ => wMean)) (pts.drop 1)

/-- A diagonal as columns. -/
def diagCols (d : List Rat) : List (List Rat) :=
  (List.range d.length).map (fun k => (List.range d.length).map (fun i => if i = k then d.getD k 0 else 0))

/-- The measurement update of R132. -/
def measure (p : PSet) (obs : List Obs) (chi : List (List Rat)) (vbar : List Rat) (xp : List Rat) (sp : List (List Rat)) :
    Sat HypOut := do
  let m := obs.length
  let y ← (List.zip chi vbar).mapM (fun (x, v) => obs.mapM (fun o => predict p o.kind x v))
  let yp ← (List.zip obs (← meanOf m y)).mapM (fun (o, v) => wbObs o.kind v)
  let noise ← obs.mapM (fun o => wbRoot o.root)
  let sy ← qrR m ((← spread y yp) ++ diagCols noise)
  let sy ← cholUpdate m sy (← spread0 y yp)
  let pts := List.zip (chi.map (vsub · xp)) (y.map (vsub · yp))
  let pxy := (List.range p.dim).map (fun r => (List.range m).map (fun c =>
    wMean * rsum ((pts.drop 1).map (fun (a, b) => a.getD r 0 * b.getD c 0)) +
    2 * ((pts.headD ([], [])).1.getD r 0 * (pts.headD ([], [])).2.getD c 0)))
  let k ← pxy.mapM (fun row => (solveUpperT m sy (solveLower sy row)).mapM wbRoot)
  let e := vsub (obs.map (·.z)) yp
  let x ← (vadd xp (matVec k e)).mapM wbMean
  let us ← (List.range m).mapM (fun c => k.mapM (fun row => do wbRoot (← ldot row (column sy c))))
  let s ← us.foldlM (fun (s : Option (List (List Rat))) u => match s with
    | none => pure none
    | some s => cholDowndate p.dim s u) (some sp)
  let w := solveLower sy e
  let ll ← wbLog (-(dot w w) / 2 - rsum ((List.range m).map (fun i => lnA ((sy.getD i []).getD i 0))))
  let vp := match obs.findIdx? (fun o => o.kind != .temp) with
    | some i => yp.getD i 0
    | none => 0
  pure { x := x, s := s.getD [], ll := ll, failed := s.isNone, vPred := vp }

/-- Step 2 of R132 for hypothesis j. -/
def hypStep (p : PSet) (a : StepIn) (j : Nat) (xm : List Rat) (sm : List (List Rat)) : Sat HypOut := do
  let d : Drive := ⟨a.i, a.cap, j, a.gEnv, a.tEnv, a.pBal⟩
  let chi ← sigmaPoints p xm sm
  let run ← chi.mapM (fun x => integrate p d a.dt a.n x)
  let chi := run.map (·.1)
  let vbar := run.map (·.2)
  let xp ← (← meanOf p.dim chi).mapM wbMean
  let noise ← lscale (sqrtR 28 (a.dt * 100)) ((p.sq.getD j []).take p.dim)
  let extra ← if a.sigma = 0 then pure [] else do pure [← (p.rate (List.replicate p.dim a.sigma)).mapM wbRoot]
  let sp ← qrR p.dim ((← spread chi xp) ++ diagCols noise ++ extra)
  let sp ← cholUpdate p.dim sp (← spread0 chi xp)
  if a.obs = [] then pure { x := xp, s := sp, ll := 0, failed := false, vPred := 0 }
  else measure p a.obs chi vbar xp sp

/-- Values divided by their sum, in UQ1.31. -/
def normalise (l : List Rat) : Sat (List Rat) := l.mapM (fun v => wbProb (divR 31 v (rsum l)))

/-- What a whole filter step gives: the hypotheses, how many were re-initialised, and the combined voltage prediction. -/
structure FilterOut where
  hs : List HypV
  reinits : Nat
  vPred : Rat
  deriving DecidableEq, Repr

/-- Steps 1 to 3 of R132 over the masked hypotheses. -/
def filterStep (p : PSet) (maskBits : Nat) (a : StepIn) (hs : List HypV) : Sat FilterOut := do
  let mask := (List.range 4).filter (fun j => maskBits.testBit j)
  let pi := p.piFor maskBits
  let mixed ← mask.mapM (mix p pi mask hs)
  let outs ← (List.zip mask mixed).mapM (fun (j, m) => hypStep p a j m.2.1 m.2.2)
  let m := (outs.map (·.ll)).foldl max ((outs.map (·.ll)).headD 0)
  let mu := List.zipWith (fun (c : Rat × List Rat × List (List Rat)) o =>
    if o.failed then p.muFloor else c.1 * expA (o.ll - m)) mixed outs
  let mu ← normalise mu
  let mu ← normalise (mu.map (fun v => if v < p.muFloor then p.muFloor else v))
  let s0 := (diagCols (p.s0.take p.dim)).zipIdx.map (fun (c, i) => c.take (i + 1))
  let hs := (List.range 4).map (fun j =>
    match mask.findIdx? (· = j) with
    | some k =>
      let o := outs.getD k ⟨[], [], 0, false, 0⟩
      { x := o.x, s := if o.failed then s0 else o.s, mu := mu.getD k 0 : HypV }
    | none => ⟨[], [], 0⟩)
  pure { hs := hs, reinits := (outs.filter (·.failed)).length,
         vPred := rsum (List.zipWith (fun w (o : HypOut) => w * o.vPred) mu outs) }

/-- The hypotheses of an initialisation at a SOC (R135). -/
def initHyps (p : PSet) (maskBits : Nat) (soc : Rat) : Sat (List HypV) := do
  let x ← ((p.initState soc).take p.dim).mapM wbMean
  let s0 := (diagCols (p.s0.take p.dim)).zipIdx.map (fun (c, i) => c.take (i + 1))
  let mu ← wbProb (divR 31 1 (popCount maskBits 4))
  pure ((List.range 4).map (fun j => if maskBits.testBit j then ⟨x, s0, mu⟩ else ⟨[], [], 0⟩))

end Sys2Proof.Machine
end

