-- ==== Sys2Proof/Machine/Witness.lean ====
section
/-! DEFINITION. The witness: its messages, the witness engine that grants leases, and the pair's requests (R295 to
R300). -/

namespace Sys2Proof.Machine

open Sys2Proof

/-! ### Times of R309, in ns -/

def tLease : Nat := 20000000
def tGuard : Nat := 1000000
def tWitLost : Nat := 15000000
def tSilent : Nat := 60000

/-- A witness message of 48 bytes (R295), sealed under a key. -/
def witMessage (key : List Byte) (kind pos reason wid pair term remain seq : Nat) : List Byte :=
  let b := [0x01, BitVec.ofNat 8 kind, BitVec.ofNat 8 pos, BitVec.ofNat 8 reason] ++ leBytes 4 wid ++ leBytes 8 pair ++
    leBytes 4 term ++ leBytes 4 remain ++ leBytes 8 seq
  b ++ (hmac256 key b).take 16

/-- Is the TAG right under a key? -/
def witTagOk (key m : List Byte) : Bool := m.length = 48 && (hmac256 key (m.take 32)).take 16 = m.drop 32

/-! ### The witness engine -/

def State.witPair (s : State) (p : Nat) : WitPair := sget {} s.wit.pairs p
def State.setWitPair (s : State) (p : Nat) (v : WitPair) : State :=
  { s with wit := { s.wit with pairs := sset {} s.wit.pairs p v } }

/-- The enabled entry of WIT.PAIRp that names a pair; none names the module's own (R14). -/
def State.witEntry (s : State) (pair : Nat) : Option Nat :=
  if pair = s.pairId then none
  else (List.range 8).find? (fun p => s.rdb .wit (R.WIT.PAIR_CFG p) 0 && s.rd64 .wit (R.WIT.PAIR_LO p) (R.WIT.PAIR_HI p) = pair)

/-- Is the lease of an entry live, and how many µs it has left (R295). -/
def State.witLive (s : State) (p : Nat) : Bool := s.mt < (s.witPair p).expiry
def State.witRemain (s : State) (p : Nat) : Nat := ((s.witPair p).expiry - s.mt) / 1000

/-- Does the witness serve the port a request came by? -/
def State.witServes (s : State) (src : NetSource) : Bool :=
  s.running .wit && s.mode.isRole &&
  match src with
  | .udp p _ _ _ => s.rdb .wit R.WIT.CFG 11 && s.hearsPort p.val (s.rdf .wit R.WIT.CFG 13 12)
  | .canxl c => s.rdb .wit R.WIT.CFG 7 && s.rdf .wit R.WIT.CFG 9 8 = c.val

/-- Must a request be dropped (R296)? -/
def State.witDrops (s : State) (kind : Nat) (m : List Byte) : Bool :=
  let fresh := s.rdf .wit R.WIT.CFG 23 16 * 1000000
  let seq := leAt m 0x18 8
  (match s.keyOf (s.rdf .wit R.WIT.CFG 2 0) with
   | none => true
   | some k => !witTagOk k m) ||
  leAt m 4 4 != s.rdn .wit R.WIT.WID || byteAt m 0 != 1 || byteAt m 1 != kind ||
  fresh < (mtDiff seq s.mt).natAbs ||
  (match s.witEntry (leAt m 8 8) with
   | none => true
   | some p =>
     let v := s.witPair p
     seq ≤ (if byteAt m 2 % 2 = 1 then v.seqB else v.seqA))

/-- The answer of R297: the reply's KIND and REASON, and the state after. -/
def State.witAnswer (s : State) (kind p pos term : Nat) : Nat × Nat × State :=
  let v := s.witPair p
  let me := pos + 1
  let grant := (fun (u : WitPair) => s.setWitPair p { u with expiry := s.mt + tLease })
  if s.wit.quiet then (0x83, 3, s)
  else if kind = 1 then (0x81, 0, s)
  else if kind = 4 then
    if v.holder = me && term = v.term then (0x81, 0, s.setWitPair p { v with expiry := s.mt }) else (0x83, 4, s)
  else if v.holder = me && term = v.term then (0x82, 0, grant v)
  else if kind = 2 then (0x83, 4, s)
  else if s.mt < v.expiry then (0x83, 1, s)
  else if term ≤ v.term then (0x83, 2, s)
  else
    let s' := grant { v with term := term, holder := me }
    (0x82, 0, if v.holder = me then s' else (s'.inc .wit R.WIT.GRANTS).flag .wit 8)

/-- A request of a pair is taken or dropped, and answered (R296, R297). -/
def State.witRequest (s : State) (kind : Nat) (m : List Byte) (src : NetSource) : State :=
  if !s.witServes src then s
  else if s.witDrops kind m then (s.inc .wit R.WIT.REJECTS).flag .wit 10
  else
    match s.witEntry (leAt m 8 8), s.keyOf (s.rdf .wit R.WIT.CFG 2 0) with
    | some p, some key =>
      let pos := byteAt m 2 % 2
      let seq := leAt m 0x18 8
      let v := s.witPair p
      let s := s.setWitPair p (if pos = 1 then { v with seqB := seq } else { v with seqA := seq })
      let (k, reason, s) := s.witAnswer kind p pos (leAt m 0x10 4)
      let s := if k = 0x83 then (s.inc .wit R.WIT.REFUSALS).flag .wit 9 else s
      let v := s.witPair p
      s.sendNet (.witnessReply src (witMessage key k v.holder reason (leAt m 4 4) (leAt m 8 8) v.term
        (if s.witLive p then s.witRemain p else 0) seq))
    | _, _ => s

/-- PROBE received by a witness (R297). -/
def execWitnessProbe (dt : Nat) (bytes : List Byte) (src : NetSource) (s : State) : Host.Outcome State Fault Refusal :=
  .next ((s.elapse dt).witRequest 1 bytes src)

/-- RENEW received by a witness (R297). -/
def execWitnessRenew (dt : Nat) (bytes : List Byte) (src : NetSource) (s : State) : Host.Outcome State Fault Refusal :=
  .next ((s.elapse dt).witRequest 2 bytes src)

/-- ACQUIRE received by a witness (R297). -/
def execWitnessAcquire (dt : Nat) (bytes : List Byte) (src : NetSource) (s : State) :
    Host.Outcome State Fault Refusal :=
  .next ((s.elapse dt).witRequest 3 bytes src)

/-- YIELD received by a witness (R297). -/
def execWitnessYield (dt : Nat) (bytes : List Byte) (src : NetSource) (s : State) : Host.Outcome State Fault Refusal :=
  .next ((s.elapse dt).witRequest 4 bytes src)

/-- WITNESS_QUIET_END (R296): 2 × FRESH after WIT entered RUNNING the witness stops being quiet. -/
def execWitnessQuietEnd (dt : Nat) (s : State) : Host.Outcome State Fault Refusal :=
  let s := s.elapse dt
  if s.wit.quietEnd ≤ s.mt then .next { s with wit := { s.wit with quiet := false } } else .next s

/-! ### The pair's side (R298, R299) -/

def State.setTdm (s : State) (f : TdmSt → TdmSt) : State := { s with tdm := f s.tdm }

def State.posB (s : State) : Bool := s.sys.strapB

def State.nlist (s : State) : Nat := s.rdf .tdm R.TDM.WIT 7 4

/-- A witness request to an entry of the list (R295); its SEQ is MT, or the previous SEQ plus 1. A module whose key slot
is empty sends none. An entry whose previous probe has no answer when the next one goes has stopped answering (R299). -/
def State.askWitness (s : State) (entry kind term : Nat) : State :=
  match s.keyOf (s.rdf .tdm R.TDM.WIT 2 0) with
  | none => s
  | some key =>
    if !s.tandemed then s
    else
      let seq := if s.tdm.witSeq < s.mt then s.mt else s.tdm.witSeq + 1
      let s := s.setTdm (fun t =>
        if entry = t.widx && kind != 1 then { t with witSeq := seq, asked := some (kind, seq) }
        else { t with
          witSeq := seq
          probes := (entry, seq) :: t.probes.filter (fun e => e.1 != entry)
          answering := t.answering.filter (fun e => e.1 != entry || t.probes.all (fun p => p.1 != entry)) })
      s.sendNet (.witnessAsk entry (witMessage key kind (b2n s.posB) 0 (s.rdn .tdm (R.TDM.WLIST_ID entry)) s.pairId term 0 seq))

/-- ACQUIRE with the highest known term + 1, unless a back-off is running; a fenced module never reacquires (R298). -/
def State.acquire (s : State) : State :=
  if s.mt < s.tdm.backoffUntil || s.tdm.fenced then s
  else s.askWitness s.tdm.widx 3 (s.tdm.term + 1)

/-- A double fault (R306): reason 1 witness lost, 2 witness quiet. -/
def State.doubleFault (s : State) (reason : Nat) : State :=
  if s.mode = .standby && s.tdm.silent && !s.tdm.double then
    let s := (s.setTdm (fun t => { t with double := true })).flag .tdm 14
    s.record .tdm 0x03 ([4, BitVec.ofNat 8 s.tdm.widx, BitVec.ofNat 8 reason, 0] ++ leBytes 4 s.tdm.term)
  else s

/-- RENEW_TIMER (R298): every t_renew, 5 ms, the active renews its term. -/
def execRenewTimer (dt : Nat) (s : State) : Host.Outcome State Fault Refusal :=
  let s := s.elapse dt
  if s.mode = .active && s.tandemed && s.tdm.renewMt + 5000000 ≤ s.mt then
    .next ((s.setTdm (fun t => { t with renewMt := s.mt })).askWitness s.tdm.widx 2 s.tdm.term)
  else .next s

/-- Once per second each module probes every enabled entry (R299); a standby has its own period for the witness in
force, and asks no other while the peer is silent. -/
def State.probeAll (s : State) : State :=
  if s.tdm.probeAllMt + 1000000000 ≤ s.mt && !(s.mode = .standby && s.tdm.silent) then
    let s := s.setTdm (fun t => { t with probeAllMt := s.mt })
    ((List.range s.nlist).filter (fun e => s.mode = .active || e != s.tdm.widx)).foldl
      (fun s e => s.askWitness e 1 s.tdm.term) s
  else s

/-- Every PROBE_MS a standby probes the witness in force; a probe still unanswered is counted (R298, R299). -/
def State.probeInForce (s : State) : State :=
  if s.mode = .standby && s.tdm.probeMt + s.rdf .tdm R.TDM.WIT 31 16 * 1000000 ≤ s.mt then
    let missed := s.tdm.probes.any (fun e => e.1 = s.tdm.widx)
    let s := s.setTdm (fun t => { t with probeMt := s.mt, unanswered := if missed then t.unanswered + 1 else 0 })
    s.askWitness s.tdm.widx 1 s.tdm.term
  else s

/-- PROBE_TIMER (R298, R299): the probes that are due. -/
def execProbeTimer (dt : Nat) (s : State) : Host.Outcome State Fault Refusal :=
  let s := s.elapse dt
  if s.mode.runsString && s.tandemed then .next s.probeInForce.probeAll else .next s

/-- Is a reply one this module awaits (R295): tag, identity of the pair, and the SEQ of a request still open? Answers
the entry it came from. -/
def State.replyEntry (s : State) (kind : Nat) (m : List Byte) : Option Nat :=
  match s.keyOf (s.rdf .tdm R.TDM.WIT 2 0) with
  | none => none
  | some key =>
    if !s.tandemed || !witTagOk key m || byteAt m 0 != 1 || byteAt m 1 != kind || leAt m 8 8 != s.pairId then none
    else
      let seq := leAt m 0x18 8
      match s.tdm.asked with
      | some (_, q) =>
        if q = seq && leAt m 4 4 = s.rdn .tdm (R.TDM.WLIST_ID s.tdm.widx) then some s.tdm.widx
        else (s.tdm.probes.find? (fun e => e.2 = seq && leAt m 4 4 = s.rdn .tdm (R.TDM.WLIST_ID e.1))).map (·.1)
      | none => (s.tdm.probes.find? (fun e => e.2 = seq && leAt m 4 4 = s.rdn .tdm (R.TDM.WLIST_ID e.1))).map (·.1)

/-- The KIND of the request a reply answers. -/
def State.askedKind (s : State) (m : List Byte) : Nat :=
  match s.tdm.asked with
  | some (k, q) => if q = leAt m 0x18 8 then k else 1
  | none => 1

/-- Any reply closes its request, shows the entry alive, and may raise the highest known term. A standby that hears
the witness in force has it again, and a double fault ends unless that witness is quiet (R299, R306). -/
def State.closeReply (s : State) (entry : Nat) (m : List Byte) : State :=
  let seq := leAt m 0x18 8
  s.setTdm (fun t => { t with
    asked := (match t.asked with
      | some (k, q) => if q = leAt m 0x18 8 then none else some (k, q)
      | none => none),
    probes := t.probes.filter (fun e => e.2 != seq),
    unanswered := if entry = t.widx then 0 else t.unanswered,
    witLost := t.witLost && !(s.mode = .standby && entry = t.widx),
    double := t.double && !(entry = t.widx && !(byteAt m 1 = 0x83 && byteAt m 3 = 3)),
    answering := if t.answering.any (fun e => e.1 = entry) then t.answering else (entry, s.mt) :: t.answering,
    term := max t.term (leAt m 0x10 4) })

/-- The next enabled entry in list order, wrapping at NLIST (R299). -/
def State.nextEntry (s : State) : Nat := if s.nlist = 0 then 0 else (s.tdm.widx + 1) % s.nlist

/-- A new witness index takes effect: the active holds no lease until the new witness grants it (R299). -/
def State.useWitness (s : State) (i : Nat) : State :=
  if i = s.tdm.widx then s
  else
    let s := s.setTdm (fun t => { t with
      widx := i
      widxProposed := i
      held := false
      viewEnd := 0
      witLost := false
      unanswered := 0
      asked := none
      lastGrant := s.mt })
    if s.mode = .active then s.acquire else s

/-- The active proposes an entry other than the one in force and mirrors the proposal (KIND 0x0008); it takes effect
at once when the peer is silent or absent (R299). -/
def State.proposeWitness (s : State) (i : Nat) : State :=
  if i = s.tdm.widx then s else
  let s := s.setTdm (fun t => { t with widxProposed := i })
  let s := s.mirrorItem 0x0008 (s.tick + 2) ([BitVec.ofNat 8 i, 0, 0, 0] ++ leBytes 4 s.tdm.term)
  if s.tdm.silent || !s.tdm.peer.heard then s.useWitness i else s

/-- A standby takes the active's proposal, to echo it. One that no loss of the witness in force explains is a return
to an earlier entry, which this module agrees to once that entry has answered it for 60 s as well (R299, log entry
107). -/
def State.takeProposal (s : State) (i : Nat) : State :=
  let back := i != s.tdm.widx && !s.tdm.witLost && !s.tdm.peer.flags.testBit 3
  if back && !s.tdm.answering.any (fun e => e.1 = i && e.2 + 60000000000 ≤ s.mt) then s
  else s.setTdm (fun t => { t with widxProposed := i })

/-- WITNESS_LOST (R299, R306): the active without a grant for t_wit_lost, or the standby after 3 unanswered probes. -/
def execWitnessLost (dt : Nat) (s : State) : Host.Outcome State Fault Refusal :=
  let s := s.elapse dt
  let lost := s.tandemed && !s.tdm.witLost && ((s.mode = .active && s.tdm.lastGrant + tWitLost ≤ s.mt) ||
    (s.mode = .standby && 3 ≤ s.tdm.unanswered))
  if lost then
    let alive := s.tdm.answering.filter (fun e => e.1 != s.tdm.widx)
    let s := (s.setTdm (fun t => { t with witLost := true, answering := alive })).flag .tdm 13
    if s.mode = .active then .next (s.proposeWitness s.nextEntry) else .next (s.doubleFault 1)
  else .next s

/-- WITNESS_RETURN (R299): an earlier entry that has answered both modules for 60 s is proposed again by the active. -/
def execWitnessReturn (dt : Nat) (entry : Fin 4) (s : State) : Host.Outcome State Fault Refusal :=
  let s := s.elapse dt
  if s.mode = .active && s.tandemed && entry.val < s.tdm.widx && s.tdm.widxProposed = s.tdm.widx &&
      s.tdm.answering.any (fun e => e.1 = entry.val && e.2 + 60000000000 ≤ s.mt) then
    .next (s.proposeWitness entry.val)
  else .next s

/-- LEASE_VIEW_EXPIRY (R298): the own view of the lease ends. -/
def execLeaseViewExpiry (dt : Nat) (s : State) : Host.Outcome State Fault Refusal :=
  let s := s.elapse dt
  if s.tdm.viewEnd ≤ s.mt then .next (s.setTdm (fun t => { t with held := false })) else .next s

/-- A standby whose peer is silent, or a module that forms (R439), asks for the lease. -/
def State.wantsLease (s : State) : Bool :=
  (s.mode = .standby && s.tdm.silent) || (s.mode = .active && !s.tdm.held && !s.tdm.fenced) ||
  (s.mode = .ready && s.rdf .sys R.SYS.CFG 1 0 = 1 && s.running .sys)

/-- BACKOFF_EXPIRY (R298): the lost term has ended, and the requester asks again. -/
def execBackoffExpiry (dt : Nat) (s : State) : Host.Outcome State Fault Refusal :=
  let s := s.elapse dt
  if s.tdm.backoffUntil ≤ s.mt && s.tandemed then
    let s := s.setTdm (fun t => { t with backoffUntil := 0 })
    .next (if s.wantsLease then s.acquire else s)
  else .next s

/-- STATE reply (R298, R299): the entry is alive. A standby whose peer is silent asks for the lease once the witness
in force answers a probe sent after its latest request. -/
def State.witnessState (s : State) (bytes : List Byte) : State :=
  match s.replyEntry 0x81 bytes with
  | some e =>
    let s := s.closeReply e bytes
    let open_ := s.tdm.asked.any (fun q => leAt bytes 0x18 8 ≤ q.2)
    if e = s.tdm.widx && s.mode = .standby && s.tdm.silent && !open_ then s.acquire else s
  | none => s

/-- STATE (R298). -/
def execWitnessState (dt : Nat) (bytes : List Byte) (s : State) : Host.Outcome State Fault Refusal :=
  .next ((s.elapse dt).witnessState bytes)

end Sys2Proof.Machine
end

