-- ==== Sys2Proof/Machine/Frames.lean ====
section
/-! DEFINITION. Tandem frames as they arrive: check, copies and links (R277, R278). -/

namespace Sys2Proof.Machine

open Sys2Proof

/-! ### Frames (R277, R278) -/

def State.link (s : State) (l : Nat) : LinkSt := sget {} s.tdm.links l
def State.setLink (s : State) (l : Nat) (v : LinkSt) : State :=
  s.setTdm (fun t => { t with links := sset {} t.links l v })

/-- The frame check of R277 holds. -/
def State.frameGood (s : State) (type : Nat) (f : TandemHead) (payload : List Byte) : Bool :=
  f.check.toNat = frameCheck s.pairId type f.lseq.toNat payload

/-- A frame arrives on a lane: a frame that fails its check is discarded and counted; a valid one keeps its link alive
and is accepted when it is the first copy of its LSEQ and lies within the window of 4,096 (R278). -/
def State.takeFrame (s : State) (type : Nat) (f : TandemHead) (payload : List Byte) : Bool × State :=
  if !s.tandemed then (false, s)
  else if !s.frameGood type f payload then (false, s.inc .tdm R.TDM.CRCERR)
  else
    let l := s.link f.lane.val
    let s := s.setLink f.lane.val { l with
      runMt := if l.lastMt + tSilent < s.mt then s.mt else l.runMt
      lastMt := s.mt }
    let q := f.lseq.toNat
    if q + 4096 < s.tdm.lseqHigh || s.tdm.lseqSeen.contains q then (false, s)
    else
      let hi := max q s.tdm.lseqHigh
      (true, s.setTdm (fun t => { t with
        lseqHigh := hi
        lseqSeen := q :: t.lseqSeen.filter (fun x => hi ≤ x + 4096) }))

end Sys2Proof.Machine
end

