-- ==== Sys2Proof/Machine/Journal.lean ====
section
/-! DEFINITION. The learned-data journal in MRAM (R164 to R170). -/

namespace Sys2Proof.Machine

open Sys2Proof

/-- TYPE and INDEX of record r (R164). -/
def jrnType (r : Nat) : Nat := if r = 0 then 1 else if r ≤ 64 then 2 else 3
def jrnIndex (r : Nat) : Nat := if r = 0 then 0 else if r ≤ 64 then r - 1 else r - 65

/-- The latest image of a record; an empty record has none. -/
def State.jrnImage (s : State) (r : Nat) : List Byte := sget [] s.jrn.img r

/-- A field of a record's payload; 0 in an empty record. -/
def State.jrnField (s : State) (r o k : Nat) : Nat := leAt (s.jrnImage r) o k

/-- A list of bytes with those from offset `o` replaced. -/
def putBytes (l : List Byte) (o : Nat) (b : List Byte) : List Byte := l.take o ++ b ++ l.drop (o + b.length)

/-- Images compared apart from SEQ and CRC (R170). -/
def jrnSame (a b : List Byte) : Bool := slice a 0 4 = slice b 0 4 && slice a 8 52 = slice b 8 52

/-- The image of an empty record: header and zeros. -/
def jrnBlank (r : Nat) : List Byte :=
  [BitVec.ofNat 8 (jrnType r), 1] ++ leBytes 2 (jrnIndex r) ++ zeros 60

/-- The image of a record, blank where it is empty, as the active sends it and a standby compares it (R170). -/
def State.jrnContent (s : State) (r : Nat) : List Byte := if s.jrnImage r = [] then jrnBlank r else s.jrnImage r

/-- An image takes its place: it is the latest, waits in the queue (a newer image replaces an older one, R166), and the
active mirrors it (KIND 0x0005, R170). A write queued while PFW_N is low is deferred and counted. -/
def State.jrnQueue (s : State) (r : Nat) (img : List Byte) : State :=
  let fresh := !s.jrn.queue.contains r
  let s := { s with jrn := { s.jrn with img := sset [] s.jrn.img r img,
                                        queue := if fresh then s.jrn.queue ++ [r] else s.jrn.queue } }
  let s := if fresh && s.sys.pfwLow then s.writeDeferred else s
  if s.mode = .active then s.mirrorItem 0x0005 (s.tick + 2) (leBytes 2 r ++ zeros 2 ++ img) else s

/-- A field of a record's latest image, before the image is queued. -/
def State.jrnEdit (s : State) (r o : Nat) (b : List Byte) : State :=
  let img := s.jrnImage r
  { s with jrn := { s.jrn with img := sset [] s.jrn.img r (putBytes (if img = [] then jrnBlank r else img) o b) } }

/-- A field of a record's payload written. -/
def State.jrnPut (s : State) (r o : Nat) (b : List Byte) : State :=
  let img := s.jrnImage r
  s.jrnQueue r (putBytes (if img = [] then jrnBlank r else img) o b)

/-- Is a slot valid (R168): 64 bytes, its CRC, and TYPE and INDEX of its place? -/
def jrnValid (r : Nat) (b : List Byte) : Bool :=
  b.length = 64 && crc32c (b.take 60) = leAt b 60 4 && byteAt b 0 = jrnType r && leAt b 2 2 = jrnIndex r

def State.jrnSlot (s : State) (r k : Nat) : List Byte := sget [] s.mram.jslots (2 * r + k)

/-- The slot that holds the newest valid copy: greater SEQ by signed 32-bit difference (R168); none when neither is
valid. -/
def State.jrnNewest (s : State) (r : Nat) : Option Nat :=
  let a := s.jrnSlot r 0
  let b := s.jrnSlot r 1
  match jrnValid r a, jrnValid r b with
  | false, false => none
  | true, false => some 0
  | false, true => some 1
  | true, true => if 0 < signed 32 (unsign 32 ((leAt b 4 4 : Int) - leAt a 4 4)) then some 1 else some 0

/-- JOURNAL_WRITE_START (R166): with PFW_N high and no write in progress, the oldest queued image starts into the slot
that does not hold the newest valid copy, with the next SEQ and the greater VER (R169). -/
def execJournalWriteStart (dt : Nat) (s : State) : Host.Outcome State Fault Refusal :=
  let s := s.elapse dt
  match s.jrn.queue, s.jrn.writing with
  | r :: q, none =>
    if s.sys.pfwLow then .next s
    else
      let newest := s.jrnNewest r
      let seq := match newest with
        | some k => (leAt (s.jrnSlot r k) 4 4 + 1) % 2 ^ 32
        | none => 1
      let slot := match newest with
        | some k => 1 - k
        | none => 0
      let img := s.jrnImage r
      let b := (BitVec.ofNat 8 (jrnType r) :: BitVec.ofNat 8 (max (byteAt img 1) 1) :: leBytes 2 (jrnIndex r)) ++
        leBytes 4 seq ++ slice img 8 52
      .next { s with jrn := { s.jrn with queue := q, writing := some (r, slot, b ++ leBytes 4 (crc32c b)) } }
  | _, _ => .next s

/-- The write in progress completes, whatever PFW_N or a reset does (R166). -/
def State.jrnFinish (s : State) : State :=
  match s.jrn.writing with
  | some (r, k, b) =>
    { s with jrn := { s.jrn with writing := none },
             mram := { s.mram with jslots := sset [] s.mram.jslots (2 * r + k) b } }
  | none => s

/-- A write in progress is torn: its slot holds no valid content (R167). -/
def State.jrnTear (s : State) : State :=
  match s.jrn.writing with
  | some (r, k, _) =>
    { s with jrn := { s.jrn with writing := none },
             mram := { s.mram with jslots := sset [] s.mram.jslots (2 * r + k) [] } }
  | none => s

/-- JOURNAL_WRITE_DONE (R166). -/
def execJournalWriteDone (dt : Nat) (s : State) : Host.Outcome State Fault Refusal := .next (s.elapse dt).jrnFinish

/-- One record is read at BOOT (R168): the newest valid slot wins; a torn slot is counted and recorded; a record with
no valid slot is empty and flagged. -/
def State.jrnLoad (s : State) (r : Nat) : State :=
  let v0 := jrnValid r (s.jrnSlot r 0)
  let v1 := jrnValid r (s.jrnSlot r 1)
  match s.jrnNewest r with
  | none => s.wrb .est R.EST.AEVT 8 true
  | some k =>
    let b := s.jrnSlot r k
    let s := { s with jrn := { s.jrn with img := sset [] s.jrn.img r b } }
    if v0 && v1 then s
    else
      let s := (s.inc .est R.EST.JTEAR).wrb .est R.EST.AEVT 7 true
      s.record .est 0x11 ([4, BitVec.ofNat 8 k] ++ leBytes 2 r ++ slice b 4 4)

/-- The journal is read at BOOT, and EST.EPOCH shows the string epoch (R168). -/
def State.jrnBoot (s : State) : State :=
  let s := (List.range 577).foldl State.jrnLoad s
  s.wrn .est R.EST.EPOCH (s.jrnField 0 8 4)

/-- The string epoch, and the identity held for front-end f (an empty entry is 0). -/
def State.epoch (s : State) : Nat := s.jrnField 0 8 4
def State.heldId (s : State) (f : Nat) : Nat := s.jrnField (1 + f) 8 8

end Sys2Proof.Machine
end

