-- ==== Sys2Proof/Machine/Sbx.lean ====
section
/-! DEFINITION. The Strongbox: placement, writing, clearing, cursor and export (R330 to R343). -/

namespace Sys2Proof.Machine

open Sys2Proof

/-! ### Records and lines (R330 to R332) -/

def SbxRec.len (r : SbxRec) : Nat := 16 + r.payload.length
def SbxRec.lines (r : SbxRec) : Nat := (r.len + 4 + 63) / 64
def SbxRec.isLocked (r : SbxRec) : Bool := r.area != .rolling

/-- A record's bytes from header to payload. -/
def SbxRec.body (r : SbxRec) : List Byte :=
  leBytes 2 r.len ++ [BitVec.ofNat 8 r.cls, BitVec.ofNat 8 r.source] ++ leBytes 4 r.seq ++ leBytes 8 r.mt ++ r.payload

/-- A record as stored: header, payload and trailer. -/
def SbxRec.bytes (r : SbxRec) : List Byte := r.body ++ leBytes 4 (crc32c r.body)

/-- The lines of an area (R330). -/
def SbxArea.lines : SbxArea → Nat
  | .clearLog => 1024 | .lockedMain => 129024 | .reserve => 1024 | .rolling => 393216

/-- The first MRAM offset of an area (R330). -/
def SbxArea.offset : SbxArea → Nat
  | .clearLog => 0 | .lockedMain => 0x10000 | .reserve => 0x7F0000 | .rolling => 0x800000

def State.areaRecs (s : State) (a : SbxArea) : List SbxRec := s.mram.sbxRecs.filter (fun r => r.area = a)

/-- Lines in use in an area. -/
def State.areaUsed (s : State) (a : SbxArea) : Nat := ((s.areaRecs a).map SbxRec.lines).foldl (· + ·) 0

/-- Where a record of `n` lines goes in an area that is never overwritten, from the next free line on (R330, R331): a
record never straddles the area's end. -/
def State.roomIn (s : State) (a : SbxArea) (head n : Nat) : Option Nat :=
  match (s.areaRecs a).head? with
  | none => some (if head + n ≤ a.lines then head else 0)
  | some r =>
    if head < r.line then (if head + n ≤ r.line then some head else none)
    else if head = r.line then none
    else if head + n ≤ a.lines then some head
    else if n ≤ r.line then some 0
    else none

/-- Free lines of the reserve; fewer than 65 is DISPLACING (R338). -/
def State.displacing (s : State) : Bool := 1024 - s.areaUsed .reserve < 65

/-! ### Starting a write (R333, R336 to R338) -/

/-- The next sequence is taken; the high-water mark moves on by 4,096 before the sequence reaches it (R333). -/
def State.takeSeq (s : State) : Nat × State :=
  let q := s.sbx.nextSeq
  let w := s.mram.sbxHigh
  let high := if w.value ≤ q + 1 then w.write (w.value + 4096) else w
  (q, { s with sbx := { s.sbx with nextSeq := q + 1 }, mram := { s.mram with sbxHigh := high } })

/-- A Strongbox record whose class has its bit in WAY.TRIG_CLASS is a trigger (R320). -/
def State.classTrigger (s : State) (cls : Nat) : State :=
  if s.rdb .way R.WAY.TRIG_CLASS (cls % 32) then s.trigger 2 (cls % 32) else s

/-- The write of a record at its place starts. -/
def State.startWrite (s : State) (a : SbxArea) (line cls source mt : Nat) (payload : List Byte) : State :=
  let (q, s) := s.takeSeq
  let r : SbxRec := { area := a, line := line, seq := q, cls := cls, source := source, mt := mt, payload := payload }
  let head := (line + r.lines) % a.lines
  let m := s.mram
  let m := match a with
    | .clearLog => { m with sbxClearHead := head }
    | .lockedMain => { m with sbxLockedHead := head }
    | .reserve => { m with sbxReserveHead := head }
    | .rolling =>
      { m with
        sbxRollHead := head
        sbxRecs := m.sbxRecs.filter (fun (x : SbxRec) =>
          !(x.area = .rolling && x.line < line + r.lines && line < x.line + x.lines)) }
  { s with mram := m, sbx := { s.sbx with writing := some r } }.classTrigger (cls % 32)

/-- Lines of a record that waits. -/
def RecReq.lines (r : RecReq) : Nat := (16 + r.payload.length + 4 + 63) / 64

/-- A record for the rolling area: where the remaining space cannot take it, it goes to offset 0 (R331). -/
def State.startRolling (s : State) (r : RecReq) : State :=
  let h := s.mram.sbxRollHead
  s.startWrite .rolling (if h + r.lines ≤ 393216 then h else 0) (r.cls + 128 * b2n r.displaced) r.source r.mt r.payload

/-- A locked record that finds no room is displaced through the rolling bucket and queue, or lost (R338). -/
def State.displace (s : State) (r : RecReq) : State :=
  if 0 < s.sbx.tokens && s.sbx.rollQ.length < 48 then
    let s := { s with sbx := { s.sbx with
      tokens := s.sbx.tokens - 1
      rollQ := s.sbx.rollQ ++ [{ r with displaced := true }] } }
    (s.inc .sbx R.SBX.DISPLACED).flag .sbx 9
  else (s.inc .sbx R.SBX.LDROP).flag .sbx 11

/-- A locked record: the locked main, else the reserve, else displaced (R338). -/
def State.startLocked (s : State) (r : RecReq) : State :=
  match s.roomIn .lockedMain s.mram.sbxLockedHead r.lines with
  | some l => s.startWrite .lockedMain l r.cls r.source r.mt r.payload
  | none =>
    match s.roomIn .reserve s.mram.sbxReserveHead r.lines with
    | some l => (s.startWrite .reserve l r.cls r.source r.mt r.payload).flag .sbx 8
    | none => s.displace r

/-- A freed record: one of the locked main or reserve with SEQ up to X. -/
def SbxRec.freedBy (x : Nat) (r : SbxRec) : Bool := (r.area = .lockedMain || r.area = .reserve) && r.seq ≤ x

/-- An accepted clear's record starts (R340). -/
def State.startClear (s : State) (x slot counter : Nat) : State :=
  let n := (s.mram.sbxRecs.filter (fun r => r.freedBy x && r.valid)).length
  s.startWrite .clearLog s.mram.sbxClearHead 0x08 (pageType .sbx % 256) s.mt
    (leBytes 4 x ++ leBytes 4 n ++ [BitVec.ofNat 8 slot, 0, 0, 0] ++ leBytes 8 counter)

/-- The next record in the order of R336 starts its write, if none is in progress and PFW_N is high. In
THERMAL_SHUTDOWN only the island's record is written. -/
def State.sbxStart (s : State) : State :=
  if s.sbx.writing.isSome || s.sys.pfwLow || s.mode = .reset then s
  else
    match s.sbx.thermal with
    | some r => ({ s with sbx := { s.sbx with thermal := none } }).startLocked r
    | none =>
      if s.mode = .thermal then s
      else
        match s.sbx.clears, s.sbx.lockedQ, s.sbx.rollQ with
        | c :: t, _, _ => ({ s with sbx := { s.sbx with clears := t } }).startClear c.1 c.2.1 c.2.2
        | [], r :: t, _ => ({ s with sbx := { s.sbx with lockedQ := t } }).startLocked r
        | [], [], r :: t => ({ s with sbx := { s.sbx with rollQ := t } }).startRolling r
        | [], [], [] => s

/-- STRONGBOX_WRITE_START (R336 to R338). -/
def execStrongboxWriteStart (dt : Nat) (s : State) : Host.Outcome State Fault Refusal := .next (s.elapse dt).sbxStart

/-! ### Finishing a write -/

/-- What follows a CLEAR record (R340): CLEARED takes X, and the lines up to X are free again. No write of the MRAM
starts while PFW_N is low, so that CLEARED then waits for it to rise (R438). -/
def State.applyClear (s : State) (x : Nat) : State :=
  if s.sys.pfwLow then { s with sbx := { s.sbx with clearDue := some x } }
  else
  ({ s with sbx := { s.sbx with clearDue := none }, mram := { s.mram with
    sbxCleared := s.mram.sbxCleared.write x
    sbxRecs := s.mram.sbxRecs.filter (fun (r : SbxRec) => !r.freedBy x) } }).flag .sbx 12

/-- PFW_N has risen: a CLEARED that waited is written. -/
def State.clearResume (s : State) : State :=
  match s.sbx.clearDue with
  | some x => s.applyClear x
  | none => s

/-- The write in progress ends: the record stands in the MRAM; an OUT record is durable (R436). -/
def State.sbxFinish (s : State) : State :=
  match s.sbx.writing with
  | none => s
  | some r =>
    let s := { s with
      sbx := { s.sbx with writing := none }
      mram := { s.mram with sbxRecs := s.mram.sbxRecs ++ [r] } }
    let s := if r.cls = 8 then s.applyClear (leAt r.payload 0 4) else s
    if r.cls % 32 = 7 && r.payload.head? = some 1 then
      { s with sys := { s.sys with outDurable := true, outDurMt := s.mt } }
    else s

/-- A loss of VIN12 or VAON tears the write in progress: an invalid record is left (R337). -/
def State.sbxTear (s : State) : State :=
  match s.sbx.writing with
  | none => s
  | some r =>
    { s with
      sbx := { s.sbx with writing := none }
      mram := { s.mram with sbxRecs := s.mram.sbxRecs ++ [{ r with valid := false }] } }

/-- STRONGBOX_WRITE_DONE (R337). -/
def execStrongboxWriteDone (dt : Nat) (s : State) : Host.Outcome State Fault Refusal := .next (s.elapse dt).sbxFinish

/-- TOKEN_REFILL (R336): 4 tokens per second, up to 1,024; one command is one second. -/
def execTokenRefill (dt : Nat) (s : State) : Host.Outcome State Fault Refusal :=
  let s := s.elapse dt
  .next { s with sbx := { s.sbx with tokens := min 1024 (s.sbx.tokens + 4) } }

/-- The scan at BOOT (R333): the greater of 1 + the highest valid SEQ and the high-water mark. -/
def State.sbxScan (s : State) : State :=
  let top := (s.mram.sbxRecs.filter (·.valid)).foldl (fun m r => max m r.seq) 0
  { s with sbx := { s.sbx with nextSeq := max (1 + top) s.mram.sbxHigh.value } }

/-- An uncorrectable error at an MRAM offset makes the record on that line invalid (R342). -/
def State.sbxDamage (s : State) (off : Nat) : State :=
  let hit := fun (r : SbxRec) => r.area.offset + 64 * r.line ≤ off && off < r.area.offset + 64 * (r.line + r.lines)
  { s with mram := { s.mram with
    sbxRecs := s.mram.sbxRecs.map (fun (r : SbxRec) => if hit r then { r with valid := false } else r) } }

/-! ### Clearing (R339) -/

/-- STRONGBOX_CLEAR at its effect tick: whether it is refused, and the state after. -/
def State.sbxClear (s : State) (x slot counter : Nat) : Bool × State :=
  if s.sbx.nextSeq ≤ x || x ≤ s.mram.sbxCleared.value || 1024 ≤ (s.areaRecs .clearLog).length + s.sbx.clears.length then
    (true, (s.inc .sbx R.SBX.CLRREJ).flag .sbx 13)
  else (false, { s with sbx := { s.sbx with clears := s.sbx.clears ++ [(x, slot, counter)] } })

/-! ### Reading (R341, R342) -/

/-- Does the partition filter let a record pass: 0 all, 1 locked, 2 rolling? -/
def SbxRec.inPart (part : Nat) (r : SbxRec) : Bool := part = 0 || (part = 1 && r.isLocked) || (part = 2 && !r.isLocked)

/-- Not cleared (R340): the records with SEQ up to CLEARED count as cleared, but for CLEAR records. -/
def State.uncleared (s : State) (r : SbxRec) : Bool := r.cls % 32 = 8 || s.mram.sbxCleared.value < r.seq

/-- The records a search from a sequence goes through, in ascending SEQ, valid or not. -/
def State.sbxFrom (s : State) (part from_ : Nat) : List SbxRec :=
  sortBy (fun a b => decide (a.seq ≤ b.seq))
    (s.mram.sbxRecs.filter (fun r => from_ ≤ r.seq && r.inPart part && s.uncleared r))

/-- The first retained record from a sequence on, and how many invalid ones stand before it. -/
def firstValid : List SbxRec → Nat × Option SbxRec
  | [] => (0, none)
  | r :: t =>
    if r.valid then (0, some r)
    else
      let (n, x) := firstValid t
      (n + 1, x)

/-- Skipped records are counted and flagged (R342). -/
def State.skipped (s : State) (n : Nat) : State :=
  if n = 0 then s else (s.incBy .sbx R.SBX.SKIPPED n).flag .sbx 10

/-- A cursor command is taken unless one is in progress (R341). -/
def State.cursorStart (s : State) (cmd : Nat) : State :=
  if s.sbx.cursorCmd != 0 || !(s.pageServed .sbx || s.mode = .out) then s
  else { s with sbx := { s.sbx with cursorCmd := cmd } }

/-- SEEK (R341). -/
def execCursorSeek (dt : Nat) (s : State) : Host.Outcome State Fault Refusal := .next ((s.elapse dt).cursorStart 1)

/-- NEXT (R341). -/
def execCursorNext (dt : Nat) (s : State) : Host.Outcome State Fault Refusal := .next ((s.elapse dt).cursorStart 2)

/-- CURSOR_DONE (R341, R342): the command in progress latches the record it finds, or sets END and keeps the latch. -/
def execCursorDone (dt : Nat) (s : State) : Host.Outcome State Fault Refusal :=
  let s := s.elapse dt
  if s.sbx.cursorCmd = 0 then .next s
  else
    let start := if s.sbx.cursorCmd = 1 then s.rdn .sbx R.SBX.CUR_ARG else match s.sbx.latched with
      | some r => r.seq + 1
      | none => 0
    let (n, found) := firstValid (s.sbxFrom (s.rdf .sbx R.SBX.CUR_FILT 1 0) start)
    let s := s.skipped n
    match found with
    | some r => .next { s with sbx := { s.sbx with
        cursorCmd := 0
        latched := some r
        curSkip := n != 0
        curEnd := false } }
    | none => .next { s with sbx := { s.sbx with cursorCmd := 0, curEnd := true } }

/-! ### Export (R343) -/

def State.expRing (s : State) : Nat := 112 + s.rdf .sbx R.SBX.EXPCFG 2 0

/-- The next record to export, with the invalid ones before it. -/
def State.expNextRec (s : State) : Nat × Option SbxRec :=
  firstValid (s.sbxFrom (s.rdf .sbx R.SBX.EXPCFG 9 8) s.sbx.expNext)

/-- The descriptor being filled completes. -/
def State.expComplete (s : State) : State :=
  let b := s.sbx.expBytes
  ({ s with sbx := { s.sbx with expBytes := [] } }).ringComplete s.expRing 0 0x8000 b.length b

/-- STRONGBOX_EXPORT_CHUNK (R343): the next retained record is copied whole into the posted buffer; when it does not
fit, the descriptor completes first. A buffer shorter than 4,100 bytes completes BAD_LEN. -/
def execStrongboxExportChunk (dt : Nat) (s : State) : Host.Outcome State Fault Refusal :=
  let s := s.elapse dt
  if !s.running .sbx then .next s
  else
    match s.ringHead s.expRing with
    | none => .next s
    | some d =>
      if d.len < 4100 then .next (s.ringComplete s.expRing 0x0002 0x8000 0 [])
      else
        match s.expNextRec with
        | (_, none) => .next s
        | (n, some r) =>
          if d.len < s.sbx.expBytes.length + r.bytes.length then .next s.expComplete
          else
            let s := s.skipped n
            .next { s with sbx := { s.sbx with expNext := r.seq + 1, expBytes := s.sbx.expBytes ++ r.bytes } }

/-- STRONGBOX_EXPORT_FLUSH (R343): no record has been pending for t_sbx_flush. -/
def execStrongboxExportFlush (dt : Nat) (s : State) : Host.Outcome State Fault Refusal :=
  let s := s.elapse dt
  if s.running .sbx && s.sbx.expBytes != [] && s.expNextRec.2.isNone then .next s.expComplete else .next s

/-- SBX enters RUNNING: export starts at EXP_FROM (R343). -/
def State.sbxStarted (s : State) : State :=
  { s with sbx := { s.sbx with expNext := s.rdn .sbx R.SBX.EXP_FROM } }

/-- SBX leaves RUNNING: export stops after the current descriptor. -/
def State.sbxStopped (s : State) : State := if s.sbx.expBytes = [] then s else s.expComplete

/-! ### The registers computed on reading -/

/-- The SBX registers that show the areas, queues and cursor. -/
def State.sbxView (s : State) (o : Nat) : Option Nat :=
  let seen := (s.mram.sbxRecs.filter (fun r => r.valid && s.uncleared r)).map (·.seq)
  let low := match seen with
    | [] => 0
    | q :: t => t.foldl min q
  let queued := s.sbx.lockedQ.length + s.sbx.rollQ.length + b2n s.sbx.thermal.isSome + s.sbx.clears.length
  if o = R.SBX.STAT then
    some (queued * 65536 + 8 * b2n (decide (1024 ≤ (s.areaRecs .clearLog).length)) + 4 * b2n s.displacing +
      2 * b2n (s.areaRecs .reserve != []) + b2n (s.running .sbx && (s.expNextRec.2.isSome || s.sbx.expBytes != [])))
  else if o = R.SBX.NEXTSEQ then some s.sbx.nextSeq
  else if o = R.SBX.CLEARED then some s.mram.sbxCleared.value
  else if o = R.SBX.OLDEST then some low
  else if o = R.SBX.LUSED then some (64 * s.areaUsed .lockedMain)
  else if o = R.SBX.RESUSED then some (64 * s.areaUsed .reserve)
  else if o = R.SBX.CLRUSED then some (64 * s.areaUsed .clearLog)
  else if o = R.SBX.CUR_STAT then
    let head := 2 ^ 27 * b2n (s.sbx.cursorCmd != 0) + 2 ^ 26 * b2n s.sbx.curSkip + 2 ^ 25 * b2n s.sbx.curEnd
    match s.sbx.latched with
    | some r => some (head + 2 ^ 24 + r.cls * 65536 + b2n r.isLocked * 2 ^ 14 + r.len)
    | none => some head
  else if o = R.SBX.CUR_SEQ then some (match s.sbx.latched with | some r => r.seq | none => 0)
  else if o = R.SBX.CUR_CRC then some (match s.sbx.latched with | some r => crc32c r.body | none => 0)
  else none

/-- A word of the 4 KiB window at BAR2 0x040_0000: the latched record's bytes 0 to LEN − 1, 0 beyond (R341). -/
def State.sbxWindow (s : State) (o : Nat) : Nat :=
  match s.sbx.latched with
  | some r => leAt r.body o 4
  | none => 0

end Sys2Proof.Machine
end

