-- ==== Sys2Proof/Machine/Fwu.lean ====
section
/-! DEFINITION. Firmware images: slots, upload, activation, trial and commit (R408 to R417), and the settings slots
(R419, R420). -/

namespace Sys2Proof.Machine

open Sys2Proof

/-! ### Slots -/

/-- What stands of the firmware: the MRAM's, with the slots whose writes wait for PFW_N to rise (R438). -/
def State.fw (s : State) : FwMram :=
  let m := s.mram.fw
  { m with
    a := s.fwu.waitA.getD m.a
    b := s.fwu.waitB.getD m.b }
def State.modFw (s : State) (f : FwMram → FwMram) : State := { s with mram := { s.mram with fw := f s.mram.fw } }
def State.modFwu (s : State) (f : FwuSt → FwuSt) : State := { s with fwu := f s.fwu }

def FwMram.slot (m : FwMram) (k : Nat) : FwSlot := if k = 0 then m.a else m.b
def FwMram.setSlot (m : FwMram) (k : Nat) (v : FwSlot) : FwMram := if k = 0 then { m with a := v } else { m with b := v }

/-- A slot written: a new state goes into its two-slot word (R166, R168, R408). -/
def FwMram.writeSlot (m : FwMram) (k : Nat) (v : FwSlot) : FwMram :=
  let w := (m.slot k).word
  m.setSlot k { v with word := if w.value = v.state then w else w.write v.state }

/-- The write of a slot that waits for PFW_N to rise, the newest one (R438). -/
def FwuSt.setWait (f : FwuSt) (k : Nat) (v : Option FwSlot) : FwuSt :=
  if k = 0 then { f with waitA := v } else { f with waitB := v }

/-- A slot changes; while PFW_N is low its write waits, and a new state counts as a deferred write (R166, R438). -/
def State.putSlot (s : State) (k : Nat) (v : FwSlot) : State :=
  if s.sys.pfwLow then
    let s := if (s.fw.slot k).state = v.state then s else s.writeDeferred
    s.modFwu (fun f => f.setWait k (some v))
  else (s.modFw (fun m => m.writeSlot k v)).modFwu (fun f => f.setWait k none)

/-- PFW_N is high again: the slots that waited are written (R438). -/
def State.flushSlots (s : State) : State :=
  let put := fun (k : Nat) (w : Option FwSlot) (m : FwMram) => match w with
    | some v => m.writeSlot k v
    | none => m
  (s.modFw (fun m => put 1 s.fwu.waitB (put 0 s.fwu.waitA m))).modFwu (fun f => { f with
    waitA := none
    waitB := none })

/-- BOOT reads a slot's state from its word: a reset that interrupted WRITING leaves it EMPTY (R168, R408). -/
def FwSlot.boot (v : FwSlot) : FwSlot := if v.word.value = 1 then { word := v.word } else { v with state := v.word.value }

def FwMram.bootSlots (m : FwMram) : FwMram := { m with
  a := m.a.boot
  b := m.b.boot }

/-- LOADED or GOOD: the slot can become preferred. -/
def FwSlot.usable (v : FwSlot) : Bool := v.state = 2 || v.state = 3

/-- The arithmetic identity of the running firmware. -/
def State.arithId (s : State) : Nat := (s.fw.slot s.fwu.run).arith

def State.buildId (s : State) : Nat := (s.fw.slot s.fwu.run).build

/-- Upload and FWU.CMD act while FWU is RUNNING or in the state of R414. -/
def State.fwuOn (s : State) : Bool := s.running .fwu || s.fwu.exhausted

/-- A command is refused. -/
def State.fwuReject (s : State) : State := s.flag .fwu 14

/-- A FIRMWARE record (R335): 1 failed attempt, 2 fallback, 3 activation reboot, 4 activation cancelled, 5 commit. -/
def State.fwPayload (s : State) (event slot mt : Nat) : List Byte :=
  let v := s.fw.slot slot
  [BitVec.ofNat 8 event, BitVec.ofNat 8 slot, BitVec.ofNat 8 v.check, BitVec.ofNat 8 s.fw.attempts, BitVec.ofNat 8 v.sv,
   BitVec.ofNat 8 s.fw.otp, 0, 0] ++ leBytes 8 v.build ++ leBytes 8 mt

/-! ### Upload (R410, R411) -/

/-- The open upload is abandoned: its slot becomes EMPTY. -/
def State.abandonUpload (s : State) : State :=
  match s.fwu.upload with
  | none => s
  | some k => (s.putSlot k {}).modFwu (fun f => { f with upload := none })

/-- CMD.OPEN (R410). -/
def State.openUpload (s : State) (slot : Bool) : State :=
  let k := b2n slot
  if !s.fwuOn then s
  else if (k = s.fwu.run && !s.fwu.exhausted) || s.fw.pending.any (fun p => p.1 = k) then s.fwuReject
  else
    let s := s.abandonUpload
    ((s.putSlot k { state := 1 }).modFwu (fun f => { f with upload := some k, next := 0 }))

/-- OPEN (R410). -/
def execOpenUpload (dt : Nat) (slot : Bool) (s : State) : Host.Outcome State Fault Refusal :=
  .next ((s.elapse dt).hostDo .fwu (fun (s : State) => s.openUpload slot))

/-- A chunk is checked and written (R410): its status, and the state after. -/
def State.chunk (s : State) (limit off dlen crc : Nat) (data : List Byte) : Nat × State :=
  let bad := fun (c : Nat) => (c, (s.modFw (fun m => { m with xferErr := satAdd 32 m.xferErr 1 })).flag .fwu 9)
  if dlen % 4 != 0 || dlen < 4 || limit < dlen then bad 0x0002
  else match (if s.fwuOn then s.fwu.upload else none) with
    | none => bad 0x0100
    | some k =>
      if off != s.fwu.next then bad 0x0101
      else if crc32c data != crc then bad 0x0102
      else if 33554432 < off + dlen then bad 0x0103
      else if s.sys.pfwLow then bad 0x0104
      else
        let v := s.fw.slot k
        (0, (s.modFw (fun m => m.writeSlot k { v with bytes := v.bytes ++ data })).modFwu
          (fun f => { f.setWait k none with next := off + dlen }))

/-- FIRMWARE_CHUNK (R410): the oldest descriptor of a submit ring, when it carries an upload chunk. -/
def execFirmwareChunk (dt : Nat) (ring : Fin 4) (s : State) : Host.Outcome State Fault Refusal :=
  let s := s.elapse dt
  match s.ringHead ring.val with
  | none => .next s
  | some d =>
    if d.tflags != 1 then .next s
    else
      let dlen := leAt d.data 4 4
      let (st, s) := if d.len != 16 + dlen then s.chunk 65536 0 0 0 []
        else s.chunk 65536 (leAt d.data 0 4) dlen (leAt d.data 8 4) (slice d.data 16 dlen)
      .next (s.ringComplete ring.val st 0 0 [])

/-- A write of WCMD: `n` bytes of the window are the chunk (R410). -/
def State.windowChunk (s : State) (n : Nat) : State :=
  if !s.fwuOn then s
  else
    let data := ((List.range 256).flatMap (fun w => leBytes 4 (s.rdn .fwu (R.FWU.WIN w)))).take n
    let (st, s) := s.chunk 1024 (s.rdn .fwu R.FWU.WOFF) n (s.rdn .fwu R.FWU.WCRC) data
    (s.wrn .fwu R.FWU.WSTAT st)

/-- WINDOW_CHUNK (R410): a write of FWU.WCMD submits the window. -/
def execWindowChunk (dt : Nat) (len : BitVec 11) (s : State) : Host.Outcome State Fault Refusal :=
  .next ((s.elapse dt).hostDo .fwu (fun (s : State) => s.windowChunk len.toNat))

/-- A header's fields (R409). -/
def parseHead (b : List Byte) : FwSlot :=
  let reserved := slice b 0x19 7 ++ slice b 0x80 128 ++ slice b 0x160 160
  let gen := byteAt b 7
  let rdmin := byteAt b 0x18
  let len := leAt b 0x14 4
  { sv := byteAt b 6
    gen := gen
    build := leAt b 8 8
    arith := leAt b 0x10 4
    len := len
    rdmin := rdmin
    headOk := leAt b 0 4 = 0x46574C56 && leAt b 4 2 = 1 && 4096 ≤ len && len ≤ 33554432 && len = b.length &&
      reserved = zeros reserved.length
    bytes := b }

/-- CMD.CLOSE (R411). -/
def State.closeUpload (s : State) : State :=
  if !s.fwuOn then s
  else match s.fwu.upload with
    | none => s.fwuReject
    | some k =>
      let b := (s.fw.slot k).bytes
      let len := s.rdn .fwu R.FWU.CLOSE_LEN
      if len = s.fwu.next && s.rdn .fwu R.FWU.CLOSE_CRC = crc32c b && leAt b 0 4 = 0x46574C56 && leAt b 4 2 = 1 &&
          leAt b 0x14 4 = len then
        let s := (s.putSlot k { parseHead b with state := 2 }).modFwu (fun f => { f with upload := none })
        (s.flag .fwu 8)
      else s.abandonUpload.fwuReject

/-- CLOSE (R411). -/
def execCloseUpload (dt : Nat) (s : State) : Host.Outcome State Fault Refusal :=
  .next ((s.elapse dt).hostDo .fwu (fun (s : State) => s.closeUpload))

/-- CMD.ABORT (R411). -/
def State.abortUpload (s : State) : State :=
  (if s.fwuOn then s.abandonUpload else s)

/-- ABORT_UPLOAD (R411). -/
def execAbortUpload (dt : Nat) (s : State) : Host.Outcome State Fault Refusal :=
  .next ((s.elapse dt).hostDo .fwu (fun (s : State) => s.abortUpload))

/-! ### Activation (R415, R416) -/

/-- The judgement-time check of FW_ACTIVATE fails (R415). -/
def State.activateRefused (s : State) (slot mt : Nat) : Bool :=
  1 < slot || slot = s.fwu.run || !(s.fw.slot slot).usable || (s.fw.slot slot).sv < s.fw.otp || mt < s.mt ||
  s.mt + 2592000000000000 < mt

/-- An accepted activation replaces any pending one. -/
def State.activate (s : State) (slot mt : Nat) : State :=
  (s.modFw (fun m => { m with pending := some (slot, mt) })).modFwu (fun f => { f with deferred := none })

/-- May the module reboot into the activated slot now (R416)? -/
def State.mayReboot (s : State) : Bool :=
  match s.mode with
  | .boot | .unconfigured | .ready | .witnessOnly => true
  | .standby => s.tdm.peer.heard && !s.tdm.silent && s.tdm.peer.state = 4
  | .active => !s.tandemed
  | _ => false

/-- ACTIVATION_DUE (R416): the activation MT is reached and the role forbids a reboot. -/
def execActivationDue (dt : Nat) (s : State) : Host.Outcome State Fault Refusal :=
  let s := s.elapse dt
  match s.fw.pending with
  | some (_, mt) =>
    if mt ≤ s.mt && s.mode.serves && !s.mayReboot && s.fwu.deferred.isNone then
      .next ((s.modFwu (fun f => { f with deferred := some s.mt })).flag .fwu 10)
    else .next s
  | none => .next s

/-- ACTIVATION_CANCEL (R416): DEFER_H hours without a reboot. -/
def execActivationCancel (dt : Nat) (s : State) : Host.Outcome State Fault Refusal :=
  let s := s.elapse dt
  match s.fw.pending, s.fwu.deferred with
  | some (k, mt), some d =>
    if d + s.rdf .fwu R.FWU.CFG 7 0 * 3600000000000 ≤ s.mt then
      let s := s.record .fwu 0x05 (s.fwPayload 4 k mt)
      .next (((s.modFw (fun m => { m with pending := none })).modFwu (fun f => { f with deferred := none })).flag .fwu 11)
    else .next s
  | _, _ => .next s

/-! ### Trial and commit (R413, R417) -/

/-- TRIAL_END (R413): the time in a role reaches TRIAL_MIN. -/
def execTrialEnd (dt : Nat) (s : State) : Host.Outcome State Fault Refusal :=
  let s := s.elapse dt
  if s.fw.trial && s.mode.isRole && s.rdf .fwu R.FWU.CFG 15 8 * 60000000000 ≤ s.fw.trialNs + s.inRoleNs then
    .next ((s.bookRole true).modFw (fun m => { m with trial := false, roleNs := 0 }))
  else .next s

/-- SV_COMMIT (R417): COMMIT_H hours in a role after the trial, a GOOD image blows steps until C = SV, while PFW_N is
high. -/
def execSvCommit (dt : Nat) (s : State) : Host.Outcome State Fault Refusal :=
  let s := s.elapse dt
  let v := s.fw.slot s.fwu.run
  if !s.fw.trial && v.state = 3 && s.fw.otp < v.sv && !s.sys.pfwLow && s.mode.serves &&
      s.rdf .fwu R.FWU.CFG 31 16 * 3600000000000 ≤ s.fw.roleNs + s.inRoleNs then
    let s := s.modFw (fun m => { m with otp := v.sv })
    .next ((s.record .fwu 0x05 (s.fwPayload 5 s.fwu.run 0)).flag .fwu 13)
  else .next s

/-! ### Settings (R419, R420) -/

def FwMram.settings (m : FwMram) (k : Nat) : Option Settings := if k = 0 then m.setA else m.setB

/-- The settings slot of the running firmware is written. -/
def State.putSettings (s : State) (v : Settings) : State :=
  s.modFw (fun m => if s.fwu.run = 0 then { m with setA := some v } else { m with setB := some v })

/-- The running firmware's settings slot changed, and created where it holds none; while PFW_N is low the write waits
(R438). -/
def State.modSettings (s : State) (f : Settings → Settings) : State :=
  let k := s.fwu.run
  let v := match s.fwu.waiting with
    | some w => w
    | none => (s.fw.settings k).getD {}
  let v := { f v with gen := (s.fw.slot k).gen }
  if s.sys.pfwLow then s.modFwu (fun w => { w with waiting := some v }) else s.putSettings v

/-- PFW_N is high again: the settings that waited are written (R438). -/
def State.flushSettings (s : State) : State :=
  match s.fwu.waiting with
  | some v => (s.putSettings v).modFwu (fun w => { w with waiting := none })
  | none => s

/-- The configuration words of a page, from 0x040 to CFG_END. -/
def cfgOffsets (p : Page) : List Nat :=
  if pageCfgEnd p < 0x40 then [] else (List.range ((pageCfgEnd p - 0x40) / 4 + 1)).map (fun k => 0x40 + 4 * k)

/-- The record of a page is rewritten when it enters RUNNING; EST also writes the parameter sets in EST.CFG.PSUSE (R419). -/
def State.savePage (s : State) (p : Page) : State :=
  let words := (cfgOffsets p).map (fun o => (o, s.rd p o))
  s.modSettings (fun v => { v with
    pages := sset ([], 0) v.pages p.index (words, s.rd p R.PAGE.CFG_REF)
    psets := if p = .est then s.est.ps.filter (fun e => s.rdb .est R.EST.CFG (e.1 / 0x40000)) else v.psets })

/-- The record of the limit set is rewritten on an accepted LIMIT_WRITE. -/
def State.saveLimits (s : State) : State :=
  let m := s.mram
  s.modSettings (fun v => { v with lim := m.lim, limStr := m.limStr, limSeq := m.limSeq, limCrc := m.limCrc })

/-! ### The registers computed on reading -/

def FwSlot.shown (v : FwSlot) (x : Nat) : Nat := if v.usable || v.state = 4 then x else 0

/-- The FWU registers that show the MRAM and the updater. -/
def State.fwuView (s : State) (o : Nat) : Option Nat :=
  let m := s.fw
  let slotReg := fun (k : Nat) =>
    let v := m.slot k
    if o = R.FWU.SLOT_STAT k then some (v.shown v.sv * 2 ^ 24 + v.shown v.gen * 65536 + v.check * 256 + v.state)
    else if o = R.FWU.SLOT_BLD_LO k then some (v.shown v.build % 2 ^ 32)
    else if o = R.FWU.SLOT_BLD_HI k then some (v.shown v.build / 2 ^ 32)
    else if o = R.FWU.SLOT_ARITH k then some (v.shown v.arith)
    else if o = R.FWU.SLOT_LEN k then some (v.shown v.len)
    else none
  if o = R.FWU.STAT then
    some (m.otp * 2 ^ 24 + (m.slot s.fwu.run).gen * 65536 + m.attempts * 1024 + b2n m.trial * 512 +
      b2n s.fwu.exhausted * 256 + b2n m.pending.isSome * 8 + b2n s.fwu.deferred.isSome * 4 + m.pref * 2 + s.fwu.run)
  else if o = R.FWU.ACT_MT_LO then some (match m.pending with | some p => p.2 % 2 ^ 32 | none => 0)
  else if o = R.FWU.ACT_MT_HI then some (match m.pending with | some p => p.2 / 2 ^ 32 | none => 0)
  else if o = R.FWU.ACT then some (match m.pending with | some p => p.1 | none => 0)
  else if o = R.FWU.NEXT then some s.fwu.next
  else if o = R.FWU.BOOTS then some m.boots
  else if o = R.FWU.FAILBOOTS then some m.failBoots
  else if o = R.FWU.FALLBACKS then some m.fallbacks
  else if o = R.FWU.XFERERR then some m.xferErr
  else match slotReg 0 with
    | some v => some v
    | none => slotReg 1

end Sys2Proof.Machine
end

