-- ==== Sys2Proof/Machine/Resets.lean ====
section
/-! DEFINITION. Module resets and the start of BOOT (R17, R19, R337, R434, R436), failed boot attempts and fallback (R413,
R414). -/

namespace Sys2Proof.Machine

open Sys2Proof

/-! ### What a reset keeps -/

/-- The pins a reset does not change: supplies, RESET_N, PFW_N, the strap and AON_32K. -/
def SysSt.pins (y : SysSt) : SysSt :=
  { vaonOk := y.vaonOk
    vin12Ok := y.vin12Ok
    holdOff := y.holdOff
    rstNLow := y.rstNLow
    pfwLow := y.pfwLow
    strapB := y.strapB
    aon32Lost := y.aon32Lost }

/-- The writes in progress end: torn by a loss of VIN12 or VAON, otherwise complete (R166, R337); an open upload is
lost (R410). -/
def State.settleMram (s : State) (lost : Bool) : State :=
  ((if lost then s.sbxTear.jrnTear else s.sbxFinish.jrnFinish).abandonUpload).bookRole false

/-- The state at the end of a reset (R436): every volatile register as after power-on; the MRAM, the pins, what waits and
what went out stay, and the Waybill where `way` says so (R325). -/
def State.afterReset (s : State) (way : Bool) : State :=
  let n := State.reset
  { n with
    sys := s.sys.pins
    tdm := { n.tdm with
      peerAlive := s.tdm.peerAlive
      peerDriveEn := s.tdm.peerDriveEn }
    mod := { n.mod with mcksel := s.mod.mcksel }
    irq := { n.irq with ext := s.irq.ext }
    way := if way then { n.way with
      segs := s.way.segs
      nextNum := s.way.nextNum
      nextSlot := s.way.nextSlot } else {}
    free := s.free
    sent := s.sent
    pending := s.pending
    mram := s.mram }

/-- The module goes into RESET: outputs safe (R22, R433), writes ended, volatile state gone. -/
def State.intoReset (s : State) (lost way : Bool) : State := ((s.forceSafe).settleMram lost).afterReset way

/-- A reset is recorded and counted (R434). -/
def State.countReset (s : State) (cause prior : Nat) : State :=
  ({ s with sys := { s.sys with prior := prior, rstCause := cause } }).modFw
    (fun m => { m with resets := satAdd 32 m.resets 1 })

/-! ### The start of BOOT -/

/-- BOOT starts once RESET_N is high and the supplies have been in range for 1 ms (R17, R432): MT counts from 0 (R54), the
preferred slot runs, and the next Strongbox sequence is known (R333). With no slot that can become preferred the boot
loader waits (R414). -/
def State.tryBoot (s : State) : State :=
  let y := s.sys
  if y.mode != .reset || y.rstNLow || !y.vaonOk || !y.vin12Ok || y.holdOff then s
  else
    let m := s.mram.fw.bootSlots
    let stuck := (m.slot m.pref).state = 4 && !(m.slot (1 - m.pref)).usable
    let s := { s with
      sys := { y with mode := .boot, mt := 0, bootPhase := if stuck then 0 else 1 }
      fwu := { s.fwu with run := m.pref, exhausted := stuck } }
    let s := (s.modFw (fun w => { w.bootSlots with boots := satAdd 32 w.boots 1 })).sbxScan
    if y.rstCause = 0x06 then s.flag .thm 12 else s

/-- A module reset from any state but RESET (R434): `lost` says that a supply left its range, `way` that the Waybill is
kept. -/
def State.moduleReset (s : State) (cause : Nat) (lost way : Bool) : State :=
  let prior := s.mode.code
  ((s.intoReset lost way).countReset cause prior).tryBoot

/-! ### Failed attempts (R413) -/

/-- The records that wait in the locked queue, and the clears before them, are written one after another. -/
def State.flushLocked (s : State) : State :=
  (List.range (s.sbx.clears.length + s.sbx.lockedQ.length)).foldl (fun (s : State) _ => s.sbxStart.sbxFinish) s.sbxFinish

/-- A locked record written before the reset that follows it, after those ahead of it in the queue, when MRAM can be
written (R413, R416). -/
def State.recordNow (s : State) (p : Page) (cls : Nat) (payload : List Byte) : State :=
  if s.sys.pfwLow then s
  else (s.flushLocked.startLocked ⟨cls, pageType p % 256, s.mt, payload, false⟩).sbxFinish

/-- The third failure of a slot (R413): it is FAILED, and the other slot becomes preferred if it is LOADED or GOOD. -/
def State.fallBack (s : State) (k : Nat) : State :=
  let s := s.putSlot k { s.fw.slot k with state := 4 }
  if (s.fw.slot (1 - k)).usable then
    let s := s.modFw (fun m => { m with
      pref := 1 - k
      attempts := 0
      trial := false
      fallbacks := satAdd 32 m.fallbacks 1 })
    ((s.recordNow .fwu 0x05 (s.fwPayload 2 k 0)).moduleReset 0x08 false true).flag .fwu 12
  else s.moduleReset 0x08 false true

/-- An attempt fails (R413): counted, recorded when MRAM can be written, and the module resets. -/
def State.failBoot (s : State) : State :=
  let k := s.fwu.run
  let n := s.fw.attempts + 1
  let s := s.modFw (fun m => { m with attempts := min n 3, failBoots := satAdd 32 m.failBoots 1 })
  let s := s.recordNow .fwu 0x05 (s.fwPayload 1 k 0)
  if 3 ≤ n then s.fallBack k else s.moduleReset 0x08 false true

/-- Entry into OUT while the image is on trial is a failed attempt (R17, R413). -/
def State.trialOut (s : State) : State := if s.mode = .out && s.fw.trial then s.failBoot else s

end Sys2Proof.Machine
end

