-- ==== Sys2Proof/Machine/Params.lean ====
section
/-! DEFINITION. Parameter-set memory and the sets in use (R122, R140, R144, R151). -/

namespace Sys2Proof.Machine

open Sys2Proof

/-- The bytes of set n from offset o (R140). -/
def State.psBytes (s : State) (n o k : Nat) : List Byte :=
  (List.range k).map (fun i => sget 0 s.est.ps (0x40000 * n + o + i))

/-- A little-endian number in set n. -/
def State.psNum (s : State) (n o k : Nat) : Nat := leNat (s.psBytes n o k)

def State.pset (s : State) (n : Nat) : PSet := parsePSet (s.psNum n)

/-- The sets in EST.CFG.PSUSE. -/
def State.psUse (s : State) : List Nat := (List.range 8).filter (fun n => s.rdb .est R.EST.CFG n)

/-- FEMAP of a front-end: its set and hypothesis mask (R122). -/
def State.feSet (s : State) (f : Nat) : Nat := s.rdf .est (R.EST.FEMAP f) 2 0
def State.feMask (s : State) (f : Nat) : Nat := s.rdf .est (R.EST.FEMAP f) 7 4

/-- The rest threshold in mA (R151). -/
def State.restMa (s : State) : Nat :=
  let ma := s.rdn .est R.EST.REST_MA
  if ma != 0 then ma
  else
    match s.psUse.map (fun n => s.psNum n 0x28 4) with
    | [] => 0
    | q :: t => (t.foldl min q) / s.rdf .est R.EST.REST_DIV 15 0

/-- Is EST not DISABLED? Then writes to a set in use are discarded (R144). -/
def State.setInUse (s : State) (n : Nat) : Bool := s.pageState .est != .disabled && s.rdb .est R.EST.CFG n

/-- A channel's front-end (R10). -/
def chanFe (c : Nat) : Nat := c / 8

/-- The nameplate capacity of a channel's set, in mAh. -/
def State.qName (s : State) (c : Nat) : Nat := s.psNum (s.feSet (chanFe c)) 0x28 4

/-- Bytes written into the parameter-set memory; those of a set in use are refused (R144). -/
def State.paramWrite (s : State) (off : Nat) (bytes : List Byte) : State :=
  let at' := bytes.zipIdx.map (fun (b, i) => (off + i, b))
  let inside := at'.filter (fun (a, _) => a < 0x200000)
  let (bad, good) := inside.partition (fun (a, _) => s.setInUse (a / 0x40000))
  let s := { s with est := { s.est with ps := good.foldl (fun m (a, b) => sset 0 m a b) s.est.ps } }
  (if bad = [] then s else (s.inc .est R.EST.PSREJ).flag .est 9)

/-- PARAMETER_SET_WRITE (R144): bytes of sets in use are discarded, and the write counted once; the others are stored. -/
def execParameterSetWrite (dt : Nat) (off : Nat) (bytes : List Byte) (s : State) : Host.Outcome State Fault Refusal :=
  .next ((s.elapse dt).hostDo .est (fun (s : State) => s.paramWrite off bytes))

/-- The CRC of a set's 262,144 bytes (R142). -/
def State.psCrc (s : State) (n : Nat) : Nat := crc32c (s.psBytes n 0 0x40000)

/-- PARAMETER_SET_SCRUB (R144): while EST is RUNNING a set in use whose CRC differs is OUT cause [3]. -/
def execParameterSetScrub (dt : Nat) (s : State) : Host.Outcome State Fault Refusal :=
  let s := s.elapse dt
  if s.running .est && s.psUse.any (fun n => s.psCrc n != s.rdn .est (R.EST.PS_REF n)) then .next (s.outEntry 3).trialOut
  else .next s

end Sys2Proof.Machine
end

