-- ==== Sys2Proof/Machine/Slots.lean ====
section
/-! DEFINITION. Modulator inputs as the control engine sees them, the modes of the loop slots and the forcing of the PWM
pairs (R215, R227, R232). -/

namespace Sys2Proof.Machine

open Sys2Proof

def State.modIn (s : State) (n : Nat) : ModIn := sget {} s.mod.ins n
def State.setModIn (s : State) (n : Nat) (v : ModIn) : State :=
  { s with mod := { s.mod with ins := sset {} s.mod.ins n v } }

/-- Clock group of an input (R103): MOD0 to MOD3 group 0, MOD4 to MOD11 group 1. -/
def modGroup (n : Nat) : Nat := if n < 4 then 0 else 1

def State.modEn (s : State) (n : Nat) : Bool := s.rdb .mod (R.MOD.IN_CFG n) 0
def State.clockDriver (s : State) : Bool := s.mod.mcksel = s.sys.strapB

/-- An enabled input is invalid now; while the MOD page is not RUNNING every enabled input is (R119). -/
def State.inputInvalid (s : State) (n : Nat) : Bool := s.modEn n && (!s.running .mod || !(s.modIn n).valid)

/-- The input delivers: enabled and valid. -/
def State.inputGood (s : State) (n : Nat) : Bool := s.modEn n && s.running .mod && (s.modIn n).valid

/-- The latest control output of an input where it is valid (R117). -/
def State.control (s : State) (n : Nat) : Option Int := if s.inputGood n then (s.modIn n).csmp else none

/-- The latest stage-path tick sample of an input where every bit of its three ticks was valid (R116, R117). -/
def State.tickSample (s : State) (n : Nat) : Option Int :=
  if s.inputGood n then
    match (s.modIn n).tsmp with
    | some (t, y) => if (s.modIn n).validFrom + 2 ≤ t then some y else none
    | none => none
  else none

/-! ### Start-up clear bits (R260) -/

/-- The start-up clear bits of the sixteen inputs; with SUT clear, or with EN clear, a bit is always 1. -/
def State.sutBits (s : State) : Nat :=
  bitsOf (fun n => !s.rdb .safe (R.SAFE.IN_CFG n) 3 || !s.rdb .safe (R.SAFE.IN_CFG n) 0 || s.safe.sut.testBit n) 16

/-! ### Slots and pairs -/

def State.slot (s : State) (n : Nat) : SlotSt := sget {} s.loops.slots n
def State.setSlot (s : State) (n : Nat) (v : SlotSt) : State :=
  { s with loops := { s.loops with slots := sset {} s.loops.slots n v } }
def State.pair (s : State) (m : Nat) : PairSt := sget {} s.loops.pairs m
def State.setPair (s : State) (m : Nat) (v : PairSt) : State :=
  { s with loops := { s.loops with pairs := sset {} s.loops.pairs m v } }

def loopPage (n : Nat) : Page := .loop (Fin.ofNat 8 n)

/-- The slot's source code and its modulator inputs (R216). -/
def State.srcKind (s : State) (n : Nat) : Nat := s.rdf (loopPage n) R.LOOP.SRC 3 0
def State.srcInputs (s : State) (n : Nat) : List Nat :=
  match s.srcKind n with
  | 0 => [s.rdf (loopPage n) R.LOOP.SRC 7 4]
  | 1 => ((List.range 8).filter (fun i => (s.rdf (loopPage n) R.LOOP.SRC 15 8).testBit i)).map (· + 4)
  | 2 => [s.rdf (loopPage n) R.LOOP.SRC 7 4]
  | _ => []

/-- An input of the slot's source is invalid (R227). -/
def State.sourceInvalid (s : State) (n : Nat) : Bool :=
  if s.srcKind n = 2 then (s.srcInputs n).any (fun i => (s.tickSample i).isNone)
  else (s.srcInputs n).any (fun i => (s.control i).isNone)

/-- The slot's output pair, where its output kind is PWM. -/
def State.slotPair (s : State) (n : Nat) : Option Nat :=
  if s.rdf (loopPage n) R.LOOP.OUT 1 0 = 1 then some (s.rdf (loopPage n) R.LOOP.OUT 6 4) else none

/-- The slots on RUNNING pages whose LOOP.OUT names the pair. -/
def State.pairSlots (s : State) (m : Nat) : List Nat :=
  (List.range 8).filter (fun n => s.running (loopPage n) && s.slotPair n = some m)

/-- KEEPn as its group's state drives it (R244): low, or toggling at 250 kHz. -/
inductive KeepPin where
  | low | toggling
  deriving DecidableEq, Repr

/-- The levels of KEEPn and TRIPn: the group's state alone decides the pins (R244). -/
def keepPin : GroupState → KeepPin
  | .withheld => .low
  | .keeping => .toggling
  | .tripped => .low
def tripPin : GroupState → Bool
  | .withheld => false
  | .keeping => false
  | .tripped => true

/-- KEEPn of the module; outside the states of R244's first row the group is WITHHELD and the pin low (R22). -/
def State.keepLevel (s : State) (n : Nat) : KeepPin := keepPin (sget .withheld s.prot.groups n)

/-- The module presents TRIPn: the pin is high (R244). -/
def State.presents (s : State) (n : Nat) : Bool := tripPin (sget .withheld s.prot.groups n)

/-- The causes of R232 that lie outside the pair's slot. -/
def State.forcedOutside (s : State) (m : Nat) : Bool :=
  !s.mode.runsString || !s.running .pwm || !s.rdb .pwm (R.PWM.PAIR_CFG m) 0 ||
  (s.rdb .pwm (R.PWM.PAIR_CFG m) 4 && s.presents 2)

/-- The source of the slot holds it: an input is invalid, or MEAS has never been written (R227). -/
def State.sourceHolds (s : State) (n : Nat) : Bool := s.sourceInvalid n || (s.srcKind n = 3 && !(s.slot n).meas)

/-- The slot's pair is forced low from outside the slot: by the causes of R232 that no slot gives, or by another slot
of the pair that its own source holds (log entry 102). -/
def State.pairHolds (s : State) (n : Nat) : Bool :=
  match s.slotPair n with
  | some m => s.forcedOutside m || (!s.rdb .pwm (R.PWM.PAIR_CFG m) 5 && (s.pairSlots m).any (fun k => k != n && s.sourceHolds k))
  | none => false

/-- The mode a slot is in (R215, R227). The forcing that its own pair takes from this slot's mode is no cause of the
HOLD. -/
def State.slotMode (s : State) (n : Nat) : Nat :=
  if !s.running (loopPage n) || !(s.mode = .ready || s.mode.runsString) then 0
  else if s.sourceHolds n || s.pairHolds n then 1
  else 2

/-- INIT of a slot as a Q8.40 content. -/
def State.slotInit (s : State) (n : Nat) : Int := s.rdi (loopPage n) R.LOOP.INIT * 2 ^ 17

/-- A slot takes the mode its conditions give it: entries into HOLD are flagged and counted and clear the plausibility
count; an entry into RUN starts afresh (R227, R228). -/
def State.slotEval (s : State) (n : Nat) : State :=
  let m := s.slotMode n
  let v := s.slot n
  let v := { v with msHold := v.msHold || m = 1, msInv := v.msInv || s.sourceInvalid n }
  let s := s.setSlot n v
  if m = v.mode then s
  else
    let p := loopPage n
    let s := s.wrf p R.LOOP.STAT 1 0 m
    if m = 1 then
      let s := s.setSlot n { v with mode := 1, pcount := 0, impl := false, prev := none }
      let s := ((s.wrf p R.LOOP.STAT 31 16 0).wrb p R.LOOP.STAT 6 false).flag p 14
      (if s.sourceHolds n then s.flag p 9 else s).inc p R.LOOP.HOLDS
    else if m = 2 then
      let k := s.slotInit n
      s.setSlot n { v with mode := 2, fresh := true, i := k, d := 0, e1 := 0, eh := [0, 0, 0], uh := [k, k, k], v := 0,
                           prev := none }
    else s.setSlot n { v with mode := 0, prev := none }

/-- Is the pair forced low (R232)? -/
def State.pairForced (s : State) (m : Nat) : Bool :=
  s.forcedOutside m ||
  (!s.rdb .pwm (R.PWM.PAIR_CFG m) 5 &&
    ((s.pairSlots m).isEmpty || (s.pairSlots m).any (fun n => (s.slot n).mode != 2)))

/-- The period of the pair's timebase in steps (R229). -/
def State.pairPer (s : State) (m : Nat) : Nat :=
  s.rdf .pwm (if s.rdb .pwm (R.PWM.PAIR_CFG m) 1 then R.PWM.TB1_CFG else R.PWM.TB0_CFG) 18 0

/-- The on-time of a duty given as a value (R230). -/
def State.onTime (s : State) (m : Nat) (u : Rat) : Nat :=
  let per := s.pairPer m
  let low := s.rdf .pwm (R.PWM.PAIR_MINPW m) 18 0
  let u := if u < 0 then 0 else if 1 < u then 1 else u
  let t := (roundAway (u * per)).toNat
  if t < low then 0 else if per < t + low then per else t

/-- A pair is forced or released as its conditions say (R232). -/
def State.pairEval (s : State) (m : Nat) : State :=
  let v := s.pair m
  let f := s.pairForced m
  if f = v.forced then s
  else if f then
    let s := s.setPair m {}
    let s := (s.wrn .pwm (R.PWM.ON m) 0).send (.pwmLow m s.mt)
    if s.rdb .pwm (R.PWM.PAIR_CFG m) 4 && s.presents 2 then s.flag .pwm 8 else s
  else
    let duty : Option (Nat × Nat) :=
      if s.rdb .pwm (R.PWM.PAIR_CFG m) 5 then some (s.onTime m (qv 23 (s.rdi .pwm (R.PWM.DUTY m))), s.mt) else none
    s.setPair m { shadow := duty, forced := false }

/-- Source 60, LOOP_IMPLAUS, follows the slots (R228). -/
def State.implRaw (s : State) : State :=
  let on := s.loops.slots.any (fun e => e.2.impl)
  { s with prot := { s.prot with raw := putBits s.prot.raw 60 60 (b2n on) } }

/-- PWM.STAT as it reads: the pairs forced low and switching, the drive levels and TRIP2. -/
def State.pwmStat (s : State) : Nat :=
  bitsOf s.pairForced 8 + 256 * bitsOf (fun m => (s.pair m).live) 8 + 65536 * b2n s.sys.driveEn +
  131072 * b2n s.tdm.peerDriveEn + 262144 * b2n (s.presents 2)

/-- Slots and pairs follow their conditions. -/
def State.loopEval (s : State) : State :=
  let s := (List.range 8).foldl State.slotEval s
  ((List.range 8).foldl State.pairEval s).implRaw

end Sys2Proof.Machine
end

