-- ==== Sys2Proof/Machine/Protect.lean ====
section
/-! DEFINITION. Protection and the trip matrix: sources, limits and their comparators, limit changes, trip groups
(R235 to R248, R464). -/

namespace Sys2Proof.Machine

open Sys2Proof

/-! ### Sources (R235, R236) -/

/-- A mask of `n` ones from bit `lo`. -/
def onesAt (lo n : Nat) : Nat := (2 ^ n - 1) * 2 ^ lo

/-- The sixteen SNS pages' not-RUNNING bits. -/
def State.snsDown (s : State) : Nat :=
  bitsOf (fun n => if h : n < 16 then !s.running (.sns ⟨n, h⟩) else false) 16

/-- The level of source MANUAL: the MRAM word's, or a later one that waits for PFW_N to rise (R464). -/
def State.manual (s : State) : Bool := s.prot.manWait.getD (s.mram.manual.value = 1)

/-- MANUAL takes a level (R464); no MRAM write starts while PFW_N is low (R166). -/
def State.setManual (s : State) (b : Bool) : State :=
  if b = s.manual then s
  else if s.sys.pfwLow then { s with prot := { s.prot with manWait := some b } }.writeDeferred
  else { s with mram := { s.mram with manual := s.mram.manual.write (b2n b) } }

/-- PFW_N has risen: a level that waited is written. -/
def State.manualResume (s : State) : State :=
  match s.prot.manWait with
  | some b => { s with prot := { s.prot with manWait := none } }.setManual b
  | none => s

/-- The levels of the 64 sources as the verdicts see them: the blocks' own levels under the rules of R95, R96, R236 and
R464. -/
def State.sources (s : State) : Nat :=
  let down := s.snsDown
  let raw := s.prot.raw
  let fe := (bits raw 31 16 &&& (0xFFFF ^^^ down)) * 2 ^ 16
  let low := (bits raw 15 0 ||| down) + fe
  let hi := raw - bits raw 31 0
  let hi := if !s.running .prot then hi ||| onesAt 48 9 else hi
  let hi := if !s.running .mod then hi ||| onesAt 52 5 else hi
  let hi := if s.manual then hi ||| 2 ^ 62 else hi
  let hi := if !s.running .safe then hi ||| onesAt 32 16 else hi
  low ||| hi

/-- The mask of group n (R243). -/
def State.groupMask (s : State) (n : Nat) : Nat := s.rd64 .trip (R.TRIP.MAP_LO n) (R.TRIP.MAP_HI n)

/-- The verdict of group n: some source of its mask is asserted (R243). -/
def State.verdict (s : State) (n : Nat) : Bool := s.sources &&& s.groupMask n != 0

/-- The lowest bit set of the low 64. -/
def lowestBit (x : Nat) : Nat := ((List.range 64).find? (fun b => x.testBit b)).getD 0

def State.group (s : State) (n : Nat) : GroupState := sget .withheld s.prot.groups n
def State.setGroup (s : State) (n : Nat) (g : GroupState) : State :=
  { s with prot := { s.prot with groups := sset .withheld s.prot.groups n g } }

/-- The start-up test of a group is clear when every safety input mapped to it has completed its start-up demand cycle
(R244). -/
def State.sutClear (s : State) (n : Nat) : Bool :=
  let m := bits (s.groupMask n) 47 32
  m &&& s.sutBits = m

/-- May groups leave WITHHELD (R244)? -/
def State.mayKeep (s : State) : Bool :=
  s.mode.runsString && s.running .trip && s.running .prot && !s.prot.r18

/-- Entry into TRIPPED (R244): the first source, the tick, the count, the flag, a locked record and a Waybill
trigger. -/
def State.tripEntry (s : State) (n : Nat) : State :=
  let src := s.sources
  let first := lowestBit (src &&& s.groupMask n)
  let s := s.setGroup n .tripped
  let s := s.wrn .trip (R.TRIP.FIRST n) (s.tick % 2 ^ 24 * 256 + 128 + first)
  let s := (s.inc .trip (R.TRIP.TRIPS n)).flag .trip (8 + n)
  let s := s.record .trip 0x02 ([1, BitVec.ofNat 8 n, BitVec.ofNat 8 first, 0] ++ leBytes 8 src ++ leBytes 8 s.tick)
  s.trigger 3 n

/-- One group follows its table (R244, R245): WITHHELD where it must be; KEEPING to TRIPPED on a true verdict; an auto
group to KEEPING on a false one. -/
def State.groupStep (s : State) (n : Nat) : State :=
  if !s.mayKeep then s.setGroup n .withheld
  else
    match s.group n, s.verdict n with
    | .keeping, true => s.tripEntry n
    | .keeping, false => s
    | _, false =>
      if s.rdf .trip (R.TRIP.GRP_CFG n) 1 0 = 0 && s.sutClear n then s.setGroup n .keeping else s
    | _, true => s

/-- The matrix evaluates the sources once (R243): SEEN and the page's flags follow rising sources, then every group moves.
The safety island evaluates in every state from BOOT on. -/
def State.matrixEval (s : State) : State :=
  if !s.mode.serves then s
  else
    let now := s.sources
    let rise := now &&& (2 ^ 64 - 1 - s.prot.eff)
    let derate := s.rd64 .prot R.PROT.DERATE_MASK_LO R.PROT.DERATE_MASK_HI
    let was := s.prot.eff &&& derate != 0
    let s := { s with prot := { s.prot with eff := now } }
    let s := if rise = 0 then s else
      let s := s.wrn .prot R.PROT.SEEN_LO (s.rdn .prot R.PROT.SEEN_LO ||| bits rise 31 0)
      let s := s.wrn .prot R.PROT.SEEN_HI (s.rdn .prot R.PROT.SEEN_HI ||| bits rise 63 32)
      let s := if bits rise 49 49 = 1 || bits rise 51 51 = 1 then s.flag .prot 8 else s
      let s := if bits rise 48 48 = 1 || bits rise 50 50 = 1 then s.flag .prot 9 else s
      if bits rise 55 52 = 0 then s else s.flag .prot 10
    let s := if now &&& derate != 0 && !was then s.flag .prot 13 else s
    (List.range 4).foldl State.groupStep s

/-- The matrix, and the slots and pairs that follow its groups; a LOOP_IMPLAUS that a slot's HOLD ends reaches the matrix
again (R228, R232, R243). -/
def State.protEval (s : State) : State := s.matrixEval.loopEval.matrixEval.loopEval

/-- A block sets the level of a source; the matrix follows without a step between (R243). -/
def State.setSource (s : State) (n : Nat) (b : Bool) : State :=
  let raw := putBits s.prot.raw n n (b2n b)
  if raw = s.prot.raw then s else { s with prot := { s.prot with raw := raw } }.protEval

/-! ### Cell limits (R237) -/

def State.limPart (s : State) (c : Nat) : LimPart := sget {} s.prot.lim c
def State.chanLim (s : State) (c : Nat) : ChanLim := sget {} s.prot.chan c
def State.setChanLim (s : State) (c : Nat) (v : ChanLim) : State :=
  { s with prot := { s.prot with chan := sset {} s.prot.chan c v } }

/-- The channel's ring page and position. -/
def chanRing (c : Nat) : Fin 16 := ⟨c / 32 % 16, Nat.mod_lt _ (by decide)⟩
def chanPos (c : Nat) : Nat := c / 8 % 4

/-- A channel is present when its position is populated (R10, SNS.CFG.POP). -/
def State.present (s : State) (c : Nat) : Bool :=
  (s.rdf (.sns (chanRing c)) R.SNS.CFG 3 0).testBit (chanPos c)

/-- One level of R237: `beyond` and `inside` say where the value lies; the flag changes after `n` consecutive ones. -/
def persist (n : Nat) (flag : Bool) (cnt : Nat) (beyond inside : Bool) : Bool × Nat :=
  if (if flag then inside else beyond) then
    if n ≤ cnt + 1 then (!flag, 0) else (flag, cnt + 1)
  else (flag, 0)

/-- A channel's levels from `k` on, over their (beyond, inside) pairs. -/
def ChanLim.levels (n : Nat) : Nat → List (Bool × Bool) → ChanLim → ChanLim
  | _, [], v => v
  | k, (b, i) :: t, v =>
    let (f, c) := persist n (v.flags.testBit k) (v.cnt.getD k 0) b i
    ChanLim.levels n (k + 1) t { v with flags := putBits v.flags k k (b2n f), cnt := v.cnt.set k c }

/-- Sources 48 to 51 and the counts follow the channels' flags: bits 0 and 2 are voltage alarms, 1 and 3 voltage trips,
4 and 6 temperature alarms, 5 and 7 temperature trips. -/
def State.cellSources (s : State) : State :=
  let any := fun m => s.prot.chan.any (fun e => e.2.flags &&& m != 0)
  let raw := putBits s.prot.raw 51 48 (b2n (any 0x05) + 2 * b2n (any 0x0A) + 4 * b2n (any 0x50) + 8 * b2n (any 0xA0))
  if raw = s.prot.raw then s else { s with prot := { s.prot with raw := raw } }.protEval

/-- An accepted voltage code of a present channel is compared with the four voltage limits (R237); code 0xF_FFFF neither
advances nor resets the counts. -/
def State.limitCompare (s : State) (c code tick : Nat) : State :=
  if !s.running .prot || !s.present c then s
  else if code = 0xFFFFF then s.setChanLim c { s.chanLim c with invalid := true, vcode := code, vtick := tick }
  else
    let l := s.limPart c
    let h := s.rdf .prot R.PROT.HYS 15 0
    let ovr := fun lim => (decide (lim < code), decide (code + h ≤ lim))
    let under := fun lim => (decide (code < lim), decide (lim + h ≤ code))
    let v := ChanLim.levels (s.rdf .prot R.PROT.CFG 7 0) 0 [ovr l.vhAlm, ovr l.vhTrip, under l.vlAlm, under l.vlTrip]
      { s.chanLim c with invalid := false, vcode := code, vtick := tick }
    (s.setChanLim c v).cellSources

/-- T_prot of a published step is compared with the four temperature limits (R237). -/
def State.limitTemp (s : State) (c : Nat) (t : Int) : State :=
  if !s.running .prot || !s.present c then s
  else
    let l := s.limPart c
    let h : Int := s.rdf .prot R.PROT.HYS 31 16
    let ovr := fun (lim : Int) => (decide (lim < t), decide (t + h ≤ lim))
    let under := fun (lim : Int) => (decide (t < lim), decide (lim + h ≤ t))
    let v := ChanLim.levels (s.rdf .prot R.PROT.CFG 15 8) 4 [ovr l.thAlm, ovr l.thTrip, under l.tlAlm, under l.tlTrip]
      { s.chanLim c with tprot := t }
    (s.setChanLim c v).cellSources

/-- The limit part's 24 bytes (R237). -/
def LimPart.bytes (l : LimPart) : List Byte :=
  leBytes 4 l.vhTrip ++ leBytes 4 l.vhAlm ++ leBytes 4 l.vlAlm ++ leBytes 4 l.vlTrip ++ leBytes 2 (unsign 16 l.thTrip) ++
  leBytes 2 (unsign 16 l.thAlm) ++ leBytes 2 (unsign 16 l.tlAlm) ++ leBytes 2 (unsign 16 l.tlTrip)

/-- A ring's channels that are absent now have every flag clear (R237). -/
def State.absentClear (s : State) (n : Fin 16) : State :=
  let s := { s with prot := { s.prot with chan := s.prot.chan.map (fun (e : Nat × ChanLim) =>
    if e.1 / 32 = n.val && !s.present e.1 then (e.1, { e.2 with flags := 0, cnt := [0, 0, 0, 0, 0, 0, 0, 0] }) else e) } }
  s.cellSources

/-- LFLAGS of a channel (R237). -/
def State.lflags (s : State) (c : Nat) : Nat :=
  (s.chanLim c).flags + 256 * b2n (!s.present c) + 512 * b2n (s.chanLim c).invalid

/-- Bytes 0x00 to 0x1F of a channel's entry of the limits table, and bytes 0x20 to 0x3F as a rewrite leaves them (R237). -/
def State.limHead (s : State) (c : Nat) : List Byte :=
  let l := s.limPart c
  l.bytes ++ leBytes 4 l.lseq ++ zeros 4
def State.limTail (s : State) (c : Nat) : List Byte :=
  let v := s.chanLim c
  let b := leBytes 4 (s.lflags c) ++ leBytes 4 v.vcode ++ leBytes 2 (unsign 16 v.tprot) ++ zeros 6 ++ leBytes 8 v.vtick ++ zeros 4
  b ++ leBytes 4 (crc32c (s.limHead c ++ b))

/-- With the input deadline of a tick the status of every entry is rewritten (R237). -/
def State.limRewrite (s : State) : State :=
  { s with prot := { s.prot with shown := (List.range 512).map (fun c => (c, s.limTail c)) } }

/-- A channel's 64-byte entry of the limits table: its limits now, its status as rewritten last, and zeros before the
first rewrite (R237, log entry 104). -/
def State.limEntry (s : State) (c : Nat) : List Byte := s.limHead c ++ sget (zeros 32) s.prot.shown c

/-! ### Fast and slow comparators (R238, R239) -/

def State.comparator (s : State) (k : Nat) : Comparator := sget {} s.prot.comp k
def State.setComparator (s : State) (k : Nat) (v : Comparator) : State :=
  { s with prot := { s.prot with comp := sset {} s.prot.comp k v } }

/-- A comparator takes one valid output: it changes after `n` consecutive ones on the other side. -/
def Comparator.take (v : Comparator) (n : Nat) (beyond : Bool) : Comparator :=
  let (l, c) := persist n v.level v.cnt beyond (!beyond)
  { level := l, cnt := c }

/-- Sources 52 to 56 follow their comparators. -/
def State.ocSources (s : State) : State :=
  let lv := fun k => (s.comparator k).level
  let raw := putBits s.prot.raw 56 52 (b2n (lv 0) + 2 * b2n (lv 1) + 4 * b2n (lv 4) + 8 * b2n (lv 5) +
    16 * b2n (lv 2 || lv 3))
  if raw = s.prot.raw then s else { s with prot := { s.prot with raw := raw } }.protEval

/-- The limit of fast comparator k, as a magnitude (R238). -/
def State.fastLimit (s : State) (k : Nat) : Nat :=
  match k with
  | 0 => bits s.prot.str.ocf 15 0
  | 1 => bits s.prot.str.ocf 31 16
  | 2 => bits s.prot.str.vhi 15 0
  | _ => bits s.prot.str.vhi 31 16

/-- A valid fast output of MODk is compared (R238). -/
def State.fastCompare (s : State) (k : Nat) (x : Int) : State :=
  if !s.running .prot || !s.running .mod then s
  else
    (s.setComparator k ((s.comparator k).take (s.rdf .prot R.PROT.CFG 18 16) (s.fastLimit k < x.natAbs))).ocSources

/-- A valid stage-path tick sample of MOD0 or MOD1, as a current in mA, is compared with the band (R239). -/
def State.slowCompare (s : State) (k : Nat) (i : Rat) : State :=
  if !s.running .prot || !s.running .mod then s
  else
    let m : Rat := 1 + (s.rdf .prot R.PROT.SLOW 7 0 : Rat) / 256
    let out := decide (i < -((s.prot.str.dis : Rat) * m)) || decide ((s.prot.str.chg : Rat) * m < i)
    (s.setComparator (4 + k) ((s.comparator (4 + k)).take (s.rdf .prot R.PROT.SLOW 31 16) out)).ocSources

/-- When MOD or PROT enters RUNNING the counts of R238 and R239 restart with the sources asserted (R236). -/
def State.restartComparators (s : State) : State :=
  { s with prot := { s.prot with comp := [] } }.ocSources

/-! ### Derating (R240) -/

/-- The string current limits with the derating factor, rounded down (R240): charge and discharge, mA. -/
def State.stringLimits (s : State) : Nat × Nat :=
  let on := s.sources &&& s.rd64 .prot R.PROT.DERATE_MASK_LO R.PROT.DERATE_MASK_HI != 0
  let d := if on then s.prot.str.derate else 65536
  (s.prot.str.chg * d / 65536, s.prot.str.dis * d / 65536)

/-! ### Changing limits (R241) -/

def LimString.bytes (l : LimString) : List Byte :=
  leBytes 4 l.ocf ++ leBytes 4 l.chg ++ leBytes 4 l.dis ++ leBytes 4 l.vhi ++ leBytes 4 l.derate

/-- The CRC of a limit set (R241). -/
def limCrcOf (lim : List (Nat × LimPart)) (str : LimString) : Nat :=
  crc32c ((List.range 512).flatMap (fun c => (sget {} lim c).bytes) ++ str.bytes)

/-- The limit part in a LIMIT_WRITE's 24 bytes. -/
def parseLimPart (b : List Byte) (seq : Nat) : LimPart :=
  { vhTrip := leAt b 0 4, vhAlm := leAt b 4 4, vlAlm := leAt b 8 4, vlTrip := leAt b 12 4,
    thTrip := signed 16 (leAt b 16 2), thAlm := signed 16 (leAt b 18 2), tlAlm := signed 16 (leAt b 20 2),
    tlTrip := signed 16 (leAt b 22 2), lseq := seq }

def parseLimString (b : List Byte) : LimString :=
  { ocf := leAt b 0 4, chg := leAt b 4 4, dis := leAt b 8 4, vhi := leAt b 12 4, derate := leAt b 16 4 }

/-- A limit set with one LIMIT_WRITE's parameters applied. -/
def limApply (p : List Byte) (seq : Nat) (x : List (Nat × LimPart) × LimString) : List (Nat × LimPart) × LimString :=
  if byteAt p 0 = 0 then
    let part := parseLimPart (slice p 8 24) seq
    let first := leAt p 2 2
    ((List.range (leAt p 4 2 + 1 - first)).foldl (fun l k => sset {} l (first + k) part) x.1, x.2)
  else (x.1, parseLimString (slice p 8 20))

/-- The parameters of the accepted LIMIT_WRITEs whose effect tick has not begun, in order (R241). -/
def State.limPending (s : State) : List (List Byte) :=
  (s.events.filter (fun e => e.kind = 2 && byteAt e.content 5 = 0x03 && s.tick < e.effect)).map
    (fun e => cmdParams (e.content.drop 4))

/-- Must a LIMIT_WRITE be refused at judgement (R241)? -/
def State.limitRefused (s : State) (p : List Byte) : Bool :=
  let base := s.limPending.foldl (fun x q => limApply q 0 x) (s.prot.lim, s.prot.str)
  let part := parseLimPart (slice p 8 24) 0
  let str := parseLimString (slice p 8 20)
  let chanBad := byteAt p 0 = 0 &&
    (decide (leAt p 4 2 < leAt p 2 2) || decide (511 < leAt p 4 2) ||
     !(decide (part.vlTrip ≤ part.vlAlm) && decide (part.vlAlm < part.vhAlm) && decide (part.vhAlm ≤ part.vhTrip)) ||
     !(decide (part.tlTrip ≤ part.tlAlm) && decide (part.tlAlm < part.thAlm) && decide (part.thAlm ≤ part.thTrip)) ||
     decide (0xFFFFE < part.vhTrip))
  let strBad := byteAt p 0 != 0 &&
    (byteAt p 0 != 1 || bits str.ocf 15 0 = 0 || bits str.ocf 31 16 = 0 || str.chg = 0 || str.dis = 0 ||
     bits str.vhi 15 0 = 0 || bits str.vhi 31 16 = 0 || bits str.derate 15 0 = 0 || bits str.derate 31 16 != 0)
  if chanBad || strBad then true
  else
    let (l, g) := limApply p 0 base
    limCrcOf l g != leAt p 32 4

/-- The registers that show the limit set in force. -/
def State.showLimits (s : State) : State :=
  let s := ((s.wrn .prot R.PROT.OCF s.prot.str.ocf).wrn .prot R.PROT.ISTR_CHG s.prot.str.chg).wrn .prot R.PROT.ISTR_DIS
    s.prot.str.dis
  let s := (s.wrn .prot R.PROT.VHI s.prot.str.vhi).wrn .prot R.PROT.DERATE s.prot.str.derate
  (s.wrn .prot R.PROT.LIM_CRC s.mram.limCrc).wrn .prot R.PROT.LIM_SEQ s.mram.limSeq

/-- An accepted LIMIT_WRITE is applied whole at its effect tick (R241): the set in force and the stored one change,
LIM_SEQ advances, LIMCHG is set and a locked record is written. -/
def State.limitChange (s : State) (m : List Byte) : State :=
  let p := cmdParams m
  let seq := s.mram.limSeq + 1
  let (l, g) := limApply p seq (s.prot.lim, s.prot.str)
  let crc := limCrcOf l g
  let s := { s with prot := { s.prot with lim := l, str := g },
                    mram := { s.mram with lim := l, limStr := g, limSeq := seq, limCrc := crc } }
  let s := s.showLimits.flag .prot 11
  let s := s.record .prot 0x02 ([2, BitVec.ofNat 8 (byteAt p 0)] ++ slice p 2 4 ++ [BitVec.ofNat 8 (byteAt m 4), 0] ++
    leBytes 4 seq ++ leBytes 4 crc ++ leBytes 8 s.tick ++ leBytes 8 (leAt m 0x10 8))
  s.protEval

/-- A module that takes STANDBY adopts the active's limit set (R248); when its own differed it writes a rolling
record. The set behind the peer's LIM_CRC has no carrier in the spec and is free (log entry 6). -/
def State.adoptLimits (s : State) : State :=
  let crc := s.tdm.peer.limCrc
  if crc = s.mram.limCrc then s
  else
    let b := Config.peerLimitSet crc
    let seq := Config.peerLimitSeq crc
    let l := (List.range 512).foldl (fun l c => sset {} l c (parseLimPart (slice b (24 * c) 24) seq)) []
    let g := parseLimString (b.drop 12288)
    let old := s.mram.limCrc
    let s := { s with prot := { s.prot with lim := l, str := g },
                      mram := { s.mram with lim := l, limStr := g, limSeq := seq, limCrc := crc } }
    let s := s.showLimits.record .prot 0x13 ([2, 0, 0, 0] ++ leBytes 4 old ++ leBytes 4 crc ++ leBytes 4 seq)
    s.protEval

/-! ### Releases (R245, R247, R464) -/

/-- A release of group n at its effect tick by mechanism 1 (host) or 2 (authenticated) (R245): whether it is rejected,
and the state after. -/
def State.release (s : State) (mech n : Nat) : Bool × State :=
  if s.rdf .trip (R.TRIP.GRP_CFG n) 1 0 != mech then (true, s)
  else
    match s.group n with
    | .keeping => (false, s)
    | _ =>
      if !s.mayKeep || s.verdict n || !s.sutClear n then (true, s)
      else (false, s.setGroup n .keeping)

/-- The releases of a group mask (R245): each rejection is counted and flagged; the answer says whether any was. -/
def State.releases (s : State) (mech mask : Nat) : Bool × State :=
  (List.range 4).foldl (fun (x : Bool × State) n =>
    if mask.testBit n then
      let (r, s) := x.2.release mech n
      if r then (true, (s.inc .trip R.TRIP.RELREJ).flag .trip 12) else (x.1, s)
    else x) (false, s)

/-- A write of TRIP.CMD takes effect (R245, R464): MAN_SET precedes MAN_CLR. -/
def State.tripCmdEffect (s : State) (v : Nat) : State :=
  let s := if v.testBit 8 then (s.setManual true).protEval else if v.testBit 9 then (s.setManual false).protEval else s
  if bits v 3 0 = 0 then s else (s.releases 1 (bits v 3 0)).2

/-- Peer adoption (R247): a WITHHELD group of a module in a role goes to KEEPING when a peer in a role reports it
KEEPING, its own verdict is false and its start-up test is clear. -/
def State.adoptPeerTrips (s : State) : State :=
  if s.mayKeep && 4 ≤ s.tdm.peer.state && s.tdm.peer.state ≤ 6 then
    (List.range 4).foldl (fun s n =>
      if s.group n = .withheld && bits s.tdm.peer.tripst (2 * n + 1) (2 * n) = 1 && !s.verdict n && s.sutClear n then
        s.setGroup n .keeping
      else s) s
  else s

/-- TRIP.GSTAT.STATE, which heartbeats carry too (R279). -/
def State.tripStates (s : State) : Nat :=
  (List.range 4).foldl (fun a n =>
    a + 4 ^ n * (match s.group n with | .withheld => 0 | .keeping => 1 | .tripped => 2)) 0

/-- RELEASE (R222, R245): a write of TRIP.CMD.RELEASE is an event input. -/
def execTripRelease (dt : Nat) (groups : BitVec 4) (s : State) : Host.Outcome State Fault Refusal :=
  .next ((s.elapse dt).hostDo .trip (fun (s : State) => s.hostEvent .trip R.TRIP.CMD (BitVec.ofNat 32 groups.toNat)))

/-- MAN_SET (R222, R464). -/
def execManSet (dt : Nat) (s : State) : Host.Outcome State Fault Refusal :=
  .next ((s.elapse dt).hostDo .trip (fun (s : State) => s.hostEvent .trip R.TRIP.CMD 0x100))

/-- MAN_CLR (R222, R464). -/
def execManClr (dt : Nat) (s : State) : Host.Outcome State Fault Refusal :=
  .next ((s.elapse dt).hostDo .trip (fun (s : State) => s.hostEvent .trip R.TRIP.CMD 0x200))

/-- LIMIT_TABLE_WRITE (R237): host writes into the table are discarded and counted. -/
def execLimitTableWrite (dt : Nat) (_off : Nat) (_bytes : List Byte) (s : State) : Host.Outcome State Fault Refusal :=
  .next ((s.elapse dt).hostDo .prot (fun (s : State) => s.inc .prot R.PROT.TBLREJ))

end Sys2Proof.Machine
end

