-- ==== Sys2Proof/Machine/Sense.lean ====
section
/-! DEFINITION. The sense rings: coaches, compartments, relay across the tandem, enumeration, breaks, alerts and pack
authentication (R77 to R100). -/

namespace Sys2Proof.Machine

open Sys2Proof

def State.sring (s : State) (n : Nat) : RingSns := sget {} s.sns n
def State.setSring (s : State) (n : Nat) (r : RingSns) : State := { s with sns := sset {} s.sns n r }
def State.fe (s : State) (n p : Nat) : FeSt := sget {} (s.sring n).fe p
def State.setFe (s : State) (n p : Nat) (v : FeSt) : State :=
  let r := s.sring n
  s.setSring n { r with fe := sset {} r.fe p v }

def State.pop (s : State) (n : Fin 16) : Nat := s.rdf (.sns n) R.SNS.CFG 3 0
def popSize (pop : Nat) : Nat := popCount pop 4
def State.feState (s : State) (n : Fin 16) (p : Nat) : Nat := s.rdf (.sns n) (R.SNS.FE p) 3 0
def State.setFeState (s : State) (n : Fin 16) (p v : Nat) : State := s.wrf (.sns n) (R.SNS.FE p) 3 0 v
def State.ringMode (s : State) (n : Fin 16) : Nat := s.rdf (.sns n) R.SNS.RING 1 0
def State.setRingMode (s : State) (n : Fin 16) (v : Nat) : State := s.wrf (.sns n) R.SNS.RING 1 0 v

/-- A page that may drive or listen: ENABLING or RUNNING (R77). -/
def State.snsLive (s : State) (n : Fin 16) : Bool :=
  (s.pageState (.sns n) = .enabling || s.pageState (.sns n) = .running) &&
  (s.mode.speaks || (s.mode = .boot && s.sys.bootPhase = 9))

/-- The identity a position reports. -/
def State.reportedId (s : State) (n : Fin 16) (p : Nat) : Nat := s.rd64 (.sns n) (R.SNS.IDLO p) (R.SNS.IDHI p)

/-! ### Coaches (R78) -/

/-- A received coach is whole: no line error, one of the lengths of its type, its type byte and its CRC (R78). -/
def coachOk (lineOk : Bool) (type : Nat) (lens : List Nat) (b : List Byte) : Bool :=
  lineOk && lens.contains b.length && byteAt b 0 = type &&
  crc32c (b.take (b.length - 4)) = leNat (b.drop (b.length - 4))

def withCrc (b : List Byte) : List Byte := b ++ leBytes 4 (crc32c b)

/-- The command coach of the current tick (R80). -/
def commandCoach (s : State) (n : Fin 16) (chal : Option (Nat × Nat)) (mgmtPos mgmtOp mgmtAddr mgmtData : Nat) (exc : Bool)
    (bal : List Int) : List Byte :=
  let flags := b2n chal.isSome + 2 * b2n (mgmtOp != 0) + 4 * b2n s.sys.strapB + 8 * b2n (s.ringMode n = 3)
  let (cp, nonce) := chal.getD (0, 0)
  withCrc ([0x43, BitVec.ofNat 8 flags, 0, 0] ++ leBytes 8 s.tick ++ leBytes 4 (s.tick % 4000 + 4096 * b2n exc) ++
    bal.flatMap (fun i => leBytes 2 (unsign 12 i)) ++ [BitVec.ofNat 8 cp, 0, 0, 0] ++ leBytes 12 nonce ++
    [BitVec.ofNat 8 mgmtPos, BitVec.ofNat 8 mgmtOp] ++ leBytes 2 mgmtAddr ++ leBytes 2 mgmtData ++ [0, 0])

/-- A data coach with empty slots that this module opens (R81): the downstream one that follows its command coach,
with ECHO_HOPS 0, or as far end the upstream one that answers the other end's, with HOPS as received (R86). The
extension is there in the last tick of a stage (R83). -/
def emptyDataCoach (s : State) (echo : Nat) : List Byte :=
  let ext := decide (s.tick % 20 = 19)
  withCrc ([0x44, BitVec.ofNat 8 (b2n ext + 4 * b2n (!s.sys.strapB) + 8), BitVec.ofNat 8 echo, 0] ++ leBytes 8 s.tick ++
    zeros 4 ++ zeros (4 * if ext then 96 else 64))

/-! ### Challenges (R97 to R99) -/

/-- The device key of a front-end (R97): CMAC under the pack key over "VRL-FE" and the identity. -/
def deviceKey (pack : List Byte) (id : Nat) : List Byte :=
  cmac pack ([0x56, 0x52, 0x4C, 0x2D, 0x46, 0x45] ++ leBytes 8 id)

/-- The response a front-end must give to a challenge (R97). -/
def chalResponse (pack : List Byte) (nonce id ring pos : Nat) : List Byte :=
  (cmac (deviceKey pack id) (leBytes 12 nonce ++ leBytes 8 id ++ [BitVec.ofNat 8 ring, BitVec.ofNat 8 pos])).take 8

/-- A verdict on its way to the estimator (R67, R99): the active accepts it as an event input and mirrors it, a
standby that hears its peer takes it from the mirror, and any other module accepts it for itself. R282 gives it no
KIND: the item's is 0x8001 (log entry 85). -/
def State.verdictEvent (s : State) (n : Fin 16) (p v : Nat) : State :=
  let c : List Byte := [BitVec.ofNat 8 n.val, BitVec.ofNat 8 p, BitVec.ofNat 8 v]
  if s.mode = .standby && s.tdm.peer.heard && !s.tdm.silent then s
  else if s.mode = .active && !s.tdm.fenced then s.acceptEvent 0x8001 c
  else s.acceptLocal 0x8001 c

/-- The verdict (R99): the position's state, the new identity, the record, and the event input. -/
def State.verdictOf (s : State) (n : Fin 16) (p : Nat) (passed : Bool) : State :=
  let f := 4 * n.val + p
  let held := s.heldId f
  let id := s.reportedId n p
  let same := held = id && held != 0
  let failed := (s.fe n.val p).chal.failed
  let rec' := fun (s : State) (v : Nat) => s.record (.sns n) 0x04 ([1, BitVec.ofNat 8 n.val, BitVec.ofNat 8 p,
    BitVec.ofNat 8 v] ++ leBytes 8 held ++ leBytes 8 id ++ [BitVec.ofNat 8 failed, 0, 0, 0])
  let event := fun (s : State) (v : Nat) => s.verdictEvent n p v
  let pass := fun (s : State) => (s.jrnPut (1 + f) 0x18 (leBytes 8 s.mt)).jrnPut (1 + f) 0x10 [1]
  if passed then
    let s := s.setFeState n p 2
    if same then event (pass s) 1
    else event (rec' (pass (s.jrnPut (1 + f) 8 (leBytes 8 id))) 3) 3
  else
    let s := s.flag (.sns n) 12
    if same then event (rec' (((s.setFeState n p 3).flag (.sns n) 13).jrnPut (1 + f) 0x10 [2]) 2) 2
    else event (rec' ((s.setFeState n p 4).jrnPut (1 + f) 0x10 [3]) 4) 4

/-- An attempt passes or fails (R98): a pass ends the challenge; the third failure fails it; a failure before that makes
a fresh attempt due after t_chal_gap. -/
def State.attemptEnds (s : State) (n : Fin 16) (p : Nat) (ok : Bool) : State :=
  let v := s.fe n.val p
  if ok then
    let s := s.setFe n.val p { v with chal := { v.chal with want := false, failed := 0, openAt := none, lastPass := some s.mt } }
    let s := (s.wrf (.sns n) (R.SNS.FE p) 7 4 0).wrf (.sns n) (R.SNS.FE p) 31 16 0
    s.verdictOf n p true
  else
    let k := v.chal.failed + 1
    let s := s.setFe n.val p { v with chal := { v.chal with want := false, failed := k, openAt := none, failMt := s.mt } }
    let s := s.wrf (.sns n) (R.SNS.FE p) 7 4 (min k 3)
    if 3 ≤ k then
      let s := s.verdictOf n p false
      let v := s.fe n.val p
      s.setFe n.val p { v with chal := { v.chal with failed := 0 } }
    else s

/-- The VERDICT frame for a challenge this module verified (R98, R280). -/
def State.sendVerdict (s : State) (n : Fin 16) (p result attempt tick nonce : Nat) : State :=
  s.sendFrame 0x0C ([BitVec.ofNat 8 n.val, BitVec.ofNat 8 p, BitVec.ofNat 8 result, BitVec.ofNat 8 attempt] ++
    leBytes 8 tick ++ leBytes 8 (s.reportedId n p) ++ leBytes 12 nonce ++ zeros 8)

/-- A response seen on this module's own port is verified (R97, R98); the pack key is slot 8. -/
def State.verifyResponse (s : State) (n : Fin 16) (p : Nat) (c : List Byte) : State :=
  match (s.fe n.val p).chal.openAt with
  | none => s
  | some (t, nonce) =>
    if (byteAt c 2).testBit 3 && byteAt c 3 = t % 256 && t < s.tick && s.tick ≤ t + 4 then
      let ok := slice c 0x38 8 = chalResponse (s.keySlot 8).key nonce (leAt c 4 8) n.val p
      let k := (s.fe n.val p).chal.failed + 1
      let s := s.sendVerdict n p (if ok then 1 else if 3 ≤ k then 3 else 2) k t nonce
      s.attemptEnds n p ok
    else s

/-- A challenge is wanted at a position; a LOST one waits for its return (R95). -/
def State.wantChallenge (s : State) (n : Fin 16) (p : Nat) : State :=
  let v := s.fe n.val p
  if s.feState n p = 5 then s
  else s.setFe n.val p { v with chal := { v.chal with want := true, failed := 0 } }

/-- Every position of POP is challenged again (R98). -/
def State.wantAll (s : State) (n : Fin 16) : State :=
  (List.range 4).foldl (fun s p => if (s.pop n).testBit p then s.wantChallenge n p else s) s

/-- CHALLENGE_DUE (R98, R99): 86,400 s after the last passed challenge, or 600 s after a failed one. -/
def execChallengeDue (dt : Nat) (ring : Fin 16) (pos : Fin 4) (s : State) : Host.Outcome State Fault Refusal :=
  let s := s.elapse dt
  let c := (s.fe ring.val pos.val).chal
  let st := s.feState ring pos.val
  let due := match c.lastPass with
    | some m => st = 2 && m + 86400000000000 ≤ s.mt
    | none => false
  let again := (st = 3 || st = 4) && c.failMt + 600000000000 ≤ s.mt
  if due || again then .next (s.wantChallenge ring pos.val) else .next s

/-- CHALLENGE_RETRY (R98): a fresh attempt at least t_chal_gap (10 ms) after a failed one. -/
def execChallengeRetry (dt : Nat) (ring : Fin 16) (pos : Fin 4) (s : State) : Host.Outcome State Fault Refusal :=
  let s := s.elapse dt
  let v := s.fe ring.val pos.val
  if 0 < v.chal.failed && v.chal.failed < 3 && v.chal.openAt = none && v.chal.failMt + 10000000 ≤ s.mt then
    .next (s.setFe ring.val pos.val { v with chal := { v.chal with want := true } })
  else .next s

/-- CHALLENGE_ALL (R98): a write of SNS.CMD.CHALLENGE_ALL. -/
def execChallengeAll (dt : Nat) (ring : Fin 16) (s : State) : Host.Outcome State Fault Refusal :=
  .next ((s.elapse dt).hostDo (.sns ring) (fun (s : State) => s.wantAll ring))

/-- ASSIGN is to be sent again for every hop. -/
def State.reenum (s : State) (ring : Fin 16) : State :=
  if s.rdb (.sns ring) R.SNS.RING 12 then
    let r := s.sring ring.val
    (s.setSring ring.val { r with assign := List.range r.hopsOwn })
  else s

/-- REENUM: ASSIGN is sent again for every hop; ignored unless the module is the driving end. -/
def execReenum (dt : Nat) (ring : Fin 16) (s : State) : Host.Outcome State Fault Refusal :=
  .next ((s.elapse dt).hostDo (.sns ring) (fun (s : State) => s.reenum ring))

/-- VERDICT (R98): the peer's verdict of a challenge this module did not see on its own port. -/
def execVerdict (dt : Nat) (f : TandemHead) (bytes : List Byte) (s : State) : Host.Outcome State Fault Refusal :=
  let (ok, s) := (s.elapse dt).takeFrame 0x0C f bytes
  let n : Fin 16 := ⟨byteAt bytes 0 % 16, Nat.mod_lt _ (by decide)⟩
  let p := byteAt bytes 1 % 4
  let saw := match (s.fe n.val p).chal.seenAt with
    | some (t, nonce) => t = leAt bytes 4 8 && nonce = leAt bytes 0x14 12
    | none => false
  if ok && bytes.length = 40 && byteAt bytes 0 < 16 && byteAt bytes 1 < 4 && !saw && s.running (.sns n) then
    let v := s.fe n.val p
    let s := s.setFe n.val p { v with chal := { v.chal with failed := byteAt bytes 3 - 1 } }
    .next (s.attemptEnds n p (byteAt bytes 2 = 1))
  else .next s

/-! ### Breaks and healing (R93, R94) -/

/-- The RING record (R335). -/
def State.ringRecord (s : State) (n : Fin 16) (event cause pos : Nat) : State :=
  let g := s.rd (.sns n) R.SNS.RING
  s.record (.sns n) 0x10 ([BitVec.ofNat 8 event, BitVec.ofNat 8 n.val, BitVec.ofNat 8 cause, BitVec.ofNat 8 pos,
    BitVec.ofNat 8 (fld g 7 4), BitVec.ofNat 8 (fld g 11 8), 0, 0] ++ leBytes 8 s.tick)

/-- A break is declared (R93): flagged, counted, recorded; the ring enters SPLIT from the next tick and every position is
challenged again. Causes: 1 lock loss, 2 link status, 3 hop count. -/
def State.breakRing (s : State) (n : Fin 16) (cause pos : Nat) : State :=
  let r := s.sring n.val
  if s.ringMode n != 2 || r.splitNext then s
  else
    let s := s.setSring n.val { r with splitNext := true, goodRun := 0 }
    let s := (s.inc (.sns n) R.SNS.BREAKS).flag (.sns n) 8
    (s.ringRecord n 1 cause pos).wantAll n

/-- The ring returns to INTACT (R94). -/
def State.healRing (s : State) (n : Fin 16) : State :=
  if s.ringMode n = 3 then
    let r := s.sring n.val
    let s := s.setSring n.val { r with goodRun := 0, splitNext := false }
    (((s.setRingMode n 2).flag (.sns n) 9).ringRecord n 2 0 0xFF).wantAll n
  else s

/-- SYMBOL_LOCK_LOSS (R93): loss of lock for t_lock_loss is a break. -/
def execSymbolLockLoss (dt : Nat) (ring : Fin 16) (s : State) : Host.Outcome State Fault Refusal :=
  let s := s.elapse dt
  if s.running (.sns ring) then .next (s.breakRing ring 1 0xFF) else .next s

/-- COMMAND_COACH_RECEIVED (R78, R86, R90, R94, R98): a bad coach is counted; a good one from the other end is noted,
whatever the page's state; a page that may drive answers it with the upstream data coach. Its challenge is one this
port sees, and three in a row end B's driving and heal the ring; a SPLIT ring on which B never drove stays SPLIT (log
entry 84). -/
def execCommandCoachReceived (dt : Nat) (ring : Fin 16) (lineOk : Bool) (bytes : List Byte) (s : State) :
    Host.Outcome State Fault Refusal :=
  let s := s.elapse dt
  let ok := coachOk lineOk 0x43 [108] bytes
  if ok && (byteAt bytes 1).testBit 2 = s.sys.strapB then .next s
  else if !ok then .next (if s.snsLive ring then s.inc (.sns ring) R.SNS.CRCERR else s)
  else
    let t := leAt bytes 4 8
    let r := s.sring ring.val
    let run := if r.otherTick + 1 = t && 0 < r.otherRun then r.otherRun + 1 else 1
    let s := s.setSring ring.val { r with otherTick := t, otherRun := run }
    if !s.snsLive ring then .next s
    else
    let s := if (byteAt bytes 1).testBit 0 && byteAt bytes 0x50 < 4 then
        let p := byteAt bytes 0x50
        let v := s.fe ring.val p
        let k := some (t, leAt bytes 0x54 12)
        s.setFe ring.val p { v with chal := { v.chal with openAt := k, seenAt := k } }
      else s
    let s := if t = s.tick then s.send (.coach ring.val (emptyDataCoach s (byteAt bytes 2))) else s
    if s.sys.strapB && 3 ≤ run && r.driveB then
      let r := s.sring ring.val
      .next ((s.setSring ring.val { r with driveB := false }).healRing ring)
    else .next s

/-- FAR_WAIT_EXPIRY (R94, R102), at an offset of 15 to 25 µs: module B's port has accepted no command coach of the
tick and drives the next one; module A's, in SPLIT, heals once the whole ring has answered it healthily for 3 ticks
without B driving. -/
def execFarWaitExpiry (dt : Nat) (ring : Fin 16) (s : State) : Host.Outcome State Fault Refusal :=
  let s := s.elapse dt
  let off := s.mt % 500000
  if !s.running (.sns ring) || off < 15000 || 25000 < off then .next s
  else
    let r := s.sring ring.val
    if s.sys.strapB then
      if r.otherTick = s.tick && 0 < r.otherRun then .next s
      else .next (s.setSring ring.val { r with driveB := true, otherRun := 0 })
    else if s.ringMode ring = 3 && 3 ≤ r.goodRun && r.otherTick + 3 ≤ s.tick then .next (s.healRing ring)
    else .next s

/-! ### Compartments (R63, R82, R88, R89) -/

/-- The voltage code, readback and temperature of channel k in a compartment (R82, R83). -/
def compVolt (c : List Byte) (k : Nat) : Nat := bits (leAt c 0x0C 20) (20 * k + 19) (20 * k)
def compReadback (c : List Byte) (k : Nat) : Int := signed 12 (bits (leAt c 0x20 12) (12 * k + 11) (12 * k))
def compTemp (c : List Byte) (k j : Nat) : Option Int :=
  if c.length < 96 then none
  else
    let t := signed 16 (leAt c (0x40 + 4 * k + 2 * j) 2)
    if t = -32768 then none else some t

/-- The front-end alert source of a ring follows its positions' alert bits (R96). -/
def State.alertSource (s : State) (n : Fin 16) : State :=
  s.setSource (16 + n.val) ((List.range 4).any (fun p => (s.fe n.val p).alert != 0))

/-- ALERT[10] of a front-end stops its channels' balancing: each onset while BAL runs is counted and flagged (R203). -/
def State.balAlert (s : State) (f : Nat) (on : Bool) : State :=
  if on = s.bal.feStop.contains f then s
  else
    let s := { s with bal := { s.bal with feStop := if on then f :: s.bal.feStop else s.bal.feStop.filter (· != f) } }
    if on && s.running .bal then (s.inc .bal R.BAL.FEFAULTS).flag .bal 11 else s

/-- A position's alert word takes bits [11:0]. -/
def State.setAlert (s : State) (n : Fin 16) (p a : Nat) : State :=
  let s := s.balAlert (4 * n.val + p) (a.testBit 10)
  let s := s.setFe n.val p { s.fe n.val p with alert := a % 4096 }
  (s.wrb (.sns n) (R.SNS.FE p) 8 (a % 4096 != 0)).alertSource n

/-- What acts on an accepted compartment at once, whatever the position's state (R100): alerts and limits. -/
def State.compActs (s : State) (n : Fin 16) (p tick : Nat) (c : List Byte) : State :=
  let s := s.setAlert n p (leAt c 0x2C 2)
  (List.range 8).foldl (fun s k => s.limitCompare (32 * n.val + 8 * p + k) (compVolt c k) tick) s

/-- Direct and relayed copies differ: the compartment is missing for the tick in estimation (R89). -/
def State.conflictAt (s : State) (n : Fin 16) (p : Nat) : State :=
  let r := s.sring n.val
  let s := s.setSring n.val { r with comps := r.comps.map (fun x => if x.pos = p then { x with conflict := true } else x) }
  (s.wrb (.sns n) (R.SNS.FE p) 9 true).inc (.sns n) R.SNS.MISS

/-- The reported identity of a position: a change from the one held starts a challenge (R98), and estimation leaves
the position's data out until it has passed (R99). At enumeration an identity that is the one held, and is not in
AUTH_FAULT, goes on. -/
def State.noteIdentity (s : State) (n : Fin 16) (p id : Nat) : State :=
  let before := s.reportedId n p
  let s := s.wr64 (.sns n) (R.SNS.IDLO p) (R.SNS.IDHI p) id
  let f := 4 * n.val + p
  let first := s.feState n p = 0
  let use := fun (s : State) (b : Bool) => s.setFe n.val p { s.fe n.val p with use := b, serv := false }
  if first then
    use ((s.setFeState n p 1).wantChallenge n p) (id != 0 && id = s.heldId f && s.jrnField (1 + f) 0x10 1 != 2)
  else if id != before && id != s.heldId f then
    use ((if s.feState n p = 5 then s else s.setFeState n p 1).flag (.sns n) 11 |>.wantChallenge n p) false
  else s

/-- A compartment held for the current tick, direct or by relay. -/
def State.holdComp (s : State) (n : Fin 16) (p : Nat) (c : List Byte) (amt : Nat) (direct : Bool) : State :=
  let r := s.sring n.val
  match r.comps.find? (fun x => x.pos = p) with
  | some x => if x.bytes = c || x.conflict then s else s.conflictAt n p
  | none =>
    let id := leAt c 4 8
    let s := s.setSring n.val { r with
      comps := r.comps ++ [⟨p, c, amt, direct, false⟩]
      far := if direct then r.far else sset 0 r.far p id }
    let s := s.noteIdentity n p (leAt c 4 8)
    s.compActs n p s.tick c

/-- The link bits of a compartment that has a neighbour in POP on a side reported down (R93). -/
def linkBroken (pop p : Nat) (c : List Byte) : Bool :=
  (0 < p && !(byteAt c 2).testBit 0) || (pop.testBit (p + 1) && !(byteAt c 2).testBit 1)

/-- REACH_A or REACH_B of a position: reached from an end in this tick or the one before (log entry 86). -/
def State.reached (s : State) (n : Fin 16) (endB : Bool) (p : Nat) : State :=
  s.wrb (.sns n) R.SNS.RING ((if endB then 8 else 4) + p) true

/-- One slot of a data coach: an in-time filled compartment of the current tick is accepted, relayed to the peer, and
checked for challenge response and link status. -/
def State.takeSlot (s : State) (n : Fin 16) (p : Nat) (c : List Byte) : State :=
  if byteAt c 0 != 0xA5 then s
  else if byteAt c 1 != p || !(s.pop n).testBit p then
    let r := s.sring n.val
    if s.pageState (.sns n) = .enabling then s.setSring n.val { r with badPos := true } else s
  else if s.tick * 500000 + 350000 < s.mt then s
  else
    let had := (s.sring n.val).comps.any (fun x => x.pos = p && x.direct)
    let s := s.setSring n.val { s.sring n.val with near := sset 0 (s.sring n.val).near p (leAt c 4 8) }
    let s := s.holdComp n p c s.mt true
    let s := if had then s else s.sendFrame 0x07 ([BitVec.ofNat 8 n.val, BitVec.ofNat 8 p, BitVec.ofNat 8 c.length, 0] ++
      leBytes 8 s.tick ++ leBytes 8 s.mt ++ c)
    let s := s.reached n s.sys.strapB p
    let s := s.verifyResponse n p c
    if s.running (.sns n) && linkBroken (s.pop n) p c then s.breakRing n 2 p else s

/-- An upstream data coach tells its hop count (R81, R91, R93): one that travels towards this end, answers no repeat,
and was opened by a terminator or, as far end, by a module. The coach with ECHO_HOPS 0 that a module opened follows
that module's own command coach. -/
def upstream (endB : Bool) (flags echo : Nat) : Bool :=
  !flags.testBit 1 && flags.testBit 2 = endB && (!flags.testBit 3 || echo != 0)

/-- Enumeration reads the hop count and sends ASSIGN for each hop (R91); a position that stays missing while its hop
answers is assigned again, the one waiting longest first (R92): it stays missing when the upstream coach of the tick
still lacks it (log entry 87). -/
def State.readHops (s : State) (n : Fin 16) (hops : Nat) (counts : Bool) : State :=
  let r := s.sring n.val
  if !counts then s
  else if s.pageState (.sns n) = .enabling && r.active then
    if r.hopsRead then s else s.setSring n.val { r with hopsRead := true, hopsOwn := hops, assign := List.range hops }
  else if s.running (.sns n) then
    let size := popSize (s.pop n)
    let lacking := (List.range (min hops size)).filter (fun h =>
      let p := if s.sys.strapB then size - 1 - h else h
      !r.comps.any (fun x => x.pos = p))
    let wait := r.reassign.filter lacking.contains
    let s := s.setSring n.val { r with
      hopsOwn := hops
      reassign := if s.rdb (.sns n) R.SNS.RING 12 then wait ++ lacking.filter (fun h => !wait.contains h) else []
      good := size ≤ hops && lacking = [] }
    if hops < size then s.breakRing n 3 0xFF else s
  else s

/-- DATA_COACH_RECEIVED (R63, R78, R81): a bad coach is rejected and counted whole; compartments of the current tick are
taken slot by slot; any other tick's are never applied. -/
def execDataCoachReceived (dt : Nat) (ring : Fin 16) (lineOk : Bool) (bytes : List Byte) (s : State) :
    Host.Outcome State Fault Refusal :=
  let s := s.elapse dt
  if !s.snsLive ring then .next s
  else
    let ext := (byteAt bytes 1).testBit 0
    let l := if ext then 96 else 64
    if !coachOk lineOk 0x44 [if ext then 404 else 276] bytes then .next (s.inc (.sns ring) R.SNS.CRCERR)
    else
      let s := if leAt bytes 4 8 = s.tick then
          (List.range 4).foldl (fun s p => s.takeSlot ring p (slice bytes (0x10 + l * p) l)) s
        else s
      .next (s.readHops ring (byteAt bytes 2) (upstream s.sys.strapB (byteAt bytes 1) (byteAt bytes 2)))

/-- COMPARTMENT (R88): a relayed compartment is applied when no direct copy is held, its acceptance was in time and it
arrives by t_relay_accept (480 µs); a differing direct copy makes a conflict (R89). -/
def execRelayedCompartment (dt : Nat) (f : TandemHead) (bytes : List Byte) (s : State) :
    Host.Outcome State Fault Refusal :=
  let (ok, s) := (s.elapse dt).takeFrame 0x07 f bytes
  let n : Fin 16 := ⟨byteAt bytes 0 % 16, Nat.mod_lt _ (by decide)⟩
  let p := byteAt bytes 1
  let tick := leAt bytes 4 8
  let amt := leAt bytes 0x0C 8
  let c := bytes.drop 0x14
  if ok && byteAt bytes 0 < 16 && p < 4 && s.snsLive n && (s.pop n).testBit p && tick = s.tick &&
      c.length = byteAt bytes 2 && (c.length = 64 || c.length = 96) && amt ≤ tick * 500000 + 350000 &&
      s.mt ≤ tick * 500000 + 480000 then
    .next ((s.holdComp n p c amt false).reached n (!s.sys.strapB) p)
  else .next s

/-- ALERT_COACH_RECEIVED (R96): the ring's front-end alert source is asserted. -/
def execAlertCoachReceived (dt : Nat) (ring : Fin 16) (lineOk : Bool) (bytes : List Byte) (s : State) :
    Host.Outcome State Fault Refusal :=
  let s := s.elapse dt
  if !s.snsLive ring then .next s
  else if !coachOk lineOk 0x4C [12] bytes then .next (s.inc (.sns ring) R.SNS.CRCERR)
  else if byteAt bytes 1 < 4 then
    let p := byteAt bytes 1
    let s := s.setAlert ring p ((s.fe ring.val p).alert ||| leAt bytes 2 2 % 4096)
    .next (s.wayEntry 0x0A ([BitVec.ofNat 8 ring.val, BitVec.ofNat 8 p] ++ slice bytes 2 2 ++ leBytes 8 s.mt))
  else .next s

/-- REPEAT_COACH_SEND (R87): from offset 60 µs to 300 µs, at most MAX_REPEAT times and 50 µs apart, while some configured
position lacks its compartment. -/
def execRepeatCoachSend (dt : Nat) (ring : Fin 16) (s : State) : Host.Outcome State Fault Refusal :=
  let s := s.elapse dt
  let r := s.sring ring.val
  let off := s.mt - s.tick * 500000
  let need := bitsOf (fun p => (s.pop ring).testBit p && !r.comps.any (fun x => x.pos = p)) 4
  if s.running (.sns ring) && s.snsLive ring && need != 0 && r.repeats < s.rdf (.sns ring) R.SNS.CFG 19 16 &&
      60000 ≤ off && off ≤ 300000 && (r.repeats = 0 || r.lastRepeat + 50000 ≤ s.mt) then
    let s := s.setSring ring.val { r with repeats := r.repeats + 1, lastRepeat := s.mt }
    let s := s.inc (.sns ring) R.SNS.REPEAT
    .next (s.send (.coach ring.val (withCrc ([0x50, BitVec.ofNat 8 need, 0, 0] ++ leBytes 8 s.tick))))
  else .next s

/-- ENUMERATION_WAIT_EXPIRY (R90): module B's port heard no command coach in the first 20 ticks of ENABLING and
enumerates actively from the next tick. -/
def execEnumerationWaitExpiry (dt : Nat) (ring : Fin 16) (s : State) : Host.Outcome State Fault Refusal :=
  let s := s.elapse dt
  let r := s.sring ring.val
  if s.sys.strapB && s.pageState (.sns ring) = .enabling && r.enTick + 19 ≤ s.tick &&
      (r.otherRun = 0 || r.otherTick < r.enTick) then
    .next ((s.setSring ring.val { r with active := true }).wrf (.sns ring) R.SNS.RING 3 2 1)
  else .next s

/-- FRONT_END_LOST (R95): missing for LOSS_TICKS consecutive ticks; the ring-loss source asserts, and a challenge that
runs is dropped, since the position returns through one of its own. -/
def execFrontEndLost (dt : Nat) (ring : Fin 16) (pos : Fin 4) (s : State) : Host.Outcome State Fault Refusal :=
  let s := s.elapse dt
  if s.running (.sns ring) && (s.pop ring).testBit pos.val && s.feState ring pos.val != 5 &&
      s.rdf (.sns ring) R.SNS.CFG 15 8 ≤ (s.fe ring.val pos.val).lost then
    let v := s.fe ring.val pos.val
    let s := s.setFe ring.val pos.val { v with
      use := false
      serv := false
      chal := { v.chal with want := false, failed := 0, openAt := none } }
    .next (((s.setFeState ring pos.val 5).flag (.sns ring) 10).setSource ring.val true)
  else .next s

/-! ### Per-tick work -/

/-- The port of a ring is the driving end of the tick (R77, R90, R94): module A's in every tick, module B's while it
enumerates actively and under the rules of breaks. -/
def State.drives (s : State) (n : Fin 16) : Bool :=
  s.snsLive n &&
  (!s.sys.strapB ||
   (if s.pageState (.sns n) = .enabling then (s.sring n.val).active else (s.sring n.val).driveB))

/-- The position to challenge this tick: the lowest that wants it (R98); on a SPLIT ring each end challenges the
positions it reaches. -/
def State.challengeNext (s : State) (n : Fin 16) : Option Nat :=
  let reach := fun (p : Nat) => s.ringMode n != 3 || s.rdb (.sns n) R.SNS.RING ((if s.sys.strapB then 8 else 4) + p)
  (List.range 4).find? (fun p =>
    (s.pop n).testBit p && (s.fe n.val p).chal.want && (s.fe n.val p).chal.openAt = none && reach p)

/-- At a tick boundary the driving end launches command coach T and an empty data coach (R86); every ASSIGN is followed by
writes of the excitation codes of its position (R205). `bal` gives the commands
in force and `exc` the excitation enable. -/
def State.launchCoach (s : State) (n : Fin 16) (exc : Bool) (bal : Nat → Int) : State :=
  let s := s.wrb (.sns n) R.SNS.RING 12 (s.drives n)
  if !s.drives n then s
  else
    let r := s.sring n.val
    let size := popSize (s.pop n)
    let (op, pos, addr, data) := match r.assign ++ r.reassign, r.excite with
      | h :: _, _ => (3, h, 0, if s.sys.strapB then size - 1 - h else h)
      | [], e :: _ => (2, e / 8, 0x20 + e % 8, e % 8 + 16 * s.rdf .bal R.BAL.ZCFG 19 16)
      | [], [] => (0, 0, 0, 0)
    let s := s.setSring n.val { r with
      assign := r.assign.drop 1
      reassign := if r.assign = [] then r.reassign.drop 1 else r.reassign
      excite := if op = 3 then r.excite ++ (List.range 8).map (fun k => 8 * data + k)
        else if op = 2 then r.excite.drop 1 else r.excite }
    let (chal, s) := match s.challengeNext n with
      | some p =>
        let (k, s) := s.draw
        let nonce := Config.freeNat k % 2 ^ 96
        let v := s.fe n.val p
        (some (p, nonce), s.setFe n.val p { v with chal := { v.chal with
          want := false
          openAt := some (s.tick, nonce)
          seenAt := some (s.tick, nonce) } })
      | none => (none, s)
    let s := s.send (.coach n.val (commandCoach s n chal pos op addr data exc ((List.range 32).map (fun j => bal (32 * n.val + j)))))
    s.send (.coach n.val (emptyDataCoach s 0))

/-- A challenge without a response by T + 4 fails its attempt (R98). -/
def State.chalTimeout (s : State) (n : Fin 16) (p : Nat) : State :=
  match (s.fe n.val p).chal.openAt with
  | some (t, nonce) =>
    if t + 4 < s.tick then
      let k := (s.fe n.val p).chal.failed + 1
      (s.sendVerdict n p (if 3 ≤ k then 3 else 2) k t nonce).attemptEnds n p false
    else s
  | none => s

/-- Once no copy of a tick's compartments can count any more, every configured position without one is missing (R63,
R64, R88): counted, flagged, and on its way to LOST (R95); one present counts toward its return. -/
def State.deadlineRing (s : State) (n : Fin 16) : State :=
  if !s.running (.sns n) then s
  else
    let comps := (s.sring n.val).comps
    (List.range 4).foldl (fun s p =>
      if !(s.pop n).testBit p then s
      else
        let v := s.fe n.val p
        match comps.find? (fun x => x.pos = p) with
        | some x =>
          let v := { v with lost := 0, present := v.present + 1 }
          let s := s.setFe n.val p v
          let s := if x.conflict then s else s.wrb (.sns n) (R.SNS.FE p) 9 false
          if s.feState n p = 5 && v.present = 20 then
            let s := (s.setFeState n p 1).wantChallenge n p
            s.setSource n.val ((List.range 4).any (fun q => s.feState n q = 5))
          else s
        | none =>
          let s := s.setFe n.val p { v with lost := v.lost + 1, present := 0 }
          let s := (s.inc (.sns n) R.SNS.MISS).flag (.sns n) 14
          { s with tb := { s.tb with miss := putBits s.tb.miss (4 * n.val + p) (4 * n.val + p) 1 } }) s

/-- A compartment's content enters its channels' stage sums (R65, R83): the alert word and the temperatures of the
protection path whatever the position's state (R100), the rest unless estimation leaves the position or this copy out
(R89, R99). -/
def State.accumulate (s : State) (n : Fin 16) (x : CompIn) : State :=
  let fe := s.fe n.val x.pos
  let s := s.setFe n.val x.pos { fe with lastAlert := leAt x.bytes 0x2C 2 }
  let use := fe.use && !x.conflict
  let warm := decide (s.tick % 20 = 19) && decide (96 ≤ x.bytes.length)
  (List.range 8).foldl (fun s k =>
    let c := 32 * n.val + 8 * x.pos + k
    let a := sget {} s.acc c
    let v := compVolt x.bytes k
    let rb := compReadback x.bytes k
    let t := fun (j : Nat) (old : Option Int) => (compTemp x.bytes k j).or old
    let a := if use && v != 0xFFFFF then { a with vsum := a.vsum + v, vcnt := a.vcnt + 1 } else a
    let a := if use && rb != -2048 then { a with rbsum := a.rbsum + rb, rbcnt := a.rbcnt + 1 } else a
    let a := if warm then
        { a with temps := true, s0 := compTemp x.bytes k 0, s1 := compTemp x.bytes k 1 } else a
    let a := if warm && use then { a with t0 := t 0 a.t0, t1 := t 1 a.t1 } else a
    { s with acc := sset {} s.acc c a }) s

/-- What one tick holds for a channel's impedance window (R206). -/
def zTickOf (tick : Nat) (cmd : Int) (x : Option CompIn) (k : Nat) : ZTick :=
  match x with
  | none => ⟨tick, none, none, cmd⟩
  | some x =>
    let v := compVolt x.bytes k
    let r := compReadback x.bytes k
    ⟨tick, if v = 0xFFFFF then none else some v, if r = -2048 then none else some r, cmd⟩

/-- The balancing current of every present channel in the tick (R115): its readback, or the commanded value where the
compartment is missing, its data is left out (R99), the ring does not run, or the readback is unavailable. It also
says since when it stays within ±I_rest (R152), and feeds the impedance window. -/
def State.accumulateBal (s : State) (n : Fin 16) : State :=
  let lim := s.restMa
  (List.range 4).foldl (fun s p =>
    if !(s.pop n).testBit p then s
    else
      let on := s.running (.sns n) && (s.fe n.val p).use
      let x := if on then (s.sring n.val).comps.find? (fun x => x.pos = p && !x.conflict) else none
      (List.range 8).foldl (fun s k =>
        let c := 32 * n.val + 8 * p + k
        let cmd := sget 0 s.bal.cmd c
        let z := zTickOf s.tick cmd x k
        let b := z.rb.getD cmd
        let a := sget {} s.acc c
        let w := z :: (sget [] s.bal.win c).takeWhile (fun y => s.tick < y.tick + 40000)
        let s := { s with acc := sset {} s.acc c { a with bsum := a.bsum + b, dsum := a.dsum + cmd } }
        let s := if s.running .bal then { s with bal := { s.bal with win := sset [] s.bal.win c w } } else s
        if lim < b.natAbs then { s with est := { s.est with calm := sset 0 s.est.calm c (s.tick + 1) } } else s) s) s

/-- REACH_A and REACH_B at a tick's end: the positions this module's port reached, and those the relay brought. -/
def State.reachTick (s : State) (n : Fin 16) : State :=
  let r := s.sring n.val
  let mask := fun (d : Bool) => bitsOf (fun p => r.comps.any (fun x => x.pos = p && x.direct = d)) 4
  let own := mask true
  let s := s.wrf (.sns n) R.SNS.RING 7 4 (if s.sys.strapB then mask false else own)
  s.wrf (.sns n) R.SNS.RING 11 8 (if s.sys.strapB then own else mask false)

/-- The end of a tick on a ring: what was accepted enters the stage sums, what is missing or in conflict is marked in
the bitmap (R64, R89), and the ring's next tick begins. A ring whose page does not run marks nothing (log entry 82); its
channels' commands in force still count (R115). -/
def State.finishRing (s : State) (n : Fin 16) : State :=
  let s := if s.snsLive n then s.reachTick n else s
  if !s.running (.sns n) then
    let s := s.accumulateBal n
    s.setSring n.val { s.sring n.val with comps := [], repeats := 0 }
  else
    let r := s.sring n.val
    let bit := fun p => 4 * n.val + p
    let miss := (List.range 4).foldl (fun m p =>
      if !(s.pop n).testBit p then m
      else match r.comps.find? (fun x => x.pos = p) with
        | some x => putBits m (bit p) (bit p) (b2n x.conflict)
        | none => putBits m (bit p) (bit p) 1) s.tb.miss
    let s := { s with tb := { s.tb with miss := miss } }
    let s := s.accumulateBal n
    let s := r.comps.foldl (fun s x => s.accumulate n x) s
    let r := s.sring n.val
    let s := s.setSring n.val { r with comps := [], repeats := 0, good := false,
                                       goodRun := if r.good then r.goodRun + 1 else 0, splitNext := false }
    if r.splitNext then s.setRingMode n 3 else s

/-- PASS_AGE of each position: minutes since the last passed challenge, saturating. -/
def State.passAge (s : State) (n : Fin 16) (p : Nat) : State :=
  match (s.fe n.val p).chal.lastPass with
  | some m => s.wrf (.sns n) (R.SNS.FE p) 31 16 (min ((s.mt - m) / 60000000000) 0xFFFF)
  | none => s

end Sys2Proof.Machine
end

