-- ==== Sys2Proof/Machine/Estimator.lean ====
section
/-! DEFINITION. The estimator's channels: steps, anchors, count path, disagreement, learning, calibration, the
internal-short indicator and the output record (R131 to R163, R173). -/

namespace Sys2Proof.Machine

open Sys2Proof

def State.chanEst (s : State) (c : Nat) : ChanEst := sget {} s.est.chan c
def State.setChan (s : State) (c : Nat) (v : ChanEst) : State :=
  { s with est := { s.est with chan := sset {} s.est.chan c v } }
def State.modChan (s : State) (c : Nat) (f : ChanEst → ChanEst) : State := s.setChan c (f (s.chanEst c))

/-- The present channels in ascending order (R10). -/
def State.presentChans (s : State) : List Nat := (List.range 512).filter s.present

/-- Stored hypotheses as values, and back (R129). -/
def HypSt.toV (h : HypSt) : HypV := ⟨h.x.map (qv 62), h.s.map (·.map (qv 30)), qv 31 (h.mu : Nat)⟩
def HypV.store (h : HypV) : HypSt := ⟨h.x.map (contentOf 62), h.s.map (·.map (contentOf 30)), (contentOf 31 h.mu).toNat⟩

/-! ### Capacity and SOC (R126, R158, R159) -/

/-- The capacity in use, in mAh: Q_NAME while the journal record is empty (R168). -/
def State.capOf (s : State) (c : Nat) : Nat :=
  if s.jrnField (65 + c) 8 4 = 0 then s.qName c else s.jrnField (65 + c) 8 4

/-- Combined filter SOC of hypotheses (R126). -/
def socSum (p : PSet) (hs : List HypV) : Rat :=
  rsum (hs.map (fun h => if h.x = [] then 0 else h.mu * p.socOf (p.phys h.x)))

/-- A combined physical quantity. -/
def combine (p : PSet) (hs : List HypV) (f : List Rat → Rat) : Rat :=
  rsum (hs.map (fun h => if h.x = [] then 0 else h.mu * f (p.phys h.x)))

/-- A UQ0.16 code of a value: rounded and saturated (R146). -/
def code16 (q : Rat) : Nat := (clampI 0 65535 (roundAway (q * 65536))).toNat
def clamp01 (q : Rat) : Rat := if q < 0 then 0 else if 1 < q then 1 else q
def ratMin (a b : Rat) : Rat := if a ≤ b then a else b
def ratMax (a b : Rat) : Rat := if a ≤ b then b else a

/-- SOC_dis and SOC_chg of a channel (R158, R159). -/
def State.socPair (s : State) (c : Nat) : Rat × Rat :=
  let v := s.chanEst c
  let f := v.soc
  let k := qv 62 v.cnt
  let unc := qv 16 (s.rdf .est R.EST.UNK 15 0 : Nat)
  let wide := v.held || 2 ≤ v.disSt
  let dis := if wide then ratMin f k else f
  let chg := if wide then ratMax f k else f
  let dis := if v.unknown then ratMin (if wide then dis else f - unc) (f - unc) else dis
  let chg := if v.unknown then ratMax (if wide then chg else f + unc) (f + unc) else chg
  (clamp01 dis, clamp01 chg)

/-- E_USE in mWh (R173): composite Simpson over 64 intervals. -/
def State.usableEnergy (s : State) (p : PSet) (c : Nat) : Nat :=
  let a := qv 16 (s.rdf .est R.EST.SOCWIN 15 0 : Nat)
  let b := (s.socPair c).1
  if b ≤ a then 0
  else
    let h := (b - a) / 64
    let w := fun (i : Nat) => if i = 0 || i = 64 then 1 else if i % 2 = 1 then 4 else (2 : Rat)
    let sum := rsum ((List.range 65).map (fun i => w i * p.ocv (a + h * (i : Rat))))
    ((s.capOf c : Rat) * (h / 3 * sum)).floor.toNat

/-! ### Learning (R161 to R163) -/

/-- Insertion sort, and the median of R162. -/
def insertNat (x : Nat) : List Nat → List Nat
  | [] => [x]
  | y :: t => if x ≤ y then x :: y :: t else y :: insertNat x t
def sortNat (l : List Nat) : List Nat := l.foldr insertNat []
def median (l : List Nat) : Nat := (sortNat l).getD ((l.length - 1) / 2) 0

/-- The sample of an anchor pair in mAh, and whether it is plausible (R161). -/
def pairSample (dSoc dAcc : Int) : Int :=
  roundAway (quo (dAcc * 65536 : Int) ((dSoc : Rat) * (36 / 10) * 1000000000000))
def plausible (x : Int) (qName : Nat) : Bool := 0 < x && x ≤ (4 * qName : Int)

/-- The history of a channel's journal record. -/
def State.hist (s : State) (c : Nat) : List Nat :=
  (List.range (min (s.jrnField (65 + c) 0x20 1) 5)).map (fun k => s.jrnField (65 + c) (0x0C + 4 * k) 4)

/-- History, capacity and REF written to the journal record. -/
def State.putHist (s : State) (c : Nat) (h : List Nat) (cap : Nat) (ref : Bool) : State :=
  let fl := putBits (s.jrnField (65 + c) 0x21 1) 0 0 (b2n ref)
  s.jrnEdit (65 + c) 8 (leBytes 4 cap ++ (List.range 5).flatMap (fun k => leBytes 4 (h.getD k 0)) ++
    [BitVec.ofNat 8 h.length, BitVec.ofNat 8 fl])

/-- The latest learning event: EST.LRN_LAST, and its sample in EST.LRN_CAP, modulo 2³² where it is negative or too long (log
entry 92). -/
def State.learnEvent (s : State) (code c : Nat) (sample : Int) : State :=
  (s.wrn .est R.EST.LRN_LAST (code * 2 ^ 28 + c)).wrn .est R.EST.LRN_CAP (unsign 32 sample)

/-- A plausible sample passes the gate (R162). -/
def State.gateSample (s : State) (c x : Nat) : State :=
  let h := s.hist c
  let gate := s.rdf .est R.EST.LRN 15 0
  let gate0 := s.rdf .est R.EST.LRN2 15 0
  let n := s.rdf .est R.EST.LRN2 19 16
  let (m, g) := if 5 ≤ h.length then (median h, gate) else if 1 ≤ h.length then (median h, gate0) else (s.capOf c, gate0)
  if ((x : Int) - m).natAbs * 65536 ≤ g * m then
    let h := (h ++ [x]).drop ((h.length + 1) - 5)
    let ref := s.jrnField (65 + c) 0x21 1 % 2 = 1 && (s.hist c).length < 5
    let s := (s.putHist c h (median h) ref).modChan c (fun v => { v with run := [] })
    ((s.learnEvent 1 c x).inc .est R.EST.LRNACC).wrb .est R.EST.AEVT 3 true
  else
    let r := (s.chanEst c).run
    let r := (r ++ [x]).drop ((r.length + 1) - n)
    let rm := median r
    let s := ((s.learnEvent 2 c x).inc .est R.EST.LRNREJ).wrb .est R.EST.AEVT 4 true
    if r.length = n && r.all (fun y => ((y : Int) - rm).natAbs * 65536 ≤ gate * rm) then
      let s := (s.putHist c r rm false).modChan c (fun v => { v with run := [] })
      let s := (s.learnEvent 4 c x).wrb .est R.EST.AEVT 5 true
      s.record .est 0x11 ([2, BitVec.ofNat 8 n] ++ leBytes 2 c ++ leBytes 4 rm ++
        (List.range 5).flatMap (fun k => leBytes 4 (r.getD k 0)))
    else s.modChan c (fun v => { v with run := r })

/-- Channels in the phases of a calibration, and the cycle's end when none is armed (R163): `state` 2 complete, 3 timed
out. -/
def State.calCount (s : State) (f : Nat → Bool) : Nat := (s.presentChans.filter (fun c => f (s.chanEst c).calph)).length
def State.calShow (s : State) : State :=
  (s.wrf .est R.EST.CAL_STAT 13 4 (s.calCount (· = 4))).wrf .est R.EST.CAL_STAT 23 14 (s.calCount (· = 5))
def State.calFinish (s : State) (state : Nat) : State :=
  let s := s.calShow
  if s.rdf .est R.EST.CAL_STAT 1 0 = 1 && s.calCount (fun p => 1 ≤ p && p ≤ 3) = 0 then
    let s := (s.wrf .est R.EST.CAL_STAT 1 0 state).wrb .est R.EST.AEVT 6 true
    s.record .est 0x11 ([3, BitVec.ofNat 8 state] ++ leBytes 2 (s.calCount (· = 4)) ++ leBytes 2 (s.calCount (· = 5)) ++
      zeros 2 ++ leBytes 8 (s.rd64 .est R.EST.CAL_END_LO R.EST.CAL_END_HI))
  else s

/-- A channel's calibration fails; one that fails at the deadline has no sample, and shows 0 (log entry 92). -/
def State.calFail (s : State) (c : Nat) (sample : Int) : State :=
  (s.modChan c (fun v => { v with calph := 5 })).learnEvent 6 c sample

/-- An anchor at full after empty: the discharge leg becomes the reference when the legs agree (R163). -/
def State.calDone (s : State) (c : Nat) (a : AnchorPt) : State :=
  let v := s.chanEst c
  let leg := fun (x y : AnchorPt) => pairSample ((y.soc : Int) - x.soc) (y.acc - x.acc)
  let d := leg v.calFull v.calEmpty
  let g := leg v.calEmpty a
  if v.calFull.epoch = a.epoch && v.calEmpty.epoch = a.epoch && plausible d (s.qName c) && plausible g (s.qName c) &&
      ((g - d).natAbs * 65536 : Int) ≤ s.rdf .est R.EST.CAL2 15 0 * d then
    ((s.putHist c [d.toNat] d.toNat true).modChan c (fun v => { v with calph := 4 })).learnEvent 5 c d
  else s.calFail c d

/-- An anchor advances the calibration phase (R163). -/
def State.calAdvance (s : State) (c : Nat) (a : AnchorPt) : State :=
  let v := s.chanEst c
  let hi := s.rdf .est R.EST.CAL 31 16
  let lo := s.rdf .est R.EST.CAL 15 0
  let s := if v.calph = 1 && hi ≤ a.soc then s.setChan c { v with calph := 2, calFull := a }
    else if v.calph = 2 && a.soc ≤ lo then s.setChan c { v with calph := 3, calEmpty := a }
    else if v.calph = 3 && hi ≤ a.soc then s.calDone c a
    else s
  if 1 ≤ v.calph && v.calph ≤ 3 then s.calFinish 2 else s

/-- CALIBRATION_CYCLE at its effect (R163): the deadline is set; every present channel is armed for the steps that end
with the running stage and after (R66). -/
def State.calStart (s : State) (acceptMt hours : Nat) : State :=
  let s := s.wr64 .est R.EST.CAL_END_LO R.EST.CAL_END_HI (acceptMt + hours * 3600000000000)
  let s := { s with est := { s.est with verdicts := s.est.verdicts ++ [(64, 0)] } }
  s.wrf .est R.EST.CAL_STAT 1 0 1

/-- The channels present are armed (R163). -/
def State.calArm (s : State) : State :=
  let s := s.presentChans.foldl (fun s c => s.modChan c (fun v => { v with calph := 1 })) s
  (s.wrf .est R.EST.CAL_STAT 1 0 1).calShow

/-- CALIBRATION_DEADLINE (R163): channels not done by the deadline fail. -/
def execCalibrationDeadline (dt : Nat) (s : State) : Host.Outcome State Fault Refusal :=
  let s := s.elapse dt
  if s.rdf .est R.EST.CAL_STAT 1 0 = 1 && s.rd64 .est R.EST.CAL_END_LO R.EST.CAL_END_HI ≤ s.mt then
    .next ((s.presentChans.foldl (fun s c =>
      if 1 ≤ (s.chanEst c).calph && (s.chanEst c).calph ≤ 3 then s.calFail c 0 else s) s).calFinish 3)
  else .next s

/-! ### Anchors (R152, R153) -/

/-- The last tick of a step. -/
def StepDue.lastTick (d : StepDue) : Nat := 20 * d.sb + 19
def StepDue.n (d : StepDue) : Nat := d.sb + 1 - d.sa

/-- May the channel anchor in this step (R152)? `vobs` says that the step has a voltage observation. -/
def State.mayAnchor (s : State) (d : StepDue) (c : Nat) (vobs : Bool) : Bool :=
  s.rdf .est R.EST.ANCHOR 31 16 * 2000 ≤ d.quiet && (s.chanEst c).anchRun != some d.runNo &&
  sget 0 d.calm c + s.rdf .est R.EST.ANCHOR 15 0 * 2000 ≤ d.lastTick + 1 && vobs && d.serv.contains (chanFe c)

/-- The primary integrator's stage latch at the boundary that ended the step. -/
def State.primaryLatch (s : State) : Nat :=
  let p := s.rdf .chg R.CHG.CFG 0 0
  s.rdn .chg (R.CHG.LS_0 p) + 2 ^ 32 * s.rdn .chg (R.CHG.LS_0 p + 4) + 2 ^ 64 * s.rdn .chg (R.CHG.LS_0 p + 8)

/-- After an anchor step (R153): the pair is formed and learned from, the anchor stored, UNKNOWN cleared, calibration
advanced, and the Waybill told. -/
def State.anchorDone (s : State) (d : StepDue) (c soc : Nat) : State :=
  let r := 65 + c
  let v := s.chanEst c
  let stored := (s.jrnField r 0x21 1).testBit 1 && s.jrnField r 0x24 4 = s.epoch
  let dSoc := (soc : Int) - s.jrnField r 0x22 2
  let dAcc := v.acc - signed 96 (s.jrnField r 0x30 12)
  let cap := s.capOf c
  let fl := putBits (s.jrnField r 0x21 1) 1 1 1
  let s := s.jrnEdit r 8 (leBytes 4 cap)
  let s := s.jrnEdit r 0x21 ([BitVec.ofNat 8 fl] ++ leBytes 2 soc ++ leBytes 4 s.epoch ++ leBytes 8 d.sb ++
    leBytes 12 (unsign 96 v.acc))
  let s := s.modChan c (fun v => { v with unknown := false, anchRun := some d.runNo })
  let s := if stored && s.rdb .est R.EST.LRN2 24 && s.rdf .est R.EST.LRN 31 16 ≤ dSoc.natAbs then
      let x := pairSample dSoc dAcc
      if plausible x (s.qName c) then s.gateSample c x.toNat
      else ((s.learnEvent 3 c x).inc .est R.EST.LRNREJ).wrb .est R.EST.AEVT 4 true
    else s
  let s := s.calAdvance c ⟨soc, v.acc, s.epoch⟩
  let s := s.jrnQueue r (s.jrnImage r)
  let s := (s.inc .est R.EST.ANCHORS).wrb .est R.EST.AEVT 0 true
  let s := s.wr64 .est R.EST.ANCH_LO R.EST.ANCH_HI d.sb
  s.wayEntry 0x09 (leBytes 2 c ++ zeros 2 ++ leBytes 12 s.primaryLatch)

/-! ### Disagreement and internal short (R149, R157) -/

/-- The EMPTY record (R160, R335). -/
def State.emptyRecord (s : State) (d : StepDue) (c : Nat) (soc : Rat) : State :=
  let v := s.chanEst c
  s.record .est 0x11 ([1, 0] ++ leBytes 2 c ++ leBytes 2 (code16 soc) ++ zeros 2 ++
    leBytes 4 (unsign 32 (satS 32 (roundAway (qv 62 v.cnt * 65536)))) ++ leBytes 8 v.seedStage ++ leBytes 8 d.sb)

/-- The state after a step that is no anchor step (R157): STATE and CNT. -/
def disNext (st cnt n disN : Nat) (ovr empty : Bool) : Nat × Nat :=
  if empty && st != 3 then (3, cnt)
  else if st = 0 then (if ovr then (1, min n 255) else (0, cnt))
  else if st = 1 then
    if ovr then
      let k := min (cnt + n) 255
      (if disN ≤ k then 2 else 1, k)
    else (0, 0)
  else (st, cnt)

/-- The disagreement word is evaluated over the `n` stages the channel's step covers, and an anchor re-seeds the count
path (R153, R157). -/
def State.disUpdate (s : State) (d : StepDue) (c n : Nat) (anchor : Bool) : State :=
  let v := s.chanEst c
  let k := qv 62 v.cnt
  let diff := v.soc - k
  let s := s.setChan c { v with diff := satS 16 (roundAway (diff * 65536)), anchored := anchor }
  if anchor then
    s.modChan c (fun v => { v with disSt := 0, disCnt := 0, cnt := roundAway (v.soc * ((2 ^ 62 : Nat) : Rat)),
                                   seed := true, cntLost := false, seedStage := d.sb })
  else
    let ovr := decide (qv 16 (s.rdf .est R.EST.DIS 31 16 : Nat) < absR diff)
    let empty := decide (k ≤ qv 16 (s.rdf .est R.EST.DIS_EMPTY 15 0 : Nat)) &&
      decide (qv 16 (s.rdf .est R.EST.DIS_EMPTY 31 16 : Nat) < v.soc)
    let (st, cnt) := disNext v.disSt v.disCnt n (s.rdf .est R.EST.DIS 7 0) ovr empty
    let s := s.modChan c (fun v => { v with disSt := st, disCnt := cnt })
    if st = 3 && v.disSt != 3 then (s.emptyRecord d c v.soc).wrb .est R.EST.AEVT 2 true
    else if st = 2 && v.disSt != 2 then s.wrb .est R.EST.AEVT 1 true
    else s

/-- COUNT and WARN after a step (R149). -/
def iscNext (warn : Bool) (cnt n limit : Nat) (beyond : Bool) : Bool × Nat :=
  let k := if beyond then min (cnt + n) 65535 else 0
  if limit ≤ k then (!warn, 0) else (warn, k)

def State.iscUpdate (s : State) (c n : Nat) : State :=
  let v := s.chanEst c
  let m := v.ph.getD 3 0
  let beyond := if v.iscWarn then m ≤ s.rdf .est R.EST.ISC_THR 31 16 else s.rdf .est R.EST.ISC_THR 15 0 < m
  let (w, k) := iscNext v.iscWarn v.iscCnt n (s.rdf .est R.EST.CFG 31 16) beyond
  s.setChan c { v with iscWarn := w, iscCnt := k }

/-! ### One channel's step (R131 to R137, R155) -/

/-- The string charge of a step in pC with the substitution of R134: the sum, the substituted stages, and the last good
charge after it. -/
def stepCharge (last : Int) (chgs : List StageChg) : Int × Nat × Int :=
  chgs.foldl (fun (x : Int × Nat × Int) c => match c.q with
    | some q => (x.1 + q, x.2.1, q)
    | none => (x.1 + x.2.2, x.2.1 + 1, x.2.2)) (0, 0, last)

/-- A temperature reading in K. -/
def kelvin (t : Int) : Rat := (t : Rat) / 64 + 27315 / 100

/-- BAL's converter loss in mW at a current in A (R199). -/
def State.convLoss (s : State) (i : Rat) : Rat :=
  (s.rdf .bal R.BAL.LOSS 15 0 : Rat) * i * i + (s.rdf .bal R.BAL.LOSS 31 16 : Rat) * absR i

/-- The mean readback of a step in A; where none was available, the mean of b_T. -/
def ChanAcc.meanRb (a : ChanAcc) (ticks : Nat) : Rat :=
  if a.rbcnt = 0 then (if ticks = 0 then 0 else (a.bsum : Rat) / ticks / 1000) else (a.rbsum : Rat) / a.rbcnt / 1000

/-- The balancing heat a cell takes, in W (R124, R208). -/
def State.balHeat (s : State) (a : ChanAcc) (ticks : Nat) : Rat :=
  qv 16 (s.rdf .cth R.CTH.BALFRAC 15 0 : Nat) * s.convLoss (a.meanRb ticks) / 1000

/-- The observations of a step (R125, R131, R153). -/
def State.observations (s : State) (p : PSet) (c : Nat) (a : ChanAcc) (vobs anchor : Bool) : Sat (List Obs) := do
  let v ← if !vobs then pure [] else do
    let z ← wbVolt ((a.vsum : Rat) / a.vcnt / 100000)
    if anchor then pure [⟨.ocv, z, (s.rdf .est R.EST.ANCHOR_SIG 15 0 : Rat) / 1000000⟩]
    else pure [⟨.volt, z, p.sr.getD 0 0 / 1000000⟩]
  let t := sget {} s.cth.chan c
  let temp := fun (r : Option Int) (st : SensorSt) (k : Nat) => (match r with
    | some x => if st.st = 2 then pure [] else do pure [⟨.temp, ← wbTemp (kelvin x), p.sr.getD k 0⟩]
    | none => pure [] : Sat (List Obs))
  pure (v ++ (← temp a.t0 t.s0 1) ++ (← temp a.t1 t.s1 2))

/-- The channel's filters are initialised in this step with the hypotheses `hs` (R135): count path, disagreement,
internal short and rejected run start again. -/
def State.initChan (s : State) (p : PSet) (d : StepDue) (c : Nat) (hs : List HypV) : State :=
  let f := chanFe c
  let soc := socSum p hs
  s.modChan c (fun x => { x with
    live := true, femap := s.feSet f + 16 * s.feMask f, ref := s.rdn .est (R.EST.PS_REF (s.feSet f))
    hyps := hs.map HypV.store, soc := soc, cnt := roundAway (soc * ((2 ^ 62 : Nat) : Rat))
    disSt := 0, disCnt := 0, diff := 0, seed := false, cntLost := false, seedStage := d.sb
    iscCnt := 0, iscWarn := false, run := [], want := false, anchored := false })

/-- A channel's filter state no longer belongs to its FEMAP entry or set (R137). -/
def State.foreign (s : State) (c : Nat) : Bool :=
  let f := chanFe c
  let v := s.chanEst c
  v.femap != s.feSet f + 16 * s.feMask f || v.ref != s.rdn .est (R.EST.PS_REF (s.feSet f))

/-- The count path takes a charge in pC (R155). -/
def countStep (cnt : Int) (q : Int) (cap : Nat) : Int :=
  cnt + contentOf 62 (divR 62 q ((cap : Rat) * (36 / 10) * 1000000000000))

/-- STATUS (R147). -/
def statusOf (mask pset : Nat) (dis rest c12 clamp sat reinit held unknown lost tobs vobs : Bool) : Nat :=
  mask * 2 ^ 16 + pset * 2 ^ 12 + b2n dis * 2048 + b2n rest * 1024 + b2n c12 * 512 + b2n clamp * 256 + b2n sat * 128 +
  b2n reinit * 64 + b2n held * 32 + b2n unknown * 16 + b2n lost * 8 + b2n tobs * 4 + b2n vobs * 2 + 1

/-- What the lanes give for one step of a channel: hypotheses, re-initialisations, the voltage prediction, and whether a
temperature was observed. -/
structure ChanRun where
  hs : List HypV
  reinits : Nat
  vPred : Rat
  tobs : Bool
  deriving DecidableEq, Repr

/-- A channel's filters take a step (R132), or are initialised (R135). -/
def State.chanRun (s : State) (p : PSet) (c : Nat) (again vobs anchor : Bool) (z : Option Rat) (a : ChanAcc)
    (x : StepIn) : Sat ChanRun := do
  let mask := s.feMask (chanFe c)
  if again then pure ⟨← initHyps p mask (p.initSoc z x.i), 0, 0, false⟩
  else
    let obs ← s.observations p c a vobs anchor
    let o ← filterStep p mask { x with obs := obs } ((s.chanEst c).hyps.map HypSt.toV)
    pure ⟨o.hs, o.reinits, o.vPred, obs.any (·.kind = .temp)⟩

/-- H3's leakage G_SC × v in µA (R146); 0 where H3 is not masked. -/
def PSet.leakage (p : PSet) (mask : Nat) (d : Drive) (hs : List HypV) : Sat Int := do
  if !mask.testBit 3 then pure 0
  else
    let y ← terminal p { d with hyp := 3 } (← p.physM (hs.getD 3 ⟨[], [], 0⟩).x)
    pure (roundAway (p.gSc * y.v * 1000000))

/-- The step of a channel that is not held and has a harness (R131 to R137). `q` is its charge of the step, `lost` the
substituted stages; a catch-up step takes those of its gap too. -/
def State.chanStep (s : State) (d : StepDue) (c : Nat) (q : Int) (lost : Nat) : State :=
  let f := chanFe c
  let p := s.pset (s.feSet f)
  let a := sget {} d.acc c
  let v := s.chanEst c
  let gap := if v.live then d.sb - v.last else d.n
  let catchUp := v.live && d.n < gap
  let n := if catchUp then gap else d.n
  let lost := if catchUp then lost + v.lostWait else lost
  let dt : Rat := (n : Rat) / 100
  let qAll := if catchUp then v.qWait + q else q
  let halfSeen := 20 * d.n ≤ 2 * a.vcnt && 0 < a.vcnt
  let z : Option Rat := if halfSeen then some ((a.vsum : Rat) / a.vcnt / 100000) else none
  let mask := s.feMask f
  let s := s.modChan c (fun v => { v with last := d.sb, qWait := 0, qCount := 0, lostWait := 0, stepped := true })
  let env := sget (1, p.tRef) s.est.env c
  let again := !v.live || v.want || s.foreign c || (catchUp && 100 < gap)
  let vobs := halfSeen && !catchUp && !again
  let anchor := vobs && s.mayAnchor d c vobs
  let sigma := if lost = 0 then 0 else
    sqrtR 30 (lost : Rat) * (s.rdn .est R.EST.CLOSS : Rat) / 1000000000
  let (i, m) := (wbAmps (divR 32 ((qAll : Rat) / 1000000000000) dt)).run {}
  let heat := s.balHeat a (20 * d.n)
  let (o, m) := (s.chanRun p c again vobs anchor z a ⟨i, dt, n, [], sigma, s.capOf c, env.1, env.2, heat⟩).run m
  let (leak, m) := (p.leakage mask ⟨i, s.capOf c, 3, env.1, env.2, heat⟩ o.hs).run m
  let s := if again then s.initChan p d c o.hs else
    s.modChan c (fun x => { x with
      hyps := o.hs.map HypV.store, soc := socSum p o.hs
      cnt := countStep x.cnt (v.qCount + q) (s.capOf c), cntLost := x.cntLost || 0 < lost })
  let s := s.modChan c (fun x => { x with
    reinits := satAdd 16 x.reinits o.reinits, sats := satAdd 16 x.sats m.sats
    ph := (List.range 4).map (fun j => code16 (o.hs.getD j ⟨[], [], 0⟩).mu) })
  let s := if 0 < o.reinits then (s.incBy .est R.EST.REINIT o.reinits).flag .est 11 else s
  let s := if 0 < m.sats then (s.incBy .est R.EST.SATUR m.sats).flag .est 12 else s
  let s := if again then s else s.disUpdate d c n anchor
  let s := if anchor then s.anchorDone d c (code16 (s.chanEst c).soc) else s
  let s := if again then s else s.iscUpdate c n
  let hv := (s.chanEst c).hyps.map HypSt.toV
  let rt := roundAway (combine p hv (fun x => p.rTot x (x.getD p.iTc 0)) * 1000000)
  let soc := (s.chanEst c).soc
  let st := statusOf mask (s.feSet f) (2 ≤ (s.chanEst c).disSt) d.rest p.isC12 m.clamp (soc < 0 || 1 < soc)
    (again || 0 < o.reinits) false (s.chanEst c).unknown (0 < lost) o.tobs vobs
  s.modChan c (fun v => { v with
    status := st, estStage := d.sb, rTot := rt.toNat, leak := satS 32 leak
    resid := if vobs then satS 32 (roundAway ((z.getD 0 - o.vPred) * 1000000)) else 0
    vmean := (if a.vcnt = 0 then 0 else (roundAway ((a.vsum : Rat) / a.vcnt)).toNat) + a.vcnt * 2 ^ 20
    eUse := s.usableEnergy p c })

/-- A channel that does not step keeps summing its charge (R137); a held one also keeps its count path going (R155). -/
def State.chanHold (s : State) (c : Nat) (q : Int) (lost : Nat) : State :=
  s.modChan c (fun v =>
    let v := { v with qWait := v.qWait + q, lostWait := v.lostWait + lost, stepped := false, anchored := false }
    if v.held then
      { v with cnt := if v.live then countStep v.cnt q (s.capOf c) else v.cnt, cntLost := v.cntLost || 0 < lost }
    else { v with qCount := v.qCount + q })

end Sys2Proof.Machine
end

