-- ==== Sys2Proof/Machine/Lanes.lean ====
section
/-! DEFINITION. Lanes and the Ostler: harnesses, placement, rotating cross-checks, retirement, migration, rest (R177 to
R192, R195, R196). -/

namespace Sys2Proof.Machine

open Sys2Proof

def State.harness (s : State) (c : Nat) : Option Harness := (s.ost.map.find? (fun e => e.1 = c)).map (·.2)
def State.setHarness (s : State) (c : Nat) (h : Harness) : State :=
  { s with ost := { s.ost with map := sinsert c h (serase s.ost.map c) } }
def State.dropHarness (s : State) (c : Nat) : State := { s with ost := { s.ost with map := serase s.ost.map c } }

def State.inService (s : State) : List Nat := (List.range 32).filter (fun l => !s.ost.retired.contains l)
/-- The lanes that run steps: not gated, and not waking in this stage. -/
def State.laneRuns (s : State) : List Nat :=
  s.inService.filter (fun l => !s.ost.gated.contains l && !(s.ost.waking && s.ost.testing.contains l))

/-- Masked hypotheses of a channel. -/
def State.hypCount (s : State) (c : Nat) : Nat := popCount (s.feMask (chanFe c)) 4
def State.laneChans (s : State) (l : Nat) : List Nat := (s.ost.map.filter (fun e => e.2.lane = l)).map (·.1)
/-- The hypothesis load of a lane (R179), and the sets whose images it holds. -/
def State.laneLoad (s : State) (l : Nat) : Nat := ((s.laneChans l).map s.hypCount).foldl (· + ·) 0
def State.laneSets (s : State) (l : Nat) : List Nat :=
  (List.range 8).filter (fun n => (s.laneChans l).any (fun c => s.feSet (chanFe c) = n))

/-- May a lane take a channel: a free slot, and its set's image or a free image slot (R179)? -/
def State.laneFits (s : State) (l c : Nat) : Bool :=
  (s.laneChans l).length < 24 &&
  ((s.laneSets l).contains (s.feSet (chanFe c)) || (s.laneSets l).length < 4)

/-- The lane a channel that needs a harness is placed on (R179). -/
def State.bestLane (s : State) (c : Nat) : Option Nat :=
  (s.inService.filter (fun l => s.laneFits l c)).foldl (fun b l => match b with
    | none => some l
    | some m => if s.laneLoad l < s.laneLoad m then some l else some m) none

/-- A channel is left without a harness for the stage (R180, R189). -/
def State.migFail (s : State) : State := (s.inc .ost R.OST.MIGFAIL).flag .ost 9

/-- One channel is placed, or misses the stage and is re-placed at the next boundary (R180). -/
def State.place (s : State) (migrating : Bool) (c : Nat) : State :=
  match s.bestLane c with
  | some l => s.setHarness c { lane := l, migrating := migrating, stabled := s.ost.gated.contains l }
  | none =>
    let s := (s.dropHarness c).migFail
    { s with ost := { s.ost with missed := s.ost.missed ++ [c] } }

/-- The placement when EST enters RUNNING (R178, R179). -/
def State.placeAll (s : State) : State :=
  let s := { s with ost := { s.ost with map := [], missed := [] } }
  s.presentChans.foldl (fun s c => s.place false c) s

/-- The lane registers and the map (R196). -/
def State.ostShow (s : State) (stage : Nat) : State :=
  let bitsOfL := fun (l : List Nat) => bitsOf (fun n => l.contains n) 32
  let s := s.wrn .ost R.OST.LANES (b2n s.ost.rest * 2 ^ 24 + s.ost.gated.length * 2 ^ 16 + s.ost.retired.length * 256 +
    s.inService.length)
  let s := (s.wrn .ost R.OST.RETIRED (bitsOfL s.ost.retired)).wrn .ost R.OST.GATED (bitsOfL s.ost.gated)
  let s := (List.range 32).foldl (fun s l =>
    let st := if s.ost.retired.contains l then 2 else if s.ost.testing.contains l then 3
      else if s.ost.gated.contains l then 1 else 0
    s.wrn .ost (R.OST.LANE l) (st * 2 ^ 24 + bitsOf (fun n => (s.laneSets l).contains n) 8 * 2 ^ 16 +
      (s.laneChans l).length * 256 + s.laneLoad l)) s
  let byte := fun (s : State) (c : Nat) => match s.harness c with
    | some h => 128 + b2n h.migrating * 64 + b2n h.stabled * 32 + h.lane
    | none => 0
  let s := (List.range 128).foldl (fun s w =>
    s.wrn .ost (R.OST.HMAP w) (byte s (4 * w) + 256 * byte s (4 * w + 1) + 65536 * byte s (4 * w + 2) +
      16777216 * byte s (4 * w + 3))) s
  s.wr64 .ost R.OST.MAP_LO R.OST.MAP_HI stage

/-- The registers again, for the stage they hold from. -/
def State.ostRefresh (s : State) : State := s.ostShow (s.rd64 .ost R.OST.MAP_LO R.OST.MAP_HI)

/-! ### The stage boundary (R180, R183, R191, R192) -/

/-- The re-placement of R180. -/
def State.replaceAll (s : State) : State :=
  let need := (List.range 8).flatMap (fun n => s.presentChans.filter (fun c => s.feSet (chanFe c) = n))
  let lanes := s.inService
  let per := (need.length + lanes.length - 1) / max lanes.length 1
  let s := { s with ost := { s.ost with map := [], missed := [] } }
  let s := need.zipIdx.foldl (fun s (c, i) => match lanes[i / max per 1]? with
    | some l => if s.laneFits l c then s.setHarness c { lane := l, stabled := s.ost.gated.contains l } else s
    | none => s) s
  let s := s.flag .ost 12
  if s.presentChans.all (fun c => (s.harness c).isSome) then s else s.outEntry 5

/-- Booked lane time in ns of the coming stage (R182): each hypothesis step 62.5 µs, and an even share of the 64 ms of
other jobs (log entry 10). -/
def State.booking (s : State) (l : Nat) : Nat :=
  s.laneLoad l * 62500 + 64000000 / max s.laneRuns.length 1

/-- The rest timetable's booking on m lanes (log entry 10): a tenth of the step work, with forecasts and reserve whole. -/
def State.restBooking (s : State) (m : Nat) : Nat :=
  let hyps := (s.ost.map.map (fun e => s.hypCount e.1)).foldl (· + ·) 0
  ((hyps * 62500 + 18000000) / 10 + 46000000) / max m 1

/-- At a rest span boundary the fewest lanes run and the others are gated, their harnesses stabled (R191). -/
def State.restGate (s : State) : State :=
  let lanes := s.inService
  let least := s.ostCfg 5 0
  let k := ((List.range 33).find? (fun m => least ≤ m && s.restBooking m ≤ 9000000)).getD 32
  let gated := lanes.drop k
  { s with ost := { s.ost with
    rest := true
    gated := gated
    map := s.ost.map.map (fun (e : Nat × Harness) => (e.1, { e.2 with stabled := gated.contains e.2.lane })) } }

/-- When rest ends every gated lane wakes and runs the test vectors; the span's step still runs on the lanes that ran
(R192). -/
def State.restWake (s : State) : State :=
  { s with ost := { s.ost with
    rest := false
    waking := true
    testing := s.ost.gated
    gated := [] } }

/-- Every present channel without a harness is placed (R179), or where one missed the stage before, all are re-placed
(R180). -/
def State.harnessNeeds (s : State) : State :=
  let bare := s.presentChans.filter (fun c => (s.harness c).isNone)
  if bare.any s.ost.missed.contains then s.replaceAll
  else bare.foldl (fun s c => s.place false c) { s with ost := { s.ost with missed := [] } }

/-- Some lane's projected booking exceeds t_book_max (R183): in rest by the rest timetable. -/
def State.overbooked (s : State) : Bool :=
  if s.ost.rest then 9000000 < s.restBooking s.laneRuns.length else s.laneRuns.any (fun l => 9000000 < s.booking l)

/-- The Ostler at a stage boundary: OST.CFG comes into force (R196), harnesses settle and those of absent channels go
(R178), missing ones are placed, rest gates or wakes lanes, and the booking is projected. -/
def State.ostBoundary (s : State) (spanBoundary : Bool) : State :=
  if !(s.running .est || s.running .way) then s
  else
    let map := s.ost.map.filter (fun e => s.present e.1)
    let s := { s with ost := { s.ost with
      cfg := s.ostCfgNow
      pairs := []
      again := []
      displaced := []
      used := 0
      skipped := []
      waking := false
      map := map.map (fun (e : Nat × Harness) =>
        (e.1, { e.2 with migrating := false, stabled := e.2.stabled && !s.ost.waking })) } }
    let s := if s.running .est then s.harnessNeeds else s
    let s := if s.tb.rest then (if spanBoundary then s.restGate else s) else if s.ost.rest then s.restWake else s
    let s := if s.running .est && s.overbooked then s.outEntry 5 else s
    s.ostShow s.stage

/-! ### Cross-checks (R184 to R186) -/

/-- The lane that steps a channel: its own, or for a stabled one the running lane it is dealt to (log entry 10). -/
def State.stepLane (s : State) (h : Harness) : Option Nat :=
  let run := s.laneRuns
  if h.stabled then run[h.lane % max run.length 1]? else some h.lane

/-- The channels a lane steps. -/
def State.stepsOn (s : State) (l : Nat) : List Nat :=
  (s.ost.map.filter (fun (e : Nat × Harness) => s.stepLane e.2 = some l && !(s.chanEst e.1).held)).map (·.1)

/-- The check list of a lane: its stepping channels, each with its masked hypotheses (R184). -/
def State.checkList (s : State) (l : Nat) : List (Nat × Nat) :=
  (s.stepsOn l).flatMap (fun c => ((List.range 4).filter (fun j => (s.feMask (chanFe c)).testBit j)).map (fun j => (c, j)))

/-- The comparisons of the step of stage S (R184): owner, checker, channel, hypothesis. -/
def State.rotation (s : State) (stage : Nat) : List LaneCheck :=
  let run := s.laneRuns
  let n := run.length
  if n < 2 then []
  else
    (List.range n).filterMap (fun i =>
      let owner := run.getD ((i + 1 + stage % (n - 1)) % n) 0
      let l := s.checkList owner
      match l[stage % max l.length 1]? with
      | some (c, j) => some ⟨owner, run.getD i 0, c, j⟩
      | none => none)

/-- XLAST shows a comparison. -/
def State.xlast (s : State) (k : LaneCheck) (bad : Bool) : State :=
  s.wrn .ost R.OST.XLAST (b2n bad * 2 ^ 27 + k.hyp * 2 ^ 25 + k.ch * 2 ^ 16 + k.owner * 256 + k.checker)

/-- The comparisons of the step of a stage are made: those that differ send both lanes to the test vectors. -/
def State.crossCheck (s : State) (stage : Nat) (x : LaneObservations) : State :=
  let ks := s.rotation stage
  let s := { s with ost := { s.ost with pairs := ks, stage := stage } }
  ks.foldl (fun s k =>
    let bad := x.differ.toNat.testBit k.owner
    let s := s.xlast k bad
    if bad then { s with ost := { s.ost with checks := s.ost.checks ++ [k] } } else s) s

/-- The state a harness had in another copy (R177). -/
def ChanEst.withHarness (v h : ChanEst) : ChanEst :=
  { v with
    hyps := h.hyps, cnt := h.cnt, disSt := h.disSt, disCnt := h.disCnt, diff := h.diff, seed := h.seed
    cntLost := h.cntLost, seedStage := h.seedStage, iscCnt := h.iscCnt, iscWarn := h.iscWarn }

/-- A channel whose displaced step cannot run does not step: it goes back to its shadow copy and sums the charge
(R137, R189). What the step counted and flagged beside the channel's own state stands (log entry 94). -/
def State.unstep (s : State) (c : Nat) : State :=
  let e := s.est
  let was : ChanEst := sget {} e.shadow c
  let copy : ChanEst := sget {} (sget [] e.bufs (e.bufOf % 2)) c
  let q := match e.ran with
    | some d => e.ranStr + 500000 * (sget ({} : ChanAcc) d.acc c).bsum
    | none => 0
  let v := if copy.live then was.withHarness copy else was
  let r := 65 + c
  let s := { s with
    jrn := { s.jrn with
      img := sset [] s.jrn.img r (sget [] e.jrnWas.img r)
      queue := s.jrn.queue.filter (fun x => x != r || e.jrnWas.queue.contains r) }
    ost := { s.ost with skipped := c :: s.ost.skipped } }
  (s.setChan c { v with acc := signed 96 (unsign 96 (was.acc + q)) }).chanHold c q e.ranLost

/-- Of displaced steps in ascending order of channel, those the 26 ms reserve carries, and the lane time they take
(R182, R189). -/
def State.carried (s : State) (cs : List Nat) : List Nat × Nat :=
  cs.foldl (fun (a : List Nat × Nat) c =>
    let t := a.2 + s.hypCount c * 62500
    if t ≤ 26000000 then (a.1 ++ [c], t) else a) ([], 0)

/-- The harnesses of a retired lane move (R188). Of the steps displaced in this stage the reserve carries what it can;
the other channels do not step (R189). -/
def State.migrate (s : State) (l : Nat) : State :=
  let cs := s.laneChans l
  let s := cs.foldl (fun s c => s.place true c) { s with ost := { s.ost with retired := l :: s.ost.retired } }
  let moved := if s.est.ran.isSome then cs.filter (fun c => (s.chanEst c).stepped) else []
  let all := sortNat (s.ost.displaced ++ moved)
  let (ok, t) := s.carried (all.filter (fun c => (s.harness c).isSome))
  let s := { s with ost := { s.ost with displaced := all, used := t } }
  let s := all.foldl (fun s c =>
    if ok.contains c || s.ost.skipped.contains c then s
    else if (s.harness c).isSome then (s.unstep c).migFail else s.unstep c) s
  s.ostShow (s.stage + 1)

/-- The check of an owner whose checker has retired is repeated on the lowest-numbered other lane in service (R186). -/
def State.recheck (s : State) (l : Nat) : State :=
  match s.ost.pairs.find? (fun k => k.checker = l && !s.ost.retired.contains k.owner) with
  | none => s
  | some k =>
    match s.inService.find? (fun n => n != k.owner && n != l) with
    | none => s
    | some n =>
      let k' := { k with checker := n }
      let s := { s with ost := { s.ost with
        again := s.ost.again ++ [k']
        pairs := s.ost.pairs.map (fun (x : LaneCheck) => if x.owner = k.owner then k' else x) } }
      s.xlast k' false

/-- A repeated check of an owner differed too. -/
def State.againBad (s : State) (owner : Nat) : State :=
  { s with ost := { s.ost with
    checks := s.ost.checks ++ s.ost.again.filter (fun k => k.owner = owner)
    again := s.ost.again.filter (fun k => k.owner != owner) } }

/-- A lane retires (R187): flagged, counted, recorded; a ninth is OUT cause [4]. Causes: 1 cross-check, 2 BOOT test, 3
wake test. -/
def State.retire (s : State) (l partner cause ownerT checkerT hyp ch : Nat) : State :=
  if s.ost.retired.contains l then s
  else
    let s := { s with ost := { s.ost with
      gated := s.ost.gated.filter (· != l)
      testing := s.ost.testing.filter (· != l) } }
    let s := (s.migrate l).flag .ost 8
    let s := if cause = 1 then s.inc .ost R.OST.XMISS else s
    let s := s.record .ost 0x07 ([2, BitVec.ofNat 8 l, BitVec.ofNat 8 partner, BitVec.ofNat 8 cause,
      BitVec.ofNat 8 ownerT, BitVec.ofNat 8 checkerT, BitVec.ofNat 8 hyp, 0] ++ leBytes 2 ch ++ zeros 2 ++
      leBytes 4 (bitsOf (fun n => s.ost.retired.contains n) 32) ++ leBytes 8 (if cause = 1 then s.ost.stage else s.stage))
    let s := s.trigger 7 0
    if 8 < s.ost.retired.length then s.outEntry 4 else s

/-- The test vectors of a comparison that differed, named by its owner lane, or of a waking lane, have ended (R186,
R192). A repeated check is one that differed once its test vectors end. -/
def State.bistEnds (s : State) (lane : Nat) (ownerFails checkerFails : Bool) (third : ThirdResult) : State :=
  if s.ost.testing.contains lane then
    let s := { s with ost := { s.ost with testing := s.ost.testing.filter (· != lane) } }
    if ownerFails then s.retire lane 0xFF 3 1 0 0 0 else s.ostRefresh
  else
    let s := s.againBad lane
    match s.ost.checks.find? (fun k => k.owner = lane) with
    | none => s
    | some k =>
      let s := { s with ost := { s.ost with checks := s.ost.checks.filter (· != k) } }
      let o := b2n ownerFails
      let c := b2n checkerFails
      let dropOwner := fun (s : State) => (s.retire k.owner k.checker 1 o c k.hyp k.ch).recheck k.owner
      let dropChecker := fun (s : State) => s.retire k.checker k.owner 1 o c k.hyp k.ch
      match ownerFails, checkerFails with
      | true, false => dropOwner s
      | true, true => dropChecker (dropOwner s)
      | false, true =>
        let s := (dropChecker s).recheck k.checker
        if third = .matchesOwner then s else s.againBad k.owner
      | false, false =>
        match third with
        | .matchesOwner => dropChecker s
        | .matchesChecker => dropOwner s
        | .neither => dropChecker (dropOwner s)

/-- BIST_DONE (R186, R192). -/
def execBistDone (dt : Nat) (lane : Fin 32) (ownerFails checkerFails : Bool) (third : ThirdResult) (s : State) :
    Host.Outcome State Fault Refusal :=
  .next ((s.elapse dt).bistEnds lane.val ownerFails checkerFails third).trialOut

end Sys2Proof.Machine
end

