-- ==== Sys2Proof/Machine/Balance.lean ====
section
/-! DEFINITION. The balancing planner, the readback check and the impedance correlators (R198 to R207). -/

namespace Sys2Proof.Machine

open Sys2Proof

/-- Q32.32 (R198). -/
def q3232 (x : Rat) : Rat := qv 32 (satS 64 (roundAway (x * ((2 ^ 32 : Nat) : Rat))))

/-- root(a, b, p) of R198. -/
def rootQ (a b p : Rat) : Rat := q3232 ((sqrtR 32 (b * b + 4 * a * p) - b) / (2 * a))

/-- Is a channel eligible for balancing in a step? -/
def State.eligible (s : State) (d : StepDue) (c : Nat) : Bool :=
  let v := s.chanEst c
  v.live && v.status % 2 = 1 && !v.held && !v.unknown && v.disSt < 2 && !s.bal.blocked.contains c &&
  !(sget 0 d.alerts (chanFe c)).testBit 10

/-- Is the channel held for an anchor (R200)? -/
def State.balHeld (s : State) (d : StepDue) (c : Nat) : Bool :=
  let lead := s.rdf .est R.EST.ANCHOR 31 16 - s.rdf .est R.EST.ANCHOR 15 0 - s.rdf .bal R.BAL.ANCH 15 0
  0 < d.quiet && lead * 2000 ≤ d.quiet && (s.chanEst c).anchRun != some d.runNo

/-- T_prot of the previous step, 1/64 °C (R211). -/
def State.tProt (s : State) (c : Nat) : Int := (sget {} s.cth.chan c).tprot

/-- The thermal factor f_T (R199). -/
def State.balFt (s : State) (c : Nat) : Rat :=
  let hi := s.rds .bal R.BAL.TLIM 15 0
  let de := s.rds .bal R.BAL.TLIM 31 16
  clamp01 ((hi - s.tProt c : Int) / ((hi - de : Int) : Rat))

/-- A channel's current after horizon, current limit and channel loss (R198). -/
def State.balChannel (s : State) (sbar : Rat) (c : Nat) : Rat :=
  let e := q3232 (sbar - (s.chanEst c).soc)
  let kq : Rat := s.rdf .bal R.BAL.LOSS 15 0
  let kl : Rat := s.rdf .bal R.BAL.LOSS 31 16
  let ch := s.rdf .bal R.BAL.LIM 11 0
  let ilim : Rat := (if s.rdb .bal R.BAL.CFG 1 then min ch 1997 else ch : Nat) / 1000
  let i := if absR e ≤ qv 16 (s.rdf .bal R.BAL.DEADBAND 15 0 : Nat) then 0
    else q3232 (e * (s.capOf c : Rat) * (36 / 10) / (s.rdf .bal R.BAL.CFG 31 16 : Rat))
  let i := if i < -ilim then -ilim else if ilim < i then ilim else i
  let pmax := q3232 (s.balFt c * (s.rdf .bal R.BAL.BUDGET 15 0 : Rat))
  if pmax < q3232 (kq * i * i + kl * absR i) then sgnR i * rootQ kq kl pmax else i

/-- The currents of a front-end scaled to its loss budget, then to its net limit (R198). -/
def State.balFrontEnd (s : State) (is : List (Nat × Rat)) : List (Nat × Rat) :=
  let kq : Rat := s.rdf .bal R.BAL.LOSS 15 0
  let kl : Rat := s.rdf .bal R.BAL.LOSS 31 16
  let a := q3232 (kq * rsum (is.map (fun x => x.2 * x.2)))
  let b := q3232 (kl * rsum (is.map (fun x => absR x.2)))
  let p : Rat := s.rdf .bal R.BAL.BUDGET 31 16
  let k := if p < a + b then rootQ a b p else 1
  let is := is.map (fun x => (x.1, q3232 (k * x.2)))
  let net := absR (rsum (is.map (·.2)))
  let lim : Rat := (s.rdf .bal R.BAL.NET 15 0 : Rat) / 1000
  if lim < net then is.map (fun x => (x.1, q3232 (x.2 * lim / net))) else is

/-- sbar of a step (R198): the mean SOC of the eligible channels, in Q32.32. -/
def State.balMean (s : State) (el : List Nat) : Rat :=
  q3232 (rsum (el.map (fun c => (s.chanEst c).soc)) / (el.length : Rat))

/-- The commands of a step, in mA (R198, R200). -/
def State.balPlan (s : State) (d : StepDue) : List (Nat × Int) :=
  let el := s.presentChans.filter (s.eligible d)
  if !s.running .est || !s.running .bal || !s.rdb .bal R.BAL.CFG 0 || el.length < 2 then []
  else
    let sbar := s.balMean el
    let free := el.filter (fun c => !s.balHeld d c)
    let is := (List.range 64).flatMap (fun f => s.balFrontEnd ((free.filter (fun c => chanFe c = f)).map (fun c => (c, s.balChannel sbar c))))
    let net := absR (rsum (is.map (·.2)))
    let lim : Rat := (s.rdf .bal R.BAL.NET 31 16 : Rat) / 100
    let is := if lim < net then is.map (fun x => (x.1, q3232 (x.2 * lim / net))) else is
    is.foldl (fun m x => sset 0 m x.1 (Int.tdiv (x.2 * 1000 * ((2 ^ 32 : Nat) : Rat)).floor (2 ^ 32 : Nat))) []

/-- sbar of a step as a code. -/
def State.balTarget (s : State) (d : StepDue) : Nat :=
  let el := s.presentChans.filter (s.eligible d)
  if el = [] then 0 else code16 (s.balMean el)

/-- The tick at which the commands of a step take effect (R201). -/
def State.planTick (s : State) (sb : Nat) : Nat :=
  let t := 20 * (sb + 2)
  if s.rdb .bal R.BAL.CFG 1 then (t + 3999) / 4000 * 4000 else t

/-- A step's plan is made, mirrored by the active, and waits for its tick (R198, R201, R213). -/
def State.balStep (s : State) (d : StepDue) : State :=
  let plan := s.balPlan d
  let t := s.planTick d.sb
  let hold := s.running .bal && s.presentChans.any (s.balHeld d)
  let s := { s with bal := { s.bal with plan := plan, plans := s.bal.plans ++ [(t, d.sb, plan)] } }
  let s := (s.wrn .bal R.BAL.TARGET (if s.running .est then s.balTarget d else 0)).wrb .bal R.BAL.STAT 20 hold
  if s.mode = .active then
    s.mirrorItem 0x0006 t (leBytes 8 d.sb ++ leBytes 8 t ++
      (List.range 512).flatMap (fun c => leBytes 2 (unsign 16 (sget 0 plan c))))
  else s

/-- The module's own plan of the step marked `sb`, if it made one that is still to come or came due at the latest (R213). -/
def State.planOf (s : State) (sb : Nat) : Option (List (Nat × Int)) :=
  ((s.bal.met ++ s.bal.plans.map (fun p => (p.2.1, p.2.2))).find? (fun p => p.1 = sb)).map (·.2)

/-- The commands in force at a tick boundary (R201): the latest plan whose tick has come; 0 while BAL is not RUNNING.
Excitation follows EXC_EN while BAL is RUNNING. -/
def State.balTick (s : State) : State :=
  let due := s.bal.plans.filter (fun p => p.1 ≤ s.tick)
  let rest := s.bal.plans.filter (fun p => s.tick < p.1)
  let old := s.bal.cmd
  let new := if !s.running .bal then [] else match due.getLast? with
    | some p => p.2.2
    | none => old
  let since := s.presentChans.foldl (fun m c => if sget 0 old c = sget 0 new c then m else sset 0 m c s.tick) s.bal.since
  let exc := s.running .bal && s.rdb .bal R.BAL.CFG 1
  let s := { s with bal := { s.bal with
    plans := if s.running .bal then rest else []
    met := if due = [] then s.bal.met else due.map (fun (p : Nat × Nat × List (Nat × Int)) => (p.2.1, p.2.2))
    cmd := new
    since := since
    exc := exc } }
  let s := (s.wrb .bal R.BAL.STAT 21 exc).wrf .bal R.BAL.STAT 9 0 new.length
  if due = [] && new = old then s
  else
    let s := match due.getLast? with
      | some p => s.wr64 .bal R.BAL.PLAN_LO R.BAL.PLAN_HI p.2.1
      | none => s
    let s := (List.range 256).foldl (fun s w =>
      s.wrn .bal (R.BAL.CMDOUT w) (unsign 12 (sget 0 new (2 * w)) + 65536 * unsign 12 (sget 0 new (2 * w + 1)))) s
    if new = old then s
    else
      let (b, n) := codePlain (s.presentChans.map (fun c => sget 0 new c - sget 0 old c))
      let s := s.wayEntry 0x05 (leBytes 8 s.tick ++ b)
      if s.running .way && s.mode.runsString then s.incBy .way R.WAY.ESCAPES n else s

/-! ### Readback check (R203) -/

/-- A channel is blocked: listed, counted, flagged and recorded. -/
def State.block (s : State) (c : Nat) (cmd rb : Int) : State :=
  let s := { s with bal := { s.bal with blocked := c :: s.bal.blocked, ovr := sset 0 s.bal.ovr c 0 } }
  let s := s.wrb .bal (R.BAL.BLOCK (c / 32)) (c % 32) true
  let s := ((s.inc .bal R.BAL.BLOCKS).flag .bal 8).wrf .bal R.BAL.STAT 19 10 s.bal.blocked.length
  s.record .bal 0x12 ([1, 0] ++ leBytes 2 c ++ leBytes 2 (unsign 16 cmd) ++ leBytes 2 (unsign 16 rb) ++
    [BitVec.ofNat 8 (s.rdf .bal R.BAL.RBCHK 23 16), 0, 0, 0])

/-- The check of one channel after a step. -/
def State.readback (s : State) (d : StepDue) (c : Nat) : State :=
  let cmd := sget 0 d.steady c
  let a := sget {} d.acc c
  if cmd = 0 || a.rbcnt = 0 || s.bal.blocked.contains c then s
  else
    let m : Rat := (a.rbsum : Rat) / a.rbcnt
    if absR (m - cmd) ≤ (s.rdf .bal R.BAL.RBCHK 11 0 : Rat) then { s with bal := { s.bal with ovr := sset 0 s.bal.ovr c 0 } }
    else
      let k := sget 0 s.bal.ovr c + 1
      if s.rdf .bal R.BAL.RBCHK 23 16 ≤ k then s.block c cmd (roundAway m)
      else { s with bal := { s.bal with ovr := sset 0 s.bal.ovr c k } }

/-- The check of every channel, while BAL runs. -/
def State.readbackAll (s : State) (d : StepDue) : State :=
  if s.running .bal then s.presentChans.foldl (fun s c => s.readback d c) s else s

/-- Channels unblocked by a write of BAL.CMD (R203). -/
def State.unblock (s : State) (f : Nat → Bool) : State :=
  let s := (s.bal.blocked.filter f).foldl (fun s c => s.wrb .bal (R.BAL.BLOCK (c / 32)) (c % 32) false) s
  let s := { s with bal := { s.bal with blocked := s.bal.blocked.filter (fun c => !f c) } }
  s.wrf .bal R.BAL.STAT 19 10 s.bal.blocked.length

/-- UNBLOCK (R203). -/
def execUnblock (dt : Nat) (ch : Fin 512) (s : State) : Host.Outcome State Fault Refusal :=
  .next ((s.elapse dt).hostDo .bal (fun (s : State) => s.unblock (· = ch.val)))

/-- UNBLOCK_ALL (R203). -/
def execUnblockAll (dt : Nat) (s : State) : Host.Outcome State Fault Refusal :=
  .next ((s.elapse dt).hostDo .bal (fun (s : State) => s.unblock (fun _ => true)))

/-! ### Impedance (R204 to R207) -/

/-- Tone frequencies in Hz. -/
def toneHz (m : Nat) : Rat := [1 / 2, 5, 50, 250].getD m 0

/-- The Walsh sign w_r(j) of R204. -/
def walsh (r j : Nat) : Rat := if popCount (r &&& j) 3 % 2 = 0 then 1 else -1

/-- Σ w_r(j_T) x_T e^(−jθ_T) over samples by tick (R206): real and imaginary parts. -/
def correlate (r m : Nat) (xs : List (Nat × Rat)) : Rat × Rat :=
  xs.foldl (fun acc (t, x) =>
    let turn := toneHz m * ((t % 4000 : Nat) : Rat) / 2000
    let w := walsh r (t / 4000 % 8) * x
    (acc.1 + w * Config.sinTurns (turn + 1 / 4), acc.2 - w * Config.sinTurns turn)) (0, 0)

def normSq (z : Rat × Rat) : Rat := z.1 * z.1 + z.2 * z.2

/-- One tone of one channel over the window that ends before T_e: a new value, or none when the window does not
qualify (R207). -/
def State.toneResult (s : State) (te c m : Nat) : Option (Int × Int) :=
  let win := (sget [] s.bal.win c).filter (fun z => te ≤ z.tick + 32000 && z.tick < te)
  let istr := s.bal.istr.filter (fun z => te ≤ z.1 + 32000 && z.1 < te)
  let vs := win.filterMap (fun z => z.v.map (fun v => (z.tick, (v : Rat) * 10)))
  let is := win.filterMap (fun z => z.rb.map (fun b => (z.tick, ((b - z.cmd : Int) : Rat))))
  let ss := istr.filterMap (fun z => z.2.map (fun x => (z.1, x)))
  if vs.length != 32000 || is.length != 32000 || ss.length != 32000 then none
  else
    let r := c % 8
    let v := correlate r m vs
    let i := correlate r m is
    let x := correlate r m ss
    let k := qv 16 (s.rdf .bal R.BAL.ZCFG 15 0 : Nat)
    if normSq x ≤ k * k * normSq i && 64000000 ≤ normSq i then
      let n := normSq i
      some (roundAway (1000 * (v.1 * i.1 + v.2 * i.2) / n), roundAway (1000 * (v.2 * i.1 - v.1 * i.2) / n))
    else none

/-- The results of a channel's tones take their places (R207). -/
def State.toneStep (s : State) (te c m : Nat) : State :=
  let zs := sget [] s.bal.z c
  let old := zs.getD m {}
  let zs4 := (List.range 4).map (fun k => zs.getD k {})
  match s.toneResult te c m with
  | some (re, im) =>
    let s := { s with bal := { s.bal with z := sset [] s.bal.z c (zs4.set m { re := satS 32 re, im := satS 32 im, age := 0 }) } }
    let rt := (s.chanEst c).rTot
    if m = 3 && s.rdf .bal R.BAL.ZCFG 31 24 * rt < (re - rt).natAbs * 256 then (s.inc .bal R.BAL.ZDEVS).flag .bal 10 else s
  | none =>
    let s := { s with bal := { s.bal with z := sset [] s.bal.z c (zs4.set m { old with age := min (old.age + 1) 255 }) } }
    (s.inc .bal R.BAL.ZSKIPS).flag .bal 9

/-- IMPEDANCE_PUBLISHED (R207): the tones of every channel at the chip boundary that waits. -/
def execImpedancePublished (dt : Nat) (s : State) : Host.Outcome State Fault Refusal :=
  let s := s.elapse dt
  match s.bal.zdue with
  | none => .next s
  | some te =>
    let tones := (List.range 4).filter (fun m => s.rdb .bal R.BAL.ZCFG (16 + m))
    let s := { s with bal := { s.bal with zdue := none, zframe := te / 4000 } }
    let s := s.presentChans.foldl (fun s c => tones.foldl (fun s m => s.toneStep te c m) s) s
    .next (s.wayEntry 0x08 (leBytes 8 (te / 4000) ++ s.presentChans.flatMap (fun c => (List.range 4).flatMap (fun m =>
      let z := (sget [] s.bal.z c).getD m {}
      leBytes 4 (unsign 32 z.re) ++ leBytes 4 (unsign 32 z.im) ++ [BitVec.ofNat 8 z.age]))))

/-- A chip boundary (R206): while BAL is RUNNING a window of 32,000 ticks ends and awaits its results. -/
def State.chipBoundary (s : State) : State :=
  if s.running .bal && s.tick % 4000 = 0 then { s with bal := { s.bal with zdue := some s.tick } } else s

/-- A primary stage sample of the string current enters the window. -/
def State.istrSample (s : State) (tick : Nat) (ma : Option Rat) : State :=
  if s.running .bal then
    { s with bal := { s.bal with istr := (tick, ma) :: s.bal.istr.takeWhile (fun z => tick < z.1 + 40000) } }
  else s

/-- A write of ZSEL latches the named channel's impedance results. -/
def State.zselLatch (s : State) (ch : Nat) : State :=
  let s := s.wrn .bal R.BAL.ZSEL ch
  let zs := sget [] s.bal.z ch
  let s := (List.range 4).foldl (fun s m =>
    (s.wri .bal (R.BAL.ZRE m) (zs.getD m {}).re).wri .bal (R.BAL.ZIM m) (zs.getD m {}).im) s
  let s := s.wrn .bal R.BAL.ZAGE ((zs.getD 0 {}).age + 256 * (zs.getD 1 {}).age + 65536 * (zs.getD 2 {}).age +
    16777216 * (zs.getD 3 {}).age)
  (s.wr64 .bal R.BAL.ZFRAME_LO R.BAL.ZFRAME_HI s.bal.zframe)

/-- ZSEL_LATCH (R214): a write of BAL.ZSEL latches the channel's results. -/
def execZselLatch (dt : Nat) (ch : Fin 512) (s : State) : Host.Outcome State Fault Refusal :=
  .next ((s.elapse dt).hostDo .bal (fun (s : State) => s.zselLatch ch.val))

end Sys2Proof.Machine
end

