-- ==== Sys2Proof/Machine/Bitstream.lean ====
section
/-! DEFINITION. Bitstream inputs: validity, index lock, integrators, stage charges, filter outputs (R103 to R119). -/

namespace Sys2Proof.Machine

open Sys2Proof

/-- Integrator index of a current input (R103). -/
def modIntegrator (n : Nat) : Option Nat := if n < 2 then some n else if n < 4 then none else some (n - 2)

def State.groupLocked (s : State) (g : Nat) : Bool := s.rdb .mod R.MOD.STAT (1 + g)

/-- LOCK of a heartbeat (R279): the groups locked or driven. -/
def State.lockBits (s : State) : Nat := s.rdf .mod R.MOD.STAT 2 1

/-- Does the module generate MCLK of group g (R104)? The pin's level is read off the state here. -/
def State.clocksOut (s : State) (g : Nat) : Bool :=
  s.running .mod && (List.range 12).any (fun n => modGroup n = g && s.modEn n) &&
  (s.mode.speaks || (s.mode = .boot && s.sys.bootPhase = 9))

/-- MOD.INVALID and source BSLOSS follow the inputs (R119). -/
def State.invalidShow (s : State) : State :=
  let bits' := bitsOf s.inputInvalid 12
  let was := s.rdn .mod R.MOD.INVALID
  let s := s.wrn .mod R.MOD.INVALID bits'
  let s := if bits' &&& (0xFFF ^^^ was) = 0 then s else s.flag .mod 12
  s.setSource 58 (bits' != 0)

/-- An input becomes invalid (R119). -/
def State.invalidate (s : State) (n : Nat) : State :=
  s.setModIn n { s.modIn n with valid := false, bad := true, stageOk := false, csmp := none, fsmp := none }

/-- Every input of a group becomes invalid. -/
def State.invalidateGroup (s : State) (g : Nat) : State :=
  ((List.range 12).foldl (fun s n => if modGroup n = g then s.invalidate n else s) s).invalidShow

/-- Unsampled bits of a group are counted, and mark the stage gapped on its inputs (R111). -/
def State.unsampled (s : State) (g n : Nat) : State :=
  if n = 0 then s
  else
    let s := s.incBy .mod (if g = 0 then R.MOD.UNSAMP0 else R.MOD.UNSAMP1) n
    let s := if g = 0 then { s with mod := { s.mod with unsamp := s.mod.unsamp + n } } else s
    let s := (List.range 12).foldl (fun s i =>
      if modGroup i = g then s.setModIn i { s.modIn i with gap := true } else s) s
    (List.range 8).foldl (fun s n =>
      if (s.srcInputs n).any (fun i => modGroup i = g) then s.setSlot n { s.slot n with msUns := true } else s) s

/-- The clock of a group is lost (R119, R110): counted and flagged; a follower loses its index lock. -/
def State.clockLoss (s : State) (g unsampled : Nat) : State :=
  let s := (s.incf .mod R.MOD.CLKLOSS (16 * g + 15) (16 * g)).flag .mod 8
  let s := s.wrb .mod R.MOD.STAT (3 + g) false
  let s := if s.clockDriver then s else
    { s.wrb .mod R.MOD.STAT (1 + g) false with mod := { s.mod with locking := sset false s.mod.locking g false } }
  (s.unsampled g unsampled).invalidateGroup g

/-- A stuck run on an input, invalid from its first bit (R119): a run that began in the stage that ended last spoils
that stage's charge too, where it has not been taken yet (log entry 98). -/
def State.stuckRun (s : State) (n : Nat) : State :=
  let first := s.mt / 50 - 16 * s.rdf .mod (R.MOD.IN_CFG n) 31 24
  let s := if first ≤ s.stage * 200000 then s.setModIn n { s.modIn n with endOk := false } else s
  (((s.inc .mod (R.MOD.STUCK n)).flag .mod 9).invalidate n).invalidShow

/-- A group that feeds no input has no returned clock to measure. -/
def State.groupUsed (s : State) (g : Nat) : Bool := (List.range 12).any (fun n => modGroup n = g && s.modEn n)

/-- MOD.STAT.DLYg of the clock driver: the loop delay it measures is a free value; 0 in a follower (R106). -/
def State.showDelays (s : State) : State :=
  (List.range 2).foldl (fun s g =>
    if s.running .mod && s.clockDriver && s.groupUsed g then
      let (f, s) := s.draw
      s.wrf .mod R.MOD.STAT (8 * g + 15) (8 * g + 8) (Config.freeNat f)
    else s.wrf .mod R.MOD.STAT (8 * g + 15) (8 * g + 8) 0) s

/-- MCKSEL_CHANGE (R108, R111): the module the new level names becomes clock driver; a driver whose group was not
locked has no count to go on from and restarts it at 0 at the next boundary. While MOD is not RUNNING a change is
neither counted nor flagged (log entry 97). -/
def execMckselChange (dt : Nat) (toB : Bool) (unsampled0 unsampled1 : Nat) (s : State) :
    Host.Outcome State Fault Refusal :=
  let s := s.elapse dt
  let s := { s with mod := { s.mod with mcksel := toB } }
  let s := s.wrb .mod R.MOD.STAT 0 (s.running .mod && s.clockDriver)
  if !s.running .mod then .next s
  else
    let s := (s.incf .mod R.MOD.SWITCHES 15 0).flag .mod 10
    let s := ((s.unsampled 0 unsampled0).unsampled 1 unsampled1).showDelays
    if s.clockDriver then
      .next ((List.range 2).foldl (fun s g =>
        if s.groupLocked g || sget false s.mod.locking g then s
        else
          let s := { s with mod := { s.mod with fresh := sset false s.mod.fresh g true } }
          (s.wrb .mod R.MOD.STAT (1 + g) true).invalidateGroup g) s)
    else .next s

/-! ### Index lock (R109) -/

/-- The lowest-numbered enabled input of a group. -/
def State.lowestInput (s : State) (g : Nat) : Option Nat :=
  (List.range 12).find? (fun n => modGroup n = g && s.modEn n)

/-- The offsets −2 to +2, as 0 to 4, at which the driver's 64 bits match the follower's capture of bits
10,000 T − 2 to 10,000 T + 65. -/
def lockOffsets (bits64 : Nat) (own : Nat) : List Nat :=
  (List.range 5).filter (fun o => own / 2 ^ o % 2 ^ 64 = bits64)

/-- The signed 96-bit latches of an INDEX_LOCK payload. -/
def lockLatch (m : List Byte) (k : Nat) : Int := signed 96 (leAt m (0x14 + 12 * k) 12)

/-- The integrators of a group take the driver's latches. -/
def State.takeLatches (s : State) (g : Nat) (m : List Byte) : State :=
  (List.range 12).foldl (fun s n =>
    match modIntegrator n with
    | some i =>
      if modGroup n = g then s.setModIn n { s.modIn n with integ := lockLatch m (if g = 0 then i else i - 2) } else s
    | none => s) s

/-- INDEX_LOCK (R109): the follower compares the driver's bits with its own capture; exactly one matching offset locks
the group, reported from the next tick, anything else fails the attempt, and a series of LOCK_TRIES failures is flagged and
counted. -/
def execIndexLock (dt : Nat) (f : TandemHead) (bytes : List Byte) (own : BitVec 68) (s : State) :
    Host.Outcome State Fault Refusal :=
  let (ok, s) := (s.elapse dt).takeFrame 0x08 f bytes
  let g := byteAt bytes 0
  if !ok || 2 ≤ g || !s.running .mod || s.clockDriver || s.groupLocked g || sget false s.mod.locking g ||
      leAt bytes 4 8 != s.tick then .next s
  else
    match lockOffsets (leAt bytes 0x0C 8) own.toNat with
    | [_] =>
      let s := s.takeLatches g bytes
      .next { s with mod := { s.mod with tries := sset 0 s.mod.tries g 0, locking := sset false s.mod.locking g true } }
    | _ =>
      let k := sget 0 s.mod.tries g + 1
      if s.rdf .mod R.MOD.CFG 7 0 ≤ k then
        let s := { s with mod := { s.mod with tries := sset 0 s.mod.tries g 0 } }
        .next ((s.incf .mod R.MOD.SWITCHES 31 16).flag .mod 11)
      else .next { s with mod := { s.mod with tries := sset 0 s.mod.tries g k } }

/-! ### Tick work -/

/-- A signed 96-bit count in its three registers. -/
def State.wr96 (s : State) (base : Nat) (v : Int) : State :=
  let u := unsign 96 v
  ((s.wrn .chg base u).wrn .chg (base + 4) (u / 2 ^ 32)).wrn .chg (base + 8) (u / 2 ^ 64)

/-- The stage latch of an input at a stage boundary, and what the ended stage's charge is formed of (R112 to R114). -/
def State.inputStage (s : State) (n : Nat) : State :=
  let v := s.modIn n
  s.setModIn n { v with
    endD := v.integ - v.stageLatch
    endN := v.n
    endOk := v.stageOk && v.valid
    endGap := v.gap
    stageLatch := v.integ
    n := 0
    stageOk := v.valid
    gap := false }

/-- One input at a tick boundary: its integrator takes the tick's bits (R112), and it becomes valid again after a whole
tick of valid clock without a qualifying run (R119). -/
def State.inputTick (s : State) (x : TickInputs) (n : Nat) : State :=
  let v := s.modIn n
  let g := modGroup n
  let full := x.counts.getD n 0 = 10000
  let fresh := sget false s.mod.fresh g
  let locked := s.groupLocked g
  let integ := if fresh then 0 else if locked then v.integ + x.sums.getD n 0 else v.integ
  let valid := v.valid || (s.modEn n && full && !v.bad && locked && !fresh)
  let s := s.setModIn n { v with integ := integ, n := v.n + x.counts.getD n 0, valid := valid, bad := false,
                                 validFrom := if valid && !v.valid then s.tick else v.validFrom }
  let s := if s.tick % 20 = 0 then s.inputStage n else s
  match modIntegrator n with
  | some i => s.wr96 (R.CHG.LT_0 i) integ
  | none => s

/-- Index locks of the tick that ends are reported (R109). -/
def State.reportLocks (s : State) : State :=
  let s := (List.range 2).foldl (fun s g => if sget false s.mod.locking g then s.wrb .mod R.MOD.STAT (1 + g) true else s) s
  { s with mod := { s.mod with locking := [] } }

/-- The unsampled bits of the stage that ends (R313). -/
def State.unsampStage (s : State) : State :=
  if s.tick % 20 = 0 then { s with mod := { s.mod with endUnsamp := s.mod.unsamp, unsamp := 0 } } else s

/-- The bitstream front end at tick boundary T (R112, R119). -/
def State.modTick (s : State) (x : TickInputs) : State :=
  if !s.running .mod then s
  else
    let s := (List.range 12).foldl (fun s n => s.inputTick x n) s.reportLocks
    let s := { s.unsampStage with mod := { s.unsampStage.mod with fresh := [] } }
    let ok := fun g => (List.range 12).any (fun n => modGroup n = g && s.modEn n && x.counts.getD n 0 = 10000)
    let s := if ok 0 then s.wrb .mod R.MOD.STAT 3 true else s
    let s := if ok 1 then s.wrb .mod R.MOD.STAT 4 true else s
    (s.wr64 .chg R.CHG.LTICK_LO R.CHG.LTICK_HI s.tick).invalidShow

/-! ### Stage charges (R113, R114, R118) -/

/-- The charge of a current input over a stage, in pC (R113). -/
def stageCharge (d : Int) (n : Nat) (offs scale : Int) : Int :=
  roundAway ((((d * 2 ^ 31 - offs * n) * scale : Int) : Rat) / (2 ^ 31 : Nat))

/-- The valid charge of MODn for the stage that ends now; none where a bit of its range was not valid (R114). -/
def State.chargeOf (s : State) (n : Nat) : Option Int :=
  let v := s.modIn n
  if s.running .mod && s.modEn n && v.endOk then
    some (stageCharge v.endD v.endN (s.rdi .mod (R.MOD.IN_OFFS n)) (s.rdi .mod (R.MOD.IN_SCALE n)))
  else none

/-- The cross-comparison of R118 and its source. -/
def State.crossCompare (s : State) (q0 q1 : Option Int) : State :=
  if !s.running .chg || !s.rdb .chg R.CHG.CFG 1 then
    let s := { s with chg := { s.chg with fails := 0 } }
    (((s.wrf .chg R.CHG.XSTAT 15 8 0).wrb .chg R.CHG.XSTAT 4 false)).setSource 57 false
  else
    match q0, q1 with
    | some a, some b =>
      let tol := s.rdn .chg R.CHG.XTOL_ABS * 1000 +
        s.rdf .chg R.CHG.XTOL_REL 15 0 * max a.natAbs b.natAbs / 65536
      let fail := tol < (a - b).natAbs
      let fails := if fail then min (s.chg.fails + 1) 255 else 0
      let x := decide (s.rdf .chg R.CHG.CFG 15 8 ≤ fails)
      let s := { s with chg := { s.chg with fails := fails } }
      let s := if fail then s.inc .chg R.CHG.XFAILS else s
      let s := if x && !s.rdb .chg R.CHG.XSTAT 4 then s.flag .chg 8 else s
      ((s.wrf .chg R.CHG.XSTAT 15 8 fails).wrb .chg R.CHG.XSTAT 4 x).setSource 57 x
    | _, _ => s

/-- A signed 64-bit value in two registers. -/
def State.wri64 (s : State) (p : Page) (lo hi : Nat) (v : Int) : State := s.wr64 p lo hi (unsign 64 v)

/-- The charges of stage `st`, which has ended (R113, R114, R118): registers, source, comparison, and the new stage's
latches. While CHG is not RUNNING the charges are formed all the same, with the fields being edited; while MOD is not
RUNNING every latch reads 0 (log entry 97). -/
def State.stageCharges (s : State) (st : Nat) : State :=
  let q0 := s.chargeOf 0
  let q1 := s.chargeOf 1
  let primary := s.rdf .chg R.CHG.CFG 0 0
  let src := match (if primary = 0 then q0 else q1), (if primary = 0 then q1 else q0) with
    | some _, _ => primary
    | none, some _ => 1 - primary
    | none, none => 3
  let gapped := bitsOf (fun n => (s.modIn n).endGap) 12
  let c : StageChg := { stage := st, q0 := q0, q1 := q1, src := src, gapped := gapped, unsamp := s.mod.endUnsamp }
  let s := { s with chg := { s.chg with stages := c :: s.chg.stages } }
  let s := if src = 3 then (s.inc .chg R.CHG.NOCHG).flag .chg 9 else if src = primary then s else s.flag .chg 10
  let s := ((s.wri64 .chg R.CHG.DQ_LO R.CHG.DQ_HI (c.q.getD 0)).wri64 .chg R.CHG.DQ0_LO R.CHG.DQ0_HI (q0.getD 0)).wri64
    .chg R.CHG.DQ1_LO R.CHG.DQ1_HI (q1.getD 0)
  let s := s.wr64 .chg R.CHG.DQSTAGE_LO R.CHG.DQSTAGE_HI st
  let s := ((s.wrf .chg R.CHG.XSTAT 1 0 src).wrb .chg R.CHG.XSTAT 2 q0.isSome).wrb .chg R.CHG.XSTAT 3 q1.isSome
  let s := s.crossCompare q0 q1
  let s := (List.range 12).foldl (fun s n =>
    match modIntegrator n with
    | some i => s.wr96 (R.CHG.LS_0 i) (s.modIn n).stageLatch
    | none => s) s
  s.wr64 .chg R.CHG.LSTAGE_LO R.CHG.LSTAGE_HI (st + 1)

/-! ### Filters (R116, R117) -/

/-- One bit of a window: +1 or −1, and 0 where it was not sampled (R105, R116). -/
def windowBit (w : BitWindow) (k : Nat) : Int := if w.sampled.testBit k then (if w.ones.testBit k then 1 else -1) else 0

/-- The weights of a sinc2 filter that decimates by r, from the last bit back. -/
def sinc2Weight (r k : Nat) : Nat := if k < r then k + 1 else 2 * r - 1 - k

/-- The weights of a sinc3 filter that decimates by r, from the last bit back. -/
def sinc3Weight (r k : Nat) : Nat :=
  let tri := fun (m : Nat) => m * (m + 1) / 2
  tri (k + 1) + 3 * tri (k + 1 - 2 * r) - 3 * tri (k + 1 - r)

/-- The weighted sum of a window's latest `n` bits. -/
def windowSum (w : BitWindow) (weight : Nat → Nat) : Nat → Int → Int
  | 0, acc => acc
  | n + 1, acc => windowSum w weight n (acc + weight n * windowBit w n)

def sinc2Sum (w : BitWindow) (r : Nat) : Int := windowSum w (sinc2Weight r) (2 * r) 0
def sinc3Sum (w : BitWindow) (r : Nat) : Int := windowSum w (sinc3Weight r) (3 * r) 0

/-- Was every bit valid from `n` bits before the window's end on, where bit `b` is its last (R117)? -/
def State.supported (s : State) (i b n : Nat) : Bool :=
  (s.modIn i).valid && decide ((s.modIn i).validFrom * 10000 + n ≤ b + 1)

/-- A filter output y = acc / OSR^k − OFFS in `n` fraction bits, rounded to nearest with ties away from zero and
saturated (R116). -/
def filterOut (acc : Int) (den : Nat) (offs : Int) (n : Nat) : Int :=
  satS (n + 1) (roundAway (((acc : Rat) / den - qv 31 offs) * ((2 ^ n : Nat) : Rat)))

/-- The control OSR of an input. -/
def State.cosr (s : State) (n : Nat) : Nat := 16 * 2 ^ s.rdf .mod (R.MOD.IN_CFG n) 10 8

def State.stageOut (s : State) (n : Nat) (acc : Int) : Int :=
  filterOut acc (10000 ^ 3) (s.rdi .mod (R.MOD.IN_OFFS n)) 31
def State.controlOut (s : State) (n : Nat) (acc : Int) : Int :=
  filterOut acc (s.cosr n ^ 3) (s.rdi .mod (R.MOD.IN_OFFS n)) 23
def State.fastOut (s : State) (n : Nat) (acc : Int) : Int :=
  filterOut acc (32 ^ 2) (s.rdi .mod (R.MOD.IN_OFFS n)) 15

/-- The current of a stage-path output in mA: y × SCALE / 50 (R117). -/
def State.sampleMa (s : State) (n : Nat) (y : Int) : Rat :=
  qv 31 y * (s.rdi .mod (R.MOD.IN_SCALE n) : Rat) / 50

/-- The voltage of a stage-path output in mV: y × SCALE (R117). -/
def State.sampleMv (s : State) (n : Nat) (y : Int) : Rat :=
  qv 31 y * (s.rdi .mod (R.MOD.IN_SCALE n) : Rat)

/-- The last bit of the latest fast output: (b + 1) mod 32 = 0, sampled at 50 b ns (R62, R116). -/
def State.fastBit (s : State) : Nat := (s.mt + 50) / 1600 * 32 - 1

/-- The last bit of the latest control output of an input: (b + 1 − CPHASE) mod OSR = 0 (R116). -/
def State.controlIndex (s : State) (n : Nat) : Nat := (s.mt / 50 - s.rdf .mod (R.MOD.IN_CFG n) 23 16) / s.cosr n
def State.controlEnd (s : State) (n : Nat) : Nat :=
  s.controlIndex n * s.cosr n + s.rdf .mod (R.MOD.IN_CFG n) 23 16

/-- FAST_FILTER_OUTPUT (R116, R238), within t_fast_smp of the end of its last bit (log entry 99): the output is
registered, and a valid one is compared. -/
def State.fastOutput (s : State) (n : Nat) (w : BitWindow) : State :=
  let b := s.fastBit
  if !s.running .mod || !s.modEn n || 70 < (s.mt + 50) % 1600 || b ≤ (s.modIn n).fastBit then s
  else
    let y := s.fastOut n (sinc2Sum w 32)
    let ok := s.supported n b 64
    let s := s.wri .mod (R.MOD.FSMP n) y
    let s := s.setModIn n { s.modIn n with fsmp := if ok then some y else none, fastBit := b }
    if ok && n < 4 then s.fastCompare n y else s

end Sys2Proof.Machine
end

