-- ==== Sys2Proof/Machine/CellThermal.lean ====
section
/-! DEFINITION. The cell thermal network, sensor judgement, the protection temperature and coolant demand (R208 to
R212). -/

namespace Sys2Proof.Machine

open Sys2Proof

def State.therm (s : State) (c : Nat) : ThermSt := sget {} s.cth.chan c
def State.setTherm (s : State) (c : Nat) (v : ThermSt) : State :=
  { s with cth := { s.cth with chan := sset {} s.cth.chan c v } }

/-- Network neighbours of a channel (R208). -/
def State.neighbours (s : State) (c : Nat) : List Nat :=
  let brk := fun (hi : Nat) => hi % 8 = 0 && (s.rd64 .cth R.CTH.PACKBRK_LO R.CTH.PACKBRK_HI).testBit (hi / 8)
  (if 0 < c && s.present (c - 1) && !brk c then [c - 1] else []) ++
  (if c < 511 && s.present (c + 1) && !brk (c + 1) then [c + 1] else [])

/-- The enabled zone that holds a channel. -/
def State.zoneOf (s : State) (c : Nat) : Option Nat :=
  (List.range 4).find? (fun z => s.rdb .cth (R.CTH.ZONE_RANGE z) 31 && s.rdf .cth (R.CTH.ZONE_RANGE z) 8 0 ≤ c &&
    c ≤ s.rdf .cth (R.CTH.ZONE_RANGE z) 24 16)

/-- Coolant temperature in K and conductance in W/K of a channel's zone in a step. -/
def State.coolant (s : State) (d : StepDue) (c : Nat) : Rat × Rat :=
  match s.zoneOf c with
  | some z => (kelvin (sget 0 d.cool z), (s.rdf .cth (R.CTH.ZONE_COOL z) 15 0 : Rat) / 1000)
  | none => (kelvin (sget 0 d.cool 0), 0)

def State.gNb (s : State) : Rat := (s.rdf .cth R.CTH.NET 15 0 : Rat) / 1000

/-- A node's temperature in K, and in 1/64 °C. -/
def nodeK (x : Int) : Rat := qv 22 x
def node64 (x : Int) : Rat := (nodeK x - 27315 / 100) * 64
def toNode (q : Rat) : Int := satS 32 (roundAway (q * ((2 ^ 22 : Nat) : Rat)))

/-- Sensors of a channel with their readings of the step. The network, the judgement and T_prot take the readings of every
position, since R99 leaves a position's data out of estimation only (R100, log entry 89). -/
def sensorsOf (v : ThermSt) (a : ChanAcc) : List (SensorSt × Option Int) := [(v.s0, a.s0), (v.s1, a.s1)]

/-- The mean of the channel's readings that pass a test, in K. -/
def meanK (l : List (SensorSt × Option Int)) (f : SensorSt → Bool) : Option Rat :=
  let r := l.filterMap (fun x => if f x.1 then x.2 else none)
  if r = [] then none else some (rsum (r.map kelvin) / (r.length : Rat))

/-- At the first step after CTH enters RUNNING both nodes take the sensors' mean, or T_cool (R208). -/
def State.thermInit (s : State) (d : StepDue) : State :=
  let s := s.presentChans.foldl (fun s c =>
    let v := s.therm c
    let t := toNode ((meanK (sensorsOf v (sget {} d.acc c)) (fun _ => true)).getD (s.coolant d c).1)
    s.setTherm c { v with tc := t, ts := t }) s
  { s with cth := { s.cth with live := true } }

/-- The new nodes of a stepped channel (R208), from the values `old` at the step's start. -/
def State.thermNodes (s : State) (d : StepDue) (old : List (Nat × ThermSt)) (c : Nat) (q : Int) : Int × Int :=
  let p := s.pset (s.feSet (chanFe c))
  let v := s.chanEst c
  let a := sget {} d.acc c
  let x := sget {} old c
  let dt : Rat := (d.n : Rat) / 100
  let tc := nodeK x.tc
  let ts := nodeK x.ts
  let i : Rat := (q : Rat) / 1000000000000 / dt
  let dudt := combine p (v.hyps.map HypSt.toV) (fun x => valueOf (p.dudt x))
  let pw := i * i * (v.rTot : Rat) / 1000000 + i * tc * dudt +
    (v.leak : Rat) / 1000000 * ((v.vmean % 2 ^ 20 : Nat) : Rat) / 100000 + s.balHeat a (20 * d.n)
  let nbs := s.neighbours c
  let (tcool, gcool) := s.coolant d c
  let tc' := tc + dt / p.cC * (pw - (tc - ts) / p.rCs)
  let ts' := ts + dt / p.cS * ((tc - ts) / p.rCs - gcool * (ts - tcool) -
    s.gNb * rsum (nbs.map (fun n => ts - nodeK (sget {} old n).ts)))
  let ts' := match (if a.temps then meanK (sensorsOf x a) (fun y => y.st = 0) else none) with
    | some m => ts' + qv 16 (s.rdf .cth R.CTH.NET 31 16 : Nat) * (m - ts')
    | none => ts'
  (toNode tc', toNode ts')

/-- g_env and t_env for the estimator (R209). -/
def State.thermEnv (s : State) (d : StepDue) (c : Nat) : Rat × Rat :=
  let nbs := s.neighbours c
  let (tcool, gcool) := s.coolant d c
  let g := gcool + (nbs.length : Rat) * s.gNb
  (g, divR 22 (gcool * tcool + s.gNb * rsum (nbs.map (fun n => nodeK (s.therm n).ts))) g)

/-! ### Sensor judgement (R210) -/

/-- The upper median of a list of readings. -/
def insertInt (x : Int) : List Int → List Int
  | [] => [x]
  | y :: t => if x ≤ y then x :: y :: t else y :: insertInt x t
def upperMedian (l : List Int) : Int := (l.foldr insertInt []).getD (l.length / 2) 0

/-- The readings of a sensor's OK neighbours, by the states before the step's judgement. -/
def State.nbReadings (s : State) (d : StepDue) (old : List (Nat × ThermSt)) (c k : Nat) : List Int :=
  let ok := fun (n : Nat) => (sensorsOf (sget {} old n) (sget {} d.acc n)).filterMap (fun x => if x.1.st = 0 then x.2 else none)
  let other := ((sensorsOf (sget {} old c) (sget {} d.acc c)).drop (1 - k)).take 1
  (s.neighbours c).flatMap ok ++ other.filterMap (fun x => if x.1.st = 0 then x.2 else none)

/-- One sensor's machine (R210): its next state, and the state entered. -/
def sensorNext (v : SensorSt) (n brk recN : Nat) (dm dn nbok : Bool) : SensorSt × Nat :=
  if v.st = 0 then
    if dm && dn then ({ v with st := 1, cnt := n, agree := 0 }, 1) else (v, 0)
  else if v.st = 1 then
    if dm && dn then
      let k := if nbok then v.cnt + n else v.cnt
      if nbok && brk ≤ k then ({ v with st := 2, cnt := k, agree := 0 }, 2) else ({ v with cnt := k, agree := 0 }, 0)
    else
      let k := v.agree + n
      if recN ≤ k then ({ v with st := 0, cnt := 0, agree := k }, 0) else ({ v with agree := k }, 0)
  else (v, 0)

/-- The CELL record of a sensor (R335). -/
def State.sensorRecord (s : State) (event c k : Nat) (v : SensorSt) : State :=
  s.record .cth 0x12 ([BitVec.ofNat 8 event, BitVec.ofNat 8 k] ++ leBytes 2 c ++ leBytes 2 (unsign 16 v.last) ++
    leBytes 2 (unsign 16 (satS 16 (roundAway (node64 (s.therm c).ts)))) ++ leBytes 2 (unsign 16 v.med) ++ [0, 0])

def ThermSt.sensor (v : ThermSt) (k : Nat) : SensorSt := if k = 0 then v.s0 else v.s1
def ThermSt.setSensor (v : ThermSt) (k : Nat) (x : SensorSt) : ThermSt := if k = 0 then { v with s0 := x } else { v with s1 := x }

/-- The judgement of sensor k of channel c. -/
def State.judgeSensor (s : State) (d : StepDue) (old : List (Nat × ThermSt)) (c k : Nat) : State :=
  let a := sget {} d.acc c
  let r := if k = 0 then a.s0 else a.s1
  let v := s.therm c
  let x : SensorSt := { v.sensor k with last := r.getD (-32768) }
  let nb := s.nbReadings d old c k
  if !a.temps then s
  else if nb.length < 2 then s.setTherm c (v.setSensor k x)
  else
    let med := upperMedian nb
    let tolM : Rat := s.rdf .cth R.CTH.CHK 15 0
    let tolN : Rat := s.rdf .cth R.CTH.CHK 31 16
    let ts := node64 v.ts
    let dm := match r with
      | none => true
      | some t => decide (tolM < absR ((t : Rat) - ts))
    let dn := match r with
      | none => true
      | some t => decide (tolN < absR ((t : Rat) - med))
    let y : SensorSt := { x with med := med }
    let (y, e) := sensorNext y d.n (s.rdf .cth R.CTH.PERSIST 15 0) (s.rdf .cth R.CTH.PERSIST 31 16) dm dn
      (absR ((med : Rat) - ts) ≤ tolM)
    let s := s.setTherm c (v.setSensor k y)
    if e = 1 then s.flag .cth 8
    else if e = 2 then ((s.flag .cth 9).inc .cth R.CTH.BROKENS).sensorRecord 2 c k y
    else s

/-- The protection temperature of a channel after the judgement (R211); unchanged in a step without temperatures. -/
def State.protTemp (s : State) (d : StepDue) (c : Nat) : State :=
  let a := sget {} d.acc c
  let v := s.therm c
  if !a.temps then s
  else if !s.running .cth then
    let r := [a.s0, a.s1].filterMap id
    match r with
    | [] => s
    | t :: l => s.setTherm c { v with tprot := l.foldl max t }
  else
    let ts := roundAway (node64 v.ts)
    let m : Int := s.rdf .cth R.CTH.CFG 15 0
    let one := fun (k : Nat) (r : Option Int) =>
      let x := v.sensor k
      if x.st = 2 then
        let nb := s.nbReadings d s.cth.chan c k
        if nb = [] then ts + m else max ts (upperMedian nb + m)
      else match r with
        | some t => if x.st = 0 then t else max t ts
        | none => ts
    s.setTherm c { v with tprot := satS 16 (max (one 0 a.s0) (one 1 a.s1)) }

/-- The thermal part of a step: network, environment, judgement, T_prot (R208 to R211). `q` gives each channel's charge. -/
def State.thermStep (s : State) (d : StepDue) (q : Nat → Int) : State :=
  let s := if s.running .cth && !s.cth.live then s.thermInit d
    else if s.running .cth then
      let old := s.cth.chan
      s.presentChans.foldl (fun s c =>
        if (s.chanEst c).stepped then
          let (tc, ts) := s.thermNodes d old c (q c)
          s.setTherm c { s.therm c with tc := tc, ts := ts }
        else s) s
    else s
  let s := if s.running .cth then
      let s := s.presentChans.foldl (fun s c => { s with est := { s.est with env := sset (1, 0) s.est.env c (s.thermEnv d c) } }) s
      let old := s.cth.chan
      s.presentChans.foldl (fun s c => (s.judgeSensor d old c 0).judgeSensor d old c 1) s
    else s
  s.presentChans.foldl (fun s c => s.protTemp d c) s

/-- The registers of the CTH page after a step. -/
def State.thermShow (s : State) (sb : Nat) : State :=
  let two := fun (c : Nat) => (s.therm c).s0.st + 4 * (s.therm c).s1.st
  let s := (List.range 64).foldl (fun s w =>
    s.wrn .cth (R.CTH.SST w) ((List.range 8).foldl (fun a k => a + two (8 * w + k) * 16 ^ k) 0)) s
  let s := (List.range 256).foldl (fun s w =>
    s.wrn .cth (R.CTH.TPROT w) (unsign 16 (s.therm (2 * w)).tprot + 65536 * unsign 16 (s.therm (2 * w + 1)).tprot)) s
  let cnt := fun k => (s.cth.chan.map (fun e => b2n (e.2.s0.st = k) + b2n (e.2.s1.st = k))).foldl (· + ·) 0
  (s.wrn .cth R.CTH.COUNTS (cnt 1 + 2048 * cnt 2)).wr64 .cth R.CTH.STAGE_LO R.CTH.STAGE_HI sb

/-! ### Coolant demand (R212) -/

/-- T_CORE of a channel in 1/64 °C. -/
def State.tCore (s : State) (c : Nat) : Int :=
  let p := s.pset (s.feSet (chanFe c))
  satS 16 (roundAway ((combine p ((s.chanEst c).hyps.map HypSt.toV) (fun x => x.getD p.iTc 0) - 27315 / 100) * 64))

/-- One zone's demand (R212). -/
def State.zoneDemand (s : State) (d : StepDue) (z : Nat) : State :=
  if !s.running .cth || !s.rdb .cth (R.CTH.ZONE_RANGE z) 31 then s
  else
    let chs := s.presentChans.filter (fun c => s.zoneOf c = some z && (s.chanEst c).live && (s.chanEst c).status % 2 = 1)
    let hot := chs.foldl (fun (b : Option (Nat × Int)) c =>
      let t := max (s.tProt c) (s.tCore c)
      match b with
      | none => some (c, t)
      | some (_, m) => if m < t then some (c, t) else b) none
    let start := s.rds .cth (R.CTH.ZONE_DEM z) 15 0
    let full := s.rds .cth (R.CTH.ZONE_DEM z) 31 16
    let dmin := qv 16 (s.rdf .cth (R.CTH.ZONE_OUT z) 31 16 : Nat)
    let stale := d.stale.contains z
    let dq : Rat := if stale then 1 else match hot with
      | some (_, t) => let q : Rat := ((t - start : Int) : Rat) / ((full - start : Int) : Rat); if q < dmin then dmin else if 1 < q then 1 else q
      | none => dmin
    let ch := match hot with
      | some (c, _) => c
      | none => 0
    s.wrn .cth (R.CTH.DEM z) (b2n stale * 2 ^ 25 + ch * 2 ^ 16 + code16 dq)

def State.demands (s : State) (d : StepDue) : State := (List.range 4).foldl (fun s z => s.zoneDemand d z) s

/-- The demands of the step marked S wait for the first tick of stage S + 2, from which they are a target (R221). -/
def State.demandsDue (s : State) (sb : Nat) : State :=
  { s with loops := { s.loops with
    demDue := s.loops.demDue ++ [(20 * (sb + 2), (List.range 4).map (fun z => s.rdf .cth (R.CTH.DEM z) 15 0))] } }

/-- At a tick the demands that are due come into force. -/
def State.demandsTick (s : State) : State :=
  let due := s.loops.demDue.filter (fun e => e.1 ≤ s.tick)
  match due.getLast? with
  | some (_, l) =>
    { s with loops := { s.loops with
      demDue := s.loops.demDue.filter (fun e => s.tick < e.1)
      dem := (List.range 4).foldl (fun m z => sset 0 m z (l.getD z 0)) s.loops.dem } }
  | none => s

/-- A TCOOL write takes effect (R212). -/
def State.coolEffect (s : State) (z : Nat) (v : Word) : State :=
  let s := s.wr .cth (R.CTH.TCOOL z) v
  let s := { s with cth := { s.cth with coolMt := sset 0 s.cth.coolMt z s.mt, stale := s.cth.stale.filter (· != z) } }
  s.wrb .cth (R.CTH.DEM z) 25 false

/-- TCOOL_WRITE (R212, R222): an event input. -/
def execTcoolWrite (dt : Nat) (zone : Fin 4) (value : Word) (s : State) : Host.Outcome State Fault Refusal :=
  .next ((s.elapse dt).hostDo .cth (fun (s : State) => s.hostEvent .cth (R.CTH.TCOOL zone.val) value))

/-- ZONE_STALE (R212): no write has taken effect for STALE seconds. -/
def execZoneStale (dt : Nat) (zone : Fin 4) (s : State) : Host.Outcome State Fault Refusal :=
  let s := s.elapse dt
  let z := zone.val
  if s.running .cth && s.rdb .cth (R.CTH.ZONE_RANGE z) 31 && !s.cth.stale.contains z &&
      sget 0 s.cth.coolMt z + s.rdf .cth (R.CTH.ZONE_COOL z) 31 16 * 1000000000 ≤ s.mt then
    let s := { s with cth := { s.cth with stale := z :: s.cth.stale } }
    .next (((s.wrb .cth (R.CTH.DEM z) 25 true).inc .cth R.CTH.NOCOOLS).flag .cth 10)
  else .next s

/-- A write of RESTORE returns the named BROKEN sensors to OK. -/
def State.sensorRestore (s : State) (ch : Nat) (s0 s1 : Bool) : State :=
  let one := fun (s : State) (k : Nat) (b : Bool) =>
    let v := s.therm ch
    let x := v.sensor k
    if b && x.st = 2 then
      (s.setTherm ch (v.setSensor k { x with st := 0, cnt := 0, agree := 0 })).sensorRecord 3 ch k x
    else s
  (one (one s 0 s0) 1 s1)

/-- SENSOR_RESTORE (R210): a write of CTH.CMD sets BROKEN sensors OK and records each. -/
def execSensorRestore (dt : Nat) (ch : Fin 512) (s0 s1 : Bool) (s : State) : Host.Outcome State Fault Refusal :=
  .next ((s.elapse dt).hostDo .cth (fun (s : State) => s.sensorRestore ch.val s0 s1))

/-- A write of MSEL latches the named channel's model temperatures. -/
def State.mselLatch (s : State) (ch : Nat) : State :=
  let s := s.wrn .cth R.CTH.MSEL ch
  let v := s.therm ch
  let c := fun x => unsign 16 (satS 16 (roundAway (node64 x)))
  (s.wrn .cth R.CTH.TMOD (c v.tc * 65536 + c v.ts))

/-- MSEL_LATCH (R214): a write of CTH.MSEL latches the channel's nodes. -/
def execMselLatch (dt : Nat) (ch : Fin 512) (s : State) : Host.Outcome State Fault Refusal :=
  .next ((s.elapse dt).hostDo .cth (fun (s : State) => s.mselLatch ch.val))

end Sys2Proof.Machine
end

