-- ==== Sys2Proof/Machine/Clock.lean ====
section
/-! DEFINITION. A step of MT (R56, R57): the times the module keeps to measure durations move with it, so that a step
changes no duration (log entry 2). -/

namespace Sys2Proof.Machine

open Sys2Proof

/-- A time or tick number moved by `d`. -/
def moved (d : Int) (x : Nat) : Nat := (x + d).toNat

def SysSt.moved (d : Int) (y : SysSt) : SysSt :=
  { y with
    readyMt := Machine.moved d y.readyMt
    bootMt := Machine.moved d y.bootMt
    holdFrom := Machine.moved d y.holdFrom
    dropAt := y.dropAt.map (Machine.moved d)
    driveFell := y.driveFell.map (Machine.moved d)
    tpoLow := y.tpoLow.map (fun (e : Nat × Nat) => (e.1, Machine.moved d e.2))
    tpoDone := y.tpoDone.map (Machine.moved d)
    lbkMis := y.lbkMis.map (fun (e : Nat × Nat) => (e.1, Machine.moved d e.2)) }

def ChalSt.moved (d t : Int) (c : ChalSt) : ChalSt :=
  { c with
    openAt := c.openAt.map (fun (e : Nat × Nat) => (Machine.moved t e.1, e.2))
    seenAt := c.seenAt.map (fun (e : Nat × Nat) => (Machine.moved t e.1, e.2))
    failMt := Machine.moved d c.failMt
    lastPass := c.lastPass.map (Machine.moved d) }

def RingSns.moved (d t : Int) (r : RingSns) : RingSns :=
  { r with
    fe := r.fe.map (fun (e : Nat × FeSt) => (e.1, { e.2 with chal := e.2.chal.moved d t }))
    enTick := Machine.moved t r.enTick
    otherTick := Machine.moved t r.otherTick }

def SlotSt.moved (d : Int) (v : SlotSt) : SlotSt :=
  { v with
    ended := Machine.moved d v.ended
    done := Machine.moved d v.done
    held := v.held.map (fun (h : HeldSample) => { h with mt := Machine.moved d h.mt }) }

def LoopSt.moved (d : Int) (l : LoopSt) : LoopSt :=
  { l with
    spin := l.spin.map (fun (e : Nat × SpinSt) => (e.1, { e.2 with edge := Machine.moved (d * 4 / 5) e.2.edge }))
    stream := l.stream.map (fun (e : Nat × StreamSt) => (e.1, { e.2 with lastMt := Machine.moved d e.2.lastMt }))
    slots := l.slots.map (fun (e : Nat × SlotSt) => (e.1, e.2.moved d))
    pairs := l.pairs.map (fun (e : Nat × PairSt) => (e.1, { e.2 with
      last := Machine.moved d e.2.last
      shadow := e.2.shadow.map (fun (x : Nat × Nat) => (x.1, Machine.moved d x.2)) }))
    issued := Machine.moved d l.issued }

def SlaySt.moved (d : Int) (y : SlaySt) : SlaySt :=
  { y with conn := y.conn.map (fun (e : Nat × ConnSt) => (e.1, { e.2 with deadline := e.2.deadline + d })) }

def TdmSt.moved (d : Int) (t : TdmSt) : TdmSt :=
  let m := Machine.moved d
  { t with
    peer := { t.peer with heardMt := m t.peer.heardMt }
    links := t.links.map (fun (e : Nat × LinkSt) =>
      (e.1, { e.2 with lastMt := m e.2.lastMt, runMt := m e.2.runMt }))
    joinMt := m t.joinMt
    ilkAgreeMt := m t.ilkAgreeMt
    lastDrive := t.lastDrive.map m
    repairMts := t.repairMts.map m
    peerHealthMt := t.peerHealthMt.map m
    viewEnd := if t.viewEnd = 0 then 0 else m t.viewEnd
    probeAllMt := m t.probeAllMt
    renewMt := m t.renewMt
    probeMt := m t.probeMt
    beatMt := m t.beatMt
    healthMt := m t.healthMt
    sessionMt := m t.sessionMt
    peerRoleMt := m t.peerRoleMt
    gapMt := t.gapMt.map m
    driveFrom := m t.driveFrom
    backoffUntil := m t.backoffUntil
    lastGrant := m t.lastGrant
    answering := t.answering.map (fun (e : Nat × Nat) => (e.1, m e.2))
    abdMt := t.abdMt.map m
    peerLowSince := m t.peerLowSince }

def WitSt.moved (d : Int) (w : WitSt) : WitSt :=
  { w with
    quietEnd := Machine.moved d w.quietEnd
    pairs := w.pairs.map (fun (e : Nat × WitPair) => (e.1, { e.2 with expiry := Machine.moved d e.2.expiry })) }

def CanSt.moved (d : Int) (c : CanSt) : CanSt :=
  { c with resend := c.resend.map (fun (e : CanOwn × Nat) => (e.1, Machine.moved d e.2)) }

def EthSt.moved (d : Int) (e : EthSt) : EthSt :=
  { e with
    prpSeen := e.prpSeen.map (fun (x : Nat × List (Nat × Nat × Nat)) =>
      (x.1, x.2.map (fun (y : Nat × Nat × Nat) => (y.1, y.2.1, Machine.moved d y.2.2))))
    announceMt := Machine.moved d e.announceMt
    supMt := e.supMt.map (fun (x : Nat × Nat) => (x.1, Machine.moved d x.2)) }

def TimeSt.moved (d : Int) (t : TimeSt) : TimeSt :=
  { t with
    lastSync := Machine.moved d t.lastSync
    syncMt := t.syncMt.map (fun (x : Nat × Nat) => (x.1, Machine.moved d x.2))
    annMt := t.annMt.map (fun (x : Nat × Nat) => (x.1, Machine.moved d x.2))
    heard := t.heard.map (fun (e : Nat × List Foreign) =>
      (e.1, e.2.map (fun (f : Foreign) => { f with mt := Machine.moved d f.mt }))) }

/-- A step of stages that has not been published, and a channel of the estimator; `t` in ticks, `g` in stages. -/
def StepDue.moved (t g : Int) (d : StepDue) : StepDue :=
  { d with
    sa := Machine.moved g d.sa
    sb := Machine.moved g d.sb
    calm := d.calm.map (fun (e : Nat × Nat) => (e.1, Machine.moved t e.2)) }

def EstSt.moved (t g : Int) (e : EstSt) : EstSt :=
  { e with
    calm := e.calm.map (fun (x : Nat × Nat) => (x.1, Machine.moved t x.2))
    chan := e.chan.map (fun (x : Nat × ChanEst) => (x.1, { x.2 with last := Machine.moved g x.2.last }))
    closing := e.closing.map (·.moved t g)
    due := e.due.map (·.moved t g)
    ran := e.ran.map (·.moved t g) }

/-- MT takes a new value, and every time and tick number kept from before moves with it. -/
def State.stepMt (s : State) (mt : Nat) : State :=
  let d : Int := mt - s.mt
  let t : Int := mt / 500000 - s.tick
  let g : Int := mt / 10000000 - s.stage
  let m := moved d
  { s with
    sys := { s.sys.moved d with mt := mt }
    tb := { s.tb with
      quietTick := moved t s.tb.quietTick
      spanStart := moved g s.tb.spanStart }
    rings := s.rings.map (fun (e : Nat × RingSt) => (e.1, { e.2 with since := m e.2.since }))
    irq := { s.irq with tgt := s.irq.tgt.map (fun (e : Nat × TgtSt) => (e.1, { e.2 with firstMt := m e.2.firstMt })) }
    sns := s.sns.map (fun (e : Nat × RingSns) => (e.1, e.2.moved d t))
    est := s.est.moved t g
    bal := { s.bal with since := s.bal.since.map (fun (e : Nat × Nat) => (e.1, moved t e.2)) }
    cth := { s.cth with coolMt := s.cth.coolMt.map (fun (e : Nat × Nat) => (e.1, m e.2)) }
    loops := s.loops.moved d
    slay := s.slay.moved d
    events := s.events.map (fun (e : EvItem) => { e with effect := moved t e.effect })
    completions := s.completions.map (fun (c : Completion) =>
      { c with effect := if c.effect = 0 then 0 else moved t c.effect })
    tdm := s.tdm.moved d
    wit := s.wit.moved d
    way := { s.way with rate := s.way.rate.map (fun (e : Nat × Nat) => (m e.1, e.2)) }
    can := s.can.map (fun (e : Nat × CanSt) => (e.1, e.2.moved d))
    eth := s.eth.moved d
    time := s.time.moved d
    fwu := { s.fwu with deferred := s.fwu.deferred.map m } }

end Sys2Proof.Machine
end

