-- ==== Sys2Proof/Machine/Digest.lean ====
section
/-! DEFINITION. Digest comparison and repair requests of a standby (R284 to R288). -/

namespace Sys2Proof.Machine

open Sys2Proof

/-- A REPAIR_REQ for channels and slots (R280, R287). One request is outstanding at a time: a new one names again what
the one before it named, and none is sent while a full repair is outstanding (log entry 108). -/
def State.askRepair (s : State) (slots : Nat) (chans : List Nat) : State :=
  if s.tdm.repairOut && s.tdm.repairFull then s else
  let q := s.tdm.repairReq + 1
  let old := if s.tdm.repairOut then s.tdm.repairChans else []
  let slots := if s.tdm.repairOut then slots ||| s.tdm.repairSlots else slots
  let chans := if old = [] then chans else (List.range 512).filter (fun c => old.contains c || chans.contains c)
  let s := s.setTdm (fun t => { t with
    repairReq := q
    repairOut := true
    repairFull := false
    repairPart := 0
    repairBytes := []
    repairSlots := slots
    repairChans := chans })
  s.sendFrame 0x05 (leBytes 4 q ++ [1, BitVec.ofNat 8 slots] ++ leBytes 2 chans.length ++ leBytes 8 s.mt ++
    chans.flatMap (leBytes 2))

/-- A request for a full repair: all channels, all slots, every journal record and the mirrored state (R287). -/
def State.askFullRepair (s : State) : State :=
  let q := s.tdm.repairReq + 1
  let s := s.setTdm (fun t => { t with
    repairReq := q
    repairOut := true
    repairFull := true
    repairPart := 0
    repairBytes := [] })
  s.sendFrame 0x05 (leBytes 4 q ++ [2, 0] ++ leBytes 2 0 ++ leBytes 8 s.mt)

/-- The request for what a late mirrored item affects (R67): the loop slot whose register it writes, or everything. -/
def State.askRepairFor (s : State) (e : EvItem) : State :=
  let o := leAt e.content 0 4
  let f := 4 * byteAt e.content 0 + byteAt e.content 1
  if e.kind = 0x8001 then s.askRepair 0 ((List.range 8).map (fun k => 8 * f + k))
  else if e.kind = 1 && 0x30000 ≤ o && o < 0x38000 then s.askRepair (2 ^ ((o - 0x30000) / 0x1000)) [] else s.askFullRepair

/-- Unexplained mismatches within FAULT_WIN stages make a standby fault, OUT cause [9] (R288). -/
def State.standbyFault (s : State) : State :=
  let win := s.rdf .tdm R.TDM.CFG 31 16
  let recent := s.tdm.unexpl.filter (fun g => s.stage < g + win)
  let s := s.setTdm (fun t => { t with unexpl := recent })
  if s.mode = .standby && s.rdf .tdm R.TDM.CFG 15 8 ≤ recent.length then s.outEntry 9 else s

/-- One mismatch is flagged, counted and recorded; an unexplained one is counted again and remembered (R286). -/
def State.mismatch (s : State) (slot explained : Bool) (idx num : Nat) : State :=
  let s := (s.inc .tdm R.TDM.DIGMIS).flag .tdm 10
  let s := s.wrn .tdm R.TDM.LASTMIS (b2n slot * 2 ^ 31 + b2n explained * 2 ^ 30 + idx)
  let s := s.wr64 .tdm R.TDM.LASTMIS_LO R.TDM.LASTMIS_HI num
  if explained then s
  else (s.inc .tdm R.TDM.UNEXPL).setTdm (fun t => { t with unexpl := s.stage :: t.unexpl })

/-- Do the missing bitmaps of two stage digests differ for the front-end of channel `c` (R286)? -/
def missDiffers (a b : List Byte) (c : Nat) : Bool :=
  (List.range 200).any (fun k => bits (leAt a (0x1C + 8 * k) 8) (c / 8) (c / 8) != bits (leAt b (0x1C + 8 * k) 8) (c / 8) (c / 8))

/-- Two stage digests of the same step are compared (R286); mismatching channels are asked for (R287). A plan that
differs where no channel does is one mismatch, of channel 0 in LASTMIS, and every present channel is asked for (R213,
log entry 93). -/
def State.compareStage (s : State) : State :=
  let a := s.tdm.peerDigest
  let b := s.tdm.ownDigest
  if s.mode = .standby && a.length = 3676 && b.length = 3676 && slice a 0 8 = slice b 0 8 then
    let bad := (List.range 512).filter (fun c => slice a (0x65C + 4 * c) 4 != slice b (0x65C + 4 * c) 4)
    let common := slice a 0x10 12 != slice b 0x10 12 ||
      s.tdm.gapStage.any (fun g => leAt b 0 8 ≤ g + leAt b 8 1 && g ≤ leAt b 0 8 + 1) ||
      s.tdm.repairStage.any (fun g => leAt b 0 8 ≤ g + leAt b 8 1 && g ≤ leAt b 0 8 + 1)
    let plan := bad = [] && slice a 0x0C 4 != slice b 0x0C 4
    let s := s.setTdm (fun t => { t with peerDigest := [] })
    let s := if plan then
        (s.mismatch false (common || (List.range 64).any (fun f => missDiffers a b (8 * f))) 0 (leAt b 0 8)).askRepair 0
          ((List.range 512).filter s.present)
      else s
    let s := bad.foldl (fun s c => s.mismatch false (common || missDiffers a b c) c (leAt b 0 8)) s
    let s := if bad = [] then s else s.askRepair 0 bad
    s.standbyFault
  else s

/-- Two loop digests of the same millisecond are compared (R286). -/
def State.compareLoop (s : State) : State :=
  let a := s.tdm.peerLoop
  let b := s.tdm.ownLoop
  if s.mode = .standby && a.length = 48 && b.length = 48 && slice a 0 8 = slice b 0 8 then
    let bad := (List.range 8).filter (fun n => slice a (8 + 4 * n) 4 != slice b (8 + 4 * n) 4)
    let stage := leAt b 0 8 / 10000000
    let common := s.tdm.gapStage.contains stage || s.tdm.repairStage.contains stage
    let s := s.setTdm (fun t => { t with peerLoop := [] })
    let s := bad.foldl (fun s n =>
      s.mismatch true (common || bits (byteAt a (0x28 + n)) 2 1 != bits (byteAt b (0x28 + n)) 2 1) n
        (leAt b 0 8 / 1000000)) s
    let s := if bad = [] then s else s.askRepair (bitsOf bad.contains 8) []
    s.standbyFault
  else s

end Sys2Proof.Machine
end

