-- ==== Sys2Proof/Machine/Items.lean ====
section
/-! DEFINITION. Connections, streams and pulse inputs as stored, the Espiton frame, and the contents of mirrored items
(R265, R266, R280). -/

namespace Sys2Proof.Machine

open Sys2Proof

def State.conn (s : State) (k : Nat) : ConnSt := sget {} s.slay.conn k

def State.setConn (s : State) (k : Nat) (v : ConnSt) : State :=
  { s with slay := { s.slay with conn := sset {} s.slay.conn k v } }

/-- The stream bound to dispatch. -/
def State.stream (s : State) (k : Nat) : StreamSt := sget {} s.loops.stream k

def State.setStream (s : State) (k : Nat) (v : StreamSt) : State :=
  { s with loops := { s.loops with stream := sset {} s.loops.stream k v } }

/-- The last accepted COUNT of a stream: the MRAM's, or a later one that waits for PFW_N to rise (R224, R438). -/
def State.streamCount (s : State) (k : Nat) : Nat := max (sget {} s.mram.streams k : MramWord).value (s.stream k).count

def State.spin (s : State) (k : Nat) : SpinSt := sget {} s.loops.spin k

def State.setSpin (s : State) (k : Nat) (v : SpinSt) : State :=
  { s with loops := { s.loops with spin := sset {} s.loops.spin k v } }

/-- The content of a stream's mirror item (R280). -/
def streamItem (k : Nat) (los : Bool) (v count : Nat) : List Byte :=
  [0, BitVec.ofNat 8 k, BitVec.ofNat 8 (b2n los), 0] ++ leBytes 4 v ++ leBytes 8 count

/-- One bit of the check's register. -/
def espBit (crc : Nat) : Nat :=
  if crc.testBit 31 then crc * 2 % 2 ^ 32 ^^^ 0xF4ACFB13 else crc * 2 % 2 ^ 32

def espByte (crc : Nat) (b : Byte) : Nat :=
  espBit (espBit (espBit (espBit (espBit (espBit (espBit (espBit (crc ^^^ (b.toNat * 2 ^ 24)))))))))

/-- CHECK of a frame: the register starts at CONN and takes the pair identity and the frame's bytes before it (R266). -/
def espCheck (conn pair : Nat) (bytes : List Byte) : Nat :=
  (leBytes 8 pair ++ bytes).foldl espByte conn

/-- A frame (R265). -/
def State.espFrame (s : State) (type conn seq techo : Nat) (data : List Byte) : List Byte :=
  let b := [0x01, BitVec.ofNat 8 type] ++ leBytes 2 data.length ++ leBytes 4 conn ++ leBytes 4 seq ++ leBytes 4 techo ++
    data
  b ++ leBytes 4 (espCheck conn s.pairId b)

def State.connEn (s : State) (k : Nat) : Bool := s.rdb .slay (R.SLAY.CON_CFG k) 0

def State.connProd (s : State) (k : Nat) : Bool := s.rdb .slay (R.SLAY.CON_CFG k) 1

def State.connAuto (s : State) (k : Nat) : Bool := s.rdb .slay (R.SLAY.CON_CFG k) 6

def State.connLen (s : State) (k : Nat) : Nat := s.rdf .slay (R.SLAY.CON_CFG k) 14 8

/-- The content of a KIND 0x0004 item (R280). -/
def espItem (k event seq : Nat) (deadline : Int) (frame : List Byte) : List Byte :=
  [BitVec.ofNat 8 k, BitVec.ofNat 8 event, 0, 0] ++ leBytes 4 seq ++ leBytes 8 (unsign 64 deadline) ++
  leBytes 2 frame.length ++ [0, 0] ++ frame

end Sys2Proof.Machine
end

