-- ==== Sys2Proof/Machine/RepairAnswer.lean ====
section
/-! DEFINITION. Repair: harness and slot images, the answers to a REPAIR_REQ and the installation of channel images
(R177, R280, R285, R287). -/

namespace Sys2Proof.Machine

open Sys2Proof

/-- The DIS word (R156). -/
def ChanEst.disWord (v : ChanEst) : Nat :=
  unsign 16 v.diff * 65536 + v.disCnt * 256 + v.calph * 32 + b2n v.seed * 16 + b2n v.cntLost * 8 +
  b2n (v.anchored && v.stepped) * 4 + v.disSt

/-- The harness image of a channel in the slot order of R177 (log entry 11): for each masked hypothesis the means, the
lower triangle of the root and μ; then the internal-short, count-path and disagreement state. -/
def ChanEst.image (v : ChanEst) : List Byte :=
  (v.hyps.filter (fun h => h.x != [])).flatMap (fun h => h.x.flatMap (fun x => leBytes 8 (unsign 64 x)) ++
    h.s.flatMap (fun r => r.flatMap (fun x => leBytes 4 (unsign 32 x))) ++ leBytes 4 h.mu) ++
  leBytes 4 (v.iscCnt + b2n v.iscWarn * 65536) ++ leBytes 8 (unsign 64 v.cnt) ++ leBytes 4 v.disWord

/-- A hypothesis of n states read from its place in a harness image. -/
def parseHyp (n : Nat) (b : List Byte) : HypSt :=
  { x := (List.range n).map (fun k => signed 64 (leAt b (8 * k) 8))
    s := (List.range n).map (fun r => (List.range (r + 1)).map (fun k =>
      signed 32 (leAt b (8 * n + 4 * (r * (r + 1) / 2 + k)) 4)))
    mu := leAt b (8 * n + 2 * n * (n + 1)) 4 }

/-- A channel's harness state replaced by an image, for the masked hypotheses of n states. -/
def ChanEst.install (v : ChanEst) (n mask stage : Nat) (b : List Byte) : ChanEst :=
  let sz := 8 * n + 2 * n * (n + 1) + 4
  let js := (List.range 4).filter (fun j => mask.testBit j)
  let tail := b.drop (sz * js.length)
  let w := leAt tail 12 4
  { v with
    live := true
    want := false
    unknown := false
    hyps := (List.range 4).map (fun j =>
      if mask.testBit j then parseHyp n (b.drop (sz * ((List.range j).filter (fun i => mask.testBit i)).length)) else {})
    last := stage
    iscCnt := leAt tail 0 2
    iscWarn := (byteAt tail 2).testBit 0
    cnt := signed 64 (leAt tail 4 8)
    diff := signed 16 (bits w 31 16)
    disCnt := bits w 15 8
    calph := bits w 7 5
    seed := w.testBit 4
    cntLost := w.testBit 3
    anchored := w.testBit 2
    disSt := bits w 1 0 }

/-- The 100-byte state image of a slot. -/
def State.slotImage (s : State) (n : Nat) : List Byte :=
  let v := s.slot n
  let six := match s.rdf (loopPage n) R.LOOP.LAW 1 0 with
    | 0 => [v.i, v.d, v.e1, 0, 0, 0]
    | 1 => v.eh.take 2 ++ v.uh.take 2 ++ [0, 0]
    | 2 => v.eh.take 3 ++ v.uh.take 3
    | _ => [0, 0, 0, 0, 0, 0]
  (v.nz.take 4 ++ six ++ [v.p, v.v]).flatMap (fun x => leBytes 8 (unsign 64 x)) ++ leBytes 2 v.pcount ++ leBytes 2 v.mode

/-- The number of the last sample whose window ended before the running millisecond, and the state image after it (R233). -/
def State.msImage (s : State) (n : Nat) : Nat × List Byte :=
  match (s.slot n).img with
  | some (ms, r) => if ms = s.mt / 1000000 * 1000000 then r else ((s.slot n).smp, s.slotImage n)
  | none => ((s.slot n).smp, s.slotImage n)

/-! ### Answers of the active (R287) -/

/-- A block of REPAIR_DATA (R280). -/
def repairBlock (type : Nat) (body : List Byte) : List Byte :=
  leBytes 4 (type + 256 * body.length) ++ body ++ zeros ((4 - body.length % 4) % 4)

/-- The blocks of an answer cut into frames of at most 16,376 bytes, from part `k` on. -/
def State.sendRepair (s : State) (req : Nat) (last : Bool) : Nat → List Byte → State
  | 0, _ => s
  | n + 1, b =>
    let part := s.tdm.askPart
    let rest := b.drop 16376
    let s := s.sendFrame 0x06 (leBytes 4 req ++ leBytes 2 part ++ [BitVec.ofNat 8 (b2n (last && rest = [])), 0] ++
      b.take 16376)
    let s := s.setTdm (fun t => { t with askPart := part + 1 })
    if rest = [] then s else s.sendRepair req last n rest

/-- The content of a KIND 0x0007 item (R280). -/
def State.timeItem (s : State) : List Byte :=
  [BitVec.ofNat 8 s.time.st, BitVec.ofNat 8 s.time.port, 0, 0] ++ leBytes 4 (unsign 32 s.time.rate) ++
  leBytes 8 (unsign 64 s.time.integ) ++ leBytes 4 (unsign 32 (floorDiv s.time.mean 256)) ++
  leBytes 4 (unsign 32 (floorDiv s.time.neigh 256))

/-- The items of a mirrored-state block (R280): event inputs whose effect tick has not begun, streams, connections, time,
witness index and the level of MANUAL. -/
def State.mirroredItems (s : State) : List EvItem :=
  s.events.filter (fun e => s.tick < e.effect) ++
  (List.range 8).map (fun k => ⟨0, 3, 0, streamItem k (s.stream k).effLos (unsign 32 (s.stream k).eff)
    (s.streamCount k)⟩) ++
  (List.range 4).map (fun k => ⟨0, 3, 0, [1, BitVec.ofNat 8 k, BitVec.ofNat 8 (b2n (s.spin k).effLos), 0] ++
    leBytes 4 (unsign 32 (s.spin k).eff) ++ zeros 8⟩) ++
  (((List.range 8).filter s.connEn).flatMap (fun k =>
    let c := s.conn k
    let id := s.rdn .slay (R.SLAY.CON_ID k)
    if s.connProd k then
      (match c.jecho with
       | some q => [⟨0, 4, 0, espItem k 2 q 0 (s.espFrame 2 id q c.jtecho [])⟩]
       | none => []) ++ [⟨0, 4, 0, espItem k 3 c.txData 0 []⟩]
    else
      (if c.st = 2 then [⟨0, 4, 0, espItem k 1 c.seq c.deadline (s.espFrame 1 id c.seq c.echo c.data)⟩] else []) ++
      [⟨0, 4, 0, espItem k 4 c.txEcho 0 []⟩])) ++
  [⟨0, 7, 0, s.timeItem⟩, ⟨0, 8, 0, [BitVec.ofNat 8 s.tdm.widx, 0, 0, 0] ++ leBytes 4 s.tdm.term⟩,
   ⟨0, 1, 0, leBytes 4 (Page.trip.base + R.TRIP.CMD) ++ leBytes 4 (if s.manual then 0x100 else 0x200)⟩]

/-- Channels asked for are answered with their state after the first step completed since, a full repair with every
journal record and the mirrored state besides. -/
def State.answerChannels (s : State) (sb : Nat) : State :=
  let t := s.tdm
  let full := t.askFull
  if s.mode != .active || (t.askChannels = [] && !full) then s
  else
    let cs := if full then (List.range 512).filter (fun c => (s.chanEst c).live && s.present c) else t.askChannels
    let b := cs.flatMap (fun c => repairBlock 1 (leBytes 2 c ++ [0, 0] ++ leBytes 8 sb ++ (s.chanEst c).image))
    let b := if full then b ++
        (List.range 577).flatMap (fun r => repairBlock 3 (leBytes 2 r ++ [0, 0] ++ s.jrnContent r)) ++
        repairBlock 4 (leBytes 8 t.mseqOut ++ s.mirroredItems.flatMap EvItem.bytes) else b
    let s := s.sendRepair t.askReq (t.askSlots = []) (b.length / 16376 + 1) b
    s.setTdm (fun t => { t with askChannels := [], askFull := false })

/-- Slots asked for are answered with their image at a multiple of 1 ms. -/
def State.answerSlots (s : State) : State :=
  let t := s.tdm
  if s.mode != .active || t.askSlots = [] then s
  else
    let b := t.askSlots.flatMap (fun n => repairBlock 2 ([BitVec.ofNat 8 n, 0, 0, 0] ++
      leBytes 8 (s.mt / 1000000 * 1000000) ++ leBytes 8 (s.msImage n).1 ++ (s.msImage n).2))
    let s := s.sendRepair t.askReq (t.askChannels = [] && !t.askFull) (b.length / 16376 + 1) b
    s.setTdm (fun t => { t with askSlots := [] })

/-- A channel's image takes the place of the own result, and the Waybill keeps it (R287, R313). -/
def State.installChannel (s : State) (c stage : Nat) (b : List Byte) : State :=
  let f := chanFe c
  let p := s.pset (s.feSet f)
  let s := s.wayEntry 0x0C (leBytes 2 c ++ zeros 2 ++ b)
  s.modChan c (fun v =>
    { v.install p.dim (s.feMask f) stage b with
      femap := s.feSet f + 16 * s.feMask f
      ref := s.rdn .est (R.EST.PS_REF (s.feSet f)) })

/-- Images that came ahead of the own step of the stage are installed once that step is done. -/
def State.installWaiting (s : State) (stage : Nat) : State :=
  let due := s.tdm.repairWait.filter (fun e => e.1 ≤ stage)
  let s := s.setTdm (fun t => { t with repairWait := t.repairWait.filter (fun e => stage < e.1) })
  due.foldl (fun s e => s.installChannel e.2.1 e.1 e.2.2) s

end Sys2Proof.Machine
end

