-- ==== Sys2Proof/Machine/Waybill.lean ====
section
/-! DEFINITION. The Waybill: segments, checkpoints, stage frames, bursts, freezing and export (R193, R194, R310 to
R325). -/

namespace Sys2Proof.Machine

open Sys2Proof

def State.modWay (s : State) (f : WaySt → WaySt) : State := { s with way := f s.way }

/-- The steps that wait for the coder (R318). -/
def State.wayLag (s : State) : Nat :=
  (s.way.queue.filter (fun i => match i with | .step _ => true | .opens _ => false)).length

/-- Steps wait for the coder, 256 at most (R318); LAGMAX shows the worst, and more than 64 set the flag. -/
def State.queueStep (s : State) (r : StepRec) : State :=
  if s.running .way && s.mode.runsString then
    let s := s.modWay (fun w => { w with queue := w.queue ++ [.step r] })
    let n := s.wayLag
    let s := if s.rdn .way R.WAY.LAGMAX < n then s.wrn .way R.WAY.LAGMAX n else s
    if 64 < n then s.flag .way 9 else s
  else s

/-! ### Segments (R193, R310, R311) -/

/-- The slot size of R193. -/
def slotBytes : Nat := 67108864

/-- The header of a segment (R310). -/
def Seg.header (g : Seg) : List Byte :=
  let b := leBytes 4 0x4C425957 ++ leBytes 2 1 ++ [BitVec.ofNat 8 g.kind, BitVec.ofNat 8 g.mode] ++ leBytes 4 g.num ++
    g.info ++ leBytes 8 g.first ++ leBytes 8 g.firstMt ++ leBytes 4 g.ck.length ++ leBytes 4 (crc32c g.ck) ++ g.cfg ++
    zeros 212
  b ++ leBytes 4 (crc32c b)

/-- A segment from its header to the end of its last frame. -/
def Seg.stored (g : Seg) : List Byte := g.header ++ g.frames.reverse.flatten

/-- A block of a checkpoint (R310). -/
def ckBlock (type : Nat) (b : List Byte) : List Byte := leBytes 4 (type + 256 * b.length) ++ b

/-- The state a replay starts from (R310); the layout within the blocks is the model's (log entry 18). -/
def State.checkpoint (s : State) : List Byte :=
  let sens := fun (v : SensorSt) => [BitVec.ofNat 8 v.st, BitVec.ofNat 8 v.cnt, BitVec.ofNat 8 v.agree, 0] ++
    leBytes 2 (unsign 16 v.last) ++ leBytes 2 (unsign 16 v.med)
  ckBlock 1 (leBytes 4 s.epoch ++ leBytes 4 s.tb.quiet ++ leBytes 4 (b2n s.tb.rest) ++
    leBytes 4 (s.rdn .est R.EST.CAL_STAT) ++ leBytes 8 (s.rd64 .est R.EST.CAL_END_LO R.EST.CAL_END_HI) ++
    (List.range 512).flatMap (fun c => leBytes 8 (unsign 64 (s.chanEst c).acc))) ++
  s.presentChans.flatMap (fun c =>
    let t := s.therm c
    ckBlock 2 (leBytes 2 c ++ zeros 2 ++ (s.chanEst c).image ++ leBytes 4 (unsign 32 t.tc) ++ leBytes 4 (unsign 32 t.ts) ++
      sens t.s0 ++ sens t.s1 ++ leBytes 2 (b2n (s.bal.blocked.contains c)) ++ leBytes 2 (sget 0 s.bal.ovr c))) ++
  s.jrn.img.flatMap (fun e => ckBlock 3 (leBytes 2 e.1 ++ zeros 2 ++ e.2))

/-- A new segment of a kind with the next number. -/
def State.newSeg (s : State) (kind : Nat) (ck : List Byte) (opened : Bool) : Seg where
  num := s.way.nextNum
  slot := 0
  kind := kind
  mode := s.rdf .way R.WAY.CFG 2 1 * 2 + s.rdf .way R.WAY.CFG 0 0
  info := leBytes 4 s.arithId ++ leBytes 8 s.buildId ++ leBytes 8 (if s.tandemed then s.pairId else 0) ++
    [BitVec.ofNat 8 (b2n s.sys.strapB), BitVec.ofNat 8 s.mode.code, 0, 0] ++ leBytes 4 (s.rdn .cfgx R.CFGX.SIG_LIVE)
  first := s.stage - 1
  firstMt := s.mt / 10000000 * 10000000
  ck := ck
  cfg := allPages.flatMap (fun p => leBytes 4 (s.rdn p R.PAGE.CFG_REF))
  last := 0
  isOpen := opened

/-- An export ends early (R324): 0x0100 overwritten, 0x0101 aborted. -/
def State.exportEnds (s : State) (ring status : Nat) : State :=
  ((s.ringComplete (112 + ring) status 0 0 []).inc .way R.WAY.EXPABORTS).flag .way 12

/-- Exports of an overwritten segment end. -/
def State.exportsLost (s : State) (num : Nat) : State :=
  let s := match s.way.host with
    | some e => if e.num = num then
        (s.exportEnds e.ring 0x0100).modWay (fun w => { w with host := none }) else s
    | none => s
  match s.way.auto with
  | some e => if e.num = num then
      (s.exportEnds e.ring 0x0100).modWay (fun w => { w with auto := none, autoNext := num + 1 }) else s
  | none => s

/-- A segment goes into the next slot, in ascending order mod 256, that holds no frozen segment (R193); an unexported
segment there is lost and counted. None where every slot is frozen. -/
def State.placeSeg (s : State) (g : Seg) : State :=
  let order := (List.range 256).map (fun k => (s.way.nextSlot + k) % 256)
  let frozen := (s.way.segs.filter (·.frozen)).map (·.slot)
  match order.find? (fun k => !frozen.contains k) with
  | none => s
  | some k =>
    let s := match s.way.segs.find? (fun x => x.slot = k) with
      | some old => (if old.exported then s else (s.inc .ost R.OST.WAYLOSS).flag .ost 10).exportsLost old.num
      | none => s
    s.modWay (fun w => { w with
      segs := w.segs.filter (fun x => x.slot != k) ++ [{ g with slot := k }]
      nextSlot := (k + 1) % 256 })

/-- The segment being written. -/
def State.openSeg (s : State) : Option Seg := s.way.segs.find? (·.isOpen)

/-- A frame marked as the last of its segment (R311): FLAGS[7] and the CRC that covers it. -/
def markLast (f : List Byte) : List Byte :=
  let b := f.take 3 ++ [BitVec.ofNat 8 (byteAt f 3 ||| 0x80)] ++ (f.drop 4).take (f.length - 8)
  b ++ leBytes 4 (crc32c b)

/-- The open segment closes after its latest frame. -/
def State.closeSeg (s : State) : State :=
  match s.openSeg with
  | none => s
  | some g =>
    let fs := match g.frames with
      | f :: t => markLast f :: t
      | [] => []
    s.modSeg g.num (fun g => { g with isOpen := false, frames := fs })

/-- A stage boundary opens a segment where R311 asks for one; it takes its place in the coder's queue behind the steps
before it, or ahead of those that wait for it. -/
def State.wayBoundary (s : State) : State :=
  if !s.running .way || !s.mode.runsString then s
  else
    let sig := s.rdn .cfgx R.CFGX.SIG_LIVE
    if !(s.way.reopen || s.way.openState != s.mode.code || s.way.openSig != sig) then s
    else
      let g := s.newSeg 1 s.checkpoint true
      let ahead := s.openSeg.isNone && !s.way.queue.any (fun i => match i with | .opens _ => true | .step _ => false)
      s.modWay (fun w => { w with
        queue := if ahead then .opens g :: w.queue else w.queue ++ [.opens g]
        reopen := false
        openState := s.mode.code
        openSig := sig })

/-! ### Stage frames (R312 to R317) -/

/-- A stream of (channel, value) pairs of a field coded under its histories: bytes, escapes, histories after it. -/
def codeField (w e : Nat) (sgn : Bool) (field : Nat) (h : List (Nat × Hist)) (l : List (Nat × Int)) :
    List Byte × Nat × List (Nat × Hist) :=
  let (vs, h) := l.foldl (fun (a : List (Nat × Nat) × List (Nat × Hist)) x =>
    let key := 512 * field + x.1
    let (v, hist) := codeValue w e sgn (sget {} a.2 key) x.2
    (v :: a.1, sset {} a.2 key hist)) ([], h)
  let (b, n) := codeStream w vs.reverse
  (b, n, h)

/-- An entry of a stage frame: left out where its content is empty (R313). -/
def wayEntryBytes (type : Nat) (b : List Byte) : List Byte :=
  if b = [] then [] else leBytes 4 (type + 256 * b.length) ++ b ++ zeros ((4 - b.length % 4) % 4)

/-- E of the near-lossless mode, 0 for lossless coding. -/
def State.wayE (s : State) : Nat := if s.rdb .way R.WAY.CFG 0 then 2 ^ s.rdf .way R.WAY.CFG 2 1 else 0

/-- A step's frame, its escapes and raw blocks, and the histories after it. -/
def State.wayFrame (s : State) (r : StepRec) : List Byte × Nat × List (Nat × Hist) :=
  let e := s.wayE
  let nat := fun (x : Nat × Nat) => (x.1, (x.2 : Int))
  let (v, n1, h) := codeField 24 e false 0 s.way.hist (r.v.map nat)
  let (t0, n2, h) := codeField 16 e true 1 h r.t0
  let (t1, n3, h) := codeField 16 e true 2 h r.t1
  let (n, n4, h) := codeField 8 0 false 3 h (r.n.map nat)
  let (bal, n5) := codePlain r.bal
  let of := fun (type : Nat) => wayEntryBytes type ((r.entries.filter (fun x => x.1 = type)).flatMap (·.2))
  let miss := (r.misses.zipIdx.filter (fun x => x.1 != 0)).flatMap (fun x => BitVec.ofNat 8 x.2 :: leBytes 8 x.1)
  let body := wayEntryBytes 1 (v ++ t0 ++ t1 ++ n) ++ wayEntryBytes 2 (r.tmiss.flatMap (leBytes 2)) ++
    wayEntryBytes 3 r.charge ++ wayEntryBytes 4 bal ++ of 5 ++ wayEntryBytes 6 miss ++
    ((List.range 6).flatMap (fun k => of (7 + k))) ++ wayEntryBytes 13 (leBytes 4 r.digest)
  let b := leBytes 2 0x4257 ++ [BitVec.ofNat 8 r.nstg, BitVec.ofNat 8 r.flags] ++ leBytes 4 body.length ++
    leBytes 8 r.stage ++ body
  (b ++ leBytes 4 (crc32c b), n1 + n2 + n3 + n4 + n5, h)

/-- A freeze falls due on a segment that opens within a post-trigger window; a refusal refuses the window's later ones
(R321). -/
def State.windowFreeze (s : State) (g : Seg) : State :=
  if s.way.windows.any (fun w => !w.2 && g.first ≤ w.1) then
    let (ok, s) := s.freezeSeg g
    if ok then s else s.modWay (fun w => { w with windows := w.windows.map (fun (x : Nat × Bool) => (x.1, true)) })
  else s

/-- The windows whose last stage the frame of `stage` has reached end; with the last of them the segment closes. -/
def State.windowEnds (s : State) (stage : Nat) : State :=
  let rest := s.way.windows.filter (fun w => stage < w.1)
  if s.way.windows != [] && rest = [] then
    s.closeSeg.modWay (fun w => { w with windows := [], reopen := true })
  else s.modWay (fun w => { w with windows := rest })

/-- STAGE_FRAME_WRITE (R312, R318): the coder takes what is first in its queue: a segment to open, or a step, which it
writes if the open slot can take its frame. It writes while WAY is RUNNING and the module is ACTIVE or STANDBY (R311). -/
def execStageFrameWrite (dt : Nat) (s : State) : Host.Outcome State Fault Refusal :=
  let s := s.elapse dt
  if !s.running .way || !s.mode.runsString then .next s
  else match s.way.queue with
  | [] => .next s
  | .opens g :: t =>
    let g := { g with num := s.way.nextNum }
    let s := s.closeSeg.modWay (fun w => { w with queue := t, hist := [], nextNum := (w.nextNum + 1) % 2 ^ 32 })
    .next ((s.placeSeg g).windowFreeze g)
  | .step r :: t =>
    match s.openSeg with
    | none => .next s
    | some g =>
      let (f, esc, h) := s.wayFrame r
      if slotBytes < g.bytes + f.length then .next (s.closeSeg.modWay (fun w => { w with reopen := true }))
      else
        let s := s.modSeg g.num (fun g => { g with
          frames := f :: g.frames
          bytes := g.bytes + f.length
          first := if g.frames = [] then r.stage else g.first
          last := r.stage })
        let s := s.modWay (fun w => { w with
          queue := t
          hist := h
          rate := (s.mt, f.length) :: w.rate.takeWhile (fun (x : Nat × Nat) => decide (s.mt - x.1 < 60000000000)) })
        .next ((s.incBy .way R.WAY.ESCAPES esc).windowEnds r.stage)

/-! ### Bursts (R319) -/

/-- The inputs of the burst. -/
def State.burstInputs (s : State) : List Nat := (List.range 12).filter (fun i => s.rdb .way R.WAY.BURST (20 + i))

/-- BURST_CAPTURE_STOP (R319): POST more outputs of each input have come since the trigger. -/
def execBurstCaptureStop (dt : Nat) (s : State) : Host.Outcome State Fault Refusal :=
  let s := s.elapse dt
  match s.way.post with
  | some n =>
    if s.burstInputs.all (fun i => n ≤ (sget {} s.way.burst i : BurstIn).count) then
      .next (s.modWay (fun w => { w with post := none, held := true }))
    else .next s
  | none => .next s

/-- One input's block of a burst segment. -/
def State.burstBlock (s : State) (i : Nat) : List Byte :=
  let b : BurstIn := sget {} s.way.burst i
  let n := b.samples.length
  let osr := 16 * 2 ^ s.rdf .mod (R.MOD.IN_CFG i) 10 8
  [BitVec.ofNat 8 i, BitVec.ofNat 8 (s.rdf .mod (R.MOD.IN_CFG i) 10 8)] ++ leBytes 2 (s.rdf .mod (R.MOD.IN_CFG i) 31 16) ++
  leBytes 8 (b.bit - (n - 1) * osr) ++ leBytes 4 n ++ b.samples.reverse.flatMap (fun x => leBytes 2 (unsign 16 x))

/-- BURST_COPY_DONE (R194, R319): the burst stands in the next free slot, frozen; the buffer fills again. -/
def execBurstCopyDone (dt : Nat) (s : State) : Host.Outcome State Fault Refusal :=
  let s := s.elapse dt
  if !s.way.held then .next s
  else
    let blocks := s.burstInputs.map s.burstBlock
    let g := { s.newSeg 2 [] false with
      frames := blocks.reverse
      bytes := 512 + blocks.flatten.length
      last := s.stage }
    let s := (s.modWay (fun w => { w with held := false, nextNum := (w.nextNum + 1) % 2 ^ 32 })).placeSeg g
    let (ok, s) := s.freezeSeg g
    .next (if ok then s.flag .way 10 else s)

/-! ### Host commands (R320 to R324) -/

/-- FREEZE (R320): a host trigger. -/
def execWayFreeze (dt : Nat) (s : State) : Host.Outcome State Fault Refusal :=
  .next ((s.elapse dt).hostDo .way (fun (s : State) => s.trigger 1 0))

/-- RELEASE: the segment SEGARG names is no longer frozen. -/
def State.releaseSegment (s : State) : State :=
  (s.modSeg (s.rdn .way R.WAY.SEGARG) (fun g => { g with frozen := false, salvaged := false }))

/-- RELEASE_SEGMENT (R322). -/
def execReleaseSegment (dt : Nat) (s : State) : Host.Outcome State Fault Refusal :=
  .next ((s.elapse dt).hostDo .way (fun (s : State) => s.releaseSegment))

/-- EXPORT: the segment SEGARG names starts to go to the ring EXPARG names. -/
def State.exportSegment (s : State) : State :=
  let n := s.rdn .way R.WAY.SEGARG
  if s.running .way && s.way.host.isNone && s.way.segs.any (fun g => g.num = n) then
    (s.modWay (fun w => { w with host := some { num := n, ring := s.rdf .way R.WAY.EXPARG 2 0 } }))
  else s

/-- EXPORT (R323): taken unless one is on already. -/
def execExportSegment (dt : Nat) (s : State) : Host.Outcome State Fault Refusal :=
  .next ((s.elapse dt).hostDo .way (fun (s : State) => s.exportSegment))

/-- ABORT: the export in progress ends. -/
def State.abortSegment (s : State) : State :=
  match s.way.auto, s.way.host with
  | some e, _ => ((s.exportEnds e.ring 0x0101).modWay (fun w => { w with auto := none, autoNext := e.num + 1 }))
  | none, some e => ((s.exportEnds e.ring 0x0101).modWay (fun w => { w with host := none }))
  | none, none => s

/-- ABORT (R324): the running export ends; a host export waits while an automatic one runs. -/
def execAbortSegment (dt : Nat) (s : State) : Host.Outcome State Fault Refusal :=
  .next ((s.elapse dt).hostDo .way (fun (s : State) => s.abortSegment))

/-- The byte stream of an export (R323): checkpoint, then segment. -/
def Seg.stream (g : Seg) : List Byte := g.ck ++ g.stored

/-- The next chunk of an export on its ring: its state after the chunk, none at its end. -/
def State.exportChunk (s : State) (e : WayExport) : Option WayExport × State :=
  match s.way.segs.find? (fun g => g.num = e.num), s.ringHead (112 + e.ring) with
  | some g, some d =>
    let rest := g.stream.drop e.off
    let b := rest.take d.len
    let done := !g.isOpen && b.length = rest.length
    if b = [] && !done then (some e, s)
    else
      let t := b2n (e.off = 0) + 2 * b2n done + 4 * b2n (g.kind = 2) + 8 * b2n (e.off < g.ck.length)
      let s := s.ringComplete (112 + e.ring) 0 t b.length b
      if done then (none, s.modSeg e.num (fun g => { g with exported := true }))
      else (some { e with off := e.off + b.length }, s)
  | none, _ => (none, s)
  | some _, none => (some e, s)

/-- EXPORT_CHUNK (R323, R324): the running export fills a posted buffer; a running automatic export goes on to its
segment's end before a host export. -/
def execExportChunk (dt : Nat) (s : State) : Host.Outcome State Fault Refusal :=
  let s := s.elapse dt
  match s.way.auto, s.way.host with
  | some e, _ =>
    let (e', s) := s.exportChunk e
    .next (s.modWay (fun w => { w with auto := e', autoNext := if e'.isNone then e.num + 1 else w.autoNext }))
  | none, some e =>
    let (e', s) := s.exportChunk e
    .next (s.modWay (fun w => { w with host := e' }))
  | none, none => .next s

/-- AUTO_EXPORT_START (R324): the next closed segment in segment order. -/
def execAutoExportStart (dt : Nat) (s : State) : Host.Outcome State Fault Refusal :=
  let s := s.elapse dt
  let todo := (s.way.segs.filter (fun g => !g.isOpen && s.way.autoNext ≤ g.num)).map (·.num)
  match todo with
  | [] => .next s
  | n :: t =>
    if s.running .way && s.rdb .way R.WAY.CFG 4 && s.way.host.isNone && s.way.auto.isNone then
      .next (s.modWay (fun w => { w with auto := some { num := t.foldl min n, ring := s.rdf .way R.WAY.CFG 10 8 } }))
    else .next s

/-! ### Block start, stop and reset -/

/-- The WAY page's configuration allows its block start. -/
def State.wayStartOk (s : State) : Bool := s.rdf .way R.WAY.CFG 2 1 != 3 && s.rdf .way R.WAY.BURST 19 0 ≤ 625000

/-- WAY enters RUNNING: a segment opens at the next stage boundary (R311). -/
def State.wayStarted (s : State) : State := s.modWay (fun w => { w with reopen := true })

/-- WAY leaves RUNNING: the open segment closes after its latest frame. -/
def State.wayStopped (s : State) : State :=
  s.closeSeg.modWay (fun w => { w with queue := [], windows := [], post := none, held := false, host := none, auto := none })

/-- What BOOT finds in the Waybill area (R325): the segment that was open is salvaged: closed after its last frame and
frozen, unless that would exceed the cap (R194). -/
def State.waySalvage (s : State) : State :=
  match s.openSeg with
  | none => s
  | some g =>
    let s := s.modSeg g.num (fun g => { g with isOpen := false, salvaged := true })
    let (_, s) := s.freezeSeg g
    ((s.wrn .way R.WAY.LASTTRIG (8 * 2 ^ 24)).wrn .way R.WAY.LASTTRIG_SEG g.num).flag .way 13

/-- Where frame `k` of a segment starts, and its length. -/
def Seg.frameAt (g : Seg) (k : Nat) : Nat × Nat :=
  let fs := g.frames.reverse
  (512 + ((fs.take k).map List.length).foldl (· + ·) 0, ((fs.drop k).head?.map List.length).getD 0)

/-- A frame of a segment is damaged: it reads as invalid, and every reader of the segment skips it from then on and
counts it (R21, log entry 110). An export past it goes on where it stood. -/
def State.wayDamage (s : State) (num k : Nat) : State :=
  match s.way.segs.find? (fun g => g.num = num && k < g.frames.length) with
  | none => s
  | some g =>
    let (start, len) := g.frameAt k
    let moved := fun (e : WayExport) =>
      if e.num = num && g.ck.length + start + len ≤ e.off then { e with off := e.off - len } else e
    (s.modSeg num (fun g => { g with frames := (g.frames.reverse.eraseIdx k).reverse })).modWay (fun w => { w with
      skipped := w.skipped + 1
      host := w.host.map moved
      auto := w.auto.map moved })

/-! ### The registers computed on reading -/

def Seg.code (g : Seg) : Nat :=
  (if g.frozen then 3 else if g.isOpen then 1 else 2) * 16384 + b2n g.exported * 8192 + g.num % 4096

/-- The WAY registers that show the recording and the exports. -/
def State.wayView (s : State) (o : Nat) : Option Nat :=
  let cur := s.openSeg
  let exp := match s.way.auto with
    | some e => some e
    | none => s.way.host
  let ringOf := match s.way.host with
    | some e => e.ring
    | none => match s.way.auto with
      | some e => e.ring
      | none => 0
  let rate := (((s.way.rate.filter (fun (x : Nat × Nat) => s.mt < x.1 + 60000000000)).map (·.2)).foldl (· + ·) 0) / 60
  let free := 256 - (s.way.segs.filter (·.frozen)).length
  if o = R.WAY.STAT then
    some (s.wayLag * 65536 + ringOf * 256 + b2n s.way.auto.isSome * 16 +
      b2n (s.way.segs.any (fun g => g.salvaged && g.frozen)) * 8 + b2n s.way.held * 4 + b2n s.way.host.isSome * 2 +
      b2n (cur.isSome && s.running .way && s.mode.runsString))
  else if o = R.WAY.CURSEG then some (match cur with | some g => g.num | none => 0)
  else if o = R.WAY.EXPSEG then some (match exp with | some e => e.num | none => 0)
  else if o = R.WAY.EXPOFF then some (match exp with | some e => e.off | none => 0)
  else if o = R.WAY.RATE then some rate
  else if o = R.WAY.RETAIN then some (if rate = 0 then 0 else free * slotBytes / rate / 60)
  else if o = R.WAY.FIRST_LO then some (match cur with | some g => g.first % 2 ^ 32 | none => 0)
  else if o = R.WAY.FIRST_HI then some (match cur with | some g => g.first / 2 ^ 32 | none => 0)
  else none

/-- The OST registers that show the slots. -/
def State.ostWayView (s : State) (o : Nat) : Option Nat :=
  let code := fun (k : Nat) => match s.way.segs.find? (fun g => g.slot = k) with
    | some g => g.code
    | none => 0
  let nums := s.way.segs.map (·.num)
  if o = R.OST.WAYHEAD then some (match s.openSeg with | some g => g.num | none => 0)
  else if o = R.OST.WAYOLD then some (match nums with | [] => 0 | n :: t => t.foldl min n)
  else if o = R.OST.WAYFRZ then some (s.way.segs.filter (·.frozen)).length
  else if 0xC00 ≤ o && o < 0xE00 then
    let w := (o - 0xC00) / 4
    some (code (2 * w) + 65536 * code (2 * w + 1))
  else none

end Sys2Proof.Machine
end

