-- ==== Sys2Proof/Machine/Steps.lean ====
section
/-! DEFINITION. Steps: how stages and rest spans become steps, the run of a step, its publication, records, aggregates and
digest (R64 to R72, R131, R146 to R149, R153, R160, R181, R285). -/

namespace Sys2Proof.Machine

open Sys2Proof

/-! ### Scheduling (R68 to R72) -/

/-- A step ends with the tick that ends: everything its stages gave but their charges (R66). -/
def State.closeStep (s : State) (sa sb : Nat) (rest : Bool) : State :=
  let steady := s.bal.cmd.filter (fun e => sget 0 s.bal.since e.1 ≤ 20 * sa)
  let fes := List.range 64
  let d : StepDue := { sa := sa, sb := sb, rest := rest, chgs := [], acc := s.acc,
                       misses := s.tb.misses.reverse, quiet := s.tb.quiet, runNo := s.tb.runNo, steady := steady,
                       entries := s.way.entries, calm := s.est.calm,
                       serv := fes.filter (fun f => (s.fe (f / 4) (f % 4)).serv),
                       alerts := fes.map (fun f => (f, (s.fe (f / 4) (f % 4)).lastAlert)),
                       cool := (List.range 4).map (fun z => (z, s.rds .cth (R.CTH.TCOOL z) 15 0)), stale := s.cth.stale }
  { s with
    acc := []
    tb := { s.tb with misses := [] }
    way := { s.way with entries := [] }
    est := { s.est with closing := some d } }

/-- At the boundary that ends a stage the step that ended with it, if one did, is scheduled with the charges of its
stages (R68). -/
def State.stageSteps (s : State) : State :=
  match s.est.closing with
  | some d =>
    { s with
      chg := { s.chg with stages := [] }
      est := { s.est with closing := none, due := some { d with chgs := s.chg.stages.reverse } } }
  | none => s

/-- The last tick of stage `st` has ended: a step ends here or not, and rest begins, goes on or ends (R70 to R72). -/
def State.restTurn (s : State) (st : Nat) : State :=
  let n := st + 1
  let b := s.tb
  if b.rest && !b.spanBroken && n % 10 != 0 then s
  else
    let s := s.closeStep (if b.rest then b.spanStart else st) st b.rest
    let rest := if b.rest then !b.spanBroken else decide (120000 ≤ b.quiet) && n % 10 = 0
    { s with tb := { s.tb with rest := rest, spanBroken := false, spanStart := n } }

/-- A tick ends: it is quiet where the samples of MOD0 and MOD1 both came and were quiet (R70). One that is not quiet
breaks a rest span (R72). -/
def State.quietEnds (s : State) : State :=
  let b := s.tb
  let got := if b.quietTick = s.tick then b.quietGot else []
  if 2 ≤ got.length && got.all (·.2) then { s with tb := { b with quiet := b.quiet + 1 } }
  else { s with tb := { b with quiet := 0, runNo := b.runNo + 1, spanBroken := b.spanBroken || b.rest } }

/-- A stage-path sample of MOD0 or MOD1 tells whether its tick is quiet on it (R70). -/
def State.quietSample (s : State) (tick k : Nat) (quiet : Bool) : State :=
  let got := if s.tb.quietTick = tick then s.tb.quietGot else []
  { s with tb := { s.tb with quietTick := tick, quietGot := (k, quiet) :: got.filter (fun e => e.1 != k) } }

/-! ### The run of a step -/

/-- A lane's channel takes part in a comparison that still has to be settled (R185). -/
def State.laneHeld (s : State) (c : Nat) : Bool :=
  match s.harness c with
  | some h => s.ost.checks.any (fun k => s.stepLane h = some k.owner || s.stepLane h = some k.checker)
  | none => false

/-- The charge of channel c over a step (R115, R134). -/
def stepQ (d : StepDue) (str : Int) (c : Nat) : Int := str + 500000 * (sget {} d.acc c).bsum

/-- The estimator's part of a step, over the present channels in ascending order. -/
def State.estStep (s : State) (d : StepDue) (str : Int) (lost : Nat) : State :=
  let s := if lost = 0 then s else (s.incBy .est R.EST.CHGSUB lost).flag .est 13
  if s.running .est then
    let s := s.presentChans.foldl (fun s c =>
      let q := stepQ d str c
      let s := s.modChan c (fun v => { v with acc := signed 96 (unsign 96 (v.acc + q)) })
      if (s.chanEst c).held || (s.harness c).isNone then s.chanHold c q lost else s.chanStep d c q lost) s
    if s.presentChans.any (fun c => (s.chanEst c).stepped && (s.chanEst c).anchored) then
      s.jrnPut 0 0x0C (leBytes 4 (satAdd 32 (s.jrnField 0 0x0C 4) 1))
    else s
  else
    s.presentChans.foldl (fun s c => if (s.chanEst c).live then s.chanHold c (stepQ d str c) lost else s) s

/-- STAGE_STEP_RUN (R132): the scheduled step runs: shadow copies, every channel's step, cross-checks, plan, readback
check, thermal step and demands. -/
def execStageStepRun (dt : Nat) (x : LaneObservations) (s : State) : Host.Outcome State Fault Refusal :=
  let s := s.elapse dt
  match s.est.due with
  | none => .next s
  | some d =>
    let (str, lost, last) := stepCharge s.est.lastQ d.chgs
    let now := s.way.entries
    let s := { s with way := { s.way with entries := d.entries } }
    let s := { s with est := { s.est with due := none, ran := some d, shadow := s.est.chan, lastQ := last,
                                          ranStr := str, ranLost := lost, jrnWas := s.jrn } }
    let s := s.estStep d str lost
    let s := if s.running .est then s.crossCheck d.sb x else s
    let s := s.balStep d
    let s := s.readbackAll d
    let s := s.thermStep d (stepQ d str)
    let s := (s.demands d).demandsDue d.sb
    let s := if s.running .est && d.sb % 100 = 99 then
        { s with est := { s.est with
          fcStage := some d.sb
          fcChan := s.est.chan
          fcEnv := s.est.env
          fcPair := s.presentChans.map (fun c => (c, (s.socPair c, s.capOf c))) } } else s
    .next { s with
      est := { s.est with ran := some { d with entries := s.way.entries } }
      way := { s.way with entries := now } }

/-! ### Records (R146 to R148) -/

/-- SOH_Q and SOH_R (R146). -/
def sohQ (cap qName : Nat) : Nat := (clampI 0 65535 (roundAway ((cap : Rat) / qName * 32768))).toNat
def sohR (p : PSet) (hs : List HypV) : Nat :=
  (clampI 0 65535 (roundAway (combine p hs (fun x => p.rTot x p.tRef) * 1000000 / p.rName * 16384))).toNat

/-- STATUS of the record as it stands: the step's bits, or those of a channel that is held. -/
def ChanEst.statusNow (v : ChanEst) : Nat :=
  if v.held then putBits (putBits v.status 5 5 1) 4 4 (b2n v.unknown) else v.status

/-- The 128-byte output record of a channel (R146); all zero but its CRC where the channel is not estimated. -/
def State.recordOf (s : State) (c pub : Nat) : List Byte :=
  let v := s.chanEst c
  let p := s.pset (s.feSet (chanFe c))
  let hs := v.hyps.map HypSt.toV
  let k := fun (i : Nat) => satS 16 (roundAway ((combine p hs (fun x => x.getD i 0) - 27315 / 100) * 64))
  let pc := v.pcap.zipIdx.map (fun (x, i) => if (3 ≤ i && v.disSt = 3) || !s.est.fcDone then 0 else x)
  let b :=
    if !v.live || !s.present c then zeros 124
    else
      leBytes 8 pub ++ leBytes 8 v.estStage ++ leBytes 2 (code16 v.soc) ++ leBytes 2 (code16 (qv 62 v.cnt)) ++
      leBytes 2 (sohQ (s.capOf c) (s.qName c)) ++ leBytes 2 (sohR p hs) ++ leBytes 4 (s.capOf c) ++ leBytes 4 v.eUse ++
      leBytes 2 (unsign 16 (k p.iTc)) ++ leBytes 2 (unsign 16 (k p.iTs)) ++
      (List.range 4).flatMap (fun j => leBytes 2 (v.ph.getD j 0)) ++
      leBytes 4 (v.iscCnt + b2n v.iscWarn * 65536) ++ leBytes 4 (unsign 32 v.leak) ++ leBytes 4 v.rTot ++
      leBytes 4 v.vmean ++ leBytes 4 (unsign 32 v.resid) ++ leBytes 4 v.statusNow ++ leBytes 4 v.disWord ++
      leBytes 8 v.fcPeriod ++ pc.flatMap (leBytes 4) ++ leBytes 4 (v.reinits + 65536 * v.sats) ++ zeros 16
  b ++ leBytes 4 (crc32c b)

/-- A channel's digest (R285). -/
def State.chanDigest (s : State) (c : Nat) : Nat :=
  if (s.harness c).isNone then 0 else crc32c ((s.chanEst c).image ++ (sget [] s.est.recs c).take 124)

/-- The STAGE_DIGEST payload of a step (R280, R285). -/
def State.stageDigest (s : State) (d : StepDue) : List Byte :=
  let src := d.chgs.map (fun c => BitVec.ofNat 8 c.src)
  let miss := d.misses.flatMap (leBytes 8)
  leBytes 8 d.sb ++ [BitVec.ofNat 8 d.n, 0, 0, 0] ++
  leBytes 4 (crc32c ((List.range 512).flatMap (fun c => leBytes 2 (unsign 16 (sget 0 s.bal.plan c))))) ++
  src ++ zeros (12 - src.length) ++ miss ++ zeros (1600 - miss.length) ++
  (List.range 512).flatMap (fun c => leBytes 4 (s.chanDigest c))

/-! ### Aggregates -/

/-- A field of a published record. -/
def State.recField (s : State) (c o k : Nat) : Nat := leAt (sget [] s.est.recs c) o k
def State.recStatus (s : State) (c bit : Nat) : Bool := (s.recField c 0x40 4).testBit bit

/-- The channel with the greatest value, the lowest number on ties. -/
def argMax (l : List Nat) (f : Nat → Int) : Nat × Int :=
  match l with
  | [] => (0, 0)
  | c :: t => t.foldl (fun b x => if b.2 < f x then (x, f x) else b) (c, f c)

/-- String discharge capability is 0 W while any channel is in EMPTY (R160); before the first forecast every capability
reads 0 (R172). -/
def State.showPcap (s : State) : State :=
  let empty := s.est.chan.any (fun e => e.2.disSt = 3)
  let s := (List.range 6).foldl (fun s k =>
    s.wrn .est (R.EST.PCAP k) (if !s.est.fcDone || (empty && 3 ≤ k) then 0 else s.est.pcap.getD k 0)) s
  s.wrb .est R.EST.DCLAMP 6 empty

/-- The run-time registers of the EST page after a step (over the records with VALID set). -/
def State.estShow (s : State) (sb : Nat) : State :=
  let val := s.presentChans.filter (fun c => s.recStatus c 0)
  let cnt := fun (f : Nat → Bool) => (val.filter f).length
  let soc := fun (c : Nat) => (s.recField c 0x10 2 : Int)
  let ext := fun (x : Nat × Int) => x.1 * 65536 + unsign 16 x.2
  let s := s.wr64 .est R.EST.STAGE_LO R.EST.STAGE_HI sb
  let s := s.wrn .est R.EST.COUNTS (cnt (fun c => s.recStatus c 5) * 2 ^ 20 + cnt (fun c => s.recStatus c 4) * 1024 + val.length)
  let s := s.wrn .est R.EST.COUNTS2 (cnt (fun c => s.recStatus c 6 && (s.chanEst c).stepped) * 2 ^ 20 +
    cnt (fun c => (s.recField c 0x2C 4).testBit 16) * 1024 + cnt (fun c => s.recStatus c 1 && (s.chanEst c).stepped))
  let lo := argMax val (fun c => -(soc c))
  let s := s.wrn .est R.EST.SOC_MIN (ext (lo.1, -lo.2))
  let s := s.wrn .est R.EST.SOC_MAX (ext (argMax val soc))
  let sum : Nat := (val.map (fun c => s.recField c 0x10 2)).foldl (· + ·) 0
  let s := s.wrn .est R.EST.SOC_MEAN (if val = [] then 0 else (roundAway ((sum : Rat) / (val.length : Rat))).toNat)
  let s := s.wrn .est R.EST.TCORE_MAX (ext (argMax val (fun c => signed 16 (s.recField c 0x20 2))))
  let s := s.wrn .est R.EST.PH3_MAX (ext (argMax val (fun c => (s.recField c 0x2A 2 : Int))))
  let s := s.wr64 .est R.EST.EUSE_LO R.EST.EUSE_HI ((val.map (fun c => s.recField c 0x1C 4)).foldl (· + ·) 0)
  let dis := fun k => cnt (fun c => s.recField c 0x44 4 % 4 = k)
  let s := s.wrn .est R.EST.DSTATE (dis 3 * 2 ^ 20 + dis 2 * 1024 + dis 1)
  s.showPcap

/-! ### Publication -/

/-- The raw inputs of a step for the Waybill (R313, R314). -/
def State.stepRec (s : State) (d : StepDue) : StepRec :=
  let ps := s.presentChans
  let a := fun (c : Nat) => (sget {} d.acc c : ChanAcc)
  let t := fun (r : Option Int) => r.getD (-32768)
  let tm := ps.flatMap (fun c => (if (a c).t0.isNone then [c] else []) ++ (if (a c).t1.isNone then [c + 512] else []))
  let gap := d.chgs.any (fun c => c.gapped != 0)
  { nstg := d.n, flags := b2n d.rest + 2 * b2n gap + 4 * b2n (d.chgs.any (fun c => c.q.isNone)), stage := d.sb,
    n := ps.map (fun c => (c, (a c).vcnt)),
    v := (ps.filter (fun c => 0 < (a c).vcnt)).map (fun c => (c, (32 * (a c).vsum + (a c).vcnt) / (2 * (a c).vcnt))),
    t0 := (ps.filter (fun c => (a c).t0.isSome)).map (fun c => (c, t (a c).t0)),
    t1 := (ps.filter (fun c => (a c).t1.isSome)).map (fun c => (c, t (a c).t1)),
    tmiss := tm,
    charge := d.chgs.flatMap (fun c => leBytes 8 (unsign 64 (c.q.getD 0)) ++ leBytes 8 (unsign 64 (c.q0.getD 0)) ++
      leBytes 8 (unsign 64 (c.q1.getD 0)) ++ [BitVec.ofNat 8 c.src, BitVec.ofNat 8 (b2n c.q0.isSome + 2 * b2n c.q1.isSome +
        4 * b2n (c.gapped != 0) + 8 * b2n c.q.isNone)] ++ leBytes 2 c.unsamp ++ zeros 4),
    bal := (ps.filter (fun c => (s.chanEst c).stepped)).map (fun c => (a c).bsum - (a c).dsum),
    misses := d.misses, entries := d.entries, digest := crc32c (s.stageDigest d) }

/-- The internal-short source follows the records' WARN bits (R149). -/
def State.iscShow (s : State) : State :=
  let was := s.prot.raw.testBit 59
  let now := s.est.recs.any (fun e => (leAt e.2 0x2C 4).testBit 16)
  let s := if now && !was then s.flag .est 10 else s
  s.setSource 59 now

/-- The records of a step are rewritten (R148), but for those of lanes whose comparison is open (R185) and of channels
that did not step. -/
def State.publishRecs (s : State) (d : StepDue) : State :=
  (List.range 512).foldl (fun s c =>
    if s.laneHeld c || (s.present c && !(s.chanEst c).stepped && !(s.chanEst c).held && (s.chanEst c).live) then s
    else { s with est := { s.est with recs := sset [] s.est.recs c (s.recordOf c d.sb) } }) s

/-- The step of stage S is written to shadow buffer S mod 2 (R181). -/
def State.shadowStep (s : State) (sb : Nat) : State :=
  { s with
    est := { s.est with bufs := sset [] s.est.bufs (sb % 2) s.est.chan, bufOf := sb }
    ost := { s.ost with again := [] } }

/-- STEP_PUBLISHED (R148): records, aggregates, protection temperatures, digest and Waybill inputs of the step that
ran. While a comparison is open only the records it does not hold back are written, and the step waits (R185). -/
def execStepPublished (dt : Nat) (s : State) : Host.Outcome State Fault Refusal :=
  let s := s.elapse dt
  match s.est.ran with
  | none => .next s
  | some d =>
    let s := if s.running .est then s.publishRecs d else s
    if s.running .est && s.presentChans.any s.laneHeld then .next s
    else
      let s := { s with est := { s.est with ran := none } }
      let s := if s.running .est then (((s.estShow d.sb).iscShow).edgeSource 194).shadowStep d.sb else s
      let s := s.thermShow d.sb
      let s := s.presentChans.foldl (fun s c => s.limitTemp c (s.tProt c)) s
      let g := s.stageDigest d
      let s := s.setTdm (fun t => { t with ownDigest := g })
      let s := if s.mode.runsString then s.sendFrame 0x03 g else s
      let s := (s.installWaiting d.sb).answerChannels d.sb
      .next (s.compareStage.queueStep (s.stepRec d)).trialOut

end Sys2Proof.Machine
end

