-- ==== Sys2Proof/Machine/Forecast.lean ====
section
/-! DEFINITION. Power forecasts (R69, R171, R172) and the dispatch clamp's limits (R174). -/

namespace Sys2Proof.Machine

open Sys2Proof

/-- A scalar backward Euler step of dx/dt = b − a x. -/
def beScalar (h a b x : Rat) : Rat := divR 60 (x + h * b) (1 + h * a)

/-- The thermal pair's backward Euler step (R171). -/
def beTherm (p : PSet) (d : Drive) (h pg tc ts : Rat) : List Rat :=
  let k := quo 1 p.rCs
  backwardEuler h [[-(quo k p.cC), quo k p.cC], [quo k p.cS, -(quo (k + d.gEnv) p.cS)]]
    [tc + quo (h * pg) p.cC, ts + quo (h * d.gEnv * d.tEnv) p.cS]

/-- One backward Euler step of physical states, its nonlinear terms taken at the start (R171). -/
def beStep (p : PSet) (d : Drive) (h : Rat) (x : List Rat) : List Rat :=
  let y := valueOf (terminal p d x)
  let tc := x.getD p.iTc 0
  let therm := beTherm p d h (valueOf (pGen p d x y tc)) tc (x.getD p.iTs 0)
  let hy := beScalar h (p.gamH * absR d.i) (p.gamH * absR d.i * p.hMax * sgnR d.i) (x.getD p.iH 0)
  if p.isC12 then
    let ds := divR 60 (d.i - y.isc) (d.cap * (36 / 10) * x.getD 10 0)
    let rc := fun k => beScalar h (quo 1 (p.ks 16 (37 + k))) (quo (d.i * p.ks 16 (34 + k) * x.getD 9 0) (p.ks 16 (37 + k))) (x.getD k 0)
    [x.getD 0 0 + h * ds, rc 1, rc 2, rc 3, beScalar h (quo 1 (p.ks 16 41)) ds (x.getD 4 0)] ++ therm ++ [hy] ++ x.drop 8
  else
    let shells := fun (neg : Bool) =>
      let th := (x.drop (if neg then 0 else 16)).take 16
      let k := diffusion p tc neg
      let th := th.take 15 ++ [th.getD 15 0 + h * surfaceFlux p d y neg]
      backwardEuler h ((if neg then p.lshN else p.lshP).map (vscale k)) th
    shells true ++ shells false ++
    backwardEuler h p.elyM (vadd ((x.drop 32).take 4) (vscale (h * (d.i - y.isc)) p.elyV)) ++
    therm ++ [hy, x.getD 39 0 + h * p.ks 16 25 * y.ipl]

/-- States written back in Q2.62 (R129). -/
def PSet.settle (p : PSet) (x : List Rat) : List Rat := p.phys (valueOf ((p.norm x).mapM wbMean))

/-- The 40 step ends of a trajectory of length h at constant current. -/
def trajectory (p : PSet) (d : Drive) (h : Rat) : Nat → List Rat → List (List Rat)
  | 0, _ => []
  | k + 1, x => let x' := p.settle (beStep p d (h / 40) x); x' :: trajectory p d h k x'

/-- The horizons of R171 in s. -/
def horizons : List Rat := [10, 60, 900]

/-- What a channel's forecast starts from and must respect. -/
structure FcChan where
  ch : Nat
  p : PSet
  x : List Rat
  drive : Drive
  vLo : Rat
  vHi : Rat
  tHi : Rat
  /-- SOC_dis or SOC_chg minus the filter SOC. -/
  shift : Rat × Rat
  sLo : Rat
  sHi : Rat
  deriving DecidableEq, Repr

/-- The lowest terminal voltage of a trajectory at a current in mA, and whether it is feasible (R171). -/
def FcChan.run (f : FcChan) (chg : Bool) (h : Rat) (ma : Nat) : Rat × Bool :=
  let i : Rat := (if chg then (ma : Rat) else -(ma : Rat)) / 1000
  let d := { f.drive with i := i }
  let xs := trajectory f.p d h 40 f.x
  let vs := xs.map (fun x => (valueOf (terminal f.p d x)).v)
  let ok := (List.zip xs vs).all (fun (x, v) =>
    let soc := f.p.socOf x + (if chg then f.shift.2 else f.shift.1)
    f.vLo ≤ v && v ≤ f.vHi && x.getD f.p.iTc 0 ≤ f.tHi && f.sLo ≤ soc && soc ≤ f.sHi)
  ((vs.drop 1).foldl ratMin (vs.headD 0), ok)

/-- The grid search of R171: `k` halvings of the interval lo to hi. -/
def gridSearch (ok : Nat → Bool) (m : Nat) : Nat → Nat → Nat → Nat
  | 0, lo, _ => lo
  | k + 1, lo, hi =>
    let mid := (lo + hi) / 2
    if ok (mid * m / 4096) then gridSearch ok m k mid hi else gridSearch ok m k lo mid

/-- I* in mA (R171). -/
def iStar (ok : Nat → Bool) (m : Nat) : Nat := if ok m then m else gridSearch ok m 12 0 4096 * m / 4096

/-- The start of a channel's forecast: the mean of its most probable hypothesis, the lowest index on ties. All it
takes from the estimator is as the step of stage 100F + 99 left it (R69). -/
def State.fcStart (s : State) (c : Nat) : FcChan :=
  let v := sget {} s.est.fcChan c
  let p := s.pset (s.feSet (chanFe c))
  let j := (argMax ((List.range 4).filter (fun j => (s.feMask (chanFe c)).testBit j)) (fun j => ((v.hyps.getD j {}).mu : Int))).1
  let env := sget (1, p.tRef) s.est.fcEnv c
  let l := s.limPart c
  let vm : Rat := (s.rdf .est R.EST.FCMARGIN 15 0 : Rat) / 1000
  let tm : Rat := (s.rdf .est R.EST.FCMARGIN 31 16 : Rat) / 64
  let (pair, cap) := sget ((0, 0), 0) s.est.fcPair c
  { ch := c, p := p, x := p.phys ((v.hyps.getD j {}).x.map (qv 62)), drive := ⟨0, cap, j, env.1, env.2, 0⟩,
    vLo := (l.vlAlm : Rat) / 100000 + vm, vHi := (l.vhAlm : Rat) / 100000 - vm, tHi := kelvin l.thAlm - tm,
    shift := (pair.1 - v.soc, pair.2 - v.soc),
    sLo := qv 16 (s.rdf .est R.EST.SOCWIN 15 0 : Nat), sHi := qv 16 (s.rdf .est R.EST.SOCWIN 31 16 : Nat) }

/-- FORECAST_BOUNDARY (R171): at the end of a forecast period the search starts for it. -/
def execForecastBoundary (s : State) : Host.Outcome State Fault Refusal :=
  if s.running .est && s.mt % 1000000000 = 0 && 0 < s.mt then
    .next { s with est := { s.est with fcRun := some (s.mt / 1000000000 - 1) } }
  else .next s

/-- One direction and horizon over the valid channels: each channel's capability in mW, and the string's in W (R171,
R172). -/
def forecastOne (fs : List FcChan) (m : Nat) (chg : Bool) (h : Rat) : List (Nat × Nat) × Nat :=
  let is := fs.map (fun f => (f, iStar (fun ma => (f.run chg h ma).2) m))
  let per := is.map (fun (f, i) => (f.ch, ((i : Rat) * (f.run chg h i).1).floor.toNat))
  match is with
  | [] => ([], 0)
  | (_, i0) :: t =>
    let low := t.foldl (fun (a : Nat) (x : FcChan × Nat) => min a x.2) i0
    (per, ((low : Rat) / 1000 * rsum (fs.map (fun f => (f.run chg h low).1))).floor.toNat)

/-- FORECAST_PUBLISHED (R69, R172): the capabilities of the period take the place of the last ones. -/
def execForecastPublished (dt : Nat) (s : State) : Host.Outcome State Fault Refusal :=
  let s := s.elapse dt
  match s.est.fcRun, s.est.fcStage with
  | some f, some st =>
    if !s.running .est || st != 100 * f + 99 then .next s
    else
      let cs := s.presentChans.filter (fun c => (sget {} s.est.fcChan c).live)
      let fs := cs.map s.fcStart
      let one := fun (chg : Bool) (h : Rat) =>
        forecastOne fs (s.rdn .est (if chg then R.EST.IMAX_CHG else R.EST.IMAX_DIS)) chg h
      let rs : List (List (Nat × Nat) × Nat) := (horizons.map (one true)) ++ (horizons.map (one false))
      let s := cs.foldl (fun s c => s.modChan c (fun v =>
        { v with fcPeriod := f, pcap := rs.map (fun r => ((r.1.find? (fun e => e.1 = c)).map (·.2)).getD 0 % 2 ^ 32) })) s
      let ws : List Nat := rs.map Prod.snd
      let s := { s with est := { s.est with fcRun := none, fcDone := true, pcap := ws } }
      .next ((s.showPcap.wr64 .est R.EST.FC_LO R.EST.FC_HI f).edgeSource 195)
  | _, _ => .next s

/-! ### The dispatch clamp (R174) -/

/-- V_s in mV: the latest valid MOD2 tick sample, else the sum of the latest VMEAN codes; none when there is no usable
one. -/
def State.stringMv (s : State) : Option Rat :=
  if !s.inputInvalid 2 && s.modEn 2 then
    match (s.modIn 2).tsmp with
    | some (_, y) => let v := s.sampleMv 2 y; if v ≤ 0 then none else some v
    | none => none
  else
    let cs := s.presentChans.filter (fun c => s.recField c 0x38 4 / 2 ^ 20 != 0)
    if cs = [] then none
    else
      let v : Nat := (cs.map (fun c => s.recField c 0x38 4 % 2 ^ 20)).foldl (· + ·) 0
      if v = 0 then none else some ((v : Rat) / 100)

/-- The three terms of each direction's limit in mA (R174): capability, IMAX, protection. -/
def State.limTerms (s : State) (chg : Bool) : List Nat :=
  let cap := match s.stringMv with
    | some v => ((s.rdn .est (R.EST.PCAP (if chg then 0 else 3)) : Rat) * 1000000 / v).floor.toNat
    | none => 0
  let pr := s.stringLimits
  [cap, s.rdn .est (if chg then R.EST.IMAX_CHG else R.EST.IMAX_DIS), if chg then pr.1 else pr.2]

/-- I_chg_lim or I_dis_lim (R174), and the DCLAMP bits of the terms equal to it (R175). While EST is not RUNNING it is
0, and no term sets it (log entry 95). -/
def State.dispLimit (s : State) (chg : Bool) : Nat × Nat :=
  if !s.running .est then (0, 0)
  else
    let l := s.limTerms chg
    let m := (l.drop 1).foldl min (l.headD 0)
    (m, bitsOf (fun k => k % 2 = b2n (!chg) && l.getD (k / 2) 0 = m) 6)

/-- The limits are computed and shown at a tick: new capabilities bind from the first tick after their publication
(R160, R175), where R68 would have dispatch limits wait for stage S + 2 (log entry 96). -/
def State.clampTick (s : State) : State :=
  let (up, bu) := s.dispLimit true
  let (dn, bd) := s.dispLimit false
  let s := { s with est := { s.est with limUp := bu, limDn := bd } }
  (s.wrn .est R.EST.ILIM_CHG up).wrn .est R.EST.ILIM_DIS dn

/-- The clamp on a string set-point in mA (R175): the clamped value, and the DCLAMP bits of the limit that binds, if
one does. -/
def State.clampMa (s : State) (x : Int) : Int × Option Nat :=
  let up := s.rdn .est R.EST.ILIM_CHG
  let dn := s.rdn .est R.EST.ILIM_DIS
  if (up : Int) < x then (up, some s.est.limUp)
  else if x < -(dn : Int) then (-(dn : Int), some s.est.limDn)
  else (x, none)

/-- The start or end of a clamp episode, and the bits of the limits that bind (R175). -/
def State.clampShow (s : State) (on : Bool) (bits : Nat) : State :=
  let s := s.wrf .est R.EST.DCLAMP 5 0 bits
  if on = s.est.clampOn then s
  else
    let s := { s with est := { s.est with clampOn := on } }
    let s := if on then (s.inc .est R.EST.DCLAMPS).wrb .est R.EST.AEVT 10 true else s
    s.wayEntry 0x0B (leBytes 8 s.tick ++ leBytes 4 (s.rdn .est R.EST.DCLAMP))

end Sys2Proof.Machine
end

