-- ==== Sys2Proof/Machine/Loop.lean ====
section
/-! DEFINITION. The control engine: samples, notch, ramp, laws, plausibility, state images (R216 to R221, R225, R226,
R228, R233). -/

namespace Sys2Proof.Machine

open Sys2Proof

/-- A Q8.40 write-back of an exact value given in units of 2⁻⁴⁰ (R218). -/
def q840 (x : Rat) : Sat Int := do
  let r := roundAway x
  let c := satS 48 r
  marked (c != r) false
  pure c

/-- A Q8.40 content rounded to Q1.23 and saturated. -/
def q123 (x : Int) : Int := satS 24 (roundAway ((x : Rat) / 131072))

/-! ### Configuration -/

/-- The slot's sample interval Ts in s (R216). -/
def State.slotTs (s : State) (n : Nat) : Rat :=
  let div : Rat := s.rdf (loopPage n) R.LOOP.SRC 31 16
  match s.srcKind n, s.srcInputs n with
  | 0, i :: _ => div * (s.cosr i : Nat) / 20000000
  | 1, i :: _ => div * (s.cosr i : Nat) / 20000000
  | _, _ => div / 2000

/-- The floor of log₂ of a positive fraction, or one less. -/
def log2Low (x : Rat) : Int := (Nat.log2 x.num.natAbs : Int) - (Nat.log2 x.den : Int) - 1

/-- A value held with a 53-bit significand, rounded to nearest with ties to even (R220, log entry 100). -/
def sig53 (x : Rat) : Rat :=
  if x = 0 then 0
  else
    let e := log2Low x
    let scale := fun (k : Int) => if 0 ≤ k then ((2 ^ k.toNat : Nat) : Rat) else 1 / ((2 ^ (-k).toNat : Nat) : Rat)
    let e := if absR x < scale (e + 1) then e else e + 1
    let m := absR x * scale (52 - e)
    let f := m.floor
    let r := m - (f : Rat)
    let n := if r * 2 < 1 then f else if 1 < r * 2 then f + 1 else f + f % 2
    (if x < 0 then -1 else 1) * ((n : Rat) * scale (e - 52))

/-- A limit rounded to nearest in Q8.40, at least 1 LSB where it is not zero (R226). -/
def rampLimit (setting : Nat) (x : Rat) : Nat :=
  if setting = 0 then 0 else max 1 (roundAway (x * ((2 ^ 40 : Nat) : Rat))).toNat

/-- The notch coefficients n0, n1, n2, m1, m2 as Q2.30 contents (R220); none where the block start fails. -/
def State.notchCoefs (s : State) (n : Nat) : Option (List Int) :=
  let p := loopPage n
  let f0 : Rat := qv 12 (s.rdn p R.LOOP.NOTCH_F0 : Nat)
  let w : Rat := qv 4 (s.rdf p R.LOOP.NOTCH 31 16 : Nat)
  let g : Rat := qv 16 (s.rdf p R.LOOP.NOTCH 15 0 : Nat)
  let ts := s.slotTs n
  if f0 = 0 || w = 0 || 1 ≤ 2 * f0 * ts then none
  else
    let k := sig53 (Config.tanPi (sig53 (f0 * ts)))
    let kq := sig53 (sig53 (k * w) / f0)
    let kk := sig53 (k * k)
    let gkq := sig53 (g * kq)
    let a0 := sig53 (sig53 (1 + kq) + kk)
    let byA0 := fun (q : Rat) => sig53 (q / a0)
    let n1 := byA0 (2 * sig53 (kk - 1))
    let cs := [byA0 (sig53 (sig53 (1 + gkq) + kk)), n1, byA0 (sig53 (sig53 (1 - gkq) + kk)), n1,
      byA0 (sig53 (sig53 (1 - kq) + kk))].map
      (fun (q : Rat) => roundAway (q * ((2 ^ 30 : Nat) : Rat)))
    if cs.all (fun c => satS 32 c = c) then some cs else none

/-- A LOOP page's configuration allows its block start (R216, R218, R220, R225, R228). -/
def State.loopStartOk (s : State) (n : Nat) : Bool :=
  let p := loopPage n
  let kind := s.srcKind n
  let ins := s.srcInputs n
  let ts := s.slotTs n
  let law := s.rdf p R.LOOP.LAW 1 0
  let okind := s.rdf p R.LOOP.OUT 1 0
  let spk := s.rdf p R.LOOP.SPSRC 2 0
  let kf := s.rdi p (R.LOOP.K 3)
  kind ≤ 4 && s.rdf p R.LOOP.SRC 31 16 != 0 && ins.all (· < 12) &&
  decide (1 ≤ 312500 * ts) && decide (ts * 10 ≤ 1) &&
  (kind != 1 || (ins != [] && ins.all (fun i => s.rdf .mod (R.MOD.IN_CFG i) 23 16 = s.rdf .mod (R.MOD.IN_CFG (ins.headD 0)) 23 16 &&
    s.rdf .mod (R.MOD.IN_CFG i) 10 8 = s.rdf .mod (R.MOD.IN_CFG (ins.headD 0)) 10 8))) &&
  (kind != 4 || law = 3) && (law != 0 || (decide (0 ≤ kf) && decide (kf < 2 ^ 24))) &&
  decide (s.rdi p R.LOOP.UMIN < s.rdi p R.LOOP.UMAX) &&
  (!s.rdb p R.LOOP.LAW 4 || (s.notchCoefs n).isSome) &&
  okind != 3 && !(okind = 2 && s.rdf p R.LOOP.OUT 6 4 = n) && !(okind = 1 && s.rdi p R.LOOP.UMIN < 0) &&
  spk ≤ 5 && !(spk = 5 && (kind = 3 || kind = 4 || ins.any (fun i => i = 2 || i = 3))) &&
  s.rdf p R.LOOP.PLAUS 23 16 != 0 && !(s.rdb p R.LOOP.PLAUS 31 && s.rdn p R.LOOP.PLAUS_L = 0)

/-- What a LOOP page derives at its enable: the ramp limits and the notch coefficients (R220, R226). -/
def State.loopStart (s : State) (n : Nat) : State :=
  let p := loopPage n
  let ts := s.slotTs n
  let rate := s.rdn p R.LOOP.RAMP_RATE
  let acc := s.rdn p R.LOOP.RAMP_ACC
  let s := s.setSlot n { s.slot n with
    rs := rampLimit rate (qv 24 (rate : Nat) * ts)
    ra := rampLimit acc (qv 16 (acc : Nat) * ts * ts) }
  if s.rdb p R.LOOP.LAW 4 then
    match s.notchCoefs n with
    | some cs => (List.zip (List.range 5) cs).foldl (fun s (k, c) => s.wri p (R.LOOP.NB0 + 4 * k) c) s
    | none => s
  else s

/-! ### The dispatch target (R225) -/

/-- The dispatch slot: the lowest RUNNING slot with set-point source 5. -/
def State.dispatchSlot (s : State) : Option Nat :=
  (List.range 8).find? (fun n => s.running (loopPage n) && s.rdf (loopPage n) R.LOOP.SPSRC 2 0 = 5)

/-- mA in the unit of a slot: mA × 50 / SCALE (R225). -/
def State.toPu (s : State) (n : Nat) (ma : Int) : Rat :=
  let sc := s.rdi .mod (R.MOD.IN_SCALE ((s.srcInputs n).headD 0))
  if sc = 0 then Config.divByZero (ma : Rat) else (ma : Rat) * 50 / (sc : Rat) * ((2 ^ 40 : Nat) : Rat)

/-- Saturations of a slot are counted and flagged (R218). -/
def State.countSats (s : State) (n k : Nat) : State :=
  if k = 0 then s else (s.incBy (loopPage n) R.LOOP.SATS k).flag (loopPage n) 10

/-- The clamp as it acts on the target and on the ramp's output. -/
def State.clampNow (s : State) : State :=
  s.clampShow (s.loops.clampT || s.loops.clampR) (s.loops.bindT ||| s.loops.bindR)

/-- At a tick the dispatch target is clamped and converted for its slot (R175, R225). -/
def State.dispatchTick (s : State) : State :=
  let raw : Int :=
    if !s.loops.dispOn then 0
    else if s.rdb .spt R.SPT.DISP_CFG 0 then (s.stream (s.rdf .spt R.SPT.DISP_CFG 6 4)).eff
    else s.rdi .spt R.SPT.DISP_SP
  let (x, b) := s.clampMa raw
  let s := { s with loops := { s.loops with disp := x, clampT := b.isSome, bindT := b.getD 0 } }
  let s := (s.wri .spt R.SPT.DISP_OUT x).clampNow
  match s.dispatchSlot with
  | some n =>
    let (t, m) := (q840 (s.toPu n x)).run {}
    (s.setSlot n { s.slot n with disp := t }).countSats n m.sats
  | none => s

/-! ### Targets (R221) -/

/-- U of a slot as a job that issues at MT `t` reads it: the output of its latest job that has completed by then (R217). -/
def State.outputAt (s : State) (k t : Nat) : Int :=
  if (s.slot k).done ≤ t then s.rdi (loopPage k) R.LOOP.U else (s.slot k).uWas

/-- MT at which the engine issues its next job: one every 20 ns (R217). -/
def State.nextIssue (s : State) : Nat := max s.mt (s.loops.issued + 20)

/-- The slot's target as a Q8.40 value before saturation, and whether its source serves it. -/
def State.target (s : State) (n : Nat) : Int × Bool :=
  let p := loopPage n
  let k := s.rdf p R.LOOP.SPSRC 6 4
  match s.rdf p R.LOOP.SPSRC 2 0 with
  | 0 => (s.rdi p R.LOOP.SP_HOST * 2 ^ 17, true)
  | 1 => ((s.stream k).eff * 2 ^ 17, true)
  | 2 => ((sget {} s.loops.spin k).eff * 2 ^ 17, true)
  | 3 =>
    if s.rdf (loopPage k) R.LOOP.OUT 1 0 = 2 && s.rdf (loopPage k) R.LOOP.OUT 6 4 = n then
      (s.outputAt k s.nextIssue * 2 ^ 17, true)
    else (0, false)
  | 4 =>
    let z := k % 4
    if s.rdb .cth (R.CTH.ZONE_OUT z) 3 && s.rdf .cth (R.CTH.ZONE_OUT z) 2 0 = n then
      ((sget 0 s.loops.dem z : Nat) * 2 ^ 24, true)
    else (0, false)
  | 5 => if s.dispatchSlot = some n then ((s.slot n).disp, true) else (0, false)
  | _ => (0, false)

/-! ### The ramp (R226) -/

/-- The largest k with a k (k + 1) / 2 ≤ d. -/
def rampSteps (a d : Nat) : Nat := (isqrt (8 * d / a + 1) - 1) / 2

/-- One sample of the ramp from position p and rate v to target r: the new position and rate, and whether the arrival
exceeded the acceleration limit. -/
def ramp (rs ra : Nat) (r p v : Int) : Int × Int × Bool :=
  if rs = 0 then (r, 0, false)
  else
    let d := r - p
    if d = 0 && v = 0 then (p, v, false)
    else
      let sg := Int.sign d
      let w :=
        if ra = 0 then sg * min (rs : Int) d.natAbs
        else if v * sg < 0 then v + sg * min (ra : Int) v.natAbs
        else
          let vmax := min rs (ra * rampSteps ra d.natAbs)
          sg * (if v.natAbs < vmax then min (v.natAbs + ra) vmax else max (v.natAbs - ra) vmax : Nat)
      if (r - (p + w)) * sg ≤ 0 then (r, 0, ra != 0 && decide (ra < v.natAbs)) else (p + w, w, false)

/-! ### Laws (R219) -/

/-- What a law's sample leaves: the slot, u and whether integration froze. -/
structure LawOut where
  v : SlotSt
  u : Int
  frozen : Bool
  deriving DecidableEq, Repr

/-- Filtered-derivative PID. Products of a Q8.24 coefficient and a Q8.40 signal stand in units of 2⁻⁶⁴. -/
def lawPid (k : Nat → Int) (umin umax : Int) (v : SlotSt) (e : Int) : Sat LawOut := do
  let dx := k 3 * v.d + k 2 * (e - v.e1)
  let d ← q840 ((dx : Rat) / 2 ^ 24)
  let ki := k 1 * e
  let ic ← q840 ((v.i * 2 ^ 24 + ki : Int) / (2 ^ 24 : Nat) : Rat)
  let uc ← q840 ((k 0 * e + v.i * 2 ^ 24 + ki + dx : Int) / (2 ^ 24 : Nat) : Rat)
  let hold := (decide (umax < uc) && decide (0 < ki)) || (decide (uc < umin) && decide (ki < 0))
  let ic := if hold then v.i else ic
  let uc ← if hold then q840 ((k 0 * e + v.i * 2 ^ 24 + dx : Int) / (2 ^ 24 : Nat) : Rat) else pure uc
  pure { v := { v with i := clampI umin umax ic, d := d, e1 := e }, u := clampI umin umax uc, frozen := hold }

/-- 2p2z and 3p3z: m is 2 or 3. -/
def lawIir (m : Nat) (k : Nat → Int) (umin umax : Int) (v : SlotSt) (e : Int) : Sat LawOut := do
  let b := (List.range (m + 1)).map k
  let a := (List.range m).map (fun j => k (4 + j))
  let num := (List.zipWith (· * ·) b (e :: v.eh)).foldl (· + ·) 0
  let den := (List.zipWith (· * ·) a v.uh).foldl (· + ·) 0
  let uc ← q840 ((num + den : Int) / (2 ^ 24 : Nat) : Rat)
  let u := clampI umin umax uc
  let last := v.uh.headD 0
  if (umax < uc && last < uc) || (uc < umin && uc < last) then pure { v := v, u := u, frozen := true }
  else pure { v := { v with eh := (e :: v.eh).take 3, uh := (u :: v.uh).take 3 }, u := u, frozen := false }

/-- The measurement notch (R220). -/
def notch (c : List Int) (z : List Int) (y : Int) : Sat (Int × List Int) := do
  let x := c.getD 0 0 * y + c.getD 1 0 * z.getD 0 0 + c.getD 2 0 * z.getD 1 0 - c.getD 3 0 * z.getD 2 0 -
    c.getD 4 0 * z.getD 3 0
  let o ← q840 ((x : Rat) / ((2 ^ 30 : Nat) : Rat))
  pure (o, [y, z.getD 0 0, o, z.getD 2 0])

/-! ### A sample -/

/-- The slot's source sample as a Q8.40 content (R216). -/
def State.sourceSample (s : State) (n : Nat) : Int :=
  let one := fun (i : Nat) => (s.control i).getD 0
  match s.srcKind n with
  | 0 => one ((s.srcInputs n).headD 0) * 2 ^ 17
  | 1 => satS 24 ((s.srcInputs n).foldl (fun a i => a + one i) 0) * 2 ^ 17
  | 2 => satS 24 (roundAway (qv 8 ((s.tickSample ((s.srcInputs n).headD 0)).getD 0))) * 2 ^ 17
  | 3 => s.rdi (loopPage n) R.LOOP.MEAS * 2 ^ 17
  | _ => 0

/-- The slot samples control outputs, not tick samples (R216). -/
def State.fromControl (s : State) (n : Nat) : Bool := s.srcKind n ≤ 1 && s.srcInputs n != []

/-- The number of the sample: the index j of the control output, or the tick that has ended (R216). -/
def State.sampleNumber (s : State) (n : Nat) : Nat :=
  if s.fromControl n then s.controlIndex ((s.srcInputs n).headD 0) else s.tick - 1

/-- MT at which the sample's window ends, and how long after it the sample may come: a control output within t_ctl_smp
of its last bit, a tick's within t_stage_smp (R116, R120), and a job waits for those before it. -/
def State.sampleEnd (s : State) (n : Nat) : Nat :=
  if s.fromControl n then 50 * s.controlEnd ((s.srcInputs n).headD 0) else s.tick * 500000
def State.sampleLate (s : State) (n : Nat) : Nat := if s.fromControl n then 300 else 1300

/-- Is the sample one of the slot's stream (R216), new, and in the order of R217? Of samples of one cycle a lower
slot's comes first (log entry 101). -/
def State.sampleDue (s : State) (n : Nat) : Bool :=
  let e := s.sampleEnd n
  s.sampleNumber n % s.rdf (loopPage n) R.LOOP.SRC 31 16 = 0 && decide (s.mt ≤ e + s.sampleLate n) &&
  decide ((s.slot n).ended < e) &&
  !(decide (n < s.loops.issuedSlot) && (s.slot s.loops.issuedSlot).ended = e && s.loops.issuedTick != s.fromControl n)

/-- The plausibility check of a sample (R228). -/
def State.plausible (s : State) (n : Nat) : State :=
  let p := loopPage n
  let inp := (s.srcInputs n).headD 0
  match s.slotPair n with
  | none => s
  | some m =>
    if !s.rdb p R.LOOP.PLAUS 31 || s.srcKind n != 0 || inp = 2 || inp = 3 then s
    else
      let v := s.slot n
      let now := match s.control inp, s.control 3, s.control 2 with
        | some i, some b, some t => some (i, b, t, (s.pair m).ton)
        | _, _, _ => none
      let amps := fun (y : Int) => qv 23 y * (s.rdi .mod (R.MOD.IN_SCALE inp) : Rat) / 50000
      let volts := fun (k : Nat) (y : Int) => qv 23 y * (s.rdi .mod (R.MOD.IN_SCALE k) : Rat) / 1000
      match now, v.prev with
      | some (i, _, _, _), some (i1, b1, t1, ton1) =>
        if !(s.pair m).live then s.setSlot n { v with prev := now }
        else
          let l : Rat := (s.rdn p R.LOOP.PLAUS_L : Rat) / 1000000000
          let rl : Rat := (s.rdn p R.LOOP.PLAUS_R : Rat) / 1000000
          let delta : Rat := if s.pairPer m = 0 then 0 else (ton1 : Rat) / (s.pairPer m : Rat)
          let pred := amps i1 + s.slotTs n / l * (delta * volts 3 b1 - volts 2 t1 - rl * amps i1)
          let res := satS 64 (roundAway ((amps i - pred) * ((2 ^ 32 : Nat) : Rat)))
          let bound : Rat := (s.rdf p R.LOOP.PLAUS 15 0 : Rat) / 100
          let ovr := decide (bound < qv 32 res) || decide (qv 32 res < -bound)
          let pc := if ovr then min (v.pcount + 1) 65535 else 0
          let impl := if pc = 0 then false else v.impl || decide (s.rdf p R.LOOP.PLAUS 23 16 ≤ pc)
          let held := match v.held with
            | h :: r => { h with ovr := some ovr } :: r
            | [] => []
          let s := s.setSlot n { v with prev := now, pcount := pc, impl := impl, held := held }
          let s := ((s.wri p R.LOOP.RESID (satS 32 (roundAway (qv 32 res * 1000)))).wrf p R.LOOP.STAT 31 16 pc).wrb p
            R.LOOP.STAT 6 impl
          let s := if impl && !v.impl then (s.flag p 8).inc p R.LOOP.IMPLS else s
          s.setSource 60 (s.loops.slots.any (fun e => e.2.impl))
      | _, _ => s.setSlot n { v with prev := now }

/-- The clamp on the ramp's output of the dispatch slot (R175): position, rate, and the bits of the limit that acts,
if one does. -/
def State.clampRamp (s : State) (n : Nat) (p v : Int) : Int × Int × Option Nat :=
  if s.dispatchSlot != some n then (p, v, none)
  else
    let sc : Rat := s.rdi .mod (R.MOD.IN_SCALE ((s.srcInputs n).headD 0))
    let ma := qv 40 p * sc / 50
    let (c, bits) := s.clampMa (if 0 ≤ ma then ma.ceil else ma.floor)
    if bits.isNone then (p, v, none) else (satS 48 (roundAway (s.toPu n c)), 0, bits)

/-- What a sample leaves: the slot, its measurement, target and output, whether integration froze, whether the ramp
snapped, the saturations, and the bits of the limit that clamped the ramp. -/
structure SlotStep where
  v : SlotSt
  y : Int
  t : Int
  frozen : Bool
  snap : Bool
  sats : Nat
  bits : Option Nat
  deriving DecidableEq, Repr

/-- The steps of R219 on a slot's state, its source sample and its target. -/
def State.slotStep (s : State) (n : Nat) (v : SlotSt) (raw tgt : Int) : SlotStep :=
  let p := loopPage n
  let nz := if v.fresh then [raw, raw, raw, raw] else v.nz
  let coefs := (List.range 5).map (fun k => s.rdi p (R.LOOP.NB0 + 4 * k))
  let umin := s.rdi p R.LOOP.UMIN * 2 ^ 17
  let umax := s.rdi p R.LOOP.UMAX * 2 ^ 17
  let k := fun (j : Nat) => s.rdi p (R.LOOP.K j)
  let job : Sat (Int × List Int × Int) := do
    let raw ← q840 (raw : Rat)
    let (y, nz) ← if s.rdb p R.LOOP.LAW 4 then notch coefs nz raw else pure (raw, nz)
    let t ← q840 (tgt : Rat)
    pure (y, nz, t)
  let ((y, nz, t), m) := job.run {}
  let p0 := if v.fresh then (if s.srcKind n = 4 then s.slotInit n else y) else v.p
  let v0 := if v.fresh then 0 else v.v
  let (rp, rv, snap) := ramp v.rs v.ra t p0 v0
  let (rp, rv, bits) := s.clampRamp n rp rv
  let v := { v with fresh := false, nz := nz, p := rp, v := rv }
  let law : Sat LawOut := do
    let e ← q840 ((rp - y : Int) : Rat)
    match s.rdf p R.LOOP.LAW 1 0 with
    | 0 => lawPid k umin umax v e
    | 1 => lawIir 2 k umin umax v e
    | 2 => lawIir 3 k umin umax v e
    | _ => pure { v := v, u := clampI umin umax rp, frozen := false }
  let (o, m) := law.run m
  { v := { o.v with u := o.u }, y := y, t := t, frozen := o.frozen, snap := snap, sats := m.sats, bits := bits }

/-- The registers of a slot after a sample, and its duty, which stands in the shadow register of its pair from MT `t` on
(R217). -/
def State.slotShow (s : State) (n t : Nat) (o : SlotStep) : State :=
  let p := loopPage n
  let v := o.v
  let s := ((s.wrb p R.LOOP.STAT 5 o.frozen).wrb p R.LOOP.STAT 4 (v.u = s.rdi p R.LOOP.UMIN * 2 ^ 17)).wrb p R.LOOP.STAT 3
    (v.u = s.rdi p R.LOOP.UMAX * 2 ^ 17)
  let s := ((s.wrn p R.LOOP.SMP v.smp).wri p R.LOOP.TARGET (q123 o.t)).wri p R.LOOP.RAMP (q123 v.p)
  let s := (s.wri p R.LOOP.Y (q123 o.y)).wri p R.LOOP.U (q123 v.u)
  match s.slotPair n with
  | some m =>
    if s.rdb .pwm (R.PWM.PAIR_CFG m) 5 || (s.pair m).forced then s
    else s.setPair m { s.pair m with shadow := some (s.onTime m (qv 23 (q123 v.u)), t) }
  | none => s

/-- A sample joins those the slot has held for 2 ms. -/
def SlotSt.hold (v : SlotSt) (mt : Nat) (h : HeldSample) : SlotSt :=
  let recent := v.held.takeWhile (fun (x : HeldSample) => decide (mt - x.mt < 2000000))
  { v with smp := h.smp, held := h :: recent }

/-- A job issues for a sample whose window ended at MT `e`: the state image before the first sample of a millisecond is kept
(R233), and the job completes 100 ns later (R217). -/
def State.issueJob (s : State) (n e : Nat) : State :=
  let v := s.slot n
  let ms := e / 1000000 * 1000000
  let t := s.nextIssue
  let s := s.setSlot n { v with
    ended := e
    done := t + 100
    uWas := s.rdi (loopPage n) R.LOOP.U
    img := if v.ended < ms then some (ms, v.smp, s.slotImage n) else v.img }
  { s with loops := { s.loops with issued := t, issuedSlot := n, issuedTick := !s.fromControl n } }

/-- A sample of a slot in RUN (R219). -/
def State.sampleRun (s : State) (n : Nat) : State :=
  let p := loopPage n
  let raw := s.sourceSample n
  let (tgt, served) := s.target n
  let s := s.issueJob n (s.sampleEnd n)
  let o := s.slotStep n (s.slot n) raw tgt
  let smp := s.sampleNumber n
  let o := { o with v := o.v.hold s.mt ⟨smp, s.mt, raw, tgt, none⟩ }
  let s := (s.setSlot n o.v).countSats n o.sats
  let s := if o.snap then (s.flag p 11).inc p R.LOOP.SNAPS else s
  let s := if served then s else s.flag p 13
  let s := s.slotShow n (s.slot n).done o
  if s.dispatchSlot = some n then
    { s with loops := { s.loops with clampR := o.bits.isSome, bindR := o.bits.getD 0 } }.clampNow
  else s

/-- The plausibility count as a held sample's check left it. -/
def HeldSample.count (h : HeldSample) (v : SlotSt) : SlotSt :=
  match h.ovr with
  | some true => { v with pcount := min (v.pcount + 1) 65535 }
  | some false => { v with pcount := 0 }
  | none => v

/-- Held samples run in order on a slot's state; the latest step stands last. -/
def State.rerun (s : State) (n : Nat) : List HeldSample → SlotSt × Option SlotStep → SlotSt × Option SlotStep
  | [], r => r
  | h :: t, (v, _) =>
    let o := s.slotStep n v h.raw h.tgt
    let v := h.count o.v
    s.rerun n t (v, some { o with v := v })

/-- A repaired slot runs again on its held samples after the one its image covers (R287). -/
def State.slotRerun (s : State) (n covered : Nat) (v : SlotSt) : State :=
  let (v, o) := s.rerun n (v.held.filter (fun h => covered < h.smp)).reverse (v, none)
  let s := s.setSlot n v
  match o with
  | some o => s.slotShow n s.mt o
  | none => s

/-- The latest control output of an input is registered, once, from the bits of its window (R116, R117). -/
def State.controlOutput (s : State) (i : Nat) (w : BitWindow) : State :=
  let b := s.controlEnd i - 1
  if !s.running .mod || !s.modEn i || b ≤ (s.modIn i).ctlBit then s
  else
    let y := s.controlOut i (sinc3Sum w (s.cosr i))
    ((s.wri .mod (R.MOD.CSMP i) y).burstPush i b (satS 16 (roundAway (qv 8 y)))).setModIn i { s.modIn i with
      csmp := if s.supported i b (3 * s.cosr i) then some y else none
      ctlBit := b }

def State.takeControl (s : State) (x : ControlInputs) : State :=
  ((List.range 12).zip x.windows).foldl (fun s e => s.controlOutput e.1 e.2) s

/-- CONTROL_SAMPLE (R216, R217, R219): the job of a slot runs on its sample. -/
def execControlSample (dt : Nat) (slot : Fin 8) (x : ControlInputs) (s : State) : Host.Outcome State Fault Refusal :=
  let s := ((s.elapse dt).takeControl x).protEval
  if (s.slot slot.val).mode = 2 && s.sampleDue slot.val then .next ((s.sampleRun slot.val).plausible slot.val) else .next s

/-! ### State images and digests (R233, R285) -/

/-- LOOP_STATE_DIGEST (R233, R285): at a multiple of 1 ms, once the jobs of the windows that ended before it have
completed, at most t_ctl later (R234), every slot's image is digested and a LOOP_DIGEST frame sent. -/
def execLoopStateDigest (s : State) : Host.Outcome State Fault Refusal :=
  if !s.mode.serves || 400 < s.mt % 1000000 || s.loops.digestMs = s.mt / 1000000 then .next s
  else
    let ds := (List.range 8).map (fun n => crc32c (s.msImage n).2)
    let s := { s with loops := { s.loops with digestMs := s.mt / 1000000 } }
    let s := (List.range 8).foldl (fun s n => s.wrn (loopPage n) R.LOOP.DIGEST (ds.getD n 0)) s
    let st := (List.range 8).map (fun n =>
      let v := s.slot n
      b2n v.msHold + 2 * b2n v.msInv + 4 * b2n v.msUns)
    let body := leBytes 8 (s.mt / 1000000 * 1000000) ++ ds.flatMap (leBytes 4) ++ st.flatMap (leBytes 1)
    let s := (List.range 8).foldl (fun s n =>
      let v := s.slot n
      s.setSlot n { v with msHold := v.mode = 1, msInv := s.sourceInvalid n, msUns := false }) s
    let s := { s with tdm := { s.tdm with ownLoop := body } }
    .next (s.sendFrame 0x04 body).answerSlots.compareLoop.trialOut

end Sys2Proof.Machine
end

