-- ==== Sys2Proof/Machine/Pwm.lean ====
section
/-! DEFINITION. The PWM pairs: block start, update points, levels (R229 to R231). -/

namespace Sys2Proof.Machine

open Sys2Proof

/-- The PWM page's configuration allows its block start (R229, R230). -/
def State.pwmStartOk (s : State) : Bool :=
  let tbOk := fun (o : Nat) =>
    let per := s.rdf .pwm o 18 0
    !s.rdb .pwm o 31 || (12800 ≤ per && per ≤ 320000 && 64000000 % per = 0)
  tbOk R.PWM.TB0_CFG && tbOk R.PWM.TB1_CFG &&
  (List.range 8).all (fun m =>
    let per := s.pairPer m
    (!s.rdb .pwm (R.PWM.PAIR_CFG m) 0 ||
      s.rdb .pwm (if s.rdb .pwm (R.PWM.PAIR_CFG m) 1 then R.PWM.TB1_CFG else R.PWM.TB0_CFG) 31) &&
    s.rdf .pwm (R.PWM.PAIR_PHASE m) 18 0 < per && s.rdf .pwm (R.PWM.PAIR_DT m) 28 16 ≤ 6400 &&
    s.rdf .pwm (R.PWM.PAIR_DT m) 12 0 ≤ 6400 && 2 * s.rdf .pwm (R.PWM.PAIR_MINPW m) 18 0 < per)

/-- An interval that a rising-edge delay shortens; one that the delay consumes entirely is not emitted (R230). -/
def delayed (d : Nat) (a b : Nat) : List (Nat × Nat) := if a + d < b then [(a + d, b)] else []

/-- The levels of a pair over a period with ideal high interval a to b, after a period with interval a0 to b0 in which
the pair was switching or not (R230). -/
def pairLevels (per dtR dtF : Nat) (live : Bool) (a0 b0 a b : Nat) : List (Nat × Nat) × List (Nat × Nat) :=
  let highOn := live && a = 0 && a0 < b0 && b0 = per
  let lowFor := if live then (if a0 < b0 then per - b0 else per) else 0
  (delayed (if highOn then 0 else dtR) a b,
   if a < b then delayed (dtF - min dtF lowFor) 0 a ++ delayed dtF b per
   else delayed (dtF - min dtF lowFor) 0 per)

/-- The ns in which a step of 156.25 ps of MT falls, or the next one where it falls between two (R229). -/
def stepNs (steps : Nat) : Nat := (5 * steps + 31) / 32

/-- An update point of pair m falls in the ns that ends now: its period's start, PHASE steps after its timebase's, or
the centre of its period (R229, R231). -/
def State.atUpdate (s : State) (m : Nat) (centre : Bool) : Bool :=
  let per := s.pairPer m
  let off := s.rdf .pwm (R.PWM.PAIR_PHASE m) 18 0 + if centre then per / 2 else 0
  let p := (s.mt * 32 / 5 - off) / per
  per != 0 && off * 5 ≤ s.mt * 32 && stepNs (p * per + off) = s.mt

/-- PWM_UPDATE_POINT (R231): an on-time that stood in the shadow register at least 2.5 ns earlier loads at the period
start, or, where both the centre update and centre alignment are set, at the centre, where only PWMH's falling edge
uses it. -/
def execPwmUpdatePoint (dt : Nat) (pair : Fin 8) (centre : Bool) (s : State) : Host.Outcome State Fault Refusal :=
  let s := (s.elapse dt).protEval
  let m := pair.val
  let v := s.pair m
  let per := s.pairPer m
  let mid := s.rdb .pwm (R.PWM.PAIR_CFG m) 2
  if v.forced || (centre && !(mid && s.rdb .pwm (R.PWM.PAIR_CFG m) 3)) || !s.atUpdate m centre || s.mt ≤ v.last then .next s
  else
    let load := match v.shadow with
      | some (t, since) => if since + 3 ≤ s.mt then some t else none
      | none => none
    let dtR := s.rdf .pwm (R.PWM.PAIR_DT m) 12 0
    let dtF := s.rdf .pwm (R.PWM.PAIR_DT m) 28 16
    if load = none && !v.live then .next s
    else
      let ton := load.getD v.ton
      let a := if centre && v.live then v.begins else if mid then (per - ton) / 2 else 0
      let b := if centre then per / 2 + (ton + 1) / 2 else a + ton
      let (hi, lo) := if centre then (delayed dtR a b, delayed dtF b per)
        else pairLevels per dtR dtF v.live v.begins v.ends a b
      let s := s.setPair m { v with
        shadow := if load.isSome then none else v.shadow
        ton := ton
        live := true
        last := s.mt
        begins := a
        ends := b }
      .next ((s.wrn .pwm (R.PWM.ON m) ton).send (.pwm m s.mt hi lo))

end Sys2Proof.Machine
end

