-- ==== Sys2Proof/Machine/SetPoint.lean ====
section
/-! DEFINITION. Set-points from outside: host writes, pulse inputs, set-point streams, and the modulator samples that
drive the loops (R221 to R224, R116, R238, R239). -/

namespace Sys2Proof.Machine

open Sys2Proof

/-! ### Host writes (R222) -/

/-- SP_HOST_WRITE: an event input. -/
def execSpHostWrite (dt : Nat) (slot : Fin 8) (value : Word) (s : State) : Host.Outcome State Fault Refusal :=
  .next ((s.elapse dt).hostDo (.loop slot) (fun (s : State) => s.hostEvent (.loop slot) R.LOOP.SP_HOST value))

/-- MEAS_WRITE: an event input. -/
def execMeasWrite (dt : Nat) (slot : Fin 8) (value : Word) (s : State) : Host.Outcome State Fault Refusal :=
  .next ((s.elapse dt).hostDo (.loop slot) (fun (s : State) => s.hostEvent (.loop slot) R.LOOP.MEAS value))

/-- DUTY_WRITE: an event input. -/
def execDutyWrite (dt : Nat) (pair : Fin 8) (value : Word) (s : State) : Host.Outcome State Fault Refusal :=
  .next ((s.elapse dt).hostDo .pwm (fun (s : State) => s.hostEvent .pwm (R.PWM.DUTY pair.val) value))

/-- DISP_SP_WRITE: an event input. -/
def execDispSpWrite (dt : Nat) (value : Word) (s : State) : Host.Outcome State Fault Refusal :=
  .next ((s.elapse dt).hostDo .spt (fun (s : State) => s.hostEvent .spt R.SPT.DISP_SP value))

/-- A write of an event-input register of this chapter takes effect (R221, R222). -/
def State.loopEffect (s : State) (p : Page) (o : Nat) (v : Word) : State :=
  let s := s.wr p o v
  match p with
  | .loop n =>
    if o = R.LOOP.MEAS then (s.setSlot n.val { s.slot n.val with meas := true }).protEval else s
  | .pwm =>
    let m := (o - 0x800) / 4
    if s.rdb .pwm (R.PWM.PAIR_CFG m) 5 && !(s.pair m).forced then
      s.setPair m { s.pair m with shadow := some (s.onTime m (qv 23 (signed 32 v.toNat)), s.mt) }
    else s
  | _ => s

/-! ### Loss of signal -/

/-- The set-point sources of slots follow a stream's or a pulse input's loss of signal. -/
def State.slotLos (s : State) (kind k : Nat) (los : Bool) : State :=
  (List.range 8).foldl (fun s n =>
    let p := loopPage n
    if s.rdf p R.LOOP.SPSRC 2 0 = kind && s.rdf p R.LOOP.SPSRC 6 4 = k then
      let s := if los && !s.rdb p R.LOOP.STAT 7 then s.flag p 12 else s
      s.wrb p R.LOOP.STAT 7 los
    else s) s

/-- LOS_ACT decides the value: hold, fallback, zero (R223, R224). -/
def losValue (act : Nat) (held fallback : Int) : Int := match act with | 0 => held | 1 => fallback | _ => 0

/-! ### Pulse inputs (R223) -/

def State.spinOn (s : State) (k : Nat) : Bool := s.running .spt && s.rdb .spt (R.SPT.SPIN_CFG k) 0

/-- x of a period in UQ16.16, from the high time and the length between its edges' stamps, in units of 1.25 ns: duty, or
frequency in Hz; one that UQ16.16 cannot hold is a free value (log entry 14). -/
def State.spinX (s : State) (k high period : Nat) : Nat × State :=
  let q : Rat := if s.rdb .spt (R.SPT.SPIN_CFG k) 1 then (800000000 : Rat) / (period : Rat) * 65536
    else (high : Rat) / (period : Rat) * 65536
  let x := (roundAway q).toNat
  if x < 2 ^ 32 then (x, s) else let (f, s) := s.draw; (Config.freeNat f % 2 ^ 32, s)

/-- SPIN_PERIOD (R223): a period updates this module's x; in a module that accepts event inputs it updates the value and
the counts of loss of signal. -/
def execSpinPeriod (dt : Nat) (k : Fin 4) (high period : Nat) (s : State) : Host.Outcome State Fault Refusal :=
  let s := s.elapse dt
  let k := k.val
  if !s.spinOn k || !s.mode.serves then .next s
  else
    let (x, s) := s.spinX k high period
    let s := s.wrn .spt (R.SPT.SPIN_X k) x
    let v := s.spin k
    let v := { v with edge := edgeStamp s.mt }
    if !s.acceptsEvents then .next (s.setSpin k v)
    else
      let losN := s.rdf .spt (R.SPT.SPIN_CFG k) 15 8
      let ok := 8000 ≤ period && period ≤ 800000000 && s.rdn .spt (R.SPT.SPIN_XMIN k) ≤ x &&
        x ≤ s.rdn .spt (R.SPT.SPIN_XMAX k)
      let val := satS 24 (roundAway ((qv 23 (s.rdi .spt (R.SPT.SPIN_OFFS k)) +
        qv 24 (s.rdi .spt (R.SPT.SPIN_GAIN k)) * qv 16 ((x : Int) - s.rdn .spt (R.SPT.SPIN_X0 k))) * 8388608))
      if ok then
        let inr := v.inRange + 1
        let los := v.los && inr < losN
        .next (s.setSpin k { v with
          inRange := if los then inr else 0
          outRange := 0
          los := los
          val := if los then v.val else val })
      else
        let out := v.outRange + 1
        .next (s.setSpin k { v with
          inRange := 0
          outRange := if losN ≤ out then 0 else out
          los := v.los || losN ≤ out })

/-- SPIN_LOS_TIMEOUT (R223): no rising edge for LOS_MS ms. -/
def execSpinLosTimeout (dt : Nat) (k : Fin 4) (s : State) : Host.Outcome State Fault Refusal :=
  let s := s.elapse dt
  let v := s.spin k.val
  if s.spinOn k.val && s.acceptsEvents && v.edge + s.rdf .spt (R.SPT.SPIN_CFG k.val) 31 16 * 800000 ≤ edgeStamp s.mt then
    .next (s.setSpin k.val { v with los := true, inRange := 0, outRange := 0 })
  else .next s

/-- At the end of a tick the active accepts the tick's value and state of each pulse input as an event input; one that
is as accepted last is not accepted again (log entry 15). -/
def State.spinTick (s : State) : State :=
  if !s.acceptsEvents then s
  else (List.range 4).foldl (fun s k =>
    if !s.spinOn k then s
    else
      let v := s.spin k
      let x := if v.los then losValue (s.rdf .spt (R.SPT.SPIN_CFG k) 3 2) v.val (s.rdi .spt (R.SPT.SPIN_FALLBACK k))
        else v.val
      if v.accepted = some (x, v.los) then s
      else
        let s := s.setSpin k { v with accepted := some (x, v.los) }
        s.acceptEvent 0x0003 ([1, BitVec.ofNat 8 k, BitVec.ofNat 8 (b2n v.los), 0] ++ leBytes 4 (unsign 32 x) ++ zeros 8)) s

/-- A pulse input's tick value takes effect (R221, R223). -/
def State.spinEffect (s : State) (k : Nat) (los : Bool) (x : Int) : State :=
  let v := s.spin k
  let w := if s.acceptsEvents then v else { v with val := x, los := los, accepted := some (x, los) }
  let s := s.setSpin k { w with eff := x, effLos := los }
  let s := s.wri .spt (R.SPT.SPIN_VAL k) x
  let s := if los && !v.effLos then (s.flag .spt 8).inc .spt R.SPT.LOSEVT else s
  (s.wrb .spt R.SPT.STAT k los).slotLos 2 k los

/-! ### Set-point streams (R224) -/

def State.streamOn (s : State) (k : Nat) : Bool := s.running .spt && s.rdb .spt (R.SPT.STR_CFG k) 0

/-- The last accepted COUNT of a stream; the MRAM takes it while PFW_N is high (R400, R438). -/
def State.setStreamCount (s : State) (k n : Nat) : State :=
  let s := s.setStream k { s.stream k with count := n }
  if s.sys.pfwLow then s.writeDeferred else { s with mram := { s.mram with streams := smod {} s.mram.streams k (·.write n) } }

/-- A stream frame is right: length, STREAM, COUNT and TAG (R224). -/
def State.streamOk (s : State) (k : Nat) (b : List Byte) : Bool :=
  b.length = 32 && leAt b 0 4 = s.rdn .spt (R.SPT.STR_ID k) && s.streamCount k < leAt b 4 8 &&
  (match s.keyOf (s.rdf .spt (R.SPT.STR_CFG k) 10 8) with
   | some key => (hmac256 key (b.take 16 ++ leBytes 8 s.pairId)).take 16 = b.drop 16
   | none => false)

/-- SET_POINT_STREAM_FRAME (R222, R224, R400): the active accepts a right frame, its COUNT committed first; a wrong one
is dropped and counted. No commit starts while PFW_N is low (R438): the latest right frame waits until it rises. -/
def State.streamFrame (s : State) (k : Nat) (b : List Byte) : State :=
  if !s.streamOn k || !s.acceptsEvents then s
  else if !s.streamOk k b then (s.inc .spt R.SPT.STREJ).flag .spt 10
  else if s.sys.pfwLow then s.setStream k { s.stream k with wait := some b }
  else
    let n := leAt b 4 8
    let s := s.setStreamCount k n
    let s := s.setStream k { s.stream k with lastMt := s.mt, los := false, val := signed 32 (leAt b 0x0C 4) }
    s.acceptEvent 0x0003 (streamItem k false (leAt b 0x0C 4) n)

/-- PFW_N has risen: the counts of streams that are ahead of the MRAM are written, and the frames that waited are
accepted. -/
def State.streamsResume (s : State) : State :=
  (List.range 8).foldl (fun s k =>
    let v := s.stream k
    let s := if (sget {} s.mram.streams k : MramWord).value < v.count then s.setStreamCount k v.count else s
    match v.wait with
    | some b => (s.setStream k { s.stream k with wait := none }).streamFrame k b
    | none => s) s

def execSetPointStreamFrame (dt : Nat) (k : Fin 8) (bytes : List Byte) (s : State) :
    Host.Outcome State Fault Refusal :=
  .next ((s.elapse dt).streamFrame k.val bytes)

/-- STREAM_TIMEOUT (R224): no frame accepted for TIMEOUT ms. -/
def execStreamTimeout (dt : Nat) (k : Fin 8) (s : State) : Host.Outcome State Fault Refusal :=
  let s := s.elapse dt
  let k := k.val
  let v := s.stream k
  if s.streamOn k && s.acceptsEvents && !v.los &&
      v.lastMt + s.rdf .spt (R.SPT.STR_CFG k) 31 16 * 1000000 ≤ s.mt then
    let x := losValue (s.rdf .spt (R.SPT.STR_CFG k) 13 12) v.val (s.rdi .spt (R.SPT.STR_FALLBACK k))
    let s := s.setStream k { v with los := true }
    .next (s.acceptEvent 0x0003 (streamItem k true (unsign 32 x) (s.streamCount k)))
  else .next s

/-- A stream's value takes effect (R221, R224). -/
def State.streamEffect (s : State) (k : Nat) (los : Bool) (x : Int) (count : Nat) : State :=
  let v := s.stream k
  let s := if s.streamCount k < count then s.setStreamCount k count else s
  let v := { v with count := (s.stream k).count }
  let w := if s.acceptsEvents then v else
    { v with los := los, val := if los then v.val else x, lastMt := if los then v.lastMt else s.mt }
  let s := s.setStream k { w with eff := x, effLos := los }
  let s := if los && !v.effLos then (s.flag .spt 9).inc .spt R.SPT.LOSEVT else s
  let s := (s.wrb .spt R.SPT.STAT (4 + k) los).slotLos 1 k los
  if s.rdb .spt R.SPT.DISP_CFG 0 && s.rdf .spt R.SPT.DISP_CFG 6 4 = k then
    (List.range 8).foldl (fun s n =>
      let p := loopPage n
      if s.rdf p R.LOOP.SPSRC 2 0 = 5 then
        let s := if los && !s.rdb p R.LOOP.STAT 7 then s.flag p 12 else s
        s.wrb p R.LOOP.STAT 7 los
      else s) s
  else s

/-- A KIND 0x0003 item takes effect. -/
def State.setPointEffect (s : State) (c : List Byte) : State :=
  let k := byteAt c 1
  let los := byteAt c 2 != 0
  let x := signed 32 (leAt c 4 4)
  if byteAt c 0 = 0 then s.streamEffect (k % 8) los x (leAt c 8 8) else s.spinEffect (k % 4) los x

/-- The SPT page's configuration allows its block start. -/
def State.sptStartOk (s : State) : Bool :=
  (List.range 4).all (fun k =>
    s.rdf .spt (R.SPT.SPIN_CFG k) 31 16 != 0 && s.rdf .spt (R.SPT.SPIN_CFG k) 15 8 != 0 &&
    s.rdf .spt (R.SPT.SPIN_CFG k) 3 2 != 3 && s.rdn .spt (R.SPT.SPIN_XMIN k) < s.rdn .spt (R.SPT.SPIN_XMAX k)) &&
  (List.range 8).all (fun k =>
    s.rdf .spt (R.SPT.STR_CFG k) 31 16 != 0 && s.rdf .spt (R.SPT.STR_CFG k) 13 12 != 3 &&
    s.rdf .spt (R.SPT.STR_CFG k) 10 8 != 0)

/-! ### Filter outputs and input losses -/

/-- STAGE_PATH_SAMPLE (R62, R70, R116, R239): the tick sample of the running tick, after its last bit (log entry 88). -/
def execStagePathSample (dt : Nat) (input : Fin 12) (w : BitWindow) (s : State) : Host.Outcome State Fault Refusal :=
  let s := s.elapse dt
  let n := input.val
  if !s.running .mod || !s.modEn n || s.mt % 500000 < 499950 then .next s
  else
    let t := s.tick
    let y := s.stageOut n (sinc3Sum w 10000)
    let good := (s.modIn n).valid && (s.modIn n).validFrom + 2 ≤ t
    let s := s.wri .mod (R.MOD.TSMP n) y
    let s := s.wr64 .mod R.MOD.TSMP_TICK_LO R.MOD.TSMP_TICK_HI t
    let s := if good then s.setModIn n { s.modIn n with tsmp := some (t, y) } else s
    let ma := s.sampleMa n y
    let s := if n < 2 then s.quietSample t n
        (good && decide (absR ma < (s.restMa : Rat))) else s
    let s := if n = s.rdf .chg R.CHG.CFG 0 0 then s.istrSample t (if good then some ma else none) else s
    let s := if good && n < 2 then s.slowCompare n ma else s
    .next s.protEval

/-- FAST_FILTER_OUTPUT (R116, R238). -/
def execFastFilterOutput (dt : Nat) (input : Fin 12) (ones sampled : Nat) (s : State) :
    Host.Outcome State Fault Refusal :=
  .next ((s.elapse dt).fastOutput input.val ⟨ones, sampled⟩).protEval

/-- CLOCK_LOSS (R119). -/
def execClockLoss (dt : Nat) (group : Fin 2) (unsampled : Nat) (s : State) : Host.Outcome State Fault Refusal :=
  let s := s.elapse dt
  if s.running .mod then .next (s.clockLoss group.val unsampled).protEval else .next s

/-- STUCK_RUN (R119). -/
def execStuckRun (dt : Nat) (input : Fin 12) (s : State) : Host.Outcome State Fault Refusal :=
  let s := s.elapse dt
  if s.running .mod && s.modEn input.val then .next (s.stuckRun input.val).protEval else .next s

end Sys2Proof.Machine
end

