-- ==== Sys2Proof/Machine/SafetyInputs.lean ====
section
/-! DEFINITION. The safety inputs, test pulses, discrepancy, start-up test and fault reset (R250 to R264). -/

namespace Sys2Proof.Machine

open Sys2Proof

def State.safeIn (s : State) (n : Nat) : SafeIn := sget {} s.safe.ins n
def State.setSafeIn (s : State) (n : Nat) (v : SafeIn) : State :=
  { s with safe := { s.safe with ins := sset {} s.safe.ins n v } }

/-! ### Configuration -/

def State.inEn (s : State) (n : Nat) : Bool := s.rdb .safe (R.SAFE.IN_CFG n) 0
def State.inVirtual (s : State) (n : Nat) : Bool := s.rdb .safe (R.SAFE.IN_CFG n) 2
def State.antivalent (s : State) (n : Nat) : Bool := s.rdb .safe (R.SAFE.IN_CFG n) 1
/-- The test-pulse outputs that feed channels A and B; 15 is none. -/
def State.tpA (s : State) (n : Nat) : Nat := s.rdf .safe (R.SAFE.IN_CFG n) 7 4
def State.tpB (s : State) (n : Nat) : Nat := s.rdf .safe (R.SAFE.IN_CFG n) 11 8
def State.tpEn (s : State) (k : Nat) : Bool := (s.rdf .safe R.SAFE.CFG 15 8).testBit k

/-- The SAFE page's configuration allows its block start (R250, R259, R270). -/
def State.safeStartOk (s : State) : Bool :=
  let g := s.rdf .safe R.SAFE.CFG 5 0
  1 ≤ g && g ≤ 50 &&
  (List.range 16).all (fun n =>
    let d := s.rdf .safe (R.SAFE.IN_DISC n) 13 0
    let tpOk := fun (v : Nat) => v = 15 || (v < 8 && s.tpEn v && !s.inVirtual n)
    let c := s.rdf .safe (R.SAFE.IN_DISC n) 18 16
    20 ≤ d && d ≤ 10000 && tpOk (s.tpA n) && tpOk (s.tpB n) &&
    (!(s.inVirtual n && s.inEn n) ||
      (!s.rdb .slay (R.SLAY.CON_CFG c) 1 &&
        2 * s.rdf .safe (R.SAFE.IN_DISC n) 31 24 + 1 < 8 * s.rdf .slay (R.SLAY.CON_CFG c) 14 8)))

/-! ### Sources and registers -/

/-- SAFE.INn_STAT and SAFE.SUM. -/
def State.safeShow (s : State) : State :=
  let run := s.running .safe
  let s := (List.range 16).foldl (fun s n =>
    let v := s.safeIn n
    s.wrn .safe (R.SAFE.IN_STAT n) (v.dcnt * 65536 + v.fcode * 256 + 32 * b2n (s.sutBits.testBit n) + 16 * b2n v.fault +
      8 * b2n (v.dem && run && s.inEn n) + 2 * b2n v.b + b2n v.a)) s
  s.wrn .safe R.SAFE.SUM (65536 * bitsOf (fun n => (s.safeIn n).fault) 16 +
    bitsOf (fun n => (s.safeIn n).dem && run && s.inEn n) 16)

/-- Sources SAFE_IN 0 to 15 follow the inputs (R251). -/
def State.safeSources (s : State) : State :=
  let m := bitsOf (fun n => s.inEn n && ((s.safeIn n).dem || (s.safeIn n).fault)) 16
  ({ s with prot := { s.prot with raw := putBits s.prot.raw 47 32 m } }).safeShow.protEval

/-- A fault is latched: every one is counted, the first since the last clear is stored (R256, R259). -/
def State.latchFault (s : State) (n code : Nat) : State :=
  let v := s.safeIn n
  let s := s.inc .safe (if code = 1 then R.SAFE.DISCS else if code ≤ 3 then R.SAFE.TPFAILS else R.SAFE.SHORTS)
  let s := s.flag .safe 9
  let s := if v.fault then s else s.trigger 4 n
  s.setSafeIn n { v with fault := true, fcode := if v.fcode = 0 then code else v.fcode }

/-- Does a channel's level demand (R251)? -/
def State.demandsA (_s : State) (_n : Nat) (level : Bool) : Bool := !level
def State.demandsB (s : State) (n : Nat) (level : Bool) : Bool := if s.antivalent n then level else !level

/-- An input takes the samples of its two channels for tick T: recognition, discrepancy, fault reset, start-up clear
(R251, R259, R260, R263). -/
def State.inputEval (s : State) (t n : Nat) (a b : Bool) : State :=
  let v := s.safeIn n
  let da := s.demandsA n a
  let db := s.demandsB n b
  let on := (da && v.pa) || (db && v.pb)
  let dem := if v.dem then da || db else on
  let s := if dem && !v.dem then s.flag .safe 8 else s
  let dcnt := if da != db then min (v.dcnt + 1) 16383 else 0
  let s := s.setSafeIn n { v with
    a := a
    b := b
    pa := da
    pb := db
    dem := dem
    seen := v.seen || dem
    dcnt := dcnt
    defer := false }
  let s := if da != db && dcnt = s.rdf .safe (R.SAFE.IN_DISC n) 13 0 then s.latchFault n 1 else s
  let v := s.safeIn n
  let s := if s.safe.resetTick = some t && v.fault && !da && !db then
      let s := { s with safe := { s.safe with cleared := putBits s.safe.cleared n n 1 } }
      s.setSafeIn n { v with fault := false, fcode := 0 }
    else s
  let v := s.safeIn n
  if v.seen && !v.dem && !v.fault then { s with safe := { s.safe with sut := putBits s.safe.sut n n 1 } } else s

/-- The channels of a virtual input in the DATA in force (R270); while its connection is not RUNNING both demand. -/
def State.virtualBits (s : State) (n : Nat) : Bool × Bool :=
  let c := s.conn (s.rdf .safe (R.SAFE.IN_DISC n) 18 16)
  let b := s.rdf .safe (R.SAFE.IN_DISC n) 31 24
  if s.running .slay && c.st = 2 then ((leNat c.data).testBit (2 * b), (leNat c.data).testBit (2 * b + 1))
  else (false, s.antivalent n)

/-! ### The glitch filters (R250) -/

/-- A run of equal reads passes a filter of `g` reads; an empty one changes nothing. -/
def Filt.take (g : Nat) (f : Filt) (r : Bool × Nat) : Filt :=
  if r.2 = 0 then f
  else
    let run := if r.1 = f.last then f.run + r.2 else r.2
    { level := if g ≤ run then r.1 else f.level, last := r.1, run := min run 1000 }

/-- The reads of the pins pass their filters: a level is new after 10 × GLITCH reads that all returned it. -/
def State.takeReads (s : State) (x : PinReads) : State :=
  let g := 10 * s.rdf .safe R.SAFE.CFG 5 0
  { s with safe := { s.safe with
    filt := x.runs.foldl (fun m (e : Nat × List (Bool × Nat)) => smod {} m e.1 (fun f => e.2.foldl (Filt.take g) f)) s.safe.filt } }

/-- The filtered levels of the pins, bit by bit in the order of PinReads. -/
def State.pinLevels (s : State) : Nat := bitsOf (fun k => (sget {} s.safe.filt k : Filt).level) 33

/-! ### Fault reset (R262, R263) -/

/-- A press was ignored. -/
def State.pressIgnored (s : State) : State := (s.inc .safe R.SAFE.RSTREJ).flag .safe 12

/-- A fault reset takes effect at tick T: FAILED connections with AUTO clear return to STARTING; the inputs are judged
with the samples of the tick. -/
def State.faultReset (s : State) (t : Nat) : State :=
  let s := (s.inc .safe R.SAFE.RESETS).flag .safe 10
  let s := { s with safe := { s.safe with resetTick := some t, cleared := 0 } }
  let s := (List.range 8).foldl (fun s k =>
    let c := s.conn k
    if c.st = 3 && s.rdb .slay (R.SLAY.CON_CFG k) 0 && !s.rdb .slay (R.SLAY.CON_CFG k) 6 then
      (s.setConn k { c with st := 1, jst := 1 }).wrf .slay (R.SLAY.CON_STAT k) 1 0 1
    else s) s
  s.setSource 61 ((List.range 8).any (fun k => (s.conn k).st = 3 && s.rdb .slay (R.SLAY.CON_CFG k) 0 &&
    !s.rdb .slay (R.SLAY.CON_CFG k) 1))

/-- The record of a fault reset, once every input has been judged. -/
def State.resetRecord (s : State) : State :=
  match s.safe.resetTick with
  | some t =>
    let s := s.record .safe 0x01 ([1, 0] ++ leBytes 2 s.safe.cleared ++
      leBytes 2 (bitsOf (fun n => (s.safeIn n).fault) 16) ++ zeros 2 ++ leBytes 8 t)
    { s with safe := { s.safe with resetTick := none, cleared := 0 } }
  | none => s

/-- The tick sample of SRST_IN (R262). -/
def State.resetSample (s : State) (t : Nat) (level : Bool) : State :=
  let v := s.safe
  let s := (s.wrb .safe R.SAFE.RST 0 level).wrf .safe R.SAFE.RST 31 16
    (if level && v.rstArmed then min (v.rstN + 1) 65535 else 0)
  if level then
    { s with safe := { v with rstN := if v.rstArmed then v.rstN + 1 else 0, inact := 0 } }
  else
    let s := { s with safe := { v with rstN := 0, rstArmed := true, inact := v.inact + 1 } }
    if v.rstN = 0 then s
    else if v.stuck || v.rstN < 100 then s.pressIgnored
    else if v.rstN ≤ 6000 then s.faultReset t
    else s

/-- STUCK_RESET (R262): the active samples in a row reach 6,001. -/
def execStuckReset (dt : Nat) (s : State) : Host.Outcome State Fault Refusal :=
  let s := s.elapse dt
  if s.running .safe && !s.safe.stuck && 6001 ≤ s.safe.rstN then
    let s := { s with safe := { s.safe with stuck := true, inact := 0 } }
    .next (((s.wrb .safe R.SAFE.RST 1 true).flag .safe 11).record .safe 0x14 ([1, 0, 0, 0] ++ leBytes 8 s.tick))
  else .next s

/-- STUCK_RESET_END (R262): 2,000 inactive samples in a row while it holds. -/
def execStuckResetEnd (dt : Nat) (s : State) : Host.Outcome State Fault Refusal :=
  let s := s.elapse dt
  if s.safe.stuck && 2000 ≤ s.safe.inact then
    let s := { s with safe := { s.safe with stuck := false } }
    .next (s.wrb .safe R.SAFE.RST 1 false)
  else .next s

/-! ### Ticks and windows -/

/-- The window that the schedule and TP_EN open at a tick (R253). -/
def State.windowAt (s : State) (t : Nat) : Option Nat :=
  let k := t % 80 / 10
  if t % 10 = 0 && s.tpEn k then some k else none

/-- The outputs this module drives to schedule (R253, R279). -/
def State.tpDriving (s : State) : Nat := if s.mode = .active then s.rdf .safe R.SAFE.CFG 15 8 else 0

/-- The tick samples at the start of tick T (R250 to R253): the schedule opens a window, and every enabled channel is
sampled, but for those fed by the window's output, whose sample waits for its close. Of an input with one such channel
the other acts at once. -/
def State.safeTick (s : State) (x : TickInputs) : State :=
  let t := s.tick
  let w := s.windowAt t
  let s := s.takeReads x.reads
  let pins := s.pinLevels
  let s := { s with
    safe := { s.safe with
      win := w.map (fun k =>
        { k := k, tick := t, l0 := pins, drove := s.mode = .active, standby := s.mode = .standby }) }
    sys := { s.sys with tpoLow := if s.mode = .active then w.map (fun k => (k, t * 500000 + 200000)) else none } }
  if !s.running .safe || !s.mode.serves then s
  else
    let s := s.wr64 .safe R.SAFE.TICK_LO R.SAFE.TICK_HI t
    let s := s.resetSample t (pins.testBit 32)
    let s := (List.range 16).foldl (fun s n =>
      if !s.inEn n then s
      else if s.inVirtual n then let (a, b) := s.virtualBits n; s.inputEval t n a b
      else
        let a := pins.testBit n
        let b := pins.testBit (16 + n)
        let da := w = some (s.tpA n)
        let db := w = some (s.tpB n)
        if !da && !db then s.inputEval t n a b
        else
          let v := s.safeIn n
          let on := (!da && s.demandsA n a && v.pa) || (!db && s.demandsB n b && v.pb)
          let s := if on && !v.dem then s.flag .safe 8 else s
          s.setSafeIn n { v with
            a := if da then v.a else a
            b := if db then v.b else b
            dem := v.dem || on
            seen := v.seen || on
            defer := true }) s
    let s := if w.isNone then s.resetRecord else s
    s.safeSources

/-- The judgement of one channel in a verified window (R256). -/
def State.judgeChannel (s : State) (n : Nat) (fed : Bool) (l0 l200 l300 : Bool) (chB : Bool) : State :=
  if fed then (if l200 then s.latchFault n (if chB then 3 else 2) else s)
  else if l0 && !l200 && l300 then s.latchFault n (if chB then 5 else 4) else s

/-- The judgement of a window's levels (R256): of every enabled pin channel at offsets 0, 200 µs and 300 µs. -/
def State.judgeWindow (s : State) (k l0 l200 l300 : Nat) : State :=
  (List.range 16).foldl (fun s n =>
    if !s.inEn n || s.inVirtual n then s
    else
      let s := s.judgeChannel n (s.tpA n = k) (l0.testBit n) (l200.testBit n) (l300.testBit n) false
      s.judgeChannel n (s.tpB n = k) (l0.testBit (16 + n)) (l200.testBit (16 + n)) (l300.testBit (16 + n)) true) s

/-- Is a window verified (R255)? The module drove the whole pulse, or it held STANDBY throughout and every heartbeat
of the peer reported the output driven to schedule. -/
def State.windowVerified (s : State) (w : TpWin) : Bool :=
  (w.drove && s.sys.tpoDone = some (w.tick * 500000 + 200000)) || (w.standby && s.mode = .standby && !w.bad)

/-- TEST_WINDOW_CLOSE (R255, R256, R258), 300 µs after the window opened: a verified window judges every enabled pin
channel, an unverified one is counted; the samples deferred to its close are taken. -/
def execTestWindowClose (dt : Nat) (tpo : Fin 8) (x : WindowReads) (s : State) : Host.Outcome State Fault Refusal :=
  let s := s.elapse dt
  match s.safe.win with
  | none => .next s
  | some w =>
    if w.k != tpo.val || s.mt < w.tick * 500000 + 300000 then .next s
    else
      let s := s.takeReads x.to200
      let l200 := s.pinLevels
      let s := s.takeReads x.to300
      let l300 := s.pinLevels
      let s := { s with safe := { s.safe with win := none } }
      if !s.running .safe || !s.mode.serves then .next s
      else
        let verified := s.windowVerified w
        let s := s.wrb .safe R.SAFE.TPST (8 + w.k) verified
        let s := if verified then s.judgeWindow w.k w.l0 l200 l300 else s.inc .safe R.SAFE.UNVER
        let s := (List.range 16).foldl (fun s n =>
          let v := s.safeIn n
          if v.defer then
            s.inputEval w.tick n (if s.tpA n = w.k then l300.testBit n else v.a)
              (if s.tpB n = w.k then l300.testBit (16 + n) else v.b)
          else s) s
        .next s.resetRecord.safeSources

/-- A heartbeat in a window that does not report the output driven to schedule leaves the window unverified (R255). -/
def State.markPeerPulses (s : State) : State :=
  match s.safe.win with
  | some w => if s.tdm.peer.tpo.testBit w.k then s else { s with safe := { s.safe with win := some { w with bad := true } } }
  | none => s

/-! ### Start of the page and roles -/

/-- The start-up clear bits the peer reports take the place of the own ones (R261); a bit taken as 0 asks for a demand
from here on (R260). -/
def State.adoptSutclr (s : State) : State :=
  if s.tdm.peer.heard && !s.tdm.silent && 4 ≤ s.tdm.peer.state && s.tdm.peer.state ≤ 6 then
    { s with safe := { s.safe with
      sut := s.tdm.peer.sutclr
      ins := s.safe.ins.map (fun (e : Nat × SafeIn) =>
        (e.1, { e.2 with seen := e.2.dem || (e.2.seen && s.tdm.peer.sutclr.testBit e.1) })) } }.safeShow.protEval
  else s

/-- SAFE enters ENABLING: the start-up clear bits are 0 (R260). -/
def State.safeEnabling (s : State) : State :=
  { s with safe := { s.safe with
    sut := 0
    ins := s.safe.ins.map (fun (e : Nat × SafeIn) => (e.1, { e.2 with seen := false })) } }.safeShow

/-- SAFE enters RUNNING (R256, R261, R262): histories and counters start anew, latched faults stay. -/
def State.safeStarted (s : State) : State :=
  let s := { s with safe := { s.safe with
    ins := s.safe.ins.map (fun (e : Nat × SafeIn) =>
      (e.1, { e.2 with pa := false, pb := false, dem := false, dcnt := 0, defer := false }))
    rstN := 0
    rstArmed := false
    inact := 0
    stuck := false } }
  (if s.mode.isRole then s.adoptSutclr else s).safeSources

/-- SAFE leaves RUNNING: STUCK_RESET ends, every source asserts (R251, R262). -/
def State.safeStopped (s : State) : State :=
  let s := { s with safe := { s.safe with stuck := false, inact := 0, rstN := 0 } }
  (s.wrn .safe R.SAFE.RST 0).safeSources

end Sys2Proof.Machine
end

