-- ==== Sys2Proof/Machine/SafetyLayer.lean ====
section
/-! DEFINITION. The safety layer: the Espiton safe frame, consumers and producers (R265 to R273). -/

namespace Sys2Proof.Machine

open Sys2Proof

/-! ### The frame (R265, R266) -/

/-! ### Configuration -/

/-- The SLAY page's configuration allows its block start. -/
def State.slayStartOk (s : State) : Bool :=
  let errN := s.rdf .slay R.SLAY.CFG 23 16
  let skip := s.rdf .slay R.SLAY.CFG 15 8
  errN != 0 && skip != 0 && skip < s.rdf .slay R.SLAY.CFG 7 0 &&
  (List.range 8).all (fun k =>
    let per := s.rdf .slay (R.SLAY.CON_CFG k) 31 16
    let wd := s.rdf .slay (R.SLAY.CON_WD k) 15 0
    1 ≤ per && per ≤ 1000 && s.connLen k ≤ 64 &&
    !(s.connEn k && s.connProd k && !s.rdb .slay (R.SLAY.CON_CFG k) 7 && s.connLen k != 16) &&
    (s.connProd k || (1 ≤ wd && wd ≤ 2000)) &&
    (List.range k).all (fun j =>
      !(s.connEn j && s.connEn k) || s.rdn .slay (R.SLAY.CON_ID j) != s.rdn .slay (R.SLAY.CON_ID k)))

/-! ### States -/

/-- Source SLAY_WD and the connections' registers (R269, R271). -/
def State.connShow (s : State) : State :=
  let s := (List.range 8).foldl (fun s k =>
    let c := s.conn k
    let s := s.wrn .slay (R.SLAY.CON_STAT k) (min c.errrun 255 * 2 ^ 24 + c.lastRej * 65536 + c.st)
    let s := s.wrn .slay (R.SLAY.CON_SEQ k) (if s.connProd k then c.txData else c.jseq)
    s.wrn .slay (R.SLAY.CON_ECHO k) c.echo) s
  s.setSource 61 ((List.range 8).any (fun k => s.connEn k && !s.connProd k && (s.conn k).st = 3))

/-- SLAY enters RUNNING or leaves it: enabled consumers are STARTING, enabled producers RUNNING, or all are IDLE. -/
def State.slayReset (s : State) : State :=
  let run := s.running .slay
  let s := (List.range 8).foldl (fun s k =>
    let st := if run && s.connEn k then (if s.connProd k then 2 else 1) else 0
    s.setConn k { st := st, jst := st }) s
  ({ s with slay := { s.slay with bufs := [] } }).connShow

/-- Entry into FAILED (R269): the cause is 1, watchdog expiry, or 2, error run. -/
def State.connFail (s : State) (k cause : Nat) : State :=
  let c := s.conn k
  let s := s.setConn k { c with st := 3, jst := 3, failing := false }
  let s := (s.inc .slay R.SLAY.FAILS).flag .slay 8
  let s := if cause = 1 then (s.inc .slay R.SLAY.WDEXP).flag .slay 9 else s
  let s := s.record .slay 0x01 ([2, BitVec.ofNat 8 k, BitVec.ofNat 8 cause, BitVec.ofNat 8 c.lastRej] ++
    leBytes 4 (if cause = 1 then c.seq else c.jseq) ++ leBytes 8 (unsign 64 c.deadline))
  (s.trigger 5 k).connShow

/-- At the start of a tick a consumer whose deadline in force has passed fails (R269). -/
def State.connExpiry (s : State) : State :=
  if !s.running .slay || !s.mode.serves then s
  else (List.range 8).foldl (fun s k =>
    let c := s.conn k
    if s.connEn k && !s.connProd k && c.st = 2 && c.deadline < (s.tick * 500000 : Nat) then s.connFail k 1 else s) s

/-! ### Judgement (R268, R271, R272) -/

/-- A frame is rejected (R268, R271): counted, shown; a consumer's error run that reaches ERR_N is an event input. -/
def State.espReject (s : State) (k code : Nat) (seq : Nat) : State :=
  let s := (s.inc .slay (R.SLAY.REJ k)).flag .slay 10
  let c := s.conn k
  if s.connProd k then (s.setConn k { c with lastRej := code }).connShow
  else
    let run := c.errrun + 1
    let fail := s.rdf .slay R.SLAY.CFG 23 16 ≤ run && c.jst = 2 && !c.failing
    let s := s.setConn k { c with lastRej := code, errrun := run, failing := c.failing || fail }
    (if fail then s.acceptEvent 0x0004 (espItem k 5 seq 0 []) else s).connShow

/-- An accepted DATA frame: an event input, with a copy to ring 126 or 127 (R268, R271). -/
def State.espAccept (s : State) (k seq : Nat) (age deadline : Int) (f : List Byte) : State :=
  let c := s.conn k
  let s := s.setConn k { c with jst := 2, jseq := seq, errrun := 0 }
  let s := s.wrn .slay (R.SLAY.CON_AGE k) (min (age / 1000).toNat (2 ^ 32 - 1))
  let s := s.acceptEvent 0x0004 (espItem k 1 seq deadline f)
  (s.ringPush (if k < 4 then 126 else 127) ((s.tick + 2) % 65536) f).connShow

/-- Judgement of a DATA frame by its consumer, in the order of R268. -/
def State.espData (s : State) (k : Nat) (f : List Byte) : State :=
  let c := s.conn k
  let seq := leAt f 8 4
  let et := mtExtend (leAt f 12 4) s.mt
  let age := (s.mt : Int) - et
  let wd : Int := s.rdf .slay (R.SLAY.CON_WD k) 15 0 * 1000000
  if age < 0 || wd < age then s.espReject k 4 seq
  else if c.jst = 1 || (c.jst = 3 && s.connAuto k) then s.espAccept k seq age (et + wd) f
  else if c.jst = 3 then s.espReject k 3 seq
  else
    let d := signed 32 (unsign 32 ((seq : Int) - c.jseq))
    if d ≤ 0 then s.espReject k 2 seq
    else if (s.rdf .slay R.SLAY.CFG 7 0 : Int) < d then s.espReject k 3 seq
    else
      let s := if 1 < d then (s.incBy .slay (R.SLAY.LOST k) (d - 1).toNat).flag .slay 11 else s
      s.espAccept k seq age (et + wd) f

/-- Judgement of an ECHO frame by its producer (R271). -/
def State.espEcho (s : State) (k : Nat) (f : List Byte) : State :=
  let c := s.conn k
  let seq := leAt f 8 4
  let old := match c.jecho with
    | some q => decide (signed 32 (unsign 32 ((seq : Int) - q)) ≤ 0)
    | none => false
  if old then s.espReject k 2 seq
  else
    let s := s.setConn k { c with jecho := some seq, jtecho := leAt f 12 4 }
    (s.acceptEvent 0x0004 (espItem k 2 seq 0 f)).connShow

/-- A frame that arrived at the address of the connections `conns` is judged, of those that use the address for its
TYPE, by the one whose identity equals its CONN; where the address serves its TYPE for none, by the one of them all. A
frame that none judges is counted (R268). Only the active judges (R272). -/
def State.espFrameIn (s : State) (conns : List Nat) (f : List Byte) : State :=
  if !s.running .slay || s.mode != .active || s.tdm.fenced then s
  else
    let typed := conns.filter (fun k => byteAt f 1 = if s.connProd k then 2 else 1)
    let ks := (if typed = [] then conns else typed).filter (fun k =>
      8 ≤ f.length && s.rdn .slay (R.SLAY.CON_ID k) = leAt f 4 4)
    match ks with
    | [] => (s.inc .slay R.SLAY.NOCONN).flag .slay 10
    | k :: _ =>
      let type := if s.connProd k then 2 else 1
      let len := if type = 1 then s.connLen k else 0
      let body := f.take (16 + len)
      if byteAt f 0 != 1 || byteAt f 1 != type || leAt f 2 2 != len || f.length != 20 + len then
        s.espReject k 5 (leAt f 8 4)
      else if leAt f (16 + len) 4 != espCheck (leAt f 4 4) s.pairId body then s.espReject k 1 (leAt f 8 4)
      else if type = 1 then s.espData k f else s.espEcho k f

/-- The enabled connections that a network source brings frames to at an address (R267): the priority identifier of a
CAN XL frame, or the destination port of a datagram, for DATA of a consumer and for ECHO of a producer. -/
def State.espConns (s : State) (src : NetSource) (addr : Nat) : List Nat :=
  (List.range 8).filter (fun k =>
    let port := s.rdf .slay (R.SLAY.CON_CFG k) 5 4
    let at_ := fun (hi : Nat) => s.rdf .slay (if s.connProd k then R.SLAY.CON_EADDR k else R.SLAY.CON_ADDR k) hi 0 = addr
    let net := match src with
      | .udp p _ _ _ => s.rdb .slay (R.SLAY.CON_CFG k) 3 && s.hearsPort p.val port && at_ 15
      | .canxl c => !s.rdb .slay (R.SLAY.CON_CFG k) 3 && port = c.val && at_ 10
    s.connEn k && net)

/-- DATA (R268): a DATA frame reaches the connections of its network source and address. -/
def execEspitonData (dt : Nat) (src : EspSource) (bytes : List Byte) (s : State) :
    Host.Outcome State Fault Refusal :=
  let s := s.elapse dt
  let ks := s.espConns src.net src.addr.toNat
  .next (if ks = [] then s else s.espFrameIn ks bytes)

/-- ECHO (R271): an ECHO frame reaches the connections of its network source and address. -/
def execEspitonEcho (dt : Nat) (src : EspSource) (bytes : List Byte) (s : State) :
    Host.Outcome State Fault Refusal :=
  let s := s.elapse dt
  let ks := s.espConns src.net src.addr.toNat
  .next (if ks = [] then s else s.espFrameIn ks bytes)

/-! ### Sending (R271, R272) -/

/-- The island's status record (R271). -/
def State.statusRecord (s : State) : List Byte :=
  let run := s.running .safe
  [BitVec.ofNat 8 s.mode.code, BitVec.ofNat 8 s.tripStates] ++
  leBytes 2 (bitsOf (fun n => (s.safeIn n).dem && run && s.inEn n) 16) ++
  leBytes 2 (bitsOf (fun n => (s.safeIn n).fault) 16) ++ zeros 2 ++ leBytes 8 s.tick

/-- The descriptors waiting on a host ring are taken; each buffer becomes the latest one, one longer than 64 bytes does
not (log entry 16). -/
def State.takeBuffers (s : State) (ring : Nat) : Nat → State
  | 0 => s
  | k + 1 =>
    match s.ringHead ring with
    | none => s
    | some d =>
      let ok := d.len ≤ 64
      let s := if ok then
          { s with slay := { s.slay with bufs := sset [] s.slay.bufs ring ((d.data ++ zeros 64).take d.len) } } else s
      (s.ringComplete ring (if ok then 0 else 2) 0 d.len []).takeBuffers ring k

/-- ESPITON_PERIOD (R271, R272): the active sends the connection's DATA or ECHO frame and mirrors its SEQ. -/
def execEspitonPeriod (dt : Nat) (conn : Fin 8) (s : State) : Host.Outcome State Fault Refusal :=
  let s := s.elapse dt
  let k := conn.val
  if !s.running .slay || !s.connEn k || s.mode != .active || s.tdm.fenced then .next s
  else
    let id := s.rdn .slay (R.SLAY.CON_ID k)
    if s.connProd k then
      let ring := if k < 4 then 124 else 125
      let host := s.rdb .slay (R.SLAY.CON_CFG k) 7
      let s := if host then s.takeBuffers ring (s.ring ring).descs.length else s
      let c := s.conn k
      let seq := (c.txData + 1) % 2 ^ 32
      let data := if host then (sget [] s.slay.bufs ring ++ zeros 64).take (s.connLen k) else s.statusRecord
      let f := s.espFrame 1 id seq c.jtecho data
      let s := (s.setConn k { c with txData := seq }).sendNet (.espiton k f)
      .next (s.acceptEvent 0x0004 (espItem k 3 seq 0 [])).connShow
    else
      let c := s.conn k
      let seq := (c.txEcho + 1) % 2 ^ 32
      let f := s.espFrame 2 id seq (s.mt % 2 ^ 32) []
      let s := (s.setConn k { c with txEcho := seq }).sendNet (.espiton k f)
      .next (s.acceptEvent 0x0004 (espItem k 4 seq 0 [])).connShow

/-! ### Effects (R268, R272) -/

/-- A KIND 0x0004 item takes effect. In a module that does not judge, judgement follows what is in force. -/
def State.espEffect (s : State) (m : List Byte) : State :=
  let k := byteAt m 0 % 8
  let seq := leAt m 4 4
  let f := slice m 20 (leAt m 16 2)
  if !s.running .slay || !s.connEn k then s
  else
    let judging := s.mode = .active
    let c := s.conn k
    match byteAt m 1 with
    | 1 =>
      let st := if c.st = 1 || (c.st = 3 && s.connAuto k) then 2 else c.st
      let c := { c with
        st := st
        seq := seq
        deadline := signed 64 (leAt m 8 8)
        data := slice f 16 (leAt f 2 2)
        echo := leAt f 12 4 }
      (s.setConn k (if judging then c else { c with jst := c.st, jseq := seq, errrun := 0 })).connShow
    | 2 =>
      let c := { c with echo := leAt f 12 4 }
      (s.setConn k (if judging then c else { c with jecho := some seq, jtecho := leAt f 12 4 })).connShow
    | 3 => (s.setConn k { c with mirData := some seq, txData := if judging then c.txData else seq }).connShow
    | 4 => (s.setConn k { c with mirEcho := some seq, txEcho := if judging then c.txEcho else seq }).connShow
    | 5 =>
      let s := s.setConn k { c with failing := false }
      if c.st = 2 then s.connFail k 2 else s
    | _ => s

/-- A module enters ACTIVE (R272): judgement goes on from what is in force, its sequences from the last mirrored one
plus SKIP. -/
def State.slayActive (s : State) : State :=
  let skip := s.rdf .slay R.SLAY.CFG 15 8
  let on := fun (old : Nat) (m : Option Nat) => match m with
    | some q => (q + skip + 2 ^ 32 - 1) % 2 ^ 32
    | none => old
  (List.range 8).foldl (fun s k =>
    let c := s.conn k
    s.setConn k { c with jst := c.st, jseq := c.seq, txData := on c.txData c.mirData, txEcho := on c.txEcho c.mirEcho }) s

end Sys2Proof.Machine
end

