-- ==== Sys2Proof/Machine/Roles.lean ====
section
/-! DEFINITION. Taking and leaving roles, joining as standby, role formation (R17, R18, R57, R276, R289, R439). -/

namespace Sys2Proof.Machine

open Sys2Proof

/-- The signature check is armed (R42). -/
def State.armed (s : State) : Bool := s.rdb .cfgx R.CFGX.STAT 0

/-- What follows from a change of the module state: the matrix, and the level of every source (R236, R244). -/
def State.modeChanged (s : State) : State := s.protEval

/-- The module has taken ACTIVE (R272, R372, R382): the Espiton sequences and the servo go on, and the pair address is to
be announced three times. -/
def State.enterActiveRole (s : State) : State :=
  let s := { s with
    prot := { s.prot with r18 := false }
    time := { s.time with st := if s.time.st = 4 then (if s.time.port = 15 then 0 else 3) else s.time.st }
    eth := { s.eth with announce := 3, announceMt := s.mt } }
  s.slayActive.modeChanged

/-- The module has taken STANDBY (R380, R382): its time state reads PEER, it takes the peer's start-up clear bits (R261),
and it follows the active. -/
def State.enterStandbyRole (s : State) : State :=
  let s := { s with
    prot := { s.prot with r18 := false }
    time := { s.time with st := 4 }
    eth := { s.eth with announce := 0 } }
  s.adoptSutclr.modeChanged

/-- An active that becomes standby by a planned relay (R302): what it accepts and sends ends, its state goes on, and
it takes the peer's start-up clear bits (R261). -/
def State.leaveActiveRole (s : State) : State :=
  ({ s with time := { s.time with st := 4 }, eth := { s.eth with announce := 0 } }).adoptSutclr.modeChanged

/-- WITNESS-ONLY: estimation, control and protection of the own string stop (R16), and so does a join that role formation
began: from here STANDBY is reached by ROLE_ASSIGN alone (R17). -/
def State.enterWitnessOnly (s : State) : State :=
  let s := { s with
    prot := { s.prot with r18 := false }
    est := { s.est with due := none, ran := none }
    eth := { s.eth with announce := 0 }
    tdm := { s.tdm with joining := false, joinFor := none } }
  s.modeChanged

/-! ### Joining as standby (R289) -/

/-- The conditions of R289 that the module and its peer meet by now. -/
def State.joinOk (s : State) : Bool :=
  let p := s.tdm.peer
  s.tandemed && p.heard && !s.tdm.silent && p.state = 4 && p.arith = s.arithId && s.lockBits = 3 &&
  s.rdn .est R.PAGE.CFG_REF = p.estRef && s.mram.limCrc = p.limCrc && s.armed &&
  s.tdm.limAdopted && s.tdm.journalTaken && s.tdm.fullRepaired

/-- MT is stepped to the active's (R57). -/
def State.stepToPeer (s : State) : State :=
  s.stepMt (s.tdm.peer.mt + (s.mt - s.tdm.peer.heardMt))

/-- A join begins once the peer is heard ACTIVE (R289): its limit set is adopted (R248), MT stepped, and a full repair
asked for. -/
def State.joinBegin (s : State) : State :=
  if !s.tdm.joining || s.tdm.limAdopted || !s.tdm.peer.heard || s.tdm.silent || s.tdm.peer.state != 4 then s
  else
    let s := s.adoptLimits.saveLimits.stepToPeer
    (s.setTdm (fun t => { t with limAdopted := true, joinMt := s.mt })).askFullRepair

/-- A join starts, for a command or for role formation. -/
def State.startJoin (s : State) (cmd : Option (List Byte)) : State :=
  if !s.tandemed then s
  else
    (s.setTdm (fun t => { t with
      joining := true
      joinMt := s.mt
      joinFor := cmd
      fullRepaired := false
      limAdopted := false
      journalTaken := false
      mseqIn := 0
      mseqOut := 0
      mseqAhead := []
      gapMt := none })).joinBegin

/-- The join succeeds once every condition holds: the module takes STANDBY, joined. The answer is the command that asked
for it, if one did. -/
def State.tryJoin (s : State) : Option (List Byte) × State :=
  if s.tdm.joining && (s.mode = .ready || (s.mode = .witnessOnly && s.tdm.joinFor.isSome)) && s.joinOk then
    let cmd := s.tdm.joinFor
    let s := s.setTdm (fun t => { t with joining := false, joined := true, joinFor := none })
    (cmd, (s.takeMode .standby).enterStandbyRole)
  else (none, s)

/-- The join is given up. -/
def State.dropJoin (s : State) : State :=
  s.setTdm (fun t => { t with joining := false, joinFor := none })

/-! ### Role formation (R439) -/

/-- A READY module takes ACTIVE, by formation or by ROLE_ASSIGN. -/
def State.formActive (s : State) : State :=
  let s := (s.takeMode .active).setTdm (fun t => { t with
    driveWanted := true
    driveFrom := s.mt
    relayKind := 0
    lastGrant := s.mt })
  s.enterActiveRole

/-- A READY module takes WITNESS_ONLY, by formation or by ROLE_ASSIGN. -/
def State.takeWitnessOnly (s : State) : State :=
  if s.mode = .ready then (s.takeMode .witnessOnly).enterWitnessOnly else s

/-- SYS.CFG as it applies: the reset values while SYS is not RUNNING. -/
def State.form (s : State) : Nat := if s.running .sys then s.rdf .sys R.SYS.CFG 1 0 else 0

/-- The rows of R439 that apply with FORM = 1. -/
def State.formAuto (s : State) : State :=
  let heardActive := s.tdm.peer.heard && !s.tdm.silent && s.tdm.peer.state = 4
  if !s.tandemed then s.formActive
  else if heardActive then (if s.tdm.joining then s else s.startJoin none)
  else if s.posB && !s.sys.formWaited then s
  else s.acquire

/-- Role formation of a READY module (R439). -/
def State.formRole (s : State) : State :=
  if s.mode != .ready || !s.armed then s
  else match s.form with
    | 1 => s.formAuto
    | 2 => s.takeWitnessOnly
    | _ => s

/-- ROLE_FORMATION (R439). -/
def execRoleFormation (dt : Nat) (s : State) : Host.Outcome State Fault Refusal := .next (s.elapse dt).formRole

/-- FORMATION_WAIT_EXPIRY (R439): t_form_wait, 10 s, of module B in READY has passed without hearing A ACTIVE. -/
def execFormationWaitExpiry (dt : Nat) (s : State) : Host.Outcome State Fault Refusal :=
  let s := s.elapse dt
  if s.mode = .ready && s.posB && s.sys.readyMt + 10000000000 ≤ s.mt then
    .next ({ s with sys := { s.sys with formWaited := true } }).formRole
  else .next s

/-- FORMATION_JOIN_RETRY (R439): a failed join is tried again, 1 s after the attempt before. -/
def execFormationJoinRetry (dt : Nat) (s : State) : Host.Outcome State Fault Refusal :=
  let s := s.elapse dt
  if s.mode = .ready && s.form = 1 && !s.tdm.joining && s.tdm.joinMt + 1000000000 ≤ s.mt then .next s.formRole else .next s

end Sys2Proof.Machine
end

