-- ==== Sys2Proof/Machine/Commands.lean ====
section
/-! DEFINITION. The ten authenticated commands: judgement-time checks, effect-tick checks and effects (R18, R41, R42,
R225, R245, R302, R339, R399), and malformed messages. -/

namespace Sys2Proof.Machine

open Sys2Proof

/-! ### The signature (R40 to R42) -/

/-- The live signature (R40): each page's ID and CFG_REF in page-index order, 0 for the CFG_REF of HOST and RNG. -/
def State.liveSig (s : State) : Nat :=
  crc32c (allPages.flatMap (fun p => leBytes 4 (pageIdWord p) ++
    leBytes 4 (if p = .host || p = .rng then 0 else s.rdn p R.PAGE.CFG_REF)))

/-- The signature check is armed. -/
def State.arm (s : State) : State := (s.wrb .cfgx R.CFGX.STAT 0 true).flag .cfgx 9

/-- An accepted CFG_REF write (cause 1) or EN = 0 write (cause 2) disarms the signature check (R41): each one is
counted, flagged and recorded, also while the check is disarmed already. -/
def State.disarm (s : State) (p : Page) (cause : Nat) : State :=
  if p = .host || p = .rng then s
  else
    let s := ((s.wrb .cfgx R.CFGX.STAT 0 false).inc .cfgx R.CFGX.DISARMS).flag .cfgx 8
    s.record .cfgx 0x13 ([1, BitVec.ofNat 8 cause] ++ leBytes 2 (pageType p) ++
      leBytes 4 (s.rdn .cfgx R.CFGX.SIG_STORED) ++ leBytes 4 (s.rdn .cfgx R.CFGX.SIG_LIVE))

/-- CONFIG_SIGNATURE_COMMIT at its effect tick (R41): whether it is refused, and the state after. -/
def State.commitSig (s : State) (sig : Nat) : Bool × State :=
  if sig != s.liveSig then (true, s)
  else
    let s := (s.wrn .cfgx R.CFGX.SIG_STORED sig).modSettings (fun v => { v with sig := some (BitVec.ofNat 32 sig) })
    (false, s.arm)

/-! ### ROLE_ASSIGN (R17, R18, R42, R289) -/

/-- The status of a command this module judged is decided (R399): counted and flagged; a refusal writes its record. -/
def State.decideCommand (s : State) (m : List Byte) (refused : Bool) : State :=
  let mine := fun (c : Completion) => !c.decided && c.code = byteAt m 1 && c.slot = byteAt m 4 && c.counter = leAt m 0x10 8
  match s.completions.find? mine with
  | none => s
  | some c =>
    let st := if refused then 0x0105 else 0
    let s := { s with completions := s.completions.map (fun (x : Completion) =>
      if x = c then { x with decided := true, status := st } else x) }
    if refused then ((s.inc .auth R.AUTH.REJECTS).flag .auth 9).commandRecord c.path m st
    else (s.inc .auth R.AUTH.ACCEPTS).flag .auth 8

/-- A join in progress is given up, and the ROLE_ASSIGN that asked for it is rejected (R289, log entry 81). -/
def State.abandonJoin (s : State) : State :=
  match s.tdm.joinFor with
  | some m => s.dropJoin.decideCommand m true
  | none => s.dropJoin

/-- The module leaves a role, or a join in progress, for READY. -/
def State.toReady (s : State) : State :=
  let was := s.mode
  let s := (s.abandonJoin.takeMode .ready).dropDrive
  let s := s.setTdm (fun t => { t with
    joined := false
    double := false
    fenced := false
    held := false
    driveWanted := false
    relayAt := 0 })
  let s := { s with
    sys := { s.sys with readyMt := s.mt }
    prot := { s.prot with r18 := s.prot.r18 || decide (was = Mode.active) }
    eth := { s.eth with announce := 0 } }
  s.modeChanged

/-- ROLE_ASSIGN at its effect tick: none where the join decides later, else whether it is refused; and the state
after. -/
def State.roleAssign (s : State) (role : Nat) (m : List Byte) : Option Bool × State :=
  let fromRole := s.mode = .ready || s.mode = .witnessOnly
  match role with
  | 3 =>
    if s.mode = .active && s.tdm.peer.heard && !s.tdm.silent && s.tdm.peer.state = 5 then (some true, s)
    else if s.mode.isRole then (some false, s.toReady)
    else (some true, s)
  | 4 => if fromRole && s.armed then (some false, s.abandonJoin.formActive) else (some true, s)
  | 5 => if fromRole && s.armed && s.tandemed && !s.tdm.joining then (none, s.startJoin (some m)) else (some true, s)
  | 6 => if s.mode = .ready then (some false, s.abandonJoin.takeWitnessOnly) else (some true, s)
  | _ => (some true, s)

/-! ### PLANNED_RELAY (R302) -/

/-- The first TB0 period whose start lies at least 500 µs after the start of the effect tick. -/
def State.relayPeriod (s : State) : Nat := max 1 (s.tb0NumberFrom (s.tick * 500000 + 500000))

/-- May the relay go ahead, as the active sees it? -/
def State.relayAllowed (s : State) : Bool :=
  let fresh := match s.tdm.peerHealthMt with
    | some m => decide (s.mt ≤ m + 2000000000)
    | none => false
  s.tdm.peer.heard && !s.tdm.silent && s.tdm.peer.state = 5 && s.tdm.peer.flags.testBit 5 &&
  !s.rdb .tdm R.PAGE.FLAGS 15 && s.tdm.askChannels = [] && s.tdm.askSlots = [] && !s.tdm.askFull && fresh

/-- The same conditions as the joined standby sees them (log entry 19). -/
def State.relayFollows (s : State) : Bool :=
  s.mode = .standby && s.tdm.joined && s.tdm.peer.state = 4 && !s.tdm.silent && !s.rdb .tdm R.PAGE.FLAGS 15 &&
  !s.tdm.repairOut

/-- PLANNED_RELAY at its effect tick: whether it is refused, and the state after. -/
def State.plannedRelay (s : State) : Bool × State :=
  if (s.mode = .active && s.relayAllowed) || s.relayFollows then
    (false, s.setTdm (fun t => { t with relayAt := s.relayPeriod }))
  else (true, s)

/-! ### Judgement and effect (R399) -/

/-- The judgement-time check of a command's content or effect chapter fails. -/
def refuseAtJudgement (s : State) (m : List Byte) : Bool :=
  let p := cmdParams m
  match byteAt m 1 with
  | 0x02 => 1 < byteAt p 0
  | 0x03 => s.limitRefused p
  | 0x04 => !(3 ≤ byteAt p 0 && byteAt p 0 ≤ 6)
  | 0x07 => s.activateRefused (byteAt p 0) (leAt p 4 8)
  | 0x08 => keyLoadRefused s (byteAt m 4) p
  | 0x0A => leAt p 0 2 = 0 || 168 < leAt p 0 2
  | _ => false

/-- A command at the start of its effect tick: none where its status is decided later, else whether it is refused; and
the state after. -/
def State.commandEffect (s : State) (m : List Byte) : Option Bool × State :=
  let p := cmdParams m
  match byteAt m 1 with
  | 0x01 => let (r, s) := s.releases 2 (bits (byteAt p 0) 3 0); (some r, s)
  | 0x02 => (some false, { s with loops := { s.loops with dispOn := byteAt p 0 = 1 } })
  | 0x03 => (some false, (s.limitChange m).saveLimits)
  | 0x04 => s.roleAssign (byteAt p 0) m
  | 0x05 => let (r, s) := s.plannedRelay; (some r, s)
  | 0x06 => let (r, s) := s.sbxClear (leAt p 0 4) (byteAt m 4) (leAt m 0x10 8); (some r, s)
  | 0x07 => (some false, s.activate (byteAt p 0) (leAt p 4 8))
  | 0x08 => (some false, s.applyKeyLoad (byteAt m 4) m)
  | 0x09 => let (r, s) := s.commitSig (leAt p 0 4); (some r, s)
  | 0x0A => (some false, s.calStart ((s.tick - 2) * 500000) (leAt p 0 2))
  | _ => (some true, s)

/-- A mirrored pair-scope command raises the standby's last counter (R401). -/
def State.takeCounter (s : State) (m : List Byte) : State :=
  if cmdPairScope (byteAt m 1) then
    s.raiseCounter (byteAt m 4) (leAt m 0x10 8)
  else s

/-- A KIND 0x0002 item at its effect tick: a module-scope command acts only in the module it names. -/
def State.commandItem (s : State) (content : List Byte) : State :=
  let m := content.drop 4
  if !cmdPairScope (byteAt m 1) && leAt m 8 8 != Config.modId.toNat then s
  else
    let (r, s) := s.commandEffect m
    match r with
    | some refused => s.decideCommand m refused
    | none => s

/-! ### The commands -/

/-- CONTACTOR_RELEASE (R245, R398). -/
def execContactorRelease (dt : Nat) (path : CmdPath) (h : CmdHead) (groups : BitVec 4) (s : State) :
    Host.Outcome State Fault Refusal :=
  .next ((s.elapse dt).command refuseAtJudgement path (cmdMessage 0x01 h (leBytes 4 groups.toNat)))

/-- DISPATCH_ENABLE (R225, R398). -/
def execDispatchEnable (dt : Nat) (path : CmdPath) (h : CmdHead) (enable : Bool) (s : State) :
    Host.Outcome State Fault Refusal :=
  .next ((s.elapse dt).command refuseAtJudgement path (cmdMessage 0x02 h (leBytes 4 (b2n enable))))

/-- LIMIT_WRITE (R241, R398). -/
def execLimitWrite (dt : Nat) (path : CmdPath) (h : CmdHead) (change : LimitChange) (newCrc : Word) (s : State) :
    Host.Outcome State Fault Refusal :=
  .next ((s.elapse dt).command refuseAtJudgement path (cmdMessage 0x03 h
    ([change.kind, 0] ++ leBytes 2 change.first.toNat ++ leBytes 2 change.last.toNat ++ zeros 2 ++
      (change.part ++ zeros 24).take 24 ++ leBytes 4 newCrc.toNat)))

/-- ROLE_ASSIGN (R18, R398). -/
def execRoleAssign (dt : Nat) (path : CmdPath) (h : CmdHead) (role : Byte) (s : State) :
    Host.Outcome State Fault Refusal :=
  .next ((s.elapse dt).command refuseAtJudgement path (cmdMessage 0x04 h [role, 0, 0, 0]))

/-- PLANNED_RELAY (R302, R398). -/
def execPlannedRelay (dt : Nat) (path : CmdPath) (h : CmdHead) (s : State) : Host.Outcome State Fault Refusal :=
  .next ((s.elapse dt).command refuseAtJudgement path (cmdMessage 0x05 h []))

/-- STRONGBOX_CLEAR (R339, R398). -/
def execStrongboxClear (dt : Nat) (path : CmdPath) (h : CmdHead) (x : Word) (s : State) :
    Host.Outcome State Fault Refusal :=
  .next ((s.elapse dt).command refuseAtJudgement path (cmdMessage 0x06 h (leBytes 4 x.toNat)))

/-- FW_ACTIVATE (R398, R415). -/
def execFwActivate (dt : Nat) (path : CmdPath) (h : CmdHead) (slot : Byte) (activateAt : BitVec 64) (s : State) :
    Host.Outcome State Fault Refusal :=
  .next ((s.elapse dt).command refuseAtJudgement path (cmdMessage 0x07 h ([slot, 0, 0, 0] ++ leBytes 8 activateAt.toNat)))

/-- KEY_LOAD (R398, R406). -/
def execKeyLoad (dt : Nat) (path : CmdPath) (h : CmdHead) (target : Byte) (perm : BitVec 16) (wrapped : List Byte)
    (s : State) : Host.Outcome State Fault Refusal :=
  .next ((s.elapse dt).command refuseAtJudgement path (cmdMessage 0x08 h
    ([target, 0] ++ leBytes 2 perm.toNat ++ (wrapped ++ zeros 40).take 40)))

/-- CONFIG_SIGNATURE_COMMIT (R41, R398). -/
def execConfigSignatureCommit (dt : Nat) (path : CmdPath) (h : CmdHead) (sig : Word) (s : State) :
    Host.Outcome State Fault Refusal :=
  .next ((s.elapse dt).command refuseAtJudgement path (cmdMessage 0x09 h (leBytes 4 sig.toNat)))

/-- CALIBRATION_CYCLE (R163, R398). -/
def execCalibrationCycle (dt : Nat) (path : CmdPath) (h : CmdHead) (hours : BitVec 16) (s : State) :
    Host.Outcome State Fault Refusal :=
  .next ((s.elapse dt).command refuseAtJudgement path (cmdMessage 0x0A h (leBytes 4 hours.toNat)))

/-- MALFORMED_COMMAND_MESSAGE (R399): a message whose VER, CODE, PLEN, SLOT, reserved bytes or length is wrong is judged
like any other, and rejected 0x0104. A message of the right form is no such message. -/
def execMalformedCommandMessage (dt : Nat) (path : CmdPath) (bytes : List Byte) (s : State) :
    Host.Outcome State Fault Refusal :=
  let s := s.elapse dt
  if cmdFormOk bytes then .next s else .next (s.command refuseAtJudgement path bytes)

end Sys2Proof.Machine
end

