-- ==== Sys2Proof/Machine/Events.lean ====
section
/-! DEFINITION. Event inputs and mirrored items at their effect tick (R67, R170, R213, R280, R282). -/

namespace Sys2Proof.Machine

open Sys2Proof

/-- A KIND 0x0001 item: a write of an event-input register takes effect (R222). -/
def State.registerItem (s : State) (c : List Byte) : State :=
  let off := leAt c 0 4
  let v := BitVec.ofNat 32 (leAt c 4 4)
  match Page.ofOffset off with
  | some .trip => s.tripCmdEffect v.toNat
  | some .cth => s.coolEffect ((off - Page.cth.base - R.CTH.TCOOL 0) / 4) v
  | some p => s.loopEffect p (off - p.base) v
  | none => s

/-- A KIND 0x0005 item (R170): a standby whose own image differs takes the active's and asks for the channel's state. -/
def State.journalItem (s : State) (c : List Byte) : State :=
  let r := leAt c 0 2
  let img := slice c 4 64
  if s.mode != .standby || jrnSame img (s.jrnContent r) then s
  else
    let s := s.jrnQueue r img
    if 65 ≤ r then s.askRepair 0 [r - 65] else if 1 ≤ r then s.askRepair 0 ((List.range 8).map (fun k => 8 * (r - 1) + k))
    else s.askFullRepair

/-- A KIND 0x0006 item (R213): a standby whose own plan of that step differs asks for the state of the channels
concerned. -/
def State.planItem (s : State) (c : List Byte) : State :=
  match s.planOf (leAt c 0 8) with
  | some plan =>
    let bad := (List.range 512).filter (fun n => signed 16 (leAt c (16 + 2 * n) 2) != sget 0 plan n)
    if s.mode != .standby || !s.running .bal || bad = [] then s else s.askRepair 0 bad
  | none => s

/-- A KIND 0x0007 item (R382): the standby takes the servo state and the delays of the active. -/
def State.timeTake (s : State) (c : List Byte) : State :=
  if s.mode != .standby && !s.tdm.joining then s
  else
    let t := { s.time with
      rate := signed 32 (leAt c 4 4)
      integ := signed 64 (leAt c 8 8)
      mean := signed 32 (leAt c 16 4) * 256
      neigh := signed 32 (leAt c 20 4) * 256
      port := if byteAt c 1 < 4 then byteAt c 1 else 15 }
    { s with time := t }

/-- A KIND 0x0008 item (R299): the standby takes the proposal, to echo it, and the lease term. -/
def State.witnessItem (s : State) (c : List Byte) : State :=
  if s.mode != .standby && !s.tdm.joining then s
  else (s.takeProposal (byteAt c 0 % 4)).setTdm (fun t => { t with term := max t.term (leAt c 4 4) })

/-- A front-end's verdict at its effect tick (R99): from this tick its data counts or is left out, and the step of
this stage takes the verdict (R66). -/
def State.verdictItem (s : State) (c : List Byte) : State :=
  let n := byteAt c 0
  let p := byteAt c 1
  let v := byteAt c 2
  let s := s.setFe n p { s.fe n p with use := v = 1 || v = 3, serv := v = 1 || v = 3 }
  { s with est := { s.est with verdicts := s.est.verdicts ++ [(4 * n + p, v)] } }

/-- A verdict in the estimator (R99, R136): case 1 the held identity passed, 2 it failed, 3 a new identity passed, 4 a
new identity failed; in the last two the channels are Unknown and their learned capacity is gone. -/
def State.takeVerdict (s : State) (f v : Nat) : State :=
  (List.range 8).foldl (fun s k =>
    let ch := 8 * f + k
    match v with
    | 1 => s.modChan ch (fun v => { v with held := false })
    | 2 => s.modChan ch (fun v => { v with held := true })
    | 3 => (s.modChan ch (fun v => { v with want := true, unknown := true, held := false })).jrnPut (65 + ch) 8 (zeros 52)
    | 4 => (s.modChan ch (fun v => { v with want := true, unknown := true })).jrnPut (65 + ch) 8 (zeros 52)
    | _ => s) s

/-- At the end of a stage its verdicts, and a calibration that started in it, reach the estimator (R66). -/
def State.takeVerdicts (s : State) : State :=
  let l := s.est.verdicts
  l.foldl (fun (s : State) e => if e.1 = 64 then s.calArm else s.takeVerdict e.1 e.2) { s with est := { s.est with verdicts := [] } }

/-- An item at its effect tick. -/
def State.applyItem (s : State) (e : EvItem) : State :=
  match e.kind with
  | 1 => s.registerItem e.content
  | 2 => s.commandItem e.content
  | 3 => s.setPointEffect e.content
  | 4 => s.espEffect e.content
  | 5 => s.journalItem e.content
  | 6 => s.planItem e.content
  | 7 => s.timeTake e.content
  | 8 => s.witnessItem e.content
  | 0x8001 => s.verdictItem e.content
  | _ => s

/-- The dispatch target follows what an item changed (R225); in rest it is formed at span boundaries only. -/
def State.dispatchNow (s : State) : State := if s.tb.rest && s.tick % 200 != 0 then s else s.dispatchTick

/-- The EVENT entry of an event input (R313). -/
def State.eventEntry (s : State) (e : EvItem) : State :=
  if 1 ≤ e.kind && e.kind ≤ 4 then
    s.wayEntry 0x07 (leBytes 8 e.mseq ++ leBytes 2 e.kind ++ leBytes 2 e.content.length ++ leBytes 8 e.effect ++ e.content)
  else s

/-- The earliest item whose effect tick has begun: by effect tick, then as accepted. -/
def State.dueItem (s : State) : Option EvItem :=
  (s.events.filter (fun e => e.effect ≤ s.tick)).foldl (fun (m : Option EvItem) e =>
    match m with
    | some x => if e.effect < x.effect then some e else some x
    | none => some e) none

/-- EVENT_INPUT_EFFECT (R67): the earliest input whose effect tick has begun takes effect. -/
def execEventInputEffect (s : State) : Host.Outcome State Fault Refusal :=
  match s.dueItem with
  | none => .next s
  | some e =>
    let s := { s with events := s.events.erase e }
    .next ((s.eventEntry e).applyItem e).dispatchNow

end Sys2Proof.Machine
end

