-- ==== Sys2Proof/Machine/Repair.lean ====
section
/-! DEFINITION. Repair and joining: digests and repair frames as they arrive, the installation of an answer, the join's
end (R284 to R289). -/

namespace Sys2Proof.Machine

open Sys2Proof

/-- An internal wait reached its bound (R441). -/
def State.waitBound (s : State) : State := (s.inc .sys R.SYS.WAITTO).flag .sys 10

/-- The join ends if its conditions hold by now; the command that asked for it is decided. -/
def State.joinStep (s : State) : State :=
  let (cmd, s) := s.tryJoin
  match cmd with
  | some m => s.decideCommand m false
  | none => s

/-- STAGE_DIGEST (R286): the peer's digest of a step is compared once the own one stands. -/
def execStageDigest (dt : Nat) (f : TandemHead) (bytes : List Byte) (s : State) : Host.Outcome State Fault Refusal :=
  let (ok, s) := (s.elapse dt).takeFrame 0x03 f bytes
  if ok then .next (s.setTdm (fun t => { t with peerDigest := bytes })).compareStage.trialOut else .next s

/-- LOOP_DIGEST (R286). -/
def execLoopDigest (dt : Nat) (f : TandemHead) (bytes : List Byte) (s : State) : Host.Outcome State Fault Refusal :=
  let (ok, s) := (s.elapse dt).takeFrame 0x04 f bytes
  if ok then .next (s.setTdm (fun t => { t with peerLoop := bytes })).compareLoop.trialOut else .next s

/-- REPAIR_REQ (R287): the active notes what it is asked for; the answers go out after its next step and at the next
multiple of 1 ms. -/
def execRepairReq (dt : Nat) (f : TandemHead) (bytes : List Byte) (s : State) : Host.Outcome State Fault Refusal :=
  let (ok, s) := (s.elapse dt).takeFrame 0x05 f bytes
  if ok && s.mode = .active then
    let full := byteAt bytes 4 = 2
    let chans := (List.range (leAt bytes 6 2)).map (fun k => leAt bytes (16 + 2 * k) 2)
    .next (s.setTdm (fun t => { t with
      askReq := leAt bytes 0 4
      askPart := 0
      askFull := full
      askChannels := if full then [] else chans
      askSlots := (List.range 8).filter (fun n => full || (byteAt bytes 5).testBit n) }))
  else .next s

/-! ### Installation (R287) -/

/-- The blocks of an answer that have arrived whole: type and body (R280); and the bytes beyond them. -/
def parseBlocks : Nat → List Byte → List (Nat × List Byte) × List Byte
  | 0, b => ([], b)
  | n + 1, b =>
    let len := leAt b 1 3
    let size := 4 + (len + 3) / 4 * 4
    if b.length < 4 || b.length < size then ([], b)
    else
      let (l, rest) := parseBlocks n (b.drop size)
      ((byteAt b 0, slice b 4 len) :: l, rest)

/-- The items of a MIRROR payload, in order (R280); `n` bounds their number. -/
def parseItems : Nat → List Byte → List EvItem
  | 0, _ => []
  | n + 1, m =>
    if m.length < 0x18 then []
    else
      let ilen := leAt m 0x0A 2
      ⟨leAt m 0 8, leAt m 8 2, leAt m 0x10 8, slice m 0x18 ilen⟩ ::
        parseItems n (m.drop (0x18 + (ilen + 3) / 4 * 4))

/-- A slot's state read from its 100-byte image (R233). -/
def parseSlot (law : Nat) (v : SlotSt) (b : List Byte) : SlotSt :=
  let q := fun (k : Nat) => signed 64 (leAt b (8 * k) 8)
  let v := { v with
    nz := [q 0, q 1, q 2, q 3]
    p := q 10
    v := q 11
    pcount := leAt b 96 2
    mode := leAt b 98 2
    fresh := false }
  match law with
  | 0 => { v with i := q 4, d := q 5, e1 := q 6 }
  | 1 => { v with eh := [q 4, q 5, 0], uh := [q 6, q 7, 0] }
  | 2 => { v with eh := [q 4, q 5, q 6], uh := [q 7, q 8, q 9] }
  | _ => v

/-- A channel block: installed in place of the own result of the same step, or kept until the own step is done. -/
def State.channelBlock (s : State) (b : List Byte) : State :=
  let c := leAt b 0 2
  let stage := leAt b 4 8
  let img := b.drop 12
  let own := (s.chanEst c).last
  if own < stage then s.setTdm (fun t => { t with repairWait := t.repairWait ++ [(stage, c, img)] })
  else if own = stage then s.installChannel c stage img
  else s

/-- A slot block: the image is installed and the slot runs again on its held samples. -/
def State.slotBlock (s : State) (b : List Byte) : State :=
  let n := byteAt b 0 % 8
  let v := parseSlot (s.rdf (loopPage n) R.LOOP.LAW 1 0) (s.slot n) (b.drop 20)
  s.slotRerun n (leAt b 12 8) v

/-- A journal block: the active's content replaces an image that differs (R170). -/
def State.journalBlock (s : State) (b : List Byte) : State :=
  let r := leAt b 0 2
  let img := slice b 4 64
  if jrnSame img (s.jrnContent r) then s else s.jrnQueue r img

/-- The contiguous run of sequences received grows over those that came beyond a gap. -/
def contiguous : Nat → Nat → List Nat → Nat
  | 0, q, _ => q
  | n + 1, q, l => if l.contains (q + 1) then contiguous n (q + 1) l else q

/-- The sequences up to `q` are covered, from `base` on; those of `ahead` beyond it wait behind a gap, timed from when
it was found (R284). -/
def TdmSt.seqUpTo (t : TdmSt) (base q : Nat) (ahead : List Nat) (mt : Nat) : TdmSt :=
  let rest := ahead.filter (q < ·)
  { t with
    mseqIn := q
    mseqAhead := rest
    gapMt := if rest = [] then none else if t.mseqAhead = [] || base < q then some mt else t.gapMt }

/-- A mirrored-state block: the sequence it covers, and its items. -/
def State.mirroredBlock (s : State) (b : List Byte) : State :=
  let q := leAt b 0 8
  let s := s.setTdm (fun t =>
    let base := max t.mseqIn q
    t.seqUpTo base (contiguous t.mseqAhead.length base t.mseqAhead) t.mseqAhead s.mt)
  (parseItems b.length (b.drop 8)).foldl (fun s e =>
    if e.effect = 0 then s.applyItem e
    else if s.tick < e.effect && !s.events.contains e then { s with events := s.events ++ [e] }
    else s) s

def State.installBlock (s : State) (x : Nat × List Byte) : State :=
  match x.1 with
  | 1 => s.channelBlock x.2
  | 2 => s.slotBlock x.2
  | 3 => s.journalBlock x.2
  | 4 => s.mirroredBlock x.2
  | _ => s

/-- A completed repair is counted and flagged (R287); a full one lets a join go on (R289). -/
def State.repairDone (s : State) : State :=
  let full := s.tdm.repairFull
  let s := (s.inc .tdm R.TDM.REPAIRS).flag .tdm 11
  let s := s.setTdm (fun t => { t with
    repairOut := false
    repairBytes := []
    repairSlots := 0
    repairChans := []
    repairMts := s.mt :: t.repairMts.take 999
    repairStage := s.stage :: t.repairStage.take 599
    fullRepaired := t.fullRepaired || full
    journalTaken := t.journalTaken || full })
  s.joinStep

/-- REPAIR_DATA (R280, R287): the parts of the answer to the outstanding request, in order. A block is installed when
it is whole, so that a slot's image is not older than the samples held; the last part completes the repair. -/
def execRepairData (dt : Nat) (f : TandemHead) (bytes : List Byte) (s : State) : Host.Outcome State Fault Refusal :=
  let (ok, s) := (s.elapse dt).takeFrame 0x06 f bytes
  if !ok || !s.tdm.repairOut || leAt bytes 0 4 != s.tdm.repairReq || leAt bytes 4 2 != s.tdm.repairPart then .next s
  else
    let all := s.tdm.repairBytes ++ bytes.drop 8
    let (blocks, rest) := parseBlocks all.length all
    let s := s.setTdm (fun t => { t with repairPart := t.repairPart + 1, repairBytes := rest })
    let s := blocks.foldl State.installBlock s
    if byteAt bytes 6 = 1 then .next s.repairDone else .next s

/-- CMD.REPAIR_ALL: a standby asks for a full repair. -/
def State.repairAll (s : State) : State :=
  if s.mode = .standby && s.tandemed then s.askFullRepair else s

/-- REPAIR_ALL (R287): a standby's host asks for a full repair. -/
def execRepairAll (dt : Nat) (s : State) : Host.Outcome State Fault Refusal :=
  .next ((s.elapse dt).hostDo .tdm (fun (s : State) => s.repairAll))

/-- JOIN_TIMEOUT (R289): a module that has not joined within t_join, 2 s, leaves the ROLE_ASSIGN rejected. -/
def execJoinTimeout (dt : Nat) (s : State) : Host.Outcome State Fault Refusal :=
  let s := s.elapse dt
  if s.tdm.joining && s.tdm.joinMt + 2000000000 ≤ s.mt then
    let cmd := s.tdm.joinFor
    let s := s.dropJoin.waitBound
    match cmd with
    | some m => .next (s.decideCommand m true)
    | none => .next s
  else .next s

/-- NETWORK_SESSION_STATE_MIRROR (R282): once per second the active mirrors its servo state and source. -/
def execNetworkSessionStateMirror (dt : Nat) (s : State) : Host.Outcome State Fault Refusal :=
  let s := s.elapse dt
  if s.mode = .active && s.tandemed && s.tdm.sessionMt + 1000000000 ≤ s.mt then
    .next ((s.setTdm (fun t => { t with sessionMt := s.mt })).mirrorItem 0x0007 (s.tick + 2) s.timeItem)
  else .next s

end Sys2Proof.Machine
end

