-- ==== Sys2Proof/Machine/Tandem.lean ====
section
/-! DEFINITION. Tandem: links, heartbeats, mirror gaps, digests, repair, health, the drive interlock and the relays
(R276 to R306). -/

namespace Sys2Proof.Machine

open Sys2Proof

/-- LINK_DOWN (R278): nothing on this link for t_silent while the other delivers. -/
def execLinkDown (dt : Nat) (lane : Fin 2) (s : State) : Host.Outcome State Fault Refusal :=
  let s := s.elapse dt
  let own := s.link lane.val
  let other := s.link (1 - lane.val)
  if s.tandemed && !own.down && own.lastMt + tSilent ≤ s.mt && s.mt < other.lastMt + tSilent then
    .next (((s.setLink lane.val { own with up := false, down := true }).inc .tdm (R.TDM.LINKDN0 + 4 * lane.val)).flag .tdm 8)
  else .next s

/-- LINK_UP (R278): valid frames without a gap of t_silent for t_link_up, 1 ms. -/
def execLinkUp (dt : Nat) (lane : Fin 2) (s : State) : Host.Outcome State Fault Refusal :=
  let s := s.elapse dt
  let own := s.link lane.val
  if s.tandemed && !own.up && own.runMt + 1000000 ≤ s.mt && s.mt < own.lastMt + tSilent then
    .next (s.setLink lane.val { own with up := true, down := false })
  else .next s

/-! ### Heartbeats (R279) -/

/-- FLAGS of a heartbeat. -/
def State.beatFlags (s : State) : Nat :=
  b2n s.posB + 2 * b2n s.sys.driveEn + 4 * b2n s.alive + 8 * b2n s.tdm.witLost + 16 * b2n s.tdm.fenced +
  32 * b2n s.tdm.joined + 64 * b2n (s.rdb .cfgx R.CFGX.STAT 0) + 128 * b2n s.tdm.double

/-- The heartbeat's 48 bytes (R279). -/
def State.beatBytes (s : State) : List Byte :=
  [BitVec.ofNat 8 s.mode.code, BitVec.ofNat 8 s.beatFlags, BitVec.ofNat 8 s.tripStates,
   BitVec.ofNat 8 (s.safe.tpoSince &&& s.tpDriving)] ++ leBytes 2 s.sutBits ++
  [BitVec.ofNat 8 s.lockBits, BitVec.ofNat 8 (s.tdm.widx + 4 * s.tdm.widxProposed)] ++ leBytes 8 s.mt ++
  leBytes 4 s.tdm.term ++ leBytes 4 (s.rdn .est R.PAGE.CFG_REF) ++ leBytes 4 (s.rdn .prot R.PROT.LIM_CRC) ++
  leBytes 4 (s.rdn .cfgx R.CFGX.SIG_LIVE) ++ leBytes 8 s.tdm.mseqIn ++ leBytes 4 s.arithId ++ zeros 4

/-- HEARTBEAT_SEND (R279): at a multiple of t_hb, 20 µs, once, in UNCONFIGURED, READY or a role. -/
def execHeartbeatSend (dt : Nat) (s : State) : Host.Outcome State Fault Refusal :=
  let s := s.elapse dt
  if s.mode.speaks && s.tandemed && s.mt % 20000 = 0 && s.tdm.beatMt != s.mt then
    let s := (s.sendFrame 0x01 s.beatBytes).setTdm (fun t => { t with beatMt := s.mt })
    .next { s with safe := { s.safe with tpoSince := s.tpDriving } }
  else .next s

/-- A heartbeat's payload read back. -/
def parseBeat (m : List Byte) (mt : Nat) : PeerSt where
  state := byteAt m 0
  flags := byteAt m 1
  tripst := byteAt m 2
  tpo := byteAt m 3
  sutclr := leAt m 4 2
  lock := byteAt m 6
  widx := byteAt m 7
  mt := leAt m 8 8
  term := leAt m 0x10 4
  estRef := leAt m 0x14 4
  limCrc := leAt m 0x18 4
  sig := leAt m 0x1C 4
  ackseq := leAt m 0x20 8
  arith := leAt m 0x28 4
  heard := true
  heardMt := mt

/-- The interlock levels are compared with those the heartbeat reports (R294): 3 disagreements in a row set ILK. -/
def State.compareInterlock (s : State) : State :=
  let agree := s.tdm.peerDriveEn = s.tdm.peer.flags.testBit 1 && s.tdm.peerAlive = s.tdm.peer.flags.testBit 2
  if agree then
    s.setTdm (fun t => { t with ilkRun := 0, ilkAgreeMt := if t.ilkRun = 0 then t.ilkAgreeMt else s.mt })
  else
    let s := s.setTdm (fun t => { t with ilkRun := t.ilkRun + 1, ilkAgreeMt := s.mt })
    if s.tdm.ilkRun = 3 then s.flag .tdm 15 else s

/-- Agreement on the witness index (R299): a standby echoes the active's proposal and follows its index in force; an
active adopts its proposal once the standby echoes it, and proposes the next entry when the standby reports the loss. -/
def State.agreeWitness (s : State) : State :=
  let inForce := s.tdm.peer.widx % 4
  let proposed := s.tdm.peer.widx / 4 % 4
  if s.mode = .standby && s.tdm.peer.state = 4 then
    (s.takeProposal proposed).useWitness inForce
  else if s.mode = .active then
    if s.tdm.widxProposed != s.tdm.widx then
      (if proposed = s.tdm.widxProposed then s.useWitness s.tdm.widxProposed else s)
    else if s.tdm.peer.flags.testBit 3 && inForce = s.tdm.widx then
      s.proposeWitness s.nextEntry
    else s
  else s

/-- Does the peer report a role? -/
def PeerSt.inRole (p : PeerSt) : Bool := 4 ≤ p.state && p.state ≤ 6

/-- What a heard heartbeat says is kept; it ends silence, and with it a double fault. -/
def TdmSt.hear (t : TdmSt) (bytes : List Byte) (mt : Nat) : TdmSt :=
  let p := parseBeat bytes mt
  { t with
    peer := p
    silent := false
    double := false
    peerRoleMt := if t.peer.heard && t.peer.inRole && !t.silent then t.peerRoleMt else mt
    term := max t.term p.term }

/-- A STANDBY slews MT toward the active's (R56, R57, R279): by at most 200 ppm of the time since the heartbeat
before, never back behind MT as it stood before the command, never over a tick boundary. The link delay, half the mean
round trip over 64 pairs of heartbeats, is a free value: no field of a frame carries the stamps it is formed from (log
entry 109). -/
def State.followPeer (s : State) (was heard : Nat) : State :=
  if s.mode = .standby && s.tdm.peer.state = 4 then
    let (k, s) := s.draw
    let delay := Config.freeNat k
    let most : Int := ((s.mt - heard) / 5000 : Nat)
    let off : Int := (s.tdm.peer.mt + delay : Nat) - (s.mt : Int)
    let mt := (s.mt + max (-most) (min most off)).toNat
    let start := s.tick * 500000
    s.atMt (max (max was start) (min mt (start + 499999)))
  else s

/-- HEARTBEAT (R276, R279): a heartbeat whose check fails, or that reports the same position, is discarded, counted and
flagged. A heard one ends silence, carries ACKSEQ and the peer's term, and is compared and followed. -/
def execHeartbeat (dt : Nat) (f : TandemHead) (bytes : List Byte) (s : State) : Host.Outcome State Fault Refusal :=
  let was := s.mt
  let s := s.elapse dt
  let good := s.frameGood 0x01 f bytes
  let (ok, s) := s.takeFrame 0x01 f bytes
  if !ok then .next (if s.tandemed && !good then s.flag .tdm 19 else s)
  else if (byteAt bytes 1).testBit 0 = s.posB then .next ((s.inc .tdm R.TDM.CRCERR).flag .tdm 19)
  else
    let heard := s.tdm.peer.heardMt
    let s := (s.setTdm (fun t => t.hear bytes s.mt)).followPeer was heard
    let s := s.compareInterlock.agreeWitness
    .next s.adoptPeerTrips.markPeerPulses.joinBegin.joinStep

/-- PEER_SILENT (R279, R298, R306): no heartbeat for t_silent. A standby asks the witness in force, or is in a double
fault when that is lost. -/
def execPeerSilent (dt : Nat) (s : State) : Host.Outcome State Fault Refusal :=
  let s := s.elapse dt
  if s.tandemed && !s.tdm.silent && s.tdm.peer.heardMt + tSilent ≤ s.mt then
    let s := (s.setTdm (fun t => { t with silent := true })).flag .tdm 9
    let s := if s.tdm.widxProposed != s.tdm.widx then s.useWitness s.tdm.widxProposed else s
    if s.mode = .standby then
      .next (if s.tdm.witLost then s.doubleFault 1 else s.acquire)
    else .next s
  else .next s

/-- INTERLOCK_AGREEMENT (R294): ILK clears after 1 s of agreement. -/
def execInterlockAgreement (dt : Nat) (s : State) : Host.Outcome State Fault Refusal :=
  let s := s.elapse dt
  if s.tdm.ilkRun = 0 && s.tdm.ilkAgreeMt + 1000000000 ≤ s.mt && s.rdb .tdm R.PAGE.FLAGS 15 then
    .next ((s.wrb .tdm R.PAGE.FLAGS 15 false).pageLine .tdm)
  else .next s

/-! ### The drive interlock (R292) -/

/-- PEER_DRIVE_EN reads high (R292): with DRIVE_EN high the module drives it low, counts and records the drop, and raises it
again only under the rules of relays. A module without a tandem page takes no notice of the pin (R276). -/
def State.peerDriveHigh (s : State) : State :=
  let s := s.setTdm (fun t => { t with peerDriveEn := true })
  if s.tandemed && s.sys.driveEn then
    let s := s.driveLow.setTdm (fun t => { t with driveWanted := false })
    let s := s.inc .tdm R.TDM.ILKERR
    s.record .tdm 0x03 ([2, BitVec.ofNat 8 s.mode.code, 0, 0] ++ leBytes 8 s.tb0Number ++
      leBytes 4 (s.rdn .tdm R.TDM.ILKERR))
  else s

/-- PEER_DRIVE_EN reads low. -/
def State.peerDriveLow (s : State) : State :=
  s.setTdm (fun t => { t with
    peerDriveEn := false
    peerLowSince := if t.peerDriveEn then s.mt else t.peerLowSince })

/-- PEER_DRIVE_EN_HIGH (R292). -/
def execPeerDriveEnHigh (dt : Nat) (s : State) : Host.Outcome State Fault Refusal := .next (s.elapse dt).peerDriveHigh

/-! ### The mirror (R282 to R284) -/

/-- The sequence received before an item, as a standby or joining module counts it: what it mirrored itself while it
was active belongs to it (log entry 106). -/
def State.seqBase (s : State) : Nat :=
  if s.mode = .standby || s.tdm.joining then max s.tdm.mseqIn s.tdm.mseqOut else s.tdm.mseqIn

/-- A sequence is received. Only a standby or joining module waits for what a gap leaves out. -/
def State.noteSeq (s : State) (q : Nat) : State :=
  if s.mode = .standby || s.tdm.joining then
    let base := s.seqBase
    s.setTdm (fun t =>
      let ahead := q :: t.mseqAhead
      t.seqUpTo base (contiguous ahead.length base ahead) ahead s.mt)
  else s.setTdm (fun t => { t with mseqIn := q })

/-- One mirrored item: a copy is ignored; an event input whose effect tick has begun is discarded and its channels or
slots are asked for (R67); the others wait for their effect tick. -/
def State.takeItem (s : State) (e : EvItem) : State :=
  if e.mseq ≤ s.seqBase || s.tdm.mseqAhead.contains e.mseq then s
  else
    let s := s.noteSeq e.mseq
    let s := if e.kind = 2 then s.takeCounter (e.content.drop 4) else s
    if (e.kind ≤ 4 || e.kind = 0x8001) && e.effect != 0 && e.effect ≤ s.tick && s.mode = .standby then s.askRepairFor e
    else if e.effect = 0 then (if e.kind = 2 then s else s.applyItem e)
    else { s with events := s.events ++ [e] }

/-- MIRROR (R282): the standby takes the items of a frame. -/
def execMirror (dt : Nat) (f : TandemHead) (bytes : List Byte) (s : State) : Host.Outcome State Fault Refusal :=
  let (ok, s) := (s.elapse dt).takeFrame 0x02 f bytes
  if ok then .next ((parseItems bytes.length bytes).foldl State.takeItem s) else .next s

/-- MIRROR_GAP (R284): a gap of MSEQ unfilled for t_mir_gap, 100 µs, asks for a full repair; it is flagged and counted
and never counts toward a standby fault. -/
def execMirrorGap (dt : Nat) (s : State) : Host.Outcome State Fault Refusal :=
  let s := s.elapse dt
  if s.mode = .standby && s.tdm.gapMt.any (fun m => m + 100000 ≤ s.mt) then
    let s := (s.inc .tdm R.TDM.MIRGAPS).flag .tdm 18
    .next ((s.setTdm (fun t => { t with gapMt := none, gapStage := s.stage :: t.gapStage.take 600 })).askFullRepair)
  else .next s

/-! ### Health (R290) -/

/-- LBK of HEALTH (R290): a stage that is driven, with no mismatch in the last second (log entry 20). -/
def State.loopbackBits (s : State) : Nat :=
  let clean := fun (k : Nat) => s.sys.lbkMis.all (fun e => e.1 != k || decide (e.2 + 1000000000 ≤ s.mt))
  let driven := fun (k : Nat) => match k with
    | 0 => s.running .pwm && s.mode.runsString
    | 1 => (List.range 4).any (fun n => s.keepLevel n = .toggling)
    | 2 => s.running .trip
    | 3 => s.sys.driveEn
    | 4 => s.tpDriving != 0
    | _ => s.running .mod
  bitsOf (fun k => driven k && clean k) 6

/-- DRIVE_AGE of HEALTH: days since DRIVE_EN was last high. -/
def State.driveAge (s : State) : Nat :=
  if s.sys.driveEn then 0
  else match s.tdm.lastDrive, s.sys.driveFell with
    | none, none => 0xFFFF
    | some m, none => min ((s.mt - m) / 86400000000000) 0xFFFF
    | none, some m => min ((s.mt - m) / 86400000000000) 0xFFFF
    | some m, some n => min ((s.mt - max m n) / 86400000000000) 0xFFFF

/-- The HEALTH record (R290). -/
def State.healthBytes (s : State) : List Byte :=
  let win := s.rdf .tdm R.TDM.CFG 31 16
  let flags := b2n s.tdm.joined + 2 * b2n (s.link 0).up + 4 * b2n (s.link 1).up + 8 * b2n s.tdm.witLost +
    16 * b2n s.tdm.held + 32 * b2n s.tdm.double + 64 * b2n (s.rdb .tdm R.PAGE.FLAGS 15)
  let b := [BitVec.ofNat 8 s.mode.code, BitVec.ofNat 8 flags,
      BitVec.ofNat 8 (popCount (s.rdn .ost R.OST.RETIRED) 32), BitVec.ofNat 8 (s.rdf .thm R.THM.STAT 1 0)] ++
    leBytes 2 (s.tdm.unexpl.filter (fun g => s.stage < g + win)).length ++
    leBytes 2 (s.tdm.repairMts.filter (fun m => s.mt < m + 1000000000)).length ++ leBytes 8 s.mt ++
    leBytes 2 (s.rdf .thm R.THM.TJ 15 0) ++ leBytes 2 s.loopbackBits ++ leBytes 2 s.driveAge ++ zeros 2 ++
    leBytes 4 (s.rdn .est R.PAGE.CFG_REF) ++ leBytes 4 (s.rdn .cfgx R.CFGX.SIG_LIVE) ++
    leBytes 8 (s.rd64 .est R.EST.STAGE_LO R.EST.STAGE_HI) ++ zeros 20
  b ++ leBytes 4 (crc32c b)

/-- The 16 words of a record placed in registers from an offset. -/
def State.wrWords (s : State) (p : Page) (o n : Nat) (m : List Byte) : State :=
  (List.range n).foldl (fun s w => s.wrn p (o + 4 * w) (leAt m (4 * w) 4)) s

/-- The module's HEALTH record goes to the peer, the event ring and TDM.HEALTHw (R290). -/
def State.sendHealth (s : State) : State :=
  let h := s.healthBytes
  ((s.sendFrame 0x09 h).ringPush (8 + s.rdf .tdm R.TDM.CFG 3 0) 0 h).wrWords .tdm (R.TDM.HEALTH 0) 16 h

/-- HEALTH_SEND (R290): at an MT multiple of 1 s, once, in a role. -/
def execHealthSend (dt : Nat) (s : State) : Host.Outcome State Fault Refusal :=
  let s := s.elapse dt
  if s.mode.isRole && s.mt % 1000000000 = 0 && s.tdm.healthMt != s.mt then
    .next (s.setTdm (fun t => { t with healthMt := s.mt })).sendHealth
  else .next s

/-- CMD.HEALTH_NOW. -/
def State.healthNow (s : State) : State :=
  if s.mode.isRole then s.sendHealth else s

/-- HEALTH_NOW: a write of TDM.CMD.HEALTH_NOW sends a record in addition to the periodic one. -/
def execHealthNow (dt : Nat) (s : State) : Host.Outcome State Fault Refusal :=
  .next ((s.elapse dt).hostDo .tdm (fun (s : State) => s.healthNow))

/-- HEALTH (R290): the peer's record stands in TDM.PHEALTHw. -/
def execHealth (dt : Nat) (f : TandemHead) (bytes : List Byte) (s : State) : Host.Outcome State Fault Refusal :=
  let (ok, s) := (s.elapse dt).takeFrame 0x09 f bytes
  if ok && bytes.length = 64 && crc32c (bytes.take 60) = leAt bytes 60 4 then
    .next ((s.setTdm (fun t => { t with peerHealthMt := some s.mt })).wrWords .tdm (R.TDM.PHEALTH 0) 16 bytes)
  else .next s

/-- HEALTH_STALE (R290): a heard peer has been in a role for 3 s and has sent no HEALTH for 3 s. -/
def execHealthStale (dt : Nat) (s : State) : Host.Outcome State Fault Refusal :=
  let s := s.elapse dt
  let old := s.tdm.peerHealthMt.all (fun m => m + 3000000000 ≤ s.mt) && s.tdm.peerRoleMt + 3000000000 ≤ s.mt
  if s.tandemed && s.tdm.peer.heard && !s.tdm.silent && s.tdm.peer.inRole && old then
    .next (s.flag .tdm 17)
  else .next s

/-! ### Relays (R302 to R306) -/

/-- The relay record (R306, R335). -/
def State.relayRecord (s : State) (kind period cause : Nat) : State :=
  s.record .tdm 0x03 ([1, BitVec.ofNat 8 kind, BitVec.ofNat 8 s.mode.code, 0] ++ leBytes 4 s.tdm.term ++
    leBytes 8 period ++ leBytes 2 cause ++ zeros 2)

/-- A relay is counted by kind, flagged and recorded (R306): 1 planned, 2 abdication, 3 silent active. -/
def State.relayDone (s : State) (kind period cause : Nat) : State :=
  let s := (s.inc .tdm (R.TDM.RELAYP + 4 * (kind - 1))).flag .tdm 12
  (s.relayRecord kind period cause).trigger 6 kind

/-- A standby takes ACTIVE (R303, R304): it wants the drive from the first TB0 boundary that R292 allows, after an
abdication at least 0.5 µs later. -/
def State.takeOver (s : State) (kind cause : Nat) : State :=
  let s := (s.takeMode .active).setTdm (fun t => { t with
    driveWanted := true
    driveFrom := if kind = 2 then s.mt + 500 else s.mt
    relayKind := kind
    relayCause := cause
    joined := false
    double := false
    abdMt := none
    abdAlive := false
    lastGrant := s.mt })
  let s := s.enterActiveRole
  s.relayDone kind (s.tb0NumberFrom s.tdm.driveFrom) cause

/-- The standby's conditions of R303: an ABDICATE frame, PEER_ALIVE low within 10 µs of it, PEER_DRIVE_EN low. A frame that
PEER_ALIVE low does not follow is discarded. -/
def State.tryAbdication (s : State) : State :=
  match s.tdm.abdMt with
  | some m =>
    let s := s.setTdm (fun t => { t with abdAlive := t.abdAlive || (!t.peerAlive && s.mt ≤ m + 10000) })
    if s.mode = .standby && s.tdm.abdAlive && !s.tdm.peerDriveEn then (s.takeOver 2 s.tdm.abdCause).acquire
    else if !s.tdm.abdAlive && m + 10000 < s.mt then s.setTdm (fun t => { t with abdMt := none })
    else s
  | none => s

/-- ABDICATE (R303): a standby accepts the peer's ABDICATE; it takes ACTIVE once PEER_ALIVE and PEER_DRIVE_EN read
low. -/
def execAbdicate (dt : Nat) (f : TandemHead) (bytes : List Byte) (s : State) : Host.Outcome State Fault Refusal :=
  let (ok, s) := (s.elapse dt).takeFrame 0x0A f bytes
  if ok && s.mode = .standby && leAt bytes 0 8 = s.pairId then
    let s := s.setTdm (fun t => { t with
      abdMt := some s.mt
      abdAlive := false
      abdCause := leAt bytes 8 2
      term := max t.term (leAt bytes 0x0C 4) })
    .next s.tryAbdication
  else .next s

/-- PEER_ALIVE_LOW (R303): PEER_ALIVE falls, with the level of PEER_DRIVE_EN beside it. -/
def execPeerAliveLow (dt : Nat) (driveEnLow : Bool) (s : State) : Host.Outcome State Fault Refusal :=
  let s := (s.elapse dt).setTdm (fun t => { t with peerAlive := false })
  let s := s.setTdm (fun t => { t with
    peerDriveEn := !driveEnLow
    peerLowSince := if t.peerDriveEn && driveEnLow then s.mt else t.peerLowSince })
  .next (if s.tandemed then s.tryAbdication else s)

/-- PEER_DRIVE_EN as a tandemed module reads it: high, or low for some ns (R276, R292). -/
def State.readPeerDrive (s : State) (low : Nat) : State :=
  if !s.tandemed then s
  else if low = 0 then s.peerDriveHigh
  else (s.setTdm (fun t => { t with peerDriveEn := false, peerLowSince := s.mt - low })).tryAbdication

/-- May DRIVE_EN rise now (R292, R302, R303)? At a TB0 period boundary, once the drive is due, PEER_DRIVE_EN has read
low for t_ilk (40 ns) and, in a role it was assigned or formed, the module holds a lease or hears a peer that is not
ACTIVE. At a planned relay the rise follows the fall of the peer's DRIVE_EN at the boundary within t_relay_plan, 120
ns. -/
def State.mayDrive (s : State) : Bool :=
  let t := s.tdm
  let free := !s.tandemed || (!t.peerDriveEn && t.peerLowSince + 40 ≤ s.mt)
  let lease := !s.tandemed || t.held || (t.peer.heard && !t.silent && t.peer.state != 4) || t.relayKind != 0
  let when := s.tb0Boundary || (t.relayKind = 1 && s.mt ≤ t.driveFrom + 120)
  s.mode = .active && !t.fenced && t.driveWanted && t.driveFrom ≤ s.mt && when && free && lease

/-- DRIVE_EN_RAISE (R292): PEER_DRIVE_EN reads high or has read low for a time, and DRIVE_EN rises where it may. -/
def execDriveEnRaise (x : DriveRise) (s : State) : Host.Outcome State Fault Refusal :=
  let s := (s.elapse x.dt).readPeerDrive x.low
  if s.mayDrive then
    let s := { s with sys := { s.sys with driveEn := true } }
    .next (s.setTdm (fun t => { t with driveWanted := false, lastDrive := some s.mt }))
  else .next s

/-- RELAY_SWITCH (R302): at the start of the relay period the roles change: the old active drops DRIVE_EN, takes
STANDBY, yields its term and goes on accepting event inputs until the end of the tick; the old standby takes ACTIVE
and acquires the next term. An active without both clock groups locked or driven does not take STANDBY (R110): it
yields and stays in ACTIVE with DRIVE_EN low (log entry 103). -/
def execRelaySwitch (dt : Nat) (s : State) : Host.Outcome State Fault Refusal :=
  let s := s.elapse dt
  if s.tdm.relayAt = 0 || s.mt != s.tb0Start s.tdm.relayAt then .next s
  else
    let period := s.tdm.relayAt
    if s.mode = .active && s.lockBits != 3 then
      let s := s.driveLow.setTdm (fun t => { t with
        relayAt := 0
        driveWanted := false
        held := false })
      .next (s.askWitness s.tdm.widx 4 s.tdm.term)
    else if s.mode = .active then
      let s := s.takeMode .standby
      let s := s.driveLow.setTdm (fun t => { t with
        relayAt := 0
        acceptUntil := s.tick
        driveWanted := false
        held := false
        joined := true })
      let s := s.askWitness s.tdm.widx 4 s.tdm.term
      .next ((s.leaveActiveRole).relayDone 1 period 0)
    else if s.mode = .standby then
      let s := (s.takeMode .active).setTdm (fun t => { t with
        relayAt := 0
        driveWanted := true
        driveFrom := s.mt
        relayKind := 1
        lastGrant := s.mt
        joined := false })
      .next (((s.enterActiveRole).relayDone 1 period 0).acquire)
    else .next (s.setTdm (fun t => { t with relayAt := 0 }))

/-- Fencing (R305): DRIVE_EN falls at the next TB0 boundary, event inputs and transmission stop, and the module goes on
protecting; it is flagged and recorded. -/
def State.fence (s : State) (holder term : Nat) : State :=
  if s.tdm.fenced then s
  else
    let s := (s.dropDrive.setTdm (fun t => { t with
      fenced := true
      held := false
      driveWanted := false })).flag .tdm 16
    s.record .tdm 0x03 ([3, BitVec.ofNat 8 holder, 0, 0] ++ leBytes 4 term ++ leBytes 8 (s.tb0Number + 1))

/-- GRANTED (R298, R304): the lease view ends t_lease − t_guard after the request's SEQ. A standby with a silent peer
takes ACTIVE; a READY module that forms takes ACTIVE (R439). -/
def State.leaseGranted (s : State) (bytes : List Byte) : State :=
  match s.replyEntry 0x82 bytes with
  | none => s
  | some e =>
    if e != s.tdm.widx then (s.closeReply e bytes)
    else
      let kind := s.askedKind bytes
      let s := (s.closeReply e bytes).setTdm (fun t => { t with
        held := true
        viewEnd := leAt bytes 0x18 8 + tLease - tGuard
        lastGrant := s.mt
        witLost := false })
      if kind = 3 && s.mode = .standby && s.tdm.silent then (s.takeOver 3 0)
      else if kind = 3 && s.mode = .ready then s.formActive
      else s

/-- GRANTED (R298). -/
def execLeaseGranted (dt : Nat) (bytes : List Byte) (s : State) : Host.Outcome State Fault Refusal :=
  .next ((s.elapse dt).leaseGranted bytes)

/-- REFUSED (R298): a live lease starts a back-off; a refusal that names the peer fences an active; one that names
nobody, or the active itself with no live lease, makes it acquire the next term; quiet is a double fault for a standby
whose peer is silent. -/
def State.leaseRefused (s : State) (bytes : List Byte) : State :=
  match s.replyEntry 0x83 bytes with
  | none => s
  | some e =>
    let s := s.closeReply e bytes
    if e != s.tdm.widx then s
    else
      let holder := byteAt bytes 2 % 4
      let own := b2n s.posB + 1
      let reason := byteAt bytes 3
      let remain := leAt bytes 0x14 4
      let s := if reason = 1 then s.setTdm (fun t => { t with backoffUntil := s.mt + remain * 1000 }) else s
      if s.mode = .active then
        if holder != 0 && holder != own then (s.fence holder (leAt bytes 0x10 4))
        else if holder = 0 || remain = 0 then s.acquire
        else s
      else if s.mode = .standby && s.tdm.silent then
        if reason = 3 then (s.doubleFault 2)
        else if reason = 1 then s
        else s.acquire
      else if s.mode = .ready && s.wantsLease && reason = 2 then s.acquire
      else s

/-- REFUSED (R298). -/
def execLeaseRefused (dt : Nat) (bytes : List Byte) (s : State) : Host.Outcome State Fault Refusal :=
  .next ((s.elapse dt).leaseRefused bytes)

end Sys2Proof.Machine
end

