-- ==== Sys2Proof/Machine/Can.lean ====
section
/-! DEFINITION. The CAN controllers: frame records, transmit FIFOs and attempts, cancellation, filters, receive queues
and bus faults (R345 to R363). -/

namespace Sys2Proof.Machine

open Sys2Proof

/-! ### The frame record (R348) -/

/-- A remote frame carries no DATA. -/
def canRemote (f : CanFrame) : Bool := f.fmt ≤ 1 && f.rtr

/-- The frame record of a frame, with its SOF stamp and FIDX. -/
def canRecord (f : CanFrame) (sof fidx : Nat) : List Byte :=
  leBytes 4 f.id ++ [BitVec.ofNat 8 f.fmt,
    BitVec.ofNat 8 (b2n f.brs + 2 * b2n f.esi + 4 * b2n f.rtr + 8 * b2n f.rrs + 16 * (f.dlc % 16))] ++
  leBytes 2 f.dlen ++ [BitVec.ofNat 8 f.sdt, BitVec.ofNat 8 f.vcid, BitVec.ofNat 8 (b2n f.sec), 0] ++ leBytes 4 f.af ++
  leBytes 4 sof ++ leBytes 2 fidx ++ zeros 2 ++ (if canRemote f then [] else f.data)

/-- The frame a record holds. -/
def canParse (b : List Byte) : CanFrame where
  id := leAt b 0 4
  fmt := byteAt b 4
  brs := (byteAt b 5).testBit 0
  esi := (byteAt b 5).testBit 1
  rtr := (byteAt b 5).testBit 2
  rrs := (byteAt b 5).testBit 3
  dlen := leAt b 6 2
  sdt := byteAt b 8
  vcid := byteAt b 9
  sec := (byteAt b 10).testBit 0
  af := leAt b 12 4
  data := b.drop 24

/-- The first bits of a frame on the bus as one number; the smallest wins the arbitration. A base frame ends after RTR or
RRS and a dominant IDE; an extended one goes on after SRR and IDE with the rest of its identifier (log entry 22). -/
def canArb (f : CanFrame) : Nat :=
  let r := if f.fmt ≤ 1 then b2n f.rtr else b2n f.rrs
  if f.fmt = 1 || f.fmt = 3 then (f.id / 2 ^ 18 % 2 ^ 11 * 4 + 3) * 2 ^ 19 + f.id % 2 ^ 18 * 2 + r
  else (f.id % 2 ^ 11 * 4 + r * 2) * 2 ^ 19

def canCode : CanOutcome → Nat
  | .sent => 0 | .arbLost => 1 | .bitError => 2 | .stuffError => 3 | .formError => 4 | .ackError => 5 | .crcError => 6
  | .busOff => 7

/-! ### Controller state -/

def canRing (c f : Nat) : Nat := 16 + 8 * c + f
def canRxRing (c q : Nat) : Nat := 48 + 4 * c + q

def State.canFifo (s : State) (c f : Nat) : CanFifo := sget {} (s.canSt c).fifo f
def State.setCanFifo (s : State) (c f : Nat) (v : CanFifo) : State :=
  s.modCan c (fun (x : CanSt) => { x with fifo := sset {} x.fifo f v })
def State.canQueue (s : State) (c q : Nat) : CanQueue := sget {} (s.canSt c).queue q
def State.setCanQueue (s : State) (c q : Nat) (v : CanQueue) : State :=
  s.modCan c (fun (x : CanSt) => { x with queue := sset {} x.queue q v })

/-- The controller is on the bus at all (R346): its page runs, or stops with a frame under way, outside RESET, BOOT, OUT
and THERMAL_SHUTDOWN. -/
def State.canOn (s : State) (c : Nat) : Bool :=
  (s.running (canPage c) || s.pageState (canPage c) = .disabling) && s.mode.speaks

/-- It takes part in bus traffic: integrated, and not bus-off. -/
def State.canJoined (s : State) (c : Nat) : Bool :=
  s.canOn c && !(s.canSt c).off && !(s.canSt c).integrating

/-- STAT.BUS. -/
def CanSt.bus (v : CanSt) : Nat :=
  if v.off then 2 else if v.integrating then 3 else if 128 ≤ v.tec || 128 ≤ v.erc then 1 else 0

/-- Host descriptors complete NOT_ACTIVE (R349, R361). -/
def State.txHeld (s : State) : Bool := s.mode = .standby || (s.mode = .active && s.tdm.fenced)

/-- The block start's conditions (R347). -/
def State.canStartOk (s : State) (c : Nat) : Bool :=
  let p := canPage c
  let nq := 1 + s.rdf p R.CAN.NBT 16 8 + s.rdf p R.CAN.NBT 23 17
  let nd := s.rdf p R.CAN.NBT 31 24 * nq
  let dataOk := fun (o lim : Nat) =>
    let d := s.rdf p o 31 28 * (1 + s.rdf p o 21 14 + s.rdf p o 27 22)
    d != 0 && 80000000 ≤ lim * d
  nd != 0 && 10000 * nd ≤ 80000000 && 80000000 ≤ 1000000 * nd &&
  s.rdf p R.CAN.NBT 6 0 ≤ s.rdf p R.CAN.NBT 23 17 &&
  (!s.rdb p R.CAN.CFG 3 || dataOk R.CAN.FBT 8000000) && (!s.rdb p R.CAN.CFG 4 || dataOk R.CAN.XBT 20000000) &&
  s.rdf p R.CAN.FBT 13 8 ≤ s.rdf p R.CAN.FBT 27 22 && s.rdf p R.CAN.XBT 13 8 ≤ s.rdf p R.CAN.XBT 27 22 &&
  !(s.rdb p R.CAN.XLCFG 3 && s.rdb p R.CAN.XLCFG 2) && s.rdf p R.CAN.CFG 1 0 != 3 && s.rdf p R.CAN.RXCFG 24 16 ≤ 256

/-! ### Filters (R354, R355) -/

/-- CRC-32C over elements 0 to NFLT − 1. -/
def State.fltCrc (s : State) (c : Nat) : Nat :=
  crc32c ((List.range (s.rdf (canPage c) R.CAN.RXCFG 24 16)).flatMap (fun i =>
    let e := sget (0, 0) (s.canSt c).flt i
    leBytes 4 e.1 ++ leBytes 4 e.2))

/-- FLT_REF holds the CRC of the filter list. -/
def State.fltOk (s : State) (c : Nat) : Bool := s.fltCrc c = s.rdn (canPage c) R.CAN.FLT_REF

/-- Does a filter element match a frame? -/
def fltMatches (e : Nat × Nat) (f : CanFrame) : Bool :=
  let id1 := bits e.1 28 0
  let id2 := bits e.2 28 0
  let ext := f.fmt = 1 || f.fmt = 3
  e.1.testBit 29 = ext && (ext || e.2.testBit 29 = decide (f.fmt = 4)) &&
  match bits e.1 31 30 with
  | 1 => f.id = id1 || f.id = id2
  | 2 => f.id &&& id2 = id1 &&& id2
  | _ => id1 ≤ f.id && f.id ≤ id2

/-- Where a received frame goes: its queue and FIDX, or none where it is discarded. -/
def State.fltQueue (s : State) (c : Nat) (f : CanFrame) : Option (Nat × Nat) :=
  let p := canPage c
  let els := (List.range (s.rdf p R.CAN.RXCFG 24 16)).map (fun i => (i, sget (0, 0) (s.canSt c).flt i))
  match els.find? (fun (e : Nat × (Nat × Nat)) => fltMatches e.2 f) with
  | some (i, e) => if bits e.1 31 30 = 3 then none else some (bits e.2 31 30, i)
  | none => if s.rdb p R.CAN.RXCFG 2 then some (s.rdf p R.CAN.RXCFG 1 0, 0x1FF) else none

/-! ### Transmit descriptors (R349) -/

/-- A network entry of TDM.WLIST lies on a controller. -/
def State.witnessOnCan (s : State) (c : Nat) : Bool :=
  (s.running .wit && s.rdb .wit R.WIT.CFG 7 && s.rdf .wit R.WIT.CFG 9 8 = c) ||
  (s.running .tdm && (List.range s.nlist).any (fun i =>
    !s.rdb .tdm (R.TDM.WLIST_NET i) 0 && s.rdf .tdm (R.TDM.WLIST_NET i) 9 8 = c))

/-- Are commands taken on a controller (R402)? -/
def State.authOnCan (s : State) (c : Nat) : Bool := s.running .auth && (s.rdf .auth R.AUTH.CFG 7 4).testBit c

/-- The enabled stream whose frames a controller brings with a frame's identifier and format (R224). -/
def State.streamOnCan (s : State) (c : Nat) (f : CanFrame) (k : Nat) : Bool :=
  let cfg := s.rd .spt (R.SPT.STR_CFG k)
  2 ≤ f.fmt && flg cfg 0 && !flg cfg 1 && fld cfg 5 3 = c && s.rdf .spt (R.SPT.STR_ADDR k) 28 0 = f.id

/-- Does a frame use a reserved identifier (R359)? -/
def State.canReserved (s : State) (c : Nat) (f : CanFrame) : Bool :=
  let wid := s.rdf .wit R.WIT.NET 10 0
  let aid := s.rdf .auth R.AUTH.NET 10 0
  (f.fmt = 4 && s.witnessOnCan c && (f.id = wid || f.id = (wid + 1) % 2 ^ 11)) ||
  (f.fmt = 4 && s.authOnCan c && (f.id = aid || f.id = (aid + 1) % 2 ^ 11)) ||
  (f.fmt = 4 && (List.range 8).any (fun k =>
    let cfg := s.rd .slay (R.SLAY.CON_CFG k)
    flg cfg 0 && !flg cfg 3 && fld cfg 5 4 = c &&
    (f.id = s.rdf .slay (R.SLAY.CON_ADDR k) 10 0 || f.id = s.rdf .slay (R.SLAY.CON_EADDR k) 10 0))) ||
  (List.range 8).any (s.streamOnCan c f)

/-- A format is enabled in CAN.CFG. -/
def State.canFmtOn (s : State) (c fmt : Nat) : Bool :=
  fmt ≤ 1 || ((fmt = 2 || fmt = 3) && s.rdb (canPage c) R.CAN.CFG 3) || (fmt = 4 && s.rdb (canPage c) R.CAN.CFG 4)

/-- The STATUS of a descriptor that completes without being sent, in the table's order; 0 where it is sent. -/
def State.canDescStatus (s : State) (c : Nat) (d : Desc) : Nat :=
  let f := canParse d.data
  let lenOk := match f.fmt with
    | 0 | 1 => f.dlen ≤ 8
    | 2 | 3 => f.dlen ≤ 8 || [12, 16, 20, 24, 32, 48, 64].contains f.dlen
    | _ => 1 ≤ f.dlen && f.dlen ≤ 2048
  if d.len != 24 + (if canRemote f then 0 else f.dlen) || !lenOk || !s.canFmtOn c f.fmt then 0x0002
  else if d.launch != 0 then 0x0102
  else if s.canReserved c f then 0x0103
  else if s.txHeld then 0x0104
  else if d.tflags / 2 != 0 then 0x0002
  else 0

/-- CAN_DESCRIPTOR_CHECK: heads that are not to be sent complete at once. A head that is on the bus is left. -/
def State.canCheck (s : State) (c f : Nat) : Nat → State
  | 0 => s
  | k + 1 =>
    let onBus := match (s.canSt c).attempt with
      | some a => decide (a.fifo = some f)
      | none => false
    match s.ringHead (canRing c f) with
    | none => s
    | some d =>
      let st := s.canDescStatus c d
      if st = 0 || onBus || !s.running (canPage c) then s
      else
        let v := s.canFifo c f
        let s := s.ringComplete (canRing c f) st ((if v.attempts = 0 then 8 else v.last) + 16 * min v.attempts 255) d.len []
        (s.setCanFifo c f {}).canCheck c f k

/-- The descriptors of a FIFO are gone (R31, R51): its counts with them; the frame of an attempt under way is one no
descriptor waits for. -/
def CanSt.fifoGone (v : CanSt) (f : Nat) : CanSt :=
  { v with
    fifo := sset {} v.fifo f {}
    attempt := v.attempt.map (fun (a : CanAttempt) =>
      if a.fifo = some f then { a with fifo := none, own := { a.own with again := false } } else a) }

def State.canCheckAll (s : State) (c : Nat) : State :=
  (List.range 8).foldl (fun s f => s.canCheck c f ((s.ring (canRing c f)).descs.length + 1)) s

/-- The frames prefetched from a FIFO: the leading ones that fit in 3 KiB, at most as many as the controller fetches
(R357, log entry 22). -/
def prefetchCount : Nat → List Desc → Nat
  | _, [] => 0
  | room, d :: t => if d.len ≤ room then 1 + prefetchCount (room - d.len) t else 0

def State.canPref (s : State) (c f : Nat) : Nat :=
  if s.canOn c then min (Config.canPrefetch + 1) (prefetchCount 3072 (s.ring (canRing c f)).descs) else 0

/-! ### Attempts (R350, R351) -/

/-- Of two candidates with equal arbitration fields the earlier in the list goes first. -/
def bestArb : List (Option Nat × CanOwn) → Option (Option Nat × CanOwn)
  | [] => none
  | x :: t =>
    match bestArb t with
    | none => some x
    | some y => if canArb y.2.frame < canArb x.2.frame then some y else some x

/-- The heads that compete: the internal queue's, then the FIFOs' in order. -/
def State.canHeads (s : State) (c : Nat) : List (Option Nat × CanOwn) :=
  let own := match (s.canSt c).internal with
    | o :: _ => [((none : Option Nat), o)]
    | [] => []
  own ++ (List.range 8).filterMap (fun f =>
    (s.ringHead (canRing c f)).map (fun (d : Desc) => (some f, CanOwn.mk (canParse d.data) false)))

/-- CAN_TRANSMIT_ATTEMPT (R350): in normal mode, and with no attempt under way, the head that would win the arbitration
goes onto the bus; the ESI of an FD frame shows the controller's own error state. -/
def execCanTransmitAttempt (dt : Nat) (c : Fin 4) (s : State) : Host.Outcome State Fault Refusal :=
  let s := s.elapse dt
  let c := c.val
  let p := canPage c
  if !s.running p || !s.canJoined c || (s.canSt c).attempt.isSome || s.rdf p R.CAN.CFG 1 0 != 0 then .next s
  else
    let s := s.canCheckAll c
    match bestArb (s.canHeads c) with
    | none => .next s
    | some (src, o) =>
      let f := { o.frame with esi := (o.frame.fmt = 2 || o.frame.fmt = 3) && (s.canSt c).bus = 1 }
      let s := s.modCan c (fun (v : CanSt) => { v with
        attempt := some ⟨src, ⟨f, o.again⟩, s.mt⟩
        internal := if src = none then v.internal.drop 1 else v.internal })
      .next (s.send (.can c s.mt f (decide (f.fmt = 4) && s.rdb p R.CAN.XLCFG 3)))

/-- The head of a FIFO and the frames a CANCEL_ALL cancelled behind it complete; the FIFO's counts start afresh. -/
def State.canCancelHeads (s : State) (c f : Nat) : Nat → State
  | 0 => s
  | k + 1 =>
    match s.ringHead (canRing c f) with
    | none => s
    | some d =>
      let v := s.canFifo c f
      let s := s.ringComplete (canRing c f) 0x0101 ((if v.attempts = 0 then 8 else v.last) + 16 * min v.attempts 255) d.len []
      (s.setCanFifo c f {}).canCancelHeads c f k

/-- A record's SOF field filled in. -/
def withSof (b : List Byte) (sof : Nat) : List Byte := b.take 16 ++ leBytes 4 sof ++ b.drop 20

/-- The head of a FIFO completes after its attempt, and the frames cancelled behind it after it. -/
def State.canHeadDone (s : State) (c f status outcome : Nat) (sent : Option Nat) : State :=
  match s.ringHead (canRing c f) with
  | none => s.setCanFifo c f {}
  | some d =>
    let v := s.canFifo c f
    let bytes := match sent with
      | some sof => withSof d.data sof
      | none => []
    let s := s.ringComplete (canRing c f) status (outcome + 16 * min v.attempts 255) d.len bytes
    (s.setCanFifo c f {}).canCancelHeads c f v.behind

/-- The error counters and the bus state after an event on the bus (R362). -/
def State.canErrors (s : State) (c tec erc : Nat) (off : Bool) : State :=
  let p := canPage c
  let v := s.canSt c
  let s := s.modCan c (fun (v : CanSt) => { v with tec := min tec 255, erc := erc, off := v.off || off })
  let s := if v.bus != 1 && (s.canSt c).bus = 1 then s.flag p 9 else s
  if off && !v.off then (s.inc p R.CAN.BUSOFFS).flag p 8 else s

/-- A protocol exception (R345, R360): the controller waits for bus integration. -/
def State.canException (s : State) (c : Nat) : State :=
  let s := s.modCan c (fun (v : CanSt) => { v with pexc := true, integrating := true })
  (s.inc (canPage c) R.CAN.PEXCS).flag (canPage c) 11

/-- CAN_ATTEMPT_END (R349 to R352, R360): the descriptor completes or the frame is retried. A witness request that met a
bit error is re-sent once after a random delay. -/
def execCanAttemptEnd (dt : Nat) (c : Fin 4) (outcome : CanOutcome) (tec : Byte) (s : State) :
    Host.Outcome State Fault Refusal :=
  let s := s.elapse dt
  let c := c.val
  let p := canPage c
  match (s.canSt c).attempt with
  | none => .next s
  | some a =>
    let s := s.modCan c (fun (v : CanSt) => { v with attempt := none })
    let s := s.inc p (match outcome with | .sent => R.CAN.TXOK | .arbLost => R.CAN.ARBLOST | _ => R.CAN.TXERR)
    let s := s.canErrors c tec.toNat (s.canSt c).erc (outcome = .busOff)
    let s := if outcome = .bitError && a.own.frame.fmt = 4 && !s.rdb p R.CAN.XLCFG 2 then s.canException c else s
    match a.fifo with
    | none =>
      if outcome = .bitError && a.own.again then
        let (n, s) := s.draw
        let due := s.mt + 64000 + Config.freeNat n % 960001
        .next (s.modCan c (fun (v : CanSt) => { v with resend := v.resend ++ [(⟨a.own.frame, false⟩, due)] }))
      else .next s
    | some f =>
      let v := s.canFifo c f
      let n := v.attempts + 1
      let s := s.setCanFifo c f { v with attempts := n, last := (canCode outcome) }
      let oneShot := match s.ringHead (canRing c f) with
        | some d => d.tflags % 2 = 1
        | none => false
      let max := s.rdf p R.CAN.CFG 31 24
      let sof := if outcome = .sent then some (a.sof % 2 ^ 32) else none
      if v.cancelPend then .next ((s.inc p R.CAN.TOOLATE).canHeadDone c f 0x0004 (canCode outcome) sof)
      else if outcome = .sent then .next (s.canHeadDone c f 0 0 sof)
      else if oneShot || (max != 0 && max ≤ n) then .next (s.canHeadDone c f 0x0100 (canCode outcome) none)
      else .next s

/-! ### Cancellation (R352) -/

/-- A cancel of a FIFO's head, and with `all` of what is prefetched behind it. -/
def State.canCancel (s : State) (c f : Nat) (all : Bool) : State :=
  let onBus := match (s.canSt c).attempt with
    | some a => decide (a.fifo = some f)
    | none => false
  let n := s.canPref c f
  if n = 0 then s
  else if onBus then
    let v := s.canFifo c f
    s.setCanFifo c f { v with cancelPend := true, behind := if all then n - 1 else v.behind }
  else s.canCancelHeads c f (if all then n else 1)

/-- CANCEL (R352). -/
def execCanCancel (dt : Nat) (c : Fin 4) (fifo : Fin 8) (s : State) : Host.Outcome State Fault Refusal :=
  .next ((s.elapse dt).hostDo (.can c) (fun (s : State) => s.canCancel c.val fifo.val false))

/-- CANCEL_ALL (R352). -/
def execCanCancelAll (dt : Nat) (c : Fin 4) (fifo : Fin 8) (s : State) : Host.Outcome State Fault Refusal :=
  .next ((s.elapse dt).hostDo (.can c) (fun (s : State) => s.canCancel c.val fifo.val true))

/-! ### Receiving (R356 to R358) -/

def State.canWindow (s : State) (c q : Nat) : Bool := (s.rdf (canPage c) R.CAN.RXCFG 11 8).testBit q

/-- Frames of a ring-mode queue move to the posted descriptors of its ring. -/
def State.canDeliver (s : State) (c q : Nat) : Nat → State
  | 0 => s
  | k + 1 =>
    let v := s.canQueue c q
    match v.recs, s.ringHead (canRxRing c q) with
    | (b, fidx) :: t, some _ =>
      let s := s.ringPush (canRxRing c q) (fidx % 512 + 512 * b2n v.dropped) b
      let s := s.setCanQueue c q { v with recs := t, dropped := false }
      (s.inc (canPage c) R.CAN.RXOK).canDeliver c q k
    | _, _ => s

def State.canDeliverAll (s : State) (c q : Nat) : State :=
  if s.canWindow c q then s else s.canDeliver c q (s.canQueue c q).recs.length

/-- Bytes of a queue's buffer in use, in lines of 64. -/
def canUsed (l : List (List Byte × Nat)) : Nat := (l.map (fun (r : List Byte × Nat) => (r.1.length + 63) / 64 * 64)).sum

/-- A frame stored in a queue, or dropped where its 8 KiB are too full (R357). -/
def State.canStore (s : State) (c q : Nat) (b : List Byte) (fidx : Nat) : State :=
  let v := s.canQueue c q
  let p := canPage c
  if 8192 < canUsed (v.recs ++ [(b, fidx)]) then
    let s := (s.setCanQueue c q { v with dropped := true }).inc p R.CAN.RXDROP
    let s := if s.canWindow c q then s else s.inc .rng (R.RNG.DROP (canRxRing c q))
    s.flag p 10
  else
    let s := s.setCanQueue c q { v with recs := v.recs ++ [(b, fidx)] }
    if s.canWindow c q then s.inc p R.CAN.RXOK else s.canDeliverAll c q

/-- A witness's reply (R295). -/
def State.witnessReplyIn (s : State) (b : List Byte) : State :=
  match byteAt b 1 with
  | 0x81 => s.witnessState b
  | 0x82 => s.leaseGranted b
  | 0x83 => s.leaseRefused b
  | _ => s

/-- A witness message that arrived by a network (R295): a request for the witness engine, or a reply. -/
def State.witnessIn (s : State) (b : List Byte) (src : NetSource) : State :=
  if 0x80 ≤ byteAt b 1 then s.witnessReplyIn b else s.witRequest (byteAt b 1) b src

/-- A witness message by CAN XL (R295): requests come on WIT.NET.CANID, replies on the identifier above it, both with
SDT and VCID 0. -/
def State.witnessCan (s : State) (c : Fin 4) (f : CanFrame) : Option State :=
  let wid := s.rdf .wit R.WIT.NET 10 0
  if f.fmt != 4 || f.sdt != 0 || f.vcid != 0 || !s.witnessOnCan c.val then none
  else if f.id = wid then some (s.witRequest (byteAt f.data 1) f.data (.canxl c))
  else if f.id = (wid + 1) % 2 ^ 11 then some (s.witnessReplyIn f.data)
  else none

/-- A block consumes a frame bound to it (R356): none where no block does. -/
def State.canConsume (s : State) (c : Fin 4) (f : CanFrame) : Option State :=
  let src : NetSource := .canxl c
  let esp := s.espConns src f.id
  let mine := f.fmt = 4 && s.running .slay && f.sdt = s.rdf .slay R.SLAY.CFG 31 24 && f.vcid = 0
  if mine && esp != [] then some (s.espFrameIn esp f.data)
  else if (s.witnessCan c f).isSome then s.witnessCan c f
  else if f.fmt = 4 && s.authOnCan c.val && f.id = s.rdf .auth R.AUTH.NET 10 0 then
    some (s.command refuseAtJudgement (.net src) f.data)
  else if s.running .spt then
    ((List.range 8).find? (s.streamOnCan c.val f)).map (fun k => s.streamFrame k f.data)
  else none

/-- CAN_FRAME_RECEIVED (R353 to R357, R360): a frame is consumed by a block, or filtered into a receive queue; an error or
a protocol exception is counted. A frame of a format that is not enabled is a protocol exception. -/
def execCanFrameReceived (dt : Nat) (c : Fin 4) (x : CanRx) (s : State) : Host.Outcome State Fault Refusal :=
  let s := s.elapse dt
  if !s.canJoined c.val then .next s
  else
    match x with
    | .exception => .next (s.canException c.val)
    | .error tec erc off => .next ((s.inc (canPage c.val) R.CAN.RXERR).canErrors c.val tec.toNat erc.toNat off)
    | .frame f sof erc =>
      let s := s.canErrors c.val (s.canSt c.val).tec erc.toNat false
      if !s.canFmtOn c.val f.fmt then .next (s.canException c.val)
      else if !s.running (canPage c.val) then .next s
      else
        match s.canConsume c f with
        | some s => .next s
        | none =>
          match s.fltQueue c.val f with
          | none => .next (s.inc (canPage c.val) R.CAN.RXFILT)
          | some (q, fidx) => .next (s.canStore c.val q (canRecord f sof.toNat fidx) fidx)

/-- The head of a buffer-mode queue is released (R358). -/
def State.canRelease (s : State) (c q : Nat) : State :=
  if s.canWindow c q then
    let v := s.canQueue c q
    s.setCanQueue c q { v with recs := v.recs.drop 1, locked := false, dropped := false }
  else s

/-- RXREL (R358). -/
def execRxrel (dt : Nat) (c : Fin 4) (q : Fin 4) (s : State) : Host.Outcome State Fault Refusal :=
  .next ((s.elapse dt).hostDo (.can c) (fun (s : State) => s.canRelease c.val q.val))

/-- The queue and page of CAN.RXW_SEL, and the bytes of a word of the window in its head record. -/
def State.rxwQueue (s : State) (c : Nat) : Nat := s.rdf (canPage c) R.CAN.RXW_SEL 9 8
def State.rxwOffset (s : State) (c word : Nat) : Nat := 1024 * s.rdf (canPage c) R.CAN.RXW_SEL 1 0 + 4 * word

/-- The value a word of the window shows; an empty queue reads 0. -/
def State.rxwWord (s : State) (c word : Nat) : Nat :=
  let q := s.rxwQueue c
  if !s.canWindow c q then 0
  else
    match (s.canQueue c q).recs with
    | (b, _) :: _ => leNat ((slice b (s.rxwOffset c word) 4))
    | [] => 0

/-- What a read of the window does: a read of the head's first word locks it; a read of the word that holds its last byte
releases a locked head. -/
def State.rxwTouch (s : State) (c word : Nat) : State :=
  let q := s.rxwQueue c
  let o := s.rxwOffset c word
  let v := s.canQueue c q
  match v.recs with
  | [] => s
  | (b, _) :: _ =>
    if !s.canWindow c q then s
    else if o = 0 then s.setCanQueue c q { v with locked := true }
    else if v.locked && o ≤ b.length - 1 && b.length - 1 < o + 4 then s.canRelease c q
    else s

/-- RXW_READ (R358). -/
def execRxwRead (dt : Nat) (c : Fin 4) (word : Fin 256) (s : State) : Host.Outcome State Fault Refusal :=
  let s := s.elapse dt
  let a := (canPage c.val).base + R.CAN.RXW word.val
  if s.pageServed (.can c) then .next ((s.rxwTouch c.val word.val).answerRead a (s.rxwWord c.val word.val))
  else .next (s.answerRead a 0)

/-! ### Filter writes, bus state and stops -/

/-- A write of FLTW1 commits both words to element FLTIDX (R355). -/
def State.fltCommit (s : State) (c w1 : Nat) : State :=
  let w0 := s.rdn (canPage c) R.CAN.FLTW0
  let i := s.rdf (canPage c) R.CAN.FLTIDX 7 0
  s.modCan c (fun (v : CanSt) => { v with flt := sset (0, 0) v.flt i (w0, w1) })

/-- A configuration write that is ignored (R3, R38). -/
def State.ignoredWrite (s : State) (p : Page) (o : Nat) : State :=
  let s := if s.rdf p R.PAGE.IGNORED 31 16 = 0 then s.wrf p R.PAGE.IGNORED 11 0 o else s
  (s.incf p R.PAGE.IGNORED 31 16).flag p 1

/-- A write of FLTW1 commits the element, on a DISABLED page. -/
def State.fltw1Write (s : State) (c : Fin 4) (value : Word) : State :=
  let p := canPage c.val
  if s.pageState p = .disabled then ((s.wr p R.CAN.FLTW1 value).fltCommit c.val value.toNat)
  else (s.ignoredWrite p R.CAN.FLTW1)

/-- FLTW1_COMMIT (R355). -/
def execFltw1Commit (dt : Nat) (c : Fin 4) (value : Word) (s : State) : Host.Outcome State Fault Refusal :=
  .next ((s.elapse dt).hostDo (.can c) (fun (s : State) => s.fltw1Write c value))

/-- RECOVER (R362): a bus-off controller without AUTO_REC begins to wait for the sequence. -/
def State.canRecover (s : State) (c : Nat) : State :=
  if (s.canSt c).off then s.modCan c (fun (v : CanSt) => { v with recovering := true }) else s

/-- RECOVER (R362). -/
def execCanRecover (dt : Nat) (c : Fin 4) (s : State) : Host.Outcome State Fault Refusal :=
  .next ((s.elapse dt).hostDo (.can c) (fun (s : State) => s.canRecover c.val))

/-- BUS_OFF_RECOVERY (R362): 128 occurrences of 11 recessive bits; the error counters start at 0. -/
def execBusOffRecovery (dt : Nat) (c : Fin 4) (s : State) : Host.Outcome State Fault Refusal :=
  let s := s.elapse dt
  let v := s.canSt c.val
  if s.canOn c.val && v.off && (v.recovering || s.rdb (canPage c.val) R.CAN.CFG 5) then
    .next (s.modCan c.val (fun (v : CanSt) => { v with off := false, recovering := false, tec := 0, erc := 0 }))
  else .next s

/-- CAN_BUS_INTEGRATION (R346): 11 recessive bits were seen; the controller takes part in bus traffic. -/
def execCanBusIntegration (dt : Nat) (c : Fin 4) (s : State) : Host.Outcome State Fault Refusal :=
  let s := s.elapse dt
  if s.canOn c.val then .next (s.modCan c.val (fun (v : CanSt) => { v with integrating := false, pexc := false }))
  else .next s

/-- WITNESS_RESEND (R360): the requests whose delay has passed go back to the internal queue. -/
def execWitnessResend (dt : Nat) (c : Fin 4) (s : State) : Host.Outcome State Fault Refusal :=
  let s := s.elapse dt
  let due := (s.canSt c.val).resend.filter (fun (r : CanOwn × Nat) => decide (r.2 ≤ s.mt))
  let s := s.modCan c.val (fun (v : CanSt) => { v with
    resend := v.resend.filter (fun (r : CanOwn × Nat) => decide (s.mt < r.2)) })
  .next (due.foldl (fun s (r : CanOwn × Nat) => s.canOwn c.val r.1.frame r.1.again) s)

/-- The page enters RUNNING: the controller integrates (R346). -/
def State.canStarted (s : State) (c : Nat) : State :=
  { s with can := smod {} s.can c (fun (v : CanSt) => { flt := v.flt }) }

/-- The page has stopped (R362): prefetched frames complete CANCELLED, received ones are discarded. It stops only when no
attempt is under way. -/
def State.canStopped (s : State) (c : Nat) : State :=
  let s := (List.range 8).foldl (fun s f => s.canCancelHeads c f (s.canPref c f)) s
  { s with can := smod {} s.can c (fun (v : CanSt) => { flt := v.flt }) }

/-- What a CAN page's status registers show. -/
def State.canView (s : State) (c o : Nat) : Option Nat :=
  let v := s.canSt c
  let p := canPage c
  if o = R.CAN.STAT then
    some (v.tec * 2 ^ 24 + v.erc * 65536 + (if s.running p then v.bus else 3) * 4 +
      2 * b2n (s.running p && s.txHeld) + b2n v.pexc)
  else if o = R.CAN.FLTW0 then some (sget (0, 0) v.flt (s.rdf p R.CAN.FLTIDX 7 0)).1
  else if o = R.CAN.FLTW1 then some (sget (0, 0) v.flt (s.rdf p R.CAN.FLTIDX 7 0)).2
  else if 0x820 ≤ o && o < 0x830 then
    let q := s.canQueue c ((o - 0x820) / 4)
    some (q.recs.length * 65536 + b2n q.locked)
  else if 0x840 ≤ o && o < 0x860 then
    let f := (o - 0x840) / 4
    let bus := match v.attempt with
      | some a => decide (a.fifo = some f)
      | none => false
    some (s.canPref c f * 65536 + 2 * b2n bus + b2n (s.canFifo c f).cancelPend)
  else if 0xB00 ≤ o && o < 0xF00 then some (s.rxwWord c ((o - 0xB00) / 4))
  else none

end Sys2Proof.Machine
end

