-- ==== Sys2Proof/Machine/Eth.lean ====
section
/-! DEFINITION. The Ethernet ports: transmit descriptors, launch times, PRP pairs, one-step insertion, reception, the pair
address (R364 to R377). -/

namespace Sys2Proof.Machine

open Sys2Proof

/-! ### Reading frames -/

/-- The big-endian field of `k` bytes at offset `o`. -/
def beAt (b : List Byte) (o k : Nat) : Nat := beNat (slice b o k)

/-- Bytes written over a run of a frame. -/
def overwrite (b : List Byte) (o : Nat) (l : List Byte) : List Byte := b.take o ++ l ++ b.drop (o + l.length)

/-- Where the 802.1Q tag ends: the offset of the EtherType. -/
def typeOffset (b : List Byte) : Nat := if beAt b 12 2 = 0x8100 then 16 else 12

def etherType (b : List Byte) : Nat := beAt b (typeOffset b) 2

/-- The priority of a tagged frame. -/
def framePcp (b : List Byte) : Option Nat := if beAt b 12 2 = 0x8100 then some (bits (beAt b 14 2) 15 13) else none

/-- The ones' complement sum of a run of bytes, as 16-bit words. -/
def sum16 : List Byte → Nat
  | [] => 0
  | [a] => a.toNat * 256
  | a :: b :: t => (a.toNat * 256 + b.toNat + sum16 t) % 65535

/-- A UDP datagram in a frame: IP version, the sender's MAC and IP, the destination port, whether its checksum is absent
or right, its header's offset and its payload. -/
structure UdpIn where
  v6 : Bool
  mac : Nat
  ip : Nat
  srcPort : Nat
  port : Nat
  sumOk : Bool
  head : Nat
  data : List Byte
  deriving DecidableEq, Repr

/-- The UDP datagram a frame carries whole. -/
def parseUdp (b : List Byte) : Option UdpIn :=
  let o := typeOffset b + 2
  let mk := fun (v6 : Bool) (ip h : Nat) (pseudo : List Byte) =>
    let len := beAt b (h + 4) 2
    let dgram := slice b h len
    if len < 8 || dgram.length != len then none
    else
      let sum := sum16 (pseudo ++ beBytes 4 len ++ [0, 0, 0, 17] ++ dgram)
      some (UdpIn.mk v6 (beAt b 6 6) ip (beAt b h 2) (beAt b (h + 2) 2) (beAt b (h + 6) 2 = 0 || sum % 65535 = 0) h
        (dgram.drop 8))
  if etherType b = 0x0800 && bits (byteAt b o) 7 4 = 4 && byteAt b (o + 9) = 17 && bits (beAt b (o + 6) 2) 13 0 = 0 then
    mk false (beAt b (o + 12) 4) (o + 4 * (byteAt b o % 16)) (slice b (o + 12) 8)
  else if etherType b = 0x86DD && byteAt b (o + 6) = 17 then
    mk true (beAt b (o + 8) 16) (o + 40) (slice b (o + 8) 32)
  else none

/-- Is a frame a PTP message: its EtherType, or UDP port 319 or 320 (R366)? -/
def isPtp (b : List Byte) : Bool :=
  etherType b = 0x88F7 ||
  match parseUdp b with
  | some u => u.port = 319 || u.port = 320
  | none => false

/-! ### Transmit descriptors (R365, R366) -/

def ethTxRing (p q : Nat) : Nat := 64 + 8 * p + q
def ethRxRing (p q : Nat) : Nat := 96 + 4 * p + q

/-- A port in TIME.CFG.RXPORTS or TXPORTS. -/
def State.timePort (s : State) (p : Nat) : Bool :=
  (s.rdf .time R.TIME.CFG 23 20).testBit p || (s.rdf .time R.TIME.CFG 19 16).testBit p

/-- A buffer's prefix and its frame. -/
def txOps (d : Desc) : Nat := byteAt d.data 2
def txFrame (d : Desc) : List Byte := d.data.drop 16
def txPtpOff (d : Desc) : Nat := leAt d.data 0 2

/-- Does the even port of a PRP pair lead to a frame on both ports? -/
def txPrp (d : Desc) : Bool := (txOps d).testBit 3

/-- The STATUS of a descriptor that completes without being sent, but for lateness; 0 where it may be sent. -/
def State.ethDescStatus (s : State) (p q : Nat) (d : Desc) : Nat :=
  let f := txFrame d
  let ops := txOps d
  let off := txPtpOff d
  if d.len < 30 || 1534 < d.len || f.length + 16 != d.len || 16 ≤ ops || byteAt d.data 3 != 0 || leAt d.data 6 2 != 0 ||
      (txPrp d && !s.prpPair p) || d.tflags != 0 then 0x0002
  else if ops.testBit 0 && (off = 0 || f.length < off + 44 || byteAt f off % 16 != 0) then 0x0002
  else if d.launch != 0 && !(s.rdf (ethPage p) R.ETH.TXQ 7 0).testBit q then 0x0102
  else if isPtp f && s.timePort p then 0x0103
  else if s.txHeld then 0x0104
  else if !(s.ethPort p).up then 0x0100
  else 0

/-- Heads that are not to be sent complete at once. -/
def State.ethCheck (s : State) (p q : Nat) : Nat → State
  | 0 => s
  | k + 1 =>
    match s.ringHead (ethTxRing p q) with
    | none => s
    | some d =>
      let st := s.ethDescStatus p q d
      if st = 0 || !s.running (ethPage p) then s
      else (s.ringComplete (ethTxRing p q) st 0 d.len []).ethCheck p q k

def State.ethCheckAll (s : State) (p : Nat) : State :=
  (List.range 8).foldl (fun s q => s.ethCheck p q (s.ring (ethTxRing p q)).descs.length) s

/-! ### Sending (R367, R368, R374, R377) -/

/-- A head is eligible: no launch time, or one that is due (R367). -/
def State.ethEligible (s : State) (d : Desc) : Bool := d.launch = 0 || decide (mtDiff d.launch s.mt ≤ 0)

/-- A head with a launch time is late (R368). -/
def State.ethLate (s : State) (p q : Nat) (d : Desc) : Bool :=
  d.launch != 0 && decide ((s.rdn (ethPage p) (R.ETH.LATE q) : Int) < mtDiff s.mt d.launch)

/-- Sync with the transmit timestamp inserted (R377). -/
def oneStep (b : List Byte) (off ts frac : Nat) : List Byte :=
  let old := slice b off (beAt b (off + 2) 2)
  let corr := beAt b (off + 8) 8 + frac
  let b := overwrite b (off + 8) (beBytes 8 corr)
  let b := overwrite b (off + 34) (beBytes 6 (ts / 10 ^ 9) ++ beBytes 4 (ts % 10 ^ 9))
  let mlen := beAt b (off + 2) 2
  if etherType b = 0x0800 then overwrite b (off - 2) [0, 0]
  else if etherType b = 0x86DD then
    let extra := (beAt b (off + mlen) 2 + sum16 old + 65535 - sum16 (slice b off mlen) % 65535) % 65535
    overwrite b (off + mlen) (beBytes 2 extra)
  else b

/-- A host frame with the redundancy control trailer (R374). -/
def withTrailer (b : List Byte) (seq lan : Nat) : List Byte :=
  b ++ beBytes 2 seq ++ beBytes 2 (lan * 4096 + (b.length + 6 - typeOffset b - 2) % 4096) ++ [0x88, 0xFB]

/-- The transmit timestamp in 2⁻¹⁶ ns: the capture plus LAT_TX (R376). -/
def State.txStamp (s : State) (p frac : Nat) : Nat := s.mt * 65536 + frac + s.rdn (ethPage p) R.ETH.LAT_TX

/-- The head of a queue goes onto the line. -/
def State.ethSendHost (s : State) (p q frac : Nat) (d : Desc) : State :=
  let st := s.txStamp p frac
  let ts := st / 65536
  let fr := st % 65536
  let ops := txOps d
  let f := if ops.testBit 0 then oneStep (txFrame d) (txPtpOff d) ts fr else txFrame d
  let late := s.ethLate p q d
  let s := if late then s.inc (ethPage p) R.ETH.LATESENT else s
  let both := txPrp d && s.running (ethPage (p + 1))
  let s :=
    if txPrp d then
      let (n, s) := s.takePrpSeq p
      let s := (s.send (.eth p ts fr (.host (withTrailer f n 0xA)))).inc (ethPage p) R.ETH.TXOK
      if both then (s.send (.eth (p + 1) ts fr (.host (withTrailer f n 0xB)))).inc (ethPage (p + 1)) R.ETH.TXOK
      else s.inc (ethPage p) R.ETH.PRPSINGLE
    else (s.send (.eth p ts fr (.host f))).inc (ethPage p) R.ETH.TXOK
  let ret := ops.testBit 1
  let bytes := if ret then overwrite (overwrite d.data 4 (leBytes 2 fr)) 8 (leBytes 8 ts) else []
  s.ringComplete (ethTxRing p q) 0 (b2n ret + 2 * b2n late + 4 * b2n both) d.len bytes

/-- The head of the highest-numbered queue whose head is eligible. -/
def State.ethPick (s : State) (p : Nat) : Option (Nat × Desc) :=
  [7, 6, 5, 4, 3, 2, 1, 0].findSome? (fun q =>
    match s.ringHead (ethTxRing p q) with
    | some d => if s.ethEligible d then some (q, d) else none
    | none => none)

/-- At a frame boundary the next host frame starts; late ones without SENDLATE are dropped on the way. -/
def State.ethStart (s : State) (p frac : Nat) : Nat → State
  | 0 => s
  | k + 1 =>
    match s.ethPick p with
    | none => s
    | some (q, d) =>
      if s.ethLate p q d && !(txOps d).testBit 2 then
        let s := ((s.inc (ethPage p) R.ETH.LATEDROP).flag (ethPage p) 9).ringComplete (ethTxRing p q) 0x0004 0 d.len []
        (s.ethCheckAll p).ethStart p frac k
      else s.ethSendHost p q frac d

/-- Is a datagram a witness's reply (R295)? -/
def isWitnessReply (b : List Byte) : Bool := b.length = 48 && byteAt b 0 = 1 && 0x80 ≤ byteAt b 1

/-- Is a frame of the module's own still to be sent? A standby or fenced module sends witness messages alone (R372):
requests, which bear the port of WIT.NET, and replies, which go to the port their request came from. -/
def State.ownAllowed (s : State) (f : EthOwn) : Bool :=
  !s.txHeld ||
  match f with
  | .udp _ _ _ _ port _ _ data => port = s.rdf .wit R.WIT.NET 31 16 || isWitnessReply data
  | _ => false

/-- Descriptors that wait on the transmit rings of a port. -/
def State.ethWaiting (s : State) (p : Nat) : Nat := ((List.range 8).map (fun q => (s.ring (ethTxRing p q)).descs.length)).sum

/-- ETH_TRANSMIT (R366 to R368): the module's own frames go first. -/
def execEthTransmit (dt : Nat) (p : Fin 4) (frac : BitVec 16) (s : State) : Host.Outcome State Fault Refusal :=
  let s := s.elapse dt
  let p := p.val
  if !s.mode.speaks || !(s.running (ethPage p) || s.pageState (ethPage p) = .disabling) then .next s
  else
    let s := s.modEth p (fun (v : EthPort) => { v with own := v.own.filter (fun (e : EthOwn × Option (Nat × Nat)) => s.ownAllowed e.1) })
    let s := s.ethCheckAll p
    if !(s.ethPort p).up then .next s
    else
      match (s.ethPort p).own with
      | (f, t) :: rest =>
        let st := s.txStamp p frac.toNat
        let s := (s.modEth p (fun (v : EthPort) => { v with own := rest })).inc (ethPage p) R.ETH.TXOK
        .next (s.send (.eth p (st / 65536) (st % 65536) (.own f t)))
      | [] =>
        if s.running (ethPage p) then .next (s.ethStart p frac.toNat (s.ethWaiting p + 1)) else .next s

/-! ### Receiving (R369, R370, R375) -/

/-- Frames of a queue move to its posted buffers; a buffer smaller than 1,534 B completes with BAD_LEN and holds none. -/
def State.ethDeliver (s : State) (p q : Nat) : Nat → State
  | 0 => s
  | k + 1 =>
    let l := sget [] (s.ethPort p).queue q
    match l, s.ringHead (ethRxRing p q) with
    | b :: t, some d =>
      if d.len < 1534 then (s.ringComplete (ethRxRing p q) 0x0002 0 0 []).ethDeliver p q k
      else
        let s := s.ringPush (ethRxRing p q) 0 b
        let s := s.modEth p (fun (v : EthPort) => { v with queue := sset [] v.queue q t })
        (s.inc (ethPage p) R.ETH.RXOK).ethDeliver p q k
    | _, _ => s

def State.ethDeliverAll (s : State) (p q : Nat) : State :=
  s.ethDeliver p q ((sget [] (s.ethPort p).queue q).length + (s.ring (ethRxRing p q)).descs.length)

/-- A frame for a receive queue: its buffer of 32 KiB, or a drop. -/
def State.ethStore (s : State) (p q : Nat) (b : List Byte) : State :=
  let l := sget [] (s.ethPort p).queue q ++ [b]
  if 32768 < (l.map List.length).sum then
    ((s.inc .rng (R.RNG.DROP (ethRxRing p q))).inc (ethPage p) R.ETH.RXDROP).flag (ethPage p) 10
  else (s.modEth p (fun (v : EthPort) => { v with queue := sset [] v.queue q l })).ethDeliverAll p q

/-- Is the pair address served on a port (R372)? -/
def State.pairServed (s : State) (p : Nat) : Bool := s.ethActive && s.rdb (ethPage p) R.ETH.CFG 8

/-- The PTP multicast addresses (PRESUMED from IEEE 1588-2019 annexes C to F, log entry 111): those of IEEE 802.3, and
those that the IPv4 and IPv6 groups map to. -/
def ptpMulticast : List Nat :=
  [0x011B19000000, 0x0180C200000E, 0x01005E000181, 0x01005E00006B, 0x333300000181, 0x33330000006B]

/-- The destination filter (R369). -/
def State.ethAccepts (s : State) (p : Nat) (b : List Byte) : Bool :=
  let dst := beAt b 0 6
  s.rdb (ethPage p) R.ETH.CFG 6 || dst = s.modMac p || (s.pairServed p && dst = s.pairMac p) || dst = 2 ^ 48 - 1 ||
  ptpMulticast.contains dst || (dst / 2 ^ 40 % 2 = 1 && s.rdb (ethPage p) R.ETH.CFG 7)

/-- The redundancy control trailer of a frame (R374): sequence and LanId. -/
def prpTrailer (b : List Byte) : Option (Nat × Nat) :=
  let t := b.drop (b.length - 6)
  if 20 ≤ b.length && beAt t 4 2 = 0x88FB && beAt t 2 2 % 4096 = (b.length - typeOffset b - 2) % 4096 then
    some (beAt t 0 2, beAt t 2 2 / 4096)
  else none

/-- Entries of the duplicate table last t_prp_age. -/
def tPrpAge : Nat := 400000000

/-- Duplicate discard (R375): whether the frame passes, and the state after. -/
def State.prpJudge (s : State) (p : Nat) (b : List Byte) (t : Nat × Nat) : Bool × State :=
  let e := p / 2 * 2
  let live := (sget [] s.eth.prpSeen (e / 2)).filter (fun (x : Nat × Nat × Nat) => decide (s.mt < x.2.2 + tPrpAge))
  let s := if t.2 = (if p % 2 = 0 then 0xB else 0xA) then (s.inc (ethPage p) R.ETH.PRPWRONG).flag (ethPage p) 11 else s
  let dup := live.any (fun (x : Nat × Nat × Nat) => x.1 = beAt b 6 6 && x.2.1 = t.1)
  let seen := if dup then live else ((beAt b 6 6, t.1, s.mt) :: live).take 1024
  let s := { s with eth := { s.eth with prpSeen := sset [] s.eth.prpSeen (e / 2) seen } }
  (!dup, if dup then s.inc (ethPage p) R.ETH.PRPDUP else s)

/-- Is a datagram's sender the entry's address, where the entry asks for it (R371)? -/
def State.ethFrom (s : State) (p e : Nat) (u : UdpIn) : Bool :=
  !flg (s.tableWord p e) 30 || (u.mac = s.tableMac p e && u.ip = s.tableIp p e u.v6)

/-- A block consumes a datagram bound to it (R369, R371): none where no block does. -/
def State.udpConsume (s : State) (p : Fin 4) (u : UdpIn) : Option State :=
  let src : NetSource := .udp p (BitVec.ofNat 48 u.mac) (BitVec.ofNat 128 u.ip) (BitVec.ofNat 16 u.srcPort)
  let hears := s.hearsPort p.val
  let esp := s.espConns src u.port
  let streams := (List.range 8).filter (fun k =>
    let cfg := s.rd .spt (R.SPT.STR_CFG k)
    flg cfg 0 && flg cfg 1 && hears (fld cfg 5 3) && s.rdf .spt (R.SPT.STR_ADDR k) 15 0 = u.port)
  let wit := u.port = s.rdf .wit R.WIT.NET 31 16 &&
    ((s.running .wit && s.rdb .wit R.WIT.CFG 11 && hears (s.rdf .wit R.WIT.CFG 13 12)) ||
     (s.running .tdm && (List.range s.nlist).any (fun i =>
       s.rdb .tdm (R.TDM.WLIST_NET i) 0 && hears (s.rdf .tdm (R.TDM.WLIST_NET i) 9 8))))
  if u.v6 != s.ethV6 p.val then none
  else if s.running .slay && esp != [] then
    let ks := esp.filter (fun k => s.ethFrom (s.rdf .slay (R.SLAY.CON_CFG k) 5 4) k u)
    some (if ks = [] then s else s.espFrameIn ks u.data)
  else if wit then some (s.witnessIn u.data src)
  else if s.running .auth && (List.range 4).any (fun i => hears i && (s.rdf .auth R.AUTH.CFG 3 0).testBit i) && u.port = s.rdf .auth R.AUTH.NET 31 16 then
    some (s.command refuseAtJudgement (.net src) u.data)
  else if s.running .spt then
    streams.head?.map (fun k => if s.ethFrom (s.rdf .spt (R.SPT.STR_CFG k) 5 3) (8 + k) u then s.streamFrame k u.data else s)
  else none

/-- The MAC address the module may answer with for an address (R372): its own or the pair's, in an active that is not
fenced. -/
def State.askedMac (s : State) (p : Nat) (a : AskedAddr) : Option Nat :=
  let (x, v6) := match a with
    | .ip4 a => (a.toNat, false)
    | .ip6 a => (a.toNat, true)
  if !s.ethActive || x = 0 then none
  else if x = s.modIp p v6 then some (s.modMac p)
  else if s.pairServed p && x = s.pairIp p v6 then some (s.pairMac p)
  else none

/-- The address an ARP request or a neighbour solicitation in a frame asks for, with who asks. -/
def parseAsk (b : List Byte) : Option (AskedAddr × Nat × Nat) :=
  let o := typeOffset b + 2
  if etherType b = 0x0806 && beAt b o 6 = 0x000108000604 && beAt b (o + 6) 2 = 1 then
    some (.ip4 (BitVec.ofNat 32 (beAt b (o + 24) 4)), beAt b (o + 8) 6, beAt b (o + 14) 4)
  else if etherType b = 0x86DD && byteAt b (o + 6) = 58 && byteAt b (o + 40) = 135 then
    some (.ip6 (BitVec.ofNat 128 (beAt b (o + 48) 16)), beAt b 6 6, beAt b (o + 8) 16)
  else none

/-- The answer to an ARP request or a neighbour solicitation (R372). -/
def State.ethAnswer (s : State) (p : Nat) (a : AskedAddr) (who whoIp : Nat) : State :=
  match s.askedMac p a with
  | some mac => s.ethQueue p (.answer mac a who whoIp) none
  | none => s

/-- The steps 3 to 6 of R369 for an accepted frame; `flags` and the stamp fill its prefix. -/
def State.ethClassify (s : State) (p : Fin 4) (b : List Byte) (flags stamp : Nat) : State :=
  let used := fun (s : State) => s.inc (ethPage p.val) R.ETH.RXOK
  let queue := fun (s : State) =>
    let q := match framePcp b with
      | some k => s.rdf (ethPage p.val) R.ETH.RXCFG (2 * k + 1) (2 * k)
      | none => s.rdf (ethPage p.val) R.ETH.RXCFG 17 16
    s.ethStore p.val q (leBytes 2 flags ++ zeros 2 ++ leBytes 2 (stamp % 65536) ++ zeros 2 ++ leBytes 8 (stamp / 65536) ++ b)
  if isPtp b && s.timePort p.val then used s
  else
    match parseUdp b with
    | some u =>
      match s.udpConsume p u with
      | some t => if u.sumOk then used t else s.inc (ethPage p.val) R.ETH.CSUMERR
      | none => queue s
    | none =>
      match parseAsk b with
      | some (a, who, whoIp) => if (s.askedMac p.val a).isSome then used (s.ethAnswer p.val a who whoIp) else queue s
      | none => queue s

/-- ETH_FRAME_RECEIVED (R364, R369 to R376). -/
def execEthFrameReceived (dt : Nat) (p : Fin 4) (f : EthFrame) (frac : BitVec 16) (s : State) :
    Host.Outcome State Fault Refusal :=
  let s := s.elapse dt
  let pg := ethPage p.val
  if !s.running pg || !s.mode.speaks || !(s.ethPort p.val).up then .next s
  else if !f.fcsOk then .next (s.inc pg R.ETH.FCSERR)
  else if etherType f.bytes = 0x8808 && beAt f.bytes (typeOffset f.bytes + 2) 2 = 1 then .next (s.inc pg R.ETH.PAUSERX)
  else
    let stamp := s.mt * 65536 + frac.toNat - s.rdn pg R.ETH.LAT_RX
    let pair := s.prpPair (p.val / 2 * 2)
    let odd := 4 * b2n (pair && p.val % 2 = 1)
    match (if pair then prpTrailer f.bytes else none) with
    | some t =>
      let (pass, s) := s.prpJudge p.val f.bytes t
      let b := f.bytes.take (f.bytes.length - 6)
      if !pass then .next s
      else if s.ethAccepts p.val b then .next (s.ethClassify p b (3 + odd) stamp)
      else .next (s.inc pg R.ETH.RXFILT)
    | none =>
      if s.ethAccepts p.val f.bytes then .next (s.ethClassify p f.bytes (1 + odd) stamp)
      else .next (s.inc pg R.ETH.RXFILT)

/-! ### Addresses, announcements, links -/

/-- ARP_REQUEST (R372). -/
def execArpRequest (dt : Nat) (p : Fin 4) (addr : AskedAddr) (who : BitVec 48) (whoIp : BitVec 128) (s : State) :
    Host.Outcome State Fault Refusal :=
  let s := s.elapse dt
  if s.running (ethPage p.val) && (s.askedMac p.val addr).isSome then
    .next ((s.inc (ethPage p.val) R.ETH.RXOK).ethAnswer p.val addr who.toNat whoIp.toNat)
  else .next s

/-- PAIR_ANNOUNCE (R372): one announcement of the three, 100 ms apart, on each port with PAIR_EN; a PRP pair's goes out from
its even port. -/
def execPairAnnounce (dt : Nat) (s : State) : Host.Outcome State Fault Refusal :=
  let s := s.elapse dt
  if !s.ethActive || s.eth.announce = 0 || s.mt < s.eth.announceMt then .next s
  else
    let s := { s with eth := { s.eth with announce := s.eth.announce - 1, announceMt := s.mt + 100000000 } }
    .next ((List.range 4).foldl (fun s p =>
      if s.running (ethPage p) && s.rdb (ethPage p) R.ETH.CFG 8 && !(p % 2 = 1 && s.prpPair (p - 1)) then
        s.ethOwn p (.pairAnnounce (s.pairMac p) (s.pairIp p (s.ethV6 p)) (s.ethV6 p))
      else s) s)

/-- PRP_SUPERVISION (R374): on both ports of the pair that port p belongs to, every 2,000 ms. -/
def execPrpSupervision (dt : Nat) (p : Fin 4) (s : State) : Host.Outcome State Fault Refusal :=
  let s := s.elapse dt
  let e := p.val / 2 * 2
  if s.ethActive && s.prpPair e && s.running (ethPage e) && sget 0 s.eth.supMt e + 2000000000 ≤ s.mt then
    let s := { s with eth := { s.eth with supMt := sset 0 s.eth.supMt e s.mt } }
    .next ((s.ethQueue e (.supervision (s.modMac e)) none).ethQueue (e + 1) (.supervision (s.modMac e)) none)
  else .next s

/-- ETH_LINK_CHANGE (R364): the link goes up at a rate, or down; what waits of the module's own is lost on a link that is
down. -/
def execEthLinkChange (dt : Nat) (p : Fin 4) (up : Bool) (rate : Fin 4) (s : State) : Host.Outcome State Fault Refusal :=
  let s := s.elapse dt
  let p := p.val
  let r := if up then rate.val else 0
  let v := s.ethPort p
  if !s.running (ethPage p) || (v.up = up && v.rate = r) then .next s
  else
    let s := s.modEth p (fun (v : EthPort) => { v with up := up, rate := r, own := if up then v.own else [] })
    .next (((s.wrn (ethPage p) R.ETH.LINK (2 * r + b2n up)).flag (ethPage p) 8).ethCheckAll p)

/-- The block start's conditions of an ETH page (R364, R371, R373). -/
def State.ethStartOk (s : State) (p : Nat) : Bool :=
  let pg := ethPage p
  let e := p / 2 * 2
  let prp := s.rdb (ethPage e) R.ETH.CFG 5
  s.rdf pg R.ETH.CFG 2 0 < 6 &&
  !(p % 2 = 1 && s.rdb pg R.ETH.CFG 5) &&
  (!prp || (s.rdf (ethPage e) R.ETH.CFG 2 0 = s.rdf (ethPage (e + 1)) R.ETH.CFG 2 0 &&
    s.rdb (ethPage e) R.ETH.CFG 8 = s.rdb (ethPage (e + 1)) R.ETH.CFG 8)) &&
  (!s.rdb pg R.ETH.CFG 8 || s.pairMac p != 0)

/-- The page has stopped: what its port holds is gone, and its link is down. -/
def State.ethStopped (s : State) (p : Nat) : State :=
  { s with eth := { s.eth with port := serase s.eth.port p } }.wrn (ethPage p) R.ETH.LINK 0

end Sys2Proof.Machine
end

