-- ==== Sys2Proof/Machine/Irq.lean ====
section
/-! DEFINITION. The interrupt controller: sources, targets, dispatch, claim and complete, parking (R385 to R395). -/

namespace Sys2Proof.Machine

open Sys2Proof

/-- Is a source of the level kind (R385)? -/
def State.isLevel (s : State) (n : Nat) : Bool :=
  (128 ≤ n && n ≤ 185) || (186 ≤ n && n ≤ 193 && !s.rdb .irq (R.IRQ.EXT_CFG (n - 186)) 1)

def State.srcRoute (s : State) (n : Nat) : Nat := s.rdf .irq (R.IRQ.SRC n) 18 16
def State.masked (s : State) (n : Nat) : Bool := s.rdb .irq (R.IRQ.SRC n) 31

/-- The controller sends messages and answers claims (R395). -/
def State.irqOn (s : State) : Bool := s.running .irq && s.mode.speaks

/-- The block start's conditions (R388). -/
def State.irqStartOk (s : State) : Bool :=
  let en := fun (t : Nat) => s.rdb .irq (R.IRQ.TGT_CFG t) 31
  let lo := fun (t : Nat) => s.rdf .irq (R.IRQ.TGT_CFG t) 5 0
  let hi := fun (t : Nat) => lo t + 2 ^ s.rdf .irq (R.IRQ.TGT_CFG t) 10 8
  (List.range 6).all (fun t =>
    let fb := s.rdf .irq (R.IRQ.TGT_CFG t) 26 24
    let cnt := s.rdf .irq (R.IRQ.TGT_COAL t) 10 0
    s.rdf .irq (R.IRQ.TGT_CFG t) 10 8 ≤ 5 && hi t ≤ 64 &&
    (!s.rdb .irq (R.IRQ.TGT_CFG t) 27 || (fb != t && fb < 6 && en fb)) &&
    s.rdf .irq (R.IRQ.TGT_COAL t) 31 16 != 0 && 1 ≤ cnt && cnt ≤ 1024 &&
    (List.range t).all (fun u => !en t || !en u || hi t ≤ lo u || hi u ≤ lo t)) &&
  (List.range 8).all (fun i => 2 ≤ s.rdf .irq (R.IRQ.EXT_CFG i) 15 8)

/-- A source asserts: an edge, or the level of its line. A page's line is what its FLAGS say (R385, R386). -/
def State.assertSource (s : State) (n : Nat) (level : Bool) : State :=
  if 197 ≤ n then s
  else if 128 ≤ n && n ≤ 185 then
    match allPages[n - 128]? with
    | some p => s.pageLine p
    | none => s
  else if s.isLevel n then s.levelSource n level
  else if level then s.edgeSource n
  else s

/-- IRQ_SOURCE_ASSERT (R386). -/
def execIrqSourceAssert (dt : Nat) (src : Fin 256) (level : Bool) (s : State) : Host.Outcome State Fault Refusal :=
  .next ((s.elapse dt).assertSource src.val level)

/-- EXT_IRQ_PIN (R387): a pin has held a level for a number of filter cycles of 10 ns; a pulse shorter than N cycles
is never seen. A disabled pin never asserts. -/
def execExtIrqPin (dt : Nat) (i : Fin 8) (level : HeldLevel) (s : State) : Host.Outcome State Fault Refusal :=
  let s := s.elapse dt
  let k := i.val
  let was := sget false s.irq.ext k
  let cfg := s.rd .irq (R.IRQ.EXT_CFG k)
  if level.cycles < fld cfg 15 8 then .next s
  else
    let s := { s with irq := { s.irq with ext := sset false s.irq.ext k level.level } }
    let active := level.level = flg cfg 2
    if !flg cfg 0 then .next s
    else if flg cfg 1 then .next (if active && was != level.level then s.edgeSource (186 + k) else s)
    else .next (s.levelSource (186 + k) active)

/-- IRQ enters RUNNING: the lines of the pins follow the configuration that starts (R387). -/
def State.irqStarted (s : State) : State :=
  (List.range 8).foldl (fun (s : State) k =>
    let cfg := s.rd .irq (R.IRQ.EXT_CFG k)
    s.levelSource (186 + k) (flg cfg 0 && !flg cfg 1 && sget false s.irq.ext k = flg cfg 2)) s

/-! ### Firing (R389, R390, R393) -/

/-- Is a target due to fire? -/
def State.irqDue (s : State) (t : Nat) : Bool :=
  let g := s.tgt t
  s.irqOn && s.rdb .irq (R.IRQ.TGT_CFG t) 31 && !s.rdb .irq (R.IRQ.TGT_PARK t) 0 &&
  (s.rdf .irq (R.IRQ.TGT_COAL t) 10 0 ≤ g.events ||
    (g.timing && decide (g.firstMt + s.rdf .irq (R.IRQ.TGT_COAL t) 31 16 * 1000 ≤ s.mt)))

/-- The dispatch latch of one source by target `t`: its own sources and those of parked targets it serves. -/
def State.irqLatch (s : State) (t n : Nat) : State :=
  let v := s.src n
  if s.irqServer (s.srcRoute n) = some t && v.pend && !s.masked n && !v.insvc && (!v.latch || v.tgt = t) then
    let s := s.setSrc n { v with
      pend := false
      latch := true
      tgt := t
      signalled := false }
    if s.srcRoute n = t then s else s.inc .irq R.IRQ.FBDLV
  else s

/-- The vector of target `t` that announces a source (R388). -/
def State.irqVector (s : State) (t n : Nat) : Nat :=
  s.rdf .irq (R.IRQ.TGT_CFG t) 5 0 + s.rdf .irq (R.IRQ.SRC n) 4 0 % 2 ^ s.rdf .irq (R.IRQ.TGT_CFG t) 10 8

/-- Sources latched on a target and not yet announced. -/
def State.irqNews (s : State) (t : Nat) : List Nat :=
  (List.range 197).filter (fun n => (s.src n).latch && (s.src n).tgt = t && !(s.src n).signalled)

/-- A word of the MSI-X table: four words a vector, the last one with the vector's mask in bit 0, which is set after a
reset (log entry 25). -/
def msixDefault (w : Nat) : Nat := if w % 4 = 3 then 1 else 0
def State.msixWord (s : State) (w : Nat) : Nat := sget (msixDefault w) s.host.msix w
def State.msixMasked (s : State) (v : Nat) : Bool := (s.msixWord (4 * v + 3)).testBit 0

/-- An MSI-X message goes out, or is held by its vector's mask (R391) or after a PCI Express reset of the MSI-X capability
(R395). -/
def State.msixSend (s : State) (v : Nat) : State :=
  if s.host.off || s.msixMasked v then
    { s with host := { s.host with held := if s.host.held.contains v then s.host.held else s.host.held ++ [v] } }
  else s.send (.msix v)

/-- One message on each vector of a target that holds a latched source not yet signalled. -/
def State.irqSignal (s : State) (t : Nat) : State :=
  let news := s.irqNews t
  let s' := ((List.range 64).filter (fun v => news.any (fun n => s.irqVector t n = v))).foldl
    (fun (s : State) v => s.msixSend v) s
  news.foldl (fun (s : State) n => s.setSrc n { s.src n with signalled := true }) s'

/-- A target fires. -/
def State.irqFire (s : State) (t : Nat) : State :=
  let s := s.setTgt t { s.tgt t with
    events := 0
    timing := false }
  ((List.range 197).foldl (fun (s : State) n => s.irqLatch t n) s).irqSignal t

/-- TARGET_FIRE (R389, R390): a target whose count or timer is due fires. -/
def execTargetFire (dt : Nat) (t : Fin 6) (s : State) : Host.Outcome State Fault Refusal :=
  let s := s.elapse dt
  if s.irqDue t.val then .next (s.irqFire t.val) else .next s

/-! ### Claim and complete (R390, R391, R394) -/

/-- The latched source of a target with the highest priority, the lowest number on ties. -/
def State.irqNext (s : State) (t : Nat) : Option Nat :=
  ((List.range 197).filter (fun n => (s.src n).latch && (s.src n).tgt = t)).foldl (fun (best : Option Nat) n =>
    match best with
    | none => some n
    | some b => if s.rdf .irq (R.IRQ.SRC b) 10 8 < s.rdf .irq (R.IRQ.SRC n) 10 8 then some n else some b) none

/-- A claim read: the value it returns, and the state after. -/
def State.irqClaim (s : State) (t : Nat) : Nat × State :=
  if !s.irqOn then (0, s)
  else
    match s.irqNext t with
    | none => (0, s)
    | some n =>
      let s := s.setSrc n { s.src n with
        latch := false
        insvc := true }
      let s := if s.masked n then s.inc .irq R.IRQ.MASKDLV else s
      let s := if s.isLevel n && !(s.src n).line then (s.inc .irq R.IRQ.SPURIOUS).flag .irq 9 else s
      (2 ^ 31 + n, s)

/-- IRQ_CLAIM (R390). -/
def execIrqClaim (dt : Nat) (t : Fin 6) (s : State) : Host.Outcome State Fault Refusal :=
  let s := s.elapse dt
  let (v, s) := if s.pageServed .irq then s.irqClaim t.val else (0, s)
  .next (s.answerRead (Page.irq.base + R.IRQ.TGT_CLAIM t.val) v)

/-- A write of TGTt_COMPLETE. -/
def State.irqComplete (s : State) (t : Nat) (w : Word) : State :=
  let n := fld w 7 0
  let v := s.src n
  if v.insvc && v.tgt = t then
    let again := s.isLevel n && v.line && !v.pend
    let s := s.setSrc n { v with
      insvc := false
      pend := v.pend || again }
    let s := if again then s.irqEvent n else s
    if flg w 31 then (s.inc .irq R.IRQ.SPURIOUS).flag .irq 9 else s
  else (s.inc .irq R.IRQ.BADCPL).flag .irq 10

/-- IRQ_COMPLETE (R390). -/
def execIrqComplete (dt : Nat) (t : Fin 6) (value : Word) (s : State) : Host.Outcome State Fault Refusal :=
  .next ((s.elapse dt).hostDo .irq (fun (s : State) => s.irqComplete t.val value))

/-! ### Parking, masks and routes (R389, R391 to R393) -/

/-- Sources that wait pending on a target, unmasked and unlatched. -/
def State.irqWaiting (s : State) (t : Nat) : List Nat :=
  (List.range 197).filter (fun n => s.srcRoute n = t && (s.src n).pend && !(s.src n).latch && !s.masked n)

/-- A write of TGTt_PARK: what stays pending is counted again, for the target when it is unparked, or for the fallback
that serves it while it is parked; without one it is held. -/
def State.irqPark (s : State) (t : Nat) (w : Word) : State :=
  let was := s.rdb .irq (R.IRQ.TGT_PARK t) 0
  let s := s.wr .irq (R.IRQ.TGT_PARK t) w
  if was = flg w 0 then s else (s.irqWaiting t).foldl (fun (s : State) n => s.irqEvent n) s

/-- IRQ_PARK (R393). -/
def execIrqPark (dt : Nat) (t : Fin 6) (value : Word) (s : State) : Host.Outcome State Fault Refusal :=
  .next ((s.elapse dt).hostDo .irq (fun (s : State) => s.irqPark t.val value))

/-- A write of SRCs: a pending source is counted again when it is unmasked or routed to a new target. -/
def State.irqConfig (s : State) (n : Nat) (w : Word) : State :=
  let was := s.rd .irq (R.IRQ.SRC n)
  let s := s.wr .irq (R.IRQ.SRC n) w
  let again := (flg was 31 && !flg w 31) || fld was 18 16 != fld w 18 16
  if again && (s.src n).pend then s.irqEvent n else s

/-- IRQ_SOURCE_CONFIG (R391, R392). -/
def execIrqSourceConfig (dt : Nat) (src : Fin 256) (value : Word) (s : State) : Host.Outcome State Fault Refusal :=
  .next ((s.elapse dt).hostDo .irq (fun (s : State) => s.irqConfig src.val value))

/-- What the IRQ page's status registers show. -/
def State.irqView (s : State) (o : Nat) : Option Nat :=
  let word := fun (f : SrcSt → Bool) (w : Nat) => bitsOf (fun b => f (s.src (32 * w + b))) 32
  if 0xC00 ≤ o && o < 0xC60 && o % 16 = 12 then
    let t := (o - 0xC00) / 16
    let g := s.tgt t
    let latched := ((List.range 197).filter (fun n => (s.src n).latch && (s.src n).tgt = t)).length
    let held := s.rdb .irq (R.IRQ.TGT_PARK t) 0 && (s.irqFallback t).isNone && s.irqWaiting t != []
    some (g.events * 65536 + min latched 255 * 256 + 2 * b2n held + b2n g.timing)
  else if 0xD00 ≤ o && o < 0xD20 then some (word (·.pend) ((o - 0xD00) / 4))
  else if 0xD20 ≤ o && o < 0xD40 then some (word (·.latch) ((o - 0xD20) / 4))
  else if 0xD40 ≤ o && o < 0xD60 then some (word (·.insvc) ((o - 0xD40) / 4))
  else if 0xD60 ≤ o && o < 0xD80 then some (word (·.line) ((o - 0xD60) / 4))
  else none

end Sys2Proof.Machine
end

