-- ==== Sys2Proof/Machine/Thermal.lean ====
section
/-! DEFINITION. Die thermal management and power measurement (R422 to R430). -/

namespace Sys2Proof.Machine

open Sys2Proof

/-- A configuration register of the THM page; while it is not RUNNING its reset value (R430). -/
def State.thmCfg (s : State) (o : Nat) : Word := if s.running .thm then s.rd .thm o else regDefault .thm o

/-- The node that contains a diode, which the spec does not give (log entry 24). -/
def diodeNode (d : Nat) : Nat := Config.diodeNode d % 64

/-- The neighbours of a diode on the 4 × 4 grid (R424). -/
def diodeNear (d : Nat) : List Nat :=
  (List.range 16).filter (fun e =>
    (d / 4 = e / 4 && (d + 1 = e || e + 1 = d)) || (d % 4 = e % 4 && (d + 4 = e || e + 4 = d)))

/-- The median of readings; of an even number, the mean of the two in the middle, rounded to even. -/
def medianI (l : List Int) : Option Int :=
  let l := sortBy (fun a b => decide (a ≤ b)) l
  let n := l.length
  if n = 0 then none else some (roundEven (((l.getD ((n - 1) / 2) 0 : Rat) + (l.getD (n / 2) 0 : Rat)) / 2))

def State.excluded (s : State) (d : Nat) : Bool := (s.rdn .thm R.THM.DEXCL).testBit d

/-- Every node with an included diode is corrected toward it by one tenth of the difference (R423). -/
def State.correctNodes (s : State) (nodes diodes : List Int) : List Int :=
  (List.range 16).foldl (fun (l : List Int) d =>
    if s.excluded d then l
    else
      let n := diodeNode d
      let t := l.getD n 0
      l.set n (t + roundEven (((diodes.getD d 0 : Rat) - t) / 10))) nodes

/-- The exclusion test of one diode (R424). -/
def State.judgeDiode (s : State) (diodes : List Int) (d : Nat) : State :=
  let tol : Int := fld (s.thmCfg R.THM.CFG) 31 16
  let r := diodes.getD d 0
  let node := s.thm.nodes.getD (diodeNode d) 0
  let near := (diodeNear d).filter (fun e => !s.excluded e)
  match medianI (near.map (fun e => diodes.getD e 0)) with
  | none => s
  | some m =>
    let out := tol < (r - node).natAbs && tol < (r - m).natAbs && (m - node).natAbs ≤ tol && !s.excluded d
    let n := if out then sget 0 s.thm.cnt d + 1 else 0
    let s := { s with thm := { s.thm with cnt := sset 0 s.thm.cnt d n } }
    if out && fld (s.thmCfg R.THM.CFG) 15 8 ≤ n then
      let s := s.wrb .thm R.THM.DEXCL d true
      let s := (s.flag .thm 10).inc .thm R.THM.EXCLS
      s.record .thm 0x07 ([3, BitVec.ofNat 8 d, 0, 0] ++ leBytes 2 (unsign 16 r) ++ leBytes 2 (unsign 16 node) ++
        leBytes 2 (unsign 16 m) ++ leBytes 2 (s.rdn .thm R.THM.DEXCL))
    else s

/-- The level after an update: up at a threshold, down below it less the hysteresis (R425). -/
def throttleLevel (old : Nat) (tj hys : Int) (many : Bool) : Nat :=
  let up := max (if 6528 ≤ tj then 3 else if 6400 ≤ tj then 2 else if 6080 ≤ tj then 1 else 0) (if many then 2 else 0)
  let stay := if 6528 - hys ≤ tj then 3 else if 6400 - hys ≤ tj then 2 else if 6080 - hys ≤ tj then 1 else 0
  max up (min old stay)

/-- The self-test stretch as UQ3.5 (R425). -/
def stretchOf (level : Nat) (tj : Int) : Nat :=
  match level with
  | 0 => 32
  | 1 => (clampI 32 128 (32 + roundEven (3 * ((tj - 6080 : Int) : Rat) / 10))).toNat
  | _ => 128

/-- The throttle level takes a new value: flags, counts, source THM_L2 and OUT cause [5] (R425). -/
def State.setLevel (s : State) (n : Nat) : State :=
  let old := s.thm.level
  let s := { s with thm := { s.thm with level := n } }
  let s := if old = 0 && 1 ≤ n then (s.inc .thm R.THM.L1S).flag .thm 8 else s
  let s := if old < 2 && 2 ≤ n then (s.inc .thm R.THM.L2S).flag .thm 9 else s
  let s := s.setSource 63 (decide (2 ≤ n))
  if old < 3 && n = 3 then s.outEntry 5 else s

/-- DIE_MODEL_UPDATE (R423 to R425): the network's node temperatures and the diodes' readings. The manager goes on in
OUT, where level 3 joins the record or the repeat counter (R23). -/
def execDieModelUpdate (dt : Nat) (nodes : List Int) (diodes : List Int) (s : State) : Host.Outcome State Fault Refusal :=
  let s := s.elapse dt
  if !(s.mode.serves || s.mode = .out) then .next s
  else
    let s := { s with thm := { s.thm with nodes := s.correctNodes nodes diodes } }
    let s := (List.range 16).foldl (fun (s : State) d => s.judgeDiode diodes d) s
    let n := popCount (s.rdn .thm R.THM.DEXCL) 16
    let s := if 4 < n && !s.rdb .thm R.PAGE.FLAGS 11 then s.flag .thm 11 else s
    let tj := s.thm.nodes.foldl max (s.thm.nodes.getD 0 0)
    let s := { s with thm := { s.thm with maxTj := max s.thm.maxTj tj } }
    let s := s.setLevel (throttleLevel s.thm.level tj (fld (s.thmCfg R.THM.HYS) 15 0) (decide (4 < n)))
    let top := ((List.range 16).filter (fun d => !s.excluded d)).map (fun d => diodes.getD d 0)
    let s := s.wrn .thm R.THM.STAT (s.thm.nodes.findIdx (· = tj) % 64 * 2 ^ 24 + n * 65536 +
      stretchOf s.thm.level tj * 256 + min s.thm.level 2)
    let s := s.wrn .thm R.THM.TJ (unsign 16 (top.foldl max (top.headD 0)) * 65536 + unsign 16 tj)
    let s := (List.range 16).foldl (fun (s : State) d =>
      s.wrn .thm (R.THM.DIODE d) (unsign 16 (s.thm.nodes.getD (diodeNode d) 0) * 65536 + unsign 16 (diodes.getD d 0))) s
    .next s.trialOut

/-- A write of NSEL latches the named node's temperature (THM.NODE). -/
def State.nselLatch (s : State) (w : Nat) : State :=
  (s.wrn .thm R.THM.NSEL w).wrn .thm R.THM.NODE (unsign 16 (s.thm.nodes.getD (w % 64) 0))

/-- NSEL_LATCH. -/
def execNselLatch (dt : Nat) (node : Fin 64) (s : State) : Host.Outcome State Fault Refusal :=
  .next ((s.elapse dt).hostDo .thm (fun (s : State) => s.nselLatch node.val))

/-- POWER_SAMPLE (R422): the 1 ms means of domains 0 to 14 and of the input power in mW, the 1 s mean, and the supplies in
mV. Domain 15 is the difference. -/
def execPowerSample (dt : Nat) (domains : List Nat) (total : Nat) (mean1s : Nat) (vaon : Nat) (vin12 : Nat) (s : State) :
    Host.Outcome State Fault Refusal :=
  let s := s.elapse dt
  if !s.mode.serves then .next s
  else
    let used := (domains.take 15).sum
    let s := (List.range 15).foldl (fun (s : State) d => s.wrn .pwr (R.PWR.P d) (domains.getD d 0)) s
    let s := (s.wrn .pwr (R.PWR.P 15) (total - used)).wrn .pwr R.PWR.TOTAL total
    let s := s.wrn .pwr R.PWR.SUPPLY (vaon % 65536 * 65536 + vin12 % 65536)
    let s := s.wrn .pwr R.PWR.PEAK (max (s.rdn .pwr R.PWR.PEAK) mean1s)
    let ovr := s.running .pwr && decide (s.rdf .pwr R.PWR.CFG 15 0 * 100 < mean1s)
    let s' := { s with pwrAlarm := ovr }
    if ovr && !s.pwrAlarm then .next ((s'.inc .pwr R.PWR.ALARMS).flag .pwr 8) else .next s'

/-- The block starts of THM and PWR. -/
def State.thmStartOk (s : State) : Bool :=
  let d := s.rdf .thm R.THM.CFG 7 0
  s.rdf .thm R.THM.CFG 31 16 != 0 && s.rdf .thm R.THM.CFG 15 8 != 0 && 1 ≤ d && d ≤ 64 && s.rdf .thm R.THM.HYS 15 0 != 0
def State.pwrStartOk (s : State) : Bool := s.rdf .pwr R.PWR.CFG 15 0 != 0

/-- DIODE_OVER_LIMIT (R25, R428): a diode at 125 °C or more, in any state but RESET. The outputs are forced, what waited for
the Strongbox is lost, and the island's record waits for the MRAM while PFW_N is high. -/
def execDiodeOverLimit (dt : Nat) (diode : Fin 16) (reading : Int) (s : State) : Host.Outcome State Fault Refusal :=
  let s := s.elapse dt
  if s.mode = .reset || s.mode = .thermal || reading < 8000 then .next s
  else
    let prior := s.mode.code
    let s := (s.bookRole false).forceSafe
    let payload := [BitVec.ofNat 8 diode.val, 0, 0, 0] ++ leBytes 2 (unsign 16 reading) ++ [BitVec.ofNat 8 prior, 0] ++
      leBytes 2 (unsign 16 s.thm.maxTj) ++ zeros 2
    let r : RecReq := { cls := 0x06, source := pageType .thm % 256, mt := s.mt, payload := payload }
    let m := s.mram.thm
    .next { s with
      sys := { s.sys with mode := .thermal, prior := prior }
      sbx := { s.sbx with
        lockedQ := []
        rollQ := []
        clears := []
        thermal := if s.sys.pfwLow then none else some r }
      mram := { s.mram with thm := { mt := s.mt, diode := diode.val, reading := reading, count := satAdd 32 m.count 1 } } }

/-- What the THM registers kept in MRAM show. -/
def State.thmView (s : State) (o : Nat) : Option Nat :=
  let m := s.mram.thm
  if o = R.THM.LASTSD_LO then some (m.mt % 2 ^ 32)
  else if o = R.THM.LASTSD_HI then some (m.mt / 2 ^ 32)
  else if o = R.THM.LASTSD then some (m.diode % 16 * 2 ^ 24 + unsign 16 m.reading)
  else if o = R.THM.SHUTDOWNS then some m.count
  else none

end Sys2Proof.Machine
end

