-- ==== Sys2Proof/Machine/Time.lean ====
section
/-! DEFINITION. The time engine: the source port, the servo, path delays, holdover and the transmitter ports (R54, R56,
R378 to R382). -/

namespace Sys2Proof.Machine

open Sys2Proof

def State.modTime (s : State) (f : TimeSt → TimeSt) : State := { s with time := f s.time }

def State.profile (s : State) : Nat := if s.running .time then s.rdf .time R.TIME.CFG 1 0 else 0

def State.timeRx (s : State) (p : Nat) : Bool := s.profile != 0 && (s.rdf .time R.TIME.CFG 23 20).testBit p
def State.timeTx (s : State) (p : Nat) : Bool := s.profile != 0 && (s.rdf .time R.TIME.CFG 19 16).testBit p

/-- The path delay in force: meanPathDelay, or the neighbour delay under 802.1AS. -/
def State.pathDelay (s : State) : Int := if s.profile = 2 then s.time.neigh else s.time.mean

/-- The block start's conditions (R379). -/
def State.timeStartOk (s : State) : Bool :=
  s.rdf .time R.TIME.CFG 1 0 != 3 && s.rdf .time R.TIME.CFG 31 24 < 128 && s.rdf .time R.TIME.LOCK 7 0 != 0 &&
  (s.rdf .time R.TIME.CFG 23 20 &&& s.rdf .time R.TIME.CFG 19 16) = 0

/-- TIME enters RUNNING (R380): FREE, no source port. -/
def State.timeStarted (s : State) : State :=
  s.modTime (fun (t : TimeSt) => { t with
    st := if s.mode = .standby then 4 else 0
    port := 15
    lockRun := 0
    heard := [] })

/-- The servo's rate correction in ppb for an offset in 2⁻¹⁶ ns, with the integrator after it (log entry 23): a PI loop
whose gains are in ppb per ns and whose rate stays within ±200 ppm (R56). -/
def State.servo (s : State) (offset : Int) : Int × Int :=
  let ns := qv 16 offset
  let kp := qv 16 (s.rdf .time R.TIME.SERVO 31 16)
  let ki := qv 16 (s.rdf .time R.TIME.SERVO 15 0)
  let lim : Int := 200000 * 2 ^ 32
  let integ := clampI (-lim) lim (s.time.integ - roundEven (ki * ns * 2 ^ 32))
  (clampI (-200000) 200000 (roundEven (qv 32 integ - kp * ns)), integ)

/-- The lock state after a Sync (R380). -/
def State.lockStep (s : State) (offset : Int) : State :=
  let thr : Int := s.rdf .time R.TIME.LOCK 31 16 * 65536
  let t := s.time
  let run := if (offset.natAbs : Int) < thr then t.lockRun + 1 else 0
  let s := s.modTime (fun (t : TimeSt) => { t with lockRun := run })
  if (t.st = 1 || t.st = 3) && s.rdf .time R.TIME.LOCK 7 0 ≤ run then
    (s.modTime (fun (t : TimeSt) => { t with st := 2 })).flag .time 8
  else if t.st = 2 && 4 * thr < (offset.natAbs : Int) then s.modTime (fun (t : TimeSt) => { t with st := 1 })
  else s

/-- SYNC (R380 to R382): a Sync from the source port. A standby computes the offset alone. Outside a role a large offset
is stepped; otherwise the rate is steered. -/
def execTimeSync (dt : Nat) (p : Fin 4) (t1 : Int) (t2 : Int) (correction : Int) (s : State) :
    Host.Outcome State Fault Refusal :=
  let s := s.elapse dt
  if !s.timeRx p.val || s.time.port != p.val then .next s
  else
    let ms := t2 - t1 - correction - s.rdi (ethPage p.val) R.ETH.ASYM
    let offset := ms - s.pathDelay
    let s := (s.modTime (fun (t : TimeSt) => { t with ms := ms, offset := offset, lastSync := s.mt })).wri .time R.TIME.OFFSET
      (floorDiv offset 65536)
    if s.mode = .standby then .next s
    else if !s.mode.isRole && s.rdn .time R.TIME.STEP * 65536 < offset.natAbs then
      let s := (s.inc .time R.TIME.STEPS).flag .time 11
      let s := s.lockStep offset
      .next (s.stepMt ((s.mt : Int) - floorDiv offset 65536).toNat)
    else
      let (rate, integ) := s.servo offset
      let s := s.modTime (fun (t : TimeSt) => { t with rate := rate, integ := integ })
      .next ((s.wri .time R.TIME.RATE rate).lockStep offset)

/-- The order of Announce data in the comparison of clause 9.3: priority1, class, accuracy, variance, priority2,
identity. -/
def announceRank (a : PtpAnnounce) : Nat :=
  ((((a.prio1.toNat * 256 + a.cls.toNat) * 256 + a.accuracy.toNat) * 65536 + a.variance.toNat) * 256 + a.prio2.toNat) *
    2 ^ 64 + a.gm.toNat

/-- The better of two Announce messages. -/
def Foreign.better (a b : Foreign) : Bool :=
  a.rank < b.rank || (a.rank = b.rank && (a.steps < b.steps || (a.steps = b.steps && a.sender < b.sender)))

/-- The qualified messages of a port, newest first: a sender heard at least twice counts by its latest message. `seen`
holds the senders met so far. -/
def qualifiedFrom (seen : List Nat) : List Foreign → List Foreign
  | [] => []
  | a :: t =>
    (if !seen.contains a.sender && t.any (fun (b : Foreign) => b.sender = a.sender) then [a] else []) ++
      qualifiedFrom (a.sender :: seen) t

def qualified (l : List Foreign) : List Foreign := qualifiedFrom [] l

/-- The best of a list of candidates by port; the earlier stays on a tie. -/
def bestForeign : List (Nat × Foreign) → Option (Nat × Foreign)
  | [] => none
  | a :: t =>
    match bestForeign t with
    | none => some a
    | some b => if b.2.better a.2 then some b else some a

/-- ANNOUNCE (R379): the best qualified Announce of the receiver ports gives the source port. -/
def execPtpAnnounce (dt : Nat) (p : Fin 4) (a : PtpAnnounce) (s : State) : Host.Outcome State Fault Refusal :=
  let s := s.elapse dt
  let domain := if s.profile = 1 then s.rdf .time R.TIME.CFG 31 24 else 0
  if !s.timeRx p.val || a.domain.toNat != domain || 255 ≤ a.steps.toNat then .next s
  else
    let f : Foreign := { rank := announceRank a, gm := a.gm.toNat, cls := a.cls.toNat, steps := a.steps.toNat,
                         sender := a.sender.toNat, mt := s.mt }
    let s := s.modTime (fun (t : TimeSt) => { t with heard := smod [] t.heard p.val (fun (l : List Foreign) => (f :: l).take 10) })
    let all := (List.range 4).flatMap (fun p =>
      if s.timeRx p then (qualified (sget [] s.time.heard p)).map (fun (f : Foreign) => (p, f)) else [])
    match bestForeign all with
    | none => .next s
    | some (q, g) =>
      let s := s.wr64 .time R.TIME.GMID_LO R.TIME.GMID_HI g.gm
      if q = s.time.port then .next s
      else
        let s := s.modTime (fun (t : TimeSt) => { t with
          port := q
          st := if t.st = 4 then 4 else 1
          lockRun := 0
          lastSync := s.mt })
        .next ((s.inc .time R.TIME.SRCCHGS).flag .time 10)

/-- The content of TIME.PDELAY. -/
def State.showDelay (s : State) : State := s.wri .time R.TIME.PDELAY (floorDiv s.pathDelay 256)

/-- DELAY_RESP (R380): the end-to-end exchange, or under 802.1AS the peer exchange, gives the path delay. -/
def execDelayResp (dt : Nat) (p : Fin 4) (t1 : Int) (t2 : Int) (t3 : Int) (t4 : Int) (s : State) :
    Host.Outcome State Fault Refusal :=
  let s := s.elapse dt
  if !s.timeRx p.val || s.time.port != p.val || s.mode = .standby then .next s
  else if s.profile = 2 then
    .next (s.modTime (fun (t : TimeSt) => { t with neigh := floorDiv ((t4 - t1) - (t3 - t2)) 2 })).showDelay
  else .next (s.modTime (fun (t : TimeSt) => { t with mean := floorDiv ((t2 - t1) + (t4 - t3)) 2 })).showDelay

/-- May the time engine send on a port: not as standby, nor fenced (R372, R382)? -/
def State.timeSend (s : State) (p type : Nat) (content : List Byte) : State :=
  let q := s.time.seqOut
  (s.modTime (fun (t : TimeSt) => { t with seqOut := (q + 1) % 2 ^ 16 })).ethQueue p (.ptp type q content) none

/-- DELAY_REQUEST_SEND (R380): the time receiver asks on its source port, Delay_Req (1) or Pdelay_Req (2). -/
def execDelayRequestSend (dt : Nat) (s : State) : Host.Outcome State Fault Refusal :=
  let s := s.elapse dt
  if s.profile = 0 || s.time.port = 15 || s.txHeld then .next s
  else .next (s.timeSend s.time.port (if s.profile = 2 then 2 else 1) [])

/-- DELAY_REQ (R379): an active's transmitter port answers Delay_Req with Delay_Resp (9), Pdelay_Req with Pdelay_Resp
(3), with the time of its arrival in 2⁻¹⁶ ns. -/
def execDelayReq (dt : Nat) (p : Fin 4) (peer : Bool) (rx : Int) (s : State) : Host.Outcome State Fault Refusal :=
  let s := s.elapse dt
  if s.timeTx p.val && s.ethActive && peer = decide (s.profile = 2) then
    .next (s.timeSend p.val (if peer then 3 else 9) (leBytes 10 (unsign 80 rx)))
  else .next s

/-- The class of the grandmaster in force. -/
def State.gmClass (s : State) : Nat :=
  match (qualified (sget [] s.time.heard s.time.port)) with
  | f :: _ => f.cls
  | [] => 248

/-- The clockClass the module announces (R379). -/
def State.announcedClass (s : State) : Nat :=
  match s.time.st with
  | 2 => s.gmClass
  | 3 => 187
  | _ => 248

/-- An interval of 2 to the power of a signed byte, in s, as nanoseconds. -/
def logInterval (b : Nat) : Nat := 10 ^ 9 * 2 ^ (signed 8 b + 128).toNat / 2 ^ 128

/-- TIME_TRANSMIT_PERIOD (R379): a transmitter port of an active sends Sync (0) every 2^LOGSYNC s, one-step where ONESTEP_TX
is set, or Announce (11) every 2^LOGANN s. Before its time it does nothing. -/
def execTimeTransmitPeriod (dt : Nat) (p : Fin 4) (announce : Bool) (s : State) : Host.Outcome State Fault Refusal :=
  let s := s.elapse dt
  let last := sget 0 (if announce then s.time.annMt else s.time.syncMt) p.val
  let every := logInterval (if announce then s.rdf .time R.TIME.TXPARAM 7 0 else s.rdf .time R.TIME.TXPARAM 15 8)
  let s' := s.modTime (fun (t : TimeSt) =>
    if announce then { t with annMt := sset 0 t.annMt p.val s.mt } else { t with syncMt := sset 0 t.syncMt p.val s.mt })
  if !s.timeTx p.val || !s.ethActive || s.mt < last + every then .next s
  else if announce then
    .next (s'.timeSend p.val 11 [BitVec.ofNat 8 (s.rdf .time R.TIME.TXPARAM 31 24), BitVec.ofNat 8 s.announcedClass,
      BitVec.ofNat 8 (s.rdf .time R.TIME.TXPARAM 23 16)])
  else .next (s'.timeSend p.val 0 [BitVec.ofNat 8 (b2n (s.rdb .time R.TIME.CFG 2))])

/-- HOLDOVER_ENTRY (R380, R381): no Sync from the source port for LOSS_MS; the rate stays as it is. -/
def execHoldoverEntry (dt : Nat) (s : State) : Host.Outcome State Fault Refusal :=
  let s := s.elapse dt
  if (s.time.st = 1 || s.time.st = 2) && s.profile != 0 &&
      s.time.lastSync + s.rdf .time R.TIME.HOLD 15 0 * 1000000 ≤ s.mt then
    .next (((s.modTime (fun (t : TimeSt) => { t with st := 3, lockRun := 0 })).inc .time R.TIME.HOLDOVERS).flag .time 9)
  else .next s

/-- A read of MT_LO latches the rest of MT. -/
def State.mtLatch (s : State) (frac : Nat) : State :=
  s.modTime (fun (t : TimeSt) => { t with latchHi := s.mt / 2 ^ 32, latchFrac := frac })

/-- MT_LO_READ (R54): a read of MT_LO latches HI and FRAC. -/
def execMtLoRead (dt : Nat) (frac : BitVec 16) (s : State) : Host.Outcome State Fault Refusal :=
  let s := s.elapse dt
  if s.pageServed .time then .next ((s.mtLatch frac.toNat).answerRead (Page.time.base + R.TIME.MT_LO) (s.mt % 2 ^ 32))
  else .next (s.answerRead (Page.time.base + R.TIME.MT_LO) 0)

/-- The module's clockIdentity: the EUI-64 of ETH0's address, and 0, its value after a reset, until ETH0 has one (R6). -/
def State.clockId (s : State) : Nat :=
  let m := s.modMac 0
  if m = 0 then 0 else (m / 2 ^ 24 * 65536 + 0xFFFE) * 2 ^ 24 + m % 2 ^ 24

/-- What the TIME page's status registers show. -/
def State.timeView (s : State) (o : Nat) : Option Nat :=
  if o = R.TIME.STAT then some (s.time.port % 16 * 16 + s.time.st)
  else if o = R.TIME.MT_LO then some (s.mt % 2 ^ 32)
  else if o = R.TIME.MT_HI then some s.time.latchHi
  else if o = R.TIME.MT_FRAC then some s.time.latchFrac
  else if o = R.TIME.CLKID_LO then some (s.clockId % 2 ^ 32)
  else if o = R.TIME.CLKID_HI then some (s.clockId / 2 ^ 32)
  else none

end Sys2Proof.Machine
end

