-- ==== Sys2Proof/Machine/Blocks.lean ====
section
/-! DEFINITION. Pages enabling and disabling (R35 to R38): the enable check, each block's start with the values that fail
it, and what a block does when its page enters or leaves RUNNING. -/

namespace Sys2Proof.Machine

open Sys2Proof

/-! ### Block starts: the values that fail them -/

/-- A value within bounds. -/
def within (lo hi x : Nat) : Bool := lo ≤ x && x ≤ hi

/-- The MOD page's fields (R103, R109, R116, R119). -/
def State.modStartOk (s : State) : Bool :=
  within 4 255 (s.rdf .mod R.MOD.CFG 7 0) &&
  (List.range 12).all (fun n =>
    let c := s.rd .mod (R.MOD.IN_CFG n)
    within 1 64 (fld c 31 24) && fld c 10 8 ≤ 4 && fld c 23 16 < 16 * 2 ^ fld c 10 8 &&
    (!flg c 0 || s.rdn .mod (R.MOD.IN_SCALE n) != 0))

/-- The populated front-ends (R122). -/
def State.usedFes (s : State) : List Nat := (List.range 64).filter (fun f => s.present (8 * f))

/-- The fields of the EST page that fail its start by themselves. -/
def State.estFieldsOk (s : State) : Bool :=
  let e := fun (o hi lo : Nat) => s.rdf .est o hi lo
  e R.EST.CFG 31 16 != 0 && e R.EST.ISC_THR 31 16 < e R.EST.ISC_THR 15 0 && e R.EST.REST_DIV 15 0 != 0 &&
  60 ≤ e R.EST.ANCHOR 31 16 && e R.EST.ANCHOR 15 0 ≤ e R.EST.ANCHOR 31 16 && e R.EST.ANCHOR_SIG 15 0 != 0 &&
  e R.EST.DIS 7 0 != 0 && within 2 5 (e R.EST.LRN2 19 16) && e R.EST.CAL 15 0 < e R.EST.CAL 31 16 &&
  e R.EST.SOCWIN 15 0 < e R.EST.SOCWIN 31 16 && s.usedFes.all (fun f => (s.feMask f).testBit 0)

/-- A FEMAP entry its parameter set does not allow (R142). -/
def State.feBad (s : State) (f : Nat) : Bool :=
  let n := s.feSet f
  let p := s.pset n
  !s.psUse.contains n || (List.range 4).any (fun j => (s.feMask f).testBit j && !p.hyp.testBit j) ||
  (p.isC12 && ((s.feMask f).testBit 1 || (s.feMask f).testBit 2))

/-- The sets that fail their CRC, and the sets that fail a content check (R142). -/
def State.psCrcBad (s : State) : Nat := bitsOf (fun n => s.psUse.contains n && s.psCrc n != s.rdn .est (R.EST.PS_REF n)) 8
def State.psContentBad (s : State) : Nat :=
  bitsOf (fun n =>
    let fes := s.usedFes.filter (fun f => s.feSet f = n)
    (s.psUse.contains n && !(s.pset n).contentOk (fes.map s.feMask)) || fes.any s.feBad) 8

def State.estStartOk (s : State) : Bool := s.estFieldsOk && s.psCrcBad = 0 && s.psContentBad = 0

/-- What the EST start shows (R142, R143): PSSTAT and PSBAD, and the interpolation error of every set that passed. -/
def State.estStartShow (s : State) : State :=
  let crc := s.psCrcBad
  let content := s.psContentBad
  let s := s.wrn .est R.EST.PSSTAT (content * 256 + crc)
  let s := if crc ||| content = 0 then s else s.flag .est 8
  s.psUse.foldl (fun s n =>
    if (crc ||| content).testBit n then s
    else
      let p := s.pset n
      let u := fun (th : Rat) => valueOf (if p.isC12 then hermite p.ocvP 0 1 th else p.uP th)
      (s.wrn .est (R.EST.EOCV_P n) (eocv u p.verP)).wrn .est (R.EST.EOCV_N n) (eocv (fun th => valueOf (p.uN th)) p.verN)) s

/-- The BAL page's fields (R198 to R203). -/
def State.balStartOk (s : State) : Bool :=
  60 ≤ s.rdf .bal R.BAL.CFG 31 16 && s.rdf .bal R.BAL.LIM 11 0 ≤ 2047 && s.rdf .bal R.BAL.LOSS 15 0 != 0 &&
  decide (s.rds .bal R.BAL.TLIM 31 16 < s.rds .bal R.BAL.TLIM 15 0) && s.rdf .bal R.BAL.RBCHK 23 16 != 0 &&
  (!s.rdb .bal R.BAL.CFG 1 || 60 ≤ s.rdf .bal R.BAL.RBCHK 11 0)

/-- Zone z: enabled, first and last channel. -/
def State.zone (s : State) (z : Nat) : Bool × Nat × Nat :=
  let w := s.rd .cth (R.CTH.ZONE_RANGE z)
  (flg w 31, fld w 8 0, fld w 24 16)

/-- The stability conditions of R209 for a parameter set. -/
def State.thermStable (s : State) (p : PSet) : Bool :=
  let g := ((List.range 4).filter (fun z => (s.zone z).1)).map (fun z => (s.rdf .cth (R.CTH.ZONE_COOL z) 15 0 : Rat) / 1000)
  let sum := 1 / p.rCs + g.foldl max 0 + 2 * s.gNb
  p.rCs != 0 && p.cS != 0 && p.cC != 0 && decide (sum / 10 / p.cS ≤ 1) && decide (1 / 10 / (p.rCs * p.cC) ≤ 1)

/-- The CTH page's fields, and the conditions of R209. -/
def State.cthStartOk (s : State) : Bool :=
  let on := (List.range 4).filter (fun z => (s.zone z).1)
  s.rdf .cth R.CTH.PERSIST 31 16 != 0 && s.rdf .cth R.CTH.PERSIST 15 0 != 0 &&
  (List.range 4).all (fun z => (s.zone z).2.1 ≤ (s.zone z).2.2 && s.rdf .cth (R.CTH.ZONE_COOL z) 31 16 != 0 &&
    decide (s.rds .cth (R.CTH.ZONE_DEM z) 15 0 < s.rds .cth (R.CTH.ZONE_DEM z) 31 16)) &&
  s.presentChans.all (fun c => on.any (fun z => (s.zone z).2.1 ≤ c && c ≤ (s.zone z).2.2)) &&
  on.all (fun y => on.all (fun z => y = z || (s.zone y).2.2 < (s.zone z).2.1 || (s.zone z).2.2 < (s.zone y).2.1)) &&
  s.psUse.all (fun n => s.thermStable (s.pset n))

/-- The TDM page's fields (R276, R288, R295). -/
def State.tdmStartOk (s : State) : Bool :=
  let n := s.nlist
  let key := s.rdf .tdm R.TDM.WIT 2 0
  s.pairId != 0 && s.rdf .tdm R.TDM.CFG 31 16 != 0 && s.rdf .tdm R.TDM.CFG 15 8 != 0 && s.rdf .tdm R.TDM.CFG 3 0 ≤ 7 &&
  within 5 1000 (s.rdf .tdm R.TDM.WIT 31 16) && within 1 4 n && key != 0 && (s.keyOf key).isSome &&
  (List.range n).all (fun i => s.rdn .tdm (R.TDM.WLIST_ID i) != 0)

/-- The WIT page's fields (R295, R296, R300). -/
def State.witStartOk (s : State) : Bool :=
  let key := s.rdf .wit R.WIT.CFG 2 0
  let on := (List.range 8).filter (fun p => s.rdb .wit (R.WIT.PAIR_CFG p) 0)
  let id := fun (p : Nat) => s.rd64 .wit (R.WIT.PAIR_LO p) (R.WIT.PAIR_HI p)
  s.rdf .wit R.WIT.CFG 23 16 != 0 && (s.rdb .wit R.WIT.CFG 7 || s.rdb .wit R.WIT.CFG 11) && key != 0 &&
  (s.keyOf key).isSome && s.rdn .wit R.WIT.WID != 0 && s.rdf .wit R.WIT.NET 10 0 != 0x7FF &&
  on.all (fun p => id p != 0 && id p != s.pairId && on.all (fun q => p = q || id p != id q))

/-- The PROT page's fields (R237 to R239). -/
def State.protStartOk (s : State) : Bool :=
  within 1 4 (s.rdf .prot R.PROT.CFG 18 16) && s.rdf .prot R.PROT.CFG 15 8 != 0 && s.rdf .prot R.PROT.CFG 7 0 != 0 &&
  s.rdf .prot R.PROT.SLOW 31 16 != 0

/-- The SNS page's fields (R91, R95). -/
def State.snsFieldsOk (s : State) (n : Fin 16) : Bool :=
  s.rdf (.sns n) R.SNS.CFG 19 16 ≤ 4 && 2 ≤ s.rdf (.sns n) R.SNS.CFG 15 8 && [0, 1, 3, 7, 15].contains (s.pop n)

/-- The front-ends that the other end reached, as the relay shows them: those this port met itself are no other ones
(R91, log entry 83). -/
def RingSns.farHops (r : RingSns) : Nat := (r.far.filter (fun e => sget 0 r.near e.1 != e.2)).length

/-- Enumeration from both ends found no more hops than POP has positions, and no position outside it (R91). -/
def State.snsStartOk (s : State) (n : Fin 16) : Bool :=
  let r := s.sring n.val
  s.snsFieldsOk n && !r.badPos && r.hopsOwn + r.farHops ≤ popSize (s.pop n)

/-- A used ring's LOG2N lies within 4 to 15 (R48). -/
def State.rngStartOk (s : State) : Bool :=
  (List.range 128).all (fun n => !s.ringUsed n || within 4 15 (s.rdf .rng (R.RNG.BASE_LO n) 3 0))

/-- The block start of a page succeeds. CFGX and HOST have no value that fails it. -/
def State.startOk (s : State) : Page → Bool
  | .sys => s.rdf .sys R.SYS.CFG 1 0 != 3
  | .cfgx => true
  | .host => true
  | .rng => s.rngStartOk
  | .irq => s.irqStartOk
  | .time => s.timeStartOk
  | .auth => s.rdf .auth R.AUTH.NET 10 0 != 0x7FF
  | .fwu => s.rdf .fwu R.FWU.CFG 31 16 != 0 && s.rdf .fwu R.FWU.CFG 15 8 != 0 && s.rdf .fwu R.FWU.CFG 7 0 != 0
  | .thm => s.thmStartOk
  | .pwr => s.pwrStartOk
  | .tdm => s.tdmStartOk
  | .wit => s.witStartOk
  | .way => s.wayStartOk
  | .sbx => s.rdf .sbx R.SBX.EXPCFG 9 8 != 3
  | .sns n => s.snsStartOk n
  | .mod => s.modStartOk
  | .chg => s.rdf .chg R.CHG.CFG 15 8 != 0
  | .est => s.estStartOk
  | .ost => within 16 192 (s.rdf .ost R.OST.CFG 15 8) && within 16 32 (s.rdf .ost R.OST.CFG 5 0)
  | .bal => s.balStartOk
  | .cth => s.cthStartOk
  | .prot => s.protStartOk
  | .trip => (List.range 4).all (fun n => s.rdf .trip (R.TRIP.GRP_CFG n) 1 0 != 3)
  | .safe => s.safeStartOk
  | .slay => s.slayStartOk
  | .spt => s.sptStartOk
  | .pwm => s.pwmStartOk
  | .loop n => s.loopStartOk n.val
  | .can c => s.canStartOk c.val
  | .eth p => s.ethStartOk p.val

/-- The block start is still under way: a ring whose enumeration goes on (R91). -/
def State.startPending (s : State) (p : Page) : Bool :=
  match p with
  | .sns n =>
    let r := s.sring n.val
    s.snsFieldsOk n && s.pop n != 0 && !r.badPos && r.active && !(r.hopsRead && r.assign = [])
  | _ => false

/-! ### What enters and leaves RUNNING -/

/-- A ring enters ENABLING (R90, R91): module A enumerates actively unless it heard a command coach from the B end in the
last 3 ticks; in every other case the port listens. -/
def State.snsEnabling (s : State) (n : Fin 16) : State :=
  let r := s.sring n.val
  let act := !s.sys.strapB && !(0 < r.otherRun && s.tick ≤ r.otherTick + 3) && s.pop n != 0
  let s := s.setSring n.val { enTick := s.tick, active := act, otherTick := r.otherTick, otherRun := r.otherRun }
  let s := (List.range 4).foldl (fun s p => s.wrn (.sns n) (R.SNS.FE p) 0xFFFF0000) s
  s.wrn (.sns n) R.SNS.RING (if s.pop n = 0 then 1 else if act then 5 else 9)

/-- A ring enters RUNNING (R95): INTACT, every LOST count from 0. -/
def State.snsStarted (s : State) (n : Fin 16) : State :=
  let s := s.setRingMode n 2
  let s := (List.range 4).foldl (fun s p => s.setFe n.val p { s.fe n.val p with lost := 0, present := 0 }) s
  s.setSource n.val false

/-- A ring leaves RUNNING or ENABLING (R95): its ring-loss source is asserted, its front-end alert source deasserted. -/
def State.snsStopped (s : State) (n : Fin 16) : State :=
  let s := (List.range 4).foldl (fun s p => s.setFe n.val p { s.fe n.val p with alert := 0 }) s
  ((s.wrn (.sns n) R.SNS.RING 0).alertSource n).setSource n.val true

/-- MOD enters RUNNING (R104, R110, R236): inputs start invalid; the clock driver counts from 0 at the next boundary, a
follower waits for its index lock; the over-current and over-voltage comparators start anew. -/
def State.modStarted (s : State) : State :=
  let d := s.clockDriver
  let s := { s with mod := { s.mod with
    ins := []
    tries := []
    locking := []
    unsamp := 0
    endUnsamp := 0
    fresh := if d then [(0, true), (1, true)] else [] } }
  ((s.wrn .mod R.MOD.STAT (b2n d + 6 * b2n d)).showDelays.restartComparators).invalidShow

/-- MOD leaves RUNNING: no clock, no lock, every enabled input invalid; the integrators' counts are 0 from then on, and the
tick latches keep their last values (R112, log entry 97). -/
def State.modStopped (s : State) : State :=
  let s := { s with mod := { s.mod with ins := [], tries := [], locking := [], unsamp := 0, endUnsamp := 0, fresh := [] } }
  (s.wrn .mod R.MOD.STAT 0).invalidShow

/-- The string epoch increments (R154). -/
def State.epochUp (s : State) : State :=
  let e := (s.epoch + 1) % 2 ^ 32
  (s.jrnPut 0 8 (leBytes 4 e)).wrn .est R.EST.EPOCH e

/-- EST enters RUNNING (R134, R137, R154, R172, R179, R311): harnesses are placed, charge accounts and the substituted
charge start from 0, the epoch increments, filter states stay. -/
def State.estStarted (s : State) : State :=
  let s := { s with est := { s.est with
    lastQ := 0
    fcStage := none
    fcRun := none
    fcDone := false
    pcap := [0, 0, 0, 0, 0, 0]
    chan := s.est.chan.map (fun (e : Nat × ChanEst) => (e.1, { e.2 with acc := 0, reinits := 0, sats := 0 })) } }
  let s := (List.range 6).foldl (fun (s : State) k => s.wrn .est (R.EST.PCAP k) 0) s
  s.placeAll.epochUp.modWay (fun w => { w with reopen := true })

/-- TDM enters RUNNING: no peer has been heard yet (R279), and what waits on the service rings goes out. -/
def State.tdmStarted (s : State) : State :=
  s.serviceAll.setTdm (fun t => { t with
    peer := { heardMt := s.mt }
    silent := false
    links := [(0, { lastMt := s.mt, runMt := s.mt }), (1, { lastMt := s.mt, runMt := s.mt })] })

/-- TDM leaves RUNNING: the module is without a peer (R13, R276). -/
def State.tdmStopped (s : State) : State :=
  s.setTdm (fun t => { t with
    peer := {}
    silent := false
    joined := false
    joining := false
    joinFor := none
    relayAt := 0
    acceptUntil := 0
    abdMt := none })

/-- WIT enters RUNNING (R296): quiet for 2 × FRESH, with no memory of leases or sequences. -/
def State.witStarted (s : State) : State :=
  { s with wit := { pairs := [], quiet := true, quietEnd := s.mt + 2 * s.rdf .wit R.WIT.CFG 23 16 * 1000000 } }

/-- The rings are as after the RNG page enables (R31, R48): both indices 0, no descriptors, none stopped. What was taken
from a submit ring has lost its descriptor. -/
def State.ringsFresh (s : State) : State :=
  let gone := fun (c : Completion) => match c.path with
    | .ring _ => { c with gone := true }
    | _ => c
  let fresh := (List.range 128).foldl (fun l n => if ringIsMH n && s.ringUsed n then sset {} l n { since := s.mt } else l) []
  let s := { s with rings := fresh, completions := s.completions.map gone }
  let s := (List.range 128).foldl (fun s n => (s.wrn .rng (R.RNG.HIDX n) 0).wrn .rng (R.RNG.MIDX n) 0) s
  (List.range 4).foldl (fun s m => (s.wrn .rng (R.RNG.STOP m) 0).wrn .rng (R.RNG.DRAIN m) 0) s

/-- A page enters ENABLING. -/
def State.pageStarting (s : State) : Page → State
  | .safe => s.safeEnabling
  | .sns n => s.snsEnabling n
  | _ => s

/-- SPT enters RUNNING: the time-outs of its inputs run from here. -/
def State.sptStarted (s : State) : State :=
  { s with loops := { s.loops with
    spin := (List.range 4).foldl (fun m k => smod {} m k (fun (v : SpinSt) => { v with edge := edgeStamp s.mt })) s.loops.spin
    stream := (List.range 8).foldl (fun m k => smod {} m k (fun (v : StreamSt) => { v with lastMt := s.mt })) s.loops.stream } }

/-- What a block does when its page has entered RUNNING. -/
def State.blockStarted (s : State) : Page → State
  | .sns n => s.snsStarted n
  | .mod => s.modStarted
  | .est => s.estStarted
  | .prot => s.restartComparators
  | .tdm => s.tdmStarted
  | .wit => s.witStarted
  | .rng => s.ringsFresh
  | .irq => s.irqStarted
  | .ost => { s with ost := { s.ost with cfg := (regDefault .ost R.OST.CFG).toNat } }
  | .cth => { s with cth := { s.cth with live := false } }
  | .safe => s.safeStarted
  | .way => s.wayStarted
  | .sbx => s.sbxStarted
  | .slay => s.slayReset
  | .spt => s.sptStarted
  | .time => s.timeStarted
  | .loop n => s.loopStart n.val
  | .can c => s.canStarted c.val
  | _ => s

/-- What a block does when its page has left RUNNING. -/
def State.blockLeft (s : State) : Page → State
  | .sns n => s.snsStopped n
  | .mod => s.modStopped
  | .chg => s.crossCompare none none
  | .tdm => s.tdmStopped
  | .fwu => s.abandonUpload
  | .safe => s.safeStopped
  | .way => s.wayStopped
  | .sbx => s.sbxStopped
  | .slay => s.slayReset
  | .eth p => s.ethStopped p.val
  | _ => s

/-! ### READY -/

/-- The functional pages: those whose configuration the running firmware's settings hold (log entry 26). -/
def State.functional (s : State) : List Page :=
  match s.fw.settings s.fwu.run with
  | some v => allPages.filter (fun p => v.pages.any (fun e => e.1 = p.index))
  | none => []

/-- BOOT ends (R413, R437): ATTEMPTS clears and the slot is GOOD. -/
def State.bootEnds (s : State) (m : Mode) : State :=
  if s.mode != .boot then s
  else
    let k := s.fwu.run
    let s := (s.putSlot k { s.fw.slot k with state := 3 }).modFw (fun w => { w with attempts := 0 })
    let s := { s with sys := { s.sys with bootPhase := 0, readyMt := s.mt, formWaited := false } }
    (s.takeMode m).modeChanged

/-- UNCONFIGURED to READY (R17, R437): every functional page is RUNNING and the settings hold a committed signature. -/
def State.tryReady (s : State) : State :=
  let sig := match s.fw.settings s.fwu.run with
    | some v => v.sig.isSome
    | none => false
  if s.mode = .unconfigured && sig && s.functional != [] && s.functional.all s.running then
    let s := { s with sys := { s.sys with readyMt := s.mt, formWaited := false } }
    (s.takeMode .ready).modeChanged
  else s

/-! ### The page state machine (R35) -/

/-- CRC-32C over the configuration region (R36). -/
def State.cfgCrc (s : State) (p : Page) : Nat := crc32c ((cfgOffsets p).flatMap (fun o => leBytes 4 (s.rdn p o)))

/-- The enable check (R36, R355): CFG_LIVE takes the result; a mismatch leaves the page DISABLED. -/
def State.enableCheck (s : State) (p : Page) : State :=
  let crc := s.cfgCrc p
  let s := s.wrn p R.PAGE.CFG_LIVE crc
  let lists := match p with
    | .can c => s.fltOk c.val
    | _ => true
  if crc != s.rdn p R.PAGE.CFG_REF then s.flag p 0
  else if !lists then s.flag p 12
  else (s.setPage p .enabling).pageStarting p

/-- A page starts DISABLING; from RUNNING the block stops. -/
def State.disabling (s : State) (p : Page) : State :=
  let was := s.pageState p
  let s := s.setPage p .disabling
  if was = .running then (s.blockLeft p).protEval else s

/-- A write to CTRL (R35, R41): EN = 1 on a DISABLED page runs the enable check, EN = 0 on a RUNNING or FAULT page starts
DISABLING; at other times EN is only kept. -/
def State.ctrlWrite (s : State) (p : Page) (v : Word) : State :=
  let st := s.pageState p
  let s := s.wr p R.PAGE.CTRL v
  if flg v 0 then (if st = .disabled then s.enableCheck p else s)
  else
    let s := if st = .disabled then s else s.disarm p 2
    if st = .running || st = .fault then s.disabling p else s

/-- A page has entered RUNNING: the block runs, and its settings record is rewritten (R419). -/
def State.pageRuns (s : State) (p : Page) : State :=
  ((((s.setPage p .running).blockStarted p).savePage p).protEval).tryReady

/-- The block start ends (R35): RUNNING or FAULT, and on into DISABLING where EN was cleared meanwhile. -/
def State.startEnds (s : State) (p : Page) : State :=
  if s.pageState p != .enabling || s.startPending p then s
  else
    let s := if p = .est then s.estStartShow else s
    let s := if s.startOk p then s.pageRuns p else (s.pageFault p).protEval
    if s.rdb p R.PAGE.CTRL 0 then s else s.disabling p

/-- The block has stopped (R35): DISABLED, or ENABLING where EN is 1 again. A CAN controller stops only when the frame on
its bus has ended (R362). -/
def State.blockStops (s : State) (p : Page) : State :=
  let busy := match p with
    | .can c => (s.canSt c.val).attempt.isSome
    | _ => false
  if s.pageState p != .disabling || busy then s
  else
    let s := match p with
      | .can c => s.canStopped c.val
      | _ => s
    let s := s.setPage p .disabled
    if s.rdb p R.PAGE.CTRL 0 then s.enableCheck p else s

/-- A block fault takes a RUNNING page to FAULT (R35). -/
def State.blockFaults (s : State) (p : Page) : State :=
  if s.running p then ((s.pageFault p).blockLeft p).protEval else s

/-! ### The commands -/

/-- PAGE_ENABLE (R35, R36): a write of CTRL. -/
def execPageEnable (dt : Nat) (page : Page) (value : Word) (s : State) : Host.Outcome State Fault Refusal :=
  let s := s.elapse dt
  if s.pageServed page then .next (s.ctrlWrite page value) else .next s

/-- PAGE_DISABLE (R35, R41): a write of CTRL. -/
def execPageDisable (dt : Nat) (page : Page) (value : Word) (s : State) : Host.Outcome State Fault Refusal :=
  let s := s.elapse dt
  if s.pageServed page then .next (s.ctrlWrite page value) else .next s

/-- BLOCK_START_DONE (R35). -/
def execBlockStartDone (dt : Nat) (page : Page) (s : State) : Host.Outcome State Fault Refusal :=
  let s := s.elapse dt
  if s.mode.serves then .next (s.startEnds page) else .next s

/-- BLOCK_STOPPED (R35). -/
def execBlockStopped (dt : Nat) (page : Page) (s : State) : Host.Outcome State Fault Refusal :=
  let s := s.elapse dt
  if s.mode.serves then .next (s.blockStops page) else .next s

/-- BLOCK_FAULT (R35). -/
def execBlockFault (dt : Nat) (page : Page) (s : State) : Host.Outcome State Fault Refusal :=
  let s := s.elapse dt
  if s.mode.serves then .next (s.blockFaults page) else .next s

end Sys2Proof.Machine
end

