-- ==== Sys2Proof/Machine/System.lean ====
section
/-! DEFINITION. Supplies, RESET_N, BOOT, OUT causes, PFW_N and the resets the module asks for itself (R21 to R23, R413,
R414, R416, R431 to R438). -/

namespace Sys2Proof.Machine

open Sys2Proof

/-! ### Supplies and RESET_N -/

/-- A module reset, unless the module is in RESET already. From THERMAL_SHUTDOWN the Waybill is lost with the domains it
turned off (R428). -/
def State.resetBy (s : State) (cause : Nat) (lost : Bool) : State :=
  if s.mode = .reset then s
  else s.moduleReset cause lost (!lost && s.mode != .thermal)

/-- POWER_ON (R431, R434): VAON rises into range; the island restarts too, so a state before is unknown. -/
def execPowerOn (s : State) : Host.Outcome State Fault Refusal :=
  let s := s.intoReset true (s.sys.vin12Ok && s.mode != .thermal)
  let s := { s with sys := { s.sys with
    vaonOk := true
    holdOff := true } }
  .next (s.countReset 0x01 0)

/-- SUPPLY_OUT_OF_RANGE (R432, R434): a loss of VIN12 resets the module (code 0x03), except in THERMAL_SHUTDOWN; a loss of
VAON holds everything in RESET until POWER_ON. Queued MRAM writes are lost and one in progress is torn (R337). -/
def execSupplyOutOfRange (dt : Nat) (vaon : Bool) (s : State) : Host.Outcome State Fault Refusal :=
  let s := s.elapse dt
  if vaon then
    let s := s.intoReset true (s.sys.vin12Ok && s.mode != .thermal)
    .next { s with sys := { s.sys with
      vaonOk := false
      holdOff := true } }
  else
    let s := { s with
      sys := { s.sys with
        vin12Ok := false
        holdOff := true }
      way := if s.mode = Mode.reset || s.mode = Mode.thermal then {} else s.way }
    if s.mode = .thermal then .next (s.sbxTear.jrnTear) else .next (s.resetBy 0x03 true)

/-- SUPPLY_HOLD_OFF_EXPIRY (R432): VIN12 and VAON have been in range for 1 ms. -/
def execSupplyHoldOffExpiry (s : State) : Host.Outcome State Fault Refusal :=
  .next { s with sys := { s.sys with
    vaonOk := true
    vin12Ok := true
    holdOff := false } }.tryBoot

/-- RESET_N_LOW (R433): a low pulse of at least t_rst_min. -/
def execResetNLow (dt : Nat) (s : State) : Host.Outcome State Fault Refusal :=
  let s := s.elapse dt
  let s := { s with sys := { s.sys with rstNLow := true } }
  if s.mode = .thermal then .next s else .next (s.resetBy 0x02 false)

/-- RESET_N_RELEASE (R17, R76): the strap is read, and BOOT starts where the supplies allow it. -/
def execResetNRelease (strapB : Bool) (s : State) : Host.Outcome State Fault Refusal :=
  let s := { s with sys := { s.sys with rstNLow := false } }
  if s.mode = .reset then .next { s with sys := { s.sys with strapB := strapB } }.tryBoot else .next s

/-! ### BOOT (R412, R420, R437) -/

/-- The key hash and the signature of an image (R409, R412): 2 or 3 for the first that is wrong, 0 for none. -/
def keyAndSignature (b : List Byte) : Nat :=
  let at' := fun (o k : Nat) => slice b o k
  if sha384 (at' 0x20 96) != Config.otpKeyHash then 2
  else if !ecdsaP384Verify (beNat (at' 0x20 48)) (beNat (at' 0x50 48)) (beNat (at' 0x100 48)) (beNat (at' 0x130 48))
      (sha384 (b.take 0x100 ++ b.drop 0x200)) then 3
  else 0

/-- The image check (R412): the code of the first check that fails, 0 for none. Of the image written at manufacture, whose
bytes the model does not hold, the outcome of checks 2 and 3 stands in the report (log entry 17). -/
def State.imageCheck (s : State) (r : BootReport) : Nat :=
  let v := s.fw.slot s.fwu.run
  let c := if v.bytes = [] then (if r.imageCode = 2 || r.imageCode = 3 then r.imageCode else 0) else keyAndSignature v.bytes
  if !v.usable || !v.headOk then 1
  else if c != 0 then c
  else if v.sv < s.fw.otp then 4
  else 0

/-- The settings a BOOT loads (R420), and whether they are to be written first: those of the own slot; converted from the
other slot; or the defaults. -/
def State.chooseSettings (s : State) (r : BootReport) : Settings × Bool × Bool :=
  let k := s.fwu.run
  let v := s.fw.slot k
  let own := if r.settings = 0 then s.fw.settings k else none
  let other := if r.settings ≤ 1 then s.fw.settings (1 - k) else none
  match own.filter (fun x => x.gen = v.gen), other.filter (fun x => v.rdmin ≤ x.gen && x.gen ≤ v.gen) with
  | some x, _ => (x, false, false)
  | none, some x => ({ x with gen := v.gen }, true, false)
  | none, none => ({ gen := v.gen, limCrc := limCrcOf [] {} }, true, true)

/-- The registers of a page take their stored words and CFG_REF. -/
def State.loadPage (s : State) (p : Page) (words : List (Nat × Word)) (ref : Word) : State :=
  (words.foldl (fun (s : State) (e : Nat × Word) => s.wr p e.1 e.2) s).wr p R.PAGE.CFG_REF ref

/-- Settings are loaded (R420). -/
def State.loadSettings (s : State) (v : Settings) : State :=
  let s := allPages.foldl (fun (s : State) p =>
    match v.pages.find? (fun (e : Nat × (List (Nat × Word) × Word)) => e.1 = p.index) with
    | some e => s.loadPage p e.2.1 e.2.2
    | none => s) s
  let s := (List.finRange 16).foldl (fun (s : State) n => s.absentClear n) s.invalidShow
  let s := s.wr .cfgx R.CFGX.SIG_STORED (v.sig.getD 0)
  { s with
    est := { s.est with ps := v.psets }
    mram := { s.mram with
      lim := v.lim
      limStr := v.limStr
      limSeq := v.limSeq
      limCrc := if v.limSeq = 0 then limCrcOf v.lim v.limStr else v.limCrc } }

/-- Phase 5. A phase that must write waits for PFW_N (R438): the answer says whether the phase is over. -/
def State.bootSettings (s : State) (r : BootReport) : Bool × State :=
  let (v, writes, defaults) := s.chooseSettings r
  if writes && s.sys.pfwLow then
    (false, if s.sys.pfwHold then s else { s with sys := { s.sys with pfwHold := true, holdFrom := s.mt } })
  else
    let s := if writes then s.putSettings v else s
    (true, ({ s with sys := { s.sys with defaultsWritten := defaults } }).loadSettings v)

/-- The latest OUT record in the Strongbox shows in SYS.OUTCAUSE. -/
def State.showOutCause (s : State) : State :=
  let out := s.mram.sbxRecs.filter (fun (r : SbxRec) => r.valid && r.cls % 32 = 7 && r.payload.head? = some 1)
  match out.foldl (fun (m : Option SbxRec) r => match m with
      | some x => if x.seq ≤ r.seq then some r else m
      | none => some r) none with
  | some r => s.wrf .sys R.SYS.OUTCAUSE 15 0 (leAt r.payload 2 2)
  | none => s

/-- The limit set comes into force (R242). -/
def State.bootLimits (s : State) : State :=
  let m := s.mram
  ({ s with prot := { s.prot with lim := m.lim, str := m.limStr } }).showLimits

/-- The order of phase 9: TIME, MOD and SNS first, then page-index order. -/
def enableOrder : List Page :=
  let first := fun (p : Page) => match p with
    | .time | .mod => true
    | .sns _ => true
    | _ => false
  [.time, .mod] ++ allPages.filter (fun p => first p && p != .time && p != .mod) ++ allPages.filter (fun p => !first p)

/-- Phase 9 begins: every page with stored settings is enabled. -/
def State.enableStored (s : State) : State :=
  let todo := enableOrder.filter s.functional.contains
  todo.foldl (fun (s : State) p => s.ctrlWrite p (setFld (s.rd p R.PAGE.CTRL) 0 0 1)) s

/-- Phase 9 ends once no page is ENABLING. With every page enabled the signature check is armed where the live
signature equals the stored one (R42), and the module enters READY; where a page failed it enters UNCONFIGURED. -/
def State.bootEnabled (s : State) : State :=
  let todo := s.functional
  if todo.any (fun p => s.pageState p = .enabling) then s
  else
    let stored := match s.fw.settings s.fwu.run with
      | some v => v.sig
      | none => none
    let all := todo != [] && todo.all s.running
    let s := if all && stored = some (BitVec.ofNat 32 s.liveSig) then s.arm else s
    s.bootEnds (if all then .ready else .unconfigured)

/-- The lanes that failed their test vectors retire (R190). -/
def State.bootLanes (s : State) (fails : Nat) : State :=
  (List.range 32).foldl (fun (s : State) l => if fails.testBit l then s.retire l 0xFF 2 1 0 0 0 else s) s

def State.nextPhase (s : State) : State := { s with sys := { s.sys with bootPhase := s.sys.bootPhase + 1 } }

/-- A BOOT phase ends (R437). -/
def State.phaseDone (s : State) (r : BootReport) : State :=
  if s.sys.bootPhase = 0 then s
  else if !r.ok then s.failBoot
  else
    match s.sys.bootPhase with
    | 3 => s.waySalvage.nextPhase
    | 4 =>
      let c := s.imageCheck r
      let k := s.fwu.run
      let s := s.putSlot k { s.fw.slot k with check := c }
      if c = 0 then s.nextPhase else s.failBoot
    | 5 =>
      let (ovr, s) := s.bootSettings r
      if ovr then s.nextPhase else s
    | 6 => s.sbxScan.showOutCause.nextPhase
    | 7 => s.jrnBoot.bootLimits.nextPhase
    | 8 =>
      if 8 < popCount r.laneFails.toNat 32 then s.failBoot
      else
        let s := s.bootLanes r.laneFails.toNat
        if s.sys.defaultsWritten then s.bootEnds .unconfigured else s.nextPhase.enableStored
    | 9 => s.bootEnabled
    | _ => s.nextPhase

/-- BOOT_PHASE_DONE (R437). -/
def execBootPhaseDone (dt : Nat) (r : BootReport) (s : State) : Host.Outcome State Fault Refusal :=
  let s := s.elapse dt
  if s.mode = .boot && !s.sys.pfwHold then .next (s.phaseDone r) else .next s

/-- BOOT_TIMEOUT (R17, R413, R438): t_boot_ready has passed, the time spent waiting on PFW_N not counted. -/
def execBootTimeout (dt : Nat) (s : State) : Host.Outcome State Fault Refusal :=
  let s := s.elapse dt
  if s.mode = .boot && !s.fwu.exhausted && !s.sys.pfwHold && s.sys.bootMt + s.sys.heldNs + 5000000000 ≤ s.mt then
    .next s.waitBound.failBoot
  else .next s

/-! ### Resets the module or the host asks for -/

/-- A write of SYS.RST (R435). -/
def State.hostReset (s : State) (key : Nat) : State :=
  if key != 0xB7 then s
  else if s.mode = .active then s.flag .sys 9
  else if s.mode.serves || s.mode = .out then s.resetBy 0x04 false
  else s

/-- SYS_RST (R435). -/
def execSysRst (dt : Nat) (key : Byte) (s : State) : Host.Outcome State Fault Refusal :=
  .next ((s.elapse dt).hostReset key.toNat)

/-- An earlier OUT record lies less than 600 s before the present one (R436). -/
def State.recentOut (s : State) : Bool :=
  let outs := s.mram.sbxRecs.filter (fun (r : SbxRec) => r.valid && r.cls % 32 = 7 && r.payload.head? = some 1)
  match outs.foldl (fun m r => max m r.seq) 0 with
  | 0 => false
  | top => outs.any (fun r => r.seq < top && decide (signed 64 (unsign 64 ((s.sys.outMt : Int) - r.mt)) < 600000000000))

/-- OUT_RESTART (R436): OUTRST is set, the OUT record is durable and t_out_hold has passed. -/
def execOutRestart (dt : Nat) (s : State) : Host.Outcome State Fault Refusal :=
  let s := s.elapse dt
  if s.mode = .out && s.running .sys && s.rdb .sys R.SYS.CFG 2 && s.sys.outDurable && s.sys.outDurMt + 1000000000 ≤ s.mt &&
      !s.recentOut then .next (s.resetBy 0x05 false)
  else .next s

/-- THERMAL_COOL_EXPIRY (R429): all diodes have stayed below 95 °C for t_thsd_cool, 10 s, since the shutdown at the
earliest. -/
def execThermalCoolExpiry (dt : Nat) (s : State) : Host.Outcome State Fault Refusal :=
  let s := s.elapse dt
  if s.mode = .thermal && s.mram.thm.mt + 10000000000 ≤ s.mt then .next (s.resetBy 0x06 false) else .next s

/-- CMD.RETRY (R414). -/
def State.retryBoot (s : State) (slot : Bool) : State :=
  let k := b2n slot
  if !s.fwu.exhausted then s
  else if !(s.fw.slot k).usable then s.fwuReject
  else (s.modFw (fun m => { m with pref := k, attempts := 0 })).resetBy 0x07 false

/-- RETRY (R414). -/
def execBootRetry (dt : Nat) (slot : Bool) (s : State) : Host.Outcome State Fault Refusal :=
  .next ((s.elapse dt).hostDo .fwu (fun (s : State) => s.retryBoot slot))

/-- ACTIVATION_REBOOT (R416): the slot becomes preferred, its trial starts, a locked record is written, and the module
resets. -/
def execActivationReboot (dt : Nat) (s : State) : Host.Outcome State Fault Refusal :=
  let s := s.elapse dt
  match s.fw.pending with
  | some (k, mt) =>
    if mt ≤ s.mt && s.mayReboot then
      let s := s.forceSafe.modFw (fun m => { m with
        pref := k
        attempts := 0
        trial := true
        trialNs := 0
        roleNs := 0
        pending := none })
      let s := { s with fwu := { s.fwu with roleSince := none } }
      .next ((s.recordNow .fwu 0x05 (s.fwPayload 3 k mt)).resetBy 0x07 false)
    else .next s
  | none => .next s

/-! ### OUT causes (R21) -/

/-- An OUT cause, and the failed attempt it is on trial (R413). -/
def State.outCause (s : State) (n : Nat) : State := (s.outEntry n).trialOut

/-- LOCKSTEP_MISMATCH (R21): in an application cluster pair, or in the island. -/
def execLockstepMismatch (dt : Nat) (island : Bool) (s : State) : Host.Outcome State Fault Refusal :=
  .next ((s.elapse dt).outCause (b2n island))

/-- UNCORRECTABLE_ECC_ERROR (R21, R342): in a Strongbox or Waybill record it makes the record invalid and is no OUT
cause. -/
def execUncorrectableEccError (dt : Nat) (m : EccPlace) (s : State) : Host.Outcome State Fault Refusal :=
  let s := s.elapse dt
  match m with
  | .strongbox off => .next (s.sbxDamage off)
  | .waybill num k => .next (s.wayDamage num k)
  | .lpddr | .sram | .laneMemory | .mramFirmware | .mramSettings | .mramJournal => .next (s.outCause 2)

/-- WATCHDOG_EXPIRY (R21). -/
def execWatchdogExpiry (dt : Nat) (s : State) : Host.Outcome State Fault Refusal := .next ((s.elapse dt).outCause 6)

/-- The bit of HEALTH's LBK field for an output stage (R290). -/
def stageBit : OutStage → Nat
  | .pwm _ => 0
  | .keep _ => 1
  | .trip _ => 2
  | .driveEn => 3
  | .tpo _ => 4
  | .mclk _ => 5

/-- OUTPUT_LOOPBACK_FAILURE (R21, R232): a readback that differs at one edge is counted for a PWM pad; confirmed at the next
edge it is OUT cause [7]; in OUT it joins the record or the repeat counter (R23). -/
def execOutputLoopbackFailure (dt : Nat) (pad : OutStage) (confirmed : Bool) (s : State) :
    Host.Outcome State Fault Refusal :=
  let s := s.elapse dt
  if s.mode = .out && confirmed then .next (s.outCause 7)
  else if !s.mode.serves then .next s
  else
    let s := { s with sys := { s.sys with lbkMis := sset 0 s.sys.lbkMis (stageBit pad) s.mt } }
    .next (if confirmed then s.outCause 7 else if stageBit pad = 0 then s.inc .pwm R.PWM.LBK else s)

/-- CLOCK_MONITOR_FAULT (R21, R58). -/
def execClockMonitorFault (dt : Nat) (s : State) : Host.Outcome State Fault Refusal := .next ((s.elapse dt).outCause 8)

/-- VIO_BANK_FAULT (R452): VIO0, VIO1 or VIO2 outside its range for 10 µs; VIO3 is no cause. -/
def execVioBankFault (dt : Nat) (bank : Fin 4) (s : State) : Host.Outcome State Fault Refusal :=
  let s := s.elapse dt
  .next (if bank.val < 3 then s.outCause 7 else s)

/-- AON32_LOSS (R440): SYS.STAT.AON32 is set. -/
def execAon32Loss (dt : Nat) (s : State) : Host.Outcome State Fault Refusal :=
  let s := s.elapse dt
  .next { s with sys := { s.sys with aon32Lost := true } }

/-! ### PFW_N (R438) -/

/-- PFW_FALL (R385, R438): no MRAM write starts from here; source 196 and SYS.FLAGS.PFW. -/
def execPfwFall (dt : Nat) (s : State) : Host.Outcome State Fault Refusal :=
  let s := s.elapse dt
  let s := { s with sys := { s.sys with pfwLow := true } }
  let n := s.jrn.queue.length
  let s := if n = 0 then s else (s.incBy .est R.EST.JDEFER n).wrb .est R.EST.AEVT 9 true
  if s.mode.serves || s.mode = .out then .next ((s.edgeSource 196).flag .sys 8) else .next s

/-- PFW_RISE (R438): what waited is written, and BOOT goes on. -/
def execPfwRise (dt : Nat) (s : State) : Host.Outcome State Fault Refusal :=
  let s := s.elapse dt
  let held := if s.sys.pfwHold then s.mt - s.sys.holdFrom else 0
  .next { s with sys := { s.sys with
    pfwLow := false
    pfwHold := false
    heldNs := s.sys.heldNs + held } }.flushSettings.flushSlots.clearResume.countersResume.manualResume.streamsResume

end Sys2Proof.Machine
end

