-- ==== Sys2Proof/Machine/Rings.lean ====
section
/-! DEFINITION. Descriptor rings as the host drives them: doorbells, stops and restarts, drain bounds (R46 to R51). -/

namespace Sys2Proof.Machine

open Sys2Proof

/-- The most bytes a descriptor of a ring can name: at least an upload chunk with its head, beyond that free (log entry
27). -/
def ringMax (n : Nat) : Nat := max 65552 (Config.ringMaxLen n)

/-- N of a ring (R48). -/
def State.ringSize (s : State) (n : Nat) : Nat := 2 ^ s.rdf .rng (R.RNG.BASE_LO n) 3 0

/-- New descriptors are fetched in order; one that cannot be fetched, or that names too many bytes, stops the ring (R51). -/
def State.ringFetch (s : State) (n : Nat) : Nat → List (Option Desc) → State
  | 0, _ => s
  | k + 1, l =>
    match l with
    | some d :: t =>
      if ringMax n < d.len then s.ringStop n 3
      else (s.setRing n { s.ring n with descs := (s.ring n).descs ++ [d] }).ringFetch n k t
    | _ => s.ringStop n 2

/-- What the block of a ring does when work or buffers are posted there. -/
def State.ringKick (s : State) (n : Nat) : State :=
  if 16 ≤ n && n < 48 then s.canCheckAll ((n - 16) / 8)
  else if 48 ≤ n && n < 64 then s.canDeliverAll ((n - 48) / 4) (n % 4)
  else if 64 ≤ n && n < 96 then s.ethCheckAll ((n - 64) / 8)
  else if 96 ≤ n && n < 112 then s.ethDeliverAll ((n - 96) / 4) (n % 4)
  else if n = 120 || n = 121 then s.servicePump n (s.ring n).descs.length
  else s

/-- A write of RNG.HIDXn (R48, R51): ignored on an unused ring and, as its indices are frozen, on a stopped one. -/
def State.doorbell (s : State) (n : Nat) (hidx : Nat) (descs : List (Option Desc)) : State :=
  let r := s.ring n
  if !s.ringUsed n || r.stopped then s
  else
    let s := s.wrn .rng (R.RNG.HIDX n) hidx
    if !s.running .rng then s
    else
      let s := s.setRing n { r with hidx := hidx }
      let occ := (hidx + 2 ^ 32 - r.midx) % 2 ^ 32
      if s.ringSize n < occ then s.ringStop n 1
      else
        let s := s.setRing n { s.ring n with descs := r.descs.take occ }
        let s := s.ringFetch n (occ - r.descs.length) descs
        let s := s.ringAlign n occ
        let s := if ringIsMH n && (s.ring n).descs != [] then s.wrb .rng (R.RNG.DRAIN (n / 32)) (n % 32) false else s
        s.ringKick n

/-- RING_DOORBELL (R48). -/
def execRingDoorbell (dt : Nat) (ring : Fin 128) (hidx : Word) (descs : List (Option Desc)) (s : State) :
    Host.Outcome State Fault Refusal :=
  .next ((s.elapse dt).hostDo .rng (fun (s : State) => s.doorbell ring.val hidx.toNat descs))

/-- A write of RNG.RESTART (R51): a stopped ring starts again with MIDX = HIDX; the descriptors between them are abandoned,
and with them the commands and attempts that came from the ring. -/
def State.ringRestart (s : State) (n : Nat) : State :=
  let r := s.ring n
  if !r.stopped then s
  else
    let s := s.setRing n { hidx := r.hidx, midx := r.hidx, since := s.mt }
    let s := s.wrn .rng (R.RNG.MIDX n) r.hidx
    let s := s.wrb .rng (R.RNG.STOP (n / 32)) (n % 32) false
    let gone := fun (c : Completion) => match c.path with
      | .ring k => if k.val = n then { c with gone := true } else c
      | _ => c
    let s := { s with completions := s.completions.map gone }
    if 16 ≤ n && n < 48 then s.modCan ((n - 16) / 8) (fun (v : CanSt) => v.fifoGone (n % 8)) else s

/-- RING_RESTART (R51). -/
def execRingRestart (dt : Nat) (ring : Fin 128) (s : State) : Host.Outcome State Fault Refusal :=
  .next ((s.elapse dt).hostDo .rng (fun (s : State) => s.ringRestart ring.val))

/-- RING_DRAIN_TIMEOUT (R47): an M→H ring has had no free descriptor for longer than DRAIN_MS. -/
def execRingDrainTimeout (dt : Nat) (ring : Fin 128) (s : State) : Host.Outcome State Fault Refusal :=
  let s := s.elapse dt
  let n := ring.val
  let bound := s.rdf .rng (R.RNG.ATTR n) 31 16
  if ringIsMH n && s.ringServed n && (s.ring n).descs = [] && bound != 0 &&
      (s.ring n).since + bound * 1000000 < s.mt && !s.rdb .rng (R.RNG.DRAIN (n / 32)) (n % 32) then
    .next ((s.wrb .rng (R.RNG.DRAIN (n / 32)) (n % 32) true).flag .rng 9)
  else .next s

end Sys2Proof.Machine
end

