-- ==== Sys2Proof/Machine/Pages.lean ====
section
/-! DEFINITION. Registers as the host reads and writes them: what each access code does (R3, R4, R33 to R38), the registers
with an effect of their own, and the scrubber (R39 to R41). -/

namespace Sys2Proof.Machine

open Sys2Proof

/-! ### Registers computed on reading -/

/-- SYS: the module state and the latest reset (R16, R434, R438, R439). -/
def State.sysView (s : State) (o : Nat) : Option Nat :=
  let y := s.sys
  let wait := s.mode = .ready && s.running .sys && s.rdf .sys R.SYS.CFG 1 0 != 0 && !s.armed
  if o = R.SYS.STAT then
    some (b2n y.aon32Lost * 2048 + b2n y.pfwHold * 1024 + b2n y.pfwLow * 512 + b2n wait * 256 + s.mode.code)
  else if o = R.SYS.RSTCAUSE then some (y.prior * 256 + y.rstCause)
  else if o = R.SYS.RESETS then some s.fw.resets
  else none

/-- CFGX: the pages that run. -/
def State.cfgxView (s : State) (o : Nat) : Option Nat :=
  let word := fun (w : Nat) => bitsOf (fun b => allPages.any (fun p => p.index = 32 * w + b && s.running p)) 32
  if o = R.CFGX.PAGEST 0 then some (word 0) else if o = R.CFGX.PAGEST 1 then some (word 1) else none

/-- HOST.LINK: the count stands; whether the link is up is free, and so are, of a link that is up, which of the widths
1, 2 and 4 and of the speeds 1 to 4 it runs at (log entry 28). -/
def State.hostView (s : State) (o : Nat) : Option Nat :=
  let n := Config.linkBits s.free
  let link := if n % 2 = 0 then 0 else 256 + 2 ^ (n / 2 % 3) * 16 + (n / 8 % 4 + 1)
  if o = R.HOST.LINK then some (s.rdf .host R.HOST.LINK 31 16 * 65536 + link) else none

/-- AUTH: the module identity, the key slots and their counters (R404, R405). -/
def State.authView (s : State) (o : Nat) : Option Nat :=
  let id := Config.modId.toNat
  if o = R.AUTH.MODID_LO then some (id % 2 ^ 32)
  else if o = R.AUTH.MODID_HI then some (id / 2 ^ 32)
  else if 0x810 ≤ o && o < 0x834 then
    let k := (o - 0x810) / 4
    let v := if k = 8 then sget {} s.mram.keys 8 else s.keySlot k
    some ((if v.key = [] then 0 else 2 ^ 31) + (if k = 8 then 0 else v.perm % 65536))
  else if 0x840 ≤ o && o < 0x880 then
    let n := s.lastCounter ((o - 0x840) / 8)
    some (if (o - 0x840) % 8 = 0 then n % 2 ^ 32 else n / 2 ^ 32)
  else none

/-- TDM: the peer, the links and the lease (R276, R298, R299). -/
def State.tdmView (s : State) (o : Nat) : Option Nat :=
  let t := s.tdm
  let lease := if t.fenced then 4 else if t.witLost then 3 else if t.held then 1 else if t.asked.isSome then 2 else 0
  if o = R.TDM.STAT then
    some (b2n t.joined * 2 ^ 19 + b2n t.peerDriveEn * 2 ^ 18 + b2n t.peerAlive * 2 ^ 17 + b2n s.posB * 65536 +
      t.peer.state % 16 * 4096 + b2n t.double * 2048 + lease * 256 + t.widx % 4 * 64 + b2n t.witLost * 32 +
      b2n t.silent * 16 + b2n (s.link 1).up * 2 + b2n (s.link 0).up)
  else if o = R.TDM.TERM then some t.term
  else if o = R.TDM.LVALID then some (if t.held then (t.viewEnd - s.mt) / 1000 else 0)
  else none

/-- WIT: the leases of the pairs it serves (R296, R297). -/
def State.witView (s : State) (o : Nat) : Option Nat :=
  if 0x800 ≤ o && o < 0x880 then
    let v := sget {} s.wit.pairs ((o - 0x800) / 16)
    let live := decide (s.mt < v.expiry)
    if o % 16 = 0 then some (8 * b2n s.wit.quiet + 4 * b2n live + v.holder % 4)
    else if o % 16 = 4 then some v.term
    else if o % 16 = 8 then some (if live then (v.expiry - s.mt) / 1000 else 0)
    else none
  else none

/-- SPT: the last accepted COUNT of each stream (R224). -/
def State.sptView (s : State) (o : Nat) : Option Nat :=
  if 0x880 ≤ o && o < 0x8C0 then
    let n := s.streamCount ((o - 0x880) / 8)
    some (if o % 8 = 0 then n % 2 ^ 32 else n / 2 ^ 32 % 2 ^ 32)
  else none

/-- SAFE.TPST: the windows verified, and the outputs this module pulses (R253). -/
def State.safeView (s : State) (o : Nat) : Option Nat :=
  if o = R.SAFE.TPST then some (s.rdf .safe R.SAFE.TPST 15 8 * 256 + s.tpDriving) else none

/-- PROT: the sources, and the channels over a limit (R235, R237). -/
def State.protView (s : State) (o : Nat) : Option Nat :=
  let ovr := fun (m : Nat) => (s.presentChans.filter (fun c => s.lflags c &&& m != 0)).length
  if o = R.PROT.SRC_LO then some (s.sources % 2 ^ 32)
  else if o = R.PROT.SRC_HI then some (s.sources / 2 ^ 32)
  else if o = R.PROT.CELLS then some (ovr 0x55 * 65536 + ovr 0xAA)
  else none

/-- TRIP.GSTAT: the groups (R244). -/
def State.tripView (s : State) (o : Nat) : Option Nat :=
  if o = R.TRIP.GSTAT then
    some (bitsOf (fun n => bits s.tdm.peer.tripst (2 * n + 1) (2 * n) = 1) 4 * 65536 +
      bitsOf (fun n => !s.sutClear n) 4 * 4096 + bitsOf s.verdict 4 * 256 + s.tripStates)
  else none

/-- PWM: the pairs and the period number (R229, R232). -/
def State.pwmView (s : State) (o : Nat) : Option Nat :=
  if o = R.PWM.STAT then some s.pwmStat
  else if o = R.PWM.PERNUM_LO then some (s.tb0Number % 2 ^ 32)
  else if o = R.PWM.PERNUM_HI then some (s.tb0Number / 2 ^ 32)
  else none

/-- The registers of a page that show what stands elsewhere in the state. In RESET every register holds its Reset
value (R6). -/
def State.hwView (s : State) (p : Page) (o : Nat) : Option Nat :=
  if s.mode = .reset then none
  else if o = R.PAGE.STATE then some (s.pageState p).code
  else if o < 0x800 && !(p matches .can _) then none
  else match p with
    | .sys => s.sysView o
    | .cfgx => s.cfgxView o
    | .host => s.hostView o
    | .irq => s.irqView o
    | .time => s.timeView o
    | .auth => s.authView o
    | .fwu => s.fwuView o
    | .thm => s.thmView o
    | .tdm => s.tdmView o
    | .wit => s.witView o
    | .way => s.wayView o
    | .sbx => s.sbxView o
    | .ost => s.ostWayView o
    | .prot => s.protView o
    | .spt => s.sptView o
    | .safe => s.safeView o
    | .trip => s.tripView o
    | .pwm => s.pwmView o
    | .can c => s.canView c.val o
    | _ => none

/-! ### Reading -/

/-- The word a register shows: WO and reserved bits read 0 (R3, R4), and so does an unused offset (R33). -/
def State.regShown (s : State) (p : Page) (o : Nat) : Nat :=
  match findRow p o with
  | some r => ((s.hwView p o).getD (s.rdn p o)) % 2 ^ 32 &&& (r.mask - (r.mask &&& r.wo))
  | none => 0

/-- The pages that stay readable in OUT (R24). -/
def pageInOut : Page → Bool
  | .sys | .sbx | .thm => true
  | _ => false

/-- Does the host port answer a read of the page (R16, R24, R414)? -/
def State.pageReads (s : State) (p : Page) : Bool := s.pageServed p || (s.mode = .out && pageInOut p)

/-- A host read: the word, and what the read does: a claim, a latch of MT, the receive window of a CAN controller. -/
def State.regRead (s : State) (p : Page) (o : Nat) : Nat × State :=
  if !s.pageReads p then (0, s)
  else
    match p with
    | .irq => if 0xC00 ≤ o && o < 0xC60 && o % 16 = 0 then s.irqClaim ((o - 0xC00) / 16) else (s.regShown p o, s)
    | .time =>
      if o = R.TIME.MT_LO then
        let (n, s) := s.draw
        (s.regShown p o, s.mtLatch (Config.freeNat n % 65536))
      else (s.regShown p o, s)
    | .can c =>
      if 0xB00 ≤ o && o < 0xF00 then (s.regShown p o, s.rxwTouch c.val ((o - 0xB00) / 4)) else (s.regShown p o, s)
    | _ => (s.regShown p o, s)

/-! ### Writing -/

/-- A configuration write (R38, R41): stored on a DISABLED page, otherwise ignored and counted. A CFG_REF disarms the
signature check, and FLTW1 commits a filter element. -/
def State.configWrite (s : State) (p : Page) (o : Nat) (v : Word) : State :=
  if s.pageState p != .disabled then s.ignoredWrite p o
  else
    let s := if o = R.PAGE.CFG_REF then s.disarm p 1 else s
    let s := s.wr p o v
    match p with
    | .can c => if o = R.CAN.FLTW1 then s.fltCommit c.val v.toNat else s
    | .mod => s.invalidShow
    | .sns n => if o = R.SNS.CFG then s.absentClear n else s
    | _ => s

/-- A write of FLAGS (R3, R34): the named bits clear; with IGNWR goes IGNORED, with RINGERR the record of the first ring
stopped. -/
def State.flagsClear (s : State) (p : Page) (mask : Word) : State :=
  let s := s.wr p R.PAGE.FLAGS (s.rd p R.PAGE.FLAGS &&& ~~~mask)
  let s := if flg mask 1 then s.wrn p R.PAGE.IGNORED 0 else s
  let s := if p = .rng && flg mask 8 then s.wrb .rng R.RNG.ERR 7 false else s
  s.pageLine p

/-- The bits set of a command register act in ascending order (log entry 29). -/
def State.onBit (s : State) (v : Word) (n : Nat) (f : State → State) : State := if flg v n then f s else s

/-- A descriptor in host memory that the command does not carry: every field is free (log entry 28). -/
def State.freeDesc (s : State) : Desc × State :=
  let n := s.free
  let f := fun (k : Nat) => Config.freeNat (n + k)
  let byte := fun (k : Nat) => (BitVec.ofNat 8 (f k) : Byte)
  let b := (List.range 32).map byte
  let len := leAt b 8 3
  ({ bytes := b
     busErr := f 32 % 2 = 1
     data := (List.range len).map (fun i => byte (33 + i)) }, { s with free := n + 33 + len })

/-- As many free descriptors. -/
def State.freeDescs (s : State) : Nat → List (Option Desc) × State
  | 0 => ([], s)
  | k + 1 =>
    let (d, s) := s.freeDesc
    let (l, s) := s.freeDescs k
    (some d :: l, s)

/-- A doorbell whose descriptors the command does not carry. -/
def State.blindDoorbell (s : State) (n : Nat) (hidx : Nat) : State :=
  let occ := (hidx + 2 ^ 32 - (s.ring n).midx) % 2 ^ 32
  let new := if s.running .rng && occ ≤ s.ringSize n then occ - (s.ring n).descs.length else 0
  let (l, s) := s.freeDescs new
  s.doorbell n hidx l

/-- The message in the mailbox is submitted (R402). -/
def State.mboxSubmit (s : State) (len : Nat) : State :=
  let m := ((List.range 26).flatMap (fun w => leBytes 4 (s.rdn .auth (R.AUTH.MBOX_DATA w)))).take len
  s.command refuseAtJudgement .mailbox m

/-- SNSn.CMD, WAY.CMD, CAN.CMD, FWU.CMD and TDM.CMD. -/
def State.snsCmd (s : State) (n : Fin 16) (v : Word) : State :=
  (s.onBit v 0 (fun s => s.reenum n)).onBit v 1 (fun s => s.wantAll n)
def State.wayCmd (s : State) (v : Word) : State :=
  let s := s.onBit v 0 (fun s => s.trigger 1 0)
  let s := s.onBit v 1 State.releaseSegment
  let s := s.onBit v 2 State.exportSegment
  s.onBit v 3 State.abortSegment
def State.canCmd (s : State) (c : Nat) (v : Word) : State :=
  let s := s.onBit v 4 (fun s => s.canCancel c (fld v 2 0) false)
  let s := s.onBit v 5 (fun s => s.canCancel c (fld v 2 0) true)
  let s := s.onBit v 11 (fun s => s.canRelease c (fld v 9 8))
  s.onBit v 12 (fun s => s.canRecover c)
def State.fwuCmd (s : State) (v : Word) : State :=
  let s := s.onBit v 0 (fun s => s.openUpload (flg v 8))
  let s := s.onBit v 1 State.closeUpload
  let s := s.onBit v 2 State.abortUpload
  s.onBit v 3 (fun s => s.retryBoot (flg v 8))
def State.tdmCmd (s : State) (v : Word) : State := (s.onBit v 0 State.repairAll).onBit v 1 State.healthNow

/-- BAL.CMD and CTH.CMD name a channel. -/
def State.balCmd (s : State) (v : Word) : State :=
  (s.onBit v 9 (fun s => s.unblock (· = fld v 8 0))).onBit v 10 (fun s => s.unblock (fun _ => true))
def State.cthCmd (s : State) (v : Word) : State := s.sensorRestore (fld v 8 0) (flg v 9) (flg v 10)

/-- SBX.CUR_CMD: SEEK takes precedence over NEXT (R341). -/
def State.cursorCmd (s : State) (v : Word) : State :=
  if flg v 0 then s.cursorStart 1 else if flg v 1 then s.cursorStart 2 else s

/-- A write of the mailbox (R402): discarded and counted while it is BUSY. -/
def State.authRun (s : State) (o : Nat) (v : Word) : State :=
  if o = R.AUTH.MBOX_CTRL then s.mboxSubmit (fld v 6 0)
  else if s.rdb .auth R.AUTH.MBOX_STAT 0 then s.inc .auth R.AUTH.MBOXREJ
  else s.wr .auth o v

/-- A write of a run-time register: those with an effect of their own, and the others, which store it (R43). -/
def State.runWrite (s : State) (p : Page) (o : Nat) (v : Word) : State :=
  match p with
  | .sys => s.hostReset (fld v 15 8)
  | .rng => if o = R.RNG.RESTART then s.ringRestart (fld v 6 0) else s.blindDoorbell ((o - 0x800) / 8) v.toNat
  | .irq =>
    if o < 0xC00 then s.irqConfig ((o - 0x800) / 4) v
    else if o % 16 = 4 then s.irqComplete ((o - 0xC00) / 16) v
    else s.irqPark ((o - 0xC00) / 16) v
  | .auth => s.authRun o v
  | .fwu =>
    if o = R.FWU.CMD then s.fwuCmd v else if o = R.FWU.WCMD then s.windowChunk (fld v 10 0) else s.wr p o v
  | .thm => s.nselLatch (fld v 5 0)
  | .tdm => s.tdmCmd v
  | .way => if o = R.WAY.CMD then s.wayCmd v else s.wr p o v
  | .sbx => if o = R.SBX.CUR_CMD then s.cursorCmd v else s.wr p o v
  | .sns n => s.snsCmd n v
  | .bal => if o = R.BAL.CMD then s.balCmd v else s.zselLatch (fld v 8 0)
  | .cth =>
    if o = R.CTH.CMD then s.cthCmd v else if o = R.CTH.MSEL then s.mselLatch (fld v 8 0)
    else s.hostEvent p o v
  | .trip => s.hostEvent p o (v &&& 0x30F)
  | .spt | .pwm | .loop _ => s.hostEvent p o v
  | .can c => if o = R.CAN.CMD then s.canCmd c.val v else s.wr p o v
  | _ => s.wr p o v

/-- A host write of a register, by its access code (R3). -/
def State.hostWrite (s : State) (p : Page) (o : Nat) (v : Word) : State :=
  if !s.pageServed p then
    if s.mode = .out && p = .sys && o = R.SYS.RST then s.hostReset (fld v 15 8)
    else if s.mode = .out && p = .sbx && o = R.SBX.CUR_CMD then s.cursorCmd v
    else if s.mode = .out && p = .sbx && (o = R.SBX.CUR_ARG || o = R.SBX.CUR_FILT) then s.wr p o v
    else s
  else
    match findRow p o with
    | none => s
    | some r =>
      if o = R.PAGE.CTRL then s.ctrlWrite p v
      else if o = R.PAGE.FLAGS then s.flagsClear p v
      else if o = R.PAGE.FLAG_IE then (s.wr p o v).pageLine p
      else if r.cf != 0 then s.configWrite p o v
      else if r.w1c != 0 then s.wr p o (s.rd p o &&& ~~~v)
      else if r.rt + r.wo != 0 then s.runWrite p o v
      else s

/-- CONFIG_WRITE (R38). -/
def execConfigWrite (dt : Nat) (page : Page) (off : Nat) (value : Word) (s : State) : Host.Outcome State Fault Refusal :=
  .next ((s.elapse dt).hostWrite page off value)

/-- FLAGS_CLEAR (R34): a write of a W1C register of the page's header or diagnostics. -/
def execFlagsClear (dt : Nat) (page : Page) (off : Nat) (mask : Word) (s : State) : Host.Outcome State Fault Refusal :=
  .next ((s.elapse dt).hostWrite page off mask)

/-- REGISTER_WRITE (R43). -/
def execRegisterWrite (dt : Nat) (page : Page) (off : Nat) (value : Word) (s : State) :
    Host.Outcome State Fault Refusal :=
  .next ((s.elapse dt).hostWrite page off value)

/-! ### The scrubber (R39 to R41) -/

/-- The CRC of one RUNNING page (R39, R355): whether it fails, and the state with CFG_LIVE written. -/
def State.scrubPage (s : State) (p : Page) : Bool × State :=
  if !s.running p then (false, s)
  else
    let crc := s.cfgCrc p
    let list := match p with
      | .can c => !s.fltOk c.val
      | _ => false
    (crc != s.rdn p R.PAGE.CFG_REF || list, s.wrn p R.PAGE.CFG_LIVE crc)

/-- A pass over every RUNNING page, the live signature and the limit set (R39 to R41, R242). -/
def State.scrub (s : State) : State :=
  let (bad, s) := allPages.foldl (fun (x : Bool × State) p =>
    let (b, s) := x.2.scrubPage p
    (x.1 || b, s)) (false, s)
  let sig := s.liveSig
  let s := (s.wrn .cfgx R.CFGX.SIG_LIVE sig).inc .cfgx R.CFGX.SCRUBS
  let sigBad := s.armed && sig != s.rdn .cfgx R.CFGX.SIG_STORED
  let limBad := (s.mode != .boot || 8 ≤ s.sys.bootPhase) && limCrcOf s.prot.lim s.prot.str != s.mram.limCrc
  if bad || sigBad || limBad then s.outCause 3 else s

/-- SCRUB_PASS (R39). The scrubber goes on in OUT, where what it finds joins the record or the repeat counter (R23). -/
def execScrubPass (dt : Nat) (s : State) : Host.Outcome State Fault Refusal :=
  let s := s.elapse dt
  if s.mode.serves || s.mode = .out then .next s.scrub else .next s

end Sys2Proof.Machine
end

