-- ==== Sys2Proof/Machine/HostPort.lean ====
section
/-! DEFINITION. The host port as a whole: the two BARs, rejected accesses (R29 to R32), the management SPI (R52, R53),
SERVICE frames (R278) and resets of the link (R31). -/

namespace Sys2Proof.Machine

open Sys2Proof

/-! ### Accesses by address -/

/-- A rejected access is counted, and the first one's address kept (R30). -/
def State.reject (s : State) (bar2 : Bool) (off : Nat) : State :=
  let s := if s.rdf .host R.HOST.REJECT 15 0 = 0 then
      s.wrn .host R.HOST.REJ_ADDR (b2n bar2 * 2 ^ 31 + off % 2 ^ 28) else s
  s.incf .host R.HOST.REJECT 15 0

/-- The host port answers at all: BOOT, UNCONFIGURED, READY, the roles, and OUT (R16, R24). -/
def State.portUp (s : State) : Bool := s.mode.serves || s.mode = .out

/-- BAR_ACCESS_REJECTED (R30): a rejected read returns 0. -/
def execBarAccessRejected (dt : Nat) (bar2 : Bool) (off : Nat) (write : Bool) (s : State) :
    Host.Outcome State Fault Refusal :=
  let s := s.elapse dt
  if s.portUp then
    let s := s.reject bar2 off
    .next (if write then s else s.answerRead off 0)
  else .next s

/-- A write of a word of the MSI-X table: messages that no mask holds any more go out (R391); the first write after a
reset of the capability ends what R395 holds (log entry 25). -/
def State.msixWrite (s : State) (o : Nat) (v : Word) : State :=
  let w := (o - 0xE000) / 4
  let h := s.host
  let s := { s with host := { msix := sset (msixDefault w) h.msix w v.toNat, off := false, held := [] } }
  h.held.foldl (fun (s : State) n => s.msixSend n) s

/-- The pending-bit array: the vectors held. -/
def State.msixPba (s : State) (o : Nat) : Nat := bitsOf (fun b => s.host.held.contains (8 * (o - 0xE400) + b)) 32

/-- A word read at a BAR0 offset (R30, R45); in OUT the MSI-X table and the array read 0 (R24). -/
def State.bar0Read (s : State) (o : Nat) : Nat × State :=
  if o % 4 != 0 then (0, s.reject false o)
  else match Page.ofOffset o with
    | some p => s.regRead p (o - p.base)
    | none =>
      if 0xE000 ≤ o && o < 0xE400 then (if s.mode.serves then s.msixWord ((o - 0xE000) / 4) else 0, s)
      else if 0xE400 ≤ o && o < 0xE408 then (if s.mode.serves then s.msixPba o else 0, s)
      else (0, s.reject false o)

/-- A word written at a BAR0 offset; in OUT the MSI-X table ignores it (R24). -/
def State.bar0Write (s : State) (o : Nat) (v : Word) : State :=
  if o % 4 != 0 then s.reject false o
  else match Page.ofOffset o with
    | some p => s.hostWrite p (o - p.base) v
    | none =>
      if 0xE000 ≤ o && o < 0xE400 then (if s.mode.serves then s.msixWrite o v else s)
      else if 0xE400 ≤ o && o < 0xE408 then s
      else s.reject false o

/-- Bytes read at a BAR2 offset (R32): the published estimation records, the channel limits and status, the parameter sets,
the Strongbox window. In OUT the window alone stays readable (R24). -/
def State.bar2Byte (s : State) (o : Nat) : Nat :=
  if o < 0x10000 then (if s.pageServed .est then byteAt (sget [] s.est.recs (o / 128)) (o % 128) else 0)
  else if o < 0x18000 then (if s.pageServed .prot then byteAt (s.limEntry ((o - 0x10000) / 64)) (o % 64) else 0)
  else if 0x100000 ≤ o && o < 0x300000 then (if s.pageServed .est then (sget 0 s.est.ps (o - 0x100000)).toNat else 0)
  else if 0x400000 ≤ o && o < 0x401000 then
    (if s.pageServed .sbx || s.mode = .out then s.sbxWindow ((o - 0x400000) / 4 * 4) / 256 ^ (o % 4) % 256 else 0)
  else 0

/-- Is a BAR2 offset mapped (R32)? -/
def bar2Mapped (o : Nat) : Bool :=
  o < 0x18000 || (0x100000 ≤ o && o < 0x300000) || (0x400000 ≤ o && o < 0x401000)

/-- A word read at a BAR2 offset; one that begins in a mapped region and ends beyond it is accepted, and its bytes beyond
read 0 (log entry 79). -/
def State.bar2Read (s : State) (o : Nat) : Nat × State :=
  if bar2Mapped o then (leNat ((List.range 4).map (fun i => BitVec.ofNat 8 (s.bar2Byte (o + i)))), s)
  else (0, s.reject true o)

/-- A word written at a BAR2 offset: parameter sets are stored (R144), writes into the limits table are discarded and
counted (R237), the other regions ignore writes. The region of the first byte decides (log entry 79). -/
def State.bar2Write (s : State) (o : Nat) (v : Word) : State :=
  if !bar2Mapped o then s.reject true o
  else if 0x10000 ≤ o && o < 0x18000 then s.hostDo .prot (fun s => s.inc .prot R.PROT.TBLREJ)
  else if 0x100000 ≤ o && o < 0x300000 then
    s.hostDo .est (fun s => s.paramWrite (o - 0x100000) (leBytes 4 v.toNat))
  else s

/-! ### The management SPI (R52, R53) -/

/-- Is a word outside what SPI_WLOCK lets the SPI write: the HOST and SYS pages? -/
def State.spiLocked (s : State) (addr : Nat) : Bool :=
  s.running .host && s.rdb .host R.HOST.CFG 0 &&
  (2 ^ 31 ≤ addr || !((Page.ofOffset (addr % 2 ^ 20)).any (fun p => p = .host || p = .sys)))

/-- The words of a write frame, each one access; the answer says whether one was refused by SPI_WLOCK. -/
def State.spiWords (s : State) (addr : Nat) : List Byte → Nat → Bool × State
  | _, 0 => (false, s)
  | b, k + 1 =>
    let v := BitVec.ofNat 32 (leNat (b.take 4))
    let locked := s.spiLocked addr
    let s := if locked then s
      else if 2 ^ 31 ≤ addr then s.bar2Write (addr % 2 ^ 28) v else s.bar0Write (addr % 2 ^ 20) v
    let (r, s) := s.spiWords (addr + 4) (b.drop 4) k
    (locked || r, s)

/-- The words a read frame returns. -/
def State.spiReads (s : State) (addr : Nat) : Nat → List Byte × State
  | 0 => ([], s)
  | k + 1 =>
    let (v, s) := if 2 ^ 31 ≤ addr then s.bar2Read (addr % 2 ^ 28) else s.bar0Read (addr % 2 ^ 20)
    let (l, s) := s.spiReads (addr + 4) k
    (leBytes 4 v ++ l, s)

/-- A discarded frame is counted: for its length, count or opcode, or for its CRC (R53). -/
def State.spiFraming (s : State) : State := s.incf .host R.HOST.SPIERR 31 16
def State.spiCrcBad (s : State) : State := s.incf .host R.HOST.SPIERR 15 0

/-- A frame of the management SPI is executed (R52, R53): the status of R278 (0 executed, 1 discarded, 2 refused by
SPI_WLOCK), what it returns, and the state after. -/
def State.spiFrame (s : State) (b : List Byte) : Nat × List Byte × State :=
  let op := byteAt b 0
  let addr := leAt b 1 4
  let n := leAt b 5 2
  if b.length < 7 || n = 0 || 1024 < n || (op != 2 && op != 3) then (1, [], s.spiFraming)
  else if op = 3 then
    let (data, s) := s.spiReads addr n
    (0, data ++ leBytes 4 (crc32c (b.take 7 ++ data)), s)
  else if b.length != 7 + 4 * n + 4 then (1, [], s.spiFraming)
  else if crc32c (b.take (7 + 4 * n)) != leAt b (7 + 4 * n) 4 then (1, [], s.spiCrcBad)
  else
    let (refused, s) := s.spiWords addr (slice b 7 (4 * n)) n
    (if refused then 2 else 0, [], s)

/-- SPI_WRITE_FRAME (R53). -/
def execSpiWriteFrame (dt : Nat) (bytes : List Byte) (s : State) : Host.Outcome State Fault Refusal :=
  let s := s.elapse dt
  if s.portUp then
    let (_, _, s) := s.spiFrame bytes
    .next s
  else .next s

/-- SPI_READ_FRAME (R52): the words and their CRC go back. -/
def execSpiReadFrame (dt : Nat) (bytes : List Byte) (s : State) : Host.Outcome State Fault Refusal :=
  let s := s.elapse dt
  if s.portUp then
    let (_, answer, s) := s.spiFrame bytes
    .next (if answer = [] then s else s.send (.spi answer))
  else .next s

/-- SERVICE (R278): a request is executed as a management SPI frame and answered; a reply is placed on ring 122 or 123 as it
came. -/
def execTandemService (dt : Nat) (f : TandemHead) (bytes : List Byte) (s : State) : Host.Outcome State Fault Refusal :=
  let (ok, s) := (s.elapse dt).takeFrame 0x0B f bytes
  let ring := byteAt bytes 1
  if !ok then .next s
  else if byteAt bytes 0 = 1 && (ring = 120 || ring = 121) then
    let (status, answer, s) := s.spiFrame (bytes.drop 8)
    .next (s.sendFrame 0x0B ([2, BitVec.ofNat 8 (ring + 2)] ++ leBytes 2 status ++ slice bytes 4 4 ++ answer))
  else if byteAt bytes 0 = 2 && (ring = 122 || ring = 123) then .next (s.ringPush ring 0 bytes)
  else .next s

/-! ### Link resets (R31) -/

/-- Every register of a page at its reset value. -/
def State.erasePage (s : State) (p : Page) : State :=
  { s with regs := s.regs.filter (fun (e : Nat × Word) => !(p.base ≤ e.1 && e.1 < p.base + 0x1000)) }

/-- The transmit FIFOs of the CAN controllers have lost their descriptors. -/
def State.fifosGone (s : State) : State :=
  { s with can := s.can.map (fun (e : Nat × CanSt) => (e.1, (List.range 8).foldl CanSt.fifoGone e.2)) }

/-- LINK_RESET (R31): HOST and RNG return to DISABLED with their reset values, descriptors in flight are abandoned, and the
event is counted; the MSI-X capability is reset (R395). -/
def execLinkReset (dt : Nat) (s : State) : Host.Outcome State Fault Refusal :=
  let s := s.elapse dt
  if !s.portUp then .next s
  else
    let downs := satAdd 16 (s.rdf .host R.HOST.LINK 31 16) 1
    let s := ((s.setPage .host .disabled).setPage .rng .disabled).ringsFresh.fifosGone
    let s := (s.erasePage .host).erasePage .rng
    let s := { s with rings := [], host := { msix := [], off := true, held := s.host.held } }
    .next (((s.wrf .host R.HOST.LINK 31 16 downs).pageLine .host).pageLine .rng)

end Sys2Proof.Machine
end

