-- ==== Sys2Proof/Machine/Timetable.lean ====
section
/-! DEFINITION. The timetable: tick boundaries, the input deadline and stage boundaries (R55, R62 to R72). -/

namespace Sys2Proof.Machine

open Sys2Proof

/-- The sixteen sense rings in order. -/
def snsRings : List (Fin 16) := List.finRange 16

/-! ### The tick that ends -/

/-- The missing compartments of the tick are judged, once (R63). -/
def State.judgeTick (s : State) : State :=
  if s.tb.judged then s else snsRings.foldl State.deadlineRing { s with tb := { s.tb with judged := true } }

/-- With the last tick of a stage a step may end, and rest begin or end (R71, R72); its verdicts reach the estimator
(R66). -/
def State.stageTurn (s : State) : State := if s.tick % 20 = 19 then (s.restTurn s.stage).takeVerdicts else s

/-- The end of a tick: it is quiet or not (R70); what the rings accepted enters the stage, and the missing bitmap
closes (R64); with the last tick of a stage a step may end, and rest begin or end (R71, R72); pulse values are
accepted as event inputs (R223). -/
def State.tickEnds (s : State) : State :=
  let s := s.judgeTick.quietEnds
  let s := snsRings.foldl State.finishRing s
  let s := { s with tb := { s.tb with
    misses := s.tb.miss :: s.tb.misses
    miss := 0
    deadline := false
    judged := false } }
  s.stageTurn.spinTick

/-- MT reaches the next multiple of 500 µs. -/
def State.tickOver (s : State) : State := s.atMt ((s.tick + 1) * 500000)

/-! ### The tick that starts -/

/-- The levels of the peer's pins (R276, R292, R303). -/
def State.peerPins (s : State) (x : TickInputs) : State :=
  let s := s.setTdm (fun t => { t with peerAlive := x.peerAlive })
  let s := if x.peerDriveEn then s.peerDriveHigh else s.peerDriveLow
  if s.tandemed then s.tryAbdication else s

/-- The tick latches of a group's integrators, 96 bits each in index order (R109). -/
def State.lockLatches (s : State) (g : Nat) : List Byte :=
  ((List.range 12).filter (fun n => modGroup n = g && (modIntegrator n).isSome)).flatMap
    (fun n => leBytes 12 (unsign 96 (s.modIn n).integ))

/-- While the follower reports a group unlocked, the clock driver sends it bits and latches (R109). -/
def State.lockSend (s : State) (x : TickInputs) (g : Nat) : State :=
  match s.lowestInput g with
  | some n =>
    if s.running .mod && s.clockDriver && s.tandemed && s.tdm.peer.heard && !s.tdm.peer.lock.testBit g then
      s.sendFrame 0x08 ([BitVec.ofNat 8 g, BitVec.ofNat 8 n, 0, 0] ++ leBytes 8 s.tick ++
        leBytes 8 (if g = 0 then x.bits0.toNat else x.bits1.toNat) ++ s.lockLatches g)
    else s
  | none => s

/-- One ring at the start of a tick: challenges that had no response, the age of passes, and the coaches (R86, R98). -/
def State.ringTick (s : State) (n : Fin 16) : State :=
  let s := (List.range 4).foldl (fun (s : State) p => (s.chalTimeout n p).passAge n p) s
  s.launchCoach n s.bal.exc (fun c => sget 0 s.bal.cmd c)

/-- The start of a tick: watchdogs first (R269), then the bitstream front end, the safety samples, the commands in
force, the dispatch clamp and target, the rings, and the matrix with automatic releases (R245). -/
def State.tickStarts (s : State) (x : TickInputs) : State :=
  let s := (s.peerPins x).connExpiry
  let s := s.modTick x
  let s := (s.lockSend x 0).lockSend x 1
  let s := s.safeTick x
  let s := s.balTick.demandsTick
  let s := s.clampTick.dispatchNow
  let s := (snsRings.foldl State.ringTick s).chipBoundary
  s.protEval.tryReady

/-- TICK_BOUNDARY (R55). In OUT and in THERMAL_SHUTDOWN only MT goes on; in RESET it does not count. -/
def execTickBoundary (x : TickInputs) (s : State) : Host.Outcome State Fault Refusal :=
  if s.mode = .reset then .next s
  else if s.mode.serves then .next (s.tickEnds.tickOver.tickStarts x)
  else .next s.tickOver

/-! ### The input deadline -/

/-- A relay can still bring a compartment that the peer accepted in time (R88). -/
def State.relayOpen (s : State) : Bool := s.tandemed && ((s.link 0).up || (s.link 1).up)

/-- INPUT_DEADLINE (R63): at offset 350 µs, once in a tick, compartments not yet accepted become missing; with a
tandem link up the tick's end judges them, since a relay that comes by 480 µs still counts (R88). -/
def execInputDeadline (s : State) : Host.Outcome State Fault Refusal :=
  if !s.mode.serves || s.tb.deadline then .next s
  else
    let s := s.atMt (max s.mt (s.tick * 500000 + 350000))
    let s := { s with tb := { s.tb with deadline := true } }
    .next (if s.relayOpen then s else s.judgeTick).limRewrite

/-! ### Stage boundaries -/

/-- A stage that is charge-lost (R114) or gapped (R111) increments the string epoch (R154). -/
def State.epochCheck (s : State) : State :=
  match s.chg.stages with
  | c :: _ =>
    let broken := c.src = 3 || c.gapped != 0
    if s.running .est && broken then s.epochUp else s
  | [] => s

/-- The boundary that ends stage `st` (R68, R113, R180, R311): the stage's charges, the step that ends here, the Ostler, and
the Waybill's segments. A module in WITNESS-ONLY estimates nothing (R16). -/
def State.stageOver (s : State) (st : Nat) : State :=
  let s := s.stageCharges st
  if s.mode = .witnessOnly then
    { s with
      acc := []
      tb := { s.tb with misses := [] }
      chg := { s.chg with stages := [] }
      est := { s.est with closing := none } }
  else
    let span := s.est.closing.isSome
    let s := s.epochCheck.stageSteps
    (s.ostBoundary span).wayBoundary

/-- The stage that the charges' latches stand at. -/
def State.latchStage (s : State) : Nat := s.rd64 .chg R.CHG.LSTAGE_LO R.CHG.LSTAGE_HI

/-- STAGE_BOUNDARY (R68): MT stands at a multiple of 10 ms whose boundary has not been taken yet, or at most
t_stage_dq, 20 µs, after it (R120). -/
def execStageBoundary (s : State) : Host.Outcome State Fault Refusal :=
  if s.mode.serves && s.mt % 10000000 ≤ 20000 && 1 ≤ s.stage && s.latchStage != s.stage then
    .next (s.stageOver (s.stage - 1)).trialOut
  else .next s

end Sys2Proof.Machine
end

