-- ==== Sys2Proof/Machine/Dispatch.lean ====
section
/-! DEFINITION. The dispatch: one arm per command, each a direct call of its meaning. -/

namespace Sys2Proof.Machine

open Sys2Proof

def exec (i : Instr) (s : State) : Host.Outcome State Fault Refusal :=
  match i with
  | .powerOn => Sys2Proof.Machine.execPowerOn s
  | .supplyOutOfRange dt vaon => Sys2Proof.Machine.execSupplyOutOfRange dt vaon s
  | .supplyHoldOffExpiry => Sys2Proof.Machine.execSupplyHoldOffExpiry s
  | .resetNLow dt => Sys2Proof.Machine.execResetNLow dt s
  | .resetNRelease strapB => Sys2Proof.Machine.execResetNRelease strapB s
  | .bootPhaseDone dt r => Sys2Proof.Machine.execBootPhaseDone dt r s
  | .bootTimeout dt => Sys2Proof.Machine.execBootTimeout dt s
  | .sysRst dt key => Sys2Proof.Machine.execSysRst dt key s
  | .outRestart dt => Sys2Proof.Machine.execOutRestart dt s
  | .lockstepMismatch dt island => Sys2Proof.Machine.execLockstepMismatch dt island s
  | .uncorrectableEccError dt m => Sys2Proof.Machine.execUncorrectableEccError dt m s
  | .watchdogExpiry dt => Sys2Proof.Machine.execWatchdogExpiry dt s
  | .outputLoopbackFailure dt pad confirmed => Sys2Proof.Machine.execOutputLoopbackFailure dt pad confirmed s
  | .clockMonitorFault dt => Sys2Proof.Machine.execClockMonitorFault dt s
  | .vioBankFault dt bank => Sys2Proof.Machine.execVioBankFault dt bank s
  | .aon32Loss dt => Sys2Proof.Machine.execAon32Loss dt s
  | .diodeOverLimit dt diode reading => Sys2Proof.Machine.execDiodeOverLimit dt diode reading s
  | .thermalCoolExpiry dt => Sys2Proof.Machine.execThermalCoolExpiry dt s
  | .pfwFall dt => Sys2Proof.Machine.execPfwFall dt s
  | .pfwRise dt => Sys2Proof.Machine.execPfwRise dt s
  | .roleFormation dt => Sys2Proof.Machine.execRoleFormation dt s
  | .formationWaitExpiry dt => Sys2Proof.Machine.execFormationWaitExpiry dt s
  | .formationJoinRetry dt => Sys2Proof.Machine.execFormationJoinRetry dt s
  | .contactorRelease dt path h groups => Sys2Proof.Machine.execContactorRelease dt path h groups s
  | .dispatchEnable dt path h enable => Sys2Proof.Machine.execDispatchEnable dt path h enable s
  | .limitWrite dt path h change newCrc => Sys2Proof.Machine.execLimitWrite dt path h change newCrc s
  | .roleAssign dt path h role => Sys2Proof.Machine.execRoleAssign dt path h role s
  | .plannedRelay dt path h => Sys2Proof.Machine.execPlannedRelay dt path h s
  | .strongboxClear dt path h x => Sys2Proof.Machine.execStrongboxClear dt path h x s
  | .fwActivate dt path h slot activateAt => Sys2Proof.Machine.execFwActivate dt path h slot activateAt s
  | .keyLoad dt path h target perm wrapped => Sys2Proof.Machine.execKeyLoad dt path h target perm wrapped s
  | .configSignatureCommit dt path h sig => Sys2Proof.Machine.execConfigSignatureCommit dt path h sig s
  | .calibrationCycle dt path h hours => Sys2Proof.Machine.execCalibrationCycle dt path h hours s
  | .eventInputEffect => Sys2Proof.Machine.execEventInputEffect s
  | .completionRecordRelease dt => Sys2Proof.Machine.execCompletionRecordRelease dt s
  | .pageEnable dt page value => Sys2Proof.Machine.execPageEnable dt page value s
  | .blockStartDone dt page => Sys2Proof.Machine.execBlockStartDone dt page s
  | .pageDisable dt page value => Sys2Proof.Machine.execPageDisable dt page value s
  | .blockStopped dt page => Sys2Proof.Machine.execBlockStopped dt page s
  | .blockFault dt page => Sys2Proof.Machine.execBlockFault dt page s
  | .configWrite dt page off value => Sys2Proof.Machine.execConfigWrite dt page off value s
  | .flagsClear dt page off mask => Sys2Proof.Machine.execFlagsClear dt page off mask s
  | .registerWrite dt page off value => Sys2Proof.Machine.execRegisterWrite dt page off value s
  | .scrubPass dt => Sys2Proof.Machine.execScrubPass dt s
  | .barAccessRejected dt bar2 off write => Sys2Proof.Machine.execBarAccessRejected dt bar2 off write s
  | .linkReset dt => Sys2Proof.Machine.execLinkReset dt s
  | .spiWriteFrame dt bytes => Sys2Proof.Machine.execSpiWriteFrame dt bytes s
  | .spiReadFrame dt bytes => Sys2Proof.Machine.execSpiReadFrame dt bytes s
  | .ringDoorbell dt ring hidx descs => Sys2Proof.Machine.execRingDoorbell dt ring hidx descs s
  | .ringRestart dt ring => Sys2Proof.Machine.execRingRestart dt ring s
  | .ringDrainTimeout dt ring => Sys2Proof.Machine.execRingDrainTimeout dt ring s
  | .tickBoundary x => Sys2Proof.Machine.execTickBoundary x s
  | .inputDeadline => Sys2Proof.Machine.execInputDeadline s
  | .stageBoundary => Sys2Proof.Machine.execStageBoundary s
  | .stageStepRun dt x => Sys2Proof.Machine.execStageStepRun dt x s
  | .bistDone dt lane ownerFails checkerFails third => Sys2Proof.Machine.execBistDone dt lane ownerFails checkerFails third s
  | .stepPublished dt => Sys2Proof.Machine.execStepPublished dt s
  | .forecastBoundary => Sys2Proof.Machine.execForecastBoundary s
  | .forecastPublished dt => Sys2Proof.Machine.execForecastPublished dt s
  | .calibrationDeadline dt => Sys2Proof.Machine.execCalibrationDeadline dt s
  | .journalWriteStart dt => Sys2Proof.Machine.execJournalWriteStart dt s
  | .journalWriteDone dt => Sys2Proof.Machine.execJournalWriteDone dt s
  | .parameterSetWrite dt off bytes => Sys2Proof.Machine.execParameterSetWrite dt off bytes s
  | .parameterSetScrub dt => Sys2Proof.Machine.execParameterSetScrub dt s
  | .limitTableWrite dt off bytes => Sys2Proof.Machine.execLimitTableWrite dt off bytes s
  | .commandCoachReceived dt ring lineOk bytes => Sys2Proof.Machine.execCommandCoachReceived dt ring lineOk bytes s
  | .dataCoachReceived dt ring lineOk bytes => Sys2Proof.Machine.execDataCoachReceived dt ring lineOk bytes s
  | .alertCoachReceived dt ring lineOk bytes => Sys2Proof.Machine.execAlertCoachReceived dt ring lineOk bytes s
  | .repeatCoachSend dt ring => Sys2Proof.Machine.execRepeatCoachSend dt ring s
  | .farWaitExpiry dt ring => Sys2Proof.Machine.execFarWaitExpiry dt ring s
  | .symbolLockLoss dt ring => Sys2Proof.Machine.execSymbolLockLoss dt ring s
  | .frontEndLost dt ring pos => Sys2Proof.Machine.execFrontEndLost dt ring pos s
  | .enumerationWaitExpiry dt ring => Sys2Proof.Machine.execEnumerationWaitExpiry dt ring s
  | .challengeDue dt ring pos => Sys2Proof.Machine.execChallengeDue dt ring pos s
  | .challengeRetry dt ring pos => Sys2Proof.Machine.execChallengeRetry dt ring pos s
  | .challengeAll dt ring => Sys2Proof.Machine.execChallengeAll dt ring s
  | .reenum dt ring => Sys2Proof.Machine.execReenum dt ring s
  | .relayedCompartment dt f bytes => Sys2Proof.Machine.execRelayedCompartment dt f bytes s
  | .verdict dt f bytes => Sys2Proof.Machine.execVerdict dt f bytes s
  | .mckselChange dt toB unsampled0 unsampled1 => Sys2Proof.Machine.execMckselChange dt toB unsampled0 unsampled1 s
  | .clockLoss dt group unsampled => Sys2Proof.Machine.execClockLoss dt group unsampled s
  | .stuckRun dt input => Sys2Proof.Machine.execStuckRun dt input s
  | .indexLock dt f bytes own => Sys2Proof.Machine.execIndexLock dt f bytes own s
  | .stagePathSample dt input w => Sys2Proof.Machine.execStagePathSample dt input w s
  | .fastFilterOutput dt input ones sampled => Sys2Proof.Machine.execFastFilterOutput dt input ones sampled s
  | .tripRelease dt groups => Sys2Proof.Machine.execTripRelease dt groups s
  | .manSet dt => Sys2Proof.Machine.execManSet dt s
  | .manClr dt => Sys2Proof.Machine.execManClr dt s
  | .controlSample dt slot x => Sys2Proof.Machine.execControlSample dt slot x s
  | .pwmUpdatePoint dt pair centre => Sys2Proof.Machine.execPwmUpdatePoint dt pair centre s
  | .loopStateDigest => Sys2Proof.Machine.execLoopStateDigest s
  | .spHostWrite dt slot value => Sys2Proof.Machine.execSpHostWrite dt slot value s
  | .measWrite dt slot value => Sys2Proof.Machine.execMeasWrite dt slot value s
  | .dutyWrite dt pair value => Sys2Proof.Machine.execDutyWrite dt pair value s
  | .dispSpWrite dt value => Sys2Proof.Machine.execDispSpWrite dt value s
  | .tcoolWrite dt zone value => Sys2Proof.Machine.execTcoolWrite dt zone value s
  | .zoneStale dt zone => Sys2Proof.Machine.execZoneStale dt zone s
  | .spinPeriod dt k high period => Sys2Proof.Machine.execSpinPeriod dt k high period s
  | .spinLosTimeout dt k => Sys2Proof.Machine.execSpinLosTimeout dt k s
  | .setPointStreamFrame dt k bytes => Sys2Proof.Machine.execSetPointStreamFrame dt k bytes s
  | .streamTimeout dt k => Sys2Proof.Machine.execStreamTimeout dt k s
  | .impedancePublished dt => Sys2Proof.Machine.execImpedancePublished dt s
  | .unblock dt ch => Sys2Proof.Machine.execUnblock dt ch s
  | .unblockAll dt => Sys2Proof.Machine.execUnblockAll dt s
  | .zselLatch dt ch => Sys2Proof.Machine.execZselLatch dt ch s
  | .sensorRestore dt ch s0 s1 => Sys2Proof.Machine.execSensorRestore dt ch s0 s1 s
  | .mselLatch dt ch => Sys2Proof.Machine.execMselLatch dt ch s
  | .testWindowClose dt tpo x => Sys2Proof.Machine.execTestWindowClose dt tpo x s
  | .stuckReset dt => Sys2Proof.Machine.execStuckReset dt s
  | .stuckResetEnd dt => Sys2Proof.Machine.execStuckResetEnd dt s
  | .espitonData dt src bytes => Sys2Proof.Machine.execEspitonData dt src bytes s
  | .espitonEcho dt src bytes => Sys2Proof.Machine.execEspitonEcho dt src bytes s
  | .espitonPeriod dt conn => Sys2Proof.Machine.execEspitonPeriod dt conn s
  | .heartbeatSend dt => Sys2Proof.Machine.execHeartbeatSend dt s
  | .heartbeat dt f bytes => Sys2Proof.Machine.execHeartbeat dt f bytes s
  | .peerSilent dt => Sys2Proof.Machine.execPeerSilent dt s
  | .linkDown dt lane => Sys2Proof.Machine.execLinkDown dt lane s
  | .linkUp dt lane => Sys2Proof.Machine.execLinkUp dt lane s
  | .interlockAgreement dt => Sys2Proof.Machine.execInterlockAgreement dt s
  | .peerDriveEnHigh dt => Sys2Proof.Machine.execPeerDriveEnHigh dt s
  | .driveEnRaise x => Sys2Proof.Machine.execDriveEnRaise x s
  | .mirror dt f bytes => Sys2Proof.Machine.execMirror dt f bytes s
  | .mirrorGap dt => Sys2Proof.Machine.execMirrorGap dt s
  | .stageDigest dt f bytes => Sys2Proof.Machine.execStageDigest dt f bytes s
  | .loopDigest dt f bytes => Sys2Proof.Machine.execLoopDigest dt f bytes s
  | .repairReq dt f bytes => Sys2Proof.Machine.execRepairReq dt f bytes s
  | .repairData dt f bytes => Sys2Proof.Machine.execRepairData dt f bytes s
  | .repairAll dt => Sys2Proof.Machine.execRepairAll dt s
  | .healthSend dt => Sys2Proof.Machine.execHealthSend dt s
  | .healthNow dt => Sys2Proof.Machine.execHealthNow dt s
  | .health dt f bytes => Sys2Proof.Machine.execHealth dt f bytes s
  | .healthStale dt => Sys2Proof.Machine.execHealthStale dt s
  | .abdicate dt f bytes => Sys2Proof.Machine.execAbdicate dt f bytes s
  | .tandemService dt f bytes => Sys2Proof.Machine.execTandemService dt f bytes s
  | .relaySwitch dt => Sys2Proof.Machine.execRelaySwitch dt s
  | .renewTimer dt => Sys2Proof.Machine.execRenewTimer dt s
  | .probeTimer dt => Sys2Proof.Machine.execProbeTimer dt s
  | .witnessProbe dt bytes src => Sys2Proof.Machine.execWitnessProbe dt bytes src s
  | .witnessRenew dt bytes src => Sys2Proof.Machine.execWitnessRenew dt bytes src s
  | .witnessAcquire dt bytes src => Sys2Proof.Machine.execWitnessAcquire dt bytes src s
  | .witnessYield dt bytes src => Sys2Proof.Machine.execWitnessYield dt bytes src s
  | .witnessQuietEnd dt => Sys2Proof.Machine.execWitnessQuietEnd dt s
  | .leaseGranted dt bytes => Sys2Proof.Machine.execLeaseGranted dt bytes s
  | .leaseRefused dt bytes => Sys2Proof.Machine.execLeaseRefused dt bytes s
  | .witnessState dt bytes => Sys2Proof.Machine.execWitnessState dt bytes s
  | .backoffExpiry dt => Sys2Proof.Machine.execBackoffExpiry dt s
  | .leaseViewExpiry dt => Sys2Proof.Machine.execLeaseViewExpiry dt s
  | .witnessLost dt => Sys2Proof.Machine.execWitnessLost dt s
  | .witnessReturn dt entry => Sys2Proof.Machine.execWitnessReturn dt entry s
  | .stageFrameWrite dt => Sys2Proof.Machine.execStageFrameWrite dt s
  | .wayFreeze dt => Sys2Proof.Machine.execWayFreeze dt s
  | .releaseSegment dt => Sys2Proof.Machine.execReleaseSegment dt s
  | .exportSegment dt => Sys2Proof.Machine.execExportSegment dt s
  | .abortSegment dt => Sys2Proof.Machine.execAbortSegment dt s
  | .exportChunk dt => Sys2Proof.Machine.execExportChunk dt s
  | .autoExportStart dt => Sys2Proof.Machine.execAutoExportStart dt s
  | .burstCaptureStop dt => Sys2Proof.Machine.execBurstCaptureStop dt s
  | .burstCopyDone dt => Sys2Proof.Machine.execBurstCopyDone dt s
  | .strongboxWriteStart dt => Sys2Proof.Machine.execStrongboxWriteStart dt s
  | .strongboxWriteDone dt => Sys2Proof.Machine.execStrongboxWriteDone dt s
  | .tokenRefill dt => Sys2Proof.Machine.execTokenRefill dt s
  | .cursorSeek dt => Sys2Proof.Machine.execCursorSeek dt s
  | .cursorNext dt => Sys2Proof.Machine.execCursorNext dt s
  | .cursorDone dt => Sys2Proof.Machine.execCursorDone dt s
  | .strongboxExportChunk dt => Sys2Proof.Machine.execStrongboxExportChunk dt s
  | .strongboxExportFlush dt => Sys2Proof.Machine.execStrongboxExportFlush dt s
  | .canTransmitAttempt dt c => Sys2Proof.Machine.execCanTransmitAttempt dt c s
  | .canAttemptEnd dt c outcome tec => Sys2Proof.Machine.execCanAttemptEnd dt c outcome tec s
  | .canFrameReceived dt c x => Sys2Proof.Machine.execCanFrameReceived dt c x s
  | .busOffRecovery dt c => Sys2Proof.Machine.execBusOffRecovery dt c s
  | .canCancel dt c fifo => Sys2Proof.Machine.execCanCancel dt c fifo s
  | .canCancelAll dt c fifo => Sys2Proof.Machine.execCanCancelAll dt c fifo s
  | .canRecover dt c => Sys2Proof.Machine.execCanRecover dt c s
  | .rxrel dt c q => Sys2Proof.Machine.execRxrel dt c q s
  | .rxwRead dt c word => Sys2Proof.Machine.execRxwRead dt c word s
  | .fltw1Commit dt c value => Sys2Proof.Machine.execFltw1Commit dt c value s
  | .witnessResend dt c => Sys2Proof.Machine.execWitnessResend dt c s
  | .ethTransmit dt p frac => Sys2Proof.Machine.execEthTransmit dt p frac s
  | .ethFrameReceived dt p f frac => Sys2Proof.Machine.execEthFrameReceived dt p f frac s
  | .arpRequest dt p addr who whoIp => Sys2Proof.Machine.execArpRequest dt p addr who whoIp s
  | .pairAnnounce dt => Sys2Proof.Machine.execPairAnnounce dt s
  | .prpSupervision dt p => Sys2Proof.Machine.execPrpSupervision dt p s
  | .ethLinkChange dt p up rate => Sys2Proof.Machine.execEthLinkChange dt p up rate s
  | .timeSync dt p t1 t2 correction => Sys2Proof.Machine.execTimeSync dt p t1 t2 correction s
  | .ptpAnnounce dt p a => Sys2Proof.Machine.execPtpAnnounce dt p a s
  | .delayResp dt p t1 t2 t3 t4 => Sys2Proof.Machine.execDelayResp dt p t1 t2 t3 t4 s
  | .delayReq dt p peer rx => Sys2Proof.Machine.execDelayReq dt p peer rx s
  | .timeTransmitPeriod dt p announce => Sys2Proof.Machine.execTimeTransmitPeriod dt p announce s
  | .holdoverEntry dt => Sys2Proof.Machine.execHoldoverEntry dt s
  | .irqSourceAssert dt src level => Sys2Proof.Machine.execIrqSourceAssert dt src level s
  | .extIrqPin dt pin level => Sys2Proof.Machine.execExtIrqPin dt pin level s
  | .targetFire dt t => Sys2Proof.Machine.execTargetFire dt t s
  | .irqClaim dt t => Sys2Proof.Machine.execIrqClaim dt t s
  | .irqComplete dt t value => Sys2Proof.Machine.execIrqComplete dt t value s
  | .irqPark dt t value => Sys2Proof.Machine.execIrqPark dt t value s
  | .irqSourceConfig dt src value => Sys2Proof.Machine.execIrqSourceConfig dt src value s
  | .openUpload dt slot => Sys2Proof.Machine.execOpenUpload dt slot s
  | .closeUpload dt => Sys2Proof.Machine.execCloseUpload dt s
  | .abortUpload dt => Sys2Proof.Machine.execAbortUpload dt s
  | .bootRetry dt slot => Sys2Proof.Machine.execBootRetry dt slot s
  | .firmwareChunk dt ring => Sys2Proof.Machine.execFirmwareChunk dt ring s
  | .windowChunk dt len => Sys2Proof.Machine.execWindowChunk dt len s
  | .activationReboot dt => Sys2Proof.Machine.execActivationReboot dt s
  | .activationCancel dt => Sys2Proof.Machine.execActivationCancel dt s
  | .trialEnd dt => Sys2Proof.Machine.execTrialEnd dt s
  | .svCommit dt => Sys2Proof.Machine.execSvCommit dt s
  | .dieModelUpdate dt nodes diodes => Sys2Proof.Machine.execDieModelUpdate dt nodes diodes s
  | .powerSample dt domains total mean1s vaon vin12 => Sys2Proof.Machine.execPowerSample dt domains total mean1s vaon vin12 s
  | .nselLatch dt node => Sys2Proof.Machine.execNselLatch dt node s
  | .mtLoRead dt frac => Sys2Proof.Machine.execMtLoRead dt frac s
  | .networkSessionStateMirror dt => Sys2Proof.Machine.execNetworkSessionStateMirror dt s
  | .delayRequestSend dt => Sys2Proof.Machine.execDelayRequestSend dt s
  | .canBusIntegration dt c => Sys2Proof.Machine.execCanBusIntegration dt c s
  | .peerAliveLow dt driveEnLow => Sys2Proof.Machine.execPeerAliveLow dt driveEnLow s
  | .joinTimeout dt => Sys2Proof.Machine.execJoinTimeout dt s
  | .activationDue dt => Sys2Proof.Machine.execActivationDue dt s
  | .malformedCommandMessage dt path bytes => Sys2Proof.Machine.execMalformedCommandMessage dt path bytes s

end Sys2Proof.Machine
end

