-- ==== Sys2Proof/Machine/Footprint.lean ====
section
/-! DEFINITION. The parts of the state, and those that each command may change. -/

namespace Sys2Proof

/-- The kinds of register pages (R45). -/
inductive PageKind where
  | sys | cfgx | host | rng | irq | time | auth | fwu | thm | pwr | tdm | wit | way | sbx | sns | mod
  | chg | est | ost | bal | cth | prot | trip | safe | slay | spt | pwm | loop | can | eth
  deriving DecidableEq, Repr

def PageKind.index : PageKind → Nat
  | .sys => 0 | .cfgx => 1 | .host => 2 | .rng => 3 | .irq => 4 | .time => 5 | .auth => 6 | .fwu => 7
  | .thm => 8 | .pwr => 9 | .tdm => 10 | .wit => 11 | .way => 12 | .sbx => 13 | .sns => 14 | .mod => 15
  | .chg => 16 | .est => 17 | .ost => 18 | .bal => 19 | .cth => 20 | .prot => 21 | .trip => 22 | .safe => 23
  | .slay => 24 | .spt => 25 | .pwm => 26 | .loop => 27 | .can => 28 | .eth => 29

def Page.kind : Page → PageKind
  | .sys => .sys | .cfgx => .cfgx | .host => .host | .rng => .rng | .irq => .irq | .time => .time
  | .auth => .auth | .fwu => .fwu | .thm => .thm | .pwr => .pwr | .tdm => .tdm | .wit => .wit | .way => .way
  | .sbx => .sbx | .sns _ => .sns | .mod => .mod | .chg => .chg | .est => .est | .ost => .ost | .bal => .bal
  | .cth => .cth | .prot => .prot | .trip => .trip | .safe => .safe | .slay => .slay | .spt => .spt
  | .pwm => .pwm | .loop _ => .loop | .can _ => .can | .eth _ => .eth

end Sys2Proof

namespace Sys2Proof.Machine

open Sys2Proof

/-- A part of the state: a block, a piece of one that deserves a name of its own, or the registers of one kind of page. -/
inductive Part where
  /-- The module state (R16). -/
  | mode
  /-- Module time (R54). -/
  | mt
  /-- The level of DRIVE_EN. -/
  | drive
  /-- Supplies, pins, boot phases and the times they are counted from. -/
  | sys
  /-- PAGE.STATE of the pages (R35). -/
  | pages
  /-- The descriptor rings. -/
  | rings
  /-- The MSI-X table. -/
  | host
  /-- The interrupt controller. -/
  | irq
  /-- The model's counter of free values. -/
  | free
  /-- What the module has put on its wires. -/
  | sent
  /-- The sums of the stage. -/
  | acc
  /-- The timetable. -/
  | tb
  /-- The sense rings. -/
  | sns
  /-- The bitstream front end. -/
  | mod
  /-- Charge integration. -/
  | chg
  /-- The journal in RAM. -/
  | jrn
  /-- The estimator. -/
  | est
  /-- The parameter-set memory (R140). -/
  | psm
  /-- The Ostler. -/
  | ost
  /-- The balancing planner. -/
  | bal
  /-- The cell thermal model. -/
  | cth
  /-- The control engine. -/
  | loops
  /-- The PWM pairs. -/
  | pairs
  /-- Sources, limits and comparators. -/
  | prot
  /-- The trip groups. -/
  | groups
  /-- The safety inputs. -/
  | safe
  /-- The safety layer. -/
  | slay
  /-- The event inputs that wait (R67). -/
  | events
  /-- The completion records that wait. -/
  | completions
  /-- The tandem engine. -/
  | tdm
  /-- The witness. -/
  | wit
  /-- The Waybill. -/
  | way
  /-- The Strongbox's queues, write and cursor. -/
  | sbx
  /-- The CAN controllers. -/
  | can
  /-- The Ethernet ports. -/
  | eth
  /-- The time engine. -/
  | time
  /-- The firmware updater. -/
  | fwu
  /-- The die thermal manager. -/
  | thm
  /-- The power alarm. -/
  | pwrAlarm
  /-- The journal in the MRAM (R164). -/
  | jrnSlots
  /-- The COUNT of each set-point stream (R224). -/
  | streamCounts
  /-- The stored limit set and the level of MANUAL (R242, R464). -/
  | limits
  /-- The Strongbox areas in the MRAM. -/
  | records
  /-- The keys and their counters (R405). -/
  | keys
  /-- Firmware images and settings. -/
  | images
  /-- The latest thermal shutdown (R428). -/
  | shutdown
  /-- The mirrored counters that wait for PFW_N (R401). -/
  | keyWait
  /-- The registers of the pages of a kind. -/
  | regs (k : PageKind)
  deriving DecidableEq, Repr

def Part.index : Part → Nat
  | .mode => 0 | .mt => 1 | .drive => 2 | .sys => 3 | .pages => 4 | .rings => 5 | .host => 6 | .irq => 7
  | .free => 8 | .sent => 9 | .acc => 10 | .tb => 11 | .sns => 12 | .mod => 13 | .chg => 14 | .jrn => 15
  | .est => 16 | .psm => 17 | .ost => 18 | .bal => 19 | .cth => 20 | .loops => 21 | .pairs => 22
  | .prot => 23 | .groups => 24 | .safe => 25 | .slay => 26 | .events => 27 | .completions => 28 | .tdm => 29
  | .wit => 30 | .way => 31 | .sbx => 32 | .can => 33 | .eth => 34 | .time => 35 | .fwu => 36 | .thm => 37
  | .pwrAlarm => 38 | .jrnSlots => 39 | .streamCounts => 40 | .limits => 41 | .records => 42 | .keys => 43
  | .images => 44 | .shutdown => 45 | .keyWait => 46 | .regs k => 47 + k.index

/-- A part is the same in two states. -/
def Part.same (r s : State) : Part → Prop
  | .mode => s.sys.mode = r.sys.mode
  | .mt => s.sys.mt = r.sys.mt
  | .drive => s.sys.driveEn = r.sys.driveEn
  | .sys => { s.sys with mode := .reset, mt := 0, driveEn := false } = { r.sys with mode := .reset, mt := 0, driveEn := false }
  | .pages => s.pages = r.pages
  | .rings => s.rings = r.rings
  | .host => s.host = r.host
  | .irq => s.irq = r.irq
  | .free => s.free = r.free
  | .sent => s.sent = r.sent
  | .acc => s.acc = r.acc
  | .tb => s.tb = r.tb
  | .sns => s.sns = r.sns
  | .mod => s.mod = r.mod
  | .chg => s.chg = r.chg
  | .jrn => s.jrn = r.jrn
  | .est => { s.est with ps := [] } = { r.est with ps := [] }
  | .psm => s.est.ps = r.est.ps
  | .ost => s.ost = r.ost
  | .bal => s.bal = r.bal
  | .cth => s.cth = r.cth
  | .loops => { s.loops with pairs := [] } = { r.loops with pairs := [] }
  | .pairs => s.loops.pairs = r.loops.pairs
  | .prot => { s.prot with groups := [] } = { r.prot with groups := [] }
  | .groups => s.prot.groups = r.prot.groups
  | .safe => s.safe = r.safe
  | .slay => s.slay = r.slay
  | .events => s.events = r.events
  | .completions => s.completions = r.completions
  | .tdm => s.tdm = r.tdm
  | .wit => s.wit = r.wit
  | .way => s.way = r.way
  | .sbx => s.sbx = r.sbx
  | .can => s.can = r.can
  | .eth => s.eth = r.eth
  | .time => s.time = r.time
  | .fwu => s.fwu = r.fwu
  | .thm => s.thm = r.thm
  | .pwrAlarm => s.pwrAlarm = r.pwrAlarm
  | .jrnSlots => s.mram.jslots = r.mram.jslots
  | .streamCounts => s.mram.streams = r.mram.streams
  | .limits => (s.mram.lim, s.mram.limStr, s.mram.limSeq, s.mram.limCrc, s.mram.manual) = (r.mram.lim, r.mram.limStr, r.mram.limSeq, r.mram.limCrc, r.mram.manual)
  | .records => (s.mram.sbxRecs, s.mram.sbxHigh, s.mram.sbxCleared, s.mram.sbxLockedHead, s.mram.sbxReserveHead, s.mram.sbxRollHead, s.mram.sbxClearHead) = (r.mram.sbxRecs, r.mram.sbxHigh, r.mram.sbxCleared, r.mram.sbxLockedHead, r.mram.sbxReserveHead, r.mram.sbxRollHead, r.mram.sbxClearHead)
  | .keys => s.mram.keys = r.mram.keys
  | .images => s.mram.fw = r.mram.fw
  | .shutdown => s.mram.thm = r.mram.thm
  | .keyWait => s.keyWait = r.keyWait
  | .regs k => ∀ p : Page, p.kind = k → ∀ o < 0x1000, s.rd p o = r.rd p o

/-- From `r` to `s` nothing but the parts listed has changed. -/
def Touches (l : List Part) (r s : State) : Prop := ∀ p ∉ l, p.same r s

/-- What a page whose interrupt line moves changes, the page itself aside (R385). -/
def lineParts : List Part :=
  [.irq, .regs .irq]

/-- What a Strongbox record admitted to its queue changes (R336). -/
def recordParts : List Part :=
  lineParts ++ [.sbx, .regs .sbx]

/-- What the completion of a descriptor changes (R50). -/
def ringParts : List Part :=
  lineParts ++ [.rings, .sent, .regs .rng]

/-- What a question to a witness changes (R298). -/
def askParts : List Part :=
  [.sent, .tdm, .can, .eth, .regs .eth]

/-- What a write taken as an event input changes (R67, R222). -/
def hostEventParts : List Part :=
  [.sent, .events, .tdm]

/-- What the judgement of a command message changes (R399 to R403). -/
def commandParts : List Part :=
  recordParts ++ hostEventParts ++ [.completions, .keys, .regs .auth, .regs .prot]

/-- What the evaluation of protection and control changes (R236 to R248). -/
def evalParts : List Part :=
  recordParts ++ [.sent, .loops, .pairs, .prot, .groups, .way, .regs .way, .regs .ost, .regs .prot,
  .regs .trip, .regs .pwm, .regs .loop]

/-- What entering a role changes. -/
def roleParts : List Part :=
  evalParts ++ [.mode, .sys, .slay, .tdm, .eth, .time, .fwu, .images, .regs .tdm]

/-- What a frame from a network can reach. -/
def netParts : List Part :=
  roleParts ++ [.drive, .rings, .events, .wit, .can, .regs .rng, .regs .wit, .regs .slay, .regs .eth]

/-- What an OUT entry changes, an image on trial among it (R21 to R23, R413). -/
def outParts : List Part :=
  netParts ++ [.mt, .pages, .host, .acc, .tb, .sns, .mod, .chg, .jrn, .est, .psm, .ost, .bal, .cth, .safe,
  .completions, .thm, .pwrAlarm, .jrnSlots, .records, .keyWait, .regs .sys, .regs .cfgx, .regs .host,
  .regs .time, .regs .auth, .regs .fwu, .regs .thm, .regs .pwr, .regs .sns, .regs .mod, .regs .chg,
  .regs .est, .regs .bal, .regs .cth, .regs .safe, .regs .spt, .regs .can]

/-- What a reset of the module changes (R436). -/
def resetParts : List Part :=
  outParts

/-- What an access of the host can reach. -/
def accessParts : List Part :=
  resetParts ++ [.free, .keys]

/-- The parts a command may change. The parts of the page it names come first where it names one. -/
def writes : Instr → List Part
  | .powerOn => resetParts
  | .supplyOutOfRange _ _ => resetParts
  | .supplyHoldOffExpiry => lineParts ++ [.mode, .mt, .sys, .sbx, .fwu, .images, .regs .thm]
  | .resetNLow _ => resetParts
  | .resetNRelease _ => lineParts ++ [.mode, .mt, .sys, .sbx, .fwu, .images, .regs .thm]
  | .bootPhaseDone _ _ => resetParts ++ [.limits]
  | .bootTimeout _ => resetParts
  | .sysRst _ _ => resetParts
  | .outRestart _ => resetParts
  | .lockstepMismatch _ _ => resetParts
  | .uncorrectableEccError _ _ => resetParts
  | .watchdogExpiry _ => resetParts
  | .outputLoopbackFailure _ _ _ => resetParts
  | .clockMonitorFault _ => resetParts
  | .vioBankFault _ _ => resetParts
  | .aon32Loss _ => [.mt, .drive, .sys]
  | .diodeOverLimit _ _ _ =>
      [.mode, .mt, .drive, .sys, .sent, .pairs, .groups, .safe, .tdm, .sbx, .fwu, .images, .shutdown,
      .regs .pwm]
  | .thermalCoolExpiry _ => resetParts
  | .pfwFall _ => lineParts ++ [.mt, .drive, .sys, .regs .sys, .regs .est]
  | .pfwRise _ =>
      recordParts ++ hostEventParts ++ [.mt, .drive, .sys, .loops, .prot, .fwu, .streamCounts, .limits,
      .records, .keys, .images, .keyWait, .regs .est, .regs .spt]
  | .roleFormation _ =>
      evalParts ++ askParts ++ [.mode, .mt, .drive, .sys, .rings, .tb, .sns, .est, .psm, .bal, .cth, .slay,
      .events, .completions, .wit, .time, .fwu, .limits, .images]
  | .formationWaitExpiry _ =>
      evalParts ++ askParts ++ [.mode, .mt, .drive, .sys, .rings, .tb, .sns, .est, .psm, .bal, .cth, .slay,
      .events, .completions, .wit, .time, .fwu, .limits, .images]
  | .formationJoinRetry _ =>
      evalParts ++ askParts ++ [.mode, .mt, .drive, .sys, .rings, .tb, .sns, .est, .psm, .bal, .cth, .slay,
      .events, .completions, .wit, .time, .fwu, .limits, .images]
  | .contactorRelease _ _ _ _ => commandParts ++ [.mt, .drive, .sys]
  | .dispatchEnable _ _ _ _ => commandParts ++ [.mt, .drive, .sys]
  | .limitWrite _ _ _ _ _ => commandParts ++ [.mt, .drive, .sys]
  | .roleAssign _ _ _ _ => commandParts ++ [.mt, .drive, .sys]
  | .plannedRelay _ _ _ => commandParts ++ [.mt, .drive, .sys]
  | .strongboxClear _ _ _ _ => commandParts ++ [.mt, .drive, .sys]
  | .fwActivate _ _ _ _ _ => commandParts ++ [.mt, .drive, .sys]
  | .keyLoad _ _ _ _ _ _ => commandParts ++ [.mt, .drive, .sys]
  | .configSignatureCommit _ _ _ _ => commandParts ++ [.mt, .drive, .sys]
  | .calibrationCycle _ _ _ _ => commandParts ++ [.mt, .drive, .sys]
  | .eventInputEffect =>
      netParts ++ commandParts ++ [.mt, .tb, .sns, .jrn, .est, .psm, .bal, .cth, .streamCounts, .limits,
      .regs .sys, .regs .cfgx, .regs .host, .regs .time, .regs .fwu, .regs .thm, .regs .pwr, .regs .sns,
      .regs .mod, .regs .chg, .regs .est, .regs .bal, .regs .cth, .regs .safe, .regs .spt, .regs .can]
  | .completionRecordRelease _ => ringParts ++ [.mt, .drive, .sys, .completions, .can, .eth, .regs .auth, .regs .eth]
  | .pageEnable _ page _ =>
      .regs page.kind :: (evalParts ++ [.mt, .drive, .sys, .pages, .rings, .sns, .mod, .chg, .safe, .slay, .tdm,
      .eth, .fwu, .images, .regs .cfgx, .regs .rng, .regs .sns, .regs .mod, .regs .chg, .regs .est, .regs .safe,
      .regs .slay, .regs .eth])
  | .blockStartDone _ page =>
      .regs page.kind :: (evalParts ++ askParts ++ [.mode, .mt, .drive, .sys, .pages, .rings, .free, .sns, .mod,
      .chg, .jrn, .est, .ost, .cth, .safe, .slay, .completions, .wit, .time, .fwu, .images, .regs .rng,
      .regs .sns, .regs .mod, .regs .chg, .regs .est, .regs .safe, .regs .slay])
  | .pageDisable _ page _ =>
      .regs page.kind :: (evalParts ++ [.mt, .drive, .sys, .pages, .rings, .sns, .mod, .chg, .safe, .slay, .tdm,
      .eth, .fwu, .images, .regs .cfgx, .regs .rng, .regs .sns, .regs .mod, .regs .chg, .regs .est, .regs .safe,
      .regs .slay, .regs .eth])
  | .blockStopped _ page =>
      .regs page.kind :: (ringParts ++ [.mt, .drive, .sys, .pages, .sns, .safe, .can, .regs .sns, .regs .safe])
  | .blockFault _ page =>
      .regs page.kind :: (evalParts ++ [.mt, .drive, .sys, .pages, .rings, .sns, .mod, .chg, .safe, .slay, .tdm,
      .eth, .fwu, .images, .regs .rng, .regs .sns, .regs .mod, .regs .chg, .regs .est, .regs .safe, .regs .slay,
      .regs .eth])
  | .configWrite _ page _ _ => .regs page.kind :: accessParts
  | .flagsClear _ page _ _ => .regs page.kind :: accessParts
  | .registerWrite _ page _ _ => .regs page.kind :: accessParts
  | .scrubPass _ => resetParts
  | .barAccessRejected _ _ _ _ => [.mt, .drive, .sys, .sent, .regs .host]
  | .linkReset _ =>
      lineParts ++ [.mt, .drive, .sys, .pages, .rings, .host, .completions, .can, .regs .host, .regs .rng]
  | .spiWriteFrame _ _ => accessParts
  | .spiReadFrame _ _ => accessParts
  | .ringDoorbell _ _ _ _ => askParts ++ ringParts ++ [.mt, .drive, .sys, .regs .can]
  | .ringRestart _ _ => [.mt, .drive, .sys, .rings, .completions, .can, .regs .rng]
  | .ringDrainTimeout _ _ => lineParts ++ [.mt, .drive, .sys, .regs .rng]
  | .tickBoundary _ =>
      roleParts ++ [.mt, .drive, .free, .acc, .tb, .sns, .mod, .jrn, .est, .bal, .safe, .events, .can,
      .regs .sns, .regs .mod, .regs .chg, .regs .est, .regs .bal, .regs .safe, .regs .slay, .regs .spt,
      .regs .eth]
  | .inputDeadline => evalParts ++ [.mt, .drive, .sys, .tb, .sns, .regs .sns]
  | .stageBoundary => resetParts
  | .stageStepRun _ _ =>
      recordParts ++ [.mt, .drive, .sys, .sent, .jrn, .est, .ost, .bal, .cth, .loops, .tdm, .way, .regs .est,
      .regs .ost, .regs .bal, .regs .cth]
  | .bistDone _ _ _ _ _ => resetParts
  | .stepPublished _ => resetParts
  | .forecastBoundary => [.est]
  | .forecastPublished _ => lineParts ++ [.mt, .drive, .sys, .est, .regs .est]
  | .calibrationDeadline _ => recordParts ++ [.mt, .drive, .sys, .est, .regs .est]
  | .journalWriteStart _ => [.mt, .drive, .sys, .jrn]
  | .journalWriteDone _ => [.mt, .drive, .sys, .jrn, .jrnSlots]
  | .parameterSetWrite _ _ _ => lineParts ++ [.mt, .drive, .sys, .psm, .regs .est]
  | .parameterSetScrub _ => resetParts
  | .limitTableWrite _ _ _ => [.mt, .drive, .sys, .regs .prot]
  | .commandCoachReceived _ _ _ _ => recordParts ++ [.mt, .drive, .sys, .sent, .sns, .regs .sns]
  | .dataCoachReceived _ _ _ _ =>
      evalParts ++ hostEventParts ++ [.mt, .drive, .sys, .sns, .jrn, .bal, .regs .sns, .regs .est, .regs .bal]
  | .alertCoachReceived _ _ _ _ => evalParts ++ [.mt, .drive, .sys, .sns, .bal, .regs .sns, .regs .bal]
  | .repeatCoachSend _ _ => [.mt, .drive, .sys, .sent, .sns, .regs .sns]
  | .farWaitExpiry _ _ => recordParts ++ [.mt, .drive, .sys, .sns, .regs .sns]
  | .symbolLockLoss _ _ => recordParts ++ [.mt, .drive, .sys, .sns, .regs .sns]
  | .frontEndLost _ _ _ => evalParts ++ [.mt, .drive, .sys, .sns, .regs .sns]
  | .enumerationWaitExpiry _ _ => [.mt, .drive, .sys, .sns, .regs .sns]
  | .challengeDue _ _ _ => [.mt, .drive, .sys, .sns]
  | .challengeRetry _ _ _ => [.mt, .drive, .sys, .sns]
  | .challengeAll _ _ => [.mt, .drive, .sys, .sns]
  | .reenum _ _ => [.mt, .drive, .sys, .sns]
  | .relayedCompartment _ _ _ =>
      evalParts ++ [.mt, .drive, .sys, .sns, .bal, .tdm, .regs .tdm, .regs .sns, .regs .bal]
  | .verdict _ _ _ =>
      recordParts ++ hostEventParts ++ [.mt, .drive, .sys, .sns, .jrn, .regs .tdm, .regs .sns, .regs .est]
  | .mckselChange _ _ _ _ => evalParts ++ [.mt, .drive, .sys, .free, .mod, .regs .mod]
  | .clockLoss _ _ _ => evalParts ++ [.mt, .drive, .sys, .mod, .regs .mod]
  | .stuckRun _ _ => evalParts ++ [.mt, .drive, .sys, .mod, .regs .mod]
  | .indexLock _ _ _ _ => lineParts ++ [.mt, .drive, .sys, .mod, .tdm, .regs .tdm, .regs .mod]
  | .stagePathSample _ _ _ => evalParts ++ [.mt, .drive, .sys, .tb, .mod, .bal, .regs .mod]
  | .fastFilterOutput _ _ _ _ => evalParts ++ [.mt, .drive, .sys, .mod, .regs .mod]
  | .tripRelease _ _ => hostEventParts ++ [.mt, .drive, .sys]
  | .manSet _ => hostEventParts ++ [.mt, .drive, .sys]
  | .manClr _ => hostEventParts ++ [.mt, .drive, .sys]
  | .controlSample _ _ _ => evalParts ++ [.mt, .drive, .sys, .mod, .est, .regs .mod, .regs .est]
  | .pwmUpdatePoint _ _ _ => evalParts ++ [.mt, .drive, .sys]
  | .loopStateDigest => resetParts
  | .spHostWrite _ _ _ => hostEventParts ++ [.mt, .drive, .sys]
  | .measWrite _ _ _ => hostEventParts ++ [.mt, .drive, .sys]
  | .dutyWrite _ _ _ => hostEventParts ++ [.mt, .drive, .sys]
  | .dispSpWrite _ _ => hostEventParts ++ [.mt, .drive, .sys]
  | .tcoolWrite _ _ _ => hostEventParts ++ [.mt, .drive, .sys]
  | .zoneStale _ _ => lineParts ++ [.mt, .drive, .sys, .cth, .regs .cth]
  | .spinPeriod _ _ _ _ => [.mt, .drive, .sys, .free, .loops, .regs .spt]
  | .spinLosTimeout _ _ => [.mt, .drive, .sys, .loops]
  | .setPointStreamFrame _ _ _ =>
      hostEventParts ++ lineParts ++ [.mt, .drive, .sys, .loops, .streamCounts, .regs .est, .regs .spt]
  | .streamTimeout _ _ => hostEventParts ++ [.mt, .drive, .sys, .loops]
  | .impedancePublished _ => lineParts ++ [.mt, .drive, .sys, .bal, .way, .regs .bal]
  | .unblock _ _ => [.mt, .drive, .sys, .bal, .regs .bal]
  | .unblockAll _ => [.mt, .drive, .sys, .bal, .regs .bal]
  | .zselLatch _ _ => [.mt, .drive, .sys, .regs .bal]
  | .sensorRestore _ _ _ _ => recordParts ++ [.mt, .drive, .sys, .cth]
  | .mselLatch _ _ => [.mt, .drive, .sys, .regs .cth]
  | .testWindowClose _ _ _ => evalParts ++ [.mt, .drive, .sys, .safe, .regs .safe]
  | .stuckReset _ => recordParts ++ [.mt, .drive, .sys, .safe, .regs .safe]
  | .stuckResetEnd _ => [.mt, .drive, .sys, .safe, .regs .safe]
  | .espitonData _ _ _ => evalParts ++ hostEventParts ++ [.mt, .drive, .sys, .rings, .slay, .regs .rng, .regs .slay]
  | .espitonEcho _ _ _ => evalParts ++ hostEventParts ++ [.mt, .drive, .sys, .rings, .slay, .regs .rng, .regs .slay]
  | .espitonPeriod _ _ =>
      evalParts ++ askParts ++ [.mt, .drive, .sys, .rings, .slay, .events, .regs .rng, .regs .slay]
  | .heartbeatSend _ => [.mt, .drive, .sys, .sent, .safe, .tdm]
  | .heartbeat _ _ _ =>
      roleParts ++ [.mt, .drive, .rings, .free, .tb, .sns, .est, .psm, .bal, .cth, .safe, .events, .completions,
      .wit, .can, .limits, .regs .auth, .regs .safe, .regs .eth]
  | .peerSilent _ => askParts ++ recordParts ++ [.mt, .drive, .sys, .regs .tdm]
  | .linkDown _ _ => lineParts ++ [.mt, .drive, .sys, .tdm, .regs .tdm]
  | .linkUp _ _ => [.mt, .drive, .sys, .tdm]
  | .interlockAgreement _ => lineParts ++ [.mt, .drive, .sys, .regs .tdm]
  | .peerDriveEnHigh _ => recordParts ++ [.mt, .drive, .sys, .tdm, .regs .tdm]
  | .driveEnRaise _ => roleParts ++ [.mt, .drive, .can, .regs .eth]
  | .mirror _ _ _ =>
      netParts ++ commandParts ++ [.mt, .tb, .sns, .jrn, .est, .psm, .bal, .cth, .streamCounts, .limits,
      .keyWait, .regs .sys, .regs .cfgx, .regs .host, .regs .time, .regs .fwu, .regs .thm, .regs .pwr,
      .regs .sns, .regs .mod, .regs .chg, .regs .est, .regs .bal, .regs .cth, .regs .safe, .regs .spt,
      .regs .can]
  | .mirrorGap _ => lineParts ++ [.mt, .drive, .sys, .sent, .tdm, .regs .tdm]
  | .stageDigest _ _ _ => resetParts
  | .loopDigest _ _ _ => resetParts
  | .repairReq _ _ _ => [.mt, .drive, .sys, .tdm, .regs .tdm]
  | .repairData _ _ _ =>
      netParts ++ commandParts ++ [.mt, .tb, .sns, .jrn, .est, .psm, .bal, .cth, .safe, .streamCounts, .limits,
      .regs .sys, .regs .cfgx, .regs .host, .regs .time, .regs .fwu, .regs .thm, .regs .pwr, .regs .sns,
      .regs .mod, .regs .chg, .regs .est, .regs .bal, .regs .cth, .regs .safe, .regs .spt, .regs .can]
  | .repairAll _ => [.mt, .drive, .sys, .sent, .tdm]
  | .healthSend _ => ringParts ++ [.mt, .drive, .sys, .tdm, .regs .tdm]
  | .healthNow _ => ringParts ++ [.mt, .drive, .sys, .tdm, .regs .tdm]
  | .health _ _ _ => [.mt, .drive, .sys, .tdm, .regs .tdm]
  | .healthStale _ => lineParts ++ [.mt, .drive, .sys, .regs .tdm]
  | .abdicate _ _ _ => roleParts ++ [.mt, .drive, .can, .regs .eth]
  | .tandemService _ _ _ => accessParts
  | .relaySwitch _ => roleParts ++ [.mt, .drive, .safe, .can, .regs .safe, .regs .eth]
  | .renewTimer _ => askParts ++ [.mt, .drive, .sys]
  | .probeTimer _ => askParts ++ [.mt, .drive, .sys]
  | .witnessProbe _ _ _ => lineParts ++ [.mt, .drive, .sys, .sent, .wit, .can, .eth, .regs .wit, .regs .eth]
  | .witnessRenew _ _ _ => lineParts ++ [.mt, .drive, .sys, .sent, .wit, .can, .eth, .regs .wit, .regs .eth]
  | .witnessAcquire _ _ _ => lineParts ++ [.mt, .drive, .sys, .sent, .wit, .can, .eth, .regs .wit, .regs .eth]
  | .witnessYield _ _ _ => lineParts ++ [.mt, .drive, .sys, .sent, .wit, .can, .eth, .regs .wit, .regs .eth]
  | .witnessQuietEnd _ => [.mt, .drive, .sys, .wit]
  | .leaseGranted _ _ => roleParts ++ [.mt, .drive]
  | .leaseRefused _ _ => askParts ++ recordParts ++ [.mt, .drive, .sys, .regs .tdm]
  | .witnessState _ _ => askParts ++ [.mt, .drive, .sys]
  | .backoffExpiry _ => askParts ++ [.mt, .drive, .sys]
  | .leaseViewExpiry _ => [.mt, .drive, .sys, .tdm]
  | .witnessLost _ => askParts ++ recordParts ++ [.mt, .drive, .sys, .regs .tdm]
  | .witnessReturn _ _ => askParts ++ [.mt, .drive, .sys]
  | .stageFrameWrite _ => ringParts ++ [.mt, .drive, .sys, .way, .regs .way, .regs .ost]
  | .wayFreeze _ => lineParts ++ [.mt, .drive, .sys, .way, .regs .way, .regs .ost]
  | .releaseSegment _ => [.mt, .drive, .sys, .way]
  | .exportSegment _ => [.mt, .drive, .sys, .way]
  | .abortSegment _ => ringParts ++ [.mt, .drive, .sys, .way, .regs .way]
  | .exportChunk _ => ringParts ++ [.mt, .drive, .sys, .way]
  | .autoExportStart _ => [.mt, .drive, .sys, .way]
  | .burstCaptureStop _ => [.mt, .drive, .sys, .way]
  | .burstCopyDone _ => ringParts ++ [.mt, .drive, .sys, .way, .regs .way, .regs .ost]
  | .strongboxWriteStart _ => recordParts ++ [.mt, .drive, .sys, .way, .records, .regs .way, .regs .ost]
  | .strongboxWriteDone _ => recordParts ++ [.mt, .drive, .sys, .records]
  | .tokenRefill _ => [.mt, .drive, .sys, .sbx]
  | .cursorSeek _ => [.mt, .drive, .sys, .sbx]
  | .cursorNext _ => [.mt, .drive, .sys, .sbx]
  | .cursorDone _ => recordParts ++ [.mt, .drive, .sys]
  | .strongboxExportChunk _ => ringParts ++ [.mt, .drive, .sys, .sbx, .regs .sbx]
  | .strongboxExportFlush _ => ringParts ++ [.mt, .drive, .sys, .sbx]
  | .canTransmitAttempt _ _ => ringParts ++ [.mt, .drive, .sys, .can]
  | .canAttemptEnd _ _ _ _ => ringParts ++ [.mt, .drive, .sys, .free, .can, .regs .can]
  | .canFrameReceived _ _ _ => netParts ++ commandParts ++ [.mt, .streamCounts, .regs .est, .regs .spt, .regs .can]
  | .busOffRecovery _ _ => [.mt, .drive, .sys, .can]
  | .canCancel _ _ _ => ringParts ++ [.mt, .drive, .sys, .can]
  | .canCancelAll _ _ _ => ringParts ++ [.mt, .drive, .sys, .can]
  | .canRecover _ _ => [.mt, .drive, .sys, .can]
  | .rxrel _ _ _ => [.mt, .drive, .sys, .can]
  | .rxwRead _ _ _ => [.mt, .drive, .sys, .sent, .can]
  | .fltw1Commit _ _ _ => lineParts ++ [.mt, .drive, .sys, .can, .regs .can]
  | .witnessResend _ _ => [.mt, .drive, .sys, .can]
  | .ethTransmit _ _ _ => ringParts ++ [.mt, .drive, .sys, .eth, .regs .eth]
  | .ethFrameReceived _ _ _ _ => netParts ++ commandParts ++ [.mt, .streamCounts, .regs .est, .regs .spt]
  | .arpRequest _ _ _ _ _ => [.mt, .drive, .sys, .eth, .regs .eth]
  | .pairAnnounce _ => [.mt, .drive, .sys, .eth, .regs .eth]
  | .prpSupervision _ _ => [.mt, .drive, .sys, .eth]
  | .ethLinkChange _ _ _ _ => ringParts ++ [.mt, .drive, .sys, .eth, .regs .eth]
  | .timeSync _ _ _ _ _ =>
      lineParts ++ [.mode, .mt, .drive, .sys, .rings, .tb, .sns, .est, .psm, .bal, .cth, .loops, .pairs, .slay,
      .events, .completions, .tdm, .wit, .way, .can, .eth, .time, .fwu, .regs .time]
  | .ptpAnnounce _ _ _ => lineParts ++ [.mt, .drive, .sys, .time, .regs .time]
  | .delayResp _ _ _ _ _ _ => [.mt, .drive, .sys, .time, .regs .time]
  | .delayReq _ _ _ _ => [.mt, .drive, .sys, .eth, .time]
  | .timeTransmitPeriod _ _ _ => [.mt, .drive, .sys, .eth, .time]
  | .holdoverEntry _ => lineParts ++ [.mt, .drive, .sys, .time, .regs .time]
  | .irqSourceAssert _ _ _ => lineParts ++ [.mt, .drive, .sys]
  | .extIrqPin _ _ _ => lineParts ++ [.mt, .drive, .sys]
  | .targetFire _ _ => lineParts ++ [.mt, .drive, .sys, .host, .sent]
  | .irqClaim _ _ => lineParts ++ [.mt, .drive, .sys, .sent]
  | .irqComplete _ _ _ => lineParts ++ [.mt, .drive, .sys]
  | .irqPark _ _ _ => lineParts ++ [.mt, .drive, .sys]
  | .irqSourceConfig _ _ _ => lineParts ++ [.mt, .drive, .sys]
  | .openUpload _ _ => lineParts ++ [.mt, .drive, .sys, .fwu, .images, .regs .fwu, .regs .est]
  | .closeUpload _ => lineParts ++ [.mt, .drive, .sys, .fwu, .images, .regs .fwu, .regs .est]
  | .abortUpload _ => [.mt, .drive, .sys, .fwu, .images, .regs .est]
  | .bootRetry _ _ => resetParts
  | .firmwareChunk _ _ => ringParts ++ [.mt, .drive, .sys, .fwu, .images, .regs .fwu]
  | .windowChunk _ _ => lineParts ++ [.mt, .drive, .sys, .fwu, .images, .regs .fwu]
  | .activationReboot _ => resetParts
  | .activationCancel _ => recordParts ++ [.mt, .drive, .sys, .fwu, .images, .regs .fwu]
  | .trialEnd _ => [.mt, .drive, .sys, .fwu, .images]
  | .svCommit _ => recordParts ++ [.mt, .drive, .sys, .images, .regs .fwu]
  | .dieModelUpdate _ _ _ => resetParts
  | .powerSample _ _ _ _ _ _ => lineParts ++ [.mt, .drive, .sys, .pwrAlarm, .regs .pwr]
  | .nselLatch _ _ => [.mt, .drive, .sys, .regs .thm]
  | .mtLoRead _ _ => [.mt, .drive, .sys, .sent, .time]
  | .networkSessionStateMirror _ => [.mt, .drive, .sys, .sent, .tdm]
  | .delayRequestSend _ => [.mt, .drive, .sys, .eth, .time]
  | .canBusIntegration _ _ => [.mt, .drive, .sys, .can]
  | .peerAliveLow _ _ => roleParts ++ [.mt, .drive, .can, .regs .eth]
  | .joinTimeout _ => recordParts ++ [.mt, .drive, .sys, .completions, .tdm, .regs .sys, .regs .auth]
  | .activationDue _ => lineParts ++ [.mt, .drive, .sys, .fwu, .regs .fwu]
  | .malformedCommandMessage _ _ _ => commandParts ++ [.mt, .drive, .sys]

end Sys2Proof.Machine
end

