-- ==== Sys2Proof/Safety.lean ====
section
/-! DEFINITION. What counts as a safe state and a safe run, in the terms the claims use. -/

namespace Sys2Proof.Machine

open Sys2Proof

/-- An entry of the register store stands for a register of the map that differs from its reset value, and its reserved
bits are 0 (R4, R33). -/
def RegEntryWf (e : Nat × Word) : Prop :=
  ∃ (p : Page) (o : Nat) (r : RegRow), e.1 = p.base + o ∧ findRow p o = some r ∧
    e.2 &&& BitVec.ofNat 32 r.mask = e.2 ∧ e.2 ≠ regDefault p o

/-- The register store's canonical form: offsets strictly rise, and every entry stands for a register. -/
def RegsWf (l : List (Nat × Word)) : Prop :=
  l.Pairwise (fun a b => a.1 < b.1) ∧ ∀ e ∈ l, RegEntryWf e

/-- The canonical form of the parameter-set memory (R140): addresses strictly rise and no listed byte is 0. -/
def Memory.wf (m : List Host.Cell) : Bool := swf (fun _ => 0) m

/-- The outputs of R22: DRIVE_EN low, every trip group WITHHELD (KEEP stopped, TRIP low), every PWM pair forced low. -/
def State.outputsSafe (s : State) : Prop :=
  s.sys.driveEn = false ∧ s.prot.groups = [] ∧ ∀ m < 8, (sget {} s.loops.pairs m : PairSt).forced = true

/-- DRIVE_EN is high in ACTIVE alone (R292), but for the rest of the TB0 period in which ACTIVE was left: then its
fall at the period's end is due (R18, R233). -/
def DriveOk (s : State) : Prop := s.sys.driveEn = true → s.sys.mode = .active ∨ s.sys.dropAt.isSome = true

/-- In RESET, OUT and THERMAL_SHUTDOWN the outputs are those of R22. -/
def OutputsOk (s : State) : Prop := s.sys.mode.serves = false → s.outputsSafe

end Sys2Proof.Machine
end

