-- ==== Sys2Proof/Certificates/Slice0/Obligations.lean ====
section
/-! DEFINITION. The statements for the provers. Every command has a completion statement; together with
`CommandsKeepTheirFootprint`, which bounds what each may change, they say what it does. Time passes in every one as log
entry 2 says; a docstring names the other log entries of choices that the statement touches. -/

open Sys2Proof Sys2Proof.Machine

/-! ### The block as a whole -/

/-- The parameter-set memory, and its copies in the settings, are in canonical form. -/
def ParamMemoryOk (s : State) : Prop :=
  Memory.wf s.est.ps = true ∧ ∀ v : Settings, s.mram.fw.setA = some v ∨ s.mram.fw.setB = some v ∨ s.fwu.waiting = some v →
    Memory.wf v.psets = true

/-- A step takes the command at the front of the queue and runs it on the queue's rest. -/
def Obligations.StepRunsFront : Prop :=
  ∀ (c : Instr) (rest : List Instr) (s : State),
    step { s with pending := c :: rest } = exec c { s with pending := rest }

/-- On an empty queue a step leaves the state as it is (the model's choice, log entry 1). -/
def Obligations.EmptyQueueIdles : Prop :=
  ∀ s : State, s.pending = [] → step s = .next s

/-- No command stops the block: whatever its operands and the state, it answers a next state (R15, R16, R21: a fault of the
hardware is an OUT cause, and OUT is a state of the module). The model's own choices in it: log entry 72. -/
def Obligations.EveryCommandAnswers : Prop :=
  ∀ (c : Instr) (s : State), ∃ t, exec c s = .next t

/-- The frame of every command: what lies outside the parts that `writes` lists for it is as it was. The model's own choices
in it: log entries 2, 3 and 4. -/
def Obligations.CommandsKeepTheirFootprint : Prop :=
  ∀ (c : Instr) (s t : State), exec c s = .next t → Touches (writes c) s t

/-- The register store keeps its form (R4, R33): every entry is a register of the map with its reserved bits 0, and so every
register reads with its reserved bits 0. -/
def Obligations.RegistersKeepTheirForm : Prop :=
  (∀ s t : State, RegsWf s.regs → step s = .next t → RegsWf t.regs) ∧
  (∀ (s : State) p o r, RegsWf s.regs → findRow p o = some r →
    BitVec.ofNat 32 (r.reset o) &&& BitVec.ofNat 32 r.mask = BitVec.ofNat 32 (r.reset o) ∧
    s.rd p o &&& BitVec.ofNat 32 r.mask = s.rd p o)

/-- DRIVE_EN is high in ACTIVE alone (R292), but for the rest of the TB0 period in which ACTIVE was left (R18, R233); and in
RESET, OUT and THERMAL_SHUTDOWN the outputs are those of R22: every step keeps this. -/
def Obligations.OutputsStaySafe : Prop :=
  ∀ s t : State, DriveOk s → OutputsOk s → step s = .next t → DriveOk t ∧ OutputsOk t

/-- The parameter-set memory keeps its canonical form (R140, R419, R420): every step keeps it. The model's own choices
in it: log entry 9. -/
def Obligations.ParameterMemoryKeepsItsForm : Prop :=
  ∀ s t : State, ParamMemoryOk s → step s = .next t → ParamMemoryOk t

/-- The state after reset meets the three invariants, is in RESET with DRIVE_EN low and nothing waiting, and every register
reads its reset value (R4, R22, R431). The model's own choices in it: log entries 5 and 9. -/
def Obligations.ResetMeetsTheInvariants : Prop :=
  RegsWf State.reset.regs ∧ DriveOk State.reset ∧ OutputsOk State.reset ∧ ParamMemoryOk State.reset ∧
  State.reset.mode = .reset ∧ State.reset.sys.driveEn = false ∧ State.reset.pending = [] ∧ State.reset.sent = [] ∧
  ∀ p o r, findRow p o = some r → State.reset.rd p o = BitVec.ofNat 32 (r.reset o)

/-- A command adds nothing to the queue and takes nothing from it, what has gone out stays as it was sent, and no free value
is drawn twice (log entries 1, 3 and 4). The model's own choices in it: log entries 1 and 4. -/
def Obligations.QueueAndWiresOnlyGrow : Prop :=
  ∀ (c : Instr) (s t : State), exec c s = .next t → t.pending = s.pending ∧ s.sent <:+ t.sent ∧ s.free ≤ t.free

/-! ### Supplies, resets, BOOT and OUT -/

/-- The module has been reset (R434, R436): the cause and the state it was in, and everything volatile at its reset
value, with the outputs of R22. -/
def Restarted (cause prior : Nat) (t : State) : Prop :=
  t.sys.rstCause = cause ∧ t.sys.prior = prior ∧ t.outputsSafe ∧ t.rings = [] ∧ t.events = [] ∧ t.completions = [] ∧
    t.pages = [] ∧ t.way.queue = [] ∧ t.est = {} ∧ t.tdm.held = false

/-- The states a module reset ends in: RESET while RESET_N or a supply holds it there, BOOT otherwise (R17, R432). -/
def AfterReset (t : State) : Prop :=
  t.mode = (if t.sys.rstNLow || !t.sys.vaonOk || !t.sys.vin12Ok || t.sys.holdOff then Mode.reset else Mode.boot)

/-- The bit of the cause bitmap that a command detects (R21), for the commands that detect an OUT cause. -/
def outCauseOf : Instr → Option Nat
  | .lockstepMismatch _ island => some (b2n island)
  | .uncorrectableEccError _ m =>
    match m with
    | .strongbox _ | .waybill _ _ => none
    | _ => some 2
  | .watchdogExpiry _ => some 6
  | .outputLoopbackFailure _ _ confirmed => if confirmed then some 7 else none
  | .clockMonitorFault _ => some 8
  | .vioBankFault _ bank => if bank.val < 3 then some 7 else none
  | _ => none

/-- The time that such a command says has passed. -/
def outCauseDt : Instr → Nat
  | .lockstepMismatch dt _ => dt
  | .uncorrectableEccError dt _ => dt
  | .watchdogExpiry dt => dt
  | .outputLoopbackFailure dt _ _ => dt
  | .clockMonitorFault dt => dt
  | .vioBankFault dt _ => dt
  | _ => 0

/-- The image of the running slot passes the checks of phase 4 of BOOT (R409, R412): its header, its key against the OTP key
hash, its signature and its security version. Of an image whose bytes the module does not hold (a factory image, log entry
17) the phase reports what the checks of its key and its signature find. -/
def imagePasses (s : State) (r : BootReport) : Prop :=
  let v := s.fw.slot s.fwu.run
  v.usable = true ∧ v.headOk = true ∧ s.fw.otp ≤ v.sv ∧
  if v.bytes = [] then r.imageCode ≠ 2 ∧ r.imageCode ≠ 3
  else sha384 (slice v.bytes 0x20 96) = Config.otpKeyHash ∧
    ecdsaP384Verify (beNat (slice v.bytes 0x20 48)) (beNat (slice v.bytes 0x50 48)) (beNat (slice v.bytes 0x100 48))
      (beNat (slice v.bytes 0x130 48)) (sha384 (v.bytes.take 0x100 ++ v.bytes.drop 0x200)) = true

/-- Supplies and RESET_N (R431 to R434): what each change of a supply or of RESET_N leaves. The model's own choices in it:
log entries 2 and 49. -/
def Obligations.SupplyChangesComplete : Prop :=
  (∀ s, ∃ t, exec .powerOn s = .next t ∧ t.mode = .reset ∧ t.sys.vaonOk = true ∧ t.sys.holdOff = true ∧
    Restarted 0x01 0 t ∧ t.regs = [] ∧ t.mram.fw.resets = satAdd 32 s.mram.fw.resets 1) ∧
  (∀ dt s, ∃ t, exec (.supplyOutOfRange dt true) s = .next t ∧ t.mode = .reset ∧ t.sys.vaonOk = false ∧
    t.sys.holdOff = true ∧ t.outputsSafe ∧ t.regs = [] ∧ t.rings = [] ∧ t.mram.fw.resets = s.mram.fw.resets) ∧
  (∀ dt s, s.mode ≠ .thermal → s.mode ≠ .reset → ∃ t, exec (.supplyOutOfRange dt false) s = .next t ∧
    t.mode = .reset ∧ t.sys.vin12Ok = false ∧ t.sys.holdOff = true ∧ Restarted 0x03 s.mode.code t ∧
    t.mram.fw.resets = satAdd 32 s.mram.fw.resets 1) ∧
  (∀ dt s, s.mode = .thermal ∨ s.mode = .reset → ∃ t, exec (.supplyOutOfRange dt false) s = .next t ∧
    t.mode = s.mode ∧ t.sys.vin12Ok = false ∧ t.sys.holdOff = true ∧ t.way = {} ∧
    t.mram.fw.resets = s.mram.fw.resets) ∧
  (∀ dt s, s.mode ≠ .thermal → s.mode ≠ .reset → ∃ t, exec (.resetNLow dt) s = .next t ∧ t.mode = .reset ∧
    t.sys.rstNLow = true ∧ Restarted 0x02 s.mode.code t ∧ t.mram.fw.resets = satAdd 32 s.mram.fw.resets 1) ∧
  (∀ dt s e, e = s.elapse dt → s.mode = .thermal ∨ s.mode = .reset →
    exec (.resetNLow dt) s = .next { e with sys := { e.sys with rstNLow := true } })

/-- The start of BOOT (R17, R54, R432): from RESET, once RESET_N is high and both supplies have been in range for 1
ms; with RESET_N still low the end of the hold-off changes the supplies alone, and in any other state a release of
RESET_N changes its level alone. A BOOT phase that ends (R437): one whose checks fail ends the attempt; phases 1 and 2
make way for the next; phase 4 makes way for phase 5 when the image passes the checks of R409 and R412, and otherwise
ends the attempt; phases 3, 6 and 7 make way for the next; more than eight failed lanes in phase 8 end the attempt;
phase 0, the wait for RETRY, ends by no such command. The model's own choices in it: log entries 2, 17, 49 and 61. -/
def Obligations.BootStartsAndEnds : Prop :=
  ((∀ s, s.mode = .reset → s.sys.rstNLow = false → ∃ t, exec .supplyHoldOffExpiry s = .next t ∧ t.mode = .boot ∧
     t.mt = 0 ∧ t.sys.vaonOk = true ∧ t.sys.vin12Ok = true ∧ t.sys.holdOff = false ∧ t.fwu.run = s.fw.pref ∧
     t.mram.fw.boots = satAdd 32 s.mram.fw.boots 1) ∧
   (∀ s, s.mode ≠ .reset ∨ s.sys.rstNLow = true → exec .supplyHoldOffExpiry s = .next { s with sys := { s.sys with
     vaonOk := true
     vin12Ok := true
     holdOff := false } }) ∧
   (∀ b s, s.mode = .reset → s.sys.vaonOk = true → s.sys.vin12Ok = true → s.sys.holdOff = false →
     ∃ t, exec (.resetNRelease b) s = .next t ∧ t.mode = .boot ∧ t.mt = 0 ∧ t.sys.rstNLow = false ∧ t.sys.strapB = b ∧
       t.fwu.run = s.fw.pref ∧ t.mram.fw.boots = satAdd 32 s.mram.fw.boots 1) ∧
   (∀ b s, s.mode = .reset → s.sys.vaonOk = false ∨ s.sys.vin12Ok = false ∨ s.sys.holdOff = true →
     exec (.resetNRelease b) s = .next { s with sys := { s.sys with
       rstNLow := false
       strapB := b } }) ∧
   (∀ b s, s.mode ≠ .reset → exec (.resetNRelease b) s = .next { s with sys := { s.sys with rstNLow := false } })) ∧
  ((∀ dt r s, s.mode = .boot → s.sys.pfwHold = false → s.sys.bootPhase ≠ 0 → r.ok = false →
     ∃ t, exec (.bootPhaseDone dt r) s = .next t ∧ AfterReset t ∧ Restarted 0x08 s.mode.code t ∧
       t.mram.fw.failBoots = satAdd 32 s.mram.fw.failBoots 1) ∧
   (∀ dt r s e, e = s.elapse dt → s.mode = .boot → s.sys.pfwHold = false → r.ok = true →
     s.sys.bootPhase = 1 ∨ s.sys.bootPhase = 2 →
     exec (.bootPhaseDone dt r) s = .next { e with sys := { e.sys with bootPhase := s.sys.bootPhase + 1 } }) ∧
   (∀ dt r s, s.mode = .boot → s.sys.pfwHold = false → r.ok = true → s.sys.bootPhase = 4 → imagePasses s r →
     ∃ t, exec (.bootPhaseDone dt r) s = .next t ∧ t.sys.bootPhase = 5 ∧ t.mode = .boot) ∧
   (∀ dt r s, s.mode = .boot → s.sys.pfwHold = false → r.ok = true → s.sys.bootPhase = 4 → ¬ imagePasses s r →
     ∃ t, exec (.bootPhaseDone dt r) s = .next t ∧ AfterReset t ∧ Restarted 0x08 s.mode.code t ∧
       t.mram.fw.failBoots = satAdd 32 s.mram.fw.failBoots 1) ∧
   (∀ dt r s, s.mode = .boot → s.sys.pfwHold = false → r.ok = true →
     s.sys.bootPhase = 3 ∨ s.sys.bootPhase = 6 ∨ s.sys.bootPhase = 7 →
     ∃ t, exec (.bootPhaseDone dt r) s = .next t ∧ t.mode = .boot ∧ t.sys.bootPhase = s.sys.bootPhase + 1) ∧
   (∀ dt r s, s.mode = .boot → s.sys.pfwHold = false → r.ok = true → s.sys.bootPhase = 8 → 8 < popCount r.laneFails.toNat 32 →
     ∃ t, exec (.bootPhaseDone dt r) s = .next t ∧ AfterReset t ∧ Restarted 0x08 s.mode.code t) ∧
   (∀ dt r s, s.sys.bootPhase = 0 → exec (.bootPhaseDone dt r) s = .next (s.elapse dt)))

/-- A write to SYS.RST (R435): KEY 0xB7 resets the module in BOOT, UNCONFIGURED, READY, STANDBY, WITNESS-ONLY and OUT; in
ACTIVE the write is ignored but for SYS.FLAGS.RSTREJ; any other KEY is ignored. -/
def Obligations.HostResetByKey : Prop :=
  (∀ dt s, (s.mode.serves = true ∧ s.mode ≠ .active) ∨ s.mode = .out →
    ∃ t, exec (.sysRst dt 0xB7) s = .next t ∧ AfterReset t ∧ Restarted 0x04 s.mode.code t) ∧
  (∀ dt s e, e = s.elapse dt → s.mode = .active → exec (.sysRst dt 0xB7) s = .next (e.flag .sys 9)) ∧
  (∀ dt (k : Byte) s, k ≠ 0xB7 → exec (.sysRst dt k) s = .next (s.elapse dt))

/-- The other resets (R413, R414, R416, R429, R436): from OUT, from THERMAL_SHUTDOWN, by RETRY, by an activation and by a
BOOT that takes too long, with the conditions of each. The model's own choices in it: log entries 2, 49 and 62. -/
def Obligations.ModuleResetsComplete : Prop :=
  (∀ dt s e, e = s.elapse dt → s.mode = .out → s.running .sys = true → s.rdb .sys R.SYS.CFG 2 = true →
    s.sys.outDurable = true → s.sys.outDurMt + 1000000000 ≤ e.mt → s.recentOut = false →
    ∃ t, exec (.outRestart dt) s = .next t ∧ AfterReset t ∧ Restarted 0x05 s.mode.code t) ∧
  (∀ dt s e, e = s.elapse dt → s.mode = .thermal → s.mram.thm.mt + 10000000000 ≤ e.mt →
    ∃ t, exec (.thermalCoolExpiry dt) s = .next t ∧ AfterReset t ∧ Restarted 0x06 s.mode.code t) ∧
  (∀ dt (slot : Bool) s, s.mode.serves = true → s.fwu.exhausted = true → (s.fw.slot (b2n slot)).usable = true →
    ∃ t, exec (.bootRetry dt slot) s = .next t ∧ AfterReset t ∧ Restarted 0x07 s.mode.code t ∧
      t.mram.fw.pref = b2n slot ∧ t.mram.fw.attempts = 0) ∧
  (∀ dt s e k mt, e = s.elapse dt → s.fw.pending = some (k, mt) → mt ≤ e.mt → e.mayReboot = true → s.mode ≠ .reset →
    ∃ t, exec (.activationReboot dt) s = .next t ∧ AfterReset t ∧ Restarted 0x07 s.mode.code t ∧
      t.mram.fw.pref = k ∧ t.mram.fw.trial = true ∧ t.mram.fw.pending = none) ∧
  (∀ dt s e, e = s.elapse dt → s.mode = .boot → s.fwu.exhausted = false → s.sys.pfwHold = false →
    s.sys.bootMt + s.sys.heldNs + 5000000000 ≤ e.mt →
    ∃ t, exec (.bootTimeout dt) s = .next t ∧ AfterReset t ∧ Restarted 0x08 s.mode.code t ∧
      t.mram.fw.failBoots = satAdd 32 s.mram.fw.failBoots 1)

/-- An OUT cause in a state whose functions run (R21, R22): the module enters OUT with the cause bitmap of that one
cause and the outputs of R22, or, with an image on trial, the attempt fails and the module resets (R17, R413). An OUT
cause in OUT (R23): within 1 µs of the first cause, while its record waits, it joins the cause bitmap; a later one
advances the repeat counter. A parameter set in use whose CRC differs from its reference while EST is RUNNING is OUT
cause [3] (R21, R144); with an image on trial the attempt fails and the module resets (R413). The model's own choices
in it: log entries 2 and 68. -/
def Obligations.OutCausesEnterOut : Prop :=
  (∀ (c : Instr) (n : Nat) (s : State), outCauseOf c = some n → s.mode.serves = true →
     (s.fw.trial = false → ∃ t, exec c s = .next t ∧ t.mode = .out ∧ t.outputsSafe ∧ t.sys.outPrior = s.mode.code ∧
       t.rdf .sys R.SYS.OUTCAUSE 15 0 = 2 ^ n ∧ t.sys.outDurable = false) ∧
     (s.fw.trial = true → ∃ t, exec c s = .next t ∧ AfterReset t ∧ Restarted 0x08 Mode.out.code t ∧
       t.mram.fw.failBoots = satAdd 32 s.mram.fw.failBoots 1)) ∧
  (∀ (c : Instr) (n : Nat) (s e : State), outCauseOf c = some n → e = s.elapse (outCauseDt c) → s.mode = .out → s.fw.trial = false →
     (e.mt ≤ s.sys.outMt + 1000 → s.sbx.lockedQ.any (fun r => r.cls = 7 && r.payload.head? = some 1) = true →
       ∃ t, exec c s = .next t ∧ t.mode = .out ∧ t.rdf .sys R.SYS.OUTCAUSE 15 0 = s.rdf .sys R.SYS.OUTCAUSE 15 0 ||| 2 ^ n ∧
         t.sbx.lockedQ = addOutCause n s.sbx.lockedQ) ∧
     (s.sys.outMt + 1000 < e.mt → ∃ t, exec c s = .next t ∧ t.mode = .out ∧ t.sbx.lockedQ = s.sbx.lockedQ ∧
       t.rdf .sys R.SYS.OUTCAUSE 31 16 = satAdd 16 (s.rdf .sys R.SYS.OUTCAUSE 31 16) 1)) ∧
  (∀ dt s, s.mode.serves = true → s.running .est = true → (∃ n ∈ s.psUse, s.psCrc n ≠ s.rdn .est (R.EST.PS_REF n)) →
     (s.fw.trial = false → ∃ t, exec (.parameterSetScrub dt) s = .next t ∧ t.mode = .out ∧ t.outputsSafe ∧
       t.rdf .sys R.SYS.OUTCAUSE 15 0 = 8) ∧
     (s.fw.trial = true → ∃ t, exec (.parameterSetScrub dt) s = .next t ∧ AfterReset t ∧ Restarted 0x08 Mode.out.code t))

/-- The causes that are none, AON_32K, PFW_N and the diodes (R21, R25, R232, R342, R428, R438, R440, R452). The model's own
choices in it: log entries 2 and 20. -/
def Obligations.SupervisionCompletes : Prop :=
  (∀ dt off s, exec (.uncorrectableEccError dt (.strongbox off)) s = .next ((s.elapse dt).sbxDamage off)) ∧
  (∀ dt g k s, exec (.uncorrectableEccError dt (.waybill g k)) s = .next ((s.elapse dt).wayDamage g k)) ∧
  (∀ dt s, exec (.vioBankFault dt 3) s = .next (s.elapse dt)) ∧
  (∀ dt pad s, s.mode.serves = true → ∃ t, exec (.outputLoopbackFailure dt pad false) s = .next t ∧ t.mode = s.mode ∧
    sget 0 t.sys.lbkMis (stageBit pad) = (s.elapse dt).mt ∧
    t.rdn .pwm R.PWM.LBK = (if stageBit pad = 0 then satAdd 32 (s.rdn .pwm R.PWM.LBK) 1 else s.rdn .pwm R.PWM.LBK)) ∧
  (∀ dt s e, e = s.elapse dt → exec (.aon32Loss dt) s = .next { e with sys := { e.sys with aon32Lost := true } }) ∧
  (∀ dt s, s.mode.serves = true ∨ s.mode = .out → ∃ t, exec (.pfwFall dt) s = .next t ∧ t.sys.pfwLow = true ∧
    (t.src 196).pend = true ∧ t.rdb .sys R.PAGE.FLAGS 8 = true ∧ t.mode = s.mode) ∧
  (∀ dt s, ∃ t, exec (.pfwRise dt) s = .next t ∧ t.sys.pfwLow = false ∧ t.sys.pfwHold = false ∧ t.mode = s.mode) ∧
  (∀ dt d r s, s.mode ≠ .reset → s.mode ≠ .thermal → 8000 ≤ r → ∃ t, exec (.diodeOverLimit dt d r) s = .next t ∧
    t.mode = .thermal ∧ t.outputsSafe ∧ t.sys.prior = s.mode.code ∧ t.sbx.lockedQ = [] ∧ t.sbx.rollQ = [] ∧
    t.mram.thm.diode = d.val ∧ t.mram.thm.reading = r)

/-! ### Roles and the drive -/

/-- What is the same for every relay (R302 to R304): the module that takes ACTIVE wants the drive, no longer counts
itself in a double fault, and the relay is counted by kind. -/
def TookOver (kind : Nat) (s t : State) : Prop :=
  t.mode = .active ∧ t.tdm.driveWanted = true ∧ t.tdm.relayKind = kind ∧ t.eth.announce = 3 ∧
    t.sys.driveEn = s.sys.driveEn ∧
    t.rdn .tdm (R.TDM.RELAYP + 4 * (kind - 1)) = satAdd 32 (s.rdn .tdm (R.TDM.RELAYP + 4 * (kind - 1))) 1

/-- Role formation (R439): what a READY module with an armed signature does for each value of SYS.CFG.FORM, the wait of
module B, and a join tried again. The model's own choices in it: log entries 2, 42 and 81. -/
def Obligations.RoleFormationCompletes : Prop :=
  (∀ dt s e, e = s.elapse dt → s.mode = .ready → s.armed = true → s.form = 1 → s.tandemed = false →
    ∃ t, exec (.roleFormation dt) s = .next t ∧ t.mode = .active ∧ t.tdm.driveWanted = true ∧ t.eth.announce = 3 ∧
      t.sys.driveEn = e.sys.driveEn) ∧
  (∀ dt s, s.mode = .ready → s.armed = true → s.form = 1 → s.tandemed = true → s.tdm.peer.heard = true →
    s.tdm.silent = false → s.tdm.peer.state = 4 → s.tdm.joining = false →
    ∃ t, exec (.roleFormation dt) s = .next t ∧ t.mode = .ready ∧ t.tdm.joining = true ∧ t.tdm.limAdopted = true ∧
      t.tdm.repairOut = true ∧ t.tdm.repairFull = true ∧ t.mram.limCrc = s.tdm.peer.limCrc) ∧
  (∀ dt s, s.mode = .ready → s.armed = true → s.form = 2 →
    ∃ t, exec (.roleFormation dt) s = .next t ∧ t.mode = .witnessOnly ∧ t.est.due = none ∧ t.eth.announce = 0) ∧
  (∀ dt s e, e = s.elapse dt → s.mode = .ready → s.armed = true → s.form = 1 → s.tandemed = true →
    (s.tdm.peer.heard = true → s.tdm.silent = false → s.tdm.peer.state ≠ 4) → (s.posB = true → s.sys.formWaited = true) →
    exec (.roleFormation dt) s = .next e.acquire) ∧
  (∀ dt s, s.mode ≠ .ready ∨ s.armed = false ∨ s.form = 0 → exec (.roleFormation dt) s = .next (s.elapse dt)) ∧
  (∀ dt s e, e = s.elapse dt → s.mode = .ready → s.posB = true → s.sys.readyMt + 10000000000 ≤ e.mt →
    exec (.formationWaitExpiry dt) s = .next ({ e with sys := { e.sys with formWaited := true } }).formRole) ∧
  (∀ dt s e, e = s.elapse dt → s.mode = .ready → s.form = 1 → s.tdm.joining = false → s.tdm.joinMt + 1000000000 ≤ e.mt →
    exec (.formationJoinRetry dt) s = .next e.formRole) ∧
  (∀ dt s e, e = s.elapse dt → s.mode = .ready → s.armed = true → s.form = 1 → s.tandemed = true →
    s.tdm.peer.heard = true → s.tdm.silent = false → s.tdm.peer.state = 4 → s.tdm.joining = false →
    s.tdm.joinMt + 1000000000 ≤ e.mt → ∃ t, exec (.formationJoinRetry dt) s = .next t ∧ t.mode = .ready ∧
      t.tdm.joining = true ∧ t.tdm.repairOut = true ∧ t.tdm.repairFull = true ∧ t.mram.limCrc = s.tdm.peer.limCrc) ∧
  (∀ dt s e, e = s.elapse dt → s.mode ≠ .ready ∨ s.form ≠ 1 ∨ s.tdm.joining = true ∨
    e.mt < s.tdm.joinMt + 1000000000 → exec (.formationJoinRetry dt) s = .next e)

/-- The drive interlock (R292, R302): DRIVE_EN rises only in ACTIVE, with the drive wanted and due, at a TB0 period boundary
or within 120 ns of a planned relay, with PEER_DRIVE_EN low for 40 ns, and with a lease or a peer that is not ACTIVE;
PEER_DRIVE_EN high while DRIVE_EN is high drops it and counts the drop. The model's own choices in it: log entries 2 and 42.
-/
def Obligations.DriveInterlockCompletes : Prop :=
  (∀ dt low s e, e = s.elapse dt → s.mode = .active → s.tdm.fenced = false → s.tdm.driveWanted = true →
    s.tdm.driveFrom ≤ e.mt → e.tb0Boundary = true ∨ (s.tdm.relayKind = 1 ∧ e.mt ≤ s.tdm.driveFrom + 120) →
    s.tandemed = false ∨ (40 ≤ low ∧ 40 ≤ e.mt) →
    s.tandemed = false ∨ s.tdm.held = true ∨ (s.tdm.peer.heard = true ∧ s.tdm.silent = false ∧ s.tdm.peer.state ≠ 4) ∨
      s.tdm.relayKind ≠ 0 →
    ∃ t, exec (.driveEnRaise ⟨dt, low⟩) s = .next t ∧ t.sys.driveEn = true ∧ t.tdm.driveWanted = false ∧
      t.tdm.lastDrive = some e.mt ∧ t.mode = .active ∧ t.mt = e.mt) ∧
  (∀ dt low s e, e = s.elapse dt → s.mode ≠ .active ∨ s.tdm.fenced = true ∨ s.tdm.driveWanted = false ∨
    (s.tandemed = true ∧ low < 40) ∨ (e.tb0Boundary = false ∧ s.tdm.relayKind ≠ 1) →
    exec (.driveEnRaise ⟨dt, low⟩) s = .next (e.readPeerDrive low)) ∧
  (∀ dt s e, e = s.elapse dt → s.tandemed = true → e.sys.driveEn = true → ∃ t, exec (.peerDriveEnHigh dt) s = .next t ∧
    t.sys.driveEn = false ∧ t.tdm.peerDriveEn = true ∧ t.tdm.driveWanted = false ∧ t.mode = s.mode ∧
    t.rdn .tdm R.TDM.ILKERR = satAdd 32 (s.rdn .tdm R.TDM.ILKERR) 1) ∧
  (∀ dt s e, e = s.elapse dt → s.tandemed = false ∨ e.sys.driveEn = false →
    exec (.peerDriveEnHigh dt) s = .next { e with tdm := { e.tdm with peerDriveEn := true } })

/-- Relays (R110, R302 to R304): the planned switch of both modules at the start of its TB0 period, the abdication of the
active as the standby sees it, and the grant that makes a standby with a silent peer active. An active without both clock
groups locked yields without taking STANDBY. The model's own choices in it: log entries 2, 19, 42 and 103. -/
def Obligations.RelaysComplete : Prop :=
  (∀ dt s e, e = s.elapse dt → s.tdm.relayAt ≠ 0 → e.mt = e.tb0Start s.tdm.relayAt → s.mode = .active → s.lockBits = 3 →
    ∃ t, exec (.relaySwitch dt) s = .next t ∧ t.mode = .standby ∧
      t.sys.driveEn = false ∧ t.tdm.held = false ∧ t.tdm.joined = true ∧ t.tdm.relayAt = 0 ∧
      t.tdm.acceptUntil = s.tick ∧ t.time.st = 4 ∧
      t.rdn .tdm R.TDM.RELAYP = satAdd 32 (s.rdn .tdm R.TDM.RELAYP) 1) ∧
  (∀ dt s e, e = s.elapse dt → s.tdm.relayAt ≠ 0 → e.mt = e.tb0Start s.tdm.relayAt → s.mode = .active → s.lockBits ≠ 3 →
    ∃ t, exec (.relaySwitch dt) s = .next t ∧ t.mode = .active ∧ t.sys.driveEn = false ∧ t.tdm.held = false ∧
      t.tdm.driveWanted = false ∧ t.tdm.relayAt = 0) ∧
  (∀ dt s e, e = s.elapse dt → s.tdm.relayAt ≠ 0 → e.mt = e.tb0Start s.tdm.relayAt → s.mode = .standby →
    ∃ t, exec (.relaySwitch dt) s = .next t ∧ TookOver 1 e t ∧ t.tdm.relayAt = 0 ∧ t.tdm.joined = false) ∧
  (∀ dt s e, e = s.elapse dt → s.tdm.relayAt = 0 ∨ e.mt ≠ e.tb0Start s.tdm.relayAt → exec (.relaySwitch dt) s = .next e) ∧
  (∀ dt f bytes s e, e = (s.elapse dt).takeFrame 0x0A f bytes → e.1 = true → s.mode = .standby →
    leAt bytes 0 8 = s.pairId → s.tdm.peerAlive = false → s.tdm.peerDriveEn = false →
    ∃ t, exec (.abdicate dt f bytes) s = .next t ∧ TookOver 2 e.2 t ∧ t.tdm.relayCause = leAt bytes 8 2) ∧
  (∀ dt f bytes s e, e = (s.elapse dt).takeFrame 0x0A f bytes → e.1 = true → s.mode = .standby →
    leAt bytes 0 8 = s.pairId → s.tdm.peerAlive = true ∨ s.tdm.peerDriveEn = true →
    exec (.abdicate dt f bytes) s = .next { e.2 with tdm := { e.2.tdm with
      abdMt := some e.2.mt
      abdAlive := !s.tdm.peerAlive
      abdCause := leAt bytes 8 2
      term := max s.tdm.term (leAt bytes 0x0C 4) } }) ∧
  (∀ dt s e m, e = s.elapse dt → s.tandemed = true → s.mode = .standby → s.tdm.abdMt = some m → e.mt ≤ m + 10000 →
    ∃ t, exec (.peerAliveLow dt true) s = .next t ∧ TookOver 2 e t ∧ t.tdm.peerAlive = false ∧
      t.tdm.peerDriveEn = false) ∧
  (∀ dt b s e, e = s.elapse dt → s.tandemed = false ∨ s.tdm.abdMt = none →
    exec (.peerAliveLow dt b) s = .next { e with tdm := { e.tdm with
      peerAlive := false
      peerDriveEn := !b
      peerLowSince := if s.tdm.peerDriveEn = true ∧ b = true then e.mt else s.tdm.peerLowSince } }) ∧
  (∀ dt b s e m, e = s.elapse dt → s.tandemed = true → s.mode ≠ .standby ∨ b = false → s.tdm.abdMt = some m →
    e.mt ≤ m + 10000 ∨ s.tdm.abdAlive = true →
    exec (.peerAliveLow dt b) s = .next { e with tdm := { e.tdm with
      peerAlive := false
      peerDriveEn := !b
      abdAlive := true
      peerLowSince := if s.tdm.peerDriveEn = true ∧ b = true then e.mt else s.tdm.peerLowSince } }) ∧
  (∀ dt b s e m, e = s.elapse dt → s.tandemed = true → s.tdm.abdMt = some m → m + 10000 < e.mt → s.tdm.abdAlive = false →
    exec (.peerAliveLow dt b) s = .next { e with tdm := { e.tdm with
      peerAlive := false
      peerDriveEn := !b
      abdMt := none
      peerLowSince := if s.tdm.peerDriveEn = true ∧ b = true then e.mt else s.tdm.peerLowSince } }) ∧
  (∀ dt bytes s e, e = s.elapse dt → e.replyEntry 0x82 bytes = some s.tdm.widx → e.askedKind bytes = 3 →
    s.mode = .standby → s.tdm.silent = true →
    ∃ t, exec (.leaseGranted dt bytes) s = .next t ∧ TookOver 3 e t ∧ t.tdm.held = true ∧
      t.tdm.viewEnd = leAt bytes 0x18 8 + tLease - tGuard ∧ t.tdm.witLost = false)

/-! ### The tandem link -/

/-- The tandem frame a command brings: the time before it, its type, its head and its payload (R277). -/
def frameOf : Instr → Option (Nat × Nat × TandemHead × List Byte)
  | .heartbeat dt f b => some (dt, 0x01, f, b)
  | .mirror dt f b => some (dt, 0x02, f, b)
  | .stageDigest dt f b => some (dt, 0x03, f, b)
  | .loopDigest dt f b => some (dt, 0x04, f, b)
  | .repairReq dt f b => some (dt, 0x05, f, b)
  | .repairData dt f b => some (dt, 0x06, f, b)
  | .relayedCompartment dt f b => some (dt, 0x07, f, b)
  | .indexLock dt f b _ => some (dt, 0x08, f, b)
  | .health dt f b => some (dt, 0x09, f, b)
  | .abdicate dt f b => some (dt, 0x0A, f, b)
  | .tandemService dt f b => some (dt, 0x0B, f, b)
  | .verdict dt f b => some (dt, 0x0C, f, b)
  | _ => none

/-- A tandem frame that is not accepted (R276 to R278): without a tandem page it changes nothing; one whose CHECK is wrong
changes no more than TDM.CRCERR, which it counts, and TDM.FLAGS for a heartbeat; a second copy, and one below the window of
4,096, moves no more than the times of its link. A frame whose CHECK is right and whose LSEQ is new and within the window is
accepted (R278): `takeFrame` answers true, remembers the LSEQ and keeps the link alive. The model's own choices in it: log
entry 2. -/
def Obligations.TandemFramesAreJudged : Prop :=
  (∀ c dt ty f b s e, frameOf c = some (dt, ty, f, b) → e = s.elapse dt →
     (s.tandemed = false → exec c s = .next e) ∧
     (s.tandemed = true → f.check.toNat ≠ frameCheck s.pairId ty f.lseq.toNat b → ty ≠ 1 →
       exec c s = .next (e.inc .tdm R.TDM.CRCERR)) ∧
     (s.tandemed = true → f.check.toNat ≠ frameCheck s.pairId ty f.lseq.toNat b → ty = 1 →
       exec c s = .next ((e.inc .tdm R.TDM.CRCERR).flag .tdm 19)) ∧
     (s.tandemed = true → f.check.toNat = frameCheck s.pairId ty f.lseq.toNat b →
       f.lseq.toNat + 4096 < s.tdm.lseqHigh ∨ f.lseq.toNat ∈ s.tdm.lseqSeen →
       exec c s = .next (e.setLink f.lane.val { e.link f.lane.val with
         runMt := if (e.link f.lane.val).lastMt + tSilent < e.mt then e.mt else (e.link f.lane.val).runMt
         lastMt := e.mt }))) ∧
  (∀ (ty : Nat) (f : TandemHead) (b : List Byte) (s : State), s.tandemed = true →
     f.check.toNat = frameCheck s.pairId ty f.lseq.toNat b → s.tdm.lseqHigh ≤ f.lseq.toNat + 4096 →
     f.lseq.toNat ∉ s.tdm.lseqSeen →
     ∃ t, s.takeFrame ty f b = (true, t) ∧ f.lseq.toNat ∈ t.tdm.lseqSeen ∧
       t.tdm.lseqHigh = max f.lseq.toNat s.tdm.lseqHigh ∧ (t.link f.lane.val).lastMt = s.mt ∧
       { t with tdm := s.tdm } = s)

/-- The links and the heartbeat (R56, R278, R279, R294): heartbeats go out at multiples of 20 µs; a heard one stands as the
peer's state and ends its silence, and a standby slews MT by it, by 200 ppm at most; the times of R309 take a link down, up,
and the peer into silence. Health, service and the mirrored servo state (R278, R282, R290). The model's own choices in it:
log entries 2, 20, 31, 67 and 109. -/
def Obligations.HeartbeatsHealthAndServiceComplete : Prop :=
  ((∀ dt s e, e = s.elapse dt → s.mode.speaks = true → s.tandemed = true → e.mt % 20000 = 0 → s.tdm.beatMt ≠ e.mt →
     ∃ t, exec (.heartbeatSend dt) s = .next t ∧
       t.sent = .tandem 0x01 (s.tdm.lseqSent + 1) e.beatBytes :: s.sent ∧ t.tdm.lseqSent = s.tdm.lseqSent + 1 ∧
       t.tdm.beatMt = e.mt ∧ t.safe.tpoSince = e.tpDriving) ∧
   (∀ dt s e, e = s.elapse dt → s.mode.speaks = false ∨ s.tandemed = false ∨ e.mt % 20000 ≠ 0 ∨ s.tdm.beatMt = e.mt →
     exec (.heartbeatSend dt) s = .next e) ∧
   (∀ dt f b s e x, e = s.elapse dt → e.takeFrame 0x01 f b = (true, x) → (byteAt b 1).testBit 0 ≠ s.posB →
     s.tdm.joining = false →
     ∃ t, exec (.heartbeat dt f b) s = .next t ∧ t.tdm.peer = parseBeat b e.mt ∧ t.tdm.silent = false ∧
       t.tdm.term = max s.tdm.term (leAt b 0x10 4) ∧ t.mode = s.mode ∧
       (s.mode ≠ .standby → t.mt = e.mt ∧ t.sys.driveEn = e.sys.driveEn) ∧
       (s.mode = .standby → s.mt ≤ t.mt ∧ t.mt ≤ e.mt + (e.mt - s.tdm.peer.heardMt) / 5000 ∧
         e.mt ≤ t.mt + (e.mt - s.tdm.peer.heardMt) / 5000 ∧ t.tick = s.tick)) ∧
   (∀ dt f b s x, (s.elapse dt).takeFrame 0x01 f b = (true, x) → (byteAt b 1).testBit 0 = s.posB →
     exec (.heartbeat dt f b) s = .next ((x.inc .tdm R.TDM.CRCERR).flag .tdm 19)) ∧
   (∀ dt s e, e = s.elapse dt → s.tandemed = true → s.tdm.silent = false → s.tdm.peer.heardMt + tSilent ≤ e.mt →
     ∃ t, exec (.peerSilent dt) s = .next t ∧ t.tdm.silent = true ∧ t.rdb .tdm R.PAGE.FLAGS 9 = true ∧ t.mode = s.mode ∧
       (s.mode = .standby → s.tdm.widx = s.tdm.widxProposed → s.tdm.witLost = true → t.tdm.double = true)) ∧
   (∀ dt (l : Fin 2) s e, e = s.elapse dt → s.tandemed = true → (s.link l.val).down = false →
     (s.link l.val).lastMt + tSilent ≤ e.mt → e.mt < (s.link (1 - l.val)).lastMt + tSilent →
     ∃ t, exec (.linkDown dt l) s = .next t ∧ t.link l.val = { s.link l.val with up := false, down := true } ∧
       t.rdb .tdm R.PAGE.FLAGS 8 = true ∧
       t.rdn .tdm (R.TDM.LINKDN0 + 4 * l.val) = satAdd 32 (s.rdn .tdm (R.TDM.LINKDN0 + 4 * l.val)) 1) ∧
   (∀ dt (l : Fin 2) s e, e = s.elapse dt → s.tandemed = true → (s.link l.val).up = false →
     (s.link l.val).runMt + 1000000 ≤ e.mt → e.mt < (s.link l.val).lastMt + tSilent →
     exec (.linkUp dt l) s = .next (e.setLink l.val { s.link l.val with up := true, down := false })) ∧
   (∀ dt s e, e = s.elapse dt → s.tdm.ilkRun = 0 → s.tdm.ilkAgreeMt + 1000000000 ≤ e.mt →
     s.rdb .tdm R.PAGE.FLAGS 15 = true →
     ∃ t, exec (.interlockAgreement dt) s = .next t ∧ t.rdb .tdm R.PAGE.FLAGS 15 = false ∧ t.tdm = s.tdm)) ∧
  ((∀ dt s e, e = s.elapse dt → s.mode.isRole = true → e.mt % 1000000000 = 0 → s.tdm.healthMt ≠ e.mt →
     exec (.healthSend dt) s = .next (e.setTdm (fun t => { t with healthMt := e.mt })).sendHealth) ∧
   (∀ dt s e, e = s.elapse dt → s.mode.isRole = false ∨ e.mt % 1000000000 ≠ 0 ∨ s.tdm.healthMt = e.mt →
     exec (.healthSend dt) s = .next e) ∧
   (∀ dt s, s.mode.isRole = true → s.pageServed .tdm = true → exec (.healthNow dt) s = .next (s.elapse dt).sendHealth) ∧
   (∀ (s : State) (w : Nat), w < 16 → s.sendHealth.rdn .tdm (R.TDM.HEALTH w) = leAt s.healthBytes (4 * w) 4) ∧
   (∀ dt f b s x, (s.elapse dt).takeFrame 0x09 f b = (true, x) → b.length = 64 → crc32c (b.take 60) = leAt b 60 4 →
     ∃ t, exec (.health dt f b) s = .next t ∧ t.tdm.peerHealthMt = some (s.elapse dt).mt ∧
       ∀ w, w < 16 → t.rdn .tdm (R.TDM.PHEALTH w) = leAt b (4 * w) 4) ∧
   (∀ dt s e, e = s.elapse dt → s.tandemed = true → s.tdm.peer.heard = true → s.tdm.silent = false →
     4 ≤ s.tdm.peer.state → s.tdm.peer.state ≤ 6 → (∀ m, s.tdm.peerHealthMt = some m → m + 3000000000 ≤ e.mt) →
     s.tdm.peerRoleMt + 3000000000 ≤ e.mt →
     exec (.healthStale dt) s = .next (e.flag .tdm 17)) ∧
   (∀ dt f b s x st ans y, (s.elapse dt).takeFrame 0x0B f b = (true, x) → byteAt b 0 = 1 → byteAt b 1 = 120 ∨ byteAt b 1 = 121 →
     x.spiFrame (b.drop 8) = (st, ans, y) →
     exec (.tandemService dt f b) s = .next (y.sendFrame 0x0B ([2, BitVec.ofNat 8 (byteAt b 1 + 2)] ++ leBytes 2 st ++
       slice b 4 4 ++ ans))) ∧
   (∀ dt f b s x, (s.elapse dt).takeFrame 0x0B f b = (true, x) → byteAt b 0 = 2 → byteAt b 1 = 122 ∨ byteAt b 1 = 123 →
     exec (.tandemService dt f b) s = .next (x.ringPush (byteAt b 1) 0 b)) ∧
   (∀ dt s e q, e = s.elapse dt → q = max s.tdm.mseqOut s.tdm.mseqIn + 1 → s.mode = .active → s.tandemed = true →
     s.tdm.sessionMt + 1000000000 ≤ e.mt →
     ∃ t, exec (.networkSessionStateMirror dt) s = .next t ∧ t.tdm.mseqOut = q ∧ t.tdm.sessionMt = e.mt ∧
       t.sent = .tandem 0x02 (s.tdm.lseqSent + 1) (EvItem.bytes ⟨q, 0x0007, e.tick + 2, e.timeItem⟩) :: s.sent) ∧
   (∀ dt s e, e = s.elapse dt → s.mode ≠ .active ∨ s.tandemed = false ∨ e.mt < s.tdm.sessionMt + 1000000000 →
     exec (.networkSessionStateMirror dt) s = .next e))

/-- The mirror and the digests (R282 to R286): the items of an accepted frame are taken one by one; a gap asks for a full
repair and is counted; a peer's digest stands until the own one is compared with it. The model's own choices in it: log
entries 2, 36, 93 and 106. -/
def Obligations.MirrorAndDigestsComplete : Prop :=
  (∀ dt f b s x, (s.elapse dt).takeFrame 0x02 f b = (true, x) →
    exec (.mirror dt f b) s = .next ((parseItems b.length b).foldl State.takeItem x)) ∧
  (∀ (it : EvItem) (s : State), it.mseq ≤ s.seqBase ∨ it.mseq ∈ s.tdm.mseqAhead → s.takeItem it = s) ∧
  (∀ (it : EvItem) (s : State), s.mode = .standby ∨ s.tdm.joining = true → it.mseq = s.seqBase + 1 → s.tdm.mseqAhead = [] →
    s.tick < it.effect → it.kind ≠ 2 →
    s.takeItem it = { s with
      tdm := { s.tdm with
        mseqIn := it.mseq
        gapMt := none }
      events := s.events ++ [it] }) ∧
  (∀ dt s e, e = s.elapse dt → s.mode ≠ .standby ∨ s.tdm.gapMt = none → exec (.mirrorGap dt) s = .next e) ∧
  (∀ dt s e m, e = s.elapse dt → s.mode = .standby → s.tdm.gapMt = some m → m + 100000 ≤ e.mt →
    ∃ t, exec (.mirrorGap dt) s = .next t ∧ t.tdm.repairOut = true ∧ t.tdm.repairFull = true ∧
      t.tdm.gapMt = none ∧ t.tdm.gapStage = e.stage :: s.tdm.gapStage.take 600 ∧ t.rdb .tdm R.PAGE.FLAGS 18 = true ∧
      t.rdn .tdm R.TDM.MIRGAPS = satAdd 32 (s.rdn .tdm R.TDM.MIRGAPS) 1 ∧ t.tdm.unexpl = s.tdm.unexpl) ∧
  (∀ dt f b s x, (s.elapse dt).takeFrame 0x03 f b = (true, x) → s.mode = .standby → s.tdm.ownDigest.length ≠ 3676 →
    exec (.stageDigest dt f b) s = .next { x with tdm := { x.tdm with peerDigest := b } }) ∧
  (∀ dt f b s x, (s.elapse dt).takeFrame 0x03 f b = (true, x) → s.mode = .standby → b = s.tdm.ownDigest →
    b.length = 3676 → 0 < s.rdf .tdm R.TDM.CFG 15 8 → s.tdm.unexpl = [] →
    exec (.stageDigest dt f b) s = .next { x with tdm := { x.tdm with peerDigest := [] } }) ∧
  (∀ dt f b s x, (s.elapse dt).takeFrame 0x04 f b = (true, x) → s.mode = .standby → s.tdm.ownLoop.length ≠ 48 →
    exec (.loopDigest dt f b) s = .next { x with tdm := { x.tdm with peerLoop := b } }) ∧
  (∀ dt f b s x, (s.elapse dt).takeFrame 0x04 f b = (true, x) → s.mode = .standby → b = s.tdm.ownLoop →
    b.length = 48 → 0 < s.rdf .tdm R.TDM.CFG 15 8 → s.tdm.unexpl = [] →
    exec (.loopDigest dt f b) s = .next { x with tdm := { x.tdm with peerLoop := [] } })

/-- Repair (R287): what the active notes of a request, the parts of an answer, and a full repair the host asks for. The
model's own choices in it: log entries 2, 11, 46 and 108. -/
def Obligations.RepairCompletes : Prop :=
  (∀ dt f b s x, (s.elapse dt).takeFrame 0x05 f b = (true, x) → s.mode = .active →
    ∃ t, exec (.repairReq dt f b) s = .next t ∧ t.tdm.askReq = leAt b 0 4 ∧ t.tdm.askPart = 0 ∧
      (byteAt b 4 = 2 → t.tdm.askFull = true ∧ t.tdm.askChannels = [] ∧ t.tdm.askSlots = List.range 8) ∧
      (byteAt b 4 ≠ 2 → t.tdm.askFull = false ∧
        t.tdm.askChannels = (List.range (leAt b 6 2)).map (fun k => leAt b (16 + 2 * k) 2) ∧
        ∀ n, n ∈ t.tdm.askSlots ↔ n < 8 ∧ (byteAt b 5).testBit n = true)) ∧
  (∀ dt f b s x all p, (s.elapse dt).takeFrame 0x06 f b = (true, x) → s.tdm.repairOut = true →
    leAt b 0 4 = s.tdm.repairReq → leAt b 4 2 = s.tdm.repairPart → all = s.tdm.repairBytes ++ b.drop 8 →
    p = parseBlocks all.length all →
    ∃ y, y = p.1.foldl State.installBlock { x with tdm := { x.tdm with
        repairPart := s.tdm.repairPart + 1
        repairBytes := p.2 } } ∧
      exec (.repairData dt f b) s = .next (if byteAt b 6 = 1 then y.repairDone else y)) ∧
  (∀ dt f b s x, (s.elapse dt).takeFrame 0x06 f b = (true, x) → s.tdm.repairOut = false ∨ leAt b 0 4 ≠ s.tdm.repairReq ∨
    leAt b 4 2 ≠ s.tdm.repairPart → exec (.repairData dt f b) s = .next x) ∧
  (∀ s : State, s.tdm.joining = false →
    s.repairDone.tdm.repairOut = false ∧ s.repairDone.tdm.repairBytes = [] ∧ s.repairDone.tdm.repairChans = [] ∧ s.repairDone.rdb .tdm R.PAGE.FLAGS 11 = true ∧
      s.repairDone.rdn .tdm R.TDM.REPAIRS = satAdd 32 (s.rdn .tdm R.TDM.REPAIRS) 1 ∧
      s.repairDone.tdm.fullRepaired = (s.tdm.fullRepaired || s.tdm.repairFull)) ∧
  (∀ dt s, s.pageServed .tdm = true → s.mode = .standby → s.tandemed = true →
    ∃ t, exec (.repairAll dt) s = .next t ∧ t.tdm.repairOut = true ∧ t.tdm.repairFull = true ∧
      t.tdm.repairReq = s.tdm.repairReq + 1) ∧
  (∀ dt s e, e = s.elapse dt → s.tdm.joining = true → s.tdm.joinMt + 2000000000 ≤ e.mt → s.tdm.joinFor = none →
    ∃ t, exec (.joinTimeout dt) s = .next t ∧ t.tdm.joining = false ∧ t.mode = s.mode ∧
      t.rdb .sys R.PAGE.FLAGS 10 = true ∧ t.rdn .sys R.SYS.WAITTO = satAdd 32 (s.rdn .sys R.SYS.WAITTO) 1) ∧
  (∀ dt s e m, e = s.elapse dt → s.tdm.joining = true → s.tdm.joinMt + 2000000000 ≤ e.mt → s.tdm.joinFor = some m →
    exec (.joinTimeout dt) s = .next (e.dropJoin.waitBound.decideCommand m true))

/-! ### Authenticated commands -/

/-- The PARAMS of LIMIT_WRITE and of KEY_LOAD (R398). -/
def limitParams (c : LimitChange) (crc : Word) : List Byte :=
  [c.kind, 0] ++ leBytes 2 c.first.toNat ++ leBytes 2 c.last.toNat ++ zeros 2 ++ (c.part ++ zeros 24).take 24 ++
    leBytes 4 crc.toNat
def keyParams (t : Byte) (perm : BitVec 16) (w : List Byte) : List Byte :=
  [t, 0] ++ leBytes 2 perm.toNat ++ (w ++ zeros 40).take 40

/-- The command message a command brings, with the time before it and its path (R397, R398); a message of the right form is
no MALFORMED_COMMAND_MESSAGE. -/
def messageOf : Instr → Option (Nat × CmdPath × List Byte)
  | .contactorRelease dt p h g => some (dt, p, cmdMessage 0x01 h (leBytes 4 g.toNat))
  | .dispatchEnable dt p h b => some (dt, p, cmdMessage 0x02 h (leBytes 4 (b2n b)))
  | .limitWrite dt p h c crc => some (dt, p, cmdMessage 0x03 h (limitParams c crc))
  | .roleAssign dt p h r => some (dt, p, cmdMessage 0x04 h [r, 0, 0, 0])
  | .plannedRelay dt p h => some (dt, p, cmdMessage 0x05 h [])
  | .strongboxClear dt p h x => some (dt, p, cmdMessage 0x06 h (leBytes 4 x.toNat))
  | .fwActivate dt p h k mt => some (dt, p, cmdMessage 0x07 h ([k, 0, 0, 0] ++ leBytes 8 mt.toNat))
  | .keyLoad dt p h t perm w => some (dt, p, cmdMessage 0x08 h (keyParams t perm w))
  | .configSignatureCommit dt p h sig => some (dt, p, cmdMessage 0x09 h (leBytes 4 sig.toNat))
  | .calibrationCycle dt p h hours => some (dt, p, cmdMessage 0x0A h (leBytes 4 hours.toNat))
  | .malformedCommandMessage dt p b => if cmdFormOk b then none else some (dt, p, b)
  | _ => none

/-- The state in which a message is judged: the mailbox is busy with it (R402). -/
def atJudgement (s : State) (path : CmdPath) : State :=
  if path = .mailbox then (s.wrb .auth R.AUTH.MBOX_STAT 0 true).wrb .auth R.AUTH.MBOX_STAT 1 false else s

/-- The status of the first check of R399 that a message fails; none for a message that is accepted. -/
def firstFailure (s : State) (m : List Byte) : Option Nat :=
  let k := s.keySlot (byteAt m 4)
  let pair := cmdPairScope (byteAt m 1)
  if cmdFormOk m = false then some 0x0104
  else if leAt m 8 8 ≠ (if pair then s.pairId else Config.modId.toNat) then some 0x0102
  else if k.key = [] ∨ k.perm.testBit (byteAt m 1) = false then some 0x0106
  else if (hmac256 k.key (m.take (m.length - 16))).take 16 ≠ m.drop (m.length - 16) then some 0x0100
  else if leAt m 0x10 8 ≤ s.lastCounter (byteAt m 4) then some 0x0101
  else if s.sys.pfwLow = true then some 0x0107
  else if pair = true ∧ s.acceptsEvents = false then some 0x0103
  else if refuseAtJudgement (s.commitCounter (byteAt m 4) (leAt m 0x10 8)) m = true then some 0x0105
  else none

/-- The completion record of a judged message (R403). -/
def completionOf (q : Nat) (path : CmdPath) (m : List Byte) (status effect mt : Nat) (decided : Bool) : Completion :=
  ⟨q, path, byteAt m 1, byteAt m 4, leAt m 0x10 8, status, effect, mt, decided, false⟩

/-- A command message that fails a check of R399 is rejected with the status of the first one: counted, flagged, and
answered with a completion record that carries the status; the counter is consumed by the statuses 0x0103 and 0x0105
alone, and no event input is accepted. A command message that passes every check of R399 is accepted as an event input
for the tick after next (R67), and its counter is consumed (R400); nothing but the queues, the counter and the mirror
changes before its effect tick. Commands that are not taken (R400, R402): in RESET, BOOT, OUT and THERMAL_SHUTDOWN, by
a path that is not open, and a well-formed message under MALFORMED_COMMAND_MESSAGE; a message to a busy mailbox is
counted. The model's own choices in it: log entry 2. -/
def Obligations.CommandsAreJudged : Prop :=
  (∀ c dt path m s e st, messageOf c = some (dt, path, m) → e = atJudgement (s.elapse dt) path → s.mode.speaks = true →
     s.pathOpen path m = true → firstFailure e m = some st →
     ∃ t, exec c s = .next t ∧ t.events = s.events ∧ t.mode = s.mode ∧ t.sys.driveEn = e.sys.driveEn ∧
       t.completions = s.completions ++ [completionOf 0 path m st 0 e.mt true] ∧
       t.rdn .auth R.AUTH.REJECTS = satAdd 32 (s.rdn .auth R.AUTH.REJECTS) 1 ∧ t.rdb .auth R.PAGE.FLAGS 9 = true ∧
       (st ≠ 0x0103 → st ≠ 0x0105 → t.mram.keys = s.mram.keys) ∧
       (st = 0x0103 ∨ st = 0x0105 → (t.keySlot (byteAt m 4)).last.value = leAt m 0x10 8)) ∧
  (∀ c dt path m s e, messageOf c = some (dt, path, m) → e = atJudgement (s.elapse dt) path → s.mode.speaks = true →
     s.pathOpen path m = true → firstFailure e m = none →
     ∃ t q, exec c s = .next t ∧ q = (if e.acceptsEvents then max s.tdm.mseqOut s.tdm.mseqIn + 1 else 0) ∧
       t.events = s.events ++ [⟨q, 2, e.tick + 2, [BitVec.ofNat 8 (cmdPathCode path), 0, 0, 0] ++ m⟩] ∧
       t.completions = s.completions ++ [completionOf q path m 0 (e.tick + 2) e.mt false] ∧
       (t.keySlot (byteAt m 4)).last.value = leAt m 0x10 8 ∧ t.regs = e.regs ∧ t.sys = e.sys ∧ t.prot = s.prot ∧
       t.loops = s.loops ∧ t.est = s.est ∧ (q = 0 → t.tdm = s.tdm ∧ t.sent = s.sent)) ∧
  ((∀ c dt path m s e, messageOf c = some (dt, path, m) → e = s.elapse dt → s.mode.speaks = false →
     exec c s = .next e) ∧
   (∀ c dt path m s e, messageOf c = some (dt, path, m) → e = s.elapse dt → s.mode.speaks = true →
     s.pathOpen path m = false → path ≠ .mailbox → exec c s = .next e) ∧
   (∀ c dt m s e, messageOf c = some (dt, .mailbox, m) → e = s.elapse dt → s.mode.speaks = true →
     s.rdb .auth R.AUTH.MBOX_STAT 0 = true → exec c s = .next (e.inc .auth R.AUTH.MBOXREJ)) ∧
   (∀ dt path m s, cmdFormOk m = true → exec (.malformedCommandMessage dt path m) s = .next (s.elapse dt)))

/-- Event inputs at their effect tick (R67): the one with the earliest effect tick takes effect first, and with none due
nothing changes; then the release of completion records (R403), the mailbox's among them. The model's own choices in it: log
entry 2. -/
def Obligations.EventInputsTakeEffectInOrder : Prop :=
  (∀ s : State, (∀ x ∈ s.events, s.tick < x.effect) → exec .eventInputEffect s = .next s) ∧
  (∀ (s : State) x, s.dueItem = some x → x ∈ s.events ∧ x.effect ≤ s.tick ∧ ∀ y ∈ s.events, y.effect ≤ s.tick → x.effect ≤ y.effect) ∧
  (∀ (s : State) x, s.dueItem = some x → exec .eventInputEffect s =
    .next ((({ s with events := s.events.erase x }).eventEntry x).applyItem x).dispatchNow) ∧
  (∀ dt s e c, e = s.elapse dt → s.completions.find? e.releasable = some c → c.path = .mailbox →
    ∃ t, exec (.completionRecordRelease dt) s = .next t ∧ t.completions = s.completions.erase c ∧
      t.rdn .auth R.AUTH.MBOX_STAT = c.status % 2 ^ 16 * 65536 + 2 ∧ t.rings = s.rings ∧ t.sent = s.sent ∧
      ∀ w, w < 8 → t.rdn .auth (R.AUTH.MBOX_DATA w) = leAt c.record (4 * w) 4) ∧
  (∀ dt s e c, e = s.elapse dt → s.completions.find? e.releasable = some c →
    exec (.completionRecordRelease dt) s = .next ({ e with completions := s.completions.erase c }.releaseTo c)) ∧
  (∀ dt s e, e = s.elapse dt → (∀ c ∈ s.completions, e.releasable c = false) →
    exec (.completionRecordRelease dt) s = .next e)

/-- What commands do at their effect tick (R18, R41, R163, R225, R241, R245, R302, R339, R406, R415): refused or not,
and the state after. The model's own choices in it: log entries 2, 42, 43, 44, 57, 70 and 74. -/
def Obligations.CommandEffects : Prop :=
  (∀ h (g : BitVec 4) (s : State), (∀ n, n < 4 → g.toNat.testBit n = true → s.rdf .trip (R.TRIP.GRP_CFG n) 1 0 = 2 ∧
      (s.group n = .keeping ∨ (s.mayKeep = true ∧ s.verdict n = false ∧ s.sutClear n = true))) →
    ∃ t, s.commandEffect (cmdMessage 0x01 h (leBytes 4 g.toNat)) = (some false, t) ∧ t.regs = s.regs ∧ t.mode = s.mode ∧
      ∀ n, n < 4 → t.group n = if g.toNat.testBit n then .keeping else s.group n) ∧
  (∀ h n (s : State), n < 4 → s.rdf .trip (R.TRIP.GRP_CFG n) 1 0 ≠ 2 ∨
      (s.group n ≠ .keeping ∧ (s.mayKeep = false ∨ s.verdict n = true ∨ s.sutClear n = false)) →
    s.commandEffect (cmdMessage 0x01 h (leBytes 4 (2 ^ n))) = (some true, (s.inc .trip R.TRIP.RELREJ).flag .trip 12)) ∧
  (∀ h c crc (s : State), c.kind = 0 →
    ∃ t, s.commandEffect (cmdMessage 0x03 h (limitParams c crc)) = (some false, t) ∧
      t.mram.limSeq = s.mram.limSeq + 1 ∧ t.mram.limStr = s.prot.str ∧
      t.mram.limCrc = limCrcOf t.mram.lim t.mram.limStr ∧
      ∀ k, sget {} t.mram.lim k = if c.first.toNat ≤ k ∧ k ≤ c.last.toNat
        then parseLimPart ((c.part ++ zeros 24).take 24) (s.mram.limSeq + 1) else s.limPart k) ∧
  (∀ h c crc (s : State), c.kind = 1 →
    ∃ t, s.commandEffect (cmdMessage 0x03 h (limitParams c crc)) = (some false, t) ∧
      t.mram.limSeq = s.mram.limSeq + 1 ∧ t.mram.limStr = parseLimString ((c.part ++ zeros 24).take 20) ∧
      t.mram.lim = s.prot.lim ∧ t.mram.limCrc = limCrcOf t.mram.lim t.mram.limStr) ∧
  (∀ h (t : Byte) perm w (s : State), 0 < t.toNat → t.toNat ≤ 8 →
    ∃ y, s.commandEffect (cmdMessage 0x08 h (keyParams t perm w)) = (some false, y) ∧
      (∀ j, j ≠ t.toNat → y.keySlot j = s.keySlot j) ∧
      y.keySlot t.toNat = match keyLoadUnwrap s h.slot.toNat (keyParams t perm w) with
        | none => s.keySlot t.toNat
        | some k => { key := if k = zeros 32 then [] else if t.toNat = 8 then k.take 16 else k, perm := if k = zeros 32 then 0 else perm.toNat,
                      last := (s.keySlot t.toNat).last }) ∧
  (∀ h b (s : State), s.commandEffect (cmdMessage 0x02 h (leBytes 4 (b2n b))) =
    (some false, { s with loops := { s.loops with dispOn := b } })) ∧
  (∀ h (s : State), s.mode = .active → (s.tdm.peer.heard = true → s.tdm.silent = false → s.tdm.peer.state ≠ 5) →
    ∃ t, s.commandEffect (cmdMessage 0x04 h [3, 0, 0, 0]) = (some false, t) ∧ t.mode = .ready ∧
      (t.sys.driveEn = true → t.sys.dropAt = some (s.tb0Start (s.tb0Number + 1))) ∧
      t.tdm.driveWanted = false ∧ t.prot.r18 = true ∧ ∀ n, n < 4 → t.group n = .withheld) ∧
  (∀ h (s : State), s.mode = .active → s.tdm.peer.heard = true → s.tdm.silent = false → s.tdm.peer.state = 5 →
    s.commandEffect (cmdMessage 0x04 h [3, 0, 0, 0]) = (some true, s)) ∧
  (∀ h (s : State), s.mode = .standby ∨ s.mode = .witnessOnly →
    ∃ t, s.commandEffect (cmdMessage 0x04 h [3, 0, 0, 0]) = (some false, t) ∧ t.mode = .ready ∧ t.tdm.joining = false) ∧
  (∀ h (s : State) m, m = cmdMessage 0x04 h [5, 0, 0, 0] → s.mode = .ready ∨ s.mode = .witnessOnly → s.armed = true →
    s.tandemed = true → s.tdm.joining = false → s.commandEffect m = (none, s.startJoin (some m))) ∧
  (∀ h (s : State), s.mode = .ready ∨ s.mode = .witnessOnly → s.armed = true →
    ∃ t, s.commandEffect (cmdMessage 0x04 h [4, 0, 0, 0]) = (some false, t) ∧ t.mode = .active ∧ t.tdm.driveWanted = true) ∧
  (∀ h (s : State), s.armed = false →
    s.commandEffect (cmdMessage 0x04 h [4, 0, 0, 0]) = (some true, s) ∧
    s.commandEffect (cmdMessage 0x04 h [5, 0, 0, 0]) = (some true, s)) ∧
  (∀ h (s : State), s.mode = .ready → ∃ t, s.commandEffect (cmdMessage 0x04 h [6, 0, 0, 0]) = (some false, t) ∧
    t.mode = .witnessOnly) ∧
  (∀ h (s : State), s.relayFollows = true ∨ (s.mode = .active ∧ s.relayAllowed = true) →
    s.commandEffect (cmdMessage 0x05 h []) = (some false, { s with tdm := { s.tdm with relayAt := s.relayPeriod } })) ∧
  (∀ h (s : State), s.relayFollows = false → s.mode ≠ .active ∨ s.relayAllowed = false →
    s.commandEffect (cmdMessage 0x05 h []) = (some true, s)) ∧
  (∀ h x (s : State), x < s.sbx.nextSeq → s.mram.sbxCleared.value < x → x < 2 ^ 32 →
    (s.areaRecs .clearLog).length + s.sbx.clears.length < 1024 →
    s.commandEffect (cmdMessage 0x06 h (leBytes 4 x)) = (some false, { s with sbx := { s.sbx with
      clears := s.sbx.clears ++ [(x, h.slot.toNat, h.counter.toNat)] } })) ∧
  (∀ h (k : Byte) (mt : BitVec 64) (s : State),
    ∃ t, s.commandEffect (cmdMessage 0x07 h ([k, 0, 0, 0] ++ leBytes 8 mt.toNat)) = (some false, t) ∧
      t.fw.pending = some (k.toNat, mt.toNat) ∧ t.fwu.deferred = none) ∧
  (∀ h (sig : Word) (s : State), sig.toNat ≠ s.liveSig →
    s.commandEffect (cmdMessage 0x09 h (leBytes 4 sig.toNat)) = (some true, s)) ∧
  (∀ h (sig : Word) (s : State), sig.toNat = s.liveSig →
    ∃ t, s.commandEffect (cmdMessage 0x09 h (leBytes 4 sig.toNat)) = (some false, t) ∧ t.armed = true ∧
      t.rdn .cfgx R.CFGX.SIG_STORED = sig.toNat) ∧
  (∀ h (hours : BitVec 16) (s : State),
    ∃ t, s.commandEffect (cmdMessage 0x0A h (leBytes 4 hours.toNat)) = (some false, t) ∧
      t.rdf .est R.EST.CAL_STAT 1 0 = 1 ∧ t.rd64 .est R.EST.CAL_END_LO R.EST.CAL_END_HI =
        ((s.tick - 2) * 500000 + hours.toNat * 3600000000000) % 2 ^ 64)

/-! ### Pages and their registers -/

/-- The write a command makes: the time before it, the page, the offset and the word. -/
def writeOf : Instr → Option (Nat × Page × Nat × Word)
  | .configWrite dt p o v => some (dt, p, o, v)
  | .flagsClear dt p o v => some (dt, p, o, v)
  | .registerWrite dt p o v => some (dt, p, o, v)
  | _ => none

/-- The offsets of the page header's writable registers: CTRL, FLAGS, FLAG_IE. -/
def headerWrite (o : Nat) : Prop := o = R.PAGE.CTRL ∨ o = R.PAGE.FLAGS ∨ o = R.PAGE.FLAG_IE

/-- The page state machine (R35, R36): the enable check, the block start, DISABLING and its end, and a block fault. The
model's own choices in it: log entry 2. -/
def Obligations.PageStatesComplete : Prop :=
  (∀ dt p v s x, x = ((s.elapse dt).wr p R.PAGE.CTRL v).wrn p R.PAGE.CFG_LIVE (((s.elapse dt).wr p R.PAGE.CTRL v).cfgCrc p) →
    s.pageServed p = true → s.pageState p = .disabled → flg v 0 = true →
    ((s.elapse dt).wr p R.PAGE.CTRL v).cfgCrc p = x.rdn p R.PAGE.CFG_REF → (∀ c, p = .can c → x.fltOk c.val = true) →
    ∃ t, exec (.pageEnable dt p v) s = .next t ∧ t.pageState p = .enabling ∧ t.mode = s.mode ∧
      ∀ q, q ≠ p → t.pageState q = s.pageState q) ∧
  (∀ dt p v s x, x = ((s.elapse dt).wr p R.PAGE.CTRL v).wrn p R.PAGE.CFG_LIVE (((s.elapse dt).wr p R.PAGE.CTRL v).cfgCrc p) →
    s.pageServed p = true → s.pageState p = .disabled → flg v 0 = true →
    ((s.elapse dt).wr p R.PAGE.CTRL v).cfgCrc p ≠ x.rdn p R.PAGE.CFG_REF →
    exec (.pageEnable dt p v) s = .next (x.flag p 0)) ∧
  (∀ dt p v s, s.pageServed p = true → s.pageState p ≠ .disabled → flg v 0 = true →
    exec (.pageEnable dt p v) s = .next ((s.elapse dt).wr p R.PAGE.CTRL v)) ∧
  (∀ dt p v s, s.pageServed p = true → s.pageState p = .running ∨ s.pageState p = .fault → flg v 0 = false →
    ∃ t, exec (.pageDisable dt p v) s = .next t ∧ t.pageState p = .disabling ∧ t.mode = s.mode ∧
      ∀ q, q ≠ p → t.pageState q = s.pageState q) ∧
  (∀ dt p v s, s.pageServed p = true → s.pageState p = .disabled → flg v 0 = false →
    exec (.pageDisable dt p v) s = .next ((s.elapse dt).wr p R.PAGE.CTRL v)) ∧
  (∀ dt p s x, x = (if p = .est then (s.elapse dt).estStartShow else s.elapse dt) → s.mode.serves = true →
    s.pageState p = .enabling → s.startPending p = false → x.startOk p = true → s.rdb p R.PAGE.CTRL 0 = true →
    ∃ t, exec (.blockStartDone dt p) s = .next t ∧ t.pageState p = .running ∧ ∀ q, q ≠ p → t.pageState q = s.pageState q) ∧
  (∀ dt p s x, x = (if p = .est then (s.elapse dt).estStartShow else s.elapse dt) → s.mode.serves = true →
    s.pageState p = .enabling → s.startPending p = false → x.startOk p = false → s.rdb p R.PAGE.CTRL 0 = true →
    exec (.blockStartDone dt p) s = .next (x.pageFault p).protEval ∧ (x.pageFault p).protEval.pageState p = .fault) ∧
  (∀ dt p s, s.mode.serves = true → s.pageState p = .disabling → (∀ c, p = .can c → (s.canSt c.val).attempt = none) →
    s.rdb p R.PAGE.CTRL 0 = false →
    ∃ t, exec (.blockStopped dt p) s = .next t ∧ t.pageState p = .disabled ∧ t.mode = s.mode) ∧
  (∀ dt p s, s.mode.serves = true → s.pageState p = .running →
    ∃ t, exec (.blockFault dt p) s = .next t ∧ t = (((s.elapse dt).pageFault p).blockLeft p).protEval ∧
      t.pageState p = .fault ∧ t.mode = s.mode) ∧
  (∀ (s : State) p, p ≠ .irq → (s.pageFault p).rdb p R.PAGE.FLAGS 2 = true)

/-- What a write of a register does by its access code (R3, R4, R33, R34, R38): a configuration register of a DISABLED page
takes the word, with 0 in its reserved bits, and a write of CFG_REF disarms the signature check; on any other page the write
is ignored, counted and flagged; a W1C register clears the bits named; a read-only register and an unused offset do nothing.
A pass of the scrubber (R39 to R41): a RUNNING page whose configuration no longer matches CFG_REF is OUT cause [3], and so
is, while the signature check is armed, a live signature that differs from the stored one; a pass that finds nothing counts
itself and shows the live signature. The model's own choices in it: log entries 2, 29 and 65. -/
def Obligations.WritesObeyTheAccessCode : Prop :=
  (∀ c dt p o v s e, writeOf c = some (dt, p, o, v) → e = s.elapse dt → s.pageServed p = true →
     (findRow p o = none → exec c s = .next e) ∧
     ∀ r, findRow p o = some r →
       (r.cf ≠ 0 → ¬headerWrite o → s.pageState p = .disabled → o ≠ R.PAGE.CFG_REF → p ≠ .mod →
         (∀ k, p = .can k → o ≠ R.CAN.FLTW1) → (∀ n, p = .sns n → o ≠ R.SNS.CFG) →
         exec c s = .next (e.wr p o v) ∧ (e.wr p o v).rd p o = v &&& BitVec.ofNat 32 r.mask) ∧
       (r.cf ≠ 0 → ¬headerWrite o → s.pageState p = .disabled → o = R.PAGE.CFG_REF → p ≠ .mod →
         exec c s = .next ((e.disarm p 1).wr p o v)) ∧
       (r.cf ≠ 0 → ¬headerWrite o → s.pageState p = .disabled → p = .mod →
         exec c s = .next ((if o = R.PAGE.CFG_REF then e.disarm p 1 else e).wr p o v).invalidShow) ∧
       (∀ k, r.cf ≠ 0 → s.pageState p = .disabled → p = .can k → o = R.CAN.FLTW1 →
         exec c s = .next ((e.wr p o v).fltCommit k.val v.toNat)) ∧
       (∀ n, r.cf ≠ 0 → s.pageState p = .disabled → p = .sns n → o = R.SNS.CFG →
         exec c s = .next ((e.wr p o v).absentClear n)) ∧
       (r.cf ≠ 0 → ¬headerWrite o → s.pageState p ≠ .disabled → p ≠ .irq →
         ∃ t, exec c s = .next t ∧ t.rdb p R.PAGE.FLAGS 1 = true ∧
           t.rdf p R.PAGE.IGNORED 31 16 = satAdd 16 (s.rdf p R.PAGE.IGNORED 31 16) 1 ∧
           (s.rdf p R.PAGE.IGNORED 31 16 = 0 → t.rdf p R.PAGE.IGNORED 11 0 = o) ∧ t.rd p o = s.rd p o) ∧
       (o = R.PAGE.FLAGS → p ≠ .irq → ∃ t, exec c s = .next t ∧
         t.rd p R.PAGE.FLAGS = s.rd p R.PAGE.FLAGS &&& ~~~v &&& BitVec.ofNat 32 r.mask ∧
         (flg v 1 = true → t.rdn p R.PAGE.IGNORED = 0) ∧ t.mode = s.mode) ∧
       (o = R.PAGE.FLAG_IE → exec c s = .next ((e.wr p o v).pageLine p)) ∧
       (r.cf = 0 → r.w1c ≠ 0 → ¬headerWrite o → exec c s = .next (e.wr p o (s.rd p o &&& ~~~v))) ∧
       (r.cf = 0 → r.w1c = 0 → r.rt + r.wo = 0 → ¬headerWrite o → exec c s = .next e) ∧
       (r.cf = 0 → r.w1c = 0 → r.rt + r.wo ≠ 0 → ¬headerWrite o → exec c s = .next (e.runWrite p o v))) ∧
  ((∀ dt s, s.mode.serves = true → s.fw.trial = false →
     (∃ p ∈ allPages, s.running p = true ∧ s.cfgCrc p ≠ s.rdn p R.PAGE.CFG_REF) →
     ∃ t, exec (.scrubPass dt) s = .next t ∧ t.mode = .out ∧ t.outputsSafe ∧ t.rdf .sys R.SYS.OUTCAUSE 15 0 = 8) ∧
   (∀ dt s, s.mode.serves = true → s.fw.trial = false → s.armed = true → s.liveSig ≠ s.rdn .cfgx R.CFGX.SIG_STORED →
     ∃ t, exec (.scrubPass dt) s = .next t ∧ t.mode = .out ∧ t.outputsSafe ∧ t.rdf .sys R.SYS.OUTCAUSE 15 0 = 8) ∧
   (∀ dt s, s.mode.serves = true → s.armed = false → limCrcOf s.prot.lim s.prot.str = s.mram.limCrc →
     (∀ p ∈ allPages, s.running p = true → s.cfgCrc p = s.rdn p R.PAGE.CFG_REF) →
     (∀ c : Fin 4, s.running (.can c) = true → s.fltOk c.val = true) →
     ∃ t, exec (.scrubPass dt) s = .next t ∧ t.mode = s.mode ∧
       t.rdn .cfgx R.CFGX.SCRUBS = satAdd 32 (s.rdn .cfgx R.CFGX.SCRUBS) 1 ∧ t.rdn .cfgx R.CFGX.SIG_LIVE = s.liveSig ∧
       ∀ p ∈ allPages, s.running p = true → t.rdn p R.PAGE.CFG_LIVE = s.cfgCrc p))

/-! ### The host port and the rings -/

/-- The frame of R52 that writes one word, and the one that reads one. -/
def spiWriteOne (addr : Nat) (v : Word) : List Byte :=
  let b := [0x02] ++ leBytes 4 addr ++ leBytes 2 1 ++ leBytes 4 v.toNat
  b ++ leBytes 4 (crc32c b)
def spiReadOne (addr : Nat) : List Byte := [0x03] ++ leBytes 4 addr ++ leBytes 2 1

/-- Rejected accesses (R30): counted, the first one's address kept, and a read answered 0. The management SPI reaches
the registers as BAR0 does (R52): a frame that writes a register acts as the write of it by the host, and a frame that
reads one returns its word and the CRC over the frame and the word. The model's own choices in it: log entries 2, 25,
63, 66 and 79. -/
def Obligations.HostAccessesComplete : Prop :=
  ((∀ dt b off s, s.portUp = true → ∃ t, exec (.barAccessRejected dt b off true) s = .next t ∧ t.sent = s.sent ∧
     t.rdf .host R.HOST.REJECT 15 0 = satAdd 16 (s.rdf .host R.HOST.REJECT 15 0) 1 ∧
     (s.rdf .host R.HOST.REJECT 15 0 = 0 → t.rdn .host R.HOST.REJ_ADDR = b2n b * 2 ^ 31 + off % 2 ^ 28)) ∧
   (∀ dt b off s, s.portUp = true → ∃ t u, exec (.barAccessRejected dt b off false) s = .next t ∧
     exec (.barAccessRejected dt b off true) s = .next u ∧ t = u.send (.read off 0)) ∧
   (∀ dt b off w s, s.portUp = false → exec (.barAccessRejected dt b off w) s = .next (s.elapse dt))) ∧
  ((∀ dt (p : Page) o v s, s.portUp = true → o < 0x1000 → o % 4 = 0 → s.spiLocked (p.base + o) = false →
     exec (.spiWriteFrame dt (spiWriteOne (p.base + o) v)) s = exec (.registerWrite dt p o v) s) ∧
   (∀ dt (p : Page) o s e w t, e = s.elapse dt → s.portUp = true → o < 0x1000 → o % 4 = 0 → e.regRead p o = (w, t) →
     exec (.spiReadFrame dt (spiReadOne (p.base + o))) s =
       .next (t.send (.spi (leBytes 4 w ++ leBytes 4 (crc32c (spiReadOne (p.base + o) ++ leBytes 4 w)))))))

/-- A reset of the host link (R31): the HOST and RNG pages are DISABLED with their reset values, the descriptors are gone
without a completion, HOST.LINK.DOWNS counts, and nothing else of the pages, the module state or the role changes. In RESET
and THERMAL_SHUTDOWN, where the host port does not answer, they are DISABLED already and nothing changes. -/
def Obligations.LinkResetTouchesHostAndRingsOnly : Prop :=
  (∀ dt s, s.portUp = false → exec (.linkReset dt) s = .next (s.elapse dt)) ∧
  ∀ dt s, s.portUp = true → ∃ t, exec (.linkReset dt) s = .next t ∧ t.pageState .host = .disabled ∧
    t.pageState .rng = .disabled ∧ (∀ p, p ≠ .host → p ≠ .rng → t.pageState p = s.pageState p) ∧
    (∀ o, o < 0x1000 → o ≠ R.HOST.LINK → t.rd .host o = regDefault .host o) ∧
    (∀ o, o < 0x1000 → t.rd .rng o = regDefault .rng o) ∧
    t.rdf .host R.HOST.LINK 31 16 = satAdd 16 (s.rdf .host R.HOST.LINK 31 16) 1 ∧
    (∀ p, p ≠ .host → p ≠ .rng → ∀ o, o < 0x1000 → t.rd p o = s.rd p o) ∧
    t.rings = [] ∧ t.host.msix = [] ∧ t.sent = s.sent ∧ t.mode = s.mode ∧
    t.sys.driveEn = (s.elapse dt).sys.driveEn ∧ t.prot = s.prot ∧
    t.loops = s.loops ∧ t.est = s.est ∧ t.tdm = s.tdm ∧ t.events = s.events ∧ t.mram = s.mram

/-- A write frame of the management SPI (R52, R53): its words are written only if its length is right and its CRC matches;
otherwise, and for an unknown opcode, nothing but a count of HOST.SPIERR changes. -/
def Obligations.SpiWriteFramesAreWhole : Prop :=
  (∀ dt b s, s.portUp = false → exec (.spiWriteFrame dt b) s = .next (s.elapse dt) ∧
    exec (.spiReadFrame dt b) s = .next (s.elapse dt)) ∧
  ∀ dt b s e, e = s.elapse dt → s.portUp = true →
    (byteAt b 0 = 2 → 1 ≤ leAt b 5 2 → leAt b 5 2 ≤ 1024 → b.length = 11 + 4 * leAt b 5 2 →
      crc32c (b.take (7 + 4 * leAt b 5 2)) = leAt b (7 + 4 * leAt b 5 2) 4 →
      exec (.spiWriteFrame dt b) s = .next (e.spiWords (leAt b 1 4) (slice b 7 (4 * leAt b 5 2)) (leAt b 5 2)).2) ∧
    (byteAt b 0 = 2 → b.length ≠ 11 + 4 * leAt b 5 2 ∨ leAt b 5 2 = 0 ∨ 1024 < leAt b 5 2 →
      ∃ t, exec (.spiWriteFrame dt b) s = .next t ∧
        t.rdf .host R.HOST.SPIERR 31 16 = satAdd 16 (s.rdf .host R.HOST.SPIERR 31 16) 1 ∧ { t with regs := e.regs } = e ∧
        ∀ p o, p.base + o ≠ Page.base .host + R.HOST.SPIERR → t.rd p o = s.rd p o) ∧
    (byteAt b 0 = 2 → 1 ≤ leAt b 5 2 → leAt b 5 2 ≤ 1024 → b.length = 11 + 4 * leAt b 5 2 →
      crc32c (b.take (7 + 4 * leAt b 5 2)) ≠ leAt b (7 + 4 * leAt b 5 2) 4 →
      ∃ t, exec (.spiWriteFrame dt b) s = .next t ∧
        t.rdf .host R.HOST.SPIERR 15 0 = satAdd 16 (s.rdf .host R.HOST.SPIERR 15 0) 1 ∧ { t with regs := e.regs } = e ∧
        ∀ p o, p.base + o ≠ Page.base .host + R.HOST.SPIERR → t.rd p o = s.rd p o) ∧
    (byteAt b 0 ≠ 2 → byteAt b 0 ≠ 3 → ∃ t, exec (.spiWriteFrame dt b) s = .next t ∧
        t.rdf .host R.HOST.SPIERR 31 16 = satAdd 16 (s.rdf .host R.HOST.SPIERR 31 16) 1 ∧ { t with regs := e.regs } = e ∧
        ∀ p o, p.base + o ≠ Page.base .host + R.HOST.SPIERR → t.rd p o = s.rd p o)

/-- Descriptor rings (R46 to R51): a doorbell fetches what was posted; an occupancy above N, a descriptor that cannot be
fetched or one that is too long stops the ring and is recorded; one whose buffer cannot be used completes with its error; a
restart begins anew with MIDX = HIDX; a ring that has had no buffer for longer than DRAIN_MS is flagged; an item for a ring
without a buffer is dropped and counted. The model's own choices in it: log entries 2, 27, 63 and 80. -/
def Obligations.RingsComplete : Prop :=
  (∀ dt (n : Fin 128) (hidx : Word) ds s r, r = s.ring n.val → s.pageServed .rng = true → s.running .rng = true →
    s.ringUsed n.val = true → r.stopped = false → n.val < 16 ∨ (112 ≤ n.val ∧ n.val ≠ 120 ∧ n.val ≠ 121) →
    (hidx.toNat + 2 ^ 32 - r.midx) % 2 ^ 32 = r.descs.length + ds.length →
    r.descs.length + ds.length ≤ s.ringSize n.val → (∀ d ∈ r.descs ++ ds, descFault d = 0) →
    (∀ d ∈ ds, d.len ≤ ringMax n.val) →
    ∃ t, exec (.ringDoorbell dt n hidx (ds.map some)) s = .next t ∧
      t.ring n.val = { r with
        hidx := hidx.toNat
        descs := r.descs ++ ds } ∧ t.rdn .rng (R.RNG.HIDX n.val) = hidx.toNat ∧ t.sent = s.sent) ∧
  (∀ dt (n : Fin 128) (hidx : Word) ds s, s.pageServed .rng = true → s.ringUsed n.val = true → (s.ring n.val).stopped = false →
    ∃ t, exec (.ringDoorbell dt n hidx ds) s = .next t ∧ t.rdn .rng (R.RNG.HIDX n.val) = hidx.toNat) ∧
  (∀ dt (n : Fin 128) (hidx : Word) d s r, r = s.ring n.val → s.pageServed .rng = true → s.running .rng = true →
    s.ringUsed n.val = true → r.stopped = false → n.val < 16 ∨ (112 ≤ n.val ∧ n.val ≠ 120 ∧ n.val ≠ 121) → r.descs = [] →
    (hidx.toNat + 2 ^ 32 - r.midx) % 2 ^ 32 = 1 → descFault d ≠ 0 → d.len ≤ ringMax n.val →
    ∃ t, exec (.ringDoorbell dt n hidx [some d]) s = .next t ∧ (t.ring n.val).descs = [] ∧ (t.ring n.val).stopped = false ∧
      t.sent = .desc n.val r.midx [] (d.done n.val (descFault d) 0 ((s.elapse dt).mt % 2 ^ 32) 0) :: s.sent) ∧
  (∀ dt (n : Fin 128) (hidx : Word) x s r, r = s.ring n.val → s.pageServed .rng = true → s.running .rng = true →
    s.ringUsed n.val = true → r.stopped = false → n.val < 16 ∨ (112 ≤ n.val ∧ n.val ≠ 120 ∧ n.val ≠ 121) →
    (hidx.toNat + 2 ^ 32 - r.midx) % 2 ^ 32 = r.descs.length + 1 → r.descs.length + 1 ≤ s.ringSize n.val →
    s.rdb .rng R.RNG.ERR 7 = false → (∀ d, x = some d → ringMax n.val < d.len) →
    ∃ t, exec (.ringDoorbell dt n hidx [x]) s = .next t ∧ (t.ring n.val).stopped = true ∧ (t.ring n.val).descs = r.descs ∧
      t.rdn .rng R.RNG.ERR = (if x = none then 2 else 3) * 256 + 128 + n.val ∧ t.sent = s.sent) ∧
  (∀ dt (n : Fin 128) (hidx : Word) ds s, s.pageServed .rng = true → s.ringUsed n.val = false ∨ (s.ring n.val).stopped = true →
    exec (.ringDoorbell dt n hidx ds) s = .next (s.elapse dt)) ∧
  (∀ dt (n : Fin 128) (hidx : Word) ds s, s.pageServed .rng = true → s.running .rng = true → s.ringUsed n.val = true →
    (s.ring n.val).stopped = false → s.ringSize n.val < (hidx.toNat + 2 ^ 32 - (s.ring n.val).midx) % 2 ^ 32 →
    s.rdb .rng R.RNG.ERR 7 = false →
    ∃ t, exec (.ringDoorbell dt n hidx ds) s = .next t ∧ (t.ring n.val).stopped = true ∧
      t.rdb .rng (R.RNG.STOP (n.val / 32)) (n.val % 32) = true ∧ t.rdb .rng R.PAGE.FLAGS 8 = true ∧
      t.rdn .rng R.RNG.ERR = 256 + 128 + n.val) ∧
  (∀ dt (n : Fin 128) s, s.pageServed .rng = true → (s.ring n.val).stopped = true →
    ∃ t, exec (.ringRestart dt n) s = .next t ∧ (t.ring n.val).stopped = false ∧ (t.ring n.val).descs = [] ∧
      (t.ring n.val).midx = (s.ring n.val).hidx ∧ (t.ring n.val).hidx = (s.ring n.val).hidx ∧
      t.rdb .rng (R.RNG.STOP (n.val / 32)) (n.val % 32) = false ∧ t.sent = s.sent) ∧
  (∀ dt (n : Fin 128) s, (s.ring n.val).stopped = false → exec (.ringRestart dt n) s = .next (s.elapse dt)) ∧
  (∀ dt (n : Fin 128) s e, e = s.elapse dt → ringIsMH n.val = true → s.ringServed n.val = true →
    (s.ring n.val).descs = [] → s.rdf .rng (R.RNG.ATTR n.val) 31 16 ≠ 0 →
    (s.ring n.val).since + s.rdf .rng (R.RNG.ATTR n.val) 31 16 * 1000000 < e.mt →
    s.rdb .rng (R.RNG.DRAIN (n.val / 32)) (n.val % 32) = false →
    ∃ t, exec (.ringDrainTimeout dt n) s = .next t ∧ t.rdb .rng (R.RNG.DRAIN (n.val / 32)) (n.val % 32) = true ∧
      t.rdb .rng R.PAGE.FLAGS 9 = true ∧ t.rings = s.rings) ∧
  (∀ (n tstat : Nat) (b : List Byte) (s : State), n < 128 → s.running .rng = true → s.mode.serves = true →
    (s.ring n).descs = [] → s.ringPush n tstat b = s.inc .rng (R.RNG.DROP n)) ∧
  (∀ (n tstat : Nat) (b : List Byte) (s : State) d rest, n < 128 → s.ringServed n = true → (s.ring n).descs = d :: rest →
    (∀ x ∈ rest, descFault x = 0) → b.length ≤ d.len →
    ((s.ringPush n tstat b).ring n).descs = rest ∧ ((s.ringPush n tstat b).ring n).midx = ((s.ring n).midx + 1) % 2 ^ 32 ∧
      (s.ringPush n tstat b).sent = .desc n (s.ring n).midx b (d.done n 0 tstat (s.mt % 2 ^ 32) b.length) :: s.sent)

/-! ### The timetable, the estimator's steps, forecasts, the journal and the parameter sets -/

/-- Ticks, input deadlines and stage boundaries (R54, R55, R63, R68): MT goes to the next tick boundary, what the rings
accepted is closed, and in RESET MT does not count. A step (R131, R132, R148, R185, R186): the scheduled step runs once, a
lane whose vectors fail is retired, and the step that ran is published once. The model's own choices in it: log entries 2,
10, 82 and 96. -/
def Obligations.TicksAndStepsComplete : Prop :=
  ((∀ x s, s.mode.serves = true → ∃ t, exec (.tickBoundary x) s = .next t ∧ t.mt = (s.tick + 1) * 500000 ∧
     t.tb.deadline = false ∧ t.tb.judged = false ∧ t.tb.miss = 0 ∧ t.pages = s.pages ∧ t.rings = s.rings ∧
     ∀ n : Fin 16, (t.sring n.val).comps = []) ∧
   (∀ x s, s.mode.serves = false → s.mode ≠ .reset → exec (.tickBoundary x) s = .next { s with
     sys := s.sys.atMt ((s.tick + 1) * 500000) }) ∧
   (∀ x s, s.mode = .reset → exec (.tickBoundary x) s = .next s) ∧
   (∀ s, s.mode.serves = true → s.tb.deadline = false → ∃ t, exec .inputDeadline s = .next t ∧
     t.mt = max s.mt (s.tick * 500000 + 350000) ∧ t.tb.deadline = true ∧ t.mode = s.mode ∧ t.est = s.est ∧
     t.events = s.events ∧ t.tdm = s.tdm) ∧
   (∀ s, s.mode.serves = false ∨ s.tb.deadline = true → exec .inputDeadline s = .next s) ∧
   (∀ s, s.mode.serves = true → s.mode ≠ .witnessOnly → s.fw.trial = false → s.mt % 10000000 ≤ 20000 → 1 ≤ s.stage →
     s.stage < 2 ^ 64 → s.latchStage ≠ s.stage →
     ∃ t q, exec .stageBoundary s = .next t ∧ t.mt = s.mt ∧ t.latchStage = s.stage ∧ q.stage = s.stage - 1 ∧
       t.est.closing = none ∧
       (∀ d, s.est.closing = some d → t.chg.stages = [] ∧
         t.est.due = some { d with chgs := (q :: s.chg.stages).reverse }) ∧
       (s.est.closing = none → t.chg.stages = q :: s.chg.stages ∧ t.est.due = s.est.due)) ∧
   (∀ s, s.mode = .witnessOnly → s.fw.trial = false → s.mt % 10000000 ≤ 20000 → 1 ≤ s.stage → s.latchStage ≠ s.stage →
     ∃ t, exec .stageBoundary s = .next t ∧ t.est = { s.est with closing := none } ∧ t.ost = s.ost ∧ t.acc = [] ∧ t.mode = s.mode) ∧
   (∀ s, s.mode.serves = false ∨ 20000 < s.mt % 10000000 ∨ s.stage = 0 ∨ s.latchStage = s.stage →
     exec .stageBoundary s = .next s)) ∧
  ((∀ dt x s d, s.est.due = some d → ∃ t, exec (.stageStepRun dt x) s = .next t ∧ t.est.due = none ∧
     (∃ en, t.est.ran = some { d with entries := en }) ∧ t.way.entries = s.way.entries ∧ t.mode = s.mode ∧
     t.sys.driveEn = (s.elapse dt).sys.driveEn ∧ t.prot = s.prot ∧ t.tb = s.tb ∧ t.mod = s.mod ∧ t.mram = s.mram) ∧
   (∀ dt x s, s.est.due = none → exec (.stageStepRun dt x) s = .next (s.elapse dt)) ∧
   (∀ dt (l : Fin 32) o c th s, s.ost.testing.contains l.val = false →
     (s.ost.checks ++ s.ost.again).find? (fun k => k.owner = l.val) = none →
     s.fw.trial = false → exec (.bistDone dt l o c th) s = .next (s.elapse dt)) ∧
   (∀ dt (l : Fin 32) o c th s k, s.ost.testing.contains l.val = false →
     (s.ost.checks ++ s.ost.again).find? (fun k => k.owner = l.val) = some k → s.fw.trial = false →
     ∃ t, exec (.bistDone dt l o c th) s = .next t ∧ (o = true → k.owner ∈ t.ost.retired) ∧
       (c = true → k.checker ∈ t.ost.retired) ∧ (∀ n ∈ s.ost.retired, n ∈ t.ost.retired) ∧
       (∀ n ∈ t.ost.retired, n ∈ s.ost.retired ∨ n = k.owner ∨ n = k.checker)) ∧
   (∀ dt (l : Fin 32) o c th s, s.ost.testing.contains l.val = true → s.fw.trial = false →
     ∃ t, exec (.bistDone dt l o c th) s = .next t ∧ l.val ∉ t.ost.testing ∧
       (o = true → l.val ∈ t.ost.retired) ∧ (o = false → t.ost.retired = s.ost.retired)) ∧
   (∀ dt s d, s.est.ran = some d → s.fw.trial = false →
     (s.running .est = true → ∀ c ∈ s.presentChans, s.laneHeld c = false) → ∃ t, exec (.stepPublished dt) s = .next t ∧ t.est.ran = none ∧
     t.mt = (s.elapse dt).mt ∧ t.tb = s.tb ∧ t.mod = s.mod ∧ t.chg = s.chg ∧
     (s.running .est = true → t.rd64 .est R.EST.STAGE_LO R.EST.STAGE_HI = d.sb % 2 ^ 64)) ∧
   (∀ dt s d, s.est.ran = some d → s.running .est = true → (∃ c ∈ s.presentChans, s.laneHeld c = true) →
     ∃ r, exec (.stepPublished dt) s = .next { s.elapse dt with est := { s.est with recs := r } } ∧
       ∀ c < 512, s.laneHeld c = true → sget [] r c = sget [] s.est.recs c) ∧
   (∀ dt s, s.est.ran = none → exec (.stepPublished dt) s = .next (s.elapse dt)))

/-- Forecasts (R69, R171, R172): the search starts at the end of a forecast period and what it found is published for that
period; a calibration that is not done by its deadline has failed (R163). The model's own choices in it: log entries 2 and
43. -/
def Obligations.ForecastsAndCalibrationComplete : Prop :=
  (∀ s, s.running .est = true → s.mt % 1000000000 = 0 → 0 < s.mt → exec .forecastBoundary s = .next { s with
    est := { s.est with fcRun := some (s.mt / 1000000000 - 1) } }) ∧
  (∀ s, s.running .est = false ∨ s.mt % 1000000000 ≠ 0 ∨ s.mt = 0 → exec .forecastBoundary s = .next s) ∧
  (∀ dt s f, s.running .est = true → s.est.fcRun = some f → s.est.fcStage = some (100 * f + 99) →
    ∃ t, exec (.forecastPublished dt) s = .next t ∧ t.est.fcRun = none ∧ t.est.fcDone = true ∧
      t.rd64 .est R.EST.FC_LO R.EST.FC_HI = f % 2 ^ 64 ∧ t.est.pcap.length = 6 ∧ (t.src 195).pend = true ∧
      (∀ k < 3, t.rdn .est (R.EST.PCAP k) = t.est.pcap.getD k 0 % 2 ^ 32) ∧ t.mode = s.mode ∧ t.prot = s.prot) ∧
  (∀ dt s, s.running .est = false ∨ s.est.fcRun = none ∨ s.est.fcStage = none →
    exec (.forecastPublished dt) s = .next (s.elapse dt)) ∧
  (∀ dt s, s.rdf .est R.EST.CAL_STAT 1 0 = 1 → s.rd64 .est R.EST.CAL_END_LO R.EST.CAL_END_HI ≤ (s.elapse dt).mt →
    ∃ t, exec (.calibrationDeadline dt) s = .next t ∧ t.rdf .est R.EST.CAL_STAT 1 0 = 3 ∧
      (∀ c ∈ s.presentChans, (t.chanEst c).calph =
        if 1 ≤ (s.chanEst c).calph ∧ (s.chanEst c).calph ≤ 3 then 5 else (s.chanEst c).calph) ∧ t.mode = s.mode ∧
      t.jrn = s.jrn) ∧
  (∀ dt s, s.rdf .est R.EST.CAL_STAT 1 0 ≠ 1 ∨ (s.elapse dt).mt < s.rd64 .est R.EST.CAL_END_LO R.EST.CAL_END_HI →
    exec (.calibrationDeadline dt) s = .next (s.elapse dt))

/-- The journal (R164 to R170): a write starts only with PFW_N high and none in progress, goes into the slot that does
not hold the newest valid copy, carries the next SEQ, and is valid; its end puts it into that slot and touches no
other. Writes into the parameter-set memory (R140, R144): a byte of a set in use is discarded and the write counted,
every other byte is stored, every byte beyond those written reads as before, and the memory keeps its canonical form.
The protection table is not the host's to write (R237). The model's own choices in it: log entries 2 and 9. -/
def Obligations.JournalAndParametersComplete : Prop :=
  ((∀ dt s r q, s.jrn.queue = r :: q → s.jrn.writing = none → s.sys.pfwLow = false → r < 577 →
     (s.jrnImage r).length = 64 →
     ∃ t k b, exec (.journalWriteStart dt) s = .next t ∧ t.jrn.writing = some (r, k, b) ∧ t.jrn.queue = q ∧
       t.jrn.img = s.jrn.img ∧ t.mram = s.mram ∧ jrnValid r b = true ∧ slice b 8 52 = slice (s.jrnImage r) 8 52 ∧
       (∀ n, s.jrnNewest r = some n → k + n = 1 ∧ leAt b 4 4 = (leAt (s.jrnSlot r n) 4 4 + 1) % 2 ^ 32) ∧
       (s.jrnNewest r = none → k = 0 ∧ leAt b 4 4 = 1)) ∧
   (∀ dt s, s.jrn.queue = [] ∨ s.jrn.writing ≠ none ∨ s.sys.pfwLow = true →
     exec (.journalWriteStart dt) s = .next (s.elapse dt)) ∧
   (∀ dt s r k b, s.jrn.writing = some (r, k, b) → k < 2 → ∃ t, exec (.journalWriteDone dt) s = .next t ∧
     t.jrn.writing = none ∧ t.jrnSlot r k = b ∧
     (∀ r' k', k' < 2 → (r', k') ≠ (r, k) → t.jrnSlot r' k' = s.jrnSlot r' k') ∧ t.jrn.queue = s.jrn.queue ∧
     t.jrn.img = s.jrn.img ∧ t.regs = s.regs) ∧
   (∀ dt s, s.jrn.writing = none → exec (.journalWriteDone dt) s = .next (s.elapse dt))) ∧
  ((∀ dt off bytes s, s.pageServed .est = true → ∃ t, exec (.parameterSetWrite dt off bytes) s = .next t ∧
     (∀ a, sget 0 t.est.ps a =
       if off ≤ a ∧ a < off + bytes.length ∧ a < 0x200000 ∧ s.setInUse (a / 0x40000) = false then bytes.getD (a - off) 0
       else sget 0 s.est.ps a) ∧
     (Memory.wf s.est.ps = true → Memory.wf t.est.ps = true) ∧ t.mode = s.mode ∧
     ((∃ i < bytes.length, off + i < 0x200000 ∧ s.setInUse ((off + i) / 0x40000) = true) →
       t.rdn .est R.EST.PSREJ = satAdd 32 (s.rdn .est R.EST.PSREJ) 1 ∧ t.rdb .est R.PAGE.FLAGS 9 = true) ∧
     ((∀ i < bytes.length, off + i < 0x200000 → s.setInUse ((off + i) / 0x40000) = false) → t.regs = s.regs)) ∧
   (∀ dt off bytes s, s.pageServed .est = false → exec (.parameterSetWrite dt off bytes) s = .next (s.elapse dt)) ∧
   (∀ dt off bytes s, s.pageServed .prot = true → ∃ t, exec (.limitTableWrite dt off bytes) s = .next t ∧
     t.prot = s.prot ∧ t.mode = s.mode ∧ t.rdn .prot R.PROT.TBLREJ = satAdd 32 (s.rdn .prot R.PROT.TBLREJ) 1) ∧
   (∀ dt off bytes s, s.pageServed .prot = false → exec (.limitTableWrite dt off bytes) s = .next (s.elapse dt)))

/-! ### The sense rings -/

/-- The coach a command receives: the time before it, its ring, its line status, its bytes, its type and its lengths. -/
def coachOf : Instr → Option (Nat × Fin 16 × Bool × List Byte × Nat × List Nat)
  | .commandCoachReceived dt n ok b => some (dt, n, ok, b, 0x43, [108])
  | .dataCoachReceived dt n ok b => some (dt, n, ok, b, 0x44, [if (byteAt b 1).testBit 0 then 404 else 276])
  | .alertCoachReceived dt n ok b => some (dt, n, ok, b, 0x4C, [12])
  | _ => none

/-- A coach with a line error, a wrong length or type or a wrong CRC is rejected whole and counted (R78), and a page
that is neither ENABLING nor RUNNING takes nothing from one (R77) but that the other end drives (R90). Coaches that
are whole (R63, R78, R81, R94, R96, R98): a command coach of the other end is noted and the third in a row ends B's
driving; a compartment of the current tick is held once, in time, in its position; one of another tick is not; an
alert coach adds its bits to the alert of its position. The model's own choices in it: log entries 2, 32, 59 and 86.
-/
def Obligations.CoachesComplete : Prop :=
  (∀ c dt n ok b ty lens s e, coachOf c = some (dt, n, ok, b, ty, lens) → e = s.elapse dt →
     (s.snsLive n = false → ty ≠ 0x43 ∨ coachOk ok ty lens b = false → exec c s = .next e) ∧
     (s.snsLive n = true → coachOk ok ty lens b = false →
       exec c s = .next (e.inc (.sns n) R.SNS.CRCERR) ∧
         (e.inc (.sns n) R.SNS.CRCERR).rdn (.sns n) R.SNS.CRCERR = satAdd 32 (s.rdn (.sns n) R.SNS.CRCERR) 1)) ∧
  ((∀ dt n b (s : State), s.snsLive n = true → coachOk true 0x43 [108] b = true → (byteAt b 1).testBit 2 = s.sys.strapB →
     exec (.commandCoachReceived dt n true b) s = .next (s.elapse dt)) ∧
   (∀ dt n b (s : State) run, s.snsLive n = true → coachOk true 0x43 [108] b = true →
     (byteAt b 1).testBit 2 ≠ s.sys.strapB →
     run = (if (s.sring n.val).otherTick + 1 = leAt b 4 8 ∧ 0 < (s.sring n.val).otherRun then (s.sring n.val).otherRun + 1 else 1) →
     ∃ t, exec (.commandCoachReceived dt n true b) s = .next t ∧ (t.sring n.val).otherTick = leAt b 4 8 ∧
       (t.sring n.val).otherRun = run ∧ t.mode = s.mode ∧ t.acc = s.acc ∧
       (leAt b 4 8 = s.tick → .coach n.val (emptyDataCoach s (byteAt b 2)) ∈ t.sent) ∧
       (s.sys.strapB = true → 3 ≤ run → (t.sring n.val).driveB = false) ∧
       ((byteAt b 1).testBit 0 = true → byteAt b 0x50 < 4 →
         (t.fe n.val (byteAt b 0x50)).chal.openAt = some (leAt b 4 8, leAt b 0x54 12))) ∧
   (∀ dt n b (s : State) run, s.snsLive n = false → coachOk true 0x43 [108] b = true →
     (byteAt b 1).testBit 2 ≠ s.sys.strapB →
     run = (if (s.sring n.val).otherTick + 1 = leAt b 4 8 ∧ 0 < (s.sring n.val).otherRun then (s.sring n.val).otherRun + 1 else 1) →
     exec (.commandCoachReceived dt n true b) s = .next ((s.elapse dt).setSring n.val { s.sring n.val with
       otherTick := leAt b 4 8
       otherRun := run })) ∧
   (∀ dt n b (s : State) l p x, s.snsLive n = true → l = (if (byteAt b 1).testBit 0 then 96 else 64) →
     coachOk true 0x44 [if (byteAt b 1).testBit 0 then 404 else 276] b = true → leAt b 4 8 = s.tick →
     (s.elapse dt).mt ≤ s.tick * 500000 + 350000 → p < 4 → (s.pop n).testBit p = true → x = slice b (0x10 + l * p) l →
     byteAt x 0 = 0xA5 → byteAt x 1 = p → (∀ y ∈ (s.sring n.val).comps, y.pos ≠ p) →
     ∃ t y, exec (.dataCoachReceived dt n true b) s = .next t ∧ y ∈ (t.sring n.val).comps ∧ y.pos = p ∧ y.bytes = x ∧
       y.direct = true ∧ y.conflict = false ∧ t.reportedId n p = leAt x 4 8) ∧
   (∀ dt n b (s : State), s.snsLive n = true → leAt b 4 8 ≠ s.tick →
     coachOk true 0x44 [if (byteAt b 1).testBit 0 then 404 else 276] b = true →
     ∃ t, exec (.dataCoachReceived dt n true b) s = .next t ∧ (t.sring n.val).comps = (s.sring n.val).comps ∧ t.acc = s.acc ∧
       t.prot = s.prot ∧ t.mode = s.mode) ∧
   (∀ dt n b (s : State), s.snsLive n = true → coachOk true 0x4C [12] b = true → byteAt b 1 < 4 →
     ∃ t, exec (.alertCoachReceived dt n true b) s = .next t ∧ t.mode = s.mode ∧
       (t.fe n.val (byteAt b 1)).alert = ((s.fe n.val (byteAt b 1)).alert ||| leAt b 2 2 % 4096) % 4096 ∧
       t.rdb (.sns n) (R.SNS.FE (byteAt b 1)) 8 = decide (((s.fe n.val (byteAt b 1)).alert ||| leAt b 2 2 % 4096) % 4096 ≠ 0)) ∧
   (∀ dt n b (s : State), s.snsLive n = true → coachOk true 0x4C [12] b = true → 4 ≤ byteAt b 1 →
     exec (.alertCoachReceived dt n true b) s = .next (s.elapse dt)))

/-- The ring's timers and breaks (R87, R90, R92 to R95): a repeat coach goes out within its window and its number; module B
drives when the other end is silent; three healthy ticks heal a split ring; a break is declared once, counted and flagged,
and every position is challenged again; a front-end missing for LOSS_TICKS is LOST. The model's own choices in it: log
entries 2, 32 and 59. -/
def Obligations.RingTimersComplete : Prop :=
  (∀ dt n s e need, e = s.elapse dt → s.running (.sns n) = true → s.mode.speaks = true →
    need = bitsOf (fun p => (s.pop n).testBit p && !(s.sring n.val).comps.any (fun x => x.pos = p)) 4 → need ≠ 0 →
    (s.sring n.val).repeats < s.rdf (.sns n) R.SNS.CFG 19 16 → s.tick * 500000 + 60000 ≤ e.mt →
    e.mt ≤ s.tick * 500000 + 300000 → (s.sring n.val).repeats = 0 ∨ (s.sring n.val).lastRepeat + 50000 ≤ e.mt →
    ∃ t, exec (.repeatCoachSend dt n) s = .next t ∧
      t.sent = .coach n.val (withCrc ([0x50, BitVec.ofNat 8 need, 0, 0] ++ leBytes 8 s.tick)) :: s.sent ∧
      (t.sring n.val).repeats = (s.sring n.val).repeats + 1 ∧ (t.sring n.val).lastRepeat = e.mt ∧
      t.rdn (.sns n) R.SNS.REPEAT = satAdd 32 (s.rdn (.sns n) R.SNS.REPEAT) 1) ∧
  (∀ dt n s, s.running (.sns n) = false ∨ s.rdf (.sns n) R.SNS.CFG 19 16 ≤ (s.sring n.val).repeats ∨
    (s.elapse dt).mt < s.tick * 500000 + 60000 ∨ s.tick * 500000 + 300000 < (s.elapse dt).mt →
    exec (.repeatCoachSend dt n) s = .next (s.elapse dt)) ∧
  (∀ dt n s e, e = s.elapse dt → s.running (.sns n) = true → s.sys.strapB = true →
    15000 ≤ e.mt % 500000 → e.mt % 500000 ≤ 25000 →
    (s.sring n.val).otherTick ≠ s.tick ∨ (s.sring n.val).otherRun = 0 →
    exec (.farWaitExpiry dt n) s = .next (e.setSring n.val { s.sring n.val with
      driveB := true
      otherRun := 0 })) ∧
  (∀ dt n s, s.running (.sns n) = false ∨ (s.elapse dt).mt % 500000 < 15000 ∨ 25000 < (s.elapse dt).mt % 500000 →
    exec (.farWaitExpiry dt n) s = .next (s.elapse dt)) ∧
  (∀ dt n s, s.running (.sns n) = true → 15000 ≤ (s.elapse dt).mt % 500000 → (s.elapse dt).mt % 500000 ≤ 25000 →
    s.sys.strapB = false → s.ringMode n = 3 → 3 ≤ (s.sring n.val).goodRun →
    (s.sring n.val).otherTick + 3 ≤ s.tick →
    ∃ t, exec (.farWaitExpiry dt n) s = .next t ∧ t.ringMode n = 2 ∧ t.rdb (.sns n) R.PAGE.FLAGS 9 = true ∧
      ∀ p < 4, (s.pop n).testBit p = true → s.feState n p ≠ 5 → (t.fe n.val p).chal.want = true) ∧
  (∀ dt n s, s.running (.sns n) = true → s.ringMode n = 2 → (s.sring n.val).splitNext = false →
    ∃ t, exec (.symbolLockLoss dt n) s = .next t ∧ (t.sring n.val).splitNext = true ∧
      t.rdb (.sns n) R.PAGE.FLAGS 8 = true ∧ t.rdn (.sns n) R.SNS.BREAKS = satAdd 32 (s.rdn (.sns n) R.SNS.BREAKS) 1 ∧
      (∀ p < 4, (s.pop n).testBit p = true → s.feState n p ≠ 5 → (t.fe n.val p).chal.want = true) ∧ t.mode = s.mode ∧ t.prot = s.prot) ∧
  (∀ dt n s, s.running (.sns n) = false ∨ s.ringMode n ≠ 2 ∨ (s.sring n.val).splitNext = true →
    exec (.symbolLockLoss dt n) s = .next (s.elapse dt)) ∧
  (∀ dt n p s, s.running (.sns n) = true → (s.pop n).testBit p.val = true → s.feState n p.val ≠ 5 →
    s.rdf (.sns n) R.SNS.CFG 15 8 ≤ (s.fe n.val p.val).lost →
    ∃ t, exec (.frontEndLost dt n p) s = .next t ∧ t.feState n p.val = 5 ∧ t.rdb (.sns n) R.PAGE.FLAGS 10 = true ∧
      t.prot.raw.testBit n.val = true ∧ (t.fe n.val p.val).chal.want = false ∧ t.mode = s.mode) ∧
  (∀ dt n p s, s.running (.sns n) = false ∨ s.feState n p.val = 5 ∨
    (s.fe n.val p.val).lost < s.rdf (.sns n) R.SNS.CFG 15 8 → exec (.frontEndLost dt n p) s = .next (s.elapse dt)) ∧
  (∀ dt n s, s.sys.strapB = true → s.pageState (.sns n) = .enabling → (s.sring n.val).enTick + 19 ≤ s.tick →
    (s.sring n.val).otherRun = 0 ∨ (s.sring n.val).otherTick < (s.sring n.val).enTick →
    ∃ t, exec (.enumerationWaitExpiry dt n) s = .next t ∧ (t.sring n.val) = { s.sring n.val with active := true } ∧
      t.rdf (.sns n) R.SNS.RING 3 2 = 1 ∧ t.ringMode n = s.ringMode n)

/-- Challenges and enumeration on command (R91, R98, R99): when a challenge is due, a retry after t_chal_gap, every
position of POP at once, and ASSIGN for every hop while the module is the driving end. What the peer relays (R88, R98,
R99): a compartment whose acceptance was in time and that arrives by 480 µs is held where no direct copy is; a verdict
of a challenge this module did not see puts the position in service or out of it. The model's own choices in it: log
entries 2 and 3. -/
def Obligations.ChallengesAndRelayedSenseComplete : Prop :=
  ((∀ dt n p s e, e = s.elapse dt →
     (s.feState n p.val = 2 ∧ ∃ m, (s.fe n.val p.val).chal.lastPass = some m ∧ m + 86400000000000 ≤ e.mt) ∨
     ((s.feState n p.val = 3 ∨ s.feState n p.val = 4) ∧ (s.fe n.val p.val).chal.failMt + 600000000000 ≤ e.mt) →
     ∃ t, exec (.challengeDue dt n p) s = .next t ∧ t = e.wantChallenge n p.val ∧ (t.fe n.val p.val).chal.want = true ∧
       (t.fe n.val p.val).chal.failed = 0) ∧
   (∀ dt n p s, s.feState n p.val < 2 ∨ s.feState n p.val = 5 →
     exec (.challengeDue dt n p) s = .next (s.elapse dt)) ∧
   (∀ dt n p s e v, e = s.elapse dt → v = s.fe n.val p.val → 0 < v.chal.failed → v.chal.failed < 3 → v.chal.openAt = none →
     v.chal.failMt + 10000000 ≤ e.mt →
     ∃ t, exec (.challengeRetry dt n p) s = .next t ∧ (t.fe n.val p.val).chal.want = true ∧
       (t.fe n.val p.val).chal.failed = v.chal.failed ∧ t.regs = s.regs) ∧
   (∀ dt n p s e v, e = s.elapse dt → v = s.fe n.val p.val → v.chal.failed = 0 ∨ 3 ≤ v.chal.failed ∨ v.chal.openAt ≠ none ∨
     e.mt < v.chal.failMt + 10000000 → exec (.challengeRetry dt n p) s = .next e) ∧
   (∀ dt n s, s.pageServed (.sns n) = true → ∃ t, exec (.challengeAll dt n) s = .next t ∧ t.regs = s.regs ∧
     (∀ p < 4, (s.pop n).testBit p = true → s.feState n p ≠ 5 →
       (t.fe n.val p).chal.want = true ∧ (t.fe n.val p).chal.failed = 0) ∧
     ∀ p, (s.pop n).testBit p = false ∨ 4 ≤ p ∨ s.feState n p = 5 → t.fe n.val p = s.fe n.val p) ∧
   (∀ dt n s, s.pageServed (.sns n) = true → s.rdb (.sns n) R.SNS.RING 12 = true →
     ∃ t, exec (.reenum dt n) s = .next t ∧ (t.sring n.val).assign = List.range (s.sring n.val).hopsOwn ∧ t.regs = s.regs) ∧
   (∀ dt n s, s.pageServed (.sns n) = false ∨ s.rdb (.sns n) R.SNS.RING 12 = false →
     exec (.reenum dt n) s = .next (s.elapse dt)) ∧
   (∀ dt n s, s.pageServed (.sns n) = false → exec (.challengeAll dt n) s = .next (s.elapse dt))) ∧
  ((∀ dt f b s x n p, (s.elapse dt).takeFrame 0x07 f b = (true, x) → n.val = byteAt b 0 → p = byteAt b 1 → p < 4 →
     s.snsLive n = true → (s.pop n).testBit p = true → leAt b 4 8 = s.tick → (b.drop 0x14).length = byteAt b 2 →
     (b.drop 0x14).length = 64 ∨ (b.drop 0x14).length = 96 → leAt b 0x0C 8 ≤ s.tick * 500000 + 350000 →
     (s.elapse dt).mt ≤ s.tick * 500000 + 480000 → (∀ y ∈ (s.sring n.val).comps, y.pos ≠ p) →
     ∃ t, exec (.relayedCompartment dt f b) s = .next t ∧ t.mode = s.mode ∧
       (t.sring n.val).comps = (s.sring n.val).comps ++ [⟨p, b.drop 0x14, leAt b 0x0C 8, false, false⟩]) ∧
   (∀ dt f b s x n, (s.elapse dt).takeFrame 0x07 f b = (true, x) → n = byteAt b 0 % 16 → leAt b 4 8 ≠ s.tick →
     exec (.relayedCompartment dt f b) s = .next x ∧ x.sring n = s.sring n) ∧
   (∀ dt f b s x n p, (s.elapse dt).takeFrame 0x0C f b = (true, x) → b.length = 40 → n.val = byteAt b 0 → p = byteAt b 1 →
     p < 4 → s.running (.sns n) = true → (s.fe n.val p).chal.seenAt ≠ some (leAt b 4 8, leAt b 0x14 12) → byteAt b 2 = 1 →
     ∃ t, exec (.verdict dt f b) s = .next t ∧ t.feState n p = 2 ∧ (t.fe n.val p).chal.failed = 0 ∧
       (t.fe n.val p).chal.lastPass = some (s.elapse dt).mt ∧ t.mode = s.mode ∧
       t.events.length = s.events.length + if s.mode = .standby ∧ s.tdm.peer.heard = true ∧ s.tdm.silent = false then 0 else 1) ∧
   (∀ dt f b s x n p, (s.elapse dt).takeFrame 0x0C f b = (true, x) → b.length = 40 → n.val = byteAt b 0 → p = byteAt b 1 →
     p < 4 → s.running (.sns n) = true → (s.fe n.val p).chal.seenAt ≠ some (leAt b 4 8, leAt b 0x14 12) → byteAt b 2 = 3 → byteAt b 3 = 3 →
     ∃ t, exec (.verdict dt f b) s = .next t ∧
       t.feState n p = (if s.heldId (4 * n.val + p) = s.reportedId n p ∧ s.heldId (4 * n.val + p) ≠ 0 then 3 else 4) ∧
       t.rdb (.sns n) R.PAGE.FLAGS 12 = true ∧ t.mode = s.mode))

/-! ### Bitstream inputs, charges and the writes that are event inputs -/

/-- The host writes that are event inputs (R222): the time before the write, its page, its offset and its word. -/
def eventWriteOf : Instr → Option (Nat × Page × Nat × Word)
  | .tripRelease dt g => some (dt, .trip, R.TRIP.CMD, BitVec.ofNat 32 g.toNat)
  | .manSet dt => some (dt, .trip, R.TRIP.CMD, 0x100)
  | .manClr dt => some (dt, .trip, R.TRIP.CMD, 0x200)
  | .spHostWrite dt n v => some (dt, .loop n, R.LOOP.SP_HOST, v)
  | .measWrite dt n v => some (dt, .loop n, R.LOOP.MEAS, v)
  | .dutyWrite dt m v => some (dt, .pwm, R.PWM.DUTY m.val, v)
  | .dispSpWrite dt v => some (dt, .spt, R.SPT.DISP_SP, v)
  | .tcoolWrite dt z v => some (dt, .cth, R.CTH.TCOOL z.val, v)
  | _ => none

/-- The modulator clocks and inputs (R108, R111, R119): the clock driver follows MCKSEL; a lost clock and a stuck run are
counted and flagged and make the inputs they name invalid. The index lock of a follower (R109): exactly one matching offset
takes the driver's latches and locks the group from the next tick; a series of LOCK_TRIES failures is flagged and counted.
The model's own choices in it: log entries 2, 33, 88 and 98. -/
def Obligations.ClocksAndLocksComplete : Prop :=
  ((∀ dt toB u0 u1 s, s.running .mod = false → exec (.mckselChange dt toB u0 u1) s = .next (({ s.elapse dt with
     mod := { s.mod with mcksel := toB } } : State).wrb .mod R.MOD.STAT 0 false)) ∧
   (∀ dt toB u0 u1 s, s.running .mod = true → ∃ t, exec (.mckselChange dt toB u0 u1) s = .next t ∧ t.mod.mcksel = toB ∧
     t.rdb .mod R.MOD.STAT 0 = decide (toB = s.sys.strapB) ∧ t.rdb .mod R.PAGE.FLAGS 10 = true ∧
     t.rdf .mod R.MOD.SWITCHES 15 0 = satAdd 16 (s.rdf .mod R.MOD.SWITCHES 15 0) 1 ∧ t.mode = s.mode ∧
     ∀ g < 2, t.groupLocked g =
       ((decide (toB = s.sys.strapB) && !sget false s.mod.locking g) || s.groupLocked g)) ∧
   (∀ dt (g : Fin 2) u s, s.running .mod = true → ∃ t, exec (.clockLoss dt g u) s = .next t ∧ t.mode = s.mode ∧
     t.rdb .mod R.PAGE.FLAGS 8 = true ∧ t.rdb .mod R.MOD.STAT (3 + g.val) = false ∧
     t.groupLocked g.val = (s.clockDriver && s.groupLocked g.val) ∧
     t.rdf .mod R.MOD.CLKLOSS (16 * g.val + 15) (16 * g.val) =
       satAdd 16 (s.rdf .mod R.MOD.CLKLOSS (16 * g.val + 15) (16 * g.val)) 1 ∧
     ∀ n < 12, (modGroup n = g.val → (t.modIn n).valid = false ∧ (t.rdn .mod R.MOD.INVALID).testBit n = s.modEn n) ∧
       (modGroup n ≠ g.val → t.modIn n = s.modIn n)) ∧
   (∀ dt (g : Fin 2) u s, s.running .mod = false → exec (.clockLoss dt g u) s = .next (s.elapse dt)) ∧
   (∀ dt (n : Fin 12) s, s.running .mod = true → s.modEn n.val = true → ∃ t, exec (.stuckRun dt n) s = .next t ∧
     t.rdn .mod (R.MOD.STUCK n.val) = satAdd 32 (s.rdn .mod (R.MOD.STUCK n.val)) 1 ∧ t.rdb .mod R.PAGE.FLAGS 9 = true ∧
     (t.modIn n.val).valid = false ∧ (t.modIn n.val).bad = true ∧ (t.rdn .mod R.MOD.INVALID).testBit n.val = true ∧
     (∀ m, m ≠ n.val → t.modIn m = s.modIn m) ∧ t.mode = s.mode) ∧
   (∀ dt (n : Fin 12) s, s.running .mod = false ∨ s.modEn n.val = false → exec (.stuckRun dt n) s = .next (s.elapse dt))) ∧
  ((∀ x s g, s.mode.serves = true → s.running .mod = true → g < 2 → sget false s.mod.locking g = true →
     ∃ t, exec (.tickBoundary x) s = .next t ∧ t.groupLocked g = true ∧ t.mod.locking = []) ∧
   (∀ dt f b own s x g ls, (s.elapse dt).takeFrame 0x08 f b = (true, x) → g = byteAt b 0 → g < 2 → s.running .mod = true →
     s.clockDriver = false → s.groupLocked g = false → sget false s.mod.locking g = false → leAt b 4 8 = s.tick → ls = lockOffsets (leAt b 0x0C 8) own.toNat →
     (ls.length = 1 → ∃ t, exec (.indexLock dt f b own) s = .next t ∧ t.groupLocked g = false ∧
       sget false t.mod.locking g = true ∧ sget 0 t.mod.tries g = 0 ∧
       ∀ n < 12, ∀ i, modIntegrator n = some i →
         (t.modIn n).integ = if modGroup n = g then lockLatch b (if g = 0 then i else i - 2) else (s.modIn n).integ) ∧
     (ls.length ≠ 1 → sget 0 s.mod.tries g + 1 < s.rdf .mod R.MOD.CFG 7 0 →
       ∃ t, exec (.indexLock dt f b own) s = .next t ∧ sget 0 t.mod.tries g = sget 0 s.mod.tries g + 1 ∧
         t.regs = s.regs ∧ t.mod.ins = s.mod.ins) ∧
     (ls.length ≠ 1 → s.rdf .mod R.MOD.CFG 7 0 ≤ sget 0 s.mod.tries g + 1 →
       ∃ t, exec (.indexLock dt f b own) s = .next t ∧ sget 0 t.mod.tries g = 0 ∧ t.rdb .mod R.PAGE.FLAGS 11 = true ∧
         t.rdf .mod R.MOD.SWITCHES 31 16 = satAdd 16 (s.rdf .mod R.MOD.SWITCHES 31 16) 1 ∧ t.groupLocked g = false)))

/-- The outputs of the filters (R62, R116, R117, R239): the registered value is the rounded and saturated output of
the window's sum, at the bit that ends it, and only a sample whose bits were all valid is used. A write of an
event-input register (R67, R222, R281, R282): a module that accepts event inputs queues it for the tick after next
with the next MSEQ and changes no register yet; any other module discards it. The model's own choices in it: log
entries 2, 75 and 99. -/
def Obligations.FiltersAndEventWritesComplete : Prop :=
  ((∀ dt (n : Fin 12) w s y, s.running .mod = true → s.modEn n.val = true → 499950 ≤ (s.elapse dt).mt % 500000 →
     y = filterOut (sinc3Sum w 10000) (10000 ^ 3) (s.rdi .mod (R.MOD.IN_OFFS n.val)) 31 →
     ∃ t, exec (.stagePathSample dt n w) s = .next t ∧ t.rdi .mod (R.MOD.TSMP n.val) = y ∧
       t.rd64 .mod R.MOD.TSMP_TICK_LO R.MOD.TSMP_TICK_HI = s.tick % 2 ^ 64 ∧ t.mode = s.mode ∧
       (t.modIn n.val).tsmp = (if (s.modIn n.val).valid = true ∧ (s.modIn n.val).validFrom + 2 ≤ s.tick then
         some (s.tick, y) else (s.modIn n.val).tsmp) ∧
       ∀ m, m ≠ n.val → t.modIn m = s.modIn m) ∧
   (∀ dt (n : Fin 12) w s, s.running .mod = false ∨ s.modEn n.val = false ∨ (s.elapse dt).mt % 500000 < 499950 →
     exec (.stagePathSample dt n w) s = .next (s.elapse dt)) ∧
   (∀ dt (n : Fin 12) (w : BitWindow) s e y, e = s.elapse dt → s.running .mod = true → s.modEn n.val = true → (e.mt + 50) % 1600 ≤ 70 →
     (s.modIn n.val).fastBit < e.fastBit → y = filterOut (sinc2Sum w 32) (32 ^ 2) (s.rdi .mod (R.MOD.IN_OFFS n.val)) 15 →
     ∃ t, exec (.fastFilterOutput dt n w.ones w.sampled) s = .next t ∧ t.rdi .mod (R.MOD.FSMP n.val) = y ∧
       t.modIn n.val = { s.modIn n.val with
         fsmp := if s.supported n.val e.fastBit 64 then some y else none
         fastBit := e.fastBit } ∧
       (∀ m, m ≠ n.val → t.modIn m = s.modIn m) ∧ t.mode = s.mode) ∧
   (∀ dt (n : Fin 12) (w : BitWindow) s e, e = s.elapse dt → s.running .mod = false ∨ s.modEn n.val = false ∨ 70 < (e.mt + 50) % 1600 ∨
     e.fastBit ≤ (s.modIn n.val).fastBit → exec (.fastFilterOutput dt n w.ones w.sampled) s = .next e.protEval)) ∧
  (∀ c dt p o v s e, eventWriteOf c = some (dt, p, o, v) → e = s.elapse dt →
     (s.pageServed p = true → s.acceptsEvents = true → ∃ t, exec c s = .next t ∧
       t.events = s.events ++ [⟨max s.tdm.mseqOut s.tdm.mseqIn + 1, 0x0001, s.tick + 2, leBytes 4 (p.base + o) ++ leBytes 4 v.toNat⟩] ∧
       t.tdm.mseqOut = max s.tdm.mseqOut s.tdm.mseqIn + 1 ∧ t.regs = s.regs ∧ t.mode = s.mode ∧ t.prot = s.prot ∧ t.loops = s.loops) ∧
     (s.pageServed p = false ∨ s.acceptsEvents = false → exec c s = .next e))

/-! ### Set-points, loops and PWM -/

/-- A slot in RUN takes a sample that is due (R216, R217, R219): its output, its sample number and the end of its job
are those of the slot's law on the state as it stood; a slot that does not run, or whose sample is not due, keeps its
state. An update point of a pair (R229 to R231): a forced pair, a centre point that is not used, and a time that is
none of the pair's update points do nothing; an on-time that stood in the shadow register long enough loads, and the
levels of the period go out; the images of the slots are digested and sent every 1 ms (R233, R285). The model's own
choices in it: log entries 2, 34, 35, 36, 99 and 101. -/
def Obligations.ControlAndPwmComplete : Prop :=
  (∀ dt (n : Fin 8) x s e i, e = ((s.elapse dt).takeControl x).protEval → i = e.issueJob n.val (e.sampleEnd n.val) →
     ((e.slot n.val).mode ≠ 2 ∨ e.sampleDue n.val = false → exec (.controlSample dt n x) s = .next e) ∧
     ((e.slot n.val).mode = 2 → e.sampleDue n.val = true → ∃ t, exec (.controlSample dt n x) s = .next t ∧
       (t.slot n.val).smp = e.sampleNumber n.val ∧
       (t.slot n.val).u = (i.slotStep n.val (i.slot n.val) (e.sourceSample n.val) (e.target n.val).1).v.u ∧
       (t.slot n.val).done = max e.mt (e.loops.issued + 20) + 100 ∧ t.loops.issued = max e.mt (e.loops.issued + 20) ∧
       t.mode = s.mode ∧ t.sys.driveEn = e.sys.driveEn ∧ t.mram = s.mram ∧ t.sns = s.sns)) ∧
  ((∀ dt (m : Fin 8) c s e, e = (s.elapse dt).protEval → (e.pair m.val).forced = true ∨
     (c = true ∧ (e.rdb .pwm (R.PWM.PAIR_CFG m.val) 2 = false ∨ e.rdb .pwm (R.PWM.PAIR_CFG m.val) 3 = false)) ∨
     e.atUpdate m.val c = false ∨ e.mt ≤ (e.pair m.val).last →
     exec (.pwmUpdatePoint dt m c) s = .next e) ∧
   (∀ dt (m : Fin 8) s e v ton since a, e = (s.elapse dt).protEval → v = e.pair m.val → v.forced = false →
     v.shadow = some (ton, since) → since + 3 ≤ e.mt → e.atUpdate m.val false = true → v.last < e.mt →
     a = (if e.rdb .pwm (R.PWM.PAIR_CFG m.val) 2 then (e.pairPer m.val - ton) / 2 else 0) →
     ∃ t hi lo, exec (.pwmUpdatePoint dt m false) s = .next t ∧
       t.pair m.val = { v with
         shadow := none
         ton := ton
         live := true
         last := e.mt
         begins := a
         ends := a + ton } ∧
       t.rdn .pwm (R.PWM.ON m.val) = ton % 2 ^ 19 ∧ t.sent = .pwm m.val e.mt hi lo :: e.sent ∧
       (∀ k, k ≠ m.val → t.pair k = e.pair k)) ∧
   (∀ dt (m : Fin 8) s e v ton since, e = (s.elapse dt).protEval → v = e.pair m.val → v.forced = false →
     v.shadow = some (ton, since) → since + 3 ≤ e.mt → e.rdb .pwm (R.PWM.PAIR_CFG m.val) 2 = true →
     e.rdb .pwm (R.PWM.PAIR_CFG m.val) 3 = true → v.live = true → e.atUpdate m.val true = true → v.last < e.mt →
     ∃ t hi lo, exec (.pwmUpdatePoint dt m true) s = .next t ∧
       t.pair m.val = { v with
         shadow := none
         ton := ton
         last := e.mt
         ends := e.pairPer m.val / 2 + (ton + 1) / 2 } ∧ t.sent = .pwm m.val e.mt hi lo :: e.sent) ∧
   (∀ dt (m : Fin 8) s e, e = (s.elapse dt).protEval → (e.pair m.val).forced = false → (e.pair m.val).live = false →
     (e.pair m.val).shadow = none → exec (.pwmUpdatePoint dt m false) s = .next e) ∧
   (∀ s, s.mode.serves = true → s.fw.trial = false → s.mt % 1000000 ≤ 400 → s.loops.digestMs ≠ s.mt / 1000000 →
     ∃ t, exec .loopStateDigest s = .next t ∧ t.loops.digestMs = s.mt / 1000000 ∧
     (∀ n < 8, t.rdn (loopPage n) R.LOOP.DIGEST = crc32c (s.msImage n).2) ∧ t.mt = s.mt ∧ t.mod = s.mod ∧ t.events = s.events) ∧
   (∀ s, s.mode.serves = false ∨ 400 < s.mt % 1000000 ∨ s.loops.digestMs = s.mt / 1000000 → exec .loopStateDigest s = .next s))

/-- Pulse inputs (R223): a period gives x; in the active one in range gives the value, LOS_N of them in a row out of
range, or no edge for LOS_MS, the loss of signal. Set-point streams (R222, R224, R438): the active commits the COUNT
of a right frame and queues its value; while PFW_N is low it waits; a wrong one is dropped and counted; no frame for
TIMEOUT is the loss of the stream, accepted as an event input. The model's own choices in it: log entries 2, 14, 15
and 64. -/
def Obligations.PulsesAndStreamsComplete : Prop :=
  ((∀ dt (k : Fin 4) hi per s x e, e = s.elapse dt → s.spinOn k.val = true → s.mode.serves = true →
     e.spinX k.val hi per = (x, e) → s.acceptsEvents = false →
     ∃ t, exec (.spinPeriod dt k hi per) s = .next t ∧ t.spin k.val = { s.spin k.val with edge := edgeStamp e.mt } ∧
       t.rdn .spt (R.SPT.SPIN_X k.val) = x ∧ t.events = s.events) ∧
   (∀ dt (k : Fin 4) hi per s x e, e = s.elapse dt → s.spinOn k.val = true → s.mode.serves = true →
     e.spinX k.val hi per = (x, e) → s.acceptsEvents = true → 8000 ≤ per → per ≤ 800000000 →
     s.rdn .spt (R.SPT.SPIN_XMIN k.val) ≤ x → x ≤ s.rdn .spt (R.SPT.SPIN_XMAX k.val) → (s.spin k.val).los = false →
     ∃ t, exec (.spinPeriod dt k hi per) s = .next t ∧ t.rdn .spt (R.SPT.SPIN_X k.val) = x ∧
       t.spin k.val = { s.spin k.val with
         edge := edgeStamp e.mt
         inRange := 0
         outRange := 0
         val := satS 24 (roundAway ((qv 23 (s.rdi .spt (R.SPT.SPIN_OFFS k.val)) + qv 24 (s.rdi .spt (R.SPT.SPIN_GAIN k.val)) *
           qv 16 ((x : Int) - s.rdn .spt (R.SPT.SPIN_X0 k.val))) * 8388608)) }) ∧
   (∀ dt (k : Fin 4) hi per s x e, e = s.elapse dt → s.spinOn k.val = true → s.mode.serves = true →
     e.spinX k.val hi per = (x, e) → s.acceptsEvents = true →
     per < 8000 ∨ 800000000 < per ∨ x < s.rdn .spt (R.SPT.SPIN_XMIN k.val) ∨ s.rdn .spt (R.SPT.SPIN_XMAX k.val) < x →
     ∃ t, exec (.spinPeriod dt k hi per) s = .next t ∧ (t.spin k.val).val = (s.spin k.val).val ∧
       (t.spin k.val).los = ((s.spin k.val).los || decide (s.rdf .spt (R.SPT.SPIN_CFG k.val) 15 8 ≤ (s.spin k.val).outRange + 1)) ∧
       (t.spin k.val).edge = edgeStamp e.mt) ∧
   (∀ dt (k : Fin 4) hi per s, s.spinOn k.val = false ∨ s.mode.serves = false →
     exec (.spinPeriod dt k hi per) s = .next (s.elapse dt)) ∧
   (∀ dt (k : Fin 4) s e, e = s.elapse dt → s.spinOn k.val = true → s.acceptsEvents = true →
     (s.spin k.val).edge + s.rdf .spt (R.SPT.SPIN_CFG k.val) 31 16 * 800000 ≤ edgeStamp e.mt →
     exec (.spinLosTimeout dt k) s = .next (e.setSpin k.val { s.spin k.val with
       los := true
       inRange := 0
       outRange := 0 })) ∧
   (∀ dt (k : Fin 4) s e, e = s.elapse dt → s.spinOn k.val = false ∨ s.acceptsEvents = false ∨
     edgeStamp e.mt < (s.spin k.val).edge + s.rdf .spt (R.SPT.SPIN_CFG k.val) 31 16 * 800000 →
     exec (.spinLosTimeout dt k) s = .next e)) ∧
  ((∀ dt (k : Fin 8) b s e, e = s.elapse dt → s.streamOn k.val = true → s.acceptsEvents = true →
     s.streamOk k.val b = true → s.sys.pfwLow = false → ∃ t, exec (.setPointStreamFrame dt k b) s = .next t ∧
       (sget {} t.mram.streams k.val).value = leAt b 4 8 ∧ (t.stream k.val).count = leAt b 4 8 ∧ (t.stream k.val).lastMt = e.mt ∧ (t.stream k.val).los = false ∧
       (t.stream k.val).val = signed 32 (leAt b 0x0C 4) ∧ t.tdm.mseqOut = max s.tdm.mseqOut s.tdm.mseqIn + 1 ∧
       t.events = s.events ++ [⟨max s.tdm.mseqOut s.tdm.mseqIn + 1, 0x0003, s.tick + 2,
         streamItem k.val false (leAt b 0x0C 4) (leAt b 4 8)⟩]) ∧
   (∀ dt (k : Fin 8) b s e, e = s.elapse dt → s.streamOn k.val = true → s.acceptsEvents = true →
     s.streamOk k.val b = true → s.sys.pfwLow = true → exec (.setPointStreamFrame dt k b) s =
       .next (e.setStream k.val { s.stream k.val with wait := some b })) ∧
   (∀ dt (k : Fin 8) b s e, e = s.elapse dt → s.streamOn k.val = true → s.acceptsEvents = true →
     s.streamOk k.val b = false → exec (.setPointStreamFrame dt k b) s = .next ((e.inc .spt R.SPT.STREJ).flag .spt 10)) ∧
   (∀ dt (k : Fin 8) b s, s.streamOn k.val = false ∨ s.acceptsEvents = false →
     exec (.setPointStreamFrame dt k b) s = .next (s.elapse dt)) ∧
   (∀ dt (k : Fin 8) s e, e = s.elapse dt → s.streamOn k.val = true → s.acceptsEvents = true → (s.stream k.val).los = false →
     (s.stream k.val).lastMt + s.rdf .spt (R.SPT.STR_CFG k.val) 31 16 * 1000000 ≤ e.mt →
     ∃ t, exec (.streamTimeout dt k) s = .next t ∧ t.stream k.val = { s.stream k.val with los := true } ∧
       t.events.length = s.events.length + 1 ∧ t.mram = s.mram ∧ t.regs = s.regs) ∧
   (∀ dt (k : Fin 8) s e, e = s.elapse dt → s.streamOn k.val = false ∨ s.acceptsEvents = false ∨ (s.stream k.val).los = true ∨
     e.mt < (s.stream k.val).lastMt + s.rdf .spt (R.SPT.STR_CFG k.val) 31 16 * 1000000 →
     exec (.streamTimeout dt k) s = .next e))

/-! ### Balancing, cell thermal, safety inputs and the safety layer -/

/-- The Espiton frame a command brings: the time before it, its source and address there, and its bytes. -/
def espitonOf : Instr → Option (Nat × NetSource × BitVec 16 × List Byte)
  | .espitonData dt src b => some (dt, src.net, src.addr, b)
  | .espitonEcho dt src b => some (dt, src.net, src.addr, b)
  | _ => none

/-- The connections among `cs` that use their address for a frame's TYPE, or all of them where none does. -/
def typedConns (s : State) (cs : List Nat) (f : List Byte) : List Nat :=
  if cs.filter (fun k => byteAt f 1 = if s.connProd k then 2 else 1) = [] then cs
  else cs.filter (fun k => byteAt f 1 = if s.connProd k then 2 else 1)

/-- Balancing and its impedance results (R203, R204, R207, R214): what a channel's tones give, or that their window did not
qualify; a block is lifted only where it is named; ZSEL latches what its channel holds. Cell thermal (R210, R212, R214):
RESTORE returns the named BROKEN sensors and no other; MSEL latches the nodes of its channel; a cooling temperature that is
not renewed for STALE seconds is flagged once. The model's own choices in it: log entries 2, 12, 90 and 93. -/
def Obligations.BalancingAndCellThermalComplete : Prop :=
  ((∀ dt s, s.bal.zdue = none → exec (.impedancePublished dt) s = .next (s.elapse dt)) ∧
   (∀ dt s te, s.bal.zdue = some te → ∃ t, exec (.impedancePublished dt) s = .next t ∧ t.bal.zdue = none ∧
     t.bal.zframe = te / 4000 ∧ t.way.entries.length = s.way.entries.length + 1 ∧ t.est = s.est ∧ t.bal.cmd = s.bal.cmd ∧
     ∀ c ∈ s.presentChans, ∀ m < 4, (sget [] t.bal.z c).getD m {} =
       if s.rdb .bal R.BAL.ZCFG (16 + m) then
         match s.toneResult te c m with
         | some (re, im) => { re := satS 32 re, im := satS 32 im, age := 0 }
         | none => { (sget [] s.bal.z c).getD m {} with age := min (((sget [] s.bal.z c).getD m {}).age + 1) 255 }
       else (sget [] s.bal.z c).getD m {}) ∧
   (∀ dt ch s, s.pageServed .bal = true → ∃ t, exec (.unblock dt ch) s = .next t ∧
     t.bal = { s.bal with blocked := s.bal.blocked.filter (fun c => !decide (c = ch.val)) } ∧
     t.rdf .bal R.BAL.STAT 19 10 = t.bal.blocked.length % 1024 ∧
     (ch.val ∈ s.bal.blocked → t.rdb .bal (R.BAL.BLOCK (ch.val / 32)) (ch.val % 32) = false) ∧
     ∀ c < 512, c ≠ ch.val → t.rdb .bal (R.BAL.BLOCK (c / 32)) (c % 32) = s.rdb .bal (R.BAL.BLOCK (c / 32)) (c % 32)) ∧
   (∀ dt s, s.pageServed .bal = true → ∃ t, exec (.unblockAll dt) s = .next t ∧ t.bal = { s.bal with blocked := [] } ∧
     t.rdf .bal R.BAL.STAT 19 10 = 0 ∧
     ∀ c ∈ s.bal.blocked, c < 512 → t.rdb .bal (R.BAL.BLOCK (c / 32)) (c % 32) = false) ∧
   (∀ dt ch s, s.pageServed .bal = true → ∃ t, exec (.zselLatch dt ch) s = .next t ∧ t.rdn .bal R.BAL.ZSEL = ch.val ∧
     t.bal = s.bal ∧ t.rd64 .bal R.BAL.ZFRAME_LO R.BAL.ZFRAME_HI = s.bal.zframe % 2 ^ 64 ∧
     ∀ m < 4, t.rdi .bal (R.BAL.ZRE m) = signed 32 (unsign 32 ((sget [] s.bal.z ch.val).getD m {}).re) ∧
       t.rdi .bal (R.BAL.ZIM m) = signed 32 (unsign 32 ((sget [] s.bal.z ch.val).getD m {}).im)) ∧
   (∀ dt ch s, s.pageServed .bal = false → exec (.unblock dt ch) s = .next (s.elapse dt) ∧
     exec (.unblockAll dt) s = .next (s.elapse dt) ∧ exec (.zselLatch dt ch) s = .next (s.elapse dt))) ∧
  ((∀ dt ch b0 b1 s, s.pageServed .cth = true → ∃ t, exec (.sensorRestore dt ch b0 b1) s = .next t ∧
     (t.therm ch.val).s0.st = (if b0 = true ∧ (s.therm ch.val).s0.st = 2 then 0 else (s.therm ch.val).s0.st) ∧
     (t.therm ch.val).s1.st = (if b1 = true ∧ (s.therm ch.val).s1.st = 2 then 0 else (s.therm ch.val).s1.st) ∧
     (∀ c, c ≠ ch.val → t.therm c = s.therm c) ∧ t.mode = s.mode) ∧
   (∀ dt ch s c, s.pageServed .cth = true → c = (fun x => unsign 16 (satS 16 (roundAway (node64 x)))) →
     ∃ t, exec (.mselLatch dt ch) s = .next t ∧ t.rdn .cth R.CTH.MSEL = ch.val ∧ t.cth = s.cth ∧
       t.rdn .cth R.CTH.TMOD = c (s.therm ch.val).tc * 65536 + c (s.therm ch.val).ts) ∧
   (∀ dt ch b0 b1 s, s.pageServed .cth = false → exec (.sensorRestore dt ch b0 b1) s = .next (s.elapse dt) ∧
     exec (.mselLatch dt ch) s = .next (s.elapse dt)) ∧
   (∀ dt (z : Fin 4) s e, e = s.elapse dt → s.running .cth = true → s.rdb .cth (R.CTH.ZONE_RANGE z.val) 31 = true →
     z.val ∉ s.cth.stale →
     sget 0 s.cth.coolMt z.val + s.rdf .cth (R.CTH.ZONE_COOL z.val) 31 16 * 1000000000 ≤ e.mt →
     ∃ t, exec (.zoneStale dt z) s = .next t ∧ t.cth.stale = z.val :: s.cth.stale ∧
       t.rdb .cth (R.CTH.DEM z.val) 25 = true ∧ t.rdb .cth R.PAGE.FLAGS 10 = true ∧
       t.rdn .cth R.CTH.NOCOOLS = satAdd 32 (s.rdn .cth R.CTH.NOCOOLS) 1 ∧ t.prot = s.prot) ∧
   (∀ dt (z : Fin 4) s e, e = s.elapse dt → s.running .cth = false ∨ s.rdb .cth (R.CTH.ZONE_RANGE z.val) 31 = false ∨
     z.val ∈ s.cth.stale ∨ e.mt < sget 0 s.cth.coolMt z.val + s.rdf .cth (R.CTH.ZONE_COOL z.val) 31 16 * 1000000000 →
     exec (.zoneStale dt z) s = .next e))

/-- Test windows and the fault reset (R253 to R258, R262): a window closes once; an unverified one is counted and
judges nothing; in a verified one a channel that its open output does not pull low, and one that falls without being
fed, latch a fault; a stuck reset is flagged once and ends after 2,000 inactive samples. The model's own choices in
it: log entries 2, 37, 38 and 105. -/
def Obligations.SafetyInputsComplete : Prop :=
  (∀ dt k x s, (∀ w, s.safe.win = some w → w.k ≠ k.val ∨ (s.elapse dt).mt < w.tick * 500000 + 300000) →
    exec (.testWindowClose dt k x) s = .next (s.elapse dt)) ∧
  (∀ dt (k : Fin 8) x s w, s.safe.win = some w → w.k = k.val → w.tick * 500000 + 300000 ≤ (s.elapse dt).mt →
    s.running .safe = true → s.mode.serves = true → (s.elapse dt).windowVerified w = false →
    ∃ t, exec (.testWindowClose dt k x) s = .next t ∧ t.safe.win = none ∧ t.rdb .safe R.SAFE.TPST (8 + k.val) = false ∧
      t.rdn .safe R.SAFE.UNVER = satAdd 32 (s.rdn .safe R.SAFE.UNVER) 1 ∧ t.mode = s.mode) ∧
  (∀ dt (k : Fin 8) x s w l2 l3, s.safe.win = some w → w.k = k.val → w.tick * 500000 + 300000 ≤ (s.elapse dt).mt →
    s.running .safe = true → s.mode.serves = true → (s.elapse dt).windowVerified w = true → s.safe.resetTick = none →
    l2 = (s.takeReads x.to200).pinLevels → l3 = ((s.takeReads x.to200).takeReads x.to300).pinLevels →
    ∃ t, exec (.testWindowClose dt k x) s = .next t ∧ t.safe.win = none ∧ t.rdb .safe R.SAFE.TPST (8 + k.val) = true ∧
      t.rdn .safe R.SAFE.UNVER = s.rdn .safe R.SAFE.UNVER ∧
      ∀ n < 16, s.inEn n = true → s.inVirtual n = false →
        (s.tpA n = k.val ∧ l2.testBit n = true) ∨ (s.tpB n = k.val ∧ l2.testBit (16 + n) = true) ∨
        (s.tpA n ≠ k.val ∧ w.l0.testBit n = true ∧ l2.testBit n = false ∧ l3.testBit n = true) ∨
        (s.tpB n ≠ k.val ∧ w.l0.testBit (16 + n) = true ∧ l2.testBit (16 + n) = false ∧ l3.testBit (16 + n) = true) →
        (t.safeIn n).fault = true) ∧
  (∀ dt s, s.running .safe = true → s.safe.stuck = false → 6001 ≤ s.safe.rstN → ∃ t, exec (.stuckReset dt) s = .next t ∧
    t.safe.stuck = true ∧ t.rdb .safe R.SAFE.RST 1 = true ∧ t.rdb .safe R.PAGE.FLAGS 11 = true ∧ t.prot = s.prot) ∧
  (∀ dt s, s.running .safe = false ∨ s.safe.stuck = true ∨ s.safe.rstN < 6001 →
    exec (.stuckReset dt) s = .next (s.elapse dt)) ∧
  (∀ dt s, s.safe.stuck = true → 2000 ≤ s.safe.inact → ∃ t, exec (.stuckResetEnd dt) s = .next t ∧
    t.safe = { s.safe with stuck := false } ∧ t.rdb .safe R.SAFE.RST 1 = false ∧ t.prot = s.prot) ∧
  (∀ dt s, s.safe.stuck = false ∨ s.safe.inact < 2000 → exec (.stuckResetEnd dt) s = .next (s.elapse dt))

/-- Only an active that is not fenced judges Espiton frames (R272), and only those that reach a connection's address (R267);
one whose CONN names no connection there is counted (R268), and one of wrong form or check is rejected with its code and
counted for its connection (R268, R271). Espiton frames of right form and check (R268, R271, R272): a DATA frame that is
young enough and in sequence, and an ECHO frame that is new, become event inputs; the active sends a producer's DATA and a
consumer's ECHO with the next SEQ. The model's own choices in it: log entries 2, 16, 39 and 40. -/
def Obligations.EspitonFramesComplete : Prop :=
  (∀ c dt src a f s e cs ks, espitonOf c = some (dt, src, a, f) → e = s.elapse dt → cs = s.espConns src a.toNat →
     ks = (typedConns s cs f).filter (fun k => 8 ≤ f.length && s.rdn .slay (R.SLAY.CON_ID k) = leAt f 4 4) →
     (s.running .slay = false ∨ s.mode ≠ .active ∨ s.tdm.fenced = true ∨ cs = [] → exec c s = .next e) ∧
     (s.running .slay = true → s.mode = .active → s.tdm.fenced = false → cs ≠ [] → ks = [] →
       exec c s = .next ((e.inc .slay R.SLAY.NOCONN).flag .slay 10)) ∧
     ∀ k r ty len, ks = k :: r → s.running .slay = true → s.mode = .active → s.tdm.fenced = false →
       ty = (if s.connProd k then 2 else 1) → len = (if ty = 1 then s.connLen k else 0) →
       (byteAt f 0 ≠ 1 ∨ byteAt f 1 ≠ ty ∨ leAt f 2 2 ≠ len ∨ f.length ≠ 20 + len →
         ∃ t, exec c s = .next t ∧ (t.conn k).lastRej = 5 ∧ (t.conn k).data = (s.conn k).data ∧ (t.conn k).st = (s.conn k).st ∧
           t.rdn .slay (R.SLAY.REJ k) = satAdd 32 (s.rdn .slay (R.SLAY.REJ k)) 1) ∧
       (byteAt f 0 = 1 → byteAt f 1 = ty → leAt f 2 2 = len → f.length = 20 + len →
         leAt f (16 + len) 4 ≠ espCheck (leAt f 4 4) s.pairId (f.take (16 + len)) →
         ∃ t, exec c s = .next t ∧ (t.conn k).lastRej = 1 ∧ (t.conn k).data = (s.conn k).data ∧ (t.conn k).st = (s.conn k).st ∧
           t.rdn .slay (R.SLAY.REJ k) = satAdd 32 (s.rdn .slay (R.SLAY.REJ k)) 1)) ∧
  ((∀ c dt src a f (s : State) e k r len et wd, espitonOf c = some (dt, src, a, f) → e = s.elapse dt →
     s.running .slay = true → s.mode = .active → s.tdm.fenced = false →
     (typedConns s (s.espConns src a.toNat) f).filter (fun k => 8 ≤ f.length && s.rdn .slay (R.SLAY.CON_ID k) = leAt f 4 4) =
       k :: r → s.connProd k = false →
     len = s.connLen k → byteAt f 0 = 1 → byteAt f 1 = 1 → leAt f 2 2 = len → f.length = 20 + len →
     leAt f (16 + len) 4 = espCheck (leAt f 4 4) s.pairId (f.take (16 + len)) → et = mtExtend (leAt f 12 4) e.mt →
     wd = (s.rdf .slay (R.SLAY.CON_WD k) 15 0 * 1000000 : Int) → et ≤ (e.mt : Int) → (e.mt : Int) - et ≤ wd →
     (s.conn k).jst = 1 ∨ ((s.conn k).jst = 2 ∧ signed 32 (unsign 32 ((leAt f 8 4 : Int) - (s.conn k).jseq)) = 1 ∧
       1 ≤ s.rdf .slay R.SLAY.CFG 7 0) →
     ∃ t, exec c s = .next t ∧ (t.conn k).jst = 2 ∧ (t.conn k).jseq = leAt f 8 4 ∧
       (t.conn k).errrun = 0 ∧ (t.conn k).data = (s.conn k).data ∧
       t.events = s.events ++ [⟨max s.tdm.mseqOut s.tdm.mseqIn + 1, 0x0004, s.tick + 2,
         espItem k 1 (leAt f 8 4) (et + wd) f⟩]) ∧
   (∀ c dt src a f (s : State) k r, espitonOf c = some (dt, src, a, f) → s.running .slay = true → s.mode = .active →
     s.tdm.fenced = false →
     (typedConns s (s.espConns src a.toNat) f).filter (fun k => 8 ≤ f.length && s.rdn .slay (R.SLAY.CON_ID k) = leAt f 4 4) =
       k :: r → s.connProd k = true →
     byteAt f 0 = 1 → byteAt f 1 = 2 → leAt f 2 2 = 0 → f.length = 20 →
     leAt f 16 4 = espCheck (leAt f 4 4) s.pairId (f.take 16) → (s.conn k).jecho = none →
     ∃ t, exec c s = .next t ∧ (t.conn k).jecho = some (leAt f 8 4) ∧ (t.conn k).jtecho = leAt f 12 4 ∧
       t.events = s.events ++ [⟨max s.tdm.mseqOut s.tdm.mseqIn + 1, 0x0004, s.tick + 2, espItem k 2 (leAt f 8 4) 0 f⟩]) ∧
   (∀ dt (k : Fin 8) s e q, e = s.elapse dt → s.running .slay = true → s.connEn k.val = true → s.mode = .active →
     s.tdm.fenced = false → s.connProd k.val = true → s.rdb .slay (R.SLAY.CON_CFG k.val) 7 = false →
     q = ((s.conn k.val).txData + 1) % 2 ^ 32 →
     ∃ t, exec (.espitonPeriod dt k) s = .next t ∧ (t.conn k.val).txData = q ∧
       Msg.espiton k.val (s.espFrame 1 (s.rdn .slay (R.SLAY.CON_ID k.val)) q (s.conn k.val).jtecho e.statusRecord) ∈ t.sent ∧
       t.events = s.events ++ [⟨max s.tdm.mseqOut s.tdm.mseqIn + 1, 0x0004, s.tick + 2, espItem k.val 3 q 0 []⟩]) ∧
   (∀ dt (k : Fin 8) s e q, e = s.elapse dt → s.running .slay = true → s.connEn k.val = true → s.mode = .active →
     s.tdm.fenced = false → s.connProd k.val = false → q = ((s.conn k.val).txEcho + 1) % 2 ^ 32 →
     ∃ t, exec (.espitonPeriod dt k) s = .next t ∧ (t.conn k.val).txEcho = q ∧
       Msg.espiton k.val (s.espFrame 2 (s.rdn .slay (R.SLAY.CON_ID k.val)) q (e.mt % 2 ^ 32) []) ∈ t.sent ∧
       t.events = s.events ++ [⟨max s.tdm.mseqOut s.tdm.mseqIn + 1, 0x0004, s.tick + 2, espItem k.val 4 q 0 []⟩]) ∧
   (∀ dt (k : Fin 8) s, s.running .slay = false ∨ s.connEn k.val = false ∨ s.mode ≠ .active ∨ s.tdm.fenced = true →
     exec (.espitonPeriod dt k) s = .next (s.elapse dt)))

/-! ### The witness -/

/-- The witness request a command brings: the time before it, its KIND, its bytes and the source it came by. -/
def witRequestOf : Instr → Option (Nat × Nat × List Byte × NetSource)
  | .witnessProbe dt b src => some (dt, 1, b, src)
  | .witnessRenew dt b src => some (dt, 2, b, src)
  | .witnessAcquire dt b src => some (dt, 3, b, src)
  | .witnessYield dt b src => some (dt, 4, b, src)
  | _ => none

/-- The table of R297: a request of KIND `kind` from holder code `me` for a term, at a time, at a witness that is
quiet or not, turns the entry `v` into `w` and is answered with KIND `k` and REASON `r`. -/
def witTable (kind me term now : Nat) (quiet : Bool) (v w : WitPair) (k r : Nat) : Prop :=
  (quiet = true ∧ w = v ∧ k = 0x83 ∧ r = 3) ∨
  (quiet = false ∧ kind = 1 ∧ w = v ∧ k = 0x81 ∧ r = 0) ∨
  (quiet = false ∧ kind = 4 ∧ v.holder = me ∧ v.term = term ∧ w = { v with expiry := now } ∧ k = 0x81 ∧ r = 0) ∨
  (quiet = false ∧ kind = 4 ∧ (v.holder ≠ me ∨ v.term ≠ term) ∧ w = v ∧ k = 0x83 ∧ r = 4) ∨
  (quiet = false ∧ (kind = 2 ∨ kind = 3) ∧ v.holder = me ∧ v.term = term ∧ w = { v with expiry := now + 20000000 } ∧
    k = 0x82 ∧ r = 0) ∨
  (quiet = false ∧ kind = 2 ∧ (v.holder ≠ me ∨ v.term ≠ term) ∧ w = v ∧ k = 0x83 ∧ r = 4) ∨
  (quiet = false ∧ kind = 3 ∧ (v.holder ≠ me ∨ v.term ≠ term) ∧ now < v.expiry ∧ w = v ∧ k = 0x83 ∧ r = 1) ∨
  (quiet = false ∧ kind = 3 ∧ (v.holder ≠ me ∨ v.term ≠ term) ∧ v.expiry ≤ now ∧ term ≤ v.term ∧ w = v ∧ k = 0x83 ∧
    r = 2) ∨
  (quiet = false ∧ kind = 3 ∧ v.expiry ≤ now ∧ v.term < term ∧
    w = { v with expiry := now + 20000000, term := term, holder := me } ∧ k = 0x82 ∧ r = 0)

/-- A witness request (R295 to R297): one that came by a network it does not serve does nothing, one that R296 drops is only
counted, and any other is answered by the table of R297, with the entry as it then stands, under the pair's key. The replies
of the witness (R295, R298, R304 to R306): one that answers no open request does nothing; any other closes its request; a
grant gives the lease until t_lease − t_guard after the request; a refusal for a live lease starts the back-off, one that
names the peer fences an active, and a quiet witness is a double fault of a standby whose peer is silent. The model's own
choices in it: log entries 2 and 107. -/
def Obligations.WitnessAnswersComplete : Prop :=
  (∀ c dt kind m src s e, witRequestOf c = some (dt, kind, m, src) → e = s.elapse dt →
     (s.witServes src = false → exec c s = .next e) ∧
     (s.witServes src = true → e.witDrops kind m = true → exec c s = .next ((e.inc .wit R.WIT.REJECTS).flag .wit 10)) ∧
     ∀ p key v w k r, s.witServes src = true → e.witDrops kind m = false → s.witEntry (leAt m 8 8) = some p →
       s.keyOf (s.rdf .wit R.WIT.CFG 2 0) = some key →
       v = (if byteAt m 2 % 2 = 1 then { s.witPair p with seqB := leAt m 0x18 8 }
         else { s.witPair p with seqA := leAt m 0x18 8 }) →
       witTable kind (byteAt m 2 % 2 + 1) (leAt m 0x10 4) e.mt s.wit.quiet v w k r →
       ∃ t, exec c s = .next t ∧ t.witPair p = w ∧ (∀ q, q ≠ p → t.witPair q = s.witPair q) ∧ t.tdm = s.tdm ∧ t.mode = s.mode ∧
         Msg.witnessReply src (witMessage key k w.holder r (leAt m 4 4) (leAt m 8 8) w.term
           (if e.mt < w.expiry then (w.expiry - e.mt) / 1000 else 0) (leAt m 0x18 8)) ∈ t.sent ∧
         t.rdn .wit R.WIT.REFUSALS = (if k = 0x83 then satAdd 32 (s.rdn .wit R.WIT.REFUSALS) 1 else s.rdn .wit R.WIT.REFUSALS)) ∧
  ((∀ dt b s e, e = s.elapse dt → (e.replyEntry 0x81 b = none → exec (.witnessState dt b) s = .next e) ∧
     (e.replyEntry 0x82 b = none → exec (.leaseGranted dt b) s = .next e) ∧
     (e.replyEntry 0x83 b = none → exec (.leaseRefused dt b) s = .next e)) ∧
   (∀ dt b s e n, e = s.elapse dt → e.replyEntry 0x81 b = some n → ∃ t, exec (.witnessState dt b) s = .next t ∧
     t.tdm.term = max s.tdm.term (leAt b 0x10 4) ∧ (∀ x ∈ t.tdm.probes, x.2 ≠ leAt b 0x18 8) ∧
     t.tdm.unanswered = (if n = s.tdm.widx then 0 else s.tdm.unanswered) ∧ (∃ m, (n, m) ∈ t.tdm.answering) ∧
     t.tdm.held = s.tdm.held ∧ t.mode = s.mode ∧ (s.mode ≠ .standby ∨ s.tdm.silent = false → t.regs = s.regs)) ∧
   (∀ dt b s e, e = s.elapse dt → e.replyEntry 0x82 b = some s.tdm.widx → s.mode = .active →
     ∃ t, exec (.leaseGranted dt b) s = .next t ∧ t.tdm.held = true ∧ t.tdm.viewEnd = leAt b 0x18 8 + 20000000 - 1000000 ∧
       t.tdm.lastGrant = e.mt ∧ t.tdm.witLost = false ∧ t.mode = .active) ∧
   (∀ dt b s e, e = s.elapse dt → e.replyEntry 0x83 b = some s.tdm.widx → byteAt b 3 = 1 →
     ∃ t, exec (.leaseRefused dt b) s = .next t ∧ t.tdm.backoffUntil = e.mt + leAt b 0x14 4 * 1000 ∧ t.mode = s.mode) ∧
   (∀ dt b s e, e = s.elapse dt → e.replyEntry 0x83 b = some s.tdm.widx → s.mode = .active → s.tdm.fenced = false →
     byteAt b 2 % 4 ≠ 0 → byteAt b 2 % 4 ≠ b2n s.posB + 1 →
     ∃ t, exec (.leaseRefused dt b) s = .next t ∧ t.tdm.fenced = true ∧ t.sys = e.dropDrive.sys ∧ t.tdm.held = false ∧
       t.rdb .tdm R.PAGE.FLAGS 16 = true ∧ t.mode = .active ∧ t.prot = s.prot) ∧
   (∀ dt b s e, e = s.elapse dt → e.replyEntry 0x83 b = some s.tdm.widx → s.mode = .standby → s.tdm.silent = true →
     byteAt b 3 = 3 → ∃ t, exec (.leaseRefused dt b) s = .next t ∧ t.tdm.double = true ∧ t.mode = .standby ∧
       (s.tdm.double = false → t.rdb .tdm R.PAGE.FLAGS 14 = true)))

/-- The pair's requests and timers (R296, R298, R299): the active renews, a standby probes and counts what is unanswered; a
back-off, a view of the lease and the quiet time end at their times; the loss of a witness proposes the next entry, or is a
double fault of a standby whose peer is silent; an earlier entry returns. The model's own choices in it: log entries 2 and
107. -/
def Obligations.WitnessTimersComplete : Prop :=
  (∀ dt s key q e, e = s.elapse dt → s.mode = .active → s.tandemed = true → s.tdm.renewMt + 5000000 ≤ e.mt →
    s.keyOf (s.rdf .tdm R.TDM.WIT 2 0) = some key → q = (if s.tdm.witSeq < e.mt then e.mt else s.tdm.witSeq + 1) →
    ∃ t, exec (.renewTimer dt) s = .next t ∧ t.tdm = { s.tdm with
        renewMt := e.mt
        witSeq := q
        asked := some (2, q) } ∧
      Msg.witnessAsk s.tdm.widx (witMessage key 2 (b2n s.posB) 0 (s.rdn .tdm (R.TDM.WLIST_ID s.tdm.widx)) s.pairId s.tdm.term 0 q)
        ∈ t.sent) ∧
  (∀ dt s, s.mode ≠ .active ∨ s.tandemed = false ∨ (s.elapse dt).mt < s.tdm.renewMt + 5000000 →
    exec (.renewTimer dt) s = .next (s.elapse dt)) ∧
  (∀ dt s, s.mode = .active → s.tandemed = true → s.tdm.renewMt + 5000000 ≤ (s.elapse dt).mt →
    s.keyOf (s.rdf .tdm R.TDM.WIT 2 0) = none → exec (.renewTimer dt) s = .next { s.elapse dt with
      tdm := { s.tdm with renewMt := (s.elapse dt).mt } }) ∧
  (∀ dt s, s.mode = .standby → s.tandemed = true →
    s.tdm.probeMt + s.rdf .tdm R.TDM.WIT 31 16 * 1000000 ≤ (s.elapse dt).mt →
    ∃ t, exec (.probeTimer dt) s = .next t ∧ t.mode = .standby ∧ t.tdm.probeMt = (s.elapse dt).mt ∧
    t.tdm.unanswered = (if ∃ x ∈ s.tdm.probes, x.1 = s.tdm.widx then s.tdm.unanswered + 1 else 0) ∧
    t.tdm.widx = s.tdm.widx ∧ t.tdm.held = s.tdm.held) ∧
  (∀ dt s key, s.mode = .active → s.tandemed = true → s.tdm.probeAllMt + 1000000000 ≤ (s.elapse dt).mt →
    s.keyOf (s.rdf .tdm R.TDM.WIT 2 0) = some key → ∃ t, exec (.probeTimer dt) s = .next t ∧ t.mode = .active ∧
    t.tdm.probeAllMt = (s.elapse dt).mt ∧ (∀ n < s.nlist, ∃ q, (n, q) ∈ t.tdm.probes) ∧ t.tdm.widx = s.tdm.widx ∧
    t.tdm.held = s.tdm.held) ∧
  (∀ dt s, s.mode = .active → (s.elapse dt).mt < s.tdm.probeAllMt + 1000000000 →
    exec (.probeTimer dt) s = .next (s.elapse dt)) ∧
  (∀ dt s, s.mode.runsString = false ∨ s.tandemed = false → exec (.probeTimer dt) s = .next (s.elapse dt)) ∧
  (∀ dt s e, e = s.elapse dt → s.wit.quietEnd ≤ e.mt → exec (.witnessQuietEnd dt) s = .next { e with
    wit := { s.wit with quiet := false } }) ∧
  (∀ dt s e, e = s.elapse dt → e.mt < s.wit.quietEnd → exec (.witnessQuietEnd dt) s = .next e) ∧
  (∀ dt s e, e = s.elapse dt → s.tdm.backoffUntil ≤ e.mt → s.tandemed = true → ∃ t, exec (.backoffExpiry dt) s = .next t ∧
    t.tdm.backoffUntil = 0 ∧ t.mode = s.mode ∧ t.tdm.held = s.tdm.held) ∧
  (∀ dt s e, e = s.elapse dt → e.mt < s.tdm.backoffUntil ∨ s.tandemed = false → exec (.backoffExpiry dt) s = .next e) ∧
  (∀ dt s e, e = s.elapse dt → s.tdm.viewEnd ≤ e.mt → exec (.leaseViewExpiry dt) s = .next { e with
    tdm := { s.tdm with held := false } }) ∧
  (∀ dt s e, e = s.elapse dt → e.mt < s.tdm.viewEnd → exec (.leaseViewExpiry dt) s = .next e) ∧
  (∀ dt s e alone, e = s.elapse dt → s.tandemed = true → s.tdm.witLost = false → s.mode = .active →
    s.tdm.lastGrant + 15000000 ≤ e.mt → alone = (s.tdm.silent || !s.tdm.peer.heard) →
    ∃ t, exec (.witnessLost dt) s = .next t ∧ t.rdb .tdm R.PAGE.FLAGS 13 = true ∧ t.mode = .active ∧
      (s.nextEntry = s.tdm.widx → t.tdm.witLost = true ∧ t.tdm.widx = s.tdm.widx ∧ t.tdm.held = s.tdm.held) ∧
      (s.nextEntry ≠ s.tdm.widx → t.tdm.widxProposed = s.nextEntry ∧
        t.tdm.widx = (if alone then s.nextEntry else s.tdm.widx) ∧
        t.tdm.held = (if alone then false else s.tdm.held))) ∧
  (∀ dt s, s.tandemed = false ∨ s.tdm.witLost = true ∨ s.mode.runsString = false →
    exec (.witnessLost dt) s = .next (s.elapse dt)) ∧
  (∀ dt s, s.tandemed = true → s.tdm.witLost = false → s.mode = .standby → 3 ≤ s.tdm.unanswered →
    ∃ t, exec (.witnessLost dt) s = .next t ∧ t.tdm.witLost = true ∧ t.tdm.held = s.tdm.held ∧ t.rdb .tdm R.PAGE.FLAGS 13 = true ∧
      t.tdm.double = (s.tdm.double || s.tdm.silent) ∧ t.mode = .standby) ∧
  (∀ dt (n : Fin 4) s e, e = s.elapse dt → s.mode = .active → s.tandemed = true → n.val < s.tdm.widx →
    s.tdm.widxProposed = s.tdm.widx →
    (∃ x ∈ s.tdm.answering, x.1 = n.val ∧ x.2 + 60000000000 ≤ e.mt) →
    ∃ t, exec (.witnessReturn dt n) s = .next t ∧ t.tdm.widxProposed = n.val ∧ t.mode = .active) ∧
  (∀ dt (n : Fin 4) s, s.mode ≠ .active ∨ s.tandemed = false ∨ s.tdm.widx ≤ n.val ∨ s.tdm.widxProposed ≠ s.tdm.widx →
    exec (.witnessReturn dt n) s = .next (s.elapse dt))

/-! ### The Waybill -/

/-- The coder (R311, R312, R318) writes while WAY runs in an ACTIVE or STANDBY module: nothing waiting and no open segment
are no work; a step whose frame fits enters the open segment and no other, one whose frame does not fit closes it; a segment
to open takes a slot that holds no frozen one. Freezing and the burst (R319 to R322): a host trigger is shown and opens its
window; a release lifts the freeze of the segment SEGARG names and of no other; the burst stops after POST outputs of every
input and is copied into a segment of its own. The model's own choices in it: log entries 2, 18 and 110. -/
def Obligations.WaybillStagesComplete : Prop :=
  ((∀ dt s, s.way.queue = [] ∨ s.running .way = false ∨ s.mode.runsString = false → exec (.stageFrameWrite dt) s = .next (s.elapse dt)) ∧
   (∀ dt s r q, s.way.queue = .step r :: q → s.openSeg = none → exec (.stageFrameWrite dt) s = .next (s.elapse dt)) ∧
   (∀ dt s r q g f esc h, s.running .way = true → s.mode.runsString = true → s.way.queue = .step r :: q → s.openSeg = some g → s.wayFrame r = (f, esc, h) →
     g.bytes + f.length ≤ 67108864 → s.way.windows = [] →
     ∃ t x, exec (.stageFrameWrite dt) s = .next t ∧ t.way.queue = q ∧ t.way.hist = h ∧ x ∈ t.way.segs ∧ x.num = g.num ∧
       x.isOpen = true ∧ x.frames = f :: g.frames ∧ x.bytes = g.bytes + f.length ∧ x.last = r.stage ∧
       x.first = (if g.frames = [] then r.stage else g.first) ∧ (∀ y ∈ s.way.segs, y.num ≠ g.num → y ∈ t.way.segs) ∧
       t.rdn .way R.WAY.ESCAPES = satAdd 32 (s.rdn .way R.WAY.ESCAPES) esc ∧ t.mode = s.mode) ∧
   (∀ dt s r q g f esc h, s.running .way = true → s.mode.runsString = true → s.way.queue = .step r :: q → s.openSeg = some g → s.wayFrame r = (f, esc, h) →
     67108864 < g.bytes + f.length →
     ∃ t, exec (.stageFrameWrite dt) s = .next t ∧ t.way.queue = s.way.queue ∧ t.way.reopen = true ∧ t.regs = s.regs ∧
       ∀ y ∈ t.way.segs, y.num = g.num → y.isOpen = false) ∧
   (∀ dt s g q k, s.running .way = true → s.mode.runsString = true → s.way.queue = .opens g :: q → k < 256 → (∀ x ∈ s.way.segs, x.frozen = true → x.slot ≠ k) →
     s.way.windows = [] →
     ∃ t n, exec (.stageFrameWrite dt) s = .next t ∧ t.way.queue = q ∧ t.way.hist = [] ∧ t.way.nextNum = (s.way.nextNum + 1) % 2 ^ 32 ∧
       { g with
         num := s.way.nextNum
         slot := n } ∈ t.way.segs ∧ n < 256 ∧ (∀ x ∈ s.way.segs, x.frozen = true → x.slot ≠ n) ∧ t.way.nextSlot = (n + 1) % 256)) ∧
  ((∀ dt s, s.pageServed .way = true → s.running .way = true → ∃ t, exec (.wayFreeze dt) s = .next t ∧
     t.rdn .way R.WAY.LASTTRIG = 2 ^ 24 ∧ t.mode = s.mode ∧ t.way.queue = s.way.queue ∧
     ∃ b, t.way.windows = (s.stage + 100 * s.rdf .way R.WAY.WIN 31 16, b) :: s.way.windows) ∧
   (∀ dt s, s.pageServed .way = false ∨ s.running .way = false → exec (.wayFreeze dt) s = .next (s.elapse dt)) ∧
   (∀ dt s, s.pageServed .way = true → ∃ t, exec (.releaseSegment dt) s = .next t ∧ t.regs = s.regs ∧
     (∀ g ∈ t.way.segs, g.num = s.rdn .way R.WAY.SEGARG → g.frozen = false) ∧
     ∀ g ∈ s.way.segs, g.num ≠ s.rdn .way R.WAY.SEGARG → g ∈ t.way.segs) ∧
   (∀ dt s, s.pageServed .way = false → exec (.releaseSegment dt) s = .next (s.elapse dt)) ∧
   (∀ dt s n e, e = s.elapse dt → s.way.post = some n → (∀ i ∈ s.burstInputs, n ≤ (sget {} s.way.burst i : BurstIn).count) →
     exec (.burstCaptureStop dt) s = .next { e with way := { s.way with post := none, held := true } }) ∧
   (∀ dt s, s.way.post = none ∨ (∃ n i, s.way.post = some n ∧ i ∈ s.burstInputs ∧ (sget {} s.way.burst i : BurstIn).count < n) →
     exec (.burstCaptureStop dt) s = .next (s.elapse dt)) ∧
   (∀ dt s k, s.way.held = true → k < 256 → (∀ x ∈ s.way.segs, x.frozen = true → x.slot ≠ k) →
     ∃ t g, exec (.burstCopyDone dt) s = .next t ∧ t.way.held = false ∧ t.way.nextNum = (s.way.nextNum + 1) % 2 ^ 32 ∧
       g ∈ t.way.segs ∧ g.num = s.way.nextNum ∧ g.kind = 2 ∧ g.isOpen = false ∧
       g.frames = (s.burstInputs.map s.burstBlock).reverse) ∧
   (∀ dt s, s.way.held = false → exec (.burstCopyDone dt) s = .next (s.elapse dt)))

/-- Exports (R323, R324): one host export at a time, a buffer filled with the next bytes of the segment's stream, an
abort of the export that runs, and the automatic export of the closed segments in their order. The model's own choices
in it: log entries 2 and 47. -/
def Obligations.ExportsComplete : Prop :=
  (∀ dt s e, e = s.elapse dt → s.pageServed .way = true → s.running .way = true → s.way.host = none →
    (∃ g ∈ s.way.segs, g.num = s.rdn .way R.WAY.SEGARG) →
    exec (.exportSegment dt) s = .next { e with way := { s.way with
      host := some { num := s.rdn .way R.WAY.SEGARG, ring := s.rdf .way R.WAY.EXPARG 2 0 } } }) ∧
  (∀ dt s, s.pageServed .way = false ∨ s.running .way = false ∨ s.way.host ≠ none ∨
    (∀ g ∈ s.way.segs, g.num ≠ s.rdn .way R.WAY.SEGARG) → exec (.exportSegment dt) s = .next (s.elapse dt)) ∧
  (∀ dt s x, s.pageServed .way = true → s.way.auto = some x → ∃ t, exec (.abortSegment dt) s = .next t ∧ t.way.auto = none ∧
    t.way.autoNext = x.num + 1 ∧ t.way.host = s.way.host ∧ t.rdb .way R.PAGE.FLAGS 12 = true ∧
    t.rdn .way R.WAY.EXPABORTS = satAdd 32 (s.rdn .way R.WAY.EXPABORTS) 1) ∧
  (∀ dt s x, s.pageServed .way = true → s.way.auto = none → s.way.host = some x → ∃ t, exec (.abortSegment dt) s = .next t ∧
    t.way.auto = none ∧ t.way.host = none ∧ t.rdb .way R.PAGE.FLAGS 12 = true ∧
    t.rdn .way R.WAY.EXPABORTS = satAdd 32 (s.rdn .way R.WAY.EXPABORTS) 1) ∧
  (∀ dt s, s.pageServed .way = false ∨ (s.way.auto = none ∧ s.way.host = none) →
    exec (.abortSegment dt) s = .next (s.elapse dt)) ∧
  (∀ dt s e x g d b l, e = s.elapse dt → s.way.auto = none → s.way.host = some x → s.way.segs.find? (fun g => g.num = x.num) = some g →
    s.ringHead (112 + x.ring) = some d → l = g.stream.drop x.off → b = l.take d.len → b ≠ [] →
    ∃ t m ts, exec (.exportChunk dt) s = .next t ∧ Msg.desc (112 + x.ring) m b (d.done (112 + x.ring) 0 ts (e.mt % 2 ^ 32) b.length) ∈ t.sent ∧
      t.way.auto = none ∧ t.way.host = (if g.isOpen = false ∧ b.length = l.length then none else
        some { x with off := x.off + b.length }) ∧
      (g.isOpen = false → b.length = l.length → ∀ y ∈ t.way.segs, y.num = x.num → y.exported = true)) ∧
  (∀ dt s, s.way.auto = none → s.way.host = none → exec (.exportChunk dt) s = .next (s.elapse dt)) ∧
  (∀ dt s, s.running .way = true → s.rdb .way R.WAY.CFG 4 = true → s.way.host = none → s.way.auto = none →
    (∃ g ∈ s.way.segs, g.isOpen = false ∧ s.way.autoNext ≤ g.num) →
    ∃ t n, exec (.autoExportStart dt) s = .next t ∧ t.way.auto = some { num := n, ring := s.rdf .way R.WAY.CFG 10 8 } ∧
      (∃ g ∈ s.way.segs, g.isOpen = false ∧ g.num = n) ∧ s.way.autoNext ≤ n ∧
      (∀ g ∈ s.way.segs, g.isOpen = false → s.way.autoNext ≤ g.num → n ≤ g.num) ∧ t.regs = s.regs) ∧
  (∀ dt s, s.running .way = false ∨ s.rdb .way R.WAY.CFG 4 = false ∨ s.way.host ≠ none ∨ s.way.auto ≠ none ∨
    (∀ g ∈ s.way.segs, g.isOpen = true ∨ g.num < s.way.autoNext) → exec (.autoExportStart dt) s = .next (s.elapse dt))

/-! ### The Strongbox -/

/-- May a record start now (R336, R337)? -/
def sbxIdle (s : State) : Prop :=
  s.sbx.writing = none ∧ s.sys.pfwLow = false ∧ s.mode ≠ .reset ∧ s.mode ≠ .thermal ∧ s.sbx.thermal = none

/-- Admission of a record (R336): a locked class needs room in its queue of 16, a rolling one room in its queue of 48
and a token; a record that finds neither is counted where R336 says, and SBX.FLAGS.DROP is set. Writing (R333, R336 to
R338, R340): one record at a time, only with PFW_N high, in the order of the queues, each with the next SEQ; its end
puts it into its area, and a CLEAR record's end frees what it names, once PFW_N is high. The model's own choices in
it: log entries 2, 48 and 57. -/
def Obligations.StrongboxWritesComplete : Prop :=
  (∀ (s : State) (p : Page) (cls : Nat) (b : List Byte) r, r = ({ cls := cls, source := pageType p % 256, mt := s.mt, payload := b } : RecReq) →
     (cls < 0x10 → s.sbx.lockedQ.length < 16 → r ∈ (s.record p cls b).sbx.lockedQ ∧
       (s.record p cls b).sbx.lockedQ.length = s.sbx.lockedQ.length + 1 ∧ (s.record p cls b).sbx.rollQ = s.sbx.rollQ ∧
       (s.record p cls b).sbx.tokens = s.sbx.tokens ∧ (s.record p cls b).regs = s.regs) ∧
     (cls < 0x10 → 16 ≤ s.sbx.lockedQ.length → s.record p cls b = (s.inc .sbx R.SBX.LDROP).flag .sbx 11 ∧
       (s.record p cls b).rdb .sbx R.PAGE.FLAGS 11 = true) ∧
     (0x10 ≤ cls → s.sbx.rollQ.length < 48 → 0 < s.sbx.tokens → r ∈ (s.record p cls b).sbx.rollQ ∧
       (s.record p cls b).sbx.rollQ.length = s.sbx.rollQ.length + 1 ∧ (s.record p cls b).sbx.lockedQ = s.sbx.lockedQ ∧
       (s.record p cls b).sbx.tokens + 1 = s.sbx.tokens ∧ (s.record p cls b).regs = s.regs) ∧
     (0x10 ≤ cls → 48 ≤ s.sbx.rollQ.length ∨ s.sbx.tokens = 0 →
       s.record p cls b = (s.inc .sbx R.SBX.DROPPED).flag .sbx 11 ∧ (s.record p cls b).rdb .sbx R.PAGE.FLAGS 11 = true)) ∧
  ((∀ dt s, s.sbx.writing ≠ none ∨ s.sys.pfwLow = true ∨ s.mode = .reset ∨
     (s.sbx.thermal = none ∧ s.sbx.clears = [] ∧ s.sbx.lockedQ = [] ∧ s.sbx.rollQ = []) →
     exec (.strongboxWriteStart dt) s = .next (s.elapse dt)) ∧
   (∀ dt s r q l, sbxIdle s → s.sbx.clears = [] → s.sbx.lockedQ = r :: q →
     s.roomIn .lockedMain s.mram.sbxLockedHead r.lines = some l →
     ∃ t, exec (.strongboxWriteStart dt) s = .next t ∧ t.sbx.lockedQ = q ∧ t.sbx.rollQ = s.sbx.rollQ ∧
       t.sbx.nextSeq = s.sbx.nextSeq + 1 ∧ t.mram.sbxRecs = s.mram.sbxRecs ∧
       (s.sbx.nextSeq ≤ s.mram.sbxHigh.value → t.sbx.nextSeq ≤ t.mram.sbxHigh.value) ∧
       t.sbx.writing = some { area := .lockedMain, line := l, seq := s.sbx.nextSeq, cls := r.cls, source := r.source,
                              mt := r.mt, payload := r.payload }) ∧
   (∀ dt s r q l, sbxIdle s → s.sbx.clears = [] → s.sbx.lockedQ = r :: q →
     s.roomIn .lockedMain s.mram.sbxLockedHead r.lines = none → s.roomIn .reserve s.mram.sbxReserveHead r.lines = some l →
     ∃ t, exec (.strongboxWriteStart dt) s = .next t ∧ t.sbx.lockedQ = q ∧ t.rdb .sbx R.PAGE.FLAGS 8 = true ∧
       t.sbx.writing = some { area := .reserve, line := l, seq := s.sbx.nextSeq, cls := r.cls, source := r.source,
                              mt := r.mt, payload := r.payload }) ∧
   (∀ dt s r q, sbxIdle s → s.sbx.clears = [] → s.sbx.lockedQ = r :: q →
     s.roomIn .lockedMain s.mram.sbxLockedHead r.lines = none → s.roomIn .reserve s.mram.sbxReserveHead r.lines = none →
     ∃ t, exec (.strongboxWriteStart dt) s = .next t ∧ t.sbx.lockedQ = q ∧ t.sbx.writing = none ∧
       t.sbx.nextSeq = s.sbx.nextSeq ∧
       (0 < s.sbx.tokens ∧ s.sbx.rollQ.length < 48 → t.sbx.rollQ = s.sbx.rollQ ++ [{ r with displaced := true }] ∧
         t.rdn .sbx R.SBX.DISPLACED = satAdd 32 (s.rdn .sbx R.SBX.DISPLACED) 1 ∧ t.rdb .sbx R.PAGE.FLAGS 9 = true) ∧
       (s.sbx.tokens = 0 ∨ 48 ≤ s.sbx.rollQ.length → t.sbx.rollQ = s.sbx.rollQ ∧
         t.rdn .sbx R.SBX.LDROP = satAdd 32 (s.rdn .sbx R.SBX.LDROP) 1 ∧ t.rdb .sbx R.PAGE.FLAGS 11 = true)) ∧
   (∀ dt s r q l, sbxIdle s → s.sbx.clears = [] → s.sbx.lockedQ = [] → s.sbx.rollQ = r :: q →
     l = (if s.mram.sbxRollHead + r.lines ≤ 393216 then s.mram.sbxRollHead else 0) →
     ∃ t x, exec (.strongboxWriteStart dt) s = .next t ∧ t.sbx.rollQ = q ∧ t.sbx.writing = some x ∧ x.area = .rolling ∧
       x.line = l ∧ x.seq = s.sbx.nextSeq ∧ x.cls = r.cls + 128 * b2n r.displaced ∧ x.payload = r.payload ∧
       t.mram.sbxRecs = s.mram.sbxRecs.filter (fun y =>
         !(decide (y.area = .rolling) && decide (y.line < l + x.lines) && decide (l < y.line + y.lines)))) ∧
   (∀ dt s e x k n q, e = s.elapse dt → sbxIdle s → s.sbx.clears = (x, k, n) :: q →
     ∃ t r, exec (.strongboxWriteStart dt) s = .next t ∧ t.sbx.clears = q ∧ t.sbx.writing = some r ∧ r.area = .clearLog ∧
       r.cls = 8 ∧ r.seq = s.sbx.nextSeq ∧ leAt r.payload 0 4 = x % 2 ^ 32 ∧ t.sbx.lockedQ = s.sbx.lockedQ ∧
       t.mram.sbxCleared = s.mram.sbxCleared) ∧
   (∀ dt s, s.sbx.writing = none → exec (.strongboxWriteDone dt) s = .next (s.elapse dt)) ∧
   (∀ dt s r, s.sbx.writing = some r → r.cls ≠ 8 → ∃ t, exec (.strongboxWriteDone dt) s = .next t ∧ t.sbx.writing = none ∧
     t.mram = { s.mram with sbxRecs := s.mram.sbxRecs ++ [r] } ∧ t.regs = s.regs ∧
     (r.cls % 32 = 7 → r.payload.head? = some 1 → t.sys.outDurable = true ∧ t.sys.outDurMt = (s.elapse dt).mt)) ∧
   (∀ dt s r x, s.sbx.writing = some r → r.cls = 8 → x = leAt r.payload 0 4 → s.sys.pfwLow = true →
     ∃ t, exec (.strongboxWriteDone dt) s = .next t ∧ t.sbx.writing = none ∧ t.sbx.clearDue = some x ∧
       t.mram = { s.mram with sbxRecs := s.mram.sbxRecs ++ [r] } ∧ t.regs = s.regs) ∧
   (∀ dt s r x, s.sbx.writing = some r → r.cls = 8 → x = leAt r.payload 0 4 → s.sys.pfwLow = false →
     ∃ t, exec (.strongboxWriteDone dt) s = .next t ∧ t.sbx.writing = none ∧ t.mram.sbxCleared.value = x ∧
       t.rdb .sbx R.PAGE.FLAGS 12 = true ∧
       t.mram.sbxRecs = (s.mram.sbxRecs ++ [r]).filter (fun y =>
         !((decide (y.area = .lockedMain) || decide (y.area = .reserve)) && decide (y.seq ≤ x)))) ∧
   (∀ dt s e, e = s.elapse dt → exec (.tokenRefill dt) s = .next { e with
     sbx := { s.sbx with tokens := min 1024 (s.sbx.tokens + 4) } }))

/-- Reading (R341 to R343): a cursor command is taken unless one is in progress; it latches the first valid record of those
it searches in ascending SEQ, or sets END and keeps its latch; an export gathers whole records and completes a descriptor
when the next does not fit or none is pending. The model's own choices in it: log entries 2 and 65. -/
def Obligations.StrongboxReadsComplete : Prop :=
  (∀ dt s e, e = s.elapse dt → s.sbx.cursorCmd = 0 → s.pageServed .sbx = true ∨ s.mode = .out →
    exec (.cursorSeek dt) s = .next { e with sbx := { s.sbx with cursorCmd := 1 } } ∧
    exec (.cursorNext dt) s = .next { e with sbx := { s.sbx with cursorCmd := 2 } }) ∧
  (∀ dt s e, e = s.elapse dt → s.sbx.cursorCmd ≠ 0 ∨ (s.pageServed .sbx = false ∧ s.mode ≠ .out) →
    exec (.cursorSeek dt) s = .next e ∧ exec (.cursorNext dt) s = .next e) ∧
  (∀ dt s, s.sbx.cursorCmd = 0 → exec (.cursorDone dt) s = .next (s.elapse dt)) ∧
  (∀ dt s start n r, s.sbx.cursorCmd ≠ 0 →
    start = (if s.sbx.cursorCmd = 1 then s.rdn .sbx R.SBX.CUR_ARG else match s.sbx.latched with
      | some x => x.seq + 1
      | none => 0) →
    firstValid (s.sbxFrom (s.rdf .sbx R.SBX.CUR_FILT 1 0) start) = (n, some r) →
    ∃ t, exec (.cursorDone dt) s = .next t ∧ t.sbx.latched = some r ∧ t.sbx.cursorCmd = 0 ∧ t.sbx.curEnd = false ∧
      t.sbx.curSkip = decide (n ≠ 0) ∧ t.rdn .sbx R.SBX.SKIPPED = satAdd 32 (s.rdn .sbx R.SBX.SKIPPED) n ∧ t.mram = s.mram ∧
      r ∈ s.mram.sbxRecs ∧ r.valid = true ∧ start ≤ r.seq ∧
      ∀ x ∈ s.mram.sbxRecs, x.valid = true → start ≤ x.seq → s.uncleared x = true →
        x.inPart (s.rdf .sbx R.SBX.CUR_FILT 1 0) = true → r.seq ≤ x.seq) ∧
  (∀ dt s start n, s.sbx.cursorCmd ≠ 0 →
    start = (if s.sbx.cursorCmd = 1 then s.rdn .sbx R.SBX.CUR_ARG else match s.sbx.latched with
      | some x => x.seq + 1
      | none => 0) →
    firstValid (s.sbxFrom (s.rdf .sbx R.SBX.CUR_FILT 1 0) start) = (n, none) →
    ∃ t, exec (.cursorDone dt) s = .next t ∧ t.sbx.latched = s.sbx.latched ∧ t.sbx.cursorCmd = 0 ∧ t.sbx.curEnd = true) ∧
  (∀ dt s d n r, s.running .sbx = true → s.ringHead s.expRing = some d → 4100 ≤ d.len → s.expNextRec = (n, some r) →
    s.sbx.expBytes.length + r.bytes.length ≤ d.len →
    ∃ t, exec (.strongboxExportChunk dt) s = .next t ∧ t.sbx.expNext = r.seq + 1 ∧
      t.sbx.expBytes = s.sbx.expBytes ++ r.bytes ∧ t.sent = s.sent ∧
      t.rdn .sbx R.SBX.SKIPPED = satAdd 32 (s.rdn .sbx R.SBX.SKIPPED) n) ∧
  (∀ dt s e d n r, e = s.elapse dt → s.running .sbx = true → s.ringHead s.expRing = some d → 4100 ≤ d.len →
    s.expNextRec = (n, some r) → d.len < s.sbx.expBytes.length + r.bytes.length →
    ∃ t m, exec (.strongboxExportChunk dt) s = .next t ∧ t.sbx.expBytes = [] ∧ t.sbx.expNext = s.sbx.expNext ∧
      Msg.desc s.expRing m s.sbx.expBytes (d.done s.expRing 0 0x8000 (e.mt % 2 ^ 32) s.sbx.expBytes.length) ∈ t.sent) ∧
  (∀ dt s e d, e = s.elapse dt → s.running .sbx = true → s.ringHead s.expRing = some d → d.len < 4100 →
    ∃ t m, exec (.strongboxExportChunk dt) s = .next t ∧ t.sbx = s.sbx ∧
      Msg.desc s.expRing m [] (d.done s.expRing 2 0x8000 (e.mt % 2 ^ 32) 0) ∈ t.sent) ∧
  (∀ dt s, s.running .sbx = false ∨ s.ringHead s.expRing = none → exec (.strongboxExportChunk dt) s = .next (s.elapse dt)) ∧
  (∀ dt s e d, e = s.elapse dt → s.running .sbx = true → s.sbx.expBytes ≠ [] → s.expNextRec.2 = none →
    s.ringHead s.expRing = some d →
    ∃ t m, exec (.strongboxExportFlush dt) s = .next t ∧ t.sbx.expBytes = [] ∧
      Msg.desc s.expRing m s.sbx.expBytes (d.done s.expRing 0 0x8000 (e.mt % 2 ^ 32) s.sbx.expBytes.length) ∈ t.sent) ∧
  (∀ dt s, s.running .sbx = false ∨ s.sbx.expBytes = [] ∨ s.expNextRec.2 ≠ none →
    exec (.strongboxExportFlush dt) s = .next (s.elapse dt))

/-! ### The CAN controllers -/

/-- Transmission (R349 to R351, R360, R362): the head that wins the arbitration goes onto the bus, one at a time; its end
completes the descriptor, or leaves it for another attempt, and counts what happened. Reception (R345, R353 to R358, R360,
R362): a controller that is not on the bus receives nothing; errors and exceptions are counted; a frame that no block
consumes goes into the queue of its filter element, or is counted as dropped or filtered. The model's own choices in it: log
entries 2, 22, 50 and 51. -/
def Obligations.CanFramesComplete : Prop :=
  ((∀ dt (c : Fin 4) s, s.running (.can c) = false ∨ s.canJoined c.val = false ∨ (s.canSt c.val).attempt ≠ none ∨
     s.rdf (.can c) R.CAN.CFG 1 0 ≠ 0 → exec (.canTransmitAttempt dt c) s = .next (s.elapse dt)) ∧
   (∀ dt (c : Fin 4) s x, x = (s.elapse dt).canCheckAll c.val → s.running (.can c) = true → s.canJoined c.val = true →
     (s.canSt c.val).attempt = none → s.rdf (.can c) R.CAN.CFG 1 0 = 0 →
     (x.canHeads c.val = [] → exec (.canTransmitAttempt dt c) s = .next x) ∧
     (x.canHeads c.val ≠ [] → ∃ t h a f b, exec (.canTransmitAttempt dt c) s = .next t ∧ h ∈ x.canHeads c.val ∧
       (∀ y ∈ x.canHeads c.val, canArb h.2.frame ≤ canArb y.2.frame) ∧ (t.canSt c.val).attempt = some a ∧ a.fifo = h.1 ∧
       a.own = ⟨f, h.2.again⟩ ∧ a.sof = (s.elapse dt).mt ∧
       f = { h.2.frame with
         esi := (decide (h.2.frame.fmt = 2) || decide (h.2.frame.fmt = 3)) && decide ((x.canSt c.val).bus = 1) } ∧
       t.sent = .can c.val (s.elapse dt).mt f b :: x.sent ∧ t.rings = x.rings ∧ t.mode = s.mode)) ∧
   (∀ dt (c : Fin 4) o tec s, (s.canSt c.val).attempt = none → exec (.canAttemptEnd dt c o tec) s = .next (s.elapse dt)) ∧
   (∀ dt (c : Fin 4) tec s a f d, (s.canSt c.val).attempt = some a → a.fifo = some f →
     s.ringHead (canRing c.val f) = some d → (s.canFifo c.val f).cancelPend = false →
     ∃ t m, exec (.canAttemptEnd dt c .sent tec) s = .next t ∧ (t.canSt c.val).attempt = none ∧ t.canFifo c.val f = {} ∧
       (t.canSt c.val).tec = min tec.toNat 255 ∧ t.rdn (.can c) R.CAN.TXOK = satAdd 32 (s.rdn (.can c) R.CAN.TXOK) 1 ∧
       Msg.desc (canRing c.val f) m (withSof d.data (a.sof % 2 ^ 32)) (d.done (canRing c.val f) 0
         (16 * min ((s.canFifo c.val f).attempts + 1) 255) ((s.elapse dt).mt % 2 ^ 32) d.len) ∈ t.sent) ∧
   (∀ dt (c : Fin 4) o tec s a f d, (s.canSt c.val).attempt = some a → a.fifo = some f → o ≠ .sent →
     s.ringHead (canRing c.val f) = some d → (s.canFifo c.val f).cancelPend = false → d.tflags % 2 = 0 →
     s.rdf (.can c) R.CAN.CFG 31 24 = 0 ∨ (s.canFifo c.val f).attempts + 1 < s.rdf (.can c) R.CAN.CFG 31 24 →
     ∃ t, exec (.canAttemptEnd dt c o tec) s = .next t ∧ (t.canSt c.val).attempt = none ∧ t.rings = s.rings ∧ t.sent = s.sent ∧
       t.canFifo c.val f = { s.canFifo c.val f with
         attempts := (s.canFifo c.val f).attempts + 1
         last := canCode o }) ∧
   (∀ dt (c : Fin 4) o tec s a f d, (s.canSt c.val).attempt = some a → a.fifo = some f → o ≠ .sent →
     s.ringHead (canRing c.val f) = some d → (s.canFifo c.val f).cancelPend = false →
     d.tflags % 2 = 1 ∨ (s.rdf (.can c) R.CAN.CFG 31 24 ≠ 0 ∧ s.rdf (.can c) R.CAN.CFG 31 24 ≤ (s.canFifo c.val f).attempts + 1) →
     ∃ t m, exec (.canAttemptEnd dt c o tec) s = .next t ∧ (t.canSt c.val).attempt = none ∧ t.canFifo c.val f = {} ∧
       Msg.desc (canRing c.val f) m [] (d.done (canRing c.val f) 0x0100
         (canCode o + 16 * min ((s.canFifo c.val f).attempts + 1) 255) ((s.elapse dt).mt % 2 ^ 32) d.len) ∈ t.sent) ∧
   (∀ dt (c : Fin 4) tec s a, (s.canSt c.val).attempt = some a → (s.canSt c.val).off = false →
     ∃ t, exec (.canAttemptEnd dt c .busOff tec) s = .next t ∧ (t.canSt c.val).off = true ∧ t.rdb (.can c) R.PAGE.FLAGS 8 = true ∧
       t.rdn (.can c) R.CAN.BUSOFFS = satAdd 32 (s.rdn (.can c) R.CAN.BUSOFFS) 1) ∧
   (∀ dt (c : Fin 4) s e, e = s.elapse dt → s.running (.can c) = true → ∃ t, exec (.witnessResend dt c) s = .next t ∧
     (∀ r ∈ (t.canSt c.val).resend, e.mt < r.2) ∧
     (t.canSt c.val).internal = (s.canSt c.val).internal ++ ((s.canSt c.val).resend.filter (fun r => decide (r.2 ≤ e.mt))).map (·.1))) ∧
  ((∀ dt (c : Fin 4) x s, s.canJoined c.val = false → exec (.canFrameReceived dt c x) s = .next (s.elapse dt)) ∧
   (∀ dt (c : Fin 4) s, s.canJoined c.val = true → ∃ t, exec (.canFrameReceived dt c .exception) s = .next t ∧
     (t.canSt c.val).integrating = true ∧ (t.canSt c.val).pexc = true ∧ t.rdb (.can c) R.PAGE.FLAGS 11 = true ∧
     t.rdn (.can c) R.CAN.PEXCS = satAdd 32 (s.rdn (.can c) R.CAN.PEXCS) 1) ∧
   (∀ dt (c : Fin 4) tec erc off s, s.canJoined c.val = true →
     ∃ t, exec (.canFrameReceived dt c (.error tec erc off)) s = .next t ∧ (t.canSt c.val).tec = min tec.toNat 255 ∧
       (t.canSt c.val).erc = erc.toNat ∧ (t.canSt c.val).off = off ∧
       t.rdn (.can c) R.CAN.RXERR = satAdd 32 (s.rdn (.can c) R.CAN.RXERR) 1) ∧
   (∀ dt (c : Fin 4) f sof erc s y, y = (s.elapse dt).canErrors c.val (s.canSt c.val).tec erc.toNat false →
     s.canJoined c.val = true → s.canFmtOn c.val f.fmt = true → s.running (.can c) = true →
     (∀ z, y.canConsume c f = some z → exec (.canFrameReceived dt c (.frame f sof erc)) s = .next z) ∧
     (y.canConsume c f = none → s.fltQueue c.val f = none →
       exec (.canFrameReceived dt c (.frame f sof erc)) s = .next (y.inc (.can c) R.CAN.RXFILT)) ∧
     (∀ q i, y.canConsume c f = none → s.fltQueue c.val f = some (q, i) →
       canUsed ((s.canQueue c.val q).recs ++ [(canRecord f sof.toNat i, i)]) ≤ 8192 → s.canWindow c.val q = true →
       ∃ t, exec (.canFrameReceived dt c (.frame f sof erc)) s = .next t ∧
         (t.canQueue c.val q).recs = (s.canQueue c.val q).recs ++ [(canRecord f sof.toNat i, i)] ∧
         t.rdn (.can c) R.CAN.RXOK = satAdd 32 (s.rdn (.can c) R.CAN.RXOK) 1 ∧ t.rings = s.rings) ∧
     (∀ q i, y.canConsume c f = none → s.fltQueue c.val f = some (q, i) →
       8192 < canUsed ((s.canQueue c.val q).recs ++ [(canRecord f sof.toNat i, i)]) →
       ∃ t, exec (.canFrameReceived dt c (.frame f sof erc)) s = .next t ∧
         t.canQueue c.val q = { s.canQueue c.val q with dropped := true } ∧ t.rdb (.can c) R.PAGE.FLAGS 10 = true ∧
         t.rdn (.can c) R.CAN.RXDROP = satAdd 32 (s.rdn (.can c) R.CAN.RXDROP) 1)) ∧
   (∀ dt (c : Fin 4) f sof erc s, s.canJoined c.val = true → s.canFmtOn c.val f.fmt = false →
     ∃ t, exec (.canFrameReceived dt c (.frame f sof erc)) s = .next t ∧ (t.canSt c.val).integrating = true ∧
       t.rdn (.can c) R.CAN.PEXCS = satAdd 32 (s.rdn (.can c) R.CAN.PEXCS) 1 ∧ t.sent = s.sent))

/-- What the host and the bus do to a controller (R346, R352, R355, R358, R362): cancellation of a head on the bus and
of one that waits, release and reading of a received frame, a filter element, and the return to the bus. The model's
own choices in it: log entries 2 and 50. -/
def Obligations.CanHostCommandsComplete : Prop :=
  (∀ dt (c : Fin 4) (f : Fin 8) s a, s.pageServed (.can c) = true → 0 < s.canPref c.val f.val →
    (s.canSt c.val).attempt = some a → a.fifo = some f.val →
    ∃ t u, exec (.canCancel dt c f) s = .next t ∧ exec (.canCancelAll dt c f) s = .next u ∧
      t.canFifo c.val f.val = { s.canFifo c.val f.val with cancelPend := true } ∧
      u.canFifo c.val f.val = { s.canFifo c.val f.val with
        cancelPend := true
        behind := s.canPref c.val f.val - 1 } ∧ t.rings = s.rings ∧ u.rings = s.rings) ∧
  (∀ dt (c : Fin 4) (f : Fin 8) s e d, e = s.elapse dt → s.pageServed (.can c) = true → 0 < s.canPref c.val f.val →
    (∀ a, (s.canSt c.val).attempt = some a → a.fifo ≠ some f.val) → s.ringHead (canRing c.val f.val) = some d →
    ∃ t u m ts, exec (.canCancel dt c f) s = .next t ∧ exec (.canCancelAll dt c f) s = .next u ∧
      Msg.desc (canRing c.val f.val) m [] (d.done (canRing c.val f.val) 0x0101 ts (e.mt % 2 ^ 32) d.len) ∈ t.sent ∧
      Msg.desc (canRing c.val f.val) m [] (d.done (canRing c.val f.val) 0x0101 ts (e.mt % 2 ^ 32) d.len) ∈ u.sent ∧ t.canFifo c.val f.val = {}) ∧
  (∀ dt (c : Fin 4) (f : Fin 8) s, s.pageServed (.can c) = false ∨ s.canPref c.val f.val = 0 →
    exec (.canCancel dt c f) s = .next (s.elapse dt) ∧ exec (.canCancelAll dt c f) s = .next (s.elapse dt)) ∧
  (∀ dt (c q : Fin 4) s, s.pageServed (.can c) = true → s.canWindow c.val q.val = true →
    ∃ t, exec (.rxrel dt c q) s = .next t ∧ t.canQueue c.val q.val = { s.canQueue c.val q.val with
      recs := (s.canQueue c.val q.val).recs.drop 1
      locked := false
      dropped := false } ∧ t.regs = s.regs) ∧
  (∀ dt (c q : Fin 4) s, s.pageServed (.can c) = false ∨ s.canWindow c.val q.val = false →
    exec (.rxrel dt c q) s = .next (s.elapse dt)) ∧
  (∀ dt (c : Fin 4) w s, s.pageServed (.can c) = true → ∃ t, exec (.rxwRead dt c w) s = .next t ∧
    t.sent = .read (Page.base (.can c) + R.CAN.RXW w.val) (s.rxwWord c.val w.val) :: s.sent ∧ t.regs = s.regs ∧
    (s.canWindow c.val (s.rxwQueue c.val) = true → s.rxwOffset c.val w.val = 0 →
      (s.canQueue c.val (s.rxwQueue c.val)).recs ≠ [] → (t.canQueue c.val (s.rxwQueue c.val)).locked = true)) ∧
  (∀ dt (c : Fin 4) w s, s.pageServed (.can c) = false → exec (.rxwRead dt c w) s =
    .next ((s.elapse dt).answerRead (Page.base (.can c) + R.CAN.RXW w.val) 0)) ∧
  (∀ dt (c : Fin 4) v s, s.pageServed (.can c) = true → s.pageState (.can c) = .disabled →
    ∃ t, exec (.fltw1Commit dt c v) s = .next t ∧
      sget (0, 0) (t.canSt c.val).flt (s.rdf (.can c) R.CAN.FLTIDX 7 0) = (s.rdn (.can c) R.CAN.FLTW0, v.toNat) ∧
      ∀ i, i ≠ s.rdf (.can c) R.CAN.FLTIDX 7 0 → sget (0, 0) (t.canSt c.val).flt i = sget (0, 0) (s.canSt c.val).flt i) ∧
  (∀ dt (c : Fin 4) v s, s.pageServed (.can c) = true → s.pageState (.can c) ≠ .disabled →
    ∃ t, exec (.fltw1Commit dt c v) s = .next t ∧ t.can = s.can ∧ t.rdb (.can c) R.PAGE.FLAGS 1 = true ∧
      t.rdf (.can c) R.PAGE.IGNORED 31 16 = satAdd 16 (s.rdf (.can c) R.PAGE.IGNORED 31 16) 1) ∧
  (∀ dt (c : Fin 4) v s, s.pageServed (.can c) = false → exec (.fltw1Commit dt c v) s = .next (s.elapse dt) ∧
    exec (.canRecover dt c) s = .next (s.elapse dt)) ∧
  (∀ dt (c : Fin 4) s, s.pageServed (.can c) = true → (s.canSt c.val).off = true → ∃ t, exec (.canRecover dt c) s = .next t ∧
    t.canSt c.val = { s.canSt c.val with recovering := true } ∧ t.regs = s.regs) ∧
  (∀ dt (c : Fin 4) s, s.canOn c.val = true → (s.canSt c.val).off = true →
    (s.canSt c.val).recovering = true ∨ s.rdb (.can c) R.CAN.CFG 5 = true →
    ∃ t, exec (.busOffRecovery dt c) s = .next t ∧ t.canSt c.val = { s.canSt c.val with
      off := false
      recovering := false
      tec := 0
      erc := 0 } ∧ t.regs = s.regs) ∧
  (∀ dt (c : Fin 4) s, s.canOn c.val = true → ∃ t, exec (.canBusIntegration dt c) s = .next t ∧
    t.canSt c.val = { s.canSt c.val with
      integrating := false
      pexc := false } ∧ t.regs = s.regs) ∧
  (∀ dt (c : Fin 4) s, s.canOn c.val = false → exec (.canBusIntegration dt c) s = .next (s.elapse dt) ∧
    exec (.busOffRecovery dt c) s = .next (s.elapse dt))

/-! ### Ethernet and network time -/

/-- Transmission (R366 to R368, R376): a port that does not speak sends nothing; the module's own frames go before the
host's; the head of the highest eligible queue goes out with its stamp; one that is too late is dropped with its
status. Reception on a port of no PRP pair (R364, R369, R370): frames with a wrong FCS, pause frames and frames of
other addresses are counted and go nowhere; a block's datagram is used; what no block takes is stored with its stamp,
or dropped. The model's own choices in it: log entries 2, 52 and 53. -/
def Obligations.EthFramesComplete : Prop :=
  ((∀ dt (p : Fin 4) fr s, s.mode.speaks = false ∨ (s.running (.eth p) = false ∧ s.pageState (.eth p) ≠ .disabling) →
     exec (.ethTransmit dt p fr) s = .next (s.elapse dt)) ∧
   (∀ dt (p : Fin 4) fr s x st, s.mode.speaks = true → s.running (.eth p) = true ∨ s.pageState (.eth p) = .disabling →
     x = ((s.elapse dt).modEth p.val (fun v => { v with
       own := v.own.filter (fun f => (s.elapse dt).ownAllowed f.1) })).ethCheckAll p.val →
     st = (s.elapse dt).mt * 65536 + fr.toNat + s.rdn (.eth p) R.ETH.LAT_TX →
     ((x.ethPort p.val).up = false → exec (.ethTransmit dt p fr) s = .next x) ∧
     (∀ f t rest, (x.ethPort p.val).up = true → (x.ethPort p.val).own = (f, t) :: rest →
       ∃ y, exec (.ethTransmit dt p fr) s = .next y ∧ (y.ethPort p.val).own = rest ∧ y.rings = x.rings ∧
         y.sent = .eth p.val (st / 65536) (st % 65536) (.own f t) :: x.sent ∧
         y.rdn (.eth p) R.ETH.TXOK = satAdd 32 (x.rdn (.eth p) R.ETH.TXOK) 1) ∧
     ((x.ethPort p.val).up = true → (x.ethPort p.val).own = [] → s.running (.eth p) = false ∨ x.ethPick p.val = none →
       exec (.ethTransmit dt p fr) s = .next x) ∧
     (∀ q d, (x.ethPort p.val).up = true → (x.ethPort p.val).own = [] → s.running (.eth p) = true →
       x.ethPick p.val = some (q, d) → x.ethLate p.val q d = false → byteAt d.data 2 = 0 →
       ∃ y m, exec (.ethTransmit dt p fr) s = .next y ∧
         Msg.eth p.val (st / 65536) (st % 65536) (.host (d.data.drop 16)) ∈ y.sent ∧
         Msg.desc (64 + 8 * p.val + q) m [] (d.done (64 + 8 * p.val + q) 0 0 ((s.elapse dt).mt % 2 ^ 32) d.len) ∈ y.sent ∧
         y.rdn (.eth p) R.ETH.TXOK = satAdd 32 (x.rdn (.eth p) R.ETH.TXOK) 1 ∧
         ∀ r d', q < r → r < 8 → x.ringHead (64 + 8 * p.val + r) = some d' → x.ethEligible d' = false) ∧
     (∀ q d, (x.ethPort p.val).up = true → (x.ethPort p.val).own = [] → s.running (.eth p) = true →
       x.ethPick p.val = some (q, d) → x.ethLate p.val q d = true → (byteAt d.data 2).testBit 2 = false →
       ∃ y m, exec (.ethTransmit dt p fr) s = .next y ∧
         Msg.desc (64 + 8 * p.val + q) m [] (d.done (64 + 8 * p.val + q) 4 0 ((s.elapse dt).mt % 2 ^ 32) d.len) ∈ y.sent))) ∧
  ((∀ dt (p : Fin 4) f fr s, s.running (.eth p) = false ∨ s.mode.speaks = false ∨ (s.ethPort p.val).up = false →
     exec (.ethFrameReceived dt p f fr) s = .next (s.elapse dt)) ∧
   ∀ dt (p : Fin 4) f fr s e, e = s.elapse dt → s.running (.eth p) = true → s.mode.speaks = true →
     (s.ethPort p.val).up = true →
     (f.fcsOk = false → exec (.ethFrameReceived dt p f fr) s = .next (e.inc (.eth p) R.ETH.FCSERR)) ∧
     (f.fcsOk = true → etherType f.bytes = 0x8808 → beAt f.bytes (typeOffset f.bytes + 2) 2 = 1 →
       exec (.ethFrameReceived dt p f fr) s = .next (e.inc (.eth p) R.ETH.PAUSERX)) ∧
     (f.fcsOk = true → etherType f.bytes ≠ 0x8808 → s.prpPair (p.val / 2 * 2) = false → s.ethAccepts p.val f.bytes = false →
       exec (.ethFrameReceived dt p f fr) s = .next (e.inc (.eth p) R.ETH.RXFILT)) ∧
     (f.fcsOk = true → etherType f.bytes ≠ 0x8808 → s.prpPair (p.val / 2 * 2) = false → s.ethAccepts p.val f.bytes = true →
       (isPtp f.bytes = true → s.timePort p.val = true →
         exec (.ethFrameReceived dt p f fr) s = .next (e.inc (.eth p) R.ETH.RXOK)) ∧
       (∀ u z, isPtp f.bytes = false ∨ s.timePort p.val = false → parseUdp f.bytes = some u → e.udpConsume p u = some z →
         exec (.ethFrameReceived dt p f fr) s =
           .next (if u.sumOk then z.inc (.eth p) R.ETH.RXOK else e.inc (.eth p) R.ETH.CSUMERR)) ∧
       (∀ st q l, isPtp f.bytes = false ∨ s.timePort p.val = false → parseUdp f.bytes = none → parseAsk f.bytes = none →
         st = e.mt * 65536 + fr.toNat - s.rdn (.eth p) R.ETH.LAT_RX → q = s.rdf (.eth p) R.ETH.RXCFG 17 16 →
         framePcp f.bytes = none →
         l = sget [] (s.ethPort p.val).queue q ++
           [leBytes 2 1 ++ zeros 2 ++ leBytes 2 (st % 65536) ++ zeros 2 ++ leBytes 8 (st / 65536) ++ f.bytes] →
         ((l.map List.length).sum ≤ 32768 → s.ringHead (96 + 4 * p.val + q) = none →
           ∃ t, exec (.ethFrameReceived dt p f fr) s = .next t ∧ sget [] (t.ethPort p.val).queue q = l ∧ t.regs = s.regs ∧
             t.sent = s.sent) ∧
         (32768 < (l.map List.length).sum →
           ∃ t, exec (.ethFrameReceived dt p f fr) s = .next t ∧ t.ethPort p.val = s.ethPort p.val ∧
             t.rdn (.eth p) R.ETH.RXDROP = satAdd 32 (s.rdn (.eth p) R.ETH.RXDROP) 1 ∧ t.rdb (.eth p) R.PAGE.FLAGS 10 = true))))

/-- The addresses and the links (R364, R372, R374): an address of the module's is answered, three announcements follow a
relay, a PRP pair is supervised on both its ports, and a change of the link is shown and flagged. The model's own choices in
it: log entries 2, 52 and 53. -/
def Obligations.EthAddressesAndLinksComplete : Prop :=
  (∀ dt (p : Fin 4) a w wi s mac, s.running (.eth p) = true → s.askedMac p.val a = some mac →
    ∃ t, exec (.arpRequest dt p a w wi) s = .next t ∧
      (t.ethPort p.val).own = (s.ethPort p.val).own ++ [(.answer mac a w.toNat wi.toNat, none)] ∧
      t.rdn (.eth p) R.ETH.RXOK = satAdd 32 (s.rdn (.eth p) R.ETH.RXOK) 1 ∧ t.sent = s.sent) ∧
  (∀ dt (p : Fin 4) a w wi s, s.running (.eth p) = false ∨ s.askedMac p.val a = none →
    exec (.arpRequest dt p a w wi) s = .next (s.elapse dt)) ∧
  (∀ dt s, s.ethActive = true → s.eth.announce ≠ 0 → s.eth.announceMt ≤ (s.elapse dt).mt →
    ∃ t, exec (.pairAnnounce dt) s = .next t ∧ t.eth.announceMt = (s.elapse dt).mt + 100000000 ∧
    t.eth.announce + 1 = s.eth.announce ∧ t.sent = s.sent ∧ t.mode = s.mode ∧
    ∀ p : Fin 4, s.running (.eth p) = true → s.rdb (.eth p) R.ETH.CFG 8 = true → s.prpPair (p.val / 2 * 2) = false →
      (.pairAnnounce (s.pairMac p.val) (s.pairIp p.val (s.ethV6 p.val)) (s.ethV6 p.val), none) ∈ (t.ethPort p.val).own) ∧
  (∀ dt s, s.ethActive = false ∨ s.eth.announce = 0 ∨ (s.elapse dt).mt < s.eth.announceMt → exec (.pairAnnounce dt) s = .next (s.elapse dt)) ∧
  (∀ dt (p : Fin 4) s n, n = p.val / 2 * 2 → s.ethActive = true → s.prpPair n = true → s.running (ethPage n) = true →
    sget 0 s.eth.supMt n + 2000000000 ≤ (s.elapse dt).mt →
    ∃ t, exec (.prpSupervision dt p) s = .next t ∧
      (t.ethPort n).own = (s.ethPort n).own ++ [(.supervision (s.modMac n), none)] ∧
      (s.running (ethPage (n + 1)) = true →
        (t.ethPort (n + 1)).own = (s.ethPort (n + 1)).own ++ [(.supervision (s.modMac n), none)]) ∧ t.regs = s.regs) ∧
  (∀ dt (p : Fin 4) s, s.ethActive = false ∨ s.prpPair (p.val / 2 * 2) = false ∨
    s.running (ethPage (p.val / 2 * 2)) = false ∨
    (s.elapse dt).mt < sget 0 s.eth.supMt (p.val / 2 * 2) + 2000000000 → exec (.prpSupervision dt p) s = .next (s.elapse dt)) ∧
  (∀ dt (p : Fin 4) up (r : Fin 4) s, s.running (.eth p) = true →
    ¬((s.ethPort p.val).up = up ∧ (s.ethPort p.val).rate = if up then r.val else 0) →
    ∃ t, exec (.ethLinkChange dt p up r) s = .next t ∧ (t.ethPort p.val).up = up ∧
      (t.ethPort p.val).rate = (if up then r.val else 0) ∧ t.rdb (.eth p) R.PAGE.FLAGS 8 = true ∧
      t.rdn (.eth p) R.ETH.LINK = (if up then 2 * r.val + 1 else 0) ∧ (up = false → (t.ethPort p.val).own = []) ∧
      t.mode = s.mode) ∧
  (∀ dt (p : Fin 4) up (r : Fin 4) s, s.running (.eth p) = false ∨
    ((s.ethPort p.val).up = up ∧ (s.ethPort p.val).rate = if up then r.val else 0) →
    exec (.ethLinkChange dt p up r) s = .next (s.elapse dt))

/-- The receiving side of the time engine (R54, R380 to R382): a Sync of the source port gives the offset, which outside a
role is stepped when it is large, and otherwise steers the rate; delays and the loss of Sync; MT_LO latches the rest of MT.
The choice of the source port and what the time engine sends (R379, R380, R382): an Announce of the domain is kept, the best
qualified one names the source port; an active's transmitter ports and a receiver's source port send their messages with
rising sequences. The model's own choices in it: log entries 2, 3, 23, 53, 54 and 111. -/
def Obligations.NetworkTimeCompletes : Prop :=
  ((∀ dt (p : Fin 4) t1 t2 co s, s.timeRx p.val = false ∨ s.time.port ≠ p.val →
     exec (.timeSync dt p t1 t2 co) s = .next (s.elapse dt)) ∧
   (∀ dt (p : Fin 4) t1 t2 co s o, s.timeRx p.val = true → s.time.port = p.val →
     o = t2 - t1 - co - s.rdi (.eth p) R.ETH.ASYM - s.pathDelay →
     (s.mode = .standby → ∃ t, exec (.timeSync dt p t1 t2 co) s = .next t ∧ t.time.offset = o ∧ t.time.rate = s.time.rate ∧
       t.mt = (s.elapse dt).mt ∧ t.rdi .time R.TIME.OFFSET = signed 32 (unsign 32 (floorDiv o 65536))) ∧
     (s.mode.isRole = false → s.rdn .time R.TIME.STEP * 65536 < o.natAbs →
       ∃ t, exec (.timeSync dt p t1 t2 co) s = .next t ∧ t.mt = (((s.elapse dt).mt : Int) - floorDiv o 65536).toNat ∧
         t.rdn .time R.TIME.STEPS = satAdd 32 (s.rdn .time R.TIME.STEPS) 1 ∧ t.rdb .time R.PAGE.FLAGS 11 = true ∧
         t.time.rate = s.time.rate) ∧
     (s.mode ≠ .standby → s.mode.isRole = true ∨ o.natAbs ≤ s.rdn .time R.TIME.STEP * 65536 →
       ∃ t, exec (.timeSync dt p t1 t2 co) s = .next t ∧ t.mt = (s.elapse dt).mt ∧ t.time.rate = (s.servo o).1 ∧
         t.time.integ = (s.servo o).2 ∧ t.rdi .time R.TIME.RATE = (s.servo o).1 ∧ -200000 ≤ t.time.rate ∧
         t.time.rate ≤ 200000)) ∧
   (∀ dt (p : Fin 4) t1 t2 t3 t4 s, s.timeRx p.val = true → s.time.port = p.val → s.mode ≠ .standby →
     ∃ t, exec (.delayResp dt p t1 t2 t3 t4) s = .next t ∧
       t.pathDelay = floorDiv (if s.profile = 2 then (t4 - t1) - (t3 - t2) else (t2 - t1) + (t4 - t3)) 2 ∧
       t.rdi .time R.TIME.PDELAY = signed 32 (unsign 32 (floorDiv t.pathDelay 256)) ∧ t.time.rate = s.time.rate) ∧
   (∀ dt (p : Fin 4) t1 t2 t3 t4 s, s.timeRx p.val = false ∨ s.time.port ≠ p.val ∨ s.mode = .standby →
     exec (.delayResp dt p t1 t2 t3 t4) s = .next (s.elapse dt)) ∧
   (∀ dt s e, e = s.elapse dt → s.time.st = 1 ∨ s.time.st = 2 → s.profile ≠ 0 →
     s.time.lastSync + s.rdf .time R.TIME.HOLD 15 0 * 1000000 ≤ e.mt →
     ∃ t, exec (.holdoverEntry dt) s = .next t ∧ t.time = { s.time with
       st := 3
       lockRun := 0 } ∧ t.rdb .time R.PAGE.FLAGS 9 = true ∧
       t.rdn .time R.TIME.HOLDOVERS = satAdd 32 (s.rdn .time R.TIME.HOLDOVERS) 1) ∧
   (∀ dt s e, e = s.elapse dt → (s.time.st ≠ 1 ∧ s.time.st ≠ 2) ∨ s.profile = 0 ∨
     e.mt < s.time.lastSync + s.rdf .time R.TIME.HOLD 15 0 * 1000000 → exec (.holdoverEntry dt) s = .next e) ∧
   (∀ dt fr s e, e = s.elapse dt → s.pageServed .time = true → ∃ t, exec (.mtLoRead dt fr) s = .next t ∧
     t.sent = .read (Page.base .time + R.TIME.MT_LO) (e.mt % 2 ^ 32) :: s.sent ∧ t.time = { s.time with
       latchHi := e.mt / 2 ^ 32
       latchFrac := fr.toNat } ∧ t.regs = s.regs) ∧
   (∀ dt fr s, s.pageServed .time = false → exec (.mtLoRead dt fr) s =
     .next ((s.elapse dt).answerRead (Page.base .time + R.TIME.MT_LO) 0))) ∧
  ((∀ dt (p : Fin 4) a s, s.timeRx p.val = false ∨ 255 ≤ a.steps.toNat ∨
     a.domain.toNat ≠ (if s.profile = 1 then s.rdf .time R.TIME.CFG 31 24 else 0) →
     exec (.ptpAnnounce dt p a) s = .next (s.elapse dt)) ∧
   (∀ dt (p : Fin 4) a s e f all, e = s.elapse dt → s.timeRx p.val = true → a.steps.toNat < 255 →
     a.domain.toNat = (if s.profile = 1 then s.rdf .time R.TIME.CFG 31 24 else 0) →
     f = ({ rank := announceRank a, gm := a.gm.toNat, cls := a.cls.toNat, steps := a.steps.toNat, sender := a.sender.toNat,
            mt := e.mt } : Foreign) →
     all = (List.range 4).flatMap (fun q => if s.timeRx q then
       (qualified (if q = p.val then (f :: sget [] s.time.heard q).take 10 else sget [] s.time.heard q)).map (fun g => (q, g))
       else []) →
     ∃ t, exec (.ptpAnnounce dt p a) s = .next t ∧
       (∀ q < 4, sget [] t.time.heard q = if q = p.val then (f :: sget [] s.time.heard q).take 10 else sget [] s.time.heard q) ∧
       (bestForeign all = none → t.time.port = s.time.port ∧ t.regs = s.regs) ∧
       ∀ q g, bestForeign all = some (q, g) → t.time.port = q ∧ t.rd64 .time R.TIME.GMID_LO R.TIME.GMID_HI = g.gm % 2 ^ 64 ∧
         (q ≠ s.time.port → t.rdn .time R.TIME.SRCCHGS = satAdd 32 (s.rdn .time R.TIME.SRCCHGS) 1 ∧
           t.rdb .time R.PAGE.FLAGS 10 = true ∧ t.time.st = if s.time.st = 4 then 4 else 1)) ∧
   (∀ dt s, s.profile ≠ 0 → s.time.port < 4 → s.txHeld = false → s.running (ethPage s.time.port) = true →
     ∃ t, exec (.delayRequestSend dt) s = .next t ∧ t.time.seqOut = (s.time.seqOut + 1) % 2 ^ 16 ∧
       (t.ethPort s.time.port).own = (s.ethPort s.time.port).own ++
         [(.ptp (if s.profile = 2 then 2 else 1) s.time.seqOut [], none)]) ∧
   (∀ dt s, s.profile = 0 ∨ s.time.port = 15 ∨ s.txHeld = true → exec (.delayRequestSend dt) s = .next (s.elapse dt)) ∧
   (∀ dt (p : Fin 4) peer rx s, s.timeTx p.val = true → s.ethActive = true → peer = decide (s.profile = 2) →
     s.running (.eth p) = true → ∃ t, exec (.delayReq dt p peer rx) s = .next t ∧
       (t.ethPort p.val).own = (s.ethPort p.val).own ++
         [(.ptp (if peer then 3 else 9) s.time.seqOut (leBytes 10 (unsign 80 rx)), none)] ∧ t.regs = s.regs) ∧
   (∀ dt (p : Fin 4) peer rx s, s.timeTx p.val = false ∨ s.ethActive = false ∨ peer ≠ decide (s.profile = 2) →
     exec (.delayReq dt p peer rx) s = .next (s.elapse dt)) ∧
   (∀ dt (p : Fin 4) an s, s.timeTx p.val = true → s.ethActive = true → s.running (.eth p) = true →
     sget 0 (if an then s.time.annMt else s.time.syncMt) p.val + logInterval (if an then s.rdf .time R.TIME.TXPARAM 7 0
       else s.rdf .time R.TIME.TXPARAM 15 8) ≤ (s.elapse dt).mt →
     ∃ t b, exec (.timeTransmitPeriod dt p an) s = .next t ∧ t.time.seqOut = (s.time.seqOut + 1) % 2 ^ 16 ∧
       (t.ethPort p.val).own = (s.ethPort p.val).own ++ [(.ptp (if an then 11 else 0) s.time.seqOut b, none)] ∧
       b.length = if an then 3 else 1) ∧
   (∀ dt (p : Fin 4) an s, s.timeTx p.val = false ∨ s.ethActive = false ∨
     (s.elapse dt).mt < sget 0 (if an then s.time.annMt else s.time.syncMt) p.val + logInterval (if an then
       s.rdf .time R.TIME.TXPARAM 7 0 else s.rdf .time R.TIME.TXPARAM 15 8) →
     exec (.timeTransmitPeriod dt p an) s = .next (s.elapse dt)))

/-! ### Interrupts, firmware, die temperature and power -/

/-- The verdict on an upload chunk (R410). -/
def chunkVerdict (s : State) (limit off dlen crc : Nat) (data : List Byte) : Nat :=
  if dlen % 4 ≠ 0 ∨ dlen < 4 ∨ limit < dlen then 0x0002
  else if s.fwuOn = false ∨ s.fwu.upload = none then 0x0100
  else if off ≠ s.fwu.next then 0x0101
  else if crc32c data ≠ crc then 0x0102
  else if 33554432 < off + dlen then 0x0103
  else if s.sys.pfwLow then 0x0104
  else 0

/-- Assertions (R385 to R387): an edge makes its source pending and is an event of the target that serves it; a page's line
and an external line of the level kind show their level; a level that held for less than the pin's glitch filter, a disabled
pin, a source above 196 and the fall of an edge do nothing. Parking, masks and routes (R391 to R393): the register takes the
value, and what stays pending is counted again where it is now served. The model's own choices in it: log entries 2, 55 and
105. -/
def Obligations.SourcesAndRoutesComplete : Prop :=
  ((∀ dt (n : Fin 256) s u, n.val < 197 → s.isLevel n.val = false → s.irqServer (s.srcRoute n.val) = some u →
     ∃ t, exec (.irqSourceAssert dt n true) s = .next t ∧ t.src n.val = { s.src n.val with pend := true } ∧
       (t.tgt u).events = min ((s.tgt u).events + 1) 2047 ∧ (t.tgt u).timing = true ∧
       ((s.tgt u).timing = false → (t.tgt u).firstMt = (s.elapse dt).mt) ∧ t.regs = s.regs ∧ t.sent = s.sent) ∧
   (∀ dt (n : Fin 256) l s, 197 ≤ n.val ∨ (s.isLevel n.val = false ∧ l = false) →
     exec (.irqSourceAssert dt n l) s = .next (s.elapse dt)) ∧
   (∀ dt (p : Page) (n : Fin 256) l s, n.val = 128 + p.index → n.val ≠ 132 →
     ∃ t, exec (.irqSourceAssert dt n l) s = .next t ∧
       (t.src n.val).line = (s.rd p R.PAGE.FLAGS &&& s.rd p R.PAGE.FLAG_IE != 0) ∧
       (t.src n.val).pend = ((s.src n.val).pend ||
         ((t.src n.val).line && !(s.src n.val).latch && !(s.src n.val).insvc)) ∧ t.sent = s.sent) ∧
   (∀ dt (n : Fin 256) l s, 186 ≤ n.val → n.val ≤ 193 → s.isLevel n.val = true →
     ∃ t, exec (.irqSourceAssert dt n l) s = .next t ∧ (t.src n.val).line = l ∧
       (t.src n.val).pend = ((s.src n.val).pend || (l && !(s.src n.val).latch && !(s.src n.val).insvc))) ∧
   (∀ dt (i : Fin 8) l (n : Nat) s e c, e = s.elapse dt → c = s.rd .irq (R.IRQ.EXT_CFG i.val) →
     (n < fld c 15 8 → exec (.extIrqPin dt i ⟨l, n⟩) s = .next e) ∧
     (fld c 15 8 ≤ n → flg c 0 = false ∨ (flg c 1 = true ∧ (l ≠ flg c 2 ∨ sget false s.irq.ext i.val = l)) →
       exec (.extIrqPin dt i ⟨l, n⟩) s = .next { e with irq := { e.irq with ext := sset false e.irq.ext i.val l } }) ∧
     (fld c 15 8 ≤ n → flg c 0 = true → flg c 1 = true → l = flg c 2 → sget false s.irq.ext i.val ≠ l →
       ∃ t, exec (.extIrqPin dt i ⟨l, n⟩) s = .next t ∧ t.src (186 + i.val) = { s.src (186 + i.val) with pend := true } ∧
         sget false t.irq.ext i.val = l) ∧
     (fld c 15 8 ≤ n → flg c 0 = true → flg c 1 = false →
       ∃ t, exec (.extIrqPin dt i ⟨l, n⟩) s = .next t ∧ (t.src (186 + i.val)).line = decide (l = flg c 2) ∧
         sget false t.irq.ext i.val = l))) ∧
  ((∀ dt (k : Fin 6) w s x, s.pageServed .irq = true → x = (s.elapse dt).wr .irq (R.IRQ.TGT_PARK k.val) w →
     (s.rdb .irq (R.IRQ.TGT_PARK k.val) 0 = flg w 0 ∨ x.irqWaiting k.val = [] →
       exec (.irqPark dt k w) s = .next x) ∧
     (∀ u, s.rdb .irq (R.IRQ.TGT_PARK k.val) 0 ≠ flg w 0 → x.irqWaiting k.val ≠ [] → x.irqServer k.val = some u →
       ∃ t, exec (.irqPark dt k w) s = .next t ∧ t.regs = x.regs ∧
         (t.tgt u).events = min ((s.tgt u).events + (x.irqWaiting k.val).length) 2047 ∧ (t.tgt u).timing = true)) ∧
   (∀ dt (n : Fin 256) w s x again, s.pageServed .irq = true → x = (s.elapse dt).wr .irq (R.IRQ.SRC n.val) w →
     again = ((s.masked n.val && !flg w 31) || s.srcRoute n.val != fld w 18 16) →
     (again = false ∨ (s.src n.val).pend = false → exec (.irqSourceConfig dt n w) s = .next x) ∧
     (∀ u, again = true → (s.src n.val).pend = true → x.irqServer (x.srcRoute n.val) = some u →
       ∃ t, exec (.irqSourceConfig dt n w) s = .next t ∧ t.regs = x.regs ∧
         (t.tgt u).events = min ((s.tgt u).events + 1) 2047 ∧ (t.tgt u).timing = true)) ∧
   (∀ dt (k : Fin 6) (n : Fin 256) w s, s.pageServed .irq = false →
     exec (.irqPark dt k w) s = .next (s.elapse dt) ∧ exec (.irqComplete dt k w) s = .next (s.elapse dt) ∧
     exec (.irqSourceConfig dt n w) s = .next (s.elapse dt)))

/-- Delivery (R389 to R391, R393 to R395): a target that is due latches the pending sources it serves and sends one message
on each of their vectors, or holds it while the vector is masked or MSI-X is off; a claim takes the source of highest
priority, the lowest number on ties; a completion ends its service, and a bad one is counted. The model's own choices in it:
log entries 2, 25 and 55. -/
def Obligations.TargetsDeliver : Prop :=
  (∀ dt (k : Fin 6) s, (s.elapse dt).irqDue k.val = false → exec (.targetFire dt k) s = .next (s.elapse dt)) ∧
  (∀ dt (k : Fin 6) s, (s.elapse dt).irqDue k.val = true → ∃ t, exec (.targetFire dt k) s = .next t ∧
    (t.tgt k.val).events = 0 ∧ (t.tgt k.val).timing = false ∧
    (∀ n < 197, s.irqServer (s.srcRoute n) = some k.val → (s.src n).pend = true → s.masked n = false →
      (s.src n).insvc = false → (s.src n).latch = false →
      t.src n = { s.src n with
        pend := false
        latch := true
        tgt := k.val
        signalled := true } ∧
      (s.host.off = false → s.irqVector k.val n < 64 → s.msixMasked (s.irqVector k.val n) = false →
        Msg.msix (s.irqVector k.val n) ∈ t.sent) ∧
      (s.host.off = true ∨ s.msixMasked (s.irqVector k.val n) = true → s.irqVector k.val n < 64 →
        s.irqVector k.val n ∈ t.host.held)) ∧
    (s.host.off = true → t.sent = s.sent)) ∧
  (∀ dt (k : Fin 6) n s, s.pageServed .irq = true → s.irqOn = true → n < 197 → (s.src n).latch = true →
    (s.src n).tgt = k.val → (∀ m < 197, (s.src m).latch = true → (s.src m).tgt = k.val →
      s.rdf .irq (R.IRQ.SRC m) 10 8 < s.rdf .irq (R.IRQ.SRC n) 10 8 ∨
        (s.rdf .irq (R.IRQ.SRC m) 10 8 = s.rdf .irq (R.IRQ.SRC n) 10 8 ∧ n ≤ m)) →
    ∃ t, exec (.irqClaim dt k) s = .next t ∧ t.sent = .read (Page.irq.base + R.IRQ.TGT_CLAIM k.val) (2 ^ 31 + n) :: s.sent ∧
      (n ≠ 132 → t.src n = { s.src n with
        latch := false
        insvc := true }) ∧ (∀ m, m ≠ n → m ≠ 132 → t.src m = s.src m)) ∧
  (∀ dt (k : Fin 6) s, s.pageServed .irq = false ∨ s.irqOn = false ∨
    (∀ m < 197, (s.src m).latch = false ∨ (s.src m).tgt ≠ k.val) →
    exec (.irqClaim dt k) s = .next ((s.elapse dt).answerRead (Page.irq.base + R.IRQ.TGT_CLAIM k.val) 0)) ∧
  (∀ dt (k : Fin 6) w s n, n = fld w 7 0 → s.pageServed .irq = true → (s.src n).insvc = true → (s.src n).tgt = k.val →
    ∃ t, exec (.irqComplete dt k w) s = .next t ∧ (t.src n).insvc = false ∧
      (n ≠ 132 → (t.src n).pend = ((s.src n).pend || (s.isLevel n && (s.src n).line))) ∧
      t.rdn .irq R.IRQ.BADCPL = s.rdn .irq R.IRQ.BADCPL ∧
      t.rdn .irq R.IRQ.SPURIOUS =
        (if flg w 31 then satAdd 32 (s.rdn .irq R.IRQ.SPURIOUS) 1 else s.rdn .irq R.IRQ.SPURIOUS)) ∧
  (∀ dt (k : Fin 6) w s, s.pageServed .irq = true → (s.src (fld w 7 0)).insvc = false ∨ (s.src (fld w 7 0)).tgt ≠ k.val →
    ∃ t, exec (.irqComplete dt k w) s = .next t ∧ t.rdb .irq R.PAGE.FLAGS 10 = true ∧
      t.rdn .irq R.IRQ.BADCPL = satAdd 32 (s.rdn .irq R.IRQ.BADCPL) 1 ∧ ∀ n, n ≠ 132 → t.src n = s.src n)

/-- Uploads (R410, R411): OPEN empties the slot it opens, and is refused on the running or the activated one; a chunk is
written when its verdict is 0 and counted when it is not; CLOSE checks what was written and leaves the slot LOADED or empty.
A slot's state goes into its two-slot MRAM word, and waits there while PFW_N is low (R408, R438). The model's own choices in
it: log entries 2, 45 and 112. -/
def Obligations.UploadsComplete : Prop :=
  (∀ dt (b : Bool) s e, e = s.elapse dt → s.pageServed .fwu = true → s.fwuOn = true →
    ((b2n b = s.fwu.run ∧ s.fwu.exhausted = false) ∨ (∃ mt, s.fw.pending = some (b2n b, mt)) →
      exec (.openUpload dt b) s = .next (e.flag .fwu 14)) ∧
    (b2n b ≠ s.fwu.run ∨ s.fwu.exhausted = true → (∀ mt, s.fw.pending ≠ some (b2n b, mt)) →
      ∃ t, exec (.openUpload dt b) s = .next t ∧ t.fwu.upload = some (b2n b) ∧ t.fwu.next = 0 ∧
        (∃ w, t.fw.slot (b2n b) = { state := 1, word := w } ∧ (s.sys.pfwLow = false → w.value = 1)) ∧
        (s.sys.pfwLow = true → t.mram.fw = s.mram.fw) ∧
        (s.fwu.upload = none ∨ s.fwu.upload = some (b2n b) → t.fw.slot (b2n !b) = s.fw.slot (b2n !b)) ∧
        (s.fwu.upload = some (b2n !b) → ∃ w, t.fw.slot (b2n !b) = { word := w }) ∧
        (s.sys.pfwLow = false → t.regs = s.regs))) ∧
  (∀ dt (b : Bool) (len : BitVec 11) s e, e = s.elapse dt → s.pageServed .fwu = false ∨ s.fwuOn = false →
    exec (.openUpload dt b) s = .next e ∧ exec (.closeUpload dt) s = .next e ∧ exec (.abortUpload dt) s = .next e ∧
    exec (.windowChunk dt len) s = .next e) ∧
  (∀ dt s e, e = s.elapse dt → s.pageServed .fwu = true → s.fwuOn = true →
    (s.fwu.upload = none → exec (.closeUpload dt) s = .next (e.flag .fwu 14) ∧ exec (.abortUpload dt) s = .next e) ∧
    (∀ k, s.fwu.upload = some k → ∃ t, exec (.abortUpload dt) s = .next t ∧ t.fwu.upload = none ∧
      (∃ w, t.fw.slot k = { word := w } ∧ (s.sys.pfwLow = false → w.value = 0 ∧ t.regs = s.regs))) ∧
    (∀ k b len good, s.fwu.upload = some k → b = (s.fw.slot k).bytes → len = s.rdn .fwu R.FWU.CLOSE_LEN →
      good = (decide (len = s.fwu.next ∧ s.rdn .fwu R.FWU.CLOSE_CRC = crc32c b ∧ leAt b 0 4 = 0x46574C56 ∧
        leAt b 4 2 = 1 ∧ leAt b 0x14 4 = len)) →
      ∃ t, exec (.closeUpload dt) s = .next t ∧ t.fwu.upload = none ∧
        (good = true → (t.fw.slot k).state = 2 ∧ (t.fw.slot k).bytes = b ∧ (t.fw.slot k).len = len ∧
          (t.fw.slot k).sv = byteAt b 6 ∧ t.rdb .fwu R.PAGE.FLAGS 8 = true) ∧
        (good = false → (∃ w, t.fw.slot k = { word := w }) ∧ t.rdb .fwu R.PAGE.FLAGS 14 = true))) ∧
  (∀ dt s v, s.fwu.waitA = some v → ∃ t, exec (.pfwRise dt) s = .next t ∧ t.fwu.waitA = none ∧
    t.mram.fw.a.state = v.state ∧ t.mram.fw.a.word.value = v.state ∧ t.mram.fw.a.bytes = v.bytes) ∧
  (∀ dt (r : Fin 4) s d off dlen data v, s.ringHead r.val = some d → d.tflags = 1 → off = leAt d.data 0 4 →
    dlen = leAt d.data 4 4 → data = slice d.data 16 dlen →
    v = (if d.len ≠ 16 + dlen then 0x0002 else chunkVerdict s 65536 off dlen (leAt d.data 8 4) data) →
    ∃ t, exec (.firmwareChunk dt r) s = .next t ∧
      Msg.desc r.val (s.ring r.val).midx [] (d.done r.val v 0 ((s.elapse dt).mt % 2 ^ 32) 0) ∈ t.sent ∧
      (v = 0 → ∀ k, s.fwu.upload = some k → t.fwu.next = off + dlen ∧
        (t.fw.slot k).bytes = (s.fw.slot k).bytes ++ data ∧ t.fw.xferErr = s.fw.xferErr) ∧
      (v ≠ 0 → t.fw.xferErr = satAdd 32 s.fw.xferErr 1 ∧ t.fw.a = s.fw.a ∧ t.fw.b = s.fw.b ∧ t.fwu = s.fwu ∧
        t.rdb .fwu R.PAGE.FLAGS 9 = true)) ∧
  (∀ dt (r : Fin 4) s, (∀ d, s.ringHead r.val = some d → d.tflags ≠ 1) →
    exec (.firmwareChunk dt r) s = .next (s.elapse dt)) ∧
  (∀ dt (n : BitVec 11) s data v, s.pageServed .fwu = true → s.fwuOn = true →
    data = ((List.range 256).flatMap (fun w => leBytes 4 (s.rdn .fwu (R.FWU.WIN w)))).take n.toNat →
    v = chunkVerdict s 1024 (s.rdn .fwu R.FWU.WOFF) n.toNat (s.rdn .fwu R.FWU.WCRC) data →
    ∃ t, exec (.windowChunk dt n) s = .next t ∧ t.rdn .fwu R.FWU.WSTAT = v ∧
      (v = 0 → ∀ k, s.fwu.upload = some k → t.fwu.next = s.rdn .fwu R.FWU.WOFF + n.toNat ∧
        (t.fw.slot k).bytes = (s.fw.slot k).bytes ++ data) ∧
      (v ≠ 0 → t.fw.xferErr = satAdd 32 s.fw.xferErr 1 ∧ t.fwu = s.fwu ∧ t.rdb .fwu R.PAGE.FLAGS 9 = true))

/-- Activation, trial and commit (R413, R416, R417). The model's own choices in it: log entries 2, 61, 68 and 112. -/
def Obligations.ActivationAndTrialComplete : Prop :=
  (∀ dt s e, e = s.elapse dt → s.fw.pending = none →
    exec (.activationDue dt) s = .next e ∧ exec (.activationCancel dt) s = .next e) ∧
  (∀ dt s e k mt, e = s.elapse dt → s.fw.pending = some (k, mt) →
    (mt ≤ e.mt → s.mode.serves = true → e.mayReboot = false → s.fwu.deferred = none →
      ∃ t, exec (.activationDue dt) s = .next t ∧ t.fwu = { s.fwu with deferred := some e.mt } ∧
        t.rdb .fwu R.PAGE.FLAGS 10 = true ∧ t.mram = s.mram ∧ t.mode = s.mode) ∧
    (e.mt < mt ∨ s.mode.serves = false ∨ e.mayReboot = true ∨ (∃ d, s.fwu.deferred = some d) →
      exec (.activationDue dt) s = .next e) ∧
    (s.fwu.deferred = none → exec (.activationCancel dt) s = .next e) ∧
    (∀ d, s.fwu.deferred = some d → e.mt < d + s.rdf .fwu R.FWU.CFG 7 0 * 3600000000000 →
      exec (.activationCancel dt) s = .next e) ∧
    (∀ d, s.fwu.deferred = some d → d + s.rdf .fwu R.FWU.CFG 7 0 * 3600000000000 ≤ e.mt →
      ∃ t, exec (.activationCancel dt) s = .next t ∧ t.fw.pending = none ∧ t.fwu.deferred = none ∧
        t.rdb .fwu R.PAGE.FLAGS 11 = true ∧ t.fw.pref = s.fw.pref ∧ t.mode = s.mode ∧
        (s.sbx.lockedQ.length < 16 → t.sbx.lockedQ.length = s.sbx.lockedQ.length + 1))) ∧
  (∀ dt s e, e = s.elapse dt →
    (s.fw.trial = true → s.mode.isRole = true → s.rdf .fwu R.FWU.CFG 15 8 * 60000000000 ≤ s.fw.trialNs + e.inRoleNs →
      ∃ t, exec (.trialEnd dt) s = .next t ∧ t.fw.trial = false ∧ t.fw.roleNs = 0 ∧ t.regs = s.regs ∧ t.mode = s.mode) ∧
    (s.fw.trial = false ∨ s.mode.isRole = false ∨
      s.fw.trialNs + e.inRoleNs < s.rdf .fwu R.FWU.CFG 15 8 * 60000000000 → exec (.trialEnd dt) s = .next e)) ∧
  (∀ dt s e v h, e = s.elapse dt → v = s.fw.slot s.fwu.run → h = s.rdf .fwu R.FWU.CFG 31 16 * 3600000000000 →
    (s.fw.trial = false → v.state = 3 → s.fw.otp < v.sv → s.sys.pfwLow = false → s.mode.serves = true →
      h ≤ s.fw.roleNs + e.inRoleNs →
      ∃ t, exec (.svCommit dt) s = .next t ∧ t.mram.fw = { s.mram.fw with otp := v.sv } ∧
        t.rdb .fwu R.PAGE.FLAGS 13 = true ∧ t.mode = s.mode) ∧
    (s.fw.trial = true ∨ v.state ≠ 3 ∨ v.sv ≤ s.fw.otp ∨ s.sys.pfwLow = true ∨ s.mode.serves = false ∨
      s.fw.roleNs + e.inRoleNs < h → exec (.svCommit dt) s = .next e))

/-- Die temperature and power (R422 to R425): an update corrects the nodes, keeps the highest temperature and takes the
throttle level, whose level 3 is OUT cause [5], also in OUT; a power sample fills the registers and raises the alarm when it
rises above its limit; a write of NSEL latches its node. The model's own choices in it: log entries 2, 24 and 56. -/
def Obligations.ThermalAndPowerComplete : Prop :=
  (∀ dt nodes diodes s, s.mode.serves = false → s.mode ≠ .out → exec (.dieModelUpdate dt nodes diodes) s = .next (s.elapse dt)) ∧
  (∀ dt nodes diodes s l tj hys, s.mode.serves = true → s.fw.trial = false → l = s.correctNodes nodes diodes →
    tj = l.foldl max (l.getD 0 0) → hys = ((fld (s.thmCfg R.THM.HYS) 15 0 : Nat) : Int) →
    ∃ t many, exec (.dieModelUpdate dt nodes diodes) s = .next t ∧ t.thm.nodes = l ∧ t.thm.maxTj = max s.thm.maxTj tj ∧
      many = decide (4 < popCount (t.rdn .thm R.THM.DEXCL) 16) ∧ t.rdf .thm R.THM.TJ 15 0 = unsign 16 tj ∧
      (6528 ≤ tj → t.thm.level = 3) ∧ (6528 ≤ tj → s.thm.level < 3 → t.mode = .out ∧ t.outputsSafe) ∧
      (6400 ≤ tj → tj < 6528 - hys → t.thm.level = 2) ∧
      (6080 ≤ tj → tj < 6400 - hys → many = false → t.thm.level = 1) ∧
      (tj < 6080 → tj < 6080 - hys → many = false → t.thm.level = 0) ∧ (many = true → 2 ≤ t.thm.level) ∧
      (tj < 6528 → s.thm.level ≤ 2 → t.thm.level ≤ 2 ∧
        t.rdf .thm R.THM.STAT 1 0 = t.thm.level ∧ t.rdf .thm R.THM.STAT 15 8 = stretchOf t.thm.level tj)) ∧
  (∀ dt nodes diodes s l tj, s.mode = .out → s.fw.trial = false → l = s.correctNodes nodes diodes →
    tj = l.foldl max (l.getD 0 0) →
    ∃ t, exec (.dieModelUpdate dt nodes diodes) s = .next t ∧ t.thm.nodes = l ∧ t.thm.maxTj = max s.thm.maxTj tj ∧
      t.rdf .thm R.THM.TJ 15 0 = unsign 16 tj ∧ (6528 ≤ tj → t.thm.level = 3) ∧ t.mode = .out) ∧
  (∀ dt ds total mean vaon vin s, s.mode.serves = false →
    exec (.powerSample dt ds total mean vaon vin) s = .next (s.elapse dt)) ∧
  (∀ dt ds total mean vaon vin s o, s.mode.serves = true →
    o = (s.running .pwr && decide (s.rdf .pwr R.PWR.CFG 15 0 * 100 < mean)) →
    ∃ t, exec (.powerSample dt ds total mean vaon vin) s = .next t ∧
      (∀ d < 15, t.rdn .pwr (R.PWR.P d) = ds.getD d 0 % 65536) ∧
      t.rdn .pwr (R.PWR.P 15) = (total - (ds.take 15).sum) % 65536 ∧ t.rdn .pwr R.PWR.TOTAL = total % 2 ^ 32 ∧
      t.rdn .pwr R.PWR.SUPPLY = vaon % 65536 * 65536 + vin % 65536 ∧
      t.rdn .pwr R.PWR.PEAK = max (s.rdn .pwr R.PWR.PEAK) mean % 2 ^ 32 ∧ t.pwrAlarm = o ∧
      (o = true → s.pwrAlarm = false → t.rdb .pwr R.PAGE.FLAGS 8 = true ∧
        t.rdn .pwr R.PWR.ALARMS = satAdd 32 (s.rdn .pwr R.PWR.ALARMS) 1) ∧
      (o = false ∨ s.pwrAlarm = true → t.rdn .pwr R.PWR.ALARMS = s.rdn .pwr R.PWR.ALARMS ∧ t.sent = s.sent ∧
        t.irq = s.irq)) ∧
  (∀ dt (n : Fin 64) s, s.pageServed .thm = true → ∃ t, exec (.nselLatch dt n) s = .next t ∧
    t.rdn .thm R.THM.NSEL = n.val ∧ t.rdn .thm R.THM.NODE = unsign 16 (s.thm.nodes.getD n.val 0) ∧ t.thm = s.thm) ∧
  (∀ dt (n : Fin 64) s, s.pageServed .thm = false → exec (.nselLatch dt n) s = .next (s.elapse dt))
end

