-- ==== Sys2Proof/Laws/Sparse.lean ====
section
/-! SUPPORT. What reading and writing a sparse table does: a read after a write, and that writes keep the canonical form. -/

namespace Sys2Proof.Machine

variable {α : Type}

theorem mem_insertBy (le : α → α → Bool) (x y : α) (l : List α) : y ∈ insertBy le x l ↔ y = x ∨ y ∈ l := by
  induction l with
  | nil => simp [insertBy]
  | cons z l ih => unfold insertBy; split <;> simp [ih]; tauto

/-- Sorting keeps the elements. -/
theorem mem_sortBy (le : α → α → Bool) (y : α) (l : List α) : y ∈ sortBy le l ↔ y ∈ l := by
  induction l with
  | nil => simp [sortBy]
  | cons x l ih => simp [sortBy, mem_insertBy, ih]

/-- A canonical table, as a statement about its keys and values. -/
theorem swf_iff [DecidableEq α] (d : Nat → α) (l : List (Nat × α)) :
    swf d l = true ↔ l.Pairwise (fun a b => a.1 < b.1) ∧ ∀ e ∈ l, e.2 ≠ d e.1 := by
  induction l with
  | nil => simp [swf]
  | cons e t ih =>
    cases t with
    | nil => simp [swf]
    | cons f t =>
      simp only [swf, Bool.and_eq_true, decide_eq_true_eq, ih, List.pairwise_cons, List.mem_cons, forall_eq_or_imp]
      constructor
      · rintro ⟨⟨he, hlt⟩, ⟨hf, ht⟩, hfd, htd⟩
        exact ⟨⟨⟨hlt, fun x hx => lt_trans hlt (hf x hx)⟩, hf, ht⟩, he, hfd, htd⟩
      · rintro ⟨⟨⟨hlt, _⟩, hf, ht⟩, he, hfd, htd⟩
        exact ⟨⟨he, hlt⟩, ⟨hf, ht⟩, hfd, htd⟩

@[simp] theorem sget_nil (d : α) (k : Nat) : sget d [] k = d := rfl

theorem sget_cons (d : α) (e : Nat × α) (t : List (Nat × α)) (k : Nat) :
    sget d (e :: t) k = if e.1 = k then e.2 else sget d t k := rfl

@[simp] theorem sget_sinsert_same (d : α) (m : List (Nat × α)) (k : Nat) (v : α) (h : ∀ e ∈ m, e.1 ≠ k) :
    sget d (sinsert k v m) k = v := by
  induction m with
  | nil => simp [sinsert, sget_cons]
  | cons e t ih =>
    have he : e.1 ≠ k := h e (by simp)
    have ht : ∀ x ∈ t, x.1 ≠ k := fun x hx => h x (by simp [hx])
    by_cases hk : k < e.1 <;> simp [sinsert, hk, sget_cons, he, ih ht]

theorem sget_sinsert_other (d : α) (m : List (Nat × α)) {k j : Nat} (v : α) (h : j ≠ k) :
    sget d (sinsert k v m) j = sget d m j := by
  induction m with
  | nil => simp [sinsert, sget_cons, Ne.symm h]
  | cons e t ih => by_cases hk : k < e.1 <;> simp [sinsert, hk, sget_cons, Ne.symm h, ih]

theorem serase_key (m : List (Nat × α)) (k : Nat) : ∀ e ∈ serase m k, e.1 ≠ k := by
  intro e he
  simpa using (List.mem_filter.mp he).2

theorem sget_serase_same (d : α) (m : List (Nat × α)) (k : Nat) : sget d (serase m k) k = d := by
  induction m with
  | nil => rfl
  | cons e t ih => by_cases h : e.1 = k <;> simp_all [serase, sget_cons]

theorem sget_serase_other (d : α) (m : List (Nat × α)) {k j : Nat} (h : j ≠ k) :
    sget d (serase m k) j = sget d m j := by
  induction m with
  | nil => rfl
  | cons e t ih =>
    by_cases hk : e.1 = k
    · simp_all [serase, sget_cons, Ne.symm h]
    · simp_all [serase, sget_cons]

/-- A read after a write to the same key gives the value written. -/
@[simp] theorem sget_sset_same [DecidableEq α] (d : α) (m : List (Nat × α)) (k : Nat) (v : α) :
    sget d (sset d m k v) k = v := by
  by_cases h : v = d
  · simp [sset, h, sget_serase_same]
  · simp [sset, h, sget_sinsert_same d _ k v (serase_key m k)]

/-- A write leaves every other key alone. -/
theorem sget_sset_other [DecidableEq α] (d d' : α) (m : List (Nat × α)) {k j : Nat} (v : α) (h : j ≠ k) :
    sget d (sset d' m k v) j = sget d m j := by
  by_cases hv : v = d'
  · simp [sset, hv, sget_serase_other d m h]
  · simp [sset, hv, sget_sinsert_other d _ v h, sget_serase_other d m h]

theorem serase_pairwise {m : List (Nat × α)} (k : Nat) (h : m.Pairwise (fun a b => a.1 < b.1)) :
    (serase m k).Pairwise (fun a b => a.1 < b.1) := h.filter _

theorem sinsert_mem {m : List (Nat × α)} {k : Nat} {v : α} {e : Nat × α} (h : e ∈ sinsert k v m) :
    e = (k, v) ∨ e ∈ m := by
  induction m with
  | nil => simpa [sinsert] using h
  | cons f t ih =>
    by_cases hk : k < f.1
    · simpa [sinsert, hk] using h
    · simp only [sinsert, hk, if_false, List.mem_cons] at h
      rcases h with h | h
      · exact Or.inr (by simp [h])
      · rcases ih h with h | h
        · exact Or.inl h
        · exact Or.inr (by simp [h])

theorem sinsert_pairwise {m : List (Nat × α)} {k : Nat} (v : α) (h : m.Pairwise (fun a b => a.1 < b.1))
    (hk : ∀ e ∈ m, e.1 ≠ k) : (sinsert k v m).Pairwise (fun a b => a.1 < b.1) := by
  induction m with
  | nil => simp [sinsert]
  | cons e t ih =>
    have ht := (List.pairwise_cons.mp h)
    by_cases hlt : k < e.1
    · simp only [sinsert, hlt, if_true]
      refine List.pairwise_cons.mpr ⟨fun x hx => ?_, h⟩
      rcases List.mem_cons.mp hx with rfl | hx
      · exact hlt
      · exact lt_trans hlt (ht.1 x hx)
    · simp only [sinsert, hlt, if_false]
      refine List.pairwise_cons.mpr ⟨fun x hx => ?_, ih ht.2 (fun y hy => hk y (by simp [hy]))⟩
      rcases sinsert_mem hx with rfl | hx
      · exact lt_of_le_of_ne (not_lt.mp hlt) (hk e (by simp))
      · exact ht.1 x hx

theorem sset_pairwise [DecidableEq α] (d : α) {m : List (Nat × α)} (k : Nat) (v : α)
    (h : m.Pairwise (fun a b => a.1 < b.1)) : (sset d m k v).Pairwise (fun a b => a.1 < b.1) := by
  unfold sset
  split
  · exact serase_pairwise k h
  · exact sinsert_pairwise v (serase_pairwise k h) (serase_key m k)

theorem sset_mem [DecidableEq α] {d : α} {m : List (Nat × α)} {k : Nat} {v : α} {e : Nat × α}
    (h : e ∈ sset d m k v) : (e = (k, v) ∧ v ≠ d) ∨ e ∈ m := by
  unfold sset at h
  split at h
  · exact Or.inr (List.mem_of_mem_filter h)
  · rcases sinsert_mem h with h | h
    · exact Or.inl ⟨h, ‹_›⟩
    · exact Or.inr (List.mem_of_mem_filter h)

/-- A write keeps the canonical form. -/
theorem sset_swf [DecidableEq α] (d : α) {m : List (Nat × α)} (k : Nat) (v : α)
    (h : swf (fun _ => d) m = true) : swf (fun _ => d) (sset d m k v) = true := by
  rw [swf_iff] at h ⊢
  refine ⟨sset_pairwise d k v h.1, fun e he => ?_⟩
  rcases sset_mem he with ⟨rfl, hv⟩ | he
  · exact hv
  · exact h.2 e he

/-- A run of writes keeps the canonical form. -/
theorem foldl_sset_swf [DecidableEq α] (d : α) (l : List (Nat × α)) {m : List (Nat × α)}
    (h : swf (fun _ => d) m = true) :
    swf (fun _ => d) (l.foldl (fun m e => sset d m e.1 e.2) m) = true := by
  induction l generalizing m with
  | nil => exact h
  | cons e t ih => exact ih (sset_swf d e.1 e.2 h)

/-- A number is older than the next one, and never newer (R166). -/
theorem seqNewer_next (n : Nat) : seqNewer n ((n + 1) % 2 ^ 32) = true := by
  unfold seqNewer
  simp only [Bool.and_eq_true, decide_eq_true_eq]
  omega

theorem seqNewer_prev (n : Nat) : seqNewer ((n + 1) % 2 ^ 32) n = false := by
  unfold seqNewer
  simp only [Bool.and_eq_false_iff, decide_eq_false_iff_not]
  omega

end Sys2Proof.Machine
end

