-- ==== Sys2Proof/Laws/Keeps.lean ====
section
/-! SUPPORT. Two relations between a state and a later one, and how they compose: `Keeps` holds of every operation of the
model, `Calm` of every operation that moves neither the module's state, nor a trip group, nor a PWM pair, and does not raise
DRIVE_EN. -/

namespace Sys2Proof.Machine

open Sys2Proof

/-- The queue is untouched, the register store keeps its canonical form, free values are not drawn twice, and what went out
stays as it was sent. -/
structure Keeps (r s : State) : Prop where
  pending : s.pending = r.pending
  regs : RegsWf r.regs → RegsWf s.regs
  free : r.free ≤ s.free
  sent : r.sent <:+ s.sent

theorem Keeps.refl (s : State) : Keeps s s := ⟨rfl, id, le_refl _, List.suffix_refl _⟩

theorem Keeps.trans {r s t : State} (h : Keeps r s) (k : Keeps s t) : Keeps r t :=
  ⟨k.pending.trans h.pending, k.regs ∘ h.regs, h.free.trans k.free, h.sent.trans k.sent⟩

/-- `Keeps`, with the mode, the trip groups and the PWM pairs as they were; DRIVE_EN does not rise, and a fall that is
due stays due. -/
structure Calm (r s : State) : Prop where
  keeps : Keeps r s
  mode : s.sys.mode = r.sys.mode
  drive : s.sys.driveEn = true → r.sys.driveEn = true ∧ (r.sys.dropAt.isSome = true → s.sys.dropAt.isSome = true)
  groups : s.prot.groups = r.prot.groups
  pairs : s.loops.pairs = r.loops.pairs

theorem Calm.refl (s : State) : Calm s s := ⟨Keeps.refl s, rfl, fun d => ⟨d, id⟩, rfl, rfl⟩

theorem Calm.trans {r s t : State} (h : Calm r s) (k : Calm s t) : Calm r t :=
  ⟨h.keeps.trans k.keeps, k.mode.trans h.mode,
    fun d => ⟨(h.drive (k.drive d).1).1, fun e => (k.drive d).2 ((h.drive (k.drive d).1).2 e)⟩, k.groups.trans h.groups, k.pairs.trans h.pairs⟩

/-- The outputs are right for the module's state. -/
def OutInv (s : State) : Prop := DriveOk s ∧ OutputsOk s

/-- `Keeps`, with outputs that stay right for the module's state. -/
structure Steady (r s : State) : Prop where
  keeps : Keeps r s
  inv : OutInv r → OutInv s

theorem Steady.refl (s : State) : Steady s s := ⟨Keeps.refl s, id⟩

theorem Steady.trans {r s t : State} (h : Steady r s) (k : Steady s t) : Steady r t :=
  ⟨h.keeps.trans k.keeps, k.inv ∘ h.inv⟩

theorem Calm.steady {r s : State} (h : Calm r s) : Steady r s := by
  refine ⟨h.keeps, fun i => ⟨fun d => ?_, fun d => ?_⟩⟩
  · rw [h.mode]; exact (i.1 (h.drive d).1).imp id (h.drive d).2
  · have := i.2 (h.mode ▸ d)
    exact ⟨Bool.eq_false_iff.mpr fun e => by simpa [this.1] using (h.drive e).1, h.groups.trans this.2.1, fun m k => by rw [h.pairs]; exact this.2.2 m k⟩

/-- An outcome that, if it is a next state, is related to `r`. -/
inductive Ends (R : State → State → Prop) (r : State) : Host.Outcome State Fault Refusal → Prop where
  | next {t : State} (h : R r t) : Ends R r (.next t)
  | fault (x : Fault) : Ends R r (.fault x)
  | refused (x : Refusal) : Ends R r (.refused x)

/-- What an outcome that is a next state is related to. -/
theorem Ends.of {R : State → State → Prop} {r t : State} {o : Host.Outcome State Fault Refusal} (h : Ends R r o)
    (e : o = .next t) : R r t := by
  subst e
  cases h with
  | next h => exact h

theorem Ends.ite {R : State → State → Prop} {r : State} {c : Prop} [Decidable c]
    {a b : Host.Outcome State Fault Refusal} (h : Ends R r a) (k : Ends R r b) : Ends R r (if c then a else b) := by
  split <;> assumption

theorem Ends.mono {R S : State → State → Prop} (f : ∀ r t, R r t → S r t) {r : State}
    {o : Host.Outcome State Fault Refusal} (h : Ends R r o) : Ends S r o := by
  cases h with
  | next h => exact .next (f _ _ h)
  | fault x => exact .fault x
  | refused x => exact .refused x

theorem Ends.cite {R S : State → State → Prop} (tr : ∀ {r s t}, R r s → S s t → R r t) {r s : State}
    {o : Host.Outcome State Fault Refusal} (h : R r s) (k : Ends S s o) : Ends R r o := by
  cases k with
  | next k => exact .next (tr h k)
  | fault x => exact .fault x
  | refused x => exact .refused x

theorem hostDo_ind (P : State → Prop) {s : State} {p : Page} {f : State → State} (h : P s)
    (k : ∀ t, P t → P (f t)) : P (s.hostDo p f) := by
  unfold State.hostDo; split
  · exact k s h
  · exact h

theorem foldl_ind (P : State → Prop) {α : Type} {f : State → α → State} {l : List α} {s : State} (h : P s)
    (k : ∀ t a, P t → P (f t a)) : P (l.foldl f s) := by
  induction l generalizing s with
  | nil => exact h
  | cons a l ih => exact ih (k s a h)

theorem foldl_snd_ind (P : State → Prop) {α β : Type} {f : β × State → α → β × State} {l : List α} {x : β × State}
    (h : P x.2) (k : ∀ t a, P t.2 → P (f t a).2) : P (l.foldl f x).2 := by
  induction l generalizing x with
  | nil => exact h
  | cons a l ih => exact ih (k x a h)

theorem ite_ind (P : State → Prop) {a b : State} {c : Prop} [Decidable c] (h : P a) (k : P b) :
    P (if c then a else b) := by split <;> assumption

theorem snd_ind (P : State → Prop) {α : Type} {x : α × State} {a : α} {s : State} (e : x = (a, s)) (h : P x.2) : P s := by
  subst e; exact h

theorem fst_ind (P : State → Prop) {β : Type} {x : State × β} {b : β} {s : State} (e : x = (s, b)) (h : P x.1) : P s := by
  subst e; exact h

theorem thd_ind (P : State → Prop) {α β : Type} {x : α × β × State} {a : α} {b : β} {s : State} (e : x = (a, b, s))
    (h : P x.2.2) : P s := by subst e; exact h

theorem some_ind (P : State → Prop) {x : Option State} {s : State} (e : x = some s) (h : ∀ t, x = some t → P t) : P s :=
  h s e

theorem Calm.ite {r a b : State} {c : Prop} [Decidable c] (h : Calm r a) (k : Calm r b) :
    Calm r (if c then a else b) := ite_ind (Calm r) h k

theorem Calm.foldl {r : State} {α : Type} {f : State → α → State} {l : List α} {s : State} (h : Calm r s)
    (k : ∀ t a, Calm r t → Calm r (f t a)) : Calm r (l.foldl f s) := foldl_ind (Calm r) h k

theorem Calm.foldlSnd {r : State} {α β : Type} {f : β × State → α → β × State} {l : List α} {x : β × State} (h : Calm r x.2)
    (k : ∀ t a, Calm r t.2 → Calm r (f t a).2) : Calm r (l.foldl f x).2 := foldl_snd_ind (Calm r) h k

theorem Calm.hostDo {r s : State} {p : Page} {f : State → State} (h : Calm r s) (k : ∀ t, Calm r t → Calm r (f t)) :
    Calm r (s.hostDo p f) := hostDo_ind (Calm r) h k

theorem Calm.snd {r s : State} {α : Type} {x : α × State} {a : α} (e : x = (a, s)) (h : Calm r x.2) : Calm r s :=
  snd_ind (Calm r) e h

theorem Calm.pair {r s : State} {α : Type} {a : α} (h : Calm r s) : Calm r (a, s).2 := h

theorem Calm.pairIn {r : State} {α β : Type} {a : α} {x : β × State} (h : Calm r x.2) : Calm r (a, x).2.2 := h

theorem Calm.thd {r s : State} {α β : Type} {x : α × β × State} {a : α} {b : β} (e : x = (a, b, s)) (h : Calm r x.2.2) :
    Calm r s := thd_ind (Calm r) e h

theorem Steady.ite {r a b : State} {c : Prop} [Decidable c] (h : Steady r a) (k : Steady r b) :
    Steady r (if c then a else b) := ite_ind (Steady r) h k

theorem Steady.foldl {r : State} {α : Type} {f : State → α → State} {l : List α} {s : State} (h : Steady r s)
    (k : ∀ t a, Steady r t → Steady r (f t a)) : Steady r (l.foldl f s) := foldl_ind (Steady r) h k

theorem Steady.foldlSnd {r : State} {α β : Type} {f : β × State → α → β × State} {l : List α} {x : β × State} (h : Steady r x.2)
    (k : ∀ t a, Steady r t.2 → Steady r (f t a).2) : Steady r (l.foldl f x).2 := foldl_snd_ind (Steady r) h k

theorem Steady.hostDo {r s : State} {p : Page} {f : State → State} (h : Steady r s) (k : ∀ t, Steady r t → Steady r (f t)) :
    Steady r (s.hostDo p f) := hostDo_ind (Steady r) h k

theorem Steady.snd {r s : State} {α : Type} {x : α × State} {a : α} (e : x = (a, s)) (h : Steady r x.2) : Steady r s :=
  snd_ind (Steady r) e h

theorem Steady.pair {r s : State} {α : Type} {a : α} (h : Steady r s) : Steady r (a, s).2 := h

theorem Steady.pairIn {r : State} {α β : Type} {a : α} {x : β × State} (h : Steady r x.2) : Steady r (a, x).2.2 := h

theorem Steady.thd {r s : State} {α β : Type} {x : α × β × State} {a : α} {b : β} (e : x = (a, b, s)) (h : Steady r x.2.2) :
    Steady r s := thd_ind (Steady r) e h

theorem Keeps.ite {r a b : State} {c : Prop} [Decidable c] (h : Keeps r a) (k : Keeps r b) :
    Keeps r (if c then a else b) := ite_ind (Keeps r) h k

theorem Keeps.foldl {r : State} {α : Type} {f : State → α → State} {l : List α} {s : State} (h : Keeps r s)
    (k : ∀ t a, Keeps r t → Keeps r (f t a)) : Keeps r (l.foldl f s) := foldl_ind (Keeps r) h k

theorem Keeps.foldlSnd {r : State} {α β : Type} {f : β × State → α → β × State} {l : List α} {x : β × State} (h : Keeps r x.2)
    (k : ∀ t a, Keeps r t.2 → Keeps r (f t a).2) : Keeps r (l.foldl f x).2 := foldl_snd_ind (Keeps r) h k

theorem Keeps.hostDo {r s : State} {p : Page} {f : State → State} (h : Keeps r s) (k : ∀ t, Keeps r t → Keeps r (f t)) :
    Keeps r (s.hostDo p f) := hostDo_ind (Keeps r) h k

theorem Keeps.snd {r s : State} {α : Type} {x : α × State} {a : α} (e : x = (a, s)) (h : Keeps r x.2) : Keeps r s :=
  snd_ind (Keeps r) e h

theorem Keeps.pair {r s : State} {α : Type} {a : α} (h : Keeps r s) : Keeps r (a, s).2 := h

theorem Keeps.pairIn {r : State} {α β : Type} {a : α} {x : β × State} (h : Keeps r x.2) : Keeps r (a, x).2.2 := h

theorem Keeps.thd {r s : State} {α β : Type} {x : α × β × State} {a : α} {b : β} (e : x = (a, b, s)) (h : Keeps r x.2.2) :
    Keeps r s := thd_ind (Keeps r) e h

theorem drive_same {y z : SysSt} (e : (y.driveEn, y.dropAt) = (z.driveEn, z.dropAt)) (d : y.driveEn = true) :
    z.driveEn = true ∧ (z.dropAt.isSome = true → y.dropAt.isSome = true) := by
  obtain ⟨e1, e2⟩ := Prod.mk.inj e
  exact ⟨e1 ▸ d, fun k => e2 ▸ k⟩

/-- An update of fields that the relation does not look at. -/
theorem Calm.upd {r x : State}
    {sys : SysSt} {pages : List (Nat × PageState)} {regs : List (Nat × Word)} {rings : List (Nat × RingSt)}
    {host : HostSt} {irq : IrqSt} {free : Nat} {sent : List Msg}
    {pending : List Instr} {acc : List (Nat × ChanAcc)} {tb : TimebaseSt} {sns : List (Nat × RingSns)}
    {mod : ModSt} {chg : ChgSt} {jrn : JrnSt} {est : EstSt}
    {ost : OstSt} {bal : BalSt} {cth : CthSt} {loops : LoopSt}
    {prot : ProtSt} {safe : SafeSt} {slay : SlaySt} {events : List EvItem}
    {completions : List Completion} {tdm : TdmSt} {wit : WitSt} {way : WaySt}
    {sbx : SbxSt} {can : List (Nat × CanSt)} {eth : EthSt} {time : TimeSt} {keyWait : List (Nat × Nat)}
    {fwu : FwuSt} {thm : ThmSt} {pwrAlarm : Bool} {mram : Mram}
    (h : Calm r x) (h_pending : pending = x.pending) (h_regs : regs = x.regs) (h_free : free = x.free) (h_sent : sent = x.sent) (e1 : sys.mode = x.sys.mode) (e2 : (sys.driveEn, sys.dropAt) = (x.sys.driveEn, x.sys.dropAt)) (e3 : prot.groups = x.prot.groups) (e4 : loops.pairs = x.loops.pairs) :
    Calm r (State.mk sys pages regs rings host irq free sent pending acc tb sns mod chg jrn est ost bal cth loops prot safe slay events completions tdm wit way sbx can eth time keyWait fwu thm pwrAlarm mram) := by
  exact h.trans (⟨⟨h_pending, fun w => by rw [h_regs]; exact w, h_free ▸ le_refl _, h_sent ▸ List.suffix_refl _⟩, e1, drive_same e2, e3, e4⟩)

/-- An update of fields that the relation does not look at. -/
theorem Steady.upd {r x : State}
    {sys : SysSt} {pages : List (Nat × PageState)} {regs : List (Nat × Word)} {rings : List (Nat × RingSt)}
    {host : HostSt} {irq : IrqSt} {free : Nat} {sent : List Msg}
    {pending : List Instr} {acc : List (Nat × ChanAcc)} {tb : TimebaseSt} {sns : List (Nat × RingSns)}
    {mod : ModSt} {chg : ChgSt} {jrn : JrnSt} {est : EstSt}
    {ost : OstSt} {bal : BalSt} {cth : CthSt} {loops : LoopSt}
    {prot : ProtSt} {safe : SafeSt} {slay : SlaySt} {events : List EvItem}
    {completions : List Completion} {tdm : TdmSt} {wit : WitSt} {way : WaySt}
    {sbx : SbxSt} {can : List (Nat × CanSt)} {eth : EthSt} {time : TimeSt} {keyWait : List (Nat × Nat)}
    {fwu : FwuSt} {thm : ThmSt} {pwrAlarm : Bool} {mram : Mram}
    (h : Steady r x) (h_pending : pending = x.pending) (h_regs : regs = x.regs) (h_free : free = x.free) (h_sent : sent = x.sent) (e1 : sys.mode = x.sys.mode) (e2 : (sys.driveEn, sys.dropAt) = (x.sys.driveEn, x.sys.dropAt)) (e3 : prot.groups = x.prot.groups) (e4 : loops.pairs = x.loops.pairs) :
    Steady r (State.mk sys pages regs rings host irq free sent pending acc tb sns mod chg jrn est ost bal cth loops prot safe slay events completions tdm wit way sbx can eth time keyWait fwu thm pwrAlarm mram) := by
  exact h.trans (Calm.steady ⟨⟨h_pending, fun w => by rw [h_regs]; exact w, h_free ▸ le_refl _, h_sent ▸ List.suffix_refl _⟩, e1, drive_same e2, e3, e4⟩)

/-- An update of fields that the relation does not look at. -/
theorem Keeps.upd {r x : State}
    {sys : SysSt} {pages : List (Nat × PageState)} {regs : List (Nat × Word)} {rings : List (Nat × RingSt)}
    {host : HostSt} {irq : IrqSt} {free : Nat} {sent : List Msg}
    {pending : List Instr} {acc : List (Nat × ChanAcc)} {tb : TimebaseSt} {sns : List (Nat × RingSns)}
    {mod : ModSt} {chg : ChgSt} {jrn : JrnSt} {est : EstSt}
    {ost : OstSt} {bal : BalSt} {cth : CthSt} {loops : LoopSt}
    {prot : ProtSt} {safe : SafeSt} {slay : SlaySt} {events : List EvItem}
    {completions : List Completion} {tdm : TdmSt} {wit : WitSt} {way : WaySt}
    {sbx : SbxSt} {can : List (Nat × CanSt)} {eth : EthSt} {time : TimeSt} {keyWait : List (Nat × Nat)}
    {fwu : FwuSt} {thm : ThmSt} {pwrAlarm : Bool} {mram : Mram}
    (h : Keeps r x) (h_pending : pending = x.pending) (h_regs : regs = x.regs) (h_free : free = x.free) (h_sent : sent = x.sent) :
    Keeps r (State.mk sys pages regs rings host irq free sent pending acc tb sns mod chg jrn est ost bal cth loops prot safe slay events completions tdm wit way sbx can eth time keyWait fwu thm pwrAlarm mram) := by
  refine h.trans ⟨h_pending, fun w => ?_, h_free ▸ le_refl _, h_sent ▸ List.suffix_refl _⟩
  rw [h_regs]; exact w

/-! ### Outputs that are right for a state -/

theorem OutInv.active {s : State} (h : s.sys.mode = .active) : OutInv s :=
  ⟨fun _ => .inl h, fun k => by simp [h, Mode.serves] at k⟩

theorem OutInv.serving {s : State} (h : s.sys.mode.serves = true)
    (d : s.sys.driveEn = true → s.sys.dropAt.isSome = true) : OutInv s :=
  ⟨fun k => .inr (d k), fun k => by simp [h] at k⟩

theorem OutInv.safe {s : State} (h : s.outputsSafe) : OutInv s := ⟨fun k => by simp [h.1] at k, fun _ => h⟩

/-- Out of ACTIVE a high DRIVE_EN is about to fall. -/
theorem OutInv.low {s : State} (h : OutInv s) (m : s.sys.mode ≠ .active) (d : s.sys.driveEn = true) :
    s.sys.dropAt.isSome = true := (h.1 d).resolve_left m

/-- And so it is after an operation that does not raise it. -/
theorem Calm.low {r s : State} (h : Calm r s) (d : r.sys.driveEn = true → r.sys.dropAt.isSome = true)
    (e : s.sys.driveEn = true) : s.sys.dropAt.isSome = true := (h.drive e).2 (d (h.drive e).1)

theorem Calm.safe {r s : State} (h : Calm r s) (k : r.outputsSafe) : s.outputsSafe :=
  ⟨Bool.eq_false_iff.mpr fun e => by simpa [k.1] using (h.drive e).1, h.groups.trans k.2.1, by rw [h.pairs]; exact k.2.2⟩

end Sys2Proof.Machine
end

