-- ==== Sys2Proof/Laws/Ops.lean ====
section
/-! SUPPORT. What the operations of Machine/Ops.lean leave alone (Laws/Keeps.lean). -/

namespace Sys2Proof.Machine

open Sys2Proof

theorem RegsWf.set {l : List (Nat × Word)} (h : RegsWf l) {p : Page} {o : Nat} {r : RegRow} (v : Word)
    (hr : findRow p o = some r) :
    RegsWf (sset (regDefault p o) l (p.base + o) (v &&& BitVec.ofNat 32 r.mask)) := by
  refine ⟨sset_pairwise _ _ _ h.1, fun e he => ?_⟩
  rcases sset_mem he with ⟨rfl, hv⟩ | he
  · exact ⟨p, o, r, rfl, hr, by rw [BitVec.and_assoc, BitVec.and_self], hv⟩
  · exact h.2 e he

theorem State.wr_calm (s : State) (p : Page) (o : Nat) (v : Word) : Calm s (s.wr p o v) := by
  unfold State.wr
  split
  · rename_i r hr
    exact ⟨⟨rfl, fun h => h.set v hr, le_refl _, List.suffix_refl _⟩, rfl, fun d => ⟨d, id⟩, rfl, rfl⟩
  · exact Calm.refl s

theorem State.wrf_calm (s : State) (p : Page) (o : Nat) (hi : Nat) (lo : Nat) (v : Nat) :
    Calm s (State.wrf s p o hi lo v) := by
  unfold State.wrf
  exact (State.wr_calm ..)

theorem State.wrb_calm (s : State) (p : Page) (o : Nat) (n : Nat) (b : Bool) :
    Calm s (State.wrb s p o n b) := by
  unfold State.wrb
  exact (State.wrf_calm ..)

theorem State.wrn_calm (s : State) (p : Page) (o : Nat) (v : Nat) :
    Calm s (State.wrn s p o v) := by
  unfold State.wrn
  exact (State.wr_calm ..)

theorem State.wri_calm (s : State) (p : Page) (o : Nat) (v : Int) :
    Calm s (State.wri s p o v) := by
  unfold State.wri
  exact (State.wrn_calm ..)

theorem State.wr64_calm (s : State) (p : Page) (lo : Nat) (hi : Nat) (v : Nat) :
    Calm s (State.wr64 s p lo hi v) := by
  unfold State.wr64
  refine Calm.trans ?_ (State.wrn_calm ..)
  exact (State.wrn_calm ..)

theorem State.inc_calm (s : State) (p : Page) (o : Nat) :
    Calm s (State.inc s p o) := by
  unfold State.inc
  exact (State.wrn_calm ..)

theorem State.writeDeferred_calm (s : State) :
    Calm s (State.writeDeferred s) := by
  unfold State.writeDeferred
  refine Calm.trans ?_ (State.wrb_calm ..)
  exact (State.inc_calm ..)

theorem State.incBy_calm (s : State) (p : Page) (o : Nat) (n : Nat) :
    Calm s (State.incBy s p o n) := by
  unfold State.incBy
  exact (State.wrn_calm ..)

theorem State.incf_calm (s : State) (p : Page) (o : Nat) (hi : Nat) (lo : Nat) :
    Calm s (State.incf s p o hi lo) := by
  unfold State.incf
  exact (State.wrf_calm ..)

theorem State.setPage_calm (s : State) (p : Page) (t : PageState) :
    Calm s (State.setPage s p t) := by
  unfold State.setPage
  refine Calm.upd ?_ rfl rfl rfl rfl rfl rfl rfl rfl
  exact Calm.refl _

theorem State.setMode_keeps (s : State) (m : Mode) : Keeps s (s.setMode m) :=
  ⟨rfl, id, le_refl _, List.suffix_refl _⟩

theorem SysSt.pulseEnd_outputs (y : SysSt) : y.pulseEnd.mode = y.mode ∧ y.pulseEnd.driveEn = y.driveEn ∧
    y.pulseEnd.dropAt = y.dropAt := by
  unfold SysSt.pulseEnd
  split
  · split <;> exact ⟨rfl, rfl, rfl⟩
  · exact ⟨rfl, rfl, rfl⟩

theorem State.atMt_calm (s : State) (mt : Nat) : Calm s (s.atMt mt) := by
  refine ⟨⟨rfl, id, le_refl _, List.suffix_refl _⟩, ?_, ?_, rfl, rfl⟩
  all_goals
    unfold State.atMt SysSt.atMt
    dsimp only
    simp only [(SysSt.pulseEnd_outputs _).1, (SysSt.pulseEnd_outputs _).2.1, (SysSt.pulseEnd_outputs _).2.2]
    split
    · split
      · first | rfl | (intro d; cases d)
      · first | rfl | exact fun d => ⟨d, id⟩
    · first | rfl | exact fun d => ⟨d, id⟩

theorem State.driveLow_calm (s : State) : Calm s s.driveLow :=
  ⟨⟨rfl, id, le_refl _, List.suffix_refl _⟩, rfl, fun d => (by cases d), rfl, rfl⟩

theorem State.elapse_calm (s : State) (dt : Nat) :
    Calm s (State.elapse s dt) := by
  unfold State.elapse
  refine Calm.ite ?_ ?_
  · exact Calm.refl _
  · exact (State.atMt_calm ..)

theorem State.dropDrive_calm (s : State) : Calm s s.dropDrive := by
  unfold State.dropDrive
  split
  · exact Calm.refl s
  · split
    · exact s.driveLow_calm
    · exact ⟨⟨rfl, id, le_refl _, List.suffix_refl _⟩, rfl, fun d => ⟨d, fun _ => rfl⟩, rfl, rfl⟩

/-- After it, a high DRIVE_EN is about to fall. -/
theorem State.dropDrive_low (s : State) (d : s.dropDrive.sys.driveEn = true) : s.dropDrive.sys.dropAt.isSome = true := by
  unfold State.dropDrive at d ⊢
  split
  · rename_i h; rw [if_pos h] at d; simp [d] at h
  · split
    · rename_i h k; rw [if_neg h, if_pos k] at d; cases d
    · rfl

theorem State.send_calm (s : State) (m : Msg) : Calm s (s.send m) :=
  ⟨⟨rfl, id, le_refl _, List.suffix_cons _ _⟩, rfl, fun d => ⟨d, id⟩, rfl, rfl⟩

theorem State.answerRead_calm (s : State) (addr : Nat) (v : Nat) :
    Calm s (State.answerRead s addr v) := by
  unfold State.answerRead
  refine Calm.ite ?_ ?_
  · exact (State.send_calm ..)
  · exact Calm.refl _

theorem State.draw_calm (s : State) : Calm s s.draw.2 :=
  ⟨⟨rfl, id, Nat.le_succ _, List.suffix_refl _⟩, rfl, fun d => ⟨d, id⟩, rfl, rfl⟩

theorem State.setSrc_calm (s : State) (n : Nat) (v : SrcSt) :
    Calm s (State.setSrc s n v) := by
  unfold State.setSrc
  refine Calm.upd ?_ rfl rfl rfl rfl rfl rfl rfl rfl
  exact Calm.refl _

theorem State.setTgt_calm (s : State) (t : Nat) (v : TgtSt) :
    Calm s (State.setTgt s t v) := by
  unfold State.setTgt
  refine Calm.upd ?_ rfl rfl rfl rfl rfl rfl rfl rfl
  exact Calm.refl _

theorem State.irqCount_calm (s : State) (t : Nat) :
    Calm s (State.irqCount s t) := by
  unfold State.irqCount
  extract_lets +onlyGivenNames -merge -underBinder x1
  exact (State.setTgt_calm ..)

theorem State.irqHold_calm (s : State) :
    Calm s (State.irqHold s) := by
  unfold State.irqHold
  extract_lets +onlyGivenNames -merge -underBinder x1
  have hx1 : Calm s x1 := by
    unfold x1
    exact (State.wrb_calm ..)
  extract_lets +onlyGivenNames -merge -underBinder x2
  extract_lets +onlyGivenNames -merge -underBinder x3
  extract_lets +onlyGivenNames -merge -underBinder x4
  extract_lets +onlyGivenNames -merge -underBinder x5
  have hx5 : Calm s x5 := by
    unfold x5
    refine Calm.trans ?_ (State.setSrc_calm ..)
    exact hx1
  split
  · refine Calm.ite ?_ ?_
    · refine Calm.trans ?_ (State.irqCount_calm ..)
      exact hx5
    · exact hx5
  · exact hx5

theorem State.irqEvent_calm (s : State) (n : Nat) :
    Calm s (State.irqEvent s n) := by
  unfold State.irqEvent
  extract_lets +onlyGivenNames -merge -underBinder x1
  split
  · exact (State.irqCount_calm ..)
  · refine Calm.ite ?_ ?_
    · exact (State.irqHold_calm ..)
    · exact Calm.refl _

theorem State.edgeSource_calm (s : State) (n : Nat) :
    Calm s (State.edgeSource s n) := by
  unfold State.edgeSource
  refine Calm.ite ?_ ?_
  · refine Calm.trans ?_ (State.irqEvent_calm ..)
    exact (State.setSrc_calm ..)
  · exact Calm.refl _

theorem State.levelSource_calm (s : State) (n : Nat) (line : Bool) :
    Calm s (State.levelSource s n line) := by
  unfold State.levelSource
  extract_lets +onlyGivenNames -merge -underBinder x1
  extract_lets +onlyGivenNames -merge -underBinder x2
  have hx2 : Calm s x2 := by
    unfold x2
    exact (State.setSrc_calm ..)
  refine Calm.ite ?_ ?_
  · refine Calm.trans ?_ (State.irqEvent_calm ..)
    refine Calm.trans ?_ (State.setSrc_calm ..)
    exact hx2
  · exact hx2

theorem State.pageLine_calm (s : State) (p : Page) :
    Calm s (State.pageLine s p) := by
  unfold State.pageLine
  exact (State.levelSource_calm ..)

theorem State.flag_calm (s : State) (p : Page) (n : Nat) :
    Calm s (State.flag s p n) := by
  unfold State.flag
  refine Calm.trans ?_ (State.pageLine_calm ..)
  exact (State.wrb_calm ..)

theorem State.setRing_calm (s : State) (n : Nat) (r : RingSt) :
    Calm s (State.setRing s n r) := by
  unfold State.setRing
  refine Calm.upd ?_ rfl rfl rfl rfl rfl rfl rfl rfl
  exact Calm.refl _

theorem State.ringDone_calm (s : State) (n : Nat) (status : Nat) (tstat : Nat) (len : Nat) (bytes : List Byte) :
    Calm s (State.ringDone s n status tstat len bytes) := by
  unfold State.ringDone
  split
  · exact Calm.refl _
  · extract_lets +onlyGivenNames -merge -underBinder x1
    extract_lets +onlyGivenNames -merge -underBinder x2
    have hx2 : Calm s x2 := by
      unfold x2
      exact (State.send_calm ..)
    extract_lets +onlyGivenNames -merge -underBinder x3
    have hx3 : Calm s x3 := by
      unfold x3
      refine Calm.trans ?_ (State.setRing_calm ..)
      exact hx2
    extract_lets +onlyGivenNames -merge -underBinder x4
    have hx4 : Calm s x4 := by
      unfold x4
      refine Calm.trans ?_ (State.wrn_calm ..)
      exact hx3
    refine Calm.ite ?_ ?_
    · refine Calm.trans ?_ (State.edgeSource_calm ..)
      exact hx4
    · exact hx4

theorem State.ringAlign_calm (s : State) (n : Nat) (a1 : Nat) :
    Calm s (State.ringAlign s n a1) := by
  unfold State.ringAlign
  split
  · exact Calm.refl _
  · split
    · refine Calm.ite ?_ ?_
      · exact Calm.refl _
      · refine Calm.trans ?_ (State.ringAlign_calm ..)
        exact (State.ringDone_calm ..)
    · exact Calm.refl _

theorem State.ringComplete_calm (s : State) (n : Nat) (status : Nat) (tstat : Nat) (len : Nat) (bytes : List Byte) :
    Calm s (State.ringComplete s n status tstat len bytes) := by
  unfold State.ringComplete
  refine Calm.trans ?_ (State.ringAlign_calm ..)
  exact (State.ringDone_calm ..)

theorem State.ringPush_calm (s : State) (n : Nat) (tstat : Nat) (bytes : List Byte) :
    Calm s (State.ringPush s n tstat bytes) := by
  unfold State.ringPush
  split
  · refine Calm.ite ?_ ?_
    · exact (State.ringComplete_calm ..)
    · exact (State.ringComplete_calm ..)
  · refine Calm.ite ?_ ?_
    · exact (State.inc_calm ..)
    · exact Calm.refl _

theorem State.ringStop_calm (s : State) (n : Nat) (code : Nat) :
    Calm s (State.ringStop s n code) := by
  unfold State.ringStop
  extract_lets +onlyGivenNames -merge -underBinder x1 x2
  have hx2 : Calm s x2 := by
    unfold x2
    exact (State.setRing_calm ..)
  extract_lets +onlyGivenNames -merge -underBinder x3
  have hx3 : Calm s x3 := by
    unfold x3
    refine Calm.trans ?_ (State.wrb_calm ..)
    exact hx2
  extract_lets +onlyGivenNames -merge -underBinder x4
  have hx4 : Calm s x4 := by
    unfold x4
    refine Calm.ite ?_ ?_
    · exact hx3
    · refine Calm.trans ?_ (State.wrn_calm ..)
      exact hx3
  refine Calm.trans ?_ (State.flag_calm ..)
  exact hx4

theorem State.record_calm (s : State) (p : Page) (cls : Nat) (payload : List Byte) :
    Calm s (State.record s p cls payload) := by
  unfold State.record
  extract_lets +onlyGivenNames -merge -underBinder x1
  refine Calm.ite ?_ ?_
  · refine Calm.ite ?_ ?_
    · refine Calm.upd ?_ rfl rfl rfl rfl rfl rfl rfl rfl
      exact Calm.refl _
    · refine Calm.trans ?_ (State.flag_calm ..)
      exact (State.inc_calm ..)
  · refine Calm.ite ?_ ?_
    · refine Calm.upd ?_ rfl rfl rfl rfl rfl rfl rfl rfl
      exact Calm.refl _
    · refine Calm.trans ?_ (State.flag_calm ..)
      exact (State.inc_calm ..)

theorem State.sendFrame_calm (s : State) (type : Nat) (payload : List Byte) :
    Calm s (State.sendFrame s type payload) := by
  unfold State.sendFrame
  refine Calm.ite ?_ ?_
  · extract_lets +onlyGivenNames -merge -underBinder x1
    refine Calm.trans ?_ (State.send_calm ..)
    refine Calm.upd ?_ rfl rfl rfl rfl rfl rfl rfl rfl
    exact Calm.refl _
  · exact Calm.refl _

theorem State.servicePump_calm (s : State) (n : Nat) (a1 : Nat) :
    Calm s (State.servicePump s n a1) := by
  unfold State.servicePump
  split
  · exact Calm.refl _
  · split
    · extract_lets +onlyGivenNames -merge -underBinder x1
      have hx1 : Calm s x1 := by
        unfold x1
        exact (State.sendFrame_calm ..)
      refine Calm.trans ?_ (State.servicePump_calm ..)
      refine Calm.trans ?_ (State.ringComplete_calm ..)
      exact hx1
    · exact Calm.refl _

theorem State.serviceAll_calm (s : State) :
    Calm s (State.serviceAll s) := by
  unfold State.serviceAll
  extract_lets +onlyGivenNames -merge -underBinder x1
  have hx1 : Calm s x1 := by
    unfold x1
    exact (State.servicePump_calm ..)
  refine Calm.trans ?_ (State.servicePump_calm ..)
  exact hx1

theorem State.mirrorItem_calm (s : State) (kind : Nat) (effect : Nat) (content : List Byte) :
    Calm s (State.mirrorItem s kind effect content) := by
  unfold State.mirrorItem
  extract_lets +onlyGivenNames -merge -underBinder x1
  extract_lets +onlyGivenNames -merge -underBinder x2 x3
  have hx3 : Calm s x3 := by
    unfold x3
    refine Calm.upd ?_ rfl rfl rfl rfl rfl rfl rfl rfl
    exact Calm.refl _
  refine Calm.trans ?_ (State.sendFrame_calm ..)
  exact hx3

theorem State.acceptLocal_calm (s : State) (kind : Nat) (content : List Byte) :
    Calm s (State.acceptLocal s kind content) := by
  unfold State.acceptLocal
  refine Calm.upd ?_ rfl rfl rfl rfl rfl rfl rfl rfl
  exact Calm.refl _

theorem State.acceptEvent_calm (s : State) (kind : Nat) (content : List Byte) :
    Calm s (State.acceptEvent s kind content) := by
  unfold State.acceptEvent
  extract_lets +onlyGivenNames -merge -underBinder x1
  have hx1 : Calm s x1 := by
    unfold x1
    exact (State.mirrorItem_calm ..)
  refine Calm.upd ?_ rfl rfl rfl rfl rfl rfl rfl rfl
  exact hx1

theorem State.hostEvent_calm (s : State) (p : Page) (o : Nat) (v : Word) :
    Calm s (State.hostEvent s p o v) := by
  unfold State.hostEvent
  refine Calm.ite ?_ ?_
  · exact (State.acceptEvent_calm ..)
  · exact Calm.refl _

theorem State.bookRole_calm (s : State) (stays : Bool) :
    Calm s (State.bookRole s stays) := by
  unfold State.bookRole
  extract_lets +onlyGivenNames -merge -underBinder x1
  extract_lets +onlyGivenNames -merge -underBinder x2
  extract_lets +onlyGivenNames -merge -underBinder x3
  refine Calm.upd ?_ rfl rfl rfl rfl rfl rfl rfl rfl
  exact Calm.refl _

theorem State.takeMode_keeps (s : State) (m : Mode) :
    Keeps s (State.takeMode s m) := by
  unfold State.takeMode
  refine Keeps.trans ?_ (State.setMode_keeps ..)
  exact (State.bookRole_calm ..).keeps

theorem State.pairLow_keeps (s : State) (m : Nat) :
    Keeps s (State.pairLow s m) := by
  unfold State.pairLow
  extract_lets +onlyGivenNames -merge -underBinder x1
  refine Keeps.ite ?_ ?_
  · exact Keeps.refl _
  · extract_lets +onlyGivenNames -merge -underBinder x2 x3
    have hx3 : Keeps s x3 := by
      unfold x3
      refine Keeps.upd ?_ rfl rfl rfl rfl
      exact Keeps.refl _
    refine Keeps.trans ?_ (State.send_calm ..).keeps
    refine Keeps.trans ?_ (State.wrn_calm ..).keeps
    exact hx3

theorem State.pairLow_frame (s : State) (m : Nat) :
    (s.pairLow m).sys = s.sys ∧ (s.pairLow m).prot = s.prot ∧
    ∀ k, (sget {} (s.pairLow m).loops.pairs k : PairSt).forced =
      if k = m then true else (sget {} s.loops.pairs k : PairSt).forced := by
  cases h : (sget {} s.loops.pairs m : PairSt).forced
  · set t : State := { s with loops := { s.loops with pairs := sset {} s.loops.pairs m {} } } with ht
    have e : s.pairLow m = (t.wrn .pwm (R.PWM.ON m) 0).send (.pwmLow m t.mt) := by
      exact if_neg (by rw [h]; decide)
    have c := (t.wrn_calm .pwm (R.PWM.ON m) 0).trans (State.send_calm _ (.pwmLow m t.mt))
    have f : (s.pairLow m).sys = t.sys ∧ (s.pairLow m).prot = t.prot := by
      rw [e]; unfold State.wrn State.send State.wr
      split <;> exact ⟨rfl, rfl⟩
    refine ⟨f.1, f.2, fun k => ?_⟩
    rw [e, c.pairs, ht]
    by_cases j : k = m
    · subst j; simp
    · simp [sget_sset_other _ _ _ _ j, j]
  · have e : s.pairLow m = s := if_pos h
    rw [e]
    refine ⟨rfl, rfl, fun k => ?_⟩
    split
    · subst k; exact h
    · rfl

theorem State.pairLow_steady (s : State) (m : Nat) : Steady s (s.pairLow m) := by
  obtain ⟨h1, h2, h3⟩ := s.pairLow_frame m
  refine ⟨s.pairLow_keeps m, fun i => ⟨fun d => ?_, fun d => ?_⟩⟩
  · rw [h1] at d ⊢; exact i.1 d
  · have := i.2 (h1 ▸ d)
    refine ⟨h1 ▸ this.1, h2 ▸ this.2.1, fun k hk => ?_⟩
    rw [h3]; split
    · rfl
    · exact this.2.2 k hk

theorem State.forceSafe_keeps (s : State) :
    Keeps s (State.forceSafe s) := by
  unfold State.forceSafe
  extract_lets +onlyGivenNames -merge -underBinder x1
  have hx1 : Keeps s x1 := by
    unfold x1
    refine Keeps.foldl ?_ (fun t2 a3 h4 => ?_)
    · exact Keeps.refl _
    · refine Keeps.trans ?_ (State.pairLow_keeps ..)
      exact h4
  refine Keeps.upd ?_ rfl rfl rfl rfl
  exact hx1

theorem State.pairLow_run (s : State) (l : List Nat) :
    (l.foldl State.pairLow s).sys = s.sys ∧
    ∀ k, k ∈ l ∨ (sget {} s.loops.pairs k : PairSt).forced = true →
      (sget {} (l.foldl State.pairLow s).loops.pairs k : PairSt).forced = true := by
  induction l generalizing s with
  | nil => exact ⟨rfl, fun k h => h.resolve_left (by simp)⟩
  | cons a l ih =>
    obtain ⟨h1, -, h3⟩ := s.pairLow_frame a
    obtain ⟨i1, i2⟩ := ih (s.pairLow a)
    refine ⟨i1.trans h1, fun k h => i2 k ?_⟩
    rw [h3]
    by_cases e : k = a
    · exact Or.inr (by simp [e])
    · rcases h with h | h
      · exact Or.inl ((List.mem_cons.mp h).resolve_left e)
      · exact Or.inr (by simpa [e] using h)

/-- The outputs of R22 after the outputs are forced. -/
theorem State.forceSafe_safe (s : State) : s.forceSafe.outputsSafe := by
  have h : ∀ k < 8, (sget {} ((List.range 8).foldl State.pairLow s).loops.pairs k : PairSt).forced = true :=
    fun k hk => (s.pairLow_run (List.range 8)).2 k (Or.inl (List.mem_range.mpr hk))
  unfold State.forceSafe
  generalize (List.range 8).foldl State.pairLow s = a at h ⊢
  refine ⟨?_, ?_, ?_⟩
  · rfl
  · rfl
  · exact h

theorem State.forceSafe_steady (s : State) : Steady s s.forceSafe :=
  ⟨s.forceSafe_keeps, fun _ => OutInv.safe s.forceSafe_safe⟩

theorem State.outEntry_keeps (s : State) (n : Nat) :
    Keeps s (State.outEntry s n) := by
  unfold State.outEntry
  refine Keeps.ite ?_ ?_
  · extract_lets +onlyGivenNames -merge -underBinder x1
    extract_lets +onlyGivenNames -merge -underBinder x2
    have hx2 : Keeps s x2 := by
      unfold x2
      refine Keeps.trans ?_ (State.forceSafe_keeps ..)
      exact (State.bookRole_calm ..).keeps
    extract_lets +onlyGivenNames -merge -underBinder x3
    have hx3 : Keeps s x3 := by
      unfold x3
      refine Keeps.trans ?_ (State.sendFrame_calm ..).keeps
      exact hx2
    extract_lets +onlyGivenNames -merge -underBinder x4
    have hx4 : Keeps s x4 := by
      unfold x4
      refine Keeps.trans ?_ (State.record_calm ..).keeps
      exact hx3
    extract_lets +onlyGivenNames -merge -underBinder x5
    have hx5 : Keeps s x5 := by
      unfold x5
      refine Keeps.trans ?_ (State.wrf_calm ..).keeps
      exact hx4
    refine Keeps.upd ?_ rfl rfl rfl rfl
    exact hx5
  · refine Keeps.ite ?_ ?_
    · refine Keeps.ite ?_ ?_
      · extract_lets +onlyGivenNames -merge -underBinder x6 x7
        have hx7 : Keeps s x7 := by
          unfold x7
          refine Keeps.upd ?_ rfl rfl rfl rfl
          exact Keeps.refl _
        refine Keeps.trans ?_ (State.wrf_calm ..).keeps
        exact hx7
      · exact (State.incf_calm ..).keeps
    · exact Keeps.refl _

theorem State.outEntry_steady (s : State) (n : Nat) : Steady s (s.outEntry n) := by
  refine ⟨s.outEntry_keeps n, fun i => ?_⟩
  unfold State.outEntry
  split
  · refine OutInv.safe ?_
    extract_lets +onlyGivenNames prior a b c d
    have ha : a.outputsSafe := State.forceSafe_safe _
    have hb : b.outputsSafe := (State.sendFrame_calm ..).safe ha
    have hc : c.outputsSafe := (State.record_calm ..).safe hb
    have hd : d.outputsSafe := (State.wrf_calm ..).safe hc
    clear_value d
    exact ⟨hd.1, hd.2.1, hd.2.2⟩
  · split
    · split
      · extract_lets w a
        have h : Calm s a := Calm.upd (Calm.refl s) rfl rfl rfl rfl rfl rfl rfl rfl
        exact (h.trans (State.wrf_calm ..)).steady.inv i
      · exact (State.incf_calm ..).steady.inv i
    · exact i

theorem State.modSeg_calm (s : State) (num : Nat) (f : Seg → Seg) :
    Calm s (State.modSeg s num f) := by
  unfold State.modSeg
  refine Calm.upd ?_ rfl rfl rfl rfl rfl rfl rfl rfl
  exact Calm.refl _

theorem State.freezeSeg_calm (s : State) (g : Seg) :
    Calm s (State.freezeSeg s g).2 := by
  unfold State.freezeSeg
  split
  · refine Calm.pair ?_
    exact Calm.refl _
  · split
    · refine Calm.pair ?_
      exact (State.modSeg_calm ..)
    · refine Calm.pair ?_
      refine Calm.trans ?_ (State.flag_calm ..)
      exact (State.inc_calm ..)

theorem State.freezeSegs_calm (s : State) (a1 : List Seg) :
    Calm s (State.freezeSegs s a1).2.2 := by
  unfold State.freezeSegs
  split
  · refine Calm.pairIn ?_
    refine Calm.pair ?_
    exact Calm.refl _
  · split
    rename_i y1 y2 e3
    have hy2 : Calm s y2 := by
      refine Calm.snd e3 ?_
      exact (State.freezeSeg_calm ..)
    split
    · split
      rename_i y4 y5 y6 e7
      have hy6 : Calm s y6 := by
        refine Calm.thd e7 ?_
        refine Calm.trans ?_ (State.freezeSegs_calm ..)
        exact hy2
      refine Calm.pairIn ?_
      refine Calm.pair ?_
      exact hy6
    · refine Calm.pairIn ?_
      refine Calm.pair ?_
      exact hy2

theorem State.burstTrigger_calm (s : State) :
    Calm s (State.burstTrigger s) := by
  unfold State.burstTrigger
  refine Calm.ite ?_ ?_
  · exact Calm.refl _
  · refine Calm.ite ?_ ?_
    · refine Calm.trans ?_ (State.flag_calm ..)
      exact (State.inc_calm ..)
    · refine Calm.ite ?_ ?_
      · exact Calm.refl _
      · extract_lets +onlyGivenNames -merge -underBinder x1
        refine Calm.upd ?_ rfl rfl rfl rfl rfl rfl rfl rfl
        exact Calm.refl _

theorem State.trigger_calm (s : State) (cause : Nat) (detail : Nat) :
    Calm s (State.trigger s cause detail) := by
  unfold State.trigger
  refine Calm.ite ?_ ?_
  · exact Calm.refl _
  · extract_lets +onlyGivenNames -merge -underBinder x1
    extract_lets +onlyGivenNames -merge -underBinder x2
    have hx2 : Calm s x2 := by
      unfold x2
      exact (State.wrn_calm ..)
    extract_lets +onlyGivenNames -merge -underBinder x3
    extract_lets +onlyGivenNames -merge -underBinder x4
    extract_lets +onlyGivenNames -merge -underBinder x5
    have hx5 : Calm s x5 := by
      unfold x5
      split
      · refine Calm.trans ?_ (State.wrn_calm ..)
        exact hx2
      · exact hx2
    split
    rename_i y6 y7 y8 e9
    have hy8 : Calm s y8 := by
      refine Calm.thd e9 ?_
      refine Calm.trans ?_ (State.freezeSegs_calm ..)
      exact hx5
    extract_lets +onlyGivenNames -merge -underBinder x10
    have hx10 : Calm s x10 := by
      unfold x10
      refine Calm.ite ?_ ?_
      · refine Calm.trans ?_ (State.flag_calm ..)
        refine Calm.trans ?_ (State.inc_calm ..)
        exact hy8
      · exact hy8
    extract_lets +onlyGivenNames -merge -underBinder x11
    refine Calm.trans ?_ (State.burstTrigger_calm ..)
    refine Calm.upd ?_ rfl rfl rfl rfl rfl rfl rfl rfl
    exact hx10

theorem State.burstPush_calm (s : State) (i : Nat) (bit : Nat) (y : Int) :
    Calm s (State.burstPush s i bit y) := by
  unfold State.burstPush
  extract_lets +onlyGivenNames -merge -underBinder x1
  extract_lets +onlyGivenNames -merge -underBinder x2
  refine Calm.ite ?_ ?_
  · exact Calm.refl _
  · extract_lets +onlyGivenNames -merge -underBinder x3
    refine Calm.upd ?_ rfl rfl rfl rfl rfl rfl rfl rfl
    exact Calm.refl _

theorem State.wayEntry_calm (s : State) (type : Nat) (payload : List Byte) :
    Calm s (State.wayEntry s type payload) := by
  unfold State.wayEntry
  refine Calm.upd ?_ rfl rfl rfl rfl rfl rfl rfl rfl
  exact Calm.refl _

theorem State.pageFault_calm (s : State) (p : Page) :
    Calm s (State.pageFault s p) := by
  unfold State.pageFault
  refine Calm.trans ?_ (State.flag_calm ..)
  exact (State.setPage_calm ..)

end Sys2Proof.Machine
end

