-- ==== Sys2Proof/Laws/Net.lean ====
section
/-! SUPPORT. What the operations of Machine/Net.lean leave alone (Laws/Keeps.lean). -/

namespace Sys2Proof.Machine

open Sys2Proof

theorem State.modCan_calm (s : State) (c : Nat) (f : CanSt → CanSt) :
    Calm s (State.modCan s c f) := by
  unfold State.modCan
  refine Calm.upd ?_ rfl rfl rfl rfl rfl rfl rfl rfl
  exact Calm.refl _

theorem State.modEth_calm (s : State) (p : Nat) (f : EthPort → EthPort) :
    Calm s (State.modEth s p f) := by
  unfold State.modEth
  refine Calm.upd ?_ rfl rfl rfl rfl rfl rfl rfl rfl
  exact Calm.refl _

theorem State.canOwn_calm (s : State) (c : Nat) (f : CanFrame) (again : Bool) :
    Calm s (State.canOwn s c f again) := by
  unfold State.canOwn
  refine Calm.ite ?_ ?_
  · exact (State.modCan_calm ..)
  · exact Calm.refl _

theorem State.takePrpSeq_calm (s : State) (p : Nat) :
    Calm s (State.takePrpSeq s p).2 := by
  unfold State.takePrpSeq
  extract_lets +onlyGivenNames -merge -underBinder x1
  refine Calm.pair ?_
  refine Calm.upd ?_ rfl rfl rfl rfl rfl rfl rfl rfl
  exact Calm.refl _

theorem State.ethQueue_calm (s : State) (p : Nat) (f : EthOwn) (t : Option (Nat × Nat)) :
    Calm s (State.ethQueue s p f t) := by
  unfold State.ethQueue
  refine Calm.ite ?_ ?_
  · exact (State.modEth_calm ..)
  · exact Calm.refl _

theorem State.ethOwn_calm (s : State) (p : Nat) (f : EthOwn) :
    Calm s (State.ethOwn s p f) := by
  unfold State.ethOwn
  refine Calm.ite ?_ ?_
  · split
    rename_i y1 y2 e3
    have hy2 : Calm s y2 := by
      refine Calm.snd e3 ?_
      exact (State.takePrpSeq_calm ..)
    extract_lets +onlyGivenNames -merge -underBinder x4
    have hx4 : Calm s x4 := by
      unfold x4
      refine Calm.trans ?_ (State.ethQueue_calm ..)
      exact hy2
    refine Calm.ite ?_ ?_
    · refine Calm.trans ?_ (State.ethQueue_calm ..)
      exact hx4
    · refine Calm.trans ?_ (State.inc_calm ..)
      exact hx4
  · exact (State.ethQueue_calm ..)

theorem State.ethDatagram_calm (s : State) (p : Nat) (e : Nat) (srcMac : Nat) (srcIp : Nat) (port : Nat) (data : List
    Byte) :
    Calm s (State.ethDatagram s p e srcMac srcIp port data) := by
  unfold State.ethDatagram
  refine Calm.ite ?_ ?_
  · exact (State.inc_calm ..)
  · extract_lets +onlyGivenNames -merge -underBinder x1
    exact (State.ethOwn_calm ..)

theorem State.route_calm (s : State) (m : Msg) :
    Calm s (State.route s m) := by
  unfold State.route
  split
  · extract_lets +onlyGivenNames -merge -underBinder x1
    extract_lets +onlyGivenNames -merge -underBinder x2
    extract_lets +onlyGivenNames -merge -underBinder x3
    refine Calm.ite ?_ ?_
    · exact (State.ethDatagram_calm ..)
    · exact (State.canOwn_calm ..)
  · extract_lets +onlyGivenNames -merge -underBinder x4
    extract_lets +onlyGivenNames -merge -underBinder x5
    refine Calm.ite ?_ ?_
    · exact (State.ethDatagram_calm ..)
    · exact (State.canOwn_calm ..)
  · exact (State.ethOwn_calm ..)
  · exact (State.canOwn_calm ..)
  · refine Calm.ite ?_ ?_
    · exact (State.ethOwn_calm ..)
    · exact Calm.refl _
  · exact (State.canOwn_calm ..)
  · exact Calm.refl _

theorem State.sendNet_calm (s : State) (m : Msg) :
    Calm s (State.sendNet s m) := by
  unfold State.sendNet
  refine Calm.trans ?_ (State.route_calm ..)
  exact (State.send_calm ..)

end Sys2Proof.Machine
end

