-- ==== Sys2Proof/Laws/Auth.lean ====
section
/-! SUPPORT. What the operations of Machine/Auth.lean leave alone (Laws/Keeps.lean). -/

namespace Sys2Proof.Machine

open Sys2Proof

theorem State.setKeySlot_calm (s : State) (k : Nat) (v : KeySlot) :
    Calm s (State.setKeySlot s k v) := by
  unfold State.setKeySlot
  refine Calm.upd ?_ rfl rfl rfl rfl rfl rfl rfl rfl
  exact Calm.refl _

theorem State.commitCounter_calm (s : State) (k : Nat) (n : Nat) :
    Calm s (State.commitCounter s k n) := by
  unfold State.commitCounter
  extract_lets +onlyGivenNames -merge -underBinder x1
  exact (State.setKeySlot_calm ..)

theorem State.raiseCounter_calm (s : State) (k : Nat) (n : Nat) :
    Calm s (State.raiseCounter s k n) := by
  unfold State.raiseCounter
  refine Calm.ite ?_ ?_
  · exact Calm.refl _
  · refine Calm.ite ?_ ?_
    · refine Calm.trans ?_ (State.writeDeferred_calm ..)
      refine Calm.upd ?_ rfl rfl rfl rfl rfl rfl rfl rfl
      exact Calm.refl _
    · exact (State.commitCounter_calm ..)

theorem State.countersResume_calm (s : State) :
    Calm s (State.countersResume s) := by
  unfold State.countersResume
  refine Calm.foldl ?_ (fun t1 a2 h3 => ?_)
  · refine Calm.upd ?_ rfl rfl rfl rfl rfl rfl rfl rfl
    exact Calm.refl _
  · refine Calm.trans ?_ (State.commitCounter_calm ..)
    exact h3

theorem State.commandRecord_calm (s : State) (path : CmdPath) (m : List Byte) (status : Nat) :
    Calm s (State.commandRecord s path m status) := by
  unfold State.commandRecord
  exact (State.record_calm ..)

theorem State.addCompletion_calm (s : State) (path : CmdPath) (m : List Byte) (mseq : Nat) (status : Nat) (effect :
    Nat) (decided : Bool) :
    Calm s (State.addCompletion s path m mseq status effect decided) := by
  unfold State.addCompletion
  refine Calm.upd ?_ rfl rfl rfl rfl rfl rfl rfl rfl
  exact Calm.refl _

theorem State.cmdReject_calm (s : State) (path : CmdPath) (m : List Byte) (status : Nat) :
    Calm s (State.cmdReject s path m status) := by
  unfold State.cmdReject
  refine Calm.trans ?_ (State.addCompletion_calm ..)
  refine Calm.trans ?_ (State.commandRecord_calm ..)
  refine Calm.trans ?_ (State.flag_calm ..)
  exact (State.inc_calm ..)

theorem State.judge_calm (s : State) (refuse : State → List Byte → Bool) (path : CmdPath) (m : List Byte) :
    Calm s (State.judge s refuse path m) := by
  unfold State.judge
  refine Calm.ite ?_ ?_
  · exact (State.cmdReject_calm ..)
  · extract_lets +onlyGivenNames -merge -underBinder x1
    extract_lets +onlyGivenNames -merge -underBinder x2
    extract_lets +onlyGivenNames -merge -underBinder x3
    extract_lets +onlyGivenNames -merge -underBinder x4
    refine Calm.ite ?_ ?_
    · exact (State.cmdReject_calm ..)
    · refine Calm.ite ?_ ?_
      · exact (State.cmdReject_calm ..)
      · refine Calm.ite ?_ ?_
        · exact (State.cmdReject_calm ..)
        · refine Calm.ite ?_ ?_
          · exact (State.cmdReject_calm ..)
          · refine Calm.ite ?_ ?_
            · exact (State.cmdReject_calm ..)
            · extract_lets +onlyGivenNames -merge -underBinder x5
              have hx5 : Calm s x5 := by
                unfold x5
                exact (State.commitCounter_calm ..)
              extract_lets +onlyGivenNames -merge -underBinder x6
              refine Calm.ite ?_ ?_
              · refine Calm.trans ?_ (State.cmdReject_calm ..)
                exact hx5
              · refine Calm.ite ?_ ?_
                · extract_lets +onlyGivenNames -merge -underBinder x7
                  have hx7 : Calm s x7 := by
                    unfold x7
                    refine Calm.ite ?_ ?_
                    · refine Calm.trans ?_ (State.flag_calm ..)
                      refine Calm.trans ?_ (State.inc_calm ..)
                      exact hx5
                    · exact hx5
                  refine Calm.trans ?_ (State.cmdReject_calm ..)
                  refine Calm.ite ?_ ?_
                  · refine Calm.trans ?_ (State.mirrorItem_calm ..)
                    exact hx7
                  · exact hx7
                · refine Calm.ite ?_ ?_
                  · extract_lets +onlyGivenNames -merge -underBinder x8
                    have hx8 : Calm s x8 := by
                      unfold x8
                      refine Calm.trans ?_ (State.acceptEvent_calm ..)
                      exact hx5
                    refine Calm.trans ?_ (State.addCompletion_calm ..)
                    exact hx8
                  · refine Calm.trans ?_ (State.addCompletion_calm ..)
                    refine Calm.trans ?_ (State.acceptLocal_calm ..)
                    exact hx5

theorem State.command_calm (s : State) (refuse : State → List Byte → Bool) (path : CmdPath) (m : List Byte) :
    Calm s (State.command s refuse path m) := by
  unfold State.command
  refine Calm.ite ?_ ?_
  · exact Calm.refl _
  · refine Calm.ite ?_ ?_
    · refine Calm.ite ?_ ?_
      · exact (State.inc_calm ..)
      · exact Calm.refl _
    · extract_lets +onlyGivenNames -merge -underBinder x1
      have hx1 : Calm s x1 := by
        unfold x1
        refine Calm.ite ?_ ?_
        · refine Calm.trans ?_ (State.wrb_calm ..)
          exact (State.wrb_calm ..)
        · exact Calm.refl _
      refine Calm.trans ?_ (State.judge_calm ..)
      exact hx1

theorem mboxWords_calm (s : State) (l : List Byte) :
    Calm s (mboxWords s l) := by
  unfold mboxWords
  refine Calm.foldl ?_ (fun t1 a2 h3 => ?_)
  · exact Calm.refl _
  · refine Calm.trans ?_ (State.wrn_calm ..)
    exact h3

theorem State.releaseTo_calm (s : State) (c : Completion) :
    Calm s (State.releaseTo s c) := by
  unfold State.releaseTo
  extract_lets +onlyGivenNames -merge -underBinder x1
  split
  · refine Calm.ite ?_ ?_
    · exact Calm.refl _
    · refine Calm.trans ?_ (State.ringComplete_calm ..)
      exact (State.ringPush_calm ..)
  · extract_lets +onlyGivenNames -merge -underBinder x2
    have hx2 : Calm s x2 := by
      unfold x2
      exact (mboxWords_calm ..)
    refine Calm.trans ?_ (State.wrn_calm ..)
    exact hx2
  · split
    · exact (State.sendNet_calm ..)
    · exact Calm.refl _

theorem execCompletionRecordRelease_calm (dt : Nat) (s : State) :
    Ends Calm s (execCompletionRecordRelease dt s) := by
  unfold execCompletionRecordRelease
  extract_lets +onlyGivenNames -merge -underBinder x1
  have hx1 : Calm s x1 := by
    unfold x1
    exact (State.elapse_calm ..)
  split
  · refine Ends.next ?_
    refine Calm.trans ?_ (State.releaseTo_calm ..)
    refine Calm.upd ?_ rfl rfl rfl rfl rfl rfl rfl rfl
    exact hx1
  · refine Ends.next ?_
    exact hx1

theorem State.applyKeyLoad_calm (s : State) (slot : Nat) (m : List Byte) :
    Calm s (State.applyKeyLoad s slot m) := by
  unfold State.applyKeyLoad
  extract_lets +onlyGivenNames -merge -underBinder x1
  split
  · exact Calm.refl _
  · extract_lets +onlyGivenNames -merge -underBinder x2
    extract_lets +onlyGivenNames -merge -underBinder x3
    extract_lets +onlyGivenNames -merge -underBinder x4
    extract_lets +onlyGivenNames -merge -underBinder x5
    have hx5 : Calm s x5 := by
      unfold x5
      refine Calm.ite ?_ ?_
      · exact (State.setKeySlot_calm ..)
      · exact (State.setKeySlot_calm ..)
    extract_lets +onlyGivenNames -merge -underBinder x6
    have hx6 : Calm s x6 := by
      unfold x6
      refine Calm.trans ?_ (State.record_calm ..)
      exact hx5
    refine Calm.trans ?_ (State.flag_calm ..)
    exact hx6

end Sys2Proof.Machine
end

