-- ==== Sys2Proof/Laws/Sbx.lean ====
section
/-! SUPPORT. What the operations of Machine/Sbx.lean leave alone (Laws/Keeps.lean). -/

namespace Sys2Proof.Machine

open Sys2Proof

theorem State.takeSeq_calm (s : State) :
    Calm s (State.takeSeq s).2 := by
  unfold State.takeSeq
  extract_lets +onlyGivenNames -merge -underBinder x1
  extract_lets +onlyGivenNames -merge -underBinder x2
  extract_lets +onlyGivenNames -merge -underBinder x3
  refine Calm.pair ?_
  refine Calm.upd ?_ rfl rfl rfl rfl rfl rfl rfl rfl
  exact Calm.refl _

theorem State.classTrigger_calm (s : State) (cls : Nat) :
    Calm s (State.classTrigger s cls) := by
  unfold State.classTrigger
  refine Calm.ite ?_ ?_
  · exact (State.trigger_calm ..)
  · exact Calm.refl _

theorem State.startWrite_calm (s : State) (a : SbxArea) (line : Nat) (cls : Nat) (source : Nat) (mt : Nat) (payload :
    List Byte) :
    Calm s (State.startWrite s a line cls source mt payload) := by
  unfold State.startWrite
  split
  rename_i y1 y2 e3
  have hy2 : Calm s y2 := by
    refine Calm.snd e3 ?_
    exact (State.takeSeq_calm ..)
  extract_lets +onlyGivenNames -merge -underBinder x4
  extract_lets +onlyGivenNames -merge -underBinder x5
  extract_lets +onlyGivenNames -merge -underBinder x6
  extract_lets +onlyGivenNames -merge -underBinder x7
  refine Calm.trans ?_ (State.classTrigger_calm ..)
  refine Calm.upd ?_ rfl rfl rfl rfl rfl rfl rfl rfl
  exact hy2

theorem State.startRolling_calm (s : State) (r : RecReq) :
    Calm s (State.startRolling s r) := by
  unfold State.startRolling
  extract_lets +onlyGivenNames -merge -underBinder x1
  exact (State.startWrite_calm ..)

theorem State.displace_calm (s : State) (r : RecReq) :
    Calm s (State.displace s r) := by
  unfold State.displace
  refine Calm.ite ?_ ?_
  · extract_lets +onlyGivenNames -merge -underBinder x1 x2
    have hx2 : Calm s x2 := by
      unfold x2
      refine Calm.upd ?_ rfl rfl rfl rfl rfl rfl rfl rfl
      exact Calm.refl _
    refine Calm.trans ?_ (State.flag_calm ..)
    refine Calm.trans ?_ (State.inc_calm ..)
    exact hx2
  · refine Calm.trans ?_ (State.flag_calm ..)
    exact (State.inc_calm ..)

theorem State.startLocked_calm (s : State) (r : RecReq) :
    Calm s (State.startLocked s r) := by
  unfold State.startLocked
  split
  · exact (State.startWrite_calm ..)
  · split
    · refine Calm.trans ?_ (State.flag_calm ..)
      exact (State.startWrite_calm ..)
    · exact (State.displace_calm ..)

theorem State.startClear_calm (s : State) (x : Nat) (slot : Nat) (counter : Nat) :
    Calm s (State.startClear s x slot counter) := by
  unfold State.startClear
  extract_lets +onlyGivenNames -merge -underBinder x1
  exact (State.startWrite_calm ..)

theorem State.sbxStart_calm (s : State) :
    Calm s (State.sbxStart s) := by
  unfold State.sbxStart
  refine Calm.ite ?_ ?_
  · exact Calm.refl _
  · split
    · refine Calm.trans ?_ (State.startLocked_calm ..)
      refine Calm.upd ?_ rfl rfl rfl rfl rfl rfl rfl rfl
      exact Calm.refl _
    · refine Calm.ite ?_ ?_
      · exact Calm.refl _
      · split
        · refine Calm.trans ?_ (State.startClear_calm ..)
          refine Calm.upd ?_ rfl rfl rfl rfl rfl rfl rfl rfl
          exact Calm.refl _
        · refine Calm.trans ?_ (State.startLocked_calm ..)
          refine Calm.upd ?_ rfl rfl rfl rfl rfl rfl rfl rfl
          exact Calm.refl _
        · refine Calm.trans ?_ (State.startRolling_calm ..)
          refine Calm.upd ?_ rfl rfl rfl rfl rfl rfl rfl rfl
          exact Calm.refl _
        · exact Calm.refl _

theorem execStrongboxWriteStart_calm (dt : Nat) (s : State) :
    Ends Calm s (execStrongboxWriteStart dt s) := by
  unfold execStrongboxWriteStart
  refine Ends.next ?_
  refine Calm.trans ?_ (State.sbxStart_calm ..)
  exact (State.elapse_calm ..)

theorem State.applyClear_calm (s : State) (x : Nat) :
    Calm s (State.applyClear s x) := by
  unfold State.applyClear
  refine Calm.ite ?_ ?_
  · refine Calm.upd ?_ rfl rfl rfl rfl rfl rfl rfl rfl
    exact Calm.refl _
  · refine Calm.trans ?_ (State.flag_calm ..)
    refine Calm.upd ?_ rfl rfl rfl rfl rfl rfl rfl rfl
    exact Calm.refl _

theorem State.clearResume_calm (s : State) :
    Calm s (State.clearResume s) := by
  unfold State.clearResume
  split
  · exact (State.applyClear_calm ..)
  · exact Calm.refl _

theorem State.sbxFinish_calm (s : State) :
    Calm s (State.sbxFinish s) := by
  unfold State.sbxFinish
  split
  · exact Calm.refl _
  · extract_lets +onlyGivenNames -merge -underBinder x1 x2 x3
    have hx3 : Calm s x3 := by
      unfold x3
      refine Calm.upd ?_ rfl rfl rfl rfl rfl rfl rfl rfl
      exact Calm.refl _
    extract_lets +onlyGivenNames -merge -underBinder x4
    have hx4 : Calm s x4 := by
      unfold x4
      refine Calm.ite ?_ ?_
      · refine Calm.trans ?_ (State.applyClear_calm ..)
        exact hx3
      · exact hx3
    refine Calm.ite ?_ ?_
    · refine Calm.upd ?_ rfl rfl rfl rfl rfl rfl rfl rfl
      exact hx4
    · exact hx4

theorem State.sbxTear_calm (s : State) :
    Calm s (State.sbxTear s) := by
  unfold State.sbxTear
  split
  · exact Calm.refl _
  · refine Calm.upd ?_ rfl rfl rfl rfl rfl rfl rfl rfl
    exact Calm.refl _

theorem execStrongboxWriteDone_calm (dt : Nat) (s : State) :
    Ends Calm s (execStrongboxWriteDone dt s) := by
  unfold execStrongboxWriteDone
  refine Ends.next ?_
  refine Calm.trans ?_ (State.sbxFinish_calm ..)
  exact (State.elapse_calm ..)

theorem execTokenRefill_calm (dt : Nat) (s : State) :
    Ends Calm s (execTokenRefill dt s) := by
  unfold execTokenRefill
  extract_lets +onlyGivenNames -merge -underBinder x1
  have hx1 : Calm s x1 := by
    unfold x1
    exact (State.elapse_calm ..)
  refine Ends.next ?_
  refine Calm.upd ?_ rfl rfl rfl rfl rfl rfl rfl rfl
  exact hx1

theorem State.sbxScan_calm (s : State) :
    Calm s (State.sbxScan s) := by
  unfold State.sbxScan
  extract_lets +onlyGivenNames -merge -underBinder x1
  refine Calm.upd ?_ rfl rfl rfl rfl rfl rfl rfl rfl
  exact Calm.refl _

theorem State.sbxDamage_calm (s : State) (off : Nat) :
    Calm s (State.sbxDamage s off) := by
  unfold State.sbxDamage
  extract_lets +onlyGivenNames -merge -underBinder x1
  refine Calm.upd ?_ rfl rfl rfl rfl rfl rfl rfl rfl
  exact Calm.refl _

theorem State.sbxClear_calm (s : State) (x : Nat) (slot : Nat) (counter : Nat) :
    Calm s (State.sbxClear s x slot counter).2 := by
  unfold State.sbxClear
  split
  · refine Calm.pair ?_
    refine Calm.trans ?_ (State.flag_calm ..)
    exact (State.inc_calm ..)
  · refine Calm.pair ?_
    refine Calm.upd ?_ rfl rfl rfl rfl rfl rfl rfl rfl
    exact Calm.refl _

theorem State.skipped_calm (s : State) (n : Nat) :
    Calm s (State.skipped s n) := by
  unfold State.skipped
  refine Calm.ite ?_ ?_
  · exact Calm.refl _
  · refine Calm.trans ?_ (State.flag_calm ..)
    exact (State.incBy_calm ..)

theorem State.cursorStart_calm (s : State) (cmd : Nat) :
    Calm s (State.cursorStart s cmd) := by
  unfold State.cursorStart
  refine Calm.ite ?_ ?_
  · exact Calm.refl _
  · refine Calm.upd ?_ rfl rfl rfl rfl rfl rfl rfl rfl
    exact Calm.refl _

theorem execCursorSeek_calm (dt : Nat) (s : State) :
    Ends Calm s (execCursorSeek dt s) := by
  unfold execCursorSeek
  refine Ends.next ?_
  refine Calm.trans ?_ (State.cursorStart_calm ..)
  exact (State.elapse_calm ..)

theorem execCursorNext_calm (dt : Nat) (s : State) :
    Ends Calm s (execCursorNext dt s) := by
  unfold execCursorNext
  refine Ends.next ?_
  refine Calm.trans ?_ (State.cursorStart_calm ..)
  exact (State.elapse_calm ..)

theorem execCursorDone_calm (dt : Nat) (s : State) :
    Ends Calm s (execCursorDone dt s) := by
  unfold execCursorDone
  extract_lets +onlyGivenNames -merge -underBinder x1
  have hx1 : Calm s x1 := by
    unfold x1
    exact (State.elapse_calm ..)
  refine Ends.ite ?_ ?_
  · refine Ends.next ?_
    exact hx1
  · extract_lets +onlyGivenNames -merge -underBinder x2
    split
    · extract_lets +onlyGivenNames -merge -underBinder x3
      have hx3 : Calm s x3 := by
        unfold x3
        refine Calm.trans ?_ (State.skipped_calm ..)
        exact hx1
      split
      · refine Ends.next ?_
        refine Calm.upd ?_ rfl rfl rfl rfl rfl rfl rfl rfl
        exact hx3
      · refine Ends.next ?_
        refine Calm.upd ?_ rfl rfl rfl rfl rfl rfl rfl rfl
        exact hx3

theorem State.expComplete_calm (s : State) :
    Calm s (State.expComplete s) := by
  unfold State.expComplete
  extract_lets +onlyGivenNames -merge -underBinder x1
  refine Calm.trans ?_ (State.ringComplete_calm ..)
  refine Calm.upd ?_ rfl rfl rfl rfl rfl rfl rfl rfl
  exact Calm.refl _

theorem execStrongboxExportChunk_calm (dt : Nat) (s : State) :
    Ends Calm s (execStrongboxExportChunk dt s) := by
  unfold execStrongboxExportChunk
  extract_lets +onlyGivenNames -merge -underBinder x1
  have hx1 : Calm s x1 := by
    unfold x1
    exact (State.elapse_calm ..)
  refine Ends.ite ?_ ?_
  · refine Ends.next ?_
    exact hx1
  · split
    · refine Ends.next ?_
      exact hx1
    · refine Ends.ite ?_ ?_
      · refine Ends.next ?_
        refine Calm.trans ?_ (State.ringComplete_calm ..)
        exact hx1
      · split
        · refine Ends.next ?_
          exact hx1
        · refine Ends.ite ?_ ?_
          · refine Ends.next ?_
            refine Calm.trans ?_ (State.expComplete_calm ..)
            exact hx1
          · extract_lets +onlyGivenNames -merge -underBinder x2
            have hx2 : Calm s x2 := by
              unfold x2
              refine Calm.trans ?_ (State.skipped_calm ..)
              exact hx1
            refine Ends.next ?_
            refine Calm.upd ?_ rfl rfl rfl rfl rfl rfl rfl rfl
            exact hx2

theorem execStrongboxExportFlush_calm (dt : Nat) (s : State) :
    Ends Calm s (execStrongboxExportFlush dt s) := by
  unfold execStrongboxExportFlush
  extract_lets +onlyGivenNames -merge -underBinder x1
  have hx1 : Calm s x1 := by
    unfold x1
    exact (State.elapse_calm ..)
  refine Ends.ite ?_ ?_
  · refine Ends.next ?_
    refine Calm.trans ?_ (State.expComplete_calm ..)
    exact hx1
  · refine Ends.next ?_
    exact hx1

theorem State.sbxStarted_calm (s : State) :
    Calm s (State.sbxStarted s) := by
  unfold State.sbxStarted
  refine Calm.upd ?_ rfl rfl rfl rfl rfl rfl rfl rfl
  exact Calm.refl _

theorem State.sbxStopped_calm (s : State) :
    Calm s (State.sbxStopped s) := by
  unfold State.sbxStopped
  refine Calm.ite ?_ ?_
  · exact Calm.refl _
  · exact (State.expComplete_calm ..)

end Sys2Proof.Machine
end

