-- ==== Sys2Proof/Laws/Fwu.lean ====
section
/-! SUPPORT. What the operations of Machine/Fwu.lean leave alone (Laws/Keeps.lean). -/

namespace Sys2Proof.Machine

open Sys2Proof

theorem State.modFw_calm (s : State) (f : FwMram → FwMram) :
    Calm s (State.modFw s f) := by
  unfold State.modFw
  refine Calm.upd ?_ rfl rfl rfl rfl rfl rfl rfl rfl
  exact Calm.refl _

theorem State.modFwu_calm (s : State) (f : FwuSt → FwuSt) :
    Calm s (State.modFwu s f) := by
  unfold State.modFwu
  refine Calm.upd ?_ rfl rfl rfl rfl rfl rfl rfl rfl
  exact Calm.refl _

theorem State.putSlot_calm (s : State) (k : Nat) (v : FwSlot) :
    Calm s (State.putSlot s k v) := by
  unfold State.putSlot
  refine Calm.ite ?_ ?_
  · extract_lets +onlyGivenNames -merge -underBinder x1
    have hx1 : Calm s x1 := by
      unfold x1
      refine Calm.ite ?_ ?_
      · exact Calm.refl _
      · exact (State.writeDeferred_calm ..)
    refine Calm.trans ?_ (State.modFwu_calm ..)
    exact hx1
  · refine Calm.trans ?_ (State.modFwu_calm ..)
    exact (State.modFw_calm ..)

theorem State.flushSlots_calm (s : State) :
    Calm s (State.flushSlots s) := by
  unfold State.flushSlots
  extract_lets +onlyGivenNames -merge -underBinder x1
  refine Calm.trans ?_ (State.modFwu_calm ..)
  exact (State.modFw_calm ..)

theorem State.fwuReject_calm (s : State) :
    Calm s (State.fwuReject s) := by
  unfold State.fwuReject
  exact (State.flag_calm ..)

theorem State.abandonUpload_calm (s : State) :
    Calm s (State.abandonUpload s) := by
  unfold State.abandonUpload
  split
  · exact Calm.refl _
  · refine Calm.trans ?_ (State.modFwu_calm ..)
    exact (State.putSlot_calm ..)

theorem State.openUpload_calm (s : State) (slot : Bool) :
    Calm s (State.openUpload s slot) := by
  unfold State.openUpload
  extract_lets +onlyGivenNames -merge -underBinder x1
  refine Calm.ite ?_ ?_
  · exact Calm.refl _
  · refine Calm.ite ?_ ?_
    · exact (State.fwuReject_calm ..)
    · extract_lets +onlyGivenNames -merge -underBinder x2
      have hx2 : Calm s x2 := by
        unfold x2
        exact (State.abandonUpload_calm ..)
      refine Calm.trans ?_ (State.modFwu_calm ..)
      refine Calm.trans ?_ (State.putSlot_calm ..)
      exact hx2

theorem execOpenUpload_calm (dt : Nat) (slot : Bool) (s : State) :
    Ends Calm s (execOpenUpload dt slot s) := by
  unfold execOpenUpload
  refine Ends.next ?_
  refine Calm.hostDo ?_ (fun t1 h2 => ?_)
  · exact (State.elapse_calm ..)
  · refine Calm.trans ?_ (State.openUpload_calm ..)
    exact h2

theorem State.chunk_calm (s : State) (limit : Nat) (off : Nat) (dlen : Nat) (crc : Nat) (data : List Byte) :
    Calm s (State.chunk s limit off dlen crc data).2 := by
  unfold State.chunk
  extract_lets +onlyGivenNames -merge -underBinder x1
  split
  · unfold x1
    refine Calm.pair ?_
    refine Calm.trans ?_ (State.flag_calm ..)
    exact (State.modFw_calm ..)
  · split
    · unfold x1
      refine Calm.pair ?_
      refine Calm.trans ?_ (State.flag_calm ..)
      exact (State.modFw_calm ..)
    · split
      · unfold x1
        refine Calm.pair ?_
        refine Calm.trans ?_ (State.flag_calm ..)
        exact (State.modFw_calm ..)
      · split
        · unfold x1
          refine Calm.pair ?_
          refine Calm.trans ?_ (State.flag_calm ..)
          exact (State.modFw_calm ..)
        · split
          · unfold x1
            refine Calm.pair ?_
            refine Calm.trans ?_ (State.flag_calm ..)
            exact (State.modFw_calm ..)
          · split
            · unfold x1
              refine Calm.pair ?_
              refine Calm.trans ?_ (State.flag_calm ..)
              exact (State.modFw_calm ..)
            · extract_lets +onlyGivenNames -merge -underBinder x2
              refine Calm.pair ?_
              refine Calm.trans ?_ (State.modFwu_calm ..)
              exact (State.modFw_calm ..)

theorem execFirmwareChunk_calm (dt : Nat) (ring : Fin 4) (s : State) :
    Ends Calm s (execFirmwareChunk dt ring s) := by
  unfold execFirmwareChunk
  extract_lets +onlyGivenNames -merge -underBinder x1
  have hx1 : Calm s x1 := by
    unfold x1
    exact (State.elapse_calm ..)
  split
  · refine Ends.next ?_
    exact hx1
  · refine Ends.ite ?_ ?_
    · refine Ends.next ?_
      exact hx1
    · extract_lets +onlyGivenNames -merge -underBinder x2
      split
      rename_i y3 y4 e5
      have hy4 : Calm s y4 := by
        refine Calm.snd e5 ?_
        split
        · refine Calm.trans ?_ (State.chunk_calm ..)
          exact hx1
        · refine Calm.trans ?_ (State.chunk_calm ..)
          exact hx1
      refine Ends.next ?_
      refine Calm.trans ?_ (State.ringComplete_calm ..)
      exact hy4

theorem State.windowChunk_calm (s : State) (n : Nat) :
    Calm s (State.windowChunk s n) := by
  unfold State.windowChunk
  refine Calm.ite ?_ ?_
  · exact Calm.refl _
  · extract_lets +onlyGivenNames -merge -underBinder x1
    split
    rename_i y2 y3 e4
    have hy3 : Calm s y3 := by
      refine Calm.snd e4 ?_
      exact (State.chunk_calm ..)
    refine Calm.trans ?_ (State.wrn_calm ..)
    exact hy3

theorem execWindowChunk_calm (dt : Nat) (len : BitVec 11) (s : State) :
    Ends Calm s (execWindowChunk dt len s) := by
  unfold execWindowChunk
  refine Ends.next ?_
  refine Calm.hostDo ?_ (fun t1 h2 => ?_)
  · exact (State.elapse_calm ..)
  · refine Calm.trans ?_ (State.windowChunk_calm ..)
    exact h2

theorem State.closeUpload_calm (s : State) :
    Calm s (State.closeUpload s) := by
  unfold State.closeUpload
  refine Calm.ite ?_ ?_
  · exact Calm.refl _
  · split
    · exact (State.fwuReject_calm ..)
    · extract_lets +onlyGivenNames -merge -underBinder x1
      extract_lets +onlyGivenNames -merge -underBinder x2
      refine Calm.ite ?_ ?_
      · extract_lets +onlyGivenNames -merge -underBinder x3 x4
        have hx4 : Calm s x4 := by
          unfold x4
          refine Calm.trans ?_ (State.modFwu_calm ..)
          exact (State.putSlot_calm ..)
        refine Calm.trans ?_ (State.flag_calm ..)
        exact hx4
      · refine Calm.trans ?_ (State.fwuReject_calm ..)
        exact (State.abandonUpload_calm ..)

theorem execCloseUpload_calm (dt : Nat) (s : State) :
    Ends Calm s (execCloseUpload dt s) := by
  unfold execCloseUpload
  refine Ends.next ?_
  refine Calm.hostDo ?_ (fun t1 h2 => ?_)
  · exact (State.elapse_calm ..)
  · refine Calm.trans ?_ (State.closeUpload_calm ..)
    exact h2

theorem State.abortUpload_calm (s : State) :
    Calm s (State.abortUpload s) := by
  unfold State.abortUpload
  refine Calm.ite ?_ ?_
  · exact (State.abandonUpload_calm ..)
  · exact Calm.refl _

theorem execAbortUpload_calm (dt : Nat) (s : State) :
    Ends Calm s (execAbortUpload dt s) := by
  unfold execAbortUpload
  refine Ends.next ?_
  refine Calm.hostDo ?_ (fun t1 h2 => ?_)
  · exact (State.elapse_calm ..)
  · refine Calm.trans ?_ (State.abortUpload_calm ..)
    exact h2

theorem State.activate_calm (s : State) (slot : Nat) (mt : Nat) :
    Calm s (State.activate s slot mt) := by
  unfold State.activate
  refine Calm.trans ?_ (State.modFwu_calm ..)
  exact (State.modFw_calm ..)

theorem execActivationDue_calm (dt : Nat) (s : State) :
    Ends Calm s (execActivationDue dt s) := by
  unfold execActivationDue
  extract_lets +onlyGivenNames -merge -underBinder x1
  have hx1 : Calm s x1 := by
    unfold x1
    exact (State.elapse_calm ..)
  split
  · refine Ends.ite ?_ ?_
    · refine Ends.next ?_
      refine Calm.trans ?_ (State.flag_calm ..)
      refine Calm.trans ?_ (State.modFwu_calm ..)
      exact hx1
    · refine Ends.next ?_
      exact hx1
  · refine Ends.next ?_
    exact hx1

theorem execActivationCancel_calm (dt : Nat) (s : State) :
    Ends Calm s (execActivationCancel dt s) := by
  unfold execActivationCancel
  extract_lets +onlyGivenNames -merge -underBinder x1
  have hx1 : Calm s x1 := by
    unfold x1
    exact (State.elapse_calm ..)
  split
  · refine Ends.ite ?_ ?_
    · extract_lets +onlyGivenNames -merge -underBinder x2
      have hx2 : Calm s x2 := by
        unfold x2
        refine Calm.trans ?_ (State.record_calm ..)
        exact hx1
      refine Ends.next ?_
      refine Calm.trans ?_ (State.flag_calm ..)
      refine Calm.trans ?_ (State.modFwu_calm ..)
      refine Calm.trans ?_ (State.modFw_calm ..)
      exact hx2
    · refine Ends.next ?_
      exact hx1
  · refine Ends.next ?_
    exact hx1

theorem execTrialEnd_calm (dt : Nat) (s : State) :
    Ends Calm s (execTrialEnd dt s) := by
  unfold execTrialEnd
  extract_lets +onlyGivenNames -merge -underBinder x1
  have hx1 : Calm s x1 := by
    unfold x1
    exact (State.elapse_calm ..)
  refine Ends.ite ?_ ?_
  · refine Ends.next ?_
    refine Calm.trans ?_ (State.modFw_calm ..)
    refine Calm.trans ?_ (State.bookRole_calm ..)
    exact hx1
  · refine Ends.next ?_
    exact hx1

theorem execSvCommit_calm (dt : Nat) (s : State) :
    Ends Calm s (execSvCommit dt s) := by
  unfold execSvCommit
  extract_lets +onlyGivenNames -merge -underBinder x1
  have hx1 : Calm s x1 := by
    unfold x1
    exact (State.elapse_calm ..)
  extract_lets +onlyGivenNames -merge -underBinder x2
  refine Ends.ite ?_ ?_
  · extract_lets +onlyGivenNames -merge -underBinder x3
    have hx3 : Calm s x3 := by
      unfold x3
      refine Calm.trans ?_ (State.modFw_calm ..)
      exact hx1
    refine Ends.next ?_
    refine Calm.trans ?_ (State.flag_calm ..)
    refine Calm.trans ?_ (State.record_calm ..)
    exact hx3
  · refine Ends.next ?_
    exact hx1

theorem State.putSettings_calm (s : State) (v : Settings) :
    Calm s (State.putSettings s v) := by
  unfold State.putSettings
  exact (State.modFw_calm ..)

theorem State.modSettings_calm (s : State) (f : Settings → Settings) :
    Calm s (State.modSettings s f) := by
  unfold State.modSettings
  extract_lets +onlyGivenNames -merge -underBinder x1
  extract_lets +onlyGivenNames -merge -underBinder x2
  extract_lets +onlyGivenNames -merge -underBinder x3 x4
  refine Calm.ite ?_ ?_
  · exact (State.modFwu_calm ..)
  · exact (State.putSettings_calm ..)

theorem State.flushSettings_calm (s : State) :
    Calm s (State.flushSettings s) := by
  unfold State.flushSettings
  split
  · refine Calm.trans ?_ (State.modFwu_calm ..)
    exact (State.putSettings_calm ..)
  · exact Calm.refl _

theorem State.savePage_calm (s : State) (p : Page) :
    Calm s (State.savePage s p) := by
  unfold State.savePage
  extract_lets +onlyGivenNames -merge -underBinder x1
  exact (State.modSettings_calm ..)

theorem State.saveLimits_calm (s : State) :
    Calm s (State.saveLimits s) := by
  unfold State.saveLimits
  extract_lets +onlyGivenNames -merge -underBinder x1
  exact (State.modSettings_calm ..)

end Sys2Proof.Machine
end

