-- ==== Sys2Proof/Laws/Journal.lean ====
section
/-! SUPPORT. What the operations of Machine/Journal.lean leave alone (Laws/Keeps.lean). -/

namespace Sys2Proof.Machine

open Sys2Proof

theorem State.jrnQueue_calm (s : State) (r : Nat) (img : List Byte) :
    Calm s (State.jrnQueue s r img) := by
  unfold State.jrnQueue
  extract_lets +onlyGivenNames -merge -underBinder x1
  extract_lets +onlyGivenNames -merge -underBinder x2 x3
  have hx3 : Calm s x3 := by
    unfold x3
    refine Calm.upd ?_ rfl rfl rfl rfl rfl rfl rfl rfl
    exact Calm.refl _
  extract_lets +onlyGivenNames -merge -underBinder x4
  have hx4 : Calm s x4 := by
    unfold x4
    refine Calm.ite ?_ ?_
    · refine Calm.trans ?_ (State.writeDeferred_calm ..)
      exact hx3
    · exact hx3
  refine Calm.ite ?_ ?_
  · refine Calm.trans ?_ (State.mirrorItem_calm ..)
    exact hx4
  · exact hx4

theorem State.jrnEdit_calm (s : State) (r : Nat) (o : Nat) (b : List Byte) :
    Calm s (State.jrnEdit s r o b) := by
  unfold State.jrnEdit
  extract_lets +onlyGivenNames -merge -underBinder x1
  refine Calm.upd ?_ rfl rfl rfl rfl rfl rfl rfl rfl
  exact Calm.refl _

theorem State.jrnPut_calm (s : State) (r : Nat) (o : Nat) (b : List Byte) :
    Calm s (State.jrnPut s r o b) := by
  unfold State.jrnPut
  extract_lets +onlyGivenNames -merge -underBinder x1
  exact (State.jrnQueue_calm ..)

theorem execJournalWriteStart_calm (dt : Nat) (s : State) :
    Ends Calm s (execJournalWriteStart dt s) := by
  unfold execJournalWriteStart
  extract_lets +onlyGivenNames -merge -underBinder x1
  have hx1 : Calm s x1 := by
    unfold x1
    exact (State.elapse_calm ..)
  split
  · refine Ends.ite ?_ ?_
    · refine Ends.next ?_
      exact hx1
    · extract_lets +onlyGivenNames -merge -underBinder x2
      extract_lets +onlyGivenNames -merge -underBinder x3
      extract_lets +onlyGivenNames -merge -underBinder x4
      extract_lets +onlyGivenNames -merge -underBinder x5
      extract_lets +onlyGivenNames -merge -underBinder x6
      refine Ends.next ?_
      refine Calm.upd ?_ rfl rfl rfl rfl rfl rfl rfl rfl
      exact hx1
  · refine Ends.next ?_
    exact hx1

theorem State.jrnFinish_calm (s : State) :
    Calm s (State.jrnFinish s) := by
  unfold State.jrnFinish
  split
  · refine Calm.upd ?_ rfl rfl rfl rfl rfl rfl rfl rfl
    exact Calm.refl _
  · exact Calm.refl _

theorem State.jrnTear_calm (s : State) :
    Calm s (State.jrnTear s) := by
  unfold State.jrnTear
  split
  · refine Calm.upd ?_ rfl rfl rfl rfl rfl rfl rfl rfl
    exact Calm.refl _
  · exact Calm.refl _

theorem execJournalWriteDone_calm (dt : Nat) (s : State) :
    Ends Calm s (execJournalWriteDone dt s) := by
  unfold execJournalWriteDone
  refine Ends.next ?_
  refine Calm.trans ?_ (State.jrnFinish_calm ..)
  exact (State.elapse_calm ..)

theorem State.jrnLoad_calm (s : State) (r : Nat) :
    Calm s (State.jrnLoad s r) := by
  unfold State.jrnLoad
  extract_lets +onlyGivenNames -merge -underBinder x1
  extract_lets +onlyGivenNames -merge -underBinder x2
  split
  · exact (State.wrb_calm ..)
  · extract_lets +onlyGivenNames -merge -underBinder x3
    extract_lets +onlyGivenNames -merge -underBinder x4 x5
    have hx5 : Calm s x5 := by
      unfold x5
      refine Calm.upd ?_ rfl rfl rfl rfl rfl rfl rfl rfl
      exact Calm.refl _
    refine Calm.ite ?_ ?_
    · exact hx5
    · extract_lets +onlyGivenNames -merge -underBinder x6
      have hx6 : Calm s x6 := by
        unfold x6
        refine Calm.trans ?_ (State.wrb_calm ..)
        refine Calm.trans ?_ (State.inc_calm ..)
        exact hx5
      refine Calm.trans ?_ (State.record_calm ..)
      exact hx6

theorem State.jrnBoot_calm (s : State) :
    Calm s (State.jrnBoot s) := by
  unfold State.jrnBoot
  extract_lets +onlyGivenNames -merge -underBinder x1
  have hx1 : Calm s x1 := by
    unfold x1
    refine Calm.foldl ?_ (fun t2 a3 h4 => ?_)
    · exact Calm.refl _
    · refine Calm.trans ?_ (State.jrnLoad_calm ..)
      exact h4
  refine Calm.trans ?_ (State.wrn_calm ..)
  exact hx1

end Sys2Proof.Machine
end

