-- ==== Sys2Proof/Laws/Resets.lean ====
section
/-! SUPPORT. What the operations of Machine/Resets.lean leave alone (Laws/Keeps.lean). -/

namespace Sys2Proof.Machine

open Sys2Proof

theorem State.settleMram_calm (s : State) (lost : Bool) :
    Calm s (State.settleMram s lost) := by
  unfold State.settleMram
  refine Calm.trans ?_ (State.bookRole_calm ..)
  refine Calm.trans ?_ (State.abandonUpload_calm ..)
  refine Calm.ite ?_ ?_
  · refine Calm.trans ?_ (State.jrnTear_calm ..)
    exact (State.sbxTear_calm ..)
  · refine Calm.trans ?_ (State.jrnFinish_calm ..)
    exact (State.sbxFinish_calm ..)

/-- The outputs of R22 after a reset. -/
theorem State.afterReset_safe (s : State) (way : Bool) : (s.afterReset way).outputsSafe :=
  ⟨rfl, rfl, fun _ _ => rfl⟩

theorem State.afterReset_steady (s : State) (way : Bool) : Steady s (s.afterReset way) :=
  ⟨⟨rfl, fun _ => ⟨List.Pairwise.nil, by simp [State.afterReset, State.reset]⟩, le_refl _, List.suffix_refl _⟩,
    fun _ => OutInv.safe (s.afterReset_safe way)⟩

theorem State.intoReset_steady (s : State) (lost : Bool) (way : Bool) :
    Steady s (State.intoReset s lost way) := by
  unfold State.intoReset
  refine Steady.trans ?_ (State.afterReset_steady ..)
  refine Steady.trans ?_ (State.settleMram_calm ..).steady
  exact (State.forceSafe_steady ..)

theorem State.countReset_calm (s : State) (cause : Nat) (prior : Nat) :
    Calm s (State.countReset s cause prior) := by
  unfold State.countReset
  refine Calm.trans ?_ (State.modFw_calm ..)
  refine Calm.upd ?_ rfl rfl rfl rfl rfl rfl rfl rfl
  exact Calm.refl _

theorem State.tryBoot_keeps (s : State) :
    Keeps s (State.tryBoot s) := by
  unfold State.tryBoot
  extract_lets +onlyGivenNames -merge -underBinder x1
  refine Keeps.ite ?_ ?_
  · exact Keeps.refl _
  · extract_lets +onlyGivenNames -merge -underBinder x2
    extract_lets +onlyGivenNames -merge -underBinder x3
    extract_lets +onlyGivenNames -merge -underBinder x4 x5
    have hx5 : Keeps s x5 := by
      unfold x5
      refine Keeps.upd ?_ rfl rfl rfl rfl
      exact Keeps.refl _
    extract_lets +onlyGivenNames -merge -underBinder x6
    have hx6 : Keeps s x6 := by
      unfold x6
      refine Keeps.trans ?_ (State.sbxScan_calm ..).keeps
      refine Keeps.trans ?_ (State.modFw_calm ..).keeps
      exact hx5
    refine Keeps.ite ?_ ?_
    · refine Keeps.trans ?_ (State.flag_calm ..).keeps
      exact hx6
    · exact hx6

theorem State.tryBoot_steady (s : State) : Steady s s.tryBoot := by
  refine ⟨s.tryBoot_keeps, fun i => ?_⟩
  unfold State.tryBoot
  extract_lets +onlyGivenNames y
  split
  · exact i
  · rename_i h
    have m : s.sys.mode = .reset := by
      by_contra k
      exact h (by simp [y, k])
    have d := i.low (by rw [m]; decide)
    extract_lets w stuck src a b
    have ha : OutInv a := OutInv.serving rfl d
    have hb : OutInv b := ((State.modFw_calm ..).trans (State.sbxScan_calm _)).steady.inv ha
    clear_value b
    split
    · exact (State.flag_calm ..).steady.inv hb
    · exact hb

theorem State.moduleReset_steady (s : State) (cause : Nat) (lost : Bool) (way : Bool) :
    Steady s (State.moduleReset s cause lost way) := by
  unfold State.moduleReset
  extract_lets +onlyGivenNames -merge -underBinder x1
  refine Steady.trans ?_ (State.tryBoot_steady ..)
  refine Steady.trans ?_ (State.countReset_calm ..).steady
  exact (State.intoReset_steady ..)

theorem State.flushLocked_calm (s : State) :
    Calm s (State.flushLocked s) := by
  unfold State.flushLocked
  refine Calm.foldl ?_ (fun t1 a2 h3 => ?_)
  · exact (State.sbxFinish_calm ..)
  · refine Calm.trans ?_ (State.sbxFinish_calm ..)
    refine Calm.trans ?_ (State.sbxStart_calm ..)
    exact h3

theorem State.recordNow_calm (s : State) (p : Page) (cls : Nat) (payload : List Byte) :
    Calm s (State.recordNow s p cls payload) := by
  unfold State.recordNow
  refine Calm.ite ?_ ?_
  · exact Calm.refl _
  · refine Calm.trans ?_ (State.sbxFinish_calm ..)
    refine Calm.trans ?_ (State.startLocked_calm ..)
    exact (State.flushLocked_calm ..)

theorem State.fallBack_steady (s : State) (k : Nat) :
    Steady s (State.fallBack s k) := by
  unfold State.fallBack
  extract_lets +onlyGivenNames -merge -underBinder x1 x2
  have hx2 : Steady s x2 := by
    unfold x2
    exact (State.putSlot_calm ..).steady
  refine Steady.ite ?_ ?_
  · extract_lets +onlyGivenNames -merge -underBinder x3
    have hx3 : Steady s x3 := by
      unfold x3
      refine Steady.trans ?_ (State.modFw_calm ..).steady
      exact hx2
    refine Steady.trans ?_ (State.flag_calm ..).steady
    refine Steady.trans ?_ (State.moduleReset_steady ..)
    refine Steady.trans ?_ (State.recordNow_calm ..).steady
    exact hx3
  · refine Steady.trans ?_ (State.moduleReset_steady ..)
    exact hx2

theorem State.failBoot_steady (s : State) :
    Steady s (State.failBoot s) := by
  unfold State.failBoot
  extract_lets +onlyGivenNames -merge -underBinder x1
  extract_lets +onlyGivenNames -merge -underBinder x2
  extract_lets +onlyGivenNames -merge -underBinder x3
  have hx3 : Steady s x3 := by
    unfold x3
    exact (State.modFw_calm ..).steady
  extract_lets +onlyGivenNames -merge -underBinder x4
  have hx4 : Steady s x4 := by
    unfold x4
    refine Steady.trans ?_ (State.recordNow_calm ..).steady
    exact hx3
  refine Steady.ite ?_ ?_
  · refine Steady.trans ?_ (State.fallBack_steady ..)
    exact hx4
  · refine Steady.trans ?_ (State.moduleReset_steady ..)
    exact hx4

theorem State.trialOut_steady (s : State) :
    Steady s (State.trialOut s) := by
  unfold State.trialOut
  refine Steady.ite ?_ ?_
  · exact (State.failBoot_steady ..)
  · exact Steady.refl _

end Sys2Proof.Machine
end

