-- ==== Sys2Proof/Laws/Params.lean ====
section
/-! SUPPORT. What the operations of Machine/Params.lean leave alone (Laws/Keeps.lean). -/

namespace Sys2Proof.Machine

open Sys2Proof

theorem State.paramWrite_calm (s : State) (off : Nat) (bytes : List Byte) :
    Calm s (State.paramWrite s off bytes) := by
  unfold State.paramWrite
  extract_lets +onlyGivenNames -merge -underBinder x1
  extract_lets +onlyGivenNames -merge -underBinder x2
  split
  · extract_lets +onlyGivenNames -merge -underBinder x3 x4
    have hx4 : Calm s x4 := by
      unfold x4
      refine Calm.upd ?_ rfl rfl rfl rfl rfl rfl rfl rfl
      exact Calm.refl _
    refine Calm.ite ?_ ?_
    · exact hx4
    · refine Calm.trans ?_ (State.flag_calm ..)
      refine Calm.trans ?_ (State.inc_calm ..)
      exact hx4

theorem execParameterSetWrite_calm (dt : Nat) (off : Nat) (bytes : List Byte) (s : State) :
    Ends Calm s (execParameterSetWrite dt off bytes s) := by
  unfold execParameterSetWrite
  refine Ends.next ?_
  refine Calm.hostDo ?_ (fun t1 h2 => ?_)
  · exact (State.elapse_calm ..)
  · refine Calm.trans ?_ (State.paramWrite_calm ..)
    exact h2

theorem execParameterSetScrub_steady (dt : Nat) (s : State) :
    Ends Steady s (execParameterSetScrub dt s) := by
  unfold execParameterSetScrub
  extract_lets +onlyGivenNames -merge -underBinder x1
  have hx1 : Steady s x1 := by
    unfold x1
    exact (State.elapse_calm ..).steady
  refine Ends.ite ?_ ?_
  · refine Ends.next ?_
    refine Steady.trans ?_ (State.trialOut_steady ..)
    refine Steady.trans ?_ (State.outEntry_steady ..)
    exact hx1
  · refine Ends.next ?_
    exact hx1

end Sys2Proof.Machine
end

