-- ==== Sys2Proof/Laws/Slots.lean ====
section
/-! SUPPORT. What the operations of Machine/Slots.lean leave alone (Laws/Keeps.lean). -/

namespace Sys2Proof.Machine

open Sys2Proof

theorem State.setModIn_calm (s : State) (n : Nat) (v : ModIn) :
    Calm s (State.setModIn s n v) := by
  unfold State.setModIn
  refine Calm.upd ?_ rfl rfl rfl rfl rfl rfl rfl rfl
  exact Calm.refl _

theorem State.setSlot_calm (s : State) (n : Nat) (v : SlotSt) :
    Calm s (State.setSlot s n v) := by
  unfold State.setSlot
  refine Calm.upd ?_ rfl rfl rfl rfl rfl rfl rfl rfl
  exact Calm.refl _

theorem State.setPair_keeps (s : State) (m : Nat) (v : PairSt) : Keeps s (s.setPair m v) :=
  ⟨rfl, id, le_refl _, List.suffix_refl _⟩

/-- A pair moves in a state whose functions run, or to its forced state, or once it is no longer forced. -/
theorem State.setPair_steady (s : State) (m : Nat) (v : PairSt)
    (h : s.sys.mode.serves = true ∨ v.forced = true ∨ (s.pair m).forced = false) : Steady s (s.setPair m v) := by
  refine ⟨s.setPair_keeps m v, fun i => ⟨i.1, fun k => ?_⟩⟩
  have k' : s.sys.mode.serves = false := k
  have o := i.2 k'
  refine ⟨o.1, o.2.1, fun j hj => ?_⟩
  show (sget {} (sset {} s.loops.pairs m v) j : PairSt).forced = true
  by_cases e : j = m
  · subst e
    rw [sget_sset_same]
    rcases h with h | h | h
    · simp [k'] at h
    · exact h
    · have := o.2.2 j hj
      unfold State.pair at h
      simp [h] at this
  · rw [sget_sset_other _ _ _ _ e]; exact o.2.2 j hj

theorem State.slotEval_calm (s : State) (n : Nat) :
    Calm s (State.slotEval s n) := by
  unfold State.slotEval
  extract_lets +onlyGivenNames -merge -underBinder x1
  extract_lets +onlyGivenNames -merge -underBinder x2
  extract_lets +onlyGivenNames -merge -underBinder x3
  extract_lets +onlyGivenNames -merge -underBinder x4
  have hx4 : Calm s x4 := by
    unfold x4
    exact (State.setSlot_calm ..)
  refine Calm.ite ?_ ?_
  · exact hx4
  · extract_lets +onlyGivenNames -merge -underBinder x5
    extract_lets +onlyGivenNames -merge -underBinder x6
    have hx6 : Calm s x6 := by
      unfold x6
      refine Calm.trans ?_ (State.wrf_calm ..)
      exact hx4
    refine Calm.ite ?_ ?_
    · extract_lets +onlyGivenNames -merge -underBinder x7
      have hx7 : Calm s x7 := by
        unfold x7
        refine Calm.trans ?_ (State.setSlot_calm ..)
        exact hx6
      extract_lets +onlyGivenNames -merge -underBinder x8
      have hx8 : Calm s x8 := by
        unfold x8
        refine Calm.trans ?_ (State.flag_calm ..)
        refine Calm.trans ?_ (State.wrb_calm ..)
        refine Calm.trans ?_ (State.wrf_calm ..)
        exact hx7
      refine Calm.trans ?_ (State.inc_calm ..)
      refine Calm.ite ?_ ?_
      · refine Calm.trans ?_ (State.flag_calm ..)
        exact hx8
      · exact hx8
    · refine Calm.ite ?_ ?_
      · extract_lets +onlyGivenNames -merge -underBinder x9
        refine Calm.trans ?_ (State.setSlot_calm ..)
        exact hx6
      · refine Calm.trans ?_ (State.setSlot_calm ..)
        exact hx6

theorem State.pairEval_keeps (s : State) (m : Nat) :
    Keeps s (State.pairEval s m) := by
  unfold State.pairEval
  extract_lets +onlyGivenNames -merge -underBinder x1
  extract_lets +onlyGivenNames -merge -underBinder x2
  refine Keeps.ite ?_ ?_
  · exact Keeps.refl _
  · refine Keeps.ite ?_ ?_
    · extract_lets +onlyGivenNames -merge -underBinder x3
      have hx3 : Keeps s x3 := by
        unfold x3
        exact (State.setPair_keeps ..)
      extract_lets +onlyGivenNames -merge -underBinder x4
      have hx4 : Keeps s x4 := by
        unfold x4
        refine Keeps.trans ?_ (State.send_calm ..).keeps
        refine Keeps.trans ?_ (State.wrn_calm ..).keeps
        exact hx3
      refine Keeps.ite ?_ ?_
      · refine Keeps.trans ?_ (State.flag_calm ..).keeps
        exact hx4
      · exact hx4
    · extract_lets +onlyGivenNames -merge -underBinder x5
      exact (State.setPair_keeps ..)

theorem State.pairEval_steady (s : State) (m : Nat) : Steady s (s.pairEval m) := by
  unfold State.pairEval
  extract_lets v f a b duty
  split
  · exact Steady.refl s
  · split
    · have ha : Steady s a := s.setPair_steady m {} (Or.inr (Or.inl rfl))
      have hb : Steady s b := ha.trans ((State.wrn_calm ..).trans (State.send_calm ..)).steady
      clear_value b
      split
      · exact hb.trans (State.flag_calm ..).steady
      · exact hb
    · rename_i h
      refine s.setPair_steady m _ (Or.inl ?_)
      have hf : s.forcedOutside m = false := by
        simp only [f, State.pairForced, Bool.or_eq_true, not_or, Bool.not_eq_true] at h
        exact h.1
      simp only [State.forcedOutside, Bool.or_eq_false_iff, Bool.not_eq_false', State.mode] at hf
      cases k : s.sys.mode <;> simp_all [Mode.runsString, Mode.serves]

theorem State.implRaw_calm (s : State) :
    Calm s (State.implRaw s) := by
  unfold State.implRaw
  extract_lets +onlyGivenNames -merge -underBinder x1
  refine Calm.upd ?_ rfl rfl rfl rfl rfl rfl rfl rfl
  exact Calm.refl _

theorem State.loopEval_steady (s : State) :
    Steady s (State.loopEval s) := by
  unfold State.loopEval
  extract_lets +onlyGivenNames -merge -underBinder x1
  have hx1 : Steady s x1 := by
    unfold x1
    refine Steady.foldl ?_ (fun t2 a3 h4 => ?_)
    · exact Steady.refl _
    · refine Steady.trans ?_ (State.slotEval_calm ..).steady
      exact h4
  refine Steady.trans ?_ (State.implRaw_calm ..).steady
  refine Steady.foldl ?_ (fun t5 a6 h7 => ?_)
  · exact hx1
  · refine Steady.trans ?_ (State.pairEval_steady ..)
    exact h7

end Sys2Proof.Machine
end

