-- ==== Sys2Proof/Laws/Protect.lean ====
section
/-! SUPPORT. What the operations of Machine/Protect.lean leave alone (Laws/Keeps.lean). -/

namespace Sys2Proof.Machine

open Sys2Proof

theorem State.setManual_calm (s : State) (b : Bool) :
    Calm s (State.setManual s b) := by
  unfold State.setManual
  refine Calm.ite ?_ ?_
  · exact Calm.refl _
  · refine Calm.ite ?_ ?_
    · refine Calm.trans ?_ (State.writeDeferred_calm ..)
      refine Calm.upd ?_ rfl rfl rfl rfl rfl rfl rfl rfl
      exact Calm.refl _
    · refine Calm.upd ?_ rfl rfl rfl rfl rfl rfl rfl rfl
      exact Calm.refl _

theorem State.manualResume_calm (s : State) :
    Calm s (State.manualResume s) := by
  unfold State.manualResume
  split
  · refine Calm.trans ?_ (State.setManual_calm ..)
    refine Calm.upd ?_ rfl rfl rfl rfl rfl rfl rfl rfl
    exact Calm.refl _
  · exact Calm.refl _

theorem State.setGroup_keeps (s : State) (n : Nat) (g : GroupState) : Keeps s (s.setGroup n g) :=
  ⟨rfl, id, le_refl _, List.suffix_refl _⟩

theorem State.setGroup_withheld (s : State) (n : Nat) : Steady s (s.setGroup n .withheld) := by
  refine ⟨s.setGroup_keeps n _, fun i => ⟨i.1, fun k => ?_⟩⟩
  have := i.2 k
  refine ⟨this.1, ?_, this.2.2⟩
  show sset .withheld s.prot.groups n .withheld = []
  rw [this.2.1]; rfl

/-- A group moves in a state whose functions run. -/
theorem State.setGroup_serving (s : State) (n : Nat) (g : GroupState) (h : s.sys.mode.serves = true) :
    Steady s (s.setGroup n g) :=
  ⟨s.setGroup_keeps n g, fun i => ⟨i.1, fun k => absurd h (by simp [show s.sys.mode.serves = false from k])⟩⟩

theorem State.mayKeep_serves {s : State} (h : s.mayKeep = true) : s.sys.mode.serves = true := by
  unfold State.mayKeep State.mode at h
  cases m : s.sys.mode <;> simp_all [Mode.runsString, Mode.serves]

theorem State.tripEntry_keeps (s : State) (n : Nat) :
    Keeps s (State.tripEntry s n) := by
  unfold State.tripEntry
  extract_lets +onlyGivenNames -merge -underBinder x1
  extract_lets +onlyGivenNames -merge -underBinder x2
  extract_lets +onlyGivenNames -merge -underBinder x3
  have hx3 : Keeps s x3 := by
    unfold x3
    exact (State.setGroup_keeps ..)
  extract_lets +onlyGivenNames -merge -underBinder x4
  have hx4 : Keeps s x4 := by
    unfold x4
    refine Keeps.trans ?_ (State.wrn_calm ..).keeps
    exact hx3
  extract_lets +onlyGivenNames -merge -underBinder x5
  have hx5 : Keeps s x5 := by
    unfold x5
    refine Keeps.trans ?_ (State.flag_calm ..).keeps
    refine Keeps.trans ?_ (State.inc_calm ..).keeps
    exact hx4
  extract_lets +onlyGivenNames -merge -underBinder x6
  have hx6 : Keeps s x6 := by
    unfold x6
    refine Keeps.trans ?_ (State.record_calm ..).keeps
    exact hx5
  refine Keeps.trans ?_ (State.trigger_calm ..).keeps
  exact hx6

theorem State.tripEntry_steady (s : State) (n : Nat) (m : s.sys.mode.serves = true) : Steady s (s.tripEntry n) := by
  refine ⟨s.tripEntry_keeps n, fun i => ?_⟩
  unfold State.tripEntry
  extract_lets +onlyGivenNames src first
  extract_lets +onlyGivenNames a b c d
  have ha : OutInv a := (s.setGroup_serving n .tripped m).inv i
  have hd : Calm a d := (((State.wrn_calm ..).trans (State.inc_calm ..)).trans (State.flag_calm ..)).trans
    (State.record_calm ..)
  exact (hd.trans (State.trigger_calm ..)).steady.inv ha

theorem State.groupStep_keeps (s : State) (n : Nat) :
    Keeps s (State.groupStep s n) := by
  unfold State.groupStep
  refine Keeps.ite ?_ ?_
  · exact (State.setGroup_keeps ..)
  · split
    · exact (State.tripEntry_keeps ..)
    · exact Keeps.refl _
    · refine Keeps.ite ?_ ?_
      · exact (State.setGroup_keeps ..)
      · exact Keeps.refl _
    · exact Keeps.refl _

theorem State.groupStep_steady (s : State) (n : Nat) : Steady s (s.groupStep n) := by
  unfold State.groupStep
  split
  · exact s.setGroup_withheld n
  · rename_i h
    have m := State.mayKeep_serves (by simpa using h)
    split
    · exact s.tripEntry_steady n m
    · exact Steady.refl s
    · split
      · exact s.setGroup_serving n _ m
      · exact Steady.refl s
    · exact Steady.refl s

theorem State.matrixEval_steady (s : State) :
    Steady s (State.matrixEval s) := by
  unfold State.matrixEval
  refine Steady.ite ?_ ?_
  · exact Steady.refl _
  · extract_lets +onlyGivenNames -merge -underBinder x1
    extract_lets +onlyGivenNames -merge -underBinder x2
    extract_lets +onlyGivenNames -merge -underBinder x3
    extract_lets +onlyGivenNames -merge -underBinder x4
    extract_lets +onlyGivenNames -merge -underBinder x5 x6
    have hx6 : Steady s x6 := by
      unfold x6
      refine Steady.upd ?_ rfl rfl rfl rfl rfl rfl rfl rfl
      exact Steady.refl _
    extract_lets +onlyGivenNames -merge -underBinder x7 x8 x9 x10 x11
    have hx7 : Steady s x7 := by
      unfold x7
      refine Steady.trans ?_ (State.wrn_calm ..).steady
      exact hx6
    have hx8 : Steady s x8 := by
      unfold x8
      refine Steady.trans ?_ (State.wrn_calm ..).steady
      exact hx7
    have hx9 : Steady s x9 := by
      unfold x9
      refine Steady.ite ?_ ?_
      · refine Steady.trans ?_ (State.flag_calm ..).steady
        exact hx8
      · exact hx8
    have hx10 : Steady s x10 := by
      unfold x10
      refine Steady.ite ?_ ?_
      · refine Steady.trans ?_ (State.flag_calm ..).steady
        exact hx9
      · exact hx9
    have hx11 : Steady s x11 := by
      unfold x11
      refine Steady.ite ?_ ?_
      · exact hx6
      · refine Steady.ite ?_ ?_
        · exact hx10
        · refine Steady.trans ?_ (State.flag_calm ..).steady
          exact hx10
    extract_lets +onlyGivenNames -merge -underBinder x12
    have hx12 : Steady s x12 := by
      unfold x12
      refine Steady.ite ?_ ?_
      · refine Steady.trans ?_ (State.flag_calm ..).steady
        exact hx11
      · exact hx11
    refine Steady.foldl ?_ (fun t13 a14 h15 => ?_)
    · exact hx12
    · refine Steady.trans ?_ (State.groupStep_steady ..)
      exact h15

theorem State.protEval_steady (s : State) :
    Steady s (State.protEval s) := by
  unfold State.protEval
  refine Steady.trans ?_ (State.loopEval_steady ..)
  refine Steady.trans ?_ (State.matrixEval_steady ..)
  refine Steady.trans ?_ (State.loopEval_steady ..)
  exact (State.matrixEval_steady ..)

theorem State.setSource_steady (s : State) (n : Nat) (b : Bool) :
    Steady s (State.setSource s n b) := by
  unfold State.setSource
  extract_lets +onlyGivenNames -merge -underBinder x1
  refine Steady.ite ?_ ?_
  · exact Steady.refl _
  · refine Steady.trans ?_ (State.protEval_steady ..)
    refine Steady.upd ?_ rfl rfl rfl rfl rfl rfl rfl rfl
    exact Steady.refl _

theorem State.setChanLim_calm (s : State) (c : Nat) (v : ChanLim) :
    Calm s (State.setChanLim s c v) := by
  unfold State.setChanLim
  refine Calm.upd ?_ rfl rfl rfl rfl rfl rfl rfl rfl
  exact Calm.refl _

theorem State.cellSources_steady (s : State) :
    Steady s (State.cellSources s) := by
  unfold State.cellSources
  extract_lets +onlyGivenNames -merge -underBinder x1
  extract_lets +onlyGivenNames -merge -underBinder x2
  refine Steady.ite ?_ ?_
  · exact Steady.refl _
  · refine Steady.trans ?_ (State.protEval_steady ..)
    refine Steady.upd ?_ rfl rfl rfl rfl rfl rfl rfl rfl
    exact Steady.refl _

theorem State.limitCompare_steady (s : State) (c : Nat) (code : Nat) (tick : Nat) :
    Steady s (State.limitCompare s c code tick) := by
  unfold State.limitCompare
  refine Steady.ite ?_ ?_
  · exact Steady.refl _
  · refine Steady.ite ?_ ?_
    · exact (State.setChanLim_calm ..).steady
    · extract_lets +onlyGivenNames -merge -underBinder x1
      extract_lets +onlyGivenNames -merge -underBinder x2
      extract_lets +onlyGivenNames -merge -underBinder x3
      extract_lets +onlyGivenNames -merge -underBinder x4
      extract_lets +onlyGivenNames -merge -underBinder x5 x6
      refine Steady.trans ?_ (State.cellSources_steady ..)
      exact (State.setChanLim_calm ..).steady

theorem State.limitTemp_steady (s : State) (c : Nat) (t : Int) :
    Steady s (State.limitTemp s c t) := by
  unfold State.limitTemp
  refine Steady.ite ?_ ?_
  · exact Steady.refl _
  · extract_lets +onlyGivenNames -merge -underBinder x1
    extract_lets +onlyGivenNames -merge -underBinder x2
    extract_lets +onlyGivenNames -merge -underBinder x3
    extract_lets +onlyGivenNames -merge -underBinder x4
    extract_lets +onlyGivenNames -merge -underBinder x5 x6
    refine Steady.trans ?_ (State.cellSources_steady ..)
    exact (State.setChanLim_calm ..).steady

theorem State.absentClear_steady (s : State) (n : Fin 16) :
    Steady s (State.absentClear s n) := by
  unfold State.absentClear
  extract_lets +onlyGivenNames -merge -underBinder x1 x2
  have hx2 : Steady s x2 := by
    unfold x2
    refine Steady.upd ?_ rfl rfl rfl rfl rfl rfl rfl rfl
    exact Steady.refl _
  refine Steady.trans ?_ (State.cellSources_steady ..)
  exact hx2

theorem State.limRewrite_calm (s : State) :
    Calm s (State.limRewrite s) := by
  unfold State.limRewrite
  refine Calm.upd ?_ rfl rfl rfl rfl rfl rfl rfl rfl
  exact Calm.refl _

theorem State.setComparator_calm (s : State) (k : Nat) (v : Comparator) :
    Calm s (State.setComparator s k v) := by
  unfold State.setComparator
  refine Calm.upd ?_ rfl rfl rfl rfl rfl rfl rfl rfl
  exact Calm.refl _

theorem State.ocSources_steady (s : State) :
    Steady s (State.ocSources s) := by
  unfold State.ocSources
  extract_lets +onlyGivenNames -merge -underBinder x1
  extract_lets +onlyGivenNames -merge -underBinder x2
  refine Steady.ite ?_ ?_
  · exact Steady.refl _
  · refine Steady.trans ?_ (State.protEval_steady ..)
    refine Steady.upd ?_ rfl rfl rfl rfl rfl rfl rfl rfl
    exact Steady.refl _

theorem State.fastCompare_steady (s : State) (k : Nat) (x : Int) :
    Steady s (State.fastCompare s k x) := by
  unfold State.fastCompare
  refine Steady.ite ?_ ?_
  · exact Steady.refl _
  · refine Steady.trans ?_ (State.ocSources_steady ..)
    exact (State.setComparator_calm ..).steady

theorem State.slowCompare_steady (s : State) (k : Nat) (i : Rat) :
    Steady s (State.slowCompare s k i) := by
  unfold State.slowCompare
  refine Steady.ite ?_ ?_
  · exact Steady.refl _
  · extract_lets +onlyGivenNames -merge -underBinder x1
    extract_lets +onlyGivenNames -merge -underBinder x2
    refine Steady.trans ?_ (State.ocSources_steady ..)
    exact (State.setComparator_calm ..).steady

theorem State.restartComparators_steady (s : State) :
    Steady s (State.restartComparators s) := by
  unfold State.restartComparators
  refine Steady.trans ?_ (State.ocSources_steady ..)
  refine Steady.upd ?_ rfl rfl rfl rfl rfl rfl rfl rfl
  exact Steady.refl _

theorem State.showLimits_calm (s : State) :
    Calm s (State.showLimits s) := by
  unfold State.showLimits
  extract_lets +onlyGivenNames -merge -underBinder x1
  have hx1 : Calm s x1 := by
    unfold x1
    refine Calm.trans ?_ (State.wrn_calm ..)
    refine Calm.trans ?_ (State.wrn_calm ..)
    exact (State.wrn_calm ..)
  extract_lets +onlyGivenNames -merge -underBinder x2
  have hx2 : Calm s x2 := by
    unfold x2
    refine Calm.trans ?_ (State.wrn_calm ..)
    refine Calm.trans ?_ (State.wrn_calm ..)
    exact hx1
  refine Calm.trans ?_ (State.wrn_calm ..)
  refine Calm.trans ?_ (State.wrn_calm ..)
  exact hx2

theorem State.limitChange_steady (s : State) (m : List Byte) :
    Steady s (State.limitChange s m) := by
  unfold State.limitChange
  extract_lets +onlyGivenNames -merge -underBinder x1
  extract_lets +onlyGivenNames -merge -underBinder x2
  split
  · extract_lets +onlyGivenNames -merge -underBinder x3
    extract_lets +onlyGivenNames -merge -underBinder x4 x5 x6
    have hx6 : Steady s x6 := by
      unfold x6
      refine Steady.upd ?_ rfl rfl rfl rfl rfl rfl rfl rfl
      exact Steady.refl _
    extract_lets +onlyGivenNames -merge -underBinder x7
    have hx7 : Steady s x7 := by
      unfold x7
      refine Steady.trans ?_ (State.flag_calm ..).steady
      refine Steady.trans ?_ (State.showLimits_calm ..).steady
      exact hx6
    extract_lets +onlyGivenNames -merge -underBinder x8
    have hx8 : Steady s x8 := by
      unfold x8
      refine Steady.trans ?_ (State.record_calm ..).steady
      exact hx7
    refine Steady.trans ?_ (State.protEval_steady ..)
    exact hx8

theorem State.adoptLimits_steady (s : State) :
    Steady s (State.adoptLimits s) := by
  unfold State.adoptLimits
  extract_lets +onlyGivenNames -merge -underBinder x1
  refine Steady.ite ?_ ?_
  · exact Steady.refl _
  · extract_lets +onlyGivenNames -merge -underBinder x2
    extract_lets +onlyGivenNames -merge -underBinder x3
    extract_lets +onlyGivenNames -merge -underBinder x4
    extract_lets +onlyGivenNames -merge -underBinder x5
    extract_lets +onlyGivenNames -merge -underBinder x6
    extract_lets +onlyGivenNames -merge -underBinder x7 x8 x9
    have hx9 : Steady s x9 := by
      unfold x9
      refine Steady.upd ?_ rfl rfl rfl rfl rfl rfl rfl rfl
      exact Steady.refl _
    extract_lets +onlyGivenNames -merge -underBinder x10
    have hx10 : Steady s x10 := by
      unfold x10
      refine Steady.trans ?_ (State.record_calm ..).steady
      refine Steady.trans ?_ (State.showLimits_calm ..).steady
      exact hx9
    refine Steady.trans ?_ (State.protEval_steady ..)
    exact hx10

theorem State.release_keeps (s : State) (mech : Nat) (n : Nat) :
    Keeps s (State.release s mech n).2 := by
  unfold State.release
  split
  · refine Keeps.pair ?_
    exact Keeps.refl _
  · split
    · refine Keeps.pair ?_
      exact Keeps.refl _
    · split
      · refine Keeps.pair ?_
        exact Keeps.refl _
      · refine Keeps.pair ?_
        exact (State.setGroup_keeps ..)

theorem State.release_steady (s : State) (mech : Nat) (n : Nat) : Steady s (s.release mech n).2 := by
  unfold State.release
  split
  · exact Steady.refl s
  · split
    · exact Steady.refl s
    · split
      · exact Steady.refl s
      · rename_i h
        refine s.setGroup_serving n _ (State.mayKeep_serves ?_)
        simp only [Bool.or_eq_true, Bool.not_eq_eq_eq_not, Bool.not_true, not_or, Bool.not_eq_false] at h
        exact h.1.1

theorem State.releases_steady (s : State) (mech : Nat) (mask : Nat) :
    Steady s (State.releases s mech mask).2 := by
  unfold State.releases
  refine Steady.foldlSnd ?_ (fun t1 a2 h3 => ?_)
  · refine Steady.pair ?_
    exact Steady.refl _
  · split
    · split
      rename_i y4 y5 e6
      have hy5 : Steady s y5 := by
        refine Steady.snd e6 ?_
        refine Steady.trans ?_ (State.release_steady ..)
        exact h3
      split
      · refine Steady.pair ?_
        refine Steady.trans ?_ (State.flag_calm ..).steady
        refine Steady.trans ?_ (State.inc_calm ..).steady
        exact hy5
      · refine Steady.pair ?_
        exact hy5
    · exact h3

theorem State.tripCmdEffect_steady (s : State) (v : Nat) :
    Steady s (State.tripCmdEffect s v) := by
  unfold State.tripCmdEffect
  extract_lets +onlyGivenNames -merge -underBinder x1
  have hx1 : Steady s x1 := by
    unfold x1
    refine Steady.ite ?_ ?_
    · refine Steady.trans ?_ (State.protEval_steady ..)
      exact (State.setManual_calm ..).steady
    · refine Steady.ite ?_ ?_
      · refine Steady.trans ?_ (State.protEval_steady ..)
        exact (State.setManual_calm ..).steady
      · exact Steady.refl _
  refine Steady.ite ?_ ?_
  · exact hx1
  · refine Steady.trans ?_ (State.releases_steady ..)
    exact hx1

theorem State.adoptPeerTrips_keeps (s : State) :
    Keeps s (State.adoptPeerTrips s) := by
  unfold State.adoptPeerTrips
  refine Keeps.ite ?_ ?_
  · refine Keeps.foldl ?_ (fun t1 a2 h3 => ?_)
    · exact Keeps.refl _
    · refine Keeps.ite ?_ ?_
      · refine Keeps.trans ?_ (State.setGroup_keeps ..)
        exact h3
      · exact h3
  · exact Keeps.refl _

theorem State.adoptPeerTrips_steady (s : State) : Steady s s.adoptPeerTrips := by
  unfold State.adoptPeerTrips
  split
  · rename_i h
    have m := State.mayKeep_serves (by simp only [Bool.and_eq_true] at h; exact h.1.1)
    refine (foldl_ind (fun t => Steady s t ∧ t.sys.mode = s.sys.mode) ⟨Steady.refl s, rfl⟩ (fun t n k => ?_)).1
    split
    · exact ⟨k.1.trans (t.setGroup_serving n _ (k.2 ▸ m)), k.2⟩
    · exact k
  · exact Steady.refl s

theorem execTripRelease_calm (dt : Nat) (groups : BitVec 4) (s : State) :
    Ends Calm s (execTripRelease dt groups s) := by
  unfold execTripRelease
  refine Ends.next ?_
  refine Calm.hostDo ?_ (fun t1 h2 => ?_)
  · exact (State.elapse_calm ..)
  · refine Calm.trans ?_ (State.hostEvent_calm ..)
    exact h2

theorem execManSet_calm (dt : Nat) (s : State) :
    Ends Calm s (execManSet dt s) := by
  unfold execManSet
  refine Ends.next ?_
  refine Calm.hostDo ?_ (fun t1 h2 => ?_)
  · exact (State.elapse_calm ..)
  · refine Calm.trans ?_ (State.hostEvent_calm ..)
    exact h2

theorem execManClr_calm (dt : Nat) (s : State) :
    Ends Calm s (execManClr dt s) := by
  unfold execManClr
  refine Ends.next ?_
  refine Calm.hostDo ?_ (fun t1 h2 => ?_)
  · exact (State.elapse_calm ..)
  · refine Calm.trans ?_ (State.hostEvent_calm ..)
    exact h2

theorem execLimitTableWrite_calm (dt : Nat) (_off : Nat) (_bytes : List Byte) (s : State) :
    Ends Calm s (execLimitTableWrite dt _off _bytes s) := by
  unfold execLimitTableWrite
  refine Ends.next ?_
  refine Calm.hostDo ?_ (fun t1 h2 => ?_)
  · exact (State.elapse_calm ..)
  · refine Calm.trans ?_ (State.inc_calm ..)
    exact h2

end Sys2Proof.Machine
end

