-- ==== Sys2Proof/Laws/Witness.lean ====
section
/-! SUPPORT. What the operations of Machine/Witness.lean leave alone (Laws/Keeps.lean). -/

namespace Sys2Proof.Machine

open Sys2Proof

theorem State.setWitPair_calm (s : State) (p : Nat) (v : WitPair) :
    Calm s (State.setWitPair s p v) := by
  unfold State.setWitPair
  refine Calm.upd ?_ rfl rfl rfl rfl rfl rfl rfl rfl
  exact Calm.refl _

theorem State.witAnswer_calm (s : State) (kind : Nat) (p : Nat) (pos : Nat) (term : Nat) :
    Calm s (State.witAnswer s kind p pos term).2.2 := by
  unfold State.witAnswer
  extract_lets +onlyGivenNames -merge -underBinder x1
  extract_lets +onlyGivenNames -merge -underBinder x2
  extract_lets +onlyGivenNames -merge -underBinder x3
  split
  · refine Calm.pairIn ?_
    refine Calm.pair ?_
    exact Calm.refl _
  · split
    · refine Calm.pairIn ?_
      refine Calm.pair ?_
      exact Calm.refl _
    · split
      · split
        · refine Calm.pairIn ?_
          refine Calm.pair ?_
          exact (State.setWitPair_calm ..)
        · refine Calm.pairIn ?_
          refine Calm.pair ?_
          exact Calm.refl _
      · split
        · refine Calm.pairIn ?_
          refine Calm.pair ?_
          unfold x3
          exact (State.setWitPair_calm ..)
        · split
          · refine Calm.pairIn ?_
            refine Calm.pair ?_
            exact Calm.refl _
          · split
            · refine Calm.pairIn ?_
              refine Calm.pair ?_
              exact Calm.refl _
            · split
              · refine Calm.pairIn ?_
                refine Calm.pair ?_
                exact Calm.refl _
              · extract_lets +onlyGivenNames -merge -underBinder x4
                have hx4 : Calm s x4 := by
                  unfold x4
                  unfold x3
                  exact (State.setWitPair_calm ..)
                refine Calm.pairIn ?_
                refine Calm.pair ?_
                refine Calm.ite ?_ ?_
                · exact hx4
                · refine Calm.trans ?_ (State.flag_calm ..)
                  refine Calm.trans ?_ (State.inc_calm ..)
                  exact hx4

theorem State.witRequest_calm (s : State) (kind : Nat) (m : List Byte) (src : NetSource) :
    Calm s (State.witRequest s kind m src) := by
  unfold State.witRequest
  refine Calm.ite ?_ ?_
  · exact Calm.refl _
  · refine Calm.ite ?_ ?_
    · refine Calm.trans ?_ (State.flag_calm ..)
      exact (State.inc_calm ..)
    · split
      · extract_lets +onlyGivenNames -merge -underBinder x1
        extract_lets +onlyGivenNames -merge -underBinder x2
        extract_lets +onlyGivenNames -merge -underBinder x3
        extract_lets +onlyGivenNames -merge -underBinder x4
        have hx4 : Calm s x4 := by
          unfold x4
          exact (State.setWitPair_calm ..)
        split
        rename_i y5 y6 y7 e8
        have hy7 : Calm s y7 := by
          refine Calm.thd e8 ?_
          refine Calm.trans ?_ (State.witAnswer_calm ..)
          exact hx4
        extract_lets +onlyGivenNames -merge -underBinder x9
        have hx9 : Calm s x9 := by
          unfold x9
          refine Calm.ite ?_ ?_
          · refine Calm.trans ?_ (State.flag_calm ..)
            refine Calm.trans ?_ (State.inc_calm ..)
            exact hy7
          · exact hy7
        extract_lets +onlyGivenNames -merge -underBinder x10
        refine Calm.trans ?_ (State.sendNet_calm ..)
        exact hx9
      · exact Calm.refl _

theorem execWitnessProbe_calm (dt : Nat) (bytes : List Byte) (src : NetSource) (s : State) :
    Ends Calm s (execWitnessProbe dt bytes src s) := by
  unfold execWitnessProbe
  refine Ends.next ?_
  refine Calm.trans ?_ (State.witRequest_calm ..)
  exact (State.elapse_calm ..)

theorem execWitnessRenew_calm (dt : Nat) (bytes : List Byte) (src : NetSource) (s : State) :
    Ends Calm s (execWitnessRenew dt bytes src s) := by
  unfold execWitnessRenew
  refine Ends.next ?_
  refine Calm.trans ?_ (State.witRequest_calm ..)
  exact (State.elapse_calm ..)

theorem execWitnessAcquire_calm (dt : Nat) (bytes : List Byte) (src : NetSource) (s : State) :
    Ends Calm s (execWitnessAcquire dt bytes src s) := by
  unfold execWitnessAcquire
  refine Ends.next ?_
  refine Calm.trans ?_ (State.witRequest_calm ..)
  exact (State.elapse_calm ..)

theorem execWitnessYield_calm (dt : Nat) (bytes : List Byte) (src : NetSource) (s : State) :
    Ends Calm s (execWitnessYield dt bytes src s) := by
  unfold execWitnessYield
  refine Ends.next ?_
  refine Calm.trans ?_ (State.witRequest_calm ..)
  exact (State.elapse_calm ..)

theorem execWitnessQuietEnd_calm (dt : Nat) (s : State) :
    Ends Calm s (execWitnessQuietEnd dt s) := by
  unfold execWitnessQuietEnd
  extract_lets +onlyGivenNames -merge -underBinder x1
  have hx1 : Calm s x1 := by
    unfold x1
    exact (State.elapse_calm ..)
  refine Ends.ite ?_ ?_
  · refine Ends.next ?_
    refine Calm.upd ?_ rfl rfl rfl rfl rfl rfl rfl rfl
    exact hx1
  · refine Ends.next ?_
    exact hx1

theorem State.setTdm_calm (s : State) (f : TdmSt → TdmSt) :
    Calm s (State.setTdm s f) := by
  unfold State.setTdm
  refine Calm.upd ?_ rfl rfl rfl rfl rfl rfl rfl rfl
  exact Calm.refl _

theorem State.askWitness_calm (s : State) (entry : Nat) (kind : Nat) (term : Nat) :
    Calm s (State.askWitness s entry kind term) := by
  unfold State.askWitness
  split
  · exact Calm.refl _
  · refine Calm.ite ?_ ?_
    · exact Calm.refl _
    · extract_lets +onlyGivenNames -merge -underBinder x1
      extract_lets +onlyGivenNames -merge -underBinder x2
      have hx2 : Calm s x2 := by
        unfold x2
        exact (State.setTdm_calm ..)
      refine Calm.trans ?_ (State.sendNet_calm ..)
      exact hx2

theorem State.acquire_calm (s : State) :
    Calm s (State.acquire s) := by
  unfold State.acquire
  refine Calm.ite ?_ ?_
  · exact Calm.refl _
  · exact (State.askWitness_calm ..)

theorem State.doubleFault_calm (s : State) (reason : Nat) :
    Calm s (State.doubleFault s reason) := by
  unfold State.doubleFault
  refine Calm.ite ?_ ?_
  · extract_lets +onlyGivenNames -merge -underBinder x1
    have hx1 : Calm s x1 := by
      unfold x1
      refine Calm.trans ?_ (State.flag_calm ..)
      exact (State.setTdm_calm ..)
    refine Calm.trans ?_ (State.record_calm ..)
    exact hx1
  · exact Calm.refl _

theorem execRenewTimer_calm (dt : Nat) (s : State) :
    Ends Calm s (execRenewTimer dt s) := by
  unfold execRenewTimer
  extract_lets +onlyGivenNames -merge -underBinder x1
  have hx1 : Calm s x1 := by
    unfold x1
    exact (State.elapse_calm ..)
  refine Ends.ite ?_ ?_
  · refine Ends.next ?_
    refine Calm.trans ?_ (State.askWitness_calm ..)
    refine Calm.trans ?_ (State.setTdm_calm ..)
    exact hx1
  · refine Ends.next ?_
    exact hx1

theorem State.probeAll_calm (s : State) :
    Calm s (State.probeAll s) := by
  unfold State.probeAll
  refine Calm.ite ?_ ?_
  · extract_lets +onlyGivenNames -merge -underBinder x1
    have hx1 : Calm s x1 := by
      unfold x1
      exact (State.setTdm_calm ..)
    refine Calm.foldl ?_ (fun t2 a3 h4 => ?_)
    · exact hx1
    · refine Calm.trans ?_ (State.askWitness_calm ..)
      exact h4
  · exact Calm.refl _

theorem State.probeInForce_calm (s : State) :
    Calm s (State.probeInForce s) := by
  unfold State.probeInForce
  refine Calm.ite ?_ ?_
  · extract_lets +onlyGivenNames -merge -underBinder x1
    extract_lets +onlyGivenNames -merge -underBinder x2
    have hx2 : Calm s x2 := by
      unfold x2
      exact (State.setTdm_calm ..)
    refine Calm.trans ?_ (State.askWitness_calm ..)
    exact hx2
  · exact Calm.refl _

theorem execProbeTimer_calm (dt : Nat) (s : State) :
    Ends Calm s (execProbeTimer dt s) := by
  unfold execProbeTimer
  extract_lets +onlyGivenNames -merge -underBinder x1
  have hx1 : Calm s x1 := by
    unfold x1
    exact (State.elapse_calm ..)
  refine Ends.ite ?_ ?_
  · refine Ends.next ?_
    refine Calm.trans ?_ (State.probeAll_calm ..)
    refine Calm.trans ?_ (State.probeInForce_calm ..)
    exact hx1
  · refine Ends.next ?_
    exact hx1

theorem State.closeReply_calm (s : State) (entry : Nat) (m : List Byte) :
    Calm s (State.closeReply s entry m) := by
  unfold State.closeReply
  extract_lets +onlyGivenNames -merge -underBinder x1
  exact (State.setTdm_calm ..)

theorem State.useWitness_calm (s : State) (i : Nat) :
    Calm s (State.useWitness s i) := by
  unfold State.useWitness
  refine Calm.ite ?_ ?_
  · exact Calm.refl _
  · extract_lets +onlyGivenNames -merge -underBinder x1
    have hx1 : Calm s x1 := by
      unfold x1
      exact (State.setTdm_calm ..)
    refine Calm.ite ?_ ?_
    · refine Calm.trans ?_ (State.acquire_calm ..)
      exact hx1
    · exact hx1

theorem State.proposeWitness_calm (s : State) (i : Nat) :
    Calm s (State.proposeWitness s i) := by
  unfold State.proposeWitness
  refine Calm.ite ?_ ?_
  · exact Calm.refl _
  · extract_lets +onlyGivenNames -merge -underBinder x1
    have hx1 : Calm s x1 := by
      unfold x1
      exact (State.setTdm_calm ..)
    extract_lets +onlyGivenNames -merge -underBinder x2
    have hx2 : Calm s x2 := by
      unfold x2
      refine Calm.trans ?_ (State.mirrorItem_calm ..)
      exact hx1
    refine Calm.ite ?_ ?_
    · refine Calm.trans ?_ (State.useWitness_calm ..)
      exact hx2
    · exact hx2

theorem State.takeProposal_calm (s : State) (i : Nat) :
    Calm s (State.takeProposal s i) := by
  unfold State.takeProposal
  extract_lets +onlyGivenNames -merge -underBinder x1
  refine Calm.ite ?_ ?_
  · exact Calm.refl _
  · exact (State.setTdm_calm ..)

theorem execWitnessLost_calm (dt : Nat) (s : State) :
    Ends Calm s (execWitnessLost dt s) := by
  unfold execWitnessLost
  extract_lets +onlyGivenNames -merge -underBinder x1
  have hx1 : Calm s x1 := by
    unfold x1
    exact (State.elapse_calm ..)
  extract_lets +onlyGivenNames -merge -underBinder x2
  refine Ends.ite ?_ ?_
  · extract_lets +onlyGivenNames -merge -underBinder x3
    extract_lets +onlyGivenNames -merge -underBinder x4
    have hx4 : Calm s x4 := by
      unfold x4
      refine Calm.trans ?_ (State.flag_calm ..)
      refine Calm.trans ?_ (State.setTdm_calm ..)
      exact hx1
    refine Ends.ite ?_ ?_
    · refine Ends.next ?_
      refine Calm.trans ?_ (State.proposeWitness_calm ..)
      exact hx4
    · refine Ends.next ?_
      refine Calm.trans ?_ (State.doubleFault_calm ..)
      exact hx4
  · refine Ends.next ?_
    exact hx1

theorem execWitnessReturn_calm (dt : Nat) (entry : Fin 4) (s : State) :
    Ends Calm s (execWitnessReturn dt entry s) := by
  unfold execWitnessReturn
  extract_lets +onlyGivenNames -merge -underBinder x1
  have hx1 : Calm s x1 := by
    unfold x1
    exact (State.elapse_calm ..)
  refine Ends.ite ?_ ?_
  · refine Ends.next ?_
    refine Calm.trans ?_ (State.proposeWitness_calm ..)
    exact hx1
  · refine Ends.next ?_
    exact hx1

theorem execLeaseViewExpiry_calm (dt : Nat) (s : State) :
    Ends Calm s (execLeaseViewExpiry dt s) := by
  unfold execLeaseViewExpiry
  extract_lets +onlyGivenNames -merge -underBinder x1
  have hx1 : Calm s x1 := by
    unfold x1
    exact (State.elapse_calm ..)
  refine Ends.ite ?_ ?_
  · refine Ends.next ?_
    refine Calm.trans ?_ (State.setTdm_calm ..)
    exact hx1
  · refine Ends.next ?_
    exact hx1

theorem execBackoffExpiry_calm (dt : Nat) (s : State) :
    Ends Calm s (execBackoffExpiry dt s) := by
  unfold execBackoffExpiry
  extract_lets +onlyGivenNames -merge -underBinder x1
  have hx1 : Calm s x1 := by
    unfold x1
    exact (State.elapse_calm ..)
  refine Ends.ite ?_ ?_
  · extract_lets +onlyGivenNames -merge -underBinder x2
    have hx2 : Calm s x2 := by
      unfold x2
      refine Calm.trans ?_ (State.setTdm_calm ..)
      exact hx1
    refine Ends.next ?_
    refine Calm.ite ?_ ?_
    · refine Calm.trans ?_ (State.acquire_calm ..)
      exact hx2
    · exact hx2
  · refine Ends.next ?_
    exact hx1

theorem State.witnessState_calm (s : State) (bytes : List Byte) :
    Calm s (State.witnessState s bytes) := by
  unfold State.witnessState
  split
  · extract_lets +onlyGivenNames -merge -underBinder x1
    have hx1 : Calm s x1 := by
      unfold x1
      exact (State.closeReply_calm ..)
    extract_lets +onlyGivenNames -merge -underBinder x2
    refine Calm.ite ?_ ?_
    · refine Calm.trans ?_ (State.acquire_calm ..)
      exact hx1
    · exact hx1
  · exact Calm.refl _

theorem execWitnessState_calm (dt : Nat) (bytes : List Byte) (s : State) :
    Ends Calm s (execWitnessState dt bytes s) := by
  unfold execWitnessState
  refine Ends.next ?_
  refine Calm.trans ?_ (State.witnessState_calm ..)
  exact (State.elapse_calm ..)

end Sys2Proof.Machine
end

