-- ==== Sys2Proof/Laws/Frames.lean ====
section
/-! SUPPORT. What the operations of Machine/Frames.lean leave alone (Laws/Keeps.lean). -/

namespace Sys2Proof.Machine

open Sys2Proof

theorem State.setLink_calm (s : State) (l : Nat) (v : LinkSt) :
    Calm s (State.setLink s l v) := by
  unfold State.setLink
  exact (State.setTdm_calm ..)

theorem State.takeFrame_calm (s : State) (type : Nat) (f : TandemHead) (payload : List Byte) :
    Calm s (State.takeFrame s type f payload).2 := by
  unfold State.takeFrame
  split
  · refine Calm.pair ?_
    exact Calm.refl _
  · split
    · refine Calm.pair ?_
      exact (State.inc_calm ..)
    · extract_lets +onlyGivenNames -merge -underBinder x1
      extract_lets +onlyGivenNames -merge -underBinder x2
      have hx2 : Calm s x2 := by
        unfold x2
        exact (State.setLink_calm ..)
      extract_lets +onlyGivenNames -merge -underBinder x3
      split
      · refine Calm.pair ?_
        exact hx2
      · extract_lets +onlyGivenNames -merge -underBinder x4
        refine Calm.pair ?_
        refine Calm.trans ?_ (State.setTdm_calm ..)
        exact hx2

end Sys2Proof.Machine
end

