-- ==== Sys2Proof/Laws/Sense.lean ====
section
/-! SUPPORT. What the operations of Machine/Sense.lean leave alone (Laws/Keeps.lean). -/

namespace Sys2Proof.Machine

open Sys2Proof

theorem State.setSring_calm (s : State) (n : Nat) (r : RingSns) :
    Calm s (State.setSring s n r) := by
  unfold State.setSring
  refine Calm.upd ?_ rfl rfl rfl rfl rfl rfl rfl rfl
  exact Calm.refl _

theorem State.setFe_calm (s : State) (n : Nat) (p : Nat) (v : FeSt) :
    Calm s (State.setFe s n p v) := by
  unfold State.setFe
  extract_lets +onlyGivenNames -merge -underBinder x1
  exact (State.setSring_calm ..)

theorem State.setFeState_calm (s : State) (n : Fin 16) (p : Nat) (v : Nat) :
    Calm s (State.setFeState s n p v) := by
  unfold State.setFeState
  exact (State.wrf_calm ..)

theorem State.setRingMode_calm (s : State) (n : Fin 16) (v : Nat) :
    Calm s (State.setRingMode s n v) := by
  unfold State.setRingMode
  exact (State.wrf_calm ..)

theorem State.verdictEvent_calm (s : State) (n : Fin 16) (p : Nat) (v : Nat) :
    Calm s (State.verdictEvent s n p v) := by
  unfold State.verdictEvent
  extract_lets +onlyGivenNames -merge -underBinder x1
  refine Calm.ite ?_ ?_
  · exact Calm.refl _
  · refine Calm.ite ?_ ?_
    · exact (State.acceptEvent_calm ..)
    · exact (State.acceptLocal_calm ..)

theorem State.verdictOf_calm (s : State) (n : Fin 16) (p : Nat) (passed : Bool) :
    Calm s (State.verdictOf s n p passed) := by
  unfold State.verdictOf
  extract_lets +onlyGivenNames -merge -underBinder x1
  extract_lets +onlyGivenNames -merge -underBinder x2
  extract_lets +onlyGivenNames -merge -underBinder x3
  extract_lets +onlyGivenNames -merge -underBinder x4
  extract_lets +onlyGivenNames -merge -underBinder x5
  extract_lets +onlyGivenNames -merge -underBinder x6
  extract_lets +onlyGivenNames -merge -underBinder x7
  extract_lets +onlyGivenNames -merge -underBinder x8
  refine Calm.ite ?_ ?_
  · extract_lets +onlyGivenNames -merge -underBinder x9
    have hx9 : Calm s x9 := by
      unfold x9
      exact (State.setFeState_calm ..)
    refine Calm.ite ?_ ?_
    · unfold x7
      refine Calm.trans ?_ (State.verdictEvent_calm ..)
      unfold x8
      refine Calm.trans ?_ (State.jrnPut_calm ..)
      refine Calm.trans ?_ (State.jrnPut_calm ..)
      exact hx9
    · unfold x7
      refine Calm.trans ?_ (State.verdictEvent_calm ..)
      unfold x6
      refine Calm.trans ?_ (State.record_calm ..)
      unfold x8
      refine Calm.trans ?_ (State.jrnPut_calm ..)
      refine Calm.trans ?_ (State.jrnPut_calm ..)
      refine Calm.trans ?_ (State.jrnPut_calm ..)
      exact hx9
  · extract_lets +onlyGivenNames -merge -underBinder x10
    have hx10 : Calm s x10 := by
      unfold x10
      exact (State.flag_calm ..)
    refine Calm.ite ?_ ?_
    · unfold x7
      refine Calm.trans ?_ (State.verdictEvent_calm ..)
      unfold x6
      refine Calm.trans ?_ (State.record_calm ..)
      refine Calm.trans ?_ (State.jrnPut_calm ..)
      refine Calm.trans ?_ (State.flag_calm ..)
      refine Calm.trans ?_ (State.setFeState_calm ..)
      exact hx10
    · unfold x7
      refine Calm.trans ?_ (State.verdictEvent_calm ..)
      unfold x6
      refine Calm.trans ?_ (State.record_calm ..)
      refine Calm.trans ?_ (State.jrnPut_calm ..)
      refine Calm.trans ?_ (State.setFeState_calm ..)
      exact hx10

theorem State.attemptEnds_calm (s : State) (n : Fin 16) (p : Nat) (ok : Bool) :
    Calm s (State.attemptEnds s n p ok) := by
  unfold State.attemptEnds
  extract_lets +onlyGivenNames -merge -underBinder x1
  refine Calm.ite ?_ ?_
  · extract_lets +onlyGivenNames -merge -underBinder x2 x3
    have hx3 : Calm s x3 := by
      unfold x3
      exact (State.setFe_calm ..)
    extract_lets +onlyGivenNames -merge -underBinder x4
    have hx4 : Calm s x4 := by
      unfold x4
      refine Calm.trans ?_ (State.wrf_calm ..)
      refine Calm.trans ?_ (State.wrf_calm ..)
      exact hx3
    refine Calm.trans ?_ (State.verdictOf_calm ..)
    exact hx4
  · extract_lets +onlyGivenNames -merge -underBinder x5
    extract_lets +onlyGivenNames -merge -underBinder x6 x7
    have hx7 : Calm s x7 := by
      unfold x7
      exact (State.setFe_calm ..)
    extract_lets +onlyGivenNames -merge -underBinder x8
    have hx8 : Calm s x8 := by
      unfold x8
      refine Calm.trans ?_ (State.wrf_calm ..)
      exact hx7
    refine Calm.ite ?_ ?_
    · extract_lets +onlyGivenNames -merge -underBinder x9
      have hx9 : Calm s x9 := by
        unfold x9
        refine Calm.trans ?_ (State.verdictOf_calm ..)
        exact hx8
      extract_lets +onlyGivenNames -merge -underBinder x10
      refine Calm.trans ?_ (State.setFe_calm ..)
      exact hx9
    · exact hx8

theorem State.sendVerdict_calm (s : State) (n : Fin 16) (p : Nat) (result : Nat) (attempt : Nat) (tick : Nat) (nonce
    : Nat) :
    Calm s (State.sendVerdict s n p result attempt tick nonce) := by
  unfold State.sendVerdict
  exact (State.sendFrame_calm ..)

theorem State.verifyResponse_calm (s : State) (n : Fin 16) (p : Nat) (c : List Byte) :
    Calm s (State.verifyResponse s n p c) := by
  unfold State.verifyResponse
  split
  · exact Calm.refl _
  · refine Calm.ite ?_ ?_
    · extract_lets +onlyGivenNames -merge -underBinder x1
      extract_lets +onlyGivenNames -merge -underBinder x2
      extract_lets +onlyGivenNames -merge -underBinder x3
      have hx3 : Calm s x3 := by
        unfold x3
        exact (State.sendVerdict_calm ..)
      refine Calm.trans ?_ (State.attemptEnds_calm ..)
      exact hx3
    · exact Calm.refl _

theorem State.wantChallenge_calm (s : State) (n : Fin 16) (p : Nat) :
    Calm s (State.wantChallenge s n p) := by
  unfold State.wantChallenge
  extract_lets +onlyGivenNames -merge -underBinder x1
  refine Calm.ite ?_ ?_
  · exact Calm.refl _
  · exact (State.setFe_calm ..)

theorem State.wantAll_calm (s : State) (n : Fin 16) :
    Calm s (State.wantAll s n) := by
  unfold State.wantAll
  refine Calm.foldl ?_ (fun t1 a2 h3 => ?_)
  · exact Calm.refl _
  · refine Calm.ite ?_ ?_
    · refine Calm.trans ?_ (State.wantChallenge_calm ..)
      exact h3
    · exact h3

theorem execChallengeDue_calm (dt : Nat) (ring : Fin 16) (pos : Fin 4) (s : State) :
    Ends Calm s (execChallengeDue dt ring pos s) := by
  unfold execChallengeDue
  extract_lets +onlyGivenNames -merge -underBinder x1
  have hx1 : Calm s x1 := by
    unfold x1
    exact (State.elapse_calm ..)
  extract_lets +onlyGivenNames -merge -underBinder x2
  extract_lets +onlyGivenNames -merge -underBinder x3
  extract_lets +onlyGivenNames -merge -underBinder x4
  extract_lets +onlyGivenNames -merge -underBinder x5
  refine Ends.ite ?_ ?_
  · refine Ends.next ?_
    refine Calm.trans ?_ (State.wantChallenge_calm ..)
    exact hx1
  · refine Ends.next ?_
    exact hx1

theorem execChallengeRetry_calm (dt : Nat) (ring : Fin 16) (pos : Fin 4) (s : State) :
    Ends Calm s (execChallengeRetry dt ring pos s) := by
  unfold execChallengeRetry
  extract_lets +onlyGivenNames -merge -underBinder x1
  have hx1 : Calm s x1 := by
    unfold x1
    exact (State.elapse_calm ..)
  extract_lets +onlyGivenNames -merge -underBinder x2
  refine Ends.ite ?_ ?_
  · refine Ends.next ?_
    refine Calm.trans ?_ (State.setFe_calm ..)
    exact hx1
  · refine Ends.next ?_
    exact hx1

theorem execChallengeAll_calm (dt : Nat) (ring : Fin 16) (s : State) :
    Ends Calm s (execChallengeAll dt ring s) := by
  unfold execChallengeAll
  refine Ends.next ?_
  refine Calm.hostDo ?_ (fun t1 h2 => ?_)
  · exact (State.elapse_calm ..)
  · refine Calm.trans ?_ (State.wantAll_calm ..)
    exact h2

theorem State.reenum_calm (s : State) (ring : Fin 16) :
    Calm s (State.reenum s ring) := by
  unfold State.reenum
  refine Calm.ite ?_ ?_
  · extract_lets +onlyGivenNames -merge -underBinder x1
    exact (State.setSring_calm ..)
  · exact Calm.refl _

theorem execReenum_calm (dt : Nat) (ring : Fin 16) (s : State) :
    Ends Calm s (execReenum dt ring s) := by
  unfold execReenum
  refine Ends.next ?_
  refine Calm.hostDo ?_ (fun t1 h2 => ?_)
  · exact (State.elapse_calm ..)
  · refine Calm.trans ?_ (State.reenum_calm ..)
    exact h2

theorem execVerdict_calm (dt : Nat) (f : TandemHead) (bytes : List Byte) (s : State) :
    Ends Calm s (execVerdict dt f bytes s) := by
  unfold execVerdict
  split
  rename_i y1 y2 e3
  have hy2 : Calm s y2 := by
    refine Calm.snd e3 ?_
    refine Calm.trans ?_ (State.takeFrame_calm ..)
    exact (State.elapse_calm ..)
  extract_lets +onlyGivenNames -merge -underBinder x4
  extract_lets +onlyGivenNames -merge -underBinder x5
  extract_lets +onlyGivenNames -merge -underBinder x6
  refine Ends.ite ?_ ?_
  · extract_lets +onlyGivenNames -merge -underBinder x7
    extract_lets +onlyGivenNames -merge -underBinder x8 x9
    have hx9 : Calm s x9 := by
      unfold x9
      refine Calm.trans ?_ (State.setFe_calm ..)
      exact hy2
    refine Ends.next ?_
    refine Calm.trans ?_ (State.attemptEnds_calm ..)
    exact hx9
  · refine Ends.next ?_
    exact hy2

theorem State.ringRecord_calm (s : State) (n : Fin 16) (event : Nat) (cause : Nat) (pos : Nat) :
    Calm s (State.ringRecord s n event cause pos) := by
  unfold State.ringRecord
  extract_lets +onlyGivenNames -merge -underBinder x1
  exact (State.record_calm ..)

theorem State.breakRing_calm (s : State) (n : Fin 16) (cause : Nat) (pos : Nat) :
    Calm s (State.breakRing s n cause pos) := by
  unfold State.breakRing
  extract_lets +onlyGivenNames -merge -underBinder x1
  refine Calm.ite ?_ ?_
  · exact Calm.refl _
  · extract_lets +onlyGivenNames -merge -underBinder x2
    have hx2 : Calm s x2 := by
      unfold x2
      exact (State.setSring_calm ..)
    extract_lets +onlyGivenNames -merge -underBinder x3
    have hx3 : Calm s x3 := by
      unfold x3
      refine Calm.trans ?_ (State.flag_calm ..)
      refine Calm.trans ?_ (State.inc_calm ..)
      exact hx2
    refine Calm.trans ?_ (State.wantAll_calm ..)
    refine Calm.trans ?_ (State.ringRecord_calm ..)
    exact hx3

theorem State.healRing_calm (s : State) (n : Fin 16) :
    Calm s (State.healRing s n) := by
  unfold State.healRing
  refine Calm.ite ?_ ?_
  · extract_lets +onlyGivenNames -merge -underBinder x1
    extract_lets +onlyGivenNames -merge -underBinder x2
    have hx2 : Calm s x2 := by
      unfold x2
      exact (State.setSring_calm ..)
    refine Calm.trans ?_ (State.wantAll_calm ..)
    refine Calm.trans ?_ (State.ringRecord_calm ..)
    refine Calm.trans ?_ (State.flag_calm ..)
    refine Calm.trans ?_ (State.setRingMode_calm ..)
    exact hx2
  · exact Calm.refl _

theorem execSymbolLockLoss_calm (dt : Nat) (ring : Fin 16) (s : State) :
    Ends Calm s (execSymbolLockLoss dt ring s) := by
  unfold execSymbolLockLoss
  extract_lets +onlyGivenNames -merge -underBinder x1
  have hx1 : Calm s x1 := by
    unfold x1
    exact (State.elapse_calm ..)
  refine Ends.ite ?_ ?_
  · refine Ends.next ?_
    refine Calm.trans ?_ (State.breakRing_calm ..)
    exact hx1
  · refine Ends.next ?_
    exact hx1

theorem execCommandCoachReceived_calm (dt : Nat) (ring : Fin 16) (lineOk : Bool) (bytes : List Byte) (s : State) :
    Ends Calm s (execCommandCoachReceived dt ring lineOk bytes s) := by
  unfold execCommandCoachReceived
  extract_lets +onlyGivenNames -merge -underBinder x1
  have hx1 : Calm s x1 := by
    unfold x1
    exact (State.elapse_calm ..)
  extract_lets +onlyGivenNames -merge -underBinder x2
  refine Ends.ite ?_ ?_
  · refine Ends.next ?_
    exact hx1
  · refine Ends.ite ?_ ?_
    · refine Ends.next ?_
      refine Calm.ite ?_ ?_
      · refine Calm.trans ?_ (State.inc_calm ..)
        exact hx1
      · exact hx1
    · extract_lets +onlyGivenNames -merge -underBinder x3
      extract_lets +onlyGivenNames -merge -underBinder x4
      extract_lets +onlyGivenNames -merge -underBinder x5
      extract_lets +onlyGivenNames -merge -underBinder x6
      have hx6 : Calm s x6 := by
        unfold x6
        refine Calm.trans ?_ (State.setSring_calm ..)
        exact hx1
      refine Ends.ite ?_ ?_
      · refine Ends.next ?_
        exact hx6
      · extract_lets +onlyGivenNames -merge -underBinder x7 x8 x9 x10 x11
        have hx11 : Calm s x11 := by
          unfold x11
          refine Calm.ite ?_ ?_
          · refine Calm.trans ?_ (State.setFe_calm ..)
            exact hx6
          · exact hx6
        extract_lets +onlyGivenNames -merge -underBinder x12
        have hx12 : Calm s x12 := by
          unfold x12
          refine Calm.ite ?_ ?_
          · refine Calm.trans ?_ (State.send_calm ..)
            exact hx11
          · exact hx11
        refine Ends.ite ?_ ?_
        · extract_lets +onlyGivenNames -merge -underBinder x13
          refine Ends.next ?_
          refine Calm.trans ?_ (State.healRing_calm ..)
          refine Calm.trans ?_ (State.setSring_calm ..)
          exact hx12
        · refine Ends.next ?_
          exact hx12

theorem execFarWaitExpiry_calm (dt : Nat) (ring : Fin 16) (s : State) :
    Ends Calm s (execFarWaitExpiry dt ring s) := by
  unfold execFarWaitExpiry
  extract_lets +onlyGivenNames -merge -underBinder x1
  have hx1 : Calm s x1 := by
    unfold x1
    exact (State.elapse_calm ..)
  extract_lets +onlyGivenNames -merge -underBinder x2
  refine Ends.ite ?_ ?_
  · refine Ends.next ?_
    exact hx1
  · extract_lets +onlyGivenNames -merge -underBinder x3
    refine Ends.ite ?_ ?_
    · refine Ends.ite ?_ ?_
      · refine Ends.next ?_
        exact hx1
      · refine Ends.next ?_
        refine Calm.trans ?_ (State.setSring_calm ..)
        exact hx1
    · refine Ends.ite ?_ ?_
      · refine Ends.next ?_
        refine Calm.trans ?_ (State.healRing_calm ..)
        exact hx1
      · refine Ends.next ?_
        exact hx1

theorem State.alertSource_steady (s : State) (n : Fin 16) :
    Steady s (State.alertSource s n) := by
  unfold State.alertSource
  exact (State.setSource_steady ..)

theorem State.balAlert_calm (s : State) (f : Nat) (on : Bool) :
    Calm s (State.balAlert s f on) := by
  unfold State.balAlert
  refine Calm.ite ?_ ?_
  · exact Calm.refl _
  · extract_lets +onlyGivenNames -merge -underBinder x1 x2
    have hx2 : Calm s x2 := by
      unfold x2
      refine Calm.upd ?_ rfl rfl rfl rfl rfl rfl rfl rfl
      exact Calm.refl _
    refine Calm.ite ?_ ?_
    · refine Calm.trans ?_ (State.flag_calm ..)
      refine Calm.trans ?_ (State.inc_calm ..)
      exact hx2
    · exact hx2

theorem State.setAlert_steady (s : State) (n : Fin 16) (p : Nat) (a : Nat) :
    Steady s (State.setAlert s n p a) := by
  unfold State.setAlert
  extract_lets +onlyGivenNames -merge -underBinder x1
  have hx1 : Steady s x1 := by
    unfold x1
    exact (State.balAlert_calm ..).steady
  extract_lets +onlyGivenNames -merge -underBinder x2 x3
  have hx3 : Steady s x3 := by
    unfold x3
    refine Steady.trans ?_ (State.setFe_calm ..).steady
    exact hx1
  refine Steady.trans ?_ (State.alertSource_steady ..)
  refine Steady.trans ?_ (State.wrb_calm ..).steady
  exact hx3

theorem State.compActs_steady (s : State) (n : Fin 16) (p : Nat) (tick : Nat) (c : List Byte) :
    Steady s (State.compActs s n p tick c) := by
  unfold State.compActs
  extract_lets +onlyGivenNames -merge -underBinder x1
  have hx1 : Steady s x1 := by
    unfold x1
    exact (State.setAlert_steady ..)
  refine Steady.foldl ?_ (fun t2 a3 h4 => ?_)
  · exact hx1
  · refine Steady.trans ?_ (State.limitCompare_steady ..)
    exact h4

theorem State.conflictAt_calm (s : State) (n : Fin 16) (p : Nat) :
    Calm s (State.conflictAt s n p) := by
  unfold State.conflictAt
  extract_lets +onlyGivenNames -merge -underBinder x1
  extract_lets +onlyGivenNames -merge -underBinder x2
  have hx2 : Calm s x2 := by
    unfold x2
    exact (State.setSring_calm ..)
  refine Calm.trans ?_ (State.inc_calm ..)
  refine Calm.trans ?_ (State.wrb_calm ..)
  exact hx2

theorem State.noteIdentity_calm (s : State) (n : Fin 16) (p : Nat) (id : Nat) :
    Calm s (State.noteIdentity s n p id) := by
  unfold State.noteIdentity
  extract_lets +onlyGivenNames -merge -underBinder x1
  extract_lets +onlyGivenNames -merge -underBinder x2
  have hx2 : Calm s x2 := by
    unfold x2
    exact (State.wr64_calm ..)
  extract_lets +onlyGivenNames -merge -underBinder x3
  extract_lets +onlyGivenNames -merge -underBinder x4
  extract_lets +onlyGivenNames -merge -underBinder x5
  refine Calm.ite ?_ ?_
  · unfold x5
    refine Calm.trans ?_ (State.setFe_calm ..)
    refine Calm.trans ?_ (State.wantChallenge_calm ..)
    refine Calm.trans ?_ (State.setFeState_calm ..)
    exact hx2
  · refine Calm.ite ?_ ?_
    · unfold x5
      refine Calm.trans ?_ (State.setFe_calm ..)
      refine Calm.trans ?_ (State.wantChallenge_calm ..)
      refine Calm.trans ?_ (State.flag_calm ..)
      refine Calm.ite ?_ ?_
      · exact hx2
      · refine Calm.trans ?_ (State.setFeState_calm ..)
        exact hx2
    · exact hx2

theorem State.holdComp_steady (s : State) (n : Fin 16) (p : Nat) (c : List Byte) (amt : Nat) (direct : Bool) :
    Steady s (State.holdComp s n p c amt direct) := by
  unfold State.holdComp
  extract_lets +onlyGivenNames -merge -underBinder x1
  split
  · refine Steady.ite ?_ ?_
    · exact Steady.refl _
    · exact (State.conflictAt_calm ..).steady
  · extract_lets +onlyGivenNames -merge -underBinder x2
    extract_lets +onlyGivenNames -merge -underBinder x3
    have hx3 : Steady s x3 := by
      unfold x3
      exact (State.setSring_calm ..).steady
    extract_lets +onlyGivenNames -merge -underBinder x4
    have hx4 : Steady s x4 := by
      unfold x4
      refine Steady.trans ?_ (State.noteIdentity_calm ..).steady
      exact hx3
    refine Steady.trans ?_ (State.compActs_steady ..)
    exact hx4

theorem State.reached_calm (s : State) (n : Fin 16) (endB : Bool) (p : Nat) :
    Calm s (State.reached s n endB p) := by
  unfold State.reached
  exact (State.wrb_calm ..)

theorem State.takeSlot_steady (s : State) (n : Fin 16) (p : Nat) (c : List Byte) :
    Steady s (State.takeSlot s n p c) := by
  unfold State.takeSlot
  refine Steady.ite ?_ ?_
  · exact Steady.refl _
  · refine Steady.ite ?_ ?_
    · extract_lets +onlyGivenNames -merge -underBinder x1
      refine Steady.ite ?_ ?_
      · exact (State.setSring_calm ..).steady
      · exact Steady.refl _
    · refine Steady.ite ?_ ?_
      · exact Steady.refl _
      · extract_lets +onlyGivenNames -merge -underBinder x2
        extract_lets +onlyGivenNames -merge -underBinder x3 x4
        have hx4 : Steady s x4 := by
          unfold x4
          exact (State.setSring_calm ..).steady
        extract_lets +onlyGivenNames -merge -underBinder x5
        have hx5 : Steady s x5 := by
          unfold x5
          refine Steady.trans ?_ (State.holdComp_steady ..)
          exact hx4
        extract_lets +onlyGivenNames -merge -underBinder x6
        have hx6 : Steady s x6 := by
          unfold x6
          refine Steady.ite ?_ ?_
          · exact hx5
          · refine Steady.trans ?_ (State.sendFrame_calm ..).steady
            exact hx5
        extract_lets +onlyGivenNames -merge -underBinder x7
        have hx7 : Steady s x7 := by
          unfold x7
          refine Steady.trans ?_ (State.reached_calm ..).steady
          exact hx6
        extract_lets +onlyGivenNames -merge -underBinder x8
        have hx8 : Steady s x8 := by
          unfold x8
          refine Steady.trans ?_ (State.verifyResponse_calm ..).steady
          exact hx7
        refine Steady.ite ?_ ?_
        · refine Steady.trans ?_ (State.breakRing_calm ..).steady
          exact hx8
        · exact hx8

theorem State.readHops_calm (s : State) (n : Fin 16) (hops : Nat) (counts : Bool) :
    Calm s (State.readHops s n hops counts) := by
  unfold State.readHops
  extract_lets +onlyGivenNames -merge -underBinder x1
  refine Calm.ite ?_ ?_
  · exact Calm.refl _
  · refine Calm.ite ?_ ?_
    · refine Calm.ite ?_ ?_
      · exact Calm.refl _
      · exact (State.setSring_calm ..)
    · refine Calm.ite ?_ ?_
      · extract_lets +onlyGivenNames -merge -underBinder x2
        extract_lets +onlyGivenNames -merge -underBinder x3
        extract_lets +onlyGivenNames -merge -underBinder x4
        extract_lets +onlyGivenNames -merge -underBinder x5
        have hx5 : Calm s x5 := by
          unfold x5
          exact (State.setSring_calm ..)
        refine Calm.ite ?_ ?_
        · refine Calm.trans ?_ (State.breakRing_calm ..)
          exact hx5
        · exact hx5
      · exact Calm.refl _

theorem execDataCoachReceived_steady (dt : Nat) (ring : Fin 16) (lineOk : Bool) (bytes : List Byte) (s : State) :
    Ends Steady s (execDataCoachReceived dt ring lineOk bytes s) := by
  unfold execDataCoachReceived
  extract_lets +onlyGivenNames -merge -underBinder x1
  have hx1 : Steady s x1 := by
    unfold x1
    exact (State.elapse_calm ..).steady
  refine Ends.ite ?_ ?_
  · refine Ends.next ?_
    exact hx1
  · extract_lets +onlyGivenNames -merge -underBinder x2
    extract_lets +onlyGivenNames -merge -underBinder x3
    refine Ends.ite ?_ ?_
    · refine Ends.next ?_
      refine Steady.trans ?_ (State.inc_calm ..).steady
      exact hx1
    · extract_lets +onlyGivenNames -merge -underBinder x4
      have hx4 : Steady s x4 := by
        unfold x4
        refine Steady.ite ?_ ?_
        · refine Steady.foldl ?_ (fun t5 a6 h7 => ?_)
          · exact hx1
          · refine Steady.trans ?_ (State.takeSlot_steady ..)
            exact h7
        · exact hx1
      refine Ends.next ?_
      refine Steady.trans ?_ (State.readHops_calm ..).steady
      exact hx4

theorem execRelayedCompartment_steady (dt : Nat) (f : TandemHead) (bytes : List Byte) (s : State) :
    Ends Steady s (execRelayedCompartment dt f bytes s) := by
  unfold execRelayedCompartment
  split
  rename_i y1 y2 e3
  have hy2 : Steady s y2 := by
    refine Steady.snd e3 ?_
    refine Steady.trans ?_ (State.takeFrame_calm ..).steady
    exact (State.elapse_calm ..).steady
  extract_lets +onlyGivenNames -merge -underBinder x4
  extract_lets +onlyGivenNames -merge -underBinder x5
  extract_lets +onlyGivenNames -merge -underBinder x6
  extract_lets +onlyGivenNames -merge -underBinder x7
  extract_lets +onlyGivenNames -merge -underBinder x8
  refine Ends.ite ?_ ?_
  · refine Ends.next ?_
    refine Steady.trans ?_ (State.reached_calm ..).steady
    refine Steady.trans ?_ (State.holdComp_steady ..)
    exact hy2
  · refine Ends.next ?_
    exact hy2

theorem execAlertCoachReceived_steady (dt : Nat) (ring : Fin 16) (lineOk : Bool) (bytes : List Byte) (s : State) :
    Ends Steady s (execAlertCoachReceived dt ring lineOk bytes s) := by
  unfold execAlertCoachReceived
  extract_lets +onlyGivenNames -merge -underBinder x1
  have hx1 : Steady s x1 := by
    unfold x1
    exact (State.elapse_calm ..).steady
  refine Ends.ite ?_ ?_
  · refine Ends.next ?_
    exact hx1
  · refine Ends.ite ?_ ?_
    · refine Ends.next ?_
      refine Steady.trans ?_ (State.inc_calm ..).steady
      exact hx1
    · refine Ends.ite ?_ ?_
      · extract_lets +onlyGivenNames -merge -underBinder x2
        extract_lets +onlyGivenNames -merge -underBinder x3
        have hx3 : Steady s x3 := by
          unfold x3
          refine Steady.trans ?_ (State.setAlert_steady ..)
          exact hx1
        refine Ends.next ?_
        refine Steady.trans ?_ (State.wayEntry_calm ..).steady
        exact hx3
      · refine Ends.next ?_
        exact hx1

theorem execRepeatCoachSend_calm (dt : Nat) (ring : Fin 16) (s : State) :
    Ends Calm s (execRepeatCoachSend dt ring s) := by
  unfold execRepeatCoachSend
  extract_lets +onlyGivenNames -merge -underBinder x1
  have hx1 : Calm s x1 := by
    unfold x1
    exact (State.elapse_calm ..)
  extract_lets +onlyGivenNames -merge -underBinder x2
  extract_lets +onlyGivenNames -merge -underBinder x3
  extract_lets +onlyGivenNames -merge -underBinder x4
  refine Ends.ite ?_ ?_
  · extract_lets +onlyGivenNames -merge -underBinder x5
    have hx5 : Calm s x5 := by
      unfold x5
      refine Calm.trans ?_ (State.setSring_calm ..)
      exact hx1
    extract_lets +onlyGivenNames -merge -underBinder x6
    have hx6 : Calm s x6 := by
      unfold x6
      refine Calm.trans ?_ (State.inc_calm ..)
      exact hx5
    refine Ends.next ?_
    refine Calm.trans ?_ (State.send_calm ..)
    exact hx6
  · refine Ends.next ?_
    exact hx1

theorem execEnumerationWaitExpiry_calm (dt : Nat) (ring : Fin 16) (s : State) :
    Ends Calm s (execEnumerationWaitExpiry dt ring s) := by
  unfold execEnumerationWaitExpiry
  extract_lets +onlyGivenNames -merge -underBinder x1
  have hx1 : Calm s x1 := by
    unfold x1
    exact (State.elapse_calm ..)
  extract_lets +onlyGivenNames -merge -underBinder x2
  refine Ends.ite ?_ ?_
  · refine Ends.next ?_
    refine Calm.trans ?_ (State.wrf_calm ..)
    refine Calm.trans ?_ (State.setSring_calm ..)
    exact hx1
  · refine Ends.next ?_
    exact hx1

theorem execFrontEndLost_steady (dt : Nat) (ring : Fin 16) (pos : Fin 4) (s : State) :
    Ends Steady s (execFrontEndLost dt ring pos s) := by
  unfold execFrontEndLost
  extract_lets +onlyGivenNames -merge -underBinder x1
  have hx1 : Steady s x1 := by
    unfold x1
    exact (State.elapse_calm ..).steady
  refine Ends.ite ?_ ?_
  · extract_lets +onlyGivenNames -merge -underBinder x2
    extract_lets +onlyGivenNames -merge -underBinder x3 x4
    have hx4 : Steady s x4 := by
      unfold x4
      refine Steady.trans ?_ (State.setFe_calm ..).steady
      exact hx1
    refine Ends.next ?_
    refine Steady.trans ?_ (State.setSource_steady ..)
    refine Steady.trans ?_ (State.flag_calm ..).steady
    refine Steady.trans ?_ (State.setFeState_calm ..).steady
    exact hx4
  · refine Ends.next ?_
    exact hx1

theorem State.launchCoach_calm (s : State) (n : Fin 16) (exc : Bool) (bal : Nat → Int) :
    Calm s (State.launchCoach s n exc bal) := by
  unfold State.launchCoach
  extract_lets +onlyGivenNames -merge -underBinder x1
  have hx1 : Calm s x1 := by
    unfold x1
    exact (State.wrb_calm ..)
  refine Calm.ite ?_ ?_
  · exact hx1
  · extract_lets +onlyGivenNames -merge -underBinder x2
    extract_lets +onlyGivenNames -merge -underBinder x3
    split
    · extract_lets +onlyGivenNames -merge -underBinder x4
      have hx4 : Calm s x4 := by
        unfold x4
        refine Calm.trans ?_ (State.setSring_calm ..)
        exact hx1
      split
      rename_i y5 y6 e7
      have hy6 : Calm s y6 := by
        refine Calm.snd e7 ?_
        split
        · split
          rename_i y8 y9 e10
          have hy9 : Calm s y9 := by
            refine Calm.snd e10 ?_
            refine Calm.trans ?_ (State.draw_calm ..)
            exact hx4
          extract_lets +onlyGivenNames -merge -underBinder x11
          extract_lets +onlyGivenNames -merge -underBinder x12
          refine Calm.pair ?_
          refine Calm.trans ?_ (State.setFe_calm ..)
          exact hy9
        · refine Calm.pair ?_
          exact hx4
      extract_lets +onlyGivenNames -merge -underBinder x13
      have hx13 : Calm s x13 := by
        unfold x13
        refine Calm.trans ?_ (State.send_calm ..)
        exact hy6
      refine Calm.trans ?_ (State.send_calm ..)
      exact hx13

theorem State.chalTimeout_calm (s : State) (n : Fin 16) (p : Nat) :
    Calm s (State.chalTimeout s n p) := by
  unfold State.chalTimeout
  split
  · refine Calm.ite ?_ ?_
    · extract_lets +onlyGivenNames -merge -underBinder x1
      refine Calm.trans ?_ (State.attemptEnds_calm ..)
      exact (State.sendVerdict_calm ..)
    · exact Calm.refl _
  · exact Calm.refl _

theorem State.deadlineRing_steady (s : State) (n : Fin 16) :
    Steady s (State.deadlineRing s n) := by
  unfold State.deadlineRing
  refine Steady.ite ?_ ?_
  · exact Steady.refl _
  · extract_lets +onlyGivenNames -merge -underBinder x1
    refine Steady.foldl ?_ (fun t2 a3 h4 => ?_)
    · exact Steady.refl _
    · refine Steady.ite ?_ ?_
      · exact h4
      · extract_lets +onlyGivenNames -merge -underBinder x5
        split
        · extract_lets +onlyGivenNames -merge -underBinder x6
          extract_lets +onlyGivenNames -merge -underBinder x7
          have hx7 : Steady s x7 := by
            unfold x7
            refine Steady.trans ?_ (State.setFe_calm ..).steady
            exact h4
          extract_lets +onlyGivenNames -merge -underBinder x8
          have hx8 : Steady s x8 := by
            unfold x8
            refine Steady.ite ?_ ?_
            · exact hx7
            · refine Steady.trans ?_ (State.wrb_calm ..).steady
              exact hx7
          refine Steady.ite ?_ ?_
          · extract_lets +onlyGivenNames -merge -underBinder x9
            have hx9 : Steady s x9 := by
              unfold x9
              refine Steady.trans ?_ (State.wantChallenge_calm ..).steady
              refine Steady.trans ?_ (State.setFeState_calm ..).steady
              exact hx8
            refine Steady.trans ?_ (State.setSource_steady ..)
            exact hx9
          · exact hx8
        · extract_lets +onlyGivenNames -merge -underBinder x10
          have hx10 : Steady s x10 := by
            unfold x10
            refine Steady.trans ?_ (State.setFe_calm ..).steady
            exact h4
          extract_lets +onlyGivenNames -merge -underBinder x11
          have hx11 : Steady s x11 := by
            unfold x11
            refine Steady.trans ?_ (State.flag_calm ..).steady
            refine Steady.trans ?_ (State.inc_calm ..).steady
            exact hx10
          refine Steady.upd ?_ rfl rfl rfl rfl rfl rfl rfl rfl
          exact hx11

theorem State.accumulate_calm (s : State) (n : Fin 16) (x : CompIn) :
    Calm s (State.accumulate s n x) := by
  unfold State.accumulate
  extract_lets +onlyGivenNames -merge -underBinder x1
  extract_lets +onlyGivenNames -merge -underBinder x2
  have hx2 : Calm s x2 := by
    unfold x2
    exact (State.setFe_calm ..)
  extract_lets +onlyGivenNames -merge -underBinder x3
  extract_lets +onlyGivenNames -merge -underBinder x4
  refine Calm.foldl ?_ (fun t5 a6 h7 => ?_)
  · exact hx2
  · extract_lets +onlyGivenNames -merge -underBinder x8
    extract_lets +onlyGivenNames -merge -underBinder x9
    extract_lets +onlyGivenNames -merge -underBinder x10
    extract_lets +onlyGivenNames -merge -underBinder x11
    extract_lets +onlyGivenNames -merge -underBinder x12
    extract_lets +onlyGivenNames -merge -underBinder x13
    extract_lets +onlyGivenNames -merge -underBinder x14
    extract_lets +onlyGivenNames -merge -underBinder x15
    extract_lets +onlyGivenNames -merge -underBinder x16
    refine Calm.upd ?_ rfl rfl rfl rfl rfl rfl rfl rfl
    exact h7

theorem State.accumulateBal_calm (s : State) (n : Fin 16) :
    Calm s (State.accumulateBal s n) := by
  unfold State.accumulateBal
  extract_lets +onlyGivenNames -merge -underBinder x1
  refine Calm.foldl ?_ (fun t2 a3 h4 => ?_)
  · exact Calm.refl _
  · refine Calm.ite ?_ ?_
    · exact h4
    · extract_lets +onlyGivenNames -merge -underBinder x5
      extract_lets +onlyGivenNames -merge -underBinder x6
      refine Calm.foldl ?_ (fun t7 a8 h9 => ?_)
      · exact h4
      · extract_lets +onlyGivenNames -merge -underBinder x10
        extract_lets +onlyGivenNames -merge -underBinder x11
        extract_lets +onlyGivenNames -merge -underBinder x12
        extract_lets +onlyGivenNames -merge -underBinder x13
        extract_lets +onlyGivenNames -merge -underBinder x14
        extract_lets +onlyGivenNames -merge -underBinder x15
        extract_lets +onlyGivenNames -merge -underBinder x16
        have hx16 : Calm s x16 := by
          unfold x16
          refine Calm.upd ?_ rfl rfl rfl rfl rfl rfl rfl rfl
          exact h9
        extract_lets +onlyGivenNames -merge -underBinder x17 x18
        have hx18 : Calm s x18 := by
          unfold x18
          refine Calm.ite ?_ ?_
          · refine Calm.upd ?_ rfl rfl rfl rfl rfl rfl rfl rfl
            exact hx16
          · exact hx16
        refine Calm.ite ?_ ?_
        · refine Calm.upd ?_ rfl rfl rfl rfl rfl rfl rfl rfl
          exact hx18
        · exact hx18

theorem State.reachTick_calm (s : State) (n : Fin 16) :
    Calm s (State.reachTick s n) := by
  unfold State.reachTick
  extract_lets +onlyGivenNames -merge -underBinder x1
  extract_lets +onlyGivenNames -merge -underBinder x2
  extract_lets +onlyGivenNames -merge -underBinder x3
  extract_lets +onlyGivenNames -merge -underBinder x4
  have hx4 : Calm s x4 := by
    unfold x4
    exact (State.wrf_calm ..)
  refine Calm.trans ?_ (State.wrf_calm ..)
  exact hx4

theorem State.finishRing_calm (s : State) (n : Fin 16) :
    Calm s (State.finishRing s n) := by
  unfold State.finishRing
  extract_lets +onlyGivenNames -merge -underBinder x1
  have hx1 : Calm s x1 := by
    unfold x1
    refine Calm.ite ?_ ?_
    · exact (State.reachTick_calm ..)
    · exact Calm.refl _
  refine Calm.ite ?_ ?_
  · extract_lets +onlyGivenNames -merge -underBinder x2
    have hx2 : Calm s x2 := by
      unfold x2
      refine Calm.trans ?_ (State.accumulateBal_calm ..)
      exact hx1
    refine Calm.trans ?_ (State.setSring_calm ..)
    exact hx2
  · extract_lets +onlyGivenNames -merge -underBinder x3
    extract_lets +onlyGivenNames -merge -underBinder x4
    extract_lets +onlyGivenNames -merge -underBinder x5
    extract_lets +onlyGivenNames -merge -underBinder x6 x7
    have hx7 : Calm s x7 := by
      unfold x7
      refine Calm.upd ?_ rfl rfl rfl rfl rfl rfl rfl rfl
      exact hx1
    extract_lets +onlyGivenNames -merge -underBinder x8
    have hx8 : Calm s x8 := by
      unfold x8
      refine Calm.trans ?_ (State.accumulateBal_calm ..)
      exact hx7
    extract_lets +onlyGivenNames -merge -underBinder x9
    have hx9 : Calm s x9 := by
      unfold x9
      refine Calm.foldl ?_ (fun t10 a11 h12 => ?_)
      · exact hx8
      · refine Calm.trans ?_ (State.accumulate_calm ..)
        exact h12
    extract_lets +onlyGivenNames -merge -underBinder x13
    extract_lets +onlyGivenNames -merge -underBinder x14
    have hx14 : Calm s x14 := by
      unfold x14
      refine Calm.trans ?_ (State.setSring_calm ..)
      exact hx9
    refine Calm.ite ?_ ?_
    · refine Calm.trans ?_ (State.setRingMode_calm ..)
      exact hx14
    · exact hx14

theorem State.passAge_calm (s : State) (n : Fin 16) (p : Nat) :
    Calm s (State.passAge s n p) := by
  unfold State.passAge
  split
  · exact (State.wrf_calm ..)
  · exact Calm.refl _

end Sys2Proof.Machine
end

