-- ==== Sys2Proof/Laws/Estimator.lean ====
section
/-! SUPPORT. What the operations of Machine/Estimator.lean leave alone (Laws/Keeps.lean). -/

namespace Sys2Proof.Machine

open Sys2Proof

theorem State.setChan_calm (s : State) (c : Nat) (v : ChanEst) :
    Calm s (State.setChan s c v) := by
  unfold State.setChan
  refine Calm.upd ?_ rfl rfl rfl rfl rfl rfl rfl rfl
  exact Calm.refl _

theorem State.modChan_calm (s : State) (c : Nat) (f : ChanEst → ChanEst) :
    Calm s (State.modChan s c f) := by
  unfold State.modChan
  exact (State.setChan_calm ..)

theorem State.putHist_calm (s : State) (c : Nat) (h : List Nat) (cap : Nat) (ref : Bool) :
    Calm s (State.putHist s c h cap ref) := by
  unfold State.putHist
  extract_lets +onlyGivenNames -merge -underBinder x1
  exact (State.jrnEdit_calm ..)

theorem State.learnEvent_calm (s : State) (code : Nat) (c : Nat) (sample : Int) :
    Calm s (State.learnEvent s code c sample) := by
  unfold State.learnEvent
  refine Calm.trans ?_ (State.wrn_calm ..)
  exact (State.wrn_calm ..)

theorem State.gateSample_calm (s : State) (c : Nat) (x : Nat) :
    Calm s (State.gateSample s c x) := by
  unfold State.gateSample
  extract_lets +onlyGivenNames -merge -underBinder x1
  extract_lets +onlyGivenNames -merge -underBinder x2
  extract_lets +onlyGivenNames -merge -underBinder x3
  extract_lets +onlyGivenNames -merge -underBinder x4
  split
  · refine Calm.ite ?_ ?_
    · extract_lets +onlyGivenNames -merge -underBinder x5
      extract_lets +onlyGivenNames -merge -underBinder x6
      extract_lets +onlyGivenNames -merge -underBinder x7
      have hx7 : Calm s x7 := by
        unfold x7
        refine Calm.trans ?_ (State.modChan_calm ..)
        exact (State.putHist_calm ..)
      refine Calm.trans ?_ (State.wrb_calm ..)
      refine Calm.trans ?_ (State.inc_calm ..)
      refine Calm.trans ?_ (State.learnEvent_calm ..)
      exact hx7
    · extract_lets +onlyGivenNames -merge -underBinder x8
      extract_lets +onlyGivenNames -merge -underBinder x9
      extract_lets +onlyGivenNames -merge -underBinder x10
      extract_lets +onlyGivenNames -merge -underBinder x11
      have hx11 : Calm s x11 := by
        unfold x11
        refine Calm.trans ?_ (State.wrb_calm ..)
        refine Calm.trans ?_ (State.inc_calm ..)
        exact (State.learnEvent_calm ..)
      refine Calm.ite ?_ ?_
      · extract_lets +onlyGivenNames -merge -underBinder x12
        have hx12 : Calm s x12 := by
          unfold x12
          refine Calm.trans ?_ (State.modChan_calm ..)
          refine Calm.trans ?_ (State.putHist_calm ..)
          exact hx11
        extract_lets +onlyGivenNames -merge -underBinder x13
        have hx13 : Calm s x13 := by
          unfold x13
          refine Calm.trans ?_ (State.wrb_calm ..)
          refine Calm.trans ?_ (State.learnEvent_calm ..)
          exact hx12
        refine Calm.trans ?_ (State.record_calm ..)
        exact hx13
      · refine Calm.trans ?_ (State.modChan_calm ..)
        exact hx11

theorem State.calShow_calm (s : State) :
    Calm s (State.calShow s) := by
  unfold State.calShow
  refine Calm.trans ?_ (State.wrf_calm ..)
  exact (State.wrf_calm ..)

theorem State.calFinish_calm (s : State) (state : Nat) :
    Calm s (State.calFinish s state) := by
  unfold State.calFinish
  extract_lets +onlyGivenNames -merge -underBinder x1
  have hx1 : Calm s x1 := by
    unfold x1
    exact (State.calShow_calm ..)
  refine Calm.ite ?_ ?_
  · extract_lets +onlyGivenNames -merge -underBinder x2
    have hx2 : Calm s x2 := by
      unfold x2
      refine Calm.trans ?_ (State.wrb_calm ..)
      refine Calm.trans ?_ (State.wrf_calm ..)
      exact hx1
    refine Calm.trans ?_ (State.record_calm ..)
    exact hx2
  · exact hx1

theorem State.calFail_calm (s : State) (c : Nat) (sample : Int) :
    Calm s (State.calFail s c sample) := by
  unfold State.calFail
  refine Calm.trans ?_ (State.learnEvent_calm ..)
  exact (State.modChan_calm ..)

theorem State.calDone_calm (s : State) (c : Nat) (a : AnchorPt) :
    Calm s (State.calDone s c a) := by
  unfold State.calDone
  extract_lets +onlyGivenNames -merge -underBinder x1
  extract_lets +onlyGivenNames -merge -underBinder x2
  extract_lets +onlyGivenNames -merge -underBinder x3
  extract_lets +onlyGivenNames -merge -underBinder x4
  refine Calm.ite ?_ ?_
  · refine Calm.trans ?_ (State.learnEvent_calm ..)
    refine Calm.trans ?_ (State.modChan_calm ..)
    exact (State.putHist_calm ..)
  · exact (State.calFail_calm ..)

theorem State.calAdvance_calm (s : State) (c : Nat) (a : AnchorPt) :
    Calm s (State.calAdvance s c a) := by
  unfold State.calAdvance
  extract_lets +onlyGivenNames -merge -underBinder x1
  extract_lets +onlyGivenNames -merge -underBinder x2
  extract_lets +onlyGivenNames -merge -underBinder x3
  extract_lets +onlyGivenNames -merge -underBinder x4
  have hx4 : Calm s x4 := by
    unfold x4
    refine Calm.ite ?_ ?_
    · exact (State.setChan_calm ..)
    · refine Calm.ite ?_ ?_
      · exact (State.setChan_calm ..)
      · refine Calm.ite ?_ ?_
        · exact (State.calDone_calm ..)
        · exact Calm.refl _
  refine Calm.ite ?_ ?_
  · refine Calm.trans ?_ (State.calFinish_calm ..)
    exact hx4
  · exact hx4

theorem State.calStart_calm (s : State) (acceptMt : Nat) (hours : Nat) :
    Calm s (State.calStart s acceptMt hours) := by
  unfold State.calStart
  extract_lets +onlyGivenNames -merge -underBinder x1
  have hx1 : Calm s x1 := by
    unfold x1
    exact (State.wr64_calm ..)
  extract_lets +onlyGivenNames -merge -underBinder x2 x3
  have hx3 : Calm s x3 := by
    unfold x3
    refine Calm.upd ?_ rfl rfl rfl rfl rfl rfl rfl rfl
    exact hx1
  refine Calm.trans ?_ (State.wrf_calm ..)
  exact hx3

theorem State.calArm_calm (s : State) :
    Calm s (State.calArm s) := by
  unfold State.calArm
  extract_lets +onlyGivenNames -merge -underBinder x1
  have hx1 : Calm s x1 := by
    unfold x1
    refine Calm.foldl ?_ (fun t2 a3 h4 => ?_)
    · exact Calm.refl _
    · refine Calm.trans ?_ (State.modChan_calm ..)
      exact h4
  refine Calm.trans ?_ (State.calShow_calm ..)
  refine Calm.trans ?_ (State.wrf_calm ..)
  exact hx1

theorem execCalibrationDeadline_calm (dt : Nat) (s : State) :
    Ends Calm s (execCalibrationDeadline dt s) := by
  unfold execCalibrationDeadline
  extract_lets +onlyGivenNames -merge -underBinder x1
  have hx1 : Calm s x1 := by
    unfold x1
    exact (State.elapse_calm ..)
  refine Ends.ite ?_ ?_
  · refine Ends.next ?_
    refine Calm.trans ?_ (State.calFinish_calm ..)
    refine Calm.foldl ?_ (fun t2 a3 h4 => ?_)
    · exact hx1
    · refine Calm.ite ?_ ?_
      · refine Calm.trans ?_ (State.calFail_calm ..)
        exact h4
      · exact h4
  · refine Ends.next ?_
    exact hx1

theorem State.anchorDone_calm (s : State) (d : StepDue) (c : Nat) (soc : Nat) :
    Calm s (State.anchorDone s d c soc) := by
  unfold State.anchorDone
  extract_lets +onlyGivenNames -merge -underBinder x1
  extract_lets +onlyGivenNames -merge -underBinder x2
  extract_lets +onlyGivenNames -merge -underBinder x3
  extract_lets +onlyGivenNames -merge -underBinder x4
  extract_lets +onlyGivenNames -merge -underBinder x5
  extract_lets +onlyGivenNames -merge -underBinder x6
  extract_lets +onlyGivenNames -merge -underBinder x7
  extract_lets +onlyGivenNames -merge -underBinder x8
  have hx8 : Calm s x8 := by
    unfold x8
    exact (State.jrnEdit_calm ..)
  extract_lets +onlyGivenNames -merge -underBinder x9
  have hx9 : Calm s x9 := by
    unfold x9
    refine Calm.trans ?_ (State.jrnEdit_calm ..)
    exact hx8
  extract_lets +onlyGivenNames -merge -underBinder x10
  have hx10 : Calm s x10 := by
    unfold x10
    refine Calm.trans ?_ (State.modChan_calm ..)
    exact hx9
  extract_lets +onlyGivenNames -merge -underBinder x11 x12
  have hx12 : Calm s x12 := by
    unfold x12
    refine Calm.ite ?_ ?_
    · refine Calm.ite ?_ ?_
      · refine Calm.trans ?_ (State.gateSample_calm ..)
        exact hx10
      · refine Calm.trans ?_ (State.wrb_calm ..)
        refine Calm.trans ?_ (State.inc_calm ..)
        refine Calm.trans ?_ (State.learnEvent_calm ..)
        exact hx10
    · exact hx10
  extract_lets +onlyGivenNames -merge -underBinder x13
  have hx13 : Calm s x13 := by
    unfold x13
    refine Calm.trans ?_ (State.calAdvance_calm ..)
    exact hx12
  extract_lets +onlyGivenNames -merge -underBinder x14
  have hx14 : Calm s x14 := by
    unfold x14
    refine Calm.trans ?_ (State.jrnQueue_calm ..)
    exact hx13
  extract_lets +onlyGivenNames -merge -underBinder x15
  have hx15 : Calm s x15 := by
    unfold x15
    refine Calm.trans ?_ (State.wrb_calm ..)
    refine Calm.trans ?_ (State.inc_calm ..)
    exact hx14
  extract_lets +onlyGivenNames -merge -underBinder x16
  have hx16 : Calm s x16 := by
    unfold x16
    refine Calm.trans ?_ (State.wr64_calm ..)
    exact hx15
  refine Calm.trans ?_ (State.wayEntry_calm ..)
  exact hx16

theorem State.emptyRecord_calm (s : State) (d : StepDue) (c : Nat) (soc : Rat) :
    Calm s (State.emptyRecord s d c soc) := by
  unfold State.emptyRecord
  extract_lets +onlyGivenNames -merge -underBinder x1
  exact (State.record_calm ..)

theorem State.disUpdate_calm (s : State) (d : StepDue) (c : Nat) (n : Nat) (anchor : Bool) :
    Calm s (State.disUpdate s d c n anchor) := by
  unfold State.disUpdate
  extract_lets +onlyGivenNames -merge -underBinder x1
  extract_lets +onlyGivenNames -merge -underBinder x2
  extract_lets +onlyGivenNames -merge -underBinder x3
  extract_lets +onlyGivenNames -merge -underBinder x4
  have hx4 : Calm s x4 := by
    unfold x4
    exact (State.setChan_calm ..)
  refine Calm.ite ?_ ?_
  · refine Calm.trans ?_ (State.modChan_calm ..)
    exact hx4
  · extract_lets +onlyGivenNames -merge -underBinder x5
    extract_lets +onlyGivenNames -merge -underBinder x6
    split
    · extract_lets +onlyGivenNames -merge -underBinder x7
      have hx7 : Calm s x7 := by
        unfold x7
        refine Calm.trans ?_ (State.modChan_calm ..)
        exact hx4
      refine Calm.ite ?_ ?_
      · refine Calm.trans ?_ (State.wrb_calm ..)
        refine Calm.trans ?_ (State.emptyRecord_calm ..)
        exact hx7
      · refine Calm.ite ?_ ?_
        · refine Calm.trans ?_ (State.wrb_calm ..)
          exact hx7
        · exact hx7

theorem State.iscUpdate_calm (s : State) (c : Nat) (n : Nat) :
    Calm s (State.iscUpdate s c n) := by
  unfold State.iscUpdate
  extract_lets +onlyGivenNames -merge -underBinder x1
  extract_lets +onlyGivenNames -merge -underBinder x2
  extract_lets +onlyGivenNames -merge -underBinder x3
  split
  · exact (State.setChan_calm ..)

theorem State.initChan_calm (s : State) (p : PSet) (d : StepDue) (c : Nat) (hs : List HypV) :
    Calm s (State.initChan s p d c hs) := by
  unfold State.initChan
  extract_lets +onlyGivenNames -merge -underBinder x1
  extract_lets +onlyGivenNames -merge -underBinder x2
  exact (State.modChan_calm ..)

theorem State.chanStep_calm (s : State) (d : StepDue) (c : Nat) (q : Int) (lost : Nat) :
    Calm s (State.chanStep s d c q lost) := by
  unfold State.chanStep
  extract_lets +onlyGivenNames -merge -underBinder x1
  extract_lets +onlyGivenNames -merge -underBinder x2
  extract_lets +onlyGivenNames -merge -underBinder x3
  extract_lets +onlyGivenNames -merge -underBinder x4
  extract_lets +onlyGivenNames -merge -underBinder x5
  extract_lets +onlyGivenNames -merge -underBinder x6
  extract_lets +onlyGivenNames -merge -underBinder x7
  extract_lets +onlyGivenNames -merge -underBinder x8
  extract_lets +onlyGivenNames -merge -underBinder x9
  extract_lets +onlyGivenNames -merge -underBinder x10
  extract_lets +onlyGivenNames -merge -underBinder x11
  extract_lets +onlyGivenNames -merge -underBinder x12
  extract_lets +onlyGivenNames -merge -underBinder x13
  extract_lets +onlyGivenNames -merge -underBinder x14
  have hx14 : Calm s x14 := by
    unfold x14
    exact (State.modChan_calm ..)
  extract_lets +onlyGivenNames -merge -underBinder x15
  extract_lets +onlyGivenNames -merge -underBinder x16
  extract_lets +onlyGivenNames -merge -underBinder x17
  extract_lets +onlyGivenNames -merge -underBinder x18
  extract_lets +onlyGivenNames -merge -underBinder x19
  split
  · extract_lets +onlyGivenNames -merge -underBinder x20
    split
    · split
      · extract_lets +onlyGivenNames -merge -underBinder x21
        have hx21 : Calm s x21 := by
          unfold x21
          refine Calm.ite ?_ ?_
          · refine Calm.trans ?_ (State.initChan_calm ..)
            exact hx14
          · refine Calm.trans ?_ (State.modChan_calm ..)
            exact hx14
        extract_lets +onlyGivenNames -merge -underBinder x22
        have hx22 : Calm s x22 := by
          unfold x22
          refine Calm.trans ?_ (State.modChan_calm ..)
          exact hx21
        extract_lets +onlyGivenNames -merge -underBinder x23
        have hx23 : Calm s x23 := by
          unfold x23
          refine Calm.ite ?_ ?_
          · refine Calm.trans ?_ (State.flag_calm ..)
            refine Calm.trans ?_ (State.incBy_calm ..)
            exact hx22
          · exact hx22
        extract_lets +onlyGivenNames -merge -underBinder x24
        have hx24 : Calm s x24 := by
          unfold x24
          refine Calm.ite ?_ ?_
          · refine Calm.trans ?_ (State.flag_calm ..)
            refine Calm.trans ?_ (State.incBy_calm ..)
            exact hx23
          · exact hx23
        extract_lets +onlyGivenNames -merge -underBinder x25
        have hx25 : Calm s x25 := by
          unfold x25
          refine Calm.ite ?_ ?_
          · exact hx24
          · refine Calm.trans ?_ (State.disUpdate_calm ..)
            exact hx24
        extract_lets +onlyGivenNames -merge -underBinder x26
        have hx26 : Calm s x26 := by
          unfold x26
          refine Calm.ite ?_ ?_
          · refine Calm.trans ?_ (State.anchorDone_calm ..)
            exact hx25
          · exact hx25
        extract_lets +onlyGivenNames -merge -underBinder x27
        have hx27 : Calm s x27 := by
          unfold x27
          refine Calm.ite ?_ ?_
          · exact hx26
          · refine Calm.trans ?_ (State.iscUpdate_calm ..)
            exact hx26
        extract_lets +onlyGivenNames -merge -underBinder x28
        extract_lets +onlyGivenNames -merge -underBinder x29
        extract_lets +onlyGivenNames -merge -underBinder x30
        extract_lets +onlyGivenNames -merge -underBinder x31
        refine Calm.trans ?_ (State.modChan_calm ..)
        exact hx27

theorem State.chanHold_calm (s : State) (c : Nat) (q : Int) (lost : Nat) :
    Calm s (State.chanHold s c q lost) := by
  unfold State.chanHold
  exact (State.modChan_calm ..)

end Sys2Proof.Machine
end

