-- ==== Sys2Proof/Laws/Lanes.lean ====
section
/-! SUPPORT. What the operations of Machine/Lanes.lean leave alone (Laws/Keeps.lean). -/

namespace Sys2Proof.Machine

open Sys2Proof

theorem State.setHarness_calm (s : State) (c : Nat) (h : Harness) :
    Calm s (State.setHarness s c h) := by
  unfold State.setHarness
  refine Calm.upd ?_ rfl rfl rfl rfl rfl rfl rfl rfl
  exact Calm.refl _

theorem State.dropHarness_calm (s : State) (c : Nat) :
    Calm s (State.dropHarness s c) := by
  unfold State.dropHarness
  refine Calm.upd ?_ rfl rfl rfl rfl rfl rfl rfl rfl
  exact Calm.refl _

theorem State.migFail_calm (s : State) :
    Calm s (State.migFail s) := by
  unfold State.migFail
  refine Calm.trans ?_ (State.flag_calm ..)
  exact (State.inc_calm ..)

theorem State.place_calm (s : State) (migrating : Bool) (c : Nat) :
    Calm s (State.place s migrating c) := by
  unfold State.place
  split
  · exact (State.setHarness_calm ..)
  · extract_lets +onlyGivenNames -merge -underBinder x1
    have hx1 : Calm s x1 := by
      unfold x1
      refine Calm.trans ?_ (State.migFail_calm ..)
      exact (State.dropHarness_calm ..)
    refine Calm.upd ?_ rfl rfl rfl rfl rfl rfl rfl rfl
    exact hx1

theorem State.placeAll_calm (s : State) :
    Calm s (State.placeAll s) := by
  unfold State.placeAll
  extract_lets +onlyGivenNames -merge -underBinder x1 x2
  have hx2 : Calm s x2 := by
    unfold x2
    refine Calm.upd ?_ rfl rfl rfl rfl rfl rfl rfl rfl
    exact Calm.refl _
  refine Calm.foldl ?_ (fun t3 a4 h5 => ?_)
  · exact hx2
  · refine Calm.trans ?_ (State.place_calm ..)
    exact h5

theorem State.ostShow_calm (s : State) (stage : Nat) :
    Calm s (State.ostShow s stage) := by
  unfold State.ostShow
  extract_lets +onlyGivenNames -merge -underBinder x1
  extract_lets +onlyGivenNames -merge -underBinder x2
  have hx2 : Calm s x2 := by
    unfold x2
    exact (State.wrn_calm ..)
  extract_lets +onlyGivenNames -merge -underBinder x3
  have hx3 : Calm s x3 := by
    unfold x3
    refine Calm.trans ?_ (State.wrn_calm ..)
    refine Calm.trans ?_ (State.wrn_calm ..)
    exact hx2
  extract_lets +onlyGivenNames -merge -underBinder x4
  have hx4 : Calm s x4 := by
    unfold x4
    refine Calm.foldl ?_ (fun t5 a6 h7 => ?_)
    · exact hx3
    · extract_lets +onlyGivenNames -merge -underBinder x8
      refine Calm.trans ?_ (State.wrn_calm ..)
      exact h7
  extract_lets +onlyGivenNames -merge -underBinder x9
  extract_lets +onlyGivenNames -merge -underBinder x10
  have hx10 : Calm s x10 := by
    unfold x10
    refine Calm.foldl ?_ (fun t11 a12 h13 => ?_)
    · exact hx4
    · refine Calm.trans ?_ (State.wrn_calm ..)
      exact h13
  refine Calm.trans ?_ (State.wr64_calm ..)
  exact hx10

theorem State.ostRefresh_calm (s : State) :
    Calm s (State.ostRefresh s) := by
  unfold State.ostRefresh
  exact (State.ostShow_calm ..)

theorem State.replaceAll_steady (s : State) :
    Steady s (State.replaceAll s) := by
  unfold State.replaceAll
  extract_lets +onlyGivenNames -merge -underBinder x1
  extract_lets +onlyGivenNames -merge -underBinder x2
  extract_lets +onlyGivenNames -merge -underBinder x3
  extract_lets +onlyGivenNames -merge -underBinder x4 x5
  have hx5 : Steady s x5 := by
    unfold x5
    refine Steady.upd ?_ rfl rfl rfl rfl rfl rfl rfl rfl
    exact Steady.refl _
  extract_lets +onlyGivenNames -merge -underBinder x6
  have hx6 : Steady s x6 := by
    unfold x6
    refine Steady.foldl ?_ (fun t7 a8 h9 => ?_)
    · exact hx5
    · split
      · split
        · refine Steady.ite ?_ ?_
          · refine Steady.trans ?_ (State.setHarness_calm ..).steady
            exact h9
          · exact h9
        · exact h9
  extract_lets +onlyGivenNames -merge -underBinder x10
  have hx10 : Steady s x10 := by
    unfold x10
    refine Steady.trans ?_ (State.flag_calm ..).steady
    exact hx6
  refine Steady.ite ?_ ?_
  · exact hx10
  · refine Steady.trans ?_ (State.outEntry_steady ..)
    exact hx10

theorem State.restGate_calm (s : State) :
    Calm s (State.restGate s) := by
  unfold State.restGate
  extract_lets +onlyGivenNames -merge -underBinder x1
  extract_lets +onlyGivenNames -merge -underBinder x2
  extract_lets +onlyGivenNames -merge -underBinder x3
  extract_lets +onlyGivenNames -merge -underBinder x4
  refine Calm.upd ?_ rfl rfl rfl rfl rfl rfl rfl rfl
  exact Calm.refl _

theorem State.restWake_calm (s : State) :
    Calm s (State.restWake s) := by
  unfold State.restWake
  refine Calm.upd ?_ rfl rfl rfl rfl rfl rfl rfl rfl
  exact Calm.refl _

theorem State.harnessNeeds_steady (s : State) :
    Steady s (State.harnessNeeds s) := by
  unfold State.harnessNeeds
  extract_lets +onlyGivenNames -merge -underBinder x1
  refine Steady.ite ?_ ?_
  · exact (State.replaceAll_steady ..)
  · refine Steady.foldl ?_ (fun t2 a3 h4 => ?_)
    · refine Steady.upd ?_ rfl rfl rfl rfl rfl rfl rfl rfl
      exact Steady.refl _
    · refine Steady.trans ?_ (State.place_calm ..).steady
      exact h4

theorem State.ostBoundary_steady (s : State) (spanBoundary : Bool) :
    Steady s (State.ostBoundary s spanBoundary) := by
  unfold State.ostBoundary
  refine Steady.ite ?_ ?_
  · exact Steady.refl _
  · extract_lets +onlyGivenNames -merge -underBinder x1
    extract_lets +onlyGivenNames -merge -underBinder x2 x3
    have hx3 : Steady s x3 := by
      unfold x3
      refine Steady.upd ?_ rfl rfl rfl rfl rfl rfl rfl rfl
      exact Steady.refl _
    extract_lets +onlyGivenNames -merge -underBinder x4
    have hx4 : Steady s x4 := by
      unfold x4
      refine Steady.ite ?_ ?_
      · refine Steady.trans ?_ (State.harnessNeeds_steady ..)
        exact hx3
      · exact hx3
    extract_lets +onlyGivenNames -merge -underBinder x5
    have hx5 : Steady s x5 := by
      unfold x5
      refine Steady.ite ?_ ?_
      · refine Steady.ite ?_ ?_
        · refine Steady.trans ?_ (State.restGate_calm ..).steady
          exact hx4
        · exact hx4
      · refine Steady.ite ?_ ?_
        · refine Steady.trans ?_ (State.restWake_calm ..).steady
          exact hx4
        · exact hx4
    extract_lets +onlyGivenNames -merge -underBinder x6
    have hx6 : Steady s x6 := by
      unfold x6
      refine Steady.ite ?_ ?_
      · refine Steady.trans ?_ (State.outEntry_steady ..)
        exact hx5
      · exact hx5
    refine Steady.trans ?_ (State.ostShow_calm ..).steady
    exact hx6

theorem State.xlast_calm (s : State) (k : LaneCheck) (bad : Bool) :
    Calm s (State.xlast s k bad) := by
  unfold State.xlast
  exact (State.wrn_calm ..)

theorem State.crossCheck_calm (s : State) (stage : Nat) (x : LaneObservations) :
    Calm s (State.crossCheck s stage x) := by
  unfold State.crossCheck
  extract_lets +onlyGivenNames -merge -underBinder x1
  extract_lets +onlyGivenNames -merge -underBinder x2 x3
  have hx3 : Calm s x3 := by
    unfold x3
    refine Calm.upd ?_ rfl rfl rfl rfl rfl rfl rfl rfl
    exact Calm.refl _
  refine Calm.foldl ?_ (fun t4 a5 h6 => ?_)
  · exact hx3
  · extract_lets +onlyGivenNames -merge -underBinder x7
    extract_lets +onlyGivenNames -merge -underBinder x8
    have hx8 : Calm s x8 := by
      unfold x8
      refine Calm.trans ?_ (State.xlast_calm ..)
      exact h6
    refine Calm.ite ?_ ?_
    · refine Calm.upd ?_ rfl rfl rfl rfl rfl rfl rfl rfl
      exact hx8
    · exact hx8

theorem State.unstep_calm (s : State) (c : Nat) :
    Calm s (State.unstep s c) := by
  unfold State.unstep
  extract_lets +onlyGivenNames -merge -underBinder x1
  extract_lets +onlyGivenNames -merge -underBinder x2
  extract_lets +onlyGivenNames -merge -underBinder x3
  extract_lets +onlyGivenNames -merge -underBinder x4
  extract_lets +onlyGivenNames -merge -underBinder x5
  extract_lets +onlyGivenNames -merge -underBinder x6
  extract_lets +onlyGivenNames -merge -underBinder x7 x8 x9
  have hx9 : Calm s x9 := by
    unfold x9
    refine Calm.upd ?_ rfl rfl rfl rfl rfl rfl rfl rfl
    exact Calm.refl _
  refine Calm.trans ?_ (State.chanHold_calm ..)
  refine Calm.trans ?_ (State.setChan_calm ..)
  exact hx9

theorem State.migrate_calm (s : State) (l : Nat) :
    Calm s (State.migrate s l) := by
  unfold State.migrate
  extract_lets +onlyGivenNames -merge -underBinder x1
  extract_lets +onlyGivenNames -merge -underBinder x2 x3
  have hx3 : Calm s x3 := by
    unfold x3
    refine Calm.foldl ?_ (fun t4 a5 h6 => ?_)
    · refine Calm.upd ?_ rfl rfl rfl rfl rfl rfl rfl rfl
      exact Calm.refl _
    · refine Calm.trans ?_ (State.place_calm ..)
      exact h6
  extract_lets +onlyGivenNames -merge -underBinder x7
  extract_lets +onlyGivenNames -merge -underBinder x8
  split
  · extract_lets +onlyGivenNames -merge -underBinder x9 x10
    have hx10 : Calm s x10 := by
      unfold x10
      refine Calm.upd ?_ rfl rfl rfl rfl rfl rfl rfl rfl
      exact hx3
    extract_lets +onlyGivenNames -merge -underBinder x11
    have hx11 : Calm s x11 := by
      unfold x11
      refine Calm.foldl ?_ (fun t12 a13 h14 => ?_)
      · exact hx10
      · refine Calm.ite ?_ ?_
        · exact h14
        · refine Calm.ite ?_ ?_
          · refine Calm.trans ?_ (State.migFail_calm ..)
            refine Calm.trans ?_ (State.unstep_calm ..)
            exact h14
          · refine Calm.trans ?_ (State.unstep_calm ..)
            exact h14
    refine Calm.trans ?_ (State.ostShow_calm ..)
    exact hx11

theorem State.recheck_calm (s : State) (l : Nat) :
    Calm s (State.recheck s l) := by
  unfold State.recheck
  split
  · exact Calm.refl _
  · split
    · exact Calm.refl _
    · extract_lets +onlyGivenNames -merge -underBinder x1
      extract_lets +onlyGivenNames -merge -underBinder x2 x3
      have hx3 : Calm s x3 := by
        unfold x3
        refine Calm.upd ?_ rfl rfl rfl rfl rfl rfl rfl rfl
        exact Calm.refl _
      refine Calm.trans ?_ (State.xlast_calm ..)
      exact hx3

theorem State.againBad_calm (s : State) (owner : Nat) :
    Calm s (State.againBad s owner) := by
  unfold State.againBad
  refine Calm.upd ?_ rfl rfl rfl rfl rfl rfl rfl rfl
  exact Calm.refl _

theorem State.retire_steady (s : State) (l : Nat) (partner : Nat) (cause : Nat) (ownerT : Nat) (checkerT : Nat) (hyp
    : Nat) (ch : Nat) :
    Steady s (State.retire s l partner cause ownerT checkerT hyp ch) := by
  unfold State.retire
  refine Steady.ite ?_ ?_
  · exact Steady.refl _
  · extract_lets +onlyGivenNames -merge -underBinder x1 x2
    have hx2 : Steady s x2 := by
      unfold x2
      refine Steady.upd ?_ rfl rfl rfl rfl rfl rfl rfl rfl
      exact Steady.refl _
    extract_lets +onlyGivenNames -merge -underBinder x3
    have hx3 : Steady s x3 := by
      unfold x3
      refine Steady.trans ?_ (State.flag_calm ..).steady
      refine Steady.trans ?_ (State.migrate_calm ..).steady
      exact hx2
    extract_lets +onlyGivenNames -merge -underBinder x4
    have hx4 : Steady s x4 := by
      unfold x4
      refine Steady.ite ?_ ?_
      · refine Steady.trans ?_ (State.inc_calm ..).steady
        exact hx3
      · exact hx3
    extract_lets +onlyGivenNames -merge -underBinder x5
    have hx5 : Steady s x5 := by
      unfold x5
      refine Steady.trans ?_ (State.record_calm ..).steady
      exact hx4
    extract_lets +onlyGivenNames -merge -underBinder x6
    have hx6 : Steady s x6 := by
      unfold x6
      refine Steady.trans ?_ (State.trigger_calm ..).steady
      exact hx5
    refine Steady.ite ?_ ?_
    · refine Steady.trans ?_ (State.outEntry_steady ..)
      exact hx6
    · exact hx6

theorem State.bistEnds_steady (s : State) (lane : Nat) (ownerFails : Bool) (checkerFails : Bool) (third : ThirdResult) :
    Steady s (State.bistEnds s lane ownerFails checkerFails third) := by
  unfold State.bistEnds
  refine Steady.ite ?_ ?_
  · extract_lets +onlyGivenNames -merge -underBinder x1 x2
    have hx2 : Steady s x2 := by
      unfold x2
      refine Steady.upd ?_ rfl rfl rfl rfl rfl rfl rfl rfl
      exact Steady.refl _
    refine Steady.ite ?_ ?_
    · refine Steady.trans ?_ (State.retire_steady ..)
      exact hx2
    · refine Steady.trans ?_ (State.ostRefresh_calm ..).steady
      exact hx2
  · extract_lets +onlyGivenNames -merge -underBinder x3
    have hx3 : Steady s x3 := by
      unfold x3
      exact (State.againBad_calm ..).steady
    split
    · exact hx3
    · extract_lets +onlyGivenNames -merge -underBinder x4 x5
      have hx5 : Steady s x5 := by
        unfold x5
        refine Steady.upd ?_ rfl rfl rfl rfl rfl rfl rfl rfl
        exact hx3
      extract_lets +onlyGivenNames -merge -underBinder x6
      extract_lets +onlyGivenNames -merge -underBinder x7
      extract_lets +onlyGivenNames -merge -underBinder x8
      extract_lets +onlyGivenNames -merge -underBinder x9
      split
      · unfold x8
        refine Steady.trans ?_ (State.recheck_calm ..).steady
        refine Steady.trans ?_ (State.retire_steady ..)
        exact hx5
      · unfold x9
        refine Steady.trans ?_ (State.retire_steady ..)
        unfold x8
        refine Steady.trans ?_ (State.recheck_calm ..).steady
        refine Steady.trans ?_ (State.retire_steady ..)
        exact hx5
      · extract_lets +onlyGivenNames -merge -underBinder x10
        have hx10 : Steady s x10 := by
          unfold x10
          refine Steady.trans ?_ (State.recheck_calm ..).steady
          unfold x9
          refine Steady.trans ?_ (State.retire_steady ..)
          exact hx5
        refine Steady.ite ?_ ?_
        · exact hx10
        · refine Steady.trans ?_ (State.againBad_calm ..).steady
          exact hx10
      · split
        · unfold x9
          refine Steady.trans ?_ (State.retire_steady ..)
          exact hx5
        · unfold x8
          refine Steady.trans ?_ (State.recheck_calm ..).steady
          refine Steady.trans ?_ (State.retire_steady ..)
          exact hx5
        · unfold x9
          refine Steady.trans ?_ (State.retire_steady ..)
          unfold x8
          refine Steady.trans ?_ (State.recheck_calm ..).steady
          refine Steady.trans ?_ (State.retire_steady ..)
          exact hx5

theorem execBistDone_steady (dt : Nat) (lane : Fin 32) (ownerFails : Bool) (checkerFails : Bool) (third :
    ThirdResult) (s : State) :
    Ends Steady s (execBistDone dt lane ownerFails checkerFails third s) := by
  unfold execBistDone
  refine Ends.next ?_
  refine Steady.trans ?_ (State.trialOut_steady ..)
  refine Steady.trans ?_ (State.bistEnds_steady ..)
  exact (State.elapse_calm ..).steady

end Sys2Proof.Machine
end

