-- ==== Sys2Proof/Laws/Balance.lean ====
section
/-! SUPPORT. What the operations of Machine/Balance.lean leave alone (Laws/Keeps.lean). -/

namespace Sys2Proof.Machine

open Sys2Proof

theorem State.balStep_calm (s : State) (d : StepDue) :
    Calm s (State.balStep s d) := by
  unfold State.balStep
  extract_lets +onlyGivenNames -merge -underBinder x1
  extract_lets +onlyGivenNames -merge -underBinder x2
  extract_lets +onlyGivenNames -merge -underBinder x3
  extract_lets +onlyGivenNames -merge -underBinder x4 x5
  have hx5 : Calm s x5 := by
    unfold x5
    refine Calm.upd ?_ rfl rfl rfl rfl rfl rfl rfl rfl
    exact Calm.refl _
  extract_lets +onlyGivenNames -merge -underBinder x6
  have hx6 : Calm s x6 := by
    unfold x6
    refine Calm.trans ?_ (State.wrb_calm ..)
    refine Calm.trans ?_ (State.wrn_calm ..)
    exact hx5
  refine Calm.ite ?_ ?_
  · refine Calm.trans ?_ (State.mirrorItem_calm ..)
    exact hx6
  · exact hx6

theorem State.balTick_calm (s : State) :
    Calm s (State.balTick s) := by
  unfold State.balTick
  extract_lets +onlyGivenNames -merge -underBinder x1
  extract_lets +onlyGivenNames -merge -underBinder x2
  extract_lets +onlyGivenNames -merge -underBinder x3
  extract_lets +onlyGivenNames -merge -underBinder x4
  extract_lets +onlyGivenNames -merge -underBinder x5
  extract_lets +onlyGivenNames -merge -underBinder x6
  extract_lets +onlyGivenNames -merge -underBinder x7 x8
  have hx8 : Calm s x8 := by
    unfold x8
    refine Calm.upd ?_ rfl rfl rfl rfl rfl rfl rfl rfl
    exact Calm.refl _
  extract_lets +onlyGivenNames -merge -underBinder x9
  have hx9 : Calm s x9 := by
    unfold x9
    refine Calm.trans ?_ (State.wrf_calm ..)
    refine Calm.trans ?_ (State.wrb_calm ..)
    exact hx8
  refine Calm.ite ?_ ?_
  · exact hx9
  · extract_lets +onlyGivenNames -merge -underBinder x10
    have hx10 : Calm s x10 := by
      unfold x10
      split
      · refine Calm.trans ?_ (State.wr64_calm ..)
        exact hx9
      · exact hx9
    extract_lets +onlyGivenNames -merge -underBinder x11
    have hx11 : Calm s x11 := by
      unfold x11
      refine Calm.foldl ?_ (fun t12 a13 h14 => ?_)
      · exact hx10
      · refine Calm.trans ?_ (State.wrn_calm ..)
        exact h14
    refine Calm.ite ?_ ?_
    · exact hx11
    · split
      · extract_lets +onlyGivenNames -merge -underBinder x15
        have hx15 : Calm s x15 := by
          unfold x15
          refine Calm.trans ?_ (State.wayEntry_calm ..)
          exact hx11
        refine Calm.ite ?_ ?_
        · refine Calm.trans ?_ (State.incBy_calm ..)
          exact hx15
        · exact hx15

theorem State.block_calm (s : State) (c : Nat) (cmd : Int) (rb : Int) :
    Calm s (State.block s c cmd rb) := by
  unfold State.block
  extract_lets +onlyGivenNames -merge -underBinder x1 x2
  have hx2 : Calm s x2 := by
    unfold x2
    refine Calm.upd ?_ rfl rfl rfl rfl rfl rfl rfl rfl
    exact Calm.refl _
  extract_lets +onlyGivenNames -merge -underBinder x3
  have hx3 : Calm s x3 := by
    unfold x3
    refine Calm.trans ?_ (State.wrb_calm ..)
    exact hx2
  extract_lets +onlyGivenNames -merge -underBinder x4
  have hx4 : Calm s x4 := by
    unfold x4
    refine Calm.trans ?_ (State.wrf_calm ..)
    refine Calm.trans ?_ (State.flag_calm ..)
    refine Calm.trans ?_ (State.inc_calm ..)
    exact hx3
  refine Calm.trans ?_ (State.record_calm ..)
  exact hx4

theorem State.readback_calm (s : State) (d : StepDue) (c : Nat) :
    Calm s (State.readback s d c) := by
  unfold State.readback
  extract_lets +onlyGivenNames -merge -underBinder x1
  extract_lets +onlyGivenNames -merge -underBinder x2
  refine Calm.ite ?_ ?_
  · exact Calm.refl _
  · extract_lets +onlyGivenNames -merge -underBinder x3
    refine Calm.ite ?_ ?_
    · refine Calm.upd ?_ rfl rfl rfl rfl rfl rfl rfl rfl
      exact Calm.refl _
    · extract_lets +onlyGivenNames -merge -underBinder x4
      refine Calm.ite ?_ ?_
      · exact (State.block_calm ..)
      · refine Calm.upd ?_ rfl rfl rfl rfl rfl rfl rfl rfl
        exact Calm.refl _

theorem State.readbackAll_calm (s : State) (d : StepDue) :
    Calm s (State.readbackAll s d) := by
  unfold State.readbackAll
  refine Calm.ite ?_ ?_
  · refine Calm.foldl ?_ (fun t1 a2 h3 => ?_)
    · exact Calm.refl _
    · refine Calm.trans ?_ (State.readback_calm ..)
      exact h3
  · exact Calm.refl _

theorem State.unblock_calm (s : State) (f : Nat → Bool) :
    Calm s (State.unblock s f) := by
  unfold State.unblock
  extract_lets +onlyGivenNames -merge -underBinder x1
  have hx1 : Calm s x1 := by
    unfold x1
    refine Calm.foldl ?_ (fun t2 a3 h4 => ?_)
    · exact Calm.refl _
    · refine Calm.trans ?_ (State.wrb_calm ..)
      exact h4
  extract_lets +onlyGivenNames -merge -underBinder x5 x6
  have hx6 : Calm s x6 := by
    unfold x6
    refine Calm.upd ?_ rfl rfl rfl rfl rfl rfl rfl rfl
    exact hx1
  refine Calm.trans ?_ (State.wrf_calm ..)
  exact hx6

theorem execUnblock_calm (dt : Nat) (ch : Fin 512) (s : State) :
    Ends Calm s (execUnblock dt ch s) := by
  unfold execUnblock
  refine Ends.next ?_
  refine Calm.hostDo ?_ (fun t1 h2 => ?_)
  · exact (State.elapse_calm ..)
  · refine Calm.trans ?_ (State.unblock_calm ..)
    exact h2

theorem execUnblockAll_calm (dt : Nat) (s : State) :
    Ends Calm s (execUnblockAll dt s) := by
  unfold execUnblockAll
  refine Ends.next ?_
  refine Calm.hostDo ?_ (fun t1 h2 => ?_)
  · exact (State.elapse_calm ..)
  · refine Calm.trans ?_ (State.unblock_calm ..)
    exact h2

theorem State.toneStep_calm (s : State) (te : Nat) (c : Nat) (m : Nat) :
    Calm s (State.toneStep s te c m) := by
  unfold State.toneStep
  extract_lets +onlyGivenNames -merge -underBinder x1
  extract_lets +onlyGivenNames -merge -underBinder x2
  extract_lets +onlyGivenNames -merge -underBinder x3
  split
  · extract_lets +onlyGivenNames -merge -underBinder x4 x5
    have hx5 : Calm s x5 := by
      unfold x5
      refine Calm.upd ?_ rfl rfl rfl rfl rfl rfl rfl rfl
      exact Calm.refl _
    extract_lets +onlyGivenNames -merge -underBinder x6
    refine Calm.ite ?_ ?_
    · refine Calm.trans ?_ (State.flag_calm ..)
      refine Calm.trans ?_ (State.inc_calm ..)
      exact hx5
    · exact hx5
  · extract_lets +onlyGivenNames -merge -underBinder x7 x8
    have hx8 : Calm s x8 := by
      unfold x8
      refine Calm.upd ?_ rfl rfl rfl rfl rfl rfl rfl rfl
      exact Calm.refl _
    refine Calm.trans ?_ (State.flag_calm ..)
    refine Calm.trans ?_ (State.inc_calm ..)
    exact hx8

theorem execImpedancePublished_calm (dt : Nat) (s : State) :
    Ends Calm s (execImpedancePublished dt s) := by
  unfold execImpedancePublished
  extract_lets +onlyGivenNames -merge -underBinder x1
  have hx1 : Calm s x1 := by
    unfold x1
    exact (State.elapse_calm ..)
  split
  · refine Ends.next ?_
    exact hx1
  · extract_lets +onlyGivenNames -merge -underBinder x2
    extract_lets +onlyGivenNames -merge -underBinder x3 x4
    have hx4 : Calm s x4 := by
      unfold x4
      refine Calm.upd ?_ rfl rfl rfl rfl rfl rfl rfl rfl
      exact hx1
    extract_lets +onlyGivenNames -merge -underBinder x5
    have hx5 : Calm s x5 := by
      unfold x5
      refine Calm.foldl ?_ (fun t6 a7 h8 => ?_)
      · exact hx4
      · refine Calm.foldl ?_ (fun t9 a10 h11 => ?_)
        · exact h8
        · refine Calm.trans ?_ (State.toneStep_calm ..)
          exact h11
    refine Ends.next ?_
    refine Calm.trans ?_ (State.wayEntry_calm ..)
    exact hx5

theorem State.chipBoundary_calm (s : State) :
    Calm s (State.chipBoundary s) := by
  unfold State.chipBoundary
  refine Calm.ite ?_ ?_
  · refine Calm.upd ?_ rfl rfl rfl rfl rfl rfl rfl rfl
    exact Calm.refl _
  · exact Calm.refl _

theorem State.istrSample_calm (s : State) (tick : Nat) (ma : Option Rat) :
    Calm s (State.istrSample s tick ma) := by
  unfold State.istrSample
  refine Calm.ite ?_ ?_
  · refine Calm.upd ?_ rfl rfl rfl rfl rfl rfl rfl rfl
    exact Calm.refl _
  · exact Calm.refl _

theorem State.zselLatch_calm (s : State) (ch : Nat) :
    Calm s (State.zselLatch s ch) := by
  unfold State.zselLatch
  extract_lets +onlyGivenNames -merge -underBinder x1
  have hx1 : Calm s x1 := by
    unfold x1
    exact (State.wrn_calm ..)
  extract_lets +onlyGivenNames -merge -underBinder x2
  extract_lets +onlyGivenNames -merge -underBinder x3
  have hx3 : Calm s x3 := by
    unfold x3
    refine Calm.foldl ?_ (fun t4 a5 h6 => ?_)
    · exact hx1
    · refine Calm.trans ?_ (State.wri_calm ..)
      refine Calm.trans ?_ (State.wri_calm ..)
      exact h6
  extract_lets +onlyGivenNames -merge -underBinder x7
  have hx7 : Calm s x7 := by
    unfold x7
    refine Calm.trans ?_ (State.wrn_calm ..)
    exact hx3
  refine Calm.trans ?_ (State.wr64_calm ..)
  exact hx7

theorem execZselLatch_calm (dt : Nat) (ch : Fin 512) (s : State) :
    Ends Calm s (execZselLatch dt ch s) := by
  unfold execZselLatch
  refine Ends.next ?_
  refine Calm.hostDo ?_ (fun t1 h2 => ?_)
  · exact (State.elapse_calm ..)
  · refine Calm.trans ?_ (State.zselLatch_calm ..)
    exact h2

end Sys2Proof.Machine
end

