-- ==== Sys2Proof/Laws/Bitstream.lean ====
section
/-! SUPPORT. What the operations of Machine/Bitstream.lean leave alone (Laws/Keeps.lean). -/

namespace Sys2Proof.Machine

open Sys2Proof

theorem State.invalidShow_steady (s : State) :
    Steady s (State.invalidShow s) := by
  unfold State.invalidShow
  extract_lets +onlyGivenNames -merge -underBinder x1
  extract_lets +onlyGivenNames -merge -underBinder x2
  extract_lets +onlyGivenNames -merge -underBinder x3
  have hx3 : Steady s x3 := by
    unfold x3
    exact (State.wrn_calm ..).steady
  extract_lets +onlyGivenNames -merge -underBinder x4
  have hx4 : Steady s x4 := by
    unfold x4
    refine Steady.ite ?_ ?_
    · exact hx3
    · refine Steady.trans ?_ (State.flag_calm ..).steady
      exact hx3
  refine Steady.trans ?_ (State.setSource_steady ..)
  exact hx4

theorem State.invalidate_calm (s : State) (n : Nat) :
    Calm s (State.invalidate s n) := by
  unfold State.invalidate
  exact (State.setModIn_calm ..)

theorem State.invalidateGroup_steady (s : State) (g : Nat) :
    Steady s (State.invalidateGroup s g) := by
  unfold State.invalidateGroup
  refine Steady.trans ?_ (State.invalidShow_steady ..)
  refine Steady.foldl ?_ (fun t1 a2 h3 => ?_)
  · exact Steady.refl _
  · refine Steady.ite ?_ ?_
    · refine Steady.trans ?_ (State.invalidate_calm ..).steady
      exact h3
    · exact h3

theorem State.unsampled_calm (s : State) (g : Nat) (n : Nat) :
    Calm s (State.unsampled s g n) := by
  unfold State.unsampled
  refine Calm.ite ?_ ?_
  · exact Calm.refl _
  · extract_lets +onlyGivenNames -merge -underBinder x1
    have hx1 : Calm s x1 := by
      unfold x1
      exact (State.incBy_calm ..)
    extract_lets +onlyGivenNames -merge -underBinder x2 x3
    have hx3 : Calm s x3 := by
      unfold x3
      refine Calm.ite ?_ ?_
      · refine Calm.upd ?_ rfl rfl rfl rfl rfl rfl rfl rfl
        exact hx1
      · exact hx1
    extract_lets +onlyGivenNames -merge -underBinder x4
    have hx4 : Calm s x4 := by
      unfold x4
      refine Calm.foldl ?_ (fun t5 a6 h7 => ?_)
      · exact hx3
      · refine Calm.ite ?_ ?_
        · refine Calm.trans ?_ (State.setModIn_calm ..)
          exact h7
        · exact h7
    refine Calm.foldl ?_ (fun t8 a9 h10 => ?_)
    · exact hx4
    · refine Calm.ite ?_ ?_
      · refine Calm.trans ?_ (State.setSlot_calm ..)
        exact h10
      · exact h10

theorem State.clockLoss_steady (s : State) (g : Nat) (unsampled : Nat) :
    Steady s (State.clockLoss s g unsampled) := by
  unfold State.clockLoss
  extract_lets +onlyGivenNames -merge -underBinder x1
  have hx1 : Steady s x1 := by
    unfold x1
    refine Steady.trans ?_ (State.flag_calm ..).steady
    exact (State.incf_calm ..).steady
  extract_lets +onlyGivenNames -merge -underBinder x2
  have hx2 : Steady s x2 := by
    unfold x2
    refine Steady.trans ?_ (State.wrb_calm ..).steady
    exact hx1
  extract_lets +onlyGivenNames -merge -underBinder x3 x4 x5
  have hx3 : Steady s x3 := by
    unfold x3
    refine Steady.trans ?_ (State.wrb_calm ..).steady
    exact hx2
  have hx5 : Steady s x5 := by
    unfold x5
    refine Steady.ite ?_ ?_
    · exact hx2
    · refine Steady.upd ?_ rfl rfl rfl rfl rfl rfl rfl rfl
      exact hx3
  refine Steady.trans ?_ (State.invalidateGroup_steady ..)
  refine Steady.trans ?_ (State.unsampled_calm ..).steady
  exact hx5

theorem State.stuckRun_steady (s : State) (n : Nat) :
    Steady s (State.stuckRun s n) := by
  unfold State.stuckRun
  extract_lets +onlyGivenNames -merge -underBinder x1
  extract_lets +onlyGivenNames -merge -underBinder x2 x3
  have hx3 : Steady s x3 := by
    unfold x3
    refine Steady.ite ?_ ?_
    · exact (State.setModIn_calm ..).steady
    · exact Steady.refl _
  refine Steady.trans ?_ (State.invalidShow_steady ..)
  refine Steady.trans ?_ (State.invalidate_calm ..).steady
  refine Steady.trans ?_ (State.flag_calm ..).steady
  refine Steady.trans ?_ (State.inc_calm ..).steady
  exact hx3

theorem State.showDelays_calm (s : State) :
    Calm s (State.showDelays s) := by
  unfold State.showDelays
  refine Calm.foldl ?_ (fun t1 a2 h3 => ?_)
  · exact Calm.refl _
  · refine Calm.ite ?_ ?_
    · split
      rename_i y4 y5 e6
      have hy5 : Calm s y5 := by
        refine Calm.snd e6 ?_
        refine Calm.trans ?_ (State.draw_calm ..)
        exact h3
      refine Calm.trans ?_ (State.wrf_calm ..)
      exact hy5
    · refine Calm.trans ?_ (State.wrf_calm ..)
      exact h3

theorem execMckselChange_steady (dt : Nat) (toB : Bool) (unsampled0 : Nat) (unsampled1 : Nat) (s : State) :
    Ends Steady s (execMckselChange dt toB unsampled0 unsampled1 s) := by
  unfold execMckselChange
  extract_lets +onlyGivenNames -merge -underBinder x1
  have hx1 : Steady s x1 := by
    unfold x1
    exact (State.elapse_calm ..).steady
  extract_lets +onlyGivenNames -merge -underBinder x2 x3
  have hx3 : Steady s x3 := by
    unfold x3
    refine Steady.upd ?_ rfl rfl rfl rfl rfl rfl rfl rfl
    exact hx1
  extract_lets +onlyGivenNames -merge -underBinder x4
  have hx4 : Steady s x4 := by
    unfold x4
    refine Steady.trans ?_ (State.wrb_calm ..).steady
    exact hx3
  refine Ends.ite ?_ ?_
  · refine Ends.next ?_
    exact hx4
  · extract_lets +onlyGivenNames -merge -underBinder x5
    have hx5 : Steady s x5 := by
      unfold x5
      refine Steady.trans ?_ (State.flag_calm ..).steady
      refine Steady.trans ?_ (State.incf_calm ..).steady
      exact hx4
    extract_lets +onlyGivenNames -merge -underBinder x6
    have hx6 : Steady s x6 := by
      unfold x6
      refine Steady.trans ?_ (State.showDelays_calm ..).steady
      refine Steady.trans ?_ (State.unsampled_calm ..).steady
      refine Steady.trans ?_ (State.unsampled_calm ..).steady
      exact hx5
    refine Ends.ite ?_ ?_
    · refine Ends.next ?_
      refine Steady.foldl ?_ (fun t7 a8 h9 => ?_)
      · exact hx6
      · refine Steady.ite ?_ ?_
        · exact h9
        · extract_lets +onlyGivenNames -merge -underBinder x10 x11
          have hx11 : Steady s x11 := by
            unfold x11
            refine Steady.upd ?_ rfl rfl rfl rfl rfl rfl rfl rfl
            exact h9
          refine Steady.trans ?_ (State.invalidateGroup_steady ..)
          refine Steady.trans ?_ (State.wrb_calm ..).steady
          exact hx11
    · refine Ends.next ?_
      exact hx6

theorem State.takeLatches_calm (s : State) (g : Nat) (m : List Byte) :
    Calm s (State.takeLatches s g m) := by
  unfold State.takeLatches
  refine Calm.foldl ?_ (fun t1 a2 h3 => ?_)
  · exact Calm.refl _
  · split
    · refine Calm.ite ?_ ?_
      · refine Calm.trans ?_ (State.setModIn_calm ..)
        exact h3
      · exact h3
    · exact h3

theorem execIndexLock_calm (dt : Nat) (f : TandemHead) (bytes : List Byte) (own : BitVec 68) (s : State) :
    Ends Calm s (execIndexLock dt f bytes own s) := by
  unfold execIndexLock
  split
  rename_i y1 y2 e3
  have hy2 : Calm s y2 := by
    refine Calm.snd e3 ?_
    refine Calm.trans ?_ (State.takeFrame_calm ..)
    exact (State.elapse_calm ..)
  extract_lets +onlyGivenNames -merge -underBinder x4
  refine Ends.ite ?_ ?_
  · refine Ends.next ?_
    exact hy2
  · split
    · extract_lets +onlyGivenNames -merge -underBinder x5
      have hx5 : Calm s x5 := by
        unfold x5
        refine Calm.trans ?_ (State.takeLatches_calm ..)
        exact hy2
      refine Ends.next ?_
      refine Calm.upd ?_ rfl rfl rfl rfl rfl rfl rfl rfl
      exact hx5
    · extract_lets +onlyGivenNames -merge -underBinder x6
      refine Ends.ite ?_ ?_
      · extract_lets +onlyGivenNames -merge -underBinder x7 x8
        have hx8 : Calm s x8 := by
          unfold x8
          refine Calm.upd ?_ rfl rfl rfl rfl rfl rfl rfl rfl
          exact hy2
        refine Ends.next ?_
        refine Calm.trans ?_ (State.flag_calm ..)
        refine Calm.trans ?_ (State.incf_calm ..)
        exact hx8
      · refine Ends.next ?_
        refine Calm.upd ?_ rfl rfl rfl rfl rfl rfl rfl rfl
        exact hy2

theorem State.wr96_calm (s : State) (base : Nat) (v : Int) :
    Calm s (State.wr96 s base v) := by
  unfold State.wr96
  extract_lets +onlyGivenNames -merge -underBinder x1
  refine Calm.trans ?_ (State.wrn_calm ..)
  refine Calm.trans ?_ (State.wrn_calm ..)
  exact (State.wrn_calm ..)

theorem State.inputStage_calm (s : State) (n : Nat) :
    Calm s (State.inputStage s n) := by
  unfold State.inputStage
  extract_lets +onlyGivenNames -merge -underBinder x1
  exact (State.setModIn_calm ..)

theorem State.inputTick_calm (s : State) (x : TickInputs) (n : Nat) :
    Calm s (State.inputTick s x n) := by
  unfold State.inputTick
  extract_lets +onlyGivenNames -merge -underBinder x1
  extract_lets +onlyGivenNames -merge -underBinder x2
  extract_lets +onlyGivenNames -merge -underBinder x3
  extract_lets +onlyGivenNames -merge -underBinder x4
  extract_lets +onlyGivenNames -merge -underBinder x5
  extract_lets +onlyGivenNames -merge -underBinder x6
  extract_lets +onlyGivenNames -merge -underBinder x7
  extract_lets +onlyGivenNames -merge -underBinder x8
  have hx8 : Calm s x8 := by
    unfold x8
    exact (State.setModIn_calm ..)
  extract_lets +onlyGivenNames -merge -underBinder x9
  have hx9 : Calm s x9 := by
    unfold x9
    refine Calm.ite ?_ ?_
    · refine Calm.trans ?_ (State.inputStage_calm ..)
      exact hx8
    · exact hx8
  split
  · refine Calm.trans ?_ (State.wr96_calm ..)
    exact hx9
  · exact hx9

theorem State.reportLocks_calm (s : State) :
    Calm s (State.reportLocks s) := by
  unfold State.reportLocks
  extract_lets +onlyGivenNames -merge -underBinder x1
  have hx1 : Calm s x1 := by
    unfold x1
    refine Calm.foldl ?_ (fun t2 a3 h4 => ?_)
    · exact Calm.refl _
    · refine Calm.ite ?_ ?_
      · refine Calm.trans ?_ (State.wrb_calm ..)
        exact h4
      · exact h4
  refine Calm.upd ?_ rfl rfl rfl rfl rfl rfl rfl rfl
  exact hx1

theorem State.unsampStage_calm (s : State) :
    Calm s (State.unsampStage s) := by
  unfold State.unsampStage
  refine Calm.ite ?_ ?_
  · refine Calm.upd ?_ rfl rfl rfl rfl rfl rfl rfl rfl
    exact Calm.refl _
  · exact Calm.refl _

theorem State.modTick_steady (s : State) (x : TickInputs) :
    Steady s (State.modTick s x) := by
  unfold State.modTick
  refine Steady.ite ?_ ?_
  · exact Steady.refl _
  · extract_lets +onlyGivenNames -merge -underBinder x1
    have hx1 : Steady s x1 := by
      unfold x1
      refine Steady.foldl ?_ (fun t2 a3 h4 => ?_)
      · exact (State.reportLocks_calm ..).steady
      · refine Steady.trans ?_ (State.inputTick_calm ..).steady
        exact h4
    extract_lets +onlyGivenNames -merge -underBinder x5 x6 x7
    have hx5 : Steady s x5 := by
      unfold x5
      refine Steady.trans ?_ (State.unsampStage_calm ..).steady
      exact hx1
    have hx7 : Steady s x7 := by
      unfold x7
      refine Steady.upd ?_ rfl rfl rfl rfl rfl rfl rfl rfl
      exact hx5
    extract_lets +onlyGivenNames -merge -underBinder x8
    extract_lets +onlyGivenNames -merge -underBinder x9
    have hx9 : Steady s x9 := by
      unfold x9
      refine Steady.ite ?_ ?_
      · refine Steady.trans ?_ (State.wrb_calm ..).steady
        exact hx7
      · exact hx7
    extract_lets +onlyGivenNames -merge -underBinder x10
    have hx10 : Steady s x10 := by
      unfold x10
      refine Steady.ite ?_ ?_
      · refine Steady.trans ?_ (State.wrb_calm ..).steady
        exact hx9
      · exact hx9
    refine Steady.trans ?_ (State.invalidShow_steady ..)
    refine Steady.trans ?_ (State.wr64_calm ..).steady
    exact hx10

theorem State.crossCompare_steady (s : State) (q0 : Option Int) (q1 : Option Int) :
    Steady s (State.crossCompare s q0 q1) := by
  unfold State.crossCompare
  refine Steady.ite ?_ ?_
  · extract_lets +onlyGivenNames -merge -underBinder x1 x2
    have hx2 : Steady s x2 := by
      unfold x2
      refine Steady.upd ?_ rfl rfl rfl rfl rfl rfl rfl rfl
      exact Steady.refl _
    refine Steady.trans ?_ (State.setSource_steady ..)
    refine Steady.trans ?_ (State.wrb_calm ..).steady
    refine Steady.trans ?_ (State.wrf_calm ..).steady
    exact hx2
  · split
    · extract_lets +onlyGivenNames -merge -underBinder x3
      extract_lets +onlyGivenNames -merge -underBinder x4
      extract_lets +onlyGivenNames -merge -underBinder x5
      extract_lets +onlyGivenNames -merge -underBinder x6
      extract_lets +onlyGivenNames -merge -underBinder x7 x8
      have hx8 : Steady s x8 := by
        unfold x8
        refine Steady.upd ?_ rfl rfl rfl rfl rfl rfl rfl rfl
        exact Steady.refl _
      extract_lets +onlyGivenNames -merge -underBinder x9
      have hx9 : Steady s x9 := by
        unfold x9
        refine Steady.ite ?_ ?_
        · refine Steady.trans ?_ (State.inc_calm ..).steady
          exact hx8
        · exact hx8
      extract_lets +onlyGivenNames -merge -underBinder x10
      have hx10 : Steady s x10 := by
        unfold x10
        refine Steady.ite ?_ ?_
        · refine Steady.trans ?_ (State.flag_calm ..).steady
          exact hx9
        · exact hx9
      refine Steady.trans ?_ (State.setSource_steady ..)
      refine Steady.trans ?_ (State.wrb_calm ..).steady
      refine Steady.trans ?_ (State.wrf_calm ..).steady
      exact hx10
    · exact Steady.refl _

theorem State.wri64_calm (s : State) (p : Page) (lo : Nat) (hi : Nat) (v : Int) :
    Calm s (State.wri64 s p lo hi v) := by
  unfold State.wri64
  exact (State.wr64_calm ..)

theorem State.stageCharges_steady (s : State) (st : Nat) :
    Steady s (State.stageCharges s st) := by
  unfold State.stageCharges
  extract_lets +onlyGivenNames -merge -underBinder x1
  extract_lets +onlyGivenNames -merge -underBinder x2
  extract_lets +onlyGivenNames -merge -underBinder x3
  extract_lets +onlyGivenNames -merge -underBinder x4
  extract_lets +onlyGivenNames -merge -underBinder x5
  extract_lets +onlyGivenNames -merge -underBinder x6
  extract_lets +onlyGivenNames -merge -underBinder x7 x8
  have hx8 : Steady s x8 := by
    unfold x8
    refine Steady.upd ?_ rfl rfl rfl rfl rfl rfl rfl rfl
    exact Steady.refl _
  extract_lets +onlyGivenNames -merge -underBinder x9
  have hx9 : Steady s x9 := by
    unfold x9
    refine Steady.ite ?_ ?_
    · refine Steady.trans ?_ (State.flag_calm ..).steady
      refine Steady.trans ?_ (State.inc_calm ..).steady
      exact hx8
    · refine Steady.ite ?_ ?_
      · exact hx8
      · refine Steady.trans ?_ (State.flag_calm ..).steady
        exact hx8
  extract_lets +onlyGivenNames -merge -underBinder x10
  have hx10 : Steady s x10 := by
    unfold x10
    refine Steady.trans ?_ (State.wri64_calm ..).steady
    refine Steady.trans ?_ (State.wri64_calm ..).steady
    refine Steady.trans ?_ (State.wri64_calm ..).steady
    exact hx9
  extract_lets +onlyGivenNames -merge -underBinder x11
  have hx11 : Steady s x11 := by
    unfold x11
    refine Steady.trans ?_ (State.wr64_calm ..).steady
    exact hx10
  extract_lets +onlyGivenNames -merge -underBinder x12
  have hx12 : Steady s x12 := by
    unfold x12
    refine Steady.trans ?_ (State.wrb_calm ..).steady
    refine Steady.trans ?_ (State.wrb_calm ..).steady
    refine Steady.trans ?_ (State.wrf_calm ..).steady
    exact hx11
  extract_lets +onlyGivenNames -merge -underBinder x13
  have hx13 : Steady s x13 := by
    unfold x13
    refine Steady.trans ?_ (State.crossCompare_steady ..)
    exact hx12
  extract_lets +onlyGivenNames -merge -underBinder x14
  have hx14 : Steady s x14 := by
    unfold x14
    refine Steady.foldl ?_ (fun t15 a16 h17 => ?_)
    · exact hx13
    · split
      · refine Steady.trans ?_ (State.wr96_calm ..).steady
        exact h17
      · exact h17
  refine Steady.trans ?_ (State.wr64_calm ..).steady
  exact hx14

theorem State.fastOutput_steady (s : State) (n : Nat) (w : BitWindow) :
    Steady s (State.fastOutput s n w) := by
  unfold State.fastOutput
  extract_lets +onlyGivenNames -merge -underBinder x1
  refine Steady.ite ?_ ?_
  · exact Steady.refl _
  · extract_lets +onlyGivenNames -merge -underBinder x2
    extract_lets +onlyGivenNames -merge -underBinder x3
    extract_lets +onlyGivenNames -merge -underBinder x4
    have hx4 : Steady s x4 := by
      unfold x4
      exact (State.wri_calm ..).steady
    extract_lets +onlyGivenNames -merge -underBinder x5 x6
    have hx6 : Steady s x6 := by
      unfold x6
      refine Steady.trans ?_ (State.setModIn_calm ..).steady
      exact hx4
    refine Steady.ite ?_ ?_
    · refine Steady.trans ?_ (State.fastCompare_steady ..)
      exact hx6
    · exact hx6

end Sys2Proof.Machine
end

