-- ==== Sys2Proof/Laws/Clock.lean ====
section
/-! SUPPORT. What the operations of Machine/Clock.lean leave alone (Laws/Keeps.lean). -/

namespace Sys2Proof.Machine

open Sys2Proof

theorem sget_moved_forced (d : Int) (l : List (Nat × PairSt)) (k : Nat) :
    (sget {} (l.map (fun (e : Nat × PairSt) => (e.1, { e.2 with
      last := Machine.moved d e.2.last
      shadow := e.2.shadow.map (fun (x : Nat × Nat) => (x.1, Machine.moved d x.2)) }))) k : PairSt).forced =
      (sget {} l k : PairSt).forced := by
  induction l with
  | nil => rfl
  | cons a l ih =>
    simp only [List.map_cons, sget]
    split
    · rfl
    · exact ih

theorem State.stepMt_steady (s : State) (mt : Nat) : Steady s (s.stepMt mt) := by
  unfold State.stepMt
  refine ⟨⟨rfl, id, le_refl _, List.suffix_refl _⟩, fun i => ⟨fun k => ?_, fun k => ?_⟩⟩
  · refine (i.1 k).imp id (fun h => ?_)
    exact (Option.isSome_map ..).trans h
  · have o := i.2 k
    exact ⟨o.1, o.2.1, fun m hm => (sget_moved_forced _ _ _).trans (o.2.2 m hm)⟩

end Sys2Proof.Machine
end

