-- ==== Sys2Proof/Laws/Digest.lean ====
section
/-! SUPPORT. What the operations of Machine/Digest.lean leave alone (Laws/Keeps.lean). -/

namespace Sys2Proof.Machine

open Sys2Proof

theorem State.askRepair_calm (s : State) (slots : Nat) (chans : List Nat) :
    Calm s (State.askRepair s slots chans) := by
  unfold State.askRepair
  refine Calm.ite ?_ ?_
  · exact Calm.refl _
  · extract_lets +onlyGivenNames -merge -underBinder x1
    extract_lets +onlyGivenNames -merge -underBinder x2
    extract_lets +onlyGivenNames -merge -underBinder x3
    extract_lets +onlyGivenNames -merge -underBinder x4
    extract_lets +onlyGivenNames -merge -underBinder x5
    have hx5 : Calm s x5 := by
      unfold x5
      exact (State.setTdm_calm ..)
    refine Calm.trans ?_ (State.sendFrame_calm ..)
    exact hx5

theorem State.askFullRepair_calm (s : State) :
    Calm s (State.askFullRepair s) := by
  unfold State.askFullRepair
  extract_lets +onlyGivenNames -merge -underBinder x1
  extract_lets +onlyGivenNames -merge -underBinder x2
  have hx2 : Calm s x2 := by
    unfold x2
    exact (State.setTdm_calm ..)
  refine Calm.trans ?_ (State.sendFrame_calm ..)
  exact hx2

theorem State.askRepairFor_calm (s : State) (e : EvItem) :
    Calm s (State.askRepairFor s e) := by
  unfold State.askRepairFor
  extract_lets +onlyGivenNames -merge -underBinder x1
  extract_lets +onlyGivenNames -merge -underBinder x2
  refine Calm.ite ?_ ?_
  · exact (State.askRepair_calm ..)
  · refine Calm.ite ?_ ?_
    · exact (State.askRepair_calm ..)
    · exact (State.askFullRepair_calm ..)

theorem State.standbyFault_steady (s : State) :
    Steady s (State.standbyFault s) := by
  unfold State.standbyFault
  extract_lets +onlyGivenNames -merge -underBinder x1
  extract_lets +onlyGivenNames -merge -underBinder x2
  extract_lets +onlyGivenNames -merge -underBinder x3
  have hx3 : Steady s x3 := by
    unfold x3
    exact (State.setTdm_calm ..).steady
  refine Steady.ite ?_ ?_
  · refine Steady.trans ?_ (State.outEntry_steady ..)
    exact hx3
  · exact hx3

theorem State.mismatch_calm (s : State) (slot : Bool) (explained : Bool) (idx : Nat) (num : Nat) :
    Calm s (State.mismatch s slot explained idx num) := by
  unfold State.mismatch
  extract_lets +onlyGivenNames -merge -underBinder x1
  have hx1 : Calm s x1 := by
    unfold x1
    refine Calm.trans ?_ (State.flag_calm ..)
    exact (State.inc_calm ..)
  extract_lets +onlyGivenNames -merge -underBinder x2
  have hx2 : Calm s x2 := by
    unfold x2
    refine Calm.trans ?_ (State.wrn_calm ..)
    exact hx1
  extract_lets +onlyGivenNames -merge -underBinder x3
  have hx3 : Calm s x3 := by
    unfold x3
    refine Calm.trans ?_ (State.wr64_calm ..)
    exact hx2
  refine Calm.ite ?_ ?_
  · exact hx3
  · refine Calm.trans ?_ (State.setTdm_calm ..)
    refine Calm.trans ?_ (State.inc_calm ..)
    exact hx3

theorem State.compareStage_steady (s : State) :
    Steady s (State.compareStage s) := by
  unfold State.compareStage
  extract_lets +onlyGivenNames -merge -underBinder x1
  extract_lets +onlyGivenNames -merge -underBinder x2
  refine Steady.ite ?_ ?_
  · extract_lets +onlyGivenNames -merge -underBinder x3
    extract_lets +onlyGivenNames -merge -underBinder x4
    extract_lets +onlyGivenNames -merge -underBinder x5
    extract_lets +onlyGivenNames -merge -underBinder x6
    have hx6 : Steady s x6 := by
      unfold x6
      exact (State.setTdm_calm ..).steady
    extract_lets +onlyGivenNames -merge -underBinder x7
    have hx7 : Steady s x7 := by
      unfold x7
      refine Steady.ite ?_ ?_
      · refine Steady.trans ?_ (State.askRepair_calm ..).steady
        refine Steady.trans ?_ (State.mismatch_calm ..).steady
        exact hx6
      · exact hx6
    extract_lets +onlyGivenNames -merge -underBinder x8
    have hx8 : Steady s x8 := by
      unfold x8
      refine Steady.foldl ?_ (fun t9 a10 h11 => ?_)
      · exact hx7
      · refine Steady.trans ?_ (State.mismatch_calm ..).steady
        exact h11
    extract_lets +onlyGivenNames -merge -underBinder x12
    have hx12 : Steady s x12 := by
      unfold x12
      refine Steady.ite ?_ ?_
      · exact hx8
      · refine Steady.trans ?_ (State.askRepair_calm ..).steady
        exact hx8
    refine Steady.trans ?_ (State.standbyFault_steady ..)
    exact hx12
  · exact Steady.refl _

theorem State.compareLoop_steady (s : State) :
    Steady s (State.compareLoop s) := by
  unfold State.compareLoop
  extract_lets +onlyGivenNames -merge -underBinder x1
  extract_lets +onlyGivenNames -merge -underBinder x2
  refine Steady.ite ?_ ?_
  · extract_lets +onlyGivenNames -merge -underBinder x3
    extract_lets +onlyGivenNames -merge -underBinder x4
    extract_lets +onlyGivenNames -merge -underBinder x5
    extract_lets +onlyGivenNames -merge -underBinder x6
    have hx6 : Steady s x6 := by
      unfold x6
      exact (State.setTdm_calm ..).steady
    extract_lets +onlyGivenNames -merge -underBinder x7
    have hx7 : Steady s x7 := by
      unfold x7
      refine Steady.foldl ?_ (fun t8 a9 h10 => ?_)
      · exact hx6
      · refine Steady.trans ?_ (State.mismatch_calm ..).steady
        exact h10
    extract_lets +onlyGivenNames -merge -underBinder x11
    have hx11 : Steady s x11 := by
      unfold x11
      refine Steady.ite ?_ ?_
      · exact hx7
      · refine Steady.trans ?_ (State.askRepair_calm ..).steady
        exact hx7
    refine Steady.trans ?_ (State.standbyFault_steady ..)
    exact hx11
  · exact Steady.refl _

end Sys2Proof.Machine
end

