-- ==== Sys2Proof/Laws/CellThermal.lean ====
section
/-! SUPPORT. What the operations of Machine/CellThermal.lean leave alone (Laws/Keeps.lean). -/

namespace Sys2Proof.Machine

open Sys2Proof

theorem State.setTherm_calm (s : State) (c : Nat) (v : ThermSt) :
    Calm s (State.setTherm s c v) := by
  unfold State.setTherm
  refine Calm.upd ?_ rfl rfl rfl rfl rfl rfl rfl rfl
  exact Calm.refl _

theorem State.thermInit_calm (s : State) (d : StepDue) :
    Calm s (State.thermInit s d) := by
  unfold State.thermInit
  extract_lets +onlyGivenNames -merge -underBinder x1
  have hx1 : Calm s x1 := by
    unfold x1
    refine Calm.foldl ?_ (fun t2 a3 h4 => ?_)
    · exact Calm.refl _
    · extract_lets +onlyGivenNames -merge -underBinder x5
      extract_lets +onlyGivenNames -merge -underBinder x6
      refine Calm.trans ?_ (State.setTherm_calm ..)
      exact h4
  refine Calm.upd ?_ rfl rfl rfl rfl rfl rfl rfl rfl
  exact hx1

theorem State.sensorRecord_calm (s : State) (event : Nat) (c : Nat) (k : Nat) (v : SensorSt) :
    Calm s (State.sensorRecord s event c k v) := by
  unfold State.sensorRecord
  exact (State.record_calm ..)

theorem State.judgeSensor_calm (s : State) (d : StepDue) (old : List (Nat × ThermSt)) (c : Nat) (k : Nat) :
    Calm s (State.judgeSensor s d old c k) := by
  unfold State.judgeSensor
  extract_lets +onlyGivenNames -merge -underBinder x1
  extract_lets +onlyGivenNames -merge -underBinder x2
  extract_lets +onlyGivenNames -merge -underBinder x3
  extract_lets +onlyGivenNames -merge -underBinder x4 x5
  extract_lets +onlyGivenNames -merge -underBinder x6
  refine Calm.ite ?_ ?_
  · exact Calm.refl _
  · refine Calm.ite ?_ ?_
    · exact (State.setTherm_calm ..)
    · extract_lets +onlyGivenNames -merge -underBinder x7
      extract_lets +onlyGivenNames -merge -underBinder x8
      extract_lets +onlyGivenNames -merge -underBinder x9
      extract_lets +onlyGivenNames -merge -underBinder x10
      extract_lets +onlyGivenNames -merge -underBinder x11
      extract_lets +onlyGivenNames -merge -underBinder x12
      extract_lets +onlyGivenNames -merge -underBinder x13
      split
      · extract_lets +onlyGivenNames -merge -underBinder x14
        have hx14 : Calm s x14 := by
          unfold x14
          exact (State.setTherm_calm ..)
        refine Calm.ite ?_ ?_
        · refine Calm.trans ?_ (State.flag_calm ..)
          exact hx14
        · refine Calm.ite ?_ ?_
          · refine Calm.trans ?_ (State.sensorRecord_calm ..)
            refine Calm.trans ?_ (State.inc_calm ..)
            refine Calm.trans ?_ (State.flag_calm ..)
            exact hx14
          · exact hx14

theorem State.protTemp_calm (s : State) (d : StepDue) (c : Nat) :
    Calm s (State.protTemp s d c) := by
  unfold State.protTemp
  extract_lets +onlyGivenNames -merge -underBinder x1
  extract_lets +onlyGivenNames -merge -underBinder x2
  refine Calm.ite ?_ ?_
  · exact Calm.refl _
  · refine Calm.ite ?_ ?_
    · extract_lets +onlyGivenNames -merge -underBinder x3
      clear_value x3
      split
      · exact Calm.refl _
      · exact (State.setTherm_calm ..)
    · extract_lets +onlyGivenNames -merge -underBinder x4
      extract_lets +onlyGivenNames -merge -underBinder x5
      extract_lets +onlyGivenNames -merge -underBinder x6
      exact (State.setTherm_calm ..)

theorem State.thermStep_calm (s : State) (d : StepDue) (q : Nat → Int) :
    Calm s (State.thermStep s d q) := by
  unfold State.thermStep
  extract_lets +onlyGivenNames -merge -underBinder x1 x2
  have hx2 : Calm s x2 := by
    unfold x2
    refine Calm.ite ?_ ?_
    · exact (State.thermInit_calm ..)
    · refine Calm.ite ?_ ?_
      · refine Calm.foldl ?_ (fun t3 a4 h5 => ?_)
        · exact Calm.refl _
        · refine Calm.ite ?_ ?_
          · split
            · refine Calm.trans ?_ (State.setTherm_calm ..)
              exact h5
          · exact h5
      · exact Calm.refl _
  extract_lets +onlyGivenNames -merge -underBinder x6 x7 x8
  have hx6 : Calm s x6 := by
    unfold x6
    refine Calm.foldl ?_ (fun t9 a10 h11 => ?_)
    · exact hx2
    · refine Calm.upd ?_ rfl rfl rfl rfl rfl rfl rfl rfl
      exact h11
  have hx8 : Calm s x8 := by
    unfold x8
    refine Calm.ite ?_ ?_
    · refine Calm.foldl ?_ (fun t12 a13 h14 => ?_)
      · exact hx6
      · refine Calm.trans ?_ (State.judgeSensor_calm ..)
        refine Calm.trans ?_ (State.judgeSensor_calm ..)
        exact h14
    · exact hx2
  refine Calm.foldl ?_ (fun t15 a16 h17 => ?_)
  · exact hx8
  · refine Calm.trans ?_ (State.protTemp_calm ..)
    exact h17

theorem State.thermShow_calm (s : State) (sb : Nat) :
    Calm s (State.thermShow s sb) := by
  unfold State.thermShow
  extract_lets +onlyGivenNames -merge -underBinder x1
  extract_lets +onlyGivenNames -merge -underBinder x2
  have hx2 : Calm s x2 := by
    unfold x2
    refine Calm.foldl ?_ (fun t3 a4 h5 => ?_)
    · exact Calm.refl _
    · refine Calm.trans ?_ (State.wrn_calm ..)
      exact h5
  extract_lets +onlyGivenNames -merge -underBinder x6
  have hx6 : Calm s x6 := by
    unfold x6
    refine Calm.foldl ?_ (fun t7 a8 h9 => ?_)
    · exact hx2
    · refine Calm.trans ?_ (State.wrn_calm ..)
      exact h9
  extract_lets +onlyGivenNames -merge -underBinder x10
  refine Calm.trans ?_ (State.wr64_calm ..)
  refine Calm.trans ?_ (State.wrn_calm ..)
  exact hx6

theorem State.zoneDemand_calm (s : State) (d : StepDue) (z : Nat) :
    Calm s (State.zoneDemand s d z) := by
  unfold State.zoneDemand
  refine Calm.ite ?_ ?_
  · exact Calm.refl _
  · extract_lets +onlyGivenNames -merge -underBinder x1
    extract_lets +onlyGivenNames -merge -underBinder x2
    extract_lets +onlyGivenNames -merge -underBinder x3
    extract_lets +onlyGivenNames -merge -underBinder x4
    extract_lets +onlyGivenNames -merge -underBinder x5
    extract_lets +onlyGivenNames -merge -underBinder x6
    extract_lets +onlyGivenNames -merge -underBinder x7
    extract_lets +onlyGivenNames -merge -underBinder x8
    exact (State.wrn_calm ..)

theorem State.demands_calm (s : State) (d : StepDue) :
    Calm s (State.demands s d) := by
  unfold State.demands
  refine Calm.foldl ?_ (fun t1 a2 h3 => ?_)
  · exact Calm.refl _
  · refine Calm.trans ?_ (State.zoneDemand_calm ..)
    exact h3

theorem State.demandsDue_calm (s : State) (sb : Nat) :
    Calm s (State.demandsDue s sb) := by
  unfold State.demandsDue
  refine Calm.upd ?_ rfl rfl rfl rfl rfl rfl rfl rfl
  exact Calm.refl _

theorem State.demandsTick_calm (s : State) :
    Calm s (State.demandsTick s) := by
  unfold State.demandsTick
  extract_lets +onlyGivenNames -merge -underBinder x1
  split
  · refine Calm.upd ?_ rfl rfl rfl rfl rfl rfl rfl rfl
    exact Calm.refl _
  · exact Calm.refl _

theorem State.coolEffect_calm (s : State) (z : Nat) (v : Word) :
    Calm s (State.coolEffect s z v) := by
  unfold State.coolEffect
  extract_lets +onlyGivenNames -merge -underBinder x1
  have hx1 : Calm s x1 := by
    unfold x1
    exact (State.wr_calm ..)
  extract_lets +onlyGivenNames -merge -underBinder x2 x3
  have hx3 : Calm s x3 := by
    unfold x3
    refine Calm.upd ?_ rfl rfl rfl rfl rfl rfl rfl rfl
    exact hx1
  refine Calm.trans ?_ (State.wrb_calm ..)
  exact hx3

theorem execTcoolWrite_calm (dt : Nat) (zone : Fin 4) (value : Word) (s : State) :
    Ends Calm s (execTcoolWrite dt zone value s) := by
  unfold execTcoolWrite
  refine Ends.next ?_
  refine Calm.hostDo ?_ (fun t1 h2 => ?_)
  · exact (State.elapse_calm ..)
  · refine Calm.trans ?_ (State.hostEvent_calm ..)
    exact h2

theorem execZoneStale_calm (dt : Nat) (zone : Fin 4) (s : State) :
    Ends Calm s (execZoneStale dt zone s) := by
  unfold execZoneStale
  extract_lets +onlyGivenNames -merge -underBinder x1
  have hx1 : Calm s x1 := by
    unfold x1
    exact (State.elapse_calm ..)
  extract_lets +onlyGivenNames -merge -underBinder x2
  refine Ends.ite ?_ ?_
  · extract_lets +onlyGivenNames -merge -underBinder x3 x4
    have hx4 : Calm s x4 := by
      unfold x4
      refine Calm.upd ?_ rfl rfl rfl rfl rfl rfl rfl rfl
      exact hx1
    refine Ends.next ?_
    refine Calm.trans ?_ (State.flag_calm ..)
    refine Calm.trans ?_ (State.inc_calm ..)
    refine Calm.trans ?_ (State.wrb_calm ..)
    exact hx4
  · refine Ends.next ?_
    exact hx1

theorem State.sensorRestore_calm (s : State) (ch : Nat) (s0 : Bool) (s1 : Bool) :
    Calm s (State.sensorRestore s ch s0 s1) := by
  unfold State.sensorRestore
  extract_lets +onlyGivenNames -merge -underBinder x1
  unfold x1
  extract_lets +onlyGivenNames -merge -underBinder x2
  extract_lets +onlyGivenNames -merge -underBinder x3
  refine Calm.ite ?_ ?_
  · refine Calm.trans ?_ (State.sensorRecord_calm ..)
    refine Calm.trans ?_ (State.setTherm_calm ..)
    extract_lets +onlyGivenNames -merge -underBinder x4
    extract_lets +onlyGivenNames -merge -underBinder x5
    refine Calm.ite ?_ ?_
    · refine Calm.trans ?_ (State.sensorRecord_calm ..)
      exact (State.setTherm_calm ..)
    · exact Calm.refl _
  · extract_lets +onlyGivenNames -merge -underBinder x6
    extract_lets +onlyGivenNames -merge -underBinder x7
    refine Calm.ite ?_ ?_
    · refine Calm.trans ?_ (State.sensorRecord_calm ..)
      exact (State.setTherm_calm ..)
    · exact Calm.refl _

theorem execSensorRestore_calm (dt : Nat) (ch : Fin 512) (s0 : Bool) (s1 : Bool) (s : State) :
    Ends Calm s (execSensorRestore dt ch s0 s1 s) := by
  unfold execSensorRestore
  refine Ends.next ?_
  refine Calm.hostDo ?_ (fun t1 h2 => ?_)
  · exact (State.elapse_calm ..)
  · refine Calm.trans ?_ (State.sensorRestore_calm ..)
    exact h2

theorem State.mselLatch_calm (s : State) (ch : Nat) :
    Calm s (State.mselLatch s ch) := by
  unfold State.mselLatch
  extract_lets +onlyGivenNames -merge -underBinder x1
  have hx1 : Calm s x1 := by
    unfold x1
    exact (State.wrn_calm ..)
  extract_lets +onlyGivenNames -merge -underBinder x2
  extract_lets +onlyGivenNames -merge -underBinder x3
  refine Calm.trans ?_ (State.wrn_calm ..)
  exact hx1

theorem execMselLatch_calm (dt : Nat) (ch : Fin 512) (s : State) :
    Ends Calm s (execMselLatch dt ch s) := by
  unfold execMselLatch
  refine Ends.next ?_
  refine Calm.hostDo ?_ (fun t1 h2 => ?_)
  · exact (State.elapse_calm ..)
  · refine Calm.trans ?_ (State.mselLatch_calm ..)
    exact h2

end Sys2Proof.Machine
end

