-- ==== Sys2Proof/Laws/Items.lean ====
section
/-! SUPPORT. What the operations of Machine/Items.lean leave alone (Laws/Keeps.lean). -/

namespace Sys2Proof.Machine

open Sys2Proof

theorem State.setConn_calm (s : State) (k : Nat) (v : ConnSt) :
    Calm s (State.setConn s k v) := by
  unfold State.setConn
  refine Calm.upd ?_ rfl rfl rfl rfl rfl rfl rfl rfl
  exact Calm.refl _

theorem State.setStream_calm (s : State) (k : Nat) (v : StreamSt) :
    Calm s (State.setStream s k v) := by
  unfold State.setStream
  refine Calm.upd ?_ rfl rfl rfl rfl rfl rfl rfl rfl
  exact Calm.refl _

theorem State.setSpin_calm (s : State) (k : Nat) (v : SpinSt) :
    Calm s (State.setSpin s k v) := by
  unfold State.setSpin
  refine Calm.upd ?_ rfl rfl rfl rfl rfl rfl rfl rfl
  exact Calm.refl _

end Sys2Proof.Machine
end

