-- ==== Sys2Proof/Laws/RepairAnswer.lean ====
section
/-! SUPPORT. What the operations of Machine/RepairAnswer.lean leave alone (Laws/Keeps.lean). -/

namespace Sys2Proof.Machine

open Sys2Proof

theorem State.sendRepair_calm (s : State) (req : Nat) (last : Bool) (a1 : Nat) (a2 : List Byte) :
    Calm s (State.sendRepair s req last a1 a2) := by
  unfold State.sendRepair
  split
  · exact Calm.refl _
  · extract_lets +onlyGivenNames -merge -underBinder x1
    extract_lets +onlyGivenNames -merge -underBinder x2
    extract_lets +onlyGivenNames -merge -underBinder x3
    have hx3 : Calm s x3 := by
      unfold x3
      exact (State.sendFrame_calm ..)
    extract_lets +onlyGivenNames -merge -underBinder x4
    have hx4 : Calm s x4 := by
      unfold x4
      refine Calm.trans ?_ (State.setTdm_calm ..)
      exact hx3
    refine Calm.ite ?_ ?_
    · exact hx4
    · refine Calm.trans ?_ (State.sendRepair_calm ..)
      exact hx4

theorem State.answerChannels_calm (s : State) (sb : Nat) :
    Calm s (State.answerChannels s sb) := by
  unfold State.answerChannels
  extract_lets +onlyGivenNames -merge -underBinder x1
  extract_lets +onlyGivenNames -merge -underBinder x2
  refine Calm.ite ?_ ?_
  · exact Calm.refl _
  · extract_lets +onlyGivenNames -merge -underBinder x3
    extract_lets +onlyGivenNames -merge -underBinder x4
    extract_lets +onlyGivenNames -merge -underBinder x5
    extract_lets +onlyGivenNames -merge -underBinder x6
    have hx6 : Calm s x6 := by
      unfold x6
      exact (State.sendRepair_calm ..)
    refine Calm.trans ?_ (State.setTdm_calm ..)
    exact hx6

theorem State.answerSlots_calm (s : State) :
    Calm s (State.answerSlots s) := by
  unfold State.answerSlots
  extract_lets +onlyGivenNames -merge -underBinder x1
  refine Calm.ite ?_ ?_
  · exact Calm.refl _
  · extract_lets +onlyGivenNames -merge -underBinder x2
    extract_lets +onlyGivenNames -merge -underBinder x3
    have hx3 : Calm s x3 := by
      unfold x3
      exact (State.sendRepair_calm ..)
    refine Calm.trans ?_ (State.setTdm_calm ..)
    exact hx3

theorem State.installChannel_calm (s : State) (c : Nat) (stage : Nat) (b : List Byte) :
    Calm s (State.installChannel s c stage b) := by
  unfold State.installChannel
  extract_lets +onlyGivenNames -merge -underBinder x1
  extract_lets +onlyGivenNames -merge -underBinder x2
  extract_lets +onlyGivenNames -merge -underBinder x3
  have hx3 : Calm s x3 := by
    unfold x3
    exact (State.wayEntry_calm ..)
  refine Calm.trans ?_ (State.modChan_calm ..)
  exact hx3

theorem State.installWaiting_calm (s : State) (stage : Nat) :
    Calm s (State.installWaiting s stage) := by
  unfold State.installWaiting
  extract_lets +onlyGivenNames -merge -underBinder x1
  extract_lets +onlyGivenNames -merge -underBinder x2
  have hx2 : Calm s x2 := by
    unfold x2
    exact (State.setTdm_calm ..)
  refine Calm.foldl ?_ (fun t3 a4 h5 => ?_)
  · exact hx2
  · refine Calm.trans ?_ (State.installChannel_calm ..)
    exact h5

end Sys2Proof.Machine
end

