-- ==== Sys2Proof/Laws/Waybill.lean ====
section
/-! SUPPORT. What the operations of Machine/Waybill.lean leave alone (Laws/Keeps.lean). -/

namespace Sys2Proof.Machine

open Sys2Proof

theorem State.modWay_calm (s : State) (f : WaySt → WaySt) :
    Calm s (State.modWay s f) := by
  unfold State.modWay
  refine Calm.upd ?_ rfl rfl rfl rfl rfl rfl rfl rfl
  exact Calm.refl _

theorem State.queueStep_calm (s : State) (r : StepRec) :
    Calm s (State.queueStep s r) := by
  unfold State.queueStep
  refine Calm.ite ?_ ?_
  · extract_lets +onlyGivenNames -merge -underBinder x1
    have hx1 : Calm s x1 := by
      unfold x1
      exact (State.modWay_calm ..)
    extract_lets +onlyGivenNames -merge -underBinder x2
    extract_lets +onlyGivenNames -merge -underBinder x3
    have hx3 : Calm s x3 := by
      unfold x3
      refine Calm.ite ?_ ?_
      · refine Calm.trans ?_ (State.wrn_calm ..)
        exact hx1
      · exact hx1
    refine Calm.ite ?_ ?_
    · refine Calm.trans ?_ (State.flag_calm ..)
      exact hx3
    · exact hx3
  · exact Calm.refl _

theorem State.exportEnds_calm (s : State) (ring : Nat) (status : Nat) :
    Calm s (State.exportEnds s ring status) := by
  unfold State.exportEnds
  refine Calm.trans ?_ (State.flag_calm ..)
  refine Calm.trans ?_ (State.inc_calm ..)
  exact (State.ringComplete_calm ..)

theorem State.exportsLost_calm (s : State) (num : Nat) :
    Calm s (State.exportsLost s num) := by
  unfold State.exportsLost
  extract_lets +onlyGivenNames -merge -underBinder x1
  have hx1 : Calm s x1 := by
    unfold x1
    split
    · refine Calm.ite ?_ ?_
      · refine Calm.trans ?_ (State.modWay_calm ..)
        exact (State.exportEnds_calm ..)
      · exact Calm.refl _
    · exact Calm.refl _
  split
  · refine Calm.ite ?_ ?_
    · refine Calm.trans ?_ (State.modWay_calm ..)
      refine Calm.trans ?_ (State.exportEnds_calm ..)
      exact hx1
    · exact hx1
  · exact hx1

theorem State.placeSeg_calm (s : State) (g : Seg) :
    Calm s (State.placeSeg s g) := by
  unfold State.placeSeg
  extract_lets +onlyGivenNames -merge -underBinder x1
  extract_lets +onlyGivenNames -merge -underBinder x2
  split
  · exact Calm.refl _
  · extract_lets +onlyGivenNames -merge -underBinder x3
    have hx3 : Calm s x3 := by
      unfold x3
      split
      · refine Calm.trans ?_ (State.exportsLost_calm ..)
        refine Calm.ite ?_ ?_
        · exact Calm.refl _
        · refine Calm.trans ?_ (State.flag_calm ..)
          exact (State.inc_calm ..)
      · exact Calm.refl _
    refine Calm.trans ?_ (State.modWay_calm ..)
    exact hx3

theorem State.closeSeg_calm (s : State) :
    Calm s (State.closeSeg s) := by
  unfold State.closeSeg
  split
  · exact Calm.refl _
  · extract_lets +onlyGivenNames -merge -underBinder x1
    exact (State.modSeg_calm ..)

theorem State.wayBoundary_calm (s : State) :
    Calm s (State.wayBoundary s) := by
  unfold State.wayBoundary
  refine Calm.ite ?_ ?_
  · exact Calm.refl _
  · extract_lets +onlyGivenNames -merge -underBinder x1
    refine Calm.ite ?_ ?_
    · exact Calm.refl _
    · extract_lets +onlyGivenNames -merge -underBinder x2
      extract_lets +onlyGivenNames -merge -underBinder x3
      exact (State.modWay_calm ..)

theorem State.windowFreeze_calm (s : State) (g : Seg) :
    Calm s (State.windowFreeze s g) := by
  unfold State.windowFreeze
  refine Calm.ite ?_ ?_
  · split
    rename_i y1 y2 e3
    have hy2 : Calm s y2 := by
      refine Calm.snd e3 ?_
      exact (State.freezeSeg_calm ..)
    refine Calm.ite ?_ ?_
    · exact hy2
    · refine Calm.trans ?_ (State.modWay_calm ..)
      exact hy2
  · exact Calm.refl _

theorem State.windowEnds_calm (s : State) (stage : Nat) :
    Calm s (State.windowEnds s stage) := by
  unfold State.windowEnds
  extract_lets +onlyGivenNames -merge -underBinder x1
  refine Calm.ite ?_ ?_
  · refine Calm.trans ?_ (State.modWay_calm ..)
    exact (State.closeSeg_calm ..)
  · exact (State.modWay_calm ..)

theorem execStageFrameWrite_calm (dt : Nat) (s : State) :
    Ends Calm s (execStageFrameWrite dt s) := by
  unfold execStageFrameWrite
  extract_lets +onlyGivenNames -merge -underBinder x1
  have hx1 : Calm s x1 := by
    unfold x1
    exact (State.elapse_calm ..)
  refine Ends.ite ?_ ?_
  · refine Ends.next ?_
    exact hx1
  · split
    · refine Ends.next ?_
      exact hx1
    · extract_lets +onlyGivenNames -merge -underBinder x2
      extract_lets +onlyGivenNames -merge -underBinder x3
      have hx3 : Calm s x3 := by
        unfold x3
        refine Calm.trans ?_ (State.modWay_calm ..)
        refine Calm.trans ?_ (State.closeSeg_calm ..)
        exact hx1
      refine Ends.next ?_
      refine Calm.trans ?_ (State.windowFreeze_calm ..)
      refine Calm.trans ?_ (State.placeSeg_calm ..)
      exact hx3
    · split
      · refine Ends.next ?_
        exact hx1
      · split
        · refine Ends.ite ?_ ?_
          · refine Ends.next ?_
            refine Calm.trans ?_ (State.modWay_calm ..)
            refine Calm.trans ?_ (State.closeSeg_calm ..)
            exact hx1
          · extract_lets +onlyGivenNames -merge -underBinder x4
            have hx4 : Calm s x4 := by
              unfold x4
              refine Calm.trans ?_ (State.modSeg_calm ..)
              exact hx1
            extract_lets +onlyGivenNames -merge -underBinder x5
            have hx5 : Calm s x5 := by
              unfold x5
              refine Calm.trans ?_ (State.modWay_calm ..)
              exact hx4
            refine Ends.next ?_
            refine Calm.trans ?_ (State.windowEnds_calm ..)
            refine Calm.trans ?_ (State.incBy_calm ..)
            exact hx5

theorem execBurstCaptureStop_calm (dt : Nat) (s : State) :
    Ends Calm s (execBurstCaptureStop dt s) := by
  unfold execBurstCaptureStop
  extract_lets +onlyGivenNames -merge -underBinder x1
  have hx1 : Calm s x1 := by
    unfold x1
    exact (State.elapse_calm ..)
  split
  · refine Ends.ite ?_ ?_
    · refine Ends.next ?_
      refine Calm.trans ?_ (State.modWay_calm ..)
      exact hx1
    · refine Ends.next ?_
      exact hx1
  · refine Ends.next ?_
    exact hx1

theorem execBurstCopyDone_calm (dt : Nat) (s : State) :
    Ends Calm s (execBurstCopyDone dt s) := by
  unfold execBurstCopyDone
  extract_lets +onlyGivenNames -merge -underBinder x1
  have hx1 : Calm s x1 := by
    unfold x1
    exact (State.elapse_calm ..)
  refine Ends.ite ?_ ?_
  · refine Ends.next ?_
    exact hx1
  · extract_lets +onlyGivenNames -merge -underBinder x2
    extract_lets +onlyGivenNames -merge -underBinder x3 x4
    extract_lets +onlyGivenNames -merge -underBinder x5
    have hx5 : Calm s x5 := by
      unfold x5
      refine Calm.trans ?_ (State.placeSeg_calm ..)
      refine Calm.trans ?_ (State.modWay_calm ..)
      exact hx1
    split
    rename_i y6 y7 e8
    have hy7 : Calm s y7 := by
      refine Calm.snd e8 ?_
      refine Calm.trans ?_ (State.freezeSeg_calm ..)
      exact hx5
    refine Ends.next ?_
    refine Calm.ite ?_ ?_
    · refine Calm.trans ?_ (State.flag_calm ..)
      exact hy7
    · exact hy7

theorem execWayFreeze_calm (dt : Nat) (s : State) :
    Ends Calm s (execWayFreeze dt s) := by
  unfold execWayFreeze
  refine Ends.next ?_
  refine Calm.hostDo ?_ (fun t1 h2 => ?_)
  · exact (State.elapse_calm ..)
  · refine Calm.trans ?_ (State.trigger_calm ..)
    exact h2

theorem State.releaseSegment_calm (s : State) :
    Calm s (State.releaseSegment s) := by
  unfold State.releaseSegment
  exact (State.modSeg_calm ..)

theorem execReleaseSegment_calm (dt : Nat) (s : State) :
    Ends Calm s (execReleaseSegment dt s) := by
  unfold execReleaseSegment
  refine Ends.next ?_
  refine Calm.hostDo ?_ (fun t1 h2 => ?_)
  · exact (State.elapse_calm ..)
  · refine Calm.trans ?_ (State.releaseSegment_calm ..)
    exact h2

theorem State.exportSegment_calm (s : State) :
    Calm s (State.exportSegment s) := by
  unfold State.exportSegment
  extract_lets +onlyGivenNames -merge -underBinder x1
  refine Calm.ite ?_ ?_
  · exact (State.modWay_calm ..)
  · exact Calm.refl _

theorem execExportSegment_calm (dt : Nat) (s : State) :
    Ends Calm s (execExportSegment dt s) := by
  unfold execExportSegment
  refine Ends.next ?_
  refine Calm.hostDo ?_ (fun t1 h2 => ?_)
  · exact (State.elapse_calm ..)
  · refine Calm.trans ?_ (State.exportSegment_calm ..)
    exact h2

theorem State.abortSegment_calm (s : State) :
    Calm s (State.abortSegment s) := by
  unfold State.abortSegment
  split
  · refine Calm.trans ?_ (State.modWay_calm ..)
    exact (State.exportEnds_calm ..)
  · refine Calm.trans ?_ (State.modWay_calm ..)
    exact (State.exportEnds_calm ..)
  · exact Calm.refl _

theorem execAbortSegment_calm (dt : Nat) (s : State) :
    Ends Calm s (execAbortSegment dt s) := by
  unfold execAbortSegment
  refine Ends.next ?_
  refine Calm.hostDo ?_ (fun t1 h2 => ?_)
  · exact (State.elapse_calm ..)
  · refine Calm.trans ?_ (State.abortSegment_calm ..)
    exact h2

theorem State.exportChunk_calm (s : State) (e : WayExport) :
    Calm s (State.exportChunk s e).2 := by
  unfold State.exportChunk
  split
  · extract_lets +onlyGivenNames -merge -underBinder x1
    extract_lets +onlyGivenNames -merge -underBinder x2
    extract_lets +onlyGivenNames -merge -underBinder x3
    split
    · refine Calm.pair ?_
      exact Calm.refl _
    · extract_lets +onlyGivenNames -merge -underBinder x4
      extract_lets +onlyGivenNames -merge -underBinder x5
      have hx5 : Calm s x5 := by
        unfold x5
        exact (State.ringComplete_calm ..)
      split
      · refine Calm.pair ?_
        refine Calm.trans ?_ (State.modSeg_calm ..)
        exact hx5
      · refine Calm.pair ?_
        exact hx5
  · refine Calm.pair ?_
    exact Calm.refl _
  · refine Calm.pair ?_
    exact Calm.refl _

theorem execExportChunk_calm (dt : Nat) (s : State) :
    Ends Calm s (execExportChunk dt s) := by
  unfold execExportChunk
  extract_lets +onlyGivenNames -merge -underBinder x1
  have hx1 : Calm s x1 := by
    unfold x1
    exact (State.elapse_calm ..)
  split
  · split
    rename_i y2 y3 e4
    have hy3 : Calm s y3 := by
      refine Calm.snd e4 ?_
      refine Calm.trans ?_ (State.exportChunk_calm ..)
      exact hx1
    refine Ends.next ?_
    refine Calm.trans ?_ (State.modWay_calm ..)
    exact hy3
  · split
    rename_i y5 y6 e7
    have hy6 : Calm s y6 := by
      refine Calm.snd e7 ?_
      refine Calm.trans ?_ (State.exportChunk_calm ..)
      exact hx1
    refine Ends.next ?_
    refine Calm.trans ?_ (State.modWay_calm ..)
    exact hy6
  · refine Ends.next ?_
    exact hx1

theorem execAutoExportStart_calm (dt : Nat) (s : State) :
    Ends Calm s (execAutoExportStart dt s) := by
  unfold execAutoExportStart
  extract_lets +onlyGivenNames -merge -underBinder x1
  have hx1 : Calm s x1 := by
    unfold x1
    exact (State.elapse_calm ..)
  extract_lets +onlyGivenNames -merge -underBinder x2
  clear_value x2
  split
  · refine Ends.next ?_
    exact hx1
  · refine Ends.ite ?_ ?_
    · refine Ends.next ?_
      refine Calm.trans ?_ (State.modWay_calm ..)
      exact hx1
    · refine Ends.next ?_
      exact hx1

theorem State.wayStarted_calm (s : State) :
    Calm s (State.wayStarted s) := by
  unfold State.wayStarted
  exact (State.modWay_calm ..)

theorem State.wayStopped_calm (s : State) :
    Calm s (State.wayStopped s) := by
  unfold State.wayStopped
  refine Calm.trans ?_ (State.modWay_calm ..)
  exact (State.closeSeg_calm ..)

theorem State.waySalvage_calm (s : State) :
    Calm s (State.waySalvage s) := by
  unfold State.waySalvage
  split
  · exact Calm.refl _
  · extract_lets +onlyGivenNames -merge -underBinder x1
    have hx1 : Calm s x1 := by
      unfold x1
      exact (State.modSeg_calm ..)
    split
    rename_i y2 y3 e4
    have hy3 : Calm s y3 := by
      refine Calm.snd e4 ?_
      refine Calm.trans ?_ (State.freezeSeg_calm ..)
      exact hx1
    refine Calm.trans ?_ (State.flag_calm ..)
    refine Calm.trans ?_ (State.wrn_calm ..)
    refine Calm.trans ?_ (State.wrn_calm ..)
    exact hy3

theorem State.wayDamage_calm (s : State) (num : Nat) (k : Nat) :
    Calm s (State.wayDamage s num k) := by
  unfold State.wayDamage
  split
  · exact Calm.refl _
  · split
    · extract_lets +onlyGivenNames -merge -underBinder x1
      refine Calm.trans ?_ (State.modWay_calm ..)
      exact (State.modSeg_calm ..)

end Sys2Proof.Machine
end

