-- ==== Sys2Proof/Laws/Steps.lean ====
section
/-! SUPPORT. What the operations of Machine/Steps.lean leave alone (Laws/Keeps.lean). -/

namespace Sys2Proof.Machine

open Sys2Proof

theorem State.closeStep_calm (s : State) (sa : Nat) (sb : Nat) (rest : Bool) :
    Calm s (State.closeStep s sa sb rest) := by
  unfold State.closeStep
  extract_lets +onlyGivenNames -merge -underBinder x1
  extract_lets +onlyGivenNames -merge -underBinder x2
  extract_lets +onlyGivenNames -merge -underBinder x3
  refine Calm.upd ?_ rfl rfl rfl rfl rfl rfl rfl rfl
  exact Calm.refl _

theorem State.stageSteps_calm (s : State) :
    Calm s (State.stageSteps s) := by
  unfold State.stageSteps
  split
  · refine Calm.upd ?_ rfl rfl rfl rfl rfl rfl rfl rfl
    exact Calm.refl _
  · exact Calm.refl _

theorem State.restTurn_calm (s : State) (st : Nat) :
    Calm s (State.restTurn s st) := by
  unfold State.restTurn
  extract_lets +onlyGivenNames -merge -underBinder x1
  extract_lets +onlyGivenNames -merge -underBinder x2
  refine Calm.ite ?_ ?_
  · exact Calm.refl _
  · extract_lets +onlyGivenNames -merge -underBinder x3
    have hx3 : Calm s x3 := by
      unfold x3
      exact (State.closeStep_calm ..)
    extract_lets +onlyGivenNames -merge -underBinder x4
    refine Calm.upd ?_ rfl rfl rfl rfl rfl rfl rfl rfl
    exact hx3

theorem State.quietEnds_calm (s : State) :
    Calm s (State.quietEnds s) := by
  unfold State.quietEnds
  extract_lets +onlyGivenNames -merge -underBinder x1
  extract_lets +onlyGivenNames -merge -underBinder x2
  refine Calm.ite ?_ ?_
  · refine Calm.upd ?_ rfl rfl rfl rfl rfl rfl rfl rfl
    exact Calm.refl _
  · refine Calm.upd ?_ rfl rfl rfl rfl rfl rfl rfl rfl
    exact Calm.refl _

theorem State.quietSample_calm (s : State) (tick : Nat) (k : Nat) (quiet : Bool) :
    Calm s (State.quietSample s tick k quiet) := by
  unfold State.quietSample
  extract_lets +onlyGivenNames -merge -underBinder x1
  refine Calm.upd ?_ rfl rfl rfl rfl rfl rfl rfl rfl
  exact Calm.refl _

theorem State.estStep_calm (s : State) (d : StepDue) (str : Int) (lost : Nat) :
    Calm s (State.estStep s d str lost) := by
  unfold State.estStep
  extract_lets +onlyGivenNames -merge -underBinder x1
  have hx1 : Calm s x1 := by
    unfold x1
    refine Calm.ite ?_ ?_
    · exact Calm.refl _
    · refine Calm.trans ?_ (State.flag_calm ..)
      exact (State.incBy_calm ..)
  refine Calm.ite ?_ ?_
  · extract_lets +onlyGivenNames -merge -underBinder x2
    have hx2 : Calm s x2 := by
      unfold x2
      refine Calm.foldl ?_ (fun t3 a4 h5 => ?_)
      · exact hx1
      · extract_lets +onlyGivenNames -merge -underBinder x6
        extract_lets +onlyGivenNames -merge -underBinder x7
        have hx7 : Calm s x7 := by
          unfold x7
          refine Calm.trans ?_ (State.modChan_calm ..)
          exact h5
        refine Calm.ite ?_ ?_
        · refine Calm.trans ?_ (State.chanHold_calm ..)
          exact hx7
        · refine Calm.trans ?_ (State.chanStep_calm ..)
          exact hx7
    refine Calm.ite ?_ ?_
    · refine Calm.trans ?_ (State.jrnPut_calm ..)
      exact hx2
    · exact hx2
  · refine Calm.foldl ?_ (fun t8 a9 h10 => ?_)
    · exact hx1
    · refine Calm.ite ?_ ?_
      · refine Calm.trans ?_ (State.chanHold_calm ..)
        exact h10
      · exact h10

theorem execStageStepRun_calm (dt : Nat) (x : LaneObservations) (s : State) :
    Ends Calm s (execStageStepRun dt x s) := by
  unfold execStageStepRun
  extract_lets +onlyGivenNames -merge -underBinder x1
  have hx1 : Calm s x1 := by
    unfold x1
    exact (State.elapse_calm ..)
  split
  · refine Ends.next ?_
    exact hx1
  · split
    · extract_lets +onlyGivenNames -merge -underBinder x2
      extract_lets +onlyGivenNames -merge -underBinder x3 x4
      have hx4 : Calm s x4 := by
        unfold x4
        refine Calm.upd ?_ rfl rfl rfl rfl rfl rfl rfl rfl
        exact hx1
      extract_lets +onlyGivenNames -merge -underBinder x5 x6
      have hx6 : Calm s x6 := by
        unfold x6
        refine Calm.upd ?_ rfl rfl rfl rfl rfl rfl rfl rfl
        exact hx4
      extract_lets +onlyGivenNames -merge -underBinder x7
      have hx7 : Calm s x7 := by
        unfold x7
        refine Calm.trans ?_ (State.estStep_calm ..)
        exact hx6
      extract_lets +onlyGivenNames -merge -underBinder x8
      have hx8 : Calm s x8 := by
        unfold x8
        refine Calm.ite ?_ ?_
        · refine Calm.trans ?_ (State.crossCheck_calm ..)
          exact hx7
        · exact hx7
      extract_lets +onlyGivenNames -merge -underBinder x9
      have hx9 : Calm s x9 := by
        unfold x9
        refine Calm.trans ?_ (State.balStep_calm ..)
        exact hx8
      extract_lets +onlyGivenNames -merge -underBinder x10
      have hx10 : Calm s x10 := by
        unfold x10
        refine Calm.trans ?_ (State.readbackAll_calm ..)
        exact hx9
      extract_lets +onlyGivenNames -merge -underBinder x11
      have hx11 : Calm s x11 := by
        unfold x11
        refine Calm.trans ?_ (State.thermStep_calm ..)
        exact hx10
      extract_lets +onlyGivenNames -merge -underBinder x12
      have hx12 : Calm s x12 := by
        unfold x12
        refine Calm.trans ?_ (State.demandsDue_calm ..)
        refine Calm.trans ?_ (State.demands_calm ..)
        exact hx11
      extract_lets +onlyGivenNames -merge -underBinder x13 x14
      have hx14 : Calm s x14 := by
        unfold x14
        refine Calm.ite ?_ ?_
        · refine Calm.upd ?_ rfl rfl rfl rfl rfl rfl rfl rfl
          exact hx12
        · exact hx12
      refine Ends.next ?_
      refine Calm.upd ?_ rfl rfl rfl rfl rfl rfl rfl rfl
      exact hx14

theorem State.showPcap_calm (s : State) :
    Calm s (State.showPcap s) := by
  unfold State.showPcap
  extract_lets +onlyGivenNames -merge -underBinder x1
  extract_lets +onlyGivenNames -merge -underBinder x2
  have hx2 : Calm s x2 := by
    unfold x2
    refine Calm.foldl ?_ (fun t3 a4 h5 => ?_)
    · exact Calm.refl _
    · refine Calm.trans ?_ (State.wrn_calm ..)
      exact h5
  refine Calm.trans ?_ (State.wrb_calm ..)
  exact hx2

theorem State.estShow_calm (s : State) (sb : Nat) :
    Calm s (State.estShow s sb) := by
  unfold State.estShow
  extract_lets +onlyGivenNames -merge -underBinder x1
  extract_lets +onlyGivenNames -merge -underBinder x2
  extract_lets +onlyGivenNames -merge -underBinder x3
  extract_lets +onlyGivenNames -merge -underBinder x4
  extract_lets +onlyGivenNames -merge -underBinder x5
  have hx5 : Calm s x5 := by
    unfold x5
    exact (State.wr64_calm ..)
  extract_lets +onlyGivenNames -merge -underBinder x6
  have hx6 : Calm s x6 := by
    unfold x6
    refine Calm.trans ?_ (State.wrn_calm ..)
    exact hx5
  extract_lets +onlyGivenNames -merge -underBinder x7
  have hx7 : Calm s x7 := by
    unfold x7
    refine Calm.trans ?_ (State.wrn_calm ..)
    exact hx6
  extract_lets +onlyGivenNames -merge -underBinder x8
  extract_lets +onlyGivenNames -merge -underBinder x9
  have hx9 : Calm s x9 := by
    unfold x9
    refine Calm.trans ?_ (State.wrn_calm ..)
    exact hx7
  extract_lets +onlyGivenNames -merge -underBinder x10
  have hx10 : Calm s x10 := by
    unfold x10
    refine Calm.trans ?_ (State.wrn_calm ..)
    exact hx9
  extract_lets +onlyGivenNames -merge -underBinder x11
  extract_lets +onlyGivenNames -merge -underBinder x12
  have hx12 : Calm s x12 := by
    unfold x12
    refine Calm.trans ?_ (State.wrn_calm ..)
    exact hx10
  extract_lets +onlyGivenNames -merge -underBinder x13
  have hx13 : Calm s x13 := by
    unfold x13
    refine Calm.trans ?_ (State.wrn_calm ..)
    exact hx12
  extract_lets +onlyGivenNames -merge -underBinder x14
  have hx14 : Calm s x14 := by
    unfold x14
    refine Calm.trans ?_ (State.wrn_calm ..)
    exact hx13
  extract_lets +onlyGivenNames -merge -underBinder x15
  have hx15 : Calm s x15 := by
    unfold x15
    refine Calm.trans ?_ (State.wr64_calm ..)
    exact hx14
  extract_lets +onlyGivenNames -merge -underBinder x16
  extract_lets +onlyGivenNames -merge -underBinder x17
  have hx17 : Calm s x17 := by
    unfold x17
    refine Calm.trans ?_ (State.wrn_calm ..)
    exact hx15
  refine Calm.trans ?_ (State.showPcap_calm ..)
  exact hx17

theorem State.iscShow_steady (s : State) :
    Steady s (State.iscShow s) := by
  unfold State.iscShow
  extract_lets +onlyGivenNames -merge -underBinder x1
  extract_lets +onlyGivenNames -merge -underBinder x2
  extract_lets +onlyGivenNames -merge -underBinder x3
  have hx3 : Steady s x3 := by
    unfold x3
    refine Steady.ite ?_ ?_
    · exact (State.flag_calm ..).steady
    · exact Steady.refl _
  refine Steady.trans ?_ (State.setSource_steady ..)
  exact hx3

theorem State.publishRecs_calm (s : State) (d : StepDue) :
    Calm s (State.publishRecs s d) := by
  unfold State.publishRecs
  refine Calm.foldl ?_ (fun t1 a2 h3 => ?_)
  · exact Calm.refl _
  · refine Calm.ite ?_ ?_
    · exact h3
    · refine Calm.upd ?_ rfl rfl rfl rfl rfl rfl rfl rfl
      exact h3

theorem State.shadowStep_calm (s : State) (sb : Nat) :
    Calm s (State.shadowStep s sb) := by
  unfold State.shadowStep
  refine Calm.upd ?_ rfl rfl rfl rfl rfl rfl rfl rfl
  exact Calm.refl _

theorem execStepPublished_steady (dt : Nat) (s : State) :
    Ends Steady s (execStepPublished dt s) := by
  unfold execStepPublished
  extract_lets +onlyGivenNames -merge -underBinder x1
  have hx1 : Steady s x1 := by
    unfold x1
    exact (State.elapse_calm ..).steady
  split
  · refine Ends.next ?_
    exact hx1
  · extract_lets +onlyGivenNames -merge -underBinder x2
    have hx2 : Steady s x2 := by
      unfold x2
      refine Steady.ite ?_ ?_
      · refine Steady.trans ?_ (State.publishRecs_calm ..).steady
        exact hx1
      · exact hx1
    refine Ends.ite ?_ ?_
    · refine Ends.next ?_
      exact hx2
    · extract_lets +onlyGivenNames -merge -underBinder x3 x4
      have hx4 : Steady s x4 := by
        unfold x4
        refine Steady.upd ?_ rfl rfl rfl rfl rfl rfl rfl rfl
        exact hx2
      extract_lets +onlyGivenNames -merge -underBinder x5
      have hx5 : Steady s x5 := by
        unfold x5
        refine Steady.ite ?_ ?_
        · refine Steady.trans ?_ (State.shadowStep_calm ..).steady
          refine Steady.trans ?_ (State.edgeSource_calm ..).steady
          refine Steady.trans ?_ (State.iscShow_steady ..)
          refine Steady.trans ?_ (State.estShow_calm ..).steady
          exact hx4
        · exact hx4
      extract_lets +onlyGivenNames -merge -underBinder x6
      have hx6 : Steady s x6 := by
        unfold x6
        refine Steady.trans ?_ (State.thermShow_calm ..).steady
        exact hx5
      extract_lets +onlyGivenNames -merge -underBinder x7
      have hx7 : Steady s x7 := by
        unfold x7
        refine Steady.foldl ?_ (fun t8 a9 h10 => ?_)
        · exact hx6
        · refine Steady.trans ?_ (State.limitTemp_steady ..)
          exact h10
      extract_lets +onlyGivenNames -merge -underBinder x11
      extract_lets +onlyGivenNames -merge -underBinder x12
      have hx12 : Steady s x12 := by
        unfold x12
        refine Steady.trans ?_ (State.setTdm_calm ..).steady
        exact hx7
      extract_lets +onlyGivenNames -merge -underBinder x13
      have hx13 : Steady s x13 := by
        unfold x13
        refine Steady.ite ?_ ?_
        · refine Steady.trans ?_ (State.sendFrame_calm ..).steady
          exact hx12
        · exact hx12
      extract_lets +onlyGivenNames -merge -underBinder x14
      have hx14 : Steady s x14 := by
        unfold x14
        refine Steady.trans ?_ (State.answerChannels_calm ..).steady
        refine Steady.trans ?_ (State.installWaiting_calm ..).steady
        exact hx13
      refine Ends.next ?_
      refine Steady.trans ?_ (State.trialOut_steady ..)
      refine Steady.trans ?_ (State.queueStep_calm ..).steady
      refine Steady.trans ?_ (State.compareStage_steady ..)
      exact hx14

end Sys2Proof.Machine
end

