-- ==== Sys2Proof/Laws/Forecast.lean ====
section
/-! SUPPORT. What the operations of Machine/Forecast.lean leave alone (Laws/Keeps.lean). -/

namespace Sys2Proof.Machine

open Sys2Proof

theorem execForecastBoundary_calm (s : State) :
    Ends Calm s (execForecastBoundary s) := by
  unfold execForecastBoundary
  refine Ends.ite ?_ ?_
  · refine Ends.next ?_
    refine Calm.upd ?_ rfl rfl rfl rfl rfl rfl rfl rfl
    exact Calm.refl _
  · refine Ends.next ?_
    exact Calm.refl _

theorem execForecastPublished_calm (dt : Nat) (s : State) :
    Ends Calm s (execForecastPublished dt s) := by
  unfold execForecastPublished
  extract_lets +onlyGivenNames -merge -underBinder x1
  have hx1 : Calm s x1 := by
    unfold x1
    exact (State.elapse_calm ..)
  split
  · refine Ends.ite ?_ ?_
    · refine Ends.next ?_
      exact hx1
    · extract_lets +onlyGivenNames -merge -underBinder x2
      extract_lets +onlyGivenNames -merge -underBinder x3
      extract_lets +onlyGivenNames -merge -underBinder x4
      extract_lets +onlyGivenNames -merge -underBinder x5
      extract_lets +onlyGivenNames -merge -underBinder x6
      have hx6 : Calm s x6 := by
        unfold x6
        refine Calm.foldl ?_ (fun t7 a8 h9 => ?_)
        · exact hx1
        · refine Calm.trans ?_ (State.modChan_calm ..)
          exact h9
      extract_lets +onlyGivenNames -merge -underBinder x10
      extract_lets +onlyGivenNames -merge -underBinder x11 x12
      have hx12 : Calm s x12 := by
        unfold x12
        refine Calm.upd ?_ rfl rfl rfl rfl rfl rfl rfl rfl
        exact hx6
      refine Ends.next ?_
      refine Calm.trans ?_ (State.edgeSource_calm ..)
      refine Calm.trans ?_ (State.wr64_calm ..)
      refine Calm.trans ?_ (State.showPcap_calm ..)
      exact hx12
  · refine Ends.next ?_
    exact hx1

theorem State.clampTick_calm (s : State) :
    Calm s (State.clampTick s) := by
  unfold State.clampTick
  split
  · split
    · extract_lets +onlyGivenNames -merge -underBinder x1 x2
      have hx2 : Calm s x2 := by
        unfold x2
        refine Calm.upd ?_ rfl rfl rfl rfl rfl rfl rfl rfl
        exact Calm.refl _
      refine Calm.trans ?_ (State.wrn_calm ..)
      refine Calm.trans ?_ (State.wrn_calm ..)
      exact hx2

theorem State.clampShow_calm (s : State) (on : Bool) (bits : Nat) :
    Calm s (State.clampShow s on bits) := by
  unfold State.clampShow
  extract_lets +onlyGivenNames -merge -underBinder x1
  have hx1 : Calm s x1 := by
    unfold x1
    exact (State.wrf_calm ..)
  refine Calm.ite ?_ ?_
  · exact hx1
  · extract_lets +onlyGivenNames -merge -underBinder x2 x3
    have hx3 : Calm s x3 := by
      unfold x3
      refine Calm.upd ?_ rfl rfl rfl rfl rfl rfl rfl rfl
      exact hx1
    extract_lets +onlyGivenNames -merge -underBinder x4
    have hx4 : Calm s x4 := by
      unfold x4
      refine Calm.ite ?_ ?_
      · refine Calm.trans ?_ (State.wrb_calm ..)
        refine Calm.trans ?_ (State.inc_calm ..)
        exact hx3
      · exact hx3
    refine Calm.trans ?_ (State.wayEntry_calm ..)
    exact hx4

end Sys2Proof.Machine
end

