-- ==== Sys2Proof/Laws/Loop.lean ====
section
/-! SUPPORT. What the operations of Machine/Loop.lean leave alone (Laws/Keeps.lean). -/

namespace Sys2Proof.Machine

open Sys2Proof

theorem State.loopStart_calm (s : State) (n : Nat) :
    Calm s (State.loopStart s n) := by
  unfold State.loopStart
  extract_lets +onlyGivenNames -merge -underBinder x1
  extract_lets +onlyGivenNames -merge -underBinder x2
  extract_lets +onlyGivenNames -merge -underBinder x3
  extract_lets +onlyGivenNames -merge -underBinder x4
  extract_lets +onlyGivenNames -merge -underBinder x5 x6
  have hx6 : Calm s x6 := by
    unfold x6
    exact (State.setSlot_calm ..)
  refine Calm.ite ?_ ?_
  · split
    · refine Calm.foldl ?_ (fun t7 a8 h9 => ?_)
      · exact hx6
      · split
        · refine Calm.trans ?_ (State.wri_calm ..)
          exact h9
    · exact hx6
  · exact hx6

theorem State.countSats_calm (s : State) (n : Nat) (k : Nat) :
    Calm s (State.countSats s n k) := by
  unfold State.countSats
  refine Calm.ite ?_ ?_
  · exact Calm.refl _
  · refine Calm.trans ?_ (State.flag_calm ..)
    exact (State.incBy_calm ..)

theorem State.clampNow_calm (s : State) :
    Calm s (State.clampNow s) := by
  unfold State.clampNow
  exact (State.clampShow_calm ..)

theorem State.dispatchTick_calm (s : State) :
    Calm s (State.dispatchTick s) := by
  unfold State.dispatchTick
  extract_lets +onlyGivenNames -merge -underBinder x1
  split
  · extract_lets +onlyGivenNames -merge -underBinder x2 x3
    have hx3 : Calm s x3 := by
      unfold x3
      refine Calm.upd ?_ rfl rfl rfl rfl rfl rfl rfl rfl
      exact Calm.refl _
    extract_lets +onlyGivenNames -merge -underBinder x4
    have hx4 : Calm s x4 := by
      unfold x4
      refine Calm.trans ?_ (State.clampNow_calm ..)
      refine Calm.trans ?_ (State.wri_calm ..)
      exact hx3
    split
    · split
      · refine Calm.trans ?_ (State.countSats_calm ..)
        refine Calm.trans ?_ (State.setSlot_calm ..)
        exact hx4
    · exact hx4

theorem State.plausible_steady (s : State) (n : Nat) :
    Steady s (State.plausible s n) := by
  unfold State.plausible
  extract_lets +onlyGivenNames -merge -underBinder x1
  extract_lets +onlyGivenNames -merge -underBinder x2
  split
  · exact Steady.refl _
  · refine Steady.ite ?_ ?_
    · exact Steady.refl _
    · extract_lets +onlyGivenNames -merge -underBinder x3
      extract_lets +onlyGivenNames -merge -underBinder x4
      extract_lets +onlyGivenNames -merge -underBinder x5
      extract_lets +onlyGivenNames -merge -underBinder x6
      clear_value x4
      split
      · refine Steady.ite ?_ ?_
        · exact (State.setSlot_calm ..).steady
        · extract_lets +onlyGivenNames -merge -underBinder x7
          extract_lets +onlyGivenNames -merge -underBinder x8
          extract_lets +onlyGivenNames -merge -underBinder x9
          extract_lets +onlyGivenNames -merge -underBinder x10
          extract_lets +onlyGivenNames -merge -underBinder x11
          extract_lets +onlyGivenNames -merge -underBinder x12
          extract_lets +onlyGivenNames -merge -underBinder x13
          extract_lets +onlyGivenNames -merge -underBinder x14
          extract_lets +onlyGivenNames -merge -underBinder x15
          extract_lets +onlyGivenNames -merge -underBinder x16
          extract_lets +onlyGivenNames -merge -underBinder x17
          have hx17 : Steady s x17 := by
            unfold x17
            exact (State.setSlot_calm ..).steady
          extract_lets +onlyGivenNames -merge -underBinder x18
          have hx18 : Steady s x18 := by
            unfold x18
            refine Steady.trans ?_ (State.wrb_calm ..).steady
            refine Steady.trans ?_ (State.wrf_calm ..).steady
            refine Steady.trans ?_ (State.wri_calm ..).steady
            exact hx17
          extract_lets +onlyGivenNames -merge -underBinder x19
          have hx19 : Steady s x19 := by
            unfold x19
            refine Steady.ite ?_ ?_
            · refine Steady.trans ?_ (State.inc_calm ..).steady
              refine Steady.trans ?_ (State.flag_calm ..).steady
              exact hx18
            · exact hx18
          refine Steady.trans ?_ (State.setSource_steady ..)
          exact hx19
      · exact (State.setSlot_calm ..).steady

theorem State.slotShow_keeps (s : State) (n : Nat) (t : Nat) (o : SlotStep) :
    Keeps s (State.slotShow s n t o) := by
  unfold State.slotShow
  extract_lets +onlyGivenNames -merge -underBinder x1
  extract_lets +onlyGivenNames -merge -underBinder x2
  extract_lets +onlyGivenNames -merge -underBinder x3
  have hx3 : Keeps s x3 := by
    unfold x3
    refine Keeps.trans ?_ (State.wrb_calm ..).keeps
    refine Keeps.trans ?_ (State.wrb_calm ..).keeps
    exact (State.wrb_calm ..).keeps
  extract_lets +onlyGivenNames -merge -underBinder x4
  have hx4 : Keeps s x4 := by
    unfold x4
    refine Keeps.trans ?_ (State.wri_calm ..).keeps
    refine Keeps.trans ?_ (State.wri_calm ..).keeps
    refine Keeps.trans ?_ (State.wrn_calm ..).keeps
    exact hx3
  extract_lets +onlyGivenNames -merge -underBinder x5
  have hx5 : Keeps s x5 := by
    unfold x5
    refine Keeps.trans ?_ (State.wri_calm ..).keeps
    refine Keeps.trans ?_ (State.wri_calm ..).keeps
    exact hx4
  split
  · refine Keeps.ite ?_ ?_
    · exact hx5
    · refine Keeps.trans ?_ (State.setPair_keeps ..)
      exact hx5
  · exact hx5

theorem State.slotShow_steady (s : State) (n t : Nat) (o : SlotStep) : Steady s (s.slotShow n t o) := by
  unfold State.slotShow
  extract_lets +onlyGivenNames p v a b c
  have hc : Steady s c := by
    refine Calm.steady ?_
    refine (Calm.trans ?_ (State.wri_calm ..)).trans (State.wri_calm ..)
    refine ((Calm.trans ?_ (State.wrn_calm ..)).trans (State.wri_calm ..)).trans (State.wri_calm ..)
    exact ((State.wrb_calm ..).trans (State.wrb_calm ..)).trans (State.wrb_calm ..)
  clear_value c
  split
  · split
    · exact hc
    · rename_i h
      refine hc.trans (c.setPair_steady _ _ (Or.inr (Or.inr ?_)))
      simp only [Bool.or_eq_true, not_or, Bool.not_eq_true] at h
      exact h.2
  · exact hc

theorem State.issueJob_calm (s : State) (n : Nat) (e : Nat) :
    Calm s (State.issueJob s n e) := by
  unfold State.issueJob
  extract_lets +onlyGivenNames -merge -underBinder x1
  extract_lets +onlyGivenNames -merge -underBinder x2
  extract_lets +onlyGivenNames -merge -underBinder x3
  extract_lets +onlyGivenNames -merge -underBinder x4
  have hx4 : Calm s x4 := by
    unfold x4
    exact (State.setSlot_calm ..)
  refine Calm.upd ?_ rfl rfl rfl rfl rfl rfl rfl rfl
  exact hx4

theorem State.sampleRun_steady (s : State) (n : Nat) :
    Steady s (State.sampleRun s n) := by
  unfold State.sampleRun
  extract_lets +onlyGivenNames -merge -underBinder x1
  extract_lets +onlyGivenNames -merge -underBinder x2
  split
  · extract_lets +onlyGivenNames -merge -underBinder x3
    have hx3 : Steady s x3 := by
      unfold x3
      exact (State.issueJob_calm ..).steady
    extract_lets +onlyGivenNames -merge -underBinder x4
    extract_lets +onlyGivenNames -merge -underBinder x5
    extract_lets +onlyGivenNames -merge -underBinder x6
    extract_lets +onlyGivenNames -merge -underBinder x7
    have hx7 : Steady s x7 := by
      unfold x7
      refine Steady.trans ?_ (State.countSats_calm ..).steady
      refine Steady.trans ?_ (State.setSlot_calm ..).steady
      exact hx3
    extract_lets +onlyGivenNames -merge -underBinder x8
    have hx8 : Steady s x8 := by
      unfold x8
      refine Steady.ite ?_ ?_
      · refine Steady.trans ?_ (State.inc_calm ..).steady
        refine Steady.trans ?_ (State.flag_calm ..).steady
        exact hx7
      · exact hx7
    extract_lets +onlyGivenNames -merge -underBinder x9
    have hx9 : Steady s x9 := by
      unfold x9
      refine Steady.ite ?_ ?_
      · exact hx8
      · refine Steady.trans ?_ (State.flag_calm ..).steady
        exact hx8
    extract_lets +onlyGivenNames -merge -underBinder x10
    have hx10 : Steady s x10 := by
      unfold x10
      refine Steady.trans ?_ (State.slotShow_steady ..)
      exact hx9
    refine Steady.ite ?_ ?_
    · refine Steady.trans ?_ (State.clampNow_calm ..).steady
      refine Steady.upd ?_ rfl rfl rfl rfl rfl rfl rfl rfl
      exact hx10
    · exact hx10

theorem State.slotRerun_steady (s : State) (n : Nat) (covered : Nat) (v : SlotSt) :
    Steady s (State.slotRerun s n covered v) := by
  unfold State.slotRerun
  split
  · extract_lets +onlyGivenNames -merge -underBinder x1
    have hx1 : Steady s x1 := by
      unfold x1
      exact (State.setSlot_calm ..).steady
    split
    · refine Steady.trans ?_ (State.slotShow_steady ..)
      exact hx1
    · exact hx1

theorem State.controlOutput_calm (s : State) (i : Nat) (w : BitWindow) :
    Calm s (State.controlOutput s i w) := by
  unfold State.controlOutput
  extract_lets +onlyGivenNames -merge -underBinder x1
  refine Calm.ite ?_ ?_
  · exact Calm.refl _
  · extract_lets +onlyGivenNames -merge -underBinder x2
    refine Calm.trans ?_ (State.setModIn_calm ..)
    refine Calm.trans ?_ (State.burstPush_calm ..)
    exact (State.wri_calm ..)

theorem State.takeControl_calm (s : State) (x : ControlInputs) :
    Calm s (State.takeControl s x) := by
  unfold State.takeControl
  refine Calm.foldl ?_ (fun t1 a2 h3 => ?_)
  · exact Calm.refl _
  · refine Calm.trans ?_ (State.controlOutput_calm ..)
    exact h3

theorem execControlSample_steady (dt : Nat) (slot : Fin 8) (x : ControlInputs) (s : State) :
    Ends Steady s (execControlSample dt slot x s) := by
  unfold execControlSample
  extract_lets +onlyGivenNames -merge -underBinder x1
  have hx1 : Steady s x1 := by
    unfold x1
    refine Steady.trans ?_ (State.protEval_steady ..)
    refine Steady.trans ?_ (State.takeControl_calm ..).steady
    exact (State.elapse_calm ..).steady
  refine Ends.ite ?_ ?_
  · refine Ends.next ?_
    refine Steady.trans ?_ (State.plausible_steady ..)
    refine Steady.trans ?_ (State.sampleRun_steady ..)
    exact hx1
  · refine Ends.next ?_
    exact hx1

theorem execLoopStateDigest_steady (s : State) :
    Ends Steady s (execLoopStateDigest s) := by
  unfold execLoopStateDigest
  refine Ends.ite ?_ ?_
  · refine Ends.next ?_
    exact Steady.refl _
  · extract_lets +onlyGivenNames -merge -underBinder x1
    extract_lets +onlyGivenNames -merge -underBinder x2 x3
    have hx3 : Steady s x3 := by
      unfold x3
      refine Steady.upd ?_ rfl rfl rfl rfl rfl rfl rfl rfl
      exact Steady.refl _
    extract_lets +onlyGivenNames -merge -underBinder x4
    have hx4 : Steady s x4 := by
      unfold x4
      refine Steady.foldl ?_ (fun t5 a6 h7 => ?_)
      · exact hx3
      · refine Steady.trans ?_ (State.wrn_calm ..).steady
        exact h7
    extract_lets +onlyGivenNames -merge -underBinder x8
    extract_lets +onlyGivenNames -merge -underBinder x9
    extract_lets +onlyGivenNames -merge -underBinder x10
    have hx10 : Steady s x10 := by
      unfold x10
      refine Steady.foldl ?_ (fun t11 a12 h13 => ?_)
      · exact hx4
      · extract_lets +onlyGivenNames -merge -underBinder x14
        refine Steady.trans ?_ (State.setSlot_calm ..).steady
        exact h13
    extract_lets +onlyGivenNames -merge -underBinder x15 x16
    have hx16 : Steady s x16 := by
      unfold x16
      refine Steady.upd ?_ rfl rfl rfl rfl rfl rfl rfl rfl
      exact hx10
    refine Ends.next ?_
    refine Steady.trans ?_ (State.trialOut_steady ..)
    refine Steady.trans ?_ (State.compareLoop_steady ..)
    refine Steady.trans ?_ (State.answerSlots_calm ..).steady
    refine Steady.trans ?_ (State.sendFrame_calm ..).steady
    exact hx16

end Sys2Proof.Machine
end

