-- ==== Sys2Proof/Laws/Pwm.lean ====
section
/-! SUPPORT. What the operations of Machine/Pwm.lean leave alone (Laws/Keeps.lean). -/

namespace Sys2Proof.Machine

open Sys2Proof

theorem execPwmUpdatePoint_keeps (dt : Nat) (pair : Fin 8) (centre : Bool) (s : State) :
    Ends Keeps s (execPwmUpdatePoint dt pair centre s) := by
  unfold execPwmUpdatePoint
  extract_lets +onlyGivenNames -merge -underBinder x1
  have hx1 : Keeps s x1 := by
    unfold x1
    refine Keeps.trans ?_ (State.protEval_steady ..).keeps
    exact (State.elapse_calm ..).keeps
  extract_lets +onlyGivenNames -merge -underBinder x2
  extract_lets +onlyGivenNames -merge -underBinder x3
  extract_lets +onlyGivenNames -merge -underBinder x4
  extract_lets +onlyGivenNames -merge -underBinder x5
  refine Ends.ite ?_ ?_
  · refine Ends.next ?_
    exact hx1
  · extract_lets +onlyGivenNames -merge -underBinder x6
    extract_lets +onlyGivenNames -merge -underBinder x7
    extract_lets +onlyGivenNames -merge -underBinder x8
    clear_value x6 x7 x8
    split
    · refine Ends.next ?_
      exact hx1
    · extract_lets +onlyGivenNames -merge -underBinder x9
      extract_lets +onlyGivenNames -merge -underBinder x10
      extract_lets +onlyGivenNames -merge -underBinder x11
      split
      · extract_lets +onlyGivenNames -merge -underBinder x12
        have hx12 : Keeps s x12 := by
          unfold x12
          refine Keeps.trans ?_ (State.setPair_keeps ..)
          exact hx1
        refine Ends.next ?_
        refine Keeps.trans ?_ (State.send_calm ..).keeps
        refine Keeps.trans ?_ (State.wrn_calm ..).keeps
        exact hx12

theorem execPwmUpdatePoint_steady (dt : Nat) (pair : Fin 8) (centre : Bool) (s : State) :
    Ends Steady s (execPwmUpdatePoint dt pair centre s) := by
  unfold execPwmUpdatePoint
  extract_lets +onlyGivenNames a m v per mid
  have ha : Steady s a := (State.elapse_calm ..).steady.trans (State.protEval_steady _)
  clear_value a
  split
  · exact Ends.next ha
  · rename_i h
    extract_lets +onlyGivenNames load dtR dtF
    clear_value load dtR dtF
    split
    · exact Ends.next ha
    · extract_lets +onlyGivenNames ton x y
      split
      extract_lets +onlyGivenNames b
      refine Ends.next ((Steady.trans ?_ (State.wrn_calm ..).steady).trans (State.send_calm ..).steady)
      refine ha.trans (a.setPair_steady m _ (Or.inr (Or.inr ?_)))
      simp only [Bool.or_eq_true, not_or, Bool.not_eq_true] at h
      exact h.1.1.1

end Sys2Proof.Machine
end

