-- ==== Sys2Proof/Laws/SetPoint.lean ====
section
/-! SUPPORT. What the operations of Machine/SetPoint.lean leave alone (Laws/Keeps.lean). -/

namespace Sys2Proof.Machine

open Sys2Proof

theorem execSpHostWrite_calm (dt : Nat) (slot : Fin 8) (value : Word) (s : State) :
    Ends Calm s (execSpHostWrite dt slot value s) := by
  unfold execSpHostWrite
  refine Ends.next ?_
  refine Calm.hostDo ?_ (fun t1 h2 => ?_)
  · exact (State.elapse_calm ..)
  · refine Calm.trans ?_ (State.hostEvent_calm ..)
    exact h2

theorem execMeasWrite_calm (dt : Nat) (slot : Fin 8) (value : Word) (s : State) :
    Ends Calm s (execMeasWrite dt slot value s) := by
  unfold execMeasWrite
  refine Ends.next ?_
  refine Calm.hostDo ?_ (fun t1 h2 => ?_)
  · exact (State.elapse_calm ..)
  · refine Calm.trans ?_ (State.hostEvent_calm ..)
    exact h2

theorem execDutyWrite_calm (dt : Nat) (pair : Fin 8) (value : Word) (s : State) :
    Ends Calm s (execDutyWrite dt pair value s) := by
  unfold execDutyWrite
  refine Ends.next ?_
  refine Calm.hostDo ?_ (fun t1 h2 => ?_)
  · exact (State.elapse_calm ..)
  · refine Calm.trans ?_ (State.hostEvent_calm ..)
    exact h2

theorem execDispSpWrite_calm (dt : Nat) (value : Word) (s : State) :
    Ends Calm s (execDispSpWrite dt value s) := by
  unfold execDispSpWrite
  refine Ends.next ?_
  refine Calm.hostDo ?_ (fun t1 h2 => ?_)
  · exact (State.elapse_calm ..)
  · refine Calm.trans ?_ (State.hostEvent_calm ..)
    exact h2

theorem State.loopEffect_keeps (s : State) (p : Page) (o : Nat) (v : Word) :
    Keeps s (State.loopEffect s p o v) := by
  unfold State.loopEffect
  extract_lets +onlyGivenNames -merge -underBinder x1
  have hx1 : Keeps s x1 := by
    unfold x1
    exact (State.wr_calm ..).keeps
  split
  · refine Keeps.ite ?_ ?_
    · refine Keeps.trans ?_ (State.protEval_steady ..).keeps
      refine Keeps.trans ?_ (State.setSlot_calm ..).keeps
      exact hx1
    · exact hx1
  · extract_lets +onlyGivenNames -merge -underBinder x2
    refine Keeps.ite ?_ ?_
    · refine Keeps.trans ?_ (State.setPair_keeps ..)
      exact hx1
    · exact hx1
  · exact hx1

theorem State.loopEffect_steady (s : State) (p : Page) (o : Nat) (v : Word) : Steady s (s.loopEffect p o v) := by
  unfold State.loopEffect
  extract_lets +onlyGivenNames a
  have ha : Steady s a := (State.wr_calm ..).steady
  clear_value a
  split
  · split
    · exact (ha.trans (State.setSlot_calm ..).steady).trans (State.protEval_steady _)
    · exact ha
  · extract_lets m
    split
    · rename_i h
      refine ha.trans (a.setPair_steady _ _ (Or.inr (Or.inr ?_)))
      simp only [Bool.and_eq_true, Bool.not_eq_eq_eq_not, Bool.not_true] at h
      exact h.2
    · exact ha
  · exact ha

theorem State.slotLos_calm (s : State) (kind : Nat) (k : Nat) (los : Bool) :
    Calm s (State.slotLos s kind k los) := by
  unfold State.slotLos
  refine Calm.foldl ?_ (fun t1 a2 h3 => ?_)
  · exact Calm.refl _
  · extract_lets +onlyGivenNames -merge -underBinder x4
    refine Calm.ite ?_ ?_
    · extract_lets +onlyGivenNames -merge -underBinder x5
      have hx5 : Calm s x5 := by
        unfold x5
        refine Calm.ite ?_ ?_
        · refine Calm.trans ?_ (State.flag_calm ..)
          exact h3
        · exact h3
      refine Calm.trans ?_ (State.wrb_calm ..)
      exact hx5
    · exact h3

theorem State.spinX_calm (s : State) (k : Nat) (high : Nat) (period : Nat) :
    Calm s (State.spinX s k high period).2 := by
  unfold State.spinX
  extract_lets +onlyGivenNames -merge -underBinder x1
  extract_lets +onlyGivenNames -merge -underBinder x2
  split
  · refine Calm.pair ?_
    exact Calm.refl _
  · split
    rename_i y3 y4 e5
    have hy4 : Calm s y4 := by
      refine Calm.snd e5 ?_
      exact (State.draw_calm ..)
    refine Calm.pair ?_
    exact hy4

theorem execSpinPeriod_calm (dt : Nat) (k : Fin 4) (high : Nat) (period : Nat) (s : State) :
    Ends Calm s (execSpinPeriod dt k high period s) := by
  unfold execSpinPeriod
  extract_lets +onlyGivenNames -merge -underBinder x1
  have hx1 : Calm s x1 := by
    unfold x1
    exact (State.elapse_calm ..)
  extract_lets +onlyGivenNames -merge -underBinder x2
  refine Ends.ite ?_ ?_
  · refine Ends.next ?_
    exact hx1
  · split
    rename_i y3 y4 e5
    have hy4 : Calm s y4 := by
      refine Calm.snd e5 ?_
      refine Calm.trans ?_ (State.spinX_calm ..)
      exact hx1
    extract_lets +onlyGivenNames -merge -underBinder x6
    have hx6 : Calm s x6 := by
      unfold x6
      refine Calm.trans ?_ (State.wrn_calm ..)
      exact hy4
    extract_lets +onlyGivenNames -merge -underBinder x7
    extract_lets +onlyGivenNames -merge -underBinder x8
    refine Ends.ite ?_ ?_
    · refine Ends.next ?_
      refine Calm.trans ?_ (State.setSpin_calm ..)
      exact hx6
    · extract_lets +onlyGivenNames -merge -underBinder x9
      extract_lets +onlyGivenNames -merge -underBinder x10
      extract_lets +onlyGivenNames -merge -underBinder x11
      refine Ends.ite ?_ ?_
      · extract_lets +onlyGivenNames -merge -underBinder x12
        extract_lets +onlyGivenNames -merge -underBinder x13
        refine Ends.next ?_
        refine Calm.trans ?_ (State.setSpin_calm ..)
        exact hx6
      · extract_lets +onlyGivenNames -merge -underBinder x14
        refine Ends.next ?_
        refine Calm.trans ?_ (State.setSpin_calm ..)
        exact hx6

theorem execSpinLosTimeout_calm (dt : Nat) (k : Fin 4) (s : State) :
    Ends Calm s (execSpinLosTimeout dt k s) := by
  unfold execSpinLosTimeout
  extract_lets +onlyGivenNames -merge -underBinder x1
  have hx1 : Calm s x1 := by
    unfold x1
    exact (State.elapse_calm ..)
  extract_lets +onlyGivenNames -merge -underBinder x2
  refine Ends.ite ?_ ?_
  · refine Ends.next ?_
    refine Calm.trans ?_ (State.setSpin_calm ..)
    exact hx1
  · refine Ends.next ?_
    exact hx1

theorem State.spinTick_calm (s : State) :
    Calm s (State.spinTick s) := by
  unfold State.spinTick
  refine Calm.ite ?_ ?_
  · exact Calm.refl _
  · refine Calm.foldl ?_ (fun t1 a2 h3 => ?_)
    · exact Calm.refl _
    · refine Calm.ite ?_ ?_
      · exact h3
      · extract_lets +onlyGivenNames -merge -underBinder x4
        extract_lets +onlyGivenNames -merge -underBinder x5
        refine Calm.ite ?_ ?_
        · exact h3
        · extract_lets +onlyGivenNames -merge -underBinder x6
          have hx6 : Calm s x6 := by
            unfold x6
            refine Calm.trans ?_ (State.setSpin_calm ..)
            exact h3
          refine Calm.trans ?_ (State.acceptEvent_calm ..)
          exact hx6

theorem State.spinEffect_calm (s : State) (k : Nat) (los : Bool) (x : Int) :
    Calm s (State.spinEffect s k los x) := by
  unfold State.spinEffect
  extract_lets +onlyGivenNames -merge -underBinder x1
  extract_lets +onlyGivenNames -merge -underBinder x2
  extract_lets +onlyGivenNames -merge -underBinder x3
  have hx3 : Calm s x3 := by
    unfold x3
    exact (State.setSpin_calm ..)
  extract_lets +onlyGivenNames -merge -underBinder x4
  have hx4 : Calm s x4 := by
    unfold x4
    refine Calm.trans ?_ (State.wri_calm ..)
    exact hx3
  extract_lets +onlyGivenNames -merge -underBinder x5
  have hx5 : Calm s x5 := by
    unfold x5
    refine Calm.ite ?_ ?_
    · refine Calm.trans ?_ (State.inc_calm ..)
      refine Calm.trans ?_ (State.flag_calm ..)
      exact hx4
    · exact hx4
  refine Calm.trans ?_ (State.slotLos_calm ..)
  refine Calm.trans ?_ (State.wrb_calm ..)
  exact hx5

theorem State.setStreamCount_calm (s : State) (k : Nat) (n : Nat) :
    Calm s (State.setStreamCount s k n) := by
  unfold State.setStreamCount
  extract_lets +onlyGivenNames -merge -underBinder x1 x2
  have hx2 : Calm s x2 := by
    unfold x2
    exact (State.setStream_calm ..)
  refine Calm.ite ?_ ?_
  · refine Calm.trans ?_ (State.writeDeferred_calm ..)
    exact hx2
  · refine Calm.upd ?_ rfl rfl rfl rfl rfl rfl rfl rfl
    exact hx2

theorem State.streamFrame_calm (s : State) (k : Nat) (b : List Byte) :
    Calm s (State.streamFrame s k b) := by
  unfold State.streamFrame
  refine Calm.ite ?_ ?_
  · exact Calm.refl _
  · refine Calm.ite ?_ ?_
    · refine Calm.trans ?_ (State.flag_calm ..)
      exact (State.inc_calm ..)
    · refine Calm.ite ?_ ?_
      · exact (State.setStream_calm ..)
      · extract_lets +onlyGivenNames -merge -underBinder x1
        extract_lets +onlyGivenNames -merge -underBinder x2
        have hx2 : Calm s x2 := by
          unfold x2
          exact (State.setStreamCount_calm ..)
        extract_lets +onlyGivenNames -merge -underBinder x3 x4
        have hx4 : Calm s x4 := by
          unfold x4
          refine Calm.trans ?_ (State.setStream_calm ..)
          exact hx2
        refine Calm.trans ?_ (State.acceptEvent_calm ..)
        exact hx4

theorem State.streamsResume_calm (s : State) :
    Calm s (State.streamsResume s) := by
  unfold State.streamsResume
  refine Calm.foldl ?_ (fun t1 a2 h3 => ?_)
  · exact Calm.refl _
  · extract_lets +onlyGivenNames -merge -underBinder x4
    extract_lets +onlyGivenNames -merge -underBinder x5
    have hx5 : Calm s x5 := by
      unfold x5
      refine Calm.ite ?_ ?_
      · refine Calm.trans ?_ (State.setStreamCount_calm ..)
        exact h3
      · exact h3
    split
    · refine Calm.trans ?_ (State.streamFrame_calm ..)
      refine Calm.trans ?_ (State.setStream_calm ..)
      exact hx5
    · exact hx5

theorem execSetPointStreamFrame_calm (dt : Nat) (k : Fin 8) (bytes : List Byte) (s : State) :
    Ends Calm s (execSetPointStreamFrame dt k bytes s) := by
  unfold execSetPointStreamFrame
  refine Ends.next ?_
  refine Calm.trans ?_ (State.streamFrame_calm ..)
  exact (State.elapse_calm ..)

theorem execStreamTimeout_calm (dt : Nat) (k : Fin 8) (s : State) :
    Ends Calm s (execStreamTimeout dt k s) := by
  unfold execStreamTimeout
  extract_lets +onlyGivenNames -merge -underBinder x1
  have hx1 : Calm s x1 := by
    unfold x1
    exact (State.elapse_calm ..)
  extract_lets +onlyGivenNames -merge -underBinder x2
  extract_lets +onlyGivenNames -merge -underBinder x3
  refine Ends.ite ?_ ?_
  · extract_lets +onlyGivenNames -merge -underBinder x4
    extract_lets +onlyGivenNames -merge -underBinder x5
    have hx5 : Calm s x5 := by
      unfold x5
      refine Calm.trans ?_ (State.setStream_calm ..)
      exact hx1
    refine Ends.next ?_
    refine Calm.trans ?_ (State.acceptEvent_calm ..)
    exact hx5
  · refine Ends.next ?_
    exact hx1

theorem State.streamEffect_calm (s : State) (k : Nat) (los : Bool) (x : Int) (count : Nat) :
    Calm s (State.streamEffect s k los x count) := by
  unfold State.streamEffect
  extract_lets +onlyGivenNames -merge -underBinder x1
  extract_lets +onlyGivenNames -merge -underBinder x2
  have hx2 : Calm s x2 := by
    unfold x2
    refine Calm.ite ?_ ?_
    · exact (State.setStreamCount_calm ..)
    · exact Calm.refl _
  extract_lets +onlyGivenNames -merge -underBinder x3
  extract_lets +onlyGivenNames -merge -underBinder x4
  extract_lets +onlyGivenNames -merge -underBinder x5
  have hx5 : Calm s x5 := by
    unfold x5
    refine Calm.trans ?_ (State.setStream_calm ..)
    exact hx2
  extract_lets +onlyGivenNames -merge -underBinder x6
  have hx6 : Calm s x6 := by
    unfold x6
    refine Calm.ite ?_ ?_
    · refine Calm.trans ?_ (State.inc_calm ..)
      refine Calm.trans ?_ (State.flag_calm ..)
      exact hx5
    · exact hx5
  extract_lets +onlyGivenNames -merge -underBinder x7
  have hx7 : Calm s x7 := by
    unfold x7
    refine Calm.trans ?_ (State.slotLos_calm ..)
    refine Calm.trans ?_ (State.wrb_calm ..)
    exact hx6
  refine Calm.ite ?_ ?_
  · refine Calm.foldl ?_ (fun t8 a9 h10 => ?_)
    · exact hx7
    · extract_lets +onlyGivenNames -merge -underBinder x11
      refine Calm.ite ?_ ?_
      · extract_lets +onlyGivenNames -merge -underBinder x12
        have hx12 : Calm s x12 := by
          unfold x12
          refine Calm.ite ?_ ?_
          · refine Calm.trans ?_ (State.flag_calm ..)
            exact h10
          · exact h10
        refine Calm.trans ?_ (State.wrb_calm ..)
        exact hx12
      · exact h10
  · exact hx7

theorem State.setPointEffect_calm (s : State) (c : List Byte) :
    Calm s (State.setPointEffect s c) := by
  unfold State.setPointEffect
  extract_lets +onlyGivenNames -merge -underBinder x1
  extract_lets +onlyGivenNames -merge -underBinder x2
  extract_lets +onlyGivenNames -merge -underBinder x3
  refine Calm.ite ?_ ?_
  · exact (State.streamEffect_calm ..)
  · exact (State.spinEffect_calm ..)

theorem execStagePathSample_steady (dt : Nat) (input : Fin 12) (w : BitWindow) (s : State) :
    Ends Steady s (execStagePathSample dt input w s) := by
  unfold execStagePathSample
  extract_lets +onlyGivenNames -merge -underBinder x1
  have hx1 : Steady s x1 := by
    unfold x1
    exact (State.elapse_calm ..).steady
  extract_lets +onlyGivenNames -merge -underBinder x2
  refine Ends.ite ?_ ?_
  · refine Ends.next ?_
    exact hx1
  · extract_lets +onlyGivenNames -merge -underBinder x3
    extract_lets +onlyGivenNames -merge -underBinder x4
    extract_lets +onlyGivenNames -merge -underBinder x5
    extract_lets +onlyGivenNames -merge -underBinder x6
    have hx6 : Steady s x6 := by
      unfold x6
      refine Steady.trans ?_ (State.wri_calm ..).steady
      exact hx1
    extract_lets +onlyGivenNames -merge -underBinder x7
    have hx7 : Steady s x7 := by
      unfold x7
      refine Steady.trans ?_ (State.wr64_calm ..).steady
      exact hx6
    extract_lets +onlyGivenNames -merge -underBinder x8 x9
    have hx9 : Steady s x9 := by
      unfold x9
      refine Steady.ite ?_ ?_
      · refine Steady.trans ?_ (State.setModIn_calm ..).steady
        exact hx7
      · exact hx7
    extract_lets +onlyGivenNames -merge -underBinder x10
    extract_lets +onlyGivenNames -merge -underBinder x11
    have hx11 : Steady s x11 := by
      unfold x11
      refine Steady.ite ?_ ?_
      · refine Steady.trans ?_ (State.quietSample_calm ..).steady
        exact hx9
      · exact hx9
    extract_lets +onlyGivenNames -merge -underBinder x12
    have hx12 : Steady s x12 := by
      unfold x12
      refine Steady.ite ?_ ?_
      · refine Steady.trans ?_ (State.istrSample_calm ..).steady
        exact hx11
      · exact hx11
    extract_lets +onlyGivenNames -merge -underBinder x13
    have hx13 : Steady s x13 := by
      unfold x13
      refine Steady.ite ?_ ?_
      · refine Steady.trans ?_ (State.slowCompare_steady ..)
        exact hx12
      · exact hx12
    refine Ends.next ?_
    refine Steady.trans ?_ (State.protEval_steady ..)
    exact hx13

theorem execFastFilterOutput_steady (dt : Nat) (input : Fin 12) (ones : Nat) (sampled : Nat) (s : State) :
    Ends Steady s (execFastFilterOutput dt input ones sampled s) := by
  unfold execFastFilterOutput
  refine Ends.next ?_
  refine Steady.trans ?_ (State.protEval_steady ..)
  refine Steady.trans ?_ (State.fastOutput_steady ..)
  exact (State.elapse_calm ..).steady

theorem execClockLoss_steady (dt : Nat) (group : Fin 2) (unsampled : Nat) (s : State) :
    Ends Steady s (execClockLoss dt group unsampled s) := by
  unfold execClockLoss
  extract_lets +onlyGivenNames -merge -underBinder x1
  have hx1 : Steady s x1 := by
    unfold x1
    exact (State.elapse_calm ..).steady
  refine Ends.ite ?_ ?_
  · refine Ends.next ?_
    refine Steady.trans ?_ (State.protEval_steady ..)
    refine Steady.trans ?_ (State.clockLoss_steady ..)
    exact hx1
  · refine Ends.next ?_
    exact hx1

theorem execStuckRun_steady (dt : Nat) (input : Fin 12) (s : State) :
    Ends Steady s (execStuckRun dt input s) := by
  unfold execStuckRun
  extract_lets +onlyGivenNames -merge -underBinder x1
  have hx1 : Steady s x1 := by
    unfold x1
    exact (State.elapse_calm ..).steady
  refine Ends.ite ?_ ?_
  · refine Ends.next ?_
    refine Steady.trans ?_ (State.protEval_steady ..)
    refine Steady.trans ?_ (State.stuckRun_steady ..)
    exact hx1
  · refine Ends.next ?_
    exact hx1

end Sys2Proof.Machine
end

