-- ==== Sys2Proof/Laws/SafetyInputs.lean ====
section
/-! SUPPORT. What the operations of Machine/SafetyInputs.lean leave alone (Laws/Keeps.lean). -/

namespace Sys2Proof.Machine

open Sys2Proof

theorem State.setSafeIn_calm (s : State) (n : Nat) (v : SafeIn) :
    Calm s (State.setSafeIn s n v) := by
  unfold State.setSafeIn
  refine Calm.upd ?_ rfl rfl rfl rfl rfl rfl rfl rfl
  exact Calm.refl _

theorem State.safeShow_calm (s : State) :
    Calm s (State.safeShow s) := by
  unfold State.safeShow
  extract_lets +onlyGivenNames -merge -underBinder x1
  extract_lets +onlyGivenNames -merge -underBinder x2
  have hx2 : Calm s x2 := by
    unfold x2
    refine Calm.foldl ?_ (fun t3 a4 h5 => ?_)
    · exact Calm.refl _
    · extract_lets +onlyGivenNames -merge -underBinder x6
      refine Calm.trans ?_ (State.wrn_calm ..)
      exact h5
  refine Calm.trans ?_ (State.wrn_calm ..)
  exact hx2

theorem State.safeSources_steady (s : State) :
    Steady s (State.safeSources s) := by
  unfold State.safeSources
  extract_lets +onlyGivenNames -merge -underBinder x1
  refine Steady.trans ?_ (State.protEval_steady ..)
  refine Steady.trans ?_ (State.safeShow_calm ..).steady
  refine Steady.upd ?_ rfl rfl rfl rfl rfl rfl rfl rfl
  exact Steady.refl _

theorem State.latchFault_calm (s : State) (n : Nat) (code : Nat) :
    Calm s (State.latchFault s n code) := by
  unfold State.latchFault
  extract_lets +onlyGivenNames -merge -underBinder x1
  extract_lets +onlyGivenNames -merge -underBinder x2
  have hx2 : Calm s x2 := by
    unfold x2
    exact (State.inc_calm ..)
  extract_lets +onlyGivenNames -merge -underBinder x3
  have hx3 : Calm s x3 := by
    unfold x3
    refine Calm.trans ?_ (State.flag_calm ..)
    exact hx2
  extract_lets +onlyGivenNames -merge -underBinder x4
  have hx4 : Calm s x4 := by
    unfold x4
    refine Calm.ite ?_ ?_
    · exact hx3
    · refine Calm.trans ?_ (State.trigger_calm ..)
      exact hx3
  refine Calm.trans ?_ (State.setSafeIn_calm ..)
  exact hx4

theorem State.inputEval_calm (s : State) (t : Nat) (n : Nat) (a : Bool) (b : Bool) :
    Calm s (State.inputEval s t n a b) := by
  unfold State.inputEval
  extract_lets +onlyGivenNames -merge -underBinder x1
  extract_lets +onlyGivenNames -merge -underBinder x2
  extract_lets +onlyGivenNames -merge -underBinder x3
  extract_lets +onlyGivenNames -merge -underBinder x4
  extract_lets +onlyGivenNames -merge -underBinder x5
  extract_lets +onlyGivenNames -merge -underBinder x6
  have hx6 : Calm s x6 := by
    unfold x6
    refine Calm.ite ?_ ?_
    · exact (State.flag_calm ..)
    · exact Calm.refl _
  extract_lets +onlyGivenNames -merge -underBinder x7
  extract_lets +onlyGivenNames -merge -underBinder x8
  have hx8 : Calm s x8 := by
    unfold x8
    refine Calm.trans ?_ (State.setSafeIn_calm ..)
    exact hx6
  extract_lets +onlyGivenNames -merge -underBinder x9
  have hx9 : Calm s x9 := by
    unfold x9
    refine Calm.ite ?_ ?_
    · refine Calm.trans ?_ (State.latchFault_calm ..)
      exact hx8
    · exact hx8
  extract_lets +onlyGivenNames -merge -underBinder x10
  extract_lets +onlyGivenNames -merge -underBinder x11 x12 x13
  have hx12 : Calm s x12 := by
    unfold x12
    refine Calm.upd ?_ rfl rfl rfl rfl rfl rfl rfl rfl
    exact hx9
  have hx13 : Calm s x13 := by
    unfold x13
    refine Calm.ite ?_ ?_
    · refine Calm.trans ?_ (State.setSafeIn_calm ..)
      exact hx12
    · exact hx9
  extract_lets +onlyGivenNames -merge -underBinder x14
  refine Calm.ite ?_ ?_
  · refine Calm.upd ?_ rfl rfl rfl rfl rfl rfl rfl rfl
    exact hx13
  · exact hx13

theorem State.takeReads_calm (s : State) (x : PinReads) :
    Calm s (State.takeReads s x) := by
  unfold State.takeReads
  extract_lets +onlyGivenNames -merge -underBinder x1
  refine Calm.upd ?_ rfl rfl rfl rfl rfl rfl rfl rfl
  exact Calm.refl _

theorem State.pressIgnored_calm (s : State) :
    Calm s (State.pressIgnored s) := by
  unfold State.pressIgnored
  refine Calm.trans ?_ (State.flag_calm ..)
  exact (State.inc_calm ..)

theorem State.faultReset_steady (s : State) (t : Nat) :
    Steady s (State.faultReset s t) := by
  unfold State.faultReset
  extract_lets +onlyGivenNames -merge -underBinder x1
  have hx1 : Steady s x1 := by
    unfold x1
    refine Steady.trans ?_ (State.flag_calm ..).steady
    exact (State.inc_calm ..).steady
  extract_lets +onlyGivenNames -merge -underBinder x2 x3
  have hx3 : Steady s x3 := by
    unfold x3
    refine Steady.upd ?_ rfl rfl rfl rfl rfl rfl rfl rfl
    exact hx1
  extract_lets +onlyGivenNames -merge -underBinder x4
  have hx4 : Steady s x4 := by
    unfold x4
    refine Steady.foldl ?_ (fun t5 a6 h7 => ?_)
    · exact hx3
    · extract_lets +onlyGivenNames -merge -underBinder x8
      refine Steady.ite ?_ ?_
      · refine Steady.trans ?_ (State.wrf_calm ..).steady
        refine Steady.trans ?_ (State.setConn_calm ..).steady
        exact h7
      · exact h7
  refine Steady.trans ?_ (State.setSource_steady ..)
  exact hx4

theorem State.resetRecord_calm (s : State) :
    Calm s (State.resetRecord s) := by
  unfold State.resetRecord
  split
  · extract_lets +onlyGivenNames -merge -underBinder x1
    have hx1 : Calm s x1 := by
      unfold x1
      exact (State.record_calm ..)
    refine Calm.upd ?_ rfl rfl rfl rfl rfl rfl rfl rfl
    exact hx1
  · exact Calm.refl _

theorem State.resetSample_steady (s : State) (t : Nat) (level : Bool) :
    Steady s (State.resetSample s t level) := by
  unfold State.resetSample
  extract_lets +onlyGivenNames -merge -underBinder x1
  extract_lets +onlyGivenNames -merge -underBinder x2
  have hx2 : Steady s x2 := by
    unfold x2
    refine Steady.trans ?_ (State.wrf_calm ..).steady
    exact (State.wrb_calm ..).steady
  refine Steady.ite ?_ ?_
  · refine Steady.upd ?_ rfl rfl rfl rfl rfl rfl rfl rfl
    exact hx2
  · extract_lets +onlyGivenNames -merge -underBinder x3
    have hx3 : Steady s x3 := by
      unfold x3
      refine Steady.upd ?_ rfl rfl rfl rfl rfl rfl rfl rfl
      exact hx2
    refine Steady.ite ?_ ?_
    · exact hx3
    · refine Steady.ite ?_ ?_
      · refine Steady.trans ?_ (State.pressIgnored_calm ..).steady
        exact hx3
      · refine Steady.ite ?_ ?_
        · refine Steady.trans ?_ (State.faultReset_steady ..)
          exact hx3
        · exact hx3

theorem execStuckReset_calm (dt : Nat) (s : State) :
    Ends Calm s (execStuckReset dt s) := by
  unfold execStuckReset
  extract_lets +onlyGivenNames -merge -underBinder x1
  have hx1 : Calm s x1 := by
    unfold x1
    exact (State.elapse_calm ..)
  refine Ends.ite ?_ ?_
  · extract_lets +onlyGivenNames -merge -underBinder x2 x3
    have hx3 : Calm s x3 := by
      unfold x3
      refine Calm.upd ?_ rfl rfl rfl rfl rfl rfl rfl rfl
      exact hx1
    refine Ends.next ?_
    refine Calm.trans ?_ (State.record_calm ..)
    refine Calm.trans ?_ (State.flag_calm ..)
    refine Calm.trans ?_ (State.wrb_calm ..)
    exact hx3
  · refine Ends.next ?_
    exact hx1

theorem execStuckResetEnd_calm (dt : Nat) (s : State) :
    Ends Calm s (execStuckResetEnd dt s) := by
  unfold execStuckResetEnd
  extract_lets +onlyGivenNames -merge -underBinder x1
  have hx1 : Calm s x1 := by
    unfold x1
    exact (State.elapse_calm ..)
  refine Ends.ite ?_ ?_
  · extract_lets +onlyGivenNames -merge -underBinder x2 x3
    have hx3 : Calm s x3 := by
      unfold x3
      refine Calm.upd ?_ rfl rfl rfl rfl rfl rfl rfl rfl
      exact hx1
    refine Ends.next ?_
    refine Calm.trans ?_ (State.wrb_calm ..)
    exact hx3
  · refine Ends.next ?_
    exact hx1

theorem State.safeTick_steady (s : State) (x : TickInputs) :
    Steady s (State.safeTick s x) := by
  unfold State.safeTick
  extract_lets +onlyGivenNames -merge -underBinder x1
  extract_lets +onlyGivenNames -merge -underBinder x2
  extract_lets +onlyGivenNames -merge -underBinder x3
  have hx3 : Steady s x3 := by
    unfold x3
    exact (State.takeReads_calm ..).steady
  extract_lets +onlyGivenNames -merge -underBinder x4
  extract_lets +onlyGivenNames -merge -underBinder x5 x6 x7
  have hx7 : Steady s x7 := by
    unfold x7
    refine Steady.upd ?_ rfl rfl rfl rfl rfl rfl rfl rfl
    exact hx3
  refine Steady.ite ?_ ?_
  · exact hx7
  · extract_lets +onlyGivenNames -merge -underBinder x8
    have hx8 : Steady s x8 := by
      unfold x8
      refine Steady.trans ?_ (State.wr64_calm ..).steady
      exact hx7
    extract_lets +onlyGivenNames -merge -underBinder x9
    have hx9 : Steady s x9 := by
      unfold x9
      refine Steady.trans ?_ (State.resetSample_steady ..)
      exact hx8
    extract_lets +onlyGivenNames -merge -underBinder x10
    have hx10 : Steady s x10 := by
      unfold x10
      refine Steady.foldl ?_ (fun t11 a12 h13 => ?_)
      · exact hx9
      · refine Steady.ite ?_ ?_
        · exact h13
        · refine Steady.ite ?_ ?_
          · split
            · refine Steady.trans ?_ (State.inputEval_calm ..).steady
              exact h13
          · extract_lets +onlyGivenNames -merge -underBinder x14
            extract_lets +onlyGivenNames -merge -underBinder x15
            extract_lets +onlyGivenNames -merge -underBinder x16
            extract_lets +onlyGivenNames -merge -underBinder x17
            refine Steady.ite ?_ ?_
            · refine Steady.trans ?_ (State.inputEval_calm ..).steady
              exact h13
            · extract_lets +onlyGivenNames -merge -underBinder x18
              extract_lets +onlyGivenNames -merge -underBinder x19
              extract_lets +onlyGivenNames -merge -underBinder x20
              have hx20 : Steady s x20 := by
                unfold x20
                refine Steady.ite ?_ ?_
                · refine Steady.trans ?_ (State.flag_calm ..).steady
                  exact h13
                · exact h13
              refine Steady.trans ?_ (State.setSafeIn_calm ..).steady
              exact hx20
    extract_lets +onlyGivenNames -merge -underBinder x21
    have hx21 : Steady s x21 := by
      unfold x21
      refine Steady.ite ?_ ?_
      · refine Steady.trans ?_ (State.resetRecord_calm ..).steady
        exact hx10
      · exact hx10
    refine Steady.trans ?_ (State.safeSources_steady ..)
    exact hx21

theorem State.judgeChannel_calm (s : State) (n : Nat) (fed : Bool) (l0 : Bool) (l200 : Bool) (l300 : Bool) (chB :
    Bool) :
    Calm s (State.judgeChannel s n fed l0 l200 l300 chB) := by
  unfold State.judgeChannel
  refine Calm.ite ?_ ?_
  · refine Calm.ite ?_ ?_
    · exact (State.latchFault_calm ..)
    · exact Calm.refl _
  · refine Calm.ite ?_ ?_
    · exact (State.latchFault_calm ..)
    · exact Calm.refl _

theorem State.judgeWindow_calm (s : State) (k : Nat) (l0 : Nat) (l200 : Nat) (l300 : Nat) :
    Calm s (State.judgeWindow s k l0 l200 l300) := by
  unfold State.judgeWindow
  refine Calm.foldl ?_ (fun t1 a2 h3 => ?_)
  · exact Calm.refl _
  · refine Calm.ite ?_ ?_
    · exact h3
    · extract_lets +onlyGivenNames -merge -underBinder x4
      have hx4 : Calm s x4 := by
        unfold x4
        refine Calm.trans ?_ (State.judgeChannel_calm ..)
        exact h3
      refine Calm.trans ?_ (State.judgeChannel_calm ..)
      exact hx4

theorem execTestWindowClose_steady (dt : Nat) (tpo : Fin 8) (x : WindowReads) (s : State) :
    Ends Steady s (execTestWindowClose dt tpo x s) := by
  unfold execTestWindowClose
  extract_lets +onlyGivenNames -merge -underBinder x1
  have hx1 : Steady s x1 := by
    unfold x1
    exact (State.elapse_calm ..).steady
  split
  · refine Ends.next ?_
    exact hx1
  · refine Ends.ite ?_ ?_
    · refine Ends.next ?_
      exact hx1
    · extract_lets +onlyGivenNames -merge -underBinder x2
      have hx2 : Steady s x2 := by
        unfold x2
        refine Steady.trans ?_ (State.takeReads_calm ..).steady
        exact hx1
      extract_lets +onlyGivenNames -merge -underBinder x3
      extract_lets +onlyGivenNames -merge -underBinder x4
      have hx4 : Steady s x4 := by
        unfold x4
        refine Steady.trans ?_ (State.takeReads_calm ..).steady
        exact hx2
      extract_lets +onlyGivenNames -merge -underBinder x5
      extract_lets +onlyGivenNames -merge -underBinder x6 x7
      have hx7 : Steady s x7 := by
        unfold x7
        refine Steady.upd ?_ rfl rfl rfl rfl rfl rfl rfl rfl
        exact hx4
      refine Ends.ite ?_ ?_
      · refine Ends.next ?_
        exact hx7
      · extract_lets +onlyGivenNames -merge -underBinder x8
        extract_lets +onlyGivenNames -merge -underBinder x9
        have hx9 : Steady s x9 := by
          unfold x9
          refine Steady.trans ?_ (State.wrb_calm ..).steady
          exact hx7
        extract_lets +onlyGivenNames -merge -underBinder x10
        have hx10 : Steady s x10 := by
          unfold x10
          refine Steady.ite ?_ ?_
          · refine Steady.trans ?_ (State.judgeWindow_calm ..).steady
            exact hx9
          · refine Steady.trans ?_ (State.inc_calm ..).steady
            exact hx9
        extract_lets +onlyGivenNames -merge -underBinder x11
        have hx11 : Steady s x11 := by
          unfold x11
          refine Steady.foldl ?_ (fun t12 a13 h14 => ?_)
          · exact hx10
          · extract_lets +onlyGivenNames -merge -underBinder x15
            refine Steady.ite ?_ ?_
            · refine Steady.trans ?_ (State.inputEval_calm ..).steady
              exact h14
            · exact h14
        refine Ends.next ?_
        refine Steady.trans ?_ (State.safeSources_steady ..)
        refine Steady.trans ?_ (State.resetRecord_calm ..).steady
        exact hx11

theorem State.markPeerPulses_calm (s : State) :
    Calm s (State.markPeerPulses s) := by
  unfold State.markPeerPulses
  split
  · refine Calm.ite ?_ ?_
    · exact Calm.refl _
    · refine Calm.upd ?_ rfl rfl rfl rfl rfl rfl rfl rfl
      exact Calm.refl _
  · exact Calm.refl _

theorem State.adoptSutclr_steady (s : State) :
    Steady s (State.adoptSutclr s) := by
  unfold State.adoptSutclr
  refine Steady.ite ?_ ?_
  · refine Steady.trans ?_ (State.protEval_steady ..)
    refine Steady.trans ?_ (State.safeShow_calm ..).steady
    refine Steady.upd ?_ rfl rfl rfl rfl rfl rfl rfl rfl
    exact Steady.refl _
  · exact Steady.refl _

theorem State.safeEnabling_calm (s : State) :
    Calm s (State.safeEnabling s) := by
  unfold State.safeEnabling
  refine Calm.trans ?_ (State.safeShow_calm ..)
  refine Calm.upd ?_ rfl rfl rfl rfl rfl rfl rfl rfl
  exact Calm.refl _

theorem State.safeStarted_steady (s : State) :
    Steady s (State.safeStarted s) := by
  unfold State.safeStarted
  extract_lets +onlyGivenNames -merge -underBinder x1 x2
  have hx2 : Steady s x2 := by
    unfold x2
    refine Steady.upd ?_ rfl rfl rfl rfl rfl rfl rfl rfl
    exact Steady.refl _
  refine Steady.trans ?_ (State.safeSources_steady ..)
  refine Steady.ite ?_ ?_
  · refine Steady.trans ?_ (State.adoptSutclr_steady ..)
    exact hx2
  · exact hx2

theorem State.safeStopped_steady (s : State) :
    Steady s (State.safeStopped s) := by
  unfold State.safeStopped
  extract_lets +onlyGivenNames -merge -underBinder x1 x2
  have hx2 : Steady s x2 := by
    unfold x2
    refine Steady.upd ?_ rfl rfl rfl rfl rfl rfl rfl rfl
    exact Steady.refl _
  refine Steady.trans ?_ (State.safeSources_steady ..)
  refine Steady.trans ?_ (State.wrn_calm ..).steady
  exact hx2

end Sys2Proof.Machine
end

