-- ==== Sys2Proof/Laws/SafetyLayer.lean ====
section
/-! SUPPORT. What the operations of Machine/SafetyLayer.lean leave alone (Laws/Keeps.lean). -/

namespace Sys2Proof.Machine

open Sys2Proof

theorem State.connShow_steady (s : State) :
    Steady s (State.connShow s) := by
  unfold State.connShow
  extract_lets +onlyGivenNames -merge -underBinder x1
  have hx1 : Steady s x1 := by
    unfold x1
    refine Steady.foldl ?_ (fun t2 a3 h4 => ?_)
    · exact Steady.refl _
    · extract_lets +onlyGivenNames -merge -underBinder x5
      extract_lets +onlyGivenNames -merge -underBinder x6
      have hx6 : Steady s x6 := by
        unfold x6
        refine Steady.trans ?_ (State.wrn_calm ..).steady
        exact h4
      extract_lets +onlyGivenNames -merge -underBinder x7
      have hx7 : Steady s x7 := by
        unfold x7
        refine Steady.trans ?_ (State.wrn_calm ..).steady
        exact hx6
      refine Steady.trans ?_ (State.wrn_calm ..).steady
      exact hx7
  refine Steady.trans ?_ (State.setSource_steady ..)
  exact hx1

theorem State.slayReset_steady (s : State) :
    Steady s (State.slayReset s) := by
  unfold State.slayReset
  extract_lets +onlyGivenNames -merge -underBinder x1
  extract_lets +onlyGivenNames -merge -underBinder x2
  have hx2 : Steady s x2 := by
    unfold x2
    refine Steady.foldl ?_ (fun t3 a4 h5 => ?_)
    · exact Steady.refl _
    · extract_lets +onlyGivenNames -merge -underBinder x6
      refine Steady.trans ?_ (State.setConn_calm ..).steady
      exact h5
  refine Steady.trans ?_ (State.connShow_steady ..)
  refine Steady.upd ?_ rfl rfl rfl rfl rfl rfl rfl rfl
  exact hx2

theorem State.connFail_steady (s : State) (k : Nat) (cause : Nat) :
    Steady s (State.connFail s k cause) := by
  unfold State.connFail
  extract_lets +onlyGivenNames -merge -underBinder x1
  extract_lets +onlyGivenNames -merge -underBinder x2
  have hx2 : Steady s x2 := by
    unfold x2
    exact (State.setConn_calm ..).steady
  extract_lets +onlyGivenNames -merge -underBinder x3
  have hx3 : Steady s x3 := by
    unfold x3
    refine Steady.trans ?_ (State.flag_calm ..).steady
    refine Steady.trans ?_ (State.inc_calm ..).steady
    exact hx2
  extract_lets +onlyGivenNames -merge -underBinder x4
  have hx4 : Steady s x4 := by
    unfold x4
    refine Steady.ite ?_ ?_
    · refine Steady.trans ?_ (State.flag_calm ..).steady
      refine Steady.trans ?_ (State.inc_calm ..).steady
      exact hx3
    · exact hx3
  extract_lets +onlyGivenNames -merge -underBinder x5
  have hx5 : Steady s x5 := by
    unfold x5
    refine Steady.trans ?_ (State.record_calm ..).steady
    exact hx4
  refine Steady.trans ?_ (State.connShow_steady ..)
  refine Steady.trans ?_ (State.trigger_calm ..).steady
  exact hx5

theorem State.connExpiry_steady (s : State) :
    Steady s (State.connExpiry s) := by
  unfold State.connExpiry
  refine Steady.ite ?_ ?_
  · exact Steady.refl _
  · refine Steady.foldl ?_ (fun t1 a2 h3 => ?_)
    · exact Steady.refl _
    · extract_lets +onlyGivenNames -merge -underBinder x4
      refine Steady.ite ?_ ?_
      · refine Steady.trans ?_ (State.connFail_steady ..)
        exact h3
      · exact h3

theorem State.espReject_steady (s : State) (k : Nat) (code : Nat) (seq : Nat) :
    Steady s (State.espReject s k code seq) := by
  unfold State.espReject
  extract_lets +onlyGivenNames -merge -underBinder x1
  have hx1 : Steady s x1 := by
    unfold x1
    refine Steady.trans ?_ (State.flag_calm ..).steady
    exact (State.inc_calm ..).steady
  extract_lets +onlyGivenNames -merge -underBinder x2
  refine Steady.ite ?_ ?_
  · refine Steady.trans ?_ (State.connShow_steady ..)
    refine Steady.trans ?_ (State.setConn_calm ..).steady
    exact hx1
  · extract_lets +onlyGivenNames -merge -underBinder x3
    extract_lets +onlyGivenNames -merge -underBinder x4
    extract_lets +onlyGivenNames -merge -underBinder x5
    have hx5 : Steady s x5 := by
      unfold x5
      refine Steady.trans ?_ (State.setConn_calm ..).steady
      exact hx1
    refine Steady.trans ?_ (State.connShow_steady ..)
    refine Steady.ite ?_ ?_
    · refine Steady.trans ?_ (State.acceptEvent_calm ..).steady
      exact hx5
    · exact hx5

theorem State.espAccept_steady (s : State) (k : Nat) (seq : Nat) (age : Int) (deadline : Int) (f : List Byte) :
    Steady s (State.espAccept s k seq age deadline f) := by
  unfold State.espAccept
  extract_lets +onlyGivenNames -merge -underBinder x1
  extract_lets +onlyGivenNames -merge -underBinder x2
  have hx2 : Steady s x2 := by
    unfold x2
    exact (State.setConn_calm ..).steady
  extract_lets +onlyGivenNames -merge -underBinder x3
  have hx3 : Steady s x3 := by
    unfold x3
    refine Steady.trans ?_ (State.wrn_calm ..).steady
    exact hx2
  extract_lets +onlyGivenNames -merge -underBinder x4
  have hx4 : Steady s x4 := by
    unfold x4
    refine Steady.trans ?_ (State.acceptEvent_calm ..).steady
    exact hx3
  refine Steady.trans ?_ (State.connShow_steady ..)
  refine Steady.trans ?_ (State.ringPush_calm ..).steady
  exact hx4

theorem State.espData_steady (s : State) (k : Nat) (f : List Byte) :
    Steady s (State.espData s k f) := by
  unfold State.espData
  extract_lets +onlyGivenNames -merge -underBinder x1
  extract_lets +onlyGivenNames -merge -underBinder x2
  extract_lets +onlyGivenNames -merge -underBinder x3
  extract_lets +onlyGivenNames -merge -underBinder x4
  extract_lets +onlyGivenNames -merge -underBinder x5
  refine Steady.ite ?_ ?_
  · exact (State.espReject_steady ..)
  · refine Steady.ite ?_ ?_
    · exact (State.espAccept_steady ..)
    · refine Steady.ite ?_ ?_
      · exact (State.espReject_steady ..)
      · extract_lets +onlyGivenNames -merge -underBinder x6
        refine Steady.ite ?_ ?_
        · exact (State.espReject_steady ..)
        · refine Steady.ite ?_ ?_
          · exact (State.espReject_steady ..)
          · extract_lets +onlyGivenNames -merge -underBinder x7
            have hx7 : Steady s x7 := by
              unfold x7
              refine Steady.ite ?_ ?_
              · refine Steady.trans ?_ (State.flag_calm ..).steady
                exact (State.incBy_calm ..).steady
              · exact Steady.refl _
            refine Steady.trans ?_ (State.espAccept_steady ..)
            exact hx7

theorem State.espEcho_steady (s : State) (k : Nat) (f : List Byte) :
    Steady s (State.espEcho s k f) := by
  unfold State.espEcho
  extract_lets +onlyGivenNames -merge -underBinder x1
  extract_lets +onlyGivenNames -merge -underBinder x2
  extract_lets +onlyGivenNames -merge -underBinder x3
  refine Steady.ite ?_ ?_
  · exact (State.espReject_steady ..)
  · extract_lets +onlyGivenNames -merge -underBinder x4
    have hx4 : Steady s x4 := by
      unfold x4
      exact (State.setConn_calm ..).steady
    refine Steady.trans ?_ (State.connShow_steady ..)
    refine Steady.trans ?_ (State.acceptEvent_calm ..).steady
    exact hx4

theorem State.espFrameIn_steady (s : State) (conns : List Nat) (f : List Byte) :
    Steady s (State.espFrameIn s conns f) := by
  unfold State.espFrameIn
  refine Steady.ite ?_ ?_
  · exact Steady.refl _
  · extract_lets +onlyGivenNames -merge -underBinder x1
    extract_lets +onlyGivenNames -merge -underBinder x2
    clear_value x2
    split
    · refine Steady.trans ?_ (State.flag_calm ..).steady
      exact (State.inc_calm ..).steady
    · extract_lets +onlyGivenNames -merge -underBinder x3
      extract_lets +onlyGivenNames -merge -underBinder x4
      extract_lets +onlyGivenNames -merge -underBinder x5
      refine Steady.ite ?_ ?_
      · exact (State.espReject_steady ..)
      · refine Steady.ite ?_ ?_
        · exact (State.espReject_steady ..)
        · refine Steady.ite ?_ ?_
          · exact (State.espData_steady ..)
          · exact (State.espEcho_steady ..)

theorem execEspitonData_steady (dt : Nat) (src : EspSource) (bytes : List Byte) (s : State) :
    Ends Steady s (execEspitonData dt src bytes s) := by
  unfold execEspitonData
  extract_lets +onlyGivenNames -merge -underBinder x1
  have hx1 : Steady s x1 := by
    unfold x1
    exact (State.elapse_calm ..).steady
  extract_lets +onlyGivenNames -merge -underBinder x2
  refine Ends.next ?_
  refine Steady.ite ?_ ?_
  · exact hx1
  · refine Steady.trans ?_ (State.espFrameIn_steady ..)
    exact hx1

theorem execEspitonEcho_steady (dt : Nat) (src : EspSource) (bytes : List Byte) (s : State) :
    Ends Steady s (execEspitonEcho dt src bytes s) := by
  unfold execEspitonEcho
  extract_lets +onlyGivenNames -merge -underBinder x1
  have hx1 : Steady s x1 := by
    unfold x1
    exact (State.elapse_calm ..).steady
  extract_lets +onlyGivenNames -merge -underBinder x2
  refine Ends.next ?_
  refine Steady.ite ?_ ?_
  · exact hx1
  · refine Steady.trans ?_ (State.espFrameIn_steady ..)
    exact hx1

theorem State.takeBuffers_calm (s : State) (ring : Nat) (a1 : Nat) :
    Calm s (State.takeBuffers s ring a1) := by
  unfold State.takeBuffers
  split
  · exact Calm.refl _
  · split
    · exact Calm.refl _
    · extract_lets +onlyGivenNames -merge -underBinder x1
      extract_lets +onlyGivenNames -merge -underBinder x2 x3
      have hx3 : Calm s x3 := by
        unfold x3
        refine Calm.ite ?_ ?_
        · refine Calm.upd ?_ rfl rfl rfl rfl rfl rfl rfl rfl
          exact Calm.refl _
        · exact Calm.refl _
      refine Calm.trans ?_ (State.takeBuffers_calm ..)
      refine Calm.trans ?_ (State.ringComplete_calm ..)
      exact hx3

theorem execEspitonPeriod_steady (dt : Nat) (conn : Fin 8) (s : State) :
    Ends Steady s (execEspitonPeriod dt conn s) := by
  unfold execEspitonPeriod
  extract_lets +onlyGivenNames -merge -underBinder x1
  have hx1 : Steady s x1 := by
    unfold x1
    exact (State.elapse_calm ..).steady
  extract_lets +onlyGivenNames -merge -underBinder x2
  refine Ends.ite ?_ ?_
  · refine Ends.next ?_
    exact hx1
  · extract_lets +onlyGivenNames -merge -underBinder x3
    refine Ends.ite ?_ ?_
    · extract_lets +onlyGivenNames -merge -underBinder x4
      extract_lets +onlyGivenNames -merge -underBinder x5
      extract_lets +onlyGivenNames -merge -underBinder x6
      have hx6 : Steady s x6 := by
        unfold x6
        refine Steady.ite ?_ ?_
        · refine Steady.trans ?_ (State.takeBuffers_calm ..).steady
          exact hx1
        · exact hx1
      extract_lets +onlyGivenNames -merge -underBinder x7
      extract_lets +onlyGivenNames -merge -underBinder x8
      extract_lets +onlyGivenNames -merge -underBinder x9
      extract_lets +onlyGivenNames -merge -underBinder x10
      extract_lets +onlyGivenNames -merge -underBinder x11
      have hx11 : Steady s x11 := by
        unfold x11
        refine Steady.trans ?_ (State.sendNet_calm ..).steady
        refine Steady.trans ?_ (State.setConn_calm ..).steady
        exact hx6
      refine Ends.next ?_
      refine Steady.trans ?_ (State.connShow_steady ..)
      refine Steady.trans ?_ (State.acceptEvent_calm ..).steady
      exact hx11
    · extract_lets +onlyGivenNames -merge -underBinder x12
      extract_lets +onlyGivenNames -merge -underBinder x13
      extract_lets +onlyGivenNames -merge -underBinder x14
      extract_lets +onlyGivenNames -merge -underBinder x15
      have hx15 : Steady s x15 := by
        unfold x15
        refine Steady.trans ?_ (State.sendNet_calm ..).steady
        refine Steady.trans ?_ (State.setConn_calm ..).steady
        exact hx1
      refine Ends.next ?_
      refine Steady.trans ?_ (State.connShow_steady ..)
      refine Steady.trans ?_ (State.acceptEvent_calm ..).steady
      exact hx15

theorem State.espEffect_steady (s : State) (m : List Byte) :
    Steady s (State.espEffect s m) := by
  unfold State.espEffect
  extract_lets +onlyGivenNames -merge -underBinder x1
  extract_lets +onlyGivenNames -merge -underBinder x2
  extract_lets +onlyGivenNames -merge -underBinder x3
  refine Steady.ite ?_ ?_
  · exact Steady.refl _
  · extract_lets +onlyGivenNames -merge -underBinder x4
    extract_lets +onlyGivenNames -merge -underBinder x5
    split
    · extract_lets +onlyGivenNames -merge -underBinder x6
      extract_lets +onlyGivenNames -merge -underBinder x7
      refine Steady.trans ?_ (State.connShow_steady ..)
      exact (State.setConn_calm ..).steady
    · extract_lets +onlyGivenNames -merge -underBinder x8
      refine Steady.trans ?_ (State.connShow_steady ..)
      exact (State.setConn_calm ..).steady
    · refine Steady.trans ?_ (State.connShow_steady ..)
      exact (State.setConn_calm ..).steady
    · refine Steady.trans ?_ (State.connShow_steady ..)
      exact (State.setConn_calm ..).steady
    · extract_lets +onlyGivenNames -merge -underBinder x9
      have hx9 : Steady s x9 := by
        unfold x9
        exact (State.setConn_calm ..).steady
      refine Steady.ite ?_ ?_
      · refine Steady.trans ?_ (State.connFail_steady ..)
        exact hx9
      · exact hx9
    · exact Steady.refl _

theorem State.slayActive_calm (s : State) :
    Calm s (State.slayActive s) := by
  unfold State.slayActive
  extract_lets +onlyGivenNames -merge -underBinder x1
  extract_lets +onlyGivenNames -merge -underBinder x2
  refine Calm.foldl ?_ (fun t3 a4 h5 => ?_)
  · exact Calm.refl _
  · extract_lets +onlyGivenNames -merge -underBinder x6
    refine Calm.trans ?_ (State.setConn_calm ..)
    exact h5

end Sys2Proof.Machine
end

