-- ==== Sys2Proof/Laws/Roles.lean ====
section
/-! SUPPORT. What the operations of Machine/Roles.lean leave alone (Laws/Keeps.lean). -/

namespace Sys2Proof.Machine

open Sys2Proof

theorem State.modeChanged_steady (s : State) :
    Steady s (State.modeChanged s) := by
  unfold State.modeChanged
  exact (State.protEval_steady ..)

theorem State.enterActiveRole_steady (s : State) :
    Steady s (State.enterActiveRole s) := by
  unfold State.enterActiveRole
  extract_lets +onlyGivenNames -merge -underBinder x1 x2 x3 x4
  have hx4 : Steady s x4 := by
    unfold x4
    refine Steady.upd ?_ rfl rfl rfl rfl rfl rfl rfl rfl
    exact Steady.refl _
  refine Steady.trans ?_ (State.modeChanged_steady ..)
  refine Steady.trans ?_ (State.slayActive_calm ..).steady
  exact hx4

theorem State.enterStandbyRole_steady (s : State) :
    Steady s (State.enterStandbyRole s) := by
  unfold State.enterStandbyRole
  extract_lets +onlyGivenNames -merge -underBinder x1 x2 x3 x4
  have hx4 : Steady s x4 := by
    unfold x4
    refine Steady.upd ?_ rfl rfl rfl rfl rfl rfl rfl rfl
    exact Steady.refl _
  refine Steady.trans ?_ (State.modeChanged_steady ..)
  refine Steady.trans ?_ (State.adoptSutclr_steady ..)
  exact hx4

theorem State.leaveActiveRole_steady (s : State) :
    Steady s (State.leaveActiveRole s) := by
  unfold State.leaveActiveRole
  refine Steady.trans ?_ (State.modeChanged_steady ..)
  refine Steady.trans ?_ (State.adoptSutclr_steady ..)
  refine Steady.upd ?_ rfl rfl rfl rfl rfl rfl rfl rfl
  exact Steady.refl _

theorem State.enterWitnessOnly_steady (s : State) :
    Steady s (State.enterWitnessOnly s) := by
  unfold State.enterWitnessOnly
  extract_lets +onlyGivenNames -merge -underBinder x1 x2 x3 x4 x5
  have hx5 : Steady s x5 := by
    unfold x5
    refine Steady.upd ?_ rfl rfl rfl rfl rfl rfl rfl rfl
    exact Steady.refl _
  refine Steady.trans ?_ (State.modeChanged_steady ..)
  exact hx5

theorem State.stepToPeer_steady (s : State) :
    Steady s (State.stepToPeer s) := by
  unfold State.stepToPeer
  exact (State.stepMt_steady ..)

theorem State.joinBegin_steady (s : State) :
    Steady s (State.joinBegin s) := by
  unfold State.joinBegin
  refine Steady.ite ?_ ?_
  · exact Steady.refl _
  · extract_lets +onlyGivenNames -merge -underBinder x1
    have hx1 : Steady s x1 := by
      unfold x1
      refine Steady.trans ?_ (State.stepToPeer_steady ..)
      refine Steady.trans ?_ (State.saveLimits_calm ..).steady
      exact (State.adoptLimits_steady ..)
    refine Steady.trans ?_ (State.askFullRepair_calm ..).steady
    refine Steady.trans ?_ (State.setTdm_calm ..).steady
    exact hx1

theorem State.startJoin_steady (s : State) (cmd : Option (List Byte)) :
    Steady s (State.startJoin s cmd) := by
  unfold State.startJoin
  refine Steady.ite ?_ ?_
  · exact Steady.refl _
  · refine Steady.trans ?_ (State.joinBegin_steady ..)
    exact (State.setTdm_calm ..).steady

theorem State.tryJoin_keeps (s : State) :
    Keeps s (State.tryJoin s).2 := by
  unfold State.tryJoin
  split
  · extract_lets +onlyGivenNames -merge -underBinder x1
    extract_lets +onlyGivenNames -merge -underBinder x2
    have hx2 : Keeps s x2 := by
      unfold x2
      exact (State.setTdm_calm ..).keeps
    refine Keeps.pair ?_
    refine Keeps.trans ?_ (State.enterStandbyRole_steady ..).keeps
    refine Keeps.trans ?_ (State.takeMode_keeps ..)
    exact hx2
  · refine Keeps.pair ?_
    exact Keeps.refl _

/-- A module that does not drive takes a role or state in which its functions run. -/
theorem State.takeMode_serving {s : State} (m : Mode) (h : m.serves = true)
    (d : s.sys.driveEn = true → s.sys.dropAt.isSome = true) : OutInv (s.takeMode m) :=
  OutInv.serving h ((State.bookRole_calm s m.isRole).low d)

theorem State.takeMode_active (s : State) : OutInv (s.takeMode .active) := OutInv.active rfl

theorem State.tryJoin_steady (s : State) : Steady s s.tryJoin.2 := by
  refine ⟨s.tryJoin_keeps, fun i => ?_⟩
  unfold State.tryJoin
  split
  · rename_i h
    extract_lets cmd a
    have m : s.sys.mode ≠ .active := by
      intro k
      simp [State.mode, k] at h
    have ha : a.sys.driveEn = true → a.sys.dropAt.isSome = true := (State.setTdm_calm ..).low (i.low m)
    exact (State.enterStandbyRole_steady _).inv (State.takeMode_serving _ rfl ha)
  · exact i

theorem State.dropJoin_calm (s : State) :
    Calm s (State.dropJoin s) := by
  unfold State.dropJoin
  exact (State.setTdm_calm ..)

theorem State.formActive_keeps (s : State) :
    Keeps s (State.formActive s) := by
  unfold State.formActive
  extract_lets +onlyGivenNames -merge -underBinder x1
  have hx1 : Keeps s x1 := by
    unfold x1
    refine Keeps.trans ?_ (State.setTdm_calm ..).keeps
    exact (State.takeMode_keeps ..)
  refine Keeps.trans ?_ (State.enterActiveRole_steady ..).keeps
  exact hx1

theorem State.formActive_steady (s : State) : Steady s s.formActive := by
  refine ⟨s.formActive_keeps, fun _ => ?_⟩
  unfold State.formActive
  exact (State.enterActiveRole_steady _).inv ((State.setTdm_calm ..).steady.inv s.takeMode_active)

theorem State.takeWitnessOnly_keeps (s : State) :
    Keeps s (State.takeWitnessOnly s) := by
  unfold State.takeWitnessOnly
  refine Keeps.ite ?_ ?_
  · refine Keeps.trans ?_ (State.enterWitnessOnly_steady ..).keeps
    exact (State.takeMode_keeps ..)
  · exact Keeps.refl _

theorem State.takeWitnessOnly_steady (s : State) : Steady s s.takeWitnessOnly := by
  refine ⟨s.takeWitnessOnly_keeps, fun i => ?_⟩
  unfold State.takeWitnessOnly
  split
  · rename_i h
    refine (State.enterWitnessOnly_steady _).inv (State.takeMode_serving _ rfl (i.low ?_))
    rw [show s.sys.mode = .ready from h]; decide
  · exact i

theorem State.formAuto_steady (s : State) :
    Steady s (State.formAuto s) := by
  unfold State.formAuto
  extract_lets +onlyGivenNames -merge -underBinder x1
  refine Steady.ite ?_ ?_
  · exact (State.formActive_steady ..)
  · refine Steady.ite ?_ ?_
    · refine Steady.ite ?_ ?_
      · exact Steady.refl _
      · exact (State.startJoin_steady ..)
    · refine Steady.ite ?_ ?_
      · exact Steady.refl _
      · exact (State.acquire_calm ..).steady

theorem State.formRole_steady (s : State) :
    Steady s (State.formRole s) := by
  unfold State.formRole
  refine Steady.ite ?_ ?_
  · exact Steady.refl _
  · split
    · exact (State.formAuto_steady ..)
    · exact (State.takeWitnessOnly_steady ..)
    · exact Steady.refl _

theorem execRoleFormation_steady (dt : Nat) (s : State) :
    Ends Steady s (execRoleFormation dt s) := by
  unfold execRoleFormation
  refine Ends.next ?_
  refine Steady.trans ?_ (State.formRole_steady ..)
  exact (State.elapse_calm ..).steady

theorem execFormationWaitExpiry_steady (dt : Nat) (s : State) :
    Ends Steady s (execFormationWaitExpiry dt s) := by
  unfold execFormationWaitExpiry
  extract_lets +onlyGivenNames -merge -underBinder x1
  have hx1 : Steady s x1 := by
    unfold x1
    exact (State.elapse_calm ..).steady
  refine Ends.ite ?_ ?_
  · refine Ends.next ?_
    refine Steady.trans ?_ (State.formRole_steady ..)
    refine Steady.upd ?_ rfl rfl rfl rfl rfl rfl rfl rfl
    exact hx1
  · refine Ends.next ?_
    exact hx1

theorem execFormationJoinRetry_steady (dt : Nat) (s : State) :
    Ends Steady s (execFormationJoinRetry dt s) := by
  unfold execFormationJoinRetry
  extract_lets +onlyGivenNames -merge -underBinder x1
  have hx1 : Steady s x1 := by
    unfold x1
    exact (State.elapse_calm ..).steady
  refine Ends.ite ?_ ?_
  · refine Ends.next ?_
    refine Steady.trans ?_ (State.formRole_steady ..)
    exact hx1
  · refine Ends.next ?_
    exact hx1

end Sys2Proof.Machine
end

