-- ==== Sys2Proof/Laws/Commands.lean ====
section
/-! SUPPORT. What the operations of Machine/Commands.lean leave alone (Laws/Keeps.lean). -/

namespace Sys2Proof.Machine

open Sys2Proof

theorem State.arm_calm (s : State) :
    Calm s (State.arm s) := by
  unfold State.arm
  refine Calm.trans ?_ (State.flag_calm ..)
  exact (State.wrb_calm ..)

theorem State.disarm_calm (s : State) (p : Page) (cause : Nat) :
    Calm s (State.disarm s p cause) := by
  unfold State.disarm
  refine Calm.ite ?_ ?_
  · exact Calm.refl _
  · extract_lets +onlyGivenNames -merge -underBinder x1
    have hx1 : Calm s x1 := by
      unfold x1
      refine Calm.trans ?_ (State.flag_calm ..)
      refine Calm.trans ?_ (State.inc_calm ..)
      exact (State.wrb_calm ..)
    refine Calm.trans ?_ (State.record_calm ..)
    exact hx1

theorem State.commitSig_calm (s : State) (sig : Nat) :
    Calm s (State.commitSig s sig).2 := by
  unfold State.commitSig
  split
  · refine Calm.pair ?_
    exact Calm.refl _
  · extract_lets +onlyGivenNames -merge -underBinder x1
    have hx1 : Calm s x1 := by
      unfold x1
      refine Calm.trans ?_ (State.modSettings_calm ..)
      exact (State.wrn_calm ..)
    refine Calm.pair ?_
    refine Calm.trans ?_ (State.arm_calm ..)
    exact hx1

theorem State.decideCommand_calm (s : State) (m : List Byte) (refused : Bool) :
    Calm s (State.decideCommand s m refused) := by
  unfold State.decideCommand
  extract_lets +onlyGivenNames -merge -underBinder x1
  split
  · exact Calm.refl _
  · extract_lets +onlyGivenNames -merge -underBinder x2
    extract_lets +onlyGivenNames -merge -underBinder x3
    have hx3 : Calm s x3 := by
      unfold x3
      refine Calm.upd ?_ rfl rfl rfl rfl rfl rfl rfl rfl
      exact Calm.refl _
    refine Calm.ite ?_ ?_
    · refine Calm.trans ?_ (State.commandRecord_calm ..)
      refine Calm.trans ?_ (State.flag_calm ..)
      refine Calm.trans ?_ (State.inc_calm ..)
      exact hx3
    · refine Calm.trans ?_ (State.flag_calm ..)
      refine Calm.trans ?_ (State.inc_calm ..)
      exact hx3

theorem State.abandonJoin_calm (s : State) :
    Calm s (State.abandonJoin s) := by
  unfold State.abandonJoin
  split
  · refine Calm.trans ?_ (State.decideCommand_calm ..)
    exact (State.dropJoin_calm ..)
  · exact (State.dropJoin_calm ..)

theorem State.toReady_keeps (s : State) :
    Keeps s (State.toReady s) := by
  unfold State.toReady
  extract_lets +onlyGivenNames -merge -underBinder x1
  extract_lets +onlyGivenNames -merge -underBinder x2
  have hx2 : Keeps s x2 := by
    unfold x2
    refine Keeps.trans ?_ (State.dropDrive_calm ..).keeps
    refine Keeps.trans ?_ (State.takeMode_keeps ..)
    exact (State.abandonJoin_calm ..).keeps
  extract_lets +onlyGivenNames -merge -underBinder x3
  have hx3 : Keeps s x3 := by
    unfold x3
    refine Keeps.trans ?_ (State.setTdm_calm ..).keeps
    exact hx2
  extract_lets +onlyGivenNames -merge -underBinder x4 x5 x6 x7
  have hx7 : Keeps s x7 := by
    unfold x7
    refine Keeps.upd ?_ rfl rfl rfl rfl
    exact hx3
  refine Keeps.trans ?_ (State.modeChanged_steady ..).keeps
  exact hx7

theorem State.toReady_steady (s : State) : Steady s s.toReady := by
  refine ⟨s.toReady_keeps, fun _ => ?_⟩
  unfold State.toReady
  extract_lets +onlyGivenNames was a b c
  have ma : a.sys.mode = .ready := (State.dropDrive_calm _).mode
  have mb : b.sys.mode = .ready := (State.setTdm_calm ..).mode.trans ma
  have lb := (State.setTdm_calm ..).low (s := b) (State.dropDrive_low (s.abandonJoin.takeMode .ready))
  refine (State.modeChanged_steady _).inv (OutInv.serving ?_ lb)
  show b.sys.mode.serves = true
  rw [mb]; rfl

theorem State.roleAssign_steady (s : State) (role : Nat) (m : List Byte) :
    Steady s (State.roleAssign s role m).2 := by
  unfold State.roleAssign
  extract_lets +onlyGivenNames -merge -underBinder x1
  split
  · split
    · refine Steady.pair ?_
      exact Steady.refl _
    · split
      · refine Steady.pair ?_
        exact (State.toReady_steady ..)
      · refine Steady.pair ?_
        exact Steady.refl _
  · split
    · refine Steady.pair ?_
      refine Steady.trans ?_ (State.formActive_steady ..)
      exact (State.abandonJoin_calm ..).steady
    · refine Steady.pair ?_
      exact Steady.refl _
  · split
    · refine Steady.pair ?_
      exact (State.startJoin_steady ..)
    · refine Steady.pair ?_
      exact Steady.refl _
  · split
    · refine Steady.pair ?_
      refine Steady.trans ?_ (State.takeWitnessOnly_steady ..)
      exact (State.abandonJoin_calm ..).steady
    · refine Steady.pair ?_
      exact Steady.refl _
  · refine Steady.pair ?_
    exact Steady.refl _

theorem State.plannedRelay_calm (s : State) :
    Calm s (State.plannedRelay s).2 := by
  unfold State.plannedRelay
  split
  · refine Calm.pair ?_
    exact (State.setTdm_calm ..)
  · refine Calm.pair ?_
    exact Calm.refl _

theorem State.commandEffect_steady (s : State) (m : List Byte) :
    Steady s (State.commandEffect s m).2 := by
  unfold State.commandEffect
  extract_lets +onlyGivenNames -merge -underBinder x1
  split
  · split
    rename_i y2 y3 e4
    have hy3 : Steady s y3 := by
      refine Steady.snd e4 ?_
      exact (State.releases_steady ..)
    refine Steady.pair ?_
    exact hy3
  · refine Steady.pair ?_
    refine Steady.upd ?_ rfl rfl rfl rfl rfl rfl rfl rfl
    exact Steady.refl _
  · refine Steady.pair ?_
    refine Steady.trans ?_ (State.saveLimits_calm ..).steady
    exact (State.limitChange_steady ..)
  · exact (State.roleAssign_steady ..)
  · split
    rename_i y5 y6 e7
    have hy6 : Steady s y6 := by
      refine Steady.snd e7 ?_
      exact (State.plannedRelay_calm ..).steady
    refine Steady.pair ?_
    exact hy6
  · split
    rename_i y8 y9 e10
    have hy9 : Steady s y9 := by
      refine Steady.snd e10 ?_
      exact (State.sbxClear_calm ..).steady
    refine Steady.pair ?_
    exact hy9
  · refine Steady.pair ?_
    exact (State.activate_calm ..).steady
  · refine Steady.pair ?_
    exact (State.applyKeyLoad_calm ..).steady
  · split
    rename_i y11 y12 e13
    have hy12 : Steady s y12 := by
      refine Steady.snd e13 ?_
      exact (State.commitSig_calm ..).steady
    refine Steady.pair ?_
    exact hy12
  · refine Steady.pair ?_
    exact (State.calStart_calm ..).steady
  · refine Steady.pair ?_
    exact Steady.refl _

theorem State.takeCounter_calm (s : State) (m : List Byte) :
    Calm s (State.takeCounter s m) := by
  unfold State.takeCounter
  refine Calm.ite ?_ ?_
  · exact (State.raiseCounter_calm ..)
  · exact Calm.refl _

theorem State.commandItem_steady (s : State) (content : List Byte) :
    Steady s (State.commandItem s content) := by
  unfold State.commandItem
  extract_lets +onlyGivenNames -merge -underBinder x1
  refine Steady.ite ?_ ?_
  · exact Steady.refl _
  · split
    rename_i y2 y3 e4
    have hy3 : Steady s y3 := by
      refine Steady.snd e4 ?_
      exact (State.commandEffect_steady ..)
    split
    · refine Steady.trans ?_ (State.decideCommand_calm ..).steady
      exact hy3
    · exact hy3

theorem execContactorRelease_calm (dt : Nat) (path : CmdPath) (h : CmdHead) (groups : BitVec 4) (s : State) :
    Ends Calm s (execContactorRelease dt path h groups s) := by
  unfold execContactorRelease
  refine Ends.next ?_
  refine Calm.trans ?_ (State.command_calm ..)
  exact (State.elapse_calm ..)

theorem execDispatchEnable_calm (dt : Nat) (path : CmdPath) (h : CmdHead) (enable : Bool) (s : State) :
    Ends Calm s (execDispatchEnable dt path h enable s) := by
  unfold execDispatchEnable
  refine Ends.next ?_
  refine Calm.trans ?_ (State.command_calm ..)
  exact (State.elapse_calm ..)

theorem execLimitWrite_calm (dt : Nat) (path : CmdPath) (h : CmdHead) (change : LimitChange) (newCrc : Word) (s :
    State) :
    Ends Calm s (execLimitWrite dt path h change newCrc s) := by
  unfold execLimitWrite
  refine Ends.next ?_
  refine Calm.trans ?_ (State.command_calm ..)
  exact (State.elapse_calm ..)

theorem execRoleAssign_calm (dt : Nat) (path : CmdPath) (h : CmdHead) (role : Byte) (s : State) :
    Ends Calm s (execRoleAssign dt path h role s) := by
  unfold execRoleAssign
  refine Ends.next ?_
  refine Calm.trans ?_ (State.command_calm ..)
  exact (State.elapse_calm ..)

theorem execPlannedRelay_calm (dt : Nat) (path : CmdPath) (h : CmdHead) (s : State) :
    Ends Calm s (execPlannedRelay dt path h s) := by
  unfold execPlannedRelay
  refine Ends.next ?_
  refine Calm.trans ?_ (State.command_calm ..)
  exact (State.elapse_calm ..)

theorem execStrongboxClear_calm (dt : Nat) (path : CmdPath) (h : CmdHead) (x : Word) (s : State) :
    Ends Calm s (execStrongboxClear dt path h x s) := by
  unfold execStrongboxClear
  refine Ends.next ?_
  refine Calm.trans ?_ (State.command_calm ..)
  exact (State.elapse_calm ..)

theorem execFwActivate_calm (dt : Nat) (path : CmdPath) (h : CmdHead) (slot : Byte) (activateAt : BitVec 64) (s :
    State) :
    Ends Calm s (execFwActivate dt path h slot activateAt s) := by
  unfold execFwActivate
  refine Ends.next ?_
  refine Calm.trans ?_ (State.command_calm ..)
  exact (State.elapse_calm ..)

theorem execKeyLoad_calm (dt : Nat) (path : CmdPath) (h : CmdHead) (target : Byte) (perm : BitVec 16) (wrapped : List
    Byte) (s : State) :
    Ends Calm s (execKeyLoad dt path h target perm wrapped s) := by
  unfold execKeyLoad
  refine Ends.next ?_
  refine Calm.trans ?_ (State.command_calm ..)
  exact (State.elapse_calm ..)

theorem execConfigSignatureCommit_calm (dt : Nat) (path : CmdPath) (h : CmdHead) (sig : Word) (s : State) :
    Ends Calm s (execConfigSignatureCommit dt path h sig s) := by
  unfold execConfigSignatureCommit
  refine Ends.next ?_
  refine Calm.trans ?_ (State.command_calm ..)
  exact (State.elapse_calm ..)

theorem execCalibrationCycle_calm (dt : Nat) (path : CmdPath) (h : CmdHead) (hours : BitVec 16) (s : State) :
    Ends Calm s (execCalibrationCycle dt path h hours s) := by
  unfold execCalibrationCycle
  refine Ends.next ?_
  refine Calm.trans ?_ (State.command_calm ..)
  exact (State.elapse_calm ..)

theorem execMalformedCommandMessage_calm (dt : Nat) (path : CmdPath) (bytes : List Byte) (s : State) :
    Ends Calm s (execMalformedCommandMessage dt path bytes s) := by
  unfold execMalformedCommandMessage
  extract_lets +onlyGivenNames -merge -underBinder x1
  have hx1 : Calm s x1 := by
    unfold x1
    exact (State.elapse_calm ..)
  refine Ends.ite ?_ ?_
  · refine Ends.next ?_
    exact hx1
  · refine Ends.next ?_
    refine Calm.trans ?_ (State.command_calm ..)
    exact hx1

end Sys2Proof.Machine
end

