-- ==== Sys2Proof/Laws/Events.lean ====
section
/-! SUPPORT. What the operations of Machine/Events.lean leave alone (Laws/Keeps.lean). -/

namespace Sys2Proof.Machine

open Sys2Proof

theorem State.registerItem_steady (s : State) (c : List Byte) :
    Steady s (State.registerItem s c) := by
  unfold State.registerItem
  extract_lets +onlyGivenNames -merge -underBinder x1
  extract_lets +onlyGivenNames -merge -underBinder x2
  split
  · exact (State.tripCmdEffect_steady ..)
  · exact (State.coolEffect_calm ..).steady
  · exact (State.loopEffect_steady ..)
  · exact Steady.refl _

theorem State.journalItem_calm (s : State) (c : List Byte) :
    Calm s (State.journalItem s c) := by
  unfold State.journalItem
  extract_lets +onlyGivenNames -merge -underBinder x1
  extract_lets +onlyGivenNames -merge -underBinder x2
  refine Calm.ite ?_ ?_
  · exact Calm.refl _
  · extract_lets +onlyGivenNames -merge -underBinder x3
    have hx3 : Calm s x3 := by
      unfold x3
      exact (State.jrnQueue_calm ..)
    refine Calm.ite ?_ ?_
    · refine Calm.trans ?_ (State.askRepair_calm ..)
      exact hx3
    · refine Calm.ite ?_ ?_
      · refine Calm.trans ?_ (State.askRepair_calm ..)
        exact hx3
      · refine Calm.trans ?_ (State.askFullRepair_calm ..)
        exact hx3

theorem State.planItem_calm (s : State) (c : List Byte) :
    Calm s (State.planItem s c) := by
  unfold State.planItem
  split
  · extract_lets +onlyGivenNames -merge -underBinder x1
    refine Calm.ite ?_ ?_
    · exact Calm.refl _
    · exact (State.askRepair_calm ..)
  · exact Calm.refl _

theorem State.timeTake_calm (s : State) (c : List Byte) :
    Calm s (State.timeTake s c) := by
  unfold State.timeTake
  refine Calm.ite ?_ ?_
  · exact Calm.refl _
  · extract_lets +onlyGivenNames -merge -underBinder x1 x2
    refine Calm.upd ?_ rfl rfl rfl rfl rfl rfl rfl rfl
    exact Calm.refl _

theorem State.witnessItem_calm (s : State) (c : List Byte) :
    Calm s (State.witnessItem s c) := by
  unfold State.witnessItem
  refine Calm.ite ?_ ?_
  · exact Calm.refl _
  · refine Calm.trans ?_ (State.setTdm_calm ..)
    exact (State.takeProposal_calm ..)

theorem State.verdictItem_calm (s : State) (c : List Byte) :
    Calm s (State.verdictItem s c) := by
  unfold State.verdictItem
  extract_lets +onlyGivenNames -merge -underBinder x1
  extract_lets +onlyGivenNames -merge -underBinder x2
  extract_lets +onlyGivenNames -merge -underBinder x3
  extract_lets +onlyGivenNames -merge -underBinder x4 x5
  have hx5 : Calm s x5 := by
    unfold x5
    exact (State.setFe_calm ..)
  refine Calm.upd ?_ rfl rfl rfl rfl rfl rfl rfl rfl
  exact hx5

theorem State.takeVerdict_calm (s : State) (f : Nat) (v : Nat) :
    Calm s (State.takeVerdict s f v) := by
  unfold State.takeVerdict
  refine Calm.foldl ?_ (fun t1 a2 h3 => ?_)
  · exact Calm.refl _
  · extract_lets +onlyGivenNames -merge -underBinder x4
    split
    · refine Calm.trans ?_ (State.modChan_calm ..)
      exact h3
    · refine Calm.trans ?_ (State.modChan_calm ..)
      exact h3
    · refine Calm.trans ?_ (State.jrnPut_calm ..)
      refine Calm.trans ?_ (State.modChan_calm ..)
      exact h3
    · refine Calm.trans ?_ (State.jrnPut_calm ..)
      refine Calm.trans ?_ (State.modChan_calm ..)
      exact h3
    · exact h3

theorem State.takeVerdicts_calm (s : State) :
    Calm s (State.takeVerdicts s) := by
  unfold State.takeVerdicts
  extract_lets +onlyGivenNames -merge -underBinder x1
  refine Calm.foldl ?_ (fun t2 a3 h4 => ?_)
  · refine Calm.upd ?_ rfl rfl rfl rfl rfl rfl rfl rfl
    exact Calm.refl _
  · refine Calm.ite ?_ ?_
    · refine Calm.trans ?_ (State.calArm_calm ..)
      exact h4
    · refine Calm.trans ?_ (State.takeVerdict_calm ..)
      exact h4

theorem State.applyItem_steady (s : State) (e : EvItem) :
    Steady s (State.applyItem s e) := by
  unfold State.applyItem
  split
  · exact (State.registerItem_steady ..)
  · exact (State.commandItem_steady ..)
  · exact (State.setPointEffect_calm ..).steady
  · exact (State.espEffect_steady ..)
  · exact (State.journalItem_calm ..).steady
  · exact (State.planItem_calm ..).steady
  · exact (State.timeTake_calm ..).steady
  · exact (State.witnessItem_calm ..).steady
  · exact (State.verdictItem_calm ..).steady
  · exact Steady.refl _

theorem State.dispatchNow_calm (s : State) :
    Calm s (State.dispatchNow s) := by
  unfold State.dispatchNow
  refine Calm.ite ?_ ?_
  · exact Calm.refl _
  · exact (State.dispatchTick_calm ..)

theorem State.eventEntry_calm (s : State) (e : EvItem) :
    Calm s (State.eventEntry s e) := by
  unfold State.eventEntry
  refine Calm.ite ?_ ?_
  · exact (State.wayEntry_calm ..)
  · exact Calm.refl _

theorem execEventInputEffect_steady (s : State) :
    Ends Steady s (execEventInputEffect s) := by
  unfold execEventInputEffect
  split
  · refine Ends.next ?_
    exact Steady.refl _
  · extract_lets +onlyGivenNames -merge -underBinder x1
    have hx1 : Steady s x1 := by
      unfold x1
      refine Steady.upd ?_ rfl rfl rfl rfl rfl rfl rfl rfl
      exact Steady.refl _
    refine Ends.next ?_
    refine Steady.trans ?_ (State.dispatchNow_calm ..).steady
    refine Steady.trans ?_ (State.applyItem_steady ..)
    refine Steady.trans ?_ (State.eventEntry_calm ..).steady
    exact hx1

end Sys2Proof.Machine
end

