-- ==== Sys2Proof/Laws/Repair.lean ====
section
/-! SUPPORT. What the operations of Machine/Repair.lean leave alone (Laws/Keeps.lean). -/

namespace Sys2Proof.Machine

open Sys2Proof

theorem State.waitBound_calm (s : State) :
    Calm s (State.waitBound s) := by
  unfold State.waitBound
  refine Calm.trans ?_ (State.flag_calm ..)
  exact (State.inc_calm ..)

theorem State.joinStep_steady (s : State) :
    Steady s (State.joinStep s) := by
  unfold State.joinStep
  split
  rename_i y1 y2 e3
  have hy2 : Steady s y2 := by
    refine Steady.snd e3 ?_
    exact (State.tryJoin_steady ..)
  split
  · refine Steady.trans ?_ (State.decideCommand_calm ..).steady
    exact hy2
  · exact hy2

theorem execStageDigest_steady (dt : Nat) (f : TandemHead) (bytes : List Byte) (s : State) :
    Ends Steady s (execStageDigest dt f bytes s) := by
  unfold execStageDigest
  split
  rename_i y1 y2 e3
  have hy2 : Steady s y2 := by
    refine Steady.snd e3 ?_
    refine Steady.trans ?_ (State.takeFrame_calm ..).steady
    exact (State.elapse_calm ..).steady
  refine Ends.ite ?_ ?_
  · refine Ends.next ?_
    refine Steady.trans ?_ (State.trialOut_steady ..)
    refine Steady.trans ?_ (State.compareStage_steady ..)
    refine Steady.trans ?_ (State.setTdm_calm ..).steady
    exact hy2
  · refine Ends.next ?_
    exact hy2

theorem execLoopDigest_steady (dt : Nat) (f : TandemHead) (bytes : List Byte) (s : State) :
    Ends Steady s (execLoopDigest dt f bytes s) := by
  unfold execLoopDigest
  split
  rename_i y1 y2 e3
  have hy2 : Steady s y2 := by
    refine Steady.snd e3 ?_
    refine Steady.trans ?_ (State.takeFrame_calm ..).steady
    exact (State.elapse_calm ..).steady
  refine Ends.ite ?_ ?_
  · refine Ends.next ?_
    refine Steady.trans ?_ (State.trialOut_steady ..)
    refine Steady.trans ?_ (State.compareLoop_steady ..)
    refine Steady.trans ?_ (State.setTdm_calm ..).steady
    exact hy2
  · refine Ends.next ?_
    exact hy2

theorem execRepairReq_calm (dt : Nat) (f : TandemHead) (bytes : List Byte) (s : State) :
    Ends Calm s (execRepairReq dt f bytes s) := by
  unfold execRepairReq
  split
  rename_i y1 y2 e3
  have hy2 : Calm s y2 := by
    refine Calm.snd e3 ?_
    refine Calm.trans ?_ (State.takeFrame_calm ..)
    exact (State.elapse_calm ..)
  refine Ends.ite ?_ ?_
  · extract_lets +onlyGivenNames -merge -underBinder x4
    extract_lets +onlyGivenNames -merge -underBinder x5
    refine Ends.next ?_
    refine Calm.trans ?_ (State.setTdm_calm ..)
    exact hy2
  · refine Ends.next ?_
    exact hy2

theorem State.channelBlock_calm (s : State) (b : List Byte) :
    Calm s (State.channelBlock s b) := by
  unfold State.channelBlock
  extract_lets +onlyGivenNames -merge -underBinder x1
  extract_lets +onlyGivenNames -merge -underBinder x2
  extract_lets +onlyGivenNames -merge -underBinder x3
  extract_lets +onlyGivenNames -merge -underBinder x4
  refine Calm.ite ?_ ?_
  · exact (State.setTdm_calm ..)
  · refine Calm.ite ?_ ?_
    · exact (State.installChannel_calm ..)
    · exact Calm.refl _

theorem State.slotBlock_steady (s : State) (b : List Byte) :
    Steady s (State.slotBlock s b) := by
  unfold State.slotBlock
  extract_lets +onlyGivenNames -merge -underBinder x1
  extract_lets +onlyGivenNames -merge -underBinder x2
  exact (State.slotRerun_steady ..)

theorem State.journalBlock_calm (s : State) (b : List Byte) :
    Calm s (State.journalBlock s b) := by
  unfold State.journalBlock
  extract_lets +onlyGivenNames -merge -underBinder x1
  extract_lets +onlyGivenNames -merge -underBinder x2
  refine Calm.ite ?_ ?_
  · exact Calm.refl _
  · exact (State.jrnQueue_calm ..)

theorem State.mirroredBlock_steady (s : State) (b : List Byte) :
    Steady s (State.mirroredBlock s b) := by
  unfold State.mirroredBlock
  extract_lets +onlyGivenNames -merge -underBinder x1
  extract_lets +onlyGivenNames -merge -underBinder x2
  have hx2 : Steady s x2 := by
    unfold x2
    exact (State.setTdm_calm ..).steady
  refine Steady.foldl ?_ (fun t3 a4 h5 => ?_)
  · exact hx2
  · refine Steady.ite ?_ ?_
    · refine Steady.trans ?_ (State.applyItem_steady ..)
      exact h5
    · refine Steady.ite ?_ ?_
      · refine Steady.upd ?_ rfl rfl rfl rfl rfl rfl rfl rfl
        exact h5
      · exact h5

theorem State.installBlock_steady (s : State) (x : Nat × List Byte) :
    Steady s (State.installBlock s x) := by
  unfold State.installBlock
  split
  · exact (State.channelBlock_calm ..).steady
  · exact (State.slotBlock_steady ..)
  · exact (State.journalBlock_calm ..).steady
  · exact (State.mirroredBlock_steady ..)
  · exact Steady.refl _

theorem State.repairDone_steady (s : State) :
    Steady s (State.repairDone s) := by
  unfold State.repairDone
  extract_lets +onlyGivenNames -merge -underBinder x1
  extract_lets +onlyGivenNames -merge -underBinder x2
  have hx2 : Steady s x2 := by
    unfold x2
    refine Steady.trans ?_ (State.flag_calm ..).steady
    exact (State.inc_calm ..).steady
  extract_lets +onlyGivenNames -merge -underBinder x3
  have hx3 : Steady s x3 := by
    unfold x3
    refine Steady.trans ?_ (State.setTdm_calm ..).steady
    exact hx2
  refine Steady.trans ?_ (State.joinStep_steady ..)
  exact hx3

theorem execRepairData_steady (dt : Nat) (f : TandemHead) (bytes : List Byte) (s : State) :
    Ends Steady s (execRepairData dt f bytes s) := by
  unfold execRepairData
  split
  rename_i y1 y2 e3
  have hy2 : Steady s y2 := by
    refine Steady.snd e3 ?_
    refine Steady.trans ?_ (State.takeFrame_calm ..).steady
    exact (State.elapse_calm ..).steady
  refine Ends.ite ?_ ?_
  · refine Ends.next ?_
    exact hy2
  · extract_lets +onlyGivenNames -merge -underBinder x4
    split
    · extract_lets +onlyGivenNames -merge -underBinder x5
      have hx5 : Steady s x5 := by
        unfold x5
        refine Steady.trans ?_ (State.setTdm_calm ..).steady
        exact hy2
      extract_lets +onlyGivenNames -merge -underBinder x6
      have hx6 : Steady s x6 := by
        unfold x6
        refine Steady.foldl ?_ (fun t7 a8 h9 => ?_)
        · exact hx5
        · refine Steady.trans ?_ (State.installBlock_steady ..)
          exact h9
      refine Ends.ite ?_ ?_
      · refine Ends.next ?_
        refine Steady.trans ?_ (State.repairDone_steady ..)
        exact hx6
      · refine Ends.next ?_
        exact hx6

theorem State.repairAll_calm (s : State) :
    Calm s (State.repairAll s) := by
  unfold State.repairAll
  refine Calm.ite ?_ ?_
  · exact (State.askFullRepair_calm ..)
  · exact Calm.refl _

theorem execRepairAll_calm (dt : Nat) (s : State) :
    Ends Calm s (execRepairAll dt s) := by
  unfold execRepairAll
  refine Ends.next ?_
  refine Calm.hostDo ?_ (fun t1 h2 => ?_)
  · exact (State.elapse_calm ..)
  · refine Calm.trans ?_ (State.repairAll_calm ..)
    exact h2

theorem execJoinTimeout_calm (dt : Nat) (s : State) :
    Ends Calm s (execJoinTimeout dt s) := by
  unfold execJoinTimeout
  extract_lets +onlyGivenNames -merge -underBinder x1
  have hx1 : Calm s x1 := by
    unfold x1
    exact (State.elapse_calm ..)
  refine Ends.ite ?_ ?_
  · extract_lets +onlyGivenNames -merge -underBinder x2
    extract_lets +onlyGivenNames -merge -underBinder x3
    have hx3 : Calm s x3 := by
      unfold x3
      refine Calm.trans ?_ (State.waitBound_calm ..)
      refine Calm.trans ?_ (State.dropJoin_calm ..)
      exact hx1
    clear_value x2
    split
    · refine Ends.next ?_
      refine Calm.trans ?_ (State.decideCommand_calm ..)
      exact hx3
    · refine Ends.next ?_
      exact hx3
  · refine Ends.next ?_
    exact hx1

theorem execNetworkSessionStateMirror_calm (dt : Nat) (s : State) :
    Ends Calm s (execNetworkSessionStateMirror dt s) := by
  unfold execNetworkSessionStateMirror
  extract_lets +onlyGivenNames -merge -underBinder x1
  have hx1 : Calm s x1 := by
    unfold x1
    exact (State.elapse_calm ..)
  refine Ends.ite ?_ ?_
  · refine Ends.next ?_
    refine Calm.trans ?_ (State.mirrorItem_calm ..)
    refine Calm.trans ?_ (State.setTdm_calm ..)
    exact hx1
  · refine Ends.next ?_
    exact hx1

end Sys2Proof.Machine
end

