-- ==== Sys2Proof/Laws/Tandem.lean ====
section
/-! SUPPORT. What the operations of Machine/Tandem.lean leave alone (Laws/Keeps.lean). -/

namespace Sys2Proof.Machine

open Sys2Proof

theorem execLinkDown_calm (dt : Nat) (lane : Fin 2) (s : State) :
    Ends Calm s (execLinkDown dt lane s) := by
  unfold execLinkDown
  extract_lets +onlyGivenNames -merge -underBinder x1
  have hx1 : Calm s x1 := by
    unfold x1
    exact (State.elapse_calm ..)
  extract_lets +onlyGivenNames -merge -underBinder x2
  extract_lets +onlyGivenNames -merge -underBinder x3
  refine Ends.ite ?_ ?_
  · refine Ends.next ?_
    refine Calm.trans ?_ (State.flag_calm ..)
    refine Calm.trans ?_ (State.inc_calm ..)
    refine Calm.trans ?_ (State.setLink_calm ..)
    exact hx1
  · refine Ends.next ?_
    exact hx1

theorem execLinkUp_calm (dt : Nat) (lane : Fin 2) (s : State) :
    Ends Calm s (execLinkUp dt lane s) := by
  unfold execLinkUp
  extract_lets +onlyGivenNames -merge -underBinder x1
  have hx1 : Calm s x1 := by
    unfold x1
    exact (State.elapse_calm ..)
  extract_lets +onlyGivenNames -merge -underBinder x2
  refine Ends.ite ?_ ?_
  · refine Ends.next ?_
    refine Calm.trans ?_ (State.setLink_calm ..)
    exact hx1
  · refine Ends.next ?_
    exact hx1

theorem execHeartbeatSend_calm (dt : Nat) (s : State) :
    Ends Calm s (execHeartbeatSend dt s) := by
  unfold execHeartbeatSend
  extract_lets +onlyGivenNames -merge -underBinder x1
  have hx1 : Calm s x1 := by
    unfold x1
    exact (State.elapse_calm ..)
  refine Ends.ite ?_ ?_
  · extract_lets +onlyGivenNames -merge -underBinder x2
    have hx2 : Calm s x2 := by
      unfold x2
      refine Calm.trans ?_ (State.setTdm_calm ..)
      refine Calm.trans ?_ (State.sendFrame_calm ..)
      exact hx1
    refine Ends.next ?_
    refine Calm.upd ?_ rfl rfl rfl rfl rfl rfl rfl rfl
    exact hx2
  · refine Ends.next ?_
    exact hx1

theorem State.compareInterlock_calm (s : State) :
    Calm s (State.compareInterlock s) := by
  unfold State.compareInterlock
  extract_lets +onlyGivenNames -merge -underBinder x1
  refine Calm.ite ?_ ?_
  · exact (State.setTdm_calm ..)
  · extract_lets +onlyGivenNames -merge -underBinder x2
    have hx2 : Calm s x2 := by
      unfold x2
      exact (State.setTdm_calm ..)
    refine Calm.ite ?_ ?_
    · refine Calm.trans ?_ (State.flag_calm ..)
      exact hx2
    · exact hx2

theorem State.agreeWitness_calm (s : State) :
    Calm s (State.agreeWitness s) := by
  unfold State.agreeWitness
  extract_lets +onlyGivenNames -merge -underBinder x1
  extract_lets +onlyGivenNames -merge -underBinder x2
  refine Calm.ite ?_ ?_
  · refine Calm.trans ?_ (State.useWitness_calm ..)
    exact (State.takeProposal_calm ..)
  · refine Calm.ite ?_ ?_
    · refine Calm.ite ?_ ?_
      · refine Calm.ite ?_ ?_
        · exact (State.useWitness_calm ..)
        · exact Calm.refl _
      · refine Calm.ite ?_ ?_
        · exact (State.proposeWitness_calm ..)
        · exact Calm.refl _
    · exact Calm.refl _

theorem State.followPeer_calm (s : State) (was : Nat) (heard : Nat) :
    Calm s (State.followPeer s was heard) := by
  unfold State.followPeer
  refine Calm.ite ?_ ?_
  · split
    rename_i y1 y2 e3
    have hy2 : Calm s y2 := by
      refine Calm.snd e3 ?_
      exact (State.draw_calm ..)
    extract_lets +onlyGivenNames -merge -underBinder x4
    extract_lets +onlyGivenNames -merge -underBinder x5
    extract_lets +onlyGivenNames -merge -underBinder x6
    extract_lets +onlyGivenNames -merge -underBinder x7
    extract_lets +onlyGivenNames -merge -underBinder x8
    refine Calm.trans ?_ (State.atMt_calm ..)
    exact hy2
  · exact Calm.refl _

theorem execHeartbeat_steady (dt : Nat) (f : TandemHead) (bytes : List Byte) (s : State) :
    Ends Steady s (execHeartbeat dt f bytes s) := by
  unfold execHeartbeat
  extract_lets +onlyGivenNames -merge -underBinder x1
  extract_lets +onlyGivenNames -merge -underBinder x2
  have hx2 : Steady s x2 := by
    unfold x2
    exact (State.elapse_calm ..).steady
  extract_lets +onlyGivenNames -merge -underBinder x3
  split
  rename_i y4 y5 e6
  have hy5 : Steady s y5 := by
    refine Steady.snd e6 ?_
    refine Steady.trans ?_ (State.takeFrame_calm ..).steady
    exact hx2
  refine Ends.ite ?_ ?_
  · refine Ends.next ?_
    refine Steady.ite ?_ ?_
    · refine Steady.trans ?_ (State.flag_calm ..).steady
      exact hy5
    · exact hy5
  · refine Ends.ite ?_ ?_
    · refine Ends.next ?_
      refine Steady.trans ?_ (State.flag_calm ..).steady
      refine Steady.trans ?_ (State.inc_calm ..).steady
      exact hy5
    · extract_lets +onlyGivenNames -merge -underBinder x7
      extract_lets +onlyGivenNames -merge -underBinder x8
      have hx8 : Steady s x8 := by
        unfold x8
        refine Steady.trans ?_ (State.followPeer_calm ..).steady
        refine Steady.trans ?_ (State.setTdm_calm ..).steady
        exact hy5
      extract_lets +onlyGivenNames -merge -underBinder x9
      have hx9 : Steady s x9 := by
        unfold x9
        refine Steady.trans ?_ (State.agreeWitness_calm ..).steady
        refine Steady.trans ?_ (State.compareInterlock_calm ..).steady
        exact hx8
      refine Ends.next ?_
      refine Steady.trans ?_ (State.joinStep_steady ..)
      refine Steady.trans ?_ (State.joinBegin_steady ..)
      refine Steady.trans ?_ (State.markPeerPulses_calm ..).steady
      refine Steady.trans ?_ (State.adoptPeerTrips_steady ..)
      exact hx9

theorem execPeerSilent_calm (dt : Nat) (s : State) :
    Ends Calm s (execPeerSilent dt s) := by
  unfold execPeerSilent
  extract_lets +onlyGivenNames -merge -underBinder x1
  have hx1 : Calm s x1 := by
    unfold x1
    exact (State.elapse_calm ..)
  refine Ends.ite ?_ ?_
  · extract_lets +onlyGivenNames -merge -underBinder x2
    have hx2 : Calm s x2 := by
      unfold x2
      refine Calm.trans ?_ (State.flag_calm ..)
      refine Calm.trans ?_ (State.setTdm_calm ..)
      exact hx1
    extract_lets +onlyGivenNames -merge -underBinder x3
    have hx3 : Calm s x3 := by
      unfold x3
      refine Calm.ite ?_ ?_
      · refine Calm.trans ?_ (State.useWitness_calm ..)
        exact hx2
      · exact hx2
    refine Ends.ite ?_ ?_
    · refine Ends.next ?_
      refine Calm.ite ?_ ?_
      · refine Calm.trans ?_ (State.doubleFault_calm ..)
        exact hx3
      · refine Calm.trans ?_ (State.acquire_calm ..)
        exact hx3
    · refine Ends.next ?_
      exact hx3
  · refine Ends.next ?_
    exact hx1

theorem execInterlockAgreement_calm (dt : Nat) (s : State) :
    Ends Calm s (execInterlockAgreement dt s) := by
  unfold execInterlockAgreement
  extract_lets +onlyGivenNames -merge -underBinder x1
  have hx1 : Calm s x1 := by
    unfold x1
    exact (State.elapse_calm ..)
  refine Ends.ite ?_ ?_
  · refine Ends.next ?_
    refine Calm.trans ?_ (State.pageLine_calm ..)
    refine Calm.trans ?_ (State.wrb_calm ..)
    exact hx1
  · refine Ends.next ?_
    exact hx1

theorem State.peerDriveHigh_calm (s : State) :
    Calm s (State.peerDriveHigh s) := by
  unfold State.peerDriveHigh
  extract_lets +onlyGivenNames -merge -underBinder x1
  have hx1 : Calm s x1 := by
    unfold x1
    exact (State.setTdm_calm ..)
  refine Calm.ite ?_ ?_
  · extract_lets +onlyGivenNames -merge -underBinder x2
    have hx2 : Calm s x2 := by
      unfold x2
      refine Calm.trans ?_ (State.setTdm_calm ..)
      refine Calm.trans ?_ (State.driveLow_calm ..)
      exact hx1
    extract_lets +onlyGivenNames -merge -underBinder x3
    have hx3 : Calm s x3 := by
      unfold x3
      refine Calm.trans ?_ (State.inc_calm ..)
      exact hx2
    refine Calm.trans ?_ (State.record_calm ..)
    exact hx3
  · exact hx1

theorem State.peerDriveLow_calm (s : State) :
    Calm s (State.peerDriveLow s) := by
  unfold State.peerDriveLow
  exact (State.setTdm_calm ..)

theorem execPeerDriveEnHigh_calm (dt : Nat) (s : State) :
    Ends Calm s (execPeerDriveEnHigh dt s) := by
  unfold execPeerDriveEnHigh
  refine Ends.next ?_
  refine Calm.trans ?_ (State.peerDriveHigh_calm ..)
  exact (State.elapse_calm ..)

theorem State.noteSeq_calm (s : State) (q : Nat) :
    Calm s (State.noteSeq s q) := by
  unfold State.noteSeq
  refine Calm.ite ?_ ?_
  · extract_lets +onlyGivenNames -merge -underBinder x1
    exact (State.setTdm_calm ..)
  · exact (State.setTdm_calm ..)

theorem State.takeItem_steady (s : State) (e : EvItem) :
    Steady s (State.takeItem s e) := by
  unfold State.takeItem
  refine Steady.ite ?_ ?_
  · exact Steady.refl _
  · extract_lets +onlyGivenNames -merge -underBinder x1
    have hx1 : Steady s x1 := by
      unfold x1
      exact (State.noteSeq_calm ..).steady
    extract_lets +onlyGivenNames -merge -underBinder x2
    have hx2 : Steady s x2 := by
      unfold x2
      refine Steady.ite ?_ ?_
      · refine Steady.trans ?_ (State.takeCounter_calm ..).steady
        exact hx1
      · exact hx1
    refine Steady.ite ?_ ?_
    · refine Steady.trans ?_ (State.askRepairFor_calm ..).steady
      exact hx2
    · refine Steady.ite ?_ ?_
      · refine Steady.ite ?_ ?_
        · exact hx2
        · refine Steady.trans ?_ (State.applyItem_steady ..)
          exact hx2
      · refine Steady.upd ?_ rfl rfl rfl rfl rfl rfl rfl rfl
        exact hx2

theorem execMirror_steady (dt : Nat) (f : TandemHead) (bytes : List Byte) (s : State) :
    Ends Steady s (execMirror dt f bytes s) := by
  unfold execMirror
  split
  rename_i y1 y2 e3
  have hy2 : Steady s y2 := by
    refine Steady.snd e3 ?_
    refine Steady.trans ?_ (State.takeFrame_calm ..).steady
    exact (State.elapse_calm ..).steady
  refine Ends.ite ?_ ?_
  · refine Ends.next ?_
    refine Steady.foldl ?_ (fun t4 a5 h6 => ?_)
    · exact hy2
    · refine Steady.trans ?_ (State.takeItem_steady ..)
      exact h6
  · refine Ends.next ?_
    exact hy2

theorem execMirrorGap_calm (dt : Nat) (s : State) :
    Ends Calm s (execMirrorGap dt s) := by
  unfold execMirrorGap
  extract_lets +onlyGivenNames -merge -underBinder x1
  have hx1 : Calm s x1 := by
    unfold x1
    exact (State.elapse_calm ..)
  refine Ends.ite ?_ ?_
  · extract_lets +onlyGivenNames -merge -underBinder x2
    have hx2 : Calm s x2 := by
      unfold x2
      refine Calm.trans ?_ (State.flag_calm ..)
      refine Calm.trans ?_ (State.inc_calm ..)
      exact hx1
    refine Ends.next ?_
    refine Calm.trans ?_ (State.askFullRepair_calm ..)
    refine Calm.trans ?_ (State.setTdm_calm ..)
    exact hx2
  · refine Ends.next ?_
    exact hx1

theorem State.wrWords_calm (s : State) (p : Page) (o : Nat) (n : Nat) (m : List Byte) :
    Calm s (State.wrWords s p o n m) := by
  unfold State.wrWords
  refine Calm.foldl ?_ (fun t1 a2 h3 => ?_)
  · exact Calm.refl _
  · refine Calm.trans ?_ (State.wrn_calm ..)
    exact h3

theorem State.sendHealth_calm (s : State) :
    Calm s (State.sendHealth s) := by
  unfold State.sendHealth
  extract_lets +onlyGivenNames -merge -underBinder x1
  refine Calm.trans ?_ (State.wrWords_calm ..)
  refine Calm.trans ?_ (State.ringPush_calm ..)
  exact (State.sendFrame_calm ..)

theorem execHealthSend_calm (dt : Nat) (s : State) :
    Ends Calm s (execHealthSend dt s) := by
  unfold execHealthSend
  extract_lets +onlyGivenNames -merge -underBinder x1
  have hx1 : Calm s x1 := by
    unfold x1
    exact (State.elapse_calm ..)
  refine Ends.ite ?_ ?_
  · refine Ends.next ?_
    refine Calm.trans ?_ (State.sendHealth_calm ..)
    refine Calm.trans ?_ (State.setTdm_calm ..)
    exact hx1
  · refine Ends.next ?_
    exact hx1

theorem State.healthNow_calm (s : State) :
    Calm s (State.healthNow s) := by
  unfold State.healthNow
  refine Calm.ite ?_ ?_
  · exact (State.sendHealth_calm ..)
  · exact Calm.refl _

theorem execHealthNow_calm (dt : Nat) (s : State) :
    Ends Calm s (execHealthNow dt s) := by
  unfold execHealthNow
  refine Ends.next ?_
  refine Calm.hostDo ?_ (fun t1 h2 => ?_)
  · exact (State.elapse_calm ..)
  · refine Calm.trans ?_ (State.healthNow_calm ..)
    exact h2

theorem execHealth_calm (dt : Nat) (f : TandemHead) (bytes : List Byte) (s : State) :
    Ends Calm s (execHealth dt f bytes s) := by
  unfold execHealth
  split
  rename_i y1 y2 e3
  have hy2 : Calm s y2 := by
    refine Calm.snd e3 ?_
    refine Calm.trans ?_ (State.takeFrame_calm ..)
    exact (State.elapse_calm ..)
  refine Ends.ite ?_ ?_
  · refine Ends.next ?_
    refine Calm.trans ?_ (State.wrWords_calm ..)
    refine Calm.trans ?_ (State.setTdm_calm ..)
    exact hy2
  · refine Ends.next ?_
    exact hy2

theorem execHealthStale_calm (dt : Nat) (s : State) :
    Ends Calm s (execHealthStale dt s) := by
  unfold execHealthStale
  extract_lets +onlyGivenNames -merge -underBinder x1
  have hx1 : Calm s x1 := by
    unfold x1
    exact (State.elapse_calm ..)
  extract_lets +onlyGivenNames -merge -underBinder x2
  refine Ends.ite ?_ ?_
  · refine Ends.next ?_
    refine Calm.trans ?_ (State.flag_calm ..)
    exact hx1
  · refine Ends.next ?_
    exact hx1

theorem State.relayRecord_calm (s : State) (kind : Nat) (period : Nat) (cause : Nat) :
    Calm s (State.relayRecord s kind period cause) := by
  unfold State.relayRecord
  exact (State.record_calm ..)

theorem State.relayDone_calm (s : State) (kind : Nat) (period : Nat) (cause : Nat) :
    Calm s (State.relayDone s kind period cause) := by
  unfold State.relayDone
  extract_lets +onlyGivenNames -merge -underBinder x1
  have hx1 : Calm s x1 := by
    unfold x1
    refine Calm.trans ?_ (State.flag_calm ..)
    exact (State.inc_calm ..)
  refine Calm.trans ?_ (State.trigger_calm ..)
  refine Calm.trans ?_ (State.relayRecord_calm ..)
  exact hx1

theorem State.takeOver_keeps (s : State) (kind : Nat) (cause : Nat) :
    Keeps s (State.takeOver s kind cause) := by
  unfold State.takeOver
  extract_lets +onlyGivenNames -merge -underBinder x1
  have hx1 : Keeps s x1 := by
    unfold x1
    refine Keeps.trans ?_ (State.setTdm_calm ..).keeps
    exact (State.takeMode_keeps ..)
  extract_lets +onlyGivenNames -merge -underBinder x2
  have hx2 : Keeps s x2 := by
    unfold x2
    refine Keeps.trans ?_ (State.enterActiveRole_steady ..).keeps
    exact hx1
  refine Keeps.trans ?_ (State.relayDone_calm ..).keeps
  exact hx2

theorem State.takeOver_steady (s : State) (kind : Nat) (cause : Nat) : Steady s (s.takeOver kind cause) := by
  refine ⟨s.takeOver_keeps kind cause, fun _ => ?_⟩
  unfold State.takeOver
  extract_lets a b
  have ha : OutInv a := (State.setTdm_calm ..).steady.inv s.takeMode_active
  have hb : OutInv b := (State.enterActiveRole_steady _).inv ha
  exact (State.relayDone_calm ..).steady.inv hb

theorem State.tryAbdication_steady (s : State) :
    Steady s (State.tryAbdication s) := by
  unfold State.tryAbdication
  split
  · extract_lets +onlyGivenNames -merge -underBinder x1
    have hx1 : Steady s x1 := by
      unfold x1
      exact (State.setTdm_calm ..).steady
    refine Steady.ite ?_ ?_
    · refine Steady.trans ?_ (State.acquire_calm ..).steady
      refine Steady.trans ?_ (State.takeOver_steady ..)
      exact hx1
    · refine Steady.ite ?_ ?_
      · refine Steady.trans ?_ (State.setTdm_calm ..).steady
        exact hx1
      · exact hx1
  · exact Steady.refl _

theorem execAbdicate_steady (dt : Nat) (f : TandemHead) (bytes : List Byte) (s : State) :
    Ends Steady s (execAbdicate dt f bytes s) := by
  unfold execAbdicate
  split
  rename_i y1 y2 e3
  have hy2 : Steady s y2 := by
    refine Steady.snd e3 ?_
    refine Steady.trans ?_ (State.takeFrame_calm ..).steady
    exact (State.elapse_calm ..).steady
  refine Ends.ite ?_ ?_
  · extract_lets +onlyGivenNames -merge -underBinder x4
    have hx4 : Steady s x4 := by
      unfold x4
      refine Steady.trans ?_ (State.setTdm_calm ..).steady
      exact hy2
    refine Ends.next ?_
    refine Steady.trans ?_ (State.tryAbdication_steady ..)
    exact hx4
  · refine Ends.next ?_
    exact hy2

theorem execPeerAliveLow_steady (dt : Nat) (driveEnLow : Bool) (s : State) :
    Ends Steady s (execPeerAliveLow dt driveEnLow s) := by
  unfold execPeerAliveLow
  extract_lets +onlyGivenNames -merge -underBinder x1
  have hx1 : Steady s x1 := by
    unfold x1
    refine Steady.trans ?_ (State.setTdm_calm ..).steady
    exact (State.elapse_calm ..).steady
  extract_lets +onlyGivenNames -merge -underBinder x2
  have hx2 : Steady s x2 := by
    unfold x2
    refine Steady.trans ?_ (State.setTdm_calm ..).steady
    exact hx1
  refine Ends.next ?_
  refine Steady.ite ?_ ?_
  · refine Steady.trans ?_ (State.tryAbdication_steady ..)
    exact hx2
  · exact hx2

theorem State.readPeerDrive_steady (s : State) (low : Nat) :
    Steady s (State.readPeerDrive s low) := by
  unfold State.readPeerDrive
  refine Steady.ite ?_ ?_
  · exact Steady.refl _
  · refine Steady.ite ?_ ?_
    · exact (State.peerDriveHigh_calm ..).steady
    · refine Steady.trans ?_ (State.tryAbdication_steady ..)
      exact (State.setTdm_calm ..).steady

theorem execDriveEnRaise_keeps (x : DriveRise) (s : State) :
    Ends Keeps s (execDriveEnRaise x s) := by
  unfold execDriveEnRaise
  extract_lets +onlyGivenNames -merge -underBinder x1
  have hx1 : Keeps s x1 := by
    unfold x1
    refine Keeps.trans ?_ (State.readPeerDrive_steady ..).keeps
    exact (State.elapse_calm ..).keeps
  refine Ends.ite ?_ ?_
  · extract_lets +onlyGivenNames -merge -underBinder x2 x3
    have hx3 : Keeps s x3 := by
      unfold x3
      refine Keeps.upd ?_ rfl rfl rfl rfl
      exact hx1
    refine Ends.next ?_
    refine Keeps.trans ?_ (State.setTdm_calm ..).keeps
    exact hx3
  · refine Ends.next ?_
    exact hx1

theorem execDriveEnRaise_steady (x : DriveRise) (s : State) : Ends Steady s (execDriveEnRaise x s) := by
  unfold execDriveEnRaise
  extract_lets +onlyGivenNames a
  have ha : Steady s a := (State.elapse_calm ..).steady.trans (State.readPeerDrive_steady ..)
  clear_value a
  split
  · rename_i h
    simp only [State.mayDrive, Bool.and_eq_true, decide_eq_true_eq] at h
    extract_lets +onlyGivenNames -merge -underBinder w b
    have kb : Keeps a b := Keeps.upd (Keeps.refl a) rfl rfl rfl rfl
    refine Ends.next (ha.trans ⟨kb.trans (State.setTdm_calm ..).keeps, fun _ => OutInv.active ?_⟩)
    exact h.1.1.1.1.1.1
  · exact Ends.next ha

theorem execRelaySwitch_keeps (dt : Nat) (s : State) :
    Ends Keeps s (execRelaySwitch dt s) := by
  unfold execRelaySwitch
  extract_lets +onlyGivenNames -merge -underBinder x1
  have hx1 : Keeps s x1 := by
    unfold x1
    exact (State.elapse_calm ..).keeps
  refine Ends.ite ?_ ?_
  · refine Ends.next ?_
    exact hx1
  · extract_lets +onlyGivenNames -merge -underBinder x2
    refine Ends.ite ?_ ?_
    · extract_lets +onlyGivenNames -merge -underBinder x3
      have hx3 : Keeps s x3 := by
        unfold x3
        refine Keeps.trans ?_ (State.setTdm_calm ..).keeps
        refine Keeps.trans ?_ (State.driveLow_calm ..).keeps
        exact hx1
      refine Ends.next ?_
      refine Keeps.trans ?_ (State.askWitness_calm ..).keeps
      exact hx3
    · refine Ends.ite ?_ ?_
      · extract_lets +onlyGivenNames -merge -underBinder x4
        have hx4 : Keeps s x4 := by
          unfold x4
          refine Keeps.trans ?_ (State.takeMode_keeps ..)
          exact hx1
        extract_lets +onlyGivenNames -merge -underBinder x5
        have hx5 : Keeps s x5 := by
          unfold x5
          refine Keeps.trans ?_ (State.setTdm_calm ..).keeps
          refine Keeps.trans ?_ (State.driveLow_calm ..).keeps
          exact hx4
        extract_lets +onlyGivenNames -merge -underBinder x6
        have hx6 : Keeps s x6 := by
          unfold x6
          refine Keeps.trans ?_ (State.askWitness_calm ..).keeps
          exact hx5
        refine Ends.next ?_
        refine Keeps.trans ?_ (State.relayDone_calm ..).keeps
        refine Keeps.trans ?_ (State.leaveActiveRole_steady ..).keeps
        exact hx6
      · refine Ends.ite ?_ ?_
        · extract_lets +onlyGivenNames -merge -underBinder x7
          have hx7 : Keeps s x7 := by
            unfold x7
            refine Keeps.trans ?_ (State.setTdm_calm ..).keeps
            refine Keeps.trans ?_ (State.takeMode_keeps ..)
            exact hx1
          refine Ends.next ?_
          refine Keeps.trans ?_ (State.acquire_calm ..).keeps
          refine Keeps.trans ?_ (State.relayDone_calm ..).keeps
          refine Keeps.trans ?_ (State.enterActiveRole_steady ..).keeps
          exact hx7
        · refine Ends.next ?_
          refine Keeps.trans ?_ (State.setTdm_calm ..).keeps
          exact hx1

theorem execRelaySwitch_steady (dt : Nat) (s : State) : Ends Steady s (execRelaySwitch dt s) := by
  unfold execRelaySwitch
  extract_lets +onlyGivenNames a
  have ha : Steady s a := (State.elapse_calm ..).steady
  clear_value a
  split
  · exact Ends.next ha
  · extract_lets +onlyGivenNames period
    split
    · extract_lets +onlyGivenNames b
      exact Ends.next (ha.trans ((State.driveLow_calm _).trans ((State.setTdm_calm ..).trans (State.askWitness_calm ..))).steady)
    · split
      · extract_lets +onlyGivenNames b c d
        have kc : Steady a c := ⟨(State.takeMode_keeps ..).trans ((State.driveLow_calm b).trans (State.setTdm_calm ..)).keeps,
          fun _ => OutInv.serving rfl fun e => by cases e⟩
        clear_value c
        have hd : Steady a d := kc.trans (State.askWitness_calm ..).steady
        clear_value d
        exact Ends.next (((ha.trans hd).trans (State.leaveActiveRole_steady _)).trans (State.relayDone_calm ..).steady)
      · split
        · extract_lets +onlyGivenNames b
          have hb : Steady a b := ⟨(State.takeMode_keeps ..).trans (State.setTdm_calm ..).keeps, fun _ => OutInv.active rfl⟩
          clear_value b
          exact Ends.next (((ha.trans hb).trans (State.enterActiveRole_steady _)).trans
            ((State.relayDone_calm ..).trans (State.acquire_calm ..)).steady)
        · exact Ends.next (ha.trans (State.setTdm_calm ..).steady)

theorem State.fence_calm (s : State) (holder : Nat) (term : Nat) :
    Calm s (State.fence s holder term) := by
  unfold State.fence
  refine Calm.ite ?_ ?_
  · exact Calm.refl _
  · extract_lets +onlyGivenNames -merge -underBinder x1
    have hx1 : Calm s x1 := by
      unfold x1
      refine Calm.trans ?_ (State.flag_calm ..)
      refine Calm.trans ?_ (State.setTdm_calm ..)
      exact (State.dropDrive_calm ..)
    refine Calm.trans ?_ (State.record_calm ..)
    exact hx1

theorem State.leaseGranted_steady (s : State) (bytes : List Byte) :
    Steady s (State.leaseGranted s bytes) := by
  unfold State.leaseGranted
  split
  · exact Steady.refl _
  · refine Steady.ite ?_ ?_
    · exact (State.closeReply_calm ..).steady
    · extract_lets +onlyGivenNames -merge -underBinder x1
      extract_lets +onlyGivenNames -merge -underBinder x2
      have hx2 : Steady s x2 := by
        unfold x2
        refine Steady.trans ?_ (State.setTdm_calm ..).steady
        exact (State.closeReply_calm ..).steady
      refine Steady.ite ?_ ?_
      · refine Steady.trans ?_ (State.takeOver_steady ..)
        exact hx2
      · refine Steady.ite ?_ ?_
        · refine Steady.trans ?_ (State.formActive_steady ..)
          exact hx2
        · exact hx2

theorem execLeaseGranted_steady (dt : Nat) (bytes : List Byte) (s : State) :
    Ends Steady s (execLeaseGranted dt bytes s) := by
  unfold execLeaseGranted
  refine Ends.next ?_
  refine Steady.trans ?_ (State.leaseGranted_steady ..)
  exact (State.elapse_calm ..).steady

theorem State.leaseRefused_calm (s : State) (bytes : List Byte) :
    Calm s (State.leaseRefused s bytes) := by
  unfold State.leaseRefused
  split
  · exact Calm.refl _
  · extract_lets +onlyGivenNames -merge -underBinder x1
    have hx1 : Calm s x1 := by
      unfold x1
      exact (State.closeReply_calm ..)
    refine Calm.ite ?_ ?_
    · exact hx1
    · extract_lets +onlyGivenNames -merge -underBinder x2
      extract_lets +onlyGivenNames -merge -underBinder x3
      extract_lets +onlyGivenNames -merge -underBinder x4
      extract_lets +onlyGivenNames -merge -underBinder x5
      extract_lets +onlyGivenNames -merge -underBinder x6
      have hx6 : Calm s x6 := by
        unfold x6
        refine Calm.ite ?_ ?_
        · refine Calm.trans ?_ (State.setTdm_calm ..)
          exact hx1
        · exact hx1
      refine Calm.ite ?_ ?_
      · refine Calm.ite ?_ ?_
        · refine Calm.trans ?_ (State.fence_calm ..)
          exact hx6
        · refine Calm.ite ?_ ?_
          · refine Calm.trans ?_ (State.acquire_calm ..)
            exact hx6
          · exact hx6
      · refine Calm.ite ?_ ?_
        · refine Calm.ite ?_ ?_
          · refine Calm.trans ?_ (State.doubleFault_calm ..)
            exact hx6
          · refine Calm.ite ?_ ?_
            · exact hx6
            · refine Calm.trans ?_ (State.acquire_calm ..)
              exact hx6
        · refine Calm.ite ?_ ?_
          · refine Calm.trans ?_ (State.acquire_calm ..)
            exact hx6
          · exact hx6

theorem execLeaseRefused_calm (dt : Nat) (bytes : List Byte) (s : State) :
    Ends Calm s (execLeaseRefused dt bytes s) := by
  unfold execLeaseRefused
  refine Ends.next ?_
  refine Calm.trans ?_ (State.leaseRefused_calm ..)
  exact (State.elapse_calm ..)

end Sys2Proof.Machine
end

