-- ==== Sys2Proof/Laws/Can.lean ====
section
/-! SUPPORT. What the operations of Machine/Can.lean leave alone (Laws/Keeps.lean). -/

namespace Sys2Proof.Machine

open Sys2Proof

theorem State.setCanFifo_calm (s : State) (c : Nat) (f : Nat) (v : CanFifo) :
    Calm s (State.setCanFifo s c f v) := by
  unfold State.setCanFifo
  exact (State.modCan_calm ..)

theorem State.setCanQueue_calm (s : State) (c : Nat) (q : Nat) (v : CanQueue) :
    Calm s (State.setCanQueue s c q v) := by
  unfold State.setCanQueue
  exact (State.modCan_calm ..)

theorem State.canCheck_calm (s : State) (c : Nat) (f : Nat) (a1 : Nat) :
    Calm s (State.canCheck s c f a1) := by
  unfold State.canCheck
  split
  · exact Calm.refl _
  · extract_lets +onlyGivenNames -merge -underBinder x1
    split
    · exact Calm.refl _
    · extract_lets +onlyGivenNames -merge -underBinder x2
      refine Calm.ite ?_ ?_
      · exact Calm.refl _
      · extract_lets +onlyGivenNames -merge -underBinder x3
        extract_lets +onlyGivenNames -merge -underBinder x4
        have hx4 : Calm s x4 := by
          unfold x4
          exact (State.ringComplete_calm ..)
        refine Calm.trans ?_ (State.canCheck_calm ..)
        refine Calm.trans ?_ (State.setCanFifo_calm ..)
        exact hx4

theorem State.canCheckAll_calm (s : State) (c : Nat) :
    Calm s (State.canCheckAll s c) := by
  unfold State.canCheckAll
  refine Calm.foldl ?_ (fun t1 a2 h3 => ?_)
  · exact Calm.refl _
  · refine Calm.trans ?_ (State.canCheck_calm ..)
    exact h3

theorem execCanTransmitAttempt_calm (dt : Nat) (c : Fin 4) (s : State) :
    Ends Calm s (execCanTransmitAttempt dt c s) := by
  unfold execCanTransmitAttempt
  extract_lets +onlyGivenNames -merge -underBinder x1
  have hx1 : Calm s x1 := by
    unfold x1
    exact (State.elapse_calm ..)
  extract_lets +onlyGivenNames -merge -underBinder x2
  extract_lets +onlyGivenNames -merge -underBinder x3
  refine Ends.ite ?_ ?_
  · refine Ends.next ?_
    exact hx1
  · extract_lets +onlyGivenNames -merge -underBinder x4
    have hx4 : Calm s x4 := by
      unfold x4
      refine Calm.trans ?_ (State.canCheckAll_calm ..)
      exact hx1
    split
    · refine Ends.next ?_
      exact hx4
    · extract_lets +onlyGivenNames -merge -underBinder x5 x6
      extract_lets +onlyGivenNames -merge -underBinder x7
      have hx7 : Calm s x7 := by
        unfold x7
        refine Calm.trans ?_ (State.modCan_calm ..)
        exact hx4
      refine Ends.next ?_
      refine Calm.trans ?_ (State.send_calm ..)
      exact hx7

theorem State.canCancelHeads_calm (s : State) (c : Nat) (f : Nat) (a1 : Nat) :
    Calm s (State.canCancelHeads s c f a1) := by
  unfold State.canCancelHeads
  split
  · exact Calm.refl _
  · split
    · exact Calm.refl _
    · extract_lets +onlyGivenNames -merge -underBinder x1
      extract_lets +onlyGivenNames -merge -underBinder x2
      have hx2 : Calm s x2 := by
        unfold x2
        exact (State.ringComplete_calm ..)
      refine Calm.trans ?_ (State.canCancelHeads_calm ..)
      refine Calm.trans ?_ (State.setCanFifo_calm ..)
      exact hx2

theorem State.canHeadDone_calm (s : State) (c : Nat) (f : Nat) (status : Nat) (outcome : Nat) (sent : Option Nat) :
    Calm s (State.canHeadDone s c f status outcome sent) := by
  unfold State.canHeadDone
  split
  · exact (State.setCanFifo_calm ..)
  · extract_lets +onlyGivenNames -merge -underBinder x1
    extract_lets +onlyGivenNames -merge -underBinder x2
    extract_lets +onlyGivenNames -merge -underBinder x3
    have hx3 : Calm s x3 := by
      unfold x3
      exact (State.ringComplete_calm ..)
    refine Calm.trans ?_ (State.canCancelHeads_calm ..)
    refine Calm.trans ?_ (State.setCanFifo_calm ..)
    exact hx3

theorem State.canErrors_calm (s : State) (c : Nat) (tec : Nat) (erc : Nat) (off : Bool) :
    Calm s (State.canErrors s c tec erc off) := by
  unfold State.canErrors
  extract_lets +onlyGivenNames -merge -underBinder x1
  extract_lets +onlyGivenNames -merge -underBinder x2
  extract_lets +onlyGivenNames -merge -underBinder x3
  have hx3 : Calm s x3 := by
    unfold x3
    exact (State.modCan_calm ..)
  extract_lets +onlyGivenNames -merge -underBinder x4
  have hx4 : Calm s x4 := by
    unfold x4
    refine Calm.ite ?_ ?_
    · refine Calm.trans ?_ (State.flag_calm ..)
      exact hx3
    · exact hx3
  refine Calm.ite ?_ ?_
  · refine Calm.trans ?_ (State.flag_calm ..)
    refine Calm.trans ?_ (State.inc_calm ..)
    exact hx4
  · exact hx4

theorem State.canException_calm (s : State) (c : Nat) :
    Calm s (State.canException s c) := by
  unfold State.canException
  extract_lets +onlyGivenNames -merge -underBinder x1
  have hx1 : Calm s x1 := by
    unfold x1
    exact (State.modCan_calm ..)
  refine Calm.trans ?_ (State.flag_calm ..)
  refine Calm.trans ?_ (State.inc_calm ..)
  exact hx1

theorem execCanAttemptEnd_calm (dt : Nat) (c : Fin 4) (outcome : CanOutcome) (tec : Byte) (s : State) :
    Ends Calm s (execCanAttemptEnd dt c outcome tec s) := by
  unfold execCanAttemptEnd
  extract_lets +onlyGivenNames -merge -underBinder x1
  have hx1 : Calm s x1 := by
    unfold x1
    exact (State.elapse_calm ..)
  extract_lets +onlyGivenNames -merge -underBinder x2
  extract_lets +onlyGivenNames -merge -underBinder x3
  split
  · refine Ends.next ?_
    exact hx1
  · extract_lets +onlyGivenNames -merge -underBinder x4
    have hx4 : Calm s x4 := by
      unfold x4
      refine Calm.trans ?_ (State.modCan_calm ..)
      exact hx1
    extract_lets +onlyGivenNames -merge -underBinder x5
    have hx5 : Calm s x5 := by
      unfold x5
      refine Calm.trans ?_ (State.inc_calm ..)
      exact hx4
    extract_lets +onlyGivenNames -merge -underBinder x6
    have hx6 : Calm s x6 := by
      unfold x6
      refine Calm.trans ?_ (State.canErrors_calm ..)
      exact hx5
    extract_lets +onlyGivenNames -merge -underBinder x7
    have hx7 : Calm s x7 := by
      unfold x7
      refine Calm.ite ?_ ?_
      · refine Calm.trans ?_ (State.canException_calm ..)
        exact hx6
      · exact hx6
    split
    · refine Ends.ite ?_ ?_
      · split
        rename_i y8 y9 e10
        have hy9 : Calm s y9 := by
          refine Calm.snd e10 ?_
          refine Calm.trans ?_ (State.draw_calm ..)
          exact hx7
        extract_lets +onlyGivenNames -merge -underBinder x11
        refine Ends.next ?_
        refine Calm.trans ?_ (State.modCan_calm ..)
        exact hy9
      · refine Ends.next ?_
        exact hx7
    · extract_lets +onlyGivenNames -merge -underBinder x12
      extract_lets +onlyGivenNames -merge -underBinder x13
      extract_lets +onlyGivenNames -merge -underBinder x14
      have hx14 : Calm s x14 := by
        unfold x14
        refine Calm.trans ?_ (State.setCanFifo_calm ..)
        exact hx7
      extract_lets +onlyGivenNames -merge -underBinder x15
      extract_lets +onlyGivenNames -merge -underBinder x16
      extract_lets +onlyGivenNames -merge -underBinder x17
      refine Ends.ite ?_ ?_
      · refine Ends.next ?_
        refine Calm.trans ?_ (State.canHeadDone_calm ..)
        refine Calm.trans ?_ (State.inc_calm ..)
        exact hx14
      · refine Ends.ite ?_ ?_
        · refine Ends.next ?_
          refine Calm.trans ?_ (State.canHeadDone_calm ..)
          exact hx14
        · refine Ends.ite ?_ ?_
          · refine Ends.next ?_
            refine Calm.trans ?_ (State.canHeadDone_calm ..)
            exact hx14
          · refine Ends.next ?_
            exact hx14

theorem State.canCancel_calm (s : State) (c : Nat) (f : Nat) (all : Bool) :
    Calm s (State.canCancel s c f all) := by
  unfold State.canCancel
  extract_lets +onlyGivenNames -merge -underBinder x1
  extract_lets +onlyGivenNames -merge -underBinder x2
  refine Calm.ite ?_ ?_
  · exact Calm.refl _
  · refine Calm.ite ?_ ?_
    · extract_lets +onlyGivenNames -merge -underBinder x3
      exact (State.setCanFifo_calm ..)
    · exact (State.canCancelHeads_calm ..)

theorem execCanCancel_calm (dt : Nat) (c : Fin 4) (fifo : Fin 8) (s : State) :
    Ends Calm s (execCanCancel dt c fifo s) := by
  unfold execCanCancel
  refine Ends.next ?_
  refine Calm.hostDo ?_ (fun t1 h2 => ?_)
  · exact (State.elapse_calm ..)
  · refine Calm.trans ?_ (State.canCancel_calm ..)
    exact h2

theorem execCanCancelAll_calm (dt : Nat) (c : Fin 4) (fifo : Fin 8) (s : State) :
    Ends Calm s (execCanCancelAll dt c fifo s) := by
  unfold execCanCancelAll
  refine Ends.next ?_
  refine Calm.hostDo ?_ (fun t1 h2 => ?_)
  · exact (State.elapse_calm ..)
  · refine Calm.trans ?_ (State.canCancel_calm ..)
    exact h2

theorem State.canDeliver_calm (s : State) (c : Nat) (q : Nat) (a1 : Nat) :
    Calm s (State.canDeliver s c q a1) := by
  unfold State.canDeliver
  split
  · exact Calm.refl _
  · extract_lets +onlyGivenNames -merge -underBinder x1
    split
    · extract_lets +onlyGivenNames -merge -underBinder x2
      have hx2 : Calm s x2 := by
        unfold x2
        exact (State.ringPush_calm ..)
      extract_lets +onlyGivenNames -merge -underBinder x3
      have hx3 : Calm s x3 := by
        unfold x3
        refine Calm.trans ?_ (State.setCanQueue_calm ..)
        exact hx2
      refine Calm.trans ?_ (State.canDeliver_calm ..)
      refine Calm.trans ?_ (State.inc_calm ..)
      exact hx3
    · exact Calm.refl _

theorem State.canDeliverAll_calm (s : State) (c : Nat) (q : Nat) :
    Calm s (State.canDeliverAll s c q) := by
  unfold State.canDeliverAll
  refine Calm.ite ?_ ?_
  · exact Calm.refl _
  · exact (State.canDeliver_calm ..)

theorem State.canStore_calm (s : State) (c : Nat) (q : Nat) (b : List Byte) (fidx : Nat) :
    Calm s (State.canStore s c q b fidx) := by
  unfold State.canStore
  extract_lets +onlyGivenNames -merge -underBinder x1
  extract_lets +onlyGivenNames -merge -underBinder x2
  refine Calm.ite ?_ ?_
  · extract_lets +onlyGivenNames -merge -underBinder x3
    have hx3 : Calm s x3 := by
      unfold x3
      refine Calm.trans ?_ (State.inc_calm ..)
      exact (State.setCanQueue_calm ..)
    extract_lets +onlyGivenNames -merge -underBinder x4
    have hx4 : Calm s x4 := by
      unfold x4
      refine Calm.ite ?_ ?_
      · exact hx3
      · refine Calm.trans ?_ (State.inc_calm ..)
        exact hx3
    refine Calm.trans ?_ (State.flag_calm ..)
    exact hx4
  · extract_lets +onlyGivenNames -merge -underBinder x5
    have hx5 : Calm s x5 := by
      unfold x5
      exact (State.setCanQueue_calm ..)
    refine Calm.ite ?_ ?_
    · refine Calm.trans ?_ (State.inc_calm ..)
      exact hx5
    · refine Calm.trans ?_ (State.canDeliverAll_calm ..)
      exact hx5

theorem State.witnessReplyIn_steady (s : State) (b : List Byte) :
    Steady s (State.witnessReplyIn s b) := by
  unfold State.witnessReplyIn
  split
  · exact (State.witnessState_calm ..).steady
  · exact (State.leaseGranted_steady ..)
  · exact (State.leaseRefused_calm ..).steady
  · exact Steady.refl _

theorem State.witnessIn_steady (s : State) (b : List Byte) (src : NetSource) :
    Steady s (State.witnessIn s b src) := by
  unfold State.witnessIn
  refine Steady.ite ?_ ?_
  · exact (State.witnessReplyIn_steady ..)
  · exact (State.witRequest_calm ..).steady

theorem State.witnessCan_steady (s : State) (c : Fin 4) (f : CanFrame) {t : State} (h : s.witnessCan c f = some t) :
    Steady s t := by
  unfold State.witnessCan at h
  extract_lets wid at h
  split at h
  · cases h
  · split at h
    · cases h; exact (State.witRequest_calm ..).steady
    · split at h
      · cases h; exact State.witnessReplyIn_steady ..
      · cases h

theorem State.canConsume_steady (s : State) (c : Fin 4) (f : CanFrame) {t : State} (h : s.canConsume c f = some t) :
    Steady s t := by
  unfold State.canConsume at h
  extract_lets src esp mine at h
  split at h
  · cases h; exact State.espFrameIn_steady ..
  · split at h
    · exact State.witnessCan_steady _ _ _ h
    · split at h
      · cases h; exact (State.command_calm ..).steady
      · split at h
        · obtain ⟨k, -, e⟩ := Option.map_eq_some_iff.mp h
          subst e; exact (State.streamFrame_calm ..).steady
        · cases h

theorem execCanFrameReceived_steady (dt : Nat) (c : Fin 4) (x : CanRx) (s : State) :
    Ends Steady s (execCanFrameReceived dt c x s) := by
  unfold execCanFrameReceived
  extract_lets +onlyGivenNames -merge -underBinder x1
  have hx1 : Steady s x1 := by
    unfold x1
    exact (State.elapse_calm ..).steady
  refine Ends.ite ?_ ?_
  · refine Ends.next ?_
    exact hx1
  · split
    · refine Ends.next ?_
      refine Steady.trans ?_ (State.canException_calm ..).steady
      exact hx1
    · refine Ends.next ?_
      refine Steady.trans ?_ (State.canErrors_calm ..).steady
      refine Steady.trans ?_ (State.inc_calm ..).steady
      exact hx1
    · extract_lets +onlyGivenNames -merge -underBinder x2
      have hx2 : Steady s x2 := by
        unfold x2
        refine Steady.trans ?_ (State.canErrors_calm ..).steady
        exact hx1
      refine Ends.ite ?_ ?_
      · refine Ends.next ?_
        refine Steady.trans ?_ (State.canException_calm ..).steady
        exact hx2
      · refine Ends.ite ?_ ?_
        · refine Ends.next ?_
          exact hx2
        · split
          · rename_i t ht
            refine Ends.next ?_
            exact hx2.trans (State.canConsume_steady _ _ _ ht)
          · split
            · refine Ends.next ?_
              refine Steady.trans ?_ (State.inc_calm ..).steady
              exact hx2
            · refine Ends.next ?_
              refine Steady.trans ?_ (State.canStore_calm ..).steady
              exact hx2

theorem State.canRelease_calm (s : State) (c : Nat) (q : Nat) :
    Calm s (State.canRelease s c q) := by
  unfold State.canRelease
  refine Calm.ite ?_ ?_
  · extract_lets +onlyGivenNames -merge -underBinder x1
    exact (State.setCanQueue_calm ..)
  · exact Calm.refl _

theorem execRxrel_calm (dt : Nat) (c : Fin 4) (q : Fin 4) (s : State) :
    Ends Calm s (execRxrel dt c q s) := by
  unfold execRxrel
  refine Ends.next ?_
  refine Calm.hostDo ?_ (fun t1 h2 => ?_)
  · exact (State.elapse_calm ..)
  · refine Calm.trans ?_ (State.canRelease_calm ..)
    exact h2

theorem State.rxwTouch_calm (s : State) (c : Nat) (word : Nat) :
    Calm s (State.rxwTouch s c word) := by
  unfold State.rxwTouch
  extract_lets +onlyGivenNames -merge -underBinder x1
  extract_lets +onlyGivenNames -merge -underBinder x2
  extract_lets +onlyGivenNames -merge -underBinder x3
  split
  · exact Calm.refl _
  · refine Calm.ite ?_ ?_
    · exact Calm.refl _
    · refine Calm.ite ?_ ?_
      · exact (State.setCanQueue_calm ..)
      · refine Calm.ite ?_ ?_
        · exact (State.canRelease_calm ..)
        · exact Calm.refl _

theorem execRxwRead_calm (dt : Nat) (c : Fin 4) (word : Fin 256) (s : State) :
    Ends Calm s (execRxwRead dt c word s) := by
  unfold execRxwRead
  extract_lets +onlyGivenNames -merge -underBinder x1
  have hx1 : Calm s x1 := by
    unfold x1
    exact (State.elapse_calm ..)
  extract_lets +onlyGivenNames -merge -underBinder x2
  refine Ends.ite ?_ ?_
  · refine Ends.next ?_
    refine Calm.trans ?_ (State.answerRead_calm ..)
    refine Calm.trans ?_ (State.rxwTouch_calm ..)
    exact hx1
  · refine Ends.next ?_
    refine Calm.trans ?_ (State.answerRead_calm ..)
    exact hx1

theorem State.fltCommit_calm (s : State) (c : Nat) (w1 : Nat) :
    Calm s (State.fltCommit s c w1) := by
  unfold State.fltCommit
  extract_lets +onlyGivenNames -merge -underBinder x1
  extract_lets +onlyGivenNames -merge -underBinder x2
  exact (State.modCan_calm ..)

theorem State.ignoredWrite_calm (s : State) (p : Page) (o : Nat) :
    Calm s (State.ignoredWrite s p o) := by
  unfold State.ignoredWrite
  extract_lets +onlyGivenNames -merge -underBinder x1
  have hx1 : Calm s x1 := by
    unfold x1
    refine Calm.ite ?_ ?_
    · exact (State.wrf_calm ..)
    · exact Calm.refl _
  refine Calm.trans ?_ (State.flag_calm ..)
  refine Calm.trans ?_ (State.incf_calm ..)
  exact hx1

theorem State.fltw1Write_calm (s : State) (c : Fin 4) (value : Word) :
    Calm s (State.fltw1Write s c value) := by
  unfold State.fltw1Write
  extract_lets +onlyGivenNames -merge -underBinder x1
  refine Calm.ite ?_ ?_
  · refine Calm.trans ?_ (State.fltCommit_calm ..)
    exact (State.wr_calm ..)
  · exact (State.ignoredWrite_calm ..)

theorem execFltw1Commit_calm (dt : Nat) (c : Fin 4) (value : Word) (s : State) :
    Ends Calm s (execFltw1Commit dt c value s) := by
  unfold execFltw1Commit
  refine Ends.next ?_
  refine Calm.hostDo ?_ (fun t1 h2 => ?_)
  · exact (State.elapse_calm ..)
  · refine Calm.trans ?_ (State.fltw1Write_calm ..)
    exact h2

theorem State.canRecover_calm (s : State) (c : Nat) :
    Calm s (State.canRecover s c) := by
  unfold State.canRecover
  refine Calm.ite ?_ ?_
  · exact (State.modCan_calm ..)
  · exact Calm.refl _

theorem execCanRecover_calm (dt : Nat) (c : Fin 4) (s : State) :
    Ends Calm s (execCanRecover dt c s) := by
  unfold execCanRecover
  refine Ends.next ?_
  refine Calm.hostDo ?_ (fun t1 h2 => ?_)
  · exact (State.elapse_calm ..)
  · refine Calm.trans ?_ (State.canRecover_calm ..)
    exact h2

theorem execBusOffRecovery_calm (dt : Nat) (c : Fin 4) (s : State) :
    Ends Calm s (execBusOffRecovery dt c s) := by
  unfold execBusOffRecovery
  extract_lets +onlyGivenNames -merge -underBinder x1
  have hx1 : Calm s x1 := by
    unfold x1
    exact (State.elapse_calm ..)
  extract_lets +onlyGivenNames -merge -underBinder x2
  refine Ends.ite ?_ ?_
  · refine Ends.next ?_
    refine Calm.trans ?_ (State.modCan_calm ..)
    exact hx1
  · refine Ends.next ?_
    exact hx1

theorem execCanBusIntegration_calm (dt : Nat) (c : Fin 4) (s : State) :
    Ends Calm s (execCanBusIntegration dt c s) := by
  unfold execCanBusIntegration
  extract_lets +onlyGivenNames -merge -underBinder x1
  have hx1 : Calm s x1 := by
    unfold x1
    exact (State.elapse_calm ..)
  refine Ends.ite ?_ ?_
  · refine Ends.next ?_
    refine Calm.trans ?_ (State.modCan_calm ..)
    exact hx1
  · refine Ends.next ?_
    exact hx1

theorem execWitnessResend_calm (dt : Nat) (c : Fin 4) (s : State) :
    Ends Calm s (execWitnessResend dt c s) := by
  unfold execWitnessResend
  extract_lets +onlyGivenNames -merge -underBinder x1
  have hx1 : Calm s x1 := by
    unfold x1
    exact (State.elapse_calm ..)
  extract_lets +onlyGivenNames -merge -underBinder x2
  extract_lets +onlyGivenNames -merge -underBinder x3
  have hx3 : Calm s x3 := by
    unfold x3
    refine Calm.trans ?_ (State.modCan_calm ..)
    exact hx1
  refine Ends.next ?_
  refine Calm.foldl ?_ (fun t4 a5 h6 => ?_)
  · exact hx3
  · refine Calm.trans ?_ (State.canOwn_calm ..)
    exact h6

theorem State.canStarted_calm (s : State) (c : Nat) :
    Calm s (State.canStarted s c) := by
  unfold State.canStarted
  refine Calm.upd ?_ rfl rfl rfl rfl rfl rfl rfl rfl
  exact Calm.refl _

theorem State.canStopped_calm (s : State) (c : Nat) :
    Calm s (State.canStopped s c) := by
  unfold State.canStopped
  extract_lets +onlyGivenNames -merge -underBinder x1
  have hx1 : Calm s x1 := by
    unfold x1
    refine Calm.foldl ?_ (fun t2 a3 h4 => ?_)
    · exact Calm.refl _
    · refine Calm.trans ?_ (State.canCancelHeads_calm ..)
      exact h4
  refine Calm.upd ?_ rfl rfl rfl rfl rfl rfl rfl rfl
  exact hx1

end Sys2Proof.Machine
end

