-- ==== Sys2Proof/Laws/Eth.lean ====
section
/-! SUPPORT. What the operations of Machine/Eth.lean leave alone (Laws/Keeps.lean). -/

namespace Sys2Proof.Machine

open Sys2Proof

theorem State.ethCheck_calm (s : State) (p : Nat) (q : Nat) (a1 : Nat) :
    Calm s (State.ethCheck s p q a1) := by
  unfold State.ethCheck
  split
  · exact Calm.refl _
  · split
    · exact Calm.refl _
    · extract_lets +onlyGivenNames -merge -underBinder x1
      refine Calm.ite ?_ ?_
      · exact Calm.refl _
      · refine Calm.trans ?_ (State.ethCheck_calm ..)
        exact (State.ringComplete_calm ..)

theorem State.ethCheckAll_calm (s : State) (p : Nat) :
    Calm s (State.ethCheckAll s p) := by
  unfold State.ethCheckAll
  refine Calm.foldl ?_ (fun t1 a2 h3 => ?_)
  · exact Calm.refl _
  · refine Calm.trans ?_ (State.ethCheck_calm ..)
    exact h3

theorem State.ethSendHost_calm (s : State) (p : Nat) (q : Nat) (frac : Nat) (d : Desc) :
    Calm s (State.ethSendHost s p q frac d) := by
  unfold State.ethSendHost
  extract_lets +onlyGivenNames -merge -underBinder x1
  extract_lets +onlyGivenNames -merge -underBinder x2
  extract_lets +onlyGivenNames -merge -underBinder x3
  extract_lets +onlyGivenNames -merge -underBinder x4
  extract_lets +onlyGivenNames -merge -underBinder x5
  extract_lets +onlyGivenNames -merge -underBinder x6
  extract_lets +onlyGivenNames -merge -underBinder x7
  have hx7 : Calm s x7 := by
    unfold x7
    refine Calm.ite ?_ ?_
    · exact (State.inc_calm ..)
    · exact Calm.refl _
  extract_lets +onlyGivenNames -merge -underBinder x8
  extract_lets +onlyGivenNames -merge -underBinder x9
  have hx9 : Calm s x9 := by
    unfold x9
    refine Calm.ite ?_ ?_
    · split
      rename_i y10 y11 e12
      have hy11 : Calm s y11 := by
        refine Calm.snd e12 ?_
        refine Calm.trans ?_ (State.takePrpSeq_calm ..)
        exact hx7
      extract_lets +onlyGivenNames -merge -underBinder x13
      have hx13 : Calm s x13 := by
        unfold x13
        refine Calm.trans ?_ (State.inc_calm ..)
        refine Calm.trans ?_ (State.send_calm ..)
        exact hy11
      refine Calm.ite ?_ ?_
      · refine Calm.trans ?_ (State.inc_calm ..)
        refine Calm.trans ?_ (State.send_calm ..)
        exact hx13
      · refine Calm.trans ?_ (State.inc_calm ..)
        exact hx13
    · refine Calm.trans ?_ (State.inc_calm ..)
      refine Calm.trans ?_ (State.send_calm ..)
      exact hx7
  extract_lets +onlyGivenNames -merge -underBinder x14
  extract_lets +onlyGivenNames -merge -underBinder x15
  refine Calm.trans ?_ (State.ringComplete_calm ..)
  exact hx9

theorem State.ethStart_calm (s : State) (p : Nat) (frac : Nat) (k : Nat) : Calm s (s.ethStart p frac k) := by
  induction k generalizing s with
  | zero => exact Calm.refl s
  | succ k ih =>
    unfold State.ethStart
    split
    · exact Calm.refl s
    · refine Calm.ite ?_ ?_
      · exact (((State.inc_calm ..).trans (State.flag_calm ..)).trans (State.ringComplete_calm ..)).trans
          ((State.ethCheckAll_calm ..).trans (ih _))
      · exact State.ethSendHost_calm ..

theorem execEthTransmit_calm (dt : Nat) (p : Fin 4) (frac : BitVec 16) (s : State) :
    Ends Calm s (execEthTransmit dt p frac s) := by
  unfold execEthTransmit
  extract_lets +onlyGivenNames -merge -underBinder x1
  have hx1 : Calm s x1 := by
    unfold x1
    exact (State.elapse_calm ..)
  extract_lets +onlyGivenNames -merge -underBinder x2
  refine Ends.ite ?_ ?_
  · refine Ends.next ?_
    exact hx1
  · extract_lets +onlyGivenNames -merge -underBinder x3
    have hx3 : Calm s x3 := by
      unfold x3
      refine Calm.trans ?_ (State.modEth_calm ..)
      exact hx1
    extract_lets +onlyGivenNames -merge -underBinder x4
    have hx4 : Calm s x4 := by
      unfold x4
      refine Calm.trans ?_ (State.ethCheckAll_calm ..)
      exact hx3
    refine Ends.ite ?_ ?_
    · refine Ends.next ?_
      exact hx4
    · split
      · extract_lets +onlyGivenNames -merge -underBinder x5
        extract_lets +onlyGivenNames -merge -underBinder x6
        have hx6 : Calm s x6 := by
          unfold x6
          refine Calm.trans ?_ (State.inc_calm ..)
          refine Calm.trans ?_ (State.modEth_calm ..)
          exact hx4
        refine Ends.next ?_
        refine Calm.trans ?_ (State.send_calm ..)
        exact hx6
      · with_reducible refine Ends.ite ?_ ?_
        · refine Ends.next ?_
          refine Calm.trans ?_ (State.ethStart_calm ..)
          exact hx4
        · refine Ends.next ?_
          exact hx4

theorem State.ethDeliver_calm (s : State) (p : Nat) (q : Nat) (a1 : Nat) :
    Calm s (State.ethDeliver s p q a1) := by
  unfold State.ethDeliver
  split
  · exact Calm.refl _
  · extract_lets +onlyGivenNames -merge -underBinder x1
    clear_value x1
    split
    · refine Calm.ite ?_ ?_
      · refine Calm.trans ?_ (State.ethDeliver_calm ..)
        exact (State.ringComplete_calm ..)
      · extract_lets +onlyGivenNames -merge -underBinder x2
        have hx2 : Calm s x2 := by
          unfold x2
          exact (State.ringPush_calm ..)
        extract_lets +onlyGivenNames -merge -underBinder x3
        have hx3 : Calm s x3 := by
          unfold x3
          refine Calm.trans ?_ (State.modEth_calm ..)
          exact hx2
        refine Calm.trans ?_ (State.ethDeliver_calm ..)
        refine Calm.trans ?_ (State.inc_calm ..)
        exact hx3
    · exact Calm.refl _

theorem State.ethDeliverAll_calm (s : State) (p : Nat) (q : Nat) :
    Calm s (State.ethDeliverAll s p q) := by
  unfold State.ethDeliverAll
  exact (State.ethDeliver_calm ..)

theorem State.ethStore_calm (s : State) (p : Nat) (q : Nat) (b : List Byte) :
    Calm s (State.ethStore s p q b) := by
  unfold State.ethStore
  extract_lets +onlyGivenNames -merge -underBinder x1
  refine Calm.ite ?_ ?_
  · refine Calm.trans ?_ (State.flag_calm ..)
    refine Calm.trans ?_ (State.inc_calm ..)
    exact (State.inc_calm ..)
  · refine Calm.trans ?_ (State.ethDeliverAll_calm ..)
    exact (State.modEth_calm ..)

theorem State.prpJudge_calm (s : State) (p : Nat) (b : List Byte) (t : Nat × Nat) :
    Calm s (State.prpJudge s p b t).2 := by
  unfold State.prpJudge
  extract_lets +onlyGivenNames -merge -underBinder x1
  extract_lets +onlyGivenNames -merge -underBinder x2
  extract_lets +onlyGivenNames -merge -underBinder x3
  have hx3 : Calm s x3 := by
    unfold x3
    refine Calm.ite ?_ ?_
    · refine Calm.trans ?_ (State.flag_calm ..)
      exact (State.inc_calm ..)
    · exact Calm.refl _
  extract_lets +onlyGivenNames -merge -underBinder x4
  extract_lets +onlyGivenNames -merge -underBinder x5
  extract_lets +onlyGivenNames -merge -underBinder x6 x7
  have hx7 : Calm s x7 := by
    unfold x7
    refine Calm.upd ?_ rfl rfl rfl rfl rfl rfl rfl rfl
    exact hx3
  refine Calm.pair ?_
  refine Calm.ite ?_ ?_
  · refine Calm.trans ?_ (State.inc_calm ..)
    exact hx7
  · exact hx7

theorem State.udpConsume_steady (s : State) (p : Fin 4) (u : UdpIn) {t : State} (h : s.udpConsume p u = some t) :
    Steady s t := by
  unfold State.udpConsume at h
  extract_lets src hears esp streams wit at h
  split at h
  · cases h
  · split at h
    · cases h; exact Steady.ite (Steady.refl s) (State.espFrameIn_steady ..)
    · split at h
      · cases h; exact State.witnessIn_steady ..
      · split at h
        · cases h; exact (State.command_calm ..).steady
        · split at h
          · obtain ⟨k, -, e⟩ := Option.map_eq_some_iff.mp h
            subst e
            split
            · exact (State.streamFrame_calm ..).steady
            · exact Steady.refl s
          · cases h

theorem State.ethAnswer_calm (s : State) (p : Nat) (a : AskedAddr) (who : Nat) (whoIp : Nat) :
    Calm s (State.ethAnswer s p a who whoIp) := by
  unfold State.ethAnswer
  split
  · exact (State.ethQueue_calm ..)
  · exact Calm.refl _

theorem State.ethClassify_steady (s : State) (p : Fin 4) (b : List Byte) (flags : Nat) (stamp : Nat) :
    Steady s (State.ethClassify s p b flags stamp) := by
  unfold State.ethClassify
  extract_lets +onlyGivenNames -merge -underBinder x1
  extract_lets +onlyGivenNames -merge -underBinder x2
  refine Steady.ite ?_ ?_
  · unfold x1
    exact (State.inc_calm ..).steady
  · split
    · split
      · rename_i t ht
        refine Steady.ite ?_ ?_
        · unfold x1
          refine Steady.trans ?_ (State.inc_calm ..).steady
          exact State.udpConsume_steady _ _ _ ht
        · exact (State.inc_calm ..).steady
      · unfold x2
        extract_lets +onlyGivenNames -merge -underBinder x3
        exact (State.ethStore_calm ..).steady
    · split
      · rename_i t ht
        refine Steady.ite ?_ ?_
        · unfold x1
          refine Steady.trans ?_ (State.inc_calm ..).steady
          exact (State.ethAnswer_calm ..).steady
        · unfold x2
          extract_lets +onlyGivenNames -merge -underBinder x4
          exact (State.ethStore_calm ..).steady
      · unfold x2
        extract_lets +onlyGivenNames -merge -underBinder x5
        exact (State.ethStore_calm ..).steady

theorem execEthFrameReceived_steady (dt : Nat) (p : Fin 4) (f : EthFrame) (frac : BitVec 16) (s : State) :
    Ends Steady s (execEthFrameReceived dt p f frac s) := by
  unfold execEthFrameReceived
  extract_lets +onlyGivenNames -merge -underBinder x1
  have hx1 : Steady s x1 := by
    unfold x1
    exact (State.elapse_calm ..).steady
  extract_lets +onlyGivenNames -merge -underBinder x2
  refine Ends.ite ?_ ?_
  · refine Ends.next ?_
    exact hx1
  · refine Ends.ite ?_ ?_
    · refine Ends.next ?_
      refine Steady.trans ?_ (State.inc_calm ..).steady
      exact hx1
    · refine Ends.ite ?_ ?_
      · refine Ends.next ?_
        refine Steady.trans ?_ (State.inc_calm ..).steady
        exact hx1
      · extract_lets +onlyGivenNames -merge -underBinder x3
        extract_lets +onlyGivenNames -merge -underBinder x4
        extract_lets +onlyGivenNames -merge -underBinder x5
        split
        · split
          rename_i y6 y7 e8
          have hy7 : Steady s y7 := by
            refine Steady.snd e8 ?_
            refine Steady.trans ?_ (State.prpJudge_calm ..).steady
            exact hx1
          extract_lets +onlyGivenNames -merge -underBinder x9
          refine Ends.ite ?_ ?_
          · refine Ends.next ?_
            exact hy7
          · refine Ends.ite ?_ ?_
            · refine Ends.next ?_
              refine Steady.trans ?_ (State.ethClassify_steady ..)
              exact hy7
            · refine Ends.next ?_
              refine Steady.trans ?_ (State.inc_calm ..).steady
              exact hy7
        · refine Ends.ite ?_ ?_
          · refine Ends.next ?_
            refine Steady.trans ?_ (State.ethClassify_steady ..)
            exact hx1
          · refine Ends.next ?_
            refine Steady.trans ?_ (State.inc_calm ..).steady
            exact hx1

theorem execArpRequest_calm (dt : Nat) (p : Fin 4) (addr : AskedAddr) (who : BitVec 48) (whoIp : BitVec 128) (s :
    State) :
    Ends Calm s (execArpRequest dt p addr who whoIp s) := by
  unfold execArpRequest
  extract_lets +onlyGivenNames -merge -underBinder x1
  have hx1 : Calm s x1 := by
    unfold x1
    exact (State.elapse_calm ..)
  refine Ends.ite ?_ ?_
  · refine Ends.next ?_
    refine Calm.trans ?_ (State.ethAnswer_calm ..)
    refine Calm.trans ?_ (State.inc_calm ..)
    exact hx1
  · refine Ends.next ?_
    exact hx1

theorem execPairAnnounce_calm (dt : Nat) (s : State) :
    Ends Calm s (execPairAnnounce dt s) := by
  unfold execPairAnnounce
  extract_lets +onlyGivenNames -merge -underBinder x1
  have hx1 : Calm s x1 := by
    unfold x1
    exact (State.elapse_calm ..)
  refine Ends.ite ?_ ?_
  · refine Ends.next ?_
    exact hx1
  · extract_lets +onlyGivenNames -merge -underBinder x2 x3
    have hx3 : Calm s x3 := by
      unfold x3
      refine Calm.upd ?_ rfl rfl rfl rfl rfl rfl rfl rfl
      exact hx1
    refine Ends.next ?_
    refine Calm.foldl ?_ (fun t4 a5 h6 => ?_)
    · exact hx3
    · refine Calm.ite ?_ ?_
      · refine Calm.trans ?_ (State.ethOwn_calm ..)
        exact h6
      · exact h6

theorem execPrpSupervision_calm (dt : Nat) (p : Fin 4) (s : State) :
    Ends Calm s (execPrpSupervision dt p s) := by
  unfold execPrpSupervision
  extract_lets +onlyGivenNames -merge -underBinder x1
  have hx1 : Calm s x1 := by
    unfold x1
    exact (State.elapse_calm ..)
  extract_lets +onlyGivenNames -merge -underBinder x2
  refine Ends.ite ?_ ?_
  · extract_lets +onlyGivenNames -merge -underBinder x3 x4
    have hx4 : Calm s x4 := by
      unfold x4
      refine Calm.upd ?_ rfl rfl rfl rfl rfl rfl rfl rfl
      exact hx1
    refine Ends.next ?_
    refine Calm.trans ?_ (State.ethQueue_calm ..)
    refine Calm.trans ?_ (State.ethQueue_calm ..)
    exact hx4
  · refine Ends.next ?_
    exact hx1

theorem execEthLinkChange_calm (dt : Nat) (p : Fin 4) (up : Bool) (rate : Fin 4) (s : State) :
    Ends Calm s (execEthLinkChange dt p up rate s) := by
  unfold execEthLinkChange
  extract_lets +onlyGivenNames -merge -underBinder x1
  have hx1 : Calm s x1 := by
    unfold x1
    exact (State.elapse_calm ..)
  extract_lets +onlyGivenNames -merge -underBinder x2
  extract_lets +onlyGivenNames -merge -underBinder x3
  extract_lets +onlyGivenNames -merge -underBinder x4
  refine Ends.ite ?_ ?_
  · refine Ends.next ?_
    exact hx1
  · extract_lets +onlyGivenNames -merge -underBinder x5
    have hx5 : Calm s x5 := by
      unfold x5
      refine Calm.trans ?_ (State.modEth_calm ..)
      exact hx1
    refine Ends.next ?_
    refine Calm.trans ?_ (State.ethCheckAll_calm ..)
    refine Calm.trans ?_ (State.flag_calm ..)
    refine Calm.trans ?_ (State.wrn_calm ..)
    exact hx5

theorem State.ethStopped_calm (s : State) (p : Nat) :
    Calm s (State.ethStopped s p) := by
  unfold State.ethStopped
  refine Calm.trans ?_ (State.wrn_calm ..)
  refine Calm.upd ?_ rfl rfl rfl rfl rfl rfl rfl rfl
  exact Calm.refl _

end Sys2Proof.Machine
end

