-- ==== Sys2Proof/Laws/Time.lean ====
section
/-! SUPPORT. What the operations of Machine/Time.lean leave alone (Laws/Keeps.lean). -/

namespace Sys2Proof.Machine

open Sys2Proof

theorem State.modTime_calm (s : State) (f : TimeSt → TimeSt) :
    Calm s (State.modTime s f) := by
  unfold State.modTime
  refine Calm.upd ?_ rfl rfl rfl rfl rfl rfl rfl rfl
  exact Calm.refl _

theorem State.timeStarted_calm (s : State) :
    Calm s (State.timeStarted s) := by
  unfold State.timeStarted
  exact (State.modTime_calm ..)

theorem State.lockStep_calm (s : State) (offset : Int) :
    Calm s (State.lockStep s offset) := by
  unfold State.lockStep
  extract_lets +onlyGivenNames -merge -underBinder x1
  extract_lets +onlyGivenNames -merge -underBinder x2
  extract_lets +onlyGivenNames -merge -underBinder x3
  extract_lets +onlyGivenNames -merge -underBinder x4
  have hx4 : Calm s x4 := by
    unfold x4
    exact (State.modTime_calm ..)
  refine Calm.ite ?_ ?_
  · refine Calm.trans ?_ (State.flag_calm ..)
    refine Calm.trans ?_ (State.modTime_calm ..)
    exact hx4
  · refine Calm.ite ?_ ?_
    · refine Calm.trans ?_ (State.modTime_calm ..)
      exact hx4
    · exact hx4

theorem execTimeSync_steady (dt : Nat) (p : Fin 4) (t1 : Int) (t2 : Int) (correction : Int) (s : State) :
    Ends Steady s (execTimeSync dt p t1 t2 correction s) := by
  unfold execTimeSync
  extract_lets +onlyGivenNames -merge -underBinder x1
  have hx1 : Steady s x1 := by
    unfold x1
    exact (State.elapse_calm ..).steady
  refine Ends.ite ?_ ?_
  · refine Ends.next ?_
    exact hx1
  · extract_lets +onlyGivenNames -merge -underBinder x2
    extract_lets +onlyGivenNames -merge -underBinder x3
    extract_lets +onlyGivenNames -merge -underBinder x4
    have hx4 : Steady s x4 := by
      unfold x4
      refine Steady.trans ?_ (State.wri_calm ..).steady
      refine Steady.trans ?_ (State.modTime_calm ..).steady
      exact hx1
    refine Ends.ite ?_ ?_
    · refine Ends.next ?_
      exact hx4
    · refine Ends.ite ?_ ?_
      · extract_lets +onlyGivenNames -merge -underBinder x5
        have hx5 : Steady s x5 := by
          unfold x5
          refine Steady.trans ?_ (State.flag_calm ..).steady
          refine Steady.trans ?_ (State.inc_calm ..).steady
          exact hx4
        extract_lets +onlyGivenNames -merge -underBinder x6
        have hx6 : Steady s x6 := by
          unfold x6
          refine Steady.trans ?_ (State.lockStep_calm ..).steady
          exact hx5
        refine Ends.next ?_
        refine Steady.trans ?_ (State.stepMt_steady ..)
        exact hx6
      · split
        · extract_lets +onlyGivenNames -merge -underBinder x7
          have hx7 : Steady s x7 := by
            unfold x7
            refine Steady.trans ?_ (State.modTime_calm ..).steady
            exact hx4
          refine Ends.next ?_
          refine Steady.trans ?_ (State.lockStep_calm ..).steady
          refine Steady.trans ?_ (State.wri_calm ..).steady
          exact hx7

theorem execPtpAnnounce_calm (dt : Nat) (p : Fin 4) (a : PtpAnnounce) (s : State) :
    Ends Calm s (execPtpAnnounce dt p a s) := by
  unfold execPtpAnnounce
  extract_lets +onlyGivenNames -merge -underBinder x1
  have hx1 : Calm s x1 := by
    unfold x1
    exact (State.elapse_calm ..)
  extract_lets +onlyGivenNames -merge -underBinder x2
  refine Ends.ite ?_ ?_
  · refine Ends.next ?_
    exact hx1
  · extract_lets +onlyGivenNames -merge -underBinder x3
    extract_lets +onlyGivenNames -merge -underBinder x4
    have hx4 : Calm s x4 := by
      unfold x4
      refine Calm.trans ?_ (State.modTime_calm ..)
      exact hx1
    extract_lets +onlyGivenNames -merge -underBinder x5
    split
    · refine Ends.next ?_
      exact hx4
    · extract_lets +onlyGivenNames -merge -underBinder x6
      have hx6 : Calm s x6 := by
        unfold x6
        refine Calm.trans ?_ (State.wr64_calm ..)
        exact hx4
      refine Ends.ite ?_ ?_
      · refine Ends.next ?_
        exact hx6
      · extract_lets +onlyGivenNames -merge -underBinder x7
        have hx7 : Calm s x7 := by
          unfold x7
          refine Calm.trans ?_ (State.modTime_calm ..)
          exact hx6
        refine Ends.next ?_
        refine Calm.trans ?_ (State.flag_calm ..)
        refine Calm.trans ?_ (State.inc_calm ..)
        exact hx7

theorem State.showDelay_calm (s : State) :
    Calm s (State.showDelay s) := by
  unfold State.showDelay
  exact (State.wri_calm ..)

theorem execDelayResp_calm (dt : Nat) (p : Fin 4) (t1 : Int) (t2 : Int) (t3 : Int) (t4 : Int) (s : State) :
    Ends Calm s (execDelayResp dt p t1 t2 t3 t4 s) := by
  unfold execDelayResp
  extract_lets +onlyGivenNames -merge -underBinder x1
  have hx1 : Calm s x1 := by
    unfold x1
    exact (State.elapse_calm ..)
  refine Ends.ite ?_ ?_
  · refine Ends.next ?_
    exact hx1
  · refine Ends.ite ?_ ?_
    · refine Ends.next ?_
      refine Calm.trans ?_ (State.showDelay_calm ..)
      refine Calm.trans ?_ (State.modTime_calm ..)
      exact hx1
    · refine Ends.next ?_
      refine Calm.trans ?_ (State.showDelay_calm ..)
      refine Calm.trans ?_ (State.modTime_calm ..)
      exact hx1

theorem State.timeSend_calm (s : State) (p : Nat) (type : Nat) (content : List Byte) :
    Calm s (State.timeSend s p type content) := by
  unfold State.timeSend
  extract_lets +onlyGivenNames -merge -underBinder x1
  refine Calm.trans ?_ (State.ethQueue_calm ..)
  exact (State.modTime_calm ..)

theorem execDelayRequestSend_calm (dt : Nat) (s : State) :
    Ends Calm s (execDelayRequestSend dt s) := by
  unfold execDelayRequestSend
  extract_lets +onlyGivenNames -merge -underBinder x1
  have hx1 : Calm s x1 := by
    unfold x1
    exact (State.elapse_calm ..)
  refine Ends.ite ?_ ?_
  · refine Ends.next ?_
    exact hx1
  · refine Ends.next ?_
    refine Calm.trans ?_ (State.timeSend_calm ..)
    exact hx1

theorem execDelayReq_calm (dt : Nat) (p : Fin 4) (peer : Bool) (rx : Int) (s : State) :
    Ends Calm s (execDelayReq dt p peer rx s) := by
  unfold execDelayReq
  extract_lets +onlyGivenNames -merge -underBinder x1
  have hx1 : Calm s x1 := by
    unfold x1
    exact (State.elapse_calm ..)
  refine Ends.ite ?_ ?_
  · refine Ends.next ?_
    refine Calm.trans ?_ (State.timeSend_calm ..)
    exact hx1
  · refine Ends.next ?_
    exact hx1

theorem execTimeTransmitPeriod_calm (dt : Nat) (p : Fin 4) (announce : Bool) (s : State) :
    Ends Calm s (execTimeTransmitPeriod dt p announce s) := by
  unfold execTimeTransmitPeriod
  extract_lets +onlyGivenNames -merge -underBinder x1
  have hx1 : Calm s x1 := by
    unfold x1
    exact (State.elapse_calm ..)
  extract_lets +onlyGivenNames -merge -underBinder x2
  extract_lets +onlyGivenNames -merge -underBinder x3
  extract_lets +onlyGivenNames -merge -underBinder x4
  have hx4 : Calm s x4 := by
    unfold x4
    refine Calm.trans ?_ (State.modTime_calm ..)
    exact hx1
  refine Ends.ite ?_ ?_
  · refine Ends.next ?_
    exact hx1
  · refine Ends.ite ?_ ?_
    · refine Ends.next ?_
      refine Calm.trans ?_ (State.timeSend_calm ..)
      exact hx4
    · refine Ends.next ?_
      refine Calm.trans ?_ (State.timeSend_calm ..)
      exact hx4

theorem execHoldoverEntry_calm (dt : Nat) (s : State) :
    Ends Calm s (execHoldoverEntry dt s) := by
  unfold execHoldoverEntry
  extract_lets +onlyGivenNames -merge -underBinder x1
  have hx1 : Calm s x1 := by
    unfold x1
    exact (State.elapse_calm ..)
  refine Ends.ite ?_ ?_
  · refine Ends.next ?_
    refine Calm.trans ?_ (State.flag_calm ..)
    refine Calm.trans ?_ (State.inc_calm ..)
    refine Calm.trans ?_ (State.modTime_calm ..)
    exact hx1
  · refine Ends.next ?_
    exact hx1

theorem State.mtLatch_calm (s : State) (frac : Nat) :
    Calm s (State.mtLatch s frac) := by
  unfold State.mtLatch
  exact (State.modTime_calm ..)

theorem execMtLoRead_calm (dt : Nat) (frac : BitVec 16) (s : State) :
    Ends Calm s (execMtLoRead dt frac s) := by
  unfold execMtLoRead
  extract_lets +onlyGivenNames -merge -underBinder x1
  have hx1 : Calm s x1 := by
    unfold x1
    exact (State.elapse_calm ..)
  refine Ends.ite ?_ ?_
  · refine Ends.next ?_
    refine Calm.trans ?_ (State.answerRead_calm ..)
    refine Calm.trans ?_ (State.mtLatch_calm ..)
    exact hx1
  · refine Ends.next ?_
    refine Calm.trans ?_ (State.answerRead_calm ..)
    exact hx1

end Sys2Proof.Machine
end

