-- ==== Sys2Proof/Laws/Irq.lean ====
section
/-! SUPPORT. What the operations of Machine/Irq.lean leave alone (Laws/Keeps.lean). -/

namespace Sys2Proof.Machine

open Sys2Proof

theorem State.assertSource_calm (s : State) (n : Nat) (level : Bool) :
    Calm s (State.assertSource s n level) := by
  unfold State.assertSource
  refine Calm.ite ?_ ?_
  · exact Calm.refl _
  · refine Calm.ite ?_ ?_
    · split
      · exact (State.pageLine_calm ..)
      · exact Calm.refl _
    · refine Calm.ite ?_ ?_
      · exact (State.levelSource_calm ..)
      · refine Calm.ite ?_ ?_
        · exact (State.edgeSource_calm ..)
        · exact Calm.refl _

theorem execIrqSourceAssert_calm (dt : Nat) (src : Fin 256) (level : Bool) (s : State) :
    Ends Calm s (execIrqSourceAssert dt src level s) := by
  unfold execIrqSourceAssert
  refine Ends.next ?_
  refine Calm.trans ?_ (State.assertSource_calm ..)
  exact (State.elapse_calm ..)

theorem execExtIrqPin_calm (dt : Nat) (i : Fin 8) (level : HeldLevel) (s : State) :
    Ends Calm s (execExtIrqPin dt i level s) := by
  unfold execExtIrqPin
  extract_lets +onlyGivenNames -merge -underBinder x1
  have hx1 : Calm s x1 := by
    unfold x1
    exact (State.elapse_calm ..)
  extract_lets +onlyGivenNames -merge -underBinder x2
  extract_lets +onlyGivenNames -merge -underBinder x3
  extract_lets +onlyGivenNames -merge -underBinder x4
  refine Ends.ite ?_ ?_
  · refine Ends.next ?_
    exact hx1
  · extract_lets +onlyGivenNames -merge -underBinder x5 x6
    have hx6 : Calm s x6 := by
      unfold x6
      refine Calm.upd ?_ rfl rfl rfl rfl rfl rfl rfl rfl
      exact hx1
    extract_lets +onlyGivenNames -merge -underBinder x7
    refine Ends.ite ?_ ?_
    · refine Ends.next ?_
      exact hx6
    · refine Ends.ite ?_ ?_
      · refine Ends.next ?_
        refine Calm.ite ?_ ?_
        · refine Calm.trans ?_ (State.edgeSource_calm ..)
          exact hx6
        · exact hx6
      · refine Ends.next ?_
        refine Calm.trans ?_ (State.levelSource_calm ..)
        exact hx6

theorem State.irqStarted_calm (s : State) :
    Calm s (State.irqStarted s) := by
  unfold State.irqStarted
  refine Calm.foldl ?_ (fun t1 a2 h3 => ?_)
  · exact Calm.refl _
  · extract_lets +onlyGivenNames -merge -underBinder x4
    refine Calm.trans ?_ (State.levelSource_calm ..)
    exact h3

theorem State.irqLatch_calm (s : State) (t : Nat) (n : Nat) :
    Calm s (State.irqLatch s t n) := by
  unfold State.irqLatch
  extract_lets +onlyGivenNames -merge -underBinder x1
  refine Calm.ite ?_ ?_
  · extract_lets +onlyGivenNames -merge -underBinder x2
    have hx2 : Calm s x2 := by
      unfold x2
      exact (State.setSrc_calm ..)
    refine Calm.ite ?_ ?_
    · exact hx2
    · refine Calm.trans ?_ (State.inc_calm ..)
      exact hx2
  · exact Calm.refl _

theorem State.msixSend_calm (s : State) (v : Nat) :
    Calm s (State.msixSend s v) := by
  unfold State.msixSend
  refine Calm.ite ?_ ?_
  · refine Calm.upd ?_ rfl rfl rfl rfl rfl rfl rfl rfl
    exact Calm.refl _
  · exact (State.send_calm ..)

theorem State.irqSignal_calm (s : State) (t : Nat) :
    Calm s (State.irqSignal s t) := by
  unfold State.irqSignal
  extract_lets +onlyGivenNames -merge -underBinder x1
  extract_lets +onlyGivenNames -merge -underBinder x2
  have hx2 : Calm s x2 := by
    unfold x2
    refine Calm.foldl ?_ (fun t3 a4 h5 => ?_)
    · exact Calm.refl _
    · refine Calm.trans ?_ (State.msixSend_calm ..)
      exact h5
  refine Calm.foldl ?_ (fun t6 a7 h8 => ?_)
  · exact hx2
  · refine Calm.trans ?_ (State.setSrc_calm ..)
    exact h8

theorem State.irqFire_calm (s : State) (t : Nat) :
    Calm s (State.irqFire s t) := by
  unfold State.irqFire
  extract_lets +onlyGivenNames -merge -underBinder x1 x2
  have hx2 : Calm s x2 := by
    unfold x2
    exact (State.setTgt_calm ..)
  refine Calm.trans ?_ (State.irqSignal_calm ..)
  refine Calm.foldl ?_ (fun t3 a4 h5 => ?_)
  · exact hx2
  · refine Calm.trans ?_ (State.irqLatch_calm ..)
    exact h5

theorem execTargetFire_calm (dt : Nat) (t : Fin 6) (s : State) :
    Ends Calm s (execTargetFire dt t s) := by
  unfold execTargetFire
  extract_lets +onlyGivenNames -merge -underBinder x1
  have hx1 : Calm s x1 := by
    unfold x1
    exact (State.elapse_calm ..)
  refine Ends.ite ?_ ?_
  · refine Ends.next ?_
    refine Calm.trans ?_ (State.irqFire_calm ..)
    exact hx1
  · refine Ends.next ?_
    exact hx1

theorem State.irqClaim_calm (s : State) (t : Nat) :
    Calm s (State.irqClaim s t).2 := by
  unfold State.irqClaim
  split
  · refine Calm.pair ?_
    exact Calm.refl _
  · split
    · refine Calm.pair ?_
      exact Calm.refl _
    · extract_lets +onlyGivenNames -merge -underBinder x1 x2
      have hx2 : Calm s x2 := by
        unfold x2
        exact (State.setSrc_calm ..)
      extract_lets +onlyGivenNames -merge -underBinder x3
      have hx3 : Calm s x3 := by
        unfold x3
        refine Calm.ite ?_ ?_
        · refine Calm.trans ?_ (State.inc_calm ..)
          exact hx2
        · exact hx2
      extract_lets +onlyGivenNames -merge -underBinder x4
      have hx4 : Calm s x4 := by
        unfold x4
        refine Calm.ite ?_ ?_
        · refine Calm.trans ?_ (State.flag_calm ..)
          refine Calm.trans ?_ (State.inc_calm ..)
          exact hx3
        · exact hx3
      refine Calm.pair ?_
      exact hx4

theorem execIrqClaim_calm (dt : Nat) (t : Fin 6) (s : State) :
    Ends Calm s (execIrqClaim dt t s) := by
  unfold execIrqClaim
  extract_lets +onlyGivenNames -merge -underBinder x1
  have hx1 : Calm s x1 := by
    unfold x1
    exact (State.elapse_calm ..)
  split
  rename_i y2 y3 e4
  have hy3 : Calm s y3 := by
    refine Calm.snd e4 ?_
    split
    · refine Calm.trans ?_ (State.irqClaim_calm ..)
      exact hx1
    · refine Calm.pair ?_
      exact hx1
  refine Ends.next ?_
  refine Calm.trans ?_ (State.answerRead_calm ..)
  exact hy3

theorem State.irqComplete_calm (s : State) (t : Nat) (w : Word) :
    Calm s (State.irqComplete s t w) := by
  unfold State.irqComplete
  extract_lets +onlyGivenNames -merge -underBinder x1
  extract_lets +onlyGivenNames -merge -underBinder x2
  refine Calm.ite ?_ ?_
  · extract_lets +onlyGivenNames -merge -underBinder x3
    extract_lets +onlyGivenNames -merge -underBinder x4
    have hx4 : Calm s x4 := by
      unfold x4
      exact (State.setSrc_calm ..)
    extract_lets +onlyGivenNames -merge -underBinder x5
    have hx5 : Calm s x5 := by
      unfold x5
      refine Calm.ite ?_ ?_
      · refine Calm.trans ?_ (State.irqEvent_calm ..)
        exact hx4
      · exact hx4
    refine Calm.ite ?_ ?_
    · refine Calm.trans ?_ (State.flag_calm ..)
      refine Calm.trans ?_ (State.inc_calm ..)
      exact hx5
    · exact hx5
  · refine Calm.trans ?_ (State.flag_calm ..)
    exact (State.inc_calm ..)

theorem execIrqComplete_calm (dt : Nat) (t : Fin 6) (value : Word) (s : State) :
    Ends Calm s (execIrqComplete dt t value s) := by
  unfold execIrqComplete
  refine Ends.next ?_
  refine Calm.hostDo ?_ (fun t1 h2 => ?_)
  · exact (State.elapse_calm ..)
  · refine Calm.trans ?_ (State.irqComplete_calm ..)
    exact h2

theorem State.irqPark_calm (s : State) (t : Nat) (w : Word) :
    Calm s (State.irqPark s t w) := by
  unfold State.irqPark
  extract_lets +onlyGivenNames -merge -underBinder x1
  extract_lets +onlyGivenNames -merge -underBinder x2
  have hx2 : Calm s x2 := by
    unfold x2
    exact (State.wr_calm ..)
  refine Calm.ite ?_ ?_
  · exact hx2
  · refine Calm.foldl ?_ (fun t3 a4 h5 => ?_)
    · exact hx2
    · refine Calm.trans ?_ (State.irqEvent_calm ..)
      exact h5

theorem execIrqPark_calm (dt : Nat) (t : Fin 6) (value : Word) (s : State) :
    Ends Calm s (execIrqPark dt t value s) := by
  unfold execIrqPark
  refine Ends.next ?_
  refine Calm.hostDo ?_ (fun t1 h2 => ?_)
  · exact (State.elapse_calm ..)
  · refine Calm.trans ?_ (State.irqPark_calm ..)
    exact h2

theorem State.irqConfig_calm (s : State) (n : Nat) (w : Word) :
    Calm s (State.irqConfig s n w) := by
  unfold State.irqConfig
  extract_lets +onlyGivenNames -merge -underBinder x1
  extract_lets +onlyGivenNames -merge -underBinder x2
  have hx2 : Calm s x2 := by
    unfold x2
    exact (State.wr_calm ..)
  extract_lets +onlyGivenNames -merge -underBinder x3
  refine Calm.ite ?_ ?_
  · refine Calm.trans ?_ (State.irqEvent_calm ..)
    exact hx2
  · exact hx2

theorem execIrqSourceConfig_calm (dt : Nat) (src : Fin 256) (value : Word) (s : State) :
    Ends Calm s (execIrqSourceConfig dt src value s) := by
  unfold execIrqSourceConfig
  refine Ends.next ?_
  refine Calm.hostDo ?_ (fun t1 h2 => ?_)
  · exact (State.elapse_calm ..)
  · refine Calm.trans ?_ (State.irqConfig_calm ..)
    exact h2

end Sys2Proof.Machine
end

