-- ==== Sys2Proof/Laws/Thermal.lean ====
section
/-! SUPPORT. What the operations of Machine/Thermal.lean leave alone (Laws/Keeps.lean). -/

namespace Sys2Proof.Machine

open Sys2Proof

theorem State.judgeDiode_calm (s : State) (diodes : List Int) (d : Nat) :
    Calm s (State.judgeDiode s diodes d) := by
  unfold State.judgeDiode
  extract_lets +onlyGivenNames -merge -underBinder x1
  extract_lets +onlyGivenNames -merge -underBinder x2
  extract_lets +onlyGivenNames -merge -underBinder x3
  extract_lets +onlyGivenNames -merge -underBinder x4
  split
  · exact Calm.refl _
  · extract_lets +onlyGivenNames -merge -underBinder x5
    extract_lets +onlyGivenNames -merge -underBinder x6
    extract_lets +onlyGivenNames -merge -underBinder x7 x8
    have hx8 : Calm s x8 := by
      unfold x8
      refine Calm.upd ?_ rfl rfl rfl rfl rfl rfl rfl rfl
      exact Calm.refl _
    refine Calm.ite ?_ ?_
    · extract_lets +onlyGivenNames -merge -underBinder x9
      have hx9 : Calm s x9 := by
        unfold x9
        refine Calm.trans ?_ (State.wrb_calm ..)
        exact hx8
      extract_lets +onlyGivenNames -merge -underBinder x10
      have hx10 : Calm s x10 := by
        unfold x10
        refine Calm.trans ?_ (State.inc_calm ..)
        refine Calm.trans ?_ (State.flag_calm ..)
        exact hx9
      refine Calm.trans ?_ (State.record_calm ..)
      exact hx10
    · exact hx8

theorem State.setLevel_steady (s : State) (n : Nat) :
    Steady s (State.setLevel s n) := by
  unfold State.setLevel
  extract_lets +onlyGivenNames -merge -underBinder x1
  extract_lets +onlyGivenNames -merge -underBinder x2 x3
  have hx3 : Steady s x3 := by
    unfold x3
    refine Steady.upd ?_ rfl rfl rfl rfl rfl rfl rfl rfl
    exact Steady.refl _
  extract_lets +onlyGivenNames -merge -underBinder x4
  have hx4 : Steady s x4 := by
    unfold x4
    refine Steady.ite ?_ ?_
    · refine Steady.trans ?_ (State.flag_calm ..).steady
      refine Steady.trans ?_ (State.inc_calm ..).steady
      exact hx3
    · exact hx3
  extract_lets +onlyGivenNames -merge -underBinder x5
  have hx5 : Steady s x5 := by
    unfold x5
    refine Steady.ite ?_ ?_
    · refine Steady.trans ?_ (State.flag_calm ..).steady
      refine Steady.trans ?_ (State.inc_calm ..).steady
      exact hx4
    · exact hx4
  extract_lets +onlyGivenNames -merge -underBinder x6
  have hx6 : Steady s x6 := by
    unfold x6
    refine Steady.trans ?_ (State.setSource_steady ..)
    exact hx5
  refine Steady.ite ?_ ?_
  · refine Steady.trans ?_ (State.outEntry_steady ..)
    exact hx6
  · exact hx6

theorem execDieModelUpdate_steady (dt : Nat) (nodes : List Int) (diodes : List Int) (s : State) :
    Ends Steady s (execDieModelUpdate dt nodes diodes s) := by
  unfold execDieModelUpdate
  extract_lets +onlyGivenNames -merge -underBinder x1
  have hx1 : Steady s x1 := by
    unfold x1
    exact (State.elapse_calm ..).steady
  refine Ends.ite ?_ ?_
  · refine Ends.next ?_
    exact hx1
  · extract_lets +onlyGivenNames -merge -underBinder x2 x3
    have hx3 : Steady s x3 := by
      unfold x3
      refine Steady.upd ?_ rfl rfl rfl rfl rfl rfl rfl rfl
      exact hx1
    extract_lets +onlyGivenNames -merge -underBinder x4
    have hx4 : Steady s x4 := by
      unfold x4
      refine Steady.foldl ?_ (fun t5 a6 h7 => ?_)
      · exact hx3
      · refine Steady.trans ?_ (State.judgeDiode_calm ..).steady
        exact h7
    extract_lets +onlyGivenNames -merge -underBinder x8
    extract_lets +onlyGivenNames -merge -underBinder x9
    have hx9 : Steady s x9 := by
      unfold x9
      refine Steady.ite ?_ ?_
      · refine Steady.trans ?_ (State.flag_calm ..).steady
        exact hx4
      · exact hx4
    extract_lets +onlyGivenNames -merge -underBinder x10
    extract_lets +onlyGivenNames -merge -underBinder x11 x12
    have hx12 : Steady s x12 := by
      unfold x12
      refine Steady.upd ?_ rfl rfl rfl rfl rfl rfl rfl rfl
      exact hx9
    extract_lets +onlyGivenNames -merge -underBinder x13
    have hx13 : Steady s x13 := by
      unfold x13
      refine Steady.trans ?_ (State.setLevel_steady ..)
      exact hx12
    extract_lets +onlyGivenNames -merge -underBinder x14
    extract_lets +onlyGivenNames -merge -underBinder x15
    have hx15 : Steady s x15 := by
      unfold x15
      refine Steady.trans ?_ (State.wrn_calm ..).steady
      exact hx13
    extract_lets +onlyGivenNames -merge -underBinder x16
    have hx16 : Steady s x16 := by
      unfold x16
      refine Steady.trans ?_ (State.wrn_calm ..).steady
      exact hx15
    extract_lets +onlyGivenNames -merge -underBinder x17
    have hx17 : Steady s x17 := by
      unfold x17
      refine Steady.foldl ?_ (fun t18 a19 h20 => ?_)
      · exact hx16
      · refine Steady.trans ?_ (State.wrn_calm ..).steady
        exact h20
    refine Ends.next ?_
    refine Steady.trans ?_ (State.trialOut_steady ..)
    exact hx17

theorem State.nselLatch_calm (s : State) (w : Nat) :
    Calm s (State.nselLatch s w) := by
  unfold State.nselLatch
  refine Calm.trans ?_ (State.wrn_calm ..)
  exact (State.wrn_calm ..)

theorem execNselLatch_calm (dt : Nat) (node : Fin 64) (s : State) :
    Ends Calm s (execNselLatch dt node s) := by
  unfold execNselLatch
  refine Ends.next ?_
  refine Calm.hostDo ?_ (fun t1 h2 => ?_)
  · exact (State.elapse_calm ..)
  · refine Calm.trans ?_ (State.nselLatch_calm ..)
    exact h2

theorem execPowerSample_calm (dt : Nat) (domains : List Nat) (total : Nat) (mean1s : Nat) (vaon : Nat) (vin12 : Nat)
    (s : State) :
    Ends Calm s (execPowerSample dt domains total mean1s vaon vin12 s) := by
  unfold execPowerSample
  extract_lets +onlyGivenNames -merge -underBinder x1
  have hx1 : Calm s x1 := by
    unfold x1
    exact (State.elapse_calm ..)
  refine Ends.ite ?_ ?_
  · refine Ends.next ?_
    exact hx1
  · extract_lets +onlyGivenNames -merge -underBinder x2
    extract_lets +onlyGivenNames -merge -underBinder x3
    have hx3 : Calm s x3 := by
      unfold x3
      refine Calm.foldl ?_ (fun t4 a5 h6 => ?_)
      · exact hx1
      · refine Calm.trans ?_ (State.wrn_calm ..)
        exact h6
    extract_lets +onlyGivenNames -merge -underBinder x7
    have hx7 : Calm s x7 := by
      unfold x7
      refine Calm.trans ?_ (State.wrn_calm ..)
      refine Calm.trans ?_ (State.wrn_calm ..)
      exact hx3
    extract_lets +onlyGivenNames -merge -underBinder x8
    have hx8 : Calm s x8 := by
      unfold x8
      refine Calm.trans ?_ (State.wrn_calm ..)
      exact hx7
    extract_lets +onlyGivenNames -merge -underBinder x9
    have hx9 : Calm s x9 := by
      unfold x9
      refine Calm.trans ?_ (State.wrn_calm ..)
      exact hx8
    extract_lets +onlyGivenNames -merge -underBinder x10
    extract_lets +onlyGivenNames -merge -underBinder x11
    have hx11 : Calm s x11 := by
      unfold x11
      refine Calm.upd ?_ rfl rfl rfl rfl rfl rfl rfl rfl
      exact hx9
    refine Ends.ite ?_ ?_
    · refine Ends.next ?_
      refine Calm.trans ?_ (State.flag_calm ..)
      refine Calm.trans ?_ (State.inc_calm ..)
      exact hx11
    · refine Ends.next ?_
      exact hx11

theorem execDiodeOverLimit_keeps (dt : Nat) (diode : Fin 16) (reading : Int) (s : State) :
    Ends Keeps s (execDiodeOverLimit dt diode reading s) := by
  unfold execDiodeOverLimit
  extract_lets +onlyGivenNames -merge -underBinder x1
  have hx1 : Keeps s x1 := by
    unfold x1
    exact (State.elapse_calm ..).keeps
  refine Ends.ite ?_ ?_
  · refine Ends.next ?_
    exact hx1
  · extract_lets +onlyGivenNames -merge -underBinder x2
    extract_lets +onlyGivenNames -merge -underBinder x3
    have hx3 : Keeps s x3 := by
      unfold x3
      refine Keeps.trans ?_ (State.forceSafe_keeps ..)
      refine Keeps.trans ?_ (State.bookRole_calm ..).keeps
      exact hx1
    extract_lets +onlyGivenNames -merge -underBinder x4
    extract_lets +onlyGivenNames -merge -underBinder x5
    extract_lets +onlyGivenNames -merge -underBinder x6
    refine Ends.next ?_
    refine Keeps.upd ?_ rfl rfl rfl rfl
    exact hx3

theorem execDiodeOverLimit_steady (dt : Nat) (diode : Fin 16) (reading : Int) (s : State) :
    Ends Steady s (execDiodeOverLimit dt diode reading s) := by
  unfold execDiodeOverLimit
  extract_lets +onlyGivenNames a
  have ha : Steady s a := (State.elapse_calm ..).steady
  clear_value a
  split
  · exact Ends.next ha
  · extract_lets +onlyGivenNames prior b payload r m
    have kb : Keeps a b := (State.bookRole_calm ..).keeps.trans (State.forceSafe_keeps _)
    have hb : b.outputsSafe := State.forceSafe_safe _
    clear_value b
    refine Ends.next (ha.trans ⟨kb.trans (Keeps.upd (Keeps.refl b) rfl rfl rfl rfl), fun _ => OutInv.safe ?_⟩)
    exact ⟨hb.1, hb.2.1, hb.2.2⟩

end Sys2Proof.Machine
end

