-- ==== Sys2Proof/Laws/Blocks.lean ====
section
/-! SUPPORT. What the operations of Machine/Blocks.lean leave alone (Laws/Keeps.lean). -/

namespace Sys2Proof.Machine

open Sys2Proof

theorem State.estStartShow_calm (s : State) :
    Calm s (State.estStartShow s) := by
  unfold State.estStartShow
  extract_lets +onlyGivenNames -merge -underBinder x1
  extract_lets +onlyGivenNames -merge -underBinder x2
  extract_lets +onlyGivenNames -merge -underBinder x3
  have hx3 : Calm s x3 := by
    unfold x3
    exact (State.wrn_calm ..)
  extract_lets +onlyGivenNames -merge -underBinder x4
  have hx4 : Calm s x4 := by
    unfold x4
    refine Calm.ite ?_ ?_
    · exact hx3
    · refine Calm.trans ?_ (State.flag_calm ..)
      exact hx3
  refine Calm.foldl ?_ (fun t5 a6 h7 => ?_)
  · exact hx4
  · refine Calm.ite ?_ ?_
    · exact h7
    · extract_lets +onlyGivenNames -merge -underBinder x8
      extract_lets +onlyGivenNames -merge -underBinder x9
      refine Calm.trans ?_ (State.wrn_calm ..)
      refine Calm.trans ?_ (State.wrn_calm ..)
      exact h7

theorem State.snsEnabling_calm (s : State) (n : Fin 16) :
    Calm s (State.snsEnabling s n) := by
  unfold State.snsEnabling
  extract_lets +onlyGivenNames -merge -underBinder x1
  extract_lets +onlyGivenNames -merge -underBinder x2
  extract_lets +onlyGivenNames -merge -underBinder x3
  have hx3 : Calm s x3 := by
    unfold x3
    exact (State.setSring_calm ..)
  extract_lets +onlyGivenNames -merge -underBinder x4
  have hx4 : Calm s x4 := by
    unfold x4
    refine Calm.foldl ?_ (fun t5 a6 h7 => ?_)
    · exact hx3
    · refine Calm.trans ?_ (State.wrn_calm ..)
      exact h7
  refine Calm.trans ?_ (State.wrn_calm ..)
  exact hx4

theorem State.snsStarted_steady (s : State) (n : Fin 16) :
    Steady s (State.snsStarted s n) := by
  unfold State.snsStarted
  extract_lets +onlyGivenNames -merge -underBinder x1
  have hx1 : Steady s x1 := by
    unfold x1
    exact (State.setRingMode_calm ..).steady
  extract_lets +onlyGivenNames -merge -underBinder x2
  have hx2 : Steady s x2 := by
    unfold x2
    refine Steady.foldl ?_ (fun t3 a4 h5 => ?_)
    · exact hx1
    · refine Steady.trans ?_ (State.setFe_calm ..).steady
      exact h5
  refine Steady.trans ?_ (State.setSource_steady ..)
  exact hx2

theorem State.snsStopped_steady (s : State) (n : Fin 16) :
    Steady s (State.snsStopped s n) := by
  unfold State.snsStopped
  extract_lets +onlyGivenNames -merge -underBinder x1
  have hx1 : Steady s x1 := by
    unfold x1
    refine Steady.foldl ?_ (fun t2 a3 h4 => ?_)
    · exact Steady.refl _
    · refine Steady.trans ?_ (State.setFe_calm ..).steady
      exact h4
  refine Steady.trans ?_ (State.setSource_steady ..)
  refine Steady.trans ?_ (State.alertSource_steady ..)
  refine Steady.trans ?_ (State.wrn_calm ..).steady
  exact hx1

theorem State.modStarted_steady (s : State) :
    Steady s (State.modStarted s) := by
  unfold State.modStarted
  extract_lets +onlyGivenNames -merge -underBinder x1
  extract_lets +onlyGivenNames -merge -underBinder x2 x3
  have hx3 : Steady s x3 := by
    unfold x3
    refine Steady.upd ?_ rfl rfl rfl rfl rfl rfl rfl rfl
    exact Steady.refl _
  refine Steady.trans ?_ (State.invalidShow_steady ..)
  refine Steady.trans ?_ (State.restartComparators_steady ..)
  refine Steady.trans ?_ (State.showDelays_calm ..).steady
  refine Steady.trans ?_ (State.wrn_calm ..).steady
  exact hx3

theorem State.modStopped_steady (s : State) :
    Steady s (State.modStopped s) := by
  unfold State.modStopped
  extract_lets +onlyGivenNames -merge -underBinder x1 x2
  have hx2 : Steady s x2 := by
    unfold x2
    refine Steady.upd ?_ rfl rfl rfl rfl rfl rfl rfl rfl
    exact Steady.refl _
  refine Steady.trans ?_ (State.invalidShow_steady ..)
  refine Steady.trans ?_ (State.wrn_calm ..).steady
  exact hx2

theorem State.epochUp_calm (s : State) :
    Calm s (State.epochUp s) := by
  unfold State.epochUp
  extract_lets +onlyGivenNames -merge -underBinder x1
  refine Calm.trans ?_ (State.wrn_calm ..)
  exact (State.jrnPut_calm ..)

theorem State.estStarted_calm (s : State) :
    Calm s (State.estStarted s) := by
  unfold State.estStarted
  extract_lets +onlyGivenNames -merge -underBinder x1 x2
  have hx2 : Calm s x2 := by
    unfold x2
    refine Calm.upd ?_ rfl rfl rfl rfl rfl rfl rfl rfl
    exact Calm.refl _
  extract_lets +onlyGivenNames -merge -underBinder x3
  have hx3 : Calm s x3 := by
    unfold x3
    refine Calm.foldl ?_ (fun t4 a5 h6 => ?_)
    · exact hx2
    · refine Calm.trans ?_ (State.wrn_calm ..)
      exact h6
  refine Calm.trans ?_ (State.modWay_calm ..)
  refine Calm.trans ?_ (State.epochUp_calm ..)
  refine Calm.trans ?_ (State.placeAll_calm ..)
  exact hx3

theorem State.tdmStarted_calm (s : State) :
    Calm s (State.tdmStarted s) := by
  unfold State.tdmStarted
  refine Calm.trans ?_ (State.setTdm_calm ..)
  exact (State.serviceAll_calm ..)

theorem State.tdmStopped_calm (s : State) :
    Calm s (State.tdmStopped s) := by
  unfold State.tdmStopped
  exact (State.setTdm_calm ..)

theorem State.witStarted_calm (s : State) :
    Calm s (State.witStarted s) := by
  unfold State.witStarted
  refine Calm.upd ?_ rfl rfl rfl rfl rfl rfl rfl rfl
  exact Calm.refl _

theorem State.ringsFresh_calm (s : State) :
    Calm s (State.ringsFresh s) := by
  unfold State.ringsFresh
  extract_lets +onlyGivenNames -merge -underBinder x1
  extract_lets +onlyGivenNames -merge -underBinder x2
  extract_lets +onlyGivenNames -merge -underBinder x3
  have hx3 : Calm s x3 := by
    unfold x3
    refine Calm.upd ?_ rfl rfl rfl rfl rfl rfl rfl rfl
    exact Calm.refl _
  extract_lets +onlyGivenNames -merge -underBinder x4
  have hx4 : Calm s x4 := by
    unfold x4
    refine Calm.foldl ?_ (fun t5 a6 h7 => ?_)
    · exact hx3
    · refine Calm.trans ?_ (State.wrn_calm ..)
      refine Calm.trans ?_ (State.wrn_calm ..)
      exact h7
  refine Calm.foldl ?_ (fun t8 a9 h10 => ?_)
  · exact hx4
  · refine Calm.trans ?_ (State.wrn_calm ..)
    refine Calm.trans ?_ (State.wrn_calm ..)
    exact h10

theorem State.pageStarting_calm (s : State) (a1 : Page) :
    Calm s (State.pageStarting s a1) := by
  unfold State.pageStarting
  split
  · exact (State.safeEnabling_calm ..)
  · exact (State.snsEnabling_calm ..)
  · exact Calm.refl _

theorem State.sptStarted_calm (s : State) :
    Calm s (State.sptStarted s) := by
  unfold State.sptStarted
  refine Calm.upd ?_ rfl rfl rfl rfl rfl rfl rfl rfl
  exact Calm.refl _

theorem State.blockStarted_steady (s : State) (a1 : Page) :
    Steady s (State.blockStarted s a1) := by
  unfold State.blockStarted
  split
  · exact (State.snsStarted_steady ..)
  · exact (State.modStarted_steady ..)
  · exact (State.estStarted_calm ..).steady
  · exact (State.restartComparators_steady ..)
  · exact (State.tdmStarted_calm ..).steady
  · exact (State.witStarted_calm ..).steady
  · exact (State.ringsFresh_calm ..).steady
  · exact (State.irqStarted_calm ..).steady
  · refine Steady.upd ?_ rfl rfl rfl rfl rfl rfl rfl rfl
    exact Steady.refl _
  · refine Steady.upd ?_ rfl rfl rfl rfl rfl rfl rfl rfl
    exact Steady.refl _
  · exact (State.safeStarted_steady ..)
  · exact (State.wayStarted_calm ..).steady
  · exact (State.sbxStarted_calm ..).steady
  · exact (State.slayReset_steady ..)
  · exact (State.sptStarted_calm ..).steady
  · exact (State.timeStarted_calm ..).steady
  · exact (State.loopStart_calm ..).steady
  · exact (State.canStarted_calm ..).steady
  · exact Steady.refl _

theorem State.blockLeft_steady (s : State) (a1 : Page) :
    Steady s (State.blockLeft s a1) := by
  unfold State.blockLeft
  split
  · exact (State.snsStopped_steady ..)
  · exact (State.modStopped_steady ..)
  · exact (State.crossCompare_steady ..)
  · exact (State.tdmStopped_calm ..).steady
  · exact (State.abandonUpload_calm ..).steady
  · exact (State.safeStopped_steady ..)
  · exact (State.wayStopped_calm ..).steady
  · exact (State.sbxStopped_calm ..).steady
  · exact (State.slayReset_steady ..)
  · exact (State.ethStopped_calm ..).steady
  · exact Steady.refl _

theorem State.bootEnds_keeps (s : State) (m : Mode) :
    Keeps s (State.bootEnds s m) := by
  unfold State.bootEnds
  refine Keeps.ite ?_ ?_
  · exact Keeps.refl _
  · extract_lets +onlyGivenNames -merge -underBinder x1
    extract_lets +onlyGivenNames -merge -underBinder x2 x3
    have hx3 : Keeps s x3 := by
      unfold x3
      refine Keeps.trans ?_ (State.modFw_calm ..).keeps
      exact (State.putSlot_calm ..).keeps
    extract_lets +onlyGivenNames -merge -underBinder x4 x5
    have hx5 : Keeps s x5 := by
      unfold x5
      refine Keeps.upd ?_ rfl rfl rfl rfl
      exact hx3
    refine Keeps.trans ?_ (State.modeChanged_steady ..).keeps
    refine Keeps.trans ?_ (State.takeMode_keeps ..)
    exact hx5

theorem State.bootEnds_steady (s : State) (m : Mode) (h : m.serves = true) : Steady s (s.bootEnds m) := by
  refine ⟨s.bootEnds_keeps m, fun i => ?_⟩
  unfold State.bootEnds
  split
  · exact i
  · rename_i k
    have e : s.sys.mode = .boot := by simpa [State.mode] using k
    extract_lets +onlyGivenNames j u a
    have d : a.sys.driveEn = true → a.sys.dropAt.isSome = true :=
      ((State.putSlot_calm s j _).trans (State.modFw_calm ..)).low (i.low (by rw [e]; decide))
    clear_value a
    exact (State.modeChanged_steady _).inv (State.takeMode_serving m h d)

theorem State.tryReady_keeps (s : State) :
    Keeps s (State.tryReady s) := by
  unfold State.tryReady
  extract_lets +onlyGivenNames -merge -underBinder x1
  refine Keeps.ite ?_ ?_
  · extract_lets +onlyGivenNames -merge -underBinder x2 x3
    have hx3 : Keeps s x3 := by
      unfold x3
      refine Keeps.upd ?_ rfl rfl rfl rfl
      exact Keeps.refl _
    refine Keeps.trans ?_ (State.modeChanged_steady ..).keeps
    refine Keeps.trans ?_ (State.takeMode_keeps ..)
    exact hx3
  · exact Keeps.refl _

theorem State.tryReady_steady (s : State) : Steady s s.tryReady := by
  refine ⟨s.tryReady_keeps, fun i => ?_⟩
  unfold State.tryReady
  extract_lets +onlyGivenNames sig
  split
  · rename_i h
    simp only [Bool.and_eq_true, decide_eq_true_eq] at h
    have m : s.sys.mode = .unconfigured := h.1.1.1
    extract_lets +onlyGivenNames -merge -underBinder w a
    refine (State.modeChanged_steady _).inv (State.takeMode_serving _ rfl ?_)
    exact i.low (by rw [m]; decide)
  · exact i

theorem State.enableCheck_calm (s : State) (p : Page) :
    Calm s (State.enableCheck s p) := by
  unfold State.enableCheck
  extract_lets +onlyGivenNames -merge -underBinder x1
  extract_lets +onlyGivenNames -merge -underBinder x2
  have hx2 : Calm s x2 := by
    unfold x2
    exact (State.wrn_calm ..)
  extract_lets +onlyGivenNames -merge -underBinder x3
  refine Calm.ite ?_ ?_
  · refine Calm.trans ?_ (State.flag_calm ..)
    exact hx2
  · refine Calm.ite ?_ ?_
    · refine Calm.trans ?_ (State.flag_calm ..)
      exact hx2
    · refine Calm.trans ?_ (State.pageStarting_calm ..)
      refine Calm.trans ?_ (State.setPage_calm ..)
      exact hx2

theorem State.disabling_steady (s : State) (p : Page) :
    Steady s (State.disabling s p) := by
  unfold State.disabling
  extract_lets +onlyGivenNames -merge -underBinder x1
  extract_lets +onlyGivenNames -merge -underBinder x2
  have hx2 : Steady s x2 := by
    unfold x2
    exact (State.setPage_calm ..).steady
  refine Steady.ite ?_ ?_
  · refine Steady.trans ?_ (State.protEval_steady ..)
    refine Steady.trans ?_ (State.blockLeft_steady ..)
    exact hx2
  · exact hx2

theorem State.ctrlWrite_steady (s : State) (p : Page) (v : Word) :
    Steady s (State.ctrlWrite s p v) := by
  unfold State.ctrlWrite
  extract_lets +onlyGivenNames -merge -underBinder x1
  extract_lets +onlyGivenNames -merge -underBinder x2
  have hx2 : Steady s x2 := by
    unfold x2
    exact (State.wr_calm ..).steady
  refine Steady.ite ?_ ?_
  · refine Steady.ite ?_ ?_
    · refine Steady.trans ?_ (State.enableCheck_calm ..).steady
      exact hx2
    · exact hx2
  · extract_lets +onlyGivenNames -merge -underBinder x3
    have hx3 : Steady s x3 := by
      unfold x3
      refine Steady.ite ?_ ?_
      · exact hx2
      · refine Steady.trans ?_ (State.disarm_calm ..).steady
        exact hx2
    refine Steady.ite ?_ ?_
    · refine Steady.trans ?_ (State.disabling_steady ..)
      exact hx3
    · exact hx3

theorem State.pageRuns_steady (s : State) (p : Page) :
    Steady s (State.pageRuns s p) := by
  unfold State.pageRuns
  refine Steady.trans ?_ (State.tryReady_steady ..)
  refine Steady.trans ?_ (State.protEval_steady ..)
  refine Steady.trans ?_ (State.savePage_calm ..).steady
  refine Steady.trans ?_ (State.blockStarted_steady ..)
  exact (State.setPage_calm ..).steady

theorem State.startEnds_steady (s : State) (p : Page) :
    Steady s (State.startEnds s p) := by
  unfold State.startEnds
  refine Steady.ite ?_ ?_
  · exact Steady.refl _
  · extract_lets +onlyGivenNames -merge -underBinder x1
    have hx1 : Steady s x1 := by
      unfold x1
      refine Steady.ite ?_ ?_
      · exact (State.estStartShow_calm ..).steady
      · exact Steady.refl _
    extract_lets +onlyGivenNames -merge -underBinder x2
    have hx2 : Steady s x2 := by
      unfold x2
      refine Steady.ite ?_ ?_
      · refine Steady.trans ?_ (State.pageRuns_steady ..)
        exact hx1
      · refine Steady.trans ?_ (State.protEval_steady ..)
        refine Steady.trans ?_ (State.pageFault_calm ..).steady
        exact hx1
    refine Steady.ite ?_ ?_
    · exact hx2
    · refine Steady.trans ?_ (State.disabling_steady ..)
      exact hx2

theorem State.blockStops_calm (s : State) (p : Page) :
    Calm s (State.blockStops s p) := by
  unfold State.blockStops
  extract_lets +onlyGivenNames -merge -underBinder x1
  refine Calm.ite ?_ ?_
  · exact Calm.refl _
  · extract_lets +onlyGivenNames -merge -underBinder x2
    have hx2 : Calm s x2 := by
      unfold x2
      split
      · exact (State.canStopped_calm ..)
      · exact Calm.refl _
    extract_lets +onlyGivenNames -merge -underBinder x3
    have hx3 : Calm s x3 := by
      unfold x3
      refine Calm.trans ?_ (State.setPage_calm ..)
      exact hx2
    refine Calm.ite ?_ ?_
    · refine Calm.trans ?_ (State.enableCheck_calm ..)
      exact hx3
    · exact hx3

theorem State.blockFaults_steady (s : State) (p : Page) :
    Steady s (State.blockFaults s p) := by
  unfold State.blockFaults
  refine Steady.ite ?_ ?_
  · refine Steady.trans ?_ (State.protEval_steady ..)
    refine Steady.trans ?_ (State.blockLeft_steady ..)
    exact (State.pageFault_calm ..).steady
  · exact Steady.refl _

theorem execPageEnable_steady (dt : Nat) (page : Page) (value : Word) (s : State) :
    Ends Steady s (execPageEnable dt page value s) := by
  unfold execPageEnable
  extract_lets +onlyGivenNames -merge -underBinder x1
  have hx1 : Steady s x1 := by
    unfold x1
    exact (State.elapse_calm ..).steady
  refine Ends.ite ?_ ?_
  · refine Ends.next ?_
    refine Steady.trans ?_ (State.ctrlWrite_steady ..)
    exact hx1
  · refine Ends.next ?_
    exact hx1

theorem execPageDisable_steady (dt : Nat) (page : Page) (value : Word) (s : State) :
    Ends Steady s (execPageDisable dt page value s) := by
  unfold execPageDisable
  extract_lets +onlyGivenNames -merge -underBinder x1
  have hx1 : Steady s x1 := by
    unfold x1
    exact (State.elapse_calm ..).steady
  refine Ends.ite ?_ ?_
  · refine Ends.next ?_
    refine Steady.trans ?_ (State.ctrlWrite_steady ..)
    exact hx1
  · refine Ends.next ?_
    exact hx1

theorem execBlockStartDone_steady (dt : Nat) (page : Page) (s : State) :
    Ends Steady s (execBlockStartDone dt page s) := by
  unfold execBlockStartDone
  extract_lets +onlyGivenNames -merge -underBinder x1
  have hx1 : Steady s x1 := by
    unfold x1
    exact (State.elapse_calm ..).steady
  refine Ends.ite ?_ ?_
  · refine Ends.next ?_
    refine Steady.trans ?_ (State.startEnds_steady ..)
    exact hx1
  · refine Ends.next ?_
    exact hx1

theorem execBlockStopped_calm (dt : Nat) (page : Page) (s : State) :
    Ends Calm s (execBlockStopped dt page s) := by
  unfold execBlockStopped
  extract_lets +onlyGivenNames -merge -underBinder x1
  have hx1 : Calm s x1 := by
    unfold x1
    exact (State.elapse_calm ..)
  refine Ends.ite ?_ ?_
  · refine Ends.next ?_
    refine Calm.trans ?_ (State.blockStops_calm ..)
    exact hx1
  · refine Ends.next ?_
    exact hx1

theorem execBlockFault_steady (dt : Nat) (page : Page) (s : State) :
    Ends Steady s (execBlockFault dt page s) := by
  unfold execBlockFault
  extract_lets +onlyGivenNames -merge -underBinder x1
  have hx1 : Steady s x1 := by
    unfold x1
    exact (State.elapse_calm ..).steady
  refine Ends.ite ?_ ?_
  · refine Ends.next ?_
    refine Steady.trans ?_ (State.blockFaults_steady ..)
    exact hx1
  · refine Ends.next ?_
    exact hx1

end Sys2Proof.Machine
end

