-- ==== Sys2Proof/Laws/Dispatch.lean ====
section
/-! SUPPORT. What `exec` calls for each command. -/

namespace Sys2Proof.Machine

open Sys2Proof

theorem exec_powerOn (s : State) :
    exec (.powerOn) s = execPowerOn s := rfl

theorem exec_supplyOutOfRange (dt : Nat) (vaon : Bool) (s : State) :
    exec (.supplyOutOfRange dt vaon) s = execSupplyOutOfRange dt vaon s := rfl

theorem exec_supplyHoldOffExpiry (s : State) :
    exec (.supplyHoldOffExpiry) s = execSupplyHoldOffExpiry s := rfl

theorem exec_resetNLow (dt : Nat) (s : State) :
    exec (.resetNLow dt) s = execResetNLow dt s := rfl

theorem exec_resetNRelease (strapB : Bool) (s : State) :
    exec (.resetNRelease strapB) s = execResetNRelease strapB s := rfl

theorem exec_bootPhaseDone (dt : Nat) (r : BootReport) (s : State) :
    exec (.bootPhaseDone dt r) s = execBootPhaseDone dt r s := rfl

theorem exec_bootTimeout (dt : Nat) (s : State) :
    exec (.bootTimeout dt) s = execBootTimeout dt s := rfl

theorem exec_sysRst (dt : Nat) (key : Byte) (s : State) :
    exec (.sysRst dt key) s = execSysRst dt key s := rfl

theorem exec_outRestart (dt : Nat) (s : State) :
    exec (.outRestart dt) s = execOutRestart dt s := rfl

theorem exec_lockstepMismatch (dt : Nat) (island : Bool) (s : State) :
    exec (.lockstepMismatch dt island) s = execLockstepMismatch dt island s := rfl

theorem exec_uncorrectableEccError (dt : Nat) (m : EccPlace) (s : State) :
    exec (.uncorrectableEccError dt m) s = execUncorrectableEccError dt m s := rfl

theorem exec_watchdogExpiry (dt : Nat) (s : State) :
    exec (.watchdogExpiry dt) s = execWatchdogExpiry dt s := rfl

theorem exec_outputLoopbackFailure (dt : Nat) (pad : OutStage) (confirmed : Bool) (s : State) :
    exec (.outputLoopbackFailure dt pad confirmed) s = execOutputLoopbackFailure dt pad confirmed s := rfl

theorem exec_clockMonitorFault (dt : Nat) (s : State) :
    exec (.clockMonitorFault dt) s = execClockMonitorFault dt s := rfl

theorem exec_vioBankFault (dt : Nat) (bank : Fin 4) (s : State) :
    exec (.vioBankFault dt bank) s = execVioBankFault dt bank s := rfl

theorem exec_aon32Loss (dt : Nat) (s : State) :
    exec (.aon32Loss dt) s = execAon32Loss dt s := rfl

theorem exec_diodeOverLimit (dt : Nat) (diode : Fin 16) (reading : Int) (s : State) :
    exec (.diodeOverLimit dt diode reading) s = execDiodeOverLimit dt diode reading s := rfl

theorem exec_thermalCoolExpiry (dt : Nat) (s : State) :
    exec (.thermalCoolExpiry dt) s = execThermalCoolExpiry dt s := rfl

theorem exec_pfwFall (dt : Nat) (s : State) :
    exec (.pfwFall dt) s = execPfwFall dt s := rfl

theorem exec_pfwRise (dt : Nat) (s : State) :
    exec (.pfwRise dt) s = execPfwRise dt s := rfl

theorem exec_roleFormation (dt : Nat) (s : State) :
    exec (.roleFormation dt) s = execRoleFormation dt s := rfl

theorem exec_formationWaitExpiry (dt : Nat) (s : State) :
    exec (.formationWaitExpiry dt) s = execFormationWaitExpiry dt s := rfl

theorem exec_formationJoinRetry (dt : Nat) (s : State) :
    exec (.formationJoinRetry dt) s = execFormationJoinRetry dt s := rfl

theorem exec_contactorRelease (dt : Nat) (path : CmdPath) (h : CmdHead) (groups : BitVec 4) (s : State) :
    exec (.contactorRelease dt path h groups) s = execContactorRelease dt path h groups s := rfl

theorem exec_dispatchEnable (dt : Nat) (path : CmdPath) (h : CmdHead) (enable : Bool) (s : State) :
    exec (.dispatchEnable dt path h enable) s = execDispatchEnable dt path h enable s := rfl

theorem exec_limitWrite (dt : Nat) (path : CmdPath) (h : CmdHead) (change : LimitChange) (newCrc : Word) (s : State) :
    exec (.limitWrite dt path h change newCrc) s = execLimitWrite dt path h change newCrc s := rfl

theorem exec_roleAssign (dt : Nat) (path : CmdPath) (h : CmdHead) (role : Byte) (s : State) :
    exec (.roleAssign dt path h role) s = execRoleAssign dt path h role s := rfl

theorem exec_plannedRelay (dt : Nat) (path : CmdPath) (h : CmdHead) (s : State) :
    exec (.plannedRelay dt path h) s = execPlannedRelay dt path h s := rfl

theorem exec_strongboxClear (dt : Nat) (path : CmdPath) (h : CmdHead) (x : Word) (s : State) :
    exec (.strongboxClear dt path h x) s = execStrongboxClear dt path h x s := rfl

theorem exec_fwActivate (dt : Nat) (path : CmdPath) (h : CmdHead) (slot : Byte) (activateAt : BitVec 64) (s : State) :
    exec (.fwActivate dt path h slot activateAt) s = execFwActivate dt path h slot activateAt s := rfl

theorem exec_keyLoad (dt : Nat) (path : CmdPath) (h : CmdHead) (target : Byte) (perm : BitVec 16) (wrapped : List Byte) (s : State) :
    exec (.keyLoad dt path h target perm wrapped) s = execKeyLoad dt path h target perm wrapped s := rfl

theorem exec_configSignatureCommit (dt : Nat) (path : CmdPath) (h : CmdHead) (sig : Word) (s : State) :
    exec (.configSignatureCommit dt path h sig) s = execConfigSignatureCommit dt path h sig s := rfl

theorem exec_calibrationCycle (dt : Nat) (path : CmdPath) (h : CmdHead) (hours : BitVec 16) (s : State) :
    exec (.calibrationCycle dt path h hours) s = execCalibrationCycle dt path h hours s := rfl

theorem exec_eventInputEffect (s : State) :
    exec (.eventInputEffect) s = execEventInputEffect s := rfl

theorem exec_completionRecordRelease (dt : Nat) (s : State) :
    exec (.completionRecordRelease dt) s = execCompletionRecordRelease dt s := rfl

theorem exec_pageEnable (dt : Nat) (page : Page) (value : Word) (s : State) :
    exec (.pageEnable dt page value) s = execPageEnable dt page value s := rfl

theorem exec_blockStartDone (dt : Nat) (page : Page) (s : State) :
    exec (.blockStartDone dt page) s = execBlockStartDone dt page s := rfl

theorem exec_pageDisable (dt : Nat) (page : Page) (value : Word) (s : State) :
    exec (.pageDisable dt page value) s = execPageDisable dt page value s := rfl

theorem exec_blockStopped (dt : Nat) (page : Page) (s : State) :
    exec (.blockStopped dt page) s = execBlockStopped dt page s := rfl

theorem exec_blockFault (dt : Nat) (page : Page) (s : State) :
    exec (.blockFault dt page) s = execBlockFault dt page s := rfl

theorem exec_configWrite (dt : Nat) (page : Page) (off : Nat) (value : Word) (s : State) :
    exec (.configWrite dt page off value) s = execConfigWrite dt page off value s := rfl

theorem exec_flagsClear (dt : Nat) (page : Page) (off : Nat) (mask : Word) (s : State) :
    exec (.flagsClear dt page off mask) s = execFlagsClear dt page off mask s := rfl

theorem exec_registerWrite (dt : Nat) (page : Page) (off : Nat) (value : Word) (s : State) :
    exec (.registerWrite dt page off value) s = execRegisterWrite dt page off value s := rfl

theorem exec_scrubPass (dt : Nat) (s : State) :
    exec (.scrubPass dt) s = execScrubPass dt s := rfl

theorem exec_barAccessRejected (dt : Nat) (bar2 : Bool) (off : Nat) (write : Bool) (s : State) :
    exec (.barAccessRejected dt bar2 off write) s = execBarAccessRejected dt bar2 off write s := rfl

theorem exec_linkReset (dt : Nat) (s : State) :
    exec (.linkReset dt) s = execLinkReset dt s := rfl

theorem exec_spiWriteFrame (dt : Nat) (bytes : List Byte) (s : State) :
    exec (.spiWriteFrame dt bytes) s = execSpiWriteFrame dt bytes s := rfl

theorem exec_spiReadFrame (dt : Nat) (bytes : List Byte) (s : State) :
    exec (.spiReadFrame dt bytes) s = execSpiReadFrame dt bytes s := rfl

theorem exec_ringDoorbell (dt : Nat) (ring : Fin 128) (hidx : Word) (descs : List (Option Desc)) (s : State) :
    exec (.ringDoorbell dt ring hidx descs) s = execRingDoorbell dt ring hidx descs s := rfl

theorem exec_ringRestart (dt : Nat) (ring : Fin 128) (s : State) :
    exec (.ringRestart dt ring) s = execRingRestart dt ring s := rfl

theorem exec_ringDrainTimeout (dt : Nat) (ring : Fin 128) (s : State) :
    exec (.ringDrainTimeout dt ring) s = execRingDrainTimeout dt ring s := rfl

theorem exec_tickBoundary (x : TickInputs) (s : State) :
    exec (.tickBoundary x) s = execTickBoundary x s := rfl

theorem exec_inputDeadline (s : State) :
    exec (.inputDeadline) s = execInputDeadline s := rfl

theorem exec_stageBoundary (s : State) :
    exec (.stageBoundary) s = execStageBoundary s := rfl

theorem exec_stageStepRun (dt : Nat) (x : LaneObservations) (s : State) :
    exec (.stageStepRun dt x) s = execStageStepRun dt x s := rfl

theorem exec_bistDone (dt : Nat) (lane : Fin 32) (ownerFails : Bool) (checkerFails : Bool) (third : ThirdResult) (s : State) :
    exec (.bistDone dt lane ownerFails checkerFails third) s = execBistDone dt lane ownerFails checkerFails third s := rfl

theorem exec_stepPublished (dt : Nat) (s : State) :
    exec (.stepPublished dt) s = execStepPublished dt s := rfl

theorem exec_forecastBoundary (s : State) :
    exec (.forecastBoundary) s = execForecastBoundary s := rfl

theorem exec_forecastPublished (dt : Nat) (s : State) :
    exec (.forecastPublished dt) s = execForecastPublished dt s := rfl

theorem exec_calibrationDeadline (dt : Nat) (s : State) :
    exec (.calibrationDeadline dt) s = execCalibrationDeadline dt s := rfl

theorem exec_journalWriteStart (dt : Nat) (s : State) :
    exec (.journalWriteStart dt) s = execJournalWriteStart dt s := rfl

theorem exec_journalWriteDone (dt : Nat) (s : State) :
    exec (.journalWriteDone dt) s = execJournalWriteDone dt s := rfl

theorem exec_parameterSetWrite (dt : Nat) (off : Nat) (bytes : List Byte) (s : State) :
    exec (.parameterSetWrite dt off bytes) s = execParameterSetWrite dt off bytes s := rfl

theorem exec_parameterSetScrub (dt : Nat) (s : State) :
    exec (.parameterSetScrub dt) s = execParameterSetScrub dt s := rfl

theorem exec_limitTableWrite (dt : Nat) (off : Nat) (bytes : List Byte) (s : State) :
    exec (.limitTableWrite dt off bytes) s = execLimitTableWrite dt off bytes s := rfl

theorem exec_commandCoachReceived (dt : Nat) (ring : Fin 16) (lineOk : Bool) (bytes : List Byte) (s : State) :
    exec (.commandCoachReceived dt ring lineOk bytes) s = execCommandCoachReceived dt ring lineOk bytes s := rfl

theorem exec_dataCoachReceived (dt : Nat) (ring : Fin 16) (lineOk : Bool) (bytes : List Byte) (s : State) :
    exec (.dataCoachReceived dt ring lineOk bytes) s = execDataCoachReceived dt ring lineOk bytes s := rfl

theorem exec_alertCoachReceived (dt : Nat) (ring : Fin 16) (lineOk : Bool) (bytes : List Byte) (s : State) :
    exec (.alertCoachReceived dt ring lineOk bytes) s = execAlertCoachReceived dt ring lineOk bytes s := rfl

theorem exec_repeatCoachSend (dt : Nat) (ring : Fin 16) (s : State) :
    exec (.repeatCoachSend dt ring) s = execRepeatCoachSend dt ring s := rfl

theorem exec_farWaitExpiry (dt : Nat) (ring : Fin 16) (s : State) :
    exec (.farWaitExpiry dt ring) s = execFarWaitExpiry dt ring s := rfl

theorem exec_symbolLockLoss (dt : Nat) (ring : Fin 16) (s : State) :
    exec (.symbolLockLoss dt ring) s = execSymbolLockLoss dt ring s := rfl

theorem exec_frontEndLost (dt : Nat) (ring : Fin 16) (pos : Fin 4) (s : State) :
    exec (.frontEndLost dt ring pos) s = execFrontEndLost dt ring pos s := rfl

theorem exec_enumerationWaitExpiry (dt : Nat) (ring : Fin 16) (s : State) :
    exec (.enumerationWaitExpiry dt ring) s = execEnumerationWaitExpiry dt ring s := rfl

theorem exec_challengeDue (dt : Nat) (ring : Fin 16) (pos : Fin 4) (s : State) :
    exec (.challengeDue dt ring pos) s = execChallengeDue dt ring pos s := rfl

theorem exec_challengeRetry (dt : Nat) (ring : Fin 16) (pos : Fin 4) (s : State) :
    exec (.challengeRetry dt ring pos) s = execChallengeRetry dt ring pos s := rfl

theorem exec_challengeAll (dt : Nat) (ring : Fin 16) (s : State) :
    exec (.challengeAll dt ring) s = execChallengeAll dt ring s := rfl

theorem exec_reenum (dt : Nat) (ring : Fin 16) (s : State) :
    exec (.reenum dt ring) s = execReenum dt ring s := rfl

theorem exec_relayedCompartment (dt : Nat) (f : TandemHead) (bytes : List Byte) (s : State) :
    exec (.relayedCompartment dt f bytes) s = execRelayedCompartment dt f bytes s := rfl

theorem exec_verdict (dt : Nat) (f : TandemHead) (bytes : List Byte) (s : State) :
    exec (.verdict dt f bytes) s = execVerdict dt f bytes s := rfl

theorem exec_mckselChange (dt : Nat) (toB : Bool) (unsampled0 : Nat) (unsampled1 : Nat) (s : State) :
    exec (.mckselChange dt toB unsampled0 unsampled1) s = execMckselChange dt toB unsampled0 unsampled1 s := rfl

theorem exec_clockLoss (dt : Nat) (group : Fin 2) (unsampled : Nat) (s : State) :
    exec (.clockLoss dt group unsampled) s = execClockLoss dt group unsampled s := rfl

theorem exec_stuckRun (dt : Nat) (input : Fin 12) (s : State) :
    exec (.stuckRun dt input) s = execStuckRun dt input s := rfl

theorem exec_indexLock (dt : Nat) (f : TandemHead) (bytes : List Byte) (own : BitVec 68) (s : State) :
    exec (.indexLock dt f bytes own) s = execIndexLock dt f bytes own s := rfl

theorem exec_stagePathSample (dt : Nat) (input : Fin 12) (w : BitWindow) (s : State) :
    exec (.stagePathSample dt input w) s = execStagePathSample dt input w s := rfl

theorem exec_fastFilterOutput (dt : Nat) (input : Fin 12) (ones : Nat) (sampled : Nat) (s : State) :
    exec (.fastFilterOutput dt input ones sampled) s = execFastFilterOutput dt input ones sampled s := rfl

theorem exec_tripRelease (dt : Nat) (groups : BitVec 4) (s : State) :
    exec (.tripRelease dt groups) s = execTripRelease dt groups s := rfl

theorem exec_manSet (dt : Nat) (s : State) :
    exec (.manSet dt) s = execManSet dt s := rfl

theorem exec_manClr (dt : Nat) (s : State) :
    exec (.manClr dt) s = execManClr dt s := rfl

theorem exec_controlSample (dt : Nat) (slot : Fin 8) (x : ControlInputs) (s : State) :
    exec (.controlSample dt slot x) s = execControlSample dt slot x s := rfl

theorem exec_pwmUpdatePoint (dt : Nat) (pair : Fin 8) (centre : Bool) (s : State) :
    exec (.pwmUpdatePoint dt pair centre) s = execPwmUpdatePoint dt pair centre s := rfl

theorem exec_loopStateDigest (s : State) :
    exec (.loopStateDigest) s = execLoopStateDigest s := rfl

theorem exec_spHostWrite (dt : Nat) (slot : Fin 8) (value : Word) (s : State) :
    exec (.spHostWrite dt slot value) s = execSpHostWrite dt slot value s := rfl

theorem exec_measWrite (dt : Nat) (slot : Fin 8) (value : Word) (s : State) :
    exec (.measWrite dt slot value) s = execMeasWrite dt slot value s := rfl

theorem exec_dutyWrite (dt : Nat) (pair : Fin 8) (value : Word) (s : State) :
    exec (.dutyWrite dt pair value) s = execDutyWrite dt pair value s := rfl

theorem exec_dispSpWrite (dt : Nat) (value : Word) (s : State) :
    exec (.dispSpWrite dt value) s = execDispSpWrite dt value s := rfl

theorem exec_tcoolWrite (dt : Nat) (zone : Fin 4) (value : Word) (s : State) :
    exec (.tcoolWrite dt zone value) s = execTcoolWrite dt zone value s := rfl

theorem exec_zoneStale (dt : Nat) (zone : Fin 4) (s : State) :
    exec (.zoneStale dt zone) s = execZoneStale dt zone s := rfl

theorem exec_spinPeriod (dt : Nat) (k : Fin 4) (high : Nat) (period : Nat) (s : State) :
    exec (.spinPeriod dt k high period) s = execSpinPeriod dt k high period s := rfl

theorem exec_spinLosTimeout (dt : Nat) (k : Fin 4) (s : State) :
    exec (.spinLosTimeout dt k) s = execSpinLosTimeout dt k s := rfl

theorem exec_setPointStreamFrame (dt : Nat) (k : Fin 8) (bytes : List Byte) (s : State) :
    exec (.setPointStreamFrame dt k bytes) s = execSetPointStreamFrame dt k bytes s := rfl

theorem exec_streamTimeout (dt : Nat) (k : Fin 8) (s : State) :
    exec (.streamTimeout dt k) s = execStreamTimeout dt k s := rfl

theorem exec_impedancePublished (dt : Nat) (s : State) :
    exec (.impedancePublished dt) s = execImpedancePublished dt s := rfl

theorem exec_unblock (dt : Nat) (ch : Fin 512) (s : State) :
    exec (.unblock dt ch) s = execUnblock dt ch s := rfl

theorem exec_unblockAll (dt : Nat) (s : State) :
    exec (.unblockAll dt) s = execUnblockAll dt s := rfl

theorem exec_zselLatch (dt : Nat) (ch : Fin 512) (s : State) :
    exec (.zselLatch dt ch) s = execZselLatch dt ch s := rfl

theorem exec_sensorRestore (dt : Nat) (ch : Fin 512) (s0 : Bool) (s1 : Bool) (s : State) :
    exec (.sensorRestore dt ch s0 s1) s = execSensorRestore dt ch s0 s1 s := rfl

theorem exec_mselLatch (dt : Nat) (ch : Fin 512) (s : State) :
    exec (.mselLatch dt ch) s = execMselLatch dt ch s := rfl

theorem exec_testWindowClose (dt : Nat) (tpo : Fin 8) (x : WindowReads) (s : State) :
    exec (.testWindowClose dt tpo x) s = execTestWindowClose dt tpo x s := rfl

theorem exec_stuckReset (dt : Nat) (s : State) :
    exec (.stuckReset dt) s = execStuckReset dt s := rfl

theorem exec_stuckResetEnd (dt : Nat) (s : State) :
    exec (.stuckResetEnd dt) s = execStuckResetEnd dt s := rfl

theorem exec_espitonData (dt : Nat) (src : EspSource) (bytes : List Byte) (s : State) :
    exec (.espitonData dt src bytes) s = execEspitonData dt src bytes s := rfl

theorem exec_espitonEcho (dt : Nat) (src : EspSource) (bytes : List Byte) (s : State) :
    exec (.espitonEcho dt src bytes) s = execEspitonEcho dt src bytes s := rfl

theorem exec_espitonPeriod (dt : Nat) (conn : Fin 8) (s : State) :
    exec (.espitonPeriod dt conn) s = execEspitonPeriod dt conn s := rfl

theorem exec_heartbeatSend (dt : Nat) (s : State) :
    exec (.heartbeatSend dt) s = execHeartbeatSend dt s := rfl

theorem exec_heartbeat (dt : Nat) (f : TandemHead) (bytes : List Byte) (s : State) :
    exec (.heartbeat dt f bytes) s = execHeartbeat dt f bytes s := rfl

theorem exec_peerSilent (dt : Nat) (s : State) :
    exec (.peerSilent dt) s = execPeerSilent dt s := rfl

theorem exec_linkDown (dt : Nat) (lane : Fin 2) (s : State) :
    exec (.linkDown dt lane) s = execLinkDown dt lane s := rfl

theorem exec_linkUp (dt : Nat) (lane : Fin 2) (s : State) :
    exec (.linkUp dt lane) s = execLinkUp dt lane s := rfl

theorem exec_interlockAgreement (dt : Nat) (s : State) :
    exec (.interlockAgreement dt) s = execInterlockAgreement dt s := rfl

theorem exec_peerDriveEnHigh (dt : Nat) (s : State) :
    exec (.peerDriveEnHigh dt) s = execPeerDriveEnHigh dt s := rfl

theorem exec_driveEnRaise (x : DriveRise) (s : State) :
    exec (.driveEnRaise x) s = execDriveEnRaise x s := rfl

theorem exec_mirror (dt : Nat) (f : TandemHead) (bytes : List Byte) (s : State) :
    exec (.mirror dt f bytes) s = execMirror dt f bytes s := rfl

theorem exec_mirrorGap (dt : Nat) (s : State) :
    exec (.mirrorGap dt) s = execMirrorGap dt s := rfl

theorem exec_stageDigest (dt : Nat) (f : TandemHead) (bytes : List Byte) (s : State) :
    exec (.stageDigest dt f bytes) s = execStageDigest dt f bytes s := rfl

theorem exec_loopDigest (dt : Nat) (f : TandemHead) (bytes : List Byte) (s : State) :
    exec (.loopDigest dt f bytes) s = execLoopDigest dt f bytes s := rfl

theorem exec_repairReq (dt : Nat) (f : TandemHead) (bytes : List Byte) (s : State) :
    exec (.repairReq dt f bytes) s = execRepairReq dt f bytes s := rfl

theorem exec_repairData (dt : Nat) (f : TandemHead) (bytes : List Byte) (s : State) :
    exec (.repairData dt f bytes) s = execRepairData dt f bytes s := rfl

theorem exec_repairAll (dt : Nat) (s : State) :
    exec (.repairAll dt) s = execRepairAll dt s := rfl

theorem exec_healthSend (dt : Nat) (s : State) :
    exec (.healthSend dt) s = execHealthSend dt s := rfl

theorem exec_healthNow (dt : Nat) (s : State) :
    exec (.healthNow dt) s = execHealthNow dt s := rfl

theorem exec_health (dt : Nat) (f : TandemHead) (bytes : List Byte) (s : State) :
    exec (.health dt f bytes) s = execHealth dt f bytes s := rfl

theorem exec_healthStale (dt : Nat) (s : State) :
    exec (.healthStale dt) s = execHealthStale dt s := rfl

theorem exec_abdicate (dt : Nat) (f : TandemHead) (bytes : List Byte) (s : State) :
    exec (.abdicate dt f bytes) s = execAbdicate dt f bytes s := rfl

theorem exec_tandemService (dt : Nat) (f : TandemHead) (bytes : List Byte) (s : State) :
    exec (.tandemService dt f bytes) s = execTandemService dt f bytes s := rfl

theorem exec_relaySwitch (dt : Nat) (s : State) :
    exec (.relaySwitch dt) s = execRelaySwitch dt s := rfl

theorem exec_renewTimer (dt : Nat) (s : State) :
    exec (.renewTimer dt) s = execRenewTimer dt s := rfl

theorem exec_probeTimer (dt : Nat) (s : State) :
    exec (.probeTimer dt) s = execProbeTimer dt s := rfl

theorem exec_witnessProbe (dt : Nat) (bytes : List Byte) (src : NetSource) (s : State) :
    exec (.witnessProbe dt bytes src) s = execWitnessProbe dt bytes src s := rfl

theorem exec_witnessRenew (dt : Nat) (bytes : List Byte) (src : NetSource) (s : State) :
    exec (.witnessRenew dt bytes src) s = execWitnessRenew dt bytes src s := rfl

theorem exec_witnessAcquire (dt : Nat) (bytes : List Byte) (src : NetSource) (s : State) :
    exec (.witnessAcquire dt bytes src) s = execWitnessAcquire dt bytes src s := rfl

theorem exec_witnessYield (dt : Nat) (bytes : List Byte) (src : NetSource) (s : State) :
    exec (.witnessYield dt bytes src) s = execWitnessYield dt bytes src s := rfl

theorem exec_witnessQuietEnd (dt : Nat) (s : State) :
    exec (.witnessQuietEnd dt) s = execWitnessQuietEnd dt s := rfl

theorem exec_leaseGranted (dt : Nat) (bytes : List Byte) (s : State) :
    exec (.leaseGranted dt bytes) s = execLeaseGranted dt bytes s := rfl

theorem exec_leaseRefused (dt : Nat) (bytes : List Byte) (s : State) :
    exec (.leaseRefused dt bytes) s = execLeaseRefused dt bytes s := rfl

theorem exec_witnessState (dt : Nat) (bytes : List Byte) (s : State) :
    exec (.witnessState dt bytes) s = execWitnessState dt bytes s := rfl

theorem exec_backoffExpiry (dt : Nat) (s : State) :
    exec (.backoffExpiry dt) s = execBackoffExpiry dt s := rfl

theorem exec_leaseViewExpiry (dt : Nat) (s : State) :
    exec (.leaseViewExpiry dt) s = execLeaseViewExpiry dt s := rfl

theorem exec_witnessLost (dt : Nat) (s : State) :
    exec (.witnessLost dt) s = execWitnessLost dt s := rfl

theorem exec_witnessReturn (dt : Nat) (entry : Fin 4) (s : State) :
    exec (.witnessReturn dt entry) s = execWitnessReturn dt entry s := rfl

theorem exec_stageFrameWrite (dt : Nat) (s : State) :
    exec (.stageFrameWrite dt) s = execStageFrameWrite dt s := rfl

theorem exec_wayFreeze (dt : Nat) (s : State) :
    exec (.wayFreeze dt) s = execWayFreeze dt s := rfl

theorem exec_releaseSegment (dt : Nat) (s : State) :
    exec (.releaseSegment dt) s = execReleaseSegment dt s := rfl

theorem exec_exportSegment (dt : Nat) (s : State) :
    exec (.exportSegment dt) s = execExportSegment dt s := rfl

theorem exec_abortSegment (dt : Nat) (s : State) :
    exec (.abortSegment dt) s = execAbortSegment dt s := rfl

theorem exec_exportChunk (dt : Nat) (s : State) :
    exec (.exportChunk dt) s = execExportChunk dt s := rfl

theorem exec_autoExportStart (dt : Nat) (s : State) :
    exec (.autoExportStart dt) s = execAutoExportStart dt s := rfl

theorem exec_burstCaptureStop (dt : Nat) (s : State) :
    exec (.burstCaptureStop dt) s = execBurstCaptureStop dt s := rfl

theorem exec_burstCopyDone (dt : Nat) (s : State) :
    exec (.burstCopyDone dt) s = execBurstCopyDone dt s := rfl

theorem exec_strongboxWriteStart (dt : Nat) (s : State) :
    exec (.strongboxWriteStart dt) s = execStrongboxWriteStart dt s := rfl

theorem exec_strongboxWriteDone (dt : Nat) (s : State) :
    exec (.strongboxWriteDone dt) s = execStrongboxWriteDone dt s := rfl

theorem exec_tokenRefill (dt : Nat) (s : State) :
    exec (.tokenRefill dt) s = execTokenRefill dt s := rfl

theorem exec_cursorSeek (dt : Nat) (s : State) :
    exec (.cursorSeek dt) s = execCursorSeek dt s := rfl

theorem exec_cursorNext (dt : Nat) (s : State) :
    exec (.cursorNext dt) s = execCursorNext dt s := rfl

theorem exec_cursorDone (dt : Nat) (s : State) :
    exec (.cursorDone dt) s = execCursorDone dt s := rfl

theorem exec_strongboxExportChunk (dt : Nat) (s : State) :
    exec (.strongboxExportChunk dt) s = execStrongboxExportChunk dt s := rfl

theorem exec_strongboxExportFlush (dt : Nat) (s : State) :
    exec (.strongboxExportFlush dt) s = execStrongboxExportFlush dt s := rfl

theorem exec_canTransmitAttempt (dt : Nat) (c : Fin 4) (s : State) :
    exec (.canTransmitAttempt dt c) s = execCanTransmitAttempt dt c s := rfl

theorem exec_canAttemptEnd (dt : Nat) (c : Fin 4) (outcome : CanOutcome) (tec : Byte) (s : State) :
    exec (.canAttemptEnd dt c outcome tec) s = execCanAttemptEnd dt c outcome tec s := rfl

theorem exec_canFrameReceived (dt : Nat) (c : Fin 4) (x : CanRx) (s : State) :
    exec (.canFrameReceived dt c x) s = execCanFrameReceived dt c x s := rfl

theorem exec_busOffRecovery (dt : Nat) (c : Fin 4) (s : State) :
    exec (.busOffRecovery dt c) s = execBusOffRecovery dt c s := rfl

theorem exec_canCancel (dt : Nat) (c : Fin 4) (fifo : Fin 8) (s : State) :
    exec (.canCancel dt c fifo) s = execCanCancel dt c fifo s := rfl

theorem exec_canCancelAll (dt : Nat) (c : Fin 4) (fifo : Fin 8) (s : State) :
    exec (.canCancelAll dt c fifo) s = execCanCancelAll dt c fifo s := rfl

theorem exec_canRecover (dt : Nat) (c : Fin 4) (s : State) :
    exec (.canRecover dt c) s = execCanRecover dt c s := rfl

theorem exec_rxrel (dt : Nat) (c : Fin 4) (q : Fin 4) (s : State) :
    exec (.rxrel dt c q) s = execRxrel dt c q s := rfl

theorem exec_rxwRead (dt : Nat) (c : Fin 4) (word : Fin 256) (s : State) :
    exec (.rxwRead dt c word) s = execRxwRead dt c word s := rfl

theorem exec_fltw1Commit (dt : Nat) (c : Fin 4) (value : Word) (s : State) :
    exec (.fltw1Commit dt c value) s = execFltw1Commit dt c value s := rfl

theorem exec_witnessResend (dt : Nat) (c : Fin 4) (s : State) :
    exec (.witnessResend dt c) s = execWitnessResend dt c s := rfl

theorem exec_ethTransmit (dt : Nat) (p : Fin 4) (frac : BitVec 16) (s : State) :
    exec (.ethTransmit dt p frac) s = execEthTransmit dt p frac s := rfl

theorem exec_ethFrameReceived (dt : Nat) (p : Fin 4) (f : EthFrame) (frac : BitVec 16) (s : State) :
    exec (.ethFrameReceived dt p f frac) s = execEthFrameReceived dt p f frac s := rfl

theorem exec_arpRequest (dt : Nat) (p : Fin 4) (addr : AskedAddr) (who : BitVec 48) (whoIp : BitVec 128) (s : State) :
    exec (.arpRequest dt p addr who whoIp) s = execArpRequest dt p addr who whoIp s := rfl

theorem exec_pairAnnounce (dt : Nat) (s : State) :
    exec (.pairAnnounce dt) s = execPairAnnounce dt s := rfl

theorem exec_prpSupervision (dt : Nat) (p : Fin 4) (s : State) :
    exec (.prpSupervision dt p) s = execPrpSupervision dt p s := rfl

theorem exec_ethLinkChange (dt : Nat) (p : Fin 4) (up : Bool) (rate : Fin 4) (s : State) :
    exec (.ethLinkChange dt p up rate) s = execEthLinkChange dt p up rate s := rfl

theorem exec_timeSync (dt : Nat) (p : Fin 4) (t1 : Int) (t2 : Int) (correction : Int) (s : State) :
    exec (.timeSync dt p t1 t2 correction) s = execTimeSync dt p t1 t2 correction s := rfl

theorem exec_ptpAnnounce (dt : Nat) (p : Fin 4) (a : PtpAnnounce) (s : State) :
    exec (.ptpAnnounce dt p a) s = execPtpAnnounce dt p a s := rfl

theorem exec_delayResp (dt : Nat) (p : Fin 4) (t1 : Int) (t2 : Int) (t3 : Int) (t4 : Int) (s : State) :
    exec (.delayResp dt p t1 t2 t3 t4) s = execDelayResp dt p t1 t2 t3 t4 s := rfl

theorem exec_delayReq (dt : Nat) (p : Fin 4) (peer : Bool) (rx : Int) (s : State) :
    exec (.delayReq dt p peer rx) s = execDelayReq dt p peer rx s := rfl

theorem exec_timeTransmitPeriod (dt : Nat) (p : Fin 4) (announce : Bool) (s : State) :
    exec (.timeTransmitPeriod dt p announce) s = execTimeTransmitPeriod dt p announce s := rfl

theorem exec_holdoverEntry (dt : Nat) (s : State) :
    exec (.holdoverEntry dt) s = execHoldoverEntry dt s := rfl

theorem exec_irqSourceAssert (dt : Nat) (src : Fin 256) (level : Bool) (s : State) :
    exec (.irqSourceAssert dt src level) s = execIrqSourceAssert dt src level s := rfl

theorem exec_extIrqPin (dt : Nat) (pin : Fin 8) (level : HeldLevel) (s : State) :
    exec (.extIrqPin dt pin level) s = execExtIrqPin dt pin level s := rfl

theorem exec_targetFire (dt : Nat) (t : Fin 6) (s : State) :
    exec (.targetFire dt t) s = execTargetFire dt t s := rfl

theorem exec_irqClaim (dt : Nat) (t : Fin 6) (s : State) :
    exec (.irqClaim dt t) s = execIrqClaim dt t s := rfl

theorem exec_irqComplete (dt : Nat) (t : Fin 6) (value : Word) (s : State) :
    exec (.irqComplete dt t value) s = execIrqComplete dt t value s := rfl

theorem exec_irqPark (dt : Nat) (t : Fin 6) (value : Word) (s : State) :
    exec (.irqPark dt t value) s = execIrqPark dt t value s := rfl

theorem exec_irqSourceConfig (dt : Nat) (src : Fin 256) (value : Word) (s : State) :
    exec (.irqSourceConfig dt src value) s = execIrqSourceConfig dt src value s := rfl

theorem exec_openUpload (dt : Nat) (slot : Bool) (s : State) :
    exec (.openUpload dt slot) s = execOpenUpload dt slot s := rfl

theorem exec_closeUpload (dt : Nat) (s : State) :
    exec (.closeUpload dt) s = execCloseUpload dt s := rfl

theorem exec_abortUpload (dt : Nat) (s : State) :
    exec (.abortUpload dt) s = execAbortUpload dt s := rfl

theorem exec_bootRetry (dt : Nat) (slot : Bool) (s : State) :
    exec (.bootRetry dt slot) s = execBootRetry dt slot s := rfl

theorem exec_firmwareChunk (dt : Nat) (ring : Fin 4) (s : State) :
    exec (.firmwareChunk dt ring) s = execFirmwareChunk dt ring s := rfl

theorem exec_windowChunk (dt : Nat) (len : BitVec 11) (s : State) :
    exec (.windowChunk dt len) s = execWindowChunk dt len s := rfl

theorem exec_activationReboot (dt : Nat) (s : State) :
    exec (.activationReboot dt) s = execActivationReboot dt s := rfl

theorem exec_activationCancel (dt : Nat) (s : State) :
    exec (.activationCancel dt) s = execActivationCancel dt s := rfl

theorem exec_trialEnd (dt : Nat) (s : State) :
    exec (.trialEnd dt) s = execTrialEnd dt s := rfl

theorem exec_svCommit (dt : Nat) (s : State) :
    exec (.svCommit dt) s = execSvCommit dt s := rfl

theorem exec_dieModelUpdate (dt : Nat) (nodes : List Int) (diodes : List Int) (s : State) :
    exec (.dieModelUpdate dt nodes diodes) s = execDieModelUpdate dt nodes diodes s := rfl

theorem exec_powerSample (dt : Nat) (domains : List Nat) (total : Nat) (mean1s : Nat) (vaon : Nat) (vin12 : Nat) (s : State) :
    exec (.powerSample dt domains total mean1s vaon vin12) s = execPowerSample dt domains total mean1s vaon vin12 s := rfl

theorem exec_nselLatch (dt : Nat) (node : Fin 64) (s : State) :
    exec (.nselLatch dt node) s = execNselLatch dt node s := rfl

theorem exec_mtLoRead (dt : Nat) (frac : BitVec 16) (s : State) :
    exec (.mtLoRead dt frac) s = execMtLoRead dt frac s := rfl

theorem exec_networkSessionStateMirror (dt : Nat) (s : State) :
    exec (.networkSessionStateMirror dt) s = execNetworkSessionStateMirror dt s := rfl

theorem exec_delayRequestSend (dt : Nat) (s : State) :
    exec (.delayRequestSend dt) s = execDelayRequestSend dt s := rfl

theorem exec_canBusIntegration (dt : Nat) (c : Fin 4) (s : State) :
    exec (.canBusIntegration dt c) s = execCanBusIntegration dt c s := rfl

theorem exec_peerAliveLow (dt : Nat) (driveEnLow : Bool) (s : State) :
    exec (.peerAliveLow dt driveEnLow) s = execPeerAliveLow dt driveEnLow s := rfl

theorem exec_joinTimeout (dt : Nat) (s : State) :
    exec (.joinTimeout dt) s = execJoinTimeout dt s := rfl

theorem exec_activationDue (dt : Nat) (s : State) :
    exec (.activationDue dt) s = execActivationDue dt s := rfl

theorem exec_malformedCommandMessage (dt : Nat) (path : CmdPath) (bytes : List Byte) (s : State) :
    exec (.malformedCommandMessage dt path bytes) s = execMalformedCommandMessage dt path bytes s := rfl

end Sys2Proof.Machine
end

