-- ==== Sys2Proof/Laws/Within.lean ====
section
/-! SUPPORT. `Within K ps r s`: what the state `s` may differ from `r` in: the parts whose bit is set in the mask `K`, and
the registers of the pages `ps`. How such relations compose, and how they give the frames of Machine/Footprint.lean. -/

namespace Sys2Proof.Machine

open Sys2Proof

/-- Each part whose bit is clear in `K` is as it was. -/
structure Within (K : Nat) (ps : List Page) (r s : State) : Prop where
  mode : K.testBit 0 = false → s.sys.mode = r.sys.mode
  mt : K.testBit 1 = false → s.sys.mt = r.sys.mt
  drive : K.testBit 2 = false → s.sys.driveEn = r.sys.driveEn
  sys : K.testBit 3 = false → { s.sys with mode := .reset, mt := 0, driveEn := false } = { r.sys with mode := .reset, mt := 0, driveEn := false }
  pages : K.testBit 4 = false → s.pages = r.pages
  rings : K.testBit 5 = false → s.rings = r.rings
  host : K.testBit 6 = false → s.host = r.host
  irq : K.testBit 7 = false → s.irq = r.irq
  free : K.testBit 8 = false → s.free = r.free
  sent : K.testBit 9 = false → s.sent = r.sent
  acc : K.testBit 10 = false → s.acc = r.acc
  tb : K.testBit 11 = false → s.tb = r.tb
  sns : K.testBit 12 = false → s.sns = r.sns
  mod : K.testBit 13 = false → s.mod = r.mod
  chg : K.testBit 14 = false → s.chg = r.chg
  jrn : K.testBit 15 = false → s.jrn = r.jrn
  est : K.testBit 16 = false → { s.est with ps := [] } = { r.est with ps := [] }
  psm : K.testBit 17 = false → s.est.ps = r.est.ps
  ost : K.testBit 18 = false → s.ost = r.ost
  bal : K.testBit 19 = false → s.bal = r.bal
  cth : K.testBit 20 = false → s.cth = r.cth
  loops : K.testBit 21 = false → { s.loops with pairs := [] } = { r.loops with pairs := [] }
  pairs : K.testBit 22 = false → s.loops.pairs = r.loops.pairs
  prot : K.testBit 23 = false → { s.prot with groups := [] } = { r.prot with groups := [] }
  groups : K.testBit 24 = false → s.prot.groups = r.prot.groups
  safe : K.testBit 25 = false → s.safe = r.safe
  slay : K.testBit 26 = false → s.slay = r.slay
  events : K.testBit 27 = false → s.events = r.events
  completions : K.testBit 28 = false → s.completions = r.completions
  tdm : K.testBit 29 = false → s.tdm = r.tdm
  wit : K.testBit 30 = false → s.wit = r.wit
  way : K.testBit 31 = false → s.way = r.way
  sbx : K.testBit 32 = false → s.sbx = r.sbx
  can : K.testBit 33 = false → s.can = r.can
  eth : K.testBit 34 = false → s.eth = r.eth
  time : K.testBit 35 = false → s.time = r.time
  fwu : K.testBit 36 = false → s.fwu = r.fwu
  thm : K.testBit 37 = false → s.thm = r.thm
  pwrAlarm : K.testBit 38 = false → s.pwrAlarm = r.pwrAlarm
  jrnSlots : K.testBit 39 = false → s.mram.jslots = r.mram.jslots
  streamCounts : K.testBit 40 = false → s.mram.streams = r.mram.streams
  limits : K.testBit 41 = false → (s.mram.lim, s.mram.limStr, s.mram.limSeq, s.mram.limCrc, s.mram.manual) = (r.mram.lim, r.mram.limStr, r.mram.limSeq, r.mram.limCrc, r.mram.manual)
  records : K.testBit 42 = false → (s.mram.sbxRecs, s.mram.sbxHigh, s.mram.sbxCleared, s.mram.sbxLockedHead, s.mram.sbxReserveHead, s.mram.sbxRollHead, s.mram.sbxClearHead) = (r.mram.sbxRecs, r.mram.sbxHigh, r.mram.sbxCleared, r.mram.sbxLockedHead, r.mram.sbxReserveHead, r.mram.sbxRollHead, r.mram.sbxClearHead)
  keys : K.testBit 43 = false → s.mram.keys = r.mram.keys
  images : K.testBit 44 = false → s.mram.fw = r.mram.fw
  shutdown : K.testBit 45 = false → s.mram.thm = r.mram.thm
  keyWait : K.testBit 46 = false → s.keyWait = r.keyWait
  regs : ∀ p, p ∉ ps → K.testBit (47 + p.kind.index) = false → ∀ o < 0x1000, s.rd p o = r.rd p o

theorem part_trans {a b c : Prop} {α : Type} {x y z : α} (_ : a) (h : b → y = x) (k : c → z = y) (f : c → b) (i : c) : z = x :=
  (k i).trans (h (f i))

theorem Within.refl {K : Nat} {ps : List Page} (s : State) : Within K ps s s := by
  constructor <;> intros <;> rfl

theorem Within.trans {K : Nat} {ps : List Page} {r s t : State} (h : Within K ps r s) (k : Within K ps s t) :
    Within K ps r t where
  mode i := (k.mode i).trans (h.mode i)
  mt i := (k.mt i).trans (h.mt i)
  drive i := (k.drive i).trans (h.drive i)
  sys i := (k.sys i).trans (h.sys i)
  pages i := (k.pages i).trans (h.pages i)
  rings i := (k.rings i).trans (h.rings i)
  host i := (k.host i).trans (h.host i)
  irq i := (k.irq i).trans (h.irq i)
  free i := (k.free i).trans (h.free i)
  sent i := (k.sent i).trans (h.sent i)
  acc i := (k.acc i).trans (h.acc i)
  tb i := (k.tb i).trans (h.tb i)
  sns i := (k.sns i).trans (h.sns i)
  mod i := (k.mod i).trans (h.mod i)
  chg i := (k.chg i).trans (h.chg i)
  jrn i := (k.jrn i).trans (h.jrn i)
  est i := (k.est i).trans (h.est i)
  psm i := (k.psm i).trans (h.psm i)
  ost i := (k.ost i).trans (h.ost i)
  bal i := (k.bal i).trans (h.bal i)
  cth i := (k.cth i).trans (h.cth i)
  loops i := (k.loops i).trans (h.loops i)
  pairs i := (k.pairs i).trans (h.pairs i)
  prot i := (k.prot i).trans (h.prot i)
  groups i := (k.groups i).trans (h.groups i)
  safe i := (k.safe i).trans (h.safe i)
  slay i := (k.slay i).trans (h.slay i)
  events i := (k.events i).trans (h.events i)
  completions i := (k.completions i).trans (h.completions i)
  tdm i := (k.tdm i).trans (h.tdm i)
  wit i := (k.wit i).trans (h.wit i)
  way i := (k.way i).trans (h.way i)
  sbx i := (k.sbx i).trans (h.sbx i)
  can i := (k.can i).trans (h.can i)
  eth i := (k.eth i).trans (h.eth i)
  time i := (k.time i).trans (h.time i)
  fwu i := (k.fwu i).trans (h.fwu i)
  thm i := (k.thm i).trans (h.thm i)
  pwrAlarm i := (k.pwrAlarm i).trans (h.pwrAlarm i)
  jrnSlots i := (k.jrnSlots i).trans (h.jrnSlots i)
  streamCounts i := (k.streamCounts i).trans (h.streamCounts i)
  limits i := (k.limits i).trans (h.limits i)
  records i := (k.records i).trans (h.records i)
  keys i := (k.keys i).trans (h.keys i)
  images i := (k.images i).trans (h.images i)
  shutdown i := (k.shutdown i).trans (h.shutdown i)
  keyWait i := (k.keyWait i).trans (h.keyWait i)
  regs p m i o l := (k.regs p m i o l).trans (h.regs p m i o l)

/-- A bit that is clear in a mask is clear in a smaller one. -/
theorem bit_clear {J K : Nat} (e : Nat.land J K = J) (i : Nat) (h : K.testBit i = false) : J.testBit i = false := by
  have := congrArg (fun n => Nat.testBit n i) e
  change (J &&& K).testBit i = J.testBit i at this
  rw [Nat.testBit_and, h, Bool.and_false] at this
  exact this.symm

/-- A larger mask. -/
theorem Within.mask {J K : Nat} {ps : List Page} {r s : State} (h : Within J ps r s) (e : Nat.land J K = J) :
    Within K ps r s where
  mode i := h.mode (bit_clear e _ i)
  mt i := h.mt (bit_clear e _ i)
  drive i := h.drive (bit_clear e _ i)
  sys i := h.sys (bit_clear e _ i)
  pages i := h.pages (bit_clear e _ i)
  rings i := h.rings (bit_clear e _ i)
  host i := h.host (bit_clear e _ i)
  irq i := h.irq (bit_clear e _ i)
  free i := h.free (bit_clear e _ i)
  sent i := h.sent (bit_clear e _ i)
  acc i := h.acc (bit_clear e _ i)
  tb i := h.tb (bit_clear e _ i)
  sns i := h.sns (bit_clear e _ i)
  mod i := h.mod (bit_clear e _ i)
  chg i := h.chg (bit_clear e _ i)
  jrn i := h.jrn (bit_clear e _ i)
  est i := h.est (bit_clear e _ i)
  psm i := h.psm (bit_clear e _ i)
  ost i := h.ost (bit_clear e _ i)
  bal i := h.bal (bit_clear e _ i)
  cth i := h.cth (bit_clear e _ i)
  loops i := h.loops (bit_clear e _ i)
  pairs i := h.pairs (bit_clear e _ i)
  prot i := h.prot (bit_clear e _ i)
  groups i := h.groups (bit_clear e _ i)
  safe i := h.safe (bit_clear e _ i)
  slay i := h.slay (bit_clear e _ i)
  events i := h.events (bit_clear e _ i)
  completions i := h.completions (bit_clear e _ i)
  tdm i := h.tdm (bit_clear e _ i)
  wit i := h.wit (bit_clear e _ i)
  way i := h.way (bit_clear e _ i)
  sbx i := h.sbx (bit_clear e _ i)
  can i := h.can (bit_clear e _ i)
  eth i := h.eth (bit_clear e _ i)
  time i := h.time (bit_clear e _ i)
  fwu i := h.fwu (bit_clear e _ i)
  thm i := h.thm (bit_clear e _ i)
  pwrAlarm i := h.pwrAlarm (bit_clear e _ i)
  jrnSlots i := h.jrnSlots (bit_clear e _ i)
  streamCounts i := h.streamCounts (bit_clear e _ i)
  limits i := h.limits (bit_clear e _ i)
  records i := h.records (bit_clear e _ i)
  keys i := h.keys (bit_clear e _ i)
  images i := h.images (bit_clear e _ i)
  shutdown i := h.shutdown (bit_clear e _ i)
  keyWait i := h.keyWait (bit_clear e _ i)
  regs p m i := h.regs p m (bit_clear e _ i)

/-- More pages. -/
theorem Within.more {K : Nat} {ps qs : List Page} {r s : State} (h : Within K ps r s)
    (e : ∀ p ∈ ps, p ∈ qs ∨ K.testBit (47 + p.kind.index) = true) : Within K qs r s :=
  { h with regs := fun p m i => h.regs p (fun k => (e p k).elim m (fun j => by rw [i] at j; cases j)) i }

/-- An operation that names no page. -/
theorem Within.mono {J K : Nat} {ps : List Page} {r s : State} (h : Within J [] r s) (e : Nat.land J K = J) :
    Within K ps r s := (h.mask e).more (fun _ k => by cases k)

/-- An operation on a page of a kind whose bit is set. -/
theorem Within.kind {J K : Nat} {q : Page} {ps : List Page} {r s : State} (h : Within J [q] r s)
    (e : Nat.land J K = J) (k : PageKind) (i : q.kind = k) (b : K.testBit (47 + k.index) = true) : Within K ps r s :=
  (h.mask e).more (fun p m => Or.inr (by rw [List.mem_singleton.mp m, i]; exact b))

/-- An operation on the page named. -/
theorem Within.page {J K : Nat} {q : Page} {r s : State} (h : Within J [q] r s) (e : Nat.land J K = J) :
    Within K [q] r s := h.mask e

theorem kind_bit (k : PageKind) : Nat.testBit 151115727311091158482944 (47 + k.index) = true := by cases k <;> rfl

theorem kind_bits {K : Nat} (e : Nat.land 151115727311091158482944 K = 151115727311091158482944) (k : PageKind) : K.testBit (47 + k.index) = true := by
  cases j : K.testBit (47 + k.index) with
  | true => rfl
  | false =>
    have := bit_clear e _ j
    rw [kind_bit] at this; cases this

/-- An operation on any page. -/
theorem Within.any {J K : Nat} {q : Page} {ps : List Page} {r s : State} (h : Within J [q] r s)
    (e : Nat.land J K = J) (k : Nat.land 151115727311091158482944 K = 151115727311091158482944) : Within K ps r s :=
  h.kind e _ rfl (kind_bits k _)

theorem part_keep {K i : Nat} {α : Type} {a b c : α} (e : K.testBit i = true ∨ c = b)
    (h : K.testBit i = false → b = a) (k : K.testBit i = false) : c = a := by
  rcases e with e | e
  · rw [k] at e; cases e
  · exact e.trans (h k)

/-- An update of fields. -/
theorem Within.upd {K : Nat} {ps : List Page} {r x : State}
    {sys : SysSt} {pages : List (Nat × PageState)} {regs : List (Nat × Word)} {rings : List (Nat × RingSt)}
    {host : HostSt} {irq : IrqSt} {free : Nat} {sent : List Msg}
    {pending : List Instr} {acc : List (Nat × ChanAcc)} {tb : TimebaseSt} {sns : List (Nat × RingSns)}
    {mod : ModSt} {chg : ChgSt} {jrn : JrnSt} {est : EstSt}
    {ost : OstSt} {bal : BalSt} {cth : CthSt} {loops : LoopSt}
    {prot : ProtSt} {safe : SafeSt} {slay : SlaySt} {events : List EvItem}
    {completions : List Completion} {tdm : TdmSt} {wit : WitSt} {way : WaySt}
    {sbx : SbxSt} {can : List (Nat × CanSt)} {eth : EthSt} {time : TimeSt}
    {keyWait : List (Nat × Nat)} {fwu : FwuSt} {thm : ThmSt} {pwrAlarm : Bool} {mram : Mram}
    (h : Within K ps r x) (_e_pending : pending = x.pending) (e_regs : regs = x.regs)
    (e_mode : K.testBit 0 = true ∨ sys.mode = x.sys.mode)
    (e_mt : K.testBit 1 = true ∨ sys.mt = x.sys.mt)
    (e_drive : K.testBit 2 = true ∨ sys.driveEn = x.sys.driveEn)
    (e_sys : K.testBit 3 = true ∨ { sys with mode := .reset, mt := 0, driveEn := false } = { x.sys with mode := .reset, mt := 0, driveEn := false })
    (e_pages : K.testBit 4 = true ∨ pages = x.pages)
    (e_rings : K.testBit 5 = true ∨ rings = x.rings)
    (e_host : K.testBit 6 = true ∨ host = x.host)
    (e_irq : K.testBit 7 = true ∨ irq = x.irq)
    (e_free : K.testBit 8 = true ∨ free = x.free)
    (e_sent : K.testBit 9 = true ∨ sent = x.sent)
    (e_acc : K.testBit 10 = true ∨ acc = x.acc)
    (e_tb : K.testBit 11 = true ∨ tb = x.tb)
    (e_sns : K.testBit 12 = true ∨ sns = x.sns)
    (e_mod : K.testBit 13 = true ∨ mod = x.mod)
    (e_chg : K.testBit 14 = true ∨ chg = x.chg)
    (e_jrn : K.testBit 15 = true ∨ jrn = x.jrn)
    (e_est : K.testBit 16 = true ∨ { est with ps := [] } = { x.est with ps := [] })
    (e_psm : K.testBit 17 = true ∨ est.ps = x.est.ps)
    (e_ost : K.testBit 18 = true ∨ ost = x.ost)
    (e_bal : K.testBit 19 = true ∨ bal = x.bal)
    (e_cth : K.testBit 20 = true ∨ cth = x.cth)
    (e_loops : K.testBit 21 = true ∨ { loops with pairs := [] } = { x.loops with pairs := [] })
    (e_pairs : K.testBit 22 = true ∨ loops.pairs = x.loops.pairs)
    (e_prot : K.testBit 23 = true ∨ { prot with groups := [] } = { x.prot with groups := [] })
    (e_groups : K.testBit 24 = true ∨ prot.groups = x.prot.groups)
    (e_safe : K.testBit 25 = true ∨ safe = x.safe)
    (e_slay : K.testBit 26 = true ∨ slay = x.slay)
    (e_events : K.testBit 27 = true ∨ events = x.events)
    (e_completions : K.testBit 28 = true ∨ completions = x.completions)
    (e_tdm : K.testBit 29 = true ∨ tdm = x.tdm)
    (e_wit : K.testBit 30 = true ∨ wit = x.wit)
    (e_way : K.testBit 31 = true ∨ way = x.way)
    (e_sbx : K.testBit 32 = true ∨ sbx = x.sbx)
    (e_can : K.testBit 33 = true ∨ can = x.can)
    (e_eth : K.testBit 34 = true ∨ eth = x.eth)
    (e_time : K.testBit 35 = true ∨ time = x.time)
    (e_fwu : K.testBit 36 = true ∨ fwu = x.fwu)
    (e_thm : K.testBit 37 = true ∨ thm = x.thm)
    (e_pwrAlarm : K.testBit 38 = true ∨ pwrAlarm = x.pwrAlarm)
    (e_jrnSlots : K.testBit 39 = true ∨ mram.jslots = x.mram.jslots)
    (e_streamCounts : K.testBit 40 = true ∨ mram.streams = x.mram.streams)
    (e_limits : K.testBit 41 = true ∨ (mram.lim, mram.limStr, mram.limSeq, mram.limCrc, mram.manual) = (x.mram.lim, x.mram.limStr, x.mram.limSeq, x.mram.limCrc, x.mram.manual))
    (e_records : K.testBit 42 = true ∨ (mram.sbxRecs, mram.sbxHigh, mram.sbxCleared, mram.sbxLockedHead, mram.sbxReserveHead, mram.sbxRollHead, mram.sbxClearHead) = (x.mram.sbxRecs, x.mram.sbxHigh, x.mram.sbxCleared, x.mram.sbxLockedHead, x.mram.sbxReserveHead, x.mram.sbxRollHead, x.mram.sbxClearHead))
    (e_keys : K.testBit 43 = true ∨ mram.keys = x.mram.keys)
    (e_images : K.testBit 44 = true ∨ mram.fw = x.mram.fw)
    (e_shutdown : K.testBit 45 = true ∨ mram.thm = x.mram.thm)
    (e_keyWait : K.testBit 46 = true ∨ keyWait = x.keyWait) :
    Within K ps r
      (State.mk sys pages regs rings host irq free sent pending acc tb sns
        mod chg jrn est ost bal cth loops prot safe slay events
        completions tdm wit way sbx can eth time keyWait fwu thm pwrAlarm mram) where
  mode := part_keep e_mode h.mode
  mt := part_keep e_mt h.mt
  drive := part_keep e_drive h.drive
  sys := part_keep e_sys h.sys
  pages := part_keep e_pages h.pages
  rings := part_keep e_rings h.rings
  host := part_keep e_host h.host
  irq := part_keep e_irq h.irq
  free := part_keep e_free h.free
  sent := part_keep e_sent h.sent
  acc := part_keep e_acc h.acc
  tb := part_keep e_tb h.tb
  sns := part_keep e_sns h.sns
  mod := part_keep e_mod h.mod
  chg := part_keep e_chg h.chg
  jrn := part_keep e_jrn h.jrn
  est := part_keep e_est h.est
  psm := part_keep e_psm h.psm
  ost := part_keep e_ost h.ost
  bal := part_keep e_bal h.bal
  cth := part_keep e_cth h.cth
  loops := part_keep e_loops h.loops
  pairs := part_keep e_pairs h.pairs
  prot := part_keep e_prot h.prot
  groups := part_keep e_groups h.groups
  safe := part_keep e_safe h.safe
  slay := part_keep e_slay h.slay
  events := part_keep e_events h.events
  completions := part_keep e_completions h.completions
  tdm := part_keep e_tdm h.tdm
  wit := part_keep e_wit h.wit
  way := part_keep e_way h.way
  sbx := part_keep e_sbx h.sbx
  can := part_keep e_can h.can
  eth := part_keep e_eth h.eth
  time := part_keep e_time h.time
  fwu := part_keep e_fwu h.fwu
  thm := part_keep e_thm h.thm
  pwrAlarm := part_keep e_pwrAlarm h.pwrAlarm
  jrnSlots := part_keep e_jrnSlots h.jrnSlots
  streamCounts := part_keep e_streamCounts h.streamCounts
  limits := part_keep e_limits h.limits
  records := part_keep e_records h.records
  keys := part_keep e_keys h.keys
  images := part_keep e_images h.images
  shutdown := part_keep e_shutdown h.shutdown
  keyWait := part_keep e_keyWait h.keyWait
  regs p m i o l := by
    have := h.regs p m i o l
    unfold State.rd at this ⊢
    rw [e_regs]; exact this

theorem Within.ite {K : Nat} {ps : List Page} {r a b : State} {c : Prop} [Decidable c] (h : Within K ps r a)
    (k : Within K ps r b) : Within K ps r (if c then a else b) := ite_ind (Within K ps r) h k

theorem Within.foldl {K : Nat} {ps : List Page} {r : State} {α : Type} {f : State → α → State} {l : List α} {s : State}
    (h : Within K ps r s) (k : ∀ t a, Within K ps r t → Within K ps r (f t a)) : Within K ps r (l.foldl f s) :=
  foldl_ind (Within K ps r) h k

theorem Within.foldlSnd {K : Nat} {ps : List Page} {r : State} {α β : Type} {f : β × State → α → β × State} {l : List α}
    {x : β × State} (h : Within K ps r x.2) (k : ∀ t a, Within K ps r t.2 → Within K ps r (f t a).2) :
    Within K ps r (l.foldl f x).2 := foldl_snd_ind (Within K ps r) h k

theorem Within.hostDo {K : Nat} {ps : List Page} {r s : State} {p : Page} {f : State → State} (h : Within K ps r s)
    (k : ∀ t, Within K ps r t → Within K ps r (f t)) : Within K ps r (s.hostDo p f) := hostDo_ind (Within K ps r) h k

theorem Within.snd {K : Nat} {ps : List Page} {r s : State} {α : Type} {x : α × State} {a : α} (e : x = (a, s))
    (h : Within K ps r x.2) : Within K ps r s := snd_ind (Within K ps r) e h

theorem Within.fst {K : Nat} {ps : List Page} {r s : State} {α : Type} {x : State × α} {a : α} (e : x = (s, a))
    (h : Within K ps r x.1) : Within K ps r s := fst_ind (Within K ps r) e h

theorem Within.pair {K : Nat} {ps : List Page} {r s : State} {α : Type} {a : α} (h : Within K ps r s) :
    Within K ps r (a, s).2 := h

theorem Within.pairIn {K : Nat} {ps : List Page} {r : State} {α β : Type} {a : α} {x : β × State}
    (h : Within K ps r x.2) : Within K ps r (a, x).2.2 := h

theorem Within.thd {K : Nat} {ps : List Page} {r s : State} {α β : Type} {x : α × β × State} {a : α} {b : β}
    (e : x = (a, b, s)) (h : Within K ps r x.2.2) : Within K ps r s := thd_ind (Within K ps r) e h

/-! ### From masks to lists of parts -/

/-- The mask of a list of parts. -/
def partMask : List Part → Nat
  | [] => 0
  | p :: l => Nat.lor (1 <<< p.index) (partMask l)

/-- Every part, in the order of its index. -/
def allParts : List Part :=
  [.mode, .mt, .drive, .sys, .pages, .rings, .host, .irq, .free, .sent, .acc, .tb, .sns, .mod, .chg, .jrn, .est,
   .psm, .ost, .bal, .cth, .loops, .pairs, .prot, .groups, .safe, .slay, .events, .completions, .tdm, .wit, .way,
   .sbx, .can, .eth, .time, .fwu, .thm, .pwrAlarm, .jrnSlots, .streamCounts, .limits, .records, .keys, .images,
   .shutdown, .keyWait, .regs .sys, .regs .cfgx, .regs .host, .regs .rng, .regs .irq, .regs .time, .regs .auth,
   .regs .fwu, .regs .thm, .regs .pwr, .regs .tdm, .regs .wit, .regs .way, .regs .sbx, .regs .sns, .regs .mod,
   .regs .chg, .regs .est, .regs .ost, .regs .bal, .regs .cth, .regs .prot, .regs .trip, .regs .safe, .regs .slay,
   .regs .spt, .regs .pwm, .regs .loop, .regs .can, .regs .eth]

theorem allParts_index (p : Part) : allParts[p.index]? = some p := by
  cases p with
  | regs k => cases k <;> rfl
  | _ => rfl

theorem Part.index_inj (p q : Part) (h : p.index = q.index) : p = q :=
  Option.some.inj ((allParts_index p).symm.trans (h ▸ allParts_index q))

theorem partMask_clear {l : List Part} {p : Part} (h : p ∉ l) : (partMask l).testBit p.index = false := by
  induction l with
  | nil => simp [partMask]
  | cons q l ih =>
    have hq : p ≠ q := fun e => h (by rw [e]; exact List.mem_cons_self)
    have hl : p ∉ l := fun e => h (List.mem_cons_of_mem _ e)
    have : (1 <<< q.index ||| partMask l).testBit p.index = false := by
      rw [Nat.testBit_or, ih hl, Bool.or_false, Nat.one_shiftLeft, Nat.testBit_two_pow]
      exact decide_eq_false (fun e => hq (Part.index_inj _ _ e.symm))
    exact this

/-- What a mask says of a list of parts. -/
theorem Within.touches {K : Nat} {l : List Part} {r s : State} (h : Within K [] r s) (e : partMask l = K) :
    Touches l r s := by
  subst e
  intro p hp
  have c := partMask_clear hp
  cases p
  · exact h.mode c
  · exact h.mt c
  · exact h.drive c
  · exact h.sys c
  · exact h.pages c
  · exact h.rings c
  · exact h.host c
  · exact h.irq c
  · exact h.free c
  · exact h.sent c
  · exact h.acc c
  · exact h.tb c
  · exact h.sns c
  · exact h.mod c
  · exact h.chg c
  · exact h.jrn c
  · exact h.est c
  · exact h.psm c
  · exact h.ost c
  · exact h.bal c
  · exact h.cth c
  · exact h.loops c
  · exact h.pairs c
  · exact h.prot c
  · exact h.groups c
  · exact h.safe c
  · exact h.slay c
  · exact h.events c
  · exact h.completions c
  · exact h.tdm c
  · exact h.wit c
  · exact h.way c
  · exact h.sbx c
  · exact h.can c
  · exact h.eth c
  · exact h.time c
  · exact h.fwu c
  · exact h.thm c
  · exact h.pwrAlarm c
  · exact h.jrnSlots c
  · exact h.streamCounts c
  · exact h.limits c
  · exact h.records c
  · exact h.keys c
  · exact h.images c
  · exact h.shutdown c
  · exact h.keyWait c
  · intro q hq o ho
    subst hq
    exact h.regs q (by simp) c o ho

/-- The same beside the page a command names. -/
theorem Within.touchesAt {K : Nat} {q : Page} {l : List Part} {r s : State} (h : Within K [q] r s)
    (e : partMask l = K) : Touches (.regs q.kind :: l) r s := by
  have k : Within (Nat.lor (1 <<< (47 + q.kind.index)) K) [q] r s := h.mask (by
    change K &&& (1 <<< (47 + q.kind.index) ||| K) = K
    apply Nat.eq_of_testBit_eq; intro i
    simp only [Nat.testBit_and, Nat.testBit_or]
    cases K.testBit i <;> simp)
  refine (Within.touches (k.more (fun p m => Or.inr ?_)) (by rw [partMask, e]; rfl))
  rw [List.mem_singleton.mp m]
  show (1 <<< (47 + q.kind.index) ||| K).testBit (47 + q.kind.index) = true
  rw [Nat.testBit_or, Nat.one_shiftLeft, Nat.testBit_two_pow_self]; rfl

end Sys2Proof.Machine
end

