-- ==== Sys2Proof/Laws/FrameOps.lean ====
section
/-! SUPPORT. What each operation of Machine/Ops.lean may change (Laws/Within.lean). -/

namespace Sys2Proof.Machine

open Sys2Proof

theorem page_index_lt (p : Page) : p.index < 58 := by
  cases p <;> simp only [Page.index] <;> omega

theorem page_index_inj (p q : Page) (h : p.index = q.index) : p = q := by
  cases p <;> cases q <;> simp only [Page.index] at h <;> first
    | rfl
    | (exfalso; omega)
    | (congr 1; apply Fin.ext; omega)

/-- Registers of two pages lie apart. -/
theorem page_apart {p q : Page} (h : p ≠ q) {o u : Nat} (ho : o < 0x1000) (hu : u < 0x1000) : p.base + o ≠ q.base + u := by
  have hi : p.index ≠ q.index := fun e => h (page_index_inj p q e)
  have hp := page_index_lt p
  have hq := page_index_lt q
  unfold Page.base
  generalize p.index = i at *
  generalize q.index = j at *
  dsimp only
  split_ifs <;> omega

theorem RegRow.has_lt {r : RegRow} {o : Nat} (f : r.off + r.stride * (r.cnt - 1) < 0x1000) (h : r.has o = true) :
    o < 0x1000 := by
  unfold RegRow.has at h
  simp only [Bool.and_eq_true, decide_eq_true_eq] at h
  obtain ⟨⟨h1, h2⟩, h3⟩ := h
  have e := Nat.div_add_mod (o - r.off) r.stride
  have := Nat.mul_le_mul_left r.stride (show (o - r.off) / r.stride ≤ r.cnt - 1 by omega)
  omega

theorem rows_fit (p : Page) : ∀ r ∈ headerRows p ++ pageRows p, r.off + r.stride * (r.cnt - 1) < 0x1000 := by
  have h : (headerRows p ++ pageRows p).all (fun r => decide (r.off + r.stride * (r.cnt - 1) < 0x1000)) = true := by
    cases p <;> rfl
  intro r hr
  simpa using List.all_eq_true.mp h r hr

theorem findRow_lt {p : Page} {o : Nat} {r : RegRow} (h : findRow p o = some r) : o < 0x1000 := by
  unfold findRow at h
  have f := rows_fit p r
  have m := List.mem_of_find?_eq_some h
  have k := List.find?_some h
  refine RegRow.has_lt (f (List.mem_append.mpr ?_)) k
  split at m
  · exact Or.inl m
  · exact Or.inr m

theorem State.wr_within (s : State) (p : Page) (o : Nat) (v : Word) :
    Within 0x0 [p] s (State.wr s p o v) := by
  unfold State.wr
  split
  · rename_i r hr
    constructor
    case regs =>
      intro q hq _ u hu
      unfold State.rd
      exact sget_sset_other _ _ _ _ (page_apart (by simpa using hq) hu (findRow_lt hr))
    all_goals (intro; rfl)
  · exact Within.refl _

theorem State.wrf_within (s : State) (p : Page) (o : Nat) (hi : Nat) (lo : Nat) (v : Nat) :
    Within 0x0 [p] s (State.wrf s p o hi lo v) := by
  unfold State.wrf
  exact (Within.page (State.wr_within ..) rfl)

theorem State.wrb_within (s : State) (p : Page) (o : Nat) (n : Nat) (b : Bool) :
    Within 0x0 [p] s (State.wrb s p o n b) := by
  unfold State.wrb
  exact (Within.page (State.wrf_within ..) rfl)

theorem State.wrn_within (s : State) (p : Page) (o : Nat) (v : Nat) :
    Within 0x0 [p] s (State.wrn s p o v) := by
  unfold State.wrn
  exact (Within.page (State.wr_within ..) rfl)

theorem State.wri_within (s : State) (p : Page) (o : Nat) (v : Int) :
    Within 0x0 [p] s (State.wri s p o v) := by
  unfold State.wri
  exact (Within.page (State.wrn_within ..) rfl)

theorem State.wr64_within (s : State) (p : Page) (lo : Nat) (hi : Nat) (v : Nat) :
    Within 0x0 [p] s (State.wr64 s p lo hi v) := by
  unfold State.wr64
  refine Within.trans ?_ (Within.page (State.wrn_within ..) rfl)
  exact (Within.page (State.wrn_within ..) rfl)

theorem State.inc_within (s : State) (p : Page) (o : Nat) :
    Within 0x0 [p] s (State.inc s p o) := by
  unfold State.inc
  exact (Within.page (State.wrn_within ..) rfl)

theorem State.writeDeferred_within (s : State) :
    Within 0x10000000000000000 [] s (State.writeDeferred s) := by
  unfold State.writeDeferred
  refine Within.trans ?_ (Within.kind (State.wrb_within ..) rfl .est rfl rfl)
  exact (Within.kind (State.inc_within ..) rfl .est rfl rfl)

theorem State.incBy_within (s : State) (p : Page) (o : Nat) (n : Nat) :
    Within 0x0 [p] s (State.incBy s p o n) := by
  unfold State.incBy
  exact (Within.page (State.wrn_within ..) rfl)

theorem State.incf_within (s : State) (p : Page) (o : Nat) (hi : Nat) (lo : Nat) :
    Within 0x0 [p] s (State.incf s p o hi lo) := by
  unfold State.incf
  exact (Within.page (State.wrf_within ..) rfl)

theorem State.setPage_within (s : State) (p : Page) (t : PageState) :
    Within 0x10 [] s (State.setPage s p t) := by
  unfold State.setPage
  refine Within.upd ?_ rfl rfl (.inr rfl) (.inr rfl) (.inr rfl) (.inr rfl) (.inl rfl) (.inr rfl) (.inr rfl) (.inr
      rfl) (.inr rfl) (.inr rfl) (.inr rfl) (.inr rfl) (.inr rfl) (.inr rfl) (.inr rfl) (.inr rfl) (.inr rfl) (.inr
          rfl) (.inr rfl) (.inr rfl) (.inr rfl) (.inr rfl) (.inr rfl) (.inr rfl) (.inr rfl) (.inr rfl) (.inr rfl)
              (.inr rfl) (.inr rfl) (.inr rfl) (.inr rfl) (.inr rfl) (.inr rfl) (.inr rfl) (.inr rfl) (.inr rfl)
                  (.inr rfl) (.inr rfl) (.inr rfl) (.inr rfl) (.inr rfl) (.inr rfl) (.inr rfl) (.inr rfl) (.inr rfl)
                      (.inr rfl) (.inr rfl)
  exact Within.refl _

theorem State.setMode_within (s : State) (m : Mode) :
    Within 0x9 [] s (State.setMode s m) := by
  unfold State.setMode
  refine Within.upd ?_ rfl rfl (.inl rfl) (.inr rfl) (.inr rfl) (.inl rfl) (.inr rfl) (.inr rfl) (.inr rfl) (.inr
      rfl) (.inr rfl) (.inr rfl) (.inr rfl) (.inr rfl) (.inr rfl) (.inr rfl) (.inr rfl) (.inr rfl) (.inr rfl) (.inr
          rfl) (.inr rfl) (.inr rfl) (.inr rfl) (.inr rfl) (.inr rfl) (.inr rfl) (.inr rfl) (.inr rfl) (.inr rfl)
              (.inr rfl) (.inr rfl) (.inr rfl) (.inr rfl) (.inr rfl) (.inr rfl) (.inr rfl) (.inr rfl) (.inr rfl)
                  (.inr rfl) (.inr rfl) (.inr rfl) (.inr rfl) (.inr rfl) (.inr rfl) (.inr rfl) (.inr rfl) (.inr rfl)
                      (.inr rfl) (.inr rfl)
  exact Within.refl _

theorem State.atMt_within (s : State) (mt : Nat) : Within 0xe [] s (State.atMt s mt) := by
  have m : (s.sys.atMt mt).mode = s.sys.mode := by
    unfold SysSt.atMt SysSt.pulseEnd
    dsimp only
    repeat' split
    all_goals rfl
  unfold State.atMt
  apply Within.upd (Within.refl s) rfl rfl (.inr m) (.inl rfl) (.inl rfl) (.inl rfl) <;> exact .inr rfl

theorem State.driveLow_within (s : State) : Within 0xc [] s (State.driveLow s) := by
  have m : (s.sys.driveOff s.mt).mode = s.sys.mode := rfl
  have n : (s.sys.driveOff s.mt).mt = s.sys.mt := rfl
  unfold State.driveLow
  apply Within.upd (Within.refl s) rfl rfl (.inr m) (.inr n) (.inl rfl) (.inl rfl) <;> exact .inr rfl

theorem State.elapse_within (s : State) (dt : Nat) :
    Within 0xe [] s (State.elapse s dt) := by
  unfold State.elapse
  refine Within.ite ?_ ?_
  · exact Within.refl _
  · exact (Within.mono (State.atMt_within ..) rfl)

theorem State.dropDrive_within (s : State) :
    Within 0xc [] s (State.dropDrive s) := by
  unfold State.dropDrive
  refine Within.ite ?_ ?_
  · exact Within.refl _
  · refine Within.ite ?_ ?_
    · exact (Within.mono (State.driveLow_within ..) rfl)
    · refine Within.upd ?_ rfl rfl (.inr rfl) (.inr rfl) (.inr rfl) (.inl rfl) (.inr rfl) (.inr rfl) (.inr rfl) (.inr
        rfl) (.inr rfl) (.inr rfl) (.inr rfl) (.inr rfl) (.inr rfl) (.inr rfl) (.inr rfl) (.inr rfl) (.inr rfl) (.inr
            rfl) (.inr rfl) (.inr rfl) (.inr rfl) (.inr rfl) (.inr rfl) (.inr rfl) (.inr rfl) (.inr rfl) (.inr rfl)
                (.inr rfl) (.inr rfl) (.inr rfl) (.inr rfl) (.inr rfl) (.inr rfl) (.inr rfl) (.inr rfl) (.inr rfl)
                    (.inr rfl) (.inr rfl) (.inr rfl) (.inr rfl) (.inr rfl) (.inr rfl) (.inr rfl) (.inr rfl) (.inr
                        rfl) (.inr rfl) (.inr rfl)
      exact Within.refl _

theorem State.send_within (s : State) (m : Msg) :
    Within 0x200 [] s (State.send s m) := by
  unfold State.send
  refine Within.upd ?_ rfl rfl (.inr rfl) (.inr rfl) (.inr rfl) (.inr rfl) (.inr rfl) (.inr rfl) (.inr rfl) (.inr
      rfl) (.inr rfl) (.inl rfl) (.inr rfl) (.inr rfl) (.inr rfl) (.inr rfl) (.inr rfl) (.inr rfl) (.inr rfl) (.inr
          rfl) (.inr rfl) (.inr rfl) (.inr rfl) (.inr rfl) (.inr rfl) (.inr rfl) (.inr rfl) (.inr rfl) (.inr rfl)
              (.inr rfl) (.inr rfl) (.inr rfl) (.inr rfl) (.inr rfl) (.inr rfl) (.inr rfl) (.inr rfl) (.inr rfl)
                  (.inr rfl) (.inr rfl) (.inr rfl) (.inr rfl) (.inr rfl) (.inr rfl) (.inr rfl) (.inr rfl) (.inr rfl)
                      (.inr rfl) (.inr rfl)
  exact Within.refl _

theorem State.answerRead_within (s : State) (addr : Nat) (v : Nat) :
    Within 0x200 [] s (State.answerRead s addr v) := by
  unfold State.answerRead
  refine Within.ite ?_ ?_
  · exact (Within.mono (State.send_within ..) rfl)
  · exact Within.refl _

theorem State.draw_within (s : State) :
    Within 0x100 [] s (State.draw s).2 := by
  unfold State.draw
  refine Within.pair ?_
  refine Within.upd ?_ rfl rfl (.inr rfl) (.inr rfl) (.inr rfl) (.inr rfl) (.inr rfl) (.inr rfl) (.inr rfl) (.inr
      rfl) (.inl rfl) (.inr rfl) (.inr rfl) (.inr rfl) (.inr rfl) (.inr rfl) (.inr rfl) (.inr rfl) (.inr rfl) (.inr
          rfl) (.inr rfl) (.inr rfl) (.inr rfl) (.inr rfl) (.inr rfl) (.inr rfl) (.inr rfl) (.inr rfl) (.inr rfl)
              (.inr rfl) (.inr rfl) (.inr rfl) (.inr rfl) (.inr rfl) (.inr rfl) (.inr rfl) (.inr rfl) (.inr rfl)
                  (.inr rfl) (.inr rfl) (.inr rfl) (.inr rfl) (.inr rfl) (.inr rfl) (.inr rfl) (.inr rfl) (.inr rfl)
                      (.inr rfl) (.inr rfl)
  exact Within.refl _

theorem State.setSrc_within (s : State) (n : Nat) (v : SrcSt) :
    Within 0x80 [] s (State.setSrc s n v) := by
  unfold State.setSrc
  refine Within.upd ?_ rfl rfl (.inr rfl) (.inr rfl) (.inr rfl) (.inr rfl) (.inr rfl) (.inr rfl) (.inr rfl) (.inl
      rfl) (.inr rfl) (.inr rfl) (.inr rfl) (.inr rfl) (.inr rfl) (.inr rfl) (.inr rfl) (.inr rfl) (.inr rfl) (.inr
          rfl) (.inr rfl) (.inr rfl) (.inr rfl) (.inr rfl) (.inr rfl) (.inr rfl) (.inr rfl) (.inr rfl) (.inr rfl)
              (.inr rfl) (.inr rfl) (.inr rfl) (.inr rfl) (.inr rfl) (.inr rfl) (.inr rfl) (.inr rfl) (.inr rfl)
                  (.inr rfl) (.inr rfl) (.inr rfl) (.inr rfl) (.inr rfl) (.inr rfl) (.inr rfl) (.inr rfl) (.inr rfl)
                      (.inr rfl) (.inr rfl)
  exact Within.refl _

theorem State.setTgt_within (s : State) (t : Nat) (v : TgtSt) :
    Within 0x80 [] s (State.setTgt s t v) := by
  unfold State.setTgt
  refine Within.upd ?_ rfl rfl (.inr rfl) (.inr rfl) (.inr rfl) (.inr rfl) (.inr rfl) (.inr rfl) (.inr rfl) (.inl
      rfl) (.inr rfl) (.inr rfl) (.inr rfl) (.inr rfl) (.inr rfl) (.inr rfl) (.inr rfl) (.inr rfl) (.inr rfl) (.inr
          rfl) (.inr rfl) (.inr rfl) (.inr rfl) (.inr rfl) (.inr rfl) (.inr rfl) (.inr rfl) (.inr rfl) (.inr rfl)
              (.inr rfl) (.inr rfl) (.inr rfl) (.inr rfl) (.inr rfl) (.inr rfl) (.inr rfl) (.inr rfl) (.inr rfl)
                  (.inr rfl) (.inr rfl) (.inr rfl) (.inr rfl) (.inr rfl) (.inr rfl) (.inr rfl) (.inr rfl) (.inr rfl)
                      (.inr rfl) (.inr rfl)
  exact Within.refl _

theorem State.irqCount_within (s : State) (t : Nat) :
    Within 0x80 [] s (State.irqCount s t) := by
  unfold State.irqCount
  extract_lets +onlyGivenNames -merge -underBinder x1
  exact (Within.mono (State.setTgt_within ..) rfl)

theorem State.irqHold_within (s : State) :
    Within 0x8000000000080 [] s (State.irqHold s) := by
  unfold State.irqHold
  extract_lets +onlyGivenNames -merge -underBinder x1
  have hx1 : Within 0x8000000000080 [] s x1 := by
    unfold x1
    exact (Within.kind (State.wrb_within ..) rfl .irq rfl rfl)
  extract_lets +onlyGivenNames -merge -underBinder x2
  extract_lets +onlyGivenNames -merge -underBinder x3
  extract_lets +onlyGivenNames -merge -underBinder x4
  extract_lets +onlyGivenNames -merge -underBinder x5
  have hx5 : Within 0x8000000000080 [] s x5 := by
    unfold x5
    refine Within.trans ?_ (Within.mono (State.setSrc_within ..) rfl)
    exact hx1
  split
  · refine Within.ite ?_ ?_
    · refine Within.trans ?_ (Within.mono (State.irqCount_within ..) rfl)
      exact hx5
    · exact hx5
  · exact hx5

theorem State.irqEvent_within (s : State) (n : Nat) :
    Within 0x8000000000080 [] s (State.irqEvent s n) := by
  unfold State.irqEvent
  extract_lets +onlyGivenNames -merge -underBinder x1
  split
  · exact (Within.mono (State.irqCount_within ..) rfl)
  · refine Within.ite ?_ ?_
    · exact (Within.mono (State.irqHold_within ..) rfl)
    · exact Within.refl _

theorem State.edgeSource_within (s : State) (n : Nat) :
    Within 0x8000000000080 [] s (State.edgeSource s n) := by
  unfold State.edgeSource
  refine Within.ite ?_ ?_
  · refine Within.trans ?_ (Within.mono (State.irqEvent_within ..) rfl)
    exact (Within.mono (State.setSrc_within ..) rfl)
  · exact Within.refl _

theorem State.levelSource_within (s : State) (n : Nat) (line : Bool) :
    Within 0x8000000000080 [] s (State.levelSource s n line) := by
  unfold State.levelSource
  extract_lets +onlyGivenNames -merge -underBinder x1
  extract_lets +onlyGivenNames -merge -underBinder x2
  have hx2 : Within 0x8000000000080 [] s x2 := by
    unfold x2
    exact (Within.mono (State.setSrc_within ..) rfl)
  refine Within.ite ?_ ?_
  · refine Within.trans ?_ (Within.mono (State.irqEvent_within ..) rfl)
    refine Within.trans ?_ (Within.mono (State.setSrc_within ..) rfl)
    exact hx2
  · exact hx2

theorem State.pageLine_within (s : State) (p : Page) :
    Within 0x8000000000080 [] s (State.pageLine s p) := by
  unfold State.pageLine
  exact (Within.mono (State.levelSource_within ..) rfl)

theorem State.flag_within (s : State) (p : Page) (n : Nat) :
    Within 0x8000000000080 [p] s (State.flag s p n) := by
  unfold State.flag
  refine Within.trans ?_ (Within.mono (State.pageLine_within ..) rfl)
  exact (Within.page (State.wrb_within ..) rfl)

theorem State.setRing_within (s : State) (n : Nat) (r : RingSt) :
    Within 0x20 [] s (State.setRing s n r) := by
  unfold State.setRing
  refine Within.upd ?_ rfl rfl (.inr rfl) (.inr rfl) (.inr rfl) (.inr rfl) (.inr rfl) (.inl rfl) (.inr rfl) (.inr
      rfl) (.inr rfl) (.inr rfl) (.inr rfl) (.inr rfl) (.inr rfl) (.inr rfl) (.inr rfl) (.inr rfl) (.inr rfl) (.inr
          rfl) (.inr rfl) (.inr rfl) (.inr rfl) (.inr rfl) (.inr rfl) (.inr rfl) (.inr rfl) (.inr rfl) (.inr rfl)
              (.inr rfl) (.inr rfl) (.inr rfl) (.inr rfl) (.inr rfl) (.inr rfl) (.inr rfl) (.inr rfl) (.inr rfl)
                  (.inr rfl) (.inr rfl) (.inr rfl) (.inr rfl) (.inr rfl) (.inr rfl) (.inr rfl) (.inr rfl) (.inr rfl)
                      (.inr rfl) (.inr rfl)
  exact Within.refl _

theorem State.ringDone_within (s : State) (n : Nat) (status : Nat) (tstat : Nat) (len : Nat) (bytes : List Byte) :
    Within 0xc0000000002a0 [] s (State.ringDone s n status tstat len bytes) := by
  unfold State.ringDone
  split
  · exact Within.refl _
  · extract_lets +onlyGivenNames -merge -underBinder x1
    extract_lets +onlyGivenNames -merge -underBinder x2
    have hx2 : Within 0xc0000000002a0 [] s x2 := by
      unfold x2
      exact (Within.mono (State.send_within ..) rfl)
    extract_lets +onlyGivenNames -merge -underBinder x3
    have hx3 : Within 0xc0000000002a0 [] s x3 := by
      unfold x3
      refine Within.trans ?_ (Within.mono (State.setRing_within ..) rfl)
      exact hx2
    extract_lets +onlyGivenNames -merge -underBinder x4
    have hx4 : Within 0xc0000000002a0 [] s x4 := by
      unfold x4
      refine Within.trans ?_ (Within.kind (State.wrn_within ..) rfl .rng rfl rfl)
      exact hx3
    refine Within.ite ?_ ?_
    · refine Within.trans ?_ (Within.mono (State.edgeSource_within ..) rfl)
      exact hx4
    · exact hx4

theorem State.ringAlign_within (s : State) (n : Nat) (a1 : Nat) :
    Within 0xc0000000002a0 [] s (State.ringAlign s n a1) := by
  unfold State.ringAlign
  split
  · exact Within.refl _
  · split
    · refine Within.ite ?_ ?_
      · exact Within.refl _
      · refine Within.trans ?_ (Within.mono (State.ringAlign_within ..) rfl)
        exact (Within.mono (State.ringDone_within ..) rfl)
    · exact Within.refl _

theorem State.ringComplete_within (s : State) (n : Nat) (status : Nat) (tstat : Nat) (len : Nat) (bytes : List Byte) :
    Within 0xc0000000002a0 [] s (State.ringComplete s n status tstat len bytes) := by
  unfold State.ringComplete
  refine Within.trans ?_ (Within.mono (State.ringAlign_within ..) rfl)
  exact (Within.mono (State.ringDone_within ..) rfl)

theorem State.ringPush_within (s : State) (n : Nat) (tstat : Nat) (bytes : List Byte) :
    Within 0xc0000000002a0 [] s (State.ringPush s n tstat bytes) := by
  unfold State.ringPush
  split
  · refine Within.ite ?_ ?_
    · exact (Within.mono (State.ringComplete_within ..) rfl)
    · exact (Within.mono (State.ringComplete_within ..) rfl)
  · refine Within.ite ?_ ?_
    · exact (Within.kind (State.inc_within ..) rfl .rng rfl rfl)
    · exact Within.refl _

theorem State.ringStop_within (s : State) (n : Nat) (code : Nat) :
    Within 0xc0000000000a0 [] s (State.ringStop s n code) := by
  unfold State.ringStop
  extract_lets +onlyGivenNames -merge -underBinder x1 x2
  have hx2 : Within 0xc0000000000a0 [] s x2 := by
    unfold x2
    exact (Within.mono (State.setRing_within ..) rfl)
  extract_lets +onlyGivenNames -merge -underBinder x3
  have hx3 : Within 0xc0000000000a0 [] s x3 := by
    unfold x3
    refine Within.trans ?_ (Within.kind (State.wrb_within ..) rfl .rng rfl rfl)
    exact hx2
  extract_lets +onlyGivenNames -merge -underBinder x4
  have hx4 : Within 0xc0000000000a0 [] s x4 := by
    unfold x4
    refine Within.ite ?_ ?_
    · exact hx3
    · refine Within.trans ?_ (Within.kind (State.wrn_within ..) rfl .rng rfl rfl)
      exact hx3
  refine Within.trans ?_ (Within.kind (State.flag_within ..) rfl .rng rfl rfl)
  exact hx4

theorem State.record_within (s : State) (p : Page) (cls : Nat) (payload : List Byte) :
    Within 0x1008000100000080 [] s (State.record s p cls payload) := by
  unfold State.record
  extract_lets +onlyGivenNames -merge -underBinder x1
  refine Within.ite ?_ ?_
  · refine Within.ite ?_ ?_
    · refine Within.upd ?_ rfl rfl (.inr rfl) (.inr rfl) (.inr rfl) (.inr rfl) (.inr rfl) (.inr rfl) (.inr rfl) (.inr
        rfl) (.inr rfl) (.inr rfl) (.inr rfl) (.inr rfl) (.inr rfl) (.inr rfl) (.inr rfl) (.inr rfl) (.inr rfl) (.inr
            rfl) (.inr rfl) (.inr rfl) (.inr rfl) (.inr rfl) (.inr rfl) (.inr rfl) (.inr rfl) (.inr rfl) (.inr rfl)
                (.inr rfl) (.inr rfl) (.inr rfl) (.inr rfl) (.inr rfl) (.inl rfl) (.inr rfl) (.inr rfl) (.inr rfl)
                    (.inr rfl) (.inr rfl) (.inr rfl) (.inr rfl) (.inr rfl) (.inr rfl) (.inr rfl) (.inr rfl) (.inr
                        rfl) (.inr rfl) (.inr rfl)
      exact Within.refl _
    · refine Within.trans ?_ (Within.kind (State.flag_within ..) rfl .sbx rfl rfl)
      exact (Within.kind (State.inc_within ..) rfl .sbx rfl rfl)
  · refine Within.ite ?_ ?_
    · refine Within.upd ?_ rfl rfl (.inr rfl) (.inr rfl) (.inr rfl) (.inr rfl) (.inr rfl) (.inr rfl) (.inr rfl) (.inr
        rfl) (.inr rfl) (.inr rfl) (.inr rfl) (.inr rfl) (.inr rfl) (.inr rfl) (.inr rfl) (.inr rfl) (.inr rfl) (.inr
            rfl) (.inr rfl) (.inr rfl) (.inr rfl) (.inr rfl) (.inr rfl) (.inr rfl) (.inr rfl) (.inr rfl) (.inr rfl)
                (.inr rfl) (.inr rfl) (.inr rfl) (.inr rfl) (.inr rfl) (.inl rfl) (.inr rfl) (.inr rfl) (.inr rfl)
                    (.inr rfl) (.inr rfl) (.inr rfl) (.inr rfl) (.inr rfl) (.inr rfl) (.inr rfl) (.inr rfl) (.inr
                        rfl) (.inr rfl) (.inr rfl)
      exact Within.refl _
    · refine Within.trans ?_ (Within.kind (State.flag_within ..) rfl .sbx rfl rfl)
      exact (Within.kind (State.inc_within ..) rfl .sbx rfl rfl)

theorem State.sendFrame_within (s : State) (type : Nat) (payload : List Byte) :
    Within 0x20000200 [] s (State.sendFrame s type payload) := by
  unfold State.sendFrame
  refine Within.ite ?_ ?_
  · extract_lets +onlyGivenNames -merge -underBinder x1
    refine Within.trans ?_ (Within.mono (State.send_within ..) rfl)
    refine Within.upd ?_ rfl rfl (.inr rfl) (.inr rfl) (.inr rfl) (.inr rfl) (.inr rfl) (.inr rfl) (.inr rfl) (.inr
        rfl) (.inr rfl) (.inr rfl) (.inr rfl) (.inr rfl) (.inr rfl) (.inr rfl) (.inr rfl) (.inr rfl) (.inr rfl) (.inr
            rfl) (.inr rfl) (.inr rfl) (.inr rfl) (.inr rfl) (.inr rfl) (.inr rfl) (.inr rfl) (.inr rfl) (.inr rfl)
                (.inr rfl) (.inr rfl) (.inl rfl) (.inr rfl) (.inr rfl) (.inr rfl) (.inr rfl) (.inr rfl) (.inr rfl)
                    (.inr rfl) (.inr rfl) (.inr rfl) (.inr rfl) (.inr rfl) (.inr rfl) (.inr rfl) (.inr rfl) (.inr
                        rfl) (.inr rfl) (.inr rfl)
    exact Within.refl _
  · exact Within.refl _

theorem State.servicePump_within (s : State) (n : Nat) (a1 : Nat) :
    Within 0xc0000200002a0 [] s (State.servicePump s n a1) := by
  unfold State.servicePump
  split
  · exact Within.refl _
  · split
    · extract_lets +onlyGivenNames -merge -underBinder x1
      have hx1 : Within 0xc0000200002a0 [] s x1 := by
        unfold x1
        exact (Within.mono (State.sendFrame_within ..) rfl)
      refine Within.trans ?_ (Within.mono (State.servicePump_within ..) rfl)
      refine Within.trans ?_ (Within.mono (State.ringComplete_within ..) rfl)
      exact hx1
    · exact Within.refl _

theorem State.serviceAll_within (s : State) :
    Within 0xc0000200002a0 [] s (State.serviceAll s) := by
  unfold State.serviceAll
  extract_lets +onlyGivenNames -merge -underBinder x1
  have hx1 : Within 0xc0000200002a0 [] s x1 := by
    unfold x1
    exact (Within.mono (State.servicePump_within ..) rfl)
  refine Within.trans ?_ (Within.mono (State.servicePump_within ..) rfl)
  exact hx1

theorem State.mirrorItem_within (s : State) (kind : Nat) (effect : Nat) (content : List Byte) :
    Within 0x20000200 [] s (State.mirrorItem s kind effect content) := by
  unfold State.mirrorItem
  extract_lets +onlyGivenNames -merge -underBinder x1
  extract_lets +onlyGivenNames -merge -underBinder x2 x3
  have hx3 : Within 0x20000200 [] s x3 := by
    unfold x3
    refine Within.upd ?_ rfl rfl (.inr rfl) (.inr rfl) (.inr rfl) (.inr rfl) (.inr rfl) (.inr rfl) (.inr rfl) (.inr
        rfl) (.inr rfl) (.inr rfl) (.inr rfl) (.inr rfl) (.inr rfl) (.inr rfl) (.inr rfl) (.inr rfl) (.inr rfl) (.inr
            rfl) (.inr rfl) (.inr rfl) (.inr rfl) (.inr rfl) (.inr rfl) (.inr rfl) (.inr rfl) (.inr rfl) (.inr rfl)
                (.inr rfl) (.inr rfl) (.inl rfl) (.inr rfl) (.inr rfl) (.inr rfl) (.inr rfl) (.inr rfl) (.inr rfl)
                    (.inr rfl) (.inr rfl) (.inr rfl) (.inr rfl) (.inr rfl) (.inr rfl) (.inr rfl) (.inr rfl) (.inr
                        rfl) (.inr rfl) (.inr rfl)
    exact Within.refl _
  refine Within.trans ?_ (Within.mono (State.sendFrame_within ..) rfl)
  exact hx3

theorem State.acceptLocal_within (s : State) (kind : Nat) (content : List Byte) :
    Within 0x8000000 [] s (State.acceptLocal s kind content) := by
  unfold State.acceptLocal
  refine Within.upd ?_ rfl rfl (.inr rfl) (.inr rfl) (.inr rfl) (.inr rfl) (.inr rfl) (.inr rfl) (.inr rfl) (.inr
      rfl) (.inr rfl) (.inr rfl) (.inr rfl) (.inr rfl) (.inr rfl) (.inr rfl) (.inr rfl) (.inr rfl) (.inr rfl) (.inr
          rfl) (.inr rfl) (.inr rfl) (.inr rfl) (.inr rfl) (.inr rfl) (.inr rfl) (.inr rfl) (.inr rfl) (.inr rfl)
              (.inl rfl) (.inr rfl) (.inr rfl) (.inr rfl) (.inr rfl) (.inr rfl) (.inr rfl) (.inr rfl) (.inr rfl)
                  (.inr rfl) (.inr rfl) (.inr rfl) (.inr rfl) (.inr rfl) (.inr rfl) (.inr rfl) (.inr rfl) (.inr rfl)
                      (.inr rfl) (.inr rfl)
  exact Within.refl _

theorem State.acceptEvent_within (s : State) (kind : Nat) (content : List Byte) :
    Within 0x28000200 [] s (State.acceptEvent s kind content) := by
  unfold State.acceptEvent
  extract_lets +onlyGivenNames -merge -underBinder x1
  have hx1 : Within 0x28000200 [] s x1 := by
    unfold x1
    exact (Within.mono (State.mirrorItem_within ..) rfl)
  refine Within.upd ?_ rfl rfl (.inr rfl) (.inr rfl) (.inr rfl) (.inr rfl) (.inr rfl) (.inr rfl) (.inr rfl) (.inr
      rfl) (.inr rfl) (.inr rfl) (.inr rfl) (.inr rfl) (.inr rfl) (.inr rfl) (.inr rfl) (.inr rfl) (.inr rfl) (.inr
          rfl) (.inr rfl) (.inr rfl) (.inr rfl) (.inr rfl) (.inr rfl) (.inr rfl) (.inr rfl) (.inr rfl) (.inr rfl)
              (.inl rfl) (.inr rfl) (.inr rfl) (.inr rfl) (.inr rfl) (.inr rfl) (.inr rfl) (.inr rfl) (.inr rfl)
                  (.inr rfl) (.inr rfl) (.inr rfl) (.inr rfl) (.inr rfl) (.inr rfl) (.inr rfl) (.inr rfl) (.inr rfl)
                      (.inr rfl) (.inr rfl)
  exact hx1

theorem State.hostEvent_within (s : State) (p : Page) (o : Nat) (v : Word) :
    Within 0x28000200 [] s (State.hostEvent s p o v) := by
  unfold State.hostEvent
  refine Within.ite ?_ ?_
  · exact (Within.mono (State.acceptEvent_within ..) rfl)
  · exact Within.refl _

theorem State.bookRole_within (s : State) (stays : Bool) :
    Within 0x101000000000 [] s (State.bookRole s stays) := by
  unfold State.bookRole
  extract_lets +onlyGivenNames -merge -underBinder x1
  extract_lets +onlyGivenNames -merge -underBinder x2
  extract_lets +onlyGivenNames -merge -underBinder x3
  refine Within.upd ?_ rfl rfl (.inr rfl) (.inr rfl) (.inr rfl) (.inr rfl) (.inr rfl) (.inr rfl) (.inr rfl) (.inr
      rfl) (.inr rfl) (.inr rfl) (.inr rfl) (.inr rfl) (.inr rfl) (.inr rfl) (.inr rfl) (.inr rfl) (.inr rfl) (.inr
          rfl) (.inr rfl) (.inr rfl) (.inr rfl) (.inr rfl) (.inr rfl) (.inr rfl) (.inr rfl) (.inr rfl) (.inr rfl)
              (.inr rfl) (.inr rfl) (.inr rfl) (.inr rfl) (.inr rfl) (.inr rfl) (.inr rfl) (.inr rfl) (.inr rfl)
                  (.inl rfl) (.inr rfl) (.inr rfl) (.inr rfl) (.inr rfl) (.inr rfl) (.inr rfl) (.inr rfl) (.inl rfl)
                      (.inr rfl) (.inr rfl)
  exact Within.refl _

theorem State.takeMode_within (s : State) (m : Mode) :
    Within 0x101000000009 [] s (State.takeMode s m) := by
  unfold State.takeMode
  refine Within.trans ?_ (Within.mono (State.setMode_within ..) rfl)
  exact (Within.mono (State.bookRole_within ..) rfl)

theorem State.pairLow_within (s : State) (m : Nat) :
    Within 0x2000000000000400200 [] s (State.pairLow s m) := by
  unfold State.pairLow
  extract_lets +onlyGivenNames -merge -underBinder x1
  refine Within.ite ?_ ?_
  · exact Within.refl _
  · extract_lets +onlyGivenNames -merge -underBinder x2 x3
    have hx3 : Within 0x2000000000000400200 [] s x3 := by
      unfold x3
      refine Within.upd ?_ rfl rfl (.inr rfl) (.inr rfl) (.inr rfl) (.inr rfl) (.inr rfl) (.inr rfl) (.inr rfl) (.inr
          rfl) (.inr rfl) (.inr rfl) (.inr rfl) (.inr rfl) (.inr rfl) (.inr rfl) (.inr rfl) (.inr rfl) (.inr rfl)
              (.inr rfl) (.inr rfl) (.inr rfl) (.inr rfl) (.inr rfl) (.inl rfl) (.inr rfl) (.inr rfl) (.inr rfl)
                  (.inr rfl) (.inr rfl) (.inr rfl) (.inr rfl) (.inr rfl) (.inr rfl) (.inr rfl) (.inr rfl) (.inr rfl)
                      (.inr rfl) (.inr rfl) (.inr rfl) (.inr rfl) (.inr rfl) (.inr rfl) (.inr rfl) (.inr rfl) (.inr
                          rfl) (.inr rfl) (.inr rfl) (.inr rfl)
      exact Within.refl _
    refine Within.trans ?_ (Within.mono (State.send_within ..) rfl)
    refine Within.trans ?_ (Within.kind (State.wrn_within ..) rfl .pwm rfl rfl)
    exact hx3

theorem State.forceSafe_within (s : State) :
    Within 0x200000000002340020f [] s (State.forceSafe s) := by
  unfold State.forceSafe
  extract_lets +onlyGivenNames -merge -underBinder x1
  have hx1 : Within 0x200000000002340020f [] s x1 := by
    unfold x1
    refine Within.foldl ?_ (fun t2 a3 h4 => ?_)
    · exact Within.refl _
    · refine Within.trans ?_ (Within.mono (State.pairLow_within ..) rfl)
      exact h4
  try clear_value x1
  refine Within.upd ?_ rfl rfl (.inl rfl) (.inl rfl) (.inl rfl) (.inl rfl) (.inr rfl) (.inr rfl) (.inr rfl) (.inr
      rfl) (.inr rfl) (.inr rfl) (.inr rfl) (.inr rfl) (.inr rfl) (.inr rfl) (.inr rfl) (.inr rfl) (.inr rfl) (.inr
          rfl) (.inr rfl) (.inr rfl) (.inr rfl) (.inr rfl) (.inr rfl) (.inr rfl) (.inl rfl) (.inl rfl) (.inr rfl)
              (.inr rfl) (.inr rfl) (.inl rfl) (.inr rfl) (.inr rfl) (.inr rfl) (.inr rfl) (.inr rfl) (.inr rfl)
                  (.inr rfl) (.inr rfl) (.inr rfl) (.inr rfl) (.inr rfl) (.inr rfl) (.inr rfl) (.inr rfl) (.inr rfl)
                      (.inr rfl) (.inr rfl)
  exact hx1

theorem State.outEntry_within (s : State) (n : Nat) :
    Within 0x200100890112340028f [] s (State.outEntry s n) := by
  unfold State.outEntry
  refine Within.ite ?_ ?_
  · extract_lets +onlyGivenNames -merge -underBinder x1
    extract_lets +onlyGivenNames -merge -underBinder x2
    have hx2 : Within 0x200100890112340028f [] s x2 := by
      unfold x2
      refine Within.trans ?_ (Within.mono (State.forceSafe_within ..) rfl)
      exact (Within.mono (State.bookRole_within ..) rfl)
    extract_lets +onlyGivenNames -merge -underBinder x3
    have hx3 : Within 0x200100890112340028f [] s x3 := by
      unfold x3
      refine Within.trans ?_ (Within.mono (State.sendFrame_within ..) rfl)
      exact hx2
    extract_lets +onlyGivenNames -merge -underBinder x4
    have hx4 : Within 0x200100890112340028f [] s x4 := by
      unfold x4
      refine Within.trans ?_ (Within.mono (State.record_within ..) rfl)
      exact hx3
    extract_lets +onlyGivenNames -merge -underBinder x5
    have hx5 : Within 0x200100890112340028f [] s x5 := by
      unfold x5
      refine Within.trans ?_ (Within.kind (State.wrf_within ..) rfl .sys rfl rfl)
      exact hx4
    try clear_value x5
    refine Within.upd ?_ rfl rfl (.inl rfl) (.inr rfl) (.inr rfl) (.inl rfl) (.inr rfl) (.inr rfl) (.inr rfl) (.inr
        rfl) (.inr rfl) (.inr rfl) (.inr rfl) (.inr rfl) (.inr rfl) (.inr rfl) (.inr rfl) (.inr rfl) (.inr rfl) (.inr
            rfl) (.inr rfl) (.inr rfl) (.inr rfl) (.inr rfl) (.inr rfl) (.inr rfl) (.inr rfl) (.inr rfl) (.inr rfl)
                (.inr rfl) (.inr rfl) (.inr rfl) (.inr rfl) (.inr rfl) (.inr rfl) (.inr rfl) (.inr rfl) (.inr rfl)
                    (.inr rfl) (.inr rfl) (.inr rfl) (.inr rfl) (.inr rfl) (.inr rfl) (.inr rfl) (.inr rfl) (.inr
                        rfl) (.inr rfl) (.inr rfl)
    exact hx5
  · refine Within.ite ?_ ?_
    · refine Within.ite ?_ ?_
      · extract_lets +onlyGivenNames -merge -underBinder x6 x7
        have hx7 : Within 0x200100890112340028f [] s x7 := by
          unfold x7
          refine Within.upd ?_ rfl rfl (.inr rfl) (.inr rfl) (.inr rfl) (.inr rfl) (.inr rfl) (.inr rfl) (.inr rfl)
              (.inr rfl) (.inr rfl) (.inr rfl) (.inr rfl) (.inr rfl) (.inr rfl) (.inr rfl) (.inr rfl) (.inr rfl)
                  (.inr rfl) (.inr rfl) (.inr rfl) (.inr rfl) (.inr rfl) (.inr rfl) (.inr rfl) (.inr rfl) (.inr rfl)
                      (.inr rfl) (.inr rfl) (.inr rfl) (.inr rfl) (.inr rfl) (.inr rfl) (.inr rfl) (.inl rfl) (.inr
                          rfl) (.inr rfl) (.inr rfl) (.inr rfl) (.inr rfl) (.inr rfl) (.inr rfl) (.inr rfl) (.inr
                              rfl) (.inr rfl) (.inr rfl) (.inr rfl) (.inr rfl) (.inr rfl)
          exact Within.refl _
        refine Within.trans ?_ (Within.kind (State.wrf_within ..) rfl .sys rfl rfl)
        exact hx7
      · exact (Within.kind (State.incf_within ..) rfl .sys rfl rfl)
    · exact Within.refl _

theorem State.modSeg_within (s : State) (num : Nat) (f : Seg → Seg) :
    Within 0x80000000 [] s (State.modSeg s num f) := by
  unfold State.modSeg
  refine Within.upd ?_ rfl rfl (.inr rfl) (.inr rfl) (.inr rfl) (.inr rfl) (.inr rfl) (.inr rfl) (.inr rfl) (.inr
      rfl) (.inr rfl) (.inr rfl) (.inr rfl) (.inr rfl) (.inr rfl) (.inr rfl) (.inr rfl) (.inr rfl) (.inr rfl) (.inr
          rfl) (.inr rfl) (.inr rfl) (.inr rfl) (.inr rfl) (.inr rfl) (.inr rfl) (.inr rfl) (.inr rfl) (.inr rfl)
              (.inr rfl) (.inr rfl) (.inr rfl) (.inr rfl) (.inl rfl) (.inr rfl) (.inr rfl) (.inr rfl) (.inr rfl)
                  (.inr rfl) (.inr rfl) (.inr rfl) (.inr rfl) (.inr rfl) (.inr rfl) (.inr rfl) (.inr rfl) (.inr rfl)
                      (.inr rfl) (.inr rfl)
  exact Within.refl _

theorem State.freezeSeg_within (s : State) (g : Seg) :
    Within 0x20008000080000080 [] s (State.freezeSeg s g).2 := by
  unfold State.freezeSeg
  split
  · refine Within.pair ?_
    exact Within.refl _
  · split
    · refine Within.pair ?_
      exact (Within.mono (State.modSeg_within ..) rfl)
    · refine Within.pair ?_
      refine Within.trans ?_ (Within.kind (State.flag_within ..) rfl .ost rfl rfl)
      exact (Within.kind (State.inc_within ..) rfl .ost rfl rfl)

theorem State.freezeSegs_within (s : State) (a1 : List Seg) :
    Within 0x20008000080000080 [] s (State.freezeSegs s a1).2.2 := by
  unfold State.freezeSegs
  split
  · refine Within.pairIn ?_
    refine Within.pair ?_
    exact Within.refl _
  · split
    rename_i y1 y2 e3
    have hy2 : Within 0x20008000080000080 [] s y2 := by
      refine Within.snd e3 ?_
      exact (Within.mono (State.freezeSeg_within ..) rfl)
    split
    · split
      rename_i y4 y5 y6 e7
      have hy6 : Within 0x20008000080000080 [] s y6 := by
        refine Within.thd e7 ?_
        refine Within.trans ?_ (Within.mono (State.freezeSegs_within ..) rfl)
        exact hy2
      refine Within.pairIn ?_
      refine Within.pair ?_
      exact hy6
    · refine Within.pairIn ?_
      refine Within.pair ?_
      exact hy2

theorem State.burstTrigger_within (s : State) :
    Within 0x808000080000080 [] s (State.burstTrigger s) := by
  unfold State.burstTrigger
  refine Within.ite ?_ ?_
  · exact Within.refl _
  · refine Within.ite ?_ ?_
    · refine Within.trans ?_ (Within.kind (State.flag_within ..) rfl .way rfl rfl)
      exact (Within.kind (State.inc_within ..) rfl .way rfl rfl)
    · refine Within.ite ?_ ?_
      · exact Within.refl _
      · extract_lets +onlyGivenNames -merge -underBinder x1
        refine Within.upd ?_ rfl rfl (.inr rfl) (.inr rfl) (.inr rfl) (.inr rfl) (.inr rfl) (.inr rfl) (.inr rfl)
            (.inr rfl) (.inr rfl) (.inr rfl) (.inr rfl) (.inr rfl) (.inr rfl) (.inr rfl) (.inr rfl) (.inr rfl) (.inr
                rfl) (.inr rfl) (.inr rfl) (.inr rfl) (.inr rfl) (.inr rfl) (.inr rfl) (.inr rfl) (.inr rfl) (.inr
                    rfl) (.inr rfl) (.inr rfl) (.inr rfl) (.inr rfl) (.inr rfl) (.inl rfl) (.inr rfl) (.inr rfl)
                        (.inr rfl) (.inr rfl) (.inr rfl) (.inr rfl) (.inr rfl) (.inr rfl) (.inr rfl) (.inr rfl) (.inr
                            rfl) (.inr rfl) (.inr rfl) (.inr rfl) (.inr rfl)
        exact Within.refl _

theorem State.trigger_within (s : State) (cause : Nat) (detail : Nat) :
    Within 0x20808000080000080 [] s (State.trigger s cause detail) := by
  unfold State.trigger
  refine Within.ite ?_ ?_
  · exact Within.refl _
  · extract_lets +onlyGivenNames -merge -underBinder x1
    extract_lets +onlyGivenNames -merge -underBinder x2
    have hx2 : Within 0x20808000080000080 [] s x2 := by
      unfold x2
      exact (Within.kind (State.wrn_within ..) rfl .way rfl rfl)
    extract_lets +onlyGivenNames -merge -underBinder x3
    extract_lets +onlyGivenNames -merge -underBinder x4
    extract_lets +onlyGivenNames -merge -underBinder x5
    have hx5 : Within 0x20808000080000080 [] s x5 := by
      unfold x5
      split
      · refine Within.trans ?_ (Within.kind (State.wrn_within ..) rfl .way rfl rfl)
        exact hx2
      · exact hx2
    split
    rename_i y6 y7 y8 e9
    have hy8 : Within 0x20808000080000080 [] s y8 := by
      refine Within.thd e9 ?_
      refine Within.trans ?_ (Within.mono (State.freezeSegs_within ..) rfl)
      exact hx5
    extract_lets +onlyGivenNames -merge -underBinder x10
    have hx10 : Within 0x20808000080000080 [] s x10 := by
      unfold x10
      refine Within.ite ?_ ?_
      · refine Within.trans ?_ (Within.kind (State.flag_within ..) rfl .way rfl rfl)
        refine Within.trans ?_ (Within.kind (State.inc_within ..) rfl .way rfl rfl)
        exact hy8
      · exact hy8
    extract_lets +onlyGivenNames -merge -underBinder x11
    refine Within.trans ?_ (Within.mono (State.burstTrigger_within ..) rfl)
    refine Within.upd ?_ rfl rfl (.inr rfl) (.inr rfl) (.inr rfl) (.inr rfl) (.inr rfl) (.inr rfl) (.inr rfl) (.inr
        rfl) (.inr rfl) (.inr rfl) (.inr rfl) (.inr rfl) (.inr rfl) (.inr rfl) (.inr rfl) (.inr rfl) (.inr rfl) (.inr
            rfl) (.inr rfl) (.inr rfl) (.inr rfl) (.inr rfl) (.inr rfl) (.inr rfl) (.inr rfl) (.inr rfl) (.inr rfl)
                (.inr rfl) (.inr rfl) (.inr rfl) (.inr rfl) (.inl rfl) (.inr rfl) (.inr rfl) (.inr rfl) (.inr rfl)
                    (.inr rfl) (.inr rfl) (.inr rfl) (.inr rfl) (.inr rfl) (.inr rfl) (.inr rfl) (.inr rfl) (.inr
                        rfl) (.inr rfl) (.inr rfl)
    exact hx10

theorem State.burstPush_within (s : State) (i : Nat) (bit : Nat) (y : Int) :
    Within 0x80000000 [] s (State.burstPush s i bit y) := by
  unfold State.burstPush
  extract_lets +onlyGivenNames -merge -underBinder x1
  extract_lets +onlyGivenNames -merge -underBinder x2
  refine Within.ite ?_ ?_
  · exact Within.refl _
  · extract_lets +onlyGivenNames -merge -underBinder x3
    refine Within.upd ?_ rfl rfl (.inr rfl) (.inr rfl) (.inr rfl) (.inr rfl) (.inr rfl) (.inr rfl) (.inr rfl) (.inr
        rfl) (.inr rfl) (.inr rfl) (.inr rfl) (.inr rfl) (.inr rfl) (.inr rfl) (.inr rfl) (.inr rfl) (.inr rfl) (.inr
            rfl) (.inr rfl) (.inr rfl) (.inr rfl) (.inr rfl) (.inr rfl) (.inr rfl) (.inr rfl) (.inr rfl) (.inr rfl)
                (.inr rfl) (.inr rfl) (.inr rfl) (.inr rfl) (.inl rfl) (.inr rfl) (.inr rfl) (.inr rfl) (.inr rfl)
                    (.inr rfl) (.inr rfl) (.inr rfl) (.inr rfl) (.inr rfl) (.inr rfl) (.inr rfl) (.inr rfl) (.inr
                        rfl) (.inr rfl) (.inr rfl)
    exact Within.refl _

theorem State.wayEntry_within (s : State) (type : Nat) (payload : List Byte) :
    Within 0x80000000 [] s (State.wayEntry s type payload) := by
  unfold State.wayEntry
  refine Within.upd ?_ rfl rfl (.inr rfl) (.inr rfl) (.inr rfl) (.inr rfl) (.inr rfl) (.inr rfl) (.inr rfl) (.inr
      rfl) (.inr rfl) (.inr rfl) (.inr rfl) (.inr rfl) (.inr rfl) (.inr rfl) (.inr rfl) (.inr rfl) (.inr rfl) (.inr
          rfl) (.inr rfl) (.inr rfl) (.inr rfl) (.inr rfl) (.inr rfl) (.inr rfl) (.inr rfl) (.inr rfl) (.inr rfl)
              (.inr rfl) (.inr rfl) (.inr rfl) (.inr rfl) (.inl rfl) (.inr rfl) (.inr rfl) (.inr rfl) (.inr rfl)
                  (.inr rfl) (.inr rfl) (.inr rfl) (.inr rfl) (.inr rfl) (.inr rfl) (.inr rfl) (.inr rfl) (.inr rfl)
                      (.inr rfl) (.inr rfl)
  exact Within.refl _

theorem State.pageFault_within (s : State) (p : Page) :
    Within 0x8000000000090 [p] s (State.pageFault s p) := by
  unfold State.pageFault
  refine Within.trans ?_ (Within.page (State.flag_within ..) rfl)
  exact (Within.mono (State.setPage_within ..) rfl)

end Sys2Proof.Machine
end

