-- ==== Sys2Proof/Laws/FrameNet.lean ====
section
/-! SUPPORT. What each operation of Machine/Net.lean may change (Laws/Within.lean). -/

namespace Sys2Proof.Machine

open Sys2Proof

theorem State.modCan_within (s : State) (c : Nat) (f : CanSt → CanSt) :
    Within 0x200000000 [] s (State.modCan s c f) := by
  unfold State.modCan
  refine Within.upd ?_ rfl rfl (.inr rfl) (.inr rfl) (.inr rfl) (.inr rfl) (.inr rfl) (.inr rfl) (.inr rfl) (.inr
      rfl) (.inr rfl) (.inr rfl) (.inr rfl) (.inr rfl) (.inr rfl) (.inr rfl) (.inr rfl) (.inr rfl) (.inr rfl) (.inr
          rfl) (.inr rfl) (.inr rfl) (.inr rfl) (.inr rfl) (.inr rfl) (.inr rfl) (.inr rfl) (.inr rfl) (.inr rfl)
              (.inr rfl) (.inr rfl) (.inr rfl) (.inr rfl) (.inr rfl) (.inr rfl) (.inl rfl) (.inr rfl) (.inr rfl)
                  (.inr rfl) (.inr rfl) (.inr rfl) (.inr rfl) (.inr rfl) (.inr rfl) (.inr rfl) (.inr rfl) (.inr rfl)
                      (.inr rfl) (.inr rfl)
  exact Within.refl _

theorem State.modEth_within (s : State) (p : Nat) (f : EthPort → EthPort) :
    Within 0x400000000 [] s (State.modEth s p f) := by
  unfold State.modEth
  refine Within.upd ?_ rfl rfl (.inr rfl) (.inr rfl) (.inr rfl) (.inr rfl) (.inr rfl) (.inr rfl) (.inr rfl) (.inr
      rfl) (.inr rfl) (.inr rfl) (.inr rfl) (.inr rfl) (.inr rfl) (.inr rfl) (.inr rfl) (.inr rfl) (.inr rfl) (.inr
          rfl) (.inr rfl) (.inr rfl) (.inr rfl) (.inr rfl) (.inr rfl) (.inr rfl) (.inr rfl) (.inr rfl) (.inr rfl)
              (.inr rfl) (.inr rfl) (.inr rfl) (.inr rfl) (.inr rfl) (.inr rfl) (.inr rfl) (.inl rfl) (.inr rfl)
                  (.inr rfl) (.inr rfl) (.inr rfl) (.inr rfl) (.inr rfl) (.inr rfl) (.inr rfl) (.inr rfl) (.inr rfl)
                      (.inr rfl) (.inr rfl)
  exact Within.refl _

theorem State.canOwn_within (s : State) (c : Nat) (f : CanFrame) (again : Bool) :
    Within 0x200000000 [] s (State.canOwn s c f again) := by
  unfold State.canOwn
  refine Within.ite ?_ ?_
  · exact (Within.mono (State.modCan_within ..) rfl)
  · exact Within.refl _

theorem State.takePrpSeq_within (s : State) (p : Nat) :
    Within 0x400000000 [] s (State.takePrpSeq s p).2 := by
  unfold State.takePrpSeq
  extract_lets +onlyGivenNames -merge -underBinder x1
  refine Within.pair ?_
  refine Within.upd ?_ rfl rfl (.inr rfl) (.inr rfl) (.inr rfl) (.inr rfl) (.inr rfl) (.inr rfl) (.inr rfl) (.inr
      rfl) (.inr rfl) (.inr rfl) (.inr rfl) (.inr rfl) (.inr rfl) (.inr rfl) (.inr rfl) (.inr rfl) (.inr rfl) (.inr
          rfl) (.inr rfl) (.inr rfl) (.inr rfl) (.inr rfl) (.inr rfl) (.inr rfl) (.inr rfl) (.inr rfl) (.inr rfl)
              (.inr rfl) (.inr rfl) (.inr rfl) (.inr rfl) (.inr rfl) (.inr rfl) (.inr rfl) (.inl rfl) (.inr rfl)
                  (.inr rfl) (.inr rfl) (.inr rfl) (.inr rfl) (.inr rfl) (.inr rfl) (.inr rfl) (.inr rfl) (.inr rfl)
                      (.inr rfl) (.inr rfl)
  exact Within.refl _

theorem State.ethQueue_within (s : State) (p : Nat) (f : EthOwn) (t : Option (Nat × Nat)) :
    Within 0x400000000 [] s (State.ethQueue s p f t) := by
  unfold State.ethQueue
  refine Within.ite ?_ ?_
  · exact (Within.mono (State.modEth_within ..) rfl)
  · exact Within.refl _

theorem State.ethOwn_within (s : State) (p : Nat) (f : EthOwn) :
    Within 0x10000000000400000000 [] s (State.ethOwn s p f) := by
  unfold State.ethOwn
  refine Within.ite ?_ ?_
  · split
    rename_i y1 y2 e3
    have hy2 : Within 0x10000000000400000000 [] s y2 := by
      refine Within.snd e3 ?_
      exact (Within.mono (State.takePrpSeq_within ..) rfl)
    extract_lets +onlyGivenNames -merge -underBinder x4
    have hx4 : Within 0x10000000000400000000 [] s x4 := by
      unfold x4
      refine Within.trans ?_ (Within.mono (State.ethQueue_within ..) rfl)
      exact hy2
    refine Within.ite ?_ ?_
    · refine Within.trans ?_ (Within.mono (State.ethQueue_within ..) rfl)
      exact hx4
    · refine Within.trans ?_ (Within.kind (State.inc_within ..) rfl .eth rfl rfl)
      exact hx4
  · exact (Within.mono (State.ethQueue_within ..) rfl)

theorem State.ethDatagram_within (s : State) (p : Nat) (e : Nat) (srcMac : Nat) (srcIp : Nat) (port : Nat) (data :
    List Byte) :
    Within 0x10000000000400000000 [] s (State.ethDatagram s p e srcMac srcIp port data) := by
  unfold State.ethDatagram
  refine Within.ite ?_ ?_
  · exact (Within.kind (State.inc_within ..) rfl .eth rfl rfl)
  · extract_lets +onlyGivenNames -merge -underBinder x1
    exact (Within.mono (State.ethOwn_within ..) rfl)

theorem State.route_within (s : State) (m : Msg) :
    Within 0x10000000000600000000 [] s (State.route s m) := by
  unfold State.route
  split
  · extract_lets +onlyGivenNames -merge -underBinder x1
    extract_lets +onlyGivenNames -merge -underBinder x2
    extract_lets +onlyGivenNames -merge -underBinder x3
    refine Within.ite ?_ ?_
    · exact (Within.mono (State.ethDatagram_within ..) rfl)
    · exact (Within.mono (State.canOwn_within ..) rfl)
  · extract_lets +onlyGivenNames -merge -underBinder x4
    extract_lets +onlyGivenNames -merge -underBinder x5
    refine Within.ite ?_ ?_
    · exact (Within.mono (State.ethDatagram_within ..) rfl)
    · exact (Within.mono (State.canOwn_within ..) rfl)
  · exact (Within.mono (State.ethOwn_within ..) rfl)
  · exact (Within.mono (State.canOwn_within ..) rfl)
  · refine Within.ite ?_ ?_
    · exact (Within.mono (State.ethOwn_within ..) rfl)
    · exact Within.refl _
  · exact (Within.mono (State.canOwn_within ..) rfl)
  · exact Within.refl _

theorem State.sendNet_within (s : State) (m : Msg) :
    Within 0x10000000000600000200 [] s (State.sendNet s m) := by
  unfold State.sendNet
  refine Within.trans ?_ (Within.mono (State.route_within ..) rfl)
  exact (Within.mono (State.send_within ..) rfl)

end Sys2Proof.Machine
end

