-- ==== Sys2Proof/Laws/FrameAuth.lean ====
section
/-! SUPPORT. What each operation of Machine/Auth.lean may change (Laws/Within.lean). -/

namespace Sys2Proof.Machine

open Sys2Proof

theorem State.setKeySlot_within (s : State) (k : Nat) (v : KeySlot) :
    Within 0x80000000000 [] s (State.setKeySlot s k v) := by
  unfold State.setKeySlot
  refine Within.upd ?_ rfl rfl (.inr rfl) (.inr rfl) (.inr rfl) (.inr rfl) (.inr rfl) (.inr rfl) (.inr rfl) (.inr
      rfl) (.inr rfl) (.inr rfl) (.inr rfl) (.inr rfl) (.inr rfl) (.inr rfl) (.inr rfl) (.inr rfl) (.inr rfl) (.inr
          rfl) (.inr rfl) (.inr rfl) (.inr rfl) (.inr rfl) (.inr rfl) (.inr rfl) (.inr rfl) (.inr rfl) (.inr rfl)
              (.inr rfl) (.inr rfl) (.inr rfl) (.inr rfl) (.inr rfl) (.inr rfl) (.inr rfl) (.inr rfl) (.inr rfl)
                  (.inr rfl) (.inr rfl) (.inr rfl) (.inr rfl) (.inr rfl) (.inr rfl) (.inr rfl) (.inl rfl) (.inr rfl)
                      (.inr rfl) (.inr rfl)
  exact Within.refl _

theorem State.commitCounter_within (s : State) (k : Nat) (n : Nat) :
    Within 0x80000000000 [] s (State.commitCounter s k n) := by
  unfold State.commitCounter
  extract_lets +onlyGivenNames -merge -underBinder x1
  exact (Within.mono (State.setKeySlot_within ..) rfl)

theorem State.raiseCounter_within (s : State) (k : Nat) (n : Nat) :
    Within 0x10000480000000000 [] s (State.raiseCounter s k n) := by
  unfold State.raiseCounter
  refine Within.ite ?_ ?_
  · exact Within.refl _
  · refine Within.ite ?_ ?_
    · refine Within.trans ?_ (Within.mono (State.writeDeferred_within ..) rfl)
      refine Within.upd ?_ rfl rfl (.inr rfl) (.inr rfl) (.inr rfl) (.inr rfl) (.inr rfl) (.inr rfl) (.inr rfl) (.inr
          rfl) (.inr rfl) (.inr rfl) (.inr rfl) (.inr rfl) (.inr rfl) (.inr rfl) (.inr rfl) (.inr rfl) (.inr rfl)
              (.inr rfl) (.inr rfl) (.inr rfl) (.inr rfl) (.inr rfl) (.inr rfl) (.inr rfl) (.inr rfl) (.inr rfl)
                  (.inr rfl) (.inr rfl) (.inr rfl) (.inr rfl) (.inr rfl) (.inr rfl) (.inr rfl) (.inr rfl) (.inr rfl)
                      (.inr rfl) (.inr rfl) (.inr rfl) (.inr rfl) (.inr rfl) (.inr rfl) (.inr rfl) (.inr rfl) (.inr
                          rfl) (.inr rfl) (.inr rfl) (.inl rfl)
      exact Within.refl _
    · exact (Within.mono (State.commitCounter_within ..) rfl)

theorem State.countersResume_within (s : State) :
    Within 0x480000000000 [] s (State.countersResume s) := by
  unfold State.countersResume
  refine Within.foldl ?_ (fun t1 a2 h3 => ?_)
  · refine Within.upd ?_ rfl rfl (.inr rfl) (.inr rfl) (.inr rfl) (.inr rfl) (.inr rfl) (.inr rfl) (.inr rfl) (.inr
      rfl) (.inr rfl) (.inr rfl) (.inr rfl) (.inr rfl) (.inr rfl) (.inr rfl) (.inr rfl) (.inr rfl) (.inr rfl) (.inr
          rfl) (.inr rfl) (.inr rfl) (.inr rfl) (.inr rfl) (.inr rfl) (.inr rfl) (.inr rfl) (.inr rfl) (.inr rfl)
              (.inr rfl) (.inr rfl) (.inr rfl) (.inr rfl) (.inr rfl) (.inr rfl) (.inr rfl) (.inr rfl) (.inr rfl)
                  (.inr rfl) (.inr rfl) (.inr rfl) (.inr rfl) (.inr rfl) (.inr rfl) (.inr rfl) (.inr rfl) (.inr rfl)
                      (.inr rfl) (.inl rfl)
    exact Within.refl _
  · refine Within.trans ?_ (Within.mono (State.commitCounter_within ..) rfl)
    exact h3

theorem State.commandRecord_within (s : State) (path : CmdPath) (m : List Byte) (status : Nat) :
    Within 0x1008000100000080 [] s (State.commandRecord s path m status) := by
  unfold State.commandRecord
  exact (Within.mono (State.record_within ..) rfl)

theorem State.addCompletion_within (s : State) (path : CmdPath) (m : List Byte) (mseq : Nat) (status : Nat) (effect :
    Nat) (decided : Bool) :
    Within 0x10000000 [] s (State.addCompletion s path m mseq status effect decided) := by
  unfold State.addCompletion
  refine Within.upd ?_ rfl rfl (.inr rfl) (.inr rfl) (.inr rfl) (.inr rfl) (.inr rfl) (.inr rfl) (.inr rfl) (.inr
      rfl) (.inr rfl) (.inr rfl) (.inr rfl) (.inr rfl) (.inr rfl) (.inr rfl) (.inr rfl) (.inr rfl) (.inr rfl) (.inr
          rfl) (.inr rfl) (.inr rfl) (.inr rfl) (.inr rfl) (.inr rfl) (.inr rfl) (.inr rfl) (.inr rfl) (.inr rfl)
              (.inr rfl) (.inl rfl) (.inr rfl) (.inr rfl) (.inr rfl) (.inr rfl) (.inr rfl) (.inr rfl) (.inr rfl)
                  (.inr rfl) (.inr rfl) (.inr rfl) (.inr rfl) (.inr rfl) (.inr rfl) (.inr rfl) (.inr rfl) (.inr rfl)
                      (.inr rfl) (.inr rfl)
  exact Within.refl _

theorem State.cmdReject_within (s : State) (path : CmdPath) (m : List Byte) (status : Nat) :
    Within 0x1028000110000080 [] s (State.cmdReject s path m status) := by
  unfold State.cmdReject
  refine Within.trans ?_ (Within.mono (State.addCompletion_within ..) rfl)
  refine Within.trans ?_ (Within.mono (State.commandRecord_within ..) rfl)
  refine Within.trans ?_ (Within.kind (State.flag_within ..) rfl .auth rfl rfl)
  exact (Within.kind (State.inc_within ..) rfl .auth rfl rfl)

theorem State.judge_within (s : State) (refuse : State → List Byte → Bool) (path : CmdPath) (m : List Byte) :
    Within 0x101028080138000280 [] s (State.judge s refuse path m) := by
  unfold State.judge
  refine Within.ite ?_ ?_
  · exact (Within.mono (State.cmdReject_within ..) rfl)
  · extract_lets +onlyGivenNames -merge -underBinder x1
    extract_lets +onlyGivenNames -merge -underBinder x2
    extract_lets +onlyGivenNames -merge -underBinder x3
    extract_lets +onlyGivenNames -merge -underBinder x4
    refine Within.ite ?_ ?_
    · exact (Within.mono (State.cmdReject_within ..) rfl)
    · refine Within.ite ?_ ?_
      · exact (Within.mono (State.cmdReject_within ..) rfl)
      · refine Within.ite ?_ ?_
        · exact (Within.mono (State.cmdReject_within ..) rfl)
        · refine Within.ite ?_ ?_
          · exact (Within.mono (State.cmdReject_within ..) rfl)
          · refine Within.ite ?_ ?_
            · exact (Within.mono (State.cmdReject_within ..) rfl)
            · extract_lets +onlyGivenNames -merge -underBinder x5
              have hx5 : Within 0x101028080138000280 [] s x5 := by
                unfold x5
                exact (Within.mono (State.commitCounter_within ..) rfl)
              extract_lets +onlyGivenNames -merge -underBinder x6
              refine Within.ite ?_ ?_
              · refine Within.trans ?_ (Within.mono (State.cmdReject_within ..) rfl)
                exact hx5
              · refine Within.ite ?_ ?_
                · extract_lets +onlyGivenNames -merge -underBinder x7
                  have hx7 : Within 0x101028080138000280 [] s x7 := by
                    unfold x7
                    refine Within.ite ?_ ?_
                    · refine Within.trans ?_ (Within.kind (State.flag_within ..) rfl .prot rfl rfl)
                      refine Within.trans ?_ (Within.kind (State.inc_within ..) rfl .prot rfl rfl)
                      exact hx5
                    · exact hx5
                  refine Within.trans ?_ (Within.mono (State.cmdReject_within ..) rfl)
                  refine Within.ite ?_ ?_
                  · refine Within.trans ?_ (Within.mono (State.mirrorItem_within ..) rfl)
                    exact hx7
                  · exact hx7
                · refine Within.ite ?_ ?_
                  · extract_lets +onlyGivenNames -merge -underBinder x8
                    have hx8 : Within 0x101028080138000280 [] s x8 := by
                      unfold x8
                      refine Within.trans ?_ (Within.mono (State.acceptEvent_within ..) rfl)
                      exact hx5
                    refine Within.trans ?_ (Within.mono (State.addCompletion_within ..) rfl)
                    exact hx8
                  · refine Within.trans ?_ (Within.mono (State.addCompletion_within ..) rfl)
                    refine Within.trans ?_ (Within.mono (State.acceptLocal_within ..) rfl)
                    exact hx5

theorem State.command_within (s : State) (refuse : State → List Byte → Bool) (path : CmdPath) (m : List Byte) :
    Within 0x101028080138000280 [] s (State.command s refuse path m) := by
  unfold State.command
  refine Within.ite ?_ ?_
  · exact Within.refl _
  · refine Within.ite ?_ ?_
    · refine Within.ite ?_ ?_
      · exact (Within.kind (State.inc_within ..) rfl .auth rfl rfl)
      · exact Within.refl _
    · extract_lets +onlyGivenNames -merge -underBinder x1
      have hx1 : Within 0x101028080138000280 [] s x1 := by
        unfold x1
        refine Within.ite ?_ ?_
        · refine Within.trans ?_ (Within.kind (State.wrb_within ..) rfl .auth rfl rfl)
          exact (Within.kind (State.wrb_within ..) rfl .auth rfl rfl)
        · exact Within.refl _
      refine Within.trans ?_ (Within.mono (State.judge_within ..) rfl)
      exact hx1

theorem mboxWords_within (s : State) (l : List Byte) :
    Within 0x20000000000000 [] s (mboxWords s l) := by
  unfold mboxWords
  refine Within.foldl ?_ (fun t1 a2 h3 => ?_)
  · exact Within.refl _
  · refine Within.trans ?_ (Within.kind (State.wrn_within ..) rfl .auth rfl rfl)
    exact h3

theorem State.releaseTo_within (s : State) (c : Completion) :
    Within 0x1000002c0006000002a0 [] s (State.releaseTo s c) := by
  unfold State.releaseTo
  extract_lets +onlyGivenNames -merge -underBinder x1
  split
  · refine Within.ite ?_ ?_
    · exact Within.refl _
    · refine Within.trans ?_ (Within.mono (State.ringComplete_within ..) rfl)
      exact (Within.mono (State.ringPush_within ..) rfl)
  · extract_lets +onlyGivenNames -merge -underBinder x2
    have hx2 : Within 0x1000002c0006000002a0 [] s x2 := by
      unfold x2
      exact (Within.mono (mboxWords_within ..) rfl)
    refine Within.trans ?_ (Within.kind (State.wrn_within ..) rfl .auth rfl rfl)
    exact hx2
  · split
    · exact (Within.mono (State.sendNet_within ..) rfl)
    · exact Within.refl _

theorem execCompletionRecordRelease_within (dt : Nat) (s : State) :
    Ends (Within 0x1000002c0006100002ae []) s (execCompletionRecordRelease dt s) := by
  unfold execCompletionRecordRelease
  extract_lets +onlyGivenNames -merge -underBinder x1
  have hx1 : Within 0x1000002c0006100002ae [] s x1 := by
    unfold x1
    exact (Within.mono (State.elapse_within ..) rfl)
  split
  · refine Ends.next ?_
    refine Within.trans ?_ (Within.mono (State.releaseTo_within ..) rfl)
    refine Within.upd ?_ rfl rfl (.inr rfl) (.inr rfl) (.inr rfl) (.inr rfl) (.inr rfl) (.inr rfl) (.inr rfl) (.inr
        rfl) (.inr rfl) (.inr rfl) (.inr rfl) (.inr rfl) (.inr rfl) (.inr rfl) (.inr rfl) (.inr rfl) (.inr rfl) (.inr
            rfl) (.inr rfl) (.inr rfl) (.inr rfl) (.inr rfl) (.inr rfl) (.inr rfl) (.inr rfl) (.inr rfl) (.inr rfl)
                (.inr rfl) (.inl rfl) (.inr rfl) (.inr rfl) (.inr rfl) (.inr rfl) (.inr rfl) (.inr rfl) (.inr rfl)
                    (.inr rfl) (.inr rfl) (.inr rfl) (.inr rfl) (.inr rfl) (.inr rfl) (.inr rfl) (.inr rfl) (.inr
                        rfl) (.inr rfl) (.inr rfl)
    exact hx1
  · refine Ends.next ?_
    exact hx1

theorem State.applyKeyLoad_within (s : State) (slot : Nat) (m : List Byte) :
    Within 0x1028080100000080 [] s (State.applyKeyLoad s slot m) := by
  unfold State.applyKeyLoad
  extract_lets +onlyGivenNames -merge -underBinder x1
  split
  · exact Within.refl _
  · extract_lets +onlyGivenNames -merge -underBinder x2
    extract_lets +onlyGivenNames -merge -underBinder x3
    extract_lets +onlyGivenNames -merge -underBinder x4
    extract_lets +onlyGivenNames -merge -underBinder x5
    have hx5 : Within 0x1028080100000080 [] s x5 := by
      unfold x5
      refine Within.ite ?_ ?_
      · exact (Within.mono (State.setKeySlot_within ..) rfl)
      · exact (Within.mono (State.setKeySlot_within ..) rfl)
    extract_lets +onlyGivenNames -merge -underBinder x6
    have hx6 : Within 0x1028080100000080 [] s x6 := by
      unfold x6
      refine Within.trans ?_ (Within.mono (State.record_within ..) rfl)
      exact hx5
    refine Within.trans ?_ (Within.kind (State.flag_within ..) rfl .auth rfl rfl)
    exact hx6

end Sys2Proof.Machine
end

