-- ==== Sys2Proof/Laws/FrameSbx.lean ====
section
/-! SUPPORT. What each operation of Machine/Sbx.lean may change (Laws/Within.lean). -/

namespace Sys2Proof.Machine

open Sys2Proof

theorem State.takeSeq_within (s : State) :
    Within 0x40100000000 [] s (State.takeSeq s).2 := by
  unfold State.takeSeq
  extract_lets +onlyGivenNames -merge -underBinder x1
  extract_lets +onlyGivenNames -merge -underBinder x2
  extract_lets +onlyGivenNames -merge -underBinder x3
  refine Within.pair ?_
  refine Within.upd ?_ rfl rfl (.inr rfl) (.inr rfl) (.inr rfl) (.inr rfl) (.inr rfl) (.inr rfl) (.inr rfl) (.inr
      rfl) (.inr rfl) (.inr rfl) (.inr rfl) (.inr rfl) (.inr rfl) (.inr rfl) (.inr rfl) (.inr rfl) (.inr rfl) (.inr
          rfl) (.inr rfl) (.inr rfl) (.inr rfl) (.inr rfl) (.inr rfl) (.inr rfl) (.inr rfl) (.inr rfl) (.inr rfl)
              (.inr rfl) (.inr rfl) (.inr rfl) (.inr rfl) (.inr rfl) (.inl rfl) (.inr rfl) (.inr rfl) (.inr rfl)
                  (.inr rfl) (.inr rfl) (.inr rfl) (.inr rfl) (.inr rfl) (.inr rfl) (.inl rfl) (.inr rfl) (.inr rfl)
                      (.inr rfl) (.inr rfl)
  exact Within.refl _

theorem State.classTrigger_within (s : State) (cls : Nat) :
    Within 0x20808000080000080 [] s (State.classTrigger s cls) := by
  unfold State.classTrigger
  refine Within.ite ?_ ?_
  · exact (Within.mono (State.trigger_within ..) rfl)
  · exact Within.refl _

theorem State.startWrite_within (s : State) (a : SbxArea) (line : Nat) (cls : Nat) (source : Nat) (mt : Nat)
    (payload : List Byte) : Within 0x20808040180000080 [] s (State.startWrite s a line cls source mt payload) := by
  unfold State.startWrite
  split
  rename_i q t e
  have ht : Within 0x20808040180000080 [] s t := Within.snd e (Within.mono (State.takeSeq_within ..) rfl)
  extract_lets r head m w
  refine Within.trans ?_ (Within.mono (State.classTrigger_within ..) rfl)
  cases a <;> exact Within.upd ht rfl rfl
    (.inr rfl) (.inr rfl) (.inr rfl) (.inr rfl) (.inr rfl) (.inr rfl) (.inr rfl) (.inr rfl) (.inr rfl) (.inr rfl)
    (.inr rfl) (.inr rfl) (.inr rfl) (.inr rfl) (.inr rfl) (.inr rfl) (.inr rfl) (.inr rfl) (.inr rfl) (.inr rfl)
    (.inr rfl) (.inr rfl) (.inr rfl) (.inr rfl) (.inr rfl) (.inr rfl) (.inr rfl) (.inr rfl) (.inr rfl) (.inr rfl)
    (.inr rfl) (.inr rfl) (.inl rfl) (.inr rfl) (.inr rfl) (.inr rfl) (.inr rfl) (.inr rfl) (.inr rfl) (.inr rfl)
    (.inr rfl) (.inr rfl) (.inl rfl) (.inr rfl) (.inr rfl) (.inr rfl) (.inr rfl)

theorem State.startRolling_within (s : State) (r : RecReq) :
    Within 0x20808040180000080 [] s (State.startRolling s r) := by
  unfold State.startRolling
  extract_lets +onlyGivenNames -merge -underBinder x1
  exact (Within.mono (State.startWrite_within ..) rfl)

theorem State.displace_within (s : State) (r : RecReq) :
    Within 0x1008000100000080 [] s (State.displace s r) := by
  unfold State.displace
  refine Within.ite ?_ ?_
  · extract_lets +onlyGivenNames -merge -underBinder x1 x2
    have hx2 : Within 0x1008000100000080 [] s x2 := by
      unfold x2
      refine Within.upd ?_ rfl rfl (.inr rfl) (.inr rfl) (.inr rfl) (.inr rfl) (.inr rfl) (.inr rfl) (.inr rfl) (.inr
          rfl) (.inr rfl) (.inr rfl) (.inr rfl) (.inr rfl) (.inr rfl) (.inr rfl) (.inr rfl) (.inr rfl) (.inr rfl)
              (.inr rfl) (.inr rfl) (.inr rfl) (.inr rfl) (.inr rfl) (.inr rfl) (.inr rfl) (.inr rfl) (.inr rfl)
                  (.inr rfl) (.inr rfl) (.inr rfl) (.inr rfl) (.inr rfl) (.inr rfl) (.inl rfl) (.inr rfl) (.inr rfl)
                      (.inr rfl) (.inr rfl) (.inr rfl) (.inr rfl) (.inr rfl) (.inr rfl) (.inr rfl) (.inr rfl) (.inr
                          rfl) (.inr rfl) (.inr rfl) (.inr rfl)
      exact Within.refl _
    refine Within.trans ?_ (Within.kind (State.flag_within ..) rfl .sbx rfl rfl)
    refine Within.trans ?_ (Within.kind (State.inc_within ..) rfl .sbx rfl rfl)
    exact hx2
  · refine Within.trans ?_ (Within.kind (State.flag_within ..) rfl .sbx rfl rfl)
    exact (Within.kind (State.inc_within ..) rfl .sbx rfl rfl)

theorem State.startLocked_within (s : State) (r : RecReq) :
    Within 0x21808040180000080 [] s (State.startLocked s r) := by
  unfold State.startLocked
  split
  · exact (Within.mono (State.startWrite_within ..) rfl)
  · split
    · refine Within.trans ?_ (Within.kind (State.flag_within ..) rfl .sbx rfl rfl)
      exact (Within.mono (State.startWrite_within ..) rfl)
    · exact (Within.mono (State.displace_within ..) rfl)

theorem State.startClear_within (s : State) (x : Nat) (slot : Nat) (counter : Nat) :
    Within 0x20808040180000080 [] s (State.startClear s x slot counter) := by
  unfold State.startClear
  extract_lets +onlyGivenNames -merge -underBinder x1
  exact (Within.mono (State.startWrite_within ..) rfl)

theorem State.sbxStart_within (s : State) :
    Within 0x21808040180000080 [] s (State.sbxStart s) := by
  unfold State.sbxStart
  refine Within.ite ?_ ?_
  · exact Within.refl _
  · split
    · refine Within.trans ?_ (Within.mono (State.startLocked_within ..) rfl)
      refine Within.upd ?_ rfl rfl (.inr rfl) (.inr rfl) (.inr rfl) (.inr rfl) (.inr rfl) (.inr rfl) (.inr rfl) (.inr
          rfl) (.inr rfl) (.inr rfl) (.inr rfl) (.inr rfl) (.inr rfl) (.inr rfl) (.inr rfl) (.inr rfl) (.inr rfl)
              (.inr rfl) (.inr rfl) (.inr rfl) (.inr rfl) (.inr rfl) (.inr rfl) (.inr rfl) (.inr rfl) (.inr rfl)
                  (.inr rfl) (.inr rfl) (.inr rfl) (.inr rfl) (.inr rfl) (.inr rfl) (.inl rfl) (.inr rfl) (.inr rfl)
                      (.inr rfl) (.inr rfl) (.inr rfl) (.inr rfl) (.inr rfl) (.inr rfl) (.inr rfl) (.inr rfl) (.inr
                          rfl) (.inr rfl) (.inr rfl) (.inr rfl)
      exact Within.refl _
    · refine Within.ite ?_ ?_
      · exact Within.refl _
      · split
        · refine Within.trans ?_ (Within.mono (State.startClear_within ..) rfl)
          refine Within.upd ?_ rfl rfl (.inr rfl) (.inr rfl) (.inr rfl) (.inr rfl) (.inr rfl) (.inr rfl) (.inr rfl)
              (.inr rfl) (.inr rfl) (.inr rfl) (.inr rfl) (.inr rfl) (.inr rfl) (.inr rfl) (.inr rfl) (.inr rfl)
                  (.inr rfl) (.inr rfl) (.inr rfl) (.inr rfl) (.inr rfl) (.inr rfl) (.inr rfl) (.inr rfl) (.inr rfl)
                      (.inr rfl) (.inr rfl) (.inr rfl) (.inr rfl) (.inr rfl) (.inr rfl) (.inr rfl) (.inl rfl) (.inr
                          rfl) (.inr rfl) (.inr rfl) (.inr rfl) (.inr rfl) (.inr rfl) (.inr rfl) (.inr rfl) (.inr
                              rfl) (.inr rfl) (.inr rfl) (.inr rfl) (.inr rfl) (.inr rfl)
          exact Within.refl _
        · refine Within.trans ?_ (Within.mono (State.startLocked_within ..) rfl)
          refine Within.upd ?_ rfl rfl (.inr rfl) (.inr rfl) (.inr rfl) (.inr rfl) (.inr rfl) (.inr rfl) (.inr rfl)
              (.inr rfl) (.inr rfl) (.inr rfl) (.inr rfl) (.inr rfl) (.inr rfl) (.inr rfl) (.inr rfl) (.inr rfl)
                  (.inr rfl) (.inr rfl) (.inr rfl) (.inr rfl) (.inr rfl) (.inr rfl) (.inr rfl) (.inr rfl) (.inr rfl)
                      (.inr rfl) (.inr rfl) (.inr rfl) (.inr rfl) (.inr rfl) (.inr rfl) (.inr rfl) (.inl rfl) (.inr
                          rfl) (.inr rfl) (.inr rfl) (.inr rfl) (.inr rfl) (.inr rfl) (.inr rfl) (.inr rfl) (.inr
                              rfl) (.inr rfl) (.inr rfl) (.inr rfl) (.inr rfl) (.inr rfl)
          exact Within.refl _
        · refine Within.trans ?_ (Within.mono (State.startRolling_within ..) rfl)
          refine Within.upd ?_ rfl rfl (.inr rfl) (.inr rfl) (.inr rfl) (.inr rfl) (.inr rfl) (.inr rfl) (.inr rfl)
              (.inr rfl) (.inr rfl) (.inr rfl) (.inr rfl) (.inr rfl) (.inr rfl) (.inr rfl) (.inr rfl) (.inr rfl)
                  (.inr rfl) (.inr rfl) (.inr rfl) (.inr rfl) (.inr rfl) (.inr rfl) (.inr rfl) (.inr rfl) (.inr rfl)
                      (.inr rfl) (.inr rfl) (.inr rfl) (.inr rfl) (.inr rfl) (.inr rfl) (.inr rfl) (.inl rfl) (.inr
                          rfl) (.inr rfl) (.inr rfl) (.inr rfl) (.inr rfl) (.inr rfl) (.inr rfl) (.inr rfl) (.inr
                              rfl) (.inr rfl) (.inr rfl) (.inr rfl) (.inr rfl) (.inr rfl)
          exact Within.refl _
        · exact Within.refl _

theorem execStrongboxWriteStart_within (dt : Nat) (s : State) :
    Ends (Within 0x2180804018000008e []) s (execStrongboxWriteStart dt s) := by
  unfold execStrongboxWriteStart
  refine Ends.next ?_
  refine Within.trans ?_ (Within.mono (State.sbxStart_within ..) rfl)
  exact (Within.mono (State.elapse_within ..) rfl)

theorem State.applyClear_within (s : State) (x : Nat) :
    Within 0x1008040100000080 [] s (State.applyClear s x) := by
  unfold State.applyClear
  refine Within.ite ?_ ?_
  · refine Within.upd ?_ rfl rfl (.inr rfl) (.inr rfl) (.inr rfl) (.inr rfl) (.inr rfl) (.inr rfl) (.inr rfl) (.inr
      rfl) (.inr rfl) (.inr rfl) (.inr rfl) (.inr rfl) (.inr rfl) (.inr rfl) (.inr rfl) (.inr rfl) (.inr rfl) (.inr
          rfl) (.inr rfl) (.inr rfl) (.inr rfl) (.inr rfl) (.inr rfl) (.inr rfl) (.inr rfl) (.inr rfl) (.inr rfl)
              (.inr rfl) (.inr rfl) (.inr rfl) (.inr rfl) (.inr rfl) (.inl rfl) (.inr rfl) (.inr rfl) (.inr rfl)
                  (.inr rfl) (.inr rfl) (.inr rfl) (.inr rfl) (.inr rfl) (.inr rfl) (.inr rfl) (.inr rfl) (.inr rfl)
                      (.inr rfl) (.inr rfl)
    exact Within.refl _
  · refine Within.trans ?_ (Within.kind (State.flag_within ..) rfl .sbx rfl rfl)
    refine Within.upd ?_ rfl rfl (.inr rfl) (.inr rfl) (.inr rfl) (.inr rfl) (.inr rfl) (.inr rfl) (.inr rfl) (.inr
        rfl) (.inr rfl) (.inr rfl) (.inr rfl) (.inr rfl) (.inr rfl) (.inr rfl) (.inr rfl) (.inr rfl) (.inr rfl) (.inr
            rfl) (.inr rfl) (.inr rfl) (.inr rfl) (.inr rfl) (.inr rfl) (.inr rfl) (.inr rfl) (.inr rfl) (.inr rfl)
                (.inr rfl) (.inr rfl) (.inr rfl) (.inr rfl) (.inr rfl) (.inl rfl) (.inr rfl) (.inr rfl) (.inr rfl)
                    (.inr rfl) (.inr rfl) (.inr rfl) (.inr rfl) (.inr rfl) (.inr rfl) (.inl rfl) (.inr rfl) (.inr
                        rfl) (.inr rfl) (.inr rfl)
    exact Within.refl _

theorem State.clearResume_within (s : State) :
    Within 0x1008040100000080 [] s (State.clearResume s) := by
  unfold State.clearResume
  split
  · exact (Within.mono (State.applyClear_within ..) rfl)
  · exact Within.refl _

theorem State.sbxFinish_within (s : State) :
    Within 0x1008040100000088 [] s (State.sbxFinish s) := by
  unfold State.sbxFinish
  split
  · exact Within.refl _
  · extract_lets +onlyGivenNames -merge -underBinder x1 x2 x3
    have hx3 : Within 0x1008040100000088 [] s x3 := by
      unfold x3
      refine Within.upd ?_ rfl rfl (.inr rfl) (.inr rfl) (.inr rfl) (.inr rfl) (.inr rfl) (.inr rfl) (.inr rfl) (.inr
          rfl) (.inr rfl) (.inr rfl) (.inr rfl) (.inr rfl) (.inr rfl) (.inr rfl) (.inr rfl) (.inr rfl) (.inr rfl)
              (.inr rfl) (.inr rfl) (.inr rfl) (.inr rfl) (.inr rfl) (.inr rfl) (.inr rfl) (.inr rfl) (.inr rfl)
                  (.inr rfl) (.inr rfl) (.inr rfl) (.inr rfl) (.inr rfl) (.inr rfl) (.inl rfl) (.inr rfl) (.inr rfl)
                      (.inr rfl) (.inr rfl) (.inr rfl) (.inr rfl) (.inr rfl) (.inr rfl) (.inr rfl) (.inl rfl) (.inr
                          rfl) (.inr rfl) (.inr rfl) (.inr rfl)
      exact Within.refl _
    extract_lets +onlyGivenNames -merge -underBinder x4
    have hx4 : Within 0x1008040100000088 [] s x4 := by
      unfold x4
      refine Within.ite ?_ ?_
      · refine Within.trans ?_ (Within.mono (State.applyClear_within ..) rfl)
        exact hx3
      · exact hx3
    refine Within.ite ?_ ?_
    · try clear_value x4
      refine Within.upd ?_ rfl rfl (.inr rfl) (.inr rfl) (.inr rfl) (.inl rfl) (.inr rfl) (.inr rfl) (.inr rfl) (.inr
          rfl) (.inr rfl) (.inr rfl) (.inr rfl) (.inr rfl) (.inr rfl) (.inr rfl) (.inr rfl) (.inr rfl) (.inr rfl)
              (.inr rfl) (.inr rfl) (.inr rfl) (.inr rfl) (.inr rfl) (.inr rfl) (.inr rfl) (.inr rfl) (.inr rfl)
                  (.inr rfl) (.inr rfl) (.inr rfl) (.inr rfl) (.inr rfl) (.inr rfl) (.inr rfl) (.inr rfl) (.inr rfl)
                      (.inr rfl) (.inr rfl) (.inr rfl) (.inr rfl) (.inr rfl) (.inr rfl) (.inr rfl) (.inr rfl) (.inr
                          rfl) (.inr rfl) (.inr rfl) (.inr rfl)
      exact hx4
    · exact hx4

theorem State.sbxTear_within (s : State) :
    Within 0x40100000000 [] s (State.sbxTear s) := by
  unfold State.sbxTear
  split
  · exact Within.refl _
  · refine Within.upd ?_ rfl rfl (.inr rfl) (.inr rfl) (.inr rfl) (.inr rfl) (.inr rfl) (.inr rfl) (.inr rfl) (.inr
      rfl) (.inr rfl) (.inr rfl) (.inr rfl) (.inr rfl) (.inr rfl) (.inr rfl) (.inr rfl) (.inr rfl) (.inr rfl) (.inr
          rfl) (.inr rfl) (.inr rfl) (.inr rfl) (.inr rfl) (.inr rfl) (.inr rfl) (.inr rfl) (.inr rfl) (.inr rfl)
              (.inr rfl) (.inr rfl) (.inr rfl) (.inr rfl) (.inr rfl) (.inl rfl) (.inr rfl) (.inr rfl) (.inr rfl)
                  (.inr rfl) (.inr rfl) (.inr rfl) (.inr rfl) (.inr rfl) (.inr rfl) (.inl rfl) (.inr rfl) (.inr rfl)
                      (.inr rfl) (.inr rfl)
    exact Within.refl _

theorem execStrongboxWriteDone_within (dt : Nat) (s : State) :
    Ends (Within 0x100804010000008e []) s (execStrongboxWriteDone dt s) := by
  unfold execStrongboxWriteDone
  refine Ends.next ?_
  refine Within.trans ?_ (Within.mono (State.sbxFinish_within ..) rfl)
  exact (Within.mono (State.elapse_within ..) rfl)

theorem execTokenRefill_within (dt : Nat) (s : State) :
    Ends (Within 0x10000000e []) s (execTokenRefill dt s) := by
  unfold execTokenRefill
  extract_lets +onlyGivenNames -merge -underBinder x1
  have hx1 : Within 0x10000000e [] s x1 := by
    unfold x1
    exact (Within.mono (State.elapse_within ..) rfl)
  refine Ends.next ?_
  refine Within.upd ?_ rfl rfl (.inr rfl) (.inr rfl) (.inr rfl) (.inr rfl) (.inr rfl) (.inr rfl) (.inr rfl) (.inr
      rfl) (.inr rfl) (.inr rfl) (.inr rfl) (.inr rfl) (.inr rfl) (.inr rfl) (.inr rfl) (.inr rfl) (.inr rfl) (.inr
          rfl) (.inr rfl) (.inr rfl) (.inr rfl) (.inr rfl) (.inr rfl) (.inr rfl) (.inr rfl) (.inr rfl) (.inr rfl)
              (.inr rfl) (.inr rfl) (.inr rfl) (.inr rfl) (.inr rfl) (.inl rfl) (.inr rfl) (.inr rfl) (.inr rfl)
                  (.inr rfl) (.inr rfl) (.inr rfl) (.inr rfl) (.inr rfl) (.inr rfl) (.inr rfl) (.inr rfl) (.inr rfl)
                      (.inr rfl) (.inr rfl)
  exact hx1

theorem State.sbxScan_within (s : State) :
    Within 0x100000000 [] s (State.sbxScan s) := by
  unfold State.sbxScan
  extract_lets +onlyGivenNames -merge -underBinder x1
  refine Within.upd ?_ rfl rfl (.inr rfl) (.inr rfl) (.inr rfl) (.inr rfl) (.inr rfl) (.inr rfl) (.inr rfl) (.inr
      rfl) (.inr rfl) (.inr rfl) (.inr rfl) (.inr rfl) (.inr rfl) (.inr rfl) (.inr rfl) (.inr rfl) (.inr rfl) (.inr
          rfl) (.inr rfl) (.inr rfl) (.inr rfl) (.inr rfl) (.inr rfl) (.inr rfl) (.inr rfl) (.inr rfl) (.inr rfl)
              (.inr rfl) (.inr rfl) (.inr rfl) (.inr rfl) (.inr rfl) (.inl rfl) (.inr rfl) (.inr rfl) (.inr rfl)
                  (.inr rfl) (.inr rfl) (.inr rfl) (.inr rfl) (.inr rfl) (.inr rfl) (.inr rfl) (.inr rfl) (.inr rfl)
                      (.inr rfl) (.inr rfl)
  exact Within.refl _

theorem State.sbxDamage_within (s : State) (off : Nat) :
    Within 0x40000000000 [] s (State.sbxDamage s off) := by
  unfold State.sbxDamage
  extract_lets +onlyGivenNames -merge -underBinder x1
  refine Within.upd ?_ rfl rfl (.inr rfl) (.inr rfl) (.inr rfl) (.inr rfl) (.inr rfl) (.inr rfl) (.inr rfl) (.inr
      rfl) (.inr rfl) (.inr rfl) (.inr rfl) (.inr rfl) (.inr rfl) (.inr rfl) (.inr rfl) (.inr rfl) (.inr rfl) (.inr
          rfl) (.inr rfl) (.inr rfl) (.inr rfl) (.inr rfl) (.inr rfl) (.inr rfl) (.inr rfl) (.inr rfl) (.inr rfl)
              (.inr rfl) (.inr rfl) (.inr rfl) (.inr rfl) (.inr rfl) (.inr rfl) (.inr rfl) (.inr rfl) (.inr rfl)
                  (.inr rfl) (.inr rfl) (.inr rfl) (.inr rfl) (.inr rfl) (.inr rfl) (.inl rfl) (.inr rfl) (.inr rfl)
                      (.inr rfl) (.inr rfl)
  exact Within.refl _

theorem State.sbxClear_within (s : State) (x : Nat) (slot : Nat) (counter : Nat) :
    Within 0x1008000100000080 [] s (State.sbxClear s x slot counter).2 := by
  unfold State.sbxClear
  split
  · refine Within.pair ?_
    refine Within.trans ?_ (Within.kind (State.flag_within ..) rfl .sbx rfl rfl)
    exact (Within.kind (State.inc_within ..) rfl .sbx rfl rfl)
  · refine Within.pair ?_
    refine Within.upd ?_ rfl rfl (.inr rfl) (.inr rfl) (.inr rfl) (.inr rfl) (.inr rfl) (.inr rfl) (.inr rfl) (.inr
        rfl) (.inr rfl) (.inr rfl) (.inr rfl) (.inr rfl) (.inr rfl) (.inr rfl) (.inr rfl) (.inr rfl) (.inr rfl) (.inr
            rfl) (.inr rfl) (.inr rfl) (.inr rfl) (.inr rfl) (.inr rfl) (.inr rfl) (.inr rfl) (.inr rfl) (.inr rfl)
                (.inr rfl) (.inr rfl) (.inr rfl) (.inr rfl) (.inr rfl) (.inl rfl) (.inr rfl) (.inr rfl) (.inr rfl)
                    (.inr rfl) (.inr rfl) (.inr rfl) (.inr rfl) (.inr rfl) (.inr rfl) (.inr rfl) (.inr rfl) (.inr
                        rfl) (.inr rfl) (.inr rfl)
    exact Within.refl _

theorem State.skipped_within (s : State) (n : Nat) :
    Within 0x1008000000000080 [] s (State.skipped s n) := by
  unfold State.skipped
  refine Within.ite ?_ ?_
  · exact Within.refl _
  · refine Within.trans ?_ (Within.kind (State.flag_within ..) rfl .sbx rfl rfl)
    exact (Within.kind (State.incBy_within ..) rfl .sbx rfl rfl)

theorem State.cursorStart_within (s : State) (cmd : Nat) :
    Within 0x100000000 [] s (State.cursorStart s cmd) := by
  unfold State.cursorStart
  refine Within.ite ?_ ?_
  · exact Within.refl _
  · refine Within.upd ?_ rfl rfl (.inr rfl) (.inr rfl) (.inr rfl) (.inr rfl) (.inr rfl) (.inr rfl) (.inr rfl) (.inr
      rfl) (.inr rfl) (.inr rfl) (.inr rfl) (.inr rfl) (.inr rfl) (.inr rfl) (.inr rfl) (.inr rfl) (.inr rfl) (.inr
          rfl) (.inr rfl) (.inr rfl) (.inr rfl) (.inr rfl) (.inr rfl) (.inr rfl) (.inr rfl) (.inr rfl) (.inr rfl)
              (.inr rfl) (.inr rfl) (.inr rfl) (.inr rfl) (.inr rfl) (.inl rfl) (.inr rfl) (.inr rfl) (.inr rfl)
                  (.inr rfl) (.inr rfl) (.inr rfl) (.inr rfl) (.inr rfl) (.inr rfl) (.inr rfl) (.inr rfl) (.inr rfl)
                      (.inr rfl) (.inr rfl)
    exact Within.refl _

theorem execCursorSeek_within (dt : Nat) (s : State) :
    Ends (Within 0x10000000e []) s (execCursorSeek dt s) := by
  unfold execCursorSeek
  refine Ends.next ?_
  refine Within.trans ?_ (Within.mono (State.cursorStart_within ..) rfl)
  exact (Within.mono (State.elapse_within ..) rfl)

theorem execCursorNext_within (dt : Nat) (s : State) :
    Ends (Within 0x10000000e []) s (execCursorNext dt s) := by
  unfold execCursorNext
  refine Ends.next ?_
  refine Within.trans ?_ (Within.mono (State.cursorStart_within ..) rfl)
  exact (Within.mono (State.elapse_within ..) rfl)

theorem execCursorDone_within (dt : Nat) (s : State) :
    Ends (Within 0x100800010000008e []) s (execCursorDone dt s) := by
  unfold execCursorDone
  extract_lets +onlyGivenNames -merge -underBinder x1
  have hx1 : Within 0x100800010000008e [] s x1 := by
    unfold x1
    exact (Within.mono (State.elapse_within ..) rfl)
  refine Ends.ite ?_ ?_
  · refine Ends.next ?_
    exact hx1
  · extract_lets +onlyGivenNames -merge -underBinder x2
    split
    · extract_lets +onlyGivenNames -merge -underBinder x3
      have hx3 : Within 0x100800010000008e [] s x3 := by
        unfold x3
        refine Within.trans ?_ (Within.mono (State.skipped_within ..) rfl)
        exact hx1
      split
      · refine Ends.next ?_
        refine Within.upd ?_ rfl rfl (.inr rfl) (.inr rfl) (.inr rfl) (.inr rfl) (.inr rfl) (.inr rfl) (.inr rfl)
            (.inr rfl) (.inr rfl) (.inr rfl) (.inr rfl) (.inr rfl) (.inr rfl) (.inr rfl) (.inr rfl) (.inr rfl) (.inr
                rfl) (.inr rfl) (.inr rfl) (.inr rfl) (.inr rfl) (.inr rfl) (.inr rfl) (.inr rfl) (.inr rfl) (.inr
                    rfl) (.inr rfl) (.inr rfl) (.inr rfl) (.inr rfl) (.inr rfl) (.inr rfl) (.inl rfl) (.inr rfl)
                        (.inr rfl) (.inr rfl) (.inr rfl) (.inr rfl) (.inr rfl) (.inr rfl) (.inr rfl) (.inr rfl) (.inr
                            rfl) (.inr rfl) (.inr rfl) (.inr rfl) (.inr rfl)
        exact hx3
      · refine Ends.next ?_
        refine Within.upd ?_ rfl rfl (.inr rfl) (.inr rfl) (.inr rfl) (.inr rfl) (.inr rfl) (.inr rfl) (.inr rfl)
            (.inr rfl) (.inr rfl) (.inr rfl) (.inr rfl) (.inr rfl) (.inr rfl) (.inr rfl) (.inr rfl) (.inr rfl) (.inr
                rfl) (.inr rfl) (.inr rfl) (.inr rfl) (.inr rfl) (.inr rfl) (.inr rfl) (.inr rfl) (.inr rfl) (.inr
                    rfl) (.inr rfl) (.inr rfl) (.inr rfl) (.inr rfl) (.inr rfl) (.inr rfl) (.inl rfl) (.inr rfl)
                        (.inr rfl) (.inr rfl) (.inr rfl) (.inr rfl) (.inr rfl) (.inr rfl) (.inr rfl) (.inr rfl) (.inr
                            rfl) (.inr rfl) (.inr rfl) (.inr rfl) (.inr rfl)
        exact hx3

theorem State.expComplete_within (s : State) :
    Within 0xc0001000002a0 [] s (State.expComplete s) := by
  unfold State.expComplete
  extract_lets +onlyGivenNames -merge -underBinder x1
  refine Within.trans ?_ (Within.mono (State.ringComplete_within ..) rfl)
  refine Within.upd ?_ rfl rfl (.inr rfl) (.inr rfl) (.inr rfl) (.inr rfl) (.inr rfl) (.inr rfl) (.inr rfl) (.inr
      rfl) (.inr rfl) (.inr rfl) (.inr rfl) (.inr rfl) (.inr rfl) (.inr rfl) (.inr rfl) (.inr rfl) (.inr rfl) (.inr
          rfl) (.inr rfl) (.inr rfl) (.inr rfl) (.inr rfl) (.inr rfl) (.inr rfl) (.inr rfl) (.inr rfl) (.inr rfl)
              (.inr rfl) (.inr rfl) (.inr rfl) (.inr rfl) (.inr rfl) (.inl rfl) (.inr rfl) (.inr rfl) (.inr rfl)
                  (.inr rfl) (.inr rfl) (.inr rfl) (.inr rfl) (.inr rfl) (.inr rfl) (.inr rfl) (.inr rfl) (.inr rfl)
                      (.inr rfl) (.inr rfl)
  exact Within.refl _

theorem execStrongboxExportChunk_within (dt : Nat) (s : State) :
    Ends (Within 0x100c0001000002ae []) s (execStrongboxExportChunk dt s) := by
  unfold execStrongboxExportChunk
  extract_lets +onlyGivenNames -merge -underBinder x1
  have hx1 : Within 0x100c0001000002ae [] s x1 := by
    unfold x1
    exact (Within.mono (State.elapse_within ..) rfl)
  refine Ends.ite ?_ ?_
  · refine Ends.next ?_
    exact hx1
  · split
    · refine Ends.next ?_
      exact hx1
    · refine Ends.ite ?_ ?_
      · refine Ends.next ?_
        refine Within.trans ?_ (Within.mono (State.ringComplete_within ..) rfl)
        exact hx1
      · split
        · refine Ends.next ?_
          exact hx1
        · refine Ends.ite ?_ ?_
          · refine Ends.next ?_
            refine Within.trans ?_ (Within.mono (State.expComplete_within ..) rfl)
            exact hx1
          · extract_lets +onlyGivenNames -merge -underBinder x2
            have hx2 : Within 0x100c0001000002ae [] s x2 := by
              unfold x2
              refine Within.trans ?_ (Within.mono (State.skipped_within ..) rfl)
              exact hx1
            refine Ends.next ?_
            refine Within.upd ?_ rfl rfl (.inr rfl) (.inr rfl) (.inr rfl) (.inr rfl) (.inr rfl) (.inr rfl) (.inr rfl)
                (.inr rfl) (.inr rfl) (.inr rfl) (.inr rfl) (.inr rfl) (.inr rfl) (.inr rfl) (.inr rfl) (.inr rfl)
                    (.inr rfl) (.inr rfl) (.inr rfl) (.inr rfl) (.inr rfl) (.inr rfl) (.inr rfl) (.inr rfl) (.inr
                        rfl) (.inr rfl) (.inr rfl) (.inr rfl) (.inr rfl) (.inr rfl) (.inr rfl) (.inr rfl) (.inl rfl)
                            (.inr rfl) (.inr rfl) (.inr rfl) (.inr rfl) (.inr rfl) (.inr rfl) (.inr rfl) (.inr rfl)
                                (.inr rfl) (.inr rfl) (.inr rfl) (.inr rfl) (.inr rfl) (.inr rfl)
            exact hx2

theorem execStrongboxExportFlush_within (dt : Nat) (s : State) :
    Ends (Within 0xc0001000002ae []) s (execStrongboxExportFlush dt s) := by
  unfold execStrongboxExportFlush
  extract_lets +onlyGivenNames -merge -underBinder x1
  have hx1 : Within 0xc0001000002ae [] s x1 := by
    unfold x1
    exact (Within.mono (State.elapse_within ..) rfl)
  refine Ends.ite ?_ ?_
  · refine Ends.next ?_
    refine Within.trans ?_ (Within.mono (State.expComplete_within ..) rfl)
    exact hx1
  · refine Ends.next ?_
    exact hx1

theorem State.sbxStarted_within (s : State) :
    Within 0x100000000 [] s (State.sbxStarted s) := by
  unfold State.sbxStarted
  refine Within.upd ?_ rfl rfl (.inr rfl) (.inr rfl) (.inr rfl) (.inr rfl) (.inr rfl) (.inr rfl) (.inr rfl) (.inr
      rfl) (.inr rfl) (.inr rfl) (.inr rfl) (.inr rfl) (.inr rfl) (.inr rfl) (.inr rfl) (.inr rfl) (.inr rfl) (.inr
          rfl) (.inr rfl) (.inr rfl) (.inr rfl) (.inr rfl) (.inr rfl) (.inr rfl) (.inr rfl) (.inr rfl) (.inr rfl)
              (.inr rfl) (.inr rfl) (.inr rfl) (.inr rfl) (.inr rfl) (.inl rfl) (.inr rfl) (.inr rfl) (.inr rfl)
                  (.inr rfl) (.inr rfl) (.inr rfl) (.inr rfl) (.inr rfl) (.inr rfl) (.inr rfl) (.inr rfl) (.inr rfl)
                      (.inr rfl) (.inr rfl)
  exact Within.refl _

theorem State.sbxStopped_within (s : State) :
    Within 0xc0001000002a0 [] s (State.sbxStopped s) := by
  unfold State.sbxStopped
  refine Within.ite ?_ ?_
  · exact Within.refl _
  · exact (Within.mono (State.expComplete_within ..) rfl)

end Sys2Proof.Machine
end

