-- ==== Sys2Proof/Laws/FrameFwu.lean ====
section
/-! SUPPORT. What each operation of Machine/Fwu.lean may change (Laws/Within.lean). -/

namespace Sys2Proof.Machine

open Sys2Proof

theorem State.modFw_within (s : State) (f : FwMram → FwMram) :
    Within 0x100000000000 [] s (State.modFw s f) := by
  unfold State.modFw
  refine Within.upd ?_ rfl rfl (.inr rfl) (.inr rfl) (.inr rfl) (.inr rfl) (.inr rfl) (.inr rfl) (.inr rfl) (.inr
      rfl) (.inr rfl) (.inr rfl) (.inr rfl) (.inr rfl) (.inr rfl) (.inr rfl) (.inr rfl) (.inr rfl) (.inr rfl) (.inr
          rfl) (.inr rfl) (.inr rfl) (.inr rfl) (.inr rfl) (.inr rfl) (.inr rfl) (.inr rfl) (.inr rfl) (.inr rfl)
              (.inr rfl) (.inr rfl) (.inr rfl) (.inr rfl) (.inr rfl) (.inr rfl) (.inr rfl) (.inr rfl) (.inr rfl)
                  (.inr rfl) (.inr rfl) (.inr rfl) (.inr rfl) (.inr rfl) (.inr rfl) (.inr rfl) (.inr rfl) (.inl rfl)
                      (.inr rfl) (.inr rfl)
  exact Within.refl _

theorem State.modFwu_within (s : State) (f : FwuSt → FwuSt) :
    Within 0x1000000000 [] s (State.modFwu s f) := by
  unfold State.modFwu
  refine Within.upd ?_ rfl rfl (.inr rfl) (.inr rfl) (.inr rfl) (.inr rfl) (.inr rfl) (.inr rfl) (.inr rfl) (.inr
      rfl) (.inr rfl) (.inr rfl) (.inr rfl) (.inr rfl) (.inr rfl) (.inr rfl) (.inr rfl) (.inr rfl) (.inr rfl) (.inr
          rfl) (.inr rfl) (.inr rfl) (.inr rfl) (.inr rfl) (.inr rfl) (.inr rfl) (.inr rfl) (.inr rfl) (.inr rfl)
              (.inr rfl) (.inr rfl) (.inr rfl) (.inr rfl) (.inr rfl) (.inr rfl) (.inr rfl) (.inr rfl) (.inr rfl)
                  (.inl rfl) (.inr rfl) (.inr rfl) (.inr rfl) (.inr rfl) (.inr rfl) (.inr rfl) (.inr rfl) (.inr rfl)
                      (.inr rfl) (.inr rfl)
  exact Within.refl _

theorem State.putSlot_within (s : State) (k : Nat) (v : FwSlot) :
    Within 0x10000101000000000 [] s (State.putSlot s k v) := by
  unfold State.putSlot
  refine Within.ite ?_ ?_
  · extract_lets +onlyGivenNames -merge -underBinder x1
    have hx1 : Within 0x10000101000000000 [] s x1 := by
      unfold x1
      refine Within.ite ?_ ?_
      · exact Within.refl _
      · exact (Within.mono (State.writeDeferred_within ..) rfl)
    refine Within.trans ?_ (Within.mono (State.modFwu_within ..) rfl)
    exact hx1
  · refine Within.trans ?_ (Within.mono (State.modFwu_within ..) rfl)
    exact (Within.mono (State.modFw_within ..) rfl)

theorem State.flushSlots_within (s : State) :
    Within 0x101000000000 [] s (State.flushSlots s) := by
  unfold State.flushSlots
  extract_lets +onlyGivenNames -merge -underBinder x1
  refine Within.trans ?_ (Within.mono (State.modFwu_within ..) rfl)
  exact (Within.mono (State.modFw_within ..) rfl)

theorem State.fwuReject_within (s : State) :
    Within 0x48000000000080 [] s (State.fwuReject s) := by
  unfold State.fwuReject
  exact (Within.kind (State.flag_within ..) rfl .fwu rfl rfl)

theorem State.abandonUpload_within (s : State) :
    Within 0x10000101000000000 [] s (State.abandonUpload s) := by
  unfold State.abandonUpload
  split
  · exact Within.refl _
  · refine Within.trans ?_ (Within.mono (State.modFwu_within ..) rfl)
    exact (Within.mono (State.putSlot_within ..) rfl)

theorem State.openUpload_within (s : State) (slot : Bool) :
    Within 0x10048101000000080 [] s (State.openUpload s slot) := by
  unfold State.openUpload
  extract_lets +onlyGivenNames -merge -underBinder x1
  refine Within.ite ?_ ?_
  · exact Within.refl _
  · refine Within.ite ?_ ?_
    · exact (Within.mono (State.fwuReject_within ..) rfl)
    · extract_lets +onlyGivenNames -merge -underBinder x2
      have hx2 : Within 0x10048101000000080 [] s x2 := by
        unfold x2
        exact (Within.mono (State.abandonUpload_within ..) rfl)
      refine Within.trans ?_ (Within.mono (State.modFwu_within ..) rfl)
      refine Within.trans ?_ (Within.mono (State.putSlot_within ..) rfl)
      exact hx2

theorem execOpenUpload_within (dt : Nat) (slot : Bool) (s : State) :
    Ends (Within 0x1004810100000008e []) s (execOpenUpload dt slot s) := by
  unfold execOpenUpload
  refine Ends.next ?_
  refine Within.hostDo ?_ (fun t1 h2 => ?_)
  · exact (Within.mono (State.elapse_within ..) rfl)
  · refine Within.trans ?_ (Within.mono (State.openUpload_within ..) rfl)
    exact h2

theorem State.chunk_within (s : State) (limit : Nat) (off : Nat) (dlen : Nat) (crc : Nat) (data : List Byte) :
    Within 0x48101000000080 [] s (State.chunk s limit off dlen crc data).2 := by
  unfold State.chunk
  extract_lets +onlyGivenNames -merge -underBinder x1
  split
  · unfold x1
    refine Within.pair ?_
    refine Within.trans ?_ (Within.kind (State.flag_within ..) rfl .fwu rfl rfl)
    exact (Within.mono (State.modFw_within ..) rfl)
  · split
    · unfold x1
      refine Within.pair ?_
      refine Within.trans ?_ (Within.kind (State.flag_within ..) rfl .fwu rfl rfl)
      exact (Within.mono (State.modFw_within ..) rfl)
    · split
      · unfold x1
        refine Within.pair ?_
        refine Within.trans ?_ (Within.kind (State.flag_within ..) rfl .fwu rfl rfl)
        exact (Within.mono (State.modFw_within ..) rfl)
      · split
        · unfold x1
          refine Within.pair ?_
          refine Within.trans ?_ (Within.kind (State.flag_within ..) rfl .fwu rfl rfl)
          exact (Within.mono (State.modFw_within ..) rfl)
        · split
          · unfold x1
            refine Within.pair ?_
            refine Within.trans ?_ (Within.kind (State.flag_within ..) rfl .fwu rfl rfl)
            exact (Within.mono (State.modFw_within ..) rfl)
          · split
            · unfold x1
              refine Within.pair ?_
              refine Within.trans ?_ (Within.kind (State.flag_within ..) rfl .fwu rfl rfl)
              exact (Within.mono (State.modFw_within ..) rfl)
            · extract_lets +onlyGivenNames -merge -underBinder x2
              refine Within.pair ?_
              refine Within.trans ?_ (Within.mono (State.modFwu_within ..) rfl)
              exact (Within.mono (State.modFw_within ..) rfl)

theorem execFirmwareChunk_within (dt : Nat) (ring : Fin 4) (s : State) :
    Ends (Within 0x4c1010000002ae []) s (execFirmwareChunk dt ring s) := by
  unfold execFirmwareChunk
  extract_lets +onlyGivenNames -merge -underBinder x1
  have hx1 : Within 0x4c1010000002ae [] s x1 := by
    unfold x1
    exact (Within.mono (State.elapse_within ..) rfl)
  split
  · refine Ends.next ?_
    exact hx1
  · refine Ends.ite ?_ ?_
    · refine Ends.next ?_
      exact hx1
    · extract_lets +onlyGivenNames -merge -underBinder x2
      split
      rename_i y3 y4 e5
      have hy4 : Within 0x4c1010000002ae [] s y4 := by
        refine Within.snd e5 ?_
        split
        · refine Within.trans ?_ (Within.mono (State.chunk_within ..) rfl)
          exact hx1
        · refine Within.trans ?_ (Within.mono (State.chunk_within ..) rfl)
          exact hx1
      refine Ends.next ?_
      refine Within.trans ?_ (Within.mono (State.ringComplete_within ..) rfl)
      exact hy4

theorem State.windowChunk_within (s : State) (n : Nat) :
    Within 0x48101000000080 [] s (State.windowChunk s n) := by
  unfold State.windowChunk
  refine Within.ite ?_ ?_
  · exact Within.refl _
  · extract_lets +onlyGivenNames -merge -underBinder x1
    split
    rename_i y2 y3 e4
    have hy3 : Within 0x48101000000080 [] s y3 := by
      refine Within.snd e4 ?_
      exact (Within.mono (State.chunk_within ..) rfl)
    refine Within.trans ?_ (Within.kind (State.wrn_within ..) rfl .fwu rfl rfl)
    exact hy3

theorem execWindowChunk_within (dt : Nat) (len : BitVec 11) (s : State) :
    Ends (Within 0x4810100000008e []) s (execWindowChunk dt len s) := by
  unfold execWindowChunk
  refine Ends.next ?_
  refine Within.hostDo ?_ (fun t1 h2 => ?_)
  · exact (Within.mono (State.elapse_within ..) rfl)
  · refine Within.trans ?_ (Within.mono (State.windowChunk_within ..) rfl)
    exact h2

theorem State.closeUpload_within (s : State) :
    Within 0x10048101000000080 [] s (State.closeUpload s) := by
  unfold State.closeUpload
  refine Within.ite ?_ ?_
  · exact Within.refl _
  · split
    · exact (Within.mono (State.fwuReject_within ..) rfl)
    · extract_lets +onlyGivenNames -merge -underBinder x1
      extract_lets +onlyGivenNames -merge -underBinder x2
      refine Within.ite ?_ ?_
      · extract_lets +onlyGivenNames -merge -underBinder x3 x4
        have hx4 : Within 0x10048101000000080 [] s x4 := by
          unfold x4
          refine Within.trans ?_ (Within.mono (State.modFwu_within ..) rfl)
          exact (Within.mono (State.putSlot_within ..) rfl)
        refine Within.trans ?_ (Within.kind (State.flag_within ..) rfl .fwu rfl rfl)
        exact hx4
      · refine Within.trans ?_ (Within.mono (State.fwuReject_within ..) rfl)
        exact (Within.mono (State.abandonUpload_within ..) rfl)

theorem execCloseUpload_within (dt : Nat) (s : State) :
    Ends (Within 0x1004810100000008e []) s (execCloseUpload dt s) := by
  unfold execCloseUpload
  refine Ends.next ?_
  refine Within.hostDo ?_ (fun t1 h2 => ?_)
  · exact (Within.mono (State.elapse_within ..) rfl)
  · refine Within.trans ?_ (Within.mono (State.closeUpload_within ..) rfl)
    exact h2

theorem State.abortUpload_within (s : State) :
    Within 0x10000101000000000 [] s (State.abortUpload s) := by
  unfold State.abortUpload
  refine Within.ite ?_ ?_
  · exact (Within.mono (State.abandonUpload_within ..) rfl)
  · exact Within.refl _

theorem execAbortUpload_within (dt : Nat) (s : State) :
    Ends (Within 0x1000010100000000e []) s (execAbortUpload dt s) := by
  unfold execAbortUpload
  refine Ends.next ?_
  refine Within.hostDo ?_ (fun t1 h2 => ?_)
  · exact (Within.mono (State.elapse_within ..) rfl)
  · refine Within.trans ?_ (Within.mono (State.abortUpload_within ..) rfl)
    exact h2

theorem State.activate_within (s : State) (slot : Nat) (mt : Nat) :
    Within 0x101000000000 [] s (State.activate s slot mt) := by
  unfold State.activate
  refine Within.trans ?_ (Within.mono (State.modFwu_within ..) rfl)
  exact (Within.mono (State.modFw_within ..) rfl)

theorem execActivationDue_within (dt : Nat) (s : State) :
    Ends (Within 0x4800100000008e []) s (execActivationDue dt s) := by
  unfold execActivationDue
  extract_lets +onlyGivenNames -merge -underBinder x1
  have hx1 : Within 0x4800100000008e [] s x1 := by
    unfold x1
    exact (Within.mono (State.elapse_within ..) rfl)
  split
  · refine Ends.ite ?_ ?_
    · refine Ends.next ?_
      refine Within.trans ?_ (Within.kind (State.flag_within ..) rfl .fwu rfl rfl)
      refine Within.trans ?_ (Within.mono (State.modFwu_within ..) rfl)
      exact hx1
    · refine Ends.next ?_
      exact hx1
  · refine Ends.next ?_
    exact hx1

theorem execActivationCancel_within (dt : Nat) (s : State) :
    Ends (Within 0x104810110000008e []) s (execActivationCancel dt s) := by
  unfold execActivationCancel
  extract_lets +onlyGivenNames -merge -underBinder x1
  have hx1 : Within 0x104810110000008e [] s x1 := by
    unfold x1
    exact (Within.mono (State.elapse_within ..) rfl)
  split
  · refine Ends.ite ?_ ?_
    · extract_lets +onlyGivenNames -merge -underBinder x2
      have hx2 : Within 0x104810110000008e [] s x2 := by
        unfold x2
        refine Within.trans ?_ (Within.mono (State.record_within ..) rfl)
        exact hx1
      refine Ends.next ?_
      refine Within.trans ?_ (Within.kind (State.flag_within ..) rfl .fwu rfl rfl)
      refine Within.trans ?_ (Within.mono (State.modFwu_within ..) rfl)
      refine Within.trans ?_ (Within.mono (State.modFw_within ..) rfl)
      exact hx2
    · refine Ends.next ?_
      exact hx1
  · refine Ends.next ?_
    exact hx1

theorem execTrialEnd_within (dt : Nat) (s : State) :
    Ends (Within 0x10100000000e []) s (execTrialEnd dt s) := by
  unfold execTrialEnd
  extract_lets +onlyGivenNames -merge -underBinder x1
  have hx1 : Within 0x10100000000e [] s x1 := by
    unfold x1
    exact (Within.mono (State.elapse_within ..) rfl)
  refine Ends.ite ?_ ?_
  · refine Ends.next ?_
    refine Within.trans ?_ (Within.mono (State.modFw_within ..) rfl)
    refine Within.trans ?_ (Within.mono (State.bookRole_within ..) rfl)
    exact hx1
  · refine Ends.next ?_
    exact hx1

theorem execSvCommit_within (dt : Nat) (s : State) :
    Ends (Within 0x104810010000008e []) s (execSvCommit dt s) := by
  unfold execSvCommit
  extract_lets +onlyGivenNames -merge -underBinder x1
  have hx1 : Within 0x104810010000008e [] s x1 := by
    unfold x1
    exact (Within.mono (State.elapse_within ..) rfl)
  extract_lets +onlyGivenNames -merge -underBinder x2
  refine Ends.ite ?_ ?_
  · extract_lets +onlyGivenNames -merge -underBinder x3
    have hx3 : Within 0x104810010000008e [] s x3 := by
      unfold x3
      refine Within.trans ?_ (Within.mono (State.modFw_within ..) rfl)
      exact hx1
    refine Ends.next ?_
    refine Within.trans ?_ (Within.kind (State.flag_within ..) rfl .fwu rfl rfl)
    refine Within.trans ?_ (Within.mono (State.record_within ..) rfl)
    exact hx3
  · refine Ends.next ?_
    exact hx1

theorem State.putSettings_within (s : State) (v : Settings) :
    Within 0x100000000000 [] s (State.putSettings s v) := by
  unfold State.putSettings
  exact (Within.mono (State.modFw_within ..) rfl)

theorem State.modSettings_within (s : State) (f : Settings → Settings) :
    Within 0x101000000000 [] s (State.modSettings s f) := by
  unfold State.modSettings
  extract_lets +onlyGivenNames -merge -underBinder x1
  extract_lets +onlyGivenNames -merge -underBinder x2
  extract_lets +onlyGivenNames -merge -underBinder x3 x4
  refine Within.ite ?_ ?_
  · exact (Within.mono (State.modFwu_within ..) rfl)
  · exact (Within.mono (State.putSettings_within ..) rfl)

theorem State.flushSettings_within (s : State) :
    Within 0x101000000000 [] s (State.flushSettings s) := by
  unfold State.flushSettings
  split
  · refine Within.trans ?_ (Within.mono (State.modFwu_within ..) rfl)
    exact (Within.mono (State.putSettings_within ..) rfl)
  · exact Within.refl _

theorem State.savePage_within (s : State) (p : Page) :
    Within 0x101000000000 [] s (State.savePage s p) := by
  unfold State.savePage
  extract_lets +onlyGivenNames -merge -underBinder x1
  exact (Within.mono (State.modSettings_within ..) rfl)

theorem State.saveLimits_within (s : State) :
    Within 0x101000000000 [] s (State.saveLimits s) := by
  unfold State.saveLimits
  extract_lets +onlyGivenNames -merge -underBinder x1
  exact (Within.mono (State.modSettings_within ..) rfl)

end Sys2Proof.Machine
end

