-- ==== Sys2Proof/Laws/FrameJournal.lean ====
section
/-! SUPPORT. What each operation of Machine/Journal.lean may change (Laws/Within.lean). -/

namespace Sys2Proof.Machine

open Sys2Proof

theorem State.jrnQueue_within (s : State) (r : Nat) (img : List Byte) :
    Within 0x10000000020008200 [] s (State.jrnQueue s r img) := by
  unfold State.jrnQueue
  extract_lets +onlyGivenNames -merge -underBinder x1
  extract_lets +onlyGivenNames -merge -underBinder x2 x3
  have hx3 : Within 0x10000000020008200 [] s x3 := by
    unfold x3
    refine Within.upd ?_ rfl rfl (.inr rfl) (.inr rfl) (.inr rfl) (.inr rfl) (.inr rfl) (.inr rfl) (.inr rfl) (.inr
        rfl) (.inr rfl) (.inr rfl) (.inr rfl) (.inr rfl) (.inr rfl) (.inr rfl) (.inr rfl) (.inl rfl) (.inr rfl) (.inr
            rfl) (.inr rfl) (.inr rfl) (.inr rfl) (.inr rfl) (.inr rfl) (.inr rfl) (.inr rfl) (.inr rfl) (.inr rfl)
                (.inr rfl) (.inr rfl) (.inr rfl) (.inr rfl) (.inr rfl) (.inr rfl) (.inr rfl) (.inr rfl) (.inr rfl)
                    (.inr rfl) (.inr rfl) (.inr rfl) (.inr rfl) (.inr rfl) (.inr rfl) (.inr rfl) (.inr rfl) (.inr
                        rfl) (.inr rfl) (.inr rfl)
    exact Within.refl _
  extract_lets +onlyGivenNames -merge -underBinder x4
  have hx4 : Within 0x10000000020008200 [] s x4 := by
    unfold x4
    refine Within.ite ?_ ?_
    · refine Within.trans ?_ (Within.mono (State.writeDeferred_within ..) rfl)
      exact hx3
    · exact hx3
  refine Within.ite ?_ ?_
  · refine Within.trans ?_ (Within.mono (State.mirrorItem_within ..) rfl)
    exact hx4
  · exact hx4

theorem State.jrnEdit_within (s : State) (r : Nat) (o : Nat) (b : List Byte) :
    Within 0x8000 [] s (State.jrnEdit s r o b) := by
  unfold State.jrnEdit
  extract_lets +onlyGivenNames -merge -underBinder x1
  refine Within.upd ?_ rfl rfl (.inr rfl) (.inr rfl) (.inr rfl) (.inr rfl) (.inr rfl) (.inr rfl) (.inr rfl) (.inr
      rfl) (.inr rfl) (.inr rfl) (.inr rfl) (.inr rfl) (.inr rfl) (.inr rfl) (.inr rfl) (.inl rfl) (.inr rfl) (.inr
          rfl) (.inr rfl) (.inr rfl) (.inr rfl) (.inr rfl) (.inr rfl) (.inr rfl) (.inr rfl) (.inr rfl) (.inr rfl)
              (.inr rfl) (.inr rfl) (.inr rfl) (.inr rfl) (.inr rfl) (.inr rfl) (.inr rfl) (.inr rfl) (.inr rfl)
                  (.inr rfl) (.inr rfl) (.inr rfl) (.inr rfl) (.inr rfl) (.inr rfl) (.inr rfl) (.inr rfl) (.inr rfl)
                      (.inr rfl) (.inr rfl)
  exact Within.refl _

theorem State.jrnPut_within (s : State) (r : Nat) (o : Nat) (b : List Byte) :
    Within 0x10000000020008200 [] s (State.jrnPut s r o b) := by
  unfold State.jrnPut
  extract_lets +onlyGivenNames -merge -underBinder x1
  exact (Within.mono (State.jrnQueue_within ..) rfl)

theorem execJournalWriteStart_within (dt : Nat) (s : State) :
    Ends (Within 0x800e []) s (execJournalWriteStart dt s) := by
  unfold execJournalWriteStart
  extract_lets +onlyGivenNames -merge -underBinder x1
  have hx1 : Within 0x800e [] s x1 := by
    unfold x1
    exact (Within.mono (State.elapse_within ..) rfl)
  split
  · refine Ends.ite ?_ ?_
    · refine Ends.next ?_
      exact hx1
    · extract_lets +onlyGivenNames -merge -underBinder x2
      extract_lets +onlyGivenNames -merge -underBinder x3
      extract_lets +onlyGivenNames -merge -underBinder x4
      extract_lets +onlyGivenNames -merge -underBinder x5
      extract_lets +onlyGivenNames -merge -underBinder x6
      refine Ends.next ?_
      refine Within.upd ?_ rfl rfl (.inr rfl) (.inr rfl) (.inr rfl) (.inr rfl) (.inr rfl) (.inr rfl) (.inr rfl) (.inr
          rfl) (.inr rfl) (.inr rfl) (.inr rfl) (.inr rfl) (.inr rfl) (.inr rfl) (.inr rfl) (.inl rfl) (.inr rfl)
              (.inr rfl) (.inr rfl) (.inr rfl) (.inr rfl) (.inr rfl) (.inr rfl) (.inr rfl) (.inr rfl) (.inr rfl)
                  (.inr rfl) (.inr rfl) (.inr rfl) (.inr rfl) (.inr rfl) (.inr rfl) (.inr rfl) (.inr rfl) (.inr rfl)
                      (.inr rfl) (.inr rfl) (.inr rfl) (.inr rfl) (.inr rfl) (.inr rfl) (.inr rfl) (.inr rfl) (.inr
                          rfl) (.inr rfl) (.inr rfl) (.inr rfl)
      exact hx1
  · refine Ends.next ?_
    exact hx1

theorem State.jrnFinish_within (s : State) :
    Within 0x8000008000 [] s (State.jrnFinish s) := by
  unfold State.jrnFinish
  split
  · refine Within.upd ?_ rfl rfl (.inr rfl) (.inr rfl) (.inr rfl) (.inr rfl) (.inr rfl) (.inr rfl) (.inr rfl) (.inr
      rfl) (.inr rfl) (.inr rfl) (.inr rfl) (.inr rfl) (.inr rfl) (.inr rfl) (.inr rfl) (.inl rfl) (.inr rfl) (.inr
          rfl) (.inr rfl) (.inr rfl) (.inr rfl) (.inr rfl) (.inr rfl) (.inr rfl) (.inr rfl) (.inr rfl) (.inr rfl)
              (.inr rfl) (.inr rfl) (.inr rfl) (.inr rfl) (.inr rfl) (.inr rfl) (.inr rfl) (.inr rfl) (.inr rfl)
                  (.inr rfl) (.inr rfl) (.inr rfl) (.inl rfl) (.inr rfl) (.inr rfl) (.inr rfl) (.inr rfl) (.inr rfl)
                      (.inr rfl) (.inr rfl)
    exact Within.refl _
  · exact Within.refl _

theorem State.jrnTear_within (s : State) :
    Within 0x8000008000 [] s (State.jrnTear s) := by
  unfold State.jrnTear
  split
  · refine Within.upd ?_ rfl rfl (.inr rfl) (.inr rfl) (.inr rfl) (.inr rfl) (.inr rfl) (.inr rfl) (.inr rfl) (.inr
      rfl) (.inr rfl) (.inr rfl) (.inr rfl) (.inr rfl) (.inr rfl) (.inr rfl) (.inr rfl) (.inl rfl) (.inr rfl) (.inr
          rfl) (.inr rfl) (.inr rfl) (.inr rfl) (.inr rfl) (.inr rfl) (.inr rfl) (.inr rfl) (.inr rfl) (.inr rfl)
              (.inr rfl) (.inr rfl) (.inr rfl) (.inr rfl) (.inr rfl) (.inr rfl) (.inr rfl) (.inr rfl) (.inr rfl)
                  (.inr rfl) (.inr rfl) (.inr rfl) (.inl rfl) (.inr rfl) (.inr rfl) (.inr rfl) (.inr rfl) (.inr rfl)
                      (.inr rfl) (.inr rfl)
    exact Within.refl _
  · exact Within.refl _

theorem execJournalWriteDone_within (dt : Nat) (s : State) :
    Ends (Within 0x800000800e []) s (execJournalWriteDone dt s) := by
  unfold execJournalWriteDone
  refine Ends.next ?_
  refine Within.trans ?_ (Within.mono (State.jrnFinish_within ..) rfl)
  exact (Within.mono (State.elapse_within ..) rfl)

theorem State.jrnLoad_within (s : State) (r : Nat) :
    Within 0x11008000100008080 [] s (State.jrnLoad s r) := by
  unfold State.jrnLoad
  extract_lets +onlyGivenNames -merge -underBinder x1
  extract_lets +onlyGivenNames -merge -underBinder x2
  split
  · exact (Within.kind (State.wrb_within ..) rfl .est rfl rfl)
  · extract_lets +onlyGivenNames -merge -underBinder x3
    extract_lets +onlyGivenNames -merge -underBinder x4 x5
    have hx5 : Within 0x11008000100008080 [] s x5 := by
      unfold x5
      refine Within.upd ?_ rfl rfl (.inr rfl) (.inr rfl) (.inr rfl) (.inr rfl) (.inr rfl) (.inr rfl) (.inr rfl) (.inr
          rfl) (.inr rfl) (.inr rfl) (.inr rfl) (.inr rfl) (.inr rfl) (.inr rfl) (.inr rfl) (.inl rfl) (.inr rfl)
              (.inr rfl) (.inr rfl) (.inr rfl) (.inr rfl) (.inr rfl) (.inr rfl) (.inr rfl) (.inr rfl) (.inr rfl)
                  (.inr rfl) (.inr rfl) (.inr rfl) (.inr rfl) (.inr rfl) (.inr rfl) (.inr rfl) (.inr rfl) (.inr rfl)
                      (.inr rfl) (.inr rfl) (.inr rfl) (.inr rfl) (.inr rfl) (.inr rfl) (.inr rfl) (.inr rfl) (.inr
                          rfl) (.inr rfl) (.inr rfl) (.inr rfl)
      exact Within.refl _
    refine Within.ite ?_ ?_
    · exact hx5
    · extract_lets +onlyGivenNames -merge -underBinder x6
      have hx6 : Within 0x11008000100008080 [] s x6 := by
        unfold x6
        refine Within.trans ?_ (Within.kind (State.wrb_within ..) rfl .est rfl rfl)
        refine Within.trans ?_ (Within.kind (State.inc_within ..) rfl .est rfl rfl)
        exact hx5
      refine Within.trans ?_ (Within.mono (State.record_within ..) rfl)
      exact hx6

theorem State.jrnBoot_within (s : State) :
    Within 0x11008000100008080 [] s (State.jrnBoot s) := by
  unfold State.jrnBoot
  extract_lets +onlyGivenNames -merge -underBinder x1
  have hx1 : Within 0x11008000100008080 [] s x1 := by
    unfold x1
    refine Within.foldl ?_ (fun t2 a3 h4 => ?_)
    · exact Within.refl _
    · refine Within.trans ?_ (Within.mono (State.jrnLoad_within ..) rfl)
      exact h4
  refine Within.trans ?_ (Within.kind (State.wrn_within ..) rfl .est rfl rfl)
  exact hx1

end Sys2Proof.Machine
end

