-- ==== Sys2Proof/Laws/FrameResets.lean ====
section
/-! SUPPORT. What each operation of Machine/Resets.lean may change (Laws/Within.lean). -/

namespace Sys2Proof.Machine

open Sys2Proof

theorem State.settleMram_within (s : State) (lost : Bool) :
    Within 0x11008149100008088 [] s (State.settleMram s lost) := by
  unfold State.settleMram
  refine Within.trans ?_ (Within.mono (State.bookRole_within ..) rfl)
  refine Within.trans ?_ (Within.mono (State.abandonUpload_within ..) rfl)
  refine Within.ite ?_ ?_
  · refine Within.trans ?_ (Within.mono (State.jrnTear_within ..) rfl)
    exact (Within.mono (State.sbxTear_within ..) rfl)
  · refine Within.trans ?_ (Within.mono (State.jrnFinish_within ..) rfl)
    exact (Within.mono (State.sbxFinish_within ..) rfl)

theorem State.afterReset_within (s : State) (way : Bool) :
    Within 0x1fffffffc07ffffffcff [] s (State.afterReset s way) := by
  constructor
  case regs => intro p _ k; rw [kind_bits rfl] at k; cases k
  all_goals first | (intro k; exact absurd k (by decide)) | (intro; rfl)

theorem State.intoReset_within (s : State) (lost : Bool) (way : Bool) :
    Within 0x1fffffffd4fffffffeff [] s (State.intoReset s lost way) := by
  unfold State.intoReset
  refine Within.trans ?_ (Within.mono (State.afterReset_within ..) rfl)
  refine Within.trans ?_ (Within.mono (State.settleMram_within ..) rfl)
  exact (Within.mono (State.forceSafe_within ..) rfl)

theorem State.countReset_within (s : State) (cause : Nat) (prior : Nat) :
    Within 0x100000000008 [] s (State.countReset s cause prior) := by
  unfold State.countReset
  refine Within.trans ?_ (Within.mono (State.modFw_within ..) rfl)
  refine Within.upd ?_ rfl rfl (.inr rfl) (.inr rfl) (.inr rfl) (.inl rfl) (.inr rfl) (.inr rfl) (.inr rfl) (.inr
      rfl) (.inr rfl) (.inr rfl) (.inr rfl) (.inr rfl) (.inr rfl) (.inr rfl) (.inr rfl) (.inr rfl) (.inr rfl) (.inr
          rfl) (.inr rfl) (.inr rfl) (.inr rfl) (.inr rfl) (.inr rfl) (.inr rfl) (.inr rfl) (.inr rfl) (.inr rfl)
              (.inr rfl) (.inr rfl) (.inr rfl) (.inr rfl) (.inr rfl) (.inr rfl) (.inr rfl) (.inr rfl) (.inr rfl)
                  (.inr rfl) (.inr rfl) (.inr rfl) (.inr rfl) (.inr rfl) (.inr rfl) (.inr rfl) (.inr rfl) (.inr rfl)
                      (.inr rfl) (.inr rfl)
  exact Within.refl _

theorem State.tryBoot_within (s : State) :
    Within 0x8810110000008b [] s (State.tryBoot s) := by
  unfold State.tryBoot
  extract_lets +onlyGivenNames -merge -underBinder x1
  refine Within.ite ?_ ?_
  · exact Within.refl _
  · extract_lets +onlyGivenNames -merge -underBinder x2
    extract_lets +onlyGivenNames -merge -underBinder x3
    extract_lets +onlyGivenNames -merge -underBinder x4 x5
    have hx5 : Within 0x8810110000008b [] s x5 := by
      unfold x5
      refine Within.upd ?_ rfl rfl (.inl rfl) (.inl rfl) (.inr rfl) (.inl rfl) (.inr rfl) (.inr rfl) (.inr rfl) (.inr
          rfl) (.inr rfl) (.inr rfl) (.inr rfl) (.inr rfl) (.inr rfl) (.inr rfl) (.inr rfl) (.inr rfl) (.inr rfl)
              (.inr rfl) (.inr rfl) (.inr rfl) (.inr rfl) (.inr rfl) (.inr rfl) (.inr rfl) (.inr rfl) (.inr rfl)
                  (.inr rfl) (.inr rfl) (.inr rfl) (.inr rfl) (.inr rfl) (.inr rfl) (.inr rfl) (.inr rfl) (.inr rfl)
                      (.inr rfl) (.inl rfl) (.inr rfl) (.inr rfl) (.inr rfl) (.inr rfl) (.inr rfl) (.inr rfl) (.inr
                          rfl) (.inr rfl) (.inr rfl) (.inr rfl)
      exact Within.refl _
    extract_lets +onlyGivenNames -merge -underBinder x6
    have hx6 : Within 0x8810110000008b [] s x6 := by
      unfold x6
      refine Within.trans ?_ (Within.mono (State.sbxScan_within ..) rfl)
      refine Within.trans ?_ (Within.mono (State.modFw_within ..) rfl)
      exact hx5
    refine Within.ite ?_ ?_
    · refine Within.trans ?_ (Within.kind (State.flag_within ..) rfl .thm rfl rfl)
      exact hx6
    · exact hx6

theorem State.moduleReset_within (s : State) (cause : Nat) (lost : Bool) (way : Bool) :
    Within 0x1fffffffd4fffffffeff [] s (State.moduleReset s cause lost way) := by
  unfold State.moduleReset
  extract_lets +onlyGivenNames -merge -underBinder x1
  refine Within.trans ?_ (Within.mono (State.tryBoot_within ..) rfl)
  refine Within.trans ?_ (Within.mono (State.countReset_within ..) rfl)
  exact (Within.mono (State.intoReset_within ..) rfl)

theorem State.flushLocked_within (s : State) :
    Within 0x21808040180000088 [] s (State.flushLocked s) := by
  unfold State.flushLocked
  refine Within.foldl ?_ (fun t1 a2 h3 => ?_)
  · exact (Within.mono (State.sbxFinish_within ..) rfl)
  · refine Within.trans ?_ (Within.mono (State.sbxFinish_within ..) rfl)
    refine Within.trans ?_ (Within.mono (State.sbxStart_within ..) rfl)
    exact h3

theorem State.recordNow_within (s : State) (p : Page) (cls : Nat) (payload : List Byte) :
    Within 0x21808040180000088 [] s (State.recordNow s p cls payload) := by
  unfold State.recordNow
  refine Within.ite ?_ ?_
  · exact Within.refl _
  · refine Within.trans ?_ (Within.mono (State.sbxFinish_within ..) rfl)
    refine Within.trans ?_ (Within.mono (State.startLocked_within ..) rfl)
    exact (Within.mono (State.flushLocked_within ..) rfl)

theorem State.fallBack_within (s : State) (k : Nat) :
    Within 0x1fffffffd4fffffffeff [] s (State.fallBack s k) := by
  unfold State.fallBack
  extract_lets +onlyGivenNames -merge -underBinder x1 x2
  have hx2 : Within 0x1fffffffd4fffffffeff [] s x2 := by
    unfold x2
    exact (Within.mono (State.putSlot_within ..) rfl)
  refine Within.ite ?_ ?_
  · extract_lets +onlyGivenNames -merge -underBinder x3
    have hx3 : Within 0x1fffffffd4fffffffeff [] s x3 := by
      unfold x3
      refine Within.trans ?_ (Within.mono (State.modFw_within ..) rfl)
      exact hx2
    refine Within.trans ?_ (Within.kind (State.flag_within ..) rfl .fwu rfl rfl)
    refine Within.trans ?_ (Within.mono (State.moduleReset_within ..) rfl)
    refine Within.trans ?_ (Within.mono (State.recordNow_within ..) rfl)
    exact hx3
  · refine Within.trans ?_ (Within.mono (State.moduleReset_within ..) rfl)
    exact hx2

theorem State.failBoot_within (s : State) :
    Within 0x1fffffffd4fffffffeff [] s (State.failBoot s) := by
  unfold State.failBoot
  extract_lets +onlyGivenNames -merge -underBinder x1
  extract_lets +onlyGivenNames -merge -underBinder x2
  extract_lets +onlyGivenNames -merge -underBinder x3
  have hx3 : Within 0x1fffffffd4fffffffeff [] s x3 := by
    unfold x3
    exact (Within.mono (State.modFw_within ..) rfl)
  extract_lets +onlyGivenNames -merge -underBinder x4
  have hx4 : Within 0x1fffffffd4fffffffeff [] s x4 := by
    unfold x4
    refine Within.trans ?_ (Within.mono (State.recordNow_within ..) rfl)
    exact hx3
  refine Within.ite ?_ ?_
  · refine Within.trans ?_ (Within.mono (State.fallBack_within ..) rfl)
    exact hx4
  · refine Within.trans ?_ (Within.mono (State.moduleReset_within ..) rfl)
    exact hx4

theorem State.trialOut_within (s : State) :
    Within 0x1fffffffd4fffffffeff [] s (State.trialOut s) := by
  unfold State.trialOut
  refine Within.ite ?_ ?_
  · exact (Within.mono (State.failBoot_within ..) rfl)
  · exact Within.refl _

end Sys2Proof.Machine
end

