-- ==== Sys2Proof/Laws/FrameParams.lean ====
section
/-! SUPPORT. What each operation of Machine/Params.lean may change (Laws/Within.lean). -/

namespace Sys2Proof.Machine

open Sys2Proof

theorem State.paramWrite_within (s : State) (off : Nat) (bytes : List Byte) :
    Within 0x10008000000020080 [] s (State.paramWrite s off bytes) := by
  unfold State.paramWrite
  extract_lets +onlyGivenNames -merge -underBinder x1
  extract_lets +onlyGivenNames -merge -underBinder x2
  split
  · extract_lets +onlyGivenNames -merge -underBinder x3 x4
    have hx4 : Within 0x10008000000020080 [] s x4 := by
      unfold x4
      refine Within.upd ?_ rfl rfl (.inr rfl) (.inr rfl) (.inr rfl) (.inr rfl) (.inr rfl) (.inr rfl) (.inr rfl) (.inr
          rfl) (.inr rfl) (.inr rfl) (.inr rfl) (.inr rfl) (.inr rfl) (.inr rfl) (.inr rfl) (.inr rfl) (.inr rfl)
              (.inl rfl) (.inr rfl) (.inr rfl) (.inr rfl) (.inr rfl) (.inr rfl) (.inr rfl) (.inr rfl) (.inr rfl)
                  (.inr rfl) (.inr rfl) (.inr rfl) (.inr rfl) (.inr rfl) (.inr rfl) (.inr rfl) (.inr rfl) (.inr rfl)
                      (.inr rfl) (.inr rfl) (.inr rfl) (.inr rfl) (.inr rfl) (.inr rfl) (.inr rfl) (.inr rfl) (.inr
                          rfl) (.inr rfl) (.inr rfl) (.inr rfl)
      exact Within.refl _
    refine Within.ite ?_ ?_
    · exact hx4
    · refine Within.trans ?_ (Within.kind (State.flag_within ..) rfl .est rfl rfl)
      refine Within.trans ?_ (Within.kind (State.inc_within ..) rfl .est rfl rfl)
      exact hx4

theorem execParameterSetWrite_within (dt : Nat) (off : Nat) (bytes : List Byte) (s : State) :
    Ends (Within 0x1000800000002008e []) s (execParameterSetWrite dt off bytes s) := by
  unfold execParameterSetWrite
  refine Ends.next ?_
  refine Within.hostDo ?_ (fun t1 h2 => ?_)
  · exact (Within.mono (State.elapse_within ..) rfl)
  · refine Within.trans ?_ (Within.mono (State.paramWrite_within ..) rfl)
    exact h2

theorem execParameterSetScrub_within (dt : Nat) (s : State) :
    Ends (Within 0x1fffffffd4fffffffeff []) s (execParameterSetScrub dt s) := by
  unfold execParameterSetScrub
  extract_lets +onlyGivenNames -merge -underBinder x1
  have hx1 : Within 0x1fffffffd4fffffffeff [] s x1 := by
    unfold x1
    exact (Within.mono (State.elapse_within ..) rfl)
  refine Ends.ite ?_ ?_
  · refine Ends.next ?_
    refine Within.trans ?_ (Within.mono (State.trialOut_within ..) rfl)
    refine Within.trans ?_ (Within.mono (State.outEntry_within ..) rfl)
    exact hx1
  · refine Ends.next ?_
    exact hx1

end Sys2Proof.Machine
end

