-- ==== Sys2Proof/Laws/FrameSlots.lean ====
section
/-! SUPPORT. What each operation of Machine/Slots.lean may change (Laws/Within.lean). -/

namespace Sys2Proof.Machine

open Sys2Proof

theorem State.setModIn_within (s : State) (n : Nat) (v : ModIn) :
    Within 0x2000 [] s (State.setModIn s n v) := by
  unfold State.setModIn
  refine Within.upd ?_ rfl rfl (.inr rfl) (.inr rfl) (.inr rfl) (.inr rfl) (.inr rfl) (.inr rfl) (.inr rfl) (.inr
      rfl) (.inr rfl) (.inr rfl) (.inr rfl) (.inr rfl) (.inr rfl) (.inl rfl) (.inr rfl) (.inr rfl) (.inr rfl) (.inr
          rfl) (.inr rfl) (.inr rfl) (.inr rfl) (.inr rfl) (.inr rfl) (.inr rfl) (.inr rfl) (.inr rfl) (.inr rfl)
              (.inr rfl) (.inr rfl) (.inr rfl) (.inr rfl) (.inr rfl) (.inr rfl) (.inr rfl) (.inr rfl) (.inr rfl)
                  (.inr rfl) (.inr rfl) (.inr rfl) (.inr rfl) (.inr rfl) (.inr rfl) (.inr rfl) (.inr rfl) (.inr rfl)
                      (.inr rfl) (.inr rfl)
  exact Within.refl _

theorem State.setSlot_within (s : State) (n : Nat) (v : SlotSt) :
    Within 0x200000 [] s (State.setSlot s n v) := by
  unfold State.setSlot
  refine Within.upd ?_ rfl rfl (.inr rfl) (.inr rfl) (.inr rfl) (.inr rfl) (.inr rfl) (.inr rfl) (.inr rfl) (.inr
      rfl) (.inr rfl) (.inr rfl) (.inr rfl) (.inr rfl) (.inr rfl) (.inr rfl) (.inr rfl) (.inr rfl) (.inr rfl) (.inr
          rfl) (.inr rfl) (.inr rfl) (.inr rfl) (.inl rfl) (.inr rfl) (.inr rfl) (.inr rfl) (.inr rfl) (.inr rfl)
              (.inr rfl) (.inr rfl) (.inr rfl) (.inr rfl) (.inr rfl) (.inr rfl) (.inr rfl) (.inr rfl) (.inr rfl)
                  (.inr rfl) (.inr rfl) (.inr rfl) (.inr rfl) (.inr rfl) (.inr rfl) (.inr rfl) (.inr rfl) (.inr rfl)
                      (.inr rfl) (.inr rfl)
  exact Within.refl _

theorem State.setPair_within (s : State) (m : Nat) (v : PairSt) :
    Within 0x400000 [] s (State.setPair s m v) := by
  unfold State.setPair
  refine Within.upd ?_ rfl rfl (.inr rfl) (.inr rfl) (.inr rfl) (.inr rfl) (.inr rfl) (.inr rfl) (.inr rfl) (.inr
      rfl) (.inr rfl) (.inr rfl) (.inr rfl) (.inr rfl) (.inr rfl) (.inr rfl) (.inr rfl) (.inr rfl) (.inr rfl) (.inr
          rfl) (.inr rfl) (.inr rfl) (.inr rfl) (.inr rfl) (.inl rfl) (.inr rfl) (.inr rfl) (.inr rfl) (.inr rfl)
              (.inr rfl) (.inr rfl) (.inr rfl) (.inr rfl) (.inr rfl) (.inr rfl) (.inr rfl) (.inr rfl) (.inr rfl)
                  (.inr rfl) (.inr rfl) (.inr rfl) (.inr rfl) (.inr rfl) (.inr rfl) (.inr rfl) (.inr rfl) (.inr rfl)
                      (.inr rfl) (.inr rfl)
  exact Within.refl _

theorem State.slotEval_within (s : State) (n : Nat) :
    Within 0x4000008000000200080 [] s (State.slotEval s n) := by
  unfold State.slotEval
  extract_lets +onlyGivenNames -merge -underBinder x1
  extract_lets +onlyGivenNames -merge -underBinder x2
  extract_lets +onlyGivenNames -merge -underBinder x3
  extract_lets +onlyGivenNames -merge -underBinder x4
  have hx4 : Within 0x4000008000000200080 [] s x4 := by
    unfold x4
    exact (Within.mono (State.setSlot_within ..) rfl)
  refine Within.ite ?_ ?_
  · exact hx4
  · extract_lets +onlyGivenNames -merge -underBinder x5
    extract_lets +onlyGivenNames -merge -underBinder x6
    have hx6 : Within 0x4000008000000200080 [] s x6 := by
      unfold x6
      refine Within.trans ?_ (Within.kind (State.wrf_within ..) rfl .loop rfl rfl)
      exact hx4
    refine Within.ite ?_ ?_
    · extract_lets +onlyGivenNames -merge -underBinder x7
      have hx7 : Within 0x4000008000000200080 [] s x7 := by
        unfold x7
        refine Within.trans ?_ (Within.mono (State.setSlot_within ..) rfl)
        exact hx6
      extract_lets +onlyGivenNames -merge -underBinder x8
      have hx8 : Within 0x4000008000000200080 [] s x8 := by
        unfold x8
        refine Within.trans ?_ (Within.kind (State.flag_within ..) rfl .loop rfl rfl)
        refine Within.trans ?_ (Within.kind (State.wrb_within ..) rfl .loop rfl rfl)
        refine Within.trans ?_ (Within.kind (State.wrf_within ..) rfl .loop rfl rfl)
        exact hx7
      refine Within.trans ?_ (Within.kind (State.inc_within ..) rfl .loop rfl rfl)
      refine Within.ite ?_ ?_
      · refine Within.trans ?_ (Within.kind (State.flag_within ..) rfl .loop rfl rfl)
        exact hx8
      · exact hx8
    · refine Within.ite ?_ ?_
      · extract_lets +onlyGivenNames -merge -underBinder x9
        refine Within.trans ?_ (Within.mono (State.setSlot_within ..) rfl)
        exact hx6
      · refine Within.trans ?_ (Within.mono (State.setSlot_within ..) rfl)
        exact hx6

theorem State.pairEval_within (s : State) (m : Nat) :
    Within 0x2000008000000400280 [] s (State.pairEval s m) := by
  unfold State.pairEval
  extract_lets +onlyGivenNames -merge -underBinder x1
  extract_lets +onlyGivenNames -merge -underBinder x2
  refine Within.ite ?_ ?_
  · exact Within.refl _
  · refine Within.ite ?_ ?_
    · extract_lets +onlyGivenNames -merge -underBinder x3
      have hx3 : Within 0x2000008000000400280 [] s x3 := by
        unfold x3
        exact (Within.mono (State.setPair_within ..) rfl)
      extract_lets +onlyGivenNames -merge -underBinder x4
      have hx4 : Within 0x2000008000000400280 [] s x4 := by
        unfold x4
        refine Within.trans ?_ (Within.mono (State.send_within ..) rfl)
        refine Within.trans ?_ (Within.kind (State.wrn_within ..) rfl .pwm rfl rfl)
        exact hx3
      refine Within.ite ?_ ?_
      · refine Within.trans ?_ (Within.kind (State.flag_within ..) rfl .pwm rfl rfl)
        exact hx4
      · exact hx4
    · extract_lets +onlyGivenNames -merge -underBinder x5
      exact (Within.mono (State.setPair_within ..) rfl)

theorem State.implRaw_within (s : State) :
    Within 0x800000 [] s (State.implRaw s) := by
  unfold State.implRaw
  extract_lets +onlyGivenNames -merge -underBinder x1
  refine Within.upd ?_ rfl rfl (.inr rfl) (.inr rfl) (.inr rfl) (.inr rfl) (.inr rfl) (.inr rfl) (.inr rfl) (.inr
      rfl) (.inr rfl) (.inr rfl) (.inr rfl) (.inr rfl) (.inr rfl) (.inr rfl) (.inr rfl) (.inr rfl) (.inr rfl) (.inr
          rfl) (.inr rfl) (.inr rfl) (.inr rfl) (.inr rfl) (.inr rfl) (.inl rfl) (.inr rfl) (.inr rfl) (.inr rfl)
              (.inr rfl) (.inr rfl) (.inr rfl) (.inr rfl) (.inr rfl) (.inr rfl) (.inr rfl) (.inr rfl) (.inr rfl)
                  (.inr rfl) (.inr rfl) (.inr rfl) (.inr rfl) (.inr rfl) (.inr rfl) (.inr rfl) (.inr rfl) (.inr rfl)
                      (.inr rfl) (.inr rfl)
  exact Within.refl _

theorem State.loopEval_within (s : State) :
    Within 0x6000008000000e00280 [] s (State.loopEval s) := by
  unfold State.loopEval
  extract_lets +onlyGivenNames -merge -underBinder x1
  have hx1 : Within 0x6000008000000e00280 [] s x1 := by
    unfold x1
    refine Within.foldl ?_ (fun t2 a3 h4 => ?_)
    · exact Within.refl _
    · refine Within.trans ?_ (Within.mono (State.slotEval_within ..) rfl)
      exact h4
  refine Within.trans ?_ (Within.mono (State.implRaw_within ..) rfl)
  refine Within.foldl ?_ (fun t5 a6 h7 => ?_)
  · exact hx1
  · refine Within.trans ?_ (Within.mono (State.pairEval_within ..) rfl)
    exact h7

end Sys2Proof.Machine
end

