-- ==== Sys2Proof/Laws/FrameProtect.lean ====
section
/-! SUPPORT. What each operation of Machine/Protect.lean may change (Laws/Within.lean). -/

namespace Sys2Proof.Machine

open Sys2Proof

theorem State.setManual_within (s : State) (b : Bool) :
    Within 0x10000020000800000 [] s (State.setManual s b) := by
  unfold State.setManual
  refine Within.ite ?_ ?_
  · exact Within.refl _
  · refine Within.ite ?_ ?_
    · refine Within.trans ?_ (Within.mono (State.writeDeferred_within ..) rfl)
      refine Within.upd ?_ rfl rfl (.inr rfl) (.inr rfl) (.inr rfl) (.inr rfl) (.inr rfl) (.inr rfl) (.inr rfl) (.inr
          rfl) (.inr rfl) (.inr rfl) (.inr rfl) (.inr rfl) (.inr rfl) (.inr rfl) (.inr rfl) (.inr rfl) (.inr rfl)
              (.inr rfl) (.inr rfl) (.inr rfl) (.inr rfl) (.inr rfl) (.inr rfl) (.inl rfl) (.inr rfl) (.inr rfl)
                  (.inr rfl) (.inr rfl) (.inr rfl) (.inr rfl) (.inr rfl) (.inr rfl) (.inr rfl) (.inr rfl) (.inr rfl)
                      (.inr rfl) (.inr rfl) (.inr rfl) (.inr rfl) (.inr rfl) (.inr rfl) (.inr rfl) (.inr rfl) (.inr
                          rfl) (.inr rfl) (.inr rfl) (.inr rfl)
      exact Within.refl _
    · refine Within.upd ?_ rfl rfl (.inr rfl) (.inr rfl) (.inr rfl) (.inr rfl) (.inr rfl) (.inr rfl) (.inr rfl) (.inr
        rfl) (.inr rfl) (.inr rfl) (.inr rfl) (.inr rfl) (.inr rfl) (.inr rfl) (.inr rfl) (.inr rfl) (.inr rfl) (.inr
            rfl) (.inr rfl) (.inr rfl) (.inr rfl) (.inr rfl) (.inr rfl) (.inr rfl) (.inr rfl) (.inr rfl) (.inr rfl)
                (.inr rfl) (.inr rfl) (.inr rfl) (.inr rfl) (.inr rfl) (.inr rfl) (.inr rfl) (.inr rfl) (.inr rfl)
                    (.inr rfl) (.inr rfl) (.inr rfl) (.inr rfl) (.inr rfl) (.inl rfl) (.inr rfl) (.inr rfl) (.inr
                        rfl) (.inr rfl) (.inr rfl)
      exact Within.refl _

theorem State.manualResume_within (s : State) :
    Within 0x10000020000800000 [] s (State.manualResume s) := by
  unfold State.manualResume
  split
  · refine Within.trans ?_ (Within.mono (State.setManual_within ..) rfl)
    refine Within.upd ?_ rfl rfl (.inr rfl) (.inr rfl) (.inr rfl) (.inr rfl) (.inr rfl) (.inr rfl) (.inr rfl) (.inr
        rfl) (.inr rfl) (.inr rfl) (.inr rfl) (.inr rfl) (.inr rfl) (.inr rfl) (.inr rfl) (.inr rfl) (.inr rfl) (.inr
            rfl) (.inr rfl) (.inr rfl) (.inr rfl) (.inr rfl) (.inr rfl) (.inl rfl) (.inr rfl) (.inr rfl) (.inr rfl)
                (.inr rfl) (.inr rfl) (.inr rfl) (.inr rfl) (.inr rfl) (.inr rfl) (.inr rfl) (.inr rfl) (.inr rfl)
                    (.inr rfl) (.inr rfl) (.inr rfl) (.inr rfl) (.inr rfl) (.inr rfl) (.inr rfl) (.inr rfl) (.inr
                        rfl) (.inr rfl) (.inr rfl)
    exact Within.refl _
  · exact Within.refl _

theorem State.setGroup_within (s : State) (n : Nat) (g : GroupState) :
    Within 0x1000000 [] s (State.setGroup s n g) := by
  unfold State.setGroup
  refine Within.upd ?_ rfl rfl (.inr rfl) (.inr rfl) (.inr rfl) (.inr rfl) (.inr rfl) (.inr rfl) (.inr rfl) (.inr
      rfl) (.inr rfl) (.inr rfl) (.inr rfl) (.inr rfl) (.inr rfl) (.inr rfl) (.inr rfl) (.inr rfl) (.inr rfl) (.inr
          rfl) (.inr rfl) (.inr rfl) (.inr rfl) (.inr rfl) (.inr rfl) (.inr rfl) (.inl rfl) (.inr rfl) (.inr rfl)
              (.inr rfl) (.inr rfl) (.inr rfl) (.inr rfl) (.inr rfl) (.inr rfl) (.inr rfl) (.inr rfl) (.inr rfl)
                  (.inr rfl) (.inr rfl) (.inr rfl) (.inr rfl) (.inr rfl) (.inr rfl) (.inr rfl) (.inr rfl) (.inr rfl)
                      (.inr rfl) (.inr rfl)
  exact Within.refl _

theorem State.tripEntry_within (s : State) (n : Nat) :
    Within 0x221808000181000080 [] s (State.tripEntry s n) := by
  unfold State.tripEntry
  extract_lets +onlyGivenNames -merge -underBinder x1
  extract_lets +onlyGivenNames -merge -underBinder x2
  extract_lets +onlyGivenNames -merge -underBinder x3
  have hx3 : Within 0x221808000181000080 [] s x3 := by
    unfold x3
    exact (Within.mono (State.setGroup_within ..) rfl)
  extract_lets +onlyGivenNames -merge -underBinder x4
  have hx4 : Within 0x221808000181000080 [] s x4 := by
    unfold x4
    refine Within.trans ?_ (Within.kind (State.wrn_within ..) rfl .trip rfl rfl)
    exact hx3
  extract_lets +onlyGivenNames -merge -underBinder x5
  have hx5 : Within 0x221808000181000080 [] s x5 := by
    unfold x5
    refine Within.trans ?_ (Within.kind (State.flag_within ..) rfl .trip rfl rfl)
    refine Within.trans ?_ (Within.kind (State.inc_within ..) rfl .trip rfl rfl)
    exact hx4
  extract_lets +onlyGivenNames -merge -underBinder x6
  have hx6 : Within 0x221808000181000080 [] s x6 := by
    unfold x6
    refine Within.trans ?_ (Within.mono (State.record_within ..) rfl)
    exact hx5
  refine Within.trans ?_ (Within.mono (State.trigger_within ..) rfl)
  exact hx6

theorem State.groupStep_within (s : State) (n : Nat) :
    Within 0x221808000181000080 [] s (State.groupStep s n) := by
  unfold State.groupStep
  refine Within.ite ?_ ?_
  · exact (Within.mono (State.setGroup_within ..) rfl)
  · split
    · exact (Within.mono (State.tripEntry_within ..) rfl)
    · exact Within.refl _
    · refine Within.ite ?_ ?_
      · exact (Within.mono (State.setGroup_within ..) rfl)
      · exact Within.refl _
    · exact Within.refl _

theorem State.matrixEval_within (s : State) :
    Within 0x321808000181800080 [] s (State.matrixEval s) := by
  unfold State.matrixEval
  refine Within.ite ?_ ?_
  · exact Within.refl _
  · extract_lets +onlyGivenNames -merge -underBinder x1
    extract_lets +onlyGivenNames -merge -underBinder x2
    extract_lets +onlyGivenNames -merge -underBinder x3
    extract_lets +onlyGivenNames -merge -underBinder x4
    extract_lets +onlyGivenNames -merge -underBinder x5 x6
    have hx6 : Within 0x321808000181800080 [] s x6 := by
      unfold x6
      refine Within.upd ?_ rfl rfl (.inr rfl) (.inr rfl) (.inr rfl) (.inr rfl) (.inr rfl) (.inr rfl) (.inr rfl) (.inr
          rfl) (.inr rfl) (.inr rfl) (.inr rfl) (.inr rfl) (.inr rfl) (.inr rfl) (.inr rfl) (.inr rfl) (.inr rfl)
              (.inr rfl) (.inr rfl) (.inr rfl) (.inr rfl) (.inr rfl) (.inr rfl) (.inl rfl) (.inr rfl) (.inr rfl)
                  (.inr rfl) (.inr rfl) (.inr rfl) (.inr rfl) (.inr rfl) (.inr rfl) (.inr rfl) (.inr rfl) (.inr rfl)
                      (.inr rfl) (.inr rfl) (.inr rfl) (.inr rfl) (.inr rfl) (.inr rfl) (.inr rfl) (.inr rfl) (.inr
                          rfl) (.inr rfl) (.inr rfl) (.inr rfl)
      exact Within.refl _
    extract_lets +onlyGivenNames -merge -underBinder x7 x8 x9 x10 x11
    have hx7 : Within 0x321808000181800080 [] s x7 := by
      unfold x7
      refine Within.trans ?_ (Within.kind (State.wrn_within ..) rfl .prot rfl rfl)
      exact hx6
    have hx8 : Within 0x321808000181800080 [] s x8 := by
      unfold x8
      refine Within.trans ?_ (Within.kind (State.wrn_within ..) rfl .prot rfl rfl)
      exact hx7
    have hx9 : Within 0x321808000181800080 [] s x9 := by
      unfold x9
      refine Within.ite ?_ ?_
      · refine Within.trans ?_ (Within.kind (State.flag_within ..) rfl .prot rfl rfl)
        exact hx8
      · exact hx8
    have hx10 : Within 0x321808000181800080 [] s x10 := by
      unfold x10
      refine Within.ite ?_ ?_
      · refine Within.trans ?_ (Within.kind (State.flag_within ..) rfl .prot rfl rfl)
        exact hx9
      · exact hx9
    have hx11 : Within 0x321808000181800080 [] s x11 := by
      unfold x11
      refine Within.ite ?_ ?_
      · exact hx6
      · refine Within.ite ?_ ?_
        · exact hx10
        · refine Within.trans ?_ (Within.kind (State.flag_within ..) rfl .prot rfl rfl)
          exact hx10
    extract_lets +onlyGivenNames -merge -underBinder x12
    have hx12 : Within 0x321808000181800080 [] s x12 := by
      unfold x12
      refine Within.ite ?_ ?_
      · refine Within.trans ?_ (Within.kind (State.flag_within ..) rfl .prot rfl rfl)
        exact hx11
      · exact hx11
    refine Within.foldl ?_ (fun t13 a14 h15 => ?_)
    · exact hx12
    · refine Within.trans ?_ (Within.mono (State.groupStep_within ..) rfl)
      exact h15

theorem State.protEval_within (s : State) :
    Within 0x6321808000181e00280 [] s (State.protEval s) := by
  unfold State.protEval
  refine Within.trans ?_ (Within.mono (State.loopEval_within ..) rfl)
  refine Within.trans ?_ (Within.mono (State.matrixEval_within ..) rfl)
  refine Within.trans ?_ (Within.mono (State.loopEval_within ..) rfl)
  exact (Within.mono (State.matrixEval_within ..) rfl)

theorem State.setSource_within (s : State) (n : Nat) (b : Bool) :
    Within 0x6321808000181e00280 [] s (State.setSource s n b) := by
  unfold State.setSource
  extract_lets +onlyGivenNames -merge -underBinder x1
  refine Within.ite ?_ ?_
  · exact Within.refl _
  · refine Within.trans ?_ (Within.mono (State.protEval_within ..) rfl)
    refine Within.upd ?_ rfl rfl (.inr rfl) (.inr rfl) (.inr rfl) (.inr rfl) (.inr rfl) (.inr rfl) (.inr rfl) (.inr
        rfl) (.inr rfl) (.inr rfl) (.inr rfl) (.inr rfl) (.inr rfl) (.inr rfl) (.inr rfl) (.inr rfl) (.inr rfl) (.inr
            rfl) (.inr rfl) (.inr rfl) (.inr rfl) (.inr rfl) (.inr rfl) (.inl rfl) (.inr rfl) (.inr rfl) (.inr rfl)
                (.inr rfl) (.inr rfl) (.inr rfl) (.inr rfl) (.inr rfl) (.inr rfl) (.inr rfl) (.inr rfl) (.inr rfl)
                    (.inr rfl) (.inr rfl) (.inr rfl) (.inr rfl) (.inr rfl) (.inr rfl) (.inr rfl) (.inr rfl) (.inr
                        rfl) (.inr rfl) (.inr rfl)
    exact Within.refl _

theorem State.setChanLim_within (s : State) (c : Nat) (v : ChanLim) :
    Within 0x800000 [] s (State.setChanLim s c v) := by
  unfold State.setChanLim
  refine Within.upd ?_ rfl rfl (.inr rfl) (.inr rfl) (.inr rfl) (.inr rfl) (.inr rfl) (.inr rfl) (.inr rfl) (.inr
      rfl) (.inr rfl) (.inr rfl) (.inr rfl) (.inr rfl) (.inr rfl) (.inr rfl) (.inr rfl) (.inr rfl) (.inr rfl) (.inr
          rfl) (.inr rfl) (.inr rfl) (.inr rfl) (.inr rfl) (.inr rfl) (.inl rfl) (.inr rfl) (.inr rfl) (.inr rfl)
              (.inr rfl) (.inr rfl) (.inr rfl) (.inr rfl) (.inr rfl) (.inr rfl) (.inr rfl) (.inr rfl) (.inr rfl)
                  (.inr rfl) (.inr rfl) (.inr rfl) (.inr rfl) (.inr rfl) (.inr rfl) (.inr rfl) (.inr rfl) (.inr rfl)
                      (.inr rfl) (.inr rfl)
  exact Within.refl _

theorem State.cellSources_within (s : State) :
    Within 0x6321808000181e00280 [] s (State.cellSources s) := by
  unfold State.cellSources
  extract_lets +onlyGivenNames -merge -underBinder x1
  extract_lets +onlyGivenNames -merge -underBinder x2
  refine Within.ite ?_ ?_
  · exact Within.refl _
  · refine Within.trans ?_ (Within.mono (State.protEval_within ..) rfl)
    refine Within.upd ?_ rfl rfl (.inr rfl) (.inr rfl) (.inr rfl) (.inr rfl) (.inr rfl) (.inr rfl) (.inr rfl) (.inr
        rfl) (.inr rfl) (.inr rfl) (.inr rfl) (.inr rfl) (.inr rfl) (.inr rfl) (.inr rfl) (.inr rfl) (.inr rfl) (.inr
            rfl) (.inr rfl) (.inr rfl) (.inr rfl) (.inr rfl) (.inr rfl) (.inl rfl) (.inr rfl) (.inr rfl) (.inr rfl)
                (.inr rfl) (.inr rfl) (.inr rfl) (.inr rfl) (.inr rfl) (.inr rfl) (.inr rfl) (.inr rfl) (.inr rfl)
                    (.inr rfl) (.inr rfl) (.inr rfl) (.inr rfl) (.inr rfl) (.inr rfl) (.inr rfl) (.inr rfl) (.inr
                        rfl) (.inr rfl) (.inr rfl)
    exact Within.refl _

theorem State.limitCompare_within (s : State) (c : Nat) (code : Nat) (tick : Nat) :
    Within 0x6321808000181e00280 [] s (State.limitCompare s c code tick) := by
  unfold State.limitCompare
  refine Within.ite ?_ ?_
  · exact Within.refl _
  · refine Within.ite ?_ ?_
    · exact (Within.mono (State.setChanLim_within ..) rfl)
    · extract_lets +onlyGivenNames -merge -underBinder x1
      extract_lets +onlyGivenNames -merge -underBinder x2
      extract_lets +onlyGivenNames -merge -underBinder x3
      extract_lets +onlyGivenNames -merge -underBinder x4
      extract_lets +onlyGivenNames -merge -underBinder x5 x6
      refine Within.trans ?_ (Within.mono (State.cellSources_within ..) rfl)
      exact (Within.mono (State.setChanLim_within ..) rfl)

theorem State.limitTemp_within (s : State) (c : Nat) (t : Int) :
    Within 0x6321808000181e00280 [] s (State.limitTemp s c t) := by
  unfold State.limitTemp
  refine Within.ite ?_ ?_
  · exact Within.refl _
  · extract_lets +onlyGivenNames -merge -underBinder x1
    extract_lets +onlyGivenNames -merge -underBinder x2
    extract_lets +onlyGivenNames -merge -underBinder x3
    extract_lets +onlyGivenNames -merge -underBinder x4
    extract_lets +onlyGivenNames -merge -underBinder x5 x6
    refine Within.trans ?_ (Within.mono (State.cellSources_within ..) rfl)
    exact (Within.mono (State.setChanLim_within ..) rfl)

theorem State.absentClear_within (s : State) (n : Fin 16) :
    Within 0x6321808000181e00280 [] s (State.absentClear s n) := by
  unfold State.absentClear
  extract_lets +onlyGivenNames -merge -underBinder x1 x2
  have hx2 : Within 0x6321808000181e00280 [] s x2 := by
    unfold x2
    refine Within.upd ?_ rfl rfl (.inr rfl) (.inr rfl) (.inr rfl) (.inr rfl) (.inr rfl) (.inr rfl) (.inr rfl) (.inr
        rfl) (.inr rfl) (.inr rfl) (.inr rfl) (.inr rfl) (.inr rfl) (.inr rfl) (.inr rfl) (.inr rfl) (.inr rfl) (.inr
            rfl) (.inr rfl) (.inr rfl) (.inr rfl) (.inr rfl) (.inr rfl) (.inl rfl) (.inr rfl) (.inr rfl) (.inr rfl)
                (.inr rfl) (.inr rfl) (.inr rfl) (.inr rfl) (.inr rfl) (.inr rfl) (.inr rfl) (.inr rfl) (.inr rfl)
                    (.inr rfl) (.inr rfl) (.inr rfl) (.inr rfl) (.inr rfl) (.inr rfl) (.inr rfl) (.inr rfl) (.inr
                        rfl) (.inr rfl) (.inr rfl)
    exact Within.refl _
  refine Within.trans ?_ (Within.mono (State.cellSources_within ..) rfl)
  exact hx2

theorem State.limRewrite_within (s : State) :
    Within 0x800000 [] s (State.limRewrite s) := by
  unfold State.limRewrite
  refine Within.upd ?_ rfl rfl (.inr rfl) (.inr rfl) (.inr rfl) (.inr rfl) (.inr rfl) (.inr rfl) (.inr rfl) (.inr
      rfl) (.inr rfl) (.inr rfl) (.inr rfl) (.inr rfl) (.inr rfl) (.inr rfl) (.inr rfl) (.inr rfl) (.inr rfl) (.inr
          rfl) (.inr rfl) (.inr rfl) (.inr rfl) (.inr rfl) (.inr rfl) (.inl rfl) (.inr rfl) (.inr rfl) (.inr rfl)
              (.inr rfl) (.inr rfl) (.inr rfl) (.inr rfl) (.inr rfl) (.inr rfl) (.inr rfl) (.inr rfl) (.inr rfl)
                  (.inr rfl) (.inr rfl) (.inr rfl) (.inr rfl) (.inr rfl) (.inr rfl) (.inr rfl) (.inr rfl) (.inr rfl)
                      (.inr rfl) (.inr rfl)
  exact Within.refl _

theorem State.setComparator_within (s : State) (k : Nat) (v : Comparator) :
    Within 0x800000 [] s (State.setComparator s k v) := by
  unfold State.setComparator
  refine Within.upd ?_ rfl rfl (.inr rfl) (.inr rfl) (.inr rfl) (.inr rfl) (.inr rfl) (.inr rfl) (.inr rfl) (.inr
      rfl) (.inr rfl) (.inr rfl) (.inr rfl) (.inr rfl) (.inr rfl) (.inr rfl) (.inr rfl) (.inr rfl) (.inr rfl) (.inr
          rfl) (.inr rfl) (.inr rfl) (.inr rfl) (.inr rfl) (.inr rfl) (.inl rfl) (.inr rfl) (.inr rfl) (.inr rfl)
              (.inr rfl) (.inr rfl) (.inr rfl) (.inr rfl) (.inr rfl) (.inr rfl) (.inr rfl) (.inr rfl) (.inr rfl)
                  (.inr rfl) (.inr rfl) (.inr rfl) (.inr rfl) (.inr rfl) (.inr rfl) (.inr rfl) (.inr rfl) (.inr rfl)
                      (.inr rfl) (.inr rfl)
  exact Within.refl _

theorem State.ocSources_within (s : State) :
    Within 0x6321808000181e00280 [] s (State.ocSources s) := by
  unfold State.ocSources
  extract_lets +onlyGivenNames -merge -underBinder x1
  extract_lets +onlyGivenNames -merge -underBinder x2
  refine Within.ite ?_ ?_
  · exact Within.refl _
  · refine Within.trans ?_ (Within.mono (State.protEval_within ..) rfl)
    refine Within.upd ?_ rfl rfl (.inr rfl) (.inr rfl) (.inr rfl) (.inr rfl) (.inr rfl) (.inr rfl) (.inr rfl) (.inr
        rfl) (.inr rfl) (.inr rfl) (.inr rfl) (.inr rfl) (.inr rfl) (.inr rfl) (.inr rfl) (.inr rfl) (.inr rfl) (.inr
            rfl) (.inr rfl) (.inr rfl) (.inr rfl) (.inr rfl) (.inr rfl) (.inl rfl) (.inr rfl) (.inr rfl) (.inr rfl)
                (.inr rfl) (.inr rfl) (.inr rfl) (.inr rfl) (.inr rfl) (.inr rfl) (.inr rfl) (.inr rfl) (.inr rfl)
                    (.inr rfl) (.inr rfl) (.inr rfl) (.inr rfl) (.inr rfl) (.inr rfl) (.inr rfl) (.inr rfl) (.inr
                        rfl) (.inr rfl) (.inr rfl)
    exact Within.refl _

theorem State.fastCompare_within (s : State) (k : Nat) (x : Int) :
    Within 0x6321808000181e00280 [] s (State.fastCompare s k x) := by
  unfold State.fastCompare
  refine Within.ite ?_ ?_
  · exact Within.refl _
  · refine Within.trans ?_ (Within.mono (State.ocSources_within ..) rfl)
    exact (Within.mono (State.setComparator_within ..) rfl)

theorem State.slowCompare_within (s : State) (k : Nat) (i : Rat) :
    Within 0x6321808000181e00280 [] s (State.slowCompare s k i) := by
  unfold State.slowCompare
  refine Within.ite ?_ ?_
  · exact Within.refl _
  · extract_lets +onlyGivenNames -merge -underBinder x1
    extract_lets +onlyGivenNames -merge -underBinder x2
    refine Within.trans ?_ (Within.mono (State.ocSources_within ..) rfl)
    exact (Within.mono (State.setComparator_within ..) rfl)

theorem State.restartComparators_within (s : State) :
    Within 0x6321808000181e00280 [] s (State.restartComparators s) := by
  unfold State.restartComparators
  refine Within.trans ?_ (Within.mono (State.ocSources_within ..) rfl)
  refine Within.upd ?_ rfl rfl (.inr rfl) (.inr rfl) (.inr rfl) (.inr rfl) (.inr rfl) (.inr rfl) (.inr rfl) (.inr
      rfl) (.inr rfl) (.inr rfl) (.inr rfl) (.inr rfl) (.inr rfl) (.inr rfl) (.inr rfl) (.inr rfl) (.inr rfl) (.inr
          rfl) (.inr rfl) (.inr rfl) (.inr rfl) (.inr rfl) (.inr rfl) (.inl rfl) (.inr rfl) (.inr rfl) (.inr rfl)
              (.inr rfl) (.inr rfl) (.inr rfl) (.inr rfl) (.inr rfl) (.inr rfl) (.inr rfl) (.inr rfl) (.inr rfl)
                  (.inr rfl) (.inr rfl) (.inr rfl) (.inr rfl) (.inr rfl) (.inr rfl) (.inr rfl) (.inr rfl) (.inr rfl)
                      (.inr rfl) (.inr rfl)
  exact Within.refl _

theorem State.showLimits_within (s : State) :
    Within 0x100000000000000000 [] s (State.showLimits s) := by
  unfold State.showLimits
  extract_lets +onlyGivenNames -merge -underBinder x1
  have hx1 : Within 0x100000000000000000 [] s x1 := by
    unfold x1
    refine Within.trans ?_ (Within.kind (State.wrn_within ..) rfl .prot rfl rfl)
    refine Within.trans ?_ (Within.kind (State.wrn_within ..) rfl .prot rfl rfl)
    exact (Within.kind (State.wrn_within ..) rfl .prot rfl rfl)
  extract_lets +onlyGivenNames -merge -underBinder x2
  have hx2 : Within 0x100000000000000000 [] s x2 := by
    unfold x2
    refine Within.trans ?_ (Within.kind (State.wrn_within ..) rfl .prot rfl rfl)
    refine Within.trans ?_ (Within.kind (State.wrn_within ..) rfl .prot rfl rfl)
    exact hx1
  refine Within.trans ?_ (Within.kind (State.wrn_within ..) rfl .prot rfl rfl)
  refine Within.trans ?_ (Within.kind (State.wrn_within ..) rfl .prot rfl rfl)
  exact hx2

theorem State.limitChange_within (s : State) (m : List Byte) :
    Within 0x6321808020181e00280 [] s (State.limitChange s m) := by
  unfold State.limitChange
  extract_lets +onlyGivenNames -merge -underBinder x1
  extract_lets +onlyGivenNames -merge -underBinder x2
  split
  · extract_lets +onlyGivenNames -merge -underBinder x3
    extract_lets +onlyGivenNames -merge -underBinder x4 x5 x6
    have hx6 : Within 0x6321808020181e00280 [] s x6 := by
      unfold x6
      refine Within.upd ?_ rfl rfl (.inr rfl) (.inr rfl) (.inr rfl) (.inr rfl) (.inr rfl) (.inr rfl) (.inr rfl) (.inr
          rfl) (.inr rfl) (.inr rfl) (.inr rfl) (.inr rfl) (.inr rfl) (.inr rfl) (.inr rfl) (.inr rfl) (.inr rfl)
              (.inr rfl) (.inr rfl) (.inr rfl) (.inr rfl) (.inr rfl) (.inr rfl) (.inl rfl) (.inr rfl) (.inr rfl)
                  (.inr rfl) (.inr rfl) (.inr rfl) (.inr rfl) (.inr rfl) (.inr rfl) (.inr rfl) (.inr rfl) (.inr rfl)
                      (.inr rfl) (.inr rfl) (.inr rfl) (.inr rfl) (.inr rfl) (.inr rfl) (.inl rfl) (.inr rfl) (.inr
                          rfl) (.inr rfl) (.inr rfl) (.inr rfl)
      exact Within.refl _
    extract_lets +onlyGivenNames -merge -underBinder x7
    have hx7 : Within 0x6321808020181e00280 [] s x7 := by
      unfold x7
      refine Within.trans ?_ (Within.kind (State.flag_within ..) rfl .prot rfl rfl)
      refine Within.trans ?_ (Within.mono (State.showLimits_within ..) rfl)
      exact hx6
    extract_lets +onlyGivenNames -merge -underBinder x8
    have hx8 : Within 0x6321808020181e00280 [] s x8 := by
      unfold x8
      refine Within.trans ?_ (Within.mono (State.record_within ..) rfl)
      exact hx7
    refine Within.trans ?_ (Within.mono (State.protEval_within ..) rfl)
    exact hx8

theorem State.adoptLimits_within (s : State) :
    Within 0x6321808020181e00280 [] s (State.adoptLimits s) := by
  unfold State.adoptLimits
  extract_lets +onlyGivenNames -merge -underBinder x1
  refine Within.ite ?_ ?_
  · exact Within.refl _
  · extract_lets +onlyGivenNames -merge -underBinder x2
    extract_lets +onlyGivenNames -merge -underBinder x3
    extract_lets +onlyGivenNames -merge -underBinder x4
    extract_lets +onlyGivenNames -merge -underBinder x5
    extract_lets +onlyGivenNames -merge -underBinder x6
    extract_lets +onlyGivenNames -merge -underBinder x7 x8 x9
    have hx9 : Within 0x6321808020181e00280 [] s x9 := by
      unfold x9
      refine Within.upd ?_ rfl rfl (.inr rfl) (.inr rfl) (.inr rfl) (.inr rfl) (.inr rfl) (.inr rfl) (.inr rfl) (.inr
          rfl) (.inr rfl) (.inr rfl) (.inr rfl) (.inr rfl) (.inr rfl) (.inr rfl) (.inr rfl) (.inr rfl) (.inr rfl)
              (.inr rfl) (.inr rfl) (.inr rfl) (.inr rfl) (.inr rfl) (.inr rfl) (.inl rfl) (.inr rfl) (.inr rfl)
                  (.inr rfl) (.inr rfl) (.inr rfl) (.inr rfl) (.inr rfl) (.inr rfl) (.inr rfl) (.inr rfl) (.inr rfl)
                      (.inr rfl) (.inr rfl) (.inr rfl) (.inr rfl) (.inr rfl) (.inr rfl) (.inl rfl) (.inr rfl) (.inr
                          rfl) (.inr rfl) (.inr rfl) (.inr rfl)
      exact Within.refl _
    extract_lets +onlyGivenNames -merge -underBinder x10
    have hx10 : Within 0x6321808020181e00280 [] s x10 := by
      unfold x10
      refine Within.trans ?_ (Within.mono (State.record_within ..) rfl)
      refine Within.trans ?_ (Within.mono (State.showLimits_within ..) rfl)
      exact hx9
    refine Within.trans ?_ (Within.mono (State.protEval_within ..) rfl)
    exact hx10

theorem State.release_within (s : State) (mech : Nat) (n : Nat) :
    Within 0x1000000 [] s (State.release s mech n).2 := by
  unfold State.release
  split
  · refine Within.pair ?_
    exact Within.refl _
  · split
    · refine Within.pair ?_
      exact Within.refl _
    · split
      · refine Within.pair ?_
        exact Within.refl _
      · refine Within.pair ?_
        exact (Within.mono (State.setGroup_within ..) rfl)

theorem State.releases_within (s : State) (mech : Nat) (mask : Nat) :
    Within 0x200008000001000080 [] s (State.releases s mech mask).2 := by
  unfold State.releases
  refine Within.foldlSnd ?_ (fun t1 a2 h3 => ?_)
  · refine Within.pair ?_
    exact Within.refl _
  · split
    · split
      rename_i y4 y5 e6
      have hy5 : Within 0x200008000001000080 [] s y5 := by
        refine Within.snd e6 ?_
        refine Within.trans ?_ (Within.mono (State.release_within ..) rfl)
        exact h3
      split
      · refine Within.pair ?_
        refine Within.trans ?_ (Within.kind (State.flag_within ..) rfl .trip rfl rfl)
        refine Within.trans ?_ (Within.kind (State.inc_within ..) rfl .trip rfl rfl)
        exact hy5
      · refine Within.pair ?_
        exact hy5
    · exact h3

theorem State.tripCmdEffect_within (s : State) (v : Nat) :
    Within 0x6331808020181e00280 [] s (State.tripCmdEffect s v) := by
  unfold State.tripCmdEffect
  extract_lets +onlyGivenNames -merge -underBinder x1
  have hx1 : Within 0x6331808020181e00280 [] s x1 := by
    unfold x1
    refine Within.ite ?_ ?_
    · refine Within.trans ?_ (Within.mono (State.protEval_within ..) rfl)
      exact (Within.mono (State.setManual_within ..) rfl)
    · refine Within.ite ?_ ?_
      · refine Within.trans ?_ (Within.mono (State.protEval_within ..) rfl)
        exact (Within.mono (State.setManual_within ..) rfl)
      · exact Within.refl _
  refine Within.ite ?_ ?_
  · exact hx1
  · refine Within.trans ?_ (Within.mono (State.releases_within ..) rfl)
    exact hx1

theorem State.adoptPeerTrips_within (s : State) :
    Within 0x1000000 [] s (State.adoptPeerTrips s) := by
  unfold State.adoptPeerTrips
  refine Within.ite ?_ ?_
  · refine Within.foldl ?_ (fun t1 a2 h3 => ?_)
    · exact Within.refl _
    · refine Within.ite ?_ ?_
      · refine Within.trans ?_ (Within.mono (State.setGroup_within ..) rfl)
        exact h3
      · exact h3
  · exact Within.refl _

theorem execTripRelease_within (dt : Nat) (groups : BitVec 4) (s : State) :
    Ends (Within 0x2800020e []) s (execTripRelease dt groups s) := by
  unfold execTripRelease
  refine Ends.next ?_
  refine Within.hostDo ?_ (fun t1 h2 => ?_)
  · exact (Within.mono (State.elapse_within ..) rfl)
  · refine Within.trans ?_ (Within.mono (State.hostEvent_within ..) rfl)
    exact h2

theorem execManSet_within (dt : Nat) (s : State) :
    Ends (Within 0x2800020e []) s (execManSet dt s) := by
  unfold execManSet
  refine Ends.next ?_
  refine Within.hostDo ?_ (fun t1 h2 => ?_)
  · exact (Within.mono (State.elapse_within ..) rfl)
  · refine Within.trans ?_ (Within.mono (State.hostEvent_within ..) rfl)
    exact h2

theorem execManClr_within (dt : Nat) (s : State) :
    Ends (Within 0x2800020e []) s (execManClr dt s) := by
  unfold execManClr
  refine Ends.next ?_
  refine Within.hostDo ?_ (fun t1 h2 => ?_)
  · exact (Within.mono (State.elapse_within ..) rfl)
  · refine Within.trans ?_ (Within.mono (State.hostEvent_within ..) rfl)
    exact h2

theorem execLimitTableWrite_within (dt : Nat) (_off : Nat) (_bytes : List Byte) (s : State) :
    Ends (Within 0x10000000000000000e []) s (execLimitTableWrite dt _off _bytes s) := by
  unfold execLimitTableWrite
  refine Ends.next ?_
  refine Within.hostDo ?_ (fun t1 h2 => ?_)
  · exact (Within.mono (State.elapse_within ..) rfl)
  · refine Within.trans ?_ (Within.kind (State.inc_within ..) rfl .prot rfl rfl)
    exact h2

end Sys2Proof.Machine
end

