-- ==== Sys2Proof/Laws/FrameWitness.lean ====
section
/-! SUPPORT. What each operation of Machine/Witness.lean may change (Laws/Within.lean). -/

namespace Sys2Proof.Machine

open Sys2Proof

theorem State.setWitPair_within (s : State) (p : Nat) (v : WitPair) :
    Within 0x40000000 [] s (State.setWitPair s p v) := by
  unfold State.setWitPair
  refine Within.upd ?_ rfl rfl (.inr rfl) (.inr rfl) (.inr rfl) (.inr rfl) (.inr rfl) (.inr rfl) (.inr rfl) (.inr
      rfl) (.inr rfl) (.inr rfl) (.inr rfl) (.inr rfl) (.inr rfl) (.inr rfl) (.inr rfl) (.inr rfl) (.inr rfl) (.inr
          rfl) (.inr rfl) (.inr rfl) (.inr rfl) (.inr rfl) (.inr rfl) (.inr rfl) (.inr rfl) (.inr rfl) (.inr rfl)
              (.inr rfl) (.inr rfl) (.inr rfl) (.inl rfl) (.inr rfl) (.inr rfl) (.inr rfl) (.inr rfl) (.inr rfl)
                  (.inr rfl) (.inr rfl) (.inr rfl) (.inr rfl) (.inr rfl) (.inr rfl) (.inr rfl) (.inr rfl) (.inr rfl)
                      (.inr rfl) (.inr rfl)
  exact Within.refl _

theorem State.witAnswer_within (s : State) (kind : Nat) (p : Nat) (pos : Nat) (term : Nat) :
    Within 0x408000040000080 [] s (State.witAnswer s kind p pos term).2.2 := by
  unfold State.witAnswer
  extract_lets +onlyGivenNames -merge -underBinder x1
  extract_lets +onlyGivenNames -merge -underBinder x2
  extract_lets +onlyGivenNames -merge -underBinder x3
  split
  · refine Within.pairIn ?_
    refine Within.pair ?_
    exact Within.refl _
  · split
    · refine Within.pairIn ?_
      refine Within.pair ?_
      exact Within.refl _
    · split
      · split
        · refine Within.pairIn ?_
          refine Within.pair ?_
          exact (Within.mono (State.setWitPair_within ..) rfl)
        · refine Within.pairIn ?_
          refine Within.pair ?_
          exact Within.refl _
      · split
        · refine Within.pairIn ?_
          refine Within.pair ?_
          unfold x3
          exact (Within.mono (State.setWitPair_within ..) rfl)
        · split
          · refine Within.pairIn ?_
            refine Within.pair ?_
            exact Within.refl _
          · split
            · refine Within.pairIn ?_
              refine Within.pair ?_
              exact Within.refl _
            · split
              · refine Within.pairIn ?_
                refine Within.pair ?_
                exact Within.refl _
              · extract_lets +onlyGivenNames -merge -underBinder x4
                have hx4 : Within 0x408000040000080 [] s x4 := by
                  unfold x4
                  unfold x3
                  exact (Within.mono (State.setWitPair_within ..) rfl)
                refine Within.pairIn ?_
                refine Within.pair ?_
                refine Within.ite ?_ ?_
                · exact hx4
                · refine Within.trans ?_ (Within.kind (State.flag_within ..) rfl .wit rfl rfl)
                  refine Within.trans ?_ (Within.kind (State.inc_within ..) rfl .wit rfl rfl)
                  exact hx4

theorem State.witRequest_within (s : State) (kind : Nat) (m : List Byte) (src : NetSource) :
    Within 0x10000408000640000280 [] s (State.witRequest s kind m src) := by
  unfold State.witRequest
  refine Within.ite ?_ ?_
  · exact Within.refl _
  · refine Within.ite ?_ ?_
    · refine Within.trans ?_ (Within.kind (State.flag_within ..) rfl .wit rfl rfl)
      exact (Within.kind (State.inc_within ..) rfl .wit rfl rfl)
    · split
      · extract_lets +onlyGivenNames -merge -underBinder x1
        extract_lets +onlyGivenNames -merge -underBinder x2
        extract_lets +onlyGivenNames -merge -underBinder x3
        extract_lets +onlyGivenNames -merge -underBinder x4
        have hx4 : Within 0x10000408000640000280 [] s x4 := by
          unfold x4
          exact (Within.mono (State.setWitPair_within ..) rfl)
        split
        rename_i y5 y6 y7 e8
        have hy7 : Within 0x10000408000640000280 [] s y7 := by
          refine Within.thd e8 ?_
          refine Within.trans ?_ (Within.mono (State.witAnswer_within ..) rfl)
          exact hx4
        extract_lets +onlyGivenNames -merge -underBinder x9
        have hx9 : Within 0x10000408000640000280 [] s x9 := by
          unfold x9
          refine Within.ite ?_ ?_
          · refine Within.trans ?_ (Within.kind (State.flag_within ..) rfl .wit rfl rfl)
            refine Within.trans ?_ (Within.kind (State.inc_within ..) rfl .wit rfl rfl)
            exact hy7
          · exact hy7
        extract_lets +onlyGivenNames -merge -underBinder x10
        refine Within.trans ?_ (Within.mono (State.sendNet_within ..) rfl)
        exact hx9
      · exact Within.refl _

theorem execWitnessProbe_within (dt : Nat) (bytes : List Byte) (src : NetSource) (s : State) :
    Ends (Within 0x1000040800064000028e []) s (execWitnessProbe dt bytes src s) := by
  unfold execWitnessProbe
  refine Ends.next ?_
  refine Within.trans ?_ (Within.mono (State.witRequest_within ..) rfl)
  exact (Within.mono (State.elapse_within ..) rfl)

theorem execWitnessRenew_within (dt : Nat) (bytes : List Byte) (src : NetSource) (s : State) :
    Ends (Within 0x1000040800064000028e []) s (execWitnessRenew dt bytes src s) := by
  unfold execWitnessRenew
  refine Ends.next ?_
  refine Within.trans ?_ (Within.mono (State.witRequest_within ..) rfl)
  exact (Within.mono (State.elapse_within ..) rfl)

theorem execWitnessAcquire_within (dt : Nat) (bytes : List Byte) (src : NetSource) (s : State) :
    Ends (Within 0x1000040800064000028e []) s (execWitnessAcquire dt bytes src s) := by
  unfold execWitnessAcquire
  refine Ends.next ?_
  refine Within.trans ?_ (Within.mono (State.witRequest_within ..) rfl)
  exact (Within.mono (State.elapse_within ..) rfl)

theorem execWitnessYield_within (dt : Nat) (bytes : List Byte) (src : NetSource) (s : State) :
    Ends (Within 0x1000040800064000028e []) s (execWitnessYield dt bytes src s) := by
  unfold execWitnessYield
  refine Ends.next ?_
  refine Within.trans ?_ (Within.mono (State.witRequest_within ..) rfl)
  exact (Within.mono (State.elapse_within ..) rfl)

theorem execWitnessQuietEnd_within (dt : Nat) (s : State) :
    Ends (Within 0x4000000e []) s (execWitnessQuietEnd dt s) := by
  unfold execWitnessQuietEnd
  extract_lets +onlyGivenNames -merge -underBinder x1
  have hx1 : Within 0x4000000e [] s x1 := by
    unfold x1
    exact (Within.mono (State.elapse_within ..) rfl)
  refine Ends.ite ?_ ?_
  · refine Ends.next ?_
    refine Within.upd ?_ rfl rfl (.inr rfl) (.inr rfl) (.inr rfl) (.inr rfl) (.inr rfl) (.inr rfl) (.inr rfl) (.inr
        rfl) (.inr rfl) (.inr rfl) (.inr rfl) (.inr rfl) (.inr rfl) (.inr rfl) (.inr rfl) (.inr rfl) (.inr rfl) (.inr
            rfl) (.inr rfl) (.inr rfl) (.inr rfl) (.inr rfl) (.inr rfl) (.inr rfl) (.inr rfl) (.inr rfl) (.inr rfl)
                (.inr rfl) (.inr rfl) (.inr rfl) (.inl rfl) (.inr rfl) (.inr rfl) (.inr rfl) (.inr rfl) (.inr rfl)
                    (.inr rfl) (.inr rfl) (.inr rfl) (.inr rfl) (.inr rfl) (.inr rfl) (.inr rfl) (.inr rfl) (.inr
                        rfl) (.inr rfl) (.inr rfl)
    exact hx1
  · refine Ends.next ?_
    exact hx1

theorem State.setTdm_within (s : State) (f : TdmSt → TdmSt) :
    Within 0x20000000 [] s (State.setTdm s f) := by
  unfold State.setTdm
  refine Within.upd ?_ rfl rfl (.inr rfl) (.inr rfl) (.inr rfl) (.inr rfl) (.inr rfl) (.inr rfl) (.inr rfl) (.inr
      rfl) (.inr rfl) (.inr rfl) (.inr rfl) (.inr rfl) (.inr rfl) (.inr rfl) (.inr rfl) (.inr rfl) (.inr rfl) (.inr
          rfl) (.inr rfl) (.inr rfl) (.inr rfl) (.inr rfl) (.inr rfl) (.inr rfl) (.inr rfl) (.inr rfl) (.inr rfl)
              (.inr rfl) (.inr rfl) (.inl rfl) (.inr rfl) (.inr rfl) (.inr rfl) (.inr rfl) (.inr rfl) (.inr rfl)
                  (.inr rfl) (.inr rfl) (.inr rfl) (.inr rfl) (.inr rfl) (.inr rfl) (.inr rfl) (.inr rfl) (.inr rfl)
                      (.inr rfl) (.inr rfl)
  exact Within.refl _

theorem State.askWitness_within (s : State) (entry : Nat) (kind : Nat) (term : Nat) :
    Within 0x10000000000620000200 [] s (State.askWitness s entry kind term) := by
  unfold State.askWitness
  split
  · exact Within.refl _
  · refine Within.ite ?_ ?_
    · exact Within.refl _
    · extract_lets +onlyGivenNames -merge -underBinder x1
      extract_lets +onlyGivenNames -merge -underBinder x2
      have hx2 : Within 0x10000000000620000200 [] s x2 := by
        unfold x2
        exact (Within.mono (State.setTdm_within ..) rfl)
      refine Within.trans ?_ (Within.mono (State.sendNet_within ..) rfl)
      exact hx2

theorem State.acquire_within (s : State) :
    Within 0x10000000000620000200 [] s (State.acquire s) := by
  unfold State.acquire
  refine Within.ite ?_ ?_
  · exact Within.refl _
  · exact (Within.mono (State.askWitness_within ..) rfl)

theorem State.doubleFault_within (s : State) (reason : Nat) :
    Within 0x1208000120000080 [] s (State.doubleFault s reason) := by
  unfold State.doubleFault
  refine Within.ite ?_ ?_
  · extract_lets +onlyGivenNames -merge -underBinder x1
    have hx1 : Within 0x1208000120000080 [] s x1 := by
      unfold x1
      refine Within.trans ?_ (Within.kind (State.flag_within ..) rfl .tdm rfl rfl)
      exact (Within.mono (State.setTdm_within ..) rfl)
    refine Within.trans ?_ (Within.mono (State.record_within ..) rfl)
    exact hx1
  · exact Within.refl _

theorem execRenewTimer_within (dt : Nat) (s : State) :
    Ends (Within 0x1000000000062000020e []) s (execRenewTimer dt s) := by
  unfold execRenewTimer
  extract_lets +onlyGivenNames -merge -underBinder x1
  have hx1 : Within 0x1000000000062000020e [] s x1 := by
    unfold x1
    exact (Within.mono (State.elapse_within ..) rfl)
  refine Ends.ite ?_ ?_
  · refine Ends.next ?_
    refine Within.trans ?_ (Within.mono (State.askWitness_within ..) rfl)
    refine Within.trans ?_ (Within.mono (State.setTdm_within ..) rfl)
    exact hx1
  · refine Ends.next ?_
    exact hx1

theorem State.probeAll_within (s : State) :
    Within 0x10000000000620000200 [] s (State.probeAll s) := by
  unfold State.probeAll
  refine Within.ite ?_ ?_
  · extract_lets +onlyGivenNames -merge -underBinder x1
    have hx1 : Within 0x10000000000620000200 [] s x1 := by
      unfold x1
      exact (Within.mono (State.setTdm_within ..) rfl)
    refine Within.foldl ?_ (fun t2 a3 h4 => ?_)
    · exact hx1
    · refine Within.trans ?_ (Within.mono (State.askWitness_within ..) rfl)
      exact h4
  · exact Within.refl _

theorem State.probeInForce_within (s : State) :
    Within 0x10000000000620000200 [] s (State.probeInForce s) := by
  unfold State.probeInForce
  refine Within.ite ?_ ?_
  · extract_lets +onlyGivenNames -merge -underBinder x1
    extract_lets +onlyGivenNames -merge -underBinder x2
    have hx2 : Within 0x10000000000620000200 [] s x2 := by
      unfold x2
      exact (Within.mono (State.setTdm_within ..) rfl)
    refine Within.trans ?_ (Within.mono (State.askWitness_within ..) rfl)
    exact hx2
  · exact Within.refl _

theorem execProbeTimer_within (dt : Nat) (s : State) :
    Ends (Within 0x1000000000062000020e []) s (execProbeTimer dt s) := by
  unfold execProbeTimer
  extract_lets +onlyGivenNames -merge -underBinder x1
  have hx1 : Within 0x1000000000062000020e [] s x1 := by
    unfold x1
    exact (Within.mono (State.elapse_within ..) rfl)
  refine Ends.ite ?_ ?_
  · refine Ends.next ?_
    refine Within.trans ?_ (Within.mono (State.probeAll_within ..) rfl)
    refine Within.trans ?_ (Within.mono (State.probeInForce_within ..) rfl)
    exact hx1
  · refine Ends.next ?_
    exact hx1

theorem State.closeReply_within (s : State) (entry : Nat) (m : List Byte) :
    Within 0x20000000 [] s (State.closeReply s entry m) := by
  unfold State.closeReply
  extract_lets +onlyGivenNames -merge -underBinder x1
  exact (Within.mono (State.setTdm_within ..) rfl)

theorem State.useWitness_within (s : State) (i : Nat) :
    Within 0x10000000000620000200 [] s (State.useWitness s i) := by
  unfold State.useWitness
  refine Within.ite ?_ ?_
  · exact Within.refl _
  · extract_lets +onlyGivenNames -merge -underBinder x1
    have hx1 : Within 0x10000000000620000200 [] s x1 := by
      unfold x1
      exact (Within.mono (State.setTdm_within ..) rfl)
    refine Within.ite ?_ ?_
    · refine Within.trans ?_ (Within.mono (State.acquire_within ..) rfl)
      exact hx1
    · exact hx1

theorem State.proposeWitness_within (s : State) (i : Nat) :
    Within 0x10000000000620000200 [] s (State.proposeWitness s i) := by
  unfold State.proposeWitness
  refine Within.ite ?_ ?_
  · exact Within.refl _
  · extract_lets +onlyGivenNames -merge -underBinder x1
    have hx1 : Within 0x10000000000620000200 [] s x1 := by
      unfold x1
      exact (Within.mono (State.setTdm_within ..) rfl)
    extract_lets +onlyGivenNames -merge -underBinder x2
    have hx2 : Within 0x10000000000620000200 [] s x2 := by
      unfold x2
      refine Within.trans ?_ (Within.mono (State.mirrorItem_within ..) rfl)
      exact hx1
    refine Within.ite ?_ ?_
    · refine Within.trans ?_ (Within.mono (State.useWitness_within ..) rfl)
      exact hx2
    · exact hx2

theorem State.takeProposal_within (s : State) (i : Nat) :
    Within 0x20000000 [] s (State.takeProposal s i) := by
  unfold State.takeProposal
  extract_lets +onlyGivenNames -merge -underBinder x1
  refine Within.ite ?_ ?_
  · exact Within.refl _
  · exact (Within.mono (State.setTdm_within ..) rfl)

theorem execWitnessLost_within (dt : Nat) (s : State) :
    Ends (Within 0x1000120800072000028e []) s (execWitnessLost dt s) := by
  unfold execWitnessLost
  extract_lets +onlyGivenNames -merge -underBinder x1
  have hx1 : Within 0x1000120800072000028e [] s x1 := by
    unfold x1
    exact (Within.mono (State.elapse_within ..) rfl)
  extract_lets +onlyGivenNames -merge -underBinder x2
  refine Ends.ite ?_ ?_
  · extract_lets +onlyGivenNames -merge -underBinder x3
    extract_lets +onlyGivenNames -merge -underBinder x4
    have hx4 : Within 0x1000120800072000028e [] s x4 := by
      unfold x4
      refine Within.trans ?_ (Within.kind (State.flag_within ..) rfl .tdm rfl rfl)
      refine Within.trans ?_ (Within.mono (State.setTdm_within ..) rfl)
      exact hx1
    refine Ends.ite ?_ ?_
    · refine Ends.next ?_
      refine Within.trans ?_ (Within.mono (State.proposeWitness_within ..) rfl)
      exact hx4
    · refine Ends.next ?_
      refine Within.trans ?_ (Within.mono (State.doubleFault_within ..) rfl)
      exact hx4
  · refine Ends.next ?_
    exact hx1

theorem execWitnessReturn_within (dt : Nat) (entry : Fin 4) (s : State) :
    Ends (Within 0x1000000000062000020e []) s (execWitnessReturn dt entry s) := by
  unfold execWitnessReturn
  extract_lets +onlyGivenNames -merge -underBinder x1
  have hx1 : Within 0x1000000000062000020e [] s x1 := by
    unfold x1
    exact (Within.mono (State.elapse_within ..) rfl)
  refine Ends.ite ?_ ?_
  · refine Ends.next ?_
    refine Within.trans ?_ (Within.mono (State.proposeWitness_within ..) rfl)
    exact hx1
  · refine Ends.next ?_
    exact hx1

theorem execLeaseViewExpiry_within (dt : Nat) (s : State) :
    Ends (Within 0x2000000e []) s (execLeaseViewExpiry dt s) := by
  unfold execLeaseViewExpiry
  extract_lets +onlyGivenNames -merge -underBinder x1
  have hx1 : Within 0x2000000e [] s x1 := by
    unfold x1
    exact (Within.mono (State.elapse_within ..) rfl)
  refine Ends.ite ?_ ?_
  · refine Ends.next ?_
    refine Within.trans ?_ (Within.mono (State.setTdm_within ..) rfl)
    exact hx1
  · refine Ends.next ?_
    exact hx1

theorem execBackoffExpiry_within (dt : Nat) (s : State) :
    Ends (Within 0x1000000000062000020e []) s (execBackoffExpiry dt s) := by
  unfold execBackoffExpiry
  extract_lets +onlyGivenNames -merge -underBinder x1
  have hx1 : Within 0x1000000000062000020e [] s x1 := by
    unfold x1
    exact (Within.mono (State.elapse_within ..) rfl)
  refine Ends.ite ?_ ?_
  · extract_lets +onlyGivenNames -merge -underBinder x2
    have hx2 : Within 0x1000000000062000020e [] s x2 := by
      unfold x2
      refine Within.trans ?_ (Within.mono (State.setTdm_within ..) rfl)
      exact hx1
    refine Ends.next ?_
    refine Within.ite ?_ ?_
    · refine Within.trans ?_ (Within.mono (State.acquire_within ..) rfl)
      exact hx2
    · exact hx2
  · refine Ends.next ?_
    exact hx1

theorem State.witnessState_within (s : State) (bytes : List Byte) :
    Within 0x10000000000620000200 [] s (State.witnessState s bytes) := by
  unfold State.witnessState
  split
  · extract_lets +onlyGivenNames -merge -underBinder x1
    have hx1 : Within 0x10000000000620000200 [] s x1 := by
      unfold x1
      exact (Within.mono (State.closeReply_within ..) rfl)
    extract_lets +onlyGivenNames -merge -underBinder x2
    refine Within.ite ?_ ?_
    · refine Within.trans ?_ (Within.mono (State.acquire_within ..) rfl)
      exact hx1
    · exact hx1
  · exact Within.refl _

theorem execWitnessState_within (dt : Nat) (bytes : List Byte) (s : State) :
    Ends (Within 0x1000000000062000020e []) s (execWitnessState dt bytes s) := by
  unfold execWitnessState
  refine Ends.next ?_
  refine Within.trans ?_ (Within.mono (State.witnessState_within ..) rfl)
  exact (Within.mono (State.elapse_within ..) rfl)

end Sys2Proof.Machine
end

