-- ==== Sys2Proof/Laws/FrameFrames.lean ====
section
/-! SUPPORT. What each operation of Machine/Frames.lean may change (Laws/Within.lean). -/

namespace Sys2Proof.Machine

open Sys2Proof

theorem State.setLink_within (s : State) (l : Nat) (v : LinkSt) :
    Within 0x20000000 [] s (State.setLink s l v) := by
  unfold State.setLink
  exact (Within.mono (State.setTdm_within ..) rfl)

theorem State.takeFrame_within (s : State) (type : Nat) (f : TandemHead) (payload : List Byte) :
    Within 0x200000020000000 [] s (State.takeFrame s type f payload).2 := by
  unfold State.takeFrame
  split
  · refine Within.pair ?_
    exact Within.refl _
  · split
    · refine Within.pair ?_
      exact (Within.kind (State.inc_within ..) rfl .tdm rfl rfl)
    · extract_lets +onlyGivenNames -merge -underBinder x1
      extract_lets +onlyGivenNames -merge -underBinder x2
      have hx2 : Within 0x200000020000000 [] s x2 := by
        unfold x2
        exact (Within.mono (State.setLink_within ..) rfl)
      extract_lets +onlyGivenNames -merge -underBinder x3
      split
      · refine Within.pair ?_
        exact hx2
      · extract_lets +onlyGivenNames -merge -underBinder x4
        refine Within.pair ?_
        refine Within.trans ?_ (Within.mono (State.setTdm_within ..) rfl)
        exact hx2

end Sys2Proof.Machine
end

