-- ==== Sys2Proof/Laws/FrameSense.lean ====
section
/-! SUPPORT. What each operation of Machine/Sense.lean may change (Laws/Within.lean). -/

namespace Sys2Proof.Machine

open Sys2Proof

theorem State.setSring_within (s : State) (n : Nat) (r : RingSns) :
    Within 0x1000 [] s (State.setSring s n r) := by
  unfold State.setSring
  refine Within.upd ?_ rfl rfl (.inr rfl) (.inr rfl) (.inr rfl) (.inr rfl) (.inr rfl) (.inr rfl) (.inr rfl) (.inr
      rfl) (.inr rfl) (.inr rfl) (.inr rfl) (.inr rfl) (.inl rfl) (.inr rfl) (.inr rfl) (.inr rfl) (.inr rfl) (.inr
          rfl) (.inr rfl) (.inr rfl) (.inr rfl) (.inr rfl) (.inr rfl) (.inr rfl) (.inr rfl) (.inr rfl) (.inr rfl)
              (.inr rfl) (.inr rfl) (.inr rfl) (.inr rfl) (.inr rfl) (.inr rfl) (.inr rfl) (.inr rfl) (.inr rfl)
                  (.inr rfl) (.inr rfl) (.inr rfl) (.inr rfl) (.inr rfl) (.inr rfl) (.inr rfl) (.inr rfl) (.inr rfl)
                      (.inr rfl) (.inr rfl)
  exact Within.refl _

theorem State.setFe_within (s : State) (n : Nat) (p : Nat) (v : FeSt) :
    Within 0x1000 [] s (State.setFe s n p v) := by
  unfold State.setFe
  extract_lets +onlyGivenNames -merge -underBinder x1
  exact (Within.mono (State.setSring_within ..) rfl)

theorem State.setFeState_within (s : State) (n : Fin 16) (p : Nat) (v : Nat) :
    Within 0x2000000000000000 [] s (State.setFeState s n p v) := by
  unfold State.setFeState
  exact (Within.kind (State.wrf_within ..) rfl .sns rfl rfl)

theorem State.setRingMode_within (s : State) (n : Fin 16) (v : Nat) :
    Within 0x2000000000000000 [] s (State.setRingMode s n v) := by
  unfold State.setRingMode
  exact (Within.kind (State.wrf_within ..) rfl .sns rfl rfl)

theorem State.verdictEvent_within (s : State) (n : Fin 16) (p : Nat) (v : Nat) :
    Within 0x28000200 [] s (State.verdictEvent s n p v) := by
  unfold State.verdictEvent
  extract_lets +onlyGivenNames -merge -underBinder x1
  refine Within.ite ?_ ?_
  · exact Within.refl _
  · refine Within.ite ?_ ?_
    · exact (Within.mono (State.acceptEvent_within ..) rfl)
    · exact (Within.mono (State.acceptLocal_within ..) rfl)

theorem State.verdictOf_within (s : State) (n : Fin 16) (p : Nat) (passed : Bool) :
    Within 0x13008000128008280 [] s (State.verdictOf s n p passed) := by
  unfold State.verdictOf
  extract_lets +onlyGivenNames -merge -underBinder x1
  extract_lets +onlyGivenNames -merge -underBinder x2
  extract_lets +onlyGivenNames -merge -underBinder x3
  extract_lets +onlyGivenNames -merge -underBinder x4
  extract_lets +onlyGivenNames -merge -underBinder x5
  extract_lets +onlyGivenNames -merge -underBinder x6
  extract_lets +onlyGivenNames -merge -underBinder x7
  extract_lets +onlyGivenNames -merge -underBinder x8
  refine Within.ite ?_ ?_
  · extract_lets +onlyGivenNames -merge -underBinder x9
    have hx9 : Within 0x13008000128008280 [] s x9 := by
      unfold x9
      exact (Within.mono (State.setFeState_within ..) rfl)
    refine Within.ite ?_ ?_
    · unfold x7
      refine Within.trans ?_ (Within.mono (State.verdictEvent_within ..) rfl)
      unfold x8
      refine Within.trans ?_ (Within.mono (State.jrnPut_within ..) rfl)
      refine Within.trans ?_ (Within.mono (State.jrnPut_within ..) rfl)
      exact hx9
    · unfold x7
      refine Within.trans ?_ (Within.mono (State.verdictEvent_within ..) rfl)
      unfold x6
      refine Within.trans ?_ (Within.mono (State.record_within ..) rfl)
      unfold x8
      refine Within.trans ?_ (Within.mono (State.jrnPut_within ..) rfl)
      refine Within.trans ?_ (Within.mono (State.jrnPut_within ..) rfl)
      refine Within.trans ?_ (Within.mono (State.jrnPut_within ..) rfl)
      exact hx9
  · extract_lets +onlyGivenNames -merge -underBinder x10
    have hx10 : Within 0x13008000128008280 [] s x10 := by
      unfold x10
      exact (Within.kind (State.flag_within ..) rfl .sns rfl rfl)
    refine Within.ite ?_ ?_
    · unfold x7
      refine Within.trans ?_ (Within.mono (State.verdictEvent_within ..) rfl)
      unfold x6
      refine Within.trans ?_ (Within.mono (State.record_within ..) rfl)
      refine Within.trans ?_ (Within.mono (State.jrnPut_within ..) rfl)
      refine Within.trans ?_ (Within.kind (State.flag_within ..) rfl .sns rfl rfl)
      refine Within.trans ?_ (Within.mono (State.setFeState_within ..) rfl)
      exact hx10
    · unfold x7
      refine Within.trans ?_ (Within.mono (State.verdictEvent_within ..) rfl)
      unfold x6
      refine Within.trans ?_ (Within.mono (State.record_within ..) rfl)
      refine Within.trans ?_ (Within.mono (State.jrnPut_within ..) rfl)
      refine Within.trans ?_ (Within.mono (State.setFeState_within ..) rfl)
      exact hx10

theorem State.attemptEnds_within (s : State) (n : Fin 16) (p : Nat) (ok : Bool) :
    Within 0x13008000128009280 [] s (State.attemptEnds s n p ok) := by
  unfold State.attemptEnds
  extract_lets +onlyGivenNames -merge -underBinder x1
  refine Within.ite ?_ ?_
  · extract_lets +onlyGivenNames -merge -underBinder x2 x3
    have hx3 : Within 0x13008000128009280 [] s x3 := by
      unfold x3
      exact (Within.mono (State.setFe_within ..) rfl)
    extract_lets +onlyGivenNames -merge -underBinder x4
    have hx4 : Within 0x13008000128009280 [] s x4 := by
      unfold x4
      refine Within.trans ?_ (Within.kind (State.wrf_within ..) rfl .sns rfl rfl)
      refine Within.trans ?_ (Within.kind (State.wrf_within ..) rfl .sns rfl rfl)
      exact hx3
    refine Within.trans ?_ (Within.mono (State.verdictOf_within ..) rfl)
    exact hx4
  · extract_lets +onlyGivenNames -merge -underBinder x5
    extract_lets +onlyGivenNames -merge -underBinder x6 x7
    have hx7 : Within 0x13008000128009280 [] s x7 := by
      unfold x7
      exact (Within.mono (State.setFe_within ..) rfl)
    extract_lets +onlyGivenNames -merge -underBinder x8
    have hx8 : Within 0x13008000128009280 [] s x8 := by
      unfold x8
      refine Within.trans ?_ (Within.kind (State.wrf_within ..) rfl .sns rfl rfl)
      exact hx7
    refine Within.ite ?_ ?_
    · extract_lets +onlyGivenNames -merge -underBinder x9
      have hx9 : Within 0x13008000128009280 [] s x9 := by
        unfold x9
        refine Within.trans ?_ (Within.mono (State.verdictOf_within ..) rfl)
        exact hx8
      extract_lets +onlyGivenNames -merge -underBinder x10
      refine Within.trans ?_ (Within.mono (State.setFe_within ..) rfl)
      exact hx9
    · exact hx8

theorem State.sendVerdict_within (s : State) (n : Fin 16) (p : Nat) (result : Nat) (attempt : Nat) (tick : Nat)
    (nonce : Nat) :
    Within 0x20000200 [] s (State.sendVerdict s n p result attempt tick nonce) := by
  unfold State.sendVerdict
  exact (Within.mono (State.sendFrame_within ..) rfl)

theorem State.verifyResponse_within (s : State) (n : Fin 16) (p : Nat) (c : List Byte) :
    Within 0x13008000128009280 [] s (State.verifyResponse s n p c) := by
  unfold State.verifyResponse
  split
  · exact Within.refl _
  · refine Within.ite ?_ ?_
    · extract_lets +onlyGivenNames -merge -underBinder x1
      extract_lets +onlyGivenNames -merge -underBinder x2
      extract_lets +onlyGivenNames -merge -underBinder x3
      have hx3 : Within 0x13008000128009280 [] s x3 := by
        unfold x3
        exact (Within.mono (State.sendVerdict_within ..) rfl)
      refine Within.trans ?_ (Within.mono (State.attemptEnds_within ..) rfl)
      exact hx3
    · exact Within.refl _

theorem State.wantChallenge_within (s : State) (n : Fin 16) (p : Nat) :
    Within 0x1000 [] s (State.wantChallenge s n p) := by
  unfold State.wantChallenge
  extract_lets +onlyGivenNames -merge -underBinder x1
  refine Within.ite ?_ ?_
  · exact Within.refl _
  · exact (Within.mono (State.setFe_within ..) rfl)

theorem State.wantAll_within (s : State) (n : Fin 16) :
    Within 0x1000 [] s (State.wantAll s n) := by
  unfold State.wantAll
  refine Within.foldl ?_ (fun t1 a2 h3 => ?_)
  · exact Within.refl _
  · refine Within.ite ?_ ?_
    · refine Within.trans ?_ (Within.mono (State.wantChallenge_within ..) rfl)
      exact h3
    · exact h3

theorem execChallengeDue_within (dt : Nat) (ring : Fin 16) (pos : Fin 4) (s : State) :
    Ends (Within 0x100e []) s (execChallengeDue dt ring pos s) := by
  unfold execChallengeDue
  extract_lets +onlyGivenNames -merge -underBinder x1
  have hx1 : Within 0x100e [] s x1 := by
    unfold x1
    exact (Within.mono (State.elapse_within ..) rfl)
  extract_lets +onlyGivenNames -merge -underBinder x2
  extract_lets +onlyGivenNames -merge -underBinder x3
  extract_lets +onlyGivenNames -merge -underBinder x4
  extract_lets +onlyGivenNames -merge -underBinder x5
  refine Ends.ite ?_ ?_
  · refine Ends.next ?_
    refine Within.trans ?_ (Within.mono (State.wantChallenge_within ..) rfl)
    exact hx1
  · refine Ends.next ?_
    exact hx1

theorem execChallengeRetry_within (dt : Nat) (ring : Fin 16) (pos : Fin 4) (s : State) :
    Ends (Within 0x100e []) s (execChallengeRetry dt ring pos s) := by
  unfold execChallengeRetry
  extract_lets +onlyGivenNames -merge -underBinder x1
  have hx1 : Within 0x100e [] s x1 := by
    unfold x1
    exact (Within.mono (State.elapse_within ..) rfl)
  extract_lets +onlyGivenNames -merge -underBinder x2
  refine Ends.ite ?_ ?_
  · refine Ends.next ?_
    refine Within.trans ?_ (Within.mono (State.setFe_within ..) rfl)
    exact hx1
  · refine Ends.next ?_
    exact hx1

theorem execChallengeAll_within (dt : Nat) (ring : Fin 16) (s : State) :
    Ends (Within 0x100e []) s (execChallengeAll dt ring s) := by
  unfold execChallengeAll
  refine Ends.next ?_
  refine Within.hostDo ?_ (fun t1 h2 => ?_)
  · exact (Within.mono (State.elapse_within ..) rfl)
  · refine Within.trans ?_ (Within.mono (State.wantAll_within ..) rfl)
    exact h2

theorem State.reenum_within (s : State) (ring : Fin 16) :
    Within 0x1000 [] s (State.reenum s ring) := by
  unfold State.reenum
  refine Within.ite ?_ ?_
  · extract_lets +onlyGivenNames -merge -underBinder x1
    exact (Within.mono (State.setSring_within ..) rfl)
  · exact Within.refl _

theorem execReenum_within (dt : Nat) (ring : Fin 16) (s : State) :
    Ends (Within 0x100e []) s (execReenum dt ring s) := by
  unfold execReenum
  refine Ends.next ?_
  refine Within.hostDo ?_ (fun t1 h2 => ?_)
  · exact (Within.mono (State.elapse_within ..) rfl)
  · refine Within.trans ?_ (Within.mono (State.reenum_within ..) rfl)
    exact h2

theorem execVerdict_within (dt : Nat) (f : TandemHead) (bytes : List Byte) (s : State) :
    Ends (Within 0x1320800012800928e []) s (execVerdict dt f bytes s) := by
  unfold execVerdict
  split
  rename_i y1 y2 e3
  have hy2 : Within 0x1320800012800928e [] s y2 := by
    refine Within.snd e3 ?_
    refine Within.trans ?_ (Within.mono (State.takeFrame_within ..) rfl)
    exact (Within.mono (State.elapse_within ..) rfl)
  extract_lets +onlyGivenNames -merge -underBinder x4
  extract_lets +onlyGivenNames -merge -underBinder x5
  extract_lets +onlyGivenNames -merge -underBinder x6
  refine Ends.ite ?_ ?_
  · extract_lets +onlyGivenNames -merge -underBinder x7
    extract_lets +onlyGivenNames -merge -underBinder x8 x9
    have hx9 : Within 0x1320800012800928e [] s x9 := by
      unfold x9
      refine Within.trans ?_ (Within.mono (State.setFe_within ..) rfl)
      exact hy2
    refine Ends.next ?_
    refine Within.trans ?_ (Within.mono (State.attemptEnds_within ..) rfl)
    exact hx9
  · refine Ends.next ?_
    exact hy2

theorem State.ringRecord_within (s : State) (n : Fin 16) (event : Nat) (cause : Nat) (pos : Nat) :
    Within 0x1008000100000080 [] s (State.ringRecord s n event cause pos) := by
  unfold State.ringRecord
  extract_lets +onlyGivenNames -merge -underBinder x1
  exact (Within.mono (State.record_within ..) rfl)

theorem State.breakRing_within (s : State) (n : Fin 16) (cause : Nat) (pos : Nat) :
    Within 0x3008000100001080 [] s (State.breakRing s n cause pos) := by
  unfold State.breakRing
  extract_lets +onlyGivenNames -merge -underBinder x1
  refine Within.ite ?_ ?_
  · exact Within.refl _
  · extract_lets +onlyGivenNames -merge -underBinder x2
    have hx2 : Within 0x3008000100001080 [] s x2 := by
      unfold x2
      exact (Within.mono (State.setSring_within ..) rfl)
    extract_lets +onlyGivenNames -merge -underBinder x3
    have hx3 : Within 0x3008000100001080 [] s x3 := by
      unfold x3
      refine Within.trans ?_ (Within.kind (State.flag_within ..) rfl .sns rfl rfl)
      refine Within.trans ?_ (Within.kind (State.inc_within ..) rfl .sns rfl rfl)
      exact hx2
    refine Within.trans ?_ (Within.mono (State.wantAll_within ..) rfl)
    refine Within.trans ?_ (Within.mono (State.ringRecord_within ..) rfl)
    exact hx3

theorem State.healRing_within (s : State) (n : Fin 16) :
    Within 0x3008000100001080 [] s (State.healRing s n) := by
  unfold State.healRing
  refine Within.ite ?_ ?_
  · extract_lets +onlyGivenNames -merge -underBinder x1
    extract_lets +onlyGivenNames -merge -underBinder x2
    have hx2 : Within 0x3008000100001080 [] s x2 := by
      unfold x2
      exact (Within.mono (State.setSring_within ..) rfl)
    refine Within.trans ?_ (Within.mono (State.wantAll_within ..) rfl)
    refine Within.trans ?_ (Within.mono (State.ringRecord_within ..) rfl)
    refine Within.trans ?_ (Within.kind (State.flag_within ..) rfl .sns rfl rfl)
    refine Within.trans ?_ (Within.mono (State.setRingMode_within ..) rfl)
    exact hx2
  · exact Within.refl _

theorem execSymbolLockLoss_within (dt : Nat) (ring : Fin 16) (s : State) :
    Ends (Within 0x300800010000108e []) s (execSymbolLockLoss dt ring s) := by
  unfold execSymbolLockLoss
  extract_lets +onlyGivenNames -merge -underBinder x1
  have hx1 : Within 0x300800010000108e [] s x1 := by
    unfold x1
    exact (Within.mono (State.elapse_within ..) rfl)
  refine Ends.ite ?_ ?_
  · refine Ends.next ?_
    refine Within.trans ?_ (Within.mono (State.breakRing_within ..) rfl)
    exact hx1
  · refine Ends.next ?_
    exact hx1

theorem execCommandCoachReceived_within (dt : Nat) (ring : Fin 16) (lineOk : Bool) (bytes : List Byte) (s : State) :
    Ends (Within 0x300800010000128e []) s (execCommandCoachReceived dt ring lineOk bytes s) := by
  unfold execCommandCoachReceived
  extract_lets +onlyGivenNames -merge -underBinder x1
  have hx1 : Within 0x300800010000128e [] s x1 := by
    unfold x1
    exact (Within.mono (State.elapse_within ..) rfl)
  extract_lets +onlyGivenNames -merge -underBinder x2
  refine Ends.ite ?_ ?_
  · refine Ends.next ?_
    exact hx1
  · refine Ends.ite ?_ ?_
    · refine Ends.next ?_
      refine Within.ite ?_ ?_
      · refine Within.trans ?_ (Within.kind (State.inc_within ..) rfl .sns rfl rfl)
        exact hx1
      · exact hx1
    · extract_lets +onlyGivenNames -merge -underBinder x3
      extract_lets +onlyGivenNames -merge -underBinder x4
      extract_lets +onlyGivenNames -merge -underBinder x5
      extract_lets +onlyGivenNames -merge -underBinder x6
      have hx6 : Within 0x300800010000128e [] s x6 := by
        unfold x6
        refine Within.trans ?_ (Within.mono (State.setSring_within ..) rfl)
        exact hx1
      refine Ends.ite ?_ ?_
      · refine Ends.next ?_
        exact hx6
      · extract_lets +onlyGivenNames -merge -underBinder x7 x8 x9 x10 x11
        have hx11 : Within 0x300800010000128e [] s x11 := by
          unfold x11
          refine Within.ite ?_ ?_
          · refine Within.trans ?_ (Within.mono (State.setFe_within ..) rfl)
            exact hx6
          · exact hx6
        extract_lets +onlyGivenNames -merge -underBinder x12
        have hx12 : Within 0x300800010000128e [] s x12 := by
          unfold x12
          refine Within.ite ?_ ?_
          · refine Within.trans ?_ (Within.mono (State.send_within ..) rfl)
            exact hx11
          · exact hx11
        refine Ends.ite ?_ ?_
        · extract_lets +onlyGivenNames -merge -underBinder x13
          refine Ends.next ?_
          refine Within.trans ?_ (Within.mono (State.healRing_within ..) rfl)
          refine Within.trans ?_ (Within.mono (State.setSring_within ..) rfl)
          exact hx12
        · refine Ends.next ?_
          exact hx12

theorem execFarWaitExpiry_within (dt : Nat) (ring : Fin 16) (s : State) :
    Ends (Within 0x300800010000108e []) s (execFarWaitExpiry dt ring s) := by
  unfold execFarWaitExpiry
  extract_lets +onlyGivenNames -merge -underBinder x1
  have hx1 : Within 0x300800010000108e [] s x1 := by
    unfold x1
    exact (Within.mono (State.elapse_within ..) rfl)
  extract_lets +onlyGivenNames -merge -underBinder x2
  refine Ends.ite ?_ ?_
  · refine Ends.next ?_
    exact hx1
  · extract_lets +onlyGivenNames -merge -underBinder x3
    refine Ends.ite ?_ ?_
    · refine Ends.ite ?_ ?_
      · refine Ends.next ?_
        exact hx1
      · refine Ends.next ?_
        refine Within.trans ?_ (Within.mono (State.setSring_within ..) rfl)
        exact hx1
    · refine Ends.ite ?_ ?_
      · refine Ends.next ?_
        refine Within.trans ?_ (Within.mono (State.healRing_within ..) rfl)
        exact hx1
      · refine Ends.next ?_
        exact hx1

theorem State.alertSource_within (s : State) (n : Fin 16) :
    Within 0x6321808000181e00280 [] s (State.alertSource s n) := by
  unfold State.alertSource
  exact (Within.mono (State.setSource_within ..) rfl)

theorem State.balAlert_within (s : State) (f : Nat) (on : Bool) :
    Within 0x40008000000080080 [] s (State.balAlert s f on) := by
  unfold State.balAlert
  refine Within.ite ?_ ?_
  · exact Within.refl _
  · extract_lets +onlyGivenNames -merge -underBinder x1 x2
    have hx2 : Within 0x40008000000080080 [] s x2 := by
      unfold x2
      refine Within.upd ?_ rfl rfl (.inr rfl) (.inr rfl) (.inr rfl) (.inr rfl) (.inr rfl) (.inr rfl) (.inr rfl) (.inr
          rfl) (.inr rfl) (.inr rfl) (.inr rfl) (.inr rfl) (.inr rfl) (.inr rfl) (.inr rfl) (.inr rfl) (.inr rfl)
              (.inr rfl) (.inr rfl) (.inl rfl) (.inr rfl) (.inr rfl) (.inr rfl) (.inr rfl) (.inr rfl) (.inr rfl)
                  (.inr rfl) (.inr rfl) (.inr rfl) (.inr rfl) (.inr rfl) (.inr rfl) (.inr rfl) (.inr rfl) (.inr rfl)
                      (.inr rfl) (.inr rfl) (.inr rfl) (.inr rfl) (.inr rfl) (.inr rfl) (.inr rfl) (.inr rfl) (.inr
                          rfl) (.inr rfl) (.inr rfl) (.inr rfl)
      exact Within.refl _
    refine Within.ite ?_ ?_
    · refine Within.trans ?_ (Within.kind (State.flag_within ..) rfl .bal rfl rfl)
      refine Within.trans ?_ (Within.kind (State.inc_within ..) rfl .bal rfl rfl)
      exact hx2
    · exact hx2

theorem State.setAlert_within (s : State) (n : Fin 16) (p : Nat) (a : Nat) :
    Within 0x6363808000181e81280 [] s (State.setAlert s n p a) := by
  unfold State.setAlert
  extract_lets +onlyGivenNames -merge -underBinder x1
  have hx1 : Within 0x6363808000181e81280 [] s x1 := by
    unfold x1
    exact (Within.mono (State.balAlert_within ..) rfl)
  extract_lets +onlyGivenNames -merge -underBinder x2 x3
  have hx3 : Within 0x6363808000181e81280 [] s x3 := by
    unfold x3
    refine Within.trans ?_ (Within.mono (State.setFe_within ..) rfl)
    exact hx1
  refine Within.trans ?_ (Within.mono (State.alertSource_within ..) rfl)
  refine Within.trans ?_ (Within.kind (State.wrb_within ..) rfl .sns rfl rfl)
  exact hx3

theorem State.compActs_within (s : State) (n : Fin 16) (p : Nat) (tick : Nat) (c : List Byte) :
    Within 0x6363808000181e81280 [] s (State.compActs s n p tick c) := by
  unfold State.compActs
  extract_lets +onlyGivenNames -merge -underBinder x1
  have hx1 : Within 0x6363808000181e81280 [] s x1 := by
    unfold x1
    exact (Within.mono (State.setAlert_within ..) rfl)
  refine Within.foldl ?_ (fun t2 a3 h4 => ?_)
  · exact hx1
  · refine Within.trans ?_ (Within.mono (State.limitCompare_within ..) rfl)
    exact h4

theorem State.conflictAt_within (s : State) (n : Fin 16) (p : Nat) :
    Within 0x2000000000001000 [] s (State.conflictAt s n p) := by
  unfold State.conflictAt
  extract_lets +onlyGivenNames -merge -underBinder x1
  extract_lets +onlyGivenNames -merge -underBinder x2
  have hx2 : Within 0x2000000000001000 [] s x2 := by
    unfold x2
    exact (Within.mono (State.setSring_within ..) rfl)
  refine Within.trans ?_ (Within.kind (State.inc_within ..) rfl .sns rfl rfl)
  refine Within.trans ?_ (Within.kind (State.wrb_within ..) rfl .sns rfl rfl)
  exact hx2

theorem State.noteIdentity_within (s : State) (n : Fin 16) (p : Nat) (id : Nat) :
    Within 0x2008000000001080 [] s (State.noteIdentity s n p id) := by
  unfold State.noteIdentity
  extract_lets +onlyGivenNames -merge -underBinder x1
  extract_lets +onlyGivenNames -merge -underBinder x2
  have hx2 : Within 0x2008000000001080 [] s x2 := by
    unfold x2
    exact (Within.kind (State.wr64_within ..) rfl .sns rfl rfl)
  extract_lets +onlyGivenNames -merge -underBinder x3
  extract_lets +onlyGivenNames -merge -underBinder x4
  extract_lets +onlyGivenNames -merge -underBinder x5
  refine Within.ite ?_ ?_
  · unfold x5
    refine Within.trans ?_ (Within.mono (State.setFe_within ..) rfl)
    refine Within.trans ?_ (Within.mono (State.wantChallenge_within ..) rfl)
    refine Within.trans ?_ (Within.mono (State.setFeState_within ..) rfl)
    exact hx2
  · refine Within.ite ?_ ?_
    · unfold x5
      refine Within.trans ?_ (Within.mono (State.setFe_within ..) rfl)
      refine Within.trans ?_ (Within.mono (State.wantChallenge_within ..) rfl)
      refine Within.trans ?_ (Within.kind (State.flag_within ..) rfl .sns rfl rfl)
      refine Within.ite ?_ ?_
      · exact hx2
      · refine Within.trans ?_ (Within.mono (State.setFeState_within ..) rfl)
        exact hx2
    · exact hx2

theorem State.holdComp_within (s : State) (n : Fin 16) (p : Nat) (c : List Byte) (amt : Nat) (direct : Bool) :
    Within 0x6363808000181e81280 [] s (State.holdComp s n p c amt direct) := by
  unfold State.holdComp
  extract_lets +onlyGivenNames -merge -underBinder x1
  split
  · refine Within.ite ?_ ?_
    · exact Within.refl _
    · exact (Within.mono (State.conflictAt_within ..) rfl)
  · extract_lets +onlyGivenNames -merge -underBinder x2
    extract_lets +onlyGivenNames -merge -underBinder x3
    have hx3 : Within 0x6363808000181e81280 [] s x3 := by
      unfold x3
      exact (Within.mono (State.setSring_within ..) rfl)
    extract_lets +onlyGivenNames -merge -underBinder x4
    have hx4 : Within 0x6363808000181e81280 [] s x4 := by
      unfold x4
      refine Within.trans ?_ (Within.mono (State.noteIdentity_within ..) rfl)
      exact hx3
    refine Within.trans ?_ (Within.mono (State.compActs_within ..) rfl)
    exact hx4

theorem State.reached_within (s : State) (n : Fin 16) (endB : Bool) (p : Nat) :
    Within 0x2000000000000000 [] s (State.reached s n endB p) := by
  unfold State.reached
  exact (Within.kind (State.wrb_within ..) rfl .sns rfl rfl)

theorem State.takeSlot_within (s : State) (n : Fin 16) (p : Nat) (c : List Byte) :
    Within 0x63738080001a9e89280 [] s (State.takeSlot s n p c) := by
  unfold State.takeSlot
  refine Within.ite ?_ ?_
  · exact Within.refl _
  · refine Within.ite ?_ ?_
    · extract_lets +onlyGivenNames -merge -underBinder x1
      refine Within.ite ?_ ?_
      · exact (Within.mono (State.setSring_within ..) rfl)
      · exact Within.refl _
    · refine Within.ite ?_ ?_
      · exact Within.refl _
      · extract_lets +onlyGivenNames -merge -underBinder x2
        extract_lets +onlyGivenNames -merge -underBinder x3 x4
        have hx4 : Within 0x63738080001a9e89280 [] s x4 := by
          unfold x4
          exact (Within.mono (State.setSring_within ..) rfl)
        extract_lets +onlyGivenNames -merge -underBinder x5
        have hx5 : Within 0x63738080001a9e89280 [] s x5 := by
          unfold x5
          refine Within.trans ?_ (Within.mono (State.holdComp_within ..) rfl)
          exact hx4
        extract_lets +onlyGivenNames -merge -underBinder x6
        have hx6 : Within 0x63738080001a9e89280 [] s x6 := by
          unfold x6
          refine Within.ite ?_ ?_
          · exact hx5
          · refine Within.trans ?_ (Within.mono (State.sendFrame_within ..) rfl)
            exact hx5
        extract_lets +onlyGivenNames -merge -underBinder x7
        have hx7 : Within 0x63738080001a9e89280 [] s x7 := by
          unfold x7
          refine Within.trans ?_ (Within.mono (State.reached_within ..) rfl)
          exact hx6
        extract_lets +onlyGivenNames -merge -underBinder x8
        have hx8 : Within 0x63738080001a9e89280 [] s x8 := by
          unfold x8
          refine Within.trans ?_ (Within.mono (State.verifyResponse_within ..) rfl)
          exact hx7
        refine Within.ite ?_ ?_
        · refine Within.trans ?_ (Within.mono (State.breakRing_within ..) rfl)
          exact hx8
        · exact hx8

theorem State.readHops_within (s : State) (n : Fin 16) (hops : Nat) (counts : Bool) :
    Within 0x3008000100001080 [] s (State.readHops s n hops counts) := by
  unfold State.readHops
  extract_lets +onlyGivenNames -merge -underBinder x1
  refine Within.ite ?_ ?_
  · exact Within.refl _
  · refine Within.ite ?_ ?_
    · refine Within.ite ?_ ?_
      · exact Within.refl _
      · exact (Within.mono (State.setSring_within ..) rfl)
    · refine Within.ite ?_ ?_
      · extract_lets +onlyGivenNames -merge -underBinder x2
        extract_lets +onlyGivenNames -merge -underBinder x3
        extract_lets +onlyGivenNames -merge -underBinder x4
        extract_lets +onlyGivenNames -merge -underBinder x5
        have hx5 : Within 0x3008000100001080 [] s x5 := by
          unfold x5
          exact (Within.mono (State.setSring_within ..) rfl)
        refine Within.ite ?_ ?_
        · refine Within.trans ?_ (Within.mono (State.breakRing_within ..) rfl)
          exact hx5
        · exact hx5
      · exact Within.refl _

theorem execDataCoachReceived_within (dt : Nat) (ring : Fin 16) (lineOk : Bool) (bytes : List Byte) (s : State) :
    Ends (Within 0x63738080001a9e8928e []) s (execDataCoachReceived dt ring lineOk bytes s) := by
  unfold execDataCoachReceived
  extract_lets +onlyGivenNames -merge -underBinder x1
  have hx1 : Within 0x63738080001a9e8928e [] s x1 := by
    unfold x1
    exact (Within.mono (State.elapse_within ..) rfl)
  refine Ends.ite ?_ ?_
  · refine Ends.next ?_
    exact hx1
  · extract_lets +onlyGivenNames -merge -underBinder x2
    extract_lets +onlyGivenNames -merge -underBinder x3
    refine Ends.ite ?_ ?_
    · refine Ends.next ?_
      refine Within.trans ?_ (Within.kind (State.inc_within ..) rfl .sns rfl rfl)
      exact hx1
    · extract_lets +onlyGivenNames -merge -underBinder x4
      have hx4 : Within 0x63738080001a9e8928e [] s x4 := by
        unfold x4
        refine Within.ite ?_ ?_
        · refine Within.foldl ?_ (fun t5 a6 h7 => ?_)
          · exact hx1
          · refine Within.trans ?_ (Within.mono (State.takeSlot_within ..) rfl)
            exact h7
        · exact hx1
      refine Ends.next ?_
      refine Within.trans ?_ (Within.mono (State.readHops_within ..) rfl)
      exact hx4

theorem execRelayedCompartment_within (dt : Nat) (f : TandemHead) (bytes : List Byte) (s : State) :
    Ends (Within 0x6363a080001a1e8128e []) s (execRelayedCompartment dt f bytes s) := by
  unfold execRelayedCompartment
  split
  rename_i y1 y2 e3
  have hy2 : Within 0x6363a080001a1e8128e [] s y2 := by
    refine Within.snd e3 ?_
    refine Within.trans ?_ (Within.mono (State.takeFrame_within ..) rfl)
    exact (Within.mono (State.elapse_within ..) rfl)
  extract_lets +onlyGivenNames -merge -underBinder x4
  extract_lets +onlyGivenNames -merge -underBinder x5
  extract_lets +onlyGivenNames -merge -underBinder x6
  extract_lets +onlyGivenNames -merge -underBinder x7
  extract_lets +onlyGivenNames -merge -underBinder x8
  refine Ends.ite ?_ ?_
  · refine Ends.next ?_
    refine Within.trans ?_ (Within.mono (State.reached_within ..) rfl)
    refine Within.trans ?_ (Within.mono (State.holdComp_within ..) rfl)
    exact hy2
  · refine Ends.next ?_
    exact hy2

theorem execAlertCoachReceived_within (dt : Nat) (ring : Fin 16) (lineOk : Bool) (bytes : List Byte) (s : State) :
    Ends (Within 0x6363808000181e8128e []) s (execAlertCoachReceived dt ring lineOk bytes s) := by
  unfold execAlertCoachReceived
  extract_lets +onlyGivenNames -merge -underBinder x1
  have hx1 : Within 0x6363808000181e8128e [] s x1 := by
    unfold x1
    exact (Within.mono (State.elapse_within ..) rfl)
  refine Ends.ite ?_ ?_
  · refine Ends.next ?_
    exact hx1
  · refine Ends.ite ?_ ?_
    · refine Ends.next ?_
      refine Within.trans ?_ (Within.kind (State.inc_within ..) rfl .sns rfl rfl)
      exact hx1
    · refine Ends.ite ?_ ?_
      · extract_lets +onlyGivenNames -merge -underBinder x2
        extract_lets +onlyGivenNames -merge -underBinder x3
        have hx3 : Within 0x6363808000181e8128e [] s x3 := by
          unfold x3
          refine Within.trans ?_ (Within.mono (State.setAlert_within ..) rfl)
          exact hx1
        refine Ends.next ?_
        refine Within.trans ?_ (Within.mono (State.wayEntry_within ..) rfl)
        exact hx3
      · refine Ends.next ?_
        exact hx1

theorem execRepeatCoachSend_within (dt : Nat) (ring : Fin 16) (s : State) :
    Ends (Within 0x200000000000120e []) s (execRepeatCoachSend dt ring s) := by
  unfold execRepeatCoachSend
  extract_lets +onlyGivenNames -merge -underBinder x1
  have hx1 : Within 0x200000000000120e [] s x1 := by
    unfold x1
    exact (Within.mono (State.elapse_within ..) rfl)
  extract_lets +onlyGivenNames -merge -underBinder x2
  extract_lets +onlyGivenNames -merge -underBinder x3
  extract_lets +onlyGivenNames -merge -underBinder x4
  refine Ends.ite ?_ ?_
  · extract_lets +onlyGivenNames -merge -underBinder x5
    have hx5 : Within 0x200000000000120e [] s x5 := by
      unfold x5
      refine Within.trans ?_ (Within.mono (State.setSring_within ..) rfl)
      exact hx1
    extract_lets +onlyGivenNames -merge -underBinder x6
    have hx6 : Within 0x200000000000120e [] s x6 := by
      unfold x6
      refine Within.trans ?_ (Within.kind (State.inc_within ..) rfl .sns rfl rfl)
      exact hx5
    refine Ends.next ?_
    refine Within.trans ?_ (Within.mono (State.send_within ..) rfl)
    exact hx6
  · refine Ends.next ?_
    exact hx1

theorem execEnumerationWaitExpiry_within (dt : Nat) (ring : Fin 16) (s : State) :
    Ends (Within 0x200000000000100e []) s (execEnumerationWaitExpiry dt ring s) := by
  unfold execEnumerationWaitExpiry
  extract_lets +onlyGivenNames -merge -underBinder x1
  have hx1 : Within 0x200000000000100e [] s x1 := by
    unfold x1
    exact (Within.mono (State.elapse_within ..) rfl)
  extract_lets +onlyGivenNames -merge -underBinder x2
  refine Ends.ite ?_ ?_
  · refine Ends.next ?_
    refine Within.trans ?_ (Within.kind (State.wrf_within ..) rfl .sns rfl rfl)
    refine Within.trans ?_ (Within.mono (State.setSring_within ..) rfl)
    exact hx1
  · refine Ends.next ?_
    exact hx1

theorem execFrontEndLost_within (dt : Nat) (ring : Fin 16) (pos : Fin 4) (s : State) :
    Ends (Within 0x6323808000181e0128e []) s (execFrontEndLost dt ring pos s) := by
  unfold execFrontEndLost
  extract_lets +onlyGivenNames -merge -underBinder x1
  have hx1 : Within 0x6323808000181e0128e [] s x1 := by
    unfold x1
    exact (Within.mono (State.elapse_within ..) rfl)
  refine Ends.ite ?_ ?_
  · extract_lets +onlyGivenNames -merge -underBinder x2
    extract_lets +onlyGivenNames -merge -underBinder x3 x4
    have hx4 : Within 0x6323808000181e0128e [] s x4 := by
      unfold x4
      refine Within.trans ?_ (Within.mono (State.setFe_within ..) rfl)
      exact hx1
    refine Ends.next ?_
    refine Within.trans ?_ (Within.mono (State.setSource_within ..) rfl)
    refine Within.trans ?_ (Within.kind (State.flag_within ..) rfl .sns rfl rfl)
    refine Within.trans ?_ (Within.mono (State.setFeState_within ..) rfl)
    exact hx4
  · refine Ends.next ?_
    exact hx1

theorem State.launchCoach_within (s : State) (n : Fin 16) (exc : Bool) (bal : Nat → Int) :
    Within 0x2000000000001300 [] s (State.launchCoach s n exc bal) := by
  unfold State.launchCoach
  extract_lets +onlyGivenNames -merge -underBinder x1
  have hx1 : Within 0x2000000000001300 [] s x1 := by
    unfold x1
    exact (Within.kind (State.wrb_within ..) rfl .sns rfl rfl)
  refine Within.ite ?_ ?_
  · exact hx1
  · extract_lets +onlyGivenNames -merge -underBinder x2
    extract_lets +onlyGivenNames -merge -underBinder x3
    split
    · extract_lets +onlyGivenNames -merge -underBinder x4
      have hx4 : Within 0x2000000000001300 [] s x4 := by
        unfold x4
        refine Within.trans ?_ (Within.mono (State.setSring_within ..) rfl)
        exact hx1
      split
      rename_i y5 y6 e7
      have hy6 : Within 0x2000000000001300 [] s y6 := by
        refine Within.snd e7 ?_
        split
        · split
          rename_i y8 y9 e10
          have hy9 : Within 0x2000000000001300 [] s y9 := by
            refine Within.snd e10 ?_
            refine Within.trans ?_ (Within.mono (State.draw_within ..) rfl)
            exact hx4
          extract_lets +onlyGivenNames -merge -underBinder x11
          extract_lets +onlyGivenNames -merge -underBinder x12
          refine Within.pair ?_
          refine Within.trans ?_ (Within.mono (State.setFe_within ..) rfl)
          exact hy9
        · refine Within.pair ?_
          exact hx4
      extract_lets +onlyGivenNames -merge -underBinder x13
      have hx13 : Within 0x2000000000001300 [] s x13 := by
        unfold x13
        refine Within.trans ?_ (Within.mono (State.send_within ..) rfl)
        exact hy6
      refine Within.trans ?_ (Within.mono (State.send_within ..) rfl)
      exact hx13

theorem State.chalTimeout_within (s : State) (n : Fin 16) (p : Nat) :
    Within 0x13008000128009280 [] s (State.chalTimeout s n p) := by
  unfold State.chalTimeout
  split
  · refine Within.ite ?_ ?_
    · extract_lets +onlyGivenNames -merge -underBinder x1
      refine Within.trans ?_ (Within.mono (State.attemptEnds_within ..) rfl)
      exact (Within.mono (State.sendVerdict_within ..) rfl)
    · exact Within.refl _
  · exact Within.refl _

theorem State.deadlineRing_within (s : State) (n : Fin 16) :
    Within 0x6323808000181e01a80 [] s (State.deadlineRing s n) := by
  unfold State.deadlineRing
  refine Within.ite ?_ ?_
  · exact Within.refl _
  · extract_lets +onlyGivenNames -merge -underBinder x1
    refine Within.foldl ?_ (fun t2 a3 h4 => ?_)
    · exact Within.refl _
    · refine Within.ite ?_ ?_
      · exact h4
      · extract_lets +onlyGivenNames -merge -underBinder x5
        split
        · extract_lets +onlyGivenNames -merge -underBinder x6
          extract_lets +onlyGivenNames -merge -underBinder x7
          have hx7 : Within 0x6323808000181e01a80 [] s x7 := by
            unfold x7
            refine Within.trans ?_ (Within.mono (State.setFe_within ..) rfl)
            exact h4
          extract_lets +onlyGivenNames -merge -underBinder x8
          have hx8 : Within 0x6323808000181e01a80 [] s x8 := by
            unfold x8
            refine Within.ite ?_ ?_
            · exact hx7
            · refine Within.trans ?_ (Within.kind (State.wrb_within ..) rfl .sns rfl rfl)
              exact hx7
          refine Within.ite ?_ ?_
          · extract_lets +onlyGivenNames -merge -underBinder x9
            have hx9 : Within 0x6323808000181e01a80 [] s x9 := by
              unfold x9
              refine Within.trans ?_ (Within.mono (State.wantChallenge_within ..) rfl)
              refine Within.trans ?_ (Within.mono (State.setFeState_within ..) rfl)
              exact hx8
            refine Within.trans ?_ (Within.mono (State.setSource_within ..) rfl)
            exact hx9
          · exact hx8
        · extract_lets +onlyGivenNames -merge -underBinder x10
          have hx10 : Within 0x6323808000181e01a80 [] s x10 := by
            unfold x10
            refine Within.trans ?_ (Within.mono (State.setFe_within ..) rfl)
            exact h4
          extract_lets +onlyGivenNames -merge -underBinder x11
          have hx11 : Within 0x6323808000181e01a80 [] s x11 := by
            unfold x11
            refine Within.trans ?_ (Within.kind (State.flag_within ..) rfl .sns rfl rfl)
            refine Within.trans ?_ (Within.kind (State.inc_within ..) rfl .sns rfl rfl)
            exact hx10
          refine Within.upd ?_ rfl rfl (.inr rfl) (.inr rfl) (.inr rfl) (.inr rfl) (.inr rfl) (.inr rfl) (.inr rfl)
              (.inr rfl) (.inr rfl) (.inr rfl) (.inr rfl) (.inl rfl) (.inr rfl) (.inr rfl) (.inr rfl) (.inr rfl)
                  (.inr rfl) (.inr rfl) (.inr rfl) (.inr rfl) (.inr rfl) (.inr rfl) (.inr rfl) (.inr rfl) (.inr rfl)
                      (.inr rfl) (.inr rfl) (.inr rfl) (.inr rfl) (.inr rfl) (.inr rfl) (.inr rfl) (.inr rfl) (.inr
                          rfl) (.inr rfl) (.inr rfl) (.inr rfl) (.inr rfl) (.inr rfl) (.inr rfl) (.inr rfl) (.inr
                              rfl) (.inr rfl) (.inr rfl) (.inr rfl) (.inr rfl) (.inr rfl)
          exact hx11

theorem State.accumulate_within (s : State) (n : Fin 16) (x : CompIn) :
    Within 0x1400 [] s (State.accumulate s n x) := by
  unfold State.accumulate
  extract_lets +onlyGivenNames -merge -underBinder x1
  extract_lets +onlyGivenNames -merge -underBinder x2
  have hx2 : Within 0x1400 [] s x2 := by
    unfold x2
    exact (Within.mono (State.setFe_within ..) rfl)
  extract_lets +onlyGivenNames -merge -underBinder x3
  extract_lets +onlyGivenNames -merge -underBinder x4
  refine Within.foldl ?_ (fun t5 a6 h7 => ?_)
  · exact hx2
  · extract_lets +onlyGivenNames -merge -underBinder x8
    extract_lets +onlyGivenNames -merge -underBinder x9
    extract_lets +onlyGivenNames -merge -underBinder x10
    extract_lets +onlyGivenNames -merge -underBinder x11
    extract_lets +onlyGivenNames -merge -underBinder x12
    extract_lets +onlyGivenNames -merge -underBinder x13
    extract_lets +onlyGivenNames -merge -underBinder x14
    extract_lets +onlyGivenNames -merge -underBinder x15
    extract_lets +onlyGivenNames -merge -underBinder x16
    refine Within.upd ?_ rfl rfl (.inr rfl) (.inr rfl) (.inr rfl) (.inr rfl) (.inr rfl) (.inr rfl) (.inr rfl) (.inr
        rfl) (.inr rfl) (.inr rfl) (.inl rfl) (.inr rfl) (.inr rfl) (.inr rfl) (.inr rfl) (.inr rfl) (.inr rfl) (.inr
            rfl) (.inr rfl) (.inr rfl) (.inr rfl) (.inr rfl) (.inr rfl) (.inr rfl) (.inr rfl) (.inr rfl) (.inr rfl)
                (.inr rfl) (.inr rfl) (.inr rfl) (.inr rfl) (.inr rfl) (.inr rfl) (.inr rfl) (.inr rfl) (.inr rfl)
                    (.inr rfl) (.inr rfl) (.inr rfl) (.inr rfl) (.inr rfl) (.inr rfl) (.inr rfl) (.inr rfl) (.inr
                        rfl) (.inr rfl) (.inr rfl)
    exact h7

theorem State.accumulateBal_within (s : State) (n : Fin 16) :
    Within 0x90400 [] s (State.accumulateBal s n) := by
  unfold State.accumulateBal
  extract_lets +onlyGivenNames -merge -underBinder x1
  refine Within.foldl ?_ (fun t2 a3 h4 => ?_)
  · exact Within.refl _
  · refine Within.ite ?_ ?_
    · exact h4
    · extract_lets +onlyGivenNames -merge -underBinder x5
      extract_lets +onlyGivenNames -merge -underBinder x6
      refine Within.foldl ?_ (fun t7 a8 h9 => ?_)
      · exact h4
      · extract_lets +onlyGivenNames -merge -underBinder x10
        extract_lets +onlyGivenNames -merge -underBinder x11
        extract_lets +onlyGivenNames -merge -underBinder x12
        extract_lets +onlyGivenNames -merge -underBinder x13
        extract_lets +onlyGivenNames -merge -underBinder x14
        extract_lets +onlyGivenNames -merge -underBinder x15
        extract_lets +onlyGivenNames -merge -underBinder x16
        have hx16 : Within 0x90400 [] s x16 := by
          unfold x16
          refine Within.upd ?_ rfl rfl (.inr rfl) (.inr rfl) (.inr rfl) (.inr rfl) (.inr rfl) (.inr rfl) (.inr rfl)
              (.inr rfl) (.inr rfl) (.inr rfl) (.inl rfl) (.inr rfl) (.inr rfl) (.inr rfl) (.inr rfl) (.inr rfl)
                  (.inr rfl) (.inr rfl) (.inr rfl) (.inr rfl) (.inr rfl) (.inr rfl) (.inr rfl) (.inr rfl) (.inr rfl)
                      (.inr rfl) (.inr rfl) (.inr rfl) (.inr rfl) (.inr rfl) (.inr rfl) (.inr rfl) (.inr rfl) (.inr
                          rfl) (.inr rfl) (.inr rfl) (.inr rfl) (.inr rfl) (.inr rfl) (.inr rfl) (.inr rfl) (.inr
                              rfl) (.inr rfl) (.inr rfl) (.inr rfl) (.inr rfl) (.inr rfl)
          exact h9
        extract_lets +onlyGivenNames -merge -underBinder x17 x18
        have hx18 : Within 0x90400 [] s x18 := by
          unfold x18
          refine Within.ite ?_ ?_
          · refine Within.upd ?_ rfl rfl (.inr rfl) (.inr rfl) (.inr rfl) (.inr rfl) (.inr rfl) (.inr rfl) (.inr rfl)
              (.inr rfl) (.inr rfl) (.inr rfl) (.inr rfl) (.inr rfl) (.inr rfl) (.inr rfl) (.inr rfl) (.inr rfl)
                  (.inr rfl) (.inr rfl) (.inr rfl) (.inl rfl) (.inr rfl) (.inr rfl) (.inr rfl) (.inr rfl) (.inr rfl)
                      (.inr rfl) (.inr rfl) (.inr rfl) (.inr rfl) (.inr rfl) (.inr rfl) (.inr rfl) (.inr rfl) (.inr
                          rfl) (.inr rfl) (.inr rfl) (.inr rfl) (.inr rfl) (.inr rfl) (.inr rfl) (.inr rfl) (.inr
                              rfl) (.inr rfl) (.inr rfl) (.inr rfl) (.inr rfl) (.inr rfl)
            exact hx16
          · exact hx16
        refine Within.ite ?_ ?_
        · try clear_value x18
          refine Within.upd ?_ rfl rfl (.inr rfl) (.inr rfl) (.inr rfl) (.inr rfl) (.inr rfl) (.inr rfl) (.inr rfl)
              (.inr rfl) (.inr rfl) (.inr rfl) (.inr rfl) (.inr rfl) (.inr rfl) (.inr rfl) (.inr rfl) (.inr rfl)
                  (.inl rfl) (.inr rfl) (.inr rfl) (.inr rfl) (.inr rfl) (.inr rfl) (.inr rfl) (.inr rfl) (.inr rfl)
                      (.inr rfl) (.inr rfl) (.inr rfl) (.inr rfl) (.inr rfl) (.inr rfl) (.inr rfl) (.inr rfl) (.inr
                          rfl) (.inr rfl) (.inr rfl) (.inr rfl) (.inr rfl) (.inr rfl) (.inr rfl) (.inr rfl) (.inr
                              rfl) (.inr rfl) (.inr rfl) (.inr rfl) (.inr rfl) (.inr rfl)
          exact hx18
        · exact hx18

theorem State.reachTick_within (s : State) (n : Fin 16) :
    Within 0x2000000000000000 [] s (State.reachTick s n) := by
  unfold State.reachTick
  extract_lets +onlyGivenNames -merge -underBinder x1
  extract_lets +onlyGivenNames -merge -underBinder x2
  extract_lets +onlyGivenNames -merge -underBinder x3
  extract_lets +onlyGivenNames -merge -underBinder x4
  have hx4 : Within 0x2000000000000000 [] s x4 := by
    unfold x4
    exact (Within.kind (State.wrf_within ..) rfl .sns rfl rfl)
  refine Within.trans ?_ (Within.kind (State.wrf_within ..) rfl .sns rfl rfl)
  exact hx4

theorem State.finishRing_within (s : State) (n : Fin 16) :
    Within 0x2000000000091c00 [] s (State.finishRing s n) := by
  unfold State.finishRing
  extract_lets +onlyGivenNames -merge -underBinder x1
  have hx1 : Within 0x2000000000091c00 [] s x1 := by
    unfold x1
    refine Within.ite ?_ ?_
    · exact (Within.mono (State.reachTick_within ..) rfl)
    · exact Within.refl _
  refine Within.ite ?_ ?_
  · extract_lets +onlyGivenNames -merge -underBinder x2
    have hx2 : Within 0x2000000000091c00 [] s x2 := by
      unfold x2
      refine Within.trans ?_ (Within.mono (State.accumulateBal_within ..) rfl)
      exact hx1
    refine Within.trans ?_ (Within.mono (State.setSring_within ..) rfl)
    exact hx2
  · extract_lets +onlyGivenNames -merge -underBinder x3
    extract_lets +onlyGivenNames -merge -underBinder x4
    extract_lets +onlyGivenNames -merge -underBinder x5
    extract_lets +onlyGivenNames -merge -underBinder x6 x7
    have hx7 : Within 0x2000000000091c00 [] s x7 := by
      unfold x7
      refine Within.upd ?_ rfl rfl (.inr rfl) (.inr rfl) (.inr rfl) (.inr rfl) (.inr rfl) (.inr rfl) (.inr rfl) (.inr
          rfl) (.inr rfl) (.inr rfl) (.inr rfl) (.inl rfl) (.inr rfl) (.inr rfl) (.inr rfl) (.inr rfl) (.inr rfl)
              (.inr rfl) (.inr rfl) (.inr rfl) (.inr rfl) (.inr rfl) (.inr rfl) (.inr rfl) (.inr rfl) (.inr rfl)
                  (.inr rfl) (.inr rfl) (.inr rfl) (.inr rfl) (.inr rfl) (.inr rfl) (.inr rfl) (.inr rfl) (.inr rfl)
                      (.inr rfl) (.inr rfl) (.inr rfl) (.inr rfl) (.inr rfl) (.inr rfl) (.inr rfl) (.inr rfl) (.inr
                          rfl) (.inr rfl) (.inr rfl) (.inr rfl)
      exact hx1
    extract_lets +onlyGivenNames -merge -underBinder x8
    have hx8 : Within 0x2000000000091c00 [] s x8 := by
      unfold x8
      refine Within.trans ?_ (Within.mono (State.accumulateBal_within ..) rfl)
      exact hx7
    extract_lets +onlyGivenNames -merge -underBinder x9
    have hx9 : Within 0x2000000000091c00 [] s x9 := by
      unfold x9
      refine Within.foldl ?_ (fun t10 a11 h12 => ?_)
      · exact hx8
      · refine Within.trans ?_ (Within.mono (State.accumulate_within ..) rfl)
        exact h12
    extract_lets +onlyGivenNames -merge -underBinder x13
    extract_lets +onlyGivenNames -merge -underBinder x14
    have hx14 : Within 0x2000000000091c00 [] s x14 := by
      unfold x14
      refine Within.trans ?_ (Within.mono (State.setSring_within ..) rfl)
      exact hx9
    refine Within.ite ?_ ?_
    · refine Within.trans ?_ (Within.mono (State.setRingMode_within ..) rfl)
      exact hx14
    · exact hx14

theorem State.passAge_within (s : State) (n : Fin 16) (p : Nat) :
    Within 0x2000000000000000 [] s (State.passAge s n p) := by
  unfold State.passAge
  split
  · exact (Within.kind (State.wrf_within ..) rfl .sns rfl rfl)
  · exact Within.refl _

end Sys2Proof.Machine
end

