-- ==== Sys2Proof/Laws/FrameEstimator.lean ====
section
/-! SUPPORT. What each operation of Machine/Estimator.lean may change (Laws/Within.lean). -/

namespace Sys2Proof.Machine

open Sys2Proof

theorem State.setChan_within (s : State) (c : Nat) (v : ChanEst) :
    Within 0x10000 [] s (State.setChan s c v) := by
  unfold State.setChan
  refine Within.upd ?_ rfl rfl (.inr rfl) (.inr rfl) (.inr rfl) (.inr rfl) (.inr rfl) (.inr rfl) (.inr rfl) (.inr
      rfl) (.inr rfl) (.inr rfl) (.inr rfl) (.inr rfl) (.inr rfl) (.inr rfl) (.inr rfl) (.inr rfl) (.inl rfl) (.inr
          rfl) (.inr rfl) (.inr rfl) (.inr rfl) (.inr rfl) (.inr rfl) (.inr rfl) (.inr rfl) (.inr rfl) (.inr rfl)
              (.inr rfl) (.inr rfl) (.inr rfl) (.inr rfl) (.inr rfl) (.inr rfl) (.inr rfl) (.inr rfl) (.inr rfl)
                  (.inr rfl) (.inr rfl) (.inr rfl) (.inr rfl) (.inr rfl) (.inr rfl) (.inr rfl) (.inr rfl) (.inr rfl)
                      (.inr rfl) (.inr rfl)
  exact Within.refl _

theorem State.modChan_within (s : State) (c : Nat) (f : ChanEst → ChanEst) :
    Within 0x10000 [] s (State.modChan s c f) := by
  unfold State.modChan
  exact (Within.mono (State.setChan_within ..) rfl)

theorem State.putHist_within (s : State) (c : Nat) (h : List Nat) (cap : Nat) (ref : Bool) :
    Within 0x8000 [] s (State.putHist s c h cap ref) := by
  unfold State.putHist
  extract_lets +onlyGivenNames -merge -underBinder x1
  exact (Within.mono (State.jrnEdit_within ..) rfl)

theorem State.learnEvent_within (s : State) (code : Nat) (c : Nat) (sample : Int) :
    Within 0x10000000000000000 [] s (State.learnEvent s code c sample) := by
  unfold State.learnEvent
  refine Within.trans ?_ (Within.kind (State.wrn_within ..) rfl .est rfl rfl)
  exact (Within.kind (State.wrn_within ..) rfl .est rfl rfl)

theorem State.gateSample_within (s : State) (c : Nat) (x : Nat) :
    Within 0x11008000100018080 [] s (State.gateSample s c x) := by
  unfold State.gateSample
  extract_lets +onlyGivenNames -merge -underBinder x1
  extract_lets +onlyGivenNames -merge -underBinder x2
  extract_lets +onlyGivenNames -merge -underBinder x3
  extract_lets +onlyGivenNames -merge -underBinder x4
  split
  · refine Within.ite ?_ ?_
    · extract_lets +onlyGivenNames -merge -underBinder x5
      extract_lets +onlyGivenNames -merge -underBinder x6
      extract_lets +onlyGivenNames -merge -underBinder x7
      have hx7 : Within 0x11008000100018080 [] s x7 := by
        unfold x7
        refine Within.trans ?_ (Within.mono (State.modChan_within ..) rfl)
        exact (Within.mono (State.putHist_within ..) rfl)
      refine Within.trans ?_ (Within.kind (State.wrb_within ..) rfl .est rfl rfl)
      refine Within.trans ?_ (Within.kind (State.inc_within ..) rfl .est rfl rfl)
      refine Within.trans ?_ (Within.mono (State.learnEvent_within ..) rfl)
      exact hx7
    · extract_lets +onlyGivenNames -merge -underBinder x8
      extract_lets +onlyGivenNames -merge -underBinder x9
      extract_lets +onlyGivenNames -merge -underBinder x10
      extract_lets +onlyGivenNames -merge -underBinder x11
      have hx11 : Within 0x11008000100018080 [] s x11 := by
        unfold x11
        refine Within.trans ?_ (Within.kind (State.wrb_within ..) rfl .est rfl rfl)
        refine Within.trans ?_ (Within.kind (State.inc_within ..) rfl .est rfl rfl)
        exact (Within.mono (State.learnEvent_within ..) rfl)
      refine Within.ite ?_ ?_
      · extract_lets +onlyGivenNames -merge -underBinder x12
        have hx12 : Within 0x11008000100018080 [] s x12 := by
          unfold x12
          refine Within.trans ?_ (Within.mono (State.modChan_within ..) rfl)
          refine Within.trans ?_ (Within.mono (State.putHist_within ..) rfl)
          exact hx11
        extract_lets +onlyGivenNames -merge -underBinder x13
        have hx13 : Within 0x11008000100018080 [] s x13 := by
          unfold x13
          refine Within.trans ?_ (Within.kind (State.wrb_within ..) rfl .est rfl rfl)
          refine Within.trans ?_ (Within.mono (State.learnEvent_within ..) rfl)
          exact hx12
        refine Within.trans ?_ (Within.mono (State.record_within ..) rfl)
        exact hx13
      · refine Within.trans ?_ (Within.mono (State.modChan_within ..) rfl)
        exact hx11

theorem State.calShow_within (s : State) :
    Within 0x10000000000000000 [] s (State.calShow s) := by
  unfold State.calShow
  refine Within.trans ?_ (Within.kind (State.wrf_within ..) rfl .est rfl rfl)
  exact (Within.kind (State.wrf_within ..) rfl .est rfl rfl)

theorem State.calFinish_within (s : State) (state : Nat) :
    Within 0x11008000100000080 [] s (State.calFinish s state) := by
  unfold State.calFinish
  extract_lets +onlyGivenNames -merge -underBinder x1
  have hx1 : Within 0x11008000100000080 [] s x1 := by
    unfold x1
    exact (Within.mono (State.calShow_within ..) rfl)
  refine Within.ite ?_ ?_
  · extract_lets +onlyGivenNames -merge -underBinder x2
    have hx2 : Within 0x11008000100000080 [] s x2 := by
      unfold x2
      refine Within.trans ?_ (Within.kind (State.wrb_within ..) rfl .est rfl rfl)
      refine Within.trans ?_ (Within.kind (State.wrf_within ..) rfl .est rfl rfl)
      exact hx1
    refine Within.trans ?_ (Within.mono (State.record_within ..) rfl)
    exact hx2
  · exact hx1

theorem State.calFail_within (s : State) (c : Nat) (sample : Int) :
    Within 0x10000000000010000 [] s (State.calFail s c sample) := by
  unfold State.calFail
  refine Within.trans ?_ (Within.mono (State.learnEvent_within ..) rfl)
  exact (Within.mono (State.modChan_within ..) rfl)

theorem State.calDone_within (s : State) (c : Nat) (a : AnchorPt) :
    Within 0x10000000000018000 [] s (State.calDone s c a) := by
  unfold State.calDone
  extract_lets +onlyGivenNames -merge -underBinder x1
  extract_lets +onlyGivenNames -merge -underBinder x2
  extract_lets +onlyGivenNames -merge -underBinder x3
  extract_lets +onlyGivenNames -merge -underBinder x4
  refine Within.ite ?_ ?_
  · refine Within.trans ?_ (Within.mono (State.learnEvent_within ..) rfl)
    refine Within.trans ?_ (Within.mono (State.modChan_within ..) rfl)
    exact (Within.mono (State.putHist_within ..) rfl)
  · exact (Within.mono (State.calFail_within ..) rfl)

theorem State.calAdvance_within (s : State) (c : Nat) (a : AnchorPt) :
    Within 0x11008000100018080 [] s (State.calAdvance s c a) := by
  unfold State.calAdvance
  extract_lets +onlyGivenNames -merge -underBinder x1
  extract_lets +onlyGivenNames -merge -underBinder x2
  extract_lets +onlyGivenNames -merge -underBinder x3
  extract_lets +onlyGivenNames -merge -underBinder x4
  have hx4 : Within 0x11008000100018080 [] s x4 := by
    unfold x4
    refine Within.ite ?_ ?_
    · exact (Within.mono (State.setChan_within ..) rfl)
    · refine Within.ite ?_ ?_
      · exact (Within.mono (State.setChan_within ..) rfl)
      · refine Within.ite ?_ ?_
        · exact (Within.mono (State.calDone_within ..) rfl)
        · exact Within.refl _
  refine Within.ite ?_ ?_
  · refine Within.trans ?_ (Within.mono (State.calFinish_within ..) rfl)
    exact hx4
  · exact hx4

theorem State.calVerdict_within (s : State) (v : Nat × Nat) :
    Within 0x10000000000010000 [] s { s with est := { s.est with verdicts := s.est.verdicts ++ [v] } } := by
  apply Within.upd (Within.refl s) rfl rfl (.inr rfl) (.inr rfl) (.inr rfl) (.inr rfl) <;> first | exact .inr rfl | exact .inl rfl

theorem State.calStart_within (s : State) (acceptMt : Nat) (hours : Nat) :
    Within 0x10000000000010000 [] s (State.calStart s acceptMt hours) := by
  unfold State.calStart
  have h1 (n : Nat) : Within 0x10000000000010000 [] s (s.wr64 .est R.EST.CAL_END_LO R.EST.CAL_END_HI n) :=
    Within.kind (State.wr64_within ..) rfl .est rfl rfl
  exact ((h1 _).trans (State.calVerdict_within _ _)).trans (Within.kind (State.wrf_within ..) rfl .est rfl rfl)

theorem State.calArm_within (s : State) :
    Within 0x10000000000010000 [] s (State.calArm s) := by
  unfold State.calArm
  extract_lets +onlyGivenNames -merge -underBinder x1
  have hx1 : Within 0x10000000000010000 [] s x1 := by
    unfold x1
    refine Within.foldl ?_ (fun t2 a3 h4 => ?_)
    · exact Within.refl _
    · refine Within.trans ?_ (Within.mono (State.modChan_within ..) rfl)
      exact h4
  refine Within.trans ?_ (Within.mono (State.calShow_within ..) rfl)
  refine Within.trans ?_ (Within.kind (State.wrf_within ..) rfl .est rfl rfl)
  exact hx1

theorem execCalibrationDeadline_within (dt : Nat) (s : State) :
    Ends (Within 0x1100800010001008e []) s (execCalibrationDeadline dt s) := by
  unfold execCalibrationDeadline
  extract_lets +onlyGivenNames -merge -underBinder x1
  have hx1 : Within 0x1100800010001008e [] s x1 := by
    unfold x1
    exact (Within.mono (State.elapse_within ..) rfl)
  refine Ends.ite ?_ ?_
  · refine Ends.next ?_
    refine Within.trans ?_ (Within.mono (State.calFinish_within ..) rfl)
    refine Within.foldl ?_ (fun t2 a3 h4 => ?_)
    · exact hx1
    · refine Within.ite ?_ ?_
      · refine Within.trans ?_ (Within.mono (State.calFail_within ..) rfl)
        exact h4
      · exact h4
  · refine Ends.next ?_
    exact hx1

theorem State.anchorDone_within (s : State) (d : StepDue) (c : Nat) (soc : Nat) :
    Within 0x110080001a0018280 [] s (State.anchorDone s d c soc) := by
  unfold State.anchorDone
  extract_lets +onlyGivenNames -merge -underBinder x1
  extract_lets +onlyGivenNames -merge -underBinder x2
  extract_lets +onlyGivenNames -merge -underBinder x3
  extract_lets +onlyGivenNames -merge -underBinder x4
  extract_lets +onlyGivenNames -merge -underBinder x5
  extract_lets +onlyGivenNames -merge -underBinder x6
  extract_lets +onlyGivenNames -merge -underBinder x7
  extract_lets +onlyGivenNames -merge -underBinder x8
  have hx8 : Within 0x110080001a0018280 [] s x8 := by
    unfold x8
    exact (Within.mono (State.jrnEdit_within ..) rfl)
  extract_lets +onlyGivenNames -merge -underBinder x9
  have hx9 : Within 0x110080001a0018280 [] s x9 := by
    unfold x9
    refine Within.trans ?_ (Within.mono (State.jrnEdit_within ..) rfl)
    exact hx8
  extract_lets +onlyGivenNames -merge -underBinder x10
  have hx10 : Within 0x110080001a0018280 [] s x10 := by
    unfold x10
    refine Within.trans ?_ (Within.mono (State.modChan_within ..) rfl)
    exact hx9
  extract_lets +onlyGivenNames -merge -underBinder x11 x12
  have hx12 : Within 0x110080001a0018280 [] s x12 := by
    unfold x12
    refine Within.ite ?_ ?_
    · refine Within.ite ?_ ?_
      · refine Within.trans ?_ (Within.mono (State.gateSample_within ..) rfl)
        exact hx10
      · refine Within.trans ?_ (Within.kind (State.wrb_within ..) rfl .est rfl rfl)
        refine Within.trans ?_ (Within.kind (State.inc_within ..) rfl .est rfl rfl)
        refine Within.trans ?_ (Within.mono (State.learnEvent_within ..) rfl)
        exact hx10
    · exact hx10
  extract_lets +onlyGivenNames -merge -underBinder x13
  have hx13 : Within 0x110080001a0018280 [] s x13 := by
    unfold x13
    refine Within.trans ?_ (Within.mono (State.calAdvance_within ..) rfl)
    exact hx12
  extract_lets +onlyGivenNames -merge -underBinder x14
  have hx14 : Within 0x110080001a0018280 [] s x14 := by
    unfold x14
    refine Within.trans ?_ (Within.mono (State.jrnQueue_within ..) rfl)
    exact hx13
  extract_lets +onlyGivenNames -merge -underBinder x15
  have hx15 : Within 0x110080001a0018280 [] s x15 := by
    unfold x15
    refine Within.trans ?_ (Within.kind (State.wrb_within ..) rfl .est rfl rfl)
    refine Within.trans ?_ (Within.kind (State.inc_within ..) rfl .est rfl rfl)
    exact hx14
  extract_lets +onlyGivenNames -merge -underBinder x16
  have hx16 : Within 0x110080001a0018280 [] s x16 := by
    unfold x16
    refine Within.trans ?_ (Within.kind (State.wr64_within ..) rfl .est rfl rfl)
    exact hx15
  refine Within.trans ?_ (Within.mono (State.wayEntry_within ..) rfl)
  exact hx16

theorem State.emptyRecord_within (s : State) (d : StepDue) (c : Nat) (soc : Rat) :
    Within 0x1008000100000080 [] s (State.emptyRecord s d c soc) := by
  unfold State.emptyRecord
  extract_lets +onlyGivenNames -merge -underBinder x1
  exact (Within.mono (State.record_within ..) rfl)

theorem State.disUpdate_within (s : State) (d : StepDue) (c : Nat) (n : Nat) (anchor : Bool) :
    Within 0x11008000100010080 [] s (State.disUpdate s d c n anchor) := by
  unfold State.disUpdate
  extract_lets +onlyGivenNames -merge -underBinder x1
  extract_lets +onlyGivenNames -merge -underBinder x2
  extract_lets +onlyGivenNames -merge -underBinder x3
  extract_lets +onlyGivenNames -merge -underBinder x4
  have hx4 : Within 0x11008000100010080 [] s x4 := by
    unfold x4
    exact (Within.mono (State.setChan_within ..) rfl)
  refine Within.ite ?_ ?_
  · refine Within.trans ?_ (Within.mono (State.modChan_within ..) rfl)
    exact hx4
  · extract_lets +onlyGivenNames -merge -underBinder x5
    extract_lets +onlyGivenNames -merge -underBinder x6
    split
    · extract_lets +onlyGivenNames -merge -underBinder x7
      have hx7 : Within 0x11008000100010080 [] s x7 := by
        unfold x7
        refine Within.trans ?_ (Within.mono (State.modChan_within ..) rfl)
        exact hx4
      refine Within.ite ?_ ?_
      · refine Within.trans ?_ (Within.kind (State.wrb_within ..) rfl .est rfl rfl)
        refine Within.trans ?_ (Within.mono (State.emptyRecord_within ..) rfl)
        exact hx7
      · refine Within.ite ?_ ?_
        · refine Within.trans ?_ (Within.kind (State.wrb_within ..) rfl .est rfl rfl)
          exact hx7
        · exact hx7

theorem State.iscUpdate_within (s : State) (c : Nat) (n : Nat) :
    Within 0x10000 [] s (State.iscUpdate s c n) := by
  unfold State.iscUpdate
  extract_lets +onlyGivenNames -merge -underBinder x1
  extract_lets +onlyGivenNames -merge -underBinder x2
  extract_lets +onlyGivenNames -merge -underBinder x3
  split
  · exact (Within.mono (State.setChan_within ..) rfl)

theorem State.initChan_within (s : State) (p : PSet) (d : StepDue) (c : Nat) (hs : List HypV) :
    Within 0x10000 [] s (State.initChan s p d c hs) := by
  unfold State.initChan
  extract_lets +onlyGivenNames -merge -underBinder x1
  extract_lets +onlyGivenNames -merge -underBinder x2
  exact (Within.mono (State.modChan_within ..) rfl)

theorem State.chanStep_within (s : State) (d : StepDue) (c : Nat) (q : Int) (lost : Nat) :
    Within 0x110080001a0018280 [] s (State.chanStep s d c q lost) := by
  unfold State.chanStep
  extract_lets +onlyGivenNames -merge -underBinder x1
  extract_lets +onlyGivenNames -merge -underBinder x2
  extract_lets +onlyGivenNames -merge -underBinder x3
  extract_lets +onlyGivenNames -merge -underBinder x4
  extract_lets +onlyGivenNames -merge -underBinder x5
  extract_lets +onlyGivenNames -merge -underBinder x6
  extract_lets +onlyGivenNames -merge -underBinder x7
  extract_lets +onlyGivenNames -merge -underBinder x8
  extract_lets +onlyGivenNames -merge -underBinder x9
  extract_lets +onlyGivenNames -merge -underBinder x10
  extract_lets +onlyGivenNames -merge -underBinder x11
  extract_lets +onlyGivenNames -merge -underBinder x12
  extract_lets +onlyGivenNames -merge -underBinder x13
  extract_lets +onlyGivenNames -merge -underBinder x14
  have hx14 : Within 0x110080001a0018280 [] s x14 := by
    unfold x14
    exact (Within.mono (State.modChan_within ..) rfl)
  extract_lets +onlyGivenNames -merge -underBinder x15
  extract_lets +onlyGivenNames -merge -underBinder x16
  extract_lets +onlyGivenNames -merge -underBinder x17
  extract_lets +onlyGivenNames -merge -underBinder x18
  extract_lets +onlyGivenNames -merge -underBinder x19
  split
  · extract_lets +onlyGivenNames -merge -underBinder x20
    split
    · split
      · extract_lets +onlyGivenNames -merge -underBinder x21
        have hx21 : Within 0x110080001a0018280 [] s x21 := by
          unfold x21
          refine Within.ite ?_ ?_
          · refine Within.trans ?_ (Within.mono (State.initChan_within ..) rfl)
            exact hx14
          · refine Within.trans ?_ (Within.mono (State.modChan_within ..) rfl)
            exact hx14
        extract_lets +onlyGivenNames -merge -underBinder x22
        have hx22 : Within 0x110080001a0018280 [] s x22 := by
          unfold x22
          refine Within.trans ?_ (Within.mono (State.modChan_within ..) rfl)
          exact hx21
        extract_lets +onlyGivenNames -merge -underBinder x23
        have hx23 : Within 0x110080001a0018280 [] s x23 := by
          unfold x23
          refine Within.ite ?_ ?_
          · refine Within.trans ?_ (Within.kind (State.flag_within ..) rfl .est rfl rfl)
            refine Within.trans ?_ (Within.kind (State.incBy_within ..) rfl .est rfl rfl)
            exact hx22
          · exact hx22
        extract_lets +onlyGivenNames -merge -underBinder x24
        have hx24 : Within 0x110080001a0018280 [] s x24 := by
          unfold x24
          refine Within.ite ?_ ?_
          · refine Within.trans ?_ (Within.kind (State.flag_within ..) rfl .est rfl rfl)
            refine Within.trans ?_ (Within.kind (State.incBy_within ..) rfl .est rfl rfl)
            exact hx23
          · exact hx23
        extract_lets +onlyGivenNames -merge -underBinder x25
        have hx25 : Within 0x110080001a0018280 [] s x25 := by
          unfold x25
          refine Within.ite ?_ ?_
          · exact hx24
          · refine Within.trans ?_ (Within.mono (State.disUpdate_within ..) rfl)
            exact hx24
        extract_lets +onlyGivenNames -merge -underBinder x26
        have hx26 : Within 0x110080001a0018280 [] s x26 := by
          unfold x26
          refine Within.ite ?_ ?_
          · refine Within.trans ?_ (Within.mono (State.anchorDone_within ..) rfl)
            exact hx25
          · exact hx25
        extract_lets +onlyGivenNames -merge -underBinder x27
        have hx27 : Within 0x110080001a0018280 [] s x27 := by
          unfold x27
          refine Within.ite ?_ ?_
          · exact hx26
          · refine Within.trans ?_ (Within.mono (State.iscUpdate_within ..) rfl)
            exact hx26
        extract_lets +onlyGivenNames -merge -underBinder x28
        extract_lets +onlyGivenNames -merge -underBinder x29
        extract_lets +onlyGivenNames -merge -underBinder x30
        extract_lets +onlyGivenNames -merge -underBinder x31
        refine Within.trans ?_ (Within.mono (State.modChan_within ..) rfl)
        exact hx27

theorem State.chanHold_within (s : State) (c : Nat) (q : Int) (lost : Nat) :
    Within 0x10000 [] s (State.chanHold s c q lost) := by
  unfold State.chanHold
  exact (Within.mono (State.modChan_within ..) rfl)

end Sys2Proof.Machine
end

