-- ==== Sys2Proof/Laws/FrameLanes.lean ====
section
/-! SUPPORT. What each operation of Machine/Lanes.lean may change (Laws/Within.lean). -/

namespace Sys2Proof.Machine

open Sys2Proof

theorem State.setHarness_within (s : State) (c : Nat) (h : Harness) :
    Within 0x40000 [] s (State.setHarness s c h) := by
  unfold State.setHarness
  refine Within.upd ?_ rfl rfl (.inr rfl) (.inr rfl) (.inr rfl) (.inr rfl) (.inr rfl) (.inr rfl) (.inr rfl) (.inr
      rfl) (.inr rfl) (.inr rfl) (.inr rfl) (.inr rfl) (.inr rfl) (.inr rfl) (.inr rfl) (.inr rfl) (.inr rfl) (.inr
          rfl) (.inl rfl) (.inr rfl) (.inr rfl) (.inr rfl) (.inr rfl) (.inr rfl) (.inr rfl) (.inr rfl) (.inr rfl)
              (.inr rfl) (.inr rfl) (.inr rfl) (.inr rfl) (.inr rfl) (.inr rfl) (.inr rfl) (.inr rfl) (.inr rfl)
                  (.inr rfl) (.inr rfl) (.inr rfl) (.inr rfl) (.inr rfl) (.inr rfl) (.inr rfl) (.inr rfl) (.inr rfl)
                      (.inr rfl) (.inr rfl)
  exact Within.refl _

theorem State.dropHarness_within (s : State) (c : Nat) :
    Within 0x40000 [] s (State.dropHarness s c) := by
  unfold State.dropHarness
  refine Within.upd ?_ rfl rfl (.inr rfl) (.inr rfl) (.inr rfl) (.inr rfl) (.inr rfl) (.inr rfl) (.inr rfl) (.inr
      rfl) (.inr rfl) (.inr rfl) (.inr rfl) (.inr rfl) (.inr rfl) (.inr rfl) (.inr rfl) (.inr rfl) (.inr rfl) (.inr
          rfl) (.inl rfl) (.inr rfl) (.inr rfl) (.inr rfl) (.inr rfl) (.inr rfl) (.inr rfl) (.inr rfl) (.inr rfl)
              (.inr rfl) (.inr rfl) (.inr rfl) (.inr rfl) (.inr rfl) (.inr rfl) (.inr rfl) (.inr rfl) (.inr rfl)
                  (.inr rfl) (.inr rfl) (.inr rfl) (.inr rfl) (.inr rfl) (.inr rfl) (.inr rfl) (.inr rfl) (.inr rfl)
                      (.inr rfl) (.inr rfl)
  exact Within.refl _

theorem State.migFail_within (s : State) :
    Within 0x20008000000000080 [] s (State.migFail s) := by
  unfold State.migFail
  refine Within.trans ?_ (Within.kind (State.flag_within ..) rfl .ost rfl rfl)
  exact (Within.kind (State.inc_within ..) rfl .ost rfl rfl)

theorem State.place_within (s : State) (migrating : Bool) (c : Nat) :
    Within 0x20008000000040080 [] s (State.place s migrating c) := by
  unfold State.place
  split
  · exact (Within.mono (State.setHarness_within ..) rfl)
  · extract_lets +onlyGivenNames -merge -underBinder x1
    have hx1 : Within 0x20008000000040080 [] s x1 := by
      unfold x1
      refine Within.trans ?_ (Within.mono (State.migFail_within ..) rfl)
      exact (Within.mono (State.dropHarness_within ..) rfl)
    refine Within.upd ?_ rfl rfl (.inr rfl) (.inr rfl) (.inr rfl) (.inr rfl) (.inr rfl) (.inr rfl) (.inr rfl) (.inr
        rfl) (.inr rfl) (.inr rfl) (.inr rfl) (.inr rfl) (.inr rfl) (.inr rfl) (.inr rfl) (.inr rfl) (.inr rfl) (.inr
            rfl) (.inl rfl) (.inr rfl) (.inr rfl) (.inr rfl) (.inr rfl) (.inr rfl) (.inr rfl) (.inr rfl) (.inr rfl)
                (.inr rfl) (.inr rfl) (.inr rfl) (.inr rfl) (.inr rfl) (.inr rfl) (.inr rfl) (.inr rfl) (.inr rfl)
                    (.inr rfl) (.inr rfl) (.inr rfl) (.inr rfl) (.inr rfl) (.inr rfl) (.inr rfl) (.inr rfl) (.inr
                        rfl) (.inr rfl) (.inr rfl)
    exact hx1

theorem State.placeAll_within (s : State) :
    Within 0x20008000000040080 [] s (State.placeAll s) := by
  unfold State.placeAll
  extract_lets +onlyGivenNames -merge -underBinder x1 x2
  have hx2 : Within 0x20008000000040080 [] s x2 := by
    unfold x2
    refine Within.upd ?_ rfl rfl (.inr rfl) (.inr rfl) (.inr rfl) (.inr rfl) (.inr rfl) (.inr rfl) (.inr rfl) (.inr
        rfl) (.inr rfl) (.inr rfl) (.inr rfl) (.inr rfl) (.inr rfl) (.inr rfl) (.inr rfl) (.inr rfl) (.inr rfl) (.inr
            rfl) (.inl rfl) (.inr rfl) (.inr rfl) (.inr rfl) (.inr rfl) (.inr rfl) (.inr rfl) (.inr rfl) (.inr rfl)
                (.inr rfl) (.inr rfl) (.inr rfl) (.inr rfl) (.inr rfl) (.inr rfl) (.inr rfl) (.inr rfl) (.inr rfl)
                    (.inr rfl) (.inr rfl) (.inr rfl) (.inr rfl) (.inr rfl) (.inr rfl) (.inr rfl) (.inr rfl) (.inr
                        rfl) (.inr rfl) (.inr rfl)
    exact Within.refl _
  refine Within.foldl ?_ (fun t3 a4 h5 => ?_)
  · exact hx2
  · refine Within.trans ?_ (Within.mono (State.place_within ..) rfl)
    exact h5

theorem State.ostShow_within (s : State) (stage : Nat) :
    Within 0x20000000000000000 [] s (State.ostShow s stage) := by
  unfold State.ostShow
  extract_lets +onlyGivenNames -merge -underBinder x1
  extract_lets +onlyGivenNames -merge -underBinder x2
  have hx2 : Within 0x20000000000000000 [] s x2 := by
    unfold x2
    exact (Within.kind (State.wrn_within ..) rfl .ost rfl rfl)
  extract_lets +onlyGivenNames -merge -underBinder x3
  have hx3 : Within 0x20000000000000000 [] s x3 := by
    unfold x3
    refine Within.trans ?_ (Within.kind (State.wrn_within ..) rfl .ost rfl rfl)
    refine Within.trans ?_ (Within.kind (State.wrn_within ..) rfl .ost rfl rfl)
    exact hx2
  extract_lets +onlyGivenNames -merge -underBinder x4
  have hx4 : Within 0x20000000000000000 [] s x4 := by
    unfold x4
    refine Within.foldl ?_ (fun t5 a6 h7 => ?_)
    · exact hx3
    · extract_lets +onlyGivenNames -merge -underBinder x8
      refine Within.trans ?_ (Within.kind (State.wrn_within ..) rfl .ost rfl rfl)
      exact h7
  extract_lets +onlyGivenNames -merge -underBinder x9
  extract_lets +onlyGivenNames -merge -underBinder x10
  have hx10 : Within 0x20000000000000000 [] s x10 := by
    unfold x10
    refine Within.foldl ?_ (fun t11 a12 h13 => ?_)
    · exact hx4
    · refine Within.trans ?_ (Within.kind (State.wrn_within ..) rfl .ost rfl rfl)
      exact h13
  refine Within.trans ?_ (Within.kind (State.wr64_within ..) rfl .ost rfl rfl)
  exact hx10

theorem State.ostRefresh_within (s : State) :
    Within 0x20000000000000000 [] s (State.ostRefresh s) := by
  unfold State.ostRefresh
  exact (Within.mono (State.ostShow_within ..) rfl)

theorem State.replaceAll_within (s : State) :
    Within 0x202100890112344028f [] s (State.replaceAll s) := by
  unfold State.replaceAll
  extract_lets +onlyGivenNames -merge -underBinder x1
  extract_lets +onlyGivenNames -merge -underBinder x2
  extract_lets +onlyGivenNames -merge -underBinder x3
  extract_lets +onlyGivenNames -merge -underBinder x4 x5
  have hx5 : Within 0x202100890112344028f [] s x5 := by
    unfold x5
    refine Within.upd ?_ rfl rfl (.inr rfl) (.inr rfl) (.inr rfl) (.inr rfl) (.inr rfl) (.inr rfl) (.inr rfl) (.inr
        rfl) (.inr rfl) (.inr rfl) (.inr rfl) (.inr rfl) (.inr rfl) (.inr rfl) (.inr rfl) (.inr rfl) (.inr rfl) (.inr
            rfl) (.inl rfl) (.inr rfl) (.inr rfl) (.inr rfl) (.inr rfl) (.inr rfl) (.inr rfl) (.inr rfl) (.inr rfl)
                (.inr rfl) (.inr rfl) (.inr rfl) (.inr rfl) (.inr rfl) (.inr rfl) (.inr rfl) (.inr rfl) (.inr rfl)
                    (.inr rfl) (.inr rfl) (.inr rfl) (.inr rfl) (.inr rfl) (.inr rfl) (.inr rfl) (.inr rfl) (.inr
                        rfl) (.inr rfl) (.inr rfl)
    exact Within.refl _
  extract_lets +onlyGivenNames -merge -underBinder x6
  have hx6 : Within 0x202100890112344028f [] s x6 := by
    unfold x6
    refine Within.foldl ?_ (fun t7 a8 h9 => ?_)
    · exact hx5
    · split
      · split
        · refine Within.ite ?_ ?_
          · refine Within.trans ?_ (Within.mono (State.setHarness_within ..) rfl)
            exact h9
          · exact h9
        · exact h9
  extract_lets +onlyGivenNames -merge -underBinder x10
  have hx10 : Within 0x202100890112344028f [] s x10 := by
    unfold x10
    refine Within.trans ?_ (Within.kind (State.flag_within ..) rfl .ost rfl rfl)
    exact hx6
  refine Within.ite ?_ ?_
  · exact hx10
  · refine Within.trans ?_ (Within.mono (State.outEntry_within ..) rfl)
    exact hx10

theorem State.restGate_within (s : State) :
    Within 0x40000 [] s (State.restGate s) := by
  unfold State.restGate
  extract_lets +onlyGivenNames -merge -underBinder x1
  extract_lets +onlyGivenNames -merge -underBinder x2
  extract_lets +onlyGivenNames -merge -underBinder x3
  extract_lets +onlyGivenNames -merge -underBinder x4
  refine Within.upd ?_ rfl rfl (.inr rfl) (.inr rfl) (.inr rfl) (.inr rfl) (.inr rfl) (.inr rfl) (.inr rfl) (.inr
      rfl) (.inr rfl) (.inr rfl) (.inr rfl) (.inr rfl) (.inr rfl) (.inr rfl) (.inr rfl) (.inr rfl) (.inr rfl) (.inr
          rfl) (.inl rfl) (.inr rfl) (.inr rfl) (.inr rfl) (.inr rfl) (.inr rfl) (.inr rfl) (.inr rfl) (.inr rfl)
              (.inr rfl) (.inr rfl) (.inr rfl) (.inr rfl) (.inr rfl) (.inr rfl) (.inr rfl) (.inr rfl) (.inr rfl)
                  (.inr rfl) (.inr rfl) (.inr rfl) (.inr rfl) (.inr rfl) (.inr rfl) (.inr rfl) (.inr rfl) (.inr rfl)
                      (.inr rfl) (.inr rfl)
  exact Within.refl _

theorem State.restWake_within (s : State) :
    Within 0x40000 [] s (State.restWake s) := by
  unfold State.restWake
  refine Within.upd ?_ rfl rfl (.inr rfl) (.inr rfl) (.inr rfl) (.inr rfl) (.inr rfl) (.inr rfl) (.inr rfl) (.inr
      rfl) (.inr rfl) (.inr rfl) (.inr rfl) (.inr rfl) (.inr rfl) (.inr rfl) (.inr rfl) (.inr rfl) (.inr rfl) (.inr
          rfl) (.inl rfl) (.inr rfl) (.inr rfl) (.inr rfl) (.inr rfl) (.inr rfl) (.inr rfl) (.inr rfl) (.inr rfl)
              (.inr rfl) (.inr rfl) (.inr rfl) (.inr rfl) (.inr rfl) (.inr rfl) (.inr rfl) (.inr rfl) (.inr rfl)
                  (.inr rfl) (.inr rfl) (.inr rfl) (.inr rfl) (.inr rfl) (.inr rfl) (.inr rfl) (.inr rfl) (.inr rfl)
                      (.inr rfl) (.inr rfl)
  exact Within.refl _

theorem State.harnessNeeds_within (s : State) :
    Within 0x202100890112344028f [] s (State.harnessNeeds s) := by
  unfold State.harnessNeeds
  extract_lets +onlyGivenNames -merge -underBinder x1
  refine Within.ite ?_ ?_
  · exact (Within.mono (State.replaceAll_within ..) rfl)
  · refine Within.foldl ?_ (fun t2 a3 h4 => ?_)
    · refine Within.upd ?_ rfl rfl (.inr rfl) (.inr rfl) (.inr rfl) (.inr rfl) (.inr rfl) (.inr rfl) (.inr rfl) (.inr
        rfl) (.inr rfl) (.inr rfl) (.inr rfl) (.inr rfl) (.inr rfl) (.inr rfl) (.inr rfl) (.inr rfl) (.inr rfl) (.inr
            rfl) (.inl rfl) (.inr rfl) (.inr rfl) (.inr rfl) (.inr rfl) (.inr rfl) (.inr rfl) (.inr rfl) (.inr rfl)
                (.inr rfl) (.inr rfl) (.inr rfl) (.inr rfl) (.inr rfl) (.inr rfl) (.inr rfl) (.inr rfl) (.inr rfl)
                    (.inr rfl) (.inr rfl) (.inr rfl) (.inr rfl) (.inr rfl) (.inr rfl) (.inr rfl) (.inr rfl) (.inr
                        rfl) (.inr rfl) (.inr rfl)
      exact Within.refl _
    · refine Within.trans ?_ (Within.mono (State.place_within ..) rfl)
      exact h4

theorem State.ostBoundary_within (s : State) (spanBoundary : Bool) :
    Within 0x202100890112344028f [] s (State.ostBoundary s spanBoundary) := by
  unfold State.ostBoundary
  refine Within.ite ?_ ?_
  · exact Within.refl _
  · extract_lets +onlyGivenNames -merge -underBinder x1
    extract_lets +onlyGivenNames -merge -underBinder x2 x3
    have hx3 : Within 0x202100890112344028f [] s x3 := by
      unfold x3
      refine Within.upd ?_ rfl rfl (.inr rfl) (.inr rfl) (.inr rfl) (.inr rfl) (.inr rfl) (.inr rfl) (.inr rfl) (.inr
          rfl) (.inr rfl) (.inr rfl) (.inr rfl) (.inr rfl) (.inr rfl) (.inr rfl) (.inr rfl) (.inr rfl) (.inr rfl)
              (.inr rfl) (.inl rfl) (.inr rfl) (.inr rfl) (.inr rfl) (.inr rfl) (.inr rfl) (.inr rfl) (.inr rfl)
                  (.inr rfl) (.inr rfl) (.inr rfl) (.inr rfl) (.inr rfl) (.inr rfl) (.inr rfl) (.inr rfl) (.inr rfl)
                      (.inr rfl) (.inr rfl) (.inr rfl) (.inr rfl) (.inr rfl) (.inr rfl) (.inr rfl) (.inr rfl) (.inr
                          rfl) (.inr rfl) (.inr rfl) (.inr rfl)
      exact Within.refl _
    extract_lets +onlyGivenNames -merge -underBinder x4
    have hx4 : Within 0x202100890112344028f [] s x4 := by
      unfold x4
      refine Within.ite ?_ ?_
      · refine Within.trans ?_ (Within.mono (State.harnessNeeds_within ..) rfl)
        exact hx3
      · exact hx3
    extract_lets +onlyGivenNames -merge -underBinder x5
    have hx5 : Within 0x202100890112344028f [] s x5 := by
      unfold x5
      refine Within.ite ?_ ?_
      · refine Within.ite ?_ ?_
        · refine Within.trans ?_ (Within.mono (State.restGate_within ..) rfl)
          exact hx4
        · exact hx4
      · refine Within.ite ?_ ?_
        · refine Within.trans ?_ (Within.mono (State.restWake_within ..) rfl)
          exact hx4
        · exact hx4
    extract_lets +onlyGivenNames -merge -underBinder x6
    have hx6 : Within 0x202100890112344028f [] s x6 := by
      unfold x6
      refine Within.ite ?_ ?_
      · refine Within.trans ?_ (Within.mono (State.outEntry_within ..) rfl)
        exact hx5
      · exact hx5
    refine Within.trans ?_ (Within.mono (State.ostShow_within ..) rfl)
    exact hx6

theorem State.xlast_within (s : State) (k : LaneCheck) (bad : Bool) :
    Within 0x20000000000000000 [] s (State.xlast s k bad) := by
  unfold State.xlast
  exact (Within.kind (State.wrn_within ..) rfl .ost rfl rfl)

theorem State.crossCheck_within (s : State) (stage : Nat) (x : LaneObservations) :
    Within 0x20000000000040000 [] s (State.crossCheck s stage x) := by
  unfold State.crossCheck
  extract_lets +onlyGivenNames -merge -underBinder x1
  extract_lets +onlyGivenNames -merge -underBinder x2 x3
  have hx3 : Within 0x20000000000040000 [] s x3 := by
    unfold x3
    refine Within.upd ?_ rfl rfl (.inr rfl) (.inr rfl) (.inr rfl) (.inr rfl) (.inr rfl) (.inr rfl) (.inr rfl) (.inr
        rfl) (.inr rfl) (.inr rfl) (.inr rfl) (.inr rfl) (.inr rfl) (.inr rfl) (.inr rfl) (.inr rfl) (.inr rfl) (.inr
            rfl) (.inl rfl) (.inr rfl) (.inr rfl) (.inr rfl) (.inr rfl) (.inr rfl) (.inr rfl) (.inr rfl) (.inr rfl)
                (.inr rfl) (.inr rfl) (.inr rfl) (.inr rfl) (.inr rfl) (.inr rfl) (.inr rfl) (.inr rfl) (.inr rfl)
                    (.inr rfl) (.inr rfl) (.inr rfl) (.inr rfl) (.inr rfl) (.inr rfl) (.inr rfl) (.inr rfl) (.inr
                        rfl) (.inr rfl) (.inr rfl)
    exact Within.refl _
  refine Within.foldl ?_ (fun t4 a5 h6 => ?_)
  · exact hx3
  · extract_lets +onlyGivenNames -merge -underBinder x7
    extract_lets +onlyGivenNames -merge -underBinder x8
    have hx8 : Within 0x20000000000040000 [] s x8 := by
      unfold x8
      refine Within.trans ?_ (Within.mono (State.xlast_within ..) rfl)
      exact h6
    refine Within.ite ?_ ?_
    · refine Within.upd ?_ rfl rfl (.inr rfl) (.inr rfl) (.inr rfl) (.inr rfl) (.inr rfl) (.inr rfl) (.inr rfl) (.inr
        rfl) (.inr rfl) (.inr rfl) (.inr rfl) (.inr rfl) (.inr rfl) (.inr rfl) (.inr rfl) (.inr rfl) (.inr rfl) (.inr
            rfl) (.inl rfl) (.inr rfl) (.inr rfl) (.inr rfl) (.inr rfl) (.inr rfl) (.inr rfl) (.inr rfl) (.inr rfl)
                (.inr rfl) (.inr rfl) (.inr rfl) (.inr rfl) (.inr rfl) (.inr rfl) (.inr rfl) (.inr rfl) (.inr rfl)
                    (.inr rfl) (.inr rfl) (.inr rfl) (.inr rfl) (.inr rfl) (.inr rfl) (.inr rfl) (.inr rfl) (.inr
                        rfl) (.inr rfl) (.inr rfl)
      exact hx8
    · exact hx8

theorem State.unstep_within (s : State) (c : Nat) :
    Within 0x58000 [] s (State.unstep s c) := by
  unfold State.unstep
  extract_lets +onlyGivenNames -merge -underBinder x1
  extract_lets +onlyGivenNames -merge -underBinder x2
  extract_lets +onlyGivenNames -merge -underBinder x3
  extract_lets +onlyGivenNames -merge -underBinder x4
  extract_lets +onlyGivenNames -merge -underBinder x5
  extract_lets +onlyGivenNames -merge -underBinder x6
  extract_lets +onlyGivenNames -merge -underBinder x7 x8 x9
  have hx9 : Within 0x58000 [] s x9 := by
    unfold x9
    refine Within.upd ?_ rfl rfl (.inr rfl) (.inr rfl) (.inr rfl) (.inr rfl) (.inr rfl) (.inr rfl) (.inr rfl) (.inr
        rfl) (.inr rfl) (.inr rfl) (.inr rfl) (.inr rfl) (.inr rfl) (.inr rfl) (.inr rfl) (.inl rfl) (.inr rfl) (.inr
            rfl) (.inl rfl) (.inr rfl) (.inr rfl) (.inr rfl) (.inr rfl) (.inr rfl) (.inr rfl) (.inr rfl) (.inr rfl)
                (.inr rfl) (.inr rfl) (.inr rfl) (.inr rfl) (.inr rfl) (.inr rfl) (.inr rfl) (.inr rfl) (.inr rfl)
                    (.inr rfl) (.inr rfl) (.inr rfl) (.inr rfl) (.inr rfl) (.inr rfl) (.inr rfl) (.inr rfl) (.inr
                        rfl) (.inr rfl) (.inr rfl)
    exact Within.refl _
  refine Within.trans ?_ (Within.mono (State.chanHold_within ..) rfl)
  refine Within.trans ?_ (Within.mono (State.setChan_within ..) rfl)
  exact hx9

theorem State.migrate_within (s : State) (l : Nat) :
    Within 0x20008000000058080 [] s (State.migrate s l) := by
  unfold State.migrate
  extract_lets +onlyGivenNames -merge -underBinder x1
  extract_lets +onlyGivenNames -merge -underBinder x2 x3
  have hx3 : Within 0x20008000000058080 [] s x3 := by
    unfold x3
    refine Within.foldl ?_ (fun t4 a5 h6 => ?_)
    · refine Within.upd ?_ rfl rfl (.inr rfl) (.inr rfl) (.inr rfl) (.inr rfl) (.inr rfl) (.inr rfl) (.inr rfl) (.inr
        rfl) (.inr rfl) (.inr rfl) (.inr rfl) (.inr rfl) (.inr rfl) (.inr rfl) (.inr rfl) (.inr rfl) (.inr rfl) (.inr
            rfl) (.inl rfl) (.inr rfl) (.inr rfl) (.inr rfl) (.inr rfl) (.inr rfl) (.inr rfl) (.inr rfl) (.inr rfl)
                (.inr rfl) (.inr rfl) (.inr rfl) (.inr rfl) (.inr rfl) (.inr rfl) (.inr rfl) (.inr rfl) (.inr rfl)
                    (.inr rfl) (.inr rfl) (.inr rfl) (.inr rfl) (.inr rfl) (.inr rfl) (.inr rfl) (.inr rfl) (.inr
                        rfl) (.inr rfl) (.inr rfl)
      exact Within.refl _
    · refine Within.trans ?_ (Within.mono (State.place_within ..) rfl)
      exact h6
  extract_lets +onlyGivenNames -merge -underBinder x7
  extract_lets +onlyGivenNames -merge -underBinder x8
  split
  · extract_lets +onlyGivenNames -merge -underBinder x9 x10
    have hx10 : Within 0x20008000000058080 [] s x10 := by
      unfold x10
      refine Within.upd ?_ rfl rfl (.inr rfl) (.inr rfl) (.inr rfl) (.inr rfl) (.inr rfl) (.inr rfl) (.inr rfl) (.inr
          rfl) (.inr rfl) (.inr rfl) (.inr rfl) (.inr rfl) (.inr rfl) (.inr rfl) (.inr rfl) (.inr rfl) (.inr rfl)
              (.inr rfl) (.inl rfl) (.inr rfl) (.inr rfl) (.inr rfl) (.inr rfl) (.inr rfl) (.inr rfl) (.inr rfl)
                  (.inr rfl) (.inr rfl) (.inr rfl) (.inr rfl) (.inr rfl) (.inr rfl) (.inr rfl) (.inr rfl) (.inr rfl)
                      (.inr rfl) (.inr rfl) (.inr rfl) (.inr rfl) (.inr rfl) (.inr rfl) (.inr rfl) (.inr rfl) (.inr
                          rfl) (.inr rfl) (.inr rfl) (.inr rfl)
      exact hx3
    extract_lets +onlyGivenNames -merge -underBinder x11
    have hx11 : Within 0x20008000000058080 [] s x11 := by
      unfold x11
      refine Within.foldl ?_ (fun t12 a13 h14 => ?_)
      · exact hx10
      · refine Within.ite ?_ ?_
        · exact h14
        · refine Within.ite ?_ ?_
          · refine Within.trans ?_ (Within.mono (State.migFail_within ..) rfl)
            refine Within.trans ?_ (Within.mono (State.unstep_within ..) rfl)
            exact h14
          · refine Within.trans ?_ (Within.mono (State.unstep_within ..) rfl)
            exact h14
    refine Within.trans ?_ (Within.mono (State.ostShow_within ..) rfl)
    exact hx11

theorem State.recheck_within (s : State) (l : Nat) :
    Within 0x20000000000040000 [] s (State.recheck s l) := by
  unfold State.recheck
  split
  · exact Within.refl _
  · split
    · exact Within.refl _
    · extract_lets +onlyGivenNames -merge -underBinder x1
      extract_lets +onlyGivenNames -merge -underBinder x2 x3
      have hx3 : Within 0x20000000000040000 [] s x3 := by
        unfold x3
        refine Within.upd ?_ rfl rfl (.inr rfl) (.inr rfl) (.inr rfl) (.inr rfl) (.inr rfl) (.inr rfl) (.inr rfl)
            (.inr rfl) (.inr rfl) (.inr rfl) (.inr rfl) (.inr rfl) (.inr rfl) (.inr rfl) (.inr rfl) (.inr rfl) (.inr
                rfl) (.inr rfl) (.inl rfl) (.inr rfl) (.inr rfl) (.inr rfl) (.inr rfl) (.inr rfl) (.inr rfl) (.inr
                    rfl) (.inr rfl) (.inr rfl) (.inr rfl) (.inr rfl) (.inr rfl) (.inr rfl) (.inr rfl) (.inr rfl)
                        (.inr rfl) (.inr rfl) (.inr rfl) (.inr rfl) (.inr rfl) (.inr rfl) (.inr rfl) (.inr rfl) (.inr
                            rfl) (.inr rfl) (.inr rfl) (.inr rfl) (.inr rfl)
        exact Within.refl _
      refine Within.trans ?_ (Within.mono (State.xlast_within ..) rfl)
      exact hx3

theorem State.againBad_within (s : State) (owner : Nat) :
    Within 0x40000 [] s (State.againBad s owner) := by
  unfold State.againBad
  refine Within.upd ?_ rfl rfl (.inr rfl) (.inr rfl) (.inr rfl) (.inr rfl) (.inr rfl) (.inr rfl) (.inr rfl) (.inr
      rfl) (.inr rfl) (.inr rfl) (.inr rfl) (.inr rfl) (.inr rfl) (.inr rfl) (.inr rfl) (.inr rfl) (.inr rfl) (.inr
          rfl) (.inl rfl) (.inr rfl) (.inr rfl) (.inr rfl) (.inr rfl) (.inr rfl) (.inr rfl) (.inr rfl) (.inr rfl)
              (.inr rfl) (.inr rfl) (.inr rfl) (.inr rfl) (.inr rfl) (.inr rfl) (.inr rfl) (.inr rfl) (.inr rfl)
                  (.inr rfl) (.inr rfl) (.inr rfl) (.inr rfl) (.inr rfl) (.inr rfl) (.inr rfl) (.inr rfl) (.inr rfl)
                      (.inr rfl) (.inr rfl)
  exact Within.refl _

theorem State.retire_within (s : State) (l : Nat) (partner : Nat) (cause : Nat) (ownerT : Nat) (checkerT : Nat) (hyp
    : Nat) (ch : Nat) :
    Within 0x20218089011a345828f [] s (State.retire s l partner cause ownerT checkerT hyp ch) := by
  unfold State.retire
  refine Within.ite ?_ ?_
  · exact Within.refl _
  · extract_lets +onlyGivenNames -merge -underBinder x1 x2
    have hx2 : Within 0x20218089011a345828f [] s x2 := by
      unfold x2
      refine Within.upd ?_ rfl rfl (.inr rfl) (.inr rfl) (.inr rfl) (.inr rfl) (.inr rfl) (.inr rfl) (.inr rfl) (.inr
          rfl) (.inr rfl) (.inr rfl) (.inr rfl) (.inr rfl) (.inr rfl) (.inr rfl) (.inr rfl) (.inr rfl) (.inr rfl)
              (.inr rfl) (.inl rfl) (.inr rfl) (.inr rfl) (.inr rfl) (.inr rfl) (.inr rfl) (.inr rfl) (.inr rfl)
                  (.inr rfl) (.inr rfl) (.inr rfl) (.inr rfl) (.inr rfl) (.inr rfl) (.inr rfl) (.inr rfl) (.inr rfl)
                      (.inr rfl) (.inr rfl) (.inr rfl) (.inr rfl) (.inr rfl) (.inr rfl) (.inr rfl) (.inr rfl) (.inr
                          rfl) (.inr rfl) (.inr rfl) (.inr rfl)
      exact Within.refl _
    extract_lets +onlyGivenNames -merge -underBinder x3
    have hx3 : Within 0x20218089011a345828f [] s x3 := by
      unfold x3
      refine Within.trans ?_ (Within.kind (State.flag_within ..) rfl .ost rfl rfl)
      refine Within.trans ?_ (Within.mono (State.migrate_within ..) rfl)
      exact hx2
    extract_lets +onlyGivenNames -merge -underBinder x4
    have hx4 : Within 0x20218089011a345828f [] s x4 := by
      unfold x4
      refine Within.ite ?_ ?_
      · refine Within.trans ?_ (Within.kind (State.inc_within ..) rfl .ost rfl rfl)
        exact hx3
      · exact hx3
    extract_lets +onlyGivenNames -merge -underBinder x5
    have hx5 : Within 0x20218089011a345828f [] s x5 := by
      unfold x5
      refine Within.trans ?_ (Within.mono (State.record_within ..) rfl)
      exact hx4
    extract_lets +onlyGivenNames -merge -underBinder x6
    have hx6 : Within 0x20218089011a345828f [] s x6 := by
      unfold x6
      refine Within.trans ?_ (Within.mono (State.trigger_within ..) rfl)
      exact hx5
    refine Within.ite ?_ ?_
    · refine Within.trans ?_ (Within.mono (State.outEntry_within ..) rfl)
      exact hx6
    · exact hx6

theorem State.bistEnds_within (s : State) (lane : Nat) (ownerFails : Bool) (checkerFails : Bool) (third : ThirdResult) :
    Within 0x20218089011a345828f [] s (State.bistEnds s lane ownerFails checkerFails third) := by
  unfold State.bistEnds
  refine Within.ite ?_ ?_
  · extract_lets +onlyGivenNames -merge -underBinder x1 x2
    have hx2 : Within 0x20218089011a345828f [] s x2 := by
      unfold x2
      refine Within.upd ?_ rfl rfl (.inr rfl) (.inr rfl) (.inr rfl) (.inr rfl) (.inr rfl) (.inr rfl) (.inr rfl) (.inr
          rfl) (.inr rfl) (.inr rfl) (.inr rfl) (.inr rfl) (.inr rfl) (.inr rfl) (.inr rfl) (.inr rfl) (.inr rfl)
              (.inr rfl) (.inl rfl) (.inr rfl) (.inr rfl) (.inr rfl) (.inr rfl) (.inr rfl) (.inr rfl) (.inr rfl)
                  (.inr rfl) (.inr rfl) (.inr rfl) (.inr rfl) (.inr rfl) (.inr rfl) (.inr rfl) (.inr rfl) (.inr rfl)
                      (.inr rfl) (.inr rfl) (.inr rfl) (.inr rfl) (.inr rfl) (.inr rfl) (.inr rfl) (.inr rfl) (.inr
                          rfl) (.inr rfl) (.inr rfl) (.inr rfl)
      exact Within.refl _
    refine Within.ite ?_ ?_
    · refine Within.trans ?_ (Within.mono (State.retire_within ..) rfl)
      exact hx2
    · refine Within.trans ?_ (Within.mono (State.ostRefresh_within ..) rfl)
      exact hx2
  · extract_lets +onlyGivenNames -merge -underBinder x3
    have hx3 : Within 0x20218089011a345828f [] s x3 := by
      unfold x3
      exact (Within.mono (State.againBad_within ..) rfl)
    split
    · exact hx3
    · extract_lets +onlyGivenNames -merge -underBinder x4 x5
      have hx5 : Within 0x20218089011a345828f [] s x5 := by
        unfold x5
        refine Within.upd ?_ rfl rfl (.inr rfl) (.inr rfl) (.inr rfl) (.inr rfl) (.inr rfl) (.inr rfl) (.inr rfl)
            (.inr rfl) (.inr rfl) (.inr rfl) (.inr rfl) (.inr rfl) (.inr rfl) (.inr rfl) (.inr rfl) (.inr rfl) (.inr
                rfl) (.inr rfl) (.inl rfl) (.inr rfl) (.inr rfl) (.inr rfl) (.inr rfl) (.inr rfl) (.inr rfl) (.inr
                    rfl) (.inr rfl) (.inr rfl) (.inr rfl) (.inr rfl) (.inr rfl) (.inr rfl) (.inr rfl) (.inr rfl)
                        (.inr rfl) (.inr rfl) (.inr rfl) (.inr rfl) (.inr rfl) (.inr rfl) (.inr rfl) (.inr rfl) (.inr
                            rfl) (.inr rfl) (.inr rfl) (.inr rfl) (.inr rfl)
        exact hx3
      extract_lets +onlyGivenNames -merge -underBinder x6
      extract_lets +onlyGivenNames -merge -underBinder x7
      extract_lets +onlyGivenNames -merge -underBinder x8
      extract_lets +onlyGivenNames -merge -underBinder x9
      split
      · unfold x8
        refine Within.trans ?_ (Within.mono (State.recheck_within ..) rfl)
        refine Within.trans ?_ (Within.mono (State.retire_within ..) rfl)
        exact hx5
      · unfold x9
        refine Within.trans ?_ (Within.mono (State.retire_within ..) rfl)
        unfold x8
        refine Within.trans ?_ (Within.mono (State.recheck_within ..) rfl)
        refine Within.trans ?_ (Within.mono (State.retire_within ..) rfl)
        exact hx5
      · extract_lets +onlyGivenNames -merge -underBinder x10
        have hx10 : Within 0x20218089011a345828f [] s x10 := by
          unfold x10
          refine Within.trans ?_ (Within.mono (State.recheck_within ..) rfl)
          unfold x9
          refine Within.trans ?_ (Within.mono (State.retire_within ..) rfl)
          exact hx5
        refine Within.ite ?_ ?_
        · exact hx10
        · refine Within.trans ?_ (Within.mono (State.againBad_within ..) rfl)
          exact hx10
      · split
        · unfold x9
          refine Within.trans ?_ (Within.mono (State.retire_within ..) rfl)
          exact hx5
        · unfold x8
          refine Within.trans ?_ (Within.mono (State.recheck_within ..) rfl)
          refine Within.trans ?_ (Within.mono (State.retire_within ..) rfl)
          exact hx5
        · unfold x9
          refine Within.trans ?_ (Within.mono (State.retire_within ..) rfl)
          unfold x8
          refine Within.trans ?_ (Within.mono (State.recheck_within ..) rfl)
          refine Within.trans ?_ (Within.mono (State.retire_within ..) rfl)
          exact hx5

theorem execBistDone_within (dt : Nat) (lane : Fin 32) (ownerFails : Bool) (checkerFails : Bool) (third :
    ThirdResult) (s : State) :
    Ends (Within 0x1fffffffd4fffffffeff []) s (execBistDone dt lane ownerFails checkerFails third s) := by
  unfold execBistDone
  refine Ends.next ?_
  refine Within.trans ?_ (Within.mono (State.trialOut_within ..) rfl)
  refine Within.trans ?_ (Within.mono (State.bistEnds_within ..) rfl)
  exact (Within.mono (State.elapse_within ..) rfl)

end Sys2Proof.Machine
end

