-- ==== Sys2Proof/Laws/FrameBalance.lean ====
section
/-! SUPPORT. What each operation of Machine/Balance.lean may change (Laws/Within.lean). -/

namespace Sys2Proof.Machine

open Sys2Proof

theorem State.balStep_within (s : State) (d : StepDue) :
    Within 0x40000000020080200 [] s (State.balStep s d) := by
  unfold State.balStep
  extract_lets +onlyGivenNames -merge -underBinder x1
  extract_lets +onlyGivenNames -merge -underBinder x2
  extract_lets +onlyGivenNames -merge -underBinder x3
  extract_lets +onlyGivenNames -merge -underBinder x4 x5
  have hx5 : Within 0x40000000020080200 [] s x5 := by
    unfold x5
    refine Within.upd ?_ rfl rfl (.inr rfl) (.inr rfl) (.inr rfl) (.inr rfl) (.inr rfl) (.inr rfl) (.inr rfl) (.inr
        rfl) (.inr rfl) (.inr rfl) (.inr rfl) (.inr rfl) (.inr rfl) (.inr rfl) (.inr rfl) (.inr rfl) (.inr rfl) (.inr
            rfl) (.inr rfl) (.inl rfl) (.inr rfl) (.inr rfl) (.inr rfl) (.inr rfl) (.inr rfl) (.inr rfl) (.inr rfl)
                (.inr rfl) (.inr rfl) (.inr rfl) (.inr rfl) (.inr rfl) (.inr rfl) (.inr rfl) (.inr rfl) (.inr rfl)
                    (.inr rfl) (.inr rfl) (.inr rfl) (.inr rfl) (.inr rfl) (.inr rfl) (.inr rfl) (.inr rfl) (.inr
                        rfl) (.inr rfl) (.inr rfl)
    exact Within.refl _
  extract_lets +onlyGivenNames -merge -underBinder x6
  have hx6 : Within 0x40000000020080200 [] s x6 := by
    unfold x6
    refine Within.trans ?_ (Within.kind (State.wrb_within ..) rfl .bal rfl rfl)
    refine Within.trans ?_ (Within.kind (State.wrn_within ..) rfl .bal rfl rfl)
    exact hx5
  refine Within.ite ?_ ?_
  · refine Within.trans ?_ (Within.mono (State.mirrorItem_within ..) rfl)
    exact hx6
  · exact hx6

theorem State.balTick_within (s : State) :
    Within 0x40800000080080000 [] s (State.balTick s) := by
  unfold State.balTick
  extract_lets +onlyGivenNames -merge -underBinder x1
  extract_lets +onlyGivenNames -merge -underBinder x2
  extract_lets +onlyGivenNames -merge -underBinder x3
  extract_lets +onlyGivenNames -merge -underBinder x4
  extract_lets +onlyGivenNames -merge -underBinder x5
  extract_lets +onlyGivenNames -merge -underBinder x6
  extract_lets +onlyGivenNames -merge -underBinder x7 x8
  have hx8 : Within 0x40800000080080000 [] s x8 := by
    unfold x8
    refine Within.upd ?_ rfl rfl (.inr rfl) (.inr rfl) (.inr rfl) (.inr rfl) (.inr rfl) (.inr rfl) (.inr rfl) (.inr
        rfl) (.inr rfl) (.inr rfl) (.inr rfl) (.inr rfl) (.inr rfl) (.inr rfl) (.inr rfl) (.inr rfl) (.inr rfl) (.inr
            rfl) (.inr rfl) (.inl rfl) (.inr rfl) (.inr rfl) (.inr rfl) (.inr rfl) (.inr rfl) (.inr rfl) (.inr rfl)
                (.inr rfl) (.inr rfl) (.inr rfl) (.inr rfl) (.inr rfl) (.inr rfl) (.inr rfl) (.inr rfl) (.inr rfl)
                    (.inr rfl) (.inr rfl) (.inr rfl) (.inr rfl) (.inr rfl) (.inr rfl) (.inr rfl) (.inr rfl) (.inr
                        rfl) (.inr rfl) (.inr rfl)
    exact Within.refl _
  extract_lets +onlyGivenNames -merge -underBinder x9
  have hx9 : Within 0x40800000080080000 [] s x9 := by
    unfold x9
    refine Within.trans ?_ (Within.kind (State.wrf_within ..) rfl .bal rfl rfl)
    refine Within.trans ?_ (Within.kind (State.wrb_within ..) rfl .bal rfl rfl)
    exact hx8
  refine Within.ite ?_ ?_
  · exact hx9
  · extract_lets +onlyGivenNames -merge -underBinder x10
    have hx10 : Within 0x40800000080080000 [] s x10 := by
      unfold x10
      split
      · refine Within.trans ?_ (Within.kind (State.wr64_within ..) rfl .bal rfl rfl)
        exact hx9
      · exact hx9
    extract_lets +onlyGivenNames -merge -underBinder x11
    have hx11 : Within 0x40800000080080000 [] s x11 := by
      unfold x11
      refine Within.foldl ?_ (fun t12 a13 h14 => ?_)
      · exact hx10
      · refine Within.trans ?_ (Within.kind (State.wrn_within ..) rfl .bal rfl rfl)
        exact h14
    refine Within.ite ?_ ?_
    · exact hx11
    · split
      · extract_lets +onlyGivenNames -merge -underBinder x15
        have hx15 : Within 0x40800000080080000 [] s x15 := by
          unfold x15
          refine Within.trans ?_ (Within.mono (State.wayEntry_within ..) rfl)
          exact hx11
        refine Within.ite ?_ ?_
        · refine Within.trans ?_ (Within.kind (State.incBy_within ..) rfl .way rfl rfl)
          exact hx15
        · exact hx15

theorem State.block_within (s : State) (c : Nat) (cmd : Int) (rb : Int) :
    Within 0x41008000100080080 [] s (State.block s c cmd rb) := by
  unfold State.block
  extract_lets +onlyGivenNames -merge -underBinder x1 x2
  have hx2 : Within 0x41008000100080080 [] s x2 := by
    unfold x2
    refine Within.upd ?_ rfl rfl (.inr rfl) (.inr rfl) (.inr rfl) (.inr rfl) (.inr rfl) (.inr rfl) (.inr rfl) (.inr
        rfl) (.inr rfl) (.inr rfl) (.inr rfl) (.inr rfl) (.inr rfl) (.inr rfl) (.inr rfl) (.inr rfl) (.inr rfl) (.inr
            rfl) (.inr rfl) (.inl rfl) (.inr rfl) (.inr rfl) (.inr rfl) (.inr rfl) (.inr rfl) (.inr rfl) (.inr rfl)
                (.inr rfl) (.inr rfl) (.inr rfl) (.inr rfl) (.inr rfl) (.inr rfl) (.inr rfl) (.inr rfl) (.inr rfl)
                    (.inr rfl) (.inr rfl) (.inr rfl) (.inr rfl) (.inr rfl) (.inr rfl) (.inr rfl) (.inr rfl) (.inr
                        rfl) (.inr rfl) (.inr rfl)
    exact Within.refl _
  extract_lets +onlyGivenNames -merge -underBinder x3
  have hx3 : Within 0x41008000100080080 [] s x3 := by
    unfold x3
    refine Within.trans ?_ (Within.kind (State.wrb_within ..) rfl .bal rfl rfl)
    exact hx2
  extract_lets +onlyGivenNames -merge -underBinder x4
  have hx4 : Within 0x41008000100080080 [] s x4 := by
    unfold x4
    refine Within.trans ?_ (Within.kind (State.wrf_within ..) rfl .bal rfl rfl)
    refine Within.trans ?_ (Within.kind (State.flag_within ..) rfl .bal rfl rfl)
    refine Within.trans ?_ (Within.kind (State.inc_within ..) rfl .bal rfl rfl)
    exact hx3
  refine Within.trans ?_ (Within.mono (State.record_within ..) rfl)
  exact hx4

theorem State.readback_within (s : State) (d : StepDue) (c : Nat) :
    Within 0x41008000100080080 [] s (State.readback s d c) := by
  unfold State.readback
  extract_lets +onlyGivenNames -merge -underBinder x1
  extract_lets +onlyGivenNames -merge -underBinder x2
  refine Within.ite ?_ ?_
  · exact Within.refl _
  · extract_lets +onlyGivenNames -merge -underBinder x3
    refine Within.ite ?_ ?_
    · refine Within.upd ?_ rfl rfl (.inr rfl) (.inr rfl) (.inr rfl) (.inr rfl) (.inr rfl) (.inr rfl) (.inr rfl) (.inr
        rfl) (.inr rfl) (.inr rfl) (.inr rfl) (.inr rfl) (.inr rfl) (.inr rfl) (.inr rfl) (.inr rfl) (.inr rfl) (.inr
            rfl) (.inr rfl) (.inl rfl) (.inr rfl) (.inr rfl) (.inr rfl) (.inr rfl) (.inr rfl) (.inr rfl) (.inr rfl)
                (.inr rfl) (.inr rfl) (.inr rfl) (.inr rfl) (.inr rfl) (.inr rfl) (.inr rfl) (.inr rfl) (.inr rfl)
                    (.inr rfl) (.inr rfl) (.inr rfl) (.inr rfl) (.inr rfl) (.inr rfl) (.inr rfl) (.inr rfl) (.inr
                        rfl) (.inr rfl) (.inr rfl)
      exact Within.refl _
    · extract_lets +onlyGivenNames -merge -underBinder x4
      refine Within.ite ?_ ?_
      · exact (Within.mono (State.block_within ..) rfl)
      · refine Within.upd ?_ rfl rfl (.inr rfl) (.inr rfl) (.inr rfl) (.inr rfl) (.inr rfl) (.inr rfl) (.inr rfl)
          (.inr rfl) (.inr rfl) (.inr rfl) (.inr rfl) (.inr rfl) (.inr rfl) (.inr rfl) (.inr rfl) (.inr rfl) (.inr
              rfl) (.inr rfl) (.inr rfl) (.inl rfl) (.inr rfl) (.inr rfl) (.inr rfl) (.inr rfl) (.inr rfl) (.inr rfl)
                  (.inr rfl) (.inr rfl) (.inr rfl) (.inr rfl) (.inr rfl) (.inr rfl) (.inr rfl) (.inr rfl) (.inr rfl)
                      (.inr rfl) (.inr rfl) (.inr rfl) (.inr rfl) (.inr rfl) (.inr rfl) (.inr rfl) (.inr rfl) (.inr
                          rfl) (.inr rfl) (.inr rfl) (.inr rfl)
        exact Within.refl _

theorem State.readbackAll_within (s : State) (d : StepDue) :
    Within 0x41008000100080080 [] s (State.readbackAll s d) := by
  unfold State.readbackAll
  refine Within.ite ?_ ?_
  · refine Within.foldl ?_ (fun t1 a2 h3 => ?_)
    · exact Within.refl _
    · refine Within.trans ?_ (Within.mono (State.readback_within ..) rfl)
      exact h3
  · exact Within.refl _

theorem State.unblock_within (s : State) (f : Nat → Bool) :
    Within 0x40000000000080000 [] s (State.unblock s f) := by
  unfold State.unblock
  extract_lets +onlyGivenNames -merge -underBinder x1
  have hx1 : Within 0x40000000000080000 [] s x1 := by
    unfold x1
    refine Within.foldl ?_ (fun t2 a3 h4 => ?_)
    · exact Within.refl _
    · refine Within.trans ?_ (Within.kind (State.wrb_within ..) rfl .bal rfl rfl)
      exact h4
  extract_lets +onlyGivenNames -merge -underBinder x5 x6
  have hx6 : Within 0x40000000000080000 [] s x6 := by
    unfold x6
    refine Within.upd ?_ rfl rfl (.inr rfl) (.inr rfl) (.inr rfl) (.inr rfl) (.inr rfl) (.inr rfl) (.inr rfl) (.inr
        rfl) (.inr rfl) (.inr rfl) (.inr rfl) (.inr rfl) (.inr rfl) (.inr rfl) (.inr rfl) (.inr rfl) (.inr rfl) (.inr
            rfl) (.inr rfl) (.inl rfl) (.inr rfl) (.inr rfl) (.inr rfl) (.inr rfl) (.inr rfl) (.inr rfl) (.inr rfl)
                (.inr rfl) (.inr rfl) (.inr rfl) (.inr rfl) (.inr rfl) (.inr rfl) (.inr rfl) (.inr rfl) (.inr rfl)
                    (.inr rfl) (.inr rfl) (.inr rfl) (.inr rfl) (.inr rfl) (.inr rfl) (.inr rfl) (.inr rfl) (.inr
                        rfl) (.inr rfl) (.inr rfl)
    exact hx1
  refine Within.trans ?_ (Within.kind (State.wrf_within ..) rfl .bal rfl rfl)
  exact hx6

theorem execUnblock_within (dt : Nat) (ch : Fin 512) (s : State) :
    Ends (Within 0x4000000000008000e []) s (execUnblock dt ch s) := by
  unfold execUnblock
  refine Ends.next ?_
  refine Within.hostDo ?_ (fun t1 h2 => ?_)
  · exact (Within.mono (State.elapse_within ..) rfl)
  · refine Within.trans ?_ (Within.mono (State.unblock_within ..) rfl)
    exact h2

theorem execUnblockAll_within (dt : Nat) (s : State) :
    Ends (Within 0x4000000000008000e []) s (execUnblockAll dt s) := by
  unfold execUnblockAll
  refine Ends.next ?_
  refine Within.hostDo ?_ (fun t1 h2 => ?_)
  · exact (Within.mono (State.elapse_within ..) rfl)
  · refine Within.trans ?_ (Within.mono (State.unblock_within ..) rfl)
    exact h2

theorem State.toneStep_within (s : State) (te : Nat) (c : Nat) (m : Nat) :
    Within 0x40008000000080080 [] s (State.toneStep s te c m) := by
  unfold State.toneStep
  extract_lets +onlyGivenNames -merge -underBinder x1
  extract_lets +onlyGivenNames -merge -underBinder x2
  extract_lets +onlyGivenNames -merge -underBinder x3
  split
  · extract_lets +onlyGivenNames -merge -underBinder x4 x5
    have hx5 : Within 0x40008000000080080 [] s x5 := by
      unfold x5
      refine Within.upd ?_ rfl rfl (.inr rfl) (.inr rfl) (.inr rfl) (.inr rfl) (.inr rfl) (.inr rfl) (.inr rfl) (.inr
          rfl) (.inr rfl) (.inr rfl) (.inr rfl) (.inr rfl) (.inr rfl) (.inr rfl) (.inr rfl) (.inr rfl) (.inr rfl)
              (.inr rfl) (.inr rfl) (.inl rfl) (.inr rfl) (.inr rfl) (.inr rfl) (.inr rfl) (.inr rfl) (.inr rfl)
                  (.inr rfl) (.inr rfl) (.inr rfl) (.inr rfl) (.inr rfl) (.inr rfl) (.inr rfl) (.inr rfl) (.inr rfl)
                      (.inr rfl) (.inr rfl) (.inr rfl) (.inr rfl) (.inr rfl) (.inr rfl) (.inr rfl) (.inr rfl) (.inr
                          rfl) (.inr rfl) (.inr rfl) (.inr rfl)
      exact Within.refl _
    extract_lets +onlyGivenNames -merge -underBinder x6
    refine Within.ite ?_ ?_
    · refine Within.trans ?_ (Within.kind (State.flag_within ..) rfl .bal rfl rfl)
      refine Within.trans ?_ (Within.kind (State.inc_within ..) rfl .bal rfl rfl)
      exact hx5
    · exact hx5
  · extract_lets +onlyGivenNames -merge -underBinder x7 x8
    have hx8 : Within 0x40008000000080080 [] s x8 := by
      unfold x8
      refine Within.upd ?_ rfl rfl (.inr rfl) (.inr rfl) (.inr rfl) (.inr rfl) (.inr rfl) (.inr rfl) (.inr rfl) (.inr
          rfl) (.inr rfl) (.inr rfl) (.inr rfl) (.inr rfl) (.inr rfl) (.inr rfl) (.inr rfl) (.inr rfl) (.inr rfl)
              (.inr rfl) (.inr rfl) (.inl rfl) (.inr rfl) (.inr rfl) (.inr rfl) (.inr rfl) (.inr rfl) (.inr rfl)
                  (.inr rfl) (.inr rfl) (.inr rfl) (.inr rfl) (.inr rfl) (.inr rfl) (.inr rfl) (.inr rfl) (.inr rfl)
                      (.inr rfl) (.inr rfl) (.inr rfl) (.inr rfl) (.inr rfl) (.inr rfl) (.inr rfl) (.inr rfl) (.inr
                          rfl) (.inr rfl) (.inr rfl) (.inr rfl)
      exact Within.refl _
    refine Within.trans ?_ (Within.kind (State.flag_within ..) rfl .bal rfl rfl)
    refine Within.trans ?_ (Within.kind (State.inc_within ..) rfl .bal rfl rfl)
    exact hx8

theorem execImpedancePublished_within (dt : Nat) (s : State) :
    Ends (Within 0x4000800008008008e []) s (execImpedancePublished dt s) := by
  unfold execImpedancePublished
  extract_lets +onlyGivenNames -merge -underBinder x1
  have hx1 : Within 0x4000800008008008e [] s x1 := by
    unfold x1
    exact (Within.mono (State.elapse_within ..) rfl)
  split
  · refine Ends.next ?_
    exact hx1
  · extract_lets +onlyGivenNames -merge -underBinder x2
    extract_lets +onlyGivenNames -merge -underBinder x3 x4
    have hx4 : Within 0x4000800008008008e [] s x4 := by
      unfold x4
      refine Within.upd ?_ rfl rfl (.inr rfl) (.inr rfl) (.inr rfl) (.inr rfl) (.inr rfl) (.inr rfl) (.inr rfl) (.inr
          rfl) (.inr rfl) (.inr rfl) (.inr rfl) (.inr rfl) (.inr rfl) (.inr rfl) (.inr rfl) (.inr rfl) (.inr rfl)
              (.inr rfl) (.inr rfl) (.inl rfl) (.inr rfl) (.inr rfl) (.inr rfl) (.inr rfl) (.inr rfl) (.inr rfl)
                  (.inr rfl) (.inr rfl) (.inr rfl) (.inr rfl) (.inr rfl) (.inr rfl) (.inr rfl) (.inr rfl) (.inr rfl)
                      (.inr rfl) (.inr rfl) (.inr rfl) (.inr rfl) (.inr rfl) (.inr rfl) (.inr rfl) (.inr rfl) (.inr
                          rfl) (.inr rfl) (.inr rfl) (.inr rfl)
      exact hx1
    extract_lets +onlyGivenNames -merge -underBinder x5
    have hx5 : Within 0x4000800008008008e [] s x5 := by
      unfold x5
      refine Within.foldl ?_ (fun t6 a7 h8 => ?_)
      · exact hx4
      · refine Within.foldl ?_ (fun t9 a10 h11 => ?_)
        · exact h8
        · refine Within.trans ?_ (Within.mono (State.toneStep_within ..) rfl)
          exact h11
    refine Ends.next ?_
    refine Within.trans ?_ (Within.mono (State.wayEntry_within ..) rfl)
    exact hx5

theorem State.chipBoundary_within (s : State) :
    Within 0x80000 [] s (State.chipBoundary s) := by
  unfold State.chipBoundary
  refine Within.ite ?_ ?_
  · refine Within.upd ?_ rfl rfl (.inr rfl) (.inr rfl) (.inr rfl) (.inr rfl) (.inr rfl) (.inr rfl) (.inr rfl) (.inr
      rfl) (.inr rfl) (.inr rfl) (.inr rfl) (.inr rfl) (.inr rfl) (.inr rfl) (.inr rfl) (.inr rfl) (.inr rfl) (.inr
          rfl) (.inr rfl) (.inl rfl) (.inr rfl) (.inr rfl) (.inr rfl) (.inr rfl) (.inr rfl) (.inr rfl) (.inr rfl)
              (.inr rfl) (.inr rfl) (.inr rfl) (.inr rfl) (.inr rfl) (.inr rfl) (.inr rfl) (.inr rfl) (.inr rfl)
                  (.inr rfl) (.inr rfl) (.inr rfl) (.inr rfl) (.inr rfl) (.inr rfl) (.inr rfl) (.inr rfl) (.inr rfl)
                      (.inr rfl) (.inr rfl)
    exact Within.refl _
  · exact Within.refl _

theorem State.istrSample_within (s : State) (tick : Nat) (ma : Option Rat) :
    Within 0x80000 [] s (State.istrSample s tick ma) := by
  unfold State.istrSample
  refine Within.ite ?_ ?_
  · refine Within.upd ?_ rfl rfl (.inr rfl) (.inr rfl) (.inr rfl) (.inr rfl) (.inr rfl) (.inr rfl) (.inr rfl) (.inr
      rfl) (.inr rfl) (.inr rfl) (.inr rfl) (.inr rfl) (.inr rfl) (.inr rfl) (.inr rfl) (.inr rfl) (.inr rfl) (.inr
          rfl) (.inr rfl) (.inl rfl) (.inr rfl) (.inr rfl) (.inr rfl) (.inr rfl) (.inr rfl) (.inr rfl) (.inr rfl)
              (.inr rfl) (.inr rfl) (.inr rfl) (.inr rfl) (.inr rfl) (.inr rfl) (.inr rfl) (.inr rfl) (.inr rfl)
                  (.inr rfl) (.inr rfl) (.inr rfl) (.inr rfl) (.inr rfl) (.inr rfl) (.inr rfl) (.inr rfl) (.inr rfl)
                      (.inr rfl) (.inr rfl)
    exact Within.refl _
  · exact Within.refl _

theorem State.zselLatch_within (s : State) (ch : Nat) :
    Within 0x40000000000000000 [] s (State.zselLatch s ch) := by
  unfold State.zselLatch
  extract_lets +onlyGivenNames -merge -underBinder x1
  have hx1 : Within 0x40000000000000000 [] s x1 := by
    unfold x1
    exact (Within.kind (State.wrn_within ..) rfl .bal rfl rfl)
  extract_lets +onlyGivenNames -merge -underBinder x2
  extract_lets +onlyGivenNames -merge -underBinder x3
  have hx3 : Within 0x40000000000000000 [] s x3 := by
    unfold x3
    refine Within.foldl ?_ (fun t4 a5 h6 => ?_)
    · exact hx1
    · refine Within.trans ?_ (Within.kind (State.wri_within ..) rfl .bal rfl rfl)
      refine Within.trans ?_ (Within.kind (State.wri_within ..) rfl .bal rfl rfl)
      exact h6
  extract_lets +onlyGivenNames -merge -underBinder x7
  have hx7 : Within 0x40000000000000000 [] s x7 := by
    unfold x7
    refine Within.trans ?_ (Within.kind (State.wrn_within ..) rfl .bal rfl rfl)
    exact hx3
  refine Within.trans ?_ (Within.kind (State.wr64_within ..) rfl .bal rfl rfl)
  exact hx7

theorem execZselLatch_within (dt : Nat) (ch : Fin 512) (s : State) :
    Ends (Within 0x4000000000000000e []) s (execZselLatch dt ch s) := by
  unfold execZselLatch
  refine Ends.next ?_
  refine Within.hostDo ?_ (fun t1 h2 => ?_)
  · exact (Within.mono (State.elapse_within ..) rfl)
  · refine Within.trans ?_ (Within.mono (State.zselLatch_within ..) rfl)
    exact h2

end Sys2Proof.Machine
end

