-- ==== Sys2Proof/Laws/FrameBitstream.lean ====
section
/-! SUPPORT. What each operation of Machine/Bitstream.lean may change (Laws/Within.lean). -/

namespace Sys2Proof.Machine

open Sys2Proof

theorem State.invalidShow_within (s : State) :
    Within 0x6325808000181e00280 [] s (State.invalidShow s) := by
  unfold State.invalidShow
  extract_lets +onlyGivenNames -merge -underBinder x1
  extract_lets +onlyGivenNames -merge -underBinder x2
  extract_lets +onlyGivenNames -merge -underBinder x3
  have hx3 : Within 0x6325808000181e00280 [] s x3 := by
    unfold x3
    exact (Within.kind (State.wrn_within ..) rfl .mod rfl rfl)
  extract_lets +onlyGivenNames -merge -underBinder x4
  have hx4 : Within 0x6325808000181e00280 [] s x4 := by
    unfold x4
    refine Within.ite ?_ ?_
    · exact hx3
    · refine Within.trans ?_ (Within.kind (State.flag_within ..) rfl .mod rfl rfl)
      exact hx3
  refine Within.trans ?_ (Within.mono (State.setSource_within ..) rfl)
  exact hx4

theorem State.invalidate_within (s : State) (n : Nat) :
    Within 0x2000 [] s (State.invalidate s n) := by
  unfold State.invalidate
  exact (Within.mono (State.setModIn_within ..) rfl)

theorem State.invalidateGroup_within (s : State) (g : Nat) :
    Within 0x6325808000181e02280 [] s (State.invalidateGroup s g) := by
  unfold State.invalidateGroup
  refine Within.trans ?_ (Within.mono (State.invalidShow_within ..) rfl)
  refine Within.foldl ?_ (fun t1 a2 h3 => ?_)
  · exact Within.refl _
  · refine Within.ite ?_ ?_
    · refine Within.trans ?_ (Within.mono (State.invalidate_within ..) rfl)
      exact h3
    · exact h3

theorem State.unsampled_within (s : State) (g : Nat) (n : Nat) :
    Within 0x4000000000202000 [] s (State.unsampled s g n) := by
  unfold State.unsampled
  refine Within.ite ?_ ?_
  · exact Within.refl _
  · extract_lets +onlyGivenNames -merge -underBinder x1
    have hx1 : Within 0x4000000000202000 [] s x1 := by
      unfold x1
      exact (Within.kind (State.incBy_within ..) rfl .mod rfl rfl)
    extract_lets +onlyGivenNames -merge -underBinder x2 x3
    have hx3 : Within 0x4000000000202000 [] s x3 := by
      unfold x3
      refine Within.ite ?_ ?_
      · refine Within.upd ?_ rfl rfl (.inr rfl) (.inr rfl) (.inr rfl) (.inr rfl) (.inr rfl) (.inr rfl) (.inr rfl)
          (.inr rfl) (.inr rfl) (.inr rfl) (.inr rfl) (.inr rfl) (.inr rfl) (.inl rfl) (.inr rfl) (.inr rfl) (.inr
              rfl) (.inr rfl) (.inr rfl) (.inr rfl) (.inr rfl) (.inr rfl) (.inr rfl) (.inr rfl) (.inr rfl) (.inr rfl)
                  (.inr rfl) (.inr rfl) (.inr rfl) (.inr rfl) (.inr rfl) (.inr rfl) (.inr rfl) (.inr rfl) (.inr rfl)
                      (.inr rfl) (.inr rfl) (.inr rfl) (.inr rfl) (.inr rfl) (.inr rfl) (.inr rfl) (.inr rfl) (.inr
                          rfl) (.inr rfl) (.inr rfl) (.inr rfl)
        exact hx1
      · exact hx1
    extract_lets +onlyGivenNames -merge -underBinder x4
    have hx4 : Within 0x4000000000202000 [] s x4 := by
      unfold x4
      refine Within.foldl ?_ (fun t5 a6 h7 => ?_)
      · exact hx3
      · refine Within.ite ?_ ?_
        · refine Within.trans ?_ (Within.mono (State.setModIn_within ..) rfl)
          exact h7
        · exact h7
    refine Within.foldl ?_ (fun t8 a9 h10 => ?_)
    · exact hx4
    · refine Within.ite ?_ ?_
      · refine Within.trans ?_ (Within.mono (State.setSlot_within ..) rfl)
        exact h10
      · exact h10

theorem State.clockLoss_within (s : State) (g : Nat) (unsampled : Nat) :
    Within 0x6325808000181e02280 [] s (State.clockLoss s g unsampled) := by
  unfold State.clockLoss
  extract_lets +onlyGivenNames -merge -underBinder x1
  have hx1 : Within 0x6325808000181e02280 [] s x1 := by
    unfold x1
    refine Within.trans ?_ (Within.kind (State.flag_within ..) rfl .mod rfl rfl)
    exact (Within.kind (State.incf_within ..) rfl .mod rfl rfl)
  extract_lets +onlyGivenNames -merge -underBinder x2
  have hx2 : Within 0x6325808000181e02280 [] s x2 := by
    unfold x2
    refine Within.trans ?_ (Within.kind (State.wrb_within ..) rfl .mod rfl rfl)
    exact hx1
  extract_lets +onlyGivenNames -merge -underBinder x3 x4 x5
  have hx3 : Within 0x6325808000181e02280 [] s x3 := by
    unfold x3
    refine Within.trans ?_ (Within.kind (State.wrb_within ..) rfl .mod rfl rfl)
    exact hx2
  have hx5 : Within 0x6325808000181e02280 [] s x5 := by
    unfold x5
    refine Within.ite ?_ ?_
    · exact hx2
    · refine Within.upd ?_ rfl rfl (.inr rfl) (.inr rfl) (.inr rfl) (.inr rfl) (.inr rfl) (.inr rfl) (.inr rfl) (.inr
        rfl) (.inr rfl) (.inr rfl) (.inr rfl) (.inr rfl) (.inr rfl) (.inl rfl) (.inr rfl) (.inr rfl) (.inr rfl) (.inr
            rfl) (.inr rfl) (.inr rfl) (.inr rfl) (.inr rfl) (.inr rfl) (.inr rfl) (.inr rfl) (.inr rfl) (.inr rfl)
                (.inr rfl) (.inr rfl) (.inr rfl) (.inr rfl) (.inr rfl) (.inr rfl) (.inr rfl) (.inr rfl) (.inr rfl)
                    (.inr rfl) (.inr rfl) (.inr rfl) (.inr rfl) (.inr rfl) (.inr rfl) (.inr rfl) (.inr rfl) (.inr
                        rfl) (.inr rfl) (.inr rfl)
      exact hx3
  refine Within.trans ?_ (Within.mono (State.invalidateGroup_within ..) rfl)
  refine Within.trans ?_ (Within.mono (State.unsampled_within ..) rfl)
  exact hx5

theorem State.stuckRun_within (s : State) (n : Nat) :
    Within 0x6325808000181e02280 [] s (State.stuckRun s n) := by
  unfold State.stuckRun
  extract_lets +onlyGivenNames -merge -underBinder x1
  extract_lets +onlyGivenNames -merge -underBinder x2 x3
  have hx3 : Within 0x6325808000181e02280 [] s x3 := by
    unfold x3
    refine Within.ite ?_ ?_
    · exact (Within.mono (State.setModIn_within ..) rfl)
    · exact Within.refl _
  refine Within.trans ?_ (Within.mono (State.invalidShow_within ..) rfl)
  refine Within.trans ?_ (Within.mono (State.invalidate_within ..) rfl)
  refine Within.trans ?_ (Within.kind (State.flag_within ..) rfl .mod rfl rfl)
  refine Within.trans ?_ (Within.kind (State.inc_within ..) rfl .mod rfl rfl)
  exact hx3

theorem State.showDelays_within (s : State) :
    Within 0x4000000000000100 [] s (State.showDelays s) := by
  unfold State.showDelays
  refine Within.foldl ?_ (fun t1 a2 h3 => ?_)
  · exact Within.refl _
  · refine Within.ite ?_ ?_
    · split
      rename_i y4 y5 e6
      have hy5 : Within 0x4000000000000100 [] s y5 := by
        refine Within.snd e6 ?_
        refine Within.trans ?_ (Within.mono (State.draw_within ..) rfl)
        exact h3
      refine Within.trans ?_ (Within.kind (State.wrf_within ..) rfl .mod rfl rfl)
      exact hy5
    · refine Within.trans ?_ (Within.kind (State.wrf_within ..) rfl .mod rfl rfl)
      exact h3

theorem execMckselChange_within (dt : Nat) (toB : Bool) (unsampled0 : Nat) (unsampled1 : Nat) (s : State) :
    Ends (Within 0x6325808000181e0238e []) s (execMckselChange dt toB unsampled0 unsampled1 s) := by
  unfold execMckselChange
  extract_lets +onlyGivenNames -merge -underBinder x1
  have hx1 : Within 0x6325808000181e0238e [] s x1 := by
    unfold x1
    exact (Within.mono (State.elapse_within ..) rfl)
  extract_lets +onlyGivenNames -merge -underBinder x2 x3
  have hx3 : Within 0x6325808000181e0238e [] s x3 := by
    unfold x3
    refine Within.upd ?_ rfl rfl (.inr rfl) (.inr rfl) (.inr rfl) (.inr rfl) (.inr rfl) (.inr rfl) (.inr rfl) (.inr
        rfl) (.inr rfl) (.inr rfl) (.inr rfl) (.inr rfl) (.inr rfl) (.inl rfl) (.inr rfl) (.inr rfl) (.inr rfl) (.inr
            rfl) (.inr rfl) (.inr rfl) (.inr rfl) (.inr rfl) (.inr rfl) (.inr rfl) (.inr rfl) (.inr rfl) (.inr rfl)
                (.inr rfl) (.inr rfl) (.inr rfl) (.inr rfl) (.inr rfl) (.inr rfl) (.inr rfl) (.inr rfl) (.inr rfl)
                    (.inr rfl) (.inr rfl) (.inr rfl) (.inr rfl) (.inr rfl) (.inr rfl) (.inr rfl) (.inr rfl) (.inr
                        rfl) (.inr rfl) (.inr rfl)
    exact hx1
  extract_lets +onlyGivenNames -merge -underBinder x4
  have hx4 : Within 0x6325808000181e0238e [] s x4 := by
    unfold x4
    refine Within.trans ?_ (Within.kind (State.wrb_within ..) rfl .mod rfl rfl)
    exact hx3
  refine Ends.ite ?_ ?_
  · refine Ends.next ?_
    exact hx4
  · extract_lets +onlyGivenNames -merge -underBinder x5
    have hx5 : Within 0x6325808000181e0238e [] s x5 := by
      unfold x5
      refine Within.trans ?_ (Within.kind (State.flag_within ..) rfl .mod rfl rfl)
      refine Within.trans ?_ (Within.kind (State.incf_within ..) rfl .mod rfl rfl)
      exact hx4
    extract_lets +onlyGivenNames -merge -underBinder x6
    have hx6 : Within 0x6325808000181e0238e [] s x6 := by
      unfold x6
      refine Within.trans ?_ (Within.mono (State.showDelays_within ..) rfl)
      refine Within.trans ?_ (Within.mono (State.unsampled_within ..) rfl)
      refine Within.trans ?_ (Within.mono (State.unsampled_within ..) rfl)
      exact hx5
    refine Ends.ite ?_ ?_
    · refine Ends.next ?_
      refine Within.foldl ?_ (fun t7 a8 h9 => ?_)
      · exact hx6
      · refine Within.ite ?_ ?_
        · exact h9
        · extract_lets +onlyGivenNames -merge -underBinder x10 x11
          have hx11 : Within 0x6325808000181e0238e [] s x11 := by
            unfold x11
            refine Within.upd ?_ rfl rfl (.inr rfl) (.inr rfl) (.inr rfl) (.inr rfl) (.inr rfl) (.inr rfl) (.inr rfl)
                (.inr rfl) (.inr rfl) (.inr rfl) (.inr rfl) (.inr rfl) (.inr rfl) (.inl rfl) (.inr rfl) (.inr rfl)
                    (.inr rfl) (.inr rfl) (.inr rfl) (.inr rfl) (.inr rfl) (.inr rfl) (.inr rfl) (.inr rfl) (.inr
                        rfl) (.inr rfl) (.inr rfl) (.inr rfl) (.inr rfl) (.inr rfl) (.inr rfl) (.inr rfl) (.inr rfl)
                            (.inr rfl) (.inr rfl) (.inr rfl) (.inr rfl) (.inr rfl) (.inr rfl) (.inr rfl) (.inr rfl)
                                (.inr rfl) (.inr rfl) (.inr rfl) (.inr rfl) (.inr rfl) (.inr rfl)
            exact h9
          refine Within.trans ?_ (Within.mono (State.invalidateGroup_within ..) rfl)
          refine Within.trans ?_ (Within.kind (State.wrb_within ..) rfl .mod rfl rfl)
          exact hx11
    · refine Ends.next ?_
      exact hx6

theorem State.takeLatches_within (s : State) (g : Nat) (m : List Byte) :
    Within 0x2000 [] s (State.takeLatches s g m) := by
  unfold State.takeLatches
  refine Within.foldl ?_ (fun t1 a2 h3 => ?_)
  · exact Within.refl _
  · split
    · refine Within.ite ?_ ?_
      · refine Within.trans ?_ (Within.mono (State.setModIn_within ..) rfl)
        exact h3
      · exact h3
    · exact h3

theorem execIndexLock_within (dt : Nat) (f : TandemHead) (bytes : List Byte) (own : BitVec 68) (s : State) :
    Ends (Within 0x420800002000208e []) s (execIndexLock dt f bytes own s) := by
  unfold execIndexLock
  split
  rename_i y1 y2 e3
  have hy2 : Within 0x420800002000208e [] s y2 := by
    refine Within.snd e3 ?_
    refine Within.trans ?_ (Within.mono (State.takeFrame_within ..) rfl)
    exact (Within.mono (State.elapse_within ..) rfl)
  extract_lets +onlyGivenNames -merge -underBinder x4
  refine Ends.ite ?_ ?_
  · refine Ends.next ?_
    exact hy2
  · split
    · extract_lets +onlyGivenNames -merge -underBinder x5
      have hx5 : Within 0x420800002000208e [] s x5 := by
        unfold x5
        refine Within.trans ?_ (Within.mono (State.takeLatches_within ..) rfl)
        exact hy2
      refine Ends.next ?_
      refine Within.upd ?_ rfl rfl (.inr rfl) (.inr rfl) (.inr rfl) (.inr rfl) (.inr rfl) (.inr rfl) (.inr rfl) (.inr
          rfl) (.inr rfl) (.inr rfl) (.inr rfl) (.inr rfl) (.inr rfl) (.inl rfl) (.inr rfl) (.inr rfl) (.inr rfl)
              (.inr rfl) (.inr rfl) (.inr rfl) (.inr rfl) (.inr rfl) (.inr rfl) (.inr rfl) (.inr rfl) (.inr rfl)
                  (.inr rfl) (.inr rfl) (.inr rfl) (.inr rfl) (.inr rfl) (.inr rfl) (.inr rfl) (.inr rfl) (.inr rfl)
                      (.inr rfl) (.inr rfl) (.inr rfl) (.inr rfl) (.inr rfl) (.inr rfl) (.inr rfl) (.inr rfl) (.inr
                          rfl) (.inr rfl) (.inr rfl) (.inr rfl)
      exact hx5
    · extract_lets +onlyGivenNames -merge -underBinder x6
      refine Ends.ite ?_ ?_
      · extract_lets +onlyGivenNames -merge -underBinder x7 x8
        have hx8 : Within 0x420800002000208e [] s x8 := by
          unfold x8
          refine Within.upd ?_ rfl rfl (.inr rfl) (.inr rfl) (.inr rfl) (.inr rfl) (.inr rfl) (.inr rfl) (.inr rfl)
              (.inr rfl) (.inr rfl) (.inr rfl) (.inr rfl) (.inr rfl) (.inr rfl) (.inl rfl) (.inr rfl) (.inr rfl)
                  (.inr rfl) (.inr rfl) (.inr rfl) (.inr rfl) (.inr rfl) (.inr rfl) (.inr rfl) (.inr rfl) (.inr rfl)
                      (.inr rfl) (.inr rfl) (.inr rfl) (.inr rfl) (.inr rfl) (.inr rfl) (.inr rfl) (.inr rfl) (.inr
                          rfl) (.inr rfl) (.inr rfl) (.inr rfl) (.inr rfl) (.inr rfl) (.inr rfl) (.inr rfl) (.inr
                              rfl) (.inr rfl) (.inr rfl) (.inr rfl) (.inr rfl) (.inr rfl)
          exact hy2
        refine Ends.next ?_
        refine Within.trans ?_ (Within.kind (State.flag_within ..) rfl .mod rfl rfl)
        refine Within.trans ?_ (Within.kind (State.incf_within ..) rfl .mod rfl rfl)
        exact hx8
      · refine Ends.next ?_
        refine Within.upd ?_ rfl rfl (.inr rfl) (.inr rfl) (.inr rfl) (.inr rfl) (.inr rfl) (.inr rfl) (.inr rfl)
            (.inr rfl) (.inr rfl) (.inr rfl) (.inr rfl) (.inr rfl) (.inr rfl) (.inl rfl) (.inr rfl) (.inr rfl) (.inr
                rfl) (.inr rfl) (.inr rfl) (.inr rfl) (.inr rfl) (.inr rfl) (.inr rfl) (.inr rfl) (.inr rfl) (.inr
                    rfl) (.inr rfl) (.inr rfl) (.inr rfl) (.inr rfl) (.inr rfl) (.inr rfl) (.inr rfl) (.inr rfl)
                        (.inr rfl) (.inr rfl) (.inr rfl) (.inr rfl) (.inr rfl) (.inr rfl) (.inr rfl) (.inr rfl) (.inr
                            rfl) (.inr rfl) (.inr rfl) (.inr rfl) (.inr rfl)
        exact hy2

theorem State.wr96_within (s : State) (base : Nat) (v : Int) :
    Within 0x8000000000000000 [] s (State.wr96 s base v) := by
  unfold State.wr96
  extract_lets +onlyGivenNames -merge -underBinder x1
  refine Within.trans ?_ (Within.kind (State.wrn_within ..) rfl .chg rfl rfl)
  refine Within.trans ?_ (Within.kind (State.wrn_within ..) rfl .chg rfl rfl)
  exact (Within.kind (State.wrn_within ..) rfl .chg rfl rfl)

theorem State.inputStage_within (s : State) (n : Nat) :
    Within 0x2000 [] s (State.inputStage s n) := by
  unfold State.inputStage
  extract_lets +onlyGivenNames -merge -underBinder x1
  exact (Within.mono (State.setModIn_within ..) rfl)

theorem State.inputTick_within (s : State) (x : TickInputs) (n : Nat) :
    Within 0x8000000000002000 [] s (State.inputTick s x n) := by
  unfold State.inputTick
  extract_lets +onlyGivenNames -merge -underBinder x1
  extract_lets +onlyGivenNames -merge -underBinder x2
  extract_lets +onlyGivenNames -merge -underBinder x3
  extract_lets +onlyGivenNames -merge -underBinder x4
  extract_lets +onlyGivenNames -merge -underBinder x5
  extract_lets +onlyGivenNames -merge -underBinder x6
  extract_lets +onlyGivenNames -merge -underBinder x7
  extract_lets +onlyGivenNames -merge -underBinder x8
  have hx8 : Within 0x8000000000002000 [] s x8 := by
    unfold x8
    exact (Within.mono (State.setModIn_within ..) rfl)
  extract_lets +onlyGivenNames -merge -underBinder x9
  have hx9 : Within 0x8000000000002000 [] s x9 := by
    unfold x9
    refine Within.ite ?_ ?_
    · refine Within.trans ?_ (Within.mono (State.inputStage_within ..) rfl)
      exact hx8
    · exact hx8
  split
  · refine Within.trans ?_ (Within.mono (State.wr96_within ..) rfl)
    exact hx9
  · exact hx9

theorem State.reportLocks_within (s : State) :
    Within 0x4000000000002000 [] s (State.reportLocks s) := by
  unfold State.reportLocks
  extract_lets +onlyGivenNames -merge -underBinder x1
  have hx1 : Within 0x4000000000002000 [] s x1 := by
    unfold x1
    refine Within.foldl ?_ (fun t2 a3 h4 => ?_)
    · exact Within.refl _
    · refine Within.ite ?_ ?_
      · refine Within.trans ?_ (Within.kind (State.wrb_within ..) rfl .mod rfl rfl)
        exact h4
      · exact h4
  refine Within.upd ?_ rfl rfl (.inr rfl) (.inr rfl) (.inr rfl) (.inr rfl) (.inr rfl) (.inr rfl) (.inr rfl) (.inr
      rfl) (.inr rfl) (.inr rfl) (.inr rfl) (.inr rfl) (.inr rfl) (.inl rfl) (.inr rfl) (.inr rfl) (.inr rfl) (.inr
          rfl) (.inr rfl) (.inr rfl) (.inr rfl) (.inr rfl) (.inr rfl) (.inr rfl) (.inr rfl) (.inr rfl) (.inr rfl)
              (.inr rfl) (.inr rfl) (.inr rfl) (.inr rfl) (.inr rfl) (.inr rfl) (.inr rfl) (.inr rfl) (.inr rfl)
                  (.inr rfl) (.inr rfl) (.inr rfl) (.inr rfl) (.inr rfl) (.inr rfl) (.inr rfl) (.inr rfl) (.inr rfl)
                      (.inr rfl) (.inr rfl)
  exact hx1

theorem State.unsampStage_within (s : State) :
    Within 0x2000 [] s (State.unsampStage s) := by
  unfold State.unsampStage
  refine Within.ite ?_ ?_
  · refine Within.upd ?_ rfl rfl (.inr rfl) (.inr rfl) (.inr rfl) (.inr rfl) (.inr rfl) (.inr rfl) (.inr rfl) (.inr
      rfl) (.inr rfl) (.inr rfl) (.inr rfl) (.inr rfl) (.inr rfl) (.inl rfl) (.inr rfl) (.inr rfl) (.inr rfl) (.inr
          rfl) (.inr rfl) (.inr rfl) (.inr rfl) (.inr rfl) (.inr rfl) (.inr rfl) (.inr rfl) (.inr rfl) (.inr rfl)
              (.inr rfl) (.inr rfl) (.inr rfl) (.inr rfl) (.inr rfl) (.inr rfl) (.inr rfl) (.inr rfl) (.inr rfl)
                  (.inr rfl) (.inr rfl) (.inr rfl) (.inr rfl) (.inr rfl) (.inr rfl) (.inr rfl) (.inr rfl) (.inr rfl)
                      (.inr rfl) (.inr rfl)
    exact Within.refl _
  · exact Within.refl _

theorem State.modTick_within (s : State) (x : TickInputs) :
    Within 0x632d808000181e02280 [] s (State.modTick s x) := by
  unfold State.modTick
  refine Within.ite ?_ ?_
  · exact Within.refl _
  · extract_lets +onlyGivenNames -merge -underBinder x1
    have hx1 : Within 0x632d808000181e02280 [] s x1 := by
      unfold x1
      refine Within.foldl ?_ (fun t2 a3 h4 => ?_)
      · exact (Within.mono (State.reportLocks_within ..) rfl)
      · refine Within.trans ?_ (Within.mono (State.inputTick_within ..) rfl)
        exact h4
    extract_lets +onlyGivenNames -merge -underBinder x5 x6 x7
    have hx5 : Within 0x632d808000181e02280 [] s x5 := by
      unfold x5
      refine Within.trans ?_ (Within.mono (State.unsampStage_within ..) rfl)
      exact hx1
    have hx7 : Within 0x632d808000181e02280 [] s x7 := by
      unfold x7
      refine Within.upd ?_ rfl rfl (.inr rfl) (.inr rfl) (.inr rfl) (.inr rfl) (.inr rfl) (.inr rfl) (.inr rfl) (.inr
          rfl) (.inr rfl) (.inr rfl) (.inr rfl) (.inr rfl) (.inr rfl) (.inl rfl) (.inr rfl) (.inr rfl) (.inr rfl)
              (.inr rfl) (.inr rfl) (.inr rfl) (.inr rfl) (.inr rfl) (.inr rfl) (.inr rfl) (.inr rfl) (.inr rfl)
                  (.inr rfl) (.inr rfl) (.inr rfl) (.inr rfl) (.inr rfl) (.inr rfl) (.inr rfl) (.inr rfl) (.inr rfl)
                      (.inr rfl) (.inr rfl) (.inr rfl) (.inr rfl) (.inr rfl) (.inr rfl) (.inr rfl) (.inr rfl) (.inr
                          rfl) (.inr rfl) (.inr rfl) (.inr rfl)
      exact hx5
    extract_lets +onlyGivenNames -merge -underBinder x8
    extract_lets +onlyGivenNames -merge -underBinder x9
    have hx9 : Within 0x632d808000181e02280 [] s x9 := by
      unfold x9
      refine Within.ite ?_ ?_
      · refine Within.trans ?_ (Within.kind (State.wrb_within ..) rfl .mod rfl rfl)
        exact hx7
      · exact hx7
    extract_lets +onlyGivenNames -merge -underBinder x10
    have hx10 : Within 0x632d808000181e02280 [] s x10 := by
      unfold x10
      refine Within.ite ?_ ?_
      · refine Within.trans ?_ (Within.kind (State.wrb_within ..) rfl .mod rfl rfl)
        exact hx9
      · exact hx9
    refine Within.trans ?_ (Within.mono (State.invalidShow_within ..) rfl)
    refine Within.trans ?_ (Within.kind (State.wr64_within ..) rfl .chg rfl rfl)
    exact hx10

theorem State.crossCompare_within (s : State) (q0 : Option Int) (q1 : Option Int) :
    Within 0x6329808000181e04280 [] s (State.crossCompare s q0 q1) := by
  unfold State.crossCompare
  refine Within.ite ?_ ?_
  · extract_lets +onlyGivenNames -merge -underBinder x1 x2
    have hx2 : Within 0x6329808000181e04280 [] s x2 := by
      unfold x2
      refine Within.upd ?_ rfl rfl (.inr rfl) (.inr rfl) (.inr rfl) (.inr rfl) (.inr rfl) (.inr rfl) (.inr rfl) (.inr
          rfl) (.inr rfl) (.inr rfl) (.inr rfl) (.inr rfl) (.inr rfl) (.inr rfl) (.inl rfl) (.inr rfl) (.inr rfl)
              (.inr rfl) (.inr rfl) (.inr rfl) (.inr rfl) (.inr rfl) (.inr rfl) (.inr rfl) (.inr rfl) (.inr rfl)
                  (.inr rfl) (.inr rfl) (.inr rfl) (.inr rfl) (.inr rfl) (.inr rfl) (.inr rfl) (.inr rfl) (.inr rfl)
                      (.inr rfl) (.inr rfl) (.inr rfl) (.inr rfl) (.inr rfl) (.inr rfl) (.inr rfl) (.inr rfl) (.inr
                          rfl) (.inr rfl) (.inr rfl) (.inr rfl)
      exact Within.refl _
    refine Within.trans ?_ (Within.mono (State.setSource_within ..) rfl)
    refine Within.trans ?_ (Within.kind (State.wrb_within ..) rfl .chg rfl rfl)
    refine Within.trans ?_ (Within.kind (State.wrf_within ..) rfl .chg rfl rfl)
    exact hx2
  · split
    · extract_lets +onlyGivenNames -merge -underBinder x3
      extract_lets +onlyGivenNames -merge -underBinder x4
      extract_lets +onlyGivenNames -merge -underBinder x5
      extract_lets +onlyGivenNames -merge -underBinder x6
      extract_lets +onlyGivenNames -merge -underBinder x7 x8
      have hx8 : Within 0x6329808000181e04280 [] s x8 := by
        unfold x8
        refine Within.upd ?_ rfl rfl (.inr rfl) (.inr rfl) (.inr rfl) (.inr rfl) (.inr rfl) (.inr rfl) (.inr rfl)
            (.inr rfl) (.inr rfl) (.inr rfl) (.inr rfl) (.inr rfl) (.inr rfl) (.inr rfl) (.inl rfl) (.inr rfl) (.inr
                rfl) (.inr rfl) (.inr rfl) (.inr rfl) (.inr rfl) (.inr rfl) (.inr rfl) (.inr rfl) (.inr rfl) (.inr
                    rfl) (.inr rfl) (.inr rfl) (.inr rfl) (.inr rfl) (.inr rfl) (.inr rfl) (.inr rfl) (.inr rfl)
                        (.inr rfl) (.inr rfl) (.inr rfl) (.inr rfl) (.inr rfl) (.inr rfl) (.inr rfl) (.inr rfl) (.inr
                            rfl) (.inr rfl) (.inr rfl) (.inr rfl) (.inr rfl)
        exact Within.refl _
      extract_lets +onlyGivenNames -merge -underBinder x9
      have hx9 : Within 0x6329808000181e04280 [] s x9 := by
        unfold x9
        refine Within.ite ?_ ?_
        · refine Within.trans ?_ (Within.kind (State.inc_within ..) rfl .chg rfl rfl)
          exact hx8
        · exact hx8
      extract_lets +onlyGivenNames -merge -underBinder x10
      have hx10 : Within 0x6329808000181e04280 [] s x10 := by
        unfold x10
        refine Within.ite ?_ ?_
        · refine Within.trans ?_ (Within.kind (State.flag_within ..) rfl .chg rfl rfl)
          exact hx9
        · exact hx9
      refine Within.trans ?_ (Within.mono (State.setSource_within ..) rfl)
      refine Within.trans ?_ (Within.kind (State.wrb_within ..) rfl .chg rfl rfl)
      refine Within.trans ?_ (Within.kind (State.wrf_within ..) rfl .chg rfl rfl)
      exact hx10
    · exact Within.refl _

theorem State.wri64_within (s : State) (p : Page) (lo : Nat) (hi : Nat) (v : Int) :
    Within 0x0 [p] s (State.wri64 s p lo hi v) := by
  unfold State.wri64
  exact (Within.page (State.wr64_within ..) rfl)

theorem State.stageCharges_within (s : State) (st : Nat) :
    Within 0x6329808000181e04280 [] s (State.stageCharges s st) := by
  unfold State.stageCharges
  extract_lets +onlyGivenNames -merge -underBinder x1
  extract_lets +onlyGivenNames -merge -underBinder x2
  extract_lets +onlyGivenNames -merge -underBinder x3
  extract_lets +onlyGivenNames -merge -underBinder x4
  extract_lets +onlyGivenNames -merge -underBinder x5
  extract_lets +onlyGivenNames -merge -underBinder x6
  extract_lets +onlyGivenNames -merge -underBinder x7 x8
  have hx8 : Within 0x6329808000181e04280 [] s x8 := by
    unfold x8
    refine Within.upd ?_ rfl rfl (.inr rfl) (.inr rfl) (.inr rfl) (.inr rfl) (.inr rfl) (.inr rfl) (.inr rfl) (.inr
        rfl) (.inr rfl) (.inr rfl) (.inr rfl) (.inr rfl) (.inr rfl) (.inr rfl) (.inl rfl) (.inr rfl) (.inr rfl) (.inr
            rfl) (.inr rfl) (.inr rfl) (.inr rfl) (.inr rfl) (.inr rfl) (.inr rfl) (.inr rfl) (.inr rfl) (.inr rfl)
                (.inr rfl) (.inr rfl) (.inr rfl) (.inr rfl) (.inr rfl) (.inr rfl) (.inr rfl) (.inr rfl) (.inr rfl)
                    (.inr rfl) (.inr rfl) (.inr rfl) (.inr rfl) (.inr rfl) (.inr rfl) (.inr rfl) (.inr rfl) (.inr
                        rfl) (.inr rfl) (.inr rfl)
    exact Within.refl _
  extract_lets +onlyGivenNames -merge -underBinder x9
  have hx9 : Within 0x6329808000181e04280 [] s x9 := by
    unfold x9
    refine Within.ite ?_ ?_
    · refine Within.trans ?_ (Within.kind (State.flag_within ..) rfl .chg rfl rfl)
      refine Within.trans ?_ (Within.kind (State.inc_within ..) rfl .chg rfl rfl)
      exact hx8
    · refine Within.ite ?_ ?_
      · exact hx8
      · refine Within.trans ?_ (Within.kind (State.flag_within ..) rfl .chg rfl rfl)
        exact hx8
  extract_lets +onlyGivenNames -merge -underBinder x10
  have hx10 : Within 0x6329808000181e04280 [] s x10 := by
    unfold x10
    refine Within.trans ?_ (Within.kind (State.wri64_within ..) rfl .chg rfl rfl)
    refine Within.trans ?_ (Within.kind (State.wri64_within ..) rfl .chg rfl rfl)
    refine Within.trans ?_ (Within.kind (State.wri64_within ..) rfl .chg rfl rfl)
    exact hx9
  extract_lets +onlyGivenNames -merge -underBinder x11
  have hx11 : Within 0x6329808000181e04280 [] s x11 := by
    unfold x11
    refine Within.trans ?_ (Within.kind (State.wr64_within ..) rfl .chg rfl rfl)
    exact hx10
  extract_lets +onlyGivenNames -merge -underBinder x12
  have hx12 : Within 0x6329808000181e04280 [] s x12 := by
    unfold x12
    refine Within.trans ?_ (Within.kind (State.wrb_within ..) rfl .chg rfl rfl)
    refine Within.trans ?_ (Within.kind (State.wrb_within ..) rfl .chg rfl rfl)
    refine Within.trans ?_ (Within.kind (State.wrf_within ..) rfl .chg rfl rfl)
    exact hx11
  extract_lets +onlyGivenNames -merge -underBinder x13
  have hx13 : Within 0x6329808000181e04280 [] s x13 := by
    unfold x13
    refine Within.trans ?_ (Within.mono (State.crossCompare_within ..) rfl)
    exact hx12
  extract_lets +onlyGivenNames -merge -underBinder x14
  have hx14 : Within 0x6329808000181e04280 [] s x14 := by
    unfold x14
    refine Within.foldl ?_ (fun t15 a16 h17 => ?_)
    · exact hx13
    · split
      · refine Within.trans ?_ (Within.mono (State.wr96_within ..) rfl)
        exact h17
      · exact h17
  refine Within.trans ?_ (Within.kind (State.wr64_within ..) rfl .chg rfl rfl)
  exact hx14

theorem State.fastOutput_within (s : State) (n : Nat) (w : BitWindow) :
    Within 0x6325808000181e02280 [] s (State.fastOutput s n w) := by
  unfold State.fastOutput
  extract_lets +onlyGivenNames -merge -underBinder x1
  refine Within.ite ?_ ?_
  · exact Within.refl _
  · extract_lets +onlyGivenNames -merge -underBinder x2
    extract_lets +onlyGivenNames -merge -underBinder x3
    extract_lets +onlyGivenNames -merge -underBinder x4
    have hx4 : Within 0x6325808000181e02280 [] s x4 := by
      unfold x4
      exact (Within.kind (State.wri_within ..) rfl .mod rfl rfl)
    extract_lets +onlyGivenNames -merge -underBinder x5 x6
    have hx6 : Within 0x6325808000181e02280 [] s x6 := by
      unfold x6
      refine Within.trans ?_ (Within.mono (State.setModIn_within ..) rfl)
      exact hx4
    refine Within.ite ?_ ?_
    · refine Within.trans ?_ (Within.mono (State.fastCompare_within ..) rfl)
      exact hx6
    · exact hx6

end Sys2Proof.Machine
end

