-- ==== Sys2Proof/Laws/FrameDigest.lean ====
section
/-! SUPPORT. What each operation of Machine/Digest.lean may change (Laws/Within.lean). -/

namespace Sys2Proof.Machine

open Sys2Proof

theorem State.askRepair_within (s : State) (slots : Nat) (chans : List Nat) :
    Within 0x20000200 [] s (State.askRepair s slots chans) := by
  unfold State.askRepair
  refine Within.ite ?_ ?_
  · exact Within.refl _
  · extract_lets +onlyGivenNames -merge -underBinder x1
    extract_lets +onlyGivenNames -merge -underBinder x2
    extract_lets +onlyGivenNames -merge -underBinder x3
    extract_lets +onlyGivenNames -merge -underBinder x4
    extract_lets +onlyGivenNames -merge -underBinder x5
    have hx5 : Within 0x20000200 [] s x5 := by
      unfold x5
      exact (Within.mono (State.setTdm_within ..) rfl)
    refine Within.trans ?_ (Within.mono (State.sendFrame_within ..) rfl)
    exact hx5

theorem State.askFullRepair_within (s : State) :
    Within 0x20000200 [] s (State.askFullRepair s) := by
  unfold State.askFullRepair
  extract_lets +onlyGivenNames -merge -underBinder x1
  extract_lets +onlyGivenNames -merge -underBinder x2
  have hx2 : Within 0x20000200 [] s x2 := by
    unfold x2
    exact (Within.mono (State.setTdm_within ..) rfl)
  refine Within.trans ?_ (Within.mono (State.sendFrame_within ..) rfl)
  exact hx2

theorem State.askRepairFor_within (s : State) (e : EvItem) :
    Within 0x20000200 [] s (State.askRepairFor s e) := by
  unfold State.askRepairFor
  extract_lets +onlyGivenNames -merge -underBinder x1
  extract_lets +onlyGivenNames -merge -underBinder x2
  refine Within.ite ?_ ?_
  · exact (Within.mono (State.askRepair_within ..) rfl)
  · refine Within.ite ?_ ?_
    · exact (Within.mono (State.askRepair_within ..) rfl)
    · exact (Within.mono (State.askFullRepair_within ..) rfl)

theorem State.standbyFault_within (s : State) :
    Within 0x200100890112340028f [] s (State.standbyFault s) := by
  unfold State.standbyFault
  extract_lets +onlyGivenNames -merge -underBinder x1
  extract_lets +onlyGivenNames -merge -underBinder x2
  extract_lets +onlyGivenNames -merge -underBinder x3
  have hx3 : Within 0x200100890112340028f [] s x3 := by
    unfold x3
    exact (Within.mono (State.setTdm_within ..) rfl)
  refine Within.ite ?_ ?_
  · refine Within.trans ?_ (Within.mono (State.outEntry_within ..) rfl)
    exact hx3
  · exact hx3

theorem State.mismatch_within (s : State) (slot : Bool) (explained : Bool) (idx : Nat) (num : Nat) :
    Within 0x208000020000080 [] s (State.mismatch s slot explained idx num) := by
  unfold State.mismatch
  extract_lets +onlyGivenNames -merge -underBinder x1
  have hx1 : Within 0x208000020000080 [] s x1 := by
    unfold x1
    refine Within.trans ?_ (Within.kind (State.flag_within ..) rfl .tdm rfl rfl)
    exact (Within.kind (State.inc_within ..) rfl .tdm rfl rfl)
  extract_lets +onlyGivenNames -merge -underBinder x2
  have hx2 : Within 0x208000020000080 [] s x2 := by
    unfold x2
    refine Within.trans ?_ (Within.kind (State.wrn_within ..) rfl .tdm rfl rfl)
    exact hx1
  extract_lets +onlyGivenNames -merge -underBinder x3
  have hx3 : Within 0x208000020000080 [] s x3 := by
    unfold x3
    refine Within.trans ?_ (Within.kind (State.wr64_within ..) rfl .tdm rfl rfl)
    exact hx2
  refine Within.ite ?_ ?_
  · exact hx3
  · refine Within.trans ?_ (Within.mono (State.setTdm_within ..) rfl)
    refine Within.trans ?_ (Within.kind (State.inc_within ..) rfl .tdm rfl rfl)
    exact hx3

theorem State.compareStage_within (s : State) :
    Within 0x200120890112340028f [] s (State.compareStage s) := by
  unfold State.compareStage
  extract_lets +onlyGivenNames -merge -underBinder x1
  extract_lets +onlyGivenNames -merge -underBinder x2
  refine Within.ite ?_ ?_
  · extract_lets +onlyGivenNames -merge -underBinder x3
    extract_lets +onlyGivenNames -merge -underBinder x4
    extract_lets +onlyGivenNames -merge -underBinder x5
    extract_lets +onlyGivenNames -merge -underBinder x6
    have hx6 : Within 0x200120890112340028f [] s x6 := by
      unfold x6
      exact (Within.mono (State.setTdm_within ..) rfl)
    extract_lets +onlyGivenNames -merge -underBinder x7
    have hx7 : Within 0x200120890112340028f [] s x7 := by
      unfold x7
      refine Within.ite ?_ ?_
      · refine Within.trans ?_ (Within.mono (State.askRepair_within ..) rfl)
        refine Within.trans ?_ (Within.mono (State.mismatch_within ..) rfl)
        exact hx6
      · exact hx6
    extract_lets +onlyGivenNames -merge -underBinder x8
    have hx8 : Within 0x200120890112340028f [] s x8 := by
      unfold x8
      refine Within.foldl ?_ (fun t9 a10 h11 => ?_)
      · exact hx7
      · refine Within.trans ?_ (Within.mono (State.mismatch_within ..) rfl)
        exact h11
    extract_lets +onlyGivenNames -merge -underBinder x12
    have hx12 : Within 0x200120890112340028f [] s x12 := by
      unfold x12
      refine Within.ite ?_ ?_
      · exact hx8
      · refine Within.trans ?_ (Within.mono (State.askRepair_within ..) rfl)
        exact hx8
    refine Within.trans ?_ (Within.mono (State.standbyFault_within ..) rfl)
    exact hx12
  · exact Within.refl _

theorem State.compareLoop_within (s : State) :
    Within 0x200120890112340028f [] s (State.compareLoop s) := by
  unfold State.compareLoop
  extract_lets +onlyGivenNames -merge -underBinder x1
  extract_lets +onlyGivenNames -merge -underBinder x2
  refine Within.ite ?_ ?_
  · extract_lets +onlyGivenNames -merge -underBinder x3
    extract_lets +onlyGivenNames -merge -underBinder x4
    extract_lets +onlyGivenNames -merge -underBinder x5
    extract_lets +onlyGivenNames -merge -underBinder x6
    have hx6 : Within 0x200120890112340028f [] s x6 := by
      unfold x6
      exact (Within.mono (State.setTdm_within ..) rfl)
    extract_lets +onlyGivenNames -merge -underBinder x7
    have hx7 : Within 0x200120890112340028f [] s x7 := by
      unfold x7
      refine Within.foldl ?_ (fun t8 a9 h10 => ?_)
      · exact hx6
      · refine Within.trans ?_ (Within.mono (State.mismatch_within ..) rfl)
        exact h10
    extract_lets +onlyGivenNames -merge -underBinder x11
    have hx11 : Within 0x200120890112340028f [] s x11 := by
      unfold x11
      refine Within.ite ?_ ?_
      · exact hx7
      · refine Within.trans ?_ (Within.mono (State.askRepair_within ..) rfl)
        exact hx7
    refine Within.trans ?_ (Within.mono (State.standbyFault_within ..) rfl)
    exact hx11
  · exact Within.refl _

end Sys2Proof.Machine
end

