-- ==== Sys2Proof/Laws/FrameCellThermal.lean ====
section
/-! SUPPORT. What each operation of Machine/CellThermal.lean may change (Laws/Within.lean). -/

namespace Sys2Proof.Machine

open Sys2Proof

theorem State.setTherm_within (s : State) (c : Nat) (v : ThermSt) :
    Within 0x100000 [] s (State.setTherm s c v) := by
  unfold State.setTherm
  refine Within.upd ?_ rfl rfl (.inr rfl) (.inr rfl) (.inr rfl) (.inr rfl) (.inr rfl) (.inr rfl) (.inr rfl) (.inr
      rfl) (.inr rfl) (.inr rfl) (.inr rfl) (.inr rfl) (.inr rfl) (.inr rfl) (.inr rfl) (.inr rfl) (.inr rfl) (.inr
          rfl) (.inr rfl) (.inr rfl) (.inl rfl) (.inr rfl) (.inr rfl) (.inr rfl) (.inr rfl) (.inr rfl) (.inr rfl)
              (.inr rfl) (.inr rfl) (.inr rfl) (.inr rfl) (.inr rfl) (.inr rfl) (.inr rfl) (.inr rfl) (.inr rfl)
                  (.inr rfl) (.inr rfl) (.inr rfl) (.inr rfl) (.inr rfl) (.inr rfl) (.inr rfl) (.inr rfl) (.inr rfl)
                      (.inr rfl) (.inr rfl)
  exact Within.refl _

theorem State.thermInit_within (s : State) (d : StepDue) :
    Within 0x100000 [] s (State.thermInit s d) := by
  unfold State.thermInit
  extract_lets +onlyGivenNames -merge -underBinder x1
  have hx1 : Within 0x100000 [] s x1 := by
    unfold x1
    refine Within.foldl ?_ (fun t2 a3 h4 => ?_)
    · exact Within.refl _
    · extract_lets +onlyGivenNames -merge -underBinder x5
      extract_lets +onlyGivenNames -merge -underBinder x6
      refine Within.trans ?_ (Within.mono (State.setTherm_within ..) rfl)
      exact h4
  refine Within.upd ?_ rfl rfl (.inr rfl) (.inr rfl) (.inr rfl) (.inr rfl) (.inr rfl) (.inr rfl) (.inr rfl) (.inr
      rfl) (.inr rfl) (.inr rfl) (.inr rfl) (.inr rfl) (.inr rfl) (.inr rfl) (.inr rfl) (.inr rfl) (.inr rfl) (.inr
          rfl) (.inr rfl) (.inr rfl) (.inl rfl) (.inr rfl) (.inr rfl) (.inr rfl) (.inr rfl) (.inr rfl) (.inr rfl)
              (.inr rfl) (.inr rfl) (.inr rfl) (.inr rfl) (.inr rfl) (.inr rfl) (.inr rfl) (.inr rfl) (.inr rfl)
                  (.inr rfl) (.inr rfl) (.inr rfl) (.inr rfl) (.inr rfl) (.inr rfl) (.inr rfl) (.inr rfl) (.inr rfl)
                      (.inr rfl) (.inr rfl)
  exact hx1

theorem State.sensorRecord_within (s : State) (event : Nat) (c : Nat) (k : Nat) (v : SensorSt) :
    Within 0x1008000100000080 [] s (State.sensorRecord s event c k v) := by
  unfold State.sensorRecord
  exact (Within.mono (State.record_within ..) rfl)

theorem State.judgeSensor_within (s : State) (d : StepDue) (old : List (Nat × ThermSt)) (c : Nat) (k : Nat) :
    Within 0x81008000100100080 [] s (State.judgeSensor s d old c k) := by
  unfold State.judgeSensor
  extract_lets +onlyGivenNames -merge -underBinder x1
  extract_lets +onlyGivenNames -merge -underBinder x2
  extract_lets +onlyGivenNames -merge -underBinder x3
  extract_lets +onlyGivenNames -merge -underBinder x4 x5
  extract_lets +onlyGivenNames -merge -underBinder x6
  refine Within.ite ?_ ?_
  · exact Within.refl _
  · refine Within.ite ?_ ?_
    · exact (Within.mono (State.setTherm_within ..) rfl)
    · extract_lets +onlyGivenNames -merge -underBinder x7
      extract_lets +onlyGivenNames -merge -underBinder x8
      extract_lets +onlyGivenNames -merge -underBinder x9
      extract_lets +onlyGivenNames -merge -underBinder x10
      extract_lets +onlyGivenNames -merge -underBinder x11
      extract_lets +onlyGivenNames -merge -underBinder x12
      extract_lets +onlyGivenNames -merge -underBinder x13
      split
      · extract_lets +onlyGivenNames -merge -underBinder x14
        have hx14 : Within 0x81008000100100080 [] s x14 := by
          unfold x14
          exact (Within.mono (State.setTherm_within ..) rfl)
        refine Within.ite ?_ ?_
        · refine Within.trans ?_ (Within.kind (State.flag_within ..) rfl .cth rfl rfl)
          exact hx14
        · refine Within.ite ?_ ?_
          · refine Within.trans ?_ (Within.mono (State.sensorRecord_within ..) rfl)
            refine Within.trans ?_ (Within.kind (State.inc_within ..) rfl .cth rfl rfl)
            refine Within.trans ?_ (Within.kind (State.flag_within ..) rfl .cth rfl rfl)
            exact hx14
          · exact hx14

theorem State.protTemp_within (s : State) (d : StepDue) (c : Nat) :
    Within 0x100000 [] s (State.protTemp s d c) := by
  unfold State.protTemp
  extract_lets +onlyGivenNames -merge -underBinder x1
  extract_lets +onlyGivenNames -merge -underBinder x2
  refine Within.ite ?_ ?_
  · exact Within.refl _
  · refine Within.ite ?_ ?_
    · extract_lets +onlyGivenNames -merge -underBinder x3
      clear_value x3
      split
      · exact Within.refl _
      · exact (Within.mono (State.setTherm_within ..) rfl)
    · extract_lets +onlyGivenNames -merge -underBinder x4
      extract_lets +onlyGivenNames -merge -underBinder x5
      extract_lets +onlyGivenNames -merge -underBinder x6
      exact (Within.mono (State.setTherm_within ..) rfl)

theorem State.thermStep_within (s : State) (d : StepDue) (q : Nat → Int) :
    Within 0x81008000100110080 [] s (State.thermStep s d q) := by
  unfold State.thermStep
  extract_lets +onlyGivenNames -merge -underBinder x1 x2
  have hx2 : Within 0x81008000100110080 [] s x2 := by
    unfold x2
    refine Within.ite ?_ ?_
    · exact (Within.mono (State.thermInit_within ..) rfl)
    · refine Within.ite ?_ ?_
      · refine Within.foldl ?_ (fun t3 a4 h5 => ?_)
        · exact Within.refl _
        · refine Within.ite ?_ ?_
          · split
            · refine Within.trans ?_ (Within.mono (State.setTherm_within ..) rfl)
              exact h5
          · exact h5
      · exact Within.refl _
  extract_lets +onlyGivenNames -merge -underBinder x6 x7 x8
  have hx6 : Within 0x81008000100110080 [] s x6 := by
    unfold x6
    refine Within.foldl ?_ (fun t9 a10 h11 => ?_)
    · exact hx2
    · refine Within.upd ?_ rfl rfl (.inr rfl) (.inr rfl) (.inr rfl) (.inr rfl) (.inr rfl) (.inr rfl) (.inr rfl) (.inr
        rfl) (.inr rfl) (.inr rfl) (.inr rfl) (.inr rfl) (.inr rfl) (.inr rfl) (.inr rfl) (.inr rfl) (.inl rfl) (.inr
            rfl) (.inr rfl) (.inr rfl) (.inr rfl) (.inr rfl) (.inr rfl) (.inr rfl) (.inr rfl) (.inr rfl) (.inr rfl)
                (.inr rfl) (.inr rfl) (.inr rfl) (.inr rfl) (.inr rfl) (.inr rfl) (.inr rfl) (.inr rfl) (.inr rfl)
                    (.inr rfl) (.inr rfl) (.inr rfl) (.inr rfl) (.inr rfl) (.inr rfl) (.inr rfl) (.inr rfl) (.inr
                        rfl) (.inr rfl) (.inr rfl)
      exact h11
  have hx8 : Within 0x81008000100110080 [] s x8 := by
    unfold x8
    refine Within.ite ?_ ?_
    · refine Within.foldl ?_ (fun t12 a13 h14 => ?_)
      · exact hx6
      · refine Within.trans ?_ (Within.mono (State.judgeSensor_within ..) rfl)
        refine Within.trans ?_ (Within.mono (State.judgeSensor_within ..) rfl)
        exact h14
    · exact hx2
  refine Within.foldl ?_ (fun t15 a16 h17 => ?_)
  · exact hx8
  · refine Within.trans ?_ (Within.mono (State.protTemp_within ..) rfl)
    exact h17

theorem State.thermShow_within (s : State) (sb : Nat) :
    Within 0x80000000000000000 [] s (State.thermShow s sb) := by
  unfold State.thermShow
  extract_lets +onlyGivenNames -merge -underBinder x1
  extract_lets +onlyGivenNames -merge -underBinder x2
  have hx2 : Within 0x80000000000000000 [] s x2 := by
    unfold x2
    refine Within.foldl ?_ (fun t3 a4 h5 => ?_)
    · exact Within.refl _
    · refine Within.trans ?_ (Within.kind (State.wrn_within ..) rfl .cth rfl rfl)
      exact h5
  extract_lets +onlyGivenNames -merge -underBinder x6
  have hx6 : Within 0x80000000000000000 [] s x6 := by
    unfold x6
    refine Within.foldl ?_ (fun t7 a8 h9 => ?_)
    · exact hx2
    · refine Within.trans ?_ (Within.kind (State.wrn_within ..) rfl .cth rfl rfl)
      exact h9
  extract_lets +onlyGivenNames -merge -underBinder x10
  refine Within.trans ?_ (Within.kind (State.wr64_within ..) rfl .cth rfl rfl)
  refine Within.trans ?_ (Within.kind (State.wrn_within ..) rfl .cth rfl rfl)
  exact hx6

theorem State.zoneDemand_within (s : State) (d : StepDue) (z : Nat) :
    Within 0x80000000000000000 [] s (State.zoneDemand s d z) := by
  unfold State.zoneDemand
  refine Within.ite ?_ ?_
  · exact Within.refl _
  · extract_lets +onlyGivenNames -merge -underBinder x1
    extract_lets +onlyGivenNames -merge -underBinder x2
    extract_lets +onlyGivenNames -merge -underBinder x3
    extract_lets +onlyGivenNames -merge -underBinder x4
    extract_lets +onlyGivenNames -merge -underBinder x5
    extract_lets +onlyGivenNames -merge -underBinder x6
    extract_lets +onlyGivenNames -merge -underBinder x7
    extract_lets +onlyGivenNames -merge -underBinder x8
    exact (Within.kind (State.wrn_within ..) rfl .cth rfl rfl)

theorem State.demands_within (s : State) (d : StepDue) :
    Within 0x80000000000000000 [] s (State.demands s d) := by
  unfold State.demands
  refine Within.foldl ?_ (fun t1 a2 h3 => ?_)
  · exact Within.refl _
  · refine Within.trans ?_ (Within.mono (State.zoneDemand_within ..) rfl)
    exact h3

theorem State.demandsDue_within (s : State) (sb : Nat) :
    Within 0x200000 [] s (State.demandsDue s sb) := by
  unfold State.demandsDue
  refine Within.upd ?_ rfl rfl (.inr rfl) (.inr rfl) (.inr rfl) (.inr rfl) (.inr rfl) (.inr rfl) (.inr rfl) (.inr
      rfl) (.inr rfl) (.inr rfl) (.inr rfl) (.inr rfl) (.inr rfl) (.inr rfl) (.inr rfl) (.inr rfl) (.inr rfl) (.inr
          rfl) (.inr rfl) (.inr rfl) (.inr rfl) (.inl rfl) (.inr rfl) (.inr rfl) (.inr rfl) (.inr rfl) (.inr rfl)
              (.inr rfl) (.inr rfl) (.inr rfl) (.inr rfl) (.inr rfl) (.inr rfl) (.inr rfl) (.inr rfl) (.inr rfl)
                  (.inr rfl) (.inr rfl) (.inr rfl) (.inr rfl) (.inr rfl) (.inr rfl) (.inr rfl) (.inr rfl) (.inr rfl)
                      (.inr rfl) (.inr rfl)
  exact Within.refl _

theorem State.demandsTick_within (s : State) :
    Within 0x200000 [] s (State.demandsTick s) := by
  unfold State.demandsTick
  extract_lets +onlyGivenNames -merge -underBinder x1
  split
  · refine Within.upd ?_ rfl rfl (.inr rfl) (.inr rfl) (.inr rfl) (.inr rfl) (.inr rfl) (.inr rfl) (.inr rfl) (.inr
      rfl) (.inr rfl) (.inr rfl) (.inr rfl) (.inr rfl) (.inr rfl) (.inr rfl) (.inr rfl) (.inr rfl) (.inr rfl) (.inr
          rfl) (.inr rfl) (.inr rfl) (.inr rfl) (.inl rfl) (.inr rfl) (.inr rfl) (.inr rfl) (.inr rfl) (.inr rfl)
              (.inr rfl) (.inr rfl) (.inr rfl) (.inr rfl) (.inr rfl) (.inr rfl) (.inr rfl) (.inr rfl) (.inr rfl)
                  (.inr rfl) (.inr rfl) (.inr rfl) (.inr rfl) (.inr rfl) (.inr rfl) (.inr rfl) (.inr rfl) (.inr rfl)
                      (.inr rfl) (.inr rfl)
    exact Within.refl _
  · exact Within.refl _

theorem State.coolEffect_within (s : State) (z : Nat) (v : Word) :
    Within 0x80000000000100000 [] s (State.coolEffect s z v) := by
  unfold State.coolEffect
  extract_lets +onlyGivenNames -merge -underBinder x1
  have hx1 : Within 0x80000000000100000 [] s x1 := by
    unfold x1
    exact (Within.kind (State.wr_within ..) rfl .cth rfl rfl)
  extract_lets +onlyGivenNames -merge -underBinder x2 x3
  have hx3 : Within 0x80000000000100000 [] s x3 := by
    unfold x3
    refine Within.upd ?_ rfl rfl (.inr rfl) (.inr rfl) (.inr rfl) (.inr rfl) (.inr rfl) (.inr rfl) (.inr rfl) (.inr
        rfl) (.inr rfl) (.inr rfl) (.inr rfl) (.inr rfl) (.inr rfl) (.inr rfl) (.inr rfl) (.inr rfl) (.inr rfl) (.inr
            rfl) (.inr rfl) (.inr rfl) (.inl rfl) (.inr rfl) (.inr rfl) (.inr rfl) (.inr rfl) (.inr rfl) (.inr rfl)
                (.inr rfl) (.inr rfl) (.inr rfl) (.inr rfl) (.inr rfl) (.inr rfl) (.inr rfl) (.inr rfl) (.inr rfl)
                    (.inr rfl) (.inr rfl) (.inr rfl) (.inr rfl) (.inr rfl) (.inr rfl) (.inr rfl) (.inr rfl) (.inr
                        rfl) (.inr rfl) (.inr rfl)
    exact hx1
  refine Within.trans ?_ (Within.kind (State.wrb_within ..) rfl .cth rfl rfl)
  exact hx3

theorem execTcoolWrite_within (dt : Nat) (zone : Fin 4) (value : Word) (s : State) :
    Ends (Within 0x2800020e []) s (execTcoolWrite dt zone value s) := by
  unfold execTcoolWrite
  refine Ends.next ?_
  refine Within.hostDo ?_ (fun t1 h2 => ?_)
  · exact (Within.mono (State.elapse_within ..) rfl)
  · refine Within.trans ?_ (Within.mono (State.hostEvent_within ..) rfl)
    exact h2

theorem execZoneStale_within (dt : Nat) (zone : Fin 4) (s : State) :
    Ends (Within 0x8000800000010008e []) s (execZoneStale dt zone s) := by
  unfold execZoneStale
  extract_lets +onlyGivenNames -merge -underBinder x1
  have hx1 : Within 0x8000800000010008e [] s x1 := by
    unfold x1
    exact (Within.mono (State.elapse_within ..) rfl)
  extract_lets +onlyGivenNames -merge -underBinder x2
  refine Ends.ite ?_ ?_
  · extract_lets +onlyGivenNames -merge -underBinder x3 x4
    have hx4 : Within 0x8000800000010008e [] s x4 := by
      unfold x4
      refine Within.upd ?_ rfl rfl (.inr rfl) (.inr rfl) (.inr rfl) (.inr rfl) (.inr rfl) (.inr rfl) (.inr rfl) (.inr
          rfl) (.inr rfl) (.inr rfl) (.inr rfl) (.inr rfl) (.inr rfl) (.inr rfl) (.inr rfl) (.inr rfl) (.inr rfl)
              (.inr rfl) (.inr rfl) (.inr rfl) (.inl rfl) (.inr rfl) (.inr rfl) (.inr rfl) (.inr rfl) (.inr rfl)
                  (.inr rfl) (.inr rfl) (.inr rfl) (.inr rfl) (.inr rfl) (.inr rfl) (.inr rfl) (.inr rfl) (.inr rfl)
                      (.inr rfl) (.inr rfl) (.inr rfl) (.inr rfl) (.inr rfl) (.inr rfl) (.inr rfl) (.inr rfl) (.inr
                          rfl) (.inr rfl) (.inr rfl) (.inr rfl)
      exact hx1
    refine Ends.next ?_
    refine Within.trans ?_ (Within.kind (State.flag_within ..) rfl .cth rfl rfl)
    refine Within.trans ?_ (Within.kind (State.inc_within ..) rfl .cth rfl rfl)
    refine Within.trans ?_ (Within.kind (State.wrb_within ..) rfl .cth rfl rfl)
    exact hx4
  · refine Ends.next ?_
    exact hx1

theorem State.sensorRestore_within (s : State) (ch : Nat) (s0 : Bool) (s1 : Bool) :
    Within 0x1008000100100080 [] s (State.sensorRestore s ch s0 s1) := by
  unfold State.sensorRestore
  extract_lets +onlyGivenNames -merge -underBinder x1
  unfold x1
  extract_lets +onlyGivenNames -merge -underBinder x2
  extract_lets +onlyGivenNames -merge -underBinder x3
  refine Within.ite ?_ ?_
  · refine Within.trans ?_ (Within.mono (State.sensorRecord_within ..) rfl)
    refine Within.trans ?_ (Within.mono (State.setTherm_within ..) rfl)
    extract_lets +onlyGivenNames -merge -underBinder x4
    extract_lets +onlyGivenNames -merge -underBinder x5
    refine Within.ite ?_ ?_
    · refine Within.trans ?_ (Within.mono (State.sensorRecord_within ..) rfl)
      exact (Within.mono (State.setTherm_within ..) rfl)
    · exact Within.refl _
  · extract_lets +onlyGivenNames -merge -underBinder x6
    extract_lets +onlyGivenNames -merge -underBinder x7
    refine Within.ite ?_ ?_
    · refine Within.trans ?_ (Within.mono (State.sensorRecord_within ..) rfl)
      exact (Within.mono (State.setTherm_within ..) rfl)
    · exact Within.refl _

theorem execSensorRestore_within (dt : Nat) (ch : Fin 512) (s0 : Bool) (s1 : Bool) (s : State) :
    Ends (Within 0x100800010010008e []) s (execSensorRestore dt ch s0 s1 s) := by
  unfold execSensorRestore
  refine Ends.next ?_
  refine Within.hostDo ?_ (fun t1 h2 => ?_)
  · exact (Within.mono (State.elapse_within ..) rfl)
  · refine Within.trans ?_ (Within.mono (State.sensorRestore_within ..) rfl)
    exact h2

theorem State.mselLatch_within (s : State) (ch : Nat) :
    Within 0x80000000000000000 [] s (State.mselLatch s ch) := by
  unfold State.mselLatch
  extract_lets +onlyGivenNames -merge -underBinder x1
  have hx1 : Within 0x80000000000000000 [] s x1 := by
    unfold x1
    exact (Within.kind (State.wrn_within ..) rfl .cth rfl rfl)
  extract_lets +onlyGivenNames -merge -underBinder x2
  extract_lets +onlyGivenNames -merge -underBinder x3
  refine Within.trans ?_ (Within.kind (State.wrn_within ..) rfl .cth rfl rfl)
  exact hx1

theorem execMselLatch_within (dt : Nat) (ch : Fin 512) (s : State) :
    Ends (Within 0x8000000000000000e []) s (execMselLatch dt ch s) := by
  unfold execMselLatch
  refine Ends.next ?_
  refine Within.hostDo ?_ (fun t1 h2 => ?_)
  · exact (Within.mono (State.elapse_within ..) rfl)
  · refine Within.trans ?_ (Within.mono (State.mselLatch_within ..) rfl)
    exact h2

end Sys2Proof.Machine
end

