-- ==== Sys2Proof/Laws/FrameRepairAnswer.lean ====
section
/-! SUPPORT. What each operation of Machine/RepairAnswer.lean may change (Laws/Within.lean). -/

namespace Sys2Proof.Machine

open Sys2Proof

theorem State.sendRepair_within (s : State) (req : Nat) (last : Bool) (a1 : Nat) (a2 : List Byte) :
    Within 0x20000200 [] s (State.sendRepair s req last a1 a2) := by
  unfold State.sendRepair
  split
  · exact Within.refl _
  · extract_lets +onlyGivenNames -merge -underBinder x1
    extract_lets +onlyGivenNames -merge -underBinder x2
    extract_lets +onlyGivenNames -merge -underBinder x3
    have hx3 : Within 0x20000200 [] s x3 := by
      unfold x3
      exact (Within.mono (State.sendFrame_within ..) rfl)
    extract_lets +onlyGivenNames -merge -underBinder x4
    have hx4 : Within 0x20000200 [] s x4 := by
      unfold x4
      refine Within.trans ?_ (Within.mono (State.setTdm_within ..) rfl)
      exact hx3
    refine Within.ite ?_ ?_
    · exact hx4
    · refine Within.trans ?_ (Within.mono (State.sendRepair_within ..) rfl)
      exact hx4

theorem State.answerChannels_within (s : State) (sb : Nat) :
    Within 0x20000200 [] s (State.answerChannels s sb) := by
  unfold State.answerChannels
  extract_lets +onlyGivenNames -merge -underBinder x1
  extract_lets +onlyGivenNames -merge -underBinder x2
  refine Within.ite ?_ ?_
  · exact Within.refl _
  · extract_lets +onlyGivenNames -merge -underBinder x3
    extract_lets +onlyGivenNames -merge -underBinder x4
    extract_lets +onlyGivenNames -merge -underBinder x5
    extract_lets +onlyGivenNames -merge -underBinder x6
    have hx6 : Within 0x20000200 [] s x6 := by
      unfold x6
      exact (Within.mono (State.sendRepair_within ..) rfl)
    refine Within.trans ?_ (Within.mono (State.setTdm_within ..) rfl)
    exact hx6

theorem State.answerSlots_within (s : State) :
    Within 0x20000200 [] s (State.answerSlots s) := by
  unfold State.answerSlots
  extract_lets +onlyGivenNames -merge -underBinder x1
  refine Within.ite ?_ ?_
  · exact Within.refl _
  · extract_lets +onlyGivenNames -merge -underBinder x2
    extract_lets +onlyGivenNames -merge -underBinder x3
    have hx3 : Within 0x20000200 [] s x3 := by
      unfold x3
      exact (Within.mono (State.sendRepair_within ..) rfl)
    refine Within.trans ?_ (Within.mono (State.setTdm_within ..) rfl)
    exact hx3

theorem State.installChannel_within (s : State) (c : Nat) (stage : Nat) (b : List Byte) :
    Within 0x80010000 [] s (State.installChannel s c stage b) := by
  unfold State.installChannel
  extract_lets +onlyGivenNames -merge -underBinder x1
  extract_lets +onlyGivenNames -merge -underBinder x2
  extract_lets +onlyGivenNames -merge -underBinder x3
  have hx3 : Within 0x80010000 [] s x3 := by
    unfold x3
    exact (Within.mono (State.wayEntry_within ..) rfl)
  refine Within.trans ?_ (Within.mono (State.modChan_within ..) rfl)
  exact hx3

theorem State.installWaiting_within (s : State) (stage : Nat) :
    Within 0xa0010000 [] s (State.installWaiting s stage) := by
  unfold State.installWaiting
  extract_lets +onlyGivenNames -merge -underBinder x1
  extract_lets +onlyGivenNames -merge -underBinder x2
  have hx2 : Within 0xa0010000 [] s x2 := by
    unfold x2
    exact (Within.mono (State.setTdm_within ..) rfl)
  refine Within.foldl ?_ (fun t3 a4 h5 => ?_)
  · exact hx2
  · refine Within.trans ?_ (Within.mono (State.installChannel_within ..) rfl)
    exact h5

end Sys2Proof.Machine
end

