-- ==== Sys2Proof/Laws/FrameWaybill.lean ====
section
/-! SUPPORT. What each operation of Machine/Waybill.lean may change (Laws/Within.lean). -/

namespace Sys2Proof.Machine

open Sys2Proof

theorem State.modWay_within (s : State) (f : WaySt → WaySt) :
    Within 0x80000000 [] s (State.modWay s f) := by
  unfold State.modWay
  refine Within.upd ?_ rfl rfl (.inr rfl) (.inr rfl) (.inr rfl) (.inr rfl) (.inr rfl) (.inr rfl) (.inr rfl) (.inr
      rfl) (.inr rfl) (.inr rfl) (.inr rfl) (.inr rfl) (.inr rfl) (.inr rfl) (.inr rfl) (.inr rfl) (.inr rfl) (.inr
          rfl) (.inr rfl) (.inr rfl) (.inr rfl) (.inr rfl) (.inr rfl) (.inr rfl) (.inr rfl) (.inr rfl) (.inr rfl)
              (.inr rfl) (.inr rfl) (.inr rfl) (.inr rfl) (.inl rfl) (.inr rfl) (.inr rfl) (.inr rfl) (.inr rfl)
                  (.inr rfl) (.inr rfl) (.inr rfl) (.inr rfl) (.inr rfl) (.inr rfl) (.inr rfl) (.inr rfl) (.inr rfl)
                      (.inr rfl) (.inr rfl)
  exact Within.refl _

theorem State.queueStep_within (s : State) (r : StepRec) :
    Within 0x808000080000080 [] s (State.queueStep s r) := by
  unfold State.queueStep
  refine Within.ite ?_ ?_
  · extract_lets +onlyGivenNames -merge -underBinder x1
    have hx1 : Within 0x808000080000080 [] s x1 := by
      unfold x1
      exact (Within.mono (State.modWay_within ..) rfl)
    extract_lets +onlyGivenNames -merge -underBinder x2
    extract_lets +onlyGivenNames -merge -underBinder x3
    have hx3 : Within 0x808000080000080 [] s x3 := by
      unfold x3
      refine Within.ite ?_ ?_
      · refine Within.trans ?_ (Within.kind (State.wrn_within ..) rfl .way rfl rfl)
        exact hx1
      · exact hx1
    refine Within.ite ?_ ?_
    · refine Within.trans ?_ (Within.kind (State.flag_within ..) rfl .way rfl rfl)
      exact hx3
    · exact hx3
  · exact Within.refl _

theorem State.exportEnds_within (s : State) (ring : Nat) (status : Nat) :
    Within 0x80c0000000002a0 [] s (State.exportEnds s ring status) := by
  unfold State.exportEnds
  refine Within.trans ?_ (Within.kind (State.flag_within ..) rfl .way rfl rfl)
  refine Within.trans ?_ (Within.kind (State.inc_within ..) rfl .way rfl rfl)
  exact (Within.mono (State.ringComplete_within ..) rfl)

theorem State.exportsLost_within (s : State) (num : Nat) :
    Within 0x80c0000800002a0 [] s (State.exportsLost s num) := by
  unfold State.exportsLost
  extract_lets +onlyGivenNames -merge -underBinder x1
  have hx1 : Within 0x80c0000800002a0 [] s x1 := by
    unfold x1
    split
    · refine Within.ite ?_ ?_
      · refine Within.trans ?_ (Within.mono (State.modWay_within ..) rfl)
        exact (Within.mono (State.exportEnds_within ..) rfl)
      · exact Within.refl _
    · exact Within.refl _
  split
  · refine Within.ite ?_ ?_
    · refine Within.trans ?_ (Within.mono (State.modWay_within ..) rfl)
      refine Within.trans ?_ (Within.mono (State.exportEnds_within ..) rfl)
      exact hx1
    · exact hx1
  · exact hx1

theorem State.placeSeg_within (s : State) (g : Seg) :
    Within 0x2080c0000800002a0 [] s (State.placeSeg s g) := by
  unfold State.placeSeg
  extract_lets +onlyGivenNames -merge -underBinder x1
  extract_lets +onlyGivenNames -merge -underBinder x2
  split
  · exact Within.refl _
  · extract_lets +onlyGivenNames -merge -underBinder x3
    have hx3 : Within 0x2080c0000800002a0 [] s x3 := by
      unfold x3
      split
      · refine Within.trans ?_ (Within.mono (State.exportsLost_within ..) rfl)
        refine Within.ite ?_ ?_
        · exact Within.refl _
        · refine Within.trans ?_ (Within.kind (State.flag_within ..) rfl .ost rfl rfl)
          exact (Within.kind (State.inc_within ..) rfl .ost rfl rfl)
      · exact Within.refl _
    refine Within.trans ?_ (Within.mono (State.modWay_within ..) rfl)
    exact hx3

theorem State.closeSeg_within (s : State) :
    Within 0x80000000 [] s (State.closeSeg s) := by
  unfold State.closeSeg
  split
  · exact Within.refl _
  · extract_lets +onlyGivenNames -merge -underBinder x1
    exact (Within.mono (State.modSeg_within ..) rfl)

theorem State.wayBoundary_within (s : State) :
    Within 0x80000000 [] s (State.wayBoundary s) := by
  unfold State.wayBoundary
  refine Within.ite ?_ ?_
  · exact Within.refl _
  · extract_lets +onlyGivenNames -merge -underBinder x1
    refine Within.ite ?_ ?_
    · exact Within.refl _
    · extract_lets +onlyGivenNames -merge -underBinder x2
      extract_lets +onlyGivenNames -merge -underBinder x3
      exact (Within.mono (State.modWay_within ..) rfl)

theorem State.windowFreeze_within (s : State) (g : Seg) :
    Within 0x20008000080000080 [] s (State.windowFreeze s g) := by
  unfold State.windowFreeze
  refine Within.ite ?_ ?_
  · split
    rename_i y1 y2 e3
    have hy2 : Within 0x20008000080000080 [] s y2 := by
      refine Within.snd e3 ?_
      exact (Within.mono (State.freezeSeg_within ..) rfl)
    refine Within.ite ?_ ?_
    · exact hy2
    · refine Within.trans ?_ (Within.mono (State.modWay_within ..) rfl)
      exact hy2
  · exact Within.refl _

theorem State.windowEnds_within (s : State) (stage : Nat) :
    Within 0x80000000 [] s (State.windowEnds s stage) := by
  unfold State.windowEnds
  extract_lets +onlyGivenNames -merge -underBinder x1
  refine Within.ite ?_ ?_
  · refine Within.trans ?_ (Within.mono (State.modWay_within ..) rfl)
    exact (Within.mono (State.closeSeg_within ..) rfl)
  · exact (Within.mono (State.modWay_within ..) rfl)

theorem execStageFrameWrite_within (dt : Nat) (s : State) :
    Ends (Within 0x2080c0000800002ae []) s (execStageFrameWrite dt s) := by
  unfold execStageFrameWrite
  extract_lets +onlyGivenNames -merge -underBinder x1
  have hx1 : Within 0x2080c0000800002ae [] s x1 := by
    unfold x1
    exact (Within.mono (State.elapse_within ..) rfl)
  refine Ends.ite ?_ ?_
  · refine Ends.next ?_
    exact hx1
  · split
    · refine Ends.next ?_
      exact hx1
    · extract_lets +onlyGivenNames -merge -underBinder x2
      extract_lets +onlyGivenNames -merge -underBinder x3
      have hx3 : Within 0x2080c0000800002ae [] s x3 := by
        unfold x3
        refine Within.trans ?_ (Within.mono (State.modWay_within ..) rfl)
        refine Within.trans ?_ (Within.mono (State.closeSeg_within ..) rfl)
        exact hx1
      refine Ends.next ?_
      refine Within.trans ?_ (Within.mono (State.windowFreeze_within ..) rfl)
      refine Within.trans ?_ (Within.mono (State.placeSeg_within ..) rfl)
      exact hx3
    · split
      · refine Ends.next ?_
        exact hx1
      · split
        · refine Ends.ite ?_ ?_
          · refine Ends.next ?_
            refine Within.trans ?_ (Within.mono (State.modWay_within ..) rfl)
            refine Within.trans ?_ (Within.mono (State.closeSeg_within ..) rfl)
            exact hx1
          · extract_lets +onlyGivenNames -merge -underBinder x4
            have hx4 : Within 0x2080c0000800002ae [] s x4 := by
              unfold x4
              refine Within.trans ?_ (Within.mono (State.modSeg_within ..) rfl)
              exact hx1
            extract_lets +onlyGivenNames -merge -underBinder x5
            have hx5 : Within 0x2080c0000800002ae [] s x5 := by
              unfold x5
              refine Within.trans ?_ (Within.mono (State.modWay_within ..) rfl)
              exact hx4
            refine Ends.next ?_
            refine Within.trans ?_ (Within.mono (State.windowEnds_within ..) rfl)
            refine Within.trans ?_ (Within.kind (State.incBy_within ..) rfl .way rfl rfl)
            exact hx5

theorem execBurstCaptureStop_within (dt : Nat) (s : State) :
    Ends (Within 0x8000000e []) s (execBurstCaptureStop dt s) := by
  unfold execBurstCaptureStop
  extract_lets +onlyGivenNames -merge -underBinder x1
  have hx1 : Within 0x8000000e [] s x1 := by
    unfold x1
    exact (Within.mono (State.elapse_within ..) rfl)
  split
  · refine Ends.ite ?_ ?_
    · refine Ends.next ?_
      refine Within.trans ?_ (Within.mono (State.modWay_within ..) rfl)
      exact hx1
    · refine Ends.next ?_
      exact hx1
  · refine Ends.next ?_
    exact hx1

theorem execBurstCopyDone_within (dt : Nat) (s : State) :
    Ends (Within 0x2080c0000800002ae []) s (execBurstCopyDone dt s) := by
  unfold execBurstCopyDone
  extract_lets +onlyGivenNames -merge -underBinder x1
  have hx1 : Within 0x2080c0000800002ae [] s x1 := by
    unfold x1
    exact (Within.mono (State.elapse_within ..) rfl)
  refine Ends.ite ?_ ?_
  · refine Ends.next ?_
    exact hx1
  · extract_lets +onlyGivenNames -merge -underBinder x2
    extract_lets +onlyGivenNames -merge -underBinder x3 x4
    extract_lets +onlyGivenNames -merge -underBinder x5
    have hx5 : Within 0x2080c0000800002ae [] s x5 := by
      unfold x5
      refine Within.trans ?_ (Within.mono (State.placeSeg_within ..) rfl)
      refine Within.trans ?_ (Within.mono (State.modWay_within ..) rfl)
      exact hx1
    split
    rename_i y6 y7 e8
    have hy7 : Within 0x2080c0000800002ae [] s y7 := by
      refine Within.snd e8 ?_
      refine Within.trans ?_ (Within.mono (State.freezeSeg_within ..) rfl)
      exact hx5
    refine Ends.next ?_
    refine Within.ite ?_ ?_
    · refine Within.trans ?_ (Within.kind (State.flag_within ..) rfl .way rfl rfl)
      exact hy7
    · exact hy7

theorem execWayFreeze_within (dt : Nat) (s : State) :
    Ends (Within 0x2080800008000008e []) s (execWayFreeze dt s) := by
  unfold execWayFreeze
  refine Ends.next ?_
  refine Within.hostDo ?_ (fun t1 h2 => ?_)
  · exact (Within.mono (State.elapse_within ..) rfl)
  · refine Within.trans ?_ (Within.mono (State.trigger_within ..) rfl)
    exact h2

theorem State.releaseSegment_within (s : State) :
    Within 0x80000000 [] s (State.releaseSegment s) := by
  unfold State.releaseSegment
  exact (Within.mono (State.modSeg_within ..) rfl)

theorem execReleaseSegment_within (dt : Nat) (s : State) :
    Ends (Within 0x8000000e []) s (execReleaseSegment dt s) := by
  unfold execReleaseSegment
  refine Ends.next ?_
  refine Within.hostDo ?_ (fun t1 h2 => ?_)
  · exact (Within.mono (State.elapse_within ..) rfl)
  · refine Within.trans ?_ (Within.mono (State.releaseSegment_within ..) rfl)
    exact h2

theorem State.exportSegment_within (s : State) :
    Within 0x80000000 [] s (State.exportSegment s) := by
  unfold State.exportSegment
  extract_lets +onlyGivenNames -merge -underBinder x1
  refine Within.ite ?_ ?_
  · exact (Within.mono (State.modWay_within ..) rfl)
  · exact Within.refl _

theorem execExportSegment_within (dt : Nat) (s : State) :
    Ends (Within 0x8000000e []) s (execExportSegment dt s) := by
  unfold execExportSegment
  refine Ends.next ?_
  refine Within.hostDo ?_ (fun t1 h2 => ?_)
  · exact (Within.mono (State.elapse_within ..) rfl)
  · refine Within.trans ?_ (Within.mono (State.exportSegment_within ..) rfl)
    exact h2

theorem State.abortSegment_within (s : State) :
    Within 0x80c0000800002a0 [] s (State.abortSegment s) := by
  unfold State.abortSegment
  split
  · refine Within.trans ?_ (Within.mono (State.modWay_within ..) rfl)
    exact (Within.mono (State.exportEnds_within ..) rfl)
  · refine Within.trans ?_ (Within.mono (State.modWay_within ..) rfl)
    exact (Within.mono (State.exportEnds_within ..) rfl)
  · exact Within.refl _

theorem execAbortSegment_within (dt : Nat) (s : State) :
    Ends (Within 0x80c0000800002ae []) s (execAbortSegment dt s) := by
  unfold execAbortSegment
  refine Ends.next ?_
  refine Within.hostDo ?_ (fun t1 h2 => ?_)
  · exact (Within.mono (State.elapse_within ..) rfl)
  · refine Within.trans ?_ (Within.mono (State.abortSegment_within ..) rfl)
    exact h2

theorem State.exportChunk_within (s : State) (e : WayExport) :
    Within 0xc0000800002a0 [] s (State.exportChunk s e).2 := by
  unfold State.exportChunk
  split
  · extract_lets +onlyGivenNames -merge -underBinder x1
    extract_lets +onlyGivenNames -merge -underBinder x2
    extract_lets +onlyGivenNames -merge -underBinder x3
    split
    · refine Within.pair ?_
      exact Within.refl _
    · extract_lets +onlyGivenNames -merge -underBinder x4
      extract_lets +onlyGivenNames -merge -underBinder x5
      have hx5 : Within 0xc0000800002a0 [] s x5 := by
        unfold x5
        exact (Within.mono (State.ringComplete_within ..) rfl)
      split
      · refine Within.pair ?_
        refine Within.trans ?_ (Within.mono (State.modSeg_within ..) rfl)
        exact hx5
      · refine Within.pair ?_
        exact hx5
  · refine Within.pair ?_
    exact Within.refl _
  · refine Within.pair ?_
    exact Within.refl _

theorem execExportChunk_within (dt : Nat) (s : State) :
    Ends (Within 0xc0000800002ae []) s (execExportChunk dt s) := by
  unfold execExportChunk
  extract_lets +onlyGivenNames -merge -underBinder x1
  have hx1 : Within 0xc0000800002ae [] s x1 := by
    unfold x1
    exact (Within.mono (State.elapse_within ..) rfl)
  split
  · split
    rename_i y2 y3 e4
    have hy3 : Within 0xc0000800002ae [] s y3 := by
      refine Within.snd e4 ?_
      refine Within.trans ?_ (Within.mono (State.exportChunk_within ..) rfl)
      exact hx1
    refine Ends.next ?_
    refine Within.trans ?_ (Within.mono (State.modWay_within ..) rfl)
    exact hy3
  · split
    rename_i y5 y6 e7
    have hy6 : Within 0xc0000800002ae [] s y6 := by
      refine Within.snd e7 ?_
      refine Within.trans ?_ (Within.mono (State.exportChunk_within ..) rfl)
      exact hx1
    refine Ends.next ?_
    refine Within.trans ?_ (Within.mono (State.modWay_within ..) rfl)
    exact hy6
  · refine Ends.next ?_
    exact hx1

theorem execAutoExportStart_within (dt : Nat) (s : State) :
    Ends (Within 0x8000000e []) s (execAutoExportStart dt s) := by
  unfold execAutoExportStart
  extract_lets +onlyGivenNames -merge -underBinder x1
  have hx1 : Within 0x8000000e [] s x1 := by
    unfold x1
    exact (Within.mono (State.elapse_within ..) rfl)
  extract_lets +onlyGivenNames -merge -underBinder x2
  clear_value x2
  split
  · refine Ends.next ?_
    exact hx1
  · refine Ends.ite ?_ ?_
    · refine Ends.next ?_
      refine Within.trans ?_ (Within.mono (State.modWay_within ..) rfl)
      exact hx1
    · refine Ends.next ?_
      exact hx1

theorem State.wayStarted_within (s : State) :
    Within 0x80000000 [] s (State.wayStarted s) := by
  unfold State.wayStarted
  exact (Within.mono (State.modWay_within ..) rfl)

theorem State.wayStopped_within (s : State) :
    Within 0x80000000 [] s (State.wayStopped s) := by
  unfold State.wayStopped
  refine Within.trans ?_ (Within.mono (State.modWay_within ..) rfl)
  exact (Within.mono (State.closeSeg_within ..) rfl)

theorem State.waySalvage_within (s : State) :
    Within 0x20808000080000080 [] s (State.waySalvage s) := by
  unfold State.waySalvage
  split
  · exact Within.refl _
  · extract_lets +onlyGivenNames -merge -underBinder x1
    have hx1 : Within 0x20808000080000080 [] s x1 := by
      unfold x1
      exact (Within.mono (State.modSeg_within ..) rfl)
    split
    rename_i y2 y3 e4
    have hy3 : Within 0x20808000080000080 [] s y3 := by
      refine Within.snd e4 ?_
      refine Within.trans ?_ (Within.mono (State.freezeSeg_within ..) rfl)
      exact hx1
    refine Within.trans ?_ (Within.kind (State.flag_within ..) rfl .way rfl rfl)
    refine Within.trans ?_ (Within.kind (State.wrn_within ..) rfl .way rfl rfl)
    refine Within.trans ?_ (Within.kind (State.wrn_within ..) rfl .way rfl rfl)
    exact hy3

theorem State.wayDamage_within (s : State) (num : Nat) (k : Nat) :
    Within 0x80000000 [] s (State.wayDamage s num k) := by
  unfold State.wayDamage
  split
  · exact Within.refl _
  · split
    · extract_lets +onlyGivenNames -merge -underBinder x1
      refine Within.trans ?_ (Within.mono (State.modWay_within ..) rfl)
      exact (Within.mono (State.modSeg_within ..) rfl)

end Sys2Proof.Machine
end

