-- ==== Sys2Proof/Laws/FrameSteps.lean ====
section
/-! SUPPORT. What each operation of Machine/Steps.lean may change (Laws/Within.lean). -/

namespace Sys2Proof.Machine

open Sys2Proof

theorem State.closeStep_within (s : State) (sa : Nat) (sb : Nat) (rest : Bool) :
    Within 0x80010c00 [] s (State.closeStep s sa sb rest) := by
  unfold State.closeStep
  extract_lets +onlyGivenNames -merge -underBinder x1
  extract_lets +onlyGivenNames -merge -underBinder x2
  extract_lets +onlyGivenNames -merge -underBinder x3
  refine Within.upd ?_ rfl rfl (.inr rfl) (.inr rfl) (.inr rfl) (.inr rfl) (.inr rfl) (.inr rfl) (.inr rfl) (.inr
      rfl) (.inr rfl) (.inr rfl) (.inl rfl) (.inl rfl) (.inr rfl) (.inr rfl) (.inr rfl) (.inr rfl) (.inl rfl) (.inr
          rfl) (.inr rfl) (.inr rfl) (.inr rfl) (.inr rfl) (.inr rfl) (.inr rfl) (.inr rfl) (.inr rfl) (.inr rfl)
              (.inr rfl) (.inr rfl) (.inr rfl) (.inr rfl) (.inl rfl) (.inr rfl) (.inr rfl) (.inr rfl) (.inr rfl)
                  (.inr rfl) (.inr rfl) (.inr rfl) (.inr rfl) (.inr rfl) (.inr rfl) (.inr rfl) (.inr rfl) (.inr rfl)
                      (.inr rfl) (.inr rfl)
  exact Within.refl _

theorem State.stageSteps_within (s : State) :
    Within 0x14000 [] s (State.stageSteps s) := by
  unfold State.stageSteps
  split
  · refine Within.upd ?_ rfl rfl (.inr rfl) (.inr rfl) (.inr rfl) (.inr rfl) (.inr rfl) (.inr rfl) (.inr rfl) (.inr
      rfl) (.inr rfl) (.inr rfl) (.inr rfl) (.inr rfl) (.inr rfl) (.inr rfl) (.inl rfl) (.inr rfl) (.inl rfl) (.inr
          rfl) (.inr rfl) (.inr rfl) (.inr rfl) (.inr rfl) (.inr rfl) (.inr rfl) (.inr rfl) (.inr rfl) (.inr rfl)
              (.inr rfl) (.inr rfl) (.inr rfl) (.inr rfl) (.inr rfl) (.inr rfl) (.inr rfl) (.inr rfl) (.inr rfl)
                  (.inr rfl) (.inr rfl) (.inr rfl) (.inr rfl) (.inr rfl) (.inr rfl) (.inr rfl) (.inr rfl) (.inr rfl)
                      (.inr rfl) (.inr rfl)
    exact Within.refl _
  · exact Within.refl _

theorem State.restTurn_within (s : State) (st : Nat) :
    Within 0x80010c00 [] s (State.restTurn s st) := by
  unfold State.restTurn
  extract_lets +onlyGivenNames -merge -underBinder x1
  extract_lets +onlyGivenNames -merge -underBinder x2
  refine Within.ite ?_ ?_
  · exact Within.refl _
  · extract_lets +onlyGivenNames -merge -underBinder x3
    have hx3 : Within 0x80010c00 [] s x3 := by
      unfold x3
      exact (Within.mono (State.closeStep_within ..) rfl)
    extract_lets +onlyGivenNames -merge -underBinder x4
    refine Within.upd ?_ rfl rfl (.inr rfl) (.inr rfl) (.inr rfl) (.inr rfl) (.inr rfl) (.inr rfl) (.inr rfl) (.inr
        rfl) (.inr rfl) (.inr rfl) (.inr rfl) (.inl rfl) (.inr rfl) (.inr rfl) (.inr rfl) (.inr rfl) (.inr rfl) (.inr
            rfl) (.inr rfl) (.inr rfl) (.inr rfl) (.inr rfl) (.inr rfl) (.inr rfl) (.inr rfl) (.inr rfl) (.inr rfl)
                (.inr rfl) (.inr rfl) (.inr rfl) (.inr rfl) (.inr rfl) (.inr rfl) (.inr rfl) (.inr rfl) (.inr rfl)
                    (.inr rfl) (.inr rfl) (.inr rfl) (.inr rfl) (.inr rfl) (.inr rfl) (.inr rfl) (.inr rfl) (.inr
                        rfl) (.inr rfl) (.inr rfl)
    exact hx3

theorem State.quietEnds_within (s : State) :
    Within 0x800 [] s (State.quietEnds s) := by
  unfold State.quietEnds
  extract_lets +onlyGivenNames -merge -underBinder x1
  extract_lets +onlyGivenNames -merge -underBinder x2
  refine Within.ite ?_ ?_
  · refine Within.upd ?_ rfl rfl (.inr rfl) (.inr rfl) (.inr rfl) (.inr rfl) (.inr rfl) (.inr rfl) (.inr rfl) (.inr
      rfl) (.inr rfl) (.inr rfl) (.inr rfl) (.inl rfl) (.inr rfl) (.inr rfl) (.inr rfl) (.inr rfl) (.inr rfl) (.inr
          rfl) (.inr rfl) (.inr rfl) (.inr rfl) (.inr rfl) (.inr rfl) (.inr rfl) (.inr rfl) (.inr rfl) (.inr rfl)
              (.inr rfl) (.inr rfl) (.inr rfl) (.inr rfl) (.inr rfl) (.inr rfl) (.inr rfl) (.inr rfl) (.inr rfl)
                  (.inr rfl) (.inr rfl) (.inr rfl) (.inr rfl) (.inr rfl) (.inr rfl) (.inr rfl) (.inr rfl) (.inr rfl)
                      (.inr rfl) (.inr rfl)
    exact Within.refl _
  · refine Within.upd ?_ rfl rfl (.inr rfl) (.inr rfl) (.inr rfl) (.inr rfl) (.inr rfl) (.inr rfl) (.inr rfl) (.inr
      rfl) (.inr rfl) (.inr rfl) (.inr rfl) (.inl rfl) (.inr rfl) (.inr rfl) (.inr rfl) (.inr rfl) (.inr rfl) (.inr
          rfl) (.inr rfl) (.inr rfl) (.inr rfl) (.inr rfl) (.inr rfl) (.inr rfl) (.inr rfl) (.inr rfl) (.inr rfl)
              (.inr rfl) (.inr rfl) (.inr rfl) (.inr rfl) (.inr rfl) (.inr rfl) (.inr rfl) (.inr rfl) (.inr rfl)
                  (.inr rfl) (.inr rfl) (.inr rfl) (.inr rfl) (.inr rfl) (.inr rfl) (.inr rfl) (.inr rfl) (.inr rfl)
                      (.inr rfl) (.inr rfl)
    exact Within.refl _

theorem State.quietSample_within (s : State) (tick : Nat) (k : Nat) (quiet : Bool) :
    Within 0x800 [] s (State.quietSample s tick k quiet) := by
  unfold State.quietSample
  extract_lets +onlyGivenNames -merge -underBinder x1
  refine Within.upd ?_ rfl rfl (.inr rfl) (.inr rfl) (.inr rfl) (.inr rfl) (.inr rfl) (.inr rfl) (.inr rfl) (.inr
      rfl) (.inr rfl) (.inr rfl) (.inr rfl) (.inl rfl) (.inr rfl) (.inr rfl) (.inr rfl) (.inr rfl) (.inr rfl) (.inr
          rfl) (.inr rfl) (.inr rfl) (.inr rfl) (.inr rfl) (.inr rfl) (.inr rfl) (.inr rfl) (.inr rfl) (.inr rfl)
              (.inr rfl) (.inr rfl) (.inr rfl) (.inr rfl) (.inr rfl) (.inr rfl) (.inr rfl) (.inr rfl) (.inr rfl)
                  (.inr rfl) (.inr rfl) (.inr rfl) (.inr rfl) (.inr rfl) (.inr rfl) (.inr rfl) (.inr rfl) (.inr rfl)
                      (.inr rfl) (.inr rfl)
  exact Within.refl _

theorem State.estStep_within (s : State) (d : StepDue) (str : Int) (lost : Nat) :
    Within 0x110080001a0018280 [] s (State.estStep s d str lost) := by
  unfold State.estStep
  extract_lets +onlyGivenNames -merge -underBinder x1
  have hx1 : Within 0x110080001a0018280 [] s x1 := by
    unfold x1
    refine Within.ite ?_ ?_
    · exact Within.refl _
    · refine Within.trans ?_ (Within.kind (State.flag_within ..) rfl .est rfl rfl)
      exact (Within.kind (State.incBy_within ..) rfl .est rfl rfl)
  refine Within.ite ?_ ?_
  · extract_lets +onlyGivenNames -merge -underBinder x2
    have hx2 : Within 0x110080001a0018280 [] s x2 := by
      unfold x2
      refine Within.foldl ?_ (fun t3 a4 h5 => ?_)
      · exact hx1
      · extract_lets +onlyGivenNames -merge -underBinder x6
        extract_lets +onlyGivenNames -merge -underBinder x7
        have hx7 : Within 0x110080001a0018280 [] s x7 := by
          unfold x7
          refine Within.trans ?_ (Within.mono (State.modChan_within ..) rfl)
          exact h5
        refine Within.ite ?_ ?_
        · refine Within.trans ?_ (Within.mono (State.chanHold_within ..) rfl)
          exact hx7
        · refine Within.trans ?_ (Within.mono (State.chanStep_within ..) rfl)
          exact hx7
    refine Within.ite ?_ ?_
    · refine Within.trans ?_ (Within.mono (State.jrnPut_within ..) rfl)
      exact hx2
    · exact hx2
  · refine Within.foldl ?_ (fun t8 a9 h10 => ?_)
    · exact hx1
    · refine Within.ite ?_ ?_
      · refine Within.trans ?_ (Within.mono (State.chanHold_within ..) rfl)
        exact h10
      · exact h10

theorem execStageStepRun_within (dt : Nat) (x : LaneObservations) (s : State) :
    Ends (Within 0xf10080001a03d828e []) s (execStageStepRun dt x s) := by
  unfold execStageStepRun
  extract_lets +onlyGivenNames -merge -underBinder x1
  have hx1 : Within 0xf10080001a03d828e [] s x1 := by
    unfold x1
    exact (Within.mono (State.elapse_within ..) rfl)
  split
  · refine Ends.next ?_
    exact hx1
  · split
    · extract_lets +onlyGivenNames -merge -underBinder x2
      extract_lets +onlyGivenNames -merge -underBinder x3 x4
      have hx4 : Within 0xf10080001a03d828e [] s x4 := by
        unfold x4
        refine Within.upd ?_ rfl rfl (.inr rfl) (.inr rfl) (.inr rfl) (.inr rfl) (.inr rfl) (.inr rfl) (.inr rfl)
            (.inr rfl) (.inr rfl) (.inr rfl) (.inr rfl) (.inr rfl) (.inr rfl) (.inr rfl) (.inr rfl) (.inr rfl) (.inr
                rfl) (.inr rfl) (.inr rfl) (.inr rfl) (.inr rfl) (.inr rfl) (.inr rfl) (.inr rfl) (.inr rfl) (.inr
                    rfl) (.inr rfl) (.inr rfl) (.inr rfl) (.inr rfl) (.inr rfl) (.inl rfl) (.inr rfl) (.inr rfl)
                        (.inr rfl) (.inr rfl) (.inr rfl) (.inr rfl) (.inr rfl) (.inr rfl) (.inr rfl) (.inr rfl) (.inr
                            rfl) (.inr rfl) (.inr rfl) (.inr rfl) (.inr rfl)
        exact hx1
      extract_lets +onlyGivenNames -merge -underBinder x5 x6
      have hx6 : Within 0xf10080001a03d828e [] s x6 := by
        unfold x6
        try clear_value x4
        refine Within.upd ?_ rfl rfl (.inr rfl) (.inr rfl) (.inr rfl) (.inr rfl) (.inr rfl) (.inr rfl) (.inr rfl)
            (.inr rfl) (.inr rfl) (.inr rfl) (.inr rfl) (.inr rfl) (.inr rfl) (.inr rfl) (.inr rfl) (.inr rfl) (.inl
                rfl) (.inr rfl) (.inr rfl) (.inr rfl) (.inr rfl) (.inr rfl) (.inr rfl) (.inr rfl) (.inr rfl) (.inr
                    rfl) (.inr rfl) (.inr rfl) (.inr rfl) (.inr rfl) (.inr rfl) (.inr rfl) (.inr rfl) (.inr rfl)
                        (.inr rfl) (.inr rfl) (.inr rfl) (.inr rfl) (.inr rfl) (.inr rfl) (.inr rfl) (.inr rfl) (.inr
                            rfl) (.inr rfl) (.inr rfl) (.inr rfl) (.inr rfl)
        exact hx4
      extract_lets +onlyGivenNames -merge -underBinder x7
      have hx7 : Within 0xf10080001a03d828e [] s x7 := by
        unfold x7
        refine Within.trans ?_ (Within.mono (State.estStep_within ..) rfl)
        exact hx6
      extract_lets +onlyGivenNames -merge -underBinder x8
      have hx8 : Within 0xf10080001a03d828e [] s x8 := by
        unfold x8
        refine Within.ite ?_ ?_
        · refine Within.trans ?_ (Within.mono (State.crossCheck_within ..) rfl)
          exact hx7
        · exact hx7
      extract_lets +onlyGivenNames -merge -underBinder x9
      have hx9 : Within 0xf10080001a03d828e [] s x9 := by
        unfold x9
        refine Within.trans ?_ (Within.mono (State.balStep_within ..) rfl)
        exact hx8
      extract_lets +onlyGivenNames -merge -underBinder x10
      have hx10 : Within 0xf10080001a03d828e [] s x10 := by
        unfold x10
        refine Within.trans ?_ (Within.mono (State.readbackAll_within ..) rfl)
        exact hx9
      extract_lets +onlyGivenNames -merge -underBinder x11
      have hx11 : Within 0xf10080001a03d828e [] s x11 := by
        unfold x11
        refine Within.trans ?_ (Within.mono (State.thermStep_within ..) rfl)
        exact hx10
      extract_lets +onlyGivenNames -merge -underBinder x12
      have hx12 : Within 0xf10080001a03d828e [] s x12 := by
        unfold x12
        refine Within.trans ?_ (Within.mono (State.demandsDue_within ..) rfl)
        refine Within.trans ?_ (Within.mono (State.demands_within ..) rfl)
        exact hx11
      extract_lets +onlyGivenNames -merge -underBinder x13 x14
      have hx14 : Within 0xf10080001a03d828e [] s x14 := by
        unfold x14
        refine Within.ite ?_ ?_
        · try clear_value x12
          refine Within.upd ?_ rfl rfl (.inr rfl) (.inr rfl) (.inr rfl) (.inr rfl) (.inr rfl) (.inr rfl) (.inr rfl)
              (.inr rfl) (.inr rfl) (.inr rfl) (.inr rfl) (.inr rfl) (.inr rfl) (.inr rfl) (.inr rfl) (.inr rfl)
                  (.inl rfl) (.inr rfl) (.inr rfl) (.inr rfl) (.inr rfl) (.inr rfl) (.inr rfl) (.inr rfl) (.inr rfl)
                      (.inr rfl) (.inr rfl) (.inr rfl) (.inr rfl) (.inr rfl) (.inr rfl) (.inr rfl) (.inr rfl) (.inr
                          rfl) (.inr rfl) (.inr rfl) (.inr rfl) (.inr rfl) (.inr rfl) (.inr rfl) (.inr rfl) (.inr
                              rfl) (.inr rfl) (.inr rfl) (.inr rfl) (.inr rfl) (.inr rfl)
          exact hx12
        · exact hx12
      refine Ends.next ?_
      try clear_value x14
      refine Within.upd ?_ rfl rfl (.inr rfl) (.inr rfl) (.inr rfl) (.inr rfl) (.inr rfl) (.inr rfl) (.inr rfl) (.inr
          rfl) (.inr rfl) (.inr rfl) (.inr rfl) (.inr rfl) (.inr rfl) (.inr rfl) (.inr rfl) (.inr rfl) (.inl rfl)
              (.inr rfl) (.inr rfl) (.inr rfl) (.inr rfl) (.inr rfl) (.inr rfl) (.inr rfl) (.inr rfl) (.inr rfl)
                  (.inr rfl) (.inr rfl) (.inr rfl) (.inr rfl) (.inr rfl) (.inl rfl) (.inr rfl) (.inr rfl) (.inr rfl)
                      (.inr rfl) (.inr rfl) (.inr rfl) (.inr rfl) (.inr rfl) (.inr rfl) (.inr rfl) (.inr rfl) (.inr
                          rfl) (.inr rfl) (.inr rfl) (.inr rfl)
      exact hx14

theorem State.showPcap_within (s : State) :
    Within 0x10000000000000000 [] s (State.showPcap s) := by
  unfold State.showPcap
  extract_lets +onlyGivenNames -merge -underBinder x1
  extract_lets +onlyGivenNames -merge -underBinder x2
  have hx2 : Within 0x10000000000000000 [] s x2 := by
    unfold x2
    refine Within.foldl ?_ (fun t3 a4 h5 => ?_)
    · exact Within.refl _
    · refine Within.trans ?_ (Within.kind (State.wrn_within ..) rfl .est rfl rfl)
      exact h5
  refine Within.trans ?_ (Within.kind (State.wrb_within ..) rfl .est rfl rfl)
  exact hx2

theorem State.estShow_within (s : State) (sb : Nat) :
    Within 0x10000000000000000 [] s (State.estShow s sb) := by
  unfold State.estShow
  extract_lets +onlyGivenNames -merge -underBinder x1
  extract_lets +onlyGivenNames -merge -underBinder x2
  extract_lets +onlyGivenNames -merge -underBinder x3
  extract_lets +onlyGivenNames -merge -underBinder x4
  extract_lets +onlyGivenNames -merge -underBinder x5
  have hx5 : Within 0x10000000000000000 [] s x5 := by
    unfold x5
    exact (Within.kind (State.wr64_within ..) rfl .est rfl rfl)
  extract_lets +onlyGivenNames -merge -underBinder x6
  have hx6 : Within 0x10000000000000000 [] s x6 := by
    unfold x6
    refine Within.trans ?_ (Within.kind (State.wrn_within ..) rfl .est rfl rfl)
    exact hx5
  extract_lets +onlyGivenNames -merge -underBinder x7
  have hx7 : Within 0x10000000000000000 [] s x7 := by
    unfold x7
    refine Within.trans ?_ (Within.kind (State.wrn_within ..) rfl .est rfl rfl)
    exact hx6
  extract_lets +onlyGivenNames -merge -underBinder x8
  extract_lets +onlyGivenNames -merge -underBinder x9
  have hx9 : Within 0x10000000000000000 [] s x9 := by
    unfold x9
    refine Within.trans ?_ (Within.kind (State.wrn_within ..) rfl .est rfl rfl)
    exact hx7
  extract_lets +onlyGivenNames -merge -underBinder x10
  have hx10 : Within 0x10000000000000000 [] s x10 := by
    unfold x10
    refine Within.trans ?_ (Within.kind (State.wrn_within ..) rfl .est rfl rfl)
    exact hx9
  extract_lets +onlyGivenNames -merge -underBinder x11
  extract_lets +onlyGivenNames -merge -underBinder x12
  have hx12 : Within 0x10000000000000000 [] s x12 := by
    unfold x12
    refine Within.trans ?_ (Within.kind (State.wrn_within ..) rfl .est rfl rfl)
    exact hx10
  extract_lets +onlyGivenNames -merge -underBinder x13
  have hx13 : Within 0x10000000000000000 [] s x13 := by
    unfold x13
    refine Within.trans ?_ (Within.kind (State.wrn_within ..) rfl .est rfl rfl)
    exact hx12
  extract_lets +onlyGivenNames -merge -underBinder x14
  have hx14 : Within 0x10000000000000000 [] s x14 := by
    unfold x14
    refine Within.trans ?_ (Within.kind (State.wrn_within ..) rfl .est rfl rfl)
    exact hx13
  extract_lets +onlyGivenNames -merge -underBinder x15
  have hx15 : Within 0x10000000000000000 [] s x15 := by
    unfold x15
    refine Within.trans ?_ (Within.kind (State.wr64_within ..) rfl .est rfl rfl)
    exact hx14
  extract_lets +onlyGivenNames -merge -underBinder x16
  extract_lets +onlyGivenNames -merge -underBinder x17
  have hx17 : Within 0x10000000000000000 [] s x17 := by
    unfold x17
    refine Within.trans ?_ (Within.kind (State.wrn_within ..) rfl .est rfl rfl)
    exact hx15
  refine Within.trans ?_ (Within.mono (State.showPcap_within ..) rfl)
  exact hx17

theorem State.iscShow_within (s : State) :
    Within 0x6331808000181e00280 [] s (State.iscShow s) := by
  unfold State.iscShow
  extract_lets +onlyGivenNames -merge -underBinder x1
  extract_lets +onlyGivenNames -merge -underBinder x2
  extract_lets +onlyGivenNames -merge -underBinder x3
  have hx3 : Within 0x6331808000181e00280 [] s x3 := by
    unfold x3
    refine Within.ite ?_ ?_
    · exact (Within.kind (State.flag_within ..) rfl .est rfl rfl)
    · exact Within.refl _
  refine Within.trans ?_ (Within.mono (State.setSource_within ..) rfl)
  exact hx3

theorem State.publishRecs_within (s : State) (d : StepDue) :
    Within 0x10000 [] s (State.publishRecs s d) := by
  unfold State.publishRecs
  refine Within.foldl ?_ (fun t1 a2 h3 => ?_)
  · exact Within.refl _
  · refine Within.ite ?_ ?_
    · exact h3
    · refine Within.upd ?_ rfl rfl (.inr rfl) (.inr rfl) (.inr rfl) (.inr rfl) (.inr rfl) (.inr rfl) (.inr rfl) (.inr
        rfl) (.inr rfl) (.inr rfl) (.inr rfl) (.inr rfl) (.inr rfl) (.inr rfl) (.inr rfl) (.inr rfl) (.inl rfl) (.inr
            rfl) (.inr rfl) (.inr rfl) (.inr rfl) (.inr rfl) (.inr rfl) (.inr rfl) (.inr rfl) (.inr rfl) (.inr rfl)
                (.inr rfl) (.inr rfl) (.inr rfl) (.inr rfl) (.inr rfl) (.inr rfl) (.inr rfl) (.inr rfl) (.inr rfl)
                    (.inr rfl) (.inr rfl) (.inr rfl) (.inr rfl) (.inr rfl) (.inr rfl) (.inr rfl) (.inr rfl) (.inr
                        rfl) (.inr rfl) (.inr rfl)
      exact h3

theorem State.shadowStep_within (s : State) (sb : Nat) :
    Within 0x50000 [] s (State.shadowStep s sb) := by
  unfold State.shadowStep
  refine Within.upd ?_ rfl rfl (.inr rfl) (.inr rfl) (.inr rfl) (.inr rfl) (.inr rfl) (.inr rfl) (.inr rfl) (.inr
      rfl) (.inr rfl) (.inr rfl) (.inr rfl) (.inr rfl) (.inr rfl) (.inr rfl) (.inr rfl) (.inr rfl) (.inl rfl) (.inr
          rfl) (.inl rfl) (.inr rfl) (.inr rfl) (.inr rfl) (.inr rfl) (.inr rfl) (.inr rfl) (.inr rfl) (.inr rfl)
              (.inr rfl) (.inr rfl) (.inr rfl) (.inr rfl) (.inr rfl) (.inr rfl) (.inr rfl) (.inr rfl) (.inr rfl)
                  (.inr rfl) (.inr rfl) (.inr rfl) (.inr rfl) (.inr rfl) (.inr rfl) (.inr rfl) (.inr rfl) (.inr rfl)
                      (.inr rfl) (.inr rfl)
  exact Within.refl _

theorem execStepPublished_within (dt : Nat) (s : State) :
    Ends (Within 0x1fffffffd4fffffffeff []) s (execStepPublished dt s) := by
  unfold execStepPublished
  extract_lets +onlyGivenNames -merge -underBinder x1
  have hx1 : Within 0x1fffffffd4fffffffeff [] s x1 := by
    unfold x1
    exact (Within.mono (State.elapse_within ..) rfl)
  split
  · refine Ends.next ?_
    exact hx1
  · extract_lets +onlyGivenNames -merge -underBinder x2
    have hx2 : Within 0x1fffffffd4fffffffeff [] s x2 := by
      unfold x2
      refine Within.ite ?_ ?_
      · refine Within.trans ?_ (Within.mono (State.publishRecs_within ..) rfl)
        exact hx1
      · exact hx1
    refine Ends.ite ?_ ?_
    · refine Ends.next ?_
      exact hx2
    · extract_lets +onlyGivenNames -merge -underBinder x3 x4
      have hx4 : Within 0x1fffffffd4fffffffeff [] s x4 := by
        unfold x4
        try clear_value x2
        refine Within.upd ?_ rfl rfl (.inr rfl) (.inr rfl) (.inr rfl) (.inr rfl) (.inr rfl) (.inr rfl) (.inr rfl)
            (.inr rfl) (.inr rfl) (.inr rfl) (.inr rfl) (.inr rfl) (.inr rfl) (.inr rfl) (.inr rfl) (.inr rfl) (.inl
                rfl) (.inr rfl) (.inr rfl) (.inr rfl) (.inr rfl) (.inr rfl) (.inr rfl) (.inr rfl) (.inr rfl) (.inr
                    rfl) (.inr rfl) (.inr rfl) (.inr rfl) (.inr rfl) (.inr rfl) (.inr rfl) (.inr rfl) (.inr rfl)
                        (.inr rfl) (.inr rfl) (.inr rfl) (.inr rfl) (.inr rfl) (.inr rfl) (.inr rfl) (.inr rfl) (.inr
                            rfl) (.inr rfl) (.inr rfl) (.inr rfl) (.inr rfl)
        exact hx2
      extract_lets +onlyGivenNames -merge -underBinder x5
      have hx5 : Within 0x1fffffffd4fffffffeff [] s x5 := by
        unfold x5
        refine Within.ite ?_ ?_
        · refine Within.trans ?_ (Within.mono (State.shadowStep_within ..) rfl)
          refine Within.trans ?_ (Within.mono (State.edgeSource_within ..) rfl)
          refine Within.trans ?_ (Within.mono (State.iscShow_within ..) rfl)
          refine Within.trans ?_ (Within.mono (State.estShow_within ..) rfl)
          exact hx4
        · exact hx4
      extract_lets +onlyGivenNames -merge -underBinder x6
      have hx6 : Within 0x1fffffffd4fffffffeff [] s x6 := by
        unfold x6
        refine Within.trans ?_ (Within.mono (State.thermShow_within ..) rfl)
        exact hx5
      extract_lets +onlyGivenNames -merge -underBinder x7
      have hx7 : Within 0x1fffffffd4fffffffeff [] s x7 := by
        unfold x7
        refine Within.foldl ?_ (fun t8 a9 h10 => ?_)
        · exact hx6
        · refine Within.trans ?_ (Within.mono (State.limitTemp_within ..) rfl)
          exact h10
      extract_lets +onlyGivenNames -merge -underBinder x11
      extract_lets +onlyGivenNames -merge -underBinder x12
      have hx12 : Within 0x1fffffffd4fffffffeff [] s x12 := by
        unfold x12
        refine Within.trans ?_ (Within.mono (State.setTdm_within ..) rfl)
        exact hx7
      extract_lets +onlyGivenNames -merge -underBinder x13
      have hx13 : Within 0x1fffffffd4fffffffeff [] s x13 := by
        unfold x13
        refine Within.ite ?_ ?_
        · refine Within.trans ?_ (Within.mono (State.sendFrame_within ..) rfl)
          exact hx12
        · exact hx12
      extract_lets +onlyGivenNames -merge -underBinder x14
      have hx14 : Within 0x1fffffffd4fffffffeff [] s x14 := by
        unfold x14
        refine Within.trans ?_ (Within.mono (State.answerChannels_within ..) rfl)
        refine Within.trans ?_ (Within.mono (State.installWaiting_within ..) rfl)
        exact hx13
      refine Ends.next ?_
      refine Within.trans ?_ (Within.mono (State.trialOut_within ..) rfl)
      refine Within.trans ?_ (Within.mono (State.queueStep_within ..) rfl)
      refine Within.trans ?_ (Within.mono (State.compareStage_within ..) rfl)
      exact hx14

end Sys2Proof.Machine
end

