-- ==== Sys2Proof/Laws/FrameForecast.lean ====
section
/-! SUPPORT. What each operation of Machine/Forecast.lean may change (Laws/Within.lean). -/

namespace Sys2Proof.Machine

open Sys2Proof

theorem execForecastBoundary_within (s : State) :
    Ends (Within 0x10000 []) s (execForecastBoundary s) := by
  unfold execForecastBoundary
  refine Ends.ite ?_ ?_
  · refine Ends.next ?_
    refine Within.upd ?_ rfl rfl (.inr rfl) (.inr rfl) (.inr rfl) (.inr rfl) (.inr rfl) (.inr rfl) (.inr rfl) (.inr
        rfl) (.inr rfl) (.inr rfl) (.inr rfl) (.inr rfl) (.inr rfl) (.inr rfl) (.inr rfl) (.inr rfl) (.inl rfl) (.inr
            rfl) (.inr rfl) (.inr rfl) (.inr rfl) (.inr rfl) (.inr rfl) (.inr rfl) (.inr rfl) (.inr rfl) (.inr rfl)
                (.inr rfl) (.inr rfl) (.inr rfl) (.inr rfl) (.inr rfl) (.inr rfl) (.inr rfl) (.inr rfl) (.inr rfl)
                    (.inr rfl) (.inr rfl) (.inr rfl) (.inr rfl) (.inr rfl) (.inr rfl) (.inr rfl) (.inr rfl) (.inr
                        rfl) (.inr rfl) (.inr rfl)
    exact Within.refl _
  · refine Ends.next ?_
    exact Within.refl _

theorem execForecastPublished_within (dt : Nat) (s : State) :
    Ends (Within 0x1000800000001008e []) s (execForecastPublished dt s) := by
  unfold execForecastPublished
  extract_lets +onlyGivenNames -merge -underBinder x1
  have hx1 : Within 0x1000800000001008e [] s x1 := by
    unfold x1
    exact (Within.mono (State.elapse_within ..) rfl)
  split
  · refine Ends.ite ?_ ?_
    · refine Ends.next ?_
      exact hx1
    · extract_lets +onlyGivenNames -merge -underBinder x2
      extract_lets +onlyGivenNames -merge -underBinder x3
      extract_lets +onlyGivenNames -merge -underBinder x4
      extract_lets +onlyGivenNames -merge -underBinder x5
      extract_lets +onlyGivenNames -merge -underBinder x6
      have hx6 : Within 0x1000800000001008e [] s x6 := by
        unfold x6
        refine Within.foldl ?_ (fun t7 a8 h9 => ?_)
        · exact hx1
        · refine Within.trans ?_ (Within.mono (State.modChan_within ..) rfl)
          exact h9
      extract_lets +onlyGivenNames -merge -underBinder x10
      extract_lets +onlyGivenNames -merge -underBinder x11 x12
      have hx12 : Within 0x1000800000001008e [] s x12 := by
        unfold x12
        try clear_value x6
        refine Within.upd ?_ rfl rfl (.inr rfl) (.inr rfl) (.inr rfl) (.inr rfl) (.inr rfl) (.inr rfl) (.inr rfl)
            (.inr rfl) (.inr rfl) (.inr rfl) (.inr rfl) (.inr rfl) (.inr rfl) (.inr rfl) (.inr rfl) (.inr rfl) (.inl
                rfl) (.inr rfl) (.inr rfl) (.inr rfl) (.inr rfl) (.inr rfl) (.inr rfl) (.inr rfl) (.inr rfl) (.inr
                    rfl) (.inr rfl) (.inr rfl) (.inr rfl) (.inr rfl) (.inr rfl) (.inr rfl) (.inr rfl) (.inr rfl)
                        (.inr rfl) (.inr rfl) (.inr rfl) (.inr rfl) (.inr rfl) (.inr rfl) (.inr rfl) (.inr rfl) (.inr
                            rfl) (.inr rfl) (.inr rfl) (.inr rfl) (.inr rfl)
        exact hx6
      refine Ends.next ?_
      refine Within.trans ?_ (Within.mono (State.edgeSource_within ..) rfl)
      refine Within.trans ?_ (Within.kind (State.wr64_within ..) rfl .est rfl rfl)
      refine Within.trans ?_ (Within.mono (State.showPcap_within ..) rfl)
      exact hx12
  · refine Ends.next ?_
    exact hx1

theorem State.clampTick_within (s : State) :
    Within 0x10000000000010000 [] s (State.clampTick s) := by
  unfold State.clampTick
  split
  · split
    · extract_lets +onlyGivenNames -merge -underBinder x1 x2
      have hx2 : Within 0x10000000000010000 [] s x2 := by
        unfold x2
        refine Within.upd ?_ rfl rfl (.inr rfl) (.inr rfl) (.inr rfl) (.inr rfl) (.inr rfl) (.inr rfl) (.inr rfl)
            (.inr rfl) (.inr rfl) (.inr rfl) (.inr rfl) (.inr rfl) (.inr rfl) (.inr rfl) (.inr rfl) (.inr rfl) (.inl
                rfl) (.inr rfl) (.inr rfl) (.inr rfl) (.inr rfl) (.inr rfl) (.inr rfl) (.inr rfl) (.inr rfl) (.inr
                    rfl) (.inr rfl) (.inr rfl) (.inr rfl) (.inr rfl) (.inr rfl) (.inr rfl) (.inr rfl) (.inr rfl)
                        (.inr rfl) (.inr rfl) (.inr rfl) (.inr rfl) (.inr rfl) (.inr rfl) (.inr rfl) (.inr rfl) (.inr
                            rfl) (.inr rfl) (.inr rfl) (.inr rfl) (.inr rfl)
        exact Within.refl _
      refine Within.trans ?_ (Within.kind (State.wrn_within ..) rfl .est rfl rfl)
      refine Within.trans ?_ (Within.kind (State.wrn_within ..) rfl .est rfl rfl)
      exact hx2

theorem State.clampShow_within (s : State) (on : Bool) (bits : Nat) :
    Within 0x10000000080010000 [] s (State.clampShow s on bits) := by
  unfold State.clampShow
  extract_lets +onlyGivenNames -merge -underBinder x1
  have hx1 : Within 0x10000000080010000 [] s x1 := by
    unfold x1
    exact (Within.kind (State.wrf_within ..) rfl .est rfl rfl)
  refine Within.ite ?_ ?_
  · exact hx1
  · extract_lets +onlyGivenNames -merge -underBinder x2 x3
    have hx3 : Within 0x10000000080010000 [] s x3 := by
      unfold x3
      try clear_value x1
      refine Within.upd ?_ rfl rfl (.inr rfl) (.inr rfl) (.inr rfl) (.inr rfl) (.inr rfl) (.inr rfl) (.inr rfl) (.inr
          rfl) (.inr rfl) (.inr rfl) (.inr rfl) (.inr rfl) (.inr rfl) (.inr rfl) (.inr rfl) (.inr rfl) (.inl rfl)
              (.inr rfl) (.inr rfl) (.inr rfl) (.inr rfl) (.inr rfl) (.inr rfl) (.inr rfl) (.inr rfl) (.inr rfl)
                  (.inr rfl) (.inr rfl) (.inr rfl) (.inr rfl) (.inr rfl) (.inr rfl) (.inr rfl) (.inr rfl) (.inr rfl)
                      (.inr rfl) (.inr rfl) (.inr rfl) (.inr rfl) (.inr rfl) (.inr rfl) (.inr rfl) (.inr rfl) (.inr
                          rfl) (.inr rfl) (.inr rfl) (.inr rfl)
      exact hx1
    extract_lets +onlyGivenNames -merge -underBinder x4
    have hx4 : Within 0x10000000080010000 [] s x4 := by
      unfold x4
      refine Within.ite ?_ ?_
      · refine Within.trans ?_ (Within.kind (State.wrb_within ..) rfl .est rfl rfl)
        refine Within.trans ?_ (Within.kind (State.inc_within ..) rfl .est rfl rfl)
        exact hx3
      · exact hx3
    refine Within.trans ?_ (Within.mono (State.wayEntry_within ..) rfl)
    exact hx4

end Sys2Proof.Machine
end

