-- ==== Sys2Proof/Laws/FrameLoop.lean ====
section
/-! SUPPORT. What each operation of Machine/Loop.lean may change (Laws/Within.lean). -/

namespace Sys2Proof.Machine

open Sys2Proof

theorem State.loopStart_within (s : State) (n : Nat) :
    Within 0x4000000000000200000 [] s (State.loopStart s n) := by
  unfold State.loopStart
  extract_lets +onlyGivenNames -merge -underBinder x1
  extract_lets +onlyGivenNames -merge -underBinder x2
  extract_lets +onlyGivenNames -merge -underBinder x3
  extract_lets +onlyGivenNames -merge -underBinder x4
  extract_lets +onlyGivenNames -merge -underBinder x5 x6
  have hx6 : Within 0x4000000000000200000 [] s x6 := by
    unfold x6
    exact (Within.mono (State.setSlot_within ..) rfl)
  refine Within.ite ?_ ?_
  · split
    · refine Within.foldl ?_ (fun t7 a8 h9 => ?_)
      · exact hx6
      · split
        · refine Within.trans ?_ (Within.kind (State.wri_within ..) rfl .loop rfl rfl)
          exact h9
    · exact hx6
  · exact hx6

theorem State.countSats_within (s : State) (n : Nat) (k : Nat) :
    Within 0x4000008000000000080 [] s (State.countSats s n k) := by
  unfold State.countSats
  refine Within.ite ?_ ?_
  · exact Within.refl _
  · refine Within.trans ?_ (Within.kind (State.flag_within ..) rfl .loop rfl rfl)
    exact (Within.kind (State.incBy_within ..) rfl .loop rfl rfl)

theorem State.clampNow_within (s : State) :
    Within 0x10000000080010000 [] s (State.clampNow s) := by
  unfold State.clampNow
  exact (Within.mono (State.clampShow_within ..) rfl)

theorem State.dispatchTick_within (s : State) :
    Within 0x5010008000080210080 [] s (State.dispatchTick s) := by
  unfold State.dispatchTick
  extract_lets +onlyGivenNames -merge -underBinder x1
  split
  · extract_lets +onlyGivenNames -merge -underBinder x2 x3
    have hx3 : Within 0x5010008000080210080 [] s x3 := by
      unfold x3
      refine Within.upd ?_ rfl rfl (.inr rfl) (.inr rfl) (.inr rfl) (.inr rfl) (.inr rfl) (.inr rfl) (.inr rfl) (.inr
          rfl) (.inr rfl) (.inr rfl) (.inr rfl) (.inr rfl) (.inr rfl) (.inr rfl) (.inr rfl) (.inr rfl) (.inr rfl)
              (.inr rfl) (.inr rfl) (.inr rfl) (.inr rfl) (.inl rfl) (.inr rfl) (.inr rfl) (.inr rfl) (.inr rfl)
                  (.inr rfl) (.inr rfl) (.inr rfl) (.inr rfl) (.inr rfl) (.inr rfl) (.inr rfl) (.inr rfl) (.inr rfl)
                      (.inr rfl) (.inr rfl) (.inr rfl) (.inr rfl) (.inr rfl) (.inr rfl) (.inr rfl) (.inr rfl) (.inr
                          rfl) (.inr rfl) (.inr rfl) (.inr rfl)
      exact Within.refl _
    extract_lets +onlyGivenNames -merge -underBinder x4
    have hx4 : Within 0x5010008000080210080 [] s x4 := by
      unfold x4
      refine Within.trans ?_ (Within.mono (State.clampNow_within ..) rfl)
      refine Within.trans ?_ (Within.kind (State.wri_within ..) rfl .spt rfl rfl)
      exact hx3
    split
    · split
      · refine Within.trans ?_ (Within.mono (State.countSats_within ..) rfl)
        refine Within.trans ?_ (Within.mono (State.setSlot_within ..) rfl)
        exact hx4
    · exact hx4

theorem State.plausible_within (s : State) (n : Nat) :
    Within 0x6321808000181e00280 [] s (State.plausible s n) := by
  unfold State.plausible
  extract_lets +onlyGivenNames -merge -underBinder x1
  extract_lets +onlyGivenNames -merge -underBinder x2
  split
  · exact Within.refl _
  · refine Within.ite ?_ ?_
    · exact Within.refl _
    · extract_lets +onlyGivenNames -merge -underBinder x3
      extract_lets +onlyGivenNames -merge -underBinder x4
      extract_lets +onlyGivenNames -merge -underBinder x5
      extract_lets +onlyGivenNames -merge -underBinder x6
      clear_value x4
      split
      · refine Within.ite ?_ ?_
        · exact (Within.mono (State.setSlot_within ..) rfl)
        · extract_lets +onlyGivenNames -merge -underBinder x7
          extract_lets +onlyGivenNames -merge -underBinder x8
          extract_lets +onlyGivenNames -merge -underBinder x9
          extract_lets +onlyGivenNames -merge -underBinder x10
          extract_lets +onlyGivenNames -merge -underBinder x11
          extract_lets +onlyGivenNames -merge -underBinder x12
          extract_lets +onlyGivenNames -merge -underBinder x13
          extract_lets +onlyGivenNames -merge -underBinder x14
          extract_lets +onlyGivenNames -merge -underBinder x15
          extract_lets +onlyGivenNames -merge -underBinder x16
          extract_lets +onlyGivenNames -merge -underBinder x17
          have hx17 : Within 0x6321808000181e00280 [] s x17 := by
            unfold x17
            exact (Within.mono (State.setSlot_within ..) rfl)
          extract_lets +onlyGivenNames -merge -underBinder x18
          have hx18 : Within 0x6321808000181e00280 [] s x18 := by
            unfold x18
            refine Within.trans ?_ (Within.kind (State.wrb_within ..) rfl .loop rfl rfl)
            refine Within.trans ?_ (Within.kind (State.wrf_within ..) rfl .loop rfl rfl)
            refine Within.trans ?_ (Within.kind (State.wri_within ..) rfl .loop rfl rfl)
            exact hx17
          extract_lets +onlyGivenNames -merge -underBinder x19
          have hx19 : Within 0x6321808000181e00280 [] s x19 := by
            unfold x19
            refine Within.ite ?_ ?_
            · refine Within.trans ?_ (Within.kind (State.inc_within ..) rfl .loop rfl rfl)
              refine Within.trans ?_ (Within.kind (State.flag_within ..) rfl .loop rfl rfl)
              exact hx18
            · exact hx18
          refine Within.trans ?_ (Within.mono (State.setSource_within ..) rfl)
          exact hx19
      · exact (Within.mono (State.setSlot_within ..) rfl)

theorem State.slotShow_within (s : State) (n : Nat) (t : Nat) (o : SlotStep) :
    Within 0x4000000000000400000 [] s (State.slotShow s n t o) := by
  unfold State.slotShow
  extract_lets +onlyGivenNames -merge -underBinder x1
  extract_lets +onlyGivenNames -merge -underBinder x2
  extract_lets +onlyGivenNames -merge -underBinder x3
  have hx3 : Within 0x4000000000000400000 [] s x3 := by
    unfold x3
    refine Within.trans ?_ (Within.kind (State.wrb_within ..) rfl .loop rfl rfl)
    refine Within.trans ?_ (Within.kind (State.wrb_within ..) rfl .loop rfl rfl)
    exact (Within.kind (State.wrb_within ..) rfl .loop rfl rfl)
  extract_lets +onlyGivenNames -merge -underBinder x4
  have hx4 : Within 0x4000000000000400000 [] s x4 := by
    unfold x4
    refine Within.trans ?_ (Within.kind (State.wri_within ..) rfl .loop rfl rfl)
    refine Within.trans ?_ (Within.kind (State.wri_within ..) rfl .loop rfl rfl)
    refine Within.trans ?_ (Within.kind (State.wrn_within ..) rfl .loop rfl rfl)
    exact hx3
  extract_lets +onlyGivenNames -merge -underBinder x5
  have hx5 : Within 0x4000000000000400000 [] s x5 := by
    unfold x5
    refine Within.trans ?_ (Within.kind (State.wri_within ..) rfl .loop rfl rfl)
    refine Within.trans ?_ (Within.kind (State.wri_within ..) rfl .loop rfl rfl)
    exact hx4
  split
  · refine Within.ite ?_ ?_
    · exact hx5
    · refine Within.trans ?_ (Within.mono (State.setPair_within ..) rfl)
      exact hx5
  · exact hx5

theorem State.issueJob_within (s : State) (n : Nat) (e : Nat) :
    Within 0x200000 [] s (State.issueJob s n e) := by
  unfold State.issueJob
  extract_lets +onlyGivenNames -merge -underBinder x1
  extract_lets +onlyGivenNames -merge -underBinder x2
  extract_lets +onlyGivenNames -merge -underBinder x3
  extract_lets +onlyGivenNames -merge -underBinder x4
  have hx4 : Within 0x200000 [] s x4 := by
    unfold x4
    exact (Within.mono (State.setSlot_within ..) rfl)
  try clear_value x4
  refine Within.upd ?_ rfl rfl (.inr rfl) (.inr rfl) (.inr rfl) (.inr rfl) (.inr rfl) (.inr rfl) (.inr rfl) (.inr
      rfl) (.inr rfl) (.inr rfl) (.inr rfl) (.inr rfl) (.inr rfl) (.inr rfl) (.inr rfl) (.inr rfl) (.inr rfl) (.inr
          rfl) (.inr rfl) (.inr rfl) (.inr rfl) (.inl rfl) (.inr rfl) (.inr rfl) (.inr rfl) (.inr rfl) (.inr rfl)
              (.inr rfl) (.inr rfl) (.inr rfl) (.inr rfl) (.inr rfl) (.inr rfl) (.inr rfl) (.inr rfl) (.inr rfl)
                  (.inr rfl) (.inr rfl) (.inr rfl) (.inr rfl) (.inr rfl) (.inr rfl) (.inr rfl) (.inr rfl) (.inr rfl)
                      (.inr rfl) (.inr rfl)
  exact hx4

theorem State.sampleRun_within (s : State) (n : Nat) :
    Within 0x4010008000080610080 [] s (State.sampleRun s n) := by
  unfold State.sampleRun
  extract_lets +onlyGivenNames -merge -underBinder x1
  extract_lets +onlyGivenNames -merge -underBinder x2
  split
  · extract_lets +onlyGivenNames -merge -underBinder x3
    have hx3 : Within 0x4010008000080610080 [] s x3 := by
      unfold x3
      exact (Within.mono (State.issueJob_within ..) rfl)
    extract_lets +onlyGivenNames -merge -underBinder x4
    extract_lets +onlyGivenNames -merge -underBinder x5
    extract_lets +onlyGivenNames -merge -underBinder x6
    extract_lets +onlyGivenNames -merge -underBinder x7
    have hx7 : Within 0x4010008000080610080 [] s x7 := by
      unfold x7
      refine Within.trans ?_ (Within.mono (State.countSats_within ..) rfl)
      refine Within.trans ?_ (Within.mono (State.setSlot_within ..) rfl)
      exact hx3
    extract_lets +onlyGivenNames -merge -underBinder x8
    have hx8 : Within 0x4010008000080610080 [] s x8 := by
      unfold x8
      refine Within.ite ?_ ?_
      · refine Within.trans ?_ (Within.kind (State.inc_within ..) rfl .loop rfl rfl)
        refine Within.trans ?_ (Within.kind (State.flag_within ..) rfl .loop rfl rfl)
        exact hx7
      · exact hx7
    extract_lets +onlyGivenNames -merge -underBinder x9
    have hx9 : Within 0x4010008000080610080 [] s x9 := by
      unfold x9
      refine Within.ite ?_ ?_
      · exact hx8
      · refine Within.trans ?_ (Within.kind (State.flag_within ..) rfl .loop rfl rfl)
        exact hx8
    extract_lets +onlyGivenNames -merge -underBinder x10
    have hx10 : Within 0x4010008000080610080 [] s x10 := by
      unfold x10
      refine Within.trans ?_ (Within.mono (State.slotShow_within ..) rfl)
      exact hx9
    refine Within.ite ?_ ?_
    · refine Within.trans ?_ (Within.mono (State.clampNow_within ..) rfl)
      try clear_value x10
      refine Within.upd ?_ rfl rfl (.inr rfl) (.inr rfl) (.inr rfl) (.inr rfl) (.inr rfl) (.inr rfl) (.inr rfl) (.inr
          rfl) (.inr rfl) (.inr rfl) (.inr rfl) (.inr rfl) (.inr rfl) (.inr rfl) (.inr rfl) (.inr rfl) (.inr rfl)
              (.inr rfl) (.inr rfl) (.inr rfl) (.inr rfl) (.inl rfl) (.inr rfl) (.inr rfl) (.inr rfl) (.inr rfl)
                  (.inr rfl) (.inr rfl) (.inr rfl) (.inr rfl) (.inr rfl) (.inr rfl) (.inr rfl) (.inr rfl) (.inr rfl)
                      (.inr rfl) (.inr rfl) (.inr rfl) (.inr rfl) (.inr rfl) (.inr rfl) (.inr rfl) (.inr rfl) (.inr
                          rfl) (.inr rfl) (.inr rfl) (.inr rfl)
      exact hx10
    · exact hx10

theorem State.slotRerun_within (s : State) (n : Nat) (covered : Nat) (v : SlotSt) :
    Within 0x4000000000000600000 [] s (State.slotRerun s n covered v) := by
  unfold State.slotRerun
  split
  · extract_lets +onlyGivenNames -merge -underBinder x1
    have hx1 : Within 0x4000000000000600000 [] s x1 := by
      unfold x1
      exact (Within.mono (State.setSlot_within ..) rfl)
    split
    · refine Within.trans ?_ (Within.mono (State.slotShow_within ..) rfl)
      exact hx1
    · exact hx1

theorem State.controlOutput_within (s : State) (i : Nat) (w : BitWindow) :
    Within 0x4000000080002000 [] s (State.controlOutput s i w) := by
  unfold State.controlOutput
  extract_lets +onlyGivenNames -merge -underBinder x1
  refine Within.ite ?_ ?_
  · exact Within.refl _
  · extract_lets +onlyGivenNames -merge -underBinder x2
    refine Within.trans ?_ (Within.mono (State.setModIn_within ..) rfl)
    refine Within.trans ?_ (Within.mono (State.burstPush_within ..) rfl)
    exact (Within.kind (State.wri_within ..) rfl .mod rfl rfl)

theorem State.takeControl_within (s : State) (x : ControlInputs) :
    Within 0x4000000080002000 [] s (State.takeControl s x) := by
  unfold State.takeControl
  refine Within.foldl ?_ (fun t1 a2 h3 => ?_)
  · exact Within.refl _
  · refine Within.trans ?_ (Within.mono (State.controlOutput_within ..) rfl)
    exact h3

theorem execControlSample_within (dt : Nat) (slot : Fin 8) (x : ControlInputs) (s : State) :
    Ends (Within 0x6335808000181e1228e []) s (execControlSample dt slot x s) := by
  unfold execControlSample
  extract_lets +onlyGivenNames -merge -underBinder x1
  have hx1 : Within 0x6335808000181e1228e [] s x1 := by
    unfold x1
    refine Within.trans ?_ (Within.mono (State.protEval_within ..) rfl)
    refine Within.trans ?_ (Within.mono (State.takeControl_within ..) rfl)
    exact (Within.mono (State.elapse_within ..) rfl)
  refine Ends.ite ?_ ?_
  · refine Ends.next ?_
    refine Within.trans ?_ (Within.mono (State.plausible_within ..) rfl)
    refine Within.trans ?_ (Within.mono (State.sampleRun_within ..) rfl)
    exact hx1
  · refine Ends.next ?_
    exact hx1

theorem execLoopStateDigest_within (s : State) :
    Ends (Within 0x1fffffffd4fffffffeff []) s (execLoopStateDigest s) := by
  unfold execLoopStateDigest
  refine Ends.ite ?_ ?_
  · refine Ends.next ?_
    exact Within.refl _
  · extract_lets +onlyGivenNames -merge -underBinder x1
    extract_lets +onlyGivenNames -merge -underBinder x2 x3
    have hx3 : Within 0x1fffffffd4fffffffeff [] s x3 := by
      unfold x3
      refine Within.upd ?_ rfl rfl (.inr rfl) (.inr rfl) (.inr rfl) (.inr rfl) (.inr rfl) (.inr rfl) (.inr rfl) (.inr
          rfl) (.inr rfl) (.inr rfl) (.inr rfl) (.inr rfl) (.inr rfl) (.inr rfl) (.inr rfl) (.inr rfl) (.inr rfl)
              (.inr rfl) (.inr rfl) (.inr rfl) (.inr rfl) (.inl rfl) (.inr rfl) (.inr rfl) (.inr rfl) (.inr rfl)
                  (.inr rfl) (.inr rfl) (.inr rfl) (.inr rfl) (.inr rfl) (.inr rfl) (.inr rfl) (.inr rfl) (.inr rfl)
                      (.inr rfl) (.inr rfl) (.inr rfl) (.inr rfl) (.inr rfl) (.inr rfl) (.inr rfl) (.inr rfl) (.inr
                          rfl) (.inr rfl) (.inr rfl) (.inr rfl)
      exact Within.refl _
    extract_lets +onlyGivenNames -merge -underBinder x4
    have hx4 : Within 0x1fffffffd4fffffffeff [] s x4 := by
      unfold x4
      refine Within.foldl ?_ (fun t5 a6 h7 => ?_)
      · exact hx3
      · refine Within.trans ?_ (Within.kind (State.wrn_within ..) rfl .loop rfl rfl)
        exact h7
    extract_lets +onlyGivenNames -merge -underBinder x8
    extract_lets +onlyGivenNames -merge -underBinder x9
    extract_lets +onlyGivenNames -merge -underBinder x10
    have hx10 : Within 0x1fffffffd4fffffffeff [] s x10 := by
      unfold x10
      refine Within.foldl ?_ (fun t11 a12 h13 => ?_)
      · exact hx4
      · extract_lets +onlyGivenNames -merge -underBinder x14
        refine Within.trans ?_ (Within.mono (State.setSlot_within ..) rfl)
        exact h13
    extract_lets +onlyGivenNames -merge -underBinder x15 x16
    have hx16 : Within 0x1fffffffd4fffffffeff [] s x16 := by
      unfold x16
      refine Within.upd ?_ rfl rfl (.inr rfl) (.inr rfl) (.inr rfl) (.inr rfl) (.inr rfl) (.inr rfl) (.inr rfl) (.inr
          rfl) (.inr rfl) (.inr rfl) (.inr rfl) (.inr rfl) (.inr rfl) (.inr rfl) (.inr rfl) (.inr rfl) (.inr rfl)
              (.inr rfl) (.inr rfl) (.inr rfl) (.inr rfl) (.inr rfl) (.inr rfl) (.inr rfl) (.inr rfl) (.inr rfl)
                  (.inr rfl) (.inr rfl) (.inr rfl) (.inl rfl) (.inr rfl) (.inr rfl) (.inr rfl) (.inr rfl) (.inr rfl)
                      (.inr rfl) (.inr rfl) (.inr rfl) (.inr rfl) (.inr rfl) (.inr rfl) (.inr rfl) (.inr rfl) (.inr
                          rfl) (.inr rfl) (.inr rfl) (.inr rfl)
      exact hx10
    refine Ends.next ?_
    refine Within.trans ?_ (Within.mono (State.trialOut_within ..) rfl)
    refine Within.trans ?_ (Within.mono (State.compareLoop_within ..) rfl)
    refine Within.trans ?_ (Within.mono (State.answerSlots_within ..) rfl)
    refine Within.trans ?_ (Within.mono (State.sendFrame_within ..) rfl)
    exact hx16

end Sys2Proof.Machine
end

