-- ==== Sys2Proof/Laws/FramePwm.lean ====
section
/-! SUPPORT. What each operation of Machine/Pwm.lean may change (Laws/Within.lean). -/

namespace Sys2Proof.Machine

open Sys2Proof

theorem execPwmUpdatePoint_within (dt : Nat) (pair : Fin 8) (centre : Bool) (s : State) :
    Ends (Within 0x6321808000181e0028e []) s (execPwmUpdatePoint dt pair centre s) := by
  unfold execPwmUpdatePoint
  extract_lets +onlyGivenNames -merge -underBinder x1
  have hx1 : Within 0x6321808000181e0028e [] s x1 := by
    unfold x1
    refine Within.trans ?_ (Within.mono (State.protEval_within ..) rfl)
    exact (Within.mono (State.elapse_within ..) rfl)
  extract_lets +onlyGivenNames -merge -underBinder x2
  extract_lets +onlyGivenNames -merge -underBinder x3
  extract_lets +onlyGivenNames -merge -underBinder x4
  extract_lets +onlyGivenNames -merge -underBinder x5
  refine Ends.ite ?_ ?_
  · refine Ends.next ?_
    exact hx1
  · extract_lets +onlyGivenNames -merge -underBinder x6
    extract_lets +onlyGivenNames -merge -underBinder x7
    extract_lets +onlyGivenNames -merge -underBinder x8
    clear_value x6 x7 x8
    split
    · refine Ends.next ?_
      exact hx1
    · extract_lets +onlyGivenNames -merge -underBinder x9
      extract_lets +onlyGivenNames -merge -underBinder x10
      extract_lets +onlyGivenNames -merge -underBinder x11
      split
      · extract_lets +onlyGivenNames -merge -underBinder x12
        have hx12 : Within 0x6321808000181e0028e [] s x12 := by
          unfold x12
          refine Within.trans ?_ (Within.mono (State.setPair_within ..) rfl)
          exact hx1
        refine Ends.next ?_
        refine Within.trans ?_ (Within.mono (State.send_within ..) rfl)
        refine Within.trans ?_ (Within.kind (State.wrn_within ..) rfl .pwm rfl rfl)
        exact hx12

end Sys2Proof.Machine
end

