-- ==== Sys2Proof/Laws/FrameSetPoint.lean ====
section
/-! SUPPORT. What each operation of Machine/SetPoint.lean may change (Laws/Within.lean). -/

namespace Sys2Proof.Machine

open Sys2Proof

theorem execSpHostWrite_within (dt : Nat) (slot : Fin 8) (value : Word) (s : State) :
    Ends (Within 0x2800020e []) s (execSpHostWrite dt slot value s) := by
  unfold execSpHostWrite
  refine Ends.next ?_
  refine Within.hostDo ?_ (fun t1 h2 => ?_)
  · exact (Within.mono (State.elapse_within ..) rfl)
  · refine Within.trans ?_ (Within.mono (State.hostEvent_within ..) rfl)
    exact h2

theorem execMeasWrite_within (dt : Nat) (slot : Fin 8) (value : Word) (s : State) :
    Ends (Within 0x2800020e []) s (execMeasWrite dt slot value s) := by
  unfold execMeasWrite
  refine Ends.next ?_
  refine Within.hostDo ?_ (fun t1 h2 => ?_)
  · exact (Within.mono (State.elapse_within ..) rfl)
  · refine Within.trans ?_ (Within.mono (State.hostEvent_within ..) rfl)
    exact h2

theorem execDutyWrite_within (dt : Nat) (pair : Fin 8) (value : Word) (s : State) :
    Ends (Within 0x2800020e []) s (execDutyWrite dt pair value s) := by
  unfold execDutyWrite
  refine Ends.next ?_
  refine Within.hostDo ?_ (fun t1 h2 => ?_)
  · exact (Within.mono (State.elapse_within ..) rfl)
  · refine Within.trans ?_ (Within.mono (State.hostEvent_within ..) rfl)
    exact h2

theorem execDispSpWrite_within (dt : Nat) (value : Word) (s : State) :
    Ends (Within 0x2800020e []) s (execDispSpWrite dt value s) := by
  unfold execDispSpWrite
  refine Ends.next ?_
  refine Within.hostDo ?_ (fun t1 h2 => ?_)
  · exact (Within.mono (State.elapse_within ..) rfl)
  · refine Within.trans ?_ (Within.mono (State.hostEvent_within ..) rfl)
    exact h2

theorem State.loopEffect_within (s : State) (p : Page) (o : Nat) (v : Word) :
    Within 0x6321808000181e00280 [p] s (State.loopEffect s p o v) := by
  unfold State.loopEffect
  extract_lets +onlyGivenNames -merge -underBinder x1
  have hx1 : Within 0x6321808000181e00280 [p] s x1 := by
    unfold x1
    exact (Within.page (State.wr_within ..) rfl)
  split
  · refine Within.ite ?_ ?_
    · refine Within.trans ?_ (Within.mono (State.protEval_within ..) rfl)
      refine Within.trans ?_ (Within.mono (State.setSlot_within ..) rfl)
      exact hx1
    · exact hx1
  · extract_lets +onlyGivenNames -merge -underBinder x2
    refine Within.ite ?_ ?_
    · refine Within.trans ?_ (Within.mono (State.setPair_within ..) rfl)
      exact hx1
    · exact hx1
  · exact hx1

theorem State.slotLos_within (s : State) (kind : Nat) (k : Nat) (los : Bool) :
    Within 0x4000008000000000080 [] s (State.slotLos s kind k los) := by
  unfold State.slotLos
  refine Within.foldl ?_ (fun t1 a2 h3 => ?_)
  · exact Within.refl _
  · extract_lets +onlyGivenNames -merge -underBinder x4
    refine Within.ite ?_ ?_
    · extract_lets +onlyGivenNames -merge -underBinder x5
      have hx5 : Within 0x4000008000000000080 [] s x5 := by
        unfold x5
        refine Within.ite ?_ ?_
        · refine Within.trans ?_ (Within.kind (State.flag_within ..) rfl .loop rfl rfl)
          exact h3
        · exact h3
      refine Within.trans ?_ (Within.kind (State.wrb_within ..) rfl .loop rfl rfl)
      exact hx5
    · exact h3

theorem State.spinX_within (s : State) (k : Nat) (high : Nat) (period : Nat) :
    Within 0x100 [] s (State.spinX s k high period).2 := by
  unfold State.spinX
  extract_lets +onlyGivenNames -merge -underBinder x1
  extract_lets +onlyGivenNames -merge -underBinder x2
  split
  · refine Within.pair ?_
    exact Within.refl _
  · split
    rename_i y3 y4 e5
    have hy4 : Within 0x100 [] s y4 := by
      refine Within.snd e5 ?_
      exact (Within.mono (State.draw_within ..) rfl)
    refine Within.pair ?_
    exact hy4

theorem execSpinPeriod_within (dt : Nat) (k : Fin 4) (high : Nat) (period : Nat) (s : State) :
    Ends (Within 0x100000000000020010e []) s (execSpinPeriod dt k high period s) := by
  unfold execSpinPeriod
  extract_lets +onlyGivenNames -merge -underBinder x1
  have hx1 : Within 0x100000000000020010e [] s x1 := by
    unfold x1
    exact (Within.mono (State.elapse_within ..) rfl)
  extract_lets +onlyGivenNames -merge -underBinder x2
  refine Ends.ite ?_ ?_
  · refine Ends.next ?_
    exact hx1
  · split
    rename_i y3 y4 e5
    have hy4 : Within 0x100000000000020010e [] s y4 := by
      refine Within.snd e5 ?_
      refine Within.trans ?_ (Within.mono (State.spinX_within ..) rfl)
      exact hx1
    extract_lets +onlyGivenNames -merge -underBinder x6
    have hx6 : Within 0x100000000000020010e [] s x6 := by
      unfold x6
      refine Within.trans ?_ (Within.kind (State.wrn_within ..) rfl .spt rfl rfl)
      exact hy4
    extract_lets +onlyGivenNames -merge -underBinder x7
    extract_lets +onlyGivenNames -merge -underBinder x8
    refine Ends.ite ?_ ?_
    · refine Ends.next ?_
      refine Within.trans ?_ (Within.mono (State.setSpin_within ..) rfl)
      exact hx6
    · extract_lets +onlyGivenNames -merge -underBinder x9
      extract_lets +onlyGivenNames -merge -underBinder x10
      extract_lets +onlyGivenNames -merge -underBinder x11
      refine Ends.ite ?_ ?_
      · extract_lets +onlyGivenNames -merge -underBinder x12
        extract_lets +onlyGivenNames -merge -underBinder x13
        refine Ends.next ?_
        refine Within.trans ?_ (Within.mono (State.setSpin_within ..) rfl)
        exact hx6
      · extract_lets +onlyGivenNames -merge -underBinder x14
        refine Ends.next ?_
        refine Within.trans ?_ (Within.mono (State.setSpin_within ..) rfl)
        exact hx6

theorem execSpinLosTimeout_within (dt : Nat) (k : Fin 4) (s : State) :
    Ends (Within 0x20000e []) s (execSpinLosTimeout dt k s) := by
  unfold execSpinLosTimeout
  extract_lets +onlyGivenNames -merge -underBinder x1
  have hx1 : Within 0x20000e [] s x1 := by
    unfold x1
    exact (Within.mono (State.elapse_within ..) rfl)
  extract_lets +onlyGivenNames -merge -underBinder x2
  refine Ends.ite ?_ ?_
  · refine Ends.next ?_
    refine Within.trans ?_ (Within.mono (State.setSpin_within ..) rfl)
    exact hx1
  · refine Ends.next ?_
    exact hx1

theorem State.spinTick_within (s : State) :
    Within 0x28200200 [] s (State.spinTick s) := by
  unfold State.spinTick
  refine Within.ite ?_ ?_
  · exact Within.refl _
  · refine Within.foldl ?_ (fun t1 a2 h3 => ?_)
    · exact Within.refl _
    · refine Within.ite ?_ ?_
      · exact h3
      · extract_lets +onlyGivenNames -merge -underBinder x4
        extract_lets +onlyGivenNames -merge -underBinder x5
        refine Within.ite ?_ ?_
        · exact h3
        · extract_lets +onlyGivenNames -merge -underBinder x6
          have hx6 : Within 0x28200200 [] s x6 := by
            unfold x6
            refine Within.trans ?_ (Within.mono (State.setSpin_within ..) rfl)
            exact h3
          refine Within.trans ?_ (Within.mono (State.acceptEvent_within ..) rfl)
          exact hx6

theorem State.spinEffect_within (s : State) (k : Nat) (los : Bool) (x : Int) :
    Within 0x5000008000000200080 [] s (State.spinEffect s k los x) := by
  unfold State.spinEffect
  extract_lets +onlyGivenNames -merge -underBinder x1
  extract_lets +onlyGivenNames -merge -underBinder x2
  extract_lets +onlyGivenNames -merge -underBinder x3
  have hx3 : Within 0x5000008000000200080 [] s x3 := by
    unfold x3
    exact (Within.mono (State.setSpin_within ..) rfl)
  extract_lets +onlyGivenNames -merge -underBinder x4
  have hx4 : Within 0x5000008000000200080 [] s x4 := by
    unfold x4
    refine Within.trans ?_ (Within.kind (State.wri_within ..) rfl .spt rfl rfl)
    exact hx3
  extract_lets +onlyGivenNames -merge -underBinder x5
  have hx5 : Within 0x5000008000000200080 [] s x5 := by
    unfold x5
    refine Within.ite ?_ ?_
    · refine Within.trans ?_ (Within.kind (State.inc_within ..) rfl .spt rfl rfl)
      refine Within.trans ?_ (Within.kind (State.flag_within ..) rfl .spt rfl rfl)
      exact hx4
    · exact hx4
  refine Within.trans ?_ (Within.mono (State.slotLos_within ..) rfl)
  refine Within.trans ?_ (Within.kind (State.wrb_within ..) rfl .spt rfl rfl)
  exact hx5

theorem State.setStreamCount_within (s : State) (k : Nat) (n : Nat) :
    Within 0x10000010000200000 [] s (State.setStreamCount s k n) := by
  unfold State.setStreamCount
  extract_lets +onlyGivenNames -merge -underBinder x1 x2
  have hx2 : Within 0x10000010000200000 [] s x2 := by
    unfold x2
    exact (Within.mono (State.setStream_within ..) rfl)
  refine Within.ite ?_ ?_
  · refine Within.trans ?_ (Within.mono (State.writeDeferred_within ..) rfl)
    exact hx2
  · try clear_value x2
    refine Within.upd ?_ rfl rfl (.inr rfl) (.inr rfl) (.inr rfl) (.inr rfl) (.inr rfl) (.inr rfl) (.inr rfl) (.inr
        rfl) (.inr rfl) (.inr rfl) (.inr rfl) (.inr rfl) (.inr rfl) (.inr rfl) (.inr rfl) (.inr rfl) (.inr rfl) (.inr
            rfl) (.inr rfl) (.inr rfl) (.inr rfl) (.inr rfl) (.inr rfl) (.inr rfl) (.inr rfl) (.inr rfl) (.inr rfl)
                (.inr rfl) (.inr rfl) (.inr rfl) (.inr rfl) (.inr rfl) (.inr rfl) (.inr rfl) (.inr rfl) (.inr rfl)
                    (.inr rfl) (.inr rfl) (.inr rfl) (.inr rfl) (.inl rfl) (.inr rfl) (.inr rfl) (.inr rfl) (.inr
                        rfl) (.inr rfl) (.inr rfl)
    exact hx2

theorem State.streamFrame_within (s : State) (k : Nat) (b : List Byte) :
    Within 0x1010008010028200280 [] s (State.streamFrame s k b) := by
  unfold State.streamFrame
  refine Within.ite ?_ ?_
  · exact Within.refl _
  · refine Within.ite ?_ ?_
    · refine Within.trans ?_ (Within.kind (State.flag_within ..) rfl .spt rfl rfl)
      exact (Within.kind (State.inc_within ..) rfl .spt rfl rfl)
    · refine Within.ite ?_ ?_
      · exact (Within.mono (State.setStream_within ..) rfl)
      · extract_lets +onlyGivenNames -merge -underBinder x1
        extract_lets +onlyGivenNames -merge -underBinder x2
        have hx2 : Within 0x1010008010028200280 [] s x2 := by
          unfold x2
          exact (Within.mono (State.setStreamCount_within ..) rfl)
        extract_lets +onlyGivenNames -merge -underBinder x3 x4
        have hx4 : Within 0x1010008010028200280 [] s x4 := by
          unfold x4
          refine Within.trans ?_ (Within.mono (State.setStream_within ..) rfl)
          exact hx2
        refine Within.trans ?_ (Within.mono (State.acceptEvent_within ..) rfl)
        exact hx4

theorem State.streamsResume_within (s : State) :
    Within 0x1010008010028200280 [] s (State.streamsResume s) := by
  unfold State.streamsResume
  refine Within.foldl ?_ (fun t1 a2 h3 => ?_)
  · exact Within.refl _
  · extract_lets +onlyGivenNames -merge -underBinder x4
    extract_lets +onlyGivenNames -merge -underBinder x5
    have hx5 : Within 0x1010008010028200280 [] s x5 := by
      unfold x5
      refine Within.ite ?_ ?_
      · refine Within.trans ?_ (Within.mono (State.setStreamCount_within ..) rfl)
        exact h3
      · exact h3
    split
    · refine Within.trans ?_ (Within.mono (State.streamFrame_within ..) rfl)
      refine Within.trans ?_ (Within.mono (State.setStream_within ..) rfl)
      exact hx5
    · exact hx5

theorem execSetPointStreamFrame_within (dt : Nat) (k : Fin 8) (bytes : List Byte) (s : State) :
    Ends (Within 0x101000801002820028e []) s (execSetPointStreamFrame dt k bytes s) := by
  unfold execSetPointStreamFrame
  refine Ends.next ?_
  refine Within.trans ?_ (Within.mono (State.streamFrame_within ..) rfl)
  exact (Within.mono (State.elapse_within ..) rfl)

theorem execStreamTimeout_within (dt : Nat) (k : Fin 8) (s : State) :
    Ends (Within 0x2820020e []) s (execStreamTimeout dt k s) := by
  unfold execStreamTimeout
  extract_lets +onlyGivenNames -merge -underBinder x1
  have hx1 : Within 0x2820020e [] s x1 := by
    unfold x1
    exact (Within.mono (State.elapse_within ..) rfl)
  extract_lets +onlyGivenNames -merge -underBinder x2
  extract_lets +onlyGivenNames -merge -underBinder x3
  refine Ends.ite ?_ ?_
  · extract_lets +onlyGivenNames -merge -underBinder x4
    extract_lets +onlyGivenNames -merge -underBinder x5
    have hx5 : Within 0x2820020e [] s x5 := by
      unfold x5
      refine Within.trans ?_ (Within.mono (State.setStream_within ..) rfl)
      exact hx1
    refine Ends.next ?_
    refine Within.trans ?_ (Within.mono (State.acceptEvent_within ..) rfl)
    exact hx5
  · refine Ends.next ?_
    exact hx1

theorem State.streamEffect_within (s : State) (k : Nat) (los : Bool) (x : Int) (count : Nat) :
    Within 0x5010008010000200080 [] s (State.streamEffect s k los x count) := by
  unfold State.streamEffect
  extract_lets +onlyGivenNames -merge -underBinder x1
  extract_lets +onlyGivenNames -merge -underBinder x2
  have hx2 : Within 0x5010008010000200080 [] s x2 := by
    unfold x2
    refine Within.ite ?_ ?_
    · exact (Within.mono (State.setStreamCount_within ..) rfl)
    · exact Within.refl _
  extract_lets +onlyGivenNames -merge -underBinder x3
  extract_lets +onlyGivenNames -merge -underBinder x4
  extract_lets +onlyGivenNames -merge -underBinder x5
  have hx5 : Within 0x5010008010000200080 [] s x5 := by
    unfold x5
    refine Within.trans ?_ (Within.mono (State.setStream_within ..) rfl)
    exact hx2
  extract_lets +onlyGivenNames -merge -underBinder x6
  have hx6 : Within 0x5010008010000200080 [] s x6 := by
    unfold x6
    refine Within.ite ?_ ?_
    · refine Within.trans ?_ (Within.kind (State.inc_within ..) rfl .spt rfl rfl)
      refine Within.trans ?_ (Within.kind (State.flag_within ..) rfl .spt rfl rfl)
      exact hx5
    · exact hx5
  extract_lets +onlyGivenNames -merge -underBinder x7
  have hx7 : Within 0x5010008010000200080 [] s x7 := by
    unfold x7
    refine Within.trans ?_ (Within.mono (State.slotLos_within ..) rfl)
    refine Within.trans ?_ (Within.kind (State.wrb_within ..) rfl .spt rfl rfl)
    exact hx6
  refine Within.ite ?_ ?_
  · refine Within.foldl ?_ (fun t8 a9 h10 => ?_)
    · exact hx7
    · extract_lets +onlyGivenNames -merge -underBinder x11
      refine Within.ite ?_ ?_
      · extract_lets +onlyGivenNames -merge -underBinder x12
        have hx12 : Within 0x5010008010000200080 [] s x12 := by
          unfold x12
          refine Within.ite ?_ ?_
          · refine Within.trans ?_ (Within.kind (State.flag_within ..) rfl .loop rfl rfl)
            exact h10
          · exact h10
        refine Within.trans ?_ (Within.kind (State.wrb_within ..) rfl .loop rfl rfl)
        exact hx12
      · exact h10
  · exact hx7

theorem State.setPointEffect_within (s : State) (c : List Byte) :
    Within 0x5010008010000200080 [] s (State.setPointEffect s c) := by
  unfold State.setPointEffect
  extract_lets +onlyGivenNames -merge -underBinder x1
  extract_lets +onlyGivenNames -merge -underBinder x2
  extract_lets +onlyGivenNames -merge -underBinder x3
  refine Within.ite ?_ ?_
  · exact (Within.mono (State.streamEffect_within ..) rfl)
  · exact (Within.mono (State.spinEffect_within ..) rfl)

theorem execStagePathSample_within (dt : Nat) (input : Fin 12) (w : BitWindow) (s : State) :
    Ends (Within 0x6325808000181e82a8e []) s (execStagePathSample dt input w s) := by
  unfold execStagePathSample
  extract_lets +onlyGivenNames -merge -underBinder x1
  have hx1 : Within 0x6325808000181e82a8e [] s x1 := by
    unfold x1
    exact (Within.mono (State.elapse_within ..) rfl)
  extract_lets +onlyGivenNames -merge -underBinder x2
  refine Ends.ite ?_ ?_
  · refine Ends.next ?_
    exact hx1
  · extract_lets +onlyGivenNames -merge -underBinder x3
    extract_lets +onlyGivenNames -merge -underBinder x4
    extract_lets +onlyGivenNames -merge -underBinder x5
    extract_lets +onlyGivenNames -merge -underBinder x6
    have hx6 : Within 0x6325808000181e82a8e [] s x6 := by
      unfold x6
      refine Within.trans ?_ (Within.kind (State.wri_within ..) rfl .mod rfl rfl)
      exact hx1
    extract_lets +onlyGivenNames -merge -underBinder x7
    have hx7 : Within 0x6325808000181e82a8e [] s x7 := by
      unfold x7
      refine Within.trans ?_ (Within.kind (State.wr64_within ..) rfl .mod rfl rfl)
      exact hx6
    extract_lets +onlyGivenNames -merge -underBinder x8 x9
    have hx9 : Within 0x6325808000181e82a8e [] s x9 := by
      unfold x9
      refine Within.ite ?_ ?_
      · refine Within.trans ?_ (Within.mono (State.setModIn_within ..) rfl)
        exact hx7
      · exact hx7
    extract_lets +onlyGivenNames -merge -underBinder x10
    extract_lets +onlyGivenNames -merge -underBinder x11
    have hx11 : Within 0x6325808000181e82a8e [] s x11 := by
      unfold x11
      refine Within.ite ?_ ?_
      · refine Within.trans ?_ (Within.mono (State.quietSample_within ..) rfl)
        exact hx9
      · exact hx9
    extract_lets +onlyGivenNames -merge -underBinder x12
    have hx12 : Within 0x6325808000181e82a8e [] s x12 := by
      unfold x12
      refine Within.ite ?_ ?_
      · refine Within.trans ?_ (Within.mono (State.istrSample_within ..) rfl)
        exact hx11
      · exact hx11
    extract_lets +onlyGivenNames -merge -underBinder x13
    have hx13 : Within 0x6325808000181e82a8e [] s x13 := by
      unfold x13
      refine Within.ite ?_ ?_
      · refine Within.trans ?_ (Within.mono (State.slowCompare_within ..) rfl)
        exact hx12
      · exact hx12
    refine Ends.next ?_
    refine Within.trans ?_ (Within.mono (State.protEval_within ..) rfl)
    exact hx13

theorem execFastFilterOutput_within (dt : Nat) (input : Fin 12) (ones : Nat) (sampled : Nat) (s : State) :
    Ends (Within 0x6325808000181e0228e []) s (execFastFilterOutput dt input ones sampled s) := by
  unfold execFastFilterOutput
  refine Ends.next ?_
  refine Within.trans ?_ (Within.mono (State.protEval_within ..) rfl)
  refine Within.trans ?_ (Within.mono (State.fastOutput_within ..) rfl)
  exact (Within.mono (State.elapse_within ..) rfl)

theorem execClockLoss_within (dt : Nat) (group : Fin 2) (unsampled : Nat) (s : State) :
    Ends (Within 0x6325808000181e0228e []) s (execClockLoss dt group unsampled s) := by
  unfold execClockLoss
  extract_lets +onlyGivenNames -merge -underBinder x1
  have hx1 : Within 0x6325808000181e0228e [] s x1 := by
    unfold x1
    exact (Within.mono (State.elapse_within ..) rfl)
  refine Ends.ite ?_ ?_
  · refine Ends.next ?_
    refine Within.trans ?_ (Within.mono (State.protEval_within ..) rfl)
    refine Within.trans ?_ (Within.mono (State.clockLoss_within ..) rfl)
    exact hx1
  · refine Ends.next ?_
    exact hx1

theorem execStuckRun_within (dt : Nat) (input : Fin 12) (s : State) :
    Ends (Within 0x6325808000181e0228e []) s (execStuckRun dt input s) := by
  unfold execStuckRun
  extract_lets +onlyGivenNames -merge -underBinder x1
  have hx1 : Within 0x6325808000181e0228e [] s x1 := by
    unfold x1
    exact (Within.mono (State.elapse_within ..) rfl)
  refine Ends.ite ?_ ?_
  · refine Ends.next ?_
    refine Within.trans ?_ (Within.mono (State.protEval_within ..) rfl)
    refine Within.trans ?_ (Within.mono (State.stuckRun_within ..) rfl)
    exact hx1
  · refine Ends.next ?_
    exact hx1

end Sys2Proof.Machine
end

