-- ==== Sys2Proof/Laws/FrameSafetyInputs.lean ====
section
/-! SUPPORT. What each operation of Machine/SafetyInputs.lean may change (Laws/Within.lean). -/

namespace Sys2Proof.Machine

open Sys2Proof

theorem State.setSafeIn_within (s : State) (n : Nat) (v : SafeIn) :
    Within 0x2000000 [] s (State.setSafeIn s n v) := by
  unfold State.setSafeIn
  refine Within.upd ?_ rfl rfl (.inr rfl) (.inr rfl) (.inr rfl) (.inr rfl) (.inr rfl) (.inr rfl) (.inr rfl) (.inr
      rfl) (.inr rfl) (.inr rfl) (.inr rfl) (.inr rfl) (.inr rfl) (.inr rfl) (.inr rfl) (.inr rfl) (.inr rfl) (.inr
          rfl) (.inr rfl) (.inr rfl) (.inr rfl) (.inr rfl) (.inr rfl) (.inr rfl) (.inr rfl) (.inl rfl) (.inr rfl)
              (.inr rfl) (.inr rfl) (.inr rfl) (.inr rfl) (.inr rfl) (.inr rfl) (.inr rfl) (.inr rfl) (.inr rfl)
                  (.inr rfl) (.inr rfl) (.inr rfl) (.inr rfl) (.inr rfl) (.inr rfl) (.inr rfl) (.inr rfl) (.inr rfl)
                      (.inr rfl) (.inr rfl)
  exact Within.refl _

theorem State.safeShow_within (s : State) :
    Within 0x400000000000000000 [] s (State.safeShow s) := by
  unfold State.safeShow
  extract_lets +onlyGivenNames -merge -underBinder x1
  extract_lets +onlyGivenNames -merge -underBinder x2
  have hx2 : Within 0x400000000000000000 [] s x2 := by
    unfold x2
    refine Within.foldl ?_ (fun t3 a4 h5 => ?_)
    · exact Within.refl _
    · extract_lets +onlyGivenNames -merge -underBinder x6
      refine Within.trans ?_ (Within.kind (State.wrn_within ..) rfl .safe rfl rfl)
      exact h5
  refine Within.trans ?_ (Within.kind (State.wrn_within ..) rfl .safe rfl rfl)
  exact hx2

theorem State.safeSources_within (s : State) :
    Within 0x6721808000181e00280 [] s (State.safeSources s) := by
  unfold State.safeSources
  extract_lets +onlyGivenNames -merge -underBinder x1
  refine Within.trans ?_ (Within.mono (State.protEval_within ..) rfl)
  refine Within.trans ?_ (Within.mono (State.safeShow_within ..) rfl)
  refine Within.upd ?_ rfl rfl (.inr rfl) (.inr rfl) (.inr rfl) (.inr rfl) (.inr rfl) (.inr rfl) (.inr rfl) (.inr
      rfl) (.inr rfl) (.inr rfl) (.inr rfl) (.inr rfl) (.inr rfl) (.inr rfl) (.inr rfl) (.inr rfl) (.inr rfl) (.inr
          rfl) (.inr rfl) (.inr rfl) (.inr rfl) (.inr rfl) (.inr rfl) (.inl rfl) (.inr rfl) (.inr rfl) (.inr rfl)
              (.inr rfl) (.inr rfl) (.inr rfl) (.inr rfl) (.inr rfl) (.inr rfl) (.inr rfl) (.inr rfl) (.inr rfl)
                  (.inr rfl) (.inr rfl) (.inr rfl) (.inr rfl) (.inr rfl) (.inr rfl) (.inr rfl) (.inr rfl) (.inr rfl)
                      (.inr rfl) (.inr rfl)
  exact Within.refl _

theorem State.latchFault_within (s : State) (n : Nat) (code : Nat) :
    Within 0x420808000082000080 [] s (State.latchFault s n code) := by
  unfold State.latchFault
  extract_lets +onlyGivenNames -merge -underBinder x1
  extract_lets +onlyGivenNames -merge -underBinder x2
  have hx2 : Within 0x420808000082000080 [] s x2 := by
    unfold x2
    exact (Within.kind (State.inc_within ..) rfl .safe rfl rfl)
  extract_lets +onlyGivenNames -merge -underBinder x3
  have hx3 : Within 0x420808000082000080 [] s x3 := by
    unfold x3
    refine Within.trans ?_ (Within.kind (State.flag_within ..) rfl .safe rfl rfl)
    exact hx2
  extract_lets +onlyGivenNames -merge -underBinder x4
  have hx4 : Within 0x420808000082000080 [] s x4 := by
    unfold x4
    refine Within.ite ?_ ?_
    · exact hx3
    · refine Within.trans ?_ (Within.mono (State.trigger_within ..) rfl)
      exact hx3
  refine Within.trans ?_ (Within.mono (State.setSafeIn_within ..) rfl)
  exact hx4

theorem State.inputEval_within (s : State) (t : Nat) (n : Nat) (a : Bool) (b : Bool) :
    Within 0x420808000082000080 [] s (State.inputEval s t n a b) := by
  unfold State.inputEval
  extract_lets +onlyGivenNames -merge -underBinder x1
  extract_lets +onlyGivenNames -merge -underBinder x2
  extract_lets +onlyGivenNames -merge -underBinder x3
  extract_lets +onlyGivenNames -merge -underBinder x4
  extract_lets +onlyGivenNames -merge -underBinder x5
  extract_lets +onlyGivenNames -merge -underBinder x6
  have hx6 : Within 0x420808000082000080 [] s x6 := by
    unfold x6
    refine Within.ite ?_ ?_
    · exact (Within.kind (State.flag_within ..) rfl .safe rfl rfl)
    · exact Within.refl _
  extract_lets +onlyGivenNames -merge -underBinder x7
  extract_lets +onlyGivenNames -merge -underBinder x8
  have hx8 : Within 0x420808000082000080 [] s x8 := by
    unfold x8
    refine Within.trans ?_ (Within.mono (State.setSafeIn_within ..) rfl)
    exact hx6
  extract_lets +onlyGivenNames -merge -underBinder x9
  have hx9 : Within 0x420808000082000080 [] s x9 := by
    unfold x9
    refine Within.ite ?_ ?_
    · refine Within.trans ?_ (Within.mono (State.latchFault_within ..) rfl)
      exact hx8
    · exact hx8
  extract_lets +onlyGivenNames -merge -underBinder x10
  extract_lets +onlyGivenNames -merge -underBinder x11 x12 x13
  have hx12 : Within 0x420808000082000080 [] s x12 := by
    unfold x12
    refine Within.upd ?_ rfl rfl (.inr rfl) (.inr rfl) (.inr rfl) (.inr rfl) (.inr rfl) (.inr rfl) (.inr rfl) (.inr
        rfl) (.inr rfl) (.inr rfl) (.inr rfl) (.inr rfl) (.inr rfl) (.inr rfl) (.inr rfl) (.inr rfl) (.inr rfl) (.inr
            rfl) (.inr rfl) (.inr rfl) (.inr rfl) (.inr rfl) (.inr rfl) (.inr rfl) (.inr rfl) (.inl rfl) (.inr rfl)
                (.inr rfl) (.inr rfl) (.inr rfl) (.inr rfl) (.inr rfl) (.inr rfl) (.inr rfl) (.inr rfl) (.inr rfl)
                    (.inr rfl) (.inr rfl) (.inr rfl) (.inr rfl) (.inr rfl) (.inr rfl) (.inr rfl) (.inr rfl) (.inr
                        rfl) (.inr rfl) (.inr rfl)
    exact hx9
  have hx13 : Within 0x420808000082000080 [] s x13 := by
    unfold x13
    refine Within.ite ?_ ?_
    · refine Within.trans ?_ (Within.mono (State.setSafeIn_within ..) rfl)
      exact hx12
    · exact hx9
  extract_lets +onlyGivenNames -merge -underBinder x14
  refine Within.ite ?_ ?_
  · refine Within.upd ?_ rfl rfl (.inr rfl) (.inr rfl) (.inr rfl) (.inr rfl) (.inr rfl) (.inr rfl) (.inr rfl) (.inr
      rfl) (.inr rfl) (.inr rfl) (.inr rfl) (.inr rfl) (.inr rfl) (.inr rfl) (.inr rfl) (.inr rfl) (.inr rfl) (.inr
          rfl) (.inr rfl) (.inr rfl) (.inr rfl) (.inr rfl) (.inr rfl) (.inr rfl) (.inr rfl) (.inl rfl) (.inr rfl)
              (.inr rfl) (.inr rfl) (.inr rfl) (.inr rfl) (.inr rfl) (.inr rfl) (.inr rfl) (.inr rfl) (.inr rfl)
                  (.inr rfl) (.inr rfl) (.inr rfl) (.inr rfl) (.inr rfl) (.inr rfl) (.inr rfl) (.inr rfl) (.inr rfl)
                      (.inr rfl) (.inr rfl)
    exact hx13
  · exact hx13

theorem State.takeReads_within (s : State) (x : PinReads) :
    Within 0x2000000 [] s (State.takeReads s x) := by
  unfold State.takeReads
  extract_lets +onlyGivenNames -merge -underBinder x1
  refine Within.upd ?_ rfl rfl (.inr rfl) (.inr rfl) (.inr rfl) (.inr rfl) (.inr rfl) (.inr rfl) (.inr rfl) (.inr
      rfl) (.inr rfl) (.inr rfl) (.inr rfl) (.inr rfl) (.inr rfl) (.inr rfl) (.inr rfl) (.inr rfl) (.inr rfl) (.inr
          rfl) (.inr rfl) (.inr rfl) (.inr rfl) (.inr rfl) (.inr rfl) (.inr rfl) (.inr rfl) (.inl rfl) (.inr rfl)
              (.inr rfl) (.inr rfl) (.inr rfl) (.inr rfl) (.inr rfl) (.inr rfl) (.inr rfl) (.inr rfl) (.inr rfl)
                  (.inr rfl) (.inr rfl) (.inr rfl) (.inr rfl) (.inr rfl) (.inr rfl) (.inr rfl) (.inr rfl) (.inr rfl)
                      (.inr rfl) (.inr rfl)
  exact Within.refl _

theorem State.pressIgnored_within (s : State) :
    Within 0x400008000000000080 [] s (State.pressIgnored s) := by
  unfold State.pressIgnored
  refine Within.trans ?_ (Within.kind (State.flag_within ..) rfl .safe rfl rfl)
  exact (Within.kind (State.inc_within ..) rfl .safe rfl rfl)

theorem State.faultReset_within (s : State) (t : Nat) :
    Within 0x6f21808000187e00280 [] s (State.faultReset s t) := by
  unfold State.faultReset
  extract_lets +onlyGivenNames -merge -underBinder x1
  have hx1 : Within 0x6f21808000187e00280 [] s x1 := by
    unfold x1
    refine Within.trans ?_ (Within.kind (State.flag_within ..) rfl .safe rfl rfl)
    exact (Within.kind (State.inc_within ..) rfl .safe rfl rfl)
  extract_lets +onlyGivenNames -merge -underBinder x2 x3
  have hx3 : Within 0x6f21808000187e00280 [] s x3 := by
    unfold x3
    refine Within.upd ?_ rfl rfl (.inr rfl) (.inr rfl) (.inr rfl) (.inr rfl) (.inr rfl) (.inr rfl) (.inr rfl) (.inr
        rfl) (.inr rfl) (.inr rfl) (.inr rfl) (.inr rfl) (.inr rfl) (.inr rfl) (.inr rfl) (.inr rfl) (.inr rfl) (.inr
            rfl) (.inr rfl) (.inr rfl) (.inr rfl) (.inr rfl) (.inr rfl) (.inr rfl) (.inr rfl) (.inl rfl) (.inr rfl)
                (.inr rfl) (.inr rfl) (.inr rfl) (.inr rfl) (.inr rfl) (.inr rfl) (.inr rfl) (.inr rfl) (.inr rfl)
                    (.inr rfl) (.inr rfl) (.inr rfl) (.inr rfl) (.inr rfl) (.inr rfl) (.inr rfl) (.inr rfl) (.inr
                        rfl) (.inr rfl) (.inr rfl)
    exact hx1
  extract_lets +onlyGivenNames -merge -underBinder x4
  have hx4 : Within 0x6f21808000187e00280 [] s x4 := by
    unfold x4
    refine Within.foldl ?_ (fun t5 a6 h7 => ?_)
    · exact hx3
    · extract_lets +onlyGivenNames -merge -underBinder x8
      refine Within.ite ?_ ?_
      · refine Within.trans ?_ (Within.kind (State.wrf_within ..) rfl .slay rfl rfl)
        refine Within.trans ?_ (Within.mono (State.setConn_within ..) rfl)
        exact h7
      · exact h7
  refine Within.trans ?_ (Within.mono (State.setSource_within ..) rfl)
  exact hx4

theorem State.resetRecord_within (s : State) :
    Within 0x1008000102000080 [] s (State.resetRecord s) := by
  unfold State.resetRecord
  split
  · extract_lets +onlyGivenNames -merge -underBinder x1
    have hx1 : Within 0x1008000102000080 [] s x1 := by
      unfold x1
      exact (Within.mono (State.record_within ..) rfl)
    refine Within.upd ?_ rfl rfl (.inr rfl) (.inr rfl) (.inr rfl) (.inr rfl) (.inr rfl) (.inr rfl) (.inr rfl) (.inr
        rfl) (.inr rfl) (.inr rfl) (.inr rfl) (.inr rfl) (.inr rfl) (.inr rfl) (.inr rfl) (.inr rfl) (.inr rfl) (.inr
            rfl) (.inr rfl) (.inr rfl) (.inr rfl) (.inr rfl) (.inr rfl) (.inr rfl) (.inr rfl) (.inl rfl) (.inr rfl)
                (.inr rfl) (.inr rfl) (.inr rfl) (.inr rfl) (.inr rfl) (.inr rfl) (.inr rfl) (.inr rfl) (.inr rfl)
                    (.inr rfl) (.inr rfl) (.inr rfl) (.inr rfl) (.inr rfl) (.inr rfl) (.inr rfl) (.inr rfl) (.inr
                        rfl) (.inr rfl) (.inr rfl)
    exact hx1
  · exact Within.refl _

theorem State.resetSample_within (s : State) (t : Nat) (level : Bool) :
    Within 0x6f21808000187e00280 [] s (State.resetSample s t level) := by
  unfold State.resetSample
  extract_lets +onlyGivenNames -merge -underBinder x1
  extract_lets +onlyGivenNames -merge -underBinder x2
  have hx2 : Within 0x6f21808000187e00280 [] s x2 := by
    unfold x2
    refine Within.trans ?_ (Within.kind (State.wrf_within ..) rfl .safe rfl rfl)
    exact (Within.kind (State.wrb_within ..) rfl .safe rfl rfl)
  refine Within.ite ?_ ?_
  · refine Within.upd ?_ rfl rfl (.inr rfl) (.inr rfl) (.inr rfl) (.inr rfl) (.inr rfl) (.inr rfl) (.inr rfl) (.inr
      rfl) (.inr rfl) (.inr rfl) (.inr rfl) (.inr rfl) (.inr rfl) (.inr rfl) (.inr rfl) (.inr rfl) (.inr rfl) (.inr
          rfl) (.inr rfl) (.inr rfl) (.inr rfl) (.inr rfl) (.inr rfl) (.inr rfl) (.inr rfl) (.inl rfl) (.inr rfl)
              (.inr rfl) (.inr rfl) (.inr rfl) (.inr rfl) (.inr rfl) (.inr rfl) (.inr rfl) (.inr rfl) (.inr rfl)
                  (.inr rfl) (.inr rfl) (.inr rfl) (.inr rfl) (.inr rfl) (.inr rfl) (.inr rfl) (.inr rfl) (.inr rfl)
                      (.inr rfl) (.inr rfl)
    exact hx2
  · extract_lets +onlyGivenNames -merge -underBinder x3
    have hx3 : Within 0x6f21808000187e00280 [] s x3 := by
      unfold x3
      refine Within.upd ?_ rfl rfl (.inr rfl) (.inr rfl) (.inr rfl) (.inr rfl) (.inr rfl) (.inr rfl) (.inr rfl) (.inr
          rfl) (.inr rfl) (.inr rfl) (.inr rfl) (.inr rfl) (.inr rfl) (.inr rfl) (.inr rfl) (.inr rfl) (.inr rfl)
              (.inr rfl) (.inr rfl) (.inr rfl) (.inr rfl) (.inr rfl) (.inr rfl) (.inr rfl) (.inr rfl) (.inl rfl)
                  (.inr rfl) (.inr rfl) (.inr rfl) (.inr rfl) (.inr rfl) (.inr rfl) (.inr rfl) (.inr rfl) (.inr rfl)
                      (.inr rfl) (.inr rfl) (.inr rfl) (.inr rfl) (.inr rfl) (.inr rfl) (.inr rfl) (.inr rfl) (.inr
                          rfl) (.inr rfl) (.inr rfl) (.inr rfl)
      exact hx2
    refine Within.ite ?_ ?_
    · exact hx3
    · refine Within.ite ?_ ?_
      · refine Within.trans ?_ (Within.mono (State.pressIgnored_within ..) rfl)
        exact hx3
      · refine Within.ite ?_ ?_
        · refine Within.trans ?_ (Within.mono (State.faultReset_within ..) rfl)
          exact hx3
        · exact hx3

theorem execStuckReset_within (dt : Nat) (s : State) :
    Ends (Within 0x40100800010200008e []) s (execStuckReset dt s) := by
  unfold execStuckReset
  extract_lets +onlyGivenNames -merge -underBinder x1
  have hx1 : Within 0x40100800010200008e [] s x1 := by
    unfold x1
    exact (Within.mono (State.elapse_within ..) rfl)
  refine Ends.ite ?_ ?_
  · extract_lets +onlyGivenNames -merge -underBinder x2 x3
    have hx3 : Within 0x40100800010200008e [] s x3 := by
      unfold x3
      refine Within.upd ?_ rfl rfl (.inr rfl) (.inr rfl) (.inr rfl) (.inr rfl) (.inr rfl) (.inr rfl) (.inr rfl) (.inr
          rfl) (.inr rfl) (.inr rfl) (.inr rfl) (.inr rfl) (.inr rfl) (.inr rfl) (.inr rfl) (.inr rfl) (.inr rfl)
              (.inr rfl) (.inr rfl) (.inr rfl) (.inr rfl) (.inr rfl) (.inr rfl) (.inr rfl) (.inr rfl) (.inl rfl)
                  (.inr rfl) (.inr rfl) (.inr rfl) (.inr rfl) (.inr rfl) (.inr rfl) (.inr rfl) (.inr rfl) (.inr rfl)
                      (.inr rfl) (.inr rfl) (.inr rfl) (.inr rfl) (.inr rfl) (.inr rfl) (.inr rfl) (.inr rfl) (.inr
                          rfl) (.inr rfl) (.inr rfl) (.inr rfl)
      exact hx1
    refine Ends.next ?_
    refine Within.trans ?_ (Within.mono (State.record_within ..) rfl)
    refine Within.trans ?_ (Within.kind (State.flag_within ..) rfl .safe rfl rfl)
    refine Within.trans ?_ (Within.kind (State.wrb_within ..) rfl .safe rfl rfl)
    exact hx3
  · refine Ends.next ?_
    exact hx1

theorem execStuckResetEnd_within (dt : Nat) (s : State) :
    Ends (Within 0x40000000000200000e []) s (execStuckResetEnd dt s) := by
  unfold execStuckResetEnd
  extract_lets +onlyGivenNames -merge -underBinder x1
  have hx1 : Within 0x40000000000200000e [] s x1 := by
    unfold x1
    exact (Within.mono (State.elapse_within ..) rfl)
  refine Ends.ite ?_ ?_
  · extract_lets +onlyGivenNames -merge -underBinder x2 x3
    have hx3 : Within 0x40000000000200000e [] s x3 := by
      unfold x3
      refine Within.upd ?_ rfl rfl (.inr rfl) (.inr rfl) (.inr rfl) (.inr rfl) (.inr rfl) (.inr rfl) (.inr rfl) (.inr
          rfl) (.inr rfl) (.inr rfl) (.inr rfl) (.inr rfl) (.inr rfl) (.inr rfl) (.inr rfl) (.inr rfl) (.inr rfl)
              (.inr rfl) (.inr rfl) (.inr rfl) (.inr rfl) (.inr rfl) (.inr rfl) (.inr rfl) (.inr rfl) (.inl rfl)
                  (.inr rfl) (.inr rfl) (.inr rfl) (.inr rfl) (.inr rfl) (.inr rfl) (.inr rfl) (.inr rfl) (.inr rfl)
                      (.inr rfl) (.inr rfl) (.inr rfl) (.inr rfl) (.inr rfl) (.inr rfl) (.inr rfl) (.inr rfl) (.inr
                          rfl) (.inr rfl) (.inr rfl) (.inr rfl)
      exact hx1
    refine Ends.next ?_
    refine Within.trans ?_ (Within.kind (State.wrb_within ..) rfl .safe rfl rfl)
    exact hx3
  · refine Ends.next ?_
    exact hx1

theorem State.safeTick_within (s : State) (x : TickInputs) :
    Within 0x6f21808000187e00288 [] s (State.safeTick s x) := by
  unfold State.safeTick
  extract_lets +onlyGivenNames -merge -underBinder x1
  extract_lets +onlyGivenNames -merge -underBinder x2
  extract_lets +onlyGivenNames -merge -underBinder x3
  have hx3 : Within 0x6f21808000187e00288 [] s x3 := by
    unfold x3
    exact (Within.mono (State.takeReads_within ..) rfl)
  extract_lets +onlyGivenNames -merge -underBinder x4
  extract_lets +onlyGivenNames -merge -underBinder x5 x6 x7
  have hx7 : Within 0x6f21808000187e00288 [] s x7 := by
    unfold x7
    try clear_value x3
    refine Within.upd ?_ rfl rfl (.inr rfl) (.inr rfl) (.inr rfl) (.inl rfl) (.inr rfl) (.inr rfl) (.inr rfl) (.inr
        rfl) (.inr rfl) (.inr rfl) (.inr rfl) (.inr rfl) (.inr rfl) (.inr rfl) (.inr rfl) (.inr rfl) (.inr rfl) (.inr
            rfl) (.inr rfl) (.inr rfl) (.inr rfl) (.inr rfl) (.inr rfl) (.inr rfl) (.inr rfl) (.inl rfl) (.inr rfl)
                (.inr rfl) (.inr rfl) (.inr rfl) (.inr rfl) (.inr rfl) (.inr rfl) (.inr rfl) (.inr rfl) (.inr rfl)
                    (.inr rfl) (.inr rfl) (.inr rfl) (.inr rfl) (.inr rfl) (.inr rfl) (.inr rfl) (.inr rfl) (.inr
                        rfl) (.inr rfl) (.inr rfl)
    exact hx3
  refine Within.ite ?_ ?_
  · exact hx7
  · extract_lets +onlyGivenNames -merge -underBinder x8
    have hx8 : Within 0x6f21808000187e00288 [] s x8 := by
      unfold x8
      refine Within.trans ?_ (Within.kind (State.wr64_within ..) rfl .safe rfl rfl)
      exact hx7
    extract_lets +onlyGivenNames -merge -underBinder x9
    have hx9 : Within 0x6f21808000187e00288 [] s x9 := by
      unfold x9
      refine Within.trans ?_ (Within.mono (State.resetSample_within ..) rfl)
      exact hx8
    extract_lets +onlyGivenNames -merge -underBinder x10
    have hx10 : Within 0x6f21808000187e00288 [] s x10 := by
      unfold x10
      refine Within.foldl ?_ (fun t11 a12 h13 => ?_)
      · exact hx9
      · refine Within.ite ?_ ?_
        · exact h13
        · refine Within.ite ?_ ?_
          · split
            · refine Within.trans ?_ (Within.mono (State.inputEval_within ..) rfl)
              exact h13
          · extract_lets +onlyGivenNames -merge -underBinder x14
            extract_lets +onlyGivenNames -merge -underBinder x15
            extract_lets +onlyGivenNames -merge -underBinder x16
            extract_lets +onlyGivenNames -merge -underBinder x17
            refine Within.ite ?_ ?_
            · refine Within.trans ?_ (Within.mono (State.inputEval_within ..) rfl)
              exact h13
            · extract_lets +onlyGivenNames -merge -underBinder x18
              extract_lets +onlyGivenNames -merge -underBinder x19
              extract_lets +onlyGivenNames -merge -underBinder x20
              have hx20 : Within 0x6f21808000187e00288 [] s x20 := by
                unfold x20
                refine Within.ite ?_ ?_
                · refine Within.trans ?_ (Within.kind (State.flag_within ..) rfl .safe rfl rfl)
                  exact h13
                · exact h13
              refine Within.trans ?_ (Within.mono (State.setSafeIn_within ..) rfl)
              exact hx20
    extract_lets +onlyGivenNames -merge -underBinder x21
    have hx21 : Within 0x6f21808000187e00288 [] s x21 := by
      unfold x21
      refine Within.ite ?_ ?_
      · refine Within.trans ?_ (Within.mono (State.resetRecord_within ..) rfl)
        exact hx10
      · exact hx10
    refine Within.trans ?_ (Within.mono (State.safeSources_within ..) rfl)
    exact hx21

theorem State.judgeChannel_within (s : State) (n : Nat) (fed : Bool) (l0 : Bool) (l200 : Bool) (l300 : Bool) (chB :
    Bool) :
    Within 0x420808000082000080 [] s (State.judgeChannel s n fed l0 l200 l300 chB) := by
  unfold State.judgeChannel
  refine Within.ite ?_ ?_
  · refine Within.ite ?_ ?_
    · exact (Within.mono (State.latchFault_within ..) rfl)
    · exact Within.refl _
  · refine Within.ite ?_ ?_
    · exact (Within.mono (State.latchFault_within ..) rfl)
    · exact Within.refl _

theorem State.judgeWindow_within (s : State) (k : Nat) (l0 : Nat) (l200 : Nat) (l300 : Nat) :
    Within 0x420808000082000080 [] s (State.judgeWindow s k l0 l200 l300) := by
  unfold State.judgeWindow
  refine Within.foldl ?_ (fun t1 a2 h3 => ?_)
  · exact Within.refl _
  · refine Within.ite ?_ ?_
    · exact h3
    · extract_lets +onlyGivenNames -merge -underBinder x4
      have hx4 : Within 0x420808000082000080 [] s x4 := by
        unfold x4
        refine Within.trans ?_ (Within.mono (State.judgeChannel_within ..) rfl)
        exact h3
      refine Within.trans ?_ (Within.mono (State.judgeChannel_within ..) rfl)
      exact hx4

theorem execTestWindowClose_within (dt : Nat) (tpo : Fin 8) (x : WindowReads) (s : State) :
    Ends (Within 0x6721808000183e0028e []) s (execTestWindowClose dt tpo x s) := by
  unfold execTestWindowClose
  extract_lets +onlyGivenNames -merge -underBinder x1
  have hx1 : Within 0x6721808000183e0028e [] s x1 := by
    unfold x1
    exact (Within.mono (State.elapse_within ..) rfl)
  split
  · refine Ends.next ?_
    exact hx1
  · refine Ends.ite ?_ ?_
    · refine Ends.next ?_
      exact hx1
    · extract_lets +onlyGivenNames -merge -underBinder x2
      have hx2 : Within 0x6721808000183e0028e [] s x2 := by
        unfold x2
        refine Within.trans ?_ (Within.mono (State.takeReads_within ..) rfl)
        exact hx1
      extract_lets +onlyGivenNames -merge -underBinder x3
      extract_lets +onlyGivenNames -merge -underBinder x4
      have hx4 : Within 0x6721808000183e0028e [] s x4 := by
        unfold x4
        refine Within.trans ?_ (Within.mono (State.takeReads_within ..) rfl)
        exact hx2
      extract_lets +onlyGivenNames -merge -underBinder x5
      extract_lets +onlyGivenNames -merge -underBinder x6 x7
      have hx7 : Within 0x6721808000183e0028e [] s x7 := by
        unfold x7
        refine Within.upd ?_ rfl rfl (.inr rfl) (.inr rfl) (.inr rfl) (.inr rfl) (.inr rfl) (.inr rfl) (.inr rfl)
            (.inr rfl) (.inr rfl) (.inr rfl) (.inr rfl) (.inr rfl) (.inr rfl) (.inr rfl) (.inr rfl) (.inr rfl) (.inr
                rfl) (.inr rfl) (.inr rfl) (.inr rfl) (.inr rfl) (.inr rfl) (.inr rfl) (.inr rfl) (.inr rfl) (.inl
                    rfl) (.inr rfl) (.inr rfl) (.inr rfl) (.inr rfl) (.inr rfl) (.inr rfl) (.inr rfl) (.inr rfl)
                        (.inr rfl) (.inr rfl) (.inr rfl) (.inr rfl) (.inr rfl) (.inr rfl) (.inr rfl) (.inr rfl) (.inr
                            rfl) (.inr rfl) (.inr rfl) (.inr rfl) (.inr rfl)
        exact hx4
      refine Ends.ite ?_ ?_
      · refine Ends.next ?_
        exact hx7
      · extract_lets +onlyGivenNames -merge -underBinder x8
        extract_lets +onlyGivenNames -merge -underBinder x9
        have hx9 : Within 0x6721808000183e0028e [] s x9 := by
          unfold x9
          refine Within.trans ?_ (Within.kind (State.wrb_within ..) rfl .safe rfl rfl)
          exact hx7
        extract_lets +onlyGivenNames -merge -underBinder x10
        have hx10 : Within 0x6721808000183e0028e [] s x10 := by
          unfold x10
          refine Within.ite ?_ ?_
          · refine Within.trans ?_ (Within.mono (State.judgeWindow_within ..) rfl)
            exact hx9
          · refine Within.trans ?_ (Within.kind (State.inc_within ..) rfl .safe rfl rfl)
            exact hx9
        extract_lets +onlyGivenNames -merge -underBinder x11
        have hx11 : Within 0x6721808000183e0028e [] s x11 := by
          unfold x11
          refine Within.foldl ?_ (fun t12 a13 h14 => ?_)
          · exact hx10
          · extract_lets +onlyGivenNames -merge -underBinder x15
            refine Within.ite ?_ ?_
            · refine Within.trans ?_ (Within.mono (State.inputEval_within ..) rfl)
              exact h14
            · exact h14
        refine Ends.next ?_
        refine Within.trans ?_ (Within.mono (State.safeSources_within ..) rfl)
        refine Within.trans ?_ (Within.mono (State.resetRecord_within ..) rfl)
        exact hx11

theorem State.markPeerPulses_within (s : State) :
    Within 0x2000000 [] s (State.markPeerPulses s) := by
  unfold State.markPeerPulses
  split
  · refine Within.ite ?_ ?_
    · exact Within.refl _
    · refine Within.upd ?_ rfl rfl (.inr rfl) (.inr rfl) (.inr rfl) (.inr rfl) (.inr rfl) (.inr rfl) (.inr rfl) (.inr
        rfl) (.inr rfl) (.inr rfl) (.inr rfl) (.inr rfl) (.inr rfl) (.inr rfl) (.inr rfl) (.inr rfl) (.inr rfl) (.inr
            rfl) (.inr rfl) (.inr rfl) (.inr rfl) (.inr rfl) (.inr rfl) (.inr rfl) (.inr rfl) (.inl rfl) (.inr rfl)
                (.inr rfl) (.inr rfl) (.inr rfl) (.inr rfl) (.inr rfl) (.inr rfl) (.inr rfl) (.inr rfl) (.inr rfl)
                    (.inr rfl) (.inr rfl) (.inr rfl) (.inr rfl) (.inr rfl) (.inr rfl) (.inr rfl) (.inr rfl) (.inr
                        rfl) (.inr rfl) (.inr rfl)
      exact Within.refl _
  · exact Within.refl _

theorem State.adoptSutclr_within (s : State) :
    Within 0x6721808000183e00280 [] s (State.adoptSutclr s) := by
  unfold State.adoptSutclr
  refine Within.ite ?_ ?_
  · refine Within.trans ?_ (Within.mono (State.protEval_within ..) rfl)
    refine Within.trans ?_ (Within.mono (State.safeShow_within ..) rfl)
    refine Within.upd ?_ rfl rfl (.inr rfl) (.inr rfl) (.inr rfl) (.inr rfl) (.inr rfl) (.inr rfl) (.inr rfl) (.inr
        rfl) (.inr rfl) (.inr rfl) (.inr rfl) (.inr rfl) (.inr rfl) (.inr rfl) (.inr rfl) (.inr rfl) (.inr rfl) (.inr
            rfl) (.inr rfl) (.inr rfl) (.inr rfl) (.inr rfl) (.inr rfl) (.inr rfl) (.inr rfl) (.inl rfl) (.inr rfl)
                (.inr rfl) (.inr rfl) (.inr rfl) (.inr rfl) (.inr rfl) (.inr rfl) (.inr rfl) (.inr rfl) (.inr rfl)
                    (.inr rfl) (.inr rfl) (.inr rfl) (.inr rfl) (.inr rfl) (.inr rfl) (.inr rfl) (.inr rfl) (.inr
                        rfl) (.inr rfl) (.inr rfl)
    exact Within.refl _
  · exact Within.refl _

theorem State.safeEnabling_within (s : State) :
    Within 0x400000000002000000 [] s (State.safeEnabling s) := by
  unfold State.safeEnabling
  refine Within.trans ?_ (Within.mono (State.safeShow_within ..) rfl)
  refine Within.upd ?_ rfl rfl (.inr rfl) (.inr rfl) (.inr rfl) (.inr rfl) (.inr rfl) (.inr rfl) (.inr rfl) (.inr
      rfl) (.inr rfl) (.inr rfl) (.inr rfl) (.inr rfl) (.inr rfl) (.inr rfl) (.inr rfl) (.inr rfl) (.inr rfl) (.inr
          rfl) (.inr rfl) (.inr rfl) (.inr rfl) (.inr rfl) (.inr rfl) (.inr rfl) (.inr rfl) (.inl rfl) (.inr rfl)
              (.inr rfl) (.inr rfl) (.inr rfl) (.inr rfl) (.inr rfl) (.inr rfl) (.inr rfl) (.inr rfl) (.inr rfl)
                  (.inr rfl) (.inr rfl) (.inr rfl) (.inr rfl) (.inr rfl) (.inr rfl) (.inr rfl) (.inr rfl) (.inr rfl)
                      (.inr rfl) (.inr rfl)
  exact Within.refl _

theorem State.safeStarted_within (s : State) :
    Within 0x6721808000183e00280 [] s (State.safeStarted s) := by
  unfold State.safeStarted
  extract_lets +onlyGivenNames -merge -underBinder x1 x2
  have hx2 : Within 0x6721808000183e00280 [] s x2 := by
    unfold x2
    refine Within.upd ?_ rfl rfl (.inr rfl) (.inr rfl) (.inr rfl) (.inr rfl) (.inr rfl) (.inr rfl) (.inr rfl) (.inr
        rfl) (.inr rfl) (.inr rfl) (.inr rfl) (.inr rfl) (.inr rfl) (.inr rfl) (.inr rfl) (.inr rfl) (.inr rfl) (.inr
            rfl) (.inr rfl) (.inr rfl) (.inr rfl) (.inr rfl) (.inr rfl) (.inr rfl) (.inr rfl) (.inl rfl) (.inr rfl)
                (.inr rfl) (.inr rfl) (.inr rfl) (.inr rfl) (.inr rfl) (.inr rfl) (.inr rfl) (.inr rfl) (.inr rfl)
                    (.inr rfl) (.inr rfl) (.inr rfl) (.inr rfl) (.inr rfl) (.inr rfl) (.inr rfl) (.inr rfl) (.inr
                        rfl) (.inr rfl) (.inr rfl)
    exact Within.refl _
  refine Within.trans ?_ (Within.mono (State.safeSources_within ..) rfl)
  refine Within.ite ?_ ?_
  · refine Within.trans ?_ (Within.mono (State.adoptSutclr_within ..) rfl)
    exact hx2
  · exact hx2

theorem State.safeStopped_within (s : State) :
    Within 0x6721808000183e00280 [] s (State.safeStopped s) := by
  unfold State.safeStopped
  extract_lets +onlyGivenNames -merge -underBinder x1 x2
  have hx2 : Within 0x6721808000183e00280 [] s x2 := by
    unfold x2
    refine Within.upd ?_ rfl rfl (.inr rfl) (.inr rfl) (.inr rfl) (.inr rfl) (.inr rfl) (.inr rfl) (.inr rfl) (.inr
        rfl) (.inr rfl) (.inr rfl) (.inr rfl) (.inr rfl) (.inr rfl) (.inr rfl) (.inr rfl) (.inr rfl) (.inr rfl) (.inr
            rfl) (.inr rfl) (.inr rfl) (.inr rfl) (.inr rfl) (.inr rfl) (.inr rfl) (.inr rfl) (.inl rfl) (.inr rfl)
                (.inr rfl) (.inr rfl) (.inr rfl) (.inr rfl) (.inr rfl) (.inr rfl) (.inr rfl) (.inr rfl) (.inr rfl)
                    (.inr rfl) (.inr rfl) (.inr rfl) (.inr rfl) (.inr rfl) (.inr rfl) (.inr rfl) (.inr rfl) (.inr
                        rfl) (.inr rfl) (.inr rfl)
    exact Within.refl _
  refine Within.trans ?_ (Within.mono (State.safeSources_within ..) rfl)
  refine Within.trans ?_ (Within.kind (State.wrn_within ..) rfl .safe rfl rfl)
  exact hx2

end Sys2Proof.Machine
end

