-- ==== Sys2Proof/Laws/FrameSafetyLayer.lean ====
section
/-! SUPPORT. What each operation of Machine/SafetyLayer.lean may change (Laws/Within.lean). -/

namespace Sys2Proof.Machine

open Sys2Proof

theorem State.connShow_within (s : State) :
    Within 0x6b21808000181e00280 [] s (State.connShow s) := by
  unfold State.connShow
  extract_lets +onlyGivenNames -merge -underBinder x1
  have hx1 : Within 0x6b21808000181e00280 [] s x1 := by
    unfold x1
    refine Within.foldl ?_ (fun t2 a3 h4 => ?_)
    · exact Within.refl _
    · extract_lets +onlyGivenNames -merge -underBinder x5
      extract_lets +onlyGivenNames -merge -underBinder x6
      have hx6 : Within 0x6b21808000181e00280 [] s x6 := by
        unfold x6
        refine Within.trans ?_ (Within.kind (State.wrn_within ..) rfl .slay rfl rfl)
        exact h4
      extract_lets +onlyGivenNames -merge -underBinder x7
      have hx7 : Within 0x6b21808000181e00280 [] s x7 := by
        unfold x7
        refine Within.trans ?_ (Within.kind (State.wrn_within ..) rfl .slay rfl rfl)
        exact hx6
      refine Within.trans ?_ (Within.kind (State.wrn_within ..) rfl .slay rfl rfl)
      exact hx7
  refine Within.trans ?_ (Within.mono (State.setSource_within ..) rfl)
  exact hx1

theorem State.slayReset_within (s : State) :
    Within 0x6b21808000185e00280 [] s (State.slayReset s) := by
  unfold State.slayReset
  extract_lets +onlyGivenNames -merge -underBinder x1
  extract_lets +onlyGivenNames -merge -underBinder x2
  have hx2 : Within 0x6b21808000185e00280 [] s x2 := by
    unfold x2
    refine Within.foldl ?_ (fun t3 a4 h5 => ?_)
    · exact Within.refl _
    · extract_lets +onlyGivenNames -merge -underBinder x6
      refine Within.trans ?_ (Within.mono (State.setConn_within ..) rfl)
      exact h5
  refine Within.trans ?_ (Within.mono (State.connShow_within ..) rfl)
  refine Within.upd ?_ rfl rfl (.inr rfl) (.inr rfl) (.inr rfl) (.inr rfl) (.inr rfl) (.inr rfl) (.inr rfl) (.inr
      rfl) (.inr rfl) (.inr rfl) (.inr rfl) (.inr rfl) (.inr rfl) (.inr rfl) (.inr rfl) (.inr rfl) (.inr rfl) (.inr
          rfl) (.inr rfl) (.inr rfl) (.inr rfl) (.inr rfl) (.inr rfl) (.inr rfl) (.inr rfl) (.inr rfl) (.inl rfl)
              (.inr rfl) (.inr rfl) (.inr rfl) (.inr rfl) (.inr rfl) (.inr rfl) (.inr rfl) (.inr rfl) (.inr rfl)
                  (.inr rfl) (.inr rfl) (.inr rfl) (.inr rfl) (.inr rfl) (.inr rfl) (.inr rfl) (.inr rfl) (.inr rfl)
                      (.inr rfl) (.inr rfl)
  exact hx2

theorem State.connFail_within (s : State) (k : Nat) (cause : Nat) :
    Within 0x6b21808000185e00280 [] s (State.connFail s k cause) := by
  unfold State.connFail
  extract_lets +onlyGivenNames -merge -underBinder x1
  extract_lets +onlyGivenNames -merge -underBinder x2
  have hx2 : Within 0x6b21808000185e00280 [] s x2 := by
    unfold x2
    exact (Within.mono (State.setConn_within ..) rfl)
  extract_lets +onlyGivenNames -merge -underBinder x3
  have hx3 : Within 0x6b21808000185e00280 [] s x3 := by
    unfold x3
    refine Within.trans ?_ (Within.kind (State.flag_within ..) rfl .slay rfl rfl)
    refine Within.trans ?_ (Within.kind (State.inc_within ..) rfl .slay rfl rfl)
    exact hx2
  extract_lets +onlyGivenNames -merge -underBinder x4
  have hx4 : Within 0x6b21808000185e00280 [] s x4 := by
    unfold x4
    refine Within.ite ?_ ?_
    · refine Within.trans ?_ (Within.kind (State.flag_within ..) rfl .slay rfl rfl)
      refine Within.trans ?_ (Within.kind (State.inc_within ..) rfl .slay rfl rfl)
      exact hx3
    · exact hx3
  extract_lets +onlyGivenNames -merge -underBinder x5
  have hx5 : Within 0x6b21808000185e00280 [] s x5 := by
    unfold x5
    refine Within.trans ?_ (Within.mono (State.record_within ..) rfl)
    exact hx4
  refine Within.trans ?_ (Within.mono (State.connShow_within ..) rfl)
  refine Within.trans ?_ (Within.mono (State.trigger_within ..) rfl)
  exact hx5

theorem State.connExpiry_within (s : State) :
    Within 0x6b21808000185e00280 [] s (State.connExpiry s) := by
  unfold State.connExpiry
  refine Within.ite ?_ ?_
  · exact Within.refl _
  · refine Within.foldl ?_ (fun t1 a2 h3 => ?_)
    · exact Within.refl _
    · extract_lets +onlyGivenNames -merge -underBinder x4
      refine Within.ite ?_ ?_
      · refine Within.trans ?_ (Within.mono (State.connFail_within ..) rfl)
        exact h3
      · exact h3

theorem State.espReject_within (s : State) (k : Nat) (code : Nat) (seq : Nat) :
    Within 0x6b218080001ade00280 [] s (State.espReject s k code seq) := by
  unfold State.espReject
  extract_lets +onlyGivenNames -merge -underBinder x1
  have hx1 : Within 0x6b218080001ade00280 [] s x1 := by
    unfold x1
    refine Within.trans ?_ (Within.kind (State.flag_within ..) rfl .slay rfl rfl)
    exact (Within.kind (State.inc_within ..) rfl .slay rfl rfl)
  extract_lets +onlyGivenNames -merge -underBinder x2
  refine Within.ite ?_ ?_
  · refine Within.trans ?_ (Within.mono (State.connShow_within ..) rfl)
    refine Within.trans ?_ (Within.mono (State.setConn_within ..) rfl)
    exact hx1
  · extract_lets +onlyGivenNames -merge -underBinder x3
    extract_lets +onlyGivenNames -merge -underBinder x4
    extract_lets +onlyGivenNames -merge -underBinder x5
    have hx5 : Within 0x6b218080001ade00280 [] s x5 := by
      unfold x5
      refine Within.trans ?_ (Within.mono (State.setConn_within ..) rfl)
      exact hx1
    refine Within.trans ?_ (Within.mono (State.connShow_within ..) rfl)
    refine Within.ite ?_ ?_
    · refine Within.trans ?_ (Within.mono (State.acceptEvent_within ..) rfl)
      exact hx5
    · exact hx5

theorem State.espAccept_within (s : State) (k : Nat) (seq : Nat) (age : Int) (deadline : Int) (f : List Byte) :
    Within 0x6b2180c0001ade002a0 [] s (State.espAccept s k seq age deadline f) := by
  unfold State.espAccept
  extract_lets +onlyGivenNames -merge -underBinder x1
  extract_lets +onlyGivenNames -merge -underBinder x2
  have hx2 : Within 0x6b2180c0001ade002a0 [] s x2 := by
    unfold x2
    exact (Within.mono (State.setConn_within ..) rfl)
  extract_lets +onlyGivenNames -merge -underBinder x3
  have hx3 : Within 0x6b2180c0001ade002a0 [] s x3 := by
    unfold x3
    refine Within.trans ?_ (Within.kind (State.wrn_within ..) rfl .slay rfl rfl)
    exact hx2
  extract_lets +onlyGivenNames -merge -underBinder x4
  have hx4 : Within 0x6b2180c0001ade002a0 [] s x4 := by
    unfold x4
    refine Within.trans ?_ (Within.mono (State.acceptEvent_within ..) rfl)
    exact hx3
  refine Within.trans ?_ (Within.mono (State.connShow_within ..) rfl)
  refine Within.trans ?_ (Within.mono (State.ringPush_within ..) rfl)
  exact hx4

theorem State.espData_within (s : State) (k : Nat) (f : List Byte) :
    Within 0x6b2180c0001ade002a0 [] s (State.espData s k f) := by
  unfold State.espData
  extract_lets +onlyGivenNames -merge -underBinder x1
  extract_lets +onlyGivenNames -merge -underBinder x2
  extract_lets +onlyGivenNames -merge -underBinder x3
  extract_lets +onlyGivenNames -merge -underBinder x4
  extract_lets +onlyGivenNames -merge -underBinder x5
  refine Within.ite ?_ ?_
  · exact (Within.mono (State.espReject_within ..) rfl)
  · refine Within.ite ?_ ?_
    · exact (Within.mono (State.espAccept_within ..) rfl)
    · refine Within.ite ?_ ?_
      · exact (Within.mono (State.espReject_within ..) rfl)
      · extract_lets +onlyGivenNames -merge -underBinder x6
        refine Within.ite ?_ ?_
        · exact (Within.mono (State.espReject_within ..) rfl)
        · refine Within.ite ?_ ?_
          · exact (Within.mono (State.espReject_within ..) rfl)
          · extract_lets +onlyGivenNames -merge -underBinder x7
            have hx7 : Within 0x6b2180c0001ade002a0 [] s x7 := by
              unfold x7
              refine Within.ite ?_ ?_
              · refine Within.trans ?_ (Within.kind (State.flag_within ..) rfl .slay rfl rfl)
                exact (Within.kind (State.incBy_within ..) rfl .slay rfl rfl)
              · exact Within.refl _
            refine Within.trans ?_ (Within.mono (State.espAccept_within ..) rfl)
            exact hx7

theorem State.espEcho_within (s : State) (k : Nat) (f : List Byte) :
    Within 0x6b218080001ade00280 [] s (State.espEcho s k f) := by
  unfold State.espEcho
  extract_lets +onlyGivenNames -merge -underBinder x1
  extract_lets +onlyGivenNames -merge -underBinder x2
  extract_lets +onlyGivenNames -merge -underBinder x3
  refine Within.ite ?_ ?_
  · exact (Within.mono (State.espReject_within ..) rfl)
  · extract_lets +onlyGivenNames -merge -underBinder x4
    have hx4 : Within 0x6b218080001ade00280 [] s x4 := by
      unfold x4
      exact (Within.mono (State.setConn_within ..) rfl)
    refine Within.trans ?_ (Within.mono (State.connShow_within ..) rfl)
    refine Within.trans ?_ (Within.mono (State.acceptEvent_within ..) rfl)
    exact hx4

theorem State.espFrameIn_within (s : State) (conns : List Nat) (f : List Byte) :
    Within 0x6b2180c0001ade002a0 [] s (State.espFrameIn s conns f) := by
  unfold State.espFrameIn
  refine Within.ite ?_ ?_
  · exact Within.refl _
  · extract_lets +onlyGivenNames -merge -underBinder x1
    extract_lets +onlyGivenNames -merge -underBinder x2
    clear_value x2
    split
    · refine Within.trans ?_ (Within.kind (State.flag_within ..) rfl .slay rfl rfl)
      exact (Within.kind (State.inc_within ..) rfl .slay rfl rfl)
    · extract_lets +onlyGivenNames -merge -underBinder x3
      extract_lets +onlyGivenNames -merge -underBinder x4
      extract_lets +onlyGivenNames -merge -underBinder x5
      refine Within.ite ?_ ?_
      · exact (Within.mono (State.espReject_within ..) rfl)
      · refine Within.ite ?_ ?_
        · exact (Within.mono (State.espReject_within ..) rfl)
        · refine Within.ite ?_ ?_
          · exact (Within.mono (State.espData_within ..) rfl)
          · exact (Within.mono (State.espEcho_within ..) rfl)

theorem execEspitonData_within (dt : Nat) (src : EspSource) (bytes : List Byte) (s : State) :
    Ends (Within 0x6b2180c0001ade002ae []) s (execEspitonData dt src bytes s) := by
  unfold execEspitonData
  extract_lets +onlyGivenNames -merge -underBinder x1
  have hx1 : Within 0x6b2180c0001ade002ae [] s x1 := by
    unfold x1
    exact (Within.mono (State.elapse_within ..) rfl)
  extract_lets +onlyGivenNames -merge -underBinder x2
  refine Ends.next ?_
  refine Within.ite ?_ ?_
  · exact hx1
  · refine Within.trans ?_ (Within.mono (State.espFrameIn_within ..) rfl)
    exact hx1

theorem execEspitonEcho_within (dt : Nat) (src : EspSource) (bytes : List Byte) (s : State) :
    Ends (Within 0x6b2180c0001ade002ae []) s (execEspitonEcho dt src bytes s) := by
  unfold execEspitonEcho
  extract_lets +onlyGivenNames -merge -underBinder x1
  have hx1 : Within 0x6b2180c0001ade002ae [] s x1 := by
    unfold x1
    exact (Within.mono (State.elapse_within ..) rfl)
  extract_lets +onlyGivenNames -merge -underBinder x2
  refine Ends.next ?_
  refine Within.ite ?_ ?_
  · exact hx1
  · refine Within.trans ?_ (Within.mono (State.espFrameIn_within ..) rfl)
    exact hx1

theorem State.takeBuffers_within (s : State) (ring : Nat) (a1 : Nat) :
    Within 0xc0000040002a0 [] s (State.takeBuffers s ring a1) := by
  unfold State.takeBuffers
  split
  · exact Within.refl _
  · split
    · exact Within.refl _
    · extract_lets +onlyGivenNames -merge -underBinder x1
      extract_lets +onlyGivenNames -merge -underBinder x2 x3
      have hx3 : Within 0xc0000040002a0 [] s x3 := by
        unfold x3
        refine Within.ite ?_ ?_
        · refine Within.upd ?_ rfl rfl (.inr rfl) (.inr rfl) (.inr rfl) (.inr rfl) (.inr rfl) (.inr rfl) (.inr rfl)
            (.inr rfl) (.inr rfl) (.inr rfl) (.inr rfl) (.inr rfl) (.inr rfl) (.inr rfl) (.inr rfl) (.inr rfl) (.inr
                rfl) (.inr rfl) (.inr rfl) (.inr rfl) (.inr rfl) (.inr rfl) (.inr rfl) (.inr rfl) (.inr rfl) (.inr
                    rfl) (.inl rfl) (.inr rfl) (.inr rfl) (.inr rfl) (.inr rfl) (.inr rfl) (.inr rfl) (.inr rfl)
                        (.inr rfl) (.inr rfl) (.inr rfl) (.inr rfl) (.inr rfl) (.inr rfl) (.inr rfl) (.inr rfl) (.inr
                            rfl) (.inr rfl) (.inr rfl) (.inr rfl) (.inr rfl)
          exact Within.refl _
        · exact Within.refl _
      refine Within.trans ?_ (Within.mono (State.takeBuffers_within ..) rfl)
      refine Within.trans ?_ (Within.mono (State.ringComplete_within ..) rfl)
      exact hx3

theorem execEspitonPeriod_within (dt : Nat) (conn : Fin 8) (s : State) :
    Ends (Within 0x16b2180c0007ade002ae []) s (execEspitonPeriod dt conn s) := by
  unfold execEspitonPeriod
  extract_lets +onlyGivenNames -merge -underBinder x1
  have hx1 : Within 0x16b2180c0007ade002ae [] s x1 := by
    unfold x1
    exact (Within.mono (State.elapse_within ..) rfl)
  extract_lets +onlyGivenNames -merge -underBinder x2
  refine Ends.ite ?_ ?_
  · refine Ends.next ?_
    exact hx1
  · extract_lets +onlyGivenNames -merge -underBinder x3
    refine Ends.ite ?_ ?_
    · extract_lets +onlyGivenNames -merge -underBinder x4
      extract_lets +onlyGivenNames -merge -underBinder x5
      extract_lets +onlyGivenNames -merge -underBinder x6
      have hx6 : Within 0x16b2180c0007ade002ae [] s x6 := by
        unfold x6
        refine Within.ite ?_ ?_
        · refine Within.trans ?_ (Within.mono (State.takeBuffers_within ..) rfl)
          exact hx1
        · exact hx1
      extract_lets +onlyGivenNames -merge -underBinder x7
      extract_lets +onlyGivenNames -merge -underBinder x8
      extract_lets +onlyGivenNames -merge -underBinder x9
      extract_lets +onlyGivenNames -merge -underBinder x10
      extract_lets +onlyGivenNames -merge -underBinder x11
      have hx11 : Within 0x16b2180c0007ade002ae [] s x11 := by
        unfold x11
        refine Within.trans ?_ (Within.mono (State.sendNet_within ..) rfl)
        refine Within.trans ?_ (Within.mono (State.setConn_within ..) rfl)
        exact hx6
      refine Ends.next ?_
      refine Within.trans ?_ (Within.mono (State.connShow_within ..) rfl)
      refine Within.trans ?_ (Within.mono (State.acceptEvent_within ..) rfl)
      exact hx11
    · extract_lets +onlyGivenNames -merge -underBinder x12
      extract_lets +onlyGivenNames -merge -underBinder x13
      extract_lets +onlyGivenNames -merge -underBinder x14
      extract_lets +onlyGivenNames -merge -underBinder x15
      have hx15 : Within 0x16b2180c0007ade002ae [] s x15 := by
        unfold x15
        refine Within.trans ?_ (Within.mono (State.sendNet_within ..) rfl)
        refine Within.trans ?_ (Within.mono (State.setConn_within ..) rfl)
        exact hx1
      refine Ends.next ?_
      refine Within.trans ?_ (Within.mono (State.connShow_within ..) rfl)
      refine Within.trans ?_ (Within.mono (State.acceptEvent_within ..) rfl)
      exact hx15

theorem State.espEffect_within (s : State) (m : List Byte) :
    Within 0x6b21808000185e00280 [] s (State.espEffect s m) := by
  unfold State.espEffect
  extract_lets +onlyGivenNames -merge -underBinder x1
  extract_lets +onlyGivenNames -merge -underBinder x2
  extract_lets +onlyGivenNames -merge -underBinder x3
  refine Within.ite ?_ ?_
  · exact Within.refl _
  · extract_lets +onlyGivenNames -merge -underBinder x4
    extract_lets +onlyGivenNames -merge -underBinder x5
    split
    · extract_lets +onlyGivenNames -merge -underBinder x6
      extract_lets +onlyGivenNames -merge -underBinder x7
      refine Within.trans ?_ (Within.mono (State.connShow_within ..) rfl)
      exact (Within.mono (State.setConn_within ..) rfl)
    · extract_lets +onlyGivenNames -merge -underBinder x8
      refine Within.trans ?_ (Within.mono (State.connShow_within ..) rfl)
      exact (Within.mono (State.setConn_within ..) rfl)
    · refine Within.trans ?_ (Within.mono (State.connShow_within ..) rfl)
      exact (Within.mono (State.setConn_within ..) rfl)
    · refine Within.trans ?_ (Within.mono (State.connShow_within ..) rfl)
      exact (Within.mono (State.setConn_within ..) rfl)
    · extract_lets +onlyGivenNames -merge -underBinder x9
      have hx9 : Within 0x6b21808000185e00280 [] s x9 := by
        unfold x9
        exact (Within.mono (State.setConn_within ..) rfl)
      refine Within.ite ?_ ?_
      · refine Within.trans ?_ (Within.mono (State.connFail_within ..) rfl)
        exact hx9
      · exact hx9
    · exact Within.refl _

theorem State.slayActive_within (s : State) :
    Within 0x4000000 [] s (State.slayActive s) := by
  unfold State.slayActive
  extract_lets +onlyGivenNames -merge -underBinder x1
  extract_lets +onlyGivenNames -merge -underBinder x2
  refine Within.foldl ?_ (fun t3 a4 h5 => ?_)
  · exact Within.refl _
  · extract_lets +onlyGivenNames -merge -underBinder x6
    refine Within.trans ?_ (Within.mono (State.setConn_within ..) rfl)
    exact h5

end Sys2Proof.Machine
end

