-- ==== Sys2Proof/Laws/FrameRoles.lean ====
section
/-! SUPPORT. What each operation of Machine/Roles.lean may change (Laws/Within.lean). -/

namespace Sys2Proof.Machine

open Sys2Proof

theorem State.modeChanged_within (s : State) :
    Within 0x6321808000181e00280 [] s (State.modeChanged s) := by
  unfold State.modeChanged
  exact (Within.mono (State.protEval_within ..) rfl)

theorem State.enterActiveRole_within (s : State) :
    Within 0x6321808000d85e00280 [] s (State.enterActiveRole s) := by
  unfold State.enterActiveRole
  extract_lets +onlyGivenNames -merge -underBinder x1 x2 x3 x4
  have hx4 : Within 0x6321808000d85e00280 [] s x4 := by
    unfold x4
    refine Within.upd ?_ rfl rfl (.inr rfl) (.inr rfl) (.inr rfl) (.inr rfl) (.inr rfl) (.inr rfl) (.inr rfl) (.inr
        rfl) (.inr rfl) (.inr rfl) (.inr rfl) (.inr rfl) (.inr rfl) (.inr rfl) (.inr rfl) (.inr rfl) (.inr rfl) (.inr
            rfl) (.inr rfl) (.inr rfl) (.inr rfl) (.inr rfl) (.inr rfl) (.inl rfl) (.inr rfl) (.inr rfl) (.inr rfl)
                (.inr rfl) (.inr rfl) (.inr rfl) (.inr rfl) (.inr rfl) (.inr rfl) (.inr rfl) (.inl rfl) (.inl rfl)
                    (.inr rfl) (.inr rfl) (.inr rfl) (.inr rfl) (.inr rfl) (.inr rfl) (.inr rfl) (.inr rfl) (.inr
                        rfl) (.inr rfl) (.inr rfl)
    exact Within.refl _
  refine Within.trans ?_ (Within.mono (State.modeChanged_within ..) rfl)
  refine Within.trans ?_ (Within.mono (State.slayActive_within ..) rfl)
  exact hx4

theorem State.enterStandbyRole_within (s : State) :
    Within 0x6721808000d83e00280 [] s (State.enterStandbyRole s) := by
  unfold State.enterStandbyRole
  extract_lets +onlyGivenNames -merge -underBinder x1 x2 x3 x4
  have hx4 : Within 0x6721808000d83e00280 [] s x4 := by
    unfold x4
    refine Within.upd ?_ rfl rfl (.inr rfl) (.inr rfl) (.inr rfl) (.inr rfl) (.inr rfl) (.inr rfl) (.inr rfl) (.inr
        rfl) (.inr rfl) (.inr rfl) (.inr rfl) (.inr rfl) (.inr rfl) (.inr rfl) (.inr rfl) (.inr rfl) (.inr rfl) (.inr
            rfl) (.inr rfl) (.inr rfl) (.inr rfl) (.inr rfl) (.inr rfl) (.inl rfl) (.inr rfl) (.inr rfl) (.inr rfl)
                (.inr rfl) (.inr rfl) (.inr rfl) (.inr rfl) (.inr rfl) (.inr rfl) (.inr rfl) (.inl rfl) (.inl rfl)
                    (.inr rfl) (.inr rfl) (.inr rfl) (.inr rfl) (.inr rfl) (.inr rfl) (.inr rfl) (.inr rfl) (.inr
                        rfl) (.inr rfl) (.inr rfl)
    exact Within.refl _
  refine Within.trans ?_ (Within.mono (State.modeChanged_within ..) rfl)
  refine Within.trans ?_ (Within.mono (State.adoptSutclr_within ..) rfl)
  exact hx4

theorem State.leaveActiveRole_within (s : State) :
    Within 0x6721808000d83e00280 [] s (State.leaveActiveRole s) := by
  unfold State.leaveActiveRole
  refine Within.trans ?_ (Within.mono (State.modeChanged_within ..) rfl)
  refine Within.trans ?_ (Within.mono (State.adoptSutclr_within ..) rfl)
  refine Within.upd ?_ rfl rfl (.inr rfl) (.inr rfl) (.inr rfl) (.inr rfl) (.inr rfl) (.inr rfl) (.inr rfl) (.inr
      rfl) (.inr rfl) (.inr rfl) (.inr rfl) (.inr rfl) (.inr rfl) (.inr rfl) (.inr rfl) (.inr rfl) (.inr rfl) (.inr
          rfl) (.inr rfl) (.inr rfl) (.inr rfl) (.inr rfl) (.inr rfl) (.inr rfl) (.inr rfl) (.inr rfl) (.inr rfl)
              (.inr rfl) (.inr rfl) (.inr rfl) (.inr rfl) (.inr rfl) (.inr rfl) (.inr rfl) (.inl rfl) (.inl rfl)
                  (.inr rfl) (.inr rfl) (.inr rfl) (.inr rfl) (.inr rfl) (.inr rfl) (.inr rfl) (.inr rfl) (.inr rfl)
                      (.inr rfl) (.inr rfl)
  exact Within.refl _

theorem State.enterWitnessOnly_within (s : State) :
    Within 0x63218080005a1e10280 [] s (State.enterWitnessOnly s) := by
  unfold State.enterWitnessOnly
  extract_lets +onlyGivenNames -merge -underBinder x1 x2 x3 x4 x5
  have hx5 : Within 0x63218080005a1e10280 [] s x5 := by
    unfold x5
    refine Within.upd ?_ rfl rfl (.inr rfl) (.inr rfl) (.inr rfl) (.inr rfl) (.inr rfl) (.inr rfl) (.inr rfl) (.inr
        rfl) (.inr rfl) (.inr rfl) (.inr rfl) (.inr rfl) (.inr rfl) (.inr rfl) (.inr rfl) (.inr rfl) (.inl rfl) (.inr
            rfl) (.inr rfl) (.inr rfl) (.inr rfl) (.inr rfl) (.inr rfl) (.inl rfl) (.inr rfl) (.inr rfl) (.inr rfl)
                (.inr rfl) (.inr rfl) (.inl rfl) (.inr rfl) (.inr rfl) (.inr rfl) (.inr rfl) (.inl rfl) (.inr rfl)
                    (.inr rfl) (.inr rfl) (.inr rfl) (.inr rfl) (.inr rfl) (.inr rfl) (.inr rfl) (.inr rfl) (.inr
                        rfl) (.inr rfl) (.inr rfl)
    exact Within.refl _
  refine Within.trans ?_ (Within.mono (State.modeChanged_within ..) rfl)
  exact hx5

theorem State.stepToPeer_within (s : State) :
    Within 0x1efc7b18af [] s (State.stepToPeer s) := by
  unfold State.stepToPeer
  exact (Within.mono (State.stepMt_within ..) rfl)

theorem State.joinBegin_within (s : State) :
    Within 0x6321808121ffdfb1aaf [] s (State.joinBegin s) := by
  unfold State.joinBegin
  refine Within.ite ?_ ?_
  · exact Within.refl _
  · extract_lets +onlyGivenNames -merge -underBinder x1
    have hx1 : Within 0x6321808121ffdfb1aaf [] s x1 := by
      unfold x1
      refine Within.trans ?_ (Within.mono (State.stepToPeer_within ..) rfl)
      refine Within.trans ?_ (Within.mono (State.saveLimits_within ..) rfl)
      exact (Within.mono (State.adoptLimits_within ..) rfl)
    refine Within.trans ?_ (Within.mono (State.askFullRepair_within ..) rfl)
    refine Within.trans ?_ (Within.mono (State.setTdm_within ..) rfl)
    exact hx1

theorem State.startJoin_within (s : State) (cmd : Option (List Byte)) :
    Within 0x6321808121ffdfb1aaf [] s (State.startJoin s cmd) := by
  unfold State.startJoin
  refine Within.ite ?_ ?_
  · exact Within.refl _
  · refine Within.trans ?_ (Within.mono (State.joinBegin_within ..) rfl)
    exact (Within.mono (State.setTdm_within ..) rfl)

theorem State.tryJoin_within (s : State) :
    Within 0x6721808101da3e00289 [] s (State.tryJoin s).2 := by
  unfold State.tryJoin
  split
  · extract_lets +onlyGivenNames -merge -underBinder x1
    extract_lets +onlyGivenNames -merge -underBinder x2
    have hx2 : Within 0x6721808101da3e00289 [] s x2 := by
      unfold x2
      exact (Within.mono (State.setTdm_within ..) rfl)
    refine Within.pair ?_
    refine Within.trans ?_ (Within.mono (State.enterStandbyRole_within ..) rfl)
    refine Within.trans ?_ (Within.mono (State.takeMode_within ..) rfl)
    exact hx2
  · refine Within.pair ?_
    exact Within.refl _

theorem State.dropJoin_within (s : State) :
    Within 0x20000000 [] s (State.dropJoin s) := by
  unfold State.dropJoin
  exact (Within.mono (State.setTdm_within ..) rfl)

theorem State.formActive_within (s : State) :
    Within 0x6321808101da5e00289 [] s (State.formActive s) := by
  unfold State.formActive
  extract_lets +onlyGivenNames -merge -underBinder x1
  have hx1 : Within 0x6321808101da5e00289 [] s x1 := by
    unfold x1
    refine Within.trans ?_ (Within.mono (State.setTdm_within ..) rfl)
    exact (Within.mono (State.takeMode_within ..) rfl)
  refine Within.trans ?_ (Within.mono (State.enterActiveRole_within ..) rfl)
  exact hx1

theorem State.takeWitnessOnly_within (s : State) :
    Within 0x63218081015a1e10289 [] s (State.takeWitnessOnly s) := by
  unfold State.takeWitnessOnly
  refine Within.ite ?_ ?_
  · refine Within.trans ?_ (Within.mono (State.enterWitnessOnly_within ..) rfl)
    exact (Within.mono (State.takeMode_within ..) rfl)
  · exact Within.refl _

theorem State.formAuto_within (s : State) :
    Within 0x16321808121ffdfb1aaf [] s (State.formAuto s) := by
  unfold State.formAuto
  extract_lets +onlyGivenNames -merge -underBinder x1
  refine Within.ite ?_ ?_
  · exact (Within.mono (State.formActive_within ..) rfl)
  · refine Within.ite ?_ ?_
    · refine Within.ite ?_ ?_
      · exact Within.refl _
      · exact (Within.mono (State.startJoin_within ..) rfl)
    · refine Within.ite ?_ ?_
      · exact Within.refl _
      · exact (Within.mono (State.acquire_within ..) rfl)

theorem State.formRole_within (s : State) :
    Within 0x16321808121ffdfb1aaf [] s (State.formRole s) := by
  unfold State.formRole
  refine Within.ite ?_ ?_
  · exact Within.refl _
  · split
    · exact (Within.mono (State.formAuto_within ..) rfl)
    · exact (Within.mono (State.takeWitnessOnly_within ..) rfl)
    · exact Within.refl _

theorem execRoleFormation_within (dt : Nat) (s : State) :
    Ends (Within 0x16321808121ffdfb1aaf []) s (execRoleFormation dt s) := by
  unfold execRoleFormation
  refine Ends.next ?_
  refine Within.trans ?_ (Within.mono (State.formRole_within ..) rfl)
  exact (Within.mono (State.elapse_within ..) rfl)

theorem execFormationWaitExpiry_within (dt : Nat) (s : State) :
    Ends (Within 0x16321808121ffdfb1aaf []) s (execFormationWaitExpiry dt s) := by
  unfold execFormationWaitExpiry
  extract_lets +onlyGivenNames -merge -underBinder x1
  have hx1 : Within 0x16321808121ffdfb1aaf [] s x1 := by
    unfold x1
    exact (Within.mono (State.elapse_within ..) rfl)
  refine Ends.ite ?_ ?_
  · refine Ends.next ?_
    refine Within.trans ?_ (Within.mono (State.formRole_within ..) rfl)
    try clear_value x1
    refine Within.upd ?_ rfl rfl (.inr rfl) (.inr rfl) (.inr rfl) (.inl rfl) (.inr rfl) (.inr rfl) (.inr rfl) (.inr
        rfl) (.inr rfl) (.inr rfl) (.inr rfl) (.inr rfl) (.inr rfl) (.inr rfl) (.inr rfl) (.inr rfl) (.inr rfl) (.inr
            rfl) (.inr rfl) (.inr rfl) (.inr rfl) (.inr rfl) (.inr rfl) (.inr rfl) (.inr rfl) (.inr rfl) (.inr rfl)
                (.inr rfl) (.inr rfl) (.inr rfl) (.inr rfl) (.inr rfl) (.inr rfl) (.inr rfl) (.inr rfl) (.inr rfl)
                    (.inr rfl) (.inr rfl) (.inr rfl) (.inr rfl) (.inr rfl) (.inr rfl) (.inr rfl) (.inr rfl) (.inr
                        rfl) (.inr rfl) (.inr rfl)
    exact hx1
  · refine Ends.next ?_
    exact hx1

theorem execFormationJoinRetry_within (dt : Nat) (s : State) :
    Ends (Within 0x16321808121ffdfb1aaf []) s (execFormationJoinRetry dt s) := by
  unfold execFormationJoinRetry
  extract_lets +onlyGivenNames -merge -underBinder x1
  have hx1 : Within 0x16321808121ffdfb1aaf [] s x1 := by
    unfold x1
    exact (Within.mono (State.elapse_within ..) rfl)
  refine Ends.ite ?_ ?_
  · refine Ends.next ?_
    refine Within.trans ?_ (Within.mono (State.formRole_within ..) rfl)
    exact hx1
  · refine Ends.next ?_
    exact hx1

end Sys2Proof.Machine
end

