-- ==== Sys2Proof/Laws/FrameCommands.lean ====
section
/-! SUPPORT. What each operation of Machine/Commands.lean may change (Laws/Within.lean). -/

namespace Sys2Proof.Machine

open Sys2Proof

theorem State.arm_within (s : State) :
    Within 0x9000000000080 [] s (State.arm s) := by
  unfold State.arm
  refine Within.trans ?_ (Within.kind (State.flag_within ..) rfl .cfgx rfl rfl)
  exact (Within.kind (State.wrb_within ..) rfl .cfgx rfl rfl)

theorem State.disarm_within (s : State) (p : Page) (cause : Nat) :
    Within 0x1009000100000080 [] s (State.disarm s p cause) := by
  unfold State.disarm
  refine Within.ite ?_ ?_
  · exact Within.refl _
  · extract_lets +onlyGivenNames -merge -underBinder x1
    have hx1 : Within 0x1009000100000080 [] s x1 := by
      unfold x1
      refine Within.trans ?_ (Within.kind (State.flag_within ..) rfl .cfgx rfl rfl)
      refine Within.trans ?_ (Within.kind (State.inc_within ..) rfl .cfgx rfl rfl)
      exact (Within.kind (State.wrb_within ..) rfl .cfgx rfl rfl)
    refine Within.trans ?_ (Within.mono (State.record_within ..) rfl)
    exact hx1

theorem State.commitSig_within (s : State) (sig : Nat) :
    Within 0x9101000000080 [] s (State.commitSig s sig).2 := by
  unfold State.commitSig
  split
  · refine Within.pair ?_
    exact Within.refl _
  · extract_lets +onlyGivenNames -merge -underBinder x1
    have hx1 : Within 0x9101000000080 [] s x1 := by
      unfold x1
      refine Within.trans ?_ (Within.mono (State.modSettings_within ..) rfl)
      exact (Within.kind (State.wrn_within ..) rfl .cfgx rfl rfl)
    refine Within.pair ?_
    refine Within.trans ?_ (Within.mono (State.arm_within ..) rfl)
    exact hx1

theorem State.decideCommand_within (s : State) (m : List Byte) (refused : Bool) :
    Within 0x1028000110000080 [] s (State.decideCommand s m refused) := by
  unfold State.decideCommand
  extract_lets +onlyGivenNames -merge -underBinder x1
  split
  · exact Within.refl _
  · extract_lets +onlyGivenNames -merge -underBinder x2
    extract_lets +onlyGivenNames -merge -underBinder x3
    have hx3 : Within 0x1028000110000080 [] s x3 := by
      unfold x3
      refine Within.upd ?_ rfl rfl (.inr rfl) (.inr rfl) (.inr rfl) (.inr rfl) (.inr rfl) (.inr rfl) (.inr rfl) (.inr
          rfl) (.inr rfl) (.inr rfl) (.inr rfl) (.inr rfl) (.inr rfl) (.inr rfl) (.inr rfl) (.inr rfl) (.inr rfl)
              (.inr rfl) (.inr rfl) (.inr rfl) (.inr rfl) (.inr rfl) (.inr rfl) (.inr rfl) (.inr rfl) (.inr rfl)
                  (.inr rfl) (.inr rfl) (.inl rfl) (.inr rfl) (.inr rfl) (.inr rfl) (.inr rfl) (.inr rfl) (.inr rfl)
                      (.inr rfl) (.inr rfl) (.inr rfl) (.inr rfl) (.inr rfl) (.inr rfl) (.inr rfl) (.inr rfl) (.inr
                          rfl) (.inr rfl) (.inr rfl) (.inr rfl)
      exact Within.refl _
    refine Within.ite ?_ ?_
    · refine Within.trans ?_ (Within.mono (State.commandRecord_within ..) rfl)
      refine Within.trans ?_ (Within.kind (State.flag_within ..) rfl .auth rfl rfl)
      refine Within.trans ?_ (Within.kind (State.inc_within ..) rfl .auth rfl rfl)
      exact hx3
    · refine Within.trans ?_ (Within.kind (State.flag_within ..) rfl .auth rfl rfl)
      refine Within.trans ?_ (Within.kind (State.inc_within ..) rfl .auth rfl rfl)
      exact hx3

theorem State.abandonJoin_within (s : State) :
    Within 0x1028000130000080 [] s (State.abandonJoin s) := by
  unfold State.abandonJoin
  split
  · refine Within.trans ?_ (Within.mono (State.decideCommand_within ..) rfl)
    exact (Within.mono (State.dropJoin_within ..) rfl)
  · exact (Within.mono (State.dropJoin_within ..) rfl)

theorem State.toReady_within (s : State) :
    Within 0x63218281015b1e0028d [] s (State.toReady s) := by
  unfold State.toReady
  extract_lets +onlyGivenNames -merge -underBinder x1
  extract_lets +onlyGivenNames -merge -underBinder x2
  have hx2 : Within 0x63218281015b1e0028d [] s x2 := by
    unfold x2
    refine Within.trans ?_ (Within.mono (State.dropDrive_within ..) rfl)
    refine Within.trans ?_ (Within.mono (State.takeMode_within ..) rfl)
    exact (Within.mono (State.abandonJoin_within ..) rfl)
  extract_lets +onlyGivenNames -merge -underBinder x3
  have hx3 : Within 0x63218281015b1e0028d [] s x3 := by
    unfold x3
    refine Within.trans ?_ (Within.mono (State.setTdm_within ..) rfl)
    exact hx2
  extract_lets +onlyGivenNames -merge -underBinder x4 x5 x6 x7
  have hx7 : Within 0x63218281015b1e0028d [] s x7 := by
    unfold x7
    try clear_value x3
    refine Within.upd ?_ rfl rfl (.inr rfl) (.inr rfl) (.inr rfl) (.inl rfl) (.inr rfl) (.inr rfl) (.inr rfl) (.inr
        rfl) (.inr rfl) (.inr rfl) (.inr rfl) (.inr rfl) (.inr rfl) (.inr rfl) (.inr rfl) (.inr rfl) (.inr rfl) (.inr
            rfl) (.inr rfl) (.inr rfl) (.inr rfl) (.inr rfl) (.inr rfl) (.inl rfl) (.inr rfl) (.inr rfl) (.inr rfl)
                (.inr rfl) (.inr rfl) (.inr rfl) (.inr rfl) (.inr rfl) (.inr rfl) (.inr rfl) (.inl rfl) (.inr rfl)
                    (.inr rfl) (.inr rfl) (.inr rfl) (.inr rfl) (.inr rfl) (.inr rfl) (.inr rfl) (.inr rfl) (.inr
                        rfl) (.inr rfl) (.inr rfl)
    exact hx3
  refine Within.trans ?_ (Within.mono (State.modeChanged_within ..) rfl)
  exact hx7

theorem State.roleAssign_within (s : State) (role : Nat) (m : List Byte) :
    Within 0x6321828121ffdfb1aaf [] s (State.roleAssign s role m).2 := by
  unfold State.roleAssign
  extract_lets +onlyGivenNames -merge -underBinder x1
  split
  · split
    · refine Within.pair ?_
      exact Within.refl _
    · split
      · refine Within.pair ?_
        exact (Within.mono (State.toReady_within ..) rfl)
      · refine Within.pair ?_
        exact Within.refl _
  · split
    · refine Within.pair ?_
      refine Within.trans ?_ (Within.mono (State.formActive_within ..) rfl)
      exact (Within.mono (State.abandonJoin_within ..) rfl)
    · refine Within.pair ?_
      exact Within.refl _
  · split
    · refine Within.pair ?_
      exact (Within.mono (State.startJoin_within ..) rfl)
    · refine Within.pair ?_
      exact Within.refl _
  · split
    · refine Within.pair ?_
      refine Within.trans ?_ (Within.mono (State.takeWitnessOnly_within ..) rfl)
      exact (Within.mono (State.abandonJoin_within ..) rfl)
    · refine Within.pair ?_
      exact Within.refl _
  · refine Within.pair ?_
    exact Within.refl _

theorem State.plannedRelay_within (s : State) :
    Within 0x20000000 [] s (State.plannedRelay s).2 := by
  unfold State.plannedRelay
  split
  · refine Within.pair ?_
    exact (Within.mono (State.setTdm_within ..) rfl)
  · refine Within.pair ?_
    exact Within.refl _

theorem State.commandEffect_within (s : State) (m : List Byte) :
    Within 0x63318291a1ffdfb1aaf [] s (State.commandEffect s m).2 := by
  unfold State.commandEffect
  extract_lets +onlyGivenNames -merge -underBinder x1
  split
  · split
    rename_i y2 y3 e4
    have hy3 : Within 0x63318291a1ffdfb1aaf [] s y3 := by
      refine Within.snd e4 ?_
      exact (Within.mono (State.releases_within ..) rfl)
    refine Within.pair ?_
    exact hy3
  · refine Within.pair ?_
    refine Within.upd ?_ rfl rfl (.inr rfl) (.inr rfl) (.inr rfl) (.inr rfl) (.inr rfl) (.inr rfl) (.inr rfl) (.inr
        rfl) (.inr rfl) (.inr rfl) (.inr rfl) (.inr rfl) (.inr rfl) (.inr rfl) (.inr rfl) (.inr rfl) (.inr rfl) (.inr
            rfl) (.inr rfl) (.inr rfl) (.inr rfl) (.inl rfl) (.inr rfl) (.inr rfl) (.inr rfl) (.inr rfl) (.inr rfl)
                (.inr rfl) (.inr rfl) (.inr rfl) (.inr rfl) (.inr rfl) (.inr rfl) (.inr rfl) (.inr rfl) (.inr rfl)
                    (.inr rfl) (.inr rfl) (.inr rfl) (.inr rfl) (.inr rfl) (.inr rfl) (.inr rfl) (.inr rfl) (.inr
                        rfl) (.inr rfl) (.inr rfl)
    exact Within.refl _
  · refine Within.pair ?_
    refine Within.trans ?_ (Within.mono (State.saveLimits_within ..) rfl)
    exact (Within.mono (State.limitChange_within ..) rfl)
  · exact (Within.mono (State.roleAssign_within ..) rfl)
  · split
    rename_i y5 y6 e7
    have hy6 : Within 0x63318291a1ffdfb1aaf [] s y6 := by
      refine Within.snd e7 ?_
      exact (Within.mono (State.plannedRelay_within ..) rfl)
    refine Within.pair ?_
    exact hy6
  · split
    rename_i y8 y9 e10
    have hy9 : Within 0x63318291a1ffdfb1aaf [] s y9 := by
      refine Within.snd e10 ?_
      exact (Within.mono (State.sbxClear_within ..) rfl)
    refine Within.pair ?_
    exact hy9
  · refine Within.pair ?_
    exact (Within.mono (State.activate_within ..) rfl)
  · refine Within.pair ?_
    exact (Within.mono (State.applyKeyLoad_within ..) rfl)
  · split
    rename_i y11 y12 e13
    have hy12 : Within 0x63318291a1ffdfb1aaf [] s y12 := by
      refine Within.snd e13 ?_
      exact (Within.mono (State.commitSig_within ..) rfl)
    refine Within.pair ?_
    exact hy12
  · refine Within.pair ?_
    exact (Within.mono (State.calStart_within ..) rfl)
  · refine Within.pair ?_
    exact Within.refl _

theorem State.takeCounter_within (s : State) (m : List Byte) :
    Within 0x10000480000000000 [] s (State.takeCounter s m) := by
  unfold State.takeCounter
  refine Within.ite ?_ ?_
  · exact (Within.mono (State.raiseCounter_within ..) rfl)
  · exact Within.refl _

theorem State.commandItem_within (s : State) (content : List Byte) :
    Within 0x63318291a1ffdfb1aaf [] s (State.commandItem s content) := by
  unfold State.commandItem
  extract_lets +onlyGivenNames -merge -underBinder x1
  refine Within.ite ?_ ?_
  · exact Within.refl _
  · split
    rename_i y2 y3 e4
    have hy3 : Within 0x63318291a1ffdfb1aaf [] s y3 := by
      refine Within.snd e4 ?_
      exact (Within.mono (State.commandEffect_within ..) rfl)
    split
    · refine Within.trans ?_ (Within.mono (State.decideCommand_within ..) rfl)
      exact hy3
    · exact hy3

theorem execContactorRelease_within (dt : Nat) (path : CmdPath) (h : CmdHead) (groups : BitVec 4) (s : State) :
    Ends (Within 0x10102808013800028e []) s (execContactorRelease dt path h groups s) := by
  unfold execContactorRelease
  refine Ends.next ?_
  refine Within.trans ?_ (Within.mono (State.command_within ..) rfl)
  exact (Within.mono (State.elapse_within ..) rfl)

theorem execDispatchEnable_within (dt : Nat) (path : CmdPath) (h : CmdHead) (enable : Bool) (s : State) :
    Ends (Within 0x10102808013800028e []) s (execDispatchEnable dt path h enable s) := by
  unfold execDispatchEnable
  refine Ends.next ?_
  refine Within.trans ?_ (Within.mono (State.command_within ..) rfl)
  exact (Within.mono (State.elapse_within ..) rfl)

theorem execLimitWrite_within (dt : Nat) (path : CmdPath) (h : CmdHead) (change : LimitChange) (newCrc : Word) (s :
    State) :
    Ends (Within 0x10102808013800028e []) s (execLimitWrite dt path h change newCrc s) := by
  unfold execLimitWrite
  refine Ends.next ?_
  refine Within.trans ?_ (Within.mono (State.command_within ..) rfl)
  exact (Within.mono (State.elapse_within ..) rfl)

theorem execRoleAssign_within (dt : Nat) (path : CmdPath) (h : CmdHead) (role : Byte) (s : State) :
    Ends (Within 0x10102808013800028e []) s (execRoleAssign dt path h role s) := by
  unfold execRoleAssign
  refine Ends.next ?_
  refine Within.trans ?_ (Within.mono (State.command_within ..) rfl)
  exact (Within.mono (State.elapse_within ..) rfl)

theorem execPlannedRelay_within (dt : Nat) (path : CmdPath) (h : CmdHead) (s : State) :
    Ends (Within 0x10102808013800028e []) s (execPlannedRelay dt path h s) := by
  unfold execPlannedRelay
  refine Ends.next ?_
  refine Within.trans ?_ (Within.mono (State.command_within ..) rfl)
  exact (Within.mono (State.elapse_within ..) rfl)

theorem execStrongboxClear_within (dt : Nat) (path : CmdPath) (h : CmdHead) (x : Word) (s : State) :
    Ends (Within 0x10102808013800028e []) s (execStrongboxClear dt path h x s) := by
  unfold execStrongboxClear
  refine Ends.next ?_
  refine Within.trans ?_ (Within.mono (State.command_within ..) rfl)
  exact (Within.mono (State.elapse_within ..) rfl)

theorem execFwActivate_within (dt : Nat) (path : CmdPath) (h : CmdHead) (slot : Byte) (activateAt : BitVec 64) (s :
    State) :
    Ends (Within 0x10102808013800028e []) s (execFwActivate dt path h slot activateAt s) := by
  unfold execFwActivate
  refine Ends.next ?_
  refine Within.trans ?_ (Within.mono (State.command_within ..) rfl)
  exact (Within.mono (State.elapse_within ..) rfl)

theorem execKeyLoad_within (dt : Nat) (path : CmdPath) (h : CmdHead) (target : Byte) (perm : BitVec 16) (wrapped :
    List Byte) (s : State) :
    Ends (Within 0x10102808013800028e []) s (execKeyLoad dt path h target perm wrapped s) := by
  unfold execKeyLoad
  refine Ends.next ?_
  refine Within.trans ?_ (Within.mono (State.command_within ..) rfl)
  exact (Within.mono (State.elapse_within ..) rfl)

theorem execConfigSignatureCommit_within (dt : Nat) (path : CmdPath) (h : CmdHead) (sig : Word) (s : State) :
    Ends (Within 0x10102808013800028e []) s (execConfigSignatureCommit dt path h sig s) := by
  unfold execConfigSignatureCommit
  refine Ends.next ?_
  refine Within.trans ?_ (Within.mono (State.command_within ..) rfl)
  exact (Within.mono (State.elapse_within ..) rfl)

theorem execCalibrationCycle_within (dt : Nat) (path : CmdPath) (h : CmdHead) (hours : BitVec 16) (s : State) :
    Ends (Within 0x10102808013800028e []) s (execCalibrationCycle dt path h hours s) := by
  unfold execCalibrationCycle
  refine Ends.next ?_
  refine Within.trans ?_ (Within.mono (State.command_within ..) rfl)
  exact (Within.mono (State.elapse_within ..) rfl)

theorem execMalformedCommandMessage_within (dt : Nat) (path : CmdPath) (bytes : List Byte) (s : State) :
    Ends (Within 0x10102808013800028e []) s (execMalformedCommandMessage dt path bytes s) := by
  unfold execMalformedCommandMessage
  extract_lets +onlyGivenNames -merge -underBinder x1
  have hx1 : Within 0x10102808013800028e [] s x1 := by
    unfold x1
    exact (Within.mono (State.elapse_within ..) rfl)
  refine Ends.ite ?_ ?_
  · refine Ends.next ?_
    exact hx1
  · refine Ends.next ?_
    refine Within.trans ?_ (Within.mono (State.command_within ..) rfl)
    exact hx1

end Sys2Proof.Machine
end

