-- ==== Sys2Proof/Laws/FrameEvents.lean ====
section
/-! SUPPORT. What each operation of Machine/Events.lean may change (Laws/Within.lean). -/

namespace Sys2Proof.Machine

open Sys2Proof

theorem State.registerItem_within (s : State) (c : List Byte) :
    Within 0x1fffffff820181f00280 [] s (State.registerItem s c) := by
  unfold State.registerItem
  extract_lets +onlyGivenNames -merge -underBinder x1
  extract_lets +onlyGivenNames -merge -underBinder x2
  split
  · exact (Within.mono (State.tripCmdEffect_within ..) rfl)
  · exact (Within.mono (State.coolEffect_within ..) rfl)
  · exact (Within.any (State.loopEffect_within ..) rfl rfl)
  · exact Within.refl _

theorem State.journalItem_within (s : State) (c : List Byte) :
    Within 0x10000000020008200 [] s (State.journalItem s c) := by
  unfold State.journalItem
  extract_lets +onlyGivenNames -merge -underBinder x1
  extract_lets +onlyGivenNames -merge -underBinder x2
  refine Within.ite ?_ ?_
  · exact Within.refl _
  · extract_lets +onlyGivenNames -merge -underBinder x3
    have hx3 : Within 0x10000000020008200 [] s x3 := by
      unfold x3
      exact (Within.mono (State.jrnQueue_within ..) rfl)
    refine Within.ite ?_ ?_
    · refine Within.trans ?_ (Within.mono (State.askRepair_within ..) rfl)
      exact hx3
    · refine Within.ite ?_ ?_
      · refine Within.trans ?_ (Within.mono (State.askRepair_within ..) rfl)
        exact hx3
      · refine Within.trans ?_ (Within.mono (State.askFullRepair_within ..) rfl)
        exact hx3

theorem State.planItem_within (s : State) (c : List Byte) :
    Within 0x20000200 [] s (State.planItem s c) := by
  unfold State.planItem
  split
  · extract_lets +onlyGivenNames -merge -underBinder x1
    refine Within.ite ?_ ?_
    · exact Within.refl _
    · exact (Within.mono (State.askRepair_within ..) rfl)
  · exact Within.refl _

theorem State.timeTake_within (s : State) (c : List Byte) :
    Within 0x800000000 [] s (State.timeTake s c) := by
  unfold State.timeTake
  refine Within.ite ?_ ?_
  · exact Within.refl _
  · extract_lets +onlyGivenNames -merge -underBinder x1 x2
    refine Within.upd ?_ rfl rfl (.inr rfl) (.inr rfl) (.inr rfl) (.inr rfl) (.inr rfl) (.inr rfl) (.inr rfl) (.inr
        rfl) (.inr rfl) (.inr rfl) (.inr rfl) (.inr rfl) (.inr rfl) (.inr rfl) (.inr rfl) (.inr rfl) (.inr rfl) (.inr
            rfl) (.inr rfl) (.inr rfl) (.inr rfl) (.inr rfl) (.inr rfl) (.inr rfl) (.inr rfl) (.inr rfl) (.inr rfl)
                (.inr rfl) (.inr rfl) (.inr rfl) (.inr rfl) (.inr rfl) (.inr rfl) (.inr rfl) (.inr rfl) (.inl rfl)
                    (.inr rfl) (.inr rfl) (.inr rfl) (.inr rfl) (.inr rfl) (.inr rfl) (.inr rfl) (.inr rfl) (.inr
                        rfl) (.inr rfl) (.inr rfl)
    exact Within.refl _

theorem State.witnessItem_within (s : State) (c : List Byte) :
    Within 0x20000000 [] s (State.witnessItem s c) := by
  unfold State.witnessItem
  refine Within.ite ?_ ?_
  · exact Within.refl _
  · refine Within.trans ?_ (Within.mono (State.setTdm_within ..) rfl)
    exact (Within.mono (State.takeProposal_within ..) rfl)

theorem State.verdictItem_within (s : State) (c : List Byte) :
    Within 0x11000 [] s (State.verdictItem s c) := by
  unfold State.verdictItem
  extract_lets +onlyGivenNames -merge -underBinder x1
  extract_lets +onlyGivenNames -merge -underBinder x2
  extract_lets +onlyGivenNames -merge -underBinder x3
  extract_lets +onlyGivenNames -merge -underBinder x4 x5
  have hx5 : Within 0x11000 [] s x5 := by
    unfold x5
    exact (Within.mono (State.setFe_within ..) rfl)
  try clear_value x5
  refine Within.upd ?_ rfl rfl (.inr rfl) (.inr rfl) (.inr rfl) (.inr rfl) (.inr rfl) (.inr rfl) (.inr rfl) (.inr
      rfl) (.inr rfl) (.inr rfl) (.inr rfl) (.inr rfl) (.inr rfl) (.inr rfl) (.inr rfl) (.inr rfl) (.inl rfl) (.inr
          rfl) (.inr rfl) (.inr rfl) (.inr rfl) (.inr rfl) (.inr rfl) (.inr rfl) (.inr rfl) (.inr rfl) (.inr rfl)
              (.inr rfl) (.inr rfl) (.inr rfl) (.inr rfl) (.inr rfl) (.inr rfl) (.inr rfl) (.inr rfl) (.inr rfl)
                  (.inr rfl) (.inr rfl) (.inr rfl) (.inr rfl) (.inr rfl) (.inr rfl) (.inr rfl) (.inr rfl) (.inr rfl)
                      (.inr rfl) (.inr rfl)
  exact hx5

theorem State.takeVerdict_within (s : State) (f : Nat) (v : Nat) :
    Within 0x10000000020018200 [] s (State.takeVerdict s f v) := by
  unfold State.takeVerdict
  refine Within.foldl ?_ (fun t1 a2 h3 => ?_)
  · exact Within.refl _
  · extract_lets +onlyGivenNames -merge -underBinder x4
    split
    · refine Within.trans ?_ (Within.mono (State.modChan_within ..) rfl)
      exact h3
    · refine Within.trans ?_ (Within.mono (State.modChan_within ..) rfl)
      exact h3
    · refine Within.trans ?_ (Within.mono (State.jrnPut_within ..) rfl)
      refine Within.trans ?_ (Within.mono (State.modChan_within ..) rfl)
      exact h3
    · refine Within.trans ?_ (Within.mono (State.jrnPut_within ..) rfl)
      refine Within.trans ?_ (Within.mono (State.modChan_within ..) rfl)
      exact h3
    · exact h3

theorem State.takeVerdicts_within (s : State) :
    Within 0x10000000020018200 [] s (State.takeVerdicts s) := by
  unfold State.takeVerdicts
  extract_lets +onlyGivenNames -merge -underBinder x1
  refine Within.foldl ?_ (fun t2 a3 h4 => ?_)
  · refine Within.upd ?_ rfl rfl (.inr rfl) (.inr rfl) (.inr rfl) (.inr rfl) (.inr rfl) (.inr rfl) (.inr rfl) (.inr
      rfl) (.inr rfl) (.inr rfl) (.inr rfl) (.inr rfl) (.inr rfl) (.inr rfl) (.inr rfl) (.inr rfl) (.inl rfl) (.inr
          rfl) (.inr rfl) (.inr rfl) (.inr rfl) (.inr rfl) (.inr rfl) (.inr rfl) (.inr rfl) (.inr rfl) (.inr rfl)
              (.inr rfl) (.inr rfl) (.inr rfl) (.inr rfl) (.inr rfl) (.inr rfl) (.inr rfl) (.inr rfl) (.inr rfl)
                  (.inr rfl) (.inr rfl) (.inr rfl) (.inr rfl) (.inr rfl) (.inr rfl) (.inr rfl) (.inr rfl) (.inr rfl)
                      (.inr rfl) (.inr rfl)
    exact Within.refl _
  · refine Within.ite ?_ ?_
    · refine Within.trans ?_ (Within.mono (State.calArm_within ..) rfl)
      exact h4
    · refine Within.trans ?_ (Within.mono (State.takeVerdict_within ..) rfl)
      exact h4

theorem State.applyItem_within (s : State) (e : EvItem) :
    Within 0x1fffffff9b1ffdfb9aaf [] s (State.applyItem s e) := by
  unfold State.applyItem
  split
  · exact (Within.mono (State.registerItem_within ..) rfl)
  · exact (Within.mono (State.commandItem_within ..) rfl)
  · exact (Within.mono (State.setPointEffect_within ..) rfl)
  · exact (Within.mono (State.espEffect_within ..) rfl)
  · exact (Within.mono (State.journalItem_within ..) rfl)
  · exact (Within.mono (State.planItem_within ..) rfl)
  · exact (Within.mono (State.timeTake_within ..) rfl)
  · exact (Within.mono (State.witnessItem_within ..) rfl)
  · exact (Within.mono (State.verdictItem_within ..) rfl)
  · exact Within.refl _

theorem State.dispatchNow_within (s : State) :
    Within 0x5010008000080210080 [] s (State.dispatchNow s) := by
  unfold State.dispatchNow
  refine Within.ite ?_ ?_
  · exact Within.refl _
  · exact (Within.mono (State.dispatchTick_within ..) rfl)

theorem State.eventEntry_within (s : State) (e : EvItem) :
    Within 0x80000000 [] s (State.eventEntry s e) := by
  unfold State.eventEntry
  refine Within.ite ?_ ?_
  · exact (Within.mono (State.wayEntry_within ..) rfl)
  · exact Within.refl _

theorem execEventInputEffect_within (s : State) :
    Ends (Within 0x1fffffff9b1ffdfb9aaf []) s (execEventInputEffect s) := by
  unfold execEventInputEffect
  split
  · refine Ends.next ?_
    exact Within.refl _
  · extract_lets +onlyGivenNames -merge -underBinder x1
    have hx1 : Within 0x1fffffff9b1ffdfb9aaf [] s x1 := by
      unfold x1
      refine Within.upd ?_ rfl rfl (.inr rfl) (.inr rfl) (.inr rfl) (.inr rfl) (.inr rfl) (.inr rfl) (.inr rfl) (.inr
          rfl) (.inr rfl) (.inr rfl) (.inr rfl) (.inr rfl) (.inr rfl) (.inr rfl) (.inr rfl) (.inr rfl) (.inr rfl)
              (.inr rfl) (.inr rfl) (.inr rfl) (.inr rfl) (.inr rfl) (.inr rfl) (.inr rfl) (.inr rfl) (.inr rfl)
                  (.inr rfl) (.inl rfl) (.inr rfl) (.inr rfl) (.inr rfl) (.inr rfl) (.inr rfl) (.inr rfl) (.inr rfl)
                      (.inr rfl) (.inr rfl) (.inr rfl) (.inr rfl) (.inr rfl) (.inr rfl) (.inr rfl) (.inr rfl) (.inr
                          rfl) (.inr rfl) (.inr rfl) (.inr rfl)
      exact Within.refl _
    refine Ends.next ?_
    refine Within.trans ?_ (Within.mono (State.dispatchNow_within ..) rfl)
    refine Within.trans ?_ (Within.mono (State.applyItem_within ..) rfl)
    refine Within.trans ?_ (Within.mono (State.eventEntry_within ..) rfl)
    exact hx1

end Sys2Proof.Machine
end

