-- ==== Sys2Proof/Laws/FrameRepair.lean ====
section
/-! SUPPORT. What each operation of Machine/Repair.lean may change (Laws/Within.lean). -/

namespace Sys2Proof.Machine

open Sys2Proof

theorem State.waitBound_within (s : State) :
    Within 0x8800000000080 [] s (State.waitBound s) := by
  unfold State.waitBound
  refine Within.trans ?_ (Within.kind (State.flag_within ..) rfl .sys rfl rfl)
  exact (Within.kind (State.inc_within ..) rfl .sys rfl rfl)

theorem State.joinStep_within (s : State) :
    Within 0x6721828101db3e00289 [] s (State.joinStep s) := by
  unfold State.joinStep
  split
  rename_i y1 y2 e3
  have hy2 : Within 0x6721828101db3e00289 [] s y2 := by
    refine Within.snd e3 ?_
    exact (Within.mono (State.tryJoin_within ..) rfl)
  split
  · refine Within.trans ?_ (Within.mono (State.decideCommand_within ..) rfl)
    exact hy2
  · exact hy2

theorem execStageDigest_within (dt : Nat) (f : TandemHead) (bytes : List Byte) (s : State) :
    Ends (Within 0x1fffffffd4fffffffeff []) s (execStageDigest dt f bytes s) := by
  unfold execStageDigest
  split
  rename_i y1 y2 e3
  have hy2 : Within 0x1fffffffd4fffffffeff [] s y2 := by
    refine Within.snd e3 ?_
    refine Within.trans ?_ (Within.mono (State.takeFrame_within ..) rfl)
    exact (Within.mono (State.elapse_within ..) rfl)
  refine Ends.ite ?_ ?_
  · refine Ends.next ?_
    refine Within.trans ?_ (Within.mono (State.trialOut_within ..) rfl)
    refine Within.trans ?_ (Within.mono (State.compareStage_within ..) rfl)
    refine Within.trans ?_ (Within.mono (State.setTdm_within ..) rfl)
    exact hy2
  · refine Ends.next ?_
    exact hy2

theorem execLoopDigest_within (dt : Nat) (f : TandemHead) (bytes : List Byte) (s : State) :
    Ends (Within 0x1fffffffd4fffffffeff []) s (execLoopDigest dt f bytes s) := by
  unfold execLoopDigest
  split
  rename_i y1 y2 e3
  have hy2 : Within 0x1fffffffd4fffffffeff [] s y2 := by
    refine Within.snd e3 ?_
    refine Within.trans ?_ (Within.mono (State.takeFrame_within ..) rfl)
    exact (Within.mono (State.elapse_within ..) rfl)
  refine Ends.ite ?_ ?_
  · refine Ends.next ?_
    refine Within.trans ?_ (Within.mono (State.trialOut_within ..) rfl)
    refine Within.trans ?_ (Within.mono (State.compareLoop_within ..) rfl)
    refine Within.trans ?_ (Within.mono (State.setTdm_within ..) rfl)
    exact hy2
  · refine Ends.next ?_
    exact hy2

theorem execRepairReq_within (dt : Nat) (f : TandemHead) (bytes : List Byte) (s : State) :
    Ends (Within 0x20000002000000e []) s (execRepairReq dt f bytes s) := by
  unfold execRepairReq
  split
  rename_i y1 y2 e3
  have hy2 : Within 0x20000002000000e [] s y2 := by
    refine Within.snd e3 ?_
    refine Within.trans ?_ (Within.mono (State.takeFrame_within ..) rfl)
    exact (Within.mono (State.elapse_within ..) rfl)
  refine Ends.ite ?_ ?_
  · extract_lets +onlyGivenNames -merge -underBinder x4
    extract_lets +onlyGivenNames -merge -underBinder x5
    refine Ends.next ?_
    refine Within.trans ?_ (Within.mono (State.setTdm_within ..) rfl)
    exact hy2
  · refine Ends.next ?_
    exact hy2

theorem State.channelBlock_within (s : State) (b : List Byte) :
    Within 0xa0010000 [] s (State.channelBlock s b) := by
  unfold State.channelBlock
  extract_lets +onlyGivenNames -merge -underBinder x1
  extract_lets +onlyGivenNames -merge -underBinder x2
  extract_lets +onlyGivenNames -merge -underBinder x3
  extract_lets +onlyGivenNames -merge -underBinder x4
  refine Within.ite ?_ ?_
  · exact (Within.mono (State.setTdm_within ..) rfl)
  · refine Within.ite ?_ ?_
    · exact (Within.mono (State.installChannel_within ..) rfl)
    · exact Within.refl _

theorem State.slotBlock_within (s : State) (b : List Byte) :
    Within 0x4000000000000600000 [] s (State.slotBlock s b) := by
  unfold State.slotBlock
  extract_lets +onlyGivenNames -merge -underBinder x1
  extract_lets +onlyGivenNames -merge -underBinder x2
  exact (Within.mono (State.slotRerun_within ..) rfl)

theorem State.journalBlock_within (s : State) (b : List Byte) :
    Within 0x10000000020008200 [] s (State.journalBlock s b) := by
  unfold State.journalBlock
  extract_lets +onlyGivenNames -merge -underBinder x1
  extract_lets +onlyGivenNames -merge -underBinder x2
  refine Within.ite ?_ ?_
  · exact Within.refl _
  · exact (Within.mono (State.jrnQueue_within ..) rfl)

theorem State.mirroredBlock_within (s : State) (b : List Byte) :
    Within 0x1fffffff9b1ffdfb9aaf [] s (State.mirroredBlock s b) := by
  unfold State.mirroredBlock
  extract_lets +onlyGivenNames -merge -underBinder x1
  extract_lets +onlyGivenNames -merge -underBinder x2
  have hx2 : Within 0x1fffffff9b1ffdfb9aaf [] s x2 := by
    unfold x2
    exact (Within.mono (State.setTdm_within ..) rfl)
  refine Within.foldl ?_ (fun t3 a4 h5 => ?_)
  · exact hx2
  · refine Within.ite ?_ ?_
    · refine Within.trans ?_ (Within.mono (State.applyItem_within ..) rfl)
      exact h5
    · refine Within.ite ?_ ?_
      · refine Within.upd ?_ rfl rfl (.inr rfl) (.inr rfl) (.inr rfl) (.inr rfl) (.inr rfl) (.inr rfl) (.inr rfl)
          (.inr rfl) (.inr rfl) (.inr rfl) (.inr rfl) (.inr rfl) (.inr rfl) (.inr rfl) (.inr rfl) (.inr rfl) (.inr
              rfl) (.inr rfl) (.inr rfl) (.inr rfl) (.inr rfl) (.inr rfl) (.inr rfl) (.inr rfl) (.inr rfl) (.inr rfl)
                  (.inr rfl) (.inl rfl) (.inr rfl) (.inr rfl) (.inr rfl) (.inr rfl) (.inr rfl) (.inr rfl) (.inr rfl)
                      (.inr rfl) (.inr rfl) (.inr rfl) (.inr rfl) (.inr rfl) (.inr rfl) (.inr rfl) (.inr rfl) (.inr
                          rfl) (.inr rfl) (.inr rfl) (.inr rfl)
        exact h5
      · exact h5

theorem State.installBlock_within (s : State) (x : Nat × List Byte) :
    Within 0x1fffffff9b1ffdfb9aaf [] s (State.installBlock s x) := by
  unfold State.installBlock
  split
  · exact (Within.mono (State.channelBlock_within ..) rfl)
  · exact (Within.mono (State.slotBlock_within ..) rfl)
  · exact (Within.mono (State.journalBlock_within ..) rfl)
  · exact (Within.mono (State.mirroredBlock_within ..) rfl)
  · exact Within.refl _

theorem State.repairDone_within (s : State) :
    Within 0x6721a28101db3e00289 [] s (State.repairDone s) := by
  unfold State.repairDone
  extract_lets +onlyGivenNames -merge -underBinder x1
  extract_lets +onlyGivenNames -merge -underBinder x2
  have hx2 : Within 0x6721a28101db3e00289 [] s x2 := by
    unfold x2
    refine Within.trans ?_ (Within.kind (State.flag_within ..) rfl .tdm rfl rfl)
    exact (Within.kind (State.inc_within ..) rfl .tdm rfl rfl)
  extract_lets +onlyGivenNames -merge -underBinder x3
  have hx3 : Within 0x6721a28101db3e00289 [] s x3 := by
    unfold x3
    refine Within.trans ?_ (Within.mono (State.setTdm_within ..) rfl)
    exact hx2
  refine Within.trans ?_ (Within.mono (State.joinStep_within ..) rfl)
  exact hx3

theorem execRepairData_within (dt : Nat) (f : TandemHead) (bytes : List Byte) (s : State) :
    Ends (Within 0x1fffffff9b1ffffb9aaf []) s (execRepairData dt f bytes s) := by
  unfold execRepairData
  split
  rename_i y1 y2 e3
  have hy2 : Within 0x1fffffff9b1ffffb9aaf [] s y2 := by
    refine Within.snd e3 ?_
    refine Within.trans ?_ (Within.mono (State.takeFrame_within ..) rfl)
    exact (Within.mono (State.elapse_within ..) rfl)
  refine Ends.ite ?_ ?_
  · refine Ends.next ?_
    exact hy2
  · extract_lets +onlyGivenNames -merge -underBinder x4
    split
    · extract_lets +onlyGivenNames -merge -underBinder x5
      have hx5 : Within 0x1fffffff9b1ffffb9aaf [] s x5 := by
        unfold x5
        refine Within.trans ?_ (Within.mono (State.setTdm_within ..) rfl)
        exact hy2
      extract_lets +onlyGivenNames -merge -underBinder x6
      have hx6 : Within 0x1fffffff9b1ffffb9aaf [] s x6 := by
        unfold x6
        refine Within.foldl ?_ (fun t7 a8 h9 => ?_)
        · exact hx5
        · refine Within.trans ?_ (Within.mono (State.installBlock_within ..) rfl)
          exact h9
      refine Ends.ite ?_ ?_
      · refine Ends.next ?_
        refine Within.trans ?_ (Within.mono (State.repairDone_within ..) rfl)
        exact hx6
      · refine Ends.next ?_
        exact hx6

theorem State.repairAll_within (s : State) :
    Within 0x20000200 [] s (State.repairAll s) := by
  unfold State.repairAll
  refine Within.ite ?_ ?_
  · exact (Within.mono (State.askFullRepair_within ..) rfl)
  · exact Within.refl _

theorem execRepairAll_within (dt : Nat) (s : State) :
    Ends (Within 0x2000020e []) s (execRepairAll dt s) := by
  unfold execRepairAll
  refine Ends.next ?_
  refine Within.hostDo ?_ (fun t1 h2 => ?_)
  · exact (Within.mono (State.elapse_within ..) rfl)
  · refine Within.trans ?_ (Within.mono (State.repairAll_within ..) rfl)
    exact h2

theorem execJoinTimeout_within (dt : Nat) (s : State) :
    Ends (Within 0x102880013000008e []) s (execJoinTimeout dt s) := by
  unfold execJoinTimeout
  extract_lets +onlyGivenNames -merge -underBinder x1
  have hx1 : Within 0x102880013000008e [] s x1 := by
    unfold x1
    exact (Within.mono (State.elapse_within ..) rfl)
  refine Ends.ite ?_ ?_
  · extract_lets +onlyGivenNames -merge -underBinder x2
    extract_lets +onlyGivenNames -merge -underBinder x3
    have hx3 : Within 0x102880013000008e [] s x3 := by
      unfold x3
      refine Within.trans ?_ (Within.mono (State.waitBound_within ..) rfl)
      refine Within.trans ?_ (Within.mono (State.dropJoin_within ..) rfl)
      exact hx1
    clear_value x2
    split
    · refine Ends.next ?_
      refine Within.trans ?_ (Within.mono (State.decideCommand_within ..) rfl)
      exact hx3
    · refine Ends.next ?_
      exact hx3
  · refine Ends.next ?_
    exact hx1

theorem execNetworkSessionStateMirror_within (dt : Nat) (s : State) :
    Ends (Within 0x2000020e []) s (execNetworkSessionStateMirror dt s) := by
  unfold execNetworkSessionStateMirror
  extract_lets +onlyGivenNames -merge -underBinder x1
  have hx1 : Within 0x2000020e [] s x1 := by
    unfold x1
    exact (Within.mono (State.elapse_within ..) rfl)
  refine Ends.ite ?_ ?_
  · refine Ends.next ?_
    refine Within.trans ?_ (Within.mono (State.mirrorItem_within ..) rfl)
    refine Within.trans ?_ (Within.mono (State.setTdm_within ..) rfl)
    exact hx1
  · refine Ends.next ?_
    exact hx1

end Sys2Proof.Machine
end

