-- ==== Sys2Proof/Laws/FrameTandem.lean ====
section
/-! SUPPORT. What each operation of Machine/Tandem.lean may change (Laws/Within.lean). -/

namespace Sys2Proof.Machine

open Sys2Proof

theorem execLinkDown_within (dt : Nat) (lane : Fin 2) (s : State) :
    Ends (Within 0x20800002000008e []) s (execLinkDown dt lane s) := by
  unfold execLinkDown
  extract_lets +onlyGivenNames -merge -underBinder x1
  have hx1 : Within 0x20800002000008e [] s x1 := by
    unfold x1
    exact (Within.mono (State.elapse_within ..) rfl)
  extract_lets +onlyGivenNames -merge -underBinder x2
  extract_lets +onlyGivenNames -merge -underBinder x3
  refine Ends.ite ?_ ?_
  · refine Ends.next ?_
    refine Within.trans ?_ (Within.kind (State.flag_within ..) rfl .tdm rfl rfl)
    refine Within.trans ?_ (Within.kind (State.inc_within ..) rfl .tdm rfl rfl)
    refine Within.trans ?_ (Within.mono (State.setLink_within ..) rfl)
    exact hx1
  · refine Ends.next ?_
    exact hx1

theorem execLinkUp_within (dt : Nat) (lane : Fin 2) (s : State) :
    Ends (Within 0x2000000e []) s (execLinkUp dt lane s) := by
  unfold execLinkUp
  extract_lets +onlyGivenNames -merge -underBinder x1
  have hx1 : Within 0x2000000e [] s x1 := by
    unfold x1
    exact (Within.mono (State.elapse_within ..) rfl)
  extract_lets +onlyGivenNames -merge -underBinder x2
  refine Ends.ite ?_ ?_
  · refine Ends.next ?_
    refine Within.trans ?_ (Within.mono (State.setLink_within ..) rfl)
    exact hx1
  · refine Ends.next ?_
    exact hx1

theorem execHeartbeatSend_within (dt : Nat) (s : State) :
    Ends (Within 0x2200020e []) s (execHeartbeatSend dt s) := by
  unfold execHeartbeatSend
  extract_lets +onlyGivenNames -merge -underBinder x1
  have hx1 : Within 0x2200020e [] s x1 := by
    unfold x1
    exact (Within.mono (State.elapse_within ..) rfl)
  refine Ends.ite ?_ ?_
  · extract_lets +onlyGivenNames -merge -underBinder x2
    have hx2 : Within 0x2200020e [] s x2 := by
      unfold x2
      refine Within.trans ?_ (Within.mono (State.setTdm_within ..) rfl)
      refine Within.trans ?_ (Within.mono (State.sendFrame_within ..) rfl)
      exact hx1
    refine Ends.next ?_
    refine Within.upd ?_ rfl rfl (.inr rfl) (.inr rfl) (.inr rfl) (.inr rfl) (.inr rfl) (.inr rfl) (.inr rfl) (.inr
        rfl) (.inr rfl) (.inr rfl) (.inr rfl) (.inr rfl) (.inr rfl) (.inr rfl) (.inr rfl) (.inr rfl) (.inr rfl) (.inr
            rfl) (.inr rfl) (.inr rfl) (.inr rfl) (.inr rfl) (.inr rfl) (.inr rfl) (.inr rfl) (.inl rfl) (.inr rfl)
                (.inr rfl) (.inr rfl) (.inr rfl) (.inr rfl) (.inr rfl) (.inr rfl) (.inr rfl) (.inr rfl) (.inr rfl)
                    (.inr rfl) (.inr rfl) (.inr rfl) (.inr rfl) (.inr rfl) (.inr rfl) (.inr rfl) (.inr rfl) (.inr
                        rfl) (.inr rfl) (.inr rfl)
    exact hx2
  · refine Ends.next ?_
    exact hx1

theorem State.compareInterlock_within (s : State) :
    Within 0x208000020000080 [] s (State.compareInterlock s) := by
  unfold State.compareInterlock
  extract_lets +onlyGivenNames -merge -underBinder x1
  refine Within.ite ?_ ?_
  · exact (Within.mono (State.setTdm_within ..) rfl)
  · extract_lets +onlyGivenNames -merge -underBinder x2
    have hx2 : Within 0x208000020000080 [] s x2 := by
      unfold x2
      exact (Within.mono (State.setTdm_within ..) rfl)
    refine Within.ite ?_ ?_
    · refine Within.trans ?_ (Within.kind (State.flag_within ..) rfl .tdm rfl rfl)
      exact hx2
    · exact hx2

theorem State.agreeWitness_within (s : State) :
    Within 0x10000000000620000200 [] s (State.agreeWitness s) := by
  unfold State.agreeWitness
  extract_lets +onlyGivenNames -merge -underBinder x1
  extract_lets +onlyGivenNames -merge -underBinder x2
  refine Within.ite ?_ ?_
  · refine Within.trans ?_ (Within.mono (State.useWitness_within ..) rfl)
    exact (Within.mono (State.takeProposal_within ..) rfl)
  · refine Within.ite ?_ ?_
    · refine Within.ite ?_ ?_
      · refine Within.ite ?_ ?_
        · exact (Within.mono (State.useWitness_within ..) rfl)
        · exact Within.refl _
      · refine Within.ite ?_ ?_
        · exact (Within.mono (State.proposeWitness_within ..) rfl)
        · exact Within.refl _
    · exact Within.refl _

theorem State.followPeer_within (s : State) (was : Nat) (heard : Nat) :
    Within 0x10e [] s (State.followPeer s was heard) := by
  unfold State.followPeer
  refine Within.ite ?_ ?_
  · split
    rename_i y1 y2 e3
    have hy2 : Within 0x10e [] s y2 := by
      refine Within.snd e3 ?_
      exact (Within.mono (State.draw_within ..) rfl)
    extract_lets +onlyGivenNames -merge -underBinder x4
    extract_lets +onlyGivenNames -merge -underBinder x5
    extract_lets +onlyGivenNames -merge -underBinder x6
    extract_lets +onlyGivenNames -merge -underBinder x7
    extract_lets +onlyGivenNames -merge -underBinder x8
    refine Within.trans ?_ (Within.mono (State.atMt_within ..) rfl)
    exact hy2
  · exact Within.refl _

theorem execHeartbeat_within (dt : Nat) (f : TandemHead) (bytes : List Byte) (s : State) :
    Ends (Within 0x16721a28121ffffb1baf []) s (execHeartbeat dt f bytes s) := by
  unfold execHeartbeat
  extract_lets +onlyGivenNames -merge -underBinder x1
  extract_lets +onlyGivenNames -merge -underBinder x2
  have hx2 : Within 0x16721a28121ffffb1baf [] s x2 := by
    unfold x2
    exact (Within.mono (State.elapse_within ..) rfl)
  extract_lets +onlyGivenNames -merge -underBinder x3
  split
  rename_i y4 y5 e6
  have hy5 : Within 0x16721a28121ffffb1baf [] s y5 := by
    refine Within.snd e6 ?_
    refine Within.trans ?_ (Within.mono (State.takeFrame_within ..) rfl)
    exact hx2
  refine Ends.ite ?_ ?_
  · refine Ends.next ?_
    refine Within.ite ?_ ?_
    · refine Within.trans ?_ (Within.kind (State.flag_within ..) rfl .tdm rfl rfl)
      exact hy5
    · exact hy5
  · refine Ends.ite ?_ ?_
    · refine Ends.next ?_
      refine Within.trans ?_ (Within.kind (State.flag_within ..) rfl .tdm rfl rfl)
      refine Within.trans ?_ (Within.kind (State.inc_within ..) rfl .tdm rfl rfl)
      exact hy5
    · extract_lets +onlyGivenNames -merge -underBinder x7
      extract_lets +onlyGivenNames -merge -underBinder x8
      have hx8 : Within 0x16721a28121ffffb1baf [] s x8 := by
        unfold x8
        refine Within.trans ?_ (Within.mono (State.followPeer_within ..) rfl)
        refine Within.trans ?_ (Within.mono (State.setTdm_within ..) rfl)
        exact hy5
      extract_lets +onlyGivenNames -merge -underBinder x9
      have hx9 : Within 0x16721a28121ffffb1baf [] s x9 := by
        unfold x9
        refine Within.trans ?_ (Within.mono (State.agreeWitness_within ..) rfl)
        refine Within.trans ?_ (Within.mono (State.compareInterlock_within ..) rfl)
        exact hx8
      refine Ends.next ?_
      refine Within.trans ?_ (Within.mono (State.joinStep_within ..) rfl)
      refine Within.trans ?_ (Within.mono (State.joinBegin_within ..) rfl)
      refine Within.trans ?_ (Within.mono (State.markPeerPulses_within ..) rfl)
      refine Within.trans ?_ (Within.mono (State.adoptPeerTrips_within ..) rfl)
      exact hx9

theorem execPeerSilent_within (dt : Nat) (s : State) :
    Ends (Within 0x1000120800072000028e []) s (execPeerSilent dt s) := by
  unfold execPeerSilent
  extract_lets +onlyGivenNames -merge -underBinder x1
  have hx1 : Within 0x1000120800072000028e [] s x1 := by
    unfold x1
    exact (Within.mono (State.elapse_within ..) rfl)
  refine Ends.ite ?_ ?_
  · extract_lets +onlyGivenNames -merge -underBinder x2
    have hx2 : Within 0x1000120800072000028e [] s x2 := by
      unfold x2
      refine Within.trans ?_ (Within.kind (State.flag_within ..) rfl .tdm rfl rfl)
      refine Within.trans ?_ (Within.mono (State.setTdm_within ..) rfl)
      exact hx1
    extract_lets +onlyGivenNames -merge -underBinder x3
    have hx3 : Within 0x1000120800072000028e [] s x3 := by
      unfold x3
      refine Within.ite ?_ ?_
      · refine Within.trans ?_ (Within.mono (State.useWitness_within ..) rfl)
        exact hx2
      · exact hx2
    refine Ends.ite ?_ ?_
    · refine Ends.next ?_
      refine Within.ite ?_ ?_
      · refine Within.trans ?_ (Within.mono (State.doubleFault_within ..) rfl)
        exact hx3
      · refine Within.trans ?_ (Within.mono (State.acquire_within ..) rfl)
        exact hx3
    · refine Ends.next ?_
      exact hx3
  · refine Ends.next ?_
    exact hx1

theorem execInterlockAgreement_within (dt : Nat) (s : State) :
    Ends (Within 0x20800000000008e []) s (execInterlockAgreement dt s) := by
  unfold execInterlockAgreement
  extract_lets +onlyGivenNames -merge -underBinder x1
  have hx1 : Within 0x20800000000008e [] s x1 := by
    unfold x1
    exact (Within.mono (State.elapse_within ..) rfl)
  refine Ends.ite ?_ ?_
  · refine Ends.next ?_
    refine Within.trans ?_ (Within.mono (State.pageLine_within ..) rfl)
    refine Within.trans ?_ (Within.kind (State.wrb_within ..) rfl .tdm rfl rfl)
    exact hx1
  · refine Ends.next ?_
    exact hx1

theorem State.peerDriveHigh_within (s : State) :
    Within 0x120800012000008c [] s (State.peerDriveHigh s) := by
  unfold State.peerDriveHigh
  extract_lets +onlyGivenNames -merge -underBinder x1
  have hx1 : Within 0x120800012000008c [] s x1 := by
    unfold x1
    exact (Within.mono (State.setTdm_within ..) rfl)
  refine Within.ite ?_ ?_
  · extract_lets +onlyGivenNames -merge -underBinder x2
    have hx2 : Within 0x120800012000008c [] s x2 := by
      unfold x2
      refine Within.trans ?_ (Within.mono (State.setTdm_within ..) rfl)
      refine Within.trans ?_ (Within.mono (State.driveLow_within ..) rfl)
      exact hx1
    extract_lets +onlyGivenNames -merge -underBinder x3
    have hx3 : Within 0x120800012000008c [] s x3 := by
      unfold x3
      refine Within.trans ?_ (Within.kind (State.inc_within ..) rfl .tdm rfl rfl)
      exact hx2
    refine Within.trans ?_ (Within.mono (State.record_within ..) rfl)
    exact hx3
  · exact hx1

theorem State.peerDriveLow_within (s : State) :
    Within 0x20000000 [] s (State.peerDriveLow s) := by
  unfold State.peerDriveLow
  exact (Within.mono (State.setTdm_within ..) rfl)

theorem execPeerDriveEnHigh_within (dt : Nat) (s : State) :
    Ends (Within 0x120800012000008e []) s (execPeerDriveEnHigh dt s) := by
  unfold execPeerDriveEnHigh
  refine Ends.next ?_
  refine Within.trans ?_ (Within.mono (State.peerDriveHigh_within ..) rfl)
  exact (Within.mono (State.elapse_within ..) rfl)

theorem State.noteSeq_within (s : State) (q : Nat) :
    Within 0x20000000 [] s (State.noteSeq s q) := by
  unfold State.noteSeq
  refine Within.ite ?_ ?_
  · extract_lets +onlyGivenNames -merge -underBinder x1
    exact (Within.mono (State.setTdm_within ..) rfl)
  · exact (Within.mono (State.setTdm_within ..) rfl)

theorem State.takeItem_within (s : State) (e : EvItem) :
    Within 0x1fffffffdb1ffdfb9aaf [] s (State.takeItem s e) := by
  unfold State.takeItem
  refine Within.ite ?_ ?_
  · exact Within.refl _
  · extract_lets +onlyGivenNames -merge -underBinder x1
    have hx1 : Within 0x1fffffffdb1ffdfb9aaf [] s x1 := by
      unfold x1
      exact (Within.mono (State.noteSeq_within ..) rfl)
    extract_lets +onlyGivenNames -merge -underBinder x2
    have hx2 : Within 0x1fffffffdb1ffdfb9aaf [] s x2 := by
      unfold x2
      refine Within.ite ?_ ?_
      · refine Within.trans ?_ (Within.mono (State.takeCounter_within ..) rfl)
        exact hx1
      · exact hx1
    refine Within.ite ?_ ?_
    · refine Within.trans ?_ (Within.mono (State.askRepairFor_within ..) rfl)
      exact hx2
    · refine Within.ite ?_ ?_
      · refine Within.ite ?_ ?_
        · exact hx2
        · refine Within.trans ?_ (Within.mono (State.applyItem_within ..) rfl)
          exact hx2
      · refine Within.upd ?_ rfl rfl (.inr rfl) (.inr rfl) (.inr rfl) (.inr rfl) (.inr rfl) (.inr rfl) (.inr rfl)
          (.inr rfl) (.inr rfl) (.inr rfl) (.inr rfl) (.inr rfl) (.inr rfl) (.inr rfl) (.inr rfl) (.inr rfl) (.inr
              rfl) (.inr rfl) (.inr rfl) (.inr rfl) (.inr rfl) (.inr rfl) (.inr rfl) (.inr rfl) (.inr rfl) (.inr rfl)
                  (.inr rfl) (.inl rfl) (.inr rfl) (.inr rfl) (.inr rfl) (.inr rfl) (.inr rfl) (.inr rfl) (.inr rfl)
                      (.inr rfl) (.inr rfl) (.inr rfl) (.inr rfl) (.inr rfl) (.inr rfl) (.inr rfl) (.inr rfl) (.inr
                          rfl) (.inr rfl) (.inr rfl) (.inr rfl)
        exact hx2

theorem execMirror_within (dt : Nat) (f : TandemHead) (bytes : List Byte) (s : State) :
    Ends (Within 0x1fffffffdb1ffdfb9aaf []) s (execMirror dt f bytes s) := by
  unfold execMirror
  split
  rename_i y1 y2 e3
  have hy2 : Within 0x1fffffffdb1ffdfb9aaf [] s y2 := by
    refine Within.snd e3 ?_
    refine Within.trans ?_ (Within.mono (State.takeFrame_within ..) rfl)
    exact (Within.mono (State.elapse_within ..) rfl)
  refine Ends.ite ?_ ?_
  · refine Ends.next ?_
    refine Within.foldl ?_ (fun t4 a5 h6 => ?_)
    · exact hy2
    · refine Within.trans ?_ (Within.mono (State.takeItem_within ..) rfl)
      exact h6
  · refine Ends.next ?_
    exact hy2

theorem execMirrorGap_within (dt : Nat) (s : State) :
    Ends (Within 0x20800002000028e []) s (execMirrorGap dt s) := by
  unfold execMirrorGap
  extract_lets +onlyGivenNames -merge -underBinder x1
  have hx1 : Within 0x20800002000028e [] s x1 := by
    unfold x1
    exact (Within.mono (State.elapse_within ..) rfl)
  refine Ends.ite ?_ ?_
  · extract_lets +onlyGivenNames -merge -underBinder x2
    have hx2 : Within 0x20800002000028e [] s x2 := by
      unfold x2
      refine Within.trans ?_ (Within.kind (State.flag_within ..) rfl .tdm rfl rfl)
      refine Within.trans ?_ (Within.kind (State.inc_within ..) rfl .tdm rfl rfl)
      exact hx1
    refine Ends.next ?_
    refine Within.trans ?_ (Within.mono (State.askFullRepair_within ..) rfl)
    refine Within.trans ?_ (Within.mono (State.setTdm_within ..) rfl)
    exact hx2
  · refine Ends.next ?_
    exact hx1

theorem State.wrWords_within (s : State) (p : Page) (o : Nat) (n : Nat) (m : List Byte) :
    Within 0x0 [p] s (State.wrWords s p o n m) := by
  unfold State.wrWords
  refine Within.foldl ?_ (fun t1 a2 h3 => ?_)
  · exact Within.refl _
  · refine Within.trans ?_ (Within.page (State.wrn_within ..) rfl)
    exact h3

theorem State.sendHealth_within (s : State) :
    Within 0x20c0000200002a0 [] s (State.sendHealth s) := by
  unfold State.sendHealth
  extract_lets +onlyGivenNames -merge -underBinder x1
  refine Within.trans ?_ (Within.kind (State.wrWords_within ..) rfl .tdm rfl rfl)
  refine Within.trans ?_ (Within.mono (State.ringPush_within ..) rfl)
  exact (Within.mono (State.sendFrame_within ..) rfl)

theorem execHealthSend_within (dt : Nat) (s : State) :
    Ends (Within 0x20c0000200002ae []) s (execHealthSend dt s) := by
  unfold execHealthSend
  extract_lets +onlyGivenNames -merge -underBinder x1
  have hx1 : Within 0x20c0000200002ae [] s x1 := by
    unfold x1
    exact (Within.mono (State.elapse_within ..) rfl)
  refine Ends.ite ?_ ?_
  · refine Ends.next ?_
    refine Within.trans ?_ (Within.mono (State.sendHealth_within ..) rfl)
    refine Within.trans ?_ (Within.mono (State.setTdm_within ..) rfl)
    exact hx1
  · refine Ends.next ?_
    exact hx1

theorem State.healthNow_within (s : State) :
    Within 0x20c0000200002a0 [] s (State.healthNow s) := by
  unfold State.healthNow
  refine Within.ite ?_ ?_
  · exact (Within.mono (State.sendHealth_within ..) rfl)
  · exact Within.refl _

theorem execHealthNow_within (dt : Nat) (s : State) :
    Ends (Within 0x20c0000200002ae []) s (execHealthNow dt s) := by
  unfold execHealthNow
  refine Ends.next ?_
  refine Within.hostDo ?_ (fun t1 h2 => ?_)
  · exact (Within.mono (State.elapse_within ..) rfl)
  · refine Within.trans ?_ (Within.mono (State.healthNow_within ..) rfl)
    exact h2

theorem execHealth_within (dt : Nat) (f : TandemHead) (bytes : List Byte) (s : State) :
    Ends (Within 0x20000002000000e []) s (execHealth dt f bytes s) := by
  unfold execHealth
  split
  rename_i y1 y2 e3
  have hy2 : Within 0x20000002000000e [] s y2 := by
    refine Within.snd e3 ?_
    refine Within.trans ?_ (Within.mono (State.takeFrame_within ..) rfl)
    exact (Within.mono (State.elapse_within ..) rfl)
  refine Ends.ite ?_ ?_
  · refine Ends.next ?_
    refine Within.trans ?_ (Within.kind (State.wrWords_within ..) rfl .tdm rfl rfl)
    refine Within.trans ?_ (Within.mono (State.setTdm_within ..) rfl)
    exact hy2
  · refine Ends.next ?_
    exact hy2

theorem execHealthStale_within (dt : Nat) (s : State) :
    Ends (Within 0x20800000000008e []) s (execHealthStale dt s) := by
  unfold execHealthStale
  extract_lets +onlyGivenNames -merge -underBinder x1
  have hx1 : Within 0x20800000000008e [] s x1 := by
    unfold x1
    exact (Within.mono (State.elapse_within ..) rfl)
  extract_lets +onlyGivenNames -merge -underBinder x2
  refine Ends.ite ?_ ?_
  · refine Ends.next ?_
    refine Within.trans ?_ (Within.kind (State.flag_within ..) rfl .tdm rfl rfl)
    exact hx1
  · refine Ends.next ?_
    exact hx1

theorem State.relayRecord_within (s : State) (kind : Nat) (period : Nat) (cause : Nat) :
    Within 0x1008000100000080 [] s (State.relayRecord s kind period cause) := by
  unfold State.relayRecord
  exact (Within.mono (State.record_within ..) rfl)

theorem State.relayDone_within (s : State) (kind : Nat) (period : Nat) (cause : Nat) :
    Within 0x21a08000180000080 [] s (State.relayDone s kind period cause) := by
  unfold State.relayDone
  extract_lets +onlyGivenNames -merge -underBinder x1
  have hx1 : Within 0x21a08000180000080 [] s x1 := by
    unfold x1
    refine Within.trans ?_ (Within.kind (State.flag_within ..) rfl .tdm rfl rfl)
    exact (Within.kind (State.inc_within ..) rfl .tdm rfl rfl)
  refine Within.trans ?_ (Within.mono (State.trigger_within ..) rfl)
  refine Within.trans ?_ (Within.mono (State.relayRecord_within ..) rfl)
  exact hx1

theorem State.takeOver_within (s : State) (kind : Nat) (cause : Nat) :
    Within 0x6321a08101da5e00289 [] s (State.takeOver s kind cause) := by
  unfold State.takeOver
  extract_lets +onlyGivenNames -merge -underBinder x1
  have hx1 : Within 0x6321a08101da5e00289 [] s x1 := by
    unfold x1
    refine Within.trans ?_ (Within.mono (State.setTdm_within ..) rfl)
    exact (Within.mono (State.takeMode_within ..) rfl)
  extract_lets +onlyGivenNames -merge -underBinder x2
  have hx2 : Within 0x6321a08101da5e00289 [] s x2 := by
    unfold x2
    refine Within.trans ?_ (Within.mono (State.enterActiveRole_within ..) rfl)
    exact hx1
  refine Within.trans ?_ (Within.mono (State.relayDone_within ..) rfl)
  exact hx2

theorem State.tryAbdication_within (s : State) :
    Within 0x16321a08101fa5e00289 [] s (State.tryAbdication s) := by
  unfold State.tryAbdication
  split
  · extract_lets +onlyGivenNames -merge -underBinder x1
    have hx1 : Within 0x16321a08101fa5e00289 [] s x1 := by
      unfold x1
      exact (Within.mono (State.setTdm_within ..) rfl)
    refine Within.ite ?_ ?_
    · refine Within.trans ?_ (Within.mono (State.acquire_within ..) rfl)
      refine Within.trans ?_ (Within.mono (State.takeOver_within ..) rfl)
      exact hx1
    · refine Within.ite ?_ ?_
      · refine Within.trans ?_ (Within.mono (State.setTdm_within ..) rfl)
        exact hx1
      · exact hx1
  · exact Within.refl _

theorem execAbdicate_within (dt : Nat) (f : TandemHead) (bytes : List Byte) (s : State) :
    Ends (Within 0x16321a08101fa5e0028f []) s (execAbdicate dt f bytes s) := by
  unfold execAbdicate
  split
  rename_i y1 y2 e3
  have hy2 : Within 0x16321a08101fa5e0028f [] s y2 := by
    refine Within.snd e3 ?_
    refine Within.trans ?_ (Within.mono (State.takeFrame_within ..) rfl)
    exact (Within.mono (State.elapse_within ..) rfl)
  refine Ends.ite ?_ ?_
  · extract_lets +onlyGivenNames -merge -underBinder x4
    have hx4 : Within 0x16321a08101fa5e0028f [] s x4 := by
      unfold x4
      refine Within.trans ?_ (Within.mono (State.setTdm_within ..) rfl)
      exact hy2
    refine Ends.next ?_
    refine Within.trans ?_ (Within.mono (State.tryAbdication_within ..) rfl)
    exact hx4
  · refine Ends.next ?_
    exact hy2

theorem execPeerAliveLow_within (dt : Nat) (driveEnLow : Bool) (s : State) :
    Ends (Within 0x16321a08101fa5e0028f []) s (execPeerAliveLow dt driveEnLow s) := by
  unfold execPeerAliveLow
  extract_lets +onlyGivenNames -merge -underBinder x1
  have hx1 : Within 0x16321a08101fa5e0028f [] s x1 := by
    unfold x1
    refine Within.trans ?_ (Within.mono (State.setTdm_within ..) rfl)
    exact (Within.mono (State.elapse_within ..) rfl)
  extract_lets +onlyGivenNames -merge -underBinder x2
  have hx2 : Within 0x16321a08101fa5e0028f [] s x2 := by
    unfold x2
    refine Within.trans ?_ (Within.mono (State.setTdm_within ..) rfl)
    exact hx1
  refine Ends.next ?_
  refine Within.ite ?_ ?_
  · refine Within.trans ?_ (Within.mono (State.tryAbdication_within ..) rfl)
    exact hx2
  · exact hx2

theorem State.readPeerDrive_within (s : State) (low : Nat) :
    Within 0x16321a08101fa5e0028d [] s (State.readPeerDrive s low) := by
  unfold State.readPeerDrive
  refine Within.ite ?_ ?_
  · exact Within.refl _
  · refine Within.ite ?_ ?_
    · exact (Within.mono (State.peerDriveHigh_within ..) rfl)
    · refine Within.trans ?_ (Within.mono (State.tryAbdication_within ..) rfl)
      exact (Within.mono (State.setTdm_within ..) rfl)

theorem execDriveEnRaise_within (x : DriveRise) (s : State) :
    Ends (Within 0x16321a08101fa5e0028f []) s (execDriveEnRaise x s) := by
  unfold execDriveEnRaise
  extract_lets +onlyGivenNames -merge -underBinder x1
  have hx1 : Within 0x16321a08101fa5e0028f [] s x1 := by
    unfold x1
    refine Within.trans ?_ (Within.mono (State.readPeerDrive_within ..) rfl)
    exact (Within.mono (State.elapse_within ..) rfl)
  refine Ends.ite ?_ ?_
  · extract_lets +onlyGivenNames -merge -underBinder x2 x3
    have hx3 : Within 0x16321a08101fa5e0028f [] s x3 := by
      unfold x3
      try clear_value x1
      refine Within.upd ?_ rfl rfl (.inr rfl) (.inr rfl) (.inl rfl) (.inr rfl) (.inr rfl) (.inr rfl) (.inr rfl) (.inr
          rfl) (.inr rfl) (.inr rfl) (.inr rfl) (.inr rfl) (.inr rfl) (.inr rfl) (.inr rfl) (.inr rfl) (.inr rfl)
              (.inr rfl) (.inr rfl) (.inr rfl) (.inr rfl) (.inr rfl) (.inr rfl) (.inr rfl) (.inr rfl) (.inr rfl)
                  (.inr rfl) (.inr rfl) (.inr rfl) (.inr rfl) (.inr rfl) (.inr rfl) (.inr rfl) (.inr rfl) (.inr rfl)
                      (.inr rfl) (.inr rfl) (.inr rfl) (.inr rfl) (.inr rfl) (.inr rfl) (.inr rfl) (.inr rfl) (.inr
                          rfl) (.inr rfl) (.inr rfl) (.inr rfl)
      exact hx1
    refine Ends.next ?_
    refine Within.trans ?_ (Within.mono (State.setTdm_within ..) rfl)
    exact hx3
  · refine Ends.next ?_
    exact hx1

theorem execRelaySwitch_within (dt : Nat) (s : State) :
    Ends (Within 0x16721a08101fa7e0028f []) s (execRelaySwitch dt s) := by
  unfold execRelaySwitch
  extract_lets +onlyGivenNames -merge -underBinder x1
  have hx1 : Within 0x16721a08101fa7e0028f [] s x1 := by
    unfold x1
    exact (Within.mono (State.elapse_within ..) rfl)
  refine Ends.ite ?_ ?_
  · refine Ends.next ?_
    exact hx1
  · extract_lets +onlyGivenNames -merge -underBinder x2
    refine Ends.ite ?_ ?_
    · extract_lets +onlyGivenNames -merge -underBinder x3
      have hx3 : Within 0x16721a08101fa7e0028f [] s x3 := by
        unfold x3
        refine Within.trans ?_ (Within.mono (State.setTdm_within ..) rfl)
        refine Within.trans ?_ (Within.mono (State.driveLow_within ..) rfl)
        exact hx1
      refine Ends.next ?_
      refine Within.trans ?_ (Within.mono (State.askWitness_within ..) rfl)
      exact hx3
    · refine Ends.ite ?_ ?_
      · extract_lets +onlyGivenNames -merge -underBinder x4
        have hx4 : Within 0x16721a08101fa7e0028f [] s x4 := by
          unfold x4
          refine Within.trans ?_ (Within.mono (State.takeMode_within ..) rfl)
          exact hx1
        extract_lets +onlyGivenNames -merge -underBinder x5
        have hx5 : Within 0x16721a08101fa7e0028f [] s x5 := by
          unfold x5
          refine Within.trans ?_ (Within.mono (State.setTdm_within ..) rfl)
          refine Within.trans ?_ (Within.mono (State.driveLow_within ..) rfl)
          exact hx4
        extract_lets +onlyGivenNames -merge -underBinder x6
        have hx6 : Within 0x16721a08101fa7e0028f [] s x6 := by
          unfold x6
          refine Within.trans ?_ (Within.mono (State.askWitness_within ..) rfl)
          exact hx5
        refine Ends.next ?_
        refine Within.trans ?_ (Within.mono (State.relayDone_within ..) rfl)
        refine Within.trans ?_ (Within.mono (State.leaveActiveRole_within ..) rfl)
        exact hx6
      · refine Ends.ite ?_ ?_
        · extract_lets +onlyGivenNames -merge -underBinder x7
          have hx7 : Within 0x16721a08101fa7e0028f [] s x7 := by
            unfold x7
            refine Within.trans ?_ (Within.mono (State.setTdm_within ..) rfl)
            refine Within.trans ?_ (Within.mono (State.takeMode_within ..) rfl)
            exact hx1
          refine Ends.next ?_
          refine Within.trans ?_ (Within.mono (State.acquire_within ..) rfl)
          refine Within.trans ?_ (Within.mono (State.relayDone_within ..) rfl)
          refine Within.trans ?_ (Within.mono (State.enterActiveRole_within ..) rfl)
          exact hx7
        · refine Ends.next ?_
          refine Within.trans ?_ (Within.mono (State.setTdm_within ..) rfl)
          exact hx1

theorem State.fence_within (s : State) (holder : Nat) (term : Nat) :
    Within 0x120800012000008c [] s (State.fence s holder term) := by
  unfold State.fence
  refine Within.ite ?_ ?_
  · exact Within.refl _
  · extract_lets +onlyGivenNames -merge -underBinder x1
    have hx1 : Within 0x120800012000008c [] s x1 := by
      unfold x1
      refine Within.trans ?_ (Within.kind (State.flag_within ..) rfl .tdm rfl rfl)
      refine Within.trans ?_ (Within.mono (State.setTdm_within ..) rfl)
      exact (Within.mono (State.dropDrive_within ..) rfl)
    refine Within.trans ?_ (Within.mono (State.record_within ..) rfl)
    exact hx1

theorem State.leaseGranted_within (s : State) (bytes : List Byte) :
    Within 0x6321a08101da5e00289 [] s (State.leaseGranted s bytes) := by
  unfold State.leaseGranted
  split
  · exact Within.refl _
  · refine Within.ite ?_ ?_
    · exact (Within.mono (State.closeReply_within ..) rfl)
    · extract_lets +onlyGivenNames -merge -underBinder x1
      extract_lets +onlyGivenNames -merge -underBinder x2
      have hx2 : Within 0x6321a08101da5e00289 [] s x2 := by
        unfold x2
        refine Within.trans ?_ (Within.mono (State.setTdm_within ..) rfl)
        exact (Within.mono (State.closeReply_within ..) rfl)
      refine Within.ite ?_ ?_
      · refine Within.trans ?_ (Within.mono (State.takeOver_within ..) rfl)
        exact hx2
      · refine Within.ite ?_ ?_
        · refine Within.trans ?_ (Within.mono (State.formActive_within ..) rfl)
          exact hx2
        · exact hx2

theorem execLeaseGranted_within (dt : Nat) (bytes : List Byte) (s : State) :
    Ends (Within 0x6321a08101da5e0028f []) s (execLeaseGranted dt bytes s) := by
  unfold execLeaseGranted
  refine Ends.next ?_
  refine Within.trans ?_ (Within.mono (State.leaseGranted_within ..) rfl)
  exact (Within.mono (State.elapse_within ..) rfl)

theorem State.leaseRefused_within (s : State) (bytes : List Byte) :
    Within 0x1000120800072000028c [] s (State.leaseRefused s bytes) := by
  unfold State.leaseRefused
  split
  · exact Within.refl _
  · extract_lets +onlyGivenNames -merge -underBinder x1
    have hx1 : Within 0x1000120800072000028c [] s x1 := by
      unfold x1
      exact (Within.mono (State.closeReply_within ..) rfl)
    refine Within.ite ?_ ?_
    · exact hx1
    · extract_lets +onlyGivenNames -merge -underBinder x2
      extract_lets +onlyGivenNames -merge -underBinder x3
      extract_lets +onlyGivenNames -merge -underBinder x4
      extract_lets +onlyGivenNames -merge -underBinder x5
      extract_lets +onlyGivenNames -merge -underBinder x6
      have hx6 : Within 0x1000120800072000028c [] s x6 := by
        unfold x6
        refine Within.ite ?_ ?_
        · refine Within.trans ?_ (Within.mono (State.setTdm_within ..) rfl)
          exact hx1
        · exact hx1
      refine Within.ite ?_ ?_
      · refine Within.ite ?_ ?_
        · refine Within.trans ?_ (Within.mono (State.fence_within ..) rfl)
          exact hx6
        · refine Within.ite ?_ ?_
          · refine Within.trans ?_ (Within.mono (State.acquire_within ..) rfl)
            exact hx6
          · exact hx6
      · refine Within.ite ?_ ?_
        · refine Within.ite ?_ ?_
          · refine Within.trans ?_ (Within.mono (State.doubleFault_within ..) rfl)
            exact hx6
          · refine Within.ite ?_ ?_
            · exact hx6
            · refine Within.trans ?_ (Within.mono (State.acquire_within ..) rfl)
              exact hx6
        · refine Within.ite ?_ ?_
          · refine Within.trans ?_ (Within.mono (State.acquire_within ..) rfl)
            exact hx6
          · exact hx6

theorem execLeaseRefused_within (dt : Nat) (bytes : List Byte) (s : State) :
    Ends (Within 0x1000120800072000028e []) s (execLeaseRefused dt bytes s) := by
  unfold execLeaseRefused
  refine Ends.next ?_
  refine Within.trans ?_ (Within.mono (State.leaseRefused_within ..) rfl)
  exact (Within.mono (State.elapse_within ..) rfl)

end Sys2Proof.Machine
end

