-- ==== Sys2Proof/Laws/FrameCan.lean ====
section
/-! SUPPORT. What each operation of Machine/Can.lean may change (Laws/Within.lean). -/

namespace Sys2Proof.Machine

open Sys2Proof

theorem State.setCanFifo_within (s : State) (c : Nat) (f : Nat) (v : CanFifo) :
    Within 0x200000000 [] s (State.setCanFifo s c f v) := by
  unfold State.setCanFifo
  exact (Within.mono (State.modCan_within ..) rfl)

theorem State.setCanQueue_within (s : State) (c : Nat) (q : Nat) (v : CanQueue) :
    Within 0x200000000 [] s (State.setCanQueue s c q v) := by
  unfold State.setCanQueue
  exact (Within.mono (State.modCan_within ..) rfl)

theorem State.canCheck_within (s : State) (c : Nat) (f : Nat) (a1 : Nat) :
    Within 0xc0002000002a0 [] s (State.canCheck s c f a1) := by
  unfold State.canCheck
  split
  · exact Within.refl _
  · extract_lets +onlyGivenNames -merge -underBinder x1
    split
    · exact Within.refl _
    · extract_lets +onlyGivenNames -merge -underBinder x2
      refine Within.ite ?_ ?_
      · exact Within.refl _
      · extract_lets +onlyGivenNames -merge -underBinder x3
        extract_lets +onlyGivenNames -merge -underBinder x4
        have hx4 : Within 0xc0002000002a0 [] s x4 := by
          unfold x4
          exact (Within.mono (State.ringComplete_within ..) rfl)
        refine Within.trans ?_ (Within.mono (State.canCheck_within ..) rfl)
        refine Within.trans ?_ (Within.mono (State.setCanFifo_within ..) rfl)
        exact hx4

theorem State.canCheckAll_within (s : State) (c : Nat) :
    Within 0xc0002000002a0 [] s (State.canCheckAll s c) := by
  unfold State.canCheckAll
  refine Within.foldl ?_ (fun t1 a2 h3 => ?_)
  · exact Within.refl _
  · refine Within.trans ?_ (Within.mono (State.canCheck_within ..) rfl)
    exact h3

theorem execCanTransmitAttempt_within (dt : Nat) (c : Fin 4) (s : State) :
    Ends (Within 0xc0002000002ae []) s (execCanTransmitAttempt dt c s) := by
  unfold execCanTransmitAttempt
  extract_lets +onlyGivenNames -merge -underBinder x1
  have hx1 : Within 0xc0002000002ae [] s x1 := by
    unfold x1
    exact (Within.mono (State.elapse_within ..) rfl)
  extract_lets +onlyGivenNames -merge -underBinder x2
  extract_lets +onlyGivenNames -merge -underBinder x3
  refine Ends.ite ?_ ?_
  · refine Ends.next ?_
    exact hx1
  · extract_lets +onlyGivenNames -merge -underBinder x4
    have hx4 : Within 0xc0002000002ae [] s x4 := by
      unfold x4
      refine Within.trans ?_ (Within.mono (State.canCheckAll_within ..) rfl)
      exact hx1
    split
    · refine Ends.next ?_
      exact hx4
    · extract_lets +onlyGivenNames -merge -underBinder x5 x6
      extract_lets +onlyGivenNames -merge -underBinder x7
      have hx7 : Within 0xc0002000002ae [] s x7 := by
        unfold x7
        refine Within.trans ?_ (Within.mono (State.modCan_within ..) rfl)
        exact hx4
      refine Ends.next ?_
      refine Within.trans ?_ (Within.mono (State.send_within ..) rfl)
      exact hx7

theorem State.canCancelHeads_within (s : State) (c : Nat) (f : Nat) (a1 : Nat) :
    Within 0xc0002000002a0 [] s (State.canCancelHeads s c f a1) := by
  unfold State.canCancelHeads
  split
  · exact Within.refl _
  · split
    · exact Within.refl _
    · extract_lets +onlyGivenNames -merge -underBinder x1
      extract_lets +onlyGivenNames -merge -underBinder x2
      have hx2 : Within 0xc0002000002a0 [] s x2 := by
        unfold x2
        exact (Within.mono (State.ringComplete_within ..) rfl)
      refine Within.trans ?_ (Within.mono (State.canCancelHeads_within ..) rfl)
      refine Within.trans ?_ (Within.mono (State.setCanFifo_within ..) rfl)
      exact hx2

theorem State.canHeadDone_within (s : State) (c : Nat) (f : Nat) (status : Nat) (outcome : Nat) (sent : Option Nat) :
    Within 0xc0002000002a0 [] s (State.canHeadDone s c f status outcome sent) := by
  unfold State.canHeadDone
  split
  · exact (Within.mono (State.setCanFifo_within ..) rfl)
  · extract_lets +onlyGivenNames -merge -underBinder x1
    extract_lets +onlyGivenNames -merge -underBinder x2
    extract_lets +onlyGivenNames -merge -underBinder x3
    have hx3 : Within 0xc0002000002a0 [] s x3 := by
      unfold x3
      exact (Within.mono (State.ringComplete_within ..) rfl)
    refine Within.trans ?_ (Within.mono (State.canCancelHeads_within ..) rfl)
    refine Within.trans ?_ (Within.mono (State.setCanFifo_within ..) rfl)
    exact hx3

theorem State.canErrors_within (s : State) (c : Nat) (tec : Nat) (erc : Nat) (off : Bool) :
    Within 0x8000008000200000080 [] s (State.canErrors s c tec erc off) := by
  unfold State.canErrors
  extract_lets +onlyGivenNames -merge -underBinder x1
  extract_lets +onlyGivenNames -merge -underBinder x2
  extract_lets +onlyGivenNames -merge -underBinder x3
  have hx3 : Within 0x8000008000200000080 [] s x3 := by
    unfold x3
    exact (Within.mono (State.modCan_within ..) rfl)
  extract_lets +onlyGivenNames -merge -underBinder x4
  have hx4 : Within 0x8000008000200000080 [] s x4 := by
    unfold x4
    refine Within.ite ?_ ?_
    · refine Within.trans ?_ (Within.kind (State.flag_within ..) rfl .can rfl rfl)
      exact hx3
    · exact hx3
  refine Within.ite ?_ ?_
  · refine Within.trans ?_ (Within.kind (State.flag_within ..) rfl .can rfl rfl)
    refine Within.trans ?_ (Within.kind (State.inc_within ..) rfl .can rfl rfl)
    exact hx4
  · exact hx4

theorem State.canException_within (s : State) (c : Nat) :
    Within 0x8000008000200000080 [] s (State.canException s c) := by
  unfold State.canException
  extract_lets +onlyGivenNames -merge -underBinder x1
  have hx1 : Within 0x8000008000200000080 [] s x1 := by
    unfold x1
    exact (Within.mono (State.modCan_within ..) rfl)
  refine Within.trans ?_ (Within.kind (State.flag_within ..) rfl .can rfl rfl)
  refine Within.trans ?_ (Within.kind (State.inc_within ..) rfl .can rfl rfl)
  exact hx1

theorem execCanAttemptEnd_within (dt : Nat) (c : Fin 4) (outcome : CanOutcome) (tec : Byte) (s : State) :
    Ends (Within 0x800000c0002000003ae []) s (execCanAttemptEnd dt c outcome tec s) := by
  unfold execCanAttemptEnd
  extract_lets +onlyGivenNames -merge -underBinder x1
  have hx1 : Within 0x800000c0002000003ae [] s x1 := by
    unfold x1
    exact (Within.mono (State.elapse_within ..) rfl)
  extract_lets +onlyGivenNames -merge -underBinder x2
  extract_lets +onlyGivenNames -merge -underBinder x3
  split
  · refine Ends.next ?_
    exact hx1
  · extract_lets +onlyGivenNames -merge -underBinder x4
    have hx4 : Within 0x800000c0002000003ae [] s x4 := by
      unfold x4
      refine Within.trans ?_ (Within.mono (State.modCan_within ..) rfl)
      exact hx1
    extract_lets +onlyGivenNames -merge -underBinder x5
    have hx5 : Within 0x800000c0002000003ae [] s x5 := by
      unfold x5
      refine Within.trans ?_ (Within.kind (State.inc_within ..) rfl .can rfl rfl)
      exact hx4
    extract_lets +onlyGivenNames -merge -underBinder x6
    have hx6 : Within 0x800000c0002000003ae [] s x6 := by
      unfold x6
      refine Within.trans ?_ (Within.mono (State.canErrors_within ..) rfl)
      exact hx5
    extract_lets +onlyGivenNames -merge -underBinder x7
    have hx7 : Within 0x800000c0002000003ae [] s x7 := by
      unfold x7
      refine Within.ite ?_ ?_
      · refine Within.trans ?_ (Within.mono (State.canException_within ..) rfl)
        exact hx6
      · exact hx6
    split
    · refine Ends.ite ?_ ?_
      · split
        rename_i y8 y9 e10
        have hy9 : Within 0x800000c0002000003ae [] s y9 := by
          refine Within.snd e10 ?_
          refine Within.trans ?_ (Within.mono (State.draw_within ..) rfl)
          exact hx7
        extract_lets +onlyGivenNames -merge -underBinder x11
        refine Ends.next ?_
        refine Within.trans ?_ (Within.mono (State.modCan_within ..) rfl)
        exact hy9
      · refine Ends.next ?_
        exact hx7
    · extract_lets +onlyGivenNames -merge -underBinder x12
      extract_lets +onlyGivenNames -merge -underBinder x13
      extract_lets +onlyGivenNames -merge -underBinder x14
      have hx14 : Within 0x800000c0002000003ae [] s x14 := by
        unfold x14
        refine Within.trans ?_ (Within.mono (State.setCanFifo_within ..) rfl)
        exact hx7
      extract_lets +onlyGivenNames -merge -underBinder x15
      extract_lets +onlyGivenNames -merge -underBinder x16
      extract_lets +onlyGivenNames -merge -underBinder x17
      refine Ends.ite ?_ ?_
      · refine Ends.next ?_
        refine Within.trans ?_ (Within.mono (State.canHeadDone_within ..) rfl)
        refine Within.trans ?_ (Within.kind (State.inc_within ..) rfl .can rfl rfl)
        exact hx14
      · refine Ends.ite ?_ ?_
        · refine Ends.next ?_
          refine Within.trans ?_ (Within.mono (State.canHeadDone_within ..) rfl)
          exact hx14
        · refine Ends.ite ?_ ?_
          · refine Ends.next ?_
            refine Within.trans ?_ (Within.mono (State.canHeadDone_within ..) rfl)
            exact hx14
          · refine Ends.next ?_
            exact hx14

theorem State.canCancel_within (s : State) (c : Nat) (f : Nat) (all : Bool) :
    Within 0xc0002000002a0 [] s (State.canCancel s c f all) := by
  unfold State.canCancel
  extract_lets +onlyGivenNames -merge -underBinder x1
  extract_lets +onlyGivenNames -merge -underBinder x2
  refine Within.ite ?_ ?_
  · exact Within.refl _
  · refine Within.ite ?_ ?_
    · extract_lets +onlyGivenNames -merge -underBinder x3
      exact (Within.mono (State.setCanFifo_within ..) rfl)
    · exact (Within.mono (State.canCancelHeads_within ..) rfl)

theorem execCanCancel_within (dt : Nat) (c : Fin 4) (fifo : Fin 8) (s : State) :
    Ends (Within 0xc0002000002ae []) s (execCanCancel dt c fifo s) := by
  unfold execCanCancel
  refine Ends.next ?_
  refine Within.hostDo ?_ (fun t1 h2 => ?_)
  · exact (Within.mono (State.elapse_within ..) rfl)
  · refine Within.trans ?_ (Within.mono (State.canCancel_within ..) rfl)
    exact h2

theorem execCanCancelAll_within (dt : Nat) (c : Fin 4) (fifo : Fin 8) (s : State) :
    Ends (Within 0xc0002000002ae []) s (execCanCancelAll dt c fifo s) := by
  unfold execCanCancelAll
  refine Ends.next ?_
  refine Within.hostDo ?_ (fun t1 h2 => ?_)
  · exact (Within.mono (State.elapse_within ..) rfl)
  · refine Within.trans ?_ (Within.mono (State.canCancel_within ..) rfl)
    exact h2

theorem State.canDeliver_within (s : State) (c : Nat) (q : Nat) (a1 : Nat) :
    Within 0x800000c0002000002a0 [] s (State.canDeliver s c q a1) := by
  unfold State.canDeliver
  split
  · exact Within.refl _
  · extract_lets +onlyGivenNames -merge -underBinder x1
    split
    · extract_lets +onlyGivenNames -merge -underBinder x2
      have hx2 : Within 0x800000c0002000002a0 [] s x2 := by
        unfold x2
        exact (Within.mono (State.ringPush_within ..) rfl)
      extract_lets +onlyGivenNames -merge -underBinder x3
      have hx3 : Within 0x800000c0002000002a0 [] s x3 := by
        unfold x3
        refine Within.trans ?_ (Within.mono (State.setCanQueue_within ..) rfl)
        exact hx2
      refine Within.trans ?_ (Within.mono (State.canDeliver_within ..) rfl)
      refine Within.trans ?_ (Within.kind (State.inc_within ..) rfl .can rfl rfl)
      exact hx3
    · exact Within.refl _

theorem State.canDeliverAll_within (s : State) (c : Nat) (q : Nat) :
    Within 0x800000c0002000002a0 [] s (State.canDeliverAll s c q) := by
  unfold State.canDeliverAll
  refine Within.ite ?_ ?_
  · exact Within.refl _
  · exact (Within.mono (State.canDeliver_within ..) rfl)

theorem State.canStore_within (s : State) (c : Nat) (q : Nat) (b : List Byte) (fidx : Nat) :
    Within 0x800000c0002000002a0 [] s (State.canStore s c q b fidx) := by
  unfold State.canStore
  extract_lets +onlyGivenNames -merge -underBinder x1
  extract_lets +onlyGivenNames -merge -underBinder x2
  refine Within.ite ?_ ?_
  · extract_lets +onlyGivenNames -merge -underBinder x3
    have hx3 : Within 0x800000c0002000002a0 [] s x3 := by
      unfold x3
      refine Within.trans ?_ (Within.kind (State.inc_within ..) rfl .can rfl rfl)
      exact (Within.mono (State.setCanQueue_within ..) rfl)
    extract_lets +onlyGivenNames -merge -underBinder x4
    have hx4 : Within 0x800000c0002000002a0 [] s x4 := by
      unfold x4
      refine Within.ite ?_ ?_
      · exact hx3
      · refine Within.trans ?_ (Within.kind (State.inc_within ..) rfl .rng rfl rfl)
        exact hx3
    refine Within.trans ?_ (Within.kind (State.flag_within ..) rfl .can rfl rfl)
    exact hx4
  · extract_lets +onlyGivenNames -merge -underBinder x5
    have hx5 : Within 0x800000c0002000002a0 [] s x5 := by
      unfold x5
      exact (Within.mono (State.setCanQueue_within ..) rfl)
    refine Within.ite ?_ ?_
    · refine Within.trans ?_ (Within.kind (State.inc_within ..) rfl .can rfl rfl)
      exact hx5
    · refine Within.trans ?_ (Within.mono (State.canDeliverAll_within ..) rfl)
      exact hx5

theorem State.witnessReplyIn_within (s : State) (b : List Byte) :
    Within 0x16321a08101fa5e0028d [] s (State.witnessReplyIn s b) := by
  unfold State.witnessReplyIn
  split
  · exact (Within.mono (State.witnessState_within ..) rfl)
  · exact (Within.mono (State.leaseGranted_within ..) rfl)
  · exact (Within.mono (State.leaseRefused_within ..) rfl)
  · exact Within.refl _

theorem State.witnessIn_within (s : State) (b : List Byte) (src : NetSource) :
    Within 0x16321e08101fe5e0028d [] s (State.witnessIn s b src) := by
  unfold State.witnessIn
  refine Within.ite ?_ ?_
  · exact (Within.mono (State.witnessReplyIn_within ..) rfl)
  · exact (Within.mono (State.witRequest_within ..) rfl)

theorem State.witnessCan_within (s : State) (c : Fin 4) (f : CanFrame) {t : State} (h : s.witnessCan c f = some t) :
    Within 0x16321e08101fe5e0028d [] s t := by
  unfold State.witnessCan at h
  extract_lets wid at h
  split at h
  · cases h
  · split at h
    · cases h; exact Within.mono (State.witRequest_within ..) rfl
    · split at h
      · cases h; exact Within.mono (State.witnessReplyIn_within ..) rfl
      · cases h

theorem State.canConsume_within (s : State) (c : Fin 4) (f : CanFrame) {t : State} (h : s.canConsume c f = some t) :
    Within 0x17b31e2c191ffde002ad [] s t := by
  unfold State.canConsume at h
  extract_lets src esp mine at h
  split at h
  · cases h; exact Within.mono (State.espFrameIn_within ..) rfl
  · split at h
    · exact Within.mono (State.witnessCan_within _ _ _ h) rfl
    · split at h
      · cases h; exact Within.mono (State.command_within ..) rfl
      · split at h
        · obtain ⟨k, -, e⟩ := Option.map_eq_some_iff.mp h
          subst e; exact Within.mono (State.streamFrame_within ..) rfl
        · cases h

theorem execCanFrameReceived_within (dt : Nat) (c : Fin 4) (x : CanRx) (s : State) :
    Ends (Within 0x1fb31e2c191ffde002af []) s (execCanFrameReceived dt c x s) := by
  unfold execCanFrameReceived
  extract_lets +onlyGivenNames -merge -underBinder x1
  have hx1 : Within 0x1fb31e2c191ffde002af [] s x1 := by
    unfold x1
    exact (Within.mono (State.elapse_within ..) rfl)
  refine Ends.ite ?_ ?_
  · refine Ends.next ?_
    exact hx1
  · split
    · refine Ends.next ?_
      refine Within.trans ?_ (Within.mono (State.canException_within ..) rfl)
      exact hx1
    · refine Ends.next ?_
      refine Within.trans ?_ (Within.mono (State.canErrors_within ..) rfl)
      refine Within.trans ?_ (Within.kind (State.inc_within ..) rfl .can rfl rfl)
      exact hx1
    · extract_lets +onlyGivenNames -merge -underBinder x2
      have hx2 : Within 0x1fb31e2c191ffde002af [] s x2 := by
        unfold x2
        refine Within.trans ?_ (Within.mono (State.canErrors_within ..) rfl)
        exact hx1
      refine Ends.ite ?_ ?_
      · refine Ends.next ?_
        refine Within.trans ?_ (Within.mono (State.canException_within ..) rfl)
        exact hx2
      · refine Ends.ite ?_ ?_
        · refine Ends.next ?_
          exact hx2
        · split
          · rename_i t ht
            refine Ends.next ?_
            exact hx2.trans (Within.mono (State.canConsume_within _ _ _ ht) rfl)
          · split
            · refine Ends.next ?_
              refine Within.trans ?_ (Within.kind (State.inc_within ..) rfl .can rfl rfl)
              exact hx2
            · refine Ends.next ?_
              refine Within.trans ?_ (Within.mono (State.canStore_within ..) rfl)
              exact hx2

theorem State.canRelease_within (s : State) (c : Nat) (q : Nat) :
    Within 0x200000000 [] s (State.canRelease s c q) := by
  unfold State.canRelease
  refine Within.ite ?_ ?_
  · extract_lets +onlyGivenNames -merge -underBinder x1
    exact (Within.mono (State.setCanQueue_within ..) rfl)
  · exact Within.refl _

theorem execRxrel_within (dt : Nat) (c : Fin 4) (q : Fin 4) (s : State) :
    Ends (Within 0x20000000e []) s (execRxrel dt c q s) := by
  unfold execRxrel
  refine Ends.next ?_
  refine Within.hostDo ?_ (fun t1 h2 => ?_)
  · exact (Within.mono (State.elapse_within ..) rfl)
  · refine Within.trans ?_ (Within.mono (State.canRelease_within ..) rfl)
    exact h2

theorem State.rxwTouch_within (s : State) (c : Nat) (word : Nat) :
    Within 0x200000000 [] s (State.rxwTouch s c word) := by
  unfold State.rxwTouch
  extract_lets +onlyGivenNames -merge -underBinder x1
  extract_lets +onlyGivenNames -merge -underBinder x2
  extract_lets +onlyGivenNames -merge -underBinder x3
  split
  · exact Within.refl _
  · refine Within.ite ?_ ?_
    · exact Within.refl _
    · refine Within.ite ?_ ?_
      · exact (Within.mono (State.setCanQueue_within ..) rfl)
      · refine Within.ite ?_ ?_
        · exact (Within.mono (State.canRelease_within ..) rfl)
        · exact Within.refl _

theorem execRxwRead_within (dt : Nat) (c : Fin 4) (word : Fin 256) (s : State) :
    Ends (Within 0x20000020e []) s (execRxwRead dt c word s) := by
  unfold execRxwRead
  extract_lets +onlyGivenNames -merge -underBinder x1
  have hx1 : Within 0x20000020e [] s x1 := by
    unfold x1
    exact (Within.mono (State.elapse_within ..) rfl)
  extract_lets +onlyGivenNames -merge -underBinder x2
  refine Ends.ite ?_ ?_
  · refine Ends.next ?_
    refine Within.trans ?_ (Within.mono (State.answerRead_within ..) rfl)
    refine Within.trans ?_ (Within.mono (State.rxwTouch_within ..) rfl)
    exact hx1
  · refine Ends.next ?_
    refine Within.trans ?_ (Within.mono (State.answerRead_within ..) rfl)
    exact hx1

theorem State.fltCommit_within (s : State) (c : Nat) (w1 : Nat) :
    Within 0x200000000 [] s (State.fltCommit s c w1) := by
  unfold State.fltCommit
  extract_lets +onlyGivenNames -merge -underBinder x1
  extract_lets +onlyGivenNames -merge -underBinder x2
  exact (Within.mono (State.modCan_within ..) rfl)

theorem State.ignoredWrite_within (s : State) (p : Page) (o : Nat) :
    Within 0x8000000000080 [p] s (State.ignoredWrite s p o) := by
  unfold State.ignoredWrite
  extract_lets +onlyGivenNames -merge -underBinder x1
  have hx1 : Within 0x8000000000080 [p] s x1 := by
    unfold x1
    refine Within.ite ?_ ?_
    · exact (Within.page (State.wrf_within ..) rfl)
    · exact Within.refl _
  refine Within.trans ?_ (Within.page (State.flag_within ..) rfl)
  refine Within.trans ?_ (Within.page (State.incf_within ..) rfl)
  exact hx1

theorem State.fltw1Write_within (s : State) (c : Fin 4) (value : Word) :
    Within 0x8000008000200000080 [] s (State.fltw1Write s c value) := by
  unfold State.fltw1Write
  extract_lets +onlyGivenNames -merge -underBinder x1
  refine Within.ite ?_ ?_
  · refine Within.trans ?_ (Within.mono (State.fltCommit_within ..) rfl)
    exact (Within.kind (State.wr_within ..) rfl .can rfl rfl)
  · exact (Within.kind (State.ignoredWrite_within ..) rfl .can rfl rfl)

theorem execFltw1Commit_within (dt : Nat) (c : Fin 4) (value : Word) (s : State) :
    Ends (Within 0x800000800020000008e []) s (execFltw1Commit dt c value s) := by
  unfold execFltw1Commit
  refine Ends.next ?_
  refine Within.hostDo ?_ (fun t1 h2 => ?_)
  · exact (Within.mono (State.elapse_within ..) rfl)
  · refine Within.trans ?_ (Within.mono (State.fltw1Write_within ..) rfl)
    exact h2

theorem State.canRecover_within (s : State) (c : Nat) :
    Within 0x200000000 [] s (State.canRecover s c) := by
  unfold State.canRecover
  refine Within.ite ?_ ?_
  · exact (Within.mono (State.modCan_within ..) rfl)
  · exact Within.refl _

theorem execCanRecover_within (dt : Nat) (c : Fin 4) (s : State) :
    Ends (Within 0x20000000e []) s (execCanRecover dt c s) := by
  unfold execCanRecover
  refine Ends.next ?_
  refine Within.hostDo ?_ (fun t1 h2 => ?_)
  · exact (Within.mono (State.elapse_within ..) rfl)
  · refine Within.trans ?_ (Within.mono (State.canRecover_within ..) rfl)
    exact h2

theorem execBusOffRecovery_within (dt : Nat) (c : Fin 4) (s : State) :
    Ends (Within 0x20000000e []) s (execBusOffRecovery dt c s) := by
  unfold execBusOffRecovery
  extract_lets +onlyGivenNames -merge -underBinder x1
  have hx1 : Within 0x20000000e [] s x1 := by
    unfold x1
    exact (Within.mono (State.elapse_within ..) rfl)
  extract_lets +onlyGivenNames -merge -underBinder x2
  refine Ends.ite ?_ ?_
  · refine Ends.next ?_
    refine Within.trans ?_ (Within.mono (State.modCan_within ..) rfl)
    exact hx1
  · refine Ends.next ?_
    exact hx1

theorem execCanBusIntegration_within (dt : Nat) (c : Fin 4) (s : State) :
    Ends (Within 0x20000000e []) s (execCanBusIntegration dt c s) := by
  unfold execCanBusIntegration
  extract_lets +onlyGivenNames -merge -underBinder x1
  have hx1 : Within 0x20000000e [] s x1 := by
    unfold x1
    exact (Within.mono (State.elapse_within ..) rfl)
  refine Ends.ite ?_ ?_
  · refine Ends.next ?_
    refine Within.trans ?_ (Within.mono (State.modCan_within ..) rfl)
    exact hx1
  · refine Ends.next ?_
    exact hx1

theorem execWitnessResend_within (dt : Nat) (c : Fin 4) (s : State) :
    Ends (Within 0x20000000e []) s (execWitnessResend dt c s) := by
  unfold execWitnessResend
  extract_lets +onlyGivenNames -merge -underBinder x1
  have hx1 : Within 0x20000000e [] s x1 := by
    unfold x1
    exact (Within.mono (State.elapse_within ..) rfl)
  extract_lets +onlyGivenNames -merge -underBinder x2
  extract_lets +onlyGivenNames -merge -underBinder x3
  have hx3 : Within 0x20000000e [] s x3 := by
    unfold x3
    refine Within.trans ?_ (Within.mono (State.modCan_within ..) rfl)
    exact hx1
  refine Ends.next ?_
  refine Within.foldl ?_ (fun t4 a5 h6 => ?_)
  · exact hx3
  · refine Within.trans ?_ (Within.mono (State.canOwn_within ..) rfl)
    exact h6

theorem State.canStarted_within (s : State) (c : Nat) :
    Within 0x200000000 [] s (State.canStarted s c) := by
  unfold State.canStarted
  refine Within.upd ?_ rfl rfl (.inr rfl) (.inr rfl) (.inr rfl) (.inr rfl) (.inr rfl) (.inr rfl) (.inr rfl) (.inr
      rfl) (.inr rfl) (.inr rfl) (.inr rfl) (.inr rfl) (.inr rfl) (.inr rfl) (.inr rfl) (.inr rfl) (.inr rfl) (.inr
          rfl) (.inr rfl) (.inr rfl) (.inr rfl) (.inr rfl) (.inr rfl) (.inr rfl) (.inr rfl) (.inr rfl) (.inr rfl)
              (.inr rfl) (.inr rfl) (.inr rfl) (.inr rfl) (.inr rfl) (.inr rfl) (.inl rfl) (.inr rfl) (.inr rfl)
                  (.inr rfl) (.inr rfl) (.inr rfl) (.inr rfl) (.inr rfl) (.inr rfl) (.inr rfl) (.inr rfl) (.inr rfl)
                      (.inr rfl) (.inr rfl)
  exact Within.refl _

theorem State.canStopped_within (s : State) (c : Nat) :
    Within 0xc0002000002a0 [] s (State.canStopped s c) := by
  unfold State.canStopped
  extract_lets +onlyGivenNames -merge -underBinder x1
  have hx1 : Within 0xc0002000002a0 [] s x1 := by
    unfold x1
    refine Within.foldl ?_ (fun t2 a3 h4 => ?_)
    · exact Within.refl _
    · refine Within.trans ?_ (Within.mono (State.canCancelHeads_within ..) rfl)
      exact h4
  refine Within.upd ?_ rfl rfl (.inr rfl) (.inr rfl) (.inr rfl) (.inr rfl) (.inr rfl) (.inr rfl) (.inr rfl) (.inr
      rfl) (.inr rfl) (.inr rfl) (.inr rfl) (.inr rfl) (.inr rfl) (.inr rfl) (.inr rfl) (.inr rfl) (.inr rfl) (.inr
          rfl) (.inr rfl) (.inr rfl) (.inr rfl) (.inr rfl) (.inr rfl) (.inr rfl) (.inr rfl) (.inr rfl) (.inr rfl)
              (.inr rfl) (.inr rfl) (.inr rfl) (.inr rfl) (.inr rfl) (.inr rfl) (.inl rfl) (.inr rfl) (.inr rfl)
                  (.inr rfl) (.inr rfl) (.inr rfl) (.inr rfl) (.inr rfl) (.inr rfl) (.inr rfl) (.inr rfl) (.inr rfl)
                      (.inr rfl) (.inr rfl)
  exact hx1

end Sys2Proof.Machine
end

