-- ==== Sys2Proof/Laws/FrameEth.lean ====
section
/-! SUPPORT. What each operation of Machine/Eth.lean may change (Laws/Within.lean). -/

namespace Sys2Proof.Machine

open Sys2Proof

theorem State.ethCheck_within (s : State) (p : Nat) (q : Nat) (a1 : Nat) :
    Within 0xc0000000002a0 [] s (State.ethCheck s p q a1) := by
  unfold State.ethCheck
  split
  · exact Within.refl _
  · split
    · exact Within.refl _
    · extract_lets +onlyGivenNames -merge -underBinder x1
      refine Within.ite ?_ ?_
      · exact Within.refl _
      · refine Within.trans ?_ (Within.mono (State.ethCheck_within ..) rfl)
        exact (Within.mono (State.ringComplete_within ..) rfl)

theorem State.ethCheckAll_within (s : State) (p : Nat) :
    Within 0xc0000000002a0 [] s (State.ethCheckAll s p) := by
  unfold State.ethCheckAll
  refine Within.foldl ?_ (fun t1 a2 h3 => ?_)
  · exact Within.refl _
  · refine Within.trans ?_ (Within.mono (State.ethCheck_within ..) rfl)
    exact h3

theorem State.ethSendHost_within (s : State) (p : Nat) (q : Nat) (frac : Nat) (d : Desc) :
    Within 0x1000000c0004000002a0 [] s (State.ethSendHost s p q frac d) := by
  unfold State.ethSendHost
  extract_lets +onlyGivenNames -merge -underBinder x1
  extract_lets +onlyGivenNames -merge -underBinder x2
  extract_lets +onlyGivenNames -merge -underBinder x3
  extract_lets +onlyGivenNames -merge -underBinder x4
  extract_lets +onlyGivenNames -merge -underBinder x5
  extract_lets +onlyGivenNames -merge -underBinder x6
  extract_lets +onlyGivenNames -merge -underBinder x7
  have hx7 : Within 0x1000000c0004000002a0 [] s x7 := by
    unfold x7
    refine Within.ite ?_ ?_
    · exact (Within.kind (State.inc_within ..) rfl .eth rfl rfl)
    · exact Within.refl _
  extract_lets +onlyGivenNames -merge -underBinder x8
  extract_lets +onlyGivenNames -merge -underBinder x9
  have hx9 : Within 0x1000000c0004000002a0 [] s x9 := by
    unfold x9
    refine Within.ite ?_ ?_
    · split
      rename_i y10 y11 e12
      have hy11 : Within 0x1000000c0004000002a0 [] s y11 := by
        refine Within.snd e12 ?_
        refine Within.trans ?_ (Within.mono (State.takePrpSeq_within ..) rfl)
        exact hx7
      extract_lets +onlyGivenNames -merge -underBinder x13
      have hx13 : Within 0x1000000c0004000002a0 [] s x13 := by
        unfold x13
        refine Within.trans ?_ (Within.kind (State.inc_within ..) rfl .eth rfl rfl)
        refine Within.trans ?_ (Within.mono (State.send_within ..) rfl)
        exact hy11
      refine Within.ite ?_ ?_
      · refine Within.trans ?_ (Within.kind (State.inc_within ..) rfl .eth rfl rfl)
        refine Within.trans ?_ (Within.mono (State.send_within ..) rfl)
        exact hx13
      · refine Within.trans ?_ (Within.kind (State.inc_within ..) rfl .eth rfl rfl)
        exact hx13
    · refine Within.trans ?_ (Within.kind (State.inc_within ..) rfl .eth rfl rfl)
      refine Within.trans ?_ (Within.mono (State.send_within ..) rfl)
      exact hx7
  extract_lets +onlyGivenNames -merge -underBinder x14
  extract_lets +onlyGivenNames -merge -underBinder x15
  refine Within.trans ?_ (Within.mono (State.ringComplete_within ..) rfl)
  exact hx9

theorem State.ethStart_within (s : State) (p : Nat) (frac : Nat) (k : Nat) : Within 0x1000000c0004000002a0 [] s (s.ethStart p frac k) := by
  induction k generalizing s with
  | zero => exact Within.refl s
  | succ k ih =>
    unfold State.ethStart
    split
    · exact Within.refl s
    · refine Within.ite ?_ ?_
      · exact ((((Within.kind (State.inc_within ..) rfl .eth rfl rfl).trans (Within.kind (State.flag_within ..) rfl .eth rfl rfl)).trans
          (Within.mono (State.ringComplete_within ..) rfl)).trans (Within.mono (State.ethCheckAll_within ..) rfl)).trans (ih _)
      · exact Within.mono (State.ethSendHost_within ..) rfl

theorem execEthTransmit_within (dt : Nat) (p : Fin 4) (frac : BitVec 16) (s : State) :
    Ends (Within 0x1000000c0004000002ae []) s (execEthTransmit dt p frac s) := by
  unfold execEthTransmit
  extract_lets +onlyGivenNames -merge -underBinder x1
  have hx1 : Within 0x1000000c0004000002ae [] s x1 := by
    unfold x1
    exact (Within.mono (State.elapse_within ..) rfl)
  extract_lets +onlyGivenNames -merge -underBinder x2
  refine Ends.ite ?_ ?_
  · refine Ends.next ?_
    exact hx1
  · extract_lets +onlyGivenNames -merge -underBinder x3
    have hx3 : Within 0x1000000c0004000002ae [] s x3 := by
      unfold x3
      refine Within.trans ?_ (Within.mono (State.modEth_within ..) rfl)
      exact hx1
    extract_lets +onlyGivenNames -merge -underBinder x4
    have hx4 : Within 0x1000000c0004000002ae [] s x4 := by
      unfold x4
      refine Within.trans ?_ (Within.mono (State.ethCheckAll_within ..) rfl)
      exact hx3
    refine Ends.ite ?_ ?_
    · refine Ends.next ?_
      exact hx4
    · split
      · extract_lets +onlyGivenNames -merge -underBinder x5
        extract_lets +onlyGivenNames -merge -underBinder x6
        have hx6 : Within 0x1000000c0004000002ae [] s x6 := by
          unfold x6
          refine Within.trans ?_ (Within.kind (State.inc_within ..) rfl .eth rfl rfl)
          refine Within.trans ?_ (Within.mono (State.modEth_within ..) rfl)
          exact hx4
        refine Ends.next ?_
        refine Within.trans ?_ (Within.mono (State.send_within ..) rfl)
        exact hx6
      · with_reducible refine Ends.ite ?_ ?_
        · refine Ends.next ?_
          refine Within.trans ?_ (Within.mono (State.ethStart_within ..) rfl)
          exact hx4
        · refine Ends.next ?_
          exact hx4

theorem State.ethDeliver_within (s : State) (p : Nat) (q : Nat) (a1 : Nat) :
    Within 0x1000000c0004000002a0 [] s (State.ethDeliver s p q a1) := by
  unfold State.ethDeliver
  split
  · exact Within.refl _
  · extract_lets +onlyGivenNames -merge -underBinder x1
    clear_value x1
    split
    · refine Within.ite ?_ ?_
      · refine Within.trans ?_ (Within.mono (State.ethDeliver_within ..) rfl)
        exact (Within.mono (State.ringComplete_within ..) rfl)
      · extract_lets +onlyGivenNames -merge -underBinder x2
        have hx2 : Within 0x1000000c0004000002a0 [] s x2 := by
          unfold x2
          exact (Within.mono (State.ringPush_within ..) rfl)
        extract_lets +onlyGivenNames -merge -underBinder x3
        have hx3 : Within 0x1000000c0004000002a0 [] s x3 := by
          unfold x3
          refine Within.trans ?_ (Within.mono (State.modEth_within ..) rfl)
          exact hx2
        refine Within.trans ?_ (Within.mono (State.ethDeliver_within ..) rfl)
        refine Within.trans ?_ (Within.kind (State.inc_within ..) rfl .eth rfl rfl)
        exact hx3
    · exact Within.refl _

theorem State.ethDeliverAll_within (s : State) (p : Nat) (q : Nat) :
    Within 0x1000000c0004000002a0 [] s (State.ethDeliverAll s p q) := by
  unfold State.ethDeliverAll
  exact (Within.mono (State.ethDeliver_within ..) rfl)

theorem State.ethStore_within (s : State) (p : Nat) (q : Nat) (b : List Byte) :
    Within 0x1000000c0004000002a0 [] s (State.ethStore s p q b) := by
  unfold State.ethStore
  extract_lets +onlyGivenNames -merge -underBinder x1
  refine Within.ite ?_ ?_
  · refine Within.trans ?_ (Within.kind (State.flag_within ..) rfl .eth rfl rfl)
    refine Within.trans ?_ (Within.kind (State.inc_within ..) rfl .eth rfl rfl)
    exact (Within.kind (State.inc_within ..) rfl .rng rfl rfl)
  · refine Within.trans ?_ (Within.mono (State.ethDeliverAll_within ..) rfl)
    exact (Within.mono (State.modEth_within ..) rfl)

theorem State.prpJudge_within (s : State) (p : Nat) (b : List Byte) (t : Nat × Nat) :
    Within 0x10000008000400000080 [] s (State.prpJudge s p b t).2 := by
  unfold State.prpJudge
  extract_lets +onlyGivenNames -merge -underBinder x1
  extract_lets +onlyGivenNames -merge -underBinder x2
  extract_lets +onlyGivenNames -merge -underBinder x3
  have hx3 : Within 0x10000008000400000080 [] s x3 := by
    unfold x3
    refine Within.ite ?_ ?_
    · refine Within.trans ?_ (Within.kind (State.flag_within ..) rfl .eth rfl rfl)
      exact (Within.kind (State.inc_within ..) rfl .eth rfl rfl)
    · exact Within.refl _
  extract_lets +onlyGivenNames -merge -underBinder x4
  extract_lets +onlyGivenNames -merge -underBinder x5
  extract_lets +onlyGivenNames -merge -underBinder x6 x7
  have hx7 : Within 0x10000008000400000080 [] s x7 := by
    unfold x7
    refine Within.upd ?_ rfl rfl (.inr rfl) (.inr rfl) (.inr rfl) (.inr rfl) (.inr rfl) (.inr rfl) (.inr rfl) (.inr
        rfl) (.inr rfl) (.inr rfl) (.inr rfl) (.inr rfl) (.inr rfl) (.inr rfl) (.inr rfl) (.inr rfl) (.inr rfl) (.inr
            rfl) (.inr rfl) (.inr rfl) (.inr rfl) (.inr rfl) (.inr rfl) (.inr rfl) (.inr rfl) (.inr rfl) (.inr rfl)
                (.inr rfl) (.inr rfl) (.inr rfl) (.inr rfl) (.inr rfl) (.inr rfl) (.inr rfl) (.inl rfl) (.inr rfl)
                    (.inr rfl) (.inr rfl) (.inr rfl) (.inr rfl) (.inr rfl) (.inr rfl) (.inr rfl) (.inr rfl) (.inr
                        rfl) (.inr rfl) (.inr rfl)
    exact hx3
  refine Within.pair ?_
  refine Within.ite ?_ ?_
  · refine Within.trans ?_ (Within.kind (State.inc_within ..) rfl .eth rfl rfl)
    exact hx7
  · exact hx7

theorem State.udpConsume_within (s : State) (p : Fin 4) (u : UdpIn) {t : State} (h : s.udpConsume p u = some t) :
    Within 0x17b31e2c191ffde002ad [] s t := by
  unfold State.udpConsume at h
  extract_lets src hears esp streams wit at h
  split at h
  · cases h
  · split at h
    · cases h; exact Within.ite (Within.refl s) (Within.mono (State.espFrameIn_within ..) rfl)
    · split at h
      · cases h; exact Within.mono (State.witnessIn_within ..) rfl
      · split at h
        · cases h; exact Within.mono (State.command_within ..) rfl
        · split at h
          · obtain ⟨k, -, e⟩ := Option.map_eq_some_iff.mp h
            subst e
            split
            · exact Within.mono (State.streamFrame_within ..) rfl
            · exact Within.refl s
          · cases h

theorem State.ethAnswer_within (s : State) (p : Nat) (a : AskedAddr) (who : Nat) (whoIp : Nat) :
    Within 0x400000000 [] s (State.ethAnswer s p a who whoIp) := by
  unfold State.ethAnswer
  split
  · exact (Within.mono (State.ethQueue_within ..) rfl)
  · exact Within.refl _

theorem State.ethClassify_within (s : State) (p : Fin 4) (b : List Byte) (flags : Nat) (stamp : Nat) :
    Within 0x17b31e2c191ffde002ad [] s (State.ethClassify s p b flags stamp) := by
  unfold State.ethClassify
  extract_lets +onlyGivenNames -merge -underBinder x1
  extract_lets +onlyGivenNames -merge -underBinder x2
  refine Within.ite ?_ ?_
  · unfold x1
    exact (Within.kind (State.inc_within ..) rfl .eth rfl rfl)
  · split
    · split
      · rename_i t ht
        refine Within.ite ?_ ?_
        · unfold x1
          refine Within.trans ?_ (Within.kind (State.inc_within ..) rfl .eth rfl rfl)
          exact Within.mono (State.udpConsume_within _ _ _ ht) rfl
        · exact (Within.kind (State.inc_within ..) rfl .eth rfl rfl)
      · unfold x2
        extract_lets +onlyGivenNames -merge -underBinder x3
        exact (Within.mono (State.ethStore_within ..) rfl)
    · split
      · rename_i t ht
        refine Within.ite ?_ ?_
        · unfold x1
          refine Within.trans ?_ (Within.kind (State.inc_within ..) rfl .eth rfl rfl)
          exact (Within.mono (State.ethAnswer_within ..) rfl)
        · unfold x2
          extract_lets +onlyGivenNames -merge -underBinder x4
          exact (Within.mono (State.ethStore_within ..) rfl)
      · unfold x2
        extract_lets +onlyGivenNames -merge -underBinder x5
        exact (Within.mono (State.ethStore_within ..) rfl)

theorem execEthFrameReceived_within (dt : Nat) (p : Fin 4) (f : EthFrame) (frac : BitVec 16) (s : State) :
    Ends (Within 0x17b31e2c191ffde002af []) s (execEthFrameReceived dt p f frac s) := by
  unfold execEthFrameReceived
  extract_lets +onlyGivenNames -merge -underBinder x1
  have hx1 : Within 0x17b31e2c191ffde002af [] s x1 := by
    unfold x1
    exact (Within.mono (State.elapse_within ..) rfl)
  extract_lets +onlyGivenNames -merge -underBinder x2
  refine Ends.ite ?_ ?_
  · refine Ends.next ?_
    exact hx1
  · refine Ends.ite ?_ ?_
    · refine Ends.next ?_
      refine Within.trans ?_ (Within.kind (State.inc_within ..) rfl .eth rfl rfl)
      exact hx1
    · refine Ends.ite ?_ ?_
      · refine Ends.next ?_
        refine Within.trans ?_ (Within.kind (State.inc_within ..) rfl .eth rfl rfl)
        exact hx1
      · extract_lets +onlyGivenNames -merge -underBinder x3
        extract_lets +onlyGivenNames -merge -underBinder x4
        extract_lets +onlyGivenNames -merge -underBinder x5
        split
        · split
          rename_i y6 y7 e8
          have hy7 : Within 0x17b31e2c191ffde002af [] s y7 := by
            refine Within.snd e8 ?_
            refine Within.trans ?_ (Within.mono (State.prpJudge_within ..) rfl)
            exact hx1
          extract_lets +onlyGivenNames -merge -underBinder x9
          refine Ends.ite ?_ ?_
          · refine Ends.next ?_
            exact hy7
          · refine Ends.ite ?_ ?_
            · refine Ends.next ?_
              refine Within.trans ?_ (Within.mono (State.ethClassify_within ..) rfl)
              exact hy7
            · refine Ends.next ?_
              refine Within.trans ?_ (Within.kind (State.inc_within ..) rfl .eth rfl rfl)
              exact hy7
        · refine Ends.ite ?_ ?_
          · refine Ends.next ?_
            refine Within.trans ?_ (Within.mono (State.ethClassify_within ..) rfl)
            exact hx1
          · refine Ends.next ?_
            refine Within.trans ?_ (Within.kind (State.inc_within ..) rfl .eth rfl rfl)
            exact hx1

theorem execArpRequest_within (dt : Nat) (p : Fin 4) (addr : AskedAddr) (who : BitVec 48) (whoIp : BitVec 128) (s :
    State) :
    Ends (Within 0x1000000000040000000e []) s (execArpRequest dt p addr who whoIp s) := by
  unfold execArpRequest
  extract_lets +onlyGivenNames -merge -underBinder x1
  have hx1 : Within 0x1000000000040000000e [] s x1 := by
    unfold x1
    exact (Within.mono (State.elapse_within ..) rfl)
  refine Ends.ite ?_ ?_
  · refine Ends.next ?_
    refine Within.trans ?_ (Within.mono (State.ethAnswer_within ..) rfl)
    refine Within.trans ?_ (Within.kind (State.inc_within ..) rfl .eth rfl rfl)
    exact hx1
  · refine Ends.next ?_
    exact hx1

theorem execPairAnnounce_within (dt : Nat) (s : State) :
    Ends (Within 0x1000000000040000000e []) s (execPairAnnounce dt s) := by
  unfold execPairAnnounce
  extract_lets +onlyGivenNames -merge -underBinder x1
  have hx1 : Within 0x1000000000040000000e [] s x1 := by
    unfold x1
    exact (Within.mono (State.elapse_within ..) rfl)
  refine Ends.ite ?_ ?_
  · refine Ends.next ?_
    exact hx1
  · extract_lets +onlyGivenNames -merge -underBinder x2 x3
    have hx3 : Within 0x1000000000040000000e [] s x3 := by
      unfold x3
      refine Within.upd ?_ rfl rfl (.inr rfl) (.inr rfl) (.inr rfl) (.inr rfl) (.inr rfl) (.inr rfl) (.inr rfl) (.inr
          rfl) (.inr rfl) (.inr rfl) (.inr rfl) (.inr rfl) (.inr rfl) (.inr rfl) (.inr rfl) (.inr rfl) (.inr rfl)
              (.inr rfl) (.inr rfl) (.inr rfl) (.inr rfl) (.inr rfl) (.inr rfl) (.inr rfl) (.inr rfl) (.inr rfl)
                  (.inr rfl) (.inr rfl) (.inr rfl) (.inr rfl) (.inr rfl) (.inr rfl) (.inr rfl) (.inr rfl) (.inl rfl)
                      (.inr rfl) (.inr rfl) (.inr rfl) (.inr rfl) (.inr rfl) (.inr rfl) (.inr rfl) (.inr rfl) (.inr
                          rfl) (.inr rfl) (.inr rfl) (.inr rfl)
      exact hx1
    refine Ends.next ?_
    refine Within.foldl ?_ (fun t4 a5 h6 => ?_)
    · exact hx3
    · refine Within.ite ?_ ?_
      · refine Within.trans ?_ (Within.mono (State.ethOwn_within ..) rfl)
        exact h6
      · exact h6

theorem execPrpSupervision_within (dt : Nat) (p : Fin 4) (s : State) :
    Ends (Within 0x40000000e []) s (execPrpSupervision dt p s) := by
  unfold execPrpSupervision
  extract_lets +onlyGivenNames -merge -underBinder x1
  have hx1 : Within 0x40000000e [] s x1 := by
    unfold x1
    exact (Within.mono (State.elapse_within ..) rfl)
  extract_lets +onlyGivenNames -merge -underBinder x2
  refine Ends.ite ?_ ?_
  · extract_lets +onlyGivenNames -merge -underBinder x3 x4
    have hx4 : Within 0x40000000e [] s x4 := by
      unfold x4
      refine Within.upd ?_ rfl rfl (.inr rfl) (.inr rfl) (.inr rfl) (.inr rfl) (.inr rfl) (.inr rfl) (.inr rfl) (.inr
          rfl) (.inr rfl) (.inr rfl) (.inr rfl) (.inr rfl) (.inr rfl) (.inr rfl) (.inr rfl) (.inr rfl) (.inr rfl)
              (.inr rfl) (.inr rfl) (.inr rfl) (.inr rfl) (.inr rfl) (.inr rfl) (.inr rfl) (.inr rfl) (.inr rfl)
                  (.inr rfl) (.inr rfl) (.inr rfl) (.inr rfl) (.inr rfl) (.inr rfl) (.inr rfl) (.inr rfl) (.inl rfl)
                      (.inr rfl) (.inr rfl) (.inr rfl) (.inr rfl) (.inr rfl) (.inr rfl) (.inr rfl) (.inr rfl) (.inr
                          rfl) (.inr rfl) (.inr rfl) (.inr rfl)
      exact hx1
    refine Ends.next ?_
    refine Within.trans ?_ (Within.mono (State.ethQueue_within ..) rfl)
    refine Within.trans ?_ (Within.mono (State.ethQueue_within ..) rfl)
    exact hx4
  · refine Ends.next ?_
    exact hx1

theorem execEthLinkChange_within (dt : Nat) (p : Fin 4) (up : Bool) (rate : Fin 4) (s : State) :
    Ends (Within 0x1000000c0004000002ae []) s (execEthLinkChange dt p up rate s) := by
  unfold execEthLinkChange
  extract_lets +onlyGivenNames -merge -underBinder x1
  have hx1 : Within 0x1000000c0004000002ae [] s x1 := by
    unfold x1
    exact (Within.mono (State.elapse_within ..) rfl)
  extract_lets +onlyGivenNames -merge -underBinder x2
  extract_lets +onlyGivenNames -merge -underBinder x3
  extract_lets +onlyGivenNames -merge -underBinder x4
  refine Ends.ite ?_ ?_
  · refine Ends.next ?_
    exact hx1
  · extract_lets +onlyGivenNames -merge -underBinder x5
    have hx5 : Within 0x1000000c0004000002ae [] s x5 := by
      unfold x5
      refine Within.trans ?_ (Within.mono (State.modEth_within ..) rfl)
      exact hx1
    refine Ends.next ?_
    refine Within.trans ?_ (Within.mono (State.ethCheckAll_within ..) rfl)
    refine Within.trans ?_ (Within.kind (State.flag_within ..) rfl .eth rfl rfl)
    refine Within.trans ?_ (Within.kind (State.wrn_within ..) rfl .eth rfl rfl)
    exact hx5

theorem State.ethStopped_within (s : State) (p : Nat) :
    Within 0x10000000000400000000 [] s (State.ethStopped s p) := by
  unfold State.ethStopped
  refine Within.trans ?_ (Within.kind (State.wrn_within ..) rfl .eth rfl rfl)
  refine Within.upd ?_ rfl rfl (.inr rfl) (.inr rfl) (.inr rfl) (.inr rfl) (.inr rfl) (.inr rfl) (.inr rfl) (.inr
      rfl) (.inr rfl) (.inr rfl) (.inr rfl) (.inr rfl) (.inr rfl) (.inr rfl) (.inr rfl) (.inr rfl) (.inr rfl) (.inr
          rfl) (.inr rfl) (.inr rfl) (.inr rfl) (.inr rfl) (.inr rfl) (.inr rfl) (.inr rfl) (.inr rfl) (.inr rfl)
              (.inr rfl) (.inr rfl) (.inr rfl) (.inr rfl) (.inr rfl) (.inr rfl) (.inr rfl) (.inl rfl) (.inr rfl)
                  (.inr rfl) (.inr rfl) (.inr rfl) (.inr rfl) (.inr rfl) (.inr rfl) (.inr rfl) (.inr rfl) (.inr rfl)
                      (.inr rfl) (.inr rfl)
  exact Within.refl _

end Sys2Proof.Machine
end

