-- ==== Sys2Proof/Laws/FrameTime.lean ====
section
/-! SUPPORT. What each operation of Machine/Time.lean may change (Laws/Within.lean). -/

namespace Sys2Proof.Machine

open Sys2Proof

theorem State.modTime_within (s : State) (f : TimeSt → TimeSt) :
    Within 0x800000000 [] s (State.modTime s f) := by
  unfold State.modTime
  refine Within.upd ?_ rfl rfl (.inr rfl) (.inr rfl) (.inr rfl) (.inr rfl) (.inr rfl) (.inr rfl) (.inr rfl) (.inr
      rfl) (.inr rfl) (.inr rfl) (.inr rfl) (.inr rfl) (.inr rfl) (.inr rfl) (.inr rfl) (.inr rfl) (.inr rfl) (.inr
          rfl) (.inr rfl) (.inr rfl) (.inr rfl) (.inr rfl) (.inr rfl) (.inr rfl) (.inr rfl) (.inr rfl) (.inr rfl)
              (.inr rfl) (.inr rfl) (.inr rfl) (.inr rfl) (.inr rfl) (.inr rfl) (.inr rfl) (.inr rfl) (.inl rfl)
                  (.inr rfl) (.inr rfl) (.inr rfl) (.inr rfl) (.inr rfl) (.inr rfl) (.inr rfl) (.inr rfl) (.inr rfl)
                      (.inr rfl) (.inr rfl)
  exact Within.refl _

theorem State.timeStarted_within (s : State) :
    Within 0x800000000 [] s (State.timeStarted s) := by
  unfold State.timeStarted
  exact (Within.mono (State.modTime_within ..) rfl)

theorem State.lockStep_within (s : State) (offset : Int) :
    Within 0x18000800000080 [] s (State.lockStep s offset) := by
  unfold State.lockStep
  extract_lets +onlyGivenNames -merge -underBinder x1
  extract_lets +onlyGivenNames -merge -underBinder x2
  extract_lets +onlyGivenNames -merge -underBinder x3
  extract_lets +onlyGivenNames -merge -underBinder x4
  have hx4 : Within 0x18000800000080 [] s x4 := by
    unfold x4
    exact (Within.mono (State.modTime_within ..) rfl)
  refine Within.ite ?_ ?_
  · refine Within.trans ?_ (Within.kind (State.flag_within ..) rfl .time rfl rfl)
    refine Within.trans ?_ (Within.mono (State.modTime_within ..) rfl)
    exact hx4
  · refine Within.ite ?_ ?_
    · refine Within.trans ?_ (Within.mono (State.modTime_within ..) rfl)
      exact hx4
    · exact hx4

theorem execTimeSync_within (dt : Nat) (p : Fin 4) (t1 : Int) (t2 : Int) (correction : Int) (s : State) :
    Ends (Within 0x18001efc7b18af []) s (execTimeSync dt p t1 t2 correction s) := by
  unfold execTimeSync
  extract_lets +onlyGivenNames -merge -underBinder x1
  have hx1 : Within 0x18001efc7b18af [] s x1 := by
    unfold x1
    exact (Within.mono (State.elapse_within ..) rfl)
  refine Ends.ite ?_ ?_
  · refine Ends.next ?_
    exact hx1
  · extract_lets +onlyGivenNames -merge -underBinder x2
    extract_lets +onlyGivenNames -merge -underBinder x3
    extract_lets +onlyGivenNames -merge -underBinder x4
    have hx4 : Within 0x18001efc7b18af [] s x4 := by
      unfold x4
      refine Within.trans ?_ (Within.kind (State.wri_within ..) rfl .time rfl rfl)
      refine Within.trans ?_ (Within.mono (State.modTime_within ..) rfl)
      exact hx1
    refine Ends.ite ?_ ?_
    · refine Ends.next ?_
      exact hx4
    · refine Ends.ite ?_ ?_
      · extract_lets +onlyGivenNames -merge -underBinder x5
        have hx5 : Within 0x18001efc7b18af [] s x5 := by
          unfold x5
          refine Within.trans ?_ (Within.kind (State.flag_within ..) rfl .time rfl rfl)
          refine Within.trans ?_ (Within.kind (State.inc_within ..) rfl .time rfl rfl)
          exact hx4
        extract_lets +onlyGivenNames -merge -underBinder x6
        have hx6 : Within 0x18001efc7b18af [] s x6 := by
          unfold x6
          refine Within.trans ?_ (Within.mono (State.lockStep_within ..) rfl)
          exact hx5
        refine Ends.next ?_
        refine Within.trans ?_ (Within.mono (State.stepMt_within ..) rfl)
        exact hx6
      · split
        · extract_lets +onlyGivenNames -merge -underBinder x7
          have hx7 : Within 0x18001efc7b18af [] s x7 := by
            unfold x7
            refine Within.trans ?_ (Within.mono (State.modTime_within ..) rfl)
            exact hx4
          refine Ends.next ?_
          refine Within.trans ?_ (Within.mono (State.lockStep_within ..) rfl)
          refine Within.trans ?_ (Within.kind (State.wri_within ..) rfl .time rfl rfl)
          exact hx7

theorem execPtpAnnounce_within (dt : Nat) (p : Fin 4) (a : PtpAnnounce) (s : State) :
    Ends (Within 0x1800080000008e []) s (execPtpAnnounce dt p a s) := by
  unfold execPtpAnnounce
  extract_lets +onlyGivenNames -merge -underBinder x1
  have hx1 : Within 0x1800080000008e [] s x1 := by
    unfold x1
    exact (Within.mono (State.elapse_within ..) rfl)
  extract_lets +onlyGivenNames -merge -underBinder x2
  refine Ends.ite ?_ ?_
  · refine Ends.next ?_
    exact hx1
  · extract_lets +onlyGivenNames -merge -underBinder x3
    extract_lets +onlyGivenNames -merge -underBinder x4
    have hx4 : Within 0x1800080000008e [] s x4 := by
      unfold x4
      refine Within.trans ?_ (Within.mono (State.modTime_within ..) rfl)
      exact hx1
    extract_lets +onlyGivenNames -merge -underBinder x5
    split
    · refine Ends.next ?_
      exact hx4
    · extract_lets +onlyGivenNames -merge -underBinder x6
      have hx6 : Within 0x1800080000008e [] s x6 := by
        unfold x6
        refine Within.trans ?_ (Within.kind (State.wr64_within ..) rfl .time rfl rfl)
        exact hx4
      refine Ends.ite ?_ ?_
      · refine Ends.next ?_
        exact hx6
      · extract_lets +onlyGivenNames -merge -underBinder x7
        have hx7 : Within 0x1800080000008e [] s x7 := by
          unfold x7
          refine Within.trans ?_ (Within.mono (State.modTime_within ..) rfl)
          exact hx6
        refine Ends.next ?_
        refine Within.trans ?_ (Within.kind (State.flag_within ..) rfl .time rfl rfl)
        refine Within.trans ?_ (Within.kind (State.inc_within ..) rfl .time rfl rfl)
        exact hx7

theorem State.showDelay_within (s : State) :
    Within 0x10000000000000 [] s (State.showDelay s) := by
  unfold State.showDelay
  exact (Within.kind (State.wri_within ..) rfl .time rfl rfl)

theorem execDelayResp_within (dt : Nat) (p : Fin 4) (t1 : Int) (t2 : Int) (t3 : Int) (t4 : Int) (s : State) :
    Ends (Within 0x1000080000000e []) s (execDelayResp dt p t1 t2 t3 t4 s) := by
  unfold execDelayResp
  extract_lets +onlyGivenNames -merge -underBinder x1
  have hx1 : Within 0x1000080000000e [] s x1 := by
    unfold x1
    exact (Within.mono (State.elapse_within ..) rfl)
  refine Ends.ite ?_ ?_
  · refine Ends.next ?_
    exact hx1
  · refine Ends.ite ?_ ?_
    · refine Ends.next ?_
      refine Within.trans ?_ (Within.mono (State.showDelay_within ..) rfl)
      refine Within.trans ?_ (Within.mono (State.modTime_within ..) rfl)
      exact hx1
    · refine Ends.next ?_
      refine Within.trans ?_ (Within.mono (State.showDelay_within ..) rfl)
      refine Within.trans ?_ (Within.mono (State.modTime_within ..) rfl)
      exact hx1

theorem State.timeSend_within (s : State) (p : Nat) (type : Nat) (content : List Byte) :
    Within 0xc00000000 [] s (State.timeSend s p type content) := by
  unfold State.timeSend
  extract_lets +onlyGivenNames -merge -underBinder x1
  refine Within.trans ?_ (Within.mono (State.ethQueue_within ..) rfl)
  exact (Within.mono (State.modTime_within ..) rfl)

theorem execDelayRequestSend_within (dt : Nat) (s : State) :
    Ends (Within 0xc0000000e []) s (execDelayRequestSend dt s) := by
  unfold execDelayRequestSend
  extract_lets +onlyGivenNames -merge -underBinder x1
  have hx1 : Within 0xc0000000e [] s x1 := by
    unfold x1
    exact (Within.mono (State.elapse_within ..) rfl)
  refine Ends.ite ?_ ?_
  · refine Ends.next ?_
    exact hx1
  · refine Ends.next ?_
    refine Within.trans ?_ (Within.mono (State.timeSend_within ..) rfl)
    exact hx1

theorem execDelayReq_within (dt : Nat) (p : Fin 4) (peer : Bool) (rx : Int) (s : State) :
    Ends (Within 0xc0000000e []) s (execDelayReq dt p peer rx s) := by
  unfold execDelayReq
  extract_lets +onlyGivenNames -merge -underBinder x1
  have hx1 : Within 0xc0000000e [] s x1 := by
    unfold x1
    exact (Within.mono (State.elapse_within ..) rfl)
  refine Ends.ite ?_ ?_
  · refine Ends.next ?_
    refine Within.trans ?_ (Within.mono (State.timeSend_within ..) rfl)
    exact hx1
  · refine Ends.next ?_
    exact hx1

theorem execTimeTransmitPeriod_within (dt : Nat) (p : Fin 4) (announce : Bool) (s : State) :
    Ends (Within 0xc0000000e []) s (execTimeTransmitPeriod dt p announce s) := by
  unfold execTimeTransmitPeriod
  extract_lets +onlyGivenNames -merge -underBinder x1
  have hx1 : Within 0xc0000000e [] s x1 := by
    unfold x1
    exact (Within.mono (State.elapse_within ..) rfl)
  extract_lets +onlyGivenNames -merge -underBinder x2
  extract_lets +onlyGivenNames -merge -underBinder x3
  extract_lets +onlyGivenNames -merge -underBinder x4
  have hx4 : Within 0xc0000000e [] s x4 := by
    unfold x4
    refine Within.trans ?_ (Within.mono (State.modTime_within ..) rfl)
    exact hx1
  refine Ends.ite ?_ ?_
  · refine Ends.next ?_
    exact hx1
  · refine Ends.ite ?_ ?_
    · refine Ends.next ?_
      refine Within.trans ?_ (Within.mono (State.timeSend_within ..) rfl)
      exact hx4
    · refine Ends.next ?_
      refine Within.trans ?_ (Within.mono (State.timeSend_within ..) rfl)
      exact hx4

theorem execHoldoverEntry_within (dt : Nat) (s : State) :
    Ends (Within 0x1800080000008e []) s (execHoldoverEntry dt s) := by
  unfold execHoldoverEntry
  extract_lets +onlyGivenNames -merge -underBinder x1
  have hx1 : Within 0x1800080000008e [] s x1 := by
    unfold x1
    exact (Within.mono (State.elapse_within ..) rfl)
  refine Ends.ite ?_ ?_
  · refine Ends.next ?_
    refine Within.trans ?_ (Within.kind (State.flag_within ..) rfl .time rfl rfl)
    refine Within.trans ?_ (Within.kind (State.inc_within ..) rfl .time rfl rfl)
    refine Within.trans ?_ (Within.mono (State.modTime_within ..) rfl)
    exact hx1
  · refine Ends.next ?_
    exact hx1

theorem State.mtLatch_within (s : State) (frac : Nat) :
    Within 0x800000000 [] s (State.mtLatch s frac) := by
  unfold State.mtLatch
  exact (Within.mono (State.modTime_within ..) rfl)

theorem execMtLoRead_within (dt : Nat) (frac : BitVec 16) (s : State) :
    Ends (Within 0x80000020e []) s (execMtLoRead dt frac s) := by
  unfold execMtLoRead
  extract_lets +onlyGivenNames -merge -underBinder x1
  have hx1 : Within 0x80000020e [] s x1 := by
    unfold x1
    exact (Within.mono (State.elapse_within ..) rfl)
  refine Ends.ite ?_ ?_
  · refine Ends.next ?_
    refine Within.trans ?_ (Within.mono (State.answerRead_within ..) rfl)
    refine Within.trans ?_ (Within.mono (State.mtLatch_within ..) rfl)
    exact hx1
  · refine Ends.next ?_
    refine Within.trans ?_ (Within.mono (State.answerRead_within ..) rfl)
    exact hx1

end Sys2Proof.Machine
end

