-- ==== Sys2Proof/Laws/FrameIrq.lean ====
section
/-! SUPPORT. What each operation of Machine/Irq.lean may change (Laws/Within.lean). -/

namespace Sys2Proof.Machine

open Sys2Proof

theorem State.assertSource_within (s : State) (n : Nat) (level : Bool) :
    Within 0x8000000000080 [] s (State.assertSource s n level) := by
  unfold State.assertSource
  refine Within.ite ?_ ?_
  · exact Within.refl _
  · refine Within.ite ?_ ?_
    · split
      · exact (Within.mono (State.pageLine_within ..) rfl)
      · exact Within.refl _
    · refine Within.ite ?_ ?_
      · exact (Within.mono (State.levelSource_within ..) rfl)
      · refine Within.ite ?_ ?_
        · exact (Within.mono (State.edgeSource_within ..) rfl)
        · exact Within.refl _

theorem execIrqSourceAssert_within (dt : Nat) (src : Fin 256) (level : Bool) (s : State) :
    Ends (Within 0x800000000008e []) s (execIrqSourceAssert dt src level s) := by
  unfold execIrqSourceAssert
  refine Ends.next ?_
  refine Within.trans ?_ (Within.mono (State.assertSource_within ..) rfl)
  exact (Within.mono (State.elapse_within ..) rfl)

theorem execExtIrqPin_within (dt : Nat) (i : Fin 8) (level : HeldLevel) (s : State) :
    Ends (Within 0x800000000008e []) s (execExtIrqPin dt i level s) := by
  unfold execExtIrqPin
  extract_lets +onlyGivenNames -merge -underBinder x1
  have hx1 : Within 0x800000000008e [] s x1 := by
    unfold x1
    exact (Within.mono (State.elapse_within ..) rfl)
  extract_lets +onlyGivenNames -merge -underBinder x2
  extract_lets +onlyGivenNames -merge -underBinder x3
  extract_lets +onlyGivenNames -merge -underBinder x4
  refine Ends.ite ?_ ?_
  · refine Ends.next ?_
    exact hx1
  · extract_lets +onlyGivenNames -merge -underBinder x5 x6
    have hx6 : Within 0x800000000008e [] s x6 := by
      unfold x6
      refine Within.upd ?_ rfl rfl (.inr rfl) (.inr rfl) (.inr rfl) (.inr rfl) (.inr rfl) (.inr rfl) (.inr rfl) (.inl
          rfl) (.inr rfl) (.inr rfl) (.inr rfl) (.inr rfl) (.inr rfl) (.inr rfl) (.inr rfl) (.inr rfl) (.inr rfl)
              (.inr rfl) (.inr rfl) (.inr rfl) (.inr rfl) (.inr rfl) (.inr rfl) (.inr rfl) (.inr rfl) (.inr rfl)
                  (.inr rfl) (.inr rfl) (.inr rfl) (.inr rfl) (.inr rfl) (.inr rfl) (.inr rfl) (.inr rfl) (.inr rfl)
                      (.inr rfl) (.inr rfl) (.inr rfl) (.inr rfl) (.inr rfl) (.inr rfl) (.inr rfl) (.inr rfl) (.inr
                          rfl) (.inr rfl) (.inr rfl) (.inr rfl)
      exact hx1
    extract_lets +onlyGivenNames -merge -underBinder x7
    refine Ends.ite ?_ ?_
    · refine Ends.next ?_
      exact hx6
    · refine Ends.ite ?_ ?_
      · refine Ends.next ?_
        refine Within.ite ?_ ?_
        · refine Within.trans ?_ (Within.mono (State.edgeSource_within ..) rfl)
          exact hx6
        · exact hx6
      · refine Ends.next ?_
        refine Within.trans ?_ (Within.mono (State.levelSource_within ..) rfl)
        exact hx6

theorem State.irqStarted_within (s : State) :
    Within 0x8000000000080 [] s (State.irqStarted s) := by
  unfold State.irqStarted
  refine Within.foldl ?_ (fun t1 a2 h3 => ?_)
  · exact Within.refl _
  · extract_lets +onlyGivenNames -merge -underBinder x4
    refine Within.trans ?_ (Within.mono (State.levelSource_within ..) rfl)
    exact h3

theorem State.irqLatch_within (s : State) (t : Nat) (n : Nat) :
    Within 0x8000000000080 [] s (State.irqLatch s t n) := by
  unfold State.irqLatch
  extract_lets +onlyGivenNames -merge -underBinder x1
  refine Within.ite ?_ ?_
  · extract_lets +onlyGivenNames -merge -underBinder x2
    have hx2 : Within 0x8000000000080 [] s x2 := by
      unfold x2
      exact (Within.mono (State.setSrc_within ..) rfl)
    refine Within.ite ?_ ?_
    · exact hx2
    · refine Within.trans ?_ (Within.kind (State.inc_within ..) rfl .irq rfl rfl)
      exact hx2
  · exact Within.refl _

theorem State.msixSend_within (s : State) (v : Nat) :
    Within 0x240 [] s (State.msixSend s v) := by
  unfold State.msixSend
  refine Within.ite ?_ ?_
  · refine Within.upd ?_ rfl rfl (.inr rfl) (.inr rfl) (.inr rfl) (.inr rfl) (.inr rfl) (.inr rfl) (.inl rfl) (.inr
      rfl) (.inr rfl) (.inr rfl) (.inr rfl) (.inr rfl) (.inr rfl) (.inr rfl) (.inr rfl) (.inr rfl) (.inr rfl) (.inr
          rfl) (.inr rfl) (.inr rfl) (.inr rfl) (.inr rfl) (.inr rfl) (.inr rfl) (.inr rfl) (.inr rfl) (.inr rfl)
              (.inr rfl) (.inr rfl) (.inr rfl) (.inr rfl) (.inr rfl) (.inr rfl) (.inr rfl) (.inr rfl) (.inr rfl)
                  (.inr rfl) (.inr rfl) (.inr rfl) (.inr rfl) (.inr rfl) (.inr rfl) (.inr rfl) (.inr rfl) (.inr rfl)
                      (.inr rfl) (.inr rfl)
    exact Within.refl _
  · exact (Within.mono (State.send_within ..) rfl)

theorem State.irqSignal_within (s : State) (t : Nat) :
    Within 0x2c0 [] s (State.irqSignal s t) := by
  unfold State.irqSignal
  extract_lets +onlyGivenNames -merge -underBinder x1
  extract_lets +onlyGivenNames -merge -underBinder x2
  have hx2 : Within 0x2c0 [] s x2 := by
    unfold x2
    refine Within.foldl ?_ (fun t3 a4 h5 => ?_)
    · exact Within.refl _
    · refine Within.trans ?_ (Within.mono (State.msixSend_within ..) rfl)
      exact h5
  refine Within.foldl ?_ (fun t6 a7 h8 => ?_)
  · exact hx2
  · refine Within.trans ?_ (Within.mono (State.setSrc_within ..) rfl)
    exact h8

theorem State.irqFire_within (s : State) (t : Nat) :
    Within 0x80000000002c0 [] s (State.irqFire s t) := by
  unfold State.irqFire
  extract_lets +onlyGivenNames -merge -underBinder x1 x2
  have hx2 : Within 0x80000000002c0 [] s x2 := by
    unfold x2
    exact (Within.mono (State.setTgt_within ..) rfl)
  refine Within.trans ?_ (Within.mono (State.irqSignal_within ..) rfl)
  refine Within.foldl ?_ (fun t3 a4 h5 => ?_)
  · exact hx2
  · refine Within.trans ?_ (Within.mono (State.irqLatch_within ..) rfl)
    exact h5

theorem execTargetFire_within (dt : Nat) (t : Fin 6) (s : State) :
    Ends (Within 0x80000000002ce []) s (execTargetFire dt t s) := by
  unfold execTargetFire
  extract_lets +onlyGivenNames -merge -underBinder x1
  have hx1 : Within 0x80000000002ce [] s x1 := by
    unfold x1
    exact (Within.mono (State.elapse_within ..) rfl)
  refine Ends.ite ?_ ?_
  · refine Ends.next ?_
    refine Within.trans ?_ (Within.mono (State.irqFire_within ..) rfl)
    exact hx1
  · refine Ends.next ?_
    exact hx1

theorem State.irqClaim_within (s : State) (t : Nat) :
    Within 0x8000000000080 [] s (State.irqClaim s t).2 := by
  unfold State.irqClaim
  split
  · refine Within.pair ?_
    exact Within.refl _
  · split
    · refine Within.pair ?_
      exact Within.refl _
    · extract_lets +onlyGivenNames -merge -underBinder x1 x2
      have hx2 : Within 0x8000000000080 [] s x2 := by
        unfold x2
        exact (Within.mono (State.setSrc_within ..) rfl)
      extract_lets +onlyGivenNames -merge -underBinder x3
      have hx3 : Within 0x8000000000080 [] s x3 := by
        unfold x3
        refine Within.ite ?_ ?_
        · refine Within.trans ?_ (Within.kind (State.inc_within ..) rfl .irq rfl rfl)
          exact hx2
        · exact hx2
      extract_lets +onlyGivenNames -merge -underBinder x4
      have hx4 : Within 0x8000000000080 [] s x4 := by
        unfold x4
        refine Within.ite ?_ ?_
        · refine Within.trans ?_ (Within.kind (State.flag_within ..) rfl .irq rfl rfl)
          refine Within.trans ?_ (Within.kind (State.inc_within ..) rfl .irq rfl rfl)
          exact hx3
        · exact hx3
      refine Within.pair ?_
      exact hx4

theorem execIrqClaim_within (dt : Nat) (t : Fin 6) (s : State) :
    Ends (Within 0x800000000028e []) s (execIrqClaim dt t s) := by
  unfold execIrqClaim
  extract_lets +onlyGivenNames -merge -underBinder x1
  have hx1 : Within 0x800000000028e [] s x1 := by
    unfold x1
    exact (Within.mono (State.elapse_within ..) rfl)
  split
  rename_i y2 y3 e4
  have hy3 : Within 0x800000000028e [] s y3 := by
    refine Within.snd e4 ?_
    split
    · refine Within.trans ?_ (Within.mono (State.irqClaim_within ..) rfl)
      exact hx1
    · refine Within.pair ?_
      exact hx1
  refine Ends.next ?_
  refine Within.trans ?_ (Within.mono (State.answerRead_within ..) rfl)
  exact hy3

theorem State.irqComplete_within (s : State) (t : Nat) (w : Word) :
    Within 0x8000000000080 [] s (State.irqComplete s t w) := by
  unfold State.irqComplete
  extract_lets +onlyGivenNames -merge -underBinder x1
  extract_lets +onlyGivenNames -merge -underBinder x2
  refine Within.ite ?_ ?_
  · extract_lets +onlyGivenNames -merge -underBinder x3
    extract_lets +onlyGivenNames -merge -underBinder x4
    have hx4 : Within 0x8000000000080 [] s x4 := by
      unfold x4
      exact (Within.mono (State.setSrc_within ..) rfl)
    extract_lets +onlyGivenNames -merge -underBinder x5
    have hx5 : Within 0x8000000000080 [] s x5 := by
      unfold x5
      refine Within.ite ?_ ?_
      · refine Within.trans ?_ (Within.mono (State.irqEvent_within ..) rfl)
        exact hx4
      · exact hx4
    refine Within.ite ?_ ?_
    · refine Within.trans ?_ (Within.kind (State.flag_within ..) rfl .irq rfl rfl)
      refine Within.trans ?_ (Within.kind (State.inc_within ..) rfl .irq rfl rfl)
      exact hx5
    · exact hx5
  · refine Within.trans ?_ (Within.kind (State.flag_within ..) rfl .irq rfl rfl)
    exact (Within.kind (State.inc_within ..) rfl .irq rfl rfl)

theorem execIrqComplete_within (dt : Nat) (t : Fin 6) (value : Word) (s : State) :
    Ends (Within 0x800000000008e []) s (execIrqComplete dt t value s) := by
  unfold execIrqComplete
  refine Ends.next ?_
  refine Within.hostDo ?_ (fun t1 h2 => ?_)
  · exact (Within.mono (State.elapse_within ..) rfl)
  · refine Within.trans ?_ (Within.mono (State.irqComplete_within ..) rfl)
    exact h2

theorem State.irqPark_within (s : State) (t : Nat) (w : Word) :
    Within 0x8000000000080 [] s (State.irqPark s t w) := by
  unfold State.irqPark
  extract_lets +onlyGivenNames -merge -underBinder x1
  extract_lets +onlyGivenNames -merge -underBinder x2
  have hx2 : Within 0x8000000000080 [] s x2 := by
    unfold x2
    exact (Within.kind (State.wr_within ..) rfl .irq rfl rfl)
  refine Within.ite ?_ ?_
  · exact hx2
  · refine Within.foldl ?_ (fun t3 a4 h5 => ?_)
    · exact hx2
    · refine Within.trans ?_ (Within.mono (State.irqEvent_within ..) rfl)
      exact h5

theorem execIrqPark_within (dt : Nat) (t : Fin 6) (value : Word) (s : State) :
    Ends (Within 0x800000000008e []) s (execIrqPark dt t value s) := by
  unfold execIrqPark
  refine Ends.next ?_
  refine Within.hostDo ?_ (fun t1 h2 => ?_)
  · exact (Within.mono (State.elapse_within ..) rfl)
  · refine Within.trans ?_ (Within.mono (State.irqPark_within ..) rfl)
    exact h2

theorem State.irqConfig_within (s : State) (n : Nat) (w : Word) :
    Within 0x8000000000080 [] s (State.irqConfig s n w) := by
  unfold State.irqConfig
  extract_lets +onlyGivenNames -merge -underBinder x1
  extract_lets +onlyGivenNames -merge -underBinder x2
  have hx2 : Within 0x8000000000080 [] s x2 := by
    unfold x2
    exact (Within.kind (State.wr_within ..) rfl .irq rfl rfl)
  extract_lets +onlyGivenNames -merge -underBinder x3
  refine Within.ite ?_ ?_
  · refine Within.trans ?_ (Within.mono (State.irqEvent_within ..) rfl)
    exact hx2
  · exact hx2

theorem execIrqSourceConfig_within (dt : Nat) (src : Fin 256) (value : Word) (s : State) :
    Ends (Within 0x800000000008e []) s (execIrqSourceConfig dt src value s) := by
  unfold execIrqSourceConfig
  refine Ends.next ?_
  refine Within.hostDo ?_ (fun t1 h2 => ?_)
  · exact (Within.mono (State.elapse_within ..) rfl)
  · refine Within.trans ?_ (Within.mono (State.irqConfig_within ..) rfl)
    exact h2

end Sys2Proof.Machine
end

