-- ==== Sys2Proof/Laws/FrameThermal.lean ====
section
/-! SUPPORT. What each operation of Machine/Thermal.lean may change (Laws/Within.lean). -/

namespace Sys2Proof.Machine

open Sys2Proof

theorem State.judgeDiode_within (s : State) (diodes : List Int) (d : Nat) :
    Within 0x1088002100000080 [] s (State.judgeDiode s diodes d) := by
  unfold State.judgeDiode
  extract_lets +onlyGivenNames -merge -underBinder x1
  extract_lets +onlyGivenNames -merge -underBinder x2
  extract_lets +onlyGivenNames -merge -underBinder x3
  extract_lets +onlyGivenNames -merge -underBinder x4
  split
  · exact Within.refl _
  · extract_lets +onlyGivenNames -merge -underBinder x5
    extract_lets +onlyGivenNames -merge -underBinder x6
    extract_lets +onlyGivenNames -merge -underBinder x7 x8
    have hx8 : Within 0x1088002100000080 [] s x8 := by
      unfold x8
      refine Within.upd ?_ rfl rfl (.inr rfl) (.inr rfl) (.inr rfl) (.inr rfl) (.inr rfl) (.inr rfl) (.inr rfl) (.inr
          rfl) (.inr rfl) (.inr rfl) (.inr rfl) (.inr rfl) (.inr rfl) (.inr rfl) (.inr rfl) (.inr rfl) (.inr rfl)
              (.inr rfl) (.inr rfl) (.inr rfl) (.inr rfl) (.inr rfl) (.inr rfl) (.inr rfl) (.inr rfl) (.inr rfl)
                  (.inr rfl) (.inr rfl) (.inr rfl) (.inr rfl) (.inr rfl) (.inr rfl) (.inr rfl) (.inr rfl) (.inr rfl)
                      (.inr rfl) (.inr rfl) (.inl rfl) (.inr rfl) (.inr rfl) (.inr rfl) (.inr rfl) (.inr rfl) (.inr
                          rfl) (.inr rfl) (.inr rfl) (.inr rfl)
      exact Within.refl _
    refine Within.ite ?_ ?_
    · extract_lets +onlyGivenNames -merge -underBinder x9
      have hx9 : Within 0x1088002100000080 [] s x9 := by
        unfold x9
        refine Within.trans ?_ (Within.kind (State.wrb_within ..) rfl .thm rfl rfl)
        exact hx8
      extract_lets +onlyGivenNames -merge -underBinder x10
      have hx10 : Within 0x1088002100000080 [] s x10 := by
        unfold x10
        refine Within.trans ?_ (Within.kind (State.inc_within ..) rfl .thm rfl rfl)
        refine Within.trans ?_ (Within.kind (State.flag_within ..) rfl .thm rfl rfl)
        exact hx9
      refine Within.trans ?_ (Within.mono (State.record_within ..) rfl)
      exact hx10
    · exact hx8

theorem State.setLevel_within (s : State) (n : Nat) :
    Within 0x63218889031a3e0028f [] s (State.setLevel s n) := by
  unfold State.setLevel
  extract_lets +onlyGivenNames -merge -underBinder x1
  extract_lets +onlyGivenNames -merge -underBinder x2 x3
  have hx3 : Within 0x63218889031a3e0028f [] s x3 := by
    unfold x3
    refine Within.upd ?_ rfl rfl (.inr rfl) (.inr rfl) (.inr rfl) (.inr rfl) (.inr rfl) (.inr rfl) (.inr rfl) (.inr
        rfl) (.inr rfl) (.inr rfl) (.inr rfl) (.inr rfl) (.inr rfl) (.inr rfl) (.inr rfl) (.inr rfl) (.inr rfl) (.inr
            rfl) (.inr rfl) (.inr rfl) (.inr rfl) (.inr rfl) (.inr rfl) (.inr rfl) (.inr rfl) (.inr rfl) (.inr rfl)
                (.inr rfl) (.inr rfl) (.inr rfl) (.inr rfl) (.inr rfl) (.inr rfl) (.inr rfl) (.inr rfl) (.inr rfl)
                    (.inr rfl) (.inl rfl) (.inr rfl) (.inr rfl) (.inr rfl) (.inr rfl) (.inr rfl) (.inr rfl) (.inr
                        rfl) (.inr rfl) (.inr rfl)
    exact Within.refl _
  extract_lets +onlyGivenNames -merge -underBinder x4
  have hx4 : Within 0x63218889031a3e0028f [] s x4 := by
    unfold x4
    refine Within.ite ?_ ?_
    · refine Within.trans ?_ (Within.kind (State.flag_within ..) rfl .thm rfl rfl)
      refine Within.trans ?_ (Within.kind (State.inc_within ..) rfl .thm rfl rfl)
      exact hx3
    · exact hx3
  extract_lets +onlyGivenNames -merge -underBinder x5
  have hx5 : Within 0x63218889031a3e0028f [] s x5 := by
    unfold x5
    refine Within.ite ?_ ?_
    · refine Within.trans ?_ (Within.kind (State.flag_within ..) rfl .thm rfl rfl)
      refine Within.trans ?_ (Within.kind (State.inc_within ..) rfl .thm rfl rfl)
      exact hx4
    · exact hx4
  extract_lets +onlyGivenNames -merge -underBinder x6
  have hx6 : Within 0x63218889031a3e0028f [] s x6 := by
    unfold x6
    refine Within.trans ?_ (Within.mono (State.setSource_within ..) rfl)
    exact hx5
  refine Within.ite ?_ ?_
  · refine Within.trans ?_ (Within.mono (State.outEntry_within ..) rfl)
    exact hx6
  · exact hx6

theorem execDieModelUpdate_within (dt : Nat) (nodes : List Int) (diodes : List Int) (s : State) :
    Ends (Within 0x1fffffffd4fffffffeff []) s (execDieModelUpdate dt nodes diodes s) := by
  unfold execDieModelUpdate
  extract_lets +onlyGivenNames -merge -underBinder x1
  have hx1 : Within 0x1fffffffd4fffffffeff [] s x1 := by
    unfold x1
    exact (Within.mono (State.elapse_within ..) rfl)
  refine Ends.ite ?_ ?_
  · refine Ends.next ?_
    exact hx1
  · extract_lets +onlyGivenNames -merge -underBinder x2 x3
    have hx3 : Within 0x1fffffffd4fffffffeff [] s x3 := by
      unfold x3
      refine Within.upd ?_ rfl rfl (.inr rfl) (.inr rfl) (.inr rfl) (.inr rfl) (.inr rfl) (.inr rfl) (.inr rfl) (.inr
          rfl) (.inr rfl) (.inr rfl) (.inr rfl) (.inr rfl) (.inr rfl) (.inr rfl) (.inr rfl) (.inr rfl) (.inr rfl)
              (.inr rfl) (.inr rfl) (.inr rfl) (.inr rfl) (.inr rfl) (.inr rfl) (.inr rfl) (.inr rfl) (.inr rfl)
                  (.inr rfl) (.inr rfl) (.inr rfl) (.inr rfl) (.inr rfl) (.inr rfl) (.inr rfl) (.inr rfl) (.inr rfl)
                      (.inr rfl) (.inr rfl) (.inl rfl) (.inr rfl) (.inr rfl) (.inr rfl) (.inr rfl) (.inr rfl) (.inr
                          rfl) (.inr rfl) (.inr rfl) (.inr rfl)
      exact hx1
    extract_lets +onlyGivenNames -merge -underBinder x4
    have hx4 : Within 0x1fffffffd4fffffffeff [] s x4 := by
      unfold x4
      refine Within.foldl ?_ (fun t5 a6 h7 => ?_)
      · exact hx3
      · refine Within.trans ?_ (Within.mono (State.judgeDiode_within ..) rfl)
        exact h7
    extract_lets +onlyGivenNames -merge -underBinder x8
    extract_lets +onlyGivenNames -merge -underBinder x9
    have hx9 : Within 0x1fffffffd4fffffffeff [] s x9 := by
      unfold x9
      refine Within.ite ?_ ?_
      · refine Within.trans ?_ (Within.kind (State.flag_within ..) rfl .thm rfl rfl)
        exact hx4
      · exact hx4
    extract_lets +onlyGivenNames -merge -underBinder x10
    extract_lets +onlyGivenNames -merge -underBinder x11 x12
    have hx12 : Within 0x1fffffffd4fffffffeff [] s x12 := by
      unfold x12
      refine Within.upd ?_ rfl rfl (.inr rfl) (.inr rfl) (.inr rfl) (.inr rfl) (.inr rfl) (.inr rfl) (.inr rfl) (.inr
          rfl) (.inr rfl) (.inr rfl) (.inr rfl) (.inr rfl) (.inr rfl) (.inr rfl) (.inr rfl) (.inr rfl) (.inr rfl)
              (.inr rfl) (.inr rfl) (.inr rfl) (.inr rfl) (.inr rfl) (.inr rfl) (.inr rfl) (.inr rfl) (.inr rfl)
                  (.inr rfl) (.inr rfl) (.inr rfl) (.inr rfl) (.inr rfl) (.inr rfl) (.inr rfl) (.inr rfl) (.inr rfl)
                      (.inr rfl) (.inr rfl) (.inl rfl) (.inr rfl) (.inr rfl) (.inr rfl) (.inr rfl) (.inr rfl) (.inr
                          rfl) (.inr rfl) (.inr rfl) (.inr rfl)
      exact hx9
    extract_lets +onlyGivenNames -merge -underBinder x13
    have hx13 : Within 0x1fffffffd4fffffffeff [] s x13 := by
      unfold x13
      refine Within.trans ?_ (Within.mono (State.setLevel_within ..) rfl)
      exact hx12
    extract_lets +onlyGivenNames -merge -underBinder x14
    extract_lets +onlyGivenNames -merge -underBinder x15
    have hx15 : Within 0x1fffffffd4fffffffeff [] s x15 := by
      unfold x15
      refine Within.trans ?_ (Within.kind (State.wrn_within ..) rfl .thm rfl rfl)
      exact hx13
    extract_lets +onlyGivenNames -merge -underBinder x16
    have hx16 : Within 0x1fffffffd4fffffffeff [] s x16 := by
      unfold x16
      refine Within.trans ?_ (Within.kind (State.wrn_within ..) rfl .thm rfl rfl)
      exact hx15
    extract_lets +onlyGivenNames -merge -underBinder x17
    have hx17 : Within 0x1fffffffd4fffffffeff [] s x17 := by
      unfold x17
      refine Within.foldl ?_ (fun t18 a19 h20 => ?_)
      · exact hx16
      · refine Within.trans ?_ (Within.kind (State.wrn_within ..) rfl .thm rfl rfl)
        exact h20
    refine Ends.next ?_
    refine Within.trans ?_ (Within.mono (State.trialOut_within ..) rfl)
    exact hx17

theorem State.nselLatch_within (s : State) (w : Nat) :
    Within 0x80000000000000 [] s (State.nselLatch s w) := by
  unfold State.nselLatch
  refine Within.trans ?_ (Within.kind (State.wrn_within ..) rfl .thm rfl rfl)
  exact (Within.kind (State.wrn_within ..) rfl .thm rfl rfl)

theorem execNselLatch_within (dt : Nat) (node : Fin 64) (s : State) :
    Ends (Within 0x8000000000000e []) s (execNselLatch dt node s) := by
  unfold execNselLatch
  refine Ends.next ?_
  refine Within.hostDo ?_ (fun t1 h2 => ?_)
  · exact (Within.mono (State.elapse_within ..) rfl)
  · refine Within.trans ?_ (Within.mono (State.nselLatch_within ..) rfl)
    exact h2

theorem execPowerSample_within (dt : Nat) (domains : List Nat) (total : Nat) (mean1s : Nat) (vaon : Nat) (vin12 :
    Nat) (s : State) :
    Ends (Within 0x10800400000008e []) s (execPowerSample dt domains total mean1s vaon vin12 s) := by
  unfold execPowerSample
  extract_lets +onlyGivenNames -merge -underBinder x1
  have hx1 : Within 0x10800400000008e [] s x1 := by
    unfold x1
    exact (Within.mono (State.elapse_within ..) rfl)
  refine Ends.ite ?_ ?_
  · refine Ends.next ?_
    exact hx1
  · extract_lets +onlyGivenNames -merge -underBinder x2
    extract_lets +onlyGivenNames -merge -underBinder x3
    have hx3 : Within 0x10800400000008e [] s x3 := by
      unfold x3
      refine Within.foldl ?_ (fun t4 a5 h6 => ?_)
      · exact hx1
      · refine Within.trans ?_ (Within.kind (State.wrn_within ..) rfl .pwr rfl rfl)
        exact h6
    extract_lets +onlyGivenNames -merge -underBinder x7
    have hx7 : Within 0x10800400000008e [] s x7 := by
      unfold x7
      refine Within.trans ?_ (Within.kind (State.wrn_within ..) rfl .pwr rfl rfl)
      refine Within.trans ?_ (Within.kind (State.wrn_within ..) rfl .pwr rfl rfl)
      exact hx3
    extract_lets +onlyGivenNames -merge -underBinder x8
    have hx8 : Within 0x10800400000008e [] s x8 := by
      unfold x8
      refine Within.trans ?_ (Within.kind (State.wrn_within ..) rfl .pwr rfl rfl)
      exact hx7
    extract_lets +onlyGivenNames -merge -underBinder x9
    have hx9 : Within 0x10800400000008e [] s x9 := by
      unfold x9
      refine Within.trans ?_ (Within.kind (State.wrn_within ..) rfl .pwr rfl rfl)
      exact hx8
    extract_lets +onlyGivenNames -merge -underBinder x10
    extract_lets +onlyGivenNames -merge -underBinder x11
    have hx11 : Within 0x10800400000008e [] s x11 := by
      unfold x11
      refine Within.upd ?_ rfl rfl (.inr rfl) (.inr rfl) (.inr rfl) (.inr rfl) (.inr rfl) (.inr rfl) (.inr rfl) (.inr
          rfl) (.inr rfl) (.inr rfl) (.inr rfl) (.inr rfl) (.inr rfl) (.inr rfl) (.inr rfl) (.inr rfl) (.inr rfl)
              (.inr rfl) (.inr rfl) (.inr rfl) (.inr rfl) (.inr rfl) (.inr rfl) (.inr rfl) (.inr rfl) (.inr rfl)
                  (.inr rfl) (.inr rfl) (.inr rfl) (.inr rfl) (.inr rfl) (.inr rfl) (.inr rfl) (.inr rfl) (.inr rfl)
                      (.inr rfl) (.inr rfl) (.inr rfl) (.inl rfl) (.inr rfl) (.inr rfl) (.inr rfl) (.inr rfl) (.inr
                          rfl) (.inr rfl) (.inr rfl) (.inr rfl)
      exact hx9
    refine Ends.ite ?_ ?_
    · refine Ends.next ?_
      refine Within.trans ?_ (Within.kind (State.flag_within ..) rfl .pwr rfl rfl)
      refine Within.trans ?_ (Within.kind (State.inc_within ..) rfl .pwr rfl rfl)
      exact hx11
    · refine Ends.next ?_
      exact hx11

theorem execDiodeOverLimit_within (dt : Nat) (diode : Fin 16) (reading : Int) (s : State) :
    Ends (Within 0x200000030112340020f []) s (execDiodeOverLimit dt diode reading s) := by
  unfold execDiodeOverLimit
  extract_lets +onlyGivenNames -merge -underBinder x1
  have hx1 : Within 0x200000030112340020f [] s x1 := by
    unfold x1
    exact (Within.mono (State.elapse_within ..) rfl)
  refine Ends.ite ?_ ?_
  · refine Ends.next ?_
    exact hx1
  · extract_lets +onlyGivenNames -merge -underBinder x2
    extract_lets +onlyGivenNames -merge -underBinder x3
    have hx3 : Within 0x200000030112340020f [] s x3 := by
      unfold x3
      refine Within.trans ?_ (Within.mono (State.forceSafe_within ..) rfl)
      refine Within.trans ?_ (Within.mono (State.bookRole_within ..) rfl)
      exact hx1
    extract_lets +onlyGivenNames -merge -underBinder x4
    extract_lets +onlyGivenNames -merge -underBinder x5
    extract_lets +onlyGivenNames -merge -underBinder x6
    refine Ends.next ?_
    try clear_value x3
    refine Within.upd ?_ rfl rfl (.inl rfl) (.inr rfl) (.inr rfl) (.inl rfl) (.inr rfl) (.inr rfl) (.inr rfl) (.inr
        rfl) (.inr rfl) (.inr rfl) (.inr rfl) (.inr rfl) (.inr rfl) (.inr rfl) (.inr rfl) (.inr rfl) (.inr rfl) (.inr
            rfl) (.inr rfl) (.inr rfl) (.inr rfl) (.inr rfl) (.inr rfl) (.inr rfl) (.inr rfl) (.inr rfl) (.inr rfl)
                (.inr rfl) (.inr rfl) (.inr rfl) (.inr rfl) (.inr rfl) (.inl rfl) (.inr rfl) (.inr rfl) (.inr rfl)
                    (.inr rfl) (.inr rfl) (.inr rfl) (.inr rfl) (.inr rfl) (.inr rfl) (.inr rfl) (.inr rfl) (.inr
                        rfl) (.inl rfl) (.inr rfl)
    exact hx3

end Sys2Proof.Machine
end

