-- ==== Sys2Proof/Laws/FrameBlocks.lean ====
section
/-! SUPPORT. What each operation of Machine/Blocks.lean may change (Laws/Within.lean). -/

namespace Sys2Proof.Machine

open Sys2Proof

theorem State.estStartShow_within (s : State) :
    Within 0x10008000000000080 [] s (State.estStartShow s) := by
  unfold State.estStartShow
  extract_lets +onlyGivenNames -merge -underBinder x1
  extract_lets +onlyGivenNames -merge -underBinder x2
  extract_lets +onlyGivenNames -merge -underBinder x3
  have hx3 : Within 0x10008000000000080 [] s x3 := by
    unfold x3
    exact (Within.kind (State.wrn_within ..) rfl .est rfl rfl)
  extract_lets +onlyGivenNames -merge -underBinder x4
  have hx4 : Within 0x10008000000000080 [] s x4 := by
    unfold x4
    refine Within.ite ?_ ?_
    · exact hx3
    · refine Within.trans ?_ (Within.kind (State.flag_within ..) rfl .est rfl rfl)
      exact hx3
  refine Within.foldl ?_ (fun t5 a6 h7 => ?_)
  · exact hx4
  · refine Within.ite ?_ ?_
    · exact h7
    · extract_lets +onlyGivenNames -merge -underBinder x8
      extract_lets +onlyGivenNames -merge -underBinder x9
      refine Within.trans ?_ (Within.kind (State.wrn_within ..) rfl .est rfl rfl)
      refine Within.trans ?_ (Within.kind (State.wrn_within ..) rfl .est rfl rfl)
      exact h7

theorem State.snsEnabling_within (s : State) (n : Fin 16) :
    Within 0x2000000000001000 [] s (State.snsEnabling s n) := by
  unfold State.snsEnabling
  extract_lets +onlyGivenNames -merge -underBinder x1
  extract_lets +onlyGivenNames -merge -underBinder x2
  extract_lets +onlyGivenNames -merge -underBinder x3
  have hx3 : Within 0x2000000000001000 [] s x3 := by
    unfold x3
    exact (Within.mono (State.setSring_within ..) rfl)
  extract_lets +onlyGivenNames -merge -underBinder x4
  have hx4 : Within 0x2000000000001000 [] s x4 := by
    unfold x4
    refine Within.foldl ?_ (fun t5 a6 h7 => ?_)
    · exact hx3
    · refine Within.trans ?_ (Within.kind (State.wrn_within ..) rfl .sns rfl rfl)
      exact h7
  refine Within.trans ?_ (Within.kind (State.wrn_within ..) rfl .sns rfl rfl)
  exact hx4

theorem State.snsStarted_within (s : State) (n : Fin 16) :
    Within 0x6323808000181e01280 [] s (State.snsStarted s n) := by
  unfold State.snsStarted
  extract_lets +onlyGivenNames -merge -underBinder x1
  have hx1 : Within 0x6323808000181e01280 [] s x1 := by
    unfold x1
    exact (Within.mono (State.setRingMode_within ..) rfl)
  extract_lets +onlyGivenNames -merge -underBinder x2
  have hx2 : Within 0x6323808000181e01280 [] s x2 := by
    unfold x2
    refine Within.foldl ?_ (fun t3 a4 h5 => ?_)
    · exact hx1
    · refine Within.trans ?_ (Within.mono (State.setFe_within ..) rfl)
      exact h5
  refine Within.trans ?_ (Within.mono (State.setSource_within ..) rfl)
  exact hx2

theorem State.snsStopped_within (s : State) (n : Fin 16) :
    Within 0x6323808000181e01280 [] s (State.snsStopped s n) := by
  unfold State.snsStopped
  extract_lets +onlyGivenNames -merge -underBinder x1
  have hx1 : Within 0x6323808000181e01280 [] s x1 := by
    unfold x1
    refine Within.foldl ?_ (fun t2 a3 h4 => ?_)
    · exact Within.refl _
    · refine Within.trans ?_ (Within.mono (State.setFe_within ..) rfl)
      exact h4
  refine Within.trans ?_ (Within.mono (State.setSource_within ..) rfl)
  refine Within.trans ?_ (Within.mono (State.alertSource_within ..) rfl)
  refine Within.trans ?_ (Within.kind (State.wrn_within ..) rfl .sns rfl rfl)
  exact hx1

theorem State.modStarted_within (s : State) :
    Within 0x6325808000181e02380 [] s (State.modStarted s) := by
  unfold State.modStarted
  extract_lets +onlyGivenNames -merge -underBinder x1
  extract_lets +onlyGivenNames -merge -underBinder x2 x3
  have hx3 : Within 0x6325808000181e02380 [] s x3 := by
    unfold x3
    refine Within.upd ?_ rfl rfl (.inr rfl) (.inr rfl) (.inr rfl) (.inr rfl) (.inr rfl) (.inr rfl) (.inr rfl) (.inr
        rfl) (.inr rfl) (.inr rfl) (.inr rfl) (.inr rfl) (.inr rfl) (.inl rfl) (.inr rfl) (.inr rfl) (.inr rfl) (.inr
            rfl) (.inr rfl) (.inr rfl) (.inr rfl) (.inr rfl) (.inr rfl) (.inr rfl) (.inr rfl) (.inr rfl) (.inr rfl)
                (.inr rfl) (.inr rfl) (.inr rfl) (.inr rfl) (.inr rfl) (.inr rfl) (.inr rfl) (.inr rfl) (.inr rfl)
                    (.inr rfl) (.inr rfl) (.inr rfl) (.inr rfl) (.inr rfl) (.inr rfl) (.inr rfl) (.inr rfl) (.inr
                        rfl) (.inr rfl) (.inr rfl)
    exact Within.refl _
  refine Within.trans ?_ (Within.mono (State.invalidShow_within ..) rfl)
  refine Within.trans ?_ (Within.mono (State.restartComparators_within ..) rfl)
  refine Within.trans ?_ (Within.mono (State.showDelays_within ..) rfl)
  refine Within.trans ?_ (Within.kind (State.wrn_within ..) rfl .mod rfl rfl)
  exact hx3

theorem State.modStopped_within (s : State) :
    Within 0x6325808000181e02280 [] s (State.modStopped s) := by
  unfold State.modStopped
  extract_lets +onlyGivenNames -merge -underBinder x1 x2
  have hx2 : Within 0x6325808000181e02280 [] s x2 := by
    unfold x2
    refine Within.upd ?_ rfl rfl (.inr rfl) (.inr rfl) (.inr rfl) (.inr rfl) (.inr rfl) (.inr rfl) (.inr rfl) (.inr
        rfl) (.inr rfl) (.inr rfl) (.inr rfl) (.inr rfl) (.inr rfl) (.inl rfl) (.inr rfl) (.inr rfl) (.inr rfl) (.inr
            rfl) (.inr rfl) (.inr rfl) (.inr rfl) (.inr rfl) (.inr rfl) (.inr rfl) (.inr rfl) (.inr rfl) (.inr rfl)
                (.inr rfl) (.inr rfl) (.inr rfl) (.inr rfl) (.inr rfl) (.inr rfl) (.inr rfl) (.inr rfl) (.inr rfl)
                    (.inr rfl) (.inr rfl) (.inr rfl) (.inr rfl) (.inr rfl) (.inr rfl) (.inr rfl) (.inr rfl) (.inr
                        rfl) (.inr rfl) (.inr rfl)
    exact Within.refl _
  refine Within.trans ?_ (Within.mono (State.invalidShow_within ..) rfl)
  refine Within.trans ?_ (Within.kind (State.wrn_within ..) rfl .mod rfl rfl)
  exact hx2

theorem State.epochUp_within (s : State) :
    Within 0x10000000020008200 [] s (State.epochUp s) := by
  unfold State.epochUp
  extract_lets +onlyGivenNames -merge -underBinder x1
  refine Within.trans ?_ (Within.kind (State.wrn_within ..) rfl .est rfl rfl)
  exact (Within.mono (State.jrnPut_within ..) rfl)

theorem State.estStarted_within (s : State) :
    Within 0x300080000a0058280 [] s (State.estStarted s) := by
  unfold State.estStarted
  extract_lets +onlyGivenNames -merge -underBinder x1 x2
  have hx2 : Within 0x300080000a0058280 [] s x2 := by
    unfold x2
    refine Within.upd ?_ rfl rfl (.inr rfl) (.inr rfl) (.inr rfl) (.inr rfl) (.inr rfl) (.inr rfl) (.inr rfl) (.inr
        rfl) (.inr rfl) (.inr rfl) (.inr rfl) (.inr rfl) (.inr rfl) (.inr rfl) (.inr rfl) (.inr rfl) (.inl rfl) (.inr
            rfl) (.inr rfl) (.inr rfl) (.inr rfl) (.inr rfl) (.inr rfl) (.inr rfl) (.inr rfl) (.inr rfl) (.inr rfl)
                (.inr rfl) (.inr rfl) (.inr rfl) (.inr rfl) (.inr rfl) (.inr rfl) (.inr rfl) (.inr rfl) (.inr rfl)
                    (.inr rfl) (.inr rfl) (.inr rfl) (.inr rfl) (.inr rfl) (.inr rfl) (.inr rfl) (.inr rfl) (.inr
                        rfl) (.inr rfl) (.inr rfl)
    exact Within.refl _
  extract_lets +onlyGivenNames -merge -underBinder x3
  have hx3 : Within 0x300080000a0058280 [] s x3 := by
    unfold x3
    refine Within.foldl ?_ (fun t4 a5 h6 => ?_)
    · exact hx2
    · refine Within.trans ?_ (Within.kind (State.wrn_within ..) rfl .est rfl rfl)
      exact h6
  refine Within.trans ?_ (Within.mono (State.modWay_within ..) rfl)
  refine Within.trans ?_ (Within.mono (State.epochUp_within ..) rfl)
  refine Within.trans ?_ (Within.mono (State.placeAll_within ..) rfl)
  exact hx3

theorem State.tdmStarted_within (s : State) :
    Within 0xc0000200002a0 [] s (State.tdmStarted s) := by
  unfold State.tdmStarted
  refine Within.trans ?_ (Within.mono (State.setTdm_within ..) rfl)
  exact (Within.mono (State.serviceAll_within ..) rfl)

theorem State.tdmStopped_within (s : State) :
    Within 0x20000000 [] s (State.tdmStopped s) := by
  unfold State.tdmStopped
  exact (Within.mono (State.setTdm_within ..) rfl)

theorem State.witStarted_within (s : State) :
    Within 0x40000000 [] s (State.witStarted s) := by
  unfold State.witStarted
  refine Within.upd ?_ rfl rfl (.inr rfl) (.inr rfl) (.inr rfl) (.inr rfl) (.inr rfl) (.inr rfl) (.inr rfl) (.inr
      rfl) (.inr rfl) (.inr rfl) (.inr rfl) (.inr rfl) (.inr rfl) (.inr rfl) (.inr rfl) (.inr rfl) (.inr rfl) (.inr
          rfl) (.inr rfl) (.inr rfl) (.inr rfl) (.inr rfl) (.inr rfl) (.inr rfl) (.inr rfl) (.inr rfl) (.inr rfl)
              (.inr rfl) (.inr rfl) (.inr rfl) (.inl rfl) (.inr rfl) (.inr rfl) (.inr rfl) (.inr rfl) (.inr rfl)
                  (.inr rfl) (.inr rfl) (.inr rfl) (.inr rfl) (.inr rfl) (.inr rfl) (.inr rfl) (.inr rfl) (.inr rfl)
                      (.inr rfl) (.inr rfl)
  exact Within.refl _

theorem State.ringsFresh_within (s : State) :
    Within 0x4000010000020 [] s (State.ringsFresh s) := by
  unfold State.ringsFresh
  extract_lets +onlyGivenNames -merge -underBinder x1
  extract_lets +onlyGivenNames -merge -underBinder x2
  extract_lets +onlyGivenNames -merge -underBinder x3
  have hx3 : Within 0x4000010000020 [] s x3 := by
    unfold x3
    refine Within.upd ?_ rfl rfl (.inr rfl) (.inr rfl) (.inr rfl) (.inr rfl) (.inr rfl) (.inl rfl) (.inr rfl) (.inr
        rfl) (.inr rfl) (.inr rfl) (.inr rfl) (.inr rfl) (.inr rfl) (.inr rfl) (.inr rfl) (.inr rfl) (.inr rfl) (.inr
            rfl) (.inr rfl) (.inr rfl) (.inr rfl) (.inr rfl) (.inr rfl) (.inr rfl) (.inr rfl) (.inr rfl) (.inr rfl)
                (.inr rfl) (.inl rfl) (.inr rfl) (.inr rfl) (.inr rfl) (.inr rfl) (.inr rfl) (.inr rfl) (.inr rfl)
                    (.inr rfl) (.inr rfl) (.inr rfl) (.inr rfl) (.inr rfl) (.inr rfl) (.inr rfl) (.inr rfl) (.inr
                        rfl) (.inr rfl) (.inr rfl)
    exact Within.refl _
  extract_lets +onlyGivenNames -merge -underBinder x4
  have hx4 : Within 0x4000010000020 [] s x4 := by
    unfold x4
    refine Within.foldl ?_ (fun t5 a6 h7 => ?_)
    · exact hx3
    · refine Within.trans ?_ (Within.kind (State.wrn_within ..) rfl .rng rfl rfl)
      refine Within.trans ?_ (Within.kind (State.wrn_within ..) rfl .rng rfl rfl)
      exact h7
  refine Within.foldl ?_ (fun t8 a9 h10 => ?_)
  · exact hx4
  · refine Within.trans ?_ (Within.kind (State.wrn_within ..) rfl .rng rfl rfl)
    refine Within.trans ?_ (Within.kind (State.wrn_within ..) rfl .rng rfl rfl)
    exact h10

theorem State.pageStarting_within (s : State) (a1 : Page) :
    Within 0x402000000002001000 [] s (State.pageStarting s a1) := by
  unfold State.pageStarting
  split
  · exact (Within.mono (State.safeEnabling_within ..) rfl)
  · exact (Within.mono (State.snsEnabling_within ..) rfl)
  · exact Within.refl _

theorem State.sptStarted_within (s : State) :
    Within 0x200000 [] s (State.sptStarted s) := by
  unfold State.sptStarted
  refine Within.upd ?_ rfl rfl (.inr rfl) (.inr rfl) (.inr rfl) (.inr rfl) (.inr rfl) (.inr rfl) (.inr rfl) (.inr
      rfl) (.inr rfl) (.inr rfl) (.inr rfl) (.inr rfl) (.inr rfl) (.inr rfl) (.inr rfl) (.inr rfl) (.inr rfl) (.inr
          rfl) (.inr rfl) (.inr rfl) (.inr rfl) (.inl rfl) (.inr rfl) (.inr rfl) (.inr rfl) (.inr rfl) (.inr rfl)
              (.inr rfl) (.inr rfl) (.inr rfl) (.inr rfl) (.inr rfl) (.inr rfl) (.inr rfl) (.inr rfl) (.inr rfl)
                  (.inr rfl) (.inr rfl) (.inr rfl) (.inr rfl) (.inr rfl) (.inr rfl) (.inr rfl) (.inr rfl) (.inr rfl)
                      (.inr rfl) (.inr rfl)
  exact Within.refl _

theorem State.blockStarted_within (s : State) (a1 : Page) :
    Within 0x6f3780c000bf7f5b3a0 [] s (State.blockStarted s a1) := by
  unfold State.blockStarted
  split
  · exact (Within.mono (State.snsStarted_within ..) rfl)
  · exact (Within.mono (State.modStarted_within ..) rfl)
  · exact (Within.mono (State.estStarted_within ..) rfl)
  · exact (Within.mono (State.restartComparators_within ..) rfl)
  · exact (Within.mono (State.tdmStarted_within ..) rfl)
  · exact (Within.mono (State.witStarted_within ..) rfl)
  · exact (Within.mono (State.ringsFresh_within ..) rfl)
  · exact (Within.mono (State.irqStarted_within ..) rfl)
  · refine Within.upd ?_ rfl rfl (.inr rfl) (.inr rfl) (.inr rfl) (.inr rfl) (.inr rfl) (.inr rfl) (.inr rfl) (.inr
      rfl) (.inr rfl) (.inr rfl) (.inr rfl) (.inr rfl) (.inr rfl) (.inr rfl) (.inr rfl) (.inr rfl) (.inr rfl) (.inr
          rfl) (.inl rfl) (.inr rfl) (.inr rfl) (.inr rfl) (.inr rfl) (.inr rfl) (.inr rfl) (.inr rfl) (.inr rfl)
              (.inr rfl) (.inr rfl) (.inr rfl) (.inr rfl) (.inr rfl) (.inr rfl) (.inr rfl) (.inr rfl) (.inr rfl)
                  (.inr rfl) (.inr rfl) (.inr rfl) (.inr rfl) (.inr rfl) (.inr rfl) (.inr rfl) (.inr rfl) (.inr rfl)
                      (.inr rfl) (.inr rfl)
    exact Within.refl _
  · refine Within.upd ?_ rfl rfl (.inr rfl) (.inr rfl) (.inr rfl) (.inr rfl) (.inr rfl) (.inr rfl) (.inr rfl) (.inr
      rfl) (.inr rfl) (.inr rfl) (.inr rfl) (.inr rfl) (.inr rfl) (.inr rfl) (.inr rfl) (.inr rfl) (.inr rfl) (.inr
          rfl) (.inr rfl) (.inr rfl) (.inl rfl) (.inr rfl) (.inr rfl) (.inr rfl) (.inr rfl) (.inr rfl) (.inr rfl)
              (.inr rfl) (.inr rfl) (.inr rfl) (.inr rfl) (.inr rfl) (.inr rfl) (.inr rfl) (.inr rfl) (.inr rfl)
                  (.inr rfl) (.inr rfl) (.inr rfl) (.inr rfl) (.inr rfl) (.inr rfl) (.inr rfl) (.inr rfl) (.inr rfl)
                      (.inr rfl) (.inr rfl)
    exact Within.refl _
  · exact (Within.mono (State.safeStarted_within ..) rfl)
  · exact (Within.mono (State.wayStarted_within ..) rfl)
  · exact (Within.mono (State.sbxStarted_within ..) rfl)
  · exact (Within.mono (State.slayReset_within ..) rfl)
  · exact (Within.mono (State.sptStarted_within ..) rfl)
  · exact (Within.mono (State.timeStarted_within ..) rfl)
  · exact (Within.mono (State.loopStart_within ..) rfl)
  · exact (Within.mono (State.canStarted_within ..) rfl)
  · exact Within.refl _

theorem State.blockLeft_within (s : State) (a1 : Page) :
    Within 0x16f3f80c1015a7e072a0 [] s (State.blockLeft s a1) := by
  unfold State.blockLeft
  split
  · exact (Within.mono (State.snsStopped_within ..) rfl)
  · exact (Within.mono (State.modStopped_within ..) rfl)
  · exact (Within.mono (State.crossCompare_within ..) rfl)
  · exact (Within.mono (State.tdmStopped_within ..) rfl)
  · exact (Within.mono (State.abandonUpload_within ..) rfl)
  · exact (Within.mono (State.safeStopped_within ..) rfl)
  · exact (Within.mono (State.wayStopped_within ..) rfl)
  · exact (Within.mono (State.sbxStopped_within ..) rfl)
  · exact (Within.mono (State.slayReset_within ..) rfl)
  · exact (Within.mono (State.ethStopped_within ..) rfl)
  · exact Within.refl _

theorem State.bootEnds_within (s : State) (m : Mode) :
    Within 0x6331808101181e00289 [] s (State.bootEnds s m) := by
  unfold State.bootEnds
  refine Within.ite ?_ ?_
  · exact Within.refl _
  · extract_lets +onlyGivenNames -merge -underBinder x1
    extract_lets +onlyGivenNames -merge -underBinder x2 x3
    have hx3 : Within 0x6331808101181e00289 [] s x3 := by
      unfold x3
      refine Within.trans ?_ (Within.mono (State.modFw_within ..) rfl)
      exact (Within.mono (State.putSlot_within ..) rfl)
    extract_lets +onlyGivenNames -merge -underBinder x4 x5
    have hx5 : Within 0x6331808101181e00289 [] s x5 := by
      unfold x5
      try clear_value x3
      refine Within.upd ?_ rfl rfl (.inr rfl) (.inr rfl) (.inr rfl) (.inl rfl) (.inr rfl) (.inr rfl) (.inr rfl) (.inr
          rfl) (.inr rfl) (.inr rfl) (.inr rfl) (.inr rfl) (.inr rfl) (.inr rfl) (.inr rfl) (.inr rfl) (.inr rfl)
              (.inr rfl) (.inr rfl) (.inr rfl) (.inr rfl) (.inr rfl) (.inr rfl) (.inr rfl) (.inr rfl) (.inr rfl)
                  (.inr rfl) (.inr rfl) (.inr rfl) (.inr rfl) (.inr rfl) (.inr rfl) (.inr rfl) (.inr rfl) (.inr rfl)
                      (.inr rfl) (.inr rfl) (.inr rfl) (.inr rfl) (.inr rfl) (.inr rfl) (.inr rfl) (.inr rfl) (.inr
                          rfl) (.inr rfl) (.inr rfl) (.inr rfl)
      exact hx3
    refine Within.trans ?_ (Within.mono (State.modeChanged_within ..) rfl)
    refine Within.trans ?_ (Within.mono (State.takeMode_within ..) rfl)
    exact hx5

theorem State.tryReady_within (s : State) :
    Within 0x6321808101181e00289 [] s (State.tryReady s) := by
  unfold State.tryReady
  extract_lets +onlyGivenNames -merge -underBinder x1
  refine Within.ite ?_ ?_
  · extract_lets +onlyGivenNames -merge -underBinder x2 x3
    have hx3 : Within 0x6321808101181e00289 [] s x3 := by
      unfold x3
      refine Within.upd ?_ rfl rfl (.inr rfl) (.inr rfl) (.inr rfl) (.inl rfl) (.inr rfl) (.inr rfl) (.inr rfl) (.inr
          rfl) (.inr rfl) (.inr rfl) (.inr rfl) (.inr rfl) (.inr rfl) (.inr rfl) (.inr rfl) (.inr rfl) (.inr rfl)
              (.inr rfl) (.inr rfl) (.inr rfl) (.inr rfl) (.inr rfl) (.inr rfl) (.inr rfl) (.inr rfl) (.inr rfl)
                  (.inr rfl) (.inr rfl) (.inr rfl) (.inr rfl) (.inr rfl) (.inr rfl) (.inr rfl) (.inr rfl) (.inr rfl)
                      (.inr rfl) (.inr rfl) (.inr rfl) (.inr rfl) (.inr rfl) (.inr rfl) (.inr rfl) (.inr rfl) (.inr
                          rfl) (.inr rfl) (.inr rfl) (.inr rfl)
      exact Within.refl _
    refine Within.trans ?_ (Within.mono (State.modeChanged_within ..) rfl)
    refine Within.trans ?_ (Within.mono (State.takeMode_within ..) rfl)
    exact hx3
  · exact Within.refl _

theorem State.enableCheck_within (s : State) (p : Page) :
    Within 0x402008000002001090 [p] s (State.enableCheck s p) := by
  unfold State.enableCheck
  extract_lets +onlyGivenNames -merge -underBinder x1
  extract_lets +onlyGivenNames -merge -underBinder x2
  have hx2 : Within 0x402008000002001090 [p] s x2 := by
    unfold x2
    exact (Within.page (State.wrn_within ..) rfl)
  extract_lets +onlyGivenNames -merge -underBinder x3
  refine Within.ite ?_ ?_
  · refine Within.trans ?_ (Within.page (State.flag_within ..) rfl)
    exact hx2
  · refine Within.ite ?_ ?_
    · refine Within.trans ?_ (Within.page (State.flag_within ..) rfl)
      exact hx2
    · refine Within.trans ?_ (Within.mono (State.pageStarting_within ..) rfl)
      refine Within.trans ?_ (Within.mono (State.setPage_within ..) rfl)
      exact hx2

theorem State.disabling_within (s : State) (p : Page) :
    Within 0x16f3f80c1015a7e072b0 [] s (State.disabling s p) := by
  unfold State.disabling
  extract_lets +onlyGivenNames -merge -underBinder x1
  extract_lets +onlyGivenNames -merge -underBinder x2
  have hx2 : Within 0x16f3f80c1015a7e072b0 [] s x2 := by
    unfold x2
    exact (Within.mono (State.setPage_within ..) rfl)
  refine Within.ite ?_ ?_
  · refine Within.trans ?_ (Within.mono (State.protEval_within ..) rfl)
    refine Within.trans ?_ (Within.mono (State.blockLeft_within ..) rfl)
    exact hx2
  · exact hx2

theorem State.ctrlWrite_within (s : State) (p : Page) (v : Word) :
    Within 0x16f3f80d1015a7e072b0 [p] s (State.ctrlWrite s p v) := by
  unfold State.ctrlWrite
  extract_lets +onlyGivenNames -merge -underBinder x1
  extract_lets +onlyGivenNames -merge -underBinder x2
  have hx2 : Within 0x16f3f80d1015a7e072b0 [p] s x2 := by
    unfold x2
    exact (Within.page (State.wr_within ..) rfl)
  refine Within.ite ?_ ?_
  · refine Within.ite ?_ ?_
    · refine Within.trans ?_ (Within.page (State.enableCheck_within ..) rfl)
      exact hx2
    · exact hx2
  · extract_lets +onlyGivenNames -merge -underBinder x3
    have hx3 : Within 0x16f3f80d1015a7e072b0 [p] s x3 := by
      unfold x3
      refine Within.ite ?_ ?_
      · exact hx2
      · refine Within.trans ?_ (Within.mono (State.disarm_within ..) rfl)
        exact hx2
    refine Within.ite ?_ ?_
    · refine Within.trans ?_ (Within.mono (State.disabling_within ..) rfl)
      exact hx3
    · exact hx3

theorem State.pageRuns_within (s : State) (p : Page) :
    Within 0x6f3780c101bf7f5b3b9 [] s (State.pageRuns s p) := by
  unfold State.pageRuns
  refine Within.trans ?_ (Within.mono (State.tryReady_within ..) rfl)
  refine Within.trans ?_ (Within.mono (State.protEval_within ..) rfl)
  refine Within.trans ?_ (Within.mono (State.savePage_within ..) rfl)
  refine Within.trans ?_ (Within.mono (State.blockStarted_within ..) rfl)
  exact (Within.mono (State.setPage_within ..) rfl)

theorem State.startEnds_within (s : State) (p : Page) :
    Within 0x16f3f80c101ff7f5f3b9 [p] s (State.startEnds s p) := by
  unfold State.startEnds
  refine Within.ite ?_ ?_
  · exact Within.refl _
  · extract_lets +onlyGivenNames -merge -underBinder x1
    have hx1 : Within 0x16f3f80c101ff7f5f3b9 [p] s x1 := by
      unfold x1
      refine Within.ite ?_ ?_
      · exact (Within.mono (State.estStartShow_within ..) rfl)
      · exact Within.refl _
    extract_lets +onlyGivenNames -merge -underBinder x2
    have hx2 : Within 0x16f3f80c101ff7f5f3b9 [p] s x2 := by
      unfold x2
      refine Within.ite ?_ ?_
      · refine Within.trans ?_ (Within.mono (State.pageRuns_within ..) rfl)
        exact hx1
      · refine Within.trans ?_ (Within.mono (State.protEval_within ..) rfl)
        refine Within.trans ?_ (Within.page (State.pageFault_within ..) rfl)
        exact hx1
    refine Within.ite ?_ ?_
    · exact hx2
    · refine Within.trans ?_ (Within.mono (State.disabling_within ..) rfl)
      exact hx2

theorem State.blockStops_within (s : State) (p : Page) :
    Within 0x40200c0002020012b0 [p] s (State.blockStops s p) := by
  unfold State.blockStops
  extract_lets +onlyGivenNames -merge -underBinder x1
  refine Within.ite ?_ ?_
  · exact Within.refl _
  · extract_lets +onlyGivenNames -merge -underBinder x2
    have hx2 : Within 0x40200c0002020012b0 [p] s x2 := by
      unfold x2
      split
      · exact (Within.mono (State.canStopped_within ..) rfl)
      · exact Within.refl _
    extract_lets +onlyGivenNames -merge -underBinder x3
    have hx3 : Within 0x40200c0002020012b0 [p] s x3 := by
      unfold x3
      refine Within.trans ?_ (Within.mono (State.setPage_within ..) rfl)
      exact hx2
    refine Within.ite ?_ ?_
    · refine Within.trans ?_ (Within.page (State.enableCheck_within ..) rfl)
      exact hx3
    · exact hx3

theorem State.blockFaults_within (s : State) (p : Page) :
    Within 0x16f3f80c1015a7e072b0 [p] s (State.blockFaults s p) := by
  unfold State.blockFaults
  refine Within.ite ?_ ?_
  · refine Within.trans ?_ (Within.mono (State.protEval_within ..) rfl)
    refine Within.trans ?_ (Within.mono (State.blockLeft_within ..) rfl)
    exact (Within.page (State.pageFault_within ..) rfl)
  · exact Within.refl _

theorem execPageEnable_within (dt : Nat) (page : Page) (value : Word) (s : State) :
    Ends (Within 0x16f3f80d1015a7e072be [page]) s (execPageEnable dt page value s) := by
  unfold execPageEnable
  extract_lets +onlyGivenNames -merge -underBinder x1
  have hx1 : Within 0x16f3f80d1015a7e072be [page] s x1 := by
    unfold x1
    exact (Within.mono (State.elapse_within ..) rfl)
  refine Ends.ite ?_ ?_
  · refine Ends.next ?_
    refine Within.trans ?_ (Within.page (State.ctrlWrite_within ..) rfl)
    exact hx1
  · refine Ends.next ?_
    exact hx1

theorem execPageDisable_within (dt : Nat) (page : Page) (value : Word) (s : State) :
    Ends (Within 0x16f3f80d1015a7e072be [page]) s (execPageDisable dt page value s) := by
  unfold execPageDisable
  extract_lets +onlyGivenNames -merge -underBinder x1
  have hx1 : Within 0x16f3f80d1015a7e072be [page] s x1 := by
    unfold x1
    exact (Within.mono (State.elapse_within ..) rfl)
  refine Ends.ite ?_ ?_
  · refine Ends.next ?_
    refine Within.trans ?_ (Within.page (State.ctrlWrite_within ..) rfl)
    exact hx1
  · refine Ends.next ?_
    exact hx1

theorem execBlockStartDone_within (dt : Nat) (page : Page) (s : State) :
    Ends (Within 0x16f3f80c101ff7f5f3bf [page]) s (execBlockStartDone dt page s) := by
  unfold execBlockStartDone
  extract_lets +onlyGivenNames -merge -underBinder x1
  have hx1 : Within 0x16f3f80c101ff7f5f3bf [page] s x1 := by
    unfold x1
    exact (Within.mono (State.elapse_within ..) rfl)
  refine Ends.ite ?_ ?_
  · refine Ends.next ?_
    refine Within.trans ?_ (Within.page (State.startEnds_within ..) rfl)
    exact hx1
  · refine Ends.next ?_
    exact hx1

theorem execBlockStopped_within (dt : Nat) (page : Page) (s : State) :
    Ends (Within 0x40200c0002020012be [page]) s (execBlockStopped dt page s) := by
  unfold execBlockStopped
  extract_lets +onlyGivenNames -merge -underBinder x1
  have hx1 : Within 0x40200c0002020012be [page] s x1 := by
    unfold x1
    exact (Within.mono (State.elapse_within ..) rfl)
  refine Ends.ite ?_ ?_
  · refine Ends.next ?_
    refine Within.trans ?_ (Within.page (State.blockStops_within ..) rfl)
    exact hx1
  · refine Ends.next ?_
    exact hx1

theorem execBlockFault_within (dt : Nat) (page : Page) (s : State) :
    Ends (Within 0x16f3f80c1015a7e072be [page]) s (execBlockFault dt page s) := by
  unfold execBlockFault
  extract_lets +onlyGivenNames -merge -underBinder x1
  have hx1 : Within 0x16f3f80c1015a7e072be [page] s x1 := by
    unfold x1
    exact (Within.mono (State.elapse_within ..) rfl)
  refine Ends.ite ?_ ?_
  · refine Ends.next ?_
    refine Within.trans ?_ (Within.page (State.blockFaults_within ..) rfl)
    exact hx1
  · refine Ends.next ?_
    exact hx1

end Sys2Proof.Machine
end

