-- ==== Sys2Proof/Laws/FrameSystem.lean ====
section
/-! SUPPORT. What each operation of Machine/System.lean may change (Laws/Within.lean). -/

namespace Sys2Proof.Machine

open Sys2Proof

theorem State.resetBy_within (s : State) (cause : Nat) (lost : Bool) :
    Within 0x1fffffffd4fffffffeff [] s (State.resetBy s cause lost) := by
  unfold State.resetBy
  refine Within.ite ?_ ?_
  · exact Within.refl _
  · exact (Within.mono (State.moduleReset_within ..) rfl)

theorem execPowerOn_within (s : State) :
    Ends (Within 0x1fffffffd4fffffffeff []) s (execPowerOn s) := by
  unfold execPowerOn
  extract_lets +onlyGivenNames -merge -underBinder x1
  have hx1 : Within 0x1fffffffd4fffffffeff [] s x1 := by
    unfold x1
    exact (Within.mono (State.intoReset_within ..) rfl)
  extract_lets +onlyGivenNames -merge -underBinder x2 x3
  have hx3 : Within 0x1fffffffd4fffffffeff [] s x3 := by
    unfold x3
    try clear_value x1
    refine Within.upd ?_ rfl rfl (.inr rfl) (.inr rfl) (.inr rfl) (.inl rfl) (.inr rfl) (.inr rfl) (.inr rfl) (.inr
        rfl) (.inr rfl) (.inr rfl) (.inr rfl) (.inr rfl) (.inr rfl) (.inr rfl) (.inr rfl) (.inr rfl) (.inr rfl) (.inr
            rfl) (.inr rfl) (.inr rfl) (.inr rfl) (.inr rfl) (.inr rfl) (.inr rfl) (.inr rfl) (.inr rfl) (.inr rfl)
                (.inr rfl) (.inr rfl) (.inr rfl) (.inr rfl) (.inr rfl) (.inr rfl) (.inr rfl) (.inr rfl) (.inr rfl)
                    (.inr rfl) (.inr rfl) (.inr rfl) (.inr rfl) (.inr rfl) (.inr rfl) (.inr rfl) (.inr rfl) (.inr
                        rfl) (.inr rfl) (.inr rfl)
    exact hx1
  refine Ends.next ?_
  refine Within.trans ?_ (Within.mono (State.countReset_within ..) rfl)
  exact hx3

theorem execSupplyOutOfRange_within (dt : Nat) (vaon : Bool) (s : State) :
    Ends (Within 0x1fffffffd4fffffffeff []) s (execSupplyOutOfRange dt vaon s) := by
  unfold execSupplyOutOfRange
  extract_lets +onlyGivenNames -merge -underBinder x1
  have hx1 : Within 0x1fffffffd4fffffffeff [] s x1 := by
    unfold x1
    exact (Within.mono (State.elapse_within ..) rfl)
  refine Ends.ite ?_ ?_
  · extract_lets +onlyGivenNames -merge -underBinder x2
    have hx2 : Within 0x1fffffffd4fffffffeff [] s x2 := by
      unfold x2
      refine Within.trans ?_ (Within.mono (State.intoReset_within ..) rfl)
      exact hx1
    refine Ends.next ?_
    try clear_value x2
    refine Within.upd ?_ rfl rfl (.inr rfl) (.inr rfl) (.inr rfl) (.inl rfl) (.inr rfl) (.inr rfl) (.inr rfl) (.inr
        rfl) (.inr rfl) (.inr rfl) (.inr rfl) (.inr rfl) (.inr rfl) (.inr rfl) (.inr rfl) (.inr rfl) (.inr rfl) (.inr
            rfl) (.inr rfl) (.inr rfl) (.inr rfl) (.inr rfl) (.inr rfl) (.inr rfl) (.inr rfl) (.inr rfl) (.inr rfl)
                (.inr rfl) (.inr rfl) (.inr rfl) (.inr rfl) (.inr rfl) (.inr rfl) (.inr rfl) (.inr rfl) (.inr rfl)
                    (.inr rfl) (.inr rfl) (.inr rfl) (.inr rfl) (.inr rfl) (.inr rfl) (.inr rfl) (.inr rfl) (.inr
                        rfl) (.inr rfl) (.inr rfl)
    exact hx2
  · extract_lets +onlyGivenNames -merge -underBinder x3 x4
    have hx4 : Within 0x1fffffffd4fffffffeff [] s x4 := by
      unfold x4
      try clear_value x1
      refine Within.upd ?_ rfl rfl (.inr rfl) (.inr rfl) (.inr rfl) (.inl rfl) (.inr rfl) (.inr rfl) (.inr rfl) (.inr
          rfl) (.inr rfl) (.inr rfl) (.inr rfl) (.inr rfl) (.inr rfl) (.inr rfl) (.inr rfl) (.inr rfl) (.inr rfl)
              (.inr rfl) (.inr rfl) (.inr rfl) (.inr rfl) (.inr rfl) (.inr rfl) (.inr rfl) (.inr rfl) (.inr rfl)
                  (.inr rfl) (.inr rfl) (.inr rfl) (.inr rfl) (.inr rfl) (.inl rfl) (.inr rfl) (.inr rfl) (.inr rfl)
                      (.inr rfl) (.inr rfl) (.inr rfl) (.inr rfl) (.inr rfl) (.inr rfl) (.inr rfl) (.inr rfl) (.inr
                          rfl) (.inr rfl) (.inr rfl) (.inr rfl)
      exact hx1
    refine Ends.ite ?_ ?_
    · refine Ends.next ?_
      refine Within.trans ?_ (Within.mono (State.jrnTear_within ..) rfl)
      refine Within.trans ?_ (Within.mono (State.sbxTear_within ..) rfl)
      exact hx4
    · refine Ends.next ?_
      refine Within.trans ?_ (Within.mono (State.resetBy_within ..) rfl)
      exact hx4

theorem execSupplyHoldOffExpiry_within (s : State) :
    Ends (Within 0x8810110000008b []) s (execSupplyHoldOffExpiry s) := by
  unfold execSupplyHoldOffExpiry
  refine Ends.next ?_
  refine Within.trans ?_ (Within.mono (State.tryBoot_within ..) rfl)
  refine Within.upd ?_ rfl rfl (.inr rfl) (.inr rfl) (.inr rfl) (.inl rfl) (.inr rfl) (.inr rfl) (.inr rfl) (.inr
      rfl) (.inr rfl) (.inr rfl) (.inr rfl) (.inr rfl) (.inr rfl) (.inr rfl) (.inr rfl) (.inr rfl) (.inr rfl) (.inr
          rfl) (.inr rfl) (.inr rfl) (.inr rfl) (.inr rfl) (.inr rfl) (.inr rfl) (.inr rfl) (.inr rfl) (.inr rfl)
              (.inr rfl) (.inr rfl) (.inr rfl) (.inr rfl) (.inr rfl) (.inr rfl) (.inr rfl) (.inr rfl) (.inr rfl)
                  (.inr rfl) (.inr rfl) (.inr rfl) (.inr rfl) (.inr rfl) (.inr rfl) (.inr rfl) (.inr rfl) (.inr rfl)
                      (.inr rfl) (.inr rfl)
  exact Within.refl _

theorem execResetNLow_within (dt : Nat) (s : State) :
    Ends (Within 0x1fffffffd4fffffffeff []) s (execResetNLow dt s) := by
  unfold execResetNLow
  extract_lets +onlyGivenNames -merge -underBinder x1
  have hx1 : Within 0x1fffffffd4fffffffeff [] s x1 := by
    unfold x1
    exact (Within.mono (State.elapse_within ..) rfl)
  extract_lets +onlyGivenNames -merge -underBinder x2 x3
  have hx3 : Within 0x1fffffffd4fffffffeff [] s x3 := by
    unfold x3
    try clear_value x1
    refine Within.upd ?_ rfl rfl (.inr rfl) (.inr rfl) (.inr rfl) (.inl rfl) (.inr rfl) (.inr rfl) (.inr rfl) (.inr
        rfl) (.inr rfl) (.inr rfl) (.inr rfl) (.inr rfl) (.inr rfl) (.inr rfl) (.inr rfl) (.inr rfl) (.inr rfl) (.inr
            rfl) (.inr rfl) (.inr rfl) (.inr rfl) (.inr rfl) (.inr rfl) (.inr rfl) (.inr rfl) (.inr rfl) (.inr rfl)
                (.inr rfl) (.inr rfl) (.inr rfl) (.inr rfl) (.inr rfl) (.inr rfl) (.inr rfl) (.inr rfl) (.inr rfl)
                    (.inr rfl) (.inr rfl) (.inr rfl) (.inr rfl) (.inr rfl) (.inr rfl) (.inr rfl) (.inr rfl) (.inr
                        rfl) (.inr rfl) (.inr rfl)
    exact hx1
  refine Ends.ite ?_ ?_
  · refine Ends.next ?_
    exact hx3
  · refine Ends.next ?_
    refine Within.trans ?_ (Within.mono (State.resetBy_within ..) rfl)
    exact hx3

theorem execResetNRelease_within (strapB : Bool) (s : State) :
    Ends (Within 0x8810110000008b []) s (execResetNRelease strapB s) := by
  unfold execResetNRelease
  extract_lets +onlyGivenNames -merge -underBinder x1 x2
  have hx2 : Within 0x8810110000008b [] s x2 := by
    unfold x2
    refine Within.upd ?_ rfl rfl (.inr rfl) (.inr rfl) (.inr rfl) (.inl rfl) (.inr rfl) (.inr rfl) (.inr rfl) (.inr
        rfl) (.inr rfl) (.inr rfl) (.inr rfl) (.inr rfl) (.inr rfl) (.inr rfl) (.inr rfl) (.inr rfl) (.inr rfl) (.inr
            rfl) (.inr rfl) (.inr rfl) (.inr rfl) (.inr rfl) (.inr rfl) (.inr rfl) (.inr rfl) (.inr rfl) (.inr rfl)
                (.inr rfl) (.inr rfl) (.inr rfl) (.inr rfl) (.inr rfl) (.inr rfl) (.inr rfl) (.inr rfl) (.inr rfl)
                    (.inr rfl) (.inr rfl) (.inr rfl) (.inr rfl) (.inr rfl) (.inr rfl) (.inr rfl) (.inr rfl) (.inr
                        rfl) (.inr rfl) (.inr rfl)
    exact Within.refl _
  refine Ends.ite ?_ ?_
  · refine Ends.next ?_
    refine Within.trans ?_ (Within.mono (State.tryBoot_within ..) rfl)
    try clear_value x2
    refine Within.upd ?_ rfl rfl (.inr rfl) (.inr rfl) (.inr rfl) (.inl rfl) (.inr rfl) (.inr rfl) (.inr rfl) (.inr
        rfl) (.inr rfl) (.inr rfl) (.inr rfl) (.inr rfl) (.inr rfl) (.inr rfl) (.inr rfl) (.inr rfl) (.inr rfl) (.inr
            rfl) (.inr rfl) (.inr rfl) (.inr rfl) (.inr rfl) (.inr rfl) (.inr rfl) (.inr rfl) (.inr rfl) (.inr rfl)
                (.inr rfl) (.inr rfl) (.inr rfl) (.inr rfl) (.inr rfl) (.inr rfl) (.inr rfl) (.inr rfl) (.inr rfl)
                    (.inr rfl) (.inr rfl) (.inr rfl) (.inr rfl) (.inr rfl) (.inr rfl) (.inr rfl) (.inr rfl) (.inr
                        rfl) (.inr rfl) (.inr rfl)
    exact hx2
  · refine Ends.next ?_
    exact hx2

theorem State.loadPage_within (s : State) (p : Page) (words : List (Nat × Word)) (ref : Word) :
    Within 0x0 [p] s (State.loadPage s p words ref) := by
  unfold State.loadPage
  refine Within.trans ?_ (Within.page (State.wr_within ..) rfl)
  refine Within.foldl ?_ (fun t1 a2 h3 => ?_)
  · exact Within.refl _
  · refine Within.trans ?_ (Within.page (State.wr_within ..) rfl)
    exact h3

theorem State.putSets_within (s : State) (ps : List (Nat × Byte)) (l : List (Nat × LimPart)) (g : LimString) (n c : Nat) :
    Within 0x1fffffff820181e20280 [] s { s with
      est := { s.est with ps := ps }
      mram := { s.mram with lim := l, limStr := g, limSeq := n, limCrc := c } } := by
  apply Within.upd (Within.refl s) rfl rfl (.inr rfl) (.inr rfl) (.inr rfl) (.inr rfl) <;>
    first | exact .inr rfl | exact .inl rfl

theorem State.loadSettings_within (s : State) (v : Settings) :
    Within 0x1fffffff820181e20280 [] s (State.loadSettings s v) := by
  unfold State.loadSettings
  extract_lets +onlyGivenNames -merge -underBinder x1
  have hx1 : Within 0x1fffffff820181e20280 [] s x1 := by
    unfold x1
    refine Within.foldl ?_ (fun t2 a3 h4 => ?_)
    · exact Within.refl _
    · split
      · refine Within.trans ?_ (Within.any (State.loadPage_within ..) rfl rfl)
        exact h4
      · exact h4
  extract_lets +onlyGivenNames -merge -underBinder x5
  have hx5 : Within 0x1fffffff820181e20280 [] s x5 := by
    unfold x5
    refine Within.foldl ?_ (fun t6 a7 h8 => ?_)
    · refine Within.trans ?_ (Within.mono (State.invalidShow_within ..) rfl)
      exact hx1
    · refine Within.trans ?_ (Within.mono (State.absentClear_within ..) rfl)
      exact h8
  extract_lets +onlyGivenNames -merge -underBinder x9
  have hx9 : Within 0x1fffffff820181e20280 [] s x9 := by
    unfold x9
    refine Within.trans ?_ (Within.kind (State.wr_within ..) rfl .cfgx rfl rfl)
    exact hx5
  clear_value x9
  exact hx9.trans (x9.putSets_within _ _ _ _ _)


theorem State.bootSettings_within (s : State) (r : BootReport) :
    Within 0x1fffffff920181e20288 [] s (State.bootSettings s r).2 := by
  unfold State.bootSettings
  split
  · split
    · refine Within.pair ?_
      refine Within.ite ?_ ?_
      · exact Within.refl _
      · refine Within.upd ?_ rfl rfl (.inr rfl) (.inr rfl) (.inr rfl) (.inl rfl) (.inr rfl) (.inr rfl) (.inr rfl)
          (.inr rfl) (.inr rfl) (.inr rfl) (.inr rfl) (.inr rfl) (.inr rfl) (.inr rfl) (.inr rfl) (.inr rfl) (.inr
              rfl) (.inr rfl) (.inr rfl) (.inr rfl) (.inr rfl) (.inr rfl) (.inr rfl) (.inr rfl) (.inr rfl) (.inr rfl)
                  (.inr rfl) (.inr rfl) (.inr rfl) (.inr rfl) (.inr rfl) (.inr rfl) (.inr rfl) (.inr rfl) (.inr rfl)
                      (.inr rfl) (.inr rfl) (.inr rfl) (.inr rfl) (.inr rfl) (.inr rfl) (.inr rfl) (.inr rfl) (.inr
                          rfl) (.inr rfl) (.inr rfl) (.inr rfl)
        exact Within.refl _
    · extract_lets +onlyGivenNames -merge -underBinder x1
      have hx1 : Within 0x1fffffff920181e20288 [] s x1 := by
        unfold x1
        refine Within.ite ?_ ?_
        · exact (Within.mono (State.putSettings_within ..) rfl)
        · exact Within.refl _
      refine Within.pair ?_
      refine Within.trans ?_ (Within.mono (State.loadSettings_within ..) rfl)
      try clear_value x1
      refine Within.upd ?_ rfl rfl (.inr rfl) (.inr rfl) (.inr rfl) (.inl rfl) (.inr rfl) (.inr rfl) (.inr rfl) (.inr
          rfl) (.inr rfl) (.inr rfl) (.inr rfl) (.inr rfl) (.inr rfl) (.inr rfl) (.inr rfl) (.inr rfl) (.inr rfl)
              (.inr rfl) (.inr rfl) (.inr rfl) (.inr rfl) (.inr rfl) (.inr rfl) (.inr rfl) (.inr rfl) (.inr rfl)
                  (.inr rfl) (.inr rfl) (.inr rfl) (.inr rfl) (.inr rfl) (.inr rfl) (.inr rfl) (.inr rfl) (.inr rfl)
                      (.inr rfl) (.inr rfl) (.inr rfl) (.inr rfl) (.inr rfl) (.inr rfl) (.inr rfl) (.inr rfl) (.inr
                          rfl) (.inr rfl) (.inr rfl) (.inr rfl)
      exact hx1

theorem State.showOutCause_within (s : State) :
    Within 0x800000000000 [] s (State.showOutCause s) := by
  unfold State.showOutCause
  extract_lets +onlyGivenNames -merge -underBinder x1
  split
  · exact (Within.kind (State.wrf_within ..) rfl .sys rfl rfl)
  · exact Within.refl _

theorem State.bootLimits_within (s : State) :
    Within 0x100000000000800000 [] s (State.bootLimits s) := by
  unfold State.bootLimits
  extract_lets +onlyGivenNames -merge -underBinder x1
  refine Within.trans ?_ (Within.mono (State.showLimits_within ..) rfl)
  refine Within.upd ?_ rfl rfl (.inr rfl) (.inr rfl) (.inr rfl) (.inr rfl) (.inr rfl) (.inr rfl) (.inr rfl) (.inr
      rfl) (.inr rfl) (.inr rfl) (.inr rfl) (.inr rfl) (.inr rfl) (.inr rfl) (.inr rfl) (.inr rfl) (.inr rfl) (.inr
          rfl) (.inr rfl) (.inr rfl) (.inr rfl) (.inr rfl) (.inr rfl) (.inl rfl) (.inr rfl) (.inr rfl) (.inr rfl)
              (.inr rfl) (.inr rfl) (.inr rfl) (.inr rfl) (.inr rfl) (.inr rfl) (.inr rfl) (.inr rfl) (.inr rfl)
                  (.inr rfl) (.inr rfl) (.inr rfl) (.inr rfl) (.inr rfl) (.inr rfl) (.inr rfl) (.inr rfl) (.inr rfl)
                      (.inr rfl) (.inr rfl)
  exact Within.refl _

theorem State.enableStored_within (s : State) :
    Within 0x1fffffff9015a7e072b0 [] s (State.enableStored s) := by
  unfold State.enableStored
  extract_lets +onlyGivenNames -merge -underBinder x1
  refine Within.foldl ?_ (fun t2 a3 h4 => ?_)
  · exact Within.refl _
  · refine Within.trans ?_ (Within.any (State.ctrlWrite_within ..) rfl rfl)
    exact h4

theorem State.bootEnabled_within (s : State) :
    Within 0x6331809101181e00289 [] s (State.bootEnabled s) := by
  unfold State.bootEnabled
  extract_lets +onlyGivenNames -merge -underBinder x1
  refine Within.ite ?_ ?_
  · exact Within.refl _
  · extract_lets +onlyGivenNames -merge -underBinder x2
    extract_lets +onlyGivenNames -merge -underBinder x3
    extract_lets +onlyGivenNames -merge -underBinder x4
    have hx4 : Within 0x6331809101181e00289 [] s x4 := by
      unfold x4
      refine Within.ite ?_ ?_
      · exact (Within.mono (State.arm_within ..) rfl)
      · exact Within.refl _
    refine Within.trans ?_ (Within.mono (State.bootEnds_within ..) rfl)
    exact hx4

theorem State.bootLanes_within (s : State) (fails : Nat) :
    Within 0x20218089011a345828f [] s (State.bootLanes s fails) := by
  unfold State.bootLanes
  refine Within.foldl ?_ (fun t1 a2 h3 => ?_)
  · exact Within.refl _
  · refine Within.ite ?_ ?_
    · refine Within.trans ?_ (Within.mono (State.retire_within ..) rfl)
      exact h3
    · exact h3

theorem State.nextPhase_within (s : State) :
    Within 0x8 [] s (State.nextPhase s) := by
  unfold State.nextPhase
  refine Within.upd ?_ rfl rfl (.inr rfl) (.inr rfl) (.inr rfl) (.inl rfl) (.inr rfl) (.inr rfl) (.inr rfl) (.inr
      rfl) (.inr rfl) (.inr rfl) (.inr rfl) (.inr rfl) (.inr rfl) (.inr rfl) (.inr rfl) (.inr rfl) (.inr rfl) (.inr
          rfl) (.inr rfl) (.inr rfl) (.inr rfl) (.inr rfl) (.inr rfl) (.inr rfl) (.inr rfl) (.inr rfl) (.inr rfl)
              (.inr rfl) (.inr rfl) (.inr rfl) (.inr rfl) (.inr rfl) (.inr rfl) (.inr rfl) (.inr rfl) (.inr rfl)
                  (.inr rfl) (.inr rfl) (.inr rfl) (.inr rfl) (.inr rfl) (.inr rfl) (.inr rfl) (.inr rfl) (.inr rfl)
                      (.inr rfl) (.inr rfl)
  exact Within.refl _

theorem State.phaseDone_within (s : State) (r : BootReport) :
    Within 0x1fffffffd6fffffffeff [] s (State.phaseDone s r) := by
  unfold State.phaseDone
  refine Within.ite ?_ ?_
  · exact Within.refl _
  · refine Within.ite ?_ ?_
    · exact (Within.mono (State.failBoot_within ..) rfl)
    · split
      · refine Within.trans ?_ (Within.mono (State.nextPhase_within ..) rfl)
        exact (Within.mono (State.waySalvage_within ..) rfl)
      · extract_lets +onlyGivenNames -merge -underBinder x1
        extract_lets +onlyGivenNames -merge -underBinder x2
        extract_lets +onlyGivenNames -merge -underBinder x3 x4
        have hx4 : Within 0x1fffffffd6fffffffeff [] s x4 := by
          unfold x4
          exact (Within.mono (State.putSlot_within ..) rfl)
        refine Within.ite ?_ ?_
        · refine Within.trans ?_ (Within.mono (State.nextPhase_within ..) rfl)
          exact hx4
        · refine Within.trans ?_ (Within.mono (State.failBoot_within ..) rfl)
          exact hx4
      · split
        rename_i y5 y6 e7
        have hy6 : Within 0x1fffffffd6fffffffeff [] s y6 := by
          refine Within.snd e7 ?_
          exact (Within.mono (State.bootSettings_within ..) rfl)
        refine Within.ite ?_ ?_
        · refine Within.trans ?_ (Within.mono (State.nextPhase_within ..) rfl)
          exact hy6
        · exact hy6
      · refine Within.trans ?_ (Within.mono (State.nextPhase_within ..) rfl)
        refine Within.trans ?_ (Within.mono (State.showOutCause_within ..) rfl)
        exact (Within.mono (State.sbxScan_within ..) rfl)
      · refine Within.trans ?_ (Within.mono (State.nextPhase_within ..) rfl)
        refine Within.trans ?_ (Within.mono (State.bootLimits_within ..) rfl)
        exact (Within.mono (State.jrnBoot_within ..) rfl)
      · refine Within.ite ?_ ?_
        · exact (Within.mono (State.failBoot_within ..) rfl)
        · extract_lets +onlyGivenNames -merge -underBinder x8
          have hx8 : Within 0x1fffffffd6fffffffeff [] s x8 := by
            unfold x8
            exact (Within.mono (State.bootLanes_within ..) rfl)
          refine Within.ite ?_ ?_
          · refine Within.trans ?_ (Within.mono (State.bootEnds_within ..) rfl)
            exact hx8
          · refine Within.trans ?_ (Within.mono (State.enableStored_within ..) rfl)
            refine Within.trans ?_ (Within.mono (State.nextPhase_within ..) rfl)
            exact hx8
      · exact (Within.mono (State.bootEnabled_within ..) rfl)
      · exact (Within.mono (State.nextPhase_within ..) rfl)

theorem execBootPhaseDone_within (dt : Nat) (r : BootReport) (s : State) :
    Ends (Within 0x1fffffffd6fffffffeff []) s (execBootPhaseDone dt r s) := by
  unfold execBootPhaseDone
  extract_lets +onlyGivenNames -merge -underBinder x1
  have hx1 : Within 0x1fffffffd6fffffffeff [] s x1 := by
    unfold x1
    exact (Within.mono (State.elapse_within ..) rfl)
  refine Ends.ite ?_ ?_
  · refine Ends.next ?_
    refine Within.trans ?_ (Within.mono (State.phaseDone_within ..) rfl)
    exact hx1
  · refine Ends.next ?_
    exact hx1

theorem execBootTimeout_within (dt : Nat) (s : State) :
    Ends (Within 0x1fffffffd4fffffffeff []) s (execBootTimeout dt s) := by
  unfold execBootTimeout
  extract_lets +onlyGivenNames -merge -underBinder x1
  have hx1 : Within 0x1fffffffd4fffffffeff [] s x1 := by
    unfold x1
    exact (Within.mono (State.elapse_within ..) rfl)
  refine Ends.ite ?_ ?_
  · refine Ends.next ?_
    refine Within.trans ?_ (Within.mono (State.failBoot_within ..) rfl)
    refine Within.trans ?_ (Within.mono (State.waitBound_within ..) rfl)
    exact hx1
  · refine Ends.next ?_
    exact hx1

theorem State.hostReset_within (s : State) (key : Nat) :
    Within 0x1fffffffd4fffffffeff [] s (State.hostReset s key) := by
  unfold State.hostReset
  refine Within.ite ?_ ?_
  · exact Within.refl _
  · refine Within.ite ?_ ?_
    · exact (Within.kind (State.flag_within ..) rfl .sys rfl rfl)
    · refine Within.ite ?_ ?_
      · exact (Within.mono (State.resetBy_within ..) rfl)
      · exact Within.refl _

theorem execSysRst_within (dt : Nat) (key : Byte) (s : State) :
    Ends (Within 0x1fffffffd4fffffffeff []) s (execSysRst dt key s) := by
  unfold execSysRst
  refine Ends.next ?_
  refine Within.trans ?_ (Within.mono (State.hostReset_within ..) rfl)
  exact (Within.mono (State.elapse_within ..) rfl)

theorem execOutRestart_within (dt : Nat) (s : State) :
    Ends (Within 0x1fffffffd4fffffffeff []) s (execOutRestart dt s) := by
  unfold execOutRestart
  extract_lets +onlyGivenNames -merge -underBinder x1
  have hx1 : Within 0x1fffffffd4fffffffeff [] s x1 := by
    unfold x1
    exact (Within.mono (State.elapse_within ..) rfl)
  refine Ends.ite ?_ ?_
  · refine Ends.next ?_
    refine Within.trans ?_ (Within.mono (State.resetBy_within ..) rfl)
    exact hx1
  · refine Ends.next ?_
    exact hx1

theorem execThermalCoolExpiry_within (dt : Nat) (s : State) :
    Ends (Within 0x1fffffffd4fffffffeff []) s (execThermalCoolExpiry dt s) := by
  unfold execThermalCoolExpiry
  extract_lets +onlyGivenNames -merge -underBinder x1
  have hx1 : Within 0x1fffffffd4fffffffeff [] s x1 := by
    unfold x1
    exact (Within.mono (State.elapse_within ..) rfl)
  refine Ends.ite ?_ ?_
  · refine Ends.next ?_
    refine Within.trans ?_ (Within.mono (State.resetBy_within ..) rfl)
    exact hx1
  · refine Ends.next ?_
    exact hx1

theorem State.retryBoot_within (s : State) (slot : Bool) :
    Within 0x1fffffffd4fffffffeff [] s (State.retryBoot s slot) := by
  unfold State.retryBoot
  extract_lets +onlyGivenNames -merge -underBinder x1
  refine Within.ite ?_ ?_
  · exact Within.refl _
  · refine Within.ite ?_ ?_
    · exact (Within.mono (State.fwuReject_within ..) rfl)
    · refine Within.trans ?_ (Within.mono (State.resetBy_within ..) rfl)
      exact (Within.mono (State.modFw_within ..) rfl)

theorem execBootRetry_within (dt : Nat) (slot : Bool) (s : State) :
    Ends (Within 0x1fffffffd4fffffffeff []) s (execBootRetry dt slot s) := by
  unfold execBootRetry
  refine Ends.next ?_
  refine Within.hostDo ?_ (fun t1 h2 => ?_)
  · exact (Within.mono (State.elapse_within ..) rfl)
  · refine Within.trans ?_ (Within.mono (State.retryBoot_within ..) rfl)
    exact h2

theorem execActivationReboot_within (dt : Nat) (s : State) :
    Ends (Within 0x1fffffffd4fffffffeff []) s (execActivationReboot dt s) := by
  unfold execActivationReboot
  extract_lets +onlyGivenNames -merge -underBinder x1
  have hx1 : Within 0x1fffffffd4fffffffeff [] s x1 := by
    unfold x1
    exact (Within.mono (State.elapse_within ..) rfl)
  split
  · refine Ends.ite ?_ ?_
    · extract_lets +onlyGivenNames -merge -underBinder x2
      have hx2 : Within 0x1fffffffd4fffffffeff [] s x2 := by
        unfold x2
        refine Within.trans ?_ (Within.mono (State.modFw_within ..) rfl)
        refine Within.trans ?_ (Within.mono (State.forceSafe_within ..) rfl)
        exact hx1
      extract_lets +onlyGivenNames -merge -underBinder x3 x4
      have hx4 : Within 0x1fffffffd4fffffffeff [] s x4 := by
        unfold x4
        refine Within.upd ?_ rfl rfl (.inr rfl) (.inr rfl) (.inr rfl) (.inr rfl) (.inr rfl) (.inr rfl) (.inr rfl)
            (.inr rfl) (.inr rfl) (.inr rfl) (.inr rfl) (.inr rfl) (.inr rfl) (.inr rfl) (.inr rfl) (.inr rfl) (.inr
                rfl) (.inr rfl) (.inr rfl) (.inr rfl) (.inr rfl) (.inr rfl) (.inr rfl) (.inr rfl) (.inr rfl) (.inr
                    rfl) (.inr rfl) (.inr rfl) (.inr rfl) (.inr rfl) (.inr rfl) (.inr rfl) (.inr rfl) (.inr rfl)
                        (.inr rfl) (.inr rfl) (.inl rfl) (.inr rfl) (.inr rfl) (.inr rfl) (.inr rfl) (.inr rfl) (.inr
                            rfl) (.inr rfl) (.inr rfl) (.inr rfl) (.inr rfl)
        exact hx2
      refine Ends.next ?_
      refine Within.trans ?_ (Within.mono (State.resetBy_within ..) rfl)
      refine Within.trans ?_ (Within.mono (State.recordNow_within ..) rfl)
      exact hx4
    · refine Ends.next ?_
      exact hx1
  · refine Ends.next ?_
    exact hx1

theorem State.outCause_within (s : State) (n : Nat) :
    Within 0x1fffffffd4fffffffeff [] s (State.outCause s n) := by
  unfold State.outCause
  refine Within.trans ?_ (Within.mono (State.trialOut_within ..) rfl)
  exact (Within.mono (State.outEntry_within ..) rfl)

theorem execLockstepMismatch_within (dt : Nat) (island : Bool) (s : State) :
    Ends (Within 0x1fffffffd4fffffffeff []) s (execLockstepMismatch dt island s) := by
  unfold execLockstepMismatch
  refine Ends.next ?_
  refine Within.trans ?_ (Within.mono (State.outCause_within ..) rfl)
  exact (Within.mono (State.elapse_within ..) rfl)

theorem execUncorrectableEccError_within (dt : Nat) (m : EccPlace) (s : State) :
    Ends (Within 0x1fffffffd4fffffffeff []) s (execUncorrectableEccError dt m s) := by
  unfold execUncorrectableEccError
  extract_lets +onlyGivenNames -merge -underBinder x1
  have hx1 : Within 0x1fffffffd4fffffffeff [] s x1 := by
    unfold x1
    exact (Within.mono (State.elapse_within ..) rfl)
  split
  · refine Ends.next ?_
    refine Within.trans ?_ (Within.mono (State.sbxDamage_within ..) rfl)
    exact hx1
  · refine Ends.next ?_
    refine Within.trans ?_ (Within.mono (State.wayDamage_within ..) rfl)
    exact hx1
  · refine Ends.next ?_
    refine Within.trans ?_ (Within.mono (State.outCause_within ..) rfl)
    exact hx1
  · refine Ends.next ?_
    refine Within.trans ?_ (Within.mono (State.outCause_within ..) rfl)
    exact hx1
  · refine Ends.next ?_
    refine Within.trans ?_ (Within.mono (State.outCause_within ..) rfl)
    exact hx1
  · refine Ends.next ?_
    refine Within.trans ?_ (Within.mono (State.outCause_within ..) rfl)
    exact hx1
  · refine Ends.next ?_
    refine Within.trans ?_ (Within.mono (State.outCause_within ..) rfl)
    exact hx1
  · refine Ends.next ?_
    refine Within.trans ?_ (Within.mono (State.outCause_within ..) rfl)
    exact hx1

theorem execWatchdogExpiry_within (dt : Nat) (s : State) :
    Ends (Within 0x1fffffffd4fffffffeff []) s (execWatchdogExpiry dt s) := by
  unfold execWatchdogExpiry
  refine Ends.next ?_
  refine Within.trans ?_ (Within.mono (State.outCause_within ..) rfl)
  exact (Within.mono (State.elapse_within ..) rfl)

theorem execOutputLoopbackFailure_within (dt : Nat) (pad : OutStage) (confirmed : Bool) (s : State) :
    Ends (Within 0x1fffffffd4fffffffeff []) s (execOutputLoopbackFailure dt pad confirmed s) := by
  unfold execOutputLoopbackFailure
  extract_lets +onlyGivenNames -merge -underBinder x1
  have hx1 : Within 0x1fffffffd4fffffffeff [] s x1 := by
    unfold x1
    exact (Within.mono (State.elapse_within ..) rfl)
  refine Ends.ite ?_ ?_
  · refine Ends.next ?_
    refine Within.trans ?_ (Within.mono (State.outCause_within ..) rfl)
    exact hx1
  · refine Ends.ite ?_ ?_
    · refine Ends.next ?_
      exact hx1
    · extract_lets +onlyGivenNames -merge -underBinder x2 x3
      have hx3 : Within 0x1fffffffd4fffffffeff [] s x3 := by
        unfold x3
        try clear_value x1
        refine Within.upd ?_ rfl rfl (.inr rfl) (.inr rfl) (.inr rfl) (.inl rfl) (.inr rfl) (.inr rfl) (.inr rfl)
            (.inr rfl) (.inr rfl) (.inr rfl) (.inr rfl) (.inr rfl) (.inr rfl) (.inr rfl) (.inr rfl) (.inr rfl) (.inr
                rfl) (.inr rfl) (.inr rfl) (.inr rfl) (.inr rfl) (.inr rfl) (.inr rfl) (.inr rfl) (.inr rfl) (.inr
                    rfl) (.inr rfl) (.inr rfl) (.inr rfl) (.inr rfl) (.inr rfl) (.inr rfl) (.inr rfl) (.inr rfl)
                        (.inr rfl) (.inr rfl) (.inr rfl) (.inr rfl) (.inr rfl) (.inr rfl) (.inr rfl) (.inr rfl) (.inr
                            rfl) (.inr rfl) (.inr rfl) (.inr rfl) (.inr rfl)
        exact hx1
      refine Ends.next ?_
      refine Within.ite ?_ ?_
      · refine Within.trans ?_ (Within.mono (State.outCause_within ..) rfl)
        exact hx3
      · refine Within.ite ?_ ?_
        · refine Within.trans ?_ (Within.kind (State.inc_within ..) rfl .pwm rfl rfl)
          exact hx3
        · exact hx3

theorem execClockMonitorFault_within (dt : Nat) (s : State) :
    Ends (Within 0x1fffffffd4fffffffeff []) s (execClockMonitorFault dt s) := by
  unfold execClockMonitorFault
  refine Ends.next ?_
  refine Within.trans ?_ (Within.mono (State.outCause_within ..) rfl)
  exact (Within.mono (State.elapse_within ..) rfl)

theorem execVioBankFault_within (dt : Nat) (bank : Fin 4) (s : State) :
    Ends (Within 0x1fffffffd4fffffffeff []) s (execVioBankFault dt bank s) := by
  unfold execVioBankFault
  extract_lets +onlyGivenNames -merge -underBinder x1
  have hx1 : Within 0x1fffffffd4fffffffeff [] s x1 := by
    unfold x1
    exact (Within.mono (State.elapse_within ..) rfl)
  refine Ends.next ?_
  refine Within.ite ?_ ?_
  · refine Within.trans ?_ (Within.mono (State.outCause_within ..) rfl)
    exact hx1
  · exact hx1

theorem execAon32Loss_within (dt : Nat) (s : State) :
    Ends (Within 0xe []) s (execAon32Loss dt s) := by
  unfold execAon32Loss
  extract_lets +onlyGivenNames -merge -underBinder x1
  have hx1 : Within 0xe [] s x1 := by
    unfold x1
    exact (Within.mono (State.elapse_within ..) rfl)
  refine Ends.next ?_
  try clear_value x1
  refine Within.upd ?_ rfl rfl (.inr rfl) (.inr rfl) (.inr rfl) (.inl rfl) (.inr rfl) (.inr rfl) (.inr rfl) (.inr
      rfl) (.inr rfl) (.inr rfl) (.inr rfl) (.inr rfl) (.inr rfl) (.inr rfl) (.inr rfl) (.inr rfl) (.inr rfl) (.inr
          rfl) (.inr rfl) (.inr rfl) (.inr rfl) (.inr rfl) (.inr rfl) (.inr rfl) (.inr rfl) (.inr rfl) (.inr rfl)
              (.inr rfl) (.inr rfl) (.inr rfl) (.inr rfl) (.inr rfl) (.inr rfl) (.inr rfl) (.inr rfl) (.inr rfl)
                  (.inr rfl) (.inr rfl) (.inr rfl) (.inr rfl) (.inr rfl) (.inr rfl) (.inr rfl) (.inr rfl) (.inr rfl)
                      (.inr rfl) (.inr rfl)
  exact hx1

theorem execPfwFall_within (dt : Nat) (s : State) :
    Ends (Within 0x1000880000000008e []) s (execPfwFall dt s) := by
  unfold execPfwFall
  extract_lets +onlyGivenNames -merge -underBinder x1
  have hx1 : Within 0x1000880000000008e [] s x1 := by
    unfold x1
    exact (Within.mono (State.elapse_within ..) rfl)
  extract_lets +onlyGivenNames -merge -underBinder x2 x3
  have hx3 : Within 0x1000880000000008e [] s x3 := by
    unfold x3
    try clear_value x1
    refine Within.upd ?_ rfl rfl (.inr rfl) (.inr rfl) (.inr rfl) (.inl rfl) (.inr rfl) (.inr rfl) (.inr rfl) (.inr
        rfl) (.inr rfl) (.inr rfl) (.inr rfl) (.inr rfl) (.inr rfl) (.inr rfl) (.inr rfl) (.inr rfl) (.inr rfl) (.inr
            rfl) (.inr rfl) (.inr rfl) (.inr rfl) (.inr rfl) (.inr rfl) (.inr rfl) (.inr rfl) (.inr rfl) (.inr rfl)
                (.inr rfl) (.inr rfl) (.inr rfl) (.inr rfl) (.inr rfl) (.inr rfl) (.inr rfl) (.inr rfl) (.inr rfl)
                    (.inr rfl) (.inr rfl) (.inr rfl) (.inr rfl) (.inr rfl) (.inr rfl) (.inr rfl) (.inr rfl) (.inr
                        rfl) (.inr rfl) (.inr rfl)
    exact hx1
  extract_lets +onlyGivenNames -merge -underBinder x4
  extract_lets +onlyGivenNames -merge -underBinder x5
  have hx5 : Within 0x1000880000000008e [] s x5 := by
    unfold x5
    refine Within.ite ?_ ?_
    · exact hx3
    · refine Within.trans ?_ (Within.kind (State.wrb_within ..) rfl .est rfl rfl)
      refine Within.trans ?_ (Within.kind (State.incBy_within ..) rfl .est rfl rfl)
      exact hx3
  refine Ends.ite ?_ ?_
  · refine Ends.next ?_
    refine Within.trans ?_ (Within.kind (State.flag_within ..) rfl .sys rfl rfl)
    refine Within.trans ?_ (Within.mono (State.edgeSource_within ..) rfl)
    exact hx5
  · refine Ends.next ?_
    exact hx5

theorem execPfwRise_within (dt : Nat) (s : State) :
    Ends (Within 0x10110085f1128a0028e []) s (execPfwRise dt s) := by
  unfold execPfwRise
  extract_lets +onlyGivenNames -merge -underBinder x1
  have hx1 : Within 0x10110085f1128a0028e [] s x1 := by
    unfold x1
    exact (Within.mono (State.elapse_within ..) rfl)
  extract_lets +onlyGivenNames -merge -underBinder x2
  refine Ends.next ?_
  refine Within.trans ?_ (Within.mono (State.streamsResume_within ..) rfl)
  refine Within.trans ?_ (Within.mono (State.manualResume_within ..) rfl)
  refine Within.trans ?_ (Within.mono (State.countersResume_within ..) rfl)
  refine Within.trans ?_ (Within.mono (State.clearResume_within ..) rfl)
  refine Within.trans ?_ (Within.mono (State.flushSlots_within ..) rfl)
  refine Within.trans ?_ (Within.mono (State.flushSettings_within ..) rfl)
  try clear_value x1
  refine Within.upd ?_ rfl rfl (.inr rfl) (.inr rfl) (.inr rfl) (.inl rfl) (.inr rfl) (.inr rfl) (.inr rfl) (.inr
      rfl) (.inr rfl) (.inr rfl) (.inr rfl) (.inr rfl) (.inr rfl) (.inr rfl) (.inr rfl) (.inr rfl) (.inr rfl) (.inr
          rfl) (.inr rfl) (.inr rfl) (.inr rfl) (.inr rfl) (.inr rfl) (.inr rfl) (.inr rfl) (.inr rfl) (.inr rfl)
              (.inr rfl) (.inr rfl) (.inr rfl) (.inr rfl) (.inr rfl) (.inr rfl) (.inr rfl) (.inr rfl) (.inr rfl)
                  (.inr rfl) (.inr rfl) (.inr rfl) (.inr rfl) (.inr rfl) (.inr rfl) (.inr rfl) (.inr rfl) (.inr rfl)
                      (.inr rfl) (.inr rfl)
  exact hx1

end Sys2Proof.Machine
end

