-- ==== Sys2Proof/Laws/FrameRings.lean ====
section
/-! SUPPORT. What each operation of Machine/Rings.lean may change (Laws/Within.lean). -/

namespace Sys2Proof.Machine

open Sys2Proof

theorem State.ringFetch_within (s : State) (n : Nat) (a1 : Nat) (a2 : List (Option Desc)) :
    Within 0xc0000000000a0 [] s (State.ringFetch s n a1 a2) := by
  unfold State.ringFetch
  split
  · exact Within.refl _
  · split
    · refine Within.ite ?_ ?_
      · exact (Within.mono (State.ringStop_within ..) rfl)
      · refine Within.trans ?_ (Within.mono (State.ringFetch_within ..) rfl)
        exact (Within.mono (State.setRing_within ..) rfl)
    · exact (Within.mono (State.ringStop_within ..) rfl)

theorem State.ringKick_within (s : State) (n : Nat) :
    Within 0x1800000c0006200002a0 [] s (State.ringKick s n) := by
  unfold State.ringKick
  refine Within.ite ?_ ?_
  · exact (Within.mono (State.canCheckAll_within ..) rfl)
  · refine Within.ite ?_ ?_
    · exact (Within.mono (State.canDeliverAll_within ..) rfl)
    · refine Within.ite ?_ ?_
      · exact (Within.mono (State.ethCheckAll_within ..) rfl)
      · refine Within.ite ?_ ?_
        · exact (Within.mono (State.ethDeliverAll_within ..) rfl)
        · refine Within.ite ?_ ?_
          · exact (Within.mono (State.servicePump_within ..) rfl)
          · exact Within.refl _

theorem State.doorbell_within (s : State) (n : Nat) (hidx : Nat) (descs : List (Option Desc)) :
    Within 0x1800000c0006200002a0 [] s (State.doorbell s n hidx descs) := by
  unfold State.doorbell
  extract_lets +onlyGivenNames -merge -underBinder x1
  refine Within.ite ?_ ?_
  · exact Within.refl _
  · extract_lets +onlyGivenNames -merge -underBinder x2
    have hx2 : Within 0x1800000c0006200002a0 [] s x2 := by
      unfold x2
      exact (Within.kind (State.wrn_within ..) rfl .rng rfl rfl)
    refine Within.ite ?_ ?_
    · exact hx2
    · extract_lets +onlyGivenNames -merge -underBinder x3
      have hx3 : Within 0x1800000c0006200002a0 [] s x3 := by
        unfold x3
        refine Within.trans ?_ (Within.mono (State.setRing_within ..) rfl)
        exact hx2
      extract_lets +onlyGivenNames -merge -underBinder x4
      refine Within.ite ?_ ?_
      · refine Within.trans ?_ (Within.mono (State.ringStop_within ..) rfl)
        exact hx3
      · extract_lets +onlyGivenNames -merge -underBinder x5 x6
        have hx6 : Within 0x1800000c0006200002a0 [] s x6 := by
          unfold x6
          refine Within.trans ?_ (Within.mono (State.setRing_within ..) rfl)
          exact hx3
        extract_lets +onlyGivenNames -merge -underBinder x7
        have hx7 : Within 0x1800000c0006200002a0 [] s x7 := by
          unfold x7
          refine Within.trans ?_ (Within.mono (State.ringFetch_within ..) rfl)
          exact hx6
        extract_lets +onlyGivenNames -merge -underBinder x8
        have hx8 : Within 0x1800000c0006200002a0 [] s x8 := by
          unfold x8
          refine Within.trans ?_ (Within.mono (State.ringAlign_within ..) rfl)
          exact hx7
        extract_lets +onlyGivenNames -merge -underBinder x9
        have hx9 : Within 0x1800000c0006200002a0 [] s x9 := by
          unfold x9
          refine Within.ite ?_ ?_
          · refine Within.trans ?_ (Within.kind (State.wrb_within ..) rfl .rng rfl rfl)
            exact hx8
          · exact hx8
        refine Within.trans ?_ (Within.mono (State.ringKick_within ..) rfl)
        exact hx9

theorem execRingDoorbell_within (dt : Nat) (ring : Fin 128) (hidx : Word) (descs : List (Option Desc)) (s : State) :
    Ends (Within 0x1800000c0006200002ae []) s (execRingDoorbell dt ring hidx descs s) := by
  unfold execRingDoorbell
  refine Ends.next ?_
  refine Within.hostDo ?_ (fun t1 h2 => ?_)
  · exact (Within.mono (State.elapse_within ..) rfl)
  · refine Within.trans ?_ (Within.mono (State.doorbell_within ..) rfl)
    exact h2

theorem State.ringRestart_within (s : State) (n : Nat) :
    Within 0x4000210000020 [] s (State.ringRestart s n) := by
  unfold State.ringRestart
  extract_lets +onlyGivenNames -merge -underBinder x1
  refine Within.ite ?_ ?_
  · exact Within.refl _
  · extract_lets +onlyGivenNames -merge -underBinder x2
    have hx2 : Within 0x4000210000020 [] s x2 := by
      unfold x2
      exact (Within.mono (State.setRing_within ..) rfl)
    extract_lets +onlyGivenNames -merge -underBinder x3
    have hx3 : Within 0x4000210000020 [] s x3 := by
      unfold x3
      refine Within.trans ?_ (Within.kind (State.wrn_within ..) rfl .rng rfl rfl)
      exact hx2
    extract_lets +onlyGivenNames -merge -underBinder x4
    have hx4 : Within 0x4000210000020 [] s x4 := by
      unfold x4
      refine Within.trans ?_ (Within.kind (State.wrb_within ..) rfl .rng rfl rfl)
      exact hx3
    extract_lets +onlyGivenNames -merge -underBinder x5
    extract_lets +onlyGivenNames -merge -underBinder x6
    have hx6 : Within 0x4000210000020 [] s x6 := by
      unfold x6
      refine Within.upd ?_ rfl rfl (.inr rfl) (.inr rfl) (.inr rfl) (.inr rfl) (.inr rfl) (.inr rfl) (.inr rfl) (.inr
          rfl) (.inr rfl) (.inr rfl) (.inr rfl) (.inr rfl) (.inr rfl) (.inr rfl) (.inr rfl) (.inr rfl) (.inr rfl)
              (.inr rfl) (.inr rfl) (.inr rfl) (.inr rfl) (.inr rfl) (.inr rfl) (.inr rfl) (.inr rfl) (.inr rfl)
                  (.inr rfl) (.inr rfl) (.inl rfl) (.inr rfl) (.inr rfl) (.inr rfl) (.inr rfl) (.inr rfl) (.inr rfl)
                      (.inr rfl) (.inr rfl) (.inr rfl) (.inr rfl) (.inr rfl) (.inr rfl) (.inr rfl) (.inr rfl) (.inr
                          rfl) (.inr rfl) (.inr rfl) (.inr rfl)
      exact hx4
    refine Within.ite ?_ ?_
    · refine Within.trans ?_ (Within.mono (State.modCan_within ..) rfl)
      exact hx6
    · exact hx6

theorem execRingRestart_within (dt : Nat) (ring : Fin 128) (s : State) :
    Ends (Within 0x400021000002e []) s (execRingRestart dt ring s) := by
  unfold execRingRestart
  refine Ends.next ?_
  refine Within.hostDo ?_ (fun t1 h2 => ?_)
  · exact (Within.mono (State.elapse_within ..) rfl)
  · refine Within.trans ?_ (Within.mono (State.ringRestart_within ..) rfl)
    exact h2

theorem execRingDrainTimeout_within (dt : Nat) (ring : Fin 128) (s : State) :
    Ends (Within 0xc00000000008e []) s (execRingDrainTimeout dt ring s) := by
  unfold execRingDrainTimeout
  extract_lets +onlyGivenNames -merge -underBinder x1
  have hx1 : Within 0xc00000000008e [] s x1 := by
    unfold x1
    exact (Within.mono (State.elapse_within ..) rfl)
  extract_lets +onlyGivenNames -merge -underBinder x2
  extract_lets +onlyGivenNames -merge -underBinder x3
  refine Ends.ite ?_ ?_
  · refine Ends.next ?_
    refine Within.trans ?_ (Within.kind (State.flag_within ..) rfl .rng rfl rfl)
    refine Within.trans ?_ (Within.kind (State.wrb_within ..) rfl .rng rfl rfl)
    exact hx1
  · refine Ends.next ?_
    exact hx1

end Sys2Proof.Machine
end

