-- ==== Sys2Proof/Laws/FramePages.lean ====
section
/-! SUPPORT. What each operation of Machine/Pages.lean may change (Laws/Within.lean). -/

namespace Sys2Proof.Machine

open Sys2Proof

theorem State.regRead_within (s : State) (p : Page) (o : Nat) :
    Within 0x8000a00000180 [] s (State.regRead s p o).2 := by
  unfold State.regRead
  split
  · refine Within.pair ?_
    exact Within.refl _
  · split
    · split
      · exact (Within.mono (State.irqClaim_within ..) rfl)
      · refine Within.pair ?_
        exact Within.refl _
    · split
      · split
        rename_i y1 y2 e3
        have hy2 : Within 0x8000a00000180 [] s y2 := by
          refine Within.snd e3 ?_
          exact (Within.mono (State.draw_within ..) rfl)
        refine Within.pair ?_
        refine Within.trans ?_ (Within.mono (State.mtLatch_within ..) rfl)
        exact hy2
      · refine Within.pair ?_
        exact Within.refl _
    · split
      · refine Within.pair ?_
        exact (Within.mono (State.rxwTouch_within ..) rfl)
      · refine Within.pair ?_
        exact Within.refl _
    · refine Within.pair ?_
      exact Within.refl _

theorem State.configWrite_within (s : State) (p : Page) (o : Nat) (v : Word) :
    Within 0x6325809000381e00280 [p] s (State.configWrite s p o v) := by
  unfold State.configWrite
  refine Within.ite ?_ ?_
  · exact (Within.page (State.ignoredWrite_within ..) rfl)
  · extract_lets +onlyGivenNames -merge -underBinder x1
    have hx1 : Within 0x6325809000381e00280 [p] s x1 := by
      unfold x1
      refine Within.ite ?_ ?_
      · exact (Within.mono (State.disarm_within ..) rfl)
      · exact Within.refl _
    extract_lets +onlyGivenNames -merge -underBinder x2
    have hx2 : Within 0x6325809000381e00280 [p] s x2 := by
      unfold x2
      refine Within.trans ?_ (Within.page (State.wr_within ..) rfl)
      exact hx1
    split
    · refine Within.ite ?_ ?_
      · refine Within.trans ?_ (Within.mono (State.fltCommit_within ..) rfl)
        exact hx2
      · exact hx2
    · refine Within.trans ?_ (Within.mono (State.invalidShow_within ..) rfl)
      exact hx2
    · refine Within.ite ?_ ?_
      · refine Within.trans ?_ (Within.mono (State.absentClear_within ..) rfl)
        exact hx2
      · exact hx2
    · exact hx2

theorem State.flagsClear_within (s : State) (p : Page) (mask : Word) :
    Within 0xc000000000080 [p] s (State.flagsClear s p mask) := by
  unfold State.flagsClear
  extract_lets +onlyGivenNames -merge -underBinder x1
  have hx1 : Within 0xc000000000080 [p] s x1 := by
    unfold x1
    exact (Within.page (State.wr_within ..) rfl)
  extract_lets +onlyGivenNames -merge -underBinder x2
  have hx2 : Within 0xc000000000080 [p] s x2 := by
    unfold x2
    refine Within.ite ?_ ?_
    · refine Within.trans ?_ (Within.page (State.wrn_within ..) rfl)
      exact hx1
    · exact hx1
  extract_lets +onlyGivenNames -merge -underBinder x3
  have hx3 : Within 0xc000000000080 [p] s x3 := by
    unfold x3
    refine Within.ite ?_ ?_
    · refine Within.trans ?_ (Within.kind (State.wrb_within ..) rfl .rng rfl rfl)
      exact hx2
    · exact hx2
  refine Within.trans ?_ (Within.mono (State.pageLine_within ..) rfl)
  exact hx3

theorem Within.onBit {K : Nat} {ps : List Page} {r s : State} {v : Word} {n : Nat} {f : State → State}
    (h : Within K ps r s) (k : ∀ t, Within K ps r t → Within K ps r (f t)) : Within K ps r (s.onBit v n f) := by
  unfold State.onBit; split
  · exact k s h
  · exact h

theorem State.freeDesc_within (s : State) :
    Within 0x100 [] s (State.freeDesc s).2 := by
  unfold State.freeDesc
  extract_lets +onlyGivenNames -merge -underBinder x1
  extract_lets +onlyGivenNames -merge -underBinder x2
  extract_lets +onlyGivenNames -merge -underBinder x3
  extract_lets +onlyGivenNames -merge -underBinder x4
  extract_lets +onlyGivenNames -merge -underBinder x5
  refine Within.pair ?_
  refine Within.upd ?_ rfl rfl (.inr rfl) (.inr rfl) (.inr rfl) (.inr rfl) (.inr rfl) (.inr rfl) (.inr rfl) (.inr
      rfl) (.inl rfl) (.inr rfl) (.inr rfl) (.inr rfl) (.inr rfl) (.inr rfl) (.inr rfl) (.inr rfl) (.inr rfl) (.inr
          rfl) (.inr rfl) (.inr rfl) (.inr rfl) (.inr rfl) (.inr rfl) (.inr rfl) (.inr rfl) (.inr rfl) (.inr rfl)
              (.inr rfl) (.inr rfl) (.inr rfl) (.inr rfl) (.inr rfl) (.inr rfl) (.inr rfl) (.inr rfl) (.inr rfl)
                  (.inr rfl) (.inr rfl) (.inr rfl) (.inr rfl) (.inr rfl) (.inr rfl) (.inr rfl) (.inr rfl) (.inr rfl)
                      (.inr rfl) (.inr rfl)
  exact Within.refl _

theorem State.freeDescs_within (s : State) (a1 : Nat) :
    Within 0x100 [] s (State.freeDescs s a1).2 := by
  unfold State.freeDescs
  split
  · refine Within.pair ?_
    exact Within.refl _
  · split
    rename_i y1 y2 e3
    have hy2 : Within 0x100 [] s y2 := by
      refine Within.snd e3 ?_
      exact (Within.mono (State.freeDesc_within ..) rfl)
    split
    rename_i y4 y5 e6
    have hy5 : Within 0x100 [] s y5 := by
      refine Within.snd e6 ?_
      refine Within.trans ?_ (Within.mono (State.freeDescs_within ..) rfl)
      exact hy2
    refine Within.pair ?_
    exact hy5

theorem State.blindDoorbell_within (s : State) (n : Nat) (hidx : Nat) :
    Within 0x1800000c0006200003a0 [] s (State.blindDoorbell s n hidx) := by
  unfold State.blindDoorbell
  extract_lets +onlyGivenNames -merge -underBinder x1
  extract_lets +onlyGivenNames -merge -underBinder x2
  split
  rename_i y3 y4 e5
  have hy4 : Within 0x1800000c0006200003a0 [] s y4 := by
    refine Within.snd e5 ?_
    exact (Within.mono (State.freeDescs_within ..) rfl)
  refine Within.trans ?_ (Within.mono (State.doorbell_within ..) rfl)
  exact hy4

theorem State.mboxSubmit_within (s : State) (len : Nat) :
    Within 0x101028080138000280 [] s (State.mboxSubmit s len) := by
  unfold State.mboxSubmit
  extract_lets +onlyGivenNames -merge -underBinder x1
  exact (Within.mono (State.command_within ..) rfl)

theorem State.snsCmd_within (s : State) (n : Fin 16) (v : Word) :
    Within 0x1000 [] s (State.snsCmd s n v) := by
  unfold State.snsCmd
  refine Within.onBit ?_ (fun t1 h2 => ?_)
  · refine Within.onBit ?_ (fun t3 h4 => ?_)
    · exact Within.refl _
    · refine Within.trans ?_ (Within.mono (State.reenum_within ..) rfl)
      exact h4
  · refine Within.trans ?_ (Within.mono (State.wantAll_within ..) rfl)
    exact h2

theorem State.wayCmd_within (s : State) (v : Word) :
    Within 0x2080c0000800002a0 [] s (State.wayCmd s v) := by
  unfold State.wayCmd
  extract_lets +onlyGivenNames -merge -underBinder x1
  have hx1 : Within 0x2080c0000800002a0 [] s x1 := by
    unfold x1
    refine Within.onBit ?_ (fun t2 h3 => ?_)
    · exact Within.refl _
    · refine Within.trans ?_ (Within.mono (State.trigger_within ..) rfl)
      exact h3
  extract_lets +onlyGivenNames -merge -underBinder x4
  have hx4 : Within 0x2080c0000800002a0 [] s x4 := by
    unfold x4
    refine Within.onBit ?_ (fun t5 h6 => ?_)
    · exact hx1
    · refine Within.trans ?_ (Within.mono (State.releaseSegment_within ..) rfl)
      exact h6
  extract_lets +onlyGivenNames -merge -underBinder x7
  have hx7 : Within 0x2080c0000800002a0 [] s x7 := by
    unfold x7
    refine Within.onBit ?_ (fun t8 h9 => ?_)
    · exact hx4
    · refine Within.trans ?_ (Within.mono (State.exportSegment_within ..) rfl)
      exact h9
  refine Within.onBit ?_ (fun t10 h11 => ?_)
  · exact hx7
  · refine Within.trans ?_ (Within.mono (State.abortSegment_within ..) rfl)
    exact h11

theorem State.canCmd_within (s : State) (c : Nat) (v : Word) :
    Within 0xc0002000002a0 [] s (State.canCmd s c v) := by
  unfold State.canCmd
  extract_lets +onlyGivenNames -merge -underBinder x1
  have hx1 : Within 0xc0002000002a0 [] s x1 := by
    unfold x1
    refine Within.onBit ?_ (fun t2 h3 => ?_)
    · exact Within.refl _
    · refine Within.trans ?_ (Within.mono (State.canCancel_within ..) rfl)
      exact h3
  extract_lets +onlyGivenNames -merge -underBinder x4
  have hx4 : Within 0xc0002000002a0 [] s x4 := by
    unfold x4
    refine Within.onBit ?_ (fun t5 h6 => ?_)
    · exact hx1
    · refine Within.trans ?_ (Within.mono (State.canCancel_within ..) rfl)
      exact h6
  extract_lets +onlyGivenNames -merge -underBinder x7
  have hx7 : Within 0xc0002000002a0 [] s x7 := by
    unfold x7
    refine Within.onBit ?_ (fun t8 h9 => ?_)
    · exact hx4
    · refine Within.trans ?_ (Within.mono (State.canRelease_within ..) rfl)
      exact h9
  refine Within.onBit ?_ (fun t10 h11 => ?_)
  · exact hx7
  · refine Within.trans ?_ (Within.mono (State.canRecover_within ..) rfl)
    exact h11

theorem State.fwuCmd_within (s : State) (v : Word) :
    Within 0x1fffffffd4fffffffeff [] s (State.fwuCmd s v) := by
  unfold State.fwuCmd
  extract_lets +onlyGivenNames -merge -underBinder x1
  have hx1 : Within 0x1fffffffd4fffffffeff [] s x1 := by
    unfold x1
    refine Within.onBit ?_ (fun t2 h3 => ?_)
    · exact Within.refl _
    · refine Within.trans ?_ (Within.mono (State.openUpload_within ..) rfl)
      exact h3
  extract_lets +onlyGivenNames -merge -underBinder x4
  have hx4 : Within 0x1fffffffd4fffffffeff [] s x4 := by
    unfold x4
    refine Within.onBit ?_ (fun t5 h6 => ?_)
    · exact hx1
    · refine Within.trans ?_ (Within.mono (State.closeUpload_within ..) rfl)
      exact h6
  extract_lets +onlyGivenNames -merge -underBinder x7
  have hx7 : Within 0x1fffffffd4fffffffeff [] s x7 := by
    unfold x7
    refine Within.onBit ?_ (fun t8 h9 => ?_)
    · exact hx4
    · refine Within.trans ?_ (Within.mono (State.abortUpload_within ..) rfl)
      exact h9
  refine Within.onBit ?_ (fun t10 h11 => ?_)
  · exact hx7
  · refine Within.trans ?_ (Within.mono (State.retryBoot_within ..) rfl)
    exact h11

theorem State.tdmCmd_within (s : State) (v : Word) :
    Within 0x20c0000200002a0 [] s (State.tdmCmd s v) := by
  unfold State.tdmCmd
  refine Within.onBit ?_ (fun t1 h2 => ?_)
  · refine Within.onBit ?_ (fun t3 h4 => ?_)
    · exact Within.refl _
    · refine Within.trans ?_ (Within.mono (State.repairAll_within ..) rfl)
      exact h4
  · refine Within.trans ?_ (Within.mono (State.healthNow_within ..) rfl)
    exact h2

theorem State.balCmd_within (s : State) (v : Word) :
    Within 0x40000000000080000 [] s (State.balCmd s v) := by
  unfold State.balCmd
  refine Within.onBit ?_ (fun t1 h2 => ?_)
  · refine Within.onBit ?_ (fun t3 h4 => ?_)
    · exact Within.refl _
    · refine Within.trans ?_ (Within.mono (State.unblock_within ..) rfl)
      exact h4
  · refine Within.trans ?_ (Within.mono (State.unblock_within ..) rfl)
    exact h2

theorem State.cthCmd_within (s : State) (v : Word) :
    Within 0x1008000100100080 [] s (State.cthCmd s v) := by
  unfold State.cthCmd
  exact (Within.mono (State.sensorRestore_within ..) rfl)

theorem State.cursorCmd_within (s : State) (v : Word) :
    Within 0x100000000 [] s (State.cursorCmd s v) := by
  unfold State.cursorCmd
  refine Within.ite ?_ ?_
  · exact (Within.mono (State.cursorStart_within ..) rfl)
  · refine Within.ite ?_ ?_
    · exact (Within.mono (State.cursorStart_within ..) rfl)
    · exact Within.refl _

theorem State.authRun_within (s : State) (o : Nat) (v : Word) :
    Within 0x101028080138000280 [] s (State.authRun s o v) := by
  unfold State.authRun
  refine Within.ite ?_ ?_
  · exact (Within.mono (State.mboxSubmit_within ..) rfl)
  · refine Within.ite ?_ ?_
    · exact (Within.kind (State.inc_within ..) rfl .auth rfl rfl)
    · exact (Within.kind (State.wr_within ..) rfl .auth rfl rfl)

theorem State.runWrite_within (s : State) (p : Page) (o : Nat) (v : Word) :
    Within 0x1fffffffdcffffffffff [p] s (State.runWrite s p o v) := by
  unfold State.runWrite
  split
  · exact (Within.mono (State.hostReset_within ..) rfl)
  · refine Within.ite ?_ ?_
    · exact (Within.mono (State.ringRestart_within ..) rfl)
    · exact (Within.mono (State.blindDoorbell_within ..) rfl)
  · refine Within.ite ?_ ?_
    · exact (Within.mono (State.irqConfig_within ..) rfl)
    · refine Within.ite ?_ ?_
      · exact (Within.mono (State.irqComplete_within ..) rfl)
      · exact (Within.mono (State.irqPark_within ..) rfl)
  · exact (Within.mono (State.authRun_within ..) rfl)
  · refine Within.ite ?_ ?_
    · exact (Within.mono (State.fwuCmd_within ..) rfl)
    · refine Within.ite ?_ ?_
      · exact (Within.mono (State.windowChunk_within ..) rfl)
      · exact (Within.page (State.wr_within ..) rfl)
  · exact (Within.mono (State.nselLatch_within ..) rfl)
  · exact (Within.mono (State.tdmCmd_within ..) rfl)
  · refine Within.ite ?_ ?_
    · exact (Within.mono (State.wayCmd_within ..) rfl)
    · exact (Within.page (State.wr_within ..) rfl)
  · refine Within.ite ?_ ?_
    · exact (Within.mono (State.cursorCmd_within ..) rfl)
    · exact (Within.page (State.wr_within ..) rfl)
  · exact (Within.mono (State.snsCmd_within ..) rfl)
  · refine Within.ite ?_ ?_
    · exact (Within.mono (State.balCmd_within ..) rfl)
    · exact (Within.mono (State.zselLatch_within ..) rfl)
  · refine Within.ite ?_ ?_
    · exact (Within.mono (State.cthCmd_within ..) rfl)
    · refine Within.ite ?_ ?_
      · exact (Within.mono (State.mselLatch_within ..) rfl)
      · exact (Within.mono (State.hostEvent_within ..) rfl)
  · exact (Within.mono (State.hostEvent_within ..) rfl)
  · exact (Within.mono (State.hostEvent_within ..) rfl)
  · exact (Within.mono (State.hostEvent_within ..) rfl)
  · exact (Within.mono (State.hostEvent_within ..) rfl)
  · refine Within.ite ?_ ?_
    · exact (Within.mono (State.canCmd_within ..) rfl)
    · exact (Within.page (State.wr_within ..) rfl)
  · exact (Within.page (State.wr_within ..) rfl)

theorem State.hostWrite_within (s : State) (p : Page) (o : Nat) (v : Word) :
    Within 0x1fffffffdcffffffffff [p] s (State.hostWrite s p o v) := by
  unfold State.hostWrite
  refine Within.ite ?_ ?_
  · refine Within.ite ?_ ?_
    · exact (Within.mono (State.hostReset_within ..) rfl)
    · refine Within.ite ?_ ?_
      · exact (Within.mono (State.cursorCmd_within ..) rfl)
      · refine Within.ite ?_ ?_
        · exact (Within.page (State.wr_within ..) rfl)
        · exact Within.refl _
  · split
    · exact Within.refl _
    · refine Within.ite ?_ ?_
      · exact (Within.page (State.ctrlWrite_within ..) rfl)
      · refine Within.ite ?_ ?_
        · exact (Within.page (State.flagsClear_within ..) rfl)
        · refine Within.ite ?_ ?_
          · refine Within.trans ?_ (Within.mono (State.pageLine_within ..) rfl)
            exact (Within.page (State.wr_within ..) rfl)
          · refine Within.ite ?_ ?_
            · exact (Within.page (State.configWrite_within ..) rfl)
            · refine Within.ite ?_ ?_
              · exact (Within.page (State.wr_within ..) rfl)
              · refine Within.ite ?_ ?_
                · exact (Within.page (State.runWrite_within ..) rfl)
                · exact Within.refl _

theorem execConfigWrite_within (dt : Nat) (page : Page) (off : Nat) (value : Word) (s : State) :
    Ends (Within 0x1fffffffdcffffffffff [page]) s (execConfigWrite dt page off value s) := by
  unfold execConfigWrite
  refine Ends.next ?_
  refine Within.trans ?_ (Within.page (State.hostWrite_within ..) rfl)
  exact (Within.mono (State.elapse_within ..) rfl)

theorem execFlagsClear_within (dt : Nat) (page : Page) (off : Nat) (mask : Word) (s : State) :
    Ends (Within 0x1fffffffdcffffffffff [page]) s (execFlagsClear dt page off mask s) := by
  unfold execFlagsClear
  refine Ends.next ?_
  refine Within.trans ?_ (Within.page (State.hostWrite_within ..) rfl)
  exact (Within.mono (State.elapse_within ..) rfl)

theorem execRegisterWrite_within (dt : Nat) (page : Page) (off : Nat) (value : Word) (s : State) :
    Ends (Within 0x1fffffffdcffffffffff [page]) s (execRegisterWrite dt page off value s) := by
  unfold execRegisterWrite
  refine Ends.next ?_
  refine Within.trans ?_ (Within.page (State.hostWrite_within ..) rfl)
  exact (Within.mono (State.elapse_within ..) rfl)

theorem State.scrubPage_within (s : State) (p : Page) :
    Within 0x0 [p] s (State.scrubPage s p).2 := by
  unfold State.scrubPage
  split
  · refine Within.pair ?_
    exact Within.refl _
  · extract_lets +onlyGivenNames -merge -underBinder x1
    extract_lets +onlyGivenNames -merge -underBinder x2
    refine Within.pair ?_
    exact (Within.page (State.wrn_within ..) rfl)

theorem State.scrub_within (s : State) :
    Within 0x1fffffffd4fffffffeff [] s (State.scrub s) := by
  unfold State.scrub
  split
  rename_i y1 y2 e3
  have hy2 : Within 0x1fffffffd4fffffffeff [] s y2 := by
    refine Within.snd e3 ?_
    refine Within.foldlSnd ?_ (fun t4 a5 h6 => ?_)
    · refine Within.pair ?_
      exact Within.refl _
    · split
      rename_i y7 y8 e9
      have hy8 : Within 0x1fffffffd4fffffffeff [] s y8 := by
        refine Within.snd e9 ?_
        refine Within.trans ?_ (Within.any (State.scrubPage_within ..) rfl rfl)
        exact h6
      refine Within.pair ?_
      exact hy8
  extract_lets +onlyGivenNames -merge -underBinder x10
  extract_lets +onlyGivenNames -merge -underBinder x11
  have hx11 : Within 0x1fffffffd4fffffffeff [] s x11 := by
    unfold x11
    refine Within.trans ?_ (Within.kind (State.inc_within ..) rfl .cfgx rfl rfl)
    refine Within.trans ?_ (Within.kind (State.wrn_within ..) rfl .cfgx rfl rfl)
    exact hy2
  extract_lets +onlyGivenNames -merge -underBinder x12
  extract_lets +onlyGivenNames -merge -underBinder x13
  refine Within.ite ?_ ?_
  · refine Within.trans ?_ (Within.mono (State.outCause_within ..) rfl)
    exact hx11
  · exact hx11

theorem execScrubPass_within (dt : Nat) (s : State) :
    Ends (Within 0x1fffffffd4fffffffeff []) s (execScrubPass dt s) := by
  unfold execScrubPass
  extract_lets +onlyGivenNames -merge -underBinder x1
  have hx1 : Within 0x1fffffffd4fffffffeff [] s x1 := by
    unfold x1
    exact (Within.mono (State.elapse_within ..) rfl)
  refine Ends.ite ?_ ?_
  · refine Ends.next ?_
    refine Within.trans ?_ (Within.mono (State.scrub_within ..) rfl)
    exact hx1
  · refine Ends.next ?_
    exact hx1

end Sys2Proof.Machine
end

