-- ==== Sys2Proof/Laws/FrameHostPort.lean ====
section
/-! SUPPORT. What each operation of Machine/HostPort.lean may change (Laws/Within.lean). -/

namespace Sys2Proof.Machine

open Sys2Proof

theorem State.reject_within (s : State) (bar2 : Bool) (off : Nat) :
    Within 0x2000000000000 [] s (State.reject s bar2 off) := by
  unfold State.reject
  extract_lets +onlyGivenNames -merge -underBinder x1
  have hx1 : Within 0x2000000000000 [] s x1 := by
    unfold x1
    refine Within.ite ?_ ?_
    · exact (Within.kind (State.wrn_within ..) rfl .host rfl rfl)
    · exact Within.refl _
  refine Within.trans ?_ (Within.kind (State.incf_within ..) rfl .host rfl rfl)
  exact hx1

theorem execBarAccessRejected_within (dt : Nat) (bar2 : Bool) (off : Nat) (write : Bool) (s : State) :
    Ends (Within 0x200000000020e []) s (execBarAccessRejected dt bar2 off write s) := by
  unfold execBarAccessRejected
  extract_lets +onlyGivenNames -merge -underBinder x1
  have hx1 : Within 0x200000000020e [] s x1 := by
    unfold x1
    exact (Within.mono (State.elapse_within ..) rfl)
  refine Ends.ite ?_ ?_
  · extract_lets +onlyGivenNames -merge -underBinder x2
    have hx2 : Within 0x200000000020e [] s x2 := by
      unfold x2
      refine Within.trans ?_ (Within.mono (State.reject_within ..) rfl)
      exact hx1
    refine Ends.next ?_
    refine Within.ite ?_ ?_
    · exact hx2
    · refine Within.trans ?_ (Within.mono (State.answerRead_within ..) rfl)
      exact hx2
  · refine Ends.next ?_
    exact hx1

theorem State.msixWrite_within (s : State) (o : Nat) (v : Word) :
    Within 0x240 [] s (State.msixWrite s o v) := by
  unfold State.msixWrite
  extract_lets +onlyGivenNames -merge -underBinder x1
  extract_lets +onlyGivenNames -merge -underBinder x2
  extract_lets +onlyGivenNames -merge -underBinder x3
  have hx3 : Within 0x240 [] s x3 := by
    unfold x3
    refine Within.upd ?_ rfl rfl (.inr rfl) (.inr rfl) (.inr rfl) (.inr rfl) (.inr rfl) (.inr rfl) (.inl rfl) (.inr
        rfl) (.inr rfl) (.inr rfl) (.inr rfl) (.inr rfl) (.inr rfl) (.inr rfl) (.inr rfl) (.inr rfl) (.inr rfl) (.inr
            rfl) (.inr rfl) (.inr rfl) (.inr rfl) (.inr rfl) (.inr rfl) (.inr rfl) (.inr rfl) (.inr rfl) (.inr rfl)
                (.inr rfl) (.inr rfl) (.inr rfl) (.inr rfl) (.inr rfl) (.inr rfl) (.inr rfl) (.inr rfl) (.inr rfl)
                    (.inr rfl) (.inr rfl) (.inr rfl) (.inr rfl) (.inr rfl) (.inr rfl) (.inr rfl) (.inr rfl) (.inr
                        rfl) (.inr rfl) (.inr rfl)
    exact Within.refl _
  refine Within.foldl ?_ (fun t4 a5 h6 => ?_)
  · exact hx3
  · refine Within.trans ?_ (Within.mono (State.msixSend_within ..) rfl)
    exact h6

theorem State.bar0Read_within (s : State) (o : Nat) :
    Within 0xa000a00000180 [] s (State.bar0Read s o).2 := by
  unfold State.bar0Read
  split
  · refine Within.pair ?_
    exact (Within.mono (State.reject_within ..) rfl)
  · split
    · exact (Within.mono (State.regRead_within ..) rfl)
    · split
      · refine Within.pair ?_
        exact Within.refl _
      · split
        · refine Within.pair ?_
          exact Within.refl _
        · refine Within.pair ?_
          exact (Within.mono (State.reject_within ..) rfl)

theorem State.bar0Write_within (s : State) (o : Nat) (v : Word) :
    Within 0x1fffffffdcffffffffff [] s (State.bar0Write s o v) := by
  unfold State.bar0Write
  refine Within.ite ?_ ?_
  · exact (Within.mono (State.reject_within ..) rfl)
  · split
    · exact (Within.any (State.hostWrite_within ..) rfl rfl)
    · refine Within.ite ?_ ?_
      · refine Within.ite ?_ ?_
        · exact (Within.mono (State.msixWrite_within ..) rfl)
        · exact Within.refl _
      · refine Within.ite ?_ ?_
        · exact Within.refl _
        · exact (Within.mono (State.reject_within ..) rfl)

theorem State.bar2Read_within (s : State) (o : Nat) :
    Within 0x2000000000000 [] s (State.bar2Read s o).2 := by
  unfold State.bar2Read
  split
  · refine Within.pair ?_
    exact Within.refl _
  · refine Within.pair ?_
    exact (Within.mono (State.reject_within ..) rfl)

theorem State.bar2Write_within (s : State) (o : Nat) (v : Word) :
    Within 0x11000a000000020080 [] s (State.bar2Write s o v) := by
  unfold State.bar2Write
  refine Within.ite ?_ ?_
  · exact (Within.mono (State.reject_within ..) rfl)
  · refine Within.ite ?_ ?_
    · refine Within.hostDo ?_ (fun t1 h2 => ?_)
      · exact Within.refl _
      · refine Within.trans ?_ (Within.kind (State.inc_within ..) rfl .prot rfl rfl)
        exact h2
    · refine Within.ite ?_ ?_
      · refine Within.hostDo ?_ (fun t3 h4 => ?_)
        · exact Within.refl _
        · refine Within.trans ?_ (Within.mono (State.paramWrite_within ..) rfl)
          exact h4
      · exact Within.refl _

theorem State.spiWords_within (s : State) (addr : Nat) (b : List Byte) (k : Nat) :
    Within 0x1fffffffdcffffffffff [] s (s.spiWords addr b k).2 := by
  induction k generalizing s addr b with
  | zero => unfold State.spiWords; exact Within.refl s
  | succ k ih =>
    unfold State.spiWords
    extract_lets +onlyGivenNames v locked a
    have ha : Within 0x1fffffffdcffffffffff [] s a := Within.ite (Within.refl s) (Within.ite (Within.mono (State.bar2Write_within ..) rfl)
      (Within.mono (State.bar0Write_within ..) rfl))
    clear_value a
    exact ha.trans (ih ..)

theorem State.spiReads_within (s : State) (addr : Nat) (k : Nat) : Within 0xa000a00000180 [] s (s.spiReads addr k).2 := by
  induction k generalizing s addr with
  | zero => unfold State.spiReads; exact Within.refl s
  | succ k ih =>
    unfold State.spiReads
    have h : Within 0xa000a00000180 [] s (if 2 ^ 31 ≤ addr then s.bar2Read (addr % 2 ^ 28) else s.bar0Read (addr % 2 ^ 20)).2 := by
      split
      · exact Within.mono (State.bar2Read_within ..) rfl
      · exact Within.mono (State.bar0Read_within ..) rfl
    exact h.trans (ih ..)

theorem State.spiFraming_within (s : State) :
    Within 0x2000000000000 [] s (State.spiFraming s) := by
  unfold State.spiFraming
  exact (Within.kind (State.incf_within ..) rfl .host rfl rfl)

theorem State.spiCrcBad_within (s : State) :
    Within 0x2000000000000 [] s (State.spiCrcBad s) := by
  unfold State.spiCrcBad
  exact (Within.kind (State.incf_within ..) rfl .host rfl rfl)

theorem State.spiFrame_within (s : State) (b : List Byte) :
    Within 0x1fffffffdcffffffffff [] s (State.spiFrame s b).2.2 := by
  unfold State.spiFrame
  extract_lets +onlyGivenNames -merge -underBinder x1
  extract_lets +onlyGivenNames -merge -underBinder x2
  extract_lets +onlyGivenNames -merge -underBinder x3
  split
  · refine Within.pairIn ?_
    refine Within.pair ?_
    exact (Within.mono (State.spiFraming_within ..) rfl)
  · split
    · split
      rename_i y4 y5 e6
      have hy5 : Within 0x1fffffffdcffffffffff [] s y5 := by
        refine Within.snd e6 ?_
        exact (Within.mono (State.spiReads_within ..) rfl)
      refine Within.pairIn ?_
      refine Within.pair ?_
      exact hy5
    · split
      · refine Within.pairIn ?_
        refine Within.pair ?_
        exact (Within.mono (State.spiFraming_within ..) rfl)
      · split
        · refine Within.pairIn ?_
          refine Within.pair ?_
          exact (Within.mono (State.spiCrcBad_within ..) rfl)
        · split
          rename_i y7 y8 e9
          have hy8 : Within 0x1fffffffdcffffffffff [] s y8 := by
            refine Within.snd e9 ?_
            exact (Within.mono (State.spiWords_within ..) rfl)
          refine Within.pairIn ?_
          refine Within.pair ?_
          exact hy8

theorem execSpiWriteFrame_within (dt : Nat) (bytes : List Byte) (s : State) :
    Ends (Within 0x1fffffffdcffffffffff []) s (execSpiWriteFrame dt bytes s) := by
  unfold execSpiWriteFrame
  extract_lets +onlyGivenNames -merge -underBinder x1
  have hx1 : Within 0x1fffffffdcffffffffff [] s x1 := by
    unfold x1
    exact (Within.mono (State.elapse_within ..) rfl)
  refine Ends.ite ?_ ?_
  · split
    rename_i y2 y3 y4 e5
    have hy4 : Within 0x1fffffffdcffffffffff [] s y4 := by
      refine Within.thd e5 ?_
      refine Within.trans ?_ (Within.mono (State.spiFrame_within ..) rfl)
      exact hx1
    refine Ends.next ?_
    exact hy4
  · refine Ends.next ?_
    exact hx1

theorem execSpiReadFrame_within (dt : Nat) (bytes : List Byte) (s : State) :
    Ends (Within 0x1fffffffdcffffffffff []) s (execSpiReadFrame dt bytes s) := by
  unfold execSpiReadFrame
  extract_lets +onlyGivenNames -merge -underBinder x1
  have hx1 : Within 0x1fffffffdcffffffffff [] s x1 := by
    unfold x1
    exact (Within.mono (State.elapse_within ..) rfl)
  refine Ends.ite ?_ ?_
  · split
    rename_i y2 y3 y4 e5
    have hy4 : Within 0x1fffffffdcffffffffff [] s y4 := by
      refine Within.thd e5 ?_
      refine Within.trans ?_ (Within.mono (State.spiFrame_within ..) rfl)
      exact hx1
    refine Ends.next ?_
    refine Within.ite ?_ ?_
    · exact hy4
    · refine Within.trans ?_ (Within.mono (State.send_within ..) rfl)
      exact hy4
  · refine Ends.next ?_
    exact hx1

theorem execTandemService_within (dt : Nat) (f : TandemHead) (bytes : List Byte) (s : State) :
    Ends (Within 0x1fffffffdcffffffffff []) s (execTandemService dt f bytes s) := by
  unfold execTandemService
  split
  rename_i y1 y2 e3
  have hy2 : Within 0x1fffffffdcffffffffff [] s y2 := by
    refine Within.snd e3 ?_
    refine Within.trans ?_ (Within.mono (State.takeFrame_within ..) rfl)
    exact (Within.mono (State.elapse_within ..) rfl)
  extract_lets +onlyGivenNames -merge -underBinder x4
  refine Ends.ite ?_ ?_
  · refine Ends.next ?_
    exact hy2
  · refine Ends.ite ?_ ?_
    · split
      rename_i y5 y6 y7 e8
      have hy7 : Within 0x1fffffffdcffffffffff [] s y7 := by
        refine Within.thd e8 ?_
        refine Within.trans ?_ (Within.mono (State.spiFrame_within ..) rfl)
        exact hy2
      refine Ends.next ?_
      refine Within.trans ?_ (Within.mono (State.sendFrame_within ..) rfl)
      exact hy7
    · refine Ends.ite ?_ ?_
      · refine Ends.next ?_
        refine Within.trans ?_ (Within.mono (State.ringPush_within ..) rfl)
        exact hy2
      · refine Ends.next ?_
        exact hy2

theorem sget_filter {α : Type} (d : α) {f : Nat × α → Bool} {k : Nat} (h : ∀ v, f (k, v) = true) (l : List (Nat × α)) :
    sget d (l.filter f) k = sget d l k := by
  induction l with
  | nil => rfl
  | cons e l ih =>
    rw [List.filter_cons]
    split
    · rw [sget_cons, sget_cons, ih]
    · rename_i j
      rw [sget_cons, ih, if_neg]
      rintro rfl
      exact j (h e.2)

theorem State.erasePage_within (s : State) (p : Page) :
    Within 0x0 [p] s (State.erasePage s p) := by
  constructor
  case regs =>
    intro q hq _ u hu
    unfold State.rd
    have a : ∀ v < 0x1000, q.base + u ≠ p.base + v := fun v hv => page_apart (by simpa using hq) hu hv
    have k : (!(decide (p.base ≤ q.base + u) && decide (q.base + u < p.base + 0x1000))) = true := by
      simp only [Bool.not_eq_true', Bool.and_eq_false_iff, decide_eq_false_iff_not]
      by_cases b : p.base ≤ q.base + u
      · exact Or.inr (fun c => a (q.base + u - p.base) (by omega) (by omega))
      · exact Or.inl b
    exact sget_filter _ (fun _ => k) _
  all_goals (intro; rfl)

theorem State.fifosGone_within (s : State) :
    Within 0x200000000 [] s (State.fifosGone s) := by
  unfold State.fifosGone
  refine Within.upd ?_ rfl rfl (.inr rfl) (.inr rfl) (.inr rfl) (.inr rfl) (.inr rfl) (.inr rfl) (.inr rfl) (.inr
      rfl) (.inr rfl) (.inr rfl) (.inr rfl) (.inr rfl) (.inr rfl) (.inr rfl) (.inr rfl) (.inr rfl) (.inr rfl) (.inr
          rfl) (.inr rfl) (.inr rfl) (.inr rfl) (.inr rfl) (.inr rfl) (.inr rfl) (.inr rfl) (.inr rfl) (.inr rfl)
              (.inr rfl) (.inr rfl) (.inr rfl) (.inr rfl) (.inr rfl) (.inr rfl) (.inl rfl) (.inr rfl) (.inr rfl)
                  (.inr rfl) (.inr rfl) (.inr rfl) (.inr rfl) (.inr rfl) (.inr rfl) (.inr rfl) (.inr rfl) (.inr rfl)
                      (.inr rfl) (.inr rfl)
  exact Within.refl _

theorem execLinkReset_within (dt : Nat) (s : State) :
    Ends (Within 0xe0002100000fe []) s (execLinkReset dt s) := by
  unfold execLinkReset
  extract_lets +onlyGivenNames -merge -underBinder x1
  have hx1 : Within 0xe0002100000fe [] s x1 := by
    unfold x1
    exact (Within.mono (State.elapse_within ..) rfl)
  refine Ends.ite ?_ ?_
  · refine Ends.next ?_
    exact hx1
  · extract_lets +onlyGivenNames -merge -underBinder x2
    extract_lets +onlyGivenNames -merge -underBinder x3
    have hx3 : Within 0xe0002100000fe [] s x3 := by
      unfold x3
      refine Within.trans ?_ (Within.mono (State.fifosGone_within ..) rfl)
      refine Within.trans ?_ (Within.mono (State.ringsFresh_within ..) rfl)
      refine Within.trans ?_ (Within.mono (State.setPage_within ..) rfl)
      refine Within.trans ?_ (Within.mono (State.setPage_within ..) rfl)
      exact hx1
    extract_lets +onlyGivenNames -merge -underBinder x4
    have hx4 : Within 0xe0002100000fe [] s x4 := by
      unfold x4
      refine Within.trans ?_ (Within.kind (State.erasePage_within ..) rfl .rng rfl rfl)
      refine Within.trans ?_ (Within.kind (State.erasePage_within ..) rfl .host rfl rfl)
      exact hx3
    extract_lets +onlyGivenNames -merge -underBinder x5
    have hx5 : Within 0xe0002100000fe [] s x5 := by
      unfold x5
      refine Within.upd ?_ rfl rfl (.inr rfl) (.inr rfl) (.inr rfl) (.inr rfl) (.inr rfl) (.inl rfl) (.inl rfl) (.inr
          rfl) (.inr rfl) (.inr rfl) (.inr rfl) (.inr rfl) (.inr rfl) (.inr rfl) (.inr rfl) (.inr rfl) (.inr rfl)
              (.inr rfl) (.inr rfl) (.inr rfl) (.inr rfl) (.inr rfl) (.inr rfl) (.inr rfl) (.inr rfl) (.inr rfl)
                  (.inr rfl) (.inr rfl) (.inr rfl) (.inr rfl) (.inr rfl) (.inr rfl) (.inr rfl) (.inr rfl) (.inr rfl)
                      (.inr rfl) (.inr rfl) (.inr rfl) (.inr rfl) (.inr rfl) (.inr rfl) (.inr rfl) (.inr rfl) (.inr
                          rfl) (.inr rfl) (.inr rfl) (.inr rfl)
      exact hx4
    refine Ends.next ?_
    refine Within.trans ?_ (Within.mono (State.pageLine_within ..) rfl)
    refine Within.trans ?_ (Within.mono (State.pageLine_within ..) rfl)
    refine Within.trans ?_ (Within.kind (State.wrf_within ..) rfl .host rfl rfl)
    exact hx5

end Sys2Proof.Machine
end

