-- ==== Sys2Proof/Laws/FrameTimetable.lean ====
section
/-! SUPPORT. What each operation of Machine/Timetable.lean may change (Laws/Within.lean). -/

namespace Sys2Proof.Machine

open Sys2Proof

theorem State.judgeTick_within (s : State) :
    Within 0x6323808000181e01a80 [] s (State.judgeTick s) := by
  unfold State.judgeTick
  refine Within.ite ?_ ?_
  · exact Within.refl _
  · refine Within.foldl ?_ (fun t1 a2 h3 => ?_)
    · refine Within.upd ?_ rfl rfl (.inr rfl) (.inr rfl) (.inr rfl) (.inr rfl) (.inr rfl) (.inr rfl) (.inr rfl) (.inr
        rfl) (.inr rfl) (.inr rfl) (.inr rfl) (.inl rfl) (.inr rfl) (.inr rfl) (.inr rfl) (.inr rfl) (.inr rfl) (.inr
            rfl) (.inr rfl) (.inr rfl) (.inr rfl) (.inr rfl) (.inr rfl) (.inr rfl) (.inr rfl) (.inr rfl) (.inr rfl)
                (.inr rfl) (.inr rfl) (.inr rfl) (.inr rfl) (.inr rfl) (.inr rfl) (.inr rfl) (.inr rfl) (.inr rfl)
                    (.inr rfl) (.inr rfl) (.inr rfl) (.inr rfl) (.inr rfl) (.inr rfl) (.inr rfl) (.inr rfl) (.inr
                        rfl) (.inr rfl) (.inr rfl)
      exact Within.refl _
    · refine Within.trans ?_ (Within.mono (State.deadlineRing_within ..) rfl)
      exact h3

theorem State.stageTurn_within (s : State) :
    Within 0x100000000a0018e00 [] s (State.stageTurn s) := by
  unfold State.stageTurn
  refine Within.ite ?_ ?_
  · refine Within.trans ?_ (Within.mono (State.takeVerdicts_within ..) rfl)
    exact (Within.mono (State.restTurn_within ..) rfl)
  · exact Within.refl _

theorem State.tickEnds_within (s : State) :
    Within 0x63338080001a9e99e80 [] s (State.tickEnds s) := by
  unfold State.tickEnds
  extract_lets +onlyGivenNames -merge -underBinder x1
  have hx1 : Within 0x63338080001a9e99e80 [] s x1 := by
    unfold x1
    refine Within.trans ?_ (Within.mono (State.quietEnds_within ..) rfl)
    exact (Within.mono (State.judgeTick_within ..) rfl)
  extract_lets +onlyGivenNames -merge -underBinder x2
  have hx2 : Within 0x63338080001a9e99e80 [] s x2 := by
    unfold x2
    refine Within.foldl ?_ (fun t3 a4 h5 => ?_)
    · exact hx1
    · refine Within.trans ?_ (Within.mono (State.finishRing_within ..) rfl)
      exact h5
  extract_lets +onlyGivenNames -merge -underBinder x6 x7
  have hx7 : Within 0x63338080001a9e99e80 [] s x7 := by
    unfold x7
    refine Within.upd ?_ rfl rfl (.inr rfl) (.inr rfl) (.inr rfl) (.inr rfl) (.inr rfl) (.inr rfl) (.inr rfl) (.inr
        rfl) (.inr rfl) (.inr rfl) (.inr rfl) (.inl rfl) (.inr rfl) (.inr rfl) (.inr rfl) (.inr rfl) (.inr rfl) (.inr
            rfl) (.inr rfl) (.inr rfl) (.inr rfl) (.inr rfl) (.inr rfl) (.inr rfl) (.inr rfl) (.inr rfl) (.inr rfl)
                (.inr rfl) (.inr rfl) (.inr rfl) (.inr rfl) (.inr rfl) (.inr rfl) (.inr rfl) (.inr rfl) (.inr rfl)
                    (.inr rfl) (.inr rfl) (.inr rfl) (.inr rfl) (.inr rfl) (.inr rfl) (.inr rfl) (.inr rfl) (.inr
                        rfl) (.inr rfl) (.inr rfl)
    exact hx2
  refine Within.trans ?_ (Within.mono (State.spinTick_within ..) rfl)
  refine Within.trans ?_ (Within.mono (State.stageTurn_within ..) rfl)
  exact hx7

theorem State.tickOver_within (s : State) :
    Within 0xe [] s (State.tickOver s) := by
  unfold State.tickOver
  exact (Within.mono (State.atMt_within ..) rfl)

theorem State.peerPins_within (s : State) (x : TickInputs) :
    Within 0x16321a08101fa5e0028d [] s (State.peerPins s x) := by
  unfold State.peerPins
  extract_lets +onlyGivenNames -merge -underBinder x1
  have hx1 : Within 0x16321a08101fa5e0028d [] s x1 := by
    unfold x1
    exact (Within.mono (State.setTdm_within ..) rfl)
  extract_lets +onlyGivenNames -merge -underBinder x2
  have hx2 : Within 0x16321a08101fa5e0028d [] s x2 := by
    unfold x2
    refine Within.ite ?_ ?_
    · refine Within.trans ?_ (Within.mono (State.peerDriveHigh_within ..) rfl)
      exact hx1
    · refine Within.trans ?_ (Within.mono (State.peerDriveLow_within ..) rfl)
      exact hx1
  refine Within.ite ?_ ?_
  · refine Within.trans ?_ (Within.mono (State.tryAbdication_within ..) rfl)
    exact hx2
  · exact hx2

theorem State.lockSend_within (s : State) (x : TickInputs) (g : Nat) :
    Within 0x20000200 [] s (State.lockSend s x g) := by
  unfold State.lockSend
  split
  · refine Within.ite ?_ ?_
    · exact (Within.mono (State.sendFrame_within ..) rfl)
    · exact Within.refl _
  · exact Within.refl _

theorem State.ringTick_within (s : State) (n : Fin 16) :
    Within 0x13008000128009380 [] s (State.ringTick s n) := by
  unfold State.ringTick
  extract_lets +onlyGivenNames -merge -underBinder x1
  have hx1 : Within 0x13008000128009380 [] s x1 := by
    unfold x1
    refine Within.foldl ?_ (fun t2 a3 h4 => ?_)
    · exact Within.refl _
    · refine Within.trans ?_ (Within.mono (State.passAge_within ..) rfl)
      refine Within.trans ?_ (Within.mono (State.chalTimeout_within ..) rfl)
      exact h4
  refine Within.trans ?_ (Within.mono (State.launchCoach_within ..) rfl)
  exact hx1

theorem State.tickStarts_within (s : State) (x : TickInputs) :
    Within 0x17f7fa08101fafe9b38d [] s (State.tickStarts s x) := by
  unfold State.tickStarts
  extract_lets +onlyGivenNames -merge -underBinder x1
  have hx1 : Within 0x17f7fa08101fafe9b38d [] s x1 := by
    unfold x1
    refine Within.trans ?_ (Within.mono (State.connExpiry_within ..) rfl)
    exact (Within.mono (State.peerPins_within ..) rfl)
  extract_lets +onlyGivenNames -merge -underBinder x2
  have hx2 : Within 0x17f7fa08101fafe9b38d [] s x2 := by
    unfold x2
    refine Within.trans ?_ (Within.mono (State.modTick_within ..) rfl)
    exact hx1
  extract_lets +onlyGivenNames -merge -underBinder x3
  have hx3 : Within 0x17f7fa08101fafe9b38d [] s x3 := by
    unfold x3
    refine Within.trans ?_ (Within.mono (State.lockSend_within ..) rfl)
    refine Within.trans ?_ (Within.mono (State.lockSend_within ..) rfl)
    exact hx2
  extract_lets +onlyGivenNames -merge -underBinder x4
  have hx4 : Within 0x17f7fa08101fafe9b38d [] s x4 := by
    unfold x4
    refine Within.trans ?_ (Within.mono (State.safeTick_within ..) rfl)
    exact hx3
  extract_lets +onlyGivenNames -merge -underBinder x5
  have hx5 : Within 0x17f7fa08101fafe9b38d [] s x5 := by
    unfold x5
    refine Within.trans ?_ (Within.mono (State.demandsTick_within ..) rfl)
    refine Within.trans ?_ (Within.mono (State.balTick_within ..) rfl)
    exact hx4
  extract_lets +onlyGivenNames -merge -underBinder x6
  have hx6 : Within 0x17f7fa08101fafe9b38d [] s x6 := by
    unfold x6
    refine Within.trans ?_ (Within.mono (State.dispatchNow_within ..) rfl)
    refine Within.trans ?_ (Within.mono (State.clampTick_within ..) rfl)
    exact hx5
  extract_lets +onlyGivenNames -merge -underBinder x7
  have hx7 : Within 0x17f7fa08101fafe9b38d [] s x7 := by
    unfold x7
    refine Within.trans ?_ (Within.mono (State.chipBoundary_within ..) rfl)
    refine Within.foldl ?_ (fun t8 a9 h10 => ?_)
    · exact hx6
    · refine Within.trans ?_ (Within.mono (State.ringTick_within ..) rfl)
      exact h10
  refine Within.trans ?_ (Within.mono (State.tryReady_within ..) rfl)
  refine Within.trans ?_ (Within.mono (State.protEval_within ..) rfl)
  exact hx7

theorem execTickBoundary_within (x : TickInputs) (s : State) :
    Ends (Within 0x17f7fa08101fafe9bf8f []) s (execTickBoundary x s) := by
  unfold execTickBoundary
  refine Ends.ite ?_ ?_
  · refine Ends.next ?_
    exact Within.refl _
  · refine Ends.ite ?_ ?_
    · refine Ends.next ?_
      refine Within.trans ?_ (Within.mono (State.tickStarts_within ..) rfl)
      refine Within.trans ?_ (Within.mono (State.tickOver_within ..) rfl)
      exact (Within.mono (State.tickEnds_within ..) rfl)
    · refine Ends.next ?_
      exact (Within.mono (State.tickOver_within ..) rfl)

theorem execInputDeadline_within (s : State) :
    Ends (Within 0x6323808000181e01a8e []) s (execInputDeadline s) := by
  unfold execInputDeadline
  refine Ends.ite ?_ ?_
  · refine Ends.next ?_
    exact Within.refl _
  · extract_lets +onlyGivenNames -merge -underBinder x1
    have hx1 : Within 0x6323808000181e01a8e [] s x1 := by
      unfold x1
      exact (Within.mono (State.atMt_within ..) rfl)
    extract_lets +onlyGivenNames -merge -underBinder x2 x3
    have hx3 : Within 0x6323808000181e01a8e [] s x3 := by
      unfold x3
      refine Within.upd ?_ rfl rfl (.inr rfl) (.inr rfl) (.inr rfl) (.inr rfl) (.inr rfl) (.inr rfl) (.inr rfl) (.inr
          rfl) (.inr rfl) (.inr rfl) (.inr rfl) (.inl rfl) (.inr rfl) (.inr rfl) (.inr rfl) (.inr rfl) (.inr rfl)
              (.inr rfl) (.inr rfl) (.inr rfl) (.inr rfl) (.inr rfl) (.inr rfl) (.inr rfl) (.inr rfl) (.inr rfl)
                  (.inr rfl) (.inr rfl) (.inr rfl) (.inr rfl) (.inr rfl) (.inr rfl) (.inr rfl) (.inr rfl) (.inr rfl)
                      (.inr rfl) (.inr rfl) (.inr rfl) (.inr rfl) (.inr rfl) (.inr rfl) (.inr rfl) (.inr rfl) (.inr
                          rfl) (.inr rfl) (.inr rfl) (.inr rfl)
      exact hx1
    refine Ends.next ?_
    refine Within.trans ?_ (Within.mono (State.limRewrite_within ..) rfl)
    refine Within.ite ?_ ?_
    · exact hx3
    · refine Within.trans ?_ (Within.mono (State.judgeTick_within ..) rfl)
      exact hx3

theorem State.epochCheck_within (s : State) :
    Within 0x10000000020008200 [] s (State.epochCheck s) := by
  unfold State.epochCheck
  split
  · extract_lets +onlyGivenNames -merge -underBinder x1
    refine Within.ite ?_ ?_
    · exact (Within.mono (State.epochUp_within ..) rfl)
    · exact Within.refl _
  · exact Within.refl _

theorem State.stageOver_within (s : State) (st : Nat) :
    Within 0x63398089011a3e5ce8f [] s (State.stageOver s st) := by
  unfold State.stageOver
  extract_lets +onlyGivenNames -merge -underBinder x1
  have hx1 : Within 0x63398089011a3e5ce8f [] s x1 := by
    unfold x1
    exact (Within.mono (State.stageCharges_within ..) rfl)
  refine Within.ite ?_ ?_
  · try clear_value x1
    refine Within.upd ?_ rfl rfl (.inr rfl) (.inr rfl) (.inr rfl) (.inr rfl) (.inr rfl) (.inr rfl) (.inr rfl) (.inr
        rfl) (.inr rfl) (.inr rfl) (.inl rfl) (.inl rfl) (.inr rfl) (.inr rfl) (.inl rfl) (.inr rfl) (.inl rfl) (.inr
            rfl) (.inr rfl) (.inr rfl) (.inr rfl) (.inr rfl) (.inr rfl) (.inr rfl) (.inr rfl) (.inr rfl) (.inr rfl)
                (.inr rfl) (.inr rfl) (.inr rfl) (.inr rfl) (.inr rfl) (.inr rfl) (.inr rfl) (.inr rfl) (.inr rfl)
                    (.inr rfl) (.inr rfl) (.inr rfl) (.inr rfl) (.inr rfl) (.inr rfl) (.inr rfl) (.inr rfl) (.inr
                        rfl) (.inr rfl) (.inr rfl)
    exact hx1
  · extract_lets +onlyGivenNames -merge -underBinder x2
    extract_lets +onlyGivenNames -merge -underBinder x3
    have hx3 : Within 0x63398089011a3e5ce8f [] s x3 := by
      unfold x3
      refine Within.trans ?_ (Within.mono (State.stageSteps_within ..) rfl)
      refine Within.trans ?_ (Within.mono (State.epochCheck_within ..) rfl)
      exact hx1
    refine Within.trans ?_ (Within.mono (State.wayBoundary_within ..) rfl)
    refine Within.trans ?_ (Within.mono (State.ostBoundary_within ..) rfl)
    exact hx3

theorem execStageBoundary_within (s : State) :
    Ends (Within 0x1fffffffd4fffffffeff []) s (execStageBoundary s) := by
  unfold execStageBoundary
  refine Ends.ite ?_ ?_
  · refine Ends.next ?_
    refine Within.trans ?_ (Within.mono (State.trialOut_within ..) rfl)
    exact (Within.mono (State.stageOver_within ..) rfl)
  · refine Ends.next ?_
    exact Within.refl _

end Sys2Proof.Machine
end

