-- ==== Sys2Proof/Laws/System.lean ====
section
/-! SUPPORT. What the operations of Machine/System.lean leave alone (Laws/Keeps.lean). -/

namespace Sys2Proof.Machine

open Sys2Proof

theorem State.resetBy_steady (s : State) (cause : Nat) (lost : Bool) :
    Steady s (State.resetBy s cause lost) := by
  unfold State.resetBy
  refine Steady.ite ?_ ?_
  · exact Steady.refl _
  · exact (State.moduleReset_steady ..)

theorem execPowerOn_steady (s : State) :
    Ends Steady s (execPowerOn s) := by
  unfold execPowerOn
  extract_lets +onlyGivenNames -merge -underBinder x1
  have hx1 : Steady s x1 := by
    unfold x1
    exact (State.intoReset_steady ..)
  extract_lets +onlyGivenNames -merge -underBinder x2 x3
  have hx3 : Steady s x3 := by
    unfold x3
    refine Steady.upd ?_ rfl rfl rfl rfl rfl rfl rfl rfl
    exact hx1
  refine Ends.next ?_
  refine Steady.trans ?_ (State.countReset_calm ..).steady
  exact hx3

theorem execSupplyOutOfRange_steady (dt : Nat) (vaon : Bool) (s : State) :
    Ends Steady s (execSupplyOutOfRange dt vaon s) := by
  unfold execSupplyOutOfRange
  extract_lets +onlyGivenNames -merge -underBinder x1
  have hx1 : Steady s x1 := by
    unfold x1
    exact (State.elapse_calm ..).steady
  refine Ends.ite ?_ ?_
  · extract_lets +onlyGivenNames -merge -underBinder x2
    have hx2 : Steady s x2 := by
      unfold x2
      refine Steady.trans ?_ (State.intoReset_steady ..)
      exact hx1
    refine Ends.next ?_
    refine Steady.upd ?_ rfl rfl rfl rfl rfl rfl rfl rfl
    exact hx2
  · extract_lets +onlyGivenNames -merge -underBinder x3 x4
    have hx4 : Steady s x4 := by
      unfold x4
      refine Steady.upd ?_ rfl rfl rfl rfl rfl rfl rfl rfl
      exact hx1
    refine Ends.ite ?_ ?_
    · refine Ends.next ?_
      refine Steady.trans ?_ (State.jrnTear_calm ..).steady
      refine Steady.trans ?_ (State.sbxTear_calm ..).steady
      exact hx4
    · refine Ends.next ?_
      refine Steady.trans ?_ (State.resetBy_steady ..)
      exact hx4

theorem execSupplyHoldOffExpiry_steady (s : State) :
    Ends Steady s (execSupplyHoldOffExpiry s) := by
  unfold execSupplyHoldOffExpiry
  refine Ends.next ?_
  refine Steady.trans ?_ (State.tryBoot_steady ..)
  refine Steady.upd ?_ rfl rfl rfl rfl rfl rfl rfl rfl
  exact Steady.refl _

theorem execResetNLow_steady (dt : Nat) (s : State) :
    Ends Steady s (execResetNLow dt s) := by
  unfold execResetNLow
  extract_lets +onlyGivenNames -merge -underBinder x1
  have hx1 : Steady s x1 := by
    unfold x1
    exact (State.elapse_calm ..).steady
  extract_lets +onlyGivenNames -merge -underBinder x2 x3
  have hx3 : Steady s x3 := by
    unfold x3
    refine Steady.upd ?_ rfl rfl rfl rfl rfl rfl rfl rfl
    exact hx1
  refine Ends.ite ?_ ?_
  · refine Ends.next ?_
    exact hx3
  · refine Ends.next ?_
    refine Steady.trans ?_ (State.resetBy_steady ..)
    exact hx3

theorem execResetNRelease_steady (strapB : Bool) (s : State) :
    Ends Steady s (execResetNRelease strapB s) := by
  unfold execResetNRelease
  extract_lets +onlyGivenNames -merge -underBinder x1 x2
  have hx2 : Steady s x2 := by
    unfold x2
    refine Steady.upd ?_ rfl rfl rfl rfl rfl rfl rfl rfl
    exact Steady.refl _
  refine Ends.ite ?_ ?_
  · refine Ends.next ?_
    refine Steady.trans ?_ (State.tryBoot_steady ..)
    refine Steady.upd ?_ rfl rfl rfl rfl rfl rfl rfl rfl
    exact hx2
  · refine Ends.next ?_
    exact hx2

theorem State.loadPage_calm (s : State) (p : Page) (words : List (Nat × Word)) (ref : Word) :
    Calm s (State.loadPage s p words ref) := by
  unfold State.loadPage
  refine Calm.trans ?_ (State.wr_calm ..)
  refine Calm.foldl ?_ (fun t1 a2 h3 => ?_)
  · exact Calm.refl _
  · refine Calm.trans ?_ (State.wr_calm ..)
    exact h3

theorem State.loadSettings_steady (s : State) (v : Settings) :
    Steady s (State.loadSettings s v) := by
  unfold State.loadSettings
  extract_lets +onlyGivenNames -merge -underBinder x1
  have hx1 : Steady s x1 := by
    unfold x1
    refine Steady.foldl ?_ (fun t2 a3 h4 => ?_)
    · exact Steady.refl _
    · split
      · refine Steady.trans ?_ (State.loadPage_calm ..).steady
        exact h4
      · exact h4
  extract_lets +onlyGivenNames -merge -underBinder x5
  have hx5 : Steady s x5 := by
    unfold x5
    refine Steady.foldl ?_ (fun t6 a7 h8 => ?_)
    · refine Steady.trans ?_ (State.invalidShow_steady ..)
      exact hx1
    · refine Steady.trans ?_ (State.absentClear_steady ..)
      exact h8
  extract_lets +onlyGivenNames -merge -underBinder x9
  have hx9 : Steady s x9 := by
    unfold x9
    refine Steady.trans ?_ (State.wr_calm ..).steady
    exact hx5
  refine Steady.upd ?_ rfl rfl rfl rfl rfl rfl rfl rfl
  exact hx9

theorem State.bootSettings_steady (s : State) (r : BootReport) :
    Steady s (State.bootSettings s r).2 := by
  unfold State.bootSettings
  split
  · split
    · refine Steady.pair ?_
      refine Steady.ite ?_ ?_
      · exact Steady.refl _
      · refine Steady.upd ?_ rfl rfl rfl rfl rfl rfl rfl rfl
        exact Steady.refl _
    · extract_lets +onlyGivenNames -merge -underBinder x1
      have hx1 : Steady s x1 := by
        unfold x1
        refine Steady.ite ?_ ?_
        · exact (State.putSettings_calm ..).steady
        · exact Steady.refl _
      refine Steady.pair ?_
      refine Steady.trans ?_ (State.loadSettings_steady ..)
      refine Steady.upd ?_ rfl rfl rfl rfl rfl rfl rfl rfl
      exact hx1

theorem State.showOutCause_calm (s : State) :
    Calm s (State.showOutCause s) := by
  unfold State.showOutCause
  extract_lets +onlyGivenNames -merge -underBinder x1
  split
  · exact (State.wrf_calm ..)
  · exact Calm.refl _

theorem State.bootLimits_calm (s : State) :
    Calm s (State.bootLimits s) := by
  unfold State.bootLimits
  extract_lets +onlyGivenNames -merge -underBinder x1
  refine Calm.trans ?_ (State.showLimits_calm ..)
  refine Calm.upd ?_ rfl rfl rfl rfl rfl rfl rfl rfl
  exact Calm.refl _

theorem State.enableStored_steady (s : State) :
    Steady s (State.enableStored s) := by
  unfold State.enableStored
  extract_lets +onlyGivenNames -merge -underBinder x1
  refine Steady.foldl ?_ (fun t2 a3 h4 => ?_)
  · exact Steady.refl _
  · refine Steady.trans ?_ (State.ctrlWrite_steady ..)
    exact h4

theorem State.bootEnabled_steady (s : State) :
    Steady s (State.bootEnabled s) := by
  unfold State.bootEnabled
  extract_lets +onlyGivenNames -merge -underBinder x1
  refine Steady.ite ?_ ?_
  · exact Steady.refl _
  · extract_lets +onlyGivenNames -merge -underBinder x2
    extract_lets +onlyGivenNames -merge -underBinder x3
    extract_lets +onlyGivenNames -merge -underBinder x4
    have hx4 : Steady s x4 := by
      unfold x4
      refine Steady.ite ?_ ?_
      · exact (State.arm_calm ..).steady
      · exact Steady.refl _
    refine Steady.trans ?_ (State.bootEnds_steady _ _ (by split <;> rfl))
    exact hx4

theorem State.bootLanes_steady (s : State) (fails : Nat) :
    Steady s (State.bootLanes s fails) := by
  unfold State.bootLanes
  refine Steady.foldl ?_ (fun t1 a2 h3 => ?_)
  · exact Steady.refl _
  · refine Steady.ite ?_ ?_
    · refine Steady.trans ?_ (State.retire_steady ..)
      exact h3
    · exact h3

theorem State.nextPhase_calm (s : State) :
    Calm s (State.nextPhase s) := by
  unfold State.nextPhase
  refine Calm.upd ?_ rfl rfl rfl rfl rfl rfl rfl rfl
  exact Calm.refl _

theorem State.phaseDone_steady (s : State) (r : BootReport) :
    Steady s (State.phaseDone s r) := by
  unfold State.phaseDone
  refine Steady.ite ?_ ?_
  · exact Steady.refl _
  · refine Steady.ite ?_ ?_
    · exact (State.failBoot_steady ..)
    · split
      · refine Steady.trans ?_ (State.nextPhase_calm ..).steady
        exact (State.waySalvage_calm ..).steady
      · extract_lets +onlyGivenNames -merge -underBinder x1
        extract_lets +onlyGivenNames -merge -underBinder x2
        extract_lets +onlyGivenNames -merge -underBinder x3 x4
        have hx4 : Steady s x4 := by
          unfold x4
          exact (State.putSlot_calm ..).steady
        refine Steady.ite ?_ ?_
        · refine Steady.trans ?_ (State.nextPhase_calm ..).steady
          exact hx4
        · refine Steady.trans ?_ (State.failBoot_steady ..)
          exact hx4
      · split
        rename_i y5 y6 e7
        have hy6 : Steady s y6 := by
          refine Steady.snd e7 ?_
          exact (State.bootSettings_steady ..)
        refine Steady.ite ?_ ?_
        · refine Steady.trans ?_ (State.nextPhase_calm ..).steady
          exact hy6
        · exact hy6
      · refine Steady.trans ?_ (State.nextPhase_calm ..).steady
        refine Steady.trans ?_ (State.showOutCause_calm ..).steady
        exact (State.sbxScan_calm ..).steady
      · refine Steady.trans ?_ (State.nextPhase_calm ..).steady
        refine Steady.trans ?_ (State.bootLimits_calm ..).steady
        exact (State.jrnBoot_calm ..).steady
      · refine Steady.ite ?_ ?_
        · exact (State.failBoot_steady ..)
        · extract_lets +onlyGivenNames -merge -underBinder x8
          have hx8 : Steady s x8 := by
            unfold x8
            exact (State.bootLanes_steady ..)
          refine Steady.ite ?_ ?_
          · refine Steady.trans ?_ (State.bootEnds_steady _ _ rfl)
            exact hx8
          · refine Steady.trans ?_ (State.enableStored_steady ..)
            refine Steady.trans ?_ (State.nextPhase_calm ..).steady
            exact hx8
      · exact (State.bootEnabled_steady ..)
      · exact (State.nextPhase_calm ..).steady

theorem execBootPhaseDone_steady (dt : Nat) (r : BootReport) (s : State) :
    Ends Steady s (execBootPhaseDone dt r s) := by
  unfold execBootPhaseDone
  extract_lets +onlyGivenNames -merge -underBinder x1
  have hx1 : Steady s x1 := by
    unfold x1
    exact (State.elapse_calm ..).steady
  refine Ends.ite ?_ ?_
  · refine Ends.next ?_
    refine Steady.trans ?_ (State.phaseDone_steady ..)
    exact hx1
  · refine Ends.next ?_
    exact hx1

theorem execBootTimeout_steady (dt : Nat) (s : State) :
    Ends Steady s (execBootTimeout dt s) := by
  unfold execBootTimeout
  extract_lets +onlyGivenNames -merge -underBinder x1
  have hx1 : Steady s x1 := by
    unfold x1
    exact (State.elapse_calm ..).steady
  refine Ends.ite ?_ ?_
  · refine Ends.next ?_
    refine Steady.trans ?_ (State.failBoot_steady ..)
    refine Steady.trans ?_ (State.waitBound_calm ..).steady
    exact hx1
  · refine Ends.next ?_
    exact hx1

theorem State.hostReset_steady (s : State) (key : Nat) :
    Steady s (State.hostReset s key) := by
  unfold State.hostReset
  refine Steady.ite ?_ ?_
  · exact Steady.refl _
  · refine Steady.ite ?_ ?_
    · exact (State.flag_calm ..).steady
    · refine Steady.ite ?_ ?_
      · exact (State.resetBy_steady ..)
      · exact Steady.refl _

theorem execSysRst_steady (dt : Nat) (key : Byte) (s : State) :
    Ends Steady s (execSysRst dt key s) := by
  unfold execSysRst
  refine Ends.next ?_
  refine Steady.trans ?_ (State.hostReset_steady ..)
  exact (State.elapse_calm ..).steady

theorem execOutRestart_steady (dt : Nat) (s : State) :
    Ends Steady s (execOutRestart dt s) := by
  unfold execOutRestart
  extract_lets +onlyGivenNames -merge -underBinder x1
  have hx1 : Steady s x1 := by
    unfold x1
    exact (State.elapse_calm ..).steady
  refine Ends.ite ?_ ?_
  · refine Ends.next ?_
    refine Steady.trans ?_ (State.resetBy_steady ..)
    exact hx1
  · refine Ends.next ?_
    exact hx1

theorem execThermalCoolExpiry_steady (dt : Nat) (s : State) :
    Ends Steady s (execThermalCoolExpiry dt s) := by
  unfold execThermalCoolExpiry
  extract_lets +onlyGivenNames -merge -underBinder x1
  have hx1 : Steady s x1 := by
    unfold x1
    exact (State.elapse_calm ..).steady
  refine Ends.ite ?_ ?_
  · refine Ends.next ?_
    refine Steady.trans ?_ (State.resetBy_steady ..)
    exact hx1
  · refine Ends.next ?_
    exact hx1

theorem State.retryBoot_steady (s : State) (slot : Bool) :
    Steady s (State.retryBoot s slot) := by
  unfold State.retryBoot
  extract_lets +onlyGivenNames -merge -underBinder x1
  refine Steady.ite ?_ ?_
  · exact Steady.refl _
  · refine Steady.ite ?_ ?_
    · exact (State.fwuReject_calm ..).steady
    · refine Steady.trans ?_ (State.resetBy_steady ..)
      exact (State.modFw_calm ..).steady

theorem execBootRetry_steady (dt : Nat) (slot : Bool) (s : State) :
    Ends Steady s (execBootRetry dt slot s) := by
  unfold execBootRetry
  refine Ends.next ?_
  refine Steady.hostDo ?_ (fun t1 h2 => ?_)
  · exact (State.elapse_calm ..).steady
  · refine Steady.trans ?_ (State.retryBoot_steady ..)
    exact h2

theorem execActivationReboot_steady (dt : Nat) (s : State) :
    Ends Steady s (execActivationReboot dt s) := by
  unfold execActivationReboot
  extract_lets +onlyGivenNames -merge -underBinder x1
  have hx1 : Steady s x1 := by
    unfold x1
    exact (State.elapse_calm ..).steady
  split
  · refine Ends.ite ?_ ?_
    · extract_lets +onlyGivenNames -merge -underBinder x2
      have hx2 : Steady s x2 := by
        unfold x2
        refine Steady.trans ?_ (State.modFw_calm ..).steady
        refine Steady.trans ?_ (State.forceSafe_steady ..)
        exact hx1
      extract_lets +onlyGivenNames -merge -underBinder x3 x4
      have hx4 : Steady s x4 := by
        unfold x4
        refine Steady.upd ?_ rfl rfl rfl rfl rfl rfl rfl rfl
        exact hx2
      refine Ends.next ?_
      refine Steady.trans ?_ (State.resetBy_steady ..)
      refine Steady.trans ?_ (State.recordNow_calm ..).steady
      exact hx4
    · refine Ends.next ?_
      exact hx1
  · refine Ends.next ?_
    exact hx1

theorem State.outCause_steady (s : State) (n : Nat) :
    Steady s (State.outCause s n) := by
  unfold State.outCause
  refine Steady.trans ?_ (State.trialOut_steady ..)
  exact (State.outEntry_steady ..)

theorem execLockstepMismatch_steady (dt : Nat) (island : Bool) (s : State) :
    Ends Steady s (execLockstepMismatch dt island s) := by
  unfold execLockstepMismatch
  refine Ends.next ?_
  refine Steady.trans ?_ (State.outCause_steady ..)
  exact (State.elapse_calm ..).steady

theorem execUncorrectableEccError_steady (dt : Nat) (m : EccPlace) (s : State) :
    Ends Steady s (execUncorrectableEccError dt m s) := by
  unfold execUncorrectableEccError
  extract_lets +onlyGivenNames -merge -underBinder x1
  have hx1 : Steady s x1 := by
    unfold x1
    exact (State.elapse_calm ..).steady
  split
  · refine Ends.next ?_
    refine Steady.trans ?_ (State.sbxDamage_calm ..).steady
    exact hx1
  · refine Ends.next ?_
    refine Steady.trans ?_ (State.wayDamage_calm ..).steady
    exact hx1
  · refine Ends.next ?_
    refine Steady.trans ?_ (State.outCause_steady ..)
    exact hx1
  · refine Ends.next ?_
    refine Steady.trans ?_ (State.outCause_steady ..)
    exact hx1
  · refine Ends.next ?_
    refine Steady.trans ?_ (State.outCause_steady ..)
    exact hx1
  · refine Ends.next ?_
    refine Steady.trans ?_ (State.outCause_steady ..)
    exact hx1
  · refine Ends.next ?_
    refine Steady.trans ?_ (State.outCause_steady ..)
    exact hx1
  · refine Ends.next ?_
    refine Steady.trans ?_ (State.outCause_steady ..)
    exact hx1

theorem execWatchdogExpiry_steady (dt : Nat) (s : State) :
    Ends Steady s (execWatchdogExpiry dt s) := by
  unfold execWatchdogExpiry
  refine Ends.next ?_
  refine Steady.trans ?_ (State.outCause_steady ..)
  exact (State.elapse_calm ..).steady

theorem execOutputLoopbackFailure_steady (dt : Nat) (pad : OutStage) (confirmed : Bool) (s : State) :
    Ends Steady s (execOutputLoopbackFailure dt pad confirmed s) := by
  unfold execOutputLoopbackFailure
  extract_lets +onlyGivenNames -merge -underBinder x1
  have hx1 : Steady s x1 := by
    unfold x1
    exact (State.elapse_calm ..).steady
  refine Ends.ite ?_ ?_
  · refine Ends.next ?_
    refine Steady.trans ?_ (State.outCause_steady ..)
    exact hx1
  · refine Ends.ite ?_ ?_
    · refine Ends.next ?_
      exact hx1
    · extract_lets +onlyGivenNames -merge -underBinder x2 x3
      have hx3 : Steady s x3 := by
        unfold x3
        refine Steady.upd ?_ rfl rfl rfl rfl rfl rfl rfl rfl
        exact hx1
      refine Ends.next ?_
      refine Steady.ite ?_ ?_
      · refine Steady.trans ?_ (State.outCause_steady ..)
        exact hx3
      · refine Steady.ite ?_ ?_
        · refine Steady.trans ?_ (State.inc_calm ..).steady
          exact hx3
        · exact hx3

theorem execClockMonitorFault_steady (dt : Nat) (s : State) :
    Ends Steady s (execClockMonitorFault dt s) := by
  unfold execClockMonitorFault
  refine Ends.next ?_
  refine Steady.trans ?_ (State.outCause_steady ..)
  exact (State.elapse_calm ..).steady

theorem execVioBankFault_steady (dt : Nat) (bank : Fin 4) (s : State) :
    Ends Steady s (execVioBankFault dt bank s) := by
  unfold execVioBankFault
  extract_lets +onlyGivenNames -merge -underBinder x1
  have hx1 : Steady s x1 := by
    unfold x1
    exact (State.elapse_calm ..).steady
  refine Ends.next ?_
  refine Steady.ite ?_ ?_
  · refine Steady.trans ?_ (State.outCause_steady ..)
    exact hx1
  · exact hx1

theorem execAon32Loss_calm (dt : Nat) (s : State) :
    Ends Calm s (execAon32Loss dt s) := by
  unfold execAon32Loss
  extract_lets +onlyGivenNames -merge -underBinder x1
  have hx1 : Calm s x1 := by
    unfold x1
    exact (State.elapse_calm ..)
  refine Ends.next ?_
  refine Calm.upd ?_ rfl rfl rfl rfl rfl rfl rfl rfl
  exact hx1

theorem execPfwFall_calm (dt : Nat) (s : State) :
    Ends Calm s (execPfwFall dt s) := by
  unfold execPfwFall
  extract_lets +onlyGivenNames -merge -underBinder x1
  have hx1 : Calm s x1 := by
    unfold x1
    exact (State.elapse_calm ..)
  extract_lets +onlyGivenNames -merge -underBinder x2 x3
  have hx3 : Calm s x3 := by
    unfold x3
    refine Calm.upd ?_ rfl rfl rfl rfl rfl rfl rfl rfl
    exact hx1
  extract_lets +onlyGivenNames -merge -underBinder x4
  extract_lets +onlyGivenNames -merge -underBinder x5
  have hx5 : Calm s x5 := by
    unfold x5
    refine Calm.ite ?_ ?_
    · exact hx3
    · refine Calm.trans ?_ (State.wrb_calm ..)
      refine Calm.trans ?_ (State.incBy_calm ..)
      exact hx3
  refine Ends.ite ?_ ?_
  · refine Ends.next ?_
    refine Calm.trans ?_ (State.flag_calm ..)
    refine Calm.trans ?_ (State.edgeSource_calm ..)
    exact hx5
  · refine Ends.next ?_
    exact hx5

theorem execPfwRise_calm (dt : Nat) (s : State) :
    Ends Calm s (execPfwRise dt s) := by
  unfold execPfwRise
  extract_lets +onlyGivenNames -merge -underBinder x1
  have hx1 : Calm s x1 := by
    unfold x1
    exact (State.elapse_calm ..)
  extract_lets +onlyGivenNames -merge -underBinder x2
  refine Ends.next ?_
  refine Calm.trans ?_ (State.streamsResume_calm ..)
  refine Calm.trans ?_ (State.manualResume_calm ..)
  refine Calm.trans ?_ (State.countersResume_calm ..)
  refine Calm.trans ?_ (State.clearResume_calm ..)
  refine Calm.trans ?_ (State.flushSlots_calm ..)
  refine Calm.trans ?_ (State.flushSettings_calm ..)
  refine Calm.upd ?_ rfl rfl rfl rfl rfl rfl rfl rfl
  exact hx1

end Sys2Proof.Machine
end

