-- ==== Sys2Proof/Laws/Rings.lean ====
section
/-! SUPPORT. What the operations of Machine/Rings.lean leave alone (Laws/Keeps.lean). -/

namespace Sys2Proof.Machine

open Sys2Proof

theorem State.ringFetch_calm (s : State) (n : Nat) (a1 : Nat) (a2 : List (Option Desc)) :
    Calm s (State.ringFetch s n a1 a2) := by
  unfold State.ringFetch
  split
  · exact Calm.refl _
  · split
    · refine Calm.ite ?_ ?_
      · exact (State.ringStop_calm ..)
      · refine Calm.trans ?_ (State.ringFetch_calm ..)
        exact (State.setRing_calm ..)
    · exact (State.ringStop_calm ..)

theorem State.ringKick_calm (s : State) (n : Nat) :
    Calm s (State.ringKick s n) := by
  unfold State.ringKick
  refine Calm.ite ?_ ?_
  · exact (State.canCheckAll_calm ..)
  · refine Calm.ite ?_ ?_
    · exact (State.canDeliverAll_calm ..)
    · refine Calm.ite ?_ ?_
      · exact (State.ethCheckAll_calm ..)
      · refine Calm.ite ?_ ?_
        · exact (State.ethDeliverAll_calm ..)
        · refine Calm.ite ?_ ?_
          · exact (State.servicePump_calm ..)
          · exact Calm.refl _

theorem State.doorbell_calm (s : State) (n : Nat) (hidx : Nat) (descs : List (Option Desc)) :
    Calm s (State.doorbell s n hidx descs) := by
  unfold State.doorbell
  extract_lets +onlyGivenNames -merge -underBinder x1
  refine Calm.ite ?_ ?_
  · exact Calm.refl _
  · extract_lets +onlyGivenNames -merge -underBinder x2
    have hx2 : Calm s x2 := by
      unfold x2
      exact (State.wrn_calm ..)
    refine Calm.ite ?_ ?_
    · exact hx2
    · extract_lets +onlyGivenNames -merge -underBinder x3
      have hx3 : Calm s x3 := by
        unfold x3
        refine Calm.trans ?_ (State.setRing_calm ..)
        exact hx2
      extract_lets +onlyGivenNames -merge -underBinder x4
      refine Calm.ite ?_ ?_
      · refine Calm.trans ?_ (State.ringStop_calm ..)
        exact hx3
      · extract_lets +onlyGivenNames -merge -underBinder x5 x6
        have hx6 : Calm s x6 := by
          unfold x6
          refine Calm.trans ?_ (State.setRing_calm ..)
          exact hx3
        extract_lets +onlyGivenNames -merge -underBinder x7
        have hx7 : Calm s x7 := by
          unfold x7
          refine Calm.trans ?_ (State.ringFetch_calm ..)
          exact hx6
        extract_lets +onlyGivenNames -merge -underBinder x8
        have hx8 : Calm s x8 := by
          unfold x8
          refine Calm.trans ?_ (State.ringAlign_calm ..)
          exact hx7
        extract_lets +onlyGivenNames -merge -underBinder x9
        have hx9 : Calm s x9 := by
          unfold x9
          refine Calm.ite ?_ ?_
          · refine Calm.trans ?_ (State.wrb_calm ..)
            exact hx8
          · exact hx8
        refine Calm.trans ?_ (State.ringKick_calm ..)
        exact hx9

theorem execRingDoorbell_calm (dt : Nat) (ring : Fin 128) (hidx : Word) (descs : List (Option Desc)) (s : State) :
    Ends Calm s (execRingDoorbell dt ring hidx descs s) := by
  unfold execRingDoorbell
  refine Ends.next ?_
  refine Calm.hostDo ?_ (fun t1 h2 => ?_)
  · exact (State.elapse_calm ..)
  · refine Calm.trans ?_ (State.doorbell_calm ..)
    exact h2

theorem State.ringRestart_calm (s : State) (n : Nat) :
    Calm s (State.ringRestart s n) := by
  unfold State.ringRestart
  extract_lets +onlyGivenNames -merge -underBinder x1
  refine Calm.ite ?_ ?_
  · exact Calm.refl _
  · extract_lets +onlyGivenNames -merge -underBinder x2
    have hx2 : Calm s x2 := by
      unfold x2
      exact (State.setRing_calm ..)
    extract_lets +onlyGivenNames -merge -underBinder x3
    have hx3 : Calm s x3 := by
      unfold x3
      refine Calm.trans ?_ (State.wrn_calm ..)
      exact hx2
    extract_lets +onlyGivenNames -merge -underBinder x4
    have hx4 : Calm s x4 := by
      unfold x4
      refine Calm.trans ?_ (State.wrb_calm ..)
      exact hx3
    extract_lets +onlyGivenNames -merge -underBinder x5
    extract_lets +onlyGivenNames -merge -underBinder x6
    have hx6 : Calm s x6 := by
      unfold x6
      refine Calm.upd ?_ rfl rfl rfl rfl rfl rfl rfl rfl
      exact hx4
    refine Calm.ite ?_ ?_
    · refine Calm.trans ?_ (State.modCan_calm ..)
      exact hx6
    · exact hx6

theorem execRingRestart_calm (dt : Nat) (ring : Fin 128) (s : State) :
    Ends Calm s (execRingRestart dt ring s) := by
  unfold execRingRestart
  refine Ends.next ?_
  refine Calm.hostDo ?_ (fun t1 h2 => ?_)
  · exact (State.elapse_calm ..)
  · refine Calm.trans ?_ (State.ringRestart_calm ..)
    exact h2

theorem execRingDrainTimeout_calm (dt : Nat) (ring : Fin 128) (s : State) :
    Ends Calm s (execRingDrainTimeout dt ring s) := by
  unfold execRingDrainTimeout
  extract_lets +onlyGivenNames -merge -underBinder x1
  have hx1 : Calm s x1 := by
    unfold x1
    exact (State.elapse_calm ..)
  extract_lets +onlyGivenNames -merge -underBinder x2
  extract_lets +onlyGivenNames -merge -underBinder x3
  refine Ends.ite ?_ ?_
  · refine Ends.next ?_
    refine Calm.trans ?_ (State.flag_calm ..)
    refine Calm.trans ?_ (State.wrb_calm ..)
    exact hx1
  · refine Ends.next ?_
    exact hx1

end Sys2Proof.Machine
end

