-- ==== Sys2Proof/Laws/Pages.lean ====
section
/-! SUPPORT. What the operations of Machine/Pages.lean leave alone (Laws/Keeps.lean). -/

namespace Sys2Proof.Machine

open Sys2Proof

theorem State.regRead_calm (s : State) (p : Page) (o : Nat) :
    Calm s (State.regRead s p o).2 := by
  unfold State.regRead
  split
  · refine Calm.pair ?_
    exact Calm.refl _
  · split
    · split
      · exact (State.irqClaim_calm ..)
      · refine Calm.pair ?_
        exact Calm.refl _
    · split
      · split
        rename_i y1 y2 e3
        have hy2 : Calm s y2 := by
          refine Calm.snd e3 ?_
          exact (State.draw_calm ..)
        refine Calm.pair ?_
        refine Calm.trans ?_ (State.mtLatch_calm ..)
        exact hy2
      · refine Calm.pair ?_
        exact Calm.refl _
    · split
      · refine Calm.pair ?_
        exact (State.rxwTouch_calm ..)
      · refine Calm.pair ?_
        exact Calm.refl _
    · refine Calm.pair ?_
      exact Calm.refl _

theorem State.configWrite_steady (s : State) (p : Page) (o : Nat) (v : Word) :
    Steady s (State.configWrite s p o v) := by
  unfold State.configWrite
  refine Steady.ite ?_ ?_
  · exact (State.ignoredWrite_calm ..).steady
  · extract_lets +onlyGivenNames -merge -underBinder x1
    have hx1 : Steady s x1 := by
      unfold x1
      refine Steady.ite ?_ ?_
      · exact (State.disarm_calm ..).steady
      · exact Steady.refl _
    extract_lets +onlyGivenNames -merge -underBinder x2
    have hx2 : Steady s x2 := by
      unfold x2
      refine Steady.trans ?_ (State.wr_calm ..).steady
      exact hx1
    split
    · refine Steady.ite ?_ ?_
      · refine Steady.trans ?_ (State.fltCommit_calm ..).steady
        exact hx2
      · exact hx2
    · refine Steady.trans ?_ (State.invalidShow_steady ..)
      exact hx2
    · refine Steady.ite ?_ ?_
      · refine Steady.trans ?_ (State.absentClear_steady ..)
        exact hx2
      · exact hx2
    · exact hx2

theorem State.flagsClear_calm (s : State) (p : Page) (mask : Word) :
    Calm s (State.flagsClear s p mask) := by
  unfold State.flagsClear
  extract_lets +onlyGivenNames -merge -underBinder x1
  have hx1 : Calm s x1 := by
    unfold x1
    exact (State.wr_calm ..)
  extract_lets +onlyGivenNames -merge -underBinder x2
  have hx2 : Calm s x2 := by
    unfold x2
    refine Calm.ite ?_ ?_
    · refine Calm.trans ?_ (State.wrn_calm ..)
      exact hx1
    · exact hx1
  extract_lets +onlyGivenNames -merge -underBinder x3
  have hx3 : Calm s x3 := by
    unfold x3
    refine Calm.ite ?_ ?_
    · refine Calm.trans ?_ (State.wrb_calm ..)
      exact hx2
    · exact hx2
  refine Calm.trans ?_ (State.pageLine_calm ..)
  exact hx3

theorem Calm.onBit {r s : State} {v : Word} {n : Nat} {f : State → State} (h : Calm r s) (k : ∀ t, Calm r t → Calm r (f t)) :
    Calm r (s.onBit v n f) := by
  unfold State.onBit; split
  · exact k s h
  · exact h

theorem Steady.onBit {r s : State} {v : Word} {n : Nat} {f : State → State} (h : Steady r s) (k : ∀ t, Steady r t → Steady r (f t)) :
    Steady r (s.onBit v n f) := by
  unfold State.onBit; split
  · exact k s h
  · exact h

theorem State.freeDesc_calm (s : State) : Calm s s.freeDesc.2 :=
  ⟨⟨rfl, id, Nat.le_trans (Nat.le_add_right _ 33) (Nat.le_add_right _ _), List.suffix_refl _⟩, rfl, fun d => ⟨d, id⟩, rfl, rfl⟩

theorem State.freeDescs_calm (s : State) (a1 : Nat) :
    Calm s (State.freeDescs s a1).2 := by
  unfold State.freeDescs
  split
  · refine Calm.pair ?_
    exact Calm.refl _
  · split
    rename_i y1 y2 e3
    have hy2 : Calm s y2 := by
      refine Calm.snd e3 ?_
      exact (State.freeDesc_calm ..)
    split
    rename_i y4 y5 e6
    have hy5 : Calm s y5 := by
      refine Calm.snd e6 ?_
      refine Calm.trans ?_ (State.freeDescs_calm ..)
      exact hy2
    refine Calm.pair ?_
    exact hy5

theorem State.blindDoorbell_calm (s : State) (n : Nat) (hidx : Nat) :
    Calm s (State.blindDoorbell s n hidx) := by
  unfold State.blindDoorbell
  extract_lets +onlyGivenNames -merge -underBinder x1
  extract_lets +onlyGivenNames -merge -underBinder x2
  split
  rename_i y3 y4 e5
  have hy4 : Calm s y4 := by
    refine Calm.snd e5 ?_
    exact (State.freeDescs_calm ..)
  refine Calm.trans ?_ (State.doorbell_calm ..)
  exact hy4

theorem State.mboxSubmit_calm (s : State) (len : Nat) :
    Calm s (State.mboxSubmit s len) := by
  unfold State.mboxSubmit
  extract_lets +onlyGivenNames -merge -underBinder x1
  exact (State.command_calm ..)

theorem State.snsCmd_calm (s : State) (n : Fin 16) (v : Word) :
    Calm s (State.snsCmd s n v) := by
  unfold State.snsCmd
  refine Calm.onBit ?_ (fun t1 h2 => ?_)
  · refine Calm.onBit ?_ (fun t3 h4 => ?_)
    · exact Calm.refl _
    · refine Calm.trans ?_ (State.reenum_calm ..)
      exact h4
  · refine Calm.trans ?_ (State.wantAll_calm ..)
    exact h2

theorem State.wayCmd_calm (s : State) (v : Word) :
    Calm s (State.wayCmd s v) := by
  unfold State.wayCmd
  extract_lets +onlyGivenNames -merge -underBinder x1
  have hx1 : Calm s x1 := by
    unfold x1
    refine Calm.onBit ?_ (fun t2 h3 => ?_)
    · exact Calm.refl _
    · refine Calm.trans ?_ (State.trigger_calm ..)
      exact h3
  extract_lets +onlyGivenNames -merge -underBinder x4
  have hx4 : Calm s x4 := by
    unfold x4
    refine Calm.onBit ?_ (fun t5 h6 => ?_)
    · exact hx1
    · refine Calm.trans ?_ (State.releaseSegment_calm ..)
      exact h6
  extract_lets +onlyGivenNames -merge -underBinder x7
  have hx7 : Calm s x7 := by
    unfold x7
    refine Calm.onBit ?_ (fun t8 h9 => ?_)
    · exact hx4
    · refine Calm.trans ?_ (State.exportSegment_calm ..)
      exact h9
  refine Calm.onBit ?_ (fun t10 h11 => ?_)
  · exact hx7
  · refine Calm.trans ?_ (State.abortSegment_calm ..)
    exact h11

theorem State.canCmd_calm (s : State) (c : Nat) (v : Word) :
    Calm s (State.canCmd s c v) := by
  unfold State.canCmd
  extract_lets +onlyGivenNames -merge -underBinder x1
  have hx1 : Calm s x1 := by
    unfold x1
    refine Calm.onBit ?_ (fun t2 h3 => ?_)
    · exact Calm.refl _
    · refine Calm.trans ?_ (State.canCancel_calm ..)
      exact h3
  extract_lets +onlyGivenNames -merge -underBinder x4
  have hx4 : Calm s x4 := by
    unfold x4
    refine Calm.onBit ?_ (fun t5 h6 => ?_)
    · exact hx1
    · refine Calm.trans ?_ (State.canCancel_calm ..)
      exact h6
  extract_lets +onlyGivenNames -merge -underBinder x7
  have hx7 : Calm s x7 := by
    unfold x7
    refine Calm.onBit ?_ (fun t8 h9 => ?_)
    · exact hx4
    · refine Calm.trans ?_ (State.canRelease_calm ..)
      exact h9
  refine Calm.onBit ?_ (fun t10 h11 => ?_)
  · exact hx7
  · refine Calm.trans ?_ (State.canRecover_calm ..)
    exact h11

theorem State.fwuCmd_steady (s : State) (v : Word) :
    Steady s (State.fwuCmd s v) := by
  unfold State.fwuCmd
  extract_lets +onlyGivenNames -merge -underBinder x1
  have hx1 : Steady s x1 := by
    unfold x1
    refine Steady.onBit ?_ (fun t2 h3 => ?_)
    · exact Steady.refl _
    · refine Steady.trans ?_ (State.openUpload_calm ..).steady
      exact h3
  extract_lets +onlyGivenNames -merge -underBinder x4
  have hx4 : Steady s x4 := by
    unfold x4
    refine Steady.onBit ?_ (fun t5 h6 => ?_)
    · exact hx1
    · refine Steady.trans ?_ (State.closeUpload_calm ..).steady
      exact h6
  extract_lets +onlyGivenNames -merge -underBinder x7
  have hx7 : Steady s x7 := by
    unfold x7
    refine Steady.onBit ?_ (fun t8 h9 => ?_)
    · exact hx4
    · refine Steady.trans ?_ (State.abortUpload_calm ..).steady
      exact h9
  refine Steady.onBit ?_ (fun t10 h11 => ?_)
  · exact hx7
  · refine Steady.trans ?_ (State.retryBoot_steady ..)
    exact h11

theorem State.tdmCmd_calm (s : State) (v : Word) :
    Calm s (State.tdmCmd s v) := by
  unfold State.tdmCmd
  refine Calm.onBit ?_ (fun t1 h2 => ?_)
  · refine Calm.onBit ?_ (fun t3 h4 => ?_)
    · exact Calm.refl _
    · refine Calm.trans ?_ (State.repairAll_calm ..)
      exact h4
  · refine Calm.trans ?_ (State.healthNow_calm ..)
    exact h2

theorem State.balCmd_calm (s : State) (v : Word) :
    Calm s (State.balCmd s v) := by
  unfold State.balCmd
  refine Calm.onBit ?_ (fun t1 h2 => ?_)
  · refine Calm.onBit ?_ (fun t3 h4 => ?_)
    · exact Calm.refl _
    · refine Calm.trans ?_ (State.unblock_calm ..)
      exact h4
  · refine Calm.trans ?_ (State.unblock_calm ..)
    exact h2

theorem State.cthCmd_calm (s : State) (v : Word) :
    Calm s (State.cthCmd s v) := by
  unfold State.cthCmd
  exact (State.sensorRestore_calm ..)

theorem State.cursorCmd_calm (s : State) (v : Word) :
    Calm s (State.cursorCmd s v) := by
  unfold State.cursorCmd
  refine Calm.ite ?_ ?_
  · exact (State.cursorStart_calm ..)
  · refine Calm.ite ?_ ?_
    · exact (State.cursorStart_calm ..)
    · exact Calm.refl _

theorem State.authRun_calm (s : State) (o : Nat) (v : Word) :
    Calm s (State.authRun s o v) := by
  unfold State.authRun
  refine Calm.ite ?_ ?_
  · exact (State.mboxSubmit_calm ..)
  · refine Calm.ite ?_ ?_
    · exact (State.inc_calm ..)
    · exact (State.wr_calm ..)

theorem State.runWrite_steady (s : State) (p : Page) (o : Nat) (v : Word) :
    Steady s (State.runWrite s p o v) := by
  unfold State.runWrite
  split
  · exact (State.hostReset_steady ..)
  · refine Steady.ite ?_ ?_
    · exact (State.ringRestart_calm ..).steady
    · exact (State.blindDoorbell_calm ..).steady
  · refine Steady.ite ?_ ?_
    · exact (State.irqConfig_calm ..).steady
    · refine Steady.ite ?_ ?_
      · exact (State.irqComplete_calm ..).steady
      · exact (State.irqPark_calm ..).steady
  · exact (State.authRun_calm ..).steady
  · refine Steady.ite ?_ ?_
    · exact (State.fwuCmd_steady ..)
    · refine Steady.ite ?_ ?_
      · exact (State.windowChunk_calm ..).steady
      · exact (State.wr_calm ..).steady
  · exact (State.nselLatch_calm ..).steady
  · exact (State.tdmCmd_calm ..).steady
  · refine Steady.ite ?_ ?_
    · exact (State.wayCmd_calm ..).steady
    · exact (State.wr_calm ..).steady
  · refine Steady.ite ?_ ?_
    · exact (State.cursorCmd_calm ..).steady
    · exact (State.wr_calm ..).steady
  · exact (State.snsCmd_calm ..).steady
  · refine Steady.ite ?_ ?_
    · exact (State.balCmd_calm ..).steady
    · exact (State.zselLatch_calm ..).steady
  · refine Steady.ite ?_ ?_
    · exact (State.cthCmd_calm ..).steady
    · refine Steady.ite ?_ ?_
      · exact (State.mselLatch_calm ..).steady
      · exact (State.hostEvent_calm ..).steady
  · exact (State.hostEvent_calm ..).steady
  · exact (State.hostEvent_calm ..).steady
  · exact (State.hostEvent_calm ..).steady
  · exact (State.hostEvent_calm ..).steady
  · refine Steady.ite ?_ ?_
    · exact (State.canCmd_calm ..).steady
    · exact (State.wr_calm ..).steady
  · exact (State.wr_calm ..).steady

theorem State.hostWrite_steady (s : State) (p : Page) (o : Nat) (v : Word) :
    Steady s (State.hostWrite s p o v) := by
  unfold State.hostWrite
  refine Steady.ite ?_ ?_
  · refine Steady.ite ?_ ?_
    · exact (State.hostReset_steady ..)
    · refine Steady.ite ?_ ?_
      · exact (State.cursorCmd_calm ..).steady
      · refine Steady.ite ?_ ?_
        · exact (State.wr_calm ..).steady
        · exact Steady.refl _
  · split
    · exact Steady.refl _
    · refine Steady.ite ?_ ?_
      · exact (State.ctrlWrite_steady ..)
      · refine Steady.ite ?_ ?_
        · exact (State.flagsClear_calm ..).steady
        · refine Steady.ite ?_ ?_
          · refine Steady.trans ?_ (State.pageLine_calm ..).steady
            exact (State.wr_calm ..).steady
          · refine Steady.ite ?_ ?_
            · exact (State.configWrite_steady ..)
            · refine Steady.ite ?_ ?_
              · exact (State.wr_calm ..).steady
              · refine Steady.ite ?_ ?_
                · exact (State.runWrite_steady ..)
                · exact Steady.refl _

theorem execConfigWrite_steady (dt : Nat) (page : Page) (off : Nat) (value : Word) (s : State) :
    Ends Steady s (execConfigWrite dt page off value s) := by
  unfold execConfigWrite
  refine Ends.next ?_
  refine Steady.trans ?_ (State.hostWrite_steady ..)
  exact (State.elapse_calm ..).steady

theorem execFlagsClear_steady (dt : Nat) (page : Page) (off : Nat) (mask : Word) (s : State) :
    Ends Steady s (execFlagsClear dt page off mask s) := by
  unfold execFlagsClear
  refine Ends.next ?_
  refine Steady.trans ?_ (State.hostWrite_steady ..)
  exact (State.elapse_calm ..).steady

theorem execRegisterWrite_steady (dt : Nat) (page : Page) (off : Nat) (value : Word) (s : State) :
    Ends Steady s (execRegisterWrite dt page off value s) := by
  unfold execRegisterWrite
  refine Ends.next ?_
  refine Steady.trans ?_ (State.hostWrite_steady ..)
  exact (State.elapse_calm ..).steady

theorem State.scrubPage_calm (s : State) (p : Page) :
    Calm s (State.scrubPage s p).2 := by
  unfold State.scrubPage
  split
  · refine Calm.pair ?_
    exact Calm.refl _
  · extract_lets +onlyGivenNames -merge -underBinder x1
    extract_lets +onlyGivenNames -merge -underBinder x2
    refine Calm.pair ?_
    exact (State.wrn_calm ..)

theorem State.scrub_steady (s : State) :
    Steady s (State.scrub s) := by
  unfold State.scrub
  split
  rename_i y1 y2 e3
  have hy2 : Steady s y2 := by
    refine Steady.snd e3 ?_
    refine Steady.foldlSnd ?_ (fun t4 a5 h6 => ?_)
    · refine Steady.pair ?_
      exact Steady.refl _
    · split
      rename_i y7 y8 e9
      have hy8 : Steady s y8 := by
        refine Steady.snd e9 ?_
        refine Steady.trans ?_ (State.scrubPage_calm ..).steady
        exact h6
      refine Steady.pair ?_
      exact hy8
  extract_lets +onlyGivenNames -merge -underBinder x10
  extract_lets +onlyGivenNames -merge -underBinder x11
  have hx11 : Steady s x11 := by
    unfold x11
    refine Steady.trans ?_ (State.inc_calm ..).steady
    refine Steady.trans ?_ (State.wrn_calm ..).steady
    exact hy2
  extract_lets +onlyGivenNames -merge -underBinder x12
  extract_lets +onlyGivenNames -merge -underBinder x13
  refine Steady.ite ?_ ?_
  · refine Steady.trans ?_ (State.outCause_steady ..)
    exact hx11
  · exact hx11

theorem execScrubPass_steady (dt : Nat) (s : State) :
    Ends Steady s (execScrubPass dt s) := by
  unfold execScrubPass
  extract_lets +onlyGivenNames -merge -underBinder x1
  have hx1 : Steady s x1 := by
    unfold x1
    exact (State.elapse_calm ..).steady
  refine Ends.ite ?_ ?_
  · refine Ends.next ?_
    refine Steady.trans ?_ (State.scrub_steady ..)
    exact hx1
  · refine Ends.next ?_
    exact hx1

end Sys2Proof.Machine
end

