-- ==== Sys2Proof/Laws/HostPort.lean ====
section
/-! SUPPORT. What the operations of Machine/HostPort.lean leave alone (Laws/Keeps.lean). -/

namespace Sys2Proof.Machine

open Sys2Proof

theorem State.reject_calm (s : State) (bar2 : Bool) (off : Nat) :
    Calm s (State.reject s bar2 off) := by
  unfold State.reject
  extract_lets +onlyGivenNames -merge -underBinder x1
  have hx1 : Calm s x1 := by
    unfold x1
    refine Calm.ite ?_ ?_
    · exact (State.wrn_calm ..)
    · exact Calm.refl _
  refine Calm.trans ?_ (State.incf_calm ..)
  exact hx1

theorem execBarAccessRejected_calm (dt : Nat) (bar2 : Bool) (off : Nat) (write : Bool) (s : State) :
    Ends Calm s (execBarAccessRejected dt bar2 off write s) := by
  unfold execBarAccessRejected
  extract_lets +onlyGivenNames -merge -underBinder x1
  have hx1 : Calm s x1 := by
    unfold x1
    exact (State.elapse_calm ..)
  refine Ends.ite ?_ ?_
  · extract_lets +onlyGivenNames -merge -underBinder x2
    have hx2 : Calm s x2 := by
      unfold x2
      refine Calm.trans ?_ (State.reject_calm ..)
      exact hx1
    refine Ends.next ?_
    refine Calm.ite ?_ ?_
    · exact hx2
    · refine Calm.trans ?_ (State.answerRead_calm ..)
      exact hx2
  · refine Ends.next ?_
    exact hx1

theorem State.msixWrite_calm (s : State) (o : Nat) (v : Word) :
    Calm s (State.msixWrite s o v) := by
  unfold State.msixWrite
  extract_lets +onlyGivenNames -merge -underBinder x1
  extract_lets +onlyGivenNames -merge -underBinder x2
  extract_lets +onlyGivenNames -merge -underBinder x3
  have hx3 : Calm s x3 := by
    unfold x3
    refine Calm.upd ?_ rfl rfl rfl rfl rfl rfl rfl rfl
    exact Calm.refl _
  refine Calm.foldl ?_ (fun t4 a5 h6 => ?_)
  · exact hx3
  · refine Calm.trans ?_ (State.msixSend_calm ..)
    exact h6

theorem State.bar0Read_calm (s : State) (o : Nat) :
    Calm s (State.bar0Read s o).2 := by
  unfold State.bar0Read
  split
  · refine Calm.pair ?_
    exact (State.reject_calm ..)
  · split
    · exact (State.regRead_calm ..)
    · split
      · refine Calm.pair ?_
        exact Calm.refl _
      · split
        · refine Calm.pair ?_
          exact Calm.refl _
        · refine Calm.pair ?_
          exact (State.reject_calm ..)

theorem State.bar0Write_steady (s : State) (o : Nat) (v : Word) :
    Steady s (State.bar0Write s o v) := by
  unfold State.bar0Write
  refine Steady.ite ?_ ?_
  · exact (State.reject_calm ..).steady
  · split
    · exact (State.hostWrite_steady ..)
    · refine Steady.ite ?_ ?_
      · refine Steady.ite ?_ ?_
        · exact (State.msixWrite_calm ..).steady
        · exact Steady.refl _
      · refine Steady.ite ?_ ?_
        · exact Steady.refl _
        · exact (State.reject_calm ..).steady

theorem State.bar2Read_calm (s : State) (o : Nat) :
    Calm s (State.bar2Read s o).2 := by
  unfold State.bar2Read
  split
  · refine Calm.pair ?_
    exact Calm.refl _
  · refine Calm.pair ?_
    exact (State.reject_calm ..)

theorem State.bar2Write_calm (s : State) (o : Nat) (v : Word) :
    Calm s (State.bar2Write s o v) := by
  unfold State.bar2Write
  refine Calm.ite ?_ ?_
  · exact (State.reject_calm ..)
  · refine Calm.ite ?_ ?_
    · refine Calm.hostDo ?_ (fun t1 h2 => ?_)
      · exact Calm.refl _
      · refine Calm.trans ?_ (State.inc_calm ..)
        exact h2
    · refine Calm.ite ?_ ?_
      · refine Calm.hostDo ?_ (fun t3 h4 => ?_)
        · exact Calm.refl _
        · refine Calm.trans ?_ (State.paramWrite_calm ..)
          exact h4
      · exact Calm.refl _

theorem State.spiWords_steady (s : State) (addr : Nat) (b : List Byte) (k : Nat) :
    Steady s (s.spiWords addr b k).2 := by
  induction k generalizing s addr b with
  | zero => unfold State.spiWords; exact Steady.refl s
  | succ k ih =>
    unfold State.spiWords
    extract_lets +onlyGivenNames v locked a
    have ha : Steady s a := Steady.ite (Steady.refl s) (Steady.ite (State.bar2Write_calm ..).steady (State.bar0Write_steady ..))
    clear_value a
    exact ha.trans (ih ..)

theorem State.spiReads_calm (s : State) (addr : Nat) (k : Nat) : Calm s (s.spiReads addr k).2 := by
  induction k generalizing s addr with
  | zero => unfold State.spiReads; exact Calm.refl s
  | succ k ih =>
    unfold State.spiReads
    have h : Calm s (if 2 ^ 31 ≤ addr then s.bar2Read (addr % 2 ^ 28) else s.bar0Read (addr % 2 ^ 20)).2 := by
      split
      · exact State.bar2Read_calm ..
      · exact State.bar0Read_calm ..
    exact h.trans (ih ..)

theorem State.spiFraming_calm (s : State) :
    Calm s (State.spiFraming s) := by
  unfold State.spiFraming
  exact (State.incf_calm ..)

theorem State.spiCrcBad_calm (s : State) :
    Calm s (State.spiCrcBad s) := by
  unfold State.spiCrcBad
  exact (State.incf_calm ..)

theorem State.spiFrame_steady (s : State) (b : List Byte) :
    Steady s (State.spiFrame s b).2.2 := by
  unfold State.spiFrame
  extract_lets +onlyGivenNames -merge -underBinder x1
  extract_lets +onlyGivenNames -merge -underBinder x2
  extract_lets +onlyGivenNames -merge -underBinder x3
  split
  · refine Steady.pairIn ?_
    refine Steady.pair ?_
    exact (State.spiFraming_calm ..).steady
  · split
    · split
      rename_i y4 y5 e6
      have hy5 : Steady s y5 := by
        refine Steady.snd e6 ?_
        exact (State.spiReads_calm ..).steady
      refine Steady.pairIn ?_
      refine Steady.pair ?_
      exact hy5
    · split
      · refine Steady.pairIn ?_
        refine Steady.pair ?_
        exact (State.spiFraming_calm ..).steady
      · split
        · refine Steady.pairIn ?_
          refine Steady.pair ?_
          exact (State.spiCrcBad_calm ..).steady
        · split
          rename_i y7 y8 e9
          have hy8 : Steady s y8 := by
            refine Steady.snd e9 ?_
            exact (State.spiWords_steady ..)
          refine Steady.pairIn ?_
          refine Steady.pair ?_
          exact hy8

theorem execSpiWriteFrame_steady (dt : Nat) (bytes : List Byte) (s : State) :
    Ends Steady s (execSpiWriteFrame dt bytes s) := by
  unfold execSpiWriteFrame
  extract_lets +onlyGivenNames -merge -underBinder x1
  have hx1 : Steady s x1 := by
    unfold x1
    exact (State.elapse_calm ..).steady
  refine Ends.ite ?_ ?_
  · split
    rename_i y2 y3 y4 e5
    have hy4 : Steady s y4 := by
      refine Steady.thd e5 ?_
      refine Steady.trans ?_ (State.spiFrame_steady ..)
      exact hx1
    refine Ends.next ?_
    exact hy4
  · refine Ends.next ?_
    exact hx1

theorem execSpiReadFrame_steady (dt : Nat) (bytes : List Byte) (s : State) :
    Ends Steady s (execSpiReadFrame dt bytes s) := by
  unfold execSpiReadFrame
  extract_lets +onlyGivenNames -merge -underBinder x1
  have hx1 : Steady s x1 := by
    unfold x1
    exact (State.elapse_calm ..).steady
  refine Ends.ite ?_ ?_
  · split
    rename_i y2 y3 y4 e5
    have hy4 : Steady s y4 := by
      refine Steady.thd e5 ?_
      refine Steady.trans ?_ (State.spiFrame_steady ..)
      exact hx1
    refine Ends.next ?_
    refine Steady.ite ?_ ?_
    · exact hy4
    · refine Steady.trans ?_ (State.send_calm ..).steady
      exact hy4
  · refine Ends.next ?_
    exact hx1

theorem execTandemService_steady (dt : Nat) (f : TandemHead) (bytes : List Byte) (s : State) :
    Ends Steady s (execTandemService dt f bytes s) := by
  unfold execTandemService
  split
  rename_i y1 y2 e3
  have hy2 : Steady s y2 := by
    refine Steady.snd e3 ?_
    refine Steady.trans ?_ (State.takeFrame_calm ..).steady
    exact (State.elapse_calm ..).steady
  extract_lets +onlyGivenNames -merge -underBinder x4
  refine Ends.ite ?_ ?_
  · refine Ends.next ?_
    exact hy2
  · refine Ends.ite ?_ ?_
    · split
      rename_i y5 y6 y7 e8
      have hy7 : Steady s y7 := by
        refine Steady.thd e8 ?_
        refine Steady.trans ?_ (State.spiFrame_steady ..)
        exact hy2
      refine Ends.next ?_
      refine Steady.trans ?_ (State.sendFrame_calm ..).steady
      exact hy7
    · refine Ends.ite ?_ ?_
      · refine Ends.next ?_
        refine Steady.trans ?_ (State.ringPush_calm ..).steady
        exact hy2
      · refine Ends.next ?_
        exact hy2

theorem State.erasePage_calm (s : State) (p : Page) : Calm s (s.erasePage p) :=
  ⟨⟨rfl, fun h => ⟨h.1.filter _, fun e k => h.2 e (List.mem_of_mem_filter k)⟩, le_refl _, List.suffix_refl _⟩,
    rfl, fun d => ⟨d, id⟩, rfl, rfl⟩

theorem State.fifosGone_calm (s : State) :
    Calm s (State.fifosGone s) := by
  unfold State.fifosGone
  refine Calm.upd ?_ rfl rfl rfl rfl rfl rfl rfl rfl
  exact Calm.refl _

theorem execLinkReset_calm (dt : Nat) (s : State) :
    Ends Calm s (execLinkReset dt s) := by
  unfold execLinkReset
  extract_lets +onlyGivenNames -merge -underBinder x1
  have hx1 : Calm s x1 := by
    unfold x1
    exact (State.elapse_calm ..)
  refine Ends.ite ?_ ?_
  · refine Ends.next ?_
    exact hx1
  · extract_lets +onlyGivenNames -merge -underBinder x2
    extract_lets +onlyGivenNames -merge -underBinder x3
    have hx3 : Calm s x3 := by
      unfold x3
      refine Calm.trans ?_ (State.fifosGone_calm ..)
      refine Calm.trans ?_ (State.ringsFresh_calm ..)
      refine Calm.trans ?_ (State.setPage_calm ..)
      refine Calm.trans ?_ (State.setPage_calm ..)
      exact hx1
    extract_lets +onlyGivenNames -merge -underBinder x4
    have hx4 : Calm s x4 := by
      unfold x4
      refine Calm.trans ?_ (State.erasePage_calm ..)
      refine Calm.trans ?_ (State.erasePage_calm ..)
      exact hx3
    extract_lets +onlyGivenNames -merge -underBinder x5
    have hx5 : Calm s x5 := by
      unfold x5
      refine Calm.upd ?_ rfl rfl rfl rfl rfl rfl rfl rfl
      exact hx4
    refine Ends.next ?_
    refine Calm.trans ?_ (State.pageLine_calm ..)
    refine Calm.trans ?_ (State.pageLine_calm ..)
    refine Calm.trans ?_ (State.wrf_calm ..)
    exact hx5

end Sys2Proof.Machine
end

