-- ==== Sys2Proof/Laws/State.lean ====
section
/-! SUPPORT. One lemma per field and update: what the named updates of Machine/Ops.lean leave as it was, and what reads of a
register give after a write. -/

namespace Sys2Proof.Machine

open Sys2Proof

@[simp] theorem State.setMode_pages (s : State) (m : Mode) :
    (s.setMode m).pages = s.pages := rfl

@[simp] theorem State.setMode_regs (s : State) (m : Mode) :
    (s.setMode m).regs = s.regs := rfl

@[simp] theorem State.setMode_rings (s : State) (m : Mode) :
    (s.setMode m).rings = s.rings := rfl

@[simp] theorem State.setMode_host (s : State) (m : Mode) :
    (s.setMode m).host = s.host := rfl

@[simp] theorem State.setMode_irq (s : State) (m : Mode) :
    (s.setMode m).irq = s.irq := rfl

@[simp] theorem State.setMode_free (s : State) (m : Mode) :
    (s.setMode m).free = s.free := rfl

@[simp] theorem State.setMode_sent (s : State) (m : Mode) :
    (s.setMode m).sent = s.sent := rfl

@[simp] theorem State.setMode_pending (s : State) (m : Mode) :
    (s.setMode m).pending = s.pending := rfl

@[simp] theorem State.setMode_acc (s : State) (m : Mode) :
    (s.setMode m).acc = s.acc := rfl

@[simp] theorem State.setMode_tb (s : State) (m : Mode) :
    (s.setMode m).tb = s.tb := rfl

@[simp] theorem State.setMode_sns (s : State) (m : Mode) :
    (s.setMode m).sns = s.sns := rfl

@[simp] theorem State.setMode_mod (s : State) (m : Mode) :
    (s.setMode m).mod = s.mod := rfl

@[simp] theorem State.setMode_chg (s : State) (m : Mode) :
    (s.setMode m).chg = s.chg := rfl

@[simp] theorem State.setMode_jrn (s : State) (m : Mode) :
    (s.setMode m).jrn = s.jrn := rfl

@[simp] theorem State.setMode_est (s : State) (m : Mode) :
    (s.setMode m).est = s.est := rfl

@[simp] theorem State.setMode_ost (s : State) (m : Mode) :
    (s.setMode m).ost = s.ost := rfl

@[simp] theorem State.setMode_bal (s : State) (m : Mode) :
    (s.setMode m).bal = s.bal := rfl

@[simp] theorem State.setMode_cth (s : State) (m : Mode) :
    (s.setMode m).cth = s.cth := rfl

@[simp] theorem State.setMode_loops (s : State) (m : Mode) :
    (s.setMode m).loops = s.loops := rfl

@[simp] theorem State.setMode_prot (s : State) (m : Mode) :
    (s.setMode m).prot = s.prot := rfl

@[simp] theorem State.setMode_safe (s : State) (m : Mode) :
    (s.setMode m).safe = s.safe := rfl

@[simp] theorem State.setMode_slay (s : State) (m : Mode) :
    (s.setMode m).slay = s.slay := rfl

@[simp] theorem State.setMode_events (s : State) (m : Mode) :
    (s.setMode m).events = s.events := rfl

@[simp] theorem State.setMode_completions (s : State) (m : Mode) :
    (s.setMode m).completions = s.completions := rfl

@[simp] theorem State.setMode_tdm (s : State) (m : Mode) :
    (s.setMode m).tdm = s.tdm := rfl

@[simp] theorem State.setMode_wit (s : State) (m : Mode) :
    (s.setMode m).wit = s.wit := rfl

@[simp] theorem State.setMode_way (s : State) (m : Mode) :
    (s.setMode m).way = s.way := rfl

@[simp] theorem State.setMode_sbx (s : State) (m : Mode) :
    (s.setMode m).sbx = s.sbx := rfl

@[simp] theorem State.setMode_can (s : State) (m : Mode) :
    (s.setMode m).can = s.can := rfl

@[simp] theorem State.setMode_eth (s : State) (m : Mode) :
    (s.setMode m).eth = s.eth := rfl

@[simp] theorem State.setMode_time (s : State) (m : Mode) :
    (s.setMode m).time = s.time := rfl

@[simp] theorem State.setMode_keyWait (s : State) (m : Mode) :
    (s.setMode m).keyWait = s.keyWait := rfl

@[simp] theorem State.setMode_fwu (s : State) (m : Mode) :
    (s.setMode m).fwu = s.fwu := rfl

@[simp] theorem State.setMode_thm (s : State) (m : Mode) :
    (s.setMode m).thm = s.thm := rfl

@[simp] theorem State.setMode_pwrAlarm (s : State) (m : Mode) :
    (s.setMode m).pwrAlarm = s.pwrAlarm := rfl

@[simp] theorem State.setMode_mram (s : State) (m : Mode) :
    (s.setMode m).mram = s.mram := rfl

@[simp] theorem State.setPage_sys (s : State) (p : Page) (t : PageState) :
    (s.setPage p t).sys = s.sys := rfl

@[simp] theorem State.setPage_regs (s : State) (p : Page) (t : PageState) :
    (s.setPage p t).regs = s.regs := rfl

@[simp] theorem State.setPage_rings (s : State) (p : Page) (t : PageState) :
    (s.setPage p t).rings = s.rings := rfl

@[simp] theorem State.setPage_host (s : State) (p : Page) (t : PageState) :
    (s.setPage p t).host = s.host := rfl

@[simp] theorem State.setPage_irq (s : State) (p : Page) (t : PageState) :
    (s.setPage p t).irq = s.irq := rfl

@[simp] theorem State.setPage_free (s : State) (p : Page) (t : PageState) :
    (s.setPage p t).free = s.free := rfl

@[simp] theorem State.setPage_sent (s : State) (p : Page) (t : PageState) :
    (s.setPage p t).sent = s.sent := rfl

@[simp] theorem State.setPage_pending (s : State) (p : Page) (t : PageState) :
    (s.setPage p t).pending = s.pending := rfl

@[simp] theorem State.setPage_acc (s : State) (p : Page) (t : PageState) :
    (s.setPage p t).acc = s.acc := rfl

@[simp] theorem State.setPage_tb (s : State) (p : Page) (t : PageState) :
    (s.setPage p t).tb = s.tb := rfl

@[simp] theorem State.setPage_sns (s : State) (p : Page) (t : PageState) :
    (s.setPage p t).sns = s.sns := rfl

@[simp] theorem State.setPage_mod (s : State) (p : Page) (t : PageState) :
    (s.setPage p t).mod = s.mod := rfl

@[simp] theorem State.setPage_chg (s : State) (p : Page) (t : PageState) :
    (s.setPage p t).chg = s.chg := rfl

@[simp] theorem State.setPage_jrn (s : State) (p : Page) (t : PageState) :
    (s.setPage p t).jrn = s.jrn := rfl

@[simp] theorem State.setPage_est (s : State) (p : Page) (t : PageState) :
    (s.setPage p t).est = s.est := rfl

@[simp] theorem State.setPage_ost (s : State) (p : Page) (t : PageState) :
    (s.setPage p t).ost = s.ost := rfl

@[simp] theorem State.setPage_bal (s : State) (p : Page) (t : PageState) :
    (s.setPage p t).bal = s.bal := rfl

@[simp] theorem State.setPage_cth (s : State) (p : Page) (t : PageState) :
    (s.setPage p t).cth = s.cth := rfl

@[simp] theorem State.setPage_loops (s : State) (p : Page) (t : PageState) :
    (s.setPage p t).loops = s.loops := rfl

@[simp] theorem State.setPage_prot (s : State) (p : Page) (t : PageState) :
    (s.setPage p t).prot = s.prot := rfl

@[simp] theorem State.setPage_safe (s : State) (p : Page) (t : PageState) :
    (s.setPage p t).safe = s.safe := rfl

@[simp] theorem State.setPage_slay (s : State) (p : Page) (t : PageState) :
    (s.setPage p t).slay = s.slay := rfl

@[simp] theorem State.setPage_events (s : State) (p : Page) (t : PageState) :
    (s.setPage p t).events = s.events := rfl

@[simp] theorem State.setPage_completions (s : State) (p : Page) (t : PageState) :
    (s.setPage p t).completions = s.completions := rfl

@[simp] theorem State.setPage_tdm (s : State) (p : Page) (t : PageState) :
    (s.setPage p t).tdm = s.tdm := rfl

@[simp] theorem State.setPage_wit (s : State) (p : Page) (t : PageState) :
    (s.setPage p t).wit = s.wit := rfl

@[simp] theorem State.setPage_way (s : State) (p : Page) (t : PageState) :
    (s.setPage p t).way = s.way := rfl

@[simp] theorem State.setPage_sbx (s : State) (p : Page) (t : PageState) :
    (s.setPage p t).sbx = s.sbx := rfl

@[simp] theorem State.setPage_can (s : State) (p : Page) (t : PageState) :
    (s.setPage p t).can = s.can := rfl

@[simp] theorem State.setPage_eth (s : State) (p : Page) (t : PageState) :
    (s.setPage p t).eth = s.eth := rfl

@[simp] theorem State.setPage_time (s : State) (p : Page) (t : PageState) :
    (s.setPage p t).time = s.time := rfl

@[simp] theorem State.setPage_keyWait (s : State) (p : Page) (t : PageState) :
    (s.setPage p t).keyWait = s.keyWait := rfl

@[simp] theorem State.setPage_fwu (s : State) (p : Page) (t : PageState) :
    (s.setPage p t).fwu = s.fwu := rfl

@[simp] theorem State.setPage_thm (s : State) (p : Page) (t : PageState) :
    (s.setPage p t).thm = s.thm := rfl

@[simp] theorem State.setPage_pwrAlarm (s : State) (p : Page) (t : PageState) :
    (s.setPage p t).pwrAlarm = s.pwrAlarm := rfl

@[simp] theorem State.setPage_mram (s : State) (p : Page) (t : PageState) :
    (s.setPage p t).mram = s.mram := rfl

@[simp] theorem State.send_sys (s : State) (m : Msg) :
    (s.send m).sys = s.sys := rfl

@[simp] theorem State.send_pages (s : State) (m : Msg) :
    (s.send m).pages = s.pages := rfl

@[simp] theorem State.send_regs (s : State) (m : Msg) :
    (s.send m).regs = s.regs := rfl

@[simp] theorem State.send_rings (s : State) (m : Msg) :
    (s.send m).rings = s.rings := rfl

@[simp] theorem State.send_host (s : State) (m : Msg) :
    (s.send m).host = s.host := rfl

@[simp] theorem State.send_irq (s : State) (m : Msg) :
    (s.send m).irq = s.irq := rfl

@[simp] theorem State.send_free (s : State) (m : Msg) :
    (s.send m).free = s.free := rfl

@[simp] theorem State.send_pending (s : State) (m : Msg) :
    (s.send m).pending = s.pending := rfl

@[simp] theorem State.send_acc (s : State) (m : Msg) :
    (s.send m).acc = s.acc := rfl

@[simp] theorem State.send_tb (s : State) (m : Msg) :
    (s.send m).tb = s.tb := rfl

@[simp] theorem State.send_sns (s : State) (m : Msg) :
    (s.send m).sns = s.sns := rfl

@[simp] theorem State.send_mod (s : State) (m : Msg) :
    (s.send m).mod = s.mod := rfl

@[simp] theorem State.send_chg (s : State) (m : Msg) :
    (s.send m).chg = s.chg := rfl

@[simp] theorem State.send_jrn (s : State) (m : Msg) :
    (s.send m).jrn = s.jrn := rfl

@[simp] theorem State.send_est (s : State) (m : Msg) :
    (s.send m).est = s.est := rfl

@[simp] theorem State.send_ost (s : State) (m : Msg) :
    (s.send m).ost = s.ost := rfl

@[simp] theorem State.send_bal (s : State) (m : Msg) :
    (s.send m).bal = s.bal := rfl

@[simp] theorem State.send_cth (s : State) (m : Msg) :
    (s.send m).cth = s.cth := rfl

@[simp] theorem State.send_loops (s : State) (m : Msg) :
    (s.send m).loops = s.loops := rfl

@[simp] theorem State.send_prot (s : State) (m : Msg) :
    (s.send m).prot = s.prot := rfl

@[simp] theorem State.send_safe (s : State) (m : Msg) :
    (s.send m).safe = s.safe := rfl

@[simp] theorem State.send_slay (s : State) (m : Msg) :
    (s.send m).slay = s.slay := rfl

@[simp] theorem State.send_events (s : State) (m : Msg) :
    (s.send m).events = s.events := rfl

@[simp] theorem State.send_completions (s : State) (m : Msg) :
    (s.send m).completions = s.completions := rfl

@[simp] theorem State.send_tdm (s : State) (m : Msg) :
    (s.send m).tdm = s.tdm := rfl

@[simp] theorem State.send_wit (s : State) (m : Msg) :
    (s.send m).wit = s.wit := rfl

@[simp] theorem State.send_way (s : State) (m : Msg) :
    (s.send m).way = s.way := rfl

@[simp] theorem State.send_sbx (s : State) (m : Msg) :
    (s.send m).sbx = s.sbx := rfl

@[simp] theorem State.send_can (s : State) (m : Msg) :
    (s.send m).can = s.can := rfl

@[simp] theorem State.send_eth (s : State) (m : Msg) :
    (s.send m).eth = s.eth := rfl

@[simp] theorem State.send_time (s : State) (m : Msg) :
    (s.send m).time = s.time := rfl

@[simp] theorem State.send_keyWait (s : State) (m : Msg) :
    (s.send m).keyWait = s.keyWait := rfl

@[simp] theorem State.send_fwu (s : State) (m : Msg) :
    (s.send m).fwu = s.fwu := rfl

@[simp] theorem State.send_thm (s : State) (m : Msg) :
    (s.send m).thm = s.thm := rfl

@[simp] theorem State.send_pwrAlarm (s : State) (m : Msg) :
    (s.send m).pwrAlarm = s.pwrAlarm := rfl

@[simp] theorem State.send_mram (s : State) (m : Msg) :
    (s.send m).mram = s.mram := rfl

@[simp] theorem State.setSrc_sys (s : State) (n : Nat) (v : SrcSt) :
    (s.setSrc n v).sys = s.sys := rfl

@[simp] theorem State.setSrc_pages (s : State) (n : Nat) (v : SrcSt) :
    (s.setSrc n v).pages = s.pages := rfl

@[simp] theorem State.setSrc_regs (s : State) (n : Nat) (v : SrcSt) :
    (s.setSrc n v).regs = s.regs := rfl

@[simp] theorem State.setSrc_rings (s : State) (n : Nat) (v : SrcSt) :
    (s.setSrc n v).rings = s.rings := rfl

@[simp] theorem State.setSrc_host (s : State) (n : Nat) (v : SrcSt) :
    (s.setSrc n v).host = s.host := rfl

@[simp] theorem State.setSrc_free (s : State) (n : Nat) (v : SrcSt) :
    (s.setSrc n v).free = s.free := rfl

@[simp] theorem State.setSrc_sent (s : State) (n : Nat) (v : SrcSt) :
    (s.setSrc n v).sent = s.sent := rfl

@[simp] theorem State.setSrc_pending (s : State) (n : Nat) (v : SrcSt) :
    (s.setSrc n v).pending = s.pending := rfl

@[simp] theorem State.setSrc_acc (s : State) (n : Nat) (v : SrcSt) :
    (s.setSrc n v).acc = s.acc := rfl

@[simp] theorem State.setSrc_tb (s : State) (n : Nat) (v : SrcSt) :
    (s.setSrc n v).tb = s.tb := rfl

@[simp] theorem State.setSrc_sns (s : State) (n : Nat) (v : SrcSt) :
    (s.setSrc n v).sns = s.sns := rfl

@[simp] theorem State.setSrc_mod (s : State) (n : Nat) (v : SrcSt) :
    (s.setSrc n v).mod = s.mod := rfl

@[simp] theorem State.setSrc_chg (s : State) (n : Nat) (v : SrcSt) :
    (s.setSrc n v).chg = s.chg := rfl

@[simp] theorem State.setSrc_jrn (s : State) (n : Nat) (v : SrcSt) :
    (s.setSrc n v).jrn = s.jrn := rfl

@[simp] theorem State.setSrc_est (s : State) (n : Nat) (v : SrcSt) :
    (s.setSrc n v).est = s.est := rfl

@[simp] theorem State.setSrc_ost (s : State) (n : Nat) (v : SrcSt) :
    (s.setSrc n v).ost = s.ost := rfl

@[simp] theorem State.setSrc_bal (s : State) (n : Nat) (v : SrcSt) :
    (s.setSrc n v).bal = s.bal := rfl

@[simp] theorem State.setSrc_cth (s : State) (n : Nat) (v : SrcSt) :
    (s.setSrc n v).cth = s.cth := rfl

@[simp] theorem State.setSrc_loops (s : State) (n : Nat) (v : SrcSt) :
    (s.setSrc n v).loops = s.loops := rfl

@[simp] theorem State.setSrc_prot (s : State) (n : Nat) (v : SrcSt) :
    (s.setSrc n v).prot = s.prot := rfl

@[simp] theorem State.setSrc_safe (s : State) (n : Nat) (v : SrcSt) :
    (s.setSrc n v).safe = s.safe := rfl

@[simp] theorem State.setSrc_slay (s : State) (n : Nat) (v : SrcSt) :
    (s.setSrc n v).slay = s.slay := rfl

@[simp] theorem State.setSrc_events (s : State) (n : Nat) (v : SrcSt) :
    (s.setSrc n v).events = s.events := rfl

@[simp] theorem State.setSrc_completions (s : State) (n : Nat) (v : SrcSt) :
    (s.setSrc n v).completions = s.completions := rfl

@[simp] theorem State.setSrc_tdm (s : State) (n : Nat) (v : SrcSt) :
    (s.setSrc n v).tdm = s.tdm := rfl

@[simp] theorem State.setSrc_wit (s : State) (n : Nat) (v : SrcSt) :
    (s.setSrc n v).wit = s.wit := rfl

@[simp] theorem State.setSrc_way (s : State) (n : Nat) (v : SrcSt) :
    (s.setSrc n v).way = s.way := rfl

@[simp] theorem State.setSrc_sbx (s : State) (n : Nat) (v : SrcSt) :
    (s.setSrc n v).sbx = s.sbx := rfl

@[simp] theorem State.setSrc_can (s : State) (n : Nat) (v : SrcSt) :
    (s.setSrc n v).can = s.can := rfl

@[simp] theorem State.setSrc_eth (s : State) (n : Nat) (v : SrcSt) :
    (s.setSrc n v).eth = s.eth := rfl

@[simp] theorem State.setSrc_time (s : State) (n : Nat) (v : SrcSt) :
    (s.setSrc n v).time = s.time := rfl

@[simp] theorem State.setSrc_keyWait (s : State) (n : Nat) (v : SrcSt) :
    (s.setSrc n v).keyWait = s.keyWait := rfl

@[simp] theorem State.setSrc_fwu (s : State) (n : Nat) (v : SrcSt) :
    (s.setSrc n v).fwu = s.fwu := rfl

@[simp] theorem State.setSrc_thm (s : State) (n : Nat) (v : SrcSt) :
    (s.setSrc n v).thm = s.thm := rfl

@[simp] theorem State.setSrc_pwrAlarm (s : State) (n : Nat) (v : SrcSt) :
    (s.setSrc n v).pwrAlarm = s.pwrAlarm := rfl

@[simp] theorem State.setSrc_mram (s : State) (n : Nat) (v : SrcSt) :
    (s.setSrc n v).mram = s.mram := rfl

@[simp] theorem State.setTgt_sys (s : State) (n : Nat) (v : TgtSt) :
    (s.setTgt n v).sys = s.sys := rfl

@[simp] theorem State.setTgt_pages (s : State) (n : Nat) (v : TgtSt) :
    (s.setTgt n v).pages = s.pages := rfl

@[simp] theorem State.setTgt_regs (s : State) (n : Nat) (v : TgtSt) :
    (s.setTgt n v).regs = s.regs := rfl

@[simp] theorem State.setTgt_rings (s : State) (n : Nat) (v : TgtSt) :
    (s.setTgt n v).rings = s.rings := rfl

@[simp] theorem State.setTgt_host (s : State) (n : Nat) (v : TgtSt) :
    (s.setTgt n v).host = s.host := rfl

@[simp] theorem State.setTgt_free (s : State) (n : Nat) (v : TgtSt) :
    (s.setTgt n v).free = s.free := rfl

@[simp] theorem State.setTgt_sent (s : State) (n : Nat) (v : TgtSt) :
    (s.setTgt n v).sent = s.sent := rfl

@[simp] theorem State.setTgt_pending (s : State) (n : Nat) (v : TgtSt) :
    (s.setTgt n v).pending = s.pending := rfl

@[simp] theorem State.setTgt_acc (s : State) (n : Nat) (v : TgtSt) :
    (s.setTgt n v).acc = s.acc := rfl

@[simp] theorem State.setTgt_tb (s : State) (n : Nat) (v : TgtSt) :
    (s.setTgt n v).tb = s.tb := rfl

@[simp] theorem State.setTgt_sns (s : State) (n : Nat) (v : TgtSt) :
    (s.setTgt n v).sns = s.sns := rfl

@[simp] theorem State.setTgt_mod (s : State) (n : Nat) (v : TgtSt) :
    (s.setTgt n v).mod = s.mod := rfl

@[simp] theorem State.setTgt_chg (s : State) (n : Nat) (v : TgtSt) :
    (s.setTgt n v).chg = s.chg := rfl

@[simp] theorem State.setTgt_jrn (s : State) (n : Nat) (v : TgtSt) :
    (s.setTgt n v).jrn = s.jrn := rfl

@[simp] theorem State.setTgt_est (s : State) (n : Nat) (v : TgtSt) :
    (s.setTgt n v).est = s.est := rfl

@[simp] theorem State.setTgt_ost (s : State) (n : Nat) (v : TgtSt) :
    (s.setTgt n v).ost = s.ost := rfl

@[simp] theorem State.setTgt_bal (s : State) (n : Nat) (v : TgtSt) :
    (s.setTgt n v).bal = s.bal := rfl

@[simp] theorem State.setTgt_cth (s : State) (n : Nat) (v : TgtSt) :
    (s.setTgt n v).cth = s.cth := rfl

@[simp] theorem State.setTgt_loops (s : State) (n : Nat) (v : TgtSt) :
    (s.setTgt n v).loops = s.loops := rfl

@[simp] theorem State.setTgt_prot (s : State) (n : Nat) (v : TgtSt) :
    (s.setTgt n v).prot = s.prot := rfl

@[simp] theorem State.setTgt_safe (s : State) (n : Nat) (v : TgtSt) :
    (s.setTgt n v).safe = s.safe := rfl

@[simp] theorem State.setTgt_slay (s : State) (n : Nat) (v : TgtSt) :
    (s.setTgt n v).slay = s.slay := rfl

@[simp] theorem State.setTgt_events (s : State) (n : Nat) (v : TgtSt) :
    (s.setTgt n v).events = s.events := rfl

@[simp] theorem State.setTgt_completions (s : State) (n : Nat) (v : TgtSt) :
    (s.setTgt n v).completions = s.completions := rfl

@[simp] theorem State.setTgt_tdm (s : State) (n : Nat) (v : TgtSt) :
    (s.setTgt n v).tdm = s.tdm := rfl

@[simp] theorem State.setTgt_wit (s : State) (n : Nat) (v : TgtSt) :
    (s.setTgt n v).wit = s.wit := rfl

@[simp] theorem State.setTgt_way (s : State) (n : Nat) (v : TgtSt) :
    (s.setTgt n v).way = s.way := rfl

@[simp] theorem State.setTgt_sbx (s : State) (n : Nat) (v : TgtSt) :
    (s.setTgt n v).sbx = s.sbx := rfl

@[simp] theorem State.setTgt_can (s : State) (n : Nat) (v : TgtSt) :
    (s.setTgt n v).can = s.can := rfl

@[simp] theorem State.setTgt_eth (s : State) (n : Nat) (v : TgtSt) :
    (s.setTgt n v).eth = s.eth := rfl

@[simp] theorem State.setTgt_time (s : State) (n : Nat) (v : TgtSt) :
    (s.setTgt n v).time = s.time := rfl

@[simp] theorem State.setTgt_keyWait (s : State) (n : Nat) (v : TgtSt) :
    (s.setTgt n v).keyWait = s.keyWait := rfl

@[simp] theorem State.setTgt_fwu (s : State) (n : Nat) (v : TgtSt) :
    (s.setTgt n v).fwu = s.fwu := rfl

@[simp] theorem State.setTgt_thm (s : State) (n : Nat) (v : TgtSt) :
    (s.setTgt n v).thm = s.thm := rfl

@[simp] theorem State.setTgt_pwrAlarm (s : State) (n : Nat) (v : TgtSt) :
    (s.setTgt n v).pwrAlarm = s.pwrAlarm := rfl

@[simp] theorem State.setTgt_mram (s : State) (n : Nat) (v : TgtSt) :
    (s.setTgt n v).mram = s.mram := rfl

@[simp] theorem State.setRing_sys (s : State) (n : Nat) (r : RingSt) :
    (s.setRing n r).sys = s.sys := rfl

@[simp] theorem State.setRing_pages (s : State) (n : Nat) (r : RingSt) :
    (s.setRing n r).pages = s.pages := rfl

@[simp] theorem State.setRing_regs (s : State) (n : Nat) (r : RingSt) :
    (s.setRing n r).regs = s.regs := rfl

@[simp] theorem State.setRing_host (s : State) (n : Nat) (r : RingSt) :
    (s.setRing n r).host = s.host := rfl

@[simp] theorem State.setRing_irq (s : State) (n : Nat) (r : RingSt) :
    (s.setRing n r).irq = s.irq := rfl

@[simp] theorem State.setRing_free (s : State) (n : Nat) (r : RingSt) :
    (s.setRing n r).free = s.free := rfl

@[simp] theorem State.setRing_sent (s : State) (n : Nat) (r : RingSt) :
    (s.setRing n r).sent = s.sent := rfl

@[simp] theorem State.setRing_pending (s : State) (n : Nat) (r : RingSt) :
    (s.setRing n r).pending = s.pending := rfl

@[simp] theorem State.setRing_acc (s : State) (n : Nat) (r : RingSt) :
    (s.setRing n r).acc = s.acc := rfl

@[simp] theorem State.setRing_tb (s : State) (n : Nat) (r : RingSt) :
    (s.setRing n r).tb = s.tb := rfl

@[simp] theorem State.setRing_sns (s : State) (n : Nat) (r : RingSt) :
    (s.setRing n r).sns = s.sns := rfl

@[simp] theorem State.setRing_mod (s : State) (n : Nat) (r : RingSt) :
    (s.setRing n r).mod = s.mod := rfl

@[simp] theorem State.setRing_chg (s : State) (n : Nat) (r : RingSt) :
    (s.setRing n r).chg = s.chg := rfl

@[simp] theorem State.setRing_jrn (s : State) (n : Nat) (r : RingSt) :
    (s.setRing n r).jrn = s.jrn := rfl

@[simp] theorem State.setRing_est (s : State) (n : Nat) (r : RingSt) :
    (s.setRing n r).est = s.est := rfl

@[simp] theorem State.setRing_ost (s : State) (n : Nat) (r : RingSt) :
    (s.setRing n r).ost = s.ost := rfl

@[simp] theorem State.setRing_bal (s : State) (n : Nat) (r : RingSt) :
    (s.setRing n r).bal = s.bal := rfl

@[simp] theorem State.setRing_cth (s : State) (n : Nat) (r : RingSt) :
    (s.setRing n r).cth = s.cth := rfl

@[simp] theorem State.setRing_loops (s : State) (n : Nat) (r : RingSt) :
    (s.setRing n r).loops = s.loops := rfl

@[simp] theorem State.setRing_prot (s : State) (n : Nat) (r : RingSt) :
    (s.setRing n r).prot = s.prot := rfl

@[simp] theorem State.setRing_safe (s : State) (n : Nat) (r : RingSt) :
    (s.setRing n r).safe = s.safe := rfl

@[simp] theorem State.setRing_slay (s : State) (n : Nat) (r : RingSt) :
    (s.setRing n r).slay = s.slay := rfl

@[simp] theorem State.setRing_events (s : State) (n : Nat) (r : RingSt) :
    (s.setRing n r).events = s.events := rfl

@[simp] theorem State.setRing_completions (s : State) (n : Nat) (r : RingSt) :
    (s.setRing n r).completions = s.completions := rfl

@[simp] theorem State.setRing_tdm (s : State) (n : Nat) (r : RingSt) :
    (s.setRing n r).tdm = s.tdm := rfl

@[simp] theorem State.setRing_wit (s : State) (n : Nat) (r : RingSt) :
    (s.setRing n r).wit = s.wit := rfl

@[simp] theorem State.setRing_way (s : State) (n : Nat) (r : RingSt) :
    (s.setRing n r).way = s.way := rfl

@[simp] theorem State.setRing_sbx (s : State) (n : Nat) (r : RingSt) :
    (s.setRing n r).sbx = s.sbx := rfl

@[simp] theorem State.setRing_can (s : State) (n : Nat) (r : RingSt) :
    (s.setRing n r).can = s.can := rfl

@[simp] theorem State.setRing_eth (s : State) (n : Nat) (r : RingSt) :
    (s.setRing n r).eth = s.eth := rfl

@[simp] theorem State.setRing_time (s : State) (n : Nat) (r : RingSt) :
    (s.setRing n r).time = s.time := rfl

@[simp] theorem State.setRing_keyWait (s : State) (n : Nat) (r : RingSt) :
    (s.setRing n r).keyWait = s.keyWait := rfl

@[simp] theorem State.setRing_fwu (s : State) (n : Nat) (r : RingSt) :
    (s.setRing n r).fwu = s.fwu := rfl

@[simp] theorem State.setRing_thm (s : State) (n : Nat) (r : RingSt) :
    (s.setRing n r).thm = s.thm := rfl

@[simp] theorem State.setRing_pwrAlarm (s : State) (n : Nat) (r : RingSt) :
    (s.setRing n r).pwrAlarm = s.pwrAlarm := rfl

@[simp] theorem State.setRing_mram (s : State) (n : Nat) (r : RingSt) :
    (s.setRing n r).mram = s.mram := rfl

@[simp] theorem State.wayEntry_sys (s : State) (k : Nat) (b : List Byte) :
    (s.wayEntry k b).sys = s.sys := rfl

@[simp] theorem State.wayEntry_pages (s : State) (k : Nat) (b : List Byte) :
    (s.wayEntry k b).pages = s.pages := rfl

@[simp] theorem State.wayEntry_regs (s : State) (k : Nat) (b : List Byte) :
    (s.wayEntry k b).regs = s.regs := rfl

@[simp] theorem State.wayEntry_rings (s : State) (k : Nat) (b : List Byte) :
    (s.wayEntry k b).rings = s.rings := rfl

@[simp] theorem State.wayEntry_host (s : State) (k : Nat) (b : List Byte) :
    (s.wayEntry k b).host = s.host := rfl

@[simp] theorem State.wayEntry_irq (s : State) (k : Nat) (b : List Byte) :
    (s.wayEntry k b).irq = s.irq := rfl

@[simp] theorem State.wayEntry_free (s : State) (k : Nat) (b : List Byte) :
    (s.wayEntry k b).free = s.free := rfl

@[simp] theorem State.wayEntry_sent (s : State) (k : Nat) (b : List Byte) :
    (s.wayEntry k b).sent = s.sent := rfl

@[simp] theorem State.wayEntry_pending (s : State) (k : Nat) (b : List Byte) :
    (s.wayEntry k b).pending = s.pending := rfl

@[simp] theorem State.wayEntry_acc (s : State) (k : Nat) (b : List Byte) :
    (s.wayEntry k b).acc = s.acc := rfl

@[simp] theorem State.wayEntry_tb (s : State) (k : Nat) (b : List Byte) :
    (s.wayEntry k b).tb = s.tb := rfl

@[simp] theorem State.wayEntry_sns (s : State) (k : Nat) (b : List Byte) :
    (s.wayEntry k b).sns = s.sns := rfl

@[simp] theorem State.wayEntry_mod (s : State) (k : Nat) (b : List Byte) :
    (s.wayEntry k b).mod = s.mod := rfl

@[simp] theorem State.wayEntry_chg (s : State) (k : Nat) (b : List Byte) :
    (s.wayEntry k b).chg = s.chg := rfl

@[simp] theorem State.wayEntry_jrn (s : State) (k : Nat) (b : List Byte) :
    (s.wayEntry k b).jrn = s.jrn := rfl

@[simp] theorem State.wayEntry_est (s : State) (k : Nat) (b : List Byte) :
    (s.wayEntry k b).est = s.est := rfl

@[simp] theorem State.wayEntry_ost (s : State) (k : Nat) (b : List Byte) :
    (s.wayEntry k b).ost = s.ost := rfl

@[simp] theorem State.wayEntry_bal (s : State) (k : Nat) (b : List Byte) :
    (s.wayEntry k b).bal = s.bal := rfl

@[simp] theorem State.wayEntry_cth (s : State) (k : Nat) (b : List Byte) :
    (s.wayEntry k b).cth = s.cth := rfl

@[simp] theorem State.wayEntry_loops (s : State) (k : Nat) (b : List Byte) :
    (s.wayEntry k b).loops = s.loops := rfl

@[simp] theorem State.wayEntry_prot (s : State) (k : Nat) (b : List Byte) :
    (s.wayEntry k b).prot = s.prot := rfl

@[simp] theorem State.wayEntry_safe (s : State) (k : Nat) (b : List Byte) :
    (s.wayEntry k b).safe = s.safe := rfl

@[simp] theorem State.wayEntry_slay (s : State) (k : Nat) (b : List Byte) :
    (s.wayEntry k b).slay = s.slay := rfl

@[simp] theorem State.wayEntry_events (s : State) (k : Nat) (b : List Byte) :
    (s.wayEntry k b).events = s.events := rfl

@[simp] theorem State.wayEntry_completions (s : State) (k : Nat) (b : List Byte) :
    (s.wayEntry k b).completions = s.completions := rfl

@[simp] theorem State.wayEntry_tdm (s : State) (k : Nat) (b : List Byte) :
    (s.wayEntry k b).tdm = s.tdm := rfl

@[simp] theorem State.wayEntry_wit (s : State) (k : Nat) (b : List Byte) :
    (s.wayEntry k b).wit = s.wit := rfl

@[simp] theorem State.wayEntry_sbx (s : State) (k : Nat) (b : List Byte) :
    (s.wayEntry k b).sbx = s.sbx := rfl

@[simp] theorem State.wayEntry_can (s : State) (k : Nat) (b : List Byte) :
    (s.wayEntry k b).can = s.can := rfl

@[simp] theorem State.wayEntry_eth (s : State) (k : Nat) (b : List Byte) :
    (s.wayEntry k b).eth = s.eth := rfl

@[simp] theorem State.wayEntry_time (s : State) (k : Nat) (b : List Byte) :
    (s.wayEntry k b).time = s.time := rfl

@[simp] theorem State.wayEntry_keyWait (s : State) (k : Nat) (b : List Byte) :
    (s.wayEntry k b).keyWait = s.keyWait := rfl

@[simp] theorem State.wayEntry_fwu (s : State) (k : Nat) (b : List Byte) :
    (s.wayEntry k b).fwu = s.fwu := rfl

@[simp] theorem State.wayEntry_thm (s : State) (k : Nat) (b : List Byte) :
    (s.wayEntry k b).thm = s.thm := rfl

@[simp] theorem State.wayEntry_pwrAlarm (s : State) (k : Nat) (b : List Byte) :
    (s.wayEntry k b).pwrAlarm = s.pwrAlarm := rfl

@[simp] theorem State.wayEntry_mram (s : State) (k : Nat) (b : List Byte) :
    (s.wayEntry k b).mram = s.mram := rfl

@[simp] theorem State.elapse_pages (s : State) (dt : Nat) :
    (s.elapse dt).pages = s.pages := by
  unfold State.elapse; split <;> rfl

@[simp] theorem State.elapse_regs (s : State) (dt : Nat) :
    (s.elapse dt).regs = s.regs := by
  unfold State.elapse; split <;> rfl

@[simp] theorem State.elapse_rings (s : State) (dt : Nat) :
    (s.elapse dt).rings = s.rings := by
  unfold State.elapse; split <;> rfl

@[simp] theorem State.elapse_host (s : State) (dt : Nat) :
    (s.elapse dt).host = s.host := by
  unfold State.elapse; split <;> rfl

@[simp] theorem State.elapse_irq (s : State) (dt : Nat) :
    (s.elapse dt).irq = s.irq := by
  unfold State.elapse; split <;> rfl

@[simp] theorem State.elapse_free (s : State) (dt : Nat) :
    (s.elapse dt).free = s.free := by
  unfold State.elapse; split <;> rfl

@[simp] theorem State.elapse_sent (s : State) (dt : Nat) :
    (s.elapse dt).sent = s.sent := by
  unfold State.elapse; split <;> rfl

@[simp] theorem State.elapse_pending (s : State) (dt : Nat) :
    (s.elapse dt).pending = s.pending := by
  unfold State.elapse; split <;> rfl

@[simp] theorem State.elapse_acc (s : State) (dt : Nat) :
    (s.elapse dt).acc = s.acc := by
  unfold State.elapse; split <;> rfl

@[simp] theorem State.elapse_tb (s : State) (dt : Nat) :
    (s.elapse dt).tb = s.tb := by
  unfold State.elapse; split <;> rfl

@[simp] theorem State.elapse_sns (s : State) (dt : Nat) :
    (s.elapse dt).sns = s.sns := by
  unfold State.elapse; split <;> rfl

@[simp] theorem State.elapse_mod (s : State) (dt : Nat) :
    (s.elapse dt).mod = s.mod := by
  unfold State.elapse; split <;> rfl

@[simp] theorem State.elapse_chg (s : State) (dt : Nat) :
    (s.elapse dt).chg = s.chg := by
  unfold State.elapse; split <;> rfl

@[simp] theorem State.elapse_jrn (s : State) (dt : Nat) :
    (s.elapse dt).jrn = s.jrn := by
  unfold State.elapse; split <;> rfl

@[simp] theorem State.elapse_est (s : State) (dt : Nat) :
    (s.elapse dt).est = s.est := by
  unfold State.elapse; split <;> rfl

@[simp] theorem State.elapse_ost (s : State) (dt : Nat) :
    (s.elapse dt).ost = s.ost := by
  unfold State.elapse; split <;> rfl

@[simp] theorem State.elapse_bal (s : State) (dt : Nat) :
    (s.elapse dt).bal = s.bal := by
  unfold State.elapse; split <;> rfl

@[simp] theorem State.elapse_cth (s : State) (dt : Nat) :
    (s.elapse dt).cth = s.cth := by
  unfold State.elapse; split <;> rfl

@[simp] theorem State.elapse_loops (s : State) (dt : Nat) :
    (s.elapse dt).loops = s.loops := by
  unfold State.elapse; split <;> rfl

@[simp] theorem State.elapse_prot (s : State) (dt : Nat) :
    (s.elapse dt).prot = s.prot := by
  unfold State.elapse; split <;> rfl

@[simp] theorem State.elapse_safe (s : State) (dt : Nat) :
    (s.elapse dt).safe = s.safe := by
  unfold State.elapse; split <;> rfl

@[simp] theorem State.elapse_slay (s : State) (dt : Nat) :
    (s.elapse dt).slay = s.slay := by
  unfold State.elapse; split <;> rfl

@[simp] theorem State.elapse_events (s : State) (dt : Nat) :
    (s.elapse dt).events = s.events := by
  unfold State.elapse; split <;> rfl

@[simp] theorem State.elapse_completions (s : State) (dt : Nat) :
    (s.elapse dt).completions = s.completions := by
  unfold State.elapse; split <;> rfl

@[simp] theorem State.elapse_tdm (s : State) (dt : Nat) :
    (s.elapse dt).tdm = s.tdm := by
  unfold State.elapse; split <;> rfl

@[simp] theorem State.elapse_wit (s : State) (dt : Nat) :
    (s.elapse dt).wit = s.wit := by
  unfold State.elapse; split <;> rfl

@[simp] theorem State.elapse_way (s : State) (dt : Nat) :
    (s.elapse dt).way = s.way := by
  unfold State.elapse; split <;> rfl

@[simp] theorem State.elapse_sbx (s : State) (dt : Nat) :
    (s.elapse dt).sbx = s.sbx := by
  unfold State.elapse; split <;> rfl

@[simp] theorem State.elapse_can (s : State) (dt : Nat) :
    (s.elapse dt).can = s.can := by
  unfold State.elapse; split <;> rfl

@[simp] theorem State.elapse_eth (s : State) (dt : Nat) :
    (s.elapse dt).eth = s.eth := by
  unfold State.elapse; split <;> rfl

@[simp] theorem State.elapse_time (s : State) (dt : Nat) :
    (s.elapse dt).time = s.time := by
  unfold State.elapse; split <;> rfl

@[simp] theorem State.elapse_keyWait (s : State) (dt : Nat) :
    (s.elapse dt).keyWait = s.keyWait := by
  unfold State.elapse; split <;> rfl

@[simp] theorem State.elapse_fwu (s : State) (dt : Nat) :
    (s.elapse dt).fwu = s.fwu := by
  unfold State.elapse; split <;> rfl

@[simp] theorem State.elapse_thm (s : State) (dt : Nat) :
    (s.elapse dt).thm = s.thm := by
  unfold State.elapse; split <;> rfl

@[simp] theorem State.elapse_pwrAlarm (s : State) (dt : Nat) :
    (s.elapse dt).pwrAlarm = s.pwrAlarm := by
  unfold State.elapse; split <;> rfl

@[simp] theorem State.elapse_mram (s : State) (dt : Nat) :
    (s.elapse dt).mram = s.mram := by
  unfold State.elapse; split <;> rfl

@[simp] theorem State.atMt_pages (s : State) (mt : Nat) :
    (s.atMt mt).pages = s.pages := rfl

@[simp] theorem State.atMt_regs (s : State) (mt : Nat) :
    (s.atMt mt).regs = s.regs := rfl

@[simp] theorem State.atMt_rings (s : State) (mt : Nat) :
    (s.atMt mt).rings = s.rings := rfl

@[simp] theorem State.atMt_host (s : State) (mt : Nat) :
    (s.atMt mt).host = s.host := rfl

@[simp] theorem State.atMt_irq (s : State) (mt : Nat) :
    (s.atMt mt).irq = s.irq := rfl

@[simp] theorem State.atMt_free (s : State) (mt : Nat) :
    (s.atMt mt).free = s.free := rfl

@[simp] theorem State.atMt_sent (s : State) (mt : Nat) :
    (s.atMt mt).sent = s.sent := rfl

@[simp] theorem State.atMt_pending (s : State) (mt : Nat) :
    (s.atMt mt).pending = s.pending := rfl

@[simp] theorem State.atMt_acc (s : State) (mt : Nat) :
    (s.atMt mt).acc = s.acc := rfl

@[simp] theorem State.atMt_tb (s : State) (mt : Nat) :
    (s.atMt mt).tb = s.tb := rfl

@[simp] theorem State.atMt_sns (s : State) (mt : Nat) :
    (s.atMt mt).sns = s.sns := rfl

@[simp] theorem State.atMt_mod (s : State) (mt : Nat) :
    (s.atMt mt).mod = s.mod := rfl

@[simp] theorem State.atMt_chg (s : State) (mt : Nat) :
    (s.atMt mt).chg = s.chg := rfl

@[simp] theorem State.atMt_jrn (s : State) (mt : Nat) :
    (s.atMt mt).jrn = s.jrn := rfl

@[simp] theorem State.atMt_est (s : State) (mt : Nat) :
    (s.atMt mt).est = s.est := rfl

@[simp] theorem State.atMt_ost (s : State) (mt : Nat) :
    (s.atMt mt).ost = s.ost := rfl

@[simp] theorem State.atMt_bal (s : State) (mt : Nat) :
    (s.atMt mt).bal = s.bal := rfl

@[simp] theorem State.atMt_cth (s : State) (mt : Nat) :
    (s.atMt mt).cth = s.cth := rfl

@[simp] theorem State.atMt_loops (s : State) (mt : Nat) :
    (s.atMt mt).loops = s.loops := rfl

@[simp] theorem State.atMt_prot (s : State) (mt : Nat) :
    (s.atMt mt).prot = s.prot := rfl

@[simp] theorem State.atMt_safe (s : State) (mt : Nat) :
    (s.atMt mt).safe = s.safe := rfl

@[simp] theorem State.atMt_slay (s : State) (mt : Nat) :
    (s.atMt mt).slay = s.slay := rfl

@[simp] theorem State.atMt_events (s : State) (mt : Nat) :
    (s.atMt mt).events = s.events := rfl

@[simp] theorem State.atMt_completions (s : State) (mt : Nat) :
    (s.atMt mt).completions = s.completions := rfl

@[simp] theorem State.atMt_tdm (s : State) (mt : Nat) :
    (s.atMt mt).tdm = s.tdm := rfl

@[simp] theorem State.atMt_wit (s : State) (mt : Nat) :
    (s.atMt mt).wit = s.wit := rfl

@[simp] theorem State.atMt_way (s : State) (mt : Nat) :
    (s.atMt mt).way = s.way := rfl

@[simp] theorem State.atMt_sbx (s : State) (mt : Nat) :
    (s.atMt mt).sbx = s.sbx := rfl

@[simp] theorem State.atMt_can (s : State) (mt : Nat) :
    (s.atMt mt).can = s.can := rfl

@[simp] theorem State.atMt_eth (s : State) (mt : Nat) :
    (s.atMt mt).eth = s.eth := rfl

@[simp] theorem State.atMt_time (s : State) (mt : Nat) :
    (s.atMt mt).time = s.time := rfl

@[simp] theorem State.atMt_keyWait (s : State) (mt : Nat) :
    (s.atMt mt).keyWait = s.keyWait := rfl

@[simp] theorem State.atMt_fwu (s : State) (mt : Nat) :
    (s.atMt mt).fwu = s.fwu := rfl

@[simp] theorem State.atMt_thm (s : State) (mt : Nat) :
    (s.atMt mt).thm = s.thm := rfl

@[simp] theorem State.atMt_pwrAlarm (s : State) (mt : Nat) :
    (s.atMt mt).pwrAlarm = s.pwrAlarm := rfl

@[simp] theorem State.atMt_mram (s : State) (mt : Nat) :
    (s.atMt mt).mram = s.mram := rfl

@[simp] theorem State.driveLow_pages (s : State)  :
    (s.driveLow).pages = s.pages := rfl

@[simp] theorem State.driveLow_regs (s : State)  :
    (s.driveLow).regs = s.regs := rfl

@[simp] theorem State.driveLow_rings (s : State)  :
    (s.driveLow).rings = s.rings := rfl

@[simp] theorem State.driveLow_host (s : State)  :
    (s.driveLow).host = s.host := rfl

@[simp] theorem State.driveLow_irq (s : State)  :
    (s.driveLow).irq = s.irq := rfl

@[simp] theorem State.driveLow_free (s : State)  :
    (s.driveLow).free = s.free := rfl

@[simp] theorem State.driveLow_sent (s : State)  :
    (s.driveLow).sent = s.sent := rfl

@[simp] theorem State.driveLow_pending (s : State)  :
    (s.driveLow).pending = s.pending := rfl

@[simp] theorem State.driveLow_acc (s : State)  :
    (s.driveLow).acc = s.acc := rfl

@[simp] theorem State.driveLow_tb (s : State)  :
    (s.driveLow).tb = s.tb := rfl

@[simp] theorem State.driveLow_sns (s : State)  :
    (s.driveLow).sns = s.sns := rfl

@[simp] theorem State.driveLow_mod (s : State)  :
    (s.driveLow).mod = s.mod := rfl

@[simp] theorem State.driveLow_chg (s : State)  :
    (s.driveLow).chg = s.chg := rfl

@[simp] theorem State.driveLow_jrn (s : State)  :
    (s.driveLow).jrn = s.jrn := rfl

@[simp] theorem State.driveLow_est (s : State)  :
    (s.driveLow).est = s.est := rfl

@[simp] theorem State.driveLow_ost (s : State)  :
    (s.driveLow).ost = s.ost := rfl

@[simp] theorem State.driveLow_bal (s : State)  :
    (s.driveLow).bal = s.bal := rfl

@[simp] theorem State.driveLow_cth (s : State)  :
    (s.driveLow).cth = s.cth := rfl

@[simp] theorem State.driveLow_loops (s : State)  :
    (s.driveLow).loops = s.loops := rfl

@[simp] theorem State.driveLow_prot (s : State)  :
    (s.driveLow).prot = s.prot := rfl

@[simp] theorem State.driveLow_safe (s : State)  :
    (s.driveLow).safe = s.safe := rfl

@[simp] theorem State.driveLow_slay (s : State)  :
    (s.driveLow).slay = s.slay := rfl

@[simp] theorem State.driveLow_events (s : State)  :
    (s.driveLow).events = s.events := rfl

@[simp] theorem State.driveLow_completions (s : State)  :
    (s.driveLow).completions = s.completions := rfl

@[simp] theorem State.driveLow_tdm (s : State)  :
    (s.driveLow).tdm = s.tdm := rfl

@[simp] theorem State.driveLow_wit (s : State)  :
    (s.driveLow).wit = s.wit := rfl

@[simp] theorem State.driveLow_way (s : State)  :
    (s.driveLow).way = s.way := rfl

@[simp] theorem State.driveLow_sbx (s : State)  :
    (s.driveLow).sbx = s.sbx := rfl

@[simp] theorem State.driveLow_can (s : State)  :
    (s.driveLow).can = s.can := rfl

@[simp] theorem State.driveLow_eth (s : State)  :
    (s.driveLow).eth = s.eth := rfl

@[simp] theorem State.driveLow_time (s : State)  :
    (s.driveLow).time = s.time := rfl

@[simp] theorem State.driveLow_keyWait (s : State)  :
    (s.driveLow).keyWait = s.keyWait := rfl

@[simp] theorem State.driveLow_fwu (s : State)  :
    (s.driveLow).fwu = s.fwu := rfl

@[simp] theorem State.driveLow_thm (s : State)  :
    (s.driveLow).thm = s.thm := rfl

@[simp] theorem State.driveLow_pwrAlarm (s : State)  :
    (s.driveLow).pwrAlarm = s.pwrAlarm := rfl

@[simp] theorem State.driveLow_mram (s : State)  :
    (s.driveLow).mram = s.mram := rfl

@[simp] theorem State.wr_sys (s : State) (p : Page) (o : Nat) (v : Word) :
    (s.wr p o v).sys = s.sys := by
  unfold State.wr; split <;> rfl

@[simp] theorem State.wr_pages (s : State) (p : Page) (o : Nat) (v : Word) :
    (s.wr p o v).pages = s.pages := by
  unfold State.wr; split <;> rfl

@[simp] theorem State.wr_rings (s : State) (p : Page) (o : Nat) (v : Word) :
    (s.wr p o v).rings = s.rings := by
  unfold State.wr; split <;> rfl

@[simp] theorem State.wr_host (s : State) (p : Page) (o : Nat) (v : Word) :
    (s.wr p o v).host = s.host := by
  unfold State.wr; split <;> rfl

@[simp] theorem State.wr_irq (s : State) (p : Page) (o : Nat) (v : Word) :
    (s.wr p o v).irq = s.irq := by
  unfold State.wr; split <;> rfl

@[simp] theorem State.wr_free (s : State) (p : Page) (o : Nat) (v : Word) :
    (s.wr p o v).free = s.free := by
  unfold State.wr; split <;> rfl

@[simp] theorem State.wr_sent (s : State) (p : Page) (o : Nat) (v : Word) :
    (s.wr p o v).sent = s.sent := by
  unfold State.wr; split <;> rfl

@[simp] theorem State.wr_pending (s : State) (p : Page) (o : Nat) (v : Word) :
    (s.wr p o v).pending = s.pending := by
  unfold State.wr; split <;> rfl

@[simp] theorem State.wr_acc (s : State) (p : Page) (o : Nat) (v : Word) :
    (s.wr p o v).acc = s.acc := by
  unfold State.wr; split <;> rfl

@[simp] theorem State.wr_tb (s : State) (p : Page) (o : Nat) (v : Word) :
    (s.wr p o v).tb = s.tb := by
  unfold State.wr; split <;> rfl

@[simp] theorem State.wr_sns (s : State) (p : Page) (o : Nat) (v : Word) :
    (s.wr p o v).sns = s.sns := by
  unfold State.wr; split <;> rfl

@[simp] theorem State.wr_mod (s : State) (p : Page) (o : Nat) (v : Word) :
    (s.wr p o v).mod = s.mod := by
  unfold State.wr; split <;> rfl

@[simp] theorem State.wr_chg (s : State) (p : Page) (o : Nat) (v : Word) :
    (s.wr p o v).chg = s.chg := by
  unfold State.wr; split <;> rfl

@[simp] theorem State.wr_jrn (s : State) (p : Page) (o : Nat) (v : Word) :
    (s.wr p o v).jrn = s.jrn := by
  unfold State.wr; split <;> rfl

@[simp] theorem State.wr_est (s : State) (p : Page) (o : Nat) (v : Word) :
    (s.wr p o v).est = s.est := by
  unfold State.wr; split <;> rfl

@[simp] theorem State.wr_ost (s : State) (p : Page) (o : Nat) (v : Word) :
    (s.wr p o v).ost = s.ost := by
  unfold State.wr; split <;> rfl

@[simp] theorem State.wr_bal (s : State) (p : Page) (o : Nat) (v : Word) :
    (s.wr p o v).bal = s.bal := by
  unfold State.wr; split <;> rfl

@[simp] theorem State.wr_cth (s : State) (p : Page) (o : Nat) (v : Word) :
    (s.wr p o v).cth = s.cth := by
  unfold State.wr; split <;> rfl

@[simp] theorem State.wr_loops (s : State) (p : Page) (o : Nat) (v : Word) :
    (s.wr p o v).loops = s.loops := by
  unfold State.wr; split <;> rfl

@[simp] theorem State.wr_prot (s : State) (p : Page) (o : Nat) (v : Word) :
    (s.wr p o v).prot = s.prot := by
  unfold State.wr; split <;> rfl

@[simp] theorem State.wr_safe (s : State) (p : Page) (o : Nat) (v : Word) :
    (s.wr p o v).safe = s.safe := by
  unfold State.wr; split <;> rfl

@[simp] theorem State.wr_slay (s : State) (p : Page) (o : Nat) (v : Word) :
    (s.wr p o v).slay = s.slay := by
  unfold State.wr; split <;> rfl

@[simp] theorem State.wr_events (s : State) (p : Page) (o : Nat) (v : Word) :
    (s.wr p o v).events = s.events := by
  unfold State.wr; split <;> rfl

@[simp] theorem State.wr_completions (s : State) (p : Page) (o : Nat) (v : Word) :
    (s.wr p o v).completions = s.completions := by
  unfold State.wr; split <;> rfl

@[simp] theorem State.wr_tdm (s : State) (p : Page) (o : Nat) (v : Word) :
    (s.wr p o v).tdm = s.tdm := by
  unfold State.wr; split <;> rfl

@[simp] theorem State.wr_wit (s : State) (p : Page) (o : Nat) (v : Word) :
    (s.wr p o v).wit = s.wit := by
  unfold State.wr; split <;> rfl

@[simp] theorem State.wr_way (s : State) (p : Page) (o : Nat) (v : Word) :
    (s.wr p o v).way = s.way := by
  unfold State.wr; split <;> rfl

@[simp] theorem State.wr_sbx (s : State) (p : Page) (o : Nat) (v : Word) :
    (s.wr p o v).sbx = s.sbx := by
  unfold State.wr; split <;> rfl

@[simp] theorem State.wr_can (s : State) (p : Page) (o : Nat) (v : Word) :
    (s.wr p o v).can = s.can := by
  unfold State.wr; split <;> rfl

@[simp] theorem State.wr_eth (s : State) (p : Page) (o : Nat) (v : Word) :
    (s.wr p o v).eth = s.eth := by
  unfold State.wr; split <;> rfl

@[simp] theorem State.wr_time (s : State) (p : Page) (o : Nat) (v : Word) :
    (s.wr p o v).time = s.time := by
  unfold State.wr; split <;> rfl

@[simp] theorem State.wr_keyWait (s : State) (p : Page) (o : Nat) (v : Word) :
    (s.wr p o v).keyWait = s.keyWait := by
  unfold State.wr; split <;> rfl

@[simp] theorem State.wr_fwu (s : State) (p : Page) (o : Nat) (v : Word) :
    (s.wr p o v).fwu = s.fwu := by
  unfold State.wr; split <;> rfl

@[simp] theorem State.wr_thm (s : State) (p : Page) (o : Nat) (v : Word) :
    (s.wr p o v).thm = s.thm := by
  unfold State.wr; split <;> rfl

@[simp] theorem State.wr_pwrAlarm (s : State) (p : Page) (o : Nat) (v : Word) :
    (s.wr p o v).pwrAlarm = s.pwrAlarm := by
  unfold State.wr; split <;> rfl

@[simp] theorem State.wr_mram (s : State) (p : Page) (o : Nat) (v : Word) :
    (s.wr p o v).mram = s.mram := by
  unfold State.wr; split <;> rfl

@[simp] theorem State.wrf_sys (s : State) (p : Page) (o hi lo v : Nat) :
    (s.wrf p o hi lo v).sys = s.sys := State.wr_sys ..

@[simp] theorem State.wrf_pages (s : State) (p : Page) (o hi lo v : Nat) :
    (s.wrf p o hi lo v).pages = s.pages := State.wr_pages ..

@[simp] theorem State.wrf_rings (s : State) (p : Page) (o hi lo v : Nat) :
    (s.wrf p o hi lo v).rings = s.rings := State.wr_rings ..

@[simp] theorem State.wrf_host (s : State) (p : Page) (o hi lo v : Nat) :
    (s.wrf p o hi lo v).host = s.host := State.wr_host ..

@[simp] theorem State.wrf_irq (s : State) (p : Page) (o hi lo v : Nat) :
    (s.wrf p o hi lo v).irq = s.irq := State.wr_irq ..

@[simp] theorem State.wrf_free (s : State) (p : Page) (o hi lo v : Nat) :
    (s.wrf p o hi lo v).free = s.free := State.wr_free ..

@[simp] theorem State.wrf_sent (s : State) (p : Page) (o hi lo v : Nat) :
    (s.wrf p o hi lo v).sent = s.sent := State.wr_sent ..

@[simp] theorem State.wrf_pending (s : State) (p : Page) (o hi lo v : Nat) :
    (s.wrf p o hi lo v).pending = s.pending := State.wr_pending ..

@[simp] theorem State.wrf_acc (s : State) (p : Page) (o hi lo v : Nat) :
    (s.wrf p o hi lo v).acc = s.acc := State.wr_acc ..

@[simp] theorem State.wrf_tb (s : State) (p : Page) (o hi lo v : Nat) :
    (s.wrf p o hi lo v).tb = s.tb := State.wr_tb ..

@[simp] theorem State.wrf_sns (s : State) (p : Page) (o hi lo v : Nat) :
    (s.wrf p o hi lo v).sns = s.sns := State.wr_sns ..

@[simp] theorem State.wrf_mod (s : State) (p : Page) (o hi lo v : Nat) :
    (s.wrf p o hi lo v).mod = s.mod := State.wr_mod ..

@[simp] theorem State.wrf_chg (s : State) (p : Page) (o hi lo v : Nat) :
    (s.wrf p o hi lo v).chg = s.chg := State.wr_chg ..

@[simp] theorem State.wrf_jrn (s : State) (p : Page) (o hi lo v : Nat) :
    (s.wrf p o hi lo v).jrn = s.jrn := State.wr_jrn ..

@[simp] theorem State.wrf_est (s : State) (p : Page) (o hi lo v : Nat) :
    (s.wrf p o hi lo v).est = s.est := State.wr_est ..

@[simp] theorem State.wrf_ost (s : State) (p : Page) (o hi lo v : Nat) :
    (s.wrf p o hi lo v).ost = s.ost := State.wr_ost ..

@[simp] theorem State.wrf_bal (s : State) (p : Page) (o hi lo v : Nat) :
    (s.wrf p o hi lo v).bal = s.bal := State.wr_bal ..

@[simp] theorem State.wrf_cth (s : State) (p : Page) (o hi lo v : Nat) :
    (s.wrf p o hi lo v).cth = s.cth := State.wr_cth ..

@[simp] theorem State.wrf_loops (s : State) (p : Page) (o hi lo v : Nat) :
    (s.wrf p o hi lo v).loops = s.loops := State.wr_loops ..

@[simp] theorem State.wrf_prot (s : State) (p : Page) (o hi lo v : Nat) :
    (s.wrf p o hi lo v).prot = s.prot := State.wr_prot ..

@[simp] theorem State.wrf_safe (s : State) (p : Page) (o hi lo v : Nat) :
    (s.wrf p o hi lo v).safe = s.safe := State.wr_safe ..

@[simp] theorem State.wrf_slay (s : State) (p : Page) (o hi lo v : Nat) :
    (s.wrf p o hi lo v).slay = s.slay := State.wr_slay ..

@[simp] theorem State.wrf_events (s : State) (p : Page) (o hi lo v : Nat) :
    (s.wrf p o hi lo v).events = s.events := State.wr_events ..

@[simp] theorem State.wrf_completions (s : State) (p : Page) (o hi lo v : Nat) :
    (s.wrf p o hi lo v).completions = s.completions := State.wr_completions ..

@[simp] theorem State.wrf_tdm (s : State) (p : Page) (o hi lo v : Nat) :
    (s.wrf p o hi lo v).tdm = s.tdm := State.wr_tdm ..

@[simp] theorem State.wrf_wit (s : State) (p : Page) (o hi lo v : Nat) :
    (s.wrf p o hi lo v).wit = s.wit := State.wr_wit ..

@[simp] theorem State.wrf_way (s : State) (p : Page) (o hi lo v : Nat) :
    (s.wrf p o hi lo v).way = s.way := State.wr_way ..

@[simp] theorem State.wrf_sbx (s : State) (p : Page) (o hi lo v : Nat) :
    (s.wrf p o hi lo v).sbx = s.sbx := State.wr_sbx ..

@[simp] theorem State.wrf_can (s : State) (p : Page) (o hi lo v : Nat) :
    (s.wrf p o hi lo v).can = s.can := State.wr_can ..

@[simp] theorem State.wrf_eth (s : State) (p : Page) (o hi lo v : Nat) :
    (s.wrf p o hi lo v).eth = s.eth := State.wr_eth ..

@[simp] theorem State.wrf_time (s : State) (p : Page) (o hi lo v : Nat) :
    (s.wrf p o hi lo v).time = s.time := State.wr_time ..

@[simp] theorem State.wrf_keyWait (s : State) (p : Page) (o hi lo v : Nat) :
    (s.wrf p o hi lo v).keyWait = s.keyWait := State.wr_keyWait ..

@[simp] theorem State.wrf_fwu (s : State) (p : Page) (o hi lo v : Nat) :
    (s.wrf p o hi lo v).fwu = s.fwu := State.wr_fwu ..

@[simp] theorem State.wrf_thm (s : State) (p : Page) (o hi lo v : Nat) :
    (s.wrf p o hi lo v).thm = s.thm := State.wr_thm ..

@[simp] theorem State.wrf_pwrAlarm (s : State) (p : Page) (o hi lo v : Nat) :
    (s.wrf p o hi lo v).pwrAlarm = s.pwrAlarm := State.wr_pwrAlarm ..

@[simp] theorem State.wrf_mram (s : State) (p : Page) (o hi lo v : Nat) :
    (s.wrf p o hi lo v).mram = s.mram := State.wr_mram ..

@[simp] theorem State.wrb_sys (s : State) (p : Page) (o n : Nat) (b : Bool) :
    (s.wrb p o n b).sys = s.sys := State.wr_sys ..

@[simp] theorem State.wrb_pages (s : State) (p : Page) (o n : Nat) (b : Bool) :
    (s.wrb p o n b).pages = s.pages := State.wr_pages ..

@[simp] theorem State.wrb_rings (s : State) (p : Page) (o n : Nat) (b : Bool) :
    (s.wrb p o n b).rings = s.rings := State.wr_rings ..

@[simp] theorem State.wrb_host (s : State) (p : Page) (o n : Nat) (b : Bool) :
    (s.wrb p o n b).host = s.host := State.wr_host ..

@[simp] theorem State.wrb_irq (s : State) (p : Page) (o n : Nat) (b : Bool) :
    (s.wrb p o n b).irq = s.irq := State.wr_irq ..

@[simp] theorem State.wrb_free (s : State) (p : Page) (o n : Nat) (b : Bool) :
    (s.wrb p o n b).free = s.free := State.wr_free ..

@[simp] theorem State.wrb_sent (s : State) (p : Page) (o n : Nat) (b : Bool) :
    (s.wrb p o n b).sent = s.sent := State.wr_sent ..

@[simp] theorem State.wrb_pending (s : State) (p : Page) (o n : Nat) (b : Bool) :
    (s.wrb p o n b).pending = s.pending := State.wr_pending ..

@[simp] theorem State.wrb_acc (s : State) (p : Page) (o n : Nat) (b : Bool) :
    (s.wrb p o n b).acc = s.acc := State.wr_acc ..

@[simp] theorem State.wrb_tb (s : State) (p : Page) (o n : Nat) (b : Bool) :
    (s.wrb p o n b).tb = s.tb := State.wr_tb ..

@[simp] theorem State.wrb_sns (s : State) (p : Page) (o n : Nat) (b : Bool) :
    (s.wrb p o n b).sns = s.sns := State.wr_sns ..

@[simp] theorem State.wrb_mod (s : State) (p : Page) (o n : Nat) (b : Bool) :
    (s.wrb p o n b).mod = s.mod := State.wr_mod ..

@[simp] theorem State.wrb_chg (s : State) (p : Page) (o n : Nat) (b : Bool) :
    (s.wrb p o n b).chg = s.chg := State.wr_chg ..

@[simp] theorem State.wrb_jrn (s : State) (p : Page) (o n : Nat) (b : Bool) :
    (s.wrb p o n b).jrn = s.jrn := State.wr_jrn ..

@[simp] theorem State.wrb_est (s : State) (p : Page) (o n : Nat) (b : Bool) :
    (s.wrb p o n b).est = s.est := State.wr_est ..

@[simp] theorem State.wrb_ost (s : State) (p : Page) (o n : Nat) (b : Bool) :
    (s.wrb p o n b).ost = s.ost := State.wr_ost ..

@[simp] theorem State.wrb_bal (s : State) (p : Page) (o n : Nat) (b : Bool) :
    (s.wrb p o n b).bal = s.bal := State.wr_bal ..

@[simp] theorem State.wrb_cth (s : State) (p : Page) (o n : Nat) (b : Bool) :
    (s.wrb p o n b).cth = s.cth := State.wr_cth ..

@[simp] theorem State.wrb_loops (s : State) (p : Page) (o n : Nat) (b : Bool) :
    (s.wrb p o n b).loops = s.loops := State.wr_loops ..

@[simp] theorem State.wrb_prot (s : State) (p : Page) (o n : Nat) (b : Bool) :
    (s.wrb p o n b).prot = s.prot := State.wr_prot ..

@[simp] theorem State.wrb_safe (s : State) (p : Page) (o n : Nat) (b : Bool) :
    (s.wrb p o n b).safe = s.safe := State.wr_safe ..

@[simp] theorem State.wrb_slay (s : State) (p : Page) (o n : Nat) (b : Bool) :
    (s.wrb p o n b).slay = s.slay := State.wr_slay ..

@[simp] theorem State.wrb_events (s : State) (p : Page) (o n : Nat) (b : Bool) :
    (s.wrb p o n b).events = s.events := State.wr_events ..

@[simp] theorem State.wrb_completions (s : State) (p : Page) (o n : Nat) (b : Bool) :
    (s.wrb p o n b).completions = s.completions := State.wr_completions ..

@[simp] theorem State.wrb_tdm (s : State) (p : Page) (o n : Nat) (b : Bool) :
    (s.wrb p o n b).tdm = s.tdm := State.wr_tdm ..

@[simp] theorem State.wrb_wit (s : State) (p : Page) (o n : Nat) (b : Bool) :
    (s.wrb p o n b).wit = s.wit := State.wr_wit ..

@[simp] theorem State.wrb_way (s : State) (p : Page) (o n : Nat) (b : Bool) :
    (s.wrb p o n b).way = s.way := State.wr_way ..

@[simp] theorem State.wrb_sbx (s : State) (p : Page) (o n : Nat) (b : Bool) :
    (s.wrb p o n b).sbx = s.sbx := State.wr_sbx ..

@[simp] theorem State.wrb_can (s : State) (p : Page) (o n : Nat) (b : Bool) :
    (s.wrb p o n b).can = s.can := State.wr_can ..

@[simp] theorem State.wrb_eth (s : State) (p : Page) (o n : Nat) (b : Bool) :
    (s.wrb p o n b).eth = s.eth := State.wr_eth ..

@[simp] theorem State.wrb_time (s : State) (p : Page) (o n : Nat) (b : Bool) :
    (s.wrb p o n b).time = s.time := State.wr_time ..

@[simp] theorem State.wrb_keyWait (s : State) (p : Page) (o n : Nat) (b : Bool) :
    (s.wrb p o n b).keyWait = s.keyWait := State.wr_keyWait ..

@[simp] theorem State.wrb_fwu (s : State) (p : Page) (o n : Nat) (b : Bool) :
    (s.wrb p o n b).fwu = s.fwu := State.wr_fwu ..

@[simp] theorem State.wrb_thm (s : State) (p : Page) (o n : Nat) (b : Bool) :
    (s.wrb p o n b).thm = s.thm := State.wr_thm ..

@[simp] theorem State.wrb_pwrAlarm (s : State) (p : Page) (o n : Nat) (b : Bool) :
    (s.wrb p o n b).pwrAlarm = s.pwrAlarm := State.wr_pwrAlarm ..

@[simp] theorem State.wrb_mram (s : State) (p : Page) (o n : Nat) (b : Bool) :
    (s.wrb p o n b).mram = s.mram := State.wr_mram ..

@[simp] theorem State.wrn_sys (s : State) (p : Page) (o v : Nat) :
    (s.wrn p o v).sys = s.sys := State.wr_sys ..

@[simp] theorem State.wrn_pages (s : State) (p : Page) (o v : Nat) :
    (s.wrn p o v).pages = s.pages := State.wr_pages ..

@[simp] theorem State.wrn_rings (s : State) (p : Page) (o v : Nat) :
    (s.wrn p o v).rings = s.rings := State.wr_rings ..

@[simp] theorem State.wrn_host (s : State) (p : Page) (o v : Nat) :
    (s.wrn p o v).host = s.host := State.wr_host ..

@[simp] theorem State.wrn_irq (s : State) (p : Page) (o v : Nat) :
    (s.wrn p o v).irq = s.irq := State.wr_irq ..

@[simp] theorem State.wrn_free (s : State) (p : Page) (o v : Nat) :
    (s.wrn p o v).free = s.free := State.wr_free ..

@[simp] theorem State.wrn_sent (s : State) (p : Page) (o v : Nat) :
    (s.wrn p o v).sent = s.sent := State.wr_sent ..

@[simp] theorem State.wrn_pending (s : State) (p : Page) (o v : Nat) :
    (s.wrn p o v).pending = s.pending := State.wr_pending ..

@[simp] theorem State.wrn_acc (s : State) (p : Page) (o v : Nat) :
    (s.wrn p o v).acc = s.acc := State.wr_acc ..

@[simp] theorem State.wrn_tb (s : State) (p : Page) (o v : Nat) :
    (s.wrn p o v).tb = s.tb := State.wr_tb ..

@[simp] theorem State.wrn_sns (s : State) (p : Page) (o v : Nat) :
    (s.wrn p o v).sns = s.sns := State.wr_sns ..

@[simp] theorem State.wrn_mod (s : State) (p : Page) (o v : Nat) :
    (s.wrn p o v).mod = s.mod := State.wr_mod ..

@[simp] theorem State.wrn_chg (s : State) (p : Page) (o v : Nat) :
    (s.wrn p o v).chg = s.chg := State.wr_chg ..

@[simp] theorem State.wrn_jrn (s : State) (p : Page) (o v : Nat) :
    (s.wrn p o v).jrn = s.jrn := State.wr_jrn ..

@[simp] theorem State.wrn_est (s : State) (p : Page) (o v : Nat) :
    (s.wrn p o v).est = s.est := State.wr_est ..

@[simp] theorem State.wrn_ost (s : State) (p : Page) (o v : Nat) :
    (s.wrn p o v).ost = s.ost := State.wr_ost ..

@[simp] theorem State.wrn_bal (s : State) (p : Page) (o v : Nat) :
    (s.wrn p o v).bal = s.bal := State.wr_bal ..

@[simp] theorem State.wrn_cth (s : State) (p : Page) (o v : Nat) :
    (s.wrn p o v).cth = s.cth := State.wr_cth ..

@[simp] theorem State.wrn_loops (s : State) (p : Page) (o v : Nat) :
    (s.wrn p o v).loops = s.loops := State.wr_loops ..

@[simp] theorem State.wrn_prot (s : State) (p : Page) (o v : Nat) :
    (s.wrn p o v).prot = s.prot := State.wr_prot ..

@[simp] theorem State.wrn_safe (s : State) (p : Page) (o v : Nat) :
    (s.wrn p o v).safe = s.safe := State.wr_safe ..

@[simp] theorem State.wrn_slay (s : State) (p : Page) (o v : Nat) :
    (s.wrn p o v).slay = s.slay := State.wr_slay ..

@[simp] theorem State.wrn_events (s : State) (p : Page) (o v : Nat) :
    (s.wrn p o v).events = s.events := State.wr_events ..

@[simp] theorem State.wrn_completions (s : State) (p : Page) (o v : Nat) :
    (s.wrn p o v).completions = s.completions := State.wr_completions ..

@[simp] theorem State.wrn_tdm (s : State) (p : Page) (o v : Nat) :
    (s.wrn p o v).tdm = s.tdm := State.wr_tdm ..

@[simp] theorem State.wrn_wit (s : State) (p : Page) (o v : Nat) :
    (s.wrn p o v).wit = s.wit := State.wr_wit ..

@[simp] theorem State.wrn_way (s : State) (p : Page) (o v : Nat) :
    (s.wrn p o v).way = s.way := State.wr_way ..

@[simp] theorem State.wrn_sbx (s : State) (p : Page) (o v : Nat) :
    (s.wrn p o v).sbx = s.sbx := State.wr_sbx ..

@[simp] theorem State.wrn_can (s : State) (p : Page) (o v : Nat) :
    (s.wrn p o v).can = s.can := State.wr_can ..

@[simp] theorem State.wrn_eth (s : State) (p : Page) (o v : Nat) :
    (s.wrn p o v).eth = s.eth := State.wr_eth ..

@[simp] theorem State.wrn_time (s : State) (p : Page) (o v : Nat) :
    (s.wrn p o v).time = s.time := State.wr_time ..

@[simp] theorem State.wrn_keyWait (s : State) (p : Page) (o v : Nat) :
    (s.wrn p o v).keyWait = s.keyWait := State.wr_keyWait ..

@[simp] theorem State.wrn_fwu (s : State) (p : Page) (o v : Nat) :
    (s.wrn p o v).fwu = s.fwu := State.wr_fwu ..

@[simp] theorem State.wrn_thm (s : State) (p : Page) (o v : Nat) :
    (s.wrn p o v).thm = s.thm := State.wr_thm ..

@[simp] theorem State.wrn_pwrAlarm (s : State) (p : Page) (o v : Nat) :
    (s.wrn p o v).pwrAlarm = s.pwrAlarm := State.wr_pwrAlarm ..

@[simp] theorem State.wrn_mram (s : State) (p : Page) (o v : Nat) :
    (s.wrn p o v).mram = s.mram := State.wr_mram ..

@[simp] theorem State.wri_sys (s : State) (p : Page) (o : Nat) (v : Int) :
    (s.wri p o v).sys = s.sys := State.wr_sys ..

@[simp] theorem State.wri_pages (s : State) (p : Page) (o : Nat) (v : Int) :
    (s.wri p o v).pages = s.pages := State.wr_pages ..

@[simp] theorem State.wri_rings (s : State) (p : Page) (o : Nat) (v : Int) :
    (s.wri p o v).rings = s.rings := State.wr_rings ..

@[simp] theorem State.wri_host (s : State) (p : Page) (o : Nat) (v : Int) :
    (s.wri p o v).host = s.host := State.wr_host ..

@[simp] theorem State.wri_irq (s : State) (p : Page) (o : Nat) (v : Int) :
    (s.wri p o v).irq = s.irq := State.wr_irq ..

@[simp] theorem State.wri_free (s : State) (p : Page) (o : Nat) (v : Int) :
    (s.wri p o v).free = s.free := State.wr_free ..

@[simp] theorem State.wri_sent (s : State) (p : Page) (o : Nat) (v : Int) :
    (s.wri p o v).sent = s.sent := State.wr_sent ..

@[simp] theorem State.wri_pending (s : State) (p : Page) (o : Nat) (v : Int) :
    (s.wri p o v).pending = s.pending := State.wr_pending ..

@[simp] theorem State.wri_acc (s : State) (p : Page) (o : Nat) (v : Int) :
    (s.wri p o v).acc = s.acc := State.wr_acc ..

@[simp] theorem State.wri_tb (s : State) (p : Page) (o : Nat) (v : Int) :
    (s.wri p o v).tb = s.tb := State.wr_tb ..

@[simp] theorem State.wri_sns (s : State) (p : Page) (o : Nat) (v : Int) :
    (s.wri p o v).sns = s.sns := State.wr_sns ..

@[simp] theorem State.wri_mod (s : State) (p : Page) (o : Nat) (v : Int) :
    (s.wri p o v).mod = s.mod := State.wr_mod ..

@[simp] theorem State.wri_chg (s : State) (p : Page) (o : Nat) (v : Int) :
    (s.wri p o v).chg = s.chg := State.wr_chg ..

@[simp] theorem State.wri_jrn (s : State) (p : Page) (o : Nat) (v : Int) :
    (s.wri p o v).jrn = s.jrn := State.wr_jrn ..

@[simp] theorem State.wri_est (s : State) (p : Page) (o : Nat) (v : Int) :
    (s.wri p o v).est = s.est := State.wr_est ..

@[simp] theorem State.wri_ost (s : State) (p : Page) (o : Nat) (v : Int) :
    (s.wri p o v).ost = s.ost := State.wr_ost ..

@[simp] theorem State.wri_bal (s : State) (p : Page) (o : Nat) (v : Int) :
    (s.wri p o v).bal = s.bal := State.wr_bal ..

@[simp] theorem State.wri_cth (s : State) (p : Page) (o : Nat) (v : Int) :
    (s.wri p o v).cth = s.cth := State.wr_cth ..

@[simp] theorem State.wri_loops (s : State) (p : Page) (o : Nat) (v : Int) :
    (s.wri p o v).loops = s.loops := State.wr_loops ..

@[simp] theorem State.wri_prot (s : State) (p : Page) (o : Nat) (v : Int) :
    (s.wri p o v).prot = s.prot := State.wr_prot ..

@[simp] theorem State.wri_safe (s : State) (p : Page) (o : Nat) (v : Int) :
    (s.wri p o v).safe = s.safe := State.wr_safe ..

@[simp] theorem State.wri_slay (s : State) (p : Page) (o : Nat) (v : Int) :
    (s.wri p o v).slay = s.slay := State.wr_slay ..

@[simp] theorem State.wri_events (s : State) (p : Page) (o : Nat) (v : Int) :
    (s.wri p o v).events = s.events := State.wr_events ..

@[simp] theorem State.wri_completions (s : State) (p : Page) (o : Nat) (v : Int) :
    (s.wri p o v).completions = s.completions := State.wr_completions ..

@[simp] theorem State.wri_tdm (s : State) (p : Page) (o : Nat) (v : Int) :
    (s.wri p o v).tdm = s.tdm := State.wr_tdm ..

@[simp] theorem State.wri_wit (s : State) (p : Page) (o : Nat) (v : Int) :
    (s.wri p o v).wit = s.wit := State.wr_wit ..

@[simp] theorem State.wri_way (s : State) (p : Page) (o : Nat) (v : Int) :
    (s.wri p o v).way = s.way := State.wr_way ..

@[simp] theorem State.wri_sbx (s : State) (p : Page) (o : Nat) (v : Int) :
    (s.wri p o v).sbx = s.sbx := State.wr_sbx ..

@[simp] theorem State.wri_can (s : State) (p : Page) (o : Nat) (v : Int) :
    (s.wri p o v).can = s.can := State.wr_can ..

@[simp] theorem State.wri_eth (s : State) (p : Page) (o : Nat) (v : Int) :
    (s.wri p o v).eth = s.eth := State.wr_eth ..

@[simp] theorem State.wri_time (s : State) (p : Page) (o : Nat) (v : Int) :
    (s.wri p o v).time = s.time := State.wr_time ..

@[simp] theorem State.wri_keyWait (s : State) (p : Page) (o : Nat) (v : Int) :
    (s.wri p o v).keyWait = s.keyWait := State.wr_keyWait ..

@[simp] theorem State.wri_fwu (s : State) (p : Page) (o : Nat) (v : Int) :
    (s.wri p o v).fwu = s.fwu := State.wr_fwu ..

@[simp] theorem State.wri_thm (s : State) (p : Page) (o : Nat) (v : Int) :
    (s.wri p o v).thm = s.thm := State.wr_thm ..

@[simp] theorem State.wri_pwrAlarm (s : State) (p : Page) (o : Nat) (v : Int) :
    (s.wri p o v).pwrAlarm = s.pwrAlarm := State.wr_pwrAlarm ..

@[simp] theorem State.wri_mram (s : State) (p : Page) (o : Nat) (v : Int) :
    (s.wri p o v).mram = s.mram := State.wr_mram ..

@[simp] theorem State.inc_sys (s : State) (p : Page) (o : Nat) :
    (s.inc p o).sys = s.sys := State.wr_sys ..

@[simp] theorem State.inc_pages (s : State) (p : Page) (o : Nat) :
    (s.inc p o).pages = s.pages := State.wr_pages ..

@[simp] theorem State.inc_rings (s : State) (p : Page) (o : Nat) :
    (s.inc p o).rings = s.rings := State.wr_rings ..

@[simp] theorem State.inc_host (s : State) (p : Page) (o : Nat) :
    (s.inc p o).host = s.host := State.wr_host ..

@[simp] theorem State.inc_irq (s : State) (p : Page) (o : Nat) :
    (s.inc p o).irq = s.irq := State.wr_irq ..

@[simp] theorem State.inc_free (s : State) (p : Page) (o : Nat) :
    (s.inc p o).free = s.free := State.wr_free ..

@[simp] theorem State.inc_sent (s : State) (p : Page) (o : Nat) :
    (s.inc p o).sent = s.sent := State.wr_sent ..

@[simp] theorem State.inc_pending (s : State) (p : Page) (o : Nat) :
    (s.inc p o).pending = s.pending := State.wr_pending ..

@[simp] theorem State.inc_acc (s : State) (p : Page) (o : Nat) :
    (s.inc p o).acc = s.acc := State.wr_acc ..

@[simp] theorem State.inc_tb (s : State) (p : Page) (o : Nat) :
    (s.inc p o).tb = s.tb := State.wr_tb ..

@[simp] theorem State.inc_sns (s : State) (p : Page) (o : Nat) :
    (s.inc p o).sns = s.sns := State.wr_sns ..

@[simp] theorem State.inc_mod (s : State) (p : Page) (o : Nat) :
    (s.inc p o).mod = s.mod := State.wr_mod ..

@[simp] theorem State.inc_chg (s : State) (p : Page) (o : Nat) :
    (s.inc p o).chg = s.chg := State.wr_chg ..

@[simp] theorem State.inc_jrn (s : State) (p : Page) (o : Nat) :
    (s.inc p o).jrn = s.jrn := State.wr_jrn ..

@[simp] theorem State.inc_est (s : State) (p : Page) (o : Nat) :
    (s.inc p o).est = s.est := State.wr_est ..

@[simp] theorem State.inc_ost (s : State) (p : Page) (o : Nat) :
    (s.inc p o).ost = s.ost := State.wr_ost ..

@[simp] theorem State.inc_bal (s : State) (p : Page) (o : Nat) :
    (s.inc p o).bal = s.bal := State.wr_bal ..

@[simp] theorem State.inc_cth (s : State) (p : Page) (o : Nat) :
    (s.inc p o).cth = s.cth := State.wr_cth ..

@[simp] theorem State.inc_loops (s : State) (p : Page) (o : Nat) :
    (s.inc p o).loops = s.loops := State.wr_loops ..

@[simp] theorem State.inc_prot (s : State) (p : Page) (o : Nat) :
    (s.inc p o).prot = s.prot := State.wr_prot ..

@[simp] theorem State.inc_safe (s : State) (p : Page) (o : Nat) :
    (s.inc p o).safe = s.safe := State.wr_safe ..

@[simp] theorem State.inc_slay (s : State) (p : Page) (o : Nat) :
    (s.inc p o).slay = s.slay := State.wr_slay ..

@[simp] theorem State.inc_events (s : State) (p : Page) (o : Nat) :
    (s.inc p o).events = s.events := State.wr_events ..

@[simp] theorem State.inc_completions (s : State) (p : Page) (o : Nat) :
    (s.inc p o).completions = s.completions := State.wr_completions ..

@[simp] theorem State.inc_tdm (s : State) (p : Page) (o : Nat) :
    (s.inc p o).tdm = s.tdm := State.wr_tdm ..

@[simp] theorem State.inc_wit (s : State) (p : Page) (o : Nat) :
    (s.inc p o).wit = s.wit := State.wr_wit ..

@[simp] theorem State.inc_way (s : State) (p : Page) (o : Nat) :
    (s.inc p o).way = s.way := State.wr_way ..

@[simp] theorem State.inc_sbx (s : State) (p : Page) (o : Nat) :
    (s.inc p o).sbx = s.sbx := State.wr_sbx ..

@[simp] theorem State.inc_can (s : State) (p : Page) (o : Nat) :
    (s.inc p o).can = s.can := State.wr_can ..

@[simp] theorem State.inc_eth (s : State) (p : Page) (o : Nat) :
    (s.inc p o).eth = s.eth := State.wr_eth ..

@[simp] theorem State.inc_time (s : State) (p : Page) (o : Nat) :
    (s.inc p o).time = s.time := State.wr_time ..

@[simp] theorem State.inc_keyWait (s : State) (p : Page) (o : Nat) :
    (s.inc p o).keyWait = s.keyWait := State.wr_keyWait ..

@[simp] theorem State.inc_fwu (s : State) (p : Page) (o : Nat) :
    (s.inc p o).fwu = s.fwu := State.wr_fwu ..

@[simp] theorem State.inc_thm (s : State) (p : Page) (o : Nat) :
    (s.inc p o).thm = s.thm := State.wr_thm ..

@[simp] theorem State.inc_pwrAlarm (s : State) (p : Page) (o : Nat) :
    (s.inc p o).pwrAlarm = s.pwrAlarm := State.wr_pwrAlarm ..

@[simp] theorem State.inc_mram (s : State) (p : Page) (o : Nat) :
    (s.inc p o).mram = s.mram := State.wr_mram ..

@[simp] theorem State.incf_sys (s : State) (p : Page) (o hi lo : Nat) :
    (s.incf p o hi lo).sys = s.sys := State.wr_sys ..

@[simp] theorem State.incf_pages (s : State) (p : Page) (o hi lo : Nat) :
    (s.incf p o hi lo).pages = s.pages := State.wr_pages ..

@[simp] theorem State.incf_rings (s : State) (p : Page) (o hi lo : Nat) :
    (s.incf p o hi lo).rings = s.rings := State.wr_rings ..

@[simp] theorem State.incf_host (s : State) (p : Page) (o hi lo : Nat) :
    (s.incf p o hi lo).host = s.host := State.wr_host ..

@[simp] theorem State.incf_irq (s : State) (p : Page) (o hi lo : Nat) :
    (s.incf p o hi lo).irq = s.irq := State.wr_irq ..

@[simp] theorem State.incf_free (s : State) (p : Page) (o hi lo : Nat) :
    (s.incf p o hi lo).free = s.free := State.wr_free ..

@[simp] theorem State.incf_sent (s : State) (p : Page) (o hi lo : Nat) :
    (s.incf p o hi lo).sent = s.sent := State.wr_sent ..

@[simp] theorem State.incf_pending (s : State) (p : Page) (o hi lo : Nat) :
    (s.incf p o hi lo).pending = s.pending := State.wr_pending ..

@[simp] theorem State.incf_acc (s : State) (p : Page) (o hi lo : Nat) :
    (s.incf p o hi lo).acc = s.acc := State.wr_acc ..

@[simp] theorem State.incf_tb (s : State) (p : Page) (o hi lo : Nat) :
    (s.incf p o hi lo).tb = s.tb := State.wr_tb ..

@[simp] theorem State.incf_sns (s : State) (p : Page) (o hi lo : Nat) :
    (s.incf p o hi lo).sns = s.sns := State.wr_sns ..

@[simp] theorem State.incf_mod (s : State) (p : Page) (o hi lo : Nat) :
    (s.incf p o hi lo).mod = s.mod := State.wr_mod ..

@[simp] theorem State.incf_chg (s : State) (p : Page) (o hi lo : Nat) :
    (s.incf p o hi lo).chg = s.chg := State.wr_chg ..

@[simp] theorem State.incf_jrn (s : State) (p : Page) (o hi lo : Nat) :
    (s.incf p o hi lo).jrn = s.jrn := State.wr_jrn ..

@[simp] theorem State.incf_est (s : State) (p : Page) (o hi lo : Nat) :
    (s.incf p o hi lo).est = s.est := State.wr_est ..

@[simp] theorem State.incf_ost (s : State) (p : Page) (o hi lo : Nat) :
    (s.incf p o hi lo).ost = s.ost := State.wr_ost ..

@[simp] theorem State.incf_bal (s : State) (p : Page) (o hi lo : Nat) :
    (s.incf p o hi lo).bal = s.bal := State.wr_bal ..

@[simp] theorem State.incf_cth (s : State) (p : Page) (o hi lo : Nat) :
    (s.incf p o hi lo).cth = s.cth := State.wr_cth ..

@[simp] theorem State.incf_loops (s : State) (p : Page) (o hi lo : Nat) :
    (s.incf p o hi lo).loops = s.loops := State.wr_loops ..

@[simp] theorem State.incf_prot (s : State) (p : Page) (o hi lo : Nat) :
    (s.incf p o hi lo).prot = s.prot := State.wr_prot ..

@[simp] theorem State.incf_safe (s : State) (p : Page) (o hi lo : Nat) :
    (s.incf p o hi lo).safe = s.safe := State.wr_safe ..

@[simp] theorem State.incf_slay (s : State) (p : Page) (o hi lo : Nat) :
    (s.incf p o hi lo).slay = s.slay := State.wr_slay ..

@[simp] theorem State.incf_events (s : State) (p : Page) (o hi lo : Nat) :
    (s.incf p o hi lo).events = s.events := State.wr_events ..

@[simp] theorem State.incf_completions (s : State) (p : Page) (o hi lo : Nat) :
    (s.incf p o hi lo).completions = s.completions := State.wr_completions ..

@[simp] theorem State.incf_tdm (s : State) (p : Page) (o hi lo : Nat) :
    (s.incf p o hi lo).tdm = s.tdm := State.wr_tdm ..

@[simp] theorem State.incf_wit (s : State) (p : Page) (o hi lo : Nat) :
    (s.incf p o hi lo).wit = s.wit := State.wr_wit ..

@[simp] theorem State.incf_way (s : State) (p : Page) (o hi lo : Nat) :
    (s.incf p o hi lo).way = s.way := State.wr_way ..

@[simp] theorem State.incf_sbx (s : State) (p : Page) (o hi lo : Nat) :
    (s.incf p o hi lo).sbx = s.sbx := State.wr_sbx ..

@[simp] theorem State.incf_can (s : State) (p : Page) (o hi lo : Nat) :
    (s.incf p o hi lo).can = s.can := State.wr_can ..

@[simp] theorem State.incf_eth (s : State) (p : Page) (o hi lo : Nat) :
    (s.incf p o hi lo).eth = s.eth := State.wr_eth ..

@[simp] theorem State.incf_time (s : State) (p : Page) (o hi lo : Nat) :
    (s.incf p o hi lo).time = s.time := State.wr_time ..

@[simp] theorem State.incf_keyWait (s : State) (p : Page) (o hi lo : Nat) :
    (s.incf p o hi lo).keyWait = s.keyWait := State.wr_keyWait ..

@[simp] theorem State.incf_fwu (s : State) (p : Page) (o hi lo : Nat) :
    (s.incf p o hi lo).fwu = s.fwu := State.wr_fwu ..

@[simp] theorem State.incf_thm (s : State) (p : Page) (o hi lo : Nat) :
    (s.incf p o hi lo).thm = s.thm := State.wr_thm ..

@[simp] theorem State.incf_pwrAlarm (s : State) (p : Page) (o hi lo : Nat) :
    (s.incf p o hi lo).pwrAlarm = s.pwrAlarm := State.wr_pwrAlarm ..

@[simp] theorem State.incf_mram (s : State) (p : Page) (o hi lo : Nat) :
    (s.incf p o hi lo).mram = s.mram := State.wr_mram ..

@[simp] theorem State.wr64_sys (s : State) (p : Page) (lo hi v : Nat) :
    (s.wr64 p lo hi v).sys = s.sys := (State.wr_sys ..).trans (State.wr_sys ..)

@[simp] theorem State.wr64_pages (s : State) (p : Page) (lo hi v : Nat) :
    (s.wr64 p lo hi v).pages = s.pages := (State.wr_pages ..).trans (State.wr_pages ..)

@[simp] theorem State.wr64_rings (s : State) (p : Page) (lo hi v : Nat) :
    (s.wr64 p lo hi v).rings = s.rings := (State.wr_rings ..).trans (State.wr_rings ..)

@[simp] theorem State.wr64_host (s : State) (p : Page) (lo hi v : Nat) :
    (s.wr64 p lo hi v).host = s.host := (State.wr_host ..).trans (State.wr_host ..)

@[simp] theorem State.wr64_irq (s : State) (p : Page) (lo hi v : Nat) :
    (s.wr64 p lo hi v).irq = s.irq := (State.wr_irq ..).trans (State.wr_irq ..)

@[simp] theorem State.wr64_free (s : State) (p : Page) (lo hi v : Nat) :
    (s.wr64 p lo hi v).free = s.free := (State.wr_free ..).trans (State.wr_free ..)

@[simp] theorem State.wr64_sent (s : State) (p : Page) (lo hi v : Nat) :
    (s.wr64 p lo hi v).sent = s.sent := (State.wr_sent ..).trans (State.wr_sent ..)

@[simp] theorem State.wr64_pending (s : State) (p : Page) (lo hi v : Nat) :
    (s.wr64 p lo hi v).pending = s.pending := (State.wr_pending ..).trans (State.wr_pending ..)

@[simp] theorem State.wr64_acc (s : State) (p : Page) (lo hi v : Nat) :
    (s.wr64 p lo hi v).acc = s.acc := (State.wr_acc ..).trans (State.wr_acc ..)

@[simp] theorem State.wr64_tb (s : State) (p : Page) (lo hi v : Nat) :
    (s.wr64 p lo hi v).tb = s.tb := (State.wr_tb ..).trans (State.wr_tb ..)

@[simp] theorem State.wr64_sns (s : State) (p : Page) (lo hi v : Nat) :
    (s.wr64 p lo hi v).sns = s.sns := (State.wr_sns ..).trans (State.wr_sns ..)

@[simp] theorem State.wr64_mod (s : State) (p : Page) (lo hi v : Nat) :
    (s.wr64 p lo hi v).mod = s.mod := (State.wr_mod ..).trans (State.wr_mod ..)

@[simp] theorem State.wr64_chg (s : State) (p : Page) (lo hi v : Nat) :
    (s.wr64 p lo hi v).chg = s.chg := (State.wr_chg ..).trans (State.wr_chg ..)

@[simp] theorem State.wr64_jrn (s : State) (p : Page) (lo hi v : Nat) :
    (s.wr64 p lo hi v).jrn = s.jrn := (State.wr_jrn ..).trans (State.wr_jrn ..)

@[simp] theorem State.wr64_est (s : State) (p : Page) (lo hi v : Nat) :
    (s.wr64 p lo hi v).est = s.est := (State.wr_est ..).trans (State.wr_est ..)

@[simp] theorem State.wr64_ost (s : State) (p : Page) (lo hi v : Nat) :
    (s.wr64 p lo hi v).ost = s.ost := (State.wr_ost ..).trans (State.wr_ost ..)

@[simp] theorem State.wr64_bal (s : State) (p : Page) (lo hi v : Nat) :
    (s.wr64 p lo hi v).bal = s.bal := (State.wr_bal ..).trans (State.wr_bal ..)

@[simp] theorem State.wr64_cth (s : State) (p : Page) (lo hi v : Nat) :
    (s.wr64 p lo hi v).cth = s.cth := (State.wr_cth ..).trans (State.wr_cth ..)

@[simp] theorem State.wr64_loops (s : State) (p : Page) (lo hi v : Nat) :
    (s.wr64 p lo hi v).loops = s.loops := (State.wr_loops ..).trans (State.wr_loops ..)

@[simp] theorem State.wr64_prot (s : State) (p : Page) (lo hi v : Nat) :
    (s.wr64 p lo hi v).prot = s.prot := (State.wr_prot ..).trans (State.wr_prot ..)

@[simp] theorem State.wr64_safe (s : State) (p : Page) (lo hi v : Nat) :
    (s.wr64 p lo hi v).safe = s.safe := (State.wr_safe ..).trans (State.wr_safe ..)

@[simp] theorem State.wr64_slay (s : State) (p : Page) (lo hi v : Nat) :
    (s.wr64 p lo hi v).slay = s.slay := (State.wr_slay ..).trans (State.wr_slay ..)

@[simp] theorem State.wr64_events (s : State) (p : Page) (lo hi v : Nat) :
    (s.wr64 p lo hi v).events = s.events := (State.wr_events ..).trans (State.wr_events ..)

@[simp] theorem State.wr64_completions (s : State) (p : Page) (lo hi v : Nat) :
    (s.wr64 p lo hi v).completions = s.completions := (State.wr_completions ..).trans (State.wr_completions ..)

@[simp] theorem State.wr64_tdm (s : State) (p : Page) (lo hi v : Nat) :
    (s.wr64 p lo hi v).tdm = s.tdm := (State.wr_tdm ..).trans (State.wr_tdm ..)

@[simp] theorem State.wr64_wit (s : State) (p : Page) (lo hi v : Nat) :
    (s.wr64 p lo hi v).wit = s.wit := (State.wr_wit ..).trans (State.wr_wit ..)

@[simp] theorem State.wr64_way (s : State) (p : Page) (lo hi v : Nat) :
    (s.wr64 p lo hi v).way = s.way := (State.wr_way ..).trans (State.wr_way ..)

@[simp] theorem State.wr64_sbx (s : State) (p : Page) (lo hi v : Nat) :
    (s.wr64 p lo hi v).sbx = s.sbx := (State.wr_sbx ..).trans (State.wr_sbx ..)

@[simp] theorem State.wr64_can (s : State) (p : Page) (lo hi v : Nat) :
    (s.wr64 p lo hi v).can = s.can := (State.wr_can ..).trans (State.wr_can ..)

@[simp] theorem State.wr64_eth (s : State) (p : Page) (lo hi v : Nat) :
    (s.wr64 p lo hi v).eth = s.eth := (State.wr_eth ..).trans (State.wr_eth ..)

@[simp] theorem State.wr64_time (s : State) (p : Page) (lo hi v : Nat) :
    (s.wr64 p lo hi v).time = s.time := (State.wr_time ..).trans (State.wr_time ..)

@[simp] theorem State.wr64_keyWait (s : State) (p : Page) (lo hi v : Nat) :
    (s.wr64 p lo hi v).keyWait = s.keyWait := (State.wr_keyWait ..).trans (State.wr_keyWait ..)

@[simp] theorem State.wr64_fwu (s : State) (p : Page) (lo hi v : Nat) :
    (s.wr64 p lo hi v).fwu = s.fwu := (State.wr_fwu ..).trans (State.wr_fwu ..)

@[simp] theorem State.wr64_thm (s : State) (p : Page) (lo hi v : Nat) :
    (s.wr64 p lo hi v).thm = s.thm := (State.wr_thm ..).trans (State.wr_thm ..)

@[simp] theorem State.wr64_pwrAlarm (s : State) (p : Page) (lo hi v : Nat) :
    (s.wr64 p lo hi v).pwrAlarm = s.pwrAlarm := (State.wr_pwrAlarm ..).trans (State.wr_pwrAlarm ..)

@[simp] theorem State.wr64_mram (s : State) (p : Page) (lo hi v : Nat) :
    (s.wr64 p lo hi v).mram = s.mram := (State.wr_mram ..).trans (State.wr_mram ..)

@[simp] theorem State.irqCount_sys (s : State) (t : Nat) :
    (s.irqCount t).sys = s.sys := rfl

@[simp] theorem State.irqCount_pages (s : State) (t : Nat) :
    (s.irqCount t).pages = s.pages := rfl

@[simp] theorem State.irqCount_regs (s : State) (t : Nat) :
    (s.irqCount t).regs = s.regs := rfl

@[simp] theorem State.irqCount_rings (s : State) (t : Nat) :
    (s.irqCount t).rings = s.rings := rfl

@[simp] theorem State.irqCount_host (s : State) (t : Nat) :
    (s.irqCount t).host = s.host := rfl

@[simp] theorem State.irqCount_free (s : State) (t : Nat) :
    (s.irqCount t).free = s.free := rfl

@[simp] theorem State.irqCount_sent (s : State) (t : Nat) :
    (s.irqCount t).sent = s.sent := rfl

@[simp] theorem State.irqCount_pending (s : State) (t : Nat) :
    (s.irqCount t).pending = s.pending := rfl

@[simp] theorem State.irqCount_acc (s : State) (t : Nat) :
    (s.irqCount t).acc = s.acc := rfl

@[simp] theorem State.irqCount_tb (s : State) (t : Nat) :
    (s.irqCount t).tb = s.tb := rfl

@[simp] theorem State.irqCount_sns (s : State) (t : Nat) :
    (s.irqCount t).sns = s.sns := rfl

@[simp] theorem State.irqCount_mod (s : State) (t : Nat) :
    (s.irqCount t).mod = s.mod := rfl

@[simp] theorem State.irqCount_chg (s : State) (t : Nat) :
    (s.irqCount t).chg = s.chg := rfl

@[simp] theorem State.irqCount_jrn (s : State) (t : Nat) :
    (s.irqCount t).jrn = s.jrn := rfl

@[simp] theorem State.irqCount_est (s : State) (t : Nat) :
    (s.irqCount t).est = s.est := rfl

@[simp] theorem State.irqCount_ost (s : State) (t : Nat) :
    (s.irqCount t).ost = s.ost := rfl

@[simp] theorem State.irqCount_bal (s : State) (t : Nat) :
    (s.irqCount t).bal = s.bal := rfl

@[simp] theorem State.irqCount_cth (s : State) (t : Nat) :
    (s.irqCount t).cth = s.cth := rfl

@[simp] theorem State.irqCount_loops (s : State) (t : Nat) :
    (s.irqCount t).loops = s.loops := rfl

@[simp] theorem State.irqCount_prot (s : State) (t : Nat) :
    (s.irqCount t).prot = s.prot := rfl

@[simp] theorem State.irqCount_safe (s : State) (t : Nat) :
    (s.irqCount t).safe = s.safe := rfl

@[simp] theorem State.irqCount_slay (s : State) (t : Nat) :
    (s.irqCount t).slay = s.slay := rfl

@[simp] theorem State.irqCount_events (s : State) (t : Nat) :
    (s.irqCount t).events = s.events := rfl

@[simp] theorem State.irqCount_completions (s : State) (t : Nat) :
    (s.irqCount t).completions = s.completions := rfl

@[simp] theorem State.irqCount_tdm (s : State) (t : Nat) :
    (s.irqCount t).tdm = s.tdm := rfl

@[simp] theorem State.irqCount_wit (s : State) (t : Nat) :
    (s.irqCount t).wit = s.wit := rfl

@[simp] theorem State.irqCount_way (s : State) (t : Nat) :
    (s.irqCount t).way = s.way := rfl

@[simp] theorem State.irqCount_sbx (s : State) (t : Nat) :
    (s.irqCount t).sbx = s.sbx := rfl

@[simp] theorem State.irqCount_can (s : State) (t : Nat) :
    (s.irqCount t).can = s.can := rfl

@[simp] theorem State.irqCount_eth (s : State) (t : Nat) :
    (s.irqCount t).eth = s.eth := rfl

@[simp] theorem State.irqCount_time (s : State) (t : Nat) :
    (s.irqCount t).time = s.time := rfl

@[simp] theorem State.irqCount_keyWait (s : State) (t : Nat) :
    (s.irqCount t).keyWait = s.keyWait := rfl

@[simp] theorem State.irqCount_fwu (s : State) (t : Nat) :
    (s.irqCount t).fwu = s.fwu := rfl

@[simp] theorem State.irqCount_thm (s : State) (t : Nat) :
    (s.irqCount t).thm = s.thm := rfl

@[simp] theorem State.irqCount_pwrAlarm (s : State) (t : Nat) :
    (s.irqCount t).pwrAlarm = s.pwrAlarm := rfl

@[simp] theorem State.irqCount_mram (s : State) (t : Nat) :
    (s.irqCount t).mram = s.mram := rfl

@[simp] theorem State.irqHold_sys (s : State)  :
    (s.irqHold).sys = s.sys := by
  unfold State.irqHold; dsimp only; split
  · split <;> simp
  · simp

@[simp] theorem State.irqHold_pages (s : State)  :
    (s.irqHold).pages = s.pages := by
  unfold State.irqHold; dsimp only; split
  · split <;> simp
  · simp

@[simp] theorem State.irqHold_rings (s : State)  :
    (s.irqHold).rings = s.rings := by
  unfold State.irqHold; dsimp only; split
  · split <;> simp
  · simp

@[simp] theorem State.irqHold_host (s : State)  :
    (s.irqHold).host = s.host := by
  unfold State.irqHold; dsimp only; split
  · split <;> simp
  · simp

@[simp] theorem State.irqHold_free (s : State)  :
    (s.irqHold).free = s.free := by
  unfold State.irqHold; dsimp only; split
  · split <;> simp
  · simp

@[simp] theorem State.irqHold_sent (s : State)  :
    (s.irqHold).sent = s.sent := by
  unfold State.irqHold; dsimp only; split
  · split <;> simp
  · simp

@[simp] theorem State.irqHold_pending (s : State)  :
    (s.irqHold).pending = s.pending := by
  unfold State.irqHold; dsimp only; split
  · split <;> simp
  · simp

@[simp] theorem State.irqHold_acc (s : State)  :
    (s.irqHold).acc = s.acc := by
  unfold State.irqHold; dsimp only; split
  · split <;> simp
  · simp

@[simp] theorem State.irqHold_tb (s : State)  :
    (s.irqHold).tb = s.tb := by
  unfold State.irqHold; dsimp only; split
  · split <;> simp
  · simp

@[simp] theorem State.irqHold_sns (s : State)  :
    (s.irqHold).sns = s.sns := by
  unfold State.irqHold; dsimp only; split
  · split <;> simp
  · simp

@[simp] theorem State.irqHold_mod (s : State)  :
    (s.irqHold).mod = s.mod := by
  unfold State.irqHold; dsimp only; split
  · split <;> simp
  · simp

@[simp] theorem State.irqHold_chg (s : State)  :
    (s.irqHold).chg = s.chg := by
  unfold State.irqHold; dsimp only; split
  · split <;> simp
  · simp

@[simp] theorem State.irqHold_jrn (s : State)  :
    (s.irqHold).jrn = s.jrn := by
  unfold State.irqHold; dsimp only; split
  · split <;> simp
  · simp

@[simp] theorem State.irqHold_est (s : State)  :
    (s.irqHold).est = s.est := by
  unfold State.irqHold; dsimp only; split
  · split <;> simp
  · simp

@[simp] theorem State.irqHold_ost (s : State)  :
    (s.irqHold).ost = s.ost := by
  unfold State.irqHold; dsimp only; split
  · split <;> simp
  · simp

@[simp] theorem State.irqHold_bal (s : State)  :
    (s.irqHold).bal = s.bal := by
  unfold State.irqHold; dsimp only; split
  · split <;> simp
  · simp

@[simp] theorem State.irqHold_cth (s : State)  :
    (s.irqHold).cth = s.cth := by
  unfold State.irqHold; dsimp only; split
  · split <;> simp
  · simp

@[simp] theorem State.irqHold_loops (s : State)  :
    (s.irqHold).loops = s.loops := by
  unfold State.irqHold; dsimp only; split
  · split <;> simp
  · simp

@[simp] theorem State.irqHold_prot (s : State)  :
    (s.irqHold).prot = s.prot := by
  unfold State.irqHold; dsimp only; split
  · split <;> simp
  · simp

@[simp] theorem State.irqHold_safe (s : State)  :
    (s.irqHold).safe = s.safe := by
  unfold State.irqHold; dsimp only; split
  · split <;> simp
  · simp

@[simp] theorem State.irqHold_slay (s : State)  :
    (s.irqHold).slay = s.slay := by
  unfold State.irqHold; dsimp only; split
  · split <;> simp
  · simp

@[simp] theorem State.irqHold_events (s : State)  :
    (s.irqHold).events = s.events := by
  unfold State.irqHold; dsimp only; split
  · split <;> simp
  · simp

@[simp] theorem State.irqHold_completions (s : State)  :
    (s.irqHold).completions = s.completions := by
  unfold State.irqHold; dsimp only; split
  · split <;> simp
  · simp

@[simp] theorem State.irqHold_tdm (s : State)  :
    (s.irqHold).tdm = s.tdm := by
  unfold State.irqHold; dsimp only; split
  · split <;> simp
  · simp

@[simp] theorem State.irqHold_wit (s : State)  :
    (s.irqHold).wit = s.wit := by
  unfold State.irqHold; dsimp only; split
  · split <;> simp
  · simp

@[simp] theorem State.irqHold_way (s : State)  :
    (s.irqHold).way = s.way := by
  unfold State.irqHold; dsimp only; split
  · split <;> simp
  · simp

@[simp] theorem State.irqHold_sbx (s : State)  :
    (s.irqHold).sbx = s.sbx := by
  unfold State.irqHold; dsimp only; split
  · split <;> simp
  · simp

@[simp] theorem State.irqHold_can (s : State)  :
    (s.irqHold).can = s.can := by
  unfold State.irqHold; dsimp only; split
  · split <;> simp
  · simp

@[simp] theorem State.irqHold_eth (s : State)  :
    (s.irqHold).eth = s.eth := by
  unfold State.irqHold; dsimp only; split
  · split <;> simp
  · simp

@[simp] theorem State.irqHold_time (s : State)  :
    (s.irqHold).time = s.time := by
  unfold State.irqHold; dsimp only; split
  · split <;> simp
  · simp

@[simp] theorem State.irqHold_keyWait (s : State)  :
    (s.irqHold).keyWait = s.keyWait := by
  unfold State.irqHold; dsimp only; split
  · split <;> simp
  · simp

@[simp] theorem State.irqHold_fwu (s : State)  :
    (s.irqHold).fwu = s.fwu := by
  unfold State.irqHold; dsimp only; split
  · split <;> simp
  · simp

@[simp] theorem State.irqHold_thm (s : State)  :
    (s.irqHold).thm = s.thm := by
  unfold State.irqHold; dsimp only; split
  · split <;> simp
  · simp

@[simp] theorem State.irqHold_pwrAlarm (s : State)  :
    (s.irqHold).pwrAlarm = s.pwrAlarm := by
  unfold State.irqHold; dsimp only; split
  · split <;> simp
  · simp

@[simp] theorem State.irqHold_mram (s : State)  :
    (s.irqHold).mram = s.mram := by
  unfold State.irqHold; dsimp only; split
  · split <;> simp
  · simp

@[simp] theorem State.irqEvent_sys (s : State) (n : Nat) :
    (s.irqEvent n).sys = s.sys := by
  unfold State.irqEvent; dsimp only; split
  · simp
  · split <;> simp

@[simp] theorem State.irqEvent_pages (s : State) (n : Nat) :
    (s.irqEvent n).pages = s.pages := by
  unfold State.irqEvent; dsimp only; split
  · simp
  · split <;> simp

@[simp] theorem State.irqEvent_rings (s : State) (n : Nat) :
    (s.irqEvent n).rings = s.rings := by
  unfold State.irqEvent; dsimp only; split
  · simp
  · split <;> simp

@[simp] theorem State.irqEvent_host (s : State) (n : Nat) :
    (s.irqEvent n).host = s.host := by
  unfold State.irqEvent; dsimp only; split
  · simp
  · split <;> simp

@[simp] theorem State.irqEvent_free (s : State) (n : Nat) :
    (s.irqEvent n).free = s.free := by
  unfold State.irqEvent; dsimp only; split
  · simp
  · split <;> simp

@[simp] theorem State.irqEvent_sent (s : State) (n : Nat) :
    (s.irqEvent n).sent = s.sent := by
  unfold State.irqEvent; dsimp only; split
  · simp
  · split <;> simp

@[simp] theorem State.irqEvent_pending (s : State) (n : Nat) :
    (s.irqEvent n).pending = s.pending := by
  unfold State.irqEvent; dsimp only; split
  · simp
  · split <;> simp

@[simp] theorem State.irqEvent_acc (s : State) (n : Nat) :
    (s.irqEvent n).acc = s.acc := by
  unfold State.irqEvent; dsimp only; split
  · simp
  · split <;> simp

@[simp] theorem State.irqEvent_tb (s : State) (n : Nat) :
    (s.irqEvent n).tb = s.tb := by
  unfold State.irqEvent; dsimp only; split
  · simp
  · split <;> simp

@[simp] theorem State.irqEvent_sns (s : State) (n : Nat) :
    (s.irqEvent n).sns = s.sns := by
  unfold State.irqEvent; dsimp only; split
  · simp
  · split <;> simp

@[simp] theorem State.irqEvent_mod (s : State) (n : Nat) :
    (s.irqEvent n).mod = s.mod := by
  unfold State.irqEvent; dsimp only; split
  · simp
  · split <;> simp

@[simp] theorem State.irqEvent_chg (s : State) (n : Nat) :
    (s.irqEvent n).chg = s.chg := by
  unfold State.irqEvent; dsimp only; split
  · simp
  · split <;> simp

@[simp] theorem State.irqEvent_jrn (s : State) (n : Nat) :
    (s.irqEvent n).jrn = s.jrn := by
  unfold State.irqEvent; dsimp only; split
  · simp
  · split <;> simp

@[simp] theorem State.irqEvent_est (s : State) (n : Nat) :
    (s.irqEvent n).est = s.est := by
  unfold State.irqEvent; dsimp only; split
  · simp
  · split <;> simp

@[simp] theorem State.irqEvent_ost (s : State) (n : Nat) :
    (s.irqEvent n).ost = s.ost := by
  unfold State.irqEvent; dsimp only; split
  · simp
  · split <;> simp

@[simp] theorem State.irqEvent_bal (s : State) (n : Nat) :
    (s.irqEvent n).bal = s.bal := by
  unfold State.irqEvent; dsimp only; split
  · simp
  · split <;> simp

@[simp] theorem State.irqEvent_cth (s : State) (n : Nat) :
    (s.irqEvent n).cth = s.cth := by
  unfold State.irqEvent; dsimp only; split
  · simp
  · split <;> simp

@[simp] theorem State.irqEvent_loops (s : State) (n : Nat) :
    (s.irqEvent n).loops = s.loops := by
  unfold State.irqEvent; dsimp only; split
  · simp
  · split <;> simp

@[simp] theorem State.irqEvent_prot (s : State) (n : Nat) :
    (s.irqEvent n).prot = s.prot := by
  unfold State.irqEvent; dsimp only; split
  · simp
  · split <;> simp

@[simp] theorem State.irqEvent_safe (s : State) (n : Nat) :
    (s.irqEvent n).safe = s.safe := by
  unfold State.irqEvent; dsimp only; split
  · simp
  · split <;> simp

@[simp] theorem State.irqEvent_slay (s : State) (n : Nat) :
    (s.irqEvent n).slay = s.slay := by
  unfold State.irqEvent; dsimp only; split
  · simp
  · split <;> simp

@[simp] theorem State.irqEvent_events (s : State) (n : Nat) :
    (s.irqEvent n).events = s.events := by
  unfold State.irqEvent; dsimp only; split
  · simp
  · split <;> simp

@[simp] theorem State.irqEvent_completions (s : State) (n : Nat) :
    (s.irqEvent n).completions = s.completions := by
  unfold State.irqEvent; dsimp only; split
  · simp
  · split <;> simp

@[simp] theorem State.irqEvent_tdm (s : State) (n : Nat) :
    (s.irqEvent n).tdm = s.tdm := by
  unfold State.irqEvent; dsimp only; split
  · simp
  · split <;> simp

@[simp] theorem State.irqEvent_wit (s : State) (n : Nat) :
    (s.irqEvent n).wit = s.wit := by
  unfold State.irqEvent; dsimp only; split
  · simp
  · split <;> simp

@[simp] theorem State.irqEvent_way (s : State) (n : Nat) :
    (s.irqEvent n).way = s.way := by
  unfold State.irqEvent; dsimp only; split
  · simp
  · split <;> simp

@[simp] theorem State.irqEvent_sbx (s : State) (n : Nat) :
    (s.irqEvent n).sbx = s.sbx := by
  unfold State.irqEvent; dsimp only; split
  · simp
  · split <;> simp

@[simp] theorem State.irqEvent_can (s : State) (n : Nat) :
    (s.irqEvent n).can = s.can := by
  unfold State.irqEvent; dsimp only; split
  · simp
  · split <;> simp

@[simp] theorem State.irqEvent_eth (s : State) (n : Nat) :
    (s.irqEvent n).eth = s.eth := by
  unfold State.irqEvent; dsimp only; split
  · simp
  · split <;> simp

@[simp] theorem State.irqEvent_time (s : State) (n : Nat) :
    (s.irqEvent n).time = s.time := by
  unfold State.irqEvent; dsimp only; split
  · simp
  · split <;> simp

@[simp] theorem State.irqEvent_keyWait (s : State) (n : Nat) :
    (s.irqEvent n).keyWait = s.keyWait := by
  unfold State.irqEvent; dsimp only; split
  · simp
  · split <;> simp

@[simp] theorem State.irqEvent_fwu (s : State) (n : Nat) :
    (s.irqEvent n).fwu = s.fwu := by
  unfold State.irqEvent; dsimp only; split
  · simp
  · split <;> simp

@[simp] theorem State.irqEvent_thm (s : State) (n : Nat) :
    (s.irqEvent n).thm = s.thm := by
  unfold State.irqEvent; dsimp only; split
  · simp
  · split <;> simp

@[simp] theorem State.irqEvent_pwrAlarm (s : State) (n : Nat) :
    (s.irqEvent n).pwrAlarm = s.pwrAlarm := by
  unfold State.irqEvent; dsimp only; split
  · simp
  · split <;> simp

@[simp] theorem State.irqEvent_mram (s : State) (n : Nat) :
    (s.irqEvent n).mram = s.mram := by
  unfold State.irqEvent; dsimp only; split
  · simp
  · split <;> simp

@[simp] theorem State.edgeSource_sys (s : State) (n : Nat) :
    (s.edgeSource n).sys = s.sys := by
  unfold State.edgeSource; split <;> simp

@[simp] theorem State.edgeSource_pages (s : State) (n : Nat) :
    (s.edgeSource n).pages = s.pages := by
  unfold State.edgeSource; split <;> simp

@[simp] theorem State.edgeSource_rings (s : State) (n : Nat) :
    (s.edgeSource n).rings = s.rings := by
  unfold State.edgeSource; split <;> simp

@[simp] theorem State.edgeSource_host (s : State) (n : Nat) :
    (s.edgeSource n).host = s.host := by
  unfold State.edgeSource; split <;> simp

@[simp] theorem State.edgeSource_free (s : State) (n : Nat) :
    (s.edgeSource n).free = s.free := by
  unfold State.edgeSource; split <;> simp

@[simp] theorem State.edgeSource_sent (s : State) (n : Nat) :
    (s.edgeSource n).sent = s.sent := by
  unfold State.edgeSource; split <;> simp

@[simp] theorem State.edgeSource_pending (s : State) (n : Nat) :
    (s.edgeSource n).pending = s.pending := by
  unfold State.edgeSource; split <;> simp

@[simp] theorem State.edgeSource_acc (s : State) (n : Nat) :
    (s.edgeSource n).acc = s.acc := by
  unfold State.edgeSource; split <;> simp

@[simp] theorem State.edgeSource_tb (s : State) (n : Nat) :
    (s.edgeSource n).tb = s.tb := by
  unfold State.edgeSource; split <;> simp

@[simp] theorem State.edgeSource_sns (s : State) (n : Nat) :
    (s.edgeSource n).sns = s.sns := by
  unfold State.edgeSource; split <;> simp

@[simp] theorem State.edgeSource_mod (s : State) (n : Nat) :
    (s.edgeSource n).mod = s.mod := by
  unfold State.edgeSource; split <;> simp

@[simp] theorem State.edgeSource_chg (s : State) (n : Nat) :
    (s.edgeSource n).chg = s.chg := by
  unfold State.edgeSource; split <;> simp

@[simp] theorem State.edgeSource_jrn (s : State) (n : Nat) :
    (s.edgeSource n).jrn = s.jrn := by
  unfold State.edgeSource; split <;> simp

@[simp] theorem State.edgeSource_est (s : State) (n : Nat) :
    (s.edgeSource n).est = s.est := by
  unfold State.edgeSource; split <;> simp

@[simp] theorem State.edgeSource_ost (s : State) (n : Nat) :
    (s.edgeSource n).ost = s.ost := by
  unfold State.edgeSource; split <;> simp

@[simp] theorem State.edgeSource_bal (s : State) (n : Nat) :
    (s.edgeSource n).bal = s.bal := by
  unfold State.edgeSource; split <;> simp

@[simp] theorem State.edgeSource_cth (s : State) (n : Nat) :
    (s.edgeSource n).cth = s.cth := by
  unfold State.edgeSource; split <;> simp

@[simp] theorem State.edgeSource_loops (s : State) (n : Nat) :
    (s.edgeSource n).loops = s.loops := by
  unfold State.edgeSource; split <;> simp

@[simp] theorem State.edgeSource_prot (s : State) (n : Nat) :
    (s.edgeSource n).prot = s.prot := by
  unfold State.edgeSource; split <;> simp

@[simp] theorem State.edgeSource_safe (s : State) (n : Nat) :
    (s.edgeSource n).safe = s.safe := by
  unfold State.edgeSource; split <;> simp

@[simp] theorem State.edgeSource_slay (s : State) (n : Nat) :
    (s.edgeSource n).slay = s.slay := by
  unfold State.edgeSource; split <;> simp

@[simp] theorem State.edgeSource_events (s : State) (n : Nat) :
    (s.edgeSource n).events = s.events := by
  unfold State.edgeSource; split <;> simp

@[simp] theorem State.edgeSource_completions (s : State) (n : Nat) :
    (s.edgeSource n).completions = s.completions := by
  unfold State.edgeSource; split <;> simp

@[simp] theorem State.edgeSource_tdm (s : State) (n : Nat) :
    (s.edgeSource n).tdm = s.tdm := by
  unfold State.edgeSource; split <;> simp

@[simp] theorem State.edgeSource_wit (s : State) (n : Nat) :
    (s.edgeSource n).wit = s.wit := by
  unfold State.edgeSource; split <;> simp

@[simp] theorem State.edgeSource_way (s : State) (n : Nat) :
    (s.edgeSource n).way = s.way := by
  unfold State.edgeSource; split <;> simp

@[simp] theorem State.edgeSource_sbx (s : State) (n : Nat) :
    (s.edgeSource n).sbx = s.sbx := by
  unfold State.edgeSource; split <;> simp

@[simp] theorem State.edgeSource_can (s : State) (n : Nat) :
    (s.edgeSource n).can = s.can := by
  unfold State.edgeSource; split <;> simp

@[simp] theorem State.edgeSource_eth (s : State) (n : Nat) :
    (s.edgeSource n).eth = s.eth := by
  unfold State.edgeSource; split <;> simp

@[simp] theorem State.edgeSource_time (s : State) (n : Nat) :
    (s.edgeSource n).time = s.time := by
  unfold State.edgeSource; split <;> simp

@[simp] theorem State.edgeSource_keyWait (s : State) (n : Nat) :
    (s.edgeSource n).keyWait = s.keyWait := by
  unfold State.edgeSource; split <;> simp

@[simp] theorem State.edgeSource_fwu (s : State) (n : Nat) :
    (s.edgeSource n).fwu = s.fwu := by
  unfold State.edgeSource; split <;> simp

@[simp] theorem State.edgeSource_thm (s : State) (n : Nat) :
    (s.edgeSource n).thm = s.thm := by
  unfold State.edgeSource; split <;> simp

@[simp] theorem State.edgeSource_pwrAlarm (s : State) (n : Nat) :
    (s.edgeSource n).pwrAlarm = s.pwrAlarm := by
  unfold State.edgeSource; split <;> simp

@[simp] theorem State.edgeSource_mram (s : State) (n : Nat) :
    (s.edgeSource n).mram = s.mram := by
  unfold State.edgeSource; split <;> simp

@[simp] theorem State.levelSource_sys (s : State) (n : Nat) (l : Bool) :
    (s.levelSource n l).sys = s.sys := by
  unfold State.levelSource; dsimp only; split <;> simp

@[simp] theorem State.levelSource_pages (s : State) (n : Nat) (l : Bool) :
    (s.levelSource n l).pages = s.pages := by
  unfold State.levelSource; dsimp only; split <;> simp

@[simp] theorem State.levelSource_rings (s : State) (n : Nat) (l : Bool) :
    (s.levelSource n l).rings = s.rings := by
  unfold State.levelSource; dsimp only; split <;> simp

@[simp] theorem State.levelSource_host (s : State) (n : Nat) (l : Bool) :
    (s.levelSource n l).host = s.host := by
  unfold State.levelSource; dsimp only; split <;> simp

@[simp] theorem State.levelSource_free (s : State) (n : Nat) (l : Bool) :
    (s.levelSource n l).free = s.free := by
  unfold State.levelSource; dsimp only; split <;> simp

@[simp] theorem State.levelSource_sent (s : State) (n : Nat) (l : Bool) :
    (s.levelSource n l).sent = s.sent := by
  unfold State.levelSource; dsimp only; split <;> simp

@[simp] theorem State.levelSource_pending (s : State) (n : Nat) (l : Bool) :
    (s.levelSource n l).pending = s.pending := by
  unfold State.levelSource; dsimp only; split <;> simp

@[simp] theorem State.levelSource_acc (s : State) (n : Nat) (l : Bool) :
    (s.levelSource n l).acc = s.acc := by
  unfold State.levelSource; dsimp only; split <;> simp

@[simp] theorem State.levelSource_tb (s : State) (n : Nat) (l : Bool) :
    (s.levelSource n l).tb = s.tb := by
  unfold State.levelSource; dsimp only; split <;> simp

@[simp] theorem State.levelSource_sns (s : State) (n : Nat) (l : Bool) :
    (s.levelSource n l).sns = s.sns := by
  unfold State.levelSource; dsimp only; split <;> simp

@[simp] theorem State.levelSource_mod (s : State) (n : Nat) (l : Bool) :
    (s.levelSource n l).mod = s.mod := by
  unfold State.levelSource; dsimp only; split <;> simp

@[simp] theorem State.levelSource_chg (s : State) (n : Nat) (l : Bool) :
    (s.levelSource n l).chg = s.chg := by
  unfold State.levelSource; dsimp only; split <;> simp

@[simp] theorem State.levelSource_jrn (s : State) (n : Nat) (l : Bool) :
    (s.levelSource n l).jrn = s.jrn := by
  unfold State.levelSource; dsimp only; split <;> simp

@[simp] theorem State.levelSource_est (s : State) (n : Nat) (l : Bool) :
    (s.levelSource n l).est = s.est := by
  unfold State.levelSource; dsimp only; split <;> simp

@[simp] theorem State.levelSource_ost (s : State) (n : Nat) (l : Bool) :
    (s.levelSource n l).ost = s.ost := by
  unfold State.levelSource; dsimp only; split <;> simp

@[simp] theorem State.levelSource_bal (s : State) (n : Nat) (l : Bool) :
    (s.levelSource n l).bal = s.bal := by
  unfold State.levelSource; dsimp only; split <;> simp

@[simp] theorem State.levelSource_cth (s : State) (n : Nat) (l : Bool) :
    (s.levelSource n l).cth = s.cth := by
  unfold State.levelSource; dsimp only; split <;> simp

@[simp] theorem State.levelSource_loops (s : State) (n : Nat) (l : Bool) :
    (s.levelSource n l).loops = s.loops := by
  unfold State.levelSource; dsimp only; split <;> simp

@[simp] theorem State.levelSource_prot (s : State) (n : Nat) (l : Bool) :
    (s.levelSource n l).prot = s.prot := by
  unfold State.levelSource; dsimp only; split <;> simp

@[simp] theorem State.levelSource_safe (s : State) (n : Nat) (l : Bool) :
    (s.levelSource n l).safe = s.safe := by
  unfold State.levelSource; dsimp only; split <;> simp

@[simp] theorem State.levelSource_slay (s : State) (n : Nat) (l : Bool) :
    (s.levelSource n l).slay = s.slay := by
  unfold State.levelSource; dsimp only; split <;> simp

@[simp] theorem State.levelSource_events (s : State) (n : Nat) (l : Bool) :
    (s.levelSource n l).events = s.events := by
  unfold State.levelSource; dsimp only; split <;> simp

@[simp] theorem State.levelSource_completions (s : State) (n : Nat) (l : Bool) :
    (s.levelSource n l).completions = s.completions := by
  unfold State.levelSource; dsimp only; split <;> simp

@[simp] theorem State.levelSource_tdm (s : State) (n : Nat) (l : Bool) :
    (s.levelSource n l).tdm = s.tdm := by
  unfold State.levelSource; dsimp only; split <;> simp

@[simp] theorem State.levelSource_wit (s : State) (n : Nat) (l : Bool) :
    (s.levelSource n l).wit = s.wit := by
  unfold State.levelSource; dsimp only; split <;> simp

@[simp] theorem State.levelSource_way (s : State) (n : Nat) (l : Bool) :
    (s.levelSource n l).way = s.way := by
  unfold State.levelSource; dsimp only; split <;> simp

@[simp] theorem State.levelSource_sbx (s : State) (n : Nat) (l : Bool) :
    (s.levelSource n l).sbx = s.sbx := by
  unfold State.levelSource; dsimp only; split <;> simp

@[simp] theorem State.levelSource_can (s : State) (n : Nat) (l : Bool) :
    (s.levelSource n l).can = s.can := by
  unfold State.levelSource; dsimp only; split <;> simp

@[simp] theorem State.levelSource_eth (s : State) (n : Nat) (l : Bool) :
    (s.levelSource n l).eth = s.eth := by
  unfold State.levelSource; dsimp only; split <;> simp

@[simp] theorem State.levelSource_time (s : State) (n : Nat) (l : Bool) :
    (s.levelSource n l).time = s.time := by
  unfold State.levelSource; dsimp only; split <;> simp

@[simp] theorem State.levelSource_keyWait (s : State) (n : Nat) (l : Bool) :
    (s.levelSource n l).keyWait = s.keyWait := by
  unfold State.levelSource; dsimp only; split <;> simp

@[simp] theorem State.levelSource_fwu (s : State) (n : Nat) (l : Bool) :
    (s.levelSource n l).fwu = s.fwu := by
  unfold State.levelSource; dsimp only; split <;> simp

@[simp] theorem State.levelSource_thm (s : State) (n : Nat) (l : Bool) :
    (s.levelSource n l).thm = s.thm := by
  unfold State.levelSource; dsimp only; split <;> simp

@[simp] theorem State.levelSource_pwrAlarm (s : State) (n : Nat) (l : Bool) :
    (s.levelSource n l).pwrAlarm = s.pwrAlarm := by
  unfold State.levelSource; dsimp only; split <;> simp

@[simp] theorem State.levelSource_mram (s : State) (n : Nat) (l : Bool) :
    (s.levelSource n l).mram = s.mram := by
  unfold State.levelSource; dsimp only; split <;> simp

@[simp] theorem State.pageLine_sys (s : State) (p : Page) :
    (s.pageLine p).sys = s.sys := State.levelSource_sys ..

@[simp] theorem State.pageLine_pages (s : State) (p : Page) :
    (s.pageLine p).pages = s.pages := State.levelSource_pages ..

@[simp] theorem State.pageLine_rings (s : State) (p : Page) :
    (s.pageLine p).rings = s.rings := State.levelSource_rings ..

@[simp] theorem State.pageLine_host (s : State) (p : Page) :
    (s.pageLine p).host = s.host := State.levelSource_host ..

@[simp] theorem State.pageLine_free (s : State) (p : Page) :
    (s.pageLine p).free = s.free := State.levelSource_free ..

@[simp] theorem State.pageLine_sent (s : State) (p : Page) :
    (s.pageLine p).sent = s.sent := State.levelSource_sent ..

@[simp] theorem State.pageLine_pending (s : State) (p : Page) :
    (s.pageLine p).pending = s.pending := State.levelSource_pending ..

@[simp] theorem State.pageLine_acc (s : State) (p : Page) :
    (s.pageLine p).acc = s.acc := State.levelSource_acc ..

@[simp] theorem State.pageLine_tb (s : State) (p : Page) :
    (s.pageLine p).tb = s.tb := State.levelSource_tb ..

@[simp] theorem State.pageLine_sns (s : State) (p : Page) :
    (s.pageLine p).sns = s.sns := State.levelSource_sns ..

@[simp] theorem State.pageLine_mod (s : State) (p : Page) :
    (s.pageLine p).mod = s.mod := State.levelSource_mod ..

@[simp] theorem State.pageLine_chg (s : State) (p : Page) :
    (s.pageLine p).chg = s.chg := State.levelSource_chg ..

@[simp] theorem State.pageLine_jrn (s : State) (p : Page) :
    (s.pageLine p).jrn = s.jrn := State.levelSource_jrn ..

@[simp] theorem State.pageLine_est (s : State) (p : Page) :
    (s.pageLine p).est = s.est := State.levelSource_est ..

@[simp] theorem State.pageLine_ost (s : State) (p : Page) :
    (s.pageLine p).ost = s.ost := State.levelSource_ost ..

@[simp] theorem State.pageLine_bal (s : State) (p : Page) :
    (s.pageLine p).bal = s.bal := State.levelSource_bal ..

@[simp] theorem State.pageLine_cth (s : State) (p : Page) :
    (s.pageLine p).cth = s.cth := State.levelSource_cth ..

@[simp] theorem State.pageLine_loops (s : State) (p : Page) :
    (s.pageLine p).loops = s.loops := State.levelSource_loops ..

@[simp] theorem State.pageLine_prot (s : State) (p : Page) :
    (s.pageLine p).prot = s.prot := State.levelSource_prot ..

@[simp] theorem State.pageLine_safe (s : State) (p : Page) :
    (s.pageLine p).safe = s.safe := State.levelSource_safe ..

@[simp] theorem State.pageLine_slay (s : State) (p : Page) :
    (s.pageLine p).slay = s.slay := State.levelSource_slay ..

@[simp] theorem State.pageLine_events (s : State) (p : Page) :
    (s.pageLine p).events = s.events := State.levelSource_events ..

@[simp] theorem State.pageLine_completions (s : State) (p : Page) :
    (s.pageLine p).completions = s.completions := State.levelSource_completions ..

@[simp] theorem State.pageLine_tdm (s : State) (p : Page) :
    (s.pageLine p).tdm = s.tdm := State.levelSource_tdm ..

@[simp] theorem State.pageLine_wit (s : State) (p : Page) :
    (s.pageLine p).wit = s.wit := State.levelSource_wit ..

@[simp] theorem State.pageLine_way (s : State) (p : Page) :
    (s.pageLine p).way = s.way := State.levelSource_way ..

@[simp] theorem State.pageLine_sbx (s : State) (p : Page) :
    (s.pageLine p).sbx = s.sbx := State.levelSource_sbx ..

@[simp] theorem State.pageLine_can (s : State) (p : Page) :
    (s.pageLine p).can = s.can := State.levelSource_can ..

@[simp] theorem State.pageLine_eth (s : State) (p : Page) :
    (s.pageLine p).eth = s.eth := State.levelSource_eth ..

@[simp] theorem State.pageLine_time (s : State) (p : Page) :
    (s.pageLine p).time = s.time := State.levelSource_time ..

@[simp] theorem State.pageLine_keyWait (s : State) (p : Page) :
    (s.pageLine p).keyWait = s.keyWait := State.levelSource_keyWait ..

@[simp] theorem State.pageLine_fwu (s : State) (p : Page) :
    (s.pageLine p).fwu = s.fwu := State.levelSource_fwu ..

@[simp] theorem State.pageLine_thm (s : State) (p : Page) :
    (s.pageLine p).thm = s.thm := State.levelSource_thm ..

@[simp] theorem State.pageLine_pwrAlarm (s : State) (p : Page) :
    (s.pageLine p).pwrAlarm = s.pwrAlarm := State.levelSource_pwrAlarm ..

@[simp] theorem State.pageLine_mram (s : State) (p : Page) :
    (s.pageLine p).mram = s.mram := State.levelSource_mram ..

@[simp] theorem State.flag_sys (s : State) (p : Page) (n : Nat) :
    (s.flag p n).sys = s.sys := (State.pageLine_sys ..).trans (State.wrb_sys ..)

@[simp] theorem State.flag_pages (s : State) (p : Page) (n : Nat) :
    (s.flag p n).pages = s.pages := (State.pageLine_pages ..).trans (State.wrb_pages ..)

@[simp] theorem State.flag_rings (s : State) (p : Page) (n : Nat) :
    (s.flag p n).rings = s.rings := (State.pageLine_rings ..).trans (State.wrb_rings ..)

@[simp] theorem State.flag_host (s : State) (p : Page) (n : Nat) :
    (s.flag p n).host = s.host := (State.pageLine_host ..).trans (State.wrb_host ..)

@[simp] theorem State.flag_free (s : State) (p : Page) (n : Nat) :
    (s.flag p n).free = s.free := (State.pageLine_free ..).trans (State.wrb_free ..)

@[simp] theorem State.flag_sent (s : State) (p : Page) (n : Nat) :
    (s.flag p n).sent = s.sent := (State.pageLine_sent ..).trans (State.wrb_sent ..)

@[simp] theorem State.flag_pending (s : State) (p : Page) (n : Nat) :
    (s.flag p n).pending = s.pending := (State.pageLine_pending ..).trans (State.wrb_pending ..)

@[simp] theorem State.flag_acc (s : State) (p : Page) (n : Nat) :
    (s.flag p n).acc = s.acc := (State.pageLine_acc ..).trans (State.wrb_acc ..)

@[simp] theorem State.flag_tb (s : State) (p : Page) (n : Nat) :
    (s.flag p n).tb = s.tb := (State.pageLine_tb ..).trans (State.wrb_tb ..)

@[simp] theorem State.flag_sns (s : State) (p : Page) (n : Nat) :
    (s.flag p n).sns = s.sns := (State.pageLine_sns ..).trans (State.wrb_sns ..)

@[simp] theorem State.flag_mod (s : State) (p : Page) (n : Nat) :
    (s.flag p n).mod = s.mod := (State.pageLine_mod ..).trans (State.wrb_mod ..)

@[simp] theorem State.flag_chg (s : State) (p : Page) (n : Nat) :
    (s.flag p n).chg = s.chg := (State.pageLine_chg ..).trans (State.wrb_chg ..)

@[simp] theorem State.flag_jrn (s : State) (p : Page) (n : Nat) :
    (s.flag p n).jrn = s.jrn := (State.pageLine_jrn ..).trans (State.wrb_jrn ..)

@[simp] theorem State.flag_est (s : State) (p : Page) (n : Nat) :
    (s.flag p n).est = s.est := (State.pageLine_est ..).trans (State.wrb_est ..)

@[simp] theorem State.flag_ost (s : State) (p : Page) (n : Nat) :
    (s.flag p n).ost = s.ost := (State.pageLine_ost ..).trans (State.wrb_ost ..)

@[simp] theorem State.flag_bal (s : State) (p : Page) (n : Nat) :
    (s.flag p n).bal = s.bal := (State.pageLine_bal ..).trans (State.wrb_bal ..)

@[simp] theorem State.flag_cth (s : State) (p : Page) (n : Nat) :
    (s.flag p n).cth = s.cth := (State.pageLine_cth ..).trans (State.wrb_cth ..)

@[simp] theorem State.flag_loops (s : State) (p : Page) (n : Nat) :
    (s.flag p n).loops = s.loops := (State.pageLine_loops ..).trans (State.wrb_loops ..)

@[simp] theorem State.flag_prot (s : State) (p : Page) (n : Nat) :
    (s.flag p n).prot = s.prot := (State.pageLine_prot ..).trans (State.wrb_prot ..)

@[simp] theorem State.flag_safe (s : State) (p : Page) (n : Nat) :
    (s.flag p n).safe = s.safe := (State.pageLine_safe ..).trans (State.wrb_safe ..)

@[simp] theorem State.flag_slay (s : State) (p : Page) (n : Nat) :
    (s.flag p n).slay = s.slay := (State.pageLine_slay ..).trans (State.wrb_slay ..)

@[simp] theorem State.flag_events (s : State) (p : Page) (n : Nat) :
    (s.flag p n).events = s.events := (State.pageLine_events ..).trans (State.wrb_events ..)

@[simp] theorem State.flag_completions (s : State) (p : Page) (n : Nat) :
    (s.flag p n).completions = s.completions := (State.pageLine_completions ..).trans (State.wrb_completions ..)

@[simp] theorem State.flag_tdm (s : State) (p : Page) (n : Nat) :
    (s.flag p n).tdm = s.tdm := (State.pageLine_tdm ..).trans (State.wrb_tdm ..)

@[simp] theorem State.flag_wit (s : State) (p : Page) (n : Nat) :
    (s.flag p n).wit = s.wit := (State.pageLine_wit ..).trans (State.wrb_wit ..)

@[simp] theorem State.flag_way (s : State) (p : Page) (n : Nat) :
    (s.flag p n).way = s.way := (State.pageLine_way ..).trans (State.wrb_way ..)

@[simp] theorem State.flag_sbx (s : State) (p : Page) (n : Nat) :
    (s.flag p n).sbx = s.sbx := (State.pageLine_sbx ..).trans (State.wrb_sbx ..)

@[simp] theorem State.flag_can (s : State) (p : Page) (n : Nat) :
    (s.flag p n).can = s.can := (State.pageLine_can ..).trans (State.wrb_can ..)

@[simp] theorem State.flag_eth (s : State) (p : Page) (n : Nat) :
    (s.flag p n).eth = s.eth := (State.pageLine_eth ..).trans (State.wrb_eth ..)

@[simp] theorem State.flag_time (s : State) (p : Page) (n : Nat) :
    (s.flag p n).time = s.time := (State.pageLine_time ..).trans (State.wrb_time ..)

@[simp] theorem State.flag_keyWait (s : State) (p : Page) (n : Nat) :
    (s.flag p n).keyWait = s.keyWait := (State.pageLine_keyWait ..).trans (State.wrb_keyWait ..)

@[simp] theorem State.flag_fwu (s : State) (p : Page) (n : Nat) :
    (s.flag p n).fwu = s.fwu := (State.pageLine_fwu ..).trans (State.wrb_fwu ..)

@[simp] theorem State.flag_thm (s : State) (p : Page) (n : Nat) :
    (s.flag p n).thm = s.thm := (State.pageLine_thm ..).trans (State.wrb_thm ..)

@[simp] theorem State.flag_pwrAlarm (s : State) (p : Page) (n : Nat) :
    (s.flag p n).pwrAlarm = s.pwrAlarm := (State.pageLine_pwrAlarm ..).trans (State.wrb_pwrAlarm ..)

@[simp] theorem State.flag_mram (s : State) (p : Page) (n : Nat) :
    (s.flag p n).mram = s.mram := (State.pageLine_mram ..).trans (State.wrb_mram ..)

@[simp] theorem State.setMode_mode (s : State) (m : Mode) : (s.setMode m).mode = m := rfl

@[simp] theorem State.atMt_mode (s : State) (mt : Nat) : (s.atMt mt).mode = s.mode := by
  unfold State.mode State.atMt SysSt.atMt SysSt.pulseEnd SysSt.driveOff
  (repeat' split) <;> rfl

@[simp] theorem State.elapse_mode (s : State) (dt : Nat) : (s.elapse dt).mode = s.mode := by
  unfold State.elapse; split
  · rfl
  · exact State.atMt_mode ..

@[simp] theorem State.send_sent (s : State) (m : Msg) : (s.send m).sent = m :: s.sent := rfl

end Sys2Proof.Machine
end

