-- ==== Sys2Proof/Laws/Registers.lean ====
section
/-! SUPPORT. Reads of a register after a store: the same register, another one, the same field, another
field. A read of a two-slot MRAM word after a write. -/

namespace Sys2Proof.Machine

open Sys2Proof

/-! ### Fields of numbers -/

theorem testBit_bits (n hi lo i : Nat) : (bits n hi lo).testBit i = (decide (i < hi + 1 - lo) && n.testBit (i + lo)) := by
  unfold bits
  rw [Nat.testBit_mod_two_pow, Nat.testBit_div_two_pow]

/-- A number in two fields: what lies above, in and below [hi:lo]. -/
theorem putBits_eq (n hi lo v : Nat) :
    putBits n hi lo v = n / 2 ^ (lo + (hi + 1 - lo)) * 2 ^ (lo + (hi + 1 - lo)) + v % 2 ^ (hi + 1 - lo) * 2 ^ lo + n % 2 ^ lo := by
  unfold putBits bits
  have e : n = n / 2 ^ lo * 2 ^ lo + n % 2 ^ lo := (Nat.div_add_mod' n (2 ^ lo)).symm
  have f : n / 2 ^ lo = n / 2 ^ lo / 2 ^ (hi + 1 - lo) * 2 ^ (hi + 1 - lo) + n / 2 ^ lo % 2 ^ (hi + 1 - lo) :=
    (Nat.div_add_mod' _ _).symm
  have g : n / 2 ^ lo / 2 ^ (hi + 1 - lo) = n / 2 ^ (lo + (hi + 1 - lo)) := by
    rw [Nat.div_div_eq_div_mul, pow_add]
  rw [g] at f
  generalize n / 2 ^ (lo + (hi + 1 - lo)) = a at *
  generalize n / 2 ^ lo % 2 ^ (hi + 1 - lo) = b at *
  generalize n % 2 ^ lo = c at *
  generalize v % 2 ^ (hi + 1 - lo) = d at *
  rw [f] at e
  have h : a * 2 ^ (lo + (hi + 1 - lo)) = a * 2 ^ (hi + 1 - lo) * 2 ^ lo := by
    rw [Nat.mul_assoc, ← pow_add, Nat.add_comm lo]
  rw [h, e, Nat.add_mul]
  omega

theorem testBit_putBits (n hi lo v i : Nat) :
    (putBits n hi lo v).testBit i = if lo ≤ i ∧ i < lo + (hi + 1 - lo) then v.testBit (i - lo) else n.testBit i := by
  rw [putBits_eq]
  have hc : n % 2 ^ lo < 2 ^ lo := Nat.mod_lt _ (Nat.two_pow_pos _)
  have hd : v % 2 ^ (hi + 1 - lo) < 2 ^ (hi + 1 - lo) := Nat.mod_lt _ (Nat.two_pow_pos _)
  have hb : v % 2 ^ (hi + 1 - lo) * 2 ^ lo + n % 2 ^ lo < 2 ^ (lo + (hi + 1 - lo)) := by
    rw [pow_add]
    calc v % 2 ^ (hi + 1 - lo) * 2 ^ lo + n % 2 ^ lo < v % 2 ^ (hi + 1 - lo) * 2 ^ lo + 2 ^ lo := by omega
      _ = (v % 2 ^ (hi + 1 - lo) + 1) * 2 ^ lo := by ring
      _ ≤ 2 ^ (hi + 1 - lo) * 2 ^ lo := Nat.mul_le_mul_right _ hd
      _ = 2 ^ lo * 2 ^ (hi + 1 - lo) := Nat.mul_comm _ _
  rw [Nat.add_assoc, Nat.mul_comm (n / _), Nat.testBit_two_pow_mul_add _ hb, Nat.mul_comm (v % _),
    Nat.testBit_two_pow_mul_add _ hc]
  rw [Nat.testBit_div_two_pow, Nat.testBit_mod_two_pow, Nat.testBit_mod_two_pow]
  by_cases h1 : i < lo + (hi + 1 - lo)
  · by_cases h2 : i < lo
    · rw [if_pos h1, if_pos h2, if_neg (by omega)]; simp [h2]
    · rw [if_pos h1, if_neg h2, if_pos (by omega)]
      have : i - lo < hi + 1 - lo := by omega
      simp [this]
  · rw [if_neg h1, if_neg (by omega)]
    congr 1; omega

theorem flg_setFld (w : Word) (hi lo v n : Nat) (h : n < 32) :
    flg (setFld w hi lo v) n = if lo ≤ n ∧ n < lo + (hi + 1 - lo) then v.testBit (n - lo) else flg w n := by
  unfold flg setFld
  rw [BitVec.toNat_ofNat, Nat.testBit_mod_two_pow, testBit_putBits]
  simp [h]

theorem flg_and (w m : Word) (n : Nat) : flg (w &&& m) n = (flg w n && flg m n) := by
  unfold flg
  rw [BitVec.toNat_and, Nat.testBit_and]

theorem fld_ext {w x : Word} {hi lo : Nat} (h : ∀ i, lo ≤ i → i ≤ hi → flg w i = flg x i) : fld w hi lo = fld x hi lo := by
  unfold fld
  apply Nat.eq_of_testBit_eq
  intro i
  rw [testBit_bits, testBit_bits]
  by_cases k : i < hi + 1 - lo
  · have := h (i + lo) (by omega) (by omega)
    unfold flg at this
    rw [this]
  · simp [k]

theorem fld_setFld_same (w : Word) {hi lo : Nat} (v : Nat) (h : hi < 32) :
    fld (setFld w hi lo v) hi lo = v % 2 ^ (hi + 1 - lo) := by
  unfold fld
  apply Nat.eq_of_testBit_eq
  intro i
  rw [testBit_bits, Nat.testBit_mod_two_pow]
  by_cases k : i < hi + 1 - lo
  · have := flg_setFld w hi lo v (i + lo) (by omega)
    unfold flg at this
    rw [this, if_pos (by omega)]
    simp
  · simp [k]

/-- The field [hi:lo] of a mask is all ones. -/
def Full (m hi lo : Nat) : Prop := bits m hi lo = 2 ^ (hi + 1 - lo) - 1

theorem Full.flg {m : Nat} {hi lo i : Nat} (f : Full m hi lo) (h : hi < 32) (a : lo ≤ i) (b : i ≤ hi) :
    flg (BitVec.ofNat 32 m) i = true := by
  unfold Machine.flg
  rw [BitVec.toNat_ofNat, Nat.testBit_mod_two_pow]
  have := congrArg (fun x => Nat.testBit x (i - lo)) f
  simp only [testBit_bits, Nat.testBit_two_pow_sub_one] at this
  have e : i - lo + lo = i := by omega
  rw [e] at this
  have c : i - lo < hi + 1 - lo := by omega
  have d : i < 32 := by omega
  simpa [c, d] using this

/-! ### Reads after stores -/

theorem State.rd_wr_same {s : State} {p : Page} {o : Nat} {r : RegRow} (v : Word) (h : findRow p o = some r) :
    (s.wr p o v).rd p o = v &&& BitVec.ofNat 32 r.mask := by
  unfold State.wr State.rd
  rw [h]
  simp

theorem State.rd_wr_other {s : State} {p q : Page} {o u : Nat} (v : Word) (h : p.base + o ≠ q.base + u) :
    (s.wr p o v).rd q u = s.rd q u := by
  unfold State.wr State.rd
  split
  · simp only; exact sget_sset_other _ _ _ _ (Ne.symm h)
  · rfl

theorem State.rdf_wrf_same {s : State} {p : Page} {o hi lo : Nat} {r : RegRow} (v : Nat) (h : findRow p o = some r)
    (k : hi < 32) (f : Full r.mask hi lo) : (s.wrf p o hi lo v).rdf p o hi lo = v % 2 ^ (hi + 1 - lo) := by
  unfold State.wrf State.rdf
  rw [State.rd_wr_same _ h, ← fld_setFld_same (s.rd p o) v k]
  apply fld_ext
  intro i a b
  rw [flg_and, f.flg k a b, Bool.and_true]

theorem State.rdf_wrf_other {s : State} {p q : Page} {o u hi lo v a b : Nat} (h : p.base + o ≠ q.base + u) :
    (s.wrf p o hi lo v).rdf q u a b = s.rdf q u a b := by
  unfold State.wrf State.rdf
  rw [State.rd_wr_other _ h]

theorem State.rdb_wrb_same {s : State} {p : Page} {o n : Nat} {r : RegRow} (b : Bool) (h : findRow p o = some r)
    (k : n < 32) (f : Full r.mask n n) : (s.wrb p o n b).rdb p o n = b := by
  unfold State.wrb State.wrf State.rdb
  rw [State.rd_wr_same _ h, flg_and, f.flg k (le_refl _) (le_refl _), flg_setFld _ _ _ _ _ k, if_pos (by omega)]
  cases b <;> simp [b2n]

theorem State.rdb_wrb_other {s : State} {p q : Page} {o u n m : Nat} {b : Bool} (h : p.base + o ≠ q.base + u) :
    (s.wrb p o n b).rdb q u m = s.rdb q u m := by
  unfold State.wrb State.wrf State.rdb
  rw [State.rd_wr_other _ h]

theorem State.rdn_wrn_same {s : State} {p : Page} {o : Nat} {r : RegRow} (v : Nat) (h : findRow p o = some r)
    (f : r.mask = 2 ^ 32 - 1) : (s.wrn p o v).rdn p o = v % 2 ^ 32 := by
  unfold State.wrn State.rdn
  rw [State.rd_wr_same _ h, f, BitVec.toNat_and, BitVec.toNat_ofNat, BitVec.toNat_ofNat,
    Nat.mod_eq_of_lt (show 2 ^ 32 - 1 < 2 ^ 32 by decide), Nat.and_two_pow_sub_one_eq_mod, Nat.mod_mod]

theorem State.rdn_wrn_other {s : State} {p q : Page} {o u v : Nat} (h : p.base + o ≠ q.base + u) :
    (s.wrn p o v).rdn q u = s.rdn q u := by
  unfold State.wrn State.rdn
  rw [State.rd_wr_other _ h]

theorem State.rdn_inc_same {s : State} {p : Page} {o : Nat} {r : RegRow} (h : findRow p o = some r)
    (f : r.mask = 2 ^ 32 - 1) : (s.inc p o).rdn p o = satAdd 32 (s.rdn p o) 1 := by
  unfold State.inc
  rw [State.rdn_wrn_same _ h f]
  exact Nat.mod_eq_of_lt (by unfold satAdd; omega)

/-! ### What the passing of time leaves -/

/-- MT, the fall of DRIVE_EN and the test pulse are all that the passing of time moves. -/
theorem SysSt.atMt_rest (y : SysSt) (mt : Nat) :
    { y.atMt mt with mt := 0, driveEn := false, dropAt := none, driveFell := none, tpoLow := none, tpoDone := none } =
      { y with mt := 0, driveEn := false, dropAt := none, driveFell := none, tpoLow := none, tpoDone := none } := by
  unfold SysSt.atMt SysSt.pulseEnd SysSt.driveOff
  dsimp only
  repeat' split
  all_goals rfl

theorem State.elapse_rest (s : State) (dt : Nat) :
    { (s.elapse dt).sys with
      mt := 0, driveEn := false, dropAt := none, driveFell := none, tpoLow := none, tpoDone := none } =
      { s.sys with mt := 0, driveEn := false, dropAt := none, driveFell := none, tpoLow := none, tpoDone := none } := by
  unfold State.elapse
  split
  · rfl
  · exact SysSt.atMt_rest ..

@[simp] theorem State.elapse_sys_vaonOk (s : State) (dt : Nat) : (s.elapse dt).sys.vaonOk = s.sys.vaonOk := by
  have h := congrArg SysSt.vaonOk (s.elapse_rest dt); exact h

@[simp] theorem State.elapse_sys_vin12Ok (s : State) (dt : Nat) : (s.elapse dt).sys.vin12Ok = s.sys.vin12Ok := by
  have h := congrArg SysSt.vin12Ok (s.elapse_rest dt); exact h

@[simp] theorem State.elapse_sys_holdOff (s : State) (dt : Nat) : (s.elapse dt).sys.holdOff = s.sys.holdOff := by
  have h := congrArg SysSt.holdOff (s.elapse_rest dt); exact h

@[simp] theorem State.elapse_sys_rstNLow (s : State) (dt : Nat) : (s.elapse dt).sys.rstNLow = s.sys.rstNLow := by
  have h := congrArg SysSt.rstNLow (s.elapse_rest dt); exact h

@[simp] theorem State.elapse_sys_pfwLow (s : State) (dt : Nat) : (s.elapse dt).sys.pfwLow = s.sys.pfwLow := by
  have h := congrArg SysSt.pfwLow (s.elapse_rest dt); exact h

@[simp] theorem State.elapse_sys_strapB (s : State) (dt : Nat) : (s.elapse dt).sys.strapB = s.sys.strapB := by
  have h := congrArg SysSt.strapB (s.elapse_rest dt); exact h

@[simp] theorem State.elapse_sys_bootPhase (s : State) (dt : Nat) : (s.elapse dt).sys.bootPhase = s.sys.bootPhase := by
  have h := congrArg SysSt.bootPhase (s.elapse_rest dt); exact h

@[simp] theorem State.elapse_sys_pfwHold (s : State) (dt : Nat) : (s.elapse dt).sys.pfwHold = s.sys.pfwHold := by
  have h := congrArg SysSt.pfwHold (s.elapse_rest dt); exact h

@[simp] theorem State.elapse_sys_prior (s : State) (dt : Nat) : (s.elapse dt).sys.prior = s.sys.prior := by
  have h := congrArg SysSt.prior (s.elapse_rest dt); exact h

@[simp] theorem State.elapse_sys_rstCause (s : State) (dt : Nat) : (s.elapse dt).sys.rstCause = s.sys.rstCause := by
  have h := congrArg SysSt.rstCause (s.elapse_rest dt); exact h

@[simp] theorem State.elapse_sys_outRecorded (s : State) (dt : Nat) : (s.elapse dt).sys.outRecorded = s.sys.outRecorded := by
  have h := congrArg SysSt.outRecorded (s.elapse_rest dt); exact h

@[simp] theorem State.elapse_sys_outMt (s : State) (dt : Nat) : (s.elapse dt).sys.outMt = s.sys.outMt := by
  have h := congrArg SysSt.outMt (s.elapse_rest dt); exact h

@[simp] theorem State.elapse_sys_outPrior (s : State) (dt : Nat) : (s.elapse dt).sys.outPrior = s.sys.outPrior := by
  have h := congrArg SysSt.outPrior (s.elapse_rest dt); exact h

@[simp] theorem State.elapse_sys_outDurable (s : State) (dt : Nat) : (s.elapse dt).sys.outDurable = s.sys.outDurable := by
  have h := congrArg SysSt.outDurable (s.elapse_rest dt); exact h

@[simp] theorem State.elapse_sys_outDurMt (s : State) (dt : Nat) : (s.elapse dt).sys.outDurMt = s.sys.outDurMt := by
  have h := congrArg SysSt.outDurMt (s.elapse_rest dt); exact h

@[simp] theorem State.elapse_sys_aon32Lost (s : State) (dt : Nat) : (s.elapse dt).sys.aon32Lost = s.sys.aon32Lost := by
  have h := congrArg SysSt.aon32Lost (s.elapse_rest dt); exact h

@[simp] theorem State.elapse_sys_lbkMis (s : State) (dt : Nat) : (s.elapse dt).sys.lbkMis = s.sys.lbkMis := by
  have h := congrArg SysSt.lbkMis (s.elapse_rest dt); exact h

@[simp] theorem State.elapse_sys_defaultsWritten (s : State) (dt : Nat) : (s.elapse dt).sys.defaultsWritten = s.sys.defaultsWritten := by
  have h := congrArg SysSt.defaultsWritten (s.elapse_rest dt); exact h

@[simp] theorem State.elapse_sys_readyMt (s : State) (dt : Nat) : (s.elapse dt).sys.readyMt = s.sys.readyMt := by
  have h := congrArg SysSt.readyMt (s.elapse_rest dt); exact h

@[simp] theorem State.elapse_sys_bootMt (s : State) (dt : Nat) : (s.elapse dt).sys.bootMt = s.sys.bootMt := by
  have h := congrArg SysSt.bootMt (s.elapse_rest dt); exact h

@[simp] theorem State.elapse_sys_holdFrom (s : State) (dt : Nat) : (s.elapse dt).sys.holdFrom = s.sys.holdFrom := by
  have h := congrArg SysSt.holdFrom (s.elapse_rest dt); exact h

@[simp] theorem State.elapse_sys_heldNs (s : State) (dt : Nat) : (s.elapse dt).sys.heldNs = s.sys.heldNs := by
  have h := congrArg SysSt.heldNs (s.elapse_rest dt); exact h

@[simp] theorem State.elapse_sys_formWaited (s : State) (dt : Nat) : (s.elapse dt).sys.formWaited = s.sys.formWaited := by
  have h := congrArg SysSt.formWaited (s.elapse_rest dt); exact h

@[simp] theorem State.elapse_sys_mode (s : State) (dt : Nat) : (s.elapse dt).sys.mode = s.sys.mode := State.elapse_mode s dt

@[simp] theorem State.elapse_rd (s : State) (dt : Nat) (p : Page) (o : Nat) : (s.elapse dt).rd p o = s.rd p o := by
  unfold State.rd; simp

@[simp] theorem State.elapse_rdn (s : State) (dt : Nat) (p : Page) (o : Nat) : (s.elapse dt).rdn p o = s.rdn p o := by
  unfold State.rdn; rw [State.elapse_rd]

@[simp] theorem State.elapse_rdi (s : State) (dt : Nat) (p : Page) (o : Nat) : (s.elapse dt).rdi p o = s.rdi p o := by
  unfold State.rdi; rw [State.elapse_rd]

@[simp] theorem State.elapse_rdf (s : State) (dt : Nat) (p : Page) (o a b : Nat) :
    (s.elapse dt).rdf p o a b = s.rdf p o a b := by
  unfold State.rdf; rw [State.elapse_rd]

@[simp] theorem State.elapse_rdb (s : State) (dt : Nat) (p : Page) (o n : Nat) : (s.elapse dt).rdb p o n = s.rdb p o n := by
  unfold State.rdb; rw [State.elapse_rd]

@[simp] theorem State.elapse_pageState (s : State) (dt : Nat) (p : Page) : (s.elapse dt).pageState p = s.pageState p := by
  unfold State.pageState; simp

@[simp] theorem State.elapse_running (s : State) (dt : Nat) (p : Page) : (s.elapse dt).running p = s.running p := by
  unfold State.running; simp

@[simp] theorem State.elapse_pageServed (s : State) (dt : Nat) (p : Page) : (s.elapse dt).pageServed p = s.pageServed p := by
  unfold State.pageServed; simp


@[simp] theorem State.elapse_ring (s : State) (dt n : Nat) : (s.elapse dt).ring n = s.ring n := by unfold State.ring; simp

@[simp] theorem State.elapse_src (s : State) (dt n : Nat) : (s.elapse dt).src n = s.src n := by unfold State.src; simp

@[simp] theorem State.elapse_tgt (s : State) (dt n : Nat) : (s.elapse dt).tgt n = s.tgt n := by unfold State.tgt; simp

/-! ### Flags and interrupt sources -/

theorem State.irqCount_rd (s : State) (t : Nat) (q : Page) (u : Nat) : (s.irqCount t).rd q u = s.rd q u := rfl

theorem State.setSrc_rd (s : State) (n : Nat) (v : SrcSt) (q : Page) (u : Nat) : (s.setSrc n v).rd q u = s.rd q u := rfl

/-- What a held source changes among the registers: IRQ.FLAGS alone. -/
theorem State.irqHold_rd (s : State) {q : Page} {u : Nat} (h : Page.irq.base + R.PAGE.FLAGS ≠ q.base + u) :
    s.irqHold.rd q u = s.rd q u := by
  have e : (s.wrb .irq R.PAGE.FLAGS 8 true).rd q u = s.rd q u := State.rd_wr_other _ h
  unfold State.irqHold
  simp only
  split
  · split
    · rw [State.irqCount_rd, State.setSrc_rd, e]
    · rw [State.setSrc_rd, e]
  · rw [State.setSrc_rd, e]

/-- An event of a source reads no register differently but IRQ.FLAGS. -/
theorem State.irqEvent_rd (s : State) (n : Nat) {q : Page} {u : Nat} (h : Page.irq.base + R.PAGE.FLAGS ≠ q.base + u) :
    (s.irqEvent n).rd q u = s.rd q u := by
  unfold State.irqEvent
  simp only
  split
  · rfl
  · split
    · exact State.irqHold_rd s h
    · rfl

theorem State.edgeSource_rd (s : State) (n : Nat) {q : Page} {u : Nat} (h : Page.irq.base + R.PAGE.FLAGS ≠ q.base + u) :
    (s.edgeSource n).rd q u = s.rd q u := by
  unfold State.edgeSource
  split
  · rw [State.irqEvent_rd _ _ h]; rfl
  · rfl

theorem State.levelSource_rd (s : State) (n : Nat) (b : Bool) {q : Page} {u : Nat}
    (h : Page.irq.base + R.PAGE.FLAGS ≠ q.base + u) : (s.levelSource n b).rd q u = s.rd q u := by
  unfold State.levelSource
  simp only
  split
  · rw [State.irqEvent_rd _ _ h]; rfl
  · rfl

theorem State.pageLine_rd (s : State) (p : Page) {q : Page} {u : Nat} (h : Page.irq.base + R.PAGE.FLAGS ≠ q.base + u) :
    (s.pageLine p).rd q u = s.rd q u := State.levelSource_rd _ _ _ h

/-- A flag leaves every register but FLAGS of its page and IRQ.FLAGS as it was. -/
theorem State.flag_rd (s : State) (p : Page) (n : Nat) {q : Page} {u : Nat} (h : Page.irq.base + R.PAGE.FLAGS ≠ q.base + u)
    (k : p.base + R.PAGE.FLAGS ≠ q.base + u) : (s.flag p n).rd q u = s.rd q u := by
  unfold State.flag
  rw [State.pageLine_rd _ _ h]
  exact State.rd_wr_other _ k

/-- A flag of a page other than IRQ reads 1. -/
theorem State.flag_rdb (s : State) {p : Page} {n : Nat} {r : RegRow} (h : findRow p R.PAGE.FLAGS = some r) (k : n < 32)
    (f : Full r.mask n n) (i : Page.irq.base + R.PAGE.FLAGS ≠ p.base + R.PAGE.FLAGS) :
    (s.flag p n).rdb p R.PAGE.FLAGS n = true := by
  unfold State.flag State.rdb
  rw [State.pageLine_rd _ _ i]
  exact State.rdb_wrb_same true h k f

/-- An event of a source leaves every source but 132 as it was. -/
theorem State.irqEvent_src (s : State) (n m : Nat) (h : m ≠ 132) : (s.irqEvent n).src m = s.src m := by
  unfold State.irqEvent
  simp only
  split
  · rfl
  · split
    · unfold State.irqHold
      simp only
      split
      · split
        · exact sget_sset_other _ _ _ _ h
        · exact sget_sset_other _ _ _ _ h
      · exact sget_sset_other _ _ _ _ h
    · rfl

/-- An edge source that asserts is pending (R386). -/
theorem State.edgeSource_pend (s : State) (n : Nat) (h : n < 197) (k : n ≠ 132) : ((s.edgeSource n).src n).pend = true := by
  unfold State.edgeSource
  rw [if_pos h, State.irqEvent_src _ _ _ k]
  unfold State.src State.setSrc
  simp

theorem State.levelSource_src_other (s : State) (n m : Nat) (b : Bool) (h : m ≠ 132) (k : m ≠ n) :
    (s.levelSource n b).src m = s.src m := by
  unfold State.levelSource
  simp only
  split
  · rw [State.irqEvent_src _ _ _ h]
    unfold State.src State.setSrc
    simp only
    rw [sget_sset_other _ _ _ _ k, sget_sset_other _ _ _ _ k]
  · unfold State.src State.setSrc
    simp only
    rw [sget_sset_other _ _ _ _ k]

/-- A flag moves no source but its page's own, 128 and up, and 132. -/
theorem State.flag_src (s : State) (p : Page) (n m : Nat) (h : m ≠ 132) (k : m ≠ 128 + p.index) :
    (s.flag p n).src m = s.src m := by
  unfold State.flag State.pageLine
  rw [State.levelSource_src_other _ _ _ _ h k]
  unfold State.src
  simp

/-! ### Two-slot MRAM words -/

/-- The newest of two valid slots is the second where its SEQ is the newer, else the first. -/
theorem MramWord.newest_both (x y : Nat × Nat) :
    MramWord.newest ⟨some x, some y⟩ = if seqNewer x.1 y.1 then some (y, true) else some (x, false) := by
  unfold MramWord.newest
  dsimp only

/-- A word's value is its newest copy's. -/
theorem MramWord.value_of_newest {w : MramWord} {x : Nat × Nat} {b : Bool} (h : w.newest = some (x, b)) :
    w.value = x.2 := by
  unfold MramWord.value
  rw [h]

/-- A write beside the newest copy is the newest, whichever slot it goes to. -/
theorem MramWord.value_next (x : Nat × Nat) (q v : Nat) (n : seqNewer x.1 q = true) (p : seqNewer q x.1 = false) :
    MramWord.value ⟨some x, some (q, v)⟩ = v ∧ MramWord.value ⟨some (q, v), some x⟩ = v := by
  have e := (MramWord.newest_both x (q, v)).trans (if_pos n)
  have f := (MramWord.newest_both (q, v) x).trans (if_neg (Bool.eq_false_iff.mp p))
  exact ⟨MramWord.value_of_newest e, MramWord.value_of_newest f⟩

/-- What is written is what the word then holds (R166, R168). -/
theorem MramWord.write_value (w : MramWord) (v : Nat) : (w.write v).value = v := by
  obtain ⟨a, b⟩ := w
  unfold MramWord.write
  rcases a with _ | x <;> rcases b with _ | y
  · rfl
  · exact (MramWord.value_next y _ v (seqNewer_next _) (seqNewer_prev _)).2
  · exact (MramWord.value_next x _ v (seqNewer_next _) (seqNewer_prev _)).1
  · rw [MramWord.newest_both]
    split
    · rename_i h
      split at h
      · cases h
      · cases h; exact (MramWord.value_next x _ v (seqNewer_next _) (seqNewer_prev _)).1
    · rename_i h
      split at h
      · cases h; exact (MramWord.value_next y _ v (seqNewer_next _) (seqNewer_prev _)).2
      · cases h
    · rename_i h
      split at h <;> cases h

end Sys2Proof.Machine
end

