-- ==== Sys2Proof/Laws/Images.lean ====
section
/-! SUPPORT. Image slots: what a write leaves in the slot and in its two-slot word, and what BOOT reads from it (R168,
R408). -/

namespace Sys2Proof.Machine

open Sys2Proof

@[simp] theorem FwMram.slot_setSlot (m : FwMram) (k : Nat) (v : FwSlot) : (m.setSlot k v).slot k = v := by
  unfold FwMram.setSlot FwMram.slot
  split <;> rfl

/-- A slot written holds what was written, and its word holds the state. -/
theorem FwMram.slot_writeSlot (m : FwMram) (k : Nat) (v : FwSlot) :
    ∃ w, (m.writeSlot k v).slot k = { v with word := w } ∧ w.value = v.state := by
  unfold FwMram.writeSlot
  refine ⟨_, FwMram.slot_setSlot .., ?_⟩
  split
  · assumption
  · exact MramWord.write_value ..

/-- What BOOT reads is never WRITING. -/
theorem FwSlot.boot_state (v : FwSlot) : v.boot.state = if v.word.value = 1 then 0 else v.word.value := by
  unfold FwSlot.boot
  split <;> rfl

end Sys2Proof.Machine
end

