-- ==== Sys2Proof/Laws/Memory.lean ====
section
/-! SUPPORT. The parameter-set memory (R140, R144): it is canonical at reset, a write keeps it so, and a write leaves every
byte outside the range written alone. -/

namespace Sys2Proof.Machine

open Sys2Proof

theorem State.reset_memory : Memory.wf State.reset.est.ps = true := rfl

/-- The bytes a write places: those that lie in the memory, in sets that are not in use. -/
def State.paramGood (s : State) (off : Nat) (bytes : List Byte) : List Host.Cell :=
  (((bytes.zipIdx.map (fun (x : Byte × Nat) => (off + x.2, x.1))).filter (fun a => a.1 < 0x200000)).partition
    (fun a => s.setInUse (a.1 / 0x40000))).2

theorem State.paramWrite_ps (s : State) (off : Nat) (bytes : List Byte) :
    (s.paramWrite off bytes).est.ps = (s.paramGood off bytes).foldl (fun m a => sset 0 m a.1 a.2) s.est.ps := by
  unfold State.paramWrite
  extract_lets x1 x2
  split
  rename_i good h
  have k : good = s.paramGood off bytes := (congrArg Prod.snd h).symm
  rw [k]
  extract_lets x3
  split
  · rfl
  · exact (((x3.inc .est R.EST.PSREJ).flag_within .est 9).psm rfl).trans ((x3.inc_within .est R.EST.PSREJ).psm rfl)

/-- Writing keeps the canonical form. -/
theorem State.paramWrite_memory (s : State) (off : Nat) (bytes : List Byte) (h : Memory.wf s.est.ps = true) :
    Memory.wf (s.paramWrite off bytes).est.ps = true := by
  rw [State.paramWrite_ps]
  exact foldl_sset_swf 0 _ h

theorem foldl_sset_other {α : Type} [DecidableEq α] (d : α) (l : List (Nat × α)) (m : List (Nat × α)) (k : Nat)
    (h : ∀ e ∈ l, e.1 ≠ k) : sget d (l.foldl (fun m e => sset d m e.1 e.2) m) k = sget d m k := by
  induction l generalizing m with
  | nil => rfl
  | cons e l ih =>
    rw [List.foldl_cons, ih _ (fun x hx => h x (List.mem_cons_of_mem _ hx)),
      sget_sset_other _ _ _ _ (fun c => h e List.mem_cons_self c.symm)]

/-- A byte outside the range written reads as before. -/
theorem State.paramWrite_other (s : State) (off : Nat) (bytes : List Byte) (a : Nat)
    (h : a < off ∨ off + bytes.length ≤ a) : sget 0 (s.paramWrite off bytes).est.ps a = sget 0 s.est.ps a := by
  rw [State.paramWrite_ps]
  apply foldl_sset_other
  intro e he
  simp only [State.paramGood, List.partition_eq_filter_filter, List.mem_filter, List.mem_map] at he
  obtain ⟨⟨⟨x, hx, rfl⟩, -⟩, -⟩ := he
  have := List.snd_lt_of_mem_zipIdx hx
  simp only [Nat.add_zero] at this
  simp only [ne_eq]
  omega

end Sys2Proof.Machine
end

