-- ==== Sys2Proof/Laws/Timetable.lean ====
section
/-! SUPPORT. What the operations of Machine/Timetable.lean leave alone (Laws/Keeps.lean). -/

namespace Sys2Proof.Machine

open Sys2Proof

theorem State.judgeTick_steady (s : State) :
    Steady s (State.judgeTick s) := by
  unfold State.judgeTick
  refine Steady.ite ?_ ?_
  · exact Steady.refl _
  · refine Steady.foldl ?_ (fun t1 a2 h3 => ?_)
    · refine Steady.upd ?_ rfl rfl rfl rfl rfl rfl rfl rfl
      exact Steady.refl _
    · refine Steady.trans ?_ (State.deadlineRing_steady ..)
      exact h3

theorem State.stageTurn_calm (s : State) :
    Calm s (State.stageTurn s) := by
  unfold State.stageTurn
  refine Calm.ite ?_ ?_
  · refine Calm.trans ?_ (State.takeVerdicts_calm ..)
    exact (State.restTurn_calm ..)
  · exact Calm.refl _

theorem State.tickEnds_steady (s : State) :
    Steady s (State.tickEnds s) := by
  unfold State.tickEnds
  extract_lets +onlyGivenNames -merge -underBinder x1
  have hx1 : Steady s x1 := by
    unfold x1
    refine Steady.trans ?_ (State.quietEnds_calm ..).steady
    exact (State.judgeTick_steady ..)
  extract_lets +onlyGivenNames -merge -underBinder x2
  have hx2 : Steady s x2 := by
    unfold x2
    refine Steady.foldl ?_ (fun t3 a4 h5 => ?_)
    · exact hx1
    · refine Steady.trans ?_ (State.finishRing_calm ..).steady
      exact h5
  extract_lets +onlyGivenNames -merge -underBinder x6 x7
  have hx7 : Steady s x7 := by
    unfold x7
    refine Steady.upd ?_ rfl rfl rfl rfl rfl rfl rfl rfl
    exact hx2
  refine Steady.trans ?_ (State.spinTick_calm ..).steady
  refine Steady.trans ?_ (State.stageTurn_calm ..).steady
  exact hx7

theorem State.tickOver_calm (s : State) :
    Calm s (State.tickOver s) := by
  unfold State.tickOver
  exact (State.atMt_calm ..)

theorem State.peerPins_steady (s : State) (x : TickInputs) :
    Steady s (State.peerPins s x) := by
  unfold State.peerPins
  extract_lets +onlyGivenNames -merge -underBinder x1
  have hx1 : Steady s x1 := by
    unfold x1
    exact (State.setTdm_calm ..).steady
  extract_lets +onlyGivenNames -merge -underBinder x2
  have hx2 : Steady s x2 := by
    unfold x2
    refine Steady.ite ?_ ?_
    · refine Steady.trans ?_ (State.peerDriveHigh_calm ..).steady
      exact hx1
    · refine Steady.trans ?_ (State.peerDriveLow_calm ..).steady
      exact hx1
  refine Steady.ite ?_ ?_
  · refine Steady.trans ?_ (State.tryAbdication_steady ..)
    exact hx2
  · exact hx2

theorem State.lockSend_calm (s : State) (x : TickInputs) (g : Nat) :
    Calm s (State.lockSend s x g) := by
  unfold State.lockSend
  split
  · refine Calm.ite ?_ ?_
    · exact (State.sendFrame_calm ..)
    · exact Calm.refl _
  · exact Calm.refl _

theorem State.ringTick_calm (s : State) (n : Fin 16) :
    Calm s (State.ringTick s n) := by
  unfold State.ringTick
  extract_lets +onlyGivenNames -merge -underBinder x1
  have hx1 : Calm s x1 := by
    unfold x1
    refine Calm.foldl ?_ (fun t2 a3 h4 => ?_)
    · exact Calm.refl _
    · refine Calm.trans ?_ (State.passAge_calm ..)
      refine Calm.trans ?_ (State.chalTimeout_calm ..)
      exact h4
  refine Calm.trans ?_ (State.launchCoach_calm ..)
  exact hx1

theorem State.tickStarts_steady (s : State) (x : TickInputs) :
    Steady s (State.tickStarts s x) := by
  unfold State.tickStarts
  extract_lets +onlyGivenNames -merge -underBinder x1
  have hx1 : Steady s x1 := by
    unfold x1
    refine Steady.trans ?_ (State.connExpiry_steady ..)
    exact (State.peerPins_steady ..)
  extract_lets +onlyGivenNames -merge -underBinder x2
  have hx2 : Steady s x2 := by
    unfold x2
    refine Steady.trans ?_ (State.modTick_steady ..)
    exact hx1
  extract_lets +onlyGivenNames -merge -underBinder x3
  have hx3 : Steady s x3 := by
    unfold x3
    refine Steady.trans ?_ (State.lockSend_calm ..).steady
    refine Steady.trans ?_ (State.lockSend_calm ..).steady
    exact hx2
  extract_lets +onlyGivenNames -merge -underBinder x4
  have hx4 : Steady s x4 := by
    unfold x4
    refine Steady.trans ?_ (State.safeTick_steady ..)
    exact hx3
  extract_lets +onlyGivenNames -merge -underBinder x5
  have hx5 : Steady s x5 := by
    unfold x5
    refine Steady.trans ?_ (State.demandsTick_calm ..).steady
    refine Steady.trans ?_ (State.balTick_calm ..).steady
    exact hx4
  extract_lets +onlyGivenNames -merge -underBinder x6
  have hx6 : Steady s x6 := by
    unfold x6
    refine Steady.trans ?_ (State.dispatchNow_calm ..).steady
    refine Steady.trans ?_ (State.clampTick_calm ..).steady
    exact hx5
  extract_lets +onlyGivenNames -merge -underBinder x7
  have hx7 : Steady s x7 := by
    unfold x7
    refine Steady.trans ?_ (State.chipBoundary_calm ..).steady
    refine Steady.foldl ?_ (fun t8 a9 h10 => ?_)
    · exact hx6
    · refine Steady.trans ?_ (State.ringTick_calm ..).steady
      exact h10
  refine Steady.trans ?_ (State.tryReady_steady ..)
  refine Steady.trans ?_ (State.protEval_steady ..)
  exact hx7

theorem execTickBoundary_steady (x : TickInputs) (s : State) :
    Ends Steady s (execTickBoundary x s) := by
  unfold execTickBoundary
  refine Ends.ite ?_ ?_
  · refine Ends.next ?_
    exact Steady.refl _
  · refine Ends.ite ?_ ?_
    · refine Ends.next ?_
      refine Steady.trans ?_ (State.tickStarts_steady ..)
      refine Steady.trans ?_ (State.tickOver_calm ..).steady
      exact (State.tickEnds_steady ..)
    · refine Ends.next ?_
      exact (State.tickOver_calm ..).steady

theorem execInputDeadline_steady (s : State) :
    Ends Steady s (execInputDeadline s) := by
  unfold execInputDeadline
  refine Ends.ite ?_ ?_
  · refine Ends.next ?_
    exact Steady.refl _
  · extract_lets +onlyGivenNames -merge -underBinder x1
    have hx1 : Steady s x1 := by
      unfold x1
      exact (State.atMt_calm ..).steady
    extract_lets +onlyGivenNames -merge -underBinder x2 x3
    have hx3 : Steady s x3 := by
      unfold x3
      refine Steady.upd ?_ rfl rfl rfl rfl rfl rfl rfl rfl
      exact hx1
    refine Ends.next ?_
    refine Steady.trans ?_ (State.limRewrite_calm ..).steady
    refine Steady.ite ?_ ?_
    · exact hx3
    · refine Steady.trans ?_ (State.judgeTick_steady ..)
      exact hx3

theorem State.epochCheck_calm (s : State) :
    Calm s (State.epochCheck s) := by
  unfold State.epochCheck
  split
  · extract_lets +onlyGivenNames -merge -underBinder x1
    refine Calm.ite ?_ ?_
    · exact (State.epochUp_calm ..)
    · exact Calm.refl _
  · exact Calm.refl _

theorem State.stageOver_steady (s : State) (st : Nat) :
    Steady s (State.stageOver s st) := by
  unfold State.stageOver
  extract_lets +onlyGivenNames -merge -underBinder x1
  have hx1 : Steady s x1 := by
    unfold x1
    exact (State.stageCharges_steady ..)
  refine Steady.ite ?_ ?_
  · refine Steady.upd ?_ rfl rfl rfl rfl rfl rfl rfl rfl
    exact hx1
  · extract_lets +onlyGivenNames -merge -underBinder x2
    extract_lets +onlyGivenNames -merge -underBinder x3
    have hx3 : Steady s x3 := by
      unfold x3
      refine Steady.trans ?_ (State.stageSteps_calm ..).steady
      refine Steady.trans ?_ (State.epochCheck_calm ..).steady
      exact hx1
    refine Steady.trans ?_ (State.wayBoundary_calm ..).steady
    refine Steady.trans ?_ (State.ostBoundary_steady ..)
    exact hx3

theorem execStageBoundary_steady (s : State) :
    Ends Steady s (execStageBoundary s) := by
  unfold execStageBoundary
  refine Ends.ite ?_ ?_
  · refine Ends.next ?_
    refine Steady.trans ?_ (State.trialOut_steady ..)
    exact (State.stageOver_steady ..)
  · refine Ends.next ?_
    exact Steady.refl _

end Sys2Proof.Machine
end

