-- ==== Sys2Proof/WellFormed.lean ====
section
/-! DEFINITION. Which commands are well formed: the sizes and ranges their operands have on the part's pins, links and
buses. `exec` is total on the others too; no claim needs their refusal. -/

namespace Sys2Proof

/-- The tag of a command message has 16 bytes (R397). -/
def CmdHead.wf (h : CmdHead) : Bool := decide (h.tag.length = 16)

/-- The limit or string part has 24 bytes (R398). -/
def LimitChange.wf (l : LimitChange) : Bool := decide (l.part.length = 24)

/-- Reads of pins 0 to 32 (R250). -/
def PinReads.wf (x : PinReads) : Bool := x.runs.all (fun e => decide (e.1 < 33))

def WindowReads.wf (x : WindowReads) : Bool := x.to200.wf && x.to300.wf

/-- At most 30,000 bits, the window of the stage path's sinc3 filter of 10,000 bits: no filter's is longer (R116). -/
def BitWindow.wf (w : BitWindow) : Bool := decide (w.ones < 2 ^ 30000) && decide (w.sampled < 2 ^ 30000)

/-- Twelve inputs, each with at most 10,000 bits a tick (R112), whose sum of ±1 is no larger than their number. -/
def TickInputs.wf (x : TickInputs) : Bool :=
  decide (x.sums.length = 12) && decide (x.counts.length = 12) && x.counts.all (fun n => decide (n ≤ 10000)) &&
  (x.sums.zip x.counts).all (fun p => decide (p.1.natAbs ≤ p.2)) && x.reads.wf

/-- Twelve inputs. -/
def ControlInputs.wf (x : ControlInputs) : Bool := decide (x.windows.length = 12) && x.windows.all BitWindow.wf

/-- A frame holds at least its addresses and type (R365). -/
def EthFrame.wf (f : EthFrame) : Bool := decide (14 ≤ f.bytes.length)

/-- The codes of R412 take a byte, and the settings are readable, to be converted, or absent (R420). -/
def BootReport.wf (r : BootReport) : Bool := decide (r.imageCode < 256) && decide (r.settings ≤ 2)

/-- An offset within the Strongbox (R330), a segment number within 32 bits (R310) and the number of a frame in it. -/
def EccPlace.wf : EccPlace → Bool
  | .strongbox off => decide (off < 0x2000000)
  | .waybill seg frame => decide (seg < 2 ^ 32) && decide (frame < 2 ^ 32)
  | .lpddr | .sram | .laneMemory | .mramFirmware | .mramSettings | .mramJournal => true

/-- An identifier of 29 bits at most, a FMT code, and a payload of the length the frame gives (R348). -/
def CanFrame.wf (f : CanFrame) : Bool :=
  decide (f.id < 2 ^ 29) && decide (f.fmt ≤ 4) && decide (f.data.length ≤ 2048) &&
  (f.data.length == f.dlen || (decide (f.fmt ≤ 1) && f.rtr)) && decide (f.sdt < 256) && decide (f.vcid < 256) &&
  decide (f.af < 2 ^ 32)

def CanRx.wf : CanRx → Bool
  | .frame f _ _ => f.wf
  | .error _ _ _ | .exception => true

/-- A descriptor has 32 bytes (R48), and its buffer on a ring towards the module holds LEN bytes at most. -/
def Desc.wf (d : Desc) : Bool := decide (d.bytes.length = 32) && decide (d.data.length ≤ d.len)

def optDescWf : Option Desc → Bool
  | some d => d.wf
  | none => true

/-- The offset of a register within its page of 4 KiB (R29). -/
def offWf (off : Nat) : Bool := decide (off < 0x1000) && decide (off % 4 = 0)

/-- The most sampled or unsampled bits of a stage at 20 MHz. -/
def stageBits : Nat := 200000

/-- A command whose operands have the sizes and ranges of the part. -/
def Instr.wf : Instr → Bool
  | .powerOn => true
  | .supplyOutOfRange _ _ => true
  | .supplyHoldOffExpiry => true
  | .resetNLow _ => true
  | .resetNRelease _ => true
  | .bootPhaseDone _ r => r.wf
  | .bootTimeout _ => true
  | .sysRst _ _ => true
  | .outRestart _ => true
  | .lockstepMismatch _ _ => true
  | .uncorrectableEccError _ m => m.wf
  | .watchdogExpiry _ => true
  | .outputLoopbackFailure _ _ _ => true
  | .clockMonitorFault _ => true
  | .vioBankFault _ _ => true
  | .aon32Loss _ => true
  | .diodeOverLimit _ _ _ => true
  | .thermalCoolExpiry _ => true
  | .pfwFall _ => true
  | .pfwRise _ => true
  | .roleFormation _ => true
  | .formationWaitExpiry _ => true
  | .formationJoinRetry _ => true
  | .contactorRelease _ _ h _ => h.wf
  | .dispatchEnable _ _ h _ => h.wf
  | .limitWrite _ _ h change _ => h.wf && change.wf
  | .roleAssign _ _ h _ => h.wf
  | .plannedRelay _ _ h => h.wf
  | .strongboxClear _ _ h _ => h.wf
  | .fwActivate _ _ h _ _ => h.wf
  | .keyLoad _ _ h _ _ wrapped => h.wf && decide (wrapped.length = 40)
  | .configSignatureCommit _ _ h _ => h.wf
  | .calibrationCycle _ _ h _ => h.wf
  | .eventInputEffect => true
  | .completionRecordRelease _ => true
  | .pageEnable _ _ _ => true
  | .blockStartDone _ _ => true
  | .pageDisable _ _ _ => true
  | .blockStopped _ _ => true
  | .blockFault _ _ => true
  | .configWrite _ _ off _ => offWf off
  | .flagsClear _ _ off _ => offWf off
  | .registerWrite _ _ off _ => offWf off
  | .scrubPass _ => true
  | .barAccessRejected _ bar2 off _ => decide (off < if bar2 then 0x10000000 else 0x100000)
  | .linkReset _ => true
  | .spiWriteFrame _ _ => true
  | .spiReadFrame _ _ => true
  | .ringDoorbell _ _ _ descs => descs.all optDescWf
  | .ringRestart _ _ => true
  | .ringDrainTimeout _ _ => true
  | .tickBoundary x => x.wf
  | .inputDeadline => true
  | .stageBoundary => true
  | .stageStepRun _ _ => true
  | .bistDone _ _ _ _ _ => true
  | .stepPublished _ => true
  | .forecastBoundary => true
  | .forecastPublished _ => true
  | .calibrationDeadline _ => true
  | .journalWriteStart _ => true
  | .journalWriteDone _ => true
  | .parameterSetWrite _ off bytes => decide (off + bytes.length ≤ 0x200000)
  | .parameterSetScrub _ => true
  | .limitTableWrite _ off bytes => decide (off + bytes.length ≤ 0x8000)
  | .commandCoachReceived _ _ _ _ => true
  | .dataCoachReceived _ _ _ _ => true
  | .alertCoachReceived _ _ _ _ => true
  | .repeatCoachSend _ _ => true
  | .farWaitExpiry _ _ => true
  | .symbolLockLoss _ _ => true
  | .frontEndLost _ _ _ => true
  | .enumerationWaitExpiry _ _ => true
  | .challengeDue _ _ _ => true
  | .challengeRetry _ _ _ => true
  | .challengeAll _ _ => true
  | .reenum _ _ => true
  | .relayedCompartment _ _ bytes => decide (bytes.length ≤ 4096)
  | .verdict _ _ bytes => decide (bytes.length ≤ 4096)
  | .mckselChange _ _ unsampled0 unsampled1 => decide (unsampled0 ≤ stageBits) && decide (unsampled1 ≤ stageBits)
  | .clockLoss _ _ unsampled => decide (unsampled ≤ stageBits)
  | .stuckRun _ _ => true
  | .indexLock _ _ bytes _ => decide (bytes.length ≤ 4096)
  | .stagePathSample _ _ w => w.wf
  | .fastFilterOutput _ _ ones sampled => BitWindow.wf ⟨ones, sampled⟩
  | .tripRelease _ _ => true
  | .manSet _ => true
  | .manClr _ => true
  | .controlSample _ _ x => x.wf
  | .pwmUpdatePoint _ _ _ => true
  | .loopStateDigest => true
  | .spHostWrite _ _ _ => true
  | .measWrite _ _ _ => true
  | .dutyWrite _ _ _ => true
  | .dispSpWrite _ _ => true
  | .tcoolWrite _ _ _ => true
  | .zoneStale _ _ => true
  | .spinPeriod _ _ high period => decide (high ≤ period)
  | .spinLosTimeout _ _ => true
  | .setPointStreamFrame _ _ _ => true
  | .streamTimeout _ _ => true
  | .impedancePublished _ => true
  | .unblock _ _ => true
  | .unblockAll _ => true
  | .zselLatch _ _ => true
  | .sensorRestore _ _ _ _ => true
  | .mselLatch _ _ => true
  | .testWindowClose _ _ x => x.wf
  | .stuckReset _ => true
  | .stuckResetEnd _ => true
  | .espitonData _ _ _ => true
  | .espitonEcho _ _ _ => true
  | .espitonPeriod _ _ => true
  | .heartbeatSend _ => true
  | .heartbeat _ _ bytes => decide (bytes.length ≤ 4096)
  | .peerSilent _ => true
  | .linkDown _ _ => true
  | .linkUp _ _ => true
  | .interlockAgreement _ => true
  | .peerDriveEnHigh _ => true
  | .driveEnRaise _ => true
  | .mirror _ _ bytes => decide (bytes.length ≤ 4096)
  | .mirrorGap _ => true
  | .stageDigest _ _ bytes => decide (bytes.length ≤ 4096)
  | .loopDigest _ _ bytes => decide (bytes.length ≤ 4096)
  | .repairReq _ _ bytes => decide (bytes.length ≤ 4096)
  | .repairData _ _ bytes => decide (bytes.length ≤ 4096)
  | .repairAll _ => true
  | .healthSend _ => true
  | .healthNow _ => true
  | .health _ _ bytes => decide (bytes.length ≤ 4096)
  | .healthStale _ => true
  | .abdicate _ _ bytes => decide (bytes.length ≤ 4096)
  | .tandemService _ _ bytes => decide (bytes.length ≤ 4096)
  | .relaySwitch _ => true
  | .renewTimer _ => true
  | .probeTimer _ => true
  | .witnessProbe _ _ _ => true
  | .witnessRenew _ _ _ => true
  | .witnessAcquire _ _ _ => true
  | .witnessYield _ _ _ => true
  | .witnessQuietEnd _ => true
  | .leaseGranted _ _ => true
  | .leaseRefused _ _ => true
  | .witnessState _ _ => true
  | .backoffExpiry _ => true
  | .leaseViewExpiry _ => true
  | .witnessLost _ => true
  | .witnessReturn _ _ => true
  | .stageFrameWrite _ => true
  | .wayFreeze _ => true
  | .releaseSegment _ => true
  | .exportSegment _ => true
  | .abortSegment _ => true
  | .exportChunk _ => true
  | .autoExportStart _ => true
  | .burstCaptureStop _ => true
  | .burstCopyDone _ => true
  | .strongboxWriteStart _ => true
  | .strongboxWriteDone _ => true
  | .tokenRefill _ => true
  | .cursorSeek _ => true
  | .cursorNext _ => true
  | .cursorDone _ => true
  | .strongboxExportChunk _ => true
  | .strongboxExportFlush _ => true
  | .canTransmitAttempt _ _ => true
  | .canAttemptEnd _ _ _ _ => true
  | .canFrameReceived _ _ x => x.wf
  | .busOffRecovery _ _ => true
  | .canCancel _ _ _ => true
  | .canCancelAll _ _ _ => true
  | .canRecover _ _ => true
  | .rxrel _ _ _ => true
  | .rxwRead _ _ _ => true
  | .fltw1Commit _ _ _ => true
  | .witnessResend _ _ => true
  | .ethTransmit _ _ _ => true
  | .ethFrameReceived _ _ f _ => f.wf
  | .arpRequest _ _ _ _ _ => true
  | .pairAnnounce _ => true
  | .prpSupervision _ _ => true
  | .ethLinkChange _ _ _ _ => true
  | .timeSync _ _ _ _ _ => true
  | .ptpAnnounce _ _ _ => true
  | .delayResp _ _ _ _ _ _ => true
  | .delayReq _ _ _ _ => true
  | .timeTransmitPeriod _ _ _ => true
  | .holdoverEntry _ => true
  | .irqSourceAssert _ _ _ => true
  | .extIrqPin _ _ _ => true
  | .targetFire _ _ => true
  | .irqClaim _ _ => true
  | .irqComplete _ _ _ => true
  | .irqPark _ _ _ => true
  | .irqSourceConfig _ _ _ => true
  | .openUpload _ _ => true
  | .closeUpload _ => true
  | .abortUpload _ => true
  | .bootRetry _ _ => true
  | .firmwareChunk _ _ => true
  | .windowChunk _ len => decide (len.toNat ≤ 1024)
  | .activationReboot _ => true
  | .activationCancel _ => true
  | .trialEnd _ => true
  | .svCommit _ => true
  | .dieModelUpdate _ nodes diodes => decide (nodes.length = 64) && decide (diodes.length = 16)
  | .powerSample _ domains _ _ _ _ => decide (domains.length = 15)
  | .nselLatch _ _ => true
  | .mtLoRead _ _ => true
  | .networkSessionStateMirror _ => true
  | .delayRequestSend _ => true
  | .canBusIntegration _ _ => true
  | .peerAliveLow _ _ => true
  | .joinTimeout _ => true
  | .activationDue _ => true
  | .malformedCommandMessage _ _ _ => true

end Sys2Proof
end

