-- ==== Sys2Proof/Tests/Slice0.lean ====
section
/-! SUPPORT. The model's own tests: for each statement, states and operands that meet the hypotheses of its clauses (the
theorem's name is the statement's, with `_premises`); the spec's worked examples; and terms that are not well formed. -/

namespace Sys2Proof.Tests

set_option maxRecDepth 100000
set_option Elab.async false

open Sys2Proof Sys2Proof.Machine

/-! ### Small states -/

/-- A module with its supplies, MT 20 ms, an accepted image in slot A and one loaded in slot B, and pages running. -/
def up (m : Mode) (ps : List Page) : State :=
  ps.foldl (fun (s : State) p => s.setPage p .running) { State.reset with
    sys := { mode := m, vin12Ok := true, holdOff := false, rstNLow := false, mt := 20000000 }
    mram := { fw := { a := { state := 3, sv := 1, gen := 1, headOk := true }, b := { state := 2, sv := 2, gen := 2 } } } }

def timed (t : Nat) (s : State) : State := { s with sys := { s.sys with mt := t } }
def trial (s : State) : State := { s with mram := { s.mram with fw := { s.mram.fw with trial := true } } }
def armedUp (m : Mode) (ps : List Page) : State := (up m ps).wrb .cfgx R.CFGX.STAT 0 true

/-- The head of a tandem frame that is accepted. -/
def head (s : State) (ty q : Nat) (b : List Byte) : TandemHead :=
  ⟨0, BitVec.ofNat 64 q, BitVec.ofNat 32 (frameCheck s.pairId ty q b)⟩
def tdm (s : State) (f : TdmSt → TdmSt) : State := { s with tdm := f s.tdm }
def pair (m : Mode) (f : TdmSt → TdmSt) : State := tdm (up m [.tdm]) f
/-- A request of the SERVICE ring that reads one register, and a reply of it. -/
def svc : List Byte := [1, 120, 0, 0, 0, 0, 0, 0] ++ spiReadOne 0x40
def svr : List Byte := [2, 122, 0, 0, 0, 0, 0, 0]
/-- A planned relay due at TB0 period 40,000, with periods of 500 ns. -/
def relayUp (m : Mode) (lock : Nat) : State :=
  ((tdm (up m [.tdm]) (fun t => { t with relayAt := 40000 })).wrf .pwm R.PWM.TB0_CFG 18 0 3200).wrf .mod R.MOD.STAT 2 1 lock
def dig : State := (pair .standby (fun t => { t with ownDigest := zeros 3676, ownLoop := zeros 48 })).wrf .tdm R.TDM.CFG 15 8 1
def rep : State := pair .standby (fun t => { t with repairOut := true })
/-- An active module of the pair with a key in slot 1, and the message of DISPATCH_ENABLE it accepts. -/
def keyed (m : Mode) : State :=
  { up m [] with mram := { (up m []).mram with keys := [(1, { key := [7], perm := 0x00FF })] } }
def hBad : CmdHead := ⟨1, 0, 5, zeros 16⟩
def hGood : CmdHead := ⟨1, 0, 5, (hmac256 [7] (cmdBody 0x02 hBad (leBytes 4 1))).take 16⟩
def msgOf (h : CmdHead) : List Byte := cmdMessage 0x02 h (leBytes 4 1)
def done : Completion := ⟨0, .mailbox, 2, 1, 5, 0, 0, 0, true, false⟩
def withDone : State := { up .ready [] with completions := [done] }
/-- A descriptor of a length, its TFLAGS, its LAUNCH and its buffer. -/
def desc (len tf launch : Nat) (data : List Byte) : Desc := ⟨descBytes 0 len false tf 0 launch, data, false⟩
theorem desc_len {n : Nat} : (desc 64 0 0 []).len ≤ ringMax n := Nat.le_trans (m := 65552) (by decide +kernel) (Nat.le_max_left _ _)
/-- Ring 4 in use, with no descriptor and with one. -/
def ringUp : State := ((up .ready [.rng]).wrf .rng (R.RNG.BASE_LO 4) 31 12 1).wrf .rng (R.RNG.BASE_LO 4) 3 0 3
def ringOne : State := { ringUp with rings := [(4, { hidx := 1, descs := [desc 1 0 0 []] })] }
def row (p : Page) (o : Nat) : RegRow := (findRow p o).getD ⟨0, 0, 0, 0, 0, 0, 0, 0, []⟩
/-- Sense ring 0 with four front-ends. -/
def sns (m : Mode) : State := (up m [.sns 0]).wrf (.sns 0) R.SNS.CFG 3 0 0xF
def snsB (m : Mode) : State := { sns m with sys := { (sns m).sys with strapB := true } }
def ringIs (s : State) (r : RingSns) : State := s.setSring 0 r
def feIs (s : State) (p k : Nat) : State := s.wrf (.sns 0) (R.SNS.FE p) 3 0 k
def coach (b : List Byte) : List Byte := b ++ leBytes 4 (crc32c b)
def ticks : TickInputs := ⟨[], [], ⟨[]⟩, 0, 0, false, false⟩
def cmdCoach : List Byte := coach ([0x43, 4, 0, 0] ++ leBytes 8 40 ++ zeros 92)
def comp : List Byte := 0xA5 :: zeros 63
def dataCoach (t : Nat) : List Byte := coach ([0x44, 0, 0, 0] ++ leBytes 8 t ++ zeros 4 ++ comp ++ zeros 192)
def alertCoach (p : Nat) : List Byte := coach ([0x4C, BitVec.ofNat 8 p] ++ zeros 6)
/-- The compartment of position 0 as the peer relays it in tick 40, and a verdict on position 0 with its outcome and
reason. -/
def relayed (t : Nat) : List Byte := [0, 0, 64, 0] ++ leBytes 8 t ++ leBytes 8 20000000 ++ comp
def verdictOf (v r : Nat) : List Byte := [0, 0, BitVec.ofNat 8 v, BitVec.ofNat 8 r] ++ zeros 36
def taken (s : State) (ty : Nat) (b : List Byte) : State := (s.takeFrame ty (head s ty 1 b) b).2
def withTdm (s : State) : State := s.setPage .tdm .running
/-- Modulator inputs 0 to 11 enabled. -/
def modUp (m : Mode) : State := (List.range 12).foldl (fun (s : State) n => s.wrb .mod (R.MOD.IN_CFG n) 0 true) (up m [.mod])
def lockFrame : List Byte := [0, 0, 0, 0] ++ leBytes 8 40 ++ leBytes 8 1
def ending (d : StepDue) : State := { up .active [.est] with est := { ran := some d } }
def stepOf (a b : Nat) : StepDue := ⟨a, b, false, [], [], [], 0, 0, [], [], [], [], [], [], []⟩
/-- A step whose channel 0 has its lane under comparison. -/
def heldUp : State :=
  { (ending (stepOf 1 1)).wrf (.sns 0) R.SNS.CFG 3 0 1 with ost := { map := [(0, { lane := 3 })], checks := [⟨3, 4, 0, 0⟩] } }
/-- A follower of the peer's modulator clock. -/
def foll : State := { modUp .ready with mod := { (modUp .ready).mod with mcksel := true } } |> withTdm
/-- Pair 7 enabled on TB0 with periods of 500 ns, driven by PWM.DUTY and released by no trip group. -/
def pwmUp (v : PairSt) : State := { ((up .active [.pwm]).wrn .pwm (R.PWM.PAIR_CFG 7) 0x21).wrf .pwm R.PWM.TB0_CFG 18 0 3200 with
    loops := { pairs := [(7, v)] } }
/-- Slot 7 in RUN with the host as its source. -/
def slotUp : State :=
  { (up .active [.loop 7]).wrn (.loop 7) R.LOOP.SRC 0x10003 with loops := { slots := [(7, { mode := 2, meas := true })] } }
def spinUp (m : Mode) : State := (up m [.spt]).wrb .spt (R.SPT.SPIN_CFG 3) 0 true
/-- Stream 7 enabled with the key of slot 1, and a frame it takes. -/
def strmUp (m : Mode) : State :=
  let s := ((up m [.spt]).wrb .spt (R.SPT.STR_CFG 7) 0 true).wrf .spt (R.SPT.STR_CFG 7) 10 8 1
  { s with mram := { s.mram with keys := [(1, { key := [7], perm := 0 })] } }
def strmBody : List Byte := leBytes 4 0 ++ leBytes 8 1 ++ leBytes 4 5
def strmFrame : List Byte := strmBody ++ (hmac256 [7] (strmBody ++ leBytes 8 0)).take 16
def winUp (m : Mode) (w : TpWin) : State := { up m [.safe] with safe := { win := some w } }
def noReads : WindowReads := ⟨⟨[]⟩, ⟨[]⟩⟩
/-- Espiton connection 2 with ID 9, enabled; a frame of it with its check. -/
def espUp (prod : Bool) (v : ConnSt) : State :=
  let s := ((up .active [.slay]).wrb .slay (R.SLAY.CON_CFG 2) 0 true).wrb .slay (R.SLAY.CON_CFG 2) 1 prod
  { s.wrn .slay (R.SLAY.CON_ID 2) 9 with slay := { conn := [(2, v)] } }
def espFrame (ty seq mt len : Nat) : List Byte :=
  let b := [1, BitVec.ofNat 8 ty] ++ leBytes 2 len ++ leBytes 4 9 ++ leBytes 4 seq ++ leBytes 4 mt ++ zeros len
  b ++ leBytes 4 (espCheck 9 0 b)
/-- A message between a pair and its witness with its tag, and a witness that serves CAN XL on controller 0. -/
def witMsg (kind b2 b3 term seq w5 : Nat) : List Byte :=
  let b := [1, BitVec.ofNat 8 kind, BitVec.ofNat 8 b2, BitVec.ofNat 8 b3] ++ leBytes 4 0 ++ leBytes 8 0 ++ leBytes 4 term ++
    leBytes 4 w5 ++ leBytes 8 seq
  b ++ (hmac256 [7] b).take 16
def keyIn (s : State) : State := { s with mram := { s.mram with keys := [(1, { key := [7], perm := 0 })] } }
def witUp (w : WitSt) : State :=
  { keyIn ((((up .witnessOnly [.wit]).wrn .tdm R.TDM.PAIR_LO 77).wrb .wit R.WIT.CFG 7 true).wrb .wit (R.WIT.PAIR_CFG 0) 0 true) with wit := w }
def witSrc : NetSource := .canxl 0
/-- A module that has asked its witness with SEQ 5. -/
def askUp (m : Mode) (k : Nat) (f : TdmSt → TdmSt) : State :=
  tdm (keyIn (up m [.tdm])) (fun t => f { t with asked := some (k, 5) })
def oneStep : StepRec := ⟨1, 0, 2, [], [], [], [], [], [], [], [], [], 0⟩
def seg0 (bytes : Nat) : Seg := ⟨0, 0, 0, 0, [], 2, 20000000, [], [], [], bytes, 2, true, false, false, false⟩
def wayUp (w : WaySt) : State := { up .active [.way] with way := w }
/-- Segment 0 on its way to export ring 112, which holds a buffer of 16 bytes. -/
def expUp : State :=
  { (((up .active [.way, .rng]).wrf .rng (R.RNG.BASE_LO 112) 31 12 1) : State) with
    way := { segs := [seg0 512], host := some ⟨0, 0, 0⟩ }
    rings := [(112, { hidx := 1, descs := [desc 16 0 0 []] })] }
/-- The Strongbox with a record that waits. -/
def sbxUp (f : SbxSt → SbxSt) : State := { up .ready [.sbx] with sbx := f {} }
def req (c : Nat) : RecReq := ⟨c, 0, 40, [7], false⟩
def rec0 (a : SbxArea) (l q c : Nat) (b : List Byte) : SbxRec := ⟨a, l, q, c, 0, 40, b, true⟩
def withRecs (s : State) (l : List SbxRec) : State := { s with mram := { s.mram with sbxRecs := l } }
def sbxExp (len : Nat) (f : SbxSt → SbxSt) : State :=
  { (((up .ready [.sbx, .rng]).wrf .rng (R.RNG.BASE_LO 112) 31 12 1) : State) with
    sbx := f {}
    rings := [(112, { hidx := 1, descs := [desc len 0 0 []] })] }
/-- CAN controller 3 on the bus. -/
def canUp (f : CanSt → CanSt) : State :=
  let s := (up .active [.can 3, .rng]).wrf (.can 3) R.CAN.RXCFG 24 16 1
  { s with can := [(3, f { integrating := false })] }
def canBytes : List Byte := leBytes 4 5 ++ [0, 0, 2, 0] ++ zeros 16 ++ [1, 2]
/-- Its FIFO 1 with one frame that is prefetched. -/
def canFifoUp (tf : Nat) (f : CanSt → CanSt) : State :=
  let s := (canUp f).wrf .rng (R.RNG.BASE_LO 41) 31 12 1
  { s with rings := [(41, { hidx := 1, descs := [desc 26 tf 0 canBytes] })] }
def canOwn0 : CanOwn := ⟨canParse canBytes, false⟩
def canTry (v : CanSt) : CanSt := { v with attempt := some ⟨some 1, canOwn0, 40⟩ }
def canFrameOf (fmt len : Nat) : CanFrame := { id := 5, fmt := fmt, dlen := len, data := zeros len }
/-- Port 2 with its link up and one host frame on queue 3. -/
def ethUp (m : Mode) (f : EthPort → EthPort) : State :=
  { up m [.eth 2, .rng] with eth := { port := [(2, f { up := true, rate := 3 })] } }
def ethDesc (launch : Nat) : Desc := desc 76 0 launch (zeros 76)
def ethRing (launch : Nat) : State :=
  { ((ethUp .active id).wrf .rng (R.RNG.BASE_LO 83) 31 12 1 : State) with
    rings := [(83, { hidx := 1, descs := [ethDesc launch] })] }
def ethOk (ty : Nat) (b : List Byte) : EthFrame := ⟨List.replicate 6 255 ++ zeros 6 ++ beBytes 2 ty ++ b, true⟩
/-- The time engine with a profile on every port, and port 2 running. -/
def timeUp (m : Mode) (prof : Nat) (f : TimeSt → TimeSt) : State :=
  let s := (((ethUp m id).setPage .time .running).wrf .time R.TIME.CFG 1 0 prof).wrf .time R.TIME.CFG 23 16 0xFF
  { s with time := f {} }
def noFraction (n : Nat) : PtpAnnounce := ⟨0, 128, 6, 0x21, 0, 128, 1, BitVec.ofNat 16 n, 7⟩
/-- The interrupt controller with target 5 enabled. -/
def irqUp (f : IrqSt → IrqSt) : State :=
  let s := ((up .active [.irq]).wrb .irq (R.IRQ.TGT_CFG 5) 31 true).wrf .irq (R.IRQ.SRC 4) 18 16 5
  { s.wrb .irq (R.IRQ.SRC 4) 31 false with irq := f {} }
/-- The updater with slot B as its running slot. -/
def fwUp (f : FwuSt → FwuSt) (g : FwMram → FwMram) : State :=
  let s := up .ready [.fwu]
  { s with fwu := f { run := 1 }, mram := { s.mram with fw := g s.mram.fw } }
def chunkOf (n off : Nat) : List Byte := leBytes 4 off ++ leBytes 4 n ++ leBytes 4 (crc32c (zeros n)) ++ zeros (4 + n)
def chunkUp (d : Desc) (f : FwuSt → FwuSt) : State :=
  { ((fwUp f id).setPage .rng .running).wrf .rng (R.RNG.BASE_LO 2) 31 12 1 with
    rings := [(2, { hidx := 1, descs := [d] })] }
/-- CAN stream 7 of SPT on controller 3, and a UDP stream on port 2. -/
def withSpt : State :=
  (((((canUp id).setPage .spt .running).wrb (.can 3) R.CAN.CFG 4 true).wrb .spt (R.SPT.STR_CFG 7) 0 true).wrf .spt
    (R.SPT.STR_CFG 7) 5 3 3).wrf .spt (R.SPT.STR_ADDR 7) 10 0 5
def udpUp : State :=
  ((ethUp .active id).setPage .wit .running).wrf .wit R.WIT.CFG 13 11 5 |>.wrf .wit R.WIT.NET 31 16 7
def udpFrame : EthFrame :=
  ethOk 0x0800 ([0x45, 0, 0, 36, 0, 0, 0, 0, 64, 17, 0, 0] ++ beBytes 4 9 ++ beBytes 4 8 ++ beBytes 2 7 ++ beBytes 2 7 ++
    beBytes 2 16 ++ [0, 0] ++ zeros 8)
def udpIn : UdpIn := (parseUdp udpFrame.bytes).getD ⟨false, 0, 0, 0, 0, false, 0, []⟩
/-- Groups 0 and 1 released by command, with no source mapped to them; the key 00 01 … 1F wrapped for slot 1. -/
def relUp : State :=
  [0, 1].foldl (fun (s : State) n => ((s.wrf .trip (R.TRIP.GRP_CFG n) 1 0 2).wrn .trip (R.TRIP.MAP_LO n) 0).wrn .trip
    (R.TRIP.MAP_HI n) 0) (up .active [.trip, .prot])
def wrapped : List Byte :=
  leBytes 40 0x4b618d382d644e224e2c6fe7d539b23519a30942c066ed5f8e346de8918da2e8f6efb8df9144d883
/-- What a port holds at a frame boundary once the frames it may not send are dropped and the bad heads completed. -/
def ethNow (s : State) (dt : Nat) (p : Fin 4) : State :=
  ((s.elapse dt).modEth p fun v =>
    { v with own := v.own.filter (fun f => (s.elapse dt).ownAllowed f.1) }).ethCheckAll p
/-- A module in OUT since an MT with its record still waiting. -/
def outUp (m : Nat) : State :=
  { up .out [] with sys := { (up .out []).sys with outMt := m }, sbx := { lockedQ := [⟨7, 0, 40, [1], false⟩] } }
/-- A descriptor whose buffer is not aligned. -/
def descBad : Desc := ⟨descBytes 1 64 false 0 0 0, [], false⟩
def pfwLow (s : State) : State := { s with sys := { s.sys with pfwLow := true } }
/-- A test-pulse window whose pulse was driven to its end. -/
def winDone : State :=
  let s := winUp .active ⟨7, 40, 0, true, false, false⟩
  { s with sys := { s.sys with tpoDone := some 20200000 } }
/-- External line 7 with a configuration and a filter of 10. -/
def extUp (c : Nat) : State := (irqUp id).wrn .irq (R.IRQ.EXT_CFG 7) (0xA00 + c)
/-- A frame that is taken, and a limit set with its CRC. -/
theorem taken_of (x : Bool × State) (h : x.1 = true) : x = (true, x.2) := Prod.ext h rfl
def setLimCrc (s : State) (c : Nat) : State := { s with mram := { s.mram with limCrc := c } }
def limUp (s : State) : State := setLimCrc s (limCrcOf s.prot.lim s.prot.str)
theorem limUp_ok (s : State) : limCrcOf (limUp s).prot.lim (limUp s).prot.str = (limUp s).mram.limCrc := by
  have h (c : Nat) : (setLimCrc s c).mram.limCrc = c ∧ (setLimCrc s c).prot = s.prot := ⟨rfl, rfl⟩
  rw [limUp, (h _).1, (h _).2]

/-! ### What each statement assumes can be met -/

theorem test_EmptyQueueIdles_premises :
    (∃ (s : State), s.pending = []) :=
  ⟨up .ready [], by decide +kernel⟩

theorem test_SupplyChangesComplete_premises :
    (∃ (s : State), s.mode ≠ .thermal ∧ s.mode ≠ .reset) ∧
    (∃ (s : State), (s.mode = .thermal ∨ s.mode = .reset)) :=
  ⟨⟨up .out [], by decide +kernel⟩,
   ⟨up .thermal [], by decide +kernel⟩⟩

theorem test_BootStartsAndEnds_premises :
    (∃ (s : State), s.mode = .reset ∧ s.sys.rstNLow = false) ∧
    (∃ (s : State), (s.mode ≠ .reset ∨ s.sys.rstNLow = true)) ∧
    (∃ (s : State), s.mode = .reset ∧ s.sys.vaonOk = true ∧ s.sys.vin12Ok = true ∧ s.sys.holdOff = false) ∧
    (∃ (s : State), s.mode = .reset ∧ (s.sys.vaonOk = false ∨ s.sys.vin12Ok = false ∨ s.sys.holdOff = true)) ∧
    (∃ (s : State), s.mode ≠ .reset) ∧
    (∃ (r : BootReport) (s : State), s.mode = .boot ∧ s.sys.pfwHold = false ∧ s.sys.bootPhase ≠ 0 ∧ r.ok = false) ∧
    (∃ (r : BootReport) (s : State), s.mode = .boot ∧ s.sys.pfwHold = false ∧ r.ok = true ∧
     (s.sys.bootPhase = 1 ∨ s.sys.bootPhase = 2)) ∧
    (∃ (r : BootReport) (s : State), s.mode = .boot ∧ s.sys.pfwHold = false ∧ r.ok = true ∧ s.sys.bootPhase = 4 ∧
     imagePasses s r) ∧
    (∃ (r : BootReport) (s : State), s.mode = .boot ∧ s.sys.pfwHold = false ∧ r.ok = true ∧ s.sys.bootPhase = 4 ∧
     ¬imagePasses s r) ∧
    (∃ (r : BootReport) (s : State), s.mode = .boot ∧ s.sys.pfwHold = false ∧ r.ok = true ∧
     (s.sys.bootPhase = 3 ∨ s.sys.bootPhase = 6 ∨ s.sys.bootPhase = 7)) ∧
    (∃ (r : BootReport) (s : State), s.mode = .boot ∧ s.sys.pfwHold = false ∧ r.ok = true ∧ s.sys.bootPhase = 8 ∧
     8 < popCount r.laneFails.toNat 32) ∧
    (∃ (s : State), s.sys.bootPhase = 0) :=
  ⟨⟨up .reset [], by decide +kernel⟩,
   ⟨up .ready [], by decide +kernel⟩,
   ⟨up .reset [], by decide +kernel⟩,
   ⟨State.reset, by decide +kernel⟩,
   ⟨up .out [], by decide +kernel⟩,
   ⟨⟨false, false, 0, 0, 0⟩, { up .boot [] with sys := { (up .boot []).sys with bootPhase := 1 } },
      by decide +kernel⟩,
   ⟨⟨true, false, 0, 0, 0⟩, { up .boot [] with sys := { (up .boot []).sys with bootPhase := 2 } }, by decide +kernel⟩,
   ⟨⟨true, false, 0, 0, 0⟩, { up .boot [] with sys := { (up .boot []).sys with bootPhase := 4 } },
      by decide +kernel, by decide +kernel, by decide +kernel, by decide +kernel,
      (by unfold imagePasses; decide +kernel)⟩,
   ⟨⟨true, false, 2, 0, 0⟩, { up .boot [] with sys := { (up .boot []).sys with bootPhase := 4 } },
      by decide +kernel, by decide +kernel, by decide +kernel, by decide +kernel,
      (by unfold imagePasses; decide +kernel)⟩,
   ⟨⟨true, false, 0, 0, 0⟩, { up .boot [] with sys := { (up .boot []).sys with bootPhase := 3 } }, by decide +kernel⟩,
   ⟨⟨true, false, 0, 0, 0x1FF⟩, { up .boot [] with sys := { (up .boot []).sys with bootPhase := 8 } },
      by decide +kernel⟩,
   ⟨up .boot [], by decide +kernel⟩⟩

theorem test_HostResetByKey_premises :
    (∃ (s : State), (s.mode.serves = true ∧ s.mode ≠ .active ∨ s.mode = .out)) ∧
    (∃ (s : State), s.mode = .active) ∧
    (∃ (k : Byte), k ≠ 183) :=
  ⟨⟨up .out [], by decide +kernel⟩,
   ⟨up .active [], by decide +kernel⟩,
   ⟨0xB6, by decide +kernel⟩⟩

theorem test_ModuleResetsComplete_premises :
    (∃ (dt : Nat) (s : State), s.mode = .out ∧ s.running .sys = true ∧ s.rdb .sys R.SYS.CFG 2 = true ∧
     s.sys.outDurable = true ∧ s.sys.outDurMt + 1000000000 ≤ (s.elapse dt).mt ∧ s.recentOut = false) ∧
    (∃ (dt : Nat) (s : State), s.mode = .thermal ∧ s.mram.thm.mt + 10000000000 ≤ (s.elapse dt).mt) ∧
    (∃ (slot : Bool) (s : State), s.mode.serves = true ∧ s.fwu.exhausted = true ∧
     (s.fw.slot (b2n slot)).usable = true) ∧
    (∃ (dt : Nat) (s : State) (k mt : Nat), s.fw.pending = some (k, mt) ∧ mt ≤ (s.elapse dt).mt ∧
     (s.elapse dt).mayReboot = true ∧ s.mode ≠ .reset) ∧
    (∃ (dt : Nat) (s : State), s.mode = .boot ∧ s.fwu.exhausted = false ∧ s.sys.pfwHold = false ∧
     s.sys.bootMt + s.sys.heldNs + 5000000000 ≤ (s.elapse dt).mt) :=
  ⟨⟨9,
     (timed 2000000000
     { up .out [.sys] with sys := { (up .out []).sys with outDurable := true, outDurMt := 1000000000 } }).wrb .sys
     R.SYS.CFG 2 true, by decide +kernel⟩,
   ⟨9, timed 10000000000 (up .thermal []), by decide +kernel⟩,
   ⟨true, { up .boot [] with fwu := { exhausted := true } }, by decide +kernel⟩,
   ⟨9,
      { up .ready [] with mram := { (up .ready []).mram with fw := { (up .ready []).mram.fw with pending := some (1, 20000000) } } },
      1, 20000000, by decide +kernel⟩,
   ⟨9, timed 5000000000 (up .boot []), by decide +kernel⟩⟩

theorem test_OutCausesEnterOut_premises :
    (∃ (c : Instr) (n : Nat) (s : State), outCauseOf c = some n ∧ s.mode.serves = true ∧ s.fw.trial = false) ∧
    (∃ (c : Instr) (n : Nat) (s : State), outCauseOf c = some n ∧ s.mode.serves = true ∧ s.fw.trial = true) ∧
    (∃ (c : Instr) (n : Nat) (s : State), outCauseOf c = some n ∧ s.mode = .out ∧ s.fw.trial = false ∧
     (s.elapse (outCauseDt c)).mt ≤ s.sys.outMt + 1000 ∧
     ((s.sbx.lockedQ.any fun r => decide (r.cls = 7) && decide (r.payload.head? = some 1)) = true)) ∧
    (∃ (c : Instr) (n : Nat) (s : State), outCauseOf c = some n ∧ s.mode = .out ∧ s.fw.trial = false ∧
     s.sys.outMt + 1000 < (s.elapse (outCauseDt c)).mt) :=
  ⟨⟨.lockstepMismatch 0 true, 1, up .active [], by decide +kernel⟩,
   ⟨.watchdogExpiry 3, 6, trial (up .ready []), by decide +kernel⟩,
   ⟨.watchdogExpiry 9, 6, outUp 19999009, by decide +kernel⟩,
   ⟨.watchdogExpiry 9, 6, outUp 19999008, by decide +kernel⟩⟩

theorem test_SupervisionCompletes_premises :
    (∃ (s : State), s.mode.serves = true) ∧
    (∃ (s : State), (s.mode.serves = true ∨ s.mode = .out)) ∧
    (∃ (r : Int) (s : State), s.mode ≠ .reset ∧ s.mode ≠ .thermal ∧ 8000 ≤ r) :=
  ⟨⟨up .ready [], by decide +kernel⟩,
   ⟨up .out [], by decide +kernel⟩,
   ⟨8000, up .active [], by decide +kernel⟩⟩

theorem test_RoleFormationCompletes_premises :
    (∃ (s : State), s.mode = .ready ∧ s.armed = true ∧ s.form = 1 ∧ s.tandemed = false) ∧
    (∃ (s : State), s.mode = .ready ∧ s.armed = true ∧ s.form = 1 ∧ s.tandemed = true ∧ s.tdm.peer.heard = true ∧
     s.tdm.silent = false ∧ s.tdm.peer.state = 4 ∧ s.tdm.joining = false) ∧
    (∃ (s : State), s.mode = .ready ∧ s.armed = true ∧ s.form = 2) ∧
    (∃ (s : State), s.mode = .ready ∧ s.armed = true ∧ s.form = 1 ∧ s.tandemed = true ∧
     (s.tdm.peer.heard = true → s.tdm.silent = false → s.tdm.peer.state ≠ 4) ∧
     (s.posB = true → s.sys.formWaited = true)) ∧
    (∃ (s : State), (s.mode ≠ .ready ∨ s.armed = false ∨ s.form = 0)) ∧
    (∃ (dt : Nat) (s : State), s.mode = .ready ∧ s.posB = true ∧ s.sys.readyMt + 10000000000 ≤ (s.elapse dt).mt) ∧
    (∃ (dt : Nat) (s : State), s.mode = .ready ∧ s.form = 1 ∧ s.tdm.joining = false ∧
     s.tdm.joinMt + 1000000000 ≤ (s.elapse dt).mt) ∧
    (∃ (dt : Nat) (s : State), s.mode = .ready ∧ s.armed = true ∧ s.form = 1 ∧ s.tandemed = true ∧
     s.tdm.peer.heard = true ∧ s.tdm.silent = false ∧ s.tdm.peer.state = 4 ∧ s.tdm.joining = false ∧
     s.tdm.joinMt + 1000000000 ≤ (s.elapse dt).mt) ∧
    (∃ (dt : Nat) (s : State),
     (s.mode ≠ .ready ∨ s.form ≠ 1 ∨ s.tdm.joining = true ∨ (s.elapse dt).mt < s.tdm.joinMt + 1000000000)) :=
  ⟨⟨(armedUp .ready [.sys]).wrf .sys R.SYS.CFG 1 0 1, by decide +kernel⟩,
   ⟨tdm ((armedUp .ready [.sys,
      .tdm]).wrf .sys R.SYS.CFG 1 0 1) (fun t => { t with peer := { heard := true, state := 4 } }),
      by decide +kernel⟩,
   ⟨(armedUp .ready [.sys]).wrf .sys R.SYS.CFG 1 0 2, by decide +kernel⟩,
   ⟨(armedUp .ready [.sys, .tdm]).wrf .sys R.SYS.CFG 1 0 1, by decide +kernel⟩,
   ⟨armedUp .ready [.sys, .tdm], by decide +kernel⟩,
   ⟨5, timed 10000000000 { up .ready [] with sys := { (up .ready []).sys with strapB := true } }, by decide +kernel⟩,
   ⟨5, timed 1000000000 ((armedUp .ready [.sys]).wrf .sys R.SYS.CFG 1 0 1), by decide +kernel⟩,
   ⟨5, tdm (timed 1000000000 (((armedUp .ready [.sys,
      .tdm]).wrf .sys R.SYS.CFG 1 0 1))) (fun t => { t with peer := { heard := true, state := 4, limCrc := 5 } }),
      by decide +kernel⟩,
   ⟨5, up .active [], by decide +kernel⟩⟩

theorem test_DriveInterlockCompletes_premises :
    (∃ (dt low : Nat) (s : State), s.mode = .active ∧ s.tdm.fenced = false ∧ s.tdm.driveWanted = true ∧
     s.tdm.driveFrom ≤ (s.elapse dt).mt ∧
     ((s.elapse dt).tb0Boundary = true ∨ s.tdm.relayKind = 1 ∧ (s.elapse dt).mt ≤ s.tdm.driveFrom + 120) ∧
     (s.tandemed = false ∨ 40 ≤ low ∧ 40 ≤ (s.elapse dt).mt) ∧
     (s.tandemed = false ∨ s.tdm.held = true ∨ s.tdm.peer.heard = true ∧ s.tdm.silent = false ∧ s.tdm.peer.state ≠ 4
        ∨ s.tdm.relayKind ≠ 0)) ∧
    (∃ (dt low : Nat) (s : State),
     (s.mode ≠ .active ∨ s.tdm.fenced = true ∨ s.tdm.driveWanted = false ∨ s.tandemed = true ∧ low < 40 ∨ (s.elapse
        dt).tb0Boundary = false ∧ s.tdm.relayKind ≠ 1)) ∧
    (∃ (dt : Nat) (s : State), s.tandemed = true ∧ (s.elapse dt).sys.driveEn = true) ∧
    (∃ (dt : Nat) (s : State), (s.tandemed = false ∨ (s.elapse dt).sys.driveEn = false)) :=
  ⟨⟨0, 40,
     tdm ((up .active [.tdm]).wrf .pwm R.PWM.TB0_CFG 18 0 3200) (fun t =>
     { t with driveWanted := true, held := true }), by decide +kernel⟩,
   ⟨5, 39, tdm (up .active [.tdm]) (fun t => { t with driveWanted := true }), by decide +kernel⟩,
   ⟨5, { up .active [.tdm] with sys := { (up .active []).sys with driveEn := true } }, by decide +kernel⟩,
   ⟨5, up .active [.tdm], by decide +kernel⟩⟩

theorem test_RelaysComplete_premises :
    (∃ (dt : Nat) (s : State), s.tdm.relayAt ≠ 0 ∧ (s.elapse dt).mt = (s.elapse dt).tb0Start s.tdm.relayAt ∧
     s.mode = .active ∧ s.lockBits = 3) ∧
    (∃ (dt : Nat) (s : State), s.tdm.relayAt ≠ 0 ∧ (s.elapse dt).mt = (s.elapse dt).tb0Start s.tdm.relayAt ∧
     s.mode = .active ∧ s.lockBits ≠ 3) ∧
    (∃ (dt : Nat) (s : State), s.tdm.relayAt ≠ 0 ∧ (s.elapse dt).mt = (s.elapse dt).tb0Start s.tdm.relayAt ∧
     s.mode = .standby) ∧
    (∃ (dt : Nat) (s : State), (s.tdm.relayAt = 0 ∨ (s.elapse dt).mt ≠ (s.elapse dt).tb0Start s.tdm.relayAt)) ∧
    (∃ (dt : Nat) (f : TandemHead) (bytes : List Byte) (s : State), ((s.elapse dt).takeFrame 10 f bytes).1 = true ∧
     s.mode = .standby ∧ leAt bytes 0 8 = s.pairId ∧ s.tdm.peerAlive = false ∧ s.tdm.peerDriveEn = false) ∧
    (∃ (dt : Nat) (f : TandemHead) (bytes : List Byte) (s : State), ((s.elapse dt).takeFrame 10 f bytes).1 = true ∧
     s.mode = .standby ∧ leAt bytes 0 8 = s.pairId ∧ (s.tdm.peerAlive = true ∨ s.tdm.peerDriveEn = true)) ∧
    (∃ (dt : Nat) (s : State) (m : Nat), s.tandemed = true ∧ s.mode = .standby ∧ s.tdm.abdMt = some m ∧
     (s.elapse dt).mt ≤ m + 10000) ∧
    (∃ (s : State), (s.tandemed = false ∨ s.tdm.abdMt = none)) ∧
    (∃ (dt : Nat) (b : Bool) (s : State) (m : Nat), s.tandemed = true ∧ (s.mode ≠ .standby ∨ b = false) ∧
     s.tdm.abdMt = some m ∧ ((s.elapse dt).mt ≤ m + 10000 ∨ s.tdm.abdAlive = true)) ∧
    (∃ (dt : Nat) (s : State) (m : Nat), s.tandemed = true ∧ s.tdm.abdMt = some m ∧ m + 10000 < (s.elapse dt).mt ∧
     s.tdm.abdAlive = false) ∧
    (∃ (dt : Nat) (bytes : List Byte) (s : State), (s.elapse dt).replyEntry 130 bytes = some s.tdm.widx ∧
     (s.elapse dt).askedKind bytes = 3 ∧ s.mode = .standby ∧ s.tdm.silent = true) :=
  ⟨⟨0, relayUp .active 3, by decide +kernel⟩,
   ⟨0, relayUp .active 1, by decide +kernel⟩,
   ⟨0, relayUp .standby 3, by decide +kernel⟩,
   ⟨1, relayUp .active 3, by decide +kernel⟩,
   ⟨5, head (up .standby []) 0x0A 1 (zeros 24), zeros 24, up .standby [.tdm], by decide +kernel⟩,
   ⟨5, head (up .standby []) 0x0A 1 (zeros 24), zeros 24,
      tdm (up .standby [.tdm]) (fun t => { t with peerAlive := true }), by decide +kernel⟩,
   ⟨5, tdm (up .standby [.tdm]) (fun t => { t with abdMt := some 19990005 }), 19990005, by decide +kernel⟩,
   ⟨up .standby [.tdm], by decide +kernel⟩,
   ⟨5, false, tdm (up .standby [.tdm]) (fun t => { t with abdMt := some 19990005, peerAlive := true }), 19990005,
      by decide +kernel⟩,
   ⟨6, tdm (up .standby [.tdm]) (fun t => { t with abdMt := some 19990005 }), 19990005, by decide +kernel⟩,
   ⟨0, witMsg 130 0 0 3 5 0, askUp .standby 3 (fun t => { t with silent := true }), by decide +kernel⟩⟩

theorem test_TandemFramesAreJudged_premises :
    (∃ (c : Instr) (dt ty : Nat) (f : TandemHead) (b : List Byte) (s : State), frameOf c = some (dt, ty, f, b) ∧
     s.tandemed = false) ∧
    (∃ (c : Instr) (dt ty : Nat) (f : TandemHead) (b : List Byte) (s : State), frameOf c = some (dt, ty, f, b) ∧
     s.tandemed = true ∧ BitVec.toNat f.check ≠ frameCheck s.pairId ty (BitVec.toNat f.lseq) b ∧ ty ≠ 1) ∧
    (∃ (c : Instr) (dt : Nat) (f : TandemHead) (b : List Byte) (s : State), frameOf c = some (dt, 1, f, b) ∧
     s.tandemed = true ∧ BitVec.toNat f.check ≠ frameCheck s.pairId 1 (BitVec.toNat f.lseq) b) ∧
    (∃ (c : Instr) (dt ty : Nat) (f : TandemHead) (b : List Byte) (s : State), frameOf c = some (dt, ty, f, b) ∧
     s.tandemed = true ∧ BitVec.toNat f.check = frameCheck s.pairId ty (BitVec.toNat f.lseq) b ∧
     (BitVec.toNat f.lseq + 4096 < s.tdm.lseqHigh ∨ BitVec.toNat f.lseq ∈ s.tdm.lseqSeen)) ∧
    (∃ (ty : Nat) (f : TandemHead) (b : List Byte) (s : State), s.tandemed = true ∧
     BitVec.toNat f.check = frameCheck s.pairId ty (BitVec.toNat f.lseq) b ∧
     s.tdm.lseqHigh ≤ BitVec.toNat f.lseq + 4096 ∧ BitVec.toNat f.lseq ∉ s.tdm.lseqSeen) :=
  ⟨⟨.mirror 0 ⟨0, 1, 0⟩ [], 0, 2, ⟨0, 1, 0⟩, [], up .ready [], by decide +kernel⟩,
   ⟨.mirror 0 ⟨0, 1, 0⟩ [], 0, 2, ⟨0, 1, 0⟩, [], up .ready [.tdm], by decide +kernel⟩,
   ⟨.heartbeat 0 ⟨0, 1, 0⟩ [], 0, ⟨0, 1, 0⟩, [], up .ready [.tdm], by decide +kernel⟩,
   ⟨.mirror 0 (head (up .ready []) 2 5 []) [], 0, 2, head (up .ready []) 2 5 [], [],
      pair .ready (fun t => { t with lseqHigh := 4102 }), by decide +kernel⟩,
   ⟨2, head (up .ready []) 2 5 [], [], pair .ready (fun t => { t with lseqHigh := 4101 }), by decide +kernel⟩⟩

theorem test_HeartbeatsHealthAndServiceComplete_premises :
    (∃ (dt : Nat) (s : State), s.mode.speaks = true ∧ s.tandemed = true ∧ (s.elapse dt).mt % 20000 = 0 ∧
     s.tdm.beatMt ≠ (s.elapse dt).mt) ∧
    (∃ (dt : Nat) (s : State),
     (s.mode.speaks = false ∨ s.tandemed = false ∨ (s.elapse dt).mt % 20000 ≠ 0 ∨ s.tdm.beatMt = (s.elapse dt).mt)) ∧
    (∃ (dt : Nat) (f : TandemHead) (b : List Byte) (s x : State), (s.elapse dt).takeFrame 1 f b = (true, x) ∧
     (byteAt b 1).testBit 0 ≠ s.posB ∧ s.tdm.joining = false) ∧
    (∃ (dt : Nat) (f : TandemHead) (b : List Byte) (s x : State), (s.elapse dt).takeFrame 1 f b = (true, x) ∧
     (byteAt b 1).testBit 0 = s.posB) ∧
    (∃ (dt : Nat) (s : State), s.tandemed = true ∧ s.tdm.silent = false ∧
     s.tdm.peer.heardMt + tSilent ≤ (s.elapse dt).mt) ∧
    (∃ (dt : Nat) (l : Fin 2) (s : State), s.tandemed = true ∧ (s.link ↑l).down = false ∧
     (s.link ↑l).lastMt + tSilent ≤ (s.elapse dt).mt ∧ (s.elapse dt).mt < (s.link (1 - ↑l)).lastMt + tSilent) ∧
    (∃ (dt : Nat) (l : Fin 2) (s : State), s.tandemed = true ∧ (s.link ↑l).up = false ∧
     (s.link ↑l).runMt + 1000000 ≤ (s.elapse dt).mt ∧ (s.elapse dt).mt < (s.link ↑l).lastMt + tSilent) ∧
    (∃ (dt : Nat) (s : State), s.tdm.ilkRun = 0 ∧ s.tdm.ilkAgreeMt + 1000000000 ≤ (s.elapse dt).mt ∧
     s.rdb .tdm R.PAGE.FLAGS 15 = true) ∧
    (∃ (dt : Nat) (s : State), s.mode.isRole = true ∧ (s.elapse dt).mt % 1000000000 = 0 ∧
     s.tdm.healthMt ≠ (s.elapse dt).mt) ∧
    (∃ (dt : Nat) (s : State),
     (s.mode.isRole = false ∨ (s.elapse dt).mt % 1000000000 ≠ 0 ∨ s.tdm.healthMt = (s.elapse dt).mt)) ∧
    (∃ (s : State), s.mode.isRole = true ∧ s.pageServed .tdm = true) ∧
    (∃ (w : Nat), w < 16) ∧
    (∃ (dt : Nat) (f : TandemHead) (b : List Byte) (s x : State), (s.elapse dt).takeFrame 9 f b = (true, x) ∧
     b.length = 64 ∧ crc32c (List.take 60 b) = leAt b 60 4) ∧
    (∃ (dt : Nat) (s : State), s.tandemed = true ∧ s.tdm.peer.heard = true ∧ s.tdm.silent = false ∧
     4 ≤ s.tdm.peer.state ∧ s.tdm.peer.state ≤ 6 ∧
     (∀ (m : Nat), s.tdm.peerHealthMt = some m → m + 3000000000 ≤ (s.elapse dt).mt) ∧
     s.tdm.peerRoleMt + 3000000000 ≤ (s.elapse dt).mt) ∧
    (∃ (dt : Nat) (f : TandemHead) (b : List Byte) (s x : State) (st : Nat) (ans : List Byte) (y : State),
     (s.elapse dt).takeFrame 11 f b = (true, x) ∧ byteAt b 0 = 1 ∧ (byteAt b 1 = 120 ∨ byteAt b 1 = 121) ∧
     x.spiFrame (List.drop 8 b) = (st, ans, y)) ∧
    (∃ (dt : Nat) (f : TandemHead) (b : List Byte) (s x : State), (s.elapse dt).takeFrame 11 f b = (true, x) ∧
     byteAt b 0 = 2 ∧ (byteAt b 1 = 122 ∨ byteAt b 1 = 123)) ∧
    (∃ (dt : Nat) (s : State), s.mode = .active ∧ s.tandemed = true ∧
     s.tdm.sessionMt + 1000000000 ≤ (s.elapse dt).mt) ∧
    (∃ (dt : Nat) (s : State),
     (s.mode ≠ .active ∨ s.tandemed = false ∨ (s.elapse dt).mt < s.tdm.sessionMt + 1000000000)) :=
  ⟨⟨0, up .ready [.tdm], by decide +kernel⟩,
   ⟨1, up .ready [.tdm], by decide +kernel⟩,
   ⟨5, head (up .ready []) 1 5 (4 :: 1 :: zeros 46), 4 :: 1 :: zeros 46, up .ready [.tdm],
      (((up .ready [.tdm]).elapse 5).takeFrame 1 (head (up .ready []) 1 5 (4 :: 1 :: zeros 46)) (4 :: 1 :: zeros
      46)).2, (taken_of _ (by decide +kernel)), by decide +kernel, by decide +kernel⟩,
   ⟨5, head (up .ready []) 1 5 (zeros 48), zeros 48, up .ready [.tdm],
      (((up .ready [.tdm]).elapse 5).takeFrame 1 (head (up .ready []) 1 5 (zeros 48)) (zeros 48)).2,
      (taken_of _ (by decide +kernel)), by decide +kernel⟩,
   ⟨0, pair .ready (fun t => { t with peer := { heard := true, heardMt := 19940000 } }), by decide +kernel⟩,
   ⟨0, 0,
      pair .ready (fun t =>
      { t with links := [(0, { up := true, lastMt := 19940000 }), (1, { up := true, lastMt := 19940001 })] }),
      by decide +kernel⟩,
   ⟨0, 0, pair .ready (fun t => { t with links := [(0, { lastMt := 19990000, runMt := 19000000 })] }),
      by decide +kernel⟩,
   ⟨0, timed 1000000000 ((up .ready [.tdm]).wrb .tdm R.PAGE.FLAGS 15 true), by decide +kernel⟩,
   ⟨0, timed 1000000000 (up .active [.tdm]), by decide +kernel⟩,
   ⟨0, up .witnessOnly [.tdm], by decide +kernel⟩,
   ⟨up .standby [.tdm], by decide +kernel⟩,
   ⟨15, by decide +kernel⟩,
   ⟨0, head (up .ready []) 9 1 (zeros 60 ++ leBytes 4 (crc32c (zeros 60))),
      zeros 60 ++ leBytes 4 (crc32c (zeros 60)), up .standby [.tdm],
      (((up .standby [.tdm]).elapse 0).takeFrame 9 (head (up .ready []) 9 1 (zeros 60 ++ leBytes 4 (crc32c (zeros
      60)))) (zeros 60 ++ leBytes 4 (crc32c (zeros 60)))).2, (taken_of _ (by decide +kernel)), by decide +kernel,
      by decide +kernel⟩,
   ⟨0,
      timed 3000000000 (pair .active (fun t =>
      { t with peer := { heard := true, state := 5 }, peerHealthMt := some 0 })), by decide +kernel⟩,
   ⟨0, head (up .ready []) 11 1 svc, svc, up .ready [.tdm],
      (((up .ready [.tdm]).elapse 0).takeFrame 11 (head (up .ready []) 11 1 svc) svc).2,
      ((((up .ready [.tdm]).elapse 0).takeFrame 11 (head (up .ready []) 11 1 svc) svc).2.spiFrame (svc.drop 8)).1,
      ((((up .ready [.tdm]).elapse 0).takeFrame 11 (head (up .ready []) 11 1 svc) svc).2.spiFrame (svc.drop 8)).2.1,
      ((((up .ready [.tdm]).elapse 0).takeFrame 11 (head (up .ready []) 11 1 svc) svc).2.spiFrame (svc.drop 8)).2.2,
      (taken_of _ (by decide +kernel)), by decide +kernel, by decide +kernel, by decide +kernel⟩,
   ⟨0, head (up .ready []) 11 1 svr, svr, up .ready [.tdm],
      (((up .ready [.tdm]).elapse 0).takeFrame 11 (head (up .ready []) 11 1 svr) svr).2,
      (taken_of _ (by decide +kernel)), by decide +kernel, by decide +kernel⟩,
   ⟨0, timed 1000000000 (up .active [.tdm]), by decide +kernel⟩,
   ⟨0, up .active [.tdm], by decide +kernel⟩⟩

theorem test_MirrorAndDigestsComplete_premises :
    (∃ (dt : Nat) (f : TandemHead) (b : List Byte) (s x : State), (s.elapse dt).takeFrame 2 f b = (true, x)) ∧
    (∃ (it : EvItem) (s : State), (it.mseq ≤ s.seqBase ∨ it.mseq ∈ s.tdm.mseqAhead)) ∧
    (∃ (it : EvItem) (s : State), (s.mode = .standby ∨ s.tdm.joining = true) ∧ it.mseq = s.seqBase + 1 ∧
     s.tdm.mseqAhead = [] ∧ s.tick < it.effect ∧ it.kind ≠ 2) ∧
    (∃ (s : State), (s.mode ≠ .standby ∨ s.tdm.gapMt = none)) ∧
    (∃ (dt : Nat) (s : State) (m : Nat), s.mode = .standby ∧ s.tdm.gapMt = some m ∧ m + 100000 ≤ (s.elapse dt).mt) ∧
    (∃ (dt : Nat) (f : TandemHead) (b : List Byte) (s x : State), (s.elapse dt).takeFrame 3 f b = (true, x) ∧
     s.mode = .standby ∧ s.tdm.ownDigest.length ≠ 3676) ∧
    (∃ (dt : Nat) (f : TandemHead) (s x : State), (s.elapse dt).takeFrame 3 f s.tdm.ownDigest = (true, x) ∧
     s.mode = .standby ∧ s.tdm.ownDigest.length = 3676 ∧ 0 < s.rdf .tdm R.TDM.CFG 15 8 ∧ s.tdm.unexpl = []) ∧
    (∃ (dt : Nat) (f : TandemHead) (b : List Byte) (s x : State), (s.elapse dt).takeFrame 4 f b = (true, x) ∧
     s.mode = .standby ∧ s.tdm.ownLoop.length ≠ 48) ∧
    (∃ (dt : Nat) (f : TandemHead) (s x : State), (s.elapse dt).takeFrame 4 f s.tdm.ownLoop = (true, x) ∧
     s.mode = .standby ∧ s.tdm.ownLoop.length = 48 ∧ 0 < s.rdf .tdm R.TDM.CFG 15 8 ∧ s.tdm.unexpl = []) :=
  ⟨⟨0, head (up .ready []) 2 1 [], [], up .standby [.tdm],
     (((up .standby [.tdm]).elapse 0).takeFrame 2 (head (up .ready []) 2 1 []) []).2,
     (taken_of _ (by decide +kernel))⟩,
   ⟨⟨3, 1, 50, []⟩, pair .standby (fun t => { t with mseqIn := 3 }), by decide +kernel⟩,
   ⟨⟨4, 3, 50, []⟩, pair .standby (fun t => { t with mseqIn := 3 }), by decide +kernel⟩,
   ⟨up .standby [.tdm], by decide +kernel⟩,
   ⟨0, pair .standby (fun t => { t with mseqIn := 3, gapMt := some 19900000 }), 19900000, by decide +kernel⟩,
   ⟨0, head (up .ready []) 3 1 [], [], up .standby [.tdm],
      (((up .standby [.tdm]).elapse 0).takeFrame 3 (head (up .ready []) 3 1 []) []).2,
      (taken_of _ (by decide +kernel)), by decide +kernel, by decide +kernel⟩,
   ⟨0, head (up .ready []) 3 1 (zeros 3676), dig,
      (((dig).elapse 0).takeFrame 3 (head (up .ready []) 3 1 (zeros 3676)) (zeros 3676)).2,
      (taken_of _ (by decide +kernel)), by decide +kernel, by decide +kernel, by decide +kernel, by decide +kernel⟩,
   ⟨0, head (up .ready []) 4 1 [], [], up .standby [.tdm],
      (((up .standby [.tdm]).elapse 0).takeFrame 4 (head (up .ready []) 4 1 []) []).2,
      (taken_of _ (by decide +kernel)), by decide +kernel, by decide +kernel⟩,
   ⟨0, head (up .ready []) 4 1 (zeros 48), dig,
      (((dig).elapse 0).takeFrame 4 (head (up .ready []) 4 1 (zeros 48)) (zeros 48)).2,
      (taken_of _ (by decide +kernel)), by decide +kernel, by decide +kernel, by decide +kernel, by decide +kernel⟩⟩

theorem test_RepairCompletes_premises :
    (∃ (dt : Nat) (f : TandemHead) (b : List Byte) (s x : State), (s.elapse dt).takeFrame 5 f b = (true, x) ∧
     s.mode = .active) ∧
    (∃ (dt : Nat) (f : TandemHead) (b : List Byte) (s x : State), (s.elapse dt).takeFrame 6 f b = (true, x) ∧
     s.tdm.repairOut = true ∧ leAt b 0 4 = s.tdm.repairReq ∧ leAt b 4 2 = s.tdm.repairPart) ∧
    (∃ (dt : Nat) (f : TandemHead) (b : List Byte) (s x : State), (s.elapse dt).takeFrame 6 f b = (true, x) ∧
     (s.tdm.repairOut = false ∨ leAt b 0 4 ≠ s.tdm.repairReq ∨ leAt b 4 2 ≠ s.tdm.repairPart)) ∧
    (∃ (s : State), s.tdm.joining = false) ∧
    (∃ (s : State), s.pageServed .tdm = true ∧ s.mode = .standby ∧ s.tandemed = true) ∧
    (∃ (dt : Nat) (s : State), s.tdm.joining = true ∧ s.tdm.joinMt + 2000000000 ≤ (s.elapse dt).mt ∧
     s.tdm.joinFor = none) ∧
    (∃ (dt : Nat) (s : State) (m : List Byte), s.tdm.joining = true ∧ s.tdm.joinMt + 2000000000 ≤ (s.elapse dt).mt ∧
     s.tdm.joinFor = some m) :=
  ⟨⟨0, head (up .ready []) 5 1 (zeros 96), zeros 96, up .active [.tdm],
     (((up .active [.tdm]).elapse 0).takeFrame 5 (head (up .ready []) 5 1 (zeros 96)) (zeros 96)).2,
     (taken_of _ (by decide +kernel)), by decide +kernel⟩,
   ⟨0, head (up .ready []) 6 1 (zeros 6 ++ [1, 0]), zeros 6 ++ [1, 0], rep,
      (((rep).elapse 0).takeFrame 6 (head (up .ready []) 6 1 (zeros 6 ++ [1, 0])) (zeros 6 ++ [1, 0])).2,
      (taken_of _ (by decide +kernel)), by decide +kernel, by decide +kernel, by decide +kernel⟩,
   ⟨0, head (up .ready []) 6 1 (zeros 16), zeros 16, up .standby [.tdm],
      (((up .standby [.tdm]).elapse 0).takeFrame 6 (head (up .ready []) 6 1 (zeros 16)) (zeros 16)).2,
      (taken_of _ (by decide +kernel)), by decide +kernel⟩,
   ⟨rep, by decide +kernel⟩,
   ⟨up .standby [.tdm], by decide +kernel⟩,
   ⟨0, timed 2000000000 (pair .standby (fun t => { t with joining := true })), by decide +kernel⟩,
   ⟨0, timed 2000000000 (pair .standby (fun t => { t with joining := true, joinFor := some [1] })), [1],
      by decide +kernel⟩⟩

theorem test_CommandsAreJudged_premises :
    (∃ (c : Instr) (dt : Nat) (path : CmdPath) (m : List Byte) (s : State) (st : Nat),
     messageOf c = some (dt, path, m) ∧ s.mode.speaks = true ∧ s.pathOpen path m = true ∧
     firstFailure (atJudgement (s.elapse dt) path) m = some st) ∧
    (∃ (c : Instr) (dt : Nat) (path : CmdPath) (m : List Byte) (s : State), messageOf c = some (dt, path, m) ∧
     s.mode.speaks = true ∧ s.pathOpen path m = true ∧ firstFailure (atJudgement (s.elapse dt) path) m = none) ∧
    (∃ (c : Instr) (dt : Nat) (path : CmdPath) (m : List Byte) (s : State), messageOf c = some (dt, path, m) ∧
     s.mode.speaks = false) ∧
    (∃ (c : Instr) (dt : Nat) (path : CmdPath) (m : List Byte) (s : State), messageOf c = some (dt, path, m) ∧
     s.mode.speaks = true ∧ s.pathOpen path m = false ∧ path ≠ CmdPath.mailbox) ∧
    (∃ (c : Instr) (dt : Nat) (m : List Byte) (s : State), messageOf c = some (dt, CmdPath.mailbox, m) ∧
     s.mode.speaks = true ∧ s.rdb .auth R.AUTH.MBOX_STAT 0 = true) ∧
    (∃ (m : List Byte), cmdFormOk m = true) :=
  ⟨⟨.dispatchEnable 0 .mailbox hBad true, 0, .mailbox, msgOf hBad, keyed .active, 0x0100, by decide +kernel⟩,
   ⟨.dispatchEnable 0 .mailbox hGood true, 0, .mailbox, msgOf hGood, keyed .active, by decide +kernel⟩,
   ⟨.dispatchEnable 0 .mailbox hBad true, 0, .mailbox, msgOf hBad, keyed .out, by decide +kernel⟩,
   ⟨.dispatchEnable 0 (.ring 0) hBad true, 0, .ring 0, msgOf hBad, keyed .active, by decide +kernel⟩,
   ⟨.dispatchEnable 0 .mailbox hBad true, 0, msgOf hBad, (keyed .active).wrb .auth R.AUTH.MBOX_STAT 0 true,
      by decide +kernel⟩,
   ⟨msgOf hBad, by decide +kernel⟩⟩

theorem test_EventInputsTakeEffectInOrder_premises :
    (∃ (s : State), (∀ x ∈ s.events, s.tick < x.effect)) ∧
    (∃ (s : State) (x : EvItem), s.dueItem = some x) ∧
    (∃ (s : State) (x y : EvItem), s.dueItem = some x ∧ y ∈ s.events ∧ y.effect ≤ s.tick) ∧
    (∃ (dt : Nat) (s : State) (c : Completion), List.find? (s.elapse dt).releasable s.completions = some c ∧
     c.path = CmdPath.mailbox) ∧
    (∃ (dt : Nat) (s : State) (c : Completion), List.find? (s.elapse dt).releasable s.completions = some c) ∧
    (∃ (dt : Nat) (s : State), (∀ c ∈ s.completions, (s.elapse dt).releasable c = false)) :=
  ⟨⟨{ up .ready [] with events := [⟨0, 1, 41, []⟩] }, by decide +kernel⟩,
   ⟨{ up .ready [] with events := [⟨1, 1, 40, []⟩, ⟨0, 1, 39, []⟩] }, ⟨0, 1, 39, []⟩, by decide +kernel⟩,
   ⟨{ up .ready [] with events := [⟨1, 1, 40, []⟩, ⟨0, 1, 39, []⟩] }, ⟨0, 1, 39, []⟩, ⟨1, 1, 40, []⟩,
      by decide +kernel⟩,
   ⟨0, withDone, done, by decide +kernel⟩,
   ⟨0, withDone, done, by decide +kernel⟩,
   ⟨0, up .ready [], by decide +kernel⟩⟩

theorem test_CommandEffects_premises :
    (∃ (g : BitVec 4) (s : State),
     (∀ n < 4,
        g.toNat.testBit n = true → s.rdf .trip (R.TRIP.GRP_CFG n) 1 0 = 2 ∧ (s.group n = GroupState.keeping ∨
        s.mayKeep = true ∧ s.verdict n = false ∧ s.sutClear n = true))) ∧
    (∃ (n : Nat) (s : State), n < 4 ∧
     (s.rdf .trip (R.TRIP.GRP_CFG n) 1 0 ≠ 2 ∨ s.group n ≠ GroupState.keeping ∧ (s.mayKeep = false ∨ s.verdict n =
        true ∨ s.sutClear n = false))) ∧
    (∃ (c : LimitChange), c.kind = 0) ∧
    (∃ (c : LimitChange), c.kind = 1) ∧
    (∃ (t : Byte), 0 < BitVec.toNat t ∧ BitVec.toNat t ≤ 8) ∧
    (∃ (s : State), s.mode = .active ∧ (s.tdm.peer.heard = true → s.tdm.silent = false → s.tdm.peer.state ≠ 5)) ∧
    (∃ (s : State), s.mode = .active ∧ s.tdm.peer.heard = true ∧ s.tdm.silent = false ∧ s.tdm.peer.state = 5) ∧
    (∃ (s : State), (s.mode = .standby ∨ s.mode = .witnessOnly)) ∧
    (∃ (s : State), (s.mode = .ready ∨ s.mode = .witnessOnly) ∧ s.armed = true ∧ s.tandemed = true ∧
     s.tdm.joining = false) ∧
    (∃ (s : State), (s.mode = .ready ∨ s.mode = .witnessOnly) ∧ s.armed = true) ∧
    (∃ (s : State), s.armed = false) ∧
    (∃ (s : State), s.mode = .ready) ∧
    (∃ (s : State), (s.relayFollows = true ∨ s.mode = .active ∧ s.relayAllowed = true)) ∧
    (∃ (s : State), s.relayFollows = false ∧ (s.mode ≠ .active ∨ s.relayAllowed = false)) ∧
    (∃ (x : Nat) (s : State), x < s.sbx.nextSeq ∧ s.mram.sbxCleared.value < x ∧ x < 2 ^ 32 ∧
     (s.areaRecs SbxArea.clearLog).length + s.sbx.clears.length < 1024) ∧
    (∃ (sig : Word) (s : State), BitVec.toNat sig ≠ s.liveSig) ∧
    (∃ (sig : Word) (s : State), BitVec.toNat sig = s.liveSig) :=
  ⟨⟨3, relUp, by decide +kernel⟩,
   ⟨3, up .active [], by decide +kernel⟩,
   ⟨⟨0, 5, 9, [1, 0, 0, 0]⟩, by decide +kernel⟩,
   ⟨⟨1, 0, 0, [1, 0, 0, 0]⟩, by decide +kernel⟩,
   ⟨7, by decide +kernel⟩,
   ⟨up .active [], by decide +kernel⟩,
   ⟨pair .active (fun t => { t with peer := { heard := true, state := 5 } }), by decide +kernel⟩,
   ⟨pair .witnessOnly (fun t => { t with joining := true }), by decide +kernel⟩,
   ⟨armedUp .ready [.tdm], by decide +kernel⟩,
   ⟨armedUp .witnessOnly [], by decide +kernel⟩,
   ⟨up .ready [], by decide +kernel⟩,
   ⟨up .ready [], by decide +kernel⟩,
   ⟨pair .standby (fun t => { t with joined := true, peer := { heard := true, state := 4 } }), by decide +kernel⟩,
   ⟨up .active [], by decide +kernel⟩,
   ⟨3, { up .ready [] with sbx := { nextSeq := 4 } }, by decide +kernel⟩,
   ⟨0, up .ready [], by decide +kernel⟩,
   ⟨BitVec.ofNat 32 (up .ready []).liveSig, up .ready [], by decide +kernel⟩⟩

theorem test_PageStatesComplete_premises :
    (∃ (dt : Nat) (p : Page) (v : Word) (s : State), s.pageServed p = true ∧ s.pageState p = PageState.disabled ∧
     flg v 0 = true ∧
     ((s.elapse dt).wr p R.PAGE.CTRL v).cfgCrc p = (((s.elapse dt).wr p R.PAGE.CTRL v).wrn p R.PAGE.CFG_LIVE
        (((s.elapse dt).wr p R.PAGE.CTRL v).cfgCrc p)).rdn p R.PAGE.CFG_REF ∧
     (∀ (c : Fin 4),
        p = .can c → (((s.elapse dt).wr p R.PAGE.CTRL v).wrn p R.PAGE.CFG_LIVE (((s.elapse dt).wr p R.PAGE.CTRL
        v).cfgCrc p)).fltOk ↑c = true)) ∧
    (∃ (dt : Nat) (p : Page) (v : Word) (s : State), s.pageServed p = true ∧ s.pageState p = PageState.disabled ∧
     flg v 0 = true ∧
     ((s.elapse dt).wr p R.PAGE.CTRL v).cfgCrc p ≠ (((s.elapse dt).wr p R.PAGE.CTRL v).wrn p R.PAGE.CFG_LIVE
        (((s.elapse dt).wr p R.PAGE.CTRL v).cfgCrc p)).rdn p R.PAGE.CFG_REF) ∧
    (∃ (p : Page) (v : Word) (s : State), s.pageServed p = true ∧ s.pageState p ≠ PageState.disabled ∧
     flg v 0 = true) ∧
    (∃ (p : Page) (v : Word) (s : State), s.pageServed p = true ∧
     (s.pageState p = PageState.running ∨ s.pageState p = PageState.fault) ∧ flg v 0 = false) ∧
    (∃ (p : Page) (v : Word) (s : State), s.pageServed p = true ∧ s.pageState p = PageState.disabled ∧
     flg v 0 = false) ∧
    (∃ (dt : Nat) (p : Page) (s : State), s.mode.serves = true ∧ s.pageState p = PageState.enabling ∧
     s.startPending p = false ∧ ((if p = .est then (s.elapse dt).estStartShow else s.elapse dt).startOk p = true) ∧
     s.rdb p R.PAGE.CTRL 0 = true) ∧
    (∃ (dt : Nat) (p : Page) (s : State), s.mode.serves = true ∧ s.pageState p = PageState.enabling ∧
     s.startPending p = false ∧ ((if p = .est then (s.elapse dt).estStartShow else s.elapse dt).startOk p = false) ∧
     s.rdb p R.PAGE.CTRL 0 = true) ∧
    (∃ (p : Page) (s : State), s.mode.serves = true ∧ s.pageState p = PageState.disabling ∧
     (∀ (c : Fin 4), p = .can c → (s.canSt ↑c).attempt = none) ∧ s.rdb p R.PAGE.CTRL 0 = false) ∧
    (∃ (p : Page) (s : State), s.mode.serves = true ∧ s.pageState p = PageState.running) ∧
    (∃ (p : Page), p ≠ .irq) :=
  ⟨⟨0, .pwr, 1, (up .ready []).wrn .pwr R.PAGE.CFG_REF ((up .ready []).cfgCrc .pwr), by decide +kernel⟩,
   ⟨0, .pwr, 1, up .ready [], by decide +kernel⟩,
   ⟨.pwr, 1, up .ready [.pwr], by decide +kernel⟩,
   ⟨.pwr, 0, up .ready [.pwr], by decide +kernel⟩,
   ⟨.pwr, 0, up .ready [], by decide +kernel⟩,
   ⟨0, .pwr, ((up .ready []).setPage .pwr .enabling).wrb .pwr R.PAGE.CTRL 0 true, by decide +kernel⟩,
   ⟨0, .irq, (((up .ready []).setPage .irq .enabling).wrb .irq R.PAGE.CTRL 0 true).wrn .irq (R.IRQ.TGT_COAL 0) 0,
      by decide +kernel⟩,
   ⟨.can 1, (up .ready []).setPage (.can 1) .disabling, by decide +kernel⟩,
   ⟨.loop 3, up .active [.loop 3], by decide +kernel⟩,
   ⟨.sns 5, by decide +kernel⟩⟩

theorem test_WritesObeyTheAccessCode_premises :
    (∃ (c : Instr) (dt : Nat) (p : Page) (o : Nat) (v : Word) (s : State), writeOf c = some (dt, p, o, v) ∧
     s.pageServed p = true ∧ findRow p o = none) ∧
    (∃ (c : Instr) (dt : Nat) (p : Page) (o : Nat) (v : Word) (s : State) (r : RegRow),
     writeOf c = some (dt, p, o, v) ∧ s.pageServed p = true ∧ findRow p o = some r ∧ r.cf ≠ 0 ∧ ¬headerWrite o ∧
     s.pageState p = PageState.disabled ∧ o ≠ R.PAGE.CFG_REF ∧ p ≠ .mod ∧
     (∀ (k : Fin 4), p = .can k → o ≠ R.CAN.FLTW1) ∧ (∀ (n : Fin 16), p = .sns n → o ≠ R.SNS.CFG)) ∧
    (∃ (c : Instr) (dt : Nat) (p : Page) (v : Word) (s : State) (r : RegRow),
     writeOf c = some (dt, p, R.PAGE.CFG_REF, v) ∧ s.pageServed p = true ∧ findRow p R.PAGE.CFG_REF = some r ∧
     r.cf ≠ 0 ∧ ¬headerWrite R.PAGE.CFG_REF ∧ s.pageState p = PageState.disabled ∧ p ≠ .mod) ∧
    (∃ (c : Instr) (dt o : Nat) (v : Word) (s : State) (r : RegRow), writeOf c = some (dt, .mod, o, v) ∧
     s.pageServed .mod = true ∧ findRow .mod o = some r ∧ r.cf ≠ 0 ∧ ¬headerWrite o ∧
     s.pageState .mod = PageState.disabled) ∧
    (∃ (c : Instr) (dt : Nat) (v : Word) (s : State) (r : RegRow) (k : Fin 4),
     writeOf c = some (dt, .can k, R.CAN.FLTW1, v) ∧ s.pageServed (.can k) = true ∧
     findRow (.can k) R.CAN.FLTW1 = some r ∧ r.cf ≠ 0 ∧ s.pageState (.can k) = PageState.disabled) ∧
    (∃ (c : Instr) (dt : Nat) (v : Word) (s : State) (r : RegRow) (n : Fin 16),
     writeOf c = some (dt, .sns n, R.SNS.CFG, v) ∧ s.pageServed (.sns n) = true ∧
     findRow (.sns n) R.SNS.CFG = some r ∧ r.cf ≠ 0 ∧ s.pageState (.sns n) = PageState.disabled) ∧
    (∃ (c : Instr) (dt : Nat) (p : Page) (o : Nat) (v : Word) (s : State) (r : RegRow),
     writeOf c = some (dt, p, o, v) ∧ s.pageServed p = true ∧ findRow p o = some r ∧ r.cf ≠ 0 ∧ ¬headerWrite o ∧
     s.pageState p ≠ PageState.disabled ∧ p ≠ .irq) ∧
    (∃ (c : Instr) (dt : Nat) (p : Page) (v : Word) (s : State) (r : RegRow),
     writeOf c = some (dt, p, R.PAGE.FLAGS, v) ∧ s.pageServed p = true ∧ findRow p R.PAGE.FLAGS = some r ∧ p ≠ .irq) ∧
    (∃ (c : Instr) (dt : Nat) (p : Page) (v : Word) (s : State) (r : RegRow),
     writeOf c = some (dt, p, R.PAGE.FLAG_IE, v) ∧ s.pageServed p = true ∧ findRow p R.PAGE.FLAG_IE = some r) ∧
    (∃ (c : Instr) (dt : Nat) (p : Page) (o : Nat) (v : Word) (s : State) (r : RegRow),
     writeOf c = some (dt, p, o, v) ∧ s.pageServed p = true ∧ findRow p o = some r ∧ r.cf = 0 ∧ r.w1c ≠ 0 ∧
     ¬headerWrite o) ∧
    (∃ (c : Instr) (dt : Nat) (p : Page) (o : Nat) (v : Word) (s : State) (r : RegRow),
     writeOf c = some (dt, p, o, v) ∧ s.pageServed p = true ∧ findRow p o = some r ∧ r.cf = 0 ∧ r.w1c = 0 ∧
     r.rt + r.wo = 0 ∧ ¬headerWrite o) ∧
    (∃ (c : Instr) (dt : Nat) (p : Page) (o : Nat) (v : Word) (s : State) (r : RegRow),
     writeOf c = some (dt, p, o, v) ∧ s.pageServed p = true ∧ findRow p o = some r ∧ r.cf = 0 ∧ r.w1c = 0 ∧
     r.rt + r.wo ≠ 0 ∧ ¬headerWrite o) ∧
    (∃ (s : State), s.mode.serves = true ∧ s.fw.trial = false ∧
     (∃ p ∈ allPages, s.running p = true ∧ s.cfgCrc p ≠ s.rdn p R.PAGE.CFG_REF)) ∧
    (∃ (s : State), s.mode.serves = true ∧ s.fw.trial = false ∧ s.armed = true ∧
     s.liveSig ≠ s.rdn .cfgx R.CFGX.SIG_STORED) ∧
    (∃ (s : State), s.mode.serves = true ∧ s.armed = false ∧ limCrcOf s.prot.lim s.prot.str = s.mram.limCrc ∧
     (∀ p ∈ allPages, s.running p = true → s.cfgCrc p = s.rdn p R.PAGE.CFG_REF) ∧
     (∀ (c : Fin 4), s.running (.can c) = true → s.fltOk ↑c = true)) :=
  ⟨⟨.registerWrite 0 .pwr 0xFFC 1, 0, .pwr, 0xFFC, 1, up .ready [], by decide +kernel⟩,
   ⟨.configWrite 0 .sys R.SYS.CFG 0xFFFFFFFF, 0, .sys, R.SYS.CFG, 0xFFFFFFFF, up .ready [], row .sys R.SYS.CFG,
      by decide +kernel, by decide +kernel, by decide +kernel, by decide +kernel,
      (by unfold headerWrite; decide +kernel), by decide +kernel, by decide +kernel, by decide +kernel,
      by decide +kernel, by decide +kernel⟩,
   ⟨.configWrite 0 .sys R.PAGE.CFG_REF 3, 0, .sys, 3, up .ready [], row .sys R.PAGE.CFG_REF, by decide +kernel,
      by decide +kernel, by decide +kernel, by decide +kernel, (by unfold headerWrite; decide +kernel),
      by decide +kernel, by decide +kernel⟩,
   ⟨.configWrite 0 .mod (R.MOD.IN_CFG 0) 1, 0, R.MOD.IN_CFG 0, 1, up .ready [], row .mod (R.MOD.IN_CFG 0),
      by decide +kernel, by decide +kernel, by decide +kernel, by decide +kernel,
      (by unfold headerWrite; decide +kernel), by decide +kernel⟩,
   ⟨.configWrite 0 (.can 3) R.CAN.FLTW1 5, 0, 5, up .ready [], row (.can 3) R.CAN.FLTW1, 3, by decide +kernel⟩,
   ⟨.configWrite 0 (.sns 0) R.SNS.CFG 3, 0, 3, up .ready [], row (.sns 0) R.SNS.CFG, 0, by decide +kernel⟩,
   ⟨.configWrite 0 .sys R.SYS.CFG 3, 0, .sys, R.SYS.CFG, 3, up .ready [.sys], row .sys R.SYS.CFG, by decide +kernel,
      by decide +kernel, by decide +kernel, by decide +kernel, (by unfold headerWrite; decide +kernel),
      by decide +kernel, by decide +kernel⟩,
   ⟨.flagsClear 0 .sys R.PAGE.FLAGS 1, 0, .sys, 1, (up .ready []).wrn .sys R.PAGE.FLAGS 0x103,
      row .sys R.PAGE.FLAGS, by decide +kernel⟩,
   ⟨.registerWrite 0 .sys R.PAGE.FLAG_IE 1, 0, .sys, 1, (up .ready []).wrn .sys R.PAGE.FLAGS 0x103,
      row .sys R.PAGE.FLAG_IE, by decide +kernel⟩,
   ⟨.registerWrite 0 .est 0xF80 1, 0, .est, 0xF80, 1, (up .ready []).wrn .est 0xF80 3, row .est 0xF80,
      by decide +kernel, by decide +kernel, by decide +kernel, by decide +kernel, by decide +kernel,
      (by unfold headerWrite; decide +kernel)⟩,
   ⟨.registerWrite 0 .thm R.THM.TJ 1, 0, .thm, R.THM.TJ, 1, up .ready [], row .thm R.THM.TJ, by decide +kernel,
      by decide +kernel, by decide +kernel, by decide +kernel, by decide +kernel, by decide +kernel,
      (by unfold headerWrite; decide +kernel)⟩,
   ⟨.registerWrite 0 .thm R.THM.NSEL 1, 0, .thm, R.THM.NSEL, 1, up .ready [], row .thm R.THM.NSEL,
      by decide +kernel, by decide +kernel, by decide +kernel, by decide +kernel, by decide +kernel,
      by decide +kernel, (by unfold headerWrite; decide +kernel)⟩,
   ⟨up .active [.pwr], by decide +kernel⟩,
   ⟨(armedUp .active []).wrn .cfgx R.CFGX.SIG_STORED 1, by decide +kernel⟩,
   ⟨limUp (up .active []), by decide +kernel, by decide +kernel, (limUp_ok _), by decide +kernel, by decide +kernel⟩⟩

theorem test_HostAccessesComplete_premises :
    (∃ (s : State), s.portUp = true) ∧
    (∃ (s : State), s.portUp = false) ∧
    (∃ (p : Page) (o : Nat) (s : State), s.portUp = true ∧ o < 4096 ∧ o % 4 = 0 ∧ s.spiLocked (p.base + o) = false) ∧
    (∃ (dt : Nat) (p : Page) (o : Nat) (s : State) (w : Nat) (t : State), s.portUp = true ∧ o < 4096 ∧ o % 4 = 0 ∧
     (s.elapse dt).regRead p o = (w, t)) :=
  ⟨⟨up .ready [], by decide +kernel⟩,
   ⟨up .thermal [], by decide +kernel⟩,
   ⟨.thm, R.THM.NSEL, up .ready [], by decide +kernel⟩,
   ⟨0, .thm, R.THM.TJ, up .ready [], (((up .ready []).elapse 0).regRead .thm R.THM.TJ).1,
      (((up .ready []).elapse 0).regRead .thm R.THM.TJ).2, by decide +kernel⟩⟩

theorem test_LinkResetTouchesHostAndRingsOnly_premises :
    (∃ (s : State), s.portUp = false) ∧
    (∃ (s : State), s.portUp = true) :=
  ⟨⟨up .reset [], by decide +kernel⟩,
   ⟨up .active [.host, .rng], by decide +kernel⟩⟩

theorem test_SpiWriteFramesAreWhole_premises :
    (∃ (s : State), s.portUp = false) ∧
    (∃ (b : List Byte) (s : State), s.portUp = true ∧ byteAt b 0 = 2 ∧ 1 ≤ leAt b 5 2 ∧ leAt b 5 2 ≤ 1024 ∧
     b.length = 11 + 4 * leAt b 5 2 ∧ crc32c (List.take (7 + 4 * leAt b 5 2) b) = leAt b (7 + 4 * leAt b 5 2) 4) ∧
    (∃ (b : List Byte) (s : State), s.portUp = true ∧ byteAt b 0 = 2 ∧
     (b.length ≠ 11 + 4 * leAt b 5 2 ∨ leAt b 5 2 = 0 ∨ 1024 < leAt b 5 2)) ∧
    (∃ (b : List Byte) (s : State), s.portUp = true ∧ byteAt b 0 = 2 ∧ 1 ≤ leAt b 5 2 ∧ leAt b 5 2 ≤ 1024 ∧
     b.length = 11 + 4 * leAt b 5 2 ∧ crc32c (List.take (7 + 4 * leAt b 5 2) b) ≠ leAt b (7 + 4 * leAt b 5 2) 4) ∧
    (∃ (b : List Byte) (s : State), s.portUp = true ∧ byteAt b 0 ≠ 2 ∧ byteAt b 0 ≠ 3) :=
  ⟨⟨up .reset [], by decide +kernel⟩,
   ⟨spiWriteOne 0x40 7, up .ready [], by decide +kernel⟩,
   ⟨[2, 0, 0, 0, 0, 1, 0], up .ready [], by decide +kernel⟩,
   ⟨[2, 0, 0, 0, 0, 1, 0] ++ zeros 8, up .ready [], by decide +kernel⟩,
   ⟨[4], up .ready [], by decide +kernel⟩⟩

theorem test_RingsComplete_premises :
    (∃ (n : Fin 128) (hidx : Word) (ds : List Desc) (s : State), s.pageServed .rng = true ∧ s.running .rng = true ∧
     s.ringUsed ↑n = true ∧ (s.ring ↑n).stopped = false ∧ (↑n < 16 ∨ 112 ≤ ↑n ∧ ↑n ≠ 120 ∧ ↑n ≠ 121) ∧
     (BitVec.toNat hidx + 2 ^ 32 - (s.ring ↑n).midx) % 2 ^ 32 = (s.ring ↑n).descs.length + ds.length ∧
     (s.ring ↑n).descs.length + ds.length ≤ s.ringSize ↑n ∧ (∀ d ∈ (s.ring ↑n).descs ++ ds, descFault d = 0) ∧
     (∀ d ∈ ds, d.len ≤ ringMax ↑n)) ∧
    (∃ (n : Fin 128) (s : State), s.pageServed .rng = true ∧ s.ringUsed ↑n = true ∧ (s.ring ↑n).stopped = false) ∧
    (∃ (n : Fin 128) (hidx : Word) (d : Desc) (s : State), s.pageServed .rng = true ∧ s.running .rng = true ∧
     s.ringUsed ↑n = true ∧ (s.ring ↑n).stopped = false ∧ (↑n < 16 ∨ 112 ≤ ↑n ∧ ↑n ≠ 120 ∧ ↑n ≠ 121) ∧
     (s.ring ↑n).descs = [] ∧ (BitVec.toNat hidx + 2 ^ 32 - (s.ring ↑n).midx) % 2 ^ 32 = 1 ∧ descFault d ≠ 0 ∧
     d.len ≤ ringMax ↑n) ∧
    (∃ (n : Fin 128) (hidx : Word) (x : Option Desc) (s : State), s.pageServed .rng = true ∧ s.running .rng = true ∧
     s.ringUsed ↑n = true ∧ (s.ring ↑n).stopped = false ∧ (↑n < 16 ∨ 112 ≤ ↑n ∧ ↑n ≠ 120 ∧ ↑n ≠ 121) ∧
     (BitVec.toNat hidx + 2 ^ 32 - (s.ring ↑n).midx) % 2 ^ 32 = (s.ring ↑n).descs.length + 1 ∧
     (s.ring ↑n).descs.length + 1 ≤ s.ringSize ↑n ∧ s.rdb .rng R.RNG.ERR 7 = false ∧
     (∀ (d : Desc), x = some d → ringMax ↑n < d.len)) ∧
    (∃ (n : Fin 128) (s : State), s.pageServed .rng = true ∧ (s.ringUsed ↑n = false ∨ (s.ring ↑n).stopped = true)) ∧
    (∃ (n : Fin 128) (hidx : Word) (s : State), s.pageServed .rng = true ∧ s.running .rng = true ∧
     s.ringUsed ↑n = true ∧ (s.ring ↑n).stopped = false ∧
     s.ringSize ↑n < (BitVec.toNat hidx + 2 ^ 32 - (s.ring ↑n).midx) % 2 ^ 32 ∧ s.rdb .rng R.RNG.ERR 7 = false) ∧
    (∃ (n : Fin 128) (s : State), s.pageServed .rng = true ∧ (s.ring ↑n).stopped = true) ∧
    (∃ (n : Fin 128) (s : State), (s.ring ↑n).stopped = false) ∧
    (∃ (dt : Nat) (n : Fin 128) (s : State), ringIsMH ↑n = true ∧ s.ringServed ↑n = true ∧ (s.ring ↑n).descs = [] ∧
     s.rdf .rng (R.RNG.ATTR ↑n) 31 16 ≠ 0 ∧
     (s.ring ↑n).since + s.rdf .rng (R.RNG.ATTR ↑n) 31 16 * 1000000 < (s.elapse dt).mt ∧
     s.rdb .rng (R.RNG.DRAIN (↑n / 32)) (↑n % 32) = false) ∧
    (∃ (n : Nat) (s : State), n < 128 ∧ s.running .rng = true ∧ s.mode.serves = true ∧ (s.ring n).descs = []) ∧
    (∃ (n : Nat) (b : List Byte) (s : State) (d : Desc) (rest : List Desc), n < 128 ∧ s.ringServed n = true ∧
     (s.ring n).descs = d :: rest ∧ (∀ x ∈ rest, descFault x = 0) ∧ b.length ≤ d.len) :=
  ⟨⟨4, 1, [(desc 64 0 0 [])], ringUp, by decide +kernel, by decide +kernel, by decide +kernel, by decide +kernel,
     by decide +kernel, by decide +kernel, by decide +kernel,
     (by intro d h; cases List.mem_singleton.1 h; decide +kernel),
     (by intro d h; cases List.mem_singleton.1 h; exact desc_len)⟩,
   ⟨4, ringUp, by decide +kernel⟩,
   ⟨4, 1, descBad, ringUp, by decide +kernel, by decide +kernel, by decide +kernel, by decide +kernel,
      by decide +kernel, by decide +kernel, by decide +kernel, by decide +kernel,
      (Nat.le_trans (m := 65552) (by decide +kernel) (Nat.le_max_left _ _))⟩,
   ⟨4, 1, none, ringUp, by decide +kernel, by decide +kernel, by decide +kernel, by decide +kernel,
      by decide +kernel, by decide +kernel, by decide +kernel, by decide +kernel, (nofun)⟩,
   ⟨4, up .ready [.rng], by decide +kernel⟩,
   ⟨4, 9, ringUp, by decide +kernel⟩,
   ⟨4, { ringUp with rings := [(4, { hidx := 7, stopped := true, descs := [(desc 64 0 0 [])] })] },
      by decide +kernel⟩,
   ⟨4, ringUp, by decide +kernel⟩,
   ⟨1, 4, (timed 1000000 ringUp).wrf .rng (R.RNG.ATTR 4) 31 16 1, by decide +kernel⟩,
   ⟨4, ringUp, by decide +kernel⟩,
   ⟨4, [1], ringOne, desc 1 0 0 [], [], by decide +kernel⟩⟩

theorem test_TicksAndStepsComplete_premises :
    (∃ (s : State), s.mode.serves = true) ∧
    (∃ (s : State), s.mode.serves = false ∧ s.mode ≠ .reset) ∧
    (∃ (s : State), s.mode = .reset) ∧
    (∃ (s : State), s.mode.serves = true ∧ s.tb.deadline = false) ∧
    (∃ (s : State), (s.mode.serves = false ∨ s.tb.deadline = true)) ∧
    (∃ (s : State), s.mode.serves = true ∧ s.mode ≠ .witnessOnly ∧ s.fw.trial = false ∧ s.mt % 10000000 ≤ 20000 ∧
     1 ≤ s.stage ∧ s.stage < 2 ^ 64 ∧ s.latchStage ≠ s.stage) ∧
    (∃ (s : State), s.mode = .witnessOnly ∧ s.fw.trial = false ∧ s.mt % 10000000 ≤ 20000 ∧ 1 ≤ s.stage ∧
     s.latchStage ≠ s.stage) ∧
    (∃ (s : State), (s.mode.serves = false ∨ 20000 < s.mt % 10000000 ∨ s.stage = 0 ∨ s.latchStage = s.stage)) ∧
    (∃ (s : State) (d : StepDue), s.est.due = some d) ∧
    (∃ (s : State), s.est.due = none) ∧
    (∃ (l : Fin 32) (s : State), s.ost.testing.contains ↑l = false ∧
     (List.find? (fun k => decide (k.owner = ↑l)) (s.ost.checks ++ s.ost.again) = none) ∧ s.fw.trial = false) ∧
    (∃ (l : Fin 32) (s : State) (k : LaneCheck), s.ost.testing.contains ↑l = false ∧
     (List.find? (fun k => decide (k.owner = ↑l)) (s.ost.checks ++ s.ost.again) = some k) ∧ s.fw.trial = false) ∧
    (∃ (l : Fin 32) (s : State), s.ost.testing.contains ↑l = true ∧ s.fw.trial = false) ∧
    (∃ (s : State) (d : StepDue), s.est.ran = some d ∧ s.fw.trial = false ∧
     (s.running .est = true → ∀ c ∈ s.presentChans, s.laneHeld c = false)) ∧
    (∃ (s : State) (d : StepDue), s.est.ran = some d ∧ s.running .est = true ∧
     (∃ c ∈ s.presentChans, s.laneHeld c = true)) ∧
    (∃ (s : State), s.est.ran = none) :=
  ⟨⟨up .active [], by decide +kernel⟩,
   ⟨up .out [], by decide +kernel⟩,
   ⟨up .reset [], by decide +kernel⟩,
   ⟨timed 20100000 (up .active []), by decide +kernel⟩,
   ⟨up .out [], by decide +kernel⟩,
   ⟨up .active [], by decide +kernel⟩,
   ⟨up .witnessOnly [], by decide +kernel⟩,
   ⟨up .out [], by decide +kernel⟩,
   ⟨{ up .active [.est] with est := { due := some (stepOf 1 2) } }, stepOf 1 2, by decide +kernel⟩,
   ⟨up .active [.est], by decide +kernel⟩,
   ⟨3, up .active [.est], by decide +kernel⟩,
   ⟨3, { up .active [.est] with ost := { checks := [⟨3, 4, 0, 0⟩] } }, ⟨3, 4, 0, 0⟩, by decide +kernel⟩,
   ⟨3, { up .active [.est] with ost := { testing := [3] } }, by decide +kernel⟩,
   ⟨ending (stepOf 1 1), stepOf 1 1, by decide +kernel⟩,
   ⟨heldUp, stepOf 1 1, by decide +kernel⟩,
   ⟨up .active [.est], by decide +kernel⟩⟩

theorem test_ForecastsAndCalibrationComplete_premises :
    (∃ (s : State), s.running .est = true ∧ s.mt % 1000000000 = 0 ∧ 0 < s.mt) ∧
    (∃ (s : State), (s.running .est = false ∨ s.mt % 1000000000 ≠ 0 ∨ s.mt = 0)) ∧
    (∃ (s : State) (f : Nat), s.running .est = true ∧ s.est.fcRun = some f ∧ s.est.fcStage = some (100 * f + 99)) ∧
    (∃ (s : State), (s.running .est = false ∨ s.est.fcRun = none ∨ s.est.fcStage = none)) ∧
    (∃ (dt : Nat) (s : State), s.rdf .est R.EST.CAL_STAT 1 0 = 1 ∧
     s.rd64 .est R.EST.CAL_END_LO R.EST.CAL_END_HI ≤ (s.elapse dt).mt) ∧
    (∃ (dt : Nat) (s : State),
     (s.rdf .est R.EST.CAL_STAT 1 0 ≠ 1 ∨ (s.elapse dt).mt < s.rd64 .est R.EST.CAL_END_LO R.EST.CAL_END_HI)) :=
  ⟨⟨timed 1000000000 (up .active [.est]), by decide +kernel⟩,
   ⟨timed 1000000001 (up .active [.est]), by decide +kernel⟩,
   ⟨{ up .active [.est] with est := { fcRun := some 1, fcStage := some 199 } }, 1, by decide +kernel⟩,
   ⟨up .active [.est], by decide +kernel⟩,
   ⟨0, (up .active [.est]).wrf .est R.EST.CAL_STAT 1 0 1, by decide +kernel⟩,
   ⟨0, up .active [.est], by decide +kernel⟩⟩

theorem test_JournalAndParametersComplete_premises :
    (∃ (s : State) (r : Nat) (q : List Nat), s.jrn.queue = r :: q ∧ s.jrn.writing = none ∧ s.sys.pfwLow = false ∧
     r < 577 ∧ (s.jrnImage r).length = 64) ∧
    (∃ (s : State), (s.jrn.queue = [] ∨ s.jrn.writing ≠ none ∨ s.sys.pfwLow = true)) ∧
    (∃ (s : State) (r k : Nat) (b : List Byte), s.jrn.writing = some (r, k, b) ∧ k < 2) ∧
    (∃ (s : State), s.jrn.writing = none) ∧
    (∃ (s : State), s.pageServed .est = true) ∧
    (∃ (s : State), s.pageServed .est = false) ∧
    (∃ (s : State), s.pageServed .prot = true) ∧
    (∃ (s : State), s.pageServed .prot = false) :=
  ⟨⟨{ up .active [] with jrn := { img := [(576, zeros 64)], queue := [576] } }, 576, [], by decide +kernel⟩,
   ⟨up .active [], by decide +kernel⟩,
   ⟨{ up .active [] with jrn := { writing := some (3, 1, zeros 64) } }, 3, 1, zeros 64, by decide +kernel⟩,
   ⟨up .active [], by decide +kernel⟩,
   ⟨up .active [], by decide +kernel⟩,
   ⟨up .out [], by decide +kernel⟩,
   ⟨up .active [], by decide +kernel⟩,
   ⟨up .out [], by decide +kernel⟩⟩

theorem test_CoachesComplete_premises :
    (∃ (c : Instr) (dt : Nat) (n : Fin 16) (ok : Bool) (b : List Byte) (ty : Nat) (lens : List Nat) (s : State),
     coachOf c = some (dt, n, ok, b, ty, lens) ∧ s.snsLive n = false ∧ (ty ≠ 67 ∨ coachOk ok ty lens b = false)) ∧
    (∃ (c : Instr) (dt : Nat) (n : Fin 16) (ok : Bool) (b : List Byte) (ty : Nat) (lens : List Nat) (s : State),
     coachOf c = some (dt, n, ok, b, ty, lens) ∧ s.snsLive n = true ∧ coachOk ok ty lens b = false) ∧
    (∃ (n : Fin 16) (b : List Byte) (s : State), s.snsLive n = true ∧ coachOk true 67 [108] b = true ∧
     (byteAt b 1).testBit 2 = s.sys.strapB) ∧
    (∃ (n : Fin 16) (b : List Byte) (s : State), s.snsLive n = true ∧ coachOk true 67 [108] b = true ∧
     (byteAt b 1).testBit 2 ≠ s.sys.strapB) ∧
    (∃ (n : Fin 16) (b : List Byte) (s : State), s.snsLive n = false ∧ coachOk true 67 [108] b = true ∧
     (byteAt b 1).testBit 2 ≠ s.sys.strapB) ∧
    (∃ (dt : Nat) (n : Fin 16) (b : List Byte) (s : State) (p : Nat), s.snsLive n = true ∧
     (coachOk true 68 [if (byteAt b 1).testBit 0 = true then 404 else 276] b = true) ∧ leAt b 4 8 = s.tick ∧
     (s.elapse dt).mt ≤ s.tick * 500000 + 350000 ∧ p < 4 ∧ (s.pop n).testBit p = true ∧
     (byteAt (slice b (16 + (if (byteAt b 1).testBit 0 = true then 96 else 64) * p) (if (byteAt b 1).testBit 0 = true
        then 96 else 64)) 0 = 165) ∧
     (byteAt (slice b (16 + (if (byteAt b 1).testBit 0 = true then 96 else 64) * p) (if (byteAt b 1).testBit 0 = true
        then 96 else 64)) 1 = p) ∧
     (∀ y ∈ (s.sring ↑n).comps, y.pos ≠ p)) ∧
    (∃ (n : Fin 16) (b : List Byte) (s : State), s.snsLive n = true ∧ leAt b 4 8 ≠ s.tick ∧
     (coachOk true 68 [if (byteAt b 1).testBit 0 = true then 404 else 276] b = true)) ∧
    (∃ (n : Fin 16) (b : List Byte) (s : State),
       s.snsLive n = true ∧ coachOk true 76 [12] b = true ∧ byteAt b 1 < 4) ∧
    (∃ (n : Fin 16) (b : List Byte) (s : State),
       s.snsLive n = true ∧ coachOk true 76 [12] b = true ∧ 4 ≤ byteAt b 1) :=
  ⟨⟨.alertCoachReceived 0 0 true [], 0, 0, true, [], 0x4C, [12], up .ready [], (rfl), by decide +kernel,
     by decide +kernel⟩,
   ⟨.alertCoachReceived 0 0 true [], 0, 0, true, [], 0x4C, [12], sns .ready, (rfl), by decide +kernel,
      by decide +kernel⟩,
   ⟨0, cmdCoach, snsB .ready, by decide +kernel⟩,
   ⟨0, cmdCoach, sns .ready, by decide +kernel⟩,
   ⟨0, cmdCoach, up .ready [], by decide +kernel⟩,
   ⟨0, 0, dataCoach 40, sns .ready, 0, by decide +kernel⟩,
   ⟨0, dataCoach 39, sns .ready, by decide +kernel⟩,
   ⟨0, alertCoach 3, sns .ready, by decide +kernel⟩,
   ⟨0, alertCoach 4, sns .ready, by decide +kernel⟩⟩

theorem test_RingTimersComplete_premises :
    (∃ (dt : Nat) (n : Fin 16) (s : State), s.running (.sns n) = true ∧ s.mode.speaks = true ∧
     (bitsOf (fun p => (s.pop n).testBit p && !(s.sring ↑n).comps.any fun x => decide (x.pos = p)) 4 ≠ 0) ∧
     (s.sring ↑n).repeats < s.rdf (.sns n) R.SNS.CFG 19 16 ∧ s.tick * 500000 + 60000 ≤ (s.elapse dt).mt ∧
     (s.elapse dt).mt ≤ s.tick * 500000 + 300000 ∧
     ((s.sring ↑n).repeats = 0 ∨ (s.sring ↑n).lastRepeat + 50000 ≤ (s.elapse dt).mt)) ∧
    (∃ (dt : Nat) (n : Fin 16) (s : State),
     (s.running (.sns n) = false ∨ s.rdf (.sns n) R.SNS.CFG 19 16 ≤ (s.sring ↑n).repeats ∨ (s.elapse dt).mt < s.tick
        * 500000 + 60000 ∨ s.tick * 500000 + 300000 < (s.elapse dt).mt)) ∧
    (∃ (dt : Nat) (n : Fin 16) (s : State), s.running (.sns n) = true ∧ s.sys.strapB = true ∧
     15000 ≤ (s.elapse dt).mt % 500000 ∧ (s.elapse dt).mt % 500000 ≤ 25000 ∧
     ((s.sring ↑n).otherTick ≠ s.tick ∨ (s.sring ↑n).otherRun = 0)) ∧
    (∃ (dt : Nat) (n : Fin 16) (s : State),
     (s.running (.sns n) = false ∨ (s.elapse dt).mt % 500000 < 15000 ∨ 25000 < (s.elapse dt).mt % 500000)) ∧
    (∃ (dt : Nat) (n : Fin 16) (s : State), s.running (.sns n) = true ∧ 15000 ≤ (s.elapse dt).mt % 500000 ∧
     (s.elapse dt).mt % 500000 ≤ 25000 ∧ s.sys.strapB = false ∧ s.ringMode n = 3 ∧ 3 ≤ (s.sring ↑n).goodRun ∧
     (s.sring ↑n).otherTick + 3 ≤ s.tick) ∧
    (∃ (n : Fin 16) (s : State), s.running (.sns n) = true ∧ s.ringMode n = 2 ∧ (s.sring ↑n).splitNext = false) ∧
    (∃ (n : Fin 16) (s : State), (s.running (.sns n) = false ∨ s.ringMode n ≠ 2 ∨ (s.sring ↑n).splitNext = true)) ∧
    (∃ (n : Fin 16) (p : Fin 4) (s : State), s.running (.sns n) = true ∧ (s.pop n).testBit ↑p = true ∧
     s.feState n ↑p ≠ 5 ∧ s.rdf (.sns n) R.SNS.CFG 15 8 ≤ (s.fe ↑n ↑p).lost) ∧
    (∃ (n : Fin 16) (p : Fin 4) (s : State),
     (s.running (.sns n) = false ∨ s.feState n ↑p = 5 ∨ (s.fe ↑n ↑p).lost < s.rdf (.sns n) R.SNS.CFG 15 8)) ∧
    (∃ (n : Fin 16) (s : State), s.sys.strapB = true ∧ s.pageState (.sns n) = PageState.enabling ∧
     (s.sring ↑n).enTick + 19 ≤ s.tick ∧ ((s.sring ↑n).otherRun = 0 ∨ (s.sring ↑n).otherTick < (s.sring ↑n).enTick))
        :=
  ⟨⟨60000, 0, sns .active, by decide +kernel⟩,
   ⟨59999, 0, sns .active, by decide +kernel⟩,
   ⟨15000, 0, snsB .active, by decide +kernel⟩,
   ⟨0, 0, snsB .active, by decide +kernel⟩,
   ⟨15000, 0, (ringIs (sns .active) { goodRun := 3, otherTick := 37 }).wrf (.sns 0) R.SNS.RING 1 0 3,
      by decide +kernel⟩,
   ⟨0, (sns .active).wrf (.sns 0) R.SNS.RING 1 0 2, by decide +kernel⟩,
   ⟨0, sns .active, by decide +kernel⟩,
   ⟨0, 3, ringIs (feIs (sns .active) 3 2) { fe := [(3, { lost := 20 })] }, by decide +kernel⟩,
   ⟨0, 3, sns .active, by decide +kernel⟩,
   ⟨0, ringIs ((snsB .ready).setPage (.sns 0) .enabling) { enTick := 21 }, by decide +kernel⟩⟩

theorem test_ChallengesAndRelayedSenseComplete_premises :
    (∃ (dt : Nat) (n : Fin 16) (p : Fin 4) (s : State),
     ((s.feState n ↑p = 2 ∧ ∃ m,
        (s.fe ↑n ↑p).chal.lastPass = some m ∧ m + 86400000000000 ≤ (s.elapse dt).mt) ∨ (s.feState n ↑p = 3 ∨
        s.feState n ↑p = 4) ∧ (s.fe ↑n ↑p).chal.failMt + 600000000000 ≤ (s.elapse dt).mt)) ∧
    (∃ (n : Fin 16) (p : Fin 4) (s : State), (s.feState n ↑p < 2 ∨ s.feState n ↑p = 5)) ∧
    (∃ (dt : Nat) (n : Fin 16) (p : Fin 4) (s : State), 0 < (s.fe ↑n ↑p).chal.failed ∧
     (s.fe ↑n ↑p).chal.failed < 3 ∧ (s.fe ↑n ↑p).chal.openAt = none ∧
     (s.fe ↑n ↑p).chal.failMt + 10000000 ≤ (s.elapse dt).mt) ∧
    (∃ (dt : Nat) (n : Fin 16) (p : Fin 4) (s : State),
     ((s.fe ↑n ↑p).chal.failed = 0 ∨ 3 ≤ (s.fe ↑n ↑p).chal.failed ∨ (s.fe ↑n ↑p).chal.openAt ≠ none ∨ (s.elapse
        dt).mt < (s.fe ↑n ↑p).chal.failMt + 10000000)) ∧
    (∃ (n : Fin 16) (s : State), s.pageServed (.sns n) = true) ∧
    (∃ (n : Fin 16) (s : State), s.pageServed (.sns n) = true ∧ s.rdb (.sns n) R.SNS.RING 12 = true) ∧
    (∃ (n : Fin 16) (s : State), (s.pageServed (.sns n) = false ∨ s.rdb (.sns n) R.SNS.RING 12 = false)) ∧
    (∃ (n : Fin 16) (s : State), s.pageServed (.sns n) = false) ∧
    (∃ (dt : Nat) (f : TandemHead) (b : List Byte) (s x : State) (n : Fin 16),
     (s.elapse dt).takeFrame 7 f b = (true, x) ∧ ↑n = byteAt b 0 ∧ byteAt b 1 < 4 ∧ s.snsLive n = true ∧
     (s.pop n).testBit (byteAt b 1) = true ∧ leAt b 4 8 = s.tick ∧ (List.drop 20 b).length = byteAt b 2 ∧
     ((List.drop 20 b).length = 64 ∨ (List.drop 20 b).length = 96) ∧ leAt b 12 8 ≤ s.tick * 500000 + 350000 ∧
     (s.elapse dt).mt ≤ s.tick * 500000 + 480000 ∧ (∀ y ∈ (s.sring ↑n).comps, y.pos ≠ byteAt b 1)) ∧
    (∃ (dt : Nat) (f : TandemHead) (b : List Byte) (s x : State), (s.elapse dt).takeFrame 7 f b = (true, x) ∧
     leAt b 4 8 ≠ s.tick) ∧
    (∃ (dt : Nat) (f : TandemHead) (b : List Byte) (s x : State) (n : Fin 16),
     (s.elapse dt).takeFrame 12 f b = (true, x) ∧ b.length = 40 ∧ ↑n = byteAt b 0 ∧ byteAt b 1 < 4 ∧
     s.running (.sns n) = true ∧ (s.fe (↑n) (byteAt b 1)).chal.seenAt ≠ some (leAt b 4 8, leAt b 20 12) ∧
     byteAt b 2 = 1) ∧
    (∃ (dt : Nat) (f : TandemHead) (b : List Byte) (s x : State) (n : Fin 16),
     (s.elapse dt).takeFrame 12 f b = (true, x) ∧ b.length = 40 ∧ ↑n = byteAt b 0 ∧ byteAt b 1 < 4 ∧
     s.running (.sns n) = true ∧ (s.fe (↑n) (byteAt b 1)).chal.seenAt ≠ some (leAt b 4 8, leAt b 20 12) ∧
     byteAt b 2 = 3 ∧ byteAt b 3 = 3) :=
  ⟨⟨0, 0, 1, timed 600000000000 (feIs (sns .active) 1 4), by decide +kernel⟩,
   ⟨0, 1, feIs (sns .active) 1 5, by decide +kernel⟩,
   ⟨0, 0, 1, ringIs (sns .active) { fe := [(1, { chal := { failed := 2, failMt := 10000000 } })] },
      by decide +kernel⟩,
   ⟨0, 0, 1, ringIs (sns .active) { fe := [(1, { chal := { failed := 2, failMt := 10000001 } })] },
      by decide +kernel⟩,
   ⟨0, feIs (sns .active) 1 2, by decide +kernel⟩,
   ⟨0, (sns .active).wrb (.sns 0) R.SNS.RING 12 true, by decide +kernel⟩,
   ⟨0, sns .active, by decide +kernel⟩,
   ⟨0, sns .out, by decide +kernel⟩,
   ⟨480000, head (up .ready []) 7 1 (relayed 40), relayed 40, withTdm (sns .active),
      taken ((withTdm (sns .active)).elapse 480000) 7 (relayed 40), 0, (taken_of _ (by decide +kernel)),
      by decide +kernel, by decide +kernel, by decide +kernel, by decide +kernel, by decide +kernel,
      by decide +kernel, by decide +kernel, by decide +kernel, by decide +kernel, by decide +kernel⟩,
   ⟨0, head (up .ready []) 7 1 (relayed 39), relayed 39, withTdm (sns .active),
      taken ((withTdm (sns .active)).elapse 0) 7 (relayed 39), (taken_of _ (by decide +kernel)), by decide +kernel⟩,
   ⟨0, head (up .ready []) 12 1 (verdictOf 1 0), verdictOf 1 0, withTdm (sns .active),
      taken ((withTdm (sns .active)).elapse 0) 12 (verdictOf 1 0), 0, (taken_of _ (by decide +kernel)),
      by decide +kernel, by decide +kernel, by decide +kernel, by decide +kernel, by decide +kernel,
      by decide +kernel⟩,
   ⟨0, head (up .ready []) 12 1 (verdictOf 3 3), verdictOf 3 3, withTdm (sns .active),
      taken ((withTdm (sns .active)).elapse 0) 12 (verdictOf 3 3), 0, (taken_of _ (by decide +kernel)),
      by decide +kernel, by decide +kernel, by decide +kernel, by decide +kernel, by decide +kernel,
      by decide +kernel, by decide +kernel⟩⟩

theorem test_ClocksAndLocksComplete_premises :
    (∃ (s : State), s.running .mod = false) ∧
    (∃ (s : State), s.running .mod = true) ∧
    (∃ (s : State), s.running .mod = true) ∧
    (∃ (s : State), s.running .mod = false) ∧
    (∃ (n : Fin 12) (s : State), s.running .mod = true ∧ s.modEn ↑n = true) ∧
    (∃ (n : Fin 12) (s : State), (s.running .mod = false ∨ s.modEn ↑n = false)) ∧
    (∃ (s : State) (g : Nat), s.mode.serves = true ∧ s.running .mod = true ∧ g < 2 ∧
     sget false s.mod.locking g = true) ∧
    (∃ (dt : Nat) (f : TandemHead) (b : List Byte) (own : BitVec 68) (s x : State),
     (s.elapse dt).takeFrame 8 f b = (true, x) ∧ byteAt b 0 < 2 ∧ s.running .mod = true ∧ s.clockDriver = false ∧
     s.groupLocked (byteAt b 0) = false ∧ sget false s.mod.locking (byteAt b 0) = false ∧ leAt b 4 8 = s.tick ∧
     (lockOffsets (leAt b 12 8) own.toNat).length = 1) ∧
    (∃ (dt : Nat) (f : TandemHead) (b : List Byte) (own : BitVec 68) (s x : State),
     (s.elapse dt).takeFrame 8 f b = (true, x) ∧ byteAt b 0 < 2 ∧ s.running .mod = true ∧ s.clockDriver = false ∧
     s.groupLocked (byteAt b 0) = false ∧ sget false s.mod.locking (byteAt b 0) = false ∧ leAt b 4 8 = s.tick ∧
     (lockOffsets (leAt b 12 8) own.toNat).length ≠ 1 ∧
     sget 0 s.mod.tries (byteAt b 0) + 1 < s.rdf .mod R.MOD.CFG 7 0) ∧
    (∃ (dt : Nat) (f : TandemHead) (b : List Byte) (own : BitVec 68) (s x : State),
     (s.elapse dt).takeFrame 8 f b = (true, x) ∧ byteAt b 0 < 2 ∧ s.running .mod = true ∧ s.clockDriver = false ∧
     s.groupLocked (byteAt b 0) = false ∧ sget false s.mod.locking (byteAt b 0) = false ∧ leAt b 4 8 = s.tick ∧
     (lockOffsets (leAt b 12 8) own.toNat).length ≠ 1 ∧
     s.rdf .mod R.MOD.CFG 7 0 ≤ sget 0 s.mod.tries (byteAt b 0) + 1) :=
  ⟨⟨up .ready [], by decide +kernel⟩,
   ⟨modUp .ready, by decide +kernel⟩,
   ⟨modUp .ready, by decide +kernel⟩,
   ⟨up .ready [], by decide +kernel⟩,
   ⟨11, modUp .ready, by decide +kernel⟩,
   ⟨11, up .ready [.mod], by decide +kernel⟩,
   ⟨{ modUp .active with mod := { (modUp .active).mod with locking := [(1, true)] } }, 1, by decide +kernel⟩,
   ⟨0, head (up .ready []) 8 1 lockFrame, lockFrame, 8, foll, taken (foll.elapse 0) 8 lockFrame,
      (taken_of _ (by decide +kernel)), by decide +kernel, by decide +kernel, by decide +kernel, by decide +kernel,
      by decide +kernel, by decide +kernel, by decide +kernel⟩,
   ⟨0, head (up .ready []) 8 1 lockFrame, lockFrame, 0, foll, taken (foll.elapse 0) 8 lockFrame,
      (taken_of _ (by decide +kernel)), by decide +kernel, by decide +kernel, by decide +kernel, by decide +kernel,
      by decide +kernel, by decide +kernel, by decide +kernel, by decide +kernel⟩,
   ⟨0, head (up .ready []) 8 1 lockFrame, lockFrame, 0, { foll with mod := { foll.mod with tries := [(0, 19)] } },
      taken (({ foll with mod := { foll.mod with tries := [(0, 19)] } } : State).elapse 0) 8 lockFrame,
      (taken_of _ (by decide +kernel)), by decide +kernel, by decide +kernel, by decide +kernel, by decide +kernel,
      by decide +kernel, by decide +kernel, by decide +kernel, by decide +kernel⟩⟩

theorem test_FiltersAndEventWritesComplete_premises :
    (∃ (dt : Nat) (n : Fin 12) (s : State), s.running .mod = true ∧ s.modEn ↑n = true ∧
     499950 ≤ (s.elapse dt).mt % 500000) ∧
    (∃ (dt : Nat) (n : Fin 12) (s : State),
     (s.running .mod = false ∨ s.modEn ↑n = false ∨ (s.elapse dt).mt % 500000 < 499950)) ∧
    (∃ (dt : Nat) (n : Fin 12) (s : State), s.running .mod = true ∧ s.modEn ↑n = true ∧
     ((s.elapse dt).mt + 50) % 1600 ≤ 70 ∧ (s.modIn ↑n).fastBit < (s.elapse dt).fastBit) ∧
    (∃ (dt : Nat) (n : Fin 12) (s : State),
     (s.running .mod = false ∨ s.modEn ↑n = false ∨ 70 < ((s.elapse dt).mt + 50) % 1600 ∨ (s.elapse dt).fastBit ≤
        (s.modIn ↑n).fastBit)) ∧
    (∃ (c : Instr) (dt : Nat) (p : Page) (o : Nat) (v : Word) (s : State), eventWriteOf c = some (dt, p, o, v) ∧
     s.pageServed p = true ∧ s.acceptsEvents = true) ∧
    (∃ (c : Instr) (dt : Nat) (p : Page) (o : Nat) (v : Word) (s : State), eventWriteOf c = some (dt, p, o, v) ∧
     (s.pageServed p = false ∨ s.acceptsEvents = false)) :=
  ⟨⟨0, 0, timed 20499950 (modUp .active), by decide +kernel⟩,
   ⟨0, 0, modUp .active, by decide +kernel⟩,
   ⟨0, 0, timed 19999950 (modUp .active), by decide +kernel⟩,
   ⟨0, 0, up .active [], by decide +kernel⟩,
   ⟨.manSet 0, 0, .trip, R.TRIP.CMD, 0x100, up .active [], by decide +kernel⟩,
   ⟨.manSet 0, 0, .trip, R.TRIP.CMD, 0x100, up .ready [], by decide +kernel⟩⟩

theorem test_ControlAndPwmComplete_premises :
    (∃ (dt : Nat) (n : Fin 8) (x : ControlInputs) (s : State),
     ((((s.elapse dt).takeControl x).protEval.slot ↑n).mode ≠ 2 ∨ ((s.elapse dt).takeControl x).protEval.sampleDue ↑n
        = false)) ∧
    (∃ (dt : Nat) (n : Fin 8) (x : ControlInputs) (s : State),
     (((s.elapse dt).takeControl x).protEval.slot ↑n).mode = 2 ∧
     ((s.elapse dt).takeControl x).protEval.sampleDue ↑n = true) ∧
    (∃ (dt : Nat) (m : Fin 8) (c : Bool) (s : State),
     (((s.elapse dt).protEval.pair ↑m).forced = true ∨ c = true ∧ ((s.elapse dt).protEval.rdb .pwm (R.PWM.PAIR_CFG
        ↑m) 2 = false ∨ (s.elapse dt).protEval.rdb .pwm (R.PWM.PAIR_CFG ↑m) 3 = false) ∨ (s.elapse
        dt).protEval.atUpdate (↑m) c = false ∨ (s.elapse dt).protEval.mt ≤ ((s.elapse dt).protEval.pair ↑m).last)) ∧
    (∃ (dt : Nat) (m : Fin 8) (s : State) (ton since : Nat), ((s.elapse dt).protEval.pair ↑m).forced = false ∧
     ((s.elapse dt).protEval.pair ↑m).shadow = some (ton, since) ∧ since + 3 ≤ (s.elapse dt).protEval.mt ∧
     (s.elapse dt).protEval.atUpdate (↑m) false = true ∧
     ((s.elapse dt).protEval.pair ↑m).last < (s.elapse dt).protEval.mt) ∧
    (∃ (dt : Nat) (m : Fin 8) (s : State) (ton since : Nat), ((s.elapse dt).protEval.pair ↑m).forced = false ∧
     ((s.elapse dt).protEval.pair ↑m).shadow = some (ton, since) ∧ since + 3 ≤ (s.elapse dt).protEval.mt ∧
     (s.elapse dt).protEval.rdb .pwm (R.PWM.PAIR_CFG ↑m) 2 = true ∧
     (s.elapse dt).protEval.rdb .pwm (R.PWM.PAIR_CFG ↑m) 3 = true ∧ ((s.elapse dt).protEval.pair ↑m).live = true ∧
     (s.elapse dt).protEval.atUpdate (↑m) true = true ∧
     ((s.elapse dt).protEval.pair ↑m).last < (s.elapse dt).protEval.mt) ∧
    (∃ (dt : Nat) (m : Fin 8) (s : State), ((s.elapse dt).protEval.pair ↑m).forced = false ∧
     ((s.elapse dt).protEval.pair ↑m).live = false ∧ ((s.elapse dt).protEval.pair ↑m).shadow = none) ∧
    (∃ (s : State), s.mode.serves = true ∧ s.fw.trial = false ∧ s.mt % 1000000 ≤ 400 ∧
     s.loops.digestMs ≠ s.mt / 1000000) ∧
    (∃ (s : State), (s.mode.serves = false ∨ 400 < s.mt % 1000000 ∨ s.loops.digestMs = s.mt / 1000000)) :=
  ⟨⟨0, 7, ⟨[]⟩, up .active [.loop 7], by decide +kernel⟩,
   ⟨0, 7, ⟨[]⟩, slotUp, by decide +kernel⟩,
   ⟨0, 7, false, up .active [.pwm], by decide +kernel⟩,
   ⟨0, 7, pwmUp { forced := false, shadow := some (100, 19999997) }, 100, 19999997, by decide +kernel⟩,
   ⟨250, 7,
      ((pwmUp { forced := false, live := true, shadow := some (100, 19999997) }).wrb .pwm (R.PWM.PAIR_CFG 7) 2
      true).wrb .pwm (R.PWM.PAIR_CFG 7) 3 true, 100, 19999997, by decide +kernel⟩,
   ⟨0, 7, pwmUp { forced := false }, by decide +kernel⟩,
   ⟨up .active [], by decide +kernel⟩,
   ⟨up .out [], by decide +kernel⟩⟩

theorem test_PulsesAndStreamsComplete_premises :
    (∃ (dt : Nat) (k : Fin 4) (hi per : Nat) (s : State) (x : Nat), s.spinOn ↑k = true ∧ s.mode.serves = true ∧
     (s.elapse dt).spinX (↑k) hi per = (x, s.elapse dt) ∧ s.acceptsEvents = false) ∧
    (∃ (dt : Nat) (k : Fin 4) (hi per : Nat) (s : State) (x : Nat), s.spinOn ↑k = true ∧ s.mode.serves = true ∧
     (s.elapse dt).spinX (↑k) hi per = (x, s.elapse dt) ∧ s.acceptsEvents = true ∧ 8000 ≤ per ∧ per ≤ 800000000 ∧
     s.rdn .spt (R.SPT.SPIN_XMIN ↑k) ≤ x ∧ x ≤ s.rdn .spt (R.SPT.SPIN_XMAX ↑k) ∧ (s.spin ↑k).los = false) ∧
    (∃ (dt : Nat) (k : Fin 4) (hi per : Nat) (s : State) (x : Nat), s.spinOn ↑k = true ∧ s.mode.serves = true ∧
     (s.elapse dt).spinX (↑k) hi per = (x, s.elapse dt) ∧ s.acceptsEvents = true ∧
     (per < 8000 ∨ 800000000 < per ∨ x < s.rdn .spt (R.SPT.SPIN_XMIN ↑k) ∨ s.rdn .spt (R.SPT.SPIN_XMAX ↑k) < x)) ∧
    (∃ (k : Fin 4) (s : State), (s.spinOn ↑k = false ∨ s.mode.serves = false)) ∧
    (∃ (dt : Nat) (k : Fin 4) (s : State), s.spinOn ↑k = true ∧ s.acceptsEvents = true ∧
     (s.spin ↑k).edge + s.rdf .spt (R.SPT.SPIN_CFG ↑k) 31 16 * 800000 ≤ edgeStamp (s.elapse dt).mt) ∧
    (∃ (dt : Nat) (k : Fin 4) (s : State),
     (s.spinOn ↑k = false ∨ s.acceptsEvents = false ∨ edgeStamp (s.elapse dt).mt < (s.spin ↑k).edge + s.rdf .spt
        (R.SPT.SPIN_CFG ↑k) 31 16 * 800000)) ∧
    (∃ (k : Fin 8) (b : List Byte) (s : State), s.streamOn ↑k = true ∧ s.acceptsEvents = true ∧
     s.streamOk (↑k) b = true ∧ s.sys.pfwLow = false) ∧
    (∃ (k : Fin 8) (b : List Byte) (s : State), s.streamOn ↑k = true ∧ s.acceptsEvents = true ∧
     s.streamOk (↑k) b = true ∧ s.sys.pfwLow = true) ∧
    (∃ (k : Fin 8) (b : List Byte) (s : State), s.streamOn ↑k = true ∧ s.acceptsEvents = true ∧
     s.streamOk (↑k) b = false) ∧
    (∃ (k : Fin 8) (s : State), (s.streamOn ↑k = false ∨ s.acceptsEvents = false)) ∧
    (∃ (dt : Nat) (k : Fin 8) (s : State), s.streamOn ↑k = true ∧ s.acceptsEvents = true ∧
     (s.stream ↑k).los = false ∧
     (s.stream ↑k).lastMt + s.rdf .spt (R.SPT.STR_CFG ↑k) 31 16 * 1000000 ≤ (s.elapse dt).mt) ∧
    (∃ (dt : Nat) (k : Fin 8) (s : State),
     (s.streamOn ↑k = false ∨ s.acceptsEvents = false ∨ (s.stream ↑k).los = true ∨ (s.elapse dt).mt < (s.stream
        ↑k).lastMt + s.rdf .spt (R.SPT.STR_CFG ↑k) 31 16 * 1000000)) :=
  ⟨⟨0, 3, 50000000, 100000000, spinUp .ready, 32768, by decide +kernel⟩,
   ⟨0, 3, 5000000, 10000000, (spinUp .active).wrn .spt (R.SPT.SPIN_XMAX 3) 32768, 32768, by decide +kernel⟩,
   ⟨0, 3, 1000, 7999, spinUp .active, (((spinUp .active).elapse 0).spinX 3 1000 7999).1, by decide +kernel⟩,
   ⟨3, up .active [], by decide +kernel⟩,
   ⟨0, 3, timed 100000000 (spinUp .active), by decide +kernel⟩,
   ⟨0, 3, timed 99999999 (spinUp .active), by decide +kernel⟩,
   ⟨7, strmFrame, strmUp .active, by decide +kernel⟩,
   ⟨7, strmFrame, pfwLow (strmUp .active), by decide +kernel⟩,
   ⟨7, zeros 32, strmUp .active, by decide +kernel⟩,
   ⟨7, strmUp .ready, by decide +kernel⟩,
   ⟨0, 7, timed 10000000000 (strmUp .active), by decide +kernel⟩,
   ⟨0, 7, strmUp .ready, by decide +kernel⟩⟩

theorem test_BalancingAndCellThermalComplete_premises :
    (∃ (s : State), s.bal.zdue = none) ∧
    (∃ (s : State) (te : Nat), s.bal.zdue = some te) ∧
    (∃ (s : State), s.pageServed .bal = true) ∧
    (∃ (s : State), s.pageServed .bal = true) ∧
    (∃ (s : State), s.pageServed .bal = false) ∧
    (∃ (s : State), s.pageServed .cth = true) ∧
    (∃ (s : State), s.pageServed .cth = true) ∧
    (∃ (s : State), s.pageServed .cth = false) ∧
    (∃ (dt : Nat) (z : Fin 4) (s : State), s.running .cth = true ∧ s.rdb .cth (R.CTH.ZONE_RANGE ↑z) 31 = true ∧
     ↑z ∉ s.cth.stale ∧
     sget 0 s.cth.coolMt ↑z + s.rdf .cth (R.CTH.ZONE_COOL ↑z) 31 16 * 1000000000 ≤ (s.elapse dt).mt) ∧
    (∃ (dt : Nat) (z : Fin 4) (s : State),
     (s.running .cth = false ∨ s.rdb .cth (R.CTH.ZONE_RANGE ↑z) 31 = false ∨ ↑z ∈ s.cth.stale ∨ (s.elapse dt).mt <
        sget 0 s.cth.coolMt ↑z + s.rdf .cth (R.CTH.ZONE_COOL ↑z) 31 16 * 1000000000)) :=
  ⟨⟨up .active [], by decide +kernel⟩,
   ⟨{ up .active [.bal] with bal := { zdue := some 40 } }, 40, by decide +kernel⟩,
   ⟨{ up .active [.bal] with bal := { blocked := [511] } }, by decide +kernel⟩,
   ⟨{ up .active [.bal] with bal := { blocked := [511] } }, by decide +kernel⟩,
   ⟨up .out [.bal], by decide +kernel⟩,
   ⟨{ up .active [.cth] with cth := { chan := [(511, { s0 := { st := 2 }, s1 := { st := 2 } })] } },
      by decide +kernel⟩,
   ⟨up .active [.cth], by decide +kernel⟩,
   ⟨up .out [.cth], by decide +kernel⟩,
   ⟨0, 3, timed 60000000000 ((up .active [.cth]).wrb .cth (R.CTH.ZONE_RANGE 3) 31 true), by decide +kernel⟩,
   ⟨0, 3, up .active [.cth], by decide +kernel⟩⟩

theorem test_SafetyInputsComplete_premises :
    (∃ (dt : Nat) (k : Fin 8) (s : State),
     (∀ (w : TpWin), s.safe.win = some w → w.k ≠ ↑k ∨ (s.elapse dt).mt < w.tick * 500000 + 300000)) ∧
    (∃ (dt : Nat) (k : Fin 8) (s : State) (w : TpWin), s.safe.win = some w ∧ w.k = ↑k ∧
     w.tick * 500000 + 300000 ≤ (s.elapse dt).mt ∧ s.running .safe = true ∧ s.mode.serves = true ∧
     (s.elapse dt).windowVerified w = false) ∧
    (∃ (dt : Nat) (k : Fin 8) (s : State) (w : TpWin), s.safe.win = some w ∧ w.k = ↑k ∧
     w.tick * 500000 + 300000 ≤ (s.elapse dt).mt ∧ s.running .safe = true ∧ s.mode.serves = true ∧
     (s.elapse dt).windowVerified w = true ∧ s.safe.resetTick = none) ∧
    (∃ (s : State), s.running .safe = true ∧ s.safe.stuck = false ∧ 6001 ≤ s.safe.rstN) ∧
    (∃ (s : State), (s.running .safe = false ∨ s.safe.stuck = true ∨ s.safe.rstN < 6001)) ∧
    (∃ (s : State), s.safe.stuck = true ∧ 2000 ≤ s.safe.inact) ∧
    (∃ (s : State), (s.safe.stuck = false ∨ s.safe.inact < 2000)) :=
  ⟨⟨0, 7, up .active [.safe], by decide +kernel⟩,
   ⟨300000, 7, winUp .ready ⟨7, 40, 0, true, false, false⟩, ⟨7, 40, 0, true, false, false⟩, by decide +kernel⟩,
   ⟨300000, 7, winDone, ⟨7, 40, 0, true, false, false⟩, by decide +kernel⟩,
   ⟨{ up .active [.safe] with safe := { rstN := 6001 } }, by decide +kernel⟩,
   ⟨{ up .active [.safe] with safe := { rstN := 6000 } }, by decide +kernel⟩,
   ⟨{ up .active [.safe] with safe := { stuck := true, inact := 2000 } }, by decide +kernel⟩,
   ⟨{ up .active [.safe] with safe := { stuck := true, inact := 1999 } }, by decide +kernel⟩⟩

theorem test_EspitonFramesComplete_premises :
    (∃ (c : Instr) (dt : Nat) (src : NetSource) (a : BitVec 16) (f : List Byte) (s : State),
     espitonOf c = some (dt, src, a, f) ∧
     (s.running .slay = false ∨ s.mode ≠ .active ∨ s.tdm.fenced = true ∨ s.espConns src a.toNat = [])) ∧
    (∃ (c : Instr) (dt : Nat) (src : NetSource) (a : BitVec 16) (f : List Byte) (s : State),
     espitonOf c = some (dt, src, a, f) ∧ s.running .slay = true ∧ s.mode = .active ∧ s.tdm.fenced = false ∧
     s.espConns src a.toNat ≠ [] ∧
     (List.filter (fun k => decide (8 ≤ f.length) && decide (s.rdn .slay (R.SLAY.CON_ID k) = leAt f 4 4)) (typedConns
        s (s.espConns src a.toNat) f) = [])) ∧
    (
     ∃ (c : Instr) (dt : Nat) (src : NetSource) (a : BitVec 16) (f : List Byte) (s : State) (k : Nat) (r : List Nat),
     espitonOf c = some (dt, src, a, f) ∧
     (List.filter (fun k => decide (8 ≤ f.length) && decide (s.rdn .slay (R.SLAY.CON_ID k) = leAt f 4 4)) (typedConns
        s (s.espConns src a.toNat) f) = k :: r) ∧
     s.running .slay = true ∧ s.mode = .active ∧ s.tdm.fenced = false ∧
     (byteAt f 0 ≠ 1 ∨ (byteAt f 1 ≠ if s.connProd k = true then 2 else 1) ∨ (leAt f 2 2 ≠ if (if s.connProd k = true
        then 2 else 1) = 1 then s.connLen k else 0) ∨ f.length ≠ 20 + if (if s.connProd k = true then 2 else 1) = 1
        then s.connLen k else 0)) ∧
    (
     ∃ (c : Instr) (dt : Nat) (src : NetSource) (a : BitVec 16) (f : List Byte) (s : State) (k : Nat) (r : List Nat),
     espitonOf c = some (dt, src, a, f) ∧
     (List.filter (fun k => decide (8 ≤ f.length) && decide (s.rdn .slay (R.SLAY.CON_ID k) = leAt f 4 4)) (typedConns
        s (s.espConns src a.toNat) f) = k :: r) ∧
     s.running .slay = true ∧ s.mode = .active ∧ s.tdm.fenced = false ∧ byteAt f 0 = 1 ∧
     (byteAt f 1 = if s.connProd k = true then 2 else 1) ∧
     (leAt f 2 2 = if (if s.connProd k = true then 2 else 1) = 1 then s.connLen k else 0) ∧
     (f.length = 20 + if (if s.connProd k = true then 2 else 1) = 1 then s.connLen k else 0) ∧
     (leAt f (16 + if (if s.connProd k = true then 2 else 1) = 1 then s.connLen k else 0) 4 ≠ espCheck (leAt f 4 4)
        s.pairId (List.take (16 + if (if s.connProd k = true then 2 else 1) = 1 then s.connLen k else 0) f))) ∧
    (
     ∃ (c : Instr) (dt : Nat) (src : NetSource) (a : BitVec 16) (f : List Byte) (s : State) (k : Nat) (r : List Nat),
     espitonOf c = some (dt, src, a, f) ∧ s.running .slay = true ∧ s.mode = .active ∧ s.tdm.fenced = false ∧
     (List.filter (fun k => decide (8 ≤ f.length) && decide (s.rdn .slay (R.SLAY.CON_ID k) = leAt f 4 4)) (typedConns
        s (s.espConns src a.toNat) f) = k :: r) ∧
     s.connProd k = false ∧ byteAt f 0 = 1 ∧ byteAt f 1 = 1 ∧ leAt f 2 2 = s.connLen k ∧
     f.length = 20 + s.connLen k ∧
     leAt f (16 + s.connLen k) 4 = espCheck (leAt f 4 4) s.pairId (List.take (16 + s.connLen k) f) ∧
     mtExtend (leAt f 12 4) (s.elapse dt).mt ≤ ↑(s.elapse dt).mt ∧
     ↑(s.elapse dt).mt - mtExtend (leAt f 12 4) (s.elapse dt).mt ≤ ↑(s.rdf .slay (R.SLAY.CON_WD k) 15 0) * 1000000 ∧
     ((s.conn k).jst = 1 ∨ (s.conn k).jst = 2 ∧ signed 32 (unsign 32 (↑(leAt f 8 4) - ↑(s.conn k).jseq)) = 1 ∧ 1 ≤
        s.rdf .slay R.SLAY.CFG 7 0)) ∧
    (
     ∃ (c : Instr) (dt : Nat) (src : NetSource) (a : BitVec 16) (f : List Byte) (s : State) (k : Nat) (r : List Nat),
     espitonOf c = some (dt, src, a, f) ∧ s.running .slay = true ∧ s.mode = .active ∧ s.tdm.fenced = false ∧
     (List.filter (fun k => decide (8 ≤ f.length) && decide (s.rdn .slay (R.SLAY.CON_ID k) = leAt f 4 4)) (typedConns
        s (s.espConns src a.toNat) f) = k :: r) ∧
     s.connProd k = true ∧ byteAt f 0 = 1 ∧ byteAt f 1 = 2 ∧ leAt f 2 2 = 0 ∧ f.length = 20 ∧
     leAt f 16 4 = espCheck (leAt f 4 4) s.pairId (List.take 16 f) ∧ (s.conn k).jecho = none) ∧
    (∃ (k : Fin 8) (s : State), s.running .slay = true ∧ s.connEn ↑k = true ∧ s.mode = .active ∧
     s.tdm.fenced = false ∧ s.connProd ↑k = true ∧ s.rdb .slay (R.SLAY.CON_CFG ↑k) 7 = false) ∧
    (∃ (k : Fin 8) (s : State), s.running .slay = true ∧ s.connEn ↑k = true ∧ s.mode = .active ∧
     s.tdm.fenced = false ∧ s.connProd ↑k = false) ∧
    (∃ (k : Fin 8) (s : State),
     (s.running .slay = false ∨ s.connEn ↑k = false ∨ s.mode ≠ .active ∨ s.tdm.fenced = true)) :=
  ⟨⟨.espitonData 0 ⟨witSrc, 0⟩ [], 0, witSrc, 0, [], up .ready [.slay], by decide +kernel⟩,
   ⟨.espitonData 0 ⟨witSrc, 0⟩ [], 0, witSrc, 0, [], espUp false {}, by decide +kernel⟩,
   ⟨.espitonData 0 ⟨witSrc, 0⟩ (espFrame 1 1 20000000 15), 0, witSrc, 0, espFrame 1 1 20000000 15, espUp false {},
      2, [], by decide +kernel⟩,
   ⟨.espitonData 0 ⟨witSrc, 0⟩ ((espFrame 1 1 20000000 16).take 32 ++ zeros 4), 0, witSrc, 0,
      (espFrame 1 1 20000000 16).take 32 ++ zeros 4, espUp false {}, 2, [], by decide +kernel⟩,
   ⟨.espitonData 0 ⟨witSrc, 0⟩ (espFrame 1 8 20000000 16), 0, witSrc, 0, espFrame 1 8 20000000 16,
      espUp false { jst := 2, jseq := 7 }, 2, [], by decide +kernel⟩,
   ⟨.espitonEcho 0 ⟨witSrc, 0⟩ (espFrame 2 8 20000000 0), 0, witSrc, 0, espFrame 2 8 20000000 0, espUp true {}, 2,
      [], by decide +kernel⟩,
   ⟨2, espUp true { txData := 0xFFFFFFFF }, by decide +kernel⟩,
   ⟨2, espUp false { txEcho := 0xFFFFFFFF }, by decide +kernel⟩,
   ⟨3, espUp false {}, by decide +kernel⟩⟩

theorem test_WitnessAnswersComplete_premises :
    (∃ (c : Instr) (dt kind : Nat) (m : List Byte) (src : NetSource) (s : State),
     witRequestOf c = some (dt, kind, m, src) ∧ s.witServes src = false) ∧
    (∃ (c : Instr) (dt kind : Nat) (m : List Byte) (src : NetSource) (s : State),
     witRequestOf c = some (dt, kind, m, src) ∧ s.witServes src = true ∧ (s.elapse dt).witDrops kind m = true) ∧
    (
     ∃ (c : Instr) (dt kind : Nat) (m : List Byte) (src : NetSource) (s : State) (p : Nat) (key : List Byte) (w :
        WitPair) (k r : Nat),
     witRequestOf c = some (dt, kind, m, src) ∧ s.witServes src = true ∧ (s.elapse dt).witDrops kind m = false ∧
     s.witEntry (leAt m 8 8) = some p ∧ s.keyOf (s.rdf .wit R.WIT.CFG 2 0) = some key ∧
     (witTable kind (byteAt m 2 % 2 + 1) (leAt m 16 4) (s.elapse dt).mt s.wit.quiet (if byteAt m 2 % 2 = 1 then
        { s.witPair p with seqB := leAt m 24 8 } else { s.witPair p with seqA := leAt m 24 8 }) w k r)) ∧
    (∃ (dt : Nat) (b : List Byte) (s : State), (s.elapse dt).replyEntry 129 b = none) ∧
    (∃ (dt : Nat) (b : List Byte) (s : State), (s.elapse dt).replyEntry 130 b = none) ∧
    (∃ (dt : Nat) (b : List Byte) (s : State), (s.elapse dt).replyEntry 131 b = none) ∧
    (∃ (dt : Nat) (b : List Byte) (s : State) (n : Nat), (s.elapse dt).replyEntry 129 b = some n) ∧
    (∃ (dt : Nat) (b : List Byte) (s : State), (s.elapse dt).replyEntry 130 b = some s.tdm.widx ∧ s.mode = .active) ∧
    (∃ (dt : Nat) (b : List Byte) (s : State), (s.elapse dt).replyEntry 131 b = some s.tdm.widx ∧ byteAt b 3 = 1) ∧
    (∃ (dt : Nat) (b : List Byte) (s : State), (s.elapse dt).replyEntry 131 b = some s.tdm.widx ∧ s.mode = .active ∧
     s.tdm.fenced = false ∧ byteAt b 2 % 4 ≠ 0 ∧ byteAt b 2 % 4 ≠ b2n s.posB + 1) ∧
    (∃ (dt : Nat) (b : List Byte) (s : State), (s.elapse dt).replyEntry 131 b = some s.tdm.widx ∧
     s.mode = .standby ∧ s.tdm.silent = true ∧ byteAt b 3 = 3) :=
  ⟨⟨.witnessProbe 0 [] (.canxl 1), 0, 1, [], .canxl 1, witUp {}, by decide +kernel⟩,
   ⟨.witnessProbe 0 [] witSrc, 0, 1, [], witSrc, witUp {}, by decide +kernel⟩,
   ⟨.witnessAcquire 0 (witMsg 3 1 0 1 20000000 0) witSrc, 0, 3, witMsg 3 1 0 1 20000000 0, witSrc,
      witUp { pairs := [(0, { expiry := 20000000 })] }, 0, [7],
      { expiry := 40000000, seqB := 20000000, term := 1, holder := 2 }, 0x82, 0, by decide +kernel,
      by decide +kernel, by decide +kernel, by decide +kernel, by decide +kernel,
      (by unfold witTable; (iterate 8 right); exact ⟨by decide +kernel, by decide +kernel, by decide +kernel,
      by decide +kernel, by decide +kernel, rfl, rfl⟩)⟩,
   ⟨0, [], up .active [.tdm], by decide +kernel⟩,
   ⟨0, [], up .active [.tdm], by decide +kernel⟩,
   ⟨0, [], up .active [.tdm], by decide +kernel⟩,
   ⟨0, witMsg 129 0 0 3 5 0, askUp .active 1 id, 0, by decide +kernel⟩,
   ⟨0, witMsg 130 0 0 3 5 0, askUp .active 2 id, by decide +kernel⟩,
   ⟨0, witMsg 131 0 1 3 5 7, askUp .standby 3 id, by decide +kernel⟩,
   ⟨0, witMsg 131 2 4 3 5 7, askUp .active 2 id, by decide +kernel⟩,
   ⟨0, witMsg 131 0 3 3 5 7, askUp .standby 3 (fun t => { t with silent := true }), by decide +kernel⟩⟩

theorem test_WitnessTimersComplete_premises :
    (∃ (dt : Nat) (s : State) (key : List Byte), s.mode = .active ∧ s.tandemed = true ∧
     s.tdm.renewMt + 5000000 ≤ (s.elapse dt).mt ∧ s.keyOf (s.rdf .tdm R.TDM.WIT 2 0) = some key) ∧
    (∃ (dt : Nat) (s : State), (s.mode ≠ .active ∨ s.tandemed = false ∨ (s.elapse dt).mt < s.tdm.renewMt + 5000000)) ∧
    (∃ (dt : Nat) (s : State), s.mode = .active ∧ s.tandemed = true ∧ s.tdm.renewMt + 5000000 ≤ (s.elapse dt).mt ∧
     s.keyOf (s.rdf .tdm R.TDM.WIT 2 0) = none) ∧
    (∃ (dt : Nat) (s : State), s.mode = .standby ∧ s.tandemed = true ∧
     s.tdm.probeMt + s.rdf .tdm R.TDM.WIT 31 16 * 1000000 ≤ (s.elapse dt).mt) ∧
    (∃ (dt : Nat) (s : State) (key : List Byte), s.mode = .active ∧ s.tandemed = true ∧
     s.tdm.probeAllMt + 1000000000 ≤ (s.elapse dt).mt ∧ s.keyOf (s.rdf .tdm R.TDM.WIT 2 0) = some key) ∧
    (∃ (dt : Nat) (s : State), s.mode = .active ∧ (s.elapse dt).mt < s.tdm.probeAllMt + 1000000000) ∧
    (∃ (s : State), (s.mode.runsString = false ∨ s.tandemed = false)) ∧
    (∃ (dt : Nat) (s : State), s.wit.quietEnd ≤ (s.elapse dt).mt) ∧
    (∃ (dt : Nat) (s : State), (s.elapse dt).mt < s.wit.quietEnd) ∧
    (∃ (dt : Nat) (s : State), s.tdm.backoffUntil ≤ (s.elapse dt).mt ∧ s.tandemed = true) ∧
    (∃ (dt : Nat) (s : State), ((s.elapse dt).mt < s.tdm.backoffUntil ∨ s.tandemed = false)) ∧
    (∃ (dt : Nat) (s : State), s.tdm.viewEnd ≤ (s.elapse dt).mt) ∧
    (∃ (dt : Nat) (s : State), (s.elapse dt).mt < s.tdm.viewEnd) ∧
    (∃ (dt : Nat) (s : State), s.tandemed = true ∧ s.tdm.witLost = false ∧ s.mode = .active ∧
     s.tdm.lastGrant + 15000000 ≤ (s.elapse dt).mt) ∧
    (∃ (s : State), (s.tandemed = false ∨ s.tdm.witLost = true ∨ s.mode.runsString = false)) ∧
    (∃ (s : State), s.tandemed = true ∧ s.tdm.witLost = false ∧ s.mode = .standby ∧ 3 ≤ s.tdm.unanswered) ∧
    (∃ (dt : Nat) (n : Fin 4) (s : State), s.mode = .active ∧ s.tandemed = true ∧ ↑n < s.tdm.widx ∧
     s.tdm.widxProposed = s.tdm.widx ∧ (∃ x ∈ s.tdm.answering, x.1 = ↑n ∧ x.2 + 60000000000 ≤ (s.elapse dt).mt)) ∧
    (∃ (n : Fin 4) (s : State),
     (s.mode ≠ .active ∨ s.tandemed = false ∨ s.tdm.widx ≤ ↑n ∨ s.tdm.widxProposed ≠ s.tdm.widx)) :=
  ⟨⟨0, keyIn (up .active [.tdm]), [7], by decide +kernel⟩,
   ⟨0, up .ready [.tdm], by decide +kernel⟩,
   ⟨0, up .active [.tdm], by decide +kernel⟩,
   ⟨0, up .standby [.tdm], by decide +kernel⟩,
   ⟨0, timed 1000000000 (keyIn (up .active [.tdm])), [7], by decide +kernel⟩,
   ⟨0, up .active [.tdm], by decide +kernel⟩,
   ⟨up .ready [.tdm], by decide +kernel⟩,
   ⟨0, witUp { quiet := true, quietEnd := 20000000 }, by decide +kernel⟩,
   ⟨0, witUp { quiet := true, quietEnd := 20000001 }, by decide +kernel⟩,
   ⟨0, pair .active (fun t => { t with backoffUntil := 20000000 }), by decide +kernel⟩,
   ⟨0, pair .active (fun t => { t with backoffUntil := 20000001 }), by decide +kernel⟩,
   ⟨0, pair .active (fun t => { t with held := true, viewEnd := 20000000 }), by decide +kernel⟩,
   ⟨0, pair .active (fun t => { t with held := true, viewEnd := 20000001 }), by decide +kernel⟩,
   ⟨0, pair .active (fun t => { t with held := true, lastGrant := 5000000 }), by decide +kernel⟩,
   ⟨up .active [], by decide +kernel⟩,
   ⟨pair .standby (fun t => { t with unanswered := 3 }), by decide +kernel⟩,
   ⟨0, 1,
      timed 60000000000 (pair .active (fun t => { t with widx := 2, widxProposed := 2, answering := [(1, 0)] })),
      by decide +kernel⟩,
   ⟨1, pair .active (fun t => { t with widx := 1 }), by decide +kernel⟩⟩

theorem test_WaybillStagesComplete_premises :
    (∃ (s : State), (s.way.queue = [] ∨ s.running .way = false ∨ s.mode.runsString = false)) ∧
    (∃ (s : State) (r : StepRec) (q : List WayItem), s.way.queue = WayItem.step r :: q ∧ s.openSeg = none) ∧
    (∃ (s : State) (r : StepRec) (q : List WayItem) (g : Seg) (f : List Byte) (esc : Nat) (h : List (Nat × Hist)),
     s.running .way = true ∧ s.mode.runsString = true ∧ s.way.queue = WayItem.step r :: q ∧ s.openSeg = some g ∧
     s.wayFrame r = (f, esc, h) ∧ g.bytes + f.length ≤ 67108864 ∧ s.way.windows = []) ∧
    (∃ (s : State) (r : StepRec) (q : List WayItem) (g : Seg) (f : List Byte) (esc : Nat) (h : List (Nat × Hist)),
     s.running .way = true ∧ s.mode.runsString = true ∧ s.way.queue = WayItem.step r :: q ∧ s.openSeg = some g ∧
     s.wayFrame r = (f, esc, h) ∧ 67108864 < g.bytes + f.length) ∧
    (∃ (s : State) (g : Seg) (q : List WayItem) (k : Nat), s.running .way = true ∧ s.mode.runsString = true ∧
     s.way.queue = WayItem.opens g :: q ∧ k < 256 ∧ (∀ x ∈ s.way.segs, x.frozen = true → x.slot ≠ k) ∧
     s.way.windows = []) ∧
    (∃ (s : State), s.pageServed .way = true ∧ s.running .way = true) ∧
    (∃ (s : State), (s.pageServed .way = false ∨ s.running .way = false)) ∧
    (∃ (s : State), s.pageServed .way = true) ∧
    (∃ (s : State), s.pageServed .way = false) ∧
    (∃ (s : State) (n : Nat), s.way.post = some n ∧ (∀ i ∈ s.burstInputs, n ≤ (sget { } s.way.burst i).count)) ∧
    (∃ (s : State),
     (s.way.post = none ∨ ∃ n i, s.way.post = some n ∧ i ∈ s.burstInputs ∧ (sget { } s.way.burst i).count < n)) ∧
    (∃ (s : State) (k : Nat), s.way.held = true ∧ k < 256 ∧ (∀ x ∈ s.way.segs, x.frozen = true → x.slot ≠ k)) ∧
    (∃ (s : State), s.way.held = false) :=
  ⟨⟨up .active [.way], by decide +kernel⟩,
   ⟨wayUp { queue := [.step oneStep] }, oneStep, [], by decide +kernel⟩,
   ⟨wayUp { queue := [.step oneStep], segs := [seg0 512] }, oneStep, [], seg0 512,
      ((wayUp { queue := [.step oneStep], segs := [seg0 512] }).wayFrame oneStep).1,
      ((wayUp { queue := [.step oneStep], segs := [seg0 512] }).wayFrame oneStep).2.1,
      ((wayUp { queue := [.step oneStep], segs := [seg0 512] }).wayFrame oneStep).2.2, by decide +kernel⟩,
   ⟨wayUp { queue := [.step oneStep], segs := [seg0 67108864] }, oneStep, [], seg0 67108864,
      ((wayUp { queue := [.step oneStep], segs := [seg0 67108864] }).wayFrame oneStep).1,
      ((wayUp { queue := [.step oneStep], segs := [seg0 67108864] }).wayFrame oneStep).2.1,
      ((wayUp { queue := [.step oneStep], segs := [seg0 67108864] }).wayFrame oneStep).2.2, by decide +kernel⟩,
   ⟨wayUp { queue := [.opens (seg0 512)] }, seg0 512, [], 255, by decide +kernel⟩,
   ⟨up .active [.way], by decide +kernel⟩,
   ⟨up .active [], by decide +kernel⟩,
   ⟨wayUp { segs := [{ seg0 512 with isOpen := false, frozen := true }] }, by decide +kernel⟩,
   ⟨up .out [], by decide +kernel⟩,
   ⟨wayUp { post := some 0 }, 0, by decide +kernel⟩,
   ⟨wayUp {}, (.inl rfl)⟩,
   ⟨wayUp { held := true }, 255, by decide +kernel⟩,
   ⟨wayUp {}, by decide +kernel⟩⟩

theorem test_ExportsComplete_premises :
    (∃ (s : State), s.pageServed .way = true ∧ s.running .way = true ∧ s.way.host = none ∧
     (∃ g ∈ s.way.segs, g.num = s.rdn .way R.WAY.SEGARG)) ∧
    (∃ (s : State),
     (s.pageServed .way = false ∨ s.running .way = false ∨ s.way.host ≠ none ∨ ∀ g ∈ s.way.segs,
        g.num ≠ s.rdn .way R.WAY.SEGARG)) ∧
    (∃ (s : State) (x : WayExport), s.pageServed .way = true ∧ s.way.auto = some x) ∧
    (∃ (s : State) (x : WayExport), s.pageServed .way = true ∧ s.way.auto = none ∧ s.way.host = some x) ∧
    (∃ (s : State), (s.pageServed .way = false ∨ s.way.auto = none ∧ s.way.host = none)) ∧
    (∃ (s : State) (x : WayExport) (g : Seg) (d : Desc), s.way.auto = none ∧ s.way.host = some x ∧
     (List.find? (fun g => decide (g.num = x.num)) s.way.segs = some g) ∧ s.ringHead (112 + x.ring) = some d ∧
     List.take d.len (List.drop x.off g.stream) ≠ []) ∧
    (∃ (s : State), s.way.auto = none ∧ s.way.host = none) ∧
    (∃ (s : State), s.running .way = true ∧ s.rdb .way R.WAY.CFG 4 = true ∧ s.way.host = none ∧ s.way.auto = none ∧
     (∃ g ∈ s.way.segs, g.isOpen = false ∧ s.way.autoNext ≤ g.num)) ∧
    (∃ (s : State),
     (s.running .way = false ∨ s.rdb .way R.WAY.CFG 4 = false ∨ s.way.host ≠ none ∨ s.way.auto ≠ none ∨ ∀ g ∈
        s.way.segs, g.isOpen = true ∨ g.num < s.way.autoNext)) :=
  ⟨⟨wayUp { segs := [seg0 512] }, by decide +kernel⟩,
   ⟨wayUp {}, by decide +kernel⟩,
   ⟨wayUp { auto := some ⟨0, 0, 0⟩ }, ⟨0, 0, 0⟩, by decide +kernel⟩,
   ⟨wayUp { host := some ⟨0, 0, 0⟩ }, ⟨0, 0, 0⟩, by decide +kernel⟩,
   ⟨wayUp {}, by decide +kernel⟩,
   ⟨expUp, ⟨0, 0, 0⟩, seg0 512, desc 16 0 0 [], by decide +kernel⟩,
   ⟨wayUp {}, by decide +kernel⟩,
   ⟨(wayUp { segs := [{ seg0 512 with isOpen := false }] }).wrb .way R.WAY.CFG 4 true, by decide +kernel⟩,
   ⟨(wayUp { segs := [seg0 512] }).wrb .way R.WAY.CFG 4 true, by decide +kernel⟩⟩

theorem test_StrongboxWritesComplete_premises :
    (∃ (s : State) (cls : Nat), cls < 16 ∧ s.sbx.lockedQ.length < 16) ∧
    (∃ (s : State) (cls : Nat), cls < 16 ∧ 16 ≤ s.sbx.lockedQ.length) ∧
    (∃ (s : State) (cls : Nat), 16 ≤ cls ∧ s.sbx.rollQ.length < 48 ∧ 0 < s.sbx.tokens) ∧
    (∃ (s : State) (cls : Nat), 16 ≤ cls ∧ (48 ≤ s.sbx.rollQ.length ∨ s.sbx.tokens = 0)) ∧
    (∃ (s : State),
     (s.sbx.writing ≠ none ∨ s.sys.pfwLow = true ∨ s.mode = .reset ∨ s.sbx.thermal = none ∧ s.sbx.clears = [] ∧
        s.sbx.lockedQ = [] ∧ s.sbx.rollQ = [])) ∧
    (∃ (s : State) (r : RecReq) (q : List RecReq) (l : Nat), sbxIdle s ∧ s.sbx.clears = [] ∧
     s.sbx.lockedQ = r :: q ∧ s.roomIn SbxArea.lockedMain s.mram.sbxLockedHead r.lines = some l) ∧
    (∃ (s : State) (r : RecReq) (q : List RecReq) (l : Nat), sbxIdle s ∧ s.sbx.clears = [] ∧
     s.sbx.lockedQ = r :: q ∧ s.roomIn SbxArea.lockedMain s.mram.sbxLockedHead r.lines = none ∧
     s.roomIn SbxArea.reserve s.mram.sbxReserveHead r.lines = some l) ∧
    (∃ (s : State) (r : RecReq) (q : List RecReq), sbxIdle s ∧ s.sbx.clears = [] ∧ s.sbx.lockedQ = r :: q ∧
     s.roomIn SbxArea.lockedMain s.mram.sbxLockedHead r.lines = none ∧
     s.roomIn SbxArea.reserve s.mram.sbxReserveHead r.lines = none) ∧
    (∃ (s : State) (r : RecReq) (q : List RecReq), sbxIdle s ∧ s.sbx.clears = [] ∧ s.sbx.lockedQ = [] ∧
     s.sbx.rollQ = r :: q) ∧
    (∃ (s : State) (x k n : Nat) (q : List (Nat × Nat × Nat)), sbxIdle s ∧ s.sbx.clears = (x, k, n) :: q) ∧
    (∃ (s : State), s.sbx.writing = none) ∧
    (∃ (s : State) (r : SbxRec), s.sbx.writing = some r ∧ r.cls ≠ 8) ∧
    (∃ (s : State) (r : SbxRec), s.sbx.writing = some r ∧ r.cls = 8 ∧ s.sys.pfwLow = true) ∧
    (∃ (s : State) (r : SbxRec), s.sbx.writing = some r ∧ r.cls = 8 ∧ s.sys.pfwLow = false) :=
  ⟨⟨up .ready [], 15, by decide +kernel⟩,
   ⟨sbxUp (fun x => { x with lockedQ := List.replicate 16 (req 2) }), 15, by decide +kernel⟩,
   ⟨sbxUp (fun x => { x with tokens := 1 }), 16, by decide +kernel⟩,
   ⟨sbxUp (fun x => { x with tokens := 0 }), 16, by decide +kernel⟩,
   ⟨up .ready [], by decide +kernel⟩,
   ⟨{ sbxUp (fun x => { x with lockedQ := [req 2] }) with mram := { sbxLockedHead := 129023 } }, req 2, [], 129023,
      (by unfold sbxIdle; decide +kernel), by decide +kernel, by decide +kernel, by decide +kernel⟩,
   ⟨withRecs { sbxUp (fun x => { x with lockedQ := [req 2] }) with mram := { sbxLockedHead := 129024 } } [rec0
      .lockedMain 0 1 2 []], req 2, [], 0, (by unfold sbxIdle; decide +kernel), by decide +kernel,
      by decide +kernel, by decide +kernel, by decide +kernel⟩,
   ⟨withRecs
      { sbxUp (fun x => { x with lockedQ := [req 2] }) with mram := { sbxLockedHead := 129024, sbxReserveHead := 1024 } }
      [rec0 .lockedMain 0 1 2 [], rec0 .reserve 0 2 2 []], req 2, [], (by unfold sbxIdle; decide +kernel),
      by decide +kernel, by decide +kernel, by decide +kernel, by decide +kernel⟩,
   ⟨{ sbxUp (fun x => { x with rollQ := [req 16] }) with mram := { sbxRollHead := 393216 } }, req 16, [],
      (by unfold sbxIdle; decide +kernel), by decide +kernel, by decide +kernel, by decide +kernel⟩,
   ⟨sbxUp (fun x => { x with clears := [(9, 1, 5)] }), 9, 1, 5, [], (by unfold sbxIdle; decide +kernel),
      by decide +kernel⟩,
   ⟨up .ready [], by decide +kernel⟩,
   ⟨sbxUp (fun x => { x with writing := some (rec0 .lockedMain 0 1 2 []) }), rec0 .lockedMain 0 1 2 [],
      by decide +kernel⟩,
   ⟨pfwLow (sbxUp (fun x => { x with writing := some (rec0 .clearLog 0 1 8 (leBytes 4 9)) })),
      rec0 .clearLog 0 1 8 (leBytes 4 9), by decide +kernel⟩,
   ⟨sbxUp (fun x => { x with writing := some (rec0 .clearLog 0 1 8 (leBytes 4 9)) }),
      rec0 .clearLog 0 1 8 (leBytes 4 9), by decide +kernel⟩⟩

theorem test_StrongboxReadsComplete_premises :
    (∃ (s : State), s.sbx.cursorCmd = 0 ∧ (s.pageServed .sbx = true ∨ s.mode = .out)) ∧
    (∃ (s : State), (s.sbx.cursorCmd ≠ 0 ∨ s.pageServed .sbx = false ∧ s.mode ≠ .out)) ∧
    (∃ (s : State), s.sbx.cursorCmd = 0) ∧
    (∃ (s : State) (n : Nat) (r : SbxRec), s.sbx.cursorCmd ≠ 0 ∧
     (firstValid (s.sbxFrom (s.rdf .sbx R.SBX.CUR_FILT 1 0) (if s.sbx.cursorCmd = 1 then s.rdn .sbx R.SBX.CUR_ARG
        else match s.sbx.latched with | some x => x.seq + 1 | none => 0)) = (n, some r))) ∧
    (∃ (s : State) (n : Nat), s.sbx.cursorCmd ≠ 0 ∧
     (firstValid (s.sbxFrom (s.rdf .sbx R.SBX.CUR_FILT 1 0) (if s.sbx.cursorCmd = 1 then s.rdn .sbx R.SBX.CUR_ARG
        else match s.sbx.latched with | some x => x.seq + 1 | none => 0)) = (n, none))) ∧
    (∃ (s : State) (d : Desc) (n : Nat) (r : SbxRec), s.running .sbx = true ∧ s.ringHead s.expRing = some d ∧
     4100 ≤ d.len ∧ s.expNextRec = (n, some r) ∧ s.sbx.expBytes.length + r.bytes.length ≤ d.len) ∧
    (∃ (s : State) (d : Desc) (n : Nat) (r : SbxRec), s.running .sbx = true ∧ s.ringHead s.expRing = some d ∧
     4100 ≤ d.len ∧ s.expNextRec = (n, some r) ∧ d.len < s.sbx.expBytes.length + r.bytes.length) ∧
    (∃ (s : State) (d : Desc), s.running .sbx = true ∧ s.ringHead s.expRing = some d ∧ d.len < 4100) ∧
    (∃ (s : State), (s.running .sbx = false ∨ s.ringHead s.expRing = none)) ∧
    (∃ (s : State) (d : Desc), s.running .sbx = true ∧ s.sbx.expBytes ≠ [] ∧ s.expNextRec.2 = none ∧
     s.ringHead s.expRing = some d) ∧
    (∃ (s : State), (s.running .sbx = false ∨ s.sbx.expBytes = [] ∨ s.expNextRec.2 ≠ none)) :=
  ⟨⟨up .out [], by decide +kernel⟩,
   ⟨sbxUp (fun x => { x with cursorCmd := 2 }), by decide +kernel⟩,
   ⟨up .ready [], by decide +kernel⟩,
   ⟨withRecs (sbxUp (fun x => { x with cursorCmd := 2, latched := some (rec0 .lockedMain 0 1 2 []) })) [rec0
      .lockedMain 0 1 2 [], rec0 .rolling 0 2 16 []], 0, rec0 .rolling 0 2 16 [], by decide +kernel⟩,
   ⟨sbxUp (fun x => { x with cursorCmd := 1 }), 0, by decide +kernel⟩,
   ⟨withRecs (sbxExp 4100 id) [rec0 .lockedMain 0 1 2 []], (desc 4100 0 0 []), 0, rec0 .lockedMain 0 1 2 [],
      by decide +kernel⟩,
   ⟨withRecs (sbxExp 4100 (fun x => { x with expBytes := zeros 4090 })) [rec0 .lockedMain 0 1 2 []],
      (desc 4100 0 0 []), 0, rec0 .lockedMain 0 1 2 [], by decide +kernel⟩,
   ⟨sbxExp 4099 id, (desc 4099 0 0 []), by decide +kernel⟩,
   ⟨up .ready [], by decide +kernel⟩,
   ⟨sbxExp 4100 (fun x => { x with expBytes := [1] }), (desc 4100 0 0 []), by decide +kernel⟩,
   ⟨up .ready [], by decide +kernel⟩⟩

theorem test_CanFramesComplete_premises :
    (∃ (c : Fin 4) (s : State),
     (s.running (.can c) = false ∨ s.canJoined ↑c = false ∨ (s.canSt ↑c).attempt ≠ none ∨ s.rdf (.can c) R.CAN.CFG 1
        0 ≠ 0)) ∧
    (∃ (dt : Nat) (c : Fin 4) (s : State), s.running (.can c) = true ∧ s.canJoined ↑c = true ∧
     (s.canSt ↑c).attempt = none ∧ s.rdf (.can c) R.CAN.CFG 1 0 = 0 ∧
     ((s.elapse dt).canCheckAll ↑c).canHeads ↑c = []) ∧
    (∃ (dt : Nat) (c : Fin 4) (s : State), s.running (.can c) = true ∧ s.canJoined ↑c = true ∧
     (s.canSt ↑c).attempt = none ∧ s.rdf (.can c) R.CAN.CFG 1 0 = 0 ∧
     ((s.elapse dt).canCheckAll ↑c).canHeads ↑c ≠ []) ∧
    (∃ (c : Fin 4) (s : State), (s.canSt ↑c).attempt = none) ∧
    (∃ (c : Fin 4) (s : State) (a : CanAttempt) (f : Nat) (d : Desc), (s.canSt ↑c).attempt = some a ∧
     a.fifo = some f ∧ s.ringHead (canRing (↑c) f) = some d ∧ (s.canFifo (↑c) f).cancelPend = false) ∧
    (∃ (c : Fin 4) (o : CanOutcome) (s : State) (a : CanAttempt) (f : Nat) (d : Desc),
     (s.canSt ↑c).attempt = some a ∧ a.fifo = some f ∧ o ≠ CanOutcome.sent ∧ s.ringHead (canRing (↑c) f) = some d ∧
     (s.canFifo (↑c) f).cancelPend = false ∧ d.tflags % 2 = 0 ∧
     (s.rdf (.can c) R.CAN.CFG 31 24 = 0 ∨ (s.canFifo (↑c) f).attempts + 1 < s.rdf (.can c) R.CAN.CFG 31 24)) ∧
    (∃ (c : Fin 4) (o : CanOutcome) (s : State) (a : CanAttempt) (f : Nat) (d : Desc),
     (s.canSt ↑c).attempt = some a ∧ a.fifo = some f ∧ o ≠ CanOutcome.sent ∧ s.ringHead (canRing (↑c) f) = some d ∧
     (s.canFifo (↑c) f).cancelPend = false ∧
     (d.tflags % 2 = 1 ∨ s.rdf (.can c) R.CAN.CFG 31 24 ≠ 0 ∧ s.rdf (.can c) R.CAN.CFG 31 24 ≤ (s.canFifo (↑c)
        f).attempts + 1)) ∧
    (∃ (c : Fin 4) (s : State) (a : CanAttempt), (s.canSt ↑c).attempt = some a ∧ (s.canSt ↑c).off = false) ∧
    (∃ (c : Fin 4) (s : State), s.running (.can c) = true) ∧
    (∃ (c : Fin 4) (s : State), s.canJoined ↑c = false) ∧
    (∃ (c : Fin 4) (s : State), s.canJoined ↑c = true) ∧
    (∃ (c : Fin 4) (s : State), s.canJoined ↑c = true) ∧
    (∃ (dt : Nat) (c : Fin 4) (f : CanFrame) (erc : Byte) (s z : State), s.canJoined ↑c = true ∧
     s.canFmtOn (↑c) f.fmt = true ∧ s.running (.can c) = true ∧
     ((s.elapse dt).canErrors (↑c) (s.canSt ↑c).tec (BitVec.toNat erc) false).canConsume c f = some z) ∧
    (∃ (dt : Nat) (c : Fin 4) (f : CanFrame) (erc : Byte) (s : State), s.canJoined ↑c = true ∧
     s.canFmtOn (↑c) f.fmt = true ∧ s.running (.can c) = true ∧
     ((s.elapse dt).canErrors (↑c) (s.canSt ↑c).tec (BitVec.toNat erc) false).canConsume c f = none ∧
     s.fltQueue (↑c) f = none) ∧
    (∃ (dt : Nat) (c : Fin 4) (f : CanFrame) (sof : Word) (erc : Byte) (s : State) (q i : Nat),
     s.canJoined ↑c = true ∧ s.canFmtOn (↑c) f.fmt = true ∧ s.running (.can c) = true ∧
     ((s.elapse dt).canErrors (↑c) (s.canSt ↑c).tec (BitVec.toNat erc) false).canConsume c f = none ∧
     s.fltQueue (↑c) f = some (q, i) ∧
     canUsed ((s.canQueue (↑c) q).recs ++ [(canRecord f (BitVec.toNat sof) i, i)]) ≤ 8192 ∧
     s.canWindow (↑c) q = true) ∧
    (∃ (dt : Nat) (c : Fin 4) (f : CanFrame) (sof : Word) (erc : Byte) (s : State) (q i : Nat),
     s.canJoined ↑c = true ∧ s.canFmtOn (↑c) f.fmt = true ∧ s.running (.can c) = true ∧
     ((s.elapse dt).canErrors (↑c) (s.canSt ↑c).tec (BitVec.toNat erc) false).canConsume c f = none ∧
     s.fltQueue (↑c) f = some (q, i) ∧
     8192 < canUsed ((s.canQueue (↑c) q).recs ++ [(canRecord f (BitVec.toNat sof) i, i)])) ∧
    (∃ (c : Fin 4) (f : CanFrame) (s : State), s.canJoined ↑c = true ∧ s.canFmtOn (↑c) f.fmt = false) :=
  ⟨⟨3, up .ready [], by decide +kernel⟩,
   ⟨0, 3, canUp id, by decide +kernel⟩,
   ⟨0, 3, canFifoUp 0 id, by decide +kernel⟩,
   ⟨3, canUp id, by decide +kernel⟩,
   ⟨3, canFifoUp 0 canTry, ⟨some 1, canOwn0, 40⟩, 1, (desc 26 0 0 canBytes), by decide +kernel⟩,
   ⟨3, .arbLost, canFifoUp 0 canTry, ⟨some 1, canOwn0, 40⟩, 1, (desc 26 0 0 canBytes), by decide +kernel⟩,
   ⟨3, .ackError, canFifoUp 1 canTry, ⟨some 1, canOwn0, 40⟩, 1, (desc 26 1 0 canBytes), by decide +kernel⟩,
   ⟨3, canFifoUp 1 canTry, ⟨some 1, canOwn0, 40⟩, by decide +kernel⟩,
   ⟨3,
      { canUp (fun v => { v with resend := [(canOwn0, 20000000), (canOwn0, 20000001)] }) with sys := (up .active []).sys },
      by decide +kernel⟩,
   ⟨3, up .ready [], by decide +kernel⟩,
   ⟨3, canUp id, by decide +kernel⟩,
   ⟨3, canUp id, by decide +kernel⟩,
   ⟨0, 3, canFrameOf 4 20, 0, withSpt, (withSpt.canErrors 3 0 0 false).streamFrame 7 (zeros 20), by decide +kernel⟩,
   ⟨0, 3, canFrameOf 0 2, 0, (canUp id).wrb (.can 3) R.CAN.RXCFG 2 false, by decide +kernel⟩,
   ⟨0, 3, canFrameOf 0 2, 0, 0,
      (((canUp id).wrf (.can 3) R.CAN.RXCFG 24 16 0).wrf (.can 3) R.CAN.RXCFG 2 0 7).wrb (.can 3) R.CAN.RXCFG 11
      true, 3, 0x1FF, by decide +kernel⟩,
   ⟨0, 3, canFrameOf 0 2, 0, 0,
      ((canUp (fun v => { v with queue := [(3, { recs := [(zeros 8192, 0)] })] })).wrf (.can 3) R.CAN.RXCFG 24 16
      0).wrf (.can 3) R.CAN.RXCFG 2 0 7, 3, 0x1FF, by decide +kernel⟩,
   ⟨3, canFrameOf 4 2, canUp id, by decide +kernel⟩⟩

theorem test_CanHostCommandsComplete_premises :
    (∃ (c : Fin 4) (f : Fin 8) (s : State) (a : CanAttempt), s.pageServed (.can c) = true ∧ 0 < s.canPref ↑c ↑f ∧
     (s.canSt ↑c).attempt = some a ∧ a.fifo = some ↑f) ∧
    (∃ (c : Fin 4) (f : Fin 8) (s : State) (d : Desc), s.pageServed (.can c) = true ∧ 0 < s.canPref ↑c ↑f ∧
     (∀ (a : CanAttempt), (s.canSt ↑c).attempt = some a → a.fifo ≠ some ↑f) ∧ s.ringHead (canRing ↑c ↑f) = some d) ∧
    (∃ (c : Fin 4) (f : Fin 8) (s : State), (s.pageServed (.can c) = false ∨ s.canPref ↑c ↑f = 0)) ∧
    (∃ (c q : Fin 4) (s : State), s.pageServed (.can c) = true ∧ s.canWindow ↑c ↑q = true) ∧
    (∃ (c q : Fin 4) (s : State), (s.pageServed (.can c) = false ∨ s.canWindow ↑c ↑q = false)) ∧
    (∃ (c : Fin 4) (s : State), s.pageServed (.can c) = true) ∧
    (∃ (c : Fin 4) (s : State), s.pageServed (.can c) = false) ∧
    (∃ (c : Fin 4) (s : State), s.pageServed (.can c) = true ∧ s.pageState (.can c) = PageState.disabled) ∧
    (∃ (c : Fin 4) (s : State), s.pageServed (.can c) = true ∧ s.pageState (.can c) ≠ PageState.disabled) ∧
    (∃ (c : Fin 4) (s : State), s.pageServed (.can c) = false) ∧
    (∃ (c : Fin 4) (s : State), s.pageServed (.can c) = true ∧ (s.canSt ↑c).off = true) ∧
    (∃ (c : Fin 4) (s : State), s.canOn ↑c = true ∧ (s.canSt ↑c).off = true ∧
     ((s.canSt ↑c).recovering = true ∨ s.rdb (.can c) R.CAN.CFG 5 = true)) ∧
    (∃ (c : Fin 4) (s : State), s.canOn ↑c = true) ∧
    (∃ (c : Fin 4) (s : State), s.canOn ↑c = false) :=
  ⟨⟨3, 1, canFifoUp 0 canTry, ⟨some 1, canOwn0, 40⟩, by decide +kernel,
     (by unfold State.canPref; rw [if_pos (by decide +kernel)]; exact Nat.lt_min.2 ⟨Nat.succ_pos _,
     by decide +kernel⟩), by decide +kernel, by decide +kernel⟩,
   ⟨3, 1, canFifoUp 0 id, (desc 26 0 0 canBytes), by decide +kernel,
      (by unfold State.canPref; rw [if_pos (by decide +kernel)]; exact Nat.lt_min.2 ⟨Nat.succ_pos _,
      by decide +kernel⟩), by decide +kernel, by decide +kernel⟩,
   ⟨3, 1, canUp id, by decide +kernel⟩,
   ⟨3, 3,
      (canUp (fun v => { v with queue := [(3, { recs := [(zeros 24, 0), (zeros 25, 1)], locked := true })] })).wrb
      (.can 3) R.CAN.RXCFG 11 true, by decide +kernel⟩,
   ⟨3, 3, canUp id, by decide +kernel⟩,
   ⟨3, canUp (fun v => { v with queue := [(3, { recs := [(zeros 24, 0), (zeros 25, 1)] })] }), by decide +kernel⟩,
   ⟨3, up .out [], by decide +kernel⟩,
   ⟨3, up .ready [], by decide +kernel⟩,
   ⟨3, canUp id, by decide +kernel⟩,
   ⟨3, up .out [], by decide +kernel⟩,
   ⟨3, canUp (fun v => { v with off := true }), by decide +kernel⟩,
   ⟨3, canUp (fun v => { v with off := true, recovering := true }), by decide +kernel⟩,
   ⟨3, canUp (fun v => { v with integrating := true }), by decide +kernel⟩,
   ⟨3, up .ready [], by decide +kernel⟩⟩

theorem test_EthFramesComplete_premises :
    (∃ (p : Fin 4) (s : State),
     (s.mode.speaks = false ∨ s.running (.eth p) = false ∧ s.pageState (.eth p) ≠ PageState.disabling)) ∧
    (∃ (dt : Nat) (p : Fin 4) (s : State), s.mode.speaks = true ∧
     (s.running (.eth p) = true ∨ s.pageState (.eth p) = PageState.disabling) ∧
     ((ethNow s dt p).ethPort ↑p).up = false) ∧
    (
     ∃ (dt : Nat) (p : Fin 4) (s : State) (f : EthOwn) (t : Option (Nat × Nat)) (rest : List (EthOwn × Option (Nat ×
        Nat))),
     s.mode.speaks = true ∧ (s.running (.eth p) = true ∨ s.pageState (.eth p) = PageState.disabling) ∧
     ((ethNow s dt p).ethPort ↑p).up = true ∧ ((ethNow s dt p).ethPort ↑p).own = (f, t) :: rest) ∧
    (∃ (dt : Nat) (p : Fin 4) (s : State), s.mode.speaks = true ∧
     (s.running (.eth p) = true ∨ s.pageState (.eth p) = PageState.disabling) ∧
     ((ethNow s dt p).ethPort ↑p).up = true ∧ ((ethNow s dt p).ethPort ↑p).own = [] ∧
     (s.running (.eth p) = false ∨ (ethNow s dt p).ethPick ↑p = none)) ∧
    (∃ (dt : Nat) (p : Fin 4) (s : State) (q : Nat) (d : Desc), s.mode.speaks = true ∧
     (s.running (.eth p) = true ∨ s.pageState (.eth p) = PageState.disabling) ∧
     ((ethNow s dt p).ethPort ↑p).up = true ∧ ((ethNow s dt p).ethPort ↑p).own = [] ∧ s.running (.eth p) = true ∧
     (ethNow s dt p).ethPick ↑p = some (q, d) ∧ (ethNow s dt p).ethLate (↑p) q d = false ∧ byteAt d.data 2 = 0) ∧
    (∃ (dt : Nat) (p : Fin 4) (s : State) (q : Nat) (d : Desc), s.mode.speaks = true ∧
     (s.running (.eth p) = true ∨ s.pageState (.eth p) = PageState.disabling) ∧
     ((ethNow s dt p).ethPort ↑p).up = true ∧ ((ethNow s dt p).ethPort ↑p).own = [] ∧ s.running (.eth p) = true ∧
     (ethNow s dt p).ethPick ↑p = some (q, d) ∧ (ethNow s dt p).ethLate (↑p) q d = true ∧
     (byteAt d.data 2).testBit 2 = false) ∧
    (∃ (p : Fin 4) (s : State), (s.running (.eth p) = false ∨ s.mode.speaks = false ∨ (s.ethPort ↑p).up = false)) ∧
    (∃ (p : Fin 4) (f : EthFrame) (s : State), s.running (.eth p) = true ∧ s.mode.speaks = true ∧
     (s.ethPort ↑p).up = true ∧ f.fcsOk = false) ∧
    (∃ (p : Fin 4) (f : EthFrame) (s : State), s.running (.eth p) = true ∧ s.mode.speaks = true ∧
     (s.ethPort ↑p).up = true ∧ f.fcsOk = true ∧ etherType f.bytes = 34824 ∧
     beAt f.bytes (typeOffset f.bytes + 2) 2 = 1) ∧
    (∃ (p : Fin 4) (f : EthFrame) (s : State), s.running (.eth p) = true ∧ s.mode.speaks = true ∧
     (s.ethPort ↑p).up = true ∧ f.fcsOk = true ∧ etherType f.bytes ≠ 34824 ∧ s.prpPair (↑p / 2 * 2) = false ∧
     s.ethAccepts (↑p) f.bytes = false) ∧
    (∃ (p : Fin 4) (f : EthFrame) (s : State), s.running (.eth p) = true ∧ s.mode.speaks = true ∧
     (s.ethPort ↑p).up = true ∧ f.fcsOk = true ∧ etherType f.bytes ≠ 34824 ∧ s.prpPair (↑p / 2 * 2) = false ∧
     s.ethAccepts (↑p) f.bytes = true ∧ isPtp f.bytes = true ∧ s.timePort ↑p = true) ∧
    (∃ (dt : Nat) (p : Fin 4) (f : EthFrame) (s : State) (u : UdpIn) (z : State), s.running (.eth p) = true ∧
     s.mode.speaks = true ∧ (s.ethPort ↑p).up = true ∧ f.fcsOk = true ∧ etherType f.bytes ≠ 34824 ∧
     s.prpPair (↑p / 2 * 2) = false ∧ s.ethAccepts (↑p) f.bytes = true ∧
     (isPtp f.bytes = false ∨ s.timePort ↑p = false) ∧ parseUdp f.bytes = some u ∧
     (s.elapse dt).udpConsume p u = some z) ∧
    (∃ (dt : Nat) (p : Fin 4) (f : EthFrame) (fr : BitVec 16) (s : State), s.running (.eth p) = true ∧
     s.mode.speaks = true ∧ (s.ethPort ↑p).up = true ∧ f.fcsOk = true ∧ etherType f.bytes ≠ 34824 ∧
     s.prpPair (↑p / 2 * 2) = false ∧ s.ethAccepts (↑p) f.bytes = true ∧
     (isPtp f.bytes = false ∨ s.timePort ↑p = false) ∧ parseUdp f.bytes = none ∧ parseAsk f.bytes = none ∧
     framePcp f.bytes = none ∧
     (List.map List.length (sget [] (s.ethPort ↑p).queue (s.rdf (.eth p) R.ETH.RXCFG 17 16) ++ [leBytes 2 1 ++ zeros
        2 ++ leBytes 2 (((s.elapse dt).mt * 65536 + fr.toNat - s.rdn (.eth p) R.ETH.LAT_RX) % 65536) ++ zeros 2 ++
        leBytes 8 (((s.elapse dt).mt * 65536 + fr.toNat - s.rdn (.eth p) R.ETH.LAT_RX) / 65536) ++ f.bytes])).sum ≤
        32768 ∧
     s.ringHead (96 + 4 * ↑p + s.rdf (.eth p) R.ETH.RXCFG 17 16) = none) ∧
    (∃ (dt : Nat) (p : Fin 4) (f : EthFrame) (fr : BitVec 16) (s : State), s.running (.eth p) = true ∧
     s.mode.speaks = true ∧ (s.ethPort ↑p).up = true ∧ f.fcsOk = true ∧ etherType f.bytes ≠ 34824 ∧
     s.prpPair (↑p / 2 * 2) = false ∧ s.ethAccepts (↑p) f.bytes = true ∧
     (isPtp f.bytes = false ∨ s.timePort ↑p = false) ∧ parseUdp f.bytes = none ∧ parseAsk f.bytes = none ∧
     framePcp f.bytes = none ∧
     32768 < (List.map List.length (sget [] (s.ethPort ↑p).queue (s.rdf (.eth p) R.ETH.RXCFG 17 16) ++ [leBytes 2 1
        ++ zeros 2 ++ leBytes 2 (((s.elapse dt).mt * 65536 + fr.toNat - s.rdn (.eth p) R.ETH.LAT_RX) % 65536) ++
        zeros 2 ++ leBytes 8 (((s.elapse dt).mt * 65536 + fr.toNat - s.rdn (.eth p) R.ETH.LAT_RX) / 65536) ++
        f.bytes])).sum) :=
  ⟨⟨2, up .ready [], by decide +kernel⟩,
   ⟨0, 2, ethUp .active (fun v => { v with up := false }), by decide +kernel⟩,
   ⟨0, 2, ethUp .active (fun v => { v with own := [(.supervision 7, some (1, 10))] }), .supervision 7, some (1, 10),
      [], by decide +kernel⟩,
   ⟨0, 2, ethUp .active id, by decide +kernel⟩,
   ⟨0, 2, ethRing 0, 3, ethDesc 0, by decide +kernel⟩,
   ⟨0, 2, (ethRing 1).wrf (.eth 2) R.ETH.TXQ 7 0 8, 3, ethDesc 1, by decide +kernel⟩,
   ⟨2, up .ready [], by decide +kernel⟩,
   ⟨2, ⟨[], false⟩, ethUp .active id, by decide +kernel⟩,
   ⟨2, ethOk 34824 [0, 1], ethUp .active id, by decide +kernel⟩,
   ⟨2, ⟨2 :: zeros 59, true⟩, ethUp .active id, by decide +kernel⟩,
   ⟨2, ethOk 0x88F7 (zeros 44), (ethUp .active id).wrb .time R.TIME.CFG 22 true, by decide +kernel⟩,
   ⟨0, 2, udpFrame, udpUp, udpIn, (udpUp.udpConsume 2 udpIn).getD udpUp, by decide +kernel⟩,
   ⟨0, 2, ethOk 0x0806 (zeros 46), 5, (ethUp .active id).wrf (.eth 2) R.ETH.RXCFG 17 16 3, by decide +kernel⟩,
   ⟨0, 2, ethOk 0x0806 (zeros 46), 5,
      (ethUp .active (fun v => { v with queue := [(3, [zeros 32768])] })).wrf (.eth 2) R.ETH.RXCFG 17 16 3,
      by decide +kernel⟩⟩

theorem test_EthAddressesAndLinksComplete_premises :
    (∃ (p : Fin 4) (a : AskedAddr) (s : State) (mac : Nat),
       s.running (.eth p) = true ∧ s.askedMac (↑p) a = some mac) ∧
    (∃ (p : Fin 4) (a : AskedAddr) (s : State), (s.running (.eth p) = false ∨ s.askedMac (↑p) a = none)) ∧
    (∃ (dt : Nat) (s : State), s.ethActive = true ∧ s.eth.announce ≠ 0 ∧ s.eth.announceMt ≤ (s.elapse dt).mt) ∧
    (∃ (dt : Nat) (s : State), (s.ethActive = false ∨ s.eth.announce = 0 ∨ (s.elapse dt).mt < s.eth.announceMt)) ∧
    (∃ (dt : Nat) (p : Fin 4) (s : State), s.ethActive = true ∧ s.prpPair (↑p / 2 * 2) = true ∧
     s.running (ethPage (↑p / 2 * 2)) = true ∧ sget 0 s.eth.supMt (↑p / 2 * 2) + 2000000000 ≤ (s.elapse dt).mt) ∧
    (∃ (dt : Nat) (p : Fin 4) (s : State),
     (s.ethActive = false ∨ s.prpPair (↑p / 2 * 2) = false ∨ s.running (ethPage (↑p / 2 * 2)) = false ∨ (s.elapse
        dt).mt < sget 0 s.eth.supMt (↑p / 2 * 2) + 2000000000)) ∧
    (∃ (p : Fin 4) (up : Bool) (r : Fin 4) (s : State), s.running (.eth p) = true ∧
     (¬((s.ethPort ↑p).up = up ∧ (s.ethPort ↑p).rate = if up = true then ↑r else 0))) ∧
    (∃ (p : Fin 4) (up : Bool) (r : Fin 4) (s : State),
     (s.running (.eth p) = false ∨ (s.ethPort ↑p).up = up ∧ (s.ethPort ↑p).rate = if up = true then ↑r else 0)) :=
  ⟨⟨2, .ip4 0x0100000A, (ethUp .active id).wrn (.eth 2) R.ETH.IP4 0x0A000001,
     ((ethUp .active id).wrn (.eth 2) R.ETH.IP4 0x0A000001).modMac 2, by decide +kernel⟩,
   ⟨2, .ip6 1, ethUp .active id, by decide +kernel⟩,
   ⟨0, { ethUp .active id with eth := { announce := 1 } }, by decide +kernel⟩,
   ⟨0, ethUp .active id, by decide +kernel⟩,
   ⟨0, 3, timed 2000000000 ((ethUp .active id).wrb (.eth 2) R.ETH.CFG 5 true), by decide +kernel⟩,
   ⟨0, 3, ethUp .active id, by decide +kernel⟩,
   ⟨2, false, 3, ethUp .active id, by decide +kernel⟩,
   ⟨2, true, 3, ethUp .active id, by decide +kernel⟩⟩

theorem test_NetworkTimeCompletes_premises :
    (∃ (p : Fin 4) (s : State), (s.timeRx ↑p = false ∨ s.time.port ≠ ↑p)) ∧
    (∃ (p : Fin 4) (s : State), s.timeRx ↑p = true ∧ s.time.port = ↑p ∧ s.mode = .standby) ∧
    (∃ (p : Fin 4) (t1 t2 co : Int) (s : State), s.timeRx ↑p = true ∧ s.time.port = ↑p ∧ s.mode.isRole = false ∧
     s.rdn .time R.TIME.STEP * 65536 < (t2 - t1 - co - s.rdi (.eth p) R.ETH.ASYM - s.pathDelay).natAbs) ∧
    (∃ (p : Fin 4) (t1 t2 co : Int) (s : State), s.timeRx ↑p = true ∧ s.time.port = ↑p ∧ s.mode ≠ .standby ∧
     (s.mode.isRole = true ∨ (t2 - t1 - co - s.rdi (.eth p) R.ETH.ASYM - s.pathDelay).natAbs ≤ s.rdn .time
        R.TIME.STEP * 65536)) ∧
    (∃ (p : Fin 4) (s : State), s.timeRx ↑p = true ∧ s.time.port = ↑p ∧ s.mode ≠ .standby) ∧
    (∃ (p : Fin 4) (s : State), (s.timeRx ↑p = false ∨ s.time.port ≠ ↑p ∨ s.mode = .standby)) ∧
    (∃ (dt : Nat) (s : State), (s.time.st = 1 ∨ s.time.st = 2) ∧ s.profile ≠ 0 ∧
     s.time.lastSync + s.rdf .time R.TIME.HOLD 15 0 * 1000000 ≤ (s.elapse dt).mt) ∧
    (∃ (dt : Nat) (s : State),
     (s.time.st ≠ 1 ∧ s.time.st ≠ 2 ∨ s.profile = 0 ∨ (s.elapse dt).mt < s.time.lastSync + s.rdf .time R.TIME.HOLD 15
        0 * 1000000)) ∧
    (∃ (s : State), s.pageServed .time = true) ∧
    (∃ (s : State), s.pageServed .time = false) ∧
    (∃ (p : Fin 4) (a : PtpAnnounce) (s : State),
     (s.timeRx ↑p = false ∨ 255 ≤ a.steps.toNat ∨ BitVec.toNat a.domain ≠ if s.profile = 1 then s.rdf .time
        R.TIME.CFG 31 24 else 0)) ∧
    (∃ (p : Fin 4) (a : PtpAnnounce) (s : State), s.timeRx ↑p = true ∧ a.steps.toNat < 255 ∧
     (BitVec.toNat a.domain = if s.profile = 1 then s.rdf .time R.TIME.CFG 31 24 else 0)) ∧
    (∃ (s : State), s.profile ≠ 0 ∧ s.time.port < 4 ∧ s.txHeld = false ∧ s.running (ethPage s.time.port) = true) ∧
    (∃ (s : State), (s.profile = 0 ∨ s.time.port = 15 ∨ s.txHeld = true)) ∧
    (∃ (p : Fin 4) (s : State), s.timeTx ↑p = true ∧ s.ethActive = true ∧ s.running (.eth p) = true) ∧
    (∃ (p : Fin 4) (peer : Bool) (s : State),
     (s.timeTx ↑p = false ∨ s.ethActive = false ∨ peer ≠ decide (s.profile = 2))) ∧
    (∃ (dt : Nat) (p : Fin 4) (an : Bool) (s : State), s.timeTx ↑p = true ∧ s.ethActive = true ∧
     s.running (.eth p) = true ∧
     (sget 0 (if an = true then s.time.annMt else s.time.syncMt) ↑p + logInterval (if an = true then s.rdf .time
        R.TIME.TXPARAM 7 0 else s.rdf .time R.TIME.TXPARAM 15 8) ≤ (s.elapse dt).mt)) ∧
    (∃ (dt : Nat) (p : Fin 4) (an : Bool) (s : State),
     (s.timeTx ↑p = false ∨ s.ethActive = false ∨ (s.elapse dt).mt < sget 0 (if an = true then s.time.annMt else
        s.time.syncMt) ↑p + logInterval (if an = true then s.rdf .time R.TIME.TXPARAM 7 0 else s.rdf .time
        R.TIME.TXPARAM 15 8))) :=
  ⟨⟨2, timeUp .active 1 id, by decide +kernel⟩,
   ⟨2, timeUp .standby 1 (fun v => { v with port := 2 }), by decide +kernel⟩,
   ⟨2, 0, 65536000000000, 0, timeUp .ready 1 (fun v => { v with port := 2 }), by decide +kernel⟩,
   ⟨2, 0, 65536000000000, 0, timeUp .active 1 (fun v => { v with port := 2 }), by decide +kernel⟩,
   ⟨2, timeUp .active 2 (fun v => { v with port := 2 }), by decide +kernel⟩,
   ⟨2, timeUp .standby 2 (fun v => { v with port := 2 }), by decide +kernel⟩,
   ⟨0, timed 60000000000 (timeUp .active 2 (fun v => { v with st := 2, port := 2 })), by decide +kernel⟩,
   ⟨0, timeUp .active 2 id, by decide +kernel⟩,
   ⟨timeUp .active 2 id, by decide +kernel⟩,
   ⟨up .out [], by decide +kernel⟩,
   ⟨2, noFraction 255, timeUp .active 2 id, by decide +kernel⟩,
   ⟨2, noFraction 254, timeUp .active 2 id, by decide +kernel⟩,
   ⟨timeUp .active 2 (fun v => { v with port := 2 }), by decide +kernel⟩,
   ⟨timeUp .active 2 id, by decide +kernel⟩,
   ⟨2, timeUp .active 2 id, by decide +kernel⟩,
   ⟨2, false, timeUp .active 2 id, by decide +kernel⟩,
   ⟨0, 2, true, timed 10000000000 (timeUp .active 2 id), by decide +kernel⟩,
   ⟨0, 2, true, timeUp .standby 2 id, by decide +kernel⟩⟩

theorem test_SourcesAndRoutesComplete_premises :
    (∃ (n : Fin 256) (s : State) (u : Nat), ↑n < 197 ∧ s.isLevel ↑n = false ∧ s.irqServer (s.srcRoute ↑n) = some u) ∧
    (∃ (n : Fin 256) (l : Bool) (s : State), (197 ≤ ↑n ∨ s.isLevel ↑n = false ∧ l = false)) ∧
    (∃ (p : Page) (n : Fin 256), ↑n = 128 + p.index ∧ ↑n ≠ 132) ∧
    (∃ (n : Fin 256) (s : State), 186 ≤ ↑n ∧ ↑n ≤ 193 ∧ s.isLevel ↑n = true) ∧
    (∃ (i : Fin 8) (n : Nat) (s : State), n < fld (s.rd .irq (R.IRQ.EXT_CFG ↑i)) 15 8) ∧
    (∃ (i : Fin 8) (l : Bool) (n : Nat) (s : State), fld (s.rd .irq (R.IRQ.EXT_CFG ↑i)) 15 8 ≤ n ∧
     (flg (s.rd .irq (R.IRQ.EXT_CFG ↑i)) 0 = false ∨ flg (s.rd .irq (R.IRQ.EXT_CFG ↑i)) 1 = true ∧ (l ≠ flg (s.rd
        .irq (R.IRQ.EXT_CFG ↑i)) 2 ∨ sget false s.irq.ext ↑i = l))) ∧
    (∃ (i : Fin 8) (n : Nat) (s : State), fld (s.rd .irq (R.IRQ.EXT_CFG ↑i)) 15 8 ≤ n ∧
     flg (s.rd .irq (R.IRQ.EXT_CFG ↑i)) 0 = true ∧ flg (s.rd .irq (R.IRQ.EXT_CFG ↑i)) 1 = true ∧
     sget false s.irq.ext ↑i ≠ flg (s.rd .irq (R.IRQ.EXT_CFG ↑i)) 2) ∧
    (∃ (i : Fin 8) (n : Nat) (s : State), fld (s.rd .irq (R.IRQ.EXT_CFG ↑i)) 15 8 ≤ n ∧
     flg (s.rd .irq (R.IRQ.EXT_CFG ↑i)) 0 = true ∧ flg (s.rd .irq (R.IRQ.EXT_CFG ↑i)) 1 = false) ∧
    (∃ (dt : Nat) (k : Fin 6) (w : Word) (s : State), s.pageServed .irq = true ∧
     (s.rdb .irq (R.IRQ.TGT_PARK ↑k) 0 = flg w 0 ∨ ((s.elapse dt).wr .irq (R.IRQ.TGT_PARK ↑k) w).irqWaiting ↑k = []))
        ∧
    (∃ (dt : Nat) (k : Fin 6) (w : Word) (s : State) (u : Nat), s.pageServed .irq = true ∧
     s.rdb .irq (R.IRQ.TGT_PARK ↑k) 0 ≠ flg w 0 ∧ ((s.elapse dt).wr .irq (R.IRQ.TGT_PARK ↑k) w).irqWaiting ↑k ≠ [] ∧
     ((s.elapse dt).wr .irq (R.IRQ.TGT_PARK ↑k) w).irqServer ↑k = some u) ∧
    (∃ (n : Fin 256) (w : Word) (s : State), s.pageServed .irq = true ∧
     ((s.masked ↑n && !flg w 31 || s.srcRoute ↑n != fld w 18 16) = false ∨ (s.src ↑n).pend = false)) ∧
    (∃ (dt : Nat) (n : Fin 256) (w : Word) (s : State) (u : Nat), s.pageServed .irq = true ∧
     (s.masked ↑n && !flg w 31 || s.srcRoute ↑n != fld w 18 16) = true ∧ (s.src ↑n).pend = true ∧
     ((s.elapse dt).wr .irq (R.IRQ.SRC ↑n) w).irqServer (((s.elapse dt).wr .irq (R.IRQ.SRC ↑n) w).srcRoute ↑n) = some
        u) ∧
    (∃ (s : State), s.pageServed .irq = false) :=
  ⟨⟨4, irqUp id, 5, by decide +kernel⟩,
   ⟨197, true, irqUp id, by decide +kernel⟩,
   ⟨.eth 3, BitVec.toFin (BitVec.ofNat 8 (128 + Page.index (.eth 3))), by decide +kernel⟩,
   ⟨193, irqUp id, by decide +kernel⟩,
   ⟨7, 9, extUp 0, by decide +kernel⟩,
   ⟨7, true, 10, extUp 0, by decide +kernel⟩,
   ⟨7, 10, extUp 0x7, by decide +kernel⟩,
   ⟨7, 10, extUp 0x5, by decide +kernel⟩,
   ⟨0, 5, 1, irqUp id, by decide +kernel⟩,
   ⟨0, 5, 1,
      ((irqUp (fun v => { v with src := [(4, { pend := true })] })).wrf .irq (R.IRQ.TGT_CFG 5) 27 24 8).wrb .irq
      (R.IRQ.TGT_CFG 0) 31 true, 0, by decide +kernel⟩,
   ⟨4, 0x50000, irqUp id, by decide +kernel⟩,
   ⟨0, 4, 0x50000, (irqUp (fun v => { v with src := [(4, { pend := true })] })).wrb .irq (R.IRQ.SRC 4) 31 true, 5,
      by decide +kernel⟩,
   ⟨up .out [.irq], by decide +kernel⟩⟩

theorem test_TargetsDeliver_premises :
    (∃ (dt : Nat) (k : Fin 6) (s : State), (s.elapse dt).irqDue ↑k = false) ∧
    (∃ (dt : Nat) (k : Fin 6) (s : State), (s.elapse dt).irqDue ↑k = true) ∧
    (∃ (k : Fin 6) (n : Nat) (s : State), s.pageServed .irq = true ∧ s.irqOn = true ∧ n < 197 ∧
     (s.src n).latch = true ∧ (s.src n).tgt = ↑k ∧
     (∀ m < 197,
        (s.src m).latch = true → (s.src m).tgt = ↑k → s.rdf .irq (R.IRQ.SRC m) 10 8 < s.rdf .irq (R.IRQ.SRC n) 10 8 ∨
        s.rdf .irq (R.IRQ.SRC m) 10 8 = s.rdf .irq (R.IRQ.SRC n) 10 8 ∧ n ≤ m)) ∧
    (∃ (k : Fin 6) (s : State),
     (s.pageServed .irq = false ∨ s.irqOn = false ∨ ∀ m < 197, (s.src m).latch = false ∨ (s.src m).tgt ≠ ↑k)) ∧
    (∃ (k : Fin 6) (w : Word) (s : State), s.pageServed .irq = true ∧ (s.src (fld w 7 0)).insvc = true ∧
     (s.src (fld w 7 0)).tgt = ↑k) ∧
    (∃ (k : Fin 6) (w : Word) (s : State), s.pageServed .irq = true ∧
     ((s.src (fld w 7 0)).insvc = false ∨ (s.src (fld w 7 0)).tgt ≠ ↑k)) :=
  ⟨⟨0, 5, up .ready [], by decide +kernel⟩,
   ⟨0, 5, irqUp (fun v => { v with tgt := [(5, { events := 2047 })] }), by decide +kernel⟩,
   ⟨5, 4, irqUp (fun v => { v with src := [(4, { latch := true, tgt := 5 })] }), by decide +kernel⟩,
   ⟨5, irqUp id, by decide +kernel⟩,
   ⟨5, 4, irqUp (fun v => { v with src := [(4, { insvc := true, tgt := 5 })] }), by decide +kernel⟩,
   ⟨5, 4, irqUp id, by decide +kernel⟩⟩

theorem test_UploadsComplete_premises :
    (∃ (b : Bool) (s : State), s.pageServed .fwu = true ∧ s.fwuOn = true ∧
     (b2n b = s.fwu.run ∧ s.fwu.exhausted = false ∨ ∃ mt, s.fw.pending = some (b2n b, mt))) ∧
    (∃ (b : Bool) (s : State), s.pageServed .fwu = true ∧ s.fwuOn = true ∧
     (b2n b ≠ s.fwu.run ∨ s.fwu.exhausted = true) ∧ (∀ (mt : Nat), s.fw.pending ≠ some (b2n b, mt))) ∧
    (∃ (s : State), (s.pageServed .fwu = false ∨ s.fwuOn = false)) ∧
    (∃ (s : State), s.pageServed .fwu = true ∧ s.fwuOn = true ∧ s.fwu.upload = none) ∧
    (∃ (s : State) (k : Nat), s.pageServed .fwu = true ∧ s.fwuOn = true ∧ s.fwu.upload = some k) ∧
    (∃ (s : State) (v : FwSlot), s.fwu.waitA = some v) ∧
    (∃ (r : Fin 4) (s : State) (d : Desc), s.ringHead ↑r = some d ∧ d.tflags = 1) ∧
    (∃ (r : Fin 4) (s : State), (∀ (d : Desc), s.ringHead ↑r = some d → d.tflags ≠ 1)) ∧
    (∃ (s : State), s.pageServed .fwu = true ∧ s.fwuOn = true) :=
  ⟨⟨true, fwUp id id, by decide +kernel, by decide +kernel, (.inl (by decide +kernel))⟩,
   ⟨false, fwUp id id, by decide +kernel, by decide +kernel, by decide +kernel, (by intro mt; exact nofun)⟩,
   ⟨up .ready [], by decide +kernel⟩,
   ⟨fwUp id id, by decide +kernel⟩,
   ⟨fwUp (fun v => { v with upload := some 0 }) id, 0, by decide +kernel⟩,
   ⟨fwUp (fun v => { v with waitA := some { state := 1 } }) id, { state := 1 }, by decide +kernel⟩,
   ⟨2, chunkUp (desc 20 1 0 (chunkOf 4 0)) (fun v => { v with upload := some 0 }), (desc 20 1 0 (chunkOf 4 0)),
      by decide +kernel⟩,
   ⟨2, fwUp id id, by decide +kernel⟩,
   ⟨(fwUp (fun v => { v with upload := some 0 }) id).wrn .fwu R.FWU.WCRC (crc32c (zeros 4)), by decide +kernel⟩⟩

theorem test_ActivationAndTrialComplete_premises :
    (∃ (s : State), s.fw.pending = none) ∧
    (∃ (dt : Nat) (s : State) (k mt : Nat), s.fw.pending = some (k, mt) ∧ mt ≤ (s.elapse dt).mt ∧
     s.mode.serves = true ∧ (s.elapse dt).mayReboot = false ∧ s.fwu.deferred = none) ∧
    (∃ (dt : Nat) (s : State) (k mt : Nat), s.fw.pending = some (k, mt) ∧
     ((s.elapse dt).mt < mt ∨ s.mode.serves = false ∨ (s.elapse dt).mayReboot = true ∨ ∃ d,
        s.fwu.deferred = some d)) ∧
    (∃ (s : State) (k mt : Nat), s.fw.pending = some (k, mt) ∧ s.fwu.deferred = none) ∧
    (∃ (dt : Nat) (s : State) (k mt d : Nat), s.fw.pending = some (k, mt) ∧ s.fwu.deferred = some d ∧
     (s.elapse dt).mt < d + s.rdf .fwu R.FWU.CFG 7 0 * 3600000000000) ∧
    (∃ (dt : Nat) (s : State) (k mt d : Nat), s.fw.pending = some (k, mt) ∧ s.fwu.deferred = some d ∧
     d + s.rdf .fwu R.FWU.CFG 7 0 * 3600000000000 ≤ (s.elapse dt).mt) ∧
    (∃ (dt : Nat) (s : State), s.fw.trial = true ∧ s.mode.isRole = true ∧
     s.rdf .fwu R.FWU.CFG 15 8 * 60000000000 ≤ s.fw.trialNs + (s.elapse dt).inRoleNs) ∧
    (∃ (dt : Nat) (s : State),
     (s.fw.trial = false ∨ s.mode.isRole = false ∨ s.fw.trialNs + (s.elapse dt).inRoleNs < s.rdf .fwu R.FWU.CFG 15 8
        * 60000000000)) ∧
    (∃ (dt : Nat) (s : State), s.fw.trial = false ∧ (s.fw.slot s.fwu.run).state = 3 ∧
     s.fw.otp < (s.fw.slot s.fwu.run).sv ∧ s.sys.pfwLow = false ∧ s.mode.serves = true ∧
     s.rdf .fwu R.FWU.CFG 31 16 * 3600000000000 ≤ s.fw.roleNs + (s.elapse dt).inRoleNs) ∧
    (∃ (dt : Nat) (s : State),
     (s.fw.trial = true ∨ (s.fw.slot s.fwu.run).state ≠ 3 ∨ (s.fw.slot s.fwu.run).sv ≤ s.fw.otp ∨ s.sys.pfwLow = true
        ∨ s.mode.serves = false ∨ s.fw.roleNs + (s.elapse dt).inRoleNs < s.rdf .fwu R.FWU.CFG 31 16 * 3600000000000))
        :=
  ⟨⟨fwUp id id, by decide +kernel⟩,
   ⟨0, { fwUp id (fun v => { v with pending := some (0, 20000000) }) with sys := (pair .standby id).sys }, 0,
      20000000, by decide +kernel⟩,
   ⟨0, fwUp id (fun v => { v with pending := some (0, 20000000) }), 0, 20000000, by decide +kernel,
      (.inr (.inr (.inl (by decide +kernel))))⟩,
   ⟨fwUp id (fun v => { v with pending := some (0, 20000000) }), 0, 20000000, by decide +kernel⟩,
   ⟨0,
      (fwUp (fun v => { v with deferred := some 0 }) (fun v => { v with pending := some (0, 20000000) })).wrf .fwu
      R.FWU.CFG 7 0 1, 0, 20000000, 0, by decide +kernel⟩,
   ⟨0,
      (fwUp (fun v => { v with deferred := some 0 }) (fun v => { v with pending := some (0, 20000000) })).wrf .fwu
      R.FWU.CFG 7 0 0, 0, 20000000, 0, by decide +kernel⟩,
   ⟨0, { (fwUp id (fun v => { v with trial := true })).wrf .fwu R.FWU.CFG 15 8 0 with sys := (up .active []).sys },
      by decide +kernel⟩,
   ⟨0, fwUp id id, by decide +kernel⟩,
   ⟨0, (fwUp id (fun v => { v with b := { v.b with state := 3 } })).wrf .fwu R.FWU.CFG 31 16 0, by decide +kernel⟩,
   ⟨0, fwUp id id, by decide +kernel⟩⟩

theorem test_ThermalAndPowerComplete_premises :
    (∃ (s : State), s.mode.serves = false ∧ s.mode ≠ .out) ∧
    (∃ (s : State), s.mode.serves = true ∧ s.fw.trial = false) ∧
    (∃ (s : State), s.mode = .out ∧ s.fw.trial = false) ∧
    (∃ (s : State), s.mode.serves = false) ∧
    (∃ (s : State), s.mode.serves = true) ∧
    (∃ (s : State), s.pageServed .thm = true) ∧
    (∃ (s : State), s.pageServed .thm = false) :=
  ⟨⟨up .thermal [], by decide +kernel⟩,
   ⟨up .active [.thm], by decide +kernel⟩,
   ⟨up .out [], by decide +kernel⟩,
   ⟨up .out [], by decide +kernel⟩,
   ⟨up .active [.pwr], by decide +kernel⟩,
   ⟨up .active [.thm], by decide +kernel⟩,
   ⟨up .out [.thm], by decide +kernel⟩⟩

/-- Parameter set 7 in use, with a reference value. -/
def scrubUp (t : Bool) (v : Nat) : State :=
  let s := ((up .active [.est]).wrb .est R.EST.CFG 7 true).wrn .est (R.EST.PS_REF 7) v
  { s with mram := { s.mram with fw := { s.mram.fw with trial := t } } }
theorem scrubUp_crc (t : Bool) : (scrubUp t 1).psCrc 7 = (scrubUp t 0).psCrc 7 := by
  have h (v : Nat) : (scrubUp t v).est = (up .active [.est]).est := rfl
  simp only [State.psCrc, State.psBytes, h]
theorem scrubUp_differs (t : Bool) : ∃ v, (scrubUp t v).mode.serves = true ∧ (scrubUp t v).running .est = true ∧
    (∃ n ∈ (scrubUp t v).psUse, (scrubUp t v).psCrc n ≠ (scrubUp t v).rdn .est (R.EST.PS_REF n)) ∧
    (scrubUp t v).fw.trial = t := by
  have k (v : Nat) (hv : v = 0 ∨ v = 1) : (scrubUp t v).mode.serves = true ∧ (scrubUp t v).running .est = true ∧
      7 ∈ (scrubUp t v).psUse ∧ (scrubUp t v).rdn .est (R.EST.PS_REF 7) = v ∧ (scrubUp t v).fw.trial = t := by
    rcases hv with rfl | rfl <;> cases t <;> decide +kernel
  by_cases h : (scrubUp t 0).psCrc 7 = 0
  · obtain ⟨a, b, c, d, e⟩ := k 1 (.inr rfl)
    exact ⟨1, a, b, ⟨7, c, by rw [d, scrubUp_crc, h]; decide⟩, e⟩
  · obtain ⟨a, b, c, d, e⟩ := k 0 (.inl rfl)
    exact ⟨0, a, b, ⟨7, c, by rw [d]; exact h⟩, e⟩

theorem test_OutCausesEnterOut_scrub_premises (t : Bool) :
    ∃ s : State, s.mode.serves = true ∧ s.running .est = true ∧
      (∃ n ∈ s.psUse, s.psCrc n ≠ s.rdn .est (R.EST.PS_REF n)) ∧ s.fw.trial = t := by
  obtain ⟨v, h⟩ := scrubUp_differs t
  exact ⟨_, h⟩

theorem test_CommandsKeepTheirFootprint_premises : ∃ (c : Instr) (s t : State), exec c s = .next t :=
  ⟨.tokenRefill 0, State.reset, _, rfl⟩

/-- A module in ACTIVE that drives, with one command waiting. -/
def oneWaits : State := { up .active [] with pending := [.tokenRefill 0] }
def driving : State := { oneWaits with sys := { oneWaits.sys with driveEn := true } }

theorem test_RegistersKeepTheirForm_premises :
    (∃ s t : State, RegsWf s.regs ∧ step s = .next t) ∧
    (∃ (s : State) (p : Page) (o : Nat) (r : RegRow), RegsWf s.regs ∧ findRow p o = some r) :=
  have h : RegsWf State.reset.regs := ⟨List.Pairwise.nil, nofun⟩
  ⟨⟨State.reset, _, h, rfl⟩, ⟨State.reset, .sys, R.PAGE.FLAGS, row .sys R.PAGE.FLAGS, h, by decide +kernel⟩⟩

theorem test_OutputsStaySafe_premises : ∃ s t : State, DriveOk s ∧ OutputsOk s ∧ step s = .next t :=
  ⟨driving, _, fun _ => .inl rfl, nofun, rfl⟩

theorem test_ParameterMemoryKeepsItsForm_premises : ∃ s t : State, ParamMemoryOk s ∧ step s = .next t :=
  ⟨{ oneWaits with est := { oneWaits.est with ps := [(0x1FFFFF, 1)] } }, _, ⟨by decide +kernel, by
    rintro v (h | h | h) <;> cases h⟩, rfl⟩

theorem test_ResetMeetsTheInvariants_premises : ∃ (p : Page) (o : Nat) (r : RegRow), findRow p o = some r :=
  ⟨.sys, R.PAGE.FLAGS, row .sys R.PAGE.FLAGS, by decide +kernel⟩

theorem test_QueueAndWiresOnlyGrow_premises : ∃ (c : Instr) (s t : State), exec c s = .next t :=
  ⟨.tokenRefill 0, driving, _, rfl⟩

/-! ### The spec's worked examples, and vectors of the standards it names -/

/-- The state after a command, and the state itself where there is none. -/
def after (c : Instr) (s : State) : State :=
  match exec c s with
  | .next t => t
  | _ => s

/-- R36: the CRC of "123456789", of an empty region, and of the 32 zero bytes of the worked example. -/
theorem test_crc32c : crc32c ("123456789".toList.map (fun c => BitVec.ofNat 8 c.toNat)) = 0xE3069283 ∧ crc32c [] = 0 ∧
    crc32c (zeros 32) = 0x8A9136AA := by decide +kernel

/-- FIPS 180-4: the digest of "abc". RFC 4231, case 2. FIPS 197, C.3. -/
theorem test_sha256 : leNat (sha256 [0x61, 0x62, 0x63]).reverse =
    0xBA7816BF8F01CFEA414140DE5DAE2223B00361A396177A9CB410FF61F20015AD := by decide +kernel
theorem test_hmac256 : leNat (hmac256 [0x4A, 0x65, 0x66, 0x65]
      ("what do ya want for nothing?".toList.map (fun c => BitVec.ofNat 8 c.toNat))).reverse =
    0x5BDCC146BF60754E6A042426089575C75A003F089D2739839DEC58B964EC3843 := by decide +kernel
theorem test_aes256 : leNat (aesEnc ((List.range 32).map (BitVec.ofNat 8)) ((List.range 16).map (fun k => BitVec.ofNat 8 (17 * k)))).reverse =
    0x8EA2B7CA516745BFEAFC49904B496089 := by decide +kernel

/-- Chapter 4, decoding channel 178 (k = 2): the bytes of the compartment at the offsets the example names. -/
def chan178 : List Byte :=
  zeros 0x11 ++ [0x8C, 0xFF, 0x04] ++ zeros 0xF ++ [0x1E, 0x0B] ++ zeros 0x23 ++ [0x30, 0xFF, 0x60, 0x06] ++ zeros 20
theorem test_compartment : compVolt chan178 2 = 327564 ∧ compReadback chan178 2 = -1250 ∧ compTemp chan178 2 1 = some 1632 ∧
    compTemp chan178 2 0 = some (-208) := by decide +kernel

/-- Chapter 5, the charge of one stage: both integrators. -/
theorem test_stageCharge : stageCharge 16003 200000 0x8000 62500000 = 999996765137 ∧
    stageCharge 16007 200000 0 62480000 = 1000117360000 := by decide +kernel

/-- Chapter 14, one voltage value: r = −7 with k = 2 is 1, 1, 1, 0, 1, 0, and u = 3 with k = 1 is 1, 0, 1. -/
theorem test_riceCode : zigzag (-7) = 13 ∧ riceBits 2 13 = [true, true, true, false, true, false] ∧
    zigzag (-2) = 3 ∧ riceBits 1 3 = [true, false, true] := by decide +kernel

/-- Chapter 2, the stray write of the worked example: IGNORED reads 0x0001_0048 and FLAGS 0x0000_0002. -/
theorem test_strayWrite : let t := after (.configWrite 0 .way 0x48 4) (up .ready [.way])
    t.rdn .way R.PAGE.IGNORED = 0x10048 ∧ t.rdn .way R.PAGE.FLAGS = 2 ∧
    (after (.flagsClear 0 .way R.PAGE.FLAGS 2) t).rdn .way R.PAGE.IGNORED = 0 := by decide +kernel

/-- Chapter 17, the delay exchange: t1 = 0, t2 = 1,250, t3 = 101,144.25, t4 = 100,394.25 ns give 250 ns,
and the next offset is 1,000 ns. -/
theorem test_delayExchange :
    let s := (timeUp .active 1 (fun v => { v with port := 2 }))
    let t := after (.delayResp 0 2 0 (1250 * 65536) (101144 * 65536 + 16384) (100394 * 65536 + 16384)) s
    t.pathDelay = 250 * 65536 ∧ (after (.timeSync 0 2 0 (1250 * 65536) 0) t).time.offset = 1000 * 65536 := by
  decide +kernel

/-- Chapter 18, the worked example: with 96 and 145 latched for target 5, of priorities 3 and 5, a claim returns 145. -/
theorem test_irqClaim :
    let s := (irqUp (fun v => { v with src := [(96, { latch := true, tgt := 5 }), (145, { latch := true, tgt := 5 })] }))
    let s := (s.wrf .irq (R.IRQ.SRC 96) 10 8 3).wrf .irq (R.IRQ.SRC 145) 10 8 5
    (after (.irqClaim 0 5) s).sent.head? = some (Msg.read (Page.irq.base + R.IRQ.TGT_CLAIM 5) (2 ^ 31 + 145)) := by decide +kernel

/-- Chapter 15, the walk of the locked partition: after record 415, with 430 damaged, NEXT latches 431 and sets SKIP. -/
theorem test_cursorSkips :
    let r := rec0 .lockedMain 7 415 1 []
    let s := withRecs (sbxUp (fun x => { x with cursorCmd := 2, latched := some r }))
      [r, { rec0 .lockedMain 8 430 3 [] with valid := false }, rec0 .lockedMain 11 431 3 []]
    let t := after (.cursorDone 0) (s.wrf .sbx R.SBX.CUR_FILT 1 0 1)
    t.sbx.latched.map (·.seq) = some 431 ∧ t.sbx.curSkip = true ∧ t.rdn .sbx R.SBX.SKIPPED = 1 := by decide +kernel

/-- R10, R22: power comes on into RESET, with DRIVE_EN low; a watchdog expiry takes a serving module to OUT. -/
theorem test_powerOn : (after .powerOn (up .active [])).mode = .reset ∧
    (after (.watchdogExpiry 0) (up .active [])).mode = .out := by decide +kernel

/-- The command in front of the queue runs on the rest. -/
theorem test_stepTakesTheFront :
    step { up .ready [] with pending := [.nselLatch 0 9, .tokenRefill 0] } =
      exec (.nselLatch 0 9) { up .ready [] with pending := [.tokenRefill 0] } := rfl

/-- No word spells a command: the table gives no row any bits. -/
theorem test_decodeTableWord : decodeTableWord 8 0 = none ∧ State.reset.withFetchWord 8 0 = State.reset := ⟨rfl, rfl⟩

/-! ### Terms that are not well formed, one for each check, and terms that are -/

def headOk : CmdHead := ⟨1, 0, 5, zeros 16⟩
def shortHead : CmdHead := ⟨1, 0, 5, zeros 15⟩
def descOk : Desc := (desc 64 0 0 [])

theorem test_wellFormed_accepts : ([.contactorRelease 0 .mailbox headOk 3, .keyLoad 0 .mailbox headOk 7 0 (zeros 40),
    .limitWrite 0 .mailbox headOk ⟨0, 0, 511, zeros 24⟩ 0, .ringDoorbell 0 127 1 [some descOk, none],
    .canFrameReceived 0 3 (.frame (canFrameOf 4 2048) 0 0), .ethFrameReceived 0 2 (ethOk 0x0800 []) 0,
    .registerWrite 0 .cfgx 0xFFC 0, .windowChunk 0 1024,
    .dieModelUpdate 0 (List.replicate 64 0) (List.replicate 16 0)] : List Instr).all Instr.wf = true := by decide +kernel

/-- A frame of the tandem link with 4,097 bytes. -/
def longBytes : List Byte := zeros 4097
/-- A window of 30,001 bits. -/
def longWindow : BitWindow := ⟨2 ^ 30000, 0⟩
def headAny : TandemHead := ⟨0, 0, 0⟩
def ticksOk : TickInputs := { ticks with sums := List.replicate 12 0, counts := List.replicate 12 10000 }

theorem test_wellFormed_refuses_messages : ([.contactorRelease 0 .mailbox shortHead 3, .dispatchEnable 0 .mailbox shortHead true,
    .limitWrite 0 .mailbox shortHead ⟨0, 0, 511, zeros 24⟩ 0, .limitWrite 0 .mailbox headOk ⟨0, 0, 511, zeros 23⟩ 0,
    .roleAssign 0 .mailbox shortHead 3, .plannedRelay 0 .mailbox shortHead, .strongboxClear 0 .mailbox shortHead 1,
    .fwActivate 0 .mailbox shortHead 0 0, .keyLoad 0 .mailbox shortHead 7 0 (zeros 40), .keyLoad 0 .mailbox headOk 7 0 (zeros 39),
    .configSignatureCommit 0 .mailbox shortHead 0, .calibrationCycle 0 .mailbox shortHead 1,
    .relayedCompartment 0 headAny longBytes, .verdict 0 headAny longBytes, .indexLock 0 headAny longBytes 0,
    .heartbeat 0 headAny longBytes, .mirror 0 headAny longBytes, .stageDigest 0 headAny longBytes,
    .loopDigest 0 headAny longBytes, .repairReq 0 headAny longBytes, .repairData 0 headAny longBytes,
    .health 0 headAny longBytes, .abdicate 0 headAny longBytes, .tandemService 0 headAny longBytes] : List Instr).all
    (fun i => !i.wf) = true := by decide +kernel

theorem test_wellFormed_refuses_accesses : ([.configWrite 0 .sys 0x1000 0, .flagsClear 0 .sys 0x12 0, .registerWrite 0 .sys 2 0,
    .barAccessRejected 0 false 0x100000 true, .barAccessRejected 0 true 0x10000000 false,
    .parameterSetWrite 0 0x1FFFFF [0, 0], .limitTableWrite 0 0x7FFF [0, 0], .windowChunk 0 1025,
    .ringDoorbell 0 0 1 [some { descOk with bytes := zeros 31 }], .ringDoorbell 0 0 1 [some { desc 0 0 0 [] with data := [1] }],
    .bootPhaseDone 0 ⟨true, false, 256, 0, 0⟩, .bootPhaseDone 0 ⟨true, false, 0, 3, 0⟩,
    .uncorrectableEccError 0 (.strongbox 0x2000000), .uncorrectableEccError 0 (.waybill (2 ^ 32) 0),
    .uncorrectableEccError 0 (.waybill 0 (2 ^ 32))] : List Instr).all
    (fun i => !i.wf) = true := by decide +kernel

theorem test_wellFormed_refuses_samples : ([.tickBoundary { ticksOk with sums := [] }, .tickBoundary { ticksOk with counts := [] },
    .tickBoundary { ticksOk with counts := 10001 :: List.replicate 11 0 },
    .tickBoundary { ticksOk with sums := 10001 :: List.replicate 11 0 }, .controlSample 0 0 ⟨[]⟩,
    .controlSample 0 0 ⟨longWindow :: List.replicate 11 ⟨0, 0⟩⟩,
    .mckselChange 0 true 200001 0, .mckselChange 0 true 0 200001, .clockLoss 0 0 200001,
    .stagePathSample 0 0 longWindow, .fastFilterOutput 0 0 longWindow.ones longWindow.sampled, .spinPeriod 0 0 2 1,
    .dieModelUpdate 0 [] (List.replicate 16 0), .dieModelUpdate 0 (List.replicate 64 0) [],
    .tickBoundary { ticksOk with reads := ⟨[(33, [])]⟩ }, .testWindowClose 0 0 ⟨⟨[(33, [])]⟩, ⟨[]⟩⟩,
    .testWindowClose 0 0 ⟨⟨[]⟩, ⟨[(33, [])]⟩⟩, .powerSample 0 [] 0 0 0 0] : List Instr).all (fun i => !i.wf) = true := by decide +kernel

theorem test_wellFormed_refuses_frames : ([{ canFrameOf 4 0 with id := 2 ^ 29 }, canFrameOf 5 0, canFrameOf 4 2049,
    { canFrameOf 4 1 with data := [] }, { canFrameOf 4 0 with sdt := 256 }, { canFrameOf 4 0 with vcid := 256 },
    { canFrameOf 4 0 with af := 2 ^ 32 }] : List CanFrame).all
      (fun f => !(Instr.canFrameReceived 0 0 (.frame f 0 0)).wf) = true ∧
    (Instr.ethFrameReceived 0 0 ⟨zeros 13, true⟩ 0).wf = false := by decide +kernel

end Sys2Proof.Tests
end

section
/-! SUPPORT. What every command, and so every step, keeps. -/

namespace Sys2Proof.Machine

open Sys2Proof

/-- A command that is calm is steady. -/
theorem Ends.steady {s : State} {o : Host.Outcome State Fault Refusal} (h : Ends Calm s o) : Ends Steady s o :=
  h.mono (fun _ _ => Calm.steady)

theorem Ends.of_eq {R : State → State → Prop} {r : State} {o o' : Host.Outcome State Fault Refusal} (e : o = o')
    (h : Ends R r o') : Ends R r o := e ▸ h

/-- Every command keeps the queue, the register store's form, the free values and what went out, and leaves the outputs
right for the module's state. -/
theorem exec_steady (c : Instr) (s : State) : Ends Steady s (exec c s) := by
  cases c with
  | powerOn => exact .of_eq (exec_powerOn ..) (execPowerOn_steady ..)
  | supplyOutOfRange => exact .of_eq (exec_supplyOutOfRange ..) (execSupplyOutOfRange_steady ..)
  | supplyHoldOffExpiry => exact .of_eq (exec_supplyHoldOffExpiry ..) (execSupplyHoldOffExpiry_steady ..)
  | resetNLow => exact .of_eq (exec_resetNLow ..) (execResetNLow_steady ..)
  | resetNRelease => exact .of_eq (exec_resetNRelease ..) (execResetNRelease_steady ..)
  | bootPhaseDone => exact .of_eq (exec_bootPhaseDone ..) (execBootPhaseDone_steady ..)
  | bootTimeout => exact .of_eq (exec_bootTimeout ..) (execBootTimeout_steady ..)
  | sysRst => exact .of_eq (exec_sysRst ..) (execSysRst_steady ..)
  | outRestart => exact .of_eq (exec_outRestart ..) (execOutRestart_steady ..)
  | lockstepMismatch => exact .of_eq (exec_lockstepMismatch ..) (execLockstepMismatch_steady ..)
  | uncorrectableEccError => exact .of_eq (exec_uncorrectableEccError ..) (execUncorrectableEccError_steady ..)
  | watchdogExpiry => exact .of_eq (exec_watchdogExpiry ..) (execWatchdogExpiry_steady ..)
  | outputLoopbackFailure => exact .of_eq (exec_outputLoopbackFailure ..) (execOutputLoopbackFailure_steady ..)
  | clockMonitorFault => exact .of_eq (exec_clockMonitorFault ..) (execClockMonitorFault_steady ..)
  | vioBankFault => exact .of_eq (exec_vioBankFault ..) (execVioBankFault_steady ..)
  | aon32Loss => exact .of_eq (exec_aon32Loss ..) (execAon32Loss_calm ..).steady
  | diodeOverLimit => exact .of_eq (exec_diodeOverLimit ..) (execDiodeOverLimit_steady ..)
  | thermalCoolExpiry => exact .of_eq (exec_thermalCoolExpiry ..) (execThermalCoolExpiry_steady ..)
  | pfwFall => exact .of_eq (exec_pfwFall ..) (execPfwFall_calm ..).steady
  | pfwRise => exact .of_eq (exec_pfwRise ..) (execPfwRise_calm ..).steady
  | roleFormation => exact .of_eq (exec_roleFormation ..) (execRoleFormation_steady ..)
  | formationWaitExpiry => exact .of_eq (exec_formationWaitExpiry ..) (execFormationWaitExpiry_steady ..)
  | formationJoinRetry => exact .of_eq (exec_formationJoinRetry ..) (execFormationJoinRetry_steady ..)
  | contactorRelease => exact .of_eq (exec_contactorRelease ..) (execContactorRelease_calm ..).steady
  | dispatchEnable => exact .of_eq (exec_dispatchEnable ..) (execDispatchEnable_calm ..).steady
  | limitWrite => exact .of_eq (exec_limitWrite ..) (execLimitWrite_calm ..).steady
  | roleAssign => exact .of_eq (exec_roleAssign ..) (execRoleAssign_calm ..).steady
  | plannedRelay => exact .of_eq (exec_plannedRelay ..) (execPlannedRelay_calm ..).steady
  | strongboxClear => exact .of_eq (exec_strongboxClear ..) (execStrongboxClear_calm ..).steady
  | fwActivate => exact .of_eq (exec_fwActivate ..) (execFwActivate_calm ..).steady
  | keyLoad => exact .of_eq (exec_keyLoad ..) (execKeyLoad_calm ..).steady
  | configSignatureCommit => exact .of_eq (exec_configSignatureCommit ..) (execConfigSignatureCommit_calm ..).steady
  | calibrationCycle => exact .of_eq (exec_calibrationCycle ..) (execCalibrationCycle_calm ..).steady
  | eventInputEffect => exact .of_eq (exec_eventInputEffect ..) (execEventInputEffect_steady ..)
  | completionRecordRelease =>
    exact .of_eq (exec_completionRecordRelease ..) (execCompletionRecordRelease_calm ..).steady
  | pageEnable => exact .of_eq (exec_pageEnable ..) (execPageEnable_steady ..)
  | blockStartDone => exact .of_eq (exec_blockStartDone ..) (execBlockStartDone_steady ..)
  | pageDisable => exact .of_eq (exec_pageDisable ..) (execPageDisable_steady ..)
  | blockStopped => exact .of_eq (exec_blockStopped ..) (execBlockStopped_calm ..).steady
  | blockFault => exact .of_eq (exec_blockFault ..) (execBlockFault_steady ..)
  | configWrite => exact .of_eq (exec_configWrite ..) (execConfigWrite_steady ..)
  | flagsClear => exact .of_eq (exec_flagsClear ..) (execFlagsClear_steady ..)
  | registerWrite => exact .of_eq (exec_registerWrite ..) (execRegisterWrite_steady ..)
  | scrubPass => exact .of_eq (exec_scrubPass ..) (execScrubPass_steady ..)
  | barAccessRejected => exact .of_eq (exec_barAccessRejected ..) (execBarAccessRejected_calm ..).steady
  | linkReset => exact .of_eq (exec_linkReset ..) (execLinkReset_calm ..).steady
  | spiWriteFrame => exact .of_eq (exec_spiWriteFrame ..) (execSpiWriteFrame_steady ..)
  | spiReadFrame => exact .of_eq (exec_spiReadFrame ..) (execSpiReadFrame_steady ..)
  | ringDoorbell => exact .of_eq (exec_ringDoorbell ..) (execRingDoorbell_calm ..).steady
  | ringRestart => exact .of_eq (exec_ringRestart ..) (execRingRestart_calm ..).steady
  | ringDrainTimeout => exact .of_eq (exec_ringDrainTimeout ..) (execRingDrainTimeout_calm ..).steady
  | tickBoundary => exact .of_eq (exec_tickBoundary ..) (execTickBoundary_steady ..)
  | inputDeadline => exact .of_eq (exec_inputDeadline ..) (execInputDeadline_steady ..)
  | stageBoundary => exact .of_eq (exec_stageBoundary ..) (execStageBoundary_steady ..)
  | stageStepRun => exact .of_eq (exec_stageStepRun ..) (execStageStepRun_calm ..).steady
  | bistDone => exact .of_eq (exec_bistDone ..) (execBistDone_steady ..)
  | stepPublished => exact .of_eq (exec_stepPublished ..) (execStepPublished_steady ..)
  | forecastBoundary => exact .of_eq (exec_forecastBoundary ..) (execForecastBoundary_calm ..).steady
  | forecastPublished => exact .of_eq (exec_forecastPublished ..) (execForecastPublished_calm ..).steady
  | calibrationDeadline => exact .of_eq (exec_calibrationDeadline ..) (execCalibrationDeadline_calm ..).steady
  | journalWriteStart => exact .of_eq (exec_journalWriteStart ..) (execJournalWriteStart_calm ..).steady
  | journalWriteDone => exact .of_eq (exec_journalWriteDone ..) (execJournalWriteDone_calm ..).steady
  | parameterSetWrite => exact .of_eq (exec_parameterSetWrite ..) (execParameterSetWrite_calm ..).steady
  | parameterSetScrub => exact .of_eq (exec_parameterSetScrub ..) (execParameterSetScrub_steady ..)
  | limitTableWrite => exact .of_eq (exec_limitTableWrite ..) (execLimitTableWrite_calm ..).steady
  | commandCoachReceived => exact .of_eq (exec_commandCoachReceived ..) (execCommandCoachReceived_calm ..).steady
  | dataCoachReceived => exact .of_eq (exec_dataCoachReceived ..) (execDataCoachReceived_steady ..)
  | alertCoachReceived => exact .of_eq (exec_alertCoachReceived ..) (execAlertCoachReceived_steady ..)
  | repeatCoachSend => exact .of_eq (exec_repeatCoachSend ..) (execRepeatCoachSend_calm ..).steady
  | farWaitExpiry => exact .of_eq (exec_farWaitExpiry ..) (execFarWaitExpiry_calm ..).steady
  | symbolLockLoss => exact .of_eq (exec_symbolLockLoss ..) (execSymbolLockLoss_calm ..).steady
  | frontEndLost => exact .of_eq (exec_frontEndLost ..) (execFrontEndLost_steady ..)
  | enumerationWaitExpiry => exact .of_eq (exec_enumerationWaitExpiry ..) (execEnumerationWaitExpiry_calm ..).steady
  | challengeDue => exact .of_eq (exec_challengeDue ..) (execChallengeDue_calm ..).steady
  | challengeRetry => exact .of_eq (exec_challengeRetry ..) (execChallengeRetry_calm ..).steady
  | challengeAll => exact .of_eq (exec_challengeAll ..) (execChallengeAll_calm ..).steady
  | reenum => exact .of_eq (exec_reenum ..) (execReenum_calm ..).steady
  | relayedCompartment => exact .of_eq (exec_relayedCompartment ..) (execRelayedCompartment_steady ..)
  | verdict => exact .of_eq (exec_verdict ..) (execVerdict_calm ..).steady
  | mckselChange => exact .of_eq (exec_mckselChange ..) (execMckselChange_steady ..)
  | clockLoss => exact .of_eq (exec_clockLoss ..) (execClockLoss_steady ..)
  | stuckRun => exact .of_eq (exec_stuckRun ..) (execStuckRun_steady ..)
  | indexLock => exact .of_eq (exec_indexLock ..) (execIndexLock_calm ..).steady
  | stagePathSample => exact .of_eq (exec_stagePathSample ..) (execStagePathSample_steady ..)
  | fastFilterOutput => exact .of_eq (exec_fastFilterOutput ..) (execFastFilterOutput_steady ..)
  | tripRelease => exact .of_eq (exec_tripRelease ..) (execTripRelease_calm ..).steady
  | manSet => exact .of_eq (exec_manSet ..) (execManSet_calm ..).steady
  | manClr => exact .of_eq (exec_manClr ..) (execManClr_calm ..).steady
  | controlSample => exact .of_eq (exec_controlSample ..) (execControlSample_steady ..)
  | pwmUpdatePoint => exact .of_eq (exec_pwmUpdatePoint ..) (execPwmUpdatePoint_steady ..)
  | loopStateDigest => exact .of_eq (exec_loopStateDigest ..) (execLoopStateDigest_steady ..)
  | spHostWrite => exact .of_eq (exec_spHostWrite ..) (execSpHostWrite_calm ..).steady
  | measWrite => exact .of_eq (exec_measWrite ..) (execMeasWrite_calm ..).steady
  | dutyWrite => exact .of_eq (exec_dutyWrite ..) (execDutyWrite_calm ..).steady
  | dispSpWrite => exact .of_eq (exec_dispSpWrite ..) (execDispSpWrite_calm ..).steady
  | tcoolWrite => exact .of_eq (exec_tcoolWrite ..) (execTcoolWrite_calm ..).steady
  | zoneStale => exact .of_eq (exec_zoneStale ..) (execZoneStale_calm ..).steady
  | spinPeriod => exact .of_eq (exec_spinPeriod ..) (execSpinPeriod_calm ..).steady
  | spinLosTimeout => exact .of_eq (exec_spinLosTimeout ..) (execSpinLosTimeout_calm ..).steady
  | setPointStreamFrame => exact .of_eq (exec_setPointStreamFrame ..) (execSetPointStreamFrame_calm ..).steady
  | streamTimeout => exact .of_eq (exec_streamTimeout ..) (execStreamTimeout_calm ..).steady
  | impedancePublished => exact .of_eq (exec_impedancePublished ..) (execImpedancePublished_calm ..).steady
  | unblock => exact .of_eq (exec_unblock ..) (execUnblock_calm ..).steady
  | unblockAll => exact .of_eq (exec_unblockAll ..) (execUnblockAll_calm ..).steady
  | zselLatch => exact .of_eq (exec_zselLatch ..) (execZselLatch_calm ..).steady
  | sensorRestore => exact .of_eq (exec_sensorRestore ..) (execSensorRestore_calm ..).steady
  | mselLatch => exact .of_eq (exec_mselLatch ..) (execMselLatch_calm ..).steady
  | testWindowClose => exact .of_eq (exec_testWindowClose ..) (execTestWindowClose_steady ..)
  | stuckReset => exact .of_eq (exec_stuckReset ..) (execStuckReset_calm ..).steady
  | stuckResetEnd => exact .of_eq (exec_stuckResetEnd ..) (execStuckResetEnd_calm ..).steady
  | espitonData => exact .of_eq (exec_espitonData ..) (execEspitonData_steady ..)
  | espitonEcho => exact .of_eq (exec_espitonEcho ..) (execEspitonEcho_steady ..)
  | espitonPeriod => exact .of_eq (exec_espitonPeriod ..) (execEspitonPeriod_steady ..)
  | heartbeatSend => exact .of_eq (exec_heartbeatSend ..) (execHeartbeatSend_calm ..).steady
  | heartbeat => exact .of_eq (exec_heartbeat ..) (execHeartbeat_steady ..)
  | peerSilent => exact .of_eq (exec_peerSilent ..) (execPeerSilent_calm ..).steady
  | linkDown => exact .of_eq (exec_linkDown ..) (execLinkDown_calm ..).steady
  | linkUp => exact .of_eq (exec_linkUp ..) (execLinkUp_calm ..).steady
  | interlockAgreement => exact .of_eq (exec_interlockAgreement ..) (execInterlockAgreement_calm ..).steady
  | peerDriveEnHigh => exact .of_eq (exec_peerDriveEnHigh ..) (execPeerDriveEnHigh_calm ..).steady
  | driveEnRaise => exact .of_eq (exec_driveEnRaise ..) (execDriveEnRaise_steady ..)
  | mirror => exact .of_eq (exec_mirror ..) (execMirror_steady ..)
  | mirrorGap => exact .of_eq (exec_mirrorGap ..) (execMirrorGap_calm ..).steady
  | stageDigest => exact .of_eq (exec_stageDigest ..) (execStageDigest_steady ..)
  | loopDigest => exact .of_eq (exec_loopDigest ..) (execLoopDigest_steady ..)
  | repairReq => exact .of_eq (exec_repairReq ..) (execRepairReq_calm ..).steady
  | repairData => exact .of_eq (exec_repairData ..) (execRepairData_steady ..)
  | repairAll => exact .of_eq (exec_repairAll ..) (execRepairAll_calm ..).steady
  | healthSend => exact .of_eq (exec_healthSend ..) (execHealthSend_calm ..).steady
  | healthNow => exact .of_eq (exec_healthNow ..) (execHealthNow_calm ..).steady
  | health => exact .of_eq (exec_health ..) (execHealth_calm ..).steady
  | healthStale => exact .of_eq (exec_healthStale ..) (execHealthStale_calm ..).steady
  | abdicate => exact .of_eq (exec_abdicate ..) (execAbdicate_steady ..)
  | tandemService => exact .of_eq (exec_tandemService ..) (execTandemService_steady ..)
  | relaySwitch => exact .of_eq (exec_relaySwitch ..) (execRelaySwitch_steady ..)
  | renewTimer => exact .of_eq (exec_renewTimer ..) (execRenewTimer_calm ..).steady
  | probeTimer => exact .of_eq (exec_probeTimer ..) (execProbeTimer_calm ..).steady
  | witnessProbe => exact .of_eq (exec_witnessProbe ..) (execWitnessProbe_calm ..).steady
  | witnessRenew => exact .of_eq (exec_witnessRenew ..) (execWitnessRenew_calm ..).steady
  | witnessAcquire => exact .of_eq (exec_witnessAcquire ..) (execWitnessAcquire_calm ..).steady
  | witnessYield => exact .of_eq (exec_witnessYield ..) (execWitnessYield_calm ..).steady
  | witnessQuietEnd => exact .of_eq (exec_witnessQuietEnd ..) (execWitnessQuietEnd_calm ..).steady
  | leaseGranted => exact .of_eq (exec_leaseGranted ..) (execLeaseGranted_steady ..)
  | leaseRefused => exact .of_eq (exec_leaseRefused ..) (execLeaseRefused_calm ..).steady
  | witnessState => exact .of_eq (exec_witnessState ..) (execWitnessState_calm ..).steady
  | backoffExpiry => exact .of_eq (exec_backoffExpiry ..) (execBackoffExpiry_calm ..).steady
  | leaseViewExpiry => exact .of_eq (exec_leaseViewExpiry ..) (execLeaseViewExpiry_calm ..).steady
  | witnessLost => exact .of_eq (exec_witnessLost ..) (execWitnessLost_calm ..).steady
  | witnessReturn => exact .of_eq (exec_witnessReturn ..) (execWitnessReturn_calm ..).steady
  | stageFrameWrite => exact .of_eq (exec_stageFrameWrite ..) (execStageFrameWrite_calm ..).steady
  | wayFreeze => exact .of_eq (exec_wayFreeze ..) (execWayFreeze_calm ..).steady
  | releaseSegment => exact .of_eq (exec_releaseSegment ..) (execReleaseSegment_calm ..).steady
  | exportSegment => exact .of_eq (exec_exportSegment ..) (execExportSegment_calm ..).steady
  | abortSegment => exact .of_eq (exec_abortSegment ..) (execAbortSegment_calm ..).steady
  | exportChunk => exact .of_eq (exec_exportChunk ..) (execExportChunk_calm ..).steady
  | autoExportStart => exact .of_eq (exec_autoExportStart ..) (execAutoExportStart_calm ..).steady
  | burstCaptureStop => exact .of_eq (exec_burstCaptureStop ..) (execBurstCaptureStop_calm ..).steady
  | burstCopyDone => exact .of_eq (exec_burstCopyDone ..) (execBurstCopyDone_calm ..).steady
  | strongboxWriteStart => exact .of_eq (exec_strongboxWriteStart ..) (execStrongboxWriteStart_calm ..).steady
  | strongboxWriteDone => exact .of_eq (exec_strongboxWriteDone ..) (execStrongboxWriteDone_calm ..).steady
  | tokenRefill => exact .of_eq (exec_tokenRefill ..) (execTokenRefill_calm ..).steady
  | cursorSeek => exact .of_eq (exec_cursorSeek ..) (execCursorSeek_calm ..).steady
  | cursorNext => exact .of_eq (exec_cursorNext ..) (execCursorNext_calm ..).steady
  | cursorDone => exact .of_eq (exec_cursorDone ..) (execCursorDone_calm ..).steady
  | strongboxExportChunk => exact .of_eq (exec_strongboxExportChunk ..) (execStrongboxExportChunk_calm ..).steady
  | strongboxExportFlush => exact .of_eq (exec_strongboxExportFlush ..) (execStrongboxExportFlush_calm ..).steady
  | canTransmitAttempt => exact .of_eq (exec_canTransmitAttempt ..) (execCanTransmitAttempt_calm ..).steady
  | canAttemptEnd => exact .of_eq (exec_canAttemptEnd ..) (execCanAttemptEnd_calm ..).steady
  | canFrameReceived => exact .of_eq (exec_canFrameReceived ..) (execCanFrameReceived_steady ..)
  | busOffRecovery => exact .of_eq (exec_busOffRecovery ..) (execBusOffRecovery_calm ..).steady
  | canCancel => exact .of_eq (exec_canCancel ..) (execCanCancel_calm ..).steady
  | canCancelAll => exact .of_eq (exec_canCancelAll ..) (execCanCancelAll_calm ..).steady
  | canRecover => exact .of_eq (exec_canRecover ..) (execCanRecover_calm ..).steady
  | rxrel => exact .of_eq (exec_rxrel ..) (execRxrel_calm ..).steady
  | rxwRead => exact .of_eq (exec_rxwRead ..) (execRxwRead_calm ..).steady
  | fltw1Commit => exact .of_eq (exec_fltw1Commit ..) (execFltw1Commit_calm ..).steady
  | witnessResend => exact .of_eq (exec_witnessResend ..) (execWitnessResend_calm ..).steady
  | ethTransmit => exact .of_eq (exec_ethTransmit ..) (execEthTransmit_calm ..).steady
  | ethFrameReceived => exact .of_eq (exec_ethFrameReceived ..) (execEthFrameReceived_steady ..)
  | arpRequest => exact .of_eq (exec_arpRequest ..) (execArpRequest_calm ..).steady
  | pairAnnounce => exact .of_eq (exec_pairAnnounce ..) (execPairAnnounce_calm ..).steady
  | prpSupervision => exact .of_eq (exec_prpSupervision ..) (execPrpSupervision_calm ..).steady
  | ethLinkChange => exact .of_eq (exec_ethLinkChange ..) (execEthLinkChange_calm ..).steady
  | timeSync => exact .of_eq (exec_timeSync ..) (execTimeSync_steady ..)
  | ptpAnnounce => exact .of_eq (exec_ptpAnnounce ..) (execPtpAnnounce_calm ..).steady
  | delayResp => exact .of_eq (exec_delayResp ..) (execDelayResp_calm ..).steady
  | delayReq => exact .of_eq (exec_delayReq ..) (execDelayReq_calm ..).steady
  | timeTransmitPeriod => exact .of_eq (exec_timeTransmitPeriod ..) (execTimeTransmitPeriod_calm ..).steady
  | holdoverEntry => exact .of_eq (exec_holdoverEntry ..) (execHoldoverEntry_calm ..).steady
  | irqSourceAssert => exact .of_eq (exec_irqSourceAssert ..) (execIrqSourceAssert_calm ..).steady
  | extIrqPin => exact .of_eq (exec_extIrqPin ..) (execExtIrqPin_calm ..).steady
  | targetFire => exact .of_eq (exec_targetFire ..) (execTargetFire_calm ..).steady
  | irqClaim => exact .of_eq (exec_irqClaim ..) (execIrqClaim_calm ..).steady
  | irqComplete => exact .of_eq (exec_irqComplete ..) (execIrqComplete_calm ..).steady
  | irqPark => exact .of_eq (exec_irqPark ..) (execIrqPark_calm ..).steady
  | irqSourceConfig => exact .of_eq (exec_irqSourceConfig ..) (execIrqSourceConfig_calm ..).steady
  | openUpload => exact .of_eq (exec_openUpload ..) (execOpenUpload_calm ..).steady
  | closeUpload => exact .of_eq (exec_closeUpload ..) (execCloseUpload_calm ..).steady
  | abortUpload => exact .of_eq (exec_abortUpload ..) (execAbortUpload_calm ..).steady
  | bootRetry => exact .of_eq (exec_bootRetry ..) (execBootRetry_steady ..)
  | firmwareChunk => exact .of_eq (exec_firmwareChunk ..) (execFirmwareChunk_calm ..).steady
  | windowChunk => exact .of_eq (exec_windowChunk ..) (execWindowChunk_calm ..).steady
  | activationReboot => exact .of_eq (exec_activationReboot ..) (execActivationReboot_steady ..)
  | activationCancel => exact .of_eq (exec_activationCancel ..) (execActivationCancel_calm ..).steady
  | trialEnd => exact .of_eq (exec_trialEnd ..) (execTrialEnd_calm ..).steady
  | svCommit => exact .of_eq (exec_svCommit ..) (execSvCommit_calm ..).steady
  | dieModelUpdate => exact .of_eq (exec_dieModelUpdate ..) (execDieModelUpdate_steady ..)
  | powerSample => exact .of_eq (exec_powerSample ..) (execPowerSample_calm ..).steady
  | nselLatch => exact .of_eq (exec_nselLatch ..) (execNselLatch_calm ..).steady
  | mtLoRead => exact .of_eq (exec_mtLoRead ..) (execMtLoRead_calm ..).steady
  | networkSessionStateMirror =>
    exact .of_eq (exec_networkSessionStateMirror ..) (execNetworkSessionStateMirror_calm ..).steady
  | delayRequestSend => exact .of_eq (exec_delayRequestSend ..) (execDelayRequestSend_calm ..).steady
  | canBusIntegration => exact .of_eq (exec_canBusIntegration ..) (execCanBusIntegration_calm ..).steady
  | peerAliveLow => exact .of_eq (exec_peerAliveLow ..) (execPeerAliveLow_steady ..)
  | joinTimeout => exact .of_eq (exec_joinTimeout ..) (execJoinTimeout_calm ..).steady
  | activationDue => exact .of_eq (exec_activationDue ..) (execActivationDue_calm ..).steady
  | malformedCommandMessage =>
    exact .of_eq (exec_malformedCommandMessage ..) (execMalformedCommandMessage_calm ..).steady

/-- A step idles on an empty queue, or runs the command at its front. -/
theorem step_cases {s t : State} (h : step s = .next t) :
    t = s ∨ ∃ (c : Instr) (rest : List Instr), s.pending = c :: rest ∧ exec c { s with pending := rest } = .next t := by
  unfold step at h
  split at h
  · cases h; exact .inl rfl
  · next c rest e => exact .inr ⟨c, rest, e, h⟩

theorem step_regsWf {s t : State} (w : RegsWf s.regs) (h : step s = .next t) : RegsWf t.regs := by
  obtain rfl | ⟨c, rest, -, run⟩ := step_cases h
  · exact w
  · exact ((exec_steady c _).of run).keeps.regs w

end Sys2Proof.Machine
end

section
/-! SUPPORT. The register map and the register store: reserved bits are 0 in reset values and in what is stored (R4,
R6). -/

namespace Sys2Proof.Machine

open Sys2Proof

theorem mem_allPages (p : Page) : p ∈ allPages := by
  cases p <;> simp [allPages]

theorem findRow_mem {p : Page} {o : Nat} {r : RegRow} (h : findRow p o = some r) : r ∈ headerRows p ++ pageRows p := by
  have m := List.mem_of_find?_eq_some h
  split at m
  · exact List.mem_append_left _ m
  · exact List.mem_append_right _ m

/-- A reset value is one of its row's, or 0 (R6). -/
theorem RegRow.reset_mem (r : RegRow) (o : Nat) : r.reset o ∈ r.rst ∨ r.reset o = 0 := by
  unfold RegRow.reset
  split
  · next v h => simp [h]
  · rw [List.getD_eq_getElem?_getD]
    cases h : r.rst[(o - r.off) / r.stride]? with
    | none => exact .inr rfl
    | some v => exact .inl (List.mem_of_getElem? h)

/-- The register map gives no reserved bit a reset value other than 0 (R4, R6). -/
theorem rows_reset_masked (p : Page) : ∀ r ∈ headerRows p ++ pageRows p, ∀ v ∈ r.rst, v &&& r.mask = v := by
  have h : ∀ p ∈ allPages, ∀ r ∈ headerRows p ++ pageRows p, ∀ v ∈ r.rst, v &&& r.mask = v := by decide +kernel
  exact h p (mem_allPages p)

theorem RegRow.reset_masked {p : Page} {o : Nat} {r : RegRow} (h : findRow p o = some r) :
    r.reset o &&& r.mask = r.reset o := by
  rcases r.reset_mem o with m | z
  · exact rows_reset_masked p r (findRow_mem h) _ m
  · simp [z]

theorem reset_word_masked {p : Page} {o : Nat} {r : RegRow} (h : findRow p o = some r) :
    BitVec.ofNat 32 (r.reset o) &&& BitVec.ofNat 32 r.mask = BitVec.ofNat 32 (r.reset o) := by
  rw [← BitVec.ofNat_and, RegRow.reset_masked h]

theorem regDefault_eq {p : Page} {o : Nat} {r : RegRow} (h : findRow p o = some r) :
    regDefault p o = BitVec.ofNat 32 (r.reset o) := by
  unfold regDefault resetAt
  rw [h]

theorem sget_eq_or_mem {α : Type} (d : α) (m : List (Nat × α)) (k : Nat) : sget d m k = d ∨ (k, sget d m k) ∈ m := by
  induction m with
  | nil => exact .inl rfl
  | cons e t ih =>
    rw [sget_cons]
    split
    · next h => exact .inr (by simp [← h])
    · exact ih.imp_right (List.mem_cons_of_mem e)

/-- A BAR0 offset is that of one register. -/
theorem register_place_inj {p q : Page} {o u : Nat} {r x : RegRow} (h : findRow p o = some r) (k : findRow q u = some x)
    (e : p.base + o = q.base + u) : p = q ∧ o = u := by
  have hp : p = q := by
    by_contra n
    exact page_apart n (findRow_lt h) (findRow_lt k) e
  subst hp
  exact ⟨rfl, by omega⟩

theorem State.rd_masked {s : State} {p : Page} {o : Nat} {r : RegRow} (w : RegsWf s.regs) (h : findRow p o = some r) :
    s.rd p o &&& BitVec.ofNat 32 r.mask = s.rd p o := by
  rcases sget_eq_or_mem (regDefault p o) s.regs (p.base + o) with e | m
  · unfold State.rd
    rw [e, regDefault_eq h, reset_word_masked h]
  · obtain ⟨q, u, x, place, row, masked, -⟩ := w.2 _ m
    obtain ⟨rfl, rfl⟩ := register_place_inj h row place
    rw [h] at row
    cases row
    exact masked

end Sys2Proof.Machine
end

section
/-! SUPPORT. The state after reset (R22, R431). -/

namespace Sys2Proof.Machine

open Sys2Proof

theorem State.reset_outputsSafe : State.reset.outputsSafe := ⟨rfl, rfl, fun _ _ => rfl⟩

theorem State.reset_paramMemoryOk : ParamMemoryOk State.reset := by
  refine ⟨State.reset_memory, ?_⟩
  rintro v (h | h | h) <;> cases h

end Sys2Proof.Machine
end

section
/-! The register store keeps its form, and the state after reset meets the invariants. -/

open Sys2Proof Sys2Proof.Machine

/-- Settles O5: every command is `Steady`, and an entry of a store in canonical form is masked by its own row. -/
theorem registersKeepTheirForm : Obligations.RegistersKeepTheirForm :=
  ⟨fun _ _ => step_regsWf, fun _ _ _ _ w row => ⟨reset_word_masked row, State.rd_masked w row⟩⟩

/-- Settles O8: the store is empty at reset, so every register reads its reset value. -/
theorem resetMeetsTheInvariants : Obligations.ResetMeetsTheInvariants := by
  refine ⟨⟨.nil, nofun⟩, nofun, fun _ => State.reset_outputsSafe, State.reset_paramMemoryOk, rfl, rfl, rfl, rfl, ?_⟩
  intro p o r h
  exact regDefault_eq h
end

section
/-! SUPPORT. Register writes by access code (R3, R4, R33, R34, R38). -/

namespace Sys2Proof.Machine

open Sys2Proof

/-! ### Rows of the page header (R33) -/

theorem findRow_flags (p : Page) :
    findRow p R.PAGE.FLAGS = some ⟨0x010, 4, 1, 0, 0, pageBlockFlags p + 0x7, 0, 0, [0]⟩ := by
  simp [R.PAGE.FLAGS, findRow, headerRows, RegRow.has]

theorem findRow_ignored (p : Page) : findRow p R.PAGE.IGNORED = some ⟨0x018, 4, 1, 0, 0, 0, 0, 0xFFFF0FFF, [0]⟩ := by
  simp [R.PAGE.IGNORED, findRow, headerRows, RegRow.has]

theorem findRow_cfgLive (p : Page) : findRow p R.PAGE.CFG_LIVE = some ⟨0x020, 4, 1, 0, 0, 0, 0, 0xFFFFFFFF, [0]⟩ := by
  simp [R.PAGE.CFG_LIVE, findRow, headerRows, RegRow.has]

/-- IGNWR is a bit of every page's FLAGS (R34). -/
theorem flags_ignwr_full (p : Page) :
    Full (RegRow.mask ⟨0x010, 4, 1, 0, 0, pageBlockFlags p + 0x7, 0, 0, [0]⟩) 1 1 := by
  have h : ∀ p ∈ allPages, bits (RegRow.mask ⟨0x010, 4, 1, 0, 0, pageBlockFlags p + 0x7, 0, 0, [0]⟩) 1 1 = 1 := by
    decide +kernel
  exact h p (mem_allPages p)

/-! ### Places of registers -/

theorem place_ne {p : Page} {o u : Nat} (h : o ≠ u) : p.base + o ≠ p.base + u := fun e => h (Nat.add_left_cancel e)

theorem flags_place_ne {p : Page} (h : p ≠ .irq) {u : Nat} (hu : u < 0x1000) :
    Page.irq.base + R.PAGE.FLAGS ≠ p.base + u := page_apart (Ne.symm h) (by decide) hu

/-! ### Two fields of one register -/

theorem State.rdf_wrf_disjoint {s : State} {p : Page} {o hi lo a b : Nat} {r : RegRow} (v : Nat)
    (h : findRow p o = some r) (k : a < 32) (f : Full r.mask a b) (d : a < lo ∨ lo + (hi + 1 - lo) ≤ b) :
    (s.wrf p o hi lo v).rdf p o a b = s.rdf p o a b := by
  unfold State.wrf State.rdf
  rw [State.rd_wr_same _ h]
  refine fld_ext fun i hb ha => ?_
  rw [flg_and, f.flg k hb ha, Bool.and_true, flg_setFld _ _ _ _ _ (by omega), if_neg (by omega)]

theorem State.rdf_incf_same {s : State} {p : Page} {o hi lo : Nat} {r : RegRow} (h : findRow p o = some r) (k : hi < 32)
    (f : Full r.mask hi lo) :
    (s.incf p o hi lo).rdf p o hi lo = satAdd (hi + 1 - lo) (s.rdf p o hi lo) 1 := by
  unfold State.incf
  rw [State.rdf_wrf_same _ h k f]
  have := Nat.two_pow_pos (hi + 1 - lo)
  exact Nat.mod_eq_of_lt (by unfold satAdd; omega)

/-! ### Ignored writes (R3, R38) -/

theorem ignored_count_full : Full (RegRow.mask ⟨0x018, 4, 1, 0, 0, 0, 0, 0xFFFF0FFF, [0]⟩) 31 16 := rfl

theorem ignored_offset_full : Full (RegRow.mask ⟨0x018, 4, 1, 0, 0, 0, 0, 0xFFFF0FFF, [0]⟩) 11 0 := rfl

/-- The offset of the first ignored write is kept (R34). -/
def State.ignoredFirst (s : State) (p : Page) (o : Nat) : State :=
  if s.rdf p R.PAGE.IGNORED 31 16 = 0 then s.wrf p R.PAGE.IGNORED 11 0 o else s

theorem State.ignoredWrite_eq (s : State) (p : Page) (o : Nat) :
    s.ignoredWrite p o = ((s.ignoredFirst p o).incf p R.PAGE.IGNORED 31 16).flag p 1 := rfl

theorem State.ignoredFirst_count (s : State) (p : Page) (o : Nat) :
    (s.ignoredFirst p o).rdf p R.PAGE.IGNORED 31 16 = s.rdf p R.PAGE.IGNORED 31 16 := by
  unfold State.ignoredFirst
  split
  · exact State.rdf_wrf_disjoint _ (findRow_ignored p) (by decide) ignored_count_full (by decide)
  · rfl

theorem State.ignoredFirst_offset {s : State} {p : Page} {o : Nat} (h : o < 0x1000)
    (z : s.rdf p R.PAGE.IGNORED 31 16 = 0) : (s.ignoredFirst p o).rdf p R.PAGE.IGNORED 11 0 = o := by
  unfold State.ignoredFirst
  rw [if_pos z, State.rdf_wrf_same _ (findRow_ignored p) (by decide) ignored_offset_full]
  exact Nat.mod_eq_of_lt h

theorem State.ignoredWrite_flag (s : State) {p : Page} (o : Nat) (h : p ≠ .irq) :
    (s.ignoredWrite p o).rdb p R.PAGE.FLAGS 1 = true :=
  State.flag_rdb _ (findRow_flags p) (by decide) (flags_ignwr_full p) (flags_place_ne h (by decide))

/-- Of the page's registers the flag of an ignored write changes FLAGS alone. -/
theorem State.ignoredWrite_rd_flag (s : State) {p : Page} {o u : Nat} (h : p ≠ .irq) (hu : u < 0x1000)
    (hf : u ≠ R.PAGE.FLAGS) :
    (s.ignoredWrite p o).rd p u = ((s.ignoredFirst p o).incf p R.PAGE.IGNORED 31 16).rd p u :=
  State.flag_rd _ _ _ (flags_place_ne h hu) (place_ne hf.symm)

theorem State.ignoredWrite_count (s : State) {p : Page} (o : Nat) (h : p ≠ .irq) :
    (s.ignoredWrite p o).rdf p R.PAGE.IGNORED 31 16 = satAdd 16 (s.rdf p R.PAGE.IGNORED 31 16) 1 := by
  have e := State.rdf_incf_same (s := s.ignoredFirst p o) (findRow_ignored p) (by decide) ignored_count_full
  rw [State.ignoredFirst_count] at e
  rw [← e]
  unfold State.rdf
  rw [State.ignoredWrite_rd_flag s h (by decide) (by decide)]

theorem State.ignoredWrite_offset {s : State} {p : Page} {o : Nat} (h : p ≠ .irq) (ho : o < 0x1000)
    (z : s.rdf p R.PAGE.IGNORED 31 16 = 0) : (s.ignoredWrite p o).rdf p R.PAGE.IGNORED 11 0 = o := by
  have e : ((s.ignoredFirst p o).incf p R.PAGE.IGNORED 31 16).rdf p R.PAGE.IGNORED 11 0 = o :=
    (State.rdf_wrf_disjoint _ (findRow_ignored p) (by decide) ignored_offset_full (by decide)).trans
      (State.ignoredFirst_offset ho z)
  unfold State.rdf at e ⊢
  rw [State.ignoredWrite_rd_flag s h (by decide) (by decide), e]

/-- An ignored write changes no register of the page but FLAGS and IGNORED. -/
theorem State.ignoredWrite_rd (s : State) {p : Page} {o u : Nat} (h : p ≠ .irq) (hu : u < 0x1000)
    (hf : u ≠ R.PAGE.FLAGS) (hi : u ≠ R.PAGE.IGNORED) : (s.ignoredWrite p o).rd p u = s.rd p u := by
  rw [State.ignoredWrite_rd_flag s h hu hf]
  unfold State.incf State.ignoredFirst
  rw [State.wrf, State.rd_wr_other _ (place_ne hi.symm)]
  split
  · exact State.rd_wr_other _ (place_ne hi.symm)
  · rfl

/-! ### A write by its access code (R3) -/

/-- The three commands that write a register are one host write of it. -/
theorem exec_of_writeOf {c : Instr} {dt : Nat} {p : Page} {o : Nat} {v : Word} (h : writeOf c = some (dt, p, o, v))
    (s : State) : exec c s = .next ((s.elapse dt).hostWrite p o v) := by
  unfold writeOf at h
  split at h <;> cases h
  · exact exec_configWrite ..
  · exact exec_flagsClear ..
  · exact exec_registerWrite ..

section
variable {s : State} {p : Page} {o : Nat} {r : RegRow} (v : Word)

theorem State.hostWrite_unused (hs : s.pageServed p = true) (hr : findRow p o = none) : s.hostWrite p o v = s := by
  unfold State.hostWrite
  simp [hs, hr]

theorem State.hostWrite_served (hs : s.pageServed p = true) (hr : findRow p o = some r) :
    s.hostWrite p o v =
      if o = R.PAGE.CTRL then s.ctrlWrite p v
      else if o = R.PAGE.FLAGS then s.flagsClear p v
      else if o = R.PAGE.FLAG_IE then (s.wr p o v).pageLine p
      else if r.cf ≠ 0 then s.configWrite p o v
      else if r.w1c ≠ 0 then s.wr p o (s.rd p o &&& ~~~v)
      else if r.rt + r.wo ≠ 0 then s.runWrite p o v
      else s := by
  unfold State.hostWrite
  simp [hs, hr]

theorem State.hostWrite_flags (hs : s.pageServed p = true) : s.hostWrite p R.PAGE.FLAGS v = s.flagsClear p v :=
  State.hostWrite_served v hs (findRow_flags p)

theorem State.hostWrite_flagIe (hs : s.pageServed p = true) (hr : findRow p R.PAGE.FLAG_IE = some r) :
    s.hostWrite p R.PAGE.FLAG_IE v = (s.wr p R.PAGE.FLAG_IE v).pageLine p :=
  State.hostWrite_served v hs hr

/-- Beside the header's writable registers the access code alone decides. -/
theorem State.hostWrite_plain (hs : s.pageServed p = true) (hr : findRow p o = some r) (hh : ¬headerWrite o) :
    s.hostWrite p o v =
      if r.cf ≠ 0 then s.configWrite p o v
      else if r.w1c ≠ 0 then s.wr p o (s.rd p o &&& ~~~v)
      else if r.rt + r.wo ≠ 0 then s.runWrite p o v
      else s := by
  obtain ⟨h1, h2, h3⟩ : o ≠ R.PAGE.CTRL ∧ o ≠ R.PAGE.FLAGS ∧ o ≠ R.PAGE.FLAG_IE := by
    simpa [headerWrite] using hh
  rw [State.hostWrite_served v hs hr, if_neg h1, if_neg h2, if_neg h3]

/-- A W1C register clears the bits named (R3). -/
theorem State.hostWrite_w1c (hs : s.pageServed p = true) (hr : findRow p o = some r) (hh : ¬headerWrite o)
    (hc : r.cf = 0) (hw : r.w1c ≠ 0) : s.hostWrite p o v = s.wr p o (s.rd p o &&& ~~~v) := by
  rw [State.hostWrite_plain v hs hr hh, if_neg (not_not.mpr hc), if_pos hw]

/-- A read-only register takes nothing (R3). -/
theorem State.hostWrite_readOnly (hs : s.pageServed p = true) (hr : findRow p o = some r) (hh : ¬headerWrite o)
    (hc : r.cf = 0) (hw : r.w1c = 0) (hn : r.rt + r.wo = 0) : s.hostWrite p o v = s := by
  rw [State.hostWrite_plain v hs hr hh, if_neg (not_not.mpr hc), if_neg (not_not.mpr hw), if_neg (not_not.mpr hn)]

/-- A run-time register acts by its page (R43). -/
theorem State.hostWrite_runTime (hs : s.pageServed p = true) (hr : findRow p o = some r) (hh : ¬headerWrite o)
    (hc : r.cf = 0) (hw : r.w1c = 0) (hn : r.rt + r.wo ≠ 0) : s.hostWrite p o v = s.runWrite p o v := by
  rw [State.hostWrite_plain v hs hr hh, if_neg (not_not.mpr hc), if_neg (not_not.mpr hw), if_pos hn]

theorem State.hostWrite_config (hs : s.pageServed p = true) (hr : findRow p o = some r) (hh : ¬headerWrite o)
    (hc : r.cf ≠ 0) : s.hostWrite p o v = s.configWrite p o v := by
  rw [State.hostWrite_plain v hs hr hh, if_pos hc]

/-- A configuration write of a page that is not DISABLED is ignored (R38). -/
theorem State.configWrite_ignored (hd : s.pageState p ≠ .disabled) : s.configWrite p o v = s.ignoredWrite p o := by
  unfold State.configWrite
  simp [hd]

/-- What the write of a configuration register of a DISABLED page brings with it (R41, R119, R237, R355). -/
def State.configFollows (s : State) (p : Page) (o : Nat) (v : Word) : State :=
  match p with
  | .can c => if o = R.CAN.FLTW1 then s.fltCommit c.val v.toNat else s
  | .mod => s.invalidShow
  | .sns n => if o = R.SNS.CFG then s.absentClear n else s
  | _ => s

theorem State.configWrite_stored (hd : s.pageState p = .disabled) :
    s.configWrite p o v = ((if o = R.PAGE.CFG_REF then s.disarm p 1 else s).wr p o v).configFollows p o v := by
  unfold State.configWrite
  exact (if_neg (by simp [hd])).trans (by cases p <;> rfl)

/-- Most configuration registers are stored and no more. -/
theorem State.configFollows_none (hm : p ≠ .mod) (hk : ∀ k, p = .can k → o ≠ R.CAN.FLTW1)
    (hn : ∀ n, p = .sns n → o ≠ R.SNS.CFG) : s.configFollows p o v = s := by
  unfold State.configFollows
  split
  · next k => exact if_neg (hk k rfl)
  · exact absurd rfl hm
  · next n => exact if_neg (hn n rfl)
  · rfl

end

/-! ### A write of FLAGS (R3, R34) -/

/-- FLAGS after the bits named are cleared, before IGNORED and the ring error follow. -/
def State.flagsMasked (s : State) (p : Page) (mask : Word) : State :=
  s.wr p R.PAGE.FLAGS (s.rd p R.PAGE.FLAGS &&& ~~~mask)

/-- With IGNWR goes IGNORED. -/
def State.ignoredCleared (s : State) (p : Page) (mask : Word) : State :=
  if flg mask 1 then s.wrn p R.PAGE.IGNORED 0 else s

/-- With RINGERR goes the record of the first ring stopped. -/
def State.ringErrCleared (s : State) (p : Page) (mask : Word) : State :=
  if p = .rng && flg mask 8 then s.wrb .rng R.RNG.ERR 7 false else s

theorem State.flagsClear_eq (s : State) (p : Page) (mask : Word) :
    s.flagsClear p mask = (((s.flagsMasked p mask).ignoredCleared p mask).ringErrCleared p mask).pageLine p := rfl

/-- The record of the first ring stopped is no register of a page's header. -/
theorem State.ringErrCleared_rd (s : State) (p : Page) (mask : Word) {u : Nat} (hu : u < 0x40) :
    (s.ringErrCleared p mask).rd p u = s.rd p u := by
  unfold State.ringErrCleared
  split
  · next h =>
    obtain ⟨rfl, -⟩ : p = .rng ∧ flg mask 8 = true := by simpa using h
    exact State.rd_wr_other _ (place_ne (by show 0xF00 ≠ u; omega))
  · rfl

theorem State.flagsClear_rd (s : State) {p : Page} (mask : Word) {u : Nat} (h : p ≠ .irq) (hu : u < 0x40) :
    (s.flagsClear p mask).rd p u = ((s.flagsMasked p mask).ignoredCleared p mask).rd p u := by
  rw [State.flagsClear_eq, State.pageLine_rd _ _ (flags_place_ne h (by omega)), State.ringErrCleared_rd _ _ _ hu]

theorem State.flagsClear_flags (s : State) {p : Page} (mask : Word) {r : RegRow} (h : p ≠ .irq)
    (hr : findRow p R.PAGE.FLAGS = some r) :
    (s.flagsClear p mask).rd p R.PAGE.FLAGS = s.rd p R.PAGE.FLAGS &&& ~~~mask &&& BitVec.ofNat 32 r.mask := by
  have e : (s.flagsMasked p mask).rd p R.PAGE.FLAGS = s.rd p R.PAGE.FLAGS &&& ~~~mask &&& BitVec.ofNat 32 r.mask :=
    State.rd_wr_same _ hr
  rw [State.flagsClear_rd s mask h (by decide), ← e]
  unfold State.ignoredCleared
  split
  · exact State.rd_wr_other _ (place_ne (by decide))
  · rfl

theorem State.flagsClear_ignored (s : State) {p : Page} {mask : Word} (h : p ≠ .irq) (hm : flg mask 1 = true) :
    (s.flagsClear p mask).rdn p R.PAGE.IGNORED = 0 := by
  unfold State.rdn
  rw [State.flagsClear_rd s mask h (by decide)]
  unfold State.ignoredCleared
  rw [if_pos hm, State.wrn, State.rd_wr_same _ (findRow_ignored p)]
  rfl

theorem State.flagsClear_mode (s : State) (p : Page) (mask : Word) : (s.flagsClear p mask).mode = s.mode :=
  (s.flagsClear_calm p mask).mode

theorem not_headerWrite_of_ge {o : Nat} (h : 0x18 ≤ o) : ¬headerWrite o := by
  unfold headerWrite R.PAGE.CTRL R.PAGE.FLAGS R.PAGE.FLAG_IE
  omega

section
variable {s : State} {p : Page} {o : Nat} {r : RegRow} {v : Word}

theorem State.hostWrite_stored (hs : s.pageServed p = true) (hr : findRow p o = some r) (hc : r.cf ≠ 0)
    (hh : ¬headerWrite o) (hd : s.pageState p = .disabled) :
    s.hostWrite p o v = ((if o = R.PAGE.CFG_REF then s.disarm p 1 else s).wr p o v).configFollows p o v := by
  rw [State.hostWrite_config v hs hr hh hc, State.configWrite_stored v hd]

/-- A configuration register that nothing follows from is stored. -/
theorem State.hostWrite_plainConfig (hs : s.pageServed p = true) (hr : findRow p o = some r) (hc : r.cf ≠ 0)
    (hh : ¬headerWrite o) (hd : s.pageState p = .disabled) (href : o ≠ R.PAGE.CFG_REF) (hm : p ≠ .mod)
    (hk : ∀ k, p = .can k → o ≠ R.CAN.FLTW1) (hn : ∀ n, p = .sns n → o ≠ R.SNS.CFG) :
    s.hostWrite p o v = s.wr p o v := by
  rw [State.hostWrite_stored hs hr hc hh hd, if_neg href, State.configFollows_none v hm hk hn]

/-- A write of CFG_REF disarms the signature check first (R41). -/
theorem State.hostWrite_cfgRef (hs : s.pageServed p = true) (hr : findRow p R.PAGE.CFG_REF = some r) (hc : r.cf ≠ 0)
    (hd : s.pageState p = .disabled) (hm : p ≠ .mod) :
    s.hostWrite p R.PAGE.CFG_REF v = (s.disarm p 1).wr p R.PAGE.CFG_REF v := by
  rw [State.hostWrite_stored hs hr hc (not_headerWrite_of_ge (by decide)) hd, if_pos rfl,
    State.configFollows_none v hm (fun _ _ => by decide) (fun _ _ => by decide)]

theorem State.hostWrite_filter {k : Fin 4} (hs : s.pageServed (.can k) = true)
    (hr : findRow (.can k) R.CAN.FLTW1 = some r) (hc : r.cf ≠ 0) (hd : s.pageState (.can k) = .disabled) :
    s.hostWrite (.can k) R.CAN.FLTW1 v = (s.wr (.can k) R.CAN.FLTW1 v).fltCommit k.val v.toNat := by
  rw [State.hostWrite_stored hs hr hc (not_headerWrite_of_ge (by decide)) hd, if_neg (by decide)]
  simp [State.configFollows]

theorem State.hostWrite_ringConfig {n : Fin 16} (hs : s.pageServed (.sns n) = true)
    (hr : findRow (.sns n) R.SNS.CFG = some r) (hc : r.cf ≠ 0) (hd : s.pageState (.sns n) = .disabled) :
    s.hostWrite (.sns n) R.SNS.CFG v = (s.wr (.sns n) R.SNS.CFG v).absentClear n := by
  rw [State.hostWrite_stored hs hr hc (not_headerWrite_of_ge (by decide)) hd, if_neg (by decide)]
  simp [State.configFollows]

/-- A configuration register is neither FLAGS nor IGNORED. -/
theorem config_not_status (hr : findRow p o = some r) (hc : r.cf ≠ 0) : o ≠ R.PAGE.FLAGS ∧ o ≠ R.PAGE.IGNORED := by
  constructor
  · rintro rfl
    rw [findRow_flags] at hr
    cases hr
    exact hc rfl
  · rintro rfl
    rw [findRow_ignored] at hr
    cases hr
    exact hc rfl

end

end Sys2Proof.Machine
end

section
/-! SUPPORT. The scrubber (R39 to R41) and the OUT entry it can end in (R21 to R23). -/

namespace Sys2Proof.Machine

open Sys2Proof

/-! ### CRCs fit a register -/

theorem crcBit_lt {poly c : Nat} (hp : poly < 2 ^ 32) (hc : c < 2 ^ 32) : crcBit poly c < 2 ^ 32 := by
  unfold crcBit
  split
  · exact Nat.xor_lt_two_pow (by omega) hp
  · omega

theorem crcByte_lt {poly c : Nat} (b : Byte) (hp : poly < 2 ^ 32) (hc : c < 2 ^ 32) : crcByte poly c b < 2 ^ 32 := by
  have hb : b.toNat < 2 ^ 32 := lt_trans b.isLt (by decide)
  unfold crcByte
  iterate 8 refine crcBit_lt hp ?_
  exact Nat.xor_lt_two_pow hc hb

theorem crcRun_lt {poly : Nat} (hp : poly < 2 ^ 32) (l : List Byte) {c : Nat} (hc : c < 2 ^ 32) :
    crcRun poly c l < 2 ^ 32 := by
  induction l generalizing c with
  | nil => exact hc
  | cons b t ih => exact ih (crcByte_lt b hp hc)

theorem crc32c_lt (l : List Byte) : crc32c l < 2 ^ 32 :=
  Nat.xor_lt_two_pow (crcRun_lt (by decide) l (by decide)) (by decide)

/-! ### What the scrubber reads -/

theorem cfgOffsets_bounds {p : Page} {o : Nat} (h : o ∈ cfgOffsets p) : 0x40 ≤ o ∧ o < 0x1000 := by
  have hc : pageCfgEnd p < 0x1000 := by cases p <;> simp [pageCfgEnd]
  unfold cfgOffsets at h
  split at h
  · cases h
  · obtain ⟨k, hk, rfl⟩ := List.mem_map.mp h
    have := List.mem_range.mp hk
    omega

/-- Nothing that the scrubber checks differs: of the registers at most CFG_LIVE, and of the rest neither the pages, nor
the filter lists, nor the limit set, nor the module's state, nor what is in the MRAM. -/
structure ScrubSame (s t : State) : Prop where
  rd : ∀ p o, o < 0x1000 → o ≠ R.PAGE.CFG_LIVE → t.rd p o = s.rd p o
  pages : t.pages = s.pages
  can : t.can = s.can
  prot : t.prot = s.prot
  mram : t.mram = s.mram
  mode : t.mode = s.mode
  bootPhase : t.sys.bootPhase = s.sys.bootPhase

theorem ScrubSame.refl (s : State) : ScrubSame s s := ⟨fun _ _ _ _ => rfl, rfl, rfl, rfl, rfl, rfl, rfl⟩

theorem ScrubSame.trans {r s t : State} (h : ScrubSame r s) (k : ScrubSame s t) : ScrubSame r t where
  rd p o l n := (k.rd p o l n).trans (h.rd p o l n)
  pages := k.pages.trans h.pages
  can := k.can.trans h.can
  prot := k.prot.trans h.prot
  mram := k.mram.trans h.mram
  mode := k.mode.trans h.mode
  bootPhase := k.bootPhase.trans h.bootPhase

theorem State.elapse_scrubSame (s : State) (dt : Nat) : ScrubSame s (s.elapse dt) := by
  constructor <;> simp

theorem State.wrnLive_scrubSame (s : State) (p : Page) (v : Nat) : ScrubSame s (s.wrn p R.PAGE.CFG_LIVE v) where
  rd q o l n := by
    refine State.rd_wr_other _ ?_
    by_cases h : p = q
    · subst h; exact place_ne n.symm
    · exact page_apart h (by decide) l
  pages := by simp
  can := by simp
  prot := by simp
  mram := by simp
  mode := by simp [State.mode]
  bootPhase := by simp

section
variable {s t : State} (h : ScrubSame s t)
include h

theorem ScrubSame.running (p : Page) : t.running p = s.running p := by
  unfold State.running State.pageState
  rw [h.pages]

theorem ScrubSame.rdn (p : Page) {o : Nat} (l : o < 0x1000) (n : o ≠ R.PAGE.CFG_LIVE) : t.rdn p o = s.rdn p o := by
  unfold State.rdn
  rw [h.rd p o l n]

theorem ScrubSame.cfgCrc (p : Page) : t.cfgCrc p = s.cfgCrc p := by
  unfold State.cfgCrc
  congr 1
  refine List.flatMap_congr fun o ho => ?_
  obtain ⟨lo, hi⟩ := cfgOffsets_bounds ho
  rw [h.rdn p hi (show o ≠ 0x20 by omega)]

theorem ScrubSame.liveSig : t.liveSig = s.liveSig := by
  unfold State.liveSig
  congr 1
  refine List.flatMap_congr fun p _ => ?_
  rw [h.rdn p (by decide) (by decide)]

theorem ScrubSame.fltOk (c : Nat) : t.fltOk c = s.fltOk c := by
  unfold State.fltOk State.fltCrc State.rdf State.canSt
  rw [h.rdn _ (by decide) (by decide), h.rd _ _ (by decide) (by decide), h.can]

theorem ScrubSame.armed : t.armed = s.armed := by
  unfold State.armed State.rdb
  rw [h.rd _ _ (by decide) (by decide)]

end

/-! ### One page (R39, R355) -/

/-- The filter list of a CAN controller does not match its FLT_REF (R355). -/
def State.listBad (s : State) (p : Page) : Bool :=
  match p with
  | .can c => !s.fltOk c.val
  | _ => false

/-- A RUNNING page whose configuration, or whose filter list, does not match its reference. -/
def State.pageBad (s : State) (p : Page) : Bool :=
  s.running p && (s.cfgCrc p != s.rdn p R.PAGE.CFG_REF || s.listBad p)

theorem State.pageBad_of_crc {s : State} {p : Page} (hr : s.running p = true)
    (hc : s.cfgCrc p ≠ s.rdn p R.PAGE.CFG_REF) : s.pageBad p = true := by
  simp [State.pageBad, hr, hc]

theorem State.pageBad_eq_false {s : State} {p : Page} (hc : s.running p = true → s.cfgCrc p = s.rdn p R.PAGE.CFG_REF)
    (hl : ∀ c : Fin 4, s.running (.can c) = true → s.fltOk c.val = true) : s.pageBad p = false := by
  unfold State.pageBad
  cases hr : s.running p with
  | false => rfl
  | true =>
    have list : s.listBad p = false := by
      unfold State.listBad
      split
      · next c => rw [hl c hr]; rfl
      · rfl
    simp [hc hr, list]

theorem ScrubSame.pageBad {s t : State} (h : ScrubSame s t) (p : Page) : t.pageBad p = s.pageBad p := by
  have list : t.listBad p = s.listBad p := by
    unfold State.listBad
    split
    · rw [h.fltOk]
    · rfl
  unfold State.pageBad
  rw [h.running, h.cfgCrc, h.rdn p (by decide) (by decide), list]

theorem State.scrubPage_eq (s : State) (p : Page) :
    s.scrubPage p = (s.pageBad p, if s.running p then s.wrn p R.PAGE.CFG_LIVE (s.cfgCrc p) else s) := by
  unfold State.scrubPage State.pageBad State.listBad
  cases s.running p <;> rfl

theorem State.scrubPage_scrubSame (s : State) (p : Page) : ScrubSame s (s.scrubPage p).2 := by
  rw [State.scrubPage_eq]
  dsimp only
  split
  · exact s.wrnLive_scrubSame ..
  · exact ScrubSame.refl s

/-- CFG_LIVE shows the CRC of the page's configuration. -/
def State.liveShown (s : State) (p : Page) : Prop := s.rdn p R.PAGE.CFG_LIVE = s.cfgCrc p

theorem State.wrnLive_liveShown (s : State) (p : Page) : (s.wrn p R.PAGE.CFG_LIVE (s.cfgCrc p)).liveShown p := by
  unfold State.liveShown
  rw [(s.wrnLive_scrubSame ..).cfgCrc, State.rdn_wrn_same _ (findRow_cfgLive p) (by decide)]
  exact Nat.mod_eq_of_lt (crc32c_lt _)

theorem State.scrubPage_shows {s : State} {p : Page} (h : s.running p = true) : (s.scrubPage p).2.liveShown p := by
  rw [State.scrubPage_eq, h]
  exact s.wrnLive_liveShown p

theorem State.scrubPage_keeps_shown {s : State} {p : Page} (h : s.liveShown p) (q : Page) :
    (s.scrubPage q).2.liveShown p := by
  rw [State.scrubPage_eq]
  dsimp only
  split
  · by_cases e : q = p
    · subst e; exact s.wrnLive_liveShown q
    · unfold State.liveShown
      rw [(s.wrnLive_scrubSame ..).cfgCrc, State.rdn_wrn_other (page_apart e (by decide) (by decide))]
      exact h
  · exact h

/-! ### The pages one after the other (R39) -/

/-- One page of a pass: the verdict so far, and the state. -/
def scrubNext (x : Bool × State) (p : Page) : Bool × State := (x.1 || (x.2.scrubPage p).1, (x.2.scrubPage p).2)

theorem scrubNext_scrubSame (x : Bool × State) (p : Page) : ScrubSame x.2 (scrubNext x p).2 :=
  x.2.scrubPage_scrubSame p

theorem foldl_scrubNext_scrubSame (l : List Page) (x : Bool × State) : ScrubSame x.2 (l.foldl scrubNext x).2 := by
  induction l generalizing x with
  | nil => exact ScrubSame.refl _
  | cons p l ih => exact (scrubNext_scrubSame x p).trans (ih _)

theorem foldl_scrubNext_verdict (l : List Page) (x : Bool × State) :
    (l.foldl scrubNext x).1 = (x.1 || l.any x.2.pageBad) := by
  induction l generalizing x with
  | nil => simp
  | cons p l ih =>
    have head : (scrubNext x p).1 = (x.1 || x.2.pageBad p) := by
      unfold scrubNext
      rw [State.scrubPage_eq]
    have tail : (scrubNext x p).2.pageBad = x.2.pageBad := funext (scrubNext_scrubSame x p).pageBad
    rw [List.foldl_cons, ih, head, tail, List.any_cons, Bool.or_assoc]

theorem foldl_scrubNext_keeps_shown (l : List Page) {x : Bool × State} {p : Page} (h : x.2.liveShown p) :
    (l.foldl scrubNext x).2.liveShown p := by
  induction l generalizing x with
  | nil => exact h
  | cons q l ih => exact ih (State.scrubPage_keeps_shown h q)

theorem foldl_scrubNext_shows {l : List Page} {x : Bool × State} {p : Page} (m : p ∈ l) (h : x.2.running p = true) :
    (l.foldl scrubNext x).2.liveShown p := by
  induction l generalizing x with
  | nil => cases m
  | cons q l ih =>
    rcases List.mem_cons.mp m with rfl | m
    · exact foldl_scrubNext_keeps_shown l (State.scrubPage_shows h)
    · exact ih m (by rw [(scrubNext_scrubSame x q).running]; exact h)

/-! ### A pass (R39 to R41) -/

/-- The state after every RUNNING page has been gone over. -/
def State.scrubPages (s : State) : State := (allPages.foldl scrubNext (false, s)).2

/-- The pass shows the live signature and counts itself. -/
def State.scrubShown (s : State) : State :=
  (s.scrubPages.wrn .cfgx R.CFGX.SIG_LIVE s.liveSig).inc .cfgx R.CFGX.SCRUBS

/-- The limit set is no longer the one its CRC in the MRAM is of (R242). -/
def State.limBad (s : State) : Bool :=
  (s.mode != .boot || 8 ≤ s.sys.bootPhase) && limCrcOf s.prot.lim s.prot.str != s.mram.limCrc

/-- A pass finds something. -/
def State.scrubFinds (s : State) : Bool :=
  allPages.any s.pageBad || (s.armed && s.liveSig != s.rdn .cfgx R.CFGX.SIG_STORED) || s.limBad

theorem ScrubSame.limBad {s t : State} (h : ScrubSame s t) : t.limBad = s.limBad := by
  unfold State.limBad
  rw [h.mode, h.bootPhase, h.prot, h.mram]

theorem ScrubSame.scrubFinds {s t : State} (h : ScrubSame s t) : t.scrubFinds = s.scrubFinds := by
  unfold State.scrubFinds
  rw [funext h.pageBad, h.armed, h.liveSig, h.rdn .cfgx (by decide) (by decide), h.limBad]

theorem State.scrubPages_scrubSame (s : State) : ScrubSame s s.scrubPages :=
  foldl_scrubNext_scrubSame allPages (false, s)

theorem State.scrubShown_rd {s : State} {p : Page} {o : Nat} (l : o < 0x1000)
    (h : p ≠ .cfgx ∨ o ≠ R.CFGX.SIG_LIVE ∧ o ≠ R.CFGX.SCRUBS) : s.scrubShown.rd p o = s.scrubPages.rd p o := by
  have apart : ∀ u < 0x1000, p ≠ .cfgx ∨ o ≠ u → Page.cfgx.base + u ≠ p.base + o := by
    intro u hu k
    by_cases e : p = .cfgx
    · subst e; exact place_ne (k.resolve_left (by simp)).symm
    · exact page_apart (Ne.symm e) hu l
  unfold State.scrubShown State.inc State.wrn
  rw [State.rd_wr_other _ (apart _ (by decide) (h.imp_right And.right)),
    State.rd_wr_other _ (apart _ (by decide) (h.imp_right And.left))]

theorem State.scrubShown_mode (s : State) : s.scrubShown.mode = s.mode := by
  rw [← s.scrubPages_scrubSame.mode]
  simp [State.scrubShown, State.mode]

theorem State.fw_trial (s : State) : s.fw.trial = s.mram.fw.trial := rfl

theorem State.scrubShown_trial (s : State) : s.scrubShown.fw.trial = s.fw.trial := by
  rw [State.fw_trial, State.fw_trial, ← s.scrubPages_scrubSame.mram]
  simp [State.scrubShown]

theorem State.scrubShown_limBad (s : State) : s.scrubShown.limBad = s.limBad := by
  rw [← s.scrubPages_scrubSame.limBad]
  unfold State.limBad State.mode State.scrubShown
  simp

theorem State.scrubShown_armed (s : State) : s.scrubShown.armed = s.armed := by
  rw [← s.scrubPages_scrubSame.armed]
  unfold State.armed State.rdb
  rw [State.scrubShown_rd (by decide) (.inr (by decide))]

theorem State.scrubShown_stored (s : State) :
    s.scrubShown.rdn .cfgx R.CFGX.SIG_STORED = s.rdn .cfgx R.CFGX.SIG_STORED := by
  rw [← s.scrubPages_scrubSame.rdn .cfgx (by decide) (by decide)]
  unfold State.rdn
  rw [State.scrubShown_rd (by decide) (.inr (by decide))]

theorem State.scrub_eq (s : State) :
    s.scrub = if s.scrubFinds then s.scrubShown.outCause 3 else s.scrubShown := by
  unfold State.scrub
  split
  next bad t e =>
    change allPages.foldl scrubNext (false, s) = (bad, t) at e
    have verdict : bad = (false || allPages.any s.pageBad) :=
      (congrArg Prod.fst e).symm.trans (foldl_scrubNext_verdict allPages (false, s))
    rw [Bool.false_or] at verdict
    have pages : t = s.scrubPages := (congrArg Prod.snd e).symm
    have shown : (t.wrn .cfgx R.CFGX.SIG_LIVE t.liveSig).inc .cfgx R.CFGX.SCRUBS = s.scrubShown := by
      rw [pages, s.scrubPages_scrubSame.liveSig, State.scrubShown]
    extract_lets sig shownState sigBad limBad
    have sigFound : sigBad = (s.armed && s.liveSig != s.rdn .cfgx R.CFGX.SIG_STORED) := by
      unfold sigBad shownState sig
      rw [shown, s.scrubShown_armed, s.scrubShown_stored, pages, s.scrubPages_scrubSame.liveSig]
    have limFound : limBad = s.limBad := by
      rw [← s.scrubShown_limBad, ← shown]
      rfl
    rw [verdict, sigFound, limFound, show shownState = s.scrubShown from shown]
    rfl

theorem State.scrubShown_scrubs (s : State) :
    s.scrubShown.rdn .cfgx R.CFGX.SCRUBS = satAdd 32 (s.rdn .cfgx R.CFGX.SCRUBS) 1 := by
  have row : findRow .cfgx R.CFGX.SCRUBS = some ⟨0xF04, 4, 1, 0, 0, 0, 0, 0xFFFFFFFF, [0]⟩ := by decide +kernel
  unfold State.scrubShown
  rw [State.rdn_inc_same row (by decide), State.rdn_wrn_other (place_ne (by decide)),
    s.scrubPages_scrubSame.rdn .cfgx (by decide) (by decide)]

theorem State.scrubShown_sigLive (s : State) : s.scrubShown.rdn .cfgx R.CFGX.SIG_LIVE = s.liveSig := by
  have row : findRow .cfgx R.CFGX.SIG_LIVE = some ⟨0x808, 4, 1, 0, 0, 0, 0, 0xFFFFFFFF, [0]⟩ := by decide +kernel
  unfold State.scrubShown State.inc
  rw [State.rdn_wrn_other (place_ne (by decide)), State.rdn_wrn_same _ row (by decide)]
  exact Nat.mod_eq_of_lt (crc32c_lt _)

theorem State.scrubShown_cfgLive {s : State} {p : Page} (h : s.running p = true) :
    s.scrubShown.rdn p R.PAGE.CFG_LIVE = s.cfgCrc p := by
  have shown : s.scrubPages.liveShown p := foldl_scrubNext_shows (mem_allPages p) h
  unfold State.rdn
  rw [State.scrubShown_rd (by decide) (.inr (by decide)), ← s.scrubPages_scrubSame.cfgCrc]
  exact shown

/-! ### OUT (R21 to R23) -/

theorem State.rdf_outCause_wrf {s : State} {v : Nat} (h : v < 2 ^ 16) :
    (s.wrf .sys R.SYS.OUTCAUSE 15 0 v).rdf .sys R.SYS.OUTCAUSE 15 0 = v := by
  have row : findRow .sys R.SYS.OUTCAUSE = some ⟨0x80C, 4, 1, 0, 0, 0, 0, 0xFFFFFFFF, [0]⟩ := by decide +kernel
  rw [State.rdf_wrf_same v row (by decide) (show bits 0xFFFFFFFF 15 0 = 2 ^ 16 - 1 from rfl)]
  exact Nat.mod_eq_of_lt h

/-- An OUT cause detected in BOOT, UNCONFIGURED, READY or a role (R21, R22): the module is in OUT, with the outputs of
R22, the cause alone in the bitmap, and the image as much on trial as it was. -/
theorem State.outEntry_of_serves {s : State} {n : Nat} (h : s.mode.serves = true) (hn : n < 16) :
    (s.outEntry n).mode = .out ∧ (s.outEntry n).outputsSafe ∧
      (s.outEntry n).rdf .sys R.SYS.OUTCAUSE 15 0 = 2 ^ n ∧ (s.outEntry n).fw.trial = s.fw.trial := by
  unfold State.outEntry
  rw [if_pos h]
  extract_lets prior forced sent recorded shown
  have book : (s.bookRole false).mram.fw.trial = s.mram.fw.trial := by
    unfold State.bookRole
    dsimp only
    split <;> rfl
  have safe : shown.outputsSafe :=
    (((State.sendFrame_calm ..).trans (State.record_calm ..)).trans (State.wrf_calm ..)).safe (State.forceSafe_safe _)
  have cause : shown.rdf .sys R.SYS.OUTCAUSE 15 0 = 2 ^ n :=
    State.rdf_outCause_wrf (Nat.pow_lt_pow_right (by decide) hn)
  have image : shown.mram.fw = (s.bookRole false).mram.fw := by
    rw [(State.wrf_within ..).images rfl, (State.record_within ..).images rfl, (State.sendFrame_within ..).images rfl,
      (State.forceSafe_within ..).images rfl]
  clear_value shown
  exact ⟨rfl, safe, cause, (congrArg FwMram.trial image).trans book⟩

theorem State.outCause_of_serves {s : State} {n : Nat} (h : s.mode.serves = true) (ht : s.fw.trial = false)
    (hn : n < 16) :
    (s.outCause n).mode = .out ∧ (s.outCause n).outputsSafe ∧ (s.outCause n).rdf .sys R.SYS.OUTCAUSE 15 0 = 2 ^ n := by
  obtain ⟨mode, safe, cause, trial⟩ := State.outEntry_of_serves h hn
  have e : s.outCause n = s.outEntry n := by
    unfold State.outCause State.trialOut
    simp [trial, ht]
  rw [e]
  exact ⟨mode, safe, cause⟩

theorem exec_scrubPass_of_serves {s : State} (dt : Nat) (h : s.mode.serves = true) :
    exec (.scrubPass dt) s = .next (s.elapse dt).scrub := by
  rw [exec_scrubPass]
  unfold execScrubPass
  simp [h]

/-- A pass that finds something is OUT cause [3] (R39, R41). -/
theorem exec_scrubPass_finds {s : State} (dt : Nat) (h : s.mode.serves = true) (ht : s.fw.trial = false)
    (hf : s.scrubFinds = true) :
    ∃ t, exec (.scrubPass dt) s = .next t ∧ t.mode = .out ∧ t.outputsSafe ∧ t.rdf .sys R.SYS.OUTCAUSE 15 0 = 8 := by
  have same := s.elapse_scrubSame dt
  have found : (s.elapse dt).scrubFinds = true := same.scrubFinds.trans hf
  refine ⟨(s.elapse dt).scrubShown.outCause 3, ?_, State.outCause_of_serves ?_ ?_ (by decide)⟩
  · rw [exec_scrubPass_of_serves dt h, State.scrub_eq, if_pos found]
  · rw [State.scrubShown_mode, same.mode]
    exact h
  · rw [State.scrubShown_trial, State.fw_trial, same.mram]
    exact ht

/-- A pass that finds nothing. -/
theorem exec_scrubPass_clean {s : State} (dt : Nat) (h : s.mode.serves = true) (hf : s.scrubFinds = false) :
    exec (.scrubPass dt) s = .next (s.elapse dt).scrubShown := by
  have found : (s.elapse dt).scrubFinds = false := (s.elapse_scrubSame dt).scrubFinds.trans hf
  rw [exec_scrubPass_of_serves dt h, State.scrub_eq, if_neg (by simp [found])]

end Sys2Proof.Machine
end

section
/-! Register writes and scrub passes. -/

open Sys2Proof Sys2Proof.Machine

/-- Settles O27: a host write goes by the row of its register, and a pass of the scrubber by what `State.scrubFinds`
says of the state before it. -/
theorem writesObeyTheAccessCode : Obligations.WritesObeyTheAccessCode := by
  unfold Obligations.WritesObeyTheAccessCode
  refine ⟨fun c dt p o v s e hw he served => ?_, fun dt s serves trial found => ?_,
    fun dt s serves trial armed differs => ?_, fun dt s serves armed limits pages lists => ?_⟩
  · subst he
    have es : (s.elapse dt).pageServed p = true := (s.elapse_pageServed dt p).trans served
    have est := s.elapse_pageState dt p
    rw [exec_of_writeOf hw]
    refine ⟨fun unused => congrArg _ (State.hostWrite_unused v es unused),
      fun r row => ⟨?_, ?_, ?_, ?_, ?_, ?_, ?_, ?_, ?_, ?_, ?_⟩⟩
    · intro cf plain disabled notRef notMod notFilter notRing
      rw [State.hostWrite_plainConfig es row cf plain (est.trans disabled) notRef notMod notFilter notRing]
      exact ⟨rfl, State.rd_wr_same v row⟩
    · rintro cf - disabled rfl notMod
      rw [State.hostWrite_cfgRef es row cf (est.trans disabled) notMod]
    · rintro cf plain disabled rfl
      rw [State.hostWrite_stored es row cf plain (est.trans disabled)]
      rfl
    · rintro k cf disabled rfl rfl
      rw [State.hostWrite_filter es row cf (est.trans disabled)]
    · rintro n cf disabled rfl rfl
      rw [State.hostWrite_ringConfig es row cf (est.trans disabled)]
    · intro cf plain busy notIrq
      have fits := findRow_lt row
      obtain ⟨notFlags, notIgnored⟩ := config_not_status row cf
      rw [State.hostWrite_config v es row plain cf, State.configWrite_ignored v (est.trans_ne busy)]
      refine ⟨_, rfl, State.ignoredWrite_flag _ o notIrq, ?_, fun first => ?_, ?_⟩
      · rw [State.ignoredWrite_count _ o notIrq, State.elapse_rdf]
      · exact State.ignoredWrite_offset notIrq fits ((State.elapse_rdf ..).trans first)
      · rw [State.ignoredWrite_rd _ notIrq fits notFlags notIgnored, State.elapse_rd]
    · rintro rfl notIrq
      rw [State.hostWrite_flags v es]
      refine ⟨_, rfl, ?_, State.flagsClear_ignored _ notIrq, ?_⟩
      · rw [State.flagsClear_flags _ v notIrq row, State.elapse_rd]
      · rw [State.flagsClear_mode, State.elapse_mode]
    · rintro rfl
      rw [State.hostWrite_flagIe v es row]
    · intro cf w1c plain
      rw [State.hostWrite_w1c v es row plain cf w1c, State.elapse_rd]
    · intro cf w1c readOnly plain
      rw [State.hostWrite_readOnly v es row plain cf w1c readOnly]
    · intro cf w1c writable plain
      rw [State.hostWrite_runTime v es row plain cf w1c writable]
  · obtain ⟨p, m, running, crc⟩ := found
    have bad : allPages.any s.pageBad = true := List.any_eq_true.mpr ⟨p, m, State.pageBad_of_crc running crc⟩
    exact exec_scrubPass_finds dt serves trial (by simp [State.scrubFinds, bad])
  · exact exec_scrubPass_finds dt serves trial (by simp [State.scrubFinds, armed, differs])
  · have same := s.elapse_scrubSame dt
    have good : allPages.any s.pageBad = false :=
      List.any_eq_false.mpr fun p m => by simp [State.pageBad_eq_false (pages p m) lists]
    have clean : s.scrubFinds = false := by simp [State.scrubFinds, State.limBad, good, armed, limits]
    refine ⟨_, exec_scrubPass_clean dt serves clean, ?_, ?_, ?_, fun p _ running => ?_⟩
    · rw [State.scrubShown_mode, same.mode]
    · rw [State.scrubShown_scrubs, State.elapse_rdn]
    · rw [State.scrubShown_sigLive, same.liveSig]
    · rw [State.scrubShown_cfgLive ((same.running p).trans running), same.cfgCrc]
end

section
/-! SUPPORT. The frame of every command (Machine/Footprint.lean), from the masks of Laws/Frame*.lean. -/

namespace Sys2Proof.Machine

open Sys2Proof

theorem Ends.touches {K : Nat} {l : List Part} {s : State} {o : Host.Outcome State Fault Refusal}
    (h : Ends (Within K []) s o) (e : partMask l = K) : Ends (Touches l) s o :=
  h.mono fun _ _ w => w.touches e

/-- The same beside the page a command names. -/
theorem Ends.touchesAt {K : Nat} {p : Page} {l : List Part} {s : State} {o : Host.Outcome State Fault Refusal}
    (h : Ends (Within K [p]) s o) (e : partMask l = K) : Ends (Touches (.regs p.kind :: l)) s o :=
  h.mono fun _ _ w => w.touchesAt e

/-- Every command leaves what lies outside its footprint as it was: the parts listed for it are the mask of what its
meaning may write. -/
theorem exec_touches (c : Instr) (s : State) : Ends (Touches (writes c)) s (exec c s) := by
  cases c with
  | powerOn => exact .of_eq (exec_powerOn ..) ((execPowerOn_within ..).touches rfl)
  | supplyOutOfRange => exact .of_eq (exec_supplyOutOfRange ..) ((execSupplyOutOfRange_within ..).touches rfl)
  | supplyHoldOffExpiry => exact .of_eq (exec_supplyHoldOffExpiry ..) ((execSupplyHoldOffExpiry_within ..).touches rfl)
  | resetNLow => exact .of_eq (exec_resetNLow ..) ((execResetNLow_within ..).touches rfl)
  | resetNRelease => exact .of_eq (exec_resetNRelease ..) ((execResetNRelease_within ..).touches rfl)
  | bootPhaseDone => exact .of_eq (exec_bootPhaseDone ..) ((execBootPhaseDone_within ..).touches rfl)
  | bootTimeout => exact .of_eq (exec_bootTimeout ..) ((execBootTimeout_within ..).touches rfl)
  | sysRst => exact .of_eq (exec_sysRst ..) ((execSysRst_within ..).touches rfl)
  | outRestart => exact .of_eq (exec_outRestart ..) ((execOutRestart_within ..).touches rfl)
  | lockstepMismatch => exact .of_eq (exec_lockstepMismatch ..) ((execLockstepMismatch_within ..).touches rfl)
  | uncorrectableEccError =>
    exact .of_eq (exec_uncorrectableEccError ..) ((execUncorrectableEccError_within ..).touches rfl)
  | watchdogExpiry => exact .of_eq (exec_watchdogExpiry ..) ((execWatchdogExpiry_within ..).touches rfl)
  | outputLoopbackFailure =>
    exact .of_eq (exec_outputLoopbackFailure ..) ((execOutputLoopbackFailure_within ..).touches rfl)
  | clockMonitorFault => exact .of_eq (exec_clockMonitorFault ..) ((execClockMonitorFault_within ..).touches rfl)
  | vioBankFault => exact .of_eq (exec_vioBankFault ..) ((execVioBankFault_within ..).touches rfl)
  | aon32Loss => exact .of_eq (exec_aon32Loss ..) ((execAon32Loss_within ..).touches rfl)
  | diodeOverLimit => exact .of_eq (exec_diodeOverLimit ..) ((execDiodeOverLimit_within ..).touches rfl)
  | thermalCoolExpiry => exact .of_eq (exec_thermalCoolExpiry ..) ((execThermalCoolExpiry_within ..).touches rfl)
  | pfwFall => exact .of_eq (exec_pfwFall ..) ((execPfwFall_within ..).touches rfl)
  | pfwRise => exact .of_eq (exec_pfwRise ..) ((execPfwRise_within ..).touches rfl)
  | roleFormation => exact .of_eq (exec_roleFormation ..) ((execRoleFormation_within ..).touches rfl)
  | formationWaitExpiry => exact .of_eq (exec_formationWaitExpiry ..) ((execFormationWaitExpiry_within ..).touches rfl)
  | formationJoinRetry => exact .of_eq (exec_formationJoinRetry ..) ((execFormationJoinRetry_within ..).touches rfl)
  | contactorRelease => exact .of_eq (exec_contactorRelease ..) ((execContactorRelease_within ..).touches rfl)
  | dispatchEnable => exact .of_eq (exec_dispatchEnable ..) ((execDispatchEnable_within ..).touches rfl)
  | limitWrite => exact .of_eq (exec_limitWrite ..) ((execLimitWrite_within ..).touches rfl)
  | roleAssign => exact .of_eq (exec_roleAssign ..) ((execRoleAssign_within ..).touches rfl)
  | plannedRelay => exact .of_eq (exec_plannedRelay ..) ((execPlannedRelay_within ..).touches rfl)
  | strongboxClear => exact .of_eq (exec_strongboxClear ..) ((execStrongboxClear_within ..).touches rfl)
  | fwActivate => exact .of_eq (exec_fwActivate ..) ((execFwActivate_within ..).touches rfl)
  | keyLoad => exact .of_eq (exec_keyLoad ..) ((execKeyLoad_within ..).touches rfl)
  | configSignatureCommit =>
    exact .of_eq (exec_configSignatureCommit ..) ((execConfigSignatureCommit_within ..).touches rfl)
  | calibrationCycle => exact .of_eq (exec_calibrationCycle ..) ((execCalibrationCycle_within ..).touches rfl)
  | eventInputEffect => exact .of_eq (exec_eventInputEffect ..) ((execEventInputEffect_within ..).touches rfl)
  | completionRecordRelease =>
    exact .of_eq (exec_completionRecordRelease ..) ((execCompletionRecordRelease_within ..).touches rfl)
  | pageEnable => exact .of_eq (exec_pageEnable ..) ((execPageEnable_within ..).touchesAt rfl)
  | blockStartDone => exact .of_eq (exec_blockStartDone ..) ((execBlockStartDone_within ..).touchesAt rfl)
  | pageDisable => exact .of_eq (exec_pageDisable ..) ((execPageDisable_within ..).touchesAt rfl)
  | blockStopped => exact .of_eq (exec_blockStopped ..) ((execBlockStopped_within ..).touchesAt rfl)
  | blockFault => exact .of_eq (exec_blockFault ..) ((execBlockFault_within ..).touchesAt rfl)
  | configWrite => exact .of_eq (exec_configWrite ..) ((execConfigWrite_within ..).touchesAt rfl)
  | flagsClear => exact .of_eq (exec_flagsClear ..) ((execFlagsClear_within ..).touchesAt rfl)
  | registerWrite => exact .of_eq (exec_registerWrite ..) ((execRegisterWrite_within ..).touchesAt rfl)
  | scrubPass => exact .of_eq (exec_scrubPass ..) ((execScrubPass_within ..).touches rfl)
  | barAccessRejected => exact .of_eq (exec_barAccessRejected ..) ((execBarAccessRejected_within ..).touches rfl)
  | linkReset => exact .of_eq (exec_linkReset ..) ((execLinkReset_within ..).touches rfl)
  | spiWriteFrame => exact .of_eq (exec_spiWriteFrame ..) ((execSpiWriteFrame_within ..).touches rfl)
  | spiReadFrame => exact .of_eq (exec_spiReadFrame ..) ((execSpiReadFrame_within ..).touches rfl)
  | ringDoorbell => exact .of_eq (exec_ringDoorbell ..) ((execRingDoorbell_within ..).touches rfl)
  | ringRestart => exact .of_eq (exec_ringRestart ..) ((execRingRestart_within ..).touches rfl)
  | ringDrainTimeout => exact .of_eq (exec_ringDrainTimeout ..) ((execRingDrainTimeout_within ..).touches rfl)
  | tickBoundary => exact .of_eq (exec_tickBoundary ..) ((execTickBoundary_within ..).touches rfl)
  | inputDeadline => exact .of_eq (exec_inputDeadline ..) ((execInputDeadline_within ..).touches rfl)
  | stageBoundary => exact .of_eq (exec_stageBoundary ..) ((execStageBoundary_within ..).touches rfl)
  | stageStepRun => exact .of_eq (exec_stageStepRun ..) ((execStageStepRun_within ..).touches rfl)
  | bistDone => exact .of_eq (exec_bistDone ..) ((execBistDone_within ..).touches rfl)
  | stepPublished => exact .of_eq (exec_stepPublished ..) ((execStepPublished_within ..).touches rfl)
  | forecastBoundary => exact .of_eq (exec_forecastBoundary ..) ((execForecastBoundary_within ..).touches rfl)
  | forecastPublished => exact .of_eq (exec_forecastPublished ..) ((execForecastPublished_within ..).touches rfl)
  | calibrationDeadline => exact .of_eq (exec_calibrationDeadline ..) ((execCalibrationDeadline_within ..).touches rfl)
  | journalWriteStart => exact .of_eq (exec_journalWriteStart ..) ((execJournalWriteStart_within ..).touches rfl)
  | journalWriteDone => exact .of_eq (exec_journalWriteDone ..) ((execJournalWriteDone_within ..).touches rfl)
  | parameterSetWrite => exact .of_eq (exec_parameterSetWrite ..) ((execParameterSetWrite_within ..).touches rfl)
  | parameterSetScrub => exact .of_eq (exec_parameterSetScrub ..) ((execParameterSetScrub_within ..).touches rfl)
  | limitTableWrite => exact .of_eq (exec_limitTableWrite ..) ((execLimitTableWrite_within ..).touches rfl)
  | commandCoachReceived =>
    exact .of_eq (exec_commandCoachReceived ..) ((execCommandCoachReceived_within ..).touches rfl)
  | dataCoachReceived => exact .of_eq (exec_dataCoachReceived ..) ((execDataCoachReceived_within ..).touches rfl)
  | alertCoachReceived => exact .of_eq (exec_alertCoachReceived ..) ((execAlertCoachReceived_within ..).touches rfl)
  | repeatCoachSend => exact .of_eq (exec_repeatCoachSend ..) ((execRepeatCoachSend_within ..).touches rfl)
  | farWaitExpiry => exact .of_eq (exec_farWaitExpiry ..) ((execFarWaitExpiry_within ..).touches rfl)
  | symbolLockLoss => exact .of_eq (exec_symbolLockLoss ..) ((execSymbolLockLoss_within ..).touches rfl)
  | frontEndLost => exact .of_eq (exec_frontEndLost ..) ((execFrontEndLost_within ..).touches rfl)
  | enumerationWaitExpiry =>
    exact .of_eq (exec_enumerationWaitExpiry ..) ((execEnumerationWaitExpiry_within ..).touches rfl)
  | challengeDue => exact .of_eq (exec_challengeDue ..) ((execChallengeDue_within ..).touches rfl)
  | challengeRetry => exact .of_eq (exec_challengeRetry ..) ((execChallengeRetry_within ..).touches rfl)
  | challengeAll => exact .of_eq (exec_challengeAll ..) ((execChallengeAll_within ..).touches rfl)
  | reenum => exact .of_eq (exec_reenum ..) ((execReenum_within ..).touches rfl)
  | relayedCompartment => exact .of_eq (exec_relayedCompartment ..) ((execRelayedCompartment_within ..).touches rfl)
  | verdict => exact .of_eq (exec_verdict ..) ((execVerdict_within ..).touches rfl)
  | mckselChange => exact .of_eq (exec_mckselChange ..) ((execMckselChange_within ..).touches rfl)
  | clockLoss => exact .of_eq (exec_clockLoss ..) ((execClockLoss_within ..).touches rfl)
  | stuckRun => exact .of_eq (exec_stuckRun ..) ((execStuckRun_within ..).touches rfl)
  | indexLock => exact .of_eq (exec_indexLock ..) ((execIndexLock_within ..).touches rfl)
  | stagePathSample => exact .of_eq (exec_stagePathSample ..) ((execStagePathSample_within ..).touches rfl)
  | fastFilterOutput => exact .of_eq (exec_fastFilterOutput ..) ((execFastFilterOutput_within ..).touches rfl)
  | tripRelease => exact .of_eq (exec_tripRelease ..) ((execTripRelease_within ..).touches rfl)
  | manSet => exact .of_eq (exec_manSet ..) ((execManSet_within ..).touches rfl)
  | manClr => exact .of_eq (exec_manClr ..) ((execManClr_within ..).touches rfl)
  | controlSample => exact .of_eq (exec_controlSample ..) ((execControlSample_within ..).touches rfl)
  | pwmUpdatePoint => exact .of_eq (exec_pwmUpdatePoint ..) ((execPwmUpdatePoint_within ..).touches rfl)
  | loopStateDigest => exact .of_eq (exec_loopStateDigest ..) ((execLoopStateDigest_within ..).touches rfl)
  | spHostWrite => exact .of_eq (exec_spHostWrite ..) ((execSpHostWrite_within ..).touches rfl)
  | measWrite => exact .of_eq (exec_measWrite ..) ((execMeasWrite_within ..).touches rfl)
  | dutyWrite => exact .of_eq (exec_dutyWrite ..) ((execDutyWrite_within ..).touches rfl)
  | dispSpWrite => exact .of_eq (exec_dispSpWrite ..) ((execDispSpWrite_within ..).touches rfl)
  | tcoolWrite => exact .of_eq (exec_tcoolWrite ..) ((execTcoolWrite_within ..).touches rfl)
  | zoneStale => exact .of_eq (exec_zoneStale ..) ((execZoneStale_within ..).touches rfl)
  | spinPeriod => exact .of_eq (exec_spinPeriod ..) ((execSpinPeriod_within ..).touches rfl)
  | spinLosTimeout => exact .of_eq (exec_spinLosTimeout ..) ((execSpinLosTimeout_within ..).touches rfl)
  | setPointStreamFrame => exact .of_eq (exec_setPointStreamFrame ..) ((execSetPointStreamFrame_within ..).touches rfl)
  | streamTimeout => exact .of_eq (exec_streamTimeout ..) ((execStreamTimeout_within ..).touches rfl)
  | impedancePublished => exact .of_eq (exec_impedancePublished ..) ((execImpedancePublished_within ..).touches rfl)
  | unblock => exact .of_eq (exec_unblock ..) ((execUnblock_within ..).touches rfl)
  | unblockAll => exact .of_eq (exec_unblockAll ..) ((execUnblockAll_within ..).touches rfl)
  | zselLatch => exact .of_eq (exec_zselLatch ..) ((execZselLatch_within ..).touches rfl)
  | sensorRestore => exact .of_eq (exec_sensorRestore ..) ((execSensorRestore_within ..).touches rfl)
  | mselLatch => exact .of_eq (exec_mselLatch ..) ((execMselLatch_within ..).touches rfl)
  | testWindowClose => exact .of_eq (exec_testWindowClose ..) ((execTestWindowClose_within ..).touches rfl)
  | stuckReset => exact .of_eq (exec_stuckReset ..) ((execStuckReset_within ..).touches rfl)
  | stuckResetEnd => exact .of_eq (exec_stuckResetEnd ..) ((execStuckResetEnd_within ..).touches rfl)
  | espitonData => exact .of_eq (exec_espitonData ..) ((execEspitonData_within ..).touches rfl)
  | espitonEcho => exact .of_eq (exec_espitonEcho ..) ((execEspitonEcho_within ..).touches rfl)
  | espitonPeriod => exact .of_eq (exec_espitonPeriod ..) ((execEspitonPeriod_within ..).touches rfl)
  | heartbeatSend => exact .of_eq (exec_heartbeatSend ..) ((execHeartbeatSend_within ..).touches rfl)
  | heartbeat => exact .of_eq (exec_heartbeat ..) ((execHeartbeat_within ..).touches rfl)
  | peerSilent => exact .of_eq (exec_peerSilent ..) ((execPeerSilent_within ..).touches rfl)
  | linkDown => exact .of_eq (exec_linkDown ..) ((execLinkDown_within ..).touches rfl)
  | linkUp => exact .of_eq (exec_linkUp ..) ((execLinkUp_within ..).touches rfl)
  | interlockAgreement => exact .of_eq (exec_interlockAgreement ..) ((execInterlockAgreement_within ..).touches rfl)
  | peerDriveEnHigh => exact .of_eq (exec_peerDriveEnHigh ..) ((execPeerDriveEnHigh_within ..).touches rfl)
  | driveEnRaise => exact .of_eq (exec_driveEnRaise ..) ((execDriveEnRaise_within ..).touches rfl)
  | mirror => exact .of_eq (exec_mirror ..) ((execMirror_within ..).touches rfl)
  | mirrorGap => exact .of_eq (exec_mirrorGap ..) ((execMirrorGap_within ..).touches rfl)
  | stageDigest => exact .of_eq (exec_stageDigest ..) ((execStageDigest_within ..).touches rfl)
  | loopDigest => exact .of_eq (exec_loopDigest ..) ((execLoopDigest_within ..).touches rfl)
  | repairReq => exact .of_eq (exec_repairReq ..) ((execRepairReq_within ..).touches rfl)
  | repairData => exact .of_eq (exec_repairData ..) ((execRepairData_within ..).touches rfl)
  | repairAll => exact .of_eq (exec_repairAll ..) ((execRepairAll_within ..).touches rfl)
  | healthSend => exact .of_eq (exec_healthSend ..) ((execHealthSend_within ..).touches rfl)
  | healthNow => exact .of_eq (exec_healthNow ..) ((execHealthNow_within ..).touches rfl)
  | health => exact .of_eq (exec_health ..) ((execHealth_within ..).touches rfl)
  | healthStale => exact .of_eq (exec_healthStale ..) ((execHealthStale_within ..).touches rfl)
  | abdicate => exact .of_eq (exec_abdicate ..) ((execAbdicate_within ..).touches rfl)
  | tandemService => exact .of_eq (exec_tandemService ..) ((execTandemService_within ..).touches rfl)
  | relaySwitch => exact .of_eq (exec_relaySwitch ..) ((execRelaySwitch_within ..).touches rfl)
  | renewTimer => exact .of_eq (exec_renewTimer ..) ((execRenewTimer_within ..).touches rfl)
  | probeTimer => exact .of_eq (exec_probeTimer ..) ((execProbeTimer_within ..).touches rfl)
  | witnessProbe => exact .of_eq (exec_witnessProbe ..) ((execWitnessProbe_within ..).touches rfl)
  | witnessRenew => exact .of_eq (exec_witnessRenew ..) ((execWitnessRenew_within ..).touches rfl)
  | witnessAcquire => exact .of_eq (exec_witnessAcquire ..) ((execWitnessAcquire_within ..).touches rfl)
  | witnessYield => exact .of_eq (exec_witnessYield ..) ((execWitnessYield_within ..).touches rfl)
  | witnessQuietEnd => exact .of_eq (exec_witnessQuietEnd ..) ((execWitnessQuietEnd_within ..).touches rfl)
  | leaseGranted => exact .of_eq (exec_leaseGranted ..) ((execLeaseGranted_within ..).touches rfl)
  | leaseRefused => exact .of_eq (exec_leaseRefused ..) ((execLeaseRefused_within ..).touches rfl)
  | witnessState => exact .of_eq (exec_witnessState ..) ((execWitnessState_within ..).touches rfl)
  | backoffExpiry => exact .of_eq (exec_backoffExpiry ..) ((execBackoffExpiry_within ..).touches rfl)
  | leaseViewExpiry => exact .of_eq (exec_leaseViewExpiry ..) ((execLeaseViewExpiry_within ..).touches rfl)
  | witnessLost => exact .of_eq (exec_witnessLost ..) ((execWitnessLost_within ..).touches rfl)
  | witnessReturn => exact .of_eq (exec_witnessReturn ..) ((execWitnessReturn_within ..).touches rfl)
  | stageFrameWrite => exact .of_eq (exec_stageFrameWrite ..) ((execStageFrameWrite_within ..).touches rfl)
  | wayFreeze => exact .of_eq (exec_wayFreeze ..) ((execWayFreeze_within ..).touches rfl)
  | releaseSegment => exact .of_eq (exec_releaseSegment ..) ((execReleaseSegment_within ..).touches rfl)
  | exportSegment => exact .of_eq (exec_exportSegment ..) ((execExportSegment_within ..).touches rfl)
  | abortSegment => exact .of_eq (exec_abortSegment ..) ((execAbortSegment_within ..).touches rfl)
  | exportChunk => exact .of_eq (exec_exportChunk ..) ((execExportChunk_within ..).touches rfl)
  | autoExportStart => exact .of_eq (exec_autoExportStart ..) ((execAutoExportStart_within ..).touches rfl)
  | burstCaptureStop => exact .of_eq (exec_burstCaptureStop ..) ((execBurstCaptureStop_within ..).touches rfl)
  | burstCopyDone => exact .of_eq (exec_burstCopyDone ..) ((execBurstCopyDone_within ..).touches rfl)
  | strongboxWriteStart => exact .of_eq (exec_strongboxWriteStart ..) ((execStrongboxWriteStart_within ..).touches rfl)
  | strongboxWriteDone => exact .of_eq (exec_strongboxWriteDone ..) ((execStrongboxWriteDone_within ..).touches rfl)
  | tokenRefill => exact .of_eq (exec_tokenRefill ..) ((execTokenRefill_within ..).touches rfl)
  | cursorSeek => exact .of_eq (exec_cursorSeek ..) ((execCursorSeek_within ..).touches rfl)
  | cursorNext => exact .of_eq (exec_cursorNext ..) ((execCursorNext_within ..).touches rfl)
  | cursorDone => exact .of_eq (exec_cursorDone ..) ((execCursorDone_within ..).touches rfl)
  | strongboxExportChunk =>
    exact .of_eq (exec_strongboxExportChunk ..) ((execStrongboxExportChunk_within ..).touches rfl)
  | strongboxExportFlush =>
    exact .of_eq (exec_strongboxExportFlush ..) ((execStrongboxExportFlush_within ..).touches rfl)
  | canTransmitAttempt => exact .of_eq (exec_canTransmitAttempt ..) ((execCanTransmitAttempt_within ..).touches rfl)
  | canAttemptEnd => exact .of_eq (exec_canAttemptEnd ..) ((execCanAttemptEnd_within ..).touches rfl)
  | canFrameReceived => exact .of_eq (exec_canFrameReceived ..) ((execCanFrameReceived_within ..).touches rfl)
  | busOffRecovery => exact .of_eq (exec_busOffRecovery ..) ((execBusOffRecovery_within ..).touches rfl)
  | canCancel => exact .of_eq (exec_canCancel ..) ((execCanCancel_within ..).touches rfl)
  | canCancelAll => exact .of_eq (exec_canCancelAll ..) ((execCanCancelAll_within ..).touches rfl)
  | canRecover => exact .of_eq (exec_canRecover ..) ((execCanRecover_within ..).touches rfl)
  | rxrel => exact .of_eq (exec_rxrel ..) ((execRxrel_within ..).touches rfl)
  | rxwRead => exact .of_eq (exec_rxwRead ..) ((execRxwRead_within ..).touches rfl)
  | fltw1Commit => exact .of_eq (exec_fltw1Commit ..) ((execFltw1Commit_within ..).touches rfl)
  | witnessResend => exact .of_eq (exec_witnessResend ..) ((execWitnessResend_within ..).touches rfl)
  | ethTransmit => exact .of_eq (exec_ethTransmit ..) ((execEthTransmit_within ..).touches rfl)
  | ethFrameReceived => exact .of_eq (exec_ethFrameReceived ..) ((execEthFrameReceived_within ..).touches rfl)
  | arpRequest => exact .of_eq (exec_arpRequest ..) ((execArpRequest_within ..).touches rfl)
  | pairAnnounce => exact .of_eq (exec_pairAnnounce ..) ((execPairAnnounce_within ..).touches rfl)
  | prpSupervision => exact .of_eq (exec_prpSupervision ..) ((execPrpSupervision_within ..).touches rfl)
  | ethLinkChange => exact .of_eq (exec_ethLinkChange ..) ((execEthLinkChange_within ..).touches rfl)
  | timeSync => exact .of_eq (exec_timeSync ..) ((execTimeSync_within ..).touches rfl)
  | ptpAnnounce => exact .of_eq (exec_ptpAnnounce ..) ((execPtpAnnounce_within ..).touches rfl)
  | delayResp => exact .of_eq (exec_delayResp ..) ((execDelayResp_within ..).touches rfl)
  | delayReq => exact .of_eq (exec_delayReq ..) ((execDelayReq_within ..).touches rfl)
  | timeTransmitPeriod => exact .of_eq (exec_timeTransmitPeriod ..) ((execTimeTransmitPeriod_within ..).touches rfl)
  | holdoverEntry => exact .of_eq (exec_holdoverEntry ..) ((execHoldoverEntry_within ..).touches rfl)
  | irqSourceAssert => exact .of_eq (exec_irqSourceAssert ..) ((execIrqSourceAssert_within ..).touches rfl)
  | extIrqPin => exact .of_eq (exec_extIrqPin ..) ((execExtIrqPin_within ..).touches rfl)
  | targetFire => exact .of_eq (exec_targetFire ..) ((execTargetFire_within ..).touches rfl)
  | irqClaim => exact .of_eq (exec_irqClaim ..) ((execIrqClaim_within ..).touches rfl)
  | irqComplete => exact .of_eq (exec_irqComplete ..) ((execIrqComplete_within ..).touches rfl)
  | irqPark => exact .of_eq (exec_irqPark ..) ((execIrqPark_within ..).touches rfl)
  | irqSourceConfig => exact .of_eq (exec_irqSourceConfig ..) ((execIrqSourceConfig_within ..).touches rfl)
  | openUpload => exact .of_eq (exec_openUpload ..) ((execOpenUpload_within ..).touches rfl)
  | closeUpload => exact .of_eq (exec_closeUpload ..) ((execCloseUpload_within ..).touches rfl)
  | abortUpload => exact .of_eq (exec_abortUpload ..) ((execAbortUpload_within ..).touches rfl)
  | bootRetry => exact .of_eq (exec_bootRetry ..) ((execBootRetry_within ..).touches rfl)
  | firmwareChunk => exact .of_eq (exec_firmwareChunk ..) ((execFirmwareChunk_within ..).touches rfl)
  | windowChunk => exact .of_eq (exec_windowChunk ..) ((execWindowChunk_within ..).touches rfl)
  | activationReboot => exact .of_eq (exec_activationReboot ..) ((execActivationReboot_within ..).touches rfl)
  | activationCancel => exact .of_eq (exec_activationCancel ..) ((execActivationCancel_within ..).touches rfl)
  | trialEnd => exact .of_eq (exec_trialEnd ..) ((execTrialEnd_within ..).touches rfl)
  | svCommit => exact .of_eq (exec_svCommit ..) ((execSvCommit_within ..).touches rfl)
  | dieModelUpdate => exact .of_eq (exec_dieModelUpdate ..) ((execDieModelUpdate_within ..).touches rfl)
  | powerSample => exact .of_eq (exec_powerSample ..) ((execPowerSample_within ..).touches rfl)
  | nselLatch => exact .of_eq (exec_nselLatch ..) ((execNselLatch_within ..).touches rfl)
  | mtLoRead => exact .of_eq (exec_mtLoRead ..) ((execMtLoRead_within ..).touches rfl)
  | networkSessionStateMirror =>
    exact .of_eq (exec_networkSessionStateMirror ..) ((execNetworkSessionStateMirror_within ..).touches rfl)
  | delayRequestSend => exact .of_eq (exec_delayRequestSend ..) ((execDelayRequestSend_within ..).touches rfl)
  | canBusIntegration => exact .of_eq (exec_canBusIntegration ..) ((execCanBusIntegration_within ..).touches rfl)
  | peerAliveLow => exact .of_eq (exec_peerAliveLow ..) ((execPeerAliveLow_within ..).touches rfl)
  | joinTimeout => exact .of_eq (exec_joinTimeout ..) ((execJoinTimeout_within ..).touches rfl)
  | activationDue => exact .of_eq (exec_activationDue ..) ((execActivationDue_within ..).touches rfl)
  | malformedCommandMessage =>
    exact .of_eq (exec_malformedCommandMessage ..) ((execMalformedCommandMessage_within ..).touches rfl)

end Sys2Proof.Machine
end

section
/-! SUPPORT. No command stops the block (log entry 72). -/

namespace Sys2Proof.Machine

open Sys2Proof

/-- An outcome that is a next state. -/
def Answers (o : Host.Outcome State Fault Refusal) : Prop := ∃ t, o = .next t

theorem Answers.next (t : State) : Answers (.next t) := ⟨t, rfl⟩

theorem Answers.ite {c : Prop} {_ : Decidable c} {a b : Host.Outcome State Fault Refusal} (h : Answers a)
    (k : Answers b) : Answers (if c then a else b) := by split <;> assumption

/-- Every branch of every command's meaning ends in a next state. The commands come by the shape of their meaning: those
without a branch, those of one, two or three conditions, and those that look into a part of the state or an operand. -/
theorem exec_answers (c : Instr) (s : State) : Answers (exec c s) := by
  cases c with
  | powerOn | supplyHoldOffExpiry | sysRst | lockstepMismatch | watchdogExpiry | clockMonitorFault | vioBankFault |
      aon32Loss | pfwRise | roleFormation | contactorRelease | dispatchEnable | limitWrite | roleAssign |
      plannedRelay | strongboxClear | fwActivate | keyLoad | configSignatureCommit | calibrationCycle | configWrite
      | flagsClear | registerWrite | ringDoorbell | ringRestart | bistDone | journalWriteDone | parameterSetWrite |
      limitTableWrite | challengeAll | reenum | fastFilterOutput | tripRelease | manSet | manClr | spHostWrite |
      measWrite | dutyWrite | dispSpWrite | tcoolWrite | setPointStreamFrame | unblock | unblockAll | zselLatch |
      sensorRestore | mselLatch | espitonData | espitonEcho | peerDriveEnHigh | repairAll | healthNow | witnessProbe
      | witnessRenew | witnessAcquire | witnessYield | leaseGranted | leaseRefused | witnessState | wayFreeze |
      releaseSegment | exportSegment | abortSegment | strongboxWriteStart | strongboxWriteDone | tokenRefill |
      cursorSeek | cursorNext | canCancel | canCancelAll | canRecover | rxrel | fltw1Commit | witnessResend |
      irqSourceAssert | irqClaim | irqComplete | irqPark | irqSourceConfig | openUpload | closeUpload | abortUpload
      | bootRetry | windowChunk | nselLatch | peerAliveLow =>
    exact .next _
  | resetNLow | resetNRelease | bootPhaseDone | bootTimeout | outRestart | diodeOverLimit | thermalCoolExpiry |
      pfwFall | formationWaitExpiry | formationJoinRetry | pageEnable | blockStartDone | pageDisable | blockStopped
      | blockFault | scrubPass | barAccessRejected | linkReset | spiWriteFrame | spiReadFrame | ringDrainTimeout |
      inputDeadline | stageBoundary | forecastBoundary | calibrationDeadline | parameterSetScrub | repeatCoachSend |
      symbolLockLoss | frontEndLost | enumerationWaitExpiry | challengeDue | challengeRetry | relayedCompartment |
      verdict | clockLoss | stuckRun | stagePathSample | loopStateDigest | zoneStale | spinLosTimeout |
      streamTimeout | stuckReset | stuckResetEnd | heartbeatSend | linkDown | linkUp | interlockAgreement |
      driveEnRaise | mirror | mirrorGap | stageDigest | loopDigest | repairReq | healthSend | health | healthStale |
      abdicate | renewTimer | probeTimer | witnessQuietEnd | backoffExpiry | leaseViewExpiry | witnessReturn |
      burstCopyDone | strongboxExportFlush | busOffRecovery | rxwRead | arpRequest | pairAnnounce | prpSupervision |
      ethLinkChange | delayReq | holdoverEntry | targetFire | trialEnd | svCommit | dieModelUpdate | mtLoRead |
      networkSessionStateMirror | delayRequestSend | canBusIntegration | malformedCommandMessage =>
    exact .ite (.next _) (.next _)
  | supplyOutOfRange | outputLoopbackFailure | tickBoundary | dataCoachReceived | mckselChange | espitonPeriod |
      heartbeat | repairData | delayResp | timeTransmitPeriod | powerSample =>
    exact .ite (.next _) (.ite (.next _) (.next _))
  | peerSilent | witnessLost =>
    exact .ite (.ite (.next _) (.next _)) (.next _)
  | alertCoachReceived | spinPeriod | tandemService | timeSync | extIrqPin =>
    exact .ite (.next _) (.ite (.next _) (.ite (.next _) (.next _)))
  | uncorrectableEccError =>
    rw [exec_uncorrectableEccError]
    unfold execUncorrectableEccError
    dsimp only
    split <;> exact .next _
  | eventInputEffect =>
    rw [exec_eventInputEffect]
    unfold execEventInputEffect
    dsimp only
    split <;> exact .next _
  | completionRecordRelease =>
    rw [exec_completionRecordRelease]
    unfold execCompletionRecordRelease
    dsimp only
    split <;> exact .next _
  | stageStepRun =>
    rw [exec_stageStepRun]
    unfold execStageStepRun
    dsimp only
    split <;> exact .next _
  | stepPublished =>
    rw [exec_stepPublished]
    unfold execStepPublished
    dsimp only
    split
    exacts [.next _, .ite (.next _) (.next _)]
  | forecastPublished =>
    rw [exec_forecastPublished]
    unfold execForecastPublished
    dsimp only
    split
    exacts [.ite (.next _) (.next _), .next _]
  | journalWriteStart =>
    rw [exec_journalWriteStart]
    unfold execJournalWriteStart
    dsimp only
    split
    exacts [.ite (.next _) (.next _), .next _]
  | commandCoachReceived => exact .ite (.next _) (.ite (.next _) (.ite (.next _) (.ite (.next _) (.next _))))
  | farWaitExpiry => exact .ite (.next _) (.ite (.ite (.next _) (.next _)) (.ite (.next _) (.next _)))
  | indexLock =>
    rw [exec_indexLock]
    unfold execIndexLock
    dsimp only
    refine .ite (.next _) ?_
    split
    exacts [.next _, .ite (.next _) (.next _)]
  | controlSample =>
    rw [exec_controlSample]
    unfold execControlSample
    extract_lets t
    clear_value t
    exact .ite (.next _) (.next _)
  | pwmUpdatePoint =>
    rw [exec_pwmUpdatePoint]
    unfold execPwmUpdatePoint
    extract_lets t
    clear_value t
    exact .ite (.next _) (.ite (.next _) (.next _))
  | impedancePublished =>
    rw [exec_impedancePublished]
    unfold execImpedancePublished
    dsimp only
    split <;> exact .next _
  | testWindowClose =>
    rw [exec_testWindowClose]
    unfold execTestWindowClose
    dsimp only
    split
    exacts [.next _, .ite (.next _) (.ite (.next _) (.next _))]
  | relaySwitch => exact .ite (.next _) (.ite (.next _) (.ite (.next _) (.ite (.next _) (.next _))))
  | stageFrameWrite =>
    rw [exec_stageFrameWrite]
    unfold execStageFrameWrite
    dsimp only
    refine .ite (.next _) ?_
    split
    exacts [.next _, .next _, by split; exacts [.next _, .ite (.next _) (.next _)]]
  | exportChunk =>
    rw [exec_exportChunk]
    unfold execExportChunk
    dsimp only
    split <;> exact .next _
  | autoExportStart =>
    rw [exec_autoExportStart]
    unfold execAutoExportStart
    dsimp only
    split
    exacts [.next _, .ite (.next _) (.next _)]
  | burstCaptureStop =>
    rw [exec_burstCaptureStop]
    unfold execBurstCaptureStop
    dsimp only
    split
    exacts [.ite (.next _) (.next _), .next _]
  | cursorDone =>
    rw [exec_cursorDone]
    unfold execCursorDone
    dsimp only
    refine .ite (.next _) ?_
    split <;> exact .next _
  | strongboxExportChunk =>
    rw [exec_strongboxExportChunk]
    unfold execStrongboxExportChunk
    dsimp only
    refine .ite (.next _) ?_
    split
    exacts [.next _, .ite (.next _) (by split; exacts [.next _, .ite (.next _) (.next _)])]
  | canTransmitAttempt =>
    rw [exec_canTransmitAttempt]
    unfold execCanTransmitAttempt
    dsimp only
    refine .ite (.next _) ?_
    split <;> exact .next _
  | canAttemptEnd =>
    rw [exec_canAttemptEnd]
    unfold execCanAttemptEnd
    dsimp only
    split
    exacts [.next _, by split; exacts [.ite (.next _) (.next _), .ite (.next _) (.ite (.next _) (.ite (.next _) (.next _)))]]
  | canFrameReceived =>
    rw [exec_canFrameReceived]
    unfold execCanFrameReceived
    dsimp only
    refine .ite (.next _) ?_
    split
    exacts [.next _, .next _, .ite (.next _) (.ite (.next _) (by split; exacts [.next _, by split <;> exact .next _]))]
  | ethTransmit =>
    rw [exec_ethTransmit]
    unfold execEthTransmit
    dsimp only
    refine .ite (.next _) (.ite (.next _) ?_)
    split
    exacts [.next _, .ite (.next _) (.next _)]
  | ethFrameReceived =>
    rw [exec_ethFrameReceived]
    unfold execEthFrameReceived
    dsimp only
    refine .ite (.next _) (.ite (.next _) (.ite (.next _) ?_))
    split
    exacts [.ite (.next _) (.ite (.next _) (.next _)), .ite (.next _) (.next _)]
  | ptpAnnounce =>
    rw [exec_ptpAnnounce]
    unfold execPtpAnnounce
    dsimp only
    refine .ite (.next _) ?_
    split
    exacts [.next _, .ite (.next _) (.next _)]
  | firmwareChunk =>
    rw [exec_firmwareChunk]
    unfold execFirmwareChunk
    dsimp only
    split
    exacts [.next _, .ite (.next _) (.next _)]
  | activationReboot =>
    rw [exec_activationReboot]
    unfold execActivationReboot
    dsimp only
    split
    exacts [.ite (.next _) (.next _), .next _]
  | activationCancel =>
    rw [exec_activationCancel]
    unfold execActivationCancel
    dsimp only
    split
    exacts [.ite (.next _) (.next _), .next _]
  | joinTimeout =>
    rw [exec_joinTimeout]
    unfold execJoinTimeout
    dsimp only
    refine .ite ?_ (.next _)
    split <;> exact .next _
  | activationDue =>
    rw [exec_activationDue]
    unfold execActivationDue
    dsimp only
    split
    exacts [.ite (.next _) (.next _), .next _]

end Sys2Proof.Machine
end

section
/-! The block as a whole: the step, the frame, the queue and the wires. -/

open Sys2Proof Sys2Proof.Machine

/-- Settles O1: the queue of the state is what `step` looks at. -/
theorem stepRunsFront : Obligations.StepRunsFront := fun _ _ _ => rfl

/-- Settles O2: `step` has a case for the empty queue. -/
theorem emptyQueueIdles : Obligations.EmptyQueueIdles := by
  intro s empty
  unfold step
  rw [empty]

/-- Settles O3: no branch of a command's meaning ends in a fault or a refusal. -/
theorem everyCommandAnswers : Obligations.EveryCommandAnswers := exec_answers

/-- Settles O4: every command changes only the parts listed for it. -/
theorem commandsKeepTheirFootprint : Obligations.CommandsKeepTheirFootprint :=
  fun c s _ h => (exec_touches c s).of h

/-- Settles O9: every command keeps the queue, what went out and the count of free values drawn (`exec_steady`). -/
theorem queueAndWiresOnlyGrow : Obligations.QueueAndWiresOnlyGrow := by
  intro c s t h
  have keeps := ((exec_steady c s).of h).keeps
  exact ⟨keeps.pending, keeps.sent, keeps.free⟩

end

section
/-! SUPPORT. What a module reset and the start of BOOT leave (R17, R22, R432, R434, R436), and a failed attempt (R413). -/

namespace Sys2Proof.Machine

open Sys2Proof

/-! ### The failed attempts counted in the MRAM -/

theorem FwMram.writeSlot_failBoots (m : FwMram) (k : Nat) (v : FwSlot) : (m.writeSlot k v).failBoots = m.failBoots := by
  unfold FwMram.writeSlot FwMram.setSlot
  dsimp only
  split <;> rfl

theorem State.putSlot_failBoots (s : State) (k : Nat) (v : FwSlot) :
    (s.putSlot k v).mram.fw.failBoots = s.mram.fw.failBoots := by
  unfold State.putSlot
  split
  · extract_lets t
    have same : t.mram.fw = s.mram.fw := by
      unfold t
      split
      · rfl
      · exact (State.writeDeferred_within s).images rfl
    exact congrArg FwMram.failBoots same
  · exact FwMram.writeSlot_failBoots ..

theorem State.abandonUpload_failBoots (s : State) : s.abandonUpload.mram.fw.failBoots = s.mram.fw.failBoots := by
  unfold State.abandonUpload
  split
  · rfl
  · exact State.putSlot_failBoots ..

theorem State.bookRole_fw (s : State) (b : Bool) :
    (s.bookRole b).mram.fw.failBoots = s.mram.fw.failBoots ∧ (s.bookRole b).mram.fw.trial = s.mram.fw.trial := by
  unfold State.bookRole
  dsimp only
  split <;> exact ⟨rfl, rfl⟩

theorem State.settleMram_failBoots (s : State) (lost : Bool) :
    (s.settleMram lost).mram.fw.failBoots = s.mram.fw.failBoots := by
  unfold State.settleMram
  rw [(State.bookRole_fw ..).1, State.abandonUpload_failBoots]
  cases lost
  · exact congrArg FwMram.failBoots (((State.jrnFinish_within _).images rfl).trans ((State.sbxFinish_within _).images rfl))
  · exact congrArg FwMram.failBoots (((State.jrnTear_within _).images rfl).trans ((State.sbxTear_within _).images rfl))

theorem State.intoReset_failBoots (s : State) (lost way : Bool) :
    (s.intoReset lost way).mram.fw.failBoots = s.mram.fw.failBoots :=
  (State.settleMram_failBoots s.forceSafe lost).trans (congrArg FwMram.failBoots ((State.forceSafe_within s).images rfl))

/-! ### The start of BOOT -/

/-- RESET_N or a supply holds the module in RESET (R17, R432). -/
def State.heldInReset (s : State) : Bool := s.sys.rstNLow || !s.sys.vaonOk || !s.sys.vin12Ok || s.sys.holdOff

theorem State.tryBoot_of_held {s : State} (h : s.mode ≠ .reset ∨ s.heldInReset = true) : s.tryBoot = s := by
  unfold State.tryBoot
  dsimp only
  refine if_pos ?_
  unfold State.mode State.heldInReset at h
  simp only [Bool.or_eq_true, bne_iff_ne, or_assoc] at h ⊢
  exact h

/-- BOOT starts: MT counts from 0, the preferred slot runs, and the start is counted. -/
theorem State.tryBoot_starts {s : State} (m : s.mode = .reset) (h : s.heldInReset = false) :
    (∃ k, s.tryBoot.sys = { s.sys with mode := .boot, mt := 0, bootPhase := k }) ∧ s.tryBoot.fwu.run = s.fw.pref ∧
      s.tryBoot.mram.fw = { s.mram.fw.bootSlots with boots := satAdd 32 s.mram.fw.boots 1 } := by
  unfold State.mode at m
  unfold State.heldInReset at h
  simp only [Bool.or_eq_false_iff, and_assoc] at h
  unfold State.tryBoot
  dsimp only
  rw [if_neg (by simp [m, h])]
  split
  · rw [State.flag_sys, State.flag_fwu, State.flag_mram]
    exact ⟨⟨_, rfl⟩, rfl, rfl⟩
  · exact ⟨⟨_, rfl⟩, rfl, rfl⟩

theorem State.tryBoot_failBoots (s : State) : s.tryBoot.mram.fw.failBoots = s.mram.fw.failBoots := by
  by_cases h : s.mode ≠ .reset ∨ s.heldInReset = true
  · rw [State.tryBoot_of_held h]
  · obtain ⟨m, held⟩ := not_or.mp h
    rw [(State.tryBoot_starts (not_not.mp m) (Bool.eq_false_iff.mpr held)).2.2]
    rfl

/-- From RESET the module is in BOOT unless something holds it. -/
theorem State.tryBoot_afterReset {s : State} (m : s.mode = .reset) : AfterReset s.tryBoot := by
  cases held : s.heldInReset with
  | true =>
    rw [State.tryBoot_of_held (.inr held)]
    exact m.trans (if_pos held).symm
  | false =>
    obtain ⟨⟨k, sys⟩, -⟩ := State.tryBoot_starts m held
    unfold AfterReset State.mode
    rw [sys]
    exact (if_neg (Bool.eq_false_iff.mp held)).symm

theorem State.flag_restarted {s : State} {cause prior : Nat} (h : Restarted cause prior s) (p : Page) (n : Nat) :
    Restarted cause prior (s.flag p n) := by
  unfold Restarted State.outputsSafe at h ⊢
  simpa using h

theorem State.flag_afterReset {s : State} (h : AfterReset s) (p : Page) (n : Nat) : AfterReset (s.flag p n) := by
  unfold AfterReset State.mode at h ⊢
  rwa [State.flag_sys]

/-- The start of BOOT touches none of what a reset leaves. -/
theorem State.tryBoot_restarted {s : State} {cause prior : Nat} (h : Restarted cause prior s) :
    Restarted cause prior s.tryBoot := by
  unfold State.tryBoot
  dsimp only
  split
  · exact h
  · split
    · exact State.flag_restarted (by exact h) ..
    · exact h

/-! ### A module reset (R434, R436) -/

theorem State.countReset_restarted (s : State) (lost way : Bool) (cause prior : Nat) :
    Restarted cause prior ((s.intoReset lost way).countReset cause prior) :=
  ⟨rfl, rfl, ⟨rfl, rfl, fun _ _ => rfl⟩, rfl, rfl, rfl, rfl, by cases way <;> rfl, rfl, rfl⟩

/-- A module reset: the module is in RESET or BOOT, its volatile state is gone, and no attempt is counted as failed. -/
theorem State.moduleReset_restarts (s : State) (cause : Nat) (lost way : Bool) :
    AfterReset (s.moduleReset cause lost way) ∧ Restarted cause s.mode.code (s.moduleReset cause lost way) ∧
      (s.moduleReset cause lost way).mram.fw.failBoots = s.mram.fw.failBoots :=
  ⟨State.tryBoot_afterReset rfl, State.tryBoot_restarted (s.countReset_restarted ..),
    (State.tryBoot_failBoots _).trans (s.intoReset_failBoots lost way)⟩

/-! ### A failed attempt (R413) -/

/-- The module has been reset for a failed attempt of `s`, and the attempts counted as failed are `fails`. -/
structure FailedAttempt (s t : State) (fails : Nat) : Prop where
  after : AfterReset t
  restarted : Restarted 0x08 s.mode.code t
  failBoots : t.mram.fw.failBoots = fails

theorem State.moduleReset_failedAttempt {s t : State} {fails : Nat} (m : t.mode = s.mode)
    (f : t.mram.fw.failBoots = fails) : FailedAttempt s (t.moduleReset 0x08 false true) fails := by
  obtain ⟨after, restarted, count⟩ := t.moduleReset_restarts 0x08 false true
  exact ⟨after, m ▸ restarted, count.trans f⟩

theorem FailedAttempt.flag {s t : State} {fails : Nat} (h : FailedAttempt s t fails) (p : Page) (n : Nat) :
    FailedAttempt s (t.flag p n) fails :=
  ⟨State.flag_afterReset h.after .., State.flag_restarted h.restarted .., by rw [State.flag_mram, h.failBoots]⟩

theorem State.recordNow_same (s : State) (p : Page) (cls : Nat) (payload : List Byte) :
    (s.recordNow p cls payload).mode = s.mode ∧ (s.recordNow p cls payload).mram.fw = s.mram.fw :=
  ⟨(State.recordNow_within ..).mode rfl, (State.recordNow_within ..).images rfl⟩

theorem State.fallBack_failedAttempt (s : State) (k : Nat) : FailedAttempt s (s.fallBack k) s.mram.fw.failBoots := by
  unfold State.fallBack
  extract_lets old slotted fallen
  have mode : slotted.mode = s.mode := (State.putSlot_within ..).mode rfl
  have fails : slotted.mram.fw.failBoots = s.mram.fw.failBoots := State.putSlot_failBoots ..
  split
  · obtain ⟨sameMode, sameFw⟩ := fallen.recordNow_same .fwu 0x05 (fallen.fwPayload 2 k 0)
    exact (State.moduleReset_failedAttempt (sameMode.trans mode)
      ((congrArg FwMram.failBoots sameFw).trans fails)).flag ..
  · exact State.moduleReset_failedAttempt mode fails

/-- An attempt that fails is counted, and the module resets with the cause code of a failed attempt. -/
theorem State.failBoot_failedAttempt (s : State) :
    FailedAttempt s s.failBoot (satAdd 32 s.mram.fw.failBoots 1) := by
  unfold State.failBoot
  extract_lets k n counted recorded
  obtain ⟨mode, fw⟩ := counted.recordNow_same .fwu 0x05 (counted.fwPayload 1 k 0)
  have fails : recorded.mram.fw.failBoots = satAdd 32 s.mram.fw.failBoots 1 := congrArg FwMram.failBoots fw
  have sameMode : recorded.mode = s.mode := mode
  split
  · obtain ⟨after, restarted, count⟩ := recorded.fallBack_failedAttempt k
    exact ⟨after, sameMode ▸ restarted, count.trans fails⟩
  · exact State.moduleReset_failedAttempt sameMode fails

end Sys2Proof.Machine
end

section
/-! SUPPORT. OUT causes: from a state whose functions run, with an image on trial, and in OUT (R21 to R23, R413). -/

namespace Sys2Proof.Machine

open Sys2Proof

/-! ### The commands that detect a cause -/

/-- The time of a loopback mismatch is noted (R232). -/
def State.noteMismatch (s : State) (l : List (Nat × Nat)) : State := { s with sys := { s.sys with lbkMis := l } }

/-- What a command that detects OUT cause `n` does to a state `e`, once its time has passed: where the module's functions
run at most a loopback mismatch is noted before, and in OUT nothing. -/
structure Detects (n : Nat) (e : State) (o : Host.Outcome State Fault Refusal) : Prop where
  bit : n < 16
  serving : e.mode.serves = true → ∃ l, o = .next ((e.noteMismatch l).outCause n)
  out : e.mode = .out → o = .next (e.outCause n)

theorem Detects.always {n : Nat} {e : State} (h : n < 16) : Detects n e (.next (e.outCause n)) :=
  ⟨h, fun _ => ⟨e.sys.lbkMis, rfl⟩, fun _ => rfl⟩

theorem execOutputLoopbackFailure_detects (dt : Nat) (pad : OutStage) (s : State) :
    Detects 7 (s.elapse dt) (execOutputLoopbackFailure dt pad true s) := by
  unfold execOutputLoopbackFailure
  refine ⟨by decide, fun serves => ⟨sset 0 (s.elapse dt).sys.lbkMis (stageBit pad) (s.elapse dt).mt, ?_⟩,
    fun out => if_pos (by simp [out])⟩
  rw [State.elapse_mode] at serves
  have notOut : s.mode ≠ .out := fun k => by rw [k] at serves; cases serves
  dsimp only
  rw [if_neg (by simp [notOut]), if_neg (by simp [serves])]
  rfl

theorem exec_detects {c : Instr} {n : Nat} (h : outCauseOf c = some n) (s : State) :
    Detects n (s.elapse (outCauseDt c)) (exec c s) := by
  unfold outCauseOf at h
  split at h
  case h_1 dt island =>
    cases h
    exact .always (by cases island <;> decide)
  case h_2 dt place => cases place <;> cases h <;> exact .always (by decide)
  case h_3 dt => cases h; exact .always (by decide)
  case h_4 dt pad confirmed =>
    cases confirmed <;> cases h
    exact execOutputLoopbackFailure_detects ..
  case h_5 dt => cases h; exact .always (by decide)
  case h_6 dt bank =>
    split at h
    next drives =>
      cases h
      rw [exec_vioBankFault]
      unfold execVioBankFault
      dsimp only
      rw [if_pos drives]
      exact .always (by decide)
    next => cases h
  case h_7 => cases h

/-! ### Entry into OUT -/

theorem State.outEntry_first {s : State} (n : Nat) (h : s.mode.serves = true) :
    (s.outEntry n).sys.outPrior = s.mode.code ∧ (s.outEntry n).sys.outDurable = false ∧
      (s.outEntry n).mram.fw.failBoots = s.mram.fw.failBoots := by
  unfold State.outEntry
  rw [if_pos h]
  extract_lets prior forced sent recorded shown
  have image : shown.mram.fw = (s.bookRole false).mram.fw := by
    rw [(State.wrf_within ..).images rfl, (State.record_within ..).images rfl, (State.sendFrame_within ..).images rfl,
      (State.forceSafe_within ..).images rfl]
  clear_value shown
  exact ⟨rfl, rfl, (congrArg FwMram.failBoots image).trans (State.bookRole_fw ..).1⟩

/-- Without an image on trial an OUT cause is entry into OUT alone. -/
theorem State.outCause_of_no_trial {s : State} {n : Nat} (h : (s.outEntry n).fw.trial = false) :
    s.outCause n = s.outEntry n := by
  unfold State.outCause State.trialOut
  simp [h]

/-- With an image on trial, entry into OUT is a failed attempt (R413). -/
theorem State.outCause_failedAttempt {s : State} {n : Nat} (h : s.mode.serves = true) (trial : s.fw.trial = true)
    (hn : n < 16) :
    AfterReset (s.outCause n) ∧ Restarted 0x08 Mode.out.code (s.outCause n) ∧
      (s.outCause n).mram.fw.failBoots = satAdd 32 s.mram.fw.failBoots 1 := by
  obtain ⟨mode, -, -, onTrial⟩ := State.outEntry_of_serves h hn
  have fails : s.outCause n = (s.outEntry n).failBoot := by
    unfold State.outCause State.trialOut
    simp [mode, onTrial, trial]
  obtain ⟨after, restarted, count⟩ := (s.outEntry n).failBoot_failedAttempt
  rw [fails]
  exact ⟨after, mode ▸ restarted, by rw [count, (State.outEntry_first n h).2.2]⟩

/-! ### A further cause in OUT (R23) -/

theorem outCause_row : findRow .sys R.SYS.OUTCAUSE = some ⟨0x80C, 4, 1, 0, 0, 0, 0, 0xFFFFFFFF, [0]⟩ := by decide +kernel

theorem outCause_count_full : Full (RegRow.mask ⟨0x80C, 4, 1, 0, 0, 0, 0, 0xFFFFFFFF, [0]⟩) 31 16 := rfl

/-- A cause joins the bitmap while the record of the first one waits. -/
def State.joinCause (s : State) (n : Nat) : State :=
  { s with sbx := { s.sbx with lockedQ := addOutCause n s.sbx.lockedQ } }.wrf .sys R.SYS.OUTCAUSE 15 0
    (s.rdf .sys R.SYS.OUTCAUSE 15 0 ||| 2 ^ n)

theorem State.outCause_joins {s : State} {n : Nat} (out : s.mode = .out) (trial : s.fw.trial = false)
    (soon : s.mt ≤ s.sys.outMt + 1000)
    (waits : s.sbx.lockedQ.any (fun r => r.cls = 7 && r.payload.head? = some 1) = true) :
    s.outCause n = s.joinCause n := by
  have entry : s.outEntry n = s.joinCause n := by
    unfold State.outEntry
    rw [if_neg (by rw [out]; decide), if_pos out, if_pos (by rw [waits, decide_eq_true soon]; rfl)]
    rfl
  rw [State.outCause_of_no_trial, entry]
  rw [entry]
  unfold State.joinCause State.fw
  rw [State.wrf_mram]
  exact trial

theorem State.outCause_repeats {s : State} {n : Nat} (out : s.mode = .out) (trial : s.fw.trial = false)
    (late : s.sys.outMt + 1000 < s.mt) : s.outCause n = s.incf .sys R.SYS.OUTCAUSE 31 16 := by
  have entry : s.outEntry n = s.incf .sys R.SYS.OUTCAUSE 31 16 := by
    unfold State.outEntry
    rw [if_neg (by rw [out]; decide), if_pos out, if_neg (by simp; omega)]
  rw [State.outCause_of_no_trial, entry]
  rw [entry]
  unfold State.fw
  rw [State.incf_mram]
  exact trial

theorem State.joinCause_bitmap (s : State) {n : Nat} (hn : n < 16) :
    (s.joinCause n).rdf .sys R.SYS.OUTCAUSE 15 0 = s.rdf .sys R.SYS.OUTCAUSE 15 0 ||| 2 ^ n := by
  have old : s.rdf .sys R.SYS.OUTCAUSE 15 0 < 2 ^ 16 := Nat.mod_lt _ (by decide)
  exact State.rdf_outCause_wrf (Nat.or_lt_two_pow old (Nat.pow_lt_pow_right (by decide) hn))

/-! ### The scrub of the parameter sets (R144) -/

theorem exec_parameterSetScrub_finds {s : State} (dt : Nat) (run : s.running .est = true)
    (bad : ∃ n ∈ s.psUse, s.psCrc n ≠ s.rdn .est (R.EST.PS_REF n)) :
    exec (.parameterSetScrub dt) s = .next ((s.elapse dt).outCause 3) := by
  have use : (s.elapse dt).psUse = s.psUse := by
    unfold State.psUse
    simp
  have crc (n : Nat) : (s.elapse dt).psCrc n = s.psCrc n := by
    unfold State.psCrc State.psBytes
    simp
  rw [exec_parameterSetScrub]
  unfold execParameterSetScrub
  refine if_pos ?_
  simpa [run, use, crc] using bad

end Sys2Proof.Machine
end

section
/-! SETTLEMENT. OUT (R21 to R23). -/

open Sys2Proof Sys2Proof.Machine

/-- Settles O14: a command that detects a cause ends in `State.outCause`, which enters OUT, fails the attempt on trial, or
in OUT joins the bitmap or counts a repeat. -/
theorem outCausesEnterOut : Obligations.OutCausesEnterOut := by
  refine ⟨fun c n s cause serves => ?_, fun c n s e cause passed out trial => ?_, fun dt s serves run bad => ?_⟩
  · obtain ⟨bit, detected, -⟩ := exec_detects cause s
    obtain ⟨l, runs⟩ := detected (by rwa [State.elapse_mode])
    have servesStill : ((s.elapse (outCauseDt c)).noteMismatch l).mode.serves = true := by
      rw [← State.elapse_mode s (outCauseDt c)] at serves
      exact serves
    have image : ((s.elapse (outCauseDt c)).noteMismatch l).mram = s.mram := State.elapse_mram ..
    have onTrial : ((s.elapse (outCauseDt c)).noteMismatch l).fw.trial = s.fw.trial := congrArg (·.fw.trial) image
    refine ⟨fun trial => ⟨_, runs, ?_⟩, fun trial => ⟨_, runs, ?_⟩⟩
    · obtain ⟨mode, safe, bitmap, same⟩ := State.outEntry_of_serves servesStill bit
      obtain ⟨prior, durable, -⟩ := State.outEntry_first n servesStill
      rw [State.outCause_of_no_trial (same.trans (onTrial.trans trial))]
      exact ⟨mode, safe, prior.trans (congrArg Mode.code (State.elapse_mode ..)), bitmap, durable⟩
    · obtain ⟨after, restarted, count⟩ := State.outCause_failedAttempt servesStill (onTrial.trans trial) bit
      exact ⟨after, restarted, by rw [count, image]⟩
  · subst passed
    obtain ⟨bit, -, detected⟩ := exec_detects cause s
    have outStill : (s.elapse (outCauseDt c)).mode = .out := (State.elapse_mode ..).trans out
    have trialStill : (s.elapse (outCauseDt c)).fw.trial = false :=
      (congrArg (·.fw.trial) (State.elapse_mram ..)).trans trial
    refine ⟨fun soon waits => ⟨_, detected outStill, ?_⟩, fun late => ⟨_, detected outStill, ?_⟩⟩
    · rw [State.outCause_joins outStill trialStill (by simpa using soon) (by simpa using waits)]
      refine ⟨?_, (State.joinCause_bitmap _ bit).trans (by simp), ?_⟩
      · simpa [State.joinCause, State.mode] using outStill
      · simp [State.joinCause]
    · rw [State.outCause_repeats outStill trialStill (by simpa using late)]
      refine ⟨?_, by simp, ?_⟩
      · simpa [State.mode] using outStill
      · rw [State.rdf_incf_same outCause_row (by decide) outCause_count_full, State.elapse_rdf]
  · have servesStill : (s.elapse dt).mode.serves = true := by rwa [State.elapse_mode]
    have onTrial : (s.elapse dt).fw.trial = s.fw.trial := congrArg (·.fw.trial) (State.elapse_mram s dt)
    refine ⟨fun trial => ⟨_, exec_parameterSetScrub_finds dt run bad, ?_⟩,
      fun trial => ⟨_, exec_parameterSetScrub_finds dt run bad, ?_⟩⟩
    · exact State.outCause_of_serves servesStill (onTrial.trans trial) (by decide)
    · obtain ⟨after, restarted, -⟩ :=
        State.outCause_failedAttempt servesStill (onTrial.trans trial) (show 3 < 16 by decide)
      exact ⟨after, restarted⟩

end

section
/-! SUPPORT. The end of a BOOT phase (R437) and the check of the image (R409, R412). -/

namespace Sys2Proof.Machine

open Sys2Proof

/-! ### The check of the image -/

theorem keyAndSignature_eq_zero_iff (b : List Byte) :
    keyAndSignature b = 0 ↔ sha384 (slice b 0x20 96) = Config.otpKeyHash ∧
      ecdsaP384Verify (beNat (slice b 0x20 48)) (beNat (slice b 0x50 48)) (beNat (slice b 0x100 48))
        (beNat (slice b 0x130 48)) (sha384 (b.take 0x100 ++ b.drop 0x200)) = true := by
  unfold keyAndSignature
  dsimp only
  split
  next key => simp [(bne_iff_ne.mp key)]
  next key =>
    have same := not_not.mp (mt bne_iff_ne.mpr key)
    split
    next bad => simp_all
    next good => simp_all

/-- An image passes when no check finds anything. -/
theorem State.imageCheck_eq_zero_iff (s : State) (r : BootReport) : s.imageCheck r = 0 ↔ imagePasses s r := by
  unfold State.imageCheck imagePasses
  extract_lets v c
  have signed : c = 0 ↔ if v.bytes = [] then r.imageCode ≠ 2 ∧ r.imageCode ≠ 3
      else sha384 (slice v.bytes 0x20 96) = Config.otpKeyHash ∧
        ecdsaP384Verify (beNat (slice v.bytes 0x20 48)) (beNat (slice v.bytes 0x50 48)) (beNat (slice v.bytes 0x100 48))
          (beNat (slice v.bytes 0x130 48)) (sha384 (v.bytes.take 0x100 ++ v.bytes.drop 0x200)) = true := by
    unfold c
    by_cases factory : v.bytes = []
    · rw [if_pos factory, if_pos factory]
      split
      next wrong => simp_all; omega
      next => simp_all
    · rw [if_neg factory, if_neg factory]
      exact keyAndSignature_eq_zero_iff v.bytes
  rw [← signed]
  clear_value c
  cases v.usable <;> cases v.headOk <;> simp
  by_cases c = 0 <;> simp_all

theorem State.imagePasses_elapse (s : State) (dt : Nat) (r : BootReport) :
    imagePasses (s.elapse dt) r ↔ imagePasses s r := by
  unfold imagePasses State.fw
  rw [State.elapse_mram, State.elapse_fwu]

/-! ### The next phase -/

/-- What leaves the module's own state alone, then makes way for the next phase. -/
theorem Within.nextPhase {K : Nat} {ps : List Page} {s t : State} (h : Within K ps s t) (mode : K.testBit 0 = false)
    (sys : K.testBit 3 = false) : t.nextPhase.mode = s.mode ∧ t.nextPhase.sys.bootPhase = s.sys.bootPhase + 1 :=
  ⟨h.mode mode, congrArg (·.bootPhase + 1) (h.sys sys)⟩

theorem State.waySalvage_nextPhase (s : State) :
    s.waySalvage.nextPhase.mode = s.mode ∧ s.waySalvage.nextPhase.sys.bootPhase = s.sys.bootPhase + 1 :=
  s.waySalvage_within.nextPhase rfl rfl

theorem State.showOutCause_nextPhase (s : State) :
    s.sbxScan.showOutCause.nextPhase.mode = s.mode ∧
      s.sbxScan.showOutCause.nextPhase.sys.bootPhase = s.sys.bootPhase + 1 :=
  ((s.sbxScan_within.mono rfl).trans (s.sbxScan.showOutCause_within.mono rfl) : Within 0x800100000000 [] s _).nextPhase
    rfl rfl

theorem State.bootLimits_nextPhase (s : State) :
    s.jrnBoot.bootLimits.nextPhase.mode = s.mode ∧ s.jrnBoot.bootLimits.nextPhase.sys.bootPhase = s.sys.bootPhase + 1 :=
  ((s.jrnBoot_within.mono rfl).trans (s.jrnBoot.bootLimits_within.mono rfl) :
    Within 0x111008000100808080 [] s _).nextPhase rfl rfl

/-! ### The end of a phase -/

theorem exec_bootPhaseDone_eq {s : State} (dt : Nat) (r : BootReport) (boot : s.mode = .boot)
    (held : s.sys.pfwHold = false) : exec (.bootPhaseDone dt r) s = .next ((s.elapse dt).phaseDone r) := by
  rw [exec_bootPhaseDone]
  unfold execBootPhaseDone
  simp [boot, held]

theorem State.phaseDone_of_not_ok {s : State} {r : BootReport} (p : s.sys.bootPhase ≠ 0) (bad : r.ok = false) :
    s.phaseDone r = s.failBoot := by
  unfold State.phaseDone
  simp [p, bad]

/-- Phase 4: the outcome of the check stands in the slot. -/
def State.imageChecked (s : State) (r : BootReport) : State :=
  s.putSlot s.fwu.run { s.fw.slot s.fwu.run with check := s.imageCheck r }

theorem State.phaseDone_image {s : State} {r : BootReport} (p : s.sys.bootPhase = 4) (ok : r.ok = true) :
    s.phaseDone r = if s.imageCheck r = 0 then (s.imageChecked r).nextPhase else (s.imageChecked r).failBoot := by
  unfold State.phaseDone
  simp only [p, ok]
  rfl

theorem State.phaseDone_lanes {s : State} {r : BootReport} (p : s.sys.bootPhase = 8) (ok : r.ok = true)
    (many : 8 < popCount r.laneFails.toNat 32) : s.phaseDone r = s.failBoot := by
  unfold State.phaseDone
  simp [p, ok, many]

theorem State.phaseDone_next {s : State} {r : BootReport} (ok : r.ok = true)
    (p : s.sys.bootPhase = 3 ∨ s.sys.bootPhase = 6 ∨ s.sys.bootPhase = 7) :
    (s.phaseDone r).mode = s.mode ∧ (s.phaseDone r).sys.bootPhase = s.sys.bootPhase + 1 := by
  unfold State.phaseDone
  obtain p | p | p := p
  · simpa [p, ok] using s.waySalvage_nextPhase
  · simpa [p, ok] using s.showOutCause_nextPhase
  · simpa [p, ok] using s.bootLimits_nextPhase

/-- An attempt that fails once time has passed and the slot has been written is one of the state before. -/
theorem FailedAttempt.of_same {s t u : State} {n : Nat} (h : FailedAttempt t u (satAdd 32 t.mram.fw.failBoots 1))
    (mode : t.mode = s.mode) (fails : t.mram.fw.failBoots = n) :
    AfterReset u ∧ Restarted 0x08 s.mode.code u ∧ u.mram.fw.failBoots = satAdd 32 n 1 :=
  ⟨h.after, mode ▸ h.restarted, by rw [h.failBoots, fails]⟩

theorem State.elapse_failBoot (s : State) (dt : Nat) :
    AfterReset (s.elapse dt).failBoot ∧ Restarted 0x08 s.mode.code (s.elapse dt).failBoot ∧
      (s.elapse dt).failBoot.mram.fw.failBoots = satAdd 32 s.mram.fw.failBoots 1 :=
  (s.elapse dt).failBoot_failedAttempt.of_same (State.elapse_mode ..) (by rw [State.elapse_mram])

theorem State.imageChecked_failBoot (s : State) (dt : Nat) (r : BootReport) :
    AfterReset ((s.elapse dt).imageChecked r).failBoot ∧
      Restarted 0x08 s.mode.code ((s.elapse dt).imageChecked r).failBoot ∧
      ((s.elapse dt).imageChecked r).failBoot.mram.fw.failBoots = satAdd 32 s.mram.fw.failBoots 1 :=
  ((s.elapse dt).imageChecked r).failBoot_failedAttempt.of_same
    (((State.putSlot_within ..).mode rfl).trans (State.elapse_mode ..))
    ((State.putSlot_failBoots ..).trans (by rw [State.elapse_mram]))

/-! ### The end of the hold-off and the release of RESET_N -/

/-- Both supplies are in range and the hold-off has ended. -/
def State.holdOffEnded (s : State) : State :=
  { s with sys := { s.sys with
    vaonOk := true
    vin12Ok := true
    holdOff := false } }

/-- RESET_N is high, and the strap has been read. -/
def State.resetReleased (s : State) (strapB : Bool) : State :=
  { s with sys := { s.sys with
    rstNLow := false
    strapB := strapB } }

theorem exec_supplyHoldOffExpiry_eq (s : State) : exec .supplyHoldOffExpiry s = .next s.holdOffEnded.tryBoot := rfl

theorem exec_resetNRelease_eq {s : State} (b : Bool) (h : s.mode = .reset) :
    exec (.resetNRelease b) s = .next (s.resetReleased b).tryBoot :=
  if_pos h

end Sys2Proof.Machine
end

section
/-! SETTLEMENT. The start of BOOT and the end of its phases (R17, R54, R432, R437). -/

open Sys2Proof Sys2Proof.Machine

/-- Settles O11: BOOT starts where nothing holds the module in RESET, and each phase ends as `State.phaseDone` says. -/
theorem bootStartsAndEnds : Obligations.BootStartsAndEnds := by
  refine ⟨⟨fun s reset high => ?_, fun s held => ?_, fun b s reset vaon vin off => ?_, fun b s reset held => ?_,
    fun b s other => ?_⟩, fun dt r s boot hold phase bad => ?_, fun dt r s e passed boot hold ok phase => ?_,
    fun dt r s boot hold ok phase passes => ?_, fun dt r s boot hold ok phase fails => ?_,
    fun dt r s boot hold ok phase => ?_, fun dt r s boot hold ok phase many => ?_, fun dt r s phase => ?_⟩
  · obtain ⟨⟨k, sys⟩, run, fw⟩ := State.tryBoot_starts (s := s.holdOffEnded) reset
      (by simp [State.heldInReset, State.holdOffEnded, high])
    refine ⟨_, exec_supplyHoldOffExpiry_eq s, ?_⟩
    unfold State.mode State.mt
    rw [sys, run, fw]
    exact ⟨rfl, rfl, rfl, rfl, rfl, rfl, rfl⟩
  · rw [exec_supplyHoldOffExpiry_eq, State.tryBoot_of_held]
    · rfl
    · exact held.imp_right fun low => by simp [State.heldInReset, State.holdOffEnded, low]
  · obtain ⟨⟨k, sys⟩, run, fw⟩ := State.tryBoot_starts (s := s.resetReleased b) reset
      (by simp [State.heldInReset, State.resetReleased, vaon, vin, off])
    refine ⟨_, exec_resetNRelease_eq b reset, ?_⟩
    unfold State.mode State.mt
    rw [sys, run, fw]
    exact ⟨rfl, rfl, rfl, rfl, rfl, rfl⟩
  · rw [exec_resetNRelease_eq b reset, State.tryBoot_of_held]
    · rfl
    · refine .inr ?_
      obtain h | h | h := held <;> simp [State.heldInReset, State.resetReleased, h]
  · exact if_neg other
  · rw [exec_bootPhaseDone_eq dt r boot hold, State.phaseDone_of_not_ok (by simpa using phase) bad]
    exact ⟨_, rfl, s.elapse_failBoot dt⟩
  · subst passed
    rw [exec_bootPhaseDone_eq dt r boot hold]
    unfold State.phaseDone
    obtain phase | phase := phase <;> simp [phase, ok, State.nextPhase]
  · rw [exec_bootPhaseDone_eq dt r boot hold, State.phaseDone_image (by simpa using phase) ok,
      if_pos ((State.imageCheck_eq_zero_iff ..).mpr ((s.imagePasses_elapse dt r).mpr passes))]
    obtain ⟨mode, next⟩ := (State.putSlot_within (s.elapse dt) _ _).nextPhase (t := (s.elapse dt).imageChecked r) rfl rfl
    exact ⟨_, rfl, next.trans (by simp [phase]), mode.trans (by simp [boot])⟩
  · rw [exec_bootPhaseDone_eq dt r boot hold, State.phaseDone_image (by simpa using phase) ok,
      if_neg (fun c => fails ((s.imagePasses_elapse dt r).mp ((State.imageCheck_eq_zero_iff ..).mp c)))]
    exact ⟨_, rfl, s.imageChecked_failBoot dt r⟩
  · obtain ⟨mode, next⟩ := State.phaseDone_next (s := s.elapse dt) ok (by simpa using phase)
    exact ⟨_, exec_bootPhaseDone_eq dt r boot hold, mode.trans (by simp [boot]), next.trans (by simp)⟩
  · rw [exec_bootPhaseDone_eq dt r boot hold, State.phaseDone_lanes (by simpa using phase) ok many]
    obtain ⟨after, restarted, -⟩ := s.elapse_failBoot dt
    exact ⟨_, rfl, after, restarted⟩
  · rw [exec_bootPhaseDone]
    unfold execBootPhaseDone State.phaseDone
    simp [phase]

end

section
/-! SUPPORT. Loopback mismatches, PFW_N and the diodes (R25, R232, R428, R438). -/

namespace Sys2Proof.Machine

open Sys2Proof

/-- What leaves the module's own state alone, leaves all of it. -/
theorem Within.sys_same {K : Nat} {ps : List Page} {s t : State} (h : Within K ps s t) (k : K % 16 = 0) :
    t.sys = s.sys := by
  have bit (i : Nat) (hi : i < 4) : K.testBit i = false := by
    have low : (K % 2 ^ 4).testBit i = K.testBit i := by rw [Nat.testBit_mod_two_pow, decide_eq_true hi, Bool.true_and]
    rw [← low, show K % 2 ^ 4 = 0 from k, Nat.zero_testBit]
  have rest := h.sys (bit 3 (by decide))
  calc t.sys = { { t.sys with mode := .reset, mt := 0, driveEn := false } with
        mode := t.sys.mode, mt := t.sys.mt, driveEn := t.sys.driveEn } := rfl
    _ = s.sys := by rw [rest, h.mode (bit 0 (by decide)), h.mt (bit 1 (by decide)), h.drive (bit 2 (by decide))]

/-! ### A loopback mismatch at one edge (R232) -/

theorem lbk_row : findRow .pwm R.PWM.LBK = some ⟨0xF00, 4, 1, 0, 0, 0, 0, 0xFFFFFFFF, [0]⟩ := by decide +kernel

/-- A mismatch at one edge: its time is noted, and one of a PWM pad is counted. -/
def State.firstMismatch (s : State) (pad : OutStage) : State :=
  let t := s.noteMismatch (sset 0 s.sys.lbkMis (stageBit pad) s.mt)
  if stageBit pad = 0 then t.inc .pwm R.PWM.LBK else t

theorem exec_outputLoopbackFailure_first {s : State} (dt : Nat) (pad : OutStage) (h : s.mode.serves = true) :
    exec (.outputLoopbackFailure dt pad false) s = .next ((s.elapse dt).firstMismatch pad) := by
  rw [exec_outputLoopbackFailure]
  unfold execOutputLoopbackFailure
  dsimp only
  rw [if_neg (by simp), if_neg (by simp [h])]
  rfl

theorem State.firstMismatch_sys (s : State) (pad : OutStage) :
    (s.firstMismatch pad).sys = { s.sys with lbkMis := sset 0 s.sys.lbkMis (stageBit pad) s.mt } := by
  unfold State.firstMismatch
  dsimp only
  split
  · rw [State.inc_sys]
    rfl
  · rfl

theorem State.firstMismatch_count (s : State) (pad : OutStage) :
    (s.firstMismatch pad).rdn .pwm R.PWM.LBK =
      if stageBit pad = 0 then satAdd 32 (s.rdn .pwm R.PWM.LBK) 1 else s.rdn .pwm R.PWM.LBK := by
  unfold State.firstMismatch
  dsimp only
  split
  · exact State.rdn_inc_same lbk_row rfl
  · rfl

/-! ### PFW_N (R438) -/

theorem sys_pfw_full : Full (RegRow.mask ⟨0x010, 4, 1, 0, 0, pageBlockFlags .sys + 0x7, 0, 0, [0]⟩) 8 8 := rfl

/-- PFW_N is low: the reports that wait are counted as deferred. -/
def State.pfwFallen (s : State) : State :=
  let t := { s with sys := { s.sys with pfwLow := true } }
  if t.jrn.queue.length = 0 then t else (t.incBy .est R.EST.JDEFER t.jrn.queue.length).wrb .est R.EST.AEVT 9 true

theorem State.pfwFallen_sys (s : State) : s.pfwFallen.sys = { s.sys with pfwLow := true } := by
  unfold State.pfwFallen
  dsimp only
  split
  · rfl
  · unfold State.incBy
    rw [State.wrb_sys, State.wrn_sys]

theorem exec_pfwFall_reported {s : State} (dt : Nat) (h : s.mode.serves = true ∨ s.mode = .out) :
    exec (.pfwFall dt) s = .next (((s.elapse dt).pfwFallen.edgeSource 196).flag .sys 8) := by
  have mode : (s.elapse dt).pfwFallen.mode = s.mode :=
    (congrArg SysSt.mode (State.pfwFallen_sys _)).trans (State.elapse_mode ..)
  have reported : ((s.elapse dt).pfwFallen.mode.serves || decide ((s.elapse dt).pfwFallen.mode = .out)) = true := by
    simpa [mode] using h
  rw [exec_pfwFall]
  unfold execPfwFall
  exact if_pos reported

/-- What waited for PFW_N to rise: settings, slots, clears, counters, manual states, streams. -/
def State.pfwResume (s : State) : State :=
  s.flushSettings.flushSlots.clearResume.countersResume.manualResume.streamsResume

theorem State.pfwResume_sys (s : State) : s.pfwResume.sys = s.sys := by
  unfold State.pfwResume
  rw [(State.streamsResume_within _).sys_same rfl, (State.manualResume_within _).sys_same rfl,
    (State.countersResume_within _).sys_same rfl, (State.clearResume_within _).sys_same rfl,
    (State.flushSlots_within _).sys_same rfl, (State.flushSettings_within _).sys_same rfl]

/-- PFW_N is high, and the time that BOOT waited on it is added up. -/
def State.pfwRisen (s : State) : State :=
  { s with sys := { s.sys with
    pfwLow := false
    pfwHold := false
    heldNs := s.sys.heldNs + if s.sys.pfwHold then s.mt - s.sys.holdFrom else 0 } }

theorem exec_pfwRise_eq (dt : Nat) (s : State) : exec (.pfwRise dt) s = .next (s.elapse dt).pfwRisen.pfwResume := rfl

/-! ### A diode at its limit (R428) -/

/-- The record of a shutdown. -/
def State.shutdownRecord (s : State) (d : Fin 16) (r : Int) (prior : Nat) : RecReq :=
  { cls := 0x06, source := pageType .thm % 256, mt := s.mt
    payload := [BitVec.ofNat 8 d.val, 0, 0, 0] ++ leBytes 2 (unsign 16 r) ++ [BitVec.ofNat 8 prior, 0] ++
      leBytes 2 (unsign 16 s.thm.maxTj) ++ zeros 2 }

/-- THERMAL_SHUTDOWN by a diode: the outputs are forced, what waited for the Strongbox is lost. -/
def State.shutDown (s : State) (d : Fin 16) (r : Int) : State :=
  let t := (s.bookRole false).forceSafe
  { t with
    sys := { t.sys with mode := .thermal, prior := s.mode.code }
    sbx := { t.sbx with
      lockedQ := []
      rollQ := []
      clears := []
      thermal := if t.sys.pfwLow then none else some (t.shutdownRecord d r s.mode.code) }
    mram := { t.mram with thm := {
      mt := t.mt, diode := d.val, reading := r, count := satAdd 32 t.mram.thm.count 1 } } }

theorem exec_diodeOverLimit_shuts {s : State} (dt : Nat) (d : Fin 16) {r : Int} (reset : s.mode ≠ .reset)
    (thermal : s.mode ≠ .thermal) (hot : 8000 ≤ r) :
    exec (.diodeOverLimit dt d r) s = .next ((s.elapse dt).shutDown d r) := by
  rw [exec_diodeOverLimit]
  unfold execDiodeOverLimit
  dsimp only
  rw [if_neg (by simp [reset, thermal, hot])]
  rfl

theorem State.shutDown_safe (s : State) (d : Fin 16) (r : Int) : (s.shutDown d r).outputsSafe := by
  unfold State.shutDown
  extract_lets t
  have safe : t.outputsSafe := State.forceSafe_safe (s.bookRole false)
  clear_value t
  exact safe

end Sys2Proof.Machine
end

section
/-! SETTLEMENT. Damage, loopback, AON_32K, PFW_N and the diodes. -/

open Sys2Proof Sys2Proof.Machine

/-- Settles O15: each of these commands by the one operation it is. -/
theorem supervisionCompletes : Obligations.SupervisionCompletes := by
  refine ⟨fun dt off s => rfl, fun dt g k s => rfl, fun dt s => rfl, fun dt pad s serves => ?_, ?_, fun dt s up => ?_,
    fun dt s => ?_, fun dt d r s reset thermal hot => ?_⟩
  · have sys := (s.elapse dt).firstMismatch_sys pad
    refine ⟨_, exec_outputLoopbackFailure_first dt pad serves, ?_, ?_, ?_⟩
    · exact (congrArg SysSt.mode sys).trans (State.elapse_mode ..)
    · rw [sys]
      exact sget_sset_same ..
    · rw [State.firstMismatch_count, State.elapse_rdn]
  · rintro dt s e rfl
    rfl
  · have sys := (s.elapse dt).pfwFallen_sys
    refine ⟨_, exec_pfwFall_reported dt up, ?_, ?_, ?_, ?_⟩
    · rw [State.flag_sys, State.edgeSource_sys, sys]
    · rw [State.flag_src _ _ _ _ (by decide) (by decide)]
      exact State.edgeSource_pend _ _ (by decide) (by decide)
    · exact State.flag_rdb _ (findRow_flags .sys) (by decide) sys_pfw_full (flags_place_ne (by decide) (by decide))
    · unfold State.mode
      rw [State.flag_sys, State.edgeSource_sys, sys]
      exact State.elapse_mode ..
  · have sys := State.pfwResume_sys (s.elapse dt).pfwRisen
    refine ⟨_, exec_pfwRise_eq dt s, ?_, ?_, ?_⟩
    · rw [sys]
      rfl
    · rw [sys]
      rfl
    · exact (congrArg SysSt.mode sys).trans (State.elapse_mode ..)
  · exact ⟨_, exec_diodeOverLimit_shuts dt d reset thermal hot, rfl, State.shutDown_safe .., by
      exact congrArg Mode.code (State.elapse_mode ..), rfl, rfl, rfl, rfl⟩

end

section
/-! SUPPORT. The fields of a command message (R397, R398). -/

namespace Sys2Proof.Machine

open Sys2Proof

/-! ### Runs of bytes -/

theorem leNat_leBytes (k n : Nat) : leNat (leBytes k n) = n % 256 ^ k := by
  induction k generalizing n with
  | zero => simp [leBytes, leNat, Nat.mod_one]
  | succ k ih =>
    unfold leBytes leNat
    rw [ih, Nat.pow_succ', Nat.mod_mul]
    simp

@[simp] theorem leBytes_length (k n : Nat) : (leBytes k n).length = k := by
  induction k generalizing n with
  | zero => rfl
  | succ k ih => simp [leBytes, ih]

/-- The middle of three runs. -/
theorem slice_middle {a b c : List Byte} {o k : Nat} (ha : a.length = o) (hb : b.length = k) :
    slice (a ++ (b ++ c)) o k = b := by
  unfold slice
  rw [← ha, List.drop_left, ← hb, List.take_left]

theorem leAt_middle {a c : List Byte} {o k n : Nat} (ha : a.length = o) (hn : n < 256 ^ k) :
    leAt (a ++ (leBytes k n ++ c)) o k = n := by
  unfold leAt
  rw [slice_middle ha (leBytes_length k n), leNat_leBytes, Nat.mod_eq_of_lt hn]

theorem leAt_leBytes {k n : Nat} (hn : n < 256 ^ k) : leAt (leBytes k n) 0 k = n := by
  have h := leAt_middle (a := []) (c := []) rfl hn
  rwa [List.append_nil] at h

/-! ### The message -/

/-- The bytes of a message before its parameters. -/
theorem cmdMessage_eq (code : Nat) (h : CmdHead) (p : List Byte) :
    cmdMessage code h p = [0x01, BitVec.ofNat 8 code] ++ (leBytes 2 p.length ++ (([h.slot] ++ zeros 3 ++
      leBytes 8 h.target.toNat) ++ (leBytes 8 h.counter.toNat ++ (p ++ h.tag)))) := by
  unfold cmdMessage cmdBody
  simp only [List.append_assoc]

theorem byteAt_cmdMessage_code {code : Nat} (hc : code < 256) (h : CmdHead) (p : List Byte) :
    byteAt (cmdMessage code h p) 1 = code := by
  rw [cmdMessage_eq]
  exact Nat.mod_eq_of_lt hc

theorem byteAt_cmdMessage_slot (code : Nat) (h : CmdHead) (p : List Byte) :
    byteAt (cmdMessage code h p) 4 = h.slot.toNat := by
  rw [cmdMessage_eq]
  rfl

theorem leAt_cmdMessage_counter (code : Nat) (h : CmdHead) (p : List Byte) :
    leAt (cmdMessage code h p) 0x10 8 = h.counter.toNat := by
  rw [cmdMessage_eq]
  simp only [← List.append_assoc]
  rw [List.append_assoc, List.append_assoc]
  exact leAt_middle (by simp [zeros]) h.counter.isLt

theorem cmdParams_cmdMessage (code : Nat) (h : CmdHead) {p : List Byte} (hp : p.length < 65536) :
    cmdParams (cmdMessage code h p) = p := by
  unfold cmdParams
  rw [cmdMessage_eq, leAt_middle (o := 2) (k := 2) rfl hp]
  simp only [← List.append_assoc]
  rw [List.append_assoc]
  exact slice_middle (by simp [zeros]) rfl

/-! ### The effect of a command by its code (R398) -/

theorem State.commandEffect_limit (s : State) (h : CmdHead) (p : List Byte) : s.commandEffect (cmdMessage 0x03 h p) =
    (some false, (s.limitChange (cmdMessage 0x03 h p)).saveLimits) := by
  unfold State.commandEffect
  rw [byteAt_cmdMessage_code (by decide)]
  rfl

theorem State.commandEffect_key (s : State) (h : CmdHead) (p : List Byte) : s.commandEffect (cmdMessage 0x08 h p) =
    (some false, s.applyKeyLoad h.slot.toNat (cmdMessage 0x08 h p)) := by
  unfold State.commandEffect
  rw [byteAt_cmdMessage_code (by decide), byteAt_cmdMessage_slot]
  rfl

theorem State.commandEffect_relay (s : State) (h : CmdHead) (p : List Byte) : s.commandEffect (cmdMessage 0x05 h p) =
    (some s.plannedRelay.1, s.plannedRelay.2) := by
  unfold State.commandEffect
  rw [byteAt_cmdMessage_code (by decide)]
  rfl

section
variable (s : State) (h : CmdHead) {p : List Byte} (hp : p.length < 65536)
include hp

theorem State.commandEffect_release : s.commandEffect (cmdMessage 0x01 h p) =
    (some (s.releases 2 (bits (byteAt p 0) 3 0)).1, (s.releases 2 (bits (byteAt p 0) 3 0)).2) := by
  unfold State.commandEffect
  rw [cmdParams_cmdMessage _ _ hp, byteAt_cmdMessage_code (by decide)]
  rfl

theorem State.commandEffect_dispatch : s.commandEffect (cmdMessage 0x02 h p) =
    (some false, { s with loops := { s.loops with dispOn := byteAt p 0 = 1 } }) := by
  unfold State.commandEffect
  rw [cmdParams_cmdMessage _ _ hp, byteAt_cmdMessage_code (by decide)]
  rfl

theorem State.commandEffect_role : s.commandEffect (cmdMessage 0x04 h p) =
    s.roleAssign (byteAt p 0) (cmdMessage 0x04 h p) := by
  unfold State.commandEffect
  rw [cmdParams_cmdMessage _ _ hp, byteAt_cmdMessage_code (by decide)]
  rfl

theorem State.commandEffect_clear : s.commandEffect (cmdMessage 0x06 h p) =
    (some (s.sbxClear (leAt p 0 4) h.slot.toNat h.counter.toNat).1,
      (s.sbxClear (leAt p 0 4) h.slot.toNat h.counter.toNat).2) := by
  unfold State.commandEffect
  rw [cmdParams_cmdMessage _ _ hp, byteAt_cmdMessage_code (by decide), byteAt_cmdMessage_slot, leAt_cmdMessage_counter]
  rfl

theorem State.commandEffect_activate : s.commandEffect (cmdMessage 0x07 h p) =
    (some false, s.activate (byteAt p 0) (leAt p 4 8)) := by
  unfold State.commandEffect
  rw [cmdParams_cmdMessage _ _ hp, byteAt_cmdMessage_code (by decide)]
  rfl

theorem State.commandEffect_commit : s.commandEffect (cmdMessage 0x09 h p) =
    (some (s.commitSig (leAt p 0 4)).1, (s.commitSig (leAt p 0 4)).2) := by
  unfold State.commandEffect
  rw [cmdParams_cmdMessage _ _ hp, byteAt_cmdMessage_code (by decide)]
  rfl

theorem State.commandEffect_calibration : s.commandEffect (cmdMessage 0x0A h p) =
    (some false, s.calStart ((s.tick - 2) * 500000) (leAt p 0 2)) := by
  unfold State.commandEffect
  rw [cmdParams_cmdMessage _ _ hp, byteAt_cmdMessage_code (by decide)]
  rfl

end

end Sys2Proof.Machine
end

section
/-! SUPPORT. What the commands of the pair do: CONTACTOR_RELEASE, LIMIT_WRITE, KEY_LOAD (R241, R245, R406). -/

namespace Sys2Proof.Machine

open Sys2Proof

/-! ### CONTACTOR_RELEASE (R245) -/

/-- The trip groups alone changed. -/
def State.withGroups (s : State) (g : List (Nat × GroupState)) : State := { s with prot := { s.prot with groups := g } }

theorem State.withGroups_rdf (s : State) (g : List (Nat × GroupState)) (p : Page) (o hi lo : Nat) :
    (s.withGroups g).rdf p o hi lo = s.rdf p o hi lo := rfl

theorem State.withGroups_mayKeep (s : State) (g : List (Nat × GroupState)) : (s.withGroups g).mayKeep = s.mayKeep := rfl

theorem State.withGroups_verdict (s : State) (g : List (Nat × GroupState)) (n : Nat) :
    (s.withGroups g).verdict n = s.verdict n := rfl

theorem State.withGroups_sutClear (s : State) (g : List (Nat × GroupState)) (n : Nat) :
    (s.withGroups g).sutClear n = s.sutClear n := rfl

@[simp] theorem State.setGroup_group_same (s : State) (n : Nat) (v : GroupState) : (s.setGroup n v).group n = v :=
  sget_sset_same ..

theorem State.setGroup_group_other (s : State) {n k : Nat} (v : GroupState) (h : k ≠ n) :
    (s.setGroup n v).group k = s.group k :=
  sget_sset_other _ _ _ _ h

/-- A release of group `n` by an authenticated command goes ahead (R245). -/
def State.mayRelease (s : State) (n : Nat) : Prop :=
  s.rdf .trip (R.TRIP.GRP_CFG n) 1 0 = 2 ∧
    (s.group n = .keeping ∨ (s.mayKeep = true ∧ s.verdict n = false ∧ s.sutClear n = true))

/-- A group is KEEPING from here. -/
def State.keepGroup (s : State) (n : Nat) : State := if s.group n = .keeping then s else s.setGroup n .keeping

theorem State.keepGroup_same (s : State) (n : Nat) : (s.keepGroup n).group n = .keeping := by
  unfold State.keepGroup
  split
  next keeping => exact keeping
  next => exact State.setGroup_group_same ..

theorem State.keepGroup_other (s : State) {n k : Nat} (h : k ≠ n) : (s.keepGroup n).group k = s.group k := by
  unfold State.keepGroup
  split
  · rfl
  · exact State.setGroup_group_other _ _ h

theorem State.keepGroup_withGroups (s : State) (g : List (Nat × GroupState)) (n : Nat) :
    ∃ g', (s.withGroups g).keepGroup n = s.withGroups g' := by
  unfold State.keepGroup
  split
  · exact ⟨g, rfl⟩
  · exact ⟨sset .withheld g n .keeping, rfl⟩

theorem State.release_of_mayRelease {s : State} {n : Nat} (h : s.mayRelease n) :
    s.release 2 n = (false, s.keepGroup n) := by
  obtain ⟨mech, free⟩ := h
  unfold State.release State.keepGroup
  rw [if_neg (by simp [mech])]
  split
  next keeping => rw [if_pos keeping]
  next other =>
    obtain ⟨may, verdict, sut⟩ := free.resolve_left other
    rw [if_neg (by simp [may, verdict, sut]), if_neg other]

theorem State.release_rejects {s : State} {n : Nat} (h : s.rdf .trip (R.TRIP.GRP_CFG n) 1 0 ≠ 2 ∨
    (s.group n ≠ .keeping ∧ (s.mayKeep = false ∨ s.verdict n = true ∨ s.sutClear n = false))) :
    s.release 2 n = (true, s) := by
  unfold State.release
  obtain mech | ⟨other, stop⟩ := h
  · rw [if_pos (by simpa using mech)]
  · split
    · rfl
    · split
      next keeping => exact absurd keeping other
      next => exact if_pos (by obtain h | h | h := stop <;> simp [h])

/-- One group of a mask. -/
def releaseStep (mech mask : Nat) (x : Bool × State) (n : Nat) : Bool × State :=
  if mask.testBit n then
    let (r, s) := x.2.release mech n
    if r then (true, (s.inc .trip R.TRIP.RELREJ).flag .trip 12) else (x.1, s)
  else x

theorem State.releases_eq (s : State) (mech mask : Nat) :
    s.releases mech mask = (List.range 4).foldl (releaseStep mech mask) (false, s) := rfl

theorem releaseStep_of_mayRelease {mask n : Nat} {x : Bool × State} (hit : mask.testBit n = true)
    (h : x.2.mayRelease n) : releaseStep 2 mask x n = (x.1, x.2.keepGroup n) := by
  unfold releaseStep
  rw [if_pos hit, State.release_of_mayRelease h]
  rfl

/-- `x` is `s` with the groups that `on` names KEEPING, none rejected. -/
def Released (s : State) (on : Nat → Prop) (x : Bool × State) : Prop :=
  x.1 = false ∧ (∃ g, x.2 = s.withGroups g) ∧ ∀ n, (on n → x.2.group n = .keeping) ∧ (¬ on n → x.2.group n = s.group n)

/-- What has been released so far changes nothing for the groups that follow. -/
theorem Released.mayRelease {s : State} {on : Nat → Prop} {x : Bool × State} {n : Nat} (h : Released s on x)
    (may : s.mayRelease n) : x.2.mayRelease n := by
  obtain ⟨-, ⟨g, same⟩, groups⟩ := h
  obtain ⟨mech, free⟩ := may
  have keeps (keeping : s.group n = .keeping) : x.2.group n = .keeping := by
    by_cases already : on n
    · exact (groups n).1 already
    · exact ((groups n).2 already).trans keeping
  rw [same] at keeps ⊢
  exact ⟨mech, free.imp_left keeps⟩

theorem Released.step {s : State} {on : Nat → Prop} {x : Bool × State} {mask n : Nat} (h : Released s on x)
    (may : mask.testBit n = true → s.mayRelease n) :
    Released s (fun k => on k ∨ (k = n ∧ mask.testBit n = true)) (releaseStep 2 mask x n) := by
  by_cases hit : mask.testBit n = true
  · rw [releaseStep_of_mayRelease hit (h.mayRelease (may hit))]
    obtain ⟨none, ⟨g, same⟩, groups⟩ := h
    refine ⟨none, same ▸ s.keepGroup_withGroups g n, fun k => ?_⟩
    by_cases e : k = n
    · exact ⟨fun _ => e ▸ x.2.keepGroup_same n, fun off => absurd (.inr ⟨e, hit⟩) off⟩
    · rw [State.keepGroup_other _ e]
      exact ⟨fun on => (groups k).1 (on.resolve_right fun c => e c.1), fun off => (groups k).2 fun on => off (.inl on)⟩
  · obtain ⟨none, same, groups⟩ := h
    unfold releaseStep
    rw [if_neg hit]
    exact ⟨none, same, fun k => ⟨fun on => (groups k).1 (on.resolve_right fun c => hit c.2),
      fun off => (groups k).2 fun on => off (.inl on)⟩⟩

theorem State.releases_all {s : State} {mask : Nat} (may : ∀ n, n < 4 → mask.testBit n = true → s.mayRelease n) :
    Released s (fun n => n < 4 ∧ mask.testBit n = true) (s.releases 2 mask) := by
  have fold (k : Nat) (hk : k ≤ 4) : Released s (fun n => n < k ∧ mask.testBit n = true)
      ((List.range k).foldl (releaseStep 2 mask) (false, s)) := by
    induction k with
    | zero => exact ⟨rfl, ⟨s.prot.groups, rfl⟩, fun n => ⟨fun h => absurd h.1 (Nat.not_lt_zero n), fun _ => rfl⟩⟩
    | succ k ih =>
      rw [List.range_succ, List.foldl_append]
      have next := (ih (by omega)).step (may k (by omega))
      have more (n : Nat) : (n < k + 1 ∧ mask.testBit n = true) =
          ((n < k ∧ mask.testBit n = true) ∨ (n = k ∧ mask.testBit k = true)) := by
        refine propext ⟨fun ⟨lt, bit⟩ => ?_, ?_⟩
        · obtain lt | rfl := Nat.lt_succ_iff_lt_or_eq.mp lt
          · exact .inl ⟨lt, bit⟩
          · exact .inr ⟨rfl, bit⟩
        · rintro (⟨lt, bit⟩ | ⟨rfl, bit⟩)
          · exact ⟨by omega, bit⟩
          · exact ⟨by omega, bit⟩
      rw [funext more]
      exact next
  exact fold 4 (Nat.le_refl 4)

/-- A mask that names one group that may not be released. -/
theorem State.releases_rejects {s : State} {n : Nat} (hn : n < 4) (h : s.release 2 n = (true, s)) :
    s.releases 2 (2 ^ n) = (true, (s.inc .trip R.TRIP.RELREJ).flag .trip 12) := by
  have hit : releaseStep 2 (2 ^ n) (false, s) n = (true, (s.inc .trip R.TRIP.RELREJ).flag .trip 12) := by
    unfold releaseStep
    rw [if_pos (Nat.testBit_two_pow_self), h]
    rfl
  have miss (x : Bool × State) {k : Nat} (e : n ≠ k) : releaseStep 2 (2 ^ n) x k = x := by
    unfold releaseStep
    rw [if_neg (by simp [e])]
  rw [State.releases_eq, show List.range 4 = [0, 1, 2, 3] from rfl]
  simp only [List.foldl_cons, List.foldl_nil]
  obtain rfl | rfl | rfl | rfl : n = 0 ∨ n = 1 ∨ n = 2 ∨ n = 3 := by omega
  · rw [hit, miss _ (by decide), miss _ (by decide), miss _ (by decide)]
  · rw [miss (false, s) (by decide), hit, miss _ (by decide), miss _ (by decide)]
  · rw [miss (false, s) (by decide), miss (false, s) (by decide), hit, miss _ (by decide)]
  · rw [miss (false, s) (by decide), miss (false, s) (by decide), miss (false, s) (by decide), hit]

/-! ### LIMIT_WRITE (R241) -/

/-- One limit part written for a run of channels. -/
theorem sget_foldl_sset (l : List (Nat × LimPart)) (first n : Nat) (v : LimPart) (k : Nat) :
    sget {} ((List.range n).foldl (fun l i => sset {} l (first + i) v) l) k =
      if first ≤ k ∧ k < first + n then v else sget {} l k := by
  induction n with
  | zero => rw [if_neg (by omega)]; rfl
  | succ n ih =>
    rw [List.range_succ, List.foldl_append]
    simp only [List.foldl_cons, List.foldl_nil]
    by_cases e : k = first + n
    · rw [e, sget_sset_same, if_pos (by omega)]
    · rw [sget_sset_other _ _ _ _ e, ih]
      exact if_congr (by omega) rfl rfl

/-- The limit set that a LIMIT_WRITE leaves. -/
def State.limitsAfter (s : State) (m : List Byte) : List (Nat × LimPart) × LimString :=
  limApply (cmdParams m) (s.mram.limSeq + 1) (s.prot.lim, s.prot.str)

theorem State.limitChange_limits (s : State) (m : List Byte) :
    (s.limitChange m).saveLimits.mram.lim = (s.limitsAfter m).1 ∧
      (s.limitChange m).saveLimits.mram.limStr = (s.limitsAfter m).2 ∧
      (s.limitChange m).saveLimits.mram.limSeq = s.mram.limSeq + 1 ∧
      (s.limitChange m).saveLimits.mram.limCrc = limCrcOf (s.limitsAfter m).1 (s.limitsAfter m).2 := by
  have saved := (s.limitChange m).saveLimits_within.limits rfl
  have changed : ((s.limitChange m).mram.lim, (s.limitChange m).mram.limStr, (s.limitChange m).mram.limSeq,
      (s.limitChange m).mram.limCrc, (s.limitChange m).mram.manual) = ((s.limitsAfter m).1, (s.limitsAfter m).2,
      s.mram.limSeq + 1, limCrcOf (s.limitsAfter m).1 (s.limitsAfter m).2, s.mram.manual) := by
    unfold State.limitChange State.limitsAfter
    dsimp only
    rw [(State.protEval_within _).limits rfl, (State.record_within ..).limits rfl, (State.flag_within ..).limits rfl,
      (State.showLimits_within _).limits rfl]
  have all := saved.trans changed
  simp only [Prod.mk.injEq] at all
  obtain ⟨lim, str, seq, crc, -⟩ := all
  exact ⟨lim, str, seq, crc⟩

theorem limitParams_kind (c : LimitChange) (crc : Word) : byteAt (limitParams c crc) 0 = c.kind.toNat := rfl

theorem limitParams_length (c : LimitChange) (crc : Word) : (limitParams c crc).length < 65536 := by
  simp [limitParams, zeros]

theorem limitParams_first (c : LimitChange) (crc : Word) : leAt (limitParams c crc) 2 2 = c.first.toNat := by
  unfold limitParams
  simp only [List.append_assoc]
  exact leAt_middle rfl c.first.isLt

theorem limitParams_last (c : LimitChange) (crc : Word) : leAt (limitParams c crc) 4 2 = c.last.toNat := by
  unfold limitParams
  simp only [List.append_assoc]
  rw [← List.append_assoc]
  exact leAt_middle rfl c.last.isLt

theorem limitParams_part (c : LimitChange) (crc : Word) :
    slice (limitParams c crc) 8 24 = (c.part ++ zeros 24).take 24 := by
  unfold limitParams
  rw [List.append_assoc]
  exact slice_middle rfl (by simp [zeros])

/-- A shorter run from the same place. -/
theorem slice_take (l : List Byte) (o : Nat) {j k : Nat} (h : j ≤ k) : slice l o j = (slice l o k).take j := by
  unfold slice
  rw [List.take_take, Nat.min_eq_left h]

theorem limitParams_string (c : LimitChange) (crc : Word) :
    slice (limitParams c crc) 8 20 = (c.part ++ zeros 24).take 20 := by
  rw [slice_take _ _ (show 20 ≤ 24 by decide), limitParams_part, List.take_take]
  rfl

/-- A change of channel limits: the parts of the run of channels it names. -/
theorem limApply_channels {c : LimitChange} (crc : Word) (seq : Nat) (x : List (Nat × LimPart) × LimString)
    (kind : c.kind = 0) :
    (limApply (limitParams c crc) seq x).2 = x.2 ∧
      ∀ k, sget {} (limApply (limitParams c crc) seq x).1 k = if c.first.toNat ≤ k ∧ k ≤ c.last.toNat
        then parseLimPart ((c.part ++ zeros 24).take 24) seq else sget {} x.1 k := by
  have channels : byteAt (limitParams c crc) 0 = 0 := by rw [limitParams_kind, kind]; rfl
  unfold limApply
  rw [if_pos channels, limitParams_first, limitParams_last, limitParams_part]
  refine ⟨rfl, fun k => ?_⟩
  dsimp only
  rw [sget_foldl_sset]
  exact if_congr (by omega) rfl rfl

/-- A change of the string's limits. -/
theorem limApply_string {c : LimitChange} (crc : Word) (seq : Nat) (x : List (Nat × LimPart) × LimString)
    (kind : c.kind = 1) :
    limApply (limitParams c crc) seq x = (x.1, parseLimString ((c.part ++ zeros 24).take 20)) := by
  have string : byteAt (limitParams c crc) 0 ≠ 0 := by rw [limitParams_kind, kind]; decide
  unfold limApply
  rw [if_neg string, limitParams_string]

theorem State.limitsAfter_params (s : State) (h : CmdHead) (c : LimitChange) (crc : Word) :
    s.limitsAfter (cmdMessage 0x03 h (limitParams c crc)) =
      limApply (limitParams c crc) (s.mram.limSeq + 1) (s.prot.lim, s.prot.str) := by
  unfold State.limitsAfter
  rw [cmdParams_cmdMessage _ _ (limitParams_length c crc)]

/-! ### KEY_LOAD (R406) -/

theorem keyParams_length (t : Byte) (perm : BitVec 16) (w : List Byte) : (keyParams t perm w).length < 65536 := by
  simp [keyParams, zeros]

theorem keyParams_perm (t : Byte) (perm : BitVec 16) (w : List Byte) : leAt (keyParams t perm w) 2 2 = perm.toNat := by
  unfold keyParams
  rw [List.append_assoc]
  exact leAt_middle rfl perm.isLt

theorem State.setKeySlot_same (s : State) {k : Nat} (v : KeySlot) (h : k ≠ 0) : (s.setKeySlot k v).keySlot k = v := by
  unfold State.keySlot
  rw [if_neg h]
  exact sget_sset_same ..

theorem State.setKeySlot_other (s : State) {k j : Nat} (v : KeySlot) (h : j ≠ k) (hk : k ≠ 0) :
    (s.setKeySlot k v).keySlot j = s.keySlot j := by
  unfold State.keySlot State.setKeySlot
  dsimp only
  rw [sget_sset_other _ _ _ _ h, sget_sset_other _ _ _ _ (Ne.symm hk)]

theorem State.keySlot_of_keys {s t : State} (h : t.mram.keys = s.mram.keys) (k : Nat) : t.keySlot k = s.keySlot k := by
  unfold State.keySlot
  rw [h]

/-- What a slot holds after a key was unwrapped for it. -/
def loadedSlot (t perm : Nat) (last : MramWord) (k : List Byte) : KeySlot :=
  { key := if k = zeros 32 then [] else if t = 8 then k.take 16 else k
    perm := if k = zeros 32 then 0 else perm
    last := last }

theorem State.applyKeyLoad_none {s : State} {slot : Nat} {m : List Byte}
    (h : keyLoadUnwrap s slot (cmdParams m) = none) : s.applyKeyLoad slot m = s := by
  unfold State.applyKeyLoad
  dsimp only
  rw [h]

/-- The slot named takes the key; the other slots keep theirs. -/
theorem State.applyKeyLoad_some {s : State} {slot : Nat} {m k : List Byte}
    (h : keyLoadUnwrap s slot (cmdParams m) = some k) (t0 : byteAt (cmdParams m) 0 ≠ 0) :
    (∀ j, j ≠ byteAt (cmdParams m) 0 → (s.applyKeyLoad slot m).keySlot j = s.keySlot j) ∧
      (s.applyKeyLoad slot m).keySlot (byteAt (cmdParams m) 0) =
        loadedSlot (byteAt (cmdParams m) 0) (leAt (cmdParams m) 2 2) (s.keySlot (byteAt (cmdParams m) 0)).last k := by
  let v := loadedSlot (byteAt (cmdParams m) 0) (leAt (cmdParams m) 2 2) (s.keySlot (byteAt (cmdParams m) 0)).last k
  have keys : (s.applyKeyLoad slot m).mram.keys = (s.setKeySlot (byteAt (cmdParams m) 0) v).mram.keys := by
    unfold State.applyKeyLoad
    dsimp only
    rw [h]
    dsimp only
    rw [(State.flag_within ..).keys rfl, (State.record_within ..).keys rfl]
    unfold v loadedSlot
    split <;> rfl
  refine ⟨fun j other => ?_, ?_⟩
  · rw [State.keySlot_of_keys keys, State.setKeySlot_other _ _ other t0]
  · rw [State.keySlot_of_keys keys, State.setKeySlot_same _ _ t0]

end Sys2Proof.Machine
end

section
/-! SUPPORT. What ROLE_ASSIGN, CONFIG_SIGNATURE_COMMIT and CALIBRATION_CYCLE leave (R18, R41, R163). -/

namespace Sys2Proof.Machine

open Sys2Proof

/-! ### The matrix in a module that runs no string (R244) -/

theorem State.groupStep_withholds {s : State} (h : s.mode.runsString = false) (n : Nat) :
    s.groupStep n = s.setGroup n .withheld := by
  unfold State.groupStep State.mayKeep
  rw [h]
  rfl

theorem State.groupSteps_withhold {s : State} (h : s.mode.runsString = false) (k : Nat) :
    ((List.range k).foldl State.groupStep s).mode = s.mode ∧
      ∀ n, n < k → ((List.range k).foldl State.groupStep s).group n = .withheld := by
  induction k with
  | zero => exact ⟨rfl, fun n hn => absurd hn (Nat.not_lt_zero n)⟩
  | succ k ih =>
    obtain ⟨mode, groups⟩ := ih
    rw [List.range_succ, List.foldl_append]
    simp only [List.foldl_cons, List.foldl_nil]
    rw [State.groupStep_withholds (by rw [mode, h])]
    refine ⟨mode, fun n hn => ?_⟩
    by_cases e : n = k
    · rw [e, State.setGroup_group_same]
    · rw [State.setGroup_group_other _ _ e]
      exact groups n (by omega)

/-- Before its groups move the matrix shows the sources: neither the state of the module nor the interlock of R18
changes. -/
theorem State.matrixEval_eq {s : State} (h : s.mode.serves = true) :
    ∃ x : State, s.matrixEval = (List.range 4).foldl State.groupStep x ∧ x.mode = s.mode ∧ x.prot.r18 = s.prot.r18 := by
  unfold State.matrixEval
  rw [if_neg (by simp [h])]
  refine ⟨_, rfl, ?_, ?_⟩
  · unfold State.mode
    (repeat' split) <;> simp
  · (repeat' split) <;> simp

theorem State.matrixEval_withholds {s : State} (serves : s.mode.serves = true) (h : s.mode.runsString = false) {n : Nat}
    (hn : n < 4) : s.matrixEval.group n = .withheld := by
  obtain ⟨x, eq, mode, -⟩ := State.matrixEval_eq serves
  rw [eq]
  exact (State.groupSteps_withhold (by rw [mode, h]) 4).2 n hn

/-- Only the entry of a role clears the interlock of R18. -/
theorem Within.r18 {K : Nat} {ps : List Page} {s t : State} (h : Within K ps s t) (k : K.testBit 23 = false) :
    t.prot.r18 = s.prot.r18 := by
  have same := congrArg ProtSt.r18 (h.prot k)
  exact same

theorem State.matrixEval_r18 {s : State} (serves : s.mode.serves = true) : s.matrixEval.prot.r18 = s.prot.r18 := by
  obtain ⟨x, eq, -, r18⟩ := State.matrixEval_eq serves
  have moved : Within 0x221808000181000080 [] x ((List.range 4).foldl State.groupStep x) :=
    .foldl (.refl x) fun t n h => h.trans (t.groupStep_within n)
  rw [eq, ← r18]
  exact moved.r18 rfl

/-- The levels of the sources alone changed. -/
def State.withRaw (s : State) (raw : Nat) : State := { s with prot := { s.prot with raw := raw } }

theorem State.withRaw_r18 (s : State) (raw : Nat) : (s.withRaw raw).prot.r18 = s.prot.r18 := rfl

theorem State.implRaw_eq (s : State) :
    s.implRaw = s.withRaw (putBits s.prot.raw 60 60 (b2n (s.loops.slots.any (fun e => e.2.impl)))) := rfl

theorem State.implRaw_r18 (s : State) : s.implRaw.prot.r18 = s.prot.r18 := by
  rw [State.implRaw_eq, State.withRaw_r18]

theorem State.slotEvals_r18 (s : State) (l : List Nat) : (l.foldl State.slotEval s).prot.r18 = s.prot.r18 :=
  have moved : Within 0x4000008000000200080 [] s (l.foldl State.slotEval s) :=
    .foldl (.refl s) fun t n h => h.trans (t.slotEval_within n)
  moved.r18 rfl

theorem State.pairEvals_r18 (s : State) (l : List Nat) : (l.foldl State.pairEval s).prot.r18 = s.prot.r18 :=
  have moved : Within 0x2000008000000400280 [] s (l.foldl State.pairEval s) :=
    .foldl (.refl s) fun t n h => h.trans (t.pairEval_within n)
  moved.r18 rfl

theorem State.loopEval_r18 (s : State) : s.loopEval.prot.r18 = s.prot.r18 := by
  unfold State.loopEval
  dsimp only
  rw [State.implRaw_r18, State.pairEvals_r18, State.slotEvals_r18]

theorem State.protEval_ready {s : State} (h : s.mode = .ready) :
    s.protEval.prot.r18 = s.prot.r18 ∧ ∀ n, n < 4 → s.protEval.group n = .withheld := by
  have once : s.matrixEval.loopEval.mode = .ready :=
    (((State.loopEval_within _).mode rfl).trans ((State.matrixEval_within s).mode rfl)).trans h
  unfold State.protEval
  refine ⟨?_, fun n hn => ?_⟩
  · rw [State.loopEval_r18, State.matrixEval_r18 (by rw [once]; rfl), State.loopEval_r18,
      State.matrixEval_r18 (by rw [h]; rfl)]
  · have groups := (State.loopEval_within s.matrixEval.loopEval.matrixEval).groups rfl
    have held := State.matrixEval_withholds (s := s.matrixEval.loopEval) (by rw [once]; rfl) (by rw [once]; rfl) hn
    unfold State.group at held ⊢
    rw [groups, held]

/-! ### Giving up a join, and READY (R18) -/

theorem State.abandonJoin_mode (s : State) : s.abandonJoin.mode = s.mode := (s.abandonJoin_within).mode rfl

theorem State.abandonJoin_tdm (s : State) : s.abandonJoin.tdm = { s.tdm with joining := false, joinFor := none } := by
  unfold State.abandonJoin
  split
  · exact (State.decideCommand_within ..).tdm rfl
  · rfl

theorem State.dropDrive_due {s : State} (h : s.dropDrive.sys.driveEn = true) :
    s.dropDrive.sys.dropAt = some (s.tb0Start (s.tb0Number + 1)) := by
  unfold State.dropDrive at h ⊢
  split at h
  next low => simp [h] at low
  next high =>
    rw [if_neg high]
    split at h
    next => cases h
    next period => rw [if_neg period]

/-- The TB0 period that runs depends on MT and the period alone. -/
theorem State.tb0_next_of_same {s t : State} (mt : t.mt = s.mt)
    (period : t.rdf .pwm R.PWM.TB0_CFG 18 0 = s.rdf .pwm R.PWM.TB0_CFG 18 0) :
    t.tb0Start (t.tb0Number + 1) = s.tb0Start (s.tb0Number + 1) := by
  unfold State.tb0Start State.tb0Number State.tb0NumberAt
  rw [mt, period]

/-- READY taken from a role, before what the drive and the matrix make of it. -/
def State.readyTaken (s : State) : State := s.abandonJoin.takeMode .ready

theorem State.readyTaken_tdm (s : State) : s.readyTaken.tdm = { s.tdm with joining := false, joinFor := none } :=
  ((State.takeMode_within ..).tdm rfl).trans s.abandonJoin_tdm

theorem State.readyTaken_tb0 (s : State) :
    s.readyTaken.tb0Start (s.readyTaken.tb0Number + 1) = s.tb0Start (s.tb0Number + 1) := by
  refine State.tb0_next_of_same ?_ ?_
  · exact ((State.takeMode_within ..).mt rfl).trans ((State.abandonJoin_within s).mt rfl)
  · unfold State.rdf
    exact congrArg (fld · 18 0) (((State.takeMode_within ..).regs .pwm (List.not_mem_nil) rfl _ (by decide)).trans
      ((State.abandonJoin_within s).regs .pwm (List.not_mem_nil) rfl _ (by decide)))

/-- READY taken from a role, before the matrix evaluates it. -/
def State.readyShown (s : State) : State :=
  let r := s.readyTaken.dropDrive
  { r with
    tdm := { r.tdm with
      joined := false
      double := false
      fenced := false
      held := false
      driveWanted := false
      relayAt := 0 }
    sys := { r.sys with readyMt := r.mt }
    prot := { r.prot with r18 := r.prot.r18 || decide (s.mode = Mode.active) }
    eth := { r.eth with announce := 0 } }

theorem State.toReady_eq (s : State) : s.toReady = s.readyShown.protEval := rfl

theorem State.readyShown_mode (s : State) : s.readyShown.mode = .ready :=
  (State.dropDrive_within s.readyTaken).mode rfl

theorem State.readyShown_joining (s : State) : s.readyShown.tdm.joining = false := by
  have same : s.readyTaken.dropDrive.tdm.joining = s.readyTaken.tdm.joining :=
    congrArg TdmSt.joining ((State.dropDrive_within s.readyTaken).tdm rfl)
  rw [State.readyTaken_tdm] at same
  exact same

/-- The module is READY: its drive falls at the end of the TB0 period, every group is WITHHELD, and one that was ACTIVE
keeps its groups so until it takes a role again (R18). -/
structure LeftRole (s t : State) : Prop where
  mode : t.mode = .ready
  drive : t.sys.driveEn = true → t.sys.dropAt = some (s.tb0Start (s.tb0Number + 1))
  joining : t.tdm.joining = false
  driveWanted : t.tdm.driveWanted = false
  r18 : s.mode = .active → t.prot.r18 = true
  groups : ∀ n, n < 4 → t.group n = .withheld

theorem State.toReady_leftRole (s : State) : LeftRole s s.toReady := by
  rw [State.toReady_eq]
  have sys : s.readyShown.protEval.sys = s.readyShown.sys := (State.protEval_within _).sys_same rfl
  have tdm : s.readyShown.protEval.tdm = s.readyShown.tdm := (State.protEval_within _).tdm rfl
  obtain ⟨r18, groups⟩ := State.protEval_ready s.readyShown_mode
  refine ⟨(congrArg SysSt.mode sys).trans s.readyShown_mode, ?_, ?_, ?_, fun active => r18.trans ?_, groups⟩
  · rw [sys]
    intro high
    exact (State.dropDrive_due high).trans (congrArg some s.readyTaken_tb0)
  · rw [tdm]
    exact s.readyShown_joining
  · rw [tdm]
    rfl
  · unfold State.readyShown
    simp [active]

/-! ### ACTIVE and WITNESS-ONLY (R18) -/

theorem State.formActive_mode (s : State) : s.formActive.mode = .active := (State.enterActiveRole_within _).mode rfl

theorem State.formActive_driveWanted (s : State) : s.formActive.tdm.driveWanted = true :=
  congrArg TdmSt.driveWanted ((State.enterActiveRole_within _).tdm rfl)

theorem State.takeWitnessOnly_mode {s : State} (h : s.mode = .ready) : s.takeWitnessOnly.mode = .witnessOnly := by
  unfold State.takeWitnessOnly
  rw [if_pos h]
  exact (State.enterWitnessOnly_within _).mode rfl

/-! ### CONFIG_SIGNATURE_COMMIT (R41) -/

theorem sigStored_row : findRow .cfgx R.CFGX.SIG_STORED = some ⟨0x804, 4, 1, 0, 0, 0, 0, 0xFFFFFFFF, [0]⟩ := by
  decide +kernel

theorem cfgxStat_row : findRow .cfgx R.CFGX.STAT = some ⟨0x800, 4, 1, 0, 0, 0, 0, 1, [0]⟩ := by decide +kernel

theorem cfgxStat_armed_full : Full (RegRow.mask ⟨0x800, 4, 1, 0, 0, 0, 0, 1, [0]⟩) 0 0 := rfl

/-- An armed check reads so, and the stored signature stays. -/
theorem State.arm_shows (s : State) :
    s.arm.armed = true ∧ s.arm.rdn .cfgx R.CFGX.SIG_STORED = s.rdn .cfgx R.CFGX.SIG_STORED := by
  unfold State.arm State.armed State.rdb State.rdn
  rw [State.flag_rd _ _ _ (by decide) (by decide), State.flag_rd _ _ _ (by decide) (by decide)]
  exact ⟨State.rdb_wrb_same true cfgxStat_row (by decide) cfgxStat_armed_full,
    congrArg BitVec.toNat (State.rd_wr_other _ (by decide))⟩

/-- The live signature committed: it stands in SIG_STORED and in the settings. -/
def State.sigStored (s : State) (sig : Nat) : State :=
  (s.wrn .cfgx R.CFGX.SIG_STORED sig).modSettings (fun v => { v with sig := some (BitVec.ofNat 32 sig) })

theorem State.sigStored_shows (s : State) (sig : Word) :
    (s.sigStored sig.toNat).rdn .cfgx R.CFGX.SIG_STORED = sig.toNat := by
  have kept : (s.sigStored sig.toNat).rdn .cfgx R.CFGX.SIG_STORED =
      (s.wrn .cfgx R.CFGX.SIG_STORED sig.toNat).rdn .cfgx R.CFGX.SIG_STORED :=
    congrArg BitVec.toNat ((State.modSettings_within ..).regs .cfgx (List.not_mem_nil) rfl _ (by decide))
  rw [kept, State.rdn_wrn_same _ sigStored_row rfl]
  exact Nat.mod_eq_of_lt sig.isLt

theorem State.commitSig_live {s : State} {sig : Nat} (h : sig = s.liveSig) :
    s.commitSig sig = (false, (s.sigStored sig).arm) := by
  unfold State.commitSig
  exact if_neg (by simp [h])

/-! ### CALIBRATION_CYCLE (R163) -/

theorem calEndLo_row : findRow .est R.EST.CAL_END_LO = some ⟨0x894, 4, 1, 0, 0, 0, 0, 0xFFFFFFFF, [0]⟩ := by
  decide +kernel

theorem calEndHi_row : findRow .est R.EST.CAL_END_HI = some ⟨0x898, 4, 1, 0, 0, 0, 0, 0xFFFFFFFF, [0]⟩ := by
  decide +kernel

theorem calStat_row : findRow .est R.EST.CAL_STAT = some ⟨0x890, 4, 1, 0, 0, 0, 0, 0xFFFFF3, [0]⟩ := by decide +kernel

theorem calStat_state_full : Full (RegRow.mask ⟨0x890, 4, 1, 0, 0, 0, 0, 0xFFFFF3, [0]⟩) 1 0 := rfl

theorem State.rdn_wrf_other {s : State} {p q : Page} {o hi lo u v : Nat} (h : p.base + o ≠ q.base + u) :
    (s.wrf p o hi lo v).rdn q u = s.rdn q u := congrArg BitVec.toNat (State.rd_wr_other _ h)

theorem State.rd64_wr64_calEnd (s : State) (v : Nat) :
    (s.wr64 .est R.EST.CAL_END_LO R.EST.CAL_END_HI v).rd64 .est R.EST.CAL_END_LO R.EST.CAL_END_HI = v % 2 ^ 64 := by
  unfold State.wr64 State.rd64
  rw [State.rdn_wrn_same _ calEndHi_row rfl, State.rdn_wrn_other (by decide), State.rdn_wrn_same _ calEndLo_row rfl]
  omega

/-- Every present channel is armed for the steps that end with the running stage and after (R66). -/
def State.calArmed (s : State) : State := { s with est := { s.est with verdicts := s.est.verdicts ++ [(64, 0)] } }

theorem State.calArmed_rdn (s : State) (p : Page) (o : Nat) : s.calArmed.rdn p o = s.rdn p o := rfl

theorem State.calStart_eq (s : State) (acceptMt hours : Nat) : s.calStart acceptMt hours =
    (s.wr64 .est R.EST.CAL_END_LO R.EST.CAL_END_HI (acceptMt + hours * 3600000000000)).calArmed.wrf .est R.EST.CAL_STAT
      1 0 1 := rfl

/-- The cycle runs, and its deadline stands. -/
theorem State.calStart_shows (s : State) (acceptMt hours : Nat) :
    (s.calStart acceptMt hours).rdf .est R.EST.CAL_STAT 1 0 = 1 ∧
      (s.calStart acceptMt hours).rd64 .est R.EST.CAL_END_LO R.EST.CAL_END_HI =
        (acceptMt + hours * 3600000000000) % 2 ^ 64 := by
  rw [State.calStart_eq]
  refine ⟨State.rdf_wrf_same _ calStat_row (by decide) calStat_state_full, ?_⟩
  rw [← s.rd64_wr64_calEnd]
  unfold State.rd64
  rw [State.rdn_wrf_other (by decide), State.rdn_wrf_other (by decide), State.calArmed_rdn, State.calArmed_rdn]

end Sys2Proof.Machine
end

section
/-! SUPPORT. Each clause of the statement about commands at their effect tick. -/

namespace Sys2Proof.Machine

open Sys2Proof

/-- Four bytes of parameters hold their low 16 bits in the first two. -/
theorem leAt_leBytes_low (n : Nat) (h : n < 65536) : leAt (leBytes 4 n) 0 2 = n := by
  have split : leBytes 4 n = [] ++ (leBytes 2 n ++ leBytes 2 (n / 256 / 256)) := rfl
  rw [split]
  exact leAt_middle rfl h

theorem bits_byteAt_mask {n : Nat} (h : n < 16) : bits (byteAt (leBytes 4 n) 0) 3 0 = n := by
  have byte : byteAt (leBytes 4 n) 0 = n % 256 := rfl
  rw [byte]
  unfold bits
  omega

theorem leBytes_short {k n : Nat} (h : k < 65536) : (leBytes k n).length < 65536 := (leBytes_length k n).symm ▸ h

/-! ### ROLE_ASSIGN (R18) -/

theorem State.commandEffect_roleOf (s : State) (h : CmdHead) (r : Byte) :
    s.commandEffect (cmdMessage 0x04 h [r, 0, 0, 0]) = s.roleAssign r.toNat (cmdMessage 0x04 h [r, 0, 0, 0]) :=
  s.commandEffect_role h (show 4 < 65536 by decide)

/-- A command that takes the module from a role to READY. -/
theorem State.roleAssign_ready {s : State} {m : List Byte} (role : s.mode.isRole = true)
    (free : ¬ (s.mode = .active ∧ s.tdm.peer.heard = true ∧ s.tdm.silent = false ∧ s.tdm.peer.state = 5)) :
    s.roleAssign 3 m = (some false, s.toReady) := by
  have go : ¬ (decide (s.mode = .active) && s.tdm.peer.heard && !s.tdm.silent && decide (s.tdm.peer.state = 5)) = true := by
    simpa [and_assoc] using free
  unfold State.roleAssign
  exact (if_neg go).trans (if_pos role)

theorem State.roleAssign_ready_refused {s : State} {m : List Byte} (active : s.mode = .active)
    (heard : s.tdm.peer.heard = true) (speaks : s.tdm.silent = false) (standby : s.tdm.peer.state = 5) :
    s.roleAssign 3 m = (some true, s) := by
  unfold State.roleAssign
  exact if_pos (by simp [active, heard, speaks, standby])

theorem State.roleAssign_active {s : State} {m : List Byte} (mode : s.mode = .ready ∨ s.mode = .witnessOnly)
    (armed : s.armed = true) : s.roleAssign 4 m = (some false, s.abandonJoin.formActive) := by
  unfold State.roleAssign
  exact if_pos (by simpa [armed] using mode)

theorem State.roleAssign_standby {s : State} {m : List Byte} (mode : s.mode = .ready ∨ s.mode = .witnessOnly)
    (armed : s.armed = true) (paired : s.tandemed = true) (free : s.tdm.joining = false) :
    s.roleAssign 5 m = (none, s.startJoin (some m)) := by
  unfold State.roleAssign
  exact if_pos (by simpa [armed, paired, free] using mode)

theorem State.roleAssign_disarmed {s : State} {m : List Byte} (armed : s.armed = false) :
    s.roleAssign 4 m = (some true, s) ∧ s.roleAssign 5 m = (some true, s) := by
  unfold State.roleAssign
  exact ⟨if_neg (by simp [armed]), if_neg (by simp [armed])⟩

theorem State.roleAssign_witnessOnly {s : State} {m : List Byte} (mode : s.mode = .ready) :
    s.roleAssign 6 m = (some false, s.abandonJoin.takeWitnessOnly) := by
  unfold State.roleAssign
  exact if_pos mode

/-! ### PLANNED_RELAY (R302) and STRONGBOX_CLEAR (R339) -/

theorem State.plannedRelay_goes {s : State} (h : s.relayFollows = true ∨ (s.mode = .active ∧ s.relayAllowed = true)) :
    s.plannedRelay = (false, { s with tdm := { s.tdm with relayAt := s.relayPeriod } }) := by
  have go : ((decide (s.mode = .active) && s.relayAllowed) || s.relayFollows) = true := by
    simpa using h.symm
  unfold State.plannedRelay
  rw [if_pos go]
  rfl

theorem State.plannedRelay_refused {s : State} (follows : s.relayFollows = false)
    (h : s.mode ≠ .active ∨ s.relayAllowed = false) : s.plannedRelay = (true, s) := by
  unfold State.plannedRelay
  rw [if_neg (by obtain h | h := h <;> simp [follows, h])]

theorem State.sbxClear_goes {s : State} {x : Nat} (slot counter : Nat) (next : x < s.sbx.nextSeq)
    (cleared : s.mram.sbxCleared.value < x) (room : (s.areaRecs .clearLog).length + s.sbx.clears.length < 1024) :
    s.sbxClear x slot counter =
      (false, { s with sbx := { s.sbx with clears := s.sbx.clears ++ [(x, slot, counter)] } }) := by
  unfold State.sbxClear
  rw [if_neg (by simp; omega)]

end Sys2Proof.Machine
end

section
/-! SETTLEMENT. What each command does at its effect tick. -/

open Sys2Proof Sys2Proof.Machine

/-- Settles O25: the effect of a message by its code, then what that effect leaves. -/
theorem commandEffects : Obligations.CommandEffects := by
  refine ⟨fun h g s may => ?_, fun h n s hn stop => ?_, fun h c crc s kind => ?_, fun h c crc s kind => ?_,
    fun h t perm w s t0 _ => ?_, fun h b s => ?_, fun h s active peer => ?_, fun h s active heard speaks standby => ?_,
    fun h s mode => ?_, fun h s m e mode armed paired free => ?_, fun h s mode armed => ?_, fun h s armed => ?_,
    fun h s mode => ?_, fun h s go => ?_, fun h s follows stop => ?_, fun h x s next cleared small room => ?_,
    fun h k mt s => ?_, fun h sig s other => ?_, fun h sig s live => ?_, fun h hours s => ?_⟩
  · obtain ⟨none, ⟨groups, same⟩, group⟩ := State.releases_all (s := s) (mask := g.toNat) may
    rw [State.commandEffect_release _ _ (leBytes_short (by decide)), bits_byteAt_mask g.isLt, none]
    refine ⟨_, rfl, by rw [same]; rfl, by rw [same]; rfl, fun n hn => ?_⟩
    split
    next hit => exact (group n).1 ⟨hn, hit⟩
    next miss => exact (group n).2 fun c => miss c.2
  · have mask : 2 ^ n < 16 := Nat.pow_lt_pow_right (by decide) hn
    rw [State.commandEffect_release _ _ (leBytes_short (by decide)), bits_byteAt_mask mask,
      State.releases_rejects hn (State.release_rejects stop)]
  · obtain ⟨lim, str, seq, sum⟩ := s.limitChange_limits (cmdMessage 0x03 h (limitParams c crc))
    rw [s.limitsAfter_params] at lim str sum
    obtain ⟨string, parts⟩ := limApply_channels crc (s.mram.limSeq + 1) (s.prot.lim, s.prot.str) kind
    exact ⟨_, State.commandEffect_limit .., seq, str.trans string, by rw [sum, lim, str], fun k => lim ▸ parts k⟩
  · obtain ⟨lim, str, seq, sum⟩ := s.limitChange_limits (cmdMessage 0x03 h (limitParams c crc))
    rw [s.limitsAfter_params, limApply_string crc _ _ kind] at lim str sum
    exact ⟨_, State.commandEffect_limit .., seq, str, lim, by rw [sum, lim, str]⟩
  · have params := cmdParams_cmdMessage 0x08 h (keyParams_length t perm w)
    have target : byteAt (keyParams t perm w) 0 = t.toNat := rfl
    cases key : keyLoadUnwrap s h.slot.toNat (keyParams t perm w) with
    | none =>
      have same := State.applyKeyLoad_none (m := cmdMessage 0x08 h (keyParams t perm w)) (by rw [params, key])
      exact ⟨s, by rw [State.commandEffect_key, same], fun _ _ => rfl, rfl⟩
    | some k =>
      have loaded := State.applyKeyLoad_some (m := cmdMessage 0x08 h (keyParams t perm w)) (by rw [params, key])
        (by rw [params, target]; omega)
      rw [params, target, keyParams_perm] at loaded
      obtain ⟨others, slot⟩ := loaded
      exact ⟨_, State.commandEffect_key .., others, slot⟩
  · rw [State.commandEffect_dispatch _ _ (leBytes_short (by decide))]
    cases b <;> rfl
  · obtain ⟨mode, drive, -, wanted, r18, groups⟩ := s.toReady_leftRole
    refine ⟨s.toReady, ?_, mode, drive, wanted, r18 active, groups⟩
    rw [State.commandEffect_roleOf]
    exact State.roleAssign_ready (by rw [active]; rfl) fun ⟨_, heard, speaks, standby⟩ => peer heard speaks standby
  · rw [State.commandEffect_roleOf]
    exact State.roleAssign_ready_refused active heard speaks standby
  · obtain ⟨ready, -, joining, -, -, -⟩ := s.toReady_leftRole
    refine ⟨s.toReady, ?_, ready, joining⟩
    rw [State.commandEffect_roleOf]
    refine State.roleAssign_ready ?_ fun ⟨active, _⟩ => ?_
    · obtain mode | mode := mode <;> rw [mode] <;> rfl
    · obtain mode | mode := mode <;> rw [mode] at active <;> cases active
  · rw [e, State.commandEffect_roleOf]
    exact State.roleAssign_standby mode armed paired free
  · refine ⟨s.abandonJoin.formActive, ?_, State.formActive_mode _, State.formActive_driveWanted _⟩
    rw [State.commandEffect_roleOf]
    exact State.roleAssign_active mode armed
  · rw [State.commandEffect_roleOf, State.commandEffect_roleOf]
    exact ⟨(State.roleAssign_disarmed armed).1, (State.roleAssign_disarmed armed).2⟩
  · refine ⟨s.abandonJoin.takeWitnessOnly, ?_, State.takeWitnessOnly_mode (s.abandonJoin_mode.trans mode)⟩
    rw [State.commandEffect_roleOf]
    exact State.roleAssign_witnessOnly mode
  · rw [State.commandEffect_relay, State.plannedRelay_goes go]
  · rw [State.commandEffect_relay, State.plannedRelay_refused follows stop]
  · rw [State.commandEffect_clear _ _ (leBytes_short (by decide)), leAt_leBytes small,
      State.sbxClear_goes _ _ next cleared room]
  · have at' : leAt ([k, 0, 0, 0] ++ leBytes 8 mt.toNat) 4 8 = mt.toNat := by
      have split := leAt_middle (a := [k, 0, 0, 0]) (c := []) (k := 8) rfl mt.isLt
      rwa [List.append_nil] at split
    rw [State.commandEffect_activate _ _ (by simp), at']
    exact ⟨_, rfl, rfl, rfl⟩
  · rw [State.commandEffect_commit _ _ (leBytes_short (by decide)), leAt_leBytes sig.isLt]
    unfold State.commitSig
    rw [if_pos (by simpa using other)]
  · rw [State.commandEffect_commit _ _ (leBytes_short (by decide)), leAt_leBytes sig.isLt, State.commitSig_live live]
    obtain ⟨armed, kept⟩ := (s.sigStored sig.toNat).arm_shows
    exact ⟨_, rfl, armed, kept.trans (s.sigStored_shows sig)⟩
  · rw [State.commandEffect_calibration _ _ (leBytes_short (by decide)), leAt_leBytes_low _ hours.isLt]
    exact ⟨_, rfl, (State.calStart_shows ..).1, (State.calStart_shows ..).2⟩

end

section
/-! SUPPORT. Frames of the management SPI (R52, R53). -/

namespace Sys2Proof.Machine

open Sys2Proof

@[simp] theorem State.elapse_portUp (s : State) (dt : Nat) : (s.elapse dt).portUp = s.portUp := by
  unfold State.portUp
  rw [State.elapse_mode]

theorem exec_spiWriteFrame_up {s : State} (dt : Nat) (b : List Byte) (up : s.portUp = true) :
    exec (.spiWriteFrame dt b) s = .next ((s.elapse dt).spiFrame b).2.2 := by
  rw [exec_spiWriteFrame]
  exact if_pos ((s.elapse_portUp dt).trans up)

theorem exec_spiWriteFrame_down {s : State} (dt : Nat) (b : List Byte) (down : s.portUp = false) :
    exec (.spiWriteFrame dt b) s = .next (s.elapse dt) := by
  rw [exec_spiWriteFrame]
  exact if_neg (by rw [s.elapse_portUp, down]; decide)

theorem exec_spiReadFrame_down {s : State} (dt : Nat) (b : List Byte) (down : s.portUp = false) :
    exec (.spiReadFrame dt b) s = .next (s.elapse dt) := by
  rw [exec_spiReadFrame]
  exact if_neg (by rw [s.elapse_portUp, down]; decide)

/-- A frame of at least seven bytes, with a count of words and an opcode that R52 knows. -/
def spiHeadOk (b : List Byte) : Prop :=
  7 ≤ b.length ∧ 1 ≤ leAt b 5 2 ∧ leAt b 5 2 ≤ 1024 ∧ (byteAt b 0 = 2 ∨ byteAt b 0 = 3)

theorem State.spiFrame_badHead (s : State) {b : List Byte} (h : ¬spiHeadOk b) :
    s.spiFrame b = (1, [], s.spiFraming) := by
  unfold State.spiFrame
  refine if_pos ?_
  simp only [spiHeadOk, not_and_or, not_le, not_or] at h
  simp only [Bool.or_eq_true, Bool.and_eq_true, decide_eq_true_eq, bne_iff_ne]
  omega

theorem spiHeadOk.pass {b : List Byte} (h : spiHeadOk b) : ¬(decide (b.length < 7) || decide (leAt b 5 2 = 0) ||
    decide (1024 < leAt b 5 2) || byteAt b 0 != 2 && byteAt b 0 != 3) = true := by
  obtain ⟨long, least, most, op⟩ := h
  simp only [Bool.or_eq_true, Bool.and_eq_true, decide_eq_true_eq, bne_iff_ne]
  omega

section
variable (s : State) {b : List Byte}

theorem State.spiFrame_read (h : spiHeadOk b) (op : byteAt b 0 = 3) : s.spiFrame b =
    (0, (s.spiReads (leAt b 1 4) (leAt b 5 2)).1 ++
      leBytes 4 (crc32c (b.take 7 ++ (s.spiReads (leAt b 1 4) (leAt b 5 2)).1)),
      (s.spiReads (leAt b 1 4) (leAt b 5 2)).2) := by
  unfold State.spiFrame
  exact (if_neg h.pass).trans (if_pos op)

/-- The checks that the length and the CRC of a write frame meet. -/
theorem State.spiFrame_write (h : spiHeadOk b) (op : byteAt b 0 = 2) : s.spiFrame b =
    if b.length ≠ 7 + 4 * leAt b 5 2 + 4 then (1, [], s.spiFraming)
    else if crc32c (b.take (7 + 4 * leAt b 5 2)) ≠ leAt b (7 + 4 * leAt b 5 2) 4 then (1, [], s.spiCrcBad)
    else (if (s.spiWords (leAt b 1 4) (slice b 7 (4 * leAt b 5 2)) (leAt b 5 2)).1 then 2 else 0, [],
      (s.spiWords (leAt b 1 4) (slice b 7 (4 * leAt b 5 2)) (leAt b 5 2)).2) := by
  unfold State.spiFrame
  refine (if_neg h.pass).trans ((if_neg (by omega)).trans ?_)
  simp only [bne_iff_ne]

theorem State.spiFrame_badLength (op : byteAt b 0 = 2)
    (h : b.length ≠ 11 + 4 * leAt b 5 2 ∨ leAt b 5 2 = 0 ∨ 1024 < leAt b 5 2) :
    s.spiFrame b = (1, [], s.spiFraming) := by
  by_cases head : spiHeadOk b
  · obtain ⟨-, least, most, -⟩ := id head
    rw [s.spiFrame_write head op, if_pos (by omega)]
  · exact s.spiFrame_badHead head

end

/-- A frame of the length that its count gives. -/
theorem spiHeadOk_write {b : List Byte} (op : byteAt b 0 = 2) (least : 1 ≤ leAt b 5 2) (most : leAt b 5 2 ≤ 1024)
    (len : b.length = 11 + 4 * leAt b 5 2) : spiHeadOk b := ⟨by omega, least, most, .inl op⟩

theorem hostSpiErr_row : findRow .host R.HOST.SPIERR = some ⟨0xF08, 4, 1, 0, 0, 0, 0, 0xFFFFFFFF, [0]⟩ := by
  decide +kernel

theorem State.incf_regsOnly (s : State) (p : Page) (o hi lo : Nat) : { s.incf p o hi lo with regs := s.regs } = s := by
  unfold State.incf State.wrf State.wr
  split <;> rfl

/-- A count of one half of HOST.SPIERR: nothing else changes. -/
theorem State.spiErr_counts (s : State) (dt : Nat) {hi lo : Nat} (k : hi < 32) (f : Full 0xFFFFFFFF hi lo) :
    ((s.elapse dt).incf .host R.HOST.SPIERR hi lo).rdf .host R.HOST.SPIERR hi lo =
        satAdd (hi + 1 - lo) (s.rdf .host R.HOST.SPIERR hi lo) 1 ∧
      { (s.elapse dt).incf .host R.HOST.SPIERR hi lo with regs := (s.elapse dt).regs } = s.elapse dt ∧
      ∀ (p : Page) o, p.base + o ≠ Page.base .host + R.HOST.SPIERR →
        ((s.elapse dt).incf .host R.HOST.SPIERR hi lo).rd p o = s.rd p o := by
  refine ⟨?_, State.incf_regsOnly .., fun p o apart => ?_⟩
  · rw [State.rdf_incf_same hostSpiErr_row k f, State.elapse_rdf]
  · unfold State.incf State.wrf
    rw [State.rd_wr_other _ (Ne.symm apart), State.elapse_rd]

end Sys2Proof.Machine
end

section
/-! SETTLEMENT. Write frames of the management SPI (R53). -/

open Sys2Proof Sys2Proof.Machine

/-- Settles O30, by the order of the checks of `State.spiFrame`: head, length, CRC. -/
theorem spiWriteFramesAreWhole : Obligations.SpiWriteFramesAreWhole := by
  refine ⟨fun dt b s down => ⟨exec_spiWriteFrame_down dt b down, exec_spiReadFrame_down dt b down⟩, ?_⟩
  rintro dt b s e rfl up
  rw [exec_spiWriteFrame_up dt b up]
  refine ⟨fun op least most len crc => ?_, fun op wrong => ?_, fun op least most len crc => ?_,
    fun notWrite notRead => ?_⟩
  · rw [State.spiFrame_write _ (spiHeadOk_write op least most len) op, if_neg (by omega), if_neg (not_not.mpr crc)]
  · rw [State.spiFrame_badLength _ op wrong]
    exact ⟨_, rfl, s.spiErr_counts dt (by decide) rfl⟩
  · rw [State.spiFrame_write _ (spiHeadOk_write op least most len) op, if_neg (by omega), if_pos crc]
    exact ⟨_, rfl, s.spiErr_counts dt (by decide) rfl⟩
  · rw [State.spiFrame_badHead _ fun ⟨_, _, _, op⟩ => op.elim notWrite notRead]
    exact ⟨_, rfl, s.spiErr_counts dt (by decide) rfl⟩
end

section
/-! SUPPORT. A reset of the host link (R31). -/

namespace Sys2Proof.Machine

open Sys2Proof

/-! ### The states of the pages -/

theorem State.pageState_setPage_same (s : State) (p : Page) (t : PageState) : (s.setPage p t).pageState p = t := by
  unfold State.pageState State.setPage
  exact sget_sset_same ..

theorem State.pageState_setPage_other (s : State) {p q : Page} (t : PageState) (h : q ≠ p) :
    (s.setPage p t).pageState q = s.pageState q := by
  unfold State.pageState State.setPage
  exact sget_sset_other _ _ _ _ fun e => h (page_index_inj _ _ e)

/-- What leaves the pages alone leaves the state of each. -/
theorem Within.pageState {K : Nat} {ps : List Page} {s t : State} (h : Within K ps s t) (k : K.testBit 4 = false)
    (p : Page) : t.pageState p = s.pageState p := by
  unfold State.pageState
  rw [h.pages k]

/-! ### Parts that a mask names in pieces -/

theorem Within.mode_same {K : Nat} {ps : List Page} {s t : State} (h : Within K ps s t) (k : K.testBit 0 = false) :
    t.mode = s.mode := h.mode k

theorem Within.est_same {K : Nat} {ps : List Page} {s t : State} (h : Within K ps s t) (k : K.testBit 16 = false)
    (l : K.testBit 17 = false) : t.est = s.est := by
  calc t.est = { { t.est with ps := [] } with ps := t.est.ps } := rfl
    _ = s.est := by rw [h.est k, h.psm l]

theorem Within.loops_same {K : Nat} {ps : List Page} {s t : State} (h : Within K ps s t) (k : K.testBit 21 = false)
    (l : K.testBit 22 = false) : t.loops = s.loops := by
  calc t.loops = { { t.loops with pairs := [] } with pairs := t.loops.pairs } := rfl
    _ = s.loops := by rw [h.loops k, h.pairs l]

theorem Within.prot_same {K : Nat} {ps : List Page} {s t : State} (h : Within K ps s t) (k : K.testBit 23 = false)
    (l : K.testBit 24 = false) : t.prot = s.prot := by
  calc t.prot = { { t.prot with groups := [] } with groups := t.prot.groups } := rfl
    _ = s.prot := by rw [h.prot k, h.groups l]

theorem Within.mram_same {K : Nat} {ps : List Page} {s t : State} (h : Within K ps s t)
    (k : K / 2 ^ 39 % 2 ^ 7 = 0) : t.mram = s.mram := by
  have bit (i : Nat) (hi : i < 7) : K.testBit (39 + i) = false := by
    have low := Nat.testBit_mod_two_pow (K / 2 ^ 39) 7 i
    rwa [k, Nat.zero_testBit, decide_eq_true hi, Bool.true_and, Nat.testBit_div_two_pow, Nat.add_comm, eq_comm] at low
  have jrn := h.jrnSlots (bit 0 (by decide))
  have streams := h.streamCounts (bit 1 (by decide))
  have limits := h.limits (bit 2 (by decide))
  have records := h.records (bit 3 (by decide))
  have keys := h.keys (bit 4 (by decide))
  have images := h.images (bit 5 (by decide))
  have shutdown := h.shutdown (bit 6 (by decide))
  revert jrn streams limits records keys images shutdown
  cases s.mram
  cases t.mram
  simp only [Prod.mk.injEq, Mram.mk.injEq]
  tauto

/-! ### A page's line while no flag is set -/

theorem regDefault_flags (p : Page) : regDefault p R.PAGE.FLAGS = 0 := regDefault_eq (findRow_flags p)

/-- A page with no flag set deasserts its line, and that is all. -/
theorem State.pageLine_clear {s : State} {p : Page} (h : s.rd p R.PAGE.FLAGS = 0) :
    s.pageLine p = s.setSrc (128 + p.index) { s.src (128 + p.index) with line := false } := by
  unfold State.pageLine State.levelSource
  simp [h]

/-! ### What a link reset erases -/

/-- An erased page reads its reset values. -/
theorem State.rd_erasePage_same (s : State) (p : Page) {o : Nat} (h : o < 0x1000) :
    (s.erasePage p).rd p o = regDefault p o := by
  unfold State.rd State.erasePage
  refine (sget_eq_or_mem _ _ _).resolve_right fun m => ?_
  have out := (List.mem_filter.mp m).2
  simp only [Bool.not_eq_true', Bool.and_eq_false_iff, decide_eq_false_iff_not] at out
  omega

theorem State.rd_erasePage_other (s : State) {p q : Page} (h : q ≠ p) {o : Nat} (ho : o < 0x1000) :
    (s.erasePage p).rd q o = s.rd q o :=
  (s.erasePage_within p).regs q (by simpa using h) (Nat.zero_testBit _) o ho

theorem State.rd_ringsFresh_other (s : State) {p : Page} (h : p ≠ .rng) {o : Nat} (ho : o < 0x1000) :
    s.ringsFresh.rd p o = s.rd p o := by
  have kind : p.kind ≠ .rng := by
    cases p
    case rng => exact absurd rfl h
    all_goals exact nofun
  refine s.ringsFresh_within.regs p (by simp) ?_ o ho
  revert kind
  cases p.kind
  case rng => exact fun k => absurd rfl k
  all_goals exact fun _ => rfl

/-- The registers of HOST and RNG at their reset values, no descriptor left, and the MSI-X capability reset (R395). -/
def State.eraseLink (s : State) : State :=
  let s := (s.fifosGone.erasePage .host).erasePage .rng
  { s with rings := [], host := { msix := [], off := true, held := s.host.held } }

theorem State.eraseLink_within (s : State) : Within 0x6000200000060 [] s s.eraseLink := by
  have gone (t : State) (h : HostSt) : Within 0x6000200000060 [] t { t with rings := [], host := h } :=
    { Within.refl t with rings := nofun, host := nofun }
  exact (((s.fifosGone_within.mono rfl).trans ((State.erasePage_within _ _).kind rfl .host rfl rfl)).trans
    ((State.erasePage_within _ _).kind rfl .rng rfl rfl)).trans (gone _ _)

theorem State.eraseLink_rd_host (s : State) {o : Nat} (ho : o < 0x1000) :
    s.eraseLink.rd .host o = regDefault .host o :=
  (State.rd_erasePage_other (s.fifosGone.erasePage .host) (by decide) ho).trans (State.rd_erasePage_same _ _ ho)

theorem State.eraseLink_rd_rng (s : State) {o : Nat} (ho : o < 0x1000) : s.eraseLink.rd .rng o = regDefault .rng o :=
  State.rd_erasePage_same (s.fifosGone.erasePage .host) _ ho

theorem State.eraseLink_rd_other (s : State) {p : Page} (h : p ≠ .host) (k : p ≠ .rng) {o : Nat} (ho : o < 0x1000) :
    s.eraseLink.rd p o = s.rd p o :=
  (State.rd_erasePage_other (s.fifosGone.erasePage .host) k ho).trans (State.rd_erasePage_other s.fifosGone h ho)

/-- Both pages DISABLED. -/
def State.linkPages (s : State) : State := (s.setPage .host .disabled).setPage .rng .disabled

theorem State.linkPages_host (s : State) : s.linkPages.pageState .host = .disabled :=
  (State.pageState_setPage_other _ _ (by decide)).trans (State.pageState_setPage_same ..)

theorem State.linkPages_rng (s : State) : s.linkPages.pageState .rng = .disabled := State.pageState_setPage_same ..

theorem State.linkPages_other (s : State) {p : Page} (h : p ≠ .host) (k : p ≠ .rng) :
    s.linkPages.pageState p = s.pageState p :=
  (State.pageState_setPage_other _ _ k).trans (State.pageState_setPage_other _ _ h)

/-! ### The reset of the link -/

/-- The link is down: its pages are DISABLED and erased, and the event is counted. -/
def State.linkDown (s : State) : State :=
  s.linkPages.ringsFresh.eraseLink.wrf .host R.HOST.LINK 31 16 (satAdd 16 (s.rdf .host R.HOST.LINK 31 16) 1)

theorem hostLink_row : findRow .host R.HOST.LINK = some ⟨0x800, 4, 1, 0, 0, 0, 0, 0xFFFF01FF, [0]⟩ := by decide +kernel

theorem State.linkDown_downs (s : State) :
    s.linkDown.rdf .host R.HOST.LINK 31 16 = satAdd 16 (s.rdf .host R.HOST.LINK 31 16) 1 := by
  unfold State.linkDown
  rw [State.rdf_wrf_same _ hostLink_row (by decide) (by unfold Full; decide)]
  exact Nat.mod_eq_of_lt (by unfold satAdd; omega)

theorem State.linkDown_rd (s : State) {p : Page} {o : Nat} (h : Page.base .host + R.HOST.LINK ≠ p.base + o) :
    s.linkDown.rd p o = s.linkPages.ringsFresh.eraseLink.rd p o := by
  unfold State.linkDown State.wrf
  exact State.rd_wr_other _ h

theorem State.linkDown_rd_host (s : State) {o : Nat} (ho : o < 0x1000) (h : o ≠ R.HOST.LINK) :
    s.linkDown.rd .host o = regDefault .host o :=
  (s.linkDown_rd (place_ne h.symm)).trans (State.eraseLink_rd_host _ ho)

theorem State.linkDown_rd_rng (s : State) {o : Nat} (ho : o < 0x1000) : s.linkDown.rd .rng o = regDefault .rng o :=
  (s.linkDown_rd (page_apart (by decide) (by decide) ho)).trans (State.eraseLink_rd_rng _ ho)

theorem State.linkDown_rd_other (s : State) {p : Page} (h : p ≠ .host) (k : p ≠ .rng) {o : Nat} (ho : o < 0x1000) :
    s.linkDown.rd p o = s.rd p o :=
  (s.linkDown_rd (page_apart (Ne.symm h) (by decide) ho)).trans
    ((State.eraseLink_rd_other _ h k ho).trans (State.rd_ringsFresh_other s.linkPages k ho))

/-- Besides the two pages, their registers and what hung on the rings, nothing changes. -/
theorem State.linkDown_within (s : State) : Within 0x6000210000070 [] s s.linkDown :=
  ((((s.setPage_within .host .disabled).mono rfl).trans ((State.setPage_within _ .rng .disabled).mono rfl)).trans
    ((s.linkPages.ringsFresh_within).mono rfl)).trans
    ((s.linkPages.ringsFresh.eraseLink_within.mono rfl).trans ((State.wrf_within ..).kind rfl .host rfl rfl))

theorem State.linkDown_pageState (s : State) (p : Page) : s.linkDown.pageState p = s.linkPages.pageState p :=
  ((((s.linkPages.ringsFresh_within).mono rfl).trans (s.linkPages.ringsFresh.eraseLink_within.mono rfl)).trans
    ((State.wrf_within ..).kind rfl .host rfl rfl) : Within 0x6000210000060 [] s.linkPages s.linkDown).pageState rfl p

theorem State.linkDown_rings (s : State) : s.linkDown.rings = [] ∧ s.linkDown.host.msix = [] := by
  unfold State.linkDown
  rw [State.wrf_rings, State.wrf_host]
  exact ⟨rfl, rfl⟩

/-- The link is down, and the lines of its pages follow. -/
def State.linkReset (s : State) : State := (s.linkDown.pageLine .host).pageLine .rng

theorem exec_linkReset_up {s : State} (dt : Nat) (up : s.portUp = true) :
    exec (.linkReset dt) s = .next (s.elapse dt).linkReset := by
  rw [exec_linkReset]
  exact if_neg (by simp [up])

theorem exec_linkReset_down {s : State} (dt : Nat) (down : s.portUp = false) :
    exec (.linkReset dt) s = .next (s.elapse dt) := by
  rw [exec_linkReset]
  exact if_pos (by simp [down])

/-- No flag of the erased pages is set, so their lines are deasserted. -/
theorem State.linkReset_lines (s : State) : ∃ a b, s.linkReset = (s.linkDown.setSrc 130 a).setSrc 131 b := by
  have host : s.linkDown.rd .host R.PAGE.FLAGS = 0 :=
    (s.linkDown_rd_host (by decide) (by decide)).trans (regDefault_flags _)
  have rng (n v) : (s.linkDown.setSrc n v).rd .rng R.PAGE.FLAGS = 0 :=
    (State.setSrc_rd ..).trans ((s.linkDown_rd_rng (by decide)).trans (regDefault_flags _))
  unfold State.linkReset
  rw [State.pageLine_clear host, State.pageLine_clear (rng ..)]
  exact ⟨_, _, rfl⟩

theorem State.linkReset_within (s : State) : Within 0x60002100000f0 [] s s.linkReset := by
  obtain ⟨a, b, e⟩ := s.linkReset_lines
  rw [e]
  exact (s.linkDown_within.mono rfl).trans (((State.setSrc_within ..).mono rfl).trans ((State.setSrc_within ..).mono rfl))

theorem State.linkReset_rd (s : State) (p : Page) (o : Nat) : s.linkReset.rd p o = s.linkDown.rd p o := by
  obtain ⟨a, b, e⟩ := s.linkReset_lines
  rw [e, State.setSrc_rd, State.setSrc_rd]

theorem State.linkReset_downs (s : State) :
    s.linkReset.rdf .host R.HOST.LINK 31 16 = satAdd 16 (s.rdf .host R.HOST.LINK 31 16) 1 := by
  rw [← s.linkDown_downs]
  unfold State.rdf
  rw [State.linkReset_rd]

theorem State.linkReset_pageState (s : State) (p : Page) : s.linkReset.pageState p = s.linkPages.pageState p := by
  obtain ⟨a, b, e⟩ := s.linkReset_lines
  rw [e, ← s.linkDown_pageState]
  unfold State.pageState
  rw [State.setSrc_pages, State.setSrc_pages]

theorem State.linkReset_rings (s : State) : s.linkReset.rings = [] ∧ s.linkReset.host.msix = [] := by
  obtain ⟨a, b, e⟩ := s.linkReset_lines
  rw [e, State.setSrc_rings, State.setSrc_rings, State.setSrc_host, State.setSrc_host]
  exact s.linkDown_rings

end Sys2Proof.Machine
end

section
/-! SETTLEMENT. A reset of the host link (R31). -/

open Sys2Proof Sys2Proof.Machine

/-- Settles O29: the pages and registers by what `State.linkReset` reads, the rest by its mask. -/
theorem linkResetTouchesHostAndRingsOnly : Obligations.LinkResetTouchesHostAndRingsOnly := by
  refine ⟨fun dt s down => exec_linkReset_down dt down, fun dt s up => ?_⟩
  have rest := (s.elapse dt).linkReset_within
  obtain ⟨rings, msix⟩ := (s.elapse dt).linkReset_rings
  refine ⟨_, exec_linkReset_up dt up, ?_, ?_, fun p h k => ?_, fun o ho link => ?_, fun o ho => ?_, ?_,
    fun p h k o ho => ?_, rings, msix, (rest.sent rfl).trans (s.elapse_sent dt),
    (rest.mode_same rfl).trans (s.elapse_mode dt), rest.drive rfl,
    (rest.prot_same rfl rfl).trans (s.elapse_prot dt), (rest.loops_same rfl rfl).trans (s.elapse_loops dt),
    (rest.est_same rfl rfl).trans (s.elapse_est dt), (rest.tdm rfl).trans (s.elapse_tdm dt),
    (rest.events rfl).trans (s.elapse_events dt), (rest.mram_same rfl).trans (s.elapse_mram dt)⟩
  · rw [State.linkReset_pageState, State.linkPages_host]
  · rw [State.linkReset_pageState, State.linkPages_rng]
  · rw [State.linkReset_pageState, State.linkPages_other _ h k, State.elapse_pageState]
  · rw [State.linkReset_rd, State.linkDown_rd_host _ ho link]
  · rw [State.linkReset_rd, State.linkDown_rd_rng _ ho]
  · rw [State.linkReset_downs, State.elapse_rdf]
  · rw [State.linkReset_rd, State.linkDown_rd_other _ h k ho, State.elapse_rd]
end

section
/-! SUPPORT. Accesses by address: rejected ones (R30), and one word over the management SPI (R52). -/

namespace Sys2Proof.Machine

open Sys2Proof

theorem exec_spiReadFrame_up {s : State} (dt : Nat) (b : List Byte) (up : s.portUp = true) :
    exec (.spiReadFrame dt b) s = .next (if ((s.elapse dt).spiFrame b).2.1 = [] then ((s.elapse dt).spiFrame b).2.2
      else ((s.elapse dt).spiFrame b).2.2.send (.spi ((s.elapse dt).spiFrame b).2.1)) := by
  rw [exec_spiReadFrame]
  exact if_pos ((s.elapse_portUp dt).trans up)

/-! ### Rejected accesses (R30) -/

theorem hostReject_row : findRow .host R.HOST.REJECT = some ⟨0xF00, 4, 1, 0, 0, 0, 0, 0xFFFF, [0]⟩ := by decide +kernel

theorem hostRejAddr_row : findRow .host R.HOST.REJ_ADDR = some ⟨0xF04, 4, 1, 0, 0, 0, 0, 0x8FFFFFFF, [0]⟩ := by
  decide +kernel

/-- The address of the first rejected access is kept. -/
def State.rejectFirst (s : State) (bar2 : Bool) (off : Nat) : State :=
  if s.rdf .host R.HOST.REJECT 15 0 = 0 then s.wrn .host R.HOST.REJ_ADDR (b2n bar2 * 2 ^ 31 + off % 2 ^ 28) else s

theorem State.reject_eq (s : State) (bar2 : Bool) (off : Nat) :
    s.reject bar2 off = (s.rejectFirst bar2 off).incf .host R.HOST.REJECT 15 0 := rfl

theorem State.rejectFirst_count (s : State) (bar2 : Bool) (off : Nat) :
    (s.rejectFirst bar2 off).rdf .host R.HOST.REJECT 15 0 = s.rdf .host R.HOST.REJECT 15 0 := by
  unfold State.rejectFirst
  split
  · unfold State.wrn State.rdf
    rw [State.rd_wr_other _ (by decide)]
  · rfl

theorem State.reject_count (s : State) (bar2 : Bool) (off : Nat) :
    (s.reject bar2 off).rdf .host R.HOST.REJECT 15 0 = satAdd 16 (s.rdf .host R.HOST.REJECT 15 0) 1 := by
  rw [State.reject_eq, State.rdf_incf_same hostReject_row (by decide) (by unfold Full; decide), State.rejectFirst_count]

/-- REJ_ADDR holds the BAR in bit 31 and an offset of 28 bits; the bits between are reserved. -/
theorem rejAddr_masked (bar2 : Bool) (off : Nat) : BitVec.ofNat 32 (b2n bar2 * 2 ^ 31 + off % 2 ^ 28) &&& 0x8FFFFFFF#32 =
    BitVec.ofNat 32 (b2n bar2 * 2 ^ 31 + off % 2 ^ 28) := by
  have mask : ∀ i < 32, ¬(28 ≤ i ∧ i < 31) → (0x8FFFFFFF#32).getLsbD i = true := by decide
  refine BitVec.eq_of_getLsbD_eq fun i hi => ?_
  rw [BitVec.getLsbD_and, BitVec.getLsbD_ofNat]
  by_cases gap : 28 ≤ i ∧ i < 31
  · have low : off % 2 ^ 28 < 2 ^ i :=
      Nat.lt_of_lt_of_le (Nat.mod_lt _ (by decide)) (Nat.pow_le_pow_right (by decide) gap.1)
    rw [Nat.mul_comm, Nat.testBit_two_pow_mul_add _ (by omega), if_pos gap.2, Nat.testBit_lt_two_pow low]
    simp
  · rw [mask i hi gap, Bool.and_true]

theorem State.reject_addr (s : State) (bar2 : Bool) (off : Nat) (first : s.rdf .host R.HOST.REJECT 15 0 = 0) :
    (s.reject bar2 off).rdn .host R.HOST.REJ_ADDR = b2n bar2 * 2 ^ 31 + off % 2 ^ 28 := by
  have small : b2n bar2 * 2 ^ 31 + off % 2 ^ 28 < 2 ^ 32 := by
    cases bar2
    · rw [show b2n false = 0 from rfl]
      omega
    · rw [show b2n true = 1 from rfl]
      omega
  have mask : RegRow.mask ⟨0xF04, 4, 1, 0, 0, 0, 0, 0x8FFFFFFF, [0]⟩ = 0x8FFFFFFF := by decide
  rw [State.reject_eq]
  unfold State.rejectFirst State.incf State.wrf State.rdn
  rw [if_pos first, State.rd_wr_other _ (by decide), State.wrn, State.rd_wr_same _ hostRejAddr_row, mask,
    rejAddr_masked, BitVec.toNat_ofNat, Nat.mod_eq_of_lt small]

theorem exec_barAccessRejected_write {s : State} (dt : Nat) (bar2 : Bool) (off : Nat) (up : s.portUp = true) :
    exec (.barAccessRejected dt bar2 off true) s = .next ((s.elapse dt).reject bar2 off) := by
  rw [exec_barAccessRejected]
  exact if_pos ((s.elapse_portUp dt).trans up)

/-- A port that is up answers a rejected read with 0. -/
theorem exec_barAccessRejected_read {s : State} (dt : Nat) (bar2 : Bool) (off : Nat) (up : s.portUp = true) :
    exec (.barAccessRejected dt bar2 off false) s = .next (((s.elapse dt).reject bar2 off).send (.read off 0)) := by
  have mode : ((s.elapse dt).reject bar2 off).mode = s.mode :=
    ((State.reject_within _ bar2 off).mode_same rfl).trans (s.elapse_mode dt)
  have answered : ((s.elapse dt).reject bar2 off).answerRead off 0 =
      ((s.elapse dt).reject bar2 off).send (.read off 0) := by
    unfold State.answerRead
    rw [mode]
    exact if_pos up
  rw [exec_barAccessRejected, ← answered]
  exact if_pos ((s.elapse_portUp dt).trans up)

theorem exec_barAccessRejected_down {s : State} (dt : Nat) (bar2 : Bool) (off : Nat) (w : Bool) (down : s.portUp = false) :
    exec (.barAccessRejected dt bar2 off w) s = .next (s.elapse dt) := by
  rw [exec_barAccessRejected]
  exact if_neg (by rw [s.elapse_portUp, down]; decide)

/-! ### Registers by their BAR0 offset (R45) -/

theorem page_base_lt (p : Page) : p.base < 0x40000 := by
  have hp := page_index_lt p
  unfold Page.base
  dsimp only
  split_ifs <;> omega

/-- The page of a register's BAR0 offset is the register's. -/
theorem Page.ofOffset_base (p : Page) {o : Nat} (h : o < 0x1000) : Page.ofOffset (p.base + o) = some p := by
  unfold Page.ofOffset
  cases found : allPages.find? fun q => decide (q.base ≤ p.base + o) && decide (p.base + o < q.base + 0x1000) with
  | none =>
    have none := List.find?_eq_none.mp found p (mem_allPages p)
    simp [h] at none
  | some q =>
    have holds := List.find?_some found
    simp only [Bool.and_eq_true, decide_eq_true_eq] at holds
    have same : q = p := by
      by_contra other
      exact page_apart other (o := p.base + o - q.base) (by omega) h (by omega)
    rw [same]

theorem page_base_aligned (p : Page) : p.base % 4 = 0 := by
  unfold Page.base
  dsimp only
  split_ifs <;> omega

section
variable (s : State) (p : Page) {o : Nat} (h : o < 0x1000) (k : o % 4 = 0)
include h k

theorem State.bar0Write_register (v : Word) : s.bar0Write (p.base + o) v = s.hostWrite p o v := by
  have aligned : ¬((p.base + o) % 4 != 0) = true := by
    have := page_base_aligned p
    simp only [bne_iff_ne, ne_eq, not_not]
    omega
  unfold State.bar0Write
  rw [if_neg aligned, Page.ofOffset_base p h]
  dsimp only
  rw [Nat.add_sub_cancel_left]

theorem State.bar0Read_register : s.bar0Read (p.base + o) = s.regRead p o := by
  have aligned : ¬((p.base + o) % 4 != 0) = true := by
    have := page_base_aligned p
    simp only [bne_iff_ne, ne_eq, not_not]
    omega
  unfold State.bar0Read
  rw [if_neg aligned, Page.ofOffset_base p h]
  dsimp only
  rw [Nat.add_sub_cancel_left]

end

/-! ### One word over the management SPI (R52) -/

@[simp] theorem State.elapse_spiLocked (s : State) (dt addr : Nat) : (s.elapse dt).spiLocked addr = s.spiLocked addr := by
  unfold State.spiLocked
  rw [State.elapse_running, State.elapse_rdb]

section
variable (s : State) (p : Page) {o : Nat} (h : o < 0x1000) (k : o % 4 = 0)
include h k

/-- A register's BAR0 offset as an address of R52. -/
theorem spiAddress_register : ¬2 ^ 31 ≤ p.base + o ∧ (p.base + o) % 2 ^ 20 = p.base + o := by
  have := page_base_lt p
  omega

theorem State.spiWords_register (v : Word) (free : s.spiLocked (p.base + o) = false) :
    (s.spiWords (p.base + o) (leBytes 4 v.toNat) 1).2 = s.hostWrite p o v := by
  obtain ⟨low, addr⟩ := spiAddress_register p h k
  have word : BitVec.ofNat 32 (leNat ((leBytes 4 v.toNat).take 4)) = v := by
    rw [List.take_of_length_le (by simp), leNat_leBytes, show 256 ^ 4 = 2 ^ 32 by decide, Nat.mod_eq_of_lt v.isLt,
      BitVec.ofNat_toNat, BitVec.setWidth_eq]
  unfold State.spiWords State.spiWords
  simp only [free, word, low, addr, Bool.false_eq_true, if_false, State.bar0Write_register s p h k]

theorem State.spiReads_register :
    s.spiReads (p.base + o) 1 = (leBytes 4 (s.regRead p o).1, (s.regRead p o).2) := by
  obtain ⟨low, addr⟩ := spiAddress_register p h k
  unfold State.spiReads State.spiReads
  simp only [low, addr, if_false, State.bar0Read_register s p h k, List.append_nil]

end

/-- The frame that writes one word is whole: head, address, count, word and CRC. -/
theorem spiWriteOne_fields {addr : Nat} (v : Word) (h : addr < 2 ^ 32) :
    byteAt (spiWriteOne addr v) 0 = 2 ∧ leAt (spiWriteOne addr v) 1 4 = addr ∧ leAt (spiWriteOne addr v) 5 2 = 1 ∧
      (spiWriteOne addr v).length = 15 ∧ slice (spiWriteOne addr v) 7 4 = leBytes 4 v.toNat ∧
      crc32c ((spiWriteOne addr v).take 11) = leAt (spiWriteOne addr v) 11 4 := by
  let head := [0x02] ++ leBytes 4 addr
  let body := head ++ leBytes 2 1 ++ leBytes 4 v.toNat
  have whole : spiWriteOne addr v = body ++ leBytes 4 (crc32c body) := rfl
  have len : body.length = 11 := by simp [body, head]
  refine ⟨rfl, ?_, ?_, ?_, ?_, ?_⟩
  · rw [whole]
    simp only [body, head, List.append_assoc]
    exact leAt_middle rfl h
  · rw [whole]
    simp only [body, List.append_assoc]
    exact leAt_middle (by simp [head]) (by decide)
  · rw [whole, List.length_append, len, leBytes_length]
  · rw [whole]
    simp only [body]
    rw [List.append_assoc]
    exact slice_middle (by simp [head]) (leBytes_length ..)
  · have crc := leAt_middle (a := body) (c := []) (k := 4) len (crc32c_lt body)
    rw [List.append_nil] at crc
    rw [whole, crc, List.take_left' len]

theorem spiReadOne_fields {addr : Nat} (h : addr < 2 ^ 32) :
    byteAt (spiReadOne addr) 0 = 3 ∧ leAt (spiReadOne addr) 1 4 = addr ∧ leAt (spiReadOne addr) 5 2 = 1 ∧
      (spiReadOne addr).length = 7 := by
  refine ⟨rfl, ?_, ?_, by simp [spiReadOne]⟩
  · unfold spiReadOne
    rw [List.append_assoc]
    exact leAt_middle rfl h
  · have count := leAt_middle (a := [0x03] ++ leBytes 4 addr) (c := []) (o := 5) (k := 2) (n := 1) (by simp) (by decide)
    rwa [List.append_nil] at count

section
variable {s : State} (dt : Nat) (p : Page) {o : Nat} (up : s.portUp = true) (h : o < 0x1000) (k : o % 4 = 0)
include up h k

/-- A frame that writes a register is the host's write of it. -/
theorem exec_spiWriteFrame_register (v : Word) (free : s.spiLocked (p.base + o) = false) :
    exec (.spiWriteFrame dt (spiWriteOne (p.base + o) v)) s = .next ((s.elapse dt).hostWrite p o v) := by
  have small := page_base_lt p
  obtain ⟨op, addr, count, len, data, crc⟩ := spiWriteOne_fields v (show p.base + o < 2 ^ 32 by omega)
  have head : spiHeadOk (spiWriteOne (p.base + o) v) := ⟨by omega, by omega, by omega, .inl op⟩
  rw [exec_spiWriteFrame_up dt _ up, State.spiFrame_write _ head op, count, if_neg (by omega), if_neg (not_not.mpr crc),
    addr, data, State.spiWords_register _ p h k v ((s.elapse_spiLocked ..).trans free)]

/-- A frame that reads a register returns its word and a CRC. -/
theorem exec_spiReadFrame_register : exec (.spiReadFrame dt (spiReadOne (p.base + o))) s =
    .next (((s.elapse dt).regRead p o).2.send (.spi (leBytes 4 ((s.elapse dt).regRead p o).1 ++
      leBytes 4 (crc32c (spiReadOne (p.base + o) ++ leBytes 4 ((s.elapse dt).regRead p o).1))))) := by
  have small := page_base_lt p
  obtain ⟨op, addr, count, len⟩ := spiReadOne_fields (show p.base + o < 2 ^ 32 by omega)
  have head : spiHeadOk (spiReadOne (p.base + o)) := ⟨by omega, by omega, by omega, .inr op⟩
  rw [exec_spiReadFrame_up dt _ up, State.spiFrame_read _ head op, count, addr, State.spiReads_register _ p h k,
    List.take_of_length_le (by omega)]
  exact congrArg _ (if_neg (by simp [leBytes]))

end

end Sys2Proof.Machine
end

section
/-! SETTLEMENT. Rejected accesses, and registers over the management SPI (R30, R52). -/

open Sys2Proof Sys2Proof.Machine

/-- Settles O28: rejected accesses by `State.reject`, frames of one word by `State.spiFrame` on a whole frame. -/
theorem hostAccessesComplete : Obligations.HostAccessesComplete := by
  refine ⟨⟨fun dt b off s up => ?_, fun dt b off s up => ?_,
    fun dt b off w s down => exec_barAccessRejected_down dt b off w down⟩, fun dt p o v s up h k free => ?_, ?_⟩
  · refine ⟨_, exec_barAccessRejected_write dt b off up, ?_, ?_, fun first => State.reject_addr _ b off ?_⟩
    · exact ((State.reject_within _ b off).sent rfl).trans (s.elapse_sent dt)
    · rw [State.reject_count, State.elapse_rdf]
    · rw [State.elapse_rdf, first]
  · exact ⟨_, _, exec_barAccessRejected_read dt b off up, exec_barAccessRejected_write dt b off up, rfl⟩
  · exact (exec_spiWriteFrame_register dt p up h k v free).trans (exec_registerWrite ..).symm
  · rintro dt p o s e w t rfl up h k reads
    rw [exec_spiReadFrame_register dt p up h k, reads]
end

section
/-! SUPPORT. Registers that only the host and a block's start store: CTRL of every page (R35) and HIDX of the rings
(R48). What the operations on rings leave of them. -/

namespace Sys2Proof.Machine

open Sys2Proof

/-! ### Registers of a set that read as before -/

/-- The registers of the set `W` read as before. -/
structure Unmoved (W : Page → Nat → Prop) (r s : State) : Prop where
  reads : ∀ p o, o < 0x1000 → W p o → s.rd p o = r.rd p o

namespace Unmoved

variable {W : Page → Nat → Prop} {r s t : State}

theorem refl (s : State) : Unmoved W s s := ⟨fun _ _ _ _ => rfl⟩

theorem trans (h : Unmoved W r s) (k : Unmoved W s t) : Unmoved W r t :=
  ⟨fun p o l w => (k.reads p o l w).trans (h.reads p o l w)⟩

theorem mono {V : Page → Nat → Prop} (h : Unmoved W r s) (v : ∀ p o, V p o → W p o) : Unmoved V r s :=
  ⟨fun p o l w => h.reads p o l (v p o w)⟩

theorem of_regs (h : s.regs = r.regs) : Unmoved W r s := ⟨fun p o _ _ => by
  unfold State.rd
  rw [h]⟩

/-- What touches no register. -/
theorem of_within {K : Nat} (h : Within K [] r s) (k : K < 2 ^ 47) : Unmoved W r s := ⟨fun p o l _ => by
  have above : K < 2 ^ (47 + p.kind.index) :=
    Nat.lt_of_lt_of_le k (Nat.pow_le_pow_right (by decide) (Nat.le_add_right ..))
  exact h.regs p (by simp) (Nat.testBit_lt_two_pow above) o l⟩

theorem ite {c : Prop} [Decidable c] (h : Unmoved W r s) (k : Unmoved W r t) : Unmoved W r (if c then s else t) :=
  ite_ind (Unmoved W r) h k

theorem foldl {α : Type} {f : State → α → State} {l : List α} (h : Unmoved W r s)
    (k : ∀ t a, Unmoved W r t → Unmoved W r (f t a)) : Unmoved W r (l.foldl f s) := foldl_ind (Unmoved W r) h k

end Unmoved

/-- A BAR0 offset is that of one register. -/
theorem place_inj {p q : Page} {o u : Nat} (ho : o < 0x1000) (hu : u < 0x1000) (e : p.base + o = q.base + u) :
    p = q ∧ o = u := by
  have page : p = q := by
    by_contra other
    exact page_apart other ho hu e
  subst page
  exact ⟨rfl, Nat.add_left_cancel e⟩

section
variable {W : Page → Nat → Prop} (s : State) {p : Page} {o : Nat} (h : ¬W p o)
include h

/-- A store into a register outside the set. -/
theorem State.wr_unmoved (v : Word) : Unmoved W s (s.wr p o v) := by
  refine ⟨fun q u hu w => ?_⟩
  by_cases unused : findRow p o = none
  · unfold State.wr
    rw [unused]
  · obtain ⟨r, row⟩ := Option.ne_none_iff_exists'.mp unused
    refine State.rd_wr_other v fun place => h ?_
    obtain ⟨rfl, rfl⟩ := place_inj (findRow_lt row) hu place
    exact w

theorem State.wrf_unmoved (hi lo v : Nat) : Unmoved W s (s.wrf p o hi lo v) := s.wr_unmoved h _

theorem State.wrb_unmoved (n : Nat) (b : Bool) : Unmoved W s (s.wrb p o n b) := s.wr_unmoved h _

theorem State.wrn_unmoved (v : Nat) : Unmoved W s (s.wrn p o v) := s.wr_unmoved h _

theorem State.wri_unmoved (v : Int) : Unmoved W s (s.wri p o v) := s.wr_unmoved h _

theorem State.inc_unmoved : Unmoved W s (s.inc p o) := s.wr_unmoved h _

end

/-! ### CTRL and HIDX -/

/-- CTRL of a page, and HIDX of a ring. -/
def hostWord (p : Page) (o : Nat) : Prop := o = R.PAGE.CTRL ∨ p = .rng ∧ ∃ n < 128, o = R.RNG.HIDX n

/-- Registers of other pages than RNG. -/
theorem hostWord_elsewhere {p : Page} {o : Nat} (h : o ≠ R.PAGE.CTRL) (k : p ≠ .rng) : ¬hostWord p o :=
  fun w => w.elim h fun w => k w.1

/-- Registers of RNG below, between and above the words HIDX. -/
theorem hostWord_between {o : Nat} (h : o ≠ R.PAGE.CTRL) (k : o < 0x800 ∨ o % 8 ≠ 0 ∨ 0xC00 ≤ o) :
    ¬hostWord .rng o := by
  rintro (w | ⟨-, n, small, rfl⟩)
  · exact h w
  · unfold R.RNG.HIDX at k
    omega

theorem hostWord_midx (n : Nat) : ¬hostWord .rng (R.RNG.MIDX n) :=
  hostWord_between (by show 0x804 + 8 * n ≠ 8; omega) (.inr (.inl (by show (0x804 + 8 * n) % 8 ≠ 0; omega)))

theorem hostWord_drop (n : Nat) : ¬hostWord .rng (R.RNG.DROP n) :=
  hostWord_between (by show 0xC00 + 4 * n ≠ 8; omega) (.inr (.inr (Nat.le_add_right ..)))

theorem hostWord_flags (p : Page) : ¬hostWord p R.PAGE.FLAGS := by
  by_cases h : p = .rng
  · subst h
    exact hostWord_between (by decide) (.inl (by decide))
  · exact hostWord_elsewhere (by decide) h

/-! ### Interrupts -/

theorem State.irqEvent_hostWords (s : State) (n : Nat) : Unmoved hostWord s (s.irqEvent n) := by
  refine ⟨fun p o l w => s.irqEvent_rd n fun place => hostWord_flags .irq ?_⟩
  obtain ⟨rfl, rfl⟩ := place_inj (by decide) l place
  exact w

theorem State.edgeSource_hostWords (s : State) (n : Nat) : Unmoved hostWord s (s.edgeSource n) := by
  unfold State.edgeSource
  exact Unmoved.ite ((Unmoved.of_regs (State.setSrc_regs ..)).trans (State.irqEvent_hostWords ..)) (.refl s)

theorem State.levelSource_hostWords (s : State) (n : Nat) (b : Bool) : Unmoved hostWord s (s.levelSource n b) := by
  unfold State.levelSource
  extract_lets source lined
  have line : Unmoved hostWord s lined := .of_regs (State.setSrc_regs ..)
  exact .ite ((line.trans (.of_regs (State.setSrc_regs ..))).trans (State.irqEvent_hostWords ..)) line

theorem State.flag_hostWords (s : State) (p : Page) (n : Nat) : Unmoved hostWord s (s.flag p n) :=
  (s.wrb_unmoved (hostWord_flags p) n true).trans (State.levelSource_hostWords ..)

/-! ### Descriptors that complete -/

theorem State.ringDone_hostWords (s : State) (n status tstat len : Nat) (bytes : List Byte) :
    Unmoved hostWord s (s.ringDone n status tstat len bytes) := by
  unfold State.ringDone
  split
  · exact .refl s
  · extract_lets r sent advanced shown
    have stored : Unmoved hostWord s shown :=
      (Unmoved.of_regs (r := s) (s := advanced) rfl).trans (State.wrn_unmoved _ (hostWord_midx n) _)
    exact .ite (stored.trans (State.edgeSource_hostWords ..)) stored

theorem State.ringAlign_hostWords (s : State) (n k : Nat) : Unmoved hostWord s (s.ringAlign n k) := by
  induction k generalizing s with
  | zero => exact .refl s
  | succ k ih =>
    unfold State.ringAlign
    split
    · exact .ite (.refl s) ((State.ringDone_hostWords ..).trans (ih _))
    · exact .refl s

theorem State.ringComplete_hostWords (s : State) (n status tstat len : Nat) (bytes : List Byte) :
    Unmoved hostWord s (s.ringComplete n status tstat len bytes) :=
  (State.ringDone_hostWords ..).trans (State.ringAlign_hostWords ..)

theorem State.ringPush_hostWords (s : State) (n tstat : Nat) (bytes : List Byte) :
    Unmoved hostWord s (s.ringPush n tstat bytes) := by
  unfold State.ringPush
  split
  · exact .ite (State.ringComplete_hostWords ..) (State.ringComplete_hostWords ..)
  · exact .ite (s.inc_unmoved (hostWord_drop n)) (.refl s)

theorem State.ringStop_hostWords (s : State) (n code : Nat) : Unmoved hostWord s (s.ringStop n code) := by
  unfold State.ringStop
  extract_lets r stopped shown recorded
  have bit : Unmoved hostWord s shown := (Unmoved.of_regs (r := s) (s := stopped) rfl).trans (State.wrb_unmoved _
    (hostWord_between (by show 0xF10 + 4 * (n / 32) ≠ 8; omega) (.inr (.inr (by show _ ≤ 0xF10 + _; omega)))) ..)
  have noted : Unmoved hostWord s recorded :=
    .ite bit (bit.trans (State.wrn_unmoved _ (hostWord_between (by decide) (.inr (.inr (by decide)))) _))
  exact noted.trans (State.flag_hostWords ..)

theorem State.ringFetch_hostWords (s : State) (n k : Nat) (l : List (Option Desc)) :
    Unmoved hostWord s (s.ringFetch n k l) := by
  induction k generalizing s l with
  | zero => exact .refl s
  | succ k ih =>
    unfold State.ringFetch
    split
    · exact .ite (State.ringStop_hostWords ..) ((Unmoved.of_regs (State.setRing_regs ..)).trans (ih _ _))
    · exact State.ringStop_hostWords ..

/-! ### What the block of a ring does with new work -/

theorem State.servicePump_hostWords (s : State) (n k : Nat) : Unmoved hostWord s (s.servicePump n k) := by
  induction k generalizing s with
  | zero => exact .refl s
  | succ k ih =>
    unfold State.servicePump
    split
    · exact ((Unmoved.of_within (State.sendFrame_within ..) (by decide)).trans
        (State.ringComplete_hostWords ..)).trans (ih _)
    · exact .refl s

theorem State.canCheck_hostWords (s : State) (c f k : Nat) : Unmoved hostWord s (s.canCheck c f k) := by
  induction k generalizing s with
  | zero => exact .refl s
  | succ k ih =>
    unfold State.canCheck
    extract_lets onBus
    split
    · exact .refl s
    · exact .ite (.refl s) (((State.ringComplete_hostWords ..).trans
        (.of_within (State.setCanFifo_within ..) (by decide))).trans (ih _))

theorem State.canDeliver_hostWords (s : State) (c q k : Nat) : Unmoved hostWord s (s.canDeliver c q k) := by
  induction k generalizing s with
  | zero => exact .refl s
  | succ k ih =>
    unfold State.canDeliver
    extract_lets v
    split
    · exact (((State.ringPush_hostWords ..).trans (.of_within (State.setCanQueue_within ..) (by decide))).trans
        (State.inc_unmoved _ (p := canPage c) (o := R.CAN.RXOK) (hostWord_elsewhere (by decide) nofun))).trans (ih _)
    · exact .refl s

theorem State.ethCheck_hostWords (s : State) (p q k : Nat) : Unmoved hostWord s (s.ethCheck p q k) := by
  induction k generalizing s with
  | zero => exact .refl s
  | succ k ih =>
    unfold State.ethCheck
    split
    · exact .refl s
    · exact .ite (.refl s) ((State.ringComplete_hostWords ..).trans (ih _))

theorem State.ethDeliver_hostWords (s : State) (p q k : Nat) : Unmoved hostWord s (s.ethDeliver p q k) := by
  induction k generalizing s with
  | zero => exact .refl s
  | succ k ih =>
    unfold State.ethDeliver
    extract_lets l
    split
    · refine .ite ((State.ringComplete_hostWords ..).trans (ih _)) ?_
      exact (((State.ringPush_hostWords ..).trans (.of_within (State.modEth_within ..) (by decide))).trans
        (State.inc_unmoved _ (p := ethPage p) (o := R.ETH.RXOK) (hostWord_elsewhere (by decide) nofun))).trans (ih _)
    · exact .refl s

theorem State.ringKick_hostWords (s : State) (n : Nat) : Unmoved hostWord s (s.ringKick n) := by
  unfold State.ringKick State.canCheckAll State.canDeliverAll State.ethCheckAll State.ethDeliverAll
  refine .ite ?_ (.ite ?_ (.ite ?_ (.ite ?_ (.ite ?_ (.refl s)))))
  · exact .foldl (.refl s) fun t f h => h.trans (State.canCheck_hostWords ..)
  · exact .ite (.refl s) (State.canDeliver_hostWords ..)
  · exact .foldl (.refl s) fun t q h => h.trans (State.ethCheck_hostWords ..)
  · exact State.ethDeliver_hostWords ..
  · exact State.servicePump_hostWords ..

end Sys2Proof.Machine
end

section
/-! SUPPORT. One rule per operation on a descriptor ring (R46 to R51). -/

namespace Sys2Proof.Machine

open Sys2Proof

/-! ### Rows of the RNG page -/

section
variable {n : Nat} (h : n < 128)
include h

theorem rngHidx_row : findRow .rng (R.RNG.HIDX n) = some ⟨0x800, 8, 128, 0xFFFFFFFF, 0, 0, 0, 0, [0]⟩ := by
  have all : ∀ n : Fin 128, findRow .rng (R.RNG.HIDX n) = some ⟨0x800, 8, 128, 0xFFFFFFFF, 0, 0, 0, 0, [0]⟩ := by
    decide +kernel
  exact all ⟨n, h⟩

theorem rngStop_row : findRow .rng (R.RNG.STOP (n / 32)) = some ⟨0xF10, 4, 4, 0, 0, 0, 0, 0xFFFFFFFF, [0]⟩ := by
  have all : ∀ m : Fin 4, findRow .rng (R.RNG.STOP m) = some ⟨0xF10, 4, 4, 0, 0, 0, 0, 0xFFFFFFFF, [0]⟩ := by
    decide +kernel
  exact all ⟨n / 32, by omega⟩

theorem rngDrain_row : findRow .rng (R.RNG.DRAIN (n / 32)) = some ⟨0xF20, 4, 4, 0, 0, 0, 0, 0xFFFFFFFF, [0]⟩ := by
  have all : ∀ m : Fin 4, findRow .rng (R.RNG.DRAIN m) = some ⟨0xF20, 4, 4, 0, 0, 0, 0, 0xFFFFFFFF, [0]⟩ := by
    decide +kernel
  exact all ⟨n / 32, by omega⟩

end

theorem rngErr_row : findRow .rng R.RNG.ERR = some ⟨0xF00, 4, 1, 0, 0, 0, 0, 0xFFFF, [0]⟩ := by decide +kernel

/-- A bit of a mask of 32 ones. -/
theorem full_bit {n : Nat} (h : n < 32) : Full 0xFFFFFFFF n n := by
  have all : ∀ n < 32, bits 0xFFFFFFFF n n = 2 ^ (n + 1 - n) - 1 := by decide
  exact all n h

theorem rngFlags_full {n : Nat} (h : n = 8 ∨ n = 9) :
    Full (RegRow.mask ⟨0x010, 4, 1, 0, 0, pageBlockFlags .rng + 0x7, 0, 0, [0]⟩) n n := by
  obtain rfl | rfl := h <;> unfold Full <;> decide

/-! ### The ring table -/

@[simp] theorem State.ring_setRing (s : State) (n : Nat) (r : RingSt) : (s.setRing n r).ring n = r := by
  unfold State.ring State.setRing
  exact sget_sset_same ..

/-- What leaves the rings alone leaves each. -/
theorem State.ring_of_rings {s t : State} (h : t.rings = s.rings) (n : Nat) : t.ring n = s.ring n := by
  unfold State.ring
  rw [h]

theorem State.ringUsed_of_reads {s t : State} {n : Nat} (h : n < 128)
    (reads : ∀ o, 0x040 ≤ o → o < 0x440 → t.rd .rng o = s.rd .rng o) : t.ringUsed n = s.ringUsed n := by
  unfold State.ringUsed State.rdf State.rdn
  rw [reads (R.RNG.BASE_LO n) (by show 0x040 ≤ 0x040 + _; omega) (by show 0x040 + 8 * n < _; omega),
    reads (R.RNG.BASE_HI n) (by show 0x040 ≤ 0x044 + _; omega) (by show 0x044 + 8 * n < _; omega)]

theorem State.ringServed_iff (s : State) (n : Nat) : s.ringServed n = true ↔
    s.running .rng = true ∧ s.mode.serves = true ∧ s.ringUsed n = true ∧ (s.ring n).stopped = false := by
  unfold State.ringServed
  simp [and_assoc]

/-! ### Heads that cannot be used -/

/-- No head, or one that can be used: nothing completes. -/
theorem State.ringAlign_usable {s : State} {n : Nat} (h : ∀ d ∈ (s.ring n).descs, descFault d = 0) (k : Nat) :
    s.ringAlign n k = s := by
  cases k with
  | zero => rfl
  | succ k =>
    unfold State.ringAlign
    split
    · next d head =>
      have mem : d ∈ (s.ring n).descs := by
        unfold State.ringHead at head
        split at head
        · exact List.mem_of_mem_head? head
        · cases head
      exact if_pos (h d mem)
    · rfl

theorem State.ringAlign_stopped {s : State} {n : Nat} (h : (s.ring n).stopped = true) (k : Nat) : s.ringAlign n k = s := by
  have head : s.ringHead n = none := if_neg fun served => by simp [((s.ringServed_iff n).mp served).2.2.2] at h
  cases k with
  | zero => rfl
  | succ k =>
    unfold State.ringAlign
    rw [head]

/-! ### A descriptor that completes (R50) -/

theorem State.ringHead_cons {s : State} {n : Nat} {d : Desc} {rest : List Desc} (served : s.ringServed n = true)
    (descs : (s.ring n).descs = d :: rest) : s.ringHead n = some d := by
  unfold State.ringHead
  rw [if_pos served, descs]
  rfl

theorem State.ringHead_nil {s : State} {n : Nat} (descs : (s.ring n).descs = []) : s.ringHead n = none := by
  unfold State.ringHead
  rw [descs]
  exact ite_self _

section
variable {s : State} {n : Nat} {d : Desc} (head : s.ringHead n = some d) (status tstat len : Nat) (bytes : List Byte)
include head

theorem State.ringDone_ring : (s.ringDone n status tstat len bytes).ring n = { s.ring n with
    midx := ((s.ring n).midx + 1) % 2 ^ 32, descs := (s.ring n).descs.drop 1, since := s.mt } := by
  unfold State.ringDone
  rw [head]
  dsimp only
  split
  · rw [State.ring_of_rings (State.edgeSource_rings ..), State.ring_of_rings (State.wrn_rings ..), State.ring_setRing]
    rfl
  · rw [State.ring_of_rings (State.wrn_rings ..), State.ring_setRing]
    rfl

theorem State.ringDone_sent : (s.ringDone n status tstat len bytes).sent =
    .desc n (s.ring n).midx bytes (d.done n status tstat (s.mt % 2 ^ 32) len) :: s.sent := by
  unfold State.ringDone
  rw [head]
  dsimp only
  split
  · rw [State.edgeSource_sent, State.wrn_sent, State.setRing_sent]
    rfl
  · rw [State.wrn_sent, State.setRing_sent]
    rfl

end

/-- A descriptor completes, and those behind it can be used. -/
theorem State.ringComplete_usable {s : State} {n : Nat} {d : Desc} {rest : List Desc} (served : s.ringServed n = true)
    (descs : (s.ring n).descs = d :: rest) (usable : ∀ x ∈ rest, descFault x = 0) (status tstat len : Nat)
    (bytes : List Byte) : s.ringComplete n status tstat len bytes = s.ringDone n status tstat len bytes := by
  refine State.ringAlign_usable (fun x mem => usable x ?_) _
  rwa [State.ringDone_ring (State.ringHead_cons served descs), descs] at mem

/-! ### A ring that stops (R51) -/

/-- The record of the first ring stopped. -/
def State.ringErr (s : State) (n code : Nat) : State :=
  if s.rdb .rng R.RNG.ERR 7 then s else s.wrn .rng R.RNG.ERR (code * 256 + 128 + n)

/-- The ring stopped, with its bit. -/
def State.ringHalt (s : State) (n : Nat) : State :=
  (s.setRing n { s.ring n with stopped := true }).wrb .rng (R.RNG.STOP (n / 32)) (n % 32) true

theorem State.ringStop_eq (s : State) (n code : Nat) :
    s.ringStop n code = ((s.ringHalt n).ringErr n code).flag .rng 8 := rfl

theorem State.ringErr_rings (s : State) (n code : Nat) : (s.ringErr n code).rings = s.rings := by
  unfold State.ringErr
  split
  · rfl
  · exact State.wrn_rings ..

theorem State.ringStop_ring (s : State) (n code : Nat) :
    (s.ringStop n code).ring n = { s.ring n with stopped := true } := by
  rw [State.ringStop_eq, State.ring_of_rings (State.flag_rings ..), State.ring_of_rings (State.ringErr_rings ..)]
  unfold State.ringHalt
  rw [State.ring_of_rings (State.wrb_rings ..), State.ring_setRing]

theorem State.ringStop_flag (s : State) (n code : Nat) : (s.ringStop n code).rdb .rng R.PAGE.FLAGS 8 = true :=
  State.flag_rdb _ (findRow_flags .rng) (by decide) (rngFlags_full (.inl rfl)) (by decide)

/-- The flag of a stop leaves the block's own registers of the page. -/
theorem State.ringStop_rd (s : State) (n code : Nat) {o : Nat} (ho : o < 0x1000) (h : o ≠ R.PAGE.FLAGS) :
    (s.ringStop n code).rd .rng o = ((s.ringHalt n).ringErr n code).rd .rng o :=
  State.flag_rd _ _ _ (page_apart (by decide) (by decide) ho) (place_ne h.symm)

theorem State.ringErr_rd (s : State) (n code : Nat) {o : Nat} (h : o ≠ R.RNG.ERR) :
    (s.ringErr n code).rd .rng o = s.rd .rng o := by
  unfold State.ringErr
  split
  · rfl
  · exact State.rd_wr_other _ (place_ne h.symm)

theorem State.ringHalt_rd (s : State) (n : Nat) {o : Nat} (h : o ≠ R.RNG.STOP (n / 32)) :
    (s.ringHalt n).rd .rng o = s.rd .rng o := State.rd_wr_other _ (place_ne h.symm)

theorem State.ringStop_bit (s : State) {n : Nat} (code : Nat) (h : n < 128) :
    (s.ringStop n code).rdb .rng (R.RNG.STOP (n / 32)) (n % 32) = true := by
  have halted : (s.ringHalt n).rdb .rng (R.RNG.STOP (n / 32)) (n % 32) = true :=
    State.rdb_wrb_same true (rngStop_row h) (Nat.mod_lt _ (by decide)) (full_bit (Nat.mod_lt _ (by decide)))
  rw [← halted]
  unfold State.rdb
  rw [State.ringStop_rd _ _ _ (by show 0xF10 + 4 * (n / 32) < _; omega) (by show 0xF10 + 4 * (n / 32) ≠ 0x10; omega),
    State.ringErr_rd _ _ _ (by show 0xF10 + 4 * (n / 32) ≠ 0xF00; omega)]

/-- The first ring stopped is recorded with its error. -/
theorem State.ringStop_err {s : State} {n code : Nat} (h : n < 128) (c : code < 4)
    (first : s.rdb .rng R.RNG.ERR 7 = false) :
    (s.ringStop n code).rdn .rng R.RNG.ERR = code * 256 + 128 + n := by
  have halted : (s.ringHalt n).rdb .rng R.RNG.ERR 7 = false := by
    unfold State.rdb at first ⊢
    rw [State.ringHalt_rd _ _ (by show 0xF00 ≠ 0xF10 + _; omega), first]
  have mask : RegRow.mask ⟨0xF00, 4, 1, 0, 0, 0, 0, 0xFFFF, [0]⟩ = 2 ^ 16 - 1 := by decide
  unfold State.rdn
  rw [State.ringStop_rd _ _ _ (by decide) (by decide)]
  unfold State.ringErr
  rw [if_neg (by simp [halted]), State.wrn, State.rd_wr_same _ rngErr_row, mask, BitVec.toNat_and, BitVec.toNat_ofNat,
    BitVec.toNat_ofNat, Nat.mod_eq_of_lt (show 2 ^ 16 - 1 < 2 ^ 32 by decide), Nat.and_two_pow_sub_one_eq_mod,
    Nat.mod_mod_of_dvd _ (by decide), Nat.mod_eq_of_lt (by omega)]

/-! ### Descriptors that are fetched (R48, R51) -/

/-- Descriptors that can be fetched join the ring, and nothing else changes. -/
theorem State.ringFetch_all (s : State) (n : Nat) {ds : List Desc} (h : ∀ d ∈ ds, d.len ≤ ringMax n) :
    (s.ringFetch n ds.length (ds.map some)).ring n = { s.ring n with descs := (s.ring n).descs ++ ds } ∧
      Within 0x20 [] s (s.ringFetch n ds.length (ds.map some)) := by
  induction ds generalizing s with
  | nil => exact ⟨by simp [State.ringFetch], .refl s⟩
  | cons d ds ih =>
    have short : ¬ringMax n < d.len := Nat.not_lt.mpr (h d List.mem_cons_self)
    obtain ⟨ring, rest⟩ := ih (s.setRing n { s.ring n with descs := (s.ring n).descs ++ [d] })
      fun x mem => h x (List.mem_cons_of_mem _ mem)
    have step : s.ringFetch n (d :: ds).length ((d :: ds).map some) =
        (s.setRing n { s.ring n with descs := (s.ring n).descs ++ [d] }).ringFetch n ds.length (ds.map some) :=
      if_neg short
    rw [step, ring]
    exact ⟨by simp, (s.setRing_within n _).trans rest⟩

/-- One that cannot be fetched, or that is too long, stops the ring. -/
theorem State.ringFetch_bad (s : State) (n : Nat) {x : Option Desc} (h : ∀ d, x = some d → ringMax n < d.len) :
    s.ringFetch n 1 [x] = s.ringStop n (if x = none then 2 else 3) := by
  cases x with
  | none => rfl
  | some d => exact if_pos (h d rfl)

end Sys2Proof.Machine
end

section
/-! SUPPORT. A doorbell, a restart, the drain bound and items of a ring (R46 to R51). -/

namespace Sys2Proof.Machine

open Sys2Proof

/-! ### A doorbell, stage by stage (R48) -/

/-- The posts that a doorbell makes outstanding. -/
def State.ringPosts (s : State) (n hidx : Nat) : Nat := (hidx + 2 ^ 32 - (s.ring n).midx) % 2 ^ 32

/-- HIDX is stored and known to the ring. -/
def State.posted (s : State) (n hidx : Nat) : State :=
  (s.wrn .rng (R.RNG.HIDX n) hidx).setRing n { s.ring n with hidx := hidx }

/-- Descriptors that are still posted stay. -/
def State.postedKept (s : State) (n hidx : Nat) : State :=
  (s.posted n hidx).setRing n { (s.posted n hidx).ring n with descs := (s.ring n).descs.take (s.ringPosts n hidx) }

/-- A ring with a buffer ends its drain (R47). -/
def State.drainEnds (s : State) (n : Nat) : State :=
  if ringIsMH n && (s.ring n).descs != [] then s.wrb .rng (R.RNG.DRAIN (n / 32)) (n % 32) false else s

theorem State.drainEnds_rings (s : State) (n : Nat) : (s.drainEnds n).rings = s.rings := by
  unfold State.drainEnds
  split
  · exact State.wrb_rings ..
  · rfl

theorem State.drainEnds_sent (s : State) (n : Nat) : (s.drainEnds n).sent = s.sent := by
  unfold State.drainEnds
  split
  · exact State.wrb_sent ..
  · rfl

theorem State.drainEnds_rd (s : State) {n o : Nat} (h : o < 0xF20) : (s.drainEnds n).rd .rng o = s.rd .rng o := by
  unfold State.drainEnds
  split
  · exact State.rd_wr_other _ (place_ne (by show 0xF20 + _ ≠ o; omega))
  · rfl

theorem State.posted_ring (s : State) (n hidx : Nat) : (s.posted n hidx).ring n = { s.ring n with hidx := hidx } :=
  State.ring_setRing ..

theorem State.posted_rd (s : State) (n hidx : Nat) {o : Nat} (h : o ≠ R.RNG.HIDX n) :
    (s.posted n hidx).rd .rng o = s.rd .rng o := State.rd_wr_other _ (place_ne h.symm)

theorem State.posted_hidx (s : State) {n : Nat} (h : n < 128) (hidx : Word) :
    (s.posted n hidx.toNat).rdn .rng (R.RNG.HIDX n) = hidx.toNat :=
  (State.rdn_wrn_same _ (rngHidx_row h) (by decide)).trans (Nat.mod_eq_of_lt hidx.isLt)

theorem State.posted_within (s : State) (n hidx : Nat) : Within 0x4000000000020 [] s (s.posted n hidx) :=
  ((State.wrn_within ..).kind rfl .rng rfl rfl).trans ((State.setRing_within ..).mono rfl)

theorem State.postedKept_ring (s : State) (n hidx : Nat) : (s.postedKept n hidx).ring n =
    { s.ring n with hidx := hidx, descs := (s.ring n).descs.take (s.ringPosts n hidx) } := by
  unfold State.postedKept
  rw [State.ring_setRing, State.posted_ring]

theorem State.postedKept_within (s : State) (n hidx : Nat) : Within 0x20 [] (s.posted n hidx) (s.postedKept n hidx) :=
  State.setRing_within ..

/-- A doorbell of a ring that is unused or stopped is ignored. -/
theorem State.doorbell_ignored {s : State} {n : Nat} (h : s.ringUsed n = false ∨ (s.ring n).stopped = true) (hidx : Nat)
    (descs : List (Option Desc)) : s.doorbell n hidx descs = s := by
  refine if_pos ?_
  obtain h | h := h <;> simp [h]

section
variable {s : State} {n : Nat} (used : s.ringUsed n = true) (live : (s.ring n).stopped = false)
include used live

theorem State.doorbell_live (hidx : Nat) (descs : List (Option Desc)) : s.doorbell n hidx descs =
    if !s.running .rng then s.wrn .rng (R.RNG.HIDX n) hidx
    else if s.ringSize n < s.ringPosts n hidx then (s.posted n hidx).ringStop n 1
    else ((((s.postedKept n hidx).ringFetch n (s.ringPosts n hidx - (s.ring n).descs.length) descs).ringAlign n
      (s.ringPosts n hidx)).drainEnds n).ringKick n := by
  have size : (s.posted n hidx).ringSize n = s.ringSize n := by
    unfold State.ringSize State.rdf
    rw [State.posted_rd _ _ _ (by show 0x040 + 8 * n ≠ 0x800 + 8 * n; omega)]
  have run : (s.wrn .rng (R.RNG.HIDX n) hidx).running .rng = s.running .rng := by
    unfold State.running State.pageState
    rw [State.wrn_pages]
  rw [← size, ← run]
  exact if_neg (by simp [used, live])

/-- A doorbell stores HIDX whatever comes of it. -/
theorem State.doorbell_hidx (h : n < 128) (hidx : Word) (descs : List (Option Desc)) :
    (s.doorbell n hidx.toNat descs).rdn .rng (R.RNG.HIDX n) = hidx.toNat := by
  have kept : Unmoved hostWord (s.wrn .rng (R.RNG.HIDX n) hidx.toNat) (s.doorbell n hidx.toNat descs) := by
    rw [State.doorbell_live used live]
    have posted : Unmoved hostWord (s.wrn .rng (R.RNG.HIDX n) hidx.toNat) (s.posted n hidx.toNat) :=
      .of_regs (State.setRing_regs ..)
    have drained (t : State) : Unmoved hostWord t (t.drainEnds n) :=
      .ite (t.wrb_unmoved (hostWord_between (by show 0xF20 + 4 * (n / 32) ≠ 8; omega)
        (.inr (.inr (by show _ ≤ 0xF20 + _; omega)))) ..) (.refl t)
    refine .ite (.refl _) (.ite (posted.trans (State.ringStop_hostWords ..)) ?_)
    exact ((((posted.trans (.of_regs (State.setRing_regs ..))).trans (State.ringFetch_hostWords ..)).trans
      (State.ringAlign_hostWords ..)).trans (drained _)).trans (State.ringKick_hostWords ..)
  have reads := kept.reads .rng (R.RNG.HIDX n) (by show 0x800 + 8 * n < _; omega) (.inr ⟨rfl, n, h, rfl⟩)
  unfold State.rdn
  rw [reads]
  exact s.posted_hidx h hidx

end

/-- Rings whose block needs no word of new work: those below 16 and those from 112 on, but the SERVICE rings. -/
def ringQuiet (n : Nat) : Prop := n < 16 ∨ (112 ≤ n ∧ n ≠ 120 ∧ n ≠ 121)

theorem State.ringKick_quiet (s : State) {n : Nat} (h : ringQuiet n) : s.ringKick n = s := by
  unfold ringQuiet at h
  unfold State.ringKick
  rw [if_neg (by simp; omega), if_neg (by simp; omega), if_neg (by simp; omega), if_neg (by simp; omega),
    if_neg (by simp; omega)]

section
variable {s : State} {n : Nat} (run : s.running .rng = true) (used : s.ringUsed n = true)
  (live : (s.ring n).stopped = false)
include run used live

/-- A doorbell beyond the ring's size stops it (R51). -/
theorem State.doorbell_beyond {hidx : Nat} (beyond : s.ringSize n < s.ringPosts n hidx) (descs : List (Option Desc)) :
    s.doorbell n hidx descs = (s.posted n hidx).ringStop n 1 := by
  rw [State.doorbell_live used live, if_neg (by simp [run]), if_pos beyond]

/-- A doorbell of a quiet ring within its size. -/
theorem State.doorbell_quiet (quiet : ringQuiet n) {hidx : Nat} (fits : s.ringPosts n hidx ≤ s.ringSize n)
    (descs : List (Option Desc)) : s.doorbell n hidx descs =
      (((s.postedKept n hidx).ringFetch n (s.ringPosts n hidx - (s.ring n).descs.length) descs).ringAlign n
        (s.ringPosts n hidx)).drainEnds n := by
  rw [State.doorbell_live used live, if_neg (by simp [run]), if_neg (Nat.not_lt.mpr fits), State.ringKick_quiet _ quiet]

/-- Descriptors that can be fetched join the ring. -/
theorem State.doorbell_fetches (quiet : ringQuiet n) {hidx : Nat} {ds : List Desc}
    (posts : s.ringPosts n hidx = (s.ring n).descs.length + ds.length) (fits : s.ringPosts n hidx ≤ s.ringSize n)
    (short : ∀ d ∈ ds, d.len ≤ ringMax n) :
    ∃ x, s.doorbell n hidx (ds.map some) = (x.ringAlign n (s.ringPosts n hidx)).drainEnds n ∧
      x.ring n = { s.ring n with hidx := hidx, descs := (s.ring n).descs ++ ds } ∧
      Within 0x20 [] (s.posted n hidx) x := by
  obtain ⟨ring, rest⟩ := (s.postedKept n hidx).ringFetch_all n short
  refine ⟨_, ?_, ?_, (s.postedKept_within n hidx).trans rest⟩
  · rw [State.doorbell_quiet run used live quiet fits, posts, Nat.add_sub_cancel_left]
  · rw [ring, State.postedKept_ring, posts, List.take_of_length_le (Nat.le_add_right ..)]

/-- One that cannot be fetched, or that is too long, stops the ring. -/
theorem State.doorbell_bad (quiet : ringQuiet n) {hidx : Nat} {x : Option Desc}
    (posts : s.ringPosts n hidx = (s.ring n).descs.length + 1) (fits : s.ringPosts n hidx ≤ s.ringSize n)
    (bad : ∀ d, x = some d → ringMax n < d.len) : s.doorbell n hidx [x] =
      ((s.postedKept n hidx).ringStop n (if x = none then 2 else 3)).drainEnds n := by
  rw [State.doorbell_quiet run used live quiet fits, posts, Nat.add_sub_cancel_left, State.ringFetch_bad _ _ bad]
  rw [State.ringAlign_stopped]
  rw [State.ringStop_ring]

end

theorem exec_ringDoorbell_served {s : State} (dt : Nat) (n : Fin 128) (hidx : Word) (descs : List (Option Desc))
    (served : s.pageServed .rng = true) :
    exec (.ringDoorbell dt n hidx descs) s = .next ((s.elapse dt).doorbell n.val hidx.toNat descs) := by
  rw [exec_ringDoorbell]
  unfold execRingDoorbell State.hostDo
  rw [if_pos (by simpa using served)]

/-! ### What the passing of time leaves of a ring -/

@[simp] theorem State.elapse_ringUsed (s : State) (dt n : Nat) : (s.elapse dt).ringUsed n = s.ringUsed n := by
  unfold State.ringUsed
  rw [State.elapse_rdf, State.elapse_rdn]

@[simp] theorem State.elapse_ringSize (s : State) (dt n : Nat) : (s.elapse dt).ringSize n = s.ringSize n := by
  unfold State.ringSize
  rw [State.elapse_rdf]

@[simp] theorem State.elapse_ringPosts (s : State) (dt n hidx : Nat) :
    (s.elapse dt).ringPosts n hidx = s.ringPosts n hidx := by
  unfold State.ringPosts
  rw [State.elapse_ring]

@[simp] theorem State.elapse_ringServed (s : State) (dt n : Nat) : (s.elapse dt).ringServed n = s.ringServed n := by
  unfold State.ringServed
  rw [State.elapse_running, State.elapse_mode, State.elapse_ringUsed, State.elapse_ring]

/-! ### A restart (R51) -/

theorem State.ringRestart_live {s : State} {n : Nat} (live : (s.ring n).stopped = false) : s.ringRestart n = s :=
  if_pos (by simp [live])

/-- The ring begins anew, its MIDX shown and its bit of STOP clear. -/
def State.ringAnew (s : State) (n : Nat) : State :=
  ((s.setRing n { hidx := (s.ring n).hidx, midx := (s.ring n).hidx, since := s.mt }).wrn .rng (R.RNG.MIDX n)
    (s.ring n).hidx).wrb .rng (R.RNG.STOP (n / 32)) (n % 32) false

theorem State.ringAnew_ring (s : State) (n : Nat) :
    (s.ringAnew n).ring n = { hidx := (s.ring n).hidx, midx := (s.ring n).hidx, since := s.mt } := by
  unfold State.ringAnew
  rw [State.ring_of_rings (State.wrb_rings ..), State.ring_of_rings (State.wrn_rings ..), State.ring_setRing]

theorem State.ringAnew_bit (s : State) {n : Nat} (h : n < 128) :
    (s.ringAnew n).rdb .rng (R.RNG.STOP (n / 32)) (n % 32) = false :=
  State.rdb_wrb_same false (rngStop_row h) (Nat.mod_lt _ (by decide)) (full_bit (Nat.mod_lt _ (by decide)))

theorem State.ringAnew_sent (s : State) (n : Nat) : (s.ringAnew n).sent = s.sent := by
  unfold State.ringAnew
  rw [State.wrb_sent, State.wrn_sent, State.setRing_sent]

/-- Beside the ring a restart moves only completions and CAN FIFOs. -/
theorem State.ringRestart_stopped {s : State} {n : Nat} (stopped : (s.ring n).stopped = true) :
    ∃ c k, s.ringRestart n = { s.ringAnew n with completions := c, can := k } := by
  unfold State.ringRestart
  extract_lets r x1 x2 x3 gone x4
  rw [if_neg (by simp [r, stopped])]
  split
  · exact ⟨_, _, rfl⟩
  · exact ⟨_, _, rfl⟩

theorem exec_ringRestart_served {s : State} (dt : Nat) (n : Fin 128) (served : s.pageServed .rng = true) :
    exec (.ringRestart dt n) s = .next ((s.elapse dt).ringRestart n.val) := by
  rw [exec_ringRestart]
  unfold execRingRestart State.hostDo
  rw [if_pos (by simpa using served)]

theorem exec_ringRestart_live {s : State} (dt : Nat) (n : Fin 128) (live : (s.ring n.val).stopped = false) :
    exec (.ringRestart dt n) s = .next (s.elapse dt) := by
  have same : (s.elapse dt).ringRestart n.val = s.elapse dt := State.ringRestart_live (by rw [State.elapse_ring, live])
  rw [exec_ringRestart]
  unfold execRingRestart State.hostDo
  simp only [same, ite_self]

/-! ### The drain bound (R47) -/

/-- The drain of a ring is flagged. -/
def State.drainFlagged (s : State) (n : Nat) : State :=
  (s.wrb .rng (R.RNG.DRAIN (n / 32)) (n % 32) true).flag .rng 9

theorem State.drainFlagged_bit (s : State) {n : Nat} (h : n < 128) :
    (s.drainFlagged n).rdb .rng (R.RNG.DRAIN (n / 32)) (n % 32) = true := by
  have stored : (s.wrb .rng (R.RNG.DRAIN (n / 32)) (n % 32) true).rdb .rng (R.RNG.DRAIN (n / 32)) (n % 32) = true :=
    State.rdb_wrb_same true (rngDrain_row h) (Nat.mod_lt _ (by decide)) (full_bit (Nat.mod_lt _ (by decide)))
  rw [← stored]
  unfold State.drainFlagged State.rdb
  rw [State.flag_rd _ _ _ (page_apart (by decide) (by decide) (by show 0xF20 + 4 * (n / 32) < _; omega))
    (place_ne (by show 0x10 ≠ 0xF20 + _; omega))]

theorem State.drainFlagged_flag (s : State) (n : Nat) : (s.drainFlagged n).rdb .rng R.PAGE.FLAGS 9 = true :=
  State.flag_rdb _ (findRow_flags .rng) (by decide) (rngFlags_full (.inr rfl)) (by decide)

theorem State.drainFlagged_rings (s : State) (n : Nat) : (s.drainFlagged n).rings = s.rings := by
  unfold State.drainFlagged
  rw [State.flag_rings, State.wrb_rings]

/-! ### Items for M→H rings (R46) -/

theorem State.ringPush_dropped {s : State} {n : Nat} (run : s.running .rng = true) (serves : s.mode.serves = true)
    (empty : (s.ring n).descs = []) (tstat : Nat) (b : List Byte) : s.ringPush n tstat b = s.inc .rng (R.RNG.DROP n) := by
  unfold State.ringPush
  rw [State.ringHead_nil empty]
  exact if_pos (by simp [run, serves])

/-- An item that fits is placed in the oldest buffer. -/
theorem State.ringPush_placed {s : State} {n : Nat} {d : Desc} {rest : List Desc} (served : s.ringServed n = true)
    (descs : (s.ring n).descs = d :: rest) (usable : ∀ x ∈ rest, descFault x = 0) (tstat : Nat) {b : List Byte}
    (fits : b.length ≤ d.len) : s.ringPush n tstat b = s.ringDone n 0 tstat b.length b := by
  unfold State.ringPush
  rw [State.ringHead_cons served descs]
  exact (if_neg (Nat.not_lt.mpr fits)).trans (State.ringComplete_usable served descs usable ..)

end Sys2Proof.Machine
end

section
/-! SUPPORT. Clauses of the statement about descriptor rings. -/

namespace Sys2Proof.Machine

open Sys2Proof

theorem State.pageServed_serves {s : State} {p : Page} (h : s.pageServed p = true) : s.mode.serves = true :=
  (Bool.and_eq_true _ _ ▸ h).1

theorem Within.running_same {K : Nat} {ps : List Page} {s t : State} (h : Within K ps s t) (k : K.testBit 4 = false)
    (p : Page) : t.running p = s.running p := by
  unfold State.running
  rw [h.pageState k]

section
variable {s x : State} {n hidx : Nat} (fetched : Within 0x20 [] (s.posted n hidx) x)
include fetched

/-- Beside HIDX the registers of RNG read as before the doorbell. -/
theorem State.fetched_rd {o : Nat} (ho : o < 0x1000) (h : o ≠ R.RNG.HIDX n) : x.rd .rng o = s.rd .rng o :=
  (fetched.regs .rng (by simp) rfl o ho).trans (s.posted_rd n hidx h)

theorem State.fetched_sent : x.sent = s.sent := (fetched.sent rfl).trans ((s.posted_within n hidx).sent rfl)

theorem State.fetched_mt : x.mt = s.mt := (fetched.mt rfl).trans ((s.posted_within n hidx).mt rfl)

theorem State.fetched_served (small : n < 128) (run : s.running .rng = true) (serves : s.mode.serves = true)
    (used : s.ringUsed n = true) (live : (x.ring n).stopped = false) : x.ringServed n = true := by
  have mode : x.mode = s.mode := (fetched.mode_same rfl).trans ((s.posted_within n hidx).mode_same rfl)
  rw [State.ringServed_iff, fetched.running_same rfl, (s.posted_within n hidx).running_same rfl, mode]
  refine ⟨run, serves, ?_, live⟩
  rwa [State.ringUsed_of_reads small fun o low high =>
    State.fetched_rd fetched (by omega) (by show o ≠ 0x800 + _; omega)]

end

section
variable {s : State} {n : Nat} (small : n < 128) (run : s.running .rng = true) (used : s.ringUsed n = true)
  (live : (s.ring n).stopped = false)
include run used live

/-- Descriptors whose buffers can be used wait. -/
theorem State.doorbell_usable (quiet : ringQuiet n) {hidx : Nat} {ds : List Desc}
    (posts : s.ringPosts n hidx = (s.ring n).descs.length + ds.length) (fits : s.ringPosts n hidx ≤ s.ringSize n)
    (usable : ∀ d ∈ (s.ring n).descs ++ ds, descFault d = 0) (short : ∀ d ∈ ds, d.len ≤ ringMax n) :
    (s.doorbell n hidx (ds.map some)).ring n = { s.ring n with hidx := hidx, descs := (s.ring n).descs ++ ds } ∧
      (s.doorbell n hidx (ds.map some)).sent = s.sent := by
  obtain ⟨x, e, ring, fetched⟩ := State.doorbell_fetches run used live quiet posts fits short
  rw [e, State.ringAlign_usable (by rwa [ring]), State.ring_of_rings (x.drainEnds_rings n), State.drainEnds_sent]
  exact ⟨ring, State.fetched_sent fetched⟩

include small

/-- The only descriptor, whose buffer cannot be used, completes with its error. -/
theorem State.doorbell_unusable (serves : s.mode.serves = true) (quiet : ringQuiet n) {hidx : Nat} {d : Desc}
    (empty : (s.ring n).descs = []) (posts : s.ringPosts n hidx = 1) (fault : descFault d ≠ 0)
    (short : d.len ≤ ringMax n) :
    ((s.doorbell n hidx [some d]).ring n).descs = [] ∧ ((s.doorbell n hidx [some d]).ring n).stopped = false ∧
      (s.doorbell n hidx [some d]).sent =
        .desc n (s.ring n).midx [] (d.done n (descFault d) 0 (s.mt % 2 ^ 32) 0) :: s.sent := by
  obtain ⟨x, e, ring, fetched⟩ := State.doorbell_fetches (ds := [d]) run used live quiet (by rw [posts, empty]; rfl)
    (by rw [posts]; exact Nat.one_le_two_pow) (by simpa using short)
  rw [empty] at ring
  have head : x.ringHead n = some d := State.ringHead_cons (rest := [])
    (State.fetched_served fetched small run serves used (by rw [ring]; exact live)) (by rw [ring]; rfl)
  have aligned : x.ringAlign n 1 = x.ringDone n (descFault d) 0 0 [] := by
    unfold State.ringAlign
    rw [head]
    exact if_neg fault
  rw [List.map_singleton, posts, aligned] at e
  rw [e, State.ring_of_rings (State.drainEnds_rings ..), State.drainEnds_sent, State.ringDone_ring head,
    State.ringDone_sent head, ring, State.fetched_sent fetched, State.fetched_mt fetched]
  exact ⟨rfl, live, rfl⟩

/-- A descriptor that cannot be fetched or is too long stops the ring and is recorded. -/
theorem State.doorbell_stops (quiet : ringQuiet n) {hidx : Nat} {x : Option Desc}
    (posts : s.ringPosts n hidx = (s.ring n).descs.length + 1) (fits : s.ringPosts n hidx ≤ s.ringSize n)
    (first : s.rdb .rng R.RNG.ERR 7 = false) (bad : ∀ d, x = some d → ringMax n < d.len) :
    ((s.doorbell n hidx [x]).ring n).stopped = true ∧ ((s.doorbell n hidx [x]).ring n).descs = (s.ring n).descs ∧
      (s.doorbell n hidx [x]).rdn .rng R.RNG.ERR = (if x = none then 2 else 3) * 256 + 128 + n ∧
      (s.doorbell n hidx [x]).sent = s.sent := by
  have kept := s.postedKept_within n hidx
  have clear : (s.postedKept n hidx).rdb .rng R.RNG.ERR 7 = false := by
    rw [← first]
    unfold State.rdb
    rw [State.fetched_rd kept (by decide) (by show 0xF00 ≠ 0x800 + 8 * n; omega)]
  have code : (if x = none then 2 else 3) < 4 := by split <;> decide
  rw [State.doorbell_bad run used live quiet posts fits bad, State.ring_of_rings (State.drainEnds_rings ..),
    State.ringStop_ring, State.postedKept_ring, posts, List.take_of_length_le (Nat.le_succ _), State.drainEnds_sent]
  refine ⟨rfl, rfl, ?_, ((State.ringStop_within ..).sent rfl).trans (State.fetched_sent kept)⟩
  rw [← State.ringStop_err small code clear]
  unfold State.rdn
  rw [State.drainEnds_rd _ (by decide)]

/-- An occupancy above N stops the ring and is recorded. -/
theorem State.doorbell_stops_beyond {hidx : Nat} (beyond : s.ringSize n < s.ringPosts n hidx)
    (first : s.rdb .rng R.RNG.ERR 7 = false) (ds : List (Option Desc)) :
    ((s.doorbell n hidx ds).ring n).stopped = true ∧
      (s.doorbell n hidx ds).rdb .rng (R.RNG.STOP (n / 32)) (n % 32) = true ∧
      (s.doorbell n hidx ds).rdb .rng R.PAGE.FLAGS 8 = true ∧
      (s.doorbell n hidx ds).rdn .rng R.RNG.ERR = 256 + 128 + n := by
  have clear : (s.posted n hidx).rdb .rng R.RNG.ERR 7 = false := by
    rw [← first]
    unfold State.rdb
    rw [State.posted_rd _ _ _ (by show 0xF00 ≠ 0x800 + 8 * n; omega)]
  rw [State.doorbell_beyond run used live beyond, State.ringStop_ring]
  exact ⟨rfl, State.ringStop_bit _ _ small, State.ringStop_flag .., State.ringStop_err small (by decide) clear⟩

end

/-- A stopped ring starts again with MIDX = HIDX and no descriptor. -/
theorem State.ringRestart_anew {s : State} {n : Nat} (small : n < 128) (stopped : (s.ring n).stopped = true) :
    (s.ringRestart n).ring n = { hidx := (s.ring n).hidx, midx := (s.ring n).hidx, since := s.mt } ∧
      (s.ringRestart n).rdb .rng (R.RNG.STOP (n / 32)) (n % 32) = false ∧ (s.ringRestart n).sent = s.sent := by
  obtain ⟨c, k, e⟩ := State.ringRestart_stopped stopped
  rw [e]
  exact ⟨s.ringAnew_ring n, s.ringAnew_bit small, s.ringAnew_sent n⟩

/-- A ring without a buffer for longer than its bound is flagged. -/
theorem exec_ringDrainTimeout_late {s : State} (dt : Nat) (n : Fin 128) (mh : ringIsMH n.val = true)
    (served : s.ringServed n.val = true) (empty : (s.ring n.val).descs = [])
    (bound : s.rdf .rng (R.RNG.ATTR n.val) 31 16 ≠ 0)
    (late : (s.ring n.val).since + s.rdf .rng (R.RNG.ATTR n.val) 31 16 * 1000000 < (s.elapse dt).mt)
    (clear : s.rdb .rng (R.RNG.DRAIN (n.val / 32)) (n.val % 32) = false) :
    exec (.ringDrainTimeout dt n) s = .next ((s.elapse dt).drainFlagged n.val) := by
  rw [exec_ringDrainTimeout]
  refine if_pos ?_
  simp [mh, served, empty, bound, late, clear]

end Sys2Proof.Machine
end

section
/-! SETTLEMENT. Descriptor rings (R46 to R51). -/

open Sys2Proof Sys2Proof.Machine

/-- Settles O31: a doorbell stage by stage, a restart, the drain bound and items, each by its rule. -/
theorem ringsComplete : Obligations.RingsComplete := by
  refine ⟨?_, ?_, ?_, ?_, ?_, ?_, ?_, ?_, ?_, ?_, ?_⟩
  · rintro dt n hidx ds s _ rfl served run used live quiet posts fits usable short
    simp only [← s.elapse_running dt, ← s.elapse_ringUsed dt, ← s.elapse_ring dt,
      ← s.elapse_ringSize dt] at run used live posts fits usable ⊢
    obtain ⟨ring, sent⟩ := State.doorbell_usable run used live quiet posts ((Nat.le_of_eq posts).trans fits) usable
      short
    exact ⟨_, exec_ringDoorbell_served dt n hidx _ served, ring, State.doorbell_hidx used live n.isLt hidx _,
      sent.trans (s.elapse_sent dt)⟩
  · intro dt n hidx ds s served used live
    rw [← s.elapse_ringUsed dt] at used
    rw [← s.elapse_ring dt] at live
    exact ⟨_, exec_ringDoorbell_served dt n hidx ds served, State.doorbell_hidx used live n.isLt hidx ds⟩
  · rintro dt n hidx d s _ rfl served run used live quiet empty posts fault short
    have serves := (congrArg Mode.serves (s.elapse_mode dt)).trans (State.pageServed_serves served)
    simp only [← s.elapse_running dt, ← s.elapse_ringUsed dt, ← s.elapse_ring dt,
      ← s.elapse_sent dt] at run used live empty posts ⊢
    exact ⟨_, exec_ringDoorbell_served dt n hidx _ served,
      State.doorbell_unusable n.isLt run used live serves quiet empty posts fault short⟩
  · rintro dt n hidx x s _ rfl served run used live quiet posts fits first bad
    simp only [← s.elapse_running dt, ← s.elapse_ringUsed dt, ← s.elapse_ring dt, ← s.elapse_ringSize dt,
      ← s.elapse_rdb dt, ← s.elapse_sent dt] at run used live posts fits first ⊢
    exact ⟨_, exec_ringDoorbell_served dt n hidx _ served,
      State.doorbell_stops n.isLt run used live quiet posts ((Nat.le_of_eq posts).trans fits) first bad⟩
  · intro dt n hidx ds s served idle
    rw [exec_ringDoorbell_served dt n hidx ds served,
      State.doorbell_ignored (by rwa [State.elapse_ringUsed, State.elapse_ring])]
  · intro dt n hidx ds s served run used live beyond first
    simp only [← s.elapse_running dt, ← s.elapse_ringUsed dt, ← s.elapse_ring dt, ← s.elapse_ringSize dt,
      ← s.elapse_rdb dt] at run used live beyond first
    exact ⟨_, exec_ringDoorbell_served dt n hidx ds served,
      State.doorbell_stops_beyond n.isLt run used live beyond first ds⟩
  · intro dt n s served stopped
    simp only [← s.elapse_ring dt, ← s.elapse_sent dt] at stopped ⊢
    obtain ⟨ring, bit, sent⟩ := State.ringRestart_anew n.isLt stopped
    refine ⟨_, exec_ringRestart_served dt n served, ?_, ?_, ?_, ?_, bit, sent⟩ <;> rw [ring]
  · exact fun dt n s live => exec_ringRestart_live dt n live
  · rintro dt n s _ rfl mh served empty bound late clear
    exact ⟨_, exec_ringDrainTimeout_late dt n mh served empty bound late clear, State.drainFlagged_bit _ n.isLt,
      State.drainFlagged_flag .., (State.drainFlagged_rings ..).trans (s.elapse_rings dt)⟩
  · exact fun n tstat b s _ run serves empty => State.ringPush_dropped run serves empty tstat b
  · intro n tstat b s d rest _ served descs usable fits
    rw [State.ringPush_placed served descs usable tstat fits, State.ringDone_ring (State.ringHead_cons served descs),
      State.ringDone_sent (State.ringHead_cons served descs), descs]
    exact ⟨rfl, rfl, rfl⟩
end

section
/-! SUPPORT. CTRL is stored by a write of CTRL alone (R35): the start of a block, its fault and the protection that follow
leave CTRL of every page. -/

namespace Sys2Proof.Machine

open Sys2Proof

/-- CTRL of a page. -/
def ctrlWord (_ : Page) (o : Nat) : Prop := o = R.PAGE.CTRL

/-- CTRL reads as before. -/
abbrev KeepsCtrl (r s : State) : Prop := Unmoved ctrlWord r s

theorem Unmoved.ctrl {r s : State} (h : Unmoved hostWord r s) : KeepsCtrl r s := h.mono fun _ _ => .inl

theorem Unmoved.enabled {r s : State} (h : KeepsCtrl r s) (p : Page) :
    s.rdb p R.PAGE.CTRL 0 = r.rdb p R.PAGE.CTRL 0 := by
  unfold State.rdb
  rw [h.reads p R.PAGE.CTRL (by decide) rfl]

/-- Any other register. -/
theorem ctrlWord_else {p : Page} {o : Nat} (h : o ≠ 8) : ¬ctrlWord p o := h

/-- The registers of an array above the page header. -/
theorem ctrlWord_above {p : Page} {b k : Nat} (h : 8 < b) : ¬ctrlWord p (b + k) := fun e : b + k = 8 => by omega

theorem State.flag_ctrl (s : State) (p : Page) (n : Nat) : KeepsCtrl s (s.flag p n) := (s.flag_hostWords p n).ctrl

/-- A count outside CTRL, and a flag. -/
theorem State.inc_flag_ctrl (s : State) {p : Page} {o : Nat} (h : ¬ctrlWord p o) (q : Page) (n : Nat) :
    KeepsCtrl s ((s.inc p o).flag q n) := (s.inc_unmoved h).trans (State.flag_ctrl ..)

theorem KeepsCtrl.prot (s : State) (v : ProtSt) : KeepsCtrl s { s with prot := v } := .of_regs rfl

theorem KeepsCtrl.safe (s : State) (v : SafeSt) : KeepsCtrl s { s with safe := v } := .of_regs rfl

theorem KeepsCtrl.slay (s : State) (v : SlaySt) : KeepsCtrl s { s with slay := v } := .of_regs rfl

theorem KeepsCtrl.way (s : State) (v : WaySt) : KeepsCtrl s { s with way := v } := .of_regs rfl

/-! ### Trips and what they record -/

theorem State.record_ctrl (s : State) (p : Page) (cls : Nat) (payload : List Byte) :
    KeepsCtrl s (s.record p cls payload) := by
  unfold State.record
  extract_lets r
  exact .ite (.ite (.of_regs rfl) (s.inc_flag_ctrl (ctrlWord_else (by decide)) ..))
    (.ite (.of_regs rfl) (s.inc_flag_ctrl (ctrlWord_else (by decide)) ..))

theorem State.freezeSeg_ctrl (s : State) (g : Seg) : KeepsCtrl s (s.freezeSeg g).2 := by
  unfold State.freezeSeg
  split
  · exact .refl s
  · split
    · exact .of_regs rfl
    · exact s.inc_flag_ctrl (ctrlWord_else (by decide)) ..

theorem State.freezeSegs_ctrl (s : State) (l : List Seg) : KeepsCtrl s (s.freezeSegs l).2.2 := by
  induction l generalizing s with
  | nil => exact .refl s
  | cons g t ih =>
    unfold State.freezeSegs
    have one := s.freezeSeg_ctrl g
    generalize s.freezeSeg g = frozen at one ⊢
    obtain ⟨ok, x⟩ := frozen
    cases ok
    · exact one
    · exact one.trans (ih x)

theorem State.burstTrigger_ctrl (s : State) : KeepsCtrl s s.burstTrigger := by
  unfold State.burstTrigger
  exact .ite (.refl s) (.ite (s.inc_flag_ctrl (ctrlWord_else (by decide)) ..) (.ite (.refl s) (.of_regs rfl)))

theorem State.trigger_ctrl (s : State) (cause detail : Nat) : KeepsCtrl s (s.trigger cause detail) := by
  unfold State.trigger
  refine .ite (.refl s) ?_
  extract_lets st noted covers gs located
  have note : KeepsCtrl s noted := s.wrn_unmoved (ctrlWord_else (by decide)) _
  have locate : KeepsCtrl s located := by
    unfold located
    split
    · exact note.trans (State.wrn_unmoved _ (ctrlWord_else (by decide)) _)
    · exact note
  have freeze := locate.trans (State.freezeSegs_ctrl located gs)
  generalize located.freezeSegs gs = result at freeze ⊢
  obtain ⟨any, refused, frozen⟩ := result
  dsimp -zeta only at freeze ⊢
  extract_lets counted win
  have count : KeepsCtrl s counted := .ite (freeze.trans (frozen.inc_flag_ctrl (ctrlWord_else (by decide)) ..)) freeze
  exact (count.trans (KeepsCtrl.way counted _)).trans (State.burstTrigger_ctrl _)

theorem State.tripEntry_ctrl (s : State) (n : Nat) : KeepsCtrl s (s.tripEntry n) := by
  unfold State.tripEntry
  extract_lets src first tripped noted counted recorded
  have trip : KeepsCtrl s tripped := .of_regs rfl
  have note : KeepsCtrl s noted := trip.trans (State.wrn_unmoved _ (ctrlWord_above (by decide)) _)
  have count : KeepsCtrl s counted := note.trans (noted.inc_flag_ctrl (ctrlWord_above (by decide)) ..)
  exact (count.trans (State.record_ctrl ..)).trans (State.trigger_ctrl ..)

theorem State.groupStep_ctrl (s : State) (n : Nat) : KeepsCtrl s (s.groupStep n) := by
  unfold State.groupStep
  refine .ite (.of_regs rfl) ?_
  split
  · exact State.tripEntry_ctrl ..
  · exact .refl s
  · exact .ite (.of_regs rfl) (.refl s)
  · exact .refl s

/-! ### The protection -/

theorem State.matrixEval_ctrl (s : State) : KeepsCtrl s s.matrixEval := by
  unfold State.matrixEval
  refine .ite (.refl s) ?_
  extract_lets now rise derate was _ effective lo hi fast slow risen derated
  have effect : KeepsCtrl s effective := .of_regs rfl
  have seen : KeepsCtrl s hi :=
    (effect.trans (State.wrn_unmoved _ (ctrlWord_else (by decide)) _)).trans
      (State.wrn_unmoved _ (ctrlWord_else (by decide)) _)
  have fasts : KeepsCtrl s fast := .ite (seen.trans (State.flag_ctrl ..)) seen
  have slows : KeepsCtrl s slow := .ite (fasts.trans (State.flag_ctrl ..)) fasts
  have rises : KeepsCtrl s risen := .ite effect (.ite slows (slows.trans (State.flag_ctrl ..)))
  have shown : KeepsCtrl s derated := .ite (rises.trans (State.flag_ctrl ..)) rises
  exact .foldl shown fun t n h => h.trans (t.groupStep_ctrl n)

theorem State.pairEval_ctrl (s : State) (m : Nat) : KeepsCtrl s (s.pairEval m) := by
  unfold State.pairEval
  extract_lets v f low sent duty
  refine .ite (.refl s) (.ite ?_ (.of_within (State.setPair_within ..) (by decide)))
  have off : KeepsCtrl s sent :=
    ((Unmoved.of_within (s.setPair_within m {}) (by decide)).trans
      (State.wrn_unmoved low (ctrlWord_above (by decide)) _)).trans (.of_regs (State.send_regs ..))
  exact .ite (off.trans (State.flag_ctrl ..)) off

theorem State.slotEval_ctrl (s : State) (n : Nat) : KeepsCtrl s (s.slotEval n) := by
  unfold State.slotEval
  extract_lets m v held stored p shown manual flagged k
  have slot : ∀ t v, KeepsCtrl t (t.setSlot n v) := fun t v => .of_within (t.setSlot_within n v) (by decide)
  have store : KeepsCtrl s stored := slot ..
  have mode : KeepsCtrl s shown := store.trans (State.wrf_unmoved _ (ctrlWord_else (by decide)) ..)
  have hold : KeepsCtrl s flagged := (((mode.trans (slot ..)).trans
    (State.wrf_unmoved _ (ctrlWord_else (by decide)) ..)).trans
    (State.wrb_unmoved _ (ctrlWord_else (by decide)) ..)).trans (State.flag_ctrl ..)
  refine .ite store (.ite ?_ (.ite (mode.trans (slot ..)) (mode.trans (slot ..))))
  exact (Unmoved.ite (hold.trans (State.flag_ctrl ..)) hold).trans (State.inc_unmoved _ (ctrlWord_else (by decide)))

theorem State.loopEval_ctrl (s : State) : KeepsCtrl s s.loopEval := by
  unfold State.loopEval
  extract_lets slots
  have slot : KeepsCtrl s slots := .foldl (.refl s) fun t n h => h.trans (t.slotEval_ctrl n)
  exact (slot.trans (.foldl (.refl slots) fun t m h => h.trans (t.pairEval_ctrl m))).trans
    (.of_within (State.implRaw_within _) (by decide))

theorem State.protEval_ctrl (s : State) : KeepsCtrl s s.protEval :=
  ((s.matrixEval_ctrl.trans (State.loopEval_ctrl _)).trans (State.matrixEval_ctrl _)).trans (State.loopEval_ctrl _)

theorem State.setSource_ctrl (s : State) (n : Nat) (b : Bool) : KeepsCtrl s (s.setSource n b) := by
  unfold State.setSource
  extract_lets raw
  exact .ite (.refl s) ((KeepsCtrl.prot s _).trans (State.protEval_ctrl _))

theorem State.ocSources_ctrl (s : State) : KeepsCtrl s s.ocSources := by
  unfold State.ocSources
  extract_lets lv raw
  exact .ite (.refl s) ((KeepsCtrl.prot s _).trans (State.protEval_ctrl _))

theorem State.restartComparators_ctrl (s : State) : KeepsCtrl s s.restartComparators :=
  (KeepsCtrl.prot s _).trans (State.ocSources_ctrl _)

/-! ### The start of each block -/

theorem State.estStartShow_ctrl (s : State) : KeepsCtrl s s.estStartShow := by
  unfold State.estStartShow
  extract_lets crc content shown flagged
  have show1 : KeepsCtrl s shown := s.wrn_unmoved (ctrlWord_else (by decide)) _
  have flag1 : KeepsCtrl s flagged := .ite show1 (show1.trans (State.flag_ctrl ..))
  refine .foldl flag1 fun t n h => ?_
  extract_lets p u
  exact .ite h ((h.trans (State.wrn_unmoved _ (ctrlWord_above (by decide)) _)).trans
    (State.wrn_unmoved _ (ctrlWord_above (by decide)) _))

theorem State.snsStarted_ctrl (s : State) (n : Fin 16) : KeepsCtrl s (s.snsStarted n) := by
  unfold State.snsStarted
  extract_lets intact met
  have ring : KeepsCtrl s intact := s.wrf_unmoved (p := .sns n) (o := R.SNS.RING) (ctrlWord_else (by decide)) ..
  have fes : KeepsCtrl s met := .foldl ring fun t p h => h.trans (.of_regs rfl)
  exact fes.trans (State.setSource_ctrl ..)

theorem State.showDelays_ctrl (s : State) : KeepsCtrl s s.showDelays := by
  unfold State.showDelays
  refine .foldl (.refl s) fun t g h => ?_
  refine .ite ?_ (h.trans (State.wrf_unmoved _ (ctrlWord_else (by decide)) ..))
  exact (h.trans (.of_within (State.draw_within t) (by decide))).trans (State.wrf_unmoved _ (ctrlWord_else (by decide)) ..)

theorem State.invalidShow_ctrl (s : State) : KeepsCtrl s s.invalidShow := by
  unfold State.invalidShow
  extract_lets now was stored flagged
  have store : KeepsCtrl s stored := s.wrn_unmoved (ctrlWord_else (by decide)) _
  have flag : KeepsCtrl s flagged := .ite store (store.trans (State.flag_ctrl ..))
  exact flag.trans (State.setSource_ctrl ..)

theorem State.modStarted_ctrl (s : State) : KeepsCtrl s s.modStarted := by
  unfold State.modStarted
  extract_lets d _ cleared
  have clear : KeepsCtrl s cleared := .of_regs rfl
  exact (((clear.trans (State.wrn_unmoved _ (ctrlWord_else (by decide)) _)).trans (State.showDelays_ctrl _)).trans
    (State.restartComparators_ctrl _)).trans (State.invalidShow_ctrl _)

theorem State.place_ctrl (s : State) (b : Bool) (c : Nat) : KeepsCtrl s (s.place b c) := by
  unfold State.place
  split
  · exact .of_regs rfl
  · extract_lets dropped failed
    have drop : KeepsCtrl s dropped :=
      (Unmoved.of_within (s.dropHarness_within c) (by decide)).trans (State.inc_flag_ctrl _ (ctrlWord_else (by decide)) ..)
    exact drop.trans (.of_regs rfl)

theorem State.placeAll_ctrl (s : State) : KeepsCtrl s s.placeAll := by
  unfold State.placeAll
  extract_lets cleared
  exact .foldl (.of_regs rfl) fun t c h => h.trans (t.place_ctrl false c)

theorem State.jrnQueue_ctrl (s : State) (r : Nat) (img : List Byte) : KeepsCtrl s (s.jrnQueue r img) := by
  unfold State.jrnQueue
  extract_lets fresh _ queued deferred
  have queue : KeepsCtrl s queued := .of_regs rfl
  have defer : KeepsCtrl s deferred :=
    .ite ((queue.trans (State.inc_unmoved _ (ctrlWord_else (by decide)))).trans
      (State.wrb_unmoved _ (ctrlWord_else (by decide)) ..)) queue
  exact .ite (defer.trans (.of_within (State.mirrorItem_within ..) (by decide))) defer

theorem State.epochUp_ctrl (s : State) : KeepsCtrl s s.epochUp := by
  unfold State.epochUp State.jrnPut
  extract_lets e img
  exact (State.jrnQueue_ctrl ..).trans (State.wrn_unmoved _ (ctrlWord_else (by decide)) _)

theorem State.estStarted_ctrl (s : State) : KeepsCtrl s s.estStarted := by
  unfold State.estStarted
  extract_lets _ cleared shown
  have clear : KeepsCtrl s cleared := .of_regs rfl
  have pcap : KeepsCtrl s shown :=
    .foldl clear fun t k h => h.trans (State.wrn_unmoved _ (ctrlWord_above (by decide)) _)
  exact ((pcap.trans (State.placeAll_ctrl _)).trans (State.epochUp_ctrl _)).trans
    (.of_within (State.modWay_within ..) (by decide))

theorem State.tdmStarted_ctrl (s : State) : KeepsCtrl s s.tdmStarted := by
  unfold State.tdmStarted State.serviceAll
  extract_lets pumped
  have pump : KeepsCtrl s pumped := (State.servicePump_hostWords ..).ctrl
  exact (pump.trans (State.servicePump_hostWords ..).ctrl).trans (.of_within (State.setTdm_within ..) (by decide))

theorem State.ringsFresh_ctrl (s : State) : KeepsCtrl s s.ringsFresh := by
  unfold State.ringsFresh
  extract_lets gone fresh cleared indexed
  have clear : KeepsCtrl s cleared := .of_regs rfl
  have index : KeepsCtrl s indexed := .foldl clear fun t n h =>
    (h.trans (State.wrn_unmoved _ (ctrlWord_above (by decide)) _)).trans
      (State.wrn_unmoved _ (ctrlWord_above (by decide)) _)
  exact .foldl index fun t m h =>
    (h.trans (State.wrn_unmoved _ (ctrlWord_above (by decide)) _)).trans
      (State.wrn_unmoved _ (ctrlWord_above (by decide)) _)

theorem State.irqStarted_ctrl (s : State) : KeepsCtrl s s.irqStarted := by
  unfold State.irqStarted
  exact .foldl (.refl s) fun t k h => h.trans (State.levelSource_hostWords ..).ctrl

theorem State.safeShow_ctrl (s : State) : KeepsCtrl s s.safeShow := by
  unfold State.safeShow
  extract_lets run shown
  have inputs : KeepsCtrl s shown :=
    .foldl (.refl s) fun t n h => h.trans (State.wrn_unmoved _ (ctrlWord_above (by decide)) _)
  exact inputs.trans (State.wrn_unmoved _ (ctrlWord_else (by decide)) _)

theorem State.safeSources_ctrl (s : State) : KeepsCtrl s s.safeSources := by
  unfold State.safeSources
  extract_lets m
  exact ((KeepsCtrl.prot s _).trans (State.safeShow_ctrl _)).trans (State.protEval_ctrl _)

theorem State.adoptSutclr_ctrl (s : State) : KeepsCtrl s s.adoptSutclr := by
  unfold State.adoptSutclr
  exact .ite (((KeepsCtrl.safe s _).trans (State.safeShow_ctrl _)).trans (State.protEval_ctrl _)) (.refl s)

theorem State.safeStarted_ctrl (s : State) : KeepsCtrl s s.safeStarted := by
  unfold State.safeStarted
  extract_lets _ cleared
  have clear : KeepsCtrl s cleared := .of_regs rfl
  exact (Unmoved.ite (clear.trans (State.adoptSutclr_ctrl _)) clear).trans (State.safeSources_ctrl _)

theorem State.connShow_ctrl (s : State) : KeepsCtrl s s.connShow := by
  unfold State.connShow
  extract_lets shown
  have conns : KeepsCtrl s shown := by
    refine .foldl (.refl s) fun t k h => ?_
    extract_lets c stat seq
    exact ((h.trans (State.wrn_unmoved _ (ctrlWord_above (by decide)) _)).trans
      (State.wrn_unmoved _ (ctrlWord_above (by decide)) _)).trans (State.wrn_unmoved _ (ctrlWord_above (by decide)) _)
  exact conns.trans (State.setSource_ctrl ..)

theorem State.slayReset_ctrl (s : State) : KeepsCtrl s s.slayReset := by
  unfold State.slayReset
  extract_lets run conns
  have reset : KeepsCtrl s conns :=
    .foldl (.refl s) fun t k h => h.trans (.of_within (State.setConn_within ..) (by decide))
  exact (reset.trans (KeepsCtrl.slay conns _)).trans (State.connShow_ctrl _)

theorem State.loopStart_ctrl (s : State) (n : Nat) : KeepsCtrl s (s.loopStart n) := by
  unfold State.loopStart
  extract_lets p ts rate acc _ limited
  have limit : KeepsCtrl s limited := .of_within (State.setSlot_within ..) (by decide)
  refine .ite ?_ limit
  split
  · exact .foldl limit fun t c h => h.trans (State.wri_unmoved _ (ctrlWord_above (by decide)) _)
  · exact limit

theorem State.blockStarted_ctrl (s : State) (p : Page) : KeepsCtrl s (s.blockStarted p) := by
  unfold State.blockStarted
  split
  case h_1 n => exact s.snsStarted_ctrl n
  case h_2 => exact s.modStarted_ctrl
  case h_3 => exact s.estStarted_ctrl
  case h_4 => exact s.restartComparators_ctrl
  case h_5 => exact s.tdmStarted_ctrl
  case h_7 => exact s.ringsFresh_ctrl
  case h_8 => exact s.irqStarted_ctrl
  case h_11 => exact s.safeStarted_ctrl
  case h_14 => exact s.slayReset_ctrl
  case h_17 n => exact s.loopStart_ctrl n.val
  all_goals exact .of_regs rfl

theorem State.pageFault_ctrl (s : State) (p : Page) : KeepsCtrl s (s.pageFault p) :=
  (Unmoved.of_regs (State.setPage_regs ..)).trans (State.flag_ctrl ..)

theorem State.tryReady_ctrl (s : State) : KeepsCtrl s s.tryReady := by
  unfold State.tryReady State.modeChanged
  extract_lets sig _ ready
  have readied : KeepsCtrl s ready := .of_regs rfl
  exact .ite ((readied.trans (.of_within (State.takeMode_within ..) (by decide))).trans (State.protEval_ctrl _)) (.refl s)

theorem State.pageRuns_ctrl (s : State) (p : Page) : KeepsCtrl s (s.pageRuns p) := by
  unfold State.pageRuns
  exact ((((Unmoved.of_regs (State.setPage_regs ..)).trans (State.blockStarted_ctrl ..)).trans
    (.of_within (State.savePage_within ..) (by decide))).trans (State.protEval_ctrl _)).trans (State.tryReady_ctrl _)

end Sys2Proof.Machine
end

section
/-! SUPPORT. The page state machine (R35, R36): what each of its steps does to the pages. -/

namespace Sys2Proof.Machine

open Sys2Proof

/-! ### A page moves, the others stay -/

/-- From `s` to `t` page `p` has come into state `u`, and every other page is as before. -/
structure Moves (p : Page) (u : PageState) (s t : State) : Prop where
  moved : t.pageState p = u
  others : ∀ q, q ≠ p → t.pageState q = s.pageState q

theorem State.setPage_moves (s : State) (p : Page) (u : PageState) : Moves p u s (s.setPage p u) :=
  ⟨s.pageState_setPage_same p u, fun _ h => s.pageState_setPage_other u h⟩

namespace Moves

variable {p : Page} {u : PageState} {r s t : State} {K : Nat} {ps : List Page}

theorem within (h : Moves p u r s) (w : Within K ps s t) (k : K.testBit 4 = false := by rfl) : Moves p u r t :=
  ⟨(w.pageState k p).trans h.moved, fun q n => (w.pageState k q).trans (h.others q n)⟩

theorem after (w : ∀ q, s.pageState q = r.pageState q) (h : Moves p u s t) : Moves p u r t :=
  ⟨h.moved, fun q n => (h.others q n).trans (w q)⟩

end Moves

theorem State.pageFault_moves (s : State) (p : Page) : Moves p .fault s (s.pageFault p) :=
  (s.setPage_moves p .fault).within (State.flag_within ..)

/-- FAULT is a bit of every page's FLAGS (R34). -/
theorem flags_fault_full (p : Page) :
    Full (RegRow.mask ⟨0x010, 4, 1, 0, 0, pageBlockFlags p + 0x7, 0, 0, [0]⟩) 2 2 := by
  have h : ∀ p ∈ allPages, bits (RegRow.mask ⟨0x010, 4, 1, 0, 0, pageBlockFlags p + 0x7, 0, 0, [0]⟩) 2 2 = 1 := by
    decide +kernel
  exact h p (mem_allPages p)

/-- A fault sets the page's own FLAGS.FAULT. -/
theorem State.pageFault_flag (s : State) {p : Page} (h : p ≠ .irq) : (s.pageFault p).rdb p R.PAGE.FLAGS 2 = true :=
  State.flag_rdb _ (findRow_flags p) (by decide) (flags_fault_full p) (flags_place_ne h (by decide))

/-! ### A write of CTRL -/

theorem State.ctrlWrite_check {s : State} {p : Page} {v : Word} (st : s.pageState p = .disabled) (en : flg v 0 = true) :
    s.ctrlWrite p v = (s.wr p R.PAGE.CTRL v).enableCheck p := by
  unfold State.ctrlWrite
  rw [if_pos en, if_pos st]

theorem State.ctrlWrite_kept {s : State} {p : Page} {v : Word} (st : s.pageState p ≠ .disabled) (en : flg v 0 = true) :
    s.ctrlWrite p v = s.wr p R.PAGE.CTRL v := by
  unfold State.ctrlWrite
  rw [if_pos en, if_neg st]

theorem State.ctrlWrite_disable {s : State} {p : Page} {v : Word}
    (st : s.pageState p = .running ∨ s.pageState p = .fault) (en : flg v 0 = false) :
    s.ctrlWrite p v = ((s.wr p R.PAGE.CTRL v).disarm p 2).disabling p := by
  unfold State.ctrlWrite
  rcases st with st | st <;> simp [st, en]

theorem State.ctrlWrite_stays {s : State} {p : Page} {v : Word} (st : s.pageState p = .disabled) (en : flg v 0 = false) :
    s.ctrlWrite p v = s.wr p R.PAGE.CTRL v := by
  unfold State.ctrlWrite
  simp [st, en]

theorem State.enableCheck_passes {s x : State} {p : Page} (shown : x = s.wrn p R.PAGE.CFG_LIVE (s.cfgCrc p))
    (crc : s.cfgCrc p = x.rdn p R.PAGE.CFG_REF) (lists : ∀ c, p = .can c → x.fltOk c.val = true) :
    s.enableCheck p = (x.setPage p .enabling).pageStarting p := by
  subst shown
  unfold State.enableCheck
  extract_lets _ _ named
  have listed : named = true := by
    unfold named
    cases p with
    | can c => exact lists c rfl
    | _ => rfl
  rw [if_neg (by simpa using crc), if_neg (by simp [listed])]

theorem State.enableCheck_mismatch {s x : State} {p : Page} (shown : x = s.wrn p R.PAGE.CFG_LIVE (s.cfgCrc p))
    (crc : s.cfgCrc p ≠ x.rdn p R.PAGE.CFG_REF) : s.enableCheck p = x.flag p 0 := by
  subst shown
  unfold State.enableCheck
  exact if_pos (bne_iff_ne.mpr crc)

/-- Both writes of CTRL are one. -/
theorem exec_ctrlWrite {s : State} (dt : Nat) {p : Page} (v : Word) (up : s.pageServed p = true) :
    exec (.pageEnable dt p v) s = .next ((s.elapse dt).ctrlWrite p v) ∧
      exec (.pageDisable dt p v) s = .next ((s.elapse dt).ctrlWrite p v) := by
  rw [exec_pageEnable, exec_pageDisable]
  unfold execPageEnable execPageDisable
  simp [up]

theorem State.enableCheck_moves {s x : State} {p : Page} (shown : x = s.wrn p R.PAGE.CFG_LIVE (s.cfgCrc p))
    (crc : s.cfgCrc p = x.rdn p R.PAGE.CFG_REF) (lists : ∀ c, p = .can c → x.fltOk c.val = true) :
    Moves p .enabling s (s.enableCheck p) := by
  rw [State.enableCheck_passes shown crc lists]
  refine .after (fun q => ?_) ((x.setPage_moves p .enabling).within (State.pageStarting_within ..))
  rw [shown]
  exact (State.wrn_within ..).pageState rfl q

theorem State.disabling_moves (s : State) (p : Page) : Moves p .disabling s (s.disabling p) := by
  unfold State.disabling
  have set := s.setPage_moves p .disabling
  exact ite_ind _ ((set.within (State.blockLeft_within _ p)).within (State.protEval_within _)) set

/-! ### The end of a block start -/

theorem State.elapse_startPending (s : State) (dt : Nat) (p : Page) :
    (s.elapse dt).startPending p = s.startPending p := by
  unfold State.startPending
  cases p with
  | sns n =>
    have ring : (s.elapse dt).sring n.val = s.sring n.val := by
      unfold State.sring
      rw [State.elapse_sns]
    have pop : (s.elapse dt).pop n = s.pop n := s.elapse_rdf ..
    have fields : (s.elapse dt).snsFieldsOk n = s.snsFieldsOk n := by
      unfold State.snsFieldsOk
      rw [State.elapse_rdf, State.elapse_rdf, pop]
    dsimp only
    rw [ring, pop, fields]
  | _ => rfl

/-- What the block start of a page shows before it ends: EST's parameter sets (R142). -/
def State.startShown (s : State) (p : Page) : State := if p = .est then s.estStartShow else s

theorem State.startShown_within (s : State) (p : Page) : Within 0x10008000000000080 [] s (s.startShown p) :=
  Within.ite (State.estStartShow_within s) (Within.refl s)

theorem State.startShown_ctrl (s : State) (p : Page) : KeepsCtrl s (s.startShown p) :=
  Unmoved.ite s.estStartShow_ctrl (.refl s)

section
variable {s : State} {p : Page} (st : s.pageState p = .enabling) (ended : s.startPending p = false)
include st ended

theorem State.startEnds_runs (ok : (s.startShown p).startOk p = true) (en : s.rdb p R.PAGE.CTRL 0 = true) :
    s.startEnds p = (s.startShown p).pageRuns p := by
  have kept : ((s.startShown p).pageRuns p).rdb p R.PAGE.CTRL 0 = true :=
    (((s.startShown_ctrl p).trans (State.pageRuns_ctrl ..)).enabled p).trans en
  unfold State.startShown at ok kept ⊢
  unfold State.startEnds
  simp only [st, ended, ok, kept, bne_self_eq_false, Bool.or_self, Bool.false_eq_true, if_true, if_false]

theorem State.startEnds_fails (ok : (s.startShown p).startOk p = false) (en : s.rdb p R.PAGE.CTRL 0 = true) :
    s.startEnds p = ((s.startShown p).pageFault p).protEval := by
  have kept : (((s.startShown p).pageFault p).protEval).rdb p R.PAGE.CTRL 0 = true :=
    ((((s.startShown_ctrl p).trans (State.pageFault_ctrl ..)).trans (State.protEval_ctrl _)).enabled p).trans en
  unfold State.startShown at ok kept ⊢
  unfold State.startEnds
  simp only [st, ended, ok, kept, bne_self_eq_false, Bool.or_self, Bool.false_eq_true, if_true, if_false]

end

theorem State.pageRuns_moves (s : State) (p : Page) : Moves p .running s (s.pageRuns p) := by
  unfold State.pageRuns
  exact ((((s.setPage_moves p .running).within (State.blockStarted_within ..)).within (State.savePage_within ..)).within
    (State.protEval_within _)).within (State.tryReady_within _)

theorem exec_blockStartDone_serves {s : State} (dt : Nat) (p : Page) (up : s.mode.serves = true) :
    exec (.blockStartDone dt p) s = .next ((s.elapse dt).startEnds p) := by
  rw [exec_blockStartDone]
  unfold execBlockStartDone
  simp [up]

/-! ### The end of DISABLING, and a block fault -/

/-- What a block does when it has stopped: a CAN controller's (R362). -/
def State.stopped (s : State) : Page → State
  | .can c => s.canStopped c.val
  | _ => s

theorem State.stopped_ctrl (s : State) (p : Page) : (s.stopped p).rdb p R.PAGE.CTRL 0 = s.rdb p R.PAGE.CTRL 0 := by
  unfold State.stopped State.rdb
  split
  next c =>
    rw [(State.canStopped_within s c.val).regs (.can c) (by simp) (by revert c; decide) R.PAGE.CTRL (by decide)]
  · rfl

theorem State.blockStops_stopped {s : State} {p : Page} (st : s.pageState p = .disabling)
    (idle : ∀ c, p = .can c → (s.canSt c.val).attempt = none) (en : s.rdb p R.PAGE.CTRL 0 = false) :
    s.blockStops p = (s.stopped p).setPage p .disabled := by
  have kept : ((s.stopped p).setPage p .disabled).rdb p R.PAGE.CTRL 0 = false := (s.stopped_ctrl p).trans en
  unfold State.stopped at kept ⊢
  unfold State.blockStops
  cases p <;> simp_all

theorem exec_blockStopped_serves {s : State} (dt : Nat) (p : Page) (up : s.mode.serves = true) :
    exec (.blockStopped dt p) s = .next ((s.elapse dt).blockStops p) := by
  rw [exec_blockStopped]
  unfold execBlockStopped
  simp [up]

theorem exec_blockFault_running {s : State} (dt : Nat) {p : Page} (up : s.mode.serves = true)
    (run : s.pageState p = .running) :
    exec (.blockFault dt p) s = .next (((s.elapse dt).pageFault p).blockLeft p).protEval := by
  rw [exec_blockFault]
  unfold execBlockFault State.blockFaults State.running
  simp [up, run]

end Sys2Proof.Machine
end

section
/-! SETTLEMENT. O26. -/

open Sys2Proof Sys2Proof.Machine

/-- Settles O26: each step of the page state machine sets the page's own state, and what a block does then leaves the
states of all pages and CTRL alone. -/
theorem pageStatesComplete : Obligations.PageStatesComplete := by
  unfold Obligations.PageStatesComplete
  refine ⟨?_, ?_, ?_, ?_, ?_, ?_, ?_, ?_, ?_, fun s p h => s.pageFault_flag h⟩
  · intro dt p v s x shown up st en crc lists
    have check := State.ctrlWrite_check (s := s.elapse dt) (by simpa using st) en
    obtain ⟨entered, others⟩ := State.enableCheck_moves shown crc lists
    have wrote (q : Page) : ((s.elapse dt).wr p R.PAGE.CTRL v).pageState q = s.pageState q :=
      ((State.wr_within ..).pageState rfl q).trans (s.elapse_pageState dt q)
    refine ⟨_, (exec_ctrlWrite dt v up).1, check ▸ entered, ?_, fun q h => ?_⟩
    · exact ((State.ctrlWrite_within ..).mode_same rfl).trans (s.elapse_mode dt)
    · rw [check, others q h, wrote]
  · intro dt p v s x shown up st en crc
    rw [(exec_ctrlWrite dt v up).1, State.ctrlWrite_check (by simpa using st) en, State.enableCheck_mismatch shown crc]
  · intro dt p v s up st en
    rw [(exec_ctrlWrite dt v up).1, State.ctrlWrite_kept (by simpa using st) en]
  · intro dt p v s up st en
    have disable := State.ctrlWrite_disable (s := s.elapse dt) (by simpa using st) en
    obtain ⟨left, others⟩ := State.disabling_moves (((s.elapse dt).wr p R.PAGE.CTRL v).disarm p 2) p
    refine ⟨_, (exec_ctrlWrite dt v up).2, disable ▸ left, ?_, fun q h => ?_⟩
    · exact ((State.ctrlWrite_within ..).mode_same rfl).trans (s.elapse_mode dt)
    · calc ((s.elapse dt).ctrlWrite p v).pageState q
          = (((s.elapse dt).wr p R.PAGE.CTRL v).disarm p 2).pageState q := by rw [disable, others q h]
        _ = ((s.elapse dt).wr p R.PAGE.CTRL v).pageState q := (State.disarm_within ..).pageState rfl q
        _ = (s.elapse dt).pageState q := (State.wr_within ..).pageState rfl q
        _ = s.pageState q := s.elapse_pageState dt q
  · intro dt p v s up st en
    rw [(exec_ctrlWrite dt v up).2, State.ctrlWrite_stays (by simpa using st) en]
  · rintro dt p s x rfl up st ended ok en
    have runs := State.startEnds_runs (s := s.elapse dt) (by simpa using st)
      ((s.elapse_startPending dt p).trans ended) ok (by simpa using en)
    obtain ⟨entered, others⟩ := State.pageRuns_moves ((s.elapse dt).startShown p) p
    refine ⟨_, exec_blockStartDone_serves dt p up, runs ▸ entered, fun q h => ?_⟩
    rw [runs, others q h, (State.startShown_within ..).pageState rfl, State.elapse_pageState]
  · rintro dt p s x rfl up st ended ok en
    have fails := State.startEnds_fails (s := s.elapse dt) (by simpa using st)
      ((s.elapse_startPending dt p).trans ended) ok (by simpa using en)
    refine ⟨(exec_blockStartDone_serves dt p up).trans (congrArg _ fails), ?_⟩
    exact ((State.pageFault_moves ..).within (State.protEval_within _)).moved
  · intro dt p s up st idle en
    have stops := State.blockStops_stopped (s := s.elapse dt) (p := p) (by simpa using st)
      (by simpa [State.canSt] using idle) (by simpa using en)
    refine ⟨_, exec_blockStopped_serves dt p up, stops ▸ State.pageState_setPage_same .., ?_⟩
    exact ((State.blockStops_within ..).mode_same rfl).trans (s.elapse_mode dt)
  · intro dt p s up run
    have faulted := ((s.elapse dt).pageFault_moves p).within (State.blockLeft_within _ p)
    refine ⟨_, exec_blockFault_running dt up run, rfl, (faulted.within (State.protEval_within _)).moved, ?_⟩
    rw [(State.protEval_within _).mode_same rfl, (State.blockLeft_within ..).mode_same rfl,
      (State.pageFault_within ..).mode_same rfl, State.elapse_mode]

end

section
/-! SUPPORT. Registers of 32 bits, alone, in pairs and stored one after the other. -/

namespace Sys2Proof.Machine

open Sys2Proof

/-! ### Registers of 32 bits -/

/-- A register with no reserved bit. -/
def FullRow (p : Page) (o : Nat) : Prop := ∃ r, findRow p o = some r ∧ r.mask = 2 ^ 32 - 1

theorem FullRow.of {p : Page} {o : Nat} (h : (findRow p o).map RegRow.mask = some (2 ^ 32 - 1)) : FullRow p o := by
  simpa [FullRow] using h

theorem FullRow.rdn_wrn {s : State} {p : Page} {o : Nat} (h : FullRow p o) (v : Nat) :
    (s.wrn p o v).rdn p o = v % 2 ^ 32 := by
  obtain ⟨r, row, full⟩ := h
  exact State.rdn_wrn_same v row full

theorem FullRow.rdn_inc {s : State} {p : Page} {o : Nat} (h : FullRow p o) :
    (s.inc p o).rdn p o = satAdd 32 (s.rdn p o) 1 := by
  obtain ⟨r, row, full⟩ := h
  exact State.rdn_inc_same row full

/-- A pair of registers of 32 bits each holds a number of 64. -/
theorem FullRow.rd64_wr64 {s : State} {p : Page} {lo hi : Nat} (low : FullRow p lo) (high : FullRow p hi) (v : Nat)
    (apart : hi ≠ lo) : (s.wr64 p lo hi v).rd64 p lo hi = v % 2 ^ 64 := by
  unfold State.wr64 State.rd64
  rw [high.rdn_wrn, State.rdn_wrn_other (place_ne apart), low.rdn_wrn]
  omega

theorem State.rd64_of_reads {s t : State} {p : Page} {lo hi : Nat} (low : t.rd p lo = s.rd p lo)
    (high : t.rd p hi = s.rd p hi) : t.rd64 p lo hi = s.rd64 p lo hi := by
  unfold State.rd64 State.rdn
  rw [low, high]

/-! ### Registers stored one after the other -/

/-- Words stored at the offsets `o 0` to `o (n - 1)` of a page, formed from what the stores leave alone. -/
def State.wrEach (s : State) (p : Page) (o : Nat → Nat) (f : State → Nat → Nat) (n : Nat) : State :=
  (List.range n).foldl (fun s w => s.wrn p (o w) (f s w)) s

theorem State.wrEach_succ (s : State) (p : Page) (o : Nat → Nat) (f : State → Nat → Nat) (n : Nat) :
    s.wrEach p o f (n + 1) = (s.wrEach p o f n).wrn p (o n) (f (s.wrEach p o f n) n) := by
  unfold State.wrEach
  rw [List.range_succ, List.foldl_append]
  rfl

section
variable {p : Page} {o : Nat → Nat} {f : State → Nat → Nat} (s : State)

theorem State.wrEach_value (keep : ∀ t a v w, f (State.wrn t p a v) w = f t w) (n w : Nat) :
    f (s.wrEach p o f n) w = f s w := by
  induction n with
  | zero => rfl
  | succ n ih => rw [State.wrEach_succ, keep, ih]

theorem State.wrEach_rd_other {q : Page} {u : Nat} {n : Nat} (apart : ∀ w < n, p.base + o w ≠ q.base + u) :
    (s.wrEach p o f n).rd q u = s.rd q u := by
  induction n with
  | zero => rfl
  | succ n ih =>
    rw [State.wrEach_succ, State.wrn, State.rd_wr_other _ (apart n (Nat.lt_succ_self n)),
      ih fun w h => apart w (Nat.lt_succ_of_lt h)]

theorem State.wrEach_rdn (keep : ∀ t a v w, f (State.wrn t p a v) w = f t w) (inj : ∀ a b, o a = o b → a = b)
    {n w : Nat} (h : w < n) (row : FullRow p (o w)) :
    (s.wrEach p o f n).rdn p (o w) = f s w % 2 ^ 32 := by
  induction n with
  | zero => cases h
  | succ n ih =>
    rw [State.wrEach_succ]
    by_cases last : w = n
    · subst last
      rw [row.rdn_wrn, s.wrEach_value keep]
    · rw [State.rdn_wrn_other (place_ne fun e => last (inj n w e).symm), ih (by omega)]

end

end Sys2Proof.Machine
end

section
/-! SUPPORT. The event input that is due (R67), and the completion record of a mailbox command (R403). -/

namespace Sys2Proof.Machine

open Sys2Proof

/-- Of two inputs the one with the earlier effect tick, the first on a tie. -/
def EvItem.sooner (m : Option EvItem) (e : EvItem) : Option EvItem :=
  match m with
  | some x => if e.effect < x.effect then some e else some x
  | none => some e

theorem State.dueItem_eq (s : State) :
    s.dueItem = (s.events.filter (fun e => e.effect ≤ s.tick)).foldl EvItem.sooner none := rfl

theorem EvItem.sooner_some (y e : EvItem) : EvItem.sooner (some y) e = some (if e.effect < y.effect then e else y) :=
  (apply_ite some ..).symm

/-- The chosen input is one of those looked at, and none of these is earlier. -/
theorem EvItem.foldl_sooner (y : EvItem) (l : List EvItem) :
    ∃ x, l.foldl EvItem.sooner (some y) = some x ∧ x ∈ y :: l ∧ ∀ z ∈ y :: l, x.effect ≤ z.effect := by
  induction l generalizing y with
  | nil => exact ⟨y, rfl, by simp, by simp⟩
  | cons e l ih =>
    have picked := ih (if e.effect < y.effect then e else y)
    rw [← EvItem.sooner_some] at picked
    obtain ⟨x, fold, mem, least⟩ := picked
    refine ⟨x, fold, ?_⟩
    split at mem
    · next earlier =>
      simp only [if_pos earlier, List.mem_cons, forall_eq_or_imp] at mem least ⊢
      exact ⟨.inr mem, by omega, least⟩
    · next later =>
      simp only [if_neg later, List.mem_cons, forall_eq_or_imp] at mem least ⊢
      exact ⟨by tauto, least.1, by omega, least.2⟩

theorem State.dueItem_none {s : State} (h : ∀ x ∈ s.events, s.tick < x.effect) : s.dueItem = none := by
  have empty : s.events.filter (fun e => e.effect ≤ s.tick) = [] :=
    List.filter_eq_nil_iff.mpr fun x k => by simpa using h x k
  rw [State.dueItem_eq, empty]
  rfl

theorem State.dueItem_some {s : State} {x : EvItem} (h : s.dueItem = some x) :
    x ∈ s.events ∧ x.effect ≤ s.tick ∧ ∀ y ∈ s.events, y.effect ≤ s.tick → x.effect ≤ y.effect := by
  rw [State.dueItem_eq] at h
  cases due : s.events.filter (fun e => e.effect ≤ s.tick) with
  | nil => simp [due] at h
  | cons y l =>
    obtain ⟨z, fold, mem, least⟩ := EvItem.foldl_sooner y l
    rw [due] at h
    obtain rfl : z = x := Option.some.inj (fold.symm.trans h)
    rw [← due] at mem least
    obtain ⟨waits, began⟩ : z ∈ s.events ∧ z.effect ≤ s.tick := by simpa using mem
    exact ⟨waits, began, fun y k began => least y (by simp [k, began])⟩

theorem exec_eventInputEffect_none {s : State} (h : s.dueItem = none) : exec .eventInputEffect s = .next s := by
  rw [exec_eventInputEffect]
  unfold execEventInputEffect
  rw [h]

theorem exec_eventInputEffect_some {s : State} {x : EvItem} (h : s.dueItem = some x) : exec .eventInputEffect s =
    .next ((({ s with events := s.events.erase x }).eventEntry x).applyItem x).dispatchNow := by
  rw [exec_eventInputEffect]
  unfold execEventInputEffect
  rw [h]

/-! ### Completion records (R403) -/

theorem exec_completionRecordRelease_some {s : State} {dt : Nat} {c : Completion}
    (h : s.completions.find? (s.elapse dt).releasable = some c) : exec (.completionRecordRelease dt) s =
      .next ({ s.elapse dt with completions := s.completions.erase c }.releaseTo c) := by
  rw [exec_completionRecordRelease]
  unfold execCompletionRecordRelease
  simp [h]

theorem exec_completionRecordRelease_none {s : State} {dt : Nat}
    (h : ∀ c ∈ s.completions, (s.elapse dt).releasable c = false) :
    exec (.completionRecordRelease dt) s = .next (s.elapse dt) := by
  have none : s.completions.find? (s.elapse dt).releasable = none :=
    List.find?_eq_none.mpr fun c k => by simp [h c k]
  rw [exec_completionRecordRelease]
  unfold execCompletionRecordRelease
  simp [none]

theorem mboxStat_row : findRow .auth R.AUTH.MBOX_STAT = some ⟨0xA04, 4, 1, 0, 0, 0, 0, 0xFFFF0003, [0]⟩ := by
  decide +kernel

theorem mboxData_row {w : Nat} (h : w < 8) : FullRow .auth (R.AUTH.MBOX_DATA w) := by
  have all : ∀ w : Fin 8, (findRow .auth (R.AUTH.MBOX_DATA w)).map RegRow.mask = some (2 ^ 32 - 1) := by decide +kernel
  exact .of (all ⟨w, h⟩)

theorem mboxWords_eq (s : State) (l : List Byte) :
    mboxWords s l = s.wrEach .auth R.AUTH.MBOX_DATA (fun _ w => leAt l (4 * w) 4) 8 := rfl

theorem mboxData_inj (a b : Nat) (h : R.AUTH.MBOX_DATA a = R.AUTH.MBOX_DATA b) : a = b := by
  unfold R.AUTH.MBOX_DATA at h
  omega

theorem leNat_lt (l : List Byte) : leNat l < 256 ^ l.length := by
  induction l with
  | nil => exact Nat.one_pos
  | cons b t ih =>
    unfold leNat
    rw [List.length_cons, Nat.pow_succ]
    have := b.isLt
    omega

/-- A field of `k` bytes is below 256 to the power `k`. -/
theorem leAt_lt (l : List Byte) (i k : Nat) : leAt l i k < 256 ^ k :=
  (leNat_lt _).trans_le (Nat.pow_le_pow_right (by decide) (List.length_take_le ..))

/-- STATUS and DONE of the mailbox. -/
theorem mboxStat_masked (v : Nat) :
    (BitVec.ofNat 32 (v * 65536 + 2) &&& BitVec.ofNat 32 0xFFFF0003).toNat = v % 2 ^ 16 * 65536 + 2 := by
  rw [BitVec.toNat_and, BitVec.toNat_ofNat, BitVec.toNat_ofNat,
    show (v * 65536 + 2) % 2 ^ 32 = v % 2 ^ 16 * 65536 + 2 by omega]
  generalize small : v % 2 ^ 16 = u
  have high : ((u * 65536 + 2) &&& 0xFFFF0003) / 2 ^ 16 = u := by
    rw [Nat.and_div_two_pow, show (u * 65536 + 2) / 2 ^ 16 = u by omega, show 0xFFFF0003 / 2 ^ 16 = 2 ^ 16 - 1 by decide,
      Nat.and_two_pow_sub_one_of_lt_two_pow (by omega)]
  have low : ((u * 65536 + 2) &&& 0xFFFF0003) % 2 ^ 16 = 2 := by
    rw [Nat.and_mod_two_pow, show (u * 65536 + 2) % 2 ^ 16 = 2 by omega]
    decide
  show (u * 65536 + 2) &&& 0xFFFF0003 = _
  omega

/-- The record of a mailbox command stands in the mailbox (R403). -/
theorem State.releaseTo_mailbox {s : State} {c : Completion} (h : c.path = .mailbox) :
    (s.releaseTo c).rdn .auth R.AUTH.MBOX_STAT = c.status % 2 ^ 16 * 65536 + 2 ∧
      ∀ w < 8, (s.releaseTo c).rdn .auth (R.AUTH.MBOX_DATA w) = leAt c.record (4 * w) 4 := by
  have mailbox : s.releaseTo c = (mboxWords s c.record).wrn .auth R.AUTH.MBOX_STAT (c.status * 65536 + 2) := by
    unfold State.releaseTo
    rw [h]
  rw [mailbox]
  refine ⟨?_, fun w small => ?_⟩
  · unfold State.rdn State.wrn
    rw [State.rd_wr_same _ mboxStat_row]
    exact mboxStat_masked c.status
  · rw [State.rdn_wrn_other (place_ne (by unfold R.AUTH.MBOX_STAT R.AUTH.MBOX_DATA; omega)), mboxWords_eq,
      State.wrEach_rdn s (fun _ _ _ _ => rfl) mboxData_inj small (mboxData_row small)]
    exact Nat.mod_eq_of_lt (leAt_lt c.record (4 * w) 4)

/-- The mailbox alone takes the record. -/
theorem State.releaseTo_mailbox_within (s : State) {c : Completion} (h : c.path = .mailbox) :
    Within 0x20000000000000 [] s (s.releaseTo c) := by
  have mailbox : s.releaseTo c = (mboxWords s c.record).wrn .auth R.AUTH.MBOX_STAT (c.status * 65536 + 2) := by
    unfold State.releaseTo
    rw [h]
  rw [mailbox]
  exact (mboxWords_within ..).trans ((State.wrn_within ..).kind rfl .auth rfl rfl)

end Sys2Proof.Machine
end

section
/-! SETTLEMENT. Event inputs at their effect tick (R67), and the release of completion records (R403). -/

open Sys2Proof Sys2Proof.Machine

/-- Settles O24: the fold over the inputs that are due keeps the earliest, and each command is one case of its meaning. -/
theorem eventInputsTakeEffectInOrder : Obligations.EventInputsTakeEffectInOrder := by
  refine ⟨fun s h => exec_eventInputEffect_none (State.dueItem_none h), fun s x h => State.dueItem_some h,
    fun s x h => exec_eventInputEffect_some h, ?_, ?_, ?_⟩
  · rintro dt s e c rfl found path
    have rest := State.releaseTo_mailbox_within { s.elapse dt with completions := s.completions.erase c } path
    obtain ⟨status, words⟩ := State.releaseTo_mailbox (s := { s.elapse dt with completions := s.completions.erase c }) path
    exact ⟨_, exec_completionRecordRelease_some found, rest.completions rfl, status, (rest.rings rfl).trans (s.elapse_rings dt),
      (rest.sent rfl).trans (s.elapse_sent dt), words⟩
  · rintro dt s e c rfl found
    exact exec_completionRecordRelease_some found
  · rintro dt s e rfl none
    exact exec_completionRecordRelease_none none

end

section
/-! SUPPORT. Forecasts as they are published (R69, R172), and a calibration at its deadline (R163). -/

namespace Sys2Proof.Machine

open Sys2Proof

/-! ### Publication of a forecast -/

theorem pcap_row {k : Nat} (h : k < 6) : FullRow .est (R.EST.PCAP k) := by
  have all : ∀ k : Fin 6, (findRow .est (R.EST.PCAP k)).map RegRow.mask = some (2 ^ 32 - 1) := by decide +kernel
  exact .of (all ⟨k, h⟩)

theorem pcap_inj (a b : Nat) (h : R.EST.PCAP a = R.EST.PCAP b) : a = b := by
  unfold R.EST.PCAP at h
  omega

/-- What PCAP word `k` shows (R160, R172). -/
def State.pcapShown (s : State) (k : Nat) : Nat :=
  if !s.est.fcDone || (s.est.chan.any (fun e => e.2.disSt = 3) && 3 ≤ k) then 0 else s.est.pcap.getD k 0

theorem State.showPcap_eq (s : State) : s.showPcap = (s.wrEach .est R.EST.PCAP
    (fun t k => if !t.est.fcDone || (s.est.chan.any (fun e => e.2.disSt = 3) && 3 ≤ k) then 0 else t.est.pcap.getD k 0)
    6).wrb .est R.EST.DCLAMP 6 (s.est.chan.any (fun e => e.2.disSt = 3)) := rfl

theorem State.showPcap_pcap (s : State) {k : Nat} (h : k < 6) :
    s.showPcap.rdn .est (R.EST.PCAP k) = s.pcapShown k % 2 ^ 32 := by
  rw [State.showPcap_eq, State.wrb, State.rdn_wrf_other (place_ne (by unfold R.EST.DCLAMP R.EST.PCAP; omega)),
    State.wrEach_rdn s (fun _ _ _ _ => by rw [State.wrn_est]) pcap_inj h (pcap_row h)]
  rfl

theorem State.rd_wr64_other {s : State} {p : Page} {lo hi u : Nat} (v : Nat) (low : lo ≠ u) (high : hi ≠ u) :
    (s.wr64 p lo hi v).rd p u = s.rd p u := by
  unfold State.wr64
  rw [State.wrn, State.rd_wr_other _ (place_ne high), State.wrn, State.rd_wr_other _ (place_ne low)]

theorem exec_forecastPublished_idle {s : State} (dt : Nat)
    (h : s.running .est = false ∨ s.est.fcRun = none ∨ s.est.fcStage = none) :
    exec (.forecastPublished dt) s = .next (s.elapse dt) := by
  rw [exec_forecastPublished]
  unfold execForecastPublished
  simp only [State.elapse_est, State.elapse_running]
  split
  · next run stage =>
    obtain off | none | none := h
    · simp [off]
    · simp [none] at run
    · simp [none] at stage
  · rfl

/-- The channels whose state the step before the search left (R69). -/
def State.fcLive (s : State) : List Nat := s.presentChans.filter (fun c => (sget {} s.est.fcChan c).live)

/-- What the search finds: of each direction and horizon the channels' capabilities and the string's (R171). -/
def State.fcResults (s : State) : List (List (Nat × Nat) × Nat) :=
  let one := fun (chg : Bool) (h : Rat) =>
    forecastOne (s.fcLive.map s.fcStart) (s.rdn .est (if chg then R.EST.IMAX_CHG else R.EST.IMAX_DIS)) chg h
  horizons.map (one true) ++ horizons.map (one false)

/-- The channels' capabilities of period `f`. -/
def State.fcChannels (s : State) (f : Nat) : State :=
  s.fcLive.foldl (fun t c => t.modChan c (fun v => { v with
    fcPeriod := f
    pcap := s.fcResults.map (fun r => ((r.1.find? (fun e => e.1 = c)).map (·.2)).getD 0 % 2 ^ 32) })) s

/-- The string's capabilities take the place of the last ones. -/
def State.fcTaken (s : State) (f : Nat) : State :=
  let t := s.fcChannels f
  { t with est := { t.est with fcRun := none, fcDone := true, pcap := s.fcResults.map Prod.snd } }

/-- An update of the estimator beside its parameter-set memory. -/
theorem Within.setEst (s : State) {e : EstSt} (h : e.ps = s.est.ps) : Within 0x10000 [] s { s with est := e } :=
  { Within.refl s with est := nofun, psm := fun _ => h }

theorem State.fcTaken_within (s : State) (f : Nat) : Within 0x10000 [] s (s.fcTaken f) := by
  have channels : Within 0x10000 [] s (s.fcChannels f) := .foldl (.refl s) fun t c h => h.trans (State.modChan_within ..)
  unfold State.fcTaken
  generalize s.fcChannels f = t at channels ⊢
  exact channels.trans (Within.setEst t rfl)

theorem State.fcTaken_pcap_length (s : State) (f : Nat) : (s.fcTaken f).est.pcap.length = 6 := by
  unfold State.fcTaken State.fcResults
  simp [horizons]

theorem fcLo_row : FullRow .est R.EST.FC_LO := .of (by decide +kernel)

theorem fcHi_row : FullRow .est R.EST.FC_HI := .of (by decide +kernel)

/-- The capabilities and their period are shown, and source 195 asserts (R172). -/
def State.forecastShown (s : State) (f : Nat) : State := (s.showPcap.wr64 .est R.EST.FC_LO R.EST.FC_HI f).edgeSource 195

theorem State.forecastShown_within (s : State) (f : Nat) : Within 0x10008000000000080 [] s (s.forecastShown f) :=
  ((State.showPcap_within s).mono rfl).trans
    (((State.wr64_within ..).kind rfl .est rfl rfl).trans ((State.edgeSource_within ..).mono rfl))

theorem State.forecastShown_rd (s : State) (f : Nat) {o : Nat} (h : o < 0x1000) :
    (s.forecastShown f).rd .est o = (s.showPcap.wr64 .est R.EST.FC_LO R.EST.FC_HI f).rd .est o :=
  State.edgeSource_rd _ _ (flags_place_ne (by decide) h)

theorem State.forecastShown_period (s : State) (f : Nat) :
    (s.forecastShown f).rd64 .est R.EST.FC_LO R.EST.FC_HI = f % 2 ^ 64 := by
  rw [State.rd64_of_reads (s.forecastShown_rd f (by decide)) (s.forecastShown_rd f (by decide)),
    fcLo_row.rd64_wr64 fcHi_row f (by decide)]

theorem State.forecastShown_pcap (s : State) (f : Nat) {k : Nat} (h : k < 6) :
    (s.forecastShown f).rdn .est (R.EST.PCAP k) = s.pcapShown k % 2 ^ 32 := by
  rw [← s.showPcap_pcap h]
  refine congrArg BitVec.toNat ((s.forecastShown_rd f (by unfold R.EST.PCAP; omega)).trans ?_)
  exact State.rd_wr64_other f (by unfold R.EST.FC_LO R.EST.PCAP; omega) (by unfold R.EST.FC_HI R.EST.PCAP; omega)

theorem exec_forecastPublished_done {s : State} (dt : Nat) {f : Nat} (run : s.running .est = true)
    (searched : s.est.fcRun = some f) (stage : s.est.fcStage = some (100 * f + 99)) : exec (.forecastPublished dt) s =
      .next (((s.elapse dt).fcTaken f).forecastShown f) := by
  have searched' : (s.elapse dt).est.fcRun = some f := by rw [State.elapse_est, searched]
  have stage' : (s.elapse dt).est.fcStage = some (100 * f + 99) := by rw [State.elapse_est, stage]
  rw [exec_forecastPublished]
  unfold execForecastPublished
  extract_lets e
  rw [searched', stage']
  dsimp only
  rw [if_neg (by simp [e, run])]
  unfold State.forecastShown State.fcTaken State.fcChannels State.fcResults State.fcLive
  dsimp only

/-! ### A calibration at its deadline -/

/-- The phase of a channel that has not finished when the deadline comes: it has failed. -/
def calExpired (n : Nat) : Nat := if 1 ≤ n ∧ n ≤ 3 then 5 else n

theorem calExpired_idem (n : Nat) : calExpired (calExpired n) = calExpired n := by
  unfold calExpired
  split <;> simp_all

theorem calExpired_over (n : Nat) : ¬(1 ≤ calExpired n ∧ calExpired n ≤ 3) := by
  unfold calExpired
  split <;> omega

/-- A channel at the deadline: it fails if it has not finished. -/
def State.calExpire (s : State) (c : Nat) : State :=
  if 1 ≤ (s.chanEst c).calph && (s.chanEst c).calph ≤ 3 then s.calFail c 0 else s

theorem State.chanEst_of_est {s t : State} (h : t.est = s.est) (c : Nat) : t.chanEst c = s.chanEst c := by
  unfold State.chanEst
  rw [h]

theorem State.chanEst_modChan_same (s : State) (c : Nat) (f : ChanEst → ChanEst) :
    (s.modChan c f).chanEst c = f (s.chanEst c) := sget_sset_same ..

theorem State.chanEst_modChan_other (s : State) {c d : Nat} (f : ChanEst → ChanEst) (h : d ≠ c) :
    (s.modChan c f).chanEst d = s.chanEst d := sget_sset_other _ _ _ _ h

theorem State.calFail_chanEst (s : State) (c : Nat) (x : Int) (d : Nat) :
    (s.calFail c x).chanEst d = (s.modChan c (fun v => { v with calph := 5 })).chanEst d :=
  State.chanEst_of_est ((State.learnEvent_within ..).est_same rfl rfl) d

theorem State.calExpire_calph (s : State) (c d : Nat) :
    ((s.calExpire c).chanEst d).calph = if d = c then calExpired (s.chanEst d).calph else (s.chanEst d).calph := by
  unfold State.calExpire
  split
  · next open_ =>
    rw [State.calFail_chanEst]
    split
    · next same =>
      subst same
      rw [State.chanEst_modChan_same]
      exact (if_pos (by simpa using open_)).symm
    · next other => rw [State.chanEst_modChan_other _ _ other]
  · next done =>
    split
    · next same =>
      subst same
      exact (if_neg (by simpa using done)).symm
    · rfl

theorem State.calExpire_within (s : State) (c : Nat) : Within 0x10000000000010000 [] s (s.calExpire c) :=
  .ite (State.calFail_within ..) (.refl s)

theorem State.calExpire_calStat (s : State) (c : Nat) :
    (s.calExpire c).rdf .est R.EST.CAL_STAT 1 0 = s.rdf .est R.EST.CAL_STAT 1 0 := by
  unfold State.calExpire
  split
  · unfold State.calFail State.learnEvent State.rdf
    rw [State.wrn, State.rd_wr_other _ (place_ne (by decide)), State.wrn, State.rd_wr_other _ (place_ne (by decide))]
    rfl
  · rfl

section
variable (s : State) (l : List Nat)

theorem State.calExpireAll_within : Within 0x10000000000010000 [] s (l.foldl State.calExpire s) :=
  .foldl (.refl s) fun t c h => h.trans (State.calExpire_within t c)

theorem State.calExpireAll_calStat :
    (l.foldl State.calExpire s).rdf .est R.EST.CAL_STAT 1 0 = s.rdf .est R.EST.CAL_STAT 1 0 := by
  induction l generalizing s with
  | nil => rfl
  | cons c l ih => exact (ih _).trans (s.calExpire_calStat c)

theorem State.calExpireAll_calph (d : Nat) : ((l.foldl State.calExpire s).chanEst d).calph =
    if d ∈ l then calExpired (s.chanEst d).calph else (s.chanEst d).calph := by
  induction l generalizing s with
  | nil => rfl
  | cons c l ih =>
    rw [List.foldl_cons, ih, State.calExpire_calph]
    by_cases same : d = c <;> by_cases mem : d ∈ l <;> simp [same, mem, calExpired_idem]

end

/-- What leaves the rings' configuration leaves the channels present. -/
theorem State.presentChans_of_within {K : Nat} {s t : State} (h : Within K [] s t) (k : K.testBit 61 = false) :
    t.presentChans = s.presentChans := by
  have each (c : Nat) : t.present c = s.present c := by
    unfold State.present State.rdf
    rw [h.regs (.sns (chanRing c)) (by simp) k R.SNS.CFG (by decide)]
  exact congrArg (fun f => (List.range 512).filter f) (funext each)

theorem State.calShow_calStat (s : State) : s.calShow.rdf .est R.EST.CAL_STAT 1 0 = s.rdf .est R.EST.CAL_STAT 1 0 := by
  unfold State.calShow
  rw [State.rdf_wrf_disjoint _ calStat_row (by decide) calStat_state_full (by decide),
    State.rdf_wrf_disjoint _ calStat_row (by decide) calStat_state_full (by decide)]

/-- With no channel left in a phase of it, a calibration that runs ends. -/
theorem State.calFinish_state {s : State} {n : Nat} (small : n < 4) (runs : s.rdf .est R.EST.CAL_STAT 1 0 = 1)
    (none : ∀ c ∈ s.presentChans, ¬(1 ≤ (s.chanEst c).calph ∧ (s.chanEst c).calph ≤ 3)) :
    (s.calFinish n).rdf .est R.EST.CAL_STAT 1 0 = n := by
  have shown := s.calShow_within
  have finished : s.calShow.calCount (fun p => 1 ≤ p && p ≤ 3) = 0 := by
    unfold State.calCount
    rw [State.presentChans_of_within shown rfl, List.length_eq_zero_iff, List.filter_eq_nil_iff]
    intro c k
    rw [State.chanEst_of_est (shown.est_same rfl rfl)]
    simpa using none c k
  unfold State.calFinish
  simp only [State.calShow_calStat, runs, finished, Bool.and_self, decide_true, if_true]
  unfold State.rdf
  rw [(State.record_within ..).regs .est (by simp) rfl _ (by decide), State.wrb, State.wrf,
    State.rd_wr_other _ (place_ne (by decide))]
  exact (State.rdf_wrf_same n calStat_row (by decide) calStat_state_full).trans (Nat.mod_eq_of_lt small)

theorem exec_calibrationDeadline_due {s : State} {dt : Nat} (runs : s.rdf .est R.EST.CAL_STAT 1 0 = 1)
    (due : s.rd64 .est R.EST.CAL_END_LO R.EST.CAL_END_HI ≤ (s.elapse dt).mt) :
    exec (.calibrationDeadline dt) s =
      .next (((s.elapse dt).presentChans.foldl State.calExpire (s.elapse dt)).calFinish 3) := by
  rw [exec_calibrationDeadline]
  unfold execCalibrationDeadline
  exact if_pos (by simpa [runs, State.rd64] using due)

theorem exec_calibrationDeadline_early {s : State} {dt : Nat} (h : s.rdf .est R.EST.CAL_STAT 1 0 ≠ 1 ∨
    (s.elapse dt).mt < s.rd64 .est R.EST.CAL_END_LO R.EST.CAL_END_HI) :
    exec (.calibrationDeadline dt) s = .next (s.elapse dt) := by
  rw [exec_calibrationDeadline]
  unfold execCalibrationDeadline
  refine if_neg fun due => ?_
  simp only [State.elapse_rdf, State.rd64, State.elapse_rdn, Bool.and_eq_true, decide_eq_true_eq] at due
  exact h.elim (fun k => k due.1) fun k => Nat.not_le.mpr k due.2

end Sys2Proof.Machine
end

section
/-! SETTLEMENT. Forecasts (R69, R171, R172), and a calibration that is not done by its deadline (R163). -/

open Sys2Proof Sys2Proof.Machine

/-- Settles O33: what each command shows stands in registers that nothing after it in the command stores. -/
theorem forecastsAndCalibrationComplete : Obligations.ForecastsAndCalibrationComplete := by
  refine ⟨fun s run whole late => ?_, fun s h => ?_, fun dt s f run searched stage => ?_,
    fun dt s h => exec_forecastPublished_idle dt h, fun dt s runs due => ?_, fun dt s h => exec_calibrationDeadline_early h⟩
  · rw [exec_forecastBoundary]
    exact if_pos (by simp [run, whole, late])
  · rw [exec_forecastBoundary]
    exact if_neg (by simp only [Bool.and_eq_true, decide_eq_true_eq]; rintro ⟨⟨a, b⟩, c⟩; simp_all)
  · have taken := (s.elapse dt).fcTaken_within f
    have six := (s.elapse dt).fcTaken_pcap_length f
    have done := exec_forecastPublished_done dt run searched stage
    have isDone : ((s.elapse dt).fcTaken f).est.fcDone = true := rfl
    have noRun : ((s.elapse dt).fcTaken f).est.fcRun = none := rfl
    generalize (s.elapse dt).fcTaken f = u at taken six done isDone noRun
    have shown := u.forecastShown_within f
    have all : Within 0x10008000000010080 [] (s.elapse dt) (u.forecastShown f) :=
      (taken.mono rfl).trans (shown.mono rfl)
    have est := shown.est_same rfl rfl
    refine ⟨_, done, by rw [est, noRun], by rw [est, isDone], u.forecastShown_period f, by rw [est, six],
      State.edgeSource_pend _ _ (by decide) (by decide), fun k small => ?_,
      (all.mode_same rfl).trans (s.elapse_mode dt), (all.prot_same rfl rfl).trans (s.elapse_prot dt)⟩
    have valid : u.pcapShown k = u.est.pcap.getD k 0 := if_neg (by simp [isDone]; omega)
    rw [est, u.forecastShown_pcap f (by omega), valid]
  · have expired := (s.elapse dt).calExpireAll_within (s.elapse dt).presentChans
    have present := State.presentChans_of_within expired rfl
    have calph := (s.elapse dt).calExpireAll_calph (s.elapse dt).presentChans
    have same := State.presentChans_of_within (s.elapse_within dt) rfl
    have done := State.calFinish_within ((s.elapse dt).presentChans.foldl State.calExpire (s.elapse dt)) 3
    refine ⟨_, exec_calibrationDeadline_due runs due, State.calFinish_state (by decide) ?_ ?_, fun c mem => ?_, ?_, ?_⟩
    · rw [State.calExpireAll_calStat, State.elapse_rdf, runs]
    · rw [present]
      intro c mem
      rw [calph, if_pos mem]
      exact calExpired_over _
    · rw [State.chanEst_of_est (done.est_same rfl rfl), calph, if_pos (by rwa [same]), State.chanEst_of_est (s.elapse_est dt)]
      rfl
    · exact (done.mode_same rfl).trans ((expired.mode_same rfl).trans (s.elapse_mode dt))
    · exact (done.jrn rfl).trans ((expired.jrn rfl).trans (s.elapse_jrn dt))

end

section
/-! SUPPORT. Module time as it passes (R54, R55), and registers that hold a signed value (R7). -/

namespace Sys2Proof.Machine

open Sys2Proof

/-! ### Module time -/

theorem SysSt.pulseEnd_mt (y : SysSt) : y.pulseEnd.mt = y.mt := by
  unfold SysSt.pulseEnd
  repeat' split
  all_goals rfl

theorem SysSt.atMt_mt (y : SysSt) (mt : Nat) : (y.atMt mt).mt = mt := by
  unfold SysSt.atMt
  rw [SysSt.pulseEnd_mt]
  repeat' split
  all_goals rfl

@[simp] theorem State.atMt_mt (s : State) (mt : Nat) : (s.atMt mt).mt = mt := SysSt.atMt_mt ..

/-- MT does not count in RESET, and never passes the tick (R54, R55). -/
theorem State.elapse_mt (s : State) (dt : Nat) : (s.elapse dt).mt =
    if s.mode = .reset then s.mt else min (s.mt + dt) (s.mt / 500000 * 500000 + 499999) := by
  unfold State.elapse
  split
  · rfl
  · exact State.atMt_mt ..

theorem State.mt_le_elapse (s : State) (dt : Nat) : s.mt ≤ (s.elapse dt).mt := by
  rw [State.elapse_mt]
  split <;> omega

@[simp] theorem State.elapse_tick (s : State) (dt : Nat) : (s.elapse dt).tick = s.tick := by
  show (s.elapse dt).mt / 500000 = s.mt / 500000
  rw [State.elapse_mt]
  split <;> omega

/-- What leaves MT leaves the tick. -/
theorem Within.mt_same {K : Nat} {ps : List Page} {s t : State} (h : Within K ps s t) (k : K.testBit 1 = false) :
    t.mt = s.mt := h.mt k

theorem Within.tick_same {K : Nat} {ps : List Page} {s t : State} (h : Within K ps s t) (k : K.testBit 1 = false) :
    t.tick = s.tick := congrArg (· / 500000) (h.mt_same k)

/-! ### Signed values -/

/-- A value in the range of `w + 1` bits is what its two's complement reads as. -/
theorem signed_unsign {w : Nat} {x : Int} (lo : -(2 ^ w : Nat) ≤ x) (hi : x < (2 ^ w : Nat)) :
    signed (w + 1) (unsign (w + 1) x) = x := by
  unfold signed unsign
  rw [Nat.pow_succ]
  generalize 2 ^ w = m at *
  have full : ((x % ((m * 2 : Nat) : Int)).toNat) % (m * 2) = (x % ((m * 2 : Nat) : Int)).toNat := by
    refine Nat.mod_eq_of_lt ?_
    have := Int.emod_lt_of_pos x (show (0 : Int) < (m * 2 : Nat) by omega)
    have := Int.emod_nonneg x (show ((m * 2 : Nat) : Int) ≠ 0 by omega)
    omega
  rw [full]
  by_cases neg : x < 0
  · have : x % ((m * 2 : Nat) : Int) = x + (m * 2 : Nat) := by
      rw [← Int.add_emod_right, Int.emod_eq_of_lt (by omega) (by omega)]
    rw [this, if_neg (by omega)]
    omega
  · rw [Int.emod_eq_of_lt (by omega) (by omega), if_pos (by omega)]
    omega

theorem FullRow.rdi_wri {s : State} {p : Page} {o : Nat} (h : FullRow p o) (v : Int) :
    (s.wri p o v).rdi p o = signed 32 (unsign 32 v) := by
  have stored := h.rdn_wrn (s := s) (unsign 32 v)
  show signed 32 ((s.wrn p o (unsign 32 v)).rdn p o) = _
  rw [stored]
  unfold signed
  rw [Nat.mod_mod]

theorem clampI_mem {lo hi : Int} (h : lo ≤ hi) (x : Int) : lo ≤ clampI lo hi x ∧ clampI lo hi x ≤ hi := by
  unfold clampI
  split
  · omega
  · split <;> omega

theorem State.rdi_of_rd {s t : State} {p : Page} {o : Nat} (h : t.rd p o = s.rd p o) : t.rdi p o = s.rdi p o := by
  unfold State.rdi
  rw [h]

end Sys2Proof.Machine
end

section
/-! SUPPORT. The outputs of the filters (R62, R116, R117, R239). -/

namespace Sys2Proof.Machine

open Sys2Proof

/-- An output of at most 31 fraction bits reads back from its register. -/
theorem FullRow.rdi_filterOut {s : State} {p : Page} {o : Nat} (h : FullRow p o) (acc : Int) (den : Nat) (offs : Int) {n : Nat}
    (small : n ≤ 31) : (s.wri p o (filterOut acc den offs n)).rdi p o = filterOut acc den offs n := by
  have pow : 2 ^ n ≤ 2 ^ 31 := Nat.pow_le_pow_right (by decide) small
  have pos : 0 < 2 ^ n := Nat.two_pow_pos n
  obtain ⟨lo, hi⟩ := clampI_mem (lo := -(2 ^ n : Nat)) (hi := (2 ^ n : Nat) - 1) (by omega)
    (roundAway (((acc : Rat) / den - qv 31 offs) * ((2 ^ n : Nat) : Rat)))
  rw [h.rdi_wri]
  refine signed_unsign (w := 31) (le_trans ?_ lo) (lt_of_le_of_lt hi ?_) <;> omega

theorem tsmp_row (n : Fin 12) : FullRow .mod (R.MOD.TSMP n.val) := by
  have all : ∀ n : Fin 12, (findRow .mod (R.MOD.TSMP n.val)).map RegRow.mask = some (2 ^ 32 - 1) := by decide +kernel
  exact .of (all n)

theorem fsmp_row (n : Fin 12) : FullRow .mod (R.MOD.FSMP n.val) := by
  have all : ∀ n : Fin 12, (findRow .mod (R.MOD.FSMP n.val)).map RegRow.mask = some (2 ^ 32 - 1) := by decide +kernel
  exact .of (all n)

theorem tsmpTickLo_row : FullRow .mod R.MOD.TSMP_TICK_LO := .of (by decide +kernel)

theorem tsmpTickHi_row : FullRow .mod R.MOD.TSMP_TICK_HI := .of (by decide +kernel)

theorem State.modIn_of_mod {s t : State} (h : t.mod = s.mod) (n : Nat) : t.modIn n = s.modIn n := by
  unfold State.modIn
  rw [h]

theorem State.modIn_setModIn_same (s : State) (n : Nat) (v : ModIn) : (s.setModIn n v).modIn n = v := sget_sset_same ..

theorem State.modIn_setModIn_other (s : State) {n m : Nat} (v : ModIn) (h : m ≠ n) : (s.setModIn n v).modIn m = s.modIn m :=
  sget_sset_other _ _ _ _ h

/-! ### The sample of a tick -/

/-- A sample counts when its bits were all valid (R117). -/
def State.sampleGood (s : State) (n : Nat) : Bool := (s.modIn n).valid && (s.modIn n).validFrom + 2 ≤ s.tick

/-- The sample of the running tick and its tick are shown (R239). -/
def State.sampleShown (s : State) (n : Nat) (y : Int) : State :=
  (s.wri .mod (R.MOD.TSMP n) y).wr64 .mod R.MOD.TSMP_TICK_LO R.MOD.TSMP_TICK_HI s.tick

/-- One that counts is kept. -/
def State.sampleKept (s : State) (n : Nat) (y : Int) : State :=
  if s.sampleGood n then
    (s.sampleShown n y).setModIn n { (s.sampleShown n y).modIn n with tsmp := some (s.tick, y) }
  else s.sampleShown n y

/-- What follows from a sample: quiet ticks, the string current of balancing, the slow comparators, and protection
(R70, R239). -/
def State.sampleFollows (s : State) (n : Nat) (y : Int) (tick : Nat) (good : Bool) : State :=
  let ma := s.sampleMa n y
  let s := if n < 2 then s.quietSample tick n (good && decide (absR ma < (s.restMa : Rat))) else s
  let s := if n = s.rdf .chg R.CHG.CFG 0 0 then s.istrSample tick (if good then some ma else none) else s
  let s := if good && n < 2 then s.slowCompare n ma else s
  s.protEval

theorem State.sampleFollows_within (s : State) (n : Nat) (y : Int) (tick : Nat) (good : Bool) :
    Within 0x6321808000181e80a80 [] s (s.sampleFollows n y tick good) := by
  unfold State.sampleFollows
  extract_lets ma quiet current slow
  have toQuiet : Within 0x6321808000181e80a80 [] s quiet := .ite ((State.quietSample_within ..).mono rfl) (.refl s)
  have toCurrent : Within 0x6321808000181e80a80 [] s current :=
    .ite (toQuiet.trans ((State.istrSample_within ..).mono rfl)) toQuiet
  have toSlow : Within 0x6321808000181e80a80 [] s slow :=
    .ite (toCurrent.trans ((State.slowCompare_within ..).mono rfl)) toCurrent
  exact toSlow.trans ((State.protEval_within _).mono rfl)

section
variable {s : State} {dt : Nat} (n : Fin 12) (w : BitWindow)

theorem exec_stagePathSample_late (run : s.running .mod = true) (en : s.modEn n.val = true)
    (ended : 499950 ≤ (s.elapse dt).mt % 500000) : exec (.stagePathSample dt n w) s =
      .next (((s.elapse dt).sampleKept n.val ((s.elapse dt).stageOut n.val (sinc3Sum w 10000))).sampleFollows n.val
        ((s.elapse dt).stageOut n.val (sinc3Sum w 10000)) (s.elapse dt).tick ((s.elapse dt).sampleGood n.val)) := by
  have enabled : (s.elapse dt).modEn n.val = true := by
    unfold State.modEn at en ⊢
    rw [State.elapse_rdb, en]
  rw [exec_stagePathSample]
  exact if_neg (by simp [run, enabled, ended])

theorem exec_stagePathSample_early
    (h : s.running .mod = false ∨ s.modEn n.val = false ∨ (s.elapse dt).mt % 500000 < 499950) :
    exec (.stagePathSample dt n w) s = .next (s.elapse dt) := by
  have enabled : (s.elapse dt).modEn n.val = s.modEn n.val := by
    unfold State.modEn
    rw [State.elapse_rdb]
  rw [exec_stagePathSample]
  exact if_pos (by simpa [enabled, or_assoc] using h)

end

section
variable (s : State) (n : Fin 12) (y : Int)

theorem State.sampleShown_mod : (s.sampleShown n.val y).mod = s.mod := by
  unfold State.sampleShown
  rw [State.wr64_mod, State.wri_mod]

theorem State.sampleKept_regs : (s.sampleKept n.val y).regs = (s.sampleShown n.val y).regs := by
  unfold State.sampleKept
  split <;> rfl

theorem State.sampleKept_within : Within 0x2000 [.mod] s (s.sampleKept n.val y) := by
  have shown : Within 0x2000 [.mod] s (s.sampleShown n.val y) :=
    ((State.wri_within ..).page rfl).trans ((State.wr64_within ..).page rfl)
  exact .ite (shown.trans ((State.setModIn_within ..).mono rfl)) shown

theorem State.sampleKept_same : (s.sampleKept n.val y).modIn n.val =
    { s.modIn n.val with tsmp := if s.sampleGood n.val then some (s.tick, y) else (s.modIn n.val).tsmp } := by
  have shown := State.modIn_of_mod (s.sampleShown_mod n y) n.val
  unfold State.sampleKept
  split
  · rw [State.modIn_setModIn_same, shown]
  · exact shown

theorem State.sampleKept_other {m : Nat} (h : m ≠ n.val) : (s.sampleKept n.val y).modIn m = s.modIn m := by
  have shown := State.modIn_of_mod (s.sampleShown_mod n y) m
  unfold State.sampleKept
  split
  · rw [State.modIn_setModIn_other _ _ h, shown]
  · exact shown

theorem State.sampleKept_tick :
    (s.sampleKept n.val y).rd64 .mod R.MOD.TSMP_TICK_LO R.MOD.TSMP_TICK_HI = s.tick % 2 ^ 64 := by
  have regs := s.sampleKept_regs n y
  rw [State.rd64_of_reads (s := s.sampleShown n.val y) (by unfold State.rd; rw [regs]) (by unfold State.rd; rw [regs])]
  exact tsmpTickLo_row.rd64_wr64 tsmpTickHi_row _ (by decide)

theorem State.sampleKept_value : (s.sampleKept n.val y).rdi .mod (R.MOD.TSMP n.val) =
    (s.wri .mod (R.MOD.TSMP n.val) y).rdi .mod (R.MOD.TSMP n.val) := by
  have regs := s.sampleKept_regs n y
  refine State.rdi_of_rd (Eq.trans (b := (s.sampleShown n.val y).rd .mod (R.MOD.TSMP n.val)) ?_ ?_)
  · unfold State.rd
    rw [regs]
  · exact State.rd_wr64_other _ (by unfold R.MOD.TSMP_TICK_LO R.MOD.TSMP; omega)
      (by unfold R.MOD.TSMP_TICK_HI R.MOD.TSMP; omega)

end

/-! ### The fast filters -/

/-- A fast output is registered, and kept where every bit of its window was valid (R117). -/
def State.fastKept (s : State) (n : Nat) (y : Int) : State :=
  (s.wri .mod (R.MOD.FSMP n) y).setModIn n { (s.wri .mod (R.MOD.FSMP n) y).modIn n with
    fsmp := if s.supported n s.fastBit 64 then some y else none
    fastBit := s.fastBit }

/-- A valid output of an input that has a comparator is compared (R238). -/
def State.fastFollows (s : State) (n : Nat) (y : Int) (good : Bool) : State := if good && n < 4 then s.fastCompare n y else s

theorem State.fastFollows_within (s : State) (n : Nat) (y : Int) (good : Bool) :
    Within 0x6321808000181e00280 [] s (s.fastFollows n y good) := .ite (State.fastCompare_within ..) (.refl s)

section
variable {s : State} {n : Fin 12} {w : BitWindow}

theorem State.fastOutput_due (run : s.running .mod = true) (en : s.modEn n.val = true) (soon : (s.mt + 50) % 1600 ≤ 70)
    (new : (s.modIn n.val).fastBit < s.fastBit) : s.fastOutput n.val w =
      (s.fastKept n.val (s.fastOut n.val (sinc2Sum w 32))).fastFollows n.val (s.fastOut n.val (sinc2Sum w 32))
        (s.supported n.val s.fastBit 64) :=
  if_neg (by simp [run, en]; omega)

theorem State.fastOutput_idle (h : s.running .mod = false ∨ s.modEn n.val = false ∨ 70 < (s.mt + 50) % 1600 ∨
    s.fastBit ≤ (s.modIn n.val).fastBit) : s.fastOutput n.val w = s :=
  if_pos (by simpa [or_assoc] using h)

end

section
variable (s : State) (n : Fin 12) (y : Int)

theorem State.fastKept_within : Within 0x2000 [.mod] s (s.fastKept n.val y) :=
  ((State.wri_within ..).page rfl).trans ((State.setModIn_within ..).mono rfl)

theorem State.fastKept_same : (s.fastKept n.val y).modIn n.val = { s.modIn n.val with
    fsmp := if s.supported n.val s.fastBit 64 then some y else none
    fastBit := s.fastBit } := by
  unfold State.fastKept
  rw [State.modIn_setModIn_same, State.modIn_of_mod (State.wri_mod ..)]

theorem State.fastKept_other {m : Nat} (h : m ≠ n.val) : (s.fastKept n.val y).modIn m = s.modIn m := by
  unfold State.fastKept
  rw [State.modIn_setModIn_other _ _ h, State.modIn_of_mod (State.wri_mod ..)]

end

end Sys2Proof.Machine
end

section
/-! SUPPORT. Host writes that are event inputs (R67, R222, R281, R282). -/

namespace Sys2Proof.Machine

open Sys2Proof

/-- Each of these commands is a host write that an active takes as an event input. -/
theorem exec_of_eventWriteOf {c : Instr} {dt : Nat} {p : Page} {o : Nat} {v : Word} (h : eventWriteOf c = some (dt, p, o, v))
    (s : State) : exec c s = .next ((s.elapse dt).hostDo p fun s => s.hostEvent p o v) := by
  unfold eventWriteOf at h
  split at h <;> cases h
  · exact exec_tripRelease ..
  · exact exec_manSet ..
  · exact exec_manClr ..
  · exact exec_spHostWrite ..
  · exact exec_measWrite ..
  · exact exec_dutyWrite ..
  · exact exec_dispSpWrite ..
  · exact exec_tcoolWrite ..

theorem State.elapse_acceptsEvents (s : State) (dt : Nat) : (s.elapse dt).acceptsEvents = s.acceptsEvents := by
  unfold State.acceptsEvents
  simp

theorem State.sendFrame_mseqOut (s : State) (type : Nat) (payload : List Byte) :
    (s.sendFrame type payload).tdm.mseqOut = s.tdm.mseqOut := by
  unfold State.sendFrame
  split <;> rfl

theorem State.mirrorItem_mseqOut (s : State) (kind effect : Nat) (content : List Byte) :
    (s.mirrorItem kind effect content).tdm.mseqOut = max s.tdm.mseqOut s.tdm.mseqIn + 1 :=
  State.sendFrame_mseqOut ..

theorem State.sendFrame_regs (s : State) (type : Nat) (payload : List Byte) : (s.sendFrame type payload).regs = s.regs := by
  unfold State.sendFrame
  split <;> rfl

theorem State.acceptEvent_regs (s : State) (kind : Nat) (content : List Byte) : (s.acceptEvent kind content).regs = s.regs :=
  State.sendFrame_regs ..

/-- An accepted input waits for the tick after next with the next MSEQ. -/
theorem State.acceptEvent_events (s : State) (kind : Nat) (content : List Byte) : (s.acceptEvent kind content).events =
    s.events ++ [⟨max s.tdm.mseqOut s.tdm.mseqIn + 1, kind, s.tick + 2, content⟩] := by
  have rest := State.mirrorItem_within s kind (s.tick + 2) content
  unfold State.acceptEvent
  simp only [State.mirrorItem_mseqOut, rest.events rfl, rest.tick_same rfl]

theorem State.acceptEvent_mseqOut (s : State) (kind : Nat) (content : List Byte) :
    (s.acceptEvent kind content).tdm.mseqOut = max s.tdm.mseqOut s.tdm.mseqIn + 1 := State.mirrorItem_mseqOut ..

theorem State.hostEvent_accepted {s : State} (p : Page) (o : Nat) (v : Word) (h : s.acceptsEvents = true) :
    s.hostEvent p o v = s.acceptEvent 0x0001 (leBytes 4 (p.base + o) ++ leBytes 4 v.toNat) := if_pos h

theorem State.hostEvent_discarded {s : State} (p : Page) (o : Nat) (v : Word) (h : s.acceptsEvents = false) :
    s.hostEvent p o v = s := if_neg (by simp [h])

end Sys2Proof.Machine
end

section
/-! SETTLEMENT. Filter outputs (R62, R116, R117, R239), and writes of event-input registers (R67, R222, R281, R282). -/

open Sys2Proof Sys2Proof.Machine

/-- Settles O39: the output is registered first, and nothing that follows from it touches the inputs or their page; an
accepted write does no more than queue and mirror its item. -/
theorem filtersAndEventWritesComplete : Obligations.FiltersAndEventWritesComplete := by
  refine ⟨⟨?_, fun dt n w s h => exec_stagePathSample_early n w h, ?_, ?_⟩, ?_⟩
  · rintro dt n w s y run en ended rfl
    have out : (s.elapse dt).stageOut n.val (sinc3Sum w 10000) =
        filterOut (sinc3Sum w 10000) (10000 ^ 3) (s.rdi .mod (R.MOD.IN_OFFS n.val)) 31 := by
      unfold State.stageOut
      rw [State.elapse_rdi]
    have done := exec_stagePathSample_late n w run en ended
    rw [out] at done
    generalize value : filterOut (sinc3Sum w 10000) (10000 ^ 3) (s.rdi .mod (R.MOD.IN_OFFS n.val)) 31 = y at done
    have rest := State.sampleFollows_within ((s.elapse dt).sampleKept n.val y) n.val y (s.elapse dt).tick
      ((s.elapse dt).sampleGood n.val)
    have read {o : Nat} (h : o < 0x1000) := rest.regs .mod (by simp) rfl o h
    have ins := State.modIn_of_mod (rest.mod rfl)
    refine ⟨_, done, ?_, ?_, ?_, ?_, fun m other => ?_⟩
    · rw [State.rdi_of_rd (read (by unfold R.MOD.TSMP; omega)), State.sampleKept_value, ← value]
      exact (tsmp_row n).rdi_filterOut _ _ _ (by decide)
    · rw [State.rd64_of_reads (read (by decide)) (read (by decide)), State.sampleKept_tick, State.elapse_tick]
    · exact (rest.mode_same rfl).trans ((State.sampleKept_within ..).mode_same rfl |>.trans (s.elapse_mode dt))
    · rw [ins, State.sampleKept_same]
      exact if_congr (by simp [State.sampleGood, State.modIn]) (by rw [State.elapse_tick])
        (congrArg ModIn.tsmp (State.modIn_of_mod (s.elapse_mod dt) _))
    · rw [ins, State.sampleKept_other _ _ _ other, State.modIn_of_mod (s.elapse_mod dt)]
  · rintro dt n w s e y rfl run en soon new rfl
    have out : (s.elapse dt).fastOut n.val (sinc2Sum w 32) =
        filterOut (sinc2Sum w 32) (32 ^ 2) (s.rdi .mod (R.MOD.IN_OFFS n.val)) 15 := by
      unfold State.fastOut
      rw [State.elapse_rdi]
    have done := State.fastOutput_due (s := s.elapse dt) (w := w) (n := n) (by simpa using run)
      (by simpa [State.modEn] using en) soon (by simpa [State.modIn] using new)
    rw [out] at done
    generalize value : filterOut (sinc2Sum w 32) (32 ^ 2) (s.rdi .mod (R.MOD.IN_OFFS n.val)) 15 = y at done
    have rest := (State.fastFollows_within ((s.elapse dt).fastKept n.val y) n.val y
      ((s.elapse dt).supported n.val (s.elapse dt).fastBit 64)).trans (State.protEval_within _)
    have ins := State.modIn_of_mod (rest.mod rfl)
    refine ⟨_, (exec_fastFilterOutput ..).trans (congrArg (fun t : State => Host.Outcome.next t.protEval) done), ?_, ?_, fun m other => ?_, ?_⟩
    · rw [State.rdi_of_rd (rest.regs .mod (by simp) rfl _ (by unfold R.MOD.FSMP; omega)), ← value]
      exact (fsmp_row n).rdi_filterOut _ _ _ (by decide)
    · rw [ins, State.fastKept_same]
      simp [State.supported, State.modIn]
    · rw [ins, State.fastKept_other _ _ _ other, State.modIn_of_mod (s.elapse_mod dt)]
    · exact (rest.mode_same rfl).trans ((State.fastKept_within ..).mode_same rfl |>.trans (s.elapse_mode dt))
  · rintro dt n w s e rfl h
    rw [exec_fastFilterOutput, execFastFilterOutput, State.fastOutput_idle]
    simpa [State.modEn, State.modIn] using h
  · rintro c dt p o v s e write rfl
    have run := exec_of_eventWriteOf write s
    refine ⟨fun served accepts => ?_, fun h => ?_⟩
    · have taken : (s.elapse dt).hostDo p (fun s => s.hostEvent p o v) =
          (s.elapse dt).acceptEvent 0x0001 (leBytes 4 (p.base + o) ++ leBytes 4 v.toNat) :=
        (if_pos (by simpa using served)).trans
          (State.hostEvent_accepted p o v ((State.elapse_acceptsEvents s dt).trans accepts))
      have rest := (s.elapse dt).acceptEvent_within 0x0001 (leBytes 4 (p.base + o) ++ leBytes 4 v.toNat)
      refine ⟨_, run.trans (congrArg _ taken), ?_, ?_, (State.acceptEvent_regs ..).trans (s.elapse_regs dt),
        (rest.mode_same rfl).trans (s.elapse_mode dt), (rest.prot_same rfl rfl).trans (s.elapse_prot dt),
        (rest.loops_same rfl rfl).trans (s.elapse_loops dt)⟩
      · rw [State.acceptEvent_events, State.elapse_events, State.elapse_tdm, State.elapse_tick]
      · rw [State.acceptEvent_mseqOut, State.elapse_tdm]
    · refine run.trans (congrArg _ ?_)
      obtain unserved | refused := h
      · exact if_neg (by simp [unserved])
      · exact (congrArg (ite _ · _) (State.hostEvent_discarded p o v
          ((State.elapse_acceptsEvents s dt).trans refused))).trans (ite_self _)

end

section
/-! SUPPORT. The time engine: its configuration, the lock state, and what it sends (R378 to R382). -/

namespace Sys2Proof.Machine

open Sys2Proof

/-! ### What passing time leaves of it -/

@[simp] theorem State.elapse_profile (s : State) (dt : Nat) : (s.elapse dt).profile = s.profile := by
  unfold State.profile
  simp

@[simp] theorem State.elapse_timeRx (s : State) (dt p : Nat) : (s.elapse dt).timeRx p = s.timeRx p := by
  unfold State.timeRx
  simp

@[simp] theorem State.elapse_timeTx (s : State) (dt p : Nat) : (s.elapse dt).timeTx p = s.timeTx p := by
  unfold State.timeTx
  simp

@[simp] theorem State.elapse_pathDelay (s : State) (dt : Nat) : (s.elapse dt).pathDelay = s.pathDelay := by
  unfold State.pathDelay
  simp

@[simp] theorem State.elapse_servo (s : State) (dt : Nat) (o : Int) : (s.elapse dt).servo o = s.servo o := by
  unfold State.servo
  simp

@[simp] theorem State.elapse_ethActive (s : State) (dt : Nat) : (s.elapse dt).ethActive = s.ethActive := by
  unfold State.ethActive
  simp

@[simp] theorem State.elapse_txHeld (s : State) (dt : Nat) : (s.elapse dt).txHeld = s.txHeld := by
  unfold State.txHeld
  simp

@[simp] theorem State.elapse_ethPort (s : State) (dt p : Nat) : (s.elapse dt).ethPort p = s.ethPort p := by
  unfold State.ethPort
  simp

/-! ### Registers -/

theorem State.rd_wri_other {s : State} {p q : Page} {o u : Nat} (v : Int) (h : p.base + o ≠ q.base + u) :
    (s.wri p o v).rd q u = s.rd q u := State.rd_wr_other _ h

theorem State.rdn_of_rd {s t : State} {p : Page} {o : Nat} (h : t.rd p o = s.rd p o) : t.rdn p o = s.rdn p o := by
  unfold State.rdn
  rw [h]

theorem State.rdf_of_rd {s t : State} {p : Page} {o hi lo : Nat} (h : t.rd p o = s.rd p o) :
    t.rdf p o hi lo = s.rdf p o hi lo := by
  unfold State.rdf
  rw [h]

theorem State.rdb_of_rd {s t : State} {p : Page} {o n : Nat} (h : t.rd p o = s.rd p o) : t.rdb p o n = s.rdb p o n := by
  unfold State.rdb
  rw [h]

/-- A flag that is set stays set when another one is. -/
theorem State.flag_rdb_keeps {s : State} {p : Page} {n m : Nat} {r : RegRow} (h : findRow p R.PAGE.FLAGS = some r)
    (k : m < 32) (f : Full r.mask m m) (i : Page.irq.base + R.PAGE.FLAGS ≠ p.base + R.PAGE.FLAGS) (distinct : m ≠ n)
    (set : s.rdb p R.PAGE.FLAGS m = true) : (s.flag p n).rdb p R.PAGE.FLAGS m = true := by
  unfold State.flag State.rdb
  rw [State.pageLine_rd _ _ i]
  unfold State.wrb State.wrf
  rw [State.rd_wr_same _ h, flg_and, f.flg k (le_refl _) (le_refl _), flg_setFld _ _ _ _ _ k, if_neg (by omega)]
  exact (Bool.and_true _).trans set

/-- The flags of the time engine: locked, holdover, source changed, stepped (R383). -/
theorem timeFlags_full {n : Nat} (lo : 8 ≤ n) (hi : n ≤ 11) : Full (pageBlockFlags .time + 0x7) n n := by
  interval_cases n <;> rfl

theorem State.timeFlag_rdb (s : State) {n : Nat} (lo : 8 ≤ n) (hi : n ≤ 11) :
    (s.flag .time n).rdb .time R.PAGE.FLAGS n = true :=
  State.flag_rdb _ (findRow_flags _) (by omega) (timeFlags_full lo hi) (flags_place_ne (by decide) (by decide))

theorem State.timeFlag_rd (s : State) (n : Nat) {u : Nat} (small : u < 0x1000) (h : u ≠ R.PAGE.FLAGS) :
    (s.flag .time n).rd .time u = s.rd .time u :=
  State.flag_rd _ _ _ (flags_place_ne (by decide) small) (place_ne h.symm)

/-! ### The lock state (R380) -/

theorem State.modTime_same {α : Type} (g : TimeSt → α) (s : State) {f : TimeSt → TimeSt} (h : ∀ t, g (f t) = g t) :
    g (s.modTime f).time = g s.time := h _

theorem State.modTime_rd (s : State) (f : TimeSt → TimeSt) (p : Page) (o : Nat) : (s.modTime f).rd p o = s.rd p o := rfl

/-- The step moves the run of good offsets and the lock state alone. -/
theorem State.lockStep_same {α : Type} (g : TimeSt → α) (s : State) (o : Int) (run : ∀ t n, g { t with lockRun := n } = g t)
    (st : ∀ t n, g { t with st := n } = g t) : g (s.lockStep o).time = g s.time := by
  unfold State.lockStep
  extract_lets thr t n u
  have kept : g u.time = g s.time := s.modTime_same g fun t => run t _
  clear_value u
  split
  · rw [State.flag_time]
    exact (u.modTime_same g fun t => st t _).trans kept
  · split
    · exact (u.modTime_same g fun t => st t _).trans kept
    · exact kept

theorem State.lockStep_rate (s : State) (o : Int) : (s.lockStep o).time.rate = s.time.rate :=
  State.lockStep_same TimeSt.rate s o (fun _ _ => rfl) (fun _ _ => rfl)

theorem State.lockStep_integ (s : State) (o : Int) : (s.lockStep o).time.integ = s.time.integ :=
  State.lockStep_same TimeSt.integ s o (fun _ _ => rfl) (fun _ _ => rfl)

theorem State.lockStep_rd (s : State) (o : Int) {u : Nat} (small : u < 0x1000) (h : u ≠ R.PAGE.FLAGS) :
    (s.lockStep o).rd .time u = s.rd .time u := by
  unfold State.lockStep
  extract_lets thr t n v
  have kept : v.rd .time u = s.rd .time u := s.modTime_rd ..
  clear_value v
  split
  · exact (State.timeFlag_rd _ _ small h).trans ((v.modTime_rd ..).trans kept)
  · split
    · exact (v.modTime_rd ..).trans kept
    · exact kept

/-- It sets the flag of a lock alone. -/
theorem State.lockStep_flags (s : State) (o : Int) {n : Nat} (lo : 9 ≤ n) (hi : n ≤ 11)
    (set : s.rdb .time R.PAGE.FLAGS n = true) : (s.lockStep o).rdb .time R.PAGE.FLAGS n = true := by
  unfold State.lockStep
  extract_lets thr t k v
  have kept : v.rdb .time R.PAGE.FLAGS n = true := (State.rdb_of_rd (s.modTime_rd ..)).trans set
  clear_value v
  have moved : ∀ f, (v.modTime f).rdb .time R.PAGE.FLAGS n = true :=
    fun f => (State.rdb_of_rd (v.modTime_rd f ..)).trans kept
  split
  · exact State.flag_rdb_keeps (findRow_flags _) (by omega) (timeFlags_full (by omega) hi)
      (flags_place_ne (by decide) (by decide)) (by omega) (moved _)
  · split
    · exact moved _
    · exact kept

/-! ### The servo (R56, R380) -/

/-- The rate stays within 200 ppm (R56). -/
theorem State.servo_rate (s : State) (o : Int) : -200000 ≤ (s.servo o).1 ∧ (s.servo o).1 ≤ 200000 :=
  clampI_mem (by decide) _

theorem State.servo_of {s t : State} (regs : t.rd .time R.TIME.SERVO = s.rd .time R.TIME.SERVO)
    (integ : t.time.integ = s.time.integ) (o : Int) : t.servo o = s.servo o := by
  unfold State.servo
  rw [State.rdf_of_rd regs, State.rdf_of_rd regs, integ]

/-! ### A Sync of the source port (R380 to R382) -/

/-- OFFSET to GMID_HI, and the counters of the TIME page, have no reserved bit. -/
theorem timeRows_mask : ∀ o ∈ [R.TIME.OFFSET, R.TIME.RATE, R.TIME.PDELAY, R.TIME.GMID_LO, R.TIME.GMID_HI, R.TIME.STEPS,
    R.TIME.HOLDOVERS, R.TIME.SRCCHGS], (findRow .time o).map RegRow.mask = some (2 ^ 32 - 1) := by decide +kernel

theorem timeOffset_row : FullRow .time R.TIME.OFFSET := .of (timeRows_mask _ (by simp))
theorem timeRate_row : FullRow .time R.TIME.RATE := .of (timeRows_mask _ (by simp))
theorem timePdelay_row : FullRow .time R.TIME.PDELAY := .of (timeRows_mask _ (by simp))
theorem timeSteps_row : FullRow .time R.TIME.STEPS := .of (timeRows_mask _ (by simp))
theorem timeHoldovers_row : FullRow .time R.TIME.HOLDOVERS := .of (timeRows_mask _ (by simp))
theorem timeSrcchgs_row : FullRow .time R.TIME.SRCCHGS := .of (timeRows_mask _ (by simp))
theorem timeGmidLo_row : FullRow .time R.TIME.GMID_LO := .of (timeRows_mask _ (by simp))
theorem timeGmidHi_row : FullRow .time R.TIME.GMID_HI := .of (timeRows_mask _ (by simp))

/-- The offset of a Sync is kept and shown. -/
def State.syncTaken (s : State) (ms offset : Int) : State :=
  (s.modTime (fun (t : TimeSt) => { t with ms := ms, offset := offset, lastSync := s.mt })).wri .time R.TIME.OFFSET
    (floorDiv offset 65536)

/-- A step of MT is counted, before MT moves. -/
def State.syncStepped (s : State) (offset : Int) : State :=
  ((s.inc .time R.TIME.STEPS).flag .time 11).lockStep offset

/-- The servo's rate and integrator are taken. -/
def State.syncSteered (s : State) (offset : Int) : State :=
  ((s.modTime (fun (t : TimeSt) => { t with rate := (s.servo offset).1, integ := (s.servo offset).2 })).wri .time R.TIME.RATE
    (s.servo offset).1).lockStep offset

section
variable (s : State) (ms o : Int)

theorem State.syncTaken_time : (s.syncTaken ms o).time = { s.time with
    ms := ms
    offset := o
    lastSync := s.mt } := State.wri_time ..

theorem State.syncTaken_rate : (s.syncTaken ms o).time.rate = s.time.rate := by rw [State.syncTaken_time]

theorem State.syncTaken_mt : (s.syncTaken ms o).mt = s.mt :=
  Within.mt_same (K := 0x800000000) (ps := [.time]) (((State.modTime_within ..).mono rfl).trans
    ((State.wri_within ..).page rfl)) rfl

theorem State.syncTaken_rd {u : Nat} (h : u ≠ R.TIME.OFFSET) : (s.syncTaken ms o).rd .time u = s.rd .time u :=
  State.rd_wri_other _ (place_ne h.symm)

theorem State.syncTaken_servo : (s.syncTaken ms o).servo o = s.servo o :=
  State.servo_of (s.syncTaken_rd ms o (by decide)) (by rw [State.syncTaken_time]) o

theorem State.syncStepped_within : Within 0x18000800000080 [] s (s.syncStepped o) :=
  (((State.inc_within ..).kind rfl .time rfl rfl).trans ((State.flag_within ..).kind rfl .time rfl rfl)).trans
    (State.lockStep_within ..)

theorem State.syncStepped_rate : (s.syncStepped o).time.rate = s.time.rate := by
  unfold State.syncStepped
  rw [State.lockStep_rate, State.flag_time, State.inc_time]

theorem State.syncStepped_count : (s.syncStepped o).rdn .time R.TIME.STEPS = satAdd 32 (s.rdn .time R.TIME.STEPS) 1 := by
  unfold State.syncStepped
  rw [State.rdn_of_rd (State.lockStep_rd _ _ (by decide) (by decide)),
    State.rdn_of_rd (State.timeFlag_rd _ _ (by decide) (by decide))]
  exact timeSteps_row.rdn_inc

theorem State.syncStepped_flag : (s.syncStepped o).rdb .time R.PAGE.FLAGS 11 = true :=
  State.lockStep_flags _ _ (by decide) (by decide) (State.timeFlag_rdb _ (by decide) (by decide))

theorem State.syncSteered_within : Within 0x18000800000080 [] s (s.syncSteered o) :=
  (((State.modTime_within ..).mono rfl).trans ((State.wri_within ..).kind rfl .time rfl rfl)).trans
    (State.lockStep_within ..)

theorem State.syncSteered_rate : (s.syncSteered o).time.rate = (s.servo o).1 := by
  unfold State.syncSteered
  rw [State.lockStep_rate, State.wri_time]
  rfl

theorem State.syncSteered_integ : (s.syncSteered o).time.integ = (s.servo o).2 := by
  unfold State.syncSteered
  rw [State.lockStep_integ, State.wri_time]
  rfl

theorem State.syncSteered_shown : (s.syncSteered o).rdi .time R.TIME.RATE = (s.servo o).1 := by
  obtain ⟨lo, hi⟩ := s.servo_rate o
  unfold State.syncSteered
  rw [State.rdi_of_rd (State.lockStep_rd _ _ (by decide) (by decide)), timeRate_row.rdi_wri]
  exact signed_unsign (w := 31) (by omega) (by omega)

end

section
variable {s : State} {dt : Nat} {p : Fin 4} {t1 t2 co ms o : Int}

theorem exec_timeSync_ignored (h : s.timeRx p.val = false ∨ s.time.port ≠ p.val) :
    exec (.timeSync dt p t1 t2 co) s = .next (s.elapse dt) := by
  rw [exec_timeSync]
  exact if_pos (by simpa using h)

/-- A Sync of the source port, by what it does with the offset. -/
theorem exec_timeSync_taken (rx : s.timeRx p.val = true) (port : s.time.port = p.val)
    (meas : ms = t2 - t1 - co - s.rdi (.eth p) R.ETH.ASYM) (offset : o = ms - s.pathDelay) :
    exec (.timeSync dt p t1 t2 co) s = .next (if s.mode = .standby then (s.elapse dt).syncTaken ms o
      else if s.mode.isRole = false ∧ s.rdn .time R.TIME.STEP * 65536 < o.natAbs then
        (((s.elapse dt).syncTaken ms o).syncStepped o).stepMt (((s.elapse dt).mt : Int) - floorDiv o 65536).toNat
      else ((s.elapse dt).syncTaken ms o).syncSteered o) := by
  have page : ethPage p.val = .eth p := by simp [ethPage]
  have taken : t2 - t1 - co - (s.elapse dt).rdi (ethPage p.val) R.ETH.ASYM = ms := by rw [page, State.elapse_rdi, meas]
  have off : ms - (s.elapse dt).pathDelay = o := by rw [State.elapse_pathDelay, offset]
  rw [exec_timeSync]
  unfold execTimeSync
  extract_lets e ms' offset' u v w
  have measured : ms' = ms := taken
  have reckoned : offset' = o := by unfold offset'; rw [measured, off]
  have kept : u = e.syncTaken ms o := by unfold u; rw [measured, reckoned]; rfl
  have mode : u.mode = s.mode := by rw [kept]; exact s.elapse_mode dt
  have step : u.rdn .time R.TIME.STEP = s.rdn .time R.TIME.STEP := by
    rw [kept, State.rdn_of_rd (State.syncTaken_rd _ _ _ (by decide)), State.elapse_rdn]
  have moved : w = u.syncStepped o := by unfold w v; rw [reckoned]; rfl
  have mt : w.mt = e.mt := by
    rw [moved, (State.syncStepped_within ..).mt_same rfl, kept, State.syncTaken_mt]
  rw [if_neg (by simp [e, rx, port]), mode, step, reckoned, mt, moved]
  simp only [apply_ite Host.Outcome.next, kept]
  refine if_congr .rfl rfl ?_
  refine if_congr (by simp) rfl ?_
  rfl

end

/-! ### Path delays, the loss of Sync, and MT_LO (R54, R380) -/

theorem State.profile_of {s t : State} (pages : t.pages = s.pages) (cfg : t.rd .time R.TIME.CFG = s.rd .time R.TIME.CFG) :
    t.profile = s.profile := by
  unfold State.profile State.running State.pageState
  rw [pages, State.rdf_of_rd cfg]

theorem State.showDelay_pathDelay (s : State) : s.showDelay.pathDelay = s.pathDelay := by
  unfold State.pathDelay
  have profile : s.showDelay.profile = s.profile :=
    State.profile_of (State.wri_pages ..) (State.rd_wri_other _ (place_ne (by decide)))
  have time : s.showDelay.time = s.time := State.wri_time ..
  rw [profile, time]

theorem State.showDelay_shown (s : State) : s.showDelay.rdi .time R.TIME.PDELAY =
    signed 32 (unsign 32 (floorDiv s.pathDelay 256)) := timePdelay_row.rdi_wri _

/-- The delay of an exchange is kept: the neighbour's under 802.1AS, the path's mean otherwise. -/
def State.delayTaken (s : State) (d : Int) : State :=
  s.modTime (fun (t : TimeSt) => if s.profile = 2 then { t with neigh := d } else { t with mean := d })

theorem State.delayTaken_pathDelay (s : State) (d : Int) : (s.delayTaken d).pathDelay = d := by
  have profile : (s.delayTaken d).profile = s.profile := rfl
  unfold State.pathDelay
  rw [profile]
  unfold State.delayTaken State.modTime
  split <;> rfl

theorem State.delayTaken_rate (s : State) (d : Int) : (s.delayTaken d).time.rate = s.time.rate := by
  unfold State.delayTaken State.modTime
  dsimp only
  split <;> rfl

section
variable {s : State} {dt : Nat} {p : Fin 4} {t1 t2 t3 t4 : Int}

theorem exec_delayResp_taken (rx : s.timeRx p.val = true) (port : s.time.port = p.val) (role : s.mode ≠ .standby) :
    exec (.delayResp dt p t1 t2 t3 t4) s = .next ((s.elapse dt).delayTaken
      (floorDiv (if s.profile = 2 then (t4 - t1) - (t3 - t2) else (t2 - t1) + (t4 - t3)) 2)).showDelay := by
  rw [exec_delayResp]
  refine (if_neg (by simp [rx, port, role])).trans ?_
  unfold State.delayTaken
  rw [State.elapse_profile]
  split <;> rfl

theorem exec_delayResp_ignored (h : s.timeRx p.val = false ∨ s.time.port ≠ p.val ∨ s.mode = .standby) :
    exec (.delayResp dt p t1 t2 t3 t4) s = .next (s.elapse dt) := by
  rw [exec_delayResp]
  exact if_pos (by simpa [or_assoc] using h)

theorem exec_holdoverEntry_lost (st : s.time.st = 1 ∨ s.time.st = 2) (on : s.profile ≠ 0)
    (late : s.time.lastSync + s.rdf .time R.TIME.HOLD 15 0 * 1000000 ≤ (s.elapse dt).mt) :
    exec (.holdoverEntry dt) s = .next ((((s.elapse dt).modTime (fun (t : TimeSt) => { t with
      st := 3
      lockRun := 0 })).inc .time R.TIME.HOLDOVERS).flag .time 9) := by
  rw [exec_holdoverEntry]
  exact if_pos (by simpa [on, late] using st)

theorem exec_holdoverEntry_idle (h : (s.time.st ≠ 1 ∧ s.time.st ≠ 2) ∨ s.profile = 0 ∨
    (s.elapse dt).mt < s.time.lastSync + s.rdf .time R.TIME.HOLD 15 0 * 1000000) :
    exec (.holdoverEntry dt) s = .next (s.elapse dt) := by
  rw [exec_holdoverEntry]
  refine if_neg ?_
  simp
  omega

end

theorem State.answerRead_serves {s : State} (addr v : Nat) (h : s.mode.serves = true) :
    s.answerRead addr v = s.send (.read addr v) := if_pos (by simp [h])

/-! ### The source port (R379) -/

/-- An Announce as it is kept. -/
def State.heardOf (s : State) (a : PtpAnnounce) : Foreign :=
  { rank := announceRank a, gm := a.gm.toNat, cls := a.cls.toNat, steps := a.steps.toNat, sender := a.sender.toNat, mt := s.mt }

def State.heardOn (s : State) (p : Nat) (f : Foreign) : State :=
  s.modTime (fun (t : TimeSt) => { t with heard := smod [] t.heard p (fun (l : List Foreign) => (f :: l).take 10) })

/-- The qualified Announces of the receiver ports, each with its port. -/
def State.candidates (s : State) : List (Nat × Foreign) :=
  (List.range 4).flatMap (fun p =>
    if s.timeRx p then (qualified (sget [] s.time.heard p)).map (fun (f : Foreign) => (p, f)) else [])

/-- A new source port. -/
def State.sourceChanged (s : State) (q : Nat) : State :=
  ((s.modTime (fun (t : TimeSt) => { t with
    port := q
    st := if t.st = 4 then 4 else 1
    lockRun := 0
    lastSync := s.mt })).inc .time R.TIME.SRCCHGS).flag .time 10

/-- The best candidate names the grandmaster, and the source port where it is another one. -/
def State.sourceTaken (s : State) (best : Option (Nat × Foreign)) : State :=
  match best with
  | none => s
  | some (q, g) =>
    let s := s.wr64 .time R.TIME.GMID_LO R.TIME.GMID_HI g.gm
    if q = s.time.port then s else s.sourceChanged q

theorem State.heardOn_heard (s : State) (p q : Nat) (f : Foreign) : sget [] (s.heardOn p f).time.heard q =
    if q = p then (f :: sget [] s.time.heard q).take 10 else sget [] s.time.heard q := by
  have heard : (s.heardOn p f).time.heard = smod [] s.time.heard p (fun (l : List Foreign) => (f :: l).take 10) := rfl
  rw [heard, smod]
  split
  · next same => rw [same, sget_sset_same]
  · next other => rw [sget_sset_other _ _ _ _ other]

theorem State.heardOn_port (s : State) (p : Nat) (f : Foreign) : (s.heardOn p f).time.port = s.time.port := rfl

theorem State.heardOn_st (s : State) (p : Nat) (f : Foreign) : (s.heardOn p f).time.st = s.time.st := rfl

theorem State.heardOn_candidates (s : State) (p : Nat) (f : Foreign) : (s.heardOn p f).candidates =
    (List.range 4).flatMap (fun q => if s.timeRx q then
      (qualified (if q = p then (f :: sget [] s.time.heard q).take 10 else sget [] s.time.heard q)).map (fun g => (q, g))
      else []) := by
  unfold State.candidates
  simp only [State.heardOn_heard]
  rfl

section
variable (s : State) (q : Nat) (g : Foreign)

theorem State.sourceChanged_time : (s.sourceChanged q).time = { s.time with
    port := q
    st := if s.time.st = 4 then 4 else 1
    lockRun := 0
    lastSync := s.mt } := by
  unfold State.sourceChanged
  rw [State.flag_time, State.inc_time]
  rfl

theorem State.sourceChanged_rd {u : Nat} (small : u < 0x1000) (flags : u ≠ R.PAGE.FLAGS) (count : u ≠ R.TIME.SRCCHGS) :
    (s.sourceChanged q).rd .time u = s.rd .time u := by
  unfold State.sourceChanged
  rw [State.timeFlag_rd _ _ small flags, State.inc, State.wrn, State.rd_wr_other _ (place_ne count.symm)]
  rfl

theorem State.sourceChanged_count :
    (s.sourceChanged q).rdn .time R.TIME.SRCCHGS = satAdd 32 (s.rdn .time R.TIME.SRCCHGS) 1 := by
  unfold State.sourceChanged
  rw [State.rdn_of_rd (State.timeFlag_rd _ _ (by decide) (by decide))]
  exact timeSrcchgs_row.rdn_inc

theorem State.sourceTaken_same (h : q = s.time.port) :
    s.sourceTaken (some (q, g)) = s.wr64 .time R.TIME.GMID_LO R.TIME.GMID_HI g.gm :=
  if_pos (h.trans (congrArg TimeSt.port (State.wr64_time ..)).symm)

theorem State.sourceTaken_new (h : q ≠ s.time.port) :
    s.sourceTaken (some (q, g)) = (s.wr64 .time R.TIME.GMID_LO R.TIME.GMID_HI g.gm).sourceChanged q :=
  if_neg (by rwa [State.wr64_time])

theorem State.sourceTaken_port : (s.sourceTaken (some (q, g))).time.port = q := by
  by_cases h : q = s.time.port
  · rw [State.sourceTaken_same s q g h, State.wr64_time, h]
  · rw [State.sourceTaken_new s q g h, State.sourceChanged_time]

theorem State.sourceTaken_gm :
    (s.sourceTaken (some (q, g))).rd64 .time R.TIME.GMID_LO R.TIME.GMID_HI = g.gm % 2 ^ 64 := by
  have stored := timeGmidLo_row.rd64_wr64 (s := s) timeGmidHi_row g.gm (by decide)
  by_cases h : q = s.time.port
  · rw [State.sourceTaken_same s q g h, stored]
  · rw [State.sourceTaken_new s q g h, State.rd64_of_reads (State.sourceChanged_rd _ _ (by decide) (by decide) (by decide))
      (State.sourceChanged_rd _ _ (by decide) (by decide) (by decide)), stored]

section
variable (h : q ≠ s.time.port)
include h

theorem State.sourceTaken_count :
    (s.sourceTaken (some (q, g))).rdn .time R.TIME.SRCCHGS = satAdd 32 (s.rdn .time R.TIME.SRCCHGS) 1 := by
  rw [State.sourceTaken_new s q g h, State.sourceChanged_count,
    State.rdn_of_rd (State.rd_wr64_other _ (by decide) (by decide))]

theorem State.sourceTaken_flag : (s.sourceTaken (some (q, g))).rdb .time R.PAGE.FLAGS 10 = true := by
  rw [State.sourceTaken_new s q g h]
  exact State.timeFlag_rdb _ (by decide) (by decide)

theorem State.sourceTaken_st : (s.sourceTaken (some (q, g))).time.st = if s.time.st = 4 then 4 else 1 := by
  rw [State.sourceTaken_new s q g h, State.sourceChanged_time, State.wr64_time]

end

theorem State.sourceTaken_heard (best : Option (Nat × Foreign)) : (s.sourceTaken best).time.heard = s.time.heard := by
  cases best with
  | none => rfl
  | some b =>
    obtain ⟨q, g⟩ := b
    by_cases h : q = s.time.port
    · rw [State.sourceTaken_same s q g h, State.wr64_time]
    · rw [State.sourceTaken_new s q g h, State.sourceChanged_time, State.wr64_time]

end

section
variable {s : State} {dt : Nat} {p : Fin 4} {a : PtpAnnounce}

theorem exec_ptpAnnounce_ignored (h : s.timeRx p.val = false ∨ 255 ≤ a.steps.toNat ∨
    a.domain.toNat ≠ (if s.profile = 1 then s.rdf .time R.TIME.CFG 31 24 else 0)) :
    exec (.ptpAnnounce dt p a) s = .next (s.elapse dt) := by
  rw [exec_ptpAnnounce]
  refine if_pos ?_
  simp
  tauto

theorem exec_ptpAnnounce_heard (rx : s.timeRx p.val = true) (steps : a.steps.toNat < 255)
    (domain : a.domain.toNat = (if s.profile = 1 then s.rdf .time R.TIME.CFG 31 24 else 0)) :
    exec (.ptpAnnounce dt p a) s =
      .next (((s.elapse dt).heardOn p.val ((s.elapse dt).heardOf a)).sourceTaken
        (bestForeign ((s.elapse dt).heardOn p.val ((s.elapse dt).heardOf a)).candidates)) := by
  rw [exec_ptpAnnounce]
  refine (if_neg (by simp [rx, domain, steps])).trans ?_
  show (match bestForeign ((s.elapse dt).heardOn p.val ((s.elapse dt).heardOf a)).candidates with
    | none => _
    | some (q, g) => _) = _
  cases bestForeign ((s.elapse dt).heardOn p.val ((s.elapse dt).heardOf a)).candidates with
  | none => rfl
  | some b => exact (apply_ite Host.Outcome.next ..).symm

end

/-! ### What the time engine sends (R372, R379, R382) -/

theorem State.ethQueue_own {s : State} {p : Nat} (f : EthOwn) (t : Option (Nat × Nat)) (h : s.running (ethPage p) = true) :
    ((s.ethQueue p f t).ethPort p).own = (s.ethPort p).own ++ [(f, t)] := by
  unfold State.ethQueue State.modEth State.ethPort smod
  rw [if_pos h]
  exact congrArg EthPort.own (sget_sset_same ..)

theorem State.ethQueue_time (s : State) (p : Nat) (f : EthOwn) (t : Option (Nat × Nat)) :
    (s.ethQueue p f t).time = s.time := (State.ethQueue_within ..).time rfl

theorem State.timeSend_seqOut (s : State) (p type : Nat) (content : List Byte) :
    (s.timeSend p type content).time.seqOut = (s.time.seqOut + 1) % 2 ^ 16 :=
  congrArg TimeSt.seqOut (State.ethQueue_time ..)

theorem State.timeSend_regs (s : State) (p type : Nat) (content : List Byte) :
    (s.timeSend p type content).regs = s.regs := by
  unfold State.timeSend State.ethQueue
  extract_lets
  split <;> rfl

theorem State.timeSend_own {s : State} {p : Nat} (type : Nat) (content : List Byte) (h : s.running (ethPage p) = true) :
    ((s.timeSend p type content).ethPort p).own =
      (s.ethPort p).own ++ [(.ptp type s.time.seqOut content, none)] := State.ethQueue_own _ _ h

theorem ethPage_val (p : Fin 4) : ethPage p.val = .eth p := by
  unfold ethPage
  rw [Fin.ofNat_val_eq_self]

/-- The time of the latest message of a transmitter port's kind is kept. -/
def State.transmitted (s : State) (p : Nat) (announce : Bool) : State :=
  s.modTime (fun (t : TimeSt) =>
    if announce then { t with annMt := sset 0 t.annMt p s.mt } else { t with syncMt := sset 0 t.syncMt p s.mt })

theorem State.transmitted_seqOut (s : State) (p : Nat) (announce : Bool) :
    (s.transmitted p announce).time.seqOut = s.time.seqOut := by
  cases announce <;> rfl

theorem State.transmitted_running (s : State) (p : Nat) (announce : Bool) (q : Page) :
    (s.transmitted p announce).running q = s.running q := rfl

theorem State.transmitted_ethPort (s : State) (p q : Nat) (announce : Bool) :
    (s.transmitted p announce).ethPort q = s.ethPort q := rfl

section
variable {s : State} {dt : Nat} {p : Fin 4} {peer an : Bool} {rx : Int}

theorem exec_delayRequestSend_sent (on : s.profile ≠ 0) (port : s.time.port < 4) (held : s.txHeld = false) :
    exec (.delayRequestSend dt) s =
      .next ((s.elapse dt).timeSend s.time.port (if s.profile = 2 then 2 else 1) []) := by
  have source : s.time.port ≠ 15 := by omega
  rw [exec_delayRequestSend]
  refine (if_neg (by simp [on, source, held])).trans ?_
  rw [State.elapse_profile, State.elapse_time]

theorem exec_delayRequestSend_idle (h : s.profile = 0 ∨ s.time.port = 15 ∨ s.txHeld = true) :
    exec (.delayRequestSend dt) s = .next (s.elapse dt) := by
  rw [exec_delayRequestSend]
  exact if_pos (by simpa [or_assoc] using h)

theorem exec_delayReq_answered (tx : s.timeTx p.val = true) (active : s.ethActive = true)
    (kind : peer = decide (s.profile = 2)) : exec (.delayReq dt p peer rx) s =
      .next ((s.elapse dt).timeSend p.val (if peer then 3 else 9) (leBytes 10 (unsign 80 rx))) := by
  rw [exec_delayReq]
  exact if_pos (by simp [tx, active, kind])

theorem exec_delayReq_idle (h : s.timeTx p.val = false ∨ s.ethActive = false ∨ peer ≠ decide (s.profile = 2)) :
    exec (.delayReq dt p peer rx) s = .next (s.elapse dt) := by
  rw [exec_delayReq]
  refine if_neg ?_
  simp only [State.elapse_timeTx, State.elapse_ethActive, State.elapse_profile, Bool.and_eq_true, decide_eq_true_eq]
  rintro ⟨⟨tx, active⟩, kind⟩
  simp [tx, active, kind] at h

theorem exec_timeTransmitPeriod_early (h : s.timeTx p.val = false ∨ s.ethActive = false ∨
    (s.elapse dt).mt < sget 0 (if an then s.time.annMt else s.time.syncMt) p.val + logInterval (if an then
      s.rdf .time R.TIME.TXPARAM 7 0 else s.rdf .time R.TIME.TXPARAM 15 8)) :
    exec (.timeTransmitPeriod dt p an) s = .next (s.elapse dt) := by
  rw [exec_timeTransmitPeriod]
  exact if_pos (by simpa [or_assoc] using h)

theorem exec_timeTransmitPeriod_due (tx : s.timeTx p.val = true) (active : s.ethActive = true)
    (late : sget 0 (if an then s.time.annMt else s.time.syncMt) p.val + logInterval (if an then
      s.rdf .time R.TIME.TXPARAM 7 0 else s.rdf .time R.TIME.TXPARAM 15 8) ≤ (s.elapse dt).mt) :
    ∃ b, b.length = (if an then 3 else 1) ∧ exec (.timeTransmitPeriod dt p an) s =
      .next (((s.elapse dt).transmitted p.val an).timeSend p.val (if an then 11 else 0) b) := by
  rw [exec_timeTransmitPeriod]
  unfold execTimeTransmitPeriod
  extract_lets e last every u
  have now : ¬(!e.timeTx p.val || !e.ethActive || decide (e.mt < last + every)) = true := by
    simpa [e, last, every, tx, active] using late
  rw [if_neg now]
  cases an
  · exact ⟨_, rfl, rfl⟩
  · exact ⟨_, rfl, rfl⟩

end

end Sys2Proof.Machine
end

section
/-! SETTLEMENT. The time engine: offset, delay, holdover, source port and what is sent (R54, R379 to R382). -/

open Sys2Proof Sys2Proof.Machine

/-- Settles O55: what each command of the time engine comes to, and of a Sync what its three courses leave of MT, the rate
and the registers. -/
theorem networkTimeCompletes : Obligations.NetworkTimeCompletes := by
  refine ⟨⟨fun dt p t1 t2 co s h => exec_timeSync_ignored h, ?_, ?_, fun dt p t1 t2 t3 t4 s h => exec_delayResp_ignored h,
    ?_, ?_, ?_, ?_⟩, fun dt p a s h => exec_ptpAnnounce_ignored h, ?_, ?_, fun dt s h => exec_delayRequestSend_idle h, ?_,
    fun dt p peer rx s h => exec_delayReq_idle h, ?_, fun dt p an s h => exec_timeTransmitPeriod_early h⟩
  · intro dt p t1 t2 co s o rx port offset
    have ran := exec_timeSync_taken (dt := dt) rx port rfl offset
    generalize t2 - t1 - co - s.rdi (.eth p) R.ETH.ASYM = ms at ran
    have kept := (s.elapse dt).syncTaken_time ms o
    have rate := (s.elapse dt).syncTaken_rate ms o
    rw [State.elapse_time] at rate
    refine ⟨fun role => ⟨_, ran.trans (congrArg _ (if_pos role)), congrArg TimeSt.offset kept, rate,
      (s.elapse dt).syncTaken_mt ms o, timeOffset_row.rdi_wri _⟩, fun role large => ?_, fun standby steers => ?_⟩
    · have apart : s.mode ≠ .standby := fun e => by simp [e, Mode.isRole] at role
      refine ⟨_, ran.trans (congrArg _ ((if_neg apart).trans (if_pos ⟨role, large⟩))), rfl, ?_, State.syncStepped_flag ..,
        (State.syncStepped_rate ..).trans (rate)⟩
      refine (State.syncStepped_count ..).trans ?_
      rw [State.rdn_of_rd (State.syncTaken_rd _ _ _ (by decide)), State.elapse_rdn]
    · have servo : ((s.elapse dt).syncTaken ms o).servo o = s.servo o := by rw [State.syncTaken_servo, State.elapse_servo]
      have course : ¬(s.mode.isRole = false ∧ s.rdn .time R.TIME.STEP * 65536 < o.natAbs) := by
        rintro ⟨role, large⟩
        rw [role] at steers
        simp at steers
        omega
      have steered := ((s.elapse dt).syncTaken ms o).syncSteered_rate o
      have shown := ((s.elapse dt).syncTaken ms o).syncSteered_shown o
      have integ := ((s.elapse dt).syncTaken ms o).syncSteered_integ o
      rw [servo] at steered shown integ
      obtain ⟨lo, hi⟩ := s.servo_rate o
      exact ⟨_, ran.trans (congrArg _ ((if_neg standby).trans (if_neg course))),
        ((State.syncSteered_within ..).mt_same rfl).trans ((s.elapse dt).syncTaken_mt ms o), steered, integ, shown,
        steered ▸ lo, steered ▸ hi⟩
  · intro dt p t1 t2 t3 t4 s rx port role
    refine ⟨_, exec_delayResp_taken rx port role, ?_, ?_, ?_⟩
    · rw [State.showDelay_pathDelay, State.delayTaken_pathDelay]
    · rw [State.showDelay_shown, State.showDelay_pathDelay]
    · unfold State.showDelay
      rw [State.wri_time, State.delayTaken_rate, State.elapse_time]
  · rintro dt s e rfl st on late
    refine ⟨_, exec_holdoverEntry_lost st on late, ?_, State.timeFlag_rdb _ (by decide) (by decide), ?_⟩
    · rw [State.flag_time, State.inc_time]
      exact congrArg (fun t : TimeSt => { t with
        st := 3
        lockRun := 0 }) (s.elapse_time dt)
    · rw [State.rdn_of_rd (State.timeFlag_rd _ _ (by decide) (by decide)), timeHoldovers_row.rdn_inc]
      exact congrArg (satAdd 32 · 1) (s.elapse_rdn dt .time R.TIME.HOLDOVERS)
  · rintro dt s e rfl h
    exact exec_holdoverEntry_idle h
  · rintro dt fr s e rfl served
    have serves : ((s.elapse dt).mtLatch fr.toNat).mode.serves = true :=
      (congrArg Mode.serves (s.elapse_mode dt)).trans (State.pageServed_serves served)
    refine ⟨_, (exec_mtLoRead ..).trans ((if_pos (by simpa using served)).trans
      (congrArg _ (State.answerRead_serves _ _ serves))), ?_, ?_, ?_⟩
    · exact congrArg (_ :: ·) (s.elapse_sent dt)
    · exact congrArg (fun t : TimeSt => { t with
        latchHi := (s.elapse dt).mt / 2 ^ 32
        latchFrac := fr.toNat }) (s.elapse_time dt)
    · exact s.elapse_regs dt
  · intro dt fr s served
    rw [exec_mtLoRead]
    exact if_neg (by simp [served])
  · rintro dt p a s e f all rfl rx steps domain rfl rfl
    have ran := exec_ptpAnnounce_heard (dt := dt) rx steps domain
    have candidates := (s.elapse dt).heardOn_candidates p.val ((s.elapse dt).heardOf a)
    have heard := fun q => (s.elapse dt).heardOn_heard p.val q ((s.elapse dt).heardOf a)
    simp only [State.elapse_timeRx, State.elapse_time] at candidates heard
    refine ⟨_, ran, fun q _ => (congrArg (sget [] · q) (State.sourceTaken_heard ..)).trans (heard q), fun none => ?_,
      fun q g best => ?_⟩
    · rw [(congrArg bestForeign candidates).trans none]
      exact ⟨(State.heardOn_port ..).trans (congrArg TimeSt.port (s.elapse_time dt)), s.elapse_regs dt⟩
    · rw [(congrArg bestForeign candidates).trans best]
      refine ⟨State.sourceTaken_port .., State.sourceTaken_gm .., fun new => ?_⟩
      have other : q ≠ ((s.elapse dt).heardOn p.val ((s.elapse dt).heardOf a)).time.port := by
        rwa [State.heardOn_port, State.elapse_time]
      refine ⟨(State.sourceTaken_count _ _ _ other).trans ?_, State.sourceTaken_flag _ _ _ other,
        (State.sourceTaken_st _ _ _ other).trans ?_⟩
      · exact congrArg (satAdd 32 · 1) (s.elapse_rdn dt .time R.TIME.SRCCHGS)
      · rw [State.heardOn_st, State.elapse_time]
  · intro dt s on port held run
    exact ⟨_, exec_delayRequestSend_sent on port held,
      (State.timeSend_seqOut ..).trans (by rw [State.elapse_time]), (State.timeSend_own _ _ (by simpa using run)).trans
        (by rw [State.elapse_ethPort, State.elapse_time])⟩
  · intro dt p peer rx s tx active kind run
    exact ⟨_, exec_delayReq_answered tx active kind,
      (State.timeSend_own _ _ (by simpa [ethPage_val] using run)).trans (by rw [State.elapse_ethPort, State.elapse_time]),
      (State.timeSend_regs ..).trans (s.elapse_regs dt)⟩
  · intro dt p an s tx active run late
    obtain ⟨b, size, ran⟩ := exec_timeTransmitPeriod_due tx active late
    exact ⟨_, b, ran, (State.timeSend_seqOut ..).trans (by rw [State.transmitted_seqOut, State.elapse_time]),
      (State.timeSend_own _ _ (by rw [ethPage_val, State.transmitted_running, State.elapse_running, run])).trans
        (by rw [State.transmitted_seqOut, State.transmitted_ethPort, State.elapse_ethPort, State.elapse_time]), size⟩

end

section
/-! SUPPORT. The tandem: frames, links, heartbeats and what they do to the witness index (R276 to R279, R294, R299). -/

namespace Sys2Proof.Machine

open Sys2Proof

@[simp] theorem State.elapse_tandemed (s : State) (dt : Nat) : (s.elapse dt).tandemed = s.tandemed := State.elapse_running ..

@[simp] theorem State.elapse_link (s : State) (dt l : Nat) : (s.elapse dt).link l = s.link l := by
  unfold State.link
  rw [State.elapse_tdm]

@[simp] theorem State.elapse_posB (s : State) (dt : Nat) : (s.elapse dt).posB = s.posB := State.elapse_sys_strapB ..

theorem tdmFlags_full {n : Nat} (lo : 8 ≤ n) (hi : n ≤ 19) : Full (pageBlockFlags .tdm + 0x7) n n := by
  interval_cases n <;> rfl

theorem State.tdmFlag_rdb (s : State) {n : Nat} (lo : 8 ≤ n) (hi : n ≤ 19) :
    (s.flag .tdm n).rdb .tdm R.PAGE.FLAGS n = true :=
  State.flag_rdb _ (findRow_flags _) (by omega) (tdmFlags_full lo hi) (flags_place_ne (by decide) (by decide))

theorem State.tdmFlag_rd (s : State) (n : Nat) {u : Nat} (small : u < 0x1000) (h : u ≠ R.PAGE.FLAGS) :
    (s.flag .tdm n).rd .tdm u = s.rd .tdm u :=
  State.flag_rd _ _ _ (flags_place_ne (by decide) small) (place_ne h.symm)

theorem State.tdmFlag_keeps {s : State} {n m : Nat} (lo : 8 ≤ m) (hi : m ≤ 19) (distinct : m ≠ n)
    (set : s.rdb .tdm R.PAGE.FLAGS m = true) : (s.flag .tdm n).rdb .tdm R.PAGE.FLAGS m = true :=
  State.flag_rdb_keeps (findRow_flags _) (by omega) (tdmFlags_full lo hi) (flags_place_ne (by decide) (by decide)) distinct set

/-! ### Frames (R277, R278) -/

/-- With a tandem page a frame goes out with the next LSEQ. -/
theorem State.sendFrame_tandemed {s : State} (type : Nat) (payload : List Byte) (h : s.tandemed = true) :
    s.sendFrame type payload = ({ s with tdm := { s.tdm with lseqSent := s.tdm.lseqSent + 1 } }).send
      (.tandem type (s.tdm.lseqSent + 1) payload) := if_pos h

/-- An accepted frame leaves its mark on its link and in the window of LSEQ alone. -/
theorem State.takeFrame_accepted {s x : State} {ty : Nat} {f : TandemHead} {b : List Byte} (h : s.takeFrame ty f b = (true, x)) :
    ∃ links hi seen, x = { s with tdm := { s.tdm with
      links := links
      lseqHigh := hi
      lseqSeen := seen } } := by
  unfold State.takeFrame at h
  extract_lets l u q hi at h
  split at h
  · simp at h
  · split at h
    · simp at h
    · split at h
      · simp at h
      · exact ⟨_, _, _, (congrArg Prod.snd h).symm⟩

theorem State.takeFrame_keeps {s x : State} {ty : Nat} {f : TandemHead} {b : List Byte} (h : s.takeFrame ty f b = (true, x)) :
    x.sys = s.sys ∧ x.tdm.peer = s.tdm.peer ∧ x.tdm.term = s.tdm.term ∧ x.tdm.joining = s.tdm.joining := by
  obtain ⟨links, hi, seen, rfl⟩ := State.takeFrame_accepted h
  exact ⟨rfl, rfl, rfl, rfl⟩

/-! ### What agreement on the witness keeps (R299) -/

/-- What a heartbeat was heard to say stands, and so do silence, the term and the join. -/
structure SameHearing (s t : State) : Prop where
  peer : t.tdm.peer = s.tdm.peer
  silent : t.tdm.silent = s.tdm.silent
  term : t.tdm.term = s.tdm.term
  joining : t.tdm.joining = s.tdm.joining

theorem SameHearing.of_tdm {s t : State} (h : t.tdm = s.tdm) : SameHearing s t := by
  constructor <;> rw [h]

theorem SameHearing.refl (s : State) : SameHearing s s := .of_tdm rfl

theorem SameHearing.trans {s t u : State} (h : SameHearing s t) (k : SameHearing t u) : SameHearing s u :=
  ⟨k.peer.trans h.peer, k.silent.trans h.silent, k.term.trans h.term, k.joining.trans h.joining⟩

theorem SameHearing.within {K : Nat} {ps : List Page} {s t : State} (h : Within K ps s t) (k : K.testBit 29 = false) :
    SameHearing s t := .of_tdm (h.tdm k)

theorem SameHearing.ite {s t u : State} {c : Prop} [Decidable c] (h : SameHearing s t) (k : SameHearing s u) :
    SameHearing s (if c then t else u) := by
  split <;> assumption

theorem State.setTdm_hearing (s : State) {f : TdmSt → TdmSt} (peer : ∀ t, (f t).peer = t.peer)
    (silent : ∀ t, (f t).silent = t.silent) (term : ∀ t, (f t).term = t.term) (joining : ∀ t, (f t).joining = t.joining) :
    SameHearing s (s.setTdm f) := ⟨peer _, silent _, term _, joining _⟩

theorem State.askWitness_hearing (s : State) (entry kind term : Nat) : SameHearing s (s.askWitness entry kind term) := by
  unfold State.askWitness
  split
  · exact .refl s
  · refine .ite (.refl s) (.trans ?_ (.within (State.sendNet_within ..) rfl))
    refine s.setTdm_hearing (fun t => ?_) (fun t => ?_) (fun t => ?_) (fun t => ?_) <;> exact apply_ite ..|>.trans (ite_self _)

theorem State.acquire_hearing (s : State) : SameHearing s s.acquire := .ite (.refl s) (State.askWitness_hearing ..)

theorem State.useWitness_hearing (s : State) (i : Nat) : SameHearing s (s.useWitness i) :=
  .ite (.refl s) (.ite (.trans (by constructor <;> rfl) (State.acquire_hearing _)) (by constructor <;> rfl))

theorem State.sendFrame_hearing (s : State) (type : Nat) (payload : List Byte) :
    SameHearing s (s.sendFrame type payload) := by
  unfold State.sendFrame
  split <;> constructor <;> rfl

theorem State.proposeWitness_hearing (s : State) (i : Nat) : SameHearing s (s.proposeWitness i) := by
  have mirrored : SameHearing s ((s.setTdm (fun t => { t with widxProposed := i })).mirrorItem 0x0008 (s.tick + 2)
      ([BitVec.ofNat 8 i, 0, 0, 0] ++ leBytes 4 s.tdm.term)) :=
    .trans (by constructor <;> rfl) (State.sendFrame_hearing ..)
  exact .ite (.refl s) (.ite (mirrored.trans (State.useWitness_hearing ..)) mirrored)

theorem State.takeProposal_hearing (s : State) (i : Nat) : SameHearing s (s.takeProposal i) :=
  .ite (.refl s) (by constructor <;> rfl)

theorem State.agreeWitness_hearing (s : State) : SameHearing s s.agreeWitness :=
  .ite ((State.takeProposal_hearing ..).trans (State.useWitness_hearing ..))
    (.ite (.ite (.ite (State.useWitness_hearing ..) (.refl s)) (.ite (State.proposeWitness_hearing ..) (.refl s))) (.refl s))

theorem State.compareInterlock_hearing (s : State) : SameHearing s s.compareInterlock :=
  .ite (by constructor <;> rfl) (.ite (.trans (by constructor <;> rfl) (.within (State.flag_within ..) rfl))
    (by constructor <;> rfl))

theorem State.doubleFault_hearing (s : State) (reason : Nat) : SameHearing s (s.doubleFault reason) :=
  .ite (.trans (.trans (by constructor <;> rfl) (.within (State.flag_within ..) rfl)) (.within (State.record_within ..) rfl))
    (.refl s)

/-! ### A heartbeat that is heard (R56, R279) -/

/-- Where a slew of `off`, at most `most`, brings an MT that stood at `was` before, within its tick. -/
def slewed (was mt most : Nat) (off : Int) : Nat :=
  max (max was (mt / 500000 * 500000)) (min ((mt : Int) + max (-(most : Int)) (min (most : Int) off)).toNat
    (mt / 500000 * 500000 + 499999))

theorem slewed_bounds {was mt : Nat} (most : Nat) (off : Int) (behind : was ≤ mt) (tick : was / 500000 = mt / 500000) :
    was ≤ slewed was mt most off ∧ slewed was mt most off ≤ mt + most ∧ mt ≤ slewed was mt most off + most ∧
      slewed was mt most off / 500000 = mt / 500000 := by
  unfold slewed
  omega

theorem State.followPeer_follows {s : State} (was heard : Nat) (h : s.mode = .standby ∧ s.tdm.peer.state = 4) :
    s.followPeer was heard = s.draw.2.atMt (slewed was s.mt ((s.mt - heard) / 5000)
      ((s.tdm.peer.mt + Config.freeNat s.free : Nat) - (s.mt : Int))) := if_pos (by simpa using h)

theorem State.followPeer_stays {s : State} (was heard : Nat) (h : ¬(s.mode = .standby ∧ s.tdm.peer.state = 4)) :
    s.followPeer was heard = s := if_neg (by simpa using h)

/-- MT is slewed by 200 ppm at most of the time since the heartbeat before, never back behind what it was, never over a tick
boundary. -/
theorem State.followPeer_mt {s : State} {was : Nat} (heard : Nat) (behind : was ≤ s.mt) (tick : was / 500000 = s.tick) :
    was ≤ (s.followPeer was heard).mt ∧ (s.followPeer was heard).mt ≤ s.mt + (s.mt - heard) / 5000 ∧
      s.mt ≤ (s.followPeer was heard).mt + (s.mt - heard) / 5000 ∧ (s.followPeer was heard).tick = s.tick := by
  by_cases follows : s.mode = .standby ∧ s.tdm.peer.state = 4
  · rw [State.followPeer_follows was heard follows]
    unfold State.tick at *
    have moved : (s.draw.2.atMt (slewed was s.mt ((s.mt - heard) / 5000)
      ((s.tdm.peer.mt + Config.freeNat s.free : Nat) - (s.mt : Int)))).sys.mt = _ := State.atMt_mt ..
    rw [moved, State.atMt_mt]
    exact slewed_bounds _ _ behind tick
  · rw [State.followPeer_stays was heard follows]
    exact ⟨behind, by omega, by omega, rfl⟩

/-! ### Clauses of the statement about links and heartbeats -/

theorem State.joinBegin_none {s : State} (h : s.tdm.joining = false) : s.joinBegin = s := if_pos (by simp [h])

theorem State.joinStep_none {s : State} (h : s.tdm.joining = false) : s.joinStep = s := by
  unfold State.joinStep State.tryJoin
  rw [if_neg (by simp [h])]

section
variable {s x : State} {dt : Nat} {f : TandemHead} {b : List Byte}

theorem State.takeFrame_posB {ty : Nat} (taken : (s.elapse dt).takeFrame ty f b = (true, x)) : x.posB = s.posB := by
  obtain ⟨sys, -⟩ := State.takeFrame_keeps taken
  exact (congrArg SysSt.strapB sys).trans (s.elapse_posB dt)

/-- What follows from a heartbeat that is kept, but for the slew. -/
def State.beatFollows (s : State) : State := s.compareInterlock.agreeWitness.adoptPeerTrips.markPeerPulses

theorem State.beatFollows_within (s : State) : Within 0x10000208000623000280 [] s s.beatFollows :=
  (((State.compareInterlock_within ..).mono rfl).trans ((State.agreeWitness_within ..).mono rfl)).trans
    (((State.adoptPeerTrips_within ..).mono rfl).trans ((State.markPeerPulses_within ..).mono rfl))

theorem State.beatFollows_hearing (s : State) : SameHearing s s.beatFollows :=
  ((State.compareInterlock_hearing _).trans (State.agreeWitness_hearing _)).trans
    ((SameHearing.within (State.adoptPeerTrips_within _) rfl).trans (.within (State.markPeerPulses_within _) rfl))

theorem exec_heartbeat_heard (taken : (s.elapse dt).takeFrame 0x01 f b = (true, x)) (position : (byteAt b 1).testBit 0 ≠ s.posB)
    (join : s.tdm.joining = false) : exec (.heartbeat dt f b) s =
      .next (((x.setTdm (fun t => t.hear b x.mt)).followPeer s.mt x.tdm.peer.heardMt).beatFollows) := by
  have own : x.posB = s.posB := State.takeFrame_posB taken
  obtain ⟨-, -, -, joining⟩ := State.takeFrame_keeps taken
  have still : x.tdm.joining = false := by rw [joining, State.elapse_tdm, join]
  have kept := ((x.setTdm (fun t => t.hear b x.mt)).followPeer_within s.mt x.tdm.peer.heardMt).tdm rfl
  have idle := (((x.setTdm (fun t => t.hear b x.mt)).followPeer s.mt x.tdm.peer.heardMt).beatFollows_hearing.joining.trans
    (congrArg TdmSt.joining kept)).trans still
  rw [exec_heartbeat]
  unfold execHeartbeat
  extract_lets was e good
  rw [show e.takeFrame 0x01 f b = (true, x) from taken]
  refine (if_neg (by decide)).trans ((if_neg (by rwa [own])).trans (congrArg _ ?_))
  exact (congrArg State.joinStep (State.joinBegin_none idle)).trans (State.joinStep_none idle)

theorem exec_heartbeat_own (taken : (s.elapse dt).takeFrame 0x01 f b = (true, x)) (position : (byteAt b 1).testBit 0 = s.posB) :
    exec (.heartbeat dt f b) s = .next ((x.inc .tdm R.TDM.CRCERR).flag .tdm 19) := by
  have own : x.posB = s.posB := State.takeFrame_posB taken
  rw [exec_heartbeat]
  unfold execHeartbeat
  extract_lets was e good
  rw [show e.takeFrame 0x01 f b = (true, x) from taken]
  exact (if_neg (by decide)).trans (if_pos (position.trans own.symm))

end

/-! ### Silence, links and the agreement of interlocks (R278, R279, R294) -/

section
variable {s : State} {dt : Nat}

/-- The peer has fallen silent: it is flagged, and a proposal of a witness still open takes effect (R299). -/
def State.peerLost (s : State) : State :=
  let s := (s.setTdm (fun t => { t with silent := true })).flag .tdm 9
  if s.tdm.widxProposed != s.tdm.widx then s.useWitness s.tdm.widxProposed else s

/-- A standby whose peer is silent asks for the lease, or is in a double fault without its witness. -/
def State.standbyAlone (s : State) : State :=
  if s.mode = .standby then (if s.tdm.witLost then s.doubleFault 1 else s.acquire) else s

theorem exec_peerSilent_lost (tandem : s.tandemed = true) (heard : s.tdm.silent = false)
    (late : s.tdm.peer.heardMt + tSilent ≤ (s.elapse dt).mt) :
    exec (.peerSilent dt) s = .next (s.elapse dt).peerLost.standbyAlone := by
  rw [exec_peerSilent]
  refine (if_pos (by simp [tandem, heard, late])).trans ?_
  exact (apply_ite Host.Outcome.next ..).symm

theorem State.peerLost_within (s : State) : Within 0x10000208000620000280 [] s s.peerLost := by
  have flagged : Within 0x10000208000620000280 [] s ((s.setTdm (fun t => { t with silent := true })).flag .tdm 9) :=
    ((State.setTdm_within ..).mono rfl).trans ((State.flag_within ..).kind rfl .tdm rfl rfl)
  exact .ite (flagged.trans ((State.useWitness_within ..).mono rfl)) flagged

theorem State.peerLost_silent (s : State) : s.peerLost.tdm.silent = true := by
  have flagged : ((s.setTdm (fun t => { t with silent := true })).flag .tdm 9).tdm.silent = true := by
    rw [State.flag_tdm]
    rfl
  exact ((SameHearing.ite (State.useWitness_hearing ..) (.refl _)).silent).trans flagged

theorem State.peerLost_flag (s : State) : s.peerLost.rdb .tdm R.PAGE.FLAGS 9 = true := by
  have flagged : ((s.setTdm (fun t => { t with silent := true })).flag .tdm 9).rdb .tdm R.PAGE.FLAGS 9 = true :=
    State.tdmFlag_rdb _ (by decide) (by decide)
  unfold State.peerLost
  extract_lets u
  split
  · exact (State.rdb_of_rd ((State.useWitness_within ..).regs .tdm (by simp) rfl _ (by decide))).trans flagged
  · exact flagged

/-- With no proposal open the index stands. -/
theorem State.peerLost_settled (h : s.tdm.widx = s.tdm.widxProposed) :
    s.peerLost = (s.setTdm (fun t => { t with silent := true })).flag .tdm 9 := by
  refine if_neg ?_
  rw [State.flag_tdm]
  simp [State.setTdm, h]

theorem State.doubleFault_new (reason : Nat) (standby : s.mode = .standby) (silent : s.tdm.silent = true)
    (new : s.tdm.double = false) : s.doubleFault reason =
      ((s.setTdm (fun t => { t with double := true })).flag .tdm 14).record .tdm 0x03
        ([4, BitVec.ofNat 8 ((s.setTdm (fun t => { t with double := true })).flag .tdm 14).tdm.widx, BitVec.ofNat 8 reason, 0] ++
          leBytes 4 ((s.setTdm (fun t => { t with double := true })).flag .tdm 14).tdm.term) :=
  if_pos (by simp [standby, silent, new])

theorem State.doubleFault_known (reason : Nat) (known : s.tdm.double = true) : s.doubleFault reason = s :=
  if_neg (by simp [known])

theorem State.doubleFault_double (reason : Nat) (standby : s.mode = .standby) (silent : s.tdm.silent = true) :
    (s.doubleFault reason).tdm.double = true := by
  cases known : s.tdm.double with
  | true => rw [State.doubleFault_known reason known, known]
  | false =>
    rw [State.doubleFault_new reason standby silent known, (State.record_within ..).tdm rfl, State.flag_tdm]
    rfl

theorem State.doubleFault_flag (s : State) (reason : Nat) (h : s.rdb .tdm R.PAGE.FLAGS 9 = true) :
    (s.doubleFault reason).rdb .tdm R.PAGE.FLAGS 9 = true := by
  unfold State.doubleFault
  split
  · refine (State.rdb_of_rd ((State.record_within ..).regs .tdm (by simp) rfl _ (by decide))).trans ?_
    exact State.tdmFlag_keeps (by decide) (by decide) (by decide) h
  · exact h

theorem State.standbyAlone_hearing (s : State) : SameHearing s s.standbyAlone :=
  .ite (.ite (State.doubleFault_hearing ..) (State.acquire_hearing _)) (.refl s)

theorem State.standbyAlone_flag (s : State) (h : s.rdb .tdm R.PAGE.FLAGS 9 = true) :
    s.standbyAlone.rdb .tdm R.PAGE.FLAGS 9 = true := by
  unfold State.standbyAlone
  split
  · split
    · exact s.doubleFault_flag 1 h
    · exact (State.rdb_of_rd ((State.acquire_within _).regs .tdm (by simp) rfl _ (by decide))).trans h
  · exact h

theorem State.standbyAlone_mode (s : State) : s.standbyAlone.mode = s.mode := by
  unfold State.standbyAlone
  split
  · split
    · exact (State.doubleFault_within ..).mode_same rfl
    · exact (State.acquire_within _).mode_same rfl
  · rfl

theorem linkdn_row (l : Fin 2) : FullRow .tdm (R.TDM.LINKDN0 + 4 * l.val) := by
  have all : ∀ l : Fin 2, (findRow .tdm (R.TDM.LINKDN0 + 4 * l.val)).map RegRow.mask = some (2 ^ 32 - 1) := by decide +kernel
  exact .of (all l)

theorem State.setLink_same (s : State) (l : Nat) (v : LinkSt) : (s.setLink l v).link l = v := sget_sset_same ..

theorem exec_linkDown_lost {l : Fin 2} (tandem : s.tandemed = true) (live : (s.link l.val).down = false)
    (late : (s.link l.val).lastMt + tSilent ≤ (s.elapse dt).mt)
    (other : (s.elapse dt).mt < (s.link (1 - l.val)).lastMt + tSilent) : exec (.linkDown dt l) s =
      .next ((((s.elapse dt).setLink l.val { s.link l.val with up := false, down := true }).inc .tdm
        (R.TDM.LINKDN0 + 4 * l.val)).flag .tdm 8) := by
  rw [exec_linkDown]
  refine (if_pos (by simp [tandem, live, late, other])).trans ?_
  rw [State.elapse_link]

theorem exec_linkUp_back {l : Fin 2} (tandem : s.tandemed = true) (down : (s.link l.val).up = false)
    (run : (s.link l.val).runMt + 1000000 ≤ (s.elapse dt).mt)
    (live : (s.elapse dt).mt < (s.link l.val).lastMt + tSilent) : exec (.linkUp dt l) s =
      .next ((s.elapse dt).setLink l.val { s.link l.val with up := true, down := false }) := by
  rw [exec_linkUp]
  refine (if_pos (by simp [tandem, down, run, live])).trans ?_
  rw [State.elapse_link]

theorem exec_interlockAgreement_ends (agree : s.tdm.ilkRun = 0) (long : s.tdm.ilkAgreeMt + 1000000000 ≤ (s.elapse dt).mt)
    (flag : s.rdb .tdm R.PAGE.FLAGS 15 = true) : exec (.interlockAgreement dt) s =
      .next (((s.elapse dt).wrb .tdm R.PAGE.FLAGS 15 false).pageLine .tdm) := by
  rw [exec_interlockAgreement]
  exact if_pos (by simp [agree, long, flag])

theorem exec_heartbeatSend_due (speaks : s.mode.speaks = true) (tandem : s.tandemed = true)
    (due : (s.elapse dt).mt % 20000 = 0) (once : s.tdm.beatMt ≠ (s.elapse dt).mt) : ∃ t, exec (.heartbeatSend dt) s = .next t ∧
      t.sent = .tandem 0x01 (s.tdm.lseqSent + 1) (s.elapse dt).beatBytes :: s.sent ∧
      t.tdm.lseqSent = s.tdm.lseqSent + 1 ∧ t.tdm.beatMt = (s.elapse dt).mt ∧ t.safe.tpoSince = (s.elapse dt).tpDriving := by
  have frame := State.sendFrame_tandemed 0x01 (s.elapse dt).beatBytes ((s.elapse_tandemed dt).trans tandem)
  rw [exec_heartbeatSend]
  refine ⟨_, if_pos (by simp [speaks, tandem, due, once]), ?_⟩
  rw [frame, State.elapse_tdm]
  exact ⟨congrArg (_ :: ·) (s.elapse_sent dt), rfl, rfl, rfl⟩

theorem exec_heartbeatSend_idle (h : s.mode.speaks = false ∨ s.tandemed = false ∨ (s.elapse dt).mt % 20000 ≠ 0 ∨
    s.tdm.beatMt = (s.elapse dt).mt) : exec (.heartbeatSend dt) s = .next (s.elapse dt) := by
  rw [exec_heartbeatSend]
  refine if_neg fun due => ?_
  simp only [Bool.and_eq_true, bne_iff_ne, decide_eq_true_eq, State.elapse_mode, State.elapse_tandemed,
    State.elapse_tdm] at due
  obtain ⟨⟨⟨speaks, tandem⟩, multiple⟩, once⟩ := due
  simp [speaks, tandem, multiple, once] at h

end

end Sys2Proof.Machine
end

section
/-! SUPPORT. Health records, service frames and the mirrored servo state (R278, R282, R290). -/

namespace Sys2Proof.Machine

open Sys2Proof

/-- HEALTHw, and PHEALTHw after them, have no reserved bit. -/
theorem health_row {w : Nat} (h : w < 32) : FullRow .tdm (R.TDM.HEALTH w) := by
  have all : ∀ w : Fin 32, (findRow .tdm (R.TDM.HEALTH w)).map RegRow.mask = some (2 ^ 32 - 1) := by decide +kernel
  exact .of (all ⟨w, h⟩)

/-- A word of a record placed in registers reads as it stands in the record. -/
theorem State.wrWords_rdn (s : State) {p : Page} {o n w : Nat} (m : List Byte) (h : w < n) (row : FullRow p (o + 4 * w)) :
    (s.wrWords p o n m).rdn p (o + 4 * w) = leAt m (4 * w) 4 := by
  have stored := State.wrEach_rdn (p := p) (o := fun w => o + 4 * w) (f := fun _ w => leAt m (4 * w) 4) s
    (fun _ _ _ _ => rfl) (fun a b e => by simpa using e) h row
  exact stored.trans (Nat.mod_eq_of_lt (leAt_lt m (4 * w) 4))

theorem health_eq (w : Nat) : R.TDM.HEALTH w = R.TDM.HEALTH 0 + 4 * w := rfl
theorem phealth_eq (w : Nat) : R.TDM.PHEALTH w = R.TDM.PHEALTH 0 + 4 * w := rfl

theorem phealth_row {w : Nat} (h : w < 16) : FullRow .tdm (R.TDM.PHEALTH w) := by
  have place : R.TDM.PHEALTH w = R.TDM.HEALTH (16 + w) := by unfold R.TDM.PHEALTH R.TDM.HEALTH; omega
  rw [place]
  exact health_row (by omega)

theorem State.sendHealth_shown (s : State) {w : Nat} (h : w < 16) :
    s.sendHealth.rdn .tdm (R.TDM.HEALTH w) = leAt s.healthBytes (4 * w) 4 := by
  rw [health_eq]
  exact State.wrWords_rdn _ _ h (health_row (by omega))

section
variable {s x : State} {dt : Nat} {f : TandemHead} {b : List Byte}

theorem exec_healthSend_due (role : s.mode.isRole = true) (due : (s.elapse dt).mt % 1000000000 = 0)
    (once : s.tdm.healthMt ≠ (s.elapse dt).mt) : exec (.healthSend dt) s =
      .next ((s.elapse dt).setTdm (fun t => { t with healthMt := (s.elapse dt).mt })).sendHealth := by
  rw [exec_healthSend]
  exact if_pos (by simp [role, due, once])

theorem exec_healthSend_idle (h : s.mode.isRole = false ∨ (s.elapse dt).mt % 1000000000 ≠ 0 ∨
    s.tdm.healthMt = (s.elapse dt).mt) : exec (.healthSend dt) s = .next (s.elapse dt) := by
  rw [exec_healthSend]
  refine if_neg fun due => ?_
  simp only [Bool.and_eq_true, bne_iff_ne, decide_eq_true_eq, State.elapse_mode, State.elapse_tdm] at due
  obtain ⟨⟨role, multiple⟩, once⟩ := due
  simp [role, multiple, once] at h

theorem exec_healthNow_role (role : s.mode.isRole = true) (served : s.pageServed .tdm = true) :
    exec (.healthNow dt) s = .next (s.elapse dt).sendHealth := by
  rw [exec_healthNow]
  unfold execHealthNow State.hostDo State.healthNow
  rw [if_pos (by simpa using served)]
  exact congrArg _ (if_pos (by simpa using role))

theorem exec_health_taken (taken : (s.elapse dt).takeFrame 0x09 f b = (true, x)) (size : b.length = 64)
    (check : crc32c (b.take 60) = leAt b 60 4) : exec (.health dt f b) s =
      .next ((x.setTdm (fun t => { t with peerHealthMt := some x.mt })).wrWords .tdm (R.TDM.PHEALTH 0) 16 b) := by
  rw [exec_health]
  unfold execHealth
  rw [taken]
  exact if_pos (by simp [size, check])

theorem exec_healthStale_old (tandem : s.tandemed = true) (heard : s.tdm.peer.heard = true) (speaks : s.tdm.silent = false)
    (role : 4 ≤ s.tdm.peer.state ∧ s.tdm.peer.state ≤ 6)
    (old : ∀ m, s.tdm.peerHealthMt = some m → m + 3000000000 ≤ (s.elapse dt).mt)
    (long : s.tdm.peerRoleMt + 3000000000 ≤ (s.elapse dt).mt) :
    exec (.healthStale dt) s = .next ((s.elapse dt).flag .tdm 17) := by
  have stale : s.tdm.peerHealthMt.all (fun m => decide (m + 3000000000 ≤ (s.elapse dt).mt)) = true := by
    simpa [Option.all_eq_true] using old
  rw [exec_healthStale]
  exact if_pos (by simp [tandem, heard, speaks, PeerSt.inRole, role, stale, long])

theorem exec_tandemService_request {st : Nat} {ans : List Byte} {y : State}
    (taken : (s.elapse dt).takeFrame 0x0B f b = (true, x)) (kind : byteAt b 0 = 1)
    (ring : byteAt b 1 = 120 ∨ byteAt b 1 = 121) (run : x.spiFrame (b.drop 8) = (st, ans, y)) :
    exec (.tandemService dt f b) s = .next (y.sendFrame 0x0B
      ([2, BitVec.ofNat 8 (byteAt b 1 + 2)] ++ leBytes 2 st ++ slice b 4 4 ++ ans)) := by
  rw [exec_tandemService]
  unfold execTandemService
  rw [taken]
  refine (if_neg (by decide)).trans ((if_pos (by simpa [kind] using ring)).trans ?_)
  dsimp only
  rw [run]

theorem exec_tandemService_reply (taken : (s.elapse dt).takeFrame 0x0B f b = (true, x)) (kind : byteAt b 0 = 2)
    (ring : byteAt b 1 = 122 ∨ byteAt b 1 = 123) :
    exec (.tandemService dt f b) s = .next (x.ringPush (byteAt b 1) 0 b) := by
  rw [exec_tandemService]
  unfold execTandemService
  rw [taken]
  exact (if_neg (by decide)).trans ((if_neg (by simp [kind])).trans (if_pos (by simpa [kind] using ring)))

/-- A mirrored item goes out with the next MSEQ and the next LSEQ. -/
theorem State.mirrorItem_sent (s : State) (kind effect : Nat) (content : List Byte) (h : s.tandemed = true) :
    (s.mirrorItem kind effect content).sent = .tandem 0x02 (s.tdm.lseqSent + 1)
      (EvItem.bytes ⟨max s.tdm.mseqOut s.tdm.mseqIn + 1, kind, effect, content⟩) :: s.sent :=
  congrArg State.sent (State.sendFrame_tandemed
    (s := { s with tdm := { s.tdm with mseqOut := max s.tdm.mseqOut s.tdm.mseqIn + 1 } }) 0x02 _ h)

theorem State.mirrorItem_sessionMt (s : State) (kind effect : Nat) (content : List Byte) :
    (s.mirrorItem kind effect content).tdm.sessionMt = s.tdm.sessionMt := by
  unfold State.mirrorItem State.sendFrame
  extract_lets
  split <;> rfl

theorem exec_networkSessionStateMirror_due (active : s.mode = .active) (tandem : s.tandemed = true)
    (late : s.tdm.sessionMt + 1000000000 ≤ (s.elapse dt).mt) : exec (.networkSessionStateMirror dt) s =
      .next (((s.elapse dt).setTdm (fun t => { t with sessionMt := (s.elapse dt).mt })).mirrorItem 0x0007
        ((s.elapse dt).tick + 2) (s.elapse dt).timeItem) := by
  rw [exec_networkSessionStateMirror]
  exact if_pos (by simp [active, tandem, late])

theorem exec_networkSessionStateMirror_idle
    (h : s.mode ≠ .active ∨ s.tandemed = false ∨ (s.elapse dt).mt < s.tdm.sessionMt + 1000000000) :
    exec (.networkSessionStateMirror dt) s = .next (s.elapse dt) := by
  rw [exec_networkSessionStateMirror]
  refine if_neg fun due => ?_
  simp only [Bool.and_eq_true, decide_eq_true_eq, State.elapse_mode, State.elapse_tandemed, State.elapse_tdm] at due
  obtain ⟨⟨active, tandem⟩, late⟩ := due
  simp [active, tandem] at h
  omega

end

end Sys2Proof.Machine
end

section
/-! SETTLEMENT. Links, heartbeats, interlock agreement, HEALTH, SERVICE and the mirrored servo (R56, R278, R279, R282, R290,
R294, R309). -/

open Sys2Proof Sys2Proof.Machine

/-- Settles O20: each command by what it comes to; a heartbeat is kept before anything acts on it, and nothing that does
changes what was heard. -/
theorem heartbeatsHealthAndServiceComplete : Obligations.HeartbeatsHealthAndServiceComplete := by
  refine ⟨⟨?_, ?_, ?_, fun dt f b s x taken position => exec_heartbeat_own taken position, ?_, ?_, ?_, ?_⟩,
    ?_, ?_, fun dt s role served => exec_healthNow_role role served, fun s w h => s.sendHealth_shown h, ?_, ?_,
    fun dt f b s x st ans y taken kind ring run => exec_tandemService_request taken kind ring run,
    fun dt f b s x taken kind ring => exec_tandemService_reply taken kind ring, ?_, ?_⟩
  · rintro dt s e rfl speaks tandem due once
    exact exec_heartbeatSend_due speaks tandem due once
  · rintro dt s e rfl h
    exact exec_heartbeatSend_idle h
  · rintro dt f b s e x rfl taken position join
    have ran := exec_heartbeat_heard taken position join
    obtain ⟨sys, peer, term, -⟩ := State.takeFrame_keeps taken
    rw [State.elapse_tdm] at peer term
    rw [peer, show x.mt = (s.elapse dt).mt from congrArg SysSt.mt sys] at ran
    generalize kept : x.setTdm (fun t => t.hear b (s.elapse dt).mt) = y at ran
    have heardAs : y.tdm = x.tdm.hear b (s.elapse dt).mt := by rw [← kept]; rfl
    have same : y.sys = (s.elapse dt).sys := by rw [← kept]; exact sys
    have mt : y.mt = (s.elapse dt).mt := congrArg SysSt.mt same
    have mode : y.mode = s.mode := (congrArg SysSt.mode same).trans (s.elapse_mode dt)
    have slew := State.followPeer_within y s.mt s.tdm.peer.heardMt
    have heard : SameHearing y (y.followPeer s.mt s.tdm.peer.heardMt).beatFollows :=
      (SameHearing.within slew rfl).trans (State.beatFollows_hearing _)
    have rest := State.beatFollows_within (y.followPeer s.mt s.tdm.peer.heardMt)
    refine ⟨_, ran, heard.peer.trans (congrArg TdmSt.peer heardAs), heard.silent.trans (congrArg TdmSt.silent heardAs),
      heard.term.trans ((congrArg TdmSt.term heardAs).trans (congrArg (max · _) term)), (rest.mode_same rfl).trans ((slew.mode_same rfl).trans mode),
      fun other => ?_, fun standby => ?_⟩
    · have stays := State.followPeer_stays s.mt s.tdm.peer.heardMt fun h => other (mode.symm.trans h.1)
      rw [stays] at rest ⊢
      exact ⟨(rest.mt_same rfl).trans mt, (rest.drive rfl).trans (congrArg SysSt.driveEn same)⟩
    · have bounds := State.followPeer_mt (s := y) (was := s.mt) s.tdm.peer.heardMt (mt ▸ s.mt_le_elapse dt)
        ((s.elapse_tick dt).symm.trans (congrArg (· / 500000) mt.symm))
      rw [← rest.mt_same rfl, ← rest.tick_same rfl, mt] at bounds
      obtain ⟨ahead, upper, lower, tick⟩ := bounds
      exact ⟨ahead, upper, lower, tick.trans ((congrArg (· / 500000) mt).trans (s.elapse_tick dt))⟩
  · rintro dt s e rfl tandem heard late
    have lost := (s.elapse dt).peerLost_within
    refine ⟨_, exec_peerSilent_lost tandem heard late, (State.standbyAlone_hearing _).silent.trans (State.peerLost_silent _),
      State.standbyAlone_flag _ (State.peerLost_flag _),
      (State.standbyAlone_mode _).trans ((lost.mode_same rfl).trans (s.elapse_mode dt)), fun standby settled gone => ?_⟩
    have role : (s.elapse dt).peerLost.mode = .standby := ((lost.mode_same rfl).trans (s.elapse_mode dt)).trans standby
    have witness : (s.elapse dt).peerLost.tdm.witLost = true := by
      rw [State.peerLost_settled (by rwa [State.elapse_tdm]), State.flag_tdm]
      exact (congrArg TdmSt.witLost (s.elapse_tdm dt)).trans gone
    unfold State.standbyAlone
    rw [if_pos role, if_pos witness]
    exact State.doubleFault_double 1 role (State.peerLost_silent _)
  · rintro dt l s e rfl tandem live late other
    refine ⟨_, exec_linkDown_lost tandem live late other, ?_, State.tdmFlag_rdb _ (by decide) (by decide), ?_⟩
    · unfold State.link
      rw [State.flag_tdm, State.inc_tdm]
      exact State.setLink_same ..
    · have small : R.TDM.LINKDN0 + 4 * l.val < 0x1000 := by unfold R.TDM.LINKDN0; omega
      have apart : R.TDM.LINKDN0 + 4 * l.val ≠ R.PAGE.FLAGS := by unfold R.TDM.LINKDN0 R.PAGE.FLAGS; omega
      rw [State.rdn_of_rd (State.tdmFlag_rd _ _ small apart), (linkdn_row l).rdn_inc]
      exact congrArg (satAdd 32 · 1) (s.elapse_rdn dt .tdm _)
  · rintro dt l s e rfl tandem down run live
    exact exec_linkUp_back tandem down run live
  · rintro dt s e rfl agree long flag
    refine ⟨_, exec_interlockAgreement_ends agree long flag, ?_, ?_⟩
    · rw [State.rdb_of_rd (State.pageLine_rd _ _ (flags_place_ne (by decide) (by decide)))]
      exact State.rdb_wrb_same false (findRow_flags _) (by decide) (tdmFlags_full (by decide) (by decide))
    · simp
  · rintro dt s e rfl role due once
    exact exec_healthSend_due role due once
  · rintro dt s e rfl h
    exact exec_healthSend_idle h
  · intro dt f b s x taken size check
    obtain ⟨sys, -⟩ := State.takeFrame_keeps taken
    have now : x.mt = (s.elapse dt).mt := congrArg SysSt.mt sys
    refine ⟨_, exec_health_taken taken size check, ?_, fun w h => ?_⟩
    · rw [(State.wrWords_within ..).tdm rfl, ← now]
      rfl
    · rw [phealth_eq]
      exact State.wrWords_rdn _ _ h (phealth_row h)
  · rintro dt s e rfl tandem heard speaks lo hi old long
    exact exec_healthStale_old tandem heard speaks ⟨lo, hi⟩ old long
  · rintro dt s e q rfl rfl active tandem late
    have run : ((s.elapse dt).setTdm (fun t => { t with sessionMt := (s.elapse dt).mt })).tandemed = true :=
      (s.elapse_tandemed dt).trans tandem
    refine ⟨_, exec_networkSessionStateMirror_due active tandem late, ?_, State.mirrorItem_sessionMt ..,
      (State.mirrorItem_sent _ _ _ _ run).trans ?_⟩
    · rw [State.mirrorItem_mseqOut]
      show max (s.elapse dt).tdm.mseqOut (s.elapse dt).tdm.mseqIn + 1 = _
      rw [State.elapse_tdm]
    · show Msg.tandem 0x02 ((s.elapse dt).tdm.lseqSent + 1) (EvItem.bytes ⟨max (s.elapse dt).tdm.mseqOut
        (s.elapse dt).tdm.mseqIn + 1, 0x0007, (s.elapse dt).tick + 2, (s.elapse dt).timeItem⟩) :: (s.elapse dt).sent = _
      rw [State.elapse_tdm, State.elapse_sent]
  · rintro dt s e rfl h
    exact exec_networkSessionStateMirror_idle h

end

section
/-! SUPPORT. What the run of a step leaves of the steps that are scheduled (R131 to R137, R148). -/

namespace Sys2Proof.Machine

open Sys2Proof

/-- A part of the state stands. -/
structure Kept {α : Type} (part : State → α) (s t : State) : Prop where
  same : part t = part s

section
variable {α : Type} {part : State → α} {s t u : State}

theorem Kept.refl (s : State) : Kept part s s := ⟨rfl⟩

theorem Kept.trans (h : Kept part s t) (k : Kept part t u) : Kept part s u := ⟨k.same.trans h.same⟩

theorem Kept.ite {c : Prop} [Decidable c] (h : Kept part s t) (k : Kept part s u) : Kept part s (if c then t else u) :=
  ite_ind (Kept part s) h k

theorem Kept.foldl {β : Type} {f : State → β → State} {l : List β} (h : Kept part s t)
    (k : ∀ t a, Kept part t (f t a)) : Kept part s (l.foldl f t) :=
  foldl_ind (Kept part s) h fun t a kept => kept.trans (k t a)

end

/-- The step that is closing, the one that is due and the one that ran stand. -/
abbrev StepsKept (s t : State) : Prop := Kept (fun s => (s.est.closing, s.est.due, s.est.ran)) s t

section
variable {s t : State}

theorem StepsKept.closing (h : StepsKept s t) : t.est.closing = s.est.closing := congrArg Prod.fst h.same

theorem StepsKept.due (h : StepsKept s t) : t.est.due = s.est.due := congrArg (·.2.1) h.same

theorem StepsKept.ran (h : StepsKept s t) : t.est.ran = s.est.ran := congrArg (·.2.2) h.same

/-- What leaves the estimator's state leaves them. -/
theorem StepsKept.within {K : Nat} {ps : List Page} (h : Within K ps s t) (k : K.testBit 16 = false) :
    StepsKept s t := ⟨(congrArg (fun e : EstSt => (e.closing, e.due, e.ran)) (h.est k) :)⟩

end

theorem State.setChan_steps (s : State) (c : Nat) (v : ChanEst) : StepsKept s (s.setChan c v) := ⟨rfl⟩

theorem State.modChan_steps (s : State) (c : Nat) (f : ChanEst → ChanEst) : StepsKept s (s.modChan c f) :=
  s.setChan_steps c _

/-- A register of the estimator's page is stored. -/
theorem StepsKept.wrEst {s t : State} (h : Within 0 [.est] s t) : StepsKept s t := .within h rfl

/-! ### The parts of a channel's step -/

theorem State.learnt_steps (s : State) (code c : Nat) (x : Int) (o n : Nat) :
    StepsKept s (((s.learnEvent code c x).inc .est o).wrb .est R.EST.AEVT n true) :=
  (StepsKept.within (State.learnEvent_within ..) rfl).trans
    (StepsKept.wrEst ((State.inc_within ..).trans (State.wrb_within ..)))

theorem State.gateSample_steps (s : State) (c x : Nat) : StepsKept s (s.gateSample c x) := by
  unfold State.gateSample
  extract_lets h gate gate0 n
  split
  rename_i h' ref taken r' r rm rejected reset noted _ m g _
  have took : StepsKept s taken := (StepsKept.within (State.putHist_within ..) rfl).trans (State.modChan_steps ..)
  have refused : StepsKept s rejected := State.learnt_steps ..
  have again : StepsKept s reset :=
    refused.trans ((StepsKept.within (State.putHist_within ..) rfl).trans (State.modChan_steps ..))
  have recorded : StepsKept s noted :=
    again.trans ((StepsKept.within (State.learnEvent_within ..) rfl).trans (StepsKept.wrEst (State.wrb_within ..)))
  exact .ite (took.trans (State.learnt_steps ..)) (.ite (recorded.trans (StepsKept.within (State.record_within ..) rfl))
    (refused.trans (State.modChan_steps ..)))

theorem State.calFail_steps (s : State) (c : Nat) (x : Int) : StepsKept s (s.calFail c x) :=
  (State.modChan_steps ..).trans (StepsKept.within (State.learnEvent_within ..) rfl)

theorem State.calDone_steps (s : State) (c : Nat) (a : AnchorPt) : StepsKept s (s.calDone c a) := by
  unfold State.calDone
  extract_lets v leg d g
  refine .ite ?_ (State.calFail_steps ..)
  exact ((StepsKept.within (State.putHist_within ..) rfl).trans (State.modChan_steps ..)).trans
    (StepsKept.within (State.learnEvent_within ..) rfl)

theorem State.calAdvance_steps (s : State) (c : Nat) (a : AnchorPt) : StepsKept s (s.calAdvance c a) := by
  unfold State.calAdvance
  extract_lets v hi lo t
  have phase : StepsKept s t :=
    .ite (State.setChan_steps ..) (.ite (State.setChan_steps ..) (.ite (State.calDone_steps ..) (.refl s)))
  exact .ite (phase.trans (StepsKept.within (State.calFinish_within ..) rfl)) phase

theorem State.anchorDone_steps (s : State) (d : StepDue) (c soc : Nat) : StepsKept s (s.anchorDone d c soc) := by
  unfold State.anchorDone
  extract_lets r v stored dSoc dAcc cap fl capKept anchorKept known x learnt advanced queued counted shown
  have edited : StepsKept s known :=
    (StepsKept.within ((State.jrnEdit_within ..).trans (State.jrnEdit_within ..)) rfl).trans (State.modChan_steps ..)
  have sampled : StepsKept s learnt :=
    .ite (.ite (edited.trans (State.gateSample_steps ..)) (edited.trans (State.learnt_steps ..))) edited
  have calibrated : StepsKept s advanced := sampled.trans (State.calAdvance_steps ..)
  have saved : StepsKept s queued := calibrated.trans (StepsKept.within (State.jrnQueue_within ..) rfl)
  have stamped : StepsKept s shown :=
    (saved.trans (StepsKept.wrEst ((State.inc_within ..).trans (State.wrb_within ..)))).trans
      (StepsKept.wrEst (State.wr64_within ..))
  exact stamped.trans (StepsKept.within (State.wayEntry_within ..) rfl)

theorem State.disUpdate_steps (s : State) (d : StepDue) (c n : Nat) (anchor : Bool) :
    StepsKept s (s.disUpdate d c n anchor) := by
  unfold State.disUpdate
  extract_lets v k diff t ovr empty
  have noted : StepsKept s t := State.setChan_steps ..
  refine .ite (noted.trans (State.modChan_steps ..)) ?_
  split
  extract_lets u
  have judged : StepsKept s u := noted.trans (State.modChan_steps ..)
  have emptied : StepsKept s (u.emptyRecord d c v.soc) := judged.trans (StepsKept.within (State.emptyRecord_within ..) rfl)
  exact .ite (emptied.trans (StepsKept.wrEst (State.wrb_within ..)))
    (.ite (judged.trans (StepsKept.wrEst (State.wrb_within ..))) judged)

theorem State.counted_steps (s : State) (o n k : Nat) : StepsKept s ((s.incBy .est o n).flag .est k) :=
  (StepsKept.wrEst (State.incBy_within ..)).trans (StepsKept.within (State.flag_within ..) rfl)

theorem State.initChan_steps (s : State) (p : PSet) (d : StepDue) (c : Nat) (hs : List HypV) :
    StepsKept s (s.initChan p d c hs) := by
  unfold State.initChan
  exact State.modChan_steps ..

/-- The step of a channel. -/
theorem State.chanStep_steps (s : State) (d : StepDue) (c : Nat) (q : Int) (lost : Nat) :
    StepsKept s (s.chanStep d c q lost) := by
  unfold State.chanStep
  extract_lets f p a v gap catchUp n lost' dt qAll halfSeen z mask begun env again vobs anchor sigma
  have started : StepsKept s begun := State.modChan_steps ..
  split
  split
  split
  extract_lets stepped meant reinit satur dis anchored isc hv rt soc st
  have ran : StepsKept s stepped := started.trans (.ite (State.initChan_steps ..) (State.modChan_steps ..))
  have weighed : StepsKept s meant := ran.trans (State.modChan_steps ..)
  have fresh : StepsKept s reinit := .ite (weighed.trans (State.counted_steps ..)) weighed
  have full : StepsKept s satur := .ite (fresh.trans (State.counted_steps ..)) fresh
  have compared : StepsKept s dis := .ite full (full.trans (State.disUpdate_steps ..))
  have tied : StepsKept s anchored := .ite (compared.trans (State.anchorDone_steps ..)) compared
  have watched : StepsKept s isc := .ite tied (tied.trans (State.setChan_steps ..))
  exact watched.trans (State.modChan_steps ..)

/-! ### The run of a step (R132) -/

theorem State.estStep_steps (s : State) (d : StepDue) (str : Int) (lost : Nat) : StepsKept s (s.estStep d str lost) := by
  unfold State.estStep
  extract_lets t u
  have counted : StepsKept s t := .ite (.refl s) (State.counted_steps ..)
  refine .ite ?_ (counted.trans (.foldl (.refl _) fun t c => .ite (State.modChan_steps ..) (.refl t)))
  have stepped : StepsKept s u := counted.trans (.foldl (.refl _) fun t c =>
    (State.modChan_steps ..).trans (.ite (State.modChan_steps ..) (State.chanStep_steps ..)))
  exact .ite (stepped.trans (StepsKept.within (State.jrnPut_within ..) rfl)) stepped

theorem State.thermStep_steps (s : State) (d : StepDue) (q : Nat → Int) : StepsKept s (s.thermStep d q) := by
  unfold State.thermStep
  extract_lets old nodes heated last judged
  have moved : StepsKept s nodes :=
    .ite (StepsKept.within (State.thermInit_within ..) rfl) (.ite (.foldl (.refl s) fun t c => ?_) (.refl s))
  · have warmed : StepsKept s heated := moved.trans (.foldl (.refl _) fun t c => ⟨rfl⟩)
    have rated : StepsKept s judged := .ite (warmed.trans (.foldl (.refl _) fun t c =>
      StepsKept.within ((State.judgeSensor_within ..).trans (State.judgeSensor_within ..)) rfl)) moved
    exact rated.trans (.foldl (.refl _) fun t c => StepsKept.within (State.protTemp_within ..) rfl)
  · exact .ite (StepsKept.within (State.setTherm_within ..) rfl) (.refl t)

/-- The step that is due begins: it counts as run, on shadow copies, with the Waybill entries of its own stages. -/
def State.stepBegun (s : State) (d : StepDue) (str : Int) (lost : Nat) (last : Int) : State :=
  { s with
    way := { s.way with entries := d.entries }
    est := { s.est with
      due := none
      ran := some d
      shadow := s.est.chan
      lastQ := last
      ranStr := str
      ranLost := lost
      jrnWas := s.jrn } }

/-- At the end of a forecast period the channels' state is kept for the search (R69, R171). -/
def State.forecastKept (s : State) (d : StepDue) : State :=
  if s.running .est && d.sb % 100 = 99 then
    { s with est := { s.est with
      fcStage := some d.sb
      fcChan := s.est.chan
      fcEnv := s.est.env
      fcPair := s.presentChans.map (fun c => (c, (s.socPair c, s.capOf c))) } }
  else s

/-- Every channel's step, the cross-checks, the plan, the readback check, the thermal step and the demands. -/
def State.stepWorked (s : State) (d : StepDue) (str : Int) (lost : Nat) (x : LaneObservations) : State :=
  let s := s.estStep d str lost
  let s := if s.running .est then s.crossCheck d.sb x else s
  ((((s.balStep d).readbackAll d).thermStep d (stepQ d str)).demands d).demandsDue d.sb |>.forecastKept d

/-- The Waybill entries the step made are its own; those of the running stage stand. -/
def State.stepDone (s : State) (d : StepDue) (now : List (Nat × List Byte)) : State :=
  { s with
    est := { s.est with ran := some { d with entries := s.way.entries } }
    way := { s.way with entries := now } }

theorem exec_stageStepRun_due {s : State} {d : StepDue} {str last : Int} {lost : Nat} (dt : Nat) (x : LaneObservations)
    (h : s.est.due = some d) (charge : stepCharge s.est.lastQ d.chgs = (str, lost, last)) :
    exec (.stageStepRun dt x) s = .next ((((s.elapse dt).stepBegun d str lost last).stepWorked d str lost x).stepDone d
      (s.elapse dt).way.entries) := by
  rw [← s.elapse_est dt] at h charge
  rw [exec_stageStepRun]
  unfold execStageStepRun
  extract_lets e
  rw [show s.elapse dt = e from rfl] at h charge ⊢
  clear_value e
  split
  · rename_i none
    rw [none] at h
    cases h
  · rename_i d' due
    obtain rfl : d' = d := Option.some.inj (due.symm.trans h)
    rw [charge]
    dsimp -zeta only
    extract_lets entered est0 begun stepped checked planned read warmed asked est1 kept
    have began : begun = e.stepBegun d' str lost last := rfl
    have keeps : kept = asked.forecastKept d' := rfl
    have works : begun.stepWorked d' str lost x = asked.forecastKept d' := rfl
    rw [← began, works, ← keeps]
    rfl

theorem exec_stageStepRun_none {s : State} (dt : Nat) (x : LaneObservations) (h : s.est.due = none) :
    exec (.stageStepRun dt x) s = .next (s.elapse dt) := by
  rw [exec_stageStepRun]
  unfold execStageStepRun
  extract_lets e
  rw [show e.est.due = none from (congrArg EstSt.due (s.elapse_est dt)).trans h]

theorem State.forecastKept_within (s : State) (d : StepDue) : Within 0x10000 [] s (s.forecastKept d) := by
  unfold State.forecastKept
  split
  · exact .setEst s rfl
  · exact .refl s

theorem State.forecastKept_steps (s : State) (d : StepDue) : StepsKept s (s.forecastKept d) :=
  .ite ⟨rfl⟩ (.refl s)

section
variable (s : State) (d : StepDue) (str : Int) (lost : Nat) (x : LaneObservations)

theorem State.stepWorked_steps : StepsKept s (s.stepWorked d str lost x) := by
  unfold State.stepWorked
  extract_lets t u
  have stepped : StepsKept s t := State.estStep_steps ..
  have checked : StepsKept s u := .ite (stepped.trans (StepsKept.within (State.crossCheck_within ..) rfl)) stepped
  refine checked.trans (Kept.trans ?_ (State.forecastKept_steps ..))
  refine Kept.trans ?_ ((StepsKept.within (State.demands_within ..) rfl).trans
    (StepsKept.within (State.demandsDue_within ..) rfl))
  exact ((StepsKept.within (State.balStep_within ..) rfl).trans (StepsKept.within (State.readbackAll_within ..) rfl)).trans
    (State.thermStep_steps ..)

theorem State.stepWorked_within : Within 0xf10080001a03d8280 [] s (s.stepWorked d str lost x) := by
  unfold State.stepWorked
  extract_lets t u
  have stepped : Within 0xf10080001a03d8280 [] s t := (State.estStep_within ..).mono rfl
  have checked : Within 0xf10080001a03d8280 [] s u := .ite (stepped.trans ((State.crossCheck_within ..).mono rfl)) stepped
  have planned : Within 0xf10080001a03d8280 [] u (u.balStep d) := (State.balStep_within ..).mono rfl
  have read : Within 0xf10080001a03d8280 [] u ((u.balStep d).readbackAll d) :=
    planned.trans ((State.readbackAll_within ..).mono rfl)
  have warmed : Within 0xf10080001a03d8280 [] u (((u.balStep d).readbackAll d).thermStep d (stepQ d str)) :=
    read.trans ((State.thermStep_within ..).mono rfl)
  refine checked.trans ((warmed.trans ?_).trans ((State.forecastKept_within ..).mono rfl))
  exact ((State.demands_within ..).mono rfl).trans ((State.demandsDue_within ..).mono rfl)

end

end Sys2Proof.Machine
end

section
/-! SUPPORT. What an entry into OUT leaves of the time and of the image on trial (R21, R413), and the runs that may end in
one. -/

namespace Sys2Proof.Machine

open Sys2Proof

/-- The time stands, and the image is as much on trial as it was. -/
abbrev TrialKept (s t : State) : Prop := Kept (fun s => (s.sys.mt, s.mram.fw.trial)) s t

section
variable {s t : State}

theorem TrialKept.of (mt : t.sys.mt = s.sys.mt) (trial : t.mram.fw.trial = s.mram.fw.trial) : TrialKept s t :=
  ⟨Prod.ext mt trial⟩

theorem TrialKept.mt (h : TrialKept s t) : t.sys.mt = s.sys.mt := congrArg Prod.fst h.same

theorem TrialKept.trial (h : TrialKept s t) : t.mram.fw.trial = s.mram.fw.trial := congrArg Prod.snd h.same

theorem TrialKept.within {K : Nat} {ps : List Page} (h : Within K ps s t) (mt : K.testBit 1 = false)
    (images : K.testBit 44 = false) : TrialKept s t := .of (h.mt mt) (congrArg FwMram.trial (h.images images))

end

/-- With no image on trial there is no attempt to fail. -/
theorem State.trialOut_of_untried {s : State} (h : s.mram.fw.trial = false) : s.trialOut = s :=
  if_neg (by simp [State.fw, h])

theorem State.forceSafe_trialKept (s : State) : TrialKept s s.forceSafe := by
  have low : TrialKept s ((List.range 8).foldl State.pairLow s) :=
    .foldl (.refl s) fun t m => TrialKept.within (State.pairLow_within ..) rfl rfl
  unfold State.forceSafe
  generalize (List.range 8).foldl State.pairLow s = t at low ⊢
  exact TrialKept.of low.mt low.trial

theorem State.outEntry_trialKept (s : State) (n : Nat) : TrialKept s (s.outEntry n) := by
  unfold State.outEntry
  split
  · extract_lets prior safe sent recorded shown
    have booked : TrialKept s (s.bookRole false) := .of rfl (s.bookRole_fw false).2
    have forced : TrialKept s safe := booked.trans (State.forceSafe_trialKept _)
    have told : TrialKept s sent := forced.trans (TrialKept.within (State.sendFrame_within ..) rfl rfl)
    have written : TrialKept s recorded := told.trans (TrialKept.within (State.record_within ..) rfl rfl)
    have caused : TrialKept s shown := written.trans (TrialKept.within (State.wrf_within ..) rfl rfl)
    clear_value shown
    exact TrialKept.of caused.mt caused.trial
  · refine .ite (.ite ?_ (TrialKept.within (State.incf_within ..) rfl rfl)) (.refl s)
    extract_lets queue noted
    have grown : TrialKept s noted := ⟨rfl⟩
    clear_value noted
    exact grown.trans (TrialKept.within (State.wrf_within ..) rfl rfl)

theorem State.standbyFault_trialKept (s : State) : TrialKept s s.standbyFault := by
  unfold State.standbyFault
  extract_lets win recent t
  have kept : TrialKept s t := .within (State.setTdm_within ..) rfl rfl
  exact .ite (kept.trans (State.outEntry_trialKept ..)) kept

theorem State.compareStage_trialKept (s : State) : TrialKept s s.compareStage := by
  unfold State.compareStage
  extract_lets a b bad common plan t u v w
  have cleared : TrialKept s t := .within (State.setTdm_within ..) rfl rfl
  have missed (r : State) (x : Bool) (i n : Nat) : TrialKept r (r.mismatch false x i n) :=
    TrialKept.within (State.mismatch_within ..) rfl rfl
  have asks (r : State) (l : List Nat) : TrialKept r (r.askRepair 0 l) := .within (State.askRepair_within ..) rfl rfl
  have planned : TrialKept s u := .ite (cleared.trans ((missed ..).trans (asks ..))) cleared
  have judged : TrialKept s v := .foldl planned fun r c => missed ..
  have asked : TrialKept s w := .ite judged (judged.trans (asks ..))
  exact .ite (asked.trans (State.standbyFault_trialKept _)) (.refl s)

end Sys2Proof.Machine
end

section
/-! SUPPORT. Lanes that retire when test vectors end (R186 to R188, R192). -/

namespace Sys2Proof.Machine

open Sys2Proof

/-- The lanes that have retired and those under test stand, with the time and what is on trial. -/
abbrev LanesKept (s t : State) : Prop :=
  Kept (fun s => ((s.ost.retired, s.ost.testing), (s.sys.mt, s.mram.fw.trial))) s t

section
variable {s t : State}

theorem LanesKept.retired (h : LanesKept s t) : t.ost.retired = s.ost.retired := congrArg (·.1.1) h.same

theorem LanesKept.testing (h : LanesKept s t) : t.ost.testing = s.ost.testing := congrArg (·.1.2) h.same

theorem LanesKept.trial (h : LanesKept s t) : TrialKept s t := ⟨congrArg Prod.snd h.same⟩

theorem LanesKept.of {K : Nat} {ps : List Page} (h : Within K ps s t) (ost : K.testBit 18 = false)
    (trial : TrialKept s t) : LanesKept s t :=
  ⟨Prod.ext (congrArg (fun o : OstSt => (o.retired, o.testing)) (h.ost ost)) trial.same⟩

theorem LanesKept.within {K : Nat} {ps : List Page} (h : Within K ps s t) (ost : K.testBit 18 = false)
    (mt : K.testBit 1 = false) (images : K.testBit 44 = false) : LanesKept s t := .of h ost (TrialKept.within h mt images)

end

theorem State.migFail_lanes (s : State) : LanesKept s s.migFail := .within (State.migFail_within ..) rfl rfl rfl

theorem State.ostShow_lanes (s : State) (stage : Nat) : LanesKept s (s.ostShow stage) :=
  LanesKept.within (State.ostShow_within ..) rfl rfl rfl

theorem State.place_lanes (s : State) (m : Bool) (c : Nat) : LanesKept s (s.place m c) := by
  unfold State.place
  split
  · exact ⟨rfl⟩
  · extract_lets t
    have dropped : LanesKept s (s.dropHarness c) := ⟨rfl⟩
    have failed : LanesKept s t := dropped.trans (State.migFail_lanes _)
    clear_value t
    exact failed.trans ⟨rfl⟩

theorem State.unstep_lanes (s : State) (c : Nat) : LanesKept s (s.unstep c) := by
  unfold State.unstep
  extract_lets e was copy q v r jrn ost t
  have noted : LanesKept s t := ⟨rfl⟩
  clear_value t
  have back : LanesKept t (t.setChan c { v with acc := signed 96 (unsign 96 (was.acc + q)) }) := ⟨rfl⟩
  exact (noted.trans back).trans (LanesKept.within (State.chanHold_within ..) rfl rfl rfl)

theorem State.recheck_lanes (s : State) (l : Nat) : LanesKept s (s.recheck l) := by
  unfold State.recheck
  split
  · exact .refl s
  · split
    · exact .refl s
    · extract_lets k' ost t
      have named : LanesKept s t := ⟨rfl⟩
      clear_value t
      exact named.trans (LanesKept.within (State.xlast_within ..) rfl rfl rfl)

theorem State.againBad_lanes (s : State) (owner : Nat) : LanesKept s (s.againBad owner) := ⟨rfl⟩

/-- Lanes of `ls` retire, and no other one does. -/
structure Retires (ls : List Nat) (s t : State) : Prop where
  kept : ∀ n ∈ s.ost.retired, n ∈ t.ost.retired
  added : ∀ n ∈ t.ost.retired, n ∈ s.ost.retired ∨ n ∈ ls
  testing : ∀ n ∈ t.ost.testing, n ∈ s.ost.testing
  trial : TrialKept s t

theorem LanesKept.mem {s t : State} {n : Nat} (h : LanesKept s t) (m : n ∈ s.ost.retired) : n ∈ t.ost.retired :=
  h.retired ▸ m

theorem LanesKept.not_testing {s t : State} {n : Nat} (h : LanesKept s t) (m : n ∉ s.ost.testing) :
    n ∉ t.ost.testing := h.testing ▸ m

theorem LanesKept.retires {s t : State} (h : LanesKept s t) (ls : List Nat) : Retires ls s t :=
  ⟨fun _ m => h.mem m, fun _ m => .inl (h.retired ▸ m), fun _ m => h.testing ▸ m, h.trial⟩

theorem Retires.trans {ls : List Nat} {s t u : State} (h : Retires ls s t) (k : Retires ls t u) : Retires ls s u :=
  ⟨fun n m => k.kept n (h.kept n m), fun n m => (k.added n m).elim (h.added n) .inr,
    fun n m => h.testing n (k.testing n m), h.trial.trans k.trial⟩

theorem Retires.mono {ls ms : List Nat} {s t : State} (h : Retires ls s t) (sub : ∀ n ∈ ls, n ∈ ms) : Retires ms s t :=
  ⟨h.kept, fun n m => (h.added n m).imp id (sub n), h.testing, h.trial⟩

theorem Retires.lanes {ls : List Nat} {s t u : State} (h : Retires ls s t) (k : LanesKept t u) : Retires ls s u :=
  h.trans (k.retires ls)

/-- A lane joins those that have retired. -/
def State.laneLeft (s : State) (l : Nat) : State := { s with ost := { s.ost with retired := l :: s.ost.retired } }

/-- Its harnesses move, and the lane is with those that have retired. -/
theorem State.migrate_lanes (s : State) (l : Nat) :
    LanesKept (s.laneLeft l) (s.migrate l) := by
  unfold State.migrate
  extract_lets ost cs t moved all ost'
  have placed : LanesKept (s.laneLeft l) t := .foldl (.refl _) fun u c => State.place_lanes ..
  split
  extract_lets u v
  have used : LanesKept t u := ⟨rfl⟩
  clear_value u
  have undone : LanesKept u v := .foldl (.refl u) fun w c => .ite (.refl w)
    (.ite ((State.unstep_lanes ..).trans (State.migFail_lanes ..)) (State.unstep_lanes ..))
  exact ((placed.trans used).trans undone).trans (State.ostShow_lanes ..)

/-- A lane retires: it, and no other one, is with those that have retired, and none is put under test. -/
theorem State.retire_retires (s : State) (l partner cause ownerT checkerT hyp ch : Nat) :
    Retires [l] s (s.retire l partner cause ownerT checkerT hyp ch) ∧
      l ∈ (s.retire l partner cause ownerT checkerT hyp ch).ost.retired := by
  unfold State.retire
  split
  · rename_i was
    exact ⟨LanesKept.retires (.refl s) [l], List.contains_iff_mem.mp was⟩
  · extract_lets ost r t u v w
    have left : Retires [l] s (r.laneLeft l) :=
      ⟨fun n m => .tail _ m, fun n m => (List.mem_cons.mp m).symm.imp id List.mem_singleton.mpr,
        fun n m => (List.mem_filter.mp m).1, ⟨rfl⟩⟩
    have counted : LanesKept (r.migrate l) u := by
      have flagged : LanesKept (r.migrate l) t := .within (State.flag_within ..) rfl rfl rfl
      exact .ite (flagged.trans (LanesKept.within (State.inc_within ..) rfl rfl rfl)) flagged
    have recorded : LanesKept u w :=
      .trans (LanesKept.within (State.record_within ..) rfl rfl rfl) (LanesKept.within (State.trigger_within ..) rfl rfl rfl)
    have ended : LanesKept w (if 8 < w.ost.retired.length then w.outEntry 4 else w) :=
      .ite (LanesKept.of (State.outEntry_within ..) rfl (State.outEntry_trialKept ..)) (.refl w)
    have moved : LanesKept (r.laneLeft l) _ := (((r.migrate_lanes l).trans counted).trans recorded).trans ended
    exact ⟨left.lanes moved, moved.mem (.head _)⟩

/-! ### The test vectors end (R186, R192) -/

/-- The test vectors of a waking lane have ended. -/
theorem State.bistEnds_waking (s : State) (l : Nat) (o c : Bool) (th : ThirdResult)
    (h : s.ost.testing.contains l = true) :
    TrialKept s (s.bistEnds l o c th) ∧ l ∉ (s.bistEnds l o c th).ost.testing ∧
      (o = true → l ∈ (s.bistEnds l o c th).ost.retired) ∧
      (o = false → (s.bistEnds l o c th).ost.retired = s.ost.retired) := by
  unfold State.bistEnds
  rw [if_pos h]
  extract_lets ost t
  have out : l ∉ t.ost.testing := fun m => by simpa using (List.mem_filter.mp m).2
  have kept : TrialKept s t := ⟨rfl⟩
  have retired : t.ost.retired = s.ost.retired := rfl
  clear_value t
  split
  · rename_i fails
    obtain ⟨left, gone⟩ := t.retire_retires l 0xFF 3 1 0 0 0
    exact ⟨kept.trans left.trial, fun m => out (left.testing l m), fun _ => gone, fun e => by simp [e] at fails⟩
  · rename_i passes
    have same : LanesKept t t.ostRefresh := State.ostShow_lanes ..
    exact ⟨kept.trans same.trial, same.not_testing out, fun e => absurd e passes, fun _ => same.retired.trans retired⟩

theorem State.againBad_of_none {s : State} {l : Nat} (h : s.ost.again.find? (fun k => k.owner = l) = none) :
    s.againBad l = s := by
  have none : s.ost.again.filter (fun k => k.owner = l) = [] := by simpa using h
  have all : s.ost.again.filter (fun k => k.owner != l) = s.ost.again := by simpa using h
  unfold State.againBad
  rw [none, all, List.append_nil]

/-- A comparison that is found among the open checks and the repeated ones is an open check once the repeated ones of
its owner are. -/
theorem State.againBad_find (s : State) (l : Nat) :
    (s.againBad l).ost.checks.find? (fun k => k.owner = l) =
      (s.ost.checks ++ s.ost.again).find? (fun k => k.owner = l) := by
  unfold State.againBad
  simp [List.find?_append, List.find?_filter]

/-- The test vectors of a lane that no comparison names. -/
theorem State.bistEnds_idle (s : State) (l : Nat) (o c : Bool) (th : ThirdResult)
    (h : s.ost.testing.contains l = false)
    (unnamed : (s.ost.checks ++ s.ost.again).find? (fun k => k.owner = l) = none) : s.bistEnds l o c th = s := by
  have again : s.againBad l = s := State.againBad_of_none (Option.or_eq_none_iff.mp (List.find?_append ▸ unnamed)).2
  have found := s.againBad_find l
  rw [unnamed] at found
  unfold State.bistEnds
  rw [if_neg (Bool.eq_false_iff.mp h)]
  extract_lets t
  split
  · exact again
  · rename_i k named
    exact absurd (found.symm.trans named) (by simp)

/-- The test vectors of a comparison that differed: who failed them retires, and no lane but the two does. -/
theorem State.bistEnds_compared (s : State) (l : Nat) (o c : Bool) (th : ThirdResult) (k : LaneCheck)
    (h : s.ost.testing.contains l = false)
    (named : (s.ost.checks ++ s.ost.again).find? (fun k => k.owner = l) = some k) :
    Retires [k.owner, k.checker] s (s.bistEnds l o c th) ∧
      (o = true → k.owner ∈ (s.bistEnds l o c th).ost.retired) ∧
      (c = true → k.checker ∈ (s.bistEnds l o c th).ost.retired) := by
  have found := (s.againBad_find l).trans named
  unfold State.bistEnds
  rw [if_neg (Bool.eq_false_iff.mp h)]
  extract_lets t
  split
  · rename_i unnamed
    exact absurd (found.symm.trans unnamed) (by simp)
  · rename_i ost o' c' x k' first
    obtain rfl : k = k' := Option.some.inj (found.symm.trans first)
    extract_lets u dropOwner dropChecker
    have cleared : LanesKept t u := ⟨rfl⟩
    have taken : Retires [k.owner, k.checker] s u := LanesKept.retires ((s.againBad_lanes l).trans cleared) _
    have owner (r : State) : Retires [k.owner, k.checker] r (dropOwner r) ∧ k.owner ∈ (dropOwner r).ost.retired := by
      obtain ⟨left, gone⟩ := r.retire_retires k.owner k.checker 1 o' c' k.hyp k.ch
      have again := State.recheck_lanes (r.retire k.owner k.checker 1 o' c' k.hyp k.ch) k.owner
      exact ⟨(left.mono (by simp)).lanes again, again.mem gone⟩
    have checker (r : State) :
        Retires [k.owner, k.checker] r (dropChecker r) ∧ k.checker ∈ (dropChecker r).ost.retired := by
      obtain ⟨left, gone⟩ := r.retire_retires k.checker k.owner 1 o' c' k.hyp k.ch
      exact ⟨left.mono (by simp), gone⟩
    clear_value u dropOwner dropChecker
    have both : Retires [k.owner, k.checker] s (dropChecker (dropOwner u)) ∧
        k.owner ∈ (dropChecker (dropOwner u)).ost.retired ∧ k.checker ∈ (dropChecker (dropOwner u)).ost.retired :=
      ⟨(taken.trans (owner u).1).trans (checker _).1, (checker _).1.kept _ (owner u).2, (checker _).2⟩
    have failing : Retires [k.owner, k.checker] u ((dropChecker u).recheck k.checker) ∧
        k.checker ∈ ((dropChecker u).recheck k.checker).ost.retired := by
      have again := State.recheck_lanes (dropChecker u) k.checker
      exact ⟨(checker u).1.lanes again, again.mem (checker u).2⟩
    match o, c with
    | true, false => exact ⟨taken.trans (owner u).1, fun _ => (owner u).2, nofun⟩
    | true, true => exact ⟨both.1, fun _ => both.2.1, fun _ => both.2.2⟩
    | false, true =>
      refine ite_ind (fun r => Retires _ s r ∧ _ ∧ (_ → k.checker ∈ r.ost.retired)) ?_ ?_
      · exact ⟨taken.trans failing.1, nofun, fun _ => failing.2⟩
      · exact ⟨(taken.trans failing.1).lanes (State.againBad_lanes ..), nofun, fun _ => failing.2⟩
    | false, false =>
      match th with
      | .matchesOwner => exact ⟨taken.trans (checker u).1, nofun, nofun⟩
      | .matchesChecker => exact ⟨taken.trans (owner u).1, nofun, nofun⟩
      | .neither => exact ⟨both.1, nofun, nofun⟩

end Sys2Proof.Machine
end

section
/-! SUPPORT. The publication of a step (R148, R185). -/

namespace Sys2Proof.Machine

open Sys2Proof

/-! ### The records that are held back (R185) -/

theorem State.laneHeld_of_ost {s t : State} (h : t.ost = s.ost) (c : Nat) : t.laneHeld c = s.laneHeld c := by
  unfold State.laneHeld State.stepLane State.laneRuns State.inService State.harness
  rw [h]

/-- The state with these records. -/
def State.withRecs (s : State) (r : List (Nat × List Byte)) : State := { s with est := { s.est with recs := r } }

theorem State.withRecs_within (s : State) (r : List (Nat × List Byte)) : Within 0x10000 [] s (s.withRecs r) :=
  .setEst s rfl

theorem State.withRecs_steps (s : State) (r : List (Nat × List Byte)) : StepsKept s (s.withRecs r) := ⟨rfl⟩

/-- Nothing but records is written, and none of a channel that is held back. -/
theorem State.publishRecs_written (s : State) (d : StepDue) :
    ∃ r, s.publishRecs d = s.withRecs r ∧ ∀ c, s.laneHeld c = true → sget [] r c = sget [] s.est.recs c := by
  refine foldl_ind (fun t => ∃ r, t = s.withRecs r ∧ ∀ c, s.laneHeld c = true → sget [] r c = sget [] s.est.recs c)
    ⟨s.est.recs, rfl, fun _ _ => rfl⟩ ?_
  rintro t c ⟨r, rfl, held⟩
  split
  · exact ⟨r, rfl, held⟩
  · rename_i free
    refine ⟨_, rfl, fun k h => (sget_sset_other _ _ _ _ fun e => free ?_).trans (held k h)⟩
    rw [State.laneHeld_of_ost (t := s.withRecs r) (s := s) rfl, ← e, h]
    rfl

theorem exec_stepPublished_none {s : State} (dt : Nat) (h : s.est.ran = none) :
    exec (.stepPublished dt) s = .next (s.elapse dt) := by
  rw [exec_stepPublished]
  unfold execStepPublished
  extract_lets e
  rw [show e.est.ran = none from (congrArg EstSt.ran (s.elapse_est dt)).trans h]

/-- The records of the step, where the estimator runs. -/
def State.stepRecords (s : State) (d : StepDue) : State := if s.running .est then s.publishRecs d else s

/-- A comparison that still has to be settled holds the step back (R185). -/
def State.stepHeld (s : State) : Bool := s.running .est && s.presentChans.any s.laneHeld

theorem State.stepHeld_of_within {K : Nat} {s t : State} (h : Within K [] s t) (pages : K.testBit 4 = false)
    (ost : K.testBit 18 = false) (sns : K.testBit 61 = false) : t.stepHeld = s.stepHeld := by
  unfold State.stepHeld
  rw [h.running_same pages, State.presentChans_of_within h sns, funext (State.laneHeld_of_ost (h.ost ost))]

theorem State.stepRecords_within (s : State) (d : StepDue) : Within 0x10000 [] s (s.stepRecords d) :=
  .ite (State.publishRecs_within ..) (.refl s)

/-- While a comparison is open only records are written. -/
theorem exec_stepPublished_held {s : State} (dt : Nat) {d : StepDue} (h : s.est.ran = some d)
    (held : (s.elapse dt).stepHeld = true) :
    exec (.stepPublished dt) s = .next ((s.elapse dt).stepRecords d) := by
  rw [exec_stepPublished]
  unfold execStepPublished
  extract_lets e
  rw [show e.est.ran = some d from (congrArg EstSt.ran (s.elapse_est dt)).trans h]
  dsimp -zeta only
  exact if_pos ((State.stepHeld_of_within (State.stepRecords_within ..) rfl rfl rfl).trans held)

/-- The step has run, and where the estimator runs its registers, its source and its shadow copy are written. -/
def State.stepShown (s : State) (d : StepDue) : State :=
  let s := { s with est := { s.est with ran := none } }
  if s.running .est then (((s.estShow d.sb).iscShow).edgeSource 194).shadowStep d.sb else s

/-- Thermal registers, protection temperatures, the digest, what repairs install and ask for, the digest of the peer, and
the Waybill's inputs. -/
def State.stepTold (s : State) (d : StepDue) : State :=
  let s := s.thermShow d.sb
  let s := s.presentChans.foldl (fun s c => s.limitTemp c (s.tProt c)) s
  let g := s.stageDigest d
  let s := s.setTdm (fun t => { t with ownDigest := g })
  let s := if s.mode.runsString then s.sendFrame 0x03 g else s
  let s := (s.installWaiting d.sb).answerChannels d.sb
  s.compareStage.queueStep (s.stepRec d)

theorem exec_stepPublished_done {s : State} (dt : Nat) {d : StepDue} (h : s.est.ran = some d)
    (free : (s.elapse dt).stepHeld = false) :
    exec (.stepPublished dt) s = .next ((((s.elapse dt).stepRecords d).stepShown d).stepTold d).trialOut := by
  rw [exec_stepPublished]
  unfold execStepPublished
  extract_lets e
  rw [show e.est.ran = some d from (congrArg EstSt.ran (s.elapse_est dt)).trans h]
  dsimp -zeta only
  have kept := (State.stepHeld_of_within (State.stepRecords_within (s.elapse dt) d) rfl rfl rfl).trans free
  exact if_neg (Bool.eq_false_iff.mp kept)

/-! ### The stage the registers show -/

/-- The registers that show the stage of the last step stand. -/
abbrev StageReads (s t : State) : Prop := Kept (fun s => (s.rd .est R.EST.STAGE_LO, s.rd .est R.EST.STAGE_HI)) s t

section
variable {s t : State}

theorem StageReads.of (lo : t.rd .est R.EST.STAGE_LO = s.rd .est R.EST.STAGE_LO)
    (hi : t.rd .est R.EST.STAGE_HI = s.rd .est R.EST.STAGE_HI) : StageReads s t := ⟨Prod.ext lo hi⟩

theorem StageReads.within {K : Nat} (h : Within K [] s t) (k : K.testBit 64 = false) : StageReads s t :=
  StageReads.of (h.regs .est (by simp) k _ (by decide)) (h.regs .est (by simp) k _ (by decide))

theorem StageReads.stage (h : StageReads s t) :
    t.rd64 .est R.EST.STAGE_LO R.EST.STAGE_HI = s.rd64 .est R.EST.STAGE_LO R.EST.STAGE_HI :=
  State.rd64_of_reads (congrArg Prod.fst h.same) (congrArg Prod.snd h.same)

end

theorem State.wrn_stageReads (s : State) {o : Nat} (v : Nat) (lo : o ≠ R.EST.STAGE_LO) (hi : o ≠ R.EST.STAGE_HI) :
    StageReads s (s.wrn .est o v) := .of (State.rd_wr_other _ (place_ne lo)) (State.rd_wr_other _ (place_ne hi))

theorem State.showPcap_stageReads (s : State) : StageReads s s.showPcap := by
  unfold State.showPcap
  extract_lets empty t
  have shown : StageReads s t := .foldl (.refl s) fun u k =>
    State.wrn_stageReads _ _ (by unfold R.EST.PCAP R.EST.STAGE_LO; omega) (by unfold R.EST.PCAP R.EST.STAGE_HI; omega)
  exact shown.trans (State.wrn_stageReads _ _ (by decide) (by decide))

theorem State.wr64_stageReads (s : State) {lo hi : Nat} (v : Nat)
    (apart : ∀ o ∈ [lo, hi], o ≠ R.EST.STAGE_LO ∧ o ≠ R.EST.STAGE_HI) : StageReads s (s.wr64 .est lo hi v) := by
  obtain ⟨low, high⟩ : _ ∧ _ := by simpa using apart
  exact (State.wrn_stageReads _ _ low.1 low.2).trans (State.wrn_stageReads _ _ high.1 high.2)

/-- The aggregates of a step stand beside the stage it belongs to. -/
theorem State.estShow_stageReads (s : State) (sb : Nat) :
    StageReads (s.wr64 .est R.EST.STAGE_LO R.EST.STAGE_HI sb) (s.estShow sb) := by
  unfold State.estShow
  extract_lets val cnt soc ext stage counts counts2 lo least most sum mean core ph3 use dis states
  have other (t : State) {o : Nat} (v : Nat) (apart : o ≠ R.EST.STAGE_LO ∧ o ≠ R.EST.STAGE_HI) :
      StageReads t (t.wrn .est o v) := State.wrn_stageReads _ _ apart.1 apart.2
  have counted : StageReads stage counts2 := (other _ _ (by decide)).trans (other _ _ (by decide))
  have charged : StageReads counts2 mean :=
    ((other _ _ (by decide)).trans (other _ _ (by decide))).trans (other _ _ (by decide))
  have peaked : StageReads mean ph3 := (other _ _ (by decide)).trans (other _ _ (by decide))
  have used : StageReads ph3 use := State.wr64_stageReads _ _ (by decide)
  have discharged : StageReads use states := other _ _ (by decide)
  exact ((((counted.trans charged).trans peaked).trans used).trans discharged).trans (State.showPcap_stageReads _)

theorem stageLo_row : FullRow .est R.EST.STAGE_LO := .of (by decide +kernel)

theorem stageHi_row : FullRow .est R.EST.STAGE_HI := .of (by decide +kernel)

theorem State.iscShow_stageReads (s : State) : StageReads s s.iscShow := by
  unfold State.iscShow
  extract_lets was now t
  have flagged : StageReads s (s.flag .est 10) :=
    .of (State.flag_rd _ _ _ (by decide) (by decide)) (State.flag_rd _ _ _ (by decide) (by decide))
  have shown : StageReads s t := .ite flagged (.refl s)
  exact shown.trans (StageReads.within (State.setSource_within ..) rfl)

/-- The registers of the estimator's page, the internal-short source, source 194 and the shadow copy. -/
def State.stepWritten (s : State) (d : StepDue) : State := (((s.estShow d.sb).iscShow).edgeSource 194).shadowStep d.sb

theorem State.stepWritten_within (s : State) (d : StepDue) : Within 0x6331808000181e50280 [] s (s.stepWritten d) := by
  unfold State.stepWritten
  refine Within.trans ?_ ((State.shadowStep_within ..).mono rfl)
  refine Within.trans ?_ ((State.edgeSource_within ..).mono rfl)
  exact ((State.estShow_within ..).mono rfl).trans ((State.iscShow_within ..).mono rfl)

theorem State.shadowStep_steps (s : State) (sb : Nat) : StepsKept s (s.shadowStep sb) := ⟨rfl⟩

theorem State.stepWritten_steps (s : State) (d : StepDue) : StepsKept s (s.stepWritten d) := by
  unfold State.stepWritten
  have shown : StepsKept s (s.estShow d.sb).iscShow :=
    (StepsKept.within (State.estShow_within ..) rfl).trans (StepsKept.within (State.iscShow_within ..) rfl)
  generalize (s.estShow d.sb).iscShow = t at shown ⊢
  have told : StepsKept t (t.edgeSource 194) := .within (State.edgeSource_within ..) rfl
  exact (shown.trans told).trans (State.shadowStep_steps ..)

/-- The registers show the stage of the step that is published. -/
theorem State.stepWritten_stage (s : State) (d : StepDue) :
    (s.stepWritten d).rd64 .est R.EST.STAGE_LO R.EST.STAGE_HI = d.sb % 2 ^ 64 := by
  have after : StageReads (s.estShow d.sb) (s.stepWritten d) :=
    ((State.iscShow_stageReads _).trans (StageReads.within (State.edgeSource_within ..) rfl)).trans
      (StageReads.within (State.shadowStep_within ..) rfl)
  have all := (s.estShow_stageReads d.sb).trans after
  rw [StageReads.stage all, stageLo_row.rd64_wr64 stageHi_row d.sb (by decide)]

/-- The step has run. -/
def State.stepOver (s : State) : State := { s with est := { s.est with ran := none } }

theorem State.stepOver_within (s : State) : Within 0x10000 [] s s.stepOver := .setEst s rfl

theorem State.stepShown_eq (s : State) (d : StepDue) :
    s.stepShown d = if s.running .est then s.stepOver.stepWritten d else s.stepOver := rfl

theorem State.stepShown_ran (s : State) (d : StepDue) : (s.stepShown d).est.ran = none := by
  have ended : s.stepOver.est.ran = none := rfl
  rw [s.stepShown_eq]
  generalize s.stepOver = t at ended ⊢
  split
  · exact (t.stepWritten_steps d).ran.trans ended
  · exact ended

theorem State.stepShown_within (s : State) (d : StepDue) : Within 0x6331808000181e50280 [] s (s.stepShown d) := by
  have ended : Within 0x6331808000181e50280 [] s s.stepOver := s.stepOver_within.mono rfl
  rw [s.stepShown_eq]
  exact .ite (ended.trans (State.stepWritten_within ..)) ended

theorem State.stepShown_stage (s : State) (d : StepDue) (runs : s.running .est = true) :
    (s.stepShown d).rd64 .est R.EST.STAGE_LO R.EST.STAGE_HI = d.sb % 2 ^ 64 := by
  rw [s.stepShown_eq, if_pos runs]
  exact State.stepWritten_stage ..

/-! ### What follows the registers -/

theorem State.installWaiting_steps (s : State) (stage : Nat) : StepsKept s (s.installWaiting stage) := by
  unfold State.installWaiting
  extract_lets due t
  have cleared : StepsKept s t := .within (State.setTdm_within ..) rfl
  refine .foldl cleared fun u e => ?_
  unfold State.installChannel
  exact (StepsKept.within (State.wayEntry_within ..) rfl).trans (State.modChan_steps ..)

/-- A step's registers and frames leave the time, the image on trial, the steps that are scheduled, and what is not
theirs. -/
theorem State.stepTold_kept (s : State) (d : StepDue) : Within 0x63a1a089011a3e1028f [] s (s.stepTold d) ∧
    StepsKept s (s.stepTold d) ∧ TrialKept s (s.stepTold d) := by
  unfold State.stepTold
  extract_lets shown limited g digest sent answered
  have limits : Within 0x63a18080001a1e00280 [] s limited :=
    .foldl ((State.thermShow_within ..).mono rfl) fun t c h => h.trans ((State.limitTemp_within ..).mono rfl)
  have marked : Within 0x63a18080001a1e00280 [] s digest := limits.trans ((State.setTdm_within ..).mono rfl)
  have sends : Within 0x63a18080001a1e00280 [] s sent := .ite (marked.trans ((State.sendFrame_within ..).mono rfl)) marked
  have installs : Within 0xa0010000 [] sent (sent.installWaiting d.sb) := State.installWaiting_within ..
  have answers : Within 0x63a18080001a1e10280 [] s answered :=
    ((sends.mono rfl).trans (installs.mono rfl)).trans ((State.answerChannels_within ..).mono rfl)
  have steps : StepsKept s answered := ((StepsKept.within sends rfl).trans (State.installWaiting_steps ..)).trans
    (StepsKept.within (State.answerChannels_within ..) rfl)
  have queued (t : State) : Within 0x808000080000080 [] t (t.queueStep (answered.stepRec d)) := State.queueStep_within ..
  have compared : Within 0x200120890112340028f [] answered answered.compareStage := State.compareStage_within ..
  clear_value answered
  refine ⟨((answers.mono rfl).trans (compared.mono rfl)).trans ((queued _).mono rfl), ?_, ?_⟩
  · exact (steps.trans (StepsKept.within compared rfl)).trans (StepsKept.within (queued _) rfl)
  · exact ((TrialKept.within answers rfl rfl).trans (State.compareStage_trialKept _)).trans
      (TrialKept.within (queued _) rfl rfl)

/-- A step that is not held back is published. -/
theorem stepPublished_done (dt : Nat) {s : State} {d : StepDue} (h : s.est.ran = some d)
    (untried : s.mram.fw.trial = false) (free : s.running .est = true → ∀ c ∈ s.presentChans, s.laneHeld c = false) :
    ∃ t, exec (.stepPublished dt) s = .next t ∧ t.est.ran = none ∧ t.mt = (s.elapse dt).mt ∧ t.tb = s.tb ∧
      t.mod = s.mod ∧ t.chg = s.chg ∧
      (s.running .est = true → t.rd64 .est R.EST.STAGE_LO R.EST.STAGE_HI = d.sb % 2 ^ 64) := by
  have open_ : s.stepHeld = false := by
    unfold State.stepHeld
    simpa using free
  have elapsed := s.elapse_within dt
  have done := exec_stepPublished_done dt h ((State.stepHeld_of_within elapsed rfl rfl rfl).trans open_)
  have trial : (s.elapse dt).mram.fw.trial = s.mram.fw.trial := by rw [State.elapse_mram]
  generalize s.elapse dt = e at elapsed done trial ⊢
  have written := e.stepRecords_within d
  have shown := (e.stepRecords d).stepShown_within d
  have ran := (e.stepRecords d).stepShown_ran d
  have stage := (e.stepRecords d).stepShown_stage d
  generalize (e.stepRecords d).stepShown d = u at shown ran stage done
  obtain ⟨told, steps, kept⟩ := u.stepTold_kept d
  generalize u.stepTold d = t at told steps kept done
  have before : TrialKept e t := ((TrialKept.within written rfl rfl).trans (TrialKept.within shown rfl rfl)).trans kept
  have all : Within 0x63b1a089011a3e5028f [] e t := ((written.mono rfl).trans (shown.mono rfl)).trans (told.mono rfl)
  rw [State.trialOut_of_untried (before.trial.trans (trial.trans untried))] at done
  have reads : StageReads u t := .within told rfl
  refine ⟨t, done, steps.ran.trans ran, before.mt, (all.tb rfl).trans (elapsed.tb rfl),
    (all.mod rfl).trans (elapsed.mod rfl), (all.chg rfl).trans (elapsed.chg rfl), fun runs => ?_⟩
  rw [reads.stage]
  exact stage ((written.running_same rfl .est).trans ((elapsed.running_same rfl .est).trans runs))

/-- The scheduled step runs once. -/
theorem stageStepRun_due (dt : Nat) (x : LaneObservations) {s : State} {d : StepDue} (h : s.est.due = some d) :
    ∃ t, exec (.stageStepRun dt x) s = .next t ∧ t.est.due = none ∧
      (∃ en, t.est.ran = some { d with entries := en }) ∧
      t.way.entries = s.way.entries ∧ t.mode = s.mode ∧ t.sys.driveEn = (s.elapse dt).sys.driveEn ∧ t.prot = s.prot ∧
      t.tb = s.tb ∧ t.mod = s.mod ∧ t.mram = s.mram := by
  rcases charge : stepCharge s.est.lastQ d.chgs with ⟨str, lost, last⟩
  have run := exec_stageStepRun_due dt x h charge
  have elapsed := s.elapse_within dt
  have same : (s.elapse dt).way = s.way := s.elapse_way dt
  generalize s.elapse dt = e at run elapsed same ⊢
  have begun : Within 0x80010000 [] e (e.stepBegun d str lost last) :=
    { Within.refl e with est := nofun, psm := fun _ => rfl, way := nofun }
  have due : (e.stepBegun d str lost last).est.due = none := rfl
  generalize e.stepBegun d str lost last = b at run begun due
  have worked := b.stepWorked_within d str lost x
  have steps := b.stepWorked_steps d str lost x
  generalize b.stepWorked d str lost x = w at run worked steps
  have done : Within 0x80010000 [] w (w.stepDone d e.way.entries) :=
    { Within.refl w with est := nofun, psm := fun _ => rfl, way := nofun }
  have all : Within 0xf10080001a03d8280 [] e (w.stepDone d e.way.entries) :=
    ((begun.mono rfl).trans worked).trans (done.mono rfl)
  exact ⟨_, run, steps.due.trans due, ⟨w.way.entries, rfl⟩, (congrArg WaySt.entries same :),
    (all.mode_same rfl).trans (elapsed.mode_same rfl), all.drive rfl,
    (all.prot_same rfl rfl).trans (elapsed.prot_same rfl rfl),
    (all.tb rfl).trans (elapsed.tb rfl), (all.mod rfl).trans (elapsed.mod rfl),
    (all.mram_same rfl).trans (elapsed.mram_same rfl)⟩

end Sys2Proof.Machine
end

section
/-! SUPPORT. The boundary that ends a stage (R68, R113, R178 to R183). -/

namespace Sys2Proof.Machine

open Sys2Proof

/-! ### The charges of the stage (R113) -/

/-- The charges of the stages that wait for a step stand. -/
abbrev StagesKept (s t : State) : Prop := Kept (fun s => s.chg.stages) s t

theorem StagesKept.within {K : Nat} {ps : List Page} {s t : State} (h : Within K ps s t) (k : K.testBit 14 = false) :
    StagesKept s t := ⟨congrArg ChgSt.stages (h.chg k)⟩

/-- A register of the page of the charges is stored. -/
theorem StagesKept.wrChg {s t : State} (h : Within 0 [.chg] s t) : StagesKept s t := .within h rfl

theorem State.crossCompare_stages (s : State) (q0 q1 : Option Int) : StagesKept s (s.crossCompare q0 q1) := by
  unfold State.crossCompare
  have shown (t : State) (a b c : Nat) (x : Bool) : StagesKept t ((t.wrf .chg R.CHG.XSTAT a b c).wrb .chg R.CHG.XSTAT 4 x) :=
    StagesKept.wrChg ((State.wrf_within ..).trans (State.wrb_within ..))
  have sourced (t : State) (x : Bool) : StagesKept t (t.setSource 57 x) := .within (State.setSource_within ..) rfl
  split
  · extract_lets chg t
    have cleared : StagesKept s t := ⟨rfl⟩
    clear_value t
    exact (cleared.trans (shown ..)).trans (sourced ..)
  · split
    · extract_lets tol fail fails x chg t u v
      have noted : StagesKept s t := ⟨rfl⟩
      clear_value t
      have counted : StagesKept s u := .ite (noted.trans (StagesKept.wrChg (State.inc_within ..))) noted
      have flagged : StagesKept s v := .ite (counted.trans (StagesKept.within (State.flag_within ..) rfl)) counted
      exact (flagged.trans (shown ..)).trans (sourced ..)
    · exact .refl _

/-- The charges of the stage that ended wait with those of its step, and the latches are those of the new stage. -/
theorem State.stageCharges_stages (s : State) (st : Nat) :
    ∃ q : StageChg, q.stage = st ∧ (s.stageCharges st).chg.stages = q :: s.chg.stages := by
  unfold State.stageCharges
  extract_lets q0 q1 primary src gapped q chg pushed sourced charged staged shown compared latched
  refine ⟨q, rfl, ?_⟩
  have flagged : StagesKept pushed sourced :=
    .ite (.trans (StagesKept.wrChg (State.inc_within ..)) (StagesKept.within (State.flag_within ..) rfl))
      (.ite (.refl _) (StagesKept.within (State.flag_within ..) rfl))
  have charges : StagesKept sourced charged :=
    StagesKept.wrChg (((State.wr64_within ..).trans (State.wr64_within ..)).trans (State.wr64_within ..))
  have numbered : StagesKept charged staged := .wrChg (State.wr64_within ..)
  have told : StagesKept staged shown :=
    StagesKept.wrChg (((State.wrf_within ..).trans (State.wrb_within ..)).trans (State.wrb_within ..))
  have checked : StagesKept shown compared := State.crossCompare_stages ..
  have latches : StagesKept compared latched := .foldl (.refl _) fun t n => by
    split
    · exact StagesKept.within (State.wr96_within ..) rfl
    · exact .refl _
  have ends : StagesKept latched _ := .wrChg (State.wr64_within _ .chg R.CHG.LSTAGE_LO R.CHG.LSTAGE_HI (st + 1))
  have first : pushed.chg.stages = q :: s.chg.stages := rfl
  clear_value pushed
  have all := (((((flagged.trans charges).trans numbered).trans told).trans checked).trans latches).trans ends
  exact all.same.trans first

theorem lstageLo_row : FullRow .chg R.CHG.LSTAGE_LO := .of (by decide +kernel)

theorem lstageHi_row : FullRow .chg R.CHG.LSTAGE_HI := .of (by decide +kernel)

theorem State.stageCharges_latchStage (s : State) (st : Nat) : (s.stageCharges st).latchStage = (st + 1) % 2 ^ 64 := by
  unfold State.stageCharges
  extract_lets q0 q1 primary src gapped q chg pushed sourced charged staged shown compared latched
  clear_value latched
  exact lstageLo_row.rd64_wr64 lstageHi_row (st + 1) (by decide)

theorem State.latchStage_of_within {K : Nat} {s t : State} (h : Within K [] s t) (k : K.testBit 63 = false) :
    t.latchStage = s.latchStage :=
  State.rd64_of_reads (h.regs .chg (by simp) k _ (by decide)) (h.regs .chg (by simp) k _ (by decide))

/-! ### The Ostler at the boundary -/

theorem State.replaceAll_trialKept (s : State) : TrialKept s s.replaceAll := by
  unfold State.replaceAll
  extract_lets need lanes per ost t placed flagged
  have cleared : TrialKept s t := ⟨rfl⟩
  clear_value t
  have places : TrialKept s placed := .foldl cleared fun u c => by
    dsimp only
    split
    · exact .ite (TrialKept.within (State.setHarness_within ..) rfl rfl) (.refl u)
    · exact .refl u
  have marks : TrialKept s flagged := places.trans (TrialKept.within (State.flag_within ..) rfl rfl)
  exact .ite marks (marks.trans (State.outEntry_trialKept ..))

theorem State.harnessNeeds_trialKept (s : State) : TrialKept s s.harnessNeeds := by
  unfold State.harnessNeeds
  extract_lets bare ost
  refine .ite (State.replaceAll_trialKept s) (.foldl (t := { s with ost := { s.ost with missed := [] } }) ⟨rfl⟩ ?_)
  exact fun t c => TrialKept.within (State.place_within ..) rfl rfl

theorem State.ostBoundary_trialKept (s : State) (span : Bool) : TrialKept s (s.ostBoundary span) := by
  unfold State.ostBoundary
  extract_lets map ost t needed gated booked
  have settled : TrialKept s t := ⟨rfl⟩
  clear_value t
  have needs : TrialKept s needed := .ite (settled.trans (State.harnessNeeds_trialKept _)) settled
  have rests : TrialKept s gated := .ite (.ite (needs.trans (TrialKept.within (State.restGate_within ..) rfl rfl)) needs)
    (.ite (needs.trans (TrialKept.within (State.restWake_within ..) rfl rfl)) needs)
  have books : TrialKept s booked := .ite (rests.trans (State.outEntry_trialKept ..)) rests
  exact .ite (.refl s) (books.trans (TrialKept.within (State.ostShow_within ..) rfl rfl))

/-! ### The boundary -/

/-- The step that is closing is scheduled with the charges of its stages; without one they wait on. -/
theorem State.stageSteps_est (s : State) : s.stageSteps.est.closing = none ∧
    (∀ d, s.est.closing = some d → s.stageSteps.chg.stages = [] ∧
      s.stageSteps.est.due = some { d with chgs := s.chg.stages.reverse }) ∧
    (s.est.closing = none → s.stageSteps.chg.stages = s.chg.stages ∧ s.stageSteps.est.due = s.est.due) := by
  unfold State.stageSteps
  split
  · rename_i d closes
    refine ⟨rfl, fun d' k => ?_, fun k => absurd (closes.symm.trans k) (by simp)⟩
    obtain rfl := Option.some.inj (closes.symm.trans k)
    exact ⟨rfl, rfl⟩
  · rename_i opens
    exact ⟨opens, fun d k => absurd (opens.symm.trans k) (by simp), fun _ => ⟨rfl, rfl⟩⟩

/-- The boundary of a module that estimates: the step's schedule, the Ostler and the Waybill follow the charges. -/
theorem State.stageOver_eq {s : State} (st : Nat) (h : s.mode ≠ .witnessOnly) : s.stageOver st =
    ((s.stageCharges st).epochCheck.stageSteps.ostBoundary (s.stageCharges st).est.closing.isSome).wayBoundary :=
  if_neg fun e => h (((State.stageCharges_within ..).mode_same rfl).symm.trans e)

/-- What the stage gave is dropped. -/
def State.stageDropped (s : State) : State :=
  { s with
    acc := []
    tb := { s.tb with misses := [] }
    chg := { s.chg with stages := [] }
    est := { s.est with closing := none } }

/-- In WITNESS-ONLY nothing is estimated. -/
theorem State.stageOver_witnessOnly {s : State} (st : Nat) (h : s.mode = .witnessOnly) :
    s.stageOver st = (s.stageCharges st).stageDropped := if_pos (((State.stageCharges_within ..).mode_same rfl).trans h)

theorem exec_stageBoundary_due {s : State} (serves : s.mode.serves = true) (offset : s.mt % 10000000 ≤ 20000)
    (first : 1 ≤ s.stage) (new : s.latchStage ≠ s.stage) :
    exec .stageBoundary s = .next (s.stageOver (s.stage - 1)).trialOut := by
  rw [exec_stageBoundary]
  exact if_pos (by simp [serves, offset, first, new])

theorem exec_stageBoundary_taken {s : State} (h : s.mode.serves = false ∨ 20000 < s.mt % 10000000 ∨ s.stage = 0 ∨
    s.latchStage = s.stage) : exec .stageBoundary s = .next s := by
  rw [exec_stageBoundary]
  refine if_neg fun due => ?_
  simp only [Bool.and_eq_true, decide_eq_true_eq, bne_iff_ne] at due
  obtain ⟨⟨⟨serves, offset⟩, first⟩, new⟩ := due
  rcases h with h | h | h | h
  · simp [h] at serves
  · omega
  · omega
  · exact new h

theorem stageBoundary_witnessOnly {s : State} (mode : s.mode = .witnessOnly) (untried : s.fw.trial = false)
    (offset : s.mt % 10000000 ≤ 20000) (first : 1 ≤ s.stage) (new : s.latchStage ≠ s.stage) :
    ∃ t, exec .stageBoundary s = .next t ∧ t.est = { s.est with closing := none } ∧ t.ost = s.ost ∧ t.acc = [] ∧
      t.mode = s.mode := by
  have done := exec_stageBoundary_due (by rw [mode]; rfl) offset first new
  rw [State.stageOver_witnessOnly _ mode] at done
  have charged : Within 0x6329808000181e04280 [] s (s.stageCharges (s.stage - 1)) := State.stageCharges_within ..
  generalize s.stageCharges (s.stage - 1) = c at done charged
  have mram : c.stageDropped.mram = s.mram := charged.mram_same rfl
  rw [State.trialOut_of_untried (by rw [mram]; exact untried)] at done
  exact ⟨_, done, congrArg (fun e : EstSt => { e with closing := none }) (charged.est_same rfl rfl), charged.ost rfl, rfl,
    charged.mode_same rfl⟩

/-- The boundary of a module that estimates. -/
theorem stageBoundary_estimated {s : State} (serves : s.mode.serves = true) (mode : s.mode ≠ .witnessOnly)
    (untried : s.fw.trial = false) (offset : s.mt % 10000000 ≤ 20000) (first : 1 ≤ s.stage) (small : s.stage < 2 ^ 64)
    (new : s.latchStage ≠ s.stage) :
    ∃ t q, exec .stageBoundary s = .next t ∧ t.mt = s.mt ∧ t.latchStage = s.stage ∧ q.stage = s.stage - 1 ∧
       t.est.closing = none ∧
       (∀ d, s.est.closing = some d → t.chg.stages = [] ∧
         t.est.due = some { d with chgs := (q :: s.chg.stages).reverse }) ∧
       (s.est.closing = none → t.chg.stages = q :: s.chg.stages ∧ t.est.due = s.est.due) := by
  have done := exec_stageBoundary_due serves offset first new
  rw [State.stageOver_eq _ mode] at done
  obtain ⟨q, number, pushed⟩ := s.stageCharges_stages (s.stage - 1)
  have latch := s.stageCharges_latchStage (s.stage - 1)
  rw [Nat.sub_add_cancel first, Nat.mod_eq_of_lt small] at latch
  have charged : Within 0x6329808000181e04280 [] s (s.stageCharges (s.stage - 1)) := State.stageCharges_within ..
  generalize s.stageCharges (s.stage - 1) = c at done pushed latch charged
  have checked : Within 0x10000000020008200 [] c c.epochCheck := State.epochCheck_within ..
  obtain ⟨closing, closed, open_⟩ := c.epochCheck.stageSteps_est
  have stepped : Within 0x14000 [] c.epochCheck c.epochCheck.stageSteps := State.stageSteps_within ..
  generalize c.epochCheck.stageSteps = u at done closing closed open_ stepped
  generalize c.epochCheck = e at checked closed open_ stepped
  have settled := u.ostBoundary_within c.est.closing.isSome
  have kept := u.ostBoundary_trialKept c.est.closing.isSome
  generalize u.ostBoundary c.est.closing.isSome = o at done settled kept
  have wayed := o.wayBoundary_within
  generalize o.wayBoundary = t at done wayed
  have after : Within 0x20210089011a344028f [] u t := (settled.mono rfl).trans (wayed.mono rfl)
  have later : TrialKept u t := kept.trans (TrialKept.within wayed rfl rfl)
  have before : Within 0x63398080001a1e1c280 [] s u :=
    ((charged.mono rfl).trans (checked.mono rfl)).trans (stepped.mono rfl)
  have time : TrialKept s t := (TrialKept.within before rfl rfl).trans later
  have steps : StepsKept u t := .within after rfl
  have charges : StagesKept u t := .within after rfl
  have early : StepsKept s e := (StepsKept.within charged rfl).trans (StepsKept.within checked rfl)
  have waiting : e.chg.stages = q :: s.chg.stages := (StagesKept.within checked rfl).same.trans pushed
  rw [State.trialOut_of_untried (time.trial.trans untried)] at done
  refine ⟨t, q, done, time.mt, ?_, number, steps.closing.trans closing, fun d h => ?_, fun h => ?_⟩
  · have latched : Within 0x20310089011a345c28f [] c t :=
      ((checked.mono rfl).trans (stepped.mono rfl)).trans (after.mono rfl)
    exact (State.latchStage_of_within latched rfl).trans latch
  · obtain ⟨none_, due⟩ := closed d (early.closing.trans h)
    exact ⟨charges.same.trans none_, steps.due.trans (waiting ▸ due)⟩
  · obtain ⟨same, due⟩ := open_ (early.closing.trans h)
    exact ⟨charges.same.trans (same.trans waiting), steps.due.trans (due.trans early.due)⟩

end Sys2Proof.Machine
end

section
/-! SUPPORT. The tick that ends and the tick that starts (R55, R63 to R66), and the input deadline (R63). -/

namespace Sys2Proof.Machine

open Sys2Proof

/-! ### What the rings hold (R63) -/

/-- What the rings hold of the tick stands. -/
abbrev CompsKept (s t : State) : Prop := Kept (fun s m => (s.sring m).comps) s t

theorem CompsKept.comps {s t : State} (h : CompsKept s t) (m : Nat) : (t.sring m).comps = (s.sring m).comps :=
  congrFun h.same m

theorem CompsKept.within {K : Nat} {ps : List Page} {s t : State} (h : Within K ps s t) (k : K.testBit 12 = false) :
    CompsKept s t := ⟨congrArg (fun l m => (sget ({} : RingSns) l m).comps) (h.sns k)⟩

theorem State.setSring_comps (s : State) (n : Nat) (r : RingSns) (m : Nat) :
    ((s.setSring n r).sring m).comps = if m = n then r.comps else (s.sring m).comps := by
  unfold State.sring State.setSring
  split
  · rename_i same
    rw [same, sget_sset_same]
  · rename_i other
    rw [sget_sset_other _ _ _ _ other]

theorem State.setSring_compsKept (s : State) (n : Nat) {r : RingSns} (h : r.comps = (s.sring n).comps) :
    CompsKept s (s.setSring n r) := by
  refine ⟨funext fun m => (State.setSring_comps ..).trans ?_⟩
  split
  · rename_i same
    rw [h, same]
  · rfl

theorem State.setFe_compsKept (s : State) (n p : Nat) (v : FeSt) : CompsKept s (s.setFe n p v) :=
  s.setSring_compsKept n rfl

theorem State.accumulate_compsKept (s : State) (n : Fin 16) (x : CompIn) : CompsKept s (s.accumulate n x) :=
  .foldl (s.setFe_compsKept n.val x.pos _) fun _ _ => ⟨rfl⟩

/-- At the end of a tick a ring holds nothing any more, and the other rings hold what they held. -/
theorem State.finishRing_comps (s : State) (n : Fin 16) (m : Nat) :
    ((s.finishRing n).sring m).comps = if m = n.val then [] else (s.sring m).comps := by
  unfold State.finishRing
  extract_lets reached idle idleRing ring bit miss tb missed balanced sums last emptied
  have reaches : CompsKept s reached := .ite (CompsKept.within (State.reachTick_within ..) rfl) (.refl s)
  have misses : CompsKept reached missed := ⟨rfl⟩
  clear_value missed
  have balances (t : State) : CompsKept t (t.accumulateBal n) := .within (State.accumulateBal_within ..) rfl
  have added : CompsKept balanced sums := .foldl (.refl _) fun t x => t.accumulate_compsKept n x
  have before : CompsKept s sums := ((reaches.trans misses).trans (balances _)).trans added
  have after : CompsKept emptied (if last.splitNext then emptied.setRingMode n 3 else emptied) :=
    .ite (CompsKept.within (State.setRingMode_within ..) rfl) (.refl _)
  clear_value sums
  split
  · rw [State.setSring_comps, CompsKept.comps (reaches.trans (balances _)) m]
  · rw [after.comps m, State.setSring_comps, before.comps m]

theorem State.finishRings_comps (l : List (Fin 16)) (s : State) (m : Nat)
    (h : (∃ n ∈ l, n.val = m) ∨ (s.sring m).comps = []) : ((l.foldl State.finishRing s).sring m).comps = [] := by
  induction l generalizing s with
  | nil => simpa using h
  | cons a l ih =>
    refine ih _ ?_
    rw [State.finishRing_comps]
    by_cases same : m = a.val
    · exact .inr (if_pos same)
    · rw [if_neg same]
      simpa [Ne.symm same] using h

theorem State.attemptEnds_compsKept (s : State) (n : Fin 16) (p : Nat) (ok : Bool) :
    CompsKept s (s.attemptEnds n p ok) := by
  unfold State.attemptEnds
  extract_lets v chal marked passed tried counted failed judged
  have verdict (t : State) (b : Bool) : CompsKept t (t.verdictOf n p b) := .within (State.verdictOf_within ..) rfl
  have stored (t : State) (a b c : Nat) : CompsKept t (t.wrf (.sns n) (R.SNS.FE p) a b c) :=
    CompsKept.within (State.wrf_within ..) rfl
  have passes : CompsKept s passed := ((s.setFe_compsKept n.val p _).trans (stored ..)).trans (stored ..)
  have fails : CompsKept s failed := (s.setFe_compsKept n.val p _).trans (stored ..)
  exact .ite (passes.trans (verdict ..)) (.ite ((fails.trans (verdict ..)).trans (State.setFe_compsKept ..)) fails)

theorem State.chalTimeout_compsKept (s : State) (n : Fin 16) (p : Nat) : CompsKept s (s.chalTimeout n p) := by
  unfold State.chalTimeout
  split
  · extract_lets k
    refine .ite ?_ (.refl s)
    exact (CompsKept.within (State.sendVerdict_within ..) rfl).trans (State.attemptEnds_compsKept _ n p false)
  · exact .refl s

theorem State.launchCoach_compsKept (s : State) (n : Fin 16) (exc : Bool) (bal : Nat → Int) :
    CompsKept s (s.launchCoach n exc bal) := by
  unfold State.launchCoach
  extract_lets driven ring size
  have drives : CompsKept s driven := .within (State.wrb_within ..) rfl
  have sends (t : State) (m : Msg) : CompsKept t (t.send m) := .within (State.send_within ..) rfl
  refine .ite drives ?_
  split
  extract_lets launched
  have launch : CompsKept s launched := drives.trans (State.setSring_compsKept _ _ rfl)
  clear_value launched
  split
  rename_i chal t drawn
  have challenged : CompsKept launched t := by
    split at drawn
    · obtain ⟨rfl, rfl⟩ := Prod.mk.inj drawn
      have draws : CompsKept launched launched.draw.2 := ⟨rfl⟩
      exact draws.trans (State.setFe_compsKept launched.draw.2 n.val _ _)
    · obtain ⟨rfl, rfl⟩ := Prod.mk.inj drawn
      exact .refl _
  clear drawn
  exact ((launch.trans challenged).trans (sends ..)).trans (sends ..)

theorem State.ringTick_compsKept (s : State) (n : Fin 16) : CompsKept s (s.ringTick n) := by
  unfold State.ringTick
  extract_lets challenged
  have ages : CompsKept s challenged := .foldl (.refl s) fun t p =>
    (t.chalTimeout_compsKept n p).trans (CompsKept.within (State.passAge_within ..) rfl)
  exact ages.trans (State.launchCoach_compsKept _ n _ _)

/-- The start of a tick leaves what the rings hold. -/
theorem State.tickStarts_compsKept (s : State) (x : TickInputs) : CompsKept s (s.tickStarts x) := by
  unfold State.tickStarts
  extract_lets a b c d e f g
  have pins : CompsKept s a := (CompsKept.within (State.peerPins_within ..) rfl).trans
    (CompsKept.within (State.connExpiry_within ..) rfl)
  have samples : CompsKept a b := .within (State.modTick_within ..) rfl
  have locks : CompsKept b c := (CompsKept.within (State.lockSend_within ..) rfl).trans
    (CompsKept.within (State.lockSend_within ..) rfl)
  have safety : CompsKept c d := .within (State.safeTick_within ..) rfl
  have demands : CompsKept d e := (CompsKept.within (State.balTick_within ..) rfl).trans
    (CompsKept.within (State.demandsTick_within ..) rfl)
  have dispatch : CompsKept e f := (CompsKept.within (State.clampTick_within ..) rfl).trans
    (CompsKept.within (State.dispatchNow_within ..) rfl)
  have rings : CompsKept f (snsRings.foldl State.ringTick f) := .foldl (.refl f) fun t n => t.ringTick_compsKept n
  have coached : CompsKept f g := rings.trans (CompsKept.within (State.chipBoundary_within ..) rfl)
  have before := ((((pins.trans samples).trans locks).trans safety).trans demands).trans dispatch
  exact ((before.trans coached).trans (CompsKept.within (State.protEval_within ..) rfl)).trans
    (CompsKept.within (State.tryReady_within ..) rfl)

/-! ### What has been judged of the tick (R63, R64) -/

/-- What is noted of the running tick stands: its deadline, whether its missing compartments are judged, and which. -/
abbrev TickKept (s t : State) : Prop := Kept (fun s => (s.tb.deadline, s.tb.judged, s.tb.miss)) s t

theorem TickKept.within {K : Nat} {ps : List Page} {s t : State} (h : Within K ps s t) (k : K.testBit 11 = false) :
    TickKept s t := ⟨congrArg (fun b : TimebaseSt => (b.deadline, b.judged, b.miss)) (h.tb k)⟩

/-- Nothing is noted of the running tick. -/
def State.tickOpen (s : State) : Prop := s.tb.deadline = false ∧ s.tb.judged = false ∧ s.tb.miss = 0

theorem TickKept.tickOpen {s t : State} (h : TickKept s t) (k : s.tickOpen) : t.tickOpen := by
  obtain ⟨deadline, judged, miss⟩ := k
  have same := h.same
  simp only [Prod.mk.injEq] at same
  exact ⟨same.1.trans deadline, same.2.1.trans judged, same.2.2.trans miss⟩

theorem State.closeStep_tickKept (s : State) (sa sb : Nat) (rest : Bool) : TickKept s (s.closeStep sa sb rest) :=
  ⟨rfl⟩

theorem State.restTurn_tickKept (s : State) (st : Nat) : TickKept s (s.restTurn st) := by
  unfold State.restTurn
  extract_lets n b closed rest tb
  have closes : TickKept s closed := State.closeStep_tickKept ..
  clear_value closed
  exact .ite (.refl s) (closes.trans ⟨rfl⟩)

theorem State.stageTurn_tickKept (s : State) : TickKept s s.stageTurn :=
  .ite ((s.restTurn_tickKept s.stage).trans (TickKept.within (State.takeVerdicts_within _) rfl)) (.refl s)

/-- The tick that ended leaves nothing noted of the one that starts. -/
theorem State.tickEnds_tickOpen (s : State) : s.tickEnds.tickOpen := by
  unfold State.tickEnds
  extract_lets judged finished tb opened
  have empty : opened.tickOpen := ⟨rfl, rfl, rfl⟩
  clear_value opened
  have kept : TickKept opened opened.stageTurn.spinTick :=
    (State.stageTurn_tickKept _).trans (TickKept.within (State.spinTick_within ..) rfl)
  exact kept.tickOpen empty

/-- Every ring holds nothing once the tick has ended. -/
theorem State.tickEnds_comps (s : State) (n : Fin 16) : (s.tickEnds.sring n.val).comps = [] := by
  unfold State.tickEnds
  extract_lets judged finished tb opened
  have mem : n ∈ snsRings := List.mem_finRange n
  have empty : (finished.sring n.val).comps = [] := State.finishRings_comps snsRings judged n.val (.inl ⟨n, mem, rfl⟩)
  clear_value finished
  have opens : CompsKept finished opened := ⟨rfl⟩
  clear_value opened
  have turns : CompsKept opened opened.stageTurn.spinTick :=
    (CompsKept.within (State.stageTurn_within ..) rfl).trans (CompsKept.within (State.spinTick_within ..) rfl)
  rw [turns.comps, opens.comps, empty]

/-! ### The boundary between two ticks (R55) -/

theorem exec_tickBoundary_serving {s : State} (x : TickInputs) (h : s.mode.serves = true) :
    exec (.tickBoundary x) s = .next (s.tickEnds.tickOver.tickStarts x) := by
  rw [exec_tickBoundary]
  unfold execTickBoundary
  rw [if_neg (fun e => by simp [e, Mode.serves] at h), if_pos h]

theorem tickBoundary_serving {s : State} (x : TickInputs) (h : s.mode.serves = true) :
    ∃ t, exec (.tickBoundary x) s = .next t ∧ t.mt = (s.tick + 1) * 500000 ∧ t.tb.deadline = false ∧
      t.tb.judged = false ∧ t.tb.miss = 0 ∧ t.pages = s.pages ∧ t.rings = s.rings ∧
      ∀ n : Fin 16, (t.sring n.val).comps = [] := by
  have done := exec_tickBoundary_serving x h
  have ended : Within 0x63338080001a9e99e80 [] s s.tickEnds := State.tickEnds_within ..
  have opened := s.tickEnds_tickOpen
  have comps := s.tickEnds_comps
  generalize s.tickEnds = e at done ended opened comps
  have turned : Within 0xe [] e e.tickOver := State.atMt_within ..
  have mt : e.tickOver.mt = (e.tick + 1) * 500000 := State.atMt_mt ..
  generalize e.tickOver = u at done turned mt
  have started : Within 0x17f7fa08101fafe9b38d [] u (u.tickStarts x) := State.tickStarts_within ..
  have held := u.tickStarts_compsKept x
  generalize u.tickStarts x = t at done started held
  have kept : TickKept e t := (TickKept.within turned rfl).trans (TickKept.within started rfl)
  obtain ⟨deadline, judged, miss⟩ := kept.tickOpen opened
  refine ⟨t, done, ?_, deadline, judged, miss,
    (started.pages rfl).trans ((turned.pages rfl).trans (ended.pages rfl)),
    (started.rings rfl).trans ((turned.rings rfl).trans (ended.rings rfl)), fun n => ?_⟩
  · rw [started.mt_same rfl, mt, ended.tick_same rfl]
  · rw [held.comps, (CompsKept.within turned rfl).comps, comps]

/-! ### The input deadline (R63) -/

/-- Whether the deadline of the tick has passed stands. -/
abbrev DeadlineKept (s t : State) : Prop := Kept (fun s => s.tb.deadline) s t

theorem DeadlineKept.within {K : Nat} {ps : List Page} {s t : State} (h : Within K ps s t) (k : K.testBit 11 = false) :
    DeadlineKept s t := ⟨congrArg TimebaseSt.deadline (h.tb k)⟩

theorem State.missed_deadlineKept (s : State) (m : Nat) : DeadlineKept s { s with tb := { s.tb with miss := m } } :=
  ⟨rfl⟩

theorem State.deadlineRing_deadlineKept (s : State) (n : Fin 16) : DeadlineKept s (s.deadlineRing n) := by
  unfold State.deadlineRing
  extract_lets comps
  clear_value comps
  refine .ite (.refl s) (.foldl (.refl s) fun t p => .ite (.refl t) ?_)
  extract_lets +onlyGivenNames v
  clear_value v
  have noted (w : FeSt) : DeadlineKept t (t.setFe n.val p w) := .within (State.setFe_within ..) rfl
  cases comps.find? (fun x => x.pos = p) with
  | some x =>
    dsimp -zeta only
    extract_lets w found shown back
    have shows : DeadlineKept t shown := .ite (noted _) ((noted _).trans (DeadlineKept.within (State.wrb_within ..) rfl))
    have returns : DeadlineKept t back :=
      (shows.trans (DeadlineKept.within (State.setFeState_within ..) rfl)).trans
        (DeadlineKept.within (State.wantChallenge_within ..) rfl)
    exact .ite (returns.trans (DeadlineKept.within (State.setSource_within ..) rfl)) shows
  | none =>
    dsimp -zeta only
    extract_lets lost missed tb
    have misses : DeadlineKept t missed :=
      ((noted _).trans (DeadlineKept.within (State.inc_within ..) rfl)).trans
        (DeadlineKept.within (State.flag_within ..) rfl)
    clear_value missed
    exact misses.trans (State.missed_deadlineKept missed _)

theorem State.judgeTick_deadlineKept (s : State) : DeadlineKept s s.judgeTick :=
  .ite (.refl s) (.foldl ⟨rfl⟩ fun t n => t.deadlineRing_deadlineKept n)

/-- The deadline passes at its offset, or later where MT is beyond it. -/
def State.deadlinePassed (s : State) : State :=
  let s := s.atMt (max s.mt (s.tick * 500000 + 350000))
  { s with tb := { s.tb with deadline := true } }

theorem State.deadlinePassed_within (s : State) : Within 0x80e [] s s.deadlinePassed := by
  unfold State.deadlinePassed
  extract_lets t tb
  have moved : Within 0x80e [] s t := (State.atMt_within ..).mono rfl
  clear_value t
  exact moved.trans { Within.refl t with tb := nofun }

theorem State.deadlinePassed_mt (s : State) : s.deadlinePassed.mt = max s.mt (s.tick * 500000 + 350000) :=
  State.atMt_mt s _

theorem exec_inputDeadline_due {s : State} (serves : s.mode.serves = true) (due : s.tb.deadline = false) :
    exec .inputDeadline s = .next
      (if s.deadlinePassed.relayOpen then s.deadlinePassed else s.deadlinePassed.judgeTick).limRewrite := by
  rw [exec_inputDeadline]
  exact if_neg (by simp [serves, due])

theorem exec_inputDeadline_passed {s : State} (h : s.mode.serves = false ∨ s.tb.deadline = true) :
    exec .inputDeadline s = .next s := by
  rw [exec_inputDeadline]
  exact if_pos (by rcases h with h | h <;> simp [h])

theorem inputDeadline_due {s : State} (serves : s.mode.serves = true) (due : s.tb.deadline = false) :
    ∃ t, exec .inputDeadline s = .next t ∧ t.mt = max s.mt (s.tick * 500000 + 350000) ∧ t.tb.deadline = true ∧
      t.mode = s.mode ∧ t.est = s.est ∧ t.events = s.events ∧ t.tdm = s.tdm := by
  have done := exec_inputDeadline_due serves due
  have passed := s.deadlinePassed_within
  have mt := s.deadlinePassed_mt
  have deadline : s.deadlinePassed.tb.deadline = true := rfl
  generalize s.deadlinePassed = e at done passed mt deadline
  have judged : Within 0x6323808000181e01a80 [] e (if e.relayOpen then e else e.judgeTick) :=
    .ite (.refl e) (State.judgeTick_within e)
  have kept : DeadlineKept e (if e.relayOpen then e else e.judgeTick) := .ite (.refl e) e.judgeTick_deadlineKept
  generalize (if e.relayOpen then e else e.judgeTick) = u at done judged kept
  have rewritten : Within 0x800000 [] u u.limRewrite := State.limRewrite_within u
  generalize u.limRewrite = t at done rewritten
  have after : Within 0x6323808000181e01a80 [] e t := judged.trans (rewritten.mono rfl)
  have all : Within 0x6323808000181e01a8e [] s t := (passed.mono rfl).trans (after.mono rfl)
  exact ⟨t, done, (after.mt_same rfl).trans mt, (kept.trans (DeadlineKept.within rewritten rfl)).same.trans deadline,
    all.mode_same rfl, all.est_same rfl rfl, all.events rfl, all.tdm rfl⟩

/-! ### The test vectors that end -/

theorem exec_bistDone_idle {s : State} (dt : Nat) {l : Fin 32} (o c : Bool) (th : ThirdResult)
    (h : s.ost.testing.contains l.val = false)
    (unnamed : (s.ost.checks ++ s.ost.again).find? (fun k => k.owner = l.val) = none) (untried : s.fw.trial = false) :
    exec (.bistDone dt l o c th) s = .next (s.elapse dt) := by
  have ost := s.elapse_ost dt
  rw [exec_bistDone, execBistDone, State.bistEnds_idle _ _ _ _ _ (by rwa [ost]) (by rwa [ost]),
    State.trialOut_of_untried (by rw [State.elapse_mram]; exact untried)]

theorem bistDone_compared {s : State} (dt : Nat) {l : Fin 32} (o c : Bool) (th : ThirdResult) {k : LaneCheck}
    (h : s.ost.testing.contains l.val = false)
    (named : (s.ost.checks ++ s.ost.again).find? (fun k => k.owner = l.val) = some k) (untried : s.fw.trial = false) :
    ∃ t, exec (.bistDone dt l o c th) s = .next t ∧ (o = true → k.owner ∈ t.ost.retired) ∧
      (c = true → k.checker ∈ t.ost.retired) ∧ (∀ n ∈ s.ost.retired, n ∈ t.ost.retired) ∧
      (∀ n ∈ t.ost.retired, n ∈ s.ost.retired ∨ n = k.owner ∨ n = k.checker) := by
  have ost := s.elapse_ost dt
  obtain ⟨left, owner, checker⟩ := (s.elapse dt).bistEnds_compared l.val o c th k (by rwa [ost]) (by rwa [ost])
  have attempt : (s.elapse dt).mram.fw.trial = false := by rw [State.elapse_mram]; exact untried
  refine ⟨_, by rw [exec_bistDone, execBistDone, State.trialOut_of_untried (left.trial.trial.trans attempt)], owner,
    checker, fun n m => left.kept n (by rwa [ost]), fun n m => ?_⟩
  simpa [ost] using left.added n m

theorem bistDone_waking {s : State} (dt : Nat) {l : Fin 32} (o c : Bool) (th : ThirdResult)
    (h : s.ost.testing.contains l.val = true) (untried : s.fw.trial = false) :
    ∃ t, exec (.bistDone dt l o c th) s = .next t ∧ l.val ∉ t.ost.testing ∧
      (o = true → l.val ∈ t.ost.retired) ∧ (o = false → t.ost.retired = s.ost.retired) := by
  have ost := s.elapse_ost dt
  obtain ⟨kept, out, fails, passes⟩ := (s.elapse dt).bistEnds_waking l.val o c th (by rwa [ost])
  have attempt : (s.elapse dt).mram.fw.trial = false := by rw [State.elapse_mram]; exact untried
  exact ⟨_, by rw [exec_bistDone, execBistDone, State.trialOut_of_untried (kept.trial.trans attempt)], out, fails,
    fun e => (passes e).trans (congrArg OstSt.retired ost)⟩

end Sys2Proof.Machine
end

section
/-! SETTLEMENT. Ticks, input deadlines, stage boundaries and steps. -/

open Sys2Proof Sys2Proof.Machine

/-- Settles O32: each command's equation, with what its later operations leave of the fields that are claimed. -/
theorem ticksAndStepsComplete : Obligations.TicksAndStepsComplete := by
  refine ⟨⟨fun x s h => tickBoundary_serving x h, fun x s serves mode => ?_, fun x s mode => ?_,
    fun s serves due => inputDeadline_due serves due, fun s h => exec_inputDeadline_passed h,
    fun s serves mode untried offset first small new => stageBoundary_estimated serves mode untried offset first small new,
    fun s mode untried offset first new => stageBoundary_witnessOnly mode untried offset first new,
    fun s h => exec_stageBoundary_taken h⟩,
    fun dt x s d h => stageStepRun_due dt x h, fun dt x s h => exec_stageStepRun_none dt x h,
    fun dt l o c th s out unnamed untried => ?_, fun dt l o c th s k out named untried => ?_,
    fun dt l o c th s waking untried => ?_, fun dt s d h untried free => stepPublished_done dt h untried free,
    fun dt s d h runs held => ?_, fun dt s h => exec_stepPublished_none dt h⟩
  · rw [exec_tickBoundary]
    unfold execTickBoundary
    rw [if_neg mode, if_neg (by simp [serves])]
    rfl
  · rw [exec_tickBoundary]
    exact if_pos mode
  · exact exec_bistDone_idle dt o c th out unnamed untried
  · exact bistDone_compared dt o c th out named untried
  · exact bistDone_waking dt o c th waking untried
  · obtain ⟨r, written, kept⟩ := (s.elapse dt).publishRecs_written d
    have open_ : (s.elapse dt).stepHeld = true := by
      rw [State.stepHeld_of_within (s.elapse_within dt) rfl rfl rfl]
      unfold State.stepHeld
      simpa [runs] using held
    have done := exec_stepPublished_held dt h open_
    rw [State.stepRecords, if_pos (by rw [State.elapse_running, runs]), written, State.withRecs] at done
    rw [State.elapse_est] at done
    refine ⟨r, done, fun c _ held => ?_⟩
    rw [kept c ((State.laneHeld_of_ost (s.elapse_ost dt) c).trans held), State.elapse_est]

end

section
/-! SUPPORT. The sense rings: what rings, front-ends and the registers of their pages read as after an update (R77, R93
to R98). -/

namespace Sys2Proof.Machine

open Sys2Proof

/-! ### Rings and front-ends -/

theorem State.sring_setSring (s : State) (n : Nat) (r : RingSns) (m : Nat) :
    (s.setSring n r).sring m = if m = n then r else s.sring m := by
  unfold State.sring State.setSring
  split
  · rename_i same
    rw [same, sget_sset_same]
  · rename_i other
    exact sget_sset_other _ _ _ _ other

@[simp] theorem State.sring_setSring_same (s : State) (n : Nat) (r : RingSns) : (s.setSring n r).sring n = r :=
  (s.sring_setSring n r n).trans (if_pos rfl)

/-- An update of a ring that leaves its front-ends leaves every front-end. -/
theorem State.fe_setSring (s : State) (n : Nat) {r : RingSns} (h : r.fe = (s.sring n).fe) (m p : Nat) :
    (s.setSring n r).fe m p = s.fe m p := by
  unfold State.fe
  rw [State.sring_setSring]
  split
  · rename_i same
    rw [same, h]
  · rfl

theorem State.fe_setFe (s : State) (n p : Nat) (v : FeSt) (m q : Nat) :
    (s.setFe n p v).fe m q = if m = n ∧ q = p then v else s.fe m q := by
  unfold State.setFe State.fe
  extract_lets r
  rw [State.sring_setSring]
  by_cases ring : m = n
  · subst ring
    by_cases pos : q = p
    · rw [if_pos rfl, if_pos ⟨rfl, pos⟩, pos]
      exact sget_sset_same ..
    · rw [if_pos rfl, if_neg (fun h => pos h.2)]
      exact sget_sset_other _ _ _ _ pos
  · rw [if_neg ring, if_neg (fun h => ring h.1)]

@[simp] theorem State.fe_setFe_same (s : State) (n p : Nat) (v : FeSt) : (s.setFe n p v).fe n p = v :=
  (s.fe_setFe n p v n p).trans (if_pos ⟨rfl, rfl⟩)

/-! ### What the passing of time leaves of the rings -/

@[simp] theorem State.elapse_sring (s : State) (dt n : Nat) : (s.elapse dt).sring n = s.sring n := by
  unfold State.sring
  rw [State.elapse_sns]

@[simp] theorem State.elapse_fe (s : State) (dt n p : Nat) : (s.elapse dt).fe n p = s.fe n p := by
  unfold State.fe
  rw [State.elapse_sring]

@[simp] theorem State.elapse_pop (s : State) (dt : Nat) (n : Fin 16) : (s.elapse dt).pop n = s.pop n :=
  State.elapse_rdf ..

@[simp] theorem State.elapse_feState (s : State) (dt : Nat) (n : Fin 16) (p : Nat) :
    (s.elapse dt).feState n p = s.feState n p := State.elapse_rdf ..

@[simp] theorem State.elapse_ringMode (s : State) (dt : Nat) (n : Fin 16) : (s.elapse dt).ringMode n = s.ringMode n :=
  State.elapse_rdf ..

@[simp] theorem State.elapse_snsLive (s : State) (dt : Nat) (n : Fin 16) : (s.elapse dt).snsLive n = s.snsLive n := by
  unfold State.snsLive
  simp

/-! ### What leaves the rings, or the registers of their pages -/

section
variable {K : Nat} {ps : List Page} {s t : State}

theorem Within.sring_same (h : Within K ps s t) (k : K.testBit 12 = false) (n : Nat) : t.sring n = s.sring n :=
  congrArg (fun l => sget ({} : RingSns) l n) (h.sns k)

theorem Within.fe_same (h : Within K ps s t) (k : K.testBit 12 = false) (n p : Nat) : t.fe n p = s.fe n p := by
  unfold State.fe
  rw [h.sring_same k]

/-- What names no page and no register of the SNS pages leaves their registers. -/
theorem Within.snsWord (h : Within K [] s t) (k : K.testBit 61 = false) (n : Fin 16) {o : Nat} (l : o < 0x1000) :
    t.rd (.sns n) o = s.rd (.sns n) o := h.regs (.sns n) (by simp) k o l

end

theorem fe_place {p : Nat} (h : p < 4) : R.SNS.FE p < 0x1000 := by
  show 0x810 + 4 * p < 0x1000
  omega

/-! ### Registers of the SNS pages -/

theorem findRow_ring (n : Fin 16) : findRow (.sns n) R.SNS.RING = some ⟨0x800, 4, 1, 0, 0, 0, 0, 0x1FFF, [0]⟩ := rfl

theorem findRow_fe (n : Fin 16) {p : Nat} (h : p < 4) :
    findRow (.sns n) (R.SNS.FE p) = some ⟨0x810, 4, 4, 0, 0, 0, 0, 0xFFFF03FF, [0xFFFF0000]⟩ := by
  interval_cases p <;> rfl

/-- The conditions of the SNS pages' FLAGS: bits 8 to 14. -/
theorem flags_sns_full (n : Fin 16) {b : Nat} (lo : 8 ≤ b) (hi : b ≤ 14) :
    Full (RegRow.mask ⟨0x010, 4, 1, 0, 0, pageBlockFlags (.sns n) + 0x7, 0, 0, [0]⟩) b b := by
  change bits (RegRow.mask ⟨0x010, 4, 1, 0, 0, 0x7F07, 0, 0, [0]⟩) b b = 2 ^ (b + 1 - b) - 1
  interval_cases b <;> rfl

theorem State.flag_sns_shown (s : State) (n : Fin 16) {b : Nat} (lo : 8 ≤ b) (hi : b ≤ 14) :
    (s.flag (.sns n) b).rdb (.sns n) R.PAGE.FLAGS b = true :=
  s.flag_rdb (findRow_flags _) (by omega) (flags_sns_full n lo hi) (flags_place_ne (by simp) (by decide))

theorem State.flag_sns_rd (s : State) (n : Fin 16) (b : Nat) {o : Nat} (l : o < 0x1000) (h : R.PAGE.FLAGS ≠ o) :
    (s.flag (.sns n) b).rd (.sns n) o = s.rd (.sns n) o :=
  s.flag_rd _ _ (flags_place_ne (by simp) l) (place_ne h)

/-! ### Challenges that are wanted (R98) -/

/-- A front-end that is to be challenged afresh. -/
def FeSt.challenged (v : FeSt) : FeSt := { v with chal := { v.chal with
  want := true
  failed := 0 } }

theorem State.wantChallenge_present {s : State} {n : Fin 16} {p : Nat} (h : s.feState n p ≠ 5) :
    s.wantChallenge n p = s.setFe n.val p (s.fe n.val p).challenged := if_neg h

theorem State.wantChallenge_regs (s : State) (n : Fin 16) (p : Nat) : (s.wantChallenge n p).regs = s.regs :=
  ite_ind (fun t => t.regs = s.regs) rfl rfl

/-- A position that CHALLENGE_ALL reaches: populated and not LOST. -/
def State.answers (s : State) (n : Fin 16) (p : Nat) : Bool := (s.pop n).testBit p && s.feState n p != 5

theorem State.answers_of {s : State} {n : Fin 16} {p : Nat} (populated : (s.pop n).testBit p = true)
    (present : s.feState n p ≠ 5) : s.answers n p = true := by
  unfold State.answers
  simp [populated, present]

theorem State.answers_of_regs {s t : State} (h : t.regs = s.regs) (n : Fin 16) (p : Nat) :
    t.answers n p = s.answers n p := by
  unfold State.answers State.pop State.feState State.rdf State.rd
  rw [h]

theorem State.answers_of_words {s t : State} {n : Fin 16} {p : Nat} (cfg : t.rd (.sns n) R.SNS.CFG = s.rd (.sns n) R.SNS.CFG)
    (status : t.rd (.sns n) (R.SNS.FE p) = s.rd (.sns n) (R.SNS.FE p)) : t.answers n p = s.answers n p := by
  unfold State.answers State.pop State.feState State.rdf
  rw [cfg, status]

/-- One position of CHALLENGE_ALL. -/
def State.wantIfPresent (n : Fin 16) (s : State) (p : Nat) : State :=
  if (s.pop n).testBit p then s.wantChallenge n p else s

theorem State.wantAll_eq (s : State) (n : Fin 16) : s.wantAll n = (List.range 4).foldl (State.wantIfPresent n) s := rfl

theorem State.wantIfPresent_eq (s : State) (n : Fin 16) (p : Nat) : s.wantIfPresent n p =
    if s.answers n p then s.setFe n.val p (s.fe n.val p).challenged else s := by
  unfold State.wantIfPresent State.wantChallenge State.answers
  by_cases populated : (s.pop n).testBit p = true <;> by_cases lost : s.feState n p = 5 <;>
    simp [populated, lost, FeSt.challenged]

theorem State.wantIfPresent_regs (s : State) (n : Fin 16) (p : Nat) : (s.wantIfPresent n p).regs = s.regs :=
  ite_ind (fun t => t.regs = s.regs) (s.wantChallenge_regs n p) rfl

theorem State.wantIfPresent_fe (s : State) (n : Fin 16) (p q : Nat) : (s.wantIfPresent n p).fe n.val q =
    if q = p ∧ s.answers n q = true then (s.fe n.val q).challenged else s.fe n.val q := by
  rw [State.wantIfPresent_eq]
  by_cases same : q = p
  · subst same
    cases answers : s.answers n q <;> simp
  · have stays : (s.setFe n.val p (s.fe n.val p).challenged).fe n.val q = s.fe n.val q :=
      (State.fe_setFe ..).trans (if_neg fun h => same h.2)
    cases answers : s.answers n p <;> simp [same, stays]

/-- A list of positions, each wanted where it answers. -/
theorem State.foldl_wantIfPresent_fe (l : List Nat) (s : State) (n : Fin 16) (q : Nat) :
    (l.foldl (State.wantIfPresent n) s).fe n.val q =
      if q ∈ l ∧ s.answers n q = true then (s.fe n.val q).challenged else s.fe n.val q := by
  induction l generalizing s with
  | nil => simp
  | cons p l ih =>
    rw [List.foldl_cons, ih, State.answers_of_regs (s.wantIfPresent_regs n p), State.wantIfPresent_fe]
    cases s.answers n q with
    | false => simp
    | true => by_cases first : q = p <;> by_cases later : q ∈ l <;> simp [first, later, FeSt.challenged]

theorem State.wantAll_fe (s : State) (n : Fin 16) (q : Nat) : (s.wantAll n).fe n.val q =
    if q < 4 ∧ s.answers n q = true then (s.fe n.val q).challenged else s.fe n.val q := by
  rw [State.wantAll_eq, State.foldl_wantIfPresent_fe]
  simp only [List.mem_range]

theorem State.wantAll_regs (s : State) (n : Fin 16) : (s.wantAll n).regs = s.regs :=
  foldl_ind (fun t => t.regs = s.regs) rfl fun t p h => (t.wantIfPresent_regs n p).trans h

theorem State.wantAll_wants {s : State} {n : Fin 16} {p : Nat} (l : p < 4) (h : s.answers n p = true) :
    (s.wantAll n).fe n.val p = (s.fe n.val p).challenged := by
  rw [State.wantAll_fe, if_pos ⟨l, h⟩]

theorem State.wantAll_passes {s : State} {n : Fin 16} {p : Nat} (h : 4 ≤ p ∨ s.answers n p = false) :
    (s.wantAll n).fe n.val p = s.fe n.val p := by
  rw [State.wantAll_fe, if_neg]
  rintro ⟨l, answers⟩
  rcases h with h | h
  · omega
  · simp [h] at answers

/-- The attempt that is open stands. -/
theorem State.wantAll_openAt (s : State) (n : Fin 16) (p : Nat) :
    ((s.wantAll n).fe n.val p).chal.openAt = (s.fe n.val p).chal.openAt := by
  rw [State.wantAll_fe]
  split <;> rfl

/-! ### What a ring notes beside its front-ends -/

/-- A ring apart from its front-ends. -/
def RingSns.own (r : RingSns) : RingSns := { r with fe := [] }

/-- The rings stand but for their front-ends. -/
abbrev RingKept (s t : State) : Prop := Kept (fun s n => (s.sring n).own) s t

theorem RingKept.ring {s t : State} (h : RingKept s t) (n : Nat) : (t.sring n).own = (s.sring n).own := congrFun h.same n

theorem RingKept.within {K : Nat} {ps : List Page} {s t : State} (h : Within K ps s t) (k : K.testBit 12 = false) :
    RingKept s t := ⟨funext fun n => congrArg RingSns.own (h.sring_same k n)⟩

theorem State.setFe_ringKept (s : State) (n p : Nat) (v : FeSt) : RingKept s (s.setFe n p v) := by
  refine ⟨funext fun m => ?_⟩
  unfold State.setFe
  rw [State.sring_setSring]
  split
  · rename_i same
    rw [same]
    rfl
  · rfl

theorem State.wantChallenge_ringKept (s : State) (n : Fin 16) (p : Nat) : RingKept s (s.wantChallenge n p) :=
  .ite (.refl s) (s.setFe_ringKept ..)

theorem State.wantAll_ringKept (s : State) (n : Fin 16) : RingKept s (s.wantAll n) :=
  .foldl (.refl s) fun t p => .ite (t.wantChallenge_ringKept n p) (.refl t)

/-! ### Breaks and heals (R93, R94) -/

/-- What a break and a heal share: the flag, the record, and every position challenged again. -/
def State.ringNews (s : State) (n : Fin 16) (b event cause pos : Nat) : State :=
  ((s.flag (.sns n) b).ringRecord n event cause pos).wantAll n

theorem State.healRing_split {s : State} {n : Fin 16} (h : s.ringMode n = 3) :
    s.healRing n = ((s.setSring n.val { s.sring n.val with
      goodRun := 0
      splitNext := false }).setRingMode n 2).ringNews n 9 2 0 0xFF := if_pos h

theorem State.healRing_whole {s : State} {n : Fin 16} (h : s.ringMode n ≠ 3) : s.healRing n = s := if_neg h

theorem State.breakRing_intact {s : State} {n : Fin 16} (cause pos : Nat) (mode : s.ringMode n = 2)
    (first : (s.sring n.val).splitNext = false) :
    s.breakRing n cause pos = ((s.setSring n.val { s.sring n.val with
      splitNext := true
      goodRun := 0 }).inc (.sns n) R.SNS.BREAKS).ringNews n 8 1 cause pos := if_neg (by simp [mode, first])

theorem State.breakRing_declared {s : State} {n : Fin 16} (cause pos : Nat)
    (h : s.ringMode n ≠ 2 ∨ (s.sring n.val).splitNext = true) : s.breakRing n cause pos = s :=
  if_pos (by rcases h with h | h <;> simp [h])

section
variable (s : State) (n : Fin 16) (b event cause pos : Nat)

theorem State.ringNews_ringKept : RingKept s (s.ringNews n b event cause pos) :=
  ((RingKept.within (State.flag_within ..) rfl).trans (RingKept.within (State.ringRecord_within ..) rfl)).trans
    (State.wantAll_ringKept ..)

/-- The record and the challenges leave the registers of the ring's page. -/
theorem State.ringNews_flagged {o : Nat} (l : o < 0x1000) :
    (s.ringNews n b event cause pos).rd (.sns n) o = (s.flag (.sns n) b).rd (.sns n) o :=
  ((State.wantAll_within _ n).snsWord rfl n l).trans ((State.ringRecord_within ..).snsWord rfl n l)

theorem State.ringNews_flag (lo : 8 ≤ b) (hi : b ≤ 14) :
    (s.ringNews n b event cause pos).rdb (.sns n) R.PAGE.FLAGS b = true := by
  unfold State.rdb
  rw [State.ringNews_flagged _ _ _ _ _ _ (by decide)]
  exact s.flag_sns_shown n lo hi

theorem State.ringNews_rd {o : Nat} (l : o < 0x1000) (h : R.PAGE.FLAGS ≠ o) :
    (s.ringNews n b event cause pos).rd (.sns n) o = s.rd (.sns n) o :=
  (State.ringNews_flagged _ _ _ _ _ _ l).trans (s.flag_sns_rd n b l h)

theorem State.ringNews_openAt (p : Nat) :
    ((s.ringNews n b event cause pos).fe n.val p).chal.openAt = (s.fe n.val p).chal.openAt := by
  have recorded : Within 0x1008000100000080 [.sns n] (s.flag (.sns n) b) ((s.flag (.sns n) b).ringRecord n event cause pos) :=
    (State.ringRecord_within ..).more nofun
  refine (State.wantAll_openAt ..).trans ?_
  rw [recorded.fe_same rfl, (State.flag_within ..).fe_same rfl]

/-- Every position that answers is challenged again (R93, R94). -/
theorem State.ringNews_wants {p : Nat} (l : p < 4) (h : s.answers n p = true) :
    ((s.ringNews n b event cause pos).fe n.val p).chal.want = true := by
  have word {o : Nat} (l : o < 0x1000) (k : R.PAGE.FLAGS ≠ o) :
      ((s.flag (.sns n) b).ringRecord n event cause pos).rd (.sns n) o = s.rd (.sns n) o :=
    ((State.ringRecord_within ..).snsWord rfl n l).trans (s.flag_sns_rd n b l k)
  have still := (State.answers_of_words (word (by decide) (by decide))
    (word (fe_place l) (by show 0x010 ≠ 0x810 + 4 * p; omega))).trans h
  exact congrArg (fun v : FeSt => v.chal.want) (State.wantAll_wants l still)

end

end Sys2Proof.Machine
end

section
/-! SUPPORT. The levels that blocks give the sources (R95, R236), and the timers of a ring (R87, R90, R92 to R95). -/

namespace Sys2Proof.Machine

open Sys2Proof

/-! ### Sources 0 to 15: the rings' losses (R95) -/

/-- The levels the rings give their loss sources stand. -/
abbrev LossesKept (s t : State) : Prop := Kept (fun s (n : Fin 16) => s.prot.raw.testBit n.val) s t

theorem LossesKept.within {K : Nat} {ps : List Page} {s t : State} (h : Within K ps s t) (k : K.testBit 23 = false) :
    LossesKept s t :=
  ⟨funext fun n => (congrArg (fun v : ProtSt => v.raw.testBit n.val) (h.prot k) :)⟩

theorem State.implRaw_lossesKept (s : State) : LossesKept s s.implRaw := by
  refine ⟨funext fun n => ?_⟩
  show (putBits s.prot.raw 60 60 _).testBit n.val = _
  rw [testBit_putBits, if_neg (by omega)]

theorem State.matrixEval_lossesKept (s : State) : LossesKept s s.matrixEval := by
  unfold State.matrixEval
  refine .ite (.refl s) ?_
  extract_lets now rise derate was _ effective lo hi fast slow risen derated
  have flags (t : State) (b : Nat) : LossesKept t (t.flag .prot b) := .within (State.flag_within ..) rfl
  have effect : LossesKept s effective := ⟨rfl⟩
  have seen : LossesKept s hi := (effect.trans (LossesKept.within (State.wrn_within ..) rfl)).trans
    (LossesKept.within (State.wrn_within ..) rfl)
  have fasts : LossesKept s fast := .ite (seen.trans (flags ..)) seen
  have slows : LossesKept s slow := .ite (fasts.trans (flags ..)) fasts
  have rises : LossesKept s risen := .ite effect (.ite slows (slows.trans (flags ..)))
  have shown : LossesKept s derated := .ite (rises.trans (flags ..)) rises
  exact .foldl shown fun t n => LossesKept.within (State.groupStep_within ..) rfl

theorem State.loopEval_lossesKept (s : State) : LossesKept s s.loopEval := by
  unfold State.loopEval
  extract_lets slots
  have slot : LossesKept s slots := .foldl (.refl s) fun t n => LossesKept.within (State.slotEval_within ..) rfl
  have pair : LossesKept slots ((List.range 8).foldl State.pairEval slots) :=
    .foldl (.refl _) fun t m => LossesKept.within (State.pairEval_within ..) rfl
  exact (slot.trans pair).trans (State.implRaw_lossesKept _)

theorem State.protEval_lossesKept (s : State) : LossesKept s s.protEval :=
  ((s.matrixEval_lossesKept.trans (State.loopEval_lossesKept _)).trans (State.matrixEval_lossesKept _)).trans
    (State.loopEval_lossesKept _)

/-- A ring's loss source takes the level the ring gives it. -/
theorem State.setSource_loss (s : State) (n : Fin 16) (b : Bool) : (s.setSource n.val b).prot.raw.testBit n.val = b := by
  have put : (putBits s.prot.raw n.val n.val (b2n b)).testBit n.val = b := by
    rw [testBit_putBits, if_pos (by omega), Nat.sub_self]
    cases b <;> rfl
  unfold State.setSource
  extract_lets raw
  split
  · rename_i same
    rw [← same]
    exact put
  · exact (congrFun (State.protEval_lossesKept _).same n).trans put

/-! ### Repeat coaches (R87) -/

/-- The configured positions whose compartments a ring lacks. -/
def State.lacking (s : State) (n : Fin 16) : Nat :=
  bitsOf (fun p => (s.pop n).testBit p && !(s.sring n.val).comps.any (fun x => x.pos = p)) 4

/-- The state after a repeat coach. -/
def State.repeated (s : State) (n : Fin 16) : State :=
  ((s.setSring n.val { s.sring n.val with
    repeats := (s.sring n.val).repeats + 1
    lastRepeat := s.mt }).inc (.sns n) R.SNS.REPEAT).send
      (.coach n.val (withCrc ([0x50, BitVec.ofNat 8 (s.lacking n), 0, 0] ++ leBytes 8 s.tick)))

@[simp] theorem State.elapse_lacking (s : State) (dt : Nat) (n : Fin 16) : (s.elapse dt).lacking n = s.lacking n := by
  unfold State.lacking
  rw [State.elapse_pop, State.elapse_sring]

theorem State.repeated_shows (s : State) (n : Fin 16) :
    (s.repeated n).sent =
        .coach n.val (withCrc ([0x50, BitVec.ofNat 8 (s.lacking n), 0, 0] ++ leBytes 8 s.tick)) :: s.sent ∧
      ((s.repeated n).sring n.val).repeats = (s.sring n.val).repeats + 1 ∧
      ((s.repeated n).sring n.val).lastRepeat = s.mt ∧
      (s.repeated n).rdn (.sns n) R.SNS.REPEAT = satAdd 32 (s.rdn (.sns n) R.SNS.REPEAT) 1 := by
  unfold State.repeated
  generalize marked : s.setSring n.val _ = r
  have sent : r.sent = s.sent := by rw [← marked]; rfl
  have counted : (r.inc (.sns n) R.SNS.REPEAT).rdn (.sns n) R.SNS.REPEAT = satAdd 32 (s.rdn (.sns n) R.SNS.REPEAT) 1 := by
    rw [← marked]
    exact FullRow.rdn_inc (.of rfl)
  have ring : (r.inc (.sns n) R.SNS.REPEAT).sring n.val = { s.sring n.val with
      repeats := (s.sring n.val).repeats + 1
      lastRepeat := s.mt } := by
    rw [(State.inc_within ..).sring_same rfl, ← marked, State.sring_setSring_same]
  refine ⟨?_, congrArg RingSns.repeats ring, congrArg RingSns.lastRepeat ring, counted⟩
  show _ :: (r.inc (.sns n) R.SNS.REPEAT).sent = _
  rw [State.inc_sent, sent]

theorem State.snsLive_of_running {s : State} {n : Fin 16} (run : s.running (.sns n) = true) (speaks : s.mode.speaks = true) :
    s.snsLive n = true := by
  have state : s.pageState (.sns n) = .running := of_decide_eq_true run
  simp [State.snsLive, state, speaks]

theorem exec_repeatCoachSend_due {s : State} {dt : Nat} {n : Fin 16} (run : s.running (.sns n) = true)
    (speaks : s.mode.speaks = true) (need : s.lacking n ≠ 0)
    (left : (s.sring n.val).repeats < s.rdf (.sns n) R.SNS.CFG 19 16) (opens : s.tick * 500000 + 60000 ≤ (s.elapse dt).mt)
    (closes : (s.elapse dt).mt ≤ s.tick * 500000 + 300000)
    (apart : (s.sring n.val).repeats = 0 ∨ (s.sring n.val).lastRepeat + 50000 ≤ (s.elapse dt).mt) :
    exec (.repeatCoachSend dt n) s = .next ((s.elapse dt).repeated n) := by
  have live := State.snsLive_of_running run speaks
  rw [State.lacking] at need
  rw [exec_repeatCoachSend]
  refine if_pos ?_
  simp only [State.elapse_running, State.elapse_snsLive, State.elapse_sring, State.elapse_rdf, State.elapse_tick,
    State.elapse_pop, run, live, Bool.and_eq_true, Bool.or_eq_true, decide_eq_true_eq, bne_iff_ne, true_and]
  exact ⟨⟨⟨⟨need, left⟩, by omega⟩, by omega⟩, apart⟩

theorem exec_repeatCoachSend_idle {s : State} {dt : Nat} {n : Fin 16}
    (h : s.running (.sns n) = false ∨ s.rdf (.sns n) R.SNS.CFG 19 16 ≤ (s.sring n.val).repeats ∨
      (s.elapse dt).mt < s.tick * 500000 + 60000 ∨ s.tick * 500000 + 300000 < (s.elapse dt).mt) :
    exec (.repeatCoachSend dt n) s = .next (s.elapse dt) := by
  rw [exec_repeatCoachSend]
  refine if_neg ?_
  simp only [State.elapse_running, State.elapse_sring, State.elapse_rdf, State.elapse_tick, Bool.and_eq_true,
    decide_eq_true_eq]
  rintro ⟨⟨⟨⟨⟨⟨run, -⟩, -⟩, left⟩, opens⟩, closes⟩, -⟩
  rcases h with h | h | h | h
  · rw [run] at h
    cases h
  all_goals omega

/-! ### Far waits (R94, R102) -/

theorem exec_farWaitExpiry_outside {s : State} {dt : Nat} {n : Fin 16}
    (h : s.running (.sns n) = false ∨ (s.elapse dt).mt % 500000 < 15000 ∨ 25000 < (s.elapse dt).mt % 500000) :
    exec (.farWaitExpiry dt n) s = .next (s.elapse dt) := by
  rw [exec_farWaitExpiry]
  exact if_pos (by rcases h with h | h | h <;> simp [h])

section
variable {s : State} {dt : Nat} {n : Fin 16} (run : s.running (.sns n) = true) (opens : 15000 ≤ (s.elapse dt).mt % 500000)
  (closes : (s.elapse dt).mt % 500000 ≤ 25000)
include run opens closes

theorem exec_farWaitExpiry_inside : exec (.farWaitExpiry dt n) s =
    if s.sys.strapB then
      if (s.sring n.val).otherTick = s.tick && 0 < (s.sring n.val).otherRun then .next (s.elapse dt)
      else .next ((s.elapse dt).setSring n.val { s.sring n.val with
        driveB := true
        otherRun := 0 })
    else if s.ringMode n = 3 && 3 ≤ (s.sring n.val).goodRun && (s.sring n.val).otherTick + 3 ≤ s.tick then
      .next ((s.elapse dt).healRing n)
    else .next (s.elapse dt) := by
  rw [exec_farWaitExpiry]
  refine (if_neg ?_).trans ?_
  · simp [run, opens, closes]
  · simp only [State.elapse_sys_strapB, State.elapse_sring, State.elapse_tick, State.elapse_ringMode]

theorem exec_farWaitExpiry_drives (endB : s.sys.strapB = true)
    (silent : (s.sring n.val).otherTick ≠ s.tick ∨ (s.sring n.val).otherRun = 0) :
    exec (.farWaitExpiry dt n) s = .next ((s.elapse dt).setSring n.val { s.sring n.val with
      driveB := true
      otherRun := 0 }) := by
  rw [exec_farWaitExpiry_inside run opens closes, if_pos endB, if_neg]
  rcases silent with h | h <;> simp [h]

theorem exec_farWaitExpiry_heals (endA : s.sys.strapB = false) (split : s.ringMode n = 3)
    (good : 3 ≤ (s.sring n.val).goodRun) (far : (s.sring n.val).otherTick + 3 ≤ s.tick) :
    exec (.farWaitExpiry dt n) s = .next ((s.elapse dt).healRing n) := by
  rw [exec_farWaitExpiry_inside run opens closes, if_neg (by simp [endA]), if_pos (by simp [split, good, far])]

end

/-- What a heal leaves: the ring INTACT, its flag set, and every position that answers challenged again (R94). -/
theorem State.healRing_heals {s : State} {n : Fin 16} (split : s.ringMode n = 3) :
    (s.healRing n).ringMode n = 2 ∧ (s.healRing n).rdb (.sns n) R.PAGE.FLAGS 9 = true ∧
      ∀ p < 4, s.answers n p = true → ((s.healRing n).fe n.val p).chal.want = true := by
  rw [State.healRing_split split]
  generalize marked : s.setSring n.val _ = r
  have regs : r.regs = s.regs := by rw [← marked]; rfl
  have shown : (r.setRingMode n 2).ringMode n = 2 := State.rdf_wrf_same 2 (findRow_ring n) (by decide) rfl
  refine ⟨?_, State.ringNews_flag _ n 9 _ _ _ (by decide) (by decide), fun p l h => ?_⟩
  · rw [State.ringMode, State.rdf, State.ringNews_rd _ _ _ _ _ _ (by decide) (by decide)]
    exact shown
  · refine State.ringNews_wants _ _ _ _ _ _ l ?_
    rw [← State.answers_of_regs regs] at h
    rwa [State.answers_of_words (t := r.setRingMode n 2) (State.rd_wr_other _ (place_ne (by decide)))
      (State.rd_wr_other _ (place_ne (by show 0x800 ≠ 0x810 + 4 * p; omega)))]

/-! ### Breaks (R93) -/

/-- What a break leaves: SPLIT from the next tick, flagged and counted, and every position that answers challenged
again (R93). -/
theorem State.breakRing_breaks {s : State} {n : Fin 16} (cause pos : Nat) (mode : s.ringMode n = 2)
    (first : (s.sring n.val).splitNext = false) :
    ((s.breakRing n cause pos).sring n.val).splitNext = true ∧
      (s.breakRing n cause pos).rdb (.sns n) R.PAGE.FLAGS 8 = true ∧
      (s.breakRing n cause pos).rdn (.sns n) R.SNS.BREAKS = satAdd 32 (s.rdn (.sns n) R.SNS.BREAKS) 1 ∧
      ∀ p < 4, s.answers n p = true → ((s.breakRing n cause pos).fe n.val p).chal.want = true := by
  rw [State.breakRing_intact cause pos mode first]
  generalize marked : s.setSring n.val _ = r
  have regs : r.regs = s.regs := by rw [← marked]; rfl
  have next : (r.sring n.val).splitNext = true := by rw [← marked, State.sring_setSring_same]
  have counted : (r.inc (.sns n) R.SNS.BREAKS).rdn (.sns n) R.SNS.BREAKS = satAdd 32 (r.rdn (.sns n) R.SNS.BREAKS) 1 :=
    FullRow.rdn_inc (.of rfl)
  refine ⟨?_, State.ringNews_flag _ n 8 _ _ _ (by decide) (by decide), ?_, fun p l h => ?_⟩
  · have kept := (RingKept.within (State.inc_within r (.sns n) R.SNS.BREAKS) rfl).trans (State.ringNews_ringKept _ n 8 1 cause pos)
    exact (congrArg RingSns.splitNext (RingKept.ring kept n.val)).trans next
  · rw [State.rdn, State.ringNews_rd _ _ _ _ _ _ (by decide) (by decide)]
    refine counted.trans ?_
    rw [State.rdn, State.rdn, State.rd, State.rd, regs]
  · refine State.ringNews_wants _ _ _ _ _ _ l ?_
    rw [← State.answers_of_regs regs] at h
    rwa [State.answers_of_words (t := r.inc (.sns n) R.SNS.BREAKS) (State.rd_wr_other _ (place_ne (by decide)))
      (State.rd_wr_other _ (place_ne (by show 0xF0C ≠ 0x810 + 4 * p; omega)))]

theorem exec_symbolLockLoss_running {s : State} (dt : Nat) {n : Fin 16} (run : s.running (.sns n) = true) :
    exec (.symbolLockLoss dt n) s = .next ((s.elapse dt).breakRing n 1 0xFF) := by
  rw [exec_symbolLockLoss]
  exact if_pos (by rwa [State.elapse_running])

theorem exec_symbolLockLoss_idle {s : State} (dt : Nat) {n : Fin 16} (h : s.running (.sns n) = false) :
    exec (.symbolLockLoss dt n) s = .next (s.elapse dt) := by
  rw [exec_symbolLockLoss]
  exact if_neg (by simp [h])

/-! ### Front-ends that are lost (R95) -/

/-- A front-end is LOST: its data is left out, its challenge dropped, the loss flagged and its ring's source asserted. -/
def State.feLost (s : State) (n : Fin 16) (p : Nat) : State :=
  (((s.setFe n.val p { s.fe n.val p with
    use := false
    serv := false
    chal := { (s.fe n.val p).chal with
      want := false
      failed := 0
      openAt := none } }).setFeState n p 5).flag (.sns n) 10).setSource n.val true

theorem exec_frontEndLost_due {s : State} (dt : Nat) {n : Fin 16} {p : Fin 4} (run : s.running (.sns n) = true)
    (populated : (s.pop n).testBit p.val = true) (present : s.feState n p.val ≠ 5)
    (missing : s.rdf (.sns n) R.SNS.CFG 15 8 ≤ (s.fe n.val p.val).lost) :
    exec (.frontEndLost dt n p) s = .next ((s.elapse dt).feLost n p.val) := by
  rw [exec_frontEndLost]
  exact if_pos (by simp [run, populated, present, missing])

theorem exec_frontEndLost_idle {s : State} (dt : Nat) {n : Fin 16} {p : Fin 4}
    (h : s.running (.sns n) = false ∨ s.feState n p.val = 5 ∨ (s.fe n.val p.val).lost < s.rdf (.sns n) R.SNS.CFG 15 8) :
    exec (.frontEndLost dt n p) s = .next (s.elapse dt) := by
  rw [exec_frontEndLost]
  exact if_neg (by rcases h with h | h | h <;> simp [h])

theorem State.feLost_loses (s : State) (n : Fin 16) {p : Nat} (l : p < 4) :
    (s.feLost n p).feState n p = 5 ∧ (s.feLost n p).rdb (.sns n) R.PAGE.FLAGS 10 = true ∧
      (s.feLost n p).prot.raw.testBit n.val = true ∧ ((s.feLost n p).fe n.val p).chal.want = false ∧
      (s.feLost n p).mode = s.mode := by
  unfold State.feLost
  generalize dropped : s.setFe n.val p _ = d
  have idle : (d.fe n.val p).chal.want = false := by rw [← dropped, State.fe_setFe_same]
  have mode : d.mode = s.mode := by rw [← dropped]; rfl
  clear dropped
  have lost : (d.setFeState n p 5).feState n p = 5 := State.rdf_wrf_same 5 (findRow_fe n l) (by decide) rfl
  have state : Within 0x2000000000000000 [] d (d.setFeState n p 5) := State.setFeState_within ..
  generalize d.setFeState n p 5 = x at lost state
  have flag : Within 0x2008000000000080 [] x (x.flag (.sns n) 10) := (State.flag_within ..).kind rfl .sns rfl rfl
  have shown := x.flag_sns_shown n (b := 10) (by decide) (by decide)
  have word : (x.flag (.sns n) 10).feState n p = 5 := by
    rw [State.feState, State.rdf, State.flag_sns_rd _ _ _ (fe_place l) (by show 0x010 ≠ 0x810 + 4 * p; omega)]
    exact lost
  generalize x.flag (.sns n) 10 = y at flag shown word
  have source : Within 0x6321808000181e00280 [] y (y.setSource n.val true) := State.setSource_within ..
  refine ⟨?_, ?_, y.setSource_loss n true, ?_, ?_⟩
  · rw [State.feState, State.rdf, source.snsWord rfl n (fe_place l)]
    exact word
  · rw [State.rdb, source.snsWord rfl n (by decide)]
    exact shown
  · rw [source.fe_same rfl, flag.fe_same rfl, state.fe_same rfl, idle]
  · rw [source.mode_same rfl, flag.mode_same rfl, state.mode_same rfl, mode]

/-! ### The wait of module B's enumeration (R90) -/

theorem exec_enumerationWaitExpiry_due {s : State} (dt : Nat) {n : Fin 16} (endB : s.sys.strapB = true)
    (state : s.pageState (.sns n) = .enabling) (waited : (s.sring n.val).enTick + 19 ≤ s.tick)
    (silent : (s.sring n.val).otherRun = 0 ∨ (s.sring n.val).otherTick < (s.sring n.val).enTick) :
    exec (.enumerationWaitExpiry dt n) s =
      .next (((s.elapse dt).setSring n.val { s.sring n.val with active := true }).wrf (.sns n) R.SNS.RING 3 2 1) := by
  rw [exec_enumerationWaitExpiry]
  refine (if_pos ?_).trans (by rw [State.elapse_sring])
  simp [endB, state, waited, silent]

end Sys2Proof.Machine
end

section
/-! SETTLEMENT. The timers of a ring, its breaks and heals, and front-ends that are lost. -/

open Sys2Proof Sys2Proof.Machine

/-- Settles O36: each timer's equation in each of its cases, with what it leaves of the fields that are claimed. -/
theorem ringTimersComplete : Obligations.RingTimersComplete := by
  refine ⟨?_, fun dt n s h => exec_repeatCoachSend_idle h, ?_, fun dt n s h => exec_farWaitExpiry_outside h, ?_, ?_, ?_,
    ?_, fun dt n p s h => exec_frontEndLost_idle dt h, ?_⟩
  · rintro dt n s e need rfl run speaks rfl lacks left opens closes apart
    obtain ⟨sent, sends, last, counted⟩ := (s.elapse dt).repeated_shows n
    rw [State.elapse_lacking, State.elapse_tick, State.elapse_sent] at sent
    rw [State.elapse_sring] at sends
    exact ⟨_, exec_repeatCoachSend_due run speaks lacks left opens closes apart, sent, sends, last,
      counted.trans (by rw [State.elapse_rdn])⟩
  · rintro dt n s e rfl run endB opens closes silent
    exact exec_farWaitExpiry_drives run opens closes endB silent
  · intro dt n s run opens closes endA split good far
    obtain ⟨intact, flagged, wants⟩ := State.healRing_heals (s := s.elapse dt) (n := n) (by rwa [State.elapse_ringMode])
    exact ⟨_, exec_farWaitExpiry_heals run opens closes endA split good far, intact, flagged, fun p l populated present =>
      wants p l (State.answers_of (by rwa [State.elapse_pop]) (by rwa [State.elapse_feState]))⟩
  · intro dt n s run intact first
    obtain ⟨next, flagged, counted, wants⟩ := State.breakRing_breaks (s := s.elapse dt) (n := n) 1 0xFF
      (by rwa [State.elapse_ringMode]) (by rwa [State.elapse_sring])
    have kept : Within 0x300800010000108e [] s ((s.elapse dt).breakRing n 1 0xFF) :=
      ((s.elapse_within dt).mono rfl).trans ((State.breakRing_within ..).mono rfl)
    exact ⟨_, exec_symbolLockLoss_running dt run, next, flagged, counted.trans (by rw [State.elapse_rdn]),
      fun p l populated present => wants p l (State.answers_of (by rwa [State.elapse_pop]) (by rwa [State.elapse_feState])),
      kept.mode_same rfl, kept.prot_same rfl rfl⟩
  · intro dt n s h
    by_cases run : s.running (.sns n) = true
    · rw [exec_symbolLockLoss_running dt run, State.breakRing_declared]
      rw [State.elapse_ringMode, State.elapse_sring]
      exact h.resolve_left (by simp [run])
    · exact exec_symbolLockLoss_idle dt (by simpa using run)
  · intro dt n p s run populated present missing
    obtain ⟨lost, flagged, source, idle, mode⟩ := (s.elapse dt).feLost_loses n p.isLt
    exact ⟨_, exec_frontEndLost_due dt run populated present missing, lost, flagged, source, idle,
      mode.trans (State.elapse_mode ..)⟩
  · intro dt n s endB state waited silent
    refine ⟨_, exec_enumerationWaitExpiry_due dt endB state waited silent, ?_, ?_, ?_⟩
    · rw [(State.wrf_within ..).sring_same rfl, State.sring_setSring_same]
    · exact State.rdf_wrf_same 1 (findRow_ring n) (by decide) rfl
    · exact (State.rdf_wrf_disjoint (a := 1) (b := 0) 1 (findRow_ring n) (by decide) rfl (by decide)).trans (State.elapse_ringMode ..)

end

section
/-! SUPPORT. Slots of a data coach: what a compartment that is taken leaves of what the rings hold and of the identities
they report (R63, R81, R88, R98). -/

namespace Sys2Proof.Machine

open Sys2Proof

/-! ### What every other operation on a ring leaves -/

/-- CFG of a ring's page and the identity of a position. -/
def nameWord (n : Fin 16) (p : Nat) (q : Page) (o : Nat) : Prop :=
  q = .sns n ∧ (o = R.SNS.CFG ∨ o = R.SNS.IDLO p ∨ o = R.SNS.IDHI p)

/-- What the rings hold, CFG and the identity of a position stand. -/
structure SlotStands (n : Fin 16) (p : Nat) (s t : State) : Prop where
  comps : CompsKept s t
  words : Unmoved (nameWord n p) s t

namespace SlotStands

variable {n : Fin 16} {p : Nat} {r s t : State}

theorem refl (s : State) : SlotStands n p s s := ⟨.refl s, .refl s⟩

theorem trans (h : SlotStands n p r s) (k : SlotStands n p s t) : SlotStands n p r t :=
  ⟨h.comps.trans k.comps, h.words.trans k.words⟩

theorem ite {c : Prop} [Decidable c] (h : SlotStands n p r s) (k : SlotStands n p r t) :
    SlotStands n p r (if c then s else t) := ite_ind (SlotStands n p r) h k

theorem foldl {α : Type} {f : State → α → State} {l : List α} (k : ∀ t a, SlotStands n p t (f t a)) :
    SlotStands n p s (l.foldl f s) := foldl_ind (SlotStands n p s) (.refl s) fun t a h => h.trans (k t a)

theorem within {K : Nat} (h : Within K [] s t) (k : K.testBit 12 = false) (l : K.testBit 61 = false) :
    SlotStands n p s t where
  comps := .within h k
  words := ⟨fun q o small w => by
    obtain ⟨rfl, -⟩ := w
    exact h.snsWord l n small⟩

theorem setFe (s : State) (m q : Nat) (v : FeSt) : SlotStands n p s (s.setFe m q v) :=
  ⟨s.setFe_compsKept m q v, .of_regs rfl⟩

theorem setSring (s : State) (m : Nat) {v : RingSns} (h : v.comps = (s.sring m).comps) :
    SlotStands n p s (s.setSring m v) := ⟨s.setSring_compsKept m h, .of_regs rfl⟩

theorem wr (s : State) {q : Page} {o : Nat} (h : ¬nameWord n p q o) (v : Word) : SlotStands n p s (s.wr q o v) :=
  ⟨.within (State.wr_within ..) rfl, s.wr_unmoved h v⟩

theorem flag (s : State) (q : Page) (b : Nat) : SlotStands n p s (s.flag q b) where
  comps := .within (State.flag_within ..) rfl
  words := ⟨fun u o small w => by
    obtain ⟨rfl, offset⟩ := w
    have apart : R.PAGE.FLAGS ≠ o := by
      rintro rfl
      simp only [R.PAGE.FLAGS, R.SNS.CFG, R.SNS.IDLO, R.SNS.IDHI] at offset
      omega
    refine s.flag_rd q b (page_apart (by simp) (by decide) small) fun place => apart ?_
    exact (place_inj (by decide) small place).2⟩

end SlotStands

/-- Words of a ring's page outside CFG and the identities. -/
theorem nameWord_else {n : Fin 16} {p : Nat} {q : Page} {o : Nat} (h : o ≠ R.SNS.CFG) (k : o ≠ R.SNS.IDLO p)
    (l : o ≠ R.SNS.IDHI p) : ¬nameWord n p q o := fun w => w.2.elim h (·.elim k l)

theorem nameWord_status {n : Fin 16} {p : Nat} {u : Page} {q : Nat} (h : q < 4) : ¬nameWord n p u (R.SNS.FE q) :=
  nameWord_else (by show 0x810 + 4 * q ≠ 0x40; omega) (by show 0x810 + 4 * q ≠ 0x820 + 8 * p; omega)
    (by show 0x810 + 4 * q ≠ 0x824 + 8 * p; omega)

theorem nameWord_ring {n : Fin 16} {p : Nat} {u : Page} : ¬nameWord n p u R.SNS.RING :=
  nameWord_else (by decide) (by show 0x800 ≠ 0x820 + 8 * p; omega) (by show 0x800 ≠ 0x824 + 8 * p; omega)

theorem nameWord_counter {n : Fin 16} {p : Nat} {u : Page} {o : Nat} (small : p < 4) (h : 0xF00 ≤ o) : ¬nameWord n p u o :=
  nameWord_else (by show o ≠ 0x40; omega) (by show o ≠ 0x820 + 8 * p; omega) (by show o ≠ 0x824 + 8 * p; omega)

section
variable {n : Fin 16} {p : Nat} (s : State) (m : Fin 16) {q : Nat}

theorem State.setFeState_stands (l : q < 4) (v : Nat) : SlotStands n p s (s.setFeState m q v) :=
  .wr s (nameWord_status l) _

theorem State.wantChallenge_stands (q : Nat) : SlotStands n p s (s.wantChallenge m q) := .ite (.refl s) (.setFe ..)

theorem State.wantAll_stands : SlotStands n p s (s.wantAll m) :=
  .foldl fun t q => .ite (t.wantChallenge_stands m q) (.refl t)

theorem State.jrnPut_stands (r o : Nat) (b : List Byte) : SlotStands n p s (s.jrnPut r o b) :=
  .within (State.jrnPut_within ..) rfl rfl

theorem State.verdictOf_stands (l : q < 4) (passed : Bool) : SlotStands n p s (s.verdictOf m q passed) := by
  unfold State.verdictOf
  extract_lets f held id same failed record event pass pass2 fail
  have records (t : State) (v : Nat) : SlotStands n p t (record t v) := .within (State.record_within ..) rfl rfl
  have events (t : State) (v : Nat) : SlotStands n p t (event t v) := .within (State.verdictEvent_within ..) rfl rfl
  have passes (t : State) : SlotStands n p t (pass t) := (t.jrnPut_stands ..).trans (State.jrnPut_stands ..)
  have passed2 : SlotStands n p s pass2 := s.setFeState_stands m l 2
  have failed2 : SlotStands n p s fail := .flag s _ 12
  refine .ite (.ite ?_ ?_) (.ite ?_ ?_)
  · exact (passed2.trans (passes _)).trans (events ..)
  · exact (((passed2.trans (State.jrnPut_stands ..)).trans (passes _)).trans (records ..)).trans (events ..)
  · exact ((((failed2.trans (fail.setFeState_stands m l 3)).trans (.flag ..)).trans (State.jrnPut_stands ..)).trans
      (records ..)).trans (events ..)
  · exact (((failed2.trans (fail.setFeState_stands m l 4)).trans (State.jrnPut_stands ..)).trans (records ..)).trans
      (events ..)

theorem State.attemptEnds_stands (l : q < 4) (ok : Bool) : SlotStands n p s (s.attemptEnds m q ok) := by
  refine ⟨s.attemptEnds_compsKept m q ok, ?_⟩
  unfold State.attemptEnds
  extract_lets v chal marked passed tried counted failed judged
  have word (t : State) (v : Word) : Unmoved (nameWord n p) t (t.wr (.sns m) (R.SNS.FE q) v) :=
    t.wr_unmoved (nameWord_status l) v
  have passes : Unmoved (nameWord n p) s passed :=
    ((SlotStands.setFe s m.val q _).words.trans (word ..)).trans (word ..)
  have fails : Unmoved (nameWord n p) s failed := (SlotStands.setFe s m.val q _).words.trans (word ..)
  exact .ite (passes.trans (State.verdictOf_stands _ m l true).words)
    (.ite ((fails.trans (State.verdictOf_stands _ m l false).words).trans (SlotStands.setFe ..).words) fails)

theorem State.verifyResponse_stands (l : q < 4) (c : List Byte) : SlotStands n p s (s.verifyResponse m q c) := by
  unfold State.verifyResponse
  split
  · exact .refl s
  · extract_lets ok k sent
    have sends : SlotStands n p s sent := .within (State.sendVerdict_within ..) rfl rfl
    exact .ite (sends.trans (State.attemptEnds_stands sent m l ok)) (.refl s)

theorem State.breakRing_stands (small : p < 4) (cause pos : Nat) : SlotStands n p s (s.breakRing m cause pos) := by
  unfold State.breakRing
  extract_lets r marked counted
  have mark : SlotStands n p s marked := .setSring s m.val rfl
  have count : SlotStands n p s counted :=
    (mark.trans (.wr marked (nameWord_counter (o := R.SNS.BREAKS) small (by decide)) _)).trans (.flag _ _ 8)
  exact .ite (.refl s) ((count.trans (.within (State.ringRecord_within ..) rfl rfl)).trans (State.wantAll_stands ..))

theorem State.readHops_stands (small : p < 4) (hops : Nat) (counts : Bool) :
    SlotStands n p s (s.readHops m hops counts) := by
  unfold State.readHops
  extract_lets r size lacking wait noted
  have note : SlotStands n p s noted := .setSring s m.val rfl
  exact .ite (.refl s) (.ite (.ite (.refl s) (.setSring s m.val rfl))
    (.ite (.ite (note.trans (State.breakRing_stands _ m small ..)) note) (.refl s)))

theorem State.setAlert_stands (l : q < 4) (a : Nat) : SlotStands n p s (s.setAlert m q a) := by
  unfold State.setAlert
  extract_lets stopped v noted
  have stop : SlotStands n p s stopped := .within (State.balAlert_within ..) rfl rfl
  have note : SlotStands n p s noted := stop.trans (.setFe ..)
  exact (note.trans (.wr noted (nameWord_status l) _)).trans (.within (State.alertSource_within ..) rfl rfl)

theorem State.reached_stands (endB : Bool) (q : Nat) : SlotStands n p s (s.reached m endB q) :=
  .wr (q := .sns m) s nameWord_ring _

theorem State.compActs_stands (l : q < 4) (tick : Nat) (c : List Byte) : SlotStands n p s (s.compActs m q tick c) :=
  (s.setAlert_stands m l _).trans (.foldl fun _ _ => .within (State.limitCompare_within ..) rfl rfl)

/-- What follows the reported identity leaves it, and what is held. -/
theorem State.noteIdentity_stands (l : q < 4) (id : Nat) :
    SlotStands n p (s.wr64 (.sns m) (R.SNS.IDLO q) (R.SNS.IDHI q) id) (s.noteIdentity m q id) := by
  unfold State.noteIdentity
  extract_lets before named f first use
  have uses (t : State) (b : Bool) : SlotStands n p t (use t b) := .setFe ..
  refine .ite ?_ (.ite ?_ (.refl _))
  · exact ((named.setFeState_stands m l 1).trans (State.wantChallenge_stands ..)).trans (uses ..)
  · exact (((SlotStands.ite (.refl named) (named.setFeState_stands m l 1)).trans (.flag ..)).trans
      (State.wantChallenge_stands ..)).trans (uses ..)

/-- What follows a compartment that is held: the peer is told, the position is reached, its response is verified and its
links are checked. -/
def State.slotTail (s : State) (m : Fin 16) (q : Nat) (c : List Byte) (had : Bool) : State :=
  let s := if had then s else s.sendFrame 0x07 ([BitVec.ofNat 8 m.val, BitVec.ofNat 8 q, BitVec.ofNat 8 c.length, 0] ++
    leBytes 8 s.tick ++ leBytes 8 s.mt ++ c)
  let s := s.reached m s.sys.strapB q
  let s := s.verifyResponse m q c
  if s.running (.sns m) && linkBroken (s.pop m) q c then s.breakRing m 2 q else s

theorem State.slotTail_stands (small : p < 4) (l : q < 4) (c : List Byte) (had : Bool) :
    SlotStands n p s (s.slotTail m q c had) := by
  unfold State.slotTail
  extract_lets sent reached verified
  have sends : SlotStands n p s sent := .ite (.refl s) (.within (State.sendFrame_within ..) rfl rfl)
  have reaches : SlotStands n p s reached := sends.trans (sent.reached_stands m _ q)
  have verifies : SlotStands n p s verified := reaches.trans (State.verifyResponse_stands _ m l c)
  exact .ite (verifies.trans (State.breakRing_stands _ m small ..)) verifies

end

/-! ### A compartment that is held -/

theorem nameRows {n : Fin 16} {p : Nat} (l : p < 4) :
    FullRow (.sns n) (R.SNS.IDLO p) ∧ FullRow (.sns n) (R.SNS.IDHI p) := by
  interval_cases p <;> exact ⟨.of rfl, .of rfl⟩

theorem State.wr64_reportedId (s : State) (n : Fin 16) {p : Nat} (l : p < 4) (id : Nat) :
    (s.wr64 (.sns n) (R.SNS.IDLO p) (R.SNS.IDHI p) id).reportedId n p = id % 2 ^ 64 :=
  (nameRows l).1.rd64_wr64 (nameRows l).2 id (by show 0x824 + 8 * p ≠ 0x820 + 8 * p; omega)

theorem State.reportedId_of_words {n : Fin 16} {p : Nat} {s t : State} (h : Unmoved (nameWord n p) s t) (l : p < 4) :
    t.reportedId n p = s.reportedId n p :=
  State.rd64_of_reads (h.reads _ _ (by show 0x820 + 8 * p < 0x1000; omega) ⟨rfl, .inr (.inl rfl)⟩)
    (h.reads _ _ (by show 0x824 + 8 * p < 0x1000; omega) ⟨rfl, .inr (.inr rfl)⟩)

theorem State.pop_of_words {n : Fin 16} {p : Nat} {s t : State} (h : Unmoved (nameWord n p) s t) : t.pop n = s.pop n :=
  congrArg (fld · 3 0) (h.reads (.sns n) R.SNS.CFG (by decide) ⟨rfl, .inl rfl⟩)

/-- A ring holds nothing of a position. -/
def State.lacks (s : State) (n : Nat) (p : Nat) : Prop := ∀ y ∈ (s.sring n).comps, y.pos ≠ p

/-- The first copy of a compartment is held behind what the ring held, and its position reports its identity (R63, R98). -/
theorem State.holdComp_first {s : State} {n : Fin 16} {p : Nat} (l : p < 4) (h : s.lacks n.val p) (c : List Byte)
    (amt : Nat) (direct : Bool) :
    ((s.holdComp n p c amt direct).sring n.val).comps = (s.sring n.val).comps ++ [⟨p, c, amt, direct, false⟩] ∧
      (s.holdComp n p c amt direct).reportedId n p = leAt c 4 8 := by
  have none_ : (s.sring n.val).comps.find? (fun x => x.pos = p) = none := by
    rw [List.find?_eq_none]
    exact fun y m => by simpa using h y m
  unfold State.holdComp
  extract_lets r id held noted
  rw [none_]
  dsimp -zeta only
  have holds : (held.sring n.val).comps = (s.sring n.val).comps ++ [⟨p, c, amt, direct, false⟩] := by
    rw [State.sring_setSring_same]
  have named := held.wr64_reportedId n l (leAt c 4 8)
  have later : SlotStands n p (held.wr64 (.sns n) (R.SNS.IDLO p) (R.SNS.IDHI p) (leAt c 4 8)) (noted.compActs n p noted.tick c) :=
    (held.noteIdentity_stands n l _).trans (noted.compActs_stands n l ..)
  have words : CompsKept held (held.wr64 (.sns n) (R.SNS.IDLO p) (R.SNS.IDHI p) (leAt c 4 8)) :=
    .within (State.wr64_within ..) rfl
  refine ⟨?_, ?_⟩
  · rw [later.comps.comps, words.comps, holds]
  · rw [State.reportedId_of_words later.words l, named]
    exact Nat.mod_eq_of_lt (leAt_lt c 4 8)

/-! ### The other positions -/

/-- What a ring holds of one position. -/
def State.heldAt (s : State) (n : Nat) (p : Nat) : List CompIn := (s.sring n).comps.filter (fun x => x.pos = p)

theorem State.heldAt_eq_nil {s : State} {n p : Nat} : s.heldAt n p = [] ↔ s.lacks n p := by
  unfold State.heldAt State.lacks
  rw [List.filter_eq_nil_iff]
  simp

/-- What a ring holds of a position, CFG and the position's identity stand. -/
structure PosStands (n : Fin 16) (p : Nat) (s t : State) : Prop where
  held : t.heldAt n.val p = s.heldAt n.val p
  words : Unmoved (nameWord n p) s t

theorem SlotStands.pos {n : Fin 16} {p : Nat} {s t : State} (h : SlotStands n p s t) : PosStands n p s t where
  held := congrArg (List.filter fun x : CompIn => x.pos = p) (CompsKept.comps h.comps n.val)
  words := h.words

namespace PosStands

variable {n : Fin 16} {p : Nat} {r s t : State}

theorem trans (h : PosStands n p r s) (k : PosStands n p s t) : PosStands n p r t :=
  ⟨k.held.trans h.held, h.words.trans k.words⟩

/-- Another position's compartments change. -/
theorem setSring (s : State) {v : RingSns}
    (h : v.comps.filter (fun x => x.pos = p) = (s.sring n.val).comps.filter (fun x => x.pos = p)) :
    PosStands n p s (s.setSring n.val v) where
  held := by
    unfold State.heldAt
    rw [State.sring_setSring_same, h]
  words := .of_regs rfl

end PosStands

section
variable (s : State) (n : Fin 16) {p q : Nat}

/-- The identity of another position is written. -/
theorem State.wr64_posStands (other : q ≠ p) (id : Nat) : PosStands n p s (s.wr64 (.sns n) (R.SNS.IDLO q) (R.SNS.IDHI q) id) := by
  have lo : ¬nameWord n p (.sns n) (R.SNS.IDLO q) := nameWord_else (by show 0x820 + 8 * q ≠ 0x40; omega)
    (by show 0x820 + 8 * q ≠ 0x820 + 8 * p; omega) (by show 0x820 + 8 * q ≠ 0x824 + 8 * p; omega)
  have hi : ¬nameWord n p (.sns n) (R.SNS.IDHI q) := nameWord_else (by show 0x824 + 8 * q ≠ 0x40; omega)
    (by show 0x824 + 8 * q ≠ 0x820 + 8 * p; omega) (by show 0x824 + 8 * q ≠ 0x824 + 8 * p; omega)
  exact ((SlotStands.wr s lo _).trans (.wr _ hi _)).pos

variable (small : p < 4) (l : q < 4) (other : q ≠ p)
include small l other

theorem State.conflictAt_posStands : PosStands n p s (s.conflictAt n q) := by
  unfold State.conflictAt
  extract_lets r marked
  have mark : PosStands n p s marked := by
    refine .setSring s ?_
    rw [List.filter_map]
    have same : ((fun x : CompIn => decide (x.pos = p)) ∘ fun x => if x.pos = q then { x with conflict := true } else x) =
        fun x => decide (x.pos = p) := by
      funext x
      dsimp only [Function.comp]
      split <;> rfl
    rw [same]
    refine (List.map_congr_left fun x m => ?_).trans (List.map_id _)
    have pos : x.pos = p := of_decide_eq_true (List.mem_filter.mp m).2
    rw [if_neg (by rw [pos]; exact Ne.symm other), id]
  exact mark.trans ((SlotStands.wr (q := .sns n) marked (nameWord_status l) _).trans
    (.wr (q := .sns n) _ (nameWord_counter (o := R.SNS.MISS) small (by decide)) _)).pos

theorem State.holdComp_posStands (c : List Byte) (amt : Nat) (direct : Bool) :
    PosStands n p s (s.holdComp n q c amt direct) := by
  unfold State.holdComp
  extract_lets r id held noted
  split
  · exact ite_ind (PosStands n p s) (SlotStands.refl s).pos (s.conflictAt_posStands n small l other)
  · have hold : PosStands n p s held := .setSring s (by simp [r, other])
    exact ((hold.trans (held.wr64_posStands n other _)).trans (held.noteIdentity_stands n l _).pos).trans
      (noted.compActs_stands n l ..).pos

end

/-! ### The slots of a data coach -/

/-- A slot whose compartment is taken (R63, R81). -/
def State.slotHeld (s : State) (n : Fin 16) (q : Nat) (c : List Byte) : State :=
  (s.setSring n.val { s.sring n.val with near := sset 0 (s.sring n.val).near q (leAt c 4 8) }).holdComp n q c s.mt true

theorem State.takeSlot_taken {s : State} {n : Fin 16} {q : Nat} {c : List Byte} (filled : byteAt c 0 = 0xA5)
    (named : byteAt c 1 = q) (populated : (s.pop n).testBit q = true) (time : s.mt ≤ s.tick * 500000 + 350000) :
    s.takeSlot n q c = (s.slotHeld n q c).slotTail n q c ((s.sring n.val).comps.any (fun x => x.pos = q && x.direct)) := by
  unfold State.takeSlot
  rw [if_neg (by simp [filled]), if_neg (by simp [named, populated]), if_neg (by omega)]
  rfl

/-- A slot leaves what is held of the other positions. -/
theorem State.takeSlot_posStands (s : State) (n : Fin 16) {p q : Nat} (small : p < 4) (l : q < 4) (other : q ≠ p)
    (c : List Byte) : PosStands n p s (s.takeSlot n q c) := by
  unfold State.takeSlot
  extract_lets r had near held sent reached verified
  have nears : SlotStands n p s near := .setSring s n.val rfl
  have holds : PosStands n p s held := nears.pos.trans (near.holdComp_posStands n small l other ..)
  have tail : PosStands n p s (held.slotTail n q c had) := holds.trans (held.slotTail_stands n small l c had).pos
  refine ite_ind _ (SlotStands.refl s).pos (ite_ind _ ?_ (ite_ind _ (SlotStands.refl s).pos tail))
  refine SlotStands.pos ?_
  exact .ite (.setSring s n.val rfl) (.refl s)

/-- Slots of other positions leave what is held of one. -/
theorem State.takeSlots_posStands {n : Fin 16} {p : Nat} (small : p < 4) (c : Nat → List Byte) {l : List Nat}
    (slots : ∀ q ∈ l, q < 4) (others : p ∉ l) (s : State) :
    PosStands n p s (l.foldl (fun s q => s.takeSlot n q (c q)) s) := by
  induction l generalizing s with
  | nil => exact (SlotStands.refl s).pos
  | cons q l ih =>
    have first : PosStands n p s (s.takeSlot n q (c q)) :=
      s.takeSlot_posStands n small (slots q (.head l)) (fun e => others (e ▸ .head l)) (c q)
    exact first.trans (ih (fun a m => slots a (.tail q m)) (fun m => others (.tail q m)) _)

theorem State.takeSlots_within (n : Fin 16) (c : Nat → List Byte) (l : List Nat) (s : State) :
    Within 0x63738080001a9e89280 [] s (l.foldl (fun s q => s.takeSlot n q (c q)) s) :=
  .foldl (.refl s) fun _ _ h => h.trans (State.takeSlot_within ..)

/-- A filled slot of its own position, in time and with nothing held, is held alone, and its position reports its
identity (R63, R98). -/
theorem State.takeSlot_holds {s : State} {n : Fin 16} {p : Nat} {c : List Byte} (small : p < 4) (filled : byteAt c 0 = 0xA5)
    (named : byteAt c 1 = p) (populated : (s.pop n).testBit p = true) (time : s.mt ≤ s.tick * 500000 + 350000)
    (first : s.heldAt n.val p = []) : (s.takeSlot n p c).heldAt n.val p = [⟨p, c, s.mt, true, false⟩] ∧
      (s.takeSlot n p c).reportedId n p = leAt c 4 8 := by
  rw [State.takeSlot_taken filled named populated time]
  generalize (s.sring n.val).comps.any (fun x => x.pos = p && x.direct) = had
  have near : SlotStands n p s (s.setSring n.val { s.sring n.val with
    near := sset 0 (s.sring n.val).near p (leAt c 4 8) }) := .setSring s n.val rfl
  unfold State.slotHeld
  generalize s.setSring n.val _ = u at near ⊢
  have empty : u.heldAt n.val p = [] := near.pos.held.trans first
  obtain ⟨comps, id⟩ := State.holdComp_first small (State.heldAt_eq_nil.mp empty) c s.mt true
  have tail : SlotStands n p _ _ := (u.holdComp n p c s.mt true).slotTail_stands n small small c had
  refine ⟨tail.pos.held.trans ?_, (State.reportedId_of_words tail.words small).trans id⟩
  unfold State.heldAt at empty ⊢
  rw [comps, List.filter_append, empty]
  simp

/-- The slots of a data coach, each of its own position. -/
def State.takeSlots (s : State) (n : Fin 16) (c : Nat → List Byte) : State :=
  (List.range 4).foldl (fun s q => s.takeSlot n q (c q)) s

theorem State.takeSlots_holds {s : State} {n : Fin 16} {p : Nat} {c : Nat → List Byte} (small : p < 4)
    (filled : byteAt (c p) 0 = 0xA5) (named : byteAt (c p) 1 = p) (populated : (s.pop n).testBit p = true)
    (time : s.mt ≤ s.tick * 500000 + 350000) (first : s.heldAt n.val p = []) :
    (s.takeSlots n c).heldAt n.val p = [⟨p, c p, s.mt, true, false⟩] ∧ (s.takeSlots n c).reportedId n p = leAt (c p) 4 8 := by
  obtain ⟨a, b, parts⟩ := List.append_of_mem (List.mem_range.mpr small)
  have slots : ∀ q ∈ a ++ p :: b, q < 4 := fun q m => List.mem_range.mp (parts ▸ m)
  have once : (a ++ p :: b).Nodup := parts ▸ List.nodup_range
  have notBefore : p ∉ a := fun m => (List.nodup_append.mp once).2.2 p m p (.head b) rfl
  have notAfter : p ∉ b := (List.nodup_cons.mp (List.nodup_append.mp once).2.1).1
  unfold State.takeSlots
  rw [parts, List.foldl_append, List.foldl_cons]
  have before := State.takeSlots_posStands (n := n) small c (fun q m => slots q (List.mem_append_left _ m)) notBefore s
  have still := State.takeSlots_within n c a s
  generalize a.foldl _ s = u at before still ⊢
  have mt := still.mt_same rfl
  obtain ⟨held, id⟩ := State.takeSlot_holds small filled named (c := c p) (s := u) (n := n)
    (by rwa [State.pop_of_words before.words]) (by rw [mt, still.tick_same rfl]; exact time) (before.held.trans first)
  have after := State.takeSlots_posStands (n := n) small c (fun q m => slots q (List.mem_append_right _ (.tail p m)))
    notAfter (u.takeSlot n p (c p))
  exact ⟨after.held.trans (mt ▸ held), (State.reportedId_of_words after.words small).trans id⟩

end Sys2Proof.Machine
end

section
/-! SUPPORT. Coaches as they arrive (R63, R77, R78, R81, R90, R94, R96, R98). -/

namespace Sys2Proof.Machine

open Sys2Proof

/-! ### Coaches that are rejected, or that a page does not take (R77, R78) -/

section
variable {s : State} (dt : Nat) {n : Fin 16} {ok : Bool} {b : List Byte}

theorem exec_commandCoachReceived_bad (bad : coachOk ok 0x43 [108] b = false) : exec (.commandCoachReceived dt n ok b) s =
    .next (if s.snsLive n then (s.elapse dt).inc (.sns n) R.SNS.CRCERR else s.elapse dt) := by
  rw [exec_commandCoachReceived]
  refine (if_neg (by simp [bad])).trans ((if_pos (by simp [bad])).trans ?_)
  rw [State.elapse_snsLive]

theorem exec_dataCoachReceived_idle (idle : s.snsLive n = false) :
    exec (.dataCoachReceived dt n ok b) s = .next (s.elapse dt) := by
  rw [exec_dataCoachReceived]
  exact if_pos (by simp [idle])

theorem exec_dataCoachReceived_bad (live : s.snsLive n = true)
    (bad : coachOk ok 0x44 [if (byteAt b 1).testBit 0 then 404 else 276] b = false) :
    exec (.dataCoachReceived dt n ok b) s = .next ((s.elapse dt).inc (.sns n) R.SNS.CRCERR) := by
  rw [exec_dataCoachReceived]
  refine (if_neg (by simp [live])).trans (if_pos ?_)
  exact congrArg not bad

theorem exec_alertCoachReceived_idle (idle : s.snsLive n = false) :
    exec (.alertCoachReceived dt n ok b) s = .next (s.elapse dt) := by
  rw [exec_alertCoachReceived]
  exact if_pos (by simp [idle])

theorem exec_alertCoachReceived_bad (live : s.snsLive n = true) (bad : coachOk ok 0x4C [12] b = false) :
    exec (.alertCoachReceived dt n ok b) s = .next ((s.elapse dt).inc (.sns n) R.SNS.CRCERR) := by
  rw [exec_alertCoachReceived]
  exact (if_neg (by simp [live])).trans (if_pos (by simp [bad]))

end

theorem State.crcerr_counted (s : State) (dt : Nat) (n : Fin 16) :
    ((s.elapse dt).inc (.sns n) R.SNS.CRCERR).rdn (.sns n) R.SNS.CRCERR = satAdd 32 (s.rdn (.sns n) R.SNS.CRCERR) 1 := by
  have row : FullRow (.sns n) R.SNS.CRCERR := .of rfl
  rw [row.rdn_inc, State.elapse_rdn]

/-! ### Command coaches of the other end (R86, R90, R94, R98) -/

/-- The other end's coach is noted, in its tick and in its run. -/
def State.farNoted (s : State) (n : Fin 16) (b : List Byte) (run : Nat) : State :=
  s.setSring n.val { s.sring n.val with
    otherTick := leAt b 4 8
    otherRun := run }

/-- The run of consecutive coaches of the other end that a coach goes on with. -/
def RingSns.farRun (r : RingSns) (t : Nat) : Nat := if r.otherTick + 1 = t && 0 < r.otherRun then r.otherRun + 1 else 1

theorem RingSns.farRun_eq (r : RingSns) (t : Nat) :
    r.farRun t = if r.otherTick + 1 = t ∧ 0 < r.otherRun then r.otherRun + 1 else 1 := by
  simp [RingSns.farRun]

/-- Its challenge is one this port sees (R98). -/
def State.farChallenged (s : State) (n : Fin 16) (b : List Byte) : State :=
  if (byteAt b 1).testBit 0 && byteAt b 0x50 < 4 then
    s.setFe n.val (byteAt b 0x50) { s.fe n.val (byteAt b 0x50) with
      chal := { (s.fe n.val (byteAt b 0x50)).chal with
        openAt := some (leAt b 4 8, leAt b 0x54 12)
        seenAt := some (leAt b 4 8, leAt b 0x54 12) } }
  else s

/-- A coach of the current tick is answered (R86). -/
def State.farAnswered (s : State) (n : Fin 16) (b : List Byte) : State :=
  if leAt b 4 8 = s.tick then s.send (.coach n.val (emptyDataCoach s (byteAt b 2))) else s

/-- Three in a row end B's driving, where it drove, and heal the ring (R94). -/
def State.farEnds (s : State) (n : Fin 16) (run : Nat) (drove : Bool) : State :=
  if s.sys.strapB && 3 ≤ run && drove then
    (s.setSring n.val { s.sring n.val with driveB := false }).healRing n
  else s

section
variable {s : State} (dt : Nat) {n : Fin 16} {b : List Byte} (whole : coachOk true 0x43 [108] b = true)
include whole

theorem exec_commandCoachReceived_own (own : (byteAt b 1).testBit 2 = s.sys.strapB) :
    exec (.commandCoachReceived dt n true b) s = .next (s.elapse dt) := by
  rw [exec_commandCoachReceived]
  exact if_pos (by simp [whole, own])

variable (other : (byteAt b 1).testBit 2 ≠ s.sys.strapB)
include other

theorem exec_commandCoachReceived_noted (idle : s.snsLive n = false) : exec (.commandCoachReceived dt n true b) s =
    .next ((s.elapse dt).farNoted n b ((s.sring n.val).farRun (leAt b 4 8))) := by
  rw [exec_commandCoachReceived]
  unfold execCommandCoachReceived
  extract_lets e ok t r run noted
  have still : noted.snsLive n = false := (State.elapse_snsLive s dt n).trans idle
  rw [if_neg (by simp [ok, whole, e, other]), if_neg (by simp [ok, whole]), if_pos (by simp [still])]
  rw [← State.elapse_sring s dt]
  rfl

theorem exec_commandCoachReceived_heard (live : s.snsLive n = true) : exec (.commandCoachReceived dt n true b) s =
    .next (((((s.elapse dt).farNoted n b ((s.sring n.val).farRun (leAt b 4 8))).farChallenged n b).farAnswered n b).farEnds
      n ((s.sring n.val).farRun (leAt b 4 8)) (s.sring n.val).driveB) := by
  rw [exec_commandCoachReceived]
  unfold execCommandCoachReceived
  extract_lets e ok t r run noted p v k chal challenged answered ring
  have still : noted.snsLive n = true := (State.elapse_snsLive s dt n).trans live
  rw [if_neg (by simp [ok, whole, e, other]), if_neg (by simp [ok, whole]), if_neg (by simp [still])]
  rw [← State.elapse_sring s dt]
  exact (apply_ite Host.Outcome.next _ _ _).symm

end

/-- What the other end's coaches made of a ring. -/
abbrev FarKept (s t : State) : Prop :=
  Kept (fun s m => ((s.sring m).otherTick, (s.sring m).otherRun, (s.sring m).driveB)) s t

theorem RingKept.far {s t : State} (h : RingKept s t) : FarKept s t :=
  ⟨funext fun m => (congrArg (fun r : RingSns => (r.otherTick, r.otherRun, r.driveB)) (RingKept.ring h m) :)⟩

theorem FarKept.ring {s t : State} (h : FarKept s t) (m : Nat) : (t.sring m).otherTick = (s.sring m).otherTick ∧
    (t.sring m).otherRun = (s.sring m).otherRun ∧ (t.sring m).driveB = (s.sring m).driveB := by
  simpa using congrFun h.same m

theorem State.healRing_farKept (s : State) (n : Fin 16) : FarKept s (s.healRing n) := by
  by_cases split : s.ringMode n = 3
  · rw [State.healRing_split split]
    refine Kept.trans (t := s.setSring n.val _) ⟨funext fun m => ?_⟩
      (RingKept.far ((RingKept.within (State.setRingMode_within ..) rfl).trans (State.ringNews_ringKept ..)))
    rw [State.sring_setSring]
    split
    · rename_i same
      rw [same]
    · rfl
  · rw [State.healRing_whole split]
    exact .refl s

theorem State.healRing_openAt (s : State) (n : Fin 16) (p : Nat) :
    ((s.healRing n).fe n.val p).chal.openAt = (s.fe n.val p).chal.openAt := by
  by_cases split : s.ringMode n = 3
  · rw [State.healRing_split split, State.ringNews_openAt, (State.setRingMode_within ..).fe_same rfl, State.fe_setSring]
    rfl
  · rw [State.healRing_whole split]

theorem State.farEnds_within (s : State) (n : Fin 16) (run : Nat) (drove : Bool) :
    Within 0x3008000100001080 [] s (s.farEnds n run drove) :=
  .ite (((State.setSring_within ..).mono rfl).trans (State.healRing_within ..)) (.refl s)

theorem State.farEnds_openAt (s : State) (n : Fin 16) (run : Nat) (drove : Bool) (p : Nat) :
    ((s.farEnds n run drove).fe n.val p).chal.openAt = (s.fe n.val p).chal.openAt := by
  refine ite_ind (fun t => (t.fe n.val p).chal.openAt = _) ?_ rfl
  rw [State.healRing_openAt, State.fe_setSring]
  rfl

/-- The end of B's driving leaves what was noted of the other end's coaches. -/
theorem State.farEnds_noted (s : State) (n : Fin 16) (run : Nat) (drove : Bool) :
    ((s.farEnds n run drove).sring n.val).otherTick = (s.sring n.val).otherTick ∧
      ((s.farEnds n run drove).sring n.val).otherRun = (s.sring n.val).otherRun := by
  refine ite_ind (fun t => (t.sring n.val).otherTick = _ ∧ (t.sring n.val).otherRun = _) ?_ ⟨rfl, rfl⟩
  obtain ⟨tick, run, -⟩ := FarKept.ring (State.healRing_farKept _ n) n.val
  exact ⟨tick.trans (by rw [State.sring_setSring_same]), run.trans (by rw [State.sring_setSring_same])⟩

/-- After three in a row module B does not drive (R94). -/
theorem State.farEnds_driveB {s : State} {n : Fin 16} {run : Nat} (endB : s.sys.strapB = true) (three : 3 ≤ run) :
    ((s.farEnds n run (s.sring n.val).driveB).sring n.val).driveB = false := by
  unfold State.farEnds
  split
  · obtain ⟨-, -, drive⟩ := FarKept.ring
      (State.healRing_farKept (s.setSring n.val { s.sring n.val with driveB := false }) n) n.val
    rw [drive, State.sring_setSring_same]
  · rename_i rest
    simpa [endB, three] using rest

section
variable (s : State) (n : Fin 16) (b : List Byte)

theorem State.farChallenged_ringKept : RingKept s (s.farChallenged n b) := .ite (s.setFe_ringKept ..) (.refl s)

theorem State.farChallenged_sys : (s.farChallenged n b).sys = s.sys := ite_ind (fun t => t.sys = s.sys) rfl rfl

theorem State.farChallenged_openAt {s : State} (flag : (byteAt b 1).testBit 0 = true) (pos : byteAt b 0x50 < 4) :
    ((s.farChallenged n b).fe n.val (byteAt b 0x50)).chal.openAt = some (leAt b 4 8, leAt b 0x54 12) := by
  unfold State.farChallenged
  rw [if_pos (by simp [flag, pos]), State.fe_setFe_same]

theorem State.farAnswered_within : Within 0x200 [] s (s.farAnswered n b) := .ite (State.send_within ..) (.refl s)

theorem State.farAnswered_sends {s : State} (now : leAt b 4 8 = s.tick) :
    .coach n.val (emptyDataCoach s (byteAt b 2)) ∈ (s.farAnswered n b).sent := by
  unfold State.farAnswered
  rw [if_pos now]
  exact .head _

end

theorem emptyDataCoach_of_sys {s t : State} (tick : t.tick = s.tick) (strap : t.sys.strapB = s.sys.strapB) (echo : Nat) :
    emptyDataCoach t echo = emptyDataCoach s echo := by
  unfold emptyDataCoach
  rw [tick, strap]

/-- A command coach of the other end that a live page hears. -/
theorem commandCoachReceived_heard {s : State} (dt : Nat) {n : Fin 16} {b : List Byte} {run : Nat} (live : s.snsLive n = true)
    (whole : coachOk true 0x43 [108] b = true) (other : (byteAt b 1).testBit 2 ≠ s.sys.strapB)
    (runs : run = (s.sring n.val).farRun (leAt b 4 8)) :
    ∃ t, exec (.commandCoachReceived dt n true b) s = .next t ∧ (t.sring n.val).otherTick = leAt b 4 8 ∧
      (t.sring n.val).otherRun = run ∧ t.mode = s.mode ∧ t.acc = s.acc ∧
      (leAt b 4 8 = s.tick → .coach n.val (emptyDataCoach s (byteAt b 2)) ∈ t.sent) ∧
      (s.sys.strapB = true → 3 ≤ run → (t.sring n.val).driveB = false) ∧
      ((byteAt b 1).testBit 0 = true → byteAt b 0x50 < 4 →
        (t.fe n.val (byteAt b 0x50)).chal.openAt = some (leAt b 4 8, leAt b 0x54 12)) := by
  have done := exec_commandCoachReceived_heard dt whole other live
  rw [← runs] at done
  have noted : (((s.elapse dt).farNoted n b run).sring n.val) = { s.sring n.val with
      otherTick := leAt b 4 8
      otherRun := run } := by
    rw [State.farNoted, State.sring_setSring_same, State.elapse_sring]
  have sys : ((s.elapse dt).farNoted n b run).sys = (s.elapse dt).sys := rfl
  generalize (s.elapse dt).farNoted n b run = u at done noted sys
  have challenged : RingKept u (u.farChallenged n b) := u.farChallenged_ringKept n b
  have sys2 : (u.farChallenged n b).sys = (s.elapse dt).sys := (u.farChallenged_sys n b).trans sys
  have openAt := State.farChallenged_openAt (s := u) n b
  generalize u.farChallenged n b = v at done challenged sys2 openAt
  have answered : Within 0x200 [] v (v.farAnswered n b) := v.farAnswered_within n b
  have sends := State.farAnswered_sends (s := v) n b
  generalize v.farAnswered n b = w at done answered sends
  have tick : v.tick = s.tick := (congrArg (fun y : SysSt => y.mt / 500000) sys2).trans (State.elapse_tick s dt)
  have strap : v.sys.strapB = s.sys.strapB := (congrArg SysSt.strapB sys2).trans (State.elapse_sys_strapB s dt)
  obtain ⟨otherTick, otherRun, drove⟩ :=
    FarKept.ring (RingKept.far (challenged.trans (RingKept.within answered rfl))) n.val
  rw [noted] at otherTick otherRun drove
  rw [← drove] at done
  have kept := (execCommandCoachReceived_within dt n true b s).of done
  obtain ⟨sameTick, sameRun⟩ := w.farEnds_noted n run (w.sring n.val).driveB
  have ends := w.farEnds_within n run (w.sring n.val).driveB
  refine ⟨_, done, sameTick.trans otherTick, sameRun.trans otherRun, kept.mode_same rfl, kept.acc rfl, fun now => ?_,
    fun endB three => State.farEnds_driveB ?_ three, fun flag pos => ?_⟩
  · rw [ends.sent rfl, ← emptyDataCoach_of_sys tick strap]
    exact sends (now.trans tick.symm)
  · exact (congrArg SysSt.strapB (answered.sys_same rfl)).trans (strap.trans endB)
  · rw [State.farEnds_openAt, answered.fe_same rfl]
    exact openAt flag pos

/-! ### Data coaches (R63, R81) -/

/-- The bytes of a slot of a data coach: 96 with the extension, else 64 (R81, R83). -/
def coachSlot (b : List Byte) (q : Nat) : List Byte :=
  slice b (0x10 + (if (byteAt b 1).testBit 0 then 96 else 64) * q) (if (byteAt b 1).testBit 0 then 96 else 64)

/-- What the slots of a coach do: nothing, but for one of the current tick. -/
def State.coachSlots (s : State) (n : Fin 16) (b : List Byte) : State :=
  if leAt b 4 8 = s.tick then s.takeSlots n (coachSlot b) else s

theorem exec_dataCoachReceived_whole {s : State} (dt : Nat) {n : Fin 16} {b : List Byte} (live : s.snsLive n = true)
    (whole : coachOk true 0x44 [if (byteAt b 1).testBit 0 then 404 else 276] b = true) :
    exec (.dataCoachReceived dt n true b) s = .next (((s.elapse dt).coachSlots n b).readHops n (byteAt b 2)
      (upstream ((s.elapse dt).coachSlots n b).sys.strapB (byteAt b 1) (byteAt b 2))) := by
  rw [exec_dataCoachReceived]
  refine (if_neg (by simp [live])).trans ((if_neg ?_).trans rfl)
  rw [Bool.not_eq_true, Bool.not_eq_false']
  exact whole

/-- A filled slot of the current tick, of its own position and in time, is held once (R63, R81). -/
theorem dataCoachReceived_held {s : State} (dt : Nat) {n : Fin 16} {b : List Byte} {p : Nat} (live : s.snsLive n = true)
    (whole : coachOk true 0x44 [if (byteAt b 1).testBit 0 then 404 else 276] b = true) (now : leAt b 4 8 = s.tick)
    (time : (s.elapse dt).mt ≤ s.tick * 500000 + 350000) (small : p < 4) (populated : (s.pop n).testBit p = true)
    (filled : byteAt (coachSlot b p) 0 = 0xA5) (named : byteAt (coachSlot b p) 1 = p) (first : s.lacks n.val p) :
    ∃ t y, exec (.dataCoachReceived dt n true b) s = .next t ∧ y ∈ (t.sring n.val).comps ∧ y.pos = p ∧
      y.bytes = coachSlot b p ∧ y.direct = true ∧ y.conflict = false ∧ t.reportedId n p = leAt (coachSlot b p) 4 8 := by
  have done := exec_dataCoachReceived_whole dt live whole
  have slots : (s.elapse dt).coachSlots n b = (s.elapse dt).takeSlots n (coachSlot b) :=
    if_pos (by rw [State.elapse_tick, now])
  have empty : (s.elapse dt).heldAt n.val p = [] := State.heldAt_eq_nil.mpr (by rwa [State.lacks, State.elapse_sring])
  obtain ⟨held, id⟩ := State.takeSlots_holds small filled named (by rwa [State.elapse_pop])
    (by rwa [State.elapse_tick]) empty
  rw [slots] at done
  generalize upstream _ _ _ = counts at done
  have later : SlotStands n p _ _ := State.readHops_stands ((s.elapse dt).takeSlots n (coachSlot b)) n small (byteAt b 2) counts
  have mem := later.pos.held.trans held
  refine ⟨_, ⟨p, coachSlot b p, (s.elapse dt).mt, true, false⟩, done, ?_, rfl, rfl, rfl, rfl,
    (State.reportedId_of_words later.words small).trans id⟩
  exact (List.mem_filter.mp (mem ▸ List.mem_singleton_self _)).1

/-- A coach of another tick applies no compartment (R63). -/
theorem dataCoachReceived_late {s : State} (dt : Nat) {n : Fin 16} {b : List Byte} (live : s.snsLive n = true)
    (late : leAt b 4 8 ≠ s.tick) (whole : coachOk true 0x44 [if (byteAt b 1).testBit 0 then 404 else 276] b = true) :
    ∃ t, exec (.dataCoachReceived dt n true b) s = .next t ∧ (t.sring n.val).comps = (s.sring n.val).comps ∧
      t.acc = s.acc ∧ t.prot = s.prot ∧ t.mode = s.mode := by
  have done := exec_dataCoachReceived_whole dt live whole
  have slots : (s.elapse dt).coachSlots n b = s.elapse dt := if_neg (by rwa [State.elapse_tick])
  rw [slots] at done
  generalize upstream _ _ _ = counts at done
  have kept : Within 0x300800010000108e [] s ((s.elapse dt).readHops n (byteAt b 2) counts) :=
    ((s.elapse_within dt).mono rfl).trans ((State.readHops_within ..).mono rfl)
  have stands : SlotStands n 0 _ _ := (s.elapse dt).readHops_stands n (by decide) (byteAt b 2) counts
  refine ⟨_, done, ?_, kept.acc rfl, kept.prot_same rfl rfl, kept.mode_same rfl⟩
  rw [stands.comps.comps, State.elapse_sring]

/-! ### Alert coaches (R96) -/

theorem State.setAlert_alert (s : State) (n : Fin 16) (p a : Nat) : ((s.setAlert n p a).fe n.val p).alert = a % 4096 := by
  unfold State.setAlert
  extract_lets stopped v noted
  rw [(State.alertSource_within ..).fe_same rfl, (State.wrb_within ..).fe_same rfl, State.fe_setFe_same]

theorem State.setAlert_shown (s : State) (n : Fin 16) {p : Nat} (small : p < 4) (a : Nat) :
    (s.setAlert n p a).rdb (.sns n) (R.SNS.FE p) 8 = decide (a % 4096 ≠ 0) := by
  unfold State.setAlert
  extract_lets stopped v noted
  rw [State.rdb, (State.alertSource_within ..).snsWord rfl n (fe_place small)]
  refine (State.rdb_wrb_same (n := 8) _ (findRow_fe n small) (by decide) rfl).trans ?_
  rw [Bool.eq_iff_iff]
  simp

/-- The alert that a coach adds to its position, with its Waybill entry. -/
def State.alertHeard (s : State) (n : Fin 16) (b : List Byte) : State :=
  let s := s.setAlert n (byteAt b 1) ((s.fe n.val (byteAt b 1)).alert ||| leAt b 2 2 % 4096)
  s.wayEntry 0x0A ([BitVec.ofNat 8 n.val, BitVec.ofNat 8 (byteAt b 1)] ++ slice b 2 2 ++ leBytes 8 s.mt)

theorem exec_alertCoachReceived_named {s : State} (dt : Nat) {n : Fin 16} {b : List Byte} (live : s.snsLive n = true)
    (whole : coachOk true 0x4C [12] b = true) (small : byteAt b 1 < 4) :
    exec (.alertCoachReceived dt n true b) s = .next ((s.elapse dt).alertHeard n b) := by
  rw [exec_alertCoachReceived]
  exact (if_neg (by simp [live])).trans ((if_neg (by simp [whole])).trans (if_pos small))

theorem exec_alertCoachReceived_unnamed {s : State} (dt : Nat) {n : Fin 16} {b : List Byte} (live : s.snsLive n = true)
    (whole : coachOk true 0x4C [12] b = true) (big : 4 ≤ byteAt b 1) :
    exec (.alertCoachReceived dt n true b) s = .next (s.elapse dt) := by
  rw [exec_alertCoachReceived]
  exact (if_neg (by simp [live])).trans ((if_neg (by simp [whole])).trans (if_neg (by omega)))

theorem alertCoachReceived_named {s : State} (dt : Nat) {n : Fin 16} {b : List Byte} (live : s.snsLive n = true)
    (whole : coachOk true 0x4C [12] b = true) (small : byteAt b 1 < 4) :
    ∃ t, exec (.alertCoachReceived dt n true b) s = .next t ∧ t.mode = s.mode ∧
      (t.fe n.val (byteAt b 1)).alert = ((s.fe n.val (byteAt b 1)).alert ||| leAt b 2 2 % 4096) % 4096 ∧
      t.rdb (.sns n) (R.SNS.FE (byteAt b 1)) 8 =
        decide (((s.fe n.val (byteAt b 1)).alert ||| leAt b 2 2 % 4096) % 4096 ≠ 0) := by
  have done := exec_alertCoachReceived_named dt live whole small
  have kept := (execAlertCoachReceived_within dt n true b s).of done
  have alert := State.setAlert_alert (s.elapse dt) n (byteAt b 1) ((s.fe n.val (byteAt b 1)).alert ||| leAt b 2 2 % 4096)
  have shown := State.setAlert_shown (s.elapse dt) n small ((s.fe n.val (byteAt b 1)).alert ||| leAt b 2 2 % 4096)
  refine ⟨_, done, kept.mode_same rfl, ?_, ?_⟩ <;> unfold State.alertHeard <;> rw [State.elapse_fe]
  · rwa [(State.wayEntry_within ..).fe_same rfl]
  · rwa [State.rdb, (State.wayEntry_within ..).snsWord rfl n (fe_place small)]

end Sys2Proof.Machine
end

section
/-! SETTLEMENT. Coaches that are rejected, and coaches that are taken. -/

open Sys2Proof Sys2Proof.Machine

/-- Settles O35: each coach's equation, and what of the state it claims follows from it. -/
theorem coachesComplete : Obligations.CoachesComplete := by
  refine ⟨?_, fun dt n b s _ whole own => exec_commandCoachReceived_own dt whole own, ?_, ?_, ?_,
    fun dt n b s live late whole => dataCoachReceived_late dt live late whole,
    fun dt n b s live whole small => alertCoachReceived_named dt live whole small,
    fun dt n b s live whole big => exec_alertCoachReceived_unnamed dt live whole big⟩
  · rintro c dt n ok b ty lens s e received rfl
    refine ⟨fun idle h => ?_, fun live bad => ⟨?_, s.crcerr_counted dt n⟩⟩
    · unfold coachOf at received
      split at received <;> cases received
      · rw [exec_commandCoachReceived_bad dt (h.resolve_left (by decide)), idle]
        rfl
      · exact exec_dataCoachReceived_idle dt idle
      · exact exec_alertCoachReceived_idle dt idle
    · unfold coachOf at received
      split at received <;> cases received
      · rw [exec_commandCoachReceived_bad dt bad, if_pos live]
      · exact exec_dataCoachReceived_bad dt live bad
      · exact exec_alertCoachReceived_bad dt live bad
  · intro dt n b s run live whole other runs
    exact commandCoachReceived_heard dt live whole other (runs.trans (RingSns.farRun_eq ..).symm)
  · intro dt n b s run idle whole other runs
    rw [exec_commandCoachReceived_noted dt whole other idle, RingSns.farRun_eq, ← runs, State.farNoted, State.elapse_sring]
  · intro dt n b s l p x live length whole now time small populated slot filled named first
    subst length slot
    exact dataCoachReceived_held dt live whole now time small populated filled named first

end

section
/-! SUPPORT. Challenges and enumeration on command (R91, R98, R99). -/

namespace Sys2Proof.Machine

open Sys2Proof

/-! ### Challenges that fall due (R98, R99) -/

theorem State.wantChallenge_wants {s : State} {n : Fin 16} {p : Nat} (present : s.feState n p ≠ 5) :
    ((s.wantChallenge n p).fe n.val p).chal.want = true ∧ ((s.wantChallenge n p).fe n.val p).chal.failed = 0 := by
  rw [State.wantChallenge_present present, State.fe_setFe_same]
  exact ⟨rfl, rfl⟩

section
variable {s : State} {dt : Nat} {n : Fin 16} {p : Fin 4}

theorem exec_challengeDue_due
    (due : (s.feState n p.val = 2 ∧ ∃ m, (s.fe n.val p.val).chal.lastPass = some m ∧ m + 86400000000000 ≤ (s.elapse dt).mt) ∨
      ((s.feState n p.val = 3 ∨ s.feState n p.val = 4) ∧
        (s.fe n.val p.val).chal.failMt + 600000000000 ≤ (s.elapse dt).mt)) :
    exec (.challengeDue dt n p) s = .next ((s.elapse dt).wantChallenge n p.val) := by
  rw [exec_challengeDue]
  unfold execChallengeDue
  simp only [State.elapse_fe, State.elapse_feState]
  refine if_pos ?_
  rcases due with ⟨state, m, pass, late⟩ | ⟨state, late⟩
  · simp [pass, state, late]
  · rcases state with state | state <;> simp [state, late]

theorem exec_challengeDue_idle (h : s.feState n p.val < 2 ∨ s.feState n p.val = 5) :
    exec (.challengeDue dt n p) s = .next (s.elapse dt) := by
  have two : s.feState n p.val ≠ 2 := by omega
  have three : s.feState n p.val ≠ 3 := by omega
  have four : s.feState n p.val ≠ 4 := by omega
  rw [exec_challengeDue]
  unfold execChallengeDue
  simp only [State.elapse_fe, State.elapse_feState]
  refine if_neg ?_
  cases (s.fe n.val p.val).chal.lastPass <;> simp [two, three, four]

/-- A fresh attempt is wanted after t_chal_gap (R98). -/
theorem exec_challengeRetry_due (failed : 0 < (s.fe n.val p.val).chal.failed) (left : (s.fe n.val p.val).chal.failed < 3)
    (closed : (s.fe n.val p.val).chal.openAt = none) (gap : (s.fe n.val p.val).chal.failMt + 10000000 ≤ (s.elapse dt).mt) :
    exec (.challengeRetry dt n p) s = .next ((s.elapse dt).setFe n.val p.val { s.fe n.val p.val with
      chal := { (s.fe n.val p.val).chal with want := true } }) := by
  rw [exec_challengeRetry]
  unfold execChallengeRetry
  simp only [State.elapse_fe]
  exact if_pos (by simp [failed, left, closed, gap])

theorem exec_challengeRetry_idle (h : (s.fe n.val p.val).chal.failed = 0 ∨ 3 ≤ (s.fe n.val p.val).chal.failed ∨
    (s.fe n.val p.val).chal.openAt ≠ none ∨ (s.elapse dt).mt < (s.fe n.val p.val).chal.failMt + 10000000) :
    exec (.challengeRetry dt n p) s = .next (s.elapse dt) := by
  rw [exec_challengeRetry]
  unfold execChallengeRetry
  simp only [State.elapse_fe]
  exact if_neg (by rcases h with h | h | h | h <;> simp [h])

end

/-! ### Writes of SNS.CMD (R91, R98) -/

section
variable {s : State} (dt : Nat) {n : Fin 16}

theorem State.hostDo_served {s : State} {p : Page} (h : s.pageServed p = true) (f : State → State) : s.hostDo p f = f s :=
  if_pos h

theorem State.hostDo_unserved {s : State} {p : Page} (h : s.pageServed p = false) (f : State → State) : s.hostDo p f = s :=
  if_neg (by simp [h])

theorem exec_challengeAll_served (h : s.pageServed (.sns n) = true) :
    exec (.challengeAll dt n) s = .next ((s.elapse dt).wantAll n) := by
  rw [exec_challengeAll, execChallengeAll, State.hostDo_served (by rwa [State.elapse_pageServed])]

theorem exec_challengeAll_unserved (h : s.pageServed (.sns n) = false) :
    exec (.challengeAll dt n) s = .next (s.elapse dt) := by
  rw [exec_challengeAll, execChallengeAll, State.hostDo_unserved (by rwa [State.elapse_pageServed])]

theorem exec_reenum_served (h : s.pageServed (.sns n) = true) : exec (.reenum dt n) s = .next ((s.elapse dt).reenum n) := by
  rw [exec_reenum, execReenum, State.hostDo_served (by rwa [State.elapse_pageServed])]

theorem exec_reenum_drives (h : s.pageServed (.sns n) = true) (drives : s.rdb (.sns n) R.SNS.RING 12 = true) :
    exec (.reenum dt n) s = .next ((s.elapse dt).setSring n.val { s.sring n.val with
      assign := List.range (s.sring n.val).hopsOwn }) := by
  rw [exec_reenum_served dt h, State.reenum, if_pos (by rwa [State.elapse_rdb]), State.elapse_sring]

theorem exec_reenum_idle (h : s.pageServed (.sns n) = false ∨ s.rdb (.sns n) R.SNS.RING 12 = false) :
    exec (.reenum dt n) s = .next (s.elapse dt) := by
  cases served : s.pageServed (.sns n) with
  | false => rw [exec_reenum, execReenum, State.hostDo_unserved (by rwa [State.elapse_pageServed])]
  | true =>
    have idle := h.resolve_left (by simp [served])
    rw [exec_reenum_served dt served, State.reenum, if_neg (by simp [idle])]

end

end Sys2Proof.Machine
end

section
/-! SUPPORT. Verdicts and compartments that the peer relays (R67, R88, R98, R99). -/

namespace Sys2Proof.Machine

open Sys2Proof

/-! ### Verdicts on their way to the estimator (R67, R99) -/

theorem State.mirrorItem_hearing (s : State) (kind effect : Nat) (content : List Byte) :
    SameHearing s (s.mirrorItem kind effect content) :=
  .trans (by constructor <;> rfl) (State.sendFrame_hearing ..)

theorem State.jrnPut_hearing (s : State) (r o : Nat) (b : List Byte) : SameHearing s (s.jrnPut r o b) := by
  unfold State.jrnPut State.jrnQueue
  extract_lets img fresh jrn queued deferred
  have queue : SameHearing s queued := .of_tdm rfl
  have defer : SameHearing s deferred := .ite (queue.trans (.within (State.writeDeferred_within _) rfl)) queue
  exact .ite (defer.trans (State.mirrorItem_hearing ..)) defer

/-- A verdict that this module itself accepts: every module but a standby that hears its peer (log entry 85). -/
def State.ownVerdicts (s : State) : Nat := if s.mode = .standby ∧ s.tdm.peer.heard = true ∧ s.tdm.silent = false then 0 else 1

theorem State.ownVerdicts_of_hearing {s t : State} (mode : t.mode = s.mode) (h : SameHearing s t) :
    t.ownVerdicts = s.ownVerdicts := by
  unfold State.ownVerdicts
  rw [mode, h.peer, h.silent]

theorem State.verdictEvent_length (s : State) (n : Fin 16) (p v : Nat) :
    (s.verdictEvent n p v).events.length = s.events.length + s.ownVerdicts := by
  unfold State.verdictEvent State.ownVerdicts
  extract_lets c
  by_cases mirrored : s.mode = .standby ∧ s.tdm.peer.heard = true ∧ s.tdm.silent = false
  · rw [if_pos mirrored, if_pos (by simp [mirrored])]
    rfl
  · rw [if_neg mirrored, if_neg (by simpa [and_assoc] using mirrored)]
    split
    · rw [State.acceptEvent_events, List.length_append]
      rfl
    · exact List.length_append

/-- What follows a verdict's word: entries of the journal and records. -/
structure Noted (s t : State) : Prop where
  within : Within 0x11008000120008280 [] s t
  hearing : SameHearing s t

namespace Noted

variable {r s t : State}

theorem trans (h : Noted r s) (k : Noted s t) : Noted r t := ⟨h.within.trans k.within, h.hearing.trans k.hearing⟩

theorem jrn (s : State) (r o : Nat) (b : List Byte) : Noted s (s.jrnPut r o b) :=
  ⟨(State.jrnPut_within ..).mono rfl, State.jrnPut_hearing ..⟩

theorem record (s : State) (p : Page) (cls : Nat) (b : List Byte) : Noted s (s.record p cls b) :=
  ⟨(State.record_within ..).mono rfl, .within (State.record_within ..) rfl⟩

end Noted

/-- A pass puts the position IN_SERVICE, and its event follows (R99). -/
theorem State.verdictOf_passed (s : State) (n : Fin 16) (p : Nat) :
    ∃ x v, Noted (s.setFeState n p 2) x ∧ s.verdictOf n p true = x.verdictEvent n p v := by
  unfold State.verdictOf
  extract_lets f held id same failed record event pass served
  have passes (t : State) : Noted t (pass t) := (Noted.jrn t ..).trans (.jrn ..)
  have records (t : State) (v : Nat) : Noted t (record t v) := .record ..
  by_cases known : same = true
  · exact ⟨pass served, 1, passes served, (if_pos rfl).trans (if_pos known)⟩
  · exact ⟨record (pass (served.jrnPut (1 + f) 8 (leBytes 8 id))) 3, 3,
      ((Noted.jrn served ..).trans (passes _)).trans (records ..), (if_pos rfl).trans (if_neg known)⟩

/-- A failure is flagged, puts the position into AUTH_FAULT, or under a new identity into ID_FAULT, and its event
follows (R99). -/
theorem State.verdictOf_failed (s : State) (n : Fin 16) (p : Nat) :
    ∃ x v, Noted (if s.heldId (4 * n.val + p) = s.reportedId n p ∧ s.heldId (4 * n.val + p) ≠ 0 then
        ((s.flag (.sns n) 12).setFeState n p 3).flag (.sns n) 13
      else (s.flag (.sns n) 12).setFeState n p 4) x ∧ s.verdictOf n p false = x.verdictEvent n p v := by
  unfold State.verdictOf
  extract_lets f held id same failed record event pass served fail
  have records (t : State) (v : Nat) : Noted t (record t v) := .record ..
  by_cases known : held = id ∧ held ≠ 0
  · rw [if_pos known]
    exact ⟨record (((fail.setFeState n p 3).flag (.sns n) 13).jrnPut (1 + f) 0x10 [2]) 2, 2,
      (Noted.jrn ..).trans (records ..), (if_neg (by simp)).trans (if_pos (by simp only [same]; simpa using known))⟩
  · rw [if_neg known]
    exact ⟨record ((fail.setFeState n p 4).jrnPut (1 + f) 0x10 [3]) 4, 4,
      (Noted.jrn ..).trans (records ..), (if_neg (by simp)).trans (if_neg (by simp only [same]; simpa using known))⟩

/-- What follows a verdict's word leaves the registers of the rings' pages, and accepts one event at most. -/
theorem Noted.verdictEvent {s t : State} (h : Noted s t) (n : Fin 16) (p v : Nat) :
    (∀ m : Fin 16, ∀ o < 0x1000, (t.verdictEvent n p v).rd (.sns m) o = s.rd (.sns m) o) ∧
      (t.verdictEvent n p v).events.length = s.events.length + s.ownVerdicts := by
  refine ⟨fun m o l => ((State.verdictEvent_within ..).snsWord rfl m l).trans (h.within.snsWord rfl m l), ?_⟩
  rw [State.verdictEvent_length, h.within.events rfl, State.ownVerdicts_of_hearing (h.within.mode_same rfl) h.hearing]

theorem State.verdictOf_passes (s : State) (n : Fin 16) {p : Nat} (small : p < 4) :
    (s.verdictOf n p true).feState n p = 2 ∧
      (s.verdictOf n p true).events.length = s.events.length + s.ownVerdicts := by
  obtain ⟨x, v, noted, done⟩ := s.verdictOf_passed n p
  have served : Within 0x2000000000000000 [] s (s.setFeState n p 2) := State.setFeState_within ..
  have state : (s.setFeState n p 2).feState n p = 2 := State.rdf_wrf_same 2 (findRow_fe n small) (by decide) rfl
  obtain ⟨words, length⟩ := noted.verdictEvent n p v
  rw [done]
  refine ⟨(congrArg (fld · 3 0) (words n _ (fe_place small))).trans state, ?_⟩
  rw [length, served.events rfl, State.ownVerdicts_of_hearing (served.mode_same rfl) (.within served rfl)]

/-- A flag of a ring's page leaves its others. -/
theorem State.flag_sns_other (s : State) (n : Fin 16) {a b : Nat} (lo : 8 ≤ a) (hi : a ≤ 14) (h : a ≠ b) :
    (s.flag (.sns n) b).rdb (.sns n) R.PAGE.FLAGS a = s.rdb (.sns n) R.PAGE.FLAGS a := by
  unfold State.flag State.rdb
  rw [State.pageLine_rd _ _ (flags_place_ne (by simp) (by decide))]
  unfold State.wrb State.wrf
  rw [State.rd_wr_same _ (findRow_flags _), flg_and, (flags_sns_full n lo hi).flg (by omega) (le_refl _) (le_refl _),
    Bool.and_true, flg_setFld _ _ _ _ _ (by omega), if_neg (by omega)]

theorem State.setFeState_reads (s : State) (n : Fin 16) {p v : Nat} (small : p < 4) (fits : v < 16) :
    (s.setFeState n p v).feState n p = v ∧
      (s.setFeState n p v).rdb (.sns n) R.PAGE.FLAGS 12 = s.rdb (.sns n) R.PAGE.FLAGS 12 := by
  refine ⟨(State.rdf_wrf_same (hi := 3) (lo := 0) v (findRow_fe n small) (by decide) rfl).trans (Nat.mod_eq_of_lt fits), ?_⟩
  exact congrArg (flg · 12) (State.rd_wr_other _ (place_ne (by show 0x810 + 4 * p ≠ 0x010; omega)))

theorem State.verdictOf_fails (s : State) (n : Fin 16) {p : Nat} (small : p < 4) :
    (s.verdictOf n p false).feState n p =
        (if s.heldId (4 * n.val + p) = s.reportedId n p ∧ s.heldId (4 * n.val + p) ≠ 0 then 3 else 4) ∧
      (s.verdictOf n p false).rdb (.sns n) R.PAGE.FLAGS 12 = true := by
  obtain ⟨x, v, noted, done⟩ := s.verdictOf_failed n p
  obtain ⟨words, -⟩ := noted.verdictEvent n p v
  have state := congrArg (fld · 3 0) (words n _ (fe_place small))
  have shown := congrArg (flg · 12) (words n R.PAGE.FLAGS (by decide))
  have flagged := s.flag_sns_shown n (b := 12) (by decide) (by decide)
  rw [done]
  generalize s.flag (.sns n) 12 = u at *
  by_cases known : s.heldId (4 * n.val + p) = s.reportedId n p ∧ s.heldId (4 * n.val + p) ≠ 0
  · obtain ⟨word, flag⟩ := u.setFeState_reads n (v := 3) small (by decide)
    rw [if_pos known] at state shown ⊢
    generalize u.setFeState n p 3 = y at *
    have last : (y.flag (.sns n) 13).rd (.sns n) (R.SNS.FE p) = y.rd (.sns n) (R.SNS.FE p) :=
      y.flag_sns_rd n 13 (fe_place small) (by show 0x010 ≠ 0x810 + 4 * p; omega)
    have both := y.flag_sns_other n (a := 12) (b := 13) (by decide) (by decide) (by decide)
    exact ⟨state.trans ((congrArg (fld · 3 0) last).trans word), shown.trans (both.trans (flag.trans flagged))⟩
  · obtain ⟨word, flag⟩ := u.setFeState_reads n (v := 4) small (by decide)
    rw [if_neg known] at state shown ⊢
    exact ⟨state.trans word, shown.trans (flag.trans flagged)⟩

/-! ### Attempts that end (R98) -/

/-- A front-end whose attempt passed. -/
def FeSt.passed (v : FeSt) (mt : Nat) : FeSt := { v with chal := { v.chal with
  want := false
  failed := 0
  openAt := none
  lastPass := some mt } }

theorem State.attemptEnds_pass (s : State) (n : Fin 16) (p : Nat) : s.attemptEnds n p true =
    (((s.setFe n.val p ((s.fe n.val p).passed s.mt)).wrf (.sns n) (R.SNS.FE p) 7 4 0).wrf (.sns n) (R.SNS.FE p) 31 16
      0).verdictOf n p true := rfl

theorem State.attemptEnds_passes (s : State) (n : Fin 16) {p : Nat} (small : p < 4) :
    (s.attemptEnds n p true).feState n p = 2 ∧ (s.attemptEnds n p true).fe n.val p = (s.fe n.val p).passed s.mt ∧
      (s.attemptEnds n p true).events.length = s.events.length + s.ownVerdicts := by
  rw [State.attemptEnds_pass]
  have word (t : State) (a b c : Nat) : Within 0x2000000000000000 [] t (t.wrf (.sns n) (R.SNS.FE p) a b c) :=
    (State.wrf_within ..).kind rfl .sns rfl rfl
  have passed := s.fe_setFe_same n.val p ((s.fe n.val p).passed s.mt)
  have set : Within 0x2000000000001000 [] s (s.setFe n.val p ((s.fe n.val p).passed s.mt)) := (State.setFe_within ..).mono rfl
  generalize s.setFe n.val p _ = u at passed set ⊢
  have words := (word u 7 4 0).trans (word (u.wrf (.sns n) (R.SNS.FE p) 7 4 0) 31 16 0)
  generalize (u.wrf (.sns n) (R.SNS.FE p) 7 4 0).wrf (.sns n) (R.SNS.FE p) 31 16 0 = x at words
  have all := set.trans (words.mono rfl)
  obtain ⟨state, length⟩ := x.verdictOf_passes n small
  refine ⟨state, ?_, ?_⟩
  · rw [(State.verdictOf_within ..).fe_same rfl, words.fe_same rfl, passed]
  · rw [length, all.events rfl, State.ownVerdicts_of_hearing (all.mode_same rfl) (.within all rfl)]

/-- The third failure is the verdict's (R98). -/
theorem State.attemptEnds_third {s : State} {n : Fin 16} {p : Nat} (h : (s.fe n.val p).chal.failed = 2) :
    ∃ v w, s.attemptEnds n p false =
      (((s.setFe n.val p v).wrf (.sns n) (R.SNS.FE p) 7 4 3).verdictOf n p false).setFe n.val p w := by
  unfold State.attemptEnds
  extract_lets v chal marked passed tried counted failed judged w again
  have three : 3 ≤ tried := by simp [tried, v, h]
  have word : failed = counted.wrf (.sns n) (R.SNS.FE p) 7 4 3 := by simp [failed, tried, v, h]
  rw [if_neg (by simp), if_pos three]
  exact ⟨_, _, congrArg (fun t : State => (t.verdictOf n p false).setFe n.val p _) word⟩

theorem State.attemptEnds_fails {s : State} {n : Fin 16} {p : Nat} (small : p < 4) (h : (s.fe n.val p).chal.failed = 2) :
    (s.attemptEnds n p false).feState n p =
        (if s.heldId (4 * n.val + p) = s.reportedId n p ∧ s.heldId (4 * n.val + p) ≠ 0 then 3 else 4) ∧
      (s.attemptEnds n p false).rdb (.sns n) R.PAGE.FLAGS 12 = true := by
  obtain ⟨v, w, done⟩ := State.attemptEnds_third h
  rw [done]
  have stands : SlotStands n p s ((s.setFe n.val p v).wrf (.sns n) (R.SNS.FE p) 7 4 3) :=
    (SlotStands.setFe s n.val p v).trans (.wr _ (nameWord_status small) _)
  have id := State.reportedId_of_words stands.words small
  have jrn : ((s.setFe n.val p v).wrf (.sns n) (R.SNS.FE p) 7 4 3).jrn = s.jrn := by
    have word : Within 0x2000000000000000 [] (s.setFe n.val p v) ((s.setFe n.val p v).wrf (.sns n) (R.SNS.FE p) 7 4 3) :=
      (State.wrf_within ..).kind rfl .sns rfl rfl
    exact word.jrn rfl
  generalize (s.setFe n.val p v).wrf (.sns n) (R.SNS.FE p) 7 4 3 = x at *
  have held : x.heldId (4 * n.val + p) = s.heldId (4 * n.val + p) := by
    unfold State.heldId State.jrnField State.jrnImage
    rw [jrn]
  obtain ⟨state, flag⟩ := x.verdictOf_fails n small
  rw [held, id] at state
  exact ⟨state, flag⟩

/-! ### Verdicts of the peer (R98) -/

/-- A frame that is accepted changes the tandem's state alone, and nothing of what the peer was heard to say. -/
theorem State.takeFrame_noted {s x : State} {ty : Nat} {f : TandemHead} {b : List Byte}
    (taken : s.takeFrame ty f b = (true, x)) : Within 0x20000000 [] s x ∧ SameHearing s x := by
  obtain ⟨links, hi, seen, rfl⟩ := State.takeFrame_accepted taken
  exact ⟨{ Within.refl s with tdm := nofun }, by constructor <;> rfl⟩

/-- The verdict's attempt number is that of the failed attempts (R98). -/
def State.tried (s : State) (n : Fin 16) (p k : Nat) : State :=
  s.setFe n.val p { s.fe n.val p with chal := { (s.fe n.val p).chal with failed := k } }

section
variable {s x : State} {dt : Nat} {f : TandemHead} {b : List Byte} {n : Fin 16} {p : Nat}

section
variable (taken : (s.elapse dt).takeFrame 0x0C f b = (true, x)) (size : b.length = 40) (ring : n.val = byteAt b 0)
  (pos : p = byteAt b 1) (small : p < 4) (run : s.running (.sns n) = true)
  (unseen : (s.fe n.val p).chal.seenAt ≠ some (leAt b 4 8, leAt b 0x14 12))
include taken size ring pos small run unseen

theorem exec_verdict_unseen :
    exec (.verdict dt f b) s = .next ((x.tried n p (byteAt b 3 - 1)).attemptEnds n p (byteAt b 2 = 1)) := by
  have ringMod : byteAt b 0 % 16 = n.val := by omega
  have posMod : byteAt b 1 % 4 = p := by omega
  have ringFits : byteAt b 0 < 16 := by omega
  have posFits : byteAt b 1 < 4 := by omega
  have frame := (State.takeFrame_noted taken).1
  rw [← State.elapse_running s dt, ← frame.running_same rfl] at run
  rw [← State.elapse_fe s dt, ← frame.fe_same rfl] at unseen
  rw [exec_verdict]
  unfold execVerdict State.tried
  rw [taken]
  simp only [ringMod, posMod]
  refine if_pos ?_
  cases seen : (x.fe n.val p).chal.seenAt with
  | none => simp [size, ringFits, posFits, run]
  | some k =>
    rw [seen] at unseen
    simpa [size, ringFits, posFits, run, Prod.ext_iff, imp_iff_not_or] using unseen

/-- A pass puts the position in service (R98, R99). -/
theorem verdict_passes (pass : byteAt b 2 = 1) :
    ∃ t, exec (.verdict dt f b) s = .next t ∧ t.feState n p = 2 ∧ (t.fe n.val p).chal.failed = 0 ∧
      (t.fe n.val p).chal.lastPass = some (s.elapse dt).mt ∧ t.mode = s.mode ∧
      t.events.length = s.events.length + s.ownVerdicts := by
  have done := exec_verdict_unseen taken size ring pos small run unseen
  rw [decide_eq_true pass] at done
  have kept := (execVerdict_within dt f b s).of done
  obtain ⟨frame, heard⟩ := State.takeFrame_noted taken
  have tried : Within 0x20001000 [] (s.elapse dt) (x.tried n p (byteAt b 3 - 1)) :=
    (frame.mono rfl).trans ((State.setFe_within ..).mono rfl)
  have hearing : SameHearing s (x.tried n p (byteAt b 3 - 1)) :=
    ((SameHearing.of_tdm (s.elapse_tdm dt)).trans heard).trans (.of_tdm rfl)
  generalize x.tried n p (byteAt b 3 - 1) = y at *
  obtain ⟨state, fe, length⟩ := y.attemptEnds_passes n small
  refine ⟨_, done, state, by rw [fe]; rfl, ?_, kept.mode_same rfl, ?_⟩
  · rw [fe, ← tried.mt_same rfl]
    rfl
  · rw [length, tried.events rfl, State.elapse_events,
      State.ownVerdicts_of_hearing ((tried.mode_same rfl).trans (s.elapse_mode dt)) hearing]

/-- The third failure puts it out of service (R98, R99). -/
theorem verdict_fails (fail : byteAt b 2 = 3) (third : byteAt b 3 = 3) :
    ∃ t, exec (.verdict dt f b) s = .next t ∧
      t.feState n p = (if s.heldId (4 * n.val + p) = s.reportedId n p ∧ s.heldId (4 * n.val + p) ≠ 0 then 3 else 4) ∧
      t.rdb (.sns n) R.PAGE.FLAGS 12 = true ∧ t.mode = s.mode := by
  have done := exec_verdict_unseen taken size ring pos small run unseen
  rw [decide_eq_false (by omega), third] at done
  have kept := (execVerdict_within dt f b s).of done
  have frame := (State.takeFrame_noted taken).1
  have failed : ((x.tried n p 2).fe n.val p).chal.failed = 2 := by rw [State.tried, State.fe_setFe_same]
  have tried : Within 0x2000100e [] s (x.tried n p 2) :=
    ((s.elapse_within dt).mono rfl).trans ((frame.mono rfl).trans ((State.setFe_within ..).mono rfl))
  obtain ⟨state, flag⟩ := State.attemptEnds_fails small failed
  have held : (x.tried n p 2).heldId (4 * n.val + p) = s.heldId (4 * n.val + p) := by
    unfold State.heldId State.jrnField State.jrnImage
    rw [tried.jrn rfl]
  have id : (x.tried n p 2).reportedId n p = s.reportedId n p :=
    State.rd64_of_reads (tried.snsWord rfl n (by show 0x820 + 8 * p < 0x1000; omega))
      (tried.snsWord rfl n (by show 0x824 + 8 * p < 0x1000; omega))
  rw [held, id] at state
  exact ⟨_, done, state, flag, kept.mode_same rfl⟩

end

/-! ### Compartments that the peer relays (R88) -/

theorem exec_relayedCompartment_held (taken : (s.elapse dt).takeFrame 0x07 f b = (true, x)) (ring : n.val = byteAt b 0)
    (pos : p = byteAt b 1) (small : p < 4) (live : s.snsLive n = true) (populated : (s.pop n).testBit p = true)
    (now : leAt b 4 8 = s.tick) (whole : (b.drop 0x14).length = byteAt b 2)
    (size : (b.drop 0x14).length = 64 ∨ (b.drop 0x14).length = 96) (inTime : leAt b 0x0C 8 ≤ s.tick * 500000 + 350000)
    (arrives : (s.elapse dt).mt ≤ s.tick * 500000 + 480000) : exec (.relayedCompartment dt f b) s =
      .next ((x.holdComp n p (b.drop 0x14) (leAt b 0x0C 8) false).reached n (!x.sys.strapB) p) := by
  have ringMod : byteAt b 0 % 16 = n.val := by omega
  have ringFits : byteAt b 0 < 16 := by omega
  have frame := (State.takeFrame_noted taken).1
  have word := frame.snsWord rfl n (o := R.SNS.CFG) (by decide)
  have popSame : x.pop n = s.pop n := (congrArg (fld · 3 0) word).trans (State.elapse_pop ..)
  have liveSame : x.snsLive n = s.snsLive n := by
    obtain ⟨links, hi, seen, rfl⟩ := State.takeFrame_accepted taken
    exact State.elapse_snsLive ..
  have tick : x.tick = s.tick := (frame.tick_same rfl).trans (s.elapse_tick dt)
  rw [exec_relayedCompartment]
  unfold execRelayedCompartment
  rw [taken]
  subst pos
  rw [whole] at size
  simp only [ringMod]
  exact if_pos (by simp [ringFits, small, liveSame, live, popSame, populated, tick, now, whole, size, inTime,
    frame.mt_same rfl, arrives])

theorem relayedCompartment_held (taken : (s.elapse dt).takeFrame 0x07 f b = (true, x)) (ring : n.val = byteAt b 0)
    (pos : p = byteAt b 1) (small : p < 4) (live : s.snsLive n = true) (populated : (s.pop n).testBit p = true)
    (now : leAt b 4 8 = s.tick) (whole : (b.drop 0x14).length = byteAt b 2)
    (size : (b.drop 0x14).length = 64 ∨ (b.drop 0x14).length = 96) (inTime : leAt b 0x0C 8 ≤ s.tick * 500000 + 350000)
    (arrives : (s.elapse dt).mt ≤ s.tick * 500000 + 480000) (first : s.lacks n.val p) :
    ∃ t, exec (.relayedCompartment dt f b) s = .next t ∧ t.mode = s.mode ∧
      (t.sring n.val).comps = (s.sring n.val).comps ++ [⟨p, b.drop 0x14, leAt b 0x0C 8, false, false⟩] := by
  have done := exec_relayedCompartment_held taken ring pos small live populated now whole size inTime arrives
  have kept := (execRelayedCompartment_within dt f b s).of done
  have same : x.sring n.val = s.sring n.val :=
    ((State.takeFrame_noted taken).1.sring_same rfl n.val).trans (State.elapse_sring ..)
  obtain ⟨held, -⟩ := State.holdComp_first (s := x) small (by rwa [State.lacks, same]) (b.drop 0x14) (leAt b 0x0C 8) false
  refine ⟨_, done, kept.mode_same rfl, ?_⟩
  rw [(State.reached_within ..).sring_same rfl, held, same]

theorem exec_relayedCompartment_late (taken : (s.elapse dt).takeFrame 0x07 f b = (true, x)) (late : leAt b 4 8 ≠ s.tick) :
    exec (.relayedCompartment dt f b) s = .next x := by
  have tick : x.tick = s.tick := ((State.takeFrame_noted taken).1.tick_same rfl).trans (s.elapse_tick dt)
  rw [exec_relayedCompartment]
  unfold execRelayedCompartment
  rw [taken]
  exact if_neg (by simp [tick, late])

end

end Sys2Proof.Machine
end

section
/-! SETTLEMENT. Challenges, enumeration on command, and what the peer relays of the rings. -/

open Sys2Proof Sys2Proof.Machine

/-- Settles O37: each command's equation, and what of the state it claims follows from it. -/
theorem challengesAndRelayedSenseComplete : Obligations.ChallengesAndRelayedSenseComplete := by
  refine ⟨⟨?_, fun dt n p s h => exec_challengeDue_idle h, ?_, ?_, ?_, ?_, fun dt n s h => exec_reenum_idle dt h,
    fun dt n s h => exec_challengeAll_unserved dt h⟩, ?_, ?_, ?_, ?_⟩
  · rintro dt n p s e rfl due
    have present : (s.elapse dt).feState n p.val ≠ 5 := by
      rw [State.elapse_feState]
      rcases due with ⟨state, -⟩ | ⟨state, -⟩ <;> omega
    obtain ⟨want, failed⟩ := State.wantChallenge_wants present
    exact ⟨_, exec_challengeDue_due due, rfl, want, failed⟩
  · rintro dt n p s e v rfl rfl failed left closed gap
    refine ⟨_, exec_challengeRetry_due failed left closed gap, ?_, ?_, State.elapse_regs ..⟩ <;> rw [State.fe_setFe_same]
  · rintro dt n p s e v rfl rfl h
    exact exec_challengeRetry_idle h
  · intro dt n s served
    have answers (p : Nat) : (s.elapse dt).answers n p = s.answers n p := State.answers_of_regs (s.elapse_regs dt) n p
    refine ⟨_, exec_challengeAll_served dt served, (State.wantAll_regs ..).trans (s.elapse_regs dt),
      fun p small populated present => ?_, fun p h => ?_⟩
    · rw [State.wantAll_wants small ((answers p).trans (State.answers_of populated present))]
      exact ⟨rfl, rfl⟩
    · rw [State.wantAll_passes, State.elapse_fe]
      rw [answers, State.answers]
      rcases h with h | h | h <;> simp [h]
  · intro dt n s served drives
    refine ⟨_, exec_reenum_drives dt served drives, ?_, State.elapse_regs ..⟩
    rw [State.sring_setSring_same]
  · intro dt f b s x n p taken ring pos small live populated now whole size inTime arrives first
    exact relayedCompartment_held taken ring pos small live populated now whole size inTime arrives first
  · intro dt f b s x n taken _ late
    exact ⟨exec_relayedCompartment_late taken late,
      ((State.takeFrame_noted taken).1.sring_same rfl n).trans (State.elapse_sring ..)⟩
  · intro dt f b s x n p taken size ring pos small run unseen pass
    exact verdict_passes taken size ring pos small run unseen pass
  · intro dt f b s x n p taken size ring pos small run unseen fail third
    exact verdict_fails taken size ring pos small run unseen fail third

end

section
/-! SUPPORT. Relays: what a relay sets, and what asking the witness leaves of it (R298, R302 to R304). -/

namespace Sys2Proof.Machine

open Sys2Proof

/-! ### What asking the witness leaves -/

theorem State.ethQueue_announce (s : State) (p : Nat) (f : EthOwn) (t : Option (Nat × Nat)) :
    (s.ethQueue p f t).eth.announce = s.eth.announce := by
  unfold State.ethQueue
  split <;> rfl

theorem State.ethOwn_announce (s : State) (p : Nat) (f : EthOwn) : (s.ethOwn p f).eth.announce = s.eth.announce := by
  unfold State.ethOwn
  split
  · dsimp only
    split
    · rw [State.ethQueue_announce, State.ethQueue_announce]
      rfl
    · rw [State.inc_eth, State.ethQueue_announce]
      rfl
  · exact State.ethQueue_announce ..

theorem State.ethDatagram_announce (s : State) (p e srcMac srcIp port : Nat) (data : List Byte) :
    (s.ethDatagram p e srcMac srcIp port data).eth.announce = s.eth.announce := by
  unfold State.ethDatagram
  split
  · rw [State.inc_eth]
  · exact State.ethOwn_announce ..

/-- A request is handed to the network the entry is bound to. -/
theorem State.sendNet_ask_announce (s : State) (e : Nat) (b : List Byte) :
    (s.sendNet (.witnessAsk e b)).eth.announce = s.eth.announce := by
  unfold State.sendNet State.route
  dsimp only
  split
  · exact State.ethDatagram_announce ..
  · exact congrArg EthSt.announce ((State.canOwn_within ..).eth rfl)

/-- A request stands open, or a probe in its place; all else that the tandem knows, and the announcements due, stand. -/
abbrev AskKept (s t : State) : Prop := Kept (fun s =>
  ({ s.tdm with witSeq := 0, asked := none, probes := [], answering := [] }, s.eth.announce)) s t

theorem AskKept.tdm {α : Type} {s t : State} (h : AskKept s t) (f : TdmSt → α)
    (k : ∀ x : TdmSt, f { x with witSeq := 0, asked := none, probes := [], answering := [] } = f x) :
    f t.tdm = f s.tdm :=
  (k t.tdm).symm.trans ((congrArg (fun x => f x.1) h.same).trans (k s.tdm))

theorem AskKept.announce {s t : State} (h : AskKept s t) : t.eth.announce = s.eth.announce := congrArg Prod.snd h.same

theorem State.askWitness_kept (s : State) (entry kind term : Nat) : AskKept s (s.askWitness entry kind term) := by
  unfold State.askWitness
  split
  · exact .refl s
  · extract_lets seq asked
    have asks : AskKept s asked := by
      unfold asked State.setTdm
      constructor
      dsimp only
      split <;> rfl
    clear_value asked
    refine .ite (.refl s) (asks.trans ⟨?_⟩)
    rw [(State.sendNet_within ..).tdm rfl, State.sendNet_ask_announce]

theorem State.acquire_kept (s : State) : AskKept s s.acquire := .ite (.refl s) (State.askWitness_kept ..)

/-! ### A standby takes over -/

theorem relay_row {kind : Nat} (lo : 1 ≤ kind) (hi : kind ≤ 3) : FullRow .tdm (R.TDM.RELAYP + 4 * (kind - 1)) := by
  interval_cases kind <;> exact .of (by decide +kernel)

/-- A relay is counted by kind (R306). -/
theorem State.relayDone_count (s : State) {kind : Nat} (lo : 1 ≤ kind) (hi : kind ≤ 3) (period cause : Nat) :
    (s.relayDone kind period cause).rdn .tdm (R.TDM.RELAYP + 4 * (kind - 1)) =
      satAdd 32 (s.rdn .tdm (R.TDM.RELAYP + 4 * (kind - 1))) 1 := by
  have small : R.TDM.RELAYP + 4 * (kind - 1) < 0x1000 := by unfold R.TDM.RELAYP; omega
  have apart : R.TDM.RELAYP + 4 * (kind - 1) ≠ R.PAGE.FLAGS := by unfold R.TDM.RELAYP R.PAGE.FLAGS; omega
  unfold State.relayDone
  extract_lets counted
  have count : counted.rdn .tdm (R.TDM.RELAYP + 4 * (kind - 1)) =
      satAdd 32 (s.rdn .tdm (R.TDM.RELAYP + 4 * (kind - 1))) 1 :=
    (State.rdn_of_rd (State.tdmFlag_rd _ _ small apart)).trans (relay_row lo hi).rdn_inc
  rw [← count]
  have rest : Within 0x21808000180000080 [] counted ((counted.relayRecord kind period cause).trigger 6 kind) :=
    ((State.relayRecord_within ..).mono rfl).trans ((State.trigger_within ..).mono rfl)
  exact State.rdn_of_rd (rest.regs .tdm (by simp) rfl _ small)

/-- A module takes ACTIVE by a relay, with what the relay sets in the tandem's state. -/
def State.relayed (s : State) (f : TdmSt → TdmSt) (kind period cause : Nat) : State :=
  (((s.takeMode .active).setTdm f).enterActiveRole).relayDone kind period cause

section
variable (s : State) (f : TdmSt → TdmSt) {kind : Nat} (period cause : Nat)

theorem State.enterActiveRole_announce : s.enterActiveRole.eth.announce = 3 := by
  unfold State.enterActiveRole
  extract_lets prot time eth entered
  have rest : Within 0x6321808000185e00280 [] entered entered.slayActive.modeChanged :=
    ((State.slayActive_within _).mono rfl).trans ((State.modeChanged_within _).mono rfl)
  exact congrArg EthSt.announce (rest.eth rfl)

/-- What follows the change of the mode leaves the mode, DRIVE_EN and the tandem's state. -/
theorem State.relayed_within : Within 0x6321a08101d85e00280 [] ((s.takeMode .active).setTdm f) (s.relayed f kind period cause) :=
  ((State.enterActiveRole_within _).mono rfl).trans ((State.relayDone_within ..).mono rfl)

theorem State.relayed_tdm : (s.relayed f kind period cause).tdm = f s.tdm := (s.relayed_within f period cause).tdm rfl

theorem State.relayed_tookOver (lo : 1 ≤ kind) (hi : kind ≤ 3) (wanted : (f s.tdm).driveWanted = true)
    (counted : (f s.tdm).relayKind = kind) : TookOver kind s (s.relayed f kind period cause) := by
  have rest := s.relayed_within f (kind := kind) period cause
  have tdm := s.relayed_tdm f (kind := kind) period cause
  have entered := ((s.takeMode .active).setTdm f).enterActiveRole_within
  refine ⟨rest.mode_same rfl, by rw [tdm, wanted], by rw [tdm, counted], ?_, rest.drive rfl, ?_⟩
  · exact (congrArg EthSt.announce ((State.relayDone_within ..).eth rfl)).trans (State.enterActiveRole_announce _)
  · refine (State.relayDone_count _ lo hi ..).trans (congrArg (satAdd 32 · 1) ?_)
    exact State.rdn_of_rd (entered.regs .tdm (by simp) rfl _ (by unfold R.TDM.RELAYP; omega))

end

/-- Asking the witness for the next term leaves what a relay set. -/
theorem tookOver_acquire {kind : Nat} {s t : State} (hi : kind ≤ 3) (h : TookOver kind s t) : TookOver kind s t.acquire := by
  obtain ⟨mode, wanted, counted, announce, drive, count⟩ := h
  have kept := t.acquire_kept
  have rest := t.acquire_within
  refine ⟨(rest.mode_same rfl).trans mode, (kept.tdm (·.driveWanted) fun _ => rfl).trans wanted,
    (kept.tdm (·.relayKind) fun _ => rfl).trans counted, kept.announce.trans announce, (rest.drive rfl).trans drive, ?_⟩
  exact (State.rdn_of_rd (rest.regs .tdm (by simp) rfl _ (by unfold R.TDM.RELAYP; omega))).trans count

/-- What a standby sets as it takes over (R303, R304). -/
def State.takesOver (s : State) (kind cause : Nat) (t : TdmSt) : TdmSt :=
  { t with
    driveWanted := true
    driveFrom := if kind = 2 then s.mt + 500 else s.mt
    relayKind := kind
    relayCause := cause
    joined := false
    double := false
    abdMt := none
    abdAlive := false
    lastGrant := s.mt }

theorem State.takeOver_eq (s : State) (kind cause : Nat) : ∃ period, s.takeOver kind cause =
    s.relayed (s.takesOver kind cause) kind period cause := ⟨_, rfl⟩

theorem State.takeOver_tookOver (s : State) {kind : Nat} (lo : 1 ≤ kind) (hi : kind ≤ 3) (cause : Nat) :
    TookOver kind s (s.takeOver kind cause) := by
  obtain ⟨period, taken⟩ := s.takeOver_eq kind cause
  exact taken ▸ s.relayed_tookOver _ period cause lo hi rfl rfl

theorem State.takeOver_tdm (s : State) (kind cause : Nat) : (s.takeOver kind cause).tdm = s.takesOver kind cause s.tdm := by
  obtain ⟨period, taken⟩ := s.takeOver_eq kind cause
  rw [taken, State.relayed_tdm]

/-! ### The planned switch (R110, R302) -/

theorem exec_relaySwitch_idle {s : State} (dt : Nat)
    (h : s.tdm.relayAt = 0 ∨ (s.elapse dt).mt ≠ (s.elapse dt).tb0Start s.tdm.relayAt) :
    exec (.relaySwitch dt) s = .next (s.elapse dt) := by
  rw [exec_relaySwitch]
  exact if_pos (by simpa using h)

/-- An active without both groups locked yields and stays, with DRIVE_EN low (R110). -/
def State.switchHeld (s : State) : State :=
  let s := s.driveLow.setTdm (fun t => { t with
    relayAt := 0
    driveWanted := false
    held := false })
  s.askWitness s.tdm.widx 4 s.tdm.term

/-- The old active stands by, and yields its term (R302). -/
def State.yielded (s : State) : State :=
  let s := (s.takeMode .standby).driveLow.setTdm (fun t => { t with
    relayAt := 0
    acceptUntil := s.tick
    driveWanted := false
    held := false
    joined := true })
  s.askWitness s.tdm.widx 4 s.tdm.term

/-- What the old standby sets as the roles change (R302). -/
def State.switches (s : State) (t : TdmSt) : TdmSt :=
  { t with
    relayAt := 0
    driveWanted := true
    driveFrom := s.mt
    relayKind := 1
    lastGrant := s.mt
    joined := false }

section
variable {s : State} {dt : Nat} (set : s.tdm.relayAt ≠ 0) (now : (s.elapse dt).mt = (s.elapse dt).tb0Start s.tdm.relayAt)
include set now

theorem exec_relaySwitch_unlocked (mode : s.mode = .active) (locks : s.lockBits ≠ 3) :
    exec (.relaySwitch dt) s = .next (s.elapse dt).switchHeld := by
  have unlocked : (s.elapse dt).lockBits ≠ 3 := by rwa [State.lockBits, State.elapse_rdf]
  rw [exec_relaySwitch]
  exact (if_neg (by simp [set, now])).trans (if_pos (by simp [mode, unlocked]))

theorem exec_relaySwitch_active (mode : s.mode = .active) (locks : s.lockBits = 3) :
    exec (.relaySwitch dt) s = .next ((s.elapse dt).yielded.leaveActiveRole.relayDone 1 (s.elapse dt).tdm.relayAt 0) := by
  have locked : (s.elapse dt).lockBits = 3 := (State.elapse_rdf ..).trans locks
  rw [exec_relaySwitch]
  exact (if_neg (by simp [set, now])).trans ((if_neg (by simp [locked])).trans (if_pos (by simp [mode])))

theorem exec_relaySwitch_standby (mode : s.mode = .standby) : exec (.relaySwitch dt) s =
    .next ((s.elapse dt).relayed (s.elapse dt).switches 1 (s.elapse dt).tdm.relayAt 0).acquire := by
  rw [exec_relaySwitch]
  exact (if_neg (by simp [set, now])).trans ((if_neg (by simp [mode])).trans ((if_neg (by simp [mode])).trans
    (if_pos (by simp [mode]))))

end

theorem State.switchHeld_keeps (s : State) : s.switchHeld.mode = s.mode ∧ s.switchHeld.sys.driveEn = false ∧
    s.switchHeld.tdm.held = false ∧ s.switchHeld.tdm.driveWanted = false ∧ s.switchHeld.tdm.relayAt = 0 := by
  unfold State.switchHeld
  extract_lets dropped
  have kept := dropped.askWitness_kept dropped.tdm.widx 4 dropped.tdm.term
  have rest := dropped.askWitness_within dropped.tdm.widx 4 dropped.tdm.term
  exact ⟨rest.mode_same rfl, rest.drive rfl, kept.tdm (·.held) fun _ => rfl, kept.tdm (·.driveWanted) fun _ => rfl,
    kept.tdm (·.relayAt) fun _ => rfl⟩

theorem State.leaveActiveRole_st (s : State) : s.leaveActiveRole.time.st = 4 := by
  have rest (t : State) : Within 0x6721808000183e00280 [] t t.adoptSutclr.modeChanged :=
    ((State.adoptSutclr_within _).mono rfl).trans ((State.modeChanged_within _).mono rfl)
  unfold State.leaveActiveRole
  rw [(rest _).time rfl]

theorem State.yielded_within (s : State) : Within 0x1000000010162000020d [] s s.yielded := by
  unfold State.yielded
  extract_lets stood
  have stands : Within 0x1000000010162000020d [] s stood :=
    (((State.takeMode_within ..).mono rfl).trans ((State.driveLow_within _).mono rfl)).trans
      ((State.setTdm_within ..).mono rfl)
  exact stands.trans ((State.askWitness_within ..).mono rfl)

theorem State.yielded_stands (s : State) : s.yielded.mode = .standby ∧ s.yielded.sys.driveEn = false ∧
    s.yielded.tdm.held = false ∧ s.yielded.tdm.joined = true ∧ s.yielded.tdm.relayAt = 0 ∧
    s.yielded.tdm.acceptUntil = s.tick := by
  unfold State.yielded
  extract_lets stood
  have kept := stood.askWitness_kept stood.tdm.widx 4 stood.tdm.term
  have rest := stood.askWitness_within stood.tdm.widx 4 stood.tdm.term
  exact ⟨rest.mode_same rfl, rest.drive rfl, kept.tdm (·.held) fun _ => rfl, kept.tdm (·.joined) fun _ => rfl,
    kept.tdm (·.relayAt) fun _ => rfl, kept.tdm (·.acceptUntil) fun _ => rfl⟩

theorem relaySwitch_active {s : State} {dt : Nat} (set : s.tdm.relayAt ≠ 0)
    (now : (s.elapse dt).mt = (s.elapse dt).tb0Start s.tdm.relayAt) (mode : s.mode = .active) (locks : s.lockBits = 3) :
    ∃ t, exec (.relaySwitch dt) s = .next t ∧ t.mode = .standby ∧ t.sys.driveEn = false ∧ t.tdm.held = false ∧
      t.tdm.joined = true ∧ t.tdm.relayAt = 0 ∧ t.tdm.acceptUntil = s.tick ∧ t.time.st = 4 ∧
      t.rdn .tdm R.TDM.RELAYP = satAdd 32 (s.rdn .tdm R.TDM.RELAYP) 1 := by
  refine ⟨_, exec_relaySwitch_active set now mode locks, ?_⟩
  obtain ⟨standby, low, held, joined, done, until_⟩ := (s.elapse dt).yielded_stands
  have asked := (s.elapse dt).yielded_within
  have count : (s.elapse dt).yielded.rdn .tdm R.TDM.RELAYP = s.rdn .tdm R.TDM.RELAYP :=
    (State.rdn_of_rd (asked.regs .tdm (by simp) rfl _ (by decide))).trans (s.elapse_rdn ..)
  generalize (s.elapse dt).yielded = y at *
  have left := y.leaveActiveRole_within
  have rest := y.leaveActiveRole.relayDone_within 1 (s.elapse dt).tdm.relayAt 0
  have tdm := (rest.tdm rfl).trans (left.tdm rfl)
  rw [tdm]
  refine ⟨((rest.mode_same rfl).trans (left.mode_same rfl)).trans standby, ((rest.drive rfl).trans (left.drive rfl)).trans low,
    held, joined, done, until_.trans (s.elapse_tick dt), (congrArg TimeSt.st (rest.time rfl)).trans y.leaveActiveRole_st, ?_⟩
  refine (State.relayDone_count _ (le_refl 1) (by decide) ..).trans (congrArg (satAdd 32 · 1) ?_)
  exact (State.rdn_of_rd (left.regs .tdm (by simp) rfl _ (by decide))).trans count

theorem relaySwitch_standby {s : State} {dt : Nat} (set : s.tdm.relayAt ≠ 0)
    (now : (s.elapse dt).mt = (s.elapse dt).tb0Start s.tdm.relayAt) (mode : s.mode = .standby) :
    ∃ t, exec (.relaySwitch dt) s = .next t ∧ TookOver 1 (s.elapse dt) t ∧ t.tdm.relayAt = 0 ∧ t.tdm.joined = false := by
  refine ⟨_, exec_relaySwitch_standby set now mode, ?_⟩
  have taken := (s.elapse dt).relayed_tookOver (s.elapse dt).switches (s.elapse dt).tdm.relayAt 0 (le_refl 1) (by decide)
    rfl rfl
  have tdm := (s.elapse dt).relayed_tdm (s.elapse dt).switches (kind := 1) (s.elapse dt).tdm.relayAt 0
  generalize (s.elapse dt).relayed (s.elapse dt).switches 1 (s.elapse dt).tdm.relayAt 0 = x at *
  have kept := x.acquire_kept
  refine ⟨tookOver_acquire (by decide) taken, (kept.tdm (·.relayAt) fun _ => rfl).trans ?_,
    (kept.tdm (·.joined) fun _ => rfl).trans ?_⟩ <;> rw [tdm] <;> rfl

/-! ### Abdication (R303) -/

/-- PEER_ALIVE has followed an ABDICATE of MT `m` within 10 µs (R303). -/
def State.abdicationHeard (s : State) (m : Nat) : Bool := s.tdm.abdAlive || (!s.tdm.peerAlive && s.mt ≤ m + 10000)

/-- What PEER_ALIVE says of an ABDICATE is noted. -/
def State.abdicationNoted (s : State) (m : Nat) : State := s.setTdm (fun t => { t with abdAlive := s.abdicationHeard m })

theorem State.tryAbdication_none {s : State} (h : s.tdm.abdMt = none) : s.tryAbdication = s := by
  unfold State.tryAbdication
  rw [h]

theorem State.tryAbdication_some {s : State} {m : Nat} (frame : s.tdm.abdMt = some m) : s.tryAbdication =
    if s.mode = .standby ∧ s.abdicationHeard m = true ∧ s.tdm.peerDriveEn = false then
      ((s.abdicationNoted m).takeOver 2 s.tdm.abdCause).acquire
    else if s.abdicationHeard m = false ∧ m + 10000 < s.mt then (s.abdicationNoted m).setTdm (fun t => { t with abdMt := none })
    else s.abdicationNoted m := by
  unfold State.tryAbdication
  rw [frame]
  refine if_congr ?_ rfl (if_congr ?_ rfl rfl)
  · show (decide (s.mode = .standby) && s.abdicationHeard m && !s.tdm.peerDriveEn) = true ↔ _
    simp [and_assoc]
  · show (!s.abdicationHeard m && decide (m + 10000 < s.mt)) = true ↔ _
    simp

/-- PEER_ALIVE and PEER_DRIVE_EN read low in time: the standby takes over. -/
theorem State.tryAbdication_taken {s : State} {m : Nat} (frame : s.tdm.abdMt = some m) (mode : s.mode = .standby)
    (heard : s.abdicationHeard m = true) (low : s.tdm.peerDriveEn = false) :
    TookOver 2 s s.tryAbdication ∧ s.tryAbdication.tdm.relayCause = s.tdm.abdCause ∧
      s.tryAbdication.tdm.peerAlive = s.tdm.peerAlive ∧ s.tryAbdication.tdm.peerDriveEn = s.tdm.peerDriveEn := by
  rw [State.tryAbdication_some frame, if_pos ⟨mode, heard, low⟩]
  have taken := (s.abdicationNoted m).takeOver_tookOver (kind := 2) (by decide) (by decide) s.tdm.abdCause
  have tdm := (s.abdicationNoted m).takeOver_tdm 2 s.tdm.abdCause
  generalize (s.abdicationNoted m).takeOver 2 s.tdm.abdCause = x at *
  have kept := x.acquire_kept
  refine ⟨tookOver_acquire (by decide) taken, (kept.tdm (·.relayCause) fun _ => rfl).trans ?_,
    (kept.tdm (·.peerAlive) fun _ => rfl).trans ?_, (kept.tdm (·.peerDriveEn) fun _ => rfl).trans ?_⟩ <;> rw [tdm] <;> rfl

/-- An ABDICATE of this pair that a standby accepts (R303). -/
def State.abdicateTaken (s : State) (bytes : List Byte) : State :=
  s.setTdm (fun t => { t with
    abdMt := some s.mt
    abdAlive := false
    abdCause := leAt bytes 8 2
    term := max t.term (leAt bytes 0x0C 4) })

/-- An accepted frame leaves the pins of the peer and the term as they were read. -/
theorem State.takeFrame_pins {s x : State} {ty : Nat} {f : TandemHead} {b : List Byte}
    (taken : s.takeFrame ty f b = (true, x)) :
    x.tdm.peerAlive = s.tdm.peerAlive ∧ x.tdm.peerDriveEn = s.tdm.peerDriveEn := by
  obtain ⟨links, hi, seen, rfl⟩ := State.takeFrame_accepted taken
  exact ⟨rfl, rfl⟩

/-- The frame is as old as MT, so PEER_ALIVE alone decides. -/
theorem State.abdicateTaken_heard (s : State) (bytes : List Byte) :
    (s.abdicateTaken bytes).abdicationHeard s.mt = !s.tdm.peerAlive := by
  show (false || (!s.tdm.peerAlive && decide (s.mt ≤ s.mt + 10000))) = !s.tdm.peerAlive
  simp

theorem exec_abdicate_taken {s x : State} {dt : Nat} {f : TandemHead} {bytes : List Byte}
    (taken : (s.elapse dt).takeFrame 0x0A f bytes = (true, x)) (mode : s.mode = .standby)
    (pair : leAt bytes 0 8 = s.pairId) :
    exec (.abdicate dt f bytes) s = .next (x.abdicateTaken bytes).tryAbdication := by
  have frame := (State.takeFrame_noted taken).1
  have standby : x.mode = .standby := (frame.mode_same rfl).trans ((s.elapse_mode dt).trans mode)
  have same (o : Nat) (h : o < 0x1000) : x.rd .tdm o = s.rd .tdm o :=
    (frame.regs .tdm (by simp) rfl o h).trans (s.elapse_rd ..)
  have own : leAt bytes 0 8 = x.pairId := pair.trans (State.rd64_of_reads (same _ (by decide)) (same _ (by decide))).symm
  rw [exec_abdicate]
  unfold execAbdicate
  rw [taken]
  exact if_pos (by simp [standby, own])

/-- PEER_ALIVE falls, with the level of PEER_DRIVE_EN beside it (R303). -/
def State.aliveFallen (s : State) (low : Bool) : State :=
  s.setTdm (fun t => { t with
    peerAlive := false
    peerDriveEn := !low
    peerLowSince := if s.tdm.peerDriveEn = true ∧ low = true then s.mt else t.peerLowSince })

theorem exec_peerAliveLow_fallen (dt : Nat) (low : Bool) (s : State) : exec (.peerAliveLow dt low) s =
    .next (if s.tandemed = true then ((s.elapse dt).aliveFallen low).tryAbdication else (s.elapse dt).aliveFallen low) := by
  have tandem := s.elapse_tandemed dt
  rw [exec_peerAliveLow]
  unfold execPeerAliveLow
  generalize s.elapse dt = e at tandem
  extract_lets up fallen
  have level : e.aliveFallen low = fallen := by
    unfold State.aliveFallen fallen up State.setTdm
    simp only [Bool.and_eq_true]
    rfl
  have same : (e.aliveFallen low).tandemed = e.tandemed := rfl
  rw [← level, same, tandem]

theorem exec_peerAliveLow_tandemed {s : State} (dt : Nat) (low : Bool) (h : s.tandemed = true) :
    exec (.peerAliveLow dt low) s = .next ((s.elapse dt).aliveFallen low).tryAbdication :=
  (exec_peerAliveLow_fallen dt low s).trans (congrArg _ (if_pos h))

theorem State.aliveFallen_heard (s : State) (low : Bool) (m : Nat) :
    (s.aliveFallen low).abdicationHeard m = (s.tdm.abdAlive || decide (s.mt ≤ m + 10000)) := by
  show (s.tdm.abdAlive || (!false && decide (s.mt ≤ m + 10000))) = _
  simp

section
variable {s : State} (dt : Nat) (low : Bool) {m : Nat}

/-- Without a tandem page, and without an ABDICATE, only the pins are read. -/
theorem exec_peerAliveLow_alone (h : s.tandemed = false ∨ s.tdm.abdMt = none) :
    exec (.peerAliveLow dt low) s = .next ((s.elapse dt).aliveFallen low) := by
  rw [exec_peerAliveLow_fallen]
  refine congrArg Host.Outcome.next ?_
  split
  · rename_i tandem
    refine State.tryAbdication_none ((congrArg TdmSt.abdMt (s.elapse_tdm dt)).trans ?_)
    exact h.resolve_left (by simp [tandem])
  · rfl

theorem State.elapse_aliveFallen_abdMt : ((s.elapse dt).aliveFallen low).tdm.abdMt = s.tdm.abdMt :=
  (congrArg TdmSt.abdMt (s.elapse_tdm dt) :)

theorem exec_peerAliveLow_heard (tandem : s.tandemed = true) (h : s.mode ≠ .standby ∨ low = false)
    (frame : s.tdm.abdMt = some m) (heard : (s.elapse dt).mt ≤ m + 10000 ∨ s.tdm.abdAlive = true) :
    exec (.peerAliveLow dt low) s = .next (((s.elapse dt).aliveFallen low).setTdm (fun t => { t with abdAlive := true })) := by
  have noted : ((s.elapse dt).aliveFallen low).abdicationHeard m = true := by
    rw [State.aliveFallen_heard, State.elapse_tdm]
    simpa [or_comm] using heard
  rw [exec_peerAliveLow_tandemed dt low tandem, State.tryAbdication_some ((State.elapse_aliveFallen_abdMt ..).trans frame),
    if_neg, if_neg (by simp [noted]), State.abdicationNoted, noted]
  rintro ⟨standby, -, level⟩
  obtain rfl : low = true := by simpa [State.aliveFallen, State.setTdm] using level
  exact h.elim (fun other => other ((s.elapse_mode dt).symm.trans standby)) (by simp)

theorem exec_peerAliveLow_late (tandem : s.tandemed = true) (frame : s.tdm.abdMt = some m)
    (old : m + 10000 < (s.elapse dt).mt) (unheard : s.tdm.abdAlive = false) : exec (.peerAliveLow dt low) s =
      .next (((s.elapse dt).aliveFallen low).setTdm (fun t => { t with abdMt := none })) := by
  have noted : ((s.elapse dt).aliveFallen low).abdicationHeard m = ((s.elapse dt).aliveFallen low).tdm.abdAlive := by
    rw [State.aliveFallen_heard, decide_eq_false (by omega), Bool.or_false]
    rfl
  have still : ((s.elapse dt).aliveFallen low).tdm.abdAlive = false :=
    (congrArg TdmSt.abdAlive (s.elapse_tdm dt)).trans unheard
  rw [exec_peerAliveLow_tandemed dt low tandem, State.tryAbdication_some ((State.elapse_aliveFallen_abdMt ..).trans frame),
    if_neg (by simp [noted, still]), if_pos ⟨noted.trans still, old⟩, State.abdicationNoted, noted]
  rfl

end

/-! ### A lease granted to a standby (R304) -/

/-- The lease that a grant gives (R298). -/
def State.leased (s : State) (bytes : List Byte) : State :=
  (s.closeReply s.tdm.widx bytes).setTdm (fun t => { t with
    held := true
    viewEnd := leAt bytes 0x18 8 + tLease - tGuard
    lastGrant := s.mt
    witLost := false })

theorem State.leased_tookOver {s t : State} {bytes : List Byte} {kind : Nat} (h : TookOver kind (s.leased bytes) t) :
    TookOver kind s t := h

theorem State.leaseGranted_silent {s : State} {bytes : List Byte} (reply : s.replyEntry 0x82 bytes = some s.tdm.widx)
    (asked : s.askedKind bytes = 3) (mode : s.mode = .standby) (silent : s.tdm.silent = true) :
    s.leaseGranted bytes = (s.leased bytes).takeOver 3 0 := by
  unfold State.leaseGranted
  rw [reply]
  refine (if_neg (by simp)).trans (if_pos ?_)
  show (decide (s.askedKind bytes = 3) && decide (s.mode = .standby) && s.tdm.silent) = true
  simp [asked, mode, silent]

end Sys2Proof.Machine
end


section
/-! SETTLEMENT. Planned switch, abdication and takeover (R110, R302 to R304). -/

open Sys2Proof Sys2Proof.Machine

/-- Settles O18: the planned switch by the three roles a module may stand in, an abdication by what PEER_ALIVE and
PEER_DRIVE_EN read beside its frame, and the grant by the takeover it leads to. -/
theorem relaysComplete : Obligations.RelaysComplete := by
  refine ⟨?_, ?_, ?_, ?_, ?_, ?_, ?_, ?_, ?_, ?_, ?_⟩
  · rintro dt s e rfl set now mode locks
    exact relaySwitch_active set now mode locks
  · rintro dt s e rfl set now mode locks
    obtain ⟨same, low, held, unwanted, done⟩ := (s.elapse dt).switchHeld_keeps
    exact ⟨_, exec_relaySwitch_unlocked set now mode locks, same.trans ((s.elapse_mode dt).trans mode), low, held,
      unwanted, done⟩
  · rintro dt s e rfl set now mode
    exact relaySwitch_standby set now mode
  · rintro dt s e rfl h
    exact exec_relaySwitch_idle dt h
  · rintro dt f bytes s ⟨b, x⟩ taken rfl mode pair alive low
    obtain ⟨up, drive⟩ := State.takeFrame_pins taken.symm
    rw [State.elapse_tdm] at up drive
    have heard := x.abdicateTaken_heard bytes
    rw [up, alive] at heard
    obtain ⟨took, cause, -⟩ := State.tryAbdication_taken (s := x.abdicateTaken bytes) rfl
      (((State.takeFrame_noted taken.symm).1.mode_same rfl).trans ((s.elapse_mode dt).trans mode)) heard (drive.trans low)
    exact ⟨_, exec_abdicate_taken taken.symm mode pair, took, cause⟩
  · rintro dt f bytes s ⟨b, x⟩ taken rfl mode pair h
    obtain ⟨up, drive⟩ := State.takeFrame_pins taken.symm
    obtain ⟨-, -, term, -⟩ := State.takeFrame_keeps taken.symm
    rw [State.elapse_tdm] at up drive term
    have heard := x.abdicateTaken_heard bytes
    rw [up] at heard
    have level : (x.abdicateTaken bytes).tdm.peerDriveEn = s.tdm.peerDriveEn := drive
    rw [exec_abdicate_taken taken.symm mode pair, State.tryAbdication_some (m := x.mt) rfl, if_neg, if_neg,
      State.abdicationNoted, heard, ← term]
    · rfl
    · rintro ⟨-, old⟩
      exact absurd (show x.mt + 10000 < x.mt from old) (by omega)
    · rintro ⟨-, fallen, down⟩
      rw [heard] at fallen
      rw [level] at down
      simp [down] at h
      simp [h] at fallen
  · rintro dt s e m rfl tandem mode frame young
    have kept := (State.elapse_aliveFallen_abdMt dt true).trans frame
    have heard : ((s.elapse dt).aliveFallen true).abdicationHeard m = true := by
      rw [State.aliveFallen_heard]
      simp [young]
    obtain ⟨took, -, alive, low⟩ := State.tryAbdication_taken kept ((s.elapse_mode dt).trans mode) heard rfl
    exact ⟨_, exec_peerAliveLow_tandemed dt true tandem, took, alive, low⟩
  · rintro dt b s e rfl h
    rw [exec_peerAliveLow_alone dt b h, State.aliveFallen, State.setTdm, State.elapse_tdm]
  · rintro dt b s e m rfl tandem h frame young
    rw [exec_peerAliveLow_heard dt b tandem h frame young, State.aliveFallen, State.setTdm, State.setTdm, State.elapse_tdm]
  · rintro dt b s e m rfl tandem frame old unheard
    rw [exec_peerAliveLow_late dt b tandem frame old unheard, State.aliveFallen, State.setTdm, State.setTdm, State.elapse_tdm]
  · rintro dt bytes s e rfl reply asked mode silent
    have done := State.leaseGranted_silent (s := s.elapse dt) (by rwa [State.elapse_tdm]) asked
      ((s.elapse_mode dt).trans mode) (by rwa [State.elapse_tdm])
    have taken := ((s.elapse dt).leased bytes).takeOver_tookOver (kind := 3) (by decide) (by decide) 0
    have tdm := ((s.elapse dt).leased bytes).takeOver_tdm 3 0
    rw [exec_leaseGranted, execLeaseGranted, done]
    refine ⟨_, rfl, State.leased_tookOver taken, ?_⟩
    rw [tdm]
    exact ⟨rfl, rfl, rfl⟩

end

section
/-! SUPPORT. The modulator inputs: what the registers of their page and the inputs read as after an update (R103 to R111,
R119). -/

namespace Sys2Proof.Machine

open Sys2Proof

/-! ### Registers of the page -/

theorem modFlags_full {n : Nat} (lo : 8 ≤ n) (hi : n ≤ 12) : Full (pageBlockFlags .mod + 0x7) n n := by
  interval_cases n <;> rfl

theorem State.modFlag_rdb (s : State) {n : Nat} (lo : 8 ≤ n) (hi : n ≤ 12) :
    (s.flag .mod n).rdb .mod R.PAGE.FLAGS n = true :=
  State.flag_rdb _ (findRow_flags _) (by omega) (modFlags_full lo hi) (flags_place_ne (by decide) (by decide))

theorem State.modFlag_rd (s : State) (n : Nat) {u : Nat} (small : u < 0x1000) (h : u ≠ R.PAGE.FLAGS) :
    (s.flag .mod n).rd .mod u = s.rd .mod u :=
  State.flag_rd _ _ _ (flags_place_ne (by decide) small) (place_ne h.symm)

theorem State.modFlag_keeps {s : State} {n m : Nat} (lo : 8 ≤ m) (hi : m ≤ 12) (distinct : m ≠ n)
    (set : s.rdb .mod R.PAGE.FLAGS m = true) : (s.flag .mod n).rdb .mod R.PAGE.FLAGS m = true :=
  State.flag_rdb_keeps (findRow_flags _) (by omega) (modFlags_full lo hi) (flags_place_ne (by decide) (by decide)) distinct set

/-- STAT of the page: DRV, LOCK of each group, CLK of each group, and the loop delays. -/
theorem modStat_row : findRow .mod R.MOD.STAT = some ⟨0x800, 4, 1, 0, 0, 0, 0, 0xFFFF1F, [0]⟩ := by decide +kernel

theorem modStat_full {n : Nat} (h : n < 5) : Full (RegRow.mask ⟨0x800, 4, 1, 0, 0, 0, 0, 0xFFFF1F, [0]⟩) n n := by
  interval_cases n <;> rfl

/-- A bit of STAT after another field of it was stored. -/
theorem State.modStat_wrf (s : State) {hi lo m : Nat} (v : Nat) (h : m < 5) (apart : m < lo ∨ lo + (hi + 1 - lo) ≤ m) :
    (s.wrf .mod R.MOD.STAT hi lo v).rdb .mod R.MOD.STAT m = s.rdb .mod R.MOD.STAT m := by
  unfold State.wrf State.rdb
  rw [State.rd_wr_same _ modStat_row, flg_and, (modStat_full h).flg (by omega) (le_refl _) (le_refl _), Bool.and_true,
    flg_setFld _ _ _ _ _ (by omega), if_neg (by omega)]

theorem State.modStat_wrb (s : State) {n m : Nat} (b : Bool) (h : m < 5) :
    (s.wrb .mod R.MOD.STAT n b).rdb .mod R.MOD.STAT m = if m = n then b else s.rdb .mod R.MOD.STAT m := by
  split
  · rename_i same
    subst same
    exact State.rdb_wrb_same b modStat_row (by omega) (modStat_full h)
  · exact s.modStat_wrf _ h (by omega)

/-! ### The same update of several inputs -/

theorem bitsOf_lt (f : Nat → Bool) (k : Nat) : bitsOf f k < 2 ^ k := by
  induction k with
  | zero => exact Nat.one_pos
  | succ k ih =>
    have step : bitsOf f (k + 1) ≤ bitsOf f k + 2 ^ k := Nat.add_le_add_left (by split <;> simp) _
    rw [Nat.pow_succ]
    omega

/-- A bitmap holds what it was formed of. -/
theorem testBit_bitsOf (f : Nat → Bool) {k n : Nat} (h : n < k) : (bitsOf f k).testBit n = f n := by
  induction k with
  | zero => omega
  | succ k ih =>
    have step : bitsOf f (k + 1) = 2 ^ k * (f k).toNat + bitsOf f k := by
      rw [bitsOf, Nat.add_comm]
      cases f k <;> simp
    rw [step, Nat.testBit_two_pow_mul_add _ (bitsOf_lt f k)]
    split
    · rename_i below
      exact ih below
    · obtain rfl : n = k := by omega
      cases f n <;> simp

/-- An update of the inputs of a list that meet a condition. -/
def State.eachModIn (s : State) (c : Nat → Prop) [DecidablePred c] (f : Nat → ModIn → ModIn) (l : List Nat) : State :=
  l.foldl (fun s n => if c n then s.setModIn n (f n (s.modIn n)) else s) s

theorem State.modIn_ite_setModIn (s : State) (c : Prop) [Decidable c] (a n : Nat) (v : ModIn) :
    (if c then s.setModIn a v else s).modIn n = if n = a ∧ c then v else s.modIn n := by
  by_cases met : c
  · rw [if_pos met]
    by_cases here : n = a
    · rw [here, State.modIn_setModIn_same, if_pos ⟨rfl, met⟩]
    · rw [State.modIn_setModIn_other _ _ here, if_neg fun h => here h.1]
  · rw [if_neg met, if_neg fun h => met h.2]

section
variable (s : State) (c : Nat → Prop) [DecidablePred c] (f : Nat → ModIn → ModIn)

theorem State.eachModIn_modIn {l : List Nat} (once : l.Nodup) (n : Nat) :
    (s.eachModIn c f l).modIn n = if n ∈ l ∧ c n then f n (s.modIn n) else s.modIn n := by
  induction l generalizing s with
  | nil => exact (if_neg (by simp)).symm
  | cons a l ih =>
    obtain ⟨fresh, rest⟩ := List.nodup_cons.mp once
    have first := s.modIn_ite_setModIn (c a) a n (f a (s.modIn a))
    refine (ih _ rest).trans ?_
    dsimp only
    rw [first]
    by_cases here : n = a
    · subst here
      rw [if_neg fun h => fresh h.1]
      exact if_congr (by simp) rfl rfl
    · rw [if_neg (show ¬(n = a ∧ c a) from fun h => here h.1)]
      exact if_congr (by simp [here]) rfl rfl

/-- Of the state only what is kept of the inputs is updated. -/
theorem State.eachModIn_rest (l : List Nat) : ∃ ins, s.eachModIn c f l = { s with mod := { s.mod with ins := ins } } := by
  induction l generalizing s with
  | nil => exact ⟨s.mod.ins, rfl⟩
  | cons a l ih =>
    obtain ⟨ins, step⟩ : ∃ ins, (if c a then s.setModIn a (f a (s.modIn a)) else s) =
        { s with mod := { s.mod with ins := ins } } := by
      split
      · exact ⟨_, rfl⟩
      · exact ⟨s.mod.ins, rfl⟩
    obtain ⟨rest, done⟩ := ih { s with mod := { s.mod with ins := ins } }
    exact ⟨rest, (congrArg (fun t : State => t.eachModIn c f l) step).trans done⟩

end

/-! ### Invalid inputs (R119) -/

/-- The input is invalid from now on. -/
def ModIn.spoilt (v : ModIn) : ModIn := { v with valid := false, bad := true, stageOk := false, csmp := none, fsmp := none }

/-- The inputs of a group become invalid. -/
def State.groupSpoilt (s : State) (g : Nat) : State :=
  s.eachModIn (fun n => modGroup n = g) (fun _ v => v.spoilt) (List.range 12)

theorem State.invalidateGroup_eq (s : State) (g : Nat) : s.invalidateGroup g = (s.groupSpoilt g).invalidShow := rfl

theorem State.invalidShow_mod (s : State) : s.invalidShow.mod = s.mod := (State.invalidShow_within s).mod rfl

theorem modInvalid_row : findRow .mod R.MOD.INVALID = some ⟨0x804, 4, 1, 0, 0, 0, 0, 0xFFF, [0]⟩ := by decide +kernel

theorem modInvalid_full : Full (RegRow.mask ⟨0x804, 4, 1, 0, 0, 0, 0, 0xFFF, [0]⟩) 11 0 := rfl

/-- INVALID shows the enabled inputs that are invalid. -/
theorem State.invalidShow_shows (s : State) {n : Nat} (h : n < 12) :
    (s.invalidShow.rdn .mod R.MOD.INVALID).testBit n = s.inputInvalid n := by
  unfold State.invalidShow
  extract_lets now was shown flagged
  have read : flagged.rd .mod R.MOD.INVALID = shown.rd .mod R.MOD.INVALID := by
    unfold flagged
    split
    · rfl
    · exact State.modFlag_rd _ _ (by decide) (by decide)
  have same : (flagged.setSource 58 (now != 0)).rd .mod R.MOD.INVALID = shown.rd .mod R.MOD.INVALID :=
    ((State.setSource_within ..).regs .mod (by simp) rfl _ (by decide)).trans read
  show flg ((flagged.setSource 58 (now != 0)).rd .mod R.MOD.INVALID) n = _
  rw [same]
  unfold shown State.wrn
  rw [State.rd_wr_same _ modInvalid_row, flg_and, modInvalid_full.flg (by decide) (Nat.zero_le n) (by omega), Bool.and_true,
    ← testBit_bitsOf s.inputInvalid h]
  show (BitVec.ofNat 32 now).toNat.testBit n = _
  rw [BitVec.toNat_ofNat, Nat.testBit_mod_two_pow, decide_eq_true (by omega), Bool.true_and]

/-- It leaves every register of the page but INVALID and FLAGS. -/
theorem State.invalidShow_rd (s : State) {u : Nat} (small : u < 0x1000) (h : u ≠ R.MOD.INVALID) (k : u ≠ R.PAGE.FLAGS) :
    s.invalidShow.rd .mod u = s.rd .mod u := by
  unfold State.invalidShow
  extract_lets now was shown flagged
  have read : flagged.rd .mod u = shown.rd .mod u := by
    unfold flagged
    split
    · rfl
    · exact State.modFlag_rd _ _ small k
  exact (((State.setSource_within ..).regs .mod (by simp) rfl _ small).trans read).trans
    (State.rd_wr_other _ (place_ne h.symm))

theorem State.invalidShow_flag {s : State} {m : Nat} (lo : 8 ≤ m) (hi : m < 12) (set : s.rdb .mod R.PAGE.FLAGS m = true) :
    s.invalidShow.rdb .mod R.PAGE.FLAGS m = true := by
  unfold State.invalidShow
  extract_lets now was shown flagged
  have first : shown.rdb .mod R.PAGE.FLAGS m = true :=
    (State.rdb_of_rd (State.rd_wr_other _ (place_ne (by decide)))).trans set
  have second : flagged.rdb .mod R.PAGE.FLAGS m = true := by
    unfold flagged
    split
    · exact first
    · exact State.modFlag_keeps lo (by omega) (by omega) first
  exact (State.rdb_of_rd ((State.setSource_within ..).regs .mod (by simp) rfl _ (by decide))).trans second

/-! ### What of the clocks stands when bits or inputs are lost (R106, R111, R119) -/

theorem Within.strap_same {K : Nat} {ps : List Page} {s t : State} (h : Within K ps s t) (k : K.testBit 3 = false) :
    t.sys.strapB = s.sys.strapB := (congrArg SysSt.strapB (h.sys k) :)

/-- The configuration of the page, and its counts of lost clocks, switches and failed series. -/
def clockWord (o : Nat) : Prop := 0x40 ≤ o ∧ o < 0x800 ∨ o = R.MOD.CLKLOSS ∨ o = R.MOD.SWITCHES

theorem modInCfg_clockWord {n : Nat} (h : n < 12) : clockWord (R.MOD.IN_CFG n) := by
  unfold clockWord R.MOD.IN_CFG
  omega

theorem clockWord.small {o : Nat} (h : clockWord o) : o < 0x1000 := by
  unfold clockWord R.MOD.CLKLOSS R.MOD.SWITCHES at h
  omega

theorem clockWord.ne {o u : Nat} (h : clockWord o) (k : ¬clockWord u) : o ≠ u := fun e => k (e ▸ h)

theorem not_clockWord_flags : ¬clockWord R.PAGE.FLAGS := by unfold clockWord; decide

theorem not_clockWord_invalid : ¬clockWord R.MOD.INVALID := by unfold clockWord; decide

/-- The driver, the locks that are found, the words above and the flags that are set stand. -/
structure ClocksKept (s t : State) : Prop where
  mode : t.mode = s.mode
  strap : t.sys.strapB = s.sys.strapB
  pages : t.pages = s.pages
  mcksel : t.mod.mcksel = s.mod.mcksel
  locking : t.mod.locking = s.mod.locking
  word : ∀ o, clockWord o → t.rd .mod o = s.rd .mod o
  flag : ∀ m, 8 ≤ m → m < 12 → s.rdb .mod R.PAGE.FLAGS m = true → t.rdb .mod R.PAGE.FLAGS m = true

namespace ClocksKept

variable {r s t : State}

theorem refl (s : State) : ClocksKept s s := ⟨rfl, rfl, rfl, rfl, rfl, fun _ _ => rfl, fun _ _ _ h => h⟩

theorem trans (h : ClocksKept r s) (k : ClocksKept s t) : ClocksKept r t where
  mode := k.mode.trans h.mode
  strap := k.strap.trans h.strap
  pages := k.pages.trans h.pages
  mcksel := k.mcksel.trans h.mcksel
  locking := k.locking.trans h.locking
  word o w := (k.word o w).trans (h.word o w)
  flag m lo hi set := k.flag m lo hi (h.flag m lo hi set)

theorem ite {c : Prop} [Decidable c] (h : ClocksKept r s) (k : ClocksKept r t) : ClocksKept r (if c then s else t) :=
  ite_ind (ClocksKept r) h k

/-- What touches neither the modes, nor the pages' states, nor the front end. -/
theorem within {K : Nat} (h : Within K [] s t) (k : Nat.land K 0x4000000000002019 = 0) : ClocksKept s t := by
  have clear (i : Nat) (b : Nat.testBit 0x4000000000002019 i = true) : K.testBit i = false := by
    have both := congrArg (Nat.testBit · i) k
    change (K &&& 0x4000000000002019).testBit i = _ at both
    simpa [Nat.testBit_and, b] using both
  have mod := h.mod (clear 13 rfl)
  have words := h.regs .mod (by simp) (clear 62 rfl)
  exact ⟨h.mode_same (clear 0 rfl), h.strap_same (clear 3 rfl), h.pages (clear 4 rfl),
    congrArg ModSt.mcksel mod, congrArg ModSt.locking mod, fun o w => words o w.small,
    fun m _ _ set => (State.rdb_of_rd (words _ (by decide))).trans set⟩

/-- A store into another register. -/
theorem wr (s : State) {o : Nat} (h : ¬clockWord o) (k : o ≠ R.PAGE.FLAGS) (v : Word) : ClocksKept s (s.wr .mod o v) where
  mode := congrArg SysSt.mode (s.wr_sys ..)
  strap := congrArg SysSt.strapB (s.wr_sys ..)
  pages := s.wr_pages ..
  mcksel := congrArg ModSt.mcksel (s.wr_mod ..)
  locking := congrArg ModSt.locking (s.wr_mod ..)
  word _ w := State.rd_wr_other v (place_ne fun e => h (e ▸ w))
  flag _ _ _ set := (State.rdb_of_rd (State.rd_wr_other v (place_ne k))).trans set

theorem flagged (s : State) (n : Nat) : ClocksKept s (s.flag .mod n) where
  mode := congrArg SysSt.mode (s.flag_sys ..)
  strap := congrArg SysSt.strapB (s.flag_sys ..)
  pages := s.flag_pages ..
  mcksel := congrArg ModSt.mcksel (s.flag_mod ..)
  locking := congrArg ModSt.locking (s.flag_mod ..)
  word o w := s.modFlag_rd n w.small (w.ne not_clockWord_flags)
  flag m lo hi set := by
    by_cases same : m = n
    · subst same
      exact s.modFlag_rdb lo (by omega)
    · exact State.modFlag_keeps lo (by omega) same set

theorem ins (s : State) (l : List (Nat × ModIn)) : ClocksKept s { s with mod := { s.mod with ins := l } } :=
  ⟨rfl, rfl, rfl, rfl, rfl, fun _ _ => rfl, fun _ _ _ h => h⟩

end ClocksKept

/-- DRV, the locks and the clocks that STAT shows stand (R106). -/
def StatKept (s t : State) : Prop := ∀ m < 5, t.rdb .mod R.MOD.STAT m = s.rdb .mod R.MOD.STAT m

theorem StatKept.trans {r s t : State} (h : StatKept r s) (k : StatKept s t) : StatKept r t :=
  fun m l => (k m l).trans (h m l)

theorem StatKept.of_rd {s t : State} (h : t.rd .mod R.MOD.STAT = s.rd .mod R.MOD.STAT) : StatKept s t :=
  fun _ _ => State.rdb_of_rd h

theorem State.invalidShow_clocks (s : State) : ClocksKept s s.invalidShow where
  mode := (State.invalidShow_within s).mode_same rfl
  strap := (State.invalidShow_within s).strap_same rfl
  pages := (State.invalidShow_within s).pages rfl
  mcksel := congrArg ModSt.mcksel s.invalidShow_mod
  locking := congrArg ModSt.locking s.invalidShow_mod
  word _ w := s.invalidShow_rd w.small (w.ne not_clockWord_invalid) (w.ne not_clockWord_flags)
  flag _ lo hi set := State.invalidShow_flag lo hi set

theorem State.groupSpoilt_rest (s : State) (g : Nat) : ∃ ins, s.groupSpoilt g = { s with mod := { s.mod with ins := ins } } :=
  s.eachModIn_rest ..

theorem State.invalidateGroup_clocks (s : State) (g : Nat) : ClocksKept s (s.invalidateGroup g) := by
  obtain ⟨ins, spoilt⟩ := s.groupSpoilt_rest g
  rw [State.invalidateGroup_eq, spoilt]
  exact (ClocksKept.ins s ins).trans (State.invalidShow_clocks _)

theorem State.invalidateGroup_stat (s : State) (g : Nat) : StatKept s (s.invalidateGroup g) := by
  obtain ⟨ins, spoilt⟩ := s.groupSpoilt_rest g
  rw [State.invalidateGroup_eq, spoilt]
  exact .of_rd (State.invalidShow_rd _ (by decide) (by decide) (by decide))

/-- The inputs of the group are invalid, the others as they were. -/
theorem State.invalidateGroup_modIn (s : State) (g : Nat) {n : Nat} (h : n < 12) :
    (s.invalidateGroup g).modIn n = if modGroup n = g then (s.modIn n).spoilt else s.modIn n := by
  rw [State.invalidateGroup_eq, State.modIn_of_mod (State.invalidShow_mod _), State.groupSpoilt,
    State.eachModIn_modIn _ _ _ List.nodup_range]
  exact if_congr (by simp [h]) rfl rfl

/-! ### Unsampled bits (R111) -/

/-- They are counted, and those of group 0 for the stage too. -/
def State.unsampledCounted (s : State) (g n : Nat) : State :=
  let s := s.incBy .mod (if g = 0 then R.MOD.UNSAMP0 else R.MOD.UNSAMP1) n
  if g = 0 then { s with mod := { s.mod with unsamp := s.mod.unsamp + n } } else s

/-- The inputs of the group are gapped in the stage. -/
def State.groupGapped (s : State) (g : Nat) : State :=
  s.eachModIn (fun i => modGroup i = g) (fun _ v => { v with gap := true }) (List.range 12)

theorem State.unsampled_slots (s : State) (g : Nat) {n : Nat} (h : n ≠ 0) :
    Within 0x200000 [] ((s.unsampledCounted g n).groupGapped g) (s.unsampled g n) := by
  unfold State.unsampled
  rw [if_neg h]
  exact .foldl (.refl _) fun t k kept => .ite (kept.trans (State.setSlot_within ..)) kept

theorem State.unsampledCounted_clocks (s : State) (g n : Nat) :
    ClocksKept s (s.unsampledCounted g n) ∧ StatKept s (s.unsampledCounted g n) := by
  unfold State.unsampledCounted
  extract_lets counted
  have offset : (if g = 0 then R.MOD.UNSAMP0 else R.MOD.UNSAMP1) = 0xF04 ∨
      (if g = 0 then R.MOD.UNSAMP0 else R.MOD.UNSAMP1) = 0xF08 := by
    split
    · exact .inl rfl
    · exact .inr rfl
  have count : ClocksKept s counted ∧ StatKept s counted := by
    unfold counted State.incBy State.wrn
    generalize (if g = 0 then R.MOD.UNSAMP0 else R.MOD.UNSAMP1) = o at offset
    refine ⟨.wr s ?_ ?_ _, .of_rd (State.rd_wr_other _ (place_ne ?_))⟩
    · unfold clockWord R.MOD.CLKLOSS R.MOD.SWITCHES
      omega
    · unfold R.PAGE.FLAGS
      omega
    · unfold R.MOD.STAT
      omega
  clear_value counted
  split
  · exact ⟨count.1.trans ⟨rfl, rfl, rfl, rfl, rfl, fun _ _ => rfl, fun _ _ _ h => h⟩, count.2.trans fun _ _ => rfl⟩
  · exact count

theorem State.unsampled_clocks (s : State) (g n : Nat) : ClocksKept s (s.unsampled g n) ∧ StatKept s (s.unsampled g n) := by
  by_cases none : n = 0
  · unfold State.unsampled
    rw [if_pos none]
    exact ⟨.refl s, fun _ _ => rfl⟩
  · have slots := s.unsampled_slots g none
    obtain ⟨clocks, stat⟩ := s.unsampledCounted_clocks g n
    obtain ⟨ins, gapped⟩ : ∃ ins, (s.unsampledCounted g n).groupGapped g = _ := State.eachModIn_rest ..
    rw [gapped] at slots
    exact ⟨(clocks.trans (.ins _ ins)).trans (.within slots rfl),
      stat.trans (.of_rd (slots.regs .mod (by simp) rfl _ (by decide)))⟩

/-- The inputs of the other group stand. -/
theorem State.unsampled_modIn (s : State) {g m : Nat} (n : Nat) (h : modGroup m ≠ g) :
    (s.unsampled g n).modIn m = s.modIn m := by
  by_cases none : n = 0
  · unfold State.unsampled
    rw [if_pos none]
  · rw [State.modIn_of_mod ((s.unsampled_slots g none).mod rfl), State.groupGapped,
      State.eachModIn_modIn _ _ _ List.nodup_range, if_neg fun k => h k.2]
    unfold State.unsampledCounted State.modIn
    dsimp only
    split <;> rw [State.incBy, State.wrn_mod]

/-! ### Reads that go with the page's words -/

@[simp] theorem State.elapse_modEn (s : State) (dt n : Nat) : (s.elapse dt).modEn n = s.modEn n := State.elapse_rdb ..

@[simp] theorem State.elapse_groupLocked (s : State) (dt g : Nat) : (s.elapse dt).groupLocked g = s.groupLocked g :=
  State.elapse_rdb ..

@[simp] theorem State.elapse_clockDriver (s : State) (dt : Nat) : (s.elapse dt).clockDriver = s.clockDriver := by
  unfold State.clockDriver
  simp

@[simp] theorem State.elapse_modIn (s : State) (dt n : Nat) : (s.elapse dt).modIn n = s.modIn n :=
  State.modIn_of_mod (s.elapse_mod dt) n

theorem ClocksKept.modEn {s t : State} (h : ClocksKept s t) {n : Nat} (l : n < 12) : t.modEn n = s.modEn n :=
  State.rdb_of_rd (h.word _ (modInCfg_clockWord l))

theorem ClocksKept.clockDriver {s t : State} (h : ClocksKept s t) : t.clockDriver = s.clockDriver := by
  unfold State.clockDriver
  rw [h.mcksel, h.strap]

theorem StatKept.groupLocked {s t : State} (h : StatKept s t) {g : Nat} (l : g < 2) : t.groupLocked g = s.groupLocked g :=
  h (1 + g) (by omega)

/-- INVALID shows every enabled input of a group that became invalid. -/
theorem State.invalidateGroup_invalid (s : State) (g : Nat) {n : Nat} (h : n < 12) (member : modGroup n = g) :
    ((s.invalidateGroup g).rdn .mod R.MOD.INVALID).testBit n = s.modEn n := by
  obtain ⟨ins, spoilt⟩ := s.groupSpoilt_rest g
  have invalid : ((s.groupSpoilt g).modIn n).valid = false := by
    rw [State.groupSpoilt, State.eachModIn_modIn _ _ _ List.nodup_range, if_pos ⟨List.mem_range.mpr h, member⟩]
    rfl
  have enabled : (s.groupSpoilt g).modEn n = s.modEn n := by
    rw [spoilt]
    rfl
  rw [State.invalidateGroup_eq, State.invalidShow_shows _ h, State.inputInvalid, invalid, enabled]
  simp

/-! ### A lost clock (R119) -/

theorem modClkloss_row : findRow .mod R.MOD.CLKLOSS = some ⟨0xF00, 4, 1, 0, 0, 0, 0, 0xFFFFFFFF, [0]⟩ := by decide +kernel

/-- The halves of a word with no reserved bit. -/
theorem modHalf_full {g : Nat} (h : g < 2) : Full 0xFFFFFFFF (16 * g + 15) (16 * g) := by
  unfold Full
  interval_cases g <;> decide

/-- The loss is counted and flagged, and a follower loses its lock (R110). -/
def State.lossNoted (s : State) (g : Nat) : State :=
  let s := (s.incf .mod R.MOD.CLKLOSS (16 * g + 15) (16 * g)).flag .mod 8
  let s := s.wrb .mod R.MOD.STAT (3 + g) false
  if s.clockDriver then s else
    { s.wrb .mod R.MOD.STAT (1 + g) false with mod := { s.mod with locking := sset false s.mod.locking g false } }

theorem State.clockLoss_eq (s : State) (g n : Nat) :
    s.clockLoss g n = ((s.lossNoted g).unsampled g n).invalidateGroup g := rfl

section
variable (s : State) {g : Nat}

theorem State.lossNoted_within : Within 0x4008000000002080 [] s (s.lossNoted g) := by
  unfold State.lossNoted
  extract_lets counted noted locking
  have count : Within 0x4008000000002080 [] s counted :=
    ((State.incf_within ..).kind rfl .mod rfl rfl).trans ((State.flag_within ..).kind rfl .mod rfl rfl)
  have note : Within 0x4008000000002080 [] s noted := count.trans ((State.wrb_within ..).kind rfl .mod rfl rfl)
  have lost : Within 0x4008000000002080 [] s (noted.wrb .mod R.MOD.STAT (1 + g) false) :=
    note.trans ((State.wrb_within ..).kind rfl .mod rfl rfl)
  exact .ite note { lost with mod := nofun }

theorem State.lossNoted_modIn (n : Nat) : (s.lossNoted g).modIn n = s.modIn n := by
  unfold State.lossNoted
  extract_lets counted noted locking
  have same : noted.mod = s.mod := by unfold noted counted; simp
  split <;> exact congrArg (fun m : ModSt => sget {} m.ins n) same

/-- The words of the page but STAT are those of the count and its flag. -/
theorem State.lossNoted_rd {o : Nat} (h : o ≠ R.MOD.STAT) : (s.lossNoted g).rd .mod o =
    ((s.incf .mod R.MOD.CLKLOSS (16 * g + 15) (16 * g)).flag .mod 8).rd .mod o := by
  unfold State.lossNoted
  extract_lets counted noted locking
  have note : noted.rd .mod o = counted.rd .mod o := State.rd_wr_other _ (place_ne h.symm)
  split
  · exact note
  · exact (State.rd_wr_other _ (place_ne h.symm) : (noted.wrb .mod R.MOD.STAT (1 + g) false).rd .mod o = _).trans note

theorem State.lossNoted_flag : (s.lossNoted g).rdb .mod R.PAGE.FLAGS 8 = true :=
  (State.rdb_of_rd (s.lossNoted_rd (by decide))).trans (State.modFlag_rdb _ (by decide) (by decide))

theorem State.lossNoted_modEn {n : Nat} (h : n < 12) : (s.lossNoted g).modEn n = s.modEn n := by
  have word := modInCfg_clockWord h
  have apart : R.MOD.CLKLOSS ≠ R.MOD.IN_CFG n ∧ R.MOD.IN_CFG n ≠ R.MOD.STAT := by
    unfold R.MOD.CLKLOSS R.MOD.IN_CFG R.MOD.STAT
    omega
  refine State.rdb_of_rd ((s.lossNoted_rd apart.2).trans ?_)
  exact (State.modFlag_rd _ _ word.small (word.ne not_clockWord_flags)).trans (State.rd_wr_other _ (place_ne apart.1))

theorem State.lossNoted_count (h : g < 2) : (s.lossNoted g).rdf .mod R.MOD.CLKLOSS (16 * g + 15) (16 * g) =
    satAdd 16 (s.rdf .mod R.MOD.CLKLOSS (16 * g + 15) (16 * g)) 1 := by
  have flagged := State.modFlag_rd (s.incf .mod R.MOD.CLKLOSS (16 * g + 15) (16 * g)) 8 (u := R.MOD.CLKLOSS)
    (by decide) (by decide)
  rw [State.rdf_of_rd ((s.lossNoted_rd (by decide)).trans flagged),
    State.rdf_incf_same modClkloss_row (by omega) (modHalf_full h)]
  congr 1
  omega

theorem State.lossNoted_stat (h : g < 2) : (s.lossNoted g).rdb .mod R.MOD.STAT (3 + g) = false ∧
    (s.lossNoted g).groupLocked g = (s.clockDriver && s.groupLocked g) := by
  unfold State.lossNoted
  extract_lets counted noted locking
  have driver : noted.clockDriver = s.clockDriver := by
    unfold State.clockDriver noted counted
    simp
  have clock : noted.rdb .mod R.MOD.STAT (3 + g) = false := (State.modStat_wrb _ _ (by omega)).trans (if_pos rfl)
  have lock : noted.groupLocked g = s.groupLocked g := by
    refine ((State.modStat_wrb _ _ (by omega)).trans (if_neg (by omega))).trans (State.rdb_of_rd ?_)
    exact (State.modFlag_rd _ _ (by decide) (by decide)).trans (State.rd_wr_other _ (place_ne (by decide)))
  cases drives : s.clockDriver with
  | true =>
    rw [if_pos (driver.trans drives)]
    exact ⟨clock, by rw [lock]; rfl⟩
  | false =>
    rw [if_neg (by simp [driver, drives])]
    exact ⟨((State.modStat_wrb noted false (by omega)).trans (if_neg (by omega))).trans clock,
      (State.modStat_wrb noted false (by omega)).trans (if_pos rfl)⟩

/-- What follows a loss that is noted. -/
theorem State.clockLoss_follows (n : Nat) :
    ClocksKept (s.lossNoted g) (s.clockLoss g n).protEval ∧ StatKept (s.lossNoted g) (s.clockLoss g n).protEval := by
  obtain ⟨clocks, stat⟩ := (s.lossNoted g).unsampled_clocks g n
  have rest := (s.clockLoss g n).protEval_within
  rw [State.clockLoss_eq] at rest ⊢
  exact ⟨(clocks.trans (State.invalidateGroup_clocks ..)).trans (.within rest rfl),
    (stat.trans (State.invalidateGroup_stat _ _)).trans (.of_rd (rest.regs .mod (by simp) rfl _ (by decide)))⟩

theorem State.clockLoss_inputs (k : Nat) {n : Nat} (h : n < 12) :
    (modGroup n = g → ((s.clockLoss g k).protEval.modIn n).valid = false ∧
      ((s.clockLoss g k).protEval.rdn .mod R.MOD.INVALID).testBit n = s.modEn n) ∧
    (modGroup n ≠ g → (s.clockLoss g k).protEval.modIn n = s.modIn n) := by
  have rest := (s.clockLoss g k).protEval_within
  have invalid := State.rdn_of_rd (rest.regs .mod (by simp) rfl R.MOD.INVALID (by decide))
  rw [State.modIn_of_mod (rest.mod rfl), invalid, State.clockLoss_eq, State.invalidateGroup_modIn _ _ h]
  refine ⟨fun member => ?_, fun other => ?_⟩
  · rw [if_pos member, State.invalidateGroup_invalid _ _ h member]
    exact ⟨rfl, (((s.lossNoted g).unsampled_clocks g k).1.modEn h).trans (s.lossNoted_modEn h)⟩
  · rw [if_neg other, State.unsampled_modIn _ _ other, State.lossNoted_modIn]

end

/-! ### A stuck run (R119) -/

theorem modStuck_row {n : Nat} (h : n < 12) : FullRow .mod (R.MOD.STUCK n) := by
  interval_cases n <;> exact .of (by decide +kernel)

/-- The run is counted and flagged, and spoils the stage that ended where it began in it. -/
def State.stuckNoted (s : State) (n : Nat) : State :=
  let first := s.mt / 50 - 16 * s.rdf .mod (R.MOD.IN_CFG n) 31 24
  let s := if first ≤ s.stage * 200000 then s.setModIn n { s.modIn n with endOk := false } else s
  (s.inc .mod (R.MOD.STUCK n)).flag .mod 9

theorem State.stuckRun_eq (s : State) (n : Nat) : s.stuckRun n = ((s.stuckNoted n).invalidate n).invalidShow := rfl

section
variable (s : State) {n : Nat}

theorem State.stuckNoted_modIn {m : Nat} (h : m ≠ n) : (s.stuckNoted n).modIn m = s.modIn m := by
  unfold State.stuckNoted
  extract_lets first v spoilt
  have other : spoilt.modIn m = s.modIn m := (s.modIn_ite_setModIn ..).trans (if_neg fun k => h k.1)
  refine (State.modIn_of_mod ?_ m).trans other
  simp

theorem State.stuckNoted_words (h : n < 12) :
    (s.stuckNoted n).rdn .mod (R.MOD.STUCK n) = satAdd 32 (s.rdn .mod (R.MOD.STUCK n)) 1 ∧
      (s.stuckNoted n).rdb .mod R.PAGE.FLAGS 9 = true ∧ (s.stuckNoted n).modEn n = s.modEn n := by
  unfold State.stuckNoted
  extract_lets first v spoilt
  have regs : spoilt.regs = s.regs := (apply_ite State.regs ..).trans (ite_self _)
  have read (o : Nat) : spoilt.rd .mod o = s.rd .mod o := by
    unfold State.rd
    rw [regs]
  have place : R.MOD.STUCK n < 0x1000 ∧ R.MOD.STUCK n ≠ R.PAGE.FLAGS ∧ R.MOD.STUCK n ≠ R.MOD.IN_CFG n := by
    unfold R.MOD.STUCK R.PAGE.FLAGS R.MOD.IN_CFG
    omega
  obtain ⟨small, flags, config⟩ := place
  have word := modInCfg_clockWord h
  refine ⟨?_, State.modFlag_rdb _ (by decide) (by decide), State.rdb_of_rd ?_⟩
  · rw [State.rdn_of_rd (State.modFlag_rd _ _ small flags), (modStuck_row h).rdn_inc, State.rdn_of_rd (read _)]
  · exact ((State.modFlag_rd _ _ word.small (word.ne not_clockWord_flags)).trans
      (State.rd_wr_other _ (place_ne config))).trans (read _)

theorem State.stuckRun_words (h : n < 12) (en : s.modEn n = true) :
    (s.stuckRun n).rdn .mod (R.MOD.STUCK n) = satAdd 32 (s.rdn .mod (R.MOD.STUCK n)) 1 ∧
      (s.stuckRun n).rdb .mod R.PAGE.FLAGS 9 = true ∧ ((s.stuckRun n).rdn .mod R.MOD.INVALID).testBit n = true := by
  obtain ⟨count, flag, enabled⟩ := s.stuckNoted_words h
  have place : R.MOD.STUCK n < 0x1000 ∧ R.MOD.STUCK n ≠ R.MOD.INVALID ∧ R.MOD.STUCK n ≠ R.PAGE.FLAGS := by
    unfold R.MOD.STUCK R.PAGE.FLAGS R.MOD.INVALID
    omega
  obtain ⟨small, invalid, flags⟩ := place
  rw [State.stuckRun_eq]
  refine ⟨(State.rdn_of_rd (State.invalidShow_rd _ small invalid flags)).trans count,
    State.invalidShow_flag (by decide) (by decide) flag, ?_⟩
  have spoilt : (((s.stuckNoted n).invalidate n).modIn n).valid = false :=
    congrArg ModIn.valid (State.modIn_setModIn_same ..)
  have still : ((s.stuckNoted n).invalidate n).modEn n = true := enabled.trans en
  rw [State.invalidShow_shows _ h, State.inputInvalid, spoilt, still]
  simp

theorem State.stuckRun_modIn : ((s.stuckRun n).modIn n).valid = false ∧ ((s.stuckRun n).modIn n).bad = true ∧
    ∀ m, m ≠ n → (s.stuckRun n).modIn m = s.modIn m := by
  have spoilt : (s.stuckRun n).modIn n = ((s.stuckNoted n).modIn n).spoilt := by
    rw [State.stuckRun_eq, State.modIn_of_mod (State.invalidShow_mod _)]
    exact State.modIn_setModIn_same ..
  rw [spoilt]
  refine ⟨rfl, rfl, fun m other => ?_⟩
  rw [State.stuckRun_eq, State.modIn_of_mod (State.invalidShow_mod _)]
  exact (State.modIn_setModIn_other _ _ other).trans (s.stuckNoted_modIn other)

end

/-! ### A change of MCKSEL (R108, R111) -/

theorem not_clockWord_stat : ¬clockWord R.MOD.STAT := by unfold clockWord; decide

theorem modSwitches_row : findRow .mod R.MOD.SWITCHES = some ⟨0xF0C, 4, 1, 0, 0, 0, 0, 0xFFFFFFFF, [0]⟩ := by decide +kernel

theorem State.showDelays_clocks (s : State) : ClocksKept s s.showDelays ∧ StatKept s s.showDelays := by
  have stored (t : State) (g v : Nat) : ClocksKept t (t.wrf .mod R.MOD.STAT (8 * g + 15) (8 * g + 8) v) ∧
      StatKept t (t.wrf .mod R.MOD.STAT (8 * g + 15) (8 * g + 8) v) :=
    ⟨.wr t not_clockWord_stat (by decide) _, fun m l => t.modStat_wrf v l (.inl (by omega))⟩
  unfold State.showDelays
  refine foldl_ind (fun t => ClocksKept s t ∧ StatKept s t) ⟨.refl s, fun _ _ => rfl⟩ fun t g kept => ?_
  obtain ⟨clocks, stat⟩ := kept
  have drawn : ClocksKept t t.draw.2 := .within t.draw_within rfl
  have after (u : State) (v : Nat) (c : ClocksKept s u) (k : StatKept s u) :
      ClocksKept s (u.wrf .mod R.MOD.STAT (8 * g + 15) (8 * g + 8) v) ∧
        StatKept s (u.wrf .mod R.MOD.STAT (8 * g + 15) (8 * g + 8) v) :=
    ⟨c.trans (stored u g v).1, k.trans (stored u g v).2⟩
  dsimp only
  split
  · exact after t.draw.2 _ (clocks.trans drawn) stat
  · exact after t _ clocks stat

/-- The module that drives is the one MCKSEL names (R108). -/
def State.driverNamed (s : State) (toB : Bool) : State :=
  let s := { s with mod := { s.mod with mcksel := toB } }
  s.wrb .mod R.MOD.STAT 0 (s.running .mod && s.clockDriver)

/-- The switch is counted and flagged, and the delays of the new loops are shown. -/
def State.switchNoted (s : State) (toB : Bool) : State :=
  (((s.driverNamed toB).incf .mod R.MOD.SWITCHES 15 0).flag .mod 10)

def State.switchShown (s : State) (toB : Bool) (n0 n1 : Nat) : State :=
  (((s.switchNoted toB).unsampled 0 n0).unsampled 1 n1).showDelays

/-- A driver whose group was not locked starts its count anew. -/
def State.driverStarts (s : State) (g : Nat) : State :=
  if s.groupLocked g || sget false s.mod.locking g then s
  else
    let s := { s with mod := { s.mod with fresh := sset false s.mod.fresh g true } }
    (s.wrb .mod R.MOD.STAT (1 + g) true).invalidateGroup g

section
variable (s : State)

theorem State.driverStarts_clocks (g : Nat) : ClocksKept s (s.driverStarts g) := by
  unfold State.driverStarts
  extract_lets mod fresh
  have starts : ClocksKept s fresh := ⟨rfl, rfl, rfl, rfl, rfl, fun _ _ => rfl, fun _ _ _ h => h⟩
  exact .ite (.refl s) ((starts.trans (.wr fresh not_clockWord_stat (by decide) _)).trans (State.invalidateGroup_clocks ..))

theorem State.driverStarts_stat {g m : Nat} (k : m < 5) : (s.driverStarts g).rdb .mod R.MOD.STAT m =
    if m = 1 + g ∧ sget false s.mod.locking g = false then true else s.rdb .mod R.MOD.STAT m := by
  unfold State.driverStarts
  extract_lets mod fresh
  cases found : sget false s.mod.locking g with
  | true => rw [if_pos (by simp), if_neg (by simp)]
  | false =>
    by_cases locked : s.groupLocked g = true
    · rw [if_pos (by simp [locked])]
      split
      · rename_i here
        rw [here.1]
        exact locked
      · rfl
    · rw [if_neg (by simp [locked]), State.invalidateGroup_stat _ _ m k, State.modStat_wrb _ _ k]
      exact if_congr (by simp) rfl rfl

/-- Both groups of the new driver are locked, but for one whose lock is to be reported at the next tick. -/
theorem State.driverStarts_locks {g : Nat} (h : g < 2) : ((s.driverStarts 0).driverStarts 1).groupLocked g =
    (!sget false s.mod.locking g || s.groupLocked g) := by
  have first {m : Nat} (k : m < 5) := s.driverStarts_stat (g := 0) k
  have second {m : Nat} (k : m < 5) := (s.driverStarts 0).driverStarts_stat (g := 1) k
  have locking := (s.driverStarts_clocks 0).locking
  unfold State.groupLocked
  rw [second (by omega), first (by omega), locking]
  interval_cases g
  · cases sget false s.mod.locking 0 <;> simp
  · cases sget false s.mod.locking 1 <;> simp

theorem State.driverNamed_stat (toB : Bool) {m : Nat} (h : m < 5) : (s.driverNamed toB).rdb .mod R.MOD.STAT m =
    if m = 0 then s.running .mod && decide (toB = s.sys.strapB) else s.rdb .mod R.MOD.STAT m :=
  State.modStat_wrb _ _ h

theorem State.switchNoted_stat (toB : Bool) {m : Nat} (h : m < 5) : (s.switchNoted toB).rdb .mod R.MOD.STAT m =
    if m = 0 then s.running .mod && decide (toB = s.sys.strapB) else s.rdb .mod R.MOD.STAT m := by
  rw [← s.driverNamed_stat toB h]
  exact State.rdb_of_rd ((State.modFlag_rd _ _ (by decide) (by decide)).trans (State.rd_wr_other _ (place_ne (by decide))))

theorem State.switchNoted_count (toB : Bool) : (s.switchNoted toB).rdf .mod R.MOD.SWITCHES 15 0 =
    satAdd 16 (s.rdf .mod R.MOD.SWITCHES 15 0) 1 := by
  have same : (s.driverNamed toB).rdf .mod R.MOD.SWITCHES 15 0 = s.rdf .mod R.MOD.SWITCHES 15 0 :=
    State.rdf_of_rd (State.rd_wr_other _ (place_ne (by decide)))
  refine (State.rdf_of_rd (State.modFlag_rd _ _ (by decide) (by decide))).trans ?_
  rw [State.rdf_incf_same modSwitches_row (by decide) (modHalf_full (g := 0) (by decide)), same]

theorem State.switchNoted_rest (toB : Bool) : (s.switchNoted toB).mode = s.mode ∧
    (s.switchNoted toB).sys.strapB = s.sys.strapB ∧ (s.switchNoted toB).mod = { s.mod with mcksel := toB } := by
  unfold State.switchNoted State.driverNamed State.mode
  simp

theorem State.switchShown_clocks (toB : Bool) (n0 n1 : Nat) : ClocksKept (s.switchNoted toB) (s.switchShown toB n0 n1) ∧
    StatKept (s.switchNoted toB) (s.switchShown toB n0 n1) := by
  obtain ⟨clocks0, stat0⟩ := (s.switchNoted toB).unsampled_clocks 0 n0
  obtain ⟨clocks1, stat1⟩ := ((s.switchNoted toB).unsampled 0 n0).unsampled_clocks 1 n1
  obtain ⟨clocks, stat⟩ := (((s.switchNoted toB).unsampled 0 n0).unsampled 1 n1).showDelays_clocks
  exact ⟨(clocks0.trans clocks1).trans clocks, (stat0.trans stat1).trans stat⟩

/-- What a switch of the clock driver comes to. -/
def State.switched (toB : Bool) (n0 n1 : Nat) : State :=
  if toB = s.sys.strapB then ((s.switchShown toB n0 n1).driverStarts 0).driverStarts 1 else s.switchShown toB n0 n1

theorem State.switched_clocks (toB : Bool) (n0 n1 : Nat) : ClocksKept (s.switchNoted toB) (s.switched toB n0 n1) := by
  have shown := (s.switchShown_clocks toB n0 n1).1
  exact .ite ((shown.trans (State.driverStarts_clocks ..)).trans (State.driverStarts_clocks ..)) shown

theorem State.switched_driver (toB : Bool) (n0 n1 : Nat) : (s.switched toB n0 n1).rdb .mod R.MOD.STAT 0 =
    (s.running .mod && decide (toB = s.sys.strapB)) := by
  have shown : (s.switchShown toB n0 n1).rdb .mod R.MOD.STAT 0 = (s.running .mod && decide (toB = s.sys.strapB)) :=
    ((s.switchShown_clocks toB n0 n1).2 0 (by decide)).trans (s.switchNoted_stat toB (by decide))
  unfold State.switched
  split
  · rw [State.driverStarts_stat _ (by decide), State.driverStarts_stat _ (by decide), ← shown]
    simp
  · exact shown

theorem State.switched_locks (toB : Bool) (n0 n1 : Nat) {g : Nat} (h : g < 2) : (s.switched toB n0 n1).groupLocked g =
    ((decide (toB = s.sys.strapB) && !sget false s.mod.locking g) || s.groupLocked g) := by
  obtain ⟨clocks, stat⟩ := s.switchShown_clocks toB n0 n1
  have lock : (s.switchShown toB n0 n1).groupLocked g = s.groupLocked g :=
    (stat.groupLocked h).trans ((s.switchNoted_stat toB (by omega)).trans (if_neg (by omega)))
  have locking : (s.switchShown toB n0 n1).mod.locking = s.mod.locking := by
    rw [clocks.locking, (s.switchNoted_rest toB).2.2]
  unfold State.switched
  split
  · rename_i drives
    rw [State.driverStarts_locks _ h, lock, locking, decide_eq_true drives, Bool.true_and]
  · rename_i follows
    rw [lock, decide_eq_false follows, Bool.false_and, Bool.false_or]

end

section
variable {s : State} (dt : Nat) (toB : Bool) (n0 n1 : Nat)

theorem State.driverNamed_stopped (h : s.running .mod = false) :
    s.driverNamed toB = ({ s with mod := { s.mod with mcksel := toB } } : State).wrb .mod R.MOD.STAT 0 false := by
  unfold State.driverNamed
  extract_lets mod named
  rw [show named.running .mod = false from h, Bool.false_and]

theorem exec_mckselChange_running (h : s.running .mod = true) :
    exec (.mckselChange dt toB n0 n1) s = .next ((s.elapse dt).switched toB n0 n1) := by
  have run : ((s.elapse dt).driverNamed toB).running .mod = true := (s.elapse_running dt .mod).trans h
  have clocks := ((s.elapse dt).switchShown_clocks toB n0 n1).1
  obtain ⟨-, strap, mod⟩ := (s.elapse dt).switchNoted_rest toB
  have driver : ((s.elapse dt).switchShown toB n0 n1).clockDriver = true ↔ toB = (s.elapse dt).sys.strapB := by
    rw [clocks.clockDriver, State.clockDriver, mod, strap, decide_eq_true_iff]
  rw [exec_mckselChange]
  refine (if_neg (by simpa [State.driverNamed] using run)).trans ?_
  exact (if_congr driver rfl rfl).trans (apply_ite Host.Outcome.next (toB = (s.elapse dt).sys.strapB) _ _).symm

theorem exec_mckselChange_stopped (h : s.running .mod = false) : exec (.mckselChange dt toB n0 n1) s =
    .next (({ s.elapse dt with mod := { s.mod with mcksel := toB } } : State).wrb .mod R.MOD.STAT 0 false) := by
  have run : ((s.elapse dt).driverNamed toB).running .mod = false := (s.elapse_running dt .mod).trans h
  have named := State.driverNamed_stopped toB ((s.elapse_running dt .mod).trans h)
  rw [State.elapse_mod] at named
  rw [← named, exec_mckselChange]
  exact if_pos (by simpa [State.driverNamed] using run)

end

/-! ### Locks reported at a tick boundary (R109) -/

/-- A lock found in the tick that ends is reported. -/
def State.lockShown (s : State) (g : Nat) : State :=
  if sget false s.mod.locking g then s.wrb .mod R.MOD.STAT (1 + g) true else s

theorem State.lockShown_locking (s : State) (g : Nat) : (s.lockShown g).mod.locking = s.mod.locking := by
  unfold State.lockShown
  split
  · rw [State.wrb_mod]
  · rfl

theorem State.lockShown_groupLocked (s : State) {g k : Nat} (h : k < 2) : (s.lockShown g).groupLocked k =
    if k = g ∧ sget false s.mod.locking g = true then true else s.groupLocked k := by
  unfold State.lockShown
  split
  · rename_i found
    refine (State.modStat_wrb s true (by omega)).trans (if_congr ?_ rfl rfl)
    simp [found]
  · rename_i none
    exact (if_neg fun h => none h.2).symm

theorem State.reportLocks_locked {s : State} {g : Nat} (h : g < 2) (found : sget false s.mod.locking g = true) :
    s.reportLocks.groupLocked g = true := by
  show ((s.lockShown 0).lockShown 1).groupLocked g = true
  rw [State.lockShown_groupLocked _ h, State.lockShown_groupLocked _ h, State.lockShown_locking]
  interval_cases g <;> simp [found]

theorem State.inputTick_locking (s : State) (x : TickInputs) (n : Nat) : (s.inputTick x n).mod.locking = s.mod.locking := by
  unfold State.inputTick
  extract_lets v g full fresh locked integ valid taken staged
  have take : taken.mod.locking = s.mod.locking := rfl
  have stage : staged.mod.locking = s.mod.locking := by
    unfold staged
    split <;> exact take
  split
  · exact (congrArg ModSt.locking ((State.wr96_within ..).mod rfl)).trans stage
  · exact stage

/-- What STAT shows of the locks, and the locks that are to be reported, stand. -/
structure LocksKept (s t : State) : Prop where
  stat : t.rd .mod R.MOD.STAT = s.rd .mod R.MOD.STAT
  locking : t.mod.locking = s.mod.locking

namespace LocksKept

variable {r s t : State}

theorem refl (s : State) : LocksKept s s := ⟨rfl, rfl⟩

theorem trans (h : LocksKept r s) (k : LocksKept s t) : LocksKept r t := ⟨k.stat.trans h.stat, k.locking.trans h.locking⟩

theorem foldl {α : Type} {f : State → α → State} {l : List α} (k : ∀ t a, LocksKept t (f t a)) :
    LocksKept s (l.foldl f s) := foldl_ind (LocksKept s) (.refl s) fun t a h => h.trans (k t a)

theorem within {K : Nat} (h : Within K [] s t) (k : K.testBit 13 = false) (l : K.testBit 62 = false) : LocksKept s t :=
  ⟨h.regs .mod (by simp) l _ (by decide), congrArg ModSt.locking (h.mod k)⟩

theorem groupLocked (h : LocksKept s t) (g : Nat) : t.groupLocked g = s.groupLocked g := State.rdb_of_rd h.stat

end LocksKept

theorem State.inputTick_locks (s : State) (x : TickInputs) (n : Nat) : LocksKept s (s.inputTick x n) :=
  ⟨(State.inputTick_within ..).regs .mod (by simp) rfl _ (by decide), s.inputTick_locking x n⟩

theorem State.unsampStage_locks (s : State) : LocksKept s s.unsampStage := by
  unfold State.unsampStage
  split <;> exact ⟨rfl, rfl⟩

theorem State.invalidShow_locks (s : State) : LocksKept s s.invalidShow :=
  ⟨State.invalidShow_rd _ (by decide) (by decide) (by decide), congrArg ModSt.locking (State.invalidShow_mod _)⟩

/-- The clock of a group that delivered a whole tick is shown. -/
def State.clockShown (s : State) (c : Bool) (n : Nat) : State := if c then s.wrb .mod R.MOD.STAT n true else s

theorem State.clockShown_locks (s : State) (c : Bool) {n g : Nat} (apart : 3 ≤ n) (h : g < 2) :
    (s.clockShown c n).groupLocked g = s.groupLocked g ∧ (s.clockShown c n).mod.locking = s.mod.locking := by
  unfold State.clockShown
  split
  · exact ⟨(State.modStat_wrb s true (by omega)).trans (if_neg (by omega)), congrArg ModSt.locking (s.wrb_mod ..)⟩
  · exact ⟨rfl, rfl⟩

/-- The end of the front end's tick: the clocks, the tick of the latches, and the inputs that are invalid. -/
def State.tickShown (s : State) (clock0 clock1 : Bool) : State :=
  let s := (s.clockShown clock0 3).clockShown clock1 4
  (s.wr64 .chg R.CHG.LTICK_LO R.CHG.LTICK_HI s.tick).invalidShow

theorem State.tickShown_locks (s : State) (clock0 clock1 : Bool) {g : Nat} (h : g < 2) :
    (s.tickShown clock0 clock1).groupLocked g = s.groupLocked g ∧ (s.tickShown clock0 clock1).mod.locking = s.mod.locking := by
  obtain ⟨lock0, locking0⟩ := s.clockShown_locks clock0 (n := 3) (by decide) h
  obtain ⟨lock1, locking1⟩ := (s.clockShown clock0 3).clockShown_locks clock1 (n := 4) (by decide) h
  unfold State.tickShown
  extract_lets shown
  have stored : LocksKept shown (shown.wr64 .chg R.CHG.LTICK_LO R.CHG.LTICK_HI shown.tick) :=
    LocksKept.within (K := 0x8000000000000000) ((State.wr64_within ..).kind rfl .chg rfl rfl) rfl rfl
  have last := stored.trans (State.invalidShow_locks _)
  exact ⟨(last.groupLocked g).trans (lock1.trans lock0), (last.locking).trans (locking1.trans locking0)⟩

/-- The inputs take the tick's bits, and a stage that ends its unsampled bits. -/
def State.inputsTick (s : State) (x : TickInputs) : State :=
  let s := (List.range 12).foldl (fun s n => s.inputTick x n) s
  { s.unsampStage with mod := { s.unsampStage.mod with fresh := [] } }

theorem State.inputsTick_locks (s : State) (x : TickInputs) : LocksKept s (s.inputsTick x) := by
  unfold State.inputsTick
  extract_lets ticked mod
  have ticks : LocksKept s ticked := .foldl fun t n => t.inputTick_locks x n
  have stages := ticks.trans ticked.unsampStage_locks
  exact ⟨stages.stat, stages.locking⟩

theorem State.modTick_running {s : State} (x : TickInputs) (h : s.running .mod = true) :
    ∃ clock0 clock1, s.modTick x = (s.reportLocks.inputsTick x).tickShown clock0 clock1 :=
  ⟨_, _, if_neg (by simp [h])⟩

/-- A running front end reports each lock found, and no lock is left to report. -/
theorem State.modTick_locks {s : State} (x : TickInputs) {g : Nat} (run : s.running .mod = true) (h : g < 2)
    (found : sget false s.mod.locking g = true) :
    (s.modTick x).groupLocked g = true ∧ (s.modTick x).mod.locking = [] := by
  obtain ⟨clock0, clock1, ticked⟩ := State.modTick_running x run
  obtain ⟨lock, locking⟩ := (s.reportLocks.inputsTick x).tickShown_locks clock0 clock1 h
  have inputs := s.reportLocks.inputsTick_locks x
  rw [ticked, lock, locking, inputs.groupLocked, inputs.locking]
  exact ⟨State.reportLocks_locked h found, rfl⟩

/-- What the start of a tick does after the front end leaves the front end. -/
theorem State.tickStarts_locks (s : State) (x : TickInputs) :
    ∃ a, Within 0x16b21a08101fa5e0028d [] s a ∧ LocksKept (a.modTick x) (s.tickStarts x) := by
  unfold State.tickStarts
  extract_lets a b c d e f g
  have pins : Within 0x16b21a08101fa5e0028d [] s a :=
    ((State.peerPins_within ..).mono rfl).trans ((State.connExpiry_within ..).mono rfl)
  have locks : LocksKept b c := (LocksKept.within (State.lockSend_within ..) rfl rfl).trans
    (LocksKept.within (State.lockSend_within ..) rfl rfl)
  have safety : LocksKept c d := .within (State.safeTick_within ..) rfl rfl
  have demands : LocksKept d e := (LocksKept.within (State.balTick_within ..) rfl rfl).trans
    (LocksKept.within (State.demandsTick_within ..) rfl rfl)
  have dispatch : LocksKept e f := (LocksKept.within (State.clampTick_within ..) rfl rfl).trans
    (LocksKept.within (State.dispatchNow_within ..) rfl rfl)
  have rings : LocksKept f (snsRings.foldl State.ringTick f) :=
    .foldl fun t n => .within (State.ringTick_within ..) rfl rfl
  have coached : LocksKept f g := rings.trans (LocksKept.within (State.chipBoundary_within ..) rfl rfl)
  have ready : LocksKept g g.protEval.tryReady := (LocksKept.within (State.protEval_within ..) rfl rfl).trans
    (LocksKept.within (State.tryReady_within ..) rfl rfl)
  exact ⟨a, pins, ((((locks.trans safety).trans demands).trans dispatch).trans coached).trans ready⟩

theorem tickBoundary_locks (x : TickInputs) {s : State} {g : Nat} (serves : s.mode.serves = true)
    (run : s.running .mod = true) (h : g < 2) (found : sget false s.mod.locking g = true) :
    ∃ t, exec (.tickBoundary x) s = .next t ∧ t.groupLocked g = true ∧ t.mod.locking = [] := by
  obtain ⟨a, pins, kept⟩ := s.tickEnds.tickOver.tickStarts_locks x
  have before : Within 0x16b33a08101fade99e8f [] s a :=
    (((State.tickEnds_within s).mono rfl).trans ((State.atMt_within ..).mono rfl)).trans (pins.mono rfl)
  obtain ⟨locked, none⟩ := State.modTick_locks (s := a) x ((before.running_same rfl .mod).trans run) h (by
    rw [before.mod rfl]
    exact found)
  exact ⟨_, exec_tickBoundary_serving x serves, (kept.groupLocked g).trans locked, kept.locking.trans none⟩

/-! ### An INDEX_LOCK of the driver (R109) -/

/-- The integrators that take the driver's latches, and what each takes. -/
theorem State.takeLatches_eq (s : State) (g : Nat) (b : List Byte) : s.takeLatches g b =
    s.eachModIn (fun n => modGroup n = g ∧ (modIntegrator n).isSome = true)
      (fun n v => { v with integ := lockLatch b (if g = 0 then (modIntegrator n).getD 0 else (modIntegrator n).getD 0 - 2) })
      (List.range 12) := by
  unfold State.takeLatches State.eachModIn
  refine congrArg (fun f => List.foldl f s (List.range 12)) (funext fun t => funext fun n => ?_)
  cases integrates : modIntegrator n with
  | none => exact (if_neg (by simp [integrates])).symm
  | some i =>
    by_cases member : modGroup n = g
    · refine (if_pos member).trans (Eq.trans ?_ (if_pos ⟨member, by rw [integrates]; rfl⟩).symm)
      dsimp only
      rw [integrates]
      rfl
    · exact (if_neg member).trans (if_neg fun h => member h.1).symm

theorem State.takeLatches_integ (s : State) (g : Nat) (b : List Byte) {n i : Nat} (h : n < 12)
    (integrates : modIntegrator n = some i) :
    ((s.takeLatches g b).modIn n).integ =
      if modGroup n = g then lockLatch b (if g = 0 then i else i - 2) else (s.modIn n).integ := by
  rw [State.takeLatches_eq, State.eachModIn_modIn _ _ _ List.nodup_range, integrates, apply_ite ModIn.integ]
  exact if_congr (by simp [h]) rfl rfl

theorem State.takeLatches_rest (s : State) (g : Nat) (b : List Byte) :
    ∃ ins, s.takeLatches g b = { s with mod := { s.mod with ins := ins } } := by
  rw [State.takeLatches_eq]
  exact s.eachModIn_rest ..

section
variable {s x : State} {dt g : Nat} {f : TandemHead} {b : List Byte} {own : BitVec 68}
  (taken : (s.elapse dt).takeFrame 0x08 f b = (true, x)) (group : g = byteAt b 0) (two : g < 2)
  (run : s.running .mod = true) (follows : s.clockDriver = false) (open_ : s.groupLocked g = false)
  (new : sget false s.mod.locking g = false) (tick : leAt b 4 8 = s.tick)

/-- What of the front end an accepted frame leaves. -/
theorem State.takeFrame_frontEnd (taken : (s.elapse dt).takeFrame 0x08 f b = (true, x)) : x.mod = s.mod ∧ x.regs = s.regs ∧
    x.running .mod = s.running .mod ∧ x.clockDriver = s.clockDriver ∧ x.tick = s.tick := by
  obtain ⟨links, hi, seen, rfl⟩ := State.takeFrame_accepted taken
  exact ⟨s.elapse_mod dt, s.elapse_regs dt, s.elapse_running dt .mod, s.elapse_clockDriver dt, s.elapse_tick dt⟩

/-- A series of LOCK_TRIES failures is over: it is counted and flagged. -/
def State.seriesFails (s : State) (g : Nat) : State :=
  (({ s with mod := { s.mod with tries := sset 0 s.mod.tries g 0 } } : State).incf .mod R.MOD.SWITCHES 31 16).flag .mod 11

/-- An attempt fails, and the series goes on. -/
def State.attemptFails (s : State) (g : Nat) : State :=
  { s with mod := { s.mod with tries := sset 0 s.mod.tries g (sget 0 s.mod.tries g + 1) } }

/-- No lock is found. -/
def State.lockFails (s : State) (g : Nat) : State :=
  if s.rdf .mod R.MOD.CFG 7 0 ≤ sget 0 s.mod.tries g + 1 then s.seriesFails g else s.attemptFails g

/-- The lock is found: the group takes the latches, and is to be reported at the next tick. -/
def State.lockFound (s : State) (g : Nat) (b : List Byte) : State :=
  let s := s.takeLatches g b
  { s with mod := { s.mod with tries := sset 0 s.mod.tries g 0, locking := sset false s.mod.locking g true } }

include taken group two run follows open_ new tick

theorem exec_indexLock_open : exec (.indexLock dt f b own) s =
    .next (if (lockOffsets (leAt b 0x0C 8) own.toNat).length = 1 then x.lockFound g b else x.lockFails g) := by
  obtain ⟨mod, regs, running, driver, now⟩ := State.takeFrame_frontEnd taken
  have unlocked : x.groupLocked g = false := by
    unfold State.groupLocked State.rdb State.rd at open_ ⊢
    rw [regs, open_]
  subst group
  rw [exec_indexLock]
  unfold execIndexLock
  rw [taken]
  refine (if_neg (by simp [two, running, run, driver, follows, unlocked, mod, new, tick, now])).trans ?_
  have fails {l : List Nat} (several : l.length ≠ 1) :
      (if x.rdf .mod R.MOD.CFG 7 0 ≤ sget 0 x.mod.tries (byteAt b 0) + 1 then
        Host.Outcome.next (φ := Fault) (ρ := Refusal) (x.seriesFails (byteAt b 0)) else .next (x.attemptFails (byteAt b 0))) =
      .next (if l.length = 1 then x.lockFound (byteAt b 0) b else x.lockFails (byteAt b 0)) := by
    rw [if_neg several]
    exact (apply_ite Host.Outcome.next ..).symm
  match lockOffsets (leAt b 0x0C 8) own.toNat with
  | [o] => exact congrArg Host.Outcome.next (if_pos rfl).symm
  | [] => exact fails (by simp)
  | o :: p :: l => exact fails (by simp)

end

theorem State.groupLocked_of_regs {s t : State} (h : t.regs = s.regs) (g : Nat) : t.groupLocked g = s.groupLocked g := by
  unfold State.groupLocked State.rdb State.rd
  rw [h]

section
variable (s : State) (g : Nat)

theorem State.lockFound_keeps (b : List Byte) : (s.lockFound g b).regs = s.regs ∧
    sget false (s.lockFound g b).mod.locking g = true ∧ sget 0 (s.lockFound g b).mod.tries g = 0 := by
  obtain ⟨ins, latched⟩ := s.takeLatches_rest g b
  unfold State.lockFound
  rw [latched]
  exact ⟨rfl, sget_sset_same false s.mod.locking g true, sget_sset_same 0 s.mod.tries g 0⟩

theorem State.attemptFails_tries : sget 0 (s.attemptFails g).mod.tries g = sget 0 s.mod.tries g + 1 :=
  sget_sset_same 0 s.mod.tries g (sget 0 s.mod.tries g + 1)

theorem State.seriesFails_shows : sget 0 (s.seriesFails g).mod.tries g = 0 ∧
    (s.seriesFails g).rdb .mod R.PAGE.FLAGS 11 = true ∧
    (s.seriesFails g).rdf .mod R.MOD.SWITCHES 31 16 = satAdd 16 (s.rdf .mod R.MOD.SWITCHES 31 16) 1 ∧
    (s.seriesFails g).groupLocked g = s.groupLocked g := by
  unfold State.seriesFails
  refine ⟨?_, State.modFlag_rdb _ (by decide) (by decide), ?_, ?_⟩
  · rw [State.flag_mod, State.incf_mod]
    exact sget_sset_same 0 s.mod.tries g 0
  · rw [State.rdf_of_rd (State.modFlag_rd _ _ (by decide) (by decide)),
      State.rdf_incf_same modSwitches_row (by decide) (modHalf_full (g := 1) (by decide))]
    rfl
  · exact State.rdb_of_rd ((State.modFlag_rd _ _ (by decide) (by decide)).trans (State.rd_wr_other _ (place_ne (by decide))))

end

end Sys2Proof.Machine
end


section
/-! SETTLEMENT. Modulator clocks, stuck inputs and the index lock (R108, R109, R111, R119). -/

open Sys2Proof Sys2Proof.Machine

/-- Settles O38: a switch, a lost clock and a stuck run by what is noted first, which nothing that follows touches; the
index lock by the offsets that match. -/
theorem clocksAndLocksComplete : Obligations.ClocksAndLocksComplete := by
  refine ⟨⟨?_, ?_, ?_, ?_, ?_, ?_⟩, ?_, ?_⟩
  · exact fun dt toB n0 n1 s h => exec_mckselChange_stopped dt toB n0 n1 h
  · intro dt toB n0 n1 s run
    have kept := (s.elapse dt).switched_clocks toB n0 n1
    obtain ⟨mode, -, mod⟩ := (s.elapse dt).switchNoted_rest toB
    refine ⟨_, exec_mckselChange_running dt toB n0 n1 run, ?_, ?_, ?_, ?_, ?_, fun g two => ?_⟩
    · rw [kept.mcksel, mod]
    · rw [State.switched_driver, State.elapse_running, run, State.elapse_sys_strapB, Bool.true_and]
    · exact kept.flag 10 (by decide) (by decide) (State.modFlag_rdb _ (by decide) (by decide))
    · rw [State.rdf_of_rd (kept.word R.MOD.SWITCHES (.inr (.inr rfl))), State.switchNoted_count, State.elapse_rdf]
    · rw [kept.mode, mode, State.elapse_mode]
    · rw [State.switched_locks _ _ _ _ two, State.elapse_sys_strapB, State.elapse_mod, State.elapse_groupLocked]
  · intro dt g n s run
    obtain ⟨clocks, stat⟩ := (s.elapse dt).clockLoss_follows (g := g.val) n
    obtain ⟨clock, lock⟩ := (s.elapse dt).lossNoted_stat g.isLt
    have done : exec (.clockLoss dt g n) s = .next ((s.elapse dt).clockLoss g.val n).protEval :=
      (exec_clockLoss ..).trans (if_pos ((s.elapse_running dt .mod).trans run))
    refine ⟨_, done, ?_, ?_, ?_, ?_, ?_, fun m small => ?_⟩
    · rw [clocks.mode, (State.lossNoted_within _).mode_same rfl, State.elapse_mode]
    · exact clocks.flag 8 (by decide) (by decide) (State.lossNoted_flag _)
    · exact (stat _ (by omega)).trans clock
    · rw [stat.groupLocked g.isLt, lock, State.elapse_clockDriver, State.elapse_groupLocked]
    · rw [State.rdf_of_rd (clocks.word R.MOD.CLKLOSS (.inr (.inl rfl))), State.lossNoted_count _ g.isLt, State.elapse_rdf]
    · have inputs := (s.elapse dt).clockLoss_inputs (g := g.val) n small
      rwa [State.elapse_modEn, State.elapse_modIn] at inputs
  · intro dt g n s stopped
    exact (exec_clockLoss ..).trans (if_neg (by simp [stopped]))
  · intro dt n s run en
    have done : exec (.stuckRun dt n) s = .next ((s.elapse dt).stuckRun n.val).protEval :=
      (exec_stuckRun ..).trans (if_pos (by simp [run, en]))
    have rest := ((s.elapse dt).stuckRun n.val).protEval_within
    have read {o : Nat} (h : o < 0x1000) := rest.regs .mod (by simp) rfl o h
    have ins := State.modIn_of_mod (rest.mod rfl)
    obtain ⟨count, flag, invalid⟩ := (s.elapse dt).stuckRun_words n.isLt ((s.elapse_modEn dt n.val).trans en)
    obtain ⟨spoilt, bad, others⟩ := (s.elapse dt).stuckRun_modIn (n := n.val)
    refine ⟨_, done, ?_, ?_, ?_, ?_, ?_, fun m other => ?_, ?_⟩
    · rw [State.rdn_of_rd (read (by unfold R.MOD.STUCK; omega)), count, State.elapse_rdn]
    · rw [State.rdb_of_rd (read (by decide)), flag]
    · rw [ins, spoilt]
    · rw [ins, bad]
    · rw [State.rdn_of_rd (read (by decide)), invalid]
    · rw [ins, others m other, State.elapse_modIn]
    · rw [rest.mode_same rfl, (State.stuckRun_within ..).mode_same rfl, State.elapse_mode]
  · intro dt n s h
    exact (exec_stuckRun ..).trans (if_neg (by rcases h with h | h <;> simp [h]))
  · intro x s g serves run two found
    exact tickBoundary_locks x serves run two found
  · rintro dt f b own s x g ls taken group two run follows unlocked new tick rfl
    have done := exec_indexLock_open (own := own) taken group two run follows unlocked new tick
    obtain ⟨mod, regs, -⟩ := State.takeFrame_frontEnd taken
    have lock := State.groupLocked_of_regs regs g
    have tries : x.rdf .mod R.MOD.CFG 7 0 = s.rdf .mod R.MOD.CFG 7 0 := by
      unfold State.rdf State.rd
      rw [regs]
    refine ⟨fun one => ?_, fun several more => ?_, fun several last => ?_⟩
    · rw [if_pos one] at done
      obtain ⟨same, locking, none⟩ := x.lockFound_keeps g b
      refine ⟨_, done, ?_, locking, none, fun n small i integrates => ?_⟩
      · rw [State.groupLocked_of_regs same, lock, unlocked]
      · exact (x.takeLatches_integ g b small integrates).trans (by rw [State.modIn_of_mod mod])
    · rw [if_neg several, State.lockFails, if_neg (by rw [tries, mod]; omega)] at done
      exact ⟨_, done, (x.attemptFails_tries g).trans (by rw [mod]), regs, (congrArg ModSt.ins mod :)⟩
    · rw [if_neg several, State.lockFails, if_pos (by rwa [tries, mod])] at done
      obtain ⟨none, flag, count, kept⟩ := x.seriesFails_shows g
      refine ⟨_, done, none, flag, count.trans ?_, kept.trans (lock.trans unlocked)⟩
      unfold State.rdf State.rd
      rw [regs]

end
